-- ==== Sys2Proof/Word.lean ====
section
/-!
DEFINITION. The word of a register access: BAR0 accesses are single aligned 32-bit words (R269).
-/

namespace Sys2Proof

/-- A 32-bit register word (R269). -/
abbrev Word := BitVec 32

end Sys2Proof
end

