-- ==== Sys2Proof/Syntax.lean ====
section
/-!
DEFINITION. The commands the block takes: one constructor per row of spec/opcode_table.json, with its operands.
Times are readings of RC in ns (R245), unless an operand says otherwise. What an operand says of the world (a measurement, the
content of a frame, the outcome of a cryptographic check) is the environment's.
-/

namespace Sys2Proof

/-- What a fault source reports with its occurrence (R412): codes as FLT_FIRST gives them (R417). -/
structure FaultAt where
  addr : Nat := 0
  space : Nat := 0
  master : Nat := 0
  access : Nat := 0
  detail : Nat := 0
deriving DecidableEq, Repr

/-- Who makes a register access (R94, R246): 0 the host over PCIe, 1 to 8 policy cores PC0 to PC7, 9 JTAG. -/
abbrev Requester := Fin 10

/-- A MAC address field of a frame: absent, short, or an EUI-64. -/
inductive Addr where
  | none
  | short (a : Nat)
  | ext (eui : Nat)
deriving DecidableEq, Repr

/-- Frame types of IEEE 802.15.4 that the MAC tells apart. -/
inductive FrameKind where
  | data | command | ack | beacon
deriving DecidableEq, Repr

/-- A Vendor Specific header IE (R313): its OUI, its length, its first octet behind the OUI, and, as a progress report has them, IMG_ID, STATUS
and SYM. -/
structure Progress where
  oui : Nat := 0
  len : Nat := 9
  typ : Nat := 0x50
  img : Nat
  status : Nat
  sym : Nat
deriving DecidableEq, Repr

/-- The MAC content of a received frame (R110, R152, R160). -/
structure MacHdr where
  kind : FrameKind := .data
  /-- Destination PAN ID. -/
  pan : Nat := 0
  dst : Addr := .none
  src : Addr := .none
  /-- Sequence number; none when suppressed. -/
  dsn : Option Nat := none
  ackReq : Bool := false
  /-- Security: enabled, level, key identifier mode, KT, GEN, frame counter (none when suppressed). -/
  sec : Bool := false
  level : Nat := 0
  kidMode : Nat := 0
  kt : Nat := 0
  gen : Nat := 0
  fc : Option Nat := none
  /-- An unsecured join request (R119). -/
  join : Bool := false
  /-- Carries a 6LoWPAN payload; a 6P IE; a 6P SIGNAL (R140). -/
  lowpan : Bool := false
  p6 : Bool := false
  signal : Bool := false
  progress : Option Progress := none
deriving DecidableEq, Repr

/-- An IPv6 address as its /64 prefix and its interface identifier. -/
structure Ip where
  pfx : Nat := 0
  iid : Nat := 0
deriving DecidableEq, Repr

/-- A non-storing DAO (R201): its first Transit parent, Path Lifetime 0, its Target addresses. -/
structure Dao where
  parent : Option Ip := none
  life0 : Bool := false
  targets : List Ip := []
deriving DecidableEq, Repr

/-- A fragment header (R206): datagram_size, datagram_tag, the octets of the datagram it covers, and those octets. -/
structure Frag where
  size : Nat
  tag : Nat
  first : Nat
  len : Nat
  data : List (Fin 256) := []
deriving DecidableEq, Repr

/-- An IPv6 extension header: its RFC 6282 EID, its octets, the octets of padding at its end; `kind` 1 carries an RPI, 2 is an SRH. -/
structure ExtHdr where
  eid : Fin 4 := 0
  len : Nat := 8
  pad : Nat := 0
  kind : Nat := 0
deriving DecidableEq, Repr

/-- An IPv6 header with its extension headers. -/
structure V6 where
  src : Ip := {}
  dst : Ip := {}
  dscp : Nat := 0
  ecn : Nat := 0
  flow : Nat := 0
  hop : Nat := 64
  ext : List ExtHdr := []
deriving DecidableEq, Repr

/-- An IPv6 packet: its header, the headers inside it where it is IP-in-IP, its UDP ports, its octets in all (R198), and those behind its
headers. -/
structure DownContent where
  head : V6 := {}
  inner : List V6 := []
  udp : Option (Nat × Nat) := none
  len : Nat := 40
  body : List (Fin 256) := []
deriving DecidableEq, Repr

/-- An address as an input form gives it (R199): whole, or an IID under a context. -/
inductive LowAddr where
  | full (a : Ip)
  | ctx (c : Fin 16) (iid : Nat)
deriving DecidableEq, Repr

/-- An input form of R199: uncompressed IPv6; IPHC with the contexts of its source and destination, and multicast with DAC 1; NHC of UDP,
or of an extension header with EID `eid`; an RPI in either form (RFC 6553, RPI-6LoRH) with its RPLInstanceID; SRH-6LoRH of a type, IP-in-IP 6LoRH; mesh, broadcast, RFC 8930 or 8931 fragments,
another 6LoRH type, another dispatch. -/
inductive LowForm where
  | ipv6
  | iphc (src dst : Option (Fin 16)) (mcastDac : Bool)
  | udp
  | ext (eid : Fin 8)
  | rpi (inst : Nat)
  | srh (typ : Nat)
  | ipInIp
  | mesh
  | bcast
  | rfrag
  | lorh (typ : Nat)
  | otherDispatch
deriving DecidableEq, Repr

/-- An uplink IPv6 packet as decompression finds it: its addresses, the packet, ICMPv6 type 155, and the DAO it carries. -/
structure UpPkt where
  src : LowAddr := .full {}
  dst : LowAddr := .full {}
  pkt : DownContent := {}
  rpl : Bool := false
  dao : Option Dao := none
deriving DecidableEq, Repr

/-- What decompression finds in an uplink payload (R197 to R206). For a fragment, the packet is the datagram that its last fragment
completes. -/
structure UpContent where
  frag : Option Frag := none
  /-- The forms of its headers (R199). -/
  forms : List LowForm := []
  pkt : UpPkt := {}
  /-- The packets inside an IP-in-IP packet, outermost first. -/
  inner : List UpPkt := []
deriving DecidableEq, Repr

/-- What the accesses of a command to the forwarding table meet, in order: for each lookup how many of its passes saw a version change,
and whether the second of two then missed (R185); for each write whether a LOCK was found set (R190); for each displacement whether its
try-lock failed (R187). An access beyond a list meets nothing. -/
structure TableMeets where
  races : List (Fin 3 × Bool) := []
  waits : List Bool := []
  tries : List Bool := []
deriving DecidableEq, Repr

/-- The four registers of a channel plan whose writes are clamped together (R70). -/
inductive PlanReg where
  | fe | f0 | geo | phy
deriving DecidableEq, Repr

/-- The 160-octet manifest of R303; DIGEST and SIG as 16 words each. -/
structure Manifest where
  magic : Nat := 0
  fmt : Nat := 0
  kind : Nat := 0
  imgVer : Nat := 0
  minVer : Nat := 0
  length : Nat := 0
  hwId : Nat := 0
  keyId : Nat := 0
  digest : List Nat := []
  sig : List Nat := []
deriving DecidableEq, Repr

/-- The start block of R315 and the manifest behind it. -/
structure CampBlock where
  addr : Nat := 0
  len : Nat := 0
  ward : Fin 8 := 0
  loc : Bool := false
  fill : Bool := false
  imgId : Nat := 0
  t : Nat := 0
  ws : Nat := 0
  ovh : Nat := 0
  rounds : Nat := 0
  turn : Nat := 0
  annEvery : Nat := 0
  maxRate : Nat := 0
  man : Manifest := {}
deriving DecidableEq, Repr

/-- The Ward meter registers of R230. -/
inductive MeterReg where
  | wpolRate | wpolBurst | wds
deriving DecidableEq, Repr

/-- The template registers of R96. -/
inductive TtReg where
  | tx | guard | ack | rxack | cca | opt | pix
deriving DecidableEq, Repr

/-- A cell record as a schedule command gives it (R125, NEXT ignored). -/
structure CellSpec where
  chofs : Nat := 0
  nix : Nat := 0
  span : Nat := 0
  tt : Nat := 0
  fe : Nat := 0
  typ : Nat := 1
  lock : Bool := false
  tc : Nat := 0
deriving DecidableEq, Repr

/-- The eight words of a slot as the host has left them (R281, R284, R288). -/
structure Desc where
  w0 : Word := 0
  w1 : Word := 0
  w2 : Word := 0
  w3 : Word := 0
  w4 : Word := 0
  w5 : Word := 0
  w6 : Word := 0
  w7 : Word := 0
deriving DecidableEq, Repr

/-- TAG of a command descriptor, and the address and DATA_LEN of its data buffer (R288). -/
structure CmdHead where
  tag : Nat := 0
  addr : Nat := 0
  len : Nat := 0
deriving DecidableEq, Repr

/-- A schedule command's ring, tag, data buffer, HOLD, ANNOUNCE and BASE_GEN (R288). -/
structure SchedCmd where
  ring : Fin 8
  tag : Nat := 0
  addr : Nat := 0
  len : Nat := 0
  hold : Bool := false
  announce : Bool := false
  baseGen : Nat := 0
deriving DecidableEq, Repr

/-- A 6P request of a node (R140): codes are RFC 8480's: 1 ADD, 2 DELETE, 3 RELOCATE, 4 COUNT, 5 LIST, 6 SIGNAL, 7 CLEAR. -/
structure P6Req where
  code : Nat
  version : Nat := 0
  sfid : Nat := 0
  seq : Nat := 0
  /-- Cell options from the node's side: TX, RX, SHARED. -/
  tx : Bool := false
  rx : Bool := false
  shared : Bool := false
  /-- Metadata: slotframe, SPAN_HOLD, other bits. -/
  sf : Nat := 0
  spanHold : Bool := false
  other : Bool := false
  numCells : Nat := 0
  /-- Slot offset and channel offset of each listed cell; for RELOCATE those to move, and the candidates. -/
  cells : List (Nat × Nat) := []
  candidates : List (Nat × Nat) := []
  /-- LIST: offset and how many at most. -/
  first : Nat := 0
deriving DecidableEq, Repr

/-- The node states of R33. -/
inductive NodeState where
  | free | joining | joined | quiet | evict
deriving DecidableEq, Repr

/-- The node record of R28 and R30, every field under its own name, and the fence of R27. -/
structure Node where
  eui : Nat := 0
  short : Nat := 0
  ward : Nat := 0
  state : NodeState := .free
  isStatic : Bool := false
  pinned : Bool := false
  sleepy : Bool := false
  oogSeen : Bool := false
  updActive : Bool := false
  moveCand : Bool := false
  parentNix : Nat := 0
  parentRoot : Bool := false
  keyIx : Nat := 0
  kgen : Nat := 0
  txFc : Nat := 0
  txFcCeil : Nat := 0
  rxFc : Nat := 0
  rxDsn : Nat := 0
  rxKgen : Nat := 0
  dupCnt : Nat := 0
  lastAsn : Nat := 0
  drift : Int := 0
  rssiAvg : Int := 0
  lqiAvg : Nat := 0
  pdr : Nat := 0
  txAtt : Nat := 0
  txOk : Nat := 0
  rxOk : Nat := 0
  rxOog : Nat := 0
  hops : Nat := 0
  pathIx : Nat := 0
  pathGen : Nat := 0
  qHead : Nat := 0
  qTail : Nat := 0
  qFrames : Nat := 0
  qCurds : Nat := 0
  polTokens : Nat := 0
  rateIx : Nat := 0
  burstIx : Nat := 0
  shpTokens : Nat := 0
  nextElig : Nat := 0
  cellPtr : Nat := 0
  cellCnt : Nat := 0
  tcUp : Nat := 0
  tcDown : Nat := 0
  imgId : Nat := 0
  symCnt : Nat := 0
  brBucket : Nat := 0
  brWay : Nat := 0
  brInVat : Bool := false
  brShadow : Bool := false
  noFwt : Bool := false
  brValid : Bool := false
  age : Nat := 0
  fenced : Bool := false
deriving DecidableEq, Repr

/-- The cell record of R125 (TYPE 0 is FREE). -/
structure Cell where
  chofs : Nat := 0
  nix : Nat := 0
  next : Nat := 0
  span : Nat := 0
  tt : Nat := 0
  fe : Nat := 0
  typ : Nat := 0
  lock : Bool := false
  tc : Nat := 0
deriving DecidableEq, Repr

/-- A transmit descriptor (R281); `kind` 0 MESH, 1 BCAST, 2 ETH. -/
structure TxDesc where
  addr : Nat := 0
  len : Nat := 0
  bufsize : Nat := 0
  kind : Fin 4 := 0
  ward : Fin 8 := 0
  cls : Fin 8 := 0
  clsEn : Bool := false
  port : Fin 2 := 0
  tsReq : Bool := false
  onestep : Bool := false
  cookie : Nat := 0
deriving DecidableEq, Repr

/-- A PTP message in a frame to send (R250 to R253). -/
structure PtpOut where
  mtype : Nat := 0
  domain : Nat := 0
  /-- sourcePortIdentity, sequenceId, the two-step flag. -/
  clock : Nat := 0
  port : Nat := 0
  seq : Nat := 0
  twoStep : Bool := false
  /-- correctionField, 2^−16 ns, and the timestamp it carries, ns. -/
  corr : Int := 0
  origin : Int := 0
  /-- requestingPortIdentity of a Delay_Resp. -/
  reqClock : Nat := 0
  reqPort : Nat := 0
  /-- Transport: 0 IEEE 802.3, 4 UDP over IPv4, 6 UDP over IPv6; with the checksum trailer of R251. -/
  udp : Nat := 0
  trailer : Bool := false
  /-- A change in flight has set its UDP checksum to 0, or adjusted its trailer (R251). -/
  chk0 : Bool := false
  adjusted : Bool := false
deriving DecidableEq, Repr

/-- What an Ethernet frame to send says of itself: its destination (0 unicast, 1 multicast, 2 broadcast), its VLAN tag, the PTP message it
carries. -/
structure EthMeta where
  cast : Fin 3 := 0
  vlan : Option Nat := none
  ptp : Option PtpOut := none
deriving DecidableEq, Repr

/-- The block of NODE_ADD (R292). -/
structure NodeBlock where
  eui : Nat := 0
  short : Nat := 0
  ward : Fin 8 := 0
  isStatic : Bool := false
  pinned : Bool := false
  sleepy : Bool := false
  parentNix : Nat := 0
  parentRoot : Bool := false
  keyIx : Nat := 0
  kgen : Nat := 0
  rateIx : Nat := 0
  burstIx : Nat := 0
  key : Nat := 0
  hops : Nat := 0
  pathIx : Nat := 0
  pathGen : Nat := 0
deriving DecidableEq, Repr

/-- The PARENT and PATH words that NODE_MODIFY's data gives (R293). -/
structure ModData where
  parentNix : Nat := 0
  parentRoot : Bool := false
  hops : Nat := 0
  pathIx : Nat := 0
  pathGen : Nat := 0
deriving DecidableEq, Repr

/-- A record of the journal ring (R173). -/
structure JnlRec where
  seq : Nat := 0
  /-- 1 TX_RES, 2 GRP_RES, 4 OPEN. -/
  typ : Nat := 1
  /-- NIX or Ward, generation, ceiling. -/
  key : Nat := 0
  gen : Nat := 0
  ceil : Nat := 0
  rxReset : Bool := false
  adv : Bool := false
deriving DecidableEq, Repr

/-- Kinds of a forwarding entry (R182). -/
inductive FwtKind where
  | free | node | aliased | station
deriving DecidableEq, Repr

/-- A forwarding-table entry (R183). -/
structure FwtEntry where
  key : Nat := 0
  kind : FwtKind := .free
  ward : Nat := 0
  port : Nat := 0
  nix : Nat := 0
  moveCand : Bool := false
  movePort : Nat := 0
  moveCnt : Nat := 0
  hit : Bool := false
  age : Nat := 0
  isStatic : Bool := false
  shadow : Bool := false
  /-- A word of the entry is poisoned (R189). -/
  poisoned : Bool := false
deriving DecidableEq, Repr

/-- A Path Store entry (R202). -/
structure PathEntry where
  owner : Nat := 0
  valid : Bool := false
  host : Bool := false
  ward : Nat := 0
  epoch : Nat := 0
  hops : List Nat := []
deriving DecidableEq, Repr

/-- A PTP message as it arrives on a port (R250 to R253). -/
structure PtpMsg where
  /-- messageType: 0 Sync, 1 Delay_Req, 2 and 3 Pdelay, 8 Follow_Up, 9 Delay_Resp, 10 Pdelay_Resp_Follow_Up, 11 to 13 the rest. -/
  mtype : Fin 16
  /-- IEEE 802.3 transport, else UDP; over IPv6; with the checksum trailer; addressed to one of the addresses of R253. -/
  l2 : Bool := true
  v6 : Bool := false
  trailer : Bool := false
  forwardable : Bool := false
  domain : Nat := 0
  /-- sourcePortIdentity, requestingPortIdentity, sequenceId. -/
  clock : Nat := 0
  port : Nat := 0
  reqClock : Nat := 0
  reqPort : Nat := 0
  seq : Nat := 0
  twoStep : Bool := false
  /-- correctionField, whole ns and 2^−16 ns beyond them, and the timestamp it carries, ns. -/
  corr : Int := 0
  corrFrac : Fin 65536 := 0
  origin : Int := 0
  /-- Its VLAN tag. -/
  vlan : Option Nat := none
  len : Nat := 64
deriving DecidableEq, Repr

/-- An Obken image (R358): the fields of its header, octet strings as numbers whose least significant octet is the first, and its payload as
32-bit words. -/
structure Image where
  /-- MAGIC, of which "OBKN" is 0x4E4B424F. -/
  magic : Nat := 0x4E4B424F
  fmt : Nat := 1
  kind : Nat := 0
  ver : Nat := 0
  svn : Nat := 0
  length : Nat := 0
  part : Nat := 0x2640
  step : Nat := 0
  load : Nat := 0
  entry : Nat := 0
  mask : Nat := 0
  shared : Bool := false
  /-- FLAGS [31:16], the Serac state version. -/
  sver : Nat := 0
  keyId : Nat := 0
  digest : Nat := 0
  crc : Nat := 0
  sig : Nat := 0
  payload : List Nat := []
deriving DecidableEq, Repr

/-- What holds a curd that an ECC error has hit (R211): a node queue, a class queue, the calendar or a reassembly context, and the place
in it. -/
inductive CurdAt where
  | none
  | node (nix pos : Nat)
  | up (ward cls : Fin 8) (pos : Nat)
  | down (ward cls : Fin 8) (pos frame : Nat)
  | calendar (pos frame : Nat)
  | reasm (pos frag : Nat)
  | beacon (lane : Fin 4) (idx : Nat)
  | symbol (slot : Fin 4) (pos : Nat)
deriving DecidableEq, Repr

/-- A heartbeat of R420: SEQ of its header, ROLE, SYNC, YIELD, EPOCH, CFG_CRC, MSEQ, T_TX and T_ECHO (TSU ns), ECHO_SEQ. -/
structure Heartbeat where
  seq : Nat := 0
  role : Fin 4 := 0
  sync : Fin 4 := 0
  yield : Bool := false
  epoch : Nat := 0
  crc : Nat := 0
  mseq : Nat := 0
  tTx : Nat := 0
  tEcho : Nat := 0
  echoSeq : Nat := 0
deriving DecidableEq, Repr

/-- An item of R425, as a mirror or bulk record carries it. -/
inductive MirItem where
  /-- A node record, and the MAC_WARD_SA cursor of its Ward; a record in FREE is released. -/
  | node (nix : Fin 262144) (rec : Node) (cursor : Nat)
  /-- A TX_RES or GRP_RES reservation, or in bulk sync a ceiling (R428). -/
  | reserve (entry : JnlRec)
  /-- A Key Table write. -/
  | key (ix : Fin 262144) (key : Nat)
  /-- A group key in slot 0 PREV, 1 CUR or 2 NEXT, with its generation; a group switch. -/
  | group (ward : Fin 8) (slot : Fin 3) (gen : Fin 16) (key : Nat)
  | groupSwitch (ward : Fin 8)
  | rekey (nix : Fin 262144) (set : Bool)
  /-- 6P sequence and status bytes. -/
  | sixp (nix : Fin 262144) (seq sts : Nat)
  /-- An ALIAS or STATION entry is inserted or moves, or is deleted. -/
  | fwt (entry : FwtEntry)
  | fwtGone (entry : FwtEntry)
  /-- A generation batch: its number, boundary ASN, changed cells (TYPE 0: freed), slotframes turned on and off. -/
  | gen (gen boundary : Nat) (cells : List (Nat × Cell)) (on off : List (Fin 64))
deriving DecidableEq, Repr

/-- A frame relayed by the standby (R436): its slice report, and what the MAC reads of its PSDU. `ts` is the RMARKER in ns of RC. -/
structure RelayFrame where
  slice : Fin 128 := 0
  fe : Fin 4 := 0
  plan : Nat := 0
  chan : Nat := 0
  phyc : Nat := 1
  mcs : Nat := 0
  ts : Nat := 0
  rssi : Int := 0
  lqi : Nat := 0
  len : Nat := 0
  fcs4 : Bool := false
  report : List Nat := []
  hdr : MacHdr := {}
deriving DecidableEq, Repr

/-- An Ethernet frame as a port receives it (R467): MAC addresses, VLAN, its length with FCS, its damage (0 none, 1 FCS, 2 code error,
3 other PCS error), the quanta of a PAUSE frame, a PTP message, and its IPv6 packet. -/
structure EthFrame where
  dst : Nat := 0
  src : Nat := 0
  vlan : Option Nat := none
  len : Nat := 64
  damage : Fin 4 := 0
  pause : Option Nat := none
  ptp : Bool := false
  ip : Option DownContent := none
deriving DecidableEq, Repr


/-- A command: one constructor for each row of the opcode table. -/
inductive Instr where
  /-- REGISTER_WRITE (R12). -/
  | registerWrite (addr size : Nat) (value : Word) (requester : Requester) (t : Nat)
  /-- SYS_CFG_LOCK_WRITE (R12). -/
  | sysCfgLockWrite (value : Word) (t : Nat)
  /-- HOST_MAILBOX_READ (R215). -/
  | hostMailboxRead (addr size : Nat) (requester : Requester) (t : Nat)
  /-- MAILBOX_STALL_EXPIRY (R215). -/
  | mailboxStallExpiry (addr : Nat) (t : Nat)
  /-- MAILBOX_LATE_ANSWER (R215). -/
  | mailboxLateAnswer (addr : Nat) (t : Nat)
  /-- FABRIC_STALL_RELEASE (R22). -/
  | fabricStallRelease (lane : Fin 4) (idx : Nat) (t : Nat)
  /-- SCRUBBER_PASS (R211). -/
  | scrubberPass (corrected : List (Fin 256)) (poisoned : List Nat) (t : Nat)
  /-- SYS_MODE_WRITE (R35). -/
  | sysModeWrite (mode : Fin 4) (t : Nat)
  /-- MODE_CHANGE_COMPLETE (R35). -/
  | modeChangeComplete (t : Nat)
  /-- HOARFROST_PERIOD (R36). -/
  | hoarfrostPeriod (slack : Int) (t : Nat)
  /-- AVSBUS_FRAME_DONE (R455). -/
  | avsbusFrameDone (ok : Bool) (t : Nat)
  /-- FE_ENABLE (R42). -/
  | feEnable (fe : Fin 4) (t : Nat)
  /-- FE_DISABLE (R55). -/
  | feDisable (fe : Fin 4) (t : Nat)
  /-- SYN_LOCK (R46). -/
  | synLock (fe : Fin 4) (us t : Nat)
  /-- SYN_LOCK_TIMEOUT (R42). -/
  | synLockTimeout (fe : Fin 4) (t : Nat)
  /-- RFE_TUNE_WRITE (R47). -/
  | rfeTuneWrite (fe : Fin 4) (khz t : Nat)
  /-- SYN_MOVE_START (R47). -/
  | synMoveStart (fe : Fin 4) (t : Nat)
  /-- TRANSMIT_DEADLINE (R48). -/
  | transmitDeadline (fe : Fin 4) (lbtEd ccaEd : Int) (t : Nat)
  /-- RX_TX_TURNAROUND_END (R44). -/
  | rxTxTurnaroundEnd (fe : Fin 4) (t : Nat)
  /-- TX_LAST_SYMBOL (R42). -/
  | txLastSymbol (fe : Fin 4) (t : Nat)
  /-- TX_RX_TURNAROUND_END (R44). -/
  | txRxTurnaroundEnd (fe : Fin 4) (t : Nat)
  /-- LBT_LISTEN_START (R64). -/
  | lbtListenStart (fe : Fin 4) (t : Nat)
  /-- RFE_CAL_CMD (R52). -/
  | rfeCalCmd (fe : Fin 4) (steps t : Nat)
  /-- RFE_CAL_FORCE (R52). -/
  | rfeCalForce (fe : Fin 4) (steps t : Nat)
  /-- CAL_STEP_DONE (R50). -/
  | calStepDone (fe : Fin 4) (ok : Bool) (t : Nat)
  /-- RFE_TEMP_SAMPLE (R51). -/
  | rfeTempSample (fe : Fin 4) (celsius : Int) (t : Nat)
  /-- CAL_STARVE_TIMEOUT (R53). -/
  | calStarveTimeout (fe : Fin 4) (t : Nat)
  /-- DC_BUCKET_ADVANCE (R63). -/
  | dcBucketAdvance (region : Fin 16) (t : Nat)
  /-- AGC_GAIN_STEP (R60). -/
  | agcGainStep (fe : Fin 4) (peak : Int) (sample t : Nat)
  /-- RFE_TX_TEST_WRITE (R66). -/
  | rfeTxTestWrite (fe : Fin 4) (cw : Bool) (pix : Nat) (offset : Int) (t : Nat)
  /-- RFE_TX_AIR_READ (R66). -/
  | rfeTxAirRead (fe : Fin 4) (requester : Requester)
  /-- PREAMBLE_DETECT (R77). -/
  | preambleDetect (fe : Fin 4) (plan : Fin 16) (chan : Nat) (cls : Fin 11) (q sniffer stfPeak t : Nat)
  /-- SFD_FOUND (R83). -/
  | sfdFound (slice : Fin 128) (ts t : Nat)
  /-- SFD_TIMEOUT (R75). -/
  | sfdTimeout (slice : Fin 128) (t : Nat)
  /-- PHR_CHECK (R84). -/
  | phrCheck (slice : Fin 128) (modeSwitch hcsOk : Bool) (len mcs : Nat) (fcs4 dw fec : Bool) (t : Nat)
  /-- SLICE_FRAME_END (R85). -/
  | sliceFrameEnd (slice : Fin 128) (fcsOk room relayRoom : Bool) (pwr snr : Int) (hdr : MacHdr) (t : Nat)
  /-- CLASS_UP_RESULT (R79). -/
  | classUpResult (slice : Fin 128) (pan : Nat) (src : Addr) (ts : Nat) (t : Nat)
  /-- CHZ_PLAN_WRITE (R70). -/
  | chzPlanWrite (plan : Fin 16) (reg : PlanReg) (value : Word) (t : Nat)
  /-- CHZ_OOG_WRITE (R89). -/
  | chzOogWrite (template : Fin 8) (limit t : Nat)
  /-- SPECTRUM_INTERVAL (R91). -/
  | spectrumInterval (bins : List (Int × Int)) (t : Nat)
  /-- CHZ_SLICE_PEAK_READ (R91). -/
  | chzSlicePeakRead (requester : Requester)
  /-- ASN_TICK (R92). -/
  | asnTick (corrected : List (Fin 256)) (t : Nat)
  /-- MAC_ASN_LO_READ (R94). -/
  | macAsnLoRead (requester : Requester)
  /-- MAC_SLOT_LEN_WRITE (R96). -/
  | macSlotLenWrite (us t : Nat)
  /-- MAC_TT_WRITE (R96). -/
  | macTtWrite (template : Fin 8) (reg : TtReg) (value : Word) (t : Nat)
  /-- MAC_HS_DATA_ACCESS (R99). -/
  | macHsDataAccess (write : Option Word) (requester : Requester) (t : Nat)
  /-- HS_SWITCH_ARM (R99). -/
  | hsSwitchArm (mask t : Nat)
  /-- HS_SWITCH_CANCEL (R99). -/
  | hsSwitchCancel (mask t : Nat)
  /-- MAC_LS_UC_DATA_WRITE (R101). -/
  | macLsUcDataWrite (lane : Fin 4) (word : Word) (t : Nat)
  /-- MAC_LS_SWAP_ARM (R102). -/
  | macLsSwapArm (lane : Fin 4) (sf : Nat) (arm ok : Bool) (t : Nat)
  /-- TRANSMIT_COMMIT_POINT (R103). -/
  | transmitCommitPoint (lane : Fin 4) (idx t : Nat)
  /-- TRANSMIT_ITEM_READY (R103). -/
  | transmitItemReady (lane : Fin 4) (idx t : Nat)
  /-- CCM_DISPATCH (R159). -/
  | ccmDispatch (slice : Fin 128) (t : Nat)
  /-- VERDICT (R110). -/
  | verdict (pos : Nat) (mic : Bool) (poisoned : Option (Fin 16)) (corrected : List (Fin 256)) (meets : TableMeets) (t : Nat)
  /-- ACK_COMMIT_POINT (R111). -/
  | ackCommitPoint (fe : Fin 4) (t : Nat)
  /-- NODE_ACK_RECEIVED (R107). -/
  | nodeAckReceived (pos : Nat) (mic : Bool) (t : Nat)
  /-- ACK_WAIT_EXPIRY (R107). -/
  | ackWaitExpiry (lane : Fin 4) (t : Nat)
  /-- QUIET_TIMEOUT (R120). -/
  | quietTimeout (nix : Fin 262144) (t : Nat)
  /-- MAC_BURST_PEAK_READ (R121). -/
  | macBurstPeakRead (requester : Requester)
  /-- MAC_ACK_MARGIN_READ (R121). -/
  | macAckMarginRead (requester : Requester)
  /-- MAC_LS_VHIST_READ (R121). -/
  | macLsVhistRead (lane : Fin 4) (bin : Fin 16) (requester : Requester)
  /-- SF_ENABLE (R124). -/
  | sfEnable (sf : Fin 64) (t : Nat)
  /-- SF_DISABLE (R124). -/
  | sfDisable (sf : Fin 64) (t : Nat)
  /-- COMMIT_MS_EXPIRY (R136). -/
  | commitMsExpiry (t : Nat)
  /-- GEN_COMMIT (R136). -/
  | genCommit (t : Nat)
  /-- GEN_APPLY_COMPLETE (R136). -/
  | genApplyComplete (t : Nat)
  /-- GEN_CLEAR (R137). -/
  | genClear (t : Nat)
  /-- SCHED_ADD (R138). -/
  | schedAdd (c : SchedCmd) (sf : Fin 64) (ofs : Nat) (cell : CellSpec) (t : Nat)
  /-- SCHED_DEL (R138). -/
  | schedDel (c : SchedCmd) (idx t : Nat)
  /-- SCHED_MOVE (R138). -/
  | schedMove (c : SchedCmd) (idx : Nat) (sf : Fin 64) (ofs : Nat) (cell : CellSpec) (t : Nat)
  /-- SCHED_READ (R138). -/
  | schedRead (c : SchedCmd) (idx t : Nat)
  /-- SCHED_NODE (R138). -/
  | schedNode (c : SchedCmd) (nix t : Nat)
  /-- SCHED_SF_CLEAR (R138). -/
  | schedSfClear (c : SchedCmd) (sf t : Nat)
  /-- ADAPT_VISIT (R134). -/
  | adaptVisit (nix : Fin 262144) (tc : Fin 8) (t : Nat)
  /-- SERAC_PICK (R139). -/
  | seracPick (lane : Fin 4) (idx : Nat) (poisoned : Option (Fin 16)) (corrected : List (Fin 256)) (t : Nat)
  /-- P6_REQUEST (R140). -/
  | p6Request (nix : Fin 262144) (q : P6Req) (t : Nat)
  /-- P6_RESPONSE (R142). -/
  | p6Response (nix : Fin 262144) (seq code : Nat) (accepted : List (Nat × Nat)) (t : Nat)
  /-- P6_TRANSACTION_TIMEOUT (R143). -/
  | p6TransactionTimeout (nix : Fin 262144) (t : Nat)
  /-- SF_SWITCH_ARM (R145). -/
  | sfSwitchArm (frm target : Fin 64) (fromEn arm : Bool) (t : Nat)
  /-- WMOVE_ARM (R146). -/
  | wmoveArm (fe : Fin 4) (khz : Nat) (arm : Bool) (t : Nat)
  /-- WMOVE_CENTRE_WRITE (R146). -/
  | wmoveCentreWrite (t : Nat)
  /-- QUIET_AUTO_PLACE (R148). -/
  | quietAutoPlace (fe : Fin 4) (t : Nat)
  /-- SRC_UC_DATA_WRITE (R149). -/
  | srcUcDataWrite (word : Word) (t : Nat)
  /-- SRC_UC_ARM (R149). -/
  | srcUcArm (arm ok : Bool) (t : Nat)
  /-- SRC_CELLS_PEAK_READ (R150). -/
  | srcCellsPeakRead (requester : Requester)
  /-- SRC_CHK_PEAK_READ (R150). -/
  | srcChkPeakRead (requester : Requester)
  /-- KEY_SET (R169). -/
  | keySet (ring : Fin 8) (hd : CmdHead) (nix key t : Nat)
  /-- KEY_RATCHET (R167). -/
  | keyRatchet (ring : Fin 8) (tag nix t : Nat)
  /-- GROUP_KEY_LOAD (R171). -/
  | groupKeyLoad (ring : Fin 8) (hd : CmdHead) (ward gen key t : Nat)
  /-- GROUP_SWITCH_ARM (R171). -/
  | groupSwitchArm (ward : Fin 8) (asnHi : Nat) (arm : Bool) (t : Nat)
  /-- GROUP_GRACE_EXPIRY (R171). -/
  | groupGraceExpiry (ward : Fin 8) (t : Nat)
  /-- JOURNAL_COMMIT_DONE (R174). -/
  | journalCommitDone (outcome : Fin 3) (t : Nat)
  /-- COPIER_APPLY (R175). -/
  | copierApply (t : Nat)
  /-- JNL_OPEN (R177). -/
  | jnlOpen (answers : Bool) (t : Nat)
  /-- JNL_OPEN_COMPLETE (R177). -/
  | jnlOpenComplete (outcome : Fin 3) (t : Nat)
  /-- JNL_CLOSE (R177). -/
  | jnlClose (t : Nat)
  /-- JNL_CLOSE_COMPLETE (R177). -/
  | jnlCloseComplete (t : Nat)
  /-- JNL_FORMAT (R177). -/
  | jnlFormat (t : Nat)
  /-- SNAP_NOW (R176). -/
  | snapNow (t : Nat)
  /-- SNAP_PERIOD_EXPIRY (R176). -/
  | snapPeriodExpiry (t : Nat)
  /-- SNAP_PASS_COMPLETE (R176). -/
  | snapPassComplete (t : Nat)
  /-- SEC_ENG_PEAK_READ (R181). -/
  | secEngPeakRead (requester : Requester)
  /-- SEC_JNL_PEAK_READ (R181). -/
  | secJnlPeakRead (requester : Requester)
  /-- LEARN_COMMIT (R192). -/
  | learnCommit (pos : Nat) (meets : TableMeets) (t : Nat)
  /-- FIRN_BUCKET_VISIT (R194). -/
  | firnBucketVisit (locked : Bool) (corrected : List (Fin 256)) (poisoned : List Nat) (meets : TableMeets) (t : Nat)
  /-- FIRN_SWEEP_END (R194). -/
  | firnSweepEnd (meets : TableMeets) (t : Nat)
  /-- RESHARD_START (R195). -/
  | reshardStart (t : Nat)
  /-- RESHARD_ABORT (R195). -/
  | reshardAbort (t : Nat)
  /-- RESHARD_WALK (R195). -/
  | reshardWalk (meets : TableMeets) (t : Nat)
  /-- FWT_INSERT (R190). -/
  | fwtInsert (ring : Fin 8) (hd : CmdHead) (entry : FwtEntry) (meets : TableMeets) (t : Nat)
  /-- FWT_DELETE (R190). -/
  | fwtDelete (ring : Fin 8) (tag key : Nat) (kind : FwtKind) (ward : Fin 8) (meets : TableMeets) (t : Nat)
  /-- FWT_READ (R190). -/
  | fwtRead (ring : Fin 8) (hd : CmdHead) (first count : Nat) (vat : Bool) (t : Nat)
  /-- FWT_WRITE (R190). -/
  | fwtWrite (ring : Fin 8) (hd : CmdHead) (bucket ver : Nat) (e0 e1 e2 e3 : FwtEntry) (meets : TableMeets) (t : Nat)
  /-- PATH_WRITE (R190). -/
  | pathWrite (ring : Fin 8) (hd : CmdHead) (ix : Nat) (entry : PathEntry) (t : Nat)
  /-- PATH_READ (R190). -/
  | pathRead (ring : Fin 8) (hd : CmdHead) (first count t : Nat)
  /-- SAX_READ (R190). -/
  | saxRead (ring : Fin 8) (hd : CmdHead) (ward first count t : Nat)
  /-- UPLINK_PIPELINE (R217). -/
  | uplinkPipeline (content : UpContent) (meets : TableMeets) (t : Nat)
  /-- DOWNLINK_PACKET (R198). -/
  | downlinkPacket (poisoned : Option (Fin 16)) (meets : TableMeets) (t : Nat)
  /-- REASM_TIMEOUT (R206). -/
  | reasmTimeout (t : Nat)
  /-- UPLINK_DRAIN (R222). -/
  | uplinkDrain (ward : Fin 8) (desc : Desc) (meets : TableMeets) (t : Nat)
  /-- WARD_SHAPER_RELEASE (R224). -/
  | wardShaperRelease (ward cls : Fin 8) (t : Nat)
  /-- CALENDAR_BUCKET_DUE (R226). -/
  | calendarBucketDue (t : Nat)
  /-- SHAPER_SWEEP (R228). -/
  | shaperSweep (t : Nat)
  /-- CALENDAR_DISABLE (R229). -/
  | calendarDisable (t : Nat)
  /-- CALENDAR_ENABLE (R229). -/
  | calendarEnable (t : Nat)
  /-- SHP_METER_WRITE (R230). -/
  | shpMeterWrite (reg : MeterReg) (ix : Fin 64) (value t : Nat)
  /-- EGRESS_FRAME_START (R236). -/
  | egressFrameStart (port : Fin 2) (t : Nat)
  /-- GATE_ENTRY_EDGE (R237). -/
  | gateEntryEdge (port : Fin 2) (t : Nat)
  /-- GATE_LIST_ARM (R240). -/
  | gateListArm (port : Fin 2) (en : Bool) (len t : Nat)
  /-- GATE_LIST_SWITCH (R240). -/
  | gateListSwitch (port : Fin 2) (t : Nat)
  /-- QMS_POOL_PEAK_READ (R242). -/
  | qmsPoolPeakRead (requester : Requester)
  /-- QMS_POOL_USE_PEAK_READ (R242). -/
  | qmsPoolUsePeakRead (user : Fin 4) (requester : Requester)
  /-- QMS_W_NPEAK_READ (R242). -/
  | qmsWNpeakRead (ward : Fin 8) (requester : Requester)
  /-- QMS_CQ_PEAK_READ (R242). -/
  | qmsCqPeakRead (ix : Fin 128) (requester : Requester)
  /-- SHP_CAL_PEAK_READ (R243). -/
  | shpCalPeakRead (requester : Requester)
  /-- SHP_EGR_PEAK_READ (R243). -/
  | shpEgrPeakRead (port : Fin 2) (requester : Requester)
  /-- TSU_NS_LO_READ (R246). -/
  | tsuNsLoRead (requester : Requester) (t : Nat)
  /-- TSU_TIME_NS_READ (R246). -/
  | tsuTimeNsRead (requester : Requester) (t : Nat)
  /-- PTP_MESSAGE_RECEIVED (R251). -/
  | ptpMessageReceived (port : Fin 2) (m : PtpMsg) (t : Nat)
  /-- SYNC_INTERVAL (R252). -/
  | syncInterval (port : Fin 2) (t : Nat)
  /-- DELAY_REQ_INTERVAL (R252). -/
  | delayReqInterval (port : Fin 2) (t : Nat)
  /-- FOLLOW_UP_TIMEOUT (R252). -/
  | followUpTimeout (port : Fin 2) (t : Nat)
  /-- DELAY_RESP_TIMEOUT (R252). -/
  | delayRespTimeout (port : Fin 2) (t : Nat)
  /-- TSU_SERVO_EXT_OFS_WRITE (R254). -/
  | tsuServoExtOfsWrite (value : Word) (t : Nat)
  /-- SERVO_ENABLE (R256). -/
  | servoEnable (t : Nat)
  /-- SERVO_DISABLE (R256). -/
  | servoDisable (t : Nat)
  /-- SERVO_LOSS_TIMEOUT (R256). -/
  | servoLossTimeout (t : Nat)
  /-- SERVO_CMD_ACCEPT (R258). -/
  | servoCmdAccept (t : Nat)
  /-- SERVO_CMD_ASYM (R258). -/
  | servoCmdAsym (t : Nat)
  /-- SERVO_CMD_REMEASURE (R258). -/
  | servoCmdRemeasure (t : Nat)
  /-- TSU_STEP (R259). -/
  | tsuStep (alsoSet : Bool) (t : Nat)
  /-- TSU_SET (R259). -/
  | tsuSet (t : Nat)
  /-- SLEW_GO (R260). -/
  | slewGo (t : Nat)
  /-- SLEW_ABORT (R260). -/
  | slewAbort (t : Nat)
  /-- SLEW_COMPLETE (R260). -/
  | slewComplete (t : Nat)
  /-- ASN_START (R262). -/
  | asnStart (t : Nat)
  /-- ASN_STOP (R262). -/
  | asnStop (t : Nat)
  /-- PULSE_ARM (R264). -/
  | pulseArm (unit : Fin 4) (periodic strict outEn pol : Bool) (t : Nat)
  /-- PULSE_STOP (R264). -/
  | pulseStop (unit : Fin 4) (t : Nat)
  /-- PULSE_EDGE (R264). -/
  | pulseEdge (unit : Fin 4) (t : Nat)
  /-- CAPTURE_EDGE (R265). -/
  | captureEdge (unit : Fin 4) (fall : Bool) (held t : Nat)
  /-- TSU_CI_NS_READ (R265). -/
  | tsuCiNsRead (unit : Fin 4) (requester : Requester)
  /-- TSU_SERVO_OFS_PEAK_READ (R267). -/
  | tsuServoOfsPeakRead (requester : Requester)
  /-- TSU_P_RES_PEAK_READ (R267). -/
  | tsuPResPeakRead (port : Fin 2) (requester : Requester)
  /-- DOORBELL_WRITE (R276). -/
  | doorbellWrite (offset : Nat) (value : Word) (t : Nat)
  /-- RING_ENABLE (R273). -/
  | ringEnable (ring : Fin 76) (t : Nat)
  /-- RING_DISABLE (R273). -/
  | ringDisable (ring : Fin 76) (t : Nat)
  /-- TX_DESCRIPTOR (R281). -/
  | txDescriptor (ring : Fin 32) (desc : Desc) (pkt : DownContent) (eth : EthMeta) (t : Nat)
  /-- RX_FRAME_DELIVER (R287). -/
  | rxFrameDeliver (ring : Fin 32) (desc : Desc) (t : Nat)
  /-- MODERATION_TIMER (R279). -/
  | moderationTimer (ring : Fin 76) (t : Nat)
  /-- DMA_READ_FAIL (R297). -/
  | dmaReadFail (ring : Fin 76) (desc : Option Desc) (addr t : Nat)
  /-- FUNCTION_LEVEL_RESET (R298). -/
  | functionLevelReset (t : Nat)
  /-- D3HOT_TO_D0 (R298). -/
  | d3hotToD0 (t : Nat)
  /-- NOP (R291). -/
  | nop (ring : Fin 8) (tag t : Nat)
  /-- BADOP (R290). -/
  | badop (ring : Fin 8) (op tag t : Nat)
  /-- NODE_ADD (R292). -/
  | nodeAdd (ring : Fin 8) (hd : CmdHead) (nix : Nat) (any restore : Bool) (block : NodeBlock) (meets : TableMeets) (t : Nat)
  /-- NODE_EVICT (R33). -/
  | nodeEvict (ring : Fin 8) (tag nix t : Nat)
  /-- EVICT_RELEASE_COMPLETE (R33). -/
  | evictReleaseComplete (nix : Fin 262144) (meets : TableMeets) (t : Nat)
  /-- NODE_QUIET (R33). -/
  | nodeQuiet (ring : Fin 8) (tag nix t : Nat)
  /-- NODE_READ (R291). -/
  | nodeRead (ring : Fin 8) (hd : CmdHead) (first count : Nat) (withKey : Bool) (t : Nat)
  /-- NODE_MODIFY (R293). -/
  | nodeModify (ring : Fin 8) (hd : CmdHead) (nix mask value : Nat) (data : ModData) (t : Nat)
  /-- NODE_WRITE (R293). -/
  | nodeWrite (ring : Fin 8) (hd : CmdHead) (nix : Nat) (record : Node) (t : Nat)
  /-- EB_SET (R117). -/
  | ebSet (ring : Fin 8) (hd : CmdHead) (ward : Nat) (ies : List (Fin 256)) (t : Nat)
  /-- UCODE_LOAD (R375). -/
  | ucodeLoad (ring : Fin 8) (hd : CmdHead) (target len : Nat) (img : Image) (held : Bool) (us t : Nat)
  /-- HIF_RXR_BACKLOG_PEAK_READ (R301). -/
  | hifRxrBacklogPeakRead (ring : Fin 32) (requester : Requester)
  /-- HIF_EVTR_PEND_PEAK_READ (R301). -/
  | hifEvtrPendPeakRead (ring : Fin 4) (requester : Requester)
  /-- CAMP_START (R304). -/
  | campStart (ring : Fin 8) (hd : CmdHead) (slot : Nat) (blk : CampBlock) (t : Nat)
  /-- CAMP_PREPARE_COMPLETE (R314). -/
  | campPrepareComplete (slot : Fin 4) (image : Option (List (Fin 256))) (t : Nat)
  /-- CAMP_PAUSE (R314). -/
  | campPause (ring : Fin 8) (tag slot t : Nat)
  /-- CAMP_RESUME (R314). -/
  | campResume (ring : Fin 8) (tag slot t : Nat)
  /-- CAMP_STOP (R314). -/
  | campStop (ring : Fin 8) (tag slot t : Nat)
  /-- CAMP_RELEASE (R314). -/
  | campRelease (ring : Fin 8) (tag slot t : Nat)
  /-- CAMP_ENROL (R312). -/
  | campEnrol (ring : Fin 8) (hd : CmdHead) (slot count : Nat) (nodes : List Nat) (t : Nat)
  /-- CAMP_LEAVE (R312). -/
  | campLeave (ring : Fin 8) (hd : CmdHead) (slot count : Nat) (nodes : List Nat) (t : Nat)
  /-- PRESS_TURN (R307). -/
  | pressTurn (slot : Fin 4) (image : Option (List (Fin 256))) (us t : Nat)
  /-- UPD_CURDS_PEAK_READ (R317). -/
  | updCurdsPeakRead (requester : Requester)
  /-- UPD_READY_PEAK_READ (R317). -/
  | updReadyPeakRead (requester : Requester)
  /-- KEY_GEN (R330). -/
  | keyGen (ring : Fin 8) (hd : CmdHead) (count : Nat) (abort : Bool) (t : Nat)
  /-- KEY_IMPORT (R330). -/
  | keyImport (ring : Fin 8) (hd : CmdHead) (count : Nat) (keys : List Nat) (abort : Bool) (t : Nat)
  /-- ATTEST (R327). -/
  | attest (ring : Fin 8) (hd : CmdHead) (nonce : List Nat) (abort : Bool) (t : Nat)
  /-- ALIAS_CERT (R326). -/
  | aliasCert (ring : Fin 8) (hd : CmdHead) (t : Nat)
  /-- TLOG_ACK (R346). -/
  | tlogAck (ring : Fin 8) (tag mask t : Nat)
  /-- RIND_SAMPLE (R337). -/
  | rindSample (mismatch : Nat) (caseLevel keyOp : Bool) (t : Nat)
  /-- SENSOR_DETECT (R337). -/
  | sensorDetect (sensor : Fin 8) (keyOp : Bool) (t : Nat)
  /-- KEY_TAMPER_ACK_WRITE (R340). -/
  | keyTamperAckWrite (code : Nat) (us : List Nat)
  /-- DERIVE_COMPLETE (R340). -/
  | deriveComplete (us : List Nat)
  /-- CAVE_RESTORE_COMPLETE (R340). -/
  | caveRestoreComplete (t : Nat)
  /-- BRINE_VISIT (R333). -/
  | brineVisit (busy : Bool) (t : Nat)
  /-- RNG_HEALTH_TEST (R322). -/
  | rngHealthTest (ok : Bool) (t : Nat)
  /-- KEY_HOSTPUB_WRITE (R330). -/
  | keyHostpubWrite (word : Fin 8) (value : Word) (t : Nat)
  /-- POWER_ON_RESET (R348). -/
  | powerOnReset (strap bits : Nat) (us : List Nat)
  /-- POWER_FAIL_RESET (R348). -/
  | powerFailReset (strap bits : Nat) (us : List Nat)
  /-- WAKE_RESET (R348). -/
  | wakeReset (strap bits : Nat) (us : List Nat)
  /-- WARM_RESET (R351). -/
  | warmReset (key : Nat) (warm : Bool) (bits : Nat) (us : List Nat)
  /-- FAULT_RESET (R411). -/
  | faultReset (bits : Nat) (us : List Nat)
  /-- JTAG_RESET (R348). -/
  | jtagReset (bits : Nat) (us : List Nat)
  /-- PCIE_FUNDAMENTAL_RESET (R348). -/
  | pcieFundamentalReset (t : Nat)
  /-- SRAM_INIT_COMPLETE (R355). -/
  | sramInitComplete (dur : Nat) (us : List Nat)
  /-- CLOCK_CHECK_COMPLETE (R354). -/
  | clockCheckComplete (present : Nat) (dev : List Int) (lockUs : Nat) (us : List Nat)
  /-- IMAGE_CHECK_COMPLETE (R360). -/
  | imageCheckComplete (slot : Fin 3) (ix : Fin 8) (last : Bool) (fail : Nat) (seqA seqB : Option Nat) (img : Image) (us : List Nat)
  /-- BOOT_RELEASE (R365). -/
  | bootRelease (us : List Nat) (t : Nat)
  /-- SYS_PCIE_BOOT_GO (R362). -/
  | sysPcieBootGo (us : List Nat)
  /-- SVN_PROGRAM (R364). -/
  | svnProgram (target : Nat) (go : Bool) (t : Nat)
  /-- SVN_PROGRAM_DONE (R364). -/
  | svnProgramDone (t : Nat)
  /-- LC_REQUEST (R367). -/
  | lcRequest (jtag : Bool) (key target t : Nat)
  /-- FUSE_PROGRAM (R369). -/
  | fuseProgram (target : Nat) (val prog : Bool) (t : Nat)
  /-- FUSE_PROGRAM_DONE (R369). -/
  | fuseProgramDone (ok : Bool) (t : Nat)
  /-- PCR_RUN (R373). -/
  | pcrRun (core : Fin 8) (t : Nat)
  /-- PCR_DRAIN (R373). -/
  | pcrDrain (core : Fin 8) (t : Nat)
  /-- PCR_HALT (R373). -/
  | pcrHalt (core : Fin 8) (t : Nat)
  /-- PCR_DRAIN_ACK (R373). -/
  | pcrDrainAck (core : Fin 8) (t : Nat)
  /-- DRAIN_TIMEOUT (R373). -/
  | drainTimeout (core : Fin 8) (t : Nat)
  /-- WATCHDOG_EXPIRY (R373). -/
  | watchdogExpiry (core : Fin 8) (mcause mepc : Nat) (t : Nat)
  /-- PCR_HEARTBEAT_WRITE (R373). -/
  | pcrHeartbeatWrite (core : Fin 8) (t : Nat)
  /-- CORE_TRAP (R373). -/
  | coreTrap (core : Fin 8) (mcause mepc : Nat) (mtvec0 : Bool) (t : Nat)
  /-- POLICY_STORE (R372). -/
  | policyStore (core : Fin 8) (ofs : Nat) (octets : List Nat) (t : Nat)
  /-- PCR_IPI_WRITE (R379). -/
  | pcrIpiWrite (mask : Nat) (t : Nat)
  /-- MBOX_IN_WRITE (R379). -/
  | mboxInWrite (core word : Fin 8) (value : Word) (t : Nat)
  /-- MBOX_OUT_WRITE (R379). -/
  | mboxOutWrite (core word : Fin 8) (value : Word) (requester : Requester) (t : Nat)
  /-- PCR_INSTRET_LO_READ (R379). -/
  | pcrInstretLoRead (core : Fin 8) (requester : Requester)
  /-- HUSH_WRITE (R386). -/
  | hushWrite (t : Nat)
  /-- HUSH_ENTRY (R386). -/
  | hushEntry (t : Nat)
  /-- HUSH_EXIT (R386). -/
  | hushExit (t : Nat)
  /-- SLEEP_REQUEST (R387). -/
  | sleepRequest (target key t : Nat)
  /-- SLEEP_QUIESCE_COMPLETE (R388). -/
  | sleepQuiesceComplete (t : Nat)
  /-- SLEEP_ISOLATION (R389). -/
  | sleepIsolation (t : Nat)
  /-- SLEEP_WAKE_SAMPLE (R390). -/
  | sleepWakeSample (t : Nat)
  /-- PG_OFF_TIMEOUT (R388). -/
  | pgOffTimeout
  /-- PWR_GOOD_FALL (R384). -/
  | pwrGoodFall (t : Nat)
  /-- WAKE_SOURCE (R391). -/
  | wakeSource (code : Fin 9) (high : Bool)
  /-- PG_WAIT_TIMEOUT (R392). -/
  | pgWaitTimeout
  /-- WAKE_BACKOFF_EXPIRY (R392). -/
  | wakeBackoffExpiry
  /-- WATCH_SAMPLE (R393). -/
  | watchSample (ana pins : Nat)
  /-- RTC_TICK (R385). -/
  | rtcTick (t : Nat)
  /-- RTC_SET (R394). -/
  | rtcSet (t : Nat)
  /-- CEL_RTC_TICK_READ (R385). -/
  | celRtcTickRead (requester : Requester) (t : Nat)
  /-- ANCHOR_STAMP (R395). -/
  | anchorStamp (t : Nat)
  /-- VBAT_SAMPLE (R383). -/
  | vbatSample (level : Nat) (celsius : Int)
  /-- REG_LIMIT (R383). -/
  | regLimit (on : Bool)
  /-- CELLAR_BROWNOUT (R383). -/
  | cellarBrownout
  /-- CELLAR_POWER_UP (R398). -/
  | cellarPowerUp (vbat : Bool)
  /-- CLOCK_MONITOR_CHECK (R399). -/
  | clockMonitorCheck (present unlocked : Nat) (dev ppm : List Int) (rcErr : Int) (keyOp : Bool) (t : Nat)
  /-- REF_RECHECK_TIMER (R399). -/
  | refRecheckTimer (present : Nat) (dev : List Int) (lockUs t : Nat)
  /-- CLK_REF_RECHECK (R399). -/
  | clkRefRecheck (mask present : Nat) (dev : List Int) (lockUs t : Nat)
  /-- XTAL_CHECK (R400). -/
  | xtalCheck (ok keyOp : Bool) (t : Nat)
  /-- XTAL_MEASURE (R394). -/
  | xtalMeasure (ppb : Int) (t : Nat)
  /-- FAULT_OCCURRENCE (R407). -/
  | faultOccurrence (src : Fin 256) (at_ : FaultAt) (curd : CurdAt) (next : Bool) (t : Nat)
  /-- FLT_LATCH_CLEAR (R409). -/
  | fltLatchClear (src : Fin 256) (race : Bool) (at_ : FaultAt) (t : Nat)
  /-- FLT_CLEAR_ALL (R409). -/
  | fltClearAll (t : Nat)
  /-- FLT_CLEAR_FIRST (R412). -/
  | fltClearFirst (t : Nat)
  /-- FLT_INJECT (R415). -/
  | fltInject (src : Fin 256) (go : Bool) (t : Nat)
  /-- ESCALATION_EXPIRY (R410). -/
  | escalationExpiry (t : Nat)
  /-- CALM_EXPIRY (R411). -/
  | calmExpiry (t : Nat)
  /-- FLT_MOR_CLEAR (R413). -/
  | fltMorClear (t : Nat)
  /-- PAIR_JOIN_ACTIVE (R423). -/
  | pairJoinActive (t : Nat)
  /-- PAIR_JOIN_STANDBY (R423). -/
  | pairJoinStandby (t : Nat)
  /-- PAIR_LEAVE (R423). -/
  | pairLeave (t : Nat)
  /-- PAIR_SWITCH (R435). -/
  | pairSwitch (t : Nat)
  /-- PAIR_FORCE (R434). -/
  | pairForce (t : Nat)
  /-- HEARTBEAT_SEND (R420). -/
  | heartbeatSend (alive : Bool) (t : Nat)
  /-- HEARTBEAT_RECEIVED (R419). -/
  | heartbeatReceived (hb : Heartbeat) (tagOk : Bool) (t : Nat)
  /-- HEARTBEAT_MISS_COUNT (R429). -/
  | heartbeatMissCount (alive : Bool) (t : Nat)
  /-- PEER_SILENT_EXPIRY (R427). -/
  | peerSilentExpiry (t : Nat)
  /-- TAKEOVER (R431). -/
  | takeover (t : Nat)
  /-- PAIR_FENCE_INPUT (R432). -/
  | pairFenceInput (level : Bool) (t : Nat)
  /-- FABRIC_TOKEN_CHECK (R430). -/
  | fabricTokenCheck (advanced : Bool) (t : Nat)
  /-- ALIVE_TOGGLE (R430). -/
  | aliveToggle (t : Nat)
  /-- MIR_RECORD_RECEIVED (R425). -/
  | mirRecordReceived (mseq : Nat) (item : MirItem) (tagOk : Bool) (meets : TableMeets) (t : Nat)
  /-- MACK_SEND (R419). -/
  | mackSend (t : Nat)
  /-- MACK_RECEIVED (R427). -/
  | mackReceived (mseq : Nat) (tagOk : Bool) (t : Nat)
  /-- MIR_FLUSH (R426). -/
  | mirFlush (t : Nat)
  /-- MARK_RECEIVED (R435). -/
  | markReceived (mseq : Nat) (tagOk : Bool) (t : Nat)
  /-- BULK_RECORD_RECEIVED (R428). -/
  | bulkRecordReceived (item : MirItem) (cursor : Fin 262144) (last tagOk : Bool) (meets : TableMeets) (t : Nat)
  /-- RLY_RADIO_RECEIVED (R436). -/
  | rlyRadioReceived (frame : RelayFrame) (tagOk : Bool) (t : Nat)
  /-- RLY_ETH_RECEIVED (R436). -/
  | rlyEthReceived (port : Fin 2) (frame : EthFrame) (tagOk : Bool) (t : Nat)
  /-- LANE_SYNC_CHANGE (R419). -/
  | laneSyncChange (lane : Fin 2) (up : Bool) (errors : Nat) (t : Nat)
  /-- PAIR_PEER_KEY_WRITE (R421). -/
  | pairPeerKeyWrite (reg : Fin 10) (value : Word) (t : Nat)
  /-- PAIR_SWITCH_TICK (R435). -/
  | pairSwitchTick (t : Nat)
  /-- CFG_CRC_RECOMPUTE (R422). -/
  | cfgCrcRecompute (t : Nat)
  /-- PAIR_MIR_PEAK_READ (R440). -/
  | pairMirPeakRead (requester : Requester)
  /-- ETH_FRAME_RECEIVED (R467). -/
  | ethFrameReceived (port : Fin 2) (frame : EthFrame) (room : Bool) (t : Nat)
  /-- ETH_LINK_CHANGE (R467). -/
  | ethLinkChange (port : Fin 2) (up : Bool) (speed : Fin 4) (t : Nat)
  /-- ETH_P_EQ_PEAK_READ (R467). -/
  | ethPEqPeakRead (port : Fin 2) (cls : Fin 8) (requester : Requester)
  /-- JTAG_BYPASS (R457). -/
  | jtagBypass
  /-- JTAG_IDCODE (R457). -/
  | jtagIdcode
  /-- JTAG_SAMPLE_PRELOAD (R457). -/
  | jtagSamplePreload (bits : List Word)
  /-- JTAG_EXTEST (R458). -/
  | jtagExtest
  /-- JTAG_CLAMP (R458). -/
  | jtagClamp
  /-- JTAG_HIGHZ (R458). -/
  | jtagHighz
  /-- DEBUG_HALT (R468). -/
  | debugHalt (core : Fin 8) (t : Nat)
  /-- EGRESS_FRAME_END (R282). -/
  | egressFrameEnd (port : Fin 2) (t : Nat)
  /-- DEBUG_RESUME (R468). -/
  | debugResume (core : Fin 8) (t : Nat)
  /-- MSIX_VECTOR_UNMASK (R279). -/
  | msixVectorUnmask (vector : Fin 64) (addr data t : Nat)
  /-- PCIE_BUS_MASTER_ENABLE (R362). -/
  | pcieBusMasterEnable (on msix : Bool) (us : List Nat) (t : Nat)
  /-- PCIE_LINK_UP (R352). -/
  | pcieLinkUp (gen width : Nat) (t : Nat)
  /-- JNL_FORMAT_COMPLETE (R177). -/
  | jnlFormatComplete (wraps : Bool) (t : Nat)
  /-- GEN_CLEAR_COMPLETE (R137). -/
  | genClearComplete (t : Nat)
deriving DecidableEq, Repr

end Sys2Proof
end

