-- ==== Sys2Proof/Decode.lean ====
section
/-!
DEFINITION. Commands from words. The opcode table gives no row any bits: every command reaches the block as an access or an event with its
operands, so no word spells one.
-/

namespace Sys2Proof

/-- The command that a word spells by the table's bits: none, for the table gives no row bits. -/
def decodeTableWord (_nbits _w : Nat) : Option Instr := none

end Sys2Proof
end

