-- ==== Sys2Proof/Machine/Arith.lean ====
section
/-!
DEFINITION. Plain arithmetic the meanings share: bits, bit fields, two's-complement fields, clamps and the ASN order of R93.
-/

namespace Sys2Proof.Machine

/-- A flag as a number. -/
def ofBool (b : Bool) : Nat := if b then 1 else 0

/-- Bits [lo + n - 1 : lo] of `w`. -/
def bitsOf (w lo n : Nat) : Nat := w / 2 ^ lo % 2 ^ n

/-- `w` with bit `k` set. -/
def setBit (w k : Nat) : Nat := if w.testBit k then w else w + 2 ^ k

/-- `w` with bit `k` clear. -/
def clrBit (w k : Nat) : Nat := if w.testBit k then w - 2 ^ k else w

/-- `w` with bit `k` at `b`. -/
def putBit (w k : Nat) (b : Bool) : Nat := if b then setBit w k else clrBit w k

/-- The two's-complement value of the low `w` bits of `v`. -/
def sgn (w v : Nat) : Int := if v % 2 ^ w < 2 ^ (w - 1) then (v % 2 ^ w : Nat) else (v % 2 ^ w : Nat) - (2 : Int) ^ w

/-- The low `w` bits that hold `i` in two's complement. -/
def unsg (w : Nat) (i : Int) : Nat := (i % (2 : Int) ^ w).toNat

/-- R14: `v` moved into the range from `lo` to `hi`. -/
def clampN (lo hi v : Nat) : Nat := max lo (min v hi)

/-- R14 on a signed value. -/
def clampI (lo hi v : Int) : Int := max lo (min v hi)

/-- Quotient rounded up. -/
def ceilDiv (a b : Nat) : Nat := if b = 0 then 0 else (a + b - 1) / b

/-- How many ASNs there are before the number wraps (R92). -/
def asnMod : Nat := 2 ^ 40

/-- R93: ASN `a` is later than ASN `b`. -/
def later (a b : Nat) : Bool :=
  let d := (a + asnMod - b % asnMod) % asnMod
  0 < d && d < 2 ^ 39

/-- R93: how far ASN `a` is ahead of ASN `b`, 0 when it is not later. -/
def ahead (a b : Nat) : Nat := if later a b then (a + asnMod - b % asnMod) % asnMod else 0

/-- The numbers of the set bits of the low `n` bits of `w`, rising. -/
def bitList (n w : Nat) : List Nat := (List.range n).filter (fun k => w.testBit k)

end Sys2Proof.Machine
end

