-- ==== Sys2Proof/Machine/FaultTable.lean ====
section
/-!
DEFINITION. The fault sources of R405 and R439, their classes (R406) and which of them are lasting.
-/

namespace Sys2Proof.Machine

/-- Class of source `s` (R405, R439): 0 N, 1 D, 2 H, 3 F. -/
def FaultSrc.cls (s : Nat) : Nat :=
  if s = 0 || s = 107 || s = 108 || s = 130 then 2
  else if s = 33 || s = 43 || s = 44 || s = 45 || s = 69 then 3
  else if s = 4 || (36 ≤ s && s ≤ 38) || s = 40 || s = 105 then 0
  else if s = 1 || s = 2 || s = 3 || s = 5 || (8 ≤ s && s ≤ 23) || s = 32 || s = 34 || s = 35 || s = 39 || s = 41 || s = 42
      || (64 ≤ s && s ≤ 68) || s = 96 || s = 97 || s = 104 || s = 106 || (109 ≤ s && s ≤ 111) || s = 128 || s = 129 || s = 160 then 1
  else 0

/-- Source `s` has a name in the tables of R405 and R439; any other is reserved. -/
def FaultSrc.named (s : Nat) : Bool :=
  s ≤ 5 || (8 ≤ s && s ≤ 23) || (32 ≤ s && s ≤ 45) || (64 ≤ s && s ≤ 69) || s = 96 || s = 97 || (104 ≤ s && s ≤ 111)
    || s = 128 || s = 129 || s = 130 || s = 160

/-- Default reaction of the class of source `s` (R406): 0 LOG, 1 IRQ, 2 ESC, 3 RESET. -/
def FaultSrc.defaultReact (s : Nat) : Nat :=
  if !FaultSrc.named s then 0
  else match FaultSrc.cls s with
    | 0 => 0
    | 3 => 2
    | _ => 1

/-- Whether the class of source `s` allows reaction `r` (R406). -/
def FaultSrc.allows (s r : Nat) : Bool :=
  match FaultSrc.cls s with
  | 0 => r = 0 || r = 1
  | 1 => r = 1 || r = 2 || r = 3
  | 2 => r = 1
  | _ => r = 2 || r = 3

/-- Source `s` has a lasting condition (R405, R439), as 0 or 1. -/
def FaultSrc.lasting (s : Nat) : Nat :=
  ofBool (s = 0 || (2 ≤ s && s ≤ 5) || (8 ≤ s && s ≤ 15) || s = 69 || (104 ≤ s && s ≤ 106) || (108 ≤ s && s ≤ 110)
    || s = 128 || s = 129 || s = 130)

end Sys2Proof.Machine
end

