-- ==== Sys2Proof/Config.lean ====
section
/-!
DEFINITION. What an implementation fixes and the spec does not (fused identity, trim codes), and the free values:
constants with no body, so that nothing can evaluate them.
-/

namespace Sys2Proof.Config

/-- A value the spec leaves open (a random draw, a coefficient, an analog reading): the `k`-th one a run takes. -/
opaque freeValue (k : Nat) : Nat

/-- The fused EUI-64 of the part, bits [31:0] (R121, MAC_EUI). -/
opaque euiLo : Nat

/-- The fused EUI-64 of the part, bits [63:32] (R121, MAC_EUI). -/
opaque euiHi : Nat

/-- The fused grade (R6, R7); SYS_ID.GRADE holds its low bit, so it is 0 or 1. -/
opaque grade : Nat

/-- The fused trim code of the 96 MHz oscillator (R403, CLK_RC_TRIM). -/
opaque rcTrim : Nat

/-- Air time in ns of an OFDM frame of PHY class `c` with a PSDU of `n` octets: the spec names no formula. -/
opaque ofdmAirNs (c n : Nat) : Nat

/-- The Device Unique Secret that the part's fuses hold, drawn at final test (R320); Fuse.dus holds its low 256 bits. -/
opaque dus : Nat

/-- The Caursis public key that the boot ROM holds (R359), 256 bits, least significant octet first. -/
opaque caursisKey : Nat

/-- The octets of the Cave core's boot ROM (R24): the spec does not give its program. -/
opaque caveRom (offset : Nat) : BitVec 8

/-- The octets of the repair symbol `esi` that RFC 6330 makes of a source block of `k` symbols of `t` octets (R305): the spec does not give the
code's tables. -/
opaque repairSymbol (k t esi : Nat) (block : List Nat) : List Nat

/-- Duration of one bit on an SGMII port, in 0.1 ns: the rate it negotiates is not in a register the spec lays out. -/
opaque sgmiiBit : Nat

/-- PAIR_CFG_CRC as a function of the fields of R422 in their order: the spec does not lay out the octets that the CRC-32 runs over. -/
opaque cfgCrc (fields : List Nat) : Nat

/-- The JTAG instruction code of SAMPLE/PRELOAD (0), EXTEST (1), CLAMP (2), HIGHZ (3) and IDCODE (4): the BSDL file has them. -/
opaque tapCode (k : Nat) : Nat

end Sys2Proof.Config
end

