-- ==== Sys2Proof/Machine/Store.lean ====
section
/-!
DEFINITION. A store held sparsely: pairs of key and value, keys strictly rising, no pair equal to what an unlisted key reads as.
Every on-die store of R25 and the register file are held so.
-/

namespace Sys2Proof.Machine

/-- A sparse store of `α`. -/
abbrev Store (α : Type) := List (Nat × α)

/-- What key `k` reads as; `d` is what an unlisted key reads as. -/
def Store.find {α : Type} (d : α) : Store α → Nat → α
  | [], _ => d
  | (j, v) :: l, k => if k = j then v else Store.find d l k

/-- Put `v` at `k`, before the first larger key. -/
def Store.insert {α : Type} : Store α → Nat → α → Store α
  | [], k, v => [(k, v)]
  | (j, w) :: l, k, v => if k < j then (k, v) :: (j, w) :: l else if k = j then (k, v) :: l else (j, w) :: Store.insert l k v

/-- Write `v` at `k`; writing what an unlisted key reads as removes the entry. -/
def Store.put {α : Type} [DecidableEq α] (d : α) (l : Store α) (k : Nat) (v : α) : Store α :=
  if v = d then l.filter (fun p => p.1 != k) else Store.insert l k v

/-- Keys strictly rise. -/
def Store.sorted {α : Type} : Store α → Bool
  | [] => true
  | [_] => true
  | (j, _) :: (k, w) :: l => j < k && Store.sorted ((k, w) :: l)

/-- No entry equals what an unlisted key reads as. -/
def Store.lean {α : Type} [DecidableEq α] (d : α) (l : Store α) : Bool := l.all (fun p => decide (p.2 ≠ d))

/-- The canonical form. -/
def Store.wf {α : Type} [DecidableEq α] (d : α) (l : Store α) : Bool := Store.sorted l && Store.lean d l

end Sys2Proof.Machine
end

