-- ==== Sys2Proof/Machine/State.lean ====
section
/-!
DEFINITION. The state of the block: its register fields, the stores of R25, the state the chapters give each unit, and the queue
of waiting commands. Plain data throughout.
-/

namespace Sys2Proof.Machine

/-- Addressed memory: offset → octet, offsets strictly rising, no octet 0, which is what an unlisted offset reads as (R355). -/
abbrev Memory := Store (BitVec 8)

/-- The canonical form of a memory. -/
def Memory.wf (m : Memory) : Bool := Store.wf 0 m

/-- Why a command stops the block. No command of this model does: the spec gives every row an effect (no constructor is raised). -/
inductive Fault where
  /-- Raised by nobody: kept so that the type is not empty. Safe. -/
  | unreachable
deriving DecidableEq, Repr

/-- Why a command has no meaning in this model. -/
inductive Refusal where
  /-- An arm of `exec` that has no meaning yet. Safe: nothing is claimed about it. -/
  | notModelled (mnemonic : String)
deriving DecidableEq, Repr

/-- What keeps a field over resets (R12, R350, R385). -/
inductive Home where
  /-- Takes its Reset value at every core reset. -/
  | core
  /-- Kept by a warm, fault or JTAG reset; takes its Reset value at a cold reset. -/
  | kept
  /-- A Cellar field: takes its Reset value when the Cellar powers up. -/
  | cellar
deriving DecidableEq, Repr

/-- One field of one element of a register array: field number, element, width in bits, Reset column, home. -/
structure Fld where
  id : Nat
  ix : Nat
  width : Nat
  rst : Nat
  home : Home
deriving DecidableEq, Repr

/-- The store key of a field. -/
def Fld.key (f : Fld) : Nat := f.id * 0x100000 + f.ix % 0x100000

/-- The voltage loop of R35 to R37. DESIGN CHOICE (log entry 4): both voltages start at 700 mV, inside the start-up range of 0.70 to 0.80 V
(R450) and FLOE's range, since no rule gives the regulator's first voltage. -/
structure Hoar where
  /-- The voltage last requested, in mV. -/
  vreq : Nat := 700
  /-- The voltage the regulator last confirmed, in mV. -/
  vconf : Nat := 700
  /-- Consecutive periods with the smallest slack above 40 %. -/
  slack40 : Nat := 0
  /-- Periods since the last −5 mV request, saturating at 40 (1 ms). -/
  sinceDown : Nat := 40
  /-- Failed AVSBus attempts in a row (R455). -/
  failed : Nat := 0
  /-- ACK_SKIP and TX_MISSED of all lanes, added up, at the last period. -/
  seen : Nat := 0
  /-- The mode of the change in progress; it is an increase that waits for its new floor (R35). -/
  target : Nat := 1
  raising : Bool := false
  /-- The lower voltage of a decrease waits for its confirmation (R35). -/
  lowering : Bool := false
  /-- The request held behind the change in progress (R35). -/
  held : Option Nat := none
deriving DecidableEq, Repr

/-- What a transmission carries (R48, R56, R63). -/
inductive TxKind where
  | frame | ack | beacon
deriving DecidableEq, Repr

/-- One ack of a burst (R112): its frame's sequence number, record, offset and what it carries (R113 to R116, R166). -/
structure AckItem where
  /-- Its start, ns of RC, its channel, PHY class and FCS length, which are those of the frame it answers (R112). -/
  start : Nat := 0
  plan : Nat := 0
  chan : Nat := 0
  phyc : Nat := 0
  fcs4 : Bool := false
  nix : Option Nat := none
  ward : Nat := 0
  /-- Destination, as the answered frame's source, its sequence number, and the generation of the node's pairwise key (R114). -/
  dst : Addr := .none
  dsn : Nat := 0
  kgen : Nat := 0
  /-- Time Correction and the extended one, µs (R115). -/
  tc : Int := 0
  tcx : Option Int := none
  /-- The generation a REKEY IE names (R167). -/
  rekey : Option Nat := none
  /-- Sent unsecured (R114, R155). -/
  plain : Bool := false
  /-- The frame counter a RESEND IE names (R166). -/
  resend : Option Nat := none
  /-- The frame's octets up to its MIC, and the nonce of the MIC (R114, R153). -/
  octets : List Nat := []
  nonce : List Nat := []
deriving DecidableEq, Repr

/-- A transmission the lane presents to its front end (R48). -/
structure TxCmd where
  kind : TxKind := .frame
  /-- The lane that presents it. -/
  lane : Nat := 0
  /-- The transmit deadline, in ns of RC. -/
  deadline : Nat := 0
  /-- Channel: plan, number, centre and spacing, kHz (R40, R68). -/
  plan : Nat := 0
  chan : Nat := 0
  centre : Nat := 0
  spacing : Nat := 0
  /-- Air time, ns. -/
  air : Nat := 0
  /-- Power-table entry; the share each ack of a burst gives up, in CODE steps (R113); the CODE in force, which the entry gives when the
  transmission starts (R56). -/
  pix : Nat := 0
  cut : Nat := 0
  code : Nat := 0
  /-- The record the frame goes to; none for a broadcast or a beacon. -/
  nix : Option Nat := none
  ward : Nat := 0
  /-- Identity of the frame in its queue. -/
  frame : Nat := 0
  /-- The frame asks for an ack. -/
  ackReq : Bool := false
  /-- Sequence number sent. -/
  dsn : Nat := 0
  /-- Slot template in force, the cell's TYPE, and the ASN of its first slot. -/
  tt : Nat := 0
  typ : Nat := 0
  asn : Nat := 0
  /-- The duty-cycle check at the start of a listen or CCA has passed, or has refused (R64). -/
  checked : Bool := false
  refused : Bool := false
  /-- The acks of a burst, in order (R112). -/
  acks : List AckItem := []
  /-- A broadcast's class (R233); an update frame's campaign, and 1 symbol or 2 announcement (R308, R309). -/
  cls : Nat := 0
  upd : Option (Nat × Nat) := none
deriving DecidableEq, Repr

/-- Why a calibration run began (R42, R52). -/
inductive RunKind where
  | none | startup | forced | quiet | cover
deriving DecidableEq, Repr

/-- What a front end holds beside its registers (R42 to R55). -/
structure Fe where
  /-- The start-up sequence has completed since the last cold reset. -/
  startupDone : Bool := false
  /-- CENTRE the synthesizer is locked to or moves to, and when its move began, ns of RC (R46). -/
  tuned : Nat := 0
  moveAt : Nat := 0
  /-- The move in progress has failed once (R42). -/
  failedOnce : Bool := false
  /-- The oscillator step of a retried move is running (R42). -/
  oscStep : Bool := false
  /-- Steps of the run still to come, in order, after the one running (0 OSC to 4 PA). -/
  run : List Nat := []
  runKind : RunKind := .none
  /-- Start of the run and of the step that runs, ns of RC (R50). -/
  runStart : Nat := 0
  stepAt : Nat := 0
  /-- Steps requested without FORCE that wait for cover or a quiet run, as a mask; such a request is not complete (R53), and when it was
  made. -/
  due : Nat := 0
  req : Bool := false
  dueAt : Nat := 0
  /-- The steps requested since that request was made, as a mask (R51). -/
  asked : Nat := 0
  /-- Steps that a FORCE write asked for and that have not begun, as a mask (R52). -/
  forced : Nat := 0
  /-- End of the quiet run in progress, ns of RC (R53). -/
  quietEnd : Nat := 0
  /-- Calibration done, waiting for the handback tick (R42). -/
  waitBack : Bool := false
  /-- This front end covers, or is about to cover, its sibling (R54). -/
  covers : Bool := false
  /-- Its cover is over, and its return to its own CENTRE waits until it is back in RX (R54, R55); its lane transmits again from the tick
  after that (R54, phase 3). -/
  homeDue : Bool := false
  rejoin : Bool := false
  /-- EN was written 0 during a transmission, which completes first (R42). -/
  offPend : Bool := false
  /-- Transmissions presented or held, by deadline (R48, R103), and the one in progress. -/
  txq : List TxCmd := []
  tx : Option TxCmd := none
  /-- First symbol and end of last symbol of the last transmission, ns of RC (R45). -/
  firstSym : Nat := 0
  lastSym : Nat := 0
  /-- Microseconds of the transmission in progress that RFE_TX_AIR has counted (R66). -/
  airDone : Nat := 0
  /-- The transmission in progress is the continuous carrier of RFE_TX_TEST, charged up to `cwAt`, ns of RC, at the CODE its entry had when
  it started (R56). -/
  cw : Bool := false
  cwAt : Nat := 0
  cwCode : Nat := 0
  /-- Time of the last gain increase, ns of RC, and the sample index of the last gain step (R60). -/
  gainUp : Nat := 0
  gainTag : Nat := 0
  /-- A write of EN or OVR_EN has made the control pins driven (R444). -/
  driven : Bool := false
deriving DecidableEq, Repr

/-- A duty-cycle region's window (R63): the start of the current bucket, its number, and the air time each bucket holds. -/
structure DcRegion where
  start : Nat := 0
  cur : Nat := 0
  /-- Bucket number and ns charged. -/
  buckets : List (Nat × Nat) := []
deriving DecidableEq, Repr

/-- The cell an arrival was matched with (R77, R88). -/
structure Match where
  /-- Slotframe, slot template, peer and TYPE of the cell (R126). -/
  sf : Nat := 0
  tt : Nat := 0
  nix : Nat := 0
  typ : Nat := 2
  /-- ASN of the cell's first slot, and its nominal start, ns of RC. -/
  asn : Nat := 0
  start : Int := 0
deriving DecidableEq, Repr

/-- The four cases of R88. -/
inductive OogCase where
  | inGuard | inLimit | beyond | noCell
deriving DecidableEq, Repr

/-- What a slice holds beside CHZ_SLICE_STS (R76 to R90). -/
structure Slice where
  /-- Preamble SNR at detection, 0.25 dB. -/
  q : Nat := 0
  /-- Time of detection, ns of RC, and the sniffer's number. -/
  det : Nat := 0
  sniffer : Nat := 0
  /-- Estimated start of the frame, ns of RC. -/
  est : Int := 0
  /-- Detected on another front end too (R81). -/
  dup : Bool := false
  /-- Received through the sibling (R82). -/
  cover : Bool := false
  /-- The physical front end that feeds the slice. -/
  phys : Nat := 0
  /-- The matched cell, if any. -/
  cell : Option Match := none
  /-- RMARKER timestamp, ns of RC, and offset in ns from the nominal RMARKER (R86, R88). -/
  ts : Nat := 0
  offset : Int := 0
  case : OogCase := .noCell
  /-- The plan's MAX_PSDU and PRE_LEN when the slice was claimed, and the end of the wait for the SFD, ns of RC (R75, R91). -/
  maxPsdu : Nat := 2047
  preLen : Nat := 8
  sfdBy : Nat := 0
  /-- A coded frame of a class that supports no FEC: its PSDU is not decoded (R71). -/
  uncoded : Bool := false
  /-- From the PHR: PSDU length, FCS length 4, whitening, MCS, FEC. -/
  len : Nat := 0
  fcs4 : Bool := false
  dw : Bool := false
  mcs : Nat := 0
  fec : Bool := false
  /-- The CCM* engine dispatched (R159), and a tamper event aborted it. -/
  engine : Option Nat := none
  aborted : Bool := false
  /-- When the slice was last released, ns of RC (R83). -/
  freed : Nat := 0
  /-- The slice is withdrawn and goes OFF when its frame ends (R35, R83). -/
  leaving : Bool := false
deriving DecidableEq, Repr

/-- What a channel plan's registers held when the sniffers were last assigned (R72, R91): ALWAYS, MAX_PSDU and PRE_LEN. -/
structure PlanNow where
  always : Bool := false
  maxPsdu : Nat := 2047
  preLen : Nat := 8
deriving DecidableEq, Repr

/-- One sniffer assignment of R72: plan, channel, class, front end. -/
structure Triple where
  plan : Nat
  chan : Nat
  cls : Nat
  fe : Nat
deriving DecidableEq, Repr

/-- A staged change of R136. -/
inductive Change where
  /-- Place or free a cell; `ad` marks a change of adaptation or of a 6P answer. -/
  | add (idx : Nat) (c : Cell) (ad : Bool)
  | del (idx : Nat) (ad : Bool)
  | enable (sf : Nat)
  | disable (sf : Nat)
deriving DecidableEq, Repr

/-- An outstanding 6P transaction that Serac began (R142, R143). -/
structure P6Txn where
  /-- 1 ADD, 2 DELETE, 3 RELOCATE, 4 CLEAR. -/
  op : Nat := 0
  /-- Cells that join the schedule when it completes, and those it removes. -/
  adds : List (Nat × Cell) := []
  dels : List Nat := []
  /-- When the request was made, ns of RC. -/
  since : Nat := 0
  /-- RX cells committed early (R142), deleted again when the transaction is abandoned. -/
  early : List Nat := []
  /-- The host command that waits for it (ANNOUNCE of R138): ring, opcode and tag, its index, and its HOLD. -/
  cmd : Option (Nat × Nat × Nat) := none
  ret : Nat := 0
  hold : Bool := false
deriving DecidableEq, Repr

/-- An answer of Serac to a node's request that waits for its ack (R142): the frame, 0 before it is sent, the node, and what joins and leaves
the schedule. -/
structure P6Answer where
  frame : Nat := 0
  nix : Nat
  adds : List (Nat × Cell) := []
  dels : List Nat := []
  clear : Bool := false
  /-- It answers a DELETE, and changes of its own must be committed before it is sent (R142). -/
  del : Bool := false
  held : Bool := false
  /-- RX cells committed early, deleted again when the answer is dropped (R142). -/
  early : List Nat := []
  /-- It carries no error code. -/
  ok : Bool := true
  /-- A 3-step transaction; its answer has been acknowledged and it waits for the node's confirmation, since when, ns of RC. -/
  three : Bool := false
  confirm : Bool := false
  since : Nat := 0
deriving DecidableEq, Repr

/-- What the shipped firmware keeps of a node between visits (R132, R134): when the last one was, ns of RC, activity, the ASN, periods in a
row below UTIL_DEL, and the use of its cells in %. -/
structure Snap where
  seen : Bool := false
  time : Nat := 0
  useTx : Nat := 0
  useRx : Nat := 0
  txAtt : Nat := 0
  rxOk : Nat := 0
  asn : Nat := 0
  lowTx : Nat := 0
  lowRx : Nat := 0
deriving DecidableEq, Repr

/-- An applied generation that waits for its boundary (R136): the ASN, its cells, the slotframes it sets ON and OFF, and the evictions
whose cells it removes (R144). -/
structure GenBound where
  asn : Nat
  cells : Store Cell := []
  turnOn : List Nat := []
  turnOff : List Nat := []
  evicts : List Nat := []
deriving DecidableEq, Repr

/-- What the shipped policy-core firmware proposes to Serac for a node: an add or a delete in one direction, a relocation (R134), a CLEAR, or an
add towards the node's minimum after one (R141). -/
inductive Want where
  | addTx | delTx | addRx | delRx | move | clear | refill
deriving DecidableEq, Repr

/-- What a swap checks of the header of a microcode image (R102, R149, R358): LENGTH, CRC, the Serac state version. -/
structure UcHead where
  len : Nat
  crc : Nat
  sver : Nat := 0
deriving DecidableEq, Repr

/-- What Serac holds beside its registers. -/
structure Src where
  /-- The Cell Store of R125, by index, as of the last apply. -/
  cells : Store Cell := []
  /-- The cells the lanes are built from: the generation in force (R136). -/
  live : Store Cell := []
  /-- Changes staged since the last apply, oldest first, 256 at most, and those that wait for room among them (R136). -/
  staged : List Change := []
  spill : List Change := []
  /-- An apply has been asked for while another is under way (R136). -/
  applyDue : Bool := false
  /-- Snapshot of a record at its last adaptation visit, and the record visited last (R134). -/
  snap : Store Snap := []
  visited : Option Nat := none
  /-- When the last visit was, ns of RC (R134). -/
  visitAt : Nat := 0
  /-- When COMMIT_MS ran out last, ns of RC (R136). -/
  commitAt : Nat := 0
  /-- Change tokens of a Ward: 10^−9 tokens below BURST, and the time of that, ns of RC (R133). -/
  tokDebt : Store Nat := []
  tokAt : Store Nat := []
  /-- The apply under way: its changes. -/
  applying : Option (List Change) := none
  /-- Applied generations that are not yet in force, oldest first. -/
  bounds : List GenBound := []
  /-- Senders of accepted 6P messages that Serac has not handled, oldest first. -/
  p6in : List Nat := []
  /-- Answers that wait for their ack. -/
  p6ack : List P6Answer := []
  /-- Outstanding transactions, by NIX. -/
  p6out : Store (Option P6Txn) := []
  /-- Evictions whose cells the next apply deletes, and those that the apply under way deletes. -/
  evictNext : List Nat := []
  evicting : List Nat := []
  /-- NODE_EVICT commands that have not completed: NIX → ring and tag (R291). -/
  evictCmd : Store (Option (Nat × Nat)) := []
  /-- Records whose cell fields the next apply rebuilds from the Cell Store (R293). -/
  rebuild : List Nat := []
  /-- Automatic QUIET cells by front end: index, and the ASN at which the span ends once it has begun (R148). -/
  autoQuiet : Store (Option (Nat × Option Nat)) := []
  /-- Microcode banks: bank × 4,096 + word (R149); a refused image has made the inactive one unusable (R375). -/
  uc : Store Nat := []
  ucBad : Bool := false
  /-- The headers of the images loaded, by bank. -/
  ucHead : Store (Option UcHead) := []
  /-- CLEAR is under way (R137). -/
  clearing : Bool := false
  /-- Schedule commands that complete with the next apply, and with the apply under way: ring, opcode, tag, RET0 (R138). -/
  cmdNext : List (Nat × Nat × Nat × Nat) := []
  cmdNow : List (Nat × Nat × Nat × Nat) := []
  /-- 6P frames that are sent once the next apply, and the apply under way, has committed what they wait for (R142): the node, the octets of
  the body, and whether it is an answer. -/
  sendNext : List (Nat × Nat × Bool) := []
  sendNow : List (Nat × Nat × Bool) := []
  /-- Nodes that the shipped firmware brings back to their minimum after a CLEAR (R141). -/
  refill : List Nat := []
  /-- What the shipped firmware proposes and has not begun: the node, the kind, the traffic class; oldest first (R134, R141, R143). -/
  wants : List (Nat × Want × Nat) := []
  /-- The ASN of an armed window move, and whether its centre has been handed to RFE_TUNE (R146). -/
  wmoveAt : Nat := 0
  wmoveSent : Bool := false
deriving DecidableEq, Repr

/-- The verdicts of R110 and R119, with the codes of R285 (JOIN has none). -/
inductive Verdict where
  | accept | repeated | replay | micFail | nosrc | fenced | unsec | notme | join
deriving DecidableEq, Repr

/-- A frame that has left its slice (R85, R90) and waits for its verdict, its ack decision, or both. -/
structure RxFrame where
  slice : Nat := 0
  /-- Physical and logical front end, plan, channel, PHY class, MCS. -/
  phys : Nat := 0
  fe : Nat := 0
  plan : Nat := 0
  chan : Nat := 0
  phyc : Nat := 0
  mcs : Nat := 0
  /-- First symbol and frame end, ns of RC. -/
  start : Int := 0
  endAt : Nat := 0
  cell : Option Match := none
  case : OogCase := .noCell
  /-- Offset, ns. -/
  offset : Int := 0
  rssi : Int := 0
  lqi : Nat := 0
  len : Nat := 0
  fcs4 : Bool := false
  /-- The six words of the slice report. -/
  report : List Nat := []
  hdr : MacHdr := {}
  /-- The CCM* engine that checks it (R159), and whether a tamper event aborted it. -/
  engine : Option Nat := none
  aborted : Bool := false
  verdict : Option Verdict := none
  /-- Sender's record, and when the verdict was formed. -/
  nix : Option Nat := none
  verdictAt : Nat := 0
  /-- The ack decision of R111 has been made. -/
  acked : Bool := false
deriving DecidableEq, Repr

/-- A frame in curds (R208): a link frame of a downlink packet, a broadcast, a 6P frame, or an uplink or Ethernet frame. -/
structure QFrame where
  /-- The model's own: identity of the frame. -/
  id : Nat := 0
  /-- LEN, CLASS, WARD, KIND of R208, and the pool user that holds its curds (R210). -/
  len : Nat := 0
  cls : Nat := 0
  ward : Nat := 0
  kind : Nat := 1
  user : Nat := 0
  yellow : Bool := false
  hold : Bool := false
  more : Bool := false
  /-- PEER: link receiver for downlink, sender for uplink. -/
  peer : Nat := 0
  /-- Destination record of the packet. -/
  dest : Nat := 0
  /-- TIME: enqueue time, or NOT_BEFORE with HOLD, µs modulo 2^32. -/
  time : Nat := 0
  /-- The receiver's address and PAN ID, as adaptation wrote them, and a payload that begins with IEs (R143, R200). -/
  dst : Addr := .none
  pan : Nat := 0
  ie : Bool := false
  /-- ENC: the counter it took and its key generation (R104, R162). -/
  fc : Option Nat := none
  gen : Nat := 0
  level : Nat := 0
  /-- The frame's octets up to its payload, once they are fixed, and the nonce it was encrypted under (R117, R153, R200). -/
  octets : List Nat := []
  nonce : List Nat := []
  /-- Retransmissions so far, and cells to skip by the backoff of R107 with its exponent, once it has begun. -/
  retries : Nat := 0
  skip : Nat := 0
  be : Option Nat := none
  phyc : Nat := 1
  /-- Its curds, in the order of the chain (R208, R209), and the octets of payload it carries behind its headers. -/
  curds : List Nat := []
  body : List (Fin 256) := []
deriving DecidableEq, Repr

/-- An item of a lane's transmit FIFO (R103): what Serac's pick wrote for a cell. -/
structure TxItem where
  /-- The cell's index and the ASN of its first slot. -/
  idx : Nat := 0
  asn : Nat := 0
  kind : TxKind := .frame
  /-- NOFRAME of R139. -/
  noframe : Bool := false
  frame : QFrame := {}
  nix : Option Nat := none
  ward : Nat := 0
  ackReq : Bool := false
  /-- R108 applies to the receiver; pre-shift, µs, and its bound: 0 none, 1 early, 2 late. -/
  pre : Bool := false
  shift : Int := 0
  lim : Nat := 0
  /-- An update frame (R308, R309): its campaign, and 1 symbol or 2 announcement; TIME and IDs travel in `frame`. -/
  upd : Option (Nat × Nat) := none
  /-- A beacon's group security (R117, R155). -/
  plain : Bool := false
  /-- Its frame is still to be encrypted, the CCM* engine that does it, none while it waits for one, and a tamper event aborted it
  (R159). -/
  encrypts : Bool := false
  engine : Option Nat := none
  aborted : Bool := false
  /-- When it was written into the FIFO, ns of RC (R21). -/
  at_ : Nat := 0
deriving DecidableEq, Repr

/-- An occurrence of a cell that is in progress on a lane (R97). -/
structure Span where
  idx : Nat
  sf : Nat
  cell : Cell
  /-- ASN of its first slot and that slot's tick, ns of RC. -/
  asn : Nat
  tick : Nat
  /-- Its channel under R98. -/
  plan : Nat
  chan : Nat
  /-- Its transmit commit point has passed (R103), and Serac has picked for it (R139). -/
  committed : Bool := false
  picked : Bool := false
deriving DecidableEq, Repr

/-- The window for a node's ack (R107). -/
structure AckWait where
  frame : Nat
  nix : Nat
  ward : Nat
  dsn : Nat
  plan : Nat
  chan : Nat
  tt : Nat
  typ : Nat
  /-- End of the frame sent, ns of RC, and the ASN of its slot. -/
  endAt : Nat
  asn : Nat
deriving DecidableEq, Repr

/-- An ack burst (R112): when its turnaround starts, and the ends of the frames with an ack request that have come to their commit point
since it opened, ns of RC. -/
structure Burst where
  start : Nat
  ends : List Nat := []
  /-- The members, once they are fixed at the turnaround. -/
  members : Option Nat := none
deriving DecidableEq, Repr

/-- What a lane sequencer holds beside its registers (R100 to R113). -/
structure Lane where
  /-- Cells in progress. -/
  spans : List Span := []
  /-- The transmit FIFO, items that Serac is still preparing, and the window for a node's ack. -/
  fifo : List TxItem := []
  preparing : List TxItem := []
  wait : Option AckWait := none
  /-- The ack burst of this physical front end. -/
  burst : Option Burst := none
  /-- The two microcode banks: bank × 2,048 + word (R101); a refused image has made the inactive one unusable (R375); the headers of the
  images loaded, by bank. -/
  uc : Store Nat := []
  ucBad : Bool := false
  ucHead : Store (Option UcHead) := []
deriving DecidableEq, Repr

/-- A detection as R81's merge test sees it: plan, channel, class, the estimated start and the time it was declared, ns of RC. -/
structure Detection where
  plan : Nat
  chan : Nat
  cls : Nat
  est : Int
  at_ : Nat
deriving DecidableEq, Repr

/-- What the MAC holds beside its registers. -/
structure Mac where
  /-- RC at the tick of the slot in progress. -/
  tickAt : Nat := 0
  /-- The chip's own detections of the last 2 ms, against which relayed frames are merged (R436). -/
  dets : List Detection := []
  /-- Index on the ASN grid of the next tick (R262). -/
  gridK : Int := 0
  /-- The cells, QUIET ones among them, that were in progress in the last slot or are in this one, on the channels they began on (R77, R97,
  R102). -/
  began : List Span := []
  /-- Hop sequences: (sequence × 2 + bank) × 1,024 + entry → PLAN + 16 × CHAN (R98, R99). -/
  hs : Store Nat := []
  /-- Active bank of each sequence. -/
  hsBank : Store Nat := []
  /-- ASN at which an armed switch of R99 takes place; none until the ASN starts. -/
  hsAt : Option Nat := none
  /-- Frames from the slices, in order of frame end. -/
  rx : List RxFrame := []
  /-- Senders acked in the current slot (R116): NIX, or 2^18 plus an EUI-64 for a join. -/
  slotAcks : List Nat := []
  /-- Join requests passed in the current second, by Ward, and that second (R119). -/
  joins : Store Nat := []
  joinSec : Nat := 0
  /-- Last accepted frame of a record, ns of RC (R120). -/
  heard : Store Nat := []
  /-- Short-address index (R196): Ward × 65,536 + address → NIX + 1. -/
  sax : Store Nat := []
  /-- Host IEs of each Ward's Enhanced Beacon (R117). -/
  eb : Store (List Nat) := []
deriving DecidableEq, Repr

/-- The outer header of a routed downlink packet (R204): addresses, the RPI's fields, the SRH's addresses, the SRH-6LoRH type where the Ward
sends RFC 8138. Its hop limit, DSCP, ECN and flow label are values the spec leaves open. -/
structure OuterHdr where
  src : Ip := {}
  dst : Ip := {}
  inst : Nat := 0
  o : Bool := true
  r : Bool := false
  f : Bool := false
  rank : Nat := 0
  srh : List Ip := []
  lorh : Option Nat := none
  hop : Nat := 0
  dscp : Nat := 0
  ecn : Nat := 0
  flow : Nat := 0
deriving DecidableEq, Repr

/-- A downlink packet after stage 1 of R223, or a broadcast: its frames, its IPv6 length, and whom it reports to. -/
structure Packet where
  ward : Nat := 0
  cls : Nat := 0
  /-- Destination and link receiver records. -/
  dest : Nat := 0
  link : Nat := 0
  ipLen : Nat := 0
  bcast : Bool := false
  released : Bool := false
  /-- Its outer header, when it is routed (R204). -/
  outer : Option OuterHdr := none
  /-- The packet that its frames carry, and the frames. -/
  pkt : DownContent := {}
  frames : List QFrame := []
deriving DecidableEq, Repr

/-- A packet in the calendar (R226) with its base time, µs of RC. -/
structure Deferred where
  base : Nat
  packet : Packet
deriving DecidableEq, Repr

/-- A packet in an uplink class queue (R222), with the completion it will get at a receive ring. -/
structure UpPacket where
  ward : Nat := 0
  cls : Nat := 0
  nix : Nat := 0
  len : Nat := 0
  /-- Its curds, in the order of the chain (R208), the LEN of the frame that holds it, and its enqueue time, µs modulo 2^32. -/
  curds : List Nat := []
  frameLen : Nat := 0
  time : Nat := 0
  yellow : Bool := false
  pkt : DownContent := {}
  words : List Nat := []
  /-- With GW set: the ports of the gateway (R197); empty while they have not been looked up. -/
  ports : List Nat := []
deriving DecidableEq, Repr

/-- A frame in an egress class FIFO of a backhaul port (R236). -/
structure EgrFrame where
  id : Nat := 0
  len : Nat := 0
  /-- 0 a host ring, 1 the uplink, 2 the pair's relay, 3 the PTP engine, 4 the transparent clock. -/
  origin : Nat := 0
  /-- Destination: 0 unicast, 1 multicast, 2 broadcast; with a VLAN tag. -/
  cast : Nat := 0
  vlan : Option Nat := none
  /-- The PTP message it carries; a one-step Sync whose time is written in flight (R251). -/
  ptp : Option PtpOut := none
  sync : Bool := false
  /-- A forwarded Sync or Delay_Req: the ingress time, TSU ns (R253). -/
  ingress : Option Int := none
  /-- The transmit ring whose TS_REQ completion waits for it (R282). -/
  tsRing : Option Nat := none
  /-- It has been counted in SHP_GATE_WAIT (R238). -/
  waited : Bool := false
deriving DecidableEq, Repr

/-- A fragment in a reassembly context (R206): the octets of the datagram it covers, its curds, its data. -/
structure Piece where
  first : Nat
  len : Nat
  curds : List Nat := []
  data : List (Fin 256) := []
deriving DecidableEq, Repr

/-- A reassembly context (R206). -/
structure Reasm where
  ward : Nat
  nix : Nat
  size : Nat
  tag : Nat
  opened : Nat
  /-- The fragments held. -/
  held : List Piece := []
deriving DecidableEq, Repr

/-- A token bucket pair of a Ward marker or shaper (R221, R224): fills in bits or octets as its unit is, and its time, ns of RC. -/
structure Bucket where
  /-- Still as at reset: full. -/
  fresh : Bool := true
  c : Int := 0
  p : Int := 0
  at_ : Nat := 0
deriving DecidableEq, Repr

/-- A frame that the MAC has delivered to the uplink pipeline (R217). -/
structure Delivered where
  nix : Nat
  ward : Nat
  len : Nat
  /-- It was policed out at stage 2. -/
  policed : Bool
  rc : Nat
  asn : Nat
deriving DecidableEq, Repr

/-- A gate list (R237, R240): LEN, CYCLE, entries from 0, start in TSU ns. -/
structure GateList where
  len : Nat := 1
  cycle : Nat := 0
  entries : List Nat := []
  start : Nat := 0
deriving DecidableEq, Repr

/-- What a backhaul port's egress holds (R236 to R240). -/
structure Port where
  /-- The class FIFOs, by class. -/
  fifos : Store (List EgrFrame) := []
  /-- The frame leaving the port, and its egress timestamp, in ns of RC and of TSU time, with FRAC of R244. -/
  busy : Option EgrFrame := none
  busyRc : Nat := 0
  busyTs : Int := 0
  busyFrac : Nat := 0
  /-- The last PTP message that left the port, with what was written in flight (R251, R253). -/
  sent : Option PtpOut := none
  /-- Octets sent and received, modulo 1,024 (ETH_P_TX_OCTETS_K, ETH_P_RX_OCTETS_K). -/
  txOctets : Nat := 0
  rxOctets : Nat := 0
  /-- A received PAUSE frame holds the port until here, ns of RC. -/
  pauseEnd : Nat := 0
  running : Option GateList := none
  pendingList : Option GateList := none
  /-- Cycles of the list in force that had ended when its gates were last looked at (SHP_GATE_CYCLES). -/
  cycleNo : Int := 0
deriving DecidableEq, Repr

/-- What the queue manager and the shaper hold beside their registers. -/
structure Qms where
  /-- Node queue of a NIX, head first (R212). -/
  nodeQ : Store (List QFrame) := []
  /-- Uplink class queue w × 8 + c, and downlink class queue w × 8 + c. -/
  upQ : Store (List UpPacket) := []
  downQ : Store (List Packet) := []
  /-- The calendar, by base time. -/
  cal : List Deferred := []
  reasm : List Reasm := []
  delivered : List Delivered := []
  /-- Ward markers and Ward shapers, w × 8 + c. -/
  marker : Store Bucket := []
  shaper : Store Bucket := []
  /-- Cursors of R233, w × 8 + c. -/
  cursor : Store Nat := []
  /-- Curds that no chain reaches, by pool user, until the scrubber's pass (R211). -/
  lost : List (Nat × List Nat) := []
  ports : Store Port := []
  /-- The model's own: identity of the next frame. -/
  nextId : Nat := 1
deriving DecidableEq, Repr

/-- A reservation that has not been committed (R163, R174): its record, and the host command that waits for it (R169). -/
structure Reserve where
  entry : JnlRec
  /-- MSEQ of its mirror record (R427); committed in the own journal, it waits for the standby's MACK. -/
  mseq : Option Nat := none
  local_ : Bool := false
  cmd : Option (Nat × Nat × Nat) := none
  /-- A ratchet's (R168): the node's Ward and its new wrapped key. -/
  ratchet : Option (Nat × Nat) := none
deriving DecidableEq, Repr

/-- An entry of the key cache (R157, R332): KEY_IX, its place among the 4,096, and the key as two 128-bit shares. -/
structure KcEntry where
  ix : Nat
  place : Nat := 0
  a : Nat := 0
  b : Nat := 0
deriving DecidableEq, Repr

/-- What link security and the journal hold beside their registers. -/
structure Sec where
  /-- RESEND marks of the REKEY bits, which stand in shared policy memory (R167, R180). -/
  resend : Store Bool := []
  /-- Records restored strictly that have not advanced (R180). -/
  strictWait : Store Bool := []
  /-- Records counted in SEC_W_HALT (R164). -/
  halted : Store Bool := []
  /-- Key Table (R156): KEY_IX → the wrapped key. -/
  keyTable : Store Nat := []
  /-- Key cache (R157), most recently used first. -/
  cache : List KcEntry := []
  /-- Group keys (R158, R319): Ward × 3 + 0 PREV, 1 CUR, 2 NEXT → the copy wrapped under KTK, none when empty; and PREV's generation. -/
  group : Store (Option Nat) := []
  prevGen : Store Nat := []
  /-- The end of PREV's grace, ns of RC. -/
  prevEnd : Store Nat := []
  /-- ASN at which an armed group switch takes place; none until the ASN starts. -/
  switchAt : Store (Option Nat) := []
  /-- A group switch has happened since a strict restart (R180). -/
  switched : Store Bool := []
  /-- The group generation in force at a strict restart (R180). -/
  strictGen : Store Nat := []
  /-- Reservations waiting for their commit, oldest first, and the one being written. -/
  waiting : List Reserve := []
  /-- Reservations that wait until the outstanding one of the same node or group is done (R163). -/
  behind : List Reserve := []
  /-- The journal has been opened since the last reset (R172). -/
  opened : Bool := false
  /-- Committed records that the copier has not applied, oldest first. -/
  ring : List JnlRec := []
  /-- Records whose RX_FC has changed since the last pass (R176). -/
  dirty : List Nat := []
  passOn : Bool := false
  passDue : Bool := false
  /-- RC at which the last SNAP_PERIOD began (R176). -/
  snapAt : Nat := 0
  passAt : Nat := 0
  /-- FORMAT is under way (R177). -/
  formatting : Bool := false
  /-- The nonce that each CCM* engine worked with last (R153, R159). -/
  engNonce : Store (List Nat) := []
deriving DecidableEq, Repr

/-- The journal device on QSPI1 (R172): outside the core, kept without power. -/
structure Jdev where
  /-- Its octets, by address. -/
  mem : Memory := []
deriving DecidableEq, Repr

/-- A bucket header (R183). -/
structure FwtHead where
  ver : Nat := 0
  ovf : Bool := false
  lock : Bool := false
deriving DecidableEq, Repr

/-- A learning request (R191, R192): a node's record, or the key of a station, and the port. -/
structure Learn where
  nix : Option Nat := none
  key : Nat := 0
  port : Nat := 0
deriving DecidableEq, Repr

/-- A packet on its way to stage 1 of R223: where it came from (0 a host ring, 1 the backhaul or the peer's, 2 a hairpin), the class its
descriptor names, the Ward of a broadcast, the transmit ring that waits for it with its identity, and RC and ASN for a receive ring. -/
structure DownItem where
  src : Nat := 0
  pkt : DownContent := {}
  cls : Option Nat := none
  bcast : Option Nat := none
  ring : Option Nat := none
  id : Nat := 0
  rc : Nat := 0
  asn : Nat := 0
deriving DecidableEq, Repr

/-- What forwarding holds beside its registers. -/
structure Fwd where
  /-- Bucket × 4 + way → entry; Vat slot → entry; bucket → header. -/
  ways : Store FwtEntry := []
  vat : Store FwtEntry := []
  heads : Store FwtHead := []
  paths : Store PathEntry := []
  /-- Allocation cursor of R203. -/
  pathCursor : Nat := 0
  /-- The reshard walker's position: bucket × 4 + way, then 262,144 + Vat slot. -/
  walk : Nat := 0
  /-- Buckets Firn skipped locked, and the visits left until it comes back to each. -/
  firnAgain : List (Nat × Nat) := []
  /-- Firn's place in the Vat: 0 while it visits buckets, else one above the slot it visits next. -/
  firnVat : Nat := 0
  /-- Learning requests that have left their stage (R192), and packets for the downlink path (R198), oldest first. -/
  learn : List Learn := []
  down : List DownItem := []
  /-- A full Firn sweep since CLEANUP began is under way (R195). -/
  cleanSweep : Bool := false
  /-- RC of Firn's last visit (R194). -/
  firnAt : Nat := 0
  /-- The model's own: what the accesses still to come of the command in progress meet. -/
  meets : TableMeets := {}
deriving DecidableEq, Repr

/-- A Delay_Req outstanding (R252): its sequenceId, when it was sent, ns of RC, and its egress time, TSU ns. -/
structure DelayReq where
  seq : Nat
  at_ : Nat
  t3 : Option Int := none
deriving DecidableEq, Repr

/-- What the PTP engine of a port holds (R252): a two-step Sync that waits for its Follow_Up (sequenceId, ingress time, correction) and when
it came, the last Sync's `ms`, the next sequenceIds, when the last Sync and Delay_Req were sent, the Delay_Reqs outstanding, oldest first, and
when the parent's last Sync came (TSU_P_STS.PAR_SEEN). Moments are ns of RC. -/
structure PtpPort where
  sync : Option (Nat × Int × Int) := none
  syncRc : Nat := 0
  ms : Option Int := none
  syncSeq : Nat := 0
  syncAt : Nat := 0
  dreqSeq : Nat := 0
  dreqAt : Nat := 0
  dreqs : List DelayReq := []
  parAt : Nat := 0
deriving DecidableEq, Repr

/-- A pulse unit (R264): the next active edge, TSU ns; the end of the pulse in progress, ns of RC; STOP was written. -/
structure Pulse where
  next : Option Int := none
  endAt : Option Nat := none
  stop : Bool := false
deriving DecidableEq, Repr

/-- A capture unit (R265): its FIFO, oldest first (TSU ns, RC [31:0], falling), and the RC of the last capture. -/
structure Capture where
  fifo : List (Nat × Nat × Bool) := []
  last : Option Nat := none
deriving DecidableEq, Repr

/-- What the timebase holds beside its registers (R244 to R266). -/
structure Tsu where
  /-- RC and TSU time have started: the TSU island has switched to the TCXO since the last reset (R245). -/
  rcOn : Bool := false
  /-- The slew in progress: its amount, its start in ns of RC, its rate in ppb (R260). -/
  slew : Option (Int × Nat × Nat) := none
  /-- The integral i of R255, 2^−16 ppb, and the values it took, with their RC, newest first. -/
  i : Int := 0
  hist : List (Nat × Int) := []
  /-- mpd_f, ns; a delay sample has come. -/
  mpd : Int := 0
  seen : Bool := false
  /-- Samples in a row within LOCK_THR. -/
  lockRun : Nat := 0
  /-- Withheld delay samples, newest first, at most 16 (R257). -/
  kept : List Int := []
  /-- An ACCEPT (false) or ASYM (true) that waits for a withheld delay sample; good samples of a REMEASURE so far (R258). -/
  waits : Option Bool := none
  remeasure : Option Nat := none
  /-- An ACCEPT or ASYM has been taken, and the offset that remained is still being removed (R258). -/
  settle : Bool := false
  /-- RC of the last offset sample, and of the first withheld sample of a run, by kind. -/
  last : Nat := 0
  ofsMark : Nat := 0
  pdMark : Nat := 0
  /-- The dynamic part of A that is applied (R249, R258). -/
  asym : Int := 0
  ports : Store PtpPort := []
  pulses : Store Pulse := []
  caps : Store Capture := []
deriving DecidableEq, Repr

/-- What a receive buffer holds (R285): an IPv6 packet, a PSDU as received with its payload decrypted or not, or an Ethernet frame with a PTP
message. -/
inductive RxBuf where
  | none
  | packet (p : DownContent)
  | psdu (hdr : MacHdr) (dec : Bool)
  | eth (m : PtpMsg)
deriving DecidableEq, Repr

/-- A slot that Bastis has written (R283, R285, R288, R294). -/
inductive Slot where
  /-- Nothing written since the host prepared the ring. -/
  | blank
  /-- A transmit completion of R283. -/
  | tx (tsRc tsNs tsSl sent : Nat) (trunc nop tsValid dropped : Bool) (whey err cookie phase : Nat)
  /-- A receive completion of R285: words 0 to 5 by format, then WRITTEN, TRUNC, FMT, WHY, VERDICT, DEC, NIX, WARD, NIX_VALID; and what the
  buffer holds, up to WRITTEN octets of it. -/
  | rx (words : List Nat) (written : Nat) (trunc : Bool) (fmt why verdict : Nat) (dec : Bool) (nix : Option Nat) (ward phase : Nat)
    (buf : RxBuf)
  /-- A command completion of R288 and the words written to the data buffer. -/
  | cmd (op result tag ret0 ret1 ret2 doneRc gen written : Nat) (trunc : Bool) (data : List Nat) (phase : Nat)
  /-- An event entry of R294. -/
  | event (code block inst arg : Nat) (words : List Nat) (nix : Option Nat) (ward : Nat) (per : Bool) (phase : Nat)
deriving DecidableEq, Repr

/-- An event entry before it has a slot. -/
structure EventEntry where
  code : Nat
  block : Nat
  inst : Nat := 0
  arg : Nat := 0
  words : List Nat := []
  nix : Option Nat := none
  ward : Nat := 0
  per : Bool := false
deriving DecidableEq, Repr

/-- A frame bound for a receive ring (R285): its length and the completion it gets. -/
structure RxItem where
  len : Nat
  words : List Nat := []
  fmt : Nat := 1
  why : Nat := 0
  verdict : Nat := 15
  dec : Bool := false
  nix : Option Nat := none
  ward : Nat := 0
  buf : RxBuf := .none
deriving DecidableEq, Repr

/-- A transmit descriptor taken and not yet completed, in ring order (R282): when it may complete, and its completion so far. -/
structure TxTaken where
  /-- Waits for the frame to leave its port (TS_REQ). -/
  waits : Bool := false
  /-- The egress frame it waits for. -/
  frameId : Nat := 0
  sent : Nat := 0
  trunc : Bool := false
  nop : Bool := false
  dropped : Bool := false
  whey : Nat := 0
  err : Nat := 0
  cookie : Nat := 0
  tsRc : Nat := 0
  tsNs : Nat := 0
  tsSl : Nat := 0
  tsValid : Bool := false
deriving DecidableEq, Repr

/-- What the host ring engines hold beside their registers, by ring (TX 0, RX 32, CMD 64, EV 72 onward). -/
structure Hif where
  /-- Ring → write phase; 1 where unlisted (R273). -/
  phase : Store Nat := []
  /-- Ring → next slot to complete. -/
  next : Store Nat := []
  /-- Ring × 65,536 + slot → what was written there. -/
  slots : Store Slot := []
  /-- Ring → start of its moderation timer, ns of RC. -/
  timer : Store (Option Nat) := []
  /-- Event ring → entries held (R296). -/
  held : Store (List EventEntry) := []
  /-- Receive ring → frames bound for it that have not met a descriptor, oldest first (R286). -/
  bound : Store (List RxItem) := []
  /-- Receive ring → backlog, oldest first (R287). -/
  backlog : Store (List RxItem) := []
  /-- Transmit ring → descriptors taken, oldest first (R282). -/
  taken : Store (List TxTaken) := []
  /-- Command rings whose command is executing (R274), those that will drop its completion (R298), and those where it is a schedule command
  that waits for Serac to be enabled (R150). -/
  executing : Store Bool := []
  orphan : Store Bool := []
  parked : Store Bool := []
  /-- The round robin of the transmit rings (R274): the ring whose turn it is, and the descriptors taken from it in this round. -/
  turn : Nat := 0
  served : Nat := 0
  /-- Requesters whose last BAR0 access completed with Unsupported Request (R269). -/
  ur : Store Bool := []
  /-- MSI-X vector → message address and data of its table entry; unmasked (R268, R279). -/
  msix : Store (Nat × Nat) := []
  unmasked : Store Bool := []
  /-- MSI-X vector → pending bit. -/
  msixPend : Store Bool := []
deriving DecidableEq, Repr

/-- An encoding symbol in a ready queue (R307): source block, ESI, round, its octets and its curds; the group counter and the generation that it was
encrypted with, once it has been picked (R162, R308). -/
structure Symbol where
  sbn : Nat
  esi : Nat
  round : Nat
  data : List Nat := []
  curds : List Nat := []
  enc : Option (Nat × Nat) := none
deriving DecidableEq, Repr

/-- What a campaign slot holds beside its registers (R302 to R315). -/
structure Camp where
  imgAddr : Nat := 0
  imgLen : Nat := 0
  /-- The image lies in shared policy memory (IMG_LOC). -/
  imgLoc : Bool := false
  /-- The manifest that CAMP_START gave (R303). -/
  man : Manifest := {}
  fill : Bool := false
  ovh : Nat := 0
  turn : Nat := 1
  annEvery : Nat := 2
  maxRate : Nat := 0
  /-- A record has been enrolled since PREPARE. -/
  enrolled : Bool := false
  /-- UPDATE cells since RUN was entered; an announcement with STOP goes into the next one. -/
  cells : Nat := 0
  stopDue : Bool := false
  /-- The ready queue, head first, and the Press filling it again (R307). -/
  ready : List Symbol := []
  refill : Bool := false
  /-- The round the Press writes; next ESI of each block, the symbols written for it in that round, and the next block it visits. -/
  prep : Nat := 0
  esi : Store Nat := []
  got : Store Nat := []
  next : Nat := 0
  /-- The rate bucket: 10^−9 tokens below full (4 tokens), and its time, ns of RC. -/
  debt : Nat := 0
  debtAt : Nat := 0
  /-- The CAMP_START or CAMP_RELEASE that has not completed. -/
  cmd : Option (Nat × Nat × Nat) := none
deriving DecidableEq, Repr

/-- The fuses (R320, R364, R368, R369): outside every reset. -/
structure Fuse where
  /-- Bits programmed of the eight of each life-cycle group: PROVISION, FIELD, RETURN, SCRAP. -/
  prov : Nat := 0
  field : Nat := 0
  ret : Nat := 0
  scrap : Nat := 0
  /-- The Device Unique Secret (R320), 256 bits, least significant octet first. -/
  dus : Nat := Config.dus % 2 ^ 256
  /-- Bits programmed of the SVN row. -/
  svn : Nat := 0
  /-- The owner key's words; the Rind class bits; BSCAN_FIELD; which of the three groups is programmed. -/
  owner : List Nat := []
  rind : Nat := 0
  bscan : Bool := false
  ownerDone : Bool := false
  rindDone : Bool := false
  debugDone : Bool := false
deriving DecidableEq, Repr

/-- What the Cave holds beside its registers (R322 to R346). -/
structure Cave where
  /-- The TCXO has been accepted since the last cold reset (R336). -/
  tcxoOk : Bool := false
  /-- Consecutive passing samples of the generator since it failed (R322). -/
  rngPass : Nat := 0
  /-- This boot has reached HOLD (R341). -/
  held : Bool := false
  /-- M_RT, 16 words, where an accepted image has made it differ from M_BOOT (R324). -/
  mrt : List Nat := []
  /-- The signature of the Alias certificate, 16 words (R326). -/
  certSig : List Nat := []
  /-- Entries the Brine has found busy and visits again after the next one; the start of its pass, and its last visit, ns of RC (R333). -/
  brineBack : List Nat := []
  brineRetry : Bool := false
  brineAt : Nat := 0
  brineLast : Nat := 0
  /-- The last sample of the Rind while the core is powered, ns of RC (R337). -/
  rindAt : Nat := 0
  /-- The two shares of the key in each slot; the key is their exclusive or (R319). -/
  slots : Store (Nat × Nat) := []
  /-- The Cave core's private SRAM of 256 KiB, by offset (R24, R25); no rule says what its firmware puts there. -/
  sram : Memory := []
deriving DecidableEq, Repr

/-- An image of a bundle whose checks have passed (R358, R360). -/
structure BootImg where
  kind : Nat
  shared : Bool
  mask : Nat
  ver : Nat
  svn : Nat
  entry : Nat
  /-- The SHA-512 of its payload, 64 octets (R324, R361). -/
  digest : List Nat := []
deriving DecidableEq, Repr

/-- What the boot ROM holds beside its registers (R352 to R365). -/
structure Boot where
  /-- The BOOT_SRC pins as sampled when PWR_GOOD rose; a warm, fault or JTAG reset keeps them. -/
  strap : Nat := 0
  /-- The reference check of stage 4 has ended. -/
  clockDone : Bool := false
  /-- The images verified, in the order they passed; every image of the bundle has. -/
  imgs : List BootImg := []
  loaded : Bool := false
  /-- QSPI0 slots that have failed; a slot's images are being read. -/
  failed : List Nat := []
  slot : Option Nat := none
  /-- SEQ of the directories of slots A and B, none where a CRC is not valid, once the ROM has read both (R357). -/
  dirs : Option (Option Nat × Option Nat) := none
  /-- A host bundle is wanted; GO is written and waits for Bus Master Enable; its DMA read runs (R362). -/
  host : Bool := false
  go : Bool := false
  reading : Bool := false
  /-- QSPI0 has failed (R362, FALLBACK). -/
  qspiFailed : Bool := false
  /-- Entries of SYS_BOOT_TRACE written. -/
  traces : Nat := 0
  /-- A SYS_MODE write that waits for stage 8 (R365). -/
  mode : Option Nat := none
  /-- The core domain is held in reset by a boundary-scan instruction (R458). -/
  scanHeld : Bool := false
  /-- The last checks of the references, of the missing ones, and the last measurement of the crystal; ns of RC (R394, R399). -/
  monAt : Nat := 0
  recheckAt : Nat := 0
  xtalAt : Nat := 0
deriving DecidableEq, Repr

/-- What the policy cores hold beside their registers (R371 to R373, R468). -/
structure Pcr where
  /-- Shared policy memory: offset → octet; zero where unlisted (R355). -/
  mem : Memory := []
  /-- Local SRAM: core × 262,144 + offset → octet; zero where unlisted. -/
  sram : Memory := []
  /-- Cores a debugger has halted, and the HALT and DRAIN writes that wait for their resumption (R468). -/
  halted : Store Bool := []
  haltDue : Store Bool := []
  drainDue : Store Bool := []
  /-- Start of a core's drain, and of its watchdog period; ns of RC. -/
  drainAt : Store Nat := []
  beatAt : Store Nat := []
deriving DecidableEq, Repr

/-- A sleep entry in progress (R388): 1 WATCH or 2 VAULT; the state before, 0 ACTIVE or 1 HUSH; 0 taken, 1 entry pair stamped, 2 isolated;
the entry pair: RTC ticks and TSU ns; a HUSH write that waits for an abort (R401). -/
structure SleepEntry where
  target : Nat
  before : Nat
  phase : Nat := 0
  rtc : Nat := 0
  tsu : Nat := 0
  /-- RTC ticks since the entry pair. -/
  ticks : Nat := 0
  hush : Option Bool := none
deriving DecidableEq, Repr

/-- What the Cellar holds beside its registers (R380 to R400). -/
structure Cel where
  /-- The power state where software cannot read it: 0 core powered, 1 WATCH, 2 VAULT, 3 OFF, 4 the Cellar is dead. -/
  off : Nat := 0
  /-- The Cellar has powered up from nothing, and no boot has followed. -/
  fresh : Bool := true
  /-- PWR_GOOD is high; PWR_REQ is active. -/
  good : Bool := true
  req : Bool := true
  entry : Option SleepEntry := none
  /-- A wake has set PWR_REQ active and waits for PWR_GOOD; wake sources are not acted on (R392). -/
  waking : Bool := false
  backoff : Bool := false
  /-- The RTC, in ticks, and the correction of CEL_TRIM accumulated, 10^−9 ticks (R394). -/
  rtc : Nat := 0
  trim : Int := 0
  /-- RTC ticks since the Cellar powered up; the tick of the last change of PWR_REQ (R388, R392), of the start of the back-off (R392), of the last
  sample of the WATCH sampler (R393), of the Rind (R337) and of VBAT (R383), and of the last anchor (R395). -/
  ticks : Nat := 0
  reqAt : Nat := 0
  backAt : Nat := 0
  watchAt : Nat := 0
  rindAt : Nat := 0
  vbatAt : Nat := 0
  anchorAt : Nat := 0
  /-- The WAKE pins as debounced, a mask, and WAKE0 as its counter sees it; the tick of each pin's last change (R391, R393). -/
  pinNow : Nat := 0
  cntNow : Bool := false
  pinAt : Store Nat := []
  /-- The RTC has run on the internal oscillator (R400); the crystal has been accepted (R336). -/
  intOsc : Bool := false
  xtalOk : Bool := false
  /-- The lanes wait for the front ends after HUSH or an aborted sleep entry (R386, R390). -/
  resume : Bool := false
  /-- A load of the RTC waits for the next tick (R394). -/
  setDue : Bool := false
  /-- The exit pair waits for the first tick after the TSU switch (R396). -/
  exitDue : Bool := false
  /-- Consecutive mismatching samples of a Rind sensor (R337). -/
  deb : Store Nat := []
  /-- The Cellar secret: 0 absent, 1 present, 2 zeroed (R321, R338). -/
  secret : Nat := 0
  /-- The secret itself, 256 bits, 0 when there is none. -/
  secretKey : Nat := 0
  /-- A class A response has occurred since the secret was made (R327), and makes the change to RETURN due (R344). -/
  classA : Bool := false
  returnDue : Bool := false
  /-- PWR_GOOD fell in HOLD: the next boot acknowledges (R340). -/
  powerAck : Bool := false
deriving DecidableEq, Repr

/-- An entry of the Moraine (R413): its four words. -/
structure MorEntry where
  w0 : Nat
  w1 : Nat
  w2 : Nat
  w3 : Nat
deriving DecidableEq, Repr

/-- What the fault collector holds beside its registers (R404 to R413). -/
structure Flt where
  /-- Entries that wait for the Cellar, oldest first, at most 16. -/
  queue : List MorEntry := []
  /-- Entries lost since the last OVERRUN entry. -/
  lost : Nat := 0
  /-- A fault reset is under way (R411). -/
  resetPend : Bool := false
  /-- RC at BOOT_DONE (R411), and at the start of the escalation timer (R410). -/
  doneAt : Nat := 0
  escAt : Nat := 0
  /-- Single-bit errors corrected, by the fault source of their store (R26). -/
  corrected : Store Nat := []
  /-- The last poisoned word of each store, by its fault source: its address, and the unit it was delivered to (R26, FLT_FIRST.MASTER). -/
  poisoned : Store (Nat × Nat) := []
deriving DecidableEq, Repr

/-- A mirror record that the standby has not acknowledged (R425, R426): its MSEQ, its curds, the end of the bulk pass. -/
structure MirRec where
  mseq : Nat
  curds : List Nat := []
deriving DecidableEq, Repr

/-- The peer as its last valid heartbeat showed it (R420). -/
structure Peer where
  role : Nat := 0
  sync : Nat := 0
  epoch : Nat := 0
  yield : Bool := false
  mseq : Nat := 0
  /-- Its SEQ, and the TSU time in ns at which it arrived. -/
  seq : Nat := 0
  at_ : Nat := 0
deriving DecidableEq, Repr

/-- What the pair engine holds beside its registers (R418 to R437). -/
structure PairSt where
  peer : Option Peer := none
  /-- Heartbeat periods in a row without a valid heartbeat, and heartbeats sent. -/
  missed : Nat := 0
  seq : Nat := 0
  /-- SEQ and T_TX of the last heartbeats sent, newest first (R437). -/
  sent : List (Nat × Nat) := []
  /-- The level of PAIR_ALIVE_O; YIELD is set. -/
  aliveOut : Bool := false
  yield : Bool := false
  /-- Periods without an advance of the fabric token (R430). -/
  stale : Nat := 0
  /-- TAKE_BLOCKED has been raised for this loss (R423). -/
  blocked : Bool := false
  /-- ASN of a planned switch; it has happened here and waits for MARK (R435), with the MSEQ of MARK once it has come. -/
  switchAt : Nat := 0
  marking : Bool := false
  mark : Option Nat := none
  /-- Mirror records go to a standby (R425); records not acknowledged, oldest first; NIX values whose records have changed (R426). -/
  mirror : Bool := false
  queue : List MirRec := []
  dirty : List Nat := []
  /-- RC at which the takeover condition was met. -/
  takeAt : Nat := 0
  /-- RC of the last heartbeat sent, of the end of the last heartbeat period counted, of the last flush, of the last edge of PAIR_ALIVE_O and of
  the last check of the fabric token (R420, R426, R429, R430). -/
  sentAt : Nat := 0
  periodAt : Nat := 0
  flushAt : Nat := 0
  aliveAt : Nat := 0
  tokenAt : Nat := 0
  /-- A PTK exists (R421); its two shares. -/
  ptk : Bool := false
  ptkShares : Nat × Nat := (0, 0)
  /-- The standby waits for the journal commit of the last bulk record (R428). -/
  bulkLast : Bool := false
  /-- PAIR_TRACE entries written (R440). -/
  traces : Nat := 0
  /-- Nodes held in HALTED by a forced takeover (R434), and Wards whose broadcast waits for a group switch. -/
  halted : Store Bool := []
  wards : Store Bool := []
  /-- A forced takeover's conditions on LAGGING hold (R434). -/
  forced : Bool := false
deriving DecidableEq, Repr

/-- The state of the block. -/
structure State where
  /-- Register fields that every core reset sets to their Reset column: field key → value. -/
  core : Store Nat := []
  /-- Register fields that only a cold reset sets to their Reset column. -/
  kept : Store Nat := []
  /-- Cellar register fields. -/
  cellar : Store Nat := []
  /-- Commands that wait, first in, first out. -/
  pending : List Instr := []
  /-- RC of R245: the running count, in ns. -/
  rc : Nat := 0
  /-- What the exact count of the TSU cycles has beyond RC, 2^−32 ns; its low 32 bits are FRAC (R244, R245). -/
  frac : Nat := 0
  /-- TSU time of R244 less RC, in ns. -/
  tsuOfs : Int := 0
  /-- The model's own: how many free values have been taken. -/
  freeCtr : Nat := 0
  /-- What the last read of each requester returned (0 host, 1 to 8 PC0 to PC7, 9 JTAG). -/
  bus : Store Nat := []
  /-- Read latches of R94, R246 and the other latched pairs: requester × 16 + latch number → value. -/
  latch : Store Nat := []
  /-- The Node Store of R28, by NIX. -/
  nodes : Store Node := []
  hoar : Hoar := {}
  /-- The front ends, by number. -/
  fe : Store Fe := []
  /-- The duty-cycle regions of R62, by number. -/
  dc : Store DcRegion := []
  /-- The 128 demodulation slices, by number. -/
  slices : Store Slice := []
  /-- Sniffer assignments in force (R72), and the plans as they were assigned under. -/
  sniffers : List Triple := []
  plans : Store PlanNow := []
  /-- Start of the spectrum monitor's averaging interval, ns of RC (R91). -/
  specAt : Nat := 0
  mac : Mac := {}
  /-- The four lane sequencers, by number. -/
  lanes : Store Lane := []
  src : Src := {}
  qms : Qms := {}
  sec : Sec := {}
  /-- The journal device: no reset of the core touches it. -/
  jdev : Jdev := {}
  fwd : Fwd := {}
  /-- The four campaign slots. -/
  camps : Store Camp := []
  /-- Octets of encoding symbols written, modulo 1,024 (UPD_PRESS_KIB). -/
  pressOctets : Nat := 0
  /-- The campaign slot at which the Press looks first for its next turn (R307, R316). -/
  pressAt : Nat := 0
  hif : Hif := {}
  flt : Flt := {}
  pair : PairSt := {}
  tsu : Tsu := {}
  /-- The anchor pair of R395: RTC ticks and TSU time in ns; none when it is not valid. -/
  anchor : Option (Nat × Nat) := none
  fuse : Fuse := {}
  cave : Cave := {}
  boot : Boot := {}
  pcr : Pcr := {}
  cel : Cel := {}
deriving DecidableEq, Repr

/-- The state right after reset. Every register field stands at its Reset column (log entry 4 where it has none), every store is
empty, the queue is empty. -/
def State.reset : State := {}

end Sys2Proof.Machine
end

