-- ==== Sys2Proof/Machine/Descriptors.lean ====
section
/-!
DEFINITION. The words of the host rings (R281, R283 to R285, R288, R292 to R294, R303, R315): descriptors and data buffers read, completions and
event entries laid out. Words are little-endian; a reserved bit is ignored when read and 0 when written (R13).
-/

namespace Sys2Proof.Machine

/-- Word `i` of a buffer. -/
def wordAt (l : List Nat) (i : Nat) : Nat := l.getD i 0 % 2 ^ 32

/-- Words `i` and `i` + 1 of a buffer, the low one first. -/
def wordPair (l : List Nat) (i : Nat) : Nat := wordAt l i + 2 ^ 32 * wordAt l (i + 1)

/-- The eight words of a descriptor. -/
def descWords (d : Desc) : List Nat :=
  [d.w0.toNat, d.w1.toNat, d.w2.toNat, d.w3.toNat, d.w4.toNat, d.w5.toNat, d.w6.toNat, d.w7.toNat]

/-- A descriptor of eight words. -/
def descOf (l : List Nat) : Desc :=
  let w (i : Nat) : Word := BitVec.ofNat 32 (l.getD i 0)
  { w0 := w 0, w1 := w 1, w2 := w 2, w3 := w 3, w4 := w 4, w5 := w 5, w6 := w 6, w7 := w 7 }

/-! Descriptors -/

/-- A transmit descriptor (R281). -/
def txDescOf (d : Desc) : TxDesc :=
  let w2 := d.w2.toNat
  let w3 := d.w3.toNat
  { addr := d.w0.toNat + 2 ^ 32 * d.w1.toNat
    len := bitsOf w2 0 16
    bufsize := bitsOf w2 16 16
    kind := Fin.ofNat 4 (bitsOf w3 0 2)
    ward := Fin.ofNat 8 (bitsOf w3 2 3)
    cls := Fin.ofNat 8 (bitsOf w3 5 3)
    clsEn := w3.testBit 8
    port := Fin.ofNat 2 (bitsOf w3 9 1)
    tsReq := w3.testBit 10
    onestep := w3.testBit 11
    cookie := d.w4.toNat }

/-- ADDR and BUFSIZE of a receive descriptor (R284). -/
def rxAddr (d : Desc) : Nat := d.w0.toNat + 2 ^ 32 * d.w1.toNat
def rxSize (d : Desc) : Nat := bitsOf d.w2.toNat 0 16

/-- TAG and the data buffer of a command descriptor (R288). -/
def cmdHeadOf (d : Desc) : CmdHead :=
  { tag := bitsOf d.w0.toNat 16 16, addr := d.w4.toNat + 2 ^ 32 * d.w5.toNat, len := bitsOf d.w6.toNat 0 16 }

/-- OP of a command descriptor (R288). -/
def cmdOp (d : Desc) : Nat := bitsOf d.w0.toNat 0 8

/-- A schedule command's part of its descriptor (R288). -/
def schedCmdOf (ring : Fin 8) (d : Desc) : SchedCmd :=
  let h := cmdHeadOf d
  { ring := ring, tag := h.tag, addr := h.addr, len := h.len, hold := d.w0.toNat.testBit 8, announce := d.w0.toNat.testBit 9,
    baseGen := bitsOf d.w6.toNat 16 8 }

/-! Data buffers -/

/-- The PARENT word and the PATH words of a record (R30). -/
def modDataOf (parent path : Nat) : ModData :=
  { parentNix := bitsOf parent 0 18, parentRoot := parent.testBit 31, hops := bitsOf path 0 8, pathIx := bitsOf path 8 16,
    pathGen := bitsOf path 24 8 }

/-- A 24-octet wrapped key from word `i` on. -/
def keyAt (l : List Nat) (i : Nat) : Nat := (List.range 6).foldl (fun a k => a + wordAt l (i + k) * 2 ^ (32 * k)) 0

/-- The block of NODE_ADD (R292). -/
def nodeBlockOf (l : List Nat) : NodeBlock :=
  let m := modDataOf (wordAt l 3) (wordAt l 12)
  { eui := wordPair l 0
    short := bitsOf (wordAt l 2) 0 16
    ward := Fin.ofNat 8 (bitsOf (wordAt l 2) 16 3)
    isStatic := (wordAt l 2).testBit 24
    pinned := (wordAt l 2).testBit 25
    sleepy := (wordAt l 2).testBit 26
    parentNix := m.parentNix
    parentRoot := m.parentRoot
    keyIx := bitsOf (wordAt l 4) 0 18
    kgen := bitsOf (wordAt l 4) 18 4
    rateIx := bitsOf (wordAt l 5) 0 8
    burstIx := bitsOf (wordAt l 5) 8 8
    key := keyAt l 6
    hops := m.hops
    pathIx := m.pathIx
    pathGen := m.pathGen }

/-- A record from its 32 words (R30). STATE is not used (R293) and is left FREE here. -/
def nodeOf (l : List Nat) : Node :=
  let w := wordAt l
  let m := modDataOf (w 3) (w 16)
  { eui := wordPair l 0
    short := bitsOf (w 2) 0 16
    ward := bitsOf (w 2) 16 3
    isStatic := (w 2).testBit 24
    pinned := (w 2).testBit 25
    sleepy := (w 2).testBit 26
    oogSeen := (w 2).testBit 27
    updActive := (w 2).testBit 28
    moveCand := (w 2).testBit 29
    parentNix := m.parentNix
    parentRoot := m.parentRoot
    keyIx := bitsOf (w 4) 0 18
    kgen := bitsOf (w 4) 18 4
    txFc := w 5
    txFcCeil := w 6
    rxFc := w 7
    rxDsn := bitsOf (w 8) 0 8
    rxKgen := bitsOf (w 8) 8 8
    dupCnt := bitsOf (w 8) 16 16
    lastAsn := w 9 + 2 ^ 32 * bitsOf (w 10) 0 8
    drift := sgn 24 (bitsOf (w 10) 8 24)
    rssiAvg := sgn 8 (bitsOf (w 11) 0 8)
    lqiAvg := bitsOf (w 11) 8 8
    pdr := bitsOf (w 11) 16 16
    txAtt := w 12
    txOk := w 13
    rxOk := w 14
    rxOog := w 15
    hops := m.hops
    pathIx := m.pathIx
    pathGen := m.pathGen
    polTokens := w 21
    rateIx := bitsOf (w 22) 0 8
    burstIx := bitsOf (w 22) 8 8
    shpTokens := w 23
    nextElig := w 24
    imgId := bitsOf (w 27) 0 8
    symCnt := bitsOf (w 27) 8 24 }

/-- The kind that a code names (R182). -/
def fwtKindOf (k : Nat) : FwtKind :=
  match k % 4 with
  | 0 => .free
  | 1 => .node
  | 2 => .aliased
  | _ => .station

/-- A forwarding entry from word `i` on (R183). -/
def fwtEntryOf (l : List Nat) (i : Nat) : FwtEntry :=
  let a := wordAt l (i + 2)
  let b := wordAt l (i + 3)
  { key := wordPair l i
    kind := fwtKindOf (bitsOf a 0 2)
    ward := bitsOf a 2 3
    port := bitsOf a 5 3
    nix := bitsOf a 8 18
    moveCand := a.testBit 26
    movePort := bitsOf b 0 3
    moveCnt := bitsOf b 3 4
    hit := b.testBit 7
    age := bitsOf b 8 2
    isStatic := b.testBit 10
    shadow := b.testBit 11 }

/-- A Path Store entry (R202). -/
def pathOf (l : List Nat) : PathEntry :=
  let a := wordAt l 0
  let bits := (List.range 12).foldl (fun x k => x + wordAt l (2 + k) * 2 ^ (32 * k)) 0
  { owner := bitsOf a 0 18
    valid := a.testBit 23
    host := a.testBit 24
    ward := bitsOf a 25 3
    epoch := wordAt l 1
    hops := (List.range (bitsOf a 18 5)).map (fun k => bitsOf bits (24 * k) 18) }

/-- The cell record in ARG1 and ARG2 of a schedule command, NEXT ignored (R125, R291). -/
def cellSpecOf (arg1 arg2 : Nat) : CellSpec :=
  let r := arg1 + 2 ^ 32 * arg2
  { chofs := bitsOf r 0 10, nix := bitsOf r 10 18, span := bitsOf r 48 4, tt := bitsOf r 52 3, fe := bitsOf r 55 2, typ := bitsOf r 57 3,
    lock := r.testBit 60, tc := bitsOf r 61 3 }

/-- The manifest of R303 from word `i` on. -/
def manifestOf (l : List Nat) (i : Nat) : Manifest :=
  { magic := wordAt l i
    fmt := bitsOf (wordAt l (i + 1)) 0 16
    kind := bitsOf (wordAt l (i + 1)) 16 16
    imgVer := wordAt l (i + 2)
    minVer := wordAt l (i + 3)
    length := wordAt l (i + 4)
    hwId := wordAt l (i + 5)
    keyId := wordPair l (i + 6)
    digest := (List.range 16).map (fun k => wordAt l (i + 8 + k))
    sig := (List.range 16).map (fun k => wordAt l (i + 24 + k)) }

/-- The 40 words of a manifest (R303). -/
def manifestWords (m : Manifest) : List Nat :=
  [m.magic % 2 ^ 32, m.fmt % 2 ^ 16 + 2 ^ 16 * (m.kind % 2 ^ 16), m.imgVer % 2 ^ 32, m.minVer % 2 ^ 32, m.length % 2 ^ 32, m.hwId % 2 ^ 32,
    m.keyId % 2 ^ 32, m.keyId / 2 ^ 32 % 2 ^ 32] ++ (List.range 16).map (wordAt m.digest) ++ (List.range 16).map (wordAt m.sig)

/-- The start block of CAMP_START and the manifest behind it (R315). -/
def campBlockOf (l : List Nat) : CampBlock :=
  let w := wordAt l
  { addr := wordPair l 0
    len := w 2
    ward := Fin.ofNat 8 (bitsOf (w 3) 0 3)
    loc := (w 3).testBit 3
    fill := (w 3).testBit 4
    imgId := bitsOf (w 3) 8 8
    t := bitsOf (w 3) 16 16
    ws := w 4
    ovh := bitsOf (w 5) 0 8
    rounds := bitsOf (w 5) 8 8
    turn := bitsOf (w 5) 16 8
    annEvery := bitsOf (w 5) 24 8
    maxRate := bitsOf (w 6) 0 16
    man := manifestOf l 16 }

/-! Commands -/

/-- What a command meets that its descriptor and its data do not say. -/
structure CmdMeets where
  table : TableMeets := {}
  /-- The image of UCODE_LOAD, whether another load holds its target, and how long it takes, µs. -/
  img : Image := {}
  held : Bool := false
  us : Nat := 0
  /-- A trip meets a key operation (R343). -/
  abort : Bool := false
deriving DecidableEq, Repr

/-- The opcodes of R291, R315 and R346. -/
def cmdOps : List Nat :=
  [0x00, 0x01, 0x02, 0x03, 0x04, 0x05, 0x06, 0x10, 0x11, 0x12] ++ [0x20, 0x21, 0x22, 0x23, 0x24, 0x25, 0x26]
    ++ [0x30, 0x31, 0x32, 0x33, 0x34, 0x35, 0x40, 0x41] ++ [0x50, 0x51, 0x52, 0x53, 0x54, 0x55, 0x56] ++ [0x60, 0x61, 0x62, 0x63, 0x64]

/-- The command that descriptor `d` of command ring `ring` and its data buffer, as words, spell (R288, R290, R291, R315, R346, R375). -/
def commandOf (ring : Fin 8) (d : Desc) (l : List Nat) (m : CmdMeets) (t : Nat) : Instr :=
  let h := cmdHeadOf d
  let w0 := d.w0.toNat
  let a0 := d.w1.toNat
  let a1 := d.w2.toNat
  let a2 := d.w3.toNat
  let pos := d.w4.toNat
  let c := schedCmdOf ring d
  let sf : Fin 64 := Fin.ofNat 64 (bitsOf pos 0 6)
  let octets (n : Nat) : List (Fin 256) := (List.range n).map (fun k => Fin.ofNat 256 (wordAt l (k / 4) / 256 ^ (k % 4)))
  match cmdOp d with
  | 0x00 => .nop ring h.tag t
  | 0x01 => .nodeAdd ring h a0 (w0.testBit 12) (w0.testBit 10) (nodeBlockOf l) m.table t
  | 0x02 => .nodeEvict ring h.tag a0 t
  | 0x03 => .nodeQuiet ring h.tag a0 t
  | 0x04 => .nodeRead ring h a0 a1 (w0.testBit 11) t
  | 0x05 => .nodeModify ring h a0 a1 a2 (modDataOf (wordAt l 0) (wordAt l 1)) t
  | 0x06 => .nodeWrite ring h a0 (nodeOf l) t
  | 0x10 => .keySet ring h a0 (keyAt l 0) t
  | 0x11 => .keyRatchet ring h.tag a0 t
  | 0x12 => .groupKeyLoad ring h a0 a1 (keyAt l 0) t
  | 0x20 => .fwtInsert ring h (fwtEntryOf l 0) m.table t
  | 0x21 => .fwtDelete ring h.tag (a0 + 2 ^ 32 * a1) (fwtKindOf (bitsOf a2 0 2)) (Fin.ofNat 8 (bitsOf a2 2 3)) m.table t
  | 0x22 => .fwtRead ring h a0 a1 (w0.testBit 13) t
  | 0x23 => .fwtWrite ring h a0 a1 (fwtEntryOf l 0) (fwtEntryOf l 4) (fwtEntryOf l 8) (fwtEntryOf l 12) m.table t
  | 0x24 => .pathWrite ring h a0 (pathOf l) t
  | 0x25 => .pathRead ring h a0 a1 t
  | 0x26 => .saxRead ring h a0 a1 a2 t
  | 0x30 => .schedAdd c sf (bitsOf pos 16 16) (cellSpecOf a1 a2) t
  | 0x31 => .schedDel c a0 t
  | 0x32 => .schedMove c a0 sf (bitsOf pos 16 16) (cellSpecOf a1 a2) t
  | 0x33 => .schedRead c a0 t
  | 0x34 => .schedNode c a0 t
  | 0x35 => .schedSfClear c a0 t
  | 0x40 => .ebSet ring h a0 (octets h.len) t
  | 0x41 => .ucodeLoad ring h (bitsOf a0 0 4) a1 m.img m.held m.us t
  | 0x50 => .campStart ring h a0 (campBlockOf l) t
  | 0x51 => .campPause ring h.tag a0 t
  | 0x52 => .campResume ring h.tag a0 t
  | 0x53 => .campStop ring h.tag a0 t
  | 0x54 => .campRelease ring h.tag a0 t
  | 0x55 => .campEnrol ring h a0 a1 ((List.range (min a1 1024)).map (wordAt l)) t
  | 0x56 => .campLeave ring h a0 a1 ((List.range (min a1 1024)).map (wordAt l)) t
  | 0x60 => .keyGen ring h a0 m.abort t
  | 0x61 => .keyImport ring h a0 ((List.range (min a0 256)).map (fun k => keyAt l (6 * k))) m.abort t
  | 0x62 => .attest ring h ((List.range 8).map (wordAt l)) m.abort t
  | 0x63 => .aliasCert ring h t
  | 0x64 => .tlogAck ring h.tag (bitsOf a0 0 16) t
  | op => .badop ring op h.tag t

/-! Slots -/

/-- Six words of a slot. -/
def sixWords (l : List Nat) : List Nat := (List.range 6).map (wordAt l)

/-- The eight words of a slot that Bastis has written: PHASE is bit 31 of word 7 (R277, R283, R285, R288, R294). -/
def slotWords : Slot → List Nat
  | .blank => List.replicate 8 0
  | .tx tsRc tsNs tsSl sent trunc nop tsValid dropped whey err cookie ph =>
    [tsRc % 2 ^ 32, tsNs % 2 ^ 30, tsSl % 2 ^ 32,
      sent % 2 ^ 16 + ofBool trunc * 2 ^ 16 + ofBool nop * 2 ^ 17 + ofBool tsValid * 2 ^ 18 + ofBool dropped * 2 ^ 19 + whey % 64 * 2 ^ 20
        + err % 4 * 2 ^ 26,
      cookie % 2 ^ 32, 0, 0, ph % 2 * 2 ^ 31]
  | .rx words written trunc fmt why verdict dec nix ward ph _ =>
    sixWords words
      ++ [written % 2 ^ 16 + ofBool trunc * 2 ^ 16 + fmt % 8 * 2 ^ 17 + why % 32 * 2 ^ 20 + verdict % 16 * 2 ^ 25 + ofBool dec * 2 ^ 29,
        nix.getD 0 % 2 ^ 18 + ward % 8 * 2 ^ 18 + ofBool nix.isSome * 2 ^ 21 + ph % 2 * 2 ^ 31]
  | .cmd op result tag ret0 ret1 ret2 doneRc gen written trunc _ ph =>
    [op % 256 + result % 256 * 2 ^ 8 + tag % 65536 * 2 ^ 16, ret0 % 2 ^ 32, ret1 % 2 ^ 32, ret2 % 2 ^ 32, doneRc % 2 ^ 32, gen % 256,
      written % 65536 + ofBool trunc * 2 ^ 16, ph % 2 * 2 ^ 31]
  | .event code block inst arg words nix ward per ph =>
    (code % 256 + block % 32 * 2 ^ 8 + inst % 8 * 2 ^ 13 + arg % 65536 * 2 ^ 16) :: sixWords words
      ++ [nix.getD 0 % 2 ^ 18 + ward % 8 * 2 ^ 18 + ofBool nix.isSome * 2 ^ 21 + ofBool per * 2 ^ 22 + ph % 2 * 2 ^ 31]

end Sys2Proof.Machine
end

