-- ==== Sys2Proof/Machine/Fields.lean ====
section
/-!
DEFINITION. The fields of the register tables (R66 to R468), one `Fld` each, named as the manual names them:
`RFE_CTL.EN n` is field EN of RFE_CTL in frame `n`. A counter is named by its register alone.
A field gives its number, its element of the register array, its width, its Reset column and what keeps it over resets.
-/

namespace Sys2Proof.Machine

/-! Register tables of R66 02_radio_front_ends.md -/

def RFE_CTL.EN (n : Nat) : Fld := ⟨1, n, 1, 0, .core⟩
def RFE_CTL.TX_EN (n : Nat) : Fld := ⟨2, n, 1, 0, .core⟩
def RFE_CTL.COVER_EN (n : Nat) : Fld := ⟨3, n, 1, 0, .core⟩
def RFE_CTL.AUTO_CAL (n : Nat) : Fld := ⟨4, n, 1, 1, .core⟩
def RFE_CTL.ACK_PIX (n : Nat) : Fld := ⟨5, n, 4, 0, .core⟩
def RFE_CTL.EB_PIX (n : Nat) : Fld := ⟨6, n, 4, 0, .core⟩
def RFE_STS.STATE (n : Nat) : Fld := ⟨7, n, 3, 0, .core⟩
def RFE_STS.LOCKED (n : Nat) : Fld := ⟨8, n, 1, 0, .core⟩
def RFE_STS.CAL_DUE (n : Nat) : Fld := ⟨9, n, 1, 0, .core⟩
def RFE_STS.COVERING (n : Nat) : Fld := ⟨10, n, 1, 0, .core⟩
def RFE_STS.COVERED (n : Nat) : Fld := ⟨11, n, 1, 0, .core⟩
def RFE_TUNE.CENTRE (n : Nat) : Fld := ⟨12, n, 22, (([868000, 915000, 2441750, 460000] : List Nat).getD n 0), .core⟩
def RFE_SYN_STS.LAST_LOCK (n : Nat) : Fld := ⟨13, n, 16, 0, .core⟩
def RFE_SYN_STS.MOVE_PEND (n : Nat) : Fld := ⟨14, n, 1, 0, .core⟩
def RFE_CAL_CFG.TEMP_THR (n : Nat) : Fld := ⟨15, n, 5, 8, .core⟩
def RFE_CAL_CFG.AUTO_MASK (n : Nat) : Fld := ⟨16, n, 5, 15, .core⟩
def RFE_CAL_CFG.STARVE_S (n : Nat) : Fld := ⟨17, n, 8, 30, .core⟩
def RFE_CAL_CMD.STEPS (n : Nat) : Fld := ⟨18, n, 5, 0, .core⟩
def RFE_CAL_CMD.FORCE (n : Nat) : Fld := ⟨19, n, 1, 0, .core⟩
def RFE_CAL_STS.DONE (n : Nat) : Fld := ⟨20, n, 5, 0, .core⟩
def RFE_CAL_STS.RUNNING (n : Nat) : Fld := ⟨21, n, 3, 0, .core⟩
def RFE_CAL_STS.BUSY (n : Nat) : Fld := ⟨22, n, 1, 0, .core⟩
def RFE_CAL_STS.PENDING (n : Nat) : Fld := ⟨23, n, 5, 0, .core⟩
def RFE_CAL_STS.ERR (n : Nat) : Fld := ⟨24, n, 1, 0, .core⟩
def RFE_TEMP.NOW (n : Nat) : Fld := ⟨25, n, 8, 0, .core⟩
def RFE_TEMP.AT_CAL (n : Nat) : Fld := ⟨26, n, 8, 0, .core⟩
def RFE_CAL_TIME.LAST (n : Nat) : Fld := ⟨27, n, 16, 0, .core⟩
def RFE_COVER_STS.PHASE (n : Nat) : Fld := ⟨28, n, 3, 0, .core⟩
def RFE_COVER_STS.ABORTED (n : Nat) : Fld := ⟨29, n, 1, 0, .core⟩
def RFE_COVER_STS.COUNT (n : Nat) : Fld := ⟨30, n, 16, 0, .core⟩
def RFE_PA_CTL.PA_LEAD (n : Nat) : Fld := ⟨31, n, 7, 40, .core⟩
def RFE_PA_CTL.PA_LAG (n : Nat) : Fld := ⟨32, n, 7, 8, .core⟩
def RFE_PA_CTL.PA_POL (n : Nat) : Fld := ⟨33, n, 1, 0, .core⟩
def RFE_PA_CTL.LNA_POL (n : Nat) : Fld := ⟨34, n, 1, 0, .core⟩
def RFE_PA_CTL.TR_POL (n : Nat) : Fld := ⟨35, n, 1, 0, .core⟩
def RFE_PA_CTL.EXT_PA (n : Nat) : Fld := ⟨36, n, 1, 0, .core⟩
def RFE_PA_CTL.EXT_LNA (n : Nat) : Fld := ⟨37, n, 1, 0, .core⟩
def RFE_ANT_CTL.ANT_RX (n : Nat) : Fld := ⟨38, n, 2, 0, .core⟩
def RFE_ANT_CTL.ANT_TX (n : Nat) : Fld := ⟨39, n, 2, 0, .core⟩
def RFE_ANT_CTL.ANT_IDLE (n : Nat) : Fld := ⟨40, n, 2, 0, .core⟩
def RFE_AGC_CFG.BACKOFF (n : Nat) : Fld := ⟨41, n, 6, 12, .core⟩
def RFE_AGC_CFG.DECAY_MS (n : Nat) : Fld := ⟨42, n, 5, 4, .core⟩
def RFE_AGC_CFG.FREEZE (n : Nat) : Fld := ⟨43, n, 1, 0, .core⟩
def RFE_AGC_STS.GAIN (n : Nat) : Fld := ⟨44, n, 7, 0, .core⟩
def RFE_AGC_STS.PEAK (n : Nat) : Fld := ⟨45, n, 8, 0, .core⟩
def RFE_AGC_STS.STEPS (n : Nat) : Fld := ⟨46, n, 16, 0, .core⟩
def RFE_BLANK.MASK (n : Nat) : Fld := ⟨47, n, 4, (([3, 3, 4, 11] : List Nat).getD n 0), .core⟩
def RFE_RSSI_OFS.OFS (n : Nat) : Fld := ⟨48, n, 8, 0, .core⟩
def RFE_LBT_STS.LAST_ED (n : Nat) : Fld := ⟨49, n, 8, 0, .core⟩
def RFE_LBT_STS.LAST_BUSY (n : Nat) : Fld := ⟨50, n, 1, 0, .core⟩
def RFE_INT_STS.LOCK_FAIL (n : Nat) : Fld := ⟨51, n, 1, 0, .core⟩
def RFE_INT_STS.CAL_DONE (n : Nat) : Fld := ⟨52, n, 1, 0, .core⟩
def RFE_INT_STS.CAL_ERR (n : Nat) : Fld := ⟨53, n, 1, 0, .core⟩
def RFE_INT_STS.CAL_STARVED (n : Nat) : Fld := ⟨54, n, 1, 0, .core⟩
def RFE_INT_STS.DC_NEAR (n : Nat) : Fld := ⟨55, n, 1, 0, .core⟩
def RFE_INT_STS.TX_LATE (n : Nat) : Fld := ⟨56, n, 1, 0, .core⟩
def RFE_INT_EN.LOCK_FAIL (n : Nat) : Fld := ⟨57, n, 1, 0, .core⟩
def RFE_INT_EN.CAL_DONE (n : Nat) : Fld := ⟨58, n, 1, 0, .core⟩
def RFE_INT_EN.CAL_ERR (n : Nat) : Fld := ⟨59, n, 1, 0, .core⟩
def RFE_INT_EN.CAL_STARVED (n : Nat) : Fld := ⟨60, n, 1, 0, .core⟩
def RFE_INT_EN.DC_NEAR (n : Nat) : Fld := ⟨61, n, 1, 0, .core⟩
def RFE_INT_EN.TX_LATE (n : Nat) : Fld := ⟨62, n, 1, 0, .core⟩
def RFE_PIN_OVR.OVR_EN (n : Nat) : Fld := ⟨63, n, 1, 0, .core⟩
def RFE_PIN_OVR.PA_EN (n : Nat) : Fld := ⟨64, n, 1, 0, .core⟩
def RFE_PIN_OVR.LNA_EN (n : Nat) : Fld := ⟨65, n, 1, 0, .core⟩
def RFE_PIN_OVR.TR (n : Nat) : Fld := ⟨66, n, 1, 0, .core⟩
def RFE_PIN_OVR.ANT (n : Nat) : Fld := ⟨67, n, 2, 0, .core⟩
def RFE_TX_TEST.CW_EN (n : Nat) : Fld := ⟨68, n, 1, 0, .core⟩
def RFE_TX_TEST.PIX (n : Nat) : Fld := ⟨69, n, 4, 0, .core⟩
def RFE_TX_TEST.OFFSET (n : Nat) : Fld := ⟨70, n, 20, 0, .core⟩
def RFE_TX_AIR.AIR (n : Nat) : Fld := ⟨71, n, 32, 0, .core⟩
def RFE_TX_LATE (n : Nat) : Fld := ⟨72, n, 32, 0, .core⟩
def RFE_TX_OUTSIDE (n : Nat) : Fld := ⟨73, n, 32, 0, .core⟩
def RFE_RX_BLANKED (n : Nat) : Fld := ⟨74, n, 32, 0, .core⟩
def RFE_DC_BLOCK (n : Nat) : Fld := ⟨75, n, 32, 0, .core⟩
def RFE_DC_ACK_BLOCK (n : Nat) : Fld := ⟨76, n, 32, 0, .core⟩
def RFE_LBT_BUSY (n : Nat) : Fld := ⟨77, n, 32, 0, .core⟩
def RFE_CAL_DONE (n : Nat) : Fld := ⟨78, n, 32, 0, .core⟩
def RFE_SYN_MOVES (n : Nat) : Fld := ⟨79, n, 32, 0, .core⟩
def RFE_LOCK_FAIL (n : Nat) : Fld := ⟨80, n, 32, 0, .core⟩
def RFE_TX_FRAMES (n : Nat) : Fld := ⟨81, n, 32, 0, .core⟩
def RFE_DC_LO.LO_KHZ (n : Nat) (i : Nat) : Fld := ⟨82, n * 4 + i, 22, 0, .core⟩
def RFE_DC_LO.LBT_MIN (n : Nat) (i : Nat) : Fld := ⟨83, n * 4 + i, 10, 0, .core⟩
def RFE_DC_HI.HI_KHZ (n : Nat) (i : Nat) : Fld := ⟨84, n * 4 + i, 22, 0, .core⟩
def RFE_DC_HI.LBT_THR (n : Nat) (i : Nat) : Fld := ⟨85, n * 4 + i, 8, 166, .core⟩
def RFE_DC_CFG.LIMIT (n : Nat) (i : Nat) : Fld := ⟨86, n * 4 + i, 14, 10000, .core⟩
def RFE_DC_CFG.WINDOW (n : Nat) (i : Nat) : Fld := ⟨87, n * 4 + i, 4, 4, .core⟩
def RFE_DC_CFG.ACK_RES (n : Nat) (i : Nat) : Fld := ⟨88, n * 4 + i, 8, 0, .core⟩
def RFE_DC_CFG.LBT_EN (n : Nat) (i : Nat) : Fld := ⟨89, n * 4 + i, 1, 0, .core⟩
def RFE_DC_CFG.EN (n : Nat) (i : Nat) : Fld := ⟨90, n * 4 + i, 1, 0, .core⟩
def RFE_DC_USED.USED (n : Nat) (i : Nat) : Fld := ⟨91, n * 4 + i, 14, 0, .core⟩
def RFE_PWR_TBL.CODE (n : Nat) (i : Nat) : Fld := ⟨92, n * 16 + i, 7, 40, .core⟩
def RFE_CAL_RES.C0 (n : Nat) (i : Nat) : Fld := ⟨93, n * 64 + i, 16, 0, .kept⟩
def RFE_CAL_RES.C1 (n : Nat) (i : Nat) : Fld := ⟨94, n * 64 + i, 16, 0, .kept⟩
/-! Register tables of R91 03_omnichannel_receive.md -/

def CHZ_CFG.EN : Fld := ⟨95, 0, 1, 0, .core⟩
def CHZ_CFG.NOCELL_HOST : Fld := ⟨96, 0, 1, 0, .core⟩
def CHZ_CFG.BADFCS_HOST : Fld := ⟨97, 0, 1, 0, .core⟩
def CHZ_CFG.DUP_EN : Fld := ⟨98, 0, 1, 1, .core⟩
def CHZ_CFG.AVG_SHIFT : Fld := ⟨99, 0, 3, 3, .core⟩
def CHZ_CFG.OFDM_RES : Fld := ⟨100, 0, 6, 16, .core⟩
def CHZ_WIDTH.THAW_W : Fld := ⟨101, 0, 2, 0, .core⟩
def CHZ_WIDTH.FLOE_W : Fld := ⟨102, 0, 2, 0, .core⟩
def CHZ_WIDTH.RIME_W : Fld := ⟨103, 0, 2, 1, .core⟩
def CHZ_ARB.PREEMPT_EN : Fld := ⟨104, 0, 1, 1, .core⟩
def CHZ_ARB.CLASS_UP_EN : Fld := ⟨105, 0, 1, 1, .core⟩
def CHZ_ARB.Q_HYST : Fld := ⟨106, 0, 8, 12, .core⟩
def CHZ_STS.SNIFF_WANT : Fld := ⟨107, 0, 11, 0, .core⟩
def CHZ_STS.SNIFF_SHORT : Fld := ⟨108, 0, 1, 0, .core⟩
def CHZ_STS.WIDTH_NOW : Fld := ⟨109, 0, 1, 0, .core⟩
def CHZ_INT_STS.SNIFF_SHORT : Fld := ⟨110, 0, 1, 0, .core⟩
def CHZ_INT_STS.PLAN_CLAMP : Fld := ⟨111, 0, 1, 0, .core⟩
def CHZ_INT_STS.FIFO_OVF : Fld := ⟨112, 0, 1, 0, .core⟩
def CHZ_INT_STS.LOSS_A : Fld := ⟨113, 0, 1, 0, .core⟩
def CHZ_INT_EN.SNIFF_SHORT : Fld := ⟨114, 0, 1, 0, .core⟩
def CHZ_INT_EN.PLAN_CLAMP : Fld := ⟨115, 0, 1, 0, .core⟩
def CHZ_INT_EN.FIFO_OVF : Fld := ⟨116, 0, 1, 0, .core⟩
def CHZ_INT_EN.LOSS_A : Fld := ⟨117, 0, 1, 0, .core⟩
def CHZ_SLICE_BUSY.BUSY : Fld := ⟨118, 0, 8, 0, .core⟩
def CHZ_SLICE_PEAK.PEAK : Fld := ⟨119, 0, 8, 0, .core⟩
def CHZ_SPEC_CTL.FE : Fld := ⟨120, 0, 2, 0, .core⟩
def CHZ_SPEC_CTL.START : Fld := ⟨121, 0, 9, 0, .core⟩
def CHZ_SPEC_CTL.AVG : Fld := ⟨122, 0, 4, 4, .core⟩
def CHZ_SPEC_CTL.RUN : Fld := ⟨123, 0, 1, 0, .core⟩
def CHZ_SNIFF_USE.USED (i : Nat) : Fld := ⟨124, i, 11, 0, .core⟩
def CHZ_TS_OFS.OFS (i : Nat) : Fld := ⟨125, i, 16, 0, .core⟩
def CHZ_OOG.LIMIT (i : Nat) : Fld := ⟨126, i, 14, 0, .core⟩
def CHZ_OOG.EFF (i : Nat) : Fld := ⟨127, i, 14, 0, .core⟩
def CHZ_LOST_A : Fld := ⟨128, 0, 32, 0, .core⟩
def CHZ_LOST_B : Fld := ⟨129, 0, 32, 0, .core⟩
def CHZ_LOST_C : Fld := ⟨130, 0, 32, 0, .core⟩
def CHZ_LOST_OFDM : Fld := ⟨131, 0, 32, 0, .core⟩
def CHZ_PREEMPT_SYNC : Fld := ⟨132, 0, 32, 0, .core⟩
def CHZ_PREEMPT_FRAME : Fld := ⟨133, 0, 32, 0, .core⟩
def CHZ_CLASS_UP : Fld := ⟨134, 0, 32, 0, .core⟩
def CHZ_DET (i : Nat) : Fld := ⟨135, i, 32, 0, .core⟩
def CHZ_NO_SFD (i : Nat) : Fld := ⟨136, i, 32, 0, .core⟩
def CHZ_PHR_ERR (i : Nat) : Fld := ⟨137, i, 32, 0, .core⟩
def CHZ_MODE_SW (i : Nat) : Fld := ⟨138, i, 32, 0, .core⟩
def CHZ_LEN_ERR (i : Nat) : Fld := ⟨139, i, 32, 0, .core⟩
def CHZ_FCS_ERR (i : Nat) : Fld := ⟨140, i, 32, 0, .core⟩
def CHZ_RX_OK (i : Nat) : Fld := ⟨141, i, 32, 0, .core⟩
def CHZ_DUP_SUP (i : Nat) : Fld := ⟨142, i, 32, 0, .core⟩
def CHZ_OOG_IN (i : Nat) : Fld := ⟨143, i, 32, 0, .core⟩
def CHZ_OOG_OUT (i : Nat) : Fld := ⟨144, i, 32, 0, .core⟩
def CHZ_NOCELL (i : Nat) : Fld := ⟨145, i, 32, 0, .core⟩
def CHZ_FIFO_OVF (i : Nat) : Fld := ⟨146, i, 32, 0, .core⟩
def CHZ_CLASS_CFG.DET_SYM (i : Nat) : Fld := ⟨147, i, 6, (([32, 32, 32, 32, 32, 32, 0, 0, 0, 0, 5] : List Nat).getD i 0), .core⟩
def CHZ_CLASS_CFG.DET_THR (i : Nat) : Fld := ⟨148, i, 8, 16, .core⟩
def CHZ_CLASS_CFG.PRE_MAX (i : Nat) : Fld := ⟨149, i, 8, 16, .core⟩
def CHZ_PLAN_FE.FE_MASK (i : Nat) : Fld := ⟨150, i, 4, 0, .core⟩
def CHZ_PLAN_FE.EN (i : Nat) : Fld := ⟨151, i, 1, 0, .core⟩
def CHZ_PLAN_FE.ALWAYS (i : Nat) : Fld := ⟨152, i, 1, 0, .core⟩
def CHZ_PLAN_F0.F0_KHZ (i : Nat) : Fld := ⟨153, i, 22, 0, .core⟩
def CHZ_PLAN_GEO.SPACING (i : Nat) : Fld := ⟨154, i, 3, 0, .core⟩
def CHZ_PLAN_GEO.COUNT (i : Nat) : Fld := ⟨155, i, 9, 1, .core⟩
def CHZ_PLAN_GEO.MAX_PSDU (i : Nat) : Fld := ⟨156, i, 11, 2047, .core⟩
def CHZ_PLAN_PHY.CLASS_MASK (i : Nat) : Fld := ⟨157, i, 11, 0, .core⟩
def CHZ_PLAN_PHY.HIDX (i : Nat) : Fld := ⟨158, i, 1, 0, .core⟩
def CHZ_PLAN_PHY.SFD_SET (i : Nat) : Fld := ⟨159, i, 1, 0, .core⟩
def CHZ_PLAN_PHY.FEC_RSC (i : Nat) : Fld := ⟨160, i, 1, 0, .core⟩
def CHZ_PLAN_PHY.INTLV (i : Nat) : Fld := ⟨161, i, 1, 0, .core⟩
def CHZ_PLAN_PHY.PRE_LEN (i : Nat) : Fld := ⟨162, i, 8, 8, .core⟩
def CHZ_PLAN_STS.IN_WIN (i : Nat) : Fld := ⟨163, i, 9, 0, .core⟩
def CHZ_PLAN_STS.SNIFF (i : Nat) : Fld := ⟨164, i, 11, 0, .core⟩
def CHZ_PLAN_STS.CLAMPED (i : Nat) : Fld := ⟨165, i, 1, 0, .core⟩
def CHZ_PLAN_DET (i : Nat) : Fld := ⟨166, i, 32, 0, .core⟩
def CHZ_SLICE_STS.STATE (i : Nat) : Fld := ⟨167, i, 2, 0, .core⟩
def CHZ_SLICE_STS.CLASS (i : Nat) : Fld := ⟨168, i, 2, 0, .core⟩
def CHZ_SLICE_STS.FE (i : Nat) : Fld := ⟨169, i, 2, 0, .core⟩
def CHZ_SLICE_STS.PLAN (i : Nat) : Fld := ⟨170, i, 4, 0, .core⟩
def CHZ_SLICE_STS.CHAN (i : Nat) : Fld := ⟨171, i, 9, 0, .core⟩
def CHZ_SLICE_STS.PHYC (i : Nat) : Fld := ⟨172, i, 4, 0, .core⟩
def CHZ_SLICE_STS.OFDM_CAP (i : Nat) : Fld := ⟨173, i, 1, (if i < 32 then 1 else 0), .core⟩
def CHZ_SLICE_FRAMES (i : Nat) : Fld := ⟨174, i, 32, 0, .core⟩
def CHZ_SPEC.PWR (i : Nat) : Fld := ⟨175, i, 8, 128, .core⟩
def CHZ_SPEC.MAX (i : Nat) : Fld := ⟨176, i, 8, 128, .core⟩
/-! Register tables of R121 04_slots_and_acknowledgement.md -/

def MAC_CFG.EN : Fld := ⟨177, 0, 1, 0, .core⟩
def MAC_CFG.TRACE_EN : Fld := ⟨178, 0, 1, 0, .core⟩
def MAC_STS.ASN_RUN : Fld := ⟨179, 0, 1, 0, .core⟩
def MAC_STS.TRACE_WP : Fld := ⟨180, 0, 6, 0, .core⟩
def MAC_SLOT_LEN.LEN_US : Fld := ⟨181, 0, 18, 10000, .core⟩
def MAC_ASN_LO.ASN : Fld := ⟨182, 0, 32, 0, .core⟩
def MAC_ASN_HI.ASN : Fld := ⟨183, 0, 8, 0, .core⟩
def MAC_INT_STS.HS_SWITCHED : Fld := ⟨184, 0, 1, 0, .core⟩
def MAC_INT_STS.HS_LATE : Fld := ⟨185, 0, 1, 0, .core⟩
def MAC_INT_STS.UC_SWAPPED : Fld := ⟨186, 0, 1, 0, .core⟩
def MAC_INT_STS.UC_BAD : Fld := ⟨187, 0, 1, 0, .core⟩
def MAC_INT_STS.WARD_FULL : Fld := ⟨188, 0, 1, 0, .core⟩
def MAC_INT_STS.DOMAIN_FULL : Fld := ⟨189, 0, 1, 0, .core⟩
def MAC_INT_STS.ACK_SKIP : Fld := ⟨190, 0, 1, 0, .core⟩
def MAC_INT_STS.TX_MISSED : Fld := ⟨191, 0, 1, 0, .core⟩
def MAC_INT_STS.LS_HANG : Fld := ⟨192, 0, 1, 0, .core⟩
def MAC_INT_EN.HS_SWITCHED : Fld := ⟨193, 0, 1, 0, .core⟩
def MAC_INT_EN.HS_LATE : Fld := ⟨194, 0, 1, 0, .core⟩
def MAC_INT_EN.UC_SWAPPED : Fld := ⟨195, 0, 1, 0, .core⟩
def MAC_INT_EN.UC_BAD : Fld := ⟨196, 0, 1, 0, .core⟩
def MAC_INT_EN.WARD_FULL : Fld := ⟨197, 0, 1, 0, .core⟩
def MAC_INT_EN.DOMAIN_FULL : Fld := ⟨198, 0, 1, 0, .core⟩
def MAC_INT_EN.ACK_SKIP : Fld := ⟨199, 0, 1, 0, .core⟩
def MAC_INT_EN.TX_MISSED : Fld := ⟨200, 0, 1, 0, .core⟩
def MAC_INT_EN.LS_HANG : Fld := ⟨201, 0, 1, 0, .core⟩
def MAC_ACK_CFG.SEC : Fld := ⟨202, 0, 1, 1, .core⟩
def MAC_ACK_CFG.TCX_EN : Fld := ⟨203, 0, 1, 1, .core⟩
def MAC_ACK_CFG.ACK_MAX : Fld := ⟨204, 0, 6, 8, .core⟩
def MAC_TCX_OUI.OUI : Fld := ⟨205, 0, 24, 0, .core⟩
def MAC_EB_CFG.SEC : Fld := ⟨206, 0, 1, 1, .core⟩
def MAC_EB_CFG.TS_FULL : Fld := ⟨207, 0, 1, 0, .core⟩
def MAC_EB_CFG.JOIN_METRIC : Fld := ⟨208, 0, 8, 0, .core⟩
def MAC_DRIFT_CFG.SHIFT : Fld := ⟨209, 0, 3, 2, .core⟩
def MAC_DRIFT_CFG.MIN_S : Fld := ⟨210, 0, 8, 1, .core⟩
def MAC_DRIFT_CFG.PDR_SHIFT : Fld := ⟨211, 0, 4, 4, .core⟩
def MAC_RETRY_CFG.MAX_RETRY : Fld := ⟨212, 0, 4, 3, .core⟩
def MAC_RETRY_CFG.MIN_BE : Fld := ⟨213, 0, 4, 1, .core⟩
def MAC_RETRY_CFG.MAX_BE : Fld := ⟨214, 0, 4, 7, .core⟩
def MAC_JOIN_CFG.ACK_JOIN : Fld := ⟨215, 0, 1, 0, .core⟩
def MAC_JOIN_CFG.JOIN_RATE : Fld := ⟨216, 0, 8, 10, .core⟩
def MAC_EUI_LO.EUI : Fld := ⟨217, 0, 32, Config.euiLo, .kept⟩
def MAC_EUI_HI.EUI : Fld := ⟨218, 0, 32, Config.euiHi, .kept⟩
def MAC_HS_IDX.ENTRY : Fld := ⟨219, 0, 10, 0, .core⟩
def MAC_HS_IDX.HS : Fld := ⟨220, 0, 4, 0, .core⟩
def MAC_HS_IDX.AUTO : Fld := ⟨221, 0, 1, 1, .core⟩
def MAC_HS_DATA.PLAN : Fld := ⟨222, 0, 4, 0, .core⟩
def MAC_HS_DATA.CHAN : Fld := ⟨223, 0, 9, 0, .core⟩
def MAC_HS_CTL.MASK : Fld := ⟨224, 0, 16, 0, .core⟩
def MAC_HS_CTL.ARM : Fld := ⟨225, 0, 1, 0, .core⟩
def MAC_HS_SW_LO.ASN : Fld := ⟨226, 0, 32, 0, .core⟩
def MAC_HS_SW_HI.ASN : Fld := ⟨227, 0, 8, 0, .core⟩
def MAC_NIX_FREE.COUNT : Fld := ⟨228, 0, 19, 262144, .core⟩
def MAC_ACK_BURSTS.COUNT : Fld := ⟨229, 0, 32, 0, .core⟩
def MAC_BURST_PEAK.PEAK : Fld := ⟨230, 0, 6, 0, .core⟩
def MAC_ACK_MARGIN.MIN : Fld := ⟨231, 0, 16, 65535, .core⟩
def MAC_WARD_PAN.PAN_ID (i : Nat) : Fld := ⟨232, i, 16, 65535, .core⟩
def MAC_WARD_PAN.EN (i : Nat) : Fld := ⟨233, i, 1, 0, .core⟩
def MAC_WARD_SA.CURSOR (i : Nat) : Fld := ⟨234, i, 16, 0, .core⟩
def MAC_WARD_SA.COUNT (i : Nat) : Fld := ⟨235, i, 16, 0, .core⟩
def MAC_WARD_QUIET.TIMEOUT_S (i : Nat) : Fld := ⟨236, i, 16, 3600, .core⟩
def MAC_HS_LEN.SHADOW (i : Nat) : Fld := ⟨237, i, 11, 1, .core⟩
def MAC_HS_LEN.ACTIVE (i : Nat) : Fld := ⟨238, i, 11, 1, .core⟩
def MAC_TT_TX.TX_OFS (i : Nat) : Fld := ⟨239, i, 18, 2120, .core⟩
def MAC_TT_TX.TX_COMMIT (i : Nat) : Fld := ⟨240, i, 14, 320, .core⟩
def MAC_TT_GUARD.GUARD (i : Nat) : Fld := ⟨241, i, 18, 1100, .core⟩
def MAC_TT_GUARD.PRESHIFT_EN (i : Nat) : Fld := ⟨242, i, 1, 1, .core⟩
def MAC_TT_ACK.TX_ACK_DELAY (i : Nat) : Fld := ⟨243, i, 14, 1000, .core⟩
def MAC_TT_RXACK.RX_ACK_DELAY (i : Nat) : Fld := ⟨244, i, 14, 1000, .core⟩
def MAC_TT_RXACK.ACK_WAIT (i : Nat) : Fld := ⟨245, i, 14, 400, .core⟩
def MAC_TT_CCA.CCA_EN (i : Nat) : Fld := ⟨246, i, 1, 0, .core⟩
def MAC_TT_CCA.CCA_LEN (i : Nat) : Fld := ⟨247, i, 10, 128, .core⟩
def MAC_TT_CCA.CCA_THR (i : Nat) : Fld := ⟨248, i, 8, 171, .core⟩
def MAC_TT_OPT.EN (i : Nat) : Fld := ⟨249, i, 1, (if i < 1 then 1 else 0), .core⟩
def MAC_TT_OPT.ACK_EN (i : Nat) : Fld := ⟨250, i, 1, 1, .core⟩
def MAC_TT_PIX.DATA_PIX (i : Nat) : Fld := ⟨251, i, 4, 0, .core⟩
def MAC_TT_PIX.RETRY_PIX (i : Nat) : Fld := ⟨252, i, 4, 0, .core⟩
def MAC_TT_EFF.EARLY (i : Nat) : Fld := ⟨253, i, 14, 220, .core⟩
def MAC_TT_EFF.LATE (i : Nat) : Fld := ⟨254, i, 17, 550, .core⟩
def MAC_TRACE.WORD (i : Nat) : Fld := ⟨255, i, 32, 0, .core⟩
def MAC_W_RX_ACCEPT (n : Nat) : Fld := ⟨256, n, 32, 0, .core⟩
def MAC_W_RX_REPEAT (n : Nat) : Fld := ⟨257, n, 32, 0, .core⟩
def MAC_W_RX_REPLAY (n : Nat) : Fld := ⟨258, n, 32, 0, .core⟩
def MAC_W_RX_MIC_FAIL (n : Nat) : Fld := ⟨259, n, 32, 0, .core⟩
def MAC_W_RX_NOSRC (n : Nat) : Fld := ⟨260, n, 32, 0, .core⟩
def MAC_W_RX_UNSEC (n : Nat) : Fld := ⟨261, n, 32, 0, .core⟩
def MAC_W_RX_FENCED (n : Nat) : Fld := ⟨262, n, 32, 0, .core⟩
def MAC_W_RX_NOTME (n : Nat) : Fld := ⟨263, n, 32, 0, .core⟩
def MAC_W_TX_ATT (n : Nat) : Fld := ⟨264, n, 32, 0, .core⟩
def MAC_W_TX_OK (n : Nat) : Fld := ⟨265, n, 32, 0, .core⟩
def MAC_W_TX_RETRY_DROP (n : Nat) : Fld := ⟨266, n, 32, 0, .core⟩
def MAC_W_TX_OVERSIZE (n : Nat) : Fld := ⟨267, n, 32, 0, .core⟩
def MAC_W_JOIN_REQ (n : Nat) : Fld := ⟨268, n, 32, 0, .core⟩
def MAC_W_JOIN_DROP (n : Nat) : Fld := ⟨269, n, 32, 0, .core⟩
def MAC_W_EB_SENT (n : Nat) : Fld := ⟨270, n, 32, 0, .core⟩
def MAC_W_PRESHIFT_LIM (n : Nat) : Fld := ⟨271, n, 32, 0, .core⟩
def MAC_LS_CTL.EN (n : Nat) : Fld := ⟨272, n, 1, 0, .core⟩
def MAC_LS_STS.BANK (n : Nat) : Fld := ⟨273, n, 1, 0, .core⟩
def MAC_LS_STS.STATE (n : Nat) : Fld := ⟨274, n, 3, 0, .core⟩
def MAC_LS_STS.IN_SPAN (n : Nat) : Fld := ⟨275, n, 1, 0, .core⟩
def MAC_LS_SWAP.SF (n : Nat) : Fld := ⟨276, n, 6, 0, .core⟩
def MAC_LS_SWAP.ARM (n : Nat) : Fld := ⟨277, n, 1, 0, .core⟩
def MAC_LS_SWAP.BAD (n : Nat) : Fld := ⟨278, n, 1, 0, .core⟩
def MAC_LS_UC_IDX.WORD (n : Nat) : Fld := ⟨279, n, 11, 0, .core⟩
def MAC_LS_UC_DATA.DATA (n : Nat) : Fld := ⟨280, n, 32, 0, .core⟩
def MAC_LS_VER.ACTIVE (n : Nat) : Fld := ⟨281, n, 16, 0, .core⟩
def MAC_LS_VER.INACTIVE (n : Nat) : Fld := ⟨282, n, 16, 0, .core⟩
def MAC_LS_VHIST.COUNT (n : Nat) (i : Nat) : Fld := ⟨283, n * 16 + i, 32, 0, .core⟩
def MAC_LS_ACK_SENT (n : Nat) : Fld := ⟨284, n, 32, 0, .core⟩
def MAC_LS_ACK_SKIP (n : Nat) : Fld := ⟨285, n, 32, 0, .core⟩
def MAC_LS_ACK_BUSY (n : Nat) : Fld := ⟨286, n, 32, 0, .core⟩
def MAC_LS_ACK_FULL (n : Nat) : Fld := ⟨287, n, 32, 0, .core⟩
def MAC_LS_ACK_SAMESLOT (n : Nat) : Fld := ⟨288, n, 32, 0, .core⟩
def MAC_LS_TX_SENT (n : Nat) : Fld := ⟨289, n, 32, 0, .core⟩
def MAC_LS_TX_MISSED (n : Nat) : Fld := ⟨290, n, 32, 0, .core⟩
def MAC_LS_TX_NOFIT (n : Nat) : Fld := ⟨291, n, 32, 0, .core⟩
def MAC_LS_EB_MISSED (n : Nat) : Fld := ⟨292, n, 32, 0, .core⟩
def MAC_LS_UC_SWAPS (n : Nat) : Fld := ⟨293, n, 32, 0, .core⟩
/-! Register tables of R150 05_serac_scheduler.md -/

def SRC_CFG.EN : Fld := ⟨294, 0, 1, 0, .core⟩
def SRC_CFG.P6_EN : Fld := ⟨295, 0, 1, 0, .core⟩
def SRC_CFG.ADAPT_EN : Fld := ⟨296, 0, 1, 0, .core⟩
def SRC_STS.RUN : Fld := ⟨297, 0, 1, 0, .core⟩
def SRC_STS.LATE_SWITCH : Fld := ⟨298, 0, 1, 0, .core⟩
def SRC_STS.WMOVE_LATE : Fld := ⟨299, 0, 1, 0, .core⟩
def SRC_STS.STAGED : Fld := ⟨300, 0, 9, 0, .core⟩
def SRC_STS.LOG_WP : Fld := ⟨301, 0, 3, 0, .core⟩
def SRC_STS.UC_BANK : Fld := ⟨302, 0, 1, 0, .core⟩
def SRC_INT_STS.GEN_COMMIT : Fld := ⟨303, 0, 1, 0, .core⟩
def SRC_INT_STS.LATE_SWITCH : Fld := ⟨304, 0, 1, 0, .core⟩
def SRC_INT_STS.SW_DONE : Fld := ⟨305, 0, 1, 0, .core⟩
def SRC_INT_STS.SW_BAD : Fld := ⟨306, 0, 1, 0, .core⟩
def SRC_INT_STS.SF_BAD : Fld := ⟨307, 0, 1, 0, .core⟩
def SRC_INT_STS.REJ : Fld := ⟨308, 0, 1, 0, .core⟩
def SRC_INT_STS.P6_SEQERR : Fld := ⟨309, 0, 1, 0, .core⟩
def SRC_INT_STS.P6_TIMEOUT : Fld := ⟨310, 0, 1, 0, .core⟩
def SRC_INT_STS.UC_SWAPPED : Fld := ⟨311, 0, 1, 0, .core⟩
def SRC_INT_STS.UC_BAD : Fld := ⟨312, 0, 1, 0, .core⟩
def SRC_INT_STS.WMOVE_DONE : Fld := ⟨313, 0, 1, 0, .core⟩
def SRC_INT_STS.ENV_OVER : Fld := ⟨314, 0, 1, 0, .core⟩
def SRC_INT_EN.GEN_COMMIT : Fld := ⟨315, 0, 1, 0, .core⟩
def SRC_INT_EN.LATE_SWITCH : Fld := ⟨316, 0, 1, 0, .core⟩
def SRC_INT_EN.SW_DONE : Fld := ⟨317, 0, 1, 0, .core⟩
def SRC_INT_EN.SW_BAD : Fld := ⟨318, 0, 1, 0, .core⟩
def SRC_INT_EN.SF_BAD : Fld := ⟨319, 0, 1, 0, .core⟩
def SRC_INT_EN.REJ : Fld := ⟨320, 0, 1, 0, .core⟩
def SRC_INT_EN.P6_SEQERR : Fld := ⟨321, 0, 1, 0, .core⟩
def SRC_INT_EN.P6_TIMEOUT : Fld := ⟨322, 0, 1, 0, .core⟩
def SRC_INT_EN.UC_SWAPPED : Fld := ⟨323, 0, 1, 0, .core⟩
def SRC_INT_EN.UC_BAD : Fld := ⟨324, 0, 1, 0, .core⟩
def SRC_INT_EN.WMOVE_DONE : Fld := ⟨325, 0, 1, 0, .core⟩
def SRC_INT_EN.ENV_OVER : Fld := ⟨326, 0, 1, 0, .core⟩
def SRC_GEN.CUR : Fld := ⟨327, 0, 8, 0, .core⟩
def SRC_GEN.BOUND : Fld := ⟨328, 0, 24, 0, .core⟩
def SRC_GEN_CMD.CLEAR : Fld := ⟨329, 0, 1, 0, .core⟩
def SRC_GEN_CMD.COMMIT : Fld := ⟨330, 0, 1, 0, .core⟩
def SRC_ADAPT_CFG.PERIOD_S : Fld := ⟨331, 0, 8, 8, .core⟩
def SRC_ADAPT_CFG.COMMIT_MS : Fld := ⟨332, 0, 14, 250, .core⟩
def SRC_ADAPT_CFG.SCAN_MAX : Fld := ⟨333, 0, 10, 256, .core⟩
def SRC_6P_CFG.SFID : Fld := ⟨334, 0, 8, 0, .core⟩
def SRC_6P_CFG.TIMEOUT_S : Fld := ⟨335, 0, 8, 30, .core⟩
def SRC_6P_CFG.MAX_OUT : Fld := ⟨336, 0, 11, 1024, .core⟩
def SRC_6P_CFG.TC : Fld := ⟨337, 0, 3, 7, .core⟩
def SRC_SW_CTL.FROM : Fld := ⟨338, 0, 6, 0, .core⟩
def SRC_SW_CTL.TO : Fld := ⟨339, 0, 6, 0, .core⟩
def SRC_SW_CTL.FROM_EN : Fld := ⟨340, 0, 1, 1, .core⟩
def SRC_SW_CTL.ARM : Fld := ⟨341, 0, 1, 0, .core⟩
def SRC_SW_CTL.BAD : Fld := ⟨342, 0, 1, 0, .core⟩
def SRC_SW_ASN_LO.ASN : Fld := ⟨343, 0, 32, 0, .core⟩
def SRC_SW_ASN_HI.ASN : Fld := ⟨344, 0, 8, 0, .core⟩
def SRC_SW_AT_LO.ASN : Fld := ⟨345, 0, 32, 0, .core⟩
def SRC_SW_AT_HI.ASN : Fld := ⟨346, 0, 8, 0, .core⟩
def SRC_WMOVE_CTL.FE : Fld := ⟨347, 0, 2, 0, .core⟩
def SRC_WMOVE_CTL.CENTRE : Fld := ⟨348, 0, 22, 0, .core⟩
def SRC_WMOVE_CTL.ARM : Fld := ⟨349, 0, 1, 0, .core⟩
def SRC_WMOVE_CTL.BAD : Fld := ⟨350, 0, 1, 0, .core⟩
def SRC_WMOVE_ASN_LO.ASN : Fld := ⟨351, 0, 32, 0, .core⟩
def SRC_WMOVE_ASN_HI.ASN : Fld := ⟨352, 0, 8, 0, .core⟩
def SRC_QUIET_CFG.AUTO (i : Nat) : Fld := ⟨353, i, 1, 0, .core⟩
def SRC_QUIET_CFG.RUN_SLOTS (i : Nat) : Fld := ⟨354, i, 4, 1, .core⟩
def SRC_QUIET_CFG.QSF (i : Nat) : Fld := ⟨355, i, 6, 0, .core⟩
def SRC_QUIET_CFG.MAX_WAIT (i : Nat) : Fld := ⟨356, i, 16, 1000, .core⟩
def SRC_QUIET_STS.NEXT_IN (i : Nat) : Fld := ⟨357, i, 16, 65535, .core⟩
def SRC_QUIET_STS.USED (i : Nat) : Fld := ⟨358, i, 16, 0, .core⟩
def SRC_UC_CTL.ARM : Fld := ⟨359, 0, 1, 0, .core⟩
def SRC_UC_CTL.BAD : Fld := ⟨360, 0, 1, 0, .core⟩
def SRC_UC_IDX.WORD : Fld := ⟨361, 0, 12, 0, .core⟩
def SRC_UC_DATA.DATA : Fld := ⟨362, 0, 32, 0, .core⟩
def SRC_UC_VER.ACTIVE : Fld := ⟨363, 0, 16, 0, .core⟩
def SRC_UC_VER.INACTIVE : Fld := ⟨364, 0, 16, 0, .core⟩
def SRC_CELLS_USED.CELLS : Fld := ⟨365, 0, 21, 0, .core⟩
def SRC_CELLS_PEAK.PEAK : Fld := ⟨366, 0, 21, 0, .core⟩
def SRC_CHK_LAST.US : Fld := ⟨367, 0, 16, 0, .core⟩
def SRC_CHK_PEAK.US : Fld := ⟨368, 0, 16, 0, .core⟩
def SRC_ADDS : Fld := ⟨369, 0, 32, 0, .core⟩
def SRC_DELETES : Fld := ⟨370, 0, 32, 0, .core⟩
def SRC_MOVES : Fld := ⟨371, 0, 32, 0, .core⟩
def SRC_REJ_CONFLICT : Fld := ⟨372, 0, 32, 0, .core⟩
def SRC_REJ_ENV : Fld := ⟨373, 0, 32, 0, .core⟩
def SRC_REJ_FULL : Fld := ⟨374, 0, 32, 0, .core⟩
def SRC_6P_INIT : Fld := ⟨375, 0, 32, 0, .core⟩
def SRC_6P_ANSWER : Fld := ⟨376, 0, 32, 0, .core⟩
def SRC_6P_OK : Fld := ⟨377, 0, 32, 0, .core⟩
def SRC_6P_ERR : Fld := ⟨378, 0, 32, 0, .core⟩
def SRC_6P_TIMEOUT : Fld := ⟨379, 0, 32, 0, .core⟩
def SRC_6P_SEQERR : Fld := ⟨380, 0, 32, 0, .core⟩
def SRC_PICK_LATE : Fld := ⟨381, 0, 32, 0, .core⟩
def SRC_QUIET_RUNS : Fld := ⟨382, 0, 32, 0, .core⟩
def SRC_GEN_COMMITS : Fld := ⟨383, 0, 32, 0, .core⟩
def SRC_HOST_CMDS : Fld := ⟨384, 0, 32, 0, .core⟩
def SRC_CONFLICT_LOG_A.CAND (i : Nat) : Fld := ⟨385, i, 20, 0, .core⟩
def SRC_CONFLICT_LOG_A.WHY (i : Nat) : Fld := ⟨386, i, 4, 0, .core⟩
def SRC_CONFLICT_LOG_A.SRC (i : Nat) : Fld := ⟨387, i, 2, 0, .core⟩
def SRC_CONFLICT_LOG_B.BLOCK (i : Nat) : Fld := ⟨388, i, 20, 0, .core⟩
def SRC_CONFLICT_LOG_B.GEN (i : Nat) : Fld := ⟨389, i, 8, 0, .core⟩
def SRC_SF_CFG.EN (i : Nat) : Fld := ⟨390, i, 1, 0, .core⟩
def SRC_SF_CFG.OWNER (i : Nat) : Fld := ⟨391, i, 3, 0, .core⟩
def SRC_SF_CFG.HS (i : Nat) : Fld := ⟨392, i, 4, 0, .core⟩
def SRC_SF_CFG.ADV (i : Nat) : Fld := ⟨393, i, 1, 0, .core⟩
def SRC_SF_CFG.ON (i : Nat) : Fld := ⟨394, i, 1, 0, .core⟩
def SRC_SF_CFG.BAD_WHY (i : Nat) : Fld := ⟨395, i, 3, 0, .core⟩
def SRC_SF_GEOM.LEN (i : Nat) : Fld := ⟨396, i, 16, 1, .core⟩
def SRC_SF_GEOM.WIDTH (i : Nat) : Fld := ⟨397, i, 7, 1, .core⟩
def SRC_SF_BASE.BASE (i : Nat) : Fld := ⟨398, i, 20, 0, .core⟩
def SRC_ENV_CTL.EN (n : Nat) : Fld := ⟨399, n, 1, 0, .core⟩
def SRC_ENV_CTL.FE_MASK (n : Nat) : Fld := ⟨400, n, 4, 0, .core⟩
def SRC_ENV_CTL.TT_MASK (n : Nat) : Fld := ⟨401, n, 8, 1, .core⟩
def SRC_ENV_CTL.SPAN (n : Nat) : Fld := ⟨402, n, 4, 0, .core⟩
def SRC_ENV_CTL.TT_DEF (n : Nat) : Fld := ⟨403, n, 3, 0, .core⟩
def SRC_ENV_CTL.FE_DEF (n : Nat) : Fld := ⟨404, n, 2, 0, .core⟩
def SRC_ENV_BUDGET.MAX_CELLS (n : Nat) : Fld := ⟨405, n, 21, 0, .core⟩
def SRC_ENV_NODE.MIN_TX (n : Nat) : Fld := ⟨406, n, 8, 1, .core⟩
def SRC_ENV_NODE.MAX_TX (n : Nat) : Fld := ⟨407, n, 8, 8, .core⟩
def SRC_ENV_NODE.MIN_RX (n : Nat) : Fld := ⟨408, n, 8, 1, .core⟩
def SRC_ENV_NODE.MAX_RX (n : Nat) : Fld := ⟨409, n, 8, 8, .core⟩
def SRC_ENV_RATE.CHG_PER_S (n : Nat) : Fld := ⟨410, n, 12, 8, .core⟩
def SRC_ENV_RATE.BURST (n : Nat) : Fld := ⟨411, n, 8, 32, .core⟩
def SRC_ENV_RATE.TOKENS (n : Nat) : Fld := ⟨412, n, 8, 32, .core⟩
def SRC_ENV_COFS.LO (n : Nat) (i : Nat) : Fld := ⟨413, n * 4 + i, 10, 0, .core⟩
def SRC_ENV_COFS.HI (n : Nat) (i : Nat) : Fld := ⟨414, n * 4 + i, 10, 0, .core⟩
def SRC_ENV_COFS.EN (n : Nat) (i : Nat) : Fld := ⟨415, n * 4 + i, 1, 0, .core⟩
def SRC_ENV_SF_LO.MASK (n : Nat) : Fld := ⟨416, n, 32, 0, .core⟩
def SRC_ENV_SF_HI.MASK (n : Nat) : Fld := ⟨417, n, 32, 0, .core⟩
def SRC_ENV_ADD.ADD_Q (n : Nat) : Fld := ⟨418, n, 8, 4, .core⟩
def SRC_ENV_ADD.UTIL_ADD (n : Nat) : Fld := ⟨419, n, 8, 75, .core⟩
def SRC_ENV_ADD.PDR_MOVE (n : Nat) : Fld := ⟨420, n, 16, 45875, .core⟩
def SRC_ENV_DEL.UTIL_DEL (n : Nat) : Fld := ⟨421, n, 8, 25, .core⟩
def SRC_ENV_DEL.DEL_PERIODS (n : Nat) : Fld := ⟨422, n, 4, 2, .core⟩
def SRC_ENV_DEL.MIN_ATT (n : Nat) : Fld := ⟨423, n, 16, 16, .core⟩
def SRC_W_CELLS.CELLS (n : Nat) : Fld := ⟨424, n, 21, 0, .core⟩
def SRC_W_CELLS.OVER (n : Nat) : Fld := ⟨425, n, 1, 0, .core⟩
def SRC_W_CHANGES (n : Nat) : Fld := ⟨426, n, 32, 0, .core⟩
def SRC_W_REFUSED (n : Nat) : Fld := ⟨427, n, 32, 0, .core⟩
def SRC_W_6P_FAIL (n : Nat) : Fld := ⟨428, n, 32, 0, .core⟩
/-! Register tables of R181 06_link_security_and_counters.md -/

def SEC_CFG.EN : Fld := ⟨429, 0, 1, 0, .core⟩
def SEC_CFG.AUTO_RATCHET : Fld := ⟨430, 0, 1, 1, .core⟩
def SEC_STS.JNL_OPEN : Fld := ⟨431, 0, 1, 0, .core⟩
def SEC_STS.WAS_CLEAN : Fld := ⟨432, 0, 1, 0, .core⟩
def SEC_STS.ASN_HIGH : Fld := ⟨433, 0, 1, 0, .core⟩
def SEC_STS.LOG_WP : Fld := ⟨434, 0, 5, 0, .core⟩
def SEC_STS.TRACE_WP : Fld := ⟨435, 0, 5, 0, .core⟩
def SEC_INT_STS.KEY_LOW : Fld := ⟨436, 0, 1, 0, .core⟩
def SEC_INT_STS.KEY_EXHAUSTED : Fld := ⟨437, 0, 1, 0, .core⟩
def SEC_INT_STS.KEY_ADV : Fld := ⟨438, 0, 1, 0, .core⟩
def SEC_INT_STS.JNL_ERR : Fld := ⟨439, 0, 1, 0, .core⟩
def SEC_INT_STS.JNL_FULL : Fld := ⟨440, 0, 1, 0, .core⟩
def SEC_INT_STS.SNAP_DONE : Fld := ⟨441, 0, 1, 0, .core⟩
def SEC_INT_STS.SNAP_LATE : Fld := ⟨442, 0, 1, 0, .core⟩
def SEC_INT_STS.GRP_SWITCHED : Fld := ⟨443, 0, 1, 0, .core⟩
def SEC_INT_STS.GRP_LATE : Fld := ⟨444, 0, 1, 0, .core⟩
def SEC_INT_STS.STRICT_GROUP : Fld := ⟨445, 0, 1, 0, .core⟩
def SEC_INT_STS.ASN_HIGH : Fld := ⟨446, 0, 1, 0, .core⟩
def SEC_INT_STS.OPEN_DONE : Fld := ⟨447, 0, 1, 0, .core⟩
def SEC_INT_EN.KEY_LOW : Fld := ⟨448, 0, 1, 0, .core⟩
def SEC_INT_EN.KEY_EXHAUSTED : Fld := ⟨449, 0, 1, 0, .core⟩
def SEC_INT_EN.KEY_ADV : Fld := ⟨450, 0, 1, 0, .core⟩
def SEC_INT_EN.JNL_ERR : Fld := ⟨451, 0, 1, 0, .core⟩
def SEC_INT_EN.JNL_FULL : Fld := ⟨452, 0, 1, 0, .core⟩
def SEC_INT_EN.SNAP_DONE : Fld := ⟨453, 0, 1, 0, .core⟩
def SEC_INT_EN.SNAP_LATE : Fld := ⟨454, 0, 1, 0, .core⟩
def SEC_INT_EN.GRP_SWITCHED : Fld := ⟨455, 0, 1, 0, .core⟩
def SEC_INT_EN.GRP_LATE : Fld := ⟨456, 0, 1, 0, .core⟩
def SEC_INT_EN.STRICT_GROUP : Fld := ⟨457, 0, 1, 0, .core⟩
def SEC_INT_EN.ASN_HIGH : Fld := ⟨458, 0, 1, 0, .core⟩
def SEC_INT_EN.OPEN_DONE : Fld := ⟨459, 0, 1, 0, .core⟩
def SEC_RES_CFG.BLOCK_LOG2 : Fld := ⟨460, 0, 5, 12, .core⟩
def SEC_JNL_CFG.SIZE_LOG2 : Fld := ⟨461, 0, 3, 0, .core⟩
def SEC_JNL_CFG.RING : Fld := ⟨462, 0, 2, 2, .core⟩
def SEC_JNL_CFG.SCK : Fld := ⟨463, 0, 2, 0, .core⟩
def SEC_JNL_CFG.DOMAIN : Fld := ⟨464, 0, 12, 0, .core⟩
def SEC_JNL_CTL.OPEN : Fld := ⟨465, 0, 1, 0, .core⟩
def SEC_JNL_CTL.CLOSE : Fld := ⟨466, 0, 1, 0, .core⟩
def SEC_JNL_CTL.FORMAT : Fld := ⟨467, 0, 1, 0, .core⟩
def SEC_JNL_CTL.SNAP_NOW : Fld := ⟨468, 0, 1, 0, .core⟩
def SEC_JNL_STS.STATE : Fld := ⟨469, 0, 2, 0, .core⟩
def SEC_JNL_STS.ERR : Fld := ⟨470, 0, 4, 0, .core⟩
def SEC_JNL_STS.USED : Fld := ⟨471, 0, 14, 0, .core⟩
def SEC_JNL_SEQ.SEQ : Fld := ⟨472, 0, 32, 0, .core⟩
def SEC_JNL_LIMIT.NIX_LIMIT : Fld := ⟨473, 0, 19, 0, .core⟩
def SEC_SNAP_CFG.PERIOD_S : Fld := ⟨474, 0, 12, 60, .core⟩
def SEC_SNAP_STS.ENTRIES : Fld := ⟨475, 0, 19, 0, .core⟩
def SEC_SNAP_STS.LAST_MS : Fld := ⟨476, 0, 13, 0, .core⟩
def SEC_KC_STS.USED : Fld := ⟨477, 0, 13, 0, .core⟩
def SEC_ENG_STS.BUSY : Fld := ⟨478, 0, 16, 0, .core⟩
def SEC_ENG_STS.IN_USE : Fld := ⟨479, 0, 16, 65535, .core⟩
def SEC_ENG_PEAK.PEAK : Fld := ⟨480, 0, 5, 0, .core⟩
def SEC_JNL_PEAK.PEAK : Fld := ⟨481, 0, 13, 0, .core⟩
def SEC_KC_HIT : Fld := ⟨482, 0, 32, 0, .core⟩
def SEC_KC_MISS : Fld := ⟨483, 0, 32, 0, .core⟩
def SEC_RATCHET_TRY : Fld := ⟨484, 0, 32, 0, .core⟩
def SEC_RATCHET_OK : Fld := ⟨485, 0, 32, 0, .core⟩
def SEC_KGEN_ADV : Fld := ⟨486, 0, 32, 0, .core⟩
def SEC_REKEY_SENT : Fld := ⟨487, 0, 32, 0, .core⟩
def SEC_WHEY_LEVEL : Fld := ⟨488, 0, 32, 0, .core⟩
def SEC_WHEY_KEYID : Fld := ⟨489, 0, 32, 0, .core⟩
def SEC_WHEY_KGEN : Fld := ⟨490, 0, 32, 0, .core⟩
def SEC_WHEY_FC : Fld := ⟨491, 0, 32, 0, .core⟩
def SEC_WHEY_MIC : Fld := ⟨492, 0, 32, 0, .core⟩
def SEC_WHEY_REPLAY : Fld := ⟨493, 0, 32, 0, .core⟩
def SEC_WHEY_TAMPER : Fld := ⟨494, 0, 32, 0, .core⟩
def SEC_TX_FRAMES : Fld := ⟨495, 0, 32, 0, .core⟩
def SEC_TX_JNL_WAIT : Fld := ⟨496, 0, 32, 0, .core⟩
def SEC_TX_EXHAUSTED : Fld := ⟨497, 0, 32, 0, .core⟩
def SEC_JNL_RECORDS : Fld := ⟨498, 0, 32, 0, .core⟩
def SEC_JNL_ERR : Fld := ⟨499, 0, 32, 0, .core⟩
def SEC_SNAP_WRITES : Fld := ⟨500, 0, 32, 0, .core⟩
def SEC_ACK_UNSEC : Fld := ⟨501, 0, 32, 0, .core⟩
def SEC_ENG_OPS (i : Nat) : Fld := ⟨502, i, 32, 0, .core⟩
def SEC_GEN_STS.BUSY (i : Nat) : Fld := ⟨503, i, 1, 0, .core⟩
def SEC_GEN_STS.QUEUED (i : Nat) : Fld := ⟨504, i, 8, 0, .core⟩
def SEC_GEN_OPS (i : Nat) : Fld := ⟨505, i, 32, 0, .core⟩
def SEC_KEYLOW_LOG.NIX (i : Nat) : Fld := ⟨506, i, 18, 0, .core⟩
def SEC_KEYLOW_LOG.GEN (i : Nat) : Fld := ⟨507, i, 4, 0, .core⟩
def SEC_KEYLOW_LOG.KIND (i : Nat) : Fld := ⟨508, i, 2, 0, .core⟩
def SEC_KEYLOW_LOG.WARD (i : Nat) : Fld := ⟨509, i, 3, 0, .core⟩
def SEC_JNL_TRACE_A.SEQ (i : Nat) : Fld := ⟨510, i, 32, 0, .core⟩
def SEC_JNL_TRACE_B.TYPE (i : Nat) : Fld := ⟨511, i, 8, 0, .core⟩
def SEC_JNL_TRACE_B.NIX (i : Nat) : Fld := ⟨512, i, 18, 0, .core⟩
def SEC_JNL_TRACE_B.GEN (i : Nat) : Fld := ⟨513, i, 4, 0, .core⟩
def SEC_JNL_TRACE_B.RES (i : Nat) : Fld := ⟨514, i, 2, 0, .core⟩
def SEC_W_CFG.TX_LEVEL (n : Nat) : Fld := ⟨515, n, 3, 5, .core⟩
def SEC_W_CFG.ACCEPT_MASK (n : Nat) : Fld := ⟨516, n, 8, 224, .core⟩
def SEC_W_CFG.STRICT (n : Nat) : Fld := ⟨517, n, 1, 0, .core⟩
def SEC_W_CFG.STRICT_ACTIVE (n : Nat) : Fld := ⟨518, n, 1, 0, .core⟩
def SEC_W_GRP.CUR_GEN (n : Nat) : Fld := ⟨519, n, 4, 0, .core⟩
def SEC_W_GRP.NEXT_GEN (n : Nat) : Fld := ⟨520, n, 4, 0, .core⟩
def SEC_W_GRP.NEXT_VALID (n : Nat) : Fld := ⟨521, n, 1, 0, .core⟩
def SEC_W_GRP.PREV_VALID (n : Nat) : Fld := ⟨522, n, 1, 0, .core⟩
def SEC_W_GRP.GRACE_S (n : Nat) : Fld := ⟨523, n, 12, 600, .core⟩
def SEC_W_GSW_LO.ASN (n : Nat) : Fld := ⟨524, n, 32, 0, .core⟩
def SEC_W_GSW_HI.ASN (n : Nat) : Fld := ⟨525, n, 8, 0, .core⟩
def SEC_W_GSW_HI.ARM (n : Nat) : Fld := ⟨526, n, 1, 0, .core⟩
def SEC_W_GSW_HI.LATE (n : Nat) : Fld := ⟨527, n, 1, 0, .core⟩
def SEC_W_GTX_FC.FC (n : Nat) : Fld := ⟨528, n, 32, 2147483648, .core⟩
def SEC_W_GTX_CEIL.CEIL (n : Nat) : Fld := ⟨529, n, 32, 2147483648, .core⟩
def SEC_W_PEND.COUNT (n : Nat) : Fld := ⟨530, n, 19, 0, .core⟩
def SEC_W_HALT.COUNT (n : Nat) : Fld := ⟨531, n, 19, 0, .core⟩
/-! Register tables of R207 07_forwarding_and_adaptation.md -/

def FWD_CFG.EN : Fld := ⟨532, 0, 1, 0, .core⟩
def FWD_CFG.MISS_HOST : Fld := ⟨533, 0, 1, 1, .core⟩
def FWD_CFG.DAO_PARSE : Fld := ⟨534, 0, 1, 1, .core⟩
def FWD_CFG.MESH_MTU : Fld := ⟨535, 0, 11, 1280, .core⟩
def FWD_STS.RESHARD : Fld := ⟨536, 0, 2, 0, .core⟩
def FWD_STS.ABORTING : Fld := ⟨537, 0, 1, 0, .core⟩
def FWD_STS.LOG_WP : Fld := ⟨538, 0, 3, 0, .core⟩
def FWD_STS.ENTRIES : Fld := ⟨539, 0, 19, 0, .core⟩
def FWD_INT_STS.MOVE : Fld := ⟨540, 0, 1, 0, .core⟩
def FWD_INT_STS.VAT_FULL : Fld := ⟨541, 0, 1, 0, .core⟩
def FWD_INT_STS.RESHARD_DONE : Fld := ⟨542, 0, 1, 0, .core⟩
def FWD_INT_STS.RESHARD_STALL : Fld := ⟨543, 0, 1, 0, .core⟩
def FWD_INT_STS.NOPATH : Fld := ⟨544, 0, 1, 0, .core⟩
def FWD_INT_STS.REASM_FULL : Fld := ⟨545, 0, 1, 0, .core⟩
def FWD_INT_STS.RACE_MISS : Fld := ⟨546, 0, 1, 0, .core⟩
def FWD_INT_STS.BAD : Fld := ⟨547, 0, 1, 0, .core⟩
def FWD_INT_EN.MOVE : Fld := ⟨548, 0, 1, 0, .core⟩
def FWD_INT_EN.VAT_FULL : Fld := ⟨549, 0, 1, 0, .core⟩
def FWD_INT_EN.RESHARD_DONE : Fld := ⟨550, 0, 1, 0, .core⟩
def FWD_INT_EN.RESHARD_STALL : Fld := ⟨551, 0, 1, 0, .core⟩
def FWD_INT_EN.NOPATH : Fld := ⟨552, 0, 1, 0, .core⟩
def FWD_INT_EN.REASM_FULL : Fld := ⟨553, 0, 1, 0, .core⟩
def FWD_INT_EN.RACE_MISS : Fld := ⟨554, 0, 1, 0, .core⟩
def FWD_INT_EN.BAD : Fld := ⟨555, 0, 1, 0, .core⟩
def FWD_HASH_CUR.SEED : Fld := ⟨556, 0, 32, 0, .core⟩
def FWD_HASH_NEXT.SEED : Fld := ⟨557, 0, 32, 0, .core⟩
def FWD_RESHARD.START : Fld := ⟨558, 0, 1, 0, .core⟩
def FWD_RESHARD.ABORT : Fld := ⟨559, 0, 1, 0, .core⟩
def FWD_RESHARD.BAD : Fld := ⟨560, 0, 1, 0, .core⟩
def FWD_RESHARD.PROGRESS : Fld := ⟨561, 0, 16, 0, .core⟩
def FWD_RELOC_CFG.MAX_KICK : Fld := ⟨562, 0, 5, 8, .core⟩
def FWD_RELOC_CFG.VAT_PROBE : Fld := ⟨563, 0, 5, 16, .core⟩
def FWD_LEARN_CFG.MOVE_HYST : Fld := ⟨564, 0, 4, 3, .core⟩
def FWD_LEARN_CFG.STA_LEARN : Fld := ⟨565, 0, 1, 1, .core⟩
def FWD_LEARN_CFG.NODE_MOVE : Fld := ⟨566, 0, 1, 1, .core⟩
def FWD_FIRN_CFG.SWEEP_S : Fld := ⟨567, 0, 12, 300, .core⟩
def FWD_FIRN_CFG.EN : Fld := ⟨568, 0, 1, 1, .core⟩
def FWD_FIRN_STS.POS : Fld := ⟨569, 0, 16, 0, .core⟩
def FWD_FIRN_STS.SWEEPS : Fld := ⟨570, 0, 16, 0, .core⟩
def FWD_REASM_CFG.TIMEOUT_S : Fld := ⟨571, 0, 6, 20, .core⟩
def FWD_REASM_CFG.PER_NODE : Fld := ⟨572, 0, 4, 2, .core⟩
def FWD_REASM_CFG.MAX_DGRAM : Fld := ⟨573, 0, 11, 1280, .core⟩
def FWD_REASM_STS.USED : Fld := ⟨574, 0, 15, 0, .core⟩
def FWD_VAT_STS.USED : Fld := ⟨575, 0, 13, 0, .core⟩
def FWD_VAT_STS.NOFWT : Fld := ⟨576, 0, 19, 0, .core⟩
def FWD_GW_MAC_LO.MAC : Fld := ⟨577, 0, 32, 0, .core⟩
def FWD_GW_MAC_HI.MAC : Fld := ⟨578, 0, 16, 0, .core⟩
def FWD_GW_MAC_HI.VLAN : Fld := ⟨579, 0, 12, 0, .core⟩
def FWD_LOOKUPS : Fld := ⟨580, 0, 32, 0, .core⟩
def FWD_HITS : Fld := ⟨581, 0, 32, 0, .core⟩
def FWD_MISSES : Fld := ⟨582, 0, 32, 0, .core⟩
def FWD_RETRIES : Fld := ⟨583, 0, 32, 0, .core⟩
def FWD_RACE_MISS : Fld := ⟨584, 0, 32, 0, .core⟩
def FWD_VAT_HITS : Fld := ⟨585, 0, 32, 0, .core⟩
def FWD_INSERTS : Fld := ⟨586, 0, 32, 0, .core⟩
def FWD_RELOCS : Fld := ⟨587, 0, 32, 0, .core⟩
def FWD_VAT_INSERTS : Fld := ⟨588, 0, 32, 0, .core⟩
def FWD_INSERT_FAIL : Fld := ⟨589, 0, 32, 0, .core⟩
def FWD_LEARN_NEW : Fld := ⟨590, 0, 32, 0, .core⟩
def FWD_MOVE_CAND : Fld := ⟨591, 0, 32, 0, .core⟩
def FWD_MOVES : Fld := ⟨592, 0, 32, 0, .core⟩
def FWD_MOVE_ABORT : Fld := ⟨593, 0, 32, 0, .core⟩
def FWD_FIRN_REMOVED : Fld := ⟨594, 0, 32, 0, .core⟩
def FWD_FIRN_SKIP : Fld := ⟨595, 0, 32, 0, .core⟩
def FWD_LOCK_WAIT : Fld := ⟨596, 0, 32, 0, .core⟩
def FWD_HOST_STALE : Fld := ⟨597, 0, 32, 0, .core⟩
def FWD_RESHARD_MOVED : Fld := ⟨598, 0, 32, 0, .core⟩
def FWD_IPHC_ERR : Fld := ⟨599, 0, 32, 0, .core⟩
def FWD_FRAG_TX : Fld := ⟨600, 0, 32, 0, .core⟩
def FWD_FRAGS_RX : Fld := ⟨601, 0, 32, 0, .core⟩
def FWD_REASM_OK : Fld := ⟨602, 0, 32, 0, .core⟩
def FWD_REASM_TIMEOUT : Fld := ⟨603, 0, 32, 0, .core⟩
def FWD_REASM_FULL : Fld := ⟨604, 0, 32, 0, .core⟩
def FWD_REASM_BIG : Fld := ⟨605, 0, 32, 0, .core⟩
def FWD_REASM_OVERLAP : Fld := ⟨606, 0, 32, 0, .core⟩
def FWD_DAO_PARSED : Fld := ⟨607, 0, 32, 0, .core⟩
def FWD_PARENT_CHG : Fld := ⟨608, 0, 32, 0, .core⟩
def FWD_PATH_BUILT : Fld := ⟨609, 0, 32, 0, .core⟩
def FWD_NOROUTE : Fld := ⟨610, 0, 32, 0, .core⟩
def FWD_SPOOF : Fld := ⟨611, 0, 32, 0, .core⟩
def FWD_MOVE_LOG_A.NIX (i : Nat) : Fld := ⟨612, i, 18, 0, .core⟩
def FWD_MOVE_LOG_A.OLD_PORT (i : Nat) : Fld := ⟨613, i, 3, 0, .core⟩
def FWD_MOVE_LOG_A.NEW_PORT (i : Nat) : Fld := ⟨614, i, 3, 0, .core⟩
def FWD_MOVE_LOG_A.STA (i : Nat) : Fld := ⟨615, i, 1, 0, .core⟩
def FWD_MOVE_LOG_B.BUCKET (i : Nat) : Fld := ⟨616, i, 16, 0, .core⟩
def FWD_MOVE_LOG_B.WAY (i : Nat) : Fld := ⟨617, i, 2, 0, .core⟩
def FWD_MOVE_LOG_B.IN_VAT (i : Nat) : Fld := ⟨618, i, 1, 0, .core⟩
def FWD_CTX_LO.PFX (i : Nat) : Fld := ⟨619, i, 32, 0, .core⟩
def FWD_CTX_HI.PFX (i : Nat) : Fld := ⟨620, i, 32, 0, .core⟩
def FWD_W_PFX_LO.PFX (n : Nat) : Fld := ⟨621, n, 32, 0, .core⟩
def FWD_W_PFX_HI.PFX (n : Nat) : Fld := ⟨622, n, 32, 0, .core⟩
def FWD_W_CFG.INSTANCE (n : Nat) : Fld := ⟨623, n, 8, 0, .core⟩
def FWD_W_CFG.LORH (n : Nat) : Fld := ⟨624, n, 1, 0, .core⟩
def FWD_W_CFG.SRC_CHECK (n : Nat) : Fld := ⟨625, n, 1, 1, .core⟩
def FWD_W_CFG.ALIAS_LEARN (n : Nat) : Fld := ⟨626, n, 1, 1, .core⟩
def FWD_W_CFG.SRH_SHORT (n : Nat) : Fld := ⟨627, n, 1, 1, .core⟩
def FWD_W_CFG.FCS4 (n : Nat) : Fld := ⟨628, n, 1, 0, .core⟩
def FWD_W_CFG.FRAG_MAX (n : Nat) : Fld := ⟨629, n, 11, 2047, .core⟩
def FWD_W_CFG.PHYC (n : Nat) : Fld := ⟨630, n, 4, 1, .core⟩
def FWD_W_UPLINK.GW (n : Nat) : Fld := ⟨631, n, 1, 0, .core⟩
def FWD_W_UPLINK.RING (n : Nat) : Fld := ⟨632, n, 5, 0, .core⟩
def FWD_W_CTX.MASK (n : Nat) : Fld := ⟨633, n, 15, 0, .core⟩
def FWD_W_EPOCH.EPOCH (n : Nat) : Fld := ⟨634, n, 32, 0, .core⟩
def FWD_W_TAG.TAG (n : Nat) : Fld := ⟨635, n, 16, 0, .core⟩
def FWD_W_TAG.ROOT_RANK (n : Nat) : Fld := ⟨636, n, 16, 256, .core⟩
def FWD_W_NOPATH.COUNT (n : Nat) : Fld := ⟨637, n, 32, 0, .core⟩
/-! Register tables of R242 R243 08_curds_queues_and_shaping.md -/

def QMS_CFG.EN : Fld := ⟨638, 0, 1, 0, .core⟩
def QMS_STS.RUN : Fld := ⟨639, 0, 1, 0, .core⟩
def QMS_INT_STS.NOCURD : Fld := ⟨640, 0, 1, 0, .core⟩
def QMS_INT_STS.QAGE : Fld := ⟨641, 0, 1, 0, .core⟩
def QMS_INT_STS.CURD_ECC : Fld := ⟨642, 0, 1, 0, .core⟩
def QMS_INT_EN.NOCURD : Fld := ⟨643, 0, 1, 0, .core⟩
def QMS_INT_EN.QAGE : Fld := ⟨644, 0, 1, 0, .core⟩
def QMS_INT_EN.CURD_ECC : Fld := ⟨645, 0, 1, 0, .core⟩
def QMS_AGE_CFG.DN_MS : Fld := ⟨646, 0, 16, 0, .core⟩
def QMS_POOL_FREE.FREE : Fld := ⟨647, 0, 16, 32768, .core⟩
def QMS_POOL_PEAK.PEAK : Fld := ⟨648, 0, 16, 0, .core⟩
def QMS_ENQ_FRAMES : Fld := ⟨649, 0, 32, 0, .core⟩
def QMS_DEQ_FRAMES : Fld := ⟨650, 0, 32, 0, .core⟩
def QMS_PICK_DED : Fld := ⟨651, 0, 32, 0, .core⟩
def QMS_PICK_SHARED : Fld := ⟨652, 0, 32, 0, .core⟩
def QMS_PICK_NOFRAME : Fld := ⟨653, 0, 32, 0, .core⟩
def QMS_HOLD_BLOCK : Fld := ⟨654, 0, 32, 0, .core⟩
def QMS_CLASS_SKIP : Fld := ⟨655, 0, 32, 0, .core⟩
def QMS_ALLOC_FAIL : Fld := ⟨656, 0, 32, 0, .core⟩
def QMS_WHEY_TOTAL : Fld := ⟨657, 0, 32, 0, .core⟩
def QMS_POOL_CFG.GUAR (i : Nat) : Fld := ⟨658, i, 16, (([8192, 8192, 4096, 1024] : List Nat).getD i 0), .core⟩
def QMS_POOL_CFG.MAX (i : Nat) : Fld := ⟨659, i, 16, (([24576, 24576, 8192, 4096] : List Nat).getD i 0), .core⟩
def QMS_POOL_USE.USED (i : Nat) : Fld := ⟨660, i, 16, 0, .core⟩
def QMS_POOL_USE.PEAK (i : Nat) : Fld := ⟨661, i, 16, 0, .core⟩
def QMS_DSCP_MAP.CLASS_0 (i : Nat) : Fld := ⟨662, i, 3, (([0, 1, 2, 3, 4, 5, 6, 7] : List Nat).getD i 0), .core⟩
def QMS_DSCP_MAP.YEL_0 (i : Nat) : Fld := ⟨663, i, 1, (([0, 0, 0, 0, 0, 0, 0, 0] : List Nat).getD i 0), .core⟩
def QMS_DSCP_MAP.CLASS_1 (i : Nat) : Fld := ⟨664, i, 3, (([0, 1, 2, 3, 4, 5, 6, 7] : List Nat).getD i 0), .core⟩
def QMS_DSCP_MAP.YEL_1 (i : Nat) : Fld := ⟨665, i, 1, (([0, 0, 0, 0, 0, 0, 0, 0] : List Nat).getD i 0), .core⟩
def QMS_DSCP_MAP.CLASS_2 (i : Nat) : Fld := ⟨666, i, 3, (([0, 1, 2, 3, 4, 5, 6, 7] : List Nat).getD i 0), .core⟩
def QMS_DSCP_MAP.YEL_2 (i : Nat) : Fld := ⟨667, i, 1, (([0, 0, 0, 0, 0, 0, 0, 0] : List Nat).getD i 0), .core⟩
def QMS_DSCP_MAP.CLASS_3 (i : Nat) : Fld := ⟨668, i, 3, (([0, 1, 2, 3, 4, 5, 6, 7] : List Nat).getD i 0), .core⟩
def QMS_DSCP_MAP.YEL_3 (i : Nat) : Fld := ⟨669, i, 1, (([0, 0, 0, 0, 0, 0, 0, 0] : List Nat).getD i 0), .core⟩
def QMS_DSCP_MAP.CLASS_4 (i : Nat) : Fld := ⟨670, i, 3, (([0, 1, 2, 3, 4, 5, 6, 7] : List Nat).getD i 0), .core⟩
def QMS_DSCP_MAP.YEL_4 (i : Nat) : Fld := ⟨671, i, 1, (([0, 1, 1, 1, 1, 0, 0, 0] : List Nat).getD i 0), .core⟩
def QMS_DSCP_MAP.CLASS_5 (i : Nat) : Fld := ⟨672, i, 3, (([0, 1, 2, 3, 4, 5, 6, 7] : List Nat).getD i 0), .core⟩
def QMS_DSCP_MAP.YEL_5 (i : Nat) : Fld := ⟨673, i, 1, (([0, 0, 0, 0, 0, 0, 0, 0] : List Nat).getD i 0), .core⟩
def QMS_DSCP_MAP.CLASS_6 (i : Nat) : Fld := ⟨674, i, 3, (([0, 1, 2, 3, 4, 5, 6, 7] : List Nat).getD i 0), .core⟩
def QMS_DSCP_MAP.YEL_6 (i : Nat) : Fld := ⟨675, i, 1, (([0, 1, 1, 1, 1, 0, 0, 0] : List Nat).getD i 0), .core⟩
def QMS_DSCP_MAP.CLASS_7 (i : Nat) : Fld := ⟨676, i, 3, (([0, 1, 2, 3, 4, 5, 6, 7] : List Nat).getD i 0), .core⟩
def QMS_DSCP_MAP.YEL_7 (i : Nat) : Fld := ⟨677, i, 1, (([0, 0, 0, 0, 0, 0, 0, 0] : List Nat).getD i 0), .core⟩
def QMS_W_LIM_UP.CQ_MAX (i : Nat) : Fld := ⟨678, i, 16, 2048, .core⟩
def QMS_W_LIM_UP.YEL_MAX (i : Nat) : Fld := ⟨679, i, 16, 1024, .core⟩
def QMS_W_LIM_DN.CQ_MAX (i : Nat) : Fld := ⟨680, i, 16, 2048, .core⟩
def QMS_W_LIM_DN.NODE_MAX (i : Nat) : Fld := ⟨681, i, 11, 64, .core⟩
def QMS_W_NPEAK.PEAK (i : Nat) : Fld := ⟨682, i, 11, 0, .core⟩
def QMS_W_NPEAK.NIX (i : Nat) : Fld := ⟨683, i, 18, 0, .core⟩
def QMS_W_NFRAMES.FRAMES (i : Nat) : Fld := ⟨684, i, 16, 0, .core⟩
def QMS_WHEY (i : Nat) : Fld := ⟨685, i, 32, 0, .core⟩
def QMS_CQ.CURDS (i : Nat) : Fld := ⟨686, i, 16, 0, .core⟩
def QMS_CQ.PEAK (i : Nat) : Fld := ⟨687, i, 16, 0, .core⟩
def SHP_CFG.EN : Fld := ⟨688, 0, 1, 0, .core⟩
def SHP_CFG.RECONF_UP : Fld := ⟨689, 0, 1, 0, .core⟩
def SHP_CFG.RECONF_DN : Fld := ⟨690, 0, 1, 1, .core⟩
def SHP_STS.RUN : Fld := ⟨691, 0, 1, 0, .core⟩
def SHP_STS.FALLBACK : Fld := ⟨692, 0, 1, 0, .core⟩
def SHP_INT_STS.SHAPE_DROP : Fld := ⟨693, 0, 1, 0, .core⟩
def SHP_INT_STS.RED : Fld := ⟨694, 0, 1, 0, .core⟩
def SHP_INT_STS.GATE_LATE : Fld := ⟨695, 0, 1, 0, .core⟩
def SHP_INT_STS.GATE_OVERSIZE : Fld := ⟨696, 0, 1, 0, .core⟩
def SHP_INT_STS.GATE_SWITCHED : Fld := ⟨697, 0, 1, 0, .core⟩
def SHP_INT_EN.SHAPE_DROP : Fld := ⟨698, 0, 1, 0, .core⟩
def SHP_INT_EN.RED : Fld := ⟨699, 0, 1, 0, .core⟩
def SHP_INT_EN.GATE_LATE : Fld := ⟨700, 0, 1, 0, .core⟩
def SHP_INT_EN.GATE_OVERSIZE : Fld := ⟨701, 0, 1, 0, .core⟩
def SHP_INT_EN.GATE_SWITCHED : Fld := ⟨702, 0, 1, 0, .core⟩
def SHP_CAL_CFG.EN : Fld := ⟨703, 0, 1, 1, .core⟩
def SHP_CAL_CFG.RES : Fld := ⟨704, 0, 2, 1, .core⟩
def SHP_CAL_CFG.MAX_WAIT : Fld := ⟨705, 0, 18, 16000, .core⟩
def SHP_CAL_STS.COUNT : Fld := ⟨706, 0, 16, 0, .core⟩
def SHP_CAL_STS.PEAK : Fld := ⟨707, 0, 16, 0, .core⟩
def SHP_SWEEP_STS.POS : Fld := ⟨708, 0, 18, 0, .core⟩
def SHP_SWEEP_STS.SWEEPS : Fld := ⟨709, 0, 14, 0, .core⟩
def SHP_WPOL_MODE.AWARE : Fld := ⟨710, 0, 8, 0, .core⟩
def SHP_POL_PASS : Fld := ⟨711, 0, 32, 0, .core⟩
def SHP_POL_DROP : Fld := ⟨712, 0, 32, 0, .core⟩
def SHP_WPOL_GREEN : Fld := ⟨713, 0, 32, 0, .core⟩
def SHP_WPOL_YELLOW : Fld := ⟨714, 0, 32, 0, .core⟩
def SHP_WPOL_RED : Fld := ⟨715, 0, 32, 0, .core⟩
def SHP_CAL_INSERTS : Fld := ⟨716, 0, 32, 0, .core⟩
def SHP_CAL_FALLBACK : Fld := ⟨717, 0, 32, 0, .core⟩
def SHP_SHAPE_DROP : Fld := ⟨718, 0, 32, 0, .core⟩
def SHP_PROF_RATE.UP (i : Nat) : Fld := ⟨719, i, 16, 0, .core⟩
def SHP_PROF_RATE.DN (i : Nat) : Fld := ⟨720, i, 16, 0, .core⟩
def SHP_PROF_BURST.UP (i : Nat) : Fld := ⟨721, i, 16, 2047, .core⟩
def SHP_PROF_BURST.DN (i : Nat) : Fld := ⟨722, i, 16, 2047, .core⟩
def SHP_WPOL_RATE.CIR (i : Nat) : Fld := ⟨723, i, 16, 0, .core⟩
def SHP_WPOL_RATE.PIR (i : Nat) : Fld := ⟨724, i, 16, 0, .core⟩
def SHP_WPOL_BURST.CBS (i : Nat) : Fld := ⟨725, i, 16, 64, .core⟩
def SHP_WPOL_BURST.PBS (i : Nat) : Fld := ⟨726, i, 16, 64, .core⟩
def SHP_WDS.RATE (i : Nat) : Fld := ⟨727, i, 16, 0, .core⟩
def SHP_WDS.BURST (i : Nat) : Fld := ⟨728, i, 16, 64, .core⟩
def SHP_GCL0.GATES (i : Nat) : Fld := ⟨729, i, 8, 255, .core⟩
def SHP_GCL0.INTERVAL (i : Nat) : Fld := ⟨730, i, 24, 250000, .core⟩
def SHP_GCL1.GATES (i : Nat) : Fld := ⟨731, i, 8, 255, .core⟩
def SHP_GCL1.INTERVAL (i : Nat) : Fld := ⟨732, i, 24, 250000, .core⟩
def SHP_GATE_CTL.EN (n : Nat) : Fld := ⟨733, n, 1, 0, .core⟩
def SHP_GATE_CTL.ARM (n : Nat) : Fld := ⟨734, n, 1, 0, .core⟩
def SHP_GATE_CTL.LEN (n : Nat) : Fld := ⟨735, n, 7, 1, .core⟩
def SHP_GATE_STS.LATE_BASE (n : Nat) : Fld := ⟨736, n, 1, 0, .core⟩
def SHP_GATE_STS.PENDING (n : Nat) : Fld := ⟨737, n, 1, 0, .core⟩
def SHP_GATE_STS.OPER_IX (n : Nat) : Fld := ⟨738, n, 6, 0, .core⟩
def SHP_GATE_STS.OPEN (n : Nat) : Fld := ⟨739, n, 8, 255, .core⟩
def SHP_GATE_BASE_NS.NS (n : Nat) : Fld := ⟨740, n, 30, 0, .core⟩
def SHP_GATE_BASE_SL.S (n : Nat) : Fld := ⟨741, n, 32, 0, .core⟩
def SHP_GATE_BASE_SH.S (n : Nat) : Fld := ⟨742, n, 16, 0, .core⟩
def SHP_GATE_CYCLE.NS (n : Nat) : Fld := ⟨743, n, 32, 1000000, .core⟩
def SHP_GATE_CREV.NS (n : Nat) : Fld := ⟨744, n, 16, 64, .core⟩
def SHP_GATE_AT_NS.NS (n : Nat) : Fld := ⟨745, n, 30, 0, .core⟩
def SHP_GATE_AT_SL.S (n : Nat) : Fld := ⟨746, n, 32, 0, .core⟩
def SHP_GATE_AT_SH.S (n : Nat) : Fld := ⟨747, n, 16, 0, .core⟩
def SHP_GATE_CYCLES (n : Nat) : Fld := ⟨748, n, 32, 0, .core⟩
def SHP_GATE_SWITCHES (n : Nat) : Fld := ⟨749, n, 32, 0, .core⟩
def SHP_GATE_OVERSIZE (n : Nat) (i : Nat) : Fld := ⟨750, n * 8 + i, 32, 0, .core⟩
def SHP_GATE_WAIT (n : Nat) : Fld := ⟨751, n, 32, 0, .core⟩
def SHP_GATE_LATE (n : Nat) : Fld := ⟨752, n, 32, 0, .core⟩
def SHP_EGR_CNT.FRAMES (n : Nat) : Fld := ⟨753, n, 16, 0, .core⟩
def SHP_EGR_PEAK.PEAK (n : Nat) : Fld := ⟨754, n, 16, 0, .core⟩
/-! Register tables of R267 09_timebase_and_ptp.md -/

def TSU_CFG.TC_EN : Fld := ⟨755, 0, 1, 0, .core⟩
def TSU_CFG.PTP_RING : Fld := ⟨756, 0, 5, 0, .core⟩
def TSU_CFG.PTP_CLASS : Fld := ⟨757, 0, 3, 7, .core⟩
def TSU_CFG.COPY_EVT : Fld := ⟨758, 0, 1, 0, .core⟩
def TSU_STS.REF : Fld := ⟨759, 0, 1, 0, .core⟩
def TSU_STS.ASN_RUN : Fld := ⟨760, 0, 1, 0, .core⟩
def TSU_STS.SERVO : Fld := ⟨761, 0, 3, 0, .core⟩
def TSU_STS.SLEWING : Fld := ⟨762, 0, 1, 0, .core⟩
def TSU_INT_STS.PATH_STEP : Fld := ⟨763, 0, 1, 0, .core⟩
def TSU_INT_STS.HOLDOVER : Fld := ⟨764, 0, 1, 0, .core⟩
def TSU_INT_STS.LOCKED : Fld := ⟨765, 0, 1, 0, .core⟩
def TSU_INT_STS.OFS_BIG : Fld := ⟨766, 0, 1, 0, .core⟩
def TSU_INT_STS.STEP_REFUSED : Fld := ⟨767, 0, 1, 0, .core⟩
def TSU_INT_STS.SLEW_DONE : Fld := ⟨768, 0, 1, 0, .core⟩
def TSU_INT_STS.PO_LATE : Fld := ⟨769, 0, 1, 0, .core⟩
def TSU_INT_STS.CI_OVF : Fld := ⟨770, 0, 1, 0, .core⟩
def TSU_INT_STS.ASN_STARTED : Fld := ⟨771, 0, 1, 0, .core⟩
def TSU_INT_STS.SYNC_LOSS : Fld := ⟨772, 0, 1, 0, .core⟩
def TSU_INT_STS.CMD_BAD : Fld := ⟨773, 0, 1, 0, .core⟩
def TSU_INT_STS.CI_DATA : Fld := ⟨774, 0, 1, 0, .core⟩
def TSU_INT_EN.PATH_STEP : Fld := ⟨775, 0, 1, 0, .core⟩
def TSU_INT_EN.HOLDOVER : Fld := ⟨776, 0, 1, 0, .core⟩
def TSU_INT_EN.LOCKED : Fld := ⟨777, 0, 1, 0, .core⟩
def TSU_INT_EN.OFS_BIG : Fld := ⟨778, 0, 1, 0, .core⟩
def TSU_INT_EN.STEP_REFUSED : Fld := ⟨779, 0, 1, 0, .core⟩
def TSU_INT_EN.SLEW_DONE : Fld := ⟨780, 0, 1, 0, .core⟩
def TSU_INT_EN.PO_LATE : Fld := ⟨781, 0, 1, 0, .core⟩
def TSU_INT_EN.CI_OVF : Fld := ⟨782, 0, 1, 0, .core⟩
def TSU_INT_EN.ASN_STARTED : Fld := ⟨783, 0, 1, 0, .core⟩
def TSU_INT_EN.SYNC_LOSS : Fld := ⟨784, 0, 1, 0, .core⟩
def TSU_INT_EN.CMD_BAD : Fld := ⟨785, 0, 1, 0, .core⟩
def TSU_INT_EN.CI_DATA : Fld := ⟨786, 0, 1, 0, .core⟩
def TSU_NS_LO.RC : Fld := ⟨787, 0, 32, 0, .core⟩
def TSU_NS_HI.RC : Fld := ⟨788, 0, 16, 0, .core⟩
def TSU_EPOCH.RC : Fld := ⟨789, 0, 16, 0, .core⟩
def TSU_MAP_NS.NS : Fld := ⟨790, 0, 30, 0, .core⟩
def TSU_MAP_SL.S : Fld := ⟨791, 0, 32, 0, .core⟩
def TSU_MAP_SH.S : Fld := ⟨792, 0, 16, 0, .core⟩
def TSU_TIME_NS.NS : Fld := ⟨793, 0, 30, 0, .core⟩
def TSU_TIME_SL.S : Fld := ⟨794, 0, 32, 0, .core⟩
def TSU_TIME_SH.S : Fld := ⟨795, 0, 16, 0, .core⟩
def TSU_FREQ.FREQ : Fld := ⟨796, 0, 32, 0, .core⟩
def TSU_STEP_NS.NS : Fld := ⟨797, 0, 32, 0, .core⟩
def TSU_STEP_S.S : Fld := ⟨798, 0, 32, 0, .core⟩
def TSU_STEP_CTL.STEP : Fld := ⟨799, 0, 1, 0, .core⟩
def TSU_STEP_CTL.SET : Fld := ⟨800, 0, 1, 0, .core⟩
def TSU_STEP_CTL.BAD : Fld := ⟨801, 0, 1, 0, .core⟩
def TSU_SET_NS.NS : Fld := ⟨802, 0, 30, 0, .core⟩
def TSU_SET_SL.S : Fld := ⟨803, 0, 32, 0, .core⟩
def TSU_SET_SH.S : Fld := ⟨804, 0, 16, 0, .core⟩
def TSU_SLEW_NS.NS : Fld := ⟨805, 0, 32, 0, .core⟩
def TSU_SLEW_CTL.GO : Fld := ⟨806, 0, 1, 0, .core⟩
def TSU_SLEW_CTL.ABORT : Fld := ⟨807, 0, 1, 0, .core⟩
def TSU_SLEW_CTL.BAD : Fld := ⟨808, 0, 1, 0, .core⟩
def TSU_SLEW_CFG.PPB : Fld := ⟨809, 0, 17, 2000, .core⟩
def TSU_ASN_CTL.START : Fld := ⟨810, 0, 1, 0, .core⟩
def TSU_ASN_CTL.STOP : Fld := ⟨811, 0, 1, 0, .core⟩
def TSU_ASN_CTL.BAD : Fld := ⟨812, 0, 1, 0, .core⟩
def TSU_ASN_T0_NS.NS : Fld := ⟨813, 0, 30, 0, .core⟩
def TSU_ASN_T0_SL.S : Fld := ⟨814, 0, 32, 0, .core⟩
def TSU_ASN_T0_SH.S : Fld := ⟨815, 0, 16, 0, .core⟩
def TSU_ASN_BASE_LO.ASN : Fld := ⟨816, 0, 32, 0, .core⟩
def TSU_ASN_BASE_HI.ASN : Fld := ⟨817, 0, 8, 0, .core⟩
def TSU_ASN_NEXT_NS.NS : Fld := ⟨818, 0, 30, 0, .core⟩
def TSU_ASN_NEXT_SL.S : Fld := ⟨819, 0, 32, 0, .core⟩
def TSU_ASN_STS.RUN : Fld := ⟨820, 0, 1, 0, .core⟩
def TSU_ASN_STS.STOP_PEND : Fld := ⟨821, 0, 1, 0, .core⟩
def TSU_ASN_STS.START_PEND : Fld := ⟨822, 0, 1, 0, .core⟩
def TSU_ASN_STS.LEN_US : Fld := ⟨823, 0, 18, 0, .core⟩
def TSU_SERVO_CFG.EN : Fld := ⟨824, 0, 1, 0, .core⟩
def TSU_SERVO_CFG.SRC : Fld := ⟨825, 0, 3, 0, .core⟩
def TSU_SERVO_CFG.STEP_EN : Fld := ⟨826, 0, 1, 1, .core⟩
def TSU_SERVO_CTL.CMD : Fld := ⟨827, 0, 2, 0, .core⟩
def TSU_SERVO_CTL.CMD_BAD : Fld := ⟨828, 0, 1, 0, .core⟩
def TSU_SERVO_STS.STATE : Fld := ⟨829, 0, 3, 0, .core⟩
def TSU_SERVO_STS.STEP_KIND : Fld := ⟨830, 0, 1, 0, .core⟩
def TSU_SERVO_STS.OFS_BIG : Fld := ⟨831, 0, 1, 0, .core⟩
def TSU_SERVO_STS.CAUSE : Fld := ⟨832, 0, 1, 0, .core⟩
def TSU_SERVO_STS.OFS_RUN : Fld := ⟨833, 0, 5, 0, .core⟩
def TSU_SERVO_STS.PD_RUN : Fld := ⟨834, 0, 5, 0, .core⟩
def TSU_SERVO_KP.KP : Fld := ⟨835, 0, 20, 45875, .core⟩
def TSU_SERVO_KI.KI : Fld := ⟨836, 0, 20, 19661, .core⟩
def TSU_SERVO_LIM.FREQ_MAX : Fld := ⟨837, 0, 18, 100000, .core⟩
def TSU_SERVO_STEP_THR.NS : Fld := ⟨838, 0, 32, 100000, .core⟩
def TSU_SERVO_LOCK_CFG.LOCK_THR : Fld := ⟨839, 0, 16, 200, .core⟩
def TSU_SERVO_LOCK_CFG.LOCK_N : Fld := ⟨840, 0, 8, 8, .core⟩
def TSU_SERVO_PD_CFG.PD_STEP_LIMIT : Fld := ⟨841, 0, 20, 1000, .core⟩
def TSU_SERVO_PD_CFG.PD_STEP_N : Fld := ⟨842, 0, 4, 4, .core⟩
def TSU_SERVO_PD_CFG.PD_SHIFT : Fld := ⟨843, 0, 4, 4, .core⟩
def TSU_SERVO_ASYM.NS : Fld := ⟨844, 0, 32, 0, .core⟩
def TSU_SERVO_OFS.NS : Fld := ⟨845, 0, 32, 0, .core⟩
def TSU_SERVO_MPD.NS : Fld := ⟨846, 0, 32, 0, .core⟩
def TSU_SERVO_MPD_RAW.NS : Fld := ⟨847, 0, 32, 0, .core⟩
def TSU_SERVO_INT.PPB : Fld := ⟨848, 0, 32, 0, .core⟩
def TSU_SERVO_HOLD_FREQ.PPB : Fld := ⟨849, 0, 32, 0, .core⟩
def TSU_SERVO_OFS_PEAK.NS : Fld := ⟨850, 0, 32, 0, .core⟩
def TSU_SERVO_EXT_OFS.NS : Fld := ⟨851, 0, 32, 0, .core⟩
def TSU_SERVO_HOLD_CFG.HOLD_AVG_S : Fld := ⟨852, 0, 10, 60, .core⟩
def TSU_SERVO_HOLD_CFG.LOSS_S : Fld := ⟨853, 0, 8, 4, .core⟩
def TSU_PPS_CFG.PPS_OFS : Fld := ⟨854, 0, 24, 0, .core⟩
def TSU_PPS_STS.EDGES : Fld := ⟨855, 0, 16, 0, .core⟩
def TSU_SYNC_USED : Fld := ⟨856, 0, 32, 0, .core⟩
def TSU_OFS_WITHHELD : Fld := ⟨857, 0, 32, 0, .core⟩
def TSU_PD_SAMPLES : Fld := ⟨858, 0, 32, 0, .core⟩
def TSU_PD_WITHHELD : Fld := ⟨859, 0, 32, 0, .core⟩
def TSU_PATH_STEPS : Fld := ⟨860, 0, 32, 0, .core⟩
def TSU_HOLDOVERS : Fld := ⟨861, 0, 32, 0, .core⟩
def TSU_STEPS : Fld := ⟨862, 0, 32, 0, .core⟩
def TSU_STEP_REFUSED : Fld := ⟨863, 0, 32, 0, .core⟩
def TSU_SLEWS : Fld := ⟨864, 0, 32, 0, .core⟩
def TSU_FUP_MISS : Fld := ⟨865, 0, 32, 0, .core⟩
def TSU_DRESP_TIMEOUT : Fld := ⟨866, 0, 32, 0, .core⟩
def TSU_HOST_SAMPLES : Fld := ⟨867, 0, 32, 0, .core⟩
def TSU_P_CFG.EN (n : Nat) : Fld := ⟨868, n, 1, 0, .core⟩
def TSU_P_CFG.ROLE (n : Nat) : Fld := ⟨869, n, 2, 0, .core⟩
def TSU_P_CFG.TWO_STEP (n : Nat) : Fld := ⟨870, n, 1, 0, .core⟩
def TSU_P_CFG.DOMAIN (n : Nat) : Fld := ⟨871, n, 8, 0, .core⟩
def TSU_P_CFG.VLAN (n : Nat) : Fld := ⟨872, n, 12, 0, .core⟩
def TSU_P_CFG.VLAN_EN (n : Nat) : Fld := ⟨873, n, 1, 0, .core⟩
def TSU_P_CFG.PCP (n : Nat) : Fld := ⟨874, n, 3, 7, .core⟩
def TSU_P_STS.TS_OK (n : Nat) : Fld := ⟨875, n, 1, 0, .core⟩
def TSU_P_STS.PAR_SEEN (n : Nat) : Fld := ⟨876, n, 1, 0, .core⟩
def TSU_P_CLK_LO.ID (n : Nat) : Fld := ⟨877, n, 32, 0, .core⟩
def TSU_P_CLK_HI.ID (n : Nat) : Fld := ⟨878, n, 32, 0, .core⟩
def TSU_P_NUM.PORT (n : Nat) : Fld := ⟨879, n, 16, (([1, 2] : List Nat).getD n 0), .core⟩
def TSU_P_PAR_LO.ID (n : Nat) : Fld := ⟨880, n, 32, 0, .core⟩
def TSU_P_PAR_HI.ID (n : Nat) : Fld := ⟨881, n, 32, 0, .core⟩
def TSU_P_PAR_NUM.PORT (n : Nat) : Fld := ⟨882, n, 16, 0, .core⟩
def TSU_P_INTERVAL.LOG_SYNC (n : Nat) : Fld := ⟨883, n, 4, 13, .core⟩
def TSU_P_INTERVAL.LOG_DREQ (n : Nat) : Fld := ⟨884, n, 4, 0, .core⟩
def TSU_P_ING_LAT.NS (n : Nat) : Fld := ⟨885, n, 16, 0, .core⟩
def TSU_P_EGR_LAT.NS (n : Nat) : Fld := ⟨886, n, 16, 0, .core⟩
def TSU_P_ASYM.NS (n : Nat) : Fld := ⟨887, n, 32, 0, .core⟩
def TSU_P_RES_LAST.NS (n : Nat) : Fld := ⟨888, n, 32, 0, .core⟩
def TSU_P_RES_PEAK.NS (n : Nat) : Fld := ⟨889, n, 32, 0, .core⟩
def TSU_P_RX_EVENT (n : Nat) : Fld := ⟨890, n, 32, 0, .core⟩
def TSU_P_TX_EVENT (n : Nat) : Fld := ⟨891, n, 32, 0, .core⟩
def TSU_P_RX_GENERAL (n : Nat) : Fld := ⟨892, n, 32, 0, .core⟩
def TSU_P_SYNC_RX (n : Nat) : Fld := ⟨893, n, 32, 0, .core⟩
def TSU_P_SYNC_TX (n : Nat) : Fld := ⟨894, n, 32, 0, .core⟩
def TSU_P_FUP_TX (n : Nat) : Fld := ⟨895, n, 32, 0, .core⟩
def TSU_P_DREQ_TX (n : Nat) : Fld := ⟨896, n, 32, 0, .core⟩
def TSU_P_DREQ_RX (n : Nat) : Fld := ⟨897, n, 32, 0, .core⟩
def TSU_P_DRESP_TX (n : Nat) : Fld := ⟨898, n, 32, 0, .core⟩
def TSU_P_DRESP_RX (n : Nat) : Fld := ⟨899, n, 32, 0, .core⟩
def TSU_P_FOREIGN (n : Nat) : Fld := ⟨900, n, 32, 0, .core⟩
def TSU_P_ONESTEP (n : Nat) : Fld := ⟨901, n, 32, 0, .core⟩
def TSU_P_TC_FWD (n : Nat) : Fld := ⟨902, n, 32, 0, .core⟩
def TSU_P_TC_UNCORR (n : Nat) : Fld := ⟨903, n, 32, 0, .core⟩
def TSU_P_PDELAY (n : Nat) : Fld := ⟨904, n, 32, 0, .core⟩
def TSU_P_BAD_DOMAIN (n : Nat) : Fld := ⟨905, n, 32, 0, .core⟩
def TSU_P_TS_LOST (n : Nat) : Fld := ⟨906, n, 32, 0, .core⟩
def TSU_P_TX_TS_REQ (n : Nat) : Fld := ⟨907, n, 32, 0, .core⟩
def TSU_PO_CTL.ARM (n : Nat) : Fld := ⟨908, n, 1, 0, .core⟩
def TSU_PO_CTL.PERIODIC (n : Nat) : Fld := ⟨909, n, 1, 0, .core⟩
def TSU_PO_CTL.STRICT (n : Nat) : Fld := ⟨910, n, 1, 0, .core⟩
def TSU_PO_CTL.OUT_EN (n : Nat) : Fld := ⟨911, n, 1, 0, .core⟩
def TSU_PO_CTL.POL (n : Nat) : Fld := ⟨912, n, 1, 0, .core⟩
def TSU_PO_CTL.STOP (n : Nat) : Fld := ⟨913, n, 1, 0, .core⟩
def TSU_PO_STS.LATE (n : Nat) : Fld := ⟨914, n, 1, 0, .core⟩
def TSU_PO_STS.CANCELLED (n : Nat) : Fld := ⟨915, n, 1, 0, .core⟩
def TSU_PO_STS.ACTIVE (n : Nat) : Fld := ⟨916, n, 1, 0, .core⟩
def TSU_PO_START_NS.NS (n : Nat) : Fld := ⟨917, n, 30, 0, .core⟩
def TSU_PO_START_SL.S (n : Nat) : Fld := ⟨918, n, 32, 0, .core⟩
def TSU_PO_START_SH.S (n : Nat) : Fld := ⟨919, n, 16, 0, .core⟩
def TSU_PO_PERIOD.NS (n : Nat) : Fld := ⟨920, n, 32, 1000000000, .core⟩
def TSU_PO_WIDTH.NS (n : Nat) : Fld := ⟨921, n, 32, 100000000, .core⟩
def TSU_PO_COUNT.COUNT (n : Nat) : Fld := ⟨922, n, 32, 0, .core⟩
def TSU_CI_CTL.EN (n : Nat) : Fld := ⟨923, n, 1, 0, .core⟩
def TSU_CI_CTL.EDGE (n : Nat) : Fld := ⟨924, n, 2, 0, .core⟩
def TSU_CI_CTL.FILT (n : Nat) : Fld := ⟨925, n, 4, 0, .core⟩
def TSU_CI_STS.LEVEL (n : Nat) : Fld := ⟨926, n, 5, 0, .core⟩
def TSU_CI_STS.OVF (n : Nat) : Fld := ⟨927, n, 1, 0, .core⟩
def TSU_CI_STS.PIN (n : Nat) : Fld := ⟨928, n, 1, 0, .core⟩
def TSU_CI_NS.NS (n : Nat) : Fld := ⟨929, n, 30, 0, .core⟩
def TSU_CI_NS.VALID (n : Nat) : Fld := ⟨930, n, 1, 0, .core⟩
def TSU_CI_NS.FALL (n : Nat) : Fld := ⟨931, n, 1, 0, .core⟩
def TSU_CI_SL.S (n : Nat) : Fld := ⟨932, n, 32, 0, .core⟩
def TSU_CI_SH.S (n : Nat) : Fld := ⟨933, n, 16, 0, .core⟩
def TSU_CI_RC.RC (n : Nat) : Fld := ⟨934, n, 32, 0, .core⟩
def TSU_CI_EVENTS (n : Nat) : Fld := ⟨935, n, 32, 0, .core⟩
def TSU_CI_LOST (n : Nat) : Fld := ⟨936, n, 32, 0, .core⟩
/-! Register tables of R301 10_host_rings.md -/

def HIF_CFG.EN : Fld := ⟨937, 0, 1, 0, .core⟩
def HIF_CFG.STANDALONE : Fld := ⟨938, 0, 1, 0, .core⟩
def HIF_CFG.BH_RING : Fld := ⟨939, 0, 5, 0, .core⟩
def HIF_STS.LINK_UP : Fld := ⟨940, 0, 1, 0, .core⟩
def HIF_STS.GEN : Fld := ⟨941, 0, 3, 0, .core⟩
def HIF_STS.WIDTH : Fld := ⟨942, 0, 3, 0, .core⟩
def HIF_STS.BME : Fld := ⟨943, 0, 1, 0, .core⟩
def HIF_STS.MSIX_EN : Fld := ⟨944, 0, 1, 0, .core⟩
def HIF_INT_STS.DB_BAD : Fld := ⟨945, 0, 1, 0, .core⟩
def HIF_INT_STS.DMA_ERR : Fld := ⟨946, 0, 1, 0, .core⟩
def HIF_INT_STS.EVT_LOST : Fld := ⟨947, 0, 1, 0, .core⟩
def HIF_INT_STS.MBX_IDLE : Fld := ⟨948, 0, 1, 0, .core⟩
def HIF_INT_EN.DB_BAD : Fld := ⟨949, 0, 1, 0, .core⟩
def HIF_INT_EN.DMA_ERR : Fld := ⟨950, 0, 1, 0, .core⟩
def HIF_INT_EN.EVT_LOST : Fld := ⟨951, 0, 1, 0, .core⟩
def HIF_INT_EN.MBX_IDLE : Fld := ⟨952, 0, 1, 0, .core⟩
def HIF_PCIE_CFG.MAX_GEN : Fld := ⟨953, 0, 3, 4, .kept⟩
def HIF_PCIE_CFG.L1_EN : Fld := ⟨954, 0, 1, 1, .kept⟩
def HIF_SUBSYS.SSVID : Fld := ⟨955, 0, 16, 8078, .kept⟩
def HIF_SUBSYS.SSID : Fld := ⟨956, 0, 16, 9792, .kept⟩
def HIF_EVT_ROUTE_LO.RING_0 : Fld := ⟨957, 0, 2, 0, .core⟩
def HIF_EVT_ROUTE_LO.RING_1 : Fld := ⟨958, 0, 2, 0, .core⟩
def HIF_EVT_ROUTE_LO.RING_2 : Fld := ⟨959, 0, 2, 0, .core⟩
def HIF_EVT_ROUTE_LO.RING_3 : Fld := ⟨960, 0, 2, 0, .core⟩
def HIF_EVT_ROUTE_LO.RING_4 : Fld := ⟨961, 0, 2, 0, .core⟩
def HIF_EVT_ROUTE_LO.RING_5 : Fld := ⟨962, 0, 2, 0, .core⟩
def HIF_EVT_ROUTE_LO.RING_6 : Fld := ⟨963, 0, 2, 0, .core⟩
def HIF_EVT_ROUTE_LO.RING_7 : Fld := ⟨964, 0, 2, 0, .core⟩
def HIF_EVT_ROUTE_LO.RING_8 : Fld := ⟨965, 0, 2, 0, .core⟩
def HIF_EVT_ROUTE_LO.RING_9 : Fld := ⟨966, 0, 2, 0, .core⟩
def HIF_EVT_ROUTE_LO.RING_10 : Fld := ⟨967, 0, 2, 0, .core⟩
def HIF_EVT_ROUTE_LO.RING_11 : Fld := ⟨968, 0, 2, 0, .core⟩
def HIF_EVT_ROUTE_LO.RING_12 : Fld := ⟨969, 0, 2, 0, .core⟩
def HIF_EVT_ROUTE_LO.RING_13 : Fld := ⟨970, 0, 2, 0, .core⟩
def HIF_EVT_ROUTE_LO.RING_14 : Fld := ⟨971, 0, 2, 0, .core⟩
def HIF_EVT_ROUTE_LO.RING_15 : Fld := ⟨972, 0, 2, 0, .core⟩
def HIF_EVT_ROUTE_HI.RING_16 : Fld := ⟨973, 0, 2, 0, .core⟩
def HIF_EVT_ROUTE_HI.RING_17 : Fld := ⟨974, 0, 2, 0, .core⟩
def HIF_EVT_ROUTE_HI.RING_18 : Fld := ⟨975, 0, 2, 0, .core⟩
def HIF_EVT_ROUTE_HI.RING_19 : Fld := ⟨976, 0, 2, 0, .core⟩
def HIF_RX_ROUTE.CTL_RING (i : Nat) : Fld := ⟨977, i, 5, 0, .core⟩
def HIF_RX_ROUTE.MAC_RING (i : Nat) : Fld := ⟨978, i, 5, 0, .core⟩
def HIF_RX_ROUTE.MISS_RING (i : Nat) : Fld := ⟨979, i, 5, 0, .core⟩
def HIF_MBX_IDLE : Fld := ⟨980, 0, 32, 0, .core⟩
def HIF_DB_BAD : Fld := ⟨981, 0, 32, 0, .core⟩
def HIF_DMA_ERR : Fld := ⟨982, 0, 32, 0, .core⟩
def HIF_EVT_LOST : Fld := ⟨983, 0, 32, 0, .core⟩
def HIF_TX_TRUNC : Fld := ⟨984, 0, 32, 0, .core⟩
def HIF_RX_TRUNC : Fld := ⟨985, 0, 32, 0, .core⟩
def HIF_NOP : Fld := ⟨986, 0, 32, 0, .core⟩
def HIF_TX_DESC : Fld := ⟨987, 0, 32, 0, .core⟩
def HIF_RX_DESC : Fld := ⟨988, 0, 32, 0, .core⟩
def HIF_CMD_DONE : Fld := ⟨989, 0, 32, 0, .core⟩
def HIF_CMD_FAIL : Fld := ⟨990, 0, 32, 0, .core⟩
def HIF_EVT_WRITTEN : Fld := ⟨991, 0, 32, 0, .core⟩
def HIF_MSIX_SENT : Fld := ⟨992, 0, 32, 0, .core⟩
def HIF_RX_BACKLOG_DROP : Fld := ⟨993, 0, 32, 0, .core⟩
def HIF_FLR : Fld := ⟨994, 0, 32, 0, .core⟩
def HIF_BADARG : Fld := ⟨995, 0, 32, 0, .core⟩
def HIF_R_BASE_LO.ADDR (n : Nat) : Fld := ⟨996, n, 32, 0, .core⟩
def HIF_R_BASE_HI.ADDR (n : Nat) : Fld := ⟨997, n, 32, 0, .core⟩
def HIF_R_CFG.EN (n : Nat) : Fld := ⟨998, n, 1, 0, .core⟩
def HIF_R_CFG.SIZE_LOG2 (n : Nat) : Fld := ⟨999, n, 5, 6, .core⟩
def HIF_R_CFG.LOC (n : Nat) : Fld := ⟨1000, n, 1, 0, .core⟩
def HIF_R_CFG.VEC (n : Nat) : Fld := ⟨1001, n, 6, 0, .core⟩
def HIF_R_CFG.CORE (n : Nat) : Fld := ⟨1002, n, 3, 0, .core⟩
def HIF_R_CFG.IRQ_EN (n : Nat) : Fld := ⟨1003, n, 1, 1, .core⟩
def HIF_R_CFG.LIMIT (n : Nat) : Fld := ⟨1004, n, 12, 256, .core⟩
def HIF_R_MOD.USECS (n : Nat) : Fld := ⟨1005, n, 10, 32, .core⟩
def HIF_R_MOD.COUNT (n : Nat) : Fld := ⟨1006, n, 10, 8, .core⟩
def HIF_R_IDX.HEAD (n : Nat) : Fld := ⟨1007, n, 16, 0, .core⟩
def HIF_R_IDX.TAIL (n : Nat) : Fld := ⟨1008, n, 16, 0, .core⟩
def HIF_R_STS.RUN (n : Nat) : Fld := ⟨1009, n, 1, 0, .core⟩
def HIF_R_STS.ARMED (n : Nat) : Fld := ⟨1010, n, 1, 0, .core⟩
def HIF_R_STS.ERR (n : Nat) : Fld := ⟨1011, n, 1, 0, .core⟩
def HIF_R_STS.ERR_CODE (n : Nat) : Fld := ⟨1012, n, 3, 0, .core⟩
def HIF_R_STS.PEND (n : Nat) : Fld := ⟨1013, n, 16, 0, .core⟩
def HIF_R_DONE.COUNT (n : Nat) : Fld := ⟨1014, n, 32, 0, .core⟩
def HIF_TXR_ARB.WEIGHT (n : Nat) : Fld := ⟨1015, n, 8, 1, .core⟩
def HIF_RXR_BACKLOG.COUNT (n : Nat) : Fld := ⟨1016, n, 16, 0, .core⟩
def HIF_RXR_BACKLOG.PEAK (n : Nat) : Fld := ⟨1017, n, 16, 0, .core⟩
def HIF_CMDR_FAIL.COUNT (n : Nat) : Fld := ⟨1018, n, 32, 0, .core⟩
def HIF_EVTR_PEND.PEND (n : Nat) : Fld := ⟨1019, n, 7, 0, .core⟩
def HIF_EVTR_PEND.PEAK (n : Nat) : Fld := ⟨1020, n, 7, 0, .core⟩
/-! Register tables of R317 11_node_update_distribution.md -/

def UPD_CFG.EN : Fld := ⟨1021, 0, 1, 0, .core⟩
def UPD_CFG.RPT_EN : Fld := ⟨1022, 0, 1, 1, .core⟩
def UPD_STS.ACTIVE : Fld := ⟨1023, 0, 4, 0, .core⟩
def UPD_STS.PRESS_BUSY : Fld := ⟨1024, 0, 1, 0, .core⟩
def UPD_INT_STS.CAMP_END : Fld := ⟨1025, 0, 1, 0, .core⟩
def UPD_INT_STS.NODE_FAIL : Fld := ⟨1026, 0, 1, 0, .core⟩
def UPD_INT_STS.STARVE : Fld := ⟨1027, 0, 1, 0, .core⟩
def UPD_INT_STS.IMG_ERR : Fld := ⟨1028, 0, 1, 0, .core⟩
def UPD_INT_STS.NOCURD : Fld := ⟨1029, 0, 1, 0, .core⟩
def UPD_INT_EN.CAMP_END : Fld := ⟨1030, 0, 1, 0, .core⟩
def UPD_INT_EN.NODE_FAIL : Fld := ⟨1031, 0, 1, 0, .core⟩
def UPD_INT_EN.STARVE : Fld := ⟨1032, 0, 1, 0, .core⟩
def UPD_INT_EN.IMG_ERR : Fld := ⟨1033, 0, 1, 0, .core⟩
def UPD_INT_EN.NOCURD : Fld := ⟨1034, 0, 1, 0, .core⟩
def UPD_PRESS_STS.SLOT : Fld := ⟨1035, 0, 2, 0, .core⟩
def UPD_PRESS_STS.SBN : Fld := ⟨1036, 0, 8, 0, .core⟩
def UPD_CURDS.USED : Fld := ⟨1037, 0, 16, 0, .core⟩
def UPD_CURDS.PEAK : Fld := ⟨1038, 0, 16, 0, .core⟩
def UPD_READY.FRAMES : Fld := ⟨1039, 0, 9, 0, .core⟩
def UPD_READY.PEAK : Fld := ⟨1040, 0, 9, 0, .core⟩
def UPD_PREP_LAST.US : Fld := ⟨1041, 0, 16, 0, .core⟩
def UPD_VKEY.KEY (i : Nat) : Fld := ⟨1042, i, 32, 0, .kept⟩
def UPD_SYM_SENT : Fld := ⟨1043, 0, 32, 0, .core⟩
def UPD_ANN_SENT : Fld := ⟨1044, 0, 32, 0, .core⟩
def UPD_STARVE : Fld := ⟨1045, 0, 32, 0, .core⟩
def UPD_RATE_SKIP : Fld := ⟨1046, 0, 32, 0, .core⟩
def UPD_NOFIT : Fld := ⟨1047, 0, 32, 0, .core⟩
def UPD_SHARED_FILL : Fld := ⟨1048, 0, 32, 0, .core⟩
def UPD_RPT_RX : Fld := ⟨1049, 0, 32, 0, .core⟩
def UPD_RPT_STALE : Fld := ⟨1050, 0, 32, 0, .core⟩
def UPD_NODE_DONE : Fld := ⟨1051, 0, 32, 0, .core⟩
def UPD_NODE_FAIL : Fld := ⟨1052, 0, 32, 0, .core⟩
def UPD_NODE_REFUSED : Fld := ⟨1053, 0, 32, 0, .core⟩
def UPD_BLOCKS_PREP : Fld := ⟨1054, 0, 32, 0, .core⟩
def UPD_NOCURD : Fld := ⟨1055, 0, 32, 0, .core⟩
def UPD_IMG_DMA_ERR : Fld := ⟨1056, 0, 32, 0, .core⟩
def UPD_SIGN_OPS : Fld := ⟨1057, 0, 32, 0, .core⟩
def UPD_PRESS_KIB : Fld := ⟨1058, 0, 32, 0, .core⟩
def UPD_C_STS.STATE (n : Nat) : Fld := ⟨1059, n, 3, 0, .core⟩
def UPD_C_STS.WARD (n : Nat) : Fld := ⟨1060, n, 3, 0, .core⟩
def UPD_C_STS.END_WHY (n : Nat) : Fld := ⟨1061, n, 3, 0, .core⟩
def UPD_C_STS.IMG_ID (n : Nat) : Fld := ⟨1062, n, 8, 0, .core⟩
def UPD_C_OTI_LO.F (n : Nat) : Fld := ⟨1063, n, 32, 0, .core⟩
def UPD_C_OTI_HI.F (n : Nat) : Fld := ⟨1064, n, 8, 0, .core⟩
def UPD_C_OTI_HI.T (n : Nat) : Fld := ⟨1065, n, 16, 0, .core⟩
def UPD_C_OTI_HI.Z (n : Nat) : Fld := ⟨1066, n, 8, 0, .core⟩
def UPD_C_ROUND.ROUND (n : Nat) : Fld := ⟨1067, n, 8, 0, .core⟩
def UPD_C_ROUND.ROUNDS (n : Nat) : Fld := ⟨1068, n, 8, 0, .core⟩
def UPD_C_SENT.COUNT (n : Nat) : Fld := ⟨1069, n, 32, 0, .core⟩
def UPD_C_NODES.ACTIVE (n : Nat) : Fld := ⟨1070, n, 18, 0, .core⟩
def UPD_C_DONE.DONE (n : Nat) : Fld := ⟨1071, n, 18, 0, .core⟩
def UPD_C_FAIL.FAIL (n : Nat) : Fld := ⟨1072, n, 18, 0, .core⟩
/-! Register tables of R347 12_cave_keys_and_tamper.md -/

def KEY_CFG.BRINE_EN : Fld := ⟨1073, 0, 1, 1, .kept⟩
def KEY_STS.STATE : Fld := ⟨1074, 0, 3, 0, .core⟩
def KEY_STS.HTK_READY : Fld := ⟨1075, 0, 1, 0, .core⟩
def KEY_STS.CELLAR_NEW : Fld := ⟨1076, 0, 1, 0, .core⟩
def KEY_STS.RNG_OK : Fld := ⟨1077, 0, 1, 0, .core⟩
def KEY_STS.SLOTS : Fld := ⟨1078, 0, 6, 0, .core⟩
def KEY_INT_STS.TAMPER : Fld := ⟨1079, 0, 1, 0, .core⟩
def KEY_INT_STS.WIPED : Fld := ⟨1080, 0, 1, 0, .core⟩
def KEY_INT_STS.RESTORED : Fld := ⟨1081, 0, 1, 0, .core⟩
def KEY_INT_STS.DEAD : Fld := ⟨1082, 0, 1, 0, .core⟩
def KEY_INT_STS.RNG_FAIL : Fld := ⟨1083, 0, 1, 0, .core⟩
def KEY_INT_STS.LOG_FULL : Fld := ⟨1084, 0, 1, 0, .core⟩
def KEY_INT_STS.CELLAR_NEW : Fld := ⟨1085, 0, 1, 0, .core⟩
def KEY_INT_STS.LOCKSTEP : Fld := ⟨1086, 0, 1, 0, .core⟩
def KEY_INT_EN.TAMPER : Fld := ⟨1087, 0, 1, 0, .core⟩
def KEY_INT_EN.WIPED : Fld := ⟨1088, 0, 1, 0, .core⟩
def KEY_INT_EN.RESTORED : Fld := ⟨1089, 0, 1, 0, .core⟩
def KEY_INT_EN.DEAD : Fld := ⟨1090, 0, 1, 0, .core⟩
def KEY_INT_EN.RNG_FAIL : Fld := ⟨1091, 0, 1, 0, .core⟩
def KEY_INT_EN.LOG_FULL : Fld := ⟨1092, 0, 1, 0, .core⟩
def KEY_INT_EN.CELLAR_NEW : Fld := ⟨1093, 0, 1, 0, .core⟩
def KEY_INT_EN.LOCKSTEP : Fld := ⟨1094, 0, 1, 0, .core⟩
def KEY_LC.LC : Fld := ⟨1095, 0, 5, 0, .core⟩
def KEY_LC.RETURN_PEND : Fld := ⟨1096, 0, 1, 0, .core⟩
def KEY_TAMPER_STS.TOTAL : Fld := ⟨1097, 0, 16, 0, .cellar⟩
def KEY_TAMPER_STS.UNACK : Fld := ⟨1098, 0, 5, 0, .cellar⟩
def KEY_TAMPER_STS.LATCHED : Fld := ⟨1099, 0, 1, 0, .cellar⟩
def KEY_TAMPER_STS.LOG_FULL : Fld := ⟨1100, 0, 1, 0, .cellar⟩
def KEY_TAMPER_STS.ZEROED : Fld := ⟨1101, 0, 1, 0, .cellar⟩
def KEY_TAMPER_ACK.CODE : Fld := ⟨1102, 0, 16, 0, .core⟩
def KEY_RIND_CFG.PER_ACT : Fld := ⟨1103, 0, 8, 10, .cellar⟩
def KEY_RIND_CFG.PER_SLEEP : Fld := ⟨1104, 0, 8, 125, .cellar⟩
def KEY_RIND_CFG.DEB : Fld := ⟨1105, 0, 3, 1, .cellar⟩
def KEY_RIND_CFG.CASE_POL : Fld := ⟨1106, 0, 1, 0, .cellar⟩
def KEY_RIND_EN.EN : Fld := ⟨1107, 0, 8, 241, .cellar⟩
def KEY_RIND_CLASS.FUSE : Fld := ⟨1108, 0, 8, 0, .cellar⟩
def KEY_RIND_CLASS.SOFT : Fld := ⟨1109, 0, 8, 0, .cellar⟩
def KEY_RIND_CLASS.EFF : Fld := ⟨1110, 0, 8, 0, .cellar⟩
def KEY_RIND_STS.RAW : Fld := ⟨1111, 0, 8, 0, .cellar⟩
def KEY_RIND_STS.TRIPPED : Fld := ⟨1112, 0, 8, 0, .cellar⟩
def KEY_BRINE_CFG.PERIOD_MS : Fld := ⟨1113, 0, 10, 100, .core⟩
def KEY_BRINE_STS.LAST_MS : Fld := ⟨1114, 0, 16, 0, .core⟩
def KEY_BRINE_STS.POS : Fld := ⟨1115, 0, 16, 0, .core⟩
def KEY_RNG_STS.OK : Fld := ⟨1116, 0, 1, 0, .core⟩
def KEY_RNG_STS.HEALTH_FAIL : Fld := ⟨1117, 0, 1, 0, .core⟩
def KEY_RNG_STS.FAILS : Fld := ⟨1118, 0, 8, 0, .core⟩
def KEY_SVN.SVN : Fld := ⟨1119, 0, 32, 0, .core⟩
def KEY_BOOTCNT.COUNT : Fld := ⟨1120, 0, 32, 0, .cellar⟩
def KEY_BRINE_PASSES : Fld := ⟨1121, 0, 32, 0, .core⟩
def KEY_BRINE_SKIP : Fld := ⟨1122, 0, 32, 0, .core⟩
def KEY_RNG_FAIL : Fld := ⟨1123, 0, 32, 0, .core⟩
def KEY_WIPES : Fld := ⟨1124, 0, 32, 0, .core⟩
def KEY_RESTORES : Fld := ⟨1125, 0, 32, 0, .core⟩
def KEY_ABORTS : Fld := ⟨1126, 0, 32, 0, .core⟩
def KEY_ATTESTS : Fld := ⟨1127, 0, 32, 0, .core⟩
def KEY_GEN_OPS : Fld := ⟨1128, 0, 32, 0, .core⟩
def KEY_IMPORT_OPS : Fld := ⟨1129, 0, 32, 0, .core⟩
def KEY_UNWRAP_FAIL : Fld := ⟨1130, 0, 32, 0, .core⟩
def KEY_GROUP_LOADS : Fld := ⟨1131, 0, 32, 0, .core⟩
def KEY_GROUP_ZEROED : Fld := ⟨1132, 0, 32, 0, .core⟩
def KEY_ALIAS_SIGNS : Fld := ⟨1133, 0, 32, 0, .core⟩
def KEY_IDENT_SIGNS : Fld := ⟨1134, 0, 32, 0, .core⟩
def KEY_LOCKSTEP_ERR : Fld := ⟨1135, 0, 32, 0, .core⟩
def KEY_HOLD_BOOTS : Fld := ⟨1136, 0, 32, 0, .core⟩
def KEY_MEAS.M (i : Nat) : Fld := ⟨1137, i, 32, 0, .core⟩
def KEY_IDENT_PUB.K (i : Nat) : Fld := ⟨1138, i, 32, 0, .core⟩
def KEY_ALIAS_PUB.K (i : Nat) : Fld := ⟨1139, i, 32, 0, .core⟩
def KEY_XCHG_PUB.K (i : Nat) : Fld := ⟨1140, i, 32, 0, .core⟩
def KEY_HOSTPUB.K (i : Nat) : Fld := ⟨1141, i, 32, 0, .kept⟩
def KEY_SLOT_STS.SLOT_0 (i : Nat) : Fld := ⟨1142, i, 8, 0, .core⟩
def KEY_SLOT_STS.SLOT_1 (i : Nat) : Fld := ⟨1143, i, 8, 0, .core⟩
def KEY_SLOT_STS.SLOT_2 (i : Nat) : Fld := ⟨1144, i, 8, 0, .core⟩
def KEY_SLOT_STS.SLOT_3 (i : Nat) : Fld := ⟨1145, i, 8, 0, .core⟩
def KEY_RIND_CNT.COUNT (i : Nat) : Fld := ⟨1146, i, 32, 0, .cellar⟩
def KEY_TLOG_A.RTC_S (i : Nat) : Fld := ⟨1147, i, 32, 0, .cellar⟩
def KEY_TLOG_B.RTC_TICK (i : Nat) : Fld := ⟨1148, i, 15, 0, .cellar⟩
def KEY_TLOG_B.SENSOR (i : Nat) : Fld := ⟨1149, i, 4, 0, .cellar⟩
def KEY_TLOG_B.CLASS_A (i : Nat) : Fld := ⟨1150, i, 1, 0, .cellar⟩
def KEY_TLOG_B.PHASE (i : Nat) : Fld := ⟨1151, i, 3, 0, .cellar⟩
def KEY_TLOG_B.ACK (i : Nat) : Fld := ⟨1152, i, 2, 0, .cellar⟩
def KEY_TLOG_B.VALID (i : Nat) : Fld := ⟨1153, i, 1, 0, .cellar⟩
def KEY_TLOG_B.ZEROED (i : Nat) : Fld := ⟨1154, i, 1, 0, .cellar⟩
/-! Register tables of R378 R379 13_boot_and_life_cycle.md -/

def SYS_ID.STEP : Fld := ⟨1155, 0, 8, 161, .core⟩
def SYS_ID.GRADE : Fld := ⟨1156, 0, 8, Config.grade % 2, .core⟩
def SYS_ID.PART : Fld := ⟨1157, 0, 16, 9792, .core⟩
def SYS_RST_CAUSE.HIST : Fld := ⟨1158, 0, 6, 1, .cellar⟩
def SYS_RST_CAUSE.LAST : Fld := ⟨1159, 0, 3, 0, .cellar⟩
def SYS_RST_CTL.WARM : Fld := ⟨1160, 0, 1, 0, .core⟩
def SYS_RST_CTL.KEY : Fld := ⟨1161, 0, 16, 0, .core⟩
def SYS_MODE.MODE : Fld := ⟨1162, 0, 2, 1, .core⟩
def SYS_MODE_STS.CUR : Fld := ⟨1163, 0, 2, 1, .core⟩
def SYS_MODE_STS.PEND : Fld := ⟨1164, 0, 2, 1, .core⟩
def SYS_MODE_STS.BUSY : Fld := ⟨1165, 0, 1, 0, .core⟩
def SYS_MODE_STS.FAIL : Fld := ⟨1166, 0, 1, 0, .core⟩
def SYS_CFG_LOCK.LOCK : Fld := ⟨1167, 0, 1, 0, .kept⟩
def SYS_INT_STS.BOOT_DONE : Fld := ⟨1168, 0, 1, 0, .core⟩
def SYS_INT_STS.BOOT_FAIL : Fld := ⟨1169, 0, 1, 0, .core⟩
def SYS_INT_STS.MODE_DONE : Fld := ⟨1170, 0, 1, 0, .core⟩
def SYS_INT_STS.LC_PEND : Fld := ⟨1171, 0, 1, 0, .core⟩
def SYS_INT_STS.UC_LOADED : Fld := ⟨1172, 0, 1, 0, .core⟩
def SYS_INT_STS.UC_REJECT : Fld := ⟨1173, 0, 1, 0, .core⟩
def SYS_INT_STS.SVN_DONE : Fld := ⟨1174, 0, 1, 0, .core⟩
def SYS_INT_STS.FUSE_DONE : Fld := ⟨1175, 0, 1, 0, .core⟩
def SYS_INT_EN.BOOT_DONE : Fld := ⟨1176, 0, 1, 0, .core⟩
def SYS_INT_EN.BOOT_FAIL : Fld := ⟨1177, 0, 1, 0, .core⟩
def SYS_INT_EN.MODE_DONE : Fld := ⟨1178, 0, 1, 0, .core⟩
def SYS_INT_EN.LC_PEND : Fld := ⟨1179, 0, 1, 0, .core⟩
def SYS_INT_EN.UC_LOADED : Fld := ⟨1180, 0, 1, 0, .core⟩
def SYS_INT_EN.UC_REJECT : Fld := ⟨1181, 0, 1, 0, .core⟩
def SYS_INT_EN.SVN_DONE : Fld := ⟨1182, 0, 1, 0, .core⟩
def SYS_INT_EN.FUSE_DONE : Fld := ⟨1183, 0, 1, 0, .core⟩
def SYS_BOOT_CFG.STRAP : Fld := ⟨1184, 0, 2, 0, .core⟩
def SYS_BOOT_CFG.OVR_EN : Fld := ⟨1185, 0, 1, 0, .kept⟩
def SYS_BOOT_CFG.OVR_SRC : Fld := ⟨1186, 0, 2, 0, .kept⟩
def SYS_BOOT_STS.STAGE : Fld := ⟨1187, 0, 4, 0, .core⟩
def SYS_BOOT_STS.SRC : Fld := ⟨1188, 0, 2, 0, .core⟩
def SYS_BOOT_STS.SLOT : Fld := ⟨1189, 0, 1, 0, .core⟩
def SYS_BOOT_STS.FALLBACK : Fld := ⟨1190, 0, 1, 0, .core⟩
def SYS_BOOT_STS.ERR : Fld := ⟨1191, 0, 4, 0, .core⟩
def SYS_BOOT_TIME.US : Fld := ⟨1192, 0, 24, 0, .core⟩
def SYS_PCIE_BOOT_LO.ADDR : Fld := ⟨1193, 0, 32, 0, .core⟩
def SYS_PCIE_BOOT_HI.ADDR : Fld := ⟨1194, 0, 32, 0, .core⟩
def SYS_PCIE_BOOT_LEN.LEN : Fld := ⟨1195, 0, 25, 0, .core⟩
def SYS_PCIE_BOOT_CTL.GO : Fld := ⟨1196, 0, 1, 0, .core⟩
def SYS_LC_REQ.TARGET : Fld := ⟨1197, 0, 5, 0, .core⟩
def SYS_LC_REQ.KEY : Fld := ⟨1198, 0, 16, 0, .core⟩
def SYS_LC_STS.LC : Fld := ⟨1199, 0, 5, 0, .core⟩
def SYS_LC_STS.PEND : Fld := ⟨1200, 0, 5, 0, .cellar⟩
def SYS_LC_STS.RESULT : Fld := ⟨1201, 0, 3, 0, .core⟩
def SYS_FUSE_CTL.TARGET : Fld := ⟨1202, 0, 2, 0, .core⟩
def SYS_FUSE_CTL.VAL : Fld := ⟨1203, 0, 1, 0, .core⟩
def SYS_FUSE_CTL.PROG : Fld := ⟨1204, 0, 1, 0, .core⟩
def SYS_FUSE_STS.DONE : Fld := ⟨1205, 0, 3, 0, .core⟩
def SYS_FUSE_STS.BSCAN_FIELD : Fld := ⟨1206, 0, 1, 0, .core⟩
def SYS_FUSE_STS.BUSY : Fld := ⟨1207, 0, 1, 0, .core⟩
def SYS_FUSE_STS.ERR : Fld := ⟨1208, 0, 1, 0, .core⟩
def SYS_SVN_CTL.TARGET : Fld := ⟨1209, 0, 7, 0, .core⟩
def SYS_SVN_CTL.GO : Fld := ⟨1210, 0, 1, 0, .core⟩
def SYS_SVN_CTL.MAX : Fld := ⟨1211, 0, 7, 0, .core⟩
def SYS_SVN_CTL.BUSY : Fld := ⟨1212, 0, 1, 0, .core⟩
def SYS_SVN_CTL.BAD : Fld := ⟨1213, 0, 1, 0, .core⟩
def SYS_REL_STS.CORES : Fld := ⟨1214, 0, 8, 0, .core⟩
def SYS_REL_STS.LANES : Fld := ⟨1215, 0, 4, 0, .core⟩
def SYS_REL_STS.SERAC : Fld := ⟨1216, 0, 1, 0, .core⟩
def SYS_SRAM_STS.DONE : Fld := ⟨1217, 0, 1, 0, .core⟩
def SYS_SRAM_STS.US : Fld := ⟨1218, 0, 16, 0, .core⟩
def SYS_UC_STS.TARGET : Fld := ⟨1219, 0, 4, 0, .core⟩
def SYS_UC_STS.RESULT : Fld := ⟨1220, 0, 8, 0, .core⟩
def SYS_UC_STS.VER : Fld := ⟨1221, 0, 16, 0, .core⟩
def SYS_LC_NONCE.NONCE : Fld := ⟨1222, 0, 32, 0, .core⟩
def SYS_BOOTS : Fld := ⟨1223, 0, 32, 0, .cellar⟩
def SYS_WARM_RESETS : Fld := ⟨1224, 0, 32, 0, .cellar⟩
def SYS_FAULT_RESETS : Fld := ⟨1225, 0, 32, 0, .cellar⟩
def SYS_WAKES : Fld := ⟨1226, 0, 32, 0, .cellar⟩
def SYS_BOOT_FAILS : Fld := ⟨1227, 0, 32, 0, .core⟩
def SYS_UCODE_LOADS : Fld := ⟨1228, 0, 32, 0, .core⟩
def SYS_UCODE_REJECTS : Fld := ⟨1229, 0, 32, 0, .core⟩
def SYS_PC_RELOADS : Fld := ⟨1230, 0, 32, 0, .core⟩
def SYS_LC_TOKEN.T (i : Nat) : Fld := ⟨1231, i, 32, 0, .core⟩
def SYS_OWNER_KEY.K (i : Nat) : Fld := ⟨1232, i, 32, 0, .core⟩
def SYS_IMG_STS.KIND (i : Nat) : Fld := ⟨1233, i, 8, 0, .core⟩
def SYS_IMG_STS.RESULT (i : Nat) : Fld := ⟨1234, i, 4, 0, .core⟩
def SYS_IMG_STS.MEASURED (i : Nat) : Fld := ⟨1235, i, 1, 0, .core⟩
def SYS_IMG_STS.VER (i : Nat) : Fld := ⟨1236, i, 16, 0, .core⟩
def SYS_BOOT_TRACE.US (i : Nat) : Fld := ⟨1237, i, 24, 0, .core⟩
def SYS_BOOT_TRACE.STAGE (i : Nat) : Fld := ⟨1238, i, 4, 0, .core⟩
def SYS_SCRATCH.V (i : Nat) : Fld := ⟨1239, i, 32, 0, .kept⟩
def PCR_CFG.EN : Fld := ⟨1240, 0, 1, 1, .core⟩
def PCR_CFG.REGION_EN : Fld := ⟨1241, 0, 1, 0, .kept⟩
def PCR_STS.RUN : Fld := ⟨1242, 0, 8, 0, .core⟩
def PCR_STS.HELD : Fld := ⟨1243, 0, 8, 0, .core⟩
def PCR_INT_STS.DRAINED : Fld := ⟨1244, 0, 1, 0, .core⟩
def PCR_INT_STS.DRAIN_FORCED : Fld := ⟨1245, 0, 1, 0, .core⟩
def PCR_INT_STS.HANG : Fld := ⟨1246, 0, 1, 0, .core⟩
def PCR_INT_STS.REGION : Fld := ⟨1247, 0, 1, 0, .core⟩
def PCR_INT_STS.MBOX_OUT : Fld := ⟨1248, 0, 1, 0, .core⟩
def PCR_INT_STS.EXC : Fld := ⟨1249, 0, 1, 0, .core⟩
def PCR_INT_EN.DRAINED : Fld := ⟨1250, 0, 1, 0, .core⟩
def PCR_INT_EN.DRAIN_FORCED : Fld := ⟨1251, 0, 1, 0, .core⟩
def PCR_INT_EN.HANG : Fld := ⟨1252, 0, 1, 0, .core⟩
def PCR_INT_EN.REGION : Fld := ⟨1253, 0, 1, 0, .core⟩
def PCR_INT_EN.MBOX_OUT : Fld := ⟨1254, 0, 1, 0, .core⟩
def PCR_INT_EN.EXC : Fld := ⟨1255, 0, 1, 0, .core⟩
def PCR_IPI.MASK : Fld := ⟨1256, 0, 8, 0, .core⟩
def PCR_FAULT_ADDR.OFS : Fld := ⟨1257, 0, 22, 0, .core⟩
def PCR_FAULT_ADDR.CORE : Fld := ⟨1258, 0, 3, 0, .core⟩
def PCR_RESV_STS.OWNERS : Fld := ⟨1259, 0, 4, 0, .core⟩
def PCR_SHARED_IMG.VER : Fld := ⟨1260, 0, 32, 0, .core⟩
def PCR_RELOADS : Fld := ⟨1261, 0, 32, 0, .core⟩
def PCR_DRAINS : Fld := ⟨1262, 0, 32, 0, .core⟩
def PCR_DRAIN_FORCED : Fld := ⟨1263, 0, 32, 0, .core⟩
def PCR_WDOG_FIRES : Fld := ⟨1264, 0, 32, 0, .core⟩
def PCR_REGION_FAULTS : Fld := ⟨1265, 0, 32, 0, .core⟩
def PCR_EXCEPTIONS : Fld := ⟨1266, 0, 32, 0, .core⟩
def PCR_IPI_SENT : Fld := ⟨1267, 0, 32, 0, .core⟩
def PCR_MBOX_MSGS : Fld := ⟨1268, 0, 32, 0, .core⟩
def PCR_REGION_BASE.BASE (i : Nat) : Fld := ⟨1269, i, 10, 0, .core⟩
def PCR_REGION_LIM.LIM (i : Nat) : Fld := ⟨1270, i, 10, 0, .core⟩
def PCR_REGION_LIM.EN (i : Nat) : Fld := ⟨1271, i, 1, 0, .core⟩
def PCR_REGION_LIM.WR_MASK (i : Nat) : Fld := ⟨1272, i, 8, 0, .core⟩
def PCR_C_CTL.RUN (n : Nat) : Fld := ⟨1273, n, 1, 0, .core⟩
def PCR_C_CTL.DRAIN (n : Nat) : Fld := ⟨1274, n, 1, 0, .core⟩
def PCR_C_CTL.HALT (n : Nat) : Fld := ⟨1275, n, 1, 0, .core⟩
def PCR_C_CTL.DRAIN_ACK (n : Nat) : Fld := ⟨1276, n, 1, 0, .core⟩
def PCR_C_CTL.WDOG_EN (n : Nat) : Fld := ⟨1277, n, 1, 0, .core⟩
def PCR_C_STS.STATE (n : Nat) : Fld := ⟨1278, n, 3, 0, .core⟩
def PCR_C_STS.FORCED (n : Nat) : Fld := ⟨1279, n, 1, 0, .core⟩
def PCR_C_STS.EXC (n : Nat) : Fld := ⟨1280, n, 1, 0, .core⟩
def PCR_C_ENTRY.OFS (n : Nat) : Fld := ⟨1281, n, 18, 0, .core⟩
def PCR_C_IMG_VER.VER (n : Nat) : Fld := ⟨1282, n, 32, 0, .core⟩
def PCR_C_DRAIN_TMO.MS (n : Nat) : Fld := ⟨1283, n, 16, 50, .core⟩
def PCR_C_HEARTBEAT.V (n : Nat) : Fld := ⟨1284, n, 32, 0, .core⟩
def PCR_C_IRQ_STS.BITS (n : Nat) : Fld := ⟨1285, n, 11, 0, .core⟩
def PCR_C_IRQ_EN.BITS (n : Nat) : Fld := ⟨1286, n, 11, 256, .core⟩
def PCR_C_MCAUSE.V (n : Nat) : Fld := ⟨1287, n, 32, 0, .core⟩
def PCR_C_MEPC.V (n : Nat) : Fld := ⟨1288, n, 32, 0, .core⟩
def PCR_C_INSTRET_LO.V (n : Nat) : Fld := ⟨1289, n, 32, 0, .core⟩
def PCR_C_INSTRET_HI.V (n : Nat) : Fld := ⟨1290, n, 32, 0, .core⟩
def PCR_C_LOCAL_ECC.CORR (n : Nat) : Fld := ⟨1291, n, 16, 0, .core⟩
def PCR_C_LOCAL_ECC.POISON (n : Nat) : Fld := ⟨1292, n, 16, 0, .core⟩
def PCR_C_DRAIN_LAST.US (n : Nat) : Fld := ⟨1293, n, 32, 0, .core⟩
def PCR_C_RELOAD_LAST.US (n : Nat) : Fld := ⟨1294, n, 32, 0, .core⟩
def PCR_C_WDOG_MS.MS (n : Nat) : Fld := ⟨1295, n, 16, 1000, .core⟩
def PCR_C_MBOX_IN.V (n : Nat) (i : Nat) : Fld := ⟨1296, n * 8 + i, 32, 0, .core⟩
def PCR_C_MBOX_OUT.V (n : Nat) (i : Nat) : Fld := ⟨1297, n * 8 + i, 32, 0, .core⟩
def PCR_C_SCRATCH.V (n : Nat) (i : Nat) : Fld := ⟨1298, n * 16 + i, 32, 0, .core⟩
/-! Register tables of R402 R403 14_cellar_and_power_states.md -/

def CEL_CFG.ANCHOR_S : Fld := ⟨1299, 0, 8, 1, .cellar⟩
def CEL_STS.CELLAR_LOST : Fld := ⟨1300, 0, 1, 1, .cellar⟩
def CEL_STS.RTC_VALID : Fld := ⟨1301, 0, 1, 0, .cellar⟩
def CEL_STS.WR_PEND : Fld := ⟨1302, 0, 1, 0, .cellar⟩
def CEL_STS.ON_VBAT : Fld := ⟨1303, 0, 1, 0, .cellar⟩
def CEL_STS.VBAT_PRESENT : Fld := ⟨1304, 0, 1, 0, .cellar⟩
def CEL_INT_STS.SLEEP_ABORT : Fld := ⟨1305, 0, 1, 0, .cellar⟩
def CEL_INT_STS.VBAT_LOW : Fld := ⟨1306, 0, 1, 0, .cellar⟩
def CEL_INT_STS.REG_LIMIT : Fld := ⟨1307, 0, 1, 0, .cellar⟩
def CEL_INT_STS.WATCH_MATCH : Fld := ⟨1308, 0, 1, 0, .cellar⟩
def CEL_INT_STS.ALARM : Fld := ⟨1309, 0, 1, 0, .cellar⟩
def CEL_INT_STS.CELLAR_LOST : Fld := ⟨1310, 0, 1, 0, .cellar⟩
def CEL_INT_STS.XTAL_FAIL : Fld := ⟨1311, 0, 1, 0, .cellar⟩
def CEL_INT_EN.SLEEP_ABORT : Fld := ⟨1312, 0, 1, 0, .cellar⟩
def CEL_INT_EN.VBAT_LOW : Fld := ⟨1313, 0, 1, 0, .cellar⟩
def CEL_INT_EN.REG_LIMIT : Fld := ⟨1314, 0, 1, 0, .cellar⟩
def CEL_INT_EN.WATCH_MATCH : Fld := ⟨1315, 0, 1, 0, .cellar⟩
def CEL_INT_EN.ALARM : Fld := ⟨1316, 0, 1, 0, .cellar⟩
def CEL_INT_EN.CELLAR_LOST : Fld := ⟨1317, 0, 1, 0, .cellar⟩
def CEL_INT_EN.XTAL_FAIL : Fld := ⟨1318, 0, 1, 0, .cellar⟩
def CEL_PWR_CTL.HUSH : Fld := ⟨1319, 0, 1, 0, .cellar⟩
def CEL_PWR_STS.STATE : Fld := ⟨1320, 0, 2, 0, .cellar⟩
def CEL_PWR_STS.HUSH_PEND : Fld := ⟨1321, 0, 1, 0, .cellar⟩
def CEL_SLEEP_CTL.TARGET : Fld := ⟨1322, 0, 2, 0, .cellar⟩
def CEL_SLEEP_CTL.KEY : Fld := ⟨1323, 0, 16, 0, .cellar⟩
def CEL_SLEEP_STS.RESULT : Fld := ⟨1324, 0, 3, 0, .cellar⟩
def CEL_SLEEP_STS.BUSY : Fld := ⟨1325, 0, 1, 0, .cellar⟩
def CEL_SLEEP_STS.ABORT_SRC : Fld := ⟨1326, 0, 9, 0, .cellar⟩
def CEL_PG_CFG.PG_WAIT_MS : Fld := ⟨1327, 0, 14, 1000, .cellar⟩
def CEL_PG_CFG.PG_OFF_MS : Fld := ⟨1328, 0, 10, 50, .cellar⟩
def CEL_PG_CFG.BACKOFF_S : Fld := ⟨1329, 0, 8, 60, .cellar⟩
def CEL_REG_STS.LP : Fld := ⟨1330, 0, 1, 0, .cellar⟩
def CEL_REG_STS.LIMIT : Fld := ⟨1331, 0, 1, 0, .cellar⟩
def CEL_VBAT_CFG.THR : Fld := ⟨1332, 0, 4, 3, .cellar⟩
def CEL_VBAT_STS.LEVEL : Fld := ⟨1333, 0, 8, 0, .cellar⟩
def CEL_VBAT_STS.LOW : Fld := ⟨1334, 0, 1, 0, .cellar⟩
def CEL_RTC_S.S : Fld := ⟨1335, 0, 32, 0, .cellar⟩
def CEL_RTC_TICK.TICK : Fld := ⟨1336, 0, 15, 0, .cellar⟩
def CEL_RTC_CTL.SET : Fld := ⟨1337, 0, 1, 0, .cellar⟩
def CEL_RTC_CTL.AUTO_TRIM : Fld := ⟨1338, 0, 1, 1, .cellar⟩
def CEL_PAD_CFG.REQ_POL : Fld := ⟨1339, 0, 1, 0, .cellar⟩
def CEL_PAD_CFG.WAKE_IN_EN : Fld := ⟨1340, 0, 4, 15, .cellar⟩
def CEL_ALARM_S.S : Fld := ⟨1341, 0, 32, 0, .cellar⟩
def CEL_ALARM_TICK.TICK : Fld := ⟨1342, 0, 15, 0, .cellar⟩
def CEL_RTC_SET_S.S : Fld := ⟨1343, 0, 32, 0, .cellar⟩
def CEL_RTC_SET_TICK.TICK : Fld := ⟨1344, 0, 15, 0, .cellar⟩
def CEL_TRIM.PPB : Fld := ⟨1345, 0, 19, 0, .cellar⟩
def CEL_ANCHOR_STS.AGE_S : Fld := ⟨1346, 0, 8, 0, .cellar⟩
def CEL_ANCHOR_STS.VALID : Fld := ⟨1347, 0, 1, 0, .cellar⟩
def CEL_TEMP.C : Fld := ⟨1348, 0, 8, 0, .cellar⟩
def CEL_PIN_STS.WAKE : Fld := ⟨1349, 0, 4, 0, .cellar⟩
def CEL_PIN_STS.PWR_GOOD : Fld := ⟨1350, 0, 1, 0, .cellar⟩
def CEL_PIN_STS.PWR_REQ : Fld := ⟨1351, 0, 1, 0, .cellar⟩
def CEL_PIN_STS.CASE : Fld := ⟨1352, 0, 1, 0, .cellar⟩
def CEL_SLEEPS : Fld := ⟨1353, 0, 32, 0, .cellar⟩
def CEL_SLEEP_ABORTS : Fld := ⟨1354, 0, 32, 0, .cellar⟩
def CEL_WAKES : Fld := ⟨1355, 0, 32, 0, .cellar⟩
def CEL_WAKE_NOPWR : Fld := ⟨1356, 0, 32, 0, .cellar⟩
def CEL_PG_FALLS : Fld := ⟨1357, 0, 32, 0, .cellar⟩
def CEL_REG_LIMITS : Fld := ⟨1358, 0, 32, 0, .cellar⟩
def CEL_VBAT_LOWS : Fld := ⟨1359, 0, 32, 0, .cellar⟩
def CEL_HUSH_ENTRIES : Fld := ⟨1360, 0, 32, 0, .cellar⟩
def CEL_WAKE_EN.EN : Fld := ⟨1361, 0, 8, 0, .cellar⟩
def CEL_WAKE_STS.PEND : Fld := ⟨1362, 0, 9, 0, .cellar⟩
def CEL_WAKE_PIN.MODE (i : Nat) : Fld := ⟨1363, i, 3, 0, .cellar⟩
def CEL_WAKE_PIN.DEB (i : Nat) : Fld := ⟨1364, i, 3, 0, .cellar⟩
def CEL_WAKE_RIND.MASK : Fld := ⟨1365, 0, 8, 0, .cellar⟩
def CEL_WAKE_LAST.CODE : Fld := ⟨1366, 0, 4, 0, .cellar⟩
def CEL_WATCH_CFG.PER_LOG2 : Fld := ⟨1367, 0, 5, 15, .cellar⟩
def CEL_WATCH_CFG.ANA_EN : Fld := ⟨1368, 0, 1, 0, .cellar⟩
def CEL_WATCH_CFG.PAT_EN : Fld := ⟨1369, 0, 1, 0, .cellar⟩
def CEL_WATCH_CFG.CNT_EN : Fld := ⟨1370, 0, 1, 0, .cellar⟩
def CEL_WATCH_CFG.COMB : Fld := ⟨1371, 0, 1, 0, .cellar⟩
def CEL_WATCH_CFG.N : Fld := ⟨1372, 0, 4, 1, .cellar⟩
def CEL_WATCH_CFG.RUN_ACTIVE : Fld := ⟨1373, 0, 1, 0, .cellar⟩
def CEL_WATCH_ANA.LO : Fld := ⟨1374, 0, 8, 0, .cellar⟩
def CEL_WATCH_ANA.HI : Fld := ⟨1375, 0, 8, 255, .cellar⟩
def CEL_WATCH_ANA.OUTSIDE : Fld := ⟨1376, 0, 1, 0, .cellar⟩
def CEL_WATCH_PAT.MASK : Fld := ⟨1377, 0, 4, 0, .cellar⟩
def CEL_WATCH_PAT.PATTERN : Fld := ⟨1378, 0, 4, 0, .cellar⟩
def CEL_WATCH_CNT.COUNT : Fld := ⟨1379, 0, 24, 0, .cellar⟩
def CEL_WATCH_THR.CNT_THR : Fld := ⟨1380, 0, 24, 1, .cellar⟩
def CEL_WATCH_STS.RUN : Fld := ⟨1381, 0, 4, 0, .cellar⟩
def CEL_WATCH_SAMPLE.ANA : Fld := ⟨1382, 0, 8, 0, .cellar⟩
def CEL_WATCH_SAMPLE.PINS : Fld := ⟨1383, 0, 4, 0, .cellar⟩
def CEL_WATCH_SAMPLES : Fld := ⟨1384, 0, 32, 0, .cellar⟩
def CEL_LEDGER.W (i : Nat) : Fld := ⟨1385, i, 32, 0, .cellar⟩
def CEL_LEDGER_PREV.W (i : Nat) : Fld := ⟨1386, i, 32, 0, .cellar⟩
def CEL_BKP.V (i : Nat) : Fld := ⟨1387, i, 32, 0, .cellar⟩
def CLK_CFG.AUTO_RET : Fld := ⟨1388, 0, 1, 1, .core⟩
def CLK_STS.REF_OK : Fld := ⟨1389, 0, 4, 0, .core⟩
def CLK_STS.ON_RC : Fld := ⟨1390, 0, 6, 63, .core⟩
def CLK_INT_STS.NO_TCXO : Fld := ⟨1391, 0, 1, 0, .core⟩
def CLK_INT_STS.NO_SERDES : Fld := ⟨1392, 0, 1, 0, .core⟩
def CLK_INT_STS.NO_PCIE : Fld := ⟨1393, 0, 1, 0, .core⟩
def CLK_INT_STS.XTAL_FAIL : Fld := ⟨1394, 0, 1, 0, .core⟩
def CLK_INT_STS.REF_BACK : Fld := ⟨1395, 0, 1, 0, .core⟩
def CLK_INT_STS.XTAL_MEAS_DONE : Fld := ⟨1396, 0, 1, 0, .core⟩
def CLK_INT_EN.NO_TCXO : Fld := ⟨1397, 0, 1, 0, .core⟩
def CLK_INT_EN.NO_SERDES : Fld := ⟨1398, 0, 1, 0, .core⟩
def CLK_INT_EN.NO_PCIE : Fld := ⟨1399, 0, 1, 0, .core⟩
def CLK_INT_EN.XTAL_FAIL : Fld := ⟨1400, 0, 1, 0, .core⟩
def CLK_INT_EN.REF_BACK : Fld := ⟨1401, 0, 1, 0, .core⟩
def CLK_INT_EN.XTAL_MEAS_DONE : Fld := ⟨1402, 0, 1, 0, .core⟩
def CLK_REF_CTL.RECHECK : Fld := ⟨1403, 0, 4, 0, .core⟩
def CLK_MON_CFG.TOL_PCT : Fld := ⟨1404, 0, 4, 5, .core⟩
def CLK_RC_MEAS.ERR : Fld := ⟨1405, 0, 16, 0, .core⟩
def CLK_RC_TRIM.TRIM : Fld := ⟨1406, 0, 7, Config.rcTrim, .core⟩
def CLK_XTAL_CFG.WIN_LOG2 : Fld := ⟨1407, 0, 4, 6, .core⟩
def CLK_XTAL_CFG.EN : Fld := ⟨1408, 0, 1, 1, .core⟩
def CLK_XTAL_MEAS.PPB : Fld := ⟨1409, 0, 32, 0, .core⟩
def CLK_XTAL_STS.RUN : Fld := ⟨1410, 0, 1, 0, .core⟩
def CLK_XTAL_STS.DISCIPLINED : Fld := ⟨1411, 0, 1, 0, .core⟩
def CLK_XTAL_STS.FAIL : Fld := ⟨1412, 0, 1, 0, .core⟩
def CLK_LOSS_RC.RC : Fld := ⟨1413, 0, 32, 0, .core⟩
def CLK_TCXO_LOSS : Fld := ⟨1414, 0, 32, 0, .core⟩
def CLK_SERDES_LOSS : Fld := ⟨1415, 0, 32, 0, .core⟩
def CLK_PCIE_LOSS : Fld := ⟨1416, 0, 32, 0, .core⟩
def CLK_XTAL_FAILS : Fld := ⟨1417, 0, 32, 0, .core⟩
def CLK_TO_REF : Fld := ⟨1418, 0, 32, 0, .core⟩
def CLK_TO_RC : Fld := ⟨1419, 0, 32, 0, .core⟩
def CLK_RECHECKS : Fld := ⟨1420, 0, 32, 0, .core⟩
def CLK_XTAL_MEASURES : Fld := ⟨1421, 0, 32, 0, .core⟩
def CLK_REF_STS.PRESENT (i : Nat) : Fld := ⟨1422, i, 1, 0, .core⟩
def CLK_REF_STS.IN_TOL (i : Nat) : Fld := ⟨1423, i, 1, 0, .core⟩
def CLK_REF_PPM.PPM (i : Nat) : Fld := ⟨1424, i, 32, 0, .core⟩
def CLK_ISL_CTL.HOLD_RC (n : Nat) : Fld := ⟨1425, n, 1, 0, .core⟩
def CLK_ISL_STS.ON_REF (n : Nat) : Fld := ⟨1426, n, 1, 0, .core⟩
def CLK_ISL_STS.LOCKED (n : Nat) : Fld := ⟨1427, n, 1, 0, .core⟩
def CLK_ISL_STS.SWITCHING (n : Nat) : Fld := ⟨1428, n, 1, 0, .core⟩
def CLK_ISL_LOCK.US (n : Nat) : Fld := ⟨1429, n, 16, 0, .core⟩
def CLK_ISL_FREQ.KHZ (n : Nat) : Fld := ⟨1430, n, 32, 0, .core⟩
def CLK_ISL_UNLOCKS (n : Nat) : Fld := ⟨1431, n, 32, 0, .core⟩
def CLK_ISL_SWITCHES (n : Nat) : Fld := ⟨1432, n, 32, 0, .core⟩
/-! Register tables of R417 15_faults_and_moraine.md -/

def FLT_CFG.EN_IRQ : Fld := ⟨1433, 0, 1, 1, .core⟩
def FLT_STS.ANY : Fld := ⟨1434, 0, 1, 0, .core⟩
def FLT_STS.ESC_RUN : Fld := ⟨1435, 0, 1, 0, .core⟩
def FLT_STS.QUEUE_FULL : Fld := ⟨1436, 0, 1, 0, .core⟩
def FLT_INT_STS.FAULT : Fld := ⟨1437, 0, 1, 0, .core⟩
def FLT_INT_STS.ESC_ARMED : Fld := ⟨1438, 0, 1, 0, .core⟩
def FLT_INT_STS.MOR_WRAP : Fld := ⟨1439, 0, 1, 0, .core⟩
def FLT_INT_STS.FIRST : Fld := ⟨1440, 0, 1, 0, .core⟩
def FLT_INT_EN.FAULT : Fld := ⟨1441, 0, 1, 0, .core⟩
def FLT_INT_EN.ESC_ARMED : Fld := ⟨1442, 0, 1, 0, .core⟩
def FLT_INT_EN.MOR_WRAP : Fld := ⟨1443, 0, 1, 0, .core⟩
def FLT_INT_EN.FIRST : Fld := ⟨1444, 0, 1, 0, .core⟩
def FLT_ESC_CFG.MS : Fld := ⟨1445, 0, 16, 1000, .kept⟩
def FLT_ESC_STS.LEFT : Fld := ⟨1446, 0, 16, 0, .core⟩
def FLT_ESC_SRC.SRC : Fld := ⟨1447, 0, 8, 0, .core⟩
def FLT_CLEAR.ALL : Fld := ⟨1448, 0, 1, 0, .core⟩
def FLT_CLEAR.FIRST : Fld := ⟨1449, 0, 1, 0, .core⟩
def FLT_INJECT.SRC : Fld := ⟨1450, 0, 8, 0, .core⟩
def FLT_INJECT.GO : Fld := ⟨1451, 0, 1, 0, .core⟩
def FLT_RST_CFG.LIMIT : Fld := ⟨1452, 0, 4, 3, .kept⟩
def FLT_RST_CFG.CALM_S : Fld := ⟨1453, 0, 12, 600, .kept⟩
def FLT_RST_RUN.RUN : Fld := ⟨1454, 0, 4, 0, .cellar⟩
def FLT_MOR_CTL.CLEAR : Fld := ⟨1455, 0, 1, 0, .core⟩
def FLT_MOR_STS.WP : Fld := ⟨1456, 0, 6, 0, .cellar⟩
def FLT_MOR_STS.WRAPS : Fld := ⟨1457, 0, 8, 0, .cellar⟩
def FLT_MOR_STS.QUEUED : Fld := ⟨1458, 0, 5, 0, .core⟩
def FLT_FAULTN.LOW : Fld := ⟨1459, 0, 1, 1, .core⟩
def FLT_SUM.WORDS : Fld := ⟨1460, 0, 8, 0, .core⟩
def FLT_LAST.SRC : Fld := ⟨1461, 0, 8, 0, .core⟩
def FLT_RAISES : Fld := ⟨1462, 0, 32, 0, .core⟩
def FLT_CLEARS : Fld := ⟨1463, 0, 32, 0, .core⟩
def FLT_ESCALATIONS : Fld := ⟨1464, 0, 32, 0, .core⟩
def FLT_RESETS : Fld := ⟨1465, 0, 32, 0, .core⟩
def FLT_RESET_SUPPRESSED : Fld := ⟨1466, 0, 32, 0, .core⟩
def FLT_MOR_WRITES : Fld := ⟨1467, 0, 32, 0, .core⟩
def FLT_MOR_LOST : Fld := ⟨1468, 0, 32, 0, .core⟩
def FLT_INJECTS : Fld := ⟨1469, 0, 32, 0, .core⟩
def FLT_FIRST.W (i : Nat) : Fld := ⟨1470, i, 32, 0, .cellar⟩
def FLT_RAW.B (i : Nat) : Fld := ⟨1471, i, 32, 0, .core⟩
def FLT_LATCH.B (i : Nat) : Fld := ⟨1472, i, 32, 0, .core⟩
def FLT_SRC_CFG.REACT (i : Nat) : Fld := ⟨1473, i, 2, (FaultSrc.defaultReact i), .kept⟩
def FLT_SRC_CFG.CLASS (i : Nat) : Fld := ⟨1474, i, 2, (FaultSrc.cls i), .core⟩
def FLT_SRC_CFG.LASTING (i : Nat) : Fld := ⟨1475, i, 1, (FaultSrc.lasting i), .core⟩
def FLT_SRC_CFG.CNT (i : Nat) : Fld := ⟨1476, i, 8, 0, .core⟩
def FLT_MORAINE.W (i : Nat) : Fld := ⟨1477, i, 32, 0, .cellar⟩
/-! Register tables of R440 16_redundant_pair.md -/

def PAIR_CFG.EN : Fld := ⟨1478, 0, 1, 0, .core⟩
def PAIR_CFG.AUTO_TAKE : Fld := ⟨1479, 0, 1, 1, .core⟩
def PAIR_CFG.RELAY_RADIO : Fld := ⟨1480, 0, 1, 1, .core⟩
def PAIR_CFG.RELAY_ETH : Fld := ⟨1481, 0, 1, 1, .core⟩
def PAIR_CFG.RLY_PORT : Fld := ⟨1482, 0, 1, 0, .core⟩
def PAIR_CFG.STRICT_TAKE : Fld := ⟨1483, 0, 1, 0, .core⟩
def PAIR_CTL.JOIN : Fld := ⟨1484, 0, 2, 0, .core⟩
def PAIR_CTL.LEAVE : Fld := ⟨1485, 0, 1, 0, .core⟩
def PAIR_CTL.SWITCH : Fld := ⟨1486, 0, 1, 0, .core⟩
def PAIR_CTL.FORCE : Fld := ⟨1487, 0, 1, 0, .core⟩
def PAIR_CTL.BAD : Fld := ⟨1488, 0, 1, 0, .core⟩
def PAIR_STS.ROLE : Fld := ⟨1489, 0, 2, 0, .core⟩
def PAIR_STS.SYNC : Fld := ⟨1490, 0, 2, 0, .core⟩
def PAIR_STS.PEER_ROLE : Fld := ⟨1491, 0, 2, 0, .core⟩
def PAIR_STS.PEER_SEEN : Fld := ⟨1492, 0, 1, 0, .core⟩
def PAIR_STS.PEER_SILENT : Fld := ⟨1493, 0, 1, 0, .core⟩
def PAIR_STS.ALIVE_IN : Fld := ⟨1494, 0, 1, 0, .core⟩
def PAIR_STS.FENCE_IN : Fld := ⟨1495, 0, 1, 0, .core⟩
def PAIR_STS.FENCE_OUT : Fld := ⟨1496, 0, 1, 0, .core⟩
def PAIR_STS.TAKE_PEND : Fld := ⟨1497, 0, 1, 0, .core⟩
def PAIR_STS.SW_PEND : Fld := ⟨1498, 0, 1, 0, .core⟩
def PAIR_STS.SW_LATE : Fld := ⟨1499, 0, 1, 0, .core⟩
def PAIR_INT_STS.SYNCED : Fld := ⟨1500, 0, 1, 0, .core⟩
def PAIR_INT_STS.SYNC_LOST : Fld := ⟨1501, 0, 1, 0, .core⟩
def PAIR_INT_STS.TAKEOVER : Fld := ⟨1502, 0, 1, 0, .core⟩
def PAIR_INT_STS.FENCED : Fld := ⟨1503, 0, 1, 0, .core⟩
def PAIR_INT_STS.PEER_LOST : Fld := ⟨1504, 0, 1, 0, .core⟩
def PAIR_INT_STS.PEER_BACK : Fld := ⟨1505, 0, 1, 0, .core⟩
def PAIR_INT_STS.TAKE_BLOCKED : Fld := ⟨1506, 0, 1, 0, .core⟩
def PAIR_INT_STS.SWITCH_DONE : Fld := ⟨1507, 0, 1, 0, .core⟩
def PAIR_INT_STS.CFG_MISMATCH : Fld := ⟨1508, 0, 1, 0, .core⟩
def PAIR_INT_STS.LANE_DOWN : Fld := ⟨1509, 0, 1, 0, .core⟩
def PAIR_INT_STS.AUTH_FAIL : Fld := ⟨1510, 0, 1, 0, .core⟩
def PAIR_INT_STS.MIR_OVF : Fld := ⟨1511, 0, 1, 0, .core⟩
def PAIR_INT_EN.SYNCED : Fld := ⟨1512, 0, 1, 0, .core⟩
def PAIR_INT_EN.SYNC_LOST : Fld := ⟨1513, 0, 1, 0, .core⟩
def PAIR_INT_EN.TAKEOVER : Fld := ⟨1514, 0, 1, 0, .core⟩
def PAIR_INT_EN.FENCED : Fld := ⟨1515, 0, 1, 0, .core⟩
def PAIR_INT_EN.PEER_LOST : Fld := ⟨1516, 0, 1, 0, .core⟩
def PAIR_INT_EN.PEER_BACK : Fld := ⟨1517, 0, 1, 0, .core⟩
def PAIR_INT_EN.TAKE_BLOCKED : Fld := ⟨1518, 0, 1, 0, .core⟩
def PAIR_INT_EN.SWITCH_DONE : Fld := ⟨1519, 0, 1, 0, .core⟩
def PAIR_INT_EN.CFG_MISMATCH : Fld := ⟨1520, 0, 1, 0, .core⟩
def PAIR_INT_EN.LANE_DOWN : Fld := ⟨1521, 0, 1, 0, .core⟩
def PAIR_INT_EN.AUTH_FAIL : Fld := ⟨1522, 0, 1, 0, .core⟩
def PAIR_INT_EN.MIR_OVF : Fld := ⟨1523, 0, 1, 0, .core⟩
def PAIR_HB_CFG.HB_US : Fld := ⟨1524, 0, 10, 250, .core⟩
def PAIR_HB_CFG.HB_MISS : Fld := ⟨1525, 0, 4, 4, .core⟩
def PAIR_HB_CFG.FAB_MISS : Fld := ⟨1526, 0, 8, 8, .core⟩
def PAIR_MIR_CFG.INTERVAL_US : Fld := ⟨1527, 0, 16, 0, .core⟩
def PAIR_MIR_CFG.QMAX : Fld := ⟨1528, 0, 12, 512, .core⟩
def PAIR_SW_ASN_LO.ASN : Fld := ⟨1529, 0, 32, 0, .core⟩
def PAIR_SW_ASN_HI.ASN : Fld := ⟨1530, 0, 8, 0, .core⟩
def PAIR_EPOCH.EPOCH : Fld := ⟨1531, 0, 32, 0, .core⟩
def PAIR_LAST.ROLE : Fld := ⟨1532, 0, 2, 0, .cellar⟩
def PAIR_LAST.LAGGING : Fld := ⟨1533, 0, 1, 0, .cellar⟩
def PAIR_LINK_STS.LANE_UP : Fld := ⟨1534, 0, 2, 0, .core⟩
def PAIR_LINK_STS.UP : Fld := ⟨1535, 0, 1, 0, .core⟩
def PAIR_LINK_STS.LAT_NS : Fld := ⟨1536, 0, 16, 0, .core⟩
def PAIR_TIME_CFG.ASYM_NS : Fld := ⟨1537, 0, 32, 0, .core⟩
def PAIR_TIME_OFS.NS : Fld := ⟨1538, 0, 32, 0, .core⟩
def PAIR_CFG_CRC.CRC : Fld := ⟨1539, 0, 32, 0, .core⟩
def PAIR_PEER_CRC.CRC : Fld := ⟨1540, 0, 32, 0, .core⟩
def PAIR_HB_TX : Fld := ⟨1541, 0, 32, 0, .core⟩
def PAIR_HB_RX : Fld := ⟨1542, 0, 32, 0, .core⟩
def PAIR_HB_MISS : Fld := ⟨1543, 0, 32, 0, .core⟩
def PAIR_ALIVE_MISS : Fld := ⟨1544, 0, 32, 0, .core⟩
def PAIR_TAKEOVERS : Fld := ⟨1545, 0, 32, 0, .core⟩
def PAIR_TAKE_BLOCKED : Fld := ⟨1546, 0, 32, 0, .core⟩
def PAIR_FORCED : Fld := ⟨1547, 0, 32, 0, .core⟩
def PAIR_FENCES : Fld := ⟨1548, 0, 32, 0, .core⟩
def PAIR_YIELDS : Fld := ⟨1549, 0, 32, 0, .core⟩
def PAIR_SWITCHES : Fld := ⟨1550, 0, 32, 0, .core⟩
def PAIR_MIR_TX : Fld := ⟨1551, 0, 32, 0, .core⟩
def PAIR_MIR_RX : Fld := ⟨1552, 0, 32, 0, .core⟩
def PAIR_MACK_RX : Fld := ⟨1553, 0, 32, 0, .core⟩
def PAIR_MIR_OVF : Fld := ⟨1554, 0, 32, 0, .core⟩
def PAIR_RESYNCS : Fld := ⟨1555, 0, 32, 0, .core⟩
def PAIR_BULK_RECORDS : Fld := ⟨1556, 0, 32, 0, .core⟩
def PAIR_RES_MIRRORED : Fld := ⟨1557, 0, 32, 0, .core⟩
def PAIR_RES_LOCAL : Fld := ⟨1558, 0, 32, 0, .core⟩
def PAIR_GEN_MIRRORED : Fld := ⟨1559, 0, 32, 0, .core⟩
def PAIR_KEY_MIRRORED : Fld := ⟨1560, 0, 32, 0, .core⟩
def PAIR_FWT_MIRRORED : Fld := ⟨1561, 0, 32, 0, .core⟩
def PAIR_RLY_RADIO_TX : Fld := ⟨1562, 0, 32, 0, .core⟩
def PAIR_RLY_RADIO_RX : Fld := ⟨1563, 0, 32, 0, .core⟩
def PAIR_RLY_DUP : Fld := ⟨1564, 0, 32, 0, .core⟩
def PAIR_RLY_ETH_TX : Fld := ⟨1565, 0, 32, 0, .core⟩
def PAIR_RLY_ETH_RX : Fld := ⟨1566, 0, 32, 0, .core⟩
def PAIR_RLY_DROP : Fld := ⟨1567, 0, 32, 0, .core⟩
def PAIR_TIME_SAMPLES : Fld := ⟨1568, 0, 32, 0, .core⟩
def PAIR_AUTH_FAIL : Fld := ⟨1569, 0, 32, 0, .core⟩
def PAIR_LANE_DOWN : Fld := ⟨1570, 0, 32, 0, .core⟩
def PAIR_CFG_MISMATCH : Fld := ⟨1571, 0, 32, 0, .core⟩
def PAIR_LINK_BYTES_K : Fld := ⟨1572, 0, 32, 0, .core⟩
def PAIR_PEER_PUB.K (i : Nat) : Fld := ⟨1573, i, 32, 0, .kept⟩
def PAIR_PEER_EUI_LO.EUI : Fld := ⟨1574, 0, 32, 0, .kept⟩
def PAIR_PEER_EUI_HI.EUI : Fld := ⟨1575, 0, 32, 0, .kept⟩
def PAIR_MIR_SEQ.MSEQ : Fld := ⟨1576, 0, 32, 0, .core⟩
def PAIR_MIR_ACKED.MSEQ : Fld := ⟨1577, 0, 32, 0, .core⟩
def PAIR_MIR_STS.CURDS : Fld := ⟨1578, 0, 12, 0, .core⟩
def PAIR_MIR_STS.PEAK : Fld := ⟨1579, 0, 12, 0, .core⟩
def PAIR_MIR_STS.LAT_US : Fld := ⟨1580, 0, 8, 0, .core⟩
def PAIR_BULK_STS.CURSOR : Fld := ⟨1581, 0, 18, 0, .core⟩
def PAIR_BULK_STS.RUN : Fld := ⟨1582, 0, 1, 0, .core⟩
def PAIR_LANE_STS.UP (i : Nat) : Fld := ⟨1583, i, 1, 0, .core⟩
def PAIR_LANE_STS.ERR (i : Nat) : Fld := ⟨1584, i, 16, 0, .core⟩
def PAIR_TRACE.W (i : Nat) : Fld := ⟨1585, i, 32, 0, .core⟩
/-! Register tables of R467 R468 18_register_block_index.md -/

def ETH_P_CFG.EN (n : Nat) : Fld := ⟨1586, n, 1, 0, .core⟩
def ETH_P_CFG.MODE (n : Nat) : Fld := ⟨1587, n, 2, 0, .core⟩
def ETH_P_CFG.AN_EN (n : Nat) : Fld := ⟨1588, n, 1, 1, .core⟩
def ETH_P_CFG.PAUSE_RX (n : Nat) : Fld := ⟨1589, n, 1, 0, .core⟩
def ETH_P_CFG.PROMISC (n : Nat) : Fld := ⟨1590, n, 1, 0, .core⟩
def ETH_P_STS.LINK (n : Nat) : Fld := ⟨1591, n, 1, 0, .core⟩
def ETH_P_STS.SPEED (n : Nat) : Fld := ⟨1592, n, 2, 0, .core⟩
def ETH_P_STS.AN_DONE (n : Nat) : Fld := ⟨1593, n, 1, 0, .core⟩
def ETH_P_STS.FAULT (n : Nat) : Fld := ⟨1594, n, 1, 0, .core⟩
def ETH_P_MAC_LO.MAC (n : Nat) : Fld := ⟨1595, n, 32, 0, .core⟩
def ETH_P_MAC_HI.MAC (n : Nat) : Fld := ⟨1596, n, 16, 0, .core⟩
def ETH_P_MAXLEN.LEN (n : Nat) : Fld := ⟨1597, n, 14, 1522, .core⟩
def ETH_P_RX_FRAMES (n : Nat) : Fld := ⟨1598, n, 32, 0, .core⟩
def ETH_P_RX_OCTETS_K (n : Nat) : Fld := ⟨1599, n, 32, 0, .core⟩
def ETH_P_RX_UCAST (n : Nat) : Fld := ⟨1600, n, 32, 0, .core⟩
def ETH_P_RX_MCAST (n : Nat) : Fld := ⟨1601, n, 32, 0, .core⟩
def ETH_P_RX_BCAST (n : Nat) : Fld := ⟨1602, n, 32, 0, .core⟩
def ETH_P_RX_VLAN (n : Nat) : Fld := ⟨1603, n, 32, 0, .core⟩
def ETH_P_RX_PTP (n : Nat) : Fld := ⟨1604, n, 32, 0, .core⟩
def ETH_P_RX_PAUSE (n : Nat) : Fld := ⟨1605, n, 32, 0, .core⟩
def ETH_P_RX_FCS_ERR (n : Nat) : Fld := ⟨1606, n, 32, 0, .core⟩
def ETH_P_RX_RUNT (n : Nat) : Fld := ⟨1607, n, 32, 0, .core⟩
def ETH_P_RX_LONG (n : Nat) : Fld := ⟨1608, n, 32, 0, .core⟩
def ETH_P_RX_PCS_ERR (n : Nat) : Fld := ⟨1609, n, 32, 0, .core⟩
def ETH_P_RX_CODE_ERR (n : Nat) : Fld := ⟨1610, n, 32, 0, .core⟩
def ETH_P_RX_LINK_DOWN (n : Nat) : Fld := ⟨1611, n, 32, 0, .core⟩
def ETH_P_RX_OVF (n : Nat) : Fld := ⟨1612, n, 32, 0, .core⟩
def ETH_P_RX_FILTERED (n : Nat) : Fld := ⟨1613, n, 32, 0, .core⟩
def ETH_P_TX_FRAMES (n : Nat) : Fld := ⟨1614, n, 32, 0, .core⟩
def ETH_P_TX_OCTETS_K (n : Nat) : Fld := ⟨1615, n, 32, 0, .core⟩
def ETH_P_TX_UCAST (n : Nat) : Fld := ⟨1616, n, 32, 0, .core⟩
def ETH_P_TX_MCAST (n : Nat) : Fld := ⟨1617, n, 32, 0, .core⟩
def ETH_P_TX_BCAST (n : Nat) : Fld := ⟨1618, n, 32, 0, .core⟩
def ETH_P_TX_VLAN (n : Nat) : Fld := ⟨1619, n, 32, 0, .core⟩
def ETH_P_TX_PTP (n : Nat) : Fld := ⟨1620, n, 32, 0, .core⟩
def ETH_P_TX_PAUSE (n : Nat) : Fld := ⟨1621, n, 32, 0, .core⟩
def ETH_P_TX_PAD (n : Nat) : Fld := ⟨1622, n, 32, 0, .core⟩
def ETH_P_TX_ONESTEP (n : Nat) : Fld := ⟨1623, n, 32, 0, .core⟩
def ETH_P_TX_TS (n : Nat) : Fld := ⟨1624, n, 32, 0, .core⟩
def ETH_P_TX_HOST (n : Nat) : Fld := ⟨1625, n, 32, 0, .core⟩
def ETH_P_TX_UPLINK (n : Nat) : Fld := ⟨1626, n, 32, 0, .core⟩
def ETH_P_TX_RELAY (n : Nat) : Fld := ⟨1627, n, 32, 0, .core⟩
def ETH_P_TX_TC_FWD (n : Nat) : Fld := ⟨1628, n, 32, 0, .core⟩
def ETH_P_TX_LINK_DROP (n : Nat) : Fld := ⟨1629, n, 32, 0, .core⟩
def ETH_P_EQ.FRAMES (n : Nat) (i : Nat) : Fld := ⟨1630, n * 8 + i, 16, 0, .core⟩
def ETH_P_EQ.PEAK (n : Nat) (i : Nat) : Fld := ⟨1631, n * 8 + i, 16, 0, .core⟩
def ETH_P_FILT_LO.MAC (n : Nat) (i : Nat) : Fld := ⟨1632, n * 16 + i, 32, 0, .core⟩
def ETH_P_FILT_HI.MAC (n : Nat) (i : Nat) : Fld := ⟨1633, n * 16 + i, 16, 0, .core⟩
def ETH_P_FILT_HI.EN (n : Nat) (i : Nat) : Fld := ⟨1634, n * 16 + i, 1, 0, .core⟩
def DBG_CFG.TRACE_CORE : Fld := ⟨1635, 0, 3, 0, .core⟩
def DBG_CFG.TRACE_EN : Fld := ⟨1636, 0, 1, 0, .core⟩
def DBG_ACCESS.BSCAN : Fld := ⟨1637, 0, 1, 0, .core⟩
def DBG_ACCESS.PC_DEBUG : Fld := ⟨1638, 0, 1, 0, .core⟩
def DBG_ACCESS.UC_REGS : Fld := ⟨1639, 0, 1, 0, .core⟩
def DBG_ACCESS.JTAG_RST : Fld := ⟨1640, 0, 1, 0, .core⟩
def DBG_TAP_STS.IR : Fld := ⟨1641, 0, 8, 0, .core⟩
def DBG_TAP_STS.CORE_HELD : Fld := ⟨1642, 0, 1, 0, .core⟩
def DBG_IDCODE.ID : Fld := ⟨1643, 0, 32, 308546467, .core⟩
def DBG_SCAN_LEN.BITS : Fld := ⟨1644, 0, 11, 1024, .core⟩
def DBG_TRACE.TARGET (i : Nat) : Fld := ⟨1645, i, 32, 0, .core⟩
def DBG_BSR.BITS (i : Nat) : Fld := ⟨1646, i, 32, 0, .core⟩
def DBG_C_DATA.W (n : Nat) (i : Nat) : Fld := ⟨1647, n * 4 + i, 32, 0, .core⟩
def DBG_C_PROGBUF.W (n : Nat) (i : Nat) : Fld := ⟨1648, n * 16 + i, 32, 0, .core⟩

end Sys2Proof.Machine
end

