-- ==== Sys2Proof/Machine/IrqBits.lean ====
section
/-!
DEFINITION. The interrupt bits of each block (INT_STS with INT_EN): block number, event code (the bit number; for MAC
the code of R122), status and enable field, and all status fields of the register from bit 0, for ARG of R295.
-/

namespace Sys2Proof.Machine

/-- One interrupt bit. -/
structure IrqBit where
  block : Nat
  code : Nat
  inst : Nat
  sts : Fld
  en : Fld
  bits : List Fld
  /-- The node and the Ward an occurrence is about (R294, word 7). -/
  nix : Option Nat
  ward : Nat
deriving DecidableEq, Repr

def RFE_INT_STS.all (n : Nat) : List Fld := [RFE_INT_STS.LOCK_FAIL n, RFE_INT_STS.CAL_DONE n, RFE_INT_STS.CAL_ERR n, RFE_INT_STS.CAL_STARVED n, RFE_INT_STS.DC_NEAR n, RFE_INT_STS.TX_LATE n]
def Irq.RFE_LOCK_FAIL (n : Nat) : IrqBit := ⟨6, 0x0, n, RFE_INT_STS.LOCK_FAIL n, RFE_INT_EN.LOCK_FAIL n, RFE_INT_STS.all n, none, 0⟩
def Irq.RFE_CAL_DONE (n : Nat) : IrqBit := ⟨6, 0x1, n, RFE_INT_STS.CAL_DONE n, RFE_INT_EN.CAL_DONE n, RFE_INT_STS.all n, none, 0⟩
def Irq.RFE_CAL_ERR (n : Nat) : IrqBit := ⟨6, 0x2, n, RFE_INT_STS.CAL_ERR n, RFE_INT_EN.CAL_ERR n, RFE_INT_STS.all n, none, 0⟩
def Irq.RFE_CAL_STARVED (n : Nat) : IrqBit := ⟨6, 0x3, n, RFE_INT_STS.CAL_STARVED n, RFE_INT_EN.CAL_STARVED n, RFE_INT_STS.all n, none, 0⟩
def Irq.RFE_DC_NEAR (n : Nat) : IrqBit := ⟨6, 0x4, n, RFE_INT_STS.DC_NEAR n, RFE_INT_EN.DC_NEAR n, RFE_INT_STS.all n, none, 0⟩
def Irq.RFE_TX_LATE (n : Nat) : IrqBit := ⟨6, 0x5, n, RFE_INT_STS.TX_LATE n, RFE_INT_EN.TX_LATE n, RFE_INT_STS.all n, none, 0⟩

def CHZ_INT_STS.all : List Fld := [CHZ_INT_STS.SNIFF_SHORT, CHZ_INT_STS.PLAN_CLAMP, CHZ_INT_STS.FIFO_OVF, CHZ_INT_STS.LOSS_A]
def Irq.CHZ_SNIFF_SHORT : IrqBit := ⟨7, 0x0, 0, CHZ_INT_STS.SNIFF_SHORT, CHZ_INT_EN.SNIFF_SHORT, CHZ_INT_STS.all, none, 0⟩
def Irq.CHZ_PLAN_CLAMP : IrqBit := ⟨7, 0x1, 0, CHZ_INT_STS.PLAN_CLAMP, CHZ_INT_EN.PLAN_CLAMP, CHZ_INT_STS.all, none, 0⟩
def Irq.CHZ_FIFO_OVF : IrqBit := ⟨7, 0x2, 0, CHZ_INT_STS.FIFO_OVF, CHZ_INT_EN.FIFO_OVF, CHZ_INT_STS.all, none, 0⟩
def Irq.CHZ_LOSS_A : IrqBit := ⟨7, 0x3, 0, CHZ_INT_STS.LOSS_A, CHZ_INT_EN.LOSS_A, CHZ_INT_STS.all, none, 0⟩

def MAC_INT_STS.all : List Fld := [MAC_INT_STS.HS_SWITCHED, MAC_INT_STS.HS_LATE, MAC_INT_STS.UC_SWAPPED, MAC_INT_STS.UC_BAD, MAC_INT_STS.WARD_FULL, MAC_INT_STS.DOMAIN_FULL, MAC_INT_STS.ACK_SKIP, MAC_INT_STS.TX_MISSED, MAC_INT_STS.LS_HANG]
def Irq.MAC_HS_SWITCHED : IrqBit := ⟨8, 0x42, 0, MAC_INT_STS.HS_SWITCHED, MAC_INT_EN.HS_SWITCHED, MAC_INT_STS.all, none, 0⟩
def Irq.MAC_HS_LATE : IrqBit := ⟨8, 0x43, 0, MAC_INT_STS.HS_LATE, MAC_INT_EN.HS_LATE, MAC_INT_STS.all, none, 0⟩
def Irq.MAC_UC_SWAPPED : IrqBit := ⟨8, 0x40, 0, MAC_INT_STS.UC_SWAPPED, MAC_INT_EN.UC_SWAPPED, MAC_INT_STS.all, none, 0⟩
def Irq.MAC_UC_BAD : IrqBit := ⟨8, 0x41, 0, MAC_INT_STS.UC_BAD, MAC_INT_EN.UC_BAD, MAC_INT_STS.all, none, 0⟩
def Irq.MAC_WARD_FULL : IrqBit := ⟨8, 0x50, 0, MAC_INT_STS.WARD_FULL, MAC_INT_EN.WARD_FULL, MAC_INT_STS.all, none, 0⟩
def Irq.MAC_DOMAIN_FULL : IrqBit := ⟨8, 0x51, 0, MAC_INT_STS.DOMAIN_FULL, MAC_INT_EN.DOMAIN_FULL, MAC_INT_STS.all, none, 0⟩
def Irq.MAC_ACK_SKIP : IrqBit := ⟨8, 0x10, 0, MAC_INT_STS.ACK_SKIP, MAC_INT_EN.ACK_SKIP, MAC_INT_STS.all, none, 0⟩
def Irq.MAC_TX_MISSED : IrqBit := ⟨8, 0x20, 0, MAC_INT_STS.TX_MISSED, MAC_INT_EN.TX_MISSED, MAC_INT_STS.all, none, 0⟩
def Irq.MAC_LS_HANG : IrqBit := ⟨8, 0x44, 0, MAC_INT_STS.LS_HANG, MAC_INT_EN.LS_HANG, MAC_INT_STS.all, none, 0⟩

def SRC_INT_STS.all : List Fld := [SRC_INT_STS.GEN_COMMIT, SRC_INT_STS.LATE_SWITCH, SRC_INT_STS.SW_DONE, SRC_INT_STS.SW_BAD, SRC_INT_STS.SF_BAD, SRC_INT_STS.REJ, SRC_INT_STS.P6_SEQERR, SRC_INT_STS.P6_TIMEOUT, SRC_INT_STS.UC_SWAPPED, SRC_INT_STS.UC_BAD, SRC_INT_STS.WMOVE_DONE, SRC_INT_STS.ENV_OVER]
def Irq.SRC_GEN_COMMIT : IrqBit := ⟨9, 0x0, 0, SRC_INT_STS.GEN_COMMIT, SRC_INT_EN.GEN_COMMIT, SRC_INT_STS.all, none, 0⟩
def Irq.SRC_LATE_SWITCH : IrqBit := ⟨9, 0x1, 0, SRC_INT_STS.LATE_SWITCH, SRC_INT_EN.LATE_SWITCH, SRC_INT_STS.all, none, 0⟩
def Irq.SRC_SW_DONE : IrqBit := ⟨9, 0x2, 0, SRC_INT_STS.SW_DONE, SRC_INT_EN.SW_DONE, SRC_INT_STS.all, none, 0⟩
def Irq.SRC_SW_BAD : IrqBit := ⟨9, 0x3, 0, SRC_INT_STS.SW_BAD, SRC_INT_EN.SW_BAD, SRC_INT_STS.all, none, 0⟩
def Irq.SRC_SF_BAD : IrqBit := ⟨9, 0x4, 0, SRC_INT_STS.SF_BAD, SRC_INT_EN.SF_BAD, SRC_INT_STS.all, none, 0⟩
def Irq.SRC_REJ : IrqBit := ⟨9, 0x5, 0, SRC_INT_STS.REJ, SRC_INT_EN.REJ, SRC_INT_STS.all, none, 0⟩
def Irq.SRC_P6_SEQERR : IrqBit := ⟨9, 0x6, 0, SRC_INT_STS.P6_SEQERR, SRC_INT_EN.P6_SEQERR, SRC_INT_STS.all, none, 0⟩
def Irq.SRC_P6_TIMEOUT : IrqBit := ⟨9, 0x7, 0, SRC_INT_STS.P6_TIMEOUT, SRC_INT_EN.P6_TIMEOUT, SRC_INT_STS.all, none, 0⟩
def Irq.SRC_UC_SWAPPED : IrqBit := ⟨9, 0x8, 0, SRC_INT_STS.UC_SWAPPED, SRC_INT_EN.UC_SWAPPED, SRC_INT_STS.all, none, 0⟩
def Irq.SRC_UC_BAD : IrqBit := ⟨9, 0x9, 0, SRC_INT_STS.UC_BAD, SRC_INT_EN.UC_BAD, SRC_INT_STS.all, none, 0⟩
def Irq.SRC_WMOVE_DONE : IrqBit := ⟨9, 0xa, 0, SRC_INT_STS.WMOVE_DONE, SRC_INT_EN.WMOVE_DONE, SRC_INT_STS.all, none, 0⟩
def Irq.SRC_ENV_OVER : IrqBit := ⟨9, 0xb, 0, SRC_INT_STS.ENV_OVER, SRC_INT_EN.ENV_OVER, SRC_INT_STS.all, none, 0⟩

def SEC_INT_STS.all : List Fld := [SEC_INT_STS.KEY_LOW, SEC_INT_STS.KEY_EXHAUSTED, SEC_INT_STS.KEY_ADV, SEC_INT_STS.JNL_ERR, SEC_INT_STS.JNL_FULL, SEC_INT_STS.SNAP_DONE, SEC_INT_STS.SNAP_LATE, SEC_INT_STS.GRP_SWITCHED, SEC_INT_STS.GRP_LATE, SEC_INT_STS.STRICT_GROUP, SEC_INT_STS.ASN_HIGH, SEC_INT_STS.OPEN_DONE]
def Irq.SEC_KEY_LOW : IrqBit := ⟨13, 0x0, 0, SEC_INT_STS.KEY_LOW, SEC_INT_EN.KEY_LOW, SEC_INT_STS.all, none, 0⟩
def Irq.SEC_KEY_EXHAUSTED : IrqBit := ⟨13, 0x1, 0, SEC_INT_STS.KEY_EXHAUSTED, SEC_INT_EN.KEY_EXHAUSTED, SEC_INT_STS.all, none, 0⟩
def Irq.SEC_KEY_ADV : IrqBit := ⟨13, 0x2, 0, SEC_INT_STS.KEY_ADV, SEC_INT_EN.KEY_ADV, SEC_INT_STS.all, none, 0⟩
def Irq.SEC_JNL_ERR : IrqBit := ⟨13, 0x3, 0, SEC_INT_STS.JNL_ERR, SEC_INT_EN.JNL_ERR, SEC_INT_STS.all, none, 0⟩
def Irq.SEC_JNL_FULL : IrqBit := ⟨13, 0x4, 0, SEC_INT_STS.JNL_FULL, SEC_INT_EN.JNL_FULL, SEC_INT_STS.all, none, 0⟩
def Irq.SEC_SNAP_DONE : IrqBit := ⟨13, 0x5, 0, SEC_INT_STS.SNAP_DONE, SEC_INT_EN.SNAP_DONE, SEC_INT_STS.all, none, 0⟩
def Irq.SEC_SNAP_LATE : IrqBit := ⟨13, 0x6, 0, SEC_INT_STS.SNAP_LATE, SEC_INT_EN.SNAP_LATE, SEC_INT_STS.all, none, 0⟩
def Irq.SEC_GRP_SWITCHED : IrqBit := ⟨13, 0x7, 0, SEC_INT_STS.GRP_SWITCHED, SEC_INT_EN.GRP_SWITCHED, SEC_INT_STS.all, none, 0⟩
def Irq.SEC_GRP_LATE : IrqBit := ⟨13, 0x8, 0, SEC_INT_STS.GRP_LATE, SEC_INT_EN.GRP_LATE, SEC_INT_STS.all, none, 0⟩
def Irq.SEC_STRICT_GROUP : IrqBit := ⟨13, 0x9, 0, SEC_INT_STS.STRICT_GROUP, SEC_INT_EN.STRICT_GROUP, SEC_INT_STS.all, none, 0⟩
def Irq.SEC_ASN_HIGH : IrqBit := ⟨13, 0xa, 0, SEC_INT_STS.ASN_HIGH, SEC_INT_EN.ASN_HIGH, SEC_INT_STS.all, none, 0⟩
def Irq.SEC_OPEN_DONE : IrqBit := ⟨13, 0xb, 0, SEC_INT_STS.OPEN_DONE, SEC_INT_EN.OPEN_DONE, SEC_INT_STS.all, none, 0⟩

def FWD_INT_STS.all : List Fld := [FWD_INT_STS.MOVE, FWD_INT_STS.VAT_FULL, FWD_INT_STS.RESHARD_DONE, FWD_INT_STS.RESHARD_STALL, FWD_INT_STS.NOPATH, FWD_INT_STS.REASM_FULL, FWD_INT_STS.RACE_MISS, FWD_INT_STS.BAD]
def Irq.FWD_MOVE : IrqBit := ⟨10, 0x0, 0, FWD_INT_STS.MOVE, FWD_INT_EN.MOVE, FWD_INT_STS.all, none, 0⟩
def Irq.FWD_VAT_FULL : IrqBit := ⟨10, 0x1, 0, FWD_INT_STS.VAT_FULL, FWD_INT_EN.VAT_FULL, FWD_INT_STS.all, none, 0⟩
def Irq.FWD_RESHARD_DONE : IrqBit := ⟨10, 0x2, 0, FWD_INT_STS.RESHARD_DONE, FWD_INT_EN.RESHARD_DONE, FWD_INT_STS.all, none, 0⟩
def Irq.FWD_RESHARD_STALL : IrqBit := ⟨10, 0x3, 0, FWD_INT_STS.RESHARD_STALL, FWD_INT_EN.RESHARD_STALL, FWD_INT_STS.all, none, 0⟩
def Irq.FWD_NOPATH : IrqBit := ⟨10, 0x4, 0, FWD_INT_STS.NOPATH, FWD_INT_EN.NOPATH, FWD_INT_STS.all, none, 0⟩
def Irq.FWD_REASM_FULL : IrqBit := ⟨10, 0x5, 0, FWD_INT_STS.REASM_FULL, FWD_INT_EN.REASM_FULL, FWD_INT_STS.all, none, 0⟩
def Irq.FWD_RACE_MISS : IrqBit := ⟨10, 0x6, 0, FWD_INT_STS.RACE_MISS, FWD_INT_EN.RACE_MISS, FWD_INT_STS.all, none, 0⟩
def Irq.FWD_BAD : IrqBit := ⟨10, 0x7, 0, FWD_INT_STS.BAD, FWD_INT_EN.BAD, FWD_INT_STS.all, none, 0⟩

def QMS_INT_STS.all : List Fld := [QMS_INT_STS.NOCURD, QMS_INT_STS.QAGE, QMS_INT_STS.CURD_ECC]
def Irq.QMS_NOCURD : IrqBit := ⟨11, 0x0, 0, QMS_INT_STS.NOCURD, QMS_INT_EN.NOCURD, QMS_INT_STS.all, none, 0⟩
def Irq.QMS_QAGE : IrqBit := ⟨11, 0x1, 0, QMS_INT_STS.QAGE, QMS_INT_EN.QAGE, QMS_INT_STS.all, none, 0⟩
def Irq.QMS_CURD_ECC : IrqBit := ⟨11, 0x2, 0, QMS_INT_STS.CURD_ECC, QMS_INT_EN.CURD_ECC, QMS_INT_STS.all, none, 0⟩

def SHP_INT_STS.all : List Fld := [SHP_INT_STS.SHAPE_DROP, SHP_INT_STS.RED, SHP_INT_STS.GATE_LATE, SHP_INT_STS.GATE_OVERSIZE, SHP_INT_STS.GATE_SWITCHED]
def Irq.SHP_SHAPE_DROP : IrqBit := ⟨12, 0x0, 0, SHP_INT_STS.SHAPE_DROP, SHP_INT_EN.SHAPE_DROP, SHP_INT_STS.all, none, 0⟩
def Irq.SHP_RED : IrqBit := ⟨12, 0x1, 0, SHP_INT_STS.RED, SHP_INT_EN.RED, SHP_INT_STS.all, none, 0⟩
def Irq.SHP_GATE_LATE : IrqBit := ⟨12, 0x2, 0, SHP_INT_STS.GATE_LATE, SHP_INT_EN.GATE_LATE, SHP_INT_STS.all, none, 0⟩
def Irq.SHP_GATE_OVERSIZE : IrqBit := ⟨12, 0x3, 0, SHP_INT_STS.GATE_OVERSIZE, SHP_INT_EN.GATE_OVERSIZE, SHP_INT_STS.all, none, 0⟩
def Irq.SHP_GATE_SWITCHED : IrqBit := ⟨12, 0x4, 0, SHP_INT_STS.GATE_SWITCHED, SHP_INT_EN.GATE_SWITCHED, SHP_INT_STS.all, none, 0⟩

def TSU_INT_STS.all : List Fld := [TSU_INT_STS.PATH_STEP, TSU_INT_STS.HOLDOVER, TSU_INT_STS.LOCKED, TSU_INT_STS.OFS_BIG, TSU_INT_STS.STEP_REFUSED, TSU_INT_STS.SLEW_DONE, TSU_INT_STS.PO_LATE, TSU_INT_STS.CI_OVF, TSU_INT_STS.ASN_STARTED, TSU_INT_STS.SYNC_LOSS, TSU_INT_STS.CMD_BAD, TSU_INT_STS.CI_DATA]
def Irq.TSU_PATH_STEP : IrqBit := ⟨4, 0x0, 0, TSU_INT_STS.PATH_STEP, TSU_INT_EN.PATH_STEP, TSU_INT_STS.all, none, 0⟩
def Irq.TSU_HOLDOVER : IrqBit := ⟨4, 0x1, 0, TSU_INT_STS.HOLDOVER, TSU_INT_EN.HOLDOVER, TSU_INT_STS.all, none, 0⟩
def Irq.TSU_LOCKED : IrqBit := ⟨4, 0x2, 0, TSU_INT_STS.LOCKED, TSU_INT_EN.LOCKED, TSU_INT_STS.all, none, 0⟩
def Irq.TSU_OFS_BIG : IrqBit := ⟨4, 0x3, 0, TSU_INT_STS.OFS_BIG, TSU_INT_EN.OFS_BIG, TSU_INT_STS.all, none, 0⟩
def Irq.TSU_STEP_REFUSED : IrqBit := ⟨4, 0x4, 0, TSU_INT_STS.STEP_REFUSED, TSU_INT_EN.STEP_REFUSED, TSU_INT_STS.all, none, 0⟩
def Irq.TSU_SLEW_DONE : IrqBit := ⟨4, 0x5, 0, TSU_INT_STS.SLEW_DONE, TSU_INT_EN.SLEW_DONE, TSU_INT_STS.all, none, 0⟩
def Irq.TSU_PO_LATE : IrqBit := ⟨4, 0x6, 0, TSU_INT_STS.PO_LATE, TSU_INT_EN.PO_LATE, TSU_INT_STS.all, none, 0⟩
def Irq.TSU_CI_OVF : IrqBit := ⟨4, 0x7, 0, TSU_INT_STS.CI_OVF, TSU_INT_EN.CI_OVF, TSU_INT_STS.all, none, 0⟩
def Irq.TSU_ASN_STARTED : IrqBit := ⟨4, 0x8, 0, TSU_INT_STS.ASN_STARTED, TSU_INT_EN.ASN_STARTED, TSU_INT_STS.all, none, 0⟩
def Irq.TSU_SYNC_LOSS : IrqBit := ⟨4, 0x9, 0, TSU_INT_STS.SYNC_LOSS, TSU_INT_EN.SYNC_LOSS, TSU_INT_STS.all, none, 0⟩
def Irq.TSU_CMD_BAD : IrqBit := ⟨4, 0xa, 0, TSU_INT_STS.CMD_BAD, TSU_INT_EN.CMD_BAD, TSU_INT_STS.all, none, 0⟩
def Irq.TSU_CI_DATA : IrqBit := ⟨4, 0xb, 0, TSU_INT_STS.CI_DATA, TSU_INT_EN.CI_DATA, TSU_INT_STS.all, none, 0⟩

def HIF_INT_STS.all : List Fld := [HIF_INT_STS.DB_BAD, HIF_INT_STS.DMA_ERR, HIF_INT_STS.EVT_LOST, HIF_INT_STS.MBX_IDLE]
def Irq.HIF_DB_BAD : IrqBit := ⟨3, 0x0, 0, HIF_INT_STS.DB_BAD, HIF_INT_EN.DB_BAD, HIF_INT_STS.all, none, 0⟩
def Irq.HIF_DMA_ERR : IrqBit := ⟨3, 0x1, 0, HIF_INT_STS.DMA_ERR, HIF_INT_EN.DMA_ERR, HIF_INT_STS.all, none, 0⟩
def Irq.HIF_EVT_LOST : IrqBit := ⟨3, 0x2, 0, HIF_INT_STS.EVT_LOST, HIF_INT_EN.EVT_LOST, HIF_INT_STS.all, none, 0⟩
def Irq.HIF_MBX_IDLE : IrqBit := ⟨3, 0x3, 0, HIF_INT_STS.MBX_IDLE, HIF_INT_EN.MBX_IDLE, HIF_INT_STS.all, none, 0⟩

def UPD_INT_STS.all : List Fld := [UPD_INT_STS.CAMP_END, UPD_INT_STS.NODE_FAIL, UPD_INT_STS.STARVE, UPD_INT_STS.IMG_ERR, UPD_INT_STS.NOCURD]
def Irq.UPD_CAMP_END : IrqBit := ⟨18, 0x0, 0, UPD_INT_STS.CAMP_END, UPD_INT_EN.CAMP_END, UPD_INT_STS.all, none, 0⟩
def Irq.UPD_NODE_FAIL : IrqBit := ⟨18, 0x1, 0, UPD_INT_STS.NODE_FAIL, UPD_INT_EN.NODE_FAIL, UPD_INT_STS.all, none, 0⟩
def Irq.UPD_STARVE : IrqBit := ⟨18, 0x2, 0, UPD_INT_STS.STARVE, UPD_INT_EN.STARVE, UPD_INT_STS.all, none, 0⟩
def Irq.UPD_IMG_ERR : IrqBit := ⟨18, 0x3, 0, UPD_INT_STS.IMG_ERR, UPD_INT_EN.IMG_ERR, UPD_INT_STS.all, none, 0⟩
def Irq.UPD_NOCURD : IrqBit := ⟨18, 0x4, 0, UPD_INT_STS.NOCURD, UPD_INT_EN.NOCURD, UPD_INT_STS.all, none, 0⟩

def KEY_INT_STS.all : List Fld := [KEY_INT_STS.TAMPER, KEY_INT_STS.WIPED, KEY_INT_STS.RESTORED, KEY_INT_STS.DEAD, KEY_INT_STS.RNG_FAIL, KEY_INT_STS.LOG_FULL, KEY_INT_STS.CELLAR_NEW, KEY_INT_STS.LOCKSTEP]
def Irq.KEY_TAMPER : IrqBit := ⟨14, 0x0, 0, KEY_INT_STS.TAMPER, KEY_INT_EN.TAMPER, KEY_INT_STS.all, none, 0⟩
def Irq.KEY_WIPED : IrqBit := ⟨14, 0x1, 0, KEY_INT_STS.WIPED, KEY_INT_EN.WIPED, KEY_INT_STS.all, none, 0⟩
def Irq.KEY_RESTORED : IrqBit := ⟨14, 0x2, 0, KEY_INT_STS.RESTORED, KEY_INT_EN.RESTORED, KEY_INT_STS.all, none, 0⟩
def Irq.KEY_DEAD : IrqBit := ⟨14, 0x3, 0, KEY_INT_STS.DEAD, KEY_INT_EN.DEAD, KEY_INT_STS.all, none, 0⟩
def Irq.KEY_RNG_FAIL : IrqBit := ⟨14, 0x4, 0, KEY_INT_STS.RNG_FAIL, KEY_INT_EN.RNG_FAIL, KEY_INT_STS.all, none, 0⟩
def Irq.KEY_LOG_FULL : IrqBit := ⟨14, 0x5, 0, KEY_INT_STS.LOG_FULL, KEY_INT_EN.LOG_FULL, KEY_INT_STS.all, none, 0⟩
def Irq.KEY_CELLAR_NEW : IrqBit := ⟨14, 0x6, 0, KEY_INT_STS.CELLAR_NEW, KEY_INT_EN.CELLAR_NEW, KEY_INT_STS.all, none, 0⟩
def Irq.KEY_LOCKSTEP : IrqBit := ⟨14, 0x7, 0, KEY_INT_STS.LOCKSTEP, KEY_INT_EN.LOCKSTEP, KEY_INT_STS.all, none, 0⟩

def SYS_INT_STS.all : List Fld := [SYS_INT_STS.BOOT_DONE, SYS_INT_STS.BOOT_FAIL, SYS_INT_STS.MODE_DONE, SYS_INT_STS.LC_PEND, SYS_INT_STS.UC_LOADED, SYS_INT_STS.UC_REJECT, SYS_INT_STS.SVN_DONE, SYS_INT_STS.FUSE_DONE]
def Irq.SYS_BOOT_DONE : IrqBit := ⟨0, 0x0, 0, SYS_INT_STS.BOOT_DONE, SYS_INT_EN.BOOT_DONE, SYS_INT_STS.all, none, 0⟩
def Irq.SYS_BOOT_FAIL : IrqBit := ⟨0, 0x1, 0, SYS_INT_STS.BOOT_FAIL, SYS_INT_EN.BOOT_FAIL, SYS_INT_STS.all, none, 0⟩
def Irq.SYS_MODE_DONE : IrqBit := ⟨0, 0x2, 0, SYS_INT_STS.MODE_DONE, SYS_INT_EN.MODE_DONE, SYS_INT_STS.all, none, 0⟩
def Irq.SYS_LC_PEND : IrqBit := ⟨0, 0x3, 0, SYS_INT_STS.LC_PEND, SYS_INT_EN.LC_PEND, SYS_INT_STS.all, none, 0⟩
def Irq.SYS_UC_LOADED : IrqBit := ⟨0, 0x4, 0, SYS_INT_STS.UC_LOADED, SYS_INT_EN.UC_LOADED, SYS_INT_STS.all, none, 0⟩
def Irq.SYS_UC_REJECT : IrqBit := ⟨0, 0x5, 0, SYS_INT_STS.UC_REJECT, SYS_INT_EN.UC_REJECT, SYS_INT_STS.all, none, 0⟩
def Irq.SYS_SVN_DONE : IrqBit := ⟨0, 0x6, 0, SYS_INT_STS.SVN_DONE, SYS_INT_EN.SVN_DONE, SYS_INT_STS.all, none, 0⟩
def Irq.SYS_FUSE_DONE : IrqBit := ⟨0, 0x7, 0, SYS_INT_STS.FUSE_DONE, SYS_INT_EN.FUSE_DONE, SYS_INT_STS.all, none, 0⟩

def PCR_INT_STS.all : List Fld := [PCR_INT_STS.DRAINED, PCR_INT_STS.DRAIN_FORCED, PCR_INT_STS.HANG, PCR_INT_STS.REGION, PCR_INT_STS.MBOX_OUT, PCR_INT_STS.EXC]
def Irq.PCR_DRAINED : IrqBit := ⟨16, 0x0, 0, PCR_INT_STS.DRAINED, PCR_INT_EN.DRAINED, PCR_INT_STS.all, none, 0⟩
def Irq.PCR_DRAIN_FORCED : IrqBit := ⟨16, 0x1, 0, PCR_INT_STS.DRAIN_FORCED, PCR_INT_EN.DRAIN_FORCED, PCR_INT_STS.all, none, 0⟩
def Irq.PCR_HANG : IrqBit := ⟨16, 0x2, 0, PCR_INT_STS.HANG, PCR_INT_EN.HANG, PCR_INT_STS.all, none, 0⟩
def Irq.PCR_REGION : IrqBit := ⟨16, 0x3, 0, PCR_INT_STS.REGION, PCR_INT_EN.REGION, PCR_INT_STS.all, none, 0⟩
def Irq.PCR_MBOX_OUT : IrqBit := ⟨16, 0x4, 0, PCR_INT_STS.MBOX_OUT, PCR_INT_EN.MBOX_OUT, PCR_INT_STS.all, none, 0⟩
def Irq.PCR_EXC : IrqBit := ⟨16, 0x5, 0, PCR_INT_STS.EXC, PCR_INT_EN.EXC, PCR_INT_STS.all, none, 0⟩

def CEL_INT_STS.all : List Fld := [CEL_INT_STS.SLEEP_ABORT, CEL_INT_STS.VBAT_LOW, CEL_INT_STS.REG_LIMIT, CEL_INT_STS.WATCH_MATCH, CEL_INT_STS.ALARM, CEL_INT_STS.CELLAR_LOST, CEL_INT_STS.XTAL_FAIL]
def Irq.CEL_SLEEP_ABORT : IrqBit := ⟨15, 0x0, 0, CEL_INT_STS.SLEEP_ABORT, CEL_INT_EN.SLEEP_ABORT, CEL_INT_STS.all, none, 0⟩
def Irq.CEL_VBAT_LOW : IrqBit := ⟨15, 0x1, 0, CEL_INT_STS.VBAT_LOW, CEL_INT_EN.VBAT_LOW, CEL_INT_STS.all, none, 0⟩
def Irq.CEL_REG_LIMIT : IrqBit := ⟨15, 0x2, 0, CEL_INT_STS.REG_LIMIT, CEL_INT_EN.REG_LIMIT, CEL_INT_STS.all, none, 0⟩
def Irq.CEL_WATCH_MATCH : IrqBit := ⟨15, 0x3, 0, CEL_INT_STS.WATCH_MATCH, CEL_INT_EN.WATCH_MATCH, CEL_INT_STS.all, none, 0⟩
def Irq.CEL_ALARM : IrqBit := ⟨15, 0x4, 0, CEL_INT_STS.ALARM, CEL_INT_EN.ALARM, CEL_INT_STS.all, none, 0⟩
def Irq.CEL_CELLAR_LOST : IrqBit := ⟨15, 0x5, 0, CEL_INT_STS.CELLAR_LOST, CEL_INT_EN.CELLAR_LOST, CEL_INT_STS.all, none, 0⟩
def Irq.CEL_XTAL_FAIL : IrqBit := ⟨15, 0x6, 0, CEL_INT_STS.XTAL_FAIL, CEL_INT_EN.XTAL_FAIL, CEL_INT_STS.all, none, 0⟩

def CLK_INT_STS.all : List Fld := [CLK_INT_STS.NO_TCXO, CLK_INT_STS.NO_SERDES, CLK_INT_STS.NO_PCIE, CLK_INT_STS.XTAL_FAIL, CLK_INT_STS.REF_BACK, CLK_INT_STS.XTAL_MEAS_DONE]
def Irq.CLK_NO_TCXO : IrqBit := ⟨1, 0x0, 0, CLK_INT_STS.NO_TCXO, CLK_INT_EN.NO_TCXO, CLK_INT_STS.all, none, 0⟩
def Irq.CLK_NO_SERDES : IrqBit := ⟨1, 0x1, 0, CLK_INT_STS.NO_SERDES, CLK_INT_EN.NO_SERDES, CLK_INT_STS.all, none, 0⟩
def Irq.CLK_NO_PCIE : IrqBit := ⟨1, 0x2, 0, CLK_INT_STS.NO_PCIE, CLK_INT_EN.NO_PCIE, CLK_INT_STS.all, none, 0⟩
def Irq.CLK_XTAL_FAIL : IrqBit := ⟨1, 0x3, 0, CLK_INT_STS.XTAL_FAIL, CLK_INT_EN.XTAL_FAIL, CLK_INT_STS.all, none, 0⟩
def Irq.CLK_REF_BACK : IrqBit := ⟨1, 0x4, 0, CLK_INT_STS.REF_BACK, CLK_INT_EN.REF_BACK, CLK_INT_STS.all, none, 0⟩
def Irq.CLK_XTAL_MEAS_DONE : IrqBit := ⟨1, 0x5, 0, CLK_INT_STS.XTAL_MEAS_DONE, CLK_INT_EN.XTAL_MEAS_DONE, CLK_INT_STS.all, none, 0⟩

def FLT_INT_STS.all : List Fld := [FLT_INT_STS.FAULT, FLT_INT_STS.ESC_ARMED, FLT_INT_STS.MOR_WRAP, FLT_INT_STS.FIRST]
def Irq.FLT_FAULT : IrqBit := ⟨2, 0x0, 0, FLT_INT_STS.FAULT, FLT_INT_EN.FAULT, FLT_INT_STS.all, none, 0⟩
def Irq.FLT_ESC_ARMED : IrqBit := ⟨2, 0x1, 0, FLT_INT_STS.ESC_ARMED, FLT_INT_EN.ESC_ARMED, FLT_INT_STS.all, none, 0⟩
def Irq.FLT_MOR_WRAP : IrqBit := ⟨2, 0x2, 0, FLT_INT_STS.MOR_WRAP, FLT_INT_EN.MOR_WRAP, FLT_INT_STS.all, none, 0⟩
def Irq.FLT_FIRST : IrqBit := ⟨2, 0x3, 0, FLT_INT_STS.FIRST, FLT_INT_EN.FIRST, FLT_INT_STS.all, none, 0⟩

def PAIR_INT_STS.all : List Fld := [PAIR_INT_STS.SYNCED, PAIR_INT_STS.SYNC_LOST, PAIR_INT_STS.TAKEOVER, PAIR_INT_STS.FENCED, PAIR_INT_STS.PEER_LOST, PAIR_INT_STS.PEER_BACK, PAIR_INT_STS.TAKE_BLOCKED, PAIR_INT_STS.SWITCH_DONE, PAIR_INT_STS.CFG_MISMATCH, PAIR_INT_STS.LANE_DOWN, PAIR_INT_STS.AUTH_FAIL, PAIR_INT_STS.MIR_OVF]
def Irq.PAIR_SYNCED : IrqBit := ⟨17, 0x0, 0, PAIR_INT_STS.SYNCED, PAIR_INT_EN.SYNCED, PAIR_INT_STS.all, none, 0⟩
def Irq.PAIR_SYNC_LOST : IrqBit := ⟨17, 0x1, 0, PAIR_INT_STS.SYNC_LOST, PAIR_INT_EN.SYNC_LOST, PAIR_INT_STS.all, none, 0⟩
def Irq.PAIR_TAKEOVER : IrqBit := ⟨17, 0x2, 0, PAIR_INT_STS.TAKEOVER, PAIR_INT_EN.TAKEOVER, PAIR_INT_STS.all, none, 0⟩
def Irq.PAIR_FENCED : IrqBit := ⟨17, 0x3, 0, PAIR_INT_STS.FENCED, PAIR_INT_EN.FENCED, PAIR_INT_STS.all, none, 0⟩
def Irq.PAIR_PEER_LOST : IrqBit := ⟨17, 0x4, 0, PAIR_INT_STS.PEER_LOST, PAIR_INT_EN.PEER_LOST, PAIR_INT_STS.all, none, 0⟩
def Irq.PAIR_PEER_BACK : IrqBit := ⟨17, 0x5, 0, PAIR_INT_STS.PEER_BACK, PAIR_INT_EN.PEER_BACK, PAIR_INT_STS.all, none, 0⟩
def Irq.PAIR_TAKE_BLOCKED : IrqBit := ⟨17, 0x6, 0, PAIR_INT_STS.TAKE_BLOCKED, PAIR_INT_EN.TAKE_BLOCKED, PAIR_INT_STS.all, none, 0⟩
def Irq.PAIR_SWITCH_DONE : IrqBit := ⟨17, 0x7, 0, PAIR_INT_STS.SWITCH_DONE, PAIR_INT_EN.SWITCH_DONE, PAIR_INT_STS.all, none, 0⟩
def Irq.PAIR_CFG_MISMATCH : IrqBit := ⟨17, 0x8, 0, PAIR_INT_STS.CFG_MISMATCH, PAIR_INT_EN.CFG_MISMATCH, PAIR_INT_STS.all, none, 0⟩
def Irq.PAIR_LANE_DOWN : IrqBit := ⟨17, 0x9, 0, PAIR_INT_STS.LANE_DOWN, PAIR_INT_EN.LANE_DOWN, PAIR_INT_STS.all, none, 0⟩
def Irq.PAIR_AUTH_FAIL : IrqBit := ⟨17, 0xa, 0, PAIR_INT_STS.AUTH_FAIL, PAIR_INT_EN.AUTH_FAIL, PAIR_INT_STS.all, none, 0⟩
def Irq.PAIR_MIR_OVF : IrqBit := ⟨17, 0xb, 0, PAIR_INT_STS.MIR_OVF, PAIR_INT_EN.MIR_OVF, PAIR_INT_STS.all, none, 0⟩

end Sys2Proof.Machine
end

