-- ==== Sys2Proof/Machine/Ops.lean ====
section
/-!
DEFINITION. The operations every meaning shares: reading and writing a register field, counting, time, free values, node records.
-/

namespace Sys2Proof.Machine

/-- What a meaning answers. -/
abbrev Result := Host.Outcome State Fault Refusal

/-- The register fields kept by `h`. -/
def State.bank (s : State) (h : Home) : Store Nat :=
  match h with
  | .core => s.core
  | .kept => s.kept
  | .cellar => s.cellar

/-- The value of a register field; its Reset column where nothing has changed it. -/
def State.rd (s : State) (f : Fld) : Nat := Store.find f.rst (s.bank f.home) f.key % 2 ^ f.width

/-- Write a register field; the field takes the low bits of `v`. -/
def State.wr (s : State) (f : Fld) (v : Nat) : State :=
  match f.home with
  | .core => { s with core := Store.put f.rst s.core f.key (v % 2 ^ f.width) }
  | .kept => { s with kept := Store.put f.rst s.kept f.key (v % 2 ^ f.width) }
  | .cellar => { s with cellar := Store.put f.rst s.cellar f.key (v % 2 ^ f.width) }

/-- A one-bit field as a flag. -/
def State.flag (s : State) (f : Fld) : Bool := s.rd f != 0

/-- Write a one-bit field. -/
def State.put (s : State) (f : Fld) (b : Bool) : State := s.wr f (ofBool b)

/-- Add to a counter, which wraps (the register tables: counters wrap modulo 2^32). -/
def State.add (s : State) (f : Fld) (n : Nat) : State := s.wr f (s.rd f + n)

/-- Count one event. -/
def State.inc (s : State) (f : Fld) : State := s.add f 1

/-- Add to a counter that saturates. -/
def State.addSat (s : State) (f : Fld) (n : Nat) : State := s.wr f (min (s.rd f + n) (2 ^ f.width - 1))

/-- Take `n` off a count, not below 0. -/
def State.sub (s : State) (f : Fld) (n : Nat) : State := s.wr f (s.rd f - n)

/-- Raise a peak field to `v` where `v` is higher (R213). -/
def State.peak (s : State) (f : Fld) (v : Nat) : State := s.wr f (max (s.rd f) v)

/-- A field as a two's-complement number. -/
def State.rdS (s : State) (f : Fld) : Int := sgn f.width (s.rd f)

/-- Write a two's-complement field. -/
def State.wrS (s : State) (f : Fld) (v : Int) : State := s.wr f (unsg f.width v)

/-- Do a list of updates in order. -/
def State.each {α : Type} (s : State) (l : List α) (f : α → State → State) : State := l.foldl (fun s a => f a s) s

/-- Do `f` when `b` holds. -/
def State.when (s : State) (b : Bool) (f : State → State) : State := if b then f s else s

/-- R244, R245, R260: what a TSU cycle adds, 2^−32 ns: 4 ns, TSU_FREQ, and the slew in progress. -/
def tsuInc (s : State) : Nat :=
  let slew : Int := match s.tsu.slew with
    | none => 0
    | some (a, _, ppb) => if 0 ≤ a then -(ppb * 17179869 / 1000000 : Nat) else (ppb * 17179869 / 1000000 : Nat)
  (17179869184 + s.rdS TSU_FREQ.FREQ + slew).toNat

/-- The count beyond RC `t` after the fewest cycles that bring RC to `t`, from `full` (both in 2^−32 ns). -/
def fracAt (inc full t : Nat) : Nat := full + ceilDiv (t * 2 ^ 32 - full) inc * inc - t * 2 ^ 32

/-- Time passes up to RC `t` (R244, R245): RC and TSU time advance by the same cycles, and never go back; both stand at 0 until they start. -/
def State.at (s : State) (t : Nat) : State :=
  if s.tsu.rcOn then { s with rc := max s.rc t, frac := fracAt (tsuInc s) (s.rc * 2 ^ 32 + s.frac) (max s.rc t) } else s

/-- The moment `a`, ns of RC, has come. While RC stands (log entry 2) no moment can be told, and none is waited for. -/
def State.reached (s : State) (a : Nat) : Bool := !s.tsu.rcOn || a ≤ s.rc

/-- RC lies in the interval from `a` up to `b`, while it runs. -/
def State.within (s : State) (a b : Nat) : Bool := !s.tsu.rcOn || (a ≤ s.rc && s.rc < b)

/-- TSU time in ns (R244): RC with the offset that steps and sets have made, in 48 bits of seconds. -/
def State.tsuNs (s : State) : Nat := (((s.rc : Int) + s.tsuOfs) % 281474976710656000000000).toNat

/-- TSU seconds (R244). -/
def State.tsuSec (s : State) : Nat := s.tsuNs / 1000000000 % 2 ^ 48

/-- TSU nanoseconds (R244). -/
def State.tsuFrac (s : State) : Nat := s.tsuNs % 1000000000

/-- RC [31:0], the 32-bit timestamp of R245. -/
def State.rc32 (s : State) : Nat := s.rc % 2 ^ 32

/-- TSU time in µs modulo 2^32, the clock of TIME and NEXT_ELIG (R208, R225), which R245 takes from RC. -/
def State.us32 (s : State) : Nat := s.rc / 1000 % 2 ^ 32

/-- The next free value (a value the spec leaves open), in `w` bits. -/
def State.free (s : State) (w : Nat) : Nat := Config.freeValue s.freeCtr % 2 ^ w

/-- A free value has been taken. -/
def State.took (s : State) : State := { s with freeCtr := s.freeCtr + 1 }

/-- Write a free value into a field. -/
def State.wrFree (s : State) (f : Fld) : State := (s.wr f (s.free f.width)).took

/-- What a read returned to requester `q` (0 host, 1 to 8 PC0 to PC7, 9 JTAG). -/
def State.answer (s : State) (q v : Nat) : State := { s with bus := Store.put 0 s.bus q v }

/-- The data the last read of requester `q` returned. -/
def State.busData (s : State) (q : Nat) : Nat := Store.find 0 s.bus q

/-- The node record of `nix` (R28). -/
def State.node (s : State) (nix : Nat) : Node := Store.find {} s.nodes nix

/-- The fields of a record that the pair mirrors (R425): all but the queue, the activity counters, AGE, FWT_BACKREF and TX_FC. -/
def mirrored (r : Node) : Node :=
  { r with
    qHead := 0
    qTail := 0
    qFrames := 0
    qCurds := 0
    txAtt := 0
    txOk := 0
    rxOk := 0
    rxOog := 0
    dupCnt := 0
    age := 0
    brBucket := 0
    brWay := 0
    brInVat := false
    brShadow := false
    noFwt := false
    brValid := false
    txFc := 0 }

/-- A change of mirrored fields puts the record on the list of R426, while records are mirrored. -/
def pairNote (p : PairSt) (nix : Nat) (old new : Node) : PairSt :=
  if p.mirror && mirrored old != mirrored new && !p.dirty.contains nix then { p with dirty := p.dirty ++ [nix] } else p

/-- Write a node record through the record order point (R31). -/
def State.setNode (s : State) (nix : Nat) (n : Node) : State :=
  { s with nodes := Store.put {} s.nodes nix n, pair := pairNote s.pair nix (s.node nix) n }

/-- Change a node record in one read-modify-write (R31), fenced or not: a host command that R27 or R32 lets at the record, the release of
an eviction, the queue counts of what is held for it. -/
def State.putNode (s : State) (nix : Nat) (f : Node → Node) : State := s.setNode nix (f (s.node nix))

/-- A unit changes a node record in one read-modify-write (R31); while the record is fenced the access is refused (R27). -/
def State.modNode (s : State) (nix : Nat) (f : Node → Node) : State := if (s.node nix).fenced then s else s.putNode nix f

/-- Front end `n`. -/
def State.feOf (s : State) (n : Nat) : Fe := Store.find {} s.fe n

/-- Change what front end `n` holds. -/
def State.modFe (s : State) (n : Nat) (f : Fe → Fe) : State := { s with fe := Store.put {} s.fe n (f (s.feOf n)) }

/-- Duty-cycle region `r`. -/
def State.dcOf (s : State) (r : Nat) : DcRegion := Store.find {} s.dc r

/-- An ASN that two registers hold, the low 32 bits in `lo`. -/
def asnField (lo hi : Fld) (s : State) : Nat := s.rd lo + 2 ^ 32 * s.rd hi

/-- The ASN of R92, kept in MAC_ASN_LO and MAC_ASN_HI. -/
def State.asn (s : State) : Nat := s.rd MAC_ASN_LO.ASN + 2 ^ 32 * s.rd MAC_ASN_HI.ASN

/-- A frame or packet goes to the Whey with reason `code` (R216). -/
def State.whey (s : State) (code : Nat) : State := (s.inc (QMS_WHEY code)).inc QMS_WHEY_TOTAL

/-- `n` frames go to the Whey with reason `code` (R216). -/
def State.wheyN (s : State) (code n : Nat) : State := (s.add (QMS_WHEY code) n).add QMS_WHEY_TOTAL n

/-- The ETH island stamps frames: it and the TSU island run from their references (R19, R244). -/
def ethStamps (s : State) : Bool := s.flag TSU_STS.REF && s.flag (CLK_ISL_STS.ON_REF 2)

/-- TSU_P_STS.TS_OK: the link is up and frames are stamped (R267). -/
def tsOkView (s : State) : State := s.each [0, 1] (fun p s => s.put (TSU_P_STS.TS_OK p) (s.flag (ETH_P_STS.LINK p) && ethStamps s))

/-- The RADIO island runs from its reference; from the internal oscillator the radios stay silent (R19). -/
def radioRef (s : State) : Bool := s.flag (CLK_ISL_STS.ON_REF 0)

/-! Shared policy memory -/

/-- Change what the policy cores hold. -/
def modPcr (f : Pcr → Pcr) (s : State) : State := { s with pcr := f s.pcr }

/-- Octet `k` of little-endian words. -/
def wordOctet (l : List Nat) (k : Nat) : Nat := l.getD (k / 4) 0 / 256 ^ (k % 4) % 256

/-- The octet at offset `a`. -/
def Memory.read (m : Memory) (a : Nat) : BitVec 8 := Store.find 0 m a

/-- Write an octet at offset `a`. -/
def Memory.write (m : Memory) (a : Nat) (v : BitVec 8) : Memory := Store.put 0 m a v

/-- Write octets at the offsets of a list, in order. -/
def Memory.writes (m : Memory) (l : List (Nat × BitVec 8)) : Memory := l.foldl (fun m c => Memory.write m c.1 c.2) m

/-- Words laid out as octets, the lowest first, from offset `base` on. -/
def putWords (base : Nat) : List Nat → Memory → Memory
  | [], m => m
  | w :: l, m => putWords (base + 4) l (Memory.writes m ((List.range 4).map (fun k => (base + k, BitVec.ofNat 8 (w / 256 ^ k)))))

/-- Places in shared policy memory: the REKEY bit of record `n` (R167), its 6P sequence byte and status byte (R141). DESIGN CHOICE (log entry
29): the spec gives the regions, not the order inside them. -/
def rekeyAt (n : Nat) : Nat := 0x378000 + n / 8
def p6SeqAt (n : Nat) : Nat := 0x380000 + 2 * n
def p6StsAt (n : Nat) : Nat := 0x380001 + 2 * n

/-- The octet at offset `a` of shared policy memory. -/
def polByte (s : State) (a : Nat) : Nat := (Memory.read s.pcr.mem a).toNat

/-- Write the octet at offset `a` of shared policy memory. -/
def polPut (a v : Nat) (s : State) : State := modPcr (fun p => { p with mem := Memory.write p.mem a (BitVec.ofNat 8 v) }) s

/-- The word at offset `a` of shared policy memory. -/
def polWord (s : State) (a : Nat) : Nat := (List.range 4).foldl (fun v k => v + polByte s (a + k) * 256 ^ k) 0

/-- Write words into shared policy memory from offset `a` on. -/
def polWords (a : Nat) (l : List Nat) (s : State) : State := modPcr (fun p => { p with mem := putWords a l p.mem }) s

/-- The regions of shared policy memory that are reserved and whose owners are enabled: first and last offset (R141, R167, R232). -/
def resvRegions (s : State) : List (Nat × Nat) :=
  (if s.flag SRC_CFG.P6_EN then [(0x380000, 0x3FFFFF)] else []) ++ (if s.flag SEC_CFG.EN then [(0x378000, 0x37FFFF)] else [])
    ++ (if s.flag QMS_CFG.EN then [(0x338000, 0x377FFF)] else [])
    ++ (if s.flag QMS_CFG.EN && s.flag SHP_CAL_CFG.EN then [(0x330000, 0x337FFF)] else [])

/-- R299: `n` octets from offset `a` lie in the 4 MiB of shared policy memory and in no reserved region. -/
def polOpen (s : State) (a n : Nat) : Bool :=
  a + n ≤ 0x400000 && (resvRegions s).all (fun r => a + n ≤ r.1 || r.2 < a)

/-- The 6P sequence number of record `n` (R141). -/
def p6Seq (s : State) (n : Nat) : Nat := polByte s (p6SeqAt n)

/-- A REKEY bit of R167. -/
def rekeyOf (s : State) (n : Nat) : Bool := (polByte s (rekeyAt n)).testBit (n % 8)

/-- A REKEY bit is written. -/
def rekeyPut (n : Nat) (b : Bool) (s : State) : State := polPut (rekeyAt n) (putBit (polByte s (rekeyAt n)) (n % 8) b) s

end Sys2Proof.Machine
end

