-- ==== Sys2Proof/Machine/HostRings.lean ====
section
/-!
DEFINITION. Writing into the host rings (R271 to R296): slots and the phase bit, moderation and MSI-X, completions, event entries,
and the interrupt bits that raise events.
Rings are numbered TX 0, RX 32, CMD 64 and EV 72 onward, as their frames lie (R301).
-/

namespace Sys2Proof.Machine

/-- Number of slots of ring `r` (R271). -/
def ringSize (s : State) (r : Nat) : Nat := 2 ^ s.rd (HIF_R_CFG.SIZE_LOG2 r)

/-- Slots of ring `r` that are outstanding: TAIL − HEAD, modulo the size (R272). -/
def ringOut (s : State) (r : Nat) : Nat :=
  (s.rd (HIF_R_IDX.TAIL r) + ringSize s r - s.rd (HIF_R_IDX.HEAD r) % ringSize s r) % ringSize s r

/-- A sleep entry is in progress: the radios are off, and no new DMA or Ethernet frame starts (R388). -/
def entering (s : State) : Bool := s.rd CEL_PWR_STS.STATE = 2

/-- Ring `r` runs: HIF is enabled, the ring is, no error has stopped it, and DMA may start (R273, R297, R388, HIF_CFG.EN). -/
def ringLive (s : State) (r : Nat) : Bool :=
  s.flag HIF_CFG.EN && s.flag (HIF_R_CFG.EN r) && !s.flag (HIF_R_STS.ERR r) && !entering s

/-- MSI-X vector `v` is signalled: sent, or pending while masked (R279). -/
def msixSend (v : Nat) (s : State) : State :=
  if Store.find false s.hif.unmasked v then s.inc HIF_MSIX_SENT
  else { s with hif := { s.hif with msixPend := Store.put false s.hif.msixPend v true } }

/-- Ring `r` signals: its vector, or its policy core when it lives in policy memory (R279, R299); PEND clears and the ring disarms. -/
def ringSignal (r : Nat) (s : State) : State :=
  let s := if s.flag (HIF_R_CFG.LOC r) then
      let c := s.rd (HIF_R_CFG.CORE r)
      s.wr (PCR_C_IRQ_STS.BITS c) (setBit (s.rd (PCR_C_IRQ_STS.BITS c)) 9)
    else msixSend (s.rd (HIF_R_CFG.VEC r)) s
  let s := { s with hif := { s.hif with timer := Store.put none s.hif.timer r none } }
  (s.wr (HIF_R_STS.PEND r) 0).wr (HIF_R_STS.ARMED r) 0

/-- After a completion or entry: PEND counts it, and the armed ring signals at COUNT, or at once when USECS is 0 (R279). -/
def ringPend (r : Nat) (s : State) : State :=
  let p := s.rd (HIF_R_STS.PEND r)
  let s := s.wr (HIF_R_STS.PEND r) (min (p + 1) 0xFFFF)
  let s := if p = 0 then { s with hif := { s.hif with timer := Store.put none s.hif.timer r (some s.rc) } } else s
  if s.flag (HIF_R_STS.ARMED r) && s.flag (HIF_R_CFG.IRQ_EN r)
      && (s.rd (HIF_R_MOD.COUNT r) ≤ p + 1 || s.rd (HIF_R_MOD.USECS r) = 0) then ringSignal r s
  else s

/-- The write phase of ring `r` (R273, R277). -/
def ringPhase (s : State) (r : Nat) : Nat := Store.find 1 s.hif.phase r

/-- Descriptors of ring `r` are in progress: taken by a transmit ring, or a command executes (R273, R274). -/
def ringBusy (s : State) (r : Nat) : Bool :=
  !(Store.find ([] : List TxTaken) s.hif.taken r).isEmpty || (64 ≤ r && r < 72 && Store.find false s.hif.executing (r - 64))

/-- HIF_R_STS.RUN: descriptors in progress or the ring enabled, and not stopped by an error (R273, R297). -/
def runView (r : Nat) (s : State) : State :=
  s.put (HIF_R_STS.RUN r) ((s.flag (HIF_R_CFG.EN r) || ringBusy s r) && !s.flag (HIF_R_STS.ERR r))

/-- Where slot `k` of ring `r` lies: in host memory, or, with LOC 1, in shared policy memory (R271, R299). -/
def slotAt (s : State) (r k : Nat) : Nat := s.rd (HIF_R_BASE_LO.ADDR r) + 2 ^ 32 * s.rd (HIF_R_BASE_HI.ADDR r) + 32 * k

/-- R299: an access of ring `r` to `n` octets at `a` is refused: a ring with LOC 1 reaches shared policy memory and no reserved region of
it. -/
def locBad (s : State) (r a n : Nat) : Bool := s.flag (HIF_R_CFG.LOC r) && !polOpen s a n

/-- A descriptor of ring `r` as it is fetched: the host's words, or, with LOC 1, those in shared policy memory (R299). -/
def descIn (s : State) (r : Nat) (d : Desc) : Desc :=
  if s.flag (HIF_R_CFG.LOC r) then
    let a := slotAt s r (s.rd (HIF_R_IDX.HEAD r))
    descOf ((List.range 8).map (fun i => polWord s (a + 4 * i)))
  else d

/-- What ring `r` writes at `a` goes to host memory, which is outside the block, or, with LOC 1, to shared policy memory (R299). -/
def ringPut (r a : Nat) (l : List Nat) (s : State) : State :=
  if s.flag (HIF_R_CFG.LOC r) && polOpen s a (4 * l.length) then polWords a l s else s

/-- Write the next slot of ring `r` in ring order, with the phase of this pass (R274, R277). -/
def slotWrite (r : Nat) (e : Nat → Slot) (s : State) : State :=
  let k := Store.find 0 s.hif.next r
  let s := ringPut r (slotAt s r k) (slotWords (e (ringPhase s r))) s
  let ph := ringPhase s r
  let k' := (k + 1) % ringSize s r
  let s := { s with hif := { s.hif with
    slots := Store.put .blank s.hif.slots (r * 65536 + k) (e ph)
    next := Store.put 0 s.hif.next r k'
    phase := if k' = 0 then Store.put 1 s.hif.phase r (1 - ph) else s.hif.phase } }
  ringPend r (runView r (s.inc (HIF_R_DONE.COUNT r)))

/-- A descriptor of ring `r` is taken: HEAD moves on (R272). -/
def ringTake (r : Nat) (s : State) : State := s.wr (HIF_R_IDX.HEAD r) ((s.rd (HIF_R_IDX.HEAD r) + 1) % ringSize s r)

/-- Write one event entry into event ring `e` (0 to 3), which has room (R272, R294). -/
def eventWrite (e : Nat) (v : EventEntry) (s : State) : State :=
  let r := 72 + e
  let s := slotWrite r (fun ph => .event v.code v.block v.inst v.arg v.words v.nix v.ward v.per ph) s
  (s.wr (HIF_R_IDX.TAIL r) ((s.rd (HIF_R_IDX.TAIL r) + 1) % ringSize s r)).inc HIF_EVT_WRITTEN

/-- Event ring `e` can take an entry: it runs, fewer than SIZE − 1 entries are unreturned (R272), and its slot is not refused (R299). -/
def eventRoom (s : State) (e : Nat) : Bool :=
  ringLive s (72 + e) && ringOut s (72 + e) + 1 < ringSize s (72 + e) && !locBad s (72 + e) (slotAt s (72 + e) (Store.find 0 s.hif.next (72 + e))) 32

/-- The entries held for event ring `e` (R296). -/
def heldOf (s : State) (e : Nat) : List EventEntry := Store.find [] s.hif.held e

/-- Change what is held for event ring `e`; HIF_EVTR_PEND follows (R296). -/
def setHeld (e : Nat) (l : List EventEntry) (s : State) : State :=
  let s := { s with hif := { s.hif with held := Store.put [] s.hif.held e l } }
  (s.wr (HIF_EVTR_PEND.PEND e) l.length).peak (HIF_EVTR_PEND.PEAK e) l.length

/-- The event ring of block `b` (R295, HIF_EVT_ROUTE). -/
def evtRoute (s : State) (b : Nat) : Nat :=
  s.rd ([HIF_EVT_ROUTE_LO.RING_0, HIF_EVT_ROUTE_LO.RING_1, HIF_EVT_ROUTE_LO.RING_2, HIF_EVT_ROUTE_LO.RING_3,
    HIF_EVT_ROUTE_LO.RING_4, HIF_EVT_ROUTE_LO.RING_5, HIF_EVT_ROUTE_LO.RING_6, HIF_EVT_ROUTE_LO.RING_7,
    HIF_EVT_ROUTE_LO.RING_8, HIF_EVT_ROUTE_LO.RING_9, HIF_EVT_ROUTE_LO.RING_10, HIF_EVT_ROUTE_LO.RING_11,
    HIF_EVT_ROUTE_LO.RING_12, HIF_EVT_ROUTE_LO.RING_13, HIF_EVT_ROUTE_LO.RING_14, HIF_EVT_ROUTE_LO.RING_15,
    HIF_EVT_ROUTE_HI.RING_16, HIF_EVT_ROUTE_HI.RING_17, HIF_EVT_ROUTE_HI.RING_18].getD b HIF_EVT_ROUTE_HI.RING_19)

/-- The value of a status register from its bits, from bit 0 (R295, ARG). -/
def stsWord (s : State) : List Fld → Nat
  | [] => 0
  | f :: l => s.rd f + 2 * stsWord s l

/-- An event entry is written, held (up to 64), or, beyond those, left to its INT_STS bit (R296).
A lost per-occurrence entry counts and raises EVT_LOST, whose own status entry finds the same full ring or another one. -/
def eventPost (v : EventEntry) (s : State) : State :=
  let e := evtRoute s v.block
  if (heldOf s e).isEmpty && eventRoom s e then eventWrite e v s
  else if (heldOf s e).length < 64 then setHeld e (heldOf s e ++ [v]) s
  else if v.per then
    let s := s.inc HIF_EVT_LOST
    let fresh := !s.flag HIF_INT_STS.EVT_LOST && s.flag HIF_INT_EN.EVT_LOST
    let s := s.put HIF_INT_STS.EVT_LOST true
    let e3 := evtRoute s 3
    let arg := stsWord s HIF_INT_STS.all
    let lost : EventEntry := { code := 2, block := 3, arg := arg, words := [s.rc32] }
    if !fresh then s
    else if (heldOf s e3).isEmpty && eventRoom s e3 then eventWrite e3 lost s
    else if (heldOf s e3).length < 64 then setHeld e3 (heldOf s e3 ++ [lost]) s
    else s
  else s

/-- Entries held for event ring `e` are written while there is room (R296): at most `k` of them. -/
def eventDrain (e : Nat) : Nat → State → State
  | 0, s => s
  | k + 1, s =>
    match heldOf s e with
    | [] => s
    | v :: l => if eventRoom s e then eventDrain e k (eventWrite e v (setHeld e l s)) else s

/-- Everything held for the event rings goes while there is room (R296). -/
def eventsFlow (s : State) : State := s.each (List.range 4) (fun e s => eventDrain e (heldOf s e).length s)

/-- An interrupt bit sets; its 0-to-1 change while its enable bit is set writes a status event (R295). -/
def raise (b : IrqBit) (s : State) : State :=
  let fresh := !s.flag b.sts && s.flag b.en
  let s := s.put b.sts true
  if fresh then
    eventPost { code := b.code, block := b.block, inst := b.inst, arg := stsWord s b.bits % 65536, words := [s.rc32], nix := b.nix, ward := b.ward } s
  else s

/-- As `raise`, for the instance `inst` (front end, lane, Ward or port) of a block with one status register (R294). -/
def raiseAt (b : IrqBit) (inst : Nat) (s : State) : State := raise { b with inst := inst } s

/-- As `raise`, for an occurrence about Ward `w` (R294): INST is the Ward where the block has one status register. -/
def raiseWard (b : IrqBit) (w : Nat) (s : State) : State := raise { b with inst := w, ward := w } s

/-- As `raiseAt`, for an occurrence about record `n` (R294). -/
def raiseNode (b : IrqBit) (inst n : Nat) (s : State) : State := raise { b with inst := inst, nix := some n, ward := (s.node n).ward } s

/-- A per-occurrence event of R295: the bit sets without a status event, and one entry is written while the bit's enable is set. -/
def occur (b : IrqBit) (v : EventEntry) (s : State) : State :=
  let s := s.put b.sts true
  if s.flag b.en then eventPost { v with code := b.code, block := b.block, per := true } s else s

/-- A command of ring `ring` (0 to 7) completes with `result` (R288, R290): the completion is counted and written in ring order, unless a
Function Level Reset has abandoned it (R298). -/
def cmdDone (ring op tag result ret0 ret1 ret2 : Nat) (data : List Nat) (trunc : Bool) (s : State) : State :=
  let dropped := Store.find false s.hif.orphan ring
  let s := { s with hif := { s.hif with
    executing := Store.put false s.hif.executing ring false
    orphan := Store.put false s.hif.orphan ring false } }
  if dropped then runView (64 + ring) s
  else
    let s := s.inc HIF_CMD_DONE
    let s := if result = 0 then s else (s.inc HIF_CMD_FAIL).inc (HIF_CMDR_FAIL.COUNT ring)
    let s := if result = 0xF1 then s.inc HIF_BADARG else s
    slotWrite (64 + ring) (fun ph => .cmd op result tag ret0 ret1 ret2 s.rc32 (s.rd SRC_GEN.CUR) (4 * data.length) trunc data ph) s

/-- Command ring `ring` (0 to 7) runs, executes no command, and has a descriptor to take (R272 to R274). -/
def cmdReady (s : State) (ring : Nat) : Bool :=
  ringLive s (64 + ring) && 0 < ringOut s (64 + ring) && !Store.find false s.hif.executing ring

/-- The descriptor of a command is taken; the ring executes it until its completion (R274). -/
def cmdTake (ring : Nat) (s : State) : State :=
  let s := ringTake (64 + ring) s
  { s with hif := { s.hif with executing := Store.put false s.hif.executing ring true } }

/-- A command completes with no returned values. -/
def cmdPlain (ring op tag result : Nat) (s : State) : State := cmdDone ring op tag result 0 0 0 [] false s

/-- A frame is bound for receive ring `k` (0 to 31); RX_FRAME_DELIVER gives it a descriptor or the backlog (R286, R287). -/
def rxBind (k : Nat) (v : RxItem) (s : State) : State :=
  { s with hif := { s.hif with bound := Store.put [] s.hif.bound k (Store.find [] s.hif.bound k ++ [v]) } }

/-- Receive ring `k` (0 to 31) has a free descriptor. -/
def rxFree (s : State) (k : Nat) : Bool := ringLive s (32 + k) && 0 < ringOut s (32 + k)

/-- The backlog of receive ring `k` (R287). -/
def backlogOf (s : State) (k : Nat) : List RxItem := Store.find [] s.hif.backlog k

/-- The backlog becomes `l`; its count and peak follow (R213, R287). -/
def setBacklog (k : Nat) (l : List RxItem) (s : State) : State :=
  let s := { s with hif := { s.hif with backlog := Store.put [] s.hif.backlog k l } }
  (s.wr (HIF_RXR_BACKLOG.COUNT k) l.length).peak (HIF_RXR_BACKLOG.PEAK k) l.length

/-- A RADIO frame of Ward `w` goes to its MAC_RING; without a Ward, to Ward 0's (R286). -/
def rxRadio (w : Option Nat) (v : RxItem) (s : State) : State :=
  rxBind (s.rd (HIF_RX_ROUTE.MAC_RING (w.getD 0))) { v with fmt := 1, ward := w.getD 0 } s

end Sys2Proof.Machine
end

