-- ==== Sys2Proof/Machine/Faults.lean ====
section
/-!
DEFINITION. The fault collector (R404 to R416): latching, reactions, escalation, first-fault capture and the Moraine queue.
-/

namespace Sys2Proof.Machine

/-- Word 0 of a Moraine entry (R417): source, class, reaction, event, VALID, boot, master, access. -/
def morWord0 (s : State) (src event react master access : Nat) : Nat :=
  src % 256 + FaultSrc.cls src * 2 ^ 8 + react % 4 * 2 ^ 10 + event % 8 * 2 ^ 12 + 2 ^ 15
    + s.rd SYS_BOOTS % 256 * 2 ^ 16 + master % 16 * 2 ^ 24 + access % 8 * 2 ^ 28

/-- The queue count follows the queue (R413, FLT_MOR_STS.QUEUED, FLT_STS.QUEUE_FULL). -/
def morSetQueue (q : List MorEntry) (s : State) : State :=
  let s := { s with flt := { s.flt with queue := q } }
  (s.wr FLT_MOR_STS.QUEUED q.length).put FLT_STS.QUEUE_FULL (16 ≤ q.length)

/-- An entry joins the Moraine queue, or is lost when 16 wait (R413). -/
def morPush (src event : Nat) (a : FaultAt) (s : State) : State :=
  if s.flt.queue.length < 16 then
    let e : MorEntry := ⟨morWord0 s src event (s.rd (FLT_SRC_CFG.REACT src)) a.master a.access, a.addr % 2 ^ 32,
      s.tsuSec % 2 ^ 32, s.tsuFrac⟩
    morSetQueue (s.flt.queue ++ [e]) s
  else
    let s := s.inc FLT_MOR_LOST
    { s with flt := { s.flt with lost := s.flt.lost + 1 } }

/-- The oldest queued entry reaches the Cellar ring (R413); an OVERRUN entry follows lost ones when space returns. -/
def morCommit (s : State) : State :=
  match s.flt.queue with
  | [] => s
  | e :: q =>
    let p := s.rd FLT_MOR_STS.WP
    let old := (s.rd (FLT_MORAINE.W (4 * p))).testBit 15
    let s := ((((s.wr (FLT_MORAINE.W (4 * p)) e.w0).wr (FLT_MORAINE.W (4 * p + 1)) e.w1).wr
      (FLT_MORAINE.W (4 * p + 2)) e.w2).wr (FLT_MORAINE.W (4 * p + 3)) e.w3)
    let s := (s.wr FLT_MOR_STS.WP ((p + 1) % 64)).inc FLT_MOR_WRITES
    let s := if old then raise Irq.FLT_MOR_WRAP (s.addSat FLT_MOR_STS.WRAPS 1) else s
    let s := morSetQueue q s
    if s.flt.lost = 0 then s
    else
      let n := s.flt.lost
      morPush 0 6 { addr := n } { s with flt := { s.flt with lost := 0 } }

/-- Commit up to `k` queued entries. -/
def morCommitN : Nat → State → State
  | 0, s => s
  | k + 1, s => morCommitN k (morCommit s)

/-- The latch of source `src`. -/
def latched (s : State) (src : Nat) : Bool := (s.rd (FLT_LATCH.B (src / 32))).testBit (src % 32)

/-- The raw bit of source `src`. -/
def rawSet (s : State) (src : Nat) : Bool := (s.rd (FLT_RAW.B (src / 32))).testBit (src % 32)

/-- Write the raw bit of source `src` (R407). -/
def setRaw (src : Nat) (b : Bool) (s : State) : State :=
  s.wr (FLT_RAW.B (src / 32)) (putBit (s.rd (FLT_RAW.B (src / 32))) (src % 32) b)

/-- Some latch is set. -/
def anyLatch (s : State) : Bool := (List.range 8).any (fun i => s.rd (FLT_LATCH.B i) != 0)

/-- FLT_SUM, FLT_STS.ANY and FAULT_N follow the latches (R408, R414). FAULT_N also stays low while a reset holds it, until stage 1 ends, after
which the ROM stops in SCRAP (R366). -/
def latchView (s : State) : State :=
  let sum := (List.range 8).foldl (fun n i => if s.rd (FLT_LATCH.B i) != 0 then n + 2 ^ i else n) 0
  let s := (s.wr FLT_SUM.WORDS sum).put FLT_STS.ANY (sum != 0)
  s.put FLT_FAULTN.LOW (sum != 0 || (s.rd SYS_BOOT_STS.STAGE ≤ 1 && s.rd SYS_LC_STS.LC != 0x10))

/-- Some latched source has reaction ESC (R410). -/
def escLatched (s : State) : Bool :=
  (List.range 256).any (fun k => latched s k && s.rd (FLT_SRC_CFG.REACT k) = 2)

/-- FLT_INT_STS.FAULT sets when FLT_CFG.EN_IRQ allows it (R414). -/
def faultIrq (s : State) : State := s.when (s.flag FLT_CFG.EN_IRQ) (raise Irq.FLT_FAULT)

/-- The role of this chip. -/
def roleOf (s : State) : Nat := s.rd PAIR_STS.ROLE

/-- Change what the pair engine holds. -/
def modPair (f : PairSt → PairSt) (s : State) : State := { s with pair := f s.pair }

/-- R440: an entry of PAIR_TRACE, from 0x01 TAKEOVER to 0x0A TAKE_BLOCKED. The place of the next entry follows from how many have been
written. -/
def pairTrace (event : Nat) (s : State) : State :=
  let p := s.pair.traces % 32
  let s := (s.wr (PAIR_TRACE.W (2 * p)) (s.asn % 2 ^ 24 + event * 2 ^ 24)).wr (PAIR_TRACE.W (2 * p + 1)) s.rc32
  modPair (fun x => { x with traces := x.traces + 1 }) s

/-- R430: YIELD is set, and the alive line stops. -/
def yieldSet (s : State) : State :=
  if s.pair.yield || roleOf s = 0 then s
  else pairTrace 0x04 (modPair (fun x => { x with yield := true, aliveOut := false }) (s.inc PAIR_YIELDS))

/-- R411: the front ends stop: each in OFF, with nothing on the air. -/
def radiosCut (s : State) : State :=
  let s := s.each (List.range 4) (fun n s => s.wr (RFE_STS.STATE n) 0)
  { s with fe := s.fe.map (fun p => (p.1, { startupDone := p.2.startupDone })) }

/-- A fault reset begins: the front ends stop and a chip of a pair yields (R411, R430). It is suppressed after LIMIT of them. -/
def faultResetBegin (src : Nat) (a : FaultAt) (entry : Bool) (s : State) : State :=
  if s.rd FLT_RST_CFG.LIMIT ≤ s.rd FLT_RST_RUN.RUN then
    faultIrq ((morPush src 4 a s).inc FLT_RESET_SUPPRESSED)
  else
    let s := if entry then morPush src 3 a s else s
    yieldSet (radiosCut { s with flt := { s.flt with resetPend := true } })

/-- The reaction of source `src` whose latch has just set (R406, R410, R411). -/
def faultReact (src : Nat) (a : FaultAt) (escBefore : Bool) (s : State) : State :=
  match s.rd (FLT_SRC_CFG.REACT src) with
  | 1 => faultIrq s
  | 2 =>
    let s := faultIrq s
    if escBefore then s
    else raise Irq.FLT_ESC_ARMED
      ((({ s with flt := { s.flt with escAt := s.rc } }.put FLT_STS.ESC_RUN true).wr FLT_ESC_STS.LEFT (s.rd FLT_ESC_CFG.MS)).wr FLT_ESC_SRC.SRC src)
  | 3 => faultResetBegin src a true s
  | _ => s

/-- The first latch to set while nothing is captured fills FLT_FIRST; later ones change only LATER (R412). -/
def firstCapture (src : Nat) (a : FaultAt) (s : State) : State :=
  let w := s.rd (FLT_FIRST.W 0)
  if w.testBit 8 then
    if bitsOf w 24 8 < 255 then s.wr (FLT_FIRST.W 0) (w + 2 ^ 24) else s
  else
    let s := s.wr (FLT_FIRST.W 0) (src % 256 + 2 ^ 8 + a.master % 16 * 2 ^ 9 + a.access % 8 * 2 ^ 13 + s.rd SYS_BOOTS % 256 * 2 ^ 16)
    let s := (s.wr (FLT_FIRST.W 1) a.addr).wr (FLT_FIRST.W 2) (a.addr / 2 ^ 32)
    let s := ((s.wr (FLT_FIRST.W 3) s.rc32).wr (FLT_FIRST.W 4) s.tsuFrac).wr (FLT_FIRST.W 5) s.tsuSec
    let s := (s.wr (FLT_FIRST.W 6) (s.tsuSec / 2 ^ 32)).wr (FLT_FIRST.W 7) (a.space % 256 + a.detail * 2 ^ 8)
    raise Irq.FLT_FIRST s

/-- Source `src` occurs, or is injected (R407, R415): every occurrence counts; the latch, its entry and its reaction follow only when
the latch was clear. A reserved source never latches (R405). -/
def faultRaise (src : Nat) (a : FaultAt) (inject : Bool) (s : State) : State :=
  if !FaultSrc.named src then s
  else
    let s := s.addSat (FLT_SRC_CFG.CNT src) 1
    if latched s src then (if inject then morPush src 5 a s else s)
    else
      let esc := escLatched s
      let s := s.wr (FLT_LATCH.B (src / 32)) (setBit (s.rd (FLT_LATCH.B (src / 32))) (src % 32))
      let s := (latchView (s.wr FLT_LAST.SRC src)).inc FLT_RAISES
      let s := morPush src (if inject then 5 else 0) a s
      faultReact src a esc (firstCapture src a s)

/-- An event source occurs (R407). -/
def faultEvent (src : Nat) (a : FaultAt) (s : State) : State := faultRaise src a false s

/-- A lasting source's condition begins: its raw bit holds from here (R407). -/
def faultBegin (src : Nat) (a : FaultAt) (s : State) : State := faultRaise src a false (setRaw src true s)

/-- A lasting source's condition ends; its latch stays until it is cleared (R409). -/
def faultEnd (src : Nat) (s : State) : State := setRaw src false s

/-- Writing 1 to a latch clears it when its raw bit is 0: a CLEAR entry is written and CNT returns to 0 (R409); the escalation timer
stops when no ESC latch remains (R410). -/
def latchClear (src : Nat) (s : State) : State :=
  if latched s src && !rawSet s src then
    let s := s.wr (FLT_LATCH.B (src / 32)) (clrBit (s.rd (FLT_LATCH.B (src / 32))) (src % 32))
    let s := ((morPush src 1 {} s).wr (FLT_SRC_CFG.CNT src) 0).inc FLT_CLEARS
    let s := latchView s
    if s.flag FLT_STS.ESC_RUN && !escLatched s then (s.put FLT_STS.ESC_RUN false).wr FLT_ESC_STS.LEFT 0 else s
  else s

/-- A bit of a status register sets a fault source: the double-bit error of a store (R26). -/
def eccFault (src : Nat) (a : FaultAt) (s : State) : State := faultEvent src { a with space := if a.space = 0 then 3 else a.space } s

/-- R26: single-bit errors are corrected on read and written back, and each is counted by the fault source of its store; those of a policy
core's local SRAM show in PCR_C_LOCAL_ECC. -/
def eccFix (l : List (Fin 256)) (s : State) : State :=
  s.each l (fun k s =>
    let src := k.val
    let s := { s with flt := { s.flt with corrected := Store.put 0 s.flt.corrected src (Store.find 0 s.flt.corrected src + 1) } }
    if 16 ≤ src && src ≤ 23 then s.addSat (PCR_C_LOCAL_ECC.CORR (src - 16)) 1 else s)

/-- R26: the poisoned word at `a` of the store of source `src` is delivered to the unit that read it. -/
def eccDeliver (src : Nat) (a : FaultAt) (s : State) : State :=
  { s with flt := { s.flt with poisoned := Store.put (0, 0) s.flt.poisoned src (a.addr, a.master) } }

/-- Word `word` of record `nix` in the Node Store is poisoned: the record is fenced and ECC_NODE is raised with the word's address and its
reader as master (R26, R27, R28). -/
def fenceNode (nix word master : Nat) (s : State) : State :=
  let a : FaultAt := { addr := nix * 128 + word % 16 * 8, space := 3, master := master, access := 1 }
  eccFault 32 a (eccDeliver 32 a (s.modNode nix (fun n => { n with fenced := true })))

end Sys2Proof.Machine
end

