-- ==== Sys2Proof/Machine/Schedule.lean ====
section
/-!
DEFINITION. Questions about the schedule that several units ask: channels and windows (R39, R40, R68, R69), hop sequences (R98),
slotframes and cells (R123, R128), conflicts (R129), and which cell an arrival meets (R77, R88).
-/

namespace Sys2Proof.Machine

/-- Slot length, µs (R92). -/
def lenUs (s : State) : Nat := s.rd MAC_SLOT_LEN.LEN_US

/-- The enabled Ward whose PAN ID is `pan` (R110). -/
def wardOf (s : State) (pan : Nat) : Option Nat :=
  (List.range 8).find? (fun w => s.flag (MAC_WARD_PAN.EN w) && s.rd (MAC_WARD_PAN.PAN_ID w) = pan)

/-- The ASN runs (R262). -/
def asnRuns (s : State) : Bool := s.flag MAC_STS.ASN_RUN

/-- Spacing codes of CHZ_PLAN_GEO, kHz. -/
def spacingKhz (code : Nat) : Nat := [200, 400, 600, 800, 1200, 5000].getD code 5000

/-- Centre of channel `c` of plan `p`, kHz (R68). -/
def chanCentre (s : State) (p c : Nat) : Nat := s.rd (CHZ_PLAN_F0.F0_KHZ p) + c * spacingKhz (s.rd (CHZ_PLAN_GEO.SPACING p))

/-- The window centre in force on front end `n`, kHz: what its synthesizer holds, or RFE_TUNE before it has moved (R39, R47). -/
def centreOf (s : State) (n : Nat) : Nat := if (s.feOf n).tuned = 0 then s.rd (RFE_TUNE.CENTRE n) else (s.feOf n).tuned

/-- The centre of the window of logical front end `n`, kHz: while it covers its sibling its synthesizer serves the sibling's window, and its
own stands at RFE_TUNE (R54, R69). -/
def windowOf (s : State) (n : Nat) : Nat := if (s.feOf n).covers then s.rd (RFE_TUNE.CENTRE n) else centreOf s n

/-- Usable span of front end `n` about `centre`, kHz: low edge and width (R39). -/
def usable (n centre : Nat) : Int × Nat :=
  if n = 2 then (2400750, 82000) else if n = 3 then ((centre : Int) - 9000, 18000) else ((centre : Int) - 19000, 38000)

/-- The occupied bandwidth of a channel lies in the usable span of front end `n` tuned to `centre` (R40). -/
def inSpan (n centre chan spacing : Nat) : Bool :=
  let u := usable n centre
  (u.1 * 2 ≤ (chan : Int) * 2 - spacing) && ((chan : Int) * 2 + spacing ≤ (u.1 + u.2) * 2)

/-- Bin width, number of the first and last usable bin, and window width of front end `n` (R67), kHz. -/
def binGrid (n : Nat) : Nat × Nat × Nat × Nat :=
  if n = 2 then (1000, 1, 82, 84000) else if n = 3 then (100, 10, 189, 20000) else (100, 10, 389, 40000)

/-- First bin and number of bins of a channel's group on front end `n` (R68). -/
def binGroup (n centre chan spacing : Nat) : Int × Nat :=
  let (d, _, _, w) := binGrid n
  let rel : Int := (chan : Int) * 2 - ((centre : Int) * 2 - w)
  let k := spacing / d
  if k % 2 = 0 then ((rel + d - 1) / (2 * d) - k / 2, k) else (rel / (2 * d) - (k - 1) / 2, k)

/-- The channel is inside the window of front end `n` for reception (R69). -/
def inWindow (s : State) (n p c : Nat) : Bool :=
  let ce := windowOf s n
  let sp := spacingKhz (s.rd (CHZ_PLAN_GEO.SPACING p))
  let f := chanCentre s p c
  let (b, k) := binGroup n ce f sp
  let (_, lo, hi, _) := binGrid n
  inSpan n ce f sp && ((lo : Int) ≤ b) && (b + k ≤ (hi : Int) + 1)

/-- Entry `e` of the active bank of hop sequence `h`: plan and channel (R98). -/
def hsEntry (s : State) (h e : Nat) : Nat × Nat :=
  let v := Store.find 0 s.mac.hs ((h * 2 + Store.find 0 s.mac.hsBank h) * 1024 + e)
  (v % 16, v / 16)

/-- The channel of a cell with channel offset `o` whose first slot is ASN `a`, in sequence `h` (R98). -/
def cellChan (s : State) (h o a : Nat) : Nat × Nat := hsEntry s h ((a + o) % s.rd (MAC_HS_LEN.ACTIVE h))

/-- The first Cell Store entry of slot offset `o` of slotframe `f` (R123). -/
def slotEntry (s : State) (f o : Nat) : Nat := s.rd (SRC_SF_BASE.BASE f) + o * s.rd (SRC_SF_GEOM.WIDTH f)

/-- Index `i` lies in the partition of slotframe `f` (R123). -/
def inPartition (s : State) (f i : Nat) : Bool :=
  s.rd (SRC_SF_BASE.BASE f) ≤ i && i < s.rd (SRC_SF_BASE.BASE f) + s.rd (SRC_SF_GEOM.LEN f) * s.rd (SRC_SF_GEOM.WIDTH f)

/-- Slot offset of index `i` in slotframe `f` (R123). -/
def offsetOf (s : State) (f i : Nat) : Nat := (i - s.rd (SRC_SF_BASE.BASE f)) / s.rd (SRC_SF_GEOM.WIDTH f)

/-- Slotframes active in the generation in force. -/
def sfsOn (s : State) : List Nat := (List.range 64).filter (fun f => s.flag (SRC_SF_CFG.ON f))

/-- Slotframes whose EN reads 1: the enabled ones that checks are made against (R124, R130). -/
def sfsEn (s : State) : List Nat := (List.range 64).filter (fun f => s.flag (SRC_SF_CFG.EN f))

/-- The enabled slotframe that index `i` lies in. -/
def sfOf (s : State) (l : List Nat) (i : Nat) : Option Nat := l.find? (fun f => inPartition s f i)

/-- The cells in force whose first slot is ASN `a`: index, slotframe, cell. -/
def cellsAt (s : State) (a : Nat) : List (Nat × Nat × Cell) :=
  (sfsOn s).flatMap (fun f =>
    let b := slotEntry s f (a % s.rd (SRC_SF_GEOM.LEN f))
    ((List.range (s.rd (SRC_SF_GEOM.WIDTH f))).map (fun j => (b + j, f, Store.find {} s.src.live (b + j)))).filter
      (fun x => x.2.2.typ != 0))

/-- TYPE is TX, SHARED, BEACON or UPDATE (R126). -/
def txCapable (t : Nat) : Bool := t = 1 || t = 3 || t = 4 || t = 6

/-- TYPE receives: RX or SHARED (R126). -/
def rxCapable (t : Nat) : Bool := t = 2 || t = 3

/-- RC at the tick of ASN `a`, in ns, counted from the slot in progress (R262); it may lie in the past. -/
def tickRc (s : State) (a : Nat) : Int :=
  let d := (a + asnMod - s.asn) % asnMod
  let k : Int := if d < 2 ^ 39 then d else (d : Int) - asnMod
  (s.mac.tickAt : Int) + k * (lenUs s * 1000)

/-- The slot that holds the moment `ts`, ns of RC, by its ASN. -/
def asnOf (s : State) (ts : Nat) : Nat :=
  if asnRuns s then (((s.asn : Int) + ((ts : Int) - s.mac.tickAt) / (lenUs s * 1000)) % asnMod).toNat else s.asn

/-- Lane `n` runs (MAC_LS_STS.STATE RUN or SWAP_ARMED). -/
def laneRuns (s : State) (n : Nat) : Bool := s.rd (MAC_LS_STS.STATE n) = 1 || s.rd (MAC_LS_STS.STATE n) = 2

/-- The cells whose first slot is ASN `a`, with the channel they begin on (R97, R98), from the schedule that `s` holds in force: those whose
lane runs (R100), and QUIET cells. -/
def spansAt (s : State) (a : Nat) : List Span :=
  ((cellsAt s a).filter (fun x => x.2.2.typ = 5 || laneRuns s x.2.2.fe)).map (fun x =>
    let ch := cellChan s (s.rd (SRC_SF_CFG.HS x.2.1)) x.2.2.chofs a
    { idx := x.1, sf := x.2.1, cell := x.2.2, asn := a, tick := (tickRc s a).toNat, plan := ch.1, chan := ch.2 })

/-- The schedule that the tick of ASN `a` will bring into force, as a view: the generations, the hop-sequence switch and the slotframe switch
that are due there (R99, R136, R145). -/
def schedDue (s : State) (a : Nat) : State :=
  let due := s.src.bounds.filter (fun b => !later b.asn a)
  let s := s.each due (fun b s =>
    let s := (s.each b.turnOn (fun f s => s.put (SRC_SF_CFG.ON f) true)).each b.turnOff (fun f s => s.put (SRC_SF_CFG.ON f) false)
    { s with src := { s.src with live := b.cells } })
  let s := s.when (s.flag MAC_HS_CTL.ARM && s.mac.hsAt = some a) (fun s =>
    s.each (bitList 16 (s.rd MAC_HS_CTL.MASK)) (fun h s =>
      let s := s.wr (MAC_HS_LEN.ACTIVE h) (s.rd (MAC_HS_LEN.SHADOW h))
      { s with mac := { s.mac with hsBank := Store.put 0 s.mac.hsBank h (1 - Store.find 0 s.mac.hsBank h) } }))
  s.when (s.flag SRC_SW_CTL.ARM && asnField SRC_SW_AT_LO.ASN SRC_SW_AT_HI.ASN s = a) (fun s =>
    (s.when (s.flag SRC_SW_CTL.FROM_EN) (fun s => s.put (SRC_SF_CFG.ON (s.rd SRC_SW_CTL.FROM)) false)).put (SRC_SF_CFG.ON (s.rd SRC_SW_CTL.TO)) true)

/-- The occurrences of cells that take up the current slot or a neighbour (R77): those that have begun, and those that begin with the next
slot. Without the ASN there is no slot. -/
def nearCells (s : State) : List Span :=
  let a := (s.asn + 1) % asnMod
  if asnRuns s then s.mac.began ++ spansAt (schedDue s a) a else []

/-- The RX cells on front end `fe`, plan `p`, channel `c` in the current slot and the two adjacent ones (R77). -/
def rxMatches (s : State) (fe p c : Nat) : List Match :=
  ((nearCells s).filter (fun x => rxCapable x.cell.typ && x.cell.fe = fe && x.plan = p && x.chan = c)).map (fun x =>
    { sf := x.sf, tt := x.cell.tt, nix := x.cell.nix, typ := x.cell.typ, asn := x.asn, start := (x.tick : Int) + s.rd (MAC_TT_TX.TX_OFS x.cell.tt) * 1000 })

/-- The match whose nominal start is nearest to `t`; on a tie, the lower slotframe (R77). DESIGN CHOICE (log entry 29): on a tie within one
slotframe, the first of the list, which is the cell that began first. -/
def nearest (t : Int) : List Match → Option Match
  | [] => none
  | m :: l =>
    match nearest t l with
    | none => some m
    | some b =>
      let dm := (m.start - t).natAbs
      let db := (b.start - t).natAbs
      if dm < db || (dm = db && m.sf ≤ b.sf) then some m else some b

/-- OOG_LIMIT of template `t`, in µs (R89): CHZ_OOG.EFF is in units of 10 µs. -/
def oogLimit (s : State) (t : Nat) : Nat :=
  let l := s.rd (CHZ_OOG.LIMIT t) * 10
  let g := s.rd (MAC_TT_GUARD.GUARD t)
  min (max l g) (lenUs s / 2)

/-- The case of R88 for an offset in ns from template `t`'s nominal RMARKER. DESIGN CHOICE (log entry 29): in the window for a node's ack, whose
guard at detection is half of ACK_WAIT, the SFD is judged by the template's GUARD and OOG_LIMIT as in a cell. -/
def oogCase (s : State) (t : Nat) (ofs : Int) : OogCase :=
  if ofs.natAbs ≤ s.rd (MAC_TT_GUARD.GUARD t) * 1000 then .inGuard
  else if ofs.natAbs ≤ oogLimit s t * 1000 then .inLimit
  else .beyond

/-- R128: the difference of two slot offsets modulo `g`. -/
def gapMod (o1 o2 g : Nat) : Nat := (o2 + g - o1 % g) % g

/-- R128: two cells overlap in time. -/
def overlap (l1 o1 s1 l2 o2 s2 : Nat) : Bool :=
  let g := Nat.gcd l1 l2
  let k := gapMod o1 o2 g
  k ≤ s1 - 1 || g - k ≤ s2 - 1

/-- R128: two cells are aligned. -/
def aligned (l1 o1 s1 tt1 l2 o2 s2 tt2 : Nat) : Bool := gapMod o1 o2 (Nat.gcd l1 l2) = 0 && s1 = s2 && tt1 = tt2

/-- Bit `b` of RFE_BLANK.MASK of front end `a` (R61, R129). -/
def blanks (s : State) (a b : Nat) : Bool := a = b || (s.rd (RFE_BLANK.MASK a)).testBit b

/-- R129: why two cells conflict (WHY of the conflict log), 0 when they do not. `f` and `i` are slotframe and slot offset. -/
def conflictWhy (s : State) (f1 o1 : Nat) (c1 : Cell) (f2 o2 : Nat) (c2 : Cell) : Nat :=
  let l1 := s.rd (SRC_SF_GEOM.LEN f1)
  let l2 := s.rd (SRC_SF_GEOM.LEN f2)
  if !overlap l1 o1 (c1.span + 1) l2 o2 (c2.span + 1) then 0
  else if (txCapable c1.typ && c2.typ != 5 && blanks s c1.fe c2.fe) || (txCapable c2.typ && c1.typ != 5 && blanks s c2.fe c1.fe) then 1
  else if c1.typ = 2 && c2.typ = 2 && (blanks s c1.fe c2.fe || blanks s c2.fe c1.fe)
      && !aligned l1 o1 (c1.span + 1) c1.tt l2 o2 (c2.span + 1) c2.tt then 2
  else if (c1.typ = 5 || c2.typ = 5) && c1.fe = c2.fe then 3
  else if c1.typ != 5 && c2.typ != 5 && s.rd (SRC_SF_CFG.HS f1) = s.rd (SRC_SF_CFG.HS f2)
      && c1.chofs % s.rd (MAC_HS_LEN.ACTIVE (s.rd (SRC_SF_CFG.HS f1))) = c2.chofs % s.rd (MAC_HS_LEN.ACTIVE (s.rd (SRC_SF_CFG.HS f1))) then 4
  else if c1.typ = 4 && c2.typ = 4 && s.rd (SRC_SF_CFG.OWNER f1) = s.rd (SRC_SF_CFG.OWNER f2) then 8
  else 0

/-- Change what Serac holds. -/
def modSrc (f : Src → Src) (s : State) : State := { s with src := f s.src }

/-- R133: the change tokens of Ward `w` as of now: 10^−9 tokens below BURST. -/
def tokenDebt (s : State) (w : Nat) : Nat :=
  let r := s.rd (SRC_ENV_RATE.CHG_PER_S w)
  let gain := r * (s.rc - Store.find 0 s.src.tokAt w) / (if s.rd SYS_MODE_STS.CUR = 2 then 4 else 1)
  Store.find 0 s.src.tokDebt w - gain

/-- Whole tokens in the bucket of Ward `w` (R133). -/
def tokensNow (s : State) (w : Nat) : Nat := (s.rd (SRC_ENV_RATE.BURST w) * 1000000000 - tokenDebt s w) / 1000000000

/-- TOKENS shows the fill (R133). -/
def tokenView (w : Nat) (s : State) : State :=
  let d := tokenDebt s w
  let full := s.rd (SRC_ENV_RATE.BURST w) * 1000000000
  let s := modSrc (fun x => { x with tokDebt := Store.put 0 x.tokDebt w (min d full), tokAt := Store.put 0 x.tokAt w s.rc }) s
  s.wr (SRC_ENV_RATE.TOKENS w) (tokensNow s w)

/-- SRC_STS.STAGED follows the staging queue. -/
def stagedView (s : State) : State := s.wr SRC_STS.STAGED s.src.staged.length

/-- The staging queue has room for `n` changes (R136). -/
def stageRoom (s : State) (n : Nat) : Bool := s.src.staged.length + s.src.spill.length + n ≤ 256

/-- R136: an apply begins with everything staged; while one is under way, the next begins after it. Changes that waited for room are staged,
and applied next; what waits for an apply of everything staged so far waits for theirs. -/
def applyStart (s : State) : State :=
  if s.src.applying.isSome then modSrc (fun x => { x with applyDue := true }) s
  else
    let more := !s.src.spill.isEmpty
    stagedView (modSrc (fun x => { x with
      applying := some x.staged
      staged := x.spill.take 256
      spill := x.spill.drop 256
      applyDue := more
      cmdNow := if more then x.cmdNow else x.cmdNow ++ x.cmdNext
      cmdNext := if more then x.cmdNext else []
      sendNow := if more then x.sendNow else x.sendNow ++ x.sendNext
      sendNext := if more then x.sendNext else []
      evicting := if more then x.evicting else x.evicting ++ x.evictNext
      evictNext := if more then x.evictNext else [] }) s)

/-- Changes are staged; those for which the queue of 256 has no room wait, and an apply makes room (R136; log entry 29). -/
def stage (l : List Change) (s : State) : State :=
  let k := if s.src.spill.isEmpty then 256 - s.src.staged.length else 0
  let s := stagedView (modSrc (fun x => { x with staged := x.staged ++ l.take k, spill := x.spill ++ l.drop k }) s)
  if s.src.spill.isEmpty then s else applyStart s

/-- What a change of the schedule counts, at staging: moves, or adds and deletes (R150). -/
def stageCount (adds dels : Nat) (s : State) : State :=
  let m := min adds dels
  ((s.add SRC_MOVES m).add SRC_ADDS (adds - m)).add SRC_DELETES (dels - m)

/-- One staged change, done to the Cell Store. -/
def changeCells (l : Store Cell) : Change → Store Cell
  | .add i c _ => Store.put {} l i c
  | .del i _ => Store.put {} l i {}
  | _ => l

/-- The changes under way, staged, or waiting for room, in order. -/
def changesDue (s : State) : List Change := s.src.applying.getD [] ++ s.src.staged ++ s.src.spill

/-- The Cell Store with every staged change done. -/
def workCells (s : State) : Store Cell := (changesDue s).foldl changeCells s.src.cells

/-- The Cell Store with every change under way or staged done, and the cells that outstanding 6P transactions hold: what placements are
checked against (R130, R142). -/
def planCells (s : State) : Store Cell :=
  let l := workCells s
  let held := s.src.p6out.flatMap (fun p => match p.2 with | some x => x.adds | none => [])
  let ans := s.src.p6ack.flatMap (fun a => a.adds)
  (held ++ ans).foldl (fun l p => Store.put {} l p.1 p.2) l

/-- Some entry of the hop sequence of slotframe `f` lies outside the usable span of front end `fe` (R129, OUT_OF_SPAN). -/
def outOfSpan (s : State) (f fe : Nat) : Bool :=
  let h := s.rd (SRC_SF_CFG.HS f)
  (List.range (s.rd (MAC_HS_LEN.ACTIVE h))).any (fun e => !inWindow s fe (hsEntry s h e).1 (hsEntry s h e).2)

/-- R130: the slotframes of `l` that hold index `i`, with why cell `c` at slot offset `o` of slotframe `f` conflicts with cell `q` there. -/
def conflictAt (s : State) (f o : Nat) (c : Cell) (l : List Nat) (i : Nat) (q : Cell) : Option Nat :=
  l.findSome? (fun g =>
    let w := if inPartition s g i then conflictWhy s f o c g (offsetOf s g i) q else 0
    if w = 0 then none else some w)

/-- R129, R130: why cell `c` may not stand at slot offset `o` of slotframe `f`, and the blocking index; 0 when it may. `skip` is the
index of a cell that the same change deletes. A cell is met in its place in every enabled slotframe and in `f`. -/
def placeWhy (s : State) (cells : Store Cell) (f o : Nat) (c : Cell) (skip : Option Nat) : Nat × Nat :=
  let against := f :: (sfsEn s).filter (fun g => g != f)
  match cells.findSome? (fun p =>
      if p.2.typ = 0 || some p.1 = skip then none else (conflictAt s f o c against p.1 p.2).map (fun w => (w, p.1))) with
  | some r => r
  | none => if outOfSpan s f c.fe then (7, 0xFFFFF) else (0, 0xFFFFF)

/-- The first free entry of slot offset `o` of slotframe `f`; entry 0xFFFFF never holds a cell (R124), nor does anything behind it. -/
def freeEntry (s : State) (cells : Store Cell) (f o : Nat) (skip : Option Nat) : Option Nat :=
  ((List.range (s.rd (SRC_SF_GEOM.WIDTH f))).map (fun j => slotEntry s f o + j)).find?
    (fun i => i < 0xFFFFF && ((Store.find {} cells i).typ = 0 || some i = skip))

/-- The chain of a node: cell indices in order, from CELL_PTR through NEXT (R127). -/
def chainFrom (cells : Store Cell) : Nat → Nat → List Nat
  | 0, _ => []
  | k + 1, i => i :: chainFrom cells k (Store.find {} cells i).next

/-- The chain of record `nix` in the Cell Store (R127). -/
def chainOf (s : State) (nix : Nat) : List Nat := chainFrom s.src.cells (s.node nix).cellCnt (s.node nix).cellPtr

end Sys2Proof.Machine
end

