-- ==== Sys2Proof/Machine/Slices.lean ====
section
/-!
DEFINITION. Sniffer assignment (R72, R73) and the life of a slice (R76, R83), as several units use them.
-/

namespace Sys2Proof.Machine

/-- What slice `k` holds. -/
def sliceOf (s : State) (k : Nat) : Slice := Store.find {} s.slices k

/-- Change what slice `k` holds. -/
def modSlice (k : Nat) (f : Slice → Slice) (s : State) : State := { s with slices := Store.put {} s.slices k (f (sliceOf s k)) }

/-- Slice `k` is in SYNC or FRAME. -/
def sliceBusy (s : State) (k : Nat) : Bool := s.rd (CHZ_SLICE_STS.STATE k) = 1 || s.rd (CHZ_SLICE_STS.STATE k) = 2

/-- CCM* engine `e` takes a frame (R159): BUSY holds one bit per engine. -/
def engineTake (e : Nat) (s : State) : State :=
  let s := (s.inc (SEC_ENG_OPS e)).wr SEC_ENG_STS.BUSY (setBit (s.rd SEC_ENG_STS.BUSY) e)
  s.peak SEC_ENG_PEAK.PEAK (bitList 16 (s.rd SEC_ENG_STS.BUSY)).length

/-- CCM* engine `e` works with nonce `n` (R153, R159). -/
def engNonce (e : Option Nat) (n : List Nat) (s : State) : State :=
  match e with
  | some e => { s with sec := { s.sec with engNonce := Store.put [] s.sec.engNonce e n } }
  | none => s

/-- CCM* engine `e` is free again. -/
def engineFree (e : Option Nat) (s : State) : State :=
  match e with
  | none => s
  | some e => s.wr SEC_ENG_STS.BUSY (clrBit (s.rd SEC_ENG_STS.BUSY) e)

/-- The first engine that is in use in this mode and idle (R159). -/
def engineIdle (s : State) : Option Nat :=
  (List.range 16).find? (fun e => (s.rd SEC_ENG_STS.IN_USE).testBit e && !(s.rd SEC_ENG_STS.BUSY).testBit e)

/-- Slice `k` is released: FREE, or OFF when a mode change withdraws it (R83). -/
def sliceRelease (k : Nat) (s : State) : State :=
  let s := if sliceBusy s k then s.sub CHZ_SLICE_BUSY.BUSY 1 else s
  let off := (sliceOf s k).leaving
  let s := engineFree (sliceOf s k).engine s
  modSlice k (fun _ => { freed := s.rc }) (s.wr (CHZ_SLICE_STS.STATE k) (if off then 3 else 0))

/-- R43: every frame in progress on the slices that physical front end `n` feeds is discarded and counted. -/
def discardFrames (n : Nat) (s : State) : State :=
  s.each ((List.range 128).filter (fun k => sliceBusy s k && (sliceOf s k).phys = n))
    (fun k s => (sliceRelease k s).inc (RFE_RX_BLANKED n))

/-- Width in force (R73, CHZ_WIDTH by operating mode): true is ALL. -/
def widthAll (s : State) : Bool :=
  match s.rd SYS_MODE_STS.CUR with
  | 0 => s.rd CHZ_WIDTH.THAW_W = 0
  | 1 => s.rd CHZ_WIDTH.FLOE_W = 0
  | _ => s.rd CHZ_WIDTH.RIME_W = 0

/-- The PHY classes of a plan, as numbers. -/
def planClasses (s : State) (p : Nat) : List Nat := bitList 11 (s.rd (CHZ_PLAN_PHY.CLASS_MASK p))

/-- The front ends that watch channel `c` of plan `p` (R68, R69). -/
def planFes (s : State) (p c : Nat) : List Nat := (bitList 4 (s.rd (CHZ_PLAN_FE.FE_MASK p))).filter (fun n => inWindow s n p c)

/-- Every triple of plan `p`, by channel, class, front end (R72). -/
def planTriples (s : State) (p : Nat) : List Triple :=
  (List.range (s.rd (CHZ_PLAN_GEO.COUNT p))).flatMap (fun c =>
    (planClasses s p).flatMap (fun k => (planFes s p c).map (fun n => ⟨p, c, k, n⟩)))

/-- Enabled plans, by number. -/
def plansOn (s : State) : List Nat := (List.range 16).filter (fun p => s.flag (CHZ_PLAN_FE.EN p))

/-- R73, R107: a cell of this type needs its channel watched: RX and SHARED cells, and TX cells, whose window for the node's ack counts as an
RX cell. -/
def watchedCell (t : Nat) : Bool := t = 1 || rxCapable t

/-- R73: the interval in which cell `x` needs its channel watched, from its slot start less OOG_LIMIT to its slot end plus OOG_LIMIT, meets
the one from `lo` to `hi`, ns of RC. -/
def watches (s : State) (lo hi : Nat) (x : Span) : Bool :=
  let g := oogLimit s x.cell.tt * 1000
  watchedCell x.cell.typ && x.tick ≤ hi + g && lo ≤ x.tick + (x.cell.span + 1) * lenUs s * 1000 + g

/-- The triples that RX cells, and TX cells for their ack windows, need between `lo` and `hi` (R73, R107). DESIGN CHOICE (log entry 29): a
channel number of a hop sequence at or above the plan's COUNT names the channel that R68's formula gives, watched like any other. -/
def rxTriples (s : State) (lo hi : Nat) : List Triple :=
  let t := ((nearCells s).filter (watches s lo hi)).flatMap (fun x =>
    if s.flag (CHZ_PLAN_FE.EN x.plan) && x.cell.fe ∈ planFes s x.plan x.chan then
      (planClasses s x.plan).map (fun k => (⟨x.plan, x.chan, k, x.cell.fe⟩ : Triple))
    else [])
  t.dedup

/-- Plan `p` as the sniffers were last assigned under it (R91). -/
def planNow (s : State) (p : Nat) : PlanNow := Store.find {} s.plans p

/-- The sniffer of triple `x` is at work now (R72, R73): it is assigned, and in SCHED width its plan is watched in every slot or a cell
needs its channel at this moment. -/
def sniffs (s : State) (x : Triple) : Bool :=
  s.flag CHZ_CFG.EN && s.sniffers.contains x
    && (!s.flag CHZ_STS.WIDTH_NOW || (planNow s x.plan).always
      || (nearCells s).any (fun y => y.plan = x.plan && y.chan = x.chan && y.cell.fe = x.fe && watches s s.rc s.rc y))

/-- The plans' settings come into force (R91). -/
def plansLatch (s : State) : State :=
  { s with plans := (List.range 16).foldl (fun l p => Store.put {} l p
      { always := s.flag (CHZ_PLAN_FE.ALWAYS p), maxPsdu := s.rd (CHZ_PLAN_GEO.MAX_PSDU p), preLen := s.rd (CHZ_PLAN_PHY.PRE_LEN p) }) s.plans }

/-- R72: sniffers are assigned anew, in the order of the rule, until 1,024 are in use. DESIGN CHOICE (log entry 29): within step 1 the triples
stand as their cells do, those in progress first, and within step 2 as in step 3. -/
def assignSniffers (s : State) : State :=
  let a := rxTriples s s.mac.tickAt (s.mac.tickAt + lenUs s * 1000)
  let b := ((plansOn s).filter (fun p => s.flag (CHZ_PLAN_FE.ALWAYS p))).flatMap (planTriples s)
  let c := if widthAll s then (plansOn s).flatMap (planTriples s) else []
  let want := if s.flag CHZ_CFG.EN then (a ++ b ++ c).eraseDups else []
  let got := want.take 1024
  let short := got.length < want.length
  let s := ((s.wr CHZ_STS.SNIFF_WANT (min want.length 2047)).put CHZ_STS.WIDTH_NOW (!widthAll s))
  let s := if short && !s.flag CHZ_STS.SNIFF_SHORT then raise Irq.CHZ_SNIFF_SHORT s else s
  let s := plansLatch { s.put CHZ_STS.SNIFF_SHORT short with sniffers := got }
  let s := s.each (List.range 4) (fun n s => s.wr (CHZ_SNIFF_USE.USED n) (got.filter (fun x => x.fe = n)).length)
  s.each (List.range 16) (fun p s =>
    let inw := ((List.range (s.rd (CHZ_PLAN_GEO.COUNT p))).filter (fun c => !(planFes s p c).isEmpty)).length
    (s.wr (CHZ_PLAN_STS.IN_WIN p) inw).wr (CHZ_PLAN_STS.SNIFF p) (got.filter (fun x => x.plan = p)).length)

/-- Plan, window and width changes take effect at the next tick; without the ASN there are no ticks and they take effect at once (R91). -/
def replan (s : State) : State := if asnRuns s then s else assignSniffers s

end Sys2Proof.Machine
end

