-- ==== Sys2Proof/Machine/RadioOps.lean ====
section
/-!
DEFINITION. What the front ends do (R42 to R64), as several commands use it: state changes, calibration runs, sibling cover,
duty-cycle accounting and the control pins.
-/

namespace Sys2Proof.Machine

/-- The state of front end `n` (R42): 0 OFF, 1 SETTLE, 2 RX, 3 TURN_RT, 4 TX, 5 TURN_TR, 6 CAL. -/
def feState (s : State) (n : Nat) : Nat := s.rd (RFE_STS.STATE n)

/-- The sibling of FE0 or FE1 (R54). -/
def sibling (n : Nat) : Nat := if n = 0 then 1 else if n = 1 then 0 else n

/-- The physical front end that serves the window of logical front end `n` (R54, R82). -/
def physOf (s : State) (n : Nat) : Nat := if s.flag (RFE_STS.COVERED n) then sibling n else n

/-- The logical front end whose window physical front end `n` serves (R82). -/
def logOf (s : State) (n : Nat) : Nat := if s.flag (RFE_STS.COVERING n) then sibling n else n

/-- A frame on physical front end `p` with an ack request whose ack decision is still to be made (R111). -/
def ackDue (p : Nat) (f : RxFrame) : Bool := f.phys = p && !f.acked && f.hdr.ackReq && f.hdr.kind != .ack

/-- The frames of burst `b` on physical front end `p` (R112): those that ended before the turnaround starts, decided already or not, by their
ends. -/
def burstEnds (s : State) (p : Nat) (b : Burst) : List Nat :=
  (b.ends ++ (s.mac.rx.filter (ackDue p)).map (·.endAt)).filter (· < b.start)

/-- The frame that ended at `e` is a member of burst `b` (R112): fewer than ACK_MAX of its frames ended before it. -/
def burstMember (s : State) (p : Nat) (b : Burst) (e : Nat) : Bool :=
  e < b.start && ((burstEnds s p b).filter (· < e)).length < s.rd MAC_ACK_CFG.ACK_MAX

/-- A member of the burst of physical front end `p` has not come to its commit point yet (R112). -/
def burstWaits (s : State) (p : Nat) : Bool :=
  match (Store.find {} s.lanes p : Lane).burst with
  | some b => s.mac.rx.any (fun f => ackDue p f && burstMember s p b f.endAt)
  | none => false

/-- Front end `n` changes state; leaving RX discards its frames (R43). -/
def feGo (n st : Nat) (s : State) : State :=
  let s := if feState s n = 2 && st != 2 then discardFrames n s else s
  s.wr (RFE_STS.STATE n) st

/-- The PENDING and CAL_DUE fields follow what waits and what the run still holds (R52, RFE_CAL_STS, RFE_STS): CAL_DUE lasts until the
requested calibration has completed (19_step_a1_deviations.md, the split run). -/
def calView (n : Nat) (s : State) : State :=
  let f := s.feOf n
  let runMask := f.run.foldl setBit 0
  (s.wr (RFE_CAL_STS.PENDING n) (f.due ||| f.forced ||| runMask)).put (RFE_STS.CAL_DUE n) f.req

/-- Duration of calibration step `k` on front end `n`, ns (R50, with FE2's image rejection as in step A1). -/
def calStepNs (n k : Nat) : Nat :=
  match k with
  | 0 => 400000
  | 1 => 240000
  | 2 => 600000
  | 3 => if n = 2 then 3100000 else if n = 3 then 1200000 else 1800000
  | _ => 900000

/-- The order of R50 for the steps of `mask` after step `cur`: those behind it run last (R52). -/
def calOrder (cur mask : Nat) : List Nat :=
  (bitList 5 mask).filter (fun k => cur < k) ++ (bitList 5 mask).filter (fun k => k ≤ cur)

/-- A step begins at `a`, ns of RC: RUNNING names it. -/
def calBegin (n k a : Nat) (s : State) : State :=
  ((s.wr (RFE_CAL_STS.RUNNING n) (k + 1)).put (RFE_CAL_STS.BUSY n) true).modFe n (fun f => { f with stepAt := a })

/-- When the running step ends (R50): its duration after its start. -/
def calStepEnd (s : State) (n : Nat) : Nat := (s.feOf n).stepAt + calStepNs n (s.rd (RFE_CAL_STS.RUNNING n) - 1)

/-- A calibration run of `steps` begins at RC (R42): the front end enters CAL and its first step runs. -/
def calStart (n : Nat) (kind : RunKind) (steps : List Nat) (quietEnd : Nat) (s : State) : State :=
  match steps with
  | [] => s
  | k :: rest =>
    let m := steps.foldl setBit 0
    let s := (feGo n 6 s).wr (RFE_CAL_STS.DONE n) 0
    let s := (s.put (RFE_CAL_STS.ERR n) false).put (RFE_STS.LOCKED n) false
    let s := s.modFe n (fun f => { f with
      run := rest
      runKind := kind
      runStart := s.rc
      quietEnd := quietEnd
      due := f.due &&& (0x1F ^^^ m)
      forced := f.forced &&& (0x1F ^^^ m) })
    calView n (calBegin n k s.rc s)

/-- A synthesizer move of front end `n` to `centre` begins (R46). -/
def moveStart (n centre : Nat) (s : State) : State :=
  let s := ((feGo n 1 s).put (RFE_STS.LOCKED n) false).inc (RFE_SYN_MOVES n)
  replan (s.modFe n (fun f => { f with tuned := centre, moveAt := s.rc }))

/-- The pending window move of front end `n` starts (R47). -/
def pendMove (n : Nat) (s : State) : State :=
  let s := s.put (RFE_SYN_STS.MOVE_PEND n) false
  moveStart n (s.rd (RFE_TUNE.CENTRE n)) (s.modFe n (fun f => { f with failedOnce := false }))

/-- Front end `n` returns from a cover to its own CENTRE (R54, R55): the latest one written, so that no further move waits (R47). -/
def moveHome (n : Nat) (s : State) : State := pendMove n (s.modFe n (fun f => { f with homeDue := false }))

/-- Front end `n` has reached RX: held FORCE steps start at once (R52), and a return from a cover that waited starts after them. Without the
ASN a pending move starts within 1 µs of this by its own command. -/
def feReachRx (n : Nat) (s : State) : State :=
  let s := (s.wr (RFE_STS.STATE n) 2).put (RFE_STS.LOCKED n) true
  let f := (s.feOf n).forced
  if f != 0 then calStart n .forced (bitList 5 f) 0 (s.modFe n (fun x => { x with forced := 0 }))
  else if (s.feOf n).homeDue then moveHome n s
  else s

/-- Front end `n` is back in RX after a run: a window move that was written meanwhile starts now, with or without the ASN (R47). -/
def calBack (n : Nat) (s : State) : State :=
  let s := feReachRx n s
  if s.flag (RFE_SYN_STS.MOVE_PEND n) && feState s n = 2 then pendMove n s else s

/-! Duty cycle (R62, R63) -/

/-- Length of region `r`'s window, seconds. -/
def dcWindowS (s : State) (r : Nat) : Nat := [1, 10, 60, 360, 3600].getD (s.rd (RFE_DC_CFG.WINDOW (r / 4) (r % 4))) 3600

/-- The enabled regions that the interval from `lo2` to `hi2`, in half kHz, overlaps (R62). -/
def dcRegions (s : State) (lo2 hi2 : Nat) : List Nat :=
  (List.range 16).filter (fun r =>
    let lo := s.rd (RFE_DC_LO.LO_KHZ (r / 4) (r % 4)) * 2
    let hi := s.rd (RFE_DC_HI.HI_KHZ (r / 4) (r % 4)) * 2
    s.flag (RFE_DC_CFG.EN (r / 4) (r % 4)) && lo < hi && max lo lo2 < min hi hi2)

/-- The regions that a channel's occupied bandwidth overlaps (R40, R62). -/
def dcOverlap (s : State) (c : TxCmd) : List Nat := dcRegions s (c.centre * 2 - c.spacing) (c.centre * 2 + c.spacing)

/-- Air time in the 60 buckets of region `r`'s window, ns. -/
def dcUsedNs (s : State) (r : Nat) : Nat :=
  let d := s.dcOf r
  (d.buckets.filter (fun b => b.1 ≤ d.cur && d.cur < b.1 + 60)).foldl (fun a b => a + b.2) 0

/-- `used` ns exceed share `p` (0.01 %) of region `r`'s window. -/
def dcExceeds (s : State) (r used p : Nat) : Bool := p * dcWindowS s r * 100000 < used

/-- R63: the frame or beacon (`ack` false), or the ack, of air time `air` ns is refused by some region it overlaps. -/
def dcRefuses (s : State) (regs : List Nat) (air : Nat) (ack : Bool) : Bool :=
  regs.any (fun r =>
    let lim := s.rd (RFE_DC_CFG.LIMIT (r / 4) (r % 4))
    let res := s.rd (RFE_DC_CFG.ACK_RES (r / 4) (r % 4))
    dcExceeds s r (dcUsedNs s r + air) (if ack then lim else lim - res))

/-- USED follows the buckets; DC_NEAR sets when it reaches 90 % of LIMIT (R63). DESIGN CHOICE (log entry 29): a write of WINDOW or LIMIT leaves
the buckets and USED as they are until the next charge or advance. -/
def dcView (r before : Nat) (s : State) : State :=
  let u := dcUsedNs s r
  let lim := s.rd (RFE_DC_CFG.LIMIT (r / 4) (r % 4))
  let w := dcWindowS s r * 1000000000
  let s := s.wr (RFE_DC_USED.USED (r / 4) (r % 4)) (min (u * 10000 / w) 10000)
  if before * 100000 < w * lim * 9 && w * lim * 9 ≤ u * 100000 then raise (Irq.RFE_DC_NEAR (r / 4)) s else s

/-- Add `ns` to bucket `b`. -/
def addBucket (b ns : Nat) : List (Nat × Nat) → List (Nat × Nat)
  | [] => [(b, ns)]
  | (c, v) :: l => if c = b then (c, v + ns) :: l else (c, v) :: addBucket b ns l

/-- Air time from `a` to `e`, ns of RC, charged to region `r`, split over the buckets it falls in (R63). -/
def dcCharge (r a e : Nat) (s : State) : State :=
  let d := s.dcOf r
  let before := dcUsedNs s r
  let w := dcWindowS s r * 1000000000 / 60
  let part (j : Nat) : Nat :=
    let b0 := d.start + j * w
    let b1 := b0 + w
    (if j = 0 then min e b1 - a else min e b1 - max a b0)
  let js := List.range ((e - d.start) / (max w 1) + 1)
  let bs := js.foldl (fun l j => if part j = 0 then l else addBucket (d.cur + j) (part j) l) d.buckets
  dcView r before { s with dc := Store.put {} s.dc r { d with buckets := bs } }

/-- The regions a carrier of RFE_TX_TEST on front end `n` lies in. DESIGN CHOICE (log entry 29): a carrier counts as half a kHz wide from its
frequency upwards. -/
def cwRegions (s : State) (n : Nat) : List Nat :=
  let ofs := sgn 20 (s.rd (RFE_TX_TEST.OFFSET n))
  let f := ((centreOf s n : Int) + ofs).toNat * 2
  dcRegions s f (f + 1)

/-- A running carrier is charged up to RC (R63). -/
def cwCharge (n : Nat) (s : State) : State :=
  let f := s.feOf n
  if f.cw && feState s n = 4 && f.cwAt < s.rc then
    let s := s.each (cwRegions s n) (fun r s => dcCharge r f.cwAt s.rc s)
    s.modFe n (fun f => { f with cwAt := s.rc })
  else s

/-- Time passes up to `t`, and carriers are charged as they run (R63): the beginning of every command that reads or adds to USED. -/
def State.air (s : State) (t : Nat) : State := (s.at t).each (List.range 4) cwCharge

/-- RFE_TX_AIR of front end `n` counts the microseconds sent up to RC of the transmission in progress (R66). -/
def airCount (n : Nat) (s : State) : State :=
  let f := s.feOf n
  let last := if f.cw then s.rc else min s.rc (f.firstSym + (f.tx.map (·.air)).getD 0)
  let us := (last - f.firstSym) / 1000
  if feState s n = 4 && f.airDone < us then (s.addSat (RFE_TX_AIR.AIR n) (us - f.airDone)).modFe n (fun f => { f with airDone := us }) else s

/-! Covers (R54, R55) -/

/-- The front ends' covers are in progress (R54): at most one. -/
def coverOn (s : State) : Bool := s.rd (RFE_COVER_STS.PHASE 0) != 0 || s.rd (RFE_COVER_STS.PHASE 1) != 0

/-- Set the cover phase on both siblings (R54). -/
def coverPhase (p : Nat) (s : State) : State := (s.wr (RFE_COVER_STS.PHASE 0) p).wr (RFE_COVER_STS.PHASE 1) p

/-- The window of `n` is again served by its own front end. -/
def coverUnlink (n : Nat) (s : State) : State :=
  (s.put (RFE_STS.COVERED n) false).put (RFE_STS.COVERING (sibling n)) false

/-- The covering front end `c` returns to its own CENTRE (R54, phase 3; R55), from SETTLE or RX at once; in OFF there is nothing to return.
DESIGN CHOICE (log entry 29): the oscillator step of a retried move runs on and the move is then retried towards its own CENTRE; a
transmission or a run completes first, and the return starts when the front end is back in RX. -/
def coverReturn (c : Nat) (s : State) : State :=
  let s := s.modFe c (fun f => { f with rejoin := true })
  match feState s c with
  | 0 => s.modFe c (fun f => { f with rejoin := false })
  | 1 | 2 => moveHome c s
  | _ =>
    if (s.feOf c).oscStep then
      (s.put (RFE_SYN_STS.MOVE_PEND c) false).modFe c (fun f => { f with tuned := s.rd (RFE_TUNE.CENTRE c), failedOnce := false })
    else s.modFe c (fun f => { f with homeDue := true })

/-- A cover ends under R55: ABORTED sets on both, the phase clears, and no front end covers. -/
def coverAbort (s : State) : State :=
  let s := (s.put (RFE_COVER_STS.ABORTED 0) true).put (RFE_COVER_STS.ABORTED 1) true
  coverPhase 0 ((s.modFe 0 (fun f => { f with covers := false })).modFe 1 (fun f => { f with covers := false }))

/-- Front end `n` ends in OFF (R42, R43): what it sends is cut, its air time so far counted and charged (R63, R66); transmissions it holds are
dropped at their deadlines (R48); its run is stopped and its steps go back to waiting (R55). -/
def feOff (n : Nat) (s : State) : State :=
  let s := feGo n 0 (airCount n (cwCharge n s))
  let f := s.feOf n
  let m := f.run.foldl setBit 0
  let s := s.modFe n (fun f => { f with
    run := []
    runKind := .none
    due := f.due ||| (if f.runKind = .startup || f.runKind = .forced then 0 else m &&& (0x1F ^^^ f.forced))
    forced := f.forced ||| (if f.runKind = .startup || f.runKind = .forced then m else 0)
    waitBack := false
    oscStep := false
    failedOnce := false
    offPend := false
    homeDue := false
    rejoin := false
    tx := none
    cw := false })
  let s := s.modFe n (fun f => { f with req := f.due != 0, asked := if f.due = 0 then 0 else f.asked })
  let l : Lane := Store.find {} s.lanes n
  let s := s.when (!(s.feOf n).txq.any (fun c => c.kind = .ack)) (fun s => { s with lanes := Store.put {} s.lanes n { l with burst := none } })
  let s := ((s.wr (RFE_CAL_STS.RUNNING n) 0).put (RFE_CAL_STS.BUSY n) false).put (RFE_STS.LOCKED n) false
  calView n (s.put (RFE_SYN_STS.MOVE_PEND n) false)

/-- R55: what a write of EN as 0 to front end `n`, or the loss of it, does to a cover it takes part in. -/
def coverResolve (n : Nat) (s : State) : State :=
  if 1 < n || !coverOn s then s
  else
    let o := sibling n
    let p := s.rd (RFE_COVER_STS.PHASE n)
    if (s.feOf n).covers then
      if p = 1 then coverAbort s
      else if p = 2 then
        let s := coverAbort (coverUnlink o s)
        s.modFe o (fun f => { f with waitBack := f.waitBack || feState s o = 6 })
      else
        ((coverPhase 0 s).when (!s.flag (RFE_COVER_STS.ABORTED n)) (fun s => s.inc (RFE_COVER_STS.COUNT o))).modFe n
          (fun f => { f with covers := false })
    else if p = 1 then
      coverReturn o ((coverAbort s).modFe o (fun f => { f with covers := false }))
    else if p = 2 then
      -- the next tick serves as the handback tick; the other front end goes on covering until then
      (s.put (RFE_COVER_STS.ABORTED 0) true).put (RFE_COVER_STS.ABORTED 1) true
    else s

/-- Front end `n` goes to OFF at once: receive stops, its cover is resolved (R42, R55). -/
def feStop (n : Nat) (s : State) : State := feOff n (coverResolve n s)

/-- No step of front end `n` runs any more; its run took until `e`, ns of RC (RFE_CAL_TIME). -/
def calIdle (n e : Nat) (s : State) : State :=
  let f := s.feOf n
  let s := (s.wr (RFE_CAL_STS.RUNNING n) 0).put (RFE_CAL_STS.BUSY n) false
  let s := s.wr (RFE_CAL_TIME.LAST n) (min ((e - f.runStart) / 1000) 65535)
  s.modFe n (fun f => { f with runKind := .none, startupDone := f.startupDone || f.runKind = .startup, req := f.due != 0, asked := if f.due = 0 then 0 else f.asked })

/-- Every requested step of the run of front end `n` has completed, the last one at `e` (R42, R51). -/
def calEnd (n e : Nat) (s : State) : State :=
  let back := (s.feOf n).waitBack
  let s := (s.wr (RFE_TEMP.AT_CAL n) (s.rd (RFE_TEMP.NOW n))).inc (RFE_CAL_DONE n)
  let s := calView n (calIdle n e (raise (Irq.RFE_CAL_DONE n) s))
  if s.flag (RFE_STS.COVERED n) then (s.put (RFE_STS.LOCKED n) true).modFe n (fun f => { f with waitBack := true })
  else if back then s.put (RFE_STS.LOCKED n) true
  else calBack n s

/-- A quiet run of front end `n` is over with steps left, which wait for the next one (R53): nothing has completed. -/
def calPause (n e : Nat) (s : State) : State := calBack n (calView n (calIdle n e s))

/-- The next step of the run of front end `n` begins at `e`, ns of RC, when the one before has ended, or the run ends (R50, R53). In a
quiet run a step that was not forced starts only if it can finish before the run's end; those behind it go back to waiting. -/
def calNext (n e : Nat) (s : State) : State :=
  let f := s.feOf n
  let fits (k : Nat) : Bool := f.runKind != .quiet || f.forced.testBit k || e + calStepNs n k ≤ f.quietEnd
  match f.run with
  | [] => calEnd n e s
  | k :: rest =>
    if fits k then
      let s := s.modFe n (fun f => { f with run := rest, forced := clrBit f.forced k })
      calView n (calBegin n k e s)
    else
      let keep := (k :: rest).filter (fun j => f.forced.testBit j)
      let back := ((k :: rest).filter (fun j => !f.forced.testBit j)).foldl setBit 0
      let s := s.modFe n (fun f => { f with
        run := keep.drop 1
        due := f.due ||| back
        forced := (match keep with | [] => f.forced | j :: _ => clrBit f.forced j) })
      match keep with
      | [] => calPause n e s
      | j :: _ => calView n (calBegin n j e s)

/-- A completed step's coefficients are new: values the spec leaves open, into the entries of RFE_CAL_RES that belong to it. -/
def calResult (n k : Nat) (s : State) : State :=
  let r : Nat × Nat := match k with
    | 0 => (40, 8)
    | 1 => (16, 16)
    | 2 => (32, 8)
    | 3 => (0, 16)
    | _ => (48, 16)
  s.each ((List.range r.2).map (fun j => r.1 + j)) (fun j s => (s.wrFree (RFE_CAL_RES.C0 n j)).wrFree (RFE_CAL_RES.C1 n j))

/-- R54: both siblings allow cover. -/
def coverAllowed (s : State) (n : Nat) : Bool := n < 2 && s.flag (RFE_CTL.COVER_EN 0) && s.flag (RFE_CTL.COVER_EN 1)

/-- R54 at a tick, for calibrating front end `n` and its sibling: phases begin, the handover and the handback. -/
def coverTick (n : Nat) (s : State) : State :=
  let c := sibling n
  if coverAllowed s n && !coverOn s && s.flag (RFE_STS.CAL_DUE n) && feState s n = 2 && feState s c = 2
      && !(s.feOf n).covers && !(s.feOf c).covers && !(s.feOf n).homeDue && !(s.feOf c).homeDue then
    -- phase 1: the sibling settles toward this front end's CENTRE
    let s := ((s.put (RFE_COVER_STS.ABORTED 0) false).put (RFE_COVER_STS.ABORTED 1) false)
    let s := (coverPhase 1 s).modFe c (fun f => { f with covers := true, failedOnce := false })
    moveStart c (s.rd (RFE_TUNE.CENTRE n)) s
  else if (s.feOf c).covers && s.rd (RFE_COVER_STS.PHASE n) = 1 && feState s c = 2 && feState s n = 2 then
    if (s.feOf n).due = 0 then
      -- forced steps have completed the request meanwhile: nothing is left to cover (log entry 29)
      coverReturn c ((coverPhase 0 s).modFe c (fun f => { f with covers := false, failedOnce := false }))
    else
      -- phase 2: the handover; frames in progress on both are discarded
      let s := discardFrames c (coverPhase 2 s)
      let s := calStart n .cover (bitList 5 (s.feOf n).due) 0 s
      (s.put (RFE_STS.COVERED n) true).put (RFE_STS.COVERING c) true
  else if (s.feOf c).covers && s.rd (RFE_COVER_STS.PHASE n) = 2 && ((s.feOf n).waitBack || s.flag (RFE_COVER_STS.ABORTED n)) then
    -- phase 3: the handback, also at the first tick after the calibrating front end was switched off (R55)
    let done := (s.feOf n).waitBack && feState s n = 6
    let s := coverUnlink n (discardFrames c (coverPhase 3 s))
    let s := s.modFe n (fun f => { f with waitBack := false })
    let s := if done then calBack n s else s
    coverReturn c s
  else s

/-- At a tick, a front end that finished its run without cover after one was lost returns to RX (R55). -/
def coverLate (n : Nat) (s : State) : State :=
  if feState s n = 6 && (s.feOf n).waitBack && !s.flag (RFE_STS.COVERED n) && !s.flag (RFE_CAL_STS.BUSY n) then
    calBack n (s.modFe n (fun f => { f with waitBack := false }))
  else s

/-- The start of a quiet run of front end `n` that lasts until `e` (R52, R53, R147): a waiting calibration begins when its first step fits. -/
def quietStart (n e : Nat) (s : State) : State :=
  let steps := bitList 5 (s.feOf n).due
  match steps with
  | [] => s
  | k :: _ =>
    if feState s n = 2 && !coverAllowed s n && s.rc + calStepNs n k ≤ e then
      (calStart n .quiet steps e s).inc (SRC_QUIET_STS.USED n)
    else s

/-! Blanking and the control pins -/

/-- R61: front end `n` sends, or turns to or from it, and blanks. -/
def feBlanks (s : State) (n : Nat) : Bool := 3 ≤ feState s n && feState s n ≤ 5

/-- R61: physical front end `n` is blanked by a front end that transmits. -/
def blanked (s : State) (n : Nat) : Bool :=
  (List.range 4).any (fun m => feBlanks s m && (s.rd (RFE_BLANK.MASK m)).testBit n)

/-- R61: RFE_BLANK.MASK of front end `n` becomes `v`, its own bit set. Where it sends, the front ends that the new bits blank discard their
frames. -/
def blankWrite (n v : Nat) (s : State) : State :=
  let m := v % 16 ||| 2 ^ n
  let old := s.rd (RFE_BLANK.MASK n)
  let s := s.wr (RFE_BLANK.MASK n) m
  s.when (feBlanks s n) (fun s => s.each ((bitList 4 m).filter (fun k => !old.testBit k)) discardFrames)

/-- Front end `n` begins its RX-to-TX turnaround (R42, R44): its frames and those of the front ends it blanks are discarded (R61). -/
def turnStart (n : Nat) (s : State) : State :=
  let s := feGo n 3 (s.modFe n (fun f => { f with airDone := 0 }))
  s.each (bitList 4 (s.rd (RFE_BLANK.MASK n))) discardFrames

/-- A quarter microsecond in ns. -/
def quarterUs (k : Nat) : Nat := k * 250

/-- The interval from the start to the end of the last transmission's pin sequence contains RC + `lead` after its start and RC − `lag`
before its end (R45). -/
def txSpan (s : State) (n lead lag : Nat) : Bool :=
  let f := s.feOf n
  (feState s n = 3 || feState s n = 4 || feState s n = 5) && f.firstSym ≤ s.rc + lead
    && (feState s n != 5 || s.rc < f.lastSym + lag)

/-- Level of FEn_PA_EN (R45, RFE_PA_CTL, RFE_PIN_OVR). -/
def paEnPin (s : State) (n : Nat) : Bool :=
  let act := if s.flag (RFE_PIN_OVR.OVR_EN n) then s.flag (RFE_PIN_OVR.PA_EN n)
    else s.flag (RFE_PA_CTL.EXT_PA n)
      && txSpan s n (quarterUs (s.rd (RFE_PA_CTL.PA_LEAD n))) (4000 + quarterUs (s.rd (RFE_PA_CTL.PA_LAG n)))
  act != s.flag (RFE_PA_CTL.PA_POL n)

/-- Level of FEn_LNA_EN (R45): active in RX, and from 16 µs after the last symbol. DESIGN CHOICE (log entry 29): inactive in OFF, SETTLE and
CAL. -/
def lnaEnPin (s : State) (n : Nat) : Bool :=
  let act := if s.flag (RFE_PIN_OVR.OVR_EN n) then s.flag (RFE_PIN_OVR.LNA_EN n)
    else s.flag (RFE_PA_CTL.EXT_LNA n)
      && (feState s n = 2 || (feState s n = 5 && (s.feOf n).lastSym + 16000 ≤ s.rc))
  act != s.flag (RFE_PA_CTL.LNA_POL n)

/-- Level of FEn_TR (R45): transmit from 34 µs before the first symbol to 15 µs after the last. -/
def trPin (s : State) (n : Nat) : Bool :=
  let act := if s.flag (RFE_PIN_OVR.OVR_EN n) then s.flag (RFE_PIN_OVR.TR n) else txSpan s n 34000 15000
  act != s.flag (RFE_PA_CTL.TR_POL n)

/-- FEn_ANT_SEL (R45, R59). -/
def antSelPin (s : State) (n : Nat) : Nat :=
  if s.flag (RFE_PIN_OVR.OVR_EN n) then s.rd (RFE_PIN_OVR.ANT n)
  else if feState s n = 0 || feState s n = 1 || feState s n = 6 then s.rd (RFE_ANT_CTL.ANT_IDLE n)
  else if txSpan s n 34000 15000 then s.rd (RFE_ANT_CTL.ANT_TX n)
  else s.rd (RFE_ANT_CTL.ANT_RX n)

end Sys2Proof.Machine
end

