-- ==== Sys2Proof/Machine/Radio.lean ====
section
/-!
DEFINITION. The commands of the front ends (R42 to R66).
-/

namespace Sys2Proof.Machine

/-- Front end `n`, enabled, leaves OFF: the start-up sequence on the first enable after a cold reset, else a move to CENTRE (R42, R51). -/
def feLeaveOff (n : Nat) (s : State) : State :=
  let s := s.modFe n (fun f => { f with driven := true, tuned := s.rd (RFE_TUNE.CENTRE n), failedOnce := false })
  if (s.feOf n).startupDone then calView n (moveStart n (s.rd (RFE_TUNE.CENTRE n)) s)
  else replan (calStart n .startup [0, 1, 2, 3, 4] 0 s)

/-- R42: EN is written 1; it acts on a front end in OFF, once the radios are no longer stopped (R386, R388). While the RADIO island runs
from the internal oscillator the radios stay silent, and EN stays 0 as R399 leaves it (R19). -/
def execFeEnable (fe : Fin 4) (t : Nat) (s : State) : Result :=
  let s := s.at t
  if !radioRef s then .next s
  else
    let s := s.put (RFE_CTL.EN fe) true
    .next (if feState s fe = 0 && s.rd CEL_PWR_STS.STATE = 0 then feLeaveOff fe s else s)

/-- R42, R55: EN is written 0. A transmission in progress completes first; otherwise the front end goes to OFF at once. -/
def execFeDisable (fe : Fin 4) (t : Nat) (s : State) : Result :=
  let s := (s.at t).put (RFE_CTL.EN fe) false
  .next
    (if feState s fe = 0 then s
     else if feState s fe = 3 || feState s fe = 4 then s.modFe fe (fun f => { f with offPend := true })
     else replan (feStop fe s))

/-- R42, R46, R54: the synthesizer locks after a move, `us` after its 120 µs, 200 at most. A cover that was aborted is not counted (R55). -/
def execSynLock (fe : Fin 4) (us t : Nat) (s : State) : Result :=
  let s := s.at t
  let due := (s.feOf fe).moveAt + (120 + us) * 1000
  if feState s fe != 1 || 200 < us || !s.within due (due + 1000) then .next s
  else
    let s := (s.wr (RFE_SYN_STS.LAST_LOCK fe) (min us 65535)).modFe fe (fun f => { f with failedOnce := false })
    let s := if (s.feOf fe).covers && s.rd (RFE_COVER_STS.PHASE fe) = 3 then
        let s := (coverPhase 0 s).modFe fe (fun f => { f with covers := false })
        s.when (!s.flag (RFE_COVER_STS.ABORTED fe)) (fun s => s.inc (RFE_COVER_STS.COUNT (sibling fe)))
      else s
    .next (replan (feReachRx fe s))

/-- R42: no lock 200 µs after the 120 µs move. The first failure of a move runs the oscillator step and the move is retried; the second
ends in OFF with RFE_LOCK_FEn. -/
def execSynLockTimeout (fe : Fin 4) (t : Nat) (s : State) : Result :=
  let s := s.at t
  if feState s fe != 1 || !s.reached ((s.feOf fe).moveAt + 320000) then .next s
  else
    let s := s.inc (RFE_LOCK_FAIL fe)
    if !(s.feOf fe).failedOnce then
      let s := s.modFe fe (fun f => { f with failedOnce := true, oscStep := true })
      .next (calBegin fe 0 s.rc (feGo fe 6 s))
    else
      let s := (feStop fe s).put (RFE_CTL.EN fe) false
      .next (replan (faultEvent (64 + fe) {} (raise (Irq.RFE_LOCK_FAIL fe) s)))

/-- R39: a window centre of front end `n`, rounded down to a multiple of 100 kHz and clamped. -/
def centreClamp (n khz : Nat) : Nat :=
  let r := khz % 2 ^ 22 / 100 * 100
  if n = 3 then clampN 420000 500000 r else clampN 770000 940000 r

/-- R39, R47: CENTRE of front end `n` is written; FE2 ignores it. -/
def tuneWrite (n khz : Nat) (s : State) : State :=
  if n = 2 then s
  else
    let s := s.wr (RFE_TUNE.CENTRE n) (centreClamp n khz)
    if feState s n = 0 then replan s else s.put (RFE_SYN_STS.MOVE_PEND n) true

/-- R39, R47: RFE_TUNE is written. -/
def execRfeTuneWrite (fe : Fin 4) (khz t : Nat) (s : State) : Result := .next (tuneWrite fe khz (s.at t))

/-- R47: a pending move starts in RX: at the ASN tick, or within 1 µs while the ASN does not run. DESIGN CHOICE (log entry 29): a CENTRE written
while the front end covers its sibling waits, MOVE_PEND set, for the end of the cover; the return goes to it and clears MOVE_PEND. -/
def execSynMoveStart (fe : Fin 4) (t : Nat) (s : State) : Result :=
  let s := s.at t
  let onTick := !asnRuns s || s.rc = s.mac.tickAt
  .next (if s.flag (RFE_SYN_STS.MOVE_PEND fe) && feState s fe = 2 && onTick && !(s.feOf fe).covers then pendMove fe s else s)

/-- The listen time and the thresholds of the regions that ask for listen-before-talk on this channel (R64): ns, and dBm. -/
def lbtNeeds (s : State) (c : TxCmd) : Nat × List Int :=
  let rs := (dcOverlap s c).filter (fun r => s.flag (RFE_DC_CFG.LBT_EN (r / 4) (r % 4)))
  (rs.foldl (fun m r => max m (s.rd (RFE_DC_LO.LBT_MIN (r / 4) (r % 4)) * 10000)) 0,
   rs.map (fun r => s.rdS (RFE_DC_HI.LBT_THR (r / 4) (r % 4))))

/-- The CCA time of the cell's slot template, ns; 0 without CCA (R95). -/
def ccaNs (s : State) (c : TxCmd) : Nat := if s.flag (MAC_TT_CCA.CCA_EN c.tt) then s.rd (MAC_TT_CCA.CCA_LEN c.tt) * 1000 else 0

/-- A listen or a CCA applies to this transmission (R64): never to an ack. -/
def listens (s : State) (c : TxCmd) : Bool :=
  c.kind != .ack && (!(lbtNeeds s c).2.isEmpty || s.flag (MAC_TT_CCA.CCA_EN c.tt))

/-- The transmission with the next deadline on front end `n`. -/
def txNext (s : State) (n : Nat) : Option TxCmd := (s.feOf n).txq.head?

/-- The transmission is not started; its frame keeps its place in its queue (R41, R48, R63, R64). A burst that is not started is over. -/
def txDrop (n : Nat) (s : State) : State :=
  let ack : Bool := match txNext s n with | some c => c.kind = .ack | none => false
  let s := s.modFe n (fun f => { f with txq := f.txq.drop 1 })
  let l : Lane := Store.find {} s.lanes n
  if ack then { s with lanes := Store.put {} s.lanes n { l with burst := none } } else s

/-- ceil(40 × log10 n), the share that each of `n` acks gives up, in CODE steps (R113). -/
def burstCodes (n : Nat) : Nat := ((List.range 64).filter (fun k => 10 ^ k < n ^ 40)).length

/-- R112, R113: at the turnaround start the members of the burst are fixed, and with them the power of each ack. -/
def burstFix (n : Nat) (s : State) : State :=
  let l : Lane := Store.find {} s.lanes n
  match l.burst with
  | none => s
  | some b =>
    let m := min (s.rd MAC_ACK_CFG.ACK_MAX) (burstEnds s n b).length
    let s := { s with lanes := Store.put {} s.lanes n { l with burst := some { b with members := some m } } }
    let s := s.modFe n (fun f => { f with tx := f.tx.map (fun c => { c with cut := burstCodes m }) })
    (s.inc MAC_ACK_BURSTS.COUNT).peak MAC_BURST_PEAK.PEAK m

/-- A refusal by a duty-cycle region is counted (R63). -/
def dcBlocked (n : Nat) (ack : Bool) (s : State) : State := if ack then s.inc (RFE_DC_ACK_BLOCK n) else s.inc (RFE_DC_BLOCK n)

/-- The listen and CCA of R64 find the channel busy; the levels, with RFE_RSSI_OFS added (R66), are compared in 0.25 dB and recorded in whole
dBm, rounded down (log entry 29). A measurement that would begin before the slot's tick refuses the transmission and records nothing. -/
def listenBusy (n : Nat) (c : TxCmd) (lbtEd ccaEd : Int) (s : State) : Bool × State :=
  let (ln, thr) := lbtNeeds s c
  let cn := ccaNs s c
  let early := (!thr.isEmpty && c.deadline < s.mac.tickAt + ln) || (s.flag (MAC_TT_CCA.CCA_EN c.tt) && c.deadline < s.mac.tickAt + cn)
  if early then (true, s)
  else
    let level (ed : Int) : Int := ed * 4 + s.rdS (RFE_RSSI_OFS.OFS n)
    let busy := thr.any (fun x => x * 4 < level lbtEd) || (s.flag (MAC_TT_CCA.CCA_EN c.tt) && s.rdS (MAC_TT_CCA.CCA_THR c.tt) * 4 < level ccaEd)
    let ed := if thr.isEmpty || (ln < cn) then ccaEd else lbtEd
    (busy, (s.wrS (RFE_LBT_STS.LAST_ED n) (clampI (-128) 127 (level ed / 4))).put (RFE_LBT_STS.LAST_BUSY n) busy)

/-- The transmission is accepted at its deadline: charged to every region it overlaps, counted as an attempt, and its turnaround starts
(R42, R63, R107) with the power its entry holds now (R56). Each ack of a burst was checked and charged at its own commit point (R111); the
burst's members are fixed here. -/
def txAccept (n : Nat) (c : TxCmd) (s : State) : State :=
  let f0 := c.deadline + 36000
  let s := if c.kind = .ack then s else s.each (dcOverlap s c) (fun r s => dcCharge r f0 (f0 + c.air) s)
  let s := s.modFe n (fun f => { f with txq := f.txq.drop 1, tx := some c, firstSym := f0, lastSym := f0 + c.air })
  let s := if c.kind = .ack then burstFix n s else s
  let s := s.modFe n (fun f => { f with tx := f.tx.map (fun c => { c with code := s.rd (RFE_PWR_TBL.CODE n c.pix) - c.cut }) })
  let s := match c.kind, c.nix with
    | .frame, some x => (s.modNode x (fun r => { r with txAtt := (r.txAtt + 1) % 2 ^ 32 })).inc (MAC_W_TX_ATT c.ward)
    | _, _ => s
  turnStart n s

/-- R48, R49, R41, R63, R64 at the next transmit deadline of front end `fe`; `lbtEd` and `ccaEd` are the energies, dBm at the port, that the
listen and the CCA have measured. Nothing starts before its deadline or after it, nor without the RADIO island's reference (R19). -/
def execTransmitDeadline (fe : Fin 4) (lbtEd ccaEd : Int) (t : Nat) (s : State) : Result :=
  let s := s.air t
  let n := fe.val
  match txNext s n with
  | none => .next s
  | some c =>
    if !s.reached c.deadline then .next s
    else if c.refused then .next (txDrop n s)
    else if !s.flag (RFE_CTL.TX_EN n) || !inSpan n (centreOf s n) c.centre c.spacing then
      .next (txDrop n (s.inc (RFE_TX_OUTSIDE n)))
    else if feState s n != 2 || !s.flag (RFE_STS.LOCKED n) || !s.within c.deadline (c.deadline + 1) || !radioRef s then
      .next (txDrop n (raise (Irq.RFE_TX_LATE n) (s.inc (RFE_TX_LATE n))))
    else if listens s c then
      if !c.checked && dcRefuses s (dcOverlap s c) c.air false then .next (txDrop n (dcBlocked n false s))
      else
        let (busy, s) := listenBusy n c lbtEd ccaEd s
        .next (if busy then txDrop n (s.inc (RFE_LBT_BUSY n)) else txAccept n c s)
    else if c.kind != .ack && dcRefuses s (dcOverlap s c) c.air false then .next (txDrop n (dcBlocked n false s))
    else .next (txAccept n c s)

/-- When the transmission in progress on front end `n` ends, ns of RC: its air time after its first symbol; a carrier ends when CW_EN is
cleared. -/
def txDone (s : State) (n : Nat) : Nat :=
  let f := s.feOf n
  if f.cw then max f.firstSym s.rc else f.firstSym + (f.tx.map (·.air)).getD 0

/-- The last symbol is sent (R42): the air time and the transmission are counted, and the PA ramps down. Closing the ack window and the
lane's bookkeeping follow from the record of what was sent. A carrier cleared before its first symbol has sent nothing to count. DESIGN
CHOICE (log entry 29): where EN was written 0 meanwhile, the transmission is complete with its last symbol, so the front end enters OFF
there and its pins drop at once, without the TX-to-RX turnaround of R45. -/
def txEnd (n : Nat) (s : State) : State :=
  let s := cwCharge n s
  let first := (s.feOf n).firstSym
  let last := txDone s n
  let s := if first < last then
      (s.addSat (RFE_TX_AIR.AIR n) ((last - first) / 1000 - (s.feOf n).airDone)).inc (RFE_TX_FRAMES n)
    else s
  let s := (s.wr (RFE_STS.STATE n) 5).modFe n (fun f => { f with lastSym := last, cw := false })
  if (s.feOf n).offPend then
    let s := feStop n s
    replan (if s.flag (RFE_CTL.EN n) then feLeaveOff n s else s)
  else s

/-- R44: 36 µs have passed and the first symbol is at the antenna port. A carrier whose CW_EN has been cleared meanwhile ends at once (R42,
R66). -/
def execRxTxTurnaroundEnd (fe : Fin 4) (t : Nat) (s : State) : Result :=
  let s := s.at t
  let n := fe.val
  if feState s n != 3 || !s.reached (s.feOf n).firstSym then .next s
  else
    let s := (s.wr (RFE_STS.STATE n) 4).modFe n (fun f => { f with cwAt := f.firstSym })
    if (s.feOf n).cw && !s.flag (RFE_TX_TEST.CW_EN n) then .next (txEnd n (s.modFe n (fun f => { f with firstSym := s.rc, cwAt := s.rc }))) else .next s

/-- R44: 24 µs after the last symbol the receiver is ready. -/
def execTxRxTurnaroundEnd (fe : Fin 4) (t : Nat) (s : State) : Result :=
  let s := s.at t
  .next (if feState s fe = 5 && s.reached ((s.feOf fe).lastSym + 24000) then feReachRx fe (s.modFe fe (fun f => { f with tx := none })) else s)

/-- The front transmission of a queue becomes `c`. -/
def txSet (c : TxCmd) (l : List TxCmd) : List TxCmd := c :: l.drop 1

/-- When the listen or CCA interval of a transmission begins, ns of RC: the longer of the two before its deadline (R64). -/
def listenStart (s : State) (c : TxCmd) : Nat := c.deadline - max (lbtNeeds s c).1 (ccaNs s c)

/-- R64: a listen or CCA interval begins. The duty-cycle check is made here, and only here; nothing is measured for a transmission it refuses.
A transmission that its lane presents later than that is checked at its deadline. -/
def execLbtListenStart (fe : Fin 4) (t : Nat) (s : State) : Result :=
  let s := s.air t
  let n := fe.val
  match txNext s n with
  | none => .next s
  | some c =>
    if !listens s c || c.checked || c.refused || !s.within (listenStart s c) (listenStart s c + 1) then .next s
    else if dcRefuses s (dcOverlap s c) c.air false then
      .next ((dcBlocked n false s).modFe n (fun f => { f with txq := txSet { c with refused := true } f.txq }))
    else .next (s.modFe n (fun f => { f with txq := txSet { c with checked := true } f.txq }))

/-- Calibration steps are requested without FORCE (R51, R52): they wait for cover or a quiet run. -/
def calRequest (n steps : Nat) (s : State) : State :=
  let m := steps % 32
  if m = 0 then s
  else
    let s := s.modFe n (fun f => { f with due := f.due ||| m, req := true, dueAt := if f.req then f.dueAt else s.rc, asked := (if f.req then f.asked else 0) ||| m })
    calView n s

/-- The steps that the temperature trigger asks for (R51): AUTO_MASK, less those that the outstanding request has asked for. -/
def autoSteps (s : State) (n : Nat) : Nat :=
  s.rd (RFE_CAL_CFG.AUTO_MASK n) &&& (if (s.feOf n).req then 0x1F ^^^ (s.feOf n).asked else 0x1F)

/-- R52: RFE_CAL_CMD is written without FORCE. -/
def execRfeCalCmd (fe : Fin 4) (steps t : Nat) (s : State) : Result := .next (calRequest fe steps (s.at t))

/-- R52: RFE_CAL_CMD is written with FORCE: at once in RX, joined to the run in CAL, held elsewhere. DESIGN CHOICE (log entry 29): the
oscillator step of a retried move (R42) is no run that steps could join, so the steps are held until RX. -/
def execRfeCalForce (fe : Fin 4) (steps t : Nat) (s : State) : Result :=
  let s := s.at t
  let n := fe.val
  let m := steps % 32
  if m = 0 then .next s
  else if feState s n = 2 then .next (calStart n .forced (bitList 5 m) 0 s)
  else if feState s n = 6 && s.flag (RFE_CAL_STS.BUSY n) && !(s.feOf n).oscStep then
    let cur := s.rd (RFE_CAL_STS.RUNNING n) - 1
    let old := (s.feOf n).run.foldl setBit 0
    .next (calView n (s.modFe n (fun f => { f with run := calOrder cur (old ||| m), forced := f.forced ||| m })))
  else .next (calView n (s.modFe n (fun f => { f with forced := f.forced ||| m })))

/-- R50, R42: the running step completes, its duration after its start; `ok` is false when its result lies outside its limits and the coefficients are kept. The
oscillator step of a retried move only retries the move. -/
def execCalStepDone (fe : Fin 4) (ok : Bool) (t : Nat) (s : State) : Result :=
  let s := s.at t
  let n := fe.val
  let e := calStepEnd s n
  if feState s n != 6 || !s.flag (RFE_CAL_STS.BUSY n) || !s.reached e then .next s
  else if (s.feOf n).oscStep then
    let s := (s.wr (RFE_CAL_STS.RUNNING n) 0).put (RFE_CAL_STS.BUSY n) false
    .next (moveStart n (s.feOf n).tuned (s.modFe n (fun f => { f with oscStep := false })))
  else
    let k := s.rd (RFE_CAL_STS.RUNNING n) - 1
    let s := s.wr (RFE_CAL_STS.DONE n) (setBit (s.rd (RFE_CAL_STS.DONE n)) k)
    let s := if ok then calResult n k s else raise (Irq.RFE_CAL_ERR n) (s.put (RFE_CAL_STS.ERR n) true)
    .next (replan (calNext n (if s.tsu.rcOn then e else s.rc) s))

/-- R51: the sensor is sampled; the trigger requests AUTO_MASK when the temperature has moved by TEMP_THR since the last run, also during a
run. While a request is outstanding the steps it has asked for are not asked for again. -/
def execRfeTempSample (fe : Fin 4) (celsius : Int) (t : Nat) (s : State) : Result :=
  let n := fe.val
  let s := (s.at t).wrS (RFE_TEMP.NOW n) (clampI (-128) 127 celsius)
  let moved := (s.rdS (RFE_TEMP.NOW n) - s.rdS (RFE_TEMP.AT_CAL n)).natAbs
  .next (if s.flag (RFE_CTL.AUTO_CAL n) && s.rd (RFE_CAL_CFG.TEMP_THR n) ≤ moved then calRequest n (autoSteps s n) s else s)

/-- R53: a request has not completed STARVE_S seconds after it was made. -/
def execCalStarveTimeout (fe : Fin 4) (t : Nat) (s : State) : Result :=
  let s := s.at t
  let f := s.feOf fe
  .next (if f.req && f.dueAt + s.rd (RFE_CAL_CFG.STARVE_S fe) * 1000000000 ≤ s.rc then raise (Irq.RFE_CAL_STARVED fe) s else s)

/-- R63: the window of a region advances by one bucket, when the current one's interval is over. -/
def execDcBucketAdvance (region : Fin 16) (t : Nat) (s : State) : Result :=
  let r := region.val
  let s := s.air t
  let d := s.dcOf r
  let w := dcWindowS s r * 1000000000 / 60
  let before := dcUsedNs s r
  if !s.reached (d.start + w) then .next s
  else
    let d := { d with start := d.start + w, cur := d.cur + 1, buckets := d.buckets.filter (fun b => d.cur < b.1 + 59) }
    .next (dcView r before { s with dc := Store.put {} s.dc r d })

/-- R60: gain changes by 1 dB towards an ADC peak of BACKOFF dB below full scale, and the step is tagged with its `sample` index; increases
come no faster than one in DECAY_MS; FREEZE holds it. `peak` is the ADC peak of the last 1 ms, dBFS. -/
def execAgcGainStep (fe : Fin 4) (peak : Int) (sample t : Nat) (s : State) : Result :=
  let n := fe.val
  let s := (s.at t).wrS (RFE_AGC_STS.PEAK n) (clampI (-128) 0 peak)
  let g := s.rd (RFE_AGC_STS.GAIN n)
  let target : Int := -(s.rd (RFE_AGC_CFG.BACKOFF n))
  let up : Bool := s.rdS (RFE_AGC_STS.PEAK n) < target
  let slow := up && s.rc < (s.feOf n).gainUp + s.rd (RFE_AGC_CFG.DECAY_MS n) * 1000000
  if s.flag (RFE_AGC_CFG.FREEZE n) || s.rdS (RFE_AGC_STS.PEAK n) = target || slow || (up && 72 ≤ g) || (!up && g = 0) then .next s
  else
    let s := (s.wr (RFE_AGC_STS.GAIN n) (if up then g + 1 else g - 1)).inc (RFE_AGC_STS.STEPS n)
    .next (s.modFe n (fun f => { f with gainTag := sample, gainUp := if up then s.rc else f.gainUp }))

/-- R66: RFE_TX_TEST is written. CW_EN starts the carrier only in RX with TX_EN at 1, and ends it in TX when cleared; cleared in the turnaround,
it ends once TX is reached (R42). Regions charge it but never block it; its power is that of its entry as it starts (R56). DESIGN CHOICE
(log entry 29): CW_EN written 1 elsewhere is stored and starts no carrier later. -/
def execRfeTxTestWrite (fe : Fin 4) (cw : Bool) (pix : Nat) (offset : Int) (t : Nat) (s : State) : Result :=
  let n := fe.val
  let half : Int := if n = 2 then 41000 else if n = 3 then 9000 else 19000
  let s := ((s.air t).put (RFE_TX_TEST.CW_EN n) cw).wr (RFE_TX_TEST.PIX n) pix
  let s := s.wrS (RFE_TX_TEST.OFFSET n) (clampI (-half) half offset)
  if cw && feState s n = 2 && s.flag (RFE_CTL.TX_EN n) && radioRef s then
    let s := s.modFe n (fun f => { f with cw := true, cwCode := s.rd (RFE_PWR_TBL.CODE n (s.rd (RFE_TX_TEST.PIX n))), firstSym := s.rc + 36000, tx := none })
    .next (turnStart n s)
  else if !cw && (s.feOf n).cw && feState s n = 4 then .next (txEnd n s)
  else .next s

/-- RFE_TX_AIR is read, with what the transmission in progress has sent, and clears (R66, R12). -/
def execRfeTxAirRead (fe : Fin 4) (requester : Requester) (s : State) : Result :=
  let s := airCount fe s
  .next ((s.answer requester (s.rd (RFE_TX_AIR.AIR fe))).wr (RFE_TX_AIR.AIR fe) 0)

end Sys2Proof.Machine
end

