-- ==== Sys2Proof/Machine/Air.lean ====
section
/-!
DEFINITION. Durations on the air (R70, R74, R105): symbols, synchronisation headers and whole frames, in ns.
The rates are those of R70; octet counts of headers are IEEE 802.15.4's, as R105's example uses them (log entry 12).
-/

namespace Sys2Proof.Machine

/-- PHY class `c` is a SUN-OFDM class (R70). -/
def isOfdm (c : Nat) : Bool := 6 ≤ c && c ≤ 9

/-- Duration of one symbol of the synchronisation header of PHY class `c`, in thirds of a ns (R70, R74): one bit for SUN-FSK, also in
4-FSK. -/
def symNs3 (c : Nat) : Nat := [60000, 30000, 20000, 15000, 30000, 15000, 360000, 360000, 360000, 360000, 48000].getD c 30000

/-- Duration of `k` symbols of PHY class `c`, to the nearest ns. -/
def symsNs (c k : Nat) : Nat := (k * symNs3 c + 1) / 3

/-- Duration of one octet of PHR and PSDU of a PHY class other than OFDM, as a fraction of ns: numerator over 3 (R70). -/
def octetNs3 (c : Nat) : Nat := [480000, 240000, 160000, 120000, 120000, 60000, 0, 0, 0, 0, 96000].getD c 240000

/-- Duration of the synchronisation header up to the RMARKER (R86): preamble and SFD, or the two OFDM training fields. -/
def shrNs (c preLen : Nat) : Nat :=
  if isOfdm c then 720000 else if c = 10 then 160000 else symsNs c (preLen * 8 + 16)

/-- Symbols a slice needs after its claim before the end of the SFD (R74): 8 to acquire, 2 for O-QPSK, and those of the SFD. -/
def acqSyms (c : Nat) : Nat := if isOfdm c then 0 else if c = 10 then 4 else 24

/-- How long a slice in SYNC waits after the detection (R75): PRE_MAX octets, 5 octets, or two STF durations. -/
def sfdWaitNs (c preMax : Nat) : Nat := if isOfdm c then 960000 else if c = 10 then symsNs c 10 else symsNs c (preMax * 8)

/-- Duration of a frame with a PSDU of `n` octets, uncoded, in ns, rounded up (R105). An OFDM frame's is a value the spec leaves open. -/
def airNs (c preLen n : Nat) : Nat :=
  if isOfdm c then Config.ofdmAirNs c n
  else if c = 10 then 160000 + ceilDiv ((1 + n) * octetNs3 c) 3
  else shrNs c preLen + ceilDiv ((2 + n) * octetNs3 c) 3

end Sys2Proof.Machine
end

