-- ==== Sys2Proof/Machine/Crypto.lean ====
section
/-!
DEFINITION. The cryptographic functions that the rules name by their standards: AES (FIPS 197), AES-CMAC (RFC 4493), AES key wrap
(RFC 3394), SHA-256 and SHA-512 (FIPS 180-4), HMAC and HKDF (RFC 2104, RFC 5869), X25519 (RFC 7748), Ed25519 (RFC 8032), CRC-32 (IEEE 802.3) and
CRC-16/CCITT-FALSE (R173). A string is a list of octets, first octet first.
-/

namespace Sys2Proof.Machine

/-- `n` octets of `v`, the lowest first. -/
def leOctets (n v : Nat) : List Nat := (List.range n).map (fun i => v / 256 ^ i % 256)

/-- `n` octets of `v`, the highest first. -/
def beOctets (n v : Nat) : List Nat := (leOctets n v).reverse

/-- The number that octets hold, the lowest first. -/
def leNat (l : List Nat) : Nat := l.foldr (fun o a => o + 256 * a) 0

/-- The number that octets hold, the highest first. -/
def beNat (l : List Nat) : Nat := l.foldl (fun a o => 256 * a + o) 0

/-- Octet-wise exclusive or. -/
def xorOctets (a b : List Nat) : List Nat := List.zipWith (fun x y => x ^^^ y) a b

/-! AES -/

/-- The S-box: octet `x` of one number. -/
def aesSbox (x : Nat) : Nat :=
  0x16BB54B00F2D99416842E6BF0D89A18CDF2855CEE9871E9B948ED9691198F8E19E1DC186B95735610EF6034866B53E708A8BBD4B1F74DDE8C6B4A61C2E2578BA08AE7A65EAF4566CA94ED58D6D37C8E779E4959162ACD3C25C2406490A3A32E0DB0B5EDE14B8EE4688902A22DC4F816073195D643D7EA7C41744975FEC130CCDD2F3FF1021DAB6BCF5389D928F40A351A89F3C507F02F94585334D43FBAAEFD0CF584C4A39BECB6A5BB1FC20ED00D153842FE329B3D63B52A05A6E1B1A2C830975B227EBE28012079A059618C323C7041531D871F1E5A534CCF73F362693FDB7C072A49CAFA2D4ADF04759FA7DC982CA76ABD7FE2B670130C56F6BF27B777C63
    / 256 ^ x % 256

/-- The inverse S-box. -/
def aesSboxInv (x : Nat) : Nat :=
  0x7D0C2155631469E126D677BA7E042B17619953833CBBEBC8B0F52AAE4D3BE0A0EF9CC9939F7AE52D0D4AB519A97F51605FEC8027591012B131C7078833A8DD1FF45ACD78FEC0DB9A2079D2C64B3E56FC1BBE18AA0E62B76F89C5291D711AF1476EDF751CE837F9E28535ADE72274AC9673E6B4F0CECFF297EADC674F4111913A6B8A130103BDAFC1020F3FCA8F1E2CD00645B3B80558E4F70AD3BC8C00ABD890849D8DA75746155EDAB9EDFD5048706C92B6655DCC5CA4D41698688664F6F87225D18B6D49A25B76B224D92866A12E084EC3FA420B954CEE3D23C2A632947B54CBE9DEC444438E3487FF2F9B8239E37CFBD7F3819EA340BF38A53630D56A0952
    / 256 ^ x % 256

/-- Multiplication by x in GF(2^8). -/
def aesDouble (b : Nat) : Nat := if b < 128 then 2 * b else (2 * b) ^^^ 0x11B

/-- Multiplication by a constant below 16 in GF(2^8). -/
def aesMul (c b : Nat) : Nat :=
  let b2 := aesDouble b
  let b4 := aesDouble b2
  let part (k v : Nat) : Nat := if c.testBit k then v else 0
  part 0 b ^^^ part 1 b2 ^^^ part 2 b4 ^^^ part 3 (aesDouble b4)

/-- Each column of a state times the circulant matrix of first row `m`. -/
def aesMix (m st : List Nat) : List Nat :=
  (List.range 16).map (fun i => (List.range 4).foldl (fun a j => a ^^^ aesMul (m.getD j 0) (st.getD (i / 4 * 4 + (i + j) % 4) 0)) 0)

/-- The next word of the key schedule: `k` words of key, `i` words so far (newest first), the round constant of a multiple of `k`. -/
def aesNextWord (k i rcon : Nat) (ws : List (List Nat)) : List Nat :=
  let last := ws.headD []
  let t :=
    if i % k = 0 then xorOctets ((last.drop 1 ++ last.take 1).map aesSbox) [rcon, 0, 0, 0]
    else if k = 8 && i % 8 = 4 then last.map aesSbox
    else last
  xorOctets (ws.getD (k - 1) []) t

/-- The key schedule, newest word first. -/
def aesExpand (k : Nat) : Nat → Nat → Nat → List (List Nat) → List (List Nat)
  | 0, _, _, ws => ws
  | n + 1, i, rcon, ws => aesExpand k n (i + 1) (if i % k = 0 then aesDouble rcon else rcon) (aesNextWord k i rcon ws :: ws)

/-- A list cut into pieces of `n`; `fuel` pieces at most. -/
def cutInto (n : Nat) : Nat → List Nat → List (List Nat)
  | 0, _ => []
  | k + 1, l => if l.isEmpty then [] else l.take n :: cutInto n k (l.drop n)

/-- The round keys of a key of 16 or 32 octets, first round first. -/
def aesRoundKeys (key : List Nat) : List (List Nat) :=
  let k := key.length / 4
  let rounds := k + 7
  cutInto 16 rounds (aesExpand k (4 * rounds - k) k 1 (cutInto 4 k key).reverse).reverse.flatten

/-- AES encryption of one block. -/
def aesEncrypt (key block : List Nat) : List Nat :=
  match aesRoundKeys key with
  | [] => block
  | k0 :: ks =>
    let shift (st : List Nat) : List Nat := (List.range 16).map (fun i => aesSbox (st.getD ((i + 4 * (i % 4)) % 16) 0))
    let st := ks.dropLast.foldl (fun st k => xorOctets (aesMix [2, 3, 1, 1] (shift st)) k) (xorOctets block k0)
    xorOctets (shift st) (ks.getLastD [])

/-- AES decryption of one block. -/
def aesDecrypt (key block : List Nat) : List Nat :=
  match (aesRoundKeys key).reverse with
  | [] => block
  | k0 :: ks =>
    let shift (st : List Nat) : List Nat := (List.range 16).map (fun i => aesSboxInv (st.getD ((i + 12 * (i % 4)) % 16) 0))
    let st := ks.dropLast.foldl (fun st k => aesMix [14, 11, 13, 9] (xorOctets (shift st) k)) (xorOctets block k0)
    xorOctets (shift st) (ks.getLastD [])

/-- Doubling in the field of AES-CMAC. -/
def cmacDouble (l : List Nat) : List Nat :=
  let v := 2 * beNat l
  beOctets 16 (if v < 2 ^ 128 then v else (v - 2 ^ 128) ^^^ 0x87)

/-- AES-CMAC (RFC 4493). -/
def aesCmac (key msg : List Nat) : List Nat :=
  let k1 := cmacDouble (aesEncrypt key (List.replicate 16 0))
  let n := max 1 (ceilDiv msg.length 16)
  let last := msg.drop (16 * (n - 1))
  let m := if last.length = 16 then xorOctets last k1 else xorOctets (last ++ 0x80 :: List.replicate (15 - last.length) 0) (cmacDouble k1)
  (cutInto 16 (n - 1) msg ++ [m]).foldl (fun x b => aesEncrypt key (xorOctets x b)) (List.replicate 16 0)

/-- The initial value of RFC 3394. -/
def kwIv : List Nat := List.replicate 8 0xA6

/-- AES key wrap of 16 octets under `kek` (RFC 3394): 24 octets. -/
def kwWrap (kek key : List Nat) : List Nat :=
  let r := (List.range 12).foldl (fun (a, p, q) t =>
    let b := aesEncrypt kek (a ++ p)
    (xorOctets (b.take 8) (beOctets 8 (t + 1)), q, b.drop 8)) (kwIv, key.take 8, key.drop 8)
  r.1 ++ r.2.1 ++ r.2.2

/-- The inverse of AES key wrap; none when the integrity check fails. -/
def kwUnwrap (kek wrapped : List Nat) : Option (List Nat) :=
  let r := (List.range 12).foldl (fun (a, p, q) t =>
    let b := aesDecrypt kek (xorOctets a (beOctets 8 (12 - t)) ++ q)
    (b.take 8, b.drop 8, p)) (wrapped.take 8, (wrapped.drop 8).take 8, wrapped.drop 16)
  if r.1 = kwIv then some (r.2.1 ++ r.2.2) else none

/-! SHA-512, HMAC, HKDF -/

/-- The round constants. -/
def shaK : List Nat :=
  [0x428A2F98D728AE22, 0x7137449123EF65CD, 0xB5C0FBCFEC4D3B2F, 0xE9B5DBA58189DBBC, 0x3956C25BF348B538, 0x59F111F1B605D019,
    0x923F82A4AF194F9B, 0xAB1C5ED5DA6D8118, 0xD807AA98A3030242, 0x12835B0145706FBE, 0x243185BE4EE4B28C, 0x550C7DC3D5FFB4E2,
    0x72BE5D74F27B896F, 0x80DEB1FE3B1696B1, 0x9BDC06A725C71235, 0xC19BF174CF692694]
  ++ [0xE49B69C19EF14AD2, 0xEFBE4786384F25E3, 0x0FC19DC68B8CD5B5, 0x240CA1CC77AC9C65, 0x2DE92C6F592B0275, 0x4A7484AA6EA6E483,
    0x5CB0A9DCBD41FBD4, 0x76F988DA831153B5, 0x983E5152EE66DFAB, 0xA831C66D2DB43210, 0xB00327C898FB213F, 0xBF597FC7BEEF0EE4,
    0xC6E00BF33DA88FC2, 0xD5A79147930AA725, 0x06CA6351E003826F, 0x142929670A0E6E70]
  ++ [0x27B70A8546D22FFC, 0x2E1B21385C26C926, 0x4D2C6DFC5AC42AED, 0x53380D139D95B3DF, 0x650A73548BAF63DE, 0x766A0ABB3C77B2A8,
    0x81C2C92E47EDAEE6, 0x92722C851482353B, 0xA2BFE8A14CF10364, 0xA81A664BBC423001, 0xC24B8B70D0F89791, 0xC76C51A30654BE30,
    0xD192E819D6EF5218, 0xD69906245565A910, 0xF40E35855771202A, 0x106AA07032BBD1B8]
  ++ [0x19A4C116B8D2D0C8, 0x1E376C085141AB53, 0x2748774CDF8EEB99, 0x34B0BCB5E19B48A8, 0x391C0CB3C5C95A63, 0x4ED8AA4AE3418ACB,
    0x5B9CCA4F7763E373, 0x682E6FF3D6B2B8A3, 0x748F82EE5DEFB2FC, 0x78A5636F43172F60, 0x84C87814A1F0AB72, 0x8CC702081A6439EC,
    0x90BEFFFA23631E28, 0xA4506CEBDE82BDE9, 0xBEF9A3F7B2C67915, 0xC67178F2E372532B]
  ++ [0xCA273ECEEA26619C, 0xD186B8C721C0C207, 0xEADA7DD6CDE0EB1E, 0xF57D4F7FEE6ED178, 0x06F067AA72176FBA, 0x0A637DC5A2C898A6,
    0x113F9804BEF90DAE, 0x1B710B35131C471B, 0x28DB77F523047D84, 0x32CAAB7B40C72493, 0x3C9EBE0A15C9BEBC, 0x431D67C49C100D4C,
    0x4CC5D4BECB3E42B6, 0x597F299CFC657E2A, 0x5FCB6FAB3AD6FAEC, 0x6C44198C4A475817]

/-- The initial hash value. -/
def shaInit : List Nat :=
  [0x6A09E667F3BCC908, 0xBB67AE8584CAA73B, 0x3C6EF372FE94F82B, 0xA54FF53A5F1D36F1,
    0x510E527FADE682D1, 0x9B05688C2B3E6C1F, 0x1F83D9ABFB41BD6B, 0x5BE0CD19137E2179]

/-- A 64-bit word rotated right. -/
def shaRot (n x : Nat) : Nat := x / 2 ^ n + x % 2 ^ n * 2 ^ (64 - n)

/-- The message schedule, newest word first. -/
def shaSchedule : Nat → List Nat → List Nat
  | 0, ws => ws
  | n + 1, ws =>
    let a := ws.getD 1 0
    let b := ws.getD 14 0
    let s1 := shaRot 19 a ^^^ shaRot 61 a ^^^ a / 2 ^ 6
    let s0 := shaRot 1 b ^^^ shaRot 8 b ^^^ b / 2 ^ 7
    shaSchedule n ((s1 + ws.getD 6 0 + s0 + ws.getD 15 0) % 2 ^ 64 :: ws)

/-- One round; `kw`: round constant plus message word. -/
def shaRound (st : List Nat) (kw : Nat) : List Nat :=
  let g (i : Nat) : Nat := st.getD i 0
  let a := g 0
  let e := g 4
  let s1 := shaRot 14 e ^^^ shaRot 18 e ^^^ shaRot 41 e
  let ch := (e &&& g 5) ^^^ ((2 ^ 64 - 1 - e) &&& g 6)
  let t1 := g 7 + s1 + ch + kw
  let s0 := shaRot 28 a ^^^ shaRot 34 a ^^^ shaRot 39 a
  let mj := (a &&& g 1) ^^^ (a &&& g 2) ^^^ (g 1 &&& g 2)
  [(t1 + s0 + mj) % 2 ^ 64, a, g 1, g 2, (g 3 + t1) % 2 ^ 64, e, g 5, g 6]

/-- One block of 128 octets. -/
def shaBlock (h block : List Nat) : List Nat :=
  let ws := (shaSchedule 64 ((cutInto 8 16 block).map beNat).reverse).reverse
  List.zipWith (fun x y => (x + y) % 2 ^ 64) h ((List.zipWith (fun k w => k + w) shaK ws).foldl shaRound h)

/-- SHA-512. -/
def sha512 (msg : List Nat) : List Nat :=
  let n := ceilDiv (msg.length + 17) 128
  let m := msg ++ 0x80 :: List.replicate (128 * n - 17 - msg.length) 0 ++ beOctets 16 (8 * msg.length)
  ((cutInto 128 n m).foldl shaBlock shaInit).flatMap (beOctets 8)

/-! SHA-256: its constants are the high halves of SHA-512's. -/

/-- A 32-bit word rotated right. -/
def shaRot32 (n x : Nat) : Nat := x / 2 ^ n + x % 2 ^ n * 2 ^ (32 - n)

/-- The message schedule, newest word first. -/
def shaSchedule32 : Nat → List Nat → List Nat
  | 0, ws => ws
  | n + 1, ws =>
    let a := ws.getD 1 0
    let b := ws.getD 14 0
    let s1 := shaRot32 17 a ^^^ shaRot32 19 a ^^^ a / 2 ^ 10
    let s0 := shaRot32 7 b ^^^ shaRot32 18 b ^^^ b / 2 ^ 3
    shaSchedule32 n ((s1 + ws.getD 6 0 + s0 + ws.getD 15 0) % 2 ^ 32 :: ws)

/-- One round; `kw`: round constant plus message word. -/
def shaRound32 (st : List Nat) (kw : Nat) : List Nat :=
  let g (i : Nat) : Nat := st.getD i 0
  let a := g 0
  let e := g 4
  let s1 := shaRot32 6 e ^^^ shaRot32 11 e ^^^ shaRot32 25 e
  let ch := (e &&& g 5) ^^^ ((2 ^ 32 - 1 - e) &&& g 6)
  let t1 := g 7 + s1 + ch + kw
  let s0 := shaRot32 2 a ^^^ shaRot32 13 a ^^^ shaRot32 22 a
  let mj := (a &&& g 1) ^^^ (a &&& g 2) ^^^ (g 1 &&& g 2)
  [(t1 + s0 + mj) % 2 ^ 32, a, g 1, g 2, (g 3 + t1) % 2 ^ 32, e, g 5, g 6]

/-- One block of 64 octets. -/
def shaBlock32 (h block : List Nat) : List Nat :=
  let ws := (shaSchedule32 48 ((cutInto 4 16 block).map beNat).reverse).reverse
  let ks := (shaK.take 64).map (fun k => k / 2 ^ 32)
  List.zipWith (fun x y => (x + y) % 2 ^ 32) h ((List.zipWith (fun k w => k + w) ks ws).foldl shaRound32 h)

/-- SHA-256. -/
def sha256 (msg : List Nat) : List Nat :=
  let n := ceilDiv (msg.length + 9) 64
  let m := msg ++ 0x80 :: List.replicate (64 * n - 9 - msg.length) 0 ++ beOctets 8 (8 * msg.length)
  ((cutInto 64 n m).foldl shaBlock32 (shaInit.map (fun h => h / 2 ^ 32))).flatMap (beOctets 4)

/-- HMAC with SHA-512. -/
def hmac512 (key msg : List Nat) : List Nat :=
  let k := if 128 < key.length then sha512 key else key
  let k := k ++ List.replicate (128 - k.length) 0
  sha512 (k.map (fun x => x ^^^ 0x5C) ++ sha512 (k.map (fun x => x ^^^ 0x36) ++ msg))

/-- KDF of R323: HKDF with SHA-512 (RFC 5869), `n` octets of 64 at most. -/
def kdf (key label context : List Nat) (n : Nat) : List Nat := (hmac512 (hmac512 label key) (context ++ [1])).take n

/-! Curve25519 -/

/-- The field's prime. -/
def edP : Nat := 2 ^ 255 - 19

/-- `b` to the power whose low `n` bits are those of `e`, modulo the prime. -/
def edPow : Nat → Nat → Nat → Nat
  | 0, _, _ => 1
  | n + 1, b, e => edPow n (b * b % edP) (e / 2) * (if e % 2 = 1 then b else 1) % edP

/-- The inverse in the field. -/
def edInv (x : Nat) : Nat := edPow 255 x (edP - 2)

/-- The step of the Montgomery ladder for bit `n` of the scalar `k`: (x2, z2, x3, z3). -/
def xLadder (u k : Nat) : Nat → Nat × Nat × Nat × Nat → Nat × Nat × Nat × Nat
  | 0, p => p
  | n + 1, (x2, z2, x3, z3) =>
    let sw := k.testBit n
    let (p, q) := if sw then ((x3, z3), (x2, z2)) else ((x2, z2), (x3, z3))
    let a := p.1 + p.2
    let b := p.1 + edP - p.2
    let aa := a * a % edP
    let bb := b * b % edP
    let e := (aa + edP - bb) % edP
    let da := (q.1 + edP - q.2) * a % edP
    let cb := (q.1 + q.2) * b % edP
    let d := (da + edP - cb) % edP
    let r := (aa * bb % edP, e * (aa + 121665 * e) % edP)
    let t := ((da + cb) * (da + cb) % edP, u * (d * d) % edP)
    xLadder u k n (if sw then (t.1, t.2, r.1, r.2) else (r.1, r.2, t.1, t.2))

/-- A scalar as Curve25519 clamps it. -/
def edClamp (k : Nat) : Nat := k % 2 ^ 254 / 8 * 8 + 2 ^ 254

/-- X25519 (RFC 7748). -/
def x25519 (key point : List Nat) : List Nat :=
  let u := leNat point % 2 ^ 255 % edP
  let r := xLadder u (edClamp (leNat key)) 255 (1, 0, u, 1)
  leOctets 32 (r.1 * edInv r.2.1 % edP)

/-- The constant d of edwards25519. -/
def edD : Nat := (edP - 121665) * edInv 121666 % edP

/-- Addition of two points in extended coordinates (RFC 8032). -/
def edAdd (p q : Nat × Nat × Nat × Nat) : Nat × Nat × Nat × Nat :=
  let (x1, y1, z1, t1) := p
  let (x2, y2, z2, t2) := q
  let a := (y1 + edP - x1) * (y2 + edP - x2) % edP
  let b := (y1 + x1) * (y2 + x2) % edP
  let c := 2 * t1 * edD * t2 % edP
  let d := 2 * z1 * z2 % edP
  let e := b + edP - a
  let f := d + edP - c
  let g := d + c
  let h := b + a
  (e * f % edP, g * h % edP, f * g % edP, e * h % edP)

/-- `k` times point `p`, for the low `n` bits of `k`. -/
def edMul : Nat → Nat → Nat × Nat × Nat × Nat → Nat × Nat × Nat × Nat
  | 0, _, _ => (0, 1, 1, 0)
  | n + 1, k, p =>
    let r := edMul n (k / 2) (edAdd p p)
    if k % 2 = 1 then edAdd p r else r

/-- The base point. -/
def edBase : Nat × Nat × Nat × Nat :=
  let x := 15112221349535400772501151409588531511454012693041857206046113283949847762202
  let y := 4 * edInv 5 % edP
  (x, y, 1, x * y % edP)

/-- A point as 32 octets. -/
def edOctets (p : Nat × Nat × Nat × Nat) : List Nat :=
  let i := edInv p.2.2.1
  leOctets 32 (p.2.1 * i % edP + (p.1 * i % edP) % 2 * 2 ^ 255)

/-- The order of the base point. -/
def edL : Nat := 2 ^ 252 + 27742317777372353535851937790883648493

/-- The Ed25519 public key of a seed. -/
def edPublic (seed : List Nat) : List Nat := edOctets (edMul 255 (edClamp (leNat ((sha512 seed).take 32))) edBase)

/-- The Ed25519 signature of `msg` under a seed (RFC 8032). -/
def edSign (seed msg : List Nat) : List Nat :=
  let h := sha512 seed
  let a := edClamp (leNat (h.take 32))
  let r := leNat (sha512 (h.drop 32 ++ msg)) % edL
  let rp := edOctets (edMul 253 r edBase)
  let k := leNat (sha512 (rp ++ edPublic seed ++ msg))
  rp ++ leOctets 32 ((r + k * a) % edL)

/-- The point that 32 octets encode; none when they encode none (RFC 8032). -/
def edPoint (l : List Nat) : Option (Nat × Nat × Nat × Nat) :=
  let n := leNat l
  let y := n % 2 ^ 255
  let u := (y * y + edP - 1) % edP
  let v := (edD * (y * y) + 1) % edP
  let v3 := v * v % edP * v % edP
  let r := u * v3 % edP * edPow 252 (u * v3 % edP * v3 % edP * v % edP) ((edP - 5) / 8) % edP
  let w := v * r % edP * r % edP
  let root : Option Nat := if w = u then some r else if w = (edP - u) % edP then some (r * edPow 253 2 ((edP - 1) / 4) % edP) else none
  match root with
  | none => none
  | some x =>
    let odd : Bool := 2 ^ 255 ≤ n
    if edP ≤ y || (x = 0 && odd) then none
    else
      let x := if (x % 2 = 1) = odd then x else edP - x
      some (x, y, 1, x * y % edP)

/-- Two points in extended coordinates are one. -/
def edSame (p q : Nat × Nat × Nat × Nat) : Bool :=
  p.1 * q.2.2.1 % edP = q.1 * p.2.2.1 % edP && p.2.1 * q.2.2.1 % edP = q.2.1 * p.2.2.1 % edP

/-- The equation of a signature, R being the octets `r` of point `p` and S `n`, under the octets `key` of point `a` (RFC 8032, with the
cofactor). -/
def edCheck (r key msg : List Nat) (n : Nat) (a p : Nat × Nat × Nat × Nat) : Bool :=
  n < edL && edSame (edMul 4 8 (edMul 253 n edBase)) (edMul 4 8 (edAdd p (edMul 253 (leNat (sha512 (r ++ key ++ msg)) % edL) a)))

/-- `sig` is the Ed25519 signature of `msg` under the public key `key` (RFC 8032). -/
def edVerify (key msg sig : List Nat) : Bool :=
  (edPoint key).any (fun a => (edPoint (sig.take 32)).any (fun p => edCheck (sig.take 32) key msg (leNat (sig.drop 32)) a p))

/-! Checks -/

/-- CRC-32 of IEEE 802.3. -/
def crc32 (l : List Nat) : Nat :=
  l.foldl (fun c o => (List.range 8).foldl (fun c _ => if c % 2 = 1 then c / 2 ^^^ 0xEDB88320 else c / 2) (c ^^^ o)) 0xFFFFFFFF ^^^ 0xFFFFFFFF

/-- CRC-16/CCITT-FALSE. -/
def crc16 (l : List Nat) : Nat :=
  l.foldl (fun c o => (List.range 8).foldl (fun c _ => if c < 0x8000 then 2 * c else (2 * c) ^^^ 0x11021) (c ^^^ o * 256)) 0xFFFF

end Sys2Proof.Machine
end

