-- ==== Sys2Proof/Machine/Frames.lean ====
section
/-!
DEFINITION. The octets of the MAC frames that Bastis sends, up to their payload, and the nonces of CCM* (R114, R115, R117, R152, R153, R166,
R200). Places inside an octet that the rules leave to IEEE 802.15.4-2020 are that standard's (log entry 12).
-/

namespace Sys2Proof.Machine

/-- Addressing mode of an address. -/
def addrMode : Addr → Nat
  | .none => 0
  | .short _ => 2
  | .ext _ => 3

/-- An address on the air. -/
def addrOctets : Addr → List Nat
  | .none => []
  | .short n => leOctets 2 n
  | .ext e => leOctets 8 e

/-- Frame Control of a version 2 frame: type, security, ack request, PAN ID compression, sequence number suppression, IE present, the two
addressing modes. -/
def frameControl (typ : Nat) (sec ar pan sup ie : Bool) (dst src : Nat) : List Nat :=
  leOctets 2 (typ + 8 * ofBool sec + 32 * ofBool ar + 64 * ofBool pan + 256 * ofBool sup + 512 * ofBool ie + 1024 * dst + 4096 * 2 + 16384 * src)

/-- The Key Index octet (R152): generation and KT, 1 pairwise, 2 group. -/
def keyIndex (kt gen : Nat) : Nat := gen % 16 + 16 * (kt % 4)

/-- The auxiliary security header of an Enh-Ack or a beacon (R114, R117, R152): level 1, counter suppressed, ASN in nonce. -/
def auxAsn (kt gen : Nat) : List Nat := [1 + 8 + 32 + 64, keyIndex kt gen]

/-- The auxiliary security header of a data or command frame (R152, R200). -/
def auxFc (level fc kt gen : Nat) : List Nat := (level % 8 + 8) :: (leOctets 4 fc ++ [keyIndex kt gen])

/-- The nonce of a frame that carries a counter (R153). -/
def nonceFc (eui fc level : Nat) : List Nat := beOctets 8 eui ++ beOctets 4 fc ++ [level % 8]

/-- The nonce of an Enh-Ack or a beacon (R153). -/
def nonceAsn (eui asn : Nat) : List Nat := beOctets 8 eui ++ beOctets 5 asn

/-- A header IE: its descriptor and its content. -/
def headerIe (ie : Nat) (content : List Nat) : List Nat := leOctets 2 (content.length + 128 * ie) ++ content

/-- The Enh-Ack up to its MIC (R114 to R116, R166). -/
def ackOctets (oui : Nat) (a : AckItem) : List Nat :=
  frameControl 2 (!a.plain) false true false true (addrMode a.dst) 0 ++ leOctets 1 a.dsn ++ addrOctets a.dst
    ++ (if a.plain then [] else auxAsn 1 a.kgen)
    ++ headerIe 0x1E (leOctets 2 (unsg 12 a.tc))
    ++ (match a.tcx with | some v => headerIe 0 (leOctets 3 oui ++ leOctets 3 (unsg 24 v)) | none => [])
    ++ (match a.rekey with | some g => headerIe 0 (leOctets 3 oui ++ [0x52, g % 16 + 16 * ofBool a.resend.isSome]) | none => [])

/-- The MAC header of a secured data or command frame from 0x0000 (R200). `ie`: its payload begins with IEs, which 6P's does. -/
def dataOctets (dst : Addr) (pan dsn level fc kt gen : Nat) (ar ie : Bool) : List Nat :=
  frameControl 1 true ar true false ie (addrMode dst) 2 ++ leOctets 1 dsn ++ leOctets 2 pan ++ addrOctets dst ++ leOctets 2 0
    ++ auxFc level fc kt gen

/-- A nested IE of an MLME payload IE, in the short form. -/
def shortIe (sub : Nat) (content : List Nat) : List Nat := leOctets 2 (content.length + 256 * sub) ++ content

/-- A nested IE in the long form. -/
def longIe (sub : Nat) (content : List Nat) : List Nat := leOctets 2 (content.length + 2048 * sub + 32768) ++ content

/-- The full Timeslot IE of template `t` (R117): its times in µs, with the air times of the longest frame and of an ack. -/
def timeslotFull (s : State) (t maxTx maxAck : Nat) : List Nat :=
  let len := s.rd MAC_SLOT_LEN.LEN_US
  let ofs := s.rd (MAC_TT_TX.TX_OFS t)
  let g := s.rd (MAC_TT_GUARD.GUARD t)
  let cca := s.rd (MAC_TT_CCA.CCA_LEN t)
  let ack := s.rd (MAC_TT_ACK.TX_ACK_DELAY t)
  let wait := s.rd (MAC_TT_RXACK.ACK_WAIT t)
  let w := if 65535 < maxTx || 65535 < len then 3 else 2
  t :: ([ofs - 36 - cca, cca, ofs, ofs - g, ack - wait / 2, ack, 2 * g, wait, 36, maxAck].flatMap (leOctets 2)
    ++ leOctets w maxTx ++ leOctets w len)

end Sys2Proof.Machine
end

