-- ==== Sys2Proof/Machine/Lowpan.lean ====
section
/-!
DEFINITION. 6LoWPAN (R199, R204): which input forms are supported, contexts, and the octets that headers take in the shortest encoding
(RFC 6282, RFC 6554, RFC 8138).
-/

namespace Sys2Proof.Machine

/-- The prefix of Ward `w`. -/
def wardPfx (s : State) (w : Nat) : Nat := s.rd (FWD_W_PFX_LO.PFX w) + 2 ^ 32 * s.rd (FWD_W_PFX_HI.PFX w)

/-- The IID of an EUI-64: bit 57 inverted (R182). -/
def iidOf (eui : Nat) : Nat := eui ^^^ 2 ^ 57

/-- The IID of a short address, 0000:00FF:FE00:XXXX (R196). -/
def iidOfShort (a : Nat) : Nat := 0x000000FFFE000000 + a

/-- A short-address IID, 0000:00FF:FE00:XXXX (R196). -/
def shortIid (iid : Nat) : Option Nat := if iid / 65536 = 0x000000FFFE00 then some (iid % 65536) else none

/-- A multicast address. -/
def isMulticast (a : Ip) : Bool := a.pfx / 2 ^ 56 = 0xFF

/-! Contexts -/

/-- Context `c` may be used in Ward `w`: 0, the Ward prefix, always; the others as FWD_W_CTX enables them. -/
def ctxOn (s : State) (w c : Nat) : Bool := c = 0 || (s.rd (FWD_W_CTX.MASK w)).testBit (c - 1)

/-- The /64 of context `c` in Ward `w`. -/
def ctxPfx (s : State) (w c : Nat) : Nat :=
  if c = 0 then wardPfx s w else s.rd (FWD_CTX_LO.PFX c) + 2 ^ 32 * s.rd (FWD_CTX_HI.PFX c)

/-- The first context of Ward `w` with prefix `p`. -/
def ctxFor (s : State) (w p : Nat) : Option Nat := (List.range 16).find? (fun c => ctxOn s w c && ctxPfx s w c = p)

/-- An address as decompression rebuilds it. -/
def lowAddr (s : State) (w : Nat) : LowAddr → Ip
  | .full a => a
  | .ctx c iid => { pfx := ctxPfx s w c, iid := iid }

/-- R199: an input form that Ward `w` supports. DESIGN CHOICE (log entry 29): an RPI is checked for the Ward's RPLInstanceID. -/
def lowForm (s : State) (w : Nat) : LowForm → Bool
  | .ipv6 => true
  | .iphc src dst mcastDac => (src.all (fun c => ctxOn s w c.val)) && (dst.all (fun c => ctxOn s w c.val)) && !mcastDac
  | .udp => true
  | .ext eid => eid.val ≤ 3 || eid.val = 7
  | .rpi inst => inst = s.rd (FWD_W_CFG.INSTANCE w)
  | .srh t => t = 1 || t = 3
  | .ipInIp => true
  | .mesh => false
  | .bcast => false
  | .rfrag => false
  | .lorh _ => false
  | .otherDispatch => false

/-! Octets of headers on output -/

/-- The IID that a link address gives. -/
def linkIid : Addr → Option Nat
  | .none => none
  | .short a => some (iidOfShort a)
  | .ext e => some (iidOf e)

/-- Octets of an IID inline: none when the layer around it gives it. -/
def iidOctets (around : Option Nat) (iid : Nat) : Nat := if around = some iid then 0 else if (shortIid iid).isSome then 2 else 8

/-- Octets of a unicast address inline, and the context it uses. -/
def addrCost (s : State) (w : Nat) (around : Option Nat) (a : Ip) : Nat × Nat :=
  if a.pfx = 0xFE80 * 2 ^ 48 then (iidOctets around a.iid, 0)
  else
    match ctxFor s w a.pfx with
    | some c => (iidOctets around a.iid, c)
    | none => (16, 0)

/-- Octets of a multicast address inline, DAC 0. -/
def mcastOctets (a : Ip) : Nat :=
  if a.pfx = 0xFF02 * 2 ^ 48 && a.iid < 2 ^ 8 then 1
  else if a.pfx % 2 ^ 48 = 0 && a.iid < 2 ^ 24 then 4
  else if a.pfx % 2 ^ 48 = 0 && a.iid < 2 ^ 40 then 6
  else 16

/-- Octets of traffic class and flow label. -/
def tfOctets (h : V6) : Nat :=
  if h.flow = 0 then (if h.dscp = 0 && h.ecn = 0 then 0 else 1) else if h.dscp = 0 then 3 else 4

/-- Octets of a UDP header: NHC, ports, the checksum, which is never elided. -/
def udpOctets (p : Nat × Nat) : Nat :=
  let four (n : Nat) : Bool := n / 16 = 0xF0B
  let eight (n : Nat) : Bool := n / 256 = 0xF0
  3 + (if four p.1 && four p.2 then 1 else if eight p.1 || eight p.2 then 3 else 4)

/-- Octets of extension headers with what follows them: `tail` octets, `raw` uncompressed, which begin with an NHC when `nhc`; and whether
the first of them has its next-header octet elided. A header too long for its length octet, and all behind it, stay as they are. -/
def extOctets (tail raw : Nat) (nhc : Bool) : List ExtHdr → Nat × Bool
  | [] => (tail, nhc)
  | e :: l =>
    let (c, n) := extOctets tail raw nhc l
    if e.len < 258 + e.pad then (e.len - e.pad + ofBool (!n) + c, true) else (e.len + (l.map (·.len)).sum + raw, false)

/-- Octets of IPv6 headers, outermost first, with the UDP header behind them: in the shortest encoding, and uncompressed. `src` and `dst`:
the IIDs that the layer around them gives. -/
def headOctets (s : State) (w : Nat) (src dst : Option Nat) (udp : Option (Nat × Nat)) : List V6 → Nat × Nat
  | [] => (match udp with | some p => udpOctets p | none => 0, if udp.isSome then 8 else 0)
  | h :: l =>
    let (c, u) := headOctets s w (some h.src.iid) (some h.dst.iid) udp l
    let (n, elided) := extOctets (if l.isEmpty then c else c + 1) u (!l.isEmpty || udp.isSome) h.ext
    let (a, ca) := if h.src.pfx = 0 && h.src.iid = 0 then (0, 0) else addrCost s w src h.src
    let (b, cb) := if isMulticast h.dst then (mcastOctets h.dst, 0) else addrCost s w dst h.dst
    let base := 2 + (if ca = 0 && cb = 0 then 0 else 1) + tfOctets h + ofBool (!elided) + (if h.hop = 1 || h.hop = 64 || h.hop = 255 then 0 else 1)
    (base + a + b + n, 40 + (h.ext.map (·.len)).sum + u)

/-- The headers of a packet. -/
def pktHeads (p : DownContent) : List V6 := p.head :: p.inner

/-- Uncompressed octets of a packet's headers. -/
def pktHead (p : DownContent) : Nat :=
  ((pktHeads p).map (fun h => 40 + (h.ext.map (·.len)).sum)).sum + (if p.udp.isSome then 8 else 0)

/-- Octets of a packet behind its headers. -/
def pktBody (p : DownContent) : Nat := p.len - pktHead p

/-! Source routes (R204) -/

/-- Octets that two addresses have in common at their front. -/
def commonOctets (a b : Ip) : Nat :=
  let x := (a.pfx * 2 ^ 64 + a.iid) ^^^ (b.pfx * 2 ^ 64 + b.iid)
  ((List.range 16).find? (fun i => x / 256 ^ (15 - i) != 0)).getD 15

/-- Octets of the SRH of RFC 6554 toward first hop `d`: CmprI and CmprE as large as the addresses allow, padded to 8 octets. -/
def srhOctets (d : Ip) (l : List Ip) : Nat :=
  let i := (l.dropLast.map (commonOctets d)).foldl min 15
  let e := commonOctets d (l.getLastD {})
  8 + ceilDiv ((l.length - 1) * (16 - i) + (16 - e)) 8 * 8

/-- The outer header as an IPv6 header: RPI, then SRH. -/
def outerV6 (o : OuterHdr) : V6 :=
  { src := o.src
    dst := o.dst
    dscp := o.dscp
    ecn := o.ecn
    flow := o.flow
    hop := o.hop
    ext := [{ eid := 0, len := 8, kind := 1 }, { eid := 1, len := srhOctets o.dst o.srh, kind := 2 }] }

/-- Octets of the outer header in the form of RFC 8138: the page, SRH-6LoRH, RPI-6LoRH, IP-in-IP 6LoRH with Bastis as the root. -/
def lorhOctets (o : OuterHdr) (typ : Nat) : Nat :=
  1 + (2 + o.srh.length * (if typ = 1 then 2 else 8)) + (2 + (if o.inst = 0 then 0 else 1) + (if o.rank % 256 = 0 then 1 else 2)) + 3

/-- Octets of all headers of a downlink packet, compressed and uncompressed, toward link address `link`, with its outer header (R204). -/
def downOctets (s : State) (w : Nat) (link : Addr) (o : Option OuterHdr) (p : DownContent) : Nat × Nat :=
  let root := linkIid (.short 0)
  match o with
  | none => headOctets s w root (linkIid link) p.udp (pktHeads p)
  | some o =>
    match o.lorh with
    | none => headOctets s w root (linkIid link) p.udp (outerV6 o :: pktHeads p)
    | some t =>
      let (c, u) := headOctets s w (some o.src.iid) (some ((o.srh.getLastD {}).iid)) p.udp (pktHeads p)
      (lorhOctets o t + c, 48 + srhOctets o.dst o.srh + u)

end Sys2Proof.Machine
end

