-- ==== Sys2Proof/Machine/QueueOps.lean ====
section
/-!
DEFINITION. The curd pool (R208 to R211), node queues (R212, R231, R234), and discarding what is queued (R216).
-/

namespace Sys2Proof.Machine

/-- Curds that a frame of `n` octets occupies (R208). -/
def curdsOf (n : Nat) : Nat := ceilDiv n 240

/-- R210: user `u` may take `n` curds. -/
def poolOk (s : State) (u n : Nat) : Bool :=
  let used (v : Nat) := s.rd (QMS_POOL_USE.USED v)
  let guar (v : Nat) := s.rd (QMS_POOL_CFG.GUAR v)
  let reserved := ((List.range 4).filter (fun v => v != u)).foldl (fun a v => a + (guar v - used v)) 0
  s.flag QMS_CFG.EN && (used u + n ≤ guar u
    || (used u + n ≤ s.rd (QMS_POOL_CFG.MAX u) && reserved + n ≤ s.rd QMS_POOL_FREE.FREE))

/-- User `u` takes `n` curds; counts and peaks follow (R213). -/
def poolAdd (u n : Nat) (s : State) : State :=
  let s := (s.sub QMS_POOL_FREE.FREE n).add (QMS_POOL_USE.USED u) n
  (s.peak (QMS_POOL_USE.PEAK u) (s.rd (QMS_POOL_USE.USED u))).peak QMS_POOL_PEAK.PEAK (32768 - s.rd QMS_POOL_FREE.FREE)

/-- User `u` gives `n` curds back. -/
def poolGive (u n : Nat) (s : State) : State := (s.add QMS_POOL_FREE.FREE n).sub (QMS_POOL_USE.USED u) n

/-- The curds of a chain of frames, in order (R209). -/
def chainCurds (l : List QFrame) : List Nat := l.flatMap (·.curds)

/-- The numbers of the curds in use (R208, R210): node queues, class queues, the calendar, reassembly contexts, ready queues, beacon bodies,
mirror records, and those that no chain reaches. -/
def curdsHeld (s : State) : List Nat :=
  s.qms.nodeQ.flatMap (fun q => chainCurds q.2)
    ++ s.qms.upQ.flatMap (fun q => q.2.flatMap (·.curds))
    ++ s.qms.downQ.flatMap (fun q => q.2.flatMap (fun p => chainCurds p.frames))
    ++ s.qms.cal.flatMap (fun d => chainCurds d.packet.frames)
    ++ s.qms.reasm.flatMap (fun x => x.held.flatMap (·.curds))
    ++ s.qms.lost.flatMap (·.2)
    ++ s.camps.flatMap (fun c => c.2.ready.flatMap (·.curds))
    ++ s.lanes.flatMap (fun l => l.2.preparing.flatMap (fun i => if i.kind = .beacon then i.frame.curds else []))
    ++ s.pair.queue.flatMap (·.curds)

/-- The first curd from `k` on, with wraparound, that is not in `held`; `n` are passed at most. -/
def curdFrom (held : List Nat) : Nat → Nat → Nat
  | 0, k => k
  | n + 1, k => if held.contains k then curdFrom held n ((k + 1) % 32768) else k

/-- `n` curds that are not in `held`; which of the free ones a request gets is open, so a free value says where each is looked for. -/
def curdsPick : Nat → List Nat → State → List Nat × State
  | 0, _, s => ([], s)
  | n + 1, held, s =>
    let k := curdFrom held held.length (s.free 15)
    let (l, s) := curdsPick n (k :: held) s.took
    (k :: l, s)

/-- R209: user `u` asks for `n` curds at once; none when the pool cannot grant them, and then QMS_ALLOC_FAIL counts and NOCURD is
raised. -/
def poolTake (u n : Nat) (s : State) : Option (List Nat) × State :=
  if poolOk s u n then
    let (l, s) := curdsPick n (curdsHeld s) s
    (some l, poolAdd u n s)
  else (none, raise Irq.QMS_NOCURD (s.inc QMS_ALLOC_FAIL))

/-- Node queue `nix`, head first. -/
def nodeQOf (s : State) (nix : Nat) : List QFrame := Store.find [] s.qms.nodeQ nix

/-- R232: node queue `nix` is ready for class `c`. -/
def readyFor (s : State) (nix c : Nat) : Bool :=
  match nodeQOf s nix with
  | [] => false
  | h :: _ => h.cls = c && !(s.node nix).tcDown.testBit c

/-- The curds of a list of frames. -/
def framesCurds (l : List QFrame) : Nat := l.foldl (fun a f => a + curdsOf f.len) 0

/-- Node queue `nix` becomes `l`: QHEAD, QTAIL and QCOUNT in the record and the Ward's count follow (R212, R213). A fenced or free
record's Ward is where the count stands. -/
def setNodeQ (nix : Nat) (l : List QFrame) (s : State) : State :=
  let w := (s.node nix).ward
  let old := (nodeQOf s nix).length
  let s := { s with qms := { s.qms with nodeQ := Store.put [] s.qms.nodeQ nix l } }
  let s := s.putNode nix (fun r => { r with
    qHead := (chainCurds l).headD 0
    qTail := (chainCurds l).getLastD 0
    qFrames := l.length
    qCurds := framesCurds l })
  s.wr (QMS_W_NFRAMES.FRAMES w) (s.rd (QMS_W_NFRAMES.FRAMES w) + l.length - old)

/-- The Ward's highest node queue (R213). -/
def nodePeak (nix : Nat) (s : State) : State :=
  let w := (s.node nix).ward
  let n := (nodeQOf s nix).length
  if s.rd (QMS_W_NPEAK.PEAK w) < n then (s.wr (QMS_W_NPEAK.PEAK w) n).wr (QMS_W_NPEAK.NIX w) nix else s

/-- The curds of a frame go back to its pool user. -/
def frameFree (f : QFrame) (s : State) : State := poolGive f.user (curdsOf f.len) s

/-- A queued frame goes to the Whey with reason `code` (R216). -/
def frameWhey (code : Nat) (f : QFrame) (s : State) : State := frameFree f (s.whey code)

/-- Remove the frame with identity `id` from node queue `nix`. -/
def nodeQRemove (nix id : Nat) (s : State) : State := setNodeQ nix ((nodeQOf s nix).filter (fun f => f.id != id)) s

/-- Change the frame with identity `id` in node queue `nix`. -/
def nodeQChange (nix id : Nat) (g : QFrame → QFrame) (s : State) : State :=
  let q := (nodeQOf s nix).map (fun f => if f.id = id then g f else f)
  { s with qms := { s.qms with nodeQ := Store.put [] s.qms.nodeQ nix q } }

/-- The frame with identity `id` in node queue `nix`. -/
def nodeQFind (s : State) (nix id : Nat) : Option QFrame := (nodeQOf s nix).find? (fun f => f.id = id)

/-- The number of downlink class queue `w`, `c` in QMS_CQ (R212); uplink class queues come first. -/
def downCq (w c : Nat) : Nat := 64 + w * 8 + c

/-- Class queue `i` grows, or shrinks, by `n` curds (R213). -/
def cqAdd (i n : Nat) (s : State) : State :=
  let s := s.add (QMS_CQ.CURDS i) n
  s.peak (QMS_CQ.PEAK i) (s.rd (QMS_CQ.CURDS i))
def cqSub (i n : Nat) (s : State) : State := s.sub (QMS_CQ.CURDS i) n

/-- Downlink class queue `w`, `c`. -/
def downQOf (s : State) (w c : Nat) : List Packet := Store.find [] s.qms.downQ (w * 8 + c)

/-- Downlink class queue `w`, `c` becomes `l`. -/
def setDownQ (w c : Nat) (l : List Packet) (s : State) : State :=
  { s with qms := { s.qms with downQ := Store.put [] s.qms.downQ (w * 8 + c) l } }

/-- Change the frames of the broadcast at the head of class queue `w`, `c`. -/
def bcastChange (w c : Nat) (g : List QFrame → List QFrame) (s : State) : State :=
  match (Store.find [] s.qms.downQ (w * 8 + c) : List Packet) with
  | p :: l => { s with qms := { s.qms with downQ := Store.put [] s.qms.downQ (w * 8 + c) ({ p with frames := g p.frames } :: l) } }
  | [] => s

/-- A broadcast frame has been sent, once (R106): it leaves the head of its class queue. -/
def bcastSent (w c id : Nat) (s : State) : State :=
  match downQOf s w c with
  | [] => s
  | p :: l =>
    match p.frames.find? (fun f => f.id = id) with
    | none => s
    | some f =>
      let rest := p.frames.filter (fun f => f.id != id)
      let s := frameFree f (cqSub (downCq w c) (curdsOf f.len) s)
      setDownQ w c (if rest.isEmpty then l else { p with frames := rest } :: l) s

/-- A fresh identity for a frame. -/
def newFrame (f : QFrame) (s : State) : QFrame × State :=
  ({ f with id := s.qms.nextId }, { s with qms := { s.qms with nextId := s.qms.nextId + 1 } })

/-- R231: frames are appended to node queue `nix` together, unless that takes it above NODE_MAX. -/
def nodeAppend (nix : Nat) (l : List QFrame) (s : State) : State :=
  let q := nodeQOf s nix
  if s.rd (QMS_W_LIM_DN.NODE_MAX (s.node nix).ward) < q.length + l.length then s.each l (frameWhey 30)
  else nodePeak nix (setNodeQ nix (q ++ l) (s.add QMS_ENQ_FRAMES l.length))

/-- R33, R185: the record is in JOINING, JOINED or QUIET. -/
def nodeActive (s : State) (nix : Nat) : Bool :=
  (s.node nix).state = .joining || (s.node nix).state = .joined || (s.node nix).state = .quiet

/-- R27, R33: a node takes part in traffic: it is active and not fenced. -/
def nodeLive (s : State) (nix : Nat) : Bool := nodeActive s nix && !(s.node nix).fenced

/-- TSU time `a` is earlier than `b`, µs modulo 2^32 compared over half the range (R225). -/
def earlierUs (a b : Nat) : Bool := 0 < (b + 2 ^ 32 - a % 2 ^ 32) % 2 ^ 32 && (b + 2 ^ 32 - a % 2 ^ 32) % 2 ^ 32 < 2 ^ 31

/-- R234: heads of `l` that are older than DN_MS. -/
def agedHeads (s : State) : List QFrame → List QFrame
  | [] => []
  | f :: l =>
    let dn := s.rd QMS_AGE_CFG.DN_MS
    let age := (s.us32 + 2 ^ 32 - f.time) % 2 ^ 32
    if dn != 0 && age < 2 ^ 31 && dn * 1000 < age then f :: agedHeads s l else []

/-- R234: aged heads of node queue `nix` go to the Whey with reason QAGE. -/
def ageQueue (nix : Nat) (s : State) : State :=
  let old := agedHeads s (nodeQOf s nix)
  if old.isEmpty then s
  else
    let s := setNodeQ nix ((nodeQOf s nix).drop old.length) s
    raiseNode Irq.QMS_QAGE 0 nix (s.each old (frameWhey 33))

/-- The curds of a downlink packet. -/
def packetCurds (p : Packet) : Nat := framesCurds p.frames

/-- R234: packets at the head of a class queue whose frames are all too old, and the aged frames of the one behind them. DEDUCED (log entry
29): a class queue's head ages as a node queue's does. -/
def agedPackets (s : State) : List Packet → List QFrame × List Packet
  | [] => ([], [])
  | p :: l =>
    let old := agedHeads s p.frames
    if old.isEmpty then ([], p :: l)
    else if old.length < p.frames.length then (old, { p with frames := p.frames.drop old.length } :: l)
    else
      let (r, q) := agedPackets s l
      (old ++ r, q)

/-- R234: aged frames at the head of downlink class queue `w`, `c` go to the Whey with reason QAGE. -/
def ageClass (w c : Nat) (s : State) : State :=
  let (old, l) := agedPackets s (downQOf s w c)
  if old.isEmpty then s
  else
    let s := cqSub (downCq w c) (framesCurds old) (setDownQ w c l s)
    raiseWard Irq.QMS_QAGE w (s.each old (frameWhey 33))

end Sys2Proof.Machine
end

