-- ==== Sys2Proof/Machine/FwdOps.lean ====
section
/-!
DEFINITION. Forwarding-table lookups and the short-address index (R182 to R185, R196), as the MAC and the pipelines use them.
-/

namespace Sys2Proof.Machine

/-- One bit of a reflected CRC with polynomial `p`. -/
def crcBit (p c : Nat) : Nat := if c % 2 = 1 then (c / 2) ^^^ p else c / 2

/-- One octet of the CRC-32C of R184. -/
def crcByte (c b : Nat) : Nat := (List.range 8).foldl (fun c _ => crcBit 0x82F63B78 c) (c ^^^ b % 256)

/-- R184: the hash of a key of class `cls` (0 IID, 1 station) in Ward `w` under `seed`. -/
def fwtHash (seed key cls w : Nat) : Nat :=
  crcByte ((List.range 8).foldl (fun c i => crcByte c (key / 2 ^ (8 * i))) seed) (cls * 8 + w)

/-- The two candidate buckets of a hash (R184). -/
def fwtCands (h : Nat) : Nat × Nat :=
  let b1 := h % 65536
  let b2 := h / 65536 % 65536
  (b1, if b2 = b1 then b1 ^^^ 0x8000 else b2)

/-- The key's home slot in the Vat (R184). -/
def vatHome (h : Nat) : Nat := h % 4096

/-- A reshard is in progress: both seeds are in use (R184, R195). -/
def resharding (s : State) : Bool := s.rd FWD_STS.RESHARD != 0

/-- The hashes of a key under every seed in use. -/
def fwtHashes (s : State) (key cls w : Nat) : List Nat :=
  fwtHash (s.rd FWD_HASH_CUR.SEED) key cls w :: (if resharding s then [fwtHash (s.rd FWD_HASH_NEXT.SEED) key cls w] else [])

/-- The entry at a place: bucket × 4 + way, or 262,144 + Vat slot (R183). -/
def fwtAt (s : State) (loc : Nat) : FwtEntry :=
  if loc < 262144 then Store.find {} s.fwd.ways loc else Store.find {} s.fwd.vat (loc - 262144)

/-- Write the entry at a place. -/
def fwtPut (loc : Nat) (e : FwtEntry) (s : State) : State :=
  if loc < 262144 then { s with fwd := { s.fwd with ways := Store.put {} s.fwd.ways loc e } }
  else { s with fwd := { s.fwd with vat := Store.put {} s.fwd.vat (loc - 262144) e } }

/-- The header of bucket `b` (R183). -/
def fwtHead (s : State) (b : Nat) : FwtHead := Store.find {} s.fwd.heads b

/-- Change the header of bucket `b`. -/
def modHead (b : Nat) (f : FwtHead → FwtHead) (s : State) : State :=
  { s with fwd := { s.fwd with heads := Store.put {} s.fwd.heads b (f (fwtHead s b)) } }

/-- Class of an entry kind (R182). -/
def fwtCls : FwtKind → Nat
  | .station => 1
  | _ => 0

/-- An entry holds this key. -/
def fwtMatch (e : FwtEntry) (key cls w : Nat) : Bool :=
  e.kind != .free && !e.poisoned && e.key = key && fwtCls e.kind = cls && (cls = 1 || e.ward = w)

/-- The four ways of both candidate buckets of a hash. -/
def wayPlaces (h : Nat) : List Nat :=
  let (b1, b2) := fwtCands h
  (List.range 4).map (fun i => b1 * 4 + i) ++ (List.range 4).map (fun i => b2 * 4 + i)

/-- The Vat slots probed from the home slot of a hash (R185). -/
def vatPlaces (s : State) (h : Nat) : List Nat :=
  (List.range (s.rd FWD_RELOC_CFG.VAT_PROBE)).map (fun i => 262144 + (vatHome h + i) % 4096)

/-- R185: where a key's entry stands. -/
def fwtFind (s : State) (key cls w : Nat) : Option Nat :=
  let hs := fwtHashes s key cls w
  let inVat := hs.any (fun h => (fwtHead s (fwtCands h).1).ovf || (fwtHead s (fwtCands h).2).ovf)
  (hs.flatMap wayPlaces ++ (if inVat then hs.flatMap (vatPlaces s) else [])).find? (fun p => fwtMatch (fwtAt s p) key cls w)

/-! What accesses meet -/

/-- What the accesses of a command to the table meet is laid out for it. -/
def meetsSet (m : TableMeets) (s : State) : State := { s with fwd := { s.fwd with meets := m } }

/-- A command with what its accesses to the table meet. -/
def withMeets (m : TableMeets) (f : State → Result) (s : State) : Result :=
  match f (meetsSet m s) with
  | .next u => .next (meetsSet {} u)
  | .fault x => .fault x
  | .refused x => .refused x

/-- R190: a hardware writer takes its locks; a LOCK it finds set makes it wait. -/
def lockTake (s : State) : State :=
  let m := s.fwd.meets
  let s := meetsSet { m with waits := m.waits.drop 1 } s
  if m.waits.headD false then s.inc FWD_LOCK_WAIT else s

/-- R185: one lookup: where the key's entry stands, as it finds it. -/
def fwtSeek (key cls w : Nat) (s : State) : Option Nat × State :=
  let m := s.fwd.meets
  let (changed, miss) := m.races.headD (0, false)
  let s := (meetsSet { m with races := m.races.drop 1 } (s.inc FWD_LOOKUPS)).add FWD_RETRIES changed.val
  let p := if changed = 2 && miss then none else fwtFind s key cls w
  (p, if changed = 2 && p.isNone then raise Irq.FWD_RACE_MISS (s.inc FWD_RACE_MISS) else s)

/-- The entry at `p` has been hit: it is marked used (R191). -/
def fwtHit (p : Nat) (s : State) : State :=
  let s := if 262144 ≤ p then s.inc FWD_VAT_HITS else s
  let e := fwtAt s p
  (if e.hit then s else fwtPut p { e with hit := true } s).inc FWD_HITS

/-- R185: a lookup, counted; a hit on a node that takes no part in traffic is a miss. The hit entry is marked used. -/
def fwtLookup (key cls w : Nat) (s : State) : Option FwtEntry × State :=
  let (p, s) := fwtSeek key cls w s
  match p with
  | none => (none, s.inc FWD_MISSES)
  | some p =>
    let e := fwtAt s p
    if cls = 0 && !nodeActive s e.nix then (none, s.inc FWD_MISSES) else (some { e with hit := true }, fwtHit p s)

/-- R196: the record that answers for short address `a` of Ward `w`. -/
def saxFind (s : State) (w a : Nat) : Option Nat :=
  match Store.find 0 s.mac.sax (w * 65536 + a) with
  | 0 => none
  | n + 1 => some n

/-- The record a source address of Ward `w` belongs to (R79, R196). -/
def srcRecord (s : State) (w : Nat) (a : Addr) : Option Nat :=
  match a with
  | .none => none
  | .short n => saxFind s w n
  | .ext eui => (fwtFind s (iidOf eui) 0 w).map (fun p => (fwtAt s p).nix)

/-- A source address resolves to a record of Ward `w` (R110, R196); the second part is the state after the lookup. A hit on a record that takes
no part in traffic counts as a miss (R185); R110 still sees a record in EVICT. -/
def resolveSrc (w : Nat) (a : Addr) (s : State) : Option Nat × State :=
  match a with
  | .none => (none, s)
  | .short n => (saxFind s w n, s)
  | .ext eui =>
    let (p, s) := fwtSeek (iidOf eui) 0 w s
    match p with
    | none => (none, s.inc FWD_MISSES)
    | some p =>
      let n := (fwtAt s p).nix
      if nodeActive s n then (some n, fwtHit p s)
      else (if (s.node n).state = .evict then some n else none, s.inc FWD_MISSES)

/-- An IID of Ward `w` resolves to a live node: by the short-address index or the forwarding table (R196, R198). -/
def resolveIid (w iid : Nat) (s : State) : Option Nat × State :=
  match shortIid iid with
  | some a =>
    match saxFind s w a with
    | some n => (if nodeActive s n then some n else none, s)
    | none => (none, s)
  | none =>
    let (e, s) := fwtLookup iid 0 w s
    (e.map (·.nix), s)

/-- R197: the ports that a packet for the gateway leaves on: its STATION entry's, or both. -/
def gatewayPorts (s : State) : List Nat × State :=
  let key := s.rd FWD_GW_MAC_LO.MAC + 2 ^ 32 * s.rd FWD_GW_MAC_HI.MAC + 2 ^ 48 * s.rd FWD_GW_MAC_HI.VLAN
  let (e, s) := fwtLookup key 1 0 s
  (match e.map (·.port) with
    | some 4 => [0]
    | some 5 => [1]
    | some 6 => [2]
    | _ => [0, 1], s)

end Sys2Proof.Machine
end

