-- ==== Sys2Proof/Machine/Jnl.lean ====
section
/-!
DEFINITION. The octets of the journal device (R172 to R175): header copies, ring records, the counter table.
-/

namespace Sys2Proof.Machine

/-- The counters of the two ends of a space (R154, R164). -/
def fcFirst : Nat := 0x80000000
def fcLow : Nat := 0xFFFF0000
def fcEnd : Nat := 0xFFFFFF00

/-- What a header copy says (R172); `valid`: its MAGIC, VER and CRC are correct. -/
structure JnlHeader where
  valid : Bool := true
  domain : Nat := 0
  sizeLog2 : Nat := 0
  ring : Nat := 0
  clean : Bool := false
  hseq : Nat := 0
  ggen : List Nat := List.replicate 8 0
  gceil : List Nat := List.replicate 8 fcFirst
deriving DecidableEq, Repr

/-- What an entry of the counter table says (R175). -/
structure JnlEntry where
  gen : Nat := 0
  valid : Bool := false
  ceil : Nat := 0
  snap : Nat := 0
deriving DecidableEq, Repr

/-- Octets `a` to `a` + `n` − 1 of the device. -/
def jnlOctets (m : Memory) (a n : Nat) : List Nat := (List.range n).map (fun i => (Memory.read m (a + i)).toNat)

/-- The little-endian number in octets `a` to `a` + `n` − 1. -/
def jnlNat (m : Memory) (a n : Nat) : Nat := leNat (jnlOctets m a n)

/-- Octets are written from `a` up. -/
def jnlPut (a : Nat) (l : List Nat) (m : Memory) : Memory :=
  Memory.writes m ((List.range l.length).map (fun i => (a + i, BitVec.ofNat 8 (l.getD i 0))))

/-- Octets are written from the highest address down to `a` (R175). -/
def jnlPutDown (a : Nat) (l : List Nat) (m : Memory) : Memory :=
  Memory.writes m ((List.range l.length).map (fun i => (a + l.length - 1 - i, BitVec.ofNat 8 (l.getD (l.length - 1 - i) 0))))

/-- The octets from `a` up to `b` become 0. -/
def jnlClear (a b : Nat) (m : Memory) : Memory := m.filter (fun c => c.1 < a || b ≤ c.1)

/-- Offset of a header copy: B when `inB`. -/
def hdrAt (inB : Bool) : Nat := if inB then 0x800 else 0

/-- A header copy up to its CRC. -/
def headerOctets (h : JnlHeader) : List Nat :=
  [0x46, 0x47, 0x42, 0x4A] ++ leOctets 2 1 ++ leOctets 2 (h.domain % 4096) ++ [h.sizeLog2, h.ring, ofBool h.clean, 0] ++ leOctets 4 h.hseq
    ++ (List.range 8).map (fun w => h.ggen.getD w 0 % 16) ++ (List.range 8).flatMap (fun w => leOctets 4 (h.gceil.getD w 0))

/-- A header copy is written whole, its reserved octets as 0. -/
def hdrPut (inB : Bool) (h : JnlHeader) (m : Memory) : Memory :=
  let o := headerOctets h
  jnlPut (hdrAt inB) (o ++ leOctets 4 (crc32 o)) (jnlClear (hdrAt inB) (hdrAt inB + 0x800) m)

/-- A header copy as it is read. -/
def hdrOf (m : Memory) (inB : Bool) : JnlHeader :=
  let b := hdrAt inB
  { valid := jnlOctets m b 6 = [0x46, 0x47, 0x42, 0x4A, 1, 0] && jnlNat m (b + 0x38) 4 = crc32 (jnlOctets m b 0x38)
    domain := jnlNat m (b + 6) 2
    sizeLog2 := jnlNat m (b + 8) 1
    ring := jnlNat m (b + 9) 1
    clean := jnlNat m (b + 10) 1 = 1
    hseq := jnlNat m (b + 12) 4
    ggen := (List.range 8).map (fun w => jnlNat m (b + 0x10 + w) 1 % 16)
    gceil := (List.range 8).map (fun w => jnlNat m (b + 0x18 + 4 * w) 4) }

/-- KEY of a record (R173). -/
def recKey (r : JnlRec) : Nat :=
  match r.typ with
  | 1 => r.key % 2 ^ 18 + r.gen % 16 * 2 ^ 18
  | 2 => r.key % 8 + r.gen % 16 * 16
  | _ => r.key

/-- Octets 0x00 to 0x1E of a record (R173). -/
def recOctets (r : JnlRec) : List Nat :=
  let o := leOctets 4 r.seq ++ [r.typ, 0, 0, 0] ++ leOctets 4 (recKey r) ++ leOctets 4 r.ceil ++ [ofBool r.rxReset + 2 * ofBool r.adv]
    ++ List.replicate 11 0
  o ++ leOctets 2 (crc16 o) ++ [0]

/-- COMMIT of a record. -/
def recCommit : Nat := 0xC3

/-- The record at offset `a`, where COMMIT and the CRC make it valid (R174). -/
def recOf (m : Memory) (a : Nat) : Option JnlRec :=
  if jnlNat m (a + 0x1F) 1 != recCommit || jnlNat m (a + 0x1C) 2 != crc16 (jnlOctets m a 0x1C) then none
  else
    let typ := jnlNat m (a + 4) 1
    let k := jnlNat m (a + 8) 4
    some {
      seq := jnlNat m a 4
      typ := typ
      key := if typ = 1 then k % 2 ^ 18 else if typ = 2 then k % 8 else k
      gen := if typ = 1 then bitsOf k 18 4 else if typ = 2 then bitsOf k 4 4 else 0
      ceil := jnlNat m (a + 12) 4
      rxReset := (jnlNat m (a + 16) 1).testBit 0
      adv := (jnlNat m (a + 16) 1).testBit 1 }

/-- Where the ring begins, and slot `k` of a ring of `n` records. DESIGN CHOICE (log entry 29): record SEQ takes slot SEQ modulo `n`. -/
def ringBase : Nat := 0x1000
def ringSlot (n k : Nat) : Nat := ringBase + 32 * (k % n)

/-- A record put before the first of a higher SEQ. -/
def recInsert (r : JnlRec) : List JnlRec → List JnlRec
  | [] => [r]
  | x :: l => if x.seq ≤ r.seq then x :: recInsert r l else r :: x :: l

/-- The valid records of a ring of `n`, in SEQ order. -/
def ringRecords (m : Memory) (n : Nat) : List JnlRec :=
  ((List.range n).filterMap (fun k => recOf m (ringSlot n k))).foldl (fun l r => recInsert r l) []

/-- Offset of the counter table's entry of NIX `k`, after a ring of `n` records. -/
def tableAt (n k : Nat) : Nat := ringBase + 32 * n + 8 * k

/-- An entry of the counter table as it is read. -/
def entryOf (m : Memory) (a : Nat) : JnlEntry :=
  let w := jnlNat m a 4
  { gen := w % 16, valid := w.testBit 4, ceil := w / 256 * 256, snap := jnlNat m (a + 4) 4 }

/-- An entry is written: word 0 from its highest octet down, word 1 from its lowest up. -/
def entryPut (a : Nat) (e : JnlEntry) (m : Memory) : Memory :=
  jnlPut (a + 4) (leOctets 4 e.snap) (jnlPutDown a (leOctets 4 (e.gen % 16 + 16 * ofBool e.valid + e.ceil / 256 * 256)) m)

/-- R175: a TX_RES record applied to the entry of its NIX. -/
def entryApply (r : JnlRec) (e : JnlEntry) : JnlEntry :=
  let n : JnlEntry :=
    if !e.valid || e.gen != r.gen then { gen := r.gen, valid := true, ceil := r.ceil, snap := if r.adv then e.snap else 0 }
    else { e with ceil := if r.adv then r.ceil else max e.ceil r.ceil }
  { n with snap := if r.rxReset then 0 else n.snap }

/-- R175: a GRP_RES record applied to the group values of a header. -/
def groupApply (r : JnlRec) (h : JnlHeader) : JnlHeader :=
  let c := if h.ggen.getD r.key 0 = r.gen then max (h.gceil.getD r.key 0) r.ceil else r.ceil
  { h with ggen := h.ggen.set r.key r.gen, gceil := h.gceil.set r.key c }

end Sys2Proof.Machine
end

