-- ==== Sys2Proof/Machine/PcrOps.lean ====
section
/-!
DEFINITION. The policy cores (R371 to R373): their states, their memories, and the regions that are reserved.
-/

namespace Sys2Proof.Machine

/-- The state of core `n`: 0 OFF, 1 LOADING, 2 HELD, 3 RUN, 4 DRAINING, 5 HUNG. -/
def coreState (s : State) (n : Nat) : Nat := s.rd (PCR_C_STS.STATE n)

/-- Core `n` enters state `st`; PCR_STS follows. -/
def coreGo (n st : Nat) (s : State) : State :=
  let s := s.wr (PCR_C_STS.STATE n) st
  (s.wr PCR_STS.RUN (putBit (s.rd PCR_STS.RUN) n (st = 3))).wr PCR_STS.HELD (putBit (s.rd PCR_STS.HELD) n (st = 2))

/-- The watchdog period of core `n` starts again (R373). -/
def coreBeat (n : Nat) (s : State) : State := modPcr (fun p => { p with beatAt := Store.put 0 p.beatAt n s.rc }) s

/-- Core `n` starts at ENTRY. -/
def coreStart (n : Nat) (s : State) : State := coreBeat n (coreGo n 3 s)

/-- The local SRAM of core `n` is zeroed. -/
def sramZero (n : Nat) (s : State) : State := modPcr (fun p => { p with sram := p.sram.filter (fun c => c.1 / 262144 != n) }) s

/-- An image is copied into the local SRAM of core `n` at `load` (R359). -/
def sramLoad (n load : Nat) (payload : List Nat) (s : State) : State :=
  modPcr (fun p => { p with sram := putWords (n * 262144 + load) payload p.sram }) s

/-- The core takes an image: PCR_C_ENTRY and PCR_C_IMG_VER (R373). -/
def coreImage (n ver entry : Nat) (s : State) : State := (s.wr (PCR_C_IMG_VER.VER n) ver).wr (PCR_C_ENTRY.OFS n) entry

/-- PCR_RESV_STS.OWNERS: the reserved regions in force (R141, R167, R232). -/
def resvOwners (s : State) : Nat :=
  ofBool (s.flag SRC_CFG.P6_EN) + 2 * ofBool (s.flag SEC_CFG.EN) + 4 * ofBool (s.flag QMS_CFG.EN)
    + 8 * ofBool (s.flag QMS_CFG.EN && s.flag SHP_CAL_CFG.EN)

/-- Offset `a` of shared policy memory lies in a region that is reserved and whose owner is enabled (R141, R167, R232, R372). -/
def resvAt (s : State) (a : Nat) : Bool :=
  (resvRegions s).any (fun r => r.1 ≤ a && a ≤ r.2)

/-- Offset `a` lies in an enabled region whose WR_MASK names core `n` (R372). -/
def regionAllows (s : State) (n a : Nat) : Bool :=
  (List.range 8).any (fun r => s.flag (PCR_REGION_LIM.EN r) && (s.rd (PCR_REGION_LIM.WR_MASK r)).testBit n
    && s.rd (PCR_REGION_BASE.BASE r) ≤ a / 4096 && a / 4096 ≤ s.rd (PCR_REGION_LIM.LIM r))

/-- R372: a write of core `n` to offset `a` is refused. -/
def storeRefused (s : State) (n a : Nat) : Bool := resvAt s a || (s.flag PCR_CFG.REGION_EN && !regionAllows s n a)

end Sys2Proof.Machine
end

