-- ==== Sys2Proof/Machine/HostOps.lean ====
section
/-!
DEFINITION. The host rings as the meanings of their commands use them (R274, R278, R285, R288, R290, R297, R299): reads that fail, commands that
are taken, their data buffers, and received frames.
-/

namespace Sys2Proof.Machine

/-- R297: a descriptor or buffer read of ring `r` at `addr` fails: the ring stops. -/
def dmaFail (r addr : Nat) (s : State) : State :=
  let s := runView r ((s.put (HIF_R_STS.ERR r) true).wr (HIF_R_STS.ERR_CODE r) 1)
  let s := raise Irq.HIF_DMA_ERR (s.inc HIF_DMA_ERR)
  faultEvent 160 { addr := addr, space := if s.flag (HIF_R_CFG.LOC r) then 5 else 2, master := 2, access := 5 } s

/-- R299: the slot of ring `r` that is taken next lies where the ring may not reach. -/
def slotBad (s : State) (r : Nat) : Bool := locBad s r (slotAt s r (s.rd (HIF_R_IDX.HEAD r))) 32

/-! Commands -/

/-- A command is the next descriptor of ring `ring`: it is taken and done; a ring with nothing to take leaves the state as it is. A descriptor
whose address is refused is not taken: the ring stops (R297, R299). -/
def withCmd (ring : Nat) (f : State → State) (s : State) : Result :=
  .next (if !cmdReady s ring then s
    else if slotBad s (64 + ring) then dmaFail (64 + ring) (slotAt s (64 + ring) (s.rd (HIF_R_IDX.HEAD (64 + ring)))) s
    else f (cmdTake ring s))

/-- R290, R297: the data buffer of a command at `addr` cannot be read: the command completes with 0xF2 DMA, and the ring stops. -/
def cmdDma (ring op tag addr : Nat) (s : State) : State := dmaFail (64 + ring) addr (cmdPlain ring op tag 0xF2 s)

/-- R278, R299: a command that needs `need` octets of input data: BADARG when DATA_LEN is less. -/
def withData (ring op : Nat) (hd : CmdHead) (need : Nat) (f : State → State) (s : State) : State :=
  if hd.len < need then cmdPlain ring op hd.tag 0xF1 s
  else if need != 0 && locBad s (64 + ring) hd.addr need then cmdDma ring op hd.tag hd.addr s
  else f s

/-- A command that reads entries of `size` octets: as many whole ones as DATA_LEN octets hold are written, and TRUNC is set when some do not
fit (R278, R288). -/
def cmdRows (ring op : Nat) (hd : CmdHead) (ret0 ret1 size : Nat) (rows : List (List Nat)) (s : State) : State :=
  let l := (rows.take (hd.len / size)).flatten
  if !l.isEmpty && locBad s (64 + ring) hd.addr (4 * l.length) then cmdDma ring op hd.tag hd.addr s
  else cmdDone ring op hd.tag 0 ret0 ret1 0 l (hd.len / size < rows.length) (ringPut (64 + ring) hd.addr l s)

/-- As `cmdRows`, for entries of one word. -/
def cmdData (ring op : Nat) (hd : CmdHead) (ret0 ret1 : Nat) (data : List Nat) (s : State) : State :=
  cmdRows ring op hd ret0 ret1 4 (data.map (fun w => [w])) s

/-! Received frames -/

/-- The next descriptor of receive ring `k`, `d` as the host left it, takes a frame (R278, R285); with BUFSIZE 0 it is a NOP and the frame is not
taken; where its slot or its buffer is refused the ring stops (R297, R299). The answer says whether the frame was taken. -/
def rxWrite (k : Nat) (d : Desc) (v : RxItem) (s : State) : Bool × State :=
  let r := 32 + k
  if slotBad s r then (false, dmaFail r (slotAt s r (s.rd (HIF_R_IDX.HEAD r))) s)
  else
    let d := descIn s r d
    let n := rxSize d
    if n != 0 && locBad s r (rxAddr d) (min v.len n) then (false, dmaFail r (rxAddr d) s)
    else
      let s := (ringTake r s).inc HIF_RX_DESC
      if n = 0 then (false, slotWrite r (fun ph => .rx [] 0 false 0 0 0 false none 0 ph .none) (s.inc HIF_NOP))
      else
        let s := s.when (n < v.len) (fun s => s.inc HIF_RX_TRUNC)
        (true, slotWrite r (fun ph => .rx v.words (min v.len n) (n < v.len) v.fmt v.why v.verdict v.dec v.nix v.ward ph v.buf) s)

end Sys2Proof.Machine
end

