-- ==== Sys2Proof/Machine/PairOps.lean ====
section
/-!
DEFINITION. The redundant pair as every unit meets it (R423 to R427): who owns the air, what is mirrored, the end of synchronisation.
-/

namespace Sys2Proof.Machine

/-- Roles of R420. -/
def roleSolo : Nat := 0
def roleActive : Nat := 1
def roleStandby : Nat := 2
def roleFenced : Nat := 3

/-- R424: the chip owns the air, the backhaul and the counters: SOLO or ACTIVE. -/
def owns (s : State) : Bool := roleOf s ≤ 1

/-- The pair is IN_SYNC. -/
def inSync (s : State) : Bool := s.rd PAIR_STS.SYNC = 2

/-- R439: the fault source PAIR_SYNC lasts while a STANDBY, or an ACTIVE with its peer heard, is not IN_SYNC. -/
def syncFault (s : State) : State :=
  let bad : Bool := (roleOf s = 2 || (roleOf s = 1 && s.flag PAIR_STS.PEER_SEEN)) && !inSync s
  if bad && !rawSet s 109 then faultBegin 109 {} s else if !bad && rawSet s 109 then faultEnd 109 s else s

/-- R439: the fault source PAIR_PEER_LOST lasts while PEER_SILENT is set on an ACTIVE. -/
def peerFault (s : State) : State :=
  let bad : Bool := roleOf s = 1 && s.flag PAIR_STS.PEER_SILENT
  if bad && !rawSet s 106 then faultBegin 106 {} s else if !bad && rawSet s 106 then faultEnd 106 s else s

/-- The sync state changes. -/
def setSync (v : Nat) (s : State) : State := syncFault (s.wr PAIR_STS.SYNC v)

/-- A message leaves on the link: PAIR_LINK_BYTES_K counts KiB, and the length of most payloads is open, so it is a free value (R440). -/
def linkSent (s : State) : State := s.wrFree PAIR_LINK_BYTES_K

/-- R436: a frame is relayed over the link, counted in `f`, or lost while the link is down or `room` is false. -/
def relay (f : Fld) (room : Bool) (s : State) : State :=
  if s.flag PAIR_LINK_STS.UP && room then linkSent (s.inc f) else s.inc PAIR_RLY_DROP

/-- The mirror queue is emptied: its curds go back. -/
def mirEmpty (s : State) : State :=
  let n := s.pair.queue.foldl (fun a r => a + r.curds.length) 0
  modPair (fun x => { x with queue := [], dirty := [] }) ((poolGive 3 n s).wr PAIR_MIR_STS.CURDS 0)

/-- R426: the queue has no room: IN_SYNC ends, the queue is emptied, and nothing is mirrored until the next bulk sync. -/
def mirOverflow (s : State) : State :=
  let s := raise Irq.PAIR_MIR_OVF (mirEmpty (s.inc PAIR_MIR_OVF))
  modPair (fun x => { x with mirror := false }) (setSync 0 s)

/-- R425, R426: a mirror record of `n` curds is sent and waits for its MACK. -/
def mirSend (n : Nat) (s : State) : State :=
  if !s.pair.mirror then s
  else if s.rd PAIR_MIR_CFG.QMAX < s.rd PAIR_MIR_STS.CURDS + n || !poolOk s 3 n then mirOverflow s
  else
    let (l, s) := curdsPick n (curdsHeld s) s
    let s := (poolAdd 3 n s).add PAIR_MIR_STS.CURDS n
    let s := (s.peak PAIR_MIR_STS.PEAK (s.rd PAIR_MIR_STS.CURDS)).inc PAIR_MIR_TX
    let s := linkSent (s.inc PAIR_MIR_SEQ.MSEQ)
    modPair (fun x => { x with queue := x.queue ++ [{ mseq := s.rd PAIR_MIR_SEQ.MSEQ, curds := l }] }) s

/-- A record of one curd that counts in `f`. -/
def mirCount (f : Fld) (s : State) : State := if s.pair.mirror then mirSend 1 (s.inc f) else s

/-- R425, R428: a state change of record `nix` is mirrored at once; while bulk sync runs, one at or above the bulk cursor is not sent. -/
def mirState (nix : Nat) (s : State) : State :=
  if s.flag PAIR_BULK_STS.RUN && s.rd PAIR_BULK_STS.CURSOR ≤ nix then s else mirSend 1 s

/-- R428: IN_SYNC begins when the last bulk record has been committed. -/
def bulkDone (s : State) : State :=
  if roleOf s = 2 && s.rd PAIR_STS.SYNC = 1 && s.pair.bulkLast && s.sec.waiting.isEmpty then
    let s := ((setSync 2 s).put PAIR_BULK_STS.RUN false).put PAIR_LAST.LAGGING false
    raise Irq.PAIR_SYNCED (pairTrace 0x06 (modPair (fun p => { p with bulkLast := false }) s))
  else s

/-- R439: PAIR_LINK lasts while both lanes are down with EN at 1, PAIR_LANE while one lane is down. -/
def linkFaults (s : State) : State :=
  let up := s.rd PAIR_LINK_STS.LANE_UP
  let set (k : Nat) (b : Bool) (s : State) : State :=
    if b && !rawSet s k then faultBegin k {} s else if !b && rawSet s k then faultEnd k s else s
  set 105 (up = 1 || up = 2) (set 104 (s.flag PAIR_CFG.EN && up = 0) s)

/-- R419: lane `l` of the Azium link comes up or goes down. -/
def laneSet (l : Nat) (up : Bool) (s : State) : State :=
  if s.flag (PAIR_LANE_STS.UP l) = up then s
  else
    let s := (s.put (PAIR_LANE_STS.UP l) up).wr PAIR_LINK_STS.LANE_UP (putBit (s.rd PAIR_LINK_STS.LANE_UP) l up)
    let s := s.put PAIR_LINK_STS.UP (s.rd PAIR_LINK_STS.LANE_UP != 0)
    let s := if up then s else raise Irq.PAIR_LANE_DOWN (s.inc PAIR_LANE_DOWN)
    linkFaults s

/-- HB_US is lowered so that HB_MISS periods fit into a slot less 500 µs (R429, R440). -/
def hbClamp (s : State) : State :=
  let top := lenUs s - 500
  if top < s.rd PAIR_HB_CFG.HB_US * s.rd PAIR_HB_CFG.HB_MISS then s.wr PAIR_HB_CFG.HB_US (top / s.rd PAIR_HB_CFG.HB_MISS) else s

/-- R424: a command that changes node, key, forwarding, schedule or campaign state is denied on a STANDBY or a FENCED chip. -/
def withOwner (ring op tag : Nat) (f : State → State) (s : State) : Result :=
  withCmd ring (fun s => if owns s then f s else cmdPlain ring op tag 0xF3 s) s

end Sys2Proof.Machine
end

