-- ==== Sys2Proof/Machine/Keys.lean ====
section
/-!
DEFINITION. Keys as several units use them (R156 to R158, R165, R319, R329, R332, R333): Cave slots and their shares, the Key Table, the key
cache, keys wrapped under KTK, the ratchet.
-/

namespace Sys2Proof.Machine

/-- Change what the Cave holds. -/
def modCave (f : Cave → Cave) (s : State) : State := { s with cave := f s.cave }

/-- R343, R344: no key exists: every engine request counts as aborted. -/
def caveDown (s : State) : Bool := s.rd KEY_STS.STATE = 4 || s.rd KEY_STS.STATE = 5

/-! Cave slots -/

/-- The field of KEY_SLOT_STS that shows Cave slot `k`. -/
def slotFld (k : Nat) : Fld :=
  match k % 4 with
  | 0 => KEY_SLOT_STS.SLOT_0 (k / 4)
  | 1 => KEY_SLOT_STS.SLOT_1 (k / 4)
  | 2 => KEY_SLOT_STS.SLOT_2 (k / 4)
  | _ => KEY_SLOT_STS.SLOT_3 (k / 4)

/-- Cave slot `k` takes status `v` (VALID, KIND, generation); KEY_STS.SLOTS counts the valid ones (R319). -/
def slotSet (k v : Nat) (s : State) : State :=
  let s := s.wr (slotFld k) v
  s.wr KEY_STS.SLOTS ((List.range 32).filter (fun j => (s.rd (slotFld j)).testBit 0)).length

/-- Cave slot `k` is valid. -/
def slotOn (s : State) (k : Nat) : Bool := (s.rd (slotFld k)).testBit 0

/-- The two shares of Cave slot `k`. -/
def slotShares (s : State) (k : Nat) : Nat × Nat := Store.find (0, 0) s.cave.slots k

/-- The shares of Cave slot `k` are written. -/
def sharesPut (k : Nat) (v : Nat × Nat) (s : State) : State := modCave (fun c => { c with slots := Store.put (0, 0) c.slots k v }) s

/-- Cave slot `k` takes a key, split by a random mask, and status `v` (R319). -/
def slotFill (k v key : Nat) (s : State) : State := slotSet k v (sharesPut k (s.free 256, key ^^^ s.free 256) s.took)

/-- Cave slot `k` is cleared. -/
def slotClear (k : Nat) (s : State) : State := slotSet k 0 (sharesPut k (0, 0) s)

/-- The key in Cave slot `k`, `n` octets; none when the slot is not valid. -/
def slotKey (s : State) (k n : Nat) : Option (List Nat) :=
  if slotOn s k then some (leOctets n ((slotShares s k).1 ^^^ (slotShares s k).2)) else none

/-! Octets and words -/

/-- `n` octets of the words `l`, the lowest octet of a word first. -/
def wordsTake (n : Nat) (l : List Nat) : List Nat := (l.flatMap (leOctets 4)).take n

/-- Octets as words, the lowest octet first. -/
def octetWords (l : List Nat) : List Nat := (cutInto 4 l.length l).map leNat

/-- Words as octets, the lowest octet first. -/
def wordOctets (l : List Nat) : List Nat := l.flatMap (leOctets 4)

/-- The six words of a wrapped key. -/
def wrapWords (key : Nat) : List Nat := octetWords (leOctets 24 key)

/-! Wrapped keys -/

/-- A 24-octet value unwrapped under the key of Cave slot `k` (R329, R330); none when the slot is not valid or the integrity check fails. -/
def keyOpen (s : State) (k wrapped : Nat) : Option (List Nat) := (slotKey s k 32).bind (fun kek => kwUnwrap kek (leOctets 24 wrapped))

/-- A 16-octet key wrapped under the key of Cave slot `k`. -/
def keyClose (s : State) (k : Nat) (key : List Nat) : Nat := leNat (kwWrap ((slotKey s k 32).getD (List.replicate 32 0)) key)

/-- Bastis's EUI-64 (R121). -/
def rootEui (s : State) : Nat := s.rd MAC_EUI_LO.EUI + 2 ^ 32 * s.rd MAC_EUI_HI.EUI

/-- R165: the next generation of a wrapped pairwise key, wrapped. -/
def ratchetNext (s : State) (wrapped eui gen : Nat) : Nat :=
  match keyOpen s 0 wrapped with
  | some key => keyClose s 0 (aesCmac key ([0x46, 0x47, 0x42, 0x52] ++ leOctets 8 eui ++ leOctets 8 (rootEui s) ++ [gen]))
  | none => wrapped

/-! Derivation (R323) -/

/-- A label, in ASCII. -/
def ascii (l : String) : List Nat := l.toList.map Char.toNat

/-- LCK of R323: 1 in PROVISION and FIELD, 2 in RETURN. -/
def lck (s : State) : Nat := if s.rd SYS_LC_STS.LC = 8 then 2 else 1

/-- What the key-derivation unit makes of the DUS: `n` octets. -/
def dusKdf (s : State) (label : String) (context : List Nat) (n : Nat) : List Nat := kdf (leOctets 32 s.fuse.dus) (ascii label) context n

/-- The Caursis public key, and the owner's as it is fused (R359). -/
def caursisPub : List Nat := leOctets 32 Config.caursisKey
def ownerPub (s : State) : List Nat := s.fuse.owner.flatMap (leOctets 4)

/-- KTK: it hangs on the DUS and the Cellar secret (R323, R331). -/
def ktkOf (s : State) : List Nat := dusKdf s "FGB-KTK" (lck s :: leOctets 32 s.cel.secretKey) 32

/-- The exchange key XCHG. -/
def xchgOf (s : State) : List Nat := dusKdf s "FGB-XCHG" [lck s] 32

/-- KEY_HOSTPUB as octets. -/
def hostpub (s : State) : List Nat := (List.range 8).flatMap (fun i => leOctets 4 (s.rd (KEY_HOSTPUB.K i)))

/-- HTK, shared with the host (R323, R330). -/
def htkOf (s : State) : List Nat :=
  kdf (x25519 ((slotKey s 4 32).getD (xchgOf s)) (hostpub s)) (ascii "FGB-HTK") (leOctets 8 (rootEui s) ++ hostpub s) 32

/-- PTK, shared with the peer (R421): the lower EUI-64 goes first. -/
def ptkOf (s : State) : List Nat :=
  let peer := (List.range 8).flatMap (fun i => leOctets 4 (s.rd (PAIR_PEER_PUB.K i)))
  let e := s.rd PAIR_PEER_EUI_LO.EUI + 2 ^ 32 * s.rd PAIR_PEER_EUI_HI.EUI
  kdf (x25519 (xchgOf s) peer) (ascii "FGB-PTK") (leOctets 8 (min (rootEui s) e) ++ leOctets 8 (max (rootEui s) e)) 32

/-- A key that the peer sent wrapped under PTK, wrapped under the chip's own KTK (R421, R425); none when its integrity check fails. -/
def rewrap (s : State) (wrapped : Nat) : Option Nat :=
  let ptk := leOctets 32 (s.pair.ptkShares.1 ^^^ s.pair.ptkShares.2)
  (kwUnwrap ptk (leOctets 24 wrapped)).map (fun key => leNat (kwWrap ((slotKey s 0 32).getD (ktkOf s)) key))

/-! The Key Table and the key cache -/

/-- Key Table entry `k` (R156). -/
def keyEntry (s : State) (k : Nat) : Nat := Store.find 0 s.sec.keyTable k

/-- The key cache takes the entries `l`; SEC_KC_STS.USED counts them. -/
def cacheSet (l : List KcEntry) (s : State) : State := { s with sec := { s.sec with cache := l } }.wr SEC_KC_STS.USED l.length

/-- The place that a new entry takes in a cache that holds `l`, the most recently used first (R157): a free one, the lowest, else that of
the least recently used. DESIGN CHOICE (log entry 29): which of several free places. -/
def cachePlace (l : List KcEntry) : Nat :=
  if l.length < 4096 then ((List.range 4096).find? (fun p => !l.any (fun e => e.place = p))).getD 0
  else (l.getLast?.map (·.place)).getD 0

/-- R157, R332: the unwrap unit puts the key of Key Table entry `k` into the cache as two shares, the least recently used out. A value that
does not unwrap is not cached. -/
def cacheFill (k : Nat) (s : State) : State :=
  match keyOpen s 0 (keyEntry s k) with
  | some key =>
    let m := s.free 128
    let l := s.sec.cache.filter (fun e => e.ix != k)
    let e : KcEntry := { ix := k, place := cachePlace l, a := m, b := leNat key ^^^ m }
    cacheSet ((e :: l).take 4096) s.took
  | none => s

/-- R329: the cache misses entry `k`, and what the Key Table holds there fails its integrity check under KTK: memory is damaged. -/
def keyDamaged (s : State) (k : Nat) : Bool :=
  !s.sec.cache.any (fun e => e.ix = k) && slotOn s 0 && (keyOpen s 0 (keyEntry s k)).isNone

/-- R157: the key cache is looked up for entry `k`: a hit, now the most recently used, or a miss. -/
def kcLookup (k : Nat) (s : State) : State :=
  match s.sec.cache.find? (fun e => e.ix = k) with
  | some e => cacheSet (e :: s.sec.cache.filter (fun e => e.ix != k)) (s.inc SEC_KC_HIT)
  | none => cacheFill k (s.inc SEC_KC_MISS)

/-- R157: a write to Key Table entry `k` invalidates its cached copy. -/
def keyWrite (k key : Nat) (s : State) : State :=
  let s := cacheSet (s.sec.cache.filter (fun e => e.ix != k)) s
  mirCount PAIR_KEY_MIRRORED { s with sec := { s.sec with keyTable := Store.put 0 s.sec.keyTable k key } }

/-! Group keys -/

/-- Group key `j` of Ward `w` (0 PREV, 1 CUR, 2 NEXT) into its slot, from the wrapped copy that the Cave keeps (R158, R319), under generation
`g`; no key exists in WIPED and DEAD (R343). -/
def groupSlot (w j g : Nat) (s : State) : State :=
  match (Store.find none s.sec.group (w * 3 + j)).bind (keyOpen s 0) with
  | some key => if caveDown s then slotClear (8 + 3 * w + j) s else slotFill (8 + 3 * w + j) (9 + 16 * g) (leNat key) s
  | none => slotClear (8 + 3 * w + j) s

/-- The group slots of Ward `w` follow its keys. -/
def groupView (w : Nat) (s : State) : State :=
  groupSlot w 2 (s.rd (SEC_W_GRP.NEXT_GEN w)) (groupSlot w 1 (s.rd (SEC_W_GRP.CUR_GEN w)) (groupSlot w 0 (Store.find 0 s.sec.prevGen w) s))

/-- R333: the Brine re-masks the shares of entry `p`: 0 to 4,095 the key cache, then the Cave slots. -/
def brineMask (p : Nat) (s : State) : State :=
  if p < 4096 then
    let r := s.free 128
    let mask (e : KcEntry) : KcEntry := if e.place = p then { e with a := e.a ^^^ r, b := e.b ^^^ r } else e
    if s.sec.cache.any (fun e => e.place = p) then { s with sec := { s.sec with cache := s.sec.cache.map mask } }.took else s
  else if slotOn s (p - 4096) then
    let v := slotShares s (p - 4096)
    sharesPut (p - 4096) (v.1 ^^^ s.free 256, v.2 ^^^ s.free 256) s.took
  else s

end Sys2Proof.Machine
end

