-- ==== Sys2Proof/Machine/SecOps.lean ====
section
/-!
DEFINITION. Link security as several units use it (R151 to R180): REKEY bits, counters and their reservations, the
checks of a received frame, group keys, and the journal's headers and records.
-/

namespace Sys2Proof.Machine

/-- R180: STRICT_ACTIVE of Ward `w` clears when no node is pending and the group switch has happened. -/
def strictEnd (w : Nat) (s : State) : State :=
  if s.flag (SEC_W_CFG.STRICT_ACTIVE w) && s.rd (SEC_W_PEND.COUNT w) = 0 && Store.find false s.sec.switched w then
    s.put (SEC_W_CFG.STRICT_ACTIVE w) false
  else s

/-- The REKEY bit of a node sets (R167); `resend` marks a strict restart (R180). -/
def rekeySet (nix : Nat) (resend : Bool) (s : State) : State :=
  let s := if rekeyOf s nix then s else s.inc (SEC_W_PEND.COUNT (s.node nix).ward)
  let s := mirSend 1 (rekeyPut nix true s)
  if resend then { s with sec := { s.sec with resend := Store.put false s.sec.resend nix true } } else s

/-- The REKEY bit and what goes with it clear (R168, R180). -/
def rekeyClear (nix : Nat) (s : State) : State :=
  let w := (s.node nix).ward
  let s := if rekeyOf s nix then s.sub (SEC_W_PEND.COUNT w) 1 else s
  let s := rekeyPut nix false s
  let s := { s with sec := { s.sec with
    resend := Store.put false s.sec.resend nix false
    strictWait := Store.put false s.sec.strictWait nix false } }
  strictEnd w (mirSend 1 s)

/-- R434: after a forced takeover LAGGING clears when no node is pending and every enabled Ward has switched its group key. -/
def lagCheck (s : State) : State :=
  let done := (List.range 8).all (fun w => s.rd (SEC_W_PEND.COUNT w) = 0 && !(s.flag (MAC_WARD_PAN.EN w) && Store.find false s.pair.wards w))
  if s.flag PAIR_LAST.LAGGING && s.pair.forced && done then modPair (fun x => { x with forced := false }) (s.put PAIR_LAST.LAGGING false) else s

/-- R176: RX_FC of a record, `old` before, has changed: the next pass writes its snapshot. -/
def rxDirty (nix old : Nat) (s : State) : State :=
  if (s.node nix).rxFc = old || s.sec.dirty.contains nix then s else { s with sec := { s.sec with dirty := s.sec.dirty ++ [nix] } }

/-- A node leaves the halt of R164. -/
def haltDrop (nix : Nat) (s : State) : State :=
  if Store.find false s.sec.halted nix then
    let s := s.sub (SEC_W_HALT.COUNT (s.node nix).ward) 1
    { s with sec := { s.sec with halted := Store.put false s.sec.halted nix false } }
  else s

/-- A node leaves the halt of R164, or of R434. -/
def haltClear (nix : Nat) (s : State) : State :=
  haltDrop nix (lagCheck (modPair (fun x => { x with halted := Store.put false x.halted nix false }) s))

/-- R164: an entry of SEC_KEYLOW_LOG and its per-occurrence event: `kind` 0 KEY_LOW TX, 1 KEY_LOW RX, 2 KEY_EXHAUSTED, 3 KEY_LOW GROUP. -/
def keyLog (nix gen kind ward counter : Nat) (s : State) : State :=
  let p := s.rd SEC_STS.LOG_WP
  let s := ((s.wr (SEC_KEYLOW_LOG.NIX p) nix).wr (SEC_KEYLOW_LOG.GEN p) gen).wr (SEC_KEYLOW_LOG.KIND p) kind
  let s := (s.wr (SEC_KEYLOW_LOG.WARD p) ward).wr SEC_STS.LOG_WP (p + 1)
  let b := if kind = 2 then Irq.SEC_KEY_EXHAUSTED else Irq.SEC_KEY_LOW
  occur b { code := 0, block := 0, arg := kind, words := [s.rc32, counter], nix := if kind = 3 then none else some nix, ward := ward } s

/-- The reservation block of R163. -/
def resBlock (s : State) : Nat := 2 ^ s.rd SEC_RES_CFG.BLOCK_LOG2

/-! The journal device -/

/-- The header in use (R172): the valid copy with the higher HSEQ; `false` names copy A. -/
def jnlHeader (s : State) : Option (Bool × JnlHeader) :=
  let a := hdrOf s.jdev.mem false
  let b := hdrOf s.jdev.mem true
  match a.valid, b.valid with
  | false, false => none
  | true, false => some (false, a)
  | false, true => some (true, b)
  | true, true => if a.hseq < b.hseq then some (true, b) else some (false, a)

/-- Change the octets of the journal device. -/
def modJnl (f : Memory → Memory) (s : State) : State := { s with jdev := { s.jdev with mem := f s.jdev.mem } }

/-- A header is written to the other copy, with HSEQ one above the last (R172). -/
def jnlWriteHeader (f : JnlHeader → JnlHeader) (s : State) : State :=
  match jnlHeader s with
  | none => s
  | some (inB, h) => modJnl (hdrPut (!inB) { f h with hseq := (h.hseq + 1) % 2 ^ 32 }) s

/-- Records the ring can hold (R172, R173). -/
def jnlRingSize (s : State) : Nat := 512 * 2 ^ s.rd SEC_JNL_CFG.RING

/-- NIX_LIMIT of R172. -/
def nixLimit (s : State) : Nat :=
  min 262144 ((2 ^ (20 + s.rd SEC_JNL_CFG.SIZE_LOG2) - 4096 - 32 * jnlRingSize s) / 8)

/-- R177: after a CLOSE, the first reservation, key command or snapshot request reopens the journal. -/
def jnlReopen (s : State) : State :=
  if s.sec.opened && s.rd SEC_JNL_STS.STATE = 0 then
    let s := (jnlWriteHeader (fun h => { h with clean := false }) (s.wr SEC_JNL_STS.STATE 2)).put SEC_STS.JNL_OPEN true
    { s with sec := { s.sec with snapAt := s.rc } }
  else s

/-- A trace entry of SEC_JNL_TRACE: `res` 0 committed, 1 write error, 2 copied. -/
def jnlTrace (r : JnlRec) (res : Nat) (s : State) : State :=
  let p := s.rd SEC_STS.TRACE_WP
  let s := ((s.wr (SEC_JNL_TRACE_A.SEQ p) r.seq).wr (SEC_JNL_TRACE_B.TYPE p) r.typ).wr (SEC_JNL_TRACE_B.NIX p) r.key
  ((s.wr (SEC_JNL_TRACE_B.GEN p) r.gen).wr (SEC_JNL_TRACE_B.RES p) res).wr SEC_STS.TRACE_WP (p + 1)

/-- A reservation for the same node or group is outstanding (R163). -/
def reserving (s : State) (typ key : Nat) : Bool := s.sec.waiting.any (fun r => r.entry.typ = typ && r.entry.key = key)

/-- A reservation goes to the journal: it waits for its commit. In a pair its mirror record goes at once (R425). -/
def reserveGo (r : Reserve) (s : State) : State :=
  let s := mirSend 1 (jnlReopen s)
  let m := if s.pair.mirror then some (s.rd PAIR_MIR_SEQ.MSEQ) else none
  { s with sec := { s.sec with waiting := s.sec.waiting ++ [{ r with mseq := m }] } }

/-- R163: a reservation is requested; while one for the same node or group is outstanding, it waits behind it. -/
def reserve (r : Reserve) (s : State) : State :=
  if reserving s r.entry.typ r.entry.key then { s with sec := { s.sec with behind := s.sec.behind ++ [r] } } else reserveGo r s

/-- R163: the reservation of a node or group is done, and the one that waits behind it is requested. -/
def reserveNext (typ key : Nat) (s : State) : State :=
  let mine (r : Reserve) : Bool := r.entry.typ = typ && r.entry.key = key
  match s.sec.behind.find? mine with
  | some r =>
    let l := s.sec.behind
    let s := { s with sec := { s.sec with behind := l.takeWhile (fun x => !mine x) ++ (l.dropWhile (fun x => !mine x)).drop 1 } }
    reserveGo r s
  | none => s

/-- R163 for a node: the next block is requested when a quarter of a block or less is left. -/
def reserveNode (nix : Nat) (s : State) : State :=
  let r := s.node nix
  if (r.txFcCeil - r.txFc) * 4 ≤ resBlock s && r.txFcCeil < fcEnd && !reserving s 1 nix then
    reserve { entry := { typ := 1, key := nix, gen := r.kgen, ceil := min (r.txFcCeil + resBlock s) fcEnd } } s
  else s

/-- R163 for the group counter of Ward `w`. -/
def reserveGroup (w : Nat) (s : State) : State :=
  let c := s.rd (SEC_W_GTX_CEIL.CEIL w)
  let g := s.rd (SEC_W_GRP.CUR_GEN w)
  if (c - s.rd (SEC_W_GTX_FC.FC w)) * 4 ≤ resBlock s && c < fcEnd && !reserving s 2 w then
    reserve { entry := { typ := 2, key := w, gen := g, ceil := min (c + resBlock s) fcEnd } } s
  else s

/-- R162, R163: a frame of node `nix` is not eligible; where its counter equals the ceiling it counts, and the next block is requested. -/
def waitNode (nix : Nat) (s : State) : State :=
  if s.flag SEC_CFG.EN then reserveNode nix (s.when ((s.node nix).txFc = (s.node nix).txFcCeil) (fun s => s.inc SEC_TX_JNL_WAIT)) else s

/-- R162, R163: the same for a frame under the group key of Ward `w`. -/
def waitGroup (w : Nat) (s : State) : State :=
  if s.flag SEC_CFG.EN then
    reserveGroup w (s.when (s.rd (SEC_W_GTX_FC.FC w) = s.rd (SEC_W_GTX_CEIL.CEIL w)) (fun s => s.inc SEC_TX_JNL_WAIT))
  else s

/-- R162, R434: a counter may be taken for a node. -/
def fcReady (s : State) (nix : Nat) : Bool := (s.node nix).txFc < (s.node nix).txFcCeil && !Store.find false s.pair.halted nix

/-- R162, R434: a counter may be taken for Ward `w`'s broadcast. -/
def groupReady (s : State) (w : Nat) : Bool :=
  s.rd (SEC_W_GTX_FC.FC w) < s.rd (SEC_W_GTX_CEIL.CEIL w) && (Store.find none s.sec.group (w * 3 + 1)).isSome
    && !Store.find false s.pair.wards w && !caveDown s

/-- R164: TX_FC of a node has moved on from `old`: KEY_LOW and KEY_EXHAUSTED where it has reached their counters. -/
def fcMark (nix old : Nat) (s : State) : State :=
  let r := s.node nix
  let s := if old < fcLow && fcLow ≤ r.txFc then
      let s := keyLog nix r.kgen 0 r.ward r.txFc s
      if s.flag SEC_CFG.AUTO_RATCHET then rekeySet nix false s else s
    else s
  if old < fcEnd && fcEnd ≤ r.txFc then
    let s := (keyLog nix r.kgen 2 r.ward r.txFc (s.inc SEC_TX_EXHAUSTED)).inc (SEC_W_HALT.COUNT r.ward)
    { s with sec := { s.sec with halted := Store.put false s.sec.halted nix true } }
  else s

/-- R164: the group counter of Ward `w` has moved on from `old`. -/
def groupMark (w old : Nat) (s : State) : State :=
  let c := s.rd (SEC_W_GTX_FC.FC w)
  if old < fcLow && fcLow ≤ c then keyLog 0 (s.rd (SEC_W_GRP.CUR_GEN w)) 3 w c s else s

/-- R162 to R164: a counter is taken for a node. -/
def fcTake (nix : Nat) (s : State) : Nat × State :=
  let n := (s.node nix).txFc
  (n, reserveNode nix (fcMark nix n (s.modNode nix (fun r => { r with txFc := n + 1 }))))

/-- R162 to R164: a group counter is taken. -/
def groupTake (w : Nat) (s : State) : Nat × State :=
  let c := s.rd (SEC_W_GTX_FC.FC w)
  (c, reserveGroup w (groupMark w c (s.wr (SEC_W_GTX_FC.FC w) (c + 1))))

/-- R168: the node's key ratchets to the next generation, wrapped into its Key Table entry and into the cache; its counters restart and a
reservation with ADV is requested. -/
def ratchetAdvance (nix : Nat) (s : State) : State :=
  let r := s.node nix
  let g := (r.kgen + 1) % 16
  let key := ratchetNext s (keyEntry s r.keyIx) r.eui g
  let s := cacheFill r.keyIx (keyWrite r.keyIx key s)
  let s := s.modNode nix (fun r => { r with kgen := g, txFc := fcFirst, txFcCeil := fcFirst })
  let s := haltClear nix (rekeyClear nix s)
  reserve { entry := { typ := 1, key := nix, gen := g, ceil := fcFirst + resBlock s, adv := true }, ratchet := some (r.ward, key) } s

/-- R168, step 4: the reservation of a ratchet has been committed. -/
def ratchetDone (nix gen ward key : Nat) (s : State) : State :=
  let s := (s.inc SEC_KGEN_ADV).inc SEC_RATCHET_OK
  occur Irq.SEC_KEY_ADV { code := 0, block := 0, arg := gen, words := wrapWords key, nix := some nix, ward := ward } s

/-- The result of R160 for a frame: its verdict, the Whey code of a refusal, and whether it is a ratchet attempt. -/
structure SecResult where
  verdict : Verdict
  whey : Nat := 0
  attempt : Bool := false
deriving DecidableEq, Repr

/-- Step 7 of R160, with the strict rule of R180. -/
def counterCheck (s : State) (nix : Nat) (h : MacHdr) (fc : Nat) : SecResult :=
  let r := s.node nix
  if r.rxKgen = 0xFF || r.rxFc < fc then
    if Store.find false s.sec.strictWait nix && h.kt = 1 && h.gen = r.kgen then { verdict := .repeated } else { verdict := .accept }
  else if fc = r.rxFc && (h.dsn = none || h.dsn = some r.rxDsn) && h.gen = r.rxKgen then { verdict := .repeated }
  else { verdict := .replay, whey := 1 }

/-- R180: generation `gen` is the one in force at the strict restart of Ward `w`, which goes on. -/
def strictRefuses (s : State) (w gen : Nat) : Bool := s.flag (SEC_W_CFG.STRICT_ACTIVE w) && gen = Store.find 0 s.sec.strictGen w

/-- Step 5 of R160 for a group frame of Ward `w` (R158, R171, R177, R180). -/
def groupGenOk (s : State) (w gen : Nat) : Bool :=
  let cur := gen = s.rd (SEC_W_GRP.CUR_GEN w) && (Store.find none s.sec.group (w * 3 + 1)).isSome
  let prev := s.flag (SEC_W_GRP.PREV_VALID w) && gen = Store.find 0 s.sec.prevGen w
  (cur || prev) && !strictRefuses s w gen

/-- R160: the checks of a received frame from record `nix` of Ward `w`, in order; `mic` is the outcome under the selected key. -/
def secCheck (s : State) (nix w : Nat) (h : MacHdr) (mic : Bool) : SecResult :=
  let r := s.node nix
  if !h.sec then { verdict := .unsec, whey := 10 }
  else if !(s.rd (SEC_W_CFG.ACCEPT_MASK w)).testBit h.level then { verdict := .micFail, whey := 2 }
  else if h.kidMode != 1 || (h.kt != 1 && h.kt != 2) then { verdict := .micFail, whey := 3 }
  else
    match h.fc with
    | none => { verdict := .micFail, whey := 5 }
    | some fc =>
      let att := h.kt = 1 && h.gen = (r.kgen + 1) % 16
      if fc = 0xFFFFFFFF then { verdict := .micFail, whey := 5 }
      else if h.kt = 1 && h.gen != r.kgen && !att then { verdict := .micFail, whey := 4 }
      else if h.kt = 2 && !groupGenOk s w h.gen then { verdict := .micFail, whey := 4 }
      else if !mic then { verdict := .micFail, whey := 6, attempt := att }
      else { counterCheck s nix h fc with attempt := att }

/-- A refusal counts in its SEC_WHEY counter (R161). -/
def secWhey (code : Nat) (s : State) : State :=
  match code with
  | 1 => s.inc SEC_WHEY_REPLAY
  | 2 => s.inc SEC_WHEY_LEVEL
  | 3 => s.inc SEC_WHEY_KEYID
  | 4 => s.inc SEC_WHEY_KGEN
  | 5 => s.inc SEC_WHEY_FC
  | 6 => s.inc SEC_WHEY_MIC
  | 7 => s.inc SEC_WHEY_TAMPER
  | _ => s

/-- R171: the group keys of Ward `w` rotate: CUR becomes PREV, NEXT becomes CUR; the group counter and its ceiling start again. -/
def groupRotate (w : Nat) (s : State) : State :=
  let cur := Store.find none s.sec.group (w * 3 + 1)
  let nxt := Store.find none s.sec.group (w * 3 + 2)
  let g := Store.put none (Store.put none (Store.put none s.sec.group (w * 3) cur) (w * 3 + 1) nxt) (w * 3 + 2) none
  let s := { s with sec := { s.sec with
    group := g
    prevGen := Store.put 0 s.sec.prevGen w (s.rd (SEC_W_GRP.CUR_GEN w))
    prevEnd := Store.put 0 s.sec.prevEnd w (s.rc + s.rd (SEC_W_GRP.GRACE_S w) * 1000000000)
    switched := Store.put false s.sec.switched w true
    switchAt := Store.put none s.sec.switchAt w none } }
  let s := (s.put (SEC_W_GRP.PREV_VALID w) cur.isSome).wr (SEC_W_GRP.CUR_GEN w) (s.rd (SEC_W_GRP.NEXT_GEN w))
  let s := ((s.put (SEC_W_GRP.NEXT_VALID w) false).put (SEC_W_GSW_HI.ARM w) false).wr (SEC_W_GTX_FC.FC w) fcFirst
  groupView w (s.wr (SEC_W_GTX_CEIL.CEIL w) fcFirst)

/-- R171: the group keys of Ward `w` switch: the first reservation is requested, behind one for the old generation that is outstanding (R163),
and the switch is mirrored (R425). -/
def groupSwitch (w : Nat) (s : State) : State :=
  let s := mirCount PAIR_KEY_MIRRORED (groupRotate w s)
  let s := reserve { entry := { typ := 2, key := w, gen := s.rd (SEC_W_GRP.CUR_GEN w), ceil := fcFirst + resBlock s } } s
  let s := lagCheck (modPair (fun x => { x with wards := Store.put false x.wards w false }) s)
  strictEnd w (raiseWard Irq.SEC_GRP_SWITCHED w s)

end Sys2Proof.Machine
end

