-- ==== Sys2Proof/Machine/MacOps.lean ====
section
/-!
DEFINITION. What the MAC and the lanes do (R92 to R122), as several commands use it: templates, traces, lanes, link outcomes, acks.
-/

namespace Sys2Proof.Machine

/-- R122: an entry of MAC_TRACE while TRACE_EN is 1. -/
def macTrace (code nix lane detail : Nat) (s : State) : State :=
  if s.flag MAC_CFG.TRACE_EN then
    let p := s.rd MAC_STS.TRACE_WP
    let s := s.wr (MAC_TRACE.WORD (2 * p)) (s.asn % 2 ^ 24 + code * 2 ^ 24)
    let s := s.wr (MAC_TRACE.WORD (2 * p + 1)) (nix % 2 ^ 18 + lane % 4 * 2 ^ 18 + detail % 4096 * 2 ^ 20)
    s.wr MAC_STS.TRACE_WP (p + 1)
  else s

/-- R96: the fields of template `t` are clamped in the order of the rule, and what follows from them is recomputed (R89, R108). -/
def templateClamp (t : Nat) (s : State) : State :=
  let len := lenUs s
  let s := s.wr (MAC_TT_TX.TX_COMMIT t) (clampN 100 (min 16383 (len - 1)) (s.rd (MAC_TT_TX.TX_COMMIT t)))
  let s := s.wr (MAC_TT_TX.TX_OFS t) (clampN (s.rd (MAC_TT_TX.TX_COMMIT t)) (len - 1) (s.rd (MAC_TT_TX.TX_OFS t)))
  let s := s.wr (MAC_TT_GUARD.GUARD t) (min (s.rd (MAC_TT_GUARD.GUARD t)) (s.rd (MAC_TT_TX.TX_OFS t)))
  let s := s.wr (MAC_TT_ACK.TX_ACK_DELAY t) (clampN 400 10000 (s.rd (MAC_TT_ACK.TX_ACK_DELAY t)))
  let s := s.wr (MAC_TT_RXACK.RX_ACK_DELAY t) (clampN 400 10000 (s.rd (MAC_TT_RXACK.RX_ACK_DELAY t)))
  let s := s.wr (MAC_TT_RXACK.ACK_WAIT t) (clampN 100 4000 (s.rd (MAC_TT_RXACK.ACK_WAIT t)))
  let g := s.rd (MAC_TT_GUARD.GUARD t)
  let s := s.wr (MAC_TT_EFF.EARLY t) (min (g / 2) (s.rd (MAC_TT_TX.TX_COMMIT t) - 100))
  let s := s.wr (MAC_TT_EFF.LATE t) (g / 2)
  s.wr (CHZ_OOG.EFF t) (oogLimit s t / 10)

/-- What lane `n` holds. -/
def laneOf (s : State) (n : Nat) : Lane := Store.find {} s.lanes n

/-- Change what lane `n` holds. -/
def modLane (n : Nat) (f : Lane → Lane) (s : State) : State := { s with lanes := Store.put {} s.lanes n (f (laneOf s n)) }

/-- Change what the MAC holds. -/
def modMac (f : Mac → Mac) (s : State) : State := { s with mac := f s.mac }

/-- The state of lane `n` follows EN and ARM; a hang lasts (MAC_LS_STS). -/
def laneView (n : Nat) (s : State) : State :=
  if s.rd (MAC_LS_STS.STATE n) = 3 then s
  else s.wr (MAC_LS_STS.STATE n) (if !s.flag (MAC_LS_CTL.EN n) then 0 else if s.flag (MAC_LS_SWAP.ARM n) then 2 else 1)

/-- The ASN is at or past the end of a span (R97). -/
def spanOver (s : State) (x : Span) : Bool := x.cell.span + 1 ≤ (s.asn + asnMod - x.asn) % asnMod

/-- A span of lane `n` is in progress: a cell it runs, or a QUIET cell of its front end (R102). -/
def laneInSpan (s : State) (n : Nat) : Bool :=
  !(laneOf s n).spans.isEmpty || s.mac.began.any (fun x => x.cell.fe = n && x.cell.typ = 5 && !spanOver s x)

/-- A span is in progress on lane `n` (MAC_LS_STS.IN_SPAN): some cell of more than one slot, a QUIET cell of its front end among them. -/
def spanView (n : Nat) (s : State) : State :=
  let long (x : Span) : Bool := 0 < x.cell.span
  let quiet (x : Span) : Bool := x.cell.fe = n && x.cell.typ = 5 && !spanOver s x
  s.put (MAC_LS_STS.IN_SPAN n) ((laneOf s n).spans.any long || s.mac.began.any (fun x => long x && quiet x))

/-- R107: PDR after a transmission. -/
def pdrStep (shift pdr : Nat) (acked : Bool) : Nat :=
  unsg 16 ((pdr : Int) + (((if acked then (65535 : Int) else 0) - pdr) / (2 : Int) ^ shift))

/-- R218: the policer bucket of a node after `us` µs, in 1/16 octet; the rate is 0 when the policer is off. -/
def polRefill (s : State) (r : Node) (us : Nat) : Int :=
  let rate := s.rd (SHP_PROF_RATE.UP r.rateIx)
  let burst := s.rd (SHP_PROF_BURST.UP r.burstIx)
  min ((burst : Int) * 16) (sgn 32 r.polTokens + rate * us * 16 / 1000000)

/-- µs from a record's LAST_ASN to ASN `a` (R108, R109, R218). -/
def elapsedUs (s : State) (r : Node) (a : Nat) : Nat := (a + asnMod - r.lastAsn % asnMod) % asnMod * lenUs s

/-- R107, R218: LAST_ASN becomes `a`; the policer is refilled first and no token is taken. -/
def touchAsn (nix a : Nat) (s : State) : State :=
  let r := s.node nix
  let tok := polRefill s r (elapsedUs s r a)
  s.modNode nix (fun r => { r with polTokens := unsg 32 tok, lastAsn := a % asnMod })

/-- A record is heard: JOINING becomes JOINED at the first frame that passes, QUIET becomes JOINED (R33); the quiet timeout restarts
(R120). -/
def nodeHeard (nix : Nat) (s : State) : State :=
  let s := modMac (fun m => { m with heard := Store.put 0 m.heard nix s.rc }) s
  let st := (s.node nix).state
  if st = .joining || st = .quiet then mirState nix (s.modNode nix (fun r => { r with state := .joined })) else s

/-- R109: DRIFT and LAST_ASN of a frame in guard or in limit; the policer is refilled on the same write (R218). -/
def driftUpdate (nix asn : Nat) (offset : Int) (s : State) : State :=
  let r := s.node nix
  let us := elapsedUs s r asn
  let d := if s.rd MAC_DRIFT_CFG.MIN_S * 1000000 ≤ us then
      let sample := clampI (-8388608) 8388607 ((-offset * 1000000).tdiv us)
      clampI (-8388608) 8388607 (r.drift + (sample - r.drift) / (2 : Int) ^ s.rd MAC_DRIFT_CFG.SHIFT)
    else r.drift
  let tok := polRefill s r us
  s.modNode nix (fun r => { r with drift := d, polTokens := unsg 32 tok, lastAsn := asn % asnMod })

/-- R87: the link-quality averages after a frame that the MAC accepts. `first` is the first accepted frame since joining. DESIGN CHOICE (log
entry 29): half a dB rounds up. -/
def linkQuality (nix : Nat) (rssi4 : Int) (lqi : Nat) (first : Bool) (s : State) : State :=
  let k := s.rd CHZ_CFG.AVG_SHIFT
  let dbm : Int := clampI (-128) 127 ((rssi4 * 2 + 4) / 8)
  s.modNode nix (fun r =>
    if first then { r with rssiAvg := dbm, lqiAvg := lqi }
    else { r with
      rssiAvg := r.rssiAvg + (dbm - r.rssiAvg) / (2 : Int) ^ k
      lqiAvg := unsg 8 ((r.lqiAvg : Int) + ((lqi : Int) - r.lqiAvg) / (2 : Int) ^ k) })

/-! What became of a frame sent (R107) -/

/-- The 6P sequence number after `n` (R141). -/
def p6Next (n : Nat) : Nat := if n = 255 then 1 else n + 1

/-- R141, R142: the transaction of answer `a` completes: what waits for it is staged, and the sequence number advances. -/
def p6Complete (a : P6Answer) (s : State) : State :=
  let s := modSrc (fun x => { x with p6ack := x.p6ack.filter (fun b => !decide (b = a)) }) (s.when a.ok (fun s => s.inc SRC_6P_OK))
  let s := polPut (p6SeqAt a.nix) (if a.clear then 0 else p6Next (p6Seq s a.nix)) s
  stage (a.adds.map (fun p => .add p.1 p.2 true) ++ a.dels.map (fun i => .del i true)) (stageCount a.adds.length a.dels.length (mirSend 1 s))

/-- R142: the node has acknowledged the answer that frame carried: its transaction completes, or waits for the confirmation of a 3-step
one. -/
def p6Acked (frame : Nat) (s : State) : State :=
  match s.src.p6ack.find? (fun a => a.frame = frame && !a.confirm) with
  | none => s
  | some a =>
    if a.three then modSrc (fun x => { x with p6ack := x.p6ack.map (fun b => if b = a then { b with confirm := true } else b) }) s
    else p6Complete a s

/-- An answer that is abandoned: cells committed early are deleted (R142, R143). -/
def p6Abandon (a : P6Answer) (s : State) : State :=
  let s := modSrc (fun x => { x with p6ack := x.p6ack.filter (fun b => !decide (b = a)) }) s
  stage (a.early.map (fun i => .del i true)) (stageCount 0 a.early.length s)

/-- A 6P answer that was dropped completes nothing. -/
def p6Dropped (frame : Nat) (s : State) : State :=
  match s.src.p6ack.find? (fun a => a.frame = frame && !a.confirm) with
  | none => s
  | some a => p6Abandon a s

/-- R107: the node's ack is accepted. -/
def txAcked (w : AckWait) (s : State) : State :=
  let f := nodeQFind s w.nix w.frame
  let s := match f with
    | some f => frameFree f (nodeQRemove w.nix w.frame s)
    | none => s
  let s := touchAsn w.nix w.asn s
  let s := s.modNode w.nix (fun r => { r with txOk := (r.txOk + 1) % 2 ^ 32, pdr := pdrStep (s.rd MAC_DRIFT_CFG.PDR_SHIFT) r.pdr true })
  p6Acked w.frame (s.inc (MAC_W_TX_OK w.ward))

/-- R107: the backoff of TSCH CSMA-CA in a shared cell: the exponent grows up to MAX_BE, and a random number of shared cells, a value the
spec leaves open below 2^BE, is skipped. -/
def backoff (s : State) (f : QFrame) : QFrame :=
  let be := match f.be with | none => s.rd MAC_RETRY_CFG.MIN_BE | some b => min (b + 1) (s.rd MAC_RETRY_CFG.MAX_BE)
  { f with be := some be, skip := s.free be }

/-- R107: no valid ack came. The queue of a record that has been fenced meanwhile is held as it is (R27). -/
def txUnacked (lane : Nat) (w : AckWait) (s : State) : State :=
  if (s.node w.nix).fenced then s else
  let s := s.modNode w.nix (fun r => { r with pdr := pdrStep (s.rd MAC_DRIFT_CFG.PDR_SHIFT) r.pdr false })
  match nodeQFind s w.nix w.frame with
  | none => s
  | some f =>
    if s.rd MAC_RETRY_CFG.MAX_RETRY ≤ f.retries then
      let s := p6Dropped w.frame (frameWhey 15 f (nodeQRemove w.nix w.frame s))
      macTrace 0x23 w.nix lane f.retries (s.inc (MAC_W_TX_RETRY_DROP w.ward))
    else
      let shared := w.typ = 3
      let s' := nodeQChange w.nix w.frame (fun f =>
        let f := { f with retries := f.retries + 1 }
        if shared then backoff s f else f) s
      if shared then s'.took else s'

/-! Acks (R111 to R116) -/

/-- A frame is addressed to Bastis itself (R110, R111): short address 0x0000, or its EUI-64. -/
def toRoot (s : State) (a : Addr) : Bool :=
  match a with
  | .short n => n = 0
  | .ext e => e = rootEui s
  | .none => false

/-- A frame is addressed to the broadcast short address. -/
def toAll (a : Addr) : Bool := a = .short 0xFFFF

/-- What the ack to a received frame carries (R114 to R116, R119, R155, R166). -/
def ackPlan (s : State) (f : RxFrame) : AckItem :=
  let tt := (f.cell.map (·.tt)).getD 0
  let join := f.verdict = some .join
  let ofs := f.offset / 1000
  let long := 2047 < ofs.natAbs
  let rk := match f.nix with | some x => rekeyOf s x | none => false
  let can := rk && s.rd MAC_TCX_OUI.OUI != 0 && !s.flag SEC_STS.ASN_HIGH && !join
  { start := f.endAt + s.rd (MAC_TT_ACK.TX_ACK_DELAY tt) * 1000
    plan := f.plan
    chan := f.chan
    phyc := f.phyc
    fcs4 := f.fcs4
    nix := if join then none else f.nix
    ward := (wardOf s f.hdr.pan).getD 0
    dst := f.hdr.src
    dsn := f.hdr.dsn.getD 0
    kgen := (s.node (f.nix.getD 0)).kgen
    tc := clampI (-2047) 2047 (-ofs)
    tcx := if long && s.flag MAC_ACK_CFG.TCX_EN && s.rd MAC_TCX_OUI.OUI != 0 then some (-ofs) else none
    rekey := if can then f.nix.map (fun x => ((s.node x).kgen + 1) % 16) else none
    plain := join || !s.flag MAC_ACK_CFG.SEC || s.flag SEC_STS.ASN_HIGH
    resend := if can && (match f.nix with | some x => Store.find false s.sec.resend x | none => false) then f.hdr.fc else none }

/-- The ack to a received frame: its octets, and the nonce of its MIC. DEDUCED from R116: the ack's slot is the one it is committed in. -/
def ackItem (s : State) (f : RxFrame) : AckItem :=
  let a := ackPlan s f
  { a with octets := ackOctets (s.rd MAC_TCX_OUI.OUI) a, nonce := if a.plain then [] else nonceAsn (rootEui s) s.asn }

/-- PSDU length of an ack (R114, R166): its octets, the MIC-32, the FCS. -/
def ackLen (a : AckItem) : Nat := a.octets.length + (if a.plain then 0 else 4) + (if a.fcs4 then 4 else 2)

/-- The RX-to-TX turnaround of R44, ns. -/
def turnNs : Nat := 36000

/-- The turnaround start of a frame's ack, ns of RC (R95, R112). -/
def ackTurn (s : State) (f : RxFrame) : Nat :=
  let tt := (f.cell.map (·.tt)).getD 0
  f.endAt + s.rd (MAC_TT_ACK.TX_ACK_DELAY tt) * 1000 - turnNs

/-- R111, check 4: the physical front end is reserved, over this ack, by a transmission committed earlier. -/
def reserved (s : State) (phys turn last : Nat) : Bool :=
  let f := s.feOf phys
  (f.tx.toList ++ f.txq).any (fun c => c.kind != .ack && turn < c.deadline + 36000 + c.air + 24000 && c.deadline < last + 24000)

/-- A transmission joins those of a front end that wait for their deadline. -/
def txInsert (c : TxCmd) : List TxCmd → List TxCmd
  | [] => [c]
  | d :: l => if c.deadline < d.deadline then c :: d :: l else d :: txInsert c l

/-- The span of cell `idx` on lane `n`. -/
def spanOf (s : State) (n idx : Nat) : Option Span := (laneOf s n).spans.find? (fun x => x.idx = idx)

/-- R21: what the fabric wrote at `w` meets a sample point of the RADIO island at `a` only when it was written three island cycles, 15.26 ns,
before; both are whole ns of RC. -/
def meets (w a : Nat) : Bool := w + 16 ≤ a

/-- The transmit commit point of span `x`, ns of RC (R95, R103). -/
def commitAt (s : State) (x : Span) : Nat :=
  x.tick + (s.rd (MAC_TT_TX.TX_OFS x.cell.tt) - s.rd (MAC_TT_TX.TX_COMMIT x.cell.tt)) * 1000

/-- The ack commit point of frame `f`, ns of RC (R20, R111): 64 µs before its turnaround. -/
def ackCommitAt (s : State) (f : RxFrame) : Nat := ackTurn s f - 64000

/-- R102, R149: the CRC of the image that bank `b` of `size` words was loaded with matches what the bank holds; a bank that no image was
loaded into shows no CRC here. -/
def bankWhole (size b : Nat) (uc : Store Nat) (h : Option UcHead) : Bool :=
  match h with
  | none => true
  | some h => crc32 (wordsTake h.len ((List.range (ceilDiv h.len 4)).map (fun i => Store.find 0 uc (b * size + i)))) = h.crc

end Sys2Proof.Machine
end

