-- ==== Sys2Proof/Machine/UpdOps.lean ====
section
/-!
DEFINITION. Update campaigns as several units use them (R302 to R316): partition, frame sizes, the end of a campaign, progress.
-/

namespace Sys2Proof.Machine

/-- Campaign slot `c`. -/
def campOf (s : State) (c : Nat) : Camp := Store.find {} s.camps c

/-- Change campaign slot `c`; the count of ready frames follows (UPD_READY). -/
def modCamp (c : Nat) (f : Camp → Camp) (s : State) : State :=
  let s := { s with camps := Store.put {} s.camps c (f (campOf s c)) }
  let n := (List.range 4).foldl (fun a k => a + (campOf s k).ready.length) 0
  (s.wr UPD_READY.FRAMES n).peak UPD_READY.PEAK n

/-- The state of slot `c`: 0 IDLE, 1 PREPARE, 2 RUN, 3 PAUSED, 4 END. -/
def campState (s : State) (c : Nat) : Nat := s.rd (UPD_C_STS.STATE c)

/-- A slot changes state; UPD_STS.ACTIVE follows. -/
def campGo (c st : Nat) (s : State) : State :=
  let s := s.wr (UPD_C_STS.STATE c) st
  s.wr UPD_STS.ACTIVE (putBit (s.rd UPD_STS.ACTIVE) c (st != 0 && st != 4))

/-- R316: a turn of slot `c` that the Press has in preparation is abandoned. -/
def pressAbandon (c : Nat) (s : State) : State :=
  if s.flag UPD_STS.PRESS_BUSY && s.rd UPD_PRESS_STS.SLOT = c then s.put UPD_STS.PRESS_BUSY false else s

/-- R314: a campaign ends and queues an announcement with STOP. -/
def campEnd (c why : Nat) (s : State) : State :=
  let s := pressAbandon c (campGo c 4 (s.wr (UPD_C_STS.END_WHY c) why))
  raiseAt Irq.UPD_CAMP_END c (modCamp c (fun x => { x with stopDue := true }) s)

/-- The campaign slot whose IMG_ID a record holds. -/
def campOfImg (s : State) (img : Nat) : Option Nat :=
  if img = 0 then none else (List.range 4).find? (fun c => campState s c != 0 && s.rd (UPD_C_STS.IMG_ID c) = img)

/-- R312, R314: a record leaves a campaign's count; the campaign ends COMPLETE in RUN when the count reaches 0 after an enrolment. -/
def campLess (c : Nat) (s : State) : State :=
  let s := s.sub (UPD_C_NODES.ACTIVE c) 1
  if campState s c = 2 && s.rd (UPD_C_NODES.ACTIVE c) = 0 && (campOf s c).enrolled then campEnd c 1 s else s

/-- R313: the header IE `p` of a frame of record `nix` is a progress report: MAC_TCX_OUI, length 9 and the octet 0x50. -/
def progressReport (nix : Nat) (p : Progress) (s : State) : State :=
  if !s.flag UPD_CFG.RPT_EN || p.len != 9 || p.oui != s.rd MAC_TCX_OUI.OUI || p.typ != 0x50 then s
  else
    let s := s.inc UPD_RPT_RX
    let r := s.node nix
    if p.img != r.imgId || !r.updActive || 4 ≤ p.status then s.inc UPD_RPT_STALE
    else
      let n := max r.symCnt (p.sym % 2 ^ 24)
      match p.status with
      | 0 => s.modNode nix (fun r => { r with symCnt := n })
      | k =>
        let s := s.modNode nix (fun r => { r with symCnt := if k = 1 then n else r.symCnt, updActive := false })
        let c := campOfImg s p.img
        let cnt (f : Nat → Fld) (s : State) : State := match c with | some c => s.inc (f c) | none => s
        let s := if k = 1 then cnt UPD_C_DONE.DONE (s.inc UPD_NODE_DONE)
          else if k = 2 then raiseNode Irq.UPD_NODE_FAIL 0 nix (cnt UPD_C_FAIL.FAIL (s.inc UPD_NODE_FAIL))
          else raiseNode Irq.UPD_NODE_FAIL 0 nix (cnt UPD_C_FAIL.FAIL (s.inc UPD_NODE_REFUSED))
        match c with
        | some c => campLess c s
        | none => s

/-- Octets of the MIC of a security level (R151). -/
def micLen (level : Nat) : Nat := [0, 4, 8, 16, 0, 4, 8, 16].getD level 0

/-- The address that frames to a record carry (R200). -/
def linkAddr (r : Node) : Addr := if r.short = 0xFFFE then .ext r.eui else .short r.short

/-- R200: octets of a downlink frame around its payload: header, security, MIC and FCS. -/
def frameOverhead (s : State) (w : Nat) (long : Bool) : Nat :=
  2 + 1 + 2 + (if long then 8 else 2) + 2 + 6 + micLen (s.rd (SEC_W_CFG.TX_LEVEL w)) + (if s.flag (FWD_W_CFG.FCS4 w) then 4 else 2)

/-- PSDU of a symbol frame (R308) of campaign `c`, and of an announcement (R309), in Ward `w`. -/
def symbolLen (s : State) (w t : Nat) : Nat := frameOverhead s w false + 13 + t
def announceLen (s : State) (w : Nat) : Nat := frameOverhead s w false + 124

/-- Air time, ns, of a PSDU of `n` octets in Ward `w`'s PHY class with plan `p`'s preamble. -/
def wardAir (s : State) (w p n : Nat) : Nat := airNs (s.rd (FWD_W_CFG.PHYC w)) (s.rd (CHZ_PLAN_PHY.PRE_LEN p)) n

/-- R105: a PSDU of `n` octets fits a cell of `span` slots under template `tt`. -/
def fits (s : State) (phyc p tt span n : Nat) (ack : Bool) (late : Nat) : Bool :=
  let pre := s.rd (CHZ_PLAN_PHY.PRE_LEN p)
  s.rd (MAC_TT_TX.TX_OFS tt) * 1000 + late * 1000 + airNs phyc pre n
    + (if ack then s.rd (MAC_TT_RXACK.RX_ACK_DELAY tt) * 1000 + s.rd (MAC_TT_RXACK.ACK_WAIT tt) * 500 + airNs phyc pre 17 else 0)
    ≤ span * lenUs s * 1000

/-- The lowest-numbered enabled plan that carries PHY class `c` (R205). -/
def planOf (s : State) (c : Nat) : Option Nat :=
  (List.range 16).find? (fun p => s.flag (CHZ_PLAN_FE.EN p) && (s.rd (CHZ_PLAN_PHY.CLASS_MASK p)).testBit c)

/-- R205: a PSDU of `n` octets of Ward `w` is within the frame limit of a cell of `span` slots under template `tt`. -/
def limitOk (s : State) (w span tt : Nat) (ack : Bool) (late n : Nat) : Bool :=
  match planOf s (s.rd (FWD_W_CFG.PHYC w)) with
  | none => false
  | some p => n ≤ s.rd (CHZ_PLAN_GEO.MAX_PSDU p) && n ≤ s.rd (FWD_W_CFG.FRAG_MAX w) && fits s (s.rd (FWD_W_CFG.PHYC w)) p tt span n ack late

/-- The UPDATE cells of Ward `w` in enabled slotframes. -/
def updateCells (s : State) (w : Nat) : List (Nat × Cell) :=
  s.src.cells.filter (fun p => p.2.typ = 6 && (match sfOf s (sfsEn s) p.1 with | some f => s.rd (SRC_SF_CFG.OWNER f) = w | none => false))

/-- F of slot `c` (UPD_C_OTI). -/
def campF (s : State) (c : Nat) : Nat := s.rd (UPD_C_OTI_LO.F c) + 2 ^ 32 * s.rd (UPD_C_OTI_HI.F c)

/-- The quota of block `b` of slot `c`. -/
def quotaOf (s : State) (c b : Nat) : Nat :=
  blockQuota (blockK (campKt (campF s c) (s.rd (UPD_C_OTI_HI.T c))) (s.rd (UPD_C_OTI_HI.Z c)) b) (campOf s c).ovh

/-- Every block of slot `c` has met its quota of this round. -/
def quotasMet (s : State) (c : Nat) : Bool :=
  (List.range (s.rd (UPD_C_OTI_HI.Z c))).all (fun b => quotaOf s c b ≤ Store.find 0 (campOf s c).got b)

/-- R306: another round would take some block's ESI above 0xFF_FFFF. -/
def esiOver (s : State) (c : Nat) : Bool :=
  (List.range (s.rd (UPD_C_OTI_HI.Z c))).any (fun b => 0x1000000 < Store.find 0 (campOf s c).esi b + quotaOf s c b)

/-- The Press begins the next round. -/
def nextRound (c : Nat) (s : State) : State := modCamp c (fun x => { x with prep := x.prep + 1, got := [], next := 0 }) s

/-- R306, R314: a round is complete when its quotas are met and its symbols are gone: the next one is current, or the campaign ends. -/
def roundCheck (c : Nat) (s : State) : State :=
  let x := campOf s c
  let r := s.rd (UPD_C_ROUND.ROUND c)
  if campState s c != 2 || x.ready.any (fun y => y.round = r) then s
  else if r < x.prep then s.wr (UPD_C_ROUND.ROUND c) ((x.ready.head?.map (·.round)).getD x.prep)
  else if !quotasMet s c then s
  else if s.rd (UPD_C_ROUND.ROUNDS c) ≤ r then campEnd c 2 s
  else if esiOver s c then campEnd c 3 s
  else nextRound c (s.inc (UPD_C_ROUND.ROUND c))

/-- The rate bucket of slot `c` brought up to RC (R311): 10^−9 tokens below full. -/
def campDebt (s : State) (c : Nat) : Nat :=
  let x := campOf s c
  x.debt - x.maxRate * (s.rc - x.debtAt)

/-- The rate bucket of slot `c` holds a token. -/
def campToken (s : State) (c : Nat) : Bool := (campOf s c).maxRate = 0 || campDebt s c ≤ 3000000000

/-- CTRL curds of a symbol frame (R307). -/
def symbolCurds (s : State) (c : Nat) : Nat := curdsOf (s.rd (UPD_C_OTI_HI.T c) + 34)

/-- The Press's curd count changes (UPD_CURDS). -/
def pressTake (n : Nat) (s : State) : State :=
  let s := (poolAdd 3 n s).add UPD_CURDS.USED n
  s.peak UPD_CURDS.PEAK (s.rd UPD_CURDS.USED)
def pressGive (n : Nat) (s : State) : State := (poolGive 3 n s).sub UPD_CURDS.USED n

/-- A token of slot `c`'s rate bucket is taken (R311). -/
def campTake (c : Nat) (s : State) : State :=
  let d := campDebt s c
  modCamp c (fun x => { x with debt := if x.maxRate = 0 then 0 else d + 1000000000, debtAt := s.rc }) s

/-- An item for a lane, or a transmission, holds the symbol of slot `c` that took counter `n` (R311): `upd` and `id` say what it carries. -/
def carries (c n : Nat) (upd : Option (Nat × Nat)) (id : Nat) : Bool := upd = some (c, 1) && id = n

/-- The symbol of slot `c` that took counter `n` is on its way: a lane prepares or holds it for a span to come, or a front end sends it. -/
def symbolOut (s : State) (c n : Nat) : Bool :=
  (List.range 4).any (fun k =>
    let l := laneOf s k
    (l.preparing ++ l.fifo).any (fun i => carries c n i.upd i.frame.id && !i.noframe && l.spans.any (fun x => x.idx = i.idx && x.asn = i.asn))
      || ((s.feOf k).txq ++ (s.feOf k).tx.toList).any (fun i => carries c n i.upd i.frame))

/-- R311: the symbol of slot `c` that a cell takes: the first of the ready queue that is not on its way. -/
def symbolNext (s : State) (c : Nat) : Option Symbol :=
  (campOf s c).ready.find? (fun y => !(y.enc.any (fun e => symbolOut s c e.1)))

/-- Symbols of one block are told apart by their ESI. -/
def sameSymbol (y z : Symbol) : Bool := y.sbn = z.sbn && y.esi = z.esi

/-- Symbol `y` of slot `c` leaves the ready queue: its curds go, and the round may end. -/
def campPop (c : Nat) (y : Symbol) (s : State) : State :=
  if !(campOf s c).ready.any (sameSymbol y) then s
  else roundCheck c (modCamp c (fun x => { x with ready := x.ready.filter (fun z => !sameSymbol y z) }) (pressGive (symbolCurds s c) s))

/-- The symbol of slot `c` that took counter `n` leaves the ready queue. -/
def symbolSent (c n : Nat) (s : State) : State :=
  match (campOf s c).ready.find? (fun y => y.enc.any (fun e => e.1 = n)) with
  | some y => campPop c y s
  | none => s

/-! Items for the lanes -/

/-- R159: the encryption of a prepared item is over and its engine is free; one that has waited takes an idle engine, if there is one. -/
def encDone (it : TxItem) (s : State) : Option (TxItem × State) :=
  if !it.encrypts then some (it, s)
  else
    let done (e : Nat) (a : Bool) (s : State) : Option (TxItem × State) :=
      some ({ it with encrypts := false, engine := none, aborted := a }, engineFree (some e) s)
    match it.engine, engineIdle s with
    | some e, _ => done e it.aborted s
    | none, none => none
    | none, some e => done e (caveDown s) (engNonce (some e) it.frame.nonce (engineTake e (s.when (caveDown s) (fun s => s.inc KEY_ABORTS))))

/-- R159, R343: the encryption of an item was aborted: the counter it took is not given out again, and its frame will take another. -/
def encAborted (it : TxItem) (s : State) : State :=
  let bare (f : QFrame) : QFrame := if f.id = it.frame.id then { f with fc := none, octets := [], nonce := [] } else f
  match it.upd, it.nix with
  | some (c, 1), _ =>
    let bareSymbol (y : Symbol) : Symbol := if y.enc.any (fun e => e.1 = it.frame.id) then { y with enc := none } else y
    modCamp c (fun x => { x with ready := x.ready.map bareSymbol }) s
  | some _, _ => s
  | none, some nix => nodeQChange nix it.frame.id bare s
  | none, none => if it.kind = .beacon then s else bcastChange it.ward it.frame.cls (fun l => l.map bare) s

/-- R103, R104: the item for cell `idx` is written into the transmit FIFO of lane `n`, once its frame is encrypted; one that comes after its
commit point, or after its cell, is discarded by the island, and its frame stays where it is queued. -/
def itemReady (n idx : Nat) (s : State) : State :=
  match (laneOf s n).preparing.find? (fun i => i.idx = idx) with
  | none => s
  | some it =>
    match encDone it s with
    | none => s
    | some (it, s) =>
      let s := s.when it.aborted (encAborted it)
      let keep := match spanOf s n idx with | some x => !x.committed && x.asn = it.asn | none => false
      let s := if it.kind = .beacon && !it.noframe then frameFree it.frame s else s
      modLane n (fun l => { l with
        preparing := l.preparing.filter (fun i => i.idx != idx)
        fifo := if keep then l.fifo ++ [{ it with noframe := it.noframe || it.aborted, at_ := s.rc }] else l.fifo }) s

end Sys2Proof.Machine
end

