-- ==== Sys2Proof/Machine/Mac.lean ====
section
/-!
DEFINITION. Commands of the MAC and the lanes (R92 to R122), but for the tick and the verdict.
-/

namespace Sys2Proof.Machine

/-- The latch of MAC_ASN_HI (R94) of a requester. -/
def latchPut (q : Requester) (k v : Nat) (s : State) : State := { s with latch := Store.put 0 s.latch (q.val * 16 + k) v }

/-- R94: MAC_ASN_LO is read: the requester's MAC_ASN_HI latch takes ASN [39:32]. -/
def execMacAsnLoRead (requester : Requester) (s : State) : Result :=
  .next (latchPut requester 0 (s.rd MAC_ASN_HI.ASN) (s.answer requester (s.rd MAC_ASN_LO.ASN)))

/-- R92, R96, R429: the slot length is written; ignored while the ASN runs. -/
def execMacSlotLenWrite (us t : Nat) (s : State) : Result :=
  let s := s.at t
  if asnRuns s then .next s
  else
    let s := (s.wr MAC_SLOT_LEN.LEN_US (clampN 2000 200000 (us % 2 ^ 18))).wr TSU_ASN_STS.LEN_US (clampN 2000 200000 (us % 2 ^ 18))
    .next (hbClamp (s.each (List.range 8) templateClamp))

/-- R96: a template register is written: its fields, then the clamps in order and what is recomputed. -/
def execMacTtWrite (template : Fin 8) (reg : TtReg) (value : Word) (t : Nat) (s : State) : Result :=
  let s := s.at t
  let k := template.val
  let v := value.toNat
  .next (templateClamp k (match reg with
    | .tx => (s.wr (MAC_TT_TX.TX_OFS k) v).wr (MAC_TT_TX.TX_COMMIT k) (v / 2 ^ 18)
    | .guard => (s.wr (MAC_TT_GUARD.GUARD k) v).wr (MAC_TT_GUARD.PRESHIFT_EN k) (v / 2 ^ 31)
    | .ack => s.wr (MAC_TT_ACK.TX_ACK_DELAY k) v
    | .rxack => (s.wr (MAC_TT_RXACK.RX_ACK_DELAY k) v).wr (MAC_TT_RXACK.ACK_WAIT k) (v / 2 ^ 16)
    | .cca =>
      let s := (s.wr (MAC_TT_CCA.CCA_EN k) v).wr (MAC_TT_CCA.CCA_LEN k) (clampN 8 1000 (bitsOf v 4 10))
      s.wrS (MAC_TT_CCA.CCA_THR k) (clampI (-110) (-50) (sgn 8 (v / 2 ^ 16)))
    | .opt => (s.wr (MAC_TT_OPT.EN k) v).wr (MAC_TT_OPT.ACK_EN k) (v / 2)
    | .pix => (s.wr (MAC_TT_PIX.DATA_PIX k) v).wr (MAC_TT_PIX.RETRY_PIX k) (v / 2 ^ 4)))

/-- The store key of entry `e` of the shadow bank of sequence `h` (R99). -/
def shadowKey (s : State) (h e : Nat) : Nat := (h * 2 + (1 - Store.find 0 s.mac.hsBank h)) * 1024 + e

/-- R99: MAC_HS_DATA is read (`write` none) or written: the addressed shadow entry, and ENTRY moves on with AUTO. -/
def execMacHsDataAccess (write : Option Word) (requester : Requester) (t : Nat) (s : State) : Result :=
  let s := s.at t
  let e := s.rd MAC_HS_IDX.ENTRY
  let k := shadowKey s (s.rd MAC_HS_IDX.HS) e
  let s := match write with
    | none => s.answer requester (Store.find 0 s.mac.hs k)
    | some v =>
      let w := v.toNat % 16 + 16 * min 399 (bitsOf v.toNat 4 9)
      let s := (s.wr MAC_HS_DATA.PLAN (w % 16)).wr MAC_HS_DATA.CHAN (w / 16)
      modMac (fun m => { m with hs := Store.put 0 m.hs k w }) s
  .next (if s.flag MAC_HS_IDX.AUTO then s.wr MAC_HS_IDX.ENTRY (e + 1) else s)

/-- The ASN at which a switch armed now takes place, and whether that is late (R99, R171): at the asked ASN when it is later than the
current one by `lead` or more, else `lead` or at least 2 slots ahead. -/
def switchAsn (s : State) (asked lead : Nat) : Nat × Bool :=
  if lead ≤ ahead asked s.asn then (asked % asnMod, false) else ((s.asn + 2) % asnMod, true)

/-- R99: MAC_HS_CTL is written with ARM: the switch is placed now, or waits for the ASN to start. -/
def execHsSwitchArm (mask t : Nat) (s : State) : Result :=
  let s := ((s.at t).wr MAC_HS_CTL.MASK mask).put MAC_HS_CTL.ARM true
  if asnRuns s then
    let p := switchAsn s (asnField MAC_HS_SW_LO.ASN MAC_HS_SW_HI.ASN s) 1
    let s := modMac (fun m => { m with hsAt := some p.1 }) s
    .next (if p.2 then macTrace 0x43 0 0 0 (raise Irq.MAC_HS_LATE s) else s)
  else .next (modMac (fun m => { m with hsAt := none }) s)

/-- R99: ARM is written 0: an armed switch is cancelled. -/
def execHsSwitchCancel (mask t : Nat) (s : State) : Result :=
  let s := ((s.at t).wr MAC_HS_CTL.MASK mask).put MAC_HS_CTL.ARM false
  .next (modMac (fun m => { m with hsAt := none }) s)

/-- R101: the life cycle lets the host write microcode: BLANK or PROVISION. -/
def ucOpen (s : State) : Bool := s.rd SYS_LC_STS.LC ≤ 2

/-- R101: MAC_LS_UC_DATA is written: a word of the inactive bank, and the index moves on. The version in the image's header is a value the
spec gives no place for. -/
def execMacLsUcDataWrite (lane : Fin 4) (word : Word) (t : Nat) (s : State) : Result :=
  let s := s.at t
  let n := lane.val
  if ucOpen s then
    let i := s.rd (MAC_LS_UC_IDX.WORD n)
    let k := (1 - s.rd (MAC_LS_STS.BANK n)) * 2048 + i
    let s := modLane n (fun l => { l with uc := Store.put 0 l.uc k word.toNat }) s
    .next ((s.wrFree (MAC_LS_VER.INACTIVE n)).wr (MAC_LS_UC_IDX.WORD n) (i + 1))
  else .next s

/-- R102: the image that the inactive bank of lane `n` was loaded with is whole, and was not refused (R375). -/
def laneBankOk (s : State) (n : Nat) : Bool :=
  let b := 1 - s.rd (MAC_LS_STS.BANK n)
  let l := laneOf s n
  !l.ucBad && bankWhole 2048 b l.uc (Store.find none l.ucHead b)

/-- R102: MAC_LS_SWAP is written: the inactive bank is checked; `ok` is the outcome for an image written word by word, whose header the spec
does not place. ARM as 0 disarms. -/
def execMacLsSwapArm (lane : Fin 4) (sf : Nat) (arm ok : Bool) (t : Nat) (s : State) : Result :=
  let n := lane.val
  let s := (s.at t).wr (MAC_LS_SWAP.SF n) sf
  if arm && ok && laneBankOk s n then .next (laneView n ((s.put (MAC_LS_SWAP.ARM n) true).put (MAC_LS_SWAP.BAD n) false))
  else if arm then
    .next (macTrace 0x41 0 n 0 (raiseAt Irq.MAC_UC_BAD n (laneView n ((s.put (MAC_LS_SWAP.ARM n) false).put (MAC_LS_SWAP.BAD n) true))))
  else .next (laneView n (s.put (MAC_LS_SWAP.ARM n) false))

/-- The span of cell `idx` has passed its commit point. -/
def spanCommit (n idx : Nat) (s : State) : State :=
  modLane n (fun l => { l with spans := l.spans.map (fun x => if x.idx = idx then { x with committed := true } else x) }) s

/-- R103, R104: a prepared item is written into the lane's transmit FIFO. -/
def execTransmitItemReady (lane : Fin 4) (idx t : Nat) (s : State) : Result := .next (itemReady lane idx (s.at t))

/-- R20, R104, R117: a TX-capable cell finds no item at its commit point. -/
def txMissed (n : Nat) (x : Span) (s : State) : State :=
  let s := (s.inc (MAC_LS_TX_MISSED n)).inc SRC_PICK_LATE
  macTrace 0x20 x.cell.nix n x.sf (if x.cell.typ = 1 then raiseNode Irq.MAC_TX_MISSED n x.cell.nix s else raiseAt Irq.MAC_TX_MISSED n s)

/-- R117: a BEACON cell sends nothing; EB_MISSED counts. -/
def ebMissed (n : Nat) (x : Span) (s : State) : State :=
  macTrace 0x30 0 n (s.rd (SRC_SF_CFG.OWNER x.sf)) (s.inc (MAC_LS_EB_MISSED n))

/-- R105: a frame that does not fit its cell is not started. -/
def txNofit (n : Nat) (it : TxItem) (s : State) : State :=
  macTrace 0x21 (it.nix.getD 0) n (it.frame.len / 4) (s.inc (MAC_LS_TX_NOFIT n))

/-- R103, R105, R106, R108: the lane presents item `it` of span `x` to its front end, or during a cover to the one that covers it, which
applies its own power table (R54). -/
def txPresent (n : Nat) (x : Span) (it : TxItem) (s : State) : State :=
  let p := physOf s n
  let tt := x.cell.tt
  let start := x.tick + s.rd (MAC_TT_TX.TX_OFS tt) * 1000
  let dl := ((start : Int) + it.shift * 1000 - 36000).toNat
  let pix := match it.kind with
    | .beacon => s.rd (RFE_CTL.EB_PIX p)
    | _ => if 2 ≤ it.frame.retries then s.rd (MAC_TT_PIX.RETRY_PIX tt) else s.rd (MAC_TT_PIX.DATA_PIX tt)
  let c : TxCmd := {
    kind := it.kind
    lane := n
    deadline := dl
    plan := x.plan
    chan := x.chan
    centre := chanCentre s x.plan x.chan
    spacing := spacingKhz (s.rd (CHZ_PLAN_GEO.SPACING x.plan))
    air := airNs it.frame.phyc (s.rd (CHZ_PLAN_PHY.PRE_LEN x.plan)) it.frame.len
    pix := pix
    nix := it.nix
    ward := it.ward
    frame := it.frame.id
    cls := it.frame.cls
    upd := it.upd
    ackReq := it.ackReq
    dsn := (it.frame.fc.getD 0) % 256
    tt := tt
    typ := x.cell.typ
    asn := x.asn }
  let s := if it.lim != 0 then macTrace 0x24 (it.nix.getD 0) n it.lim (s.inc (MAC_W_PRESHIFT_LIM it.ward)) else s
  s.modFe p (fun f => { f with txq := txInsert c f.txq })

/-- R21, R103 to R105, R117: at the commit point of cell `idx` the lane samples its transmit FIFO. The lane of a front end that covers its
sibling serves no cell (R54), nor before the tick after its front end has
locked on its own window again (phase 3). -/
def execTransmitCommitPoint (lane : Fin 4) (idx t : Nat) (s : State) : Result :=
  let s := s.at t
  let n := lane.val
  match spanOf s n idx with
  | none => .next s
  | some x =>
    if x.committed || !txCapable x.cell.typ || (s.feOf n).covers || (s.feOf n).rejoin || !s.reached (commitAt s x) then .next s
    else
      let s := spanCommit n idx s
      if !owns s then .next s
      else match (laneOf s n).fifo.find? (fun i => i.idx = idx && i.asn = x.asn && meets i.at_ (commitAt s x)) with
      | none => .next (if x.cell.typ = 4 then ebMissed n x s else txMissed n x s)
      | some it =>
        let s := modLane n (fun l => { l with fifo := l.fifo.filter (fun i => !(i.idx = idx && i.asn = x.asn)) }) s
        let late := if it.pre then s.rd (MAC_TT_EFF.LATE x.cell.tt) else 0
        if it.noframe then .next (if x.cell.typ = 4 then ebMissed n x s else s)
        else if !fits s it.frame.phyc x.plan x.cell.tt (x.cell.span + 1) it.frame.len it.ackReq late then .next (txNofit n it s)
        else .next (txPresent n x it s)

/-- A frame of slice `k` still needs its engine (R159). -/
def ccmNeeds (k : Nat) (f : RxFrame) : Bool := f.slice = k && f.engine = none && f.hdr.sec && f.verdict = none

/-- The first frame of slice `k` in `l` that needs an engine gets engine `e`; `a`: a tamper event aborts it. -/
def ccmGive (k e : Nat) (a : Bool) : List RxFrame → List RxFrame
  | [] => []
  | f :: l => if ccmNeeds k f then { f with engine := some e, aborted := a } :: l else f :: ccmGive k e a l

/-- R159: a received secured frame takes the first free engine. -/
def execCcmDispatch (slice : Fin 128) (t : Nat) (s : State) : Result :=
  let s := s.at t
  let k := slice.val
  match engineIdle s with
  | none => .next s
  | some e =>
    let a := caveDown s
    let took (s : State) : State := engineTake e (s.when a (fun s => s.inc KEY_ABORTS))
    if !s.flag SEC_CFG.EN then .next s
    else if s.rd (CHZ_SLICE_STS.STATE k) = 2 && (sliceOf s k).engine = none then
      .next (took (modSlice k (fun v => { v with engine := some e, aborted := a }) s))
    else if s.mac.rx.any (ccmNeeds k) then .next (took (modMac (fun m => { m with rx := ccmGive k e a m.rx }) s))
    else .next s

/-- A frame leaves the MAC when its verdict and its ack decision are both made. -/
def rxPrune (s : State) : State := modMac (fun m => { m with rx := m.rx.filter (fun f => !(f.verdict.isSome && f.acked)) }) s

/-- The ack of frame `f` is committed on physical front end `p` (R111 to R116). A secured one takes its MIC under the node's pairwise key, which a
frame under the group key has not looked up yet (R157). -/
def ackCommit (p : Nat) (f : RxFrame) (s : State) : State :=
  let n := f.fe
  let it := ackItem s f
  let pre := s.rd (CHZ_PLAN_PHY.PRE_LEN f.plan)
  let air := airNs f.phyc pre (ackLen it)
  let st := ackTurn s f + 36000
  let join (c : TxCmd) : TxCmd :=
    if c.kind = .ack then { c with acks := c.acks ++ [it], air := max c.air (st + air - (c.deadline + 36000)) } else c
  let s := s.modFe p (fun x => { x with txq := x.txq.map join, tx := x.tx.map join })
  let ce := chanCentre s f.plan f.chan * 2
  let sp := spacingKhz (s.rd (CHZ_PLAN_GEO.SPACING f.plan))
  let s := s.each (dcRegions s (ce - sp) (ce + sp)) (fun r s => dcCharge r st (st + air) s)
  let s := if it.plain then s else engNonce f.engine it.nonce s
  let s := match it.nix with
    | some x => s.when (!it.plain && f.hdr.kt != 1) (kcLookup (s.node x).keyIx)
    | none => s
  let m := (ackTurn s f - 64000 - f.verdictAt) / 1000
  let s := (s.inc (MAC_LS_ACK_SENT n)).addSat (MAC_LS_VHIST.COUNT n (min 15 (1 + m / 64))) 1
  let s := s.wr MAC_ACK_MARGIN.MIN (min (s.rd MAC_ACK_MARGIN.MIN) (min m 65535))
  let who := match it.nix with | some x => x | none => 2 ^ 18 + (match f.hdr.src with | .ext e => e | _ => 0)
  let s := modMac (fun m => { m with slotAcks := who :: m.slotAcks }) s
  let s := if it.rekey.isSome then s.inc SEC_REKEY_SENT else s
  let s := if s.flag SEC_STS.ASN_HIGH then s.inc SEC_ACK_UNSEC else s
  match f.verdict, it.nix with
  | some .repeated, some x => s.modNode x (fun r => { r with dupCnt := min (r.dupCnt + 1) 0xFFFF })
  | _, _ => s

/-- Frame `f` comes to its ack commit point while a burst is open (R112). DESIGN CHOICE (log entry 29): a burst that has sent its acks before
the last member's commit point stays in TX until there. -/
def burstSeen (p : Nat) (f : RxFrame) (s : State) : State :=
  match (laneOf s p).burst with
  | none => s
  | some b =>
    let at_ := ackCommitAt s f
    let longer (c : TxCmd) : TxCmd := if c.kind = .ack then { c with air := max c.air (at_ - (c.deadline + 36000)) } else c
    let s := s.when (burstMember s p b f.endAt) (fun s => s.modFe p (fun x => { x with tx := x.tx.map longer }))
    modLane p (fun l => { l with burst := some { b with ends := b.ends ++ [f.endAt] } }) s

/-- R329: the ack of a frame under the group key needs a pairwise key that fails its integrity check: no ack is sent. -/
def ackDamaged (s : State) (f : RxFrame) : Bool :=
  let it := ackItem s f
  match it.nix with
  | some x => !it.plain && f.hdr.kt != 1 && keyDamaged s (s.node x).keyIx
  | none => false

/-- The checks of R111, in order, with the verdict that meets the sample point (R21), on frame `f` of physical front end `p`. -/
def ackChecks (p : Nat) (f : RxFrame) (s : State) : State :=
  let n := f.fe
  let nix := f.nix.getD 0
  let tt := (f.cell.map (·.tt)).getD 0
  let seen (s : State) : State := burstSeen p f s
  let who := match f.verdict, f.hdr.src with
    | some .join, .ext e => 2 ^ 18 + e
    | _, _ => nix
  let ok := (f.verdict = some .accept || f.verdict = some .repeated || f.verdict = some .join) && meets f.verdictAt (ackCommitAt s f)
  let turn := ackTurn s f
  let it := ackItem s f
  let air := airNs f.phyc (s.rd (CHZ_PLAN_PHY.PRE_LEN f.plan)) (ackLen it)
  if !f.hdr.ackReq then s
  else if (f.case != .inGuard && f.case != .inLimit) || !toRoot s f.hdr.dst || !s.flag (MAC_TT_OPT.ACK_EN tt) then seen s
  else if !ok then
    let s := seen ((s.inc (MAC_LS_ACK_SKIP n)).addSat (MAC_LS_VHIST.COUNT n 0) 1)
    macTrace 0x10 nix n 0 (match f.nix with
      | some x => raiseNode Irq.MAC_ACK_SKIP n x s
      | none => raiseAt Irq.MAC_ACK_SKIP n s)
  else if ackDamaged s f then seen (fenceNode nix 2 7 ((kcLookup (s.node nix).keyIx s).whey 0))
  else if s.mac.slotAcks.contains who then macTrace 0x13 nix n 0 (seen (s.inc (MAC_LS_ACK_SAMESLOT n)))
  else if reserved s p turn (turn + 36000 + air) then macTrace 0x11 nix n 0 (seen (s.inc (MAC_LS_ACK_BUSY n)))
  else
    let s := match (laneOf s p).burst with
      | some _ => s
      | none =>
        let pix := s.rd (RFE_CTL.ACK_PIX p)
        let c : TxCmd := {
          kind := .ack
          lane := n
          deadline := turn
          plan := f.plan
          chan := f.chan
          centre := chanCentre s f.plan f.chan
          spacing := spacingKhz (s.rd (CHZ_PLAN_GEO.SPACING f.plan))
          pix := pix
          tt := tt
          checked := true }
        modLane p (fun l => { l with burst := some { start := turn } }) (s.modFe p (fun x => { x with txq := txInsert c x.txq }))
    let b := ((laneOf s p).burst).getD { start := turn }
    let s' := seen s
    if !burstMember s p b f.endAt then
      macTrace 0x12 nix n (b.members.getD (s.rd MAC_ACK_CFG.ACK_MAX)) (s'.inc (MAC_LS_ACK_FULL n))
    else
      let ce := chanCentre s f.plan f.chan * 2
      let sp := spacingKhz (s.rd (CHZ_PLAN_GEO.SPACING f.plan))
      if dcRefuses s (dcRegions s (ce - sp) (ce + sp)) air true then dcBlocked p true s' else ackCommit p f s'

/-- The first frame of `l` that is `f`, whose ack decision is still to be made, is marked. -/
def ackMark (f : RxFrame) : List RxFrame → List RxFrame
  | [] => []
  | g :: l => if g = f && !g.acked then { g with acked := true } :: l else g :: ackMark f l

/-- The frame on physical front end `p` with the earliest ack commit point among those whose ack decision is still to be made; of several, the
one that ended first (R111, R112). -/
def ackNext (s : State) (p : Nat) : Option RxFrame :=
  let before (f g : RxFrame) : Bool := ackCommitAt s f < ackCommitAt s g || (ackCommitAt s f = ackCommitAt s g && f.endAt < g.endAt)
  (s.mac.rx.filter (fun f => f.phys = p && !f.acked && f.hdr.kind != .ack)).foldl (fun best f =>
    match best with
    | none => some f
    | some g => if before f g then some f else some g) none

/-- R94, R100, R111, R112: the next ack commit point on physical front end `fe`. The lane that serves the frame decides, while it runs. -/
def execAckCommitPoint (fe : Fin 4) (t : Nat) (s : State) : Result :=
  let s := s.air t
  let p := fe.val
  match ackNext s p with
  | none => .next s
  | some f =>
    if !s.reached (ackCommitAt s f) then .next s
    else
      let runs := owns s && asnRuns s && laneRuns s f.fe
      .next (rxPrune (modMac (fun m => { m with rx := ackMark f m.rx }) (if runs then ackChecks p f s else s)))

/-- R308, R309, R311: a symbol, which took counter `n`, or an announcement of campaign `c` has been sent. -/
def updSent (c kind n : Nat) (s : State) : State :=
  if kind = 1 then symbolSent c n ((s.inc UPD_SYM_SENT).inc (UPD_C_SENT.COUNT c)) else s.inc UPD_ANN_SENT

/-- R42, R107, R112, R117: the last symbol is sent: a frame that asks for an ack opens its window, a broadcast, an update frame or a beacon
is done, a burst ends. -/
def execTxLastSymbol (fe : Fin 4) (t : Nat) (s : State) : Result :=
  let s := s.air t
  let p := fe.val
  if feState s p != 4 || (s.feOf p).cw || !s.reached (txDone s p) || burstWaits s p then .next s
  else
    let c := (s.feOf p).tx
    let last := if s.tsu.rcOn then txDone s p else s.rc
    let s := txEnd p s
    match c with
    | none => .next s
    | some c =>
      match c.kind with
      | .ack => .next (modLane p (fun l => { l with burst := none }) s)
      | .beacon => .next ((s.inc (MAC_LS_TX_SENT c.lane)).inc (MAC_W_EB_SENT c.ward))
      | .frame =>
        let s := s.inc (MAC_LS_TX_SENT c.lane)
        match c.ackReq, c.nix with
        | true, some x =>
          let w : AckWait := {
            frame := c.frame
            nix := x
            ward := c.ward
            dsn := c.dsn
            plan := c.plan
            chan := c.chan
            tt := c.tt
            typ := c.typ
            endAt := last
            asn := c.asn }
          .next (modLane c.lane (fun l => { l with wait := some w }) s)
        | _, _ =>
          match c.upd with
          | some (k, kind) => .next (updSent k kind c.frame s)
          | none => .next (bcastSent c.ward c.cls c.frame s)

/-- R107: a node's Enh-Ack, the `pos`-th that the MAC holds, is checked; `mic` is its CCM* outcome under the pairwise key and the
nonce of R153. A tamper event that aborted its engine leaves it without a verdict (R159). -/
def execNodeAckReceived (pos : Nat) (mic : Bool) (t : Nat) (s : State) : Result :=
  let s := s.at t
  match (s.mac.rx.filter (fun f => f.hdr.kind = .ack))[pos]? with
  | none => .next s
  | some f =>
    let rest := s.mac.rx.filter (fun g => !decide (g = f))
    let s := engineFree f.engine (modMac (fun m => { m with rx := rest }) s)
    if f.aborted then .next ((s.whey 7).inc SEC_WHEY_TAMPER) else
    match (laneOf s f.fe).wait with
    | none => .next s
    | some w =>
      let r := s.node w.nix
      if !r.fenced && keyDamaged s r.keyIx then .next (fenceNode w.nix 2 7 ((kcLookup r.keyIx s).whey 0)) else
      let s := engNonce f.engine (nonceAsn r.eui (asnOf s f.endAt)) (s.when (!r.fenced) (kcLookup r.keyIx))
      let centre : Int := (w.endAt : Int) + s.rd (MAC_TT_RXACK.RX_ACK_DELAY w.tt) * 1000
      let inWin := ((f.start - centre).natAbs ≤ s.rd (MAC_TT_RXACK.ACK_WAIT w.tt) * 500 : Bool)
      let live := nodeLive s w.nix
      if inWin && f.plan = w.plan && f.chan = w.chan && f.hdr.dsn = some w.dsn && mic && live then
        .next (txAcked w (modLane f.fe (fun l => { l with wait := none }) s))
      else if inWin && mic && !live && (s.node w.nix).state = .evict then .next ((s.whey 9).inc (MAC_W_RX_FENCED w.ward))
      else .next s

/-- R107: the window for the node's ack closes with no valid ack. -/
def execAckWaitExpiry (lane : Fin 4) (t : Nat) (s : State) : Result :=
  let s := s.at t
  let n := lane.val
  match (laneOf s n).wait with
  | none => .next s
  | some w =>
    if w.endAt + s.rd (MAC_TT_RXACK.RX_ACK_DELAY w.tt) * 1000 + s.rd (MAC_TT_RXACK.ACK_WAIT w.tt) * 500 ≤ s.rc then
      .next (txUnacked n w (modLane n (fun l => { l with wait := none }) s))
    else .next s

/-- R33, R120, R295: a record enters QUIET, and NODE_QUIET is reported, always. -/
def nodeQuiet (nix : Nat) (s : State) : State :=
  let w := (s.node nix).ward
  let s := mirState nix (s.modNode nix (fun r => { r with state := .quiet }))
  let s := macTrace 0x53 nix 0 w s
  eventPost { code := 0x53, block := 8, words := [s.rc32], nix := some nix, ward := w, per := true } s

/-- R120: a JOINED node has had no accepted frame for its Ward's TIMEOUT_S seconds. -/
def execQuietTimeout (nix : Fin 262144) (t : Nat) (s : State) : Result :=
  let s := s.at t
  let r := s.node nix
  let lim := s.rd (MAC_WARD_QUIET.TIMEOUT_S r.ward)
  .next (if r.state = .joined && !r.fenced && lim != 0 && Store.find 0 s.mac.heard nix + lim * 1000000000 ≤ s.rc then nodeQuiet nix s else s)

/-- MAC_BURST_PEAK is read and clears (R121). -/
def execMacBurstPeakRead (requester : Requester) (s : State) : Result :=
  .next ((s.answer requester (s.rd MAC_BURST_PEAK.PEAK)).wr MAC_BURST_PEAK.PEAK 0)

/-- MAC_ACK_MARGIN is read and returns to 0xFFFF (R121). -/
def execMacAckMarginRead (requester : Requester) (s : State) : Result :=
  .next ((s.answer requester (s.rd MAC_ACK_MARGIN.MIN)).wr MAC_ACK_MARGIN.MIN 0xFFFF)

/-- A bin of MAC_LS_VHIST is read and clears (R121). -/
def execMacLsVhistRead (lane : Fin 4) (bin : Fin 16) (requester : Requester) (s : State) : Result :=
  .next ((s.answer requester (s.rd (MAC_LS_VHIST.COUNT lane bin))).wr (MAC_LS_VHIST.COUNT lane bin) 0)

end Sys2Proof.Machine
end

