-- ==== Sys2Proof/Machine/SchedOps.lean ====
section
/-!
DEFINITION. What Serac does (R123 to R149), as several commands use it: staging, applies and generations, chains, the conflict log, the
envelope, searches and 6P transactions.
-/

namespace Sys2Proof.Machine

/-- A chain is written: NEXT of its cells, CELL_PTR and CELL_CNT (R127). -/
def relink : List Nat → Store Cell → Store Cell
  | [], l => l
  | [i], l => Store.put {} l i { Store.find {} l i with next := 0xFFFFF }
  | i :: j :: r, l => relink (j :: r) (Store.put {} l i { Store.find {} l i with next := j })

/-- A cell is in a node's chain: TX or RX (R127). -/
def chained (c : Cell) : Bool := c.typ = 1 || c.typ = 2

/-- The chain of a node becomes `l`. -/
def setChain (nix : Nat) (l : List Nat) (s : State) : State :=
  let s := modSrc (fun x => { x with cells := relink l x.cells }) s
  s.modNode nix (fun r => { r with cellPtr := l.headD 0, cellCnt := l.length })

/-- A cell entry is freed and leaves its chain. -/
def cellFree (i : Nat) (s : State) : State :=
  let c : Cell := Store.find {} s.src.cells i
  let l := (chainOf s c.nix).filter (fun j => j != i)
  let s := modSrc (fun x => { x with cells := Store.put {} x.cells i {} }) s
  if chained c then setChain c.nix l s else s

/-- A cell is placed and joins the end of its node's chain. -/
def cellPlace (i : Nat) (c : Cell) (s : State) : State :=
  let l := chainOf s c.nix
  let s := modSrc (fun x => { x with cells := Store.put {} x.cells i c }) s
  if chained c then setChain c.nix (l ++ [i]) s else s

/-- The slotframes `l` once `on` are turned on and `off` turned off. -/
def turnSfs (l on off : List Nat) : List Nat := l.filter (fun f => !off.contains f && !on.contains f) ++ on

/-- The slotframes that are enabled in the generation applied last (R124, R136). -/
def genSfs (s : State) : List Nat := s.src.bounds.foldl (fun l b => turnSfs l b.turnOn b.turnOff) (sfsOn s)

/-- R127: TC_MAP of a node from its cells in the slotframes `sfs`, those of its generation. -/
def tcMap (sfs : List Nat) (nix : Nat) (s : State) : State :=
  let cs := ((chainOf s nix).filter (fun i => (sfOf s sfs i).isSome)).map (fun i => (Store.find {} s.src.cells i : Cell))
  let m (t : Nat) := (cs.filter (fun c => c.typ = t)).foldl (fun a c => setBit a c.tc) 0
  s.modNode nix (fun r => { r with tcUp := m 2, tcDown := m 1 })

/-- Non-FREE cells in enabled slotframes, with their Ward (R131). -/
def usedCells (s : State) : List (Nat × Cell × Nat) :=
  s.src.cells.filterMap (fun p =>
    if p.2.typ = 0 then none
    else match sfOf s (sfsEn s) p.1 with
      | some f => some (p.1, p.2, s.rd (SRC_SF_CFG.OWNER f))
      | none => none)

/-- SRC_W_CELLS of Ward `w` with `n` cells: ENV_OVER is raised as they come to exceed the budget (R132). -/
def wardCells (w n : Nat) (s : State) : State :=
  let now := s.rd (SRC_ENV_BUDGET.MAX_CELLS w) < n
  let rose := now && !s.flag (SRC_W_CELLS.OVER w)
  let s := (s.wr (SRC_W_CELLS.CELLS w) n).put (SRC_W_CELLS.OVER w) now
  if rose then raiseWard Irq.SRC_ENV_OVER w s else s

/-- The occupancy registers follow the Cell Store, the enabled slotframes and their owners (R131, R132, R150). -/
def cellsView (s : State) : State :=
  let u := usedCells s
  let s := (s.wr SRC_CELLS_USED.CELLS u.length).peak SRC_CELLS_PEAK.PEAK u.length
  s.each (List.range 8) (fun w => wardCells w (u.filter (fun x => x.2.2 = w)).length)

/-- R132: a budget is written: ENV_OVER is raised while the Ward's cells exceed it. -/
def budgetView (w : Nat) (s : State) : State := cellsView (s.put (SRC_W_CELLS.OVER w) false)

/-- One change of a batch takes effect in the Cell Store (R136). -/
def changeDo (c : Change) (s : State) : State :=
  let count (i : Nat) (ad : Bool) (s : State) : State :=
    match ad, sfOf s (List.range 64) i with
    | true, some f => s.inc (SRC_W_CHANGES (s.rd (SRC_SF_CFG.OWNER f)))
    | _, _ => s
  match c with
  | .add i c ad => count i ad (cellPlace i c s)
  | .del i ad => count i ad (cellFree i s)
  | _ => s

/-- The slotframes a batch turns on and off: its last word on each. -/
def turns (l : List Change) : List Nat × List Nat :=
  l.foldl (fun p c =>
    match c with
    | .enable f => (f :: p.1.filter (fun g => g != f), p.2.filter (fun g => g != f))
    | .disable f => (p.1.filter (fun g => g != f), f :: p.2.filter (fun g => g != f))
    | _ => p) ([], [])

/-- R124, R136, R144: a generation comes into force: the lanes' cells, ON of each slotframe, and the evictions that waited for it. -/
def boundary (b : GenBound) (s : State) : State :=
  let s := s.each b.turnOn (fun f s => s.put (SRC_SF_CFG.ON f) true)
  let s := s.each b.turnOff (fun f s => s.put (SRC_SF_CFG.ON f) false)
  modSrc (fun x => { x with live := b.cells, evicting := x.evicting.filter (fun n => !b.evicts.contains n) }) s

/-- The generation after `g` (R137). -/
def nextGen (g : Nat) : Nat := if g = 255 then 1 else g + 1

/-- Generation `a` is newer than `b` by the serial numbers of RFC 1982; at a distance of 128 it is not (R137). -/
def genNewer (a b : Nat) : Bool := 0 < (a + 256 - b % 256) % 256 && (a + 256 - b % 256) % 256 < 128

/-- R149: the microcode banks are exchanged by an apply. -/
def srcUcSwap (s : State) : State :=
  if s.flag SRC_UC_CTL.ARM then
    let a := s.rd SRC_UC_VER.ACTIVE
    let s := (s.wr SRC_UC_VER.ACTIVE (s.rd SRC_UC_VER.INACTIVE)).wr SRC_UC_VER.INACTIVE a
    let s := (s.wr SRC_STS.UC_BANK (1 - s.rd SRC_STS.UC_BANK)).put SRC_UC_CTL.ARM false
    raise Irq.SRC_UC_SWAPPED s
  else s

/-- The cells that belong to a node's chain, by index: what a scan of the Cell Store finds (R293). -/
def chainCells (s : State) (nix : Nat) : List (Nat × Cell) := s.src.cells.filter (fun p => chained p.2 && p.2.nix = nix)

/-! 6P (R140 to R143) -/

/-- The outstanding transaction of a node. -/
def p6Of (s : State) (nix : Nat) : Option P6Txn := Store.find none s.src.p6out nix

/-- Outstanding transactions in the Domain: those that Serac began and those that nodes began (R143). -/
def p6Count (s : State) : Nat := s.src.p6out.length + s.src.p6ack.length

/-- Serac adapts and speaks 6P: it is enabled, 6P with it, and the ASN runs (R140, R150). -/
def p6Runs (s : State) : Bool := s.flag SRC_CFG.EN && s.flag SRC_CFG.P6_EN && asnRuns s && owns s

/-- Octets of a 6P frame for a node whose message body takes `n` octets: the header of R200, a Header Termination IE, the IETF IE and
the 6P header of RFC 8480 (log entry 12). -/
def p6Len (s : State) (nix n : Nat) : Nat :=
  let r := s.node nix
  frameOverhead s r.ward (r.short = 0xFFFE) + 2 + 2 + 1 + 4 + n

/-- A 6P frame of Serac goes into the node's queue, in CTRL curds and class SRC_6P_CFG.TC (R143, R210, R223). -/
def p6Send (nix n : Nat) (s : State) : State :=
  let r := s.node nix
  let len := p6Len s nix n
  match poolTake 3 (curdsOf len) s with
  | (some l, s) =>
    let (f, s) := newFrame {
      len := len
      curds := l
      cls := s.rd SRC_6P_CFG.TC
      ward := r.ward
      user := 3
      peer := nix
      dest := nix
      dst := linkAddr r
      pan := s.rd (MAC_WARD_PAN.PAN_ID r.ward)
      ie := true
      time := s.us32
      phyc := s.rd (FWD_W_CFG.PHYC r.ward) } s
    nodeAppend nix [f] s
  | (none, s) => s.whey 31

/-- A 6P frame is sent (R142, R143). An answer gets the identity of its frame; one that cannot be queued is dropped. -/
def p6Deliver (x : Nat × Nat × Bool) (s : State) : State :=
  let (nix, n, ans) := x
  if !ans then p6Send nix n s
  else
    let id := s.qms.nextId
    let s := modSrc (fun y => { y with
      p6ack := y.p6ack.map (fun a => if a.nix = nix && a.frame = 0 then { a with frame := id } else a) }) s
    let s := p6Send nix n s
    if (nodeQFind s nix id).isSome then s else p6Dropped id s

/-- R142: a 6P frame goes at once, or with `held` once what is staged has been committed. -/
def p6Go (nix n : Nat) (ans held : Bool) (s : State) : State :=
  if held then applyStart (modSrc (fun y => { y with sendNext := y.sendNext ++ [(nix, n, ans)] }) s) else p6Deliver (nix, n, ans) s

/-- R136: the apply completes: cells, chains and TC_MAP, the next generation, and its boundary, at once while the ASN does not run. -/
def applyDone (s : State) : State :=
  match s.src.applying with
  | none => s
  | some l =>
    let before := s.src.cells.map (fun p => p.2.nix)
    let s := s.each l changeDo
    let nodes := (before ++ s.src.cells.map (fun p => p.2.nix)).eraseDups
    let s := s.each s.src.rebuild (fun n s => setChain n ((chainCells s n).map (·.1)) s)
    let sfs := turnSfs (genSfs s) (turns l).1 (turns l).2
    let s := cellsView (s.each (nodes ++ s.src.rebuild) (tcMap sfs))
    let s := modSrc (fun x => { x with rebuild := [] }) s
    let g := nextGen (s.rd SRC_GEN.CUR)
    let a := if asnRuns s then (s.asn + 2) % asnMod else s.asn
    let b : GenBound := { asn := a, cells := s.src.cells, turnOn := (turns l).1, turnOff := (turns l).2, evicts := s.src.evicting }
    let s := modSrc (fun x => { x with applying := none }) s
    let s := mirCount PAIR_GEN_MIRRORED (((s.wr SRC_GEN.CUR g).wr SRC_GEN.BOUND a).inc SRC_GEN_COMMITS)
    let s := raise Irq.SRC_GEN_COMMIT (srcUcSwap s)
    let s := if asnRuns s then modSrc (fun x => { x with bounds := x.bounds ++ [b] }) s else boundary b s
    let cmds := s.src.cmdNow
    let s := s.each cmds (fun c => cmdDone c.1 c.2.1 c.2.2.1 0 c.2.2.2 0 0 [] false)
    let sends := s.src.sendNow
    let s := (modSrc (fun x => { x with cmdNow := [], sendNow := [] }) s).each sends p6Deliver
    if s.src.applyDue then applyStart s else s

/-! Refusals and checks -/

/-- R130: an entry of SRC_CONFLICT_LOG, its counter and REJ. `by_` is 0 host, 1 adaptation, 2 6P answer, 3 slotframe. -/
def reject (why cand block by_ : Nat) (s : State) : State :=
  let p := s.rd SRC_STS.LOG_WP
  let s := ((s.wr (SRC_CONFLICT_LOG_A.CAND p) cand).wr (SRC_CONFLICT_LOG_A.WHY p) why).wr (SRC_CONFLICT_LOG_A.SRC p) by_
  let s := (s.wr (SRC_CONFLICT_LOG_B.BLOCK p) block).wr (SRC_CONFLICT_LOG_B.GEN p) (s.rd SRC_GEN.CUR)
  let s := s.wr SRC_STS.LOG_WP (p + 1)
  raise Irq.SRC_REJ (if why = 5 || why = 6 then s.inc SRC_REJ_FULL else s.inc SRC_REJ_CONFLICT)

/-- A check takes a time that the spec gives only on average (R130): SRC_CHK_LAST and its peak. -/
def checkTime (s : State) : State :=
  let s := s.wrFree SRC_CHK_LAST.US
  s.peak SRC_CHK_PEAK.US (s.rd SRC_CHK_LAST.US)

/-- The outcome of trying a place: an index, or WHY with the candidate and the blocking index. -/
inductive Place where
  | at_ (idx : Nat)
  | no (why cand block : Nat)
deriving DecidableEq, Repr

/-- R129, R130: may cell `c` stand at slot offset `o` of slotframe `f`? -/
def tryPlace (s : State) (f o : Nat) (c : Cell) (skip : Option Nat) : Place :=
  let cells := planCells s
  if s.rd (SRC_SF_GEOM.LEN f) < o + c.span + 1 then .no 6 (slotEntry s f o) 0xFFFFF
  else
    match freeEntry s cells f o skip with
    | none => .no 5 (slotEntry s f o) 0xFFFFF
    | some i =>
      match placeWhy s cells f o c skip with
      | (0, _) => .at_ i
      | (w, b) => .no w i b

/-! The envelope (R131 to R133) -/

/-- `n` tokens of Ward `w` are there. CHG_PER_S at 0 stops all adaptive change (R133). -/
def tokensOk (s : State) (w n : Nat) : Bool :=
  s.rd (SRC_ENV_RATE.CHG_PER_S w) != 0 && n * 1000000000 + tokenDebt s w ≤ s.rd (SRC_ENV_RATE.BURST w) * 1000000000

/-- `n` tokens are taken (R133). -/
def tokensTake (w n : Nat) (s : State) : State :=
  let d := tokenDebt s w + n * 1000000000
  tokenView w (modSrc (fun x => { x with tokDebt := Store.put 0 x.tokDebt w d, tokAt := Store.put 0 x.tokAt w s.rc }) s)

/-- R133: the depth or the rate of Ward `w`'s bucket is written; `s0` is the state before: the tokens that it holds stay, up to the new
depth. -/
def rateView (w : Nat) (s0 s : State) : State :=
  let d := tokenDebt s0 w + s.rd (SRC_ENV_RATE.BURST w) * 1000000000 - s0.rd (SRC_ENV_RATE.BURST w) * 1000000000
  tokenView w (modSrc (fun x => { x with tokDebt := Store.put 0 x.tokDebt w d, tokAt := Store.put 0 x.tokAt w s.rc }) s)

/-- A node's cells of one type in enabled slotframes. -/
def nodeCells (s : State) (nix typ : Nat) : List (Nat × Cell) :=
  ((chainOf s nix).map (fun i => (i, (Store.find {} s.src.cells i : Cell)))).filter
    (fun p => p.2.typ = typ && (sfOf s (sfsEn s) p.1).isSome)

/-- Slotframe `f` is in Ward `w`'s region and envelope (R131). -/
def envSf (s : State) (w f : Nat) : Bool :=
  (if f < 32 then (s.rd (SRC_ENV_SF_LO.MASK w)).testBit f else (s.rd (SRC_ENV_SF_HI.MASK w)).testBit (f - 32))
    && s.rd (SRC_SF_CFG.OWNER f) = w

/-- The channel offsets of the envelope's ranges, in order (R131, R135). -/
def envOffsets (s : State) (w : Nat) : List Nat :=
  (List.range 4).flatMap (fun r =>
    if s.flag (SRC_ENV_COFS.EN w r) then
      (List.range (s.rd (SRC_ENV_COFS.HI w r) + 1)).filter (fun c => s.rd (SRC_ENV_COFS.LO w r) ≤ c)
    else [])

/-- Adaptation is enabled in Ward `w` (R131). -/
def envOn (s : State) (w : Nat) : Bool := s.flag SRC_CFG.ADAPT_EN && s.flag (SRC_ENV_CTL.EN w)

/-- The limits of R131 on any change of cell `c` in slotframe `f`: slotframe, channel offset, front end, template. -/
def envRange (s : State) (w f : Nat) (c : Cell) : Bool :=
  envSf s w f && (envOffsets s w).contains c.chofs && (s.rd (SRC_ENV_CTL.FE_MASK w)).testBit c.fe && (s.rd (SRC_ENV_CTL.TT_MASK w)).testBit c.tt

/-- The limits of R131 on an add of cell `c` for its node in slotframe `f`, tokens and budget left aside; its template is in use (R125). -/
def envCell (s : State) (w f : Nat) (c : Cell) : Bool := s.flag (MAC_TT_OPT.EN c.tt) && envRange s w f c

/-- The cell at index `i`, in an enabled slotframe, is within those limits of Ward `w` (R131). -/
def envHolds (s : State) (w i : Nat) : Bool :=
  match sfOf s (sfsEn s) i with
  | some f => envRange s w f (Store.find {} s.src.cells i)
  | none => false

/-- The cells of Ward `w` in enabled slotframes, with every change that is staged or held done (R131). -/
def plannedIn (s : State) (w : Nat) : List (Nat × Cell) :=
  (planCells s).filter (fun p => p.2.typ != 0 && (match sfOf s (sfsEn s) p.1 with | some f => s.rd (SRC_SF_CFG.OWNER f) = w | none => false))

/-- The budget of R131 for one more cell of Ward `w`. -/
def envBudget (s : State) (w : Nat) : Bool :=
  !s.flag (SRC_W_CELLS.OVER w) && (plannedIn s w).length + 1 ≤ s.rd (SRC_ENV_BUDGET.MAX_CELLS w)

/-- A node's cells of one type in enabled slotframes, with every change that is staged or held done. -/
def plannedCells (s : State) (nix typ : Nat) : Nat :=
  ((planCells s).filter (fun p => p.2.typ = typ && p.2.nix = nix && (sfOf s (sfsEn s) p.1).isSome)).length

/-- The budget and the per-node maximum of R131 for one more cell of type `typ` for node `nix`. -/
def envMore (s : State) (w nix typ : Nat) : Bool :=
  envBudget s w && plannedCells s nix typ + 1 ≤ (if typ = 1 then s.rd (SRC_ENV_NODE.MAX_TX w) else s.rd (SRC_ENV_NODE.MAX_RX w))

/-- A node's cells of one type in enabled slotframes that no change, staged or held, deletes. -/
def lastingCells (s : State) (nix typ : Nat) : Nat :=
  let held := s.src.p6out.flatMap (fun p => match p.2 with | some x => x.dels | none => []) ++ s.src.p6ack.flatMap (·.dels)
  ((workCells s).filter (fun p => p.2.typ = typ && p.2.nix = nix && !held.contains p.1 && (sfOf s (sfsEn s) p.1).isSome)).length

/-- The per-node minimum of R131 for `n` cells of type `typ` less. -/
def envLess (s : State) (w nix typ n : Nat) : Bool :=
  n = 0 || (if typ = 1 then s.rd (SRC_ENV_NODE.MIN_TX w) else s.rd (SRC_ENV_NODE.MIN_RX w)) + n ≤ lastingCells s nix typ

/-- A refusal under R131. -/
def envRefuse (w : Nat) (s : State) : State := (s.inc SRC_REJ_ENV).inc (SRC_W_REFUSED w)

/-- R135: the places a search tries for a cell, in order: slotframe, slot offset, channel offset, at most SCAN_MAX × 16 slot offsets. -/
def searchPlaces (s : State) (sfs : List Nat) (start : Nat → Nat) : List (Nat × Nat) :=
  (sfs.flatMap (fun f =>
    let n := s.rd (SRC_SF_GEOM.LEN f)
    (List.range n).map (fun i => (f, (start f + i) % n)))).take (s.rd SRC_ADAPT_CFG.SCAN_MAX * 16)

/-- The first place that passes R130 and R131 among `l`, for cell `c` with one of the channel offsets `ofs`. -/
def searchFirst (s : State) (ofs : List Nat) (ok : Nat → Cell → Bool) (c : Cell) (skip : Option Nat) : List (Nat × Nat) → Option (Nat × Cell)
  | [] => none
  | (f, o) :: l =>
    match ofs.findSome? (fun k =>
        let c := { c with chofs := k }
        if ok f c then (match tryPlace s f o c skip with | .at_ i => some (i, c) | .no .. => none) else none) with
    | some r => some r
    | none => searchFirst s ofs ok c skip l

/-- The cell R135 proposes for a node: the FE of its first cell or FE_DEF, TT_DEF, SPAN and `tc`. -/
def envProto (s : State) (w nix typ tc : Nat) : Cell :=
  let fe := match chainOf s nix with
    | [] => s.rd (SRC_ENV_CTL.FE_DEF w)
    | i :: _ => (Store.find {} s.src.cells i : Cell).fe
  { nix := nix, next := 0xFFFFF, span := s.rd (SRC_ENV_CTL.SPAN w), tt := s.rd (SRC_ENV_CTL.TT_DEF w), fe := fe, typ := typ, tc := tc }

/-- R135: the search of an add for node `nix` of Ward `w`. -/
def envSearch (s : State) (w nix typ tc : Nat) (skip : Option Nat) : Option (Nat × Cell) :=
  let sfs := (List.range 64).filter (envSf s w)
  let places := searchPlaces s sfs (fun f => nix * 40503 % s.rd (SRC_SF_GEOM.LEN f))
  searchFirst s (envOffsets s w) (envCell s w) (envProto s w nix typ tc) skip places

/-- Serac begins a transaction with a node; its request lists `n` slot offsets, and with `held` waits for the commit of what is staged (R140,
R142, R143). -/
def p6Begin (nix : Nat) (x : P6Txn) (n : Nat) (held : Bool) (s : State) : State :=
  let s := modSrc (fun y => { y with p6out := Store.put none y.p6out nix (some { x with since := s.rc }) }) (s.inc SRC_6P_INIT)
  p6Go nix (if x.op = 4 then 2 else 4 + 4 * n) false held s

/-- The transaction of a node is over; its sequence number advances when it completed (R141). -/
def p6Over (nix : Nat) (advance : Bool) (s : State) : State :=
  let s := modSrc (fun x => { x with
    p6out := Store.put none x.p6out nix none
    sendNext := x.sendNext.filter (fun y => !(y.1 = nix && !y.2.2))
    sendNow := x.sendNow.filter (fun y => !(y.1 = nix && !y.2.2)) }) s
  if advance then mirSend 1 (polPut (p6SeqAt nix) (p6Next (p6Seq s nix)) s) else s

end Sys2Proof.Machine
end

