-- ==== Sys2Proof/Machine/SchedCmds.lean ====
section
/-!
DEFINITION. Commands of Serac: slotframes and generations (R123, R124, R136, R137), the host's schedule commands (R138), switches and
window moves (R145, R146), automatic quiet runs (R148), microcode (R149), peaks (R150).
-/

namespace Sys2Proof.Machine

/-! Slotframes -/

/-- The last entry of slotframe `f`'s partition (R123). -/
def sfLast (s : State) (f : Nat) : Nat := s.rd (SRC_SF_BASE.BASE f) + s.rd (SRC_SF_GEOM.LEN f) * s.rd (SRC_SF_GEOM.WIDTH f) - 1

/-- The partitions of two slotframes overlap. -/
def sfOverlap (s : State) (f g : Nat) : Bool := s.rd (SRC_SF_BASE.BASE f) ≤ sfLast s g && s.rd (SRC_SF_BASE.BASE g) ≤ sfLast s f

/-- The first conflict of a cell of slotframe `f` with a cell of the slotframes `l`: WHY, the cell, the blocking cell (R124, R129). -/
def sfConflict (s : State) (f : Nat) (l : List Nat) : Option (Nat × Nat × Nat) :=
  let cells := planCells s
  (cells.filter (fun p => p.2.typ != 0 && inPartition s f p.1)).findSome? (fun p =>
    cells.findSome? (fun q =>
      if q.2.typ = 0 then none
      else match sfOf s l q.1 with
        | some g =>
          let w := conflictWhy s f (offsetOf s f p.1) p.2 g (offsetOf s g q.1) q.2
          if w = 0 then none else some (w, p.1, q.1)
        | none => none))

/-- R124: why slotframe `f` may not be enabled beside the slotframes `l`: BAD_WHY, 0 when it may, with the conflict found. -/
def sfCheck (s : State) (f : Nat) (l : List Nat) : Nat × Option (Nat × Nat × Nat) :=
  if l.any (fun g => g != f && sfOverlap s f g) then (1, none)
  else
    match sfConflict s f (l.filter (fun g => g != f)) with
    | some c => (2, some c)
    | none => if 0xFFFFE < sfLast s f then (3, none) else (0, none)

/-- A conflict of an enable or a switch is logged (R130). -/
def sfLog (c : Option (Nat × Nat × Nat)) (s : State) : State :=
  match c with
  | some (w, cand, blk) => reject w cand blk 3 s
  | none => s

/-- R124: EN of slotframe `sf` is set. -/
def execSfEnable (sf : Fin 64) (t : Nat) (s : State) : Result :=
  let s := s.at t
  let f := sf.val
  if !s.flag SRC_CFG.EN || s.flag (SRC_SF_CFG.EN f) then .next s
  else
    let s := checkTime s
    match sfCheck s f (sfsEn s) with
    | (0, _) => .next (stage [.enable f] (cellsView (s.put (SRC_SF_CFG.EN f) true)))
    | (w, c) => .next (raise Irq.SRC_SF_BAD ((sfLog c s).wr (SRC_SF_CFG.BAD_WHY f) w))

/-- R124: EN of slotframe `sf` is cleared. -/
def execSfDisable (sf : Fin 64) (t : Nat) (s : State) : Result :=
  let s := s.at t
  let f := sf.val
  .next (if s.flag (SRC_SF_CFG.EN f) then stage [.disable f] (cellsView (s.put (SRC_SF_CFG.EN f) false)) else s)

/-! Generations -/

/-- Some staged change is adaptive or of a 6P answer (R136). -/
def stagedAdaptive (s : State) : Bool :=
  (s.src.staged ++ s.src.spill).any (fun c => match c with | .add _ _ ad => ad | .del _ ad => ad | _ => false)

/-- R136: COMMIT_MS has passed since it last had: staged adaptive changes are applied. -/
def execCommitMsExpiry (t : Nat) (s : State) : Result :=
  let s := s.at t
  if !s.reached (s.src.commitAt + s.rd SRC_ADAPT_CFG.COMMIT_MS * 1000000) then .next s
  else
    let s := modSrc (fun x => { x with commitAt := s.rc }) s
    .next (if s.flag SRC_CFG.EN && stagedAdaptive s then applyStart s else s)

/-- R136: SRC_GEN_CMD.COMMIT is written. -/
def execGenCommit (t : Nat) (s : State) : Result :=
  let s := s.at t
  .next (if s.flag SRC_CFG.EN && !s.src.staged.isEmpty then applyStart s else s)

/-- R136: the apply under way completes. -/
def execGenApplyComplete (t : Nat) (s : State) : Result := .next (applyDone (s.at t))

/-- Slots from ASN `a` until the next QUIET cell of front end `n` in the cells in force; none when there is none. -/
def quietFrom (s : State) (n asn : Nat) : Option Nat :=
  s.src.live.foldl (fun a p =>
    if p.2.typ = 5 && p.2.fe = n then
      match sfOf s (sfsOn s) p.1 with
      | some f =>
        let len := s.rd (SRC_SF_GEOM.LEN f)
        let k := (offsetOf s f p.1 + len - asn % len) % len
        some (match a with | some j => min j k | none => k)
      | none => a
    else a) none

/-- Slots until the next QUIET cell of front end `n`: of the cells in force up to the first of the boundaries `l`, then of those that each
boundary brings, up to the next (R136). -/
def quietOver (s : State) (n : Nat) : List Nat → Option Nat
  | [] => none
  | a :: l =>
    match quietFrom (schedDue s a) n a with
    | some k => if l.any (fun b => ahead b a ≤ k) then quietOver s n l else some (ahead a s.asn + k)
    | none => quietOver s n l

/-- Slots until the next QUIET cell of front end `n`, in the generation in force and in those that wait for their boundary; none when there
is none. -/
def quietAhead (s : State) (n : Nat) : Option Nat := quietOver s n (s.asn :: s.src.bounds.map (·.asn))

/-- SRC_QUIET_STS.NEXT_IN: 0xFFFF when no QUIET cell comes sooner. -/
def quietNext (s : State) (n : Nat) : Nat := min 0xFFFF ((quietAhead s n).getD 0xFFFF)

/-- R141: every 6P sequence number returns to 0. -/
def p6SeqClear (s : State) : State :=
  modPcr (fun p => { p with mem := p.mem.filter (fun c => !(0x380000 ≤ c.1 && c.1 < 0x400000 && c.1 % 2 = 0)) }) s

/-- R137: SRC_GEN_CMD.CLEAR is written. Evictions that wait for a boundary complete with GEN_CLEAR_COMPLETE (R144); the host commands that
waited for an apply are done. -/
def execGenClear (t : Nat) (s : State) : Result :=
  let s := s.at t
  let cmds := s.src.cmdNow ++ s.src.cmdNext
  let nodes := (s.nodes.filter (fun p => p.2.cellCnt != 0 || p.2.tcUp != 0 || p.2.tcDown != 0)).map (·.1)
  let sends := (s.src.sendNow ++ s.src.sendNext).filter (fun y => !y.2.2)
  let s := s.each nodes (fun n s => s.modNode n (fun r => { r with cellPtr := 0, cellCnt := 0, tcUp := 0, tcDown := 0 }))
  let s := s.each (List.range 64) (fun f s => (s.put (SRC_SF_CFG.EN f) false).put (SRC_SF_CFG.ON f) false)
  let s := modSrc (fun x => { x with
    cells := []
    live := []
    staged := []
    spill := []
    applying := none
    applyDue := false
    bounds := []
    sendNext := []
    sendNow := []
    p6ack := []
    p6out := x.p6out.map (fun p => (p.1, p.2.map (fun y => { y with adds := [], dels := [], early := [] })))
    autoQuiet := []
    cmdNow := []
    cmdNext := []
    refill := []
    wants := []
    clearing := true }) s
  let s := p6SeqClear (stagedView (cellsView ((s.wr SRC_GEN.CUR 0).wr SRC_GEN.BOUND s.asn)))
  let s := s.each [0, 1, 2, 3] (fun n s => s.wr (SRC_QUIET_STS.NEXT_IN n) (quietNext s n))
  .next ((s.each sends p6Deliver).each cmds (fun c => cmdDone c.1 c.2.1 c.2.2.1 0 c.2.2.2 0 0 [] false))

/-- R137, R144: a CLEAR finishes: the evictions that waited for their boundary have their cells removed. -/
def execGenClearComplete (t : Nat) (s : State) : Result :=
  let s := s.at t
  .next (if s.src.clearing then modSrc (fun x => { x with clearing := false, evictNext := [], evicting := [] }) s else s)

/-! Schedule commands of the host -/

/-- Opcodes of R291. -/
def opSchedAdd : Nat := 0x30
def opSchedDel : Nat := 0x31
def opSchedMove : Nat := 0x32
def opSchedRead : Nat := 0x33
def opSchedNode : Nat := 0x34
def opSchedSfClear : Nat := 0x35

/-- R150: schedule commands run while SRC_CFG.EN is 1. DEDUCED (log entry 15): a ring takes one that comes while it is 0, and the command waits
there until its row comes again while EN is 1. `own`: the command changes the schedule (R424). -/
def withSched (ring op tag : Nat) (own : Bool) (f : State → State) (s : State) : Result :=
  let park (b : Bool) (s : State) : State := { s with hif := { s.hif with parked := Store.put false s.hif.parked ring b } }
  let run (s : State) : State := if own && !owns s then cmdPlain ring op tag 0xF3 s else f s
  if Store.find false s.hif.parked ring then .next (if s.flag SRC_CFG.EN then run (park false s) else s)
  else withCmd ring (fun s => if s.flag SRC_CFG.EN then run s else park true s) s

/-- The cell that a command gives (R125). -/
def specCell (c : CellSpec) : Cell :=
  { chofs := c.chofs
    nix := if c.typ = 1 || c.typ = 2 then c.nix else 0
    next := 0xFFFFF
    span := c.span
    tt := c.tt
    fe := c.fe
    typ := c.typ
    lock := c.lock
    tc := c.tc }

/-- The fields of a cell record are in range, and its template is in use (R125, R289). -/
def specOk (s : State) (c : CellSpec) : Bool :=
  c.chofs < 1024 && c.nix < 262144 && c.span < 16 && c.tt < 8 && c.fe < 4 && 1 ≤ c.typ && c.typ ≤ 6 && c.tc < 8
    && s.flag (MAC_TT_OPT.EN c.tt)

/-- R138: the guard of BASE_GEN. -/
def stale (s : State) (c : SchedCmd) : Bool := c.baseGen != 0 && c.baseGen != s.rd SRC_GEN.CUR

/-- R138, R143: the cell's node has a 6P transaction outstanding, begun by Serac or by the node. -/
def p6Busy (s : State) (c : Cell) : Bool := chained c && ((p6Of s c.nix).isSome || s.src.p6in.contains c.nix || s.src.p6ack.any (fun a => a.nix = c.nix))

/-- R138, R142: an ANNOUNCE runs a transaction: the cell has a peer, and Serac speaks 6P, which it does while the ASN runs (R150). DESIGN
CHOICE (log entry 29): otherwise the command does without one. -/
def announces (s : State) (c : SchedCmd) (x : Cell) : Bool := c.announce && chained x && p6Runs s

/-- R138: a change of the host is staged; without HOLD it is applied, and the command completes with the apply. -/
def schedFinish (c : SchedCmd) (op ret : Nat) (l : List Change) (s : State) : State :=
  let s := stage l s
  if c.hold then cmdDone c.ring op c.tag 0 ret 0 0 [] false s
  else applyStart (modSrc (fun x => { x with cmdNext := x.cmdNext ++ [(c.ring.val, op, c.tag, ret)] }) s)

/-- A schedule command is refused. -/
def schedFail (c : SchedCmd) (op code : Nat) (s : State) : State := cmdPlain c.ring op c.tag code s

/-- R130, R138: a refusal of a placement: the conflict log, and 1 CONFLICT or 2 FULL. -/
def schedReject (c : SchedCmd) (op why cand blk : Nat) (s : State) : State :=
  schedFail c op (if why = 5 || why = 6 then 2 else 1) (reject why cand blk 0 s)

/-- R138: the checks that come before a placement, in order; 0 when they pass. `n` is the number of changes. -/
def schedPre (s : State) (c : SchedCmd) (sf ofs : Nat) (x : CellSpec) (n : Nat) : Nat :=
  if !specOk s x || 256 ≤ c.baseGen then 0xF1
  else if s.rd (SRC_SF_GEOM.LEN sf) < ofs + x.span + 1 then 5
  else if stale s c then 3
  else if (x.typ = 1 || x.typ = 2) && !nodeActive s x.nix then 6
  else if p6Busy s (specCell x) || (announces s c (specCell x) && s.rd SRC_6P_CFG.MAX_OUT ≤ p6Count s) then 4
  else if !stageRoom s n then 8
  else 0

/-- R142: what a transaction of the host holds, and what it does early: an RX cell is committed before, a TX cell after it. -/
def announceAdd (c : SchedCmd) (op ret : Nat) (i : Nat) (x : Cell) (s : State) : State :=
  let txn : P6Txn := { op := 1, cmd := some (c.ring.val, op, c.tag), ret := ret, hold := c.hold }
  if x.typ = 2 then p6Begin x.nix { txn with early := [i] } (x.span + 1) true (stage [.add i x false] s)
  else p6Begin x.nix { txn with adds := [(i, x)] } (x.span + 1) false s

/-- R138: SCHED_ADD. -/
def execSchedAdd (c : SchedCmd) (sf : Fin 64) (ofs : Nat) (cell : CellSpec) (t : Nat) (s : State) : Result :=
  let s := s.at t
  withSched c.ring opSchedAdd c.tag true (fun s =>
    let s := s.inc SRC_HOST_CMDS
    match schedPre s c sf ofs cell 1 with
    | 0 =>
      let s := checkTime s
      match tryPlace s sf ofs (specCell cell) none with
      | .no w cand blk => schedReject c opSchedAdd w cand blk s
      | .at_ i =>
        let s := stageCount 1 0 s
        if announces s c (specCell cell) then announceAdd c opSchedAdd i i (specCell cell) s
        else schedFinish c opSchedAdd i [.add i (specCell cell) false] s
    | k => schedFail c opSchedAdd k s) s

/-- R138: SCHED_DEL. An index that holds no cell is an operand out of range. -/
def execSchedDel (c : SchedCmd) (idx : Nat) (t : Nat) (s : State) : Result :=
  let s := s.at t
  withSched c.ring opSchedDel c.tag true (fun s =>
    let s := s.inc SRC_HOST_CMDS
    let x : Cell := Store.find {} (workCells s) idx
    if x.typ = 0 || 256 ≤ c.baseGen then schedFail c opSchedDel 0xF1 s
    else if stale s c then schedFail c opSchedDel 3 s
    else if p6Busy s x || (announces s c x && s.rd SRC_6P_CFG.MAX_OUT ≤ p6Count s) then schedFail c opSchedDel 4 s
    else if !stageRoom s 1 then schedFail c opSchedDel 8 s
    else
      let s := stageCount 0 1 s
      if announces s c x then
        let txn : P6Txn := { op := 2, cmd := some (c.ring.val, opSchedDel, c.tag), hold := c.hold }
        if x.typ = 2 then p6Begin x.nix { txn with dels := [idx] } (x.span + 1) false s
        else p6Begin x.nix txn (x.span + 1) true (stage [.del idx false] s)
      else schedFinish c opSchedDel 0 [.del idx false] s) s

/-- R138: SCHED_MOVE: a delete and an add in one batch. -/
def execSchedMove (c : SchedCmd) (idx : Nat) (sf : Fin 64) (ofs : Nat) (cell : CellSpec) (t : Nat) (s : State) : Result :=
  let s := s.at t
  withSched c.ring opSchedMove c.tag true (fun s =>
    let s := s.inc SRC_HOST_CMDS
    let old : Cell := Store.find {} (workCells s) idx
    if old.typ = 0 then schedFail c opSchedMove 0xF1 s
    else
      match schedPre s c sf ofs cell 2 with
      | 0 =>
        let s := checkTime s
        let x := specCell cell
        if p6Busy s old then schedFail c opSchedMove 4 s
        else
          match tryPlace s sf ofs x (some idx) with
          | .no w cand blk => schedReject c opSchedMove w cand blk s
          | .at_ i =>
            let s := stageCount 1 1 s
            if announces s c x then
              let txn : P6Txn := { op := 3, cmd := some (c.ring.val, opSchedMove, c.tag), ret := i, hold := c.hold }
              let now : List Change := (if old.typ = 2 && i != idx then [] else [.del idx false]) ++ (if x.typ = 2 then [.add i x false] else [])
              p6Begin x.nix { txn with
                adds := if x.typ = 2 then [] else [(i, x)]
                dels := if old.typ = 2 && i != idx then [idx] else []
                early := if x.typ = 2 then [i] else [] } (old.span + 1 + x.span + 1) (!now.isEmpty) (stage now s)
            else schedFinish c opSchedMove i [.del idx false, .add i x false] s
      | k => schedFail c opSchedMove k s) s

/-- A cell record in the format of R125. -/
def packCell (c : Cell) : Nat :=
  c.chofs % 2 ^ 10 + c.nix % 2 ^ 18 * 2 ^ 10 + c.next % 2 ^ 20 * 2 ^ 28 + c.span % 2 ^ 4 * 2 ^ 48 + c.tt % 2 ^ 3 * 2 ^ 52
    + c.fe % 2 ^ 2 * 2 ^ 55 + c.typ % 2 ^ 3 * 2 ^ 57 + ofBool c.lock * 2 ^ 60 + c.tc % 2 ^ 3 * 2 ^ 61

/-- R138: SCHED_READ: a cell record and its position; an enabled slotframe's partition is named before a disabled one's. -/
def execSchedRead (c : SchedCmd) (idx : Nat) (t : Nat) (s : State) : Result :=
  let s := s.at t
  withSched c.ring opSchedRead c.tag false (fun s =>
    let s := s.inc SRC_HOST_CMDS
    match sfOf s (sfsEn s ++ List.range 64) idx with
    | none => schedFail c opSchedRead 5 s
    | some f =>
      if stale s c then schedFail c opSchedRead 3 s
      else
        let w := packCell (Store.find {} s.src.cells idx)
        cmdDone c.ring opSchedRead c.tag 0 (w % 2 ^ 32) (w / 2 ^ 32) (f + 2 ^ 16 * offsetOf s f idx) [] false s) s

/-- R138: SCHED_NODE: a node's chain. -/
def execSchedNode (c : SchedCmd) (nix : Nat) (t : Nat) (s : State) : Result :=
  let s := s.at t
  withSched c.ring opSchedNode c.tag false (fun s =>
    let s := s.inc SRC_HOST_CMDS
    if 262144 ≤ nix then schedFail c opSchedNode 0xF1 s
    else if stale s c then schedFail c opSchedNode 3 s
    else if !nodeActive s nix then schedFail c opSchedNode 6 s
    else cmdData c.ring opSchedNode { tag := c.tag, addr := c.addr, len := c.len } (s.node nix).cellCnt 0 (chainOf s nix) s) s

/-- R127, R136, R138: SCHED_SF_CLEAR: the deletion of every cell of a disabled slotframe is staged, as any other change of the host. -/
def execSchedSfClear (c : SchedCmd) (sf : Nat) (t : Nat) (s : State) : Result :=
  let s := s.at t
  withSched c.ring opSchedSfClear c.tag true (fun s =>
    let s := s.inc SRC_HOST_CMDS
    let l := (workCells s).filter (fun p => p.2.typ != 0 && inPartition s sf p.1)
    if 64 ≤ sf then schedFail c opSchedSfClear 0xF1 s
    else if stale s c then schedFail c opSchedSfClear 3 s
    else if s.flag (SRC_SF_CFG.EN sf) || s.flag (SRC_SF_CFG.ON sf) then schedFail c opSchedSfClear 7 s
    else if l.any (fun p => p6Busy s p.2) then schedFail c opSchedSfClear 4 s
    else schedFinish c opSchedSfClear 0 (l.map (fun p => .del p.1 false)) (stageCount 0 l.length s)) s

/-! Switches and window moves -/

/-- The first boundary of slotframe `f` at or after ASN `a` (R145). -/
def sfBoundary (s : State) (f a : Nat) : Nat :=
  let n := s.rd (SRC_SF_GEOM.LEN f)
  (a + (n - a % n) % n) % asnMod

/-- The ASN `asked`, when it is at least 2 slots after the current one; else the current one and 2, late (R145, R146). -/
def twoAhead (s : State) (asked : Nat) : Nat × Bool :=
  if 2 ≤ ahead asked s.asn then (asked % asnMod, false) else ((s.asn + 2) % asnMod, true)

/-- R145: the ASN of an armed switch is chosen. -/
def switchChoose (s : State) : State :=
  let p := twoAhead s (asnField SRC_SW_ASN_LO.ASN SRC_SW_ASN_HI.ASN s)
  let b := sfBoundary s (s.rd SRC_SW_CTL.TO) p.1
  let s := (s.wr SRC_SW_AT_LO.ASN b).wr SRC_SW_AT_HI.ASN (b / 2 ^ 32)
  if p.2 then raise Irq.SRC_LATE_SWITCH (s.put SRC_STS.LATE_SWITCH true) else s

/-- R145: SRC_SW_CTL is written; with ARM as 0 nothing is armed. -/
def execSfSwitchArm (frm target : Fin 64) (fromEn arm : Bool) (t : Nat) (s : State) : Result :=
  let s := s.at t
  let s := ((s.wr SRC_SW_CTL.FROM frm).wr SRC_SW_CTL.TO target).put SRC_SW_CTL.FROM_EN fromEn
  if !arm then .next (s.put SRC_SW_CTL.ARM false)
  else
    let l := (sfsEn s).filter (fun g => !(fromEn && g = frm.val))
    let s := checkTime s
    match sfCheck s target l with
    | (0, _) => .next (switchChoose ((s.put SRC_SW_CTL.ARM true).put SRC_SW_CTL.BAD false))
    | (_, c) => .next (raise Irq.SRC_SW_BAD ((sfLog c s |>.put SRC_SW_CTL.ARM false).put SRC_SW_CTL.BAD true))

/-- R146: the ASN of an armed window move is chosen. -/
def wmoveChoose (s : State) : State :=
  let p := twoAhead s (asnField SRC_WMOVE_ASN_LO.ASN SRC_WMOVE_ASN_HI.ASN s)
  let s := modSrc (fun x => { x with wmoveAt := p.1, wmoveSent := false }) s
  if p.2 then s.put SRC_STS.WMOVE_LATE true else s

/-- R146: SRC_WMOVE_CTL is written; with ARM as 0 nothing is armed. FE2 has one window, so its move is refused. -/
def execWmoveArm (fe : Fin 4) (khz : Nat) (arm : Bool) (t : Nat) (s : State) : Result :=
  let s := (s.at t).wr SRC_WMOVE_CTL.FE fe
  let s := s.wr SRC_WMOVE_CTL.CENTRE (if fe.val = 2 then khz else centreClamp fe khz)
  if !arm then .next (s.put SRC_WMOVE_CTL.ARM false)
  else if fe.val = 2 then .next ((s.put SRC_WMOVE_CTL.ARM false).put SRC_WMOVE_CTL.BAD true)
  else .next (wmoveChoose ((s.put SRC_WMOVE_CTL.ARM true).put SRC_WMOVE_CTL.BAD false))

/-- R146: in the slot before the move, at least 100 µs before its tick, Serac writes CENTRE of the front end. -/
def execWmoveCentreWrite (t : Nat) (s : State) : Result :=
  let s := s.at t
  if s.flag SRC_WMOVE_CTL.ARM && asnRuns s && !s.src.wmoveSent && (s.asn + 1) % asnMod = s.src.wmoveAt
      && (s.rc : Int) + 100000 ≤ tickRc s s.src.wmoveAt then
    .next (tuneWrite (s.rd SRC_WMOVE_CTL.FE) (s.rd SRC_WMOVE_CTL.CENTRE) (modSrc (fun x => { x with wmoveSent := true }) s))
  else .next s

/-! Quiet runs -/

/-- R148: an automatic QUIET cell is placed. -/
def execQuietAutoPlace (fe : Fin 4) (t : Nat) (s : State) : Result :=
  let s := s.at t
  let n := fe.val
  let f := s.rd (SRC_QUIET_CFG.QSF n)
  let wait := s.rd (SRC_QUIET_CFG.MAX_WAIT n)
  let have_ := (Store.find none s.src.autoQuiet n).isSome
  let soon := match quietAhead s n with | some k => decide (k ≤ wait) | none => false
  if !s.flag SRC_CFG.EN || !asnRuns s || !s.flag (SRC_QUIET_CFG.AUTO n) || !s.flag (RFE_STS.CAL_DUE n) || have_
      || soon || !s.flag (SRC_SF_CFG.EN f) then .next s
  else
    let c : Cell := { next := 0xFFFFF, fe := n, typ := 5, span := s.rd (SRC_QUIET_CFG.RUN_SLOTS n) }
    let s := checkTime s
    match searchFirst s [0] (fun _ c => s.flag (MAC_TT_OPT.EN c.tt)) c none (searchPlaces s [f] (fun _ => 0)) with
    | none => .next s
    | some (i, c) =>
      let s := modSrc (fun x => { x with autoQuiet := Store.put none x.autoQuiet n (some (i, none)) }) s
      .next (applyStart (stage [.add i c false] s))

/-! Microcode and peaks -/

/-- R149: SRC_UC_DATA is written. The version in an image's header is a value the spec gives no place for. -/
def execSrcUcDataWrite (word : Word) (t : Nat) (s : State) : Result :=
  let s := s.at t
  if ucOpen s then
    let i := s.rd SRC_UC_IDX.WORD
    let k := (1 - s.rd SRC_STS.UC_BANK) * 4096 + i
    let s := modSrc (fun x => { x with uc := Store.put 0 x.uc k word.toNat }) s
    .next ((s.wrFree SRC_UC_VER.INACTIVE).wr SRC_UC_IDX.WORD (i + 1))
  else .next s

/-- R149: the image that the inactive bank was loaded with is whole, was not refused (R375), and has the state version of the active one. -/
def srcBankOk (s : State) : Bool :=
  let b := 1 - s.rd SRC_STS.UC_BANK
  let h := Store.find none s.src.ucHead b
  let same : Bool := match h, Store.find none s.src.ucHead (1 - b) with
    | some h, some a => h.sver = a.sver
    | _, _ => true
  !s.src.ucBad && bankWhole 4096 b s.src.uc h && same

/-- R149: SRC_UC_CTL is written; `ok` is the outcome of the checks of an image written word by word, whose header the spec does not place. -/
def execSrcUcArm (arm ok : Bool) (t : Nat) (s : State) : Result :=
  let s := s.at t
  .next (if !arm then s.put SRC_UC_CTL.ARM false
    else if ok && srcBankOk s then applyStart ((s.put SRC_UC_CTL.ARM true).put SRC_UC_CTL.BAD false)
    else raise Irq.SRC_UC_BAD ((s.put SRC_UC_CTL.ARM false).put SRC_UC_CTL.BAD true))

/-- SRC_CELLS_PEAK is read and clears (R150). -/
def execSrcCellsPeakRead (requester : Requester) (s : State) : Result :=
  .next ((s.answer requester (s.rd SRC_CELLS_PEAK.PEAK)).wr SRC_CELLS_PEAK.PEAK 0)

/-- SRC_CHK_PEAK is read and clears (R150). -/
def execSrcChkPeakRead (requester : Requester) (s : State) : Result :=
  .next ((s.answer requester (s.rd SRC_CHK_PEAK.US)).wr SRC_CHK_PEAK.US 0)

end Sys2Proof.Machine
end

