-- ==== Sys2Proof/Machine/SixP.lean ====
section
/-!
DEFINITION. Adaptation and 6P (R131 to R135, R140 to R143). What the shipped policy-core firmware proposes is modelled with it.
-/

namespace Sys2Proof.Machine

/-- Codes of a 6P return (R140, RFC 8480; log entry 12). -/
def rcSuccess : Nat := 0
def rcEol : Nat := 1
def rcErr : Nat := 2
def rcVersion : Nat := 4
def rcSfid : Nat := 5
def rcSeqnum : Nat := 6
def rcCellList : Nat := 7
def rcBusy : Nat := 8
def rcLocked : Nat := 9

/-! Adaptation -/

/-- A search found no place (R135): SLOT_FULL, by adaptation or a 6P answer. -/
def searchFull (by_ : Nat) (s : State) : State := reject 5 0xFFFFF 0xFFFFF by_ s

/-- R131, R134, R135, R142: an add of a cell of type `typ` for node `nix` is proposed: refused by the envelope, or searched, held or
committed early, and begun. -/
def proposeAdd (nix typ tc : Nat) (s : State) : State :=
  let w := (s.node nix).ward
  if !envOn s w || !envMore s w nix typ || !tokensOk s w 1 then envRefuse w s
  else
    let s := checkTime s
    match envSearch s w nix typ tc none with
    | none => searchFull 1 s
    | some (i, c) =>
      let s := stageCount 1 0 (tokensTake w 1 s)
      if typ = 2 then p6Begin nix { op := 1, early := [i] } (c.span + 1) true (stage [.add i c true] s)
      else p6Begin nix { op := 1, adds := [(i, c)] } (c.span + 1) false s

/-- R131, R134, R142: a delete of a node's last unlocked cell of type `typ` is proposed. -/
def proposeDel (nix typ : Nat) (s : State) : State :=
  let w := (s.node nix).ward
  match ((nodeCells s nix typ).filter (fun p => !p.2.lock)).getLast? with
  | none => s
  | some (i, c) =>
    if !envOn s w || !envHolds s w i || !envLess s w nix typ 1 || !tokensOk s w 1 then envRefuse w s
    else
      let s := stageCount 0 1 (tokensTake w 1 s)
      if typ = 2 then p6Begin nix { op := 2, dels := [i] } (c.span + 1) false s
      else p6Begin nix { op := 2 } (c.span + 1) true (stage [.del i true] s)

/-- R131, R134, R142: a relocation of a node's first unlocked TX cell is proposed: one add and one delete, both within the limits. -/
def proposeMove (nix : Nat) (s : State) : State :=
  let w := (s.node nix).ward
  match (nodeCells s nix 1).find? (fun p => !p.2.lock) with
  | none => s
  | some (i, c) =>
    if !envOn s w || !envHolds s w i || !envMore s w nix 1 || !envLess s w nix 1 1 || !tokensOk s w 2 then envRefuse w s
    else
      let s := checkTime s
      match envSearch s w nix 1 c.tc (some i) with
      | none => searchFull 1 s
      | some (j, d) =>
        let s := stageCount 1 1 (tokensTake w 2 s)
        p6Begin nix { op := 3, adds := [(j, d)] } (c.span + 1 + d.span + 1) true (stage [.del i true] s)

/-- How often the node's cells of type `typ` occurred from ASN `a` to `a + n` (R134). -/
def occurrences (s : State) (nix typ a n : Nat) : Nat :=
  (nodeCells s nix typ).foldl (fun k p =>
    match sfOf s (sfsEn s) p.1 with
    | some f =>
      let len := s.rd (SRC_SF_GEOM.LEN f)
      let o := offsetOf s f p.1
      let upTo (b : Nat) := (b + len - o) / len
      k + (upTo (a + n) - upTo a)
    | none => k) 0

/-- The adaptation period, ns (R134): PERIOD_S in FLOE, half of it rounded up in THAW, four times it in RIME. -/
def adaptPeriod (s : State) : Nat :=
  let p := s.rd SRC_ADAPT_CFG.PERIOD_S
  1000000000 * (match s.rd SYS_MODE_STS.CUR with | 0 => (p + 1) / 2 | 1 => p | _ => 4 * p)

/-- The node that the firmware visits next: in NIX order, from the first again after the last (R134). -/
def nextVisit (s : State) : Option Nat :=
  let l := (s.nodes.filter (fun p => p.2.state = .joined && !p.2.fenced)).map (·.1)
  match s.src.visited with
  | none => l.head?
  | some v => (l.find? (fun n => v < n)).or l.head?

/-- The time between two visits: the JOINED nodes' visits are spread evenly over the period (R134). -/
def visitGap (s : State) : Nat := adaptPeriod s / max 1 (s.nodes.filter (fun p => p.2.state = .joined && !p.2.fenced)).length

/-- R134: a visit of node `x` is due: it is next, the last visit lies one gap back, and its own last one a period. -/
def visitDue (s : State) (x : Nat) : Bool :=
  let old : Snap := Store.find {} s.src.snap x
  nextVisit s = some x && (s.src.visited.isNone || s.reached (s.src.visitAt + visitGap s)) && (!old.seen || s.reached (old.time + adaptPeriod s))

/-! Answers to a node's request -/

/-- A transaction in which an error code was returned, or which was abandoned, counts (R143, R150). -/
def p6Fail (nix : Nat) (s : State) : State := s.inc (SRC_W_6P_FAIL (s.node nix).ward)

/-- A request is processed: what its answer's ack will complete is opened. -/
def p6Open (nix : Nat) (s : State) : State := modSrc (fun x => { x with p6ack := x.p6ack ++ [{ nix := nix, since := s.rc }] }) s

/-- Change the transaction being answered: a node has one at most (R143). -/
def p6Edit (nix : Nat) (f : P6Answer → P6Answer) (s : State) : State :=
  modSrc (fun x => { x with p6ack := x.p6ack.map (fun a => if a.nix = nix then f a else a) }) s

/-- An answer carries no error code. -/
def p6CodeOk (code : Nat) : Bool := code = rcSuccess || code = rcEol

/-- An answer counts (R143, R150). -/
def p6Counted (nix code : Nat) (s : State) : State :=
  let s := s.inc SRC_6P_ANSWER
  if p6CodeOk code then s else p6Fail nix (s.inc SRC_6P_ERR)

/-- Serac answers a request that it does not process: its stored return code stays (R140, R141). -/
def p6Refuse (nix code : Nat) (s : State) : State := p6Go nix 0 false false (p6Counted nix code s)

/-- Serac answers a request that it has processed: the code is stored, and the frame, whose body takes `n` octets, waits for the commit of the
changes that must be in force before it (R140 to R142). -/
def p6Answer (nix code n : Nat) (s : State) : State :=
  let s := mirSend 1 (polPut (p6StsAt nix) code (p6Counted nix code s))
  let s := if p6CodeOk code then s else p6Edit nix (fun a => { a with ok := false }) s
  p6Go nix n true (s.src.p6ack.any (fun a => a.nix = nix && a.held)) s

/-- Listed slot offsets as cells: with SPAN_HOLD, consecutive slot offsets with one channel offset are one cell of several slots (R140):
slot offset, channel offset, SPAN. -/
def p6Group (hold : Bool) : List (Nat × Nat) → List (Nat × Nat × Nat)
  | [] => []
  | (o, c) :: l =>
    match p6Group hold l with
    | [] => [(o, c, 0)]
    | (o', c', k) :: r => if hold && o' = o + 1 && c' = c && k < 15 then (o, c, k + 1) :: r else (o, c, 0) :: (o', c', k) :: r

/-- The Bastis cell type of a request's cell options (R140). -/
def p6Type (q : P6Req) : Option Nat :=
  match q.tx, q.rx, q.shared with
  | true, false, false => some 2
  | false, true, false => some 1
  | true, true, true => some 3
  | _, _, _ => none

/-- The slot offsets a cell is listed as. -/
def listedAs (l : List Cell) : Nat := l.foldl (fun a c => a + c.span + 1) 0

/-- What keeping cells of a request came to: cells kept, and whether the envelope, or the tokens, refused one. -/
structure Kept where
  cells : List (Nat × Cell) := []
  env : Bool := false
  tokens : Bool := false
deriving DecidableEq, Repr

/-- R131: the limits on an add of `c` by a 6P answer; a SHARED cell has no per-node bound. -/
def answerEnv (s : State) (w f nix : Nat) (c : Cell) : Bool :=
  envOn s w && envCell s w f c
    && (if c.typ = 3 then envBudget s w else envMore s w nix c.typ)

/-- A cell is kept: an RX cell is committed before the answer, another joins the schedule with the answer's ack, and counts then (R142). -/
def keepCell (nix i : Nat) (c : Cell) (s : State) : State :=
  if c.typ = 2 then p6Edit nix (fun a => { a with early := a.early ++ [i], held := true }) (stage [.add i c true] (stageCount 1 0 s))
  else p6Edit nix (fun a => { a with adds := a.adds ++ [(i, c)] }) s

/-- R140: of the proposed cells, in order, those that pass R130 and R131 are kept, up to `n`. `skip` is a cell that goes away. -/
def keepCells (w f nix : Nat) (proto : Cell) (skip : Option Nat) : Nat → List (Nat × Nat × Nat) → Kept → State → Kept × State
  | 0, _, k, s => (k, s)
  | _, [], k, s => (k, s)
  | n + 1, (o, ofs, span) :: l, k, s =>
    let c := { proto with chofs := ofs, span := span }
    if !answerEnv s w f nix c then keepCells w f nix proto skip (n + 1) l { k with env := true } (envRefuse w s)
    else if !tokensOk s w 1 then keepCells w f nix proto skip (n + 1) l { k with tokens := true } (envRefuse w s)
    else
      let s := checkTime s
      match tryPlace s f o c skip with
      | .no why cand blk => keepCells w f nix proto skip (n + 1) l k (reject why cand blk 2 s)
      | .at_ i => keepCells w f nix proto skip n l { k with cells := k.cells ++ [(i, c)] } (keepCell nix i c (tokensTake w 1 s))

/-- R135, R140: with an empty list Serac proposes `n` cells of its own, in the slotframe that the request names. -/
def ownCells (w f nix : Nat) (proto : Cell) (skip : Option Nat) : Nat → Kept → State → Kept × State
  | 0, k, s => (k, s)
  | n + 1, k, s =>
    if !envOn s w || !envSf s w f then ({ k with env := true }, envRefuse w s)
    else if !tokensOk s w 1 then ({ k with tokens := true }, envRefuse w s)
    else
      let s := checkTime s
      let places := searchPlaces s [f] (fun f => nix * 40503 % s.rd (SRC_SF_GEOM.LEN f))
      match searchFirst s (envOffsets s w) (fun f c => answerEnv s w f nix c) proto skip places with
      | none => (k, searchFull 2 s)
      | some (i, c) => ownCells w f nix proto skip n { k with cells := k.cells ++ [(i, c)] } (keepCell nix i c (tokensTake w 1 s))

/-- The return code of an ADD or a RELOCATE that kept `k` (R140): with no cell kept, ERR_BUSY for want of tokens, ERR for another limit. -/
def keptCode (k : Kept) : Nat := if !k.cells.isEmpty then rcSuccess else if k.env then rcErr else if k.tokens then rcBusy else rcSuccess

/-- The cells of type `typ` that a node holds, as its requests name them (R140): those of its chain, and for a SHARED cell, which names no node,
those of its Ward (R126). DEDUCED (log entry 29). -/
def peerCells (s : State) (nix typ : Nat) : List (Nat × Cell) :=
  if typ = 3 then
    s.src.cells.filter (fun p => p.2.typ = 3 && (match sfOf s (sfsEn s) p.1 with
      | some f => s.rd (SRC_SF_CFG.OWNER f) = (s.node nix).ward
      | none => false))
  else nodeCells s nix typ

/-- The node's cell of type `typ` at a listed position of slotframe `f`. -/
def heldCell (s : State) (f nix typ : Nat) (p : Nat × Nat × Nat) : Option (Nat × Cell) :=
  (peerCells s nix typ).find? (fun q => inPartition s f q.1 && offsetOf s f q.1 = p.1 && q.2.chofs = p.2.1 && q.2.span = p.2.2)

/-- R140: the code that the listed cells of a DELETE or a RELOCATE get before any is touched. -/
def namedCode (l : List (Option (Nat × Cell))) : Nat :=
  if l.any (fun c => c.isNone) then rcCellList else if l.any (fun c => match c with | some c => c.2.lock | none => false) then rcLocked else rcSuccess

/-- A cell that an answer deletes (R142): an RX cell goes after the transaction, a TX or SHARED cell before the answer. -/
def dropCell (nix i : Nat) (c : Cell) (s : State) : State :=
  if c.typ = 2 then p6Edit nix (fun a => { a with dels := a.dels ++ [i] }) s
  else p6Edit nix (fun a => { a with held := true }) (stage [.del i true] (stageCount 0 1 s))

/-- R131: the codes of a refusal by the envelope, by the tokens and by LOCK, which all count. -/
def answerRefused (nix w code : Nat) (s : State) : State := p6Answer nix code 0 (envRefuse w s)

/-- R140: a listed cell that is not there, or is locked, refuses the request. -/
def answerNamed (nix w code : Nat) (s : State) : State := if code = rcLocked then answerRefused nix w code s else p6Answer nix code 0 s

/-- R140: ADD. -/
def answerAdd (nix : Nat) (q : P6Req) (typ : Nat) (s : State) : State :=
  let w := (s.node nix).ward
  let proto : Cell := { envProto s w nix typ (s.free 3) with nix := if typ = 3 then 0 else nix }
  let s := p6Open nix s.took
  let (k, s) := if q.cells.isEmpty then ownCells w q.sf nix proto none q.numCells {} s
    else keepCells w q.sf nix proto none q.numCells (p6Group q.spanHold q.cells) {} s
  let s := if q.cells.isEmpty then p6Edit nix (fun a => { a with three := true }) s else s
  p6Answer nix (keptCode k) (4 * listedAs (k.cells.map (·.2))) s

/-- R140: DELETE; with an empty list Serac lists the last unlocked cells, and the node confirms them (3-step). -/
def answerDel (nix : Nat) (q : P6Req) (typ : Nat) (s : State) : State :=
  let w := (s.node nix).ward
  let own := (peerCells s nix typ).filter (fun p => !p.2.lock && inPartition s q.sf p.1)
  let named := if q.cells.isEmpty then (own.reverse.take q.numCells).map some
    else ((p6Group q.spanHold q.cells).take q.numCells).map (heldCell s q.sf nix typ)
  let l := named.filterMap id
  let s := p6Edit nix (fun a => { a with del := true, three := q.cells.isEmpty }) (p6Open nix s)
  match namedCode named with
  | 0 =>
    let less : Bool := typ = 3 || envLess s w nix typ l.length
    if !envOn s w || !envSf s w q.sf || !l.all (fun p => envHolds s w p.1) || !less then answerRefused nix w rcErr s
    else if !tokensOk s w l.length then answerRefused nix w rcBusy s
    else
      let s := s.each l (fun c s => dropCell nix c.1 c.2 s)
      p6Answer nix rcSuccess (4 * listedAs (l.map (·.2))) (tokensTake w l.length s)
  | code => answerNamed nix w code s

/-- R140: RELOCATE: each cell kept among the candidates replaces one of the cells to move. -/
def answerMove (nix : Nat) (q : P6Req) (typ : Nat) (s : State) : State :=
  let w := (s.node nix).ward
  let named := ((p6Group q.spanHold q.cells).take q.numCells).map (heldCell s q.sf nix typ)
  let l := named.filterMap id
  let s := p6Open nix s
  match namedCode named with
  | 0 =>
    if !envOn s w || !envSf s w q.sf || !l.all (fun p => envHolds s w p.1) || (typ != 3 && !envLess s w nix typ (min 1 l.length)) then answerRefused nix w rcErr s
    else if !tokensOk s w 2 then answerRefused nix w rcBusy s
    else
      let may := (List.range (l.length + 1)).foldl (fun a k => if typ = 3 || envLess s w nix typ k then k else a) 0
      let n := min may (tokensNow s w / 2)
      let proto : Cell := { envProto s w nix typ ((l.head?.map (·.2.tc)).getD 0) with nix := if typ = 3 then 0 else nix }
      let (k, s) := if q.candidates.isEmpty then ownCells w q.sf nix proto none n {} s
        else keepCells w q.sf nix proto none n (p6Group q.spanHold q.candidates) {} s
      let gone := l.take k.cells.length
      let s := s.each gone (fun c s => dropCell nix c.1 c.2 s)
      let s := if q.candidates.isEmpty then p6Edit nix (fun a => { a with three := true }) s else s
      let s := tokensTake w gone.length s
      p6Answer nix (keptCode k) (4 * listedAs (k.cells.map (·.2))) s
  | code => answerNamed nix w code s

/-- R131, R140: CLEAR: the node's cells all go, within the limits that any deletion meets. -/
def answerClear (nix : Nat) (s : State) : State :=
  let w := (s.node nix).ward
  let l := (chainOf s nix).map (fun i => (i, (Store.find {} s.src.cells i : Cell)))
  let n (typ : Nat) := (nodeCells s nix typ).length
  let s := p6Open nix s
  if l.any (fun p => p.2.lock) then answerRefused nix w rcLocked s
  else if !envOn s w || !l.all (fun p => envHolds s w p.1) || !envLess s w nix 1 (n 1) || !envLess s w nix 2 (n 2) then
    answerRefused nix w rcErr s
  else if !l.isEmpty && !tokensOk s w l.length then answerRefused nix w rcBusy s
  else
    let s := (tokensTake w l.length s).each l (fun c s => dropCell nix c.1 c.2 s)
    p6Answer nix rcSuccess 0 (p6Edit nix (fun a => { a with clear := true }) s)

/-- The node's cells of the type and slotframe that a COUNT or a LIST asks about. -/
def askedCells (s : State) (nix : Nat) (q : P6Req) (typ : Nat) : List Cell :=
  ((peerCells s nix typ).filter (fun p => inPartition s q.sf p.1)).map (·.2)

/-- R131, R133, R141: the shipped firmware begins a CLEAR with the node: its unlocked TX cells go before the request, its RX cells after it. Each
takes a token; that it may leave the node below its minimum is R141's. -/
def beginClear (nix : Nat) (s : State) : State :=
  let w := (s.node nix).ward
  let l := ((chainOf s nix).map (fun i => (i, (Store.find {} s.src.cells i : Cell)))).filter (fun p => !p.2.lock)
  if !envOn s w || !l.all (fun p => envHolds s w p.1) || (!l.isEmpty && !tokensOk s w l.length) then envRefuse w s
  else
    let tx := (l.filter (fun p => p.2.typ = 1)).map (·.1)
    let rx := (l.filter (fun p => p.2.typ = 2)).map (·.1)
    let s := stageCount 0 l.length (tokensTake w l.length s)
    p6Begin nix { op := 4, dels := rx } 0 (!tx.isEmpty) (stage (tx.map (fun i => .del i true)) s)

/-- R141: after a CLEAR the shipped firmware adds cells up to the node's minimum, one transaction after another. An add that is refused or fails
is proposed again at the node's next visit. -/
def refill (nix tc : Nat) (s : State) : State :=
  let w := (s.node nix).ward
  if plannedCells s nix 1 < s.rd (SRC_ENV_NODE.MIN_TX w) then proposeAdd nix 1 tc s
  else if plannedCells s nix 2 < s.rd (SRC_ENV_NODE.MIN_RX w) then proposeAdd nix 2 tc s
  else modSrc (fun x => { x with refill := x.refill.filter (fun n => n != nix) }) s

/-- The firmware proposes `k` for a node; it takes the place of a proposal of the kind that still waits (R134, R143). -/
def propose (nix : Nat) (b : Bool) (k : Want) (tc : Nat) (s : State) : State :=
  if b then modSrc (fun x => { x with wants := x.wants.filter (fun w => !(w.1 = nix && w.2.1 = k)) ++ [(nix, k, tc)] }) s else s

/-- A proposal is put to Serac. -/
def wantDo (nix tc : Nat) (k : Want) (s : State) : State :=
  match k with
  | .addTx => proposeAdd nix 1 tc s
  | .delTx => proposeDel nix 1 s
  | .addRx => proposeAdd nix 2 tc s
  | .delRx => proposeDel nix 2 s
  | .move => proposeMove nix s
  | .clear => beginClear nix s
  | .refill => refill nix tc s

/-- R143: a proposal for node `nix` may begin: the node has no transaction outstanding, the Domain fewer than MAX_OUT, and the staging queue
has room for its changes (R136). -/
def mayBegin (s : State) (nix : Nat) : Bool :=
  (p6Of s nix).isNone && !s.src.p6ack.any (fun a => a.nix = nix) && p6Count s < s.rd SRC_6P_CFG.MAX_OUT && stageRoom s 2

/-- R143: the firmware's proposals that wait are begun, oldest first, as far as they may; the others wait on. Those for a record that is no
longer JOINED are given up (R144). -/
def firmwareTurn (s : State) : State :=
  s.each s.src.wants (fun w s =>
    let done := modSrc (fun x => { x with wants := x.wants.erase w })
    if (s.node w.1).state != .joined || (s.node w.1).fenced then done s
    else if mayBegin s w.1 then wantDo w.1 w.2.2 w.2.1 (done s)
    else s)

/-- A cell of node `n` and type `typ` may be deleted by adaptation now: its last unlocked one, within the limits of R131. -/
def deletable (s : State) (n typ : Nat) : Bool :=
  let w := (s.node n).ward
  match ((nodeCells s n typ).filter (fun p => !p.2.lock)).getLast? with
  | none => false
  | some (i, _) => envHolds s w i && envLess s w n typ 1

/-- R132: no other JOINED node of Ward `w` has cells of type `typ` to delete that were used less than `u` % in the last period. -/
def leastUsed (s : State) (w x typ u : Nat) : Bool :=
  s.src.snap.all (fun p => p.1 = x || (s.node p.1).ward != w || (s.node p.1).state != .joined || (s.node p.1).fenced || !deletable s p.1 typ
    || u ≤ (if typ = 1 then p.2.useTx else p.2.useRx))

/-- Percentage `n` is of `m`. -/
def percent (n m : Nat) : Nat := if m = 0 then 0 else n * 100 / m

/-- R132, R134: the shipped firmware visits a node; `tc` is the traffic class it proposes for new cells. A first visit has no snapshot to compare
with. A node that is below its minimum after a CLEAR comes first (R141). DESIGN CHOICE (log entry 29): in a Ward over its budget the least-used
cells are those of the node and direction with the least use, among those that have a cell to delete. -/
def execAdaptVisit (nix : Fin 262144) (tc : Fin 8) (t : Nat) (s : State) : Result :=
  let s := s.at t
  let x := nix.val
  let r := s.node x
  if !p6Runs s || !visitDue s x then .next s
  else
    let w := r.ward
    let old : Snap := Store.find {} s.src.snap x
    let n := ahead s.asn old.asn
    let dTx := (r.txAtt + 2 ^ 32 - old.txAtt) % 2 ^ 32
    let dRx := (r.rxOk + 2 ^ 32 - old.rxOk) % 2 ^ 32
    let oTx := if old.seen then occurrences s x 1 old.asn n else 0
    let oRx := if old.seen then occurrences s x 2 old.asn n else 0
    let useTx := percent dTx oTx
    let useRx := percent dRx oRx
    let addAt := s.rd (SRC_ENV_ADD.UTIL_ADD w)
    let delAt := s.rd (SRC_ENV_DEL.UTIL_DEL w)
    let lowTx := if oTx != 0 && dTx * 100 < delAt * oTx && r.qFrames = 0 then old.lowTx + 1 else 0
    let lowRx := if oRx != 0 && dRx * 100 < delAt * oRx then old.lowRx + 1 else 0
    let periods := s.rd (SRC_ENV_DEL.DEL_PERIODS w)
    let upTx := s.rd (SRC_ENV_ADD.ADD_Q w) ≤ r.qFrames || (oTx != 0 && addAt * oTx ≤ dTx * 100)
    let upRx := oRx != 0 && addAt * oRx ≤ dRx * 100
    let less := old.seen && s.flag (SRC_W_CELLS.OVER w)
    let canTx := deletable s x 1
    let canRx := deletable s x 2
    let lessTx := less && canTx && (!canRx || useTx ≤ useRx) && leastUsed s w x 1 useTx && leastUsed s w x 2 useTx
    let lessRx := less && canRx && (!canTx || useRx < useTx) && leastUsed s w x 1 useRx && leastUsed s w x 2 useRx
    let snap : Snap := {
      seen := true
      time := s.rc
      useTx := useTx
      useRx := useRx
      txAtt := r.txAtt
      rxOk := r.rxOk
      asn := s.asn
      lowTx := lowTx
      lowRx := lowRx }
    let s := modSrc (fun y => { y with snap := Store.put {} y.snap x snap, visited := some x, visitAt := s.rc }) s
    let moved := old.seen && r.pdr < s.rd (SRC_ENV_ADD.PDR_MOVE w) && s.rd (SRC_ENV_DEL.MIN_ATT w) ≤ dTx
    let s := propose x (s.src.refill.contains x) .refill tc s
    let s := propose x upTx .addTx tc s
    let s := propose x (lessTx || (!upTx && periods ≤ lowTx)) .delTx tc s
    let s := propose x upRx .addRx tc s
    let s := propose x (lessRx || (!upRx && periods ≤ lowRx)) .delRx tc s
    .next (firmwareTurn (propose x moved .move tc s))

/-- The oldest message of a node waits to be handled. -/
def p6Waits (s : State) (nix : Nat) : Bool := p6Runs s && s.src.p6in.contains nix

/-- The oldest message of a node is taken. -/
def p6Take (nix : Nat) (s : State) : State := modSrc (fun x => { x with p6in := x.p6in.erase nix }) s

/-- A processed request (R140): other metadata, then the command. -/
def answerRequest (nix : Nat) (q : P6Req) (s : State) : State :=
  if q.other || 64 ≤ q.sf then p6Answer nix rcErr 0 (p6Open nix s)
  else
    match q.code, p6Type q with
    | 7, _ => answerClear nix s
    | 6, _ => p6Answer nix rcErr 0 (p6Open nix s)
    | 1, some typ => answerAdd nix q typ s
    | 2, some typ => answerDel nix q typ s
    | 3, some typ => answerMove nix q typ s
    | 4, some _ => p6Answer nix rcSuccess 2 (p6Open nix s)
    | 5, some typ =>
      let l := askedCells s nix q typ
      let part := (l.drop q.first).take q.numCells
      p6Answer nix (if l.length ≤ q.first + q.numCells then rcEol else rcSuccess) (4 * listedAs part) (p6Open nix s)
    | _, _ => p6Answer nix rcErr 0 (p6Open nix s)

/-- R140 to R143: a node's request: version, scheduling function, a transaction outstanding, the sequence number, then the request. A
retransmission, with the number one before the expected one under RFC 1982, gets the stored code again. -/
def execP6Request (nix : Fin 262144) (q : P6Req) (t : Nat) (s : State) : Result :=
  let s := s.at t
  let x := nix.val
  if !p6Waits s x then .next s
  else
    let s := p6Take x s
    let n := p6Seq s x
    if q.version != 0 then .next (p6Refuse x rcVersion s)
    else if q.sfid != s.rd SRC_6P_CFG.SFID then .next (p6Refuse x rcSfid s)
    else if (p6Of s x).isSome || s.src.p6ack.any (fun a => a.nix = x) then .next (p6Refuse x rcBusy s)
    else if q.seq = n then .next (if s.rd SRC_6P_CFG.MAX_OUT ≤ p6Count s then p6Refuse x rcBusy s else answerRequest x q s)
    else if (q.seq + 1) % 256 = n then .next (p6Send x 0 (s.inc SRC_6P_ANSWER))
    else
      let s := raiseNode Irq.SRC_P6_SEQERR 0 x ((p6Refuse x rcSeqnum s).inc SRC_6P_SEQERR)
      .next (firmwareTurn (propose x true .clear 0 s))

/-! The end of Serac's own transactions -/

/-- The command that waits for a transaction completes (R138); the result of a failed transaction is a value the spec leaves open. -/
def txnCmd (x : P6Txn) (ok : Bool) (s : State) : State :=
  match x.cmd with
  | none => s
  | some (ring, op, tag) =>
    if ok then cmdDone ring op tag 0 x.ret 0 0 [] false s
    else cmdDone ring op tag (s.free 8) x.ret 0 0 [] false s.took

/-- Staged changes of a transaction that the host asked for without HOLD are applied (R136, R138). -/
def txnCommit (x : P6Txn) (s : State) : State := if x.cmd.isSome && !x.hold && !s.src.staged.isEmpty then applyStart s else s

/-- A transaction fails: cells committed early are deleted, cells kept for a delete stay (R143). -/
def txnFail (nix : Nat) (x : P6Txn) (advance : Bool) (s : State) : State :=
  let s := stage (x.early.map (fun i => .del i x.cmd.isNone)) (p6Fail nix (p6Over nix advance s))
  txnCmd x false (txnCommit x s)

/-- The cells of `l` whose position the node's list names. -/
def namedIn (s : State) (l : List (Nat × Cell)) (accepted : List (Nat × Nat)) : List (Nat × Cell) :=
  l.filter (fun p =>
    match sfOf s (List.range 64) p.1 with
    | some f => accepted.contains (offsetOf s f p.1, p.2.chofs)
    | none => false)

/-- R142: a transaction succeeds: what it held joins the schedule, what it kept for the node leaves it. Cells that the node did not
accept are given up. -/
def txnOk (nix : Nat) (x : P6Txn) (accepted : List (Nat × Nat)) (s : State) : State :=
  let adds := if x.op = 1 || x.op = 3 then namedIn s x.adds accepted else x.adds
  let cells := planCells s
  let early := x.early.map (fun i => (i, (Store.find {} cells i : Cell)))
  let kept := (namedIn s early accepted).map (·.1)
  let gone := x.early.filter (fun i => !kept.contains i)
  let ad := x.cmd.isNone
  let s := (p6Over nix true s).inc SRC_6P_OK
  let s := stage (adds.map (fun p => .add p.1 p.2 ad) ++ (x.dels ++ gone).map (fun i => .del i ad)) s
  let s := if x.op = 4 then modSrc (fun y => { y with
      refill := if y.refill.contains nix then y.refill else y.refill ++ [nix] }) (polPut (p6SeqAt nix) 0 s) else s
  propose nix (s.src.refill.contains nix) .refill (s.free 3) (txnCmd x true (txnCommit x s)).took

/-- R142, R143: a node's response, with its code and the cells it accepts, ends Serac's transaction; with none outstanding it confirms a
3-step one. A response with another sequence number ends nothing. -/
def execP6Response (nix : Fin 262144) (seq code : Nat) (accepted : List (Nat × Nat)) (t : Nat) (s : State) : Result :=
  let s := s.at t
  let x := nix.val
  if !p6Waits s x then .next s
  else
    let s := p6Take x s
    if seq != p6Seq s x then .next s
    else
      match p6Of s x, s.src.p6ack.find? (fun a => a.nix = x && a.confirm) with
      | some y, _ => .next (firmwareTurn <| if code = rcSuccess then txnOk x y accepted s else txnFail x y true (s.inc SRC_6P_ERR))
      | none, some a =>
        let cells := planCells s
        let kept := (namedIn s (a.early.map (fun i => (i, (Store.find {} cells i : Cell)))) accepted).map (·.1)
        let gone := a.early.filter (fun i => !kept.contains i)
        let dels := if a.del then (namedIn s (a.dels.map (fun i => (i, (Store.find {} cells i : Cell)))) accepted).map (·.1) else a.dels ++ gone
        let b := { a with adds := namedIn s a.adds accepted, dels := dels, early := [] }
        let s := modSrc (fun y => { y with p6ack := y.p6ack.map (fun c => if c = a then b else c) }) s
        .next (firmwareTurn <| if code = rcSuccess then p6Complete b s else p6Abandon a (p6Fail x (s.inc SRC_6P_ERR)))
      | none, none => .next s

/-- R143: a transaction with no answer within TIMEOUT_S is abandoned. -/
def execP6TransactionTimeout (nix : Fin 262144) (t : Nat) (s : State) : Result :=
  let s := s.at t
  let x := nix.val
  let lim := s.rd SRC_6P_CFG.TIMEOUT_S * 1000000000
  let count (s : State) : State := raiseNode Irq.SRC_P6_TIMEOUT 0 x (s.inc SRC_6P_TIMEOUT)
  match p6Of s x, s.src.p6ack.find? (fun a => a.nix = x && a.confirm) with
  | some y, _ => .next (if y.since + lim ≤ s.rc then firmwareTurn (txnFail x y false (count s)) else s)
  | none, some a => .next (if a.since + lim ≤ s.rc then firmwareTurn (p6Abandon a (p6Fail x (count s))) else s)
  | none, none => .next s

end Sys2Proof.Machine
end

