-- ==== Sys2Proof/Machine/Pick.lean ====
section
/-!
DEFINITION. Serac's pick for a transmit cell (R104, R105, R108, R117, R139, R162, R232 to R234, R308 to R311).
-/

namespace Sys2Proof.Machine

/-- R108: the pre-shift applies to a receiver under template `tt`. -/
def preApplies (s : State) (nix tt : Nat) : Bool :=
  (s.node nix).sleepy && (s.node nix).parentRoot && s.flag (MAC_TT_GUARD.PRESHIFT_EN tt)

/-- The late bound that R105 adds for a receiver. -/
def lateOf (s : State) (nix tt : Nat) : Nat := if preApplies s nix tt then s.rd (MAC_TT_EFF.LATE tt) else 0

/-- R108: the shift of a frame to `nix` in a cell whose first slot is ASN `asn`, µs, and the bound that applied: 0 none, 1 early, 2 late.
DESIGN CHOICE (log entry 29): the quotient is rounded towards zero to whole µs. -/
def preShift (s : State) (nix tt asn : Nat) : Int × Nat :=
  if preApplies s nix tt then
    let r := s.node nix
    let v : Int := (-r.drift * elapsedUs s r asn).tdiv 1000000000
    let lo : Int := -(s.rd (MAC_TT_EFF.EARLY tt))
    let hi : Int := s.rd (MAC_TT_EFF.LATE tt)
    if v < lo then (lo, 1) else if hi < v then (hi, 2) else (v, 0)
  else (0, 0)

/-- R105: frame `f` is too long for every TX cell of node `nix`; `x` is the span whose plan the sizes are taken with. -/
def neverFits (s : State) (nix plan : Nat) (f : QFrame) : Bool :=
  let l := nodeCells s nix 1
  !l.isEmpty && l.all (fun p => !fits s f.phyc plan p.2.tt (p.2.span + 1) f.len true (lateOf s nix p.2.tt))

/-- R105: heads of node queue `nix` that can never fit are dropped; at most `k` of them. -/
def dropOversize (nix plan lane : Nat) : Nat → State → State
  | 0, s => s
  | k + 1, s =>
    match nodeQOf s nix with
    | [] => s
    | h :: l =>
      if neverFits s nix plan h then
        let s := frameWhey 14 h (setNodeQ nix l s)
        let s := macTrace 0x22 nix lane (h.len / 4) (s.inc (MAC_W_TX_OVERSIZE (s.node nix).ward))
        dropOversize nix plan lane k s
      else s

/-- R229: held heads of node queue `nix` whose receiver has left their Ward are dropped; at most `k` of them. -/
def dropHoldExp (nix : Nat) : Nat → State → State
  | 0, s => s
  | k + 1, s =>
    match nodeQOf s nix with
    | [] => s
    | h :: l => if h.hold && h.ward != (s.node nix).ward then dropHoldExp nix k (frameWhey 35 h (setNodeQ nix l s)) else s

/-- Before a head is examined: held frames of another Ward go (R229), aged frames (R234), then heads that can never fit (R105). 6P answers among them complete nothing. What is queued for a
fenced record is held (R27). -/
def cleanHead (nix plan lane : Nat) (s : State) : State :=
  if (s.node nix).fenced then s else
  let before := (nodeQOf s nix).map (·.id)
  let s := ageQueue nix (dropHoldExp nix before.length s)
  let s := dropOversize nix plan lane (nodeQOf s nix).length s
  let after := (nodeQOf s nix).map (·.id)
  s.each (before.filter (fun i => !after.contains i)) p6Dropped

/-- R162: frame `f` has its counter, or one may be taken for it. -/
def counterOk (s : State) (nix : Nat) (f : QFrame) : Bool := f.fc.isSome || (s.flag SEC_CFG.EN && fcReady s nix)

/-- R233: pick_tx. -/
def pickTx (nix plan lane : Nat) (s : State) : Option QFrame × State :=
  let s := cleanHead nix plan lane s
  match nodeQOf s nix with
  | [] => (none, s)
  | h :: _ =>
    if (s.node nix).state = .quiet || !nodeLive s nix then (none, s)
    else if !(s.node nix).tcDown.testBit h.cls then (none, s.inc QMS_CLASS_SKIP)
    else if h.hold && earlierUs s.us32 h.time then (none, s.inc QMS_HOLD_BLOCK)
    else if !counterOk s nix h then (none, waitNode nix s)
    else (some h, s)

/-- R233: next_ready: the first node of `l` whose head may go in a SHARED cell; a head in backoff, held back, or without a counter may
not. -/
def nextReady (c plan lane : Nat) : List Nat → State → Option Nat × State
  | [], s => (none, s)
  | n :: l, s =>
    let s := cleanHead n plan lane s
    match nodeQOf s n with
    | [] => nextReady c plan lane l s
    | h :: _ =>
      if !readyFor s n c || !nodeLive s n || (s.node n).state = .quiet || h.skip != 0 || (h.hold && earlierUs s.us32 h.time) then
        nextReady c plan lane l s
      else if !counterOk s n h then nextReady c plan lane l (waitNode n s)
      else (some n, s)

/-- The nodes of Ward `w` with a ready head of class `c`, in NIX order after the cursor, with wraparound. -/
def afterCursor (s : State) (w c : Nat) : List Nat :=
  let l := (s.qms.nodeQ.map (·.1)).filter (fun n => (s.node n).ward = w && readyFor s n c)
  let k := Store.find 0 s.qms.cursor (w * 8 + c)
  l.filter (fun n => k < n) ++ l.filter (fun n => n ≤ k)

/-- R233: pick_shared over the classes of `l`: a broadcast frame of the class queue, or a node. -/
def pickShared (w plan lane : Nat) : List Nat → State → Option (QFrame × Option Nat) × State
  | [], s => (none, s)
  | c :: l, s =>
    let s := ageClass w c s
    let b : Option QFrame := match (Store.find [] s.qms.downQ (w * 8 + c) : List Packet) with
      | p :: _ => if p.bcast && p.released then p.frames.head? else none
      | [] => none
    let ok (f : QFrame) : Bool := f.fc.isSome || (s.flag SEC_CFG.EN && groupReady s w)
    match b with
    | some f =>
      if ok f then (some (f, none), s)
      else
        let s := waitGroup w s
        match nextReady c plan lane (afterCursor s w c) s with
        | (some n, s) => ((nodeQOf s n).head?.map (fun h => (h, some n)),
            { s with qms := { s.qms with cursor := Store.put 0 s.qms.cursor (w * 8 + c) n } })
        | (none, s) => pickShared w plan lane l s
    | none =>
      match nextReady c plan lane (afterCursor s w c) s with
      | (some n, s) => ((nodeQOf s n).head?.map (fun h => (h, some n)),
          { s with qms := { s.qms with cursor := Store.put 0 s.qms.cursor (w * 8 + c) n } })
      | (none, s) => pickShared w plan lane l s

/-- R107: every SHARED cell of Ward `w` counts down the backoff of the heads that wait for it. -/
def backoffTick (w : Nat) (s : State) : State :=
  let dec (p : Nat × List QFrame) : Nat × List QFrame :=
    if (s.node p.1).ward = w then (p.1, match p.2 with | h :: l => { h with skip := h.skip - 1 } :: l | [] => []) else p
  { s with qms := { s.qms with nodeQ := s.qms.nodeQ.map dec } }

/-- The octets and the nonce of a frame that has its counter (R152, R153, R200): key type `kt`, ack request `ar`. DESIGN CHOICE (log entry
12): the DSN is the low octet of the counter. -/
def frameFix (s : State) (kt : Nat) (ar : Bool) (f : QFrame) : QFrame :=
  let fc := f.fc.getD 0
  { f with
    octets := dataOctets f.dst f.pan (fc % 256) f.level fc kt f.gen ar f.ie
    nonce := nonceFc (rootEui s) fc f.level }

/-- R162: the head of node queue `nix` takes its counter when it has none. -/
def encryptUnicast (nix : Nat) (f : QFrame) (s : State) : QFrame × State :=
  if f.fc.isSome then (f, s)
  else
    let r := s.node nix
    let (n, s) := fcTake nix (kcLookup r.keyIx s)
    let f := frameFix s 1 true { f with fc := some n, gen := r.kgen, level := s.rd (SEC_W_CFG.TX_LEVEL r.ward) }
    (f, nodeQChange nix f.id (fun _ => f) s)

/-- R162: a broadcast frame takes a group counter when it has none. -/
def encryptBcast (w : Nat) (f : QFrame) (s : State) : QFrame × State :=
  if f.fc.isSome then (f, s)
  else
    let (n, s) := groupTake w s
    let f := frameFix s 2 false { f with fc := some n, gen := s.rd (SEC_W_GRP.CUR_GEN w), level := s.rd (SEC_W_CFG.TX_LEVEL w) }
    (f, bcastChange w f.cls (fun l => l.map (fun g => if g.id = f.id then f else g)) s)

/-- R103: an item goes towards the lane's transmit FIFO. -/
def itemPrepare (lane : Nat) (it : TxItem) (s : State) : State := modLane lane (fun l => { l with preparing := l.preparing ++ [it] }) s

/-- R159: an item goes the same way while a CCM* engine encrypts its frame; with none idle it waits for one. -/
def itemEncrypt (lane : Nat) (it : TxItem) (s : State) : State :=
  let s := s.inc SEC_TX_FRAMES
  match engineIdle s with
  | none => itemPrepare lane { it with encrypts := true } s
  | some e => itemPrepare lane { it with encrypts := true, engine := some e } (engNonce (some e) it.frame.nonce (engineTake e s))

/-- An item whose frame is encrypted now when `fresh`, and was before otherwise. -/
def itemGo (lane : Nat) (fresh : Bool) (it : TxItem) (s : State) : State := if fresh then itemEncrypt lane it s else itemPrepare lane it s

/-- R139: nothing is eligible: a NOFRAME item. -/
def noFrame (lane : Nat) (x : Span) (s : State) : State :=
  itemPrepare lane { idx := x.idx, asn := x.asn, noframe := true, ward := s.rd (SRC_SF_CFG.OWNER x.sf) } s

/-- R26, R27: the record of `nix` that unit `m` reads for a pick holds a poisoned word: it is fenced, and the head frame it served goes to the
Whey with reason ECC. A record that is fenced already is not read. -/
def pickPoison (lane : Nat) (x : Span) (nix word m : Nat) (s : State) : State :=
  if (s.node nix).fenced then noFrame lane x s
  else
    match nodeQOf s nix with
    | [] => noFrame lane x (fenceNode nix word m s)
    | h :: l => noFrame lane x (fenceNode nix word m (p6Dropped h.id (frameWhey 0 h (setNodeQ nix l s))))

/-- A unicast frame is picked: its counter, its pre-shift, its item. While no key exists its encryption is aborted, and the counter it
took is not given out again (R159, R343). -/
def pickUnicast (lane : Nat) (x : Span) (nix : Nat) (f : QFrame) (s : State) : State :=
  if caveDown s && f.fc = none then noFrame lane x (((fcTake nix s).2).inc KEY_ABORTS)
  else if f.fc = none && !(s.node nix).fenced && keyDamaged s (s.node nix).keyIx then
    pickPoison lane x nix 2 7 (kcLookup (s.node nix).keyIx s)
  else
    let fresh := f.fc.isNone
    let (f, s) := encryptUnicast nix f s
    let (sh, lim) := preShift s nix x.cell.tt x.asn
    let it : TxItem := {
      idx := x.idx
      asn := x.asn
      frame := f
      nix := some nix
      ward := (s.node nix).ward
      ackReq := true
      pre := preApplies s nix x.cell.tt
      shift := sh
      lim := lim }
    itemGo lane fresh it (s.inc QMS_DEQ_FRAMES)

/-! Update frames -/

/-- The campaign of Ward `w` outside IDLE and END (R302). -/
def campOfWard (s : State) (w : Nat) : Option Nat :=
  (List.range 4).find? (fun c => campState s c != 0 && campState s c != 4 && s.rd (UPD_C_STS.WARD c) = w)

/-- A campaign of Ward `w` that has ended and owes its announcement with STOP (R311). -/
def campStopping (s : State) (w : Nat) : Option Nat :=
  (List.range 4).find? (fun c => campState s c = 4 && (campOf s c).stopDue && s.rd (UPD_C_STS.WARD c) = w)

/-- The octets behind the MAC header of an update frame: a Header Termination 1 IE and a Vendor Specific payload IE of MAC_TCX_OUI (R308). -/
def updBody (s : State) (content : List Nat) : List (Fin 256) :=
  let l := leOctets 3 (s.rd MAC_TCX_OUI.OUI) ++ content
  (leOctets 2 0x3F00 ++ leOctets 2 (l.length + 2 * 2048 + 32768) ++ l).map (Fin.ofNat 256)

/-- The content of a symbol frame behind the OUI (R308). -/
def symbolContent (s : State) (c : Nat) (y : Symbol) : List Nat :=
  [0x55, s.rd (UPD_C_STS.IMG_ID c), y.sbn] ++ beOctets 3 y.esi ++ y.data

/-- The OTI of slot `c`, as RFC 6330 orders it (R309): F, a reserved octet, T, Z, N = 1, Al = 4. -/
def campOti (s : State) (c : Nat) : List Nat :=
  beOctets 5 (campF s c) ++ [0] ++ beOctets 2 (s.rd (UPD_C_OTI_HI.T c)) ++ [s.rd (UPD_C_OTI_HI.Z c)] ++ beOctets 2 1 ++ [4]

/-- The content of an announcement of slot `c` in the slot of `asn`, behind the OUI, with its signature by the alias key (R309). -/
def announceContent (s : State) (c w asn : Nat) : List Nat :=
  let l := [0x41, s.rd (UPD_C_STS.IMG_ID c)] ++ leOctets 5 asn ++ campOti s c ++ sha256 (wordOctets (manifestWords (campOf s c).man))
    ++ [w, ofBool (campState s c = 4)]
  l ++ edSign ((slotKey s 3 32).getD []) (leOctets 3 (s.rd MAC_TCX_OUI.OUI) ++ l)

/-- An update frame of Ward `w` with `len` octets, its group counter, which is its identity, and its content. -/
def updFrame (s : State) (w len fc : Nat) (content : List Nat) : QFrame :=
  frameFix s 2 false {
    id := fc
    ie := true
    body := updBody s content
    len := len
    ward := w
    user := 3
    time := s.us32
    dst := .short 0xFFFF
    pan := s.rd (MAC_WARD_PAN.PAN_ID w)
    fc := some fc
    gen := s.rd (SEC_W_GRP.CUR_GEN w)
    level := s.rd (SEC_W_CFG.TX_LEVEL w)
    phyc := s.rd (FWD_W_CFG.PHYC w) }

/-- Update frames of `len` octets fit the cell of span `x` (R310: ACK_REQ 0, P 0). -/
def updFits (s : State) (w : Nat) (x : Span) (len : Nat) : Bool :=
  fits s (s.rd (FWD_W_CFG.PHYC w)) x.plan x.cell.tt (x.cell.span + 1) len false 0

/-- R309, R311: an announcement of campaign `c` in span `x`. -/
def pickAnnounce (lane c w : Nat) (x : Span) (s : State) : State :=
  let done (s : State) : State := modCamp c (fun y => { y with cells := y.cells + 1, stopDue := if campState s c = 4 then false else y.stopDue }) s
  if !updFits s w x (announceLen s w) then noFrame lane x (done ((s.whey 14).inc UPD_NOFIT))
  else if !(s.flag SEC_CFG.EN && groupReady s w) then noFrame lane x (waitGroup w s)
  else
    let (n, s) := groupTake w s
    let s := (done s).inc UPD_SIGN_OPS
    itemEncrypt lane { idx := x.idx, asn := x.asn, frame := updFrame s w (announceLen s w) n (announceContent s c w x.asn), ward := w, upd := some (c, 2) } s

/-- Symbol `y` of slot `c` takes counter `n` of generation `g`. -/
def symbolEnc (c n g : Nat) (y : Symbol) (s : State) : State :=
  modCamp c (fun x => { x with ready := x.ready.map (fun z => if sameSymbol y z then { z with enc := some (n, g) } else z) }) s

/-- R308, R311: a symbol of campaign `c` in span `x`. A symbol that has its counter keeps it, and took its token then (R104); after a rekey it
takes a counter of the new generation (R316). With every ready symbol on its way to a cell the queue counts as empty (DEDUCED, log entry 29). -/
def pickSymbol (lane c w : Nat) (x : Span) (shared : Bool) (s : State) : State :=
  let len := symbolLen s w (s.rd (UPD_C_OTI_HI.T c))
  let s := s.when (!shared) (modCamp c (fun y => { y with cells := y.cells + 1 }))
  match symbolNext s c with
  | none => noFrame lane x (raiseWard Irq.UPD_STARVE w (s.inc UPD_STARVE))
  | some y =>
    let g := s.rd (SEC_W_GRP.CUR_GEN w)
    let held : Option Nat := (y.enc.filter (fun e => e.2 = g)).map (·.1)
    if !updFits s w x len then noFrame lane x (campPop c y ((s.whey 14).inc UPD_NOFIT))
    else if y.enc = none && !campToken s c then noFrame lane x (s.inc UPD_RATE_SKIP)
    else if held = none && !(s.flag SEC_CFG.EN && groupReady s w) then noFrame lane x (waitGroup w s)
    else
      let (n, s) := match held with
        | some n => (n, s)
        | none =>
          let (n, s) := groupTake w s
          (n, symbolEnc c n g y (s.when (y.enc = none) (campTake c)))
      let s := s.when shared (fun s => s.inc UPD_SHARED_FILL)
      itemGo lane held.isNone
        { idx := x.idx, asn := x.asn, frame := updFrame s w len n (symbolContent s c y), ward := w, upd := some (c, 1) } s

/-- R311: an UPDATE cell of Ward `w`. -/
def pickUpdate (lane w : Nat) (x : Span) (s : State) : State :=
  match campStopping s w, campOfWard s w with
  | some c, _ => pickAnnounce lane c w x s
  | none, some c =>
    let y := campOf s c
    if campState s c != 2 then noFrame lane x s
    else if y.cells % max 1 y.annEvery = 0 then pickAnnounce lane c w x s
    else pickSymbol lane c w x false s
  | none, none => noFrame lane x s

/-! Beacons -/

/-- Slotframes that Ward `w` advertises (R117). -/
def advertised (s : State) (w : Nat) : List Nat :=
  (sfsOn s).filter (fun f => s.flag (SRC_SF_CFG.ADV f) && s.rd (SRC_SF_CFG.OWNER f) = w)

/-- The cells that the Slotframe and Link IE lists for slotframe `f`: those that have no peer (log entry 12). -/
def advertisedLinks (s : State) (f : Nat) : List (Nat × Cell) :=
  s.src.live.filter (fun p => (p.2.typ = 3 || p.2.typ = 4 || p.2.typ = 6) && inPartition s f p.1)

/-- Link options of a cell as a node takes part in it: TX, RX, shared, timekeeping. PRESUMED (log entry 12). -/
def linkOptions (typ : Nat) : Nat := if typ = 3 then 15 else if typ = 4 then 10 else 2

/-- The Slotframe and Link IE of Ward `w` (R117). -/
def slotframeIe (s : State) (w : Nat) : List Nat :=
  let l := advertised s w
  l.length :: l.flatMap (fun f =>
    let c := advertisedLinks s f
    f :: leOctets 2 (s.rd (SRC_SF_GEOM.LEN f)) ++ [c.length]
      ++ c.flatMap (fun p => leOctets 2 (offsetOf s f p.1) ++ leOctets 2 p.2.chofs ++ [linkOptions p.2.typ]))

/-- The Timeslot IE of the beacon in span `x` (R117). -/
def timeslotIe (s : State) (w : Nat) (x : Span) : List Nat :=
  if s.flag MAC_EB_CFG.TS_FULL then
    timeslotFull s x.cell.tt (wardAir s w x.plan (s.rd (CHZ_PLAN_GEO.MAX_PSDU x.plan)) / 1000) (wardAir s w x.plan 17 / 1000)
  else [x.cell.tt]

/-- An Enhanced Beacon of Ward `w` in span `x` up to its MIC (R117): the host's IEs are header IEs (R291), which an HT1 ends. -/
def beaconOctets (s : State) (w : Nat) (x : Span) (secured : Bool) : List Nat :=
  let ies := shortIe 0x1A (leOctets 5 x.asn ++ [s.rd MAC_EB_CFG.JOIN_METRIC]) ++ shortIe 0x1C (timeslotIe s w x)
    ++ longIe 9 [s.rd (SRC_SF_CFG.HS x.sf)] ++ shortIe 0x1B (slotframeIe s w)
  frameControl 0 secured false false true true 0 3 ++ leOctets 2 (s.rd (MAC_WARD_PAN.PAN_ID w)) ++ leOctets 8 (rootEui s)
    ++ (if secured then auxAsn 2 (s.rd (SEC_W_GRP.CUR_GEN w)) else [])
    ++ Store.find [] s.mac.eb w ++ leOctets 2 0x3F00 ++ leOctets 2 (ies.length + 2048 + 32768) ++ ies

/-- R117, R155, R177, R210: the beacon of Ward `w`, whose body takes CTRL curds until it is in the lane's FIFO; with beacons secured and no
CUR key there is none. -/
def pickBeacon (lane w : Nat) (x : Span) (s : State) : State :=
  let secured := s.flag MAC_EB_CFG.SEC && !s.flag SEC_STS.ASN_HIGH
  if secured && !(s.flag SEC_CFG.EN && (Store.find none s.sec.group (w * 3 + 1)).isSome && !caveDown s) then noFrame lane x s
  else
    let o := beaconOctets s w x secured
    let f : QFrame := {
      len := o.length + (if secured then 4 else 0) + (if s.flag (FWD_W_CFG.FCS4 w) then 4 else 2)
      ward := w
      user := 3
      time := s.us32
      phyc := s.rd (FWD_W_CFG.PHYC w)
      gen := s.rd (SEC_W_GRP.CUR_GEN w)
      octets := o
      nonce := if secured then nonceAsn (rootEui s) x.asn else [] }
    match poolTake 3 (curdsOf f.len) s with
    | (none, s) => noFrame lane x (s.whey 31)
    | (some l, s) =>
      itemGo lane secured { idx := x.idx, asn := x.asn, kind := .beacon, frame := { f with curds := l }, ward := w, plain := !secured } s

/-! The pick -/

/-- Serac has picked for the span of cell `idx`. -/
def spanPicked (n idx : Nat) (s : State) : State :=
  modLane n (fun l => { l with spans := l.spans.map (fun x => if x.idx = idx then { x with picked := true } else x) }) s

/-- R233: a SHARED cell; with FILL_SHARED a symbol takes the place of NOFRAME (R311). -/
def pickInShared (n w : Nat) (x : Span) (poisoned : Option (Fin 16)) (s : State) : State :=
  let (r, s) := pickShared w x.plan n [7, 6, 5, 4, 3, 2, 1, 0] s
  let s := backoffTick w s
  match r with
  | some (f, some nix) =>
    match poisoned with
    | some k => pickPoison n x nix k 4 s
    | none => pickUnicast n x nix f (s.inc QMS_PICK_SHARED)
  | some (f, none) =>
    let fresh := f.fc.isNone
    let (f, s) := encryptBcast w f ((s.inc QMS_PICK_SHARED).inc QMS_DEQ_FRAMES)
    itemGo n fresh { idx := x.idx, asn := x.asn, frame := f, ward := w } s
  | none =>
    let s := s.inc QMS_PICK_NOFRAME
    match campOfWard s w with
    | some c => if campState s c = 2 && (campOf s c).fill then pickSymbol n c w x true s else noFrame n x s
    | none => noFrame n x s

/-- R139: at the tick of a TX-capable cell's first slot Serac picks for it. `poisoned`: the word of the node record that it reads poisoned (R27);
`corrected`: single-bit errors that its reads met, by store (R26). -/
def execSeracPick (lane : Fin 4) (idx : Nat) (poisoned : Option (Fin 16)) (corrected : List (Fin 256)) (t : Nat) (s : State) : Result :=
  let s := eccFix corrected (s.at t)
  let n := lane.val
  match spanOf s n idx with
  | none => .next s
  | some x =>
    if x.picked || !txCapable x.cell.typ || !s.flag SRC_CFG.EN || !asnRuns s || !owns s then .next s
    else
      let s := spanPicked n idx s
      let w := s.rd (SRC_SF_CFG.OWNER x.sf)
      match x.cell.typ with
      | 1 =>
        if !s.flag QMS_CFG.EN then .next (noFrame n x s)
        else match poisoned with
          | some k => .next (pickPoison n x x.cell.nix k 4 s)
          | none =>
            match pickTx x.cell.nix x.plan n s with
            | (some f, s) => .next (pickUnicast n x x.cell.nix f (s.inc QMS_PICK_DED))
            | (none, s) => .next (noFrame n x (s.inc QMS_PICK_NOFRAME))
      | 3 => .next (if s.flag QMS_CFG.EN then pickInShared n w x poisoned s else noFrame n x s)
      | 4 => .next (pickBeacon n w x s)
      | _ => .next (pickUpdate n w x s)

end Sys2Proof.Machine
end

