-- ==== Sys2Proof/Machine/Tick.lean ====
section
/-!
DEFINITION. The ASN tick (R92, R97, R99, R102, R136, R145 to R148, R155, R171, R262) and the commands that start and stop it.
-/

namespace Sys2Proof.Machine

/-! The grid (R262) -/

/-- T0, in TSU ns. -/
def gridT0 (s : State) : Int := ((s.rd TSU_ASN_T0_SL.S + 2 ^ 32 * s.rd TSU_ASN_T0_SH.S) * 1000000000 + s.rd TSU_ASN_T0_NS.NS : Nat)

/-- BASE. -/
def gridBase (s : State) : Nat := s.rd TSU_ASN_BASE_LO.ASN + 2 ^ 32 * s.rd TSU_ASN_BASE_HI.ASN

/-- TSU time of grid index `k`. -/
def gridTime (s : State) (k : Int) : Int := gridT0 s + k * (lenUs s * 1000)

/-- ASN of grid index `k`. -/
def gridAsn (s : State) (k : Int) : Nat := (((gridBase s : Int) + k) % asnMod).toNat

/-- The first grid index at least 2 slots after now. -/
def gridFirst (s : State) : Int :=
  let len : Int := lenUs s * 1000
  ((s.tsuNs : Int) + 2 * len - gridT0 s + len - 1) / len

/-- Write the ASN. -/
def setAsn (a : Nat) (s : State) : State := (s.wr MAC_ASN_LO.ASN (a % 2 ^ 32)).wr MAC_ASN_HI.ASN (a / 2 ^ 32)

/-- The ASN runs or not, everywhere it shows (R262, R267). -/
def setRun (b : Bool) (s : State) : State :=
  ((s.put MAC_STS.ASN_RUN b).put TSU_STS.ASN_RUN b).put TSU_ASN_STS.RUN b

/-- TSU_ASN_NEXT shows the next tick's time. -/
def nextView (s : State) : State :=
  let t := (gridTime s s.mac.gridK).toNat
  (s.wr TSU_ASN_NEXT_NS.NS (t % 1000000000)).wr TSU_ASN_NEXT_SL.S (t / 1000000000)

/-- TSU_ASN_CTL.START is written (R262). -/
def execAsnStart (t : Nat) (s : State) : Result :=
  let s := s.at t
  if !s.flag TSU_STS.REF || asnRuns s || s.flag TSU_ASN_STS.START_PEND then .next (s.put TSU_ASN_CTL.BAD true)
  else
    let k := gridFirst s
    let s := ((s.put TSU_ASN_CTL.BAD false).put TSU_ASN_STS.START_PEND true).wr TSU_ASN_STS.LEN_US (lenUs s)
    .next (modMac (fun m => { m with gridK := k }) s)

/-- TSU_ASN_CTL.STOP is written (R262). -/
def execAsnStop (t : Nat) (s : State) : Result :=
  let s := s.at t
  .next (if s.flag TSU_ASN_STS.START_PEND then s.put TSU_ASN_STS.START_PEND false
    else if asnRuns s then s.put TSU_ASN_STS.STOP_PEND true
    else s)

/-! Switches at a tick -/

/-- R99: the masked hop sequences exchange their banks, and their lengths. -/
def hsExchange (s : State) : State :=
  let s := s.each (bitList 16 (s.rd MAC_HS_CTL.MASK)) (fun h s =>
    let a := s.rd (MAC_HS_LEN.ACTIVE h)
    let s := (s.wr (MAC_HS_LEN.ACTIVE h) (s.rd (MAC_HS_LEN.SHADOW h))).wr (MAC_HS_LEN.SHADOW h) a
    modMac (fun m => { m with hsBank := Store.put 0 m.hsBank h (1 - Store.find 0 m.hsBank h) }) s)
  let s := modMac (fun m => { m with hsAt := none }) (s.put MAC_HS_CTL.ARM false)
  macTrace 0x42 0 0 0 (raise Irq.MAC_HS_SWITCHED s)

/-- A switch armed before the start is placed against the first tick (R99, R171): its ASN, and whether it is late. -/
def startPlace (s : State) (asked : Nat) : Nat × Bool :=
  if later asked s.asn || asked % asnMod = s.asn then (asked % asnMod, false) else (s.asn, true)

/-- Group switch of Ward `w`: its asked ASN (R171). -/
def groupAsked (s : State) (w : Nat) : Nat := asnField (SEC_W_GSW_LO.ASN w) (SEC_W_GSW_HI.ASN w) s

/-- An armed hop-sequence switch gets its place as the ASN starts (R99). -/
def startHops (s : State) : State :=
  let p := startPlace s (asnField MAC_HS_SW_LO.ASN MAC_HS_SW_HI.ASN s)
  let s := modMac (fun m => { m with hsAt := some p.1 }) s
  if p.2 then macTrace 0x43 0 0 0 (raise Irq.MAC_HS_LATE s) else s

/-- An armed group switch of Ward `w` gets its place as the ASN starts (R171). -/
def startGroup (w : Nat) (s : State) : State :=
  let p := startPlace s (groupAsked s w)
  let s := { s with sec := { s.sec with switchAt := Store.put none s.sec.switchAt w (some p.1) } }
  if p.2 then raiseWard Irq.SEC_GRP_LATE w (s.put (SEC_W_GSW_HI.LATE w) true) else s

/-- Armed switches are placed at the first tick after START. -/
def startSwitches (s : State) : State :=
  let s := if s.flag MAC_HS_CTL.ARM then startHops s else s
  let s := s.each (List.range 8) (fun w s => if s.flag (SEC_W_GSW_HI.ARM w) then startGroup w s else s)
  let at_ := asnField SRC_SW_AT_LO.ASN SRC_SW_AT_HI.ASN s
  let s := if s.flag SRC_SW_CTL.ARM && later s.asn at_ then switchChoose s else s
  if s.flag SRC_WMOVE_CTL.ARM && later s.asn s.src.wmoveAt then wmoveChoose s else s

/-- R145: a slotframe switch happens: TO is enabled and active, FROM disabled. -/
def sfSwitch (s : State) : State :=
  let to_ := s.rd SRC_SW_CTL.TO
  let frm := s.rd SRC_SW_CTL.FROM
  let s := if s.flag SRC_SW_CTL.FROM_EN then (s.put (SRC_SF_CFG.EN frm) false).put (SRC_SF_CFG.ON frm) false else s
  let s := ((s.put (SRC_SF_CFG.EN to_) true).put (SRC_SF_CFG.ON to_) true).put SRC_SW_CTL.ARM false
  let nodes := ((s.src.cells.filter (fun p => inPartition s to_ p.1 || inPartition s frm p.1)).map (fun p => p.2.nix)).eraseDups
  raise Irq.SRC_SW_DONE (cellsView (s.each nodes (tcMap (genSfs s))))

/-- What takes place at this tick before any slot is built from it: hop sequences, group keys, generations, a slotframe switch, the end of
a window move. -/
def tickSwitches (s : State) : State :=
  let s := if s.flag MAC_HS_CTL.ARM && s.mac.hsAt = some s.asn then hsExchange s else s
  let s := s.each (List.range 8) (fun w s =>
    if s.flag (SEC_W_GSW_HI.ARM w) && Store.find none s.sec.switchAt w = some s.asn then groupSwitch w s else s)
  let due := s.src.bounds.filter (fun b => !later b.asn s.asn)
  let s := modSrc (fun x => { x with bounds := x.bounds.filter (fun b => later b.asn s.asn) }) s
  let s := s.each due boundary
  let at_ := asnField SRC_SW_AT_LO.ASN SRC_SW_AT_HI.ASN s
  let s := if s.flag SRC_SW_CTL.ARM && at_ = s.asn then sfSwitch s else s
  if s.flag SRC_WMOVE_CTL.ARM && s.src.wmoveSent && s.src.wmoveAt = s.asn then
    raise Irq.SRC_WMOVE_DONE (s.put SRC_WMOVE_CTL.ARM false)
  else s

/-! Lanes at a tick -/

/-- R77, R97: the cells of this slot begin; of those that have begun, the ones that ended before the last slot are forgotten. -/
def cellsBegin (s : State) : State :=
  modMac (fun m => { m with began := m.began.filter (fun x => (s.asn + asnMod - x.asn) % asnMod ≤ x.cell.span + 1) ++ spansAt s s.asn }) s

/-- R102: at a boundary of its slotframe with no span in progress, an armed lane exchanges its microcode banks. -/
def laneSwap (n : Nat) (s : State) : State :=
  if s.flag (MAC_LS_SWAP.ARM n) && s.asn % s.rd (SRC_SF_GEOM.LEN (s.rd (MAC_LS_SWAP.SF n))) = 0 && !laneInSpan s n then
    let v := s.rd (MAC_LS_VER.ACTIVE n)
    let s := (s.wr (MAC_LS_VER.ACTIVE n) (s.rd (MAC_LS_VER.INACTIVE n))).wr (MAC_LS_VER.INACTIVE n) v
    let b := 1 - s.rd (MAC_LS_STS.BANK n)
    let s := ((s.wr (MAC_LS_STS.BANK n) b).put (MAC_LS_SWAP.ARM n) false).inc (MAC_LS_UC_SWAPS n)
    macTrace 0x40 0 n b (raiseAt Irq.MAC_UC_SWAPPED n (laneView n s))
  else s

/-- The lane drops what it holds of spans that are over. -/
def spansEnd (all : Bool) (n : Nat) (s : State) : State :=
  let keep (x : Span) : Bool := !all && !spanOver s x
  spanView n (modLane n (fun l =>
    let l' := l.spans.filter keep
    { l with spans := l', fifo := l.fifo.filter (fun i => l'.any (fun x => x.idx = i.idx && x.asn = i.asn)) }) s)

/-- R386, R388, R390: the lanes idle: HUSH, a sleep entry, or the way back until every enabled front end has locked. -/
def radioIdle (s : State) : Bool := s.rd CEL_PWR_STS.STATE != 0 || s.cel.resume

/-- R386: the lanes resume at the first tick after every enabled front end has locked. -/
def lanesResume (s : State) : State :=
  if s.cel.resume && s.rd CEL_PWR_STS.STATE = 0 && (List.range 4).all (fun n => !s.flag (RFE_CTL.EN n) || 2 ≤ feState s n) then
    { s with cel := { s.cel with resume := false } }
  else s

/-- R148: the automatic QUIET cell of front end `n` begins: its span's end is known. -/
def quietBegun (n i span : Nat) (s : State) : State :=
  match Store.find none s.src.autoQuiet n with
  | some (j, none) =>
    if j = i then modSrc (fun x => { x with autoQuiet := Store.put none x.autoQuiet n (some (i, some ((s.asn + span + 1) % asnMod))) }) s else s
  | _ => s

/-- R97, R100: the cells of this slot begin on their lanes; QUIET cells begin quiet runs (R147). While the lanes idle none does: Serac makes
no pick, and nothing counts as missed (R386). -/
def spansBegin (s : State) : State :=
  if radioIdle s then s else s.each (cellsAt s s.asn) (fun c s =>
    let cell := c.2.2
    let n := cell.fe
    if cell.typ = 5 then quietStart n (s.rc + (cell.span + 1) * lenUs s * 1000) (quietBegun n c.1 cell.span s)
    else if !s.flag MAC_CFG.EN || !laneRuns s n then s
    else
      let ch := cellChan s (s.rd (SRC_SF_CFG.HS c.2.1)) cell.chofs s.asn
      let x : Span := { idx := c.1, sf := c.2.1, cell := cell, asn := s.asn, tick := s.rc, plan := ch.1, chan := ch.2 }
      spanView n (modLane n (fun l => { l with spans := l.spans ++ [x] }) s))

/-! Quiet runs and covers at a tick -/

/-- R148: an automatic QUIET cell whose span has ended is deleted and counted; one that the host has deleted before it began is given up. -/
def quietEnd (n : Nat) (s : State) : State :=
  match Store.find none s.src.autoQuiet n with
  | none => s
  | some (i, a) =>
    let c : Cell := Store.find {} (workCells s) i
    let own : Bool := c.typ = 5 && !c.lock && c.fe = n
    let gone := modSrc (fun x => { x with autoQuiet := Store.put none x.autoQuiet n none })
    match a with
    | none => if own then s else gone s
    | some a =>
      if later a s.asn then s
      else
        let s := gone (s.inc SRC_QUIET_RUNS)
        if own then applyStart (stage [.del i false] s) else s

/-- R136: no slot is built any more: generations that wait for their boundary come into force. -/
def boundsNow (s : State) : State :=
  let l := s.src.bounds
  (modSrc (fun x => { x with bounds := [] }) s).each l boundary

/-- R42, R54, R55: the covers of FE0 and FE1 at a tick. -/
def coversTick (s : State) : State :=
  let s := s.each [0, 1] (fun c s =>
    if (s.feOf c).covers && s.rd (RFE_COVER_STS.PHASE 0) = 0 && s.rd (RFE_COVER_STS.PHASE 1) = 0 then
      s.modFe c (fun f => { f with covers := false })
    else s)
  let s := s.each [0, 1] (fun c s =>
    if s.flag (RFE_STS.LOCKED c) && !(s.feOf c).covers && !(s.feOf c).homeDue then s.modFe c (fun f => { f with rejoin := false }) else s)
  (coverTick 1 (coverTick 0 s)).each [0, 1] coverLate

/-- The ASN tick (R92, R262): the first of a start, the end of a stop, or the next slot. A tick before its grid time is none.
`corrected`: single-bit errors that its reads met, by store (R26). -/
def execAsnTick (corrected : List (Fin 256)) (t : Nat) (s : State) : Result :=
  let s := eccFix corrected (s.at t)
  let pend := s.flag TSU_ASN_STS.START_PEND
  if (!pend && !asnRuns s) || (s.tsuNs : Int) + 4 < gridTime s s.mac.gridK then .next s
  else if !pend && s.flag TSU_ASN_STS.STOP_PEND then
    .next ((modMac (fun m => { m with began := [] }) (boundsNow (setRun false (s.put TSU_ASN_STS.STOP_PEND false)))).each [0, 1, 2, 3] (spansEnd true))
  else
    let a := if pend then gridAsn s s.mac.gridK else (s.asn + 1) % asnMod
    let s := modMac (fun m => { m with tickAt := s.rc, gridK := m.gridK + 1, slotAcks := [] }) (setAsn a s)
    let s := if pend then startSwitches (raise Irq.TSU_ASN_STARTED (setRun true (s.put TSU_ASN_STS.START_PEND false))) else s
    let s := nextView s
    let high : Bool := 2 ^ 39 ≤ a
    let s := if high && !s.flag SEC_STS.ASN_HIGH then raise Irq.SEC_ASN_HIGH s else s
    let s := tickSwitches (s.put SEC_STS.ASN_HIGH high)
    let s := s.each [0, 1, 2, 3] (spansEnd false)
    let s := s.each [0, 1, 2, 3] laneSwap
    let s := spansBegin (lanesResume (s.each [0, 1, 2, 3] quietEnd))
    let s := (coversTick (cellsBegin s)).each [0, 1, 2, 3] spanView
    let s := s.each [0, 1, 2, 3] (fun n s => s.wr (SRC_QUIET_STS.NEXT_IN n) (quietNext s n))
    .next (assignSniffers (s.each (List.range 8) tokenView))

end Sys2Proof.Machine
end

