-- ==== Sys2Proof/Machine/Security.lean ====
section
/-!
DEFINITION. Key commands (R165 to R171, R291), group rekey, and the journal (R172 to R178): commit, copier, OPEN, CLOSE, FORMAT and the
snapshot pass.
-/

namespace Sys2Proof.Machine

/-! Key commands -/

/-- Opcodes of R291. -/
def opKeySet : Nat := 0x10
def opKeyRatchet : Nat := 0x11
def opGroupKeyLoad : Nat := 0x12

/-- The checks every key command makes before its own (R172, R289, R334, R344): its refusal, or 0. -/
def keyPre (s : State) (inRange : Bool) : Nat :=
  if s.rd SYS_LC_STS.LC = 8 then 0xF3 else if !inRange then 0xF1 else if caveDown s then 0xF4 else if !s.sec.opened then 6 else 0

/-- A wrapped key fails its integrity check: 10 BADKEY (R329). -/
def badKey (ring op tag : Nat) (s : State) : State := cmdPlain ring op tag 10 (s.inc KEY_UNWRAP_FAIL)

/-- R169: the pairwise key of `nix` is replaced; the command completes with its reservation. -/
def keySet (ring tag nix key : Nat) (s : State) : State :=
  let r := s.node nix
  let g := (r.kgen + 1) % 16
  let s := keyWrite r.keyIx key s
  let s := s.modNode nix (fun r => { r with kgen := g, txFc := fcFirst, txFcCeil := fcFirst, rxFc := 0, rxKgen := 0xFF })
  let s := rxDirty nix r.rxFc s
  let s := (haltClear nix (rekeyClear nix s)).inc SEC_KGEN_ADV
  reserve { entry := { typ := 1, key := nix, gen := g, ceil := fcFirst + resBlock s, rxReset := true }, cmd := some (ring, opKeySet, tag) } s

/-- KEY_SET (R169, R329); a fenced record takes no write, so the command is refused whole (R27, R289). -/
def execKeySet (ring : Fin 8) (hd : CmdHead) (nix key : Nat) (t : Nat) (s : State) : Result :=
  withOwner ring opKeySet hd.tag (fun s =>
    match keyPre s (decide (nix < 262144) && 24 ≤ hd.len) with
    | 0 =>
      withData ring opKeySet hd 24 (fun s =>
        if !nodeLive s nix then cmdPlain ring opKeySet hd.tag 9 s
        else if (keyOpen s 0 key).isNone then badKey ring opKeySet hd.tag s
        else keySet ring hd.tag nix key s) s
    | k => cmdPlain ring opKeySet hd.tag k s) (s.at t)

/-- KEY_RATCHET (R167, R172). -/
def execKeyRatchet (ring : Fin 8) (tag nix t : Nat) (s : State) : Result :=
  withOwner ring opKeyRatchet tag (fun s =>
    match keyPre s (decide (nix < 262144)) with
    | 0 => if nodeActive s nix then cmdPlain ring opKeyRatchet tag 0 (rekeySet nix false (jnlReopen s)) else cmdPlain ring opKeyRatchet tag 9 s
    | k => cmdPlain ring opKeyRatchet tag k s) (s.at t)

/-- A group key goes into slot `j` of Ward `w` (1 CUR, 2 NEXT); the mirror sends it (R425). -/
def groupKeyPut (w j key : Nat) (s : State) : State :=
  let s := { s with sec := { s.sec with group := Store.put none s.sec.group (w * 3 + j) (some key) } }
  mirCount PAIR_KEY_MIRRORED (groupView w (s.inc KEY_GROUP_LOADS))

/-- GROUP_KEY_LOAD (R171, R329): generation CUR + 1 goes into NEXT; CUR itself, while that slot is empty, into CUR. -/
def execGroupKeyLoad (ring : Fin 8) (hd : CmdHead) (ward gen key : Nat) (t : Nat) (s : State) : Result :=
  withOwner ring opGroupKeyLoad hd.tag (fun s =>
    let c := s.rd (SEC_W_GRP.CUR_GEN ward)
    let cur : Bool := gen = c && (Store.find none s.sec.group (ward * 3 + 1)).isNone
    match keyPre s (decide (ward < 8 && gen < 16 && 24 ≤ hd.len)) with
    | 0 =>
      withData ring opGroupKeyLoad hd 24 (fun s =>
        if !cur && gen != (c + 1) % 16 then cmdPlain ring opGroupKeyLoad hd.tag 7 s
        else if (keyOpen s 0 key).isNone then badKey ring opGroupKeyLoad hd.tag s
        else
          let s := if cur then reserveGroup ward (groupKeyPut ward 1 key (jnlReopen s))
            else groupKeyPut ward 2 key (((jnlReopen s).wr (SEC_W_GRP.NEXT_GEN ward) gen).put (SEC_W_GRP.NEXT_VALID ward) true)
          cmdPlain ring opGroupKeyLoad hd.tag 0 s) s
    | k => cmdPlain ring opGroupKeyLoad hd.tag k s) (s.at t)

/-- R171: SEC_W_GSW_HI is written: ASN [39:32] and ARM, which does not set while NEXT_VALID is 0. -/
def execGroupSwitchArm (ward : Fin 8) (asnHi : Nat) (arm : Bool) (t : Nat) (s : State) : Result :=
  let w := ward.val
  let s := (s.at t).wr (SEC_W_GSW_HI.ASN w) asnHi
  let place (a : Option Nat) (s : State) : State := { s with sec := { s.sec with switchAt := Store.put none s.sec.switchAt w a } }
  if !arm || !s.flag (SEC_W_GRP.NEXT_VALID w) then .next (place none (s.put (SEC_W_GSW_HI.ARM w) false))
  else
    let s := (s.put (SEC_W_GSW_HI.ARM w) true).put (SEC_W_GSW_HI.LATE w) false
    if asnRuns s then
      let p := switchAsn s (groupAsked s w) 2
      let s := place (some p.1) s
      .next (if p.2 then raiseWard Irq.SEC_GRP_LATE w (s.put (SEC_W_GSW_HI.LATE w) true) else s)
    else .next (place none s)

/-- R171: PREV of Ward `ward` is zeroed at the end of its grace. -/
def execGroupGraceExpiry (ward : Fin 8) (t : Nat) (s : State) : Result :=
  let s := s.at t
  let w := ward.val
  if s.flag (SEC_W_GRP.PREV_VALID w) && Store.find 0 s.sec.prevEnd w ≤ s.rc then
    let s := { s with sec := { s.sec with group := Store.put none s.sec.group (w * 3) none } }
    .next ((groupView w (s.put (SEC_W_GRP.PREV_VALID w) false)).inc KEY_GROUP_ZEROED)
  else .next s

/-! Commit and copy -/

/-- SEC_JNL_STS.ERR takes `e`; the fault source SEC_JNL lasts while it is 1 to 4 (R174, R405). -/
def setJnlErr (e : Nat) (s : State) : State :=
  let s := s.wr SEC_JNL_STS.ERR e
  let bad : Bool := 1 ≤ e && e ≤ 4
  if bad && !rawSet s 128 then faultBegin 128 {} s else if !bad && rawSet s 128 then faultEnd 128 s else s

/-- No reservation commits any more (R174). -/
def jnlDead (s : State) : Bool := s.rd SEC_JNL_STS.ERR = 1 || s.rd SEC_JNL_STS.ERR = 4

/-- The journal records: it is OPEN, or CLOSING and not yet closed. -/
def jnlWrites (s : State) : Bool := s.rd SEC_JNL_STS.STATE = 2 || s.rd SEC_JNL_STS.STATE = 3

/-- R427: a MACK covers MSEQ `m`. -/
def mirCovered (s : State) (m : Nat) : Bool := (s.rd PAIR_MIR_ACKED.MSEQ + 2 ^ 32 - m % 2 ^ 32) % 2 ^ 32 < 2 ^ 31

/-- R427: a committed reservation still waits for the standby. -/
def resHeld (s : State) (r : Reserve) : Bool :=
  roleOf s = roleActive && inSync s && (match r.mseq with | some m => !mirCovered s m | none => false)

/-- R163, R425: the ceiling of a committed reservation is raised while its generation is in force; a standby's TX_FC follows. -/
def ceilRaise (r : JnlRec) (s : State) : State :=
  if r.typ = 1 then
    if (s.node r.key).kgen = r.gen && nodeActive s r.key then
      let old := (s.node r.key).txFc
      let c := max (s.node r.key).txFcCeil r.ceil
      fcMark r.key old (s.modNode r.key (fun n => { n with txFcCeil := c, txFc := if roleOf s = roleStandby then c else n.txFc }))
    else s
  else if r.typ = 2 && s.rd (SEC_W_GRP.CUR_GEN r.key) = r.gen then
    let c := max (s.rd (SEC_W_GTX_CEIL.CEIL r.key)) r.ceil
    let s := s.wr (SEC_W_GTX_CEIL.CEIL r.key) c
    if roleOf s = roleStandby then groupMark r.key (s.rd (SEC_W_GTX_FC.FC r.key)) (s.wr (SEC_W_GTX_FC.FC r.key) c) else s
  else s

/-- A reservation is done: its ceiling, what a ratchet waits for (R168), its command (R169), its count (R427), the one behind it (R163). -/
def resFinish (r : Reserve) (s : State) : State :=
  let s := ceilRaise r.entry s
  let s := match r.ratchet with
    | some (w, k) => ratchetDone r.entry.key r.entry.gen w k s
    | none => s
  let s := match r.cmd with
    | some (ring, op, tag) => cmdDone ring op tag 0 0 0 r.entry.gen [] false s
    | none => s
  let s := if roleOf s = roleActive then
      if inSync s && r.mseq.isSome then s.inc PAIR_RES_MIRRORED else s.inc PAIR_RES_LOCAL
    else s
  reserveNext r.entry.typ r.entry.key s

/-- R427: committed reservations that nothing holds any more are done. -/
def resRelease (s : State) : State :=
  let go := s.sec.waiting.filter (fun r => r.local_ && !resHeld s r)
  let s := { s with sec := { s.sec with waiting := s.sec.waiting.filter (fun r => !(r.local_ && !resHeld s r)) } }
  s.each go resFinish

/-- The record ring has a slot that has been copied (R175). -/
def jnlRoom (s : State) : Bool := s.sec.ring.length < jnlRingSize s

/-- `r` with the next SEQ (R173). -/
def jnlNumber (r : JnlRec) (s : State) : JnlRec := { r with seq := (s.rd SEC_JNL_SEQ.SEQ + 1) % 2 ^ 32 }

/-- Octets 0x00 to 0x1E of a record, then COMMIT as `commit`, are written into its ring slot (R174). -/
def jnlStore (r : JnlRec) (commit : Nat) (s : State) : State :=
  let a := ringSlot (jnlRingSize s) r.seq
  modJnl (fun m => jnlPut (a + 0x1F) [commit] (jnlPut a (recOctets r) m)) s

/-- A record is written with the next SEQ and COMMIT, and reads back (R173, R174). -/
def jnlAppend (r : JnlRec) (s : State) : State :=
  let r := jnlNumber r s
  let s := ((jnlStore r recCommit s).wr SEC_JNL_SEQ.SEQ r.seq).inc SEC_JNL_RECORDS
  let s := s.inc SEC_JNL_STS.USED
  let s := { s with sec := { s.sec with ring := s.sec.ring ++ [r] } }
  jnlTrace r 0 (s.peak SEC_JNL_PEAK.PEAK (s.rd SEC_JNL_STS.USED))

/-- R174: the record does not read back (`outcome` 1), and what its COMMIT octet holds is open; or the device does not answer. -/
def jnlFail (r : JnlRec) (outcome : Nat) (s : State) : State :=
  let r := jnlNumber r s
  let s := if outcome = 1 then (jnlStore r (s.free 8) s).took else s
  raise Irq.SEC_JNL_ERR (jnlTrace r 1 (setJnlErr (if outcome = 1 then 4 else 1) (s.inc SEC_JNL_ERR)))

/-- The first of `l` that is not committed becomes committed. -/
def markFirst : List Reserve → List Reserve
  | [] => []
  | r :: l => if r.local_ then r :: markFirst l else { r with local_ := true } :: l

/-- R174: the write of the oldest reservation's record ends: `outcome` 0 the read-back matches, 1 it does not, 2 no answer. -/
def execJournalCommitDone (outcome : Fin 3) (t : Nat) (s : State) : Result :=
  let s := s.at t
  if !jnlWrites s || jnlDead s then .next s
  else
    match s.sec.waiting.find? (fun r => !r.local_) with
    | none => .next s
    | some r =>
      if !jnlRoom s then .next (if s.rd SEC_JNL_STS.ERR = 5 then s else raise Irq.SEC_JNL_FULL (setJnlErr 5 s))
      else if outcome = 0 then
        let s := jnlAppend r.entry s
        .next (bulkDone (resRelease { s with sec := { s.sec with waiting := markFirst s.sec.waiting } }))
      else .next (jnlFail r.entry outcome.val s)

/-- Change the counter-table entry of NIX `n` (R175). -/
def modJnlEntry (n : Nat) (f : JnlEntry → JnlEntry) (s : State) : State :=
  let a := tableAt (jnlRingSize s) n
  modJnl (fun m => entryPut a (f (entryOf m a)) m) s

/-- R175: the copier applies a record to the table, or to the header, which is rewritten (R172). -/
def jnlApply (r : JnlRec) (s : State) : State :=
  if r.typ = 1 then modJnlEntry r.key (entryApply r) s
  else if r.typ = 2 then jnlWriteHeader (groupApply r) s
  else s

/-- R175: the copier takes the oldest record that it has not applied. -/
def execCopierApply (t : Nat) (s : State) : Result :=
  let s := s.at t
  match s.sec.ring with
  | [] => .next s
  | r :: l =>
    if !jnlWrites s then .next s
    else
      let s := { s with sec := { s.sec with ring := l } }
      let s := jnlTrace r 2 ((jnlApply r s).sub SEC_JNL_STS.USED 1)
      .next (if s.rd SEC_JNL_STS.ERR = 5 then setJnlErr 0 s else s)

/-! OPEN, CLOSE, FORMAT -/

/-- R177: OPEN is written; `answers`: the device answers. -/
def execJnlOpen (answers : Bool) (t : Nat) (s : State) : Result :=
  let s := s.at t
  if s.rd SEC_JNL_STS.STATE != 0 then .next s
  else if !answers then .next (raise Irq.SEC_JNL_ERR (setJnlErr 1 (s.inc SEC_JNL_ERR)))
  else
    match jnlHeader s with
    | none => .next (setJnlErr 3 s)
    | some (_, h) =>
      if h.sizeLog2 != s.rd SEC_JNL_CFG.SIZE_LOG2 || h.ring != s.rd SEC_JNL_CFG.RING then .next (setJnlErr 3 s)
      else if h.domain != s.rd SEC_JNL_CFG.DOMAIN then .next (setJnlErr 2 s)
      else .next ((setJnlErr 0 s).wr SEC_JNL_STS.STATE 1)

/-- R177: the group values of Ward `w` load from the header `h`; a counter at the end of its space says so (R164). -/
def groupLoad (h : JnlHeader) (w : Nat) (s : State) : State :=
  let c := h.gceil.getD w fcFirst
  groupMark w fcFirst (groupView w (((s.wr (SEC_W_GRP.CUR_GEN w) (h.ggen.getD w 0)).wr (SEC_W_GTX_FC.FC w) c).wr (SEC_W_GTX_CEIL.CEIL w) c))

/-- R180: a strict Ward restarts strictly when CLEAN was 0. -/
def strictStart (clean : Bool) (w : Nat) (s : State) : State :=
  if s.flag (SEC_W_CFG.STRICT w) && !clean then
    { s.put (SEC_W_CFG.STRICT_ACTIVE w) true with sec := { s.sec with
      switched := Store.put false s.sec.switched w false
      strictGen := Store.put 0 s.sec.strictGen w (s.rd (SEC_W_GRP.CUR_GEN w)) } }
  else s

/-- R177: OPEN ends: the replay, the group values, an OPEN record, CLEAN 0. `outcome`: what came of the OPEN record's write (R174). -/
def execJnlOpenComplete (outcome : Fin 3) (t : Nat) (s : State) : Result :=
  let s := s.at t
  if s.rd SEC_JNL_STS.STATE != 1 then .next s
  else
    let recs := ringRecords s.jdev.mem (jnlRingSize s)
    let h0 := ((jnlHeader s).map (·.2)).getD {}
    let h := (recs.filter (fun r => r.typ = 2)).foldl (fun h r => groupApply r h) h0
    let s := { s with sec := { s.sec with ring := [], opened := true, snapAt := s.rc } }
    let s := s.each (recs.filter (fun r => r.typ = 1)) (fun r s => modJnlEntry r.key (entryApply r) s)
    let s := s.each (List.range 8) (groupLoad h)
    let s := (s.wr SEC_JNL_SEQ.SEQ ((recs.getLast?.map (·.seq)).getD 0)).wr SEC_JNL_STS.USED 0
    let rec_ : JnlRec := { typ := 4, key := s.rd SYS_BOOTS }
    let s := if outcome = 0 then jnlAppend rec_ s else jnlFail rec_ outcome.val s
    let s := jnlWriteHeader (fun _ => { h with clean := false }) s
    let s := s.each (List.range 8) (strictStart h.clean)
    let s := ((s.wr SEC_JNL_STS.STATE 2).put SEC_STS.JNL_OPEN true).put SEC_STS.WAS_CLEAN h.clean
    .next (raise Irq.SEC_OPEN_DONE (s.wr SEC_JNL_LIMIT.NIX_LIMIT (nixLimit s)))

/-- A snapshot pass begins (R176). -/
def snapBegin (s : State) : State := { s with sec := { s.sec with passOn := true, passAt := s.rc, passDue := false } }

/-- A pass is due: it begins, or follows the one that runs (R176). -/
def snapDue (s : State) : State := if s.sec.passOn then { s with sec := { s.sec with passDue := true } } else snapBegin s

/-- R177: CLOSE is written. -/
def execJnlClose (t : Nat) (s : State) : Result :=
  let s := s.at t
  if s.rd SEC_JNL_STS.STATE = 2 then .next (snapDue (s.wr SEC_JNL_STS.STATE 3)) else .next s

/-- R177: the pass and the copier are done: CLEAN is set and the journal is CLOSED. -/
def execJnlCloseComplete (t : Nat) (s : State) : Result :=
  let s := s.at t
  if s.rd SEC_JNL_STS.STATE = 3 && !s.sec.passOn && s.sec.ring.isEmpty && (s.sec.waiting.isEmpty || jnlDead s) then
    .next ((jnlWriteHeader (fun h => { h with clean := true }) (s.wr SEC_JNL_STS.STATE 0)).put SEC_STS.JNL_OPEN false)
  else .next s

/-- R177: FORMAT is written: fresh headers, an empty ring; the size check and the table follow. -/
def execJnlFormat (t : Nat) (s : State) : Result :=
  let s := s.at t
  if s.rd SEC_JNL_STS.STATE != 0 then .next s
  else
    let h : JnlHeader := {
      sizeLog2 := s.rd SEC_JNL_CFG.SIZE_LOG2
      ring := s.rd SEC_JNL_CFG.RING
      domain := s.rd SEC_JNL_CFG.DOMAIN
      clean := true }
    let top := tableAt (jnlRingSize s) 0
    let s := modJnl (fun m => jnlClear ringBase top (hdrPut true { h with hseq := 1 } (hdrPut false h m))) s
    .next { s with sec := { s.sec with formatting := true } }

/-- R177: FORMAT ends. `wraps`: the marker, whose octets are open, has overwritten header copy A; else the counter table is cleared. -/
def execJnlFormatComplete (wraps : Bool) (t : Nat) (s : State) : Result :=
  let s := s.at t
  if !s.sec.formatting then .next s
  else
    let s := { s with sec := { s.sec with formatting := false } }
    if wraps then .next (setJnlErr 6 (modJnl (jnlPut 0 (leOctets 8 (s.free 64))) s).took)
    else .next (modJnl (jnlClear (tableAt (jnlRingSize s) 0) (2 ^ (20 + s.rd SEC_JNL_CFG.SIZE_LOG2))) s)

/-! Snapshots -/

/-- R176: SNAP_NOW is written. -/
def execSnapNow (t : Nat) (s : State) : Result :=
  let s := jnlReopen (s.at t)
  .next (if s.rd SEC_JNL_STS.STATE = 2 then snapDue s else s)

/-- R176: SNAP_PERIOD seconds have passed since the last period began. DESIGN CHOICE (log entry 29): the first one begins with OPEN, or with
a reopening. -/
def execSnapPeriodExpiry (t : Nat) (s : State) : Result :=
  let s := s.at t
  if s.rd SEC_JNL_STS.STATE != 2 || !s.reached (s.sec.snapAt + s.rd SEC_SNAP_CFG.PERIOD_S * 1000000000) then .next s
  else
    let s := { s with sec := { s.sec with snapAt := s.rc } }
    .next (snapDue (if s.sec.passOn then raise Irq.SEC_SNAP_LATE s else s))

/-- R176: the pass ends: RX_SNAP of every record whose RX_FC has changed is written. -/
def execSnapPassComplete (t : Nat) (s : State) : Result :=
  let s := s.at t
  if !s.sec.passOn then .next s
  else
    let l := s.sec.dirty.filter (fun n => nodeActive s n)
    let s := s.each l (fun n s => modJnlEntry n (fun e => { e with snap := (s.node n).rxFc }) s)
    let s := (s.add SEC_SNAP_WRITES l.length).wr SEC_SNAP_STS.ENTRIES l.length
    let s := s.wr SEC_SNAP_STS.LAST_MS (min 8191 ((s.rc - s.sec.passAt) / 1000000))
    let s := raise Irq.SEC_SNAP_DONE { s with sec := { s.sec with dirty := [], passOn := false } }
    .next (if s.sec.passDue then snapBegin s else s)

/-- SEC_ENG_PEAK is read and clears (R181). -/
def execSecEngPeakRead (requester : Requester) (s : State) : Result :=
  .next ((s.answer requester (s.rd SEC_ENG_PEAK.PEAK)).wr SEC_ENG_PEAK.PEAK 0)

/-- SEC_JNL_PEAK is read and clears (R181). -/
def execSecJnlPeakRead (requester : Requester) (s : State) : Result :=
  .next ((s.answer requester (s.rd SEC_JNL_PEAK.PEAK)).wr SEC_JNL_PEAK.PEAK 0)

end Sys2Proof.Machine
end

