-- ==== Sys2Proof/Machine/RoleOps.lean ====
section
/-!
DEFINITION. The role of a chip of a pair (R421, R423): changes of role, and what ends with one.
-/

namespace Sys2Proof.Machine

/-- The role changes: PAIR_STS, PAIR_LAST, and the fault sources that follow the role (R423, R439). -/
def setRole (r : Nat) (s : State) : State :=
  let s := (s.wr PAIR_STS.ROLE r).wr PAIR_LAST.ROLE r
  let s := if r = 3 && !rawSet s 108 then faultBegin 108 {} s else if r != 3 && rawSet s 108 then faultEnd 108 s else s
  peerFault (syncFault s)

/-- Mirroring ends and what waits for the standby commits locally (R426, R427). -/
def mirStop (s : State) : State := resRelease (modPair (fun p => { p with mirror := false }) (mirEmpty s))

/-- R423: nothing is pending and nothing is synchronised any more. -/
def pairIdle (s : State) : State :=
  let s := (((s.wr PAIR_STS.SYNC 0).put PAIR_STS.TAKE_PEND false).put PAIR_STS.SW_PEND false).put PAIR_BULK_STS.RUN false
  mirStop (modPair (fun p => { p with marking := false, mark := none, bulkLast := false, blocked := false }) s)

/-- R423: heartbeats and the alive line start. -/
def pairBegin (r : Nat) (s : State) : State :=
  let s := ((s.put PAIR_STS.PEER_SEEN false).put PAIR_STS.PEER_SILENT false).wr PAIR_STS.PEER_ROLE 0
  setRole r (modPair (fun p => { p with peer := none, missed := 0, stale := 0, yield := false, aliveOut := p.aliveOut && r != 0, sent := [], sentAt := 0, periodAt := s.rc }) (pairIdle s))

/-- R421: without a PTK the role is held at SOLO. -/
def roleHold (s : State) : State := if s.pair.ptk || roleOf s = 0 then s else pairBegin 0 s

/-- R421, R430: DEAD: the chip yields, no PTK exists any more, and the role is held at SOLO. -/
def pairDead (s : State) : State :=
  let s := roleHold (modPair (fun p => { p with ptk := false, ptkShares := (0, 0) }) (yieldSet s))
  modPair (fun p => { p with aliveOut := false }) s

end Sys2Proof.Machine
end

