-- ==== Sys2Proof/Machine/CaveOps.lean ====
section
/-!
DEFINITION. The Cave and the Rind as several commands use them (R318 to R345): the tamper log, a trip and its answer, the wipe, slots and
derived keys.
-/

namespace Sys2Proof.Machine

/-- Change what the Cellar holds. -/
def modCel (f : Cel → Cel) (s : State) : State := { s with cel := f s.cel }

/-- The core domain has power. -/
def powered (s : State) : Bool := s.cel.off = 0

/-- `ms` milliseconds have passed on the Cellar's clock since tick `from_`. -/
def celPassed (s : State) (from_ ms : Nat) : Bool := from_ * 1000 + ms * 32768 ≤ s.cel.ticks * 1000

/-- RTC seconds and ticks (R394). -/
def rtcS (s : State) : Nat := s.cel.rtc / 32768 % 2 ^ 32
def rtcTick (s : State) : Nat := s.cel.rtc % 32768

/-- The life cycle in force by the fuses (R328, R368): a group counts with at least five of its eight bits. -/
def lcFused (f : Fuse) : Nat :=
  if 5 ≤ f.scrap then 0x10 else if 5 ≤ f.ret then 0x08 else if 5 ≤ f.field then 0x04 else if 5 ≤ f.prov then 0x02 else 0x01

/-- The life cycle, as SYS_LC_STS and KEY_LC report it. -/
def lcOf (s : State) : Nat := s.rd SYS_LC_STS.LC

/-- PROVISION or FIELD. -/
def lcWorks (s : State) : Bool := lcOf s = 2 || lcOf s = 4

/-- R338: class A sensors. -/
def classA (s : State) : Nat := s.fuse.rind ||| s.rd KEY_RIND_CLASS.SOFT

/-! The tamper log -/

/-- Entry `e` is valid and unacknowledged. -/
def tlogOpen (s : State) (e : Nat) : Bool := s.flag (KEY_TLOG_B.VALID e) && s.rd (KEY_TLOG_B.ACK e) = 0

/-- Sensor `k` has an entry that awaits acknowledgement (R337). -/
def sensorOpen (s : State) (k : Nat) : Bool := (List.range 16).any (fun e => tlogOpen s e && s.rd (KEY_TLOG_B.SENSOR e) = k)

/-- UNACK, TRIPPED and the condition of CAVE_TAMPER follow the log (R339). -/
def tlogView (s : State) : State :=
  let n := ((List.range 16).filter (tlogOpen s)).length
  let s := s.wr KEY_TAMPER_STS.UNACK n
  let s := s.wr KEY_RIND_STS.TRIPPED (((List.range 8).filter (sensorOpen s)).foldl setBit 0)
  if !powered s then s
  else if n != 0 && !rawSet s 130 then faultBegin 130 { master := 14 } s
  else if n = 0 && rawSet s 130 then faultEnd 130 s
  else s

/-- The time of entry `e`, RTC ticks. -/
def tlogTime (s : State) (e : Nat) : Nat := s.rd (KEY_TLOG_A.RTC_S e) * 32768 + s.rd (KEY_TLOG_B.RTC_TICK e)

/-- The earlier of two entries; the lower number when equal. -/
def tlogOlder (s : State) (a b : Nat) : Nat := if tlogTime s b < tlogTime s a then b else a

/-- R339: the slot a new entry takes: one that is not valid, else the oldest acknowledged one. -/
def tlogSlot (s : State) : Option Nat :=
  match (List.range 16).find? (fun e => !s.flag (KEY_TLOG_B.VALID e)) with
  | some e => some e
  | none =>
    match (List.range 16).filter (fun e => !tlogOpen s e) with
    | [] => none
    | e :: l => some (l.foldl (tlogOlder s) e)

/-- R339: sensor `k` has tripped and writes its entry, or finds the log full. -/
def tlogWrite (k phase : Nat) (s : State) : State :=
  let a := (classA s).testBit k
  let s := s.addSat KEY_TAMPER_STS.TOTAL 1
  match tlogSlot s with
  | none => (s.put KEY_TAMPER_STS.LOG_FULL true).when (powered s) (raise Irq.KEY_LOG_FULL)
  | some e =>
    let s := ((s.wr (KEY_TLOG_A.RTC_S e) (rtcS s)).wr (KEY_TLOG_B.RTC_TICK e) (rtcTick s)).wr (KEY_TLOG_B.SENSOR e) k
    let s := ((s.put (KEY_TLOG_B.CLASS_A e) a).wr (KEY_TLOG_B.PHASE e) phase).wr (KEY_TLOG_B.ACK e) 0
    (s.put (KEY_TLOG_B.VALID e) true).put (KEY_TLOG_B.ZEROED e) (a && s.cel.secret = 1)

/-- R339, R346: the open entries of `mask` take ACK `code`. -/
def tlogAck (mask code : Nat) (s : State) : State :=
  let l := (bitList 16 mask).filter (tlogOpen s)
  let s := s.each l (fun e s => s.wr (KEY_TLOG_B.ACK e) code)
  tlogView (if l.isEmpty then s else s.put KEY_TAMPER_STS.LOG_FULL false)

/-- The log is emptied (R334). -/
def tlogClear (s : State) : State :=
  let s := s.each (List.range 16) (fun e s =>
    let s := ((s.wr (KEY_TLOG_A.RTC_S e) 0).wr (KEY_TLOG_B.RTC_TICK e) 0).wr (KEY_TLOG_B.SENSOR e) 0
    let s := ((s.put (KEY_TLOG_B.CLASS_A e) false).wr (KEY_TLOG_B.PHASE e) 0).wr (KEY_TLOG_B.ACK e) 0
    (s.put (KEY_TLOG_B.VALID e) false).put (KEY_TLOG_B.ZEROED e) false)
  tlogView ((s.put KEY_TAMPER_STS.LOG_FULL false).wr KEY_TAMPER_STS.TOTAL 0)

/-! Keys -/

/-- R330: HTK is not valid. -/
def htkDrop (s : State) : State := slotClear 1 (s.put KEY_STS.HTK_READY false)

/-- R330: HTK is derived while KEY_HOSTPUB is not all zeros. -/
def htkDerive (s : State) : State := slotFill 1 3 (leNat (htkOf s)) (s.put KEY_STS.HTK_READY true)

/-- KEY_HOSTPUB is all zeros. -/
def hostpubZero (s : State) : Bool := (List.range 8).all (fun i => s.rd (KEY_HOSTPUB.K i) = 0)

/-- R343: every key-cache share and every Cave slot is cleared. -/
def keysClear (s : State) : State := ((cacheSet [] s).each (List.range 32) slotClear).put KEY_STS.HTK_READY false

/-- R343: every CCM* engine aborts; `n` more operations do. The frames they checked or encrypted are aborted (R159). -/
def enginesAbort (n : Nat) (s : State) : State :=
  let busy := (bitList 16 (s.rd SEC_ENG_STS.BUSY)).length
  let s := s.each (List.range 128) (fun k s =>
    if (sliceOf s k).engine.isSome && !(sliceOf s k).aborted then modSlice k (fun v => { v with aborted := true }) s else s)
  let rx := s.mac.rx.map (fun f => if f.engine.isSome && f.verdict = none then { f with aborted := true } else f)
  let s := s.each (List.range 4) (fun n => modLane n (fun l => { l with
    preparing := l.preparing.map (fun i => { i with aborted := i.aborted || i.engine.isSome }) }))
  (modMac (fun m => { m with rx := rx }) s).add KEY_ABORTS (busy + n)

/-- R343: the wipe. `keyOp`: a key command is using a key. -/
def caveWipe (keyOp : Bool) (s : State) : State :=
  raise Irq.KEY_WIPED ((keysClear (enginesAbort (ofBool keyOp) s)).inc KEY_WIPES)

/-- R330, R343, R344: KEY_STS.STATE and what follows it. -/
def caveGo (st : Nat) (s : State) : State :=
  let s := s.wr KEY_STS.STATE st
  s.each (List.range 8) groupView

/-- R343: an engine or a key command is using a key. -/
def keyInUse (keyOp : Bool) (s : State) : Bool := keyOp || s.rd SEC_ENG_STS.BUSY != 0

/-- R339: the PHASE of an entry written now. -/
def tamperPhase (keyOp : Bool) (s : State) : Nat :=
  if !powered s then 0
  else
    match s.rd KEY_STS.STATE with
    | 3 => if keyInUse keyOp s then 3 else 2
    | 4 => 4
    | 5 => 2
    | _ => 1

/-- SYS_BOOT_STS.STAGE takes `st`, and SYS_BOOT_TRACE an entry `us` µs after PWR_GOOD (R353); entries fill from 0. -/
def bootStage (st us : Nat) (s : State) : State :=
  let k := s.boot.traces
  let s := s.wr SYS_BOOT_STS.STAGE st
  if k < 16 then
    { (s.wr (SYS_BOOT_TRACE.US k) (min us 0xFFFFFF)).wr (SYS_BOOT_TRACE.STAGE k) st with boot := { s.boot with traces := k + 1 } }
  else s

/-- R341: the boot ROM holds: no key exists. -/
def holdEnter (us : Nat) (s : State) : State :=
  let s := if s.cave.held then s else (modCave (fun c => { c with held := true }) s).inc KEY_HOLD_BOOTS
  latchView (bootStage 9 us (caveGo 1 (keysClear s)))

/-- R340: the Cave answers a trip. In SCRAP, and in DEAD, nothing more follows. When the ROM enters HOLD, counted from PWR_GOOD, is a free
value. -/
def caveAnswer (a keyOp : Bool) (s : State) : State :=
  if lcOf s = 0x10 then s
  else
    match s.rd KEY_STS.STATE with
    | 0 => holdEnter (s.free 24) s.took
    | 1 => s
    | 2 => holdEnter (s.free 24) s.took
    | 3 => if a then raise Irq.KEY_DEAD (pairDead (caveGo 5 (caveWipe keyOp s))) else caveGo 4 (caveWipe keyOp s)
    | 4 => if a then raise Irq.KEY_DEAD (pairDead (caveGo 5 (caveWipe keyOp s))) else caveGo 4 (caveWipe keyOp s)
    | _ => s

/-- R338, R344: a class A response: the Cellar secret is zeroed, and the change to RETURN is due. -/
def classAResponse (s : State) : State :=
  let due := lcFused s.fuse = 2 || lcFused s.fuse = 4
  let zero := s.cel.secret = 1
  let s := modCel (fun c => { c with
    secret := if zero then 2 else c.secret
    secretKey := 0
    classA := true
    returnDue := c.returnDue || due }) s
  (s.put KEY_TAMPER_STS.ZEROED (s.flag KEY_TAMPER_STS.ZEROED || zero)).when due (fun s => s.put KEY_LC.RETURN_PEND true)

/-- R391: Rind sensors of `mask` that have tripped set wake code 6. -/
def rindWake (mask : Nat) (s : State) : State :=
  if (s.rd CEL_WAKE_RIND.MASK &&& mask) != 0 && (s.rd CEL_WAKE_EN.EN).testBit 6 then
    s.wr CEL_WAKE_STS.PEND (setBit (s.rd CEL_WAKE_STS.PEND) 6)
  else s

/-- R337 to R343: the sensors of `l` trip in one sample. A sensor whose entry awaits acknowledgement only counts. -/
def rindTrip (l : List Nat) (keyOp : Bool) (s : State) : State :=
  let s := s.each l (fun k s => s.inc (KEY_RIND_CNT.COUNT k))
  let fresh := l.filter (fun k => !sensorOpen s k)
  let a := fresh.any (classA s).testBit
  let phase := tamperPhase keyOp s
  if fresh.isEmpty then s
  else
    let s := (s.each fresh (fun k s => tlogWrite k phase s)).put KEY_TAMPER_STS.LATCHED true
    let s := if a then classAResponse s else s
    let s := rindWake (fresh.foldl setBit 0) (tlogView s)
    if powered s then caveAnswer a keyOp (raise Irq.KEY_TAMPER s) else s

end Sys2Proof.Machine
end

