-- ==== Sys2Proof/Machine/BootOps.lean ====
section
/-!
DEFINITION. What a reset clears and keeps (R348 to R351), and the start-up sequence up to its waits (R352 to R356, R363, R366, R368).
-/

namespace Sys2Proof.Machine

/-- Change what the boot ROM holds. -/
def modBoot (f : Boot → Boot) (s : State) : State := { s with boot := f s.boot }

/-- SVN programming is cut: KEY_SVN ends between its old value and TARGET (R364). -/
def svnCut (s : State) : State :=
  let n := s.rd SYS_SVN_CTL.TARGET
  if s.flag SYS_SVN_CTL.BUSY && s.fuse.svn < n then
    { s with fuse := { s.fuse with svn := s.fuse.svn + Config.freeValue s.freeCtr % (n - s.fuse.svn + 1) } }.took
  else s

/-- R369: the group that SYS_FUSE_CTL.TARGET names is programmed. -/
def fuseGroup (s : State) : State :=
  let f := s.fuse
  { s with fuse := match s.rd SYS_FUSE_CTL.TARGET with
    | 1 => { f with owner := (List.range 8).map (fun i => s.rd (SYS_OWNER_KEY.K i)), ownerDone := true }
    | 2 => { f with rind := s.rd KEY_RIND_CLASS.SOFT, rindDone := true }
    | 3 => { f with bscan := s.flag SYS_FUSE_CTL.VAL, debugDone := true }
    | _ => f }

/-- Fuse programming is cut: whether the group is programmed is a free value. -/
def fuseCut (s : State) : State :=
  if s.flag SYS_FUSE_STS.BUSY then (if s.free 1 = 1 then fuseGroup s else s).took else s

/-- R348, R350, R355: the core domain resets. Every SRAM is zeroed; `cold` resets what a warm, fault or JTAG reset keeps. The Cellar, the
fuses, the journal device and what waits outside stay; RC and TSU time count from 0 again (R354). -/
def coreClear (cold : Bool) (s : State) : State :=
  let s := fuseCut (svnCut s)
  { kept := if cold then [] else s.kept
    cellar := s.cellar
    pending := s.pending
    freeCtr := s.freeCtr
    bus := s.bus
    hoar := if cold then {} else { vreq := s.hoar.vreq, vconf := s.hoar.vconf }
    fe := if cold then [] else (s.fe.filter (fun p => p.2.startupDone)).map (fun p => (p.1, { startupDone := true }))
    jdev := s.jdev
    anchor := s.anchor
    fuse := s.fuse
    cave := { tcxoOk := !cold && s.cave.tcxoOk }
    boot := { strap := s.boot.strap }
    cel := s.cel }

/-- R349: the cause of a reset: 0 POR, 1 PWR_FAIL, 2 WARM_SW, 3 FAULT, 4 WAKE, 5 JTAG. -/
def resetCause (k : Nat) (s : State) : State :=
  (s.wr SYS_RST_CAUSE.HIST (if k = 0 then 1 else setBit (s.rd SYS_RST_CAUSE.HIST) k)).wr SYS_RST_CAUSE.LAST k

/-- R349: the boot ROM counts this boot. -/
def bootCount (k : Nat) (s : State) : State :=
  let s := (s.inc SYS_BOOTS).inc KEY_BOOTCNT.COUNT
  match k with
  | 2 => s.inc SYS_WARM_RESETS
  | 3 => ((s.inc SYS_FAULT_RESETS).addSat FLT_RST_RUN.RUN 1).inc FLT_RESETS
  | 4 => s.inc SYS_WAKES
  | _ => s

/-- R370, R468: DBG_ACCESS by life cycle. -/
def debugAccess (s : State) : State :=
  let lc := lcOf s
  let s := (s.put DBG_ACCESS.BSCAN (lc != 4 || s.fuse.bscan)).put DBG_ACCESS.PC_DEBUG (lc = 1 || lc = 2 || lc = 8)
  (s.put DBG_ACCESS.UC_REGS (lc ≤ 2)).put DBG_ACCESS.JTAG_RST (lc != 4)

/-- R353, stage 0: the fuses are sensed. -/
def fuseSense (s : State) : State :=
  let f := s.fuse
  let s := ((s.wr SYS_LC_STS.LC (lcFused f)).wr KEY_LC.LC (lcFused f)).put KEY_LC.RETURN_PEND s.cel.returnDue
  let s := (s.wr KEY_SVN.SVN f.svn).wr SYS_FUSE_STS.DONE (ofBool f.ownerDone + 2 * ofBool f.rindDone + 4 * ofBool f.debugDone)
  let s := ((s.put SYS_FUSE_STS.BSCAN_FIELD f.bscan).wr KEY_RIND_CLASS.FUSE f.rind).wr KEY_RIND_CLASS.EFF (classA s)
  let s := debugAccess s
  if f.ownerDone then s.each (List.range 8) (fun i s => s.wr (SYS_OWNER_KEY.K i) (f.owner.getD i 0)) else s

/-- R352: the boot source in force: 0 QSPI0 then a host bundle, 1 a host bundle, 2 QSPI0 alone. BLANK boots host bundles only (R370). -/
def bootSrc (cold : Bool) (s : State) : Nat :=
  let v := if !cold && s.flag SYS_BOOT_CFG.OVR_EN then s.rd SYS_BOOT_CFG.OVR_SRC else s.boot.strap
  if lcOf s = 1 then 1 else if v = 3 then 0 else v

/-- When stage `st` is entered, µs after PWR_GOOD: the `st`-th of `us`, or its last. -/
def usOf (us : List Nat) (st : Nat) : Nat := us.getD st (us.getLastD 0)

/-- R321: a new Cellar secret is drawn from the random generator. -/
def secretNew (s : State) : State :=
  let s := (modCel (fun c => { c with secret := 1, secretKey := s.free 256, classA := false }) s).took
  raise Irq.KEY_CELLAR_NEW ((s.put KEY_STS.CELLAR_NEW true).put KEY_TAMPER_STS.ZEROED false)

/-- The Cellar secret is zeroed (R334). -/
def secretZero (s : State) : State :=
  if s.cel.secret = 1 then (modCel (fun c => { c with secret := 2, secretKey := 0 }) s).put KEY_TAMPER_STS.ZEROED true else s

/-- R334: what the change to life cycle `lc` destroys. -/
def lcDestroy (lc : Nat) (s : State) : State :=
  match lc with
  | 0x04 => secretNew (s.each (List.range 8) (fun k s => s.wr (KEY_RIND_CNT.COUNT k) 0) |> tlogClear)
  | 0x08 => secretZero s
  | 0x10 => tlogClear (secretZero { s with fuse := { s.fuse with dus := 2 ^ 256 - 1 } })
  | _ => s

/-- A life-cycle group with `n` bits programmed takes `bits` when it is the target, or when it is partial (R368). -/
def lcGroup (want : Bool) (bits n : Nat) : Nat := if want || (1 ≤ n && n ≤ 4) then max n (min bits 8) else n

/-- The life-cycle change that is due: a class A trip's, or the pending request (R344, R367). -/
def lcDue (s : State) : Nat := if s.cel.returnDue then 0x08 else s.rd SYS_LC_STS.PEND

/-- Some life-cycle group is to be programmed at stage 2 (R368). -/
def lcWork (s : State) : Bool :=
  lcDue s != 0 || [s.fuse.prov, s.fuse.field, s.fuse.ret, s.fuse.scrap].any (fun n => 1 ≤ n && n ≤ 4)

/-- R368, stage 2: life-cycle groups are programmed; with fewer than 8 `bits` the power fails meanwhile. A group's fifth bit puts the change in
force, and it destroys what R334 gives. -/
def lcProgram (bits : Nat) (s : State) : State :=
  let due := lcDue s
  let f := s.fuse
  let before := lcFused f
  let f := { f with
    prov := lcGroup (due = 0x02) bits f.prov
    field := lcGroup (due = 0x04) bits f.field
    ret := lcGroup (due = 0x08) bits f.ret
    scrap := lcGroup (due = 0x10) bits f.scrap }
  let s := { s with fuse := f }
  let s := if lcFused f != before then lcDestroy (lcFused f) s else s
  if bits < 8 then s
  else
    let s := s.wr SYS_LC_STS.PEND 0
    fuseSense (if 8 ≤ lcFused f then modCel (fun c => { c with returnDue := false }) s else s)

/-- R362: the ROM wants a host bundle. -/
def waitHost (us : List Nat) (s : State) : State :=
  bootStage 10 (usOf us 10) (modBoot (fun b => { b with host := true, go := false, reading := false, slot := none }) s)

/-- R353: stages 3 to 5 begin together. -/
def initStart (src : Nat) (us : List Nat) (s : State) : State :=
  let s := { s with hoar := { s.hoar with vreq := 750 }, pcr := {}, lanes := [], src := {} }
  let s := (s.put SYS_SRAM_STS.DONE false).put HIF_CFG.STANDALONE (src = 2)
  let s := bootStage 5 (usOf us 5) (bootStage 4 (usOf us 4) (bootStage 3 (usOf us 3) s))
  if src = 1 then waitHost us s else s.wr SYS_BOOT_STS.STAGE 3

/-- R353 from stage 1: the Cave's check of R340, then life-cycle programming (`bits`), then INIT. HOLD, SCRAP and a power failure during
programming stop it. -/
def bootCheck (bits : Nat) (us : List Nat) (s : State) : State :=
  let src := s.rd SYS_BOOT_STS.SRC
  let s := modBoot (fun b => { strap := b.strap, traces := b.traces }) (bootStage 1 (usOf us 1) s)
  let s := (caveGo 0 (keysClear (modCave (fun c => { c with sram := [] }) s))).put KEY_RNG_STS.OK true
  let s := tlogView (s.put KEY_STS.RNG_OK true)
  if lcOf s = 0x10 then latchView s
  else if s.flag KEY_TAMPER_STS.LATCHED then holdEnter (usOf us 9) s
  else
    let s := latchView (bootStage 2 (usOf us 2) (caveGo 2 s))
    let work := lcWork s
    let s := if work then lcProgram bits s else s
    if (work && bits < 8) || lcOf s = 0x10 then s
    else
      let s := if lcWorks s && s.cel.secret = 0 then secretNew s else s
      initStart src us s

/-- R353 from stage 0 of a reset of kind `k`. -/
def bootStart (k : Nat) (cold : Bool) (bits : Nat) (us : List Nat) (s : State) : State :=
  let s := bootCount k (resetCause k (coreClear cold s))
  let s := fuseSense (bootStage 0 (usOf us 0) s)
  let s := (s.wr SYS_LC_NONCE.NONCE (s.free 32)).took
  let s := (s.wr SYS_BOOT_CFG.STRAP s.boot.strap).wr SYS_BOOT_STS.SRC (bootSrc cold s)
  let s := if s.cel.powerAck then
      modCel (fun c => { c with powerAck := false }) ((tlogAck 0xFFFF 2 s).put KEY_TAMPER_STS.LATCHED false)
    else s
  bootCheck bits us s

/-- R353: the stage reached once INIT, CLOCK and LOAD have each got so far: the first of 3 to 6 that is not done. -/
def bootAdvance (us : List Nat) (s : State) : State :=
  let st := s.rd SYS_BOOT_STS.STAGE
  if 3 ≤ st && st ≤ 5 then
    if !s.flag SYS_SRAM_STS.DONE then s.wr SYS_BOOT_STS.STAGE 3
    else if !s.boot.clockDone then s.wr SYS_BOOT_STS.STAGE 4
    else if !s.boot.loaded then s.wr SYS_BOOT_STS.STAGE 5
    else bootStage 6 (usOf us 6) s
  else s

/-- R363: no bundle can be booted. -/
def bootFailed (us : List Nat) (s : State) : State :=
  let s := bootStage 11 (usOf us 11) (modBoot (fun b => { b with slot := none, reading := false }) s)
  raise Irq.SYS_BOOT_FAIL (faultBegin 0 {} (s.inc SYS_BOOT_FAILS))

/-- R421: PTK is derived: PROVISION and FIELD only, and never in DEAD. It is held as two shares. -/
def ptkDerive (s : State) : State :=
  if lcWorks s && s.rd KEY_STS.STATE != 5 then
    (modPair (fun p => { p with ptk := true, ptkShares := (s.free 256, leNat (ptkOf s) ^^^ s.free 256) }) s).took
  else modPair (fun p => { p with ptk := false, ptkShares := (0, 0) }) s

/-- R324: measurement `m` extended by the digest `d` of an image. -/
def measure (m d : List Nat) : List Nat := sha512 (m ++ d)

/-- M_BOOT and M_RT, as words (R324). -/
def mBoot (s : State) : List Nat := (List.range 16).map (fun i => s.rd (KEY_MEAS.M i))
def mRt (s : State) : List Nat := if s.cave.mrt.isEmpty then mBoot s else s.cave.mrt

/-- The octets of the payload of an image (R358). -/
def imagePayload (i : Image) : List Nat := wordsTake i.length i.payload

/-- R324: an accepted image extends M_RT. -/
def mrtExtend (i : Image) (s : State) : State :=
  modCave (fun c => { c with mrt := octetWords (measure (wordOctets (mRt s)) (sha512 (imagePayload i))) }) s

end Sys2Proof.Machine
end

