-- ==== Sys2Proof/Machine/CelOps.lean ====
section
/-!
DEFINITION. The Cellar and the power states as several commands use them (R380 to R396): pins, wake sources, the ledger, the radios in
HUSH, loss of core power.
-/

namespace Sys2Proof.Machine

/-- An interrupt bit of the CEL block, which the Cellar holds: while the core has no power it sets without an event (R385, R402). -/
def celRaise (b : IrqBit) (s : State) : State := if powered s then raise b s else s.put b.sts true

/-- The levels of PWR_GOOD and PWR_REQ (CEL_PIN_STS, CEL_PAD_CFG.REQ_POL). -/
def pinView (s : State) : State :=
  (s.put CEL_PIN_STS.PWR_GOOD s.cel.good).put CEL_PIN_STS.PWR_REQ (s.cel.req != s.flag CEL_PAD_CFG.REQ_POL)

/-- PWR_GOOD and PWR_REQ take levels; the regulator and the source of the Cellar rail follow PWR_GOOD (R383). -/
def powerPins (good req : Bool) (s : State) : State :=
  let s := pinView (modCel (fun c => { c with good := good, req := req, reqAt := if c.req = req then c.reqAt else c.ticks }) s)
  (s.put CEL_STS.ON_VBAT (!good)).put CEL_REG_STS.LP (!good)

/-! Wake sources -/

/-- ALARM: the RTC has reached CEL_ALARM_S and CEL_ALARM_TICK (R391). -/
def alarmTicks (s : State) : Nat := s.rd CEL_ALARM_S.S * 32768 + s.rd CEL_ALARM_TICK.TICK

/-- The level condition of wake code `k` holds (R391). -/
def wakeLevel (s : State) (k : Nat) : Bool :=
  if k < 4 then
    (s.rd (CEL_WAKE_PIN.MODE k) = 4 && s.cel.pinNow.testBit k) || (s.rd (CEL_WAKE_PIN.MODE k) = 5 && !s.cel.pinNow.testBit k)
  else if k = 4 then alarmTicks s ≤ s.cel.rtc
  else if k = 7 then s.flag CEL_VBAT_STS.LOW
  else false

/-- The pending wake codes, as a mask (R391). -/
def wakePending (s : State) : Nat :=
  ((List.range 8).filter (fun k => (s.rd CEL_WAKE_EN.EN).testBit k && wakeLevel s k)).foldl setBit (s.rd CEL_WAKE_STS.PEND)

/-- An edge or event of wake code `k` sets its status bit; CEL_WAKE_EN enables codes 0 to 7 (R391). -/
def wakeLatch (k : Nat) (s : State) : State :=
  if k = 8 || (s.rd CEL_WAKE_EN.EN).testBit k then s.wr CEL_WAKE_STS.PEND (setBit (s.rd CEL_WAKE_STS.PEND) k) else s

/-- Bits [lo + n − 1 : lo] of word `j` of the ledger take `v` (R396). -/
def ledgerPut (j lo n v : Nat) (s : State) : State :=
  let w := s.rd (CEL_LEDGER.W j)
  s.wr (CEL_LEDGER.W j) (w - bitsOf w lo n * 2 ^ lo + v % 2 ^ n * 2 ^ lo)

/-- The core is off by a sleep entry: WATCH or VAULT. -/
def asleep (s : State) : Bool := s.cel.off = 1 || s.cel.off = 2

/-- The state has been entered: PWR_GOOD has fallen, or PG_STUCK is set (R388, R401). -/
def sleepEntered (s : State) : Bool := asleep s && (!s.cel.good || (s.rd (CEL_LEDGER.W 1)).testBit 21)

/-- R392: in WATCH or VAULT a pending wake source sets PWR_REQ active, unless a wake waits already or the Cellar backs off. -/
def wakeTry (s : State) : State :=
  if !sleepEntered s || s.cel.waking || s.cel.backoff || wakePending s = 0 then s
  else
    let k := (bitList 9 (wakePending s)).headD 0
    let s := ledgerPut 4 16 8 k (s.wr CEL_WAKE_LAST.CODE k)
    powerPins s.cel.good true (modCel (fun c => { c with waking := true }) s)

/-! The ledger -/

/-- R396: a new ledger at an entry of `kind` (1 WATCH, 2 VAULT, 3 OFF): the entry pair, in RTC ticks and, where known, TSU ns. -/
def ledgerNew (kind rtc : Nat) (tsu : Option Nat) (anchor : Bool) (s : State) : State :=
  let s := s.each (List.range 8) (fun j s => s.wr (CEL_LEDGER_PREV.W j) (s.rd (CEL_LEDGER.W j)))
  let n := tsu.getD 0
  let sec := n / 1000000000
  let w1 := rtc % 32768 + kind * 2 ^ 15 + 2 ^ 18 + ofBool tsu.isSome * 2 ^ 19 + ofBool anchor * 2 ^ 20 + ofBool s.cel.intOsc * 2 ^ 30
  let l := [rtc / 32768, w1, n % 1000000000, sec, sec / 2 ^ 32 % 2 ^ 16 + (if kind = 3 then 0xFF else 0) * 2 ^ 16, 0, 0, 0]
  s.each (List.range 8) (fun j s => s.wr (CEL_LEDGER.W j) (l.getD j 0))

/-- R396: the exit pair, at the first RTC tick after the TSU island has switched. -/
def ledgerExit (s : State) : State :=
  if !s.cel.exitDue || !powered s || !s.flag TSU_STS.REF then s
  else
    let s := modCel (fun c => { c with exitDue := false }) s
    if !(s.rd (CEL_LEDGER.W 1)).testBit 18 then s
    else ((s.wr (CEL_LEDGER.W 5) (rtcS s)).wr (CEL_LEDGER.W 6) (rtcTick s + 2 ^ 15)).wr (CEL_LEDGER.W 7) s.rc32

/-! Radios -/

/-- R386, R388: the radios stop: every front end ends in OFF with its registers kept, the RADIO PLL stops, the lanes drop what they hold. -/
def radiosStop (s : State) : State :=
  let s := s.each (List.range 4) (fun n s => if feState s n = 0 then s else feStop n s)
  let s := ((s.put (CLK_ISL_STS.ON_REF 0) false).put (CLK_ISL_STS.LOCKED 0) false).wr (CLK_ISL_FREQ.KHZ 0) 0
  replan (s.each (List.range 4) (spansEnd true))

/-- R386, R390: the RADIO PLL restarts while the TCXO is there, and enabled front ends return to RX without calibration. -/
def radiosStart (s : State) : State :=
  let s := if s.flag TSU_STS.REF then
      ((s.put (CLK_ISL_STS.ON_REF 0) true).put (CLK_ISL_STS.LOCKED 0) true).wr (CLK_ISL_FREQ.KHZ 0) 196608
    else (s.wr (CLK_ISL_FREQ.KHZ 0) 96000).wr CLK_STS.ON_RC (setBit (s.rd CLK_STS.ON_RC) 0)
  let s := modCel (fun c => { c with resume := true }) (s.wr CEL_PWR_STS.STATE 0)
  s.each (List.range 4) (fun n s => if s.flag (RFE_CTL.EN n) && feState s n = 0 then feLeaveOff n s else s)

/-- R386: HUSH begins. -/
def hushGo (s : State) : State :=
  radiosStop (((s.put CEL_PWR_STS.HUSH_PEND false).wr CEL_PWR_STS.STATE 1).inc CEL_HUSH_ENTRIES)

/-- R386: HUSH is written 1: at once while the ASN does not run, else at the next tick at which no cell span is in progress. -/
def hushAsk (s : State) : State :=
  if s.rd CEL_PWR_STS.STATE != 0 then s else if asnRuns s then s.put CEL_PWR_STS.HUSH_PEND true else hushGo s

/-- R386: HUSH is written 0. -/
def hushEnd (s : State) : State :=
  let s := s.put CEL_PWR_STS.HUSH_PEND false
  if s.rd CEL_PWR_STS.STATE = 1 then radiosStart s else s

/-! Loss of core power -/

/-- The core domain has lost power, or is reset with its power about to go. -/
def corePowerOff (off : Nat) (s : State) : State :=
  let s := modCel (fun c => { c with entry := none, waking := false, backoff := false, resume := false, exitDue := false, off := off }) s
  ((coreClear true s).put CEL_SLEEP_STS.BUSY false).put CEL_PWR_STS.HUSH_PEND false

end Sys2Proof.Machine
end

