-- ==== Sys2Proof/Machine/ClockOps.lean ====
section
/-!
DEFINITION. References and islands (R18, R19, R354, R399, R403): switching an island, and what a reference shows.
-/

namespace Sys2Proof.Machine

/-- R18: the islands that reference `r` feeds: 0 RADIO, 1 TSU, 2 ETH, 3 PCIE, 4 PAIR, 5 CELLAR. -/
def refIslands (r : Nat) : List Nat :=
  match r with
  | 0 => [0, 1]
  | 1 => [2, 4]
  | 2 => [3]
  | _ => [5]

/-- The clock of the ETH island in line mode `m`, kHz (R18). -/
def ethKhz (m : Nat) : Nat := if m = 0 then 322265 else if m = 1 then 312500 else 125000

/-- The clock of island `k` on its reference, kHz (R18). DESIGN CHOICE (log entry 29): a clock that is no whole number of kHz shows the
whole part, and where the backhaul ports differ in mode the ETH island shows that of BH0. -/
def islandKhz (k : Nat) (s : State) : State :=
  match k with
  | 0 => s.wr (CLK_ISL_FREQ.KHZ 0) 196608
  | 1 => s.wr (CLK_ISL_FREQ.KHZ 1) 250000
  | 2 => s.wr (CLK_ISL_FREQ.KHZ 2) (ethKhz (s.rd (ETH_P_CFG.MODE 0)))
  | 3 => s.wr (CLK_ISL_FREQ.KHZ 3) 100000
  | 4 => s.wr (CLK_ISL_FREQ.KHZ 4) 161132
  | _ => s.wr (CLK_ISL_FREQ.KHZ 5) 32

/-- R245: RC and TSU time start at the first switch of the TSU island. -/
def rcStart (s : State) : State :=
  if s.tsu.rcOn then s else { s with rc := 0, frac := 0, tsuOfs := 0, tsu := { s.tsu with rcOn := true } }

/-- Island `k` switches to its reference, its PLL locked after `us` µs (R354, R399); HOLD_RC keeps it in BLANK and PROVISION. -/
def islandToRef (us k : Nat) (s : State) : State :=
  if s.flag (CLK_ISL_STS.ON_REF k) || (s.flag (CLK_ISL_CTL.HOLD_RC k) && lcOf s ≤ 2) then s
  else
    let s := ((s.put (CLK_ISL_STS.ON_REF k) true).put (CLK_ISL_STS.LOCKED k) true).wr (CLK_ISL_LOCK.US k) (min us 65535)
    let s := s.wr CLK_STS.ON_RC (clrBit (s.rd CLK_STS.ON_RC) k)
    let s := islandKhz k ((s.inc (CLK_ISL_SWITCHES k)).inc CLK_TO_REF)
    tsOkView (if k = 1 then rcStart (s.put TSU_STS.REF true) else s)

/-- Island `k` switches to the internal oscillator (R399). -/
def islandToRc (k : Nat) (s : State) : State :=
  if !s.flag (CLK_ISL_STS.ON_REF k) then s
  else
    let s := (s.put (CLK_ISL_STS.ON_REF k) false).put (CLK_ISL_STS.LOCKED k) false
    let s := s.wr CLK_STS.ON_RC (setBit (s.rd CLK_STS.ON_RC) k)
    let s := ((s.inc (CLK_ISL_SWITCHES k)).inc CLK_TO_RC).wr (CLK_ISL_FREQ.KHZ k) (if k = 5 then 32 else 96000)
    tsOkView (if k = 1 then s.put TSU_STS.REF false else s)

/-- What reference `r` shows: edges seen, within tolerance (R403). -/
def refShow (r : Nat) (present ok : Bool) (s : State) : State :=
  ((s.put (CLK_REF_STS.PRESENT r) present).put (CLK_REF_STS.IN_TOL r) ok).wr CLK_STS.REF_OK (putBit (s.rd CLK_STS.REF_OK) r ok)

/-- The interrupt of a missing reference: TCXO, SerDes, PCIe. -/
def refIrq (r : Nat) : IrqBit := if r = 0 then Irq.CLK_NO_TCXO else if r = 1 then Irq.CLK_NO_SERDES else Irq.CLK_NO_PCIE

/-- Reference `r` (0 to 2) is missing or lost: its interrupt and its fault source, which lasts (R354, R399, R405). -/
def refMissing (r : Nat) (s : State) : State :=
  let s := raise (refIrq r) s
  if rawSet s (2 + r) then s else faultBegin (2 + r) {} s

/-- The mask of the references 0 to 2 that pass a check within ±`ppm`: edges are seen, and the deviation `dev` from the internal oscillator is
no more. -/
def refsIn (ppm present : Nat) (dev : List Int) : Nat :=
  ((List.range 3).filter (fun r => present.testBit r && (dev.getD r 0).natAbs ≤ ppm)).foldl setBit 0

/-- R399, R403: TOL_PCT, in ppm. -/
def tolPpm (s : State) : Nat := s.rd CLK_MON_CFG.TOL_PCT * 10000

/-- Reference `r` passes its check: its islands switch to it. -/
def refTake (r us : Nat) (s : State) : State :=
  let s := (refShow r true true s).each (refIslands r) (islandToRef us)
  let s := if r = 0 then modCave (fun c => { c with tcxoOk := true }) s else s
  if r < 3 && rawSet s (2 + r) then faultEnd (2 + r) s else s

end Sys2Proof.Machine
end

