-- ==== Sys2Proof/Machine/ModeOps.lean ====
section
/-!
DEFINITION. Operating modes (R34, R35) and the voltage loop (R36, R37) as several commands use them.
-/

namespace Sys2Proof.Machine

/-- Change what the voltage loop holds. -/
def modHoar (f : Hoar → Hoar) (s : State) : State := { s with hoar := f s.hoar }

/-- R34: the range of VDD_CORE in mode `m`, mV: lowest and highest. -/
def modeLow (m : Nat) : Nat := if m = 0 then 800 else if m = 1 then 600 else 550
def modeTop (m : Nat) : Nat := if m = 0 then 800 else if m = 1 then 750 else 600

/-- R35: the voltage a change to mode `m` with less capacity lowers to; RIME starts at its lowest. -/
def modeStart (m : Nat) : Nat := if m = 1 then 750 else modeLow m

/-- R37: AVS_NORESP is latched: Hoarfrost makes no requests. -/
def avsHeld (s : State) : Bool := latched s 1

/-- R34, R35: the slices and engines beyond the limits of RIME are withdrawn: those in use complete first. -/
def capWithdraw (s : State) : State :=
  let s := s.wr SEC_ENG_STS.IN_USE 0xFF
  s.each ((List.range 128).filter (fun k => 64 ≤ k)) (fun k s =>
    if sliceBusy s k then modSlice k (fun v => { v with leaving := true }) s else s.wr (CHZ_SLICE_STS.STATE k) 3)

/-- Withdrawn slices and engines are enabled again. -/
def capRestore (s : State) : State :=
  let s := s.wr SEC_ENG_STS.IN_USE 0xFFFF
  s.each ((List.range 128).filter (fun k => 64 ≤ k)) (fun k s =>
    let s := if (sliceOf s k).leaving then modSlice k (fun v => { v with leaving := false }) s else s
    if s.rd (CHZ_SLICE_STS.STATE k) = 3 then s.wr (CHZ_SLICE_STS.STATE k) 0 else s)

/-- Frames on withdrawn slices and engines have all ended. -/
def capDrained (s : State) : Bool :=
  (List.range 128).all (fun k => k < 64 || !sliceBusy s k) && s.rd SEC_ENG_STS.BUSY < 256

/-- R35: a mode change ends, in mode `cur`, failed or not; the change tokens gained so far are those of the mode that ends (R133). -/
def modeEnd (cur : Nat) (fail : Bool) (s : State) : State :=
  let s := s.each (List.range 8) tokenView
  let s := ((s.wr SYS_MODE_STS.CUR cur).put SYS_MODE_STS.BUSY false).put SYS_MODE_STS.FAIL (fail || s.flag SYS_MODE_STS.FAIL)
  raise Irq.SYS_MODE_DONE (replan (modHoar (fun h => { h with raising := false }) s))

/-- R35: a requested mode change starts. The modes with more capacity come first in their order. -/
def modeBegin (m : Nat) (s : State) : State :=
  let cur := s.rd SYS_MODE_STS.CUR
  let s := s.put SYS_MODE_STS.FAIL false
  if m = cur then modeEnd cur false s
  else if m < cur then
    if avsHeld s then modeEnd cur true s
    else
      let s := s.put SYS_MODE_STS.BUSY true
      modHoar (fun h => { h with target := m, raising := true, lowering := false, vreq := max h.vreq (modeLow m) }) s
  else
    let s := modHoar (fun h => { h with target := m, raising := false }) (s.put SYS_MODE_STS.BUSY true)
    if m = 2 then capWithdraw s else s

/-- R35: the request held behind a change that has ended starts. -/
def modeNext (s : State) : State :=
  match s.hoar.held with
  | none => s
  | some m => if s.flag SYS_MODE_STS.BUSY then s else modeBegin m (modHoar (fun h => { h with held := none }) s)

/-- R35: a mode is requested: it starts at once, or is held behind the change in progress. -/
def modeRequest (m : Nat) (s : State) : State :=
  let s := s.wr SYS_MODE_STS.PEND m
  if s.flag SYS_MODE_STS.BUSY then modHoar (fun h => { h with held := some m }) s else modeBegin m s

/-- R35: the change in progress may complete: the new floor is confirmed, or the withdrawn capacity is empty; its voltage is then lowered,
or stays at the last one confirmed. -/
def modeComplete (s : State) : State :=
  let m := s.hoar.target
  if !s.flag SYS_MODE_STS.BUSY then s
  else if s.hoar.raising then
    if s.hoar.vconf < modeLow m then s else modeNext (modeEnd m false (if s.rd SYS_MODE_STS.CUR = 2 then capRestore s else s))
  else if m = 2 && !capDrained s then s
  else if avsHeld s then modeNext (modeEnd m true s)
  else modeNext (modeEnd m false (modHoar (fun h => { h with vreq := modeStart m, lowering := true }) s))

end Sys2Proof.Machine
end

