-- ==== Sys2Proof/Machine/EgressOps.lean ====
section
/-!
DEFINITION. Backhaul egress as several units use it (R236 to R239, R248, R282): class FIFOs, gates, the fit of a frame, and transmit
completions in ring order.
-/

namespace Sys2Proof.Machine

/-- Port `p`. -/
def portOf (s : State) (p : Nat) : Port := Store.find {} s.qms.ports p

/-- Change port `p`. -/
def modPort (p : Nat) (f : Port → Port) (s : State) : State :=
  { s with qms := { s.qms with ports := Store.put {} s.qms.ports p (f (portOf s p)) } }

/-- Egress class FIFO `c` of port `p`. -/
def egrOf (s : State) (p c : Nat) : List EgrFrame := Store.find [] (portOf s p).fifos c

/-- Class FIFO `c` of port `p` becomes `l`; its counts and peaks follow (R213). -/
def setEgr (p c : Nat) (l : List EgrFrame) (s : State) : State :=
  let s := modPort p (fun x => { x with fifos := Store.put [] x.fifos c l }) s
  let n := (List.range 8).foldl (fun a k => a + (egrOf s p k).length) 0
  let s := (s.wr (SHP_EGR_CNT.FRAMES p) n).peak (SHP_EGR_PEAK.PEAK p) n
  (s.wr (ETH_P_EQ.FRAMES p c) l.length).peak (ETH_P_EQ.PEAK p c) l.length

/-- The FIFOs of port `p` have room: SHP_EGR_CNT counts to 65,535. -/
def egrRoom (s : State) (p : Nat) : Bool := s.rd (SHP_EGR_CNT.FRAMES p) < 65535

/-- A frame enters egress class `c` of port `p` with a new identity. -/
def egrPush (p c : Nat) (f : EgrFrame) (s : State) : State :=
  let s := setEgr p c (egrOf s p c ++ [{ f with id := s.qms.nextId }]) s
  { s with qms := { s.qms with nextId := s.qms.nextId + 1 } }

/-- Duration of one bit on port `p`, 0.1 ns (R238, ETH_P_STS.SPEED). -/
def bitTime (s : State) (p : Nat) : Nat :=
  match s.rd (ETH_P_STS.SPEED p) with
  | 0 => 1
  | 1 => 4
  | 2 => 10
  | _ => Config.sgmiiBit

/-- R238: how long the gate must stay open for a frame of `n` octets, 0.1 ns. -/
def gateNeed (s : State) (p n : Nat) : Nat := (n + 20) * 8 * bitTime s p + s.rd (SHP_GATE_CREV.NS p) * 10

/-! Gates -/

/-- The entry of list `g` in force `pos` ns into its cycle, counted from `k`, and how long it still holds; the last one holds until the
cycle ends (R237). -/
def entryAt (cycle pos : Nat) : Nat → Nat → List Nat → Nat × Nat × Nat
  | k, _, [] => (k, 0, cycle - pos)
  | k, _, [e] => (k, e % 256, cycle - pos)
  | k, t, e :: l =>
    let u := t + e / 256 * 4
    if pos < u then (k, e % 256, min u cycle - pos) else entryAt cycle pos (k + 1) u l

/-- The entry of `g`, its gates and the ns until they may change, at TSU time `t` (R237, R261). -/
def gatesAt (g : GateList) (t : Int) : Nat × Nat × Nat :=
  entryAt g.cycle ((t - g.start) % (max 1 g.cycle : Nat)).toNat 0 0 g.entries

/-- The list of port `p` in force at TSU time `t`, and the ns until a pending switch (R238). -/
def listAt (x : Port) (t : Int) : Option GateList × Option Nat :=
  match x.pendingList with
  | some q => if (q.start : Int) ≤ t then (some q, none) else (x.running, some ((q.start : Int) - t).toNat)
  | none => (x.running, none)

/-- R238: class `c` stays open for `need` (0.1 ns) from TSU time `t`; `k` segments at most. -/
def staysOpen (x : Port) (c : Nat) : Nat → Int → Nat → Bool
  | 0, _, _ => false
  | k + 1, t, need =>
    if need = 0 then true
    else
      let (g, sw) := listAt x t
      let (open_, len) := match g with
        | none => (true, none)
        | some g => ((gatesAt g t).2.1.testBit c, some (gatesAt g t).2.2)
      let d := match len, sw with
        | none, none => none
        | some a, none => some a
        | none, some b => some b
        | some a, some b => some (min a b)
      if !open_ then false
      else
        match d with
        | none => true
        | some d => if need ≤ d * 10 then true else staysOpen x c k (t + max 1 d) (need - max 1 d * 10)

/-- Gates apply on port `p` (R237). -/
def gated (s : State) (p : Nat) : Bool := s.flag (SHP_GATE_CTL.EN p) && (portOf s p).running.isSome

/-- R238: a frame of `n` octets of class `c` fits now. -/
def gateFits (s : State) (p c n : Nat) : Bool :=
  !gated s p || staysOpen (portOf s p) c (gateNeed s p n / 40 + 4) s.tsuNs (gateNeed s p n)

/-- Entries of `g` as they hold in one cycle: gates and ns (R237). -/
def cycleParts (cycle : Nat) : Nat → List Nat → List (Nat × Nat)
  | _, [] => []
  | t, [e] => [(e % 256, cycle - t)]
  | t, e :: l =>
    let d := min (e / 256 * 4) (cycle - t)
    (e % 256, d) :: cycleParts cycle (t + d) l

/-- Longest run of open parts of class `c`, given the run so far and the longest so far. -/
def openRun (c : Nat) : Nat → Nat → List (Nat × Nat) → Nat
  | _, best, [] => best
  | run, best, (g, d) :: l => 
    if g.testBit c then openRun c (run + d) (max best (run + d)) l else openRun c (if d = 0 then run else 0) best l

/-- R239: MAXWIN of class `c` in list `g`, ns, joined across the cycle boundary; none: the class is never closed. -/
def maxWin (g : GateList) (c : Nat) : Option Nat :=
  let l := cycleParts g.cycle 0 g.entries
  if l.all (fun x => x.1.testBit c || x.2 = 0) then none else some (openRun c 0 0 (l ++ l))

/-- R239: a frame that needs `need` (0.1 ns) fits in the windows of list `g`. -/
def winFits (g : GateList) (c need : Nat) : Bool :=
  match maxWin g c with
  | none => true
  | some w => need ≤ w * 10

/-- R239: a head frame fits neither in the list in force nor in a pending one. -/
def neverOpen (s : State) (p c n : Nat) : Bool :=
  let x := portOf s p
  gated s p && (match x.running with | some g => !winFits g c (gateNeed s p n) | none => false)
    && (match x.pendingList with | some g => !winFits g c (gateNeed s p n) | none => true)

/-- Cycles of list `g` that have ended at TSU time `t` (R237). -/
def cyclesAt (g : GateList) (t : Int) : Int := (t - g.start) / (max 1 g.cycle : Nat)

/-- SHP_GATE_STS shows the entry in force and the open gates (R237). -/
def gateView (p : Nat) (s : State) : State :=
  match (portOf s p).running with
  | none => s.wr (SHP_GATE_STS.OPEN p) 0xFF
  | some g =>
    let (k, gates, _) := gatesAt g s.tsuNs
    let s := modPort p (fun x => { x with cycleNo := cyclesAt g s.tsuNs }) s
    (s.wr (SHP_GATE_STS.OPER_IX p) k).wr (SHP_GATE_STS.OPEN p) (if s.flag (SHP_GATE_CTL.EN p) then gates else 0xFF)

/-! Transmit completions -/

/-- Descriptors of transmit ring `r` that Bastis has taken (R282). -/
def takenOf (s : State) (r : Nat) : List TxTaken := Store.find [] s.hif.taken r

/-- Change the taken descriptors of transmit ring `r`. -/
def setTaken (r : Nat) (l : List TxTaken) (s : State) : State := { s with hif := { s.hif with taken := Store.put [] s.hif.taken r l } }

/-- R282, R283: completions are written in ring order, up to the first descriptor that waits for its frame; at most `k` of them. -/
def txFlush (r : Nat) : Nat → State → State
  | 0, s => s
  | k + 1, s =>
    match takenOf s r with
    | [] => s
    | x :: l =>
      if x.waits then s
      else
        let rc := if x.tsValid then x.tsRc else s.rc32
        let s := slotWrite r (fun ph => .tx rc x.tsNs x.tsSl x.sent x.trunc x.nop x.tsValid x.dropped x.whey x.err x.cookie ph) (setTaken r l s)
        txFlush r k s

/-- A frame with TS_REQ has left its port, or been dropped: its completion, with the egress timestamp when there is one. -/
def txLeft (f : EgrFrame) (ts : Option (Nat × Int)) (dropped : Option Nat) (s : State) : State :=
  match f.tsRing with
  | none => s
  | some r =>
    let fill (x : TxTaken) : TxTaken :=
      if x.waits && x.frameId = f.id then
        { x with
          waits := false
          tsRc := (ts.map (·.1)).getD 0
          tsNs := ((ts.map (·.2)).getD 0 % 1000000000).toNat
          tsSl := ((ts.map (·.2)).getD 0 / 1000000000 % 4294967296).toNat
          tsValid := ts.isSome
          dropped := dropped.isSome
          whey := dropped.getD 0 }
      else x
    let l := (takenOf s r).map fill
    txFlush r l.length (setTaken r l s)

/-- R239: heads of class `c` that can never fit are dropped; at most `k` of them. -/
def dropNever (p c : Nat) : Nat → State → State
  | 0, s => s
  | k + 1, s =>
    match egrOf s p c with
    | [] => s
    | f :: l =>
      if neverOpen s p c f.len then
        let s := raiseAt Irq.SHP_GATE_OVERSIZE p ((setEgr p c l s).inc (SHP_GATE_OVERSIZE p c))
        dropNever p c k (txLeft f none (some 14) (s.whey 14))
      else s

end Sys2Proof.Machine
end

