-- ==== Sys2Proof/Machine/Rings.lean ====
section
/-!
DEFINITION. Commands of the host rings (R272 to R287, R296 to R298): doorbells, enabling, descriptors, moderation, errors and resets.
Ring numbers: TX 0 to 31, RX 32 to 63, CMD 64 to 71, EV 72 to 75.
-/

namespace Sys2Proof.Machine

/-! Doorbells -/

/-- R280: a doorbell with ARM: the message goes at once when PEND is COUNT or more, or when USECS is 0; else the timer starts. -/
def ringArm (r : Nat) (s : State) : State :=
  let s := s.put (HIF_R_STS.ARMED r) true
  let p := s.rd (HIF_R_STS.PEND r)
  if p = 0 then s
  else if s.flag (HIF_R_CFG.IRQ_EN r) && (s.rd (HIF_R_MOD.COUNT r) ≤ p || s.rd (HIF_R_MOD.USECS r) = 0) then ringSignal r s
  else { s with hif := { s.hif with timer := Store.put none s.hif.timer r (some s.rc) } }

/-- R276: a doorbell index is accepted: for an event ring it returns entries written; for another it adds slots, SIZE − 1 outstanding at
most. -/
def doorbellOk (s : State) (r index : Nat) : Bool :=
  let n := ringSize s r
  if n ≤ index then false
  else if 72 ≤ r then (index + n - s.rd (HIF_R_IDX.HEAD r) % n) % n ≤ ringOut s r
  else ringOut s r + (index + n - s.rd (HIF_R_IDX.TAIL r) % n) % n ≤ n - 1

/-- The ring whose doorbell lies at `offset` of BAR2, or of the policy cores' aperture (R275, R299). -/
def doorbellRing (offset : Nat) : Option Nat :=
  if offset % 0x200 != 0 then none
  else if offset < 0x4000 then some (offset / 0x200)
  else if offset < 0x8000 then some (32 + (offset - 0x4000) / 0x200)
  else if offset < 0x9000 then some (64 + (offset - 0x8000) / 0x200)
  else if offset < 0x9800 then some (72 + (offset - 0x9000) / 0x200)
  else none

/-- R276: a doorbell of ring `r`. -/
def doorbell (r index : Nat) (arm : Bool) (s : State) : State :=
  if !s.flag (HIF_R_CFG.EN r) then s
  else
    let s := if doorbellOk s r index then
        if 72 ≤ r then s.wr (HIF_R_IDX.HEAD r) index else s.wr (HIF_R_IDX.TAIL r) index
      else raise Irq.HIF_DB_BAD (s.inc HIF_DB_BAD)
    let s := s.when arm (ringArm r)
    if 72 ≤ r then eventDrain (r - 72) (heldOf s (r - 72)).length s else s

/-- R275, R276: a doorbell write: INDEX in [15:0], ARM in [31]. -/
def execDoorbellWrite (offset : Nat) (value : Word) (t : Nat) (s : State) : Result :=
  let s := s.at t
  .next (match doorbellRing offset with
    | some r => doorbell r (bitsOf value.toNat 0 16) (value.toNat.testBit 31) s
    | none => s)

/-! Enabling -/

/-- What was written into the slots of ring `r` is forgotten: the host has zeroed them (R273). -/
def slotsBlank (r : Nat) (s : State) : State :=
  { s with hif := { s.hif with
    slots := s.hif.slots.filter (fun p => p.1 / 65536 != r)
    next := Store.put 0 s.hif.next r 0
    phase := Store.put 1 s.hif.phase r 1 } }

/-- R273, R299: HIF_R_CFG.EN is written 1. In standalone mode a ring with LOC 0 is refused. -/
def execRingEnable (ring : Fin 76) (t : Nat) (s : State) : Result :=
  let s := s.at t
  let r := ring.val
  if s.flag (HIF_R_CFG.EN r) then .next s
  else if s.flag HIF_CFG.STANDALONE && !s.flag (HIF_R_CFG.LOC r) then .next (s.wr (HIF_R_STS.ERR_CODE r) 2)
  else
    let s := slotsBlank r (((s.put (HIF_R_CFG.EN r) true).wr (HIF_R_IDX.HEAD r) 0).wr (HIF_R_IDX.TAIL r) 0)
    let s := ((s.put (HIF_R_STS.ARMED r) true).put (HIF_R_STS.ERR r) false).wr (HIF_R_STS.ERR_CODE r) 0
    let s := runView r s
    .next (if 72 ≤ r then eventDrain (r - 72) (heldOf s (r - 72)).length s else s)

/-- R273: HIF_R_CFG.EN is written 0: no new descriptor is taken; those taken still complete. -/
def execRingDisable (ring : Fin 76) (t : Nat) (s : State) : Result :=
  .next (runView ring.val ((s.at t).put (HIF_R_CFG.EN ring.val) false))

/-! Transmit and receive descriptors -/

/-- Transmit ring `r` has a descriptor to take. -/
def txHas (s : State) (r : Nat) : Bool := ringLive s r && 0 < ringOut s r

/-- R274: the transmit ring that is served next: the one whose turn it is, up to WEIGHT descriptors, then the next one that has any. -/
def txTurn (s : State) : Option Nat :=
  let c := s.hif.turn
  if txHas s c && s.hif.served < s.rd (HIF_TXR_ARB.WEIGHT c) then some c
  else ((List.range 32).map (fun k => (c + 1 + k) % 32)).find? (txHas s)

/-- A descriptor of ring `r` counts in its round. -/
def turnTake (r : Nat) (s : State) : State :=
  let more : Bool := r = s.hif.turn && s.hif.served < s.rd (HIF_TXR_ARB.WEIGHT r)
  { s with hif := { s.hif with turn := r, served := if more then s.hif.served + 1 else 1 } }

/-- A ring whose next descriptor must wait gives its turn away. -/
def turnPass (r : Nat) (s : State) : State := { s with hif := { s.hif with turn := r, served := s.rd (HIF_TXR_ARB.WEIGHT r) } }

/-- A transmit descriptor is taken with its completion `x` (R282, R283). -/
def txTake (r : Nat) (x : TxTaken) (s : State) : State :=
  let s := (ringTake r s).inc HIF_TX_DESC
  let s := setTaken r (takenOf s r ++ [x]) s
  txFlush r (takenOf s r).length s

/-- R281, R282: an Ethernet frame of `n` octets enters its egress class, or goes to the Whey; the descriptor waits when TS_REQ asks for the
egress timestamp. -/
def txEth (r : Nat) (d : TxDesc) (e : EthMeta) (x : TxTaken) (s : State) : State :=
  if 1522 < x.sent then txTake r { x with dropped := true, whey := 14 } (s.whey 14)
  else
    match poolTake 1 (curdsOf (max 60 x.sent)) s with
    | (none, s) => txTake r { x with dropped := true, whey := 31 } (s.whey 31)
    | (some _, s) =>
      let s := poolGive 1 (curdsOf (max 60 x.sent)) s
      let f : EgrFrame := {
        len := max 60 x.sent + 4
        cast := e.cast
        vlan := e.vlan
        ptp := e.ptp
        sync := d.onestep && e.ptp.any (fun m => m.mtype = 0)
        tsRing := if d.tsReq then some r else none }
      let id := s.qms.nextId
      egrPush d.port d.cls f (txTake r { x with waits := d.tsReq, frameId := id } s)

/-- R281, R282: an IPv6 packet goes on to stage 1 of R223; the descriptor waits until it holds its curds or is dropped. A clamped one is
sent as a shorter packet (R278). -/
def txPacket (r : Nat) (d : TxDesc) (p : DownContent) (x : TxTaken) (s : State) : State :=
  let id := s.qms.nextId
  let it : DownItem := {
    pkt := { p with len := x.sent }
    cls := if d.clsEn then some d.cls.val else none
    bcast := if d.kind = 1 then some d.ward.val else none
    ring := some r
    id := id
    rc := s.rc
    asn := s.asn }
  let s := { s with qms := { s.qms with nextId := id + 1 }, fwd := { s.fwd with down := s.fwd.down ++ [it] } }
  txTake r { x with waits := true, frameId := id } s

/-- What the completion of a transmit descriptor says from the start (R278, R283). -/
def txBegun (d : TxDesc) : TxTaken :=
  { sent := min d.len d.bufsize, trunc := decide (d.bufsize < d.len), cookie := d.cookie }

/-- R283, R297: the buffer of a transmit descriptor cannot be read: it completes with ERR 2, and the ring stops. -/
def txDma (r addr : Nat) (x : TxTaken) (s : State) : State := dmaFail r addr (txTake r { x with sent := 0, nop := true, err := 2 } s)

/-- R278, R281: descriptor `d` of ring `r` is taken. -/
def txDo (r : Nat) (d : TxDesc) (pkt : DownContent) (eth : EthMeta) (s : State) : State :=
  let x := txBegun d
  let s := (turnTake r s).when x.trunc (fun s => s.inc HIF_TX_TRUNC)
  if x.sent = 0 then txTake r { x with nop := true } (s.inc HIF_NOP)
  else if d.kind = 3 then txTake r { x with sent := 0, nop := true, err := 1 } s
  else if locBad s r d.addr x.sent then txDma r d.addr x s
  else if d.kind = 2 then txEth r d eth x s
  else txPacket r d pkt x s

/-- R274, R281: the next descriptor of transmit ring `ring`, `desc` as the host left it, is taken when its turn has come: `pkt` and `eth` are
what its buffer holds. A full egress FIFO stalls it (R214); a descriptor whose address is refused stops the ring (R297, R299). -/
def execTxDescriptor (ring : Fin 32) (desc : Desc) (pkt : DownContent) (eth : EthMeta) (t : Nat) (s : State) : Result :=
  let s := s.at t
  let r := ring.val
  if txTurn s != some r then .next s
  else if slotBad s r then .next (dmaFail r (slotAt s r (s.rd (HIF_R_IDX.HEAD r))) s)
  else
    let d := txDescOf (descIn s r desc)
    let sent := (txBegun d).sent
    if d.kind = 2 && sent != 0 && sent ≤ 1522 && !egrRoom s d.port then .next (turnPass r s)
    else .next (txDo r d pkt eth s)

/-- R285 to R287: receive ring `ring`: a backlog frame goes first; the next frame bound for the ring takes a descriptor, joins the backlog,
or is lost when that is full. -/
def execRxFrameDeliver (ring : Fin 32) (desc : Desc) (t : Nat) (s : State) : Result :=
  let s := s.at t
  let k := ring.val
  let free := rxFree s k
  match backlogOf s k, Store.find [] s.hif.bound k with
  | [], [] => .next s
  | b :: l, q =>
    if free then
      match rxWrite k desc b s with
      | (true, s) => .next (setBacklog k l s)
      | (false, s) => .next s
    else
      match q with
      | [] => .next s
      | v :: l' =>
        let s := { s with hif := { s.hif with bound := Store.put [] s.hif.bound k l' } }
        if (b :: l).length < s.rd (HIF_R_CFG.LIMIT (32 + k)) then .next (setBacklog k (b :: l ++ [v]) s)
        else .next ((s.inc HIF_RX_BACKLOG_DROP).whey 28)
  | [], v :: l =>
    let pop (s : State) : State := { s with hif := { s.hif with bound := Store.put [] s.hif.bound k l } }
    if free then
      match rxWrite k desc v s with
      | (true, s) => .next (pop s)
      | (false, s) => .next s
    else .next (setBacklog k [v] (pop s))

/-! Moderation, errors, resets -/

/-- R279: USECS microseconds have passed since the first completion that PEND counts. -/
def execModerationTimer (ring : Fin 76) (t : Nat) (s : State) : Result :=
  let s := s.at t
  let r := ring.val
  match Store.find none s.hif.timer r with
  | none => .next s
  | some a =>
    if s.flag (HIF_R_STS.ARMED r) && s.flag (HIF_R_CFG.IRQ_EN r) && a + s.rd (HIF_R_MOD.USECS r) * 1000 ≤ s.rc then .next (ringSignal r s)
    else .next s

/-- Commands whose data buffer is read (R291, R315, R346, R375). -/
def cmdInOps : List Nat := [0x01, 0x05, 0x06, 0x10, 0x12, 0x20, 0x23, 0x24, 0x40, 0x41, 0x50, 0x55, 0x56, 0x61, 0x62]

/-- R290, R297: a read of ring `ring` at `addr` fails: of its next descriptor, or, where that was read, of the buffer that `desc` names. The
ring stops. A descriptor that could not be read is not completed; one whose buffer could not be read completes with ERR 2, a command with
0xF2 (DEDUCED, log entry 29). A receive ring reads no buffer, an event ring nothing. -/
def execDmaReadFail (ring : Fin 76) (desc : Option Desc) (addr t : Nat) (s : State) : Result :=
  let s := s.at t
  let r := ring.val
  if 72 ≤ r || !ringLive s r || ringOut s r = 0 then .next s
  else
    match desc with
    | none => .next (dmaFail r addr s)
    | some d =>
      let d := descIn s r d
      let x := txBegun (txDescOf d)
      if r < 32 then .next (if txTurn s = some r && x.sent != 0 && (txDescOf d).kind != 3 then txDma r addr x (turnTake r s) else s)
      else if 64 ≤ r && cmdReady s (r - 64) && cmdInOps.contains (cmdOp d) then
        .next (cmdDma (r - 64) (cmdOp d) (cmdHeadOf d).tag addr (cmdTake (r - 64) s))
      else .next s

/-- R298: HIF_R_MOD of ring `r` is reset. A ring of the host stops: its descriptors are abandoned, and a command that executes will write no
completion. -/
def ringFlr (r : Nat) (s : State) : State :=
  let s := (s.wr (HIF_R_MOD.USECS r) (HIF_R_MOD.USECS r).rst).wr (HIF_R_MOD.COUNT r) (HIF_R_MOD.COUNT r).rst
  if s.flag (HIF_R_CFG.LOC r) then s
  else
    let busy : Bool := 64 ≤ r && r < 72 && Store.find false s.hif.executing (r - 64)
    let s := if busy then { s with hif := { s.hif with orphan := Store.put false s.hif.orphan (r - 64) true } } else s
    let s := setTaken r [] (((s.put (HIF_R_CFG.EN r) false).put (HIF_R_STS.ERR r) true).wr (HIF_R_STS.ERR_CODE r) 3)
    runView r { s with hif := { s.hif with timer := Store.put none s.hif.timer r none } }

/-- R298: every ring of the host stops; every MSI-X table entry is reset; Bus Master Enable and MSI-X Enable go with the function. -/
def functionReset (s : State) : State :=
  let s := (s.inc HIF_FLR).each (List.range 76) ringFlr
  let s := { s with hif := { s.hif with unmasked := [], msixPend := [], msix := [] } }
  (s.put HIF_STS.BME false).put HIF_STS.MSIX_EN false

/-- A Function Level Reset (R298). -/
def execFunctionLevelReset (t : Nat) (s : State) : Result := .next (functionReset (s.at t))

/-- A return from D3hot to D0 (R298). -/
def execD3hotToD0 (t : Nat) (s : State) : Result := .next (functionReset (s.at t))

/-- The host writes entry `vector` of the MSI-X table, its message address and data, and unmasks it: a pending message is sent (R268, R279). -/
def execMsixVectorUnmask (vector : Fin 64) (addr data t : Nat) (s : State) : Result :=
  let s := s.at t
  let v := vector.val
  let s := { s with hif := { s.hif with
    msix := Store.put (0, 0) s.hif.msix v (addr % 2 ^ 64, data % 2 ^ 32)
    unmasked := Store.put false s.hif.unmasked v true } }
  .next (if Store.find false s.hif.msixPend v then
      { s with hif := { s.hif with msixPend := Store.put false s.hif.msixPend v false } }.inc HIF_MSIX_SENT
    else s)

/-! NOP, unknown opcodes, peaks -/

/-- NOP (R291). -/
def execNop (ring : Fin 8) (tag t : Nat) (s : State) : Result := withCmd ring (cmdPlain ring 0 tag 0) (s.at t)

/-- R290: an opcode that no command has. -/
def execBadop (ring : Fin 8) (op tag t : Nat) (s : State) : Result :=
  let s := s.at t
  if cmdOps.contains (op % 256) then .next s else withCmd ring (cmdPlain ring (op % 256) tag 0xF0) s

/-- HIF_RXR_BACKLOG is read: COUNT and PEAK; PEAK clears (R213, R301). -/
def execHifRxrBacklogPeakRead (ring : Fin 32) (requester : Requester) (s : State) : Result :=
  .next ((s.answer requester (s.rd (HIF_RXR_BACKLOG.COUNT ring) + 2 ^ 16 * s.rd (HIF_RXR_BACKLOG.PEAK ring))).wr (HIF_RXR_BACKLOG.PEAK ring) 0)

/-- HIF_EVTR_PEND is read: PEND and PEAK; PEAK clears (R296, R301). -/
def execHifEvtrPendPeakRead (ring : Fin 4) (requester : Requester) (s : State) : Result :=
  .next ((s.answer requester (s.rd (HIF_EVTR_PEND.PEND ring) + 2 ^ 8 * s.rd (HIF_EVTR_PEND.PEAK ring))).wr (HIF_EVTR_PEND.PEAK ring) 0)

end Sys2Proof.Machine
end

