-- ==== Sys2Proof/Machine/Boot.lean ====
section
/-!
DEFINITION. Resets (R348 to R351), the start-up sequence (R353 to R365), anti-rollback (R364), the life cycle and fuses (R366 to R369),
UCODE_LOAD (R375).
-/

namespace Sys2Proof.Machine

/-! Resets -/

/-- R416: a reset that wins over a sleep entry abandons it without a ledger. -/
def sleepAbandon (s : State) : State :=
  match s.cel.entry with
  | none => s
  | some e => (modCel (fun c => { c with entry := none }) (s.wr CEL_PWR_STS.STATE e.before)).put CEL_SLEEP_STS.BUSY false

/-- PWR_GOOD rises: the core domain has power again, and the BOOT_SRC pins are sampled (R352). -/
def powerUp (k strap bits : Nat) (us : List Nat) (s : State) : State :=
  let s := modCel (fun c => { c with off := 0, fresh := false, waking := false, exitDue := k != 0 }) s
  bootStart k true bits us (modBoot (fun b => { b with strap := strap % 4 }) ((powerPins true true s).wr CEL_PWR_STS.STATE 0))

/-- Power-on reset (R348): `strap`: the BOOT_SRC pins; `bits`: the bits of a life-cycle group that stage 2 programs before the power
fails, 8 when it does not; `us`: when each stage is entered, µs after PWR_GOOD. -/
def execPowerOnReset (strap bits : Nat) (us : List Nat) (s : State) : Result :=
  if !s.cel.fresh || s.cel.off = 4 then .next s
  else .next (powerUp 0 strap bits us (s.put CEL_INT_STS.CELLAR_LOST true))

/-- Power-failure reset (R348). -/
def execPowerFailReset (strap bits : Nat) (us : List Nat) (s : State) : Result :=
  if s.cel.fresh || s.cel.off != 3 then .next s else .next (powerUp 1 strap bits us s)

/-- Wake reset (R348, R392): PWR_GOOD rises while PWR_REQ is active. -/
def execWakeReset (strap bits : Nat) (us : List Nat) (s : State) : Result :=
  if (s.cel.off = 1 || s.cel.off = 2) && s.cel.waking then .next (powerUp 4 strap bits us (s.inc CEL_WAKES)) else .next s

/-- Warm reset (R348, R351). -/
def execWarmReset (key : Nat) (warm : Bool) (bits : Nat) (us : List Nat) (s : State) : Result :=
  if key = 0x5253 && warm && powered s && !s.boot.scanHeld then .next (bootStart 2 false bits us (sleepAbandon s)) else .next s

/-- Fault reset (R411): every queued entry has reached the Cellar. -/
def execFaultReset (bits : Nat) (us : List Nat) (s : State) : Result :=
  if s.flt.resetPend && powered s then .next (bootStart 3 false bits us (sleepAbandon (morCommitN 17 s))) else .next s

/-- JTAG reset, in the states that R370 allows: it also releases what a boundary-scan instruction holds (R458). -/
def execJtagReset (bits : Nat) (us : List Nat) (s : State) : Result :=
  if powered s && lcOf s != 4 then .next (bootStart 5 false bits us (sleepAbandon s)) else .next s

/-- PCIe fundamental reset (R348): the PCIE island and HIF reset as for R298; the link goes down. -/
def execPcieFundamentalReset (t : Nat) (s : State) : Result :=
  let n := s.rd HIF_FLR
  .next (((functionReset (s.at t)).wr HIF_FLR n).put HIF_STS.LINK_UP false)

/-! Stages 3 to 5 -/

/-- R355: SRAM initialisation ends, after `dur` µs. -/
def execSramInitComplete (dur : Nat) (us : List Nat) (s : State) : Result :=
  let st := s.rd SYS_BOOT_STS.STAGE
  if s.flag SYS_SRAM_STS.DONE || st < 3 || 11 < st || (6 ≤ st && st ≤ 9) then .next s
  else .next (bootAdvance us ((s.put SYS_SRAM_STS.DONE true).wr SYS_SRAM_STS.US (min dur 65535)))

/-- R354: a reference that passes its check, with PLLs that lock within 200 µs, is taken; any other is missing. -/
def refCheck (ok present lockUs r : Nat) (s : State) : State :=
  if ok.testBit r && lockUs ≤ 200 then refTake r lockUs s else refMissing r (refShow r (present.testBit r) false s)

/-- R354: the reference check ends, with a tolerance of ±5 %: the mask of the references with edges (bit 0 TCXO, bit 1 SerDes), their deviation
from the internal oscillator, ppm, and when their PLLs locked, µs. -/
def execClockCheckComplete (present : Nat) (dev : List Int) (lockUs : Nat) (us : List Nat) (s : State) : Result :=
  let st := s.rd SYS_BOOT_STS.STAGE
  if s.boot.clockDone || st < 3 || 11 < st || (6 ≤ st && st ≤ 9) then .next s
  else
    let ok := refsIn 50000 present dev
    let s := refCheck ok present lockUs 1 (refCheck ok present lockUs 0 s)
    .next (bootAdvance us (modBoot (fun b => { b with clockDone := true }) s))

/-- R359: the image fits its destination. -/
def imageFits (i : Image) : Bool :=
  match i.kind with
  | 0x10 => i.length ≤ 131072 && i.load + i.length ≤ 262144
  | 0x11 => if i.shared then i.load + i.length ≤ 0x330000 else i.load + i.length ≤ 262144
  | 0x12 => i.load + i.length ≤ 8192
  | _ => i.load + i.length ≤ 16384

/-- KEY_ID of a public key: the first 8 octets of its SHA-512 (R358). -/
def keyIdOf (key : List Nat) : Nat := leNat ((sha512 key).take 8)

/-- The public key whose KEY_ID the image names, where R359 and R370 allow that signer for the kind: Caursis always, the owner for policy
images, once fused and outside BLANK. -/
def imageSigner (s : State) (i : Image) : Option (List Nat) :=
  if i.kind = 0x11 && s.fuse.ownerDone && lcOf s != 1 && i.keyId = keyIdOf (ownerPub s) then some (ownerPub s)
  else if i.keyId = keyIdOf caursisPub then some caursisPub
  else none

/-- The header of an image up to its signature (R358). -/
def imageHead (i : Image) : List Nat :=
  leOctets 4 i.magic ++ leOctets 2 i.fmt ++ leOctets 2 i.kind ++ leOctets 4 i.ver ++ leOctets 4 i.svn ++ leOctets 4 i.length
    ++ leOctets 4 (i.part % 2 ^ 16 + i.step % 2 ^ 8 * 2 ^ 16) ++ leOctets 8 i.keyId ++ leOctets 64 i.digest ++ leOctets 4 i.load ++ leOctets 4 i.entry
    ++ leOctets 4 (i.mask % 2 ^ 8 + ofBool i.shared * 2 ^ 8 + i.sver * 2 ^ 16) ++ leOctets 4 i.crc ++ List.replicate 16 0

/-- R360: the checks of an image, in order: the code of the first that fails, or 0. `kindOk`: the kind is known and allowed here. -/
def imageWhy (s : State) (kindOk : Bool) (i : Image) : Nat :=
  if i.magic != 0x4E4B424F || i.fmt != 1 || !kindOk then 5
  else if i.part != 0x2640 || s.rd SYS_ID.STEP < i.step then 4
  else if !imageFits i then 6
  else
    match imageSigner s i with
    | none => 8
    | some key =>
      if i.svn < s.rd KEY_SVN.SVN then 3
      else if !edVerify key (imageHead i) (leOctets 64 i.sig) then 1
      else if leOctets 64 i.digest != sha512 (imagePayload i) then 2
      else 0

/-- The words of one microcode bank become the payload of an image, from LOAD on. -/
def bankLoad (size bank : Nat) (i : Image) (m : Store Nat) : Store Nat :=
  let m := m.filter (fun c => c.1 / size != bank)
  ((i.payload.take (size - i.load / 4)).zipIdx).foldl (fun m c => Store.put 0 m (bank * size + i.load / 4 + c.2) c.1) m

/-- What a swap checks of an image's header. -/
def ucHeadOf (i : Image) : UcHead := ⟨i.length, i.crc, i.sver⟩

/-- The payload of an accepted boot image reaches its destination (R359). -/
def imagePlace (i : Image) (s : State) : State :=
  match i.kind with
  | 0x11 =>
    if i.shared then modPcr (fun p => { p with mem := putWords i.load i.payload p.mem }) s
    else s.each (bitList 8 i.mask) (fun n s => sramLoad n i.load i.payload s)
  | 0x12 => s.each (bitList 4 i.mask) (fun n s => modLane n (fun l => { l with
      uc := bankLoad 2048 0 i l.uc
      ucHead := Store.put none l.ucHead 0 (some (ucHeadOf i)) }) s)
  | 0x13 => modSrc (fun x => { x with
      uc := bankLoad 4096 0 i x.uc
      ucHead := Store.put none x.ucHead 0 (some (ucHeadOf i)) }) s
  | _ => modCave (fun c => { c with sram := putWords i.load i.payload c.sram }) s

/-- R359: the required kinds are there: lane microcode for all lanes, and Serac microcode. -/
def bundleWhole (b : Boot) : Bool :=
  b.imgs.any (fun i => i.kind = 0x12 && i.mask % 16 = 15) && b.imgs.any (fun i => i.kind = 0x13)

/-- R357, R362, R363: slot `slot` fails with `code`: 0 and 1 are slots A and B of QSPI0, 2 a host bundle. -/
def slotFail (slot code : Nat) (us : List Nat) (s : State) : State :=
  let s := s.wr SYS_BOOT_STS.ERR code
  let s := modBoot (fun b => { b with imgs := [], slot := none, reading := false, failed := b.failed ++ [slot] }) s
  if slot = 2 then waitHost us s
  else if !(s.boot.failed.contains 0 && s.boot.failed.contains 1) then s
  else if s.rd SYS_BOOT_STS.SRC = 2 then bootFailed us s
  else waitHost us (modBoot (fun b => { b with qspiFailed := true }) s)

/-- Every image of the bundle has passed: what it allows (R364) and where it came from. -/
def bundleDone (slot : Nat) (us : List Nat) (s : State) : State :=
  let low := s.boot.imgs.foldl (fun n i => min n i.svn) 64
  let s := (s.wr SYS_SVN_CTL.MAX low).wr SYS_BOOT_STS.SLOT (if slot = 1 then 1 else 0)
  let s := s.put SYS_BOOT_STS.FALLBACK (slot = 2 && s.boot.qspiFailed)
  bootAdvance us (modBoot (fun b => { b with loaded := true, reading := false }) s)

/-- R357: the QSPI0 slot that the ROM tries first, by the SEQ of the directories with a valid CRC: the higher, A when they are equal or
neither is valid. -/
def slotFirst (d : Option Nat × Option Nat) : Nat :=
  match d.1, d.2 with
  | some a, some b => if a < b then 1 else 0
  | none, some _ => 1
  | _, none => 0

/-- R357, R362: the ROM may read slot `slot` now, the directories of QSPI0 being `d`: its turn has come, it has not failed, and no other is
being read. -/
def slotOpen (s : State) (d : Option Nat × Option Nat) (slot : Nat) : Bool :=
  let st := s.rd SYS_BOOT_STS.STAGE
  let a := slotFirst d
  3 ≤ st && st ≤ 5 && !s.boot.loaded && (s.boot.slot = none || s.boot.slot = some slot)
    && (if slot = 2 then s.boot.reading
      else s.rd SYS_BOOT_STS.SRC != 1 && !s.boot.reading && !s.boot.failed.contains slot && (slot = a || s.boot.failed.contains a))

/-- R355: the store that an image goes to has been zeroed: policy images wait for the end of SRAM initialisation. DESIGN CHOICE (log entry
29): the spec times the others from the start of INIT. -/
def storeReady (s : State) (i : Image) : Bool := i.kind != 0x11 || s.flag SYS_SRAM_STS.DONE

/-- R357 to R363: image `ix` of slot `slot` has been read and checked; `last`: it is the last of the bundle; `fail`: 9 the slot has no
directory, 11 it could not be read, 0 neither; `seqA`, `seqB`: SEQ of the directories of QSPI0 whose CRC is valid, as the ROM first reads
them. -/
def execImageCheckComplete (slot : Fin 3) (ix : Fin 8) (last : Bool) (fail : Nat) (seqA seqB : Option Nat) (img : Image) (us : List Nat)
    (s : State) : Result :=
  let d := s.boot.dirs.getD (seqA, seqB)
  let bare : Bool := (slot = 0 && d.1.isNone) || (slot = 1 && d.2.isNone)
  let fail := if bare then 9 else fail
  if !slotOpen s d slot || (fail = 0 && !storeReady s img) then .next s
  else
    let s := modBoot (fun b => { b with dirs := some d }) s
    let s := if s.boot.slot = none then
        modBoot (fun b => { b with slot := some slot.val, imgs := [] }) (s.each (List.range 8) (fun i s =>
          (((s.wr (SYS_IMG_STS.KIND i) 0).wr (SYS_IMG_STS.RESULT i) 0).put (SYS_IMG_STS.MEASURED i) false).wr (SYS_IMG_STS.VER i) 0))
      else s
    if fail = 9 || fail = 11 then .next (slotFail slot fail us s)
    else
      let why := imageWhy s (img.kind = 0x10 || img.kind = 0x11 || img.kind = 0x12 || img.kind = 0x13) img
      let s := (((s.wr (SYS_IMG_STS.KIND ix) img.kind).wr (SYS_IMG_STS.RESULT ix) why).put (SYS_IMG_STS.MEASURED ix) (why = 0)).wr
        (SYS_IMG_STS.VER ix) img.ver
      if why != 0 then .next (slotFail slot why us s)
      else
        let b : BootImg := ⟨img.kind, img.shared, img.mask, img.ver, img.svn, img.entry, sha512 (imagePayload img)⟩
        let s := modBoot (fun x => { x with imgs := x.imgs ++ [b] }) (imagePlace img s)
        if !last then .next s
        else if bundleWhole s.boot then .next (bundleDone slot us s)
        else .next (slotFail slot 10 us s)

/-! Release -/

/-- R365: what one verified image releases. -/
def imageRelease (i : BootImg) (s : State) : State :=
  match i.kind with
  | 0x11 =>
    if i.shared then s.wr PCR_SHARED_IMG.VER i.ver
    else
      let s := s.each (bitList 8 i.mask) (fun n s => coreStart n (coreImage n i.ver i.entry s))
      s.wr SYS_REL_STS.CORES (s.rd SYS_REL_STS.CORES ||| i.mask % 256)
  | 0x12 =>
    let s := s.each (bitList 4 i.mask) (fun n s => (s.wr (MAC_LS_STS.BANK n) 0).wr (MAC_LS_VER.ACTIVE n) i.ver)
    s.wr SYS_REL_STS.LANES (s.rd SYS_REL_STS.LANES ||| i.mask % 16)
  | 0x13 => ((s.wr SRC_STS.UC_BANK 0).wr SRC_UC_VER.ACTIVE i.ver).put SYS_REL_STS.SERAC true
  | _ => s

/-- R365: stage 7 ends: the engines are released, and the boot is done. -/
def execBootRelease (us : List Nat) (t : Nat) (s : State) : Result :=
  if s.rd SYS_BOOT_STS.STAGE != 7 then .next s
  else
    let s := (s.at t).each s.boot.imgs imageRelease
    let s := bootStage 8 (usOf us 8) ((s.wr SYS_MODE_STS.CUR 1).wr SYS_BOOT_TIME.US (min (usOf us 8) 0xFFFFFF))
    let s := raise Irq.SYS_BOOT_DONE { s with flt := { s.flt with doneAt := s.rc } }
    match s.boot.mode with
    | none => .next s
    | some m => .next (modeRequest m (modBoot (fun b => { b with mode := none }) s))

/-- R362: the DMA read of a host bundle starts once GO is written and Bus Master Enable is set. -/
def hostStart (us : List Nat) (s : State) : State :=
  if !s.boot.go || !s.flag HIF_STS.BME then s
  else
    let s := modBoot (fun b => { b with host := true, go := false, reading := true, slot := none, imgs := [] }) s
    bootAdvance us (bootStage 5 (usOf us 5) s)

/-- R362, R363: SYS_PCIE_BOOT_CTL.GO is written in WAIT_HOST, or in BOOT_FAIL with PCIe trained. -/
def execSysPcieBootGo (us : List Nat) (s : State) : Result :=
  let st := s.rd SYS_BOOT_STS.STAGE
  if st = 10 || (st = 11 && s.flag HIF_STS.LINK_UP) then
    let s := if st = 11 && rawSet s 0 then faultEnd 0 s else s
    .next (hostStart us (modBoot (fun b => { b with go := true }) s))
  else .next s

/-- The host writes Bus Master Enable and MSI-X Enable of the PCIe function (R301, HIF_STS); a host boot that waits for it starts (R362). -/
def execPcieBusMasterEnable (on msix : Bool) (us : List Nat) (t : Nat) (s : State) : Result :=
  .next (hostStart us (((s.at t).put HIF_STS.BME on).put HIF_STS.MSIX_EN msix))

/-! SVN, life cycle, fuses -/

/-- R364: SYS_SVN_CTL is written. -/
def execSvnProgram (target : Nat) (go : Bool) (t : Nat) (s : State) : Result :=
  let s := s.at t
  if s.flag SYS_SVN_CTL.BUSY then .next s
  else
    let s := s.wr SYS_SVN_CTL.TARGET (min target 64)
    let n := s.rd SYS_SVN_CTL.TARGET
    if !go then .next s
    else if n ≤ s.rd KEY_SVN.SVN || s.rd SYS_SVN_CTL.MAX < n || !lcWorks s then .next (s.put SYS_SVN_CTL.BAD true)
    else .next ((s.put SYS_SVN_CTL.BAD false).put SYS_SVN_CTL.BUSY true)

/-- R364: the last bit is programmed. -/
def execSvnProgramDone (t : Nat) (s : State) : Result :=
  let s := s.at t
  if !s.flag SYS_SVN_CTL.BUSY then .next s
  else
    let s := { s with fuse := { s.fuse with svn := max s.fuse.svn (s.rd SYS_SVN_CTL.TARGET) } }
    .next (raise Irq.SYS_SVN_DONE (s.put SYS_SVN_CTL.BUSY false))

/-- R366: whether life cycle `lc` may be left for `target`, and whether a token is needed; `jtag`: over JTAG by Caursis final test, after
the DUS is programmed. -/
def lcMay (lc target : Nat) (jtag : Bool) : Option Bool :=
  match lc, target with
  | 0x01, 0x02 => if jtag then some false else none
  | 0x02, 0x04 => some false
  | 0x02, 0x08 => some true
  | 0x04, 0x08 => some true
  | 0x01, 0x10 => some false
  | 0x02, 0x10 => some false
  | 0x08, 0x10 => some false
  | 0x04, 0x10 => some true
  | _, _ => none

/-- What a token signs (R367). -/
def tokenBody (s : State) (target : Nat) : List Nat :=
  ascii "FGB-LC" ++ [target % 256] ++ leOctets 8 (rootEui s) ++ leOctets 4 (s.rd SYS_LC_NONCE.NONCE)

/-- R367: the token in SYS_LC_TOKEN verifies under the Caursis key, or under the owner key when it is fused. -/
def tokenOk (s : State) (target : Nat) : Bool :=
  let token := (List.range 16).flatMap (fun i => leOctets 4 (s.rd (SYS_LC_TOKEN.T i)))
  (s.fuse.ownerDone && edVerify (ownerPub s) (tokenBody s target) token) || edVerify caursisPub (tokenBody s target) token

/-- R366, R367: SYS_LC_REQ is written; `jtag`: over JTAG. PROVISION needs a DUS that has been programmed. -/
def execLcRequest (jtag : Bool) (key target t : Nat) (s : State) : Result :=
  let s := s.at t
  if key != 0x4C43 then .next s
  else
    match lcMay (lcOf s) target jtag with
    | none => .next (s.wr SYS_LC_STS.RESULT 3)
    | some need =>
      if target = 2 && s.fuse.dus = 0 then .next (s.wr SYS_LC_STS.RESULT 3)
      else if need && !tokenOk s target then .next (s.wr SYS_LC_STS.RESULT 2)
      else .next (raise Irq.SYS_LC_PEND ((s.wr SYS_LC_STS.RESULT 1).wr SYS_LC_STS.PEND target))

/-- R369: group `k` has been programmed already. -/
def fuseDone (s : State) (k : Nat) : Bool := (s.rd SYS_FUSE_STS.DONE).testBit (k - 1)

/-- R369: SYS_FUSE_CTL is written; PROG is ignored outside PROVISION, for a group programmed before, and while one is programmed. -/
def execFuseProgram (target : Nat) (val prog : Bool) (t : Nat) (s : State) : Result :=
  let s := s.at t
  if s.flag SYS_FUSE_STS.BUSY then .next s
  else
    let s := (s.wr SYS_FUSE_CTL.TARGET target).put SYS_FUSE_CTL.VAL val
    let k := s.rd SYS_FUSE_CTL.TARGET
    if prog && k != 0 && lcOf s = 2 && !fuseDone s k then .next ((s.put SYS_FUSE_STS.BUSY true).put SYS_FUSE_STS.ERR false)
    else .next s

/-- R369: fuse programming ends. -/
def execFuseProgramDone (ok : Bool) (t : Nat) (s : State) : Result :=
  let s := s.at t
  if !s.flag SYS_FUSE_STS.BUSY then .next s
  else
    let k := s.rd SYS_FUSE_CTL.TARGET
    let s := (s.put SYS_FUSE_STS.BUSY false).put SYS_FUSE_STS.ERR (!ok)
    let s := if !ok then s
      else
        let s := (fuseGroup s).wr SYS_FUSE_STS.DONE (setBit (s.rd SYS_FUSE_STS.DONE) (k - 1))
        let s := (s.put SYS_FUSE_STS.BSCAN_FIELD s.fuse.bscan).wr KEY_RIND_CLASS.FUSE s.fuse.rind
        s.wr KEY_RIND_CLASS.EFF (classA s)
    .next (raise Irq.SYS_FUSE_DONE s)

/-! UCODE_LOAD -/

def opUcodeLoad : Nat := 0x41

/-- R375: the target can take no image now: its swap is armed, a policy core is neither OFF nor HELD, or another load holds it. -/
def ucBusy (s : State) (k : Nat) (held : Bool) : Bool :=
  held || (if k < 4 then s.flag (MAC_LS_SWAP.ARM k) else if k = 4 then s.flag SRC_UC_CTL.ARM
    else coreState s (k - 8) != 0 && coreState s (k - 8) != 2)

/-- R375: the kind that target `k` takes. -/
def ucKind (k : Nat) (i : Image) : Bool :=
  if k < 4 then i.kind = 0x12 else if k = 4 then i.kind = 0x13 else i.kind = 0x11 && !i.shared

/-- R375: an accepted image is in its place. -/
def ucPlace (k : Nat) (i : Image) (s : State) : State :=
  if k < 4 then
    let b := 1 - s.rd (MAC_LS_STS.BANK k)
    (modLane k (fun l => { l with
      uc := bankLoad 2048 b i l.uc
      ucBad := false
      ucHead := Store.put none l.ucHead b (some (ucHeadOf i)) }) s).wr (MAC_LS_VER.INACTIVE k) i.ver
  else if k = 4 then
    let b := 1 - s.rd SRC_STS.UC_BANK
    (modSrc (fun x => { x with
      uc := bankLoad 4096 b i x.uc
      ucBad := false
      ucHead := Store.put none x.ucHead b (some (ucHeadOf i)) }) s).wr SRC_UC_VER.INACTIVE i.ver
  else coreGo (k - 8) 2 (coreImage (k - 8) i.ver i.entry (sramLoad (k - 8) i.load i.payload (sramZero (k - 8) s)))

/-- R373, R375: a refused image: an inactive bank is unusable; a policy core is OFF, its SRAM zeroed. -/
def ucSpoil (k : Nat) (s : State) : State :=
  if k < 4 then modLane k (fun l => { l with ucBad := true }) s
  else if k = 4 then modSrc (fun x => { x with ucBad := true }) s
  else coreGo (k - 8) 0 (sramZero (k - 8) s)

/-- SYS_UC_STS: the outcome of the last UCODE_LOAD (R375, R378). -/
def ucOutcome (k result ver : Nat) (s : State) : State :=
  ((s.wr SYS_UC_STS.TARGET k).wr SYS_UC_STS.RESULT result).wr SYS_UC_STS.VER ver

/-- UCODE_LOAD (R375); `held`: a UCODE_LOAD from another ring holds the target (R377); `us`: how long the load takes. -/
def execUcodeLoad (ring : Fin 8) (hd : CmdHead) (target len : Nat) (img : Image) (held : Bool) (us t : Nat) (s : State) : Result :=
  withCmd ring (fun s =>
    if lcOf s = 0x10 then cmdPlain ring opUcodeLoad hd.tag 0xF3 s
    else if !(target ≤ 4 || (8 ≤ target && target ≤ 15)) || len < 192 || 262336 < len || hd.len != 0 then
      cmdPlain ring opUcodeLoad hd.tag 0xF1 s
    else if locBad s (64 + ring) hd.addr len then cmdDma ring opUcodeLoad hd.tag hd.addr s
    else if ucBusy s target held then cmdPlain ring opUcodeLoad hd.tag 7 (ucOutcome target 7 0 s)
    else
      let core := 8 ≤ target
      let s := if core then s.wr (PCR_C_RELOAD_LAST.US (target - 8)) us else s
      match imageWhy s (ucKind target img) img with
      | 0 =>
        let s := ucOutcome target 0 img.ver (mrtExtend img (ucPlace target img s))
        let s := s.when core (fun s => (s.inc PCR_RELOADS).inc SYS_PC_RELOADS)
        cmdDone ring opUcodeLoad hd.tag 0 img.ver img.svn 0 [] false (raise Irq.SYS_UC_LOADED (s.inc SYS_UCODE_LOADS))
      | k => cmdPlain ring opUcodeLoad hd.tag k (raise Irq.SYS_UC_REJECT ((ucOutcome target k 0 (ucSpoil target s)).inc SYS_UCODE_REJECTS))) (s.at t)

end Sys2Proof.Machine
end

