-- ==== Sys2Proof/Machine/Cave.lean ====
section
/-!
DEFINITION. The Cave's commands (R346), the Rind (R337), the answers and restores of R340 to R344, the Brine and the random generator.
-/

namespace Sys2Proof.Machine

/-! Commands -/

/-- Opcodes of R346. -/
def opKeyGen : Nat := 0x60
def opKeyImport : Nat := 0x61
def opAttest : Nat := 0x62
def opAliasCert : Nat := 0x63
def opTlogAck : Nat := 0x64

/-- `n` fresh keys of 16 octets from the random generator (R322, R330). -/
def freshKeys (n : Nat) (s : State) : List (List Nat) × State :=
  ((List.range n).map (fun i => leOctets 16 (Config.freeValue (s.freeCtr + i))), { s with freeCtr := s.freeCtr + n })

/-- R330: the first KEY_GEN or KEY_IMPORT after KEY_HOSTPUB is written derives HTK. -/
def htkReady (s : State) : State := if s.flag KEY_STS.HTK_READY then s else htkDerive s

/-- R343: a key command meets a trip: it counts as aborted and completes with 0xF4. -/
def keyAborted (ring op tag : Nat) (s : State) : State := cmdPlain ring op tag 0xF4 (s.inc KEY_ABORTS)

/-- R289, R330, R344, R346: what KEY_GEN and KEY_IMPORT check first: a refusal, or 0. -/
def htkPre (s : State) (count : Nat) : Nat :=
  if !lcWorks s then 0xF3 else if count = 0 || 256 < count then 0xF1 else if caveDown s then 0xF4 else if hostpubZero s then 12 else 0

/-- KEY_GEN (R330, R346): `count` keys, each wrapped under KTK and under HTK; `abort`: a trip meets it. -/
def execKeyGen (ring : Fin 8) (hd : CmdHead) (count : Nat) (abort : Bool) (t : Nat) (s : State) : Result :=
  withCmd ring (fun s =>
    match htkPre s count with
    | 0 =>
      if !s.flag KEY_RNG_STS.OK then cmdPlain ring opKeyGen hd.tag 13 s
      else if abort then keyAborted ring opKeyGen hd.tag s
      else
        let (keys, s) := freshKeys count ((htkReady s).inc KEY_GEN_OPS)
        cmdData ring opKeyGen hd count 0 (keys.flatMap (fun k => wrapWords (keyClose s 0 k) ++ wrapWords (keyClose s 1 k))) s
    | k => cmdPlain ring opKeyGen hd.tag k s) (s.at t)

/-- KEY_IMPORT (R330, R346): `keys`: the 24-octet values in the data, wrapped under HTK. -/
def execKeyImport (ring : Fin 8) (hd : CmdHead) (count : Nat) (keys : List Nat) (abort : Bool) (t : Nat) (s : State) : Result :=
  withCmd ring (fun s =>
    match htkPre s count with
    | 0 =>
      withData ring opKeyImport hd (24 * count) (fun s =>
        if abort then keyAborted ring opKeyImport hd.tag s
        else
          let s := (htkReady s).inc KEY_IMPORT_OPS
          let l := (List.range count).map (fun i => keyOpen s 1 (keys.getD i 0))
          match (List.range count).find? (fun i => (l.getD i none).isNone) with
          | some i => cmdDone ring opKeyImport hd.tag 10 i 0 0 [] false (s.inc KEY_UNWRAP_FAIL)
          | none => cmdData ring opKeyImport hd 0 0 (l.flatMap (fun k => wrapWords (keyClose s 0 (k.getD [])))) s) s
    | k => cmdPlain ring opKeyImport hd.tag k s) (s.at t)

/-- SYS_ID (R7). -/
def sysId (s : State) : Nat := s.rd SYS_ID.STEP + s.rd SYS_ID.GRADE * 2 ^ 8 + s.rd SYS_ID.PART * 2 ^ 16

/-- The first 0x1C octets of an Alias certificate or a report (R326, R327), from its MAGIC. -/
def certHead (s : State) (magic : Nat) : List Nat :=
  [magic, 1 + lcOf s * 2 ^ 16, sysId s, s.rd KEY_SVN.SVN, s.rd MAC_EUI_LO.EUI, s.rd MAC_EUI_HI.EUI, s.rd KEY_BOOTCNT.COUNT]

/-- The Alias public key, as words. -/
def aliasPub (s : State) : List Nat := (List.range 8).map (fun i => s.rd (KEY_ALIAS_PUB.K i))

/-- TAMPER of R327. -/
def tamperWord (s : State) : Nat :=
  s.rd KEY_TAMPER_STS.TOTAL + s.rd KEY_TAMPER_STS.UNACK * 2 ^ 16 + ofBool s.cel.classA * 2 ^ 21
    + s.rd KEY_STS.CELLAR_NEW * 2 ^ 22 + s.rd KEY_TAMPER_STS.LOG_FULL * 2 ^ 23

/-- The report of R327 up to its signature. -/
def reportWords (s : State) (nonce : List Nat) : List Nat :=
  certHead s 0x41424746 ++ [tamperWord s] ++ (List.range 8).map (fun i => nonce.getD i 0 % 2 ^ 32) ++ mBoot s ++ mRt s
    ++ [s.tsuFrac, s.tsuSec % 2 ^ 32, s.tsuSec / 2 ^ 32 + s.rd SEC_JNL_CFG.DOMAIN * 2 ^ 16, 0] ++ aliasPub s ++ [0, 0, 0, 0]

/-- The Alias certificate of R326. -/
def certWords (s : State) : List Nat := certHead s 0x43424746 ++ [0] ++ aliasPub s ++ mBoot s ++ (List.range 16).map (fun i => s.cave.certSig.getD i 0)

/-- PROVISION, FIELD or RETURN. -/
def lcAttests (s : State) : Bool := lcWorks s || lcOf s = 8

/-- ATTEST (R327, R346). -/
def execAttest (ring : Fin 8) (hd : CmdHead) (nonce : List Nat) (abort : Bool) (t : Nat) (s : State) : Result :=
  withCmd ring (fun s =>
    if !lcAttests s then cmdPlain ring opAttest hd.tag 0xF3 s
    else if hd.len < 320 then cmdPlain ring opAttest hd.tag 0xF1 s
    else if caveDown s then cmdPlain ring opAttest hd.tag 0xF4 s
    else if abort then keyAborted ring opAttest hd.tag s
    else
      withData ring opAttest hd 320 (fun s =>
        let r := reportWords s nonce
        let sig := octetWords (edSign ((slotKey s 3 32).getD []) (wordOctets r))
        cmdData ring opAttest hd 0 0 (r ++ sig) ((s.inc KEY_ATTESTS).inc KEY_ALIAS_SIGNS)) s) (s.at t)

/-- ALIAS_CERT (R326, R346). -/
def execAliasCert (ring : Fin 8) (hd : CmdHead) (t : Nat) (s : State) : Result :=
  withCmd ring (fun s =>
    if lcAttests s then cmdData ring opAliasCert hd 0 0 (certWords s) s else cmdPlain ring opAliasCert hd.tag 0xF3 s) (s.at t)

/-- TLOG_ACK (R346). -/
def execTlogAck (ring : Fin 8) (tag mask t : Nat) (s : State) : Result :=
  withCmd ring (fun s =>
    if lcOf s = 0x10 then cmdPlain ring opTlogAck tag 0xF3 s
    else
      let s := tlogAck mask 3 s
      cmdDone ring opTlogAck tag 0 (s.rd KEY_TAMPER_STS.UNACK) 0 0 [] false s) (s.at t)

/-! The Rind -/

/-- Sensor `k` is enabled. -/
def sensorOn (s : State) (k : Nat) : Bool := (s.rd KEY_RIND_EN.EN).testBit k

/-- A run of DEB mismatching samples ends with this one (R337, KEY_RIND_CFG.DEB). -/
def debReached (s : State) (k : Nat) : Bool := Store.find 0 s.cel.deb k + 1 = s.rd KEY_RIND_CFG.DEB + 1

/-- The run of mismatching samples of sensor `k` grows or ends. -/
def debStep (bad : Bool) (k : Nat) (s : State) : State :=
  modCel (fun c => { c with deb := Store.put 0 c.deb k (if bad then Store.find 0 c.deb k + 1 else 0) }) s

/-- RC moves on while the core is powered. -/
def celAt (t : Nat) (s : State) : State := if powered s then s.at t else s

/-- R337: the loop and switch sensors are due for a sample: every PER_ACT, 10 µs, while the core is powered, every PER_SLEEP, ms, while it is
not. -/
def rindDue (s : State) : Bool :=
  if powered s then s.reached (s.cave.rindAt + s.rd KEY_RIND_CFG.PER_ACT * 10000) else celPassed s s.cel.rindAt (s.rd KEY_RIND_CFG.PER_SLEEP)

/-- R337: the Rind samples when it is due: `mismatch`: bits 0 to 2 LID, RIND_A and RIND_B, bit 6 TEMP; the level of CASE. `keyOp`: a key command is using a
key. -/
def execRindSample (mismatch : Nat) (caseLevel keyOp : Bool) (t : Nat) (s : State) : Result :=
  if s.cel.off = 4 then .next s
  else if !rindDue (celAt t s) then .next (celAt t s)
  else
    let s := modCel (fun c => { c with rindAt := c.ticks }) (modCave (fun c => { c with rindAt := (celAt t s).rc }) (celAt t s))
    let s := s.put CEL_PIN_STS.CASE caseLevel
    let bad (k : Nat) : Bool := if k = 3 then caseLevel != s.flag KEY_RIND_CFG.CASE_POL else mismatch.testBit k
    let l := [0, 1, 2, 3, 6].filter (fun k => sensorOn s k)
    let s := s.wr KEY_RIND_STS.RAW ((l.filter bad).foldl setBit 0)
    let hit := l.filter (fun k => bad k && debReached s k)
    .next (rindTrip hit keyOp (s.each l (fun k s => debStep (bad k) k s)))

/-- R336, R337: a reference that sensor 5 watches has been accepted; without core power only the crystal is watched. -/
def clkWatched (s : State) : Bool := s.cel.xtalOk || (powered s && s.cave.tcxoOk)

/-- R337: VGLITCH (4), CLK (5) and LOCKSTEP (7) trip at their first detection; a detection of TEMP (6) is one mismatching sample. -/
def execSensorDetect (sensor : Fin 8) (keyOp : Bool) (t : Nat) (s : State) : Result :=
  let k := sensor.val
  if k < 4 || s.cel.off = 4 || ((k = 4 || k = 7) && !powered s) || (k = 5 && !clkWatched s) then .next s
  else
    let s := celAt t s
    let s := s.wr KEY_RIND_STS.RAW (setBit (s.rd KEY_RIND_STS.RAW) k)
    let s := if k = 7 then raise Irq.KEY_LOCKSTEP (s.inc KEY_LOCKSTEP_ERR) else s
    if k = 6 then .next (rindTrip ([6].filter (debReached s)) keyOp (debStep true 6 s))
    else .next (rindTrip [k] keyOp s)

/-- R340: KEY_TAMPER_ACK is written: 0xACED in HOLD acknowledges, and the ROM restarts at stage 1; with a class A entry pending, the change
to RETURN comes first. -/
def execKeyTamperAckWrite (code : Nat) (us : List Nat) (s : State) : Result :=
  if code != 0xACED || s.rd KEY_STS.STATE != 1 || !powered s then .next s
  else
    let s := (tlogAck 0xFFFF 1 s).put KEY_TAMPER_STS.LATCHED false
    let s := if s.cel.returnDue then lcProgram 8 s else s
    .next (bootCheck 8 us s)

/-! Derivation and restore -/

/-- The seed of the Alias key (R323): CDI0, CDI1 from the boot measurement, then the seed. -/
def aliasSeed (s : State) : List Nat :=
  let cdi0 := dusKdf s "FGB-CDI0" (lck s :: leOctets 4 (sysId s)) 64
  let cdi1 := kdf cdi0 (ascii "FGB-CDI1") (wordOctets (mBoot s) ++ leOctets 4 (s.rd KEY_SVN.SVN)) 64
  kdf cdi1 (ascii "FGB-ALIAS") (leOctets 8 (rootEui s)) 32

/-- The slots that derivation fills (R319, R323): none in BLANK, and no KTK in RETURN. -/
def slotsDerive (s : State) : State :=
  if !lcAttests s then s
  else
    let s := if lcWorks s then slotFill 0 3 (leNat (ktkOf s)) s else s
    let s := slotFill 2 5 (leNat (dusKdf s "FGB-IDEV" [lck s] 32)) s
    slotFill 4 7 (leNat (xchgOf s)) (slotFill 3 5 (leNat (aliasSeed s)) s)

/-- A public key is published in eight registers. -/
def pubPut (f : Nat → Fld) (key : List Nat) (s : State) : State :=
  s.each (List.range 8) (fun i s => s.wr (f i) ((octetWords key).getD i 0))

/-- R324, R361: M_BOOT is published: it starts as 64 zero octets, and each image verified at this boot extends it, in the order 0x10, 0x13,
0x12, then 0x11 in the order they stand in. -/
def bootMeasured (s : State) : State :=
  let l := [0x10, 0x13, 0x12, 0x11].flatMap (fun k => s.boot.imgs.filter (fun i => i.kind = k))
  let m := octetWords (l.foldl (fun m i => measure m i.digest) (List.replicate 64 0))
  s.each (List.range 16) (fun i s => s.wr (KEY_MEAS.M i) (m.getD i 0))

/-- R325, R326: the public keys are published, and the identity key signs the Alias certificate. -/
def identityPublish (s : State) : State :=
  if !lcAttests s then s
  else
    let seed := (slotKey s 2 32).getD []
    let s := pubPut KEY_IDENT_PUB.K (edPublic seed) s
    let s := pubPut KEY_ALIAS_PUB.K (edPublic ((slotKey s 3 32).getD [])) s
    let s := (pubPut KEY_XCHG_PUB.K (x25519 ((slotKey s 4 32).getD []) (leOctets 32 9)) s).inc KEY_IDENT_SIGNS
    let body := certHead s 0x43424746 ++ [0] ++ aliasPub s ++ mBoot s
    modCave (fun c => { c with certSig := octetWords (edSign seed (wordOctets body)) }) s

/-- R340, R421: derivation ends: the Cave enters RUN, and the ROM stage 7. -/
def execDeriveComplete (us : List Nat) (s : State) : Result :=
  if s.rd KEY_STS.STATE != 2 || s.rd SYS_BOOT_STS.STAGE != 6 then .next s
  else .next (bootStage 7 (usOf us 7) (roleHold (ptkDerive (caveGo 3 (identityPublish (slotsDerive (bootMeasured s)))))))

/-- R343: the restore after a class B wipe ends. -/
def execCaveRestoreComplete (t : Nat) (s : State) : Result :=
  let s := s.at t
  if s.rd KEY_STS.STATE != 4 then .next s
  else
    let s := slotsDerive s
    let s := if lcWorks s && !hostpubZero s then htkDerive s else s
    .next (raise Irq.KEY_RESTORED ((caveGo 3 s).inc KEY_RESTORES))

/-! The Brine and the random generator -/

/-- R333: the time from one visit of the Brine to the next, ns: a pass over 4,096 entries and 32 slots takes PERIOD_MS. -/
def brineGap (s : State) : Nat := s.rd KEY_BRINE_CFG.PERIOD_MS * 1000000 / 4128

/-- R333: one visit of the Brine, when it is due: the entry is re-masked. A busy entry is counted and visited again after the next one; a pass
ends with the last slot. -/
def execBrineVisit (busy : Bool) (t : Nat) (s : State) : Result :=
  let s := s.at t
  if !s.flag KEY_CFG.BRINE_EN || !s.flag KEY_RNG_STS.OK || !(s.cave.brineRetry || s.reached (s.cave.brineLast + brineGap s)) then .next s
  else
    let s := s.when busy (fun s => s.inc KEY_BRINE_SKIP)
    let c := s.cave
    let p := if c.brineRetry then c.brineBack.headD 0 else s.rd KEY_BRINE_STS.POS
    let s := if busy then s else brineMask p s
    if c.brineRetry then
      .next (modCave (fun c => { c with brineRetry := false, brineBack := if busy then c.brineBack else c.brineBack.drop 1 }) s)
    else
      let s := modCave (fun c => { c with
        brineLast := s.rc
        brineRetry := !c.brineBack.isEmpty
        brineBack := if busy then c.brineBack ++ [p] else c.brineBack }) s
      if p + 1 < 4128 then .next (s.wr KEY_BRINE_STS.POS (p + 1))
      else
        let s := ((s.wr KEY_BRINE_STS.POS 0).inc KEY_BRINE_PASSES).wr KEY_BRINE_STS.LAST_MS (min ((s.rc - c.brineAt) / 1000000) 65535)
        .next (modCave (fun c => { c with brineAt := s.rc }) s)

/-- The generator serves or not (R322). -/
def rngServe (ok : Bool) (s : State) : State := ((s.put KEY_RNG_STS.OK ok).put KEY_STS.RNG_OK ok).put KEY_RNG_STS.HEALTH_FAIL (!ok)

/-- R322: a health test fails or passes; after 1,024 consecutive passes a failed generator serves again. -/
def execRngHealthTest (ok : Bool) (t : Nat) (s : State) : Result :=
  let s := s.at t
  if !ok then
    let s := modCave (fun c => { c with rngPass := 0 }) ((rngServe false s).addSat KEY_RNG_STS.FAILS 1)
    let s := raise Irq.KEY_RNG_FAIL (s.inc KEY_RNG_FAIL)
    .next (if rawSet s 129 then s else faultBegin 129 { master := 14 } s)
  else if !s.flag KEY_RNG_STS.HEALTH_FAIL then .next s
  else if s.cave.rngPass + 1 < 1024 then .next (modCave (fun c => { c with rngPass := c.rngPass + 1 }) s)
  else .next (faultEnd 129 (rngServe true (modCave (fun c => { c with rngPass := 0 }) s)))

/-- R330: a KEY_HOSTPUB word is written: HTK is not valid any more. A locked write is ignored (R12). -/
def execKeyHostpubWrite (word : Fin 8) (value : Word) (t : Nat) (s : State) : Result :=
  let s := s.at t
  .next (if s.flag SYS_CFG_LOCK.LOCK then s else htkDrop (s.wr (KEY_HOSTPUB.K word) value.toNat))

end Sys2Proof.Machine
end

