-- ==== Sys2Proof/Machine/ShapeOps.lean ====
section
/-!
DEFINITION. Meters and downlink queueing (R220 to R231): classes, the Ward marker and the Ward shaper, class queues, the per-node shaper
with its calendar and fall-back.
-/

namespace Sys2Proof.Machine

/-- R220: class and pre-colour (yellow) of DSCP `d`. -/
def dscpClass (s : State) (d : Nat) : Nat × Bool :=
  let i := d % 64 / 8
  let l := [(QMS_DSCP_MAP.CLASS_0 i, QMS_DSCP_MAP.YEL_0 i), (QMS_DSCP_MAP.CLASS_1 i, QMS_DSCP_MAP.YEL_1 i),
    (QMS_DSCP_MAP.CLASS_2 i, QMS_DSCP_MAP.YEL_2 i), (QMS_DSCP_MAP.CLASS_3 i, QMS_DSCP_MAP.YEL_3 i),
    (QMS_DSCP_MAP.CLASS_4 i, QMS_DSCP_MAP.YEL_4 i), (QMS_DSCP_MAP.CLASS_5 i, QMS_DSCP_MAP.YEL_5 i),
    (QMS_DSCP_MAP.CLASS_6 i, QMS_DSCP_MAP.YEL_6 i)]
  let f := l.getD (d % 8) (QMS_DSCP_MAP.CLASS_7 i, QMS_DSCP_MAP.YEL_7 i)
  (s.rd f.1, s.flag f.2)

/-! Ward meters. Fills are in 10^−6 bit: a rate of 1 kb/s adds 1 of them in 1 ns. -/

/-- A burst of `n` times 64 octets. -/
def burstOf (n : Nat) : Int := (n * 64 * 8 * 1000000 : Nat)

/-- A packet of `n` octets. -/
def meterBits (n : Nat) : Int := (n * 8 * 1000000 : Nat)

/-- A bucket's fill brought up to RC `t`: at reset it is full; it never holds more than the burst (R221, R224, R230). -/
def bucketFill (fresh : Bool) (fill : Int) (since t rate : Nat) (burst : Int) : Int :=
  if fresh then burst else min burst (fill + (rate * (t - since) : Nat))

/-- The Ward marker of index `i` (w × 8 + c) brought up to RC (R221). -/
def markerNow (s : State) (i : Nat) : Bucket :=
  let b : Bucket := Store.find {} s.qms.marker i
  { fresh := false
    c := bucketFill b.fresh b.c b.at_ s.rc (s.rd (SHP_WPOL_RATE.CIR i)) (burstOf (s.rd (SHP_WPOL_BURST.CBS i)))
    p := bucketFill b.fresh b.p b.at_ s.rc (s.rd (SHP_WPOL_RATE.PIR i)) (burstOf (s.rd (SHP_WPOL_BURST.PBS i)))
    at_ := s.rc }

/-- The Ward shaper of index `i` brought up to RC (R224). -/
def shaperNow (s : State) (i : Nat) : Bucket :=
  let b : Bucket := Store.find {} s.qms.shaper i
  { fresh := false, c := bucketFill b.fresh b.c b.at_ s.rc (s.rd (SHP_WDS.RATE i)) (burstOf (s.rd (SHP_WDS.BURST i))), at_ := s.rc }

/-- Write a marker, or a shaper. -/
def setMarker (i : Nat) (b : Bucket) (s : State) : State := { s with qms := { s.qms with marker := Store.put {} s.qms.marker i b } }
def setShaper (i : Nat) (b : Bucket) (s : State) : State := { s with qms := { s.qms with shaper := Store.put {} s.qms.shaper i b } }

/-- R221: the colour of a packet of `n` octets in Ward `w`, class `c`: 0 green, 1 yellow, 2 red (RFC 2698). -/
def wardMark (w c n : Nat) (yel : Bool) (s : State) : Nat × State :=
  let i := w * 8 + c
  if !s.flag SHP_CFG.EN then (0, s)
  else if s.rd (SHP_WPOL_RATE.PIR i) = 0 then (0, s.inc SHP_WPOL_GREEN)
  else
    let b := markerNow s i
    let bits := meterBits n
    let pre := yel && (s.rd SHP_WPOL_MODE.AWARE).testBit w
    if b.p < bits then (2, raise Irq.SHP_RED ((setMarker i b s).inc SHP_WPOL_RED))
    else if pre || b.c < bits then (1, (setMarker i { b with p := b.p - bits } s).inc SHP_WPOL_YELLOW)
    else (0, (setMarker i { b with p := b.p - bits, c := b.c - bits } s).inc SHP_WPOL_GREEN)

/-! Class queues -/

/-- The uplink class queue of Ward `w`, class `c`, and its change. -/
def upQOf (s : State) (w c : Nat) : List UpPacket := Store.find [] s.qms.upQ (w * 8 + c)
def setUpQ (w c : Nat) (l : List UpPacket) (s : State) : State := { s with qms := { s.qms with upQ := Store.put [] s.qms.upQ (w * 8 + c) l } }

/-- R222: a green or yellow packet meets the limits of its uplink class queue; a refused one gives its curds back. -/
def upEnqueue (p : UpPacket) (s : State) : State :=
  let i := p.ward * 8 + p.cls
  let n := s.rd (QMS_CQ.CURDS i) + p.curds.length
  if s.rd (QMS_W_LIM_UP.CQ_MAX p.ward) < n then poolGive 1 p.curds.length (s.whey 28)
  else if p.yellow && s.rd (QMS_W_LIM_UP.YEL_MAX p.ward) < n then poolGive 1 p.curds.length (s.whey 29)
  else cqAdd i p.curds.length (setUpQ p.ward p.cls (upQOf s p.ward p.cls ++ [p]) s)

/-- Every frame of a packet goes to the Whey with reason `code` (R216). -/
def packetWhey (code : Nat) (p : Packet) (s : State) : State := s.each p.frames (frameWhey code)

/-- R223, stage 2: a packet joins its downlink class queue, or finds it full. -/
def downEnqueue (p : Packet) (s : State) : State :=
  let i := downCq p.ward p.cls
  if s.rd (QMS_W_LIM_DN.CQ_MAX p.ward) < s.rd (QMS_CQ.CURDS i) + packetCurds p then packetWhey 28 p s
  else cqAdd i (packetCurds p) (setDownQ p.ward p.cls (downQOf s p.ward p.cls ++ [p]) s)

/-! The per-node shaper and its calendar -/

/-- The calendar's resolution, µs (SHP_CAL_CFG.RES). -/
def calRes (s : State) : Nat := 1000 * 4 ^ s.rd SHP_CAL_CFG.RES

/-- R235: the destination or the link receiver of a packet takes no part any more. -/
def packetGone (s : State) (p : Packet) : Bool := !nodeActive s p.dest || !nodeActive s p.link

/-- R223, stage 5: a packet's frames join the node queue of its link receiver; `hold` is the NOT_BEFORE of the fall-back, in µs. -/
def packetQueue (p : Packet) (hold : Option Nat) (s : State) : State :=
  if packetGone s p then packetWhey 34 p s
  else
    let set (f : QFrame) : QFrame := match hold with
      | some b => { f with hold := true, time := b % 2 ^ 32 }
      | none => { f with time := s.us32 }
    nodeAppend p.link (p.frames.map set) s

/-- SHP_CAL_STS follows the calendar (R213). -/
def setCal (l : List Deferred) (s : State) : State :=
  let s := { s with qms := { s.qms with cal := l } }
  (s.wr SHP_CAL_STS.COUNT l.length).peak SHP_CAL_STS.PEAK l.length

/-- A deferred packet stands behind every packet of the same or an earlier base time (R226). -/
def calInsert (d : Deferred) : List Deferred → List Deferred
  | [] => [d]
  | e :: l => if d.base < e.base then d :: e :: l else e :: calInsert d l

/-- R226: every bucket whose time has come is emptied, in order, into the node queues. -/
def calRelease (s : State) : State :=
  let due := s.qms.cal.filter (fun d => d.base ≤ s.rc / 1000)
  (setCal (s.qms.cal.filter (fun d => s.rc / 1000 < d.base)) s).each due (fun d => packetQueue d.packet none)

/-- R226, R229: a packet waits for its base time (µs of RC): in the calendar, or held in the node queue. -/
def packetDefer (p : Packet) (base : Nat) (s : State) : State :=
  if s.flag SHP_CAL_CFG.EN then setCal (calInsert { base := base, packet := p } s.qms.cal) (s.inc SHP_CAL_INSERTS)
  else packetQueue p (some base) (s.inc SHP_CAL_FALLBACK)

/-- R225: NEXT_ELIG of a record in µs of RC: its 32 bits are taken nearest to now. -/
def eligAbs (s : State) (r : Node) : Int :=
  let now := s.rc / 1000
  let d := (r.nextElig + 2 ^ 32 - now % 2 ^ 32) % 2 ^ 32
  if d < 2 ^ 31 then (now + d : Nat) else (now : Int) + d - 2 ^ 32

/-- Rate and burst of the downlink profile of a record. -/
def dnRate (s : State) (r : Node) : Nat := s.rd (SHP_PROF_RATE.DN r.rateIx)
def dnBurst (s : State) (r : Node) : Nat := s.rd (SHP_PROF_BURST.DN r.burstIx)

/-- R225: what the shaper makes of a packet of `len` octets: none where it would wait longer than MAX_WAIT, else its base time in µs of RC,
NEXT_ELIG in µs of RC, and SHP_TOKENS. -/
def shapeNode (s : State) (r : Node) (len : Nat) : Option (Nat × Nat × Nat) :=
  let now := s.rc / 1000
  let ne := eligAbs s r
  let rate := dnRate s r
  let tok := if ne ≤ now then min (dnBurst s r * 16) (r.shpTokens + rate * (now - ne).toNat * 16 / 1000000) else r.shpTokens
  let base := if ne ≤ now then now else ceilDiv ne.toNat (calRes s) * calRes s
  if s.rd SHP_CAL_CFG.MAX_WAIT * 1000 < base - now then none
  else if len * 16 ≤ tok then some (base, base, tok - len * 16)
  else some (base, base + ceilDiv ((len * 16 - tok) * 1000000) (rate * 16), 0)

/-- R223, stages 3 to 5, for a packet that the Ward shaper has released. -/
def packetShape (p : Packet) (s : State) : State :=
  if packetGone s p then packetWhey 34 p s
  else
    let r := s.node p.dest
    if !s.flag SHP_CFG.EN || dnRate s r = 0 then packetQueue p none s
    else
      (shapeNode s r p.ipLen).elim (packetWhey 32 p (raise Irq.SHP_SHAPE_DROP (s.inc SHP_SHAPE_DROP))) (fun x =>
        let s := s.modNode p.dest (fun r => { r with nextElig := x.2.1 % 2 ^ 32, shpTokens := x.2.2 })
        if x.1 = s.rc / 1000 then packetQueue p none s else packetDefer p x.1 s)

/-- R230: the buckets of a record are reset after a write of RATE_IX or BURST_IX. -/
def nodeMetersReset (nix : Nat) (s : State) : State :=
  let up := if s.flag SHP_CFG.RECONF_UP then 0 else s.rd (SHP_PROF_BURST.UP (s.node nix).burstIx) * 16
  let dn := if s.flag SHP_CFG.RECONF_DN then 0 else dnBurst s (s.node nix) * 16
  s.putNode nix (fun r => { r with polTokens := up, shpTokens := dn, nextElig := s.us32 })

/-! Curds and shared policy memory as they read -/

/-- A curd of the pool (R208). NEXT means nothing in the last curd of a chain, the fields from LEN on nothing but in a frame's first one. -/
structure Curd where
  next : Nat := 0
  first : Bool := false
  last : Bool := false
  len : Nat := 0
  cls : Nat := 0
  ward : Nat := 0
  kind : Nat := 0
  yellow : Bool := false
  enc : Bool := false
  hold : Bool := false
  more : Bool := false
  peer : Nat := 0
  time : Nat := 0
deriving DecidableEq, Repr

/-- The first curd of a queued frame but for its chain. -/
def frameCurd (f : QFrame) : Curd :=
  { len := f.len, cls := f.cls, ward := f.ward, kind := f.kind, enc := f.fc.isSome, hold := f.hold, more := f.more, peer := f.peer, time := f.time }

/-- The same of an uplink packet. -/
def upCurd (p : UpPacket) : Curd :=
  { len := p.frameLen, cls := p.cls, ward := p.ward, yellow := p.yellow, peer := p.nix, time := p.time }

/-- The curds of a chain with their numbers: each points to the one behind it, over the ends of frames (R209). -/
def chainView : List (List Nat × Curd) → List (Nat × Curd)
  | [] => []
  | (ns, c) :: l =>
    let rest := chainView l
    let after : Nat := (rest.head?.map (·.1)).getD 0
    let one (i : Nat) : Nat × Curd :=
      (ns.getD i 0, { (if i = 0 then c else {}) with
        next := (ns.drop (i + 1)).headD after
        first := i = 0
        last := i + 1 = ns.length })
    (List.range ns.length).map one ++ rest

/-- A chain of frames. -/
def framesView (l : List QFrame) : List (Nat × Curd) := chainView (l.map (fun f => (f.curds, frameCurd f)))

/-- The calendar bucket of a base time (R226). DESIGN CHOICE (log entry 29): bucket (base / RES) mod 4,096. -/
def calBucket (s : State) (base : Nat) : Nat := base / calRes s % 4096

/-- The chain of calendar bucket `b` (R226). -/
def bucketChain (s : State) (b : Nat) : List QFrame := (s.qms.cal.filter (fun d => calBucket s d.base = b)).flatMap (fun d => d.packet.frames)

/-- Curd `k` of the queues and of the calendar (R208, R209); none when no queue holds it. -/
def curdAt (s : State) (k : Nat) : Option Curd :=
  let node := s.qms.nodeQ.flatMap (fun q => framesView q.2)
  let up := s.qms.upQ.flatMap (fun q => chainView (q.2.map (fun p => (p.curds, upCurd p))))
  let down := s.qms.downQ.flatMap (fun q => framesView (q.2.flatMap (·.frames)))
  let cal := (List.range 4096).flatMap (fun b => framesView (bucketChain s b))
  ((node ++ up ++ down ++ cal).find? (fun c => c.1 = k)).map (·.2)

/-- R226: the head and the tail of bucket `b`, each a curd with bit 31 set, or 0 when the bucket is empty. DESIGN CHOICE (log entry 29): the
layout of the 8 octets. -/
def calBucketWords (s : State) (b : Nat) : List Nat :=
  match chainCurds (bucketChain s b) with
  | [] => [0, 0]
  | k :: l => [2 ^ 31 + k, 2 ^ 31 + l.getLastD k]

/-- R226: the octet of the calendar's region at offset `a`. -/
def calOctet (s : State) (a : Nat) : Nat := wordOctet (calBucketWords s ((a - 0x330000) / 8)) ((a - 0x330000) % 8)

/-- R232: the octet of the ready bitmaps at offset `a`. DESIGN CHOICE (log entry 29): class c's bitmap at 0x33_8000 + c × 0x8000, NIX n at bit
n mod 8 of octet n / 8. -/
def readyOctet (s : State) (a : Nat) : Nat :=
  let d := a - 0x338000
  (List.range 8).foldl (fun x k => x + ofBool (readyFor s (d % 0x8000 * 8 + k) (d / 0x8000)) * 2 ^ k) 0

/-- The octet at offset `a` of shared policy memory as a reader finds it: in the regions of R226 and R232 what the queue manager keeps
there. -/
def polView (s : State) (a : Nat) : Nat :=
  if s.flag QMS_CFG.EN && 0x338000 ≤ a && a ≤ 0x377FFF then readyOctet s a
  else if s.flag QMS_CFG.EN && s.flag SHP_CAL_CFG.EN && 0x330000 ≤ a && a ≤ 0x337FFF then calOctet s a
  else polByte s a

/-- The queue manager gives up the regions of R226 and R232 as `old` shows them: what it kept there stays behind. -/
def regionsLeave (old s : State) : State :=
  let ready := old.qms.nodeQ.flatMap (fun q => (List.range 8).map (fun c => 0x338000 + c * 0x8000 + q.1 / 8))
  let cal := (old.qms.cal.map (fun d => calBucket old d.base)).flatMap (fun b => (List.range 8).map (fun k => 0x330000 + b * 8 + k))
  let off : Nat → Bool := fun a =>
    (old.flag QMS_CFG.EN && 0x338000 ≤ a && a ≤ 0x377FFF)
      || (old.flag QMS_CFG.EN && old.flag SHP_CAL_CFG.EN && 0x330000 ≤ a && a ≤ 0x337FFF)
  let kept := ((ready ++ cal).filter off).map (fun a => (a, BitVec.ofNat 8 (polView old a)))
  modPcr (fun p => { p with mem := Memory.writes (p.mem.filter (fun c => !off c.1)) kept }) s

end Sys2Proof.Machine
end

