-- ==== Sys2Proof/Machine/FwtOps.lean ====
section
/-!
DEFINITION. Changing the forwarding table (R183, R186 to R189, R193, R202): placing, moving and removing entries, and their words.
-/

namespace Sys2Proof.Machine

/-- An entry is in use. -/
def fwtUsed (e : FwtEntry) : Bool := e.kind != .free

/-- Entries in buckets and Vat changes by one; a Vat slot counts in FWD_VAT_STS too (R207). -/
def fwtCount (loc : Nat) (more : Bool) (s : State) : State :=
  let s := if more then s.inc FWD_STS.ENTRIES else s.sub FWD_STS.ENTRIES 1
  if loc < 262144 then s else if more then s.inc FWD_VAT_STS.USED else s.sub FWD_VAT_STS.USED 1

/-- FWT_BACKREF names the place of a NODE entry (R30, R186); a record without one leaves FWD_VAT_STS.NOFWT (R182, R194). -/
def backrefSet (loc : Nat) (e : FwtEntry) (s : State) : State :=
  if e.kind != .node then s
  else
    let s := if (s.node e.nix).noFwt then s.sub FWD_VAT_STS.NOFWT 1 else s
    s.modNode e.nix (fun r => { r with
      brBucket := if loc < 262144 then loc / 4 else loc - 262144
      brWay := if loc < 262144 then loc % 4 else 0
      brInVat := decide (262144 ≤ loc)
      brShadow := e.shadow
      noFwt := false
      brValid := true })

/-- The seed that placed an entry: NEXT when SHADOW is set during a reshard (R195). -/
def entryHash (s : State) (e : FwtEntry) : Nat :=
  fwtHash (if e.shadow && resharding s then s.rd FWD_HASH_NEXT.SEED else s.rd FWD_HASH_CUR.SEED) e.key (fwtCls e.kind) e.ward

/-- VER of bucket `b` advances (R186). -/
def verUp (b : Nat) (s : State) : State := modHead b (fun h => { h with ver := (h.ver + 1) % 2 ^ 14 }) s

/-- R186, step 2: VER advances in every candidate bucket of the key, under every seed in use. -/
def verAll (e : FwtEntry) (s : State) : State :=
  s.each ((fwtHashes s e.key (fwtCls e.kind) e.ward).flatMap (fun h => [(fwtCands h).1, (fwtCands h).2])).eraseDups verUp

/-- R186: an entry moves: the new copy, the versions, the old place, the back-reference. -/
def fwtMove (frm target : Nat) (e : FwtEntry) (s : State) : State :=
  let s := verAll e (fwtCount target true (fwtPut target e s))
  backrefSet target e (fwtCount frm false (fwtPut frm {} s))

/-- The first free way of bucket `b`. -/
def freeWay (s : State) (b : Nat) : Option Nat := ((List.range 4).map (fun i => b * 4 + i)).find? (fun p => !fwtUsed (fwtAt s p))

/-- The other candidate bucket of an entry that stands in bucket `b` (R187). -/
def otherBucket (s : State) (e : FwtEntry) (b : Nat) : Nat :=
  let (b1, b2) := fwtCands (entryHash s e)
  if b = b1 then b2 else b1

/-- R187, step 3: the chain of displacements from bucket `b`, at most `k`, each as (from, to), nearest first; none when no bucket with a
free way is reached. -/
def kickChain (s : State) : Nat → Nat → Option (List (Nat × Nat))
  | 0, _ => none
  | k + 1, b =>
    let v := b * 4 + s.rd FWD_RELOCS % 4
    let b' := otherBucket s (fwtAt s v) b
    match freeWay s b' with
    | some p => some [(v, p)]
    | none => (kickChain s k b').map (fun l => (v, b' * 4 + s.rd FWD_RELOCS % 4) :: l)

/-- R187: the try-lock of a displacement succeeds. -/
def tryLock (s : State) : Bool × State :=
  let m := s.fwd.meets
  (!m.tries.headD false, meetsSet { m with tries := m.tries.drop 1 } s)

/-- The moves of a chain, from the far end backward; a failed try-lock, or a place that has changed since the search, stops the rest (R187). -/
def kickMoves : List (Nat × Nat) → State → State
  | [], s => s
  | (frm, target) :: l, s =>
    let s := kickMoves l s
    if fwtUsed (fwtAt s target) || !fwtUsed (fwtAt s frm) then s
    else
      match tryLock s with
      | (true, s) => (fwtMove frm target (fwtAt s frm) s).inc FWD_RELOCS
      | (false, s) => s

/-- An entry is written to a free place. -/
def fwtWriteAt (loc : Nat) (e : FwtEntry) (s : State) : State :=
  backrefSet loc e (fwtCount loc true (fwtPut loc e s))

/-- R187, steps 2 to 5: an entry whose key is not present is placed under the seed that its SHADOW names; none when the Vat is full too. -/
def fwtPlace (e : FwtEntry) (s : State) : Option Nat × State :=
  let h := entryHash s e
  let b1 := (fwtCands h).1
  let b2 := (fwtCands h).2
  let way (s : State) : Option Nat := (freeWay s b1).orElse (fun _ => freeWay s b2)
  let s := lockTake s
  let s := if (way s).isNone then kickMoves ((kickChain s (s.rd FWD_RELOC_CFG.MAX_KICK) b1).getD []) s else s
  (way s).elim
    (((vatPlaces s h).find? (fun p => !fwtUsed (fwtAt s p))).elim (none, raise Irq.FWD_VAT_FULL (s.inc FWD_INSERT_FAIL)) (fun p =>
      let s := modHead b1 (fun x => { x with ovf := true }) (modHead b2 (fun x => { x with ovf := true }) s)
      (some p, (fwtWriteAt p e s).inc FWD_VAT_INSERTS)))
    (fun p => (some p, fwtWriteAt p e s))

/-- R195: a new entry is made under NEXT with SHADOW set while the walker runs, under CUR otherwise. -/
def shadowNew (s : State) : Bool := (s.rd FWD_STS.RESHARD = 1 || s.rd FWD_STS.RESHARD = 2) && !s.flag FWD_STS.ABORTING

/-- A new entry, its key not present (R187); it counts as used at once, so that Firn gives it a full life (R194). -/
def fwtNew (e : FwtEntry) (s : State) : Option Nat × State :=
  let e := { e with hit := true, age := 0, moveCand := false, movePort := 0, moveCnt := 0, shadow := shadowNew s, poisoned := false }
  let r := fwtPlace e s
  (r.1, r.2.when r.1.isSome (fun s => s.inc FWD_INSERTS))

/-- An entry is removed. -/
def fwtRemove (loc : Nat) (s : State) : State := fwtCount loc false (fwtPut loc {} s)

/-- A change of an ALIAS or STATION entry is mirrored (R425). -/
def fwtMirror (e : FwtEntry) (s : State) : State := if e.kind = .aliased || e.kind = .station then mirCount PAIR_FWT_MIRRORED s else s

/-- R182: a record has no NODE entry, and waits for Firn. -/
def noFwtSet (nix : Nat) (s : State) : State :=
  if (s.node nix).noFwt then s else (s.inc FWD_VAT_STS.NOFWT).modNode nix (fun r => { r with noFwt := true, brValid := false })

/-- R187: the NODE entry of record `nix` with this EUI-64 and Ward is inserted; where its key is present nothing is. -/
def fwtNodeNew (nix eui ward : Nat) (s : State) : Option Nat × State :=
  if (fwtFind s (iidOf eui) 0 ward).isSome then (none, s)
  else fwtNew { key := iidOf eui, kind := .node, ward := ward, port := 7, nix := nix } s

/-- R182, R187: the NODE entry of a record is inserted, unless its key is present; without one the record waits for Firn when `wait`. -/
def fwtNode (nix : Nat) (wait : Bool) (s : State) : Bool × State :=
  let r := s.node nix
  let s := if r.moveCand then s.modNode nix (fun r => { r with moveCand := false }) else s
  let (p, s) := fwtNodeNew nix r.eui r.ward s
  (p.isSome, if p.isNone && wait then noFwtSet nix s else s)

/-- The place that FWT_BACKREF names (R30). -/
def backrefLoc (r : Node) : Nat := if r.brInVat then 262144 + r.brBucket else r.brBucket * 4 + r.brWay

/-- The NODE entry of a record leaves the table, found by its back-reference's key or a lookup (R33, R186); a poisoned one, by its
back-reference alone (R189). -/
def fwtNodeGone (nix : Nat) (s : State) : State :=
  let r := s.node nix
  let s := if r.noFwt then s.sub FWD_VAT_STS.NOFWT 1 else s
  let mine (p : Nat) : Bool := (fwtAt s p).kind = .node && (fwtAt s p).nix = nix
  match fwtFind s (iidOf r.eui) 0 r.ward with
  | some p => if mine p then fwtRemove p (lockTake s) else s
  | none => if r.brValid && mine (backrefLoc r) && (fwtAt s (backrefLoc r)).poisoned then fwtRemove (backrefLoc r) (lockTake s) else s

/-! Moves between ports -/

/-- MOVE_CAND of an entry, and of the record of a NODE entry (R183). -/
def candSet (loc : Nat) (e : FwtEntry) (s : State) : State :=
  let s := fwtPut loc e s
  if e.kind = .node && (s.node e.nix).moveCand != e.moveCand then s.modNode e.nix (fun r => { r with moveCand := e.moveCand }) else s

/-- R193: a move is committed. -/
def moveCommit (loc p : Nat) (e : FwtEntry) (s : State) : State :=
  let k := s.rd FWD_STS.LOG_WP
  let s := (candSet loc { e with port := p, moveCand := false } s).inc FWD_MOVES
  let sta := ofBool (e.kind = .station)
  let s := (((s.wr (FWD_MOVE_LOG_A.NIX k) e.nix).wr (FWD_MOVE_LOG_A.OLD_PORT k) e.port).wr (FWD_MOVE_LOG_A.NEW_PORT k) p).wr (FWD_MOVE_LOG_A.STA k) sta
  let inVat : Bool := 262144 ≤ loc
  let s := (s.wr (FWD_MOVE_LOG_B.BUCKET k) (if inVat then loc - 262144 else loc / 4)).wr (FWD_MOVE_LOG_B.WAY k) (if inVat then 0 else loc % 4)
  let s := (s.put (FWD_MOVE_LOG_B.IN_VAT k) inVat).wr FWD_STS.LOG_WP (k + 1)
  let nix := if e.kind = .node then some e.nix else none
  let ws := [s.rc32, e.key % 2 ^ 32, e.key / 2 ^ 32, e.port + p * 8 + sta * 64]
  fwtMirror e (occur Irq.FWD_MOVE { code := 0, block := 0, words := ws, nix := nix, ward := e.ward } s)

/-- R191, R193: a frame of an entry's key comes from port `p`. -/
def portSeen (loc p : Nat) (s : State) : State :=
  let s := if (fwtAt s loc).hit then s else fwtPut loc { fwtAt s loc with hit := true } s
  let e := fwtAt s loc
  let fixed := e.isStatic || (e.kind = .node && ((s.node e.nix).isStatic || !s.flag FWD_LEARN_CFG.NODE_MOVE)) || e.kind = .aliased
  if fixed then s
  else if p = e.port then
    if e.moveCand then (candSet loc { e with moveCand := false, moveCnt := 0 } s).inc FWD_MOVE_ABORT else s
  else if e.moveCand && e.movePort = p then
    let e := { e with moveCnt := min 15 (e.moveCnt + 1) }
    if s.rd FWD_LEARN_CFG.MOVE_HYST ≤ e.moveCnt then moveCommit loc p e s else fwtPut loc e s
  else
    let e := { e with moveCand := true, movePort := p, moveCnt := 1 }
    let s := (candSet loc e s).inc FWD_MOVE_CAND
    if s.rd FWD_LEARN_CFG.MOVE_HYST ≤ 1 then moveCommit loc p e s else s

/-! Words of entries -/

/-- Code of a kind (R182). -/
def fwtKindCode : FwtKind → Nat
  | .free => 0
  | .node => 1
  | .aliased => 2
  | .station => 3

/-- The four words of an entry (R183); `head` is what way 0 carries of its bucket's header. -/
def fwtWords (e : FwtEntry) (head : Nat) : List Nat :=
  [e.key % 2 ^ 32, e.key / 2 ^ 32 % 2 ^ 32,
    fwtKindCode e.kind + e.ward * 2 ^ 2 + e.port * 2 ^ 5 + e.nix * 2 ^ 8 + ofBool e.moveCand * 2 ^ 26,
    e.movePort + e.moveCnt * 2 ^ 3 + ofBool e.hit * 2 ^ 7 + e.age * 2 ^ 8 + ofBool e.isStatic * 2 ^ 10 + ofBool e.shadow * 2 ^ 11 + head * 2 ^ 16]

/-- The words of bucket `b`, with its header in way 0 (R183). -/
def bucketWords (s : State) (b : Nat) : List Nat :=
  let h := fwtHead s b
  let head := h.ver + ofBool h.ovf * 2 ^ 14 + ofBool h.lock * 2 ^ 15
  (List.range 4).flatMap (fun i => fwtWords (fwtAt s (b * 4 + i)) (if i = 0 then head else 0))

/-- The sixteen words of a Path Store entry (R202): two words, twelve words of 24-bit hops, two reserved words. -/
def pathWords (e : PathEntry) : List Nat :=
  let bits := (e.hops.take 16).zipIdx.foldl (fun a h => a + h.1 % 2 ^ 18 * 2 ^ (24 * h.2)) 0
  [e.owner % 2 ^ 18 + e.hops.length * 2 ^ 18 + ofBool e.valid * 2 ^ 23 + ofBool e.host * 2 ^ 24 + e.ward * 2 ^ 25, e.epoch % 2 ^ 32]
    ++ (List.range 12).map (fun i => bits / 2 ^ (32 * i) % 2 ^ 32) ++ [0, 0]

end Sys2Proof.Machine
end

