-- ==== Sys2Proof/Machine/Fwt.lean ====
section
/-!
DEFINITION. Commands of the forwarding table: learning, Firn, reshard, and the host's reads and writes (R190 to R196, R202).
-/

namespace Sys2Proof.Machine

/-! Learning -/

/-- Change what forwarding holds. -/
def modFwd (f : Fwd → Fwd) (s : State) : State := { s with fwd := f s.fwd }

/-- R191: a station's request creates its entry, or meets the one that is there; a station is learned only while STA_LEARN is 1. -/
def learnStation (key p : Nat) (s : State) : State :=
  let a := fwtNew { key := key, kind := .station, port := p } s
  (fwtFind s key 1 0).elim (a.2.when a.1.isSome (fun s => fwtMirror { kind := .station } (s.inc FWD_LEARN_NEW))) (fun loc => portSeen loc p s)

/-- R192: the `pos`-th learning request holds its locks. A request may reach its locks before an older one of another key. -/
def execLearnCommit (pos : Nat) (meets : TableMeets) (t : Nat) (s : State) : Result :=
  withMeets meets (fun s => match s.fwd.learn[pos]? with
  | none => .next s
  | some q =>
    let s := modFwd (fun f => { f with learn := f.learn.eraseIdx pos }) s
    let s := lockTake s
    match q.nix with
    | none => .next (learnStation q.key q.port s)
    | some n =>
      match fwtFind s (iidOf (s.node n).eui) 0 (s.node n).ward with
      | some loc => .next (if (fwtAt s loc).kind = .node && (fwtAt s loc).nix = n then portSeen loc q.port s else s)
      | none => .next s) (s.at t)

/-! Firn -/

/-- R194: the entry's own STATIC bit, or for an ALIAS that of its node's record, keeps it. -/
def firnKeeps (s : State) (e : FwtEntry) : Bool := e.isStatic || (e.kind = .aliased && (s.node e.nix).isStatic)

/-- Firn removes an entry (R194); on a STANDBY or FENCED chip it removes nothing (R424). -/
def firnRemove (loc : Nat) (e : FwtEntry) (s : State) : State :=
  if !owns s then s else fwtMirror e ((fwtRemove loc s).inc FWD_FIRN_REMOVED)

/-- R194: the record's AGE: sweeps since the entry was last hit, 0 while STATIC is set. -/
def recordAge (nix : Nat) (hit : Bool) (s : State) : State :=
  s.modNode nix (fun r => { r with age := if hit || r.isStatic then 0 else min 255 (r.age + 1) })

/-- R194: Firn at one entry. -/
def firnEntry (loc : Nat) (s : State) : State :=
  let e := fwtAt s loc
  if !fwtUsed e then s
  else if e.poisoned then
    let s := fwtRemove loc s
    let r := s.node e.nix
    let here (p : Nat) : Bool := (fwtAt s p).kind = .node && (fwtAt s p).nix = e.nix
    if e.kind = .node && nodeActive s e.nix && !((fwtFind s (iidOf r.eui) 0 r.ward).any here) then (fwtNode e.nix true s).2 else s
  else
    let s := if s.rd FWD_STS.RESHARD = 3 && e.shadow then
        let s := fwtPut loc { e with shadow := false } s
        if e.kind = .node then s.modNode e.nix (fun r => { r with brShadow := false }) else s
      else s
    let e := fwtAt s loc
    if e.kind = .aliased && ((s.node e.nix).state = .free || (s.node e.nix).state = .evict) then firnRemove loc e s
    else if e.hit then
      let s := fwtPut loc { e with hit := false, age := 0 } s
      if e.kind = .node then recordAge e.nix true s else s
    else
      let e' := { e with age := min 2 (e.age + 1) }
      if e.kind = .node then recordAge e.nix false (fwtPut loc e' s)
      else if e'.age = 2 && !firnKeeps s e && owns s then firnRemove loc e s
      else fwtPut loc e' s

/-- Firn at bucket `b`: its four ways, and OVF cleared while the Vat is empty (R188, R194). -/
def firnBucket (b : Nat) (s : State) : State :=
  let s := s.each ((List.range 4).map (fun i => b * 4 + i)) firnEntry
  if s.rd FWD_VAT_STS.USED = 0 then modHead b (fun h => { h with ovf := false }) s else s

/-- Firn at Vat slot `k`: it moves the entry back when a candidate bucket has a free way (R188, R194). -/
def firnSlot (k : Nat) (s : State) : State :=
  let loc := 262144 + k
  let s := firnEntry loc s
  let e := fwtAt s loc
  if !fwtUsed e then s
  else
    let (b1, b2) := fwtCands (entryHash s e)
    match freeWay s b1, freeWay s b2 with
    | some p, _ => fwtMove loc p e (lockTake s)
    | none, some p => fwtMove loc p e (lockTake s)
    | none, none => s

/-- R194: the time from one visit of Firn to the next, ns: a sweep of every bucket and every Vat slot takes SWEEP_S. -/
def firnGap (s : State) : Nat := s.rd FWD_FIRN_CFG.SWEEP_S * 1000000000 / (65536 + 4096)

/-- Firn's next bucket, or its next Vat slot. -/
def firnNext (locked : Bool) (s : State) : State :=
  let s := modFwd (fun f => { f with firnAt := s.rc, firnAgain := f.firnAgain.map (fun a => (a.1, a.2 - 1)) }) s
  if s.fwd.firnVat = 0 then
    let b := s.rd FWD_FIRN_STS.POS
    let s := if locked then modFwd (fun f => { f with firnAgain := f.firnAgain ++ [(b, 256)] }) s else firnBucket b s
    let s := s.wr FWD_FIRN_STS.POS (b + 1)
    if b = 65535 then modFwd (fun f => { f with firnVat := 1 }) s else s
  else if s.fwd.firnVat ≤ 4096 then modFwd (fun f => { f with firnVat := f.firnVat + 1 }) (firnSlot (s.fwd.firnVat - 1) s)
  else s

/-- R194: Firn's next visit: a bucket it found locked 256 visits ago, or, when it is due, the next bucket or Vat slot. `locked` says that a
writer holds the bucket's lock. `corrected`: single-bit errors that its reads met, by store (R26); `poisoned`: the words that its reads of
the Node Store found poisoned, counted in 8 octets from its start (R27). -/
def execFirnBucketVisit (locked : Bool) (corrected : List (Fin 256)) (poisoned : List Nat) (meets : TableMeets) (t : Nat) (s : State) : Result :=
  withMeets meets (fun s =>
    if !s.flag FWD_FIRN_CFG.EN then .next s
    else
      let s := (eccFix corrected s).each poisoned (fun n s => fenceNode (n / 16 % 262144) n 12 s)
      match s.fwd.firnAgain.find? (fun a => a.2 = 0) with
      | some a =>
        let s := modFwd (fun f => { f with firnAgain := f.firnAgain.filter (fun x => x != a) }) s
        .next (if locked then s.inc FWD_FIRN_SKIP else firnBucket a.1 s)
      | none => .next (if s.reached (s.fwd.firnAt + firnGap s) then firnNext locked s else s)) (s.at t)

/-- The places of the table that hold an entry, rising. -/
def fwtPlaced (s : State) : List Nat := s.fwd.ways.map (·.1) ++ s.fwd.vat.map (fun p => p.1 + 262144)

/-- R194, R195: the end of a sweep: records that wait for their NODE entry get one where there is room; a full sweep of CLEANUP that has cleared
SHADOW in every entry ends the reshard. An entry that the sweep missed, in a bucket found locked or moved behind it, keeps CLEANUP for another
one. -/
def execFirnSweepEnd (meets : TableMeets) (t : Nat) (s : State) : Result :=
  withMeets meets (fun s =>
    if !s.flag FWD_FIRN_CFG.EN || s.fwd.firnVat ≤ 4096 then .next s
    else
      let s := (modFwd (fun f => { f with firnVat := 0 }) s).inc FWD_FIRN_STS.SWEEPS
      let waiting := (s.nodes.filter (fun p => p.2.noFwt && nodeLive s p.1)).map (·.1)
      let s := s.each waiting (fun n s => (fwtNode n false s).2)
      if s.rd FWD_STS.RESHARD != 3 then .next s
      else if s.fwd.cleanSweep && (fwtPlaced s).all (fun p => !(fwtAt s p).shadow) then
        let s := s.each ((s.nodes.filter (fun p => p.2.brShadow)).map (·.1)) (fun n s => s.modNode n (fun r => { r with brShadow := false }))
        .next (modFwd (fun f => { f with cleanSweep := false }) (s.wr FWD_STS.RESHARD 0))
      else .next (modFwd (fun f => { f with cleanSweep := true }) s)) (s.at t)

/-! Reshard (R195) -/

/-- The number of places: ways of all buckets, then Vat slots. -/
def fwtPlaces : Nat := 262144 + 4096

/-- Where the walker stands shows in PROGRESS. -/
def walkTo (k : Nat) (s : State) : State :=
  modFwd (fun f => { f with walk := k }) (s.wr FWD_RESHARD.PROGRESS (min 65535 (k / 4)))

/-- R195: FWD_RESHARD.START is written. -/
def execReshardStart (t : Nat) (s : State) : Result :=
  let s := s.at t
  if s.rd FWD_STS.RESHARD != 0 || s.rd FWD_HASH_NEXT.SEED = s.rd FWD_HASH_CUR.SEED then
    .next (raise Irq.FWD_BAD (s.put FWD_RESHARD.BAD true))
  else .next (walkTo 0 (((s.put FWD_RESHARD.BAD false).wr FWD_STS.RESHARD 1).put FWD_STS.ABORTING false))

/-- R195: FWD_RESHARD.ABORT is written: the walk is reversed. -/
def execReshardAbort (t : Nat) (s : State) : Result :=
  let s := s.at t
  if s.rd FWD_STS.RESHARD = 1 || s.rd FWD_STS.RESHARD = 2 then
    .next (walkTo fwtPlaces ((s.wr FWD_STS.RESHARD 1).put FWD_STS.ABORTING true))
  else .next s

/-- The walker moves the entry at `loc` to its place under the other seed (R186, R187). The old copy may have been displaced meanwhile. -/
def reshardMove (loc : Nat) (shadow : Bool) (s : State) : Bool × State :=
  let e := fwtAt s loc
  let a := fwtPlace { e with shadow := shadow } s
  let s := verAll e a.2
  let old := (loc :: (wayPlaces (entryHash s e) ++ vatPlaces s (entryHash s e))).find? (fun p =>
    fwtMatch (fwtAt s p) e.key (fwtCls e.kind) e.ward && (fwtAt s p).shadow = e.shadow)
  (a.1.isSome, if a.1.isSome then (old.elim s (fun p => fwtRemove p s)).inc FWD_RESHARD_MOVED else a.2)

/-- The first place of `l` that holds an entry with SHADOW at `b`; a poisoned one is absent (R189). -/
def nextShadow (s : State) (b : Bool) (l : List Nat) : Option Nat := 
  l.find? (fun p => fwtUsed (fwtAt s p) && !(fwtAt s p).poisoned && (fwtAt s p).shadow = b)

/-- R195: a re-insertion fails for a full Vat. -/
def reshardStall (s : State) : State := raise Irq.FWD_RESHARD_STALL (s.wr FWD_STS.RESHARD 2)

/-- R195: the walker goes on to the next entry that it has to move, or, when none is left, ends the walk. -/
def reshardStep (s : State) : State :=
  if s.flag FWD_STS.ABORTING then
    let l := (fwtPlaced s).reverse
    match nextShadow s true (l.filter (fun p => p < s.fwd.walk) ++ l) with
    | none => walkTo 0 ((s.wr FWD_STS.RESHARD 0).put FWD_STS.ABORTING false)
    | some p =>
      match reshardMove p false s with
      | (true, s) => walkTo p s
      | (false, s) => reshardStall s
  else
    let l := fwtPlaced s
    match nextShadow s false (l.filter (fun p => s.fwd.walk ≤ p) ++ l) with
    | none =>
      let s := (s.wr FWD_HASH_CUR.SEED (s.rd FWD_HASH_NEXT.SEED)).wr FWD_STS.RESHARD 3
      raise Irq.FWD_RESHARD_DONE (modFwd (fun f => { f with cleanSweep := false }) (walkTo 0 s))
    | some p =>
      match reshardMove p true s with
      | (true, s) => walkTo p s
      | (false, s) => reshardStall s

/-- R195: a step of the walker. -/
def execReshardWalk (meets : TableMeets) (t : Nat) (s : State) : Result :=
  withMeets meets (fun s => .next (if s.rd FWD_STS.RESHARD != 1 then s else reshardStep s)) (s.at t)

/-! Host commands (R190) -/

/-- An operand entry lies in its ranges (R183, R289). -/
def fwtOperand (e : FwtEntry) : Bool :=
  e.ward < 8 && e.port < 8 && e.nix < 262144 && e.key < 2 ^ 64 && (e.kind != .station || e.key < 2 ^ 60)

/-- FWT_INSERT (R190, R291). -/
def execFwtInsert (ring : Fin 8) (hd : CmdHead) (entry : FwtEntry) (meets : TableMeets) (t : Nat) (s : State) : Result :=
  withMeets meets (withOwner ring 0x20 hd.tag (withData ring 0x20 hd 16 (fun s =>
    if entry.kind = .node then cmdPlain ring 0x20 hd.tag 4 s
    else if entry.kind = .free || !fwtOperand entry then cmdPlain ring 0x20 hd.tag 0xF1 s
    else
      let e := if entry.kind = .station then { entry with ward := 0, nix := 0 } else { entry with port := 7 }
      match fwtFind s e.key (fwtCls e.kind) e.ward with
      | some _ => cmdPlain ring 0x20 hd.tag 2 s
      | none =>
        match fwtNew e s with
        | (none, s) => cmdPlain ring 0x20 hd.tag 1 s
        | (some p, s) =>
          let (a, b) := if p < 262144 then (p / 4, p % 4) else (p - 262144, 0)
          cmdDone ring 0x20 hd.tag 0 a b 0 [] false (fwtMirror e s)))) (s.at t)

/-- FWT_DELETE (R190, R291). -/
def execFwtDelete (ring : Fin 8) (tag key : Nat) (kind : FwtKind) (ward : Fin 8) (meets : TableMeets) (t : Nat) (s : State) : Result :=
  withMeets meets (withOwner ring 0x21 tag (fun s =>
    if kind = .node then cmdPlain ring 0x21 tag 4 s
    else if kind = .free then cmdPlain ring 0x21 tag 0xF1 s
    else
      match fwtFind s key (fwtCls kind) (if kind = .station then 0 else ward.val) with
      | none => cmdPlain ring 0x21 tag 5 s
      | some p =>
        if (fwtAt s p).kind = .node then cmdPlain ring 0x21 tag 4 s
        else cmdPlain ring 0x21 tag 0 (fwtMirror (fwtAt s p) (fwtRemove p (lockTake s))))) (s.at t)

/-- FWT_READ (R190, R291). -/
def execFwtRead (ring : Fin 8) (hd : CmdHead) (first count : Nat) (vat : Bool) (t : Nat) (s : State) : Result :=
  withCmd ring (fun s =>
    if count = 0 || 1024 < count then cmdPlain ring 0x22 hd.tag 0xF1 s
    else if (if vat then 4096 else 65536) < first + count then cmdPlain ring 0x22 hd.tag 7 s
    else
      let l := (List.range count).map (fun i => first + i)
      if vat then cmdRows ring 0x22 hd 0 0 16 (l.map (fun k => fwtWords (fwtAt s (262144 + k)) 0)) s
      else cmdRows ring 0x22 hd 0 0 64 (l.map (bucketWords s)) s) (s.at t)

/-- A way takes an entry that the host writes; counts follow. -/
def fwtHostPut (loc : Nat) (e : FwtEntry) (s : State) : State :=
  let s := if fwtUsed (fwtAt s loc) then fwtMirror (fwtAt s loc) (fwtRemove loc s) else s
  if fwtUsed e then fwtMirror e (fwtCount loc true (fwtPut loc { e with poisoned := false } s)) else s

/-- FWT_WRITE: a whole bucket, when its VER has not changed (R190, R291). VER advances before the first and after the last entry write. -/
def execFwtWrite (ring : Fin 8) (hd : CmdHead) (bucket ver : Nat) (e0 e1 e2 e3 : FwtEntry) (meets : TableMeets) (t : Nat) (s : State) : Result :=
  withMeets meets (withOwner ring 0x23 hd.tag (withData ring 0x23 hd 64 (fun s =>
    let new := [(bucket * 4, e0), (bucket * 4 + 1, e1), (bucket * 4 + 2, e2), (bucket * 4 + 3, e3)]
    if 65535 < bucket || !new.all (fun p => fwtOperand p.2) then cmdPlain ring 0x23 hd.tag 0xF1 s
    else if resharding s then cmdPlain ring 0x23 hd.tag 6 s
    else if (fwtHead s bucket).ver != ver then cmdPlain ring 0x23 hd.tag 3 (s.inc FWD_HOST_STALE)
    else if new.any (fun p => (p.2.kind = .node || (fwtAt s p.1).kind = .node) && p.2 != fwtAt s p.1) then cmdPlain ring 0x23 hd.tag 4 s
    else
      let s := (verUp bucket (lockTake s)).each (new.filter (fun p => p.2 != fwtAt s p.1)) (fun p => fwtHostPut p.1 p.2)
      cmdPlain ring 0x23 hd.tag 0 (verUp bucket s)))) (s.at t)

/-- PATH_WRITE: a Path Store entry, with HOST set (R190, R202, R291). -/
def execPathWrite (ring : Fin 8) (hd : CmdHead) (ix : Nat) (entry : PathEntry) (t : Nat) (s : State) : Result :=
  withOwner ring 0x24 hd.tag (withData ring 0x24 hd 64 (fun s =>
    if 65535 < ix then cmdPlain ring 0x24 hd.tag 7 s
    else if entry.hops.isEmpty || 16 < entry.hops.length || 262143 < entry.owner || 7 < entry.ward || entry.hops.any (fun h => 262143 < h) then
      cmdPlain ring 0x24 hd.tag 0xF1 s
    else cmdPlain ring 0x24 hd.tag 0 (modFwd (fun f => { f with paths := Store.put {} f.paths ix { entry with host := true } }) s))) (s.at t)

/-- PATH_READ (R190, R202, R291). -/
def execPathRead (ring : Fin 8) (hd : CmdHead) (first count t : Nat) (s : State) : Result :=
  withCmd ring (fun s =>
    if count = 0 || 1024 < count then cmdPlain ring 0x25 hd.tag 0xF1 s
    else if 65536 < first + count then cmdPlain ring 0x25 hd.tag 7 s
    else cmdRows ring 0x25 hd 0 0 64 ((List.range count).map (fun i => pathWords (Store.find {} s.fwd.paths (first + i)))) s) (s.at t)

/-- SAX_READ: short-address index entries of one Ward (R190, R196, R291). -/
def execSaxRead (ring : Fin 8) (hd : CmdHead) (ward first count t : Nat) (s : State) : Result :=
  withCmd ring (fun s =>
    if count = 0 || 16384 < count || 7 < ward then cmdPlain ring 0x26 hd.tag 0xF1 s
    else if 65536 < first + count then cmdPlain ring 0x26 hd.tag 7 s
    else
      let word (a : Nat) : List Nat := match saxFind s ward a with | some n => [n + 2 ^ 31] | none => [0]
      cmdRows ring 0x26 hd 0 0 4 ((List.range count).map (fun i => word (first + i))) s) (s.at t)

end Sys2Proof.Machine
end

