-- ==== Sys2Proof/Machine/EthOps.lean ====
section
/-!
DEFINITION. The link of a backhaul port, and what a received Ethernet frame does (R191, R198, R467).
-/

namespace Sys2Proof.Machine

/-- The link of port `p` goes down: a frame that is leaving is lost, and its descriptor completes without a timestamp. -/
def ethDown (p : Nat) (s : State) : State :=
  let s := tsOkView ((s.put (ETH_P_STS.LINK p) false).put (ETH_P_STS.AN_DONE p) false)
  match (portOf s p).busy with
  | none => s
  | some f => txLeft f none none ((modPort p (fun x => { x with busy := none }) s).inc (ETH_P_TX_LINK_DROP p))

/-- The kind of a destination address, a number whose most significant octet is the first on the line: 0 unicast, 1 multicast, 2
broadcast. -/
def ethCast (dst : Nat) : Nat := if dst = 0xFFFFFFFFFFFF then 2 else if dst.testBit 40 then 1 else 0

/-- RC of the ingress of a frame on port `q` (4 BH0, 5 BH1; 6 PAIR, which has no latency), less ING_LAT (R248, R285). -/
def ethRc (q : Nat) (s : State) : Nat := s.rc - (if q = 6 then 0 else s.rd (TSU_P_ING_LAT.NS (q - 4)))

/-- A frame from port `q` (4 BH0, 5 BH1, 6 PAIR): its source is learned (R191), its IPv6 packet goes to the downlink path (R198). Another
frame goes no further: the spec gives it no way on. -/
def ethIngress (q : Nat) (f : EthFrame) (s : State) : State :=
  let s := if s.flag FWD_LEARN_CFG.STA_LEARN then
      modFwd (fun x => { x with learn := x.learn ++ [{ key := f.src % 2 ^ 48 + (f.vlan.getD 0) % 4096 * 2 ^ 48, port := q }] }) s
    else s
  match f.ip with
  | none => s
  | some p => modFwd (fun x => { x with down := x.down ++ [{ src := 1, pkt := p, rc := ethRc q s, asn := s.asn }] }) s

end Sys2Proof.Machine
end

