-- ==== Sys2Proof/Machine/ServoOps.lean ====
section
/-!
DEFINITION. The servo (R249, R254 to R258), steps of TSU time (R259, R261, R264) and the pulse units they move.
-/

namespace Sys2Proof.Machine

/-- Change what the timebase holds. -/
def modTsu (f : Tsu → Tsu) (s : State) : State := { s with tsu := f s.tsu }

/-- Write a signed 32-bit field, saturating. -/
def State.wrSat (s : State) (f : Fld) (v : Int) : State := s.wrS f (clampI (-2147483648) 2147483647 v)

/-- The quotient of `a` by `b`, rounded to the nearest integer, halves away from zero. -/
def roundDiv (a b : Int) : Int := if 0 ≤ a then (2 * a + b) / (2 * b) else -((2 * (-a) + b) / (2 * b))

/-! Pulse units -/

/-- Pulse unit `k`. -/
def pulseOf (s : State) (k : Nat) : Pulse := Store.find {} s.tsu.pulses k

/-- Change pulse unit `k`. -/
def modPulse (k : Nat) (f : Pulse → Pulse) (s : State) : State :=
  modTsu (fun x => { x with pulses := Store.put {} x.pulses k (f (Store.find {} x.pulses k)) }) s

/-- START of pulse unit `k`, TSU ns. -/
def pulseStart (s : State) (k : Nat) : Int :=
  (s.rd (TSU_PO_START_SL.S k) + 2 ^ 32 * s.rd (TSU_PO_START_SH.S k) : Nat) * 1000000000 + s.rd (TSU_PO_START_NS.NS k)

/-- The first edge of unit `k`'s grid at or after `t` (R264). -/
def pulseGrid (s : State) (k : Nat) (t : Int) : Int :=
  let a := pulseStart s k
  let d : Int := s.rd (TSU_PO_PERIOD.NS k)
  if t ≤ a then a else a + (t - a + d - 1) / d * d

/-- Unit `k` is disarmed. -/
def pulseOff (k : Nat) (s : State) : State :=
  modPulse k (fun _ => {}) ((s.put (TSU_PO_CTL.ARM k) false).put (TSU_PO_STS.ACTIVE k) false)

/-- An active edge of unit `k` now: it is counted, and the pulse lasts WIDTH. -/
def pulseFire (k : Nat) (next : Option Int) (s : State) : State :=
  let s := s.inc (TSU_PO_COUNT.COUNT k)
  modPulse k (fun x => { x with next := next, endAt := some (s.rc + s.rd (TSU_PO_WIDTH.NS k)) }) s

/-- R264: START of unit `k` came too late. -/
def pulseLate (k : Nat) (s : State) : State :=
  let s := raiseAt Irq.TSU_PO_LATE k (s.put (TSU_PO_STS.LATE k) true)
  let periodic := s.flag (TSU_PO_CTL.PERIODIC k)
  if s.flag (TSU_PO_CTL.STRICT k) then
    if periodic then modPulse k (fun x => { x with next := some (pulseGrid s k (s.tsuNs + 500)) }) s
    else pulseOff k (s.put (TSU_PO_STS.CANCELLED k) true)
  else
    pulseFire k (if periodic then some (pulseGrid s k ((s.tsuNs : Int) + s.rd (TSU_PO_WIDTH.NS k) + 1)) else none) s

/-- R264: unit `k` after a step of TSU time by `d` ns: forward past its next edge it is late; backward it takes the grid's edges again. -/
def pulseStep (d : Int) (k : Nat) (s : State) : State :=
  match (pulseOf s k).next with
  | none => s
  | some e =>
    if !s.flag (TSU_PO_CTL.ARM k) then s
    else if 0 < d then (if e < s.tsuNs then pulseLate k s else s)
    else if s.flag (TSU_PO_CTL.PERIODIC k) then modPulse k (fun x => { x with next := some (pulseGrid s k s.tsuNs) }) s
    else s

/-! Steps -/

/-- R261, R262: after a step a pending start takes the first grid time that has not passed. -/
def startStep (s : State) : State :=
  if s.flag TSU_ASN_STS.START_PEND && gridTime s s.mac.gridK < s.tsuNs then
    let len : Int := s.rd TSU_ASN_STS.LEN_US * 1000
    let k := s.mac.gridK + ((s.tsuNs : Int) - gridTime s s.mac.gridK + len - 1) / max 1 len
    { s with mac := { s.mac with gridK := k } }
  else s

/-- R259, R261, R264, R395: TSU time moves by `d` ns at one cycle. -/
def tsuMove (d : Int) (s : State) : State :=
  let s := { (s.inc TSU_STEPS).put CEL_ANCHOR_STS.VALID false with tsuOfs := s.tsuOfs + d, anchor := none }
  startStep ((s.each [0, 1] gateView).each [0, 1, 2, 3] (pulseStep d))

/-! The servo -/

/-- The servo changes state; TSU_STS mirrors it. -/
def servoGo (st : Nat) (s : State) : State := (s.wr TSU_SERVO_STS.STATE st).wr TSU_STS.SERVO st

/-- TSU_FREQ follows a correction of `f16` (2^−16 ppb) that the servo takes off the clock's rate (R244, R255). -/
def setFreq (f16 : Int) (s : State) : State :=
  s.wrS TSU_FREQ.FREQ (clampI (-3435974) 3435974 (roundDiv (-f16 * 17179869) (65536 * 1000000)))

/-- R255: the PI loop takes sample `o`. -/
def servoPi (o : Int) (s : State) : State :=
  let fm : Int := s.rd TSU_SERVO_LIM.FREQ_MAX * 65536
  let i := clampI (-fm) fm (s.tsu.i + s.rd TSU_SERVO_KI.KI * o)
  let lim : Int := if asnRuns s then s.rd TSU_SLEW_CFG.PPB * 65536 else fm
  let p := clampI (-lim) lim (s.rd TSU_SERVO_KP.KP * o)
  let win := s.rd TSU_SERVO_HOLD_CFG.HOLD_AVG_S * 1000000000
  -- the window of R256 ends at the first of the withheld delay samples, where there are any
  let mark := if s.rd TSU_SERVO_STS.PD_RUN = 0 then s.rc else min s.rc s.tsu.pdMark
  let s := modTsu (fun x => { x with i := i, hist := (s.rc, i) :: x.hist.filter (fun h => mark ≤ h.1 + win) }) s
  (setFreq (i + p) s).wrS TSU_SERVO_INT.PPB (i / 65536)

/-- R256: HOLD_FREQ is the mean of i over the last HOLD_AVG_S seconds before `t`, 2^−16 ppb; i itself where no sample lies there. -/
def holdFreq (s : State) (t : Nat) : Int :=
  let win := s.rd TSU_SERVO_HOLD_CFG.HOLD_AVG_S * 1000000000
  let l := s.tsu.hist.filter (fun h => h.1 ≤ t && t ≤ h.1 + win)
  if l.isEmpty then s.tsu.i else (l.foldl (fun a h => a + h.2) 0) / (l.length : Int)

/-- R256: the servo enters HOLDOVER; `t` is the RC of the first withheld or missing sample. -/
def holdover (t cause : Nat) (s : State) : State :=
  let f := holdFreq s t
  let s := (setFreq f s).wrS TSU_SERVO_HOLD_FREQ.PPB (f / 65536)
  let s := modTsu (fun x => { x with settle := false }) s
  raise Irq.TSU_HOLDOVER ((servoGo 3 (s.wr TSU_SERVO_STS.CAUSE cause)).inc TSU_HOLDOVERS)

/-- A path step is recorded (R256): `kind` 0 offset, 1 delay. -/
def pathStep (kind : Nat) (s : State) : State := raise Irq.TSU_PATH_STEP ((s.wr TSU_SERVO_STS.STEP_KIND kind).inc TSU_PATH_STEPS)

/-- The servo is LOCKED again: runs, withheld samples and waiting commands are gone. -/
def relock (s : State) : State :=
  let s := servoGo 2 ((s.wr TSU_SERVO_STS.OFS_RUN 0).wr TSU_SERVO_STS.PD_RUN 0)
  modTsu (fun x => { x with kept := [], waits := none, remeasure := none }) s

/-- An offset sample is applied (R255). -/
def ofsApply (o : Int) (s : State) : State := servoPi o (s.inc TSU_SYNC_USED)

/-- R256: an offset sample in ACQUIRE. -/
def ofsAcquire (o : Int) (s : State) : State :=
  if (s.rd TSU_SERVO_STEP_THR.NS : Int) < o.natAbs then
    let s := modTsu (fun x => { x with lockRun := 0 }) s
    if s.flag TSU_SERVO_CFG.STEP_EN && !asnRuns s then tsuMove (-o) s
    else raise Irq.TSU_OFS_BIG ((ofsApply o s).put TSU_SERVO_STS.OFS_BIG true)
  else
    let n := if o.natAbs ≤ s.rd TSU_SERVO_LOCK_CFG.LOCK_THR then s.tsu.lockRun + 1 else 0
    let s := modTsu (fun x => { x with lockRun := n }) (ofsApply o s)
    if s.rd TSU_SERVO_LOCK_CFG.LOCK_N ≤ n then raise Irq.TSU_LOCKED (relock (s.put TSU_SERVO_STS.OFS_BIG false)) else s

/-- R257: an offset sample in LOCKED. What remains after ACCEPT or ASYM is removed (R258): DEDUCED (log entry 29): no sample is withheld until
one lies within the limit again. -/
def ofsLocked (o : Int) (s : State) : State :=
  if s.rd TSU_SERVO_PD_CFG.PD_STEP_LIMIT < o.natAbs then
    if s.tsu.settle then ofsApply o s else
    let n := s.rd TSU_SERVO_STS.OFS_RUN + 1
    let s := if n = 1 then modTsu (fun x => { x with ofsMark := s.rc }) s else s
    let s := (s.inc TSU_OFS_WITHHELD).wr TSU_SERVO_STS.OFS_RUN n
    if s.rd TSU_SERVO_PD_CFG.PD_STEP_N ≤ n then pathStep 0 (holdover s.tsu.ofsMark 0 s) else s
  else ofsApply o (modTsu (fun x => { x with settle := false }) (s.wr TSU_SERVO_STS.OFS_RUN 0))

/-- R256: an offset sample in HOLDOVER: after SYNC_LOSS it ends it or shows a path step; after PATH_STEP it is not used. -/
def ofsHoldover (o : Int) (s : State) : State :=
  if s.rd TSU_SERVO_STS.CAUSE = 0 then s
  else if o.natAbs ≤ s.rd TSU_SERVO_PD_CFG.PD_STEP_LIMIT then ofsApply o (relock s)
  else pathStep 0 (s.wr TSU_SERVO_STS.CAUSE 0)

/-- R254 to R257: an offset sample from the servo's source. -/
def servoOffset (o : Int) (s : State) : State :=
  let st := s.rd TSU_SERVO_STS.STATE
  if st = 0 then s
  else
    let s := (s.wrSat TSU_SERVO_OFS.NS o).peak TSU_SERVO_OFS_PEAK.NS (min o.natAbs 0xFFFFFFFF)
    let s := modTsu (fun x => { x with last := s.rc }) s
    if st = 1 then ofsAcquire o s else if st = 2 then ofsLocked o s else ofsHoldover o s

/-- R255: the delay filter takes `raw`. -/
def pdApply (raw : Int) (s : State) : State :=
  let m := if s.tsu.seen then s.tsu.mpd + (raw - s.tsu.mpd) / (2 : Int) ^ s.rd TSU_SERVO_PD_CFG.PD_SHIFT else raw
  (modTsu (fun x => { x with mpd := m, seen := true }) (s.inc TSU_PD_SAMPLES)).wrSat TSU_SERVO_MPD.NS m

/-- R258: mpd_f becomes the mean of the withheld delay samples and the servo is LOCKED; with ASYM the written asymmetry applies. -/
def acceptStep (asym : Bool) (s : State) : State :=
  let l := s.tsu.kept
  let m := (l.foldl (· + ·) 0) / max 1 (l.length : Int)
  let s := modTsu (fun x => { x with mpd := m, seen := true, settle := true, asym := if asym then s.rdS TSU_SERVO_ASYM.NS else x.asym }) s
  relock (s.wrSat TSU_SERVO_MPD.NS m)

/-- R257: a delay sample is withheld and kept; PD_RUN shows how many are in a row, up to 16. -/
def pdWithhold (raw : Int) (s : State) : State :=
  let n := min 16 (s.rd TSU_SERVO_STS.PD_RUN + 1)
  let s := (s.inc TSU_PD_WITHHELD).wr TSU_SERVO_STS.PD_RUN n
  modTsu (fun x => { x with kept := (raw :: x.kept).take 16, pdMark := if n = 1 then s.rc else x.pdMark }) s

/-- R254 to R258: a delay sample from the servo's source. -/
def servoDelay (raw : Int) (s : State) : State :=
  let st := s.rd TSU_SERVO_STS.STATE
  if st = 0 then s
  else
    let s := s.wrSat TSU_SERVO_MPD_RAW.NS raw
    let far : Bool := s.tsu.seen && s.rd TSU_SERVO_PD_CFG.PD_STEP_LIMIT < (raw - s.tsu.mpd).natAbs
    if st = 1 then pdApply raw s
    else if st = 2 then
      if far then
        let s := pdWithhold raw s
        if s.rd TSU_SERVO_PD_CFG.PD_STEP_N ≤ s.rd TSU_SERVO_STS.PD_RUN then pathStep 1 (holdover s.tsu.pdMark 0 s) else s
      else pdApply raw (s.wr TSU_SERVO_STS.PD_RUN 0)
    else if far then
      let s := pdWithhold raw s
      match s.tsu.remeasure, s.tsu.waits with
      | some _, _ => raise Irq.TSU_PATH_STEP (modTsu (fun x => { x with remeasure := none }) s)
      | none, some asym => acceptStep asym s
      | none, none => s
    else
      let s := pdApply raw (s.wr TSU_SERVO_STS.PD_RUN 0)
      match s.tsu.remeasure with
      | some n =>
        if s.rd TSU_SERVO_PD_CFG.PD_STEP_N ≤ n + 1 then relock s else modTsu (fun x => { x with remeasure := some (n + 1) }) s
      | none => s

/-- R249: A of port `p`. -/
def asymOf (s : State) (p : Nat) : Int := s.rdS (TSU_P_ASYM.NS p) + s.tsu.asym

/-- The servo runs on source `k` (R254). -/
def servoFrom (s : State) (k : Nat) : Bool := s.flag TSU_SERVO_CFG.EN && s.rd TSU_SERVO_CFG.SRC = k

end Sys2Proof.Machine
end

