-- ==== Sys2Proof/Machine/Cellar.lean ====
section
/-!
DEFINITION. The Cellar's commands: HUSH, sleep and wake (R386 to R393), the RTC, the anchor and the supply (R383, R394, R395), its loss
(R398), and the references (R399, R400).
-/

namespace Sys2Proof.Machine

/-! HUSH -/

/-- CEL_PWR_CTL.HUSH is written 1 (R386, R401). -/
def execHushWrite (t : Nat) (s : State) : Result :=
  let s := s.at t
  if !powered s then .next s
  else
    let s := s.put CEL_PWR_CTL.HUSH true
    match s.cel.entry with
    | some e => .next (modCel (fun c => { c with entry := some { e with hush := some true } }) s)
    | none => .next (hushAsk s)

/-- R386: the tick that HUSH waits for: no span, of a lane's cell or a QUIET one, that began before it is in progress. -/
def execHushEntry (t : Nat) (s : State) : Result :=
  let s := s.at t
  let free : Bool := !asnRuns s || (s.rc = s.mac.tickAt && s.mac.began.all (fun x => x.asn = s.asn || spanOver s x))
  .next (if s.flag CEL_PWR_STS.HUSH_PEND && free && s.rd CEL_PWR_STS.STATE = 0 then hushGo s else s)

/-- CEL_PWR_CTL.HUSH is written 0 (R386, R401). -/
def execHushExit (t : Nat) (s : State) : Result :=
  let s := s.at t
  if !powered s then .next s
  else
    let s := s.put CEL_PWR_CTL.HUSH false
    match s.cel.entry with
    | some e => .next (modCel (fun c => { c with entry := some { e with hush := some false } }) s)
    | none => .next (hushEnd s)

/-! Sleep -/

/-- CEL_SLEEP_CTL is written (R387). An accepted request stops the radios (R388). -/
def execSleepRequest (target key t : Nat) (s : State) : Result :=
  let s := s.at t
  if !powered s || key != 0x534C || (target != 1 && target != 2) then .next s
  else if s.cel.entry.isSome || s.flag SYS_FUSE_STS.BUSY || s.flag SYS_SVN_CTL.BUSY then .next (s.wr CEL_SLEEP_STS.RESULT 4)
  else if wakePending s != 0 then
    .next (celRaise Irq.CEL_SLEEP_ABORT ((s.wr CEL_SLEEP_STS.RESULT 2).wr CEL_SLEEP_STS.ABORT_SRC (wakePending s)))
  else
    let e : SleepEntry := { target := target, before := s.rd CEL_PWR_STS.STATE }
    let s := modCel (fun c => { c with entry := some e }) ((s.wr CEL_SLEEP_STS.RESULT 1).put CEL_SLEEP_STS.BUSY true)
    .next (radiosStop (s.wr CEL_PWR_STS.STATE 2))

/-- R388: DMA and QSPI are quiet: the entry pair is stamped at this tick. -/
def execSleepQuiesceComplete (t : Nat) (s : State) : Result :=
  let s := s.at t
  match s.cel.entry with
  | none => .next s
  | some e =>
    if e.phase != 0 then .next s
    else .next (modCel (fun c => { c with entry := some { e with phase := 1, rtc := c.rtc, tsu := s.tsuNs, ticks := 0 } }) s)

/-- R388, R389: one tick later the isolation clamps engage. -/
def execSleepIsolation (t : Nat) (s : State) : Result :=
  let s := s.at t
  match s.cel.entry with
  | none => .next s
  | some e => if e.phase = 1 && 1 ≤ e.ticks then .next (modCel (fun c => { c with entry := some { e with phase := 2 } }) s) else .next s

/-- R390: the entry is abandoned; a HUSH write of the meantime applies (R401). -/
def sleepAbort (e : SleepEntry) (s : State) : State :=
  let src := wakePending s
  let s := modCel (fun c => { c with entry := none }) ((s.wr CEL_PWR_STS.STATE e.before).put CEL_SLEEP_STS.BUSY false)
  let s := eventsFlow (if e.before = 0 then radiosStart s else s)
  let s := ((s.wr CEL_SLEEP_STS.RESULT 3).wr CEL_SLEEP_STS.ABORT_SRC src).inc CEL_SLEEP_ABORTS
  let s := celRaise Irq.CEL_SLEEP_ABORT s
  match e.hush with
  | some true => hushAsk s
  | some false => hushEnd s
  | none => s

/-- R388, R390: two ticks after the entry pair the wake sources are sampled: the entry aborts, or the core domain is reset, PWR_REQ goes
inactive and the ledger is written. -/
def execSleepWakeSample (t : Nat) (s : State) : Result :=
  let s := s.at t
  match s.cel.entry with
  | none => .next s
  | some e =>
    if e.phase != 2 || e.ticks < 2 then .next s
    else if wakePending s != 0 then .next (sleepAbort e s)
    else
      let s := ledgerNew e.target e.rtc (some e.tsu) false (corePowerOff e.target s)
      .next (powerPins s.cel.good false (s.inc CEL_SLEEPS))

/-- R388: PWR_GOOD has not fallen PG_OFF_MS after PWR_REQ went inactive: the state is entered anyway. -/
def execPgOffTimeout (s : State) : Result :=
  if asleep s && s.cel.good && !s.cel.waking && celPassed s s.cel.reqAt (s.rd CEL_PG_CFG.PG_OFF_MS) then .next (wakeTry (ledgerPut 1 21 1 1 s)) else .next s

/-- R384, R388: PWR_GOOD falls: in WATCH or VAULT as their board does, otherwise into OFF, with PWR_REQ held active. -/
def execPwrGoodFall (t : Nat) (s : State) : Result :=
  if s.cel.off = 4 || !s.cel.good then .next s
  else if asleep s then .next (wakeTry (powerPins false s.cel.req s))
  else
    let s := s.at t
    let hold := s.rd SYS_BOOT_STS.STAGE = 9
    let s := corePowerOff 3 (s.inc CEL_PG_FALLS)
    let s := powerPins false true (modCel (fun c => { c with powerAck := c.powerAck || hold }) s)
    match s.anchor with
    | some a => .next (ledgerNew 3 a.1 (some a.2) true s)
    | none => .next (ledgerNew 3 s.cel.rtc none false s)

/-! Wake -/

/-- R391: the level of WAKE pin `k` has been stable for DEB ticks: it counts, and its edge latches where MODE asks for it. -/
def pinDebounce (k : Nat) (s : State) : State :=
  let high := (s.rd CEL_PIN_STS.WAKE).testBit k
  if s.cel.pinNow.testBit k = high || s.cel.ticks < Store.find 0 s.cel.pinAt k + s.rd (CEL_WAKE_PIN.DEB k) then s
  else
    let s := modCel (fun c => { c with pinNow := putBit c.pinNow k high }) s
    let m := s.rd (CEL_WAKE_PIN.MODE k)
    if (high && (m = 1 || m = 3)) || (!high && (m = 2 || m = 3)) then wakeLatch k s else s

/-- R393: rising edges on WAKE0 are counted, with a debounce of one tick. -/
def pinCount (s : State) : State :=
  let high := (s.rd CEL_PIN_STS.WAKE).testBit 0
  if s.cel.cntNow = high || s.cel.ticks < Store.find 0 s.cel.pinAt 0 + 1 then s
  else (modCel (fun c => { c with cntNow := high }) s).when high (fun s => s.addSat CEL_WATCH_CNT.COUNT 1)

/-- What the levels of the WAKE pins do by this tick. -/
def pinsSettle (s : State) : State := pinCount (s.each (List.range 4) pinDebounce)

/-- WAKE pin `k` takes the level `high`; CEL_PIN_STS shows it while its input buffer is enabled (R391). -/
def wakePin (k : Nat) (high : Bool) (s : State) : State :=
  if !(s.rd CEL_PAD_CFG.WAKE_IN_EN).testBit k || (s.rd CEL_PIN_STS.WAKE).testBit k = high then s
  else
    let s := s.wr CEL_PIN_STS.WAKE (putBit (s.rd CEL_PIN_STS.WAKE) k high)
    pinDebounce k (modCel (fun c => { c with pinAt := Store.put 0 c.pinAt k c.ticks }) s)

/-- R391: a wake source: codes 0 to 3 the level of a WAKE pin changes, 8 PWR_GOOD rises in WATCH or VAULT; codes 4 to 7 have latched where they
occur, and are acted on. -/
def execWakeSource (code : Fin 9) (high : Bool) (s : State) : Result :=
  let k := code.val
  if s.cel.off = 4 then .next s
  else if k < 4 then .next (wakeTry (wakePin k high s))
  else if k = 8 then
    if asleep s && !s.cel.good then .next (wakeTry (wakeLatch 8 s)) else .next s
  else .next (wakeTry s)

/-- R392: PWR_GOOD has not risen within PG_WAIT_MS. -/
def execPgWaitTimeout (s : State) : Result :=
  if !asleep s || !s.cel.waking || !celPassed s s.cel.reqAt (s.rd CEL_PG_CFG.PG_WAIT_MS) then .next s
  else
    let n := bitsOf (s.rd (CEL_LEDGER.W 1)) 22 8
    let s := (ledgerPut 1 22 8 (min (n + 1) 255) s).inc CEL_WAKE_NOPWR
    .next (powerPins s.cel.good false (modCel (fun c => { c with waking := false, backoff := true, backAt := c.ticks }) s))

/-- R392: BACKOFF_S seconds have passed. -/
def execWakeBackoffExpiry (s : State) : Result :=
  .next (if celPassed s s.cel.backAt (1000 * s.rd CEL_PG_CFG.BACKOFF_S) then wakeTry (modCel (fun c => { c with backoff := false }) s) else s)

/-- R393: one comparison of the sampler, when it is enabled. -/
def watchMatches (s : State) (ana pins : Nat) : List Bool :=
  let lo := s.rd CEL_WATCH_ANA.LO
  let hi := s.rd CEL_WATCH_ANA.HI
  (if s.flag CEL_WATCH_CFG.ANA_EN then [(decide (lo ≤ ana) && decide (ana ≤ hi)) != s.flag CEL_WATCH_ANA.OUTSIDE] else [])
    ++ (if s.flag CEL_WATCH_CFG.PAT_EN then [decide (pins &&& s.rd CEL_WATCH_PAT.MASK = s.rd CEL_WATCH_PAT.PATTERN)] else [])
    ++ (if s.flag CEL_WATCH_CFG.CNT_EN then [decide (s.rd CEL_WATCH_THR.CNT_THR ≤ s.rd CEL_WATCH_CNT.COUNT)] else [])

/-- R393: a sample of the WATCH sampler, every 2^PER_LOG2 ticks: WSENSE and the levels of WAKE0 to WAKE3. -/
def execWatchSample (ana pins : Nat) (s : State) : Result :=
  let live := powered s && s.flag CEL_WATCH_CFG.RUN_ACTIVE && s.rd CEL_PWR_STS.STATE ≤ 1
  if (s.cel.off != 1 && !live) || s.cel.ticks < s.cel.watchAt + 2 ^ s.rd CEL_WATCH_CFG.PER_LOG2 then .next s
  else
    let s := modCel (fun c => { c with watchAt := c.ticks }) s
    let s := ((s.wr CEL_WATCH_SAMPLE.ANA ana).wr CEL_WATCH_SAMPLE.PINS pins).inc CEL_WATCH_SAMPLES
    let l := watchMatches s (s.rd CEL_WATCH_SAMPLE.ANA) (s.rd CEL_WATCH_SAMPLE.PINS)
    let hit := !l.isEmpty && (if s.flag CEL_WATCH_CFG.COMB then l.all id else l.any id)
    let s := if hit then s.addSat CEL_WATCH_STS.RUN 1 else s.wr CEL_WATCH_STS.RUN 0
    if s.rd CEL_WATCH_CFG.N ≤ s.rd CEL_WATCH_STS.RUN && hit then
      .next (if live then celRaise Irq.CEL_WATCH_MATCH s else wakeTry (wakeLatch 5 s))
    else .next s

/-! RTC, anchor, supply -/

/-- How many ticks the RTC counts before it wraps. -/
def rtcMod : Nat := 2 ^ 32 * 32768

/-- R394: the RTC at this tick: loaded, or advanced by one tick, with one more or none when the accumulated correction reaches a tick. -/
def rtcAdvance (s : State) : State :=
  if s.cel.setDue then
    let v := s.rd CEL_RTC_SET_S.S * 32768 + s.rd CEL_RTC_SET_TICK.TICK
    (modCel (fun c => { c with setDue := false, rtc := v, trim := 0 }) s).put CEL_STS.RTC_VALID true
  else
    let a := s.cel.trim + s.rdS CEL_TRIM.PPB
    let (n, a) := if 1000000000 ≤ a then (2, a - 1000000000) else if a ≤ -1000000000 then (0, a + 1000000000) else (1, a)
    modCel (fun c => { c with rtc := (c.rtc + n) % rtcMod, trim := a }) s

/-- R385, R391, R394 to R396, R413: an RTC tick: posted writes have taken effect; the WAKE pins settle; one Moraine entry is committed; the RTC, the shadow, the alarm, the age of the anchor, the
exit pair; a pending wake is acted on. -/
def execRtcTick (t : Nat) (s : State) : Result :=
  if s.cel.off = 4 then .next s
  else
    let s := celAt t s
    let before := s.cel.rtc
    let tick (c : Cel) : Cel := { c with ticks := c.ticks + 1, entry := c.entry.map (fun e => { e with ticks := e.ticks + 1 }) }
    let s := pinsSettle ((modCel tick s).put CEL_STS.WR_PEND false)
    let s := rtcAdvance (s.when (powered s) morCommit)
    let s := s.wr CEL_RTC_TICK.TICK (rtcTick s)
    let s := if before / 32768 != s.cel.rtc / 32768 && s.anchor.isSome then s.addSat CEL_ANCHOR_STS.AGE_S 1 else s
    let reached := before < alarmTicks s && alarmTicks s ≤ s.cel.rtc
    let s := s.when reached (fun s => wakeLatch 4 (celRaise Irq.CEL_ALARM s))
    .next (wakeTry (ledgerExit s))

/-- CEL_RTC_CTL.SET is written: the load takes place at the next tick (R394). -/
def execRtcSet (t : Nat) (s : State) : Result :=
  let s := s.at t
  .next (if powered s then modCel (fun c => { c with setDue := true }) s else s)

/-- CEL_RTC_TICK is read, and latches CEL_RTC_S (R385). -/
def execCelRtcTickRead (requester : Requester) (t : Nat) (s : State) : Result :=
  let s := s.at t
  if powered s then .next ((s.wr CEL_RTC_S.S (rtcS s)).answer requester (s.rd CEL_RTC_TICK.TICK)) else .next s

/-- R395: an anchor pair is stamped every ANCHOR_S seconds while the TSU island runs on the TCXO. -/
def execAnchorStamp (t : Nat) (s : State) : Result :=
  let s := s.at t
  if powered s && s.flag TSU_STS.REF && celPassed s s.cel.anchorAt (1000 * s.rd CEL_CFG.ANCHOR_S) then
    let s := modCel (fun c => { c with anchorAt := c.ticks }) s
    .next ({ s with anchor := some (s.cel.rtc, s.tsuNs) }.wr CEL_ANCHOR_STS.AGE_S 0 |>.put CEL_ANCHOR_STS.VALID true)
  else .next s

/-- R383, R402: the sample of each second: VBAT, and the Cellar's temperature. VBAT_LOW is raised when a sample falls below THR. -/
def execVbatSample (level : Nat) (celsius : Int) (s : State) : Result :=
  if s.cel.off = 4 || !celPassed s s.cel.vbatAt 1000 then .next s
  else
    let was := s.flag CEL_VBAT_STS.LOW
    let s := modCel (fun c => { c with vbatAt := c.ticks }) s
    let s := (s.wr CEL_VBAT_STS.LEVEL (min level 255)).wrS CEL_TEMP.C (clampI (-128) 127 celsius)
    let l := s.rd CEL_VBAT_STS.LEVEL
    let low : Bool := 150 + l < 180 + 10 * s.rd CEL_VBAT_CFG.THR
    let s := (s.put CEL_VBAT_STS.LOW low).put CEL_STS.VBAT_PRESENT (30 ≤ l)
    let s := s.when low (wakeLatch 7)
    let s := s.when (low && !was) (fun s => celRaise Irq.CEL_VBAT_LOW (s.inc CEL_VBAT_LOWS))
    .next (wakeTry s)

/-- R383: the load is above the LP limit for more than 1 ms, or no longer is. -/
def execRegLimit (on : Bool) (s : State) : Result :=
  if s.cel.off = 4 || (on && !s.flag CEL_REG_STS.LP) then .next s
  else if !on then .next (s.put CEL_REG_STS.LIMIT false)
  else .next (celRaise Irq.CEL_REG_LIMIT ((s.put CEL_REG_STS.LIMIT true).inc CEL_REG_LIMITS))

/-- R383: the Cellar browns out: every Cellar register, the RTC, the tamper log and the Cellar secret are lost. -/
def execCellarBrownout (s : State) : Result :=
  if s.cel.off = 4 then .next s
  else
    let s := corePowerOff 4 s
    .next { s with cellar := [], anchor := none, cel := { off := 4, fresh := false, good := false, req := false } }

/-- R398: the Cellar powers up from nothing; a power-on reset follows when PWR_GOOD rises. -/
def execCellarPowerUp (vbat : Bool) (s : State) : Result :=
  if s.cel.off != 4 then .next s
  else
    let s := { s with cellar := [], anchor := none, cel := { off := 3, fresh := true, good := false, req := false } }
    .next ((powerPins false true s).put CEL_STS.VBAT_PRESENT vbat)

/-! References -/

/-- R399: the radios lose the TCXO: front ends in OFF with EN cleared, the ASN stopped, the servo FREE. -/
def tcxoLost (s : State) : State :=
  let s := s.each (List.range 4) (fun n s => (if feState s n = 0 then s else feStop n s).put (RFE_CTL.EN n) false)
  let s := (s.put TSU_ASN_STS.START_PEND false).put TSU_ASN_STS.STOP_PEND false
  let s := if asnRuns s then (setRun false s).each (List.range 4) (spansEnd true) else s
  replan (servoGo 0 (s.put TSU_SERVO_CFG.EN false))

/-- R399: reference `r` (0 to 2) is lost: its islands switch to the oscillator, and the effects follow. -/
def refLost (r : Nat) (present : Bool) (s : State) : State :=
  let s := (s.wr CLK_LOSS_RC.RC s.rc32).inc (if r = 0 then CLK_TCXO_LOSS else if r = 1 then CLK_SERDES_LOSS else CLK_PCIE_LOSS)
  let s := refMissing r ((refShow r present false s).each (refIslands r) islandToRc)
  match r with
  | 0 => tcxoLost s
  | 1 => laneSet 1 false (laneSet 0 false (ethDown 1 (ethDown 0 s)))
  | _ => s

/-- R399: the monitor's check of every 100 µs: the mask of the references with edges, that of the islands whose PLL has unlocked, the deviation
of each reference from the internal oscillator, and of references 1 to 3 from the TCXO, ppm, and that of the oscillator, 0.01 %. A reference
that stops and a PLL that unlocks are seen at once. -/
def execClockMonitorCheck (present unlocked : Nat) (dev ppm : List Int) (rcErr : Int) (keyOp : Bool) (t : Nat) (s : State) : Result :=
  let s := s.at t
  let shown (r : Nat) : Bool := (s.rd CLK_STS.REF_OK).testBit r
  let urgent : Bool := unlocked % 64 != 0 || [0, 1, 2].any (fun r => shown r && !present.testBit r)
  if !powered s || !s.boot.clockDone || !(urgent || s.reached (s.boot.monAt + 100000)) then .next s
  else
    let ok := refsIn (tolPpm s) present dev
    let far : Bool := !(refsIn 50000 present dev).testBit 0
    let s := modBoot (fun b => { b with monAt := s.rc }) s
    let s := (s.wrS CLK_RC_MEAS.ERR rcErr).each (List.range 4) (fun r s => s.wrS (CLK_REF_PPM.PPM r) (if r = 0 then dev.getD 0 0 else ppm.getD r 0))
    let un := (bitList 6 unlocked).filter (fun k => s.flag (CLK_ISL_STS.ON_REF k))
    let s := s.each un (fun k s => s.inc (CLK_ISL_UNLOCKS k))
    let bad (r : Nat) : Bool := shown r && (!ok.testBit r || (refIslands r).any un.contains)
    let s := s.each ([0, 1, 2].filter bad) (fun r s => refLost r (present.testBit r) s)
    .next (if far && bad 0 && s.cave.tcxoOk then rindTrip [5] keyOp s else s)

/-- R399: reference `r` is checked again, and taken when it passes and its PLLs lock within 200 µs. -/
def refAgain (ok lockUs r : Nat) (s : State) : State :=
  if (s.rd CLK_STS.REF_OK).testBit r then s
  else
    let s := s.inc CLK_RECHECKS
    if ok.testBit r && lockUs ≤ 200 then raise Irq.CLK_REF_BACK (refTake r lockUs s) else s

/-- R399: every 10 ms, while AUTO_RET is 1, missing references are checked again. -/
def execRefRecheckTimer (present : Nat) (dev : List Int) (lockUs t : Nat) (s : State) : Result :=
  let s := s.at t
  if powered s && s.boot.clockDone && s.flag CLK_CFG.AUTO_RET && s.reached (s.boot.recheckAt + 10000000) then
    .next ((modBoot (fun b => { b with recheckAt := s.rc }) s).each [0, 1, 2] (refAgain (refsIn (tolPpm s) present dev) lockUs))
  else .next s

/-- CLK_REF_CTL.RECHECK is written (R399). -/
def execClkRefRecheck (mask present : Nat) (dev : List Int) (lockUs t : Nat) (s : State) : Result :=
  let s := s.at t
  if powered s && s.boot.clockDone then .next (s.each ([0, 1, 2].filter mask.testBit) (refAgain (refsIn (tolPpm s) present dev) lockUs)) else .next s

/-- R400: the crystal runs within ±5 %. -/
def xtalGood (s : State) : State :=
  let s := modCel (fun c => { c with intOsc := false, xtalOk := true }) s
  if !powered s then s
  else
    let s := islandToRef 0 5 (refShow 3 true true s)
    let s := (s.put CLK_XTAL_STS.RUN true).put CLK_XTAL_STS.FAIL false
    if rawSet s 5 then faultEnd 5 s else s

/-- R400: XTAL_FAIL is in force: the CLK registers and the fault source show it while the core has power, else the ledger does. -/
def xtalShow (s : State) : State :=
  if !powered s then ledgerPut 1 30 1 1 s
  else if s.flag CLK_XTAL_STS.FAIL then s
  else
    let s := islandToRc 5 (refShow 3 false false s)
    let s := ((s.put CLK_XTAL_STS.RUN false).put CLK_XTAL_STS.FAIL true).inc CLK_XTAL_FAILS
    faultBegin 5 {} (raise Irq.CLK_XTAL_FAIL s)

/-- R336, R400: the crystal has stopped or left ±5 %: once accepted, the RTC and the sampling run from the internal oscillator, and sensor 5
trips. -/
def xtalBad (keyOp : Bool) (s : State) : State :=
  if !s.cel.xtalOk then s
  else if s.cel.intOsc then xtalShow s
  else rindTrip [5] keyOp (xtalShow (celRaise Irq.CEL_XTAL_FAIL (modCel (fun c => { c with intOsc := true }) s)))

/-- R336, R400: the Cellar checks the crystal. -/
def execXtalCheck (ok keyOp : Bool) (t : Nat) (s : State) : Result :=
  if s.cel.off = 4 then .next s else .next (if ok then xtalGood (celAt t s) else xtalBad keyOp (celAt t s))

/-- R394: a measurement of the crystal against TSU time ends, after its window of 2^WIN_LOG2 s. -/
def execXtalMeasure (ppb : Int) (t : Nat) (s : State) : Result :=
  let s := s.at t
  let due := s.reached (s.boot.xtalAt + 2 ^ s.rd CLK_XTAL_CFG.WIN_LOG2 * 1000000000)
  if !powered s || !s.flag CLK_XTAL_CFG.EN || !s.flag CLK_XTAL_STS.RUN || !due then .next s
  else
    let s := modBoot (fun b => { b with xtalAt := s.rc }) s
    let s := (s.wrS CLK_XTAL_MEAS.PPB ppb).put CLK_XTAL_STS.DISCIPLINED (s.rd TSU_SERVO_STS.STATE = 2)
    let s := if s.flag CEL_RTC_CTL.AUTO_TRIM then s.wrS CEL_TRIM.PPB (clampI (-250000) 250000 ppb) else s
    .next (raise Irq.CLK_XTAL_MEAS_DONE (s.inc CLK_XTAL_MEASURES))

end Sys2Proof.Machine
end

