-- ==== Sys2Proof/Machine/Channelizer.lean ====
section
/-!
DEFINITION. The commands of omnichannel reception (R67 to R91).
-/

namespace Sys2Proof.Machine

/-- The matches of R77 on a logical front end, plan and channel, the open window for a node's ack among them (R107): it counts as an RX
cell of the node with the window's centre as its nominal start. -/
def arrivals (s : State) (n p c : Nat) : List Match :=
  let acks := (List.range 4).filterMap (fun l =>
    match (Store.find {} s.lanes l).wait with
    | some w =>
      if l = n && w.plan = p && w.chan = c then
        some { sf := 64, tt := w.tt, nix := w.nix, asn := w.asn, start := (w.endAt : Int) + s.rd (MAC_TT_RXACK.RX_ACK_DELAY w.tt) * 1000 }
      else none
    | none => none)
  rxMatches s n p c ++ acks

/-- Half the guard window of a match, ns: GUARD, or half of ACK_WAIT in the window for an ack (R95, R107). -/
def guardNs (s : State) (m : Match) : Nat :=
  if m.sf = 64 then s.rd (MAC_TT_RXACK.ACK_WAIT m.tt) * 500 else s.rd (MAC_TT_GUARD.GUARD m.tt) * 1000

/-- The class of a preamble (R77): 0 A, 1 B, 2 C. A SHARED cell has no peer (R126). -/
def preambleClass (s : State) (est : Int) : Option Match → Nat
  | none => 2
  | some m =>
    let d := (est - m.start).natAbs
    if d ≤ guardNs s m then 0
    else if d ≤ oogLimit s m.tt * 1000 && m.typ != 3 && (s.node m.nix).pinned then 1
    else 2

/-- Slice `k` may be claimed now: FREE for 81.4 ns or more (R83). -/
def sliceFree (s : State) (k : Nat) : Bool :=
  s.rd (CHZ_SLICE_STS.STATE k) = 0 && ((sliceOf s k).freed = 0 || (sliceOf s k).freed * 10 + 814 ≤ s.rc * 10)

/-- The slices a preamble may use, in the order it is given them (R76). DESIGN CHOICE (log entry 29): the lowest of SL000 to SL031 for OFDM, and
the lowest of SL(OFDM_RES) to SL031 for another class. -/
def sliceOrder (s : State) (ofdm : Bool) : List Nat :=
  let res := s.rd CHZ_CFG.OFDM_RES
  if ofdm then List.range 32
  else (List.range 96).map (fun k => 32 + k) ++ (List.range (32 - res)).map (fun k => res + k)

/-- R78: a newcomer of class `c` and preamble SNR `q` may take slice `k`. -/
def mayTake (s : State) (c q k : Nat) : Bool :=
  let st := s.rd (CHZ_SLICE_STS.STATE k)
  let v := s.rd (CHZ_SLICE_STS.CLASS k)
  match c with
  | 0 => (st = 1 && (v = 1 || v = 2)) || (st = 2 && v = 2)
  | 1 => v = 2 && (st = 1 || st = 2)
  | _ => st = 1 && v = 2 && (sliceOf s k).q + s.rd CHZ_ARB.Q_HYST ≤ q

/-- R78: slice `a` is taken before slice `b`: lowest class, then SYNC before FRAME, then lowest Q, then the most recent detection. -/
def takenBefore (s : State) (a b : Nat) : Bool :=
  let ca := s.rd (CHZ_SLICE_STS.CLASS a)
  let cb := s.rd (CHZ_SLICE_STS.CLASS b)
  let sa := s.rd (CHZ_SLICE_STS.STATE a)
  let sb := s.rd (CHZ_SLICE_STS.STATE b)
  let x := sliceOf s a
  let y := sliceOf s b
  if ca != cb then cb < ca
  else if sa != sb then sa < sb
  else if x.q != y.q then x.q < y.q
  else if x.det != y.det then y.det < x.det
  else y.sniffer < x.sniffer

/-- The victim among the eligible slices; a withdrawn slice takes no newcomer (R35). -/
def victim (s : State) (c q : Nat) (l : List Nat) : Option Nat :=
  (l.filter (fun k => !(sliceOf s k).leaving && mayTake s c q k)).foldl (fun best k =>
    match best with
    | none => some k
    | some b => if takenBefore s k b then some k else some b) none

/-- Slice `k` is claimed for a preamble (R83): it enters SYNC. -/
def sliceClaim (k fe plan chan cls c : Nat) (v : Slice) (s : State) : State :=
  let s := if sliceBusy s k then s else s.inc CHZ_SLICE_BUSY.BUSY
  let s := s.peak CHZ_SLICE_PEAK.PEAK (s.rd CHZ_SLICE_BUSY.BUSY)
  let s := (s.wr (CHZ_SLICE_STS.STATE k) 1).wr (CHZ_SLICE_STS.CLASS k) c
  let s := ((s.wr (CHZ_SLICE_STS.FE k) fe).wr (CHZ_SLICE_STS.PLAN k) plan).wr (CHZ_SLICE_STS.CHAN k) chan
  modSlice k (fun _ => v) (s.wr (CHZ_SLICE_STS.PHYC k) cls)

/-- R80: a preamble that obtains no slice is counted once. -/
def preambleLost (ofdm : Bool) (c : Nat) (s : State) : State :=
  if ofdm then s.inc CHZ_LOST_OFDM
  else if c = 0 then raise Irq.CHZ_LOSS_A (s.inc CHZ_LOST_A)
  else if c = 1 then s.inc CHZ_LOST_B
  else s.inc CHZ_LOST_C

/-- Logical front end `n` is receiving: its window is served by a front end in RX that is not blanked (R42, R54, R61). -/
def receives (s : State) (n : Nat) : Bool :=
  let p := physOf s n
  feState s p = 2 && !blanked s p && (p != n || !(((s.feOf n).covers && s.rd (RFE_COVER_STS.PHASE n) != 0) || (s.feOf n).homeDue))

/-- The slice that holds the detection this one merges with (R81): same plan, channel and class, another front end, within 2 symbols. -/
def dupSlice (s : State) (fe plan chan cls : Nat) : Option Nat :=
  (List.range 128).find? (fun k => sliceBusy s k && s.rd (CHZ_SLICE_STS.FE k) != fe && s.rd (CHZ_SLICE_STS.PLAN k) = plan
    && s.rd (CHZ_SLICE_STS.CHAN k) = chan && s.rd (CHZ_SLICE_STS.PHYC k) = cls && s.rc ≤ (sliceOf s k).det + symsNs cls 2)

/-- What a slice takes over from plan `plan` and class `cls` as it is claimed at RC (R75, R91): the plan's settings in force; a frame already
on a slice completes under the settings it started with. -/
def sliceSet (s : State) (plan cls : Nat) (v : Slice) : Slice :=
  { v with
    maxPsdu := (planNow s plan).maxPsdu
    preLen := (planNow s plan).preLen
    sfdBy := s.rc + sfdWaitNs cls (s.rd (CHZ_CLASS_CFG.PRE_MAX cls)) }

/-- R78: the victim's partial frame is discarded: its engine is free again, and it is counted by its state. -/
def preempt (k : Nat) (s : State) : State :=
  let s := engineFree (sliceOf s k).engine s
  if s.rd (CHZ_SLICE_STS.STATE k) = 1 then s.inc CHZ_PREEMPT_SYNC else s.inc CHZ_PREEMPT_FRAME

/-- R81: the slice takes its input from logical front end `n`, where the later detection of SNR `q` was. -/
def sliceSwitch (k n q : Nat) (s : State) : State :=
  modSlice k (fun v => { v with cover := physOf s n != n, phys := physOf s n, q := q }) (s.wr (CHZ_SLICE_STS.FE k) n)

/-- Where the preamble that is declared now began, ns of RC (R74). -/
def detStart (s : State) (cls : Fin 11) (stfPeak : Nat) : Int :=
  let back := if cls.val = 10 then 5 else s.rd (CHZ_CLASS_CFG.DET_SYM cls)
  if isOfdm cls then stfPeak else (s.rc : Int) - symsNs cls back

/-- R436: the detection is kept for 2 ms. -/
def detLog (plan chan cls : Nat) (est : Int) (s : State) : State :=
  { s with mac := { s.mac with dets := ⟨plan, chan, cls, est, s.rc⟩ :: s.mac.dets.filter (fun d => s.rc ≤ d.at_ + 2000000) } }

/-- R74 to R82: a sniffer declares a preamble of SNR `q`, at least DET_THR, on logical front end `fe`. `stfPeak` is the correlation peak of
an OFDM preamble, ns of RC. -/
def execPreambleDetect (fe : Fin 4) (plan : Fin 16) (chan : Nat) (cls : Fin 11) (q sniffer stfPeak t : Nat) (s : State) : Result :=
  let s := s.at t
  let n := fe.val
  if !sniffs s ⟨plan, chan, cls, n⟩ || q < s.rd (CHZ_CLASS_CFG.DET_THR cls) || !receives s n then .next s
  else
    let s := (s.inc (CHZ_DET n)).inc (CHZ_PLAN_DET plan)
    let ofdm := isOfdm cls
    let s := detLog plan chan cls (detStart s cls stfPeak) s
    let merged := if s.flag CHZ_CFG.DUP_EN then dupSlice s n plan chan cls else none
    match merged with
    | some k =>
      let s := s.inc (CHZ_DUP_SUP n)
      let s := modSlice k (fun v => { v with dup := true }) s
      .next (if (sliceOf s k).q < q && s.rd (CHZ_SLICE_STS.STATE k) = 1 then sliceSwitch k n q s else s)
    | none =>
      let est := detStart s cls stfPeak
      let m := nearest est (arrivals s n plan chan)
      let c := preambleClass s est m
      let v := sliceSet s plan cls
        { q := q, det := s.rc, sniffer := sniffer, est := est, cover := physOf s n != n, phys := physOf s n, cell := m }
      let order := sliceOrder s ofdm
      match order.find? (sliceFree s) with
      | some k => .next (sliceClaim k n plan chan cls c v s)
      | none =>
        match if s.flag CHZ_ARB.PREEMPT_EN then victim s c q order else none with
        | some k => .next (sliceClaim k n plan chan cls c v (preempt k s))
        | none => .next (preambleLost ofdm c s)

/-- R75: slice `k` is released for want of an SFD. -/
def sfdGone (k : Nat) (s : State) : State := sliceRelease k (s.inc (CHZ_NO_SFD (s.rd (CHZ_SLICE_STS.FE k))))

/-- R74, R75, R83, R86, R88: the SFD (or the end of the long training field) is found, no earlier than the acquisition allows. `ts` is the RMARKER
time in ns of RC, the class's fixed pipeline delay taken off; CHZ_TS_OFS is taken off here. DESIGN CHOICE (log entry 29): a frame that some RX
cell of the three slots matches is beyond the limit, never without a cell. One that comes after the timeout finds the slice released. -/
def execSfdFound (slice : Fin 128) (ts t : Nat) (s : State) : Result :=
  let s := s.at t
  let k := slice.val
  let c := s.rd (CHZ_SLICE_STS.PHYC k)
  if s.rd (CHZ_SLICE_STS.STATE k) != 1 || !s.reached ((sliceOf s k).det + symsNs c (acqSyms c)) then .next s
  else if s.tsu.rcOn && (sliceOf s k).sfdBy < s.rc then .next (sfdGone k s)
  else
    let n := s.rd (CHZ_SLICE_STS.FE k)
    let p := s.rd (CHZ_SLICE_STS.PLAN k)
    let r := ((ts : Int) - s.rdS (CHZ_TS_OFS.OFS n)).toNat
    let shr := shrNs c (sliceOf s k).preLen
    let m := nearest ((r : Int) - shr) (arrivals s n p (s.rd (CHZ_SLICE_STS.CHAN k)))
    let ofs : Int := match m with | some m => (r : Int) - (m.start + shr) | none => 0
    let case := match m with | some m => oogCase s m.tt ofs | none => .noCell
    let s := s.wr (CHZ_SLICE_STS.STATE k) 2
    .next (modSlice k (fun v => { v with ts := r, offset := ofs, cell := m, case := case }) s)

/-- R75: no SFD within the timeout. -/
def execSfdTimeout (slice : Fin 128) (t : Nat) (s : State) : Result :=
  let s := s.at t
  .next (if s.rd (CHZ_SLICE_STS.STATE slice) = 1 && s.reached (sliceOf s slice).sfdBy then sfdGone slice s else s)

/-- An MCS that R70 gives the class's option. -/
def mcsValid (c m : Nat) : Bool :=
  match c with
  | 6 => m ≤ 3
  | 7 => m ≤ 5
  | 8 => 1 ≤ m && m ≤ 6
  | 9 => 2 ≤ m && m ≤ 6
  | _ => true

/-- R84: the decoded PHR is checked; a failing one frees the slice at once. FEC is decoded on 2-FSK only; a coded 4-FSK frame goes on
uncoded, and its FCS fails (R71). -/
def execPhrCheck (slice : Fin 128) (modeSwitch hcsOk : Bool) (len mcs : Nat) (fcs4 dw fec : Bool) (t : Nat) (s : State) : Result :=
  let s := s.at t
  let k := slice.val
  if s.rd (CHZ_SLICE_STS.STATE k) != 2 then .next s
  else
    let n := s.rd (CHZ_SLICE_STS.FE k)
    let c := s.rd (CHZ_SLICE_STS.PHYC k)
    if modeSwitch && c ≤ 5 then .next (sliceRelease k (s.inc (CHZ_MODE_SW n)))
    else if isOfdm c && (!hcsOk || !mcsValid c mcs) then .next (sliceRelease k (s.inc (CHZ_PHR_ERR n)))
    else if (sliceOf s k).maxPsdu < len || len < (if fcs4 then 6 else 4) then
      .next (sliceRelease k (s.inc (CHZ_LEN_ERR n)))
    else .next (modSlice k (fun v => { v with
      len := len
      fcs4 := fcs4
      dw := dw
      mcs := if isOfdm c then mcs else 0
      fec := fec && c ≤ 3
      uncoded := fec && (c = 4 || c = 5) }) s)

/-- The slice report of R90. DESIGN CHOICE (log entry 29): OFFSET is rounded down to whole µs, and SF reads 0 for a frame matched with the
window for a node's ack, which no slotframe of its own holds. -/
def sliceReport (s : State) (k : Nat) (case : OogCase) (fcsOk : Bool) (rssi : Int) (lqi : Nat) : List Nat :=
  let v := sliceOf s k
  let cell := if case = .noCell then none else v.cell
  let asn := match cell with | some m => m.asn | none => asnOf s v.ts
  let ofsUs : Int := clampI (-131072) 131071 (v.offset / 1000)
  let ofs := if case = .noCell then 0 else unsg 18 ofsUs
  let tt := match cell with | some m => m.tt | none => 0
  let sf := match cell with | some m => m.sf % 64 | none => 0
  [v.ts % 2 ^ 32, asn % 2 ^ 32,
   asn / 2 ^ 32 % 2 ^ 8 + ofs * 2 ^ 8 + ofBool (case = .inGuard) * 2 ^ 26 + ofBool (case = .inLimit) * 2 ^ 27
     + ofBool (case = .noCell) * 2 ^ 28 + tt % 8 * 2 ^ 29,
   sf + s.rd (CHZ_SLICE_STS.PLAN k) * 2 ^ 6 + s.rd (CHZ_SLICE_STS.CHAN k) * 2 ^ 10 + s.rd (CHZ_SLICE_STS.FE k) * 2 ^ 19 + k * 2 ^ 21
     + s.rd (CHZ_SLICE_STS.CLASS k) * 2 ^ 28 + ofBool v.cover * 2 ^ 31,
   unsg 10 rssi + lqi % 256 * 2 ^ 10 + v.q % 256 * 2 ^ 18 + s.rd (CHZ_SLICE_STS.PHYC k) * 2 ^ 26 + ofBool v.dup * 2 ^ 30,
   v.len % 2 ^ 11 + ofBool v.fcs4 * 2 ^ 11 + ofBool v.dw * 2 ^ 12 + ofBool fcsOk * 2 ^ 13 + v.mcs * 2 ^ 14 + ofBool v.fec * 2 ^ 17]

/-- The RSSI that physical front end `p` reports, 0.25 dB (R87): `pwr`, corrected for its gain, with RFE_RSSI_OFS. -/
def rssiOf (s : State) (p : Nat) (pwr : Int) : Int := clampI (-512) 511 (pwr + s.rdS (RFE_RSSI_OFS.OFS p))

/-- LQI of an SNR in 0.001 dB (R87): clamp(round(8.5 × (SNR + 5)), 0, 255). DESIGN CHOICE (log entry 29): halves round up. -/
def lqiOf (snr : Int) : Nat := (clampI 0 255 ((17 * snr + 86000) / 2000)).toNat

/-- The symbols between the last of the PSDU and the end of the frame's decoding (R83). -/
def tailSyms (fec : Bool) : Nat := if fec then 8 else 2

/-- R23, R85: the island-to-fabric FIFO is full: the frame from logical front end `n` is lost. -/
def fifoOvf (n : Nat) (s : State) : State := faultEvent 68 { detail := n } (raise Irq.CHZ_FIFO_OVF (s.inc (CHZ_FIFO_OVF n)))

/-- R83, R85: the frame is demodulated, 2 symbols after its last one, 8 with FEC. `room` is false when the island-to-fabric FIFO is full
(R23), `relayRoom` when a STANDBY's relay queue is (R436). `pwr` is the mean power in the channel, 0.25 dB, `snr` the SNR over the PSDU,
0.001 dB, `hdr` the frame's MAC content. -/
def execSliceFrameEnd (slice : Fin 128) (fcsOk room relayRoom : Bool) (pwr snr : Int) (hdr : MacHdr) (t : Nat) (s : State) : Result :=
  let s := s.at t
  let k := slice.val
  if s.rd (CHZ_SLICE_STS.STATE k) != 2 then .next s
  else
    let v := sliceOf s k
    let c := s.rd (CHZ_SLICE_STS.PHYC k)
    let n := s.rd (CHZ_SLICE_STS.FE k)
    let rssi := rssiOf s v.phys pwr
    let lqi := lqiOf snr
    let fcsOk := fcsOk && !v.uncoded
    let ward := wardOf s hdr.pan
    let case := if ward.isNone then .noCell else v.case
    let rep := sliceReport s k case fcsOk rssi lqi
    let f : RxFrame := {
      slice := k
      phys := v.phys
      fe := n
      plan := s.rd (CHZ_SLICE_STS.PLAN k)
      chan := s.rd (CHZ_SLICE_STS.CHAN k)
      phyc := c
      mcs := v.mcs
      start := (v.ts : Int) - shrNs c v.preLen
      endAt := s.rc - symsNs c (tailSyms v.fec)
      cell := if case = .noCell then none else v.cell
      case := case
      offset := if case = .noCell then 0 else v.offset
      rssi := rssi
      lqi := lqi
      len := v.len
      fcs4 := v.fcs4
      report := rep
      hdr := hdr
      acked := case = .noCell
      engine := v.engine
      aborted := v.aborted }
    let passed := fcsOk && room
    let s := sliceRelease k (if passed then modSlice k (fun v => { v with engine := none }) s else s)
    if !fcsOk then
      let s := s.inc (CHZ_FCS_ERR n)
      .next (if !s.flag CHZ_CFG.BADFCS_HOST then s
        else if !room then fifoOvf n s
        else rxRadio ward { len := v.len, words := rep, why := 4, buf := .psdu hdr false } (s.inc (CHZ_SLICE_FRAMES k)))
    else
      let s := s.inc (CHZ_RX_OK n)
      if !room then .next (fifoOvf n s)
      else if roleOf s = roleFenced then .next s else
      let s := s.inc (CHZ_SLICE_FRAMES k)
      let s := match case with
        | .inGuard => s
        | .inLimit => s.inc (CHZ_OOG_IN n)
        | .beyond => s.inc (CHZ_OOG_OUT n)
        | .noCell => s.inc (CHZ_NOCELL n)
      .next (if roleOf s = roleStandby then (if s.flag PAIR_CFG.RELAY_RADIO then relay PAIR_RLY_RADIO_TX relayRoom s else s) else { s with mac := { s.mac with rx := s.mac.rx ++ [f] } })

/-- R79: the fabric's lookup of the sender `src` in PAN `pan`, for the frame whose RMARKER is `ts`, arrives. It has no effect on a slice
that no longer holds that frame. -/
def execClassUpResult (slice : Fin 128) (pan : Nat) (src : Addr) (ts t : Nat) (s : State) : Result :=
  let s := s.at t
  let k := slice.val
  let pinned := match (wardOf s pan).bind (fun w => srcRecord s w src) with | some x => (s.node x).pinned | none => false
  .next
    (if pinned && s.flag CHZ_ARB.CLASS_UP_EN && s.rd (CHZ_SLICE_STS.STATE k) = 2 && s.rd (CHZ_SLICE_STS.CLASS k) = 2
        && (sliceOf s k).ts = ts then
      (s.wr (CHZ_SLICE_STS.CLASS k) 1).inc CHZ_CLASS_UP
    else s)

/-- R70: PHY class `c` is valid with spacing code `sp`. -/
def classSpacing (c sp : Nat) : Bool := sp = [0, 0, 1, 1, 1, 2, 4, 3, 1, 0, 5].getD c 6

/-- R70: PHY class `c` is valid on front end `n`. -/
def classFe (c n : Nat) : Bool :=
  if n = 2 then c = 10 else if n = 3 then c ≤ 4 || (7 ≤ c && c ≤ 9) else c ≤ 9

/-- A write to plan `p` was clamped (R91). -/
def planClamped (p : Nat) (b : Bool) (s : State) : State := if b then raise Irq.CHZ_PLAN_CLAMP (s.put (CHZ_PLAN_STS.CLAMPED p) true) else s

/-- The two clamps of R70, on the plan's registers as they stand; with class 10 MAX_PSDU is at most 127 (R84, R91). -/
def planClamp (p : Nat) (s : State) : State :=
  let sp := s.rd (CHZ_PLAN_GEO.SPACING p)
  let m := s.rd (CHZ_PLAN_PHY.CLASS_MASK p)
  let m' := ((bitList 11 m).filter (fun c => classSpacing c sp)).foldl setBit 0
  let f := s.rd (CHZ_PLAN_FE.FE_MASK p)
  let f' := if m' = 0 then f else ((bitList 4 f).filter (fun n => (bitList 11 m').any (fun c => classFe c n))).foldl setBit 0
  let s := (s.wr (CHZ_PLAN_PHY.CLASS_MASK p) m').wr (CHZ_PLAN_FE.FE_MASK p) f'
  let long := m'.testBit 10 && 127 < s.rd (CHZ_PLAN_GEO.MAX_PSDU p)
  let s := if long then s.wr (CHZ_PLAN_GEO.MAX_PSDU p) 127 else s
  planClamped p (m != m' || f != f' || long) s

/-- A plan register is written (R70, R91): its fields are clamped, then the plan's clamps are applied. -/
def execChzPlanWrite (plan : Fin 16) (reg : PlanReg) (value : Word) (t : Nat) (s : State) : Result :=
  let s := s.at t
  let p := plan.val
  let v := value.toNat
  match reg with
  | .fe =>
    let s := ((s.wr (CHZ_PLAN_FE.FE_MASK p) v).wr (CHZ_PLAN_FE.EN p) (v / 2 ^ 4)).wr (CHZ_PLAN_FE.ALWAYS p) (v / 2 ^ 5)
    .next (replan (planClamp p s))
  | .f0 => .next (replan (s.wr (CHZ_PLAN_F0.F0_KHZ p) v))
  | .geo =>
    let s := (s.wr (CHZ_PLAN_GEO.SPACING p) (min 5 (bitsOf v 0 3))).wr (CHZ_PLAN_GEO.COUNT p) (clampN 1 400 (bitsOf v 4 9))
    let s := s.wr (CHZ_PLAN_GEO.MAX_PSDU p) (clampN 4 2047 (bitsOf v 16 11))
    let cut : Bool := 5 < bitsOf v 0 3 || bitsOf v 4 9 = 0 || 400 < bitsOf v 4 9 || bitsOf v 16 11 < 4
    .next (replan (planClamp p (planClamped p cut s)))
  | .phy =>
    let s := ((s.wr (CHZ_PLAN_PHY.CLASS_MASK p) (bitsOf v 0 11)).wr (CHZ_PLAN_PHY.HIDX p) (v / 2 ^ 12)).wr (CHZ_PLAN_PHY.SFD_SET p) (v / 2 ^ 13)
    let s := (s.wr (CHZ_PLAN_PHY.FEC_RSC p) (v / 2 ^ 14)).wr (CHZ_PLAN_PHY.INTLV p) (v / 2 ^ 15)
    let s := s.wr (CHZ_PLAN_PHY.PRE_LEN p) (clampN 4 255 (bitsOf v 16 8))
    .next (replan (planClamp p (planClamped p (bitsOf v 16 8 < 4) s)))

/-- EFF of template `t` follows the template, the slot length and LIMIT (R89). DESIGN CHOICE (log entry 29): it shows the limit rounded down to
10 µs, while offsets are held against the limit in whole µs; and it reads 0, its Reset column, until the first such write. -/
def oogView (t : Nat) (s : State) : State := s.wr (CHZ_OOG.EFF t) (oogLimit s t / 10)

/-- CHZ_OOG.LIMIT of a template is written (R89). DESIGN CHOICE (log entry 29): where GUARD or LEN_US / 2 is no multiple of 10 µs, LIMIT is
raised to GUARD rounded up and lowered to LEN_US / 2 rounded down. -/
def execChzOogWrite (template : Fin 8) (limit t : Nat) (s : State) : Result :=
  let s := s.at t
  let k := template.val
  let l := min 10000 (limit % 2 ^ 14)
  let v := if l = 0 then 0 else min (max l (ceilDiv (s.rd (MAC_TT_GUARD.GUARD k)) 10)) (lenUs s / 20)
  .next (oogView k (s.wr (CHZ_OOG.LIMIT k) v))

/-- R91: the spectrum monitor ends an averaging interval of 2^AVG ms: mean and highest power of the bins from START, dBm at the port. DESIGN
CHOICE (log entry 29): RFE_RSSI_OFS, rounded down to whole dB, is added to MAX as to PWR. -/
def execSpectrumInterval (bins : List (Int × Int)) (t : Nat) (s : State) : Result :=
  let s := s.at t
  let e := s.specAt + 2 ^ s.rd CHZ_SPEC_CTL.AVG * 1000000
  let n := s.rd CHZ_SPEC_CTL.FE
  let last := if n = 2 then 83 else if n = 3 then 199 else 399
  let ofs := s.rdS (RFE_RSSI_OFS.OFS n) / 4
  if !s.flag CHZ_SPEC_CTL.RUN || !s.reached e then .next s
  else .next ({ s with specAt := e }.each (List.range 128) (fun i s =>
    let gone := last < s.rd CHZ_SPEC_CTL.START + i
    let b := bins.getD i (-128, -128)
    let p : Int := if gone then -128 else clampI (-128) 127 (b.1 + ofs)
    let m : Int := if gone then -128 else clampI (-128) 127 (b.2 + ofs)
    (s.wrS (CHZ_SPEC.PWR i) p).wrS (CHZ_SPEC.MAX i) m))

/-- CHZ_SLICE_PEAK is read and clears (R91). -/
def execChzSlicePeakRead (requester : Requester) (s : State) : Result :=
  .next ((s.answer requester (s.rd CHZ_SLICE_PEAK.PEAK)).wr CHZ_SLICE_PEAK.PEAK 0)

end Sys2Proof.Machine
end

