-- ==== Sys2Proof/Machine/Timebase.lean ====
section
/-!
DEFINITION. The timebase: latched reads (R246), the PTP engine (R250 to R253), the servo's commands (R254 to R258), steps and slews (R259,
R260), pulses and captures (R264, R265).
-/

namespace Sys2Proof.Machine

/-- Latch `k` of requester `q` takes `v`: 1 TSU_EPOCH, 2 TSU_NS_HI, 3 to 5 TSU_MAP, 6 and 7 TSU_TIME (R246). -/
def latchSet (q k v : Nat) (s : State) : State := { s with latch := Store.put 0 s.latch (q * 16 + k) v }

/-- TSU_NS_LO is read (R246). -/
def execTsuNsLoRead (requester : Requester) (t : Nat) (s : State) : Result :=
  let s := s.at t
  let q := requester.val
  let s := latchSet q 2 (s.rc / 2 ^ 48 % 2 ^ 16) (latchSet q 1 (s.rc / 2 ^ 32 % 2 ^ 16) (s.answer q s.rc32))
  .next (latchSet q 5 (s.tsuSec / 2 ^ 32) (latchSet q 4 (s.tsuSec % 2 ^ 32) (latchSet q 3 s.tsuFrac s)))

/-- TSU_TIME_NS is read (R246). -/
def execTsuTimeNsRead (requester : Requester) (t : Nat) (s : State) : Result :=
  let s := s.at t
  let q := requester.val
  .next (latchSet q 7 (s.tsuSec / 2 ^ 32) (latchSet q 6 (s.tsuSec % 2 ^ 32) (s.answer q s.tsuFrac)))

/-! PTP -/

/-- The PTP engine of port `p`. -/
def ptpOf (s : State) (p : Nat) : PtpPort := Store.find {} s.tsu.ports p

/-- Change the PTP engine of port `p`. -/
def modPtp (p : Nat) (f : PtpPort → PtpPort) (s : State) : State :=
  modTsu (fun x => { x with ports := Store.put {} x.ports p (f (Store.find {} x.ports p)) }) s

/-- The message is an event message. -/
def isEvent (m : Nat) : Bool := m ≤ 3

/-- The message is of the peer delay mechanism. -/
def isPdelay (m : Nat) : Bool := m = 2 || m = 3 || m = 10

/-- 2^`log` seconds, ns (R252). -/
def logNs (log : Int) : Nat := if 0 ≤ log then 1000000000 * 2 ^ log.toNat else 1000000000 / 2 ^ (-log).toNat

/-- The intervals of port `p`, ns: between Syncs, and between Delay_Reqs (R252). -/
def syncNs (s : State) (p : Nat) : Nat := logNs (s.rdS (TSU_P_INTERVAL.LOG_SYNC p))
def dreqNs (s : State) (p : Nat) : Nat := logNs (s.rdS (TSU_P_INTERVAL.LOG_DREQ p))

/-- The VLAN tag of the engine's messages: PCP and VLAN (R252, R267). -/
def engineTag (s : State) (p : Nat) : Option Nat :=
  if s.flag (TSU_P_CFG.VLAN_EN p) then some (s.rd (TSU_P_CFG.VLAN p) + 2 ^ 13 * s.rd (TSU_P_CFG.PCP p)) else none

/-- A message of the PTP engine of port `p`, with the port's identity, enters the egress class of PTP_CLASS (R252). Lengths are IEEE 1588's,
and so is the timestamp 0 of a two-step Sync and of a Delay_Req (log entry 12). -/
def ptpSend (p : Nat) (m : PtpOut) (oneStep : Bool) (s : State) : State :=
  let tag := engineTag s p
  let len := max 64 ((if m.mtype = 9 then 54 else 44) + 18 + 4 * ofBool tag.isSome)
  let m := { m with
    domain := s.rd (TSU_P_CFG.DOMAIN p)
    clock := s.rd (TSU_P_CLK_LO.ID p) + 2 ^ 32 * s.rd (TSU_P_CLK_HI.ID p)
    port := s.rd (TSU_P_NUM.PORT p) }
  egrPush p (s.rd TSU_CFG.PTP_CLASS) { len := len, origin := 3, cast := 1, vlan := tag, ptp := some m, sync := oneStep } s

/-- The message comes from the parent of port `p`. -/
def fromParent (s : State) (p : Nat) (m : PtpMsg) : Bool :=
  m.clock = s.rd (TSU_P_PAR_LO.ID p) + 2 ^ 32 * s.rd (TSU_P_PAR_HI.ID p) && m.port = s.rd (TSU_P_PAR_NUM.PORT p)

/-- R254: a Sync of port `p` is complete: its `ms` gives an offset sample. -/
def syncDone (p : Nat) (ms : Int) (s : State) : State :=
  let s := modPtp p (fun x => { x with ms := some ms, sync := none }) s
  if servoFrom s p then servoOffset (ms - s.tsu.mpd - asymOf s p) s else s

/-- R252: the SLAVE engine of port `p` takes message `m`, which came in at `ts` when it could be timestamped. -/
def slaveTake (p : Nat) (m : PtpMsg) (ts : Option Int) (s : State) : State :=
  match m.mtype.val, ts with
  | 0, some t2 =>
    if !fromParent s p m then s.inc (TSU_P_FOREIGN p)
    else
      let s := modPtp p (fun x => { x with parAt := s.rc }) (s.put (TSU_P_STS.PAR_SEEN p) true)
      let s := if (ptpOf s p).sync.isSome then modPtp p (fun x => { x with sync := none }) (s.inc TSU_FUP_MISS) else s
      if m.twoStep then modPtp p (fun x => { x with sync := some (m.seq, t2, m.corr), syncRc := s.rc }) s else syncDone p (t2 - m.origin - m.corr) s
  | 0, none => if fromParent s p m then s else s.inc (TSU_P_FOREIGN p)
  | 8, _ =>
    if !fromParent s p m then s.inc (TSU_P_FOREIGN p)
    else
      match (ptpOf s p).sync with
      | some (q, t2, c) =>
        if q != m.seq then s
        else if s.tsu.rcOn && (ptpOf s p).syncRc + syncNs s p < s.rc then modPtp p (fun x => { x with sync := none }) (s.inc TSU_FUP_MISS)
        else syncDone p (t2 - m.origin - c - m.corr) s
      | none => s
  | 9, _ =>
    let mine : Bool := m.reqClock = s.rd (TSU_P_CLK_LO.ID p) + 2 ^ 32 * s.rd (TSU_P_CLK_HI.ID p) && m.reqPort = s.rd (TSU_P_NUM.PORT p)
    match (ptpOf s p).dreqs.find? (fun d => d.seq = m.seq) with
    | some { seq := q, at_ := a, t3 := some t3 } =>
      if !mine || (s.tsu.rcOn && a + dreqNs s p < s.rc) then s
      else
        let s := modPtp p (fun x => { x with dreqs := x.dreqs.filter (fun d => d.seq != q) }) s
        match (ptpOf s p).ms with
        | some ms => if servoFrom s p then servoDelay ((ms + (m.origin - t3 - m.corr)).tdiv 2) s else s
        | none => s
    | _ => s
  | _, _ => s

/-- R252: the engine of port `p` takes message `m` by its role. -/
def engineTakes (p : Nat) (m : PtpMsg) (ts : Option Int) (s : State) : State :=
  if !m.l2 then s
  else
    match s.rd (TSU_P_CFG.ROLE p) with
    | 2 => slaveTake p m ts s
    | 3 =>
      match m.mtype.val, ts with
      | 1, some v =>
        ptpSend p { mtype := 9, seq := m.seq, corr := m.corr * 65536 + m.corrFrac.val, origin := v, reqClock := m.clock, reqPort := m.port } false s
      | _, _ => s
    | _ => s

/-- Messages received, by kind (R267). -/
def ptpCount (p m : Nat) (s : State) : State :=
  let s := if isEvent m then s.inc (TSU_P_RX_EVENT p) else s.inc (TSU_P_RX_GENERAL p)
  let s := if isPdelay m then s.inc (TSU_P_PDELAY p) else s
  match m with
  | 0 => s.inc (TSU_P_SYNC_RX p)
  | 1 => s.inc (TSU_P_DREQ_RX p)
  | 9 => s.inc (TSU_P_DRESP_RX p)
  | _ => s

/-- A PTP message goes to the host (R251, R285), with the RC of its ingress (R248). -/
def ptpHost (p : Nat) (m : PtpMsg) (ts : Option Int) (bad : Bool) (s : State) : State :=
  let v := ts.getD 0
  let rc := (s.rc32 + 2 ^ 32 - s.rd (TSU_P_ING_LAT.NS p)) % 2 ^ 32
  let w3 := p + 2 * ofBool ts.isSome + 4 * ofBool (isEvent m.mtype.val) + 8 * ofBool bad
  rxBind (s.rd TSU_CFG.PTP_RING)
    { len := m.len - 4, fmt := 3, why := 1, words := [rc, (v % 1000000000).toNat, (v / 1000000000 % 4294967296).toNat, w3, 0, 0], buf := .eth m } s

/-- R253: the transparent clock forwards message `m` that came in on port `p`, or cannot. -/
def tcForward (p : Nat) (m : PtpMsg) (ts : Option Int) (s : State) : State :=
  if isEvent m.mtype.val && m.v6 && !m.trailer then
    let s := s.inc (TSU_P_TC_UNCORR p)
    if s.flag TSU_CFG.COPY_EVT then s else ptpHost p m ts false s
  else
    let o : PtpOut := {
      mtype := m.mtype.val
      domain := m.domain
      clock := m.clock
      port := m.port
      seq := m.seq
      twoStep := m.twoStep
      corr := m.corr * 65536 + m.corrFrac.val
      origin := m.origin
      reqClock := m.reqClock
      reqPort := m.reqPort
      udp := if m.l2 then 0 else if m.v6 then 6 else 4
      trailer := m.trailer }
    let f : EgrFrame := {
      len := m.len
      origin := 4
      cast := 1
      vlan := m.vlan
      ptp := some o
      ingress := if m.mtype.val ≤ 1 then ts else none }
    egrPush (1 - p) (s.rd TSU_CFG.PTP_CLASS) f (s.inc (TSU_P_TC_FWD p))

/-- A PTP message arrives on a port (R251 to R253). The transparent clock forwards it whether or not the port handles it (R253). -/
def execPtpMessageReceived (port : Fin 2) (m : PtpMsg) (t : Nat) (s : State) : Result :=
  let s := s.at t
  let p := port.val
  let k := m.mtype.val
  let ts : Option Int := if isEvent k && ethStamps s then some ((s.tsuNs : Int) - s.rd (TSU_P_ING_LAT.NS p)) else none
  if !s.flag (TSU_P_CFG.EN p) then .next (if s.flag TSU_CFG.TC_EN && m.forwardable && !isPdelay k then tcForward p m ts s else s)
  else
    let s := ptpCount p k s
    let s := if isEvent k && ts.isNone then s.inc (TSU_P_TS_LOST p) else s
    if m.domain != s.rd (TSU_P_CFG.DOMAIN p) then .next (ptpHost p m ts true (s.inc (TSU_P_BAD_DOMAIN p)))
    else
      let s := if !isEvent k || isPdelay k || s.flag TSU_CFG.COPY_EVT then ptpHost p m ts false s else s
      let s := if s.flag TSU_CFG.TC_EN && m.forwardable && !isPdelay k then tcForward p m ts s else s
      .next (engineTakes p m ts s)

/-- R252: a MASTER's Sync interval ends. -/
def execSyncInterval (port : Fin 2) (t : Nat) (s : State) : Result :=
  let s := s.at t
  let p := port.val
  let x := ptpOf s p
  .next (if s.flag (TSU_P_CFG.EN p) && s.rd (TSU_P_CFG.ROLE p) = 3 && s.reached (x.syncAt + syncNs s p) then
      let two := s.flag (TSU_P_CFG.TWO_STEP p)
      modPtp p (fun x => { x with syncSeq := (x.syncSeq + 1) % 65536, syncAt := s.rc }) (ptpSend p { mtype := 0, seq := x.syncSeq, twoStep := two } (!two) s)
    else s)

/-- R252: a SLAVE's Delay_Req interval ends; the random amount shortens it by one quarter at most. -/
def execDelayReqInterval (port : Fin 2) (t : Nat) (s : State) : Result :=
  let s := s.at t
  let p := port.val
  let x := ptpOf s p
  .next (if s.flag (TSU_P_CFG.EN p) && s.rd (TSU_P_CFG.ROLE p) = 2 && s.reached (x.dreqAt + dreqNs s p * 3 / 4) then
      modPtp p (fun x => { x with
        dreqs := x.dreqs ++ [{ seq := x.dreqSeq, at_ := s.rc }]
        dreqSeq := (x.dreqSeq + 1) % 65536
        dreqAt := s.rc }) (ptpSend p { mtype := 1, seq := x.dreqSeq } false s)
    else s)

/-- R252: no Follow_Up has come for the Sync that waits. -/
def execFollowUpTimeout (port : Fin 2) (t : Nat) (s : State) : Result :=
  let s := s.at t
  let p := port.val
  .next (if (ptpOf s p).sync.isSome && s.reached ((ptpOf s p).syncRc + syncNs s p) then
      modPtp p (fun x => { x with sync := none }) (s.inc TSU_FUP_MISS)
    else s)

/-- R252: no Delay_Resp has come for the oldest Delay_Req outstanding. -/
def execDelayRespTimeout (port : Fin 2) (t : Nat) (s : State) : Result :=
  let s := s.at t
  let p := port.val
  match (ptpOf s p).dreqs with
  | d :: l => .next (if s.reached (d.at_ + dreqNs s p) then modPtp p (fun x => { x with dreqs := l }) (s.inc TSU_DRESP_TIMEOUT) else s)
  | [] => .next s

/-! The servo's commands -/

/-- TSU_SERVO_EXT_OFS is written: one sample for source HOST (R254). -/
def execTsuServoExtOfsWrite (value : Word) (t : Nat) (s : State) : Result :=
  let s := s.at t
  .next (if servoFrom s 3 then servoOffset (sgn 32 value.toNat) (s.inc TSU_HOST_SAMPLES) else s)

/-- R256: TSU_SERVO_CFG.EN is written 1: the servo starts from the frequency in force. -/
def execServoEnable (t : Nat) (s : State) : Result :=
  let s := s.at t
  if s.flag TSU_SERVO_CFG.EN then .next s
  else
    let i := roundDiv (-(s.rdS TSU_FREQ.FREQ) * 65536 * 1000000) 17179869
    let s := modTsu (fun x => { x with i := i, hist := [], lockRun := 0, kept := [], seen := false, mpd := 0, waits := none, remeasure := none, settle := false, last := s.rc }) s
    let s := ((s.put TSU_SERVO_CFG.EN true).wr TSU_SERVO_STS.OFS_RUN 0).wr TSU_SERVO_STS.PD_RUN 0
    .next (servoGo 1 (s.wrS TSU_SERVO_INT.PPB (i / 65536)))

/-- R256: TSU_SERVO_CFG.EN is written 0: TSU_FREQ keeps its last value. -/
def execServoDisable (t : Nat) (s : State) : Result := .next (servoGo 0 ((s.at t).put TSU_SERVO_CFG.EN false))

/-- R256: no sample for LOSS_S seconds in LOCKED. -/
def execServoLossTimeout (t : Nat) (s : State) : Result :=
  let s := s.at t
  if s.rd TSU_SERVO_STS.STATE = 2 && s.tsu.last + s.rd TSU_SERVO_HOLD_CFG.LOSS_S * 1000000000 ≤ s.rc then
    let k := s.rd TSU_SERVO_CFG.SRC
    let s := if k < 2 then s.put (TSU_P_STS.PAR_SEEN k) false else s
    .next (raise Irq.TSU_SYNC_LOSS (holdover s.tsu.last 1 s))
  else .next s

/-- R258: a command is taken only in HOLDOVER after PATH_STEP. -/
def servoCmd (f : State → State) (s : State) : State :=
  if s.rd TSU_SERVO_STS.STATE = 3 && s.rd TSU_SERVO_STS.CAUSE = 0 then f (s.put TSU_SERVO_CTL.CMD_BAD false)
  else raise Irq.TSU_CMD_BAD (s.put TSU_SERVO_CTL.CMD_BAD true)

/-- R258: ACCEPT and ASYM wait for the first withheld delay sample. -/
def acceptCmd (asym : Bool) (s : State) : State :=
  if s.tsu.kept.isEmpty then modTsu (fun x => { x with waits := some asym, remeasure := none }) s else acceptStep asym s

/-- TSU_SERVO_CTL.CMD ACCEPT (R258). -/
def execServoCmdAccept (t : Nat) (s : State) : Result := .next (servoCmd (acceptCmd false) (s.at t))

/-- TSU_SERVO_CTL.CMD ASYM (R258). -/
def execServoCmdAsym (t : Nat) (s : State) : Result := .next (servoCmd (acceptCmd true) (s.at t))

/-- TSU_SERVO_CTL.CMD REMEASURE (R258). -/
def execServoCmdRemeasure (t : Nat) (s : State) : Result :=
  .next (servoCmd (modTsu (fun x => { x with kept := [], waits := none, remeasure := some 0 })) (s.at t))

/-! Steps and slews -/

/-- R259: a step or a set is refused. -/
def stepRefused (s : State) : Bool :=
  asnRuns s || s.rd TSU_SERVO_STS.STATE = 1 || s.rd TSU_SERVO_STS.STATE = 2 || !s.flag TSU_STS.REF

/-- R259: a refusal. -/
def stepBad (s : State) : State := raise Irq.TSU_STEP_REFUSED ((s.put TSU_STEP_CTL.BAD true).inc TSU_STEP_REFUSED)

/-- TSU_STEP_CTL.STEP is written; with SET in the same write it is refused whole (R259). -/
def execTsuStep (alsoSet : Bool) (t : Nat) (s : State) : Result :=
  let s := s.at t
  .next (if alsoSet || stepRefused s then stepBad s
    else tsuMove (s.rdS TSU_STEP_S.S * 1000000000 + s.rdS TSU_STEP_NS.NS) (s.put TSU_STEP_CTL.BAD false))

/-- TSU_STEP_CTL.SET is written (R259). -/
def execTsuSet (t : Nat) (s : State) : Result :=
  let s := s.at t
  let v : Int := (s.rd TSU_SET_SL.S + 2 ^ 32 * s.rd TSU_SET_SH.S : Nat) * 1000000000 + s.rd TSU_SET_NS.NS
  .next (if stepRefused s then stepBad s else tsuMove (v - s.tsuNs) (s.put TSU_STEP_CTL.BAD false))

/-- What a slew has still to remove (R260). -/
def slewLeft (s : State) : Int :=
  match s.tsu.slew with
  | none => 0
  | some (a, at_, ppb) =>
    let done : Int := ((s.rc - at_) * ppb / 1000000000 : Nat)
    if 0 ≤ a then max 0 (a - done) else min 0 (a + done)

/-- TSU_SLEW_CTL.GO is written (R260). -/
def execSlewGo (t : Nat) (s : State) : Result :=
  let s := s.at t
  if s.rd TSU_SERVO_STS.STATE = 1 || s.rd TSU_SERVO_STS.STATE = 2 then .next (s.put TSU_SLEW_CTL.BAD true)
  else
    let s := modTsu (fun x => { x with slew := some (s.rdS TSU_SLEW_NS.NS, s.rc, s.rd TSU_SLEW_CFG.PPB) }) s
    .next ((s.put TSU_SLEW_CTL.BAD false).put TSU_STS.SLEWING true |>.inc TSU_SLEWS)

/-- TSU_SLEW_CTL.ABORT is written: the remainder is dropped (R260, R267). -/
def execSlewAbort (t : Nat) (s : State) : Result :=
  .next (modTsu (fun x => { x with slew := none }) (((s.at t).put TSU_STS.SLEWING false).wr TSU_SLEW_NS.NS 0))

/-- The remainder of the slew reaches 0 (R260). -/
def execSlewComplete (t : Nat) (s : State) : Result :=
  let s := s.at t
  if s.tsu.slew.isNone || (s.tsu.rcOn && slewLeft s != 0) then .next s
  else .next (raise Irq.TSU_SLEW_DONE (modTsu (fun x => { x with slew := none }) ((s.put TSU_STS.SLEWING false).wr TSU_SLEW_NS.NS 0)))

/-! Pulses and captures -/

/-- TSU_PO_CTL is written with ARM (R264). -/
def execPulseArm (unit : Fin 4) (periodic strict outEn pol : Bool) (t : Nat) (s : State) : Result :=
  let s := s.at t
  let k := unit.val
  let armed := s.flag (TSU_PO_CTL.ARM k)
  let s := ((s.put (TSU_PO_CTL.PERIODIC k) periodic).put (TSU_PO_CTL.STRICT k) strict).put (TSU_PO_CTL.OUT_EN k) outEn
  let s := s.put (TSU_PO_CTL.POL k) pol
  if armed then .next s
  else
    let s := modPulse k (fun _ => {}) ((s.put (TSU_PO_CTL.ARM k) true).put (TSU_PO_STS.ACTIVE k) true)
    if (s.tsuNs : Int) + 500 ≤ pulseStart s k then .next (modPulse k (fun x => { x with next := some (pulseStart s k) }) s)
    else .next (pulseLate k s)

/-- TSU_PO_CTL.STOP is written (R264, R267). -/
def execPulseStop (unit : Fin 4) (t : Nat) (s : State) : Result :=
  let s := s.at t
  let k := unit.val
  if !s.flag (TSU_PO_CTL.ARM k) then .next s
  else if (pulseOf s k).endAt.isSome then .next (modPulse k (fun x => { x with stop := true }) s)
  else .next (pulseOff k s)

/-- A pulse unit reaches an edge of its output (R264): the end of its pulse, or its next active edge. -/
def execPulseEdge (unit : Fin 4) (t : Nat) (s : State) : Result :=
  let s := s.at t
  let k := unit.val
  let x := pulseOf s k
  let due : Bool := match x.endAt with | some e => e ≤ s.rc | none => false
  if due then
    if x.stop || x.next.isNone then .next (pulseOff k s) else .next (modPulse k (fun x => { x with endAt := none }) s)
  else
    match x.next, x.endAt with
    | some e, none =>
      if e ≤ (s.tsuNs : Int) + 2 then
        .next (pulseFire k (if s.flag (TSU_PO_CTL.PERIODIC k) then some (e + s.rd (TSU_PO_PERIOD.NS k)) else none) s)
      else .next s
    | _, _ => .next s

/-- The level of pin TSU_PO_k: none while the unit does not drive it (R264). -/
def poLevel (s : State) (k : Nat) : Option Bool :=
  if !s.flag (TSU_PO_CTL.OUT_EN k) then none
  else
    let active : Bool := match (pulseOf s k).endAt with | some e => decide (s.rc < e) | none => false
    some (active != s.flag (TSU_PO_CTL.POL k))

/-- R265: an edge on TSU_CI_k, whose new level the pin holds for `held` ns; the glitch filter lets no shorter one than FILT × 4 ns through. -/
def execCaptureEdge (unit : Fin 4) (fall : Bool) (held t : Nat) (s : State) : Result :=
  let s := s.at t
  let k := unit.val
  if held < s.rd (TSU_CI_CTL.FILT k) * 4 then .next s else
  let short : Bool := held < 20
  let s := s.put (TSU_CI_STS.PIN k) (!fall)
  let e := s.rd (TSU_CI_CTL.EDGE k)
  let c : Capture := Store.find {} s.tsu.caps k
  if !s.flag (TSU_CI_CTL.EN k) || (fall && e = 0) || (!fall && e = 1) then .next s
  else if short || (match c.last with | some r => s.rc < r + 100 | none => false) then .next (s.inc (TSU_CI_LOST k))
  else
    let put (l : List (Nat × Nat × Bool)) (s : State) : State :=
      modTsu (fun x => { x with caps := Store.put {} x.caps k { fifo := l, last := some s.rc } }) s
    let pps : Bool := k = 0 && !fall && servoFrom s 4
    let o : Int := (if s.tsuFrac ≤ 500000000 then (s.tsuFrac : Int) else (s.tsuFrac : Int) - 1000000000) - s.rdS TSU_PPS_CFG.PPS_OFS
    let s' := if c.fifo.length < 16 then
        let s := (put (c.fifo ++ [(s.tsuNs, s.rc32, fall)]) s).inc (TSU_CI_EVENTS k)
        raiseAt Irq.TSU_CI_DATA k (s.wr (TSU_CI_STS.LEVEL k) (c.fifo.length + 1))
      else raiseAt Irq.TSU_CI_OVF k ((put c.fifo (s.inc (TSU_CI_LOST k))).put (TSU_CI_STS.OVF k) true)
    .next (if pps then servoOffset o (s'.inc TSU_PPS_STS.EDGES) else s')

/-- TSU_CI_NS is read: the oldest capture is popped (R265, R267). -/
def execTsuCiNsRead (unit : Fin 4) (requester : Requester) (s : State) : Result :=
  let k := unit.val
  let c : Capture := Store.find {} s.tsu.caps k
  match c.fifo with
  | [] => .next (((s.wr (TSU_CI_NS.NS k) 0).put (TSU_CI_NS.VALID k) false).put (TSU_CI_NS.FALL k) false |>.answer requester 0)
  | (ns, rc, fall) :: l =>
    let sec := ns / 1000000000
    let s := ((s.wr (TSU_CI_NS.NS k) (ns % 1000000000)).put (TSU_CI_NS.VALID k) true).put (TSU_CI_NS.FALL k) fall
    let s := ((s.wr (TSU_CI_SL.S k) sec).wr (TSU_CI_SH.S k) (sec / 2 ^ 32)).wr (TSU_CI_RC.RC k) rc
    let s := modTsu (fun x => { x with caps := Store.put {} x.caps k { c with fifo := l } }) (s.wr (TSU_CI_STS.LEVEL k) l.length)
    .next (s.answer requester (ns % 1000000000 + 2 ^ 30 + ofBool fall * 2 ^ 31))

/-- TSU_SERVO_OFS_PEAK is read and clears (R267). -/
def execTsuServoOfsPeakRead (requester : Requester) (s : State) : Result :=
  .next ((s.answer requester (s.rd TSU_SERVO_OFS_PEAK.NS)).wr TSU_SERVO_OFS_PEAK.NS 0)

/-- TSU_P_RES_PEAK is read and clears (R267). -/
def execTsuPResPeakRead (port : Fin 2) (requester : Requester) (s : State) : Result :=
  .next ((s.answer requester (s.rd (TSU_P_RES_PEAK.NS port))).wr (TSU_P_RES_PEAK.NS port) 0)

end Sys2Proof.Machine
end

