-- ==== Sys2Proof/Machine/Egress.lean ====
section
/-!
DEFINITION. Backhaul egress: frames leaving a port (R236, R238, R239, R248, R251 to R253, R282) and gate lists (R237, R240).
-/

namespace Sys2Proof.Machine

/-- R424: a frame may leave the chip: any from its owner, relayed frames from a STANDBY, none from a FENCED chip. -/
def mayLeave (s : State) (f : EgrFrame) : Bool := owns s || (roleOf s = roleStandby && f.origin = 2)

/-- The head of FIFO `c` starts; its timestamp is that of the first octet after the start-of-frame delimiter (R248). -/
def egrStart (p c : Nat) (f : EgrFrame) (l : List EgrFrame) (s : State) : State :=
  let d := 64 * bitTime s p / 10
  let lat := s.rd (TSU_P_EGR_LAT.NS p)
  modPort p (fun x => { x with busy := some f, busyRc := s.rc + d + lat, busyTs := s.tsuNs + d + lat, busyFrac := s.frac % 2 ^ 32 }) (setEgr p c l s)

/-- R236, R238, R239: the classes of `l` are offered in order; the first whose head may start does. -/
def egrPick (p : Nat) : List Nat → State → State
  | [], s => s
  | c :: r, s =>
    let s := dropNever p c (egrOf s p c).length s
    match egrOf s p c with
    | [] => egrPick p r s
    | f :: l =>
      if !mayLeave s f then egrPick p r s
      else if gateFits s p c f.len then egrStart p c f l s
      else
        let s := if f.waited then s else setEgr p c ({ f with waited := true } :: l) (s.inc (SHP_GATE_WAIT p))
        egrPick p r s

/-- A free port starts a frame (R236). -/
def execEgressFrameStart (port : Fin 2) (t : Nat) (s : State) : Result :=
  let s := s.at t
  let p := port.val
  if (portOf s p).busy.isSome || !s.flag (ETH_P_STS.LINK p) || entering s || s.rc < (portOf s p).pauseEnd then .next s else .next (egrPick p [7, 6, 5, 4, 3, 2, 1, 0] s)

/-- The transmit counters of port `p` for a frame that has left (R467). -/
def ethTxCount (p : Nat) (f : EgrFrame) (s : State) : State :=
  let oct := (portOf s p).txOctets + max 64 f.len
  let s := modPort p (fun x => { x with txOctets := oct % 1024 }) ((s.inc (ETH_P_TX_FRAMES p)).add (ETH_P_TX_OCTETS_K p) (oct / 1024))
  let s := if f.cast = 0 then s.inc (ETH_P_TX_UCAST p) else if f.cast = 1 then s.inc (ETH_P_TX_MCAST p) else s.inc (ETH_P_TX_BCAST p)
  let s := (s.when f.vlan.isSome (fun s => s.inc (ETH_P_TX_VLAN p))).when f.ptp.isSome (fun s => s.inc (ETH_P_TX_PTP p))
  let s := (s.when (f.len < 64) (fun s => s.inc (ETH_P_TX_PAD p))).when f.tsRing.isSome (fun s => s.inc (ETH_P_TX_TS p))
  match f.origin with
  | 0 => s.inc (ETH_P_TX_HOST p)
  | 1 => s.inc (ETH_P_TX_UPLINK p)
  | 2 => s.inc (ETH_P_TX_RELAY p)
  | 4 => s.inc (ETH_P_TX_TC_FWD p)
  | _ => s

/-- R251: message `m` over UDP with a change made in flight: the checksum of IPv4 is 0, the trailer of IPv6 adjusted. -/
def changedInFlight (m : PtpOut) : PtpOut := { m with chk0 := m.chk0 || m.udp = 4, adjusted := m.adjusted || m.udp = 6 }

/-- R251: a Sync over IPv6 that has no trailer to correct its checksum by. -/
def noTrailer (m : PtpOut) : Bool := m.udp = 6 && !m.trailer

/-- R251, R253: message `m` of frame `f` as it leaves at `ts` and `frac`: the time of a one-step Sync, the residence time of a forwarded
message. -/
def ptpWire (f : EgrFrame) (m : PtpOut) (ts : Int) (frac : Nat) (stamps : Bool) : PtpOut :=
  if f.sync && noTrailer m then { m with origin := 0 }
  else if f.sync && stamps then changedInFlight { m with origin := ts, corr := m.corr + frac / 2 ^ 16 }
  else
    match f.ingress with
    | some i => if stamps then changedInFlight { m with corr := m.corr + (ts - i) * 65536 } else m
    | none => m

/-- R251, R252: what PTP message `m` of frame `f` does as it leaves port `p` at `ts`. -/
def ptpLeft (p : Nat) (m : PtpOut) (f : EgrFrame) (ts : Int) (s : State) : State :=
  let event := isEvent m.mtype
  let s := modPort p (fun x => { x with sent := some (ptpWire f m ts x.busyFrac (ethStamps s)) }) s
  let s := if event then s.inc (TSU_P_TX_EVENT p) else s
  let s := if event && (!ethStamps s || (f.sync && noTrailer m)) then s.inc (TSU_P_TS_LOST p) else s
  let s := if f.sync && ethStamps s && !noTrailer m then (s.inc (TSU_P_ONESTEP p)).inc (ETH_P_TX_ONESTEP p) else s
  match m.mtype with
  | 0 =>
    let s := s.inc (TSU_P_SYNC_TX p)
    if f.origin = 3 && !f.sync then ptpSend p { mtype := 8, seq := m.seq, origin := ts } false s else s
  | 1 =>
    let s := s.inc (TSU_P_DREQ_TX p)
    if f.origin = 3 && ethStamps s then
      modPtp p (fun x => { x with dreqs := x.dreqs.map (fun d => if d.seq = m.seq && d.t3.isNone then { d with t3 := some ts } else d) }) s
    else s
  | 8 => s.inc (TSU_P_FUP_TX p)
  | 9 => s.inc (TSU_P_DRESP_TX p)
  | _ => s

/-- R253: the residence time of a forwarded message. -/
def residence (p : Nat) (ing ts : Int) (s : State) : State :=
  let v := (clampI 0 4294967295 (ts - ing)).toNat
  (s.wr (TSU_P_RES_LAST.NS p) v).peak (TSU_P_RES_PEAK.NS p) v

/-- A backhaul frame has left its port (R248, R251 to R253, R282). -/
def execEgressFrameEnd (port : Fin 2) (t : Nat) (s : State) : Result :=
  let s := s.at t
  let p := port.val
  let x := portOf s p
  match x.busy with
  | none => .next s
  | some f =>
    let s := ethTxCount p f (modPort p (fun x => { x with busy := none }) s)
    let s := match f.ptp with | some m => ptpLeft p m f x.busyTs s | none => s
    let s := match f.ingress with | some i => if ethStamps s then residence p i x.busyTs s else s | none => s
    let s := if f.tsRing.isSome then s.inc (TSU_P_TX_TS_REQ p) else s
    .next (txLeft f (if ethStamps s then some (x.busyRc % 2 ^ 32, x.busyTs) else none) none s)

/-! Gate lists -/

/-- Entry `e` of SHP_GCL of port `p`. -/
def gclEntry (s : State) (p e : Nat) : Nat :=
  if p = 0 then s.rd (SHP_GCL0.GATES e) + 256 * s.rd (SHP_GCL0.INTERVAL e) else s.rd (SHP_GCL1.GATES e) + 256 * s.rd (SHP_GCL1.INTERVAL e)

/-- SHP_GATE_CTL is written with ARM (R240); a list holds at most 32 entries in step A1 (R237). -/
def execGateListArm (port : Fin 2) (en : Bool) (len t : Nat) (s : State) : Result :=
  let s := s.at t
  let p := port.val
  let n := clampN 1 32 len
  let s := gateView p (((s.put (SHP_GATE_CTL.EN p) en).wr (SHP_GATE_CTL.LEN p) n).put (SHP_GATE_CTL.ARM p) true)
  let base := (s.rd (SHP_GATE_BASE_SL.S p) + 2 ^ 32 * s.rd (SHP_GATE_BASE_SH.S p)) * 1000000000 + s.rd (SHP_GATE_BASE_NS.NS p)
  let cyc := s.rd (SHP_GATE_CYCLE.NS p)
  let late := base < s.tsuNs + 2000
  let start := if late then base + ceilDiv (s.tsuNs + 2000 - base) cyc * cyc else base
  let g : GateList := { len := n, cycle := cyc, entries := (List.range n).map (gclEntry s p), start := start }
  let s := modPort p (fun x => { x with pendingList := some g }) (s.put (SHP_GATE_STS.PENDING p) true)
  let s := ((s.wr (SHP_GATE_AT_NS.NS p) (start % 1000000000)).wr (SHP_GATE_AT_SL.S p) (start / 1000000000)).wr
    (SHP_GATE_AT_SH.S p) (start / 1000000000 / 2 ^ 32)
  .next (if late then raiseAt Irq.SHP_GATE_LATE p ((s.put (SHP_GATE_STS.LATE_BASE p) true).inc (SHP_GATE_LATE p)) else s)

/-- R240: the pending list takes effect. -/
def execGateListSwitch (port : Fin 2) (t : Nat) (s : State) : Result :=
  let s := s.at t
  let p := port.val
  match (portOf s p).pendingList with
  | none => .next s
  | some g =>
    if s.tsuNs < g.start then .next s
    else
      let s := modPort p (fun x => { x with running := some g, pendingList := none }) s
      let s := ((s.put (SHP_GATE_STS.PENDING p) false).put (SHP_GATE_CTL.ARM p) false).inc (SHP_GATE_SWITCHES p)
      .next (raiseAt Irq.SHP_GATE_SWITCHED p (gateView p s))

/-- R237: an entry's interval ends; the cycles that have ended since the gates were last looked at are counted. -/
def execGateEntryEdge (port : Fin 2) (t : Nat) (s : State) : Result :=
  let s := s.at t
  let p := port.val
  match (portOf s p).running with
  | none => .next s
  | some g => .next (gateView p (s.add (SHP_GATE_CYCLES p) (cyclesAt g s.tsuNs - (portOf s p).cycleNo).toNat))

/-- SHP_EGR_PEAK is read and clears (R243). -/
def execShpEgrPeakRead (port : Fin 2) (requester : Requester) (s : State) : Result :=
  .next ((s.answer requester (s.rd (SHP_EGR_PEAK.PEAK port))).wr (SHP_EGR_PEAK.PEAK port) 0)

/-- ETH_P_EQ is read: FRAMES and PEAK; PEAK clears (R467). -/
def execEthPEqPeakRead (port : Fin 2) (cls : Fin 8) (requester : Requester) (s : State) : Result :=
  .next ((s.answer requester (s.rd (ETH_P_EQ.FRAMES port cls) + 2 ^ 16 * s.rd (ETH_P_EQ.PEAK port cls))).wr (ETH_P_EQ.PEAK port cls) 0)

end Sys2Proof.Machine
end

