-- ==== Sys2Proof/Machine/Fabric.lean ====
section
/-!
DEFINITION. The fabric: operating modes and Hoarfrost (R34 to R37, R455), boundary FIFOs (R22), the scrubber (R26, R211).
-/

namespace Sys2Proof.Machine

/-- R35, R365: SYS_MODE is written; before stage 8 the request waits for it. -/
def execSysModeWrite (mode : Fin 4) (t : Nat) (s : State) : Result :=
  let m := min mode.val 2
  let s := (s.at t).wr SYS_MODE.MODE m
  .next (if s.rd SYS_BOOT_STS.STAGE = 8 then modeRequest m s else { s with boot := { s.boot with mode := some m } })

/-- R35: the change in progress may complete. -/
def execModeChangeComplete (t : Nat) (s : State) : Result := .next (modeComplete (s.at t))

/-- Acks skipped and transmissions missed on all lanes. -/
def missedAll (s : State) : Nat :=
  (List.range 4).foldl (fun a n => a + s.rd (MAC_LS_ACK_SKIP n) + s.rd (MAC_LS_TX_MISSED n)) 0

/-- R36: what Hoarfrost requests in a period, mV, with the smallest slack of `slack` percent. -/
def hoarNext (s : State) (slack : Int) (missed calm : Bool) : Nat :=
  let m := s.rd SYS_MODE_STS.CUR
  let v := s.hoar.vreq
  if slack < 0 || missed then modeTop m
  else if slack < 15 then min (modeTop m) (v + 10)
  else if calm then max (modeLow m) (v - 5)
  else v

/-- R36: 25 µs have passed; `slack`: the smallest over the sensors, in percent of the budget. No request is made while the regulator is
taken as dead (R37), or while a mode change raises the voltage (R35). -/
def execHoarfrostPeriod (slack : Int) (t : Nat) (s : State) : Result :=
  let s := s.at t
  let h := s.hoar
  let n := missedAll s
  let run := if 40 < slack then min 40 (h.slack40 + 1) else 0
  let since := min 40 (h.sinceDown + 1)
  let missed : Bool := n != h.seen
  let calm : Bool := 40 ≤ run && 40 ≤ since
  let v := if avsHeld s || h.raising then h.vreq else hoarNext s slack missed calm
  .next (modHoar (fun h => { h with vreq := v, slack40 := run, sinceDown := if v < h.vreq then 0 else since, seen := n }) s)

/-- R37, R455: an AVSBus frame ends. The third failure in a row holds the voltage at the last one confirmed and raises AVS_NORESP; a mode
change that waits for the regulator then fails (R35). -/
def execAvsbusFrameDone (ok : Bool) (t : Nat) (s : State) : Result :=
  let s := s.at t
  if avsHeld s then .next s
  else if ok then .next (modHoar (fun h => { h with vconf := h.vreq, failed := 0, lowering := false }) s)
  else if s.hoar.failed < 2 then .next (modHoar (fun h => { h with failed := h.failed + 1 }) s)
  else
    let h := s.hoar
    let s := faultEvent 1 {} (modHoar (fun h => { h with vreq := h.vconf, failed := 0, lowering := false }) s)
    if h.raising then .next (modeNext (modeEnd (s.rd SYS_MODE_STS.CUR) true s))
    else .next (s.put SYS_MODE_STS.FAIL (h.lowering || s.flag SYS_MODE_STS.FAIL))

/-- R22: Serac, stalled on the full transmit FIFO of a lane, completes its write when space appears. -/
def execFabricStallRelease (lane : Fin 4) (idx t : Nat) (s : State) : Result := .next (itemReady lane idx (s.at t))

/-- R26, R27, R211: the scrubber has visited every store: `corrected` lists the single-bit errors it corrected, by the fault source of their
store, `poisoned` the words of the Node Store that it found poisoned, counted in 8 octets from its start; curds that no chain reaches return to the free list. -/
def execScrubberPass (corrected : List (Fin 256)) (poisoned : List Nat) (t : Nat) (s : State) : Result :=
  let s := eccFix corrected (s.at t)
  let s := s.each poisoned (fun n s => fenceNode (n / 16 % 262144) n 13 s)
  let lost := s.qms.lost
  let s := { s with qms := { s.qms with lost := [] } }
  .next (s.each lost (fun c s => poolGive c.1 c.2.length s))

end Sys2Proof.Machine
end

