-- ==== Sys2Proof/Machine/FaultCmds.lean ====
section
/-!
DEFINITION. Commands of the fault collector (R407 to R416), and what an ECC error does to the store it hits (R26, R27, R189, R211).
-/

namespace Sys2Proof.Machine

/-- Curds that no chain reaches any more, by pool user; the scrubber returns them (R211). -/
def curdLose (user : Nat) (l : List Nat) (s : State) : State := { s with qms := { s.qms with lost := s.qms.lost ++ [(user, l)] } }

/-- R211: a frame whose word is poisoned goes to the Whey with reason ECC; its curds go back, or are lost when the chain is broken. -/
def frameEcc (lost : Bool) (f : QFrame) (s : State) : State :=
  p6Dropped f.id (if lost then curdLose f.user f.curds (s.whey 0) else frameWhey 0 f s)

/-- R211: the same for an uplink packet. -/
def upEcc (lost : Bool) (p : UpPacket) (s : State) : State :=
  let s := s.whey 0
  if lost then curdLose 1 p.curds s else poolGive 1 p.curds.length s

/-- R211: what goes to the Whey of a queue whose item at `pos` holds the poisoned word: that item, or from it on to the end, unreachable,
when the word is a NEXT field; then the queue is emptied. `drop` discards one item. -/
def eccQueue {α : Type} (next : Bool) (pos : Nat) (l : List α) (drop : Bool → α → State → State) (s : State) : State :=
  if next then ((s.each (l.take pos) (drop false)).each (l.drop pos) (drop true)) else s.each ((l.drop pos).take 1) (drop false)

/-- What is left of that queue. -/
def eccKeep {α : Type} (next : Bool) (pos : Nat) (l : List α) : List α := if next then [] else l.take pos ++ l.drop (pos + 1)

/-- R211: packets `l` of a chain without frame `j` of the packet at `pos`. -/
def packetsDrop (pos j : Nat) (l : List Packet) : List Packet :=
  match l[pos]? with
  | none => l
  | some p => if p.frames.length ≤ 1 then l.eraseIdx pos else l.set pos { p with frames := p.frames.eraseIdx j }

/-- The place of frame `j` of the packet at `pos` in the chain of packets `l`. -/
def chainPlace (pos j : Nat) (l : List Packet) : Nat := ((l.take pos).map (fun p => p.frames.length)).sum + j

/-- R211: a symbol whose word is poisoned. -/
def symbolEcc (slot : Nat) (lost : Bool) (y : Symbol) (s : State) : State :=
  let s := (s.whey 0).sub UPD_CURDS.USED (symbolCurds s slot)
  if lost then curdLose 3 y.curds s else poolGive 3 (symbolCurds s slot) s

/-- R211: a poisoned curd word. -/
def curdEcc (c : CurdAt) (next : Bool) (s : State) : State :=
  let s := raise Irq.QMS_CURD_ECC s
  match c with
  | .none => s
  | .node nix pos =>
    let l := nodeQOf s nix
    eccQueue next pos l frameEcc (setNodeQ nix (eccKeep next pos l) s)
  | .up w k pos =>
    let l := upQOf s w k
    let keep := eccKeep next pos l
    let s := (setUpQ w k keep s).wr (QMS_CQ.CURDS (w.val * 8 + k.val)) (keep.foldl (fun a p => a + p.curds.length) 0)
    eccQueue next pos l upEcc s
  | .down w k pos j =>
    let l := downQOf s w k
    let keep := if next then [] else packetsDrop pos j l
    let s := (setDownQ w k keep s).wr (QMS_CQ.CURDS (downCq w k)) (keep.foldl (fun a p => a + packetCurds p) 0)
    eccQueue next (chainPlace pos j l) (l.flatMap (·.frames)) frameEcc s
  | .calendar pos j =>
    match s.qms.cal[pos]? with
    | none => s
    | some d =>
      let mine (e : Deferred) : Bool := calBucket s e.base = calBucket s d.base
      let l := (s.qms.cal.filter mine).map (·.packet)
      let at_ := ((s.qms.cal.take pos).filter mine).length
      let one := (packetsDrop 0 j [d.packet]).map (fun p => { d with packet := p })
      let keep := if next then s.qms.cal.filter (fun e => !mine e) else s.qms.cal.take pos ++ one ++ s.qms.cal.drop (pos + 1)
      eccQueue next (chainPlace at_ j l) (l.flatMap (·.frames)) frameEcc (setCal keep s)
  | .reasm pos j =>
    match s.qms.reasm[pos]? with
    | none => s
    | some x =>
      match x.held[j]? with
      | none => s
      | some h =>
        let s := { s with qms := { s.qms with reasm := s.qms.reasm.set pos { x with held := x.held.eraseIdx j } } }
        if next then curdLose 2 h.curds (s.whey 0) else poolGive 2 h.curds.length (s.whey 0)
  | .beacon n idx =>
    match (laneOf s n).preparing.find? (fun i => i.idx = idx && i.kind = .beacon && !i.noframe) with
    | none => s
    | some it =>
      let none_ (i : TxItem) : TxItem := if i.idx = idx then { i with kind := .frame, noframe := true, encrypts := false, engine := none } else i
      let s := engineFree it.engine (modLane n (fun l => { l with preparing := l.preparing.map none_ }) s)
      if next then curdLose 3 it.frame.curds (s.whey 0) else frameWhey 0 it.frame s
  | .symbol c pos =>
    let l := (campOf s c).ready
    let s := modCamp c (fun x => { x with ready := eccKeep next pos l }) s
    roundCheck c (eccQueue next pos l (symbolEcc c) s)

/-- R189: an entry of the forwarding table, or of the Vat from 262,144 on, is poisoned. -/
def fwtPoison (loc : Nat) (s : State) : State :=
  let e := fwtAt s loc
  if fwtUsed e then fwtPut loc { e with poisoned := true } s else s

/-- R26, R203: a poisoned entry of the Path Store is not used again: the route is rebuilt. -/
def pathPoison (i : Nat) (s : State) : State :=
  let p : PathEntry := Store.find {} s.fwd.paths i
  { s with fwd := { s.fwd with paths := Store.put {} s.fwd.paths i { p with valid := false } } }

/-- R27, R329: a damaged wrapped key is treated as a poisoned word of the record that uses it. -/
def keyPoison (ix : Nat) (s : State) : State :=
  let hit := s.nodes.filter (fun p => p.2.keyIx = ix && p.2.state != .free)
  s.each hit (fun p s => s.modNode p.1 (fun r => { r with fenced := true }))

/-- A lane sequencer stops in HANG (R121): nothing it had in hand is sent, and MAC_LS_HANG lasts. -/
def laneHang (n : Nat) (s : State) : State :=
  let s := s.each (laneOf s n).preparing (fun i s => engineFree i.engine (if i.kind = .beacon && !i.noframe then frameFree i.frame s else s))
  let s := modLane n (fun l => { l with
    spans := []
    fifo := []
    preparing := []
    wait := none
    burst := none }) (s.wr (MAC_LS_STS.STATE n) 3)
  raiseAt Irq.MAC_LS_HANG n (setRaw 69 true s)

/-- What a double-bit error at `a` does to its store beside raising its source (R26): the poisoned word is delivered to the unit that read
it, and what the rules say of that store follows. -/
def eccEffect (src : Nat) (a : FaultAt) (curd : CurdAt) (next : Bool) (s : State) : State :=
  let s := if (16 ≤ src && src ≤ 23) || (32 ≤ src && src ≤ 45) then eccDeliver src a s else s
  if src = 32 then s.modNode (a.addr / 128 % 262144) (fun r => { r with fenced := true })
  else if src = 34 then curdEcc curd next s
  else if src = 35 then keyPoison (a.addr / 24) s
  else if src = 36 then pathPoison (a.addr / 64 % 65536) s
  else if src = 37 then fwtPoison (a.addr / 16 % 262144) s
  else if src = 38 then fwtPoison (262144 + a.addr / 16 % 4096) s
  else if 16 ≤ src && src ≤ 23 then s.addSat (PCR_C_LOCAL_ECC.POISON (src - 16)) 1
  else s

/-- R407: source `src` occurs, with the access `at_` where it has one; for a curd the item that holds it, and whether the word is a NEXT
field. A lane that meets poisoned microcode hangs (sources 43 and 69). -/
def execFaultOccurrence (src : Fin 256) (at_ : FaultAt) (curd : CurdAt) (next : Bool) (t : Nat) (s : State) : Result :=
  let s := s.at t
  let n := src.val
  let s := if n = 69 then laneHang (at_.detail % 4) s else s
  let s := faultEvent n at_ (eccEffect n at_ curd next s)
  .next (if n = 43 then faultEvent 69 { detail := at_.detail % 4 } (laneHang (at_.detail % 4) s) else s)

/-- R409, R416: 1 is written to a latch; `race`: its source occurs in the same cycle. -/
def execFltLatchClear (src : Fin 256) (race : Bool) (at_ : FaultAt) (t : Nat) (s : State) : Result :=
  .next (if race then faultEvent src at_ (s.at t) else latchClear src (s.at t))

/-- R409: FLT_CLEAR.ALL. -/
def execFltClearAll (t : Nat) (s : State) : Result := .next ((s.at t).each (List.range 256) latchClear)

/-- R412: FLT_CLEAR.FIRST: the capture is no longer valid. -/
def execFltClearFirst (t : Nat) (s : State) : Result :=
  let s := s.at t
  .next (s.wr (FLT_FIRST.W 0) (clrBit (s.rd (FLT_FIRST.W 0)) 8))

/-- R415: FLT_INJECT, until SYS_CFG_LOCK is set; a reserved source is ignored. -/
def execFltInject (src : Fin 256) (go : Bool) (t : Nat) (s : State) : Result :=
  let s := s.at t
  .next (if go && !s.flag SYS_CFG_LOCK.LOCK && FaultSrc.named src then faultRaise src {} true (s.inc FLT_INJECTS) else s)

/-- R410, R416: the escalation timer expires, whatever is cleared in that cycle: not before MS, less the 3 % by which the internal oscillator
may be fast. -/
def execEscalationExpiry (t : Nat) (s : State) : Result :=
  let s := s.at t
  if !s.flag FLT_STS.ESC_RUN || !s.reached (s.flt.escAt + s.rd FLT_ESC_CFG.MS * 970000) then .next s
  else
    let src := s.rd FLT_ESC_SRC.SRC
    let s := (morPush src 2 {} s).inc FLT_ESCALATIONS
    .next (faultResetBegin src {} false ((s.put FLT_STS.ESC_RUN false).wr FLT_ESC_STS.LEFT 0))

/-- R411: CALM_S seconds after BOOT_DONE without a fault reset. -/
def execCalmExpiry (t : Nat) (s : State) : Result :=
  let s := s.at t
  let late : Bool := s.tsu.rcOn && s.rc < s.flt.doneAt + s.rd FLT_RST_CFG.CALM_S * 1000000000
  .next (if s.rd SYS_BOOT_STS.STAGE = 8 && !s.flt.resetPend && !late then s.wr FLT_RST_RUN.RUN 0 else s)

/-- R413: FLT_MOR_CTL.CLEAR empties the ring; queued entries reach it afterwards. -/
def execFltMorClear (t : Nat) (s : State) : Result :=
  let s := (s.at t).each (List.range 256) (fun k s => s.wr (FLT_MORAINE.W k) 0)
  .next ((s.wr FLT_MOR_STS.WP 0).wr FLT_MOR_STS.WRAPS 0)

end Sys2Proof.Machine
end

