-- ==== Sys2Proof/Machine/AdaptOps.lean ====
section
/-!
DEFINITION. Adaptation (R197 to R206): addresses, routes, the frame limit, fragments, and the stages of both directions.
-/

namespace Sys2Proof.Machine

/-! Addresses -/

/-- R197: a Bastis address of Ward `w`. -/
def isBastis (s : State) (w : Nat) (a : Ip) : Bool := a.pfx = wardPfx s w && (a.iid = iidOf (rootEui s) || a.iid = 0x000000FFFE000000)

/-- R198, step 1: the enabled Ward whose prefix an address has. -/
def wardOfIp (s : State) (a : Ip) : Option Nat := (List.range 8).find? (fun w => s.flag (MAC_WARD_PAN.EN w) && wardPfx s w = a.pfx)

/-- What an IID resolves to (R196, R198): the record; one in EVICT is no miss, and counts in no counter of forwarding (R235). -/
def lookupIid (w iid : Nat) (s : State) : Option Nat × State :=
  match shortIid iid with
  | some a => (saxFind s w a, s)
  | none =>
    match ((fwtFind s iid 0 w).map (fun p => (fwtAt s p).nix)).filter (fun n => (s.node n).state = .evict) with
    | some n => (some n, s)
    | none =>
      let (e, s) := fwtLookup iid 0 w s
      (e.map (·.nix), s)

/-! Receive rings -/

/-- Words 0 to 2 of a PACKET completion (R285). -/
def packetWords (rc asn cls : Nat) (yel : Bool) : List Nat :=
  [rc % 2 ^ 32, asn % 2 ^ 32, asn / 2 ^ 32 % 2 ^ 8 + cls * 2 ^ 8 + ofBool yel * 2 ^ 11]

/-- An IPv6 packet for the host (R285, R286): WHY 2 LOCAL and 4 SRH to CTL_RING, 3 MISS to MISS_RING, 5 NOWARD to BH_RING. -/
def packetToHost (w why rc asn cls : Nat) (p : DownContent) (nix : Option Nat) (s : State) : State :=
  let k := match why with
    | 3 => s.rd (HIF_RX_ROUTE.MISS_RING w)
    | 5 => s.rd HIF_CFG.BH_RING
    | _ => s.rd (HIF_RX_ROUTE.CTL_RING w)
  rxBind k { len := p.len, words := packetWords rc asn cls false, fmt := 2, why := why, nix := nix, ward := w, buf := .packet p } s

/-! Routes (R203) -/

/-- The parents of `n`, up to Bastis: from the last hop to the first; none for NOPATH. `k` hops are left. -/
def climb (s : State) : Nat → Nat → Option (List Nat)
  | k, n =>
    if (s.node n).parentRoot then some []
    else
      match k with
      | 0 => none
      | k + 1 =>
        let p := (s.node n).parentNix
        if (s.node p).state = .joined || (s.node p).state = .quiet then (climb s k p).map (fun l => p :: l) else none

/-- The entry at PATH_IX serves node `d` of Ward `w` (R203). -/
def pathUsable (s : State) (w d : Nat) (e : PathEntry) : Bool :=
  e.valid && e.owner = d && e.ward = w && (e.host || e.epoch = s.rd (FWD_W_EPOCH.EPOCH w)) && (s.node d).pathGen = e.epoch % 256

/-- The place that the allocation cursor takes: HOST entries are skipped (R203); none when every entry is a HOST entry. -/
def pathAlloc (s : State) : Option Nat :=
  ((List.range 65536).map (fun i => (s.fwd.pathCursor + i) % 65536)).find? (fun i =>
    let e : PathEntry := Store.find {} s.fwd.paths i
    !e.host)

/-- R203: NOPATH. -/
def noPath (w : Nat) (s : State) : State := raiseWard Irq.FWD_NOPATH w (s.inc (FWD_W_NOPATH.COUNT w))

/-- R203: the route to node `d` of Ward `w`: its hops from the first; none for NOPATH. -/
def routeTo (w d : Nat) (s : State) : Option (List Nat) × State :=
  let r := s.node d
  let e : PathEntry := Store.find {} s.fwd.paths r.pathIx
  if r.parentRoot then (some [], if r.hops = 0 then s else s.modNode d (fun r => { r with hops := 0 }))
  else if pathUsable s w d e then (some e.hops, s)
  else if r.isStatic then (none, noPath w s)
  else
    match climb s 16 d, pathAlloc s with
    | some up, some i =>
      let l := up.reverse
      let epoch := s.rd (FWD_W_EPOCH.EPOCH w)
      let e : PathEntry := { owner := d, valid := true, ward := w, epoch := epoch, hops := l }
      let s := modFwd (fun f => { f with paths := Store.put {} f.paths i e, pathCursor := (i + 1) % 65536 }) s
      (some l, (s.modNode d (fun r => { r with hops := l.length, pathIx := i, pathGen := epoch % 256 })).inc FWD_PATH_BUILT)
    | _, _ => (none, noPath w s)

/-- R204: the address of node `n` in Ward `w` that a source route lists, and whether it is short-derived. -/
def routeAddr (s : State) (w n : Nat) : Ip × Bool :=
  let short : Bool := s.flag (FWD_W_CFG.SRH_SHORT w) && (s.node n).short != 0xFFFE
  ({ pfx := wardPfx s w, iid := if short then iidOfShort (s.node n).short else iidOf (s.node n).eui }, short)

/-- R204: the outer header toward node `d` of Ward `w` over `hops`; a direct child has none. What it leaves open is a free value. -/
def outerHdr (w d : Nat) (hops : List Nat) (s : State) : Option OuterHdr × State :=
  match hops with
  | [] => (none, s)
  | h :: l =>
    let list := (l ++ [d]).map (routeAddr s w)
    let v := s.free 36
    (some {
      src := { pfx := wardPfx s w, iid := iidOf (rootEui s) }
      dst := (routeAddr s w h).1
      inst := s.rd (FWD_W_CFG.INSTANCE w)
      rank := s.rd (FWD_W_TAG.ROOT_RANK w)
      srh := list.map (·.1)
      lorh := if s.flag (FWD_W_CFG.LORH w) then some (if list.all (·.2) then 1 else 3) else none
      hop := bitsOf v 0 8
      dscp := bitsOf v 8 6
      ecn := bitsOf v 14 2
      flow := bitsOf v 16 20 }, s.took)

/-! The frame limit and fragments (R205) -/

/-- The largest PSDU up to `k` that fits a cell of `span` slots under template `tt` for Ward `w`; 0 when none does. -/
def largestPsdu (s : State) (w span tt : Nat) (ack : Bool) (late : Nat) : Nat → Nat
  | 0 => 0
  | k + 1 => if limitOk s w span tt ack late (k + 1) then k + 1 else largestPsdu s w span tt ack late k

/-- The first cell of the greatest span. -/
def longestCell : List (Nat × Cell) → Option Cell
  | [] => none
  | p :: l =>
    match longestCell l with
    | some c => if p.2.span < c.span then some c else some p.2
    | none => some p.2

/-- R205: the frame limit toward node `n` of Ward `w`. -/
def frameLimit (s : State) (w n : Nat) : Nat :=
  let (span, tt) := match longestCell (nodeCells s n 1) with
    | some c => (c.span + 1, c.tt)
    | none => (1, s.rd (SRC_ENV_CTL.TT_DEF w))
  largestPsdu s w span tt true (lateOf s n tt) 2047

/-- R281: the frame limit of a broadcast: the shortest span among the Ward's SHARED cells in enabled slotframes, ACK_REQ 0, no pre-shift. -/
def bcastLimit (s : State) (w : Nat) : Nat :=
  let l := (usedCells s).filter (fun x => x.2.2 = w && x.2.1.typ = 3)
  let short (a b : Cell) : Cell := if b.span < a.span then b else a
  let (span, tt) := match l with
    | x :: l => let c := l.foldl (fun a y => short a y.2.1) x.2.1; (c.span + 1, c.tt)
    | [] => (1, s.rd (SRC_ENV_CTL.TT_DEF w))
  largestPsdu s w span tt false 0 2047

/-- Octets of data of the FRAGN frames that carry `n` octets, `unit` at most in each. -/
def fragTail (unit n : Nat) : List Nat := List.replicate (n / unit) unit ++ (if n % unit = 0 then [] else [n % unit])

/-- R205: the PSDUs of a packet with `hc` compressed and `hu` uncompressed header octets and `body` octets behind them, in frames of `limit`
octets with `ovh` octets around the payload; none: OVERSIZE. The second part says whether it is fragmented. -/
def fragments (limit ovh hc hu body : Nat) : Option (List Nat × Bool) :=
  if ovh + hc + body ≤ limit then some ([ovh + hc + body], false)
  else
    let pay := limit - ovh
    let d1 := (hu + (pay - 4 - hc)) / 8 * 8 - hu
    let unit := (pay - 5) / 8 * 8
    if pay < 4 + hc + 8 || d1 < 8 || body ≤ d1 || unit = 0 then none
    else some ((ovh + 4 + hc + d1) :: (fragTail unit (body - d1)).map (fun n => ovh + 5 + n), true)

/-- Octets of payload behind the headers in each of the frames of `l` (R205): `ovh` octets stand around the payload, `hc` compressed header
octets in the first. -/
def bodySizes (ovh hc : Nat) (cut : Bool) : List Nat → List Nat
  | [] => []
  | n :: l => (n - ovh - hc - (if cut then 4 else 0)) :: l.map (fun k => k - ovh - 5)

/-- The frames of a packet, each with its PSDU and its octets of payload, get their identities, their curds and their payload; all but the
last carry MORE (R208). -/
def framesMake (f : QFrame) : List (Nat × Nat) → State → List QFrame × State
  | [], s => ([], s)
  | (n, b) :: l, s =>
    let (g, s) := newFrame { f with len := n, more := !l.isEmpty, curds := f.curds.take (curdsOf n), body := f.body.take b } s
    let (gs, s) := framesMake { f with curds := f.curds.drop (curdsOf n), body := f.body.drop b } l s
    (g :: gs, s)

/-- R205, R209: a packet is cut, takes its curds from DOWN for every frame together, and joins its class queue; else the Whey code. -/
def packetCut (p : Packet) (limit ovh hc hu body : Nat) (s : State) : Option Nat × State :=
  match fragments limit ovh hc hu body with
  | none => (some 14, s.whey 14)
  | some (l, cut) =>
    let n := l.foldl (fun a k => a + curdsOf k) 0
    match poolTake 0 n s with
    | (none, s) => (some 31, s.whey 31)
    | (some taken, s) =>
      let s := if cut then (s.inc (FWD_W_TAG.TAG p.ward)).add FWD_FRAG_TX l.length else s
      let f : QFrame := {
        cls := p.cls
        ward := p.ward
        kind := if p.bcast then 2 else 1
        user := 0
        peer := p.link
        dest := p.dest
        dst := if p.bcast then .short 0xFFFF else linkAddr (s.node p.link)
        pan := s.rd (MAC_WARD_PAN.PAN_ID p.ward)
        time := s.us32
        phyc := s.rd (FWD_W_CFG.PHYC p.ward)
        curds := taken
        body := p.pkt.body }
      let (frames, s) := framesMake f (l.zip (bodySizes ovh hc cut l)) s
      (none, downEnqueue { p with frames := frames } s)

/-! Downlink, stage 1 (R198, R223) -/

/-- A downlink packet is discarded at stage 1. -/
def downWhey (code : Nat) (s : State) : Option Nat × State := (some code, s.whey code)

/-- R198: a packet that resolves to no live node. -/
def downMiss (w : Nat) (d : DownItem) (cls : Nat) (s : State) : Option Nat × State :=
  let s := s.inc FWD_NOROUTE
  if s.flag FWD_CFG.MISS_HOST then (none, packetToHost w 3 d.rc d.asn cls d.pkt none s) else downWhey 18 s

/-- R198, R199 to R205: a packet that resolves to live node `n` of Ward `w`; the Whey code when it is discarded. -/
def downNode (w n cls : Nat) (p : DownContent) (s : State) : Option Nat × State :=
  if s.rd FWD_CFG.MESH_MTU < p.len then downWhey 19 s
  else
    match routeTo w n s with
    | (none, s) => downWhey 21 s
    | (some hops, s) =>
      let link := hops.headD n
      let (o, s) := outerHdr w n hops s
      let (hc, hu) := downOctets s w (linkAddr (s.node link)) o p
      let ovh := frameOverhead s w ((s.node link).short = 0xFFFE)
      packetCut { ward := w, cls := cls, dest := n, link := link, ipLen := p.len, outer := o, pkt := p } (frameLimit s w link) ovh hc hu (pktBody p) s

/-- R198 to R205 for a unicast packet; the Whey code when it is discarded. `poisoned`: the word of the record that
forwarding reads poisoned (R27). -/
def downUnicast (d : DownItem) (poisoned : Option (Fin 16)) (s : State) : Option Nat × State :=
  let p := d.pkt
  let dst := p.head.dst
  let cls := d.cls.getD (dscpClass s p.head.dscp).1
  if isMulticast dst then (none, packetToHost 0 5 d.rc d.asn cls p none s)
  else
    match wardOfIp s dst with
    | none => if d.src = 1 then (none, packetToHost 0 5 d.rc d.asn cls p none s) else downWhey 18 (s.inc FWD_NOROUTE)
    | some w =>
      if d.src = 1 && p.head.hop ≤ 1 then downWhey 17 s
      else
        match lookupIid w dst.iid s with
        | (none, s) => downMiss w d cls s
        | (some n, s) =>
          if poisoned.isSome && !(s.node n).fenced then downWhey 0 (fenceNode n ((poisoned.map Fin.val).getD 0) 8 s)
          else if (s.node n).state = .evict then downWhey 34 s
          else if !nodeActive s n then downMiss w d cls s
          else downNode w n cls (if d.src = 1 then { p with head := { p.head with hop := p.head.hop - 1 } } else p) s

/-- R281: a broadcast packet of Ward `w`. -/
def downBcast (w : Nat) (d : DownItem) (s : State) : Option Nat × State :=
  let p := d.pkt
  let cls := d.cls.getD (dscpClass s p.head.dscp).1
  let (hc, hu) := downOctets s w (.short 0xFFFF) none p
  packetCut { ward := w, cls := cls, ipLen := p.len, bcast := true, pkt := p } (bcastLimit s w) (frameOverhead s w false) hc hu (pktBody p) s

/-! Uplink (R197, R201, R217) -/

/-- R201: an ALIAS for a DAO target of node `n`, or HIT on the one that exists. -/
def aliasLearn (w n : Nat) (a : Ip) (s : State) : State :=
  let r := s.node n
  if a.pfx != wardPfx s w || a.iid = iidOf r.eui || shortIid a.iid = some r.short then s
  else
    match fwtFind s a.iid 0 w with
    | some p => fwtPut p { fwtAt s p with hit := true } s
    | none =>
      match fwtNew { key := a.iid, kind := .aliased, ward := w, nix := n, port := 7 } s with
      | (some _, s) => fwtMirror { kind := .aliased } s
      | (none, s) => s

/-- R201: the topology epoch of Ward `w` advances. -/
def epochUp (w : Nat) (s : State) : State := s.inc (FWD_W_EPOCH.EPOCH w)

/-- R201: PARENT of node `n` becomes what a DAO says; the parent's address is resolved under R198. -/
def parentSet (n : Nat) (d : Dao) (s : State) : State :=
  let r := s.node n
  let w := r.ward
  let go (root : Bool) (p : Nat) (s : State) : State :=
    if r.parentRoot = root && (root || r.parentNix = p) then s
    else (epochUp w (s.modNode n (fun r => { r with parentRoot := root, parentNix := if root then r.parentNix else p }))).inc FWD_PARENT_CHG
  match d.parent with
  | none => s
  | some a =>
    if d.life0 || r.isStatic then s
    else if isBastis s w a then go true 0 s
    else
      match wardOfIp s a with
      | none => s
      | some v =>
        match resolveIid v a.iid s with
        | (some p, s) => go false p s
        | (none, s) => s

/-- R201: a DAO is parsed; its sender is resolved from its IPv6 source. -/
def daoParse (src : Ip) (d : Dao) (s : State) : State :=
  let s := s.inc FWD_DAO_PARSED
  match (match wardOfIp s src with | some w => resolveIid w src.iid s | none => (none, s)) with
  | (none, s) => s
  | (some n, s) =>
    let s := parentSet n d s
    let w := (s.node n).ward
    if s.flag (FWD_W_CFG.ALIAS_LEARN w) then s.each d.targets (aliasLearn w n) else s

/-- R197: an uplink source passes the check of Ward `w`. -/
def srcOk (w : Nat) (a : Ip) (s : State) : Bool × State :=
  if !s.flag (FWD_W_CFG.SRC_CHECK w) then (true, s)
  else if a.pfx != wardPfx s w then (false, s)
  else
    match resolveIid w a.iid s with
    | (some n, s) => ((s.node n).state = .joined || (s.node n).state = .quiet, s)
    | (none, s) => (false, s)

/-- R197: the RPI of a packet is removed, with the octets that its option header takes. -/
def rpiRemove (p : DownContent) : DownContent :=
  let n := ((p.head.ext.filter (fun e => e.kind = 1)).map (·.len)).sum
  { p with head := { p.head with ext := p.head.ext.filter (fun e => e.kind != 1) }, len := p.len - n }

/-- R199: a packet with the addresses that decompression rebuilds. -/
def upPacket (s : State) (w : Nat) (p : UpPkt) : DownContent :=
  { p.pkt with head := { p.pkt.head with src := lowAddr s w p.src, dst := lowAddr s w p.dst } }

/-- A packet carries an SRH (R199). -/
def hasSrh (h : V6) : Bool := h.ext.any (fun e => e.kind = 2)

/-- R197: an uplink packet `q` of the decompressed form `p`; it holds the curds `cu` of UP as a frame of `fl` octets. -/
def upHandle (d : Delivered) (p : UpPkt) (fl : Nat) (cu : List Nat) (s : State) : State :=
  let w := d.ward
  let n := cu.length
  let q := upPacket s w p
  let (cls, yel) := dscpClass s q.head.dscp
  let toHost (why : Nat) (s : State) : State := packetToHost w why d.rc d.asn cls q (some d.nix) (poolGive 1 n s)
  match srcOk w q.head.src s with
  | (false, s) => poolGive 1 n ((s.inc FWD_SPOOF).whey 16)
  | (true, s) =>
    if hasSrh q.head then toHost 4 s
    else if p.rpl then
      toHost 2 (match p.dao with | some x => if s.flag FWD_CFG.DAO_PARSE then daoParse q.head.src x s else s | none => s)
    else if isBastis s w q.head.dst || isMulticast q.head.dst then toHost 2 s
    else if q.head.hop ≤ 1 then poolGive 1 n (s.whey 17)
    else if (wardOfIp s q.head.dst).isSome then
      let q := { q with head := { q.head with hop := q.head.hop - 1 } }
      let s := poolGive 1 n s
      modFwd (fun f => { f with down := f.down ++ [{ src := 2, pkt := q, rc := d.rc, asn := d.asn }] }) s
    else
      let len := (rpiRemove q).len
      match wardMark w cls len yel s with
      | (2, s) => poolGive 1 n (s.whey 27)
      | (c, s) =>
        let y : Bool := c = 1
        let (ports, s) := if s.flag (FWD_W_UPLINK.GW w) then gatewayPorts s else ([], s)
        upEnqueue { ward := w, cls := cls, nix := d.nix, len := len, curds := cu, frameLen := fl, time := s.us32, yellow := y,
                    pkt := rpiRemove q, words := packetWords d.rc d.asn cls y, ports := ports } s

/-- R197: an IP-in-IP packet addressed to Bastis is unwrapped, as often as that holds; one that carries an SRH is for the host as it is (R199). -/
def unwrapped (s : State) (w : Nat) (p : UpPkt) : List UpPkt → UpPkt
  | [] => p
  | q :: l => if !hasSrh p.pkt.head && isBastis s w (lowAddr s w p.dst) then unwrapped s w q l else p

/-- Decompression (R199) and R197. -/
def upDecompress (d : Delivered) (c : UpContent) (fl : Nat) (cu : List Nat) (s : State) : State :=
  if !c.forms.all (lowForm s d.ward) then poolGive 1 cu.length ((s.inc FWD_IPHC_ERR).whey 20)
  else upHandle d (unwrapped s d.ward c.pkt c.inner) fl cu s

/-! Reassembly (R206) -/

/-- The contexts change; FWD_REASM_STS shows how many are in use. -/
def setReasm (l : List Reasm) (s : State) : State := { s with qms := { s.qms with reasm := l } }.wr FWD_REASM_STS.USED l.length

/-- Curds that the fragments of a context hold. -/
def reasmCurds (x : Reasm) : Nat := x.held.foldl (fun a h => a + h.curds.length) 0

/-- A context goes with its fragments, each to the Whey with reason `code`. -/
def reasmDrop (x : Reasm) (code : Nat) (s : State) : State :=
  let s := setReasm (s.qms.reasm.filter (fun y => y != x)) s
  poolGive 2 (reasmCurds x) (s.wheyN code x.held.length)

/-- Two ranges share an octet. -/
def overlaps (a n b m : Nat) : Bool := a < b + m && b < a + n

/-- Octets of a datagram of `size` that a range covers: what reaches past the datagram covers nothing. -/
def coverage (size first len : Nat) : Nat := min (first + len) size - first

/-- A fragment joins its context, which opens with it (R206); when every octet is covered the datagram is whole, and takes curds of UP.
DEDUCED (log entry 29): as many as a frame of its length needs. -/
def reasmAdd (d : Delivered) (c : UpContent) (g : Frag) (x : Reasm) (cu : List Nat) (s : State) : State :=
  let y := { x with held := x.held ++ [{ first := g.first, len := g.len, curds := cu, data := g.data }] }
  if y.held.foldl (fun a h => a + coverage g.size h.first h.len) 0 < g.size then
    setReasm (if s.qms.reasm.contains x then s.qms.reasm.map (fun z => if z = x then y else z) else s.qms.reasm ++ [y]) s
  else
    let s := poolGive 2 (reasmCurds y) (setReasm (s.qms.reasm.filter (fun z => z != x)) s)
    let s := s.inc FWD_REASM_OK
    match poolTake 1 (curdsOf c.pkt.pkt.len) s with
    | (none, s) => s.whey 31
    | (some l, s) => upDecompress d c c.pkt.pkt.len l s

/-- R206: a fragment that holds the curds `cu` of REASM. -/
def reasmFragment (d : Delivered) (c : UpContent) (g : Frag) (cu : List Nat) (s : State) : State :=
  let s := s.inc FWD_FRAGS_RX
  let n := cu.length
  if s.rd FWD_REASM_CFG.MAX_DGRAM < g.size then poolGive 2 n ((s.inc FWD_REASM_BIG).whey 22)
  else
    match s.qms.reasm.find? (fun x => x.ward = d.ward && x.nix = d.nix && x.size = g.size && x.tag = g.tag) with
    | none =>
      if 16384 ≤ s.qms.reasm.length || s.rd FWD_REASM_CFG.PER_NODE ≤ (s.qms.reasm.filter (fun x => x.ward = d.ward && x.nix = d.nix)).length then
        poolGive 2 n (raise Irq.FWD_REASM_FULL ((s.inc FWD_REASM_FULL).whey 23))
      else reasmAdd d c g { ward := d.ward, nix := d.nix, size := g.size, tag := g.tag, opened := s.rc } cu s
    | some x =>
      if x.held.any (fun h => h.first = g.first && h.len = g.len) then poolGive 2 n s
      else if x.held.any (fun h => overlaps h.first h.len g.first g.len) then
        poolGive 2 n (reasmDrop x 24 ((s.inc FWD_REASM_OVERLAP).whey 24))
      else reasmAdd d c g x cu s

end Sys2Proof.Machine
end

