-- ==== Sys2Proof/Machine/Forward.lean ====
section
/-!
DEFINITION. The pipelines (R197 to R206, R217, R223): an uplink frame, a downlink packet, and the reassembly timeout.
-/

namespace Sys2Proof.Machine

/-- R217: the oldest delivered frame passes stages 2 to 7 in curds of UP, or of REASM for a fragment, as its LEN needs (R208); `content` is what
decompression finds in it. -/
def execUplinkPipeline (content : UpContent) (meets : TableMeets) (t : Nat) (s : State) : Result :=
  withMeets meets (fun s => match s.qms.delivered with
  | [] => .next s
  | d :: l =>
    if !s.flag FWD_CFG.EN then .next s
    else
      let s := { s with qms := { s.qms with delivered := l } }
      if d.policed then .next (s.whey 26)
      else
        match content.frag with
        | some g =>
          match poolTake 2 (curdsOf d.len) s with
          | (none, s) => .next (s.whey 31)
          | (some l, s) => .next (reasmFragment d content g l s)
        | none =>
          match poolTake 1 (curdsOf d.len) s with
          | (none, s) => .next (s.whey 31)
          | (some l, s) => .next (upDecompress d content d.len l s)) (s.at t)

/-- R282: the transmit descriptor of packet `id` may complete: it was taken, or dropped with a Whey code. -/
def txPacketDone (ring : Option Nat) (id : Nat) (dropped : Option Nat) (s : State) : State :=
  match ring with
  | none => s
  | some r =>
    let fill (x : TxTaken) : TxTaken :=
      if x.waits && x.frameId = id then { x with waits := false, dropped := dropped.isSome, whey := dropped.getD 0 } else x
    let l := (takenOf s r).map fill
    txFlush r l.length (setTaken r l s)

/-- R198, R223: the oldest packet for the downlink passes stage 1 into its class queue. `poisoned`: the word of its node's record
that is read poisoned (R27). -/
def execDownlinkPacket (poisoned : Option (Fin 16)) (meets : TableMeets) (t : Nat) (s : State) : Result :=
  withMeets meets (fun s => match s.fwd.down with
  | [] => .next s
  | d :: l =>
    if !s.flag FWD_CFG.EN then .next s
    else
      let s := modFwd (fun f => { f with down := l }) s
      let (code, s) := match d.bcast with
        | some w => downBcast w d s
        | none => downUnicast d poisoned s
      .next (txPacketDone d.ring d.id code s)) (s.at t)

/-- R206: the oldest reassembly context whose time is over is freed. -/
def execReasmTimeout (t : Nat) (s : State) : Result :=
  let s := s.at t
  match s.qms.reasm.find? (fun x => x.opened + s.rd FWD_REASM_CFG.TIMEOUT_S * 1000000000 ≤ s.rc) with
  | none => .next s
  | some x => .next (reasmDrop x 25 (s.inc FWD_REASM_TIMEOUT))

end Sys2Proof.Machine
end

