-- ==== Sys2Proof/Machine/NodeOps.lean ====
section
/-!
DEFINITION. Node records as the node commands use them (R28 to R33, R118, R144, R178, R292, R293): words, addresses, entry, restore and
release.
-/

namespace Sys2Proof.Machine

/-! Words of a record -/

/-- Code of a node state (R30). -/
def stateCode : NodeState → Nat
  | .free => 0
  | .joining => 1
  | .joined => 2
  | .quiet => 3
  | .evict => 4

/-- FLAGS (R30). -/
def nodeFlags (r : Node) : Nat :=
  ofBool r.isStatic + ofBool r.pinned * 2 + ofBool r.sleepy * 4 + ofBool r.oogSeen * 8 + ofBool r.updActive * 16 + ofBool r.moveCand * 32

/-- FWT_BACKREF (R30). -/
def nodeBackref (r : Node) : Nat :=
  r.brBucket + r.brWay * 2 ^ 16 + ofBool r.brInVat * 2 ^ 18 + ofBool r.brShadow * 2 ^ 19 + ofBool r.noFwt * 2 ^ 30 + ofBool r.brValid * 2 ^ 31

/-- The 32 words of a record (R28 to R30). -/
def nodeWords (r : Node) : List Nat :=
  [r.eui % 2 ^ 32, r.eui / 2 ^ 32 % 2 ^ 32,
    r.short + r.ward * 2 ^ 16 + stateCode r.state * 2 ^ 19 + nodeFlags r * 2 ^ 24,
    r.parentNix + ofBool r.parentRoot * 2 ^ 31,
    r.keyIx + r.kgen * 2 ^ 18,
    r.txFc, r.txFcCeil, r.rxFc,
    r.rxDsn + r.rxKgen * 2 ^ 8 + r.dupCnt * 2 ^ 16,
    r.lastAsn % 2 ^ 32,
    r.lastAsn / 2 ^ 32 + unsg 24 r.drift * 2 ^ 8,
    unsg 8 r.rssiAvg + r.lqiAvg * 2 ^ 8 + r.pdr * 2 ^ 16,
    r.txAtt, r.txOk, r.rxOk, r.rxOog,
    r.hops + r.pathIx * 2 ^ 8 + r.pathGen * 2 ^ 24, 0,
    r.qHead, r.qTail, r.qFrames + r.qCurds * 2 ^ 16,
    r.polTokens, r.rateIx + r.burstIx * 2 ^ 8,
    r.shpTokens, r.nextElig,
    r.cellPtr, r.cellCnt + r.tcUp * 2 ^ 16 + r.tcDown * 2 ^ 24,
    r.imgId + r.symCnt * 2 ^ 8,
    nodeBackref r, r.age, 0, 0]

/-- A short address that a record in state `st` may be given (R1, R3): 0x0001 to 0xFFFD, or 0xFFFE for none; a FREE record holds 0. -/
def shortOperand (st : NodeState) (a : Nat) : Bool := a < 0xFFFF && (a != 0 || st = .free)

/-- The fields that a host command supplies lie in their ranges (R30, R243, R289). -/
def nodeOperand (r : Node) : Bool :=
  r.eui < 2 ^ 64 && r.ward < 8 && r.parentNix < 262144 && r.keyIx < 262144 && r.kgen < 16
    && r.rxDsn < 256 && r.dupCnt < 65536 && r.lastAsn < asnMod && -8388608 ≤ r.drift && r.drift ≤ 8388607
    && -128 ≤ r.rssiAvg && r.rssiAvg ≤ 127 && r.lqiAvg < 256 && r.pdr < 65536
    && r.txAtt < 2 ^ 32 && r.txOk < 2 ^ 32 && r.rxOk < 2 ^ 32 && r.rxOog < 2 ^ 32
    && r.hops ≤ 16 && r.pathIx < 65536 && r.pathGen < 256 && r.polTokens < 2 ^ 32 && r.rateIx < 32 && r.burstIx < 32
    && r.shpTokens < 2 ^ 32 && r.nextElig < 2 ^ 32 && r.imgId < 256 && r.symCnt < 2 ^ 24

/-! Short addresses (R118, R196) -/

/-- Short address `a` of Ward `w` names record `n` (0 and a value v: none, and NIX v − 1). -/
def saxSet (w a n : Nat) (s : State) : State := modMac (fun m => { m with sax := Store.put 0 m.sax (w * 65536 + a) n }) s

/-- R118: the search for a free address upward from CURSOR + 1, `k` candidates at most. -/
def saxSearch (s : State) (w : Nat) : Nat → Nat → Option Nat
  | 0, _ => none
  | k + 1, a =>
    let a := if 0xFFFD < a || a = 0 then 1 else a
    if (saxFind s w a).isNone then some a else saxSearch s w k (a + 1)

/-- A record takes short address `a`, when it has one. -/
def saxTake (w a n : Nat) (s : State) : State :=
  if a = 0xFFFE then s else (saxSet w a (n + 1) s).inc (MAC_WARD_SA.COUNT w)

/-- A record gives its short address back (R33, R196). -/
def saxGive (n : Nat) (s : State) : State :=
  let r := s.node n
  if saxFind s r.ward r.short = some n then (saxSet r.ward r.short 0 s).sub (MAC_WARD_SA.COUNT r.ward) 1 else s

/-- Some record that is not FREE, other than `n`, references Key Table entry `k` (R156). -/
def keyUsed (s : State) (n k : Nat) : Bool := s.nodes.any (fun p => p.1 != n && p.2.state != .free && p.2.keyIx = k)

/-! Counter restore (R178) -/

/-- A counter state: KGEN, the ratchet applied once, TX_FC and its ceiling, RX_FC, RX_KGEN. -/
structure Counters where
  kgen : Nat
  ratchet : Bool := false
  tx : Nat := 0x80000000
  rx : Nat := 0
  rxKgen : Nat := 0xFF
deriving DecidableEq, Repr

/-- The counter-table entry of a NIX, with the records that the copier has not applied (R175). -/
def jnlEntryOf (s : State) (n : Nat) : JnlEntry :=
  (s.sec.ring.filter (fun r => r.typ = 1 && r.key = n)).foldl (fun e r => entryApply r e) (entryOf s.jdev.mem (tableAt (jnlRingSize s) n))

/-- R178: what a restored node takes from the table, for the generation the host gives; none for KGEN_MISMATCH. -/
def restore (s : State) (n g : Nat) : Option Counters :=
  let e := jnlEntryOf s n
  if !e.valid then some { kgen := g }
  else if e.gen = g then some { kgen := g, tx := e.ceil, rx := e.snap, rxKgen := g }
  else if e.gen = (g + 1) % 16 then some { kgen := e.gen, ratchet := true, tx := e.ceil, rx := e.snap, rxKgen := e.gen }
  else none

/-- The key ratchets once under R165 when the restore says so. -/
def restoreKey (n : Nat) (c : Counters) (s : State) : State :=
  let r := s.node n
  if c.ratchet then keyWrite r.keyIx (ratchetNext s (keyEntry s r.keyIx) r.eui c.kgen) s else s

/-- R180, R434: a restored node of a Ward in strict restart, or of a chip that lags after a forced takeover, must advance first. -/
def restoreRekey (n : Nat) (s : State) : State :=
  let w := (s.node n).ward
  let s := if s.flag (SEC_W_CFG.STRICT_ACTIVE w) then
      let s := rekeySet n true s
      { s with sec := { s.sec with strictWait := Store.put false s.sec.strictWait n true } }
    else s
  if s.flag PAIR_LAST.LAGGING then modPair (fun x => { x with halted := Store.put false x.halted n true }) (rekeySet n false s) else s

/-- A record's first reservation: a new block above its ceiling (R163). -/
def firstReserve (n : Nat) (rxReset : Bool) (s : State) : State :=
  let r := s.node n
  reserve { entry := { typ := 1, key := n, gen := r.kgen, ceil := min (r.txFcCeil + resBlock s) fcEnd, rxReset := rxReset } } s

/-! Eviction and release (R33, R144, R206, R235) -/

/-- Serac drops what it has outstanding with a node (R144). -/
def p6Drop (n : Nat) (s : State) : State :=
  let cmd := (p6Of s n).bind (·.cmd)
  let s := modSrc (fun x => { x with
    p6out := Store.put none x.p6out n none
    p6ack := x.p6ack.filter (fun a => a.nix != n)
    p6in := x.p6in.filter (fun i => i != n)
    sendNext := x.sendNext.filter (fun y => y.1 != n)
    sendNow := x.sendNow.filter (fun y => y.1 != n)
    refill := x.refill.filter (fun i => i != n)
    wants := x.wants.filter (fun w => w.1 != n)
    snap := Store.put {} x.snap n {} }) (polPut (p6SeqAt n) 0 s)
  match cmd with
  | some (ring, op, tag) => cmdDone ring op tag (s.free 8) 0 0 0 [] false s.took
  | none => s

/-- R33, R144, R201: a record enters EVICT: Serac deletes its TX and RX cells and commits, and the topology epoch advances. -/
def evictBegin (n : Nat) (s : State) : State :=
  let s := p6Drop n (epochUp (s.node n).ward (mirState n (s.putNode n (fun r => { r with state := .evict }))))
  let cells := (workCells s).filter (fun p => chained p.2 && p.2.nix = n)
  let s := stage (cells.map (fun p => .del p.1 false)) s
  applyStart (modSrc (fun x => { x with evictNext := x.evictNext ++ [n] }) s)

/-- The cells of an evicted record are out of the generation in force (R144). -/
def evictCleared (s : State) (n : Nat) : Bool := !s.src.evictNext.contains n && !s.src.evicting.contains n

/-- R33: everything a record holds is released and the record is zeroed: queue, reassembly contexts, forwarding entry, path, short address,
key state, campaign. Its fence goes with it (R27). -/
def nodeRelease (n : Nat) (s : State) : State :=
  let r := s.node n
  let q := nodeQOf s n
  let s := (setNodeQ n [] s).each q (frameWhey 34)
  let s := s.each (s.qms.reasm.filter (fun x => x.nix = n && x.ward = r.ward)) (fun x s => reasmDrop x 25 (s.inc FWD_REASM_TIMEOUT))
  let s := saxGive n (fwtNodeGone n s)
  let e : PathEntry := Store.find {} s.fwd.paths r.pathIx
  let s := if e.valid && e.owner = n && !e.host then modFwd (fun f => { f with paths := Store.put {} f.paths r.pathIx {} }) s else s
  let s := haltClear n (rekeyClear n s)
  let s := { s with sec := { s.sec with dirty := s.sec.dirty.filter (fun i => i != n) } }
  let s := modMac (fun m => { m with heard := Store.put 0 m.heard n 0 }) s
  let s := if r.updActive then (match campOfImg s r.imgId with | some c => campLess c s | none => s) else s
  mirState n (s.setNode n {})

end Sys2Proof.Machine
end

