-- ==== Sys2Proof/Machine/Nodes.lean ====
section
/-!
DEFINITION. Node commands (R33, R291 to R293), the release of an eviction, and EB_SET (R117).
-/

namespace Sys2Proof.Machine

/-! NODE_ADD -/

/-- The operands of NODE_ADD lie in their ranges; PATH is used only with STATIC (R289, R292). -/
def addOperand (nix : Nat) (any restoring : Bool) (b : NodeBlock) : Bool :=
  (any || nix < 262144) && !(any && restoring) && b.eui < 2 ^ 64 && b.short < 0xFFFF && b.parentNix < 262144 && b.keyIx < 262144
    && b.kgen < 16 && b.rateIx < 32 && b.burstIx < 32 && (!b.isStatic || (b.hops ≤ 16 && b.pathIx < 65536 && b.pathGen < 256))

/-- A record may take a NODE_ADD: FREE and not fenced (R27, R292). -/
def addable (s : State) (n : Nat) : Bool := (s.node n).state = .free && !(s.node n).fenced

/-- The lowest FREE NIX (R288): one of the first as many as there are records and one more. -/
def lowestFree (s : State) : Nat := ((List.range (s.nodes.length + 1)).find? (addable s)).getD 0

/-- R118: the short address of an added record: none when the Ward is full; `some (some a)`, or `some none` when it is in use. -/
def addShort (s : State) (w short : Nat) : Option (Option Nat) :=
  if short = 0xFFFE then some (some short)
  else if 65533 ≤ s.rd (MAC_WARD_SA.COUNT w) then none
  else if short = 0 then (saxSearch s w 65534 (s.rd (MAC_WARD_SA.CURSOR w) + 1)).map some
  else some (if (saxFind s w short).isNone then some short else none)

/-- R33, R118, R178, R292: the record is written and enters JOINING. -/
def addRecord (n a : Nat) (b : NodeBlock) (c : Counters) (s : State) : State :=
  let r : Node := {
    eui := b.eui
    short := a
    ward := b.ward
    state := .joining
    isStatic := b.isStatic
    pinned := b.pinned
    sleepy := b.sleepy
    parentNix := b.parentNix
    parentRoot := b.parentRoot
    keyIx := b.keyIx
    kgen := c.kgen
    txFc := c.tx
    txFcCeil := c.tx
    rxFc := c.rx
    rxKgen := c.rxKgen
    rateIx := b.rateIx
    burstIx := b.burstIx
    hops := if b.isStatic then b.hops else 0
    pathIx := if b.isStatic then b.pathIx else 0
    pathGen := if b.isStatic then b.pathGen else 0 }
  let s := saxTake b.ward a n (s.setNode n r)
  nodeMetersReset n (if b.short = 0 then s.wr (MAC_WARD_SA.CURSOR b.ward) a else s)

/-- NODE_ADD after every check but the forwarding entry: `n` the NIX, `a` the short address, `c` the counters. An insertion that fails leaves
nothing behind but what it did to the table (R187). -/
def addFinish (ring tag n a : Nat) (b : NodeBlock) (restoring : Bool) (c : Counters) (s0 : State) : State :=
  let s := keyWrite b.keyIx b.key (addRecord n a b c s0)
  let s := fcMark n fcFirst (restoreKey n c s)
  let (ok, s') := fwtNode n (a != 0xFFFE) s
  if !ok && a = 0xFFFE then cmdPlain ring 0x01 tag 5 (fwtNodeNew n b.eui b.ward s0).2
  else
    let s := if restoring then restoreRekey n s' else s'
    let s := mirState n (firstReserve n (!restoring) s)
    cmdDone ring 0x01 tag 0 n a c.kgen [] false s

/-- NODE_ADD (R33, R118, R156, R172, R178, R182, R291, R292). -/
def execNodeAdd (ring : Fin 8) (hd : CmdHead) (nix : Nat) (any restore : Bool) (block : NodeBlock) (meets : TableMeets) (t : Nat) (s : State) : Result :=
  withMeets meets (withOwner ring 0x01 hd.tag (withData ring 0x01 hd 64 (fun s =>
    let n := if any then lowestFree s else nix
    let fail (k : Nat) (s : State) : State := cmdPlain ring 0x01 hd.tag k s
    if !addOperand nix any restore block then fail 0xF1 s
    else if caveDown s then fail 0xF4 s
    else if any && min 262144 (s.rd SEC_JNL_LIMIT.NIX_LIMIT) ≤ n then fail 3 (macTrace 0x51 0 0 0 (raise Irq.MAC_DOMAIN_FULL s))
    else if s.rd SEC_JNL_LIMIT.NIX_LIMIT ≤ n then fail 6 s
    else if !addable s n then fail 8 s
    else
      match addShort s block.ward block.short with
      | none => fail 2 (macTrace 0x50 0 0 block.ward (raiseWard Irq.MAC_WARD_FULL block.ward s))
      | some none => fail 1 s
      | some (some a) =>
        if keyUsed s n block.keyIx then fail 4 s
        else if (keyOpen s 0 block.key).isNone then badKey ring 0x01 hd.tag s
        else
          match if restore then Sys2Proof.Machine.restore s n block.kgen else some { kgen := block.kgen } with
          | none => fail 7 s
          | some c => addFinish ring hd.tag n a block restore c s))) (s.at t)

/-! NODE_EVICT and the release -/

/-- NODE_EVICT (R27, R33, R144, R291): accepted in every state but EVICT; it completes when the record is FREE. -/
def execNodeEvict (ring : Fin 8) (tag nix t : Nat) (s : State) : Result :=
  withOwner ring 0x02 tag (fun s =>
    if 262144 ≤ nix then cmdPlain ring 0x02 tag 0xF1 s
    else if (s.node nix).state = .evict then cmdPlain ring 0x02 tag 9 s
    else evictBegin nix (modSrc (fun x => { x with evictCmd := Store.put none x.evictCmd nix (some (ring.val, tag)) }) s)) (s.at t)

/-- R33, R144: the generation boundary has passed and the release is complete: the record is FREE, and the command completes. -/
def execEvictReleaseComplete (nix : Fin 262144) (meets : TableMeets) (t : Nat) (s : State) : Result :=
  withMeets meets (fun s =>
  let n := nix.val
  if (s.node n).state != .evict || !evictCleared s n then .next s
  else
    let cmd := Store.find none s.src.evictCmd n
    let s := modSrc (fun x => { x with evictCmd := Store.put none x.evictCmd n none }) (nodeRelease n s)
    match cmd with
    | some (ring, tag) => .next (cmdPlain ring 0x02 tag 0 s)
    | none => .next s) (s.at t)

/-! NODE_QUIET, NODE_READ, NODE_MODIFY, NODE_WRITE -/

/-- NODE_QUIET (R33, R291). -/
def execNodeQuiet (ring : Fin 8) (tag nix t : Nat) (s : State) : Result :=
  withOwner ring 0x03 tag (fun s =>
    if 262144 ≤ nix then cmdPlain ring 0x03 tag 0xF1 s
    else if (s.node nix).state != .joined || (s.node nix).fenced then cmdPlain ring 0x03 tag 9 s
    else cmdPlain ring 0x03 tag 0 (nodeQuiet nix s)) (s.at t)

/-- The six words of a wrapped key in the Key Table. -/
def keyWords (s : State) (k : Nat) : List Nat := wrapWords (keyEntry s k)

/-- NODE_READ (R31, R291): each record as a snapshot, a fenced one as it stands. -/
def execNodeRead (ring : Fin 8) (hd : CmdHead) (first count : Nat) (withKey : Bool) (t : Nat) (s : State) : Result :=
  withCmd ring (fun s =>
    if count = 0 || 1024 < count || 262144 < first + count then cmdPlain ring 0x04 hd.tag 0xF1 s
    else
      let l := (List.range count).map (fun i => first + i)
      let f := l.filter (fun n => (s.node n).fenced)
      let row (n : Nat) : List Nat := nodeWords (s.node n) ++ (if withKey then keyWords s (s.node n).keyIx else [])
      cmdRows ring 0x04 hd f.length (f.headD 0xFFFFFFFF) (if withKey then 152 else 128) (l.map row) s) (s.at t)

/-- What NODE_MODIFY makes of a record (R293). -/
def modified (mask value : Nat) (d : ModData) (r : Node) : Node :=
  let m (k : Nat) : Bool := mask.testBit k
  let r := { r with
    isStatic := if m 0 then value.testBit 0 else r.isStatic
    pinned := if m 1 then value.testBit 1 else r.pinned
    sleepy := if m 2 then value.testBit 2 else r.sleepy
    oogSeen := r.oogSeen && !m 3
    rateIx := if m 4 then bitsOf value 8 5 else r.rateIx
    burstIx := if m 5 then bitsOf value 16 5 else r.burstIx }
  let r := if m 6 then { r with txAtt := 0, txOk := 0, rxOk := 0, rxOog := 0 } else r
  let r := if m 7 then { r with parentNix := d.parentNix, parentRoot := d.parentRoot } else r
  if m 8 then { r with hops := d.hops, pathIx := d.pathIx, pathGen := d.pathGen } else r

/-- Octets of data that NODE_MODIFY reads: word 0 for PARENT, words 1 and 2 for PATH (R293). -/
def modifyData (mask : Nat) : Nat := if mask.testBit 8 then 12 else if mask.testBit 7 then 4 else 0

/-- NODE_MODIFY (R32, R293): each MASK bit in one write; the buckets are reset when RATE_IX or BURST_IX is written (R230). PARENT and PATH need
STATIC. It fails with BADSTATE after NODE_EVICT (R300). DEDUCED (log entry 29): a record in EVICT, and one that is FREE, is refused. -/
def execNodeModify (ring : Fin 8) (hd : CmdHead) (nix mask value : Nat) (data : ModData) (t : Nat) (s : State) : Result :=
  withOwner ring 0x05 hd.tag (withData ring 0x05 hd (modifyData mask) (fun s =>
    let pathOps : Bool := mask.testBit 7 || mask.testBit 8
    let badPath : Bool := 16 < data.hops || 65536 ≤ data.pathIx || 256 ≤ data.pathGen
    if 262144 ≤ nix || (mask.testBit 7 && 262144 ≤ data.parentNix) || (mask.testBit 8 && badPath) then cmdPlain ring 0x05 hd.tag 0xF1 s
    else
      let r := modified mask value data (s.node nix)
      if !nodeActive s nix || (pathOps && !r.isStatic) then cmdPlain ring 0x05 hd.tag 9 s
      else
        let s := s.setNode nix r
        let s := s.when (mask.testBit 4 || mask.testBit 5) (nodeMetersReset nix)
        cmdPlain ring 0x05 hd.tag 0 s)) (s.at t)

/-- What NODE_WRITE writes (R293): everything from the data but STATE, the queue fields, the cell fields, FWT_BACKREF, AGE and the counters;
the fence is lifted. -/
def written (old new : Node) (c : Counters) : Node :=
  { new with
    state := old.state
    qHead := 0
    qTail := 0
    qFrames := 0
    qCurds := 0
    cellPtr := old.cellPtr
    cellCnt := old.cellCnt
    tcUp := old.tcUp
    tcDown := old.tcDown
    brBucket := 0
    brWay := 0
    brInVat := false
    brShadow := false
    noFwt := old.noFwt
    brValid := false
    age := 0
    kgen := c.kgen
    txFc := c.tx
    txFcCeil := c.tx
    rxFc := c.rx
    rxKgen := c.rxKgen
    fenced := false }

/-- A record has moved from Ward `w`: its REKEY bit and its halt count in its new Ward (R164, R167); the old one may have been waiting for it
alone (R180). -/
def wardMove (n w : Nat) (s : State) : State :=
  let v := (s.node n).ward
  let s := if rekeyOf s n then strictEnd w ((s.sub (SEC_W_PEND.COUNT w) 1).inc (SEC_W_PEND.COUNT v)) else s
  if Store.find false s.sec.halted n then (s.sub (SEC_W_HALT.COUNT w) 1).inc (SEC_W_HALT.COUNT v) else s

/-- NODE_WRITE's checks passed (R293). -/
def nodeRewrite (ring tag nix : Nat) (record : Node) (c : Counters) (s : State) : State :=
  let old := s.node nix
  let q := nodeQOf s nix
  let s := saxGive nix ((setNodeQ nix [] s).each q (frameWhey 0))
  let s := nodeMetersReset nix (s.setNode nix (written old record c))
  let named : Bool := record.short != 0 && record.short < 0xFFFE
  let s := wardMove nix old.ward (if named then saxTake record.ward record.short nix s else s)
  let s := rxDirty nix old.rxFc (fcMark nix fcFirst (restoreKey nix c (haltDrop nix s)))
  let s := modSrc (fun x => { x with rebuild := x.rebuild ++ [nix] }) s
  let s := if nodeActive s nix then firstReserve nix false s else s
  cmdDone ring 0x06 tag 0 0 0 c.kgen [] false s

/-- NODE_WRITE (R27, R178, R293). -/
def execNodeWrite (ring : Fin 8) (hd : CmdHead) (nix : Nat) (record : Node) (t : Nat) (s : State) : Result :=
  withOwner ring 0x06 hd.tag (withData ring 0x06 hd 128 (fun s =>
    if 262144 ≤ nix || !nodeOperand record || !shortOperand (s.node nix).state record.short then cmdPlain ring 0x06 hd.tag 0xF1 s
    else if !(s.node nix).fenced then cmdPlain ring 0x06 hd.tag 11 s
    else
      match saxFind s record.ward record.short with
      | some m =>
        if m != nix then cmdPlain ring 0x06 hd.tag 1 s
        else if keyUsed s nix record.keyIx then cmdPlain ring 0x06 hd.tag 4 s
        else match restore s nix record.kgen with
          | none => cmdPlain ring 0x06 hd.tag 7 s
          | some c => nodeRewrite ring hd.tag nix record c s
      | none =>
        if keyUsed s nix record.keyIx then cmdPlain ring 0x06 hd.tag 4 s
        else match restore s nix record.kgen with
          | none => cmdPlain ring 0x06 hd.tag 7 s
          | some c => nodeRewrite ring hd.tag nix record c s)) (s.at t)

/-- EB_SET (R117, R291): the header IEs of a Ward's Enhanced Beacon, DATA_LEN octets of the data, up to 256. -/
def execEbSet (ring : Fin 8) (hd : CmdHead) (ward : Nat) (ies : List (Fin 256)) (t : Nat) (s : State) : Result :=
  withCmd ring (fun s =>
    let l := (List.range hd.len).map (fun i => (ies.getD i 0).val)
    if 8 ≤ ward || 256 < hd.len then cmdPlain ring 0x40 hd.tag 0xF1 s
    else withData ring 0x40 hd hd.len (fun s => cmdPlain ring 0x40 hd.tag 0 (modMac (fun m => { m with eb := Store.put [] m.eb ward l }) s)) s) (s.at t)

end Sys2Proof.Machine
end

