-- ==== Sys2Proof/Machine/PairSync.lean ====
section
/-!
DEFINITION. The pair engine's own operations (R419 to R437): roles, loss and gain of synchronisation, releases, takeover, and what a
mirror or bulk record does on the standby.
-/

namespace Sys2Proof.Machine

/-! Messages -/

/-- R419: a message whose TAG is wrong is discarded. -/
def authFail (s : State) : State := faultEvent 111 {} (raise Irq.PAIR_AUTH_FAIL (s.inc PAIR_AUTH_FAIL))

/-- R419, R421: a message passes: its TAG verifies under PTK, which exists, and the pair function is enabled. -/
def tagPasses (s : State) (tagOk : Bool) : Bool := tagOk && s.pair.ptk && s.flag PAIR_CFG.EN

/-- A message that passes does `f`; any other is discarded. With the pair function off nothing is received. -/
def withTag (tagOk : Bool) (f : State → State) (s : State) : State :=
  if !s.flag PAIR_CFG.EN then s else if tagPasses s tagOk then f s else authFail s

/-! Roles -/

/-- PAIR_CTL.BAD shows whether a control write was refused (R423). -/
def pairDone (ok : Bool) (s : State) : State := s.put PAIR_CTL.BAD (!ok)

/-- R423: "queues are released": every frame in node queues, class queues, calendar and reassembly contexts goes to the Whey with reason
EVICT. -/
def queuesRelease (s : State) : State :=
  let s := s.each s.qms.nodeQ (fun q s => (setNodeQ q.1 [] s).each q.2 (frameWhey 34))
  let up := s.qms.upQ
  let down := s.qms.downQ
  let cal := s.qms.cal
  let s := { s with qms := { s.qms with upQ := [], downQ := [] } }
  let s := s.each up (fun q s => (s.wr (QMS_CQ.CURDS q.1) 0).each q.2 (fun p s => poolGive 1 p.curds.length (s.whey 34)))
  let s := s.each down (fun q s => (s.wr (QMS_CQ.CURDS (64 + q.1)) 0).each q.2 (packetWhey 34))
  let s := (setCal [] s).each cal (fun d => packetWhey 34 d.packet)
  s.each s.qms.reasm (fun x => reasmDrop x 34)

/-- R423: STANDBY. -/
def goStandby (s : State) : State := queuesRelease (pairBegin 2 s)

/-- R423: a STANDBY loses synchronisation. -/
def syncLost (s : State) : State :=
  let s := (setSync 0 s).put PAIR_BULK_STS.RUN false
  let s := pairTrace 0x07 (modPair (fun p => { p with bulkLast := false }) (s.put PAIR_LAST.LAGGING true))
  raise Irq.PAIR_SYNC_LOST s

/-- R423: every local record is released as by NODE_EVICT, without events, and its cells with it. -/
def recordsRelease (s : State) : State :=
  let s := s.each s.nodes (fun n => nodeRelease n.1)
  let keep (l : Store Cell) : Store Cell := l.filter (fun p => !chained p.2)
  cellsView (modSrc (fun x => { x with cells := keep x.cells, live := keep x.live, staged := [], spill := [], applying := none, bounds := [], sendNext := [], sendNow := [] }) s)

/-- R423: a STANDBY enters BULK against a heartbeat that names MSEQ `m`. -/
def bulkEnter (m : Nat) (s : State) : State :=
  let s := setSync 1 (recordsRelease s)
  let s := (((s.put PAIR_BULK_STS.RUN true).wr PAIR_BULK_STS.CURSOR 0).inc PAIR_RESYNCS).wr PAIR_MIR_SEQ.MSEQ m
  modPair (fun p => { p with bulkLast := false }) s

/-- How many records a bulk sync of the present state sends (R428): records, ALIAS and STATION entries, cells of enabled slotframes, group
slots and ceilings, REKEY bits, 6P bytes. -/
def bulkCount (s : State) : Nat :=
  (s.nodes.filter (fun p => p.2.state != .free)).length
    + ((s.fwd.ways ++ s.fwd.vat).filter (fun p => p.2.kind = .aliased || p.2.kind = .station)).length
    + (usedCells s).length + (s.sec.group.filter (fun p => p.2.isSome)).length + 8 + (s.nodes.filter (fun p => rekeyOf s p.1)).length
    + (s.nodes.filter (fun p => p6Seq s p.1 != 0)).length

/-- R428: the ACTIVE sends its state and mirrors from here on. The pass is taken whole. -/
def bulkSend (s : State) : State :=
  let s := setSync 1 (mirStop s)
  let s := linkSent ((s.inc PAIR_RESYNCS).add PAIR_BULK_RECORDS (bulkCount s))
  modPair (fun p => { p with mirror := true }) s

/-! Takeover -/

/-- R429: the takeover condition holds: the fence goes out and the takeover tick is awaited; a STANDBY that is not IN_SYNC reports once
per loss (R423). An armed switch is abandoned (R438). -/
def takeCondition (s : State) : State :=
  if roleOf s != 2 then s
  else if inSync s then
    if s.flag PAIR_STS.TAKE_PEND then s
    else
      let s := ((s.put PAIR_STS.FENCE_OUT true).put PAIR_STS.TAKE_PEND true).put PAIR_STS.SW_PEND false
      modPair (fun p => { p with takeAt := s.rc }) s
  else if s.pair.blocked then s
  else pairTrace 0x0A (raise Irq.PAIR_TAKE_BLOCKED (modPair (fun p => { p with blocked := true }) (s.inc PAIR_TAKE_BLOCKED)))

/-- R431, step 4: a servo that follows the peer enters HOLDOVER with cause SYNC_LOSS. -/
def servoPeerLost (s : State) : State :=
  if servoFrom s 2 && (s.rd TSU_SERVO_STS.STATE = 1 || s.rd TSU_SERVO_STS.STATE = 2) then
    raise Irq.TSU_SYNC_LOSS (holdover s.rc 1 s)
  else s

/-- R433, STRICT_TAKE: a strict Ward's nodes restart strictly, as if OPEN had found CLEAN at 0 (R180). -/
def takeStrict (s : State) : State :=
  if !s.flag PAIR_CFG.STRICT_TAKE then s
  else
    s.each ((List.range 8).filter (fun w => s.flag (SEC_W_CFG.STRICT w))) (fun w s =>
      let s := strictStart false w s
      let l := (s.nodes.filter (fun p => p.2.ward = w && nodeActive s p.1)).map (·.1)
      s.each l (fun n s =>
        let s := rekeySet n true s
        { s with sec := { s.sec with strictWait := Store.put false s.sec.strictWait n true } }))

/-- R431: the steps of a takeover; `event` names it in the trace. -/
def takeGo (event : Nat) (s : State) : State :=
  let s := setRole 1 (pairIdle (s.inc PAIR_EPOCH.EPOCH))
  let s := s.each (List.range 8) (fun w s => groupMark w (s.rd (SEC_W_GTX_FC.FC w)) (s.wr (SEC_W_GTX_FC.FC w) (s.rd (SEC_W_GTX_CEIL.CEIL w))))
  let s := pairTrace event (faultEvent 107 {} (servoPeerLost s))
  takeStrict (raise Irq.PAIR_TAKEOVER s)

/-- R434: after a forced takeover each node takes its counters from the journal (R178), is pending and halted, and each Ward's broadcast
waits for a group switch. A record whose generation the journal does not match keeps its mirrored counters. -/
def forceNodes (s : State) : State :=
  let l := (s.nodes.filter (fun p => nodeActive s p.1)).map (·.1)
  let s := s.each l (fun n s =>
    let s := match restore s n (s.node n).kgen with
      | some c =>
        let old := (s.node n).rxFc
        let s := restoreKey n c (haltDrop n s)
        rxDirty n old (fcMark n fcFirst
          (s.modNode n (fun r => { r with kgen := c.kgen, txFc := c.tx, txFcCeil := c.tx, rxFc := c.rx, rxKgen := c.rxKgen })))
      | none => s
    modPair (fun p => { p with halted := Store.put false p.halted n true }) (rekeySet n false s))
  modPair (fun p => { p with wards := (List.range 8).map (fun w => (w, true)), forced := true }) s

/-- R432: an ACTIVE chip is fenced: its front ends stop. -/
def fenceGo (s : State) : State :=
  let s := s.each (List.range 4) (fun n s => if feState s n = 0 then s else feStop n s)
  let s := setRole 3 (pairIdle (replan (s.each (List.range 4) (spansEnd true))))
  pairTrace 0x03 (raise Irq.PAIR_FENCED ((s.put PAIR_LAST.LAGGING true).inc PAIR_FENCES))

/-! Records on the standby (R425, R428) -/

/-- A mirrored record over the local one: the queue, the activity counters, AGE and FWT_BACKREF stay; TX_FC equals TX_FC_CEIL. -/
def mirRecord (old new : Node) : Node :=
  { mirrored new with
    txFc := new.txFcCeil
    qHead := old.qHead
    qTail := old.qTail
    qFrames := old.qFrames
    qCurds := old.qCurds
    txAtt := old.txAtt
    txOk := old.txOk
    rxOk := old.rxOk
    rxOog := old.rxOog
    dupCnt := old.dupCnt
    age := old.age
    brBucket := old.brBucket
    brWay := old.brWay
    brInVat := old.brInVat
    brShadow := old.brShadow
    noFwt := old.noFwt
    brValid := old.brValid }

/-- A node record is applied: a new one takes its short address and its forwarding entry, one that is FREE is released. Its counters have moved
(R164, R176); a new generation ends a halt. -/
def mirNode (n : Nat) (r : Node) (cursor : Nat) (s : State) : State :=
  let s := s.wr (MAC_WARD_SA.CURSOR r.ward) cursor
  let old := s.node n
  if r.state = .free then (if old.state = .free then s else nodeRelease n s)
  else
    let fresh : Bool := old.state = .free || old.kgen != r.kgen
    let s := (s.when fresh (haltDrop n)).setNode n (mirRecord old r)
    let s := rxDirty n old.rxFc (fcMark n (if fresh then fcFirst else old.txFc) s)
    if old.state = .free then (fwtNode n true (saxTake r.ward r.short n s)).2 else s

/-- A Key Table write is applied (R425): the key is wrapped again, under the chip's own KTK. -/
def mirKey (k key : Nat) (s : State) : State :=
  match rewrap s key with
  | some v => keyWrite k v s
  | none => s

/-- A group key is applied to slot `j` of Ward `w`, wrapped again. -/
def mirGroup (w j gen key : Nat) (s : State) : State :=
  let s := { s with sec := { s.sec with group := Store.put none s.sec.group (w * 3 + j) (rewrap s key) } }
  groupView w
    (if j = 0 then
      let s := { s with sec := { s.sec with prevGen := Store.put 0 s.sec.prevGen w gen } }
      s.put (SEC_W_GRP.PREV_VALID w) true
    else if j = 1 then s.wr (SEC_W_GRP.CUR_GEN w) gen
    else (s.wr (SEC_W_GRP.NEXT_GEN w) gen).put (SEC_W_GRP.NEXT_VALID w) true)

/-- An ALIAS or STATION entry is applied by key, under the chip's own seed. -/
def mirFwt (e : FwtEntry) (s : State) : State :=
  (fwtFind s e.key (fwtCls e.kind) e.ward).elim (fwtNew e s).2 (fun p =>
    let s := lockTake s
    fwtPut p { fwtAt s p with port := e.port, nix := e.nix, isStatic := e.isStatic, moveCand := false, moveCnt := 0 } s)

/-- Such an entry is deleted. -/
def mirFwtGone (e : FwtEntry) (s : State) : State :=
  (fwtFind s e.key (fwtCls e.kind) e.ward).elim s (fun p => fwtRemove p (lockTake s))

/-- A generation batch comes into force at its boundary, or IN_SYNC ends because that has passed (R423). -/
def mirBatch (gen bound : Nat) (cells : List (Nat × Cell)) (on off : List (Fin 64)) (s : State) : State :=
  let l := cells.foldl (fun m c => Store.put {} m c.1 c.2) s.src.cells
  let s := (cellsView (modSrc (fun x => { x with cells := l }) s)).wr SRC_GEN.CUR gen
  let b : GenBound := { asn := bound, cells := l, turnOn := on.map (·.val), turnOff := off.map (·.val) }
  let s := s.each b.turnOn (fun f s => s.put (SRC_SF_CFG.EN f) true)
  let s := (s.each b.turnOff (fun f s => s.put (SRC_SF_CFG.EN f) false)).wr SRC_GEN.BOUND bound
  if later bound s.asn then modSrc (fun x => { x with bounds := x.bounds ++ [b] }) s
  else
    let s := boundary b s
    if asnRuns s && s.rd PAIR_STS.SYNC = 2 then syncLost s else s

/-- A mirrored generation batch. In IN_SYNC one whose generation is not newer is not applied (R137), which ends IN_SYNC unless it is the one
in force (R423). -/
def mirGen (gen bound : Nat) (cells : List (Nat × Cell)) (on off : List (Fin 64)) (s : State) : State :=
  let cur := s.rd SRC_GEN.CUR
  if s.rd PAIR_STS.SYNC = 2 && !genNewer gen cur then (if gen = cur then s else syncLost s) else mirBatch gen bound cells on off s

/-- One item is applied; `m`: the MSEQ that a MACK may cover once a reservation is committed. -/
def mirApply (m : Option Nat) (i : MirItem) (s : State) : State :=
  match i with
  | .node n r c => mirNode n r c s
  | .reserve e =>
    let s := jnlReopen s
    { s with sec := { s.sec with waiting := s.sec.waiting ++ [{ entry := e, mseq := m }] } }
  | .key k v => mirKey k v s
  | .group w j g k => mirGroup w j g k s
  | .groupSwitch w => groupRotate w s
  | .rekey n b => if b then rekeySet n false s else rekeyClear n s
  | .sixp n q b => polPut (p6StsAt n) b (polPut (p6SeqAt n) q s)
  | .fwt e => mirFwt e s
  | .fwtGone e => mirFwtGone e s
  | .gen g b c on off => mirGen g b c on off s

/-- R435: the new active has applied every record up to MARK. -/
def markCheck (s : State) : State :=
  if s.pair.marking && s.pair.mark = some (s.rd PAIR_MIR_SEQ.MSEQ) then modPair (fun p => { p with marking := false, mark := none }) s else s

end Sys2Proof.Machine
end

