-- ==== Sys2Proof/Machine/RegTypes.lean ====
section
/-!
DEFINITION. The shape of the register map (R11, R12, R464, R465): access codes, clamps, fields and registers.
-/

namespace Sys2Proof.Machine

/-- Access codes of R12. -/
inductive Acc where
  | ro | rw | w1c | rc | wo | rwl
deriving DecidableEq, Repr

/-- How a written value is clamped (R14). -/
inductive Clamp where
  /-- Every value of the field is legal. -/
  | any
  | range (lo hi : Nat)
  | signed (lo hi : Int)
  /-- The register table gives a rule of its own (`specialValue`). -/
  | special
deriving DecidableEq, Repr

/-- One field of a register: its lowest bit, access, clamp, whether a command of its own row changes it, and the field of frame `n`,
element `i`. -/
structure RegField where
  lo : Nat
  acc : Acc
  clamp : Clamp
  own : Bool
  fld : Nat → Nat → Fld

/-- One register of a block: byte address of frame 0, number of frames and their stride, number of array elements and their stride. -/
structure RegRow where
  addr : Nat
  frames : Nat
  stride : Nat
  count : Nat
  step : Nat
  fields : List RegField

end Sys2Proof.Machine
end

