-- ==== Sys2Proof/Machine/RegMap.lean ====
section
/-!
DEFINITION. The register map (R464, R465 and the register tables): for each register of each block its base,
frames, offset and array, and its fields with their access codes (R12) and clamps (R14).
A field marked `own` is changed by a command of its own row; a register write leaves it to that command.
-/

namespace Sys2Proof.Machine

/-- Part 0 of the register map. -/
def regMap0 : List RegRow := [
  ⟨0x60000, 4, 0x4000, 1, 4, [⟨0, .rw, .any, true, (fun n _ => RFE_CTL.EN n)⟩, ⟨1, .rw, .any, false, (fun n _ => RFE_CTL.TX_EN n)⟩, ⟨2, .rw, .special, false, (fun n _ => RFE_CTL.COVER_EN n)⟩, ⟨3, .rw, .any, false, (fun n _ => RFE_CTL.AUTO_CAL n)⟩, ⟨4, .rw, .any, false, (fun n _ => RFE_CTL.ACK_PIX n)⟩, ⟨8, .rw, .any, false, (fun n _ => RFE_CTL.EB_PIX n)⟩]⟩,
  ⟨0x60004, 4, 0x4000, 1, 4, [⟨0, .ro, .any, false, (fun n _ => RFE_STS.STATE n)⟩, ⟨3, .ro, .any, false, (fun n _ => RFE_STS.LOCKED n)⟩, ⟨4, .ro, .any, false, (fun n _ => RFE_STS.CAL_DUE n)⟩, ⟨5, .ro, .any, false, (fun n _ => RFE_STS.COVERING n)⟩, ⟨6, .ro, .any, false, (fun n _ => RFE_STS.COVERED n)⟩]⟩,
  ⟨0x60008, 4, 0x4000, 1, 4, [⟨0, .rw, .special, true, (fun n _ => RFE_TUNE.CENTRE n)⟩]⟩,
  ⟨0x6000c, 4, 0x4000, 1, 4, [⟨0, .ro, .any, false, (fun n _ => RFE_SYN_STS.LAST_LOCK n)⟩, ⟨16, .ro, .any, false, (fun n _ => RFE_SYN_STS.MOVE_PEND n)⟩]⟩,
  ⟨0x60010, 4, 0x4000, 1, 4, [⟨0, .rw, (.range 2 30), false, (fun n _ => RFE_CAL_CFG.TEMP_THR n)⟩, ⟨8, .rw, .any, false, (fun n _ => RFE_CAL_CFG.AUTO_MASK n)⟩, ⟨16, .rw, (.range 1 255), false, (fun n _ => RFE_CAL_CFG.STARVE_S n)⟩]⟩,
  ⟨0x60014, 4, 0x4000, 1, 4, [⟨0, .wo, .any, true, (fun n _ => RFE_CAL_CMD.STEPS n)⟩, ⟨8, .wo, .any, true, (fun n _ => RFE_CAL_CMD.FORCE n)⟩]⟩,
  ⟨0x60018, 4, 0x4000, 1, 4, [⟨0, .ro, .any, false, (fun n _ => RFE_CAL_STS.DONE n)⟩, ⟨5, .ro, .any, false, (fun n _ => RFE_CAL_STS.RUNNING n)⟩, ⟨8, .ro, .any, false, (fun n _ => RFE_CAL_STS.BUSY n)⟩, ⟨9, .ro, .any, false, (fun n _ => RFE_CAL_STS.PENDING n)⟩, ⟨14, .ro, .any, false, (fun n _ => RFE_CAL_STS.ERR n)⟩]⟩,
  ⟨0x6001c, 4, 0x4000, 1, 4, [⟨0, .ro, .any, false, (fun n _ => RFE_TEMP.NOW n)⟩, ⟨8, .ro, .any, false, (fun n _ => RFE_TEMP.AT_CAL n)⟩]⟩,
  ⟨0x60020, 4, 0x4000, 1, 4, [⟨0, .ro, .any, false, (fun n _ => RFE_CAL_TIME.LAST n)⟩]⟩,
  ⟨0x60024, 4, 0x4000, 1, 4, [⟨0, .ro, .any, false, (fun n _ => RFE_COVER_STS.PHASE n)⟩, ⟨3, .ro, .any, false, (fun n _ => RFE_COVER_STS.ABORTED n)⟩, ⟨16, .ro, .any, false, (fun n _ => RFE_COVER_STS.COUNT n)⟩]⟩,
  ⟨0x60028, 4, 0x4000, 1, 4, [⟨0, .rw, (.range 0 120), false, (fun n _ => RFE_PA_CTL.PA_LEAD n)⟩, ⟨8, .rw, (.range 0 40), false, (fun n _ => RFE_PA_CTL.PA_LAG n)⟩, ⟨16, .rw, .any, false, (fun n _ => RFE_PA_CTL.PA_POL n)⟩, ⟨17, .rw, .any, false, (fun n _ => RFE_PA_CTL.LNA_POL n)⟩, ⟨18, .rw, .any, false, (fun n _ => RFE_PA_CTL.TR_POL n)⟩, ⟨19, .rw, .any, false, (fun n _ => RFE_PA_CTL.EXT_PA n)⟩, ⟨20, .rw, .any, false, (fun n _ => RFE_PA_CTL.EXT_LNA n)⟩]⟩,
  ⟨0x6002c, 4, 0x4000, 1, 4, [⟨0, .rw, .any, false, (fun n _ => RFE_ANT_CTL.ANT_RX n)⟩, ⟨2, .rw, .any, false, (fun n _ => RFE_ANT_CTL.ANT_TX n)⟩, ⟨4, .rw, .any, false, (fun n _ => RFE_ANT_CTL.ANT_IDLE n)⟩]⟩,
  ⟨0x60030, 4, 0x4000, 1, 4, [⟨0, .rw, (.range 6 24), false, (fun n _ => RFE_AGC_CFG.BACKOFF n)⟩, ⟨8, .rw, (.range 1 31), false, (fun n _ => RFE_AGC_CFG.DECAY_MS n)⟩, ⟨16, .rw, .any, false, (fun n _ => RFE_AGC_CFG.FREEZE n)⟩]⟩,
  ⟨0x60034, 4, 0x4000, 1, 4, [⟨0, .ro, .any, false, (fun n _ => RFE_AGC_STS.GAIN n)⟩, ⟨8, .ro, .any, false, (fun n _ => RFE_AGC_STS.PEAK n)⟩, ⟨16, .ro, .any, false, (fun n _ => RFE_AGC_STS.STEPS n)⟩]⟩,
  ⟨0x60038, 4, 0x4000, 1, 4, [⟨0, .rw, .special, false, (fun n _ => RFE_BLANK.MASK n)⟩]⟩,
  ⟨0x6003c, 4, 0x4000, 1, 4, [⟨0, .rw, .any, false, (fun n _ => RFE_RSSI_OFS.OFS n)⟩]⟩,
  ⟨0x60040, 4, 0x4000, 1, 4, [⟨0, .ro, .any, false, (fun n _ => RFE_LBT_STS.LAST_ED n)⟩, ⟨8, .ro, .any, false, (fun n _ => RFE_LBT_STS.LAST_BUSY n)⟩]⟩,
  ⟨0x60044, 4, 0x4000, 1, 4, [⟨0, .w1c, .any, false, (fun n _ => RFE_INT_STS.LOCK_FAIL n)⟩, ⟨1, .w1c, .any, false, (fun n _ => RFE_INT_STS.CAL_DONE n)⟩, ⟨2, .w1c, .any, false, (fun n _ => RFE_INT_STS.CAL_ERR n)⟩, ⟨3, .w1c, .any, false, (fun n _ => RFE_INT_STS.CAL_STARVED n)⟩, ⟨4, .w1c, .any, false, (fun n _ => RFE_INT_STS.DC_NEAR n)⟩, ⟨5, .w1c, .any, false, (fun n _ => RFE_INT_STS.TX_LATE n)⟩]⟩,
  ⟨0x60048, 4, 0x4000, 1, 4, [⟨0, .rw, .any, false, (fun n _ => RFE_INT_EN.LOCK_FAIL n)⟩, ⟨1, .rw, .any, false, (fun n _ => RFE_INT_EN.CAL_DONE n)⟩, ⟨2, .rw, .any, false, (fun n _ => RFE_INT_EN.CAL_ERR n)⟩, ⟨3, .rw, .any, false, (fun n _ => RFE_INT_EN.CAL_STARVED n)⟩, ⟨4, .rw, .any, false, (fun n _ => RFE_INT_EN.DC_NEAR n)⟩, ⟨5, .rw, .any, false, (fun n _ => RFE_INT_EN.TX_LATE n)⟩]⟩,
  ⟨0x6004c, 4, 0x4000, 1, 4, [⟨0, .rw, .special, false, (fun n _ => RFE_PIN_OVR.OVR_EN n)⟩, ⟨1, .rw, .special, false, (fun n _ => RFE_PIN_OVR.PA_EN n)⟩, ⟨2, .rw, .special, false, (fun n _ => RFE_PIN_OVR.LNA_EN n)⟩, ⟨3, .rw, .special, false, (fun n _ => RFE_PIN_OVR.TR n)⟩, ⟨4, .rw, .special, false, (fun n _ => RFE_PIN_OVR.ANT n)⟩]⟩,
  ⟨0x60050, 4, 0x4000, 1, 4, [⟨0, .rw, .any, true, (fun n _ => RFE_TX_TEST.CW_EN n)⟩, ⟨4, .rw, .any, true, (fun n _ => RFE_TX_TEST.PIX n)⟩, ⟨8, .rw, .special, true, (fun n _ => RFE_TX_TEST.OFFSET n)⟩]⟩,
  ⟨0x60054, 4, 0x4000, 1, 4, [⟨0, .rc, .any, true, (fun n _ => RFE_TX_AIR.AIR n)⟩]⟩,
  ⟨0x60058, 4, 0x4000, 1, 4, [⟨0, .ro, .any, false, (fun n _ => RFE_TX_LATE n)⟩]⟩,
  ⟨0x6005c, 4, 0x4000, 1, 4, [⟨0, .ro, .any, false, (fun n _ => RFE_TX_OUTSIDE n)⟩]⟩]

/-- Part 1 of the register map. -/
def regMap1 : List RegRow := [
  ⟨0x60060, 4, 0x4000, 1, 4, [⟨0, .ro, .any, false, (fun n _ => RFE_RX_BLANKED n)⟩]⟩,
  ⟨0x60064, 4, 0x4000, 1, 4, [⟨0, .ro, .any, false, (fun n _ => RFE_DC_BLOCK n)⟩]⟩,
  ⟨0x60068, 4, 0x4000, 1, 4, [⟨0, .ro, .any, false, (fun n _ => RFE_DC_ACK_BLOCK n)⟩]⟩,
  ⟨0x6006c, 4, 0x4000, 1, 4, [⟨0, .ro, .any, false, (fun n _ => RFE_LBT_BUSY n)⟩]⟩,
  ⟨0x60070, 4, 0x4000, 1, 4, [⟨0, .ro, .any, false, (fun n _ => RFE_CAL_DONE n)⟩]⟩,
  ⟨0x60074, 4, 0x4000, 1, 4, [⟨0, .ro, .any, false, (fun n _ => RFE_SYN_MOVES n)⟩]⟩,
  ⟨0x60078, 4, 0x4000, 1, 4, [⟨0, .ro, .any, false, (fun n _ => RFE_LOCK_FAIL n)⟩]⟩,
  ⟨0x6007c, 4, 0x4000, 1, 4, [⟨0, .ro, .any, false, (fun n _ => RFE_TX_FRAMES n)⟩]⟩,
  ⟨0x60080, 4, 0x4000, 4, 4, [⟨0, .rw, .any, false, (fun n i => RFE_DC_LO.LO_KHZ n i)⟩, ⟨22, .rw, (.range 0 500), false, (fun n i => RFE_DC_LO.LBT_MIN n i)⟩]⟩,
  ⟨0x60090, 4, 0x4000, 4, 4, [⟨0, .rw, .any, false, (fun n i => RFE_DC_HI.HI_KHZ n i)⟩, ⟨24, .rw, (.signed (-110) (-50)), false, (fun n i => RFE_DC_HI.LBT_THR n i)⟩]⟩,
  ⟨0x600a0, 4, 0x4000, 4, 4, [⟨0, .rw, (.range 1 10000), false, (fun n i => RFE_DC_CFG.LIMIT n i)⟩, ⟨16, .rw, (.range 0 4), false, (fun n i => RFE_DC_CFG.WINDOW n i)⟩, ⟨20, .rw, .special, false, (fun n i => RFE_DC_CFG.ACK_RES n i)⟩, ⟨28, .rw, .any, false, (fun n i => RFE_DC_CFG.LBT_EN n i)⟩, ⟨29, .rw, .any, false, (fun n i => RFE_DC_CFG.EN n i)⟩]⟩,
  ⟨0x600b0, 4, 0x4000, 4, 4, [⟨0, .ro, .any, false, (fun n i => RFE_DC_USED.USED n i)⟩]⟩,
  ⟨0x600c0, 4, 0x4000, 16, 4, [⟨0, .rw, (.range 0 120), false, (fun n i => RFE_PWR_TBL.CODE n i)⟩]⟩,
  ⟨0x60100, 4, 0x4000, 64, 4, [⟨0, .ro, .any, false, (fun n i => RFE_CAL_RES.C0 n i)⟩, ⟨16, .ro, .any, false, (fun n i => RFE_CAL_RES.C1 n i)⟩]⟩,
  ⟨0x70000, 1, 0x0, 1, 4, [⟨0, .rw, .any, false, (fun _ _ => CHZ_CFG.EN)⟩, ⟨1, .rw, .any, false, (fun _ _ => CHZ_CFG.NOCELL_HOST)⟩, ⟨2, .rw, .any, false, (fun _ _ => CHZ_CFG.BADFCS_HOST)⟩, ⟨3, .rw, .any, false, (fun _ _ => CHZ_CFG.DUP_EN)⟩, ⟨8, .rw, (.range 1 6), false, (fun _ _ => CHZ_CFG.AVG_SHIFT)⟩, ⟨16, .rw, (.range 0 24), false, (fun _ _ => CHZ_CFG.OFDM_RES)⟩]⟩,
  ⟨0x70004, 1, 0x0, 1, 4, [⟨0, .rw, (.range 0 1), false, (fun _ _ => CHZ_WIDTH.THAW_W)⟩, ⟨2, .rw, (.range 0 1), false, (fun _ _ => CHZ_WIDTH.FLOE_W)⟩, ⟨4, .rw, (.range 0 1), false, (fun _ _ => CHZ_WIDTH.RIME_W)⟩]⟩,
  ⟨0x70008, 1, 0x0, 1, 4, [⟨0, .rw, .any, false, (fun _ _ => CHZ_ARB.PREEMPT_EN)⟩, ⟨1, .rw, .any, false, (fun _ _ => CHZ_ARB.CLASS_UP_EN)⟩, ⟨8, .rw, (.range 0 80), false, (fun _ _ => CHZ_ARB.Q_HYST)⟩]⟩,
  ⟨0x7000c, 1, 0x0, 1, 4, [⟨0, .ro, .any, false, (fun _ _ => CHZ_STS.SNIFF_WANT)⟩, ⟨11, .ro, .any, false, (fun _ _ => CHZ_STS.SNIFF_SHORT)⟩, ⟨12, .ro, .any, false, (fun _ _ => CHZ_STS.WIDTH_NOW)⟩]⟩,
  ⟨0x70010, 1, 0x0, 1, 4, [⟨0, .w1c, .any, false, (fun _ _ => CHZ_INT_STS.SNIFF_SHORT)⟩, ⟨1, .w1c, .any, false, (fun _ _ => CHZ_INT_STS.PLAN_CLAMP)⟩, ⟨2, .w1c, .any, false, (fun _ _ => CHZ_INT_STS.FIFO_OVF)⟩, ⟨3, .w1c, .any, false, (fun _ _ => CHZ_INT_STS.LOSS_A)⟩]⟩,
  ⟨0x70014, 1, 0x0, 1, 4, [⟨0, .rw, .any, false, (fun _ _ => CHZ_INT_EN.SNIFF_SHORT)⟩, ⟨1, .rw, .any, false, (fun _ _ => CHZ_INT_EN.PLAN_CLAMP)⟩, ⟨2, .rw, .any, false, (fun _ _ => CHZ_INT_EN.FIFO_OVF)⟩, ⟨3, .rw, .any, false, (fun _ _ => CHZ_INT_EN.LOSS_A)⟩]⟩,
  ⟨0x70018, 1, 0x0, 1, 4, [⟨0, .ro, .any, false, (fun _ _ => CHZ_SLICE_BUSY.BUSY)⟩]⟩,
  ⟨0x7001c, 1, 0x0, 1, 4, [⟨0, .rc, .any, true, (fun _ _ => CHZ_SLICE_PEAK.PEAK)⟩]⟩,
  ⟨0x70020, 1, 0x0, 1, 4, [⟨0, .rw, .any, false, (fun _ _ => CHZ_SPEC_CTL.FE)⟩, ⟨4, .rw, .special, false, (fun _ _ => CHZ_SPEC_CTL.START)⟩, ⟨16, .rw, (.range 0 10), false, (fun _ _ => CHZ_SPEC_CTL.AVG)⟩, ⟨20, .rw, .any, false, (fun _ _ => CHZ_SPEC_CTL.RUN)⟩]⟩,
  ⟨0x70030, 1, 0x0, 4, 4, [⟨0, .ro, .any, false, (fun _ i => CHZ_SNIFF_USE.USED i)⟩]⟩]

/-- Part 2 of the register map. -/
def regMap2 : List RegRow := [
  ⟨0x70040, 1, 0x0, 4, 4, [⟨0, .rw, .any, false, (fun _ i => CHZ_TS_OFS.OFS i)⟩]⟩,
  ⟨0x70060, 1, 0x0, 8, 4, [⟨0, .rw, .special, true, (fun _ i => CHZ_OOG.LIMIT i)⟩, ⟨16, .ro, .any, false, (fun _ i => CHZ_OOG.EFF i)⟩]⟩,
  ⟨0x70080, 1, 0x0, 1, 4, [⟨0, .ro, .any, false, (fun _ _ => CHZ_LOST_A)⟩]⟩,
  ⟨0x70084, 1, 0x0, 1, 4, [⟨0, .ro, .any, false, (fun _ _ => CHZ_LOST_B)⟩]⟩,
  ⟨0x70088, 1, 0x0, 1, 4, [⟨0, .ro, .any, false, (fun _ _ => CHZ_LOST_C)⟩]⟩,
  ⟨0x7008c, 1, 0x0, 1, 4, [⟨0, .ro, .any, false, (fun _ _ => CHZ_LOST_OFDM)⟩]⟩,
  ⟨0x70090, 1, 0x0, 1, 4, [⟨0, .ro, .any, false, (fun _ _ => CHZ_PREEMPT_SYNC)⟩]⟩,
  ⟨0x70094, 1, 0x0, 1, 4, [⟨0, .ro, .any, false, (fun _ _ => CHZ_PREEMPT_FRAME)⟩]⟩,
  ⟨0x70098, 1, 0x0, 1, 4, [⟨0, .ro, .any, false, (fun _ _ => CHZ_CLASS_UP)⟩]⟩,
  ⟨0x70100, 1, 0x0, 4, 4, [⟨0, .ro, .any, false, (fun _ i => CHZ_DET i)⟩]⟩,
  ⟨0x70110, 1, 0x0, 4, 4, [⟨0, .ro, .any, false, (fun _ i => CHZ_NO_SFD i)⟩]⟩,
  ⟨0x70120, 1, 0x0, 4, 4, [⟨0, .ro, .any, false, (fun _ i => CHZ_PHR_ERR i)⟩]⟩,
  ⟨0x70130, 1, 0x0, 4, 4, [⟨0, .ro, .any, false, (fun _ i => CHZ_MODE_SW i)⟩]⟩,
  ⟨0x70140, 1, 0x0, 4, 4, [⟨0, .ro, .any, false, (fun _ i => CHZ_LEN_ERR i)⟩]⟩,
  ⟨0x70150, 1, 0x0, 4, 4, [⟨0, .ro, .any, false, (fun _ i => CHZ_FCS_ERR i)⟩]⟩,
  ⟨0x70160, 1, 0x0, 4, 4, [⟨0, .ro, .any, false, (fun _ i => CHZ_RX_OK i)⟩]⟩,
  ⟨0x70170, 1, 0x0, 4, 4, [⟨0, .ro, .any, false, (fun _ i => CHZ_DUP_SUP i)⟩]⟩,
  ⟨0x70180, 1, 0x0, 4, 4, [⟨0, .ro, .any, false, (fun _ i => CHZ_OOG_IN i)⟩]⟩,
  ⟨0x70190, 1, 0x0, 4, 4, [⟨0, .ro, .any, false, (fun _ i => CHZ_OOG_OUT i)⟩]⟩,
  ⟨0x701a0, 1, 0x0, 4, 4, [⟨0, .ro, .any, false, (fun _ i => CHZ_NOCELL i)⟩]⟩,
  ⟨0x701b0, 1, 0x0, 4, 4, [⟨0, .ro, .any, false, (fun _ i => CHZ_FIFO_OVF i)⟩]⟩,
  ⟨0x70200, 1, 0x0, 11, 4, [⟨0, .rw, .special, false, (fun _ i => CHZ_CLASS_CFG.DET_SYM i)⟩, ⟨8, .rw, (.range 4 80), false, (fun _ i => CHZ_CLASS_CFG.DET_THR i)⟩, ⟨16, .rw, .special, false, (fun _ i => CHZ_CLASS_CFG.PRE_MAX i)⟩]⟩,
  ⟨0x70400, 1, 0x0, 16, 4, [⟨0, .rw, .special, true, (fun _ i => CHZ_PLAN_FE.FE_MASK i)⟩, ⟨4, .rw, .any, true, (fun _ i => CHZ_PLAN_FE.EN i)⟩, ⟨5, .rw, .any, true, (fun _ i => CHZ_PLAN_FE.ALWAYS i)⟩]⟩,
  ⟨0x70440, 1, 0x0, 16, 4, [⟨0, .rw, .any, true, (fun _ i => CHZ_PLAN_F0.F0_KHZ i)⟩]⟩]

/-- Part 3 of the register map. -/
def regMap3 : List RegRow := [
  ⟨0x70480, 1, 0x0, 16, 4, [⟨0, .rw, (.range 0 5), true, (fun _ i => CHZ_PLAN_GEO.SPACING i)⟩, ⟨4, .rw, (.range 1 400), true, (fun _ i => CHZ_PLAN_GEO.COUNT i)⟩, ⟨16, .rw, .special, true, (fun _ i => CHZ_PLAN_GEO.MAX_PSDU i)⟩]⟩,
  ⟨0x704c0, 1, 0x0, 16, 4, [⟨0, .rw, .special, true, (fun _ i => CHZ_PLAN_PHY.CLASS_MASK i)⟩, ⟨12, .rw, .any, true, (fun _ i => CHZ_PLAN_PHY.HIDX i)⟩, ⟨13, .rw, .any, true, (fun _ i => CHZ_PLAN_PHY.SFD_SET i)⟩, ⟨14, .rw, .any, true, (fun _ i => CHZ_PLAN_PHY.FEC_RSC i)⟩, ⟨15, .rw, .any, true, (fun _ i => CHZ_PLAN_PHY.INTLV i)⟩, ⟨16, .rw, (.range 4 255), true, (fun _ i => CHZ_PLAN_PHY.PRE_LEN i)⟩]⟩,
  ⟨0x70500, 1, 0x0, 16, 4, [⟨0, .ro, .any, false, (fun _ i => CHZ_PLAN_STS.IN_WIN i)⟩, ⟨10, .ro, .any, false, (fun _ i => CHZ_PLAN_STS.SNIFF i)⟩, ⟨21, .w1c, .any, false, (fun _ i => CHZ_PLAN_STS.CLAMPED i)⟩]⟩,
  ⟨0x70540, 1, 0x0, 16, 4, [⟨0, .ro, .any, false, (fun _ i => CHZ_PLAN_DET i)⟩]⟩,
  ⟨0x70800, 1, 0x0, 128, 4, [⟨0, .ro, .any, false, (fun _ i => CHZ_SLICE_STS.STATE i)⟩, ⟨2, .ro, .any, false, (fun _ i => CHZ_SLICE_STS.CLASS i)⟩, ⟨4, .ro, .any, false, (fun _ i => CHZ_SLICE_STS.FE i)⟩, ⟨6, .ro, .any, false, (fun _ i => CHZ_SLICE_STS.PLAN i)⟩, ⟨10, .ro, .any, false, (fun _ i => CHZ_SLICE_STS.CHAN i)⟩, ⟨19, .ro, .any, false, (fun _ i => CHZ_SLICE_STS.PHYC i)⟩, ⟨23, .ro, .any, false, (fun _ i => CHZ_SLICE_STS.OFDM_CAP i)⟩]⟩,
  ⟨0x70a00, 1, 0x0, 128, 4, [⟨0, .ro, .any, false, (fun _ i => CHZ_SLICE_FRAMES i)⟩]⟩,
  ⟨0x70c00, 1, 0x0, 128, 4, [⟨0, .ro, .any, false, (fun _ i => CHZ_SPEC.PWR i)⟩, ⟨8, .ro, .any, false, (fun _ i => CHZ_SPEC.MAX i)⟩]⟩,
  ⟨0x80000, 1, 0x0, 1, 4, [⟨0, .rw, .any, false, (fun _ _ => MAC_CFG.EN)⟩, ⟨1, .rw, .any, false, (fun _ _ => MAC_CFG.TRACE_EN)⟩]⟩,
  ⟨0x80004, 1, 0x0, 1, 4, [⟨0, .ro, .any, false, (fun _ _ => MAC_STS.ASN_RUN)⟩, ⟨16, .ro, .any, false, (fun _ _ => MAC_STS.TRACE_WP)⟩]⟩,
  ⟨0x80008, 1, 0x0, 1, 4, [⟨0, .rw, (.range 2000 200000), true, (fun _ _ => MAC_SLOT_LEN.LEN_US)⟩]⟩,
  ⟨0x8000c, 1, 0x0, 1, 4, [⟨0, .ro, .any, true, (fun _ _ => MAC_ASN_LO.ASN)⟩]⟩,
  ⟨0x80010, 1, 0x0, 1, 4, [⟨0, .ro, .any, true, (fun _ _ => MAC_ASN_HI.ASN)⟩]⟩,
  ⟨0x80014, 1, 0x0, 1, 4, [⟨0, .w1c, .any, false, (fun _ _ => MAC_INT_STS.HS_SWITCHED)⟩, ⟨1, .w1c, .any, false, (fun _ _ => MAC_INT_STS.HS_LATE)⟩, ⟨2, .w1c, .any, false, (fun _ _ => MAC_INT_STS.UC_SWAPPED)⟩, ⟨3, .w1c, .any, false, (fun _ _ => MAC_INT_STS.UC_BAD)⟩, ⟨4, .w1c, .any, false, (fun _ _ => MAC_INT_STS.WARD_FULL)⟩, ⟨5, .w1c, .any, false, (fun _ _ => MAC_INT_STS.DOMAIN_FULL)⟩, ⟨6, .w1c, .any, false, (fun _ _ => MAC_INT_STS.ACK_SKIP)⟩, ⟨7, .w1c, .any, false, (fun _ _ => MAC_INT_STS.TX_MISSED)⟩, ⟨8, .w1c, .any, false, (fun _ _ => MAC_INT_STS.LS_HANG)⟩]⟩,
  ⟨0x80018, 1, 0x0, 1, 4, [⟨0, .rw, .any, false, (fun _ _ => MAC_INT_EN.HS_SWITCHED)⟩, ⟨1, .rw, .any, false, (fun _ _ => MAC_INT_EN.HS_LATE)⟩, ⟨2, .rw, .any, false, (fun _ _ => MAC_INT_EN.UC_SWAPPED)⟩, ⟨3, .rw, .any, false, (fun _ _ => MAC_INT_EN.UC_BAD)⟩, ⟨4, .rw, .any, false, (fun _ _ => MAC_INT_EN.WARD_FULL)⟩, ⟨5, .rw, .any, false, (fun _ _ => MAC_INT_EN.DOMAIN_FULL)⟩, ⟨6, .rw, .any, false, (fun _ _ => MAC_INT_EN.ACK_SKIP)⟩, ⟨7, .rw, .any, false, (fun _ _ => MAC_INT_EN.TX_MISSED)⟩, ⟨8, .rw, .any, false, (fun _ _ => MAC_INT_EN.LS_HANG)⟩]⟩,
  ⟨0x8001c, 1, 0x0, 1, 4, [⟨0, .rw, .any, false, (fun _ _ => MAC_ACK_CFG.SEC)⟩, ⟨1, .rw, .any, false, (fun _ _ => MAC_ACK_CFG.TCX_EN)⟩, ⟨8, .rw, (.range 1 32), false, (fun _ _ => MAC_ACK_CFG.ACK_MAX)⟩]⟩,
  ⟨0x80020, 1, 0x0, 1, 4, [⟨0, .rw, .special, false, (fun _ _ => MAC_TCX_OUI.OUI)⟩]⟩,
  ⟨0x80024, 1, 0x0, 1, 4, [⟨0, .rw, .any, false, (fun _ _ => MAC_EB_CFG.SEC)⟩, ⟨1, .rw, .any, false, (fun _ _ => MAC_EB_CFG.TS_FULL)⟩, ⟨8, .rw, .any, false, (fun _ _ => MAC_EB_CFG.JOIN_METRIC)⟩]⟩,
  ⟨0x80028, 1, 0x0, 1, 4, [⟨0, .rw, (.range 1 6), false, (fun _ _ => MAC_DRIFT_CFG.SHIFT)⟩, ⟨8, .rw, (.range 1 255), false, (fun _ _ => MAC_DRIFT_CFG.MIN_S)⟩, ⟨16, .rw, (.range 1 8), false, (fun _ _ => MAC_DRIFT_CFG.PDR_SHIFT)⟩]⟩,
  ⟨0x8002c, 1, 0x0, 1, 4, [⟨0, .rw, .any, false, (fun _ _ => MAC_RETRY_CFG.MAX_RETRY)⟩, ⟨4, .rw, (.range 0 7), false, (fun _ _ => MAC_RETRY_CFG.MIN_BE)⟩, ⟨8, .rw, .special, false, (fun _ _ => MAC_RETRY_CFG.MAX_BE)⟩]⟩,
  ⟨0x80030, 1, 0x0, 1, 4, [⟨0, .rw, .any, false, (fun _ _ => MAC_JOIN_CFG.ACK_JOIN)⟩, ⟨8, .rw, .any, false, (fun _ _ => MAC_JOIN_CFG.JOIN_RATE)⟩]⟩,
  ⟨0x80034, 1, 0x0, 1, 4, [⟨0, .rwl, .any, false, (fun _ _ => MAC_EUI_LO.EUI)⟩]⟩,
  ⟨0x80038, 1, 0x0, 1, 4, [⟨0, .rwl, .any, false, (fun _ _ => MAC_EUI_HI.EUI)⟩]⟩,
  ⟨0x8003c, 1, 0x0, 1, 4, [⟨0, .rw, .any, false, (fun _ _ => MAC_HS_IDX.ENTRY)⟩, ⟨16, .rw, .any, false, (fun _ _ => MAC_HS_IDX.HS)⟩, ⟨24, .rw, .any, false, (fun _ _ => MAC_HS_IDX.AUTO)⟩]⟩,
  ⟨0x80040, 1, 0x0, 1, 4, [⟨0, .rw, .any, true, (fun _ _ => MAC_HS_DATA.PLAN)⟩, ⟨4, .rw, (.range 0 399), true, (fun _ _ => MAC_HS_DATA.CHAN)⟩]⟩]

/-- Part 4 of the register map. -/
def regMap4 : List RegRow := [
  ⟨0x80044, 1, 0x0, 1, 4, [⟨0, .rw, .any, true, (fun _ _ => MAC_HS_CTL.MASK)⟩, ⟨16, .rw, .any, true, (fun _ _ => MAC_HS_CTL.ARM)⟩]⟩,
  ⟨0x80048, 1, 0x0, 1, 4, [⟨0, .rw, .any, false, (fun _ _ => MAC_HS_SW_LO.ASN)⟩]⟩,
  ⟨0x8004c, 1, 0x0, 1, 4, [⟨0, .rw, .any, false, (fun _ _ => MAC_HS_SW_HI.ASN)⟩]⟩,
  ⟨0x80050, 1, 0x0, 1, 4, [⟨0, .ro, .any, false, (fun _ _ => MAC_NIX_FREE.COUNT)⟩]⟩,
  ⟨0x80054, 1, 0x0, 1, 4, [⟨0, .ro, .any, false, (fun _ _ => MAC_ACK_BURSTS.COUNT)⟩]⟩,
  ⟨0x80058, 1, 0x0, 1, 4, [⟨0, .rc, .any, true, (fun _ _ => MAC_BURST_PEAK.PEAK)⟩]⟩,
  ⟨0x8005c, 1, 0x0, 1, 4, [⟨0, .rc, .any, true, (fun _ _ => MAC_ACK_MARGIN.MIN)⟩]⟩,
  ⟨0x80080, 1, 0x0, 8, 4, [⟨0, .rw, (.range 0 65534), false, (fun _ i => MAC_WARD_PAN.PAN_ID i)⟩, ⟨16, .rw, .any, false, (fun _ i => MAC_WARD_PAN.EN i)⟩]⟩,
  ⟨0x800a0, 1, 0x0, 8, 4, [⟨0, .rw, (.range 0 65533), false, (fun _ i => MAC_WARD_SA.CURSOR i)⟩, ⟨16, .ro, .any, false, (fun _ i => MAC_WARD_SA.COUNT i)⟩]⟩,
  ⟨0x800c0, 1, 0x0, 8, 4, [⟨0, .rw, .any, false, (fun _ i => MAC_WARD_QUIET.TIMEOUT_S i)⟩]⟩,
  ⟨0x80100, 1, 0x0, 16, 4, [⟨0, .rw, (.range 1 1024), false, (fun _ i => MAC_HS_LEN.SHADOW i)⟩, ⟨16, .ro, .any, false, (fun _ i => MAC_HS_LEN.ACTIVE i)⟩]⟩,
  ⟨0x80200, 1, 0x0, 8, 4, [⟨0, .rw, .special, true, (fun _ i => MAC_TT_TX.TX_OFS i)⟩, ⟨18, .rw, .special, true, (fun _ i => MAC_TT_TX.TX_COMMIT i)⟩]⟩,
  ⟨0x80220, 1, 0x0, 8, 4, [⟨0, .rw, .special, true, (fun _ i => MAC_TT_GUARD.GUARD i)⟩, ⟨31, .rw, .any, true, (fun _ i => MAC_TT_GUARD.PRESHIFT_EN i)⟩]⟩,
  ⟨0x80240, 1, 0x0, 8, 4, [⟨0, .rw, (.range 400 10000), true, (fun _ i => MAC_TT_ACK.TX_ACK_DELAY i)⟩]⟩,
  ⟨0x80260, 1, 0x0, 8, 4, [⟨0, .rw, (.range 400 10000), true, (fun _ i => MAC_TT_RXACK.RX_ACK_DELAY i)⟩, ⟨16, .rw, (.range 100 4000), true, (fun _ i => MAC_TT_RXACK.ACK_WAIT i)⟩]⟩,
  ⟨0x80280, 1, 0x0, 8, 4, [⟨0, .rw, .any, true, (fun _ i => MAC_TT_CCA.CCA_EN i)⟩, ⟨4, .rw, (.range 8 1000), true, (fun _ i => MAC_TT_CCA.CCA_LEN i)⟩, ⟨16, .rw, (.signed (-110) (-50)), true, (fun _ i => MAC_TT_CCA.CCA_THR i)⟩]⟩,
  ⟨0x802a0, 1, 0x0, 8, 4, [⟨0, .rw, .any, true, (fun _ i => MAC_TT_OPT.EN i)⟩, ⟨1, .rw, .any, true, (fun _ i => MAC_TT_OPT.ACK_EN i)⟩]⟩,
  ⟨0x802c0, 1, 0x0, 8, 4, [⟨0, .rw, .any, true, (fun _ i => MAC_TT_PIX.DATA_PIX i)⟩, ⟨4, .rw, .any, true, (fun _ i => MAC_TT_PIX.RETRY_PIX i)⟩]⟩,
  ⟨0x802e0, 1, 0x0, 8, 4, [⟨0, .ro, .any, false, (fun _ i => MAC_TT_EFF.EARLY i)⟩, ⟨14, .ro, .any, false, (fun _ i => MAC_TT_EFF.LATE i)⟩]⟩,
  ⟨0x80c00, 1, 0x0, 128, 4, [⟨0, .ro, .any, false, (fun _ i => MAC_TRACE.WORD i)⟩]⟩,
  ⟨0x80400, 8, 0x40, 1, 4, [⟨0, .ro, .any, false, (fun n _ => MAC_W_RX_ACCEPT n)⟩]⟩,
  ⟨0x80404, 8, 0x40, 1, 4, [⟨0, .ro, .any, false, (fun n _ => MAC_W_RX_REPEAT n)⟩]⟩,
  ⟨0x80408, 8, 0x40, 1, 4, [⟨0, .ro, .any, false, (fun n _ => MAC_W_RX_REPLAY n)⟩]⟩,
  ⟨0x8040c, 8, 0x40, 1, 4, [⟨0, .ro, .any, false, (fun n _ => MAC_W_RX_MIC_FAIL n)⟩]⟩]

/-- Part 5 of the register map. -/
def regMap5 : List RegRow := [
  ⟨0x80410, 8, 0x40, 1, 4, [⟨0, .ro, .any, false, (fun n _ => MAC_W_RX_NOSRC n)⟩]⟩,
  ⟨0x80414, 8, 0x40, 1, 4, [⟨0, .ro, .any, false, (fun n _ => MAC_W_RX_UNSEC n)⟩]⟩,
  ⟨0x80418, 8, 0x40, 1, 4, [⟨0, .ro, .any, false, (fun n _ => MAC_W_RX_FENCED n)⟩]⟩,
  ⟨0x8041c, 8, 0x40, 1, 4, [⟨0, .ro, .any, false, (fun n _ => MAC_W_RX_NOTME n)⟩]⟩,
  ⟨0x80420, 8, 0x40, 1, 4, [⟨0, .ro, .any, false, (fun n _ => MAC_W_TX_ATT n)⟩]⟩,
  ⟨0x80424, 8, 0x40, 1, 4, [⟨0, .ro, .any, false, (fun n _ => MAC_W_TX_OK n)⟩]⟩,
  ⟨0x80428, 8, 0x40, 1, 4, [⟨0, .ro, .any, false, (fun n _ => MAC_W_TX_RETRY_DROP n)⟩]⟩,
  ⟨0x8042c, 8, 0x40, 1, 4, [⟨0, .ro, .any, false, (fun n _ => MAC_W_TX_OVERSIZE n)⟩]⟩,
  ⟨0x80430, 8, 0x40, 1, 4, [⟨0, .ro, .any, false, (fun n _ => MAC_W_JOIN_REQ n)⟩]⟩,
  ⟨0x80434, 8, 0x40, 1, 4, [⟨0, .ro, .any, false, (fun n _ => MAC_W_JOIN_DROP n)⟩]⟩,
  ⟨0x80438, 8, 0x40, 1, 4, [⟨0, .ro, .any, false, (fun n _ => MAC_W_EB_SENT n)⟩]⟩,
  ⟨0x8043c, 8, 0x40, 1, 4, [⟨0, .ro, .any, false, (fun n _ => MAC_W_PRESHIFT_LIM n)⟩]⟩,
  ⟨0x80800, 4, 0x80, 1, 4, [⟨0, .rw, .any, false, (fun n _ => MAC_LS_CTL.EN n)⟩]⟩,
  ⟨0x80804, 4, 0x80, 1, 4, [⟨0, .ro, .any, false, (fun n _ => MAC_LS_STS.BANK n)⟩, ⟨1, .ro, .any, false, (fun n _ => MAC_LS_STS.STATE n)⟩, ⟨4, .ro, .any, false, (fun n _ => MAC_LS_STS.IN_SPAN n)⟩]⟩,
  ⟨0x80808, 4, 0x80, 1, 4, [⟨0, .rw, .any, true, (fun n _ => MAC_LS_SWAP.SF n)⟩, ⟨8, .rw, .any, true, (fun n _ => MAC_LS_SWAP.ARM n)⟩, ⟨9, .ro, .any, false, (fun n _ => MAC_LS_SWAP.BAD n)⟩]⟩,
  ⟨0x8080c, 4, 0x80, 1, 4, [⟨0, .rw, .any, false, (fun n _ => MAC_LS_UC_IDX.WORD n)⟩]⟩,
  ⟨0x80810, 4, 0x80, 1, 4, [⟨0, .wo, .any, true, (fun n _ => MAC_LS_UC_DATA.DATA n)⟩]⟩,
  ⟨0x80814, 4, 0x80, 1, 4, [⟨0, .ro, .any, false, (fun n _ => MAC_LS_VER.ACTIVE n)⟩, ⟨16, .ro, .any, false, (fun n _ => MAC_LS_VER.INACTIVE n)⟩]⟩,
  ⟨0x80818, 4, 0x80, 16, 4, [⟨0, .rc, .any, true, (fun n i => MAC_LS_VHIST.COUNT n i)⟩]⟩,
  ⟨0x80858, 4, 0x80, 1, 4, [⟨0, .ro, .any, false, (fun n _ => MAC_LS_ACK_SENT n)⟩]⟩,
  ⟨0x8085c, 4, 0x80, 1, 4, [⟨0, .ro, .any, false, (fun n _ => MAC_LS_ACK_SKIP n)⟩]⟩,
  ⟨0x80860, 4, 0x80, 1, 4, [⟨0, .ro, .any, false, (fun n _ => MAC_LS_ACK_BUSY n)⟩]⟩,
  ⟨0x80864, 4, 0x80, 1, 4, [⟨0, .ro, .any, false, (fun n _ => MAC_LS_ACK_FULL n)⟩]⟩,
  ⟨0x80868, 4, 0x80, 1, 4, [⟨0, .ro, .any, false, (fun n _ => MAC_LS_ACK_SAMESLOT n)⟩]⟩]

/-- Part 6 of the register map. -/
def regMap6 : List RegRow := [
  ⟨0x8086c, 4, 0x80, 1, 4, [⟨0, .ro, .any, false, (fun n _ => MAC_LS_TX_SENT n)⟩]⟩,
  ⟨0x80870, 4, 0x80, 1, 4, [⟨0, .ro, .any, false, (fun n _ => MAC_LS_TX_MISSED n)⟩]⟩,
  ⟨0x80874, 4, 0x80, 1, 4, [⟨0, .ro, .any, false, (fun n _ => MAC_LS_TX_NOFIT n)⟩]⟩,
  ⟨0x80878, 4, 0x80, 1, 4, [⟨0, .ro, .any, false, (fun n _ => MAC_LS_EB_MISSED n)⟩]⟩,
  ⟨0x8087c, 4, 0x80, 1, 4, [⟨0, .ro, .any, false, (fun n _ => MAC_LS_UC_SWAPS n)⟩]⟩,
  ⟨0x90000, 1, 0x0, 1, 4, [⟨0, .rw, .any, false, (fun _ _ => SRC_CFG.EN)⟩, ⟨1, .rw, .any, false, (fun _ _ => SRC_CFG.P6_EN)⟩, ⟨2, .rw, .any, false, (fun _ _ => SRC_CFG.ADAPT_EN)⟩]⟩,
  ⟨0x90004, 1, 0x0, 1, 4, [⟨0, .ro, .any, false, (fun _ _ => SRC_STS.RUN)⟩, ⟨1, .w1c, .any, false, (fun _ _ => SRC_STS.LATE_SWITCH)⟩, ⟨2, .w1c, .any, false, (fun _ _ => SRC_STS.WMOVE_LATE)⟩, ⟨4, .ro, .any, false, (fun _ _ => SRC_STS.STAGED)⟩, ⟨13, .ro, .any, false, (fun _ _ => SRC_STS.LOG_WP)⟩, ⟨16, .ro, .any, false, (fun _ _ => SRC_STS.UC_BANK)⟩]⟩,
  ⟨0x90008, 1, 0x0, 1, 4, [⟨0, .w1c, .any, false, (fun _ _ => SRC_INT_STS.GEN_COMMIT)⟩, ⟨1, .w1c, .any, false, (fun _ _ => SRC_INT_STS.LATE_SWITCH)⟩, ⟨2, .w1c, .any, false, (fun _ _ => SRC_INT_STS.SW_DONE)⟩, ⟨3, .w1c, .any, false, (fun _ _ => SRC_INT_STS.SW_BAD)⟩, ⟨4, .w1c, .any, false, (fun _ _ => SRC_INT_STS.SF_BAD)⟩, ⟨5, .w1c, .any, false, (fun _ _ => SRC_INT_STS.REJ)⟩, ⟨6, .w1c, .any, false, (fun _ _ => SRC_INT_STS.P6_SEQERR)⟩, ⟨7, .w1c, .any, false, (fun _ _ => SRC_INT_STS.P6_TIMEOUT)⟩, ⟨8, .w1c, .any, false, (fun _ _ => SRC_INT_STS.UC_SWAPPED)⟩, ⟨9, .w1c, .any, false, (fun _ _ => SRC_INT_STS.UC_BAD)⟩, ⟨10, .w1c, .any, false, (fun _ _ => SRC_INT_STS.WMOVE_DONE)⟩, ⟨11, .w1c, .any, false, (fun _ _ => SRC_INT_STS.ENV_OVER)⟩]⟩,
  ⟨0x9000c, 1, 0x0, 1, 4, [⟨0, .rw, .any, false, (fun _ _ => SRC_INT_EN.GEN_COMMIT)⟩, ⟨1, .rw, .any, false, (fun _ _ => SRC_INT_EN.LATE_SWITCH)⟩, ⟨2, .rw, .any, false, (fun _ _ => SRC_INT_EN.SW_DONE)⟩, ⟨3, .rw, .any, false, (fun _ _ => SRC_INT_EN.SW_BAD)⟩, ⟨4, .rw, .any, false, (fun _ _ => SRC_INT_EN.SF_BAD)⟩, ⟨5, .rw, .any, false, (fun _ _ => SRC_INT_EN.REJ)⟩, ⟨6, .rw, .any, false, (fun _ _ => SRC_INT_EN.P6_SEQERR)⟩, ⟨7, .rw, .any, false, (fun _ _ => SRC_INT_EN.P6_TIMEOUT)⟩, ⟨8, .rw, .any, false, (fun _ _ => SRC_INT_EN.UC_SWAPPED)⟩, ⟨9, .rw, .any, false, (fun _ _ => SRC_INT_EN.UC_BAD)⟩, ⟨10, .rw, .any, false, (fun _ _ => SRC_INT_EN.WMOVE_DONE)⟩, ⟨11, .rw, .any, false, (fun _ _ => SRC_INT_EN.ENV_OVER)⟩]⟩,
  ⟨0x90010, 1, 0x0, 1, 4, [⟨0, .ro, .any, false, (fun _ _ => SRC_GEN.CUR)⟩, ⟨8, .ro, .any, false, (fun _ _ => SRC_GEN.BOUND)⟩]⟩,
  ⟨0x90014, 1, 0x0, 1, 4, [⟨0, .wo, .any, true, (fun _ _ => SRC_GEN_CMD.CLEAR)⟩, ⟨1, .wo, .any, true, (fun _ _ => SRC_GEN_CMD.COMMIT)⟩]⟩,
  ⟨0x90018, 1, 0x0, 1, 4, [⟨0, .rw, (.range 1 255), false, (fun _ _ => SRC_ADAPT_CFG.PERIOD_S)⟩, ⟨8, .rw, (.range 10 10000), false, (fun _ _ => SRC_ADAPT_CFG.COMMIT_MS)⟩, ⟨22, .rw, (.range 1 1023), false, (fun _ _ => SRC_ADAPT_CFG.SCAN_MAX)⟩]⟩,
  ⟨0x9001c, 1, 0x0, 1, 4, [⟨0, .rw, .any, false, (fun _ _ => SRC_6P_CFG.SFID)⟩, ⟨8, .rw, (.range 1 255), false, (fun _ _ => SRC_6P_CFG.TIMEOUT_S)⟩, ⟨16, .rw, (.range 1 1024), false, (fun _ _ => SRC_6P_CFG.MAX_OUT)⟩, ⟨27, .rw, .any, false, (fun _ _ => SRC_6P_CFG.TC)⟩]⟩,
  ⟨0x90020, 1, 0x0, 1, 4, [⟨0, .rw, .any, true, (fun _ _ => SRC_SW_CTL.FROM)⟩, ⟨8, .rw, .any, true, (fun _ _ => SRC_SW_CTL.TO)⟩, ⟨14, .rw, .any, true, (fun _ _ => SRC_SW_CTL.FROM_EN)⟩, ⟨16, .rw, .any, true, (fun _ _ => SRC_SW_CTL.ARM)⟩, ⟨17, .ro, .any, false, (fun _ _ => SRC_SW_CTL.BAD)⟩]⟩,
  ⟨0x90024, 1, 0x0, 1, 4, [⟨0, .rw, .any, false, (fun _ _ => SRC_SW_ASN_LO.ASN)⟩]⟩,
  ⟨0x90028, 1, 0x0, 1, 4, [⟨0, .rw, .any, false, (fun _ _ => SRC_SW_ASN_HI.ASN)⟩]⟩,
  ⟨0x9002c, 1, 0x0, 1, 4, [⟨0, .ro, .any, false, (fun _ _ => SRC_SW_AT_LO.ASN)⟩]⟩,
  ⟨0x90030, 1, 0x0, 1, 4, [⟨0, .ro, .any, false, (fun _ _ => SRC_SW_AT_HI.ASN)⟩]⟩,
  ⟨0x90034, 1, 0x0, 1, 4, [⟨0, .rw, .any, true, (fun _ _ => SRC_WMOVE_CTL.FE)⟩, ⟨2, .rw, .special, true, (fun _ _ => SRC_WMOVE_CTL.CENTRE)⟩, ⟨24, .rw, .any, true, (fun _ _ => SRC_WMOVE_CTL.ARM)⟩, ⟨25, .ro, .any, false, (fun _ _ => SRC_WMOVE_CTL.BAD)⟩]⟩,
  ⟨0x90038, 1, 0x0, 1, 4, [⟨0, .rw, .any, false, (fun _ _ => SRC_WMOVE_ASN_LO.ASN)⟩]⟩,
  ⟨0x9003c, 1, 0x0, 1, 4, [⟨0, .rw, .any, false, (fun _ _ => SRC_WMOVE_ASN_HI.ASN)⟩]⟩,
  ⟨0x90040, 1, 0x0, 4, 4, [⟨0, .rw, .any, false, (fun _ i => SRC_QUIET_CFG.AUTO i)⟩, ⟨1, .rw, .any, false, (fun _ i => SRC_QUIET_CFG.RUN_SLOTS i)⟩, ⟨5, .rw, .any, false, (fun _ i => SRC_QUIET_CFG.QSF i)⟩, ⟨16, .rw, (.range 1 65535), false, (fun _ i => SRC_QUIET_CFG.MAX_WAIT i)⟩]⟩,
  ⟨0x90050, 1, 0x0, 4, 4, [⟨0, .ro, .any, false, (fun _ i => SRC_QUIET_STS.NEXT_IN i)⟩, ⟨16, .ro, .any, false, (fun _ i => SRC_QUIET_STS.USED i)⟩]⟩,
  ⟨0x90060, 1, 0x0, 1, 4, [⟨0, .rw, .any, true, (fun _ _ => SRC_UC_CTL.ARM)⟩, ⟨1, .ro, .any, false, (fun _ _ => SRC_UC_CTL.BAD)⟩]⟩]

/-- Part 7 of the register map. -/
def regMap7 : List RegRow := [
  ⟨0x90064, 1, 0x0, 1, 4, [⟨0, .rw, .any, false, (fun _ _ => SRC_UC_IDX.WORD)⟩]⟩,
  ⟨0x90068, 1, 0x0, 1, 4, [⟨0, .wo, .any, true, (fun _ _ => SRC_UC_DATA.DATA)⟩]⟩,
  ⟨0x9006c, 1, 0x0, 1, 4, [⟨0, .ro, .any, false, (fun _ _ => SRC_UC_VER.ACTIVE)⟩, ⟨16, .ro, .any, false, (fun _ _ => SRC_UC_VER.INACTIVE)⟩]⟩,
  ⟨0x90070, 1, 0x0, 1, 4, [⟨0, .ro, .any, false, (fun _ _ => SRC_CELLS_USED.CELLS)⟩]⟩,
  ⟨0x90074, 1, 0x0, 1, 4, [⟨0, .rc, .any, true, (fun _ _ => SRC_CELLS_PEAK.PEAK)⟩]⟩,
  ⟨0x90078, 1, 0x0, 1, 4, [⟨0, .ro, .any, false, (fun _ _ => SRC_CHK_LAST.US)⟩]⟩,
  ⟨0x9007c, 1, 0x0, 1, 4, [⟨0, .rc, .any, true, (fun _ _ => SRC_CHK_PEAK.US)⟩]⟩,
  ⟨0x90080, 1, 0x0, 1, 4, [⟨0, .ro, .any, false, (fun _ _ => SRC_ADDS)⟩]⟩,
  ⟨0x90084, 1, 0x0, 1, 4, [⟨0, .ro, .any, false, (fun _ _ => SRC_DELETES)⟩]⟩,
  ⟨0x90088, 1, 0x0, 1, 4, [⟨0, .ro, .any, false, (fun _ _ => SRC_MOVES)⟩]⟩,
  ⟨0x9008c, 1, 0x0, 1, 4, [⟨0, .ro, .any, false, (fun _ _ => SRC_REJ_CONFLICT)⟩]⟩,
  ⟨0x90090, 1, 0x0, 1, 4, [⟨0, .ro, .any, false, (fun _ _ => SRC_REJ_ENV)⟩]⟩,
  ⟨0x90094, 1, 0x0, 1, 4, [⟨0, .ro, .any, false, (fun _ _ => SRC_REJ_FULL)⟩]⟩,
  ⟨0x90098, 1, 0x0, 1, 4, [⟨0, .ro, .any, false, (fun _ _ => SRC_6P_INIT)⟩]⟩,
  ⟨0x9009c, 1, 0x0, 1, 4, [⟨0, .ro, .any, false, (fun _ _ => SRC_6P_ANSWER)⟩]⟩,
  ⟨0x900a0, 1, 0x0, 1, 4, [⟨0, .ro, .any, false, (fun _ _ => SRC_6P_OK)⟩]⟩,
  ⟨0x900a4, 1, 0x0, 1, 4, [⟨0, .ro, .any, false, (fun _ _ => SRC_6P_ERR)⟩]⟩,
  ⟨0x900a8, 1, 0x0, 1, 4, [⟨0, .ro, .any, false, (fun _ _ => SRC_6P_TIMEOUT)⟩]⟩,
  ⟨0x900ac, 1, 0x0, 1, 4, [⟨0, .ro, .any, false, (fun _ _ => SRC_6P_SEQERR)⟩]⟩,
  ⟨0x900b0, 1, 0x0, 1, 4, [⟨0, .ro, .any, false, (fun _ _ => SRC_PICK_LATE)⟩]⟩,
  ⟨0x900b4, 1, 0x0, 1, 4, [⟨0, .ro, .any, false, (fun _ _ => SRC_QUIET_RUNS)⟩]⟩,
  ⟨0x900b8, 1, 0x0, 1, 4, [⟨0, .ro, .any, false, (fun _ _ => SRC_GEN_COMMITS)⟩]⟩,
  ⟨0x900bc, 1, 0x0, 1, 4, [⟨0, .ro, .any, false, (fun _ _ => SRC_HOST_CMDS)⟩]⟩,
  ⟨0x900c0, 1, 0x0, 8, 8, [⟨0, .ro, .any, false, (fun _ i => SRC_CONFLICT_LOG_A.CAND i)⟩, ⟨20, .ro, .any, false, (fun _ i => SRC_CONFLICT_LOG_A.WHY i)⟩, ⟨24, .ro, .any, false, (fun _ i => SRC_CONFLICT_LOG_A.SRC i)⟩]⟩]

/-- Part 8 of the register map. -/
def regMap8 : List RegRow := [
  ⟨0x900c4, 1, 0x0, 8, 8, [⟨0, .ro, .any, false, (fun _ i => SRC_CONFLICT_LOG_B.BLOCK i)⟩, ⟨20, .ro, .any, false, (fun _ i => SRC_CONFLICT_LOG_B.GEN i)⟩]⟩,
  ⟨0x90100, 1, 0x0, 64, 4, [⟨0, .rw, .any, true, (fun _ i => SRC_SF_CFG.EN i)⟩, ⟨1, .rw, .any, false, (fun _ i => SRC_SF_CFG.OWNER i)⟩, ⟨4, .rw, .any, false, (fun _ i => SRC_SF_CFG.HS i)⟩, ⟨8, .rw, .any, false, (fun _ i => SRC_SF_CFG.ADV i)⟩, ⟨9, .ro, .any, false, (fun _ i => SRC_SF_CFG.ON i)⟩, ⟨12, .ro, .any, false, (fun _ i => SRC_SF_CFG.BAD_WHY i)⟩]⟩,
  ⟨0x90200, 1, 0x0, 64, 4, [⟨0, .rw, .special, false, (fun _ i => SRC_SF_GEOM.LEN i)⟩, ⟨16, .rw, .special, false, (fun _ i => SRC_SF_GEOM.WIDTH i)⟩]⟩,
  ⟨0x90300, 1, 0x0, 64, 4, [⟨0, .rw, .special, false, (fun _ i => SRC_SF_BASE.BASE i)⟩]⟩,
  ⟨0x90400, 8, 0x40, 1, 4, [⟨0, .rw, .any, false, (fun n _ => SRC_ENV_CTL.EN n)⟩, ⟨1, .rw, .any, false, (fun n _ => SRC_ENV_CTL.FE_MASK n)⟩, ⟨5, .rw, .any, false, (fun n _ => SRC_ENV_CTL.TT_MASK n)⟩, ⟨13, .rw, .any, false, (fun n _ => SRC_ENV_CTL.SPAN n)⟩, ⟨17, .rw, .any, false, (fun n _ => SRC_ENV_CTL.TT_DEF n)⟩, ⟨20, .rw, .any, false, (fun n _ => SRC_ENV_CTL.FE_DEF n)⟩]⟩,
  ⟨0x90404, 8, 0x40, 1, 4, [⟨0, .rw, (.range 0 1048575), false, (fun n _ => SRC_ENV_BUDGET.MAX_CELLS n)⟩]⟩,
  ⟨0x90408, 8, 0x40, 1, 4, [⟨0, .rw, .any, false, (fun n _ => SRC_ENV_NODE.MIN_TX n)⟩, ⟨8, .rw, .special, false, (fun n _ => SRC_ENV_NODE.MAX_TX n)⟩, ⟨16, .rw, .any, false, (fun n _ => SRC_ENV_NODE.MIN_RX n)⟩, ⟨24, .rw, .special, false, (fun n _ => SRC_ENV_NODE.MAX_RX n)⟩]⟩,
  ⟨0x9040c, 8, 0x40, 1, 4, [⟨0, .rw, .any, false, (fun n _ => SRC_ENV_RATE.CHG_PER_S n)⟩, ⟨16, .rw, (.range 1 255), false, (fun n _ => SRC_ENV_RATE.BURST n)⟩, ⟨24, .ro, .any, false, (fun n _ => SRC_ENV_RATE.TOKENS n)⟩]⟩,
  ⟨0x90410, 8, 0x40, 4, 4, [⟨0, .rw, .any, false, (fun n i => SRC_ENV_COFS.LO n i)⟩, ⟨16, .rw, .special, false, (fun n i => SRC_ENV_COFS.HI n i)⟩, ⟨31, .rw, .any, false, (fun n i => SRC_ENV_COFS.EN n i)⟩]⟩,
  ⟨0x90420, 8, 0x40, 1, 4, [⟨0, .rw, .any, false, (fun n _ => SRC_ENV_SF_LO.MASK n)⟩]⟩,
  ⟨0x90424, 8, 0x40, 1, 4, [⟨0, .rw, .any, false, (fun n _ => SRC_ENV_SF_HI.MASK n)⟩]⟩,
  ⟨0x90428, 8, 0x40, 1, 4, [⟨0, .rw, (.range 1 255), false, (fun n _ => SRC_ENV_ADD.ADD_Q n)⟩, ⟨8, .rw, (.range 1 100), false, (fun n _ => SRC_ENV_ADD.UTIL_ADD n)⟩, ⟨16, .rw, .any, false, (fun n _ => SRC_ENV_ADD.PDR_MOVE n)⟩]⟩,
  ⟨0x9042c, 8, 0x40, 1, 4, [⟨0, .rw, .special, false, (fun n _ => SRC_ENV_DEL.UTIL_DEL n)⟩, ⟨8, .rw, (.range 1 15), false, (fun n _ => SRC_ENV_DEL.DEL_PERIODS n)⟩, ⟨16, .rw, .any, false, (fun n _ => SRC_ENV_DEL.MIN_ATT n)⟩]⟩,
  ⟨0x90430, 8, 0x40, 1, 4, [⟨0, .ro, .any, false, (fun n _ => SRC_W_CELLS.CELLS n)⟩, ⟨31, .ro, .any, false, (fun n _ => SRC_W_CELLS.OVER n)⟩]⟩,
  ⟨0x90434, 8, 0x40, 1, 4, [⟨0, .ro, .any, false, (fun n _ => SRC_W_CHANGES n)⟩]⟩,
  ⟨0x90438, 8, 0x40, 1, 4, [⟨0, .ro, .any, false, (fun n _ => SRC_W_REFUSED n)⟩]⟩,
  ⟨0x9043c, 8, 0x40, 1, 4, [⟨0, .ro, .any, false, (fun n _ => SRC_W_6P_FAIL n)⟩]⟩,
  ⟨0xd0000, 1, 0x0, 1, 4, [⟨0, .rw, .any, false, (fun _ _ => SEC_CFG.EN)⟩, ⟨1, .rw, .any, false, (fun _ _ => SEC_CFG.AUTO_RATCHET)⟩]⟩,
  ⟨0xd0004, 1, 0x0, 1, 4, [⟨0, .ro, .any, false, (fun _ _ => SEC_STS.JNL_OPEN)⟩, ⟨1, .ro, .any, false, (fun _ _ => SEC_STS.WAS_CLEAN)⟩, ⟨2, .ro, .any, false, (fun _ _ => SEC_STS.ASN_HIGH)⟩, ⟨8, .ro, .any, false, (fun _ _ => SEC_STS.LOG_WP)⟩, ⟨16, .ro, .any, false, (fun _ _ => SEC_STS.TRACE_WP)⟩]⟩,
  ⟨0xd0008, 1, 0x0, 1, 4, [⟨0, .w1c, .any, false, (fun _ _ => SEC_INT_STS.KEY_LOW)⟩, ⟨1, .w1c, .any, false, (fun _ _ => SEC_INT_STS.KEY_EXHAUSTED)⟩, ⟨2, .w1c, .any, false, (fun _ _ => SEC_INT_STS.KEY_ADV)⟩, ⟨3, .w1c, .any, false, (fun _ _ => SEC_INT_STS.JNL_ERR)⟩, ⟨4, .w1c, .any, false, (fun _ _ => SEC_INT_STS.JNL_FULL)⟩, ⟨5, .w1c, .any, false, (fun _ _ => SEC_INT_STS.SNAP_DONE)⟩, ⟨6, .w1c, .any, false, (fun _ _ => SEC_INT_STS.SNAP_LATE)⟩, ⟨7, .w1c, .any, false, (fun _ _ => SEC_INT_STS.GRP_SWITCHED)⟩, ⟨8, .w1c, .any, false, (fun _ _ => SEC_INT_STS.GRP_LATE)⟩, ⟨9, .w1c, .any, false, (fun _ _ => SEC_INT_STS.STRICT_GROUP)⟩, ⟨10, .w1c, .any, false, (fun _ _ => SEC_INT_STS.ASN_HIGH)⟩, ⟨11, .w1c, .any, false, (fun _ _ => SEC_INT_STS.OPEN_DONE)⟩]⟩,
  ⟨0xd000c, 1, 0x0, 1, 4, [⟨0, .rw, .any, false, (fun _ _ => SEC_INT_EN.KEY_LOW)⟩, ⟨1, .rw, .any, false, (fun _ _ => SEC_INT_EN.KEY_EXHAUSTED)⟩, ⟨2, .rw, .any, false, (fun _ _ => SEC_INT_EN.KEY_ADV)⟩, ⟨3, .rw, .any, false, (fun _ _ => SEC_INT_EN.JNL_ERR)⟩, ⟨4, .rw, .any, false, (fun _ _ => SEC_INT_EN.JNL_FULL)⟩, ⟨5, .rw, .any, false, (fun _ _ => SEC_INT_EN.SNAP_DONE)⟩, ⟨6, .rw, .any, false, (fun _ _ => SEC_INT_EN.SNAP_LATE)⟩, ⟨7, .rw, .any, false, (fun _ _ => SEC_INT_EN.GRP_SWITCHED)⟩, ⟨8, .rw, .any, false, (fun _ _ => SEC_INT_EN.GRP_LATE)⟩, ⟨9, .rw, .any, false, (fun _ _ => SEC_INT_EN.STRICT_GROUP)⟩, ⟨10, .rw, .any, false, (fun _ _ => SEC_INT_EN.ASN_HIGH)⟩, ⟨11, .rw, .any, false, (fun _ _ => SEC_INT_EN.OPEN_DONE)⟩]⟩,
  ⟨0xd0010, 1, 0x0, 1, 4, [⟨0, .rw, (.range 8 16), false, (fun _ _ => SEC_RES_CFG.BLOCK_LOG2)⟩]⟩,
  ⟨0xd0014, 1, 0x0, 1, 4, [⟨0, .rw, .special, false, (fun _ _ => SEC_JNL_CFG.SIZE_LOG2)⟩, ⟨4, .rw, .special, false, (fun _ _ => SEC_JNL_CFG.RING)⟩, ⟨8, .rw, .special, false, (fun _ _ => SEC_JNL_CFG.SCK)⟩, ⟨16, .rw, .special, false, (fun _ _ => SEC_JNL_CFG.DOMAIN)⟩]⟩,
  ⟨0xd0018, 1, 0x0, 1, 4, [⟨0, .wo, .any, true, (fun _ _ => SEC_JNL_CTL.OPEN)⟩, ⟨1, .wo, .any, true, (fun _ _ => SEC_JNL_CTL.CLOSE)⟩, ⟨2, .wo, .any, true, (fun _ _ => SEC_JNL_CTL.FORMAT)⟩, ⟨3, .wo, .any, true, (fun _ _ => SEC_JNL_CTL.SNAP_NOW)⟩]⟩]

/-- Part 9 of the register map. -/
def regMap9 : List RegRow := [
  ⟨0xd001c, 1, 0x0, 1, 4, [⟨0, .ro, .any, false, (fun _ _ => SEC_JNL_STS.STATE)⟩, ⟨2, .ro, .any, false, (fun _ _ => SEC_JNL_STS.ERR)⟩, ⟨16, .ro, .any, false, (fun _ _ => SEC_JNL_STS.USED)⟩]⟩,
  ⟨0xd0020, 1, 0x0, 1, 4, [⟨0, .ro, .any, false, (fun _ _ => SEC_JNL_SEQ.SEQ)⟩]⟩,
  ⟨0xd0024, 1, 0x0, 1, 4, [⟨0, .ro, .any, false, (fun _ _ => SEC_JNL_LIMIT.NIX_LIMIT)⟩]⟩,
  ⟨0xd0028, 1, 0x0, 1, 4, [⟨0, .rw, (.range 1 3600), false, (fun _ _ => SEC_SNAP_CFG.PERIOD_S)⟩]⟩,
  ⟨0xd002c, 1, 0x0, 1, 4, [⟨0, .ro, .any, false, (fun _ _ => SEC_SNAP_STS.ENTRIES)⟩, ⟨19, .ro, .any, false, (fun _ _ => SEC_SNAP_STS.LAST_MS)⟩]⟩,
  ⟨0xd0030, 1, 0x0, 1, 4, [⟨0, .ro, .any, false, (fun _ _ => SEC_KC_STS.USED)⟩]⟩,
  ⟨0xd0034, 1, 0x0, 1, 4, [⟨0, .ro, .any, false, (fun _ _ => SEC_ENG_STS.BUSY)⟩, ⟨16, .ro, .any, false, (fun _ _ => SEC_ENG_STS.IN_USE)⟩]⟩,
  ⟨0xd0038, 1, 0x0, 1, 4, [⟨0, .rc, .any, true, (fun _ _ => SEC_ENG_PEAK.PEAK)⟩]⟩,
  ⟨0xd003c, 1, 0x0, 1, 4, [⟨0, .rc, .any, true, (fun _ _ => SEC_JNL_PEAK.PEAK)⟩]⟩,
  ⟨0xd0040, 1, 0x0, 1, 4, [⟨0, .ro, .any, false, (fun _ _ => SEC_KC_HIT)⟩]⟩,
  ⟨0xd0044, 1, 0x0, 1, 4, [⟨0, .ro, .any, false, (fun _ _ => SEC_KC_MISS)⟩]⟩,
  ⟨0xd0048, 1, 0x0, 1, 4, [⟨0, .ro, .any, false, (fun _ _ => SEC_RATCHET_TRY)⟩]⟩,
  ⟨0xd004c, 1, 0x0, 1, 4, [⟨0, .ro, .any, false, (fun _ _ => SEC_RATCHET_OK)⟩]⟩,
  ⟨0xd0050, 1, 0x0, 1, 4, [⟨0, .ro, .any, false, (fun _ _ => SEC_KGEN_ADV)⟩]⟩,
  ⟨0xd0054, 1, 0x0, 1, 4, [⟨0, .ro, .any, false, (fun _ _ => SEC_REKEY_SENT)⟩]⟩,
  ⟨0xd0058, 1, 0x0, 1, 4, [⟨0, .ro, .any, false, (fun _ _ => SEC_WHEY_LEVEL)⟩]⟩,
  ⟨0xd005c, 1, 0x0, 1, 4, [⟨0, .ro, .any, false, (fun _ _ => SEC_WHEY_KEYID)⟩]⟩,
  ⟨0xd0060, 1, 0x0, 1, 4, [⟨0, .ro, .any, false, (fun _ _ => SEC_WHEY_KGEN)⟩]⟩,
  ⟨0xd0064, 1, 0x0, 1, 4, [⟨0, .ro, .any, false, (fun _ _ => SEC_WHEY_FC)⟩]⟩,
  ⟨0xd0068, 1, 0x0, 1, 4, [⟨0, .ro, .any, false, (fun _ _ => SEC_WHEY_MIC)⟩]⟩,
  ⟨0xd006c, 1, 0x0, 1, 4, [⟨0, .ro, .any, false, (fun _ _ => SEC_WHEY_REPLAY)⟩]⟩,
  ⟨0xd0070, 1, 0x0, 1, 4, [⟨0, .ro, .any, false, (fun _ _ => SEC_WHEY_TAMPER)⟩]⟩,
  ⟨0xd0074, 1, 0x0, 1, 4, [⟨0, .ro, .any, false, (fun _ _ => SEC_TX_FRAMES)⟩]⟩,
  ⟨0xd0078, 1, 0x0, 1, 4, [⟨0, .ro, .any, false, (fun _ _ => SEC_TX_JNL_WAIT)⟩]⟩]

/-- Part 10 of the register map. -/
def regMap10 : List RegRow := [
  ⟨0xd007c, 1, 0x0, 1, 4, [⟨0, .ro, .any, false, (fun _ _ => SEC_TX_EXHAUSTED)⟩]⟩,
  ⟨0xd0080, 1, 0x0, 1, 4, [⟨0, .ro, .any, false, (fun _ _ => SEC_JNL_RECORDS)⟩]⟩,
  ⟨0xd0084, 1, 0x0, 1, 4, [⟨0, .ro, .any, false, (fun _ _ => SEC_JNL_ERR)⟩]⟩,
  ⟨0xd0088, 1, 0x0, 1, 4, [⟨0, .ro, .any, false, (fun _ _ => SEC_SNAP_WRITES)⟩]⟩,
  ⟨0xd008c, 1, 0x0, 1, 4, [⟨0, .ro, .any, false, (fun _ _ => SEC_ACK_UNSEC)⟩]⟩,
  ⟨0xd0100, 1, 0x0, 16, 4, [⟨0, .ro, .any, false, (fun _ i => SEC_ENG_OPS i)⟩]⟩,
  ⟨0xd0140, 1, 0x0, 6, 4, [⟨0, .ro, .any, false, (fun _ i => SEC_GEN_STS.BUSY i)⟩, ⟨8, .ro, .any, false, (fun _ i => SEC_GEN_STS.QUEUED i)⟩]⟩,
  ⟨0xd0158, 1, 0x0, 6, 4, [⟨0, .ro, .any, false, (fun _ i => SEC_GEN_OPS i)⟩]⟩,
  ⟨0xd0300, 1, 0x0, 32, 4, [⟨0, .ro, .any, false, (fun _ i => SEC_KEYLOW_LOG.NIX i)⟩, ⟨18, .ro, .any, false, (fun _ i => SEC_KEYLOW_LOG.GEN i)⟩, ⟨22, .ro, .any, false, (fun _ i => SEC_KEYLOW_LOG.KIND i)⟩, ⟨24, .ro, .any, false, (fun _ i => SEC_KEYLOW_LOG.WARD i)⟩]⟩,
  ⟨0xd0400, 1, 0x0, 32, 8, [⟨0, .ro, .any, false, (fun _ i => SEC_JNL_TRACE_A.SEQ i)⟩]⟩,
  ⟨0xd0404, 1, 0x0, 32, 8, [⟨0, .ro, .any, false, (fun _ i => SEC_JNL_TRACE_B.TYPE i)⟩, ⟨8, .ro, .any, false, (fun _ i => SEC_JNL_TRACE_B.NIX i)⟩, ⟨26, .ro, .any, false, (fun _ i => SEC_JNL_TRACE_B.GEN i)⟩, ⟨30, .ro, .any, false, (fun _ i => SEC_JNL_TRACE_B.RES i)⟩]⟩,
  ⟨0xd0200, 8, 0x20, 1, 4, [⟨0, .rw, .special, false, (fun n _ => SEC_W_CFG.TX_LEVEL n)⟩, ⟨8, .rw, .special, false, (fun n _ => SEC_W_CFG.ACCEPT_MASK n)⟩, ⟨16, .rw, .special, false, (fun n _ => SEC_W_CFG.STRICT n)⟩, ⟨17, .ro, .any, false, (fun n _ => SEC_W_CFG.STRICT_ACTIVE n)⟩]⟩,
  ⟨0xd0204, 8, 0x20, 1, 4, [⟨0, .ro, .any, false, (fun n _ => SEC_W_GRP.CUR_GEN n)⟩, ⟨4, .ro, .any, false, (fun n _ => SEC_W_GRP.NEXT_GEN n)⟩, ⟨8, .ro, .any, false, (fun n _ => SEC_W_GRP.NEXT_VALID n)⟩, ⟨9, .ro, .any, false, (fun n _ => SEC_W_GRP.PREV_VALID n)⟩, ⟨16, .rw, (.range 1 4095), false, (fun n _ => SEC_W_GRP.GRACE_S n)⟩]⟩,
  ⟨0xd0208, 8, 0x20, 1, 4, [⟨0, .rw, .any, false, (fun n _ => SEC_W_GSW_LO.ASN n)⟩]⟩,
  ⟨0xd020c, 8, 0x20, 1, 4, [⟨0, .rw, .any, true, (fun n _ => SEC_W_GSW_HI.ASN n)⟩, ⟨8, .rw, .any, true, (fun n _ => SEC_W_GSW_HI.ARM n)⟩, ⟨9, .ro, .any, false, (fun n _ => SEC_W_GSW_HI.LATE n)⟩]⟩,
  ⟨0xd0210, 8, 0x20, 1, 4, [⟨0, .ro, .any, false, (fun n _ => SEC_W_GTX_FC.FC n)⟩]⟩,
  ⟨0xd0214, 8, 0x20, 1, 4, [⟨0, .ro, .any, false, (fun n _ => SEC_W_GTX_CEIL.CEIL n)⟩]⟩,
  ⟨0xd0218, 8, 0x20, 1, 4, [⟨0, .ro, .any, false, (fun n _ => SEC_W_PEND.COUNT n)⟩]⟩,
  ⟨0xd021c, 8, 0x20, 1, 4, [⟨0, .ro, .any, false, (fun n _ => SEC_W_HALT.COUNT n)⟩]⟩,
  ⟨0xa0000, 1, 0x0, 1, 4, [⟨0, .rw, .any, false, (fun _ _ => FWD_CFG.EN)⟩, ⟨1, .rw, .any, false, (fun _ _ => FWD_CFG.MISS_HOST)⟩, ⟨2, .rw, .any, false, (fun _ _ => FWD_CFG.DAO_PARSE)⟩, ⟨16, .rw, (.range 1280 2047), false, (fun _ _ => FWD_CFG.MESH_MTU)⟩]⟩,
  ⟨0xa0004, 1, 0x0, 1, 4, [⟨0, .ro, .any, false, (fun _ _ => FWD_STS.RESHARD)⟩, ⟨2, .ro, .any, false, (fun _ _ => FWD_STS.ABORTING)⟩, ⟨3, .ro, .any, false, (fun _ _ => FWD_STS.LOG_WP)⟩, ⟨6, .ro, .any, false, (fun _ _ => FWD_STS.ENTRIES)⟩]⟩,
  ⟨0xa0008, 1, 0x0, 1, 4, [⟨0, .w1c, .any, false, (fun _ _ => FWD_INT_STS.MOVE)⟩, ⟨1, .w1c, .any, false, (fun _ _ => FWD_INT_STS.VAT_FULL)⟩, ⟨2, .w1c, .any, false, (fun _ _ => FWD_INT_STS.RESHARD_DONE)⟩, ⟨3, .w1c, .any, false, (fun _ _ => FWD_INT_STS.RESHARD_STALL)⟩, ⟨4, .w1c, .any, false, (fun _ _ => FWD_INT_STS.NOPATH)⟩, ⟨5, .w1c, .any, false, (fun _ _ => FWD_INT_STS.REASM_FULL)⟩, ⟨6, .w1c, .any, false, (fun _ _ => FWD_INT_STS.RACE_MISS)⟩, ⟨7, .w1c, .any, false, (fun _ _ => FWD_INT_STS.BAD)⟩]⟩,
  ⟨0xa000c, 1, 0x0, 1, 4, [⟨0, .rw, .any, false, (fun _ _ => FWD_INT_EN.MOVE)⟩, ⟨1, .rw, .any, false, (fun _ _ => FWD_INT_EN.VAT_FULL)⟩, ⟨2, .rw, .any, false, (fun _ _ => FWD_INT_EN.RESHARD_DONE)⟩, ⟨3, .rw, .any, false, (fun _ _ => FWD_INT_EN.RESHARD_STALL)⟩, ⟨4, .rw, .any, false, (fun _ _ => FWD_INT_EN.NOPATH)⟩, ⟨5, .rw, .any, false, (fun _ _ => FWD_INT_EN.REASM_FULL)⟩, ⟨6, .rw, .any, false, (fun _ _ => FWD_INT_EN.RACE_MISS)⟩, ⟨7, .rw, .any, false, (fun _ _ => FWD_INT_EN.BAD)⟩]⟩,
  ⟨0xa0010, 1, 0x0, 1, 4, [⟨0, .rw, .special, false, (fun _ _ => FWD_HASH_CUR.SEED)⟩]⟩]

/-- Part 11 of the register map. -/
def regMap11 : List RegRow := [
  ⟨0xa0014, 1, 0x0, 1, 4, [⟨0, .rw, .special, false, (fun _ _ => FWD_HASH_NEXT.SEED)⟩]⟩,
  ⟨0xa0018, 1, 0x0, 1, 4, [⟨0, .wo, .any, true, (fun _ _ => FWD_RESHARD.START)⟩, ⟨1, .wo, .any, true, (fun _ _ => FWD_RESHARD.ABORT)⟩, ⟨2, .ro, .any, false, (fun _ _ => FWD_RESHARD.BAD)⟩, ⟨16, .ro, .any, false, (fun _ _ => FWD_RESHARD.PROGRESS)⟩]⟩,
  ⟨0xa001c, 1, 0x0, 1, 4, [⟨0, .rw, (.range 1 31), false, (fun _ _ => FWD_RELOC_CFG.MAX_KICK)⟩, ⟨8, .rw, (.range 1 31), false, (fun _ _ => FWD_RELOC_CFG.VAT_PROBE)⟩]⟩,
  ⟨0xa0020, 1, 0x0, 1, 4, [⟨0, .rw, (.range 1 15), false, (fun _ _ => FWD_LEARN_CFG.MOVE_HYST)⟩, ⟨4, .rw, .any, false, (fun _ _ => FWD_LEARN_CFG.STA_LEARN)⟩, ⟨5, .rw, .any, false, (fun _ _ => FWD_LEARN_CFG.NODE_MOVE)⟩]⟩,
  ⟨0xa0024, 1, 0x0, 1, 4, [⟨0, .rw, (.range 10 3600), false, (fun _ _ => FWD_FIRN_CFG.SWEEP_S)⟩, ⟨16, .rw, .any, false, (fun _ _ => FWD_FIRN_CFG.EN)⟩]⟩,
  ⟨0xa0028, 1, 0x0, 1, 4, [⟨0, .ro, .any, false, (fun _ _ => FWD_FIRN_STS.POS)⟩, ⟨16, .ro, .any, false, (fun _ _ => FWD_FIRN_STS.SWEEPS)⟩]⟩,
  ⟨0xa002c, 1, 0x0, 1, 4, [⟨0, .rw, (.range 1 60), false, (fun _ _ => FWD_REASM_CFG.TIMEOUT_S)⟩, ⟨8, .rw, (.range 1 15), false, (fun _ _ => FWD_REASM_CFG.PER_NODE)⟩, ⟨16, .rw, (.range 1280 2047), false, (fun _ _ => FWD_REASM_CFG.MAX_DGRAM)⟩]⟩,
  ⟨0xa0030, 1, 0x0, 1, 4, [⟨0, .ro, .any, false, (fun _ _ => FWD_REASM_STS.USED)⟩]⟩,
  ⟨0xa0034, 1, 0x0, 1, 4, [⟨0, .ro, .any, false, (fun _ _ => FWD_VAT_STS.USED)⟩, ⟨13, .ro, .any, false, (fun _ _ => FWD_VAT_STS.NOFWT)⟩]⟩,
  ⟨0xa0038, 1, 0x0, 1, 4, [⟨0, .rw, .any, false, (fun _ _ => FWD_GW_MAC_LO.MAC)⟩]⟩,
  ⟨0xa003c, 1, 0x0, 1, 4, [⟨0, .rw, .any, false, (fun _ _ => FWD_GW_MAC_HI.MAC)⟩, ⟨16, .rw, .any, false, (fun _ _ => FWD_GW_MAC_HI.VLAN)⟩]⟩,
  ⟨0xa0080, 1, 0x0, 1, 4, [⟨0, .ro, .any, false, (fun _ _ => FWD_LOOKUPS)⟩]⟩,
  ⟨0xa0084, 1, 0x0, 1, 4, [⟨0, .ro, .any, false, (fun _ _ => FWD_HITS)⟩]⟩,
  ⟨0xa0088, 1, 0x0, 1, 4, [⟨0, .ro, .any, false, (fun _ _ => FWD_MISSES)⟩]⟩,
  ⟨0xa008c, 1, 0x0, 1, 4, [⟨0, .ro, .any, false, (fun _ _ => FWD_RETRIES)⟩]⟩,
  ⟨0xa0090, 1, 0x0, 1, 4, [⟨0, .ro, .any, false, (fun _ _ => FWD_RACE_MISS)⟩]⟩,
  ⟨0xa0094, 1, 0x0, 1, 4, [⟨0, .ro, .any, false, (fun _ _ => FWD_VAT_HITS)⟩]⟩,
  ⟨0xa0098, 1, 0x0, 1, 4, [⟨0, .ro, .any, false, (fun _ _ => FWD_INSERTS)⟩]⟩,
  ⟨0xa009c, 1, 0x0, 1, 4, [⟨0, .ro, .any, false, (fun _ _ => FWD_RELOCS)⟩]⟩,
  ⟨0xa00a0, 1, 0x0, 1, 4, [⟨0, .ro, .any, false, (fun _ _ => FWD_VAT_INSERTS)⟩]⟩,
  ⟨0xa00a4, 1, 0x0, 1, 4, [⟨0, .ro, .any, false, (fun _ _ => FWD_INSERT_FAIL)⟩]⟩,
  ⟨0xa00a8, 1, 0x0, 1, 4, [⟨0, .ro, .any, false, (fun _ _ => FWD_LEARN_NEW)⟩]⟩,
  ⟨0xa00ac, 1, 0x0, 1, 4, [⟨0, .ro, .any, false, (fun _ _ => FWD_MOVE_CAND)⟩]⟩,
  ⟨0xa00b0, 1, 0x0, 1, 4, [⟨0, .ro, .any, false, (fun _ _ => FWD_MOVES)⟩]⟩]

/-- Part 12 of the register map. -/
def regMap12 : List RegRow := [
  ⟨0xa00b4, 1, 0x0, 1, 4, [⟨0, .ro, .any, false, (fun _ _ => FWD_MOVE_ABORT)⟩]⟩,
  ⟨0xa00b8, 1, 0x0, 1, 4, [⟨0, .ro, .any, false, (fun _ _ => FWD_FIRN_REMOVED)⟩]⟩,
  ⟨0xa00bc, 1, 0x0, 1, 4, [⟨0, .ro, .any, false, (fun _ _ => FWD_FIRN_SKIP)⟩]⟩,
  ⟨0xa00c0, 1, 0x0, 1, 4, [⟨0, .ro, .any, false, (fun _ _ => FWD_LOCK_WAIT)⟩]⟩,
  ⟨0xa00c4, 1, 0x0, 1, 4, [⟨0, .ro, .any, false, (fun _ _ => FWD_HOST_STALE)⟩]⟩,
  ⟨0xa00c8, 1, 0x0, 1, 4, [⟨0, .ro, .any, false, (fun _ _ => FWD_RESHARD_MOVED)⟩]⟩,
  ⟨0xa00cc, 1, 0x0, 1, 4, [⟨0, .ro, .any, false, (fun _ _ => FWD_IPHC_ERR)⟩]⟩,
  ⟨0xa00d0, 1, 0x0, 1, 4, [⟨0, .ro, .any, false, (fun _ _ => FWD_FRAG_TX)⟩]⟩,
  ⟨0xa00d4, 1, 0x0, 1, 4, [⟨0, .ro, .any, false, (fun _ _ => FWD_FRAGS_RX)⟩]⟩,
  ⟨0xa00d8, 1, 0x0, 1, 4, [⟨0, .ro, .any, false, (fun _ _ => FWD_REASM_OK)⟩]⟩,
  ⟨0xa00dc, 1, 0x0, 1, 4, [⟨0, .ro, .any, false, (fun _ _ => FWD_REASM_TIMEOUT)⟩]⟩,
  ⟨0xa00e0, 1, 0x0, 1, 4, [⟨0, .ro, .any, false, (fun _ _ => FWD_REASM_FULL)⟩]⟩,
  ⟨0xa00e4, 1, 0x0, 1, 4, [⟨0, .ro, .any, false, (fun _ _ => FWD_REASM_BIG)⟩]⟩,
  ⟨0xa00e8, 1, 0x0, 1, 4, [⟨0, .ro, .any, false, (fun _ _ => FWD_REASM_OVERLAP)⟩]⟩,
  ⟨0xa00ec, 1, 0x0, 1, 4, [⟨0, .ro, .any, false, (fun _ _ => FWD_DAO_PARSED)⟩]⟩,
  ⟨0xa00f0, 1, 0x0, 1, 4, [⟨0, .ro, .any, false, (fun _ _ => FWD_PARENT_CHG)⟩]⟩,
  ⟨0xa00f4, 1, 0x0, 1, 4, [⟨0, .ro, .any, false, (fun _ _ => FWD_PATH_BUILT)⟩]⟩,
  ⟨0xa00f8, 1, 0x0, 1, 4, [⟨0, .ro, .any, false, (fun _ _ => FWD_NOROUTE)⟩]⟩,
  ⟨0xa00fc, 1, 0x0, 1, 4, [⟨0, .ro, .any, false, (fun _ _ => FWD_SPOOF)⟩]⟩,
  ⟨0xa0100, 1, 0x0, 8, 8, [⟨0, .ro, .any, false, (fun _ i => FWD_MOVE_LOG_A.NIX i)⟩, ⟨18, .ro, .any, false, (fun _ i => FWD_MOVE_LOG_A.OLD_PORT i)⟩, ⟨21, .ro, .any, false, (fun _ i => FWD_MOVE_LOG_A.NEW_PORT i)⟩, ⟨24, .ro, .any, false, (fun _ i => FWD_MOVE_LOG_A.STA i)⟩]⟩,
  ⟨0xa0104, 1, 0x0, 8, 8, [⟨0, .ro, .any, false, (fun _ i => FWD_MOVE_LOG_B.BUCKET i)⟩, ⟨16, .ro, .any, false, (fun _ i => FWD_MOVE_LOG_B.WAY i)⟩, ⟨18, .ro, .any, false, (fun _ i => FWD_MOVE_LOG_B.IN_VAT i)⟩]⟩,
  ⟨0xa0180, 1, 0x0, 16, 4, [⟨0, .rw, .special, false, (fun _ i => FWD_CTX_LO.PFX i)⟩]⟩,
  ⟨0xa01c0, 1, 0x0, 16, 4, [⟨0, .rw, .special, false, (fun _ i => FWD_CTX_HI.PFX i)⟩]⟩,
  ⟨0xa0200, 8, 0x20, 1, 4, [⟨0, .rw, .any, false, (fun n _ => FWD_W_PFX_LO.PFX n)⟩]⟩]

/-- Part 13 of the register map. -/
def regMap13 : List RegRow := [
  ⟨0xa0204, 8, 0x20, 1, 4, [⟨0, .rw, .any, false, (fun n _ => FWD_W_PFX_HI.PFX n)⟩]⟩,
  ⟨0xa0208, 8, 0x20, 1, 4, [⟨0, .rw, .any, false, (fun n _ => FWD_W_CFG.INSTANCE n)⟩, ⟨8, .rw, .any, false, (fun n _ => FWD_W_CFG.LORH n)⟩, ⟨9, .rw, .any, false, (fun n _ => FWD_W_CFG.SRC_CHECK n)⟩, ⟨10, .rw, .any, false, (fun n _ => FWD_W_CFG.ALIAS_LEARN n)⟩, ⟨11, .rw, .any, false, (fun n _ => FWD_W_CFG.SRH_SHORT n)⟩, ⟨12, .rw, .any, false, (fun n _ => FWD_W_CFG.FCS4 n)⟩, ⟨16, .rw, (.range 32 2047), false, (fun n _ => FWD_W_CFG.FRAG_MAX n)⟩, ⟨27, .rw, (.range 0 10), false, (fun n _ => FWD_W_CFG.PHYC n)⟩]⟩,
  ⟨0xa020c, 8, 0x20, 1, 4, [⟨0, .rw, .any, false, (fun n _ => FWD_W_UPLINK.GW n)⟩, ⟨1, .rw, .any, false, (fun n _ => FWD_W_UPLINK.RING n)⟩]⟩,
  ⟨0xa0210, 8, 0x20, 1, 4, [⟨1, .rw, .any, false, (fun n _ => FWD_W_CTX.MASK n)⟩]⟩,
  ⟨0xa0214, 8, 0x20, 1, 4, [⟨0, .ro, .any, false, (fun n _ => FWD_W_EPOCH.EPOCH n)⟩]⟩,
  ⟨0xa0218, 8, 0x20, 1, 4, [⟨0, .ro, .any, false, (fun n _ => FWD_W_TAG.TAG n)⟩, ⟨16, .rw, (.range 1 65535), false, (fun n _ => FWD_W_TAG.ROOT_RANK n)⟩]⟩,
  ⟨0xa021c, 8, 0x20, 1, 4, [⟨0, .ro, .any, false, (fun n _ => FWD_W_NOPATH.COUNT n)⟩]⟩,
  ⟨0xb0000, 1, 0x0, 1, 4, [⟨0, .rw, .any, false, (fun _ _ => QMS_CFG.EN)⟩]⟩,
  ⟨0xb0004, 1, 0x0, 1, 4, [⟨0, .ro, .any, false, (fun _ _ => QMS_STS.RUN)⟩]⟩,
  ⟨0xb0008, 1, 0x0, 1, 4, [⟨0, .w1c, .any, false, (fun _ _ => QMS_INT_STS.NOCURD)⟩, ⟨1, .w1c, .any, false, (fun _ _ => QMS_INT_STS.QAGE)⟩, ⟨2, .w1c, .any, false, (fun _ _ => QMS_INT_STS.CURD_ECC)⟩]⟩,
  ⟨0xb000c, 1, 0x0, 1, 4, [⟨0, .rw, .any, false, (fun _ _ => QMS_INT_EN.NOCURD)⟩, ⟨1, .rw, .any, false, (fun _ _ => QMS_INT_EN.QAGE)⟩, ⟨2, .rw, .any, false, (fun _ _ => QMS_INT_EN.CURD_ECC)⟩]⟩,
  ⟨0xb0010, 1, 0x0, 1, 4, [⟨0, .rw, .any, false, (fun _ _ => QMS_AGE_CFG.DN_MS)⟩]⟩,
  ⟨0xb0014, 1, 0x0, 1, 4, [⟨0, .ro, .any, false, (fun _ _ => QMS_POOL_FREE.FREE)⟩]⟩,
  ⟨0xb0018, 1, 0x0, 1, 4, [⟨0, .rc, .any, true, (fun _ _ => QMS_POOL_PEAK.PEAK)⟩]⟩,
  ⟨0xb001c, 1, 0x0, 1, 4, [⟨0, .ro, .any, false, (fun _ _ => QMS_ENQ_FRAMES)⟩]⟩,
  ⟨0xb0020, 1, 0x0, 1, 4, [⟨0, .ro, .any, false, (fun _ _ => QMS_DEQ_FRAMES)⟩]⟩,
  ⟨0xb0024, 1, 0x0, 1, 4, [⟨0, .ro, .any, false, (fun _ _ => QMS_PICK_DED)⟩]⟩,
  ⟨0xb0028, 1, 0x0, 1, 4, [⟨0, .ro, .any, false, (fun _ _ => QMS_PICK_SHARED)⟩]⟩,
  ⟨0xb002c, 1, 0x0, 1, 4, [⟨0, .ro, .any, false, (fun _ _ => QMS_PICK_NOFRAME)⟩]⟩,
  ⟨0xb0030, 1, 0x0, 1, 4, [⟨0, .ro, .any, false, (fun _ _ => QMS_HOLD_BLOCK)⟩]⟩,
  ⟨0xb0034, 1, 0x0, 1, 4, [⟨0, .ro, .any, false, (fun _ _ => QMS_CLASS_SKIP)⟩]⟩,
  ⟨0xb0038, 1, 0x0, 1, 4, [⟨0, .ro, .any, false, (fun _ _ => QMS_ALLOC_FAIL)⟩]⟩,
  ⟨0xb003c, 1, 0x0, 1, 4, [⟨0, .ro, .any, false, (fun _ _ => QMS_WHEY_TOTAL)⟩]⟩,
  ⟨0xb0040, 1, 0x0, 4, 4, [⟨0, .rw, .special, false, (fun _ i => QMS_POOL_CFG.GUAR i)⟩, ⟨16, .rw, .special, false, (fun _ i => QMS_POOL_CFG.MAX i)⟩]⟩]

/-- Part 14 of the register map. -/
def regMap14 : List RegRow := [
  ⟨0xb0050, 1, 0x0, 4, 4, [⟨0, .ro, .any, false, (fun _ i => QMS_POOL_USE.USED i)⟩, ⟨16, .rc, .any, true, (fun _ i => QMS_POOL_USE.PEAK i)⟩]⟩,
  ⟨0xb0060, 1, 0x0, 8, 4, [⟨0, .rw, .any, false, (fun _ i => QMS_DSCP_MAP.CLASS_0 i)⟩, ⟨3, .rw, .any, false, (fun _ i => QMS_DSCP_MAP.YEL_0 i)⟩, ⟨4, .rw, .any, false, (fun _ i => QMS_DSCP_MAP.CLASS_1 i)⟩, ⟨7, .rw, .any, false, (fun _ i => QMS_DSCP_MAP.YEL_1 i)⟩, ⟨8, .rw, .any, false, (fun _ i => QMS_DSCP_MAP.CLASS_2 i)⟩, ⟨11, .rw, .any, false, (fun _ i => QMS_DSCP_MAP.YEL_2 i)⟩, ⟨12, .rw, .any, false, (fun _ i => QMS_DSCP_MAP.CLASS_3 i)⟩, ⟨15, .rw, .any, false, (fun _ i => QMS_DSCP_MAP.YEL_3 i)⟩, ⟨16, .rw, .any, false, (fun _ i => QMS_DSCP_MAP.CLASS_4 i)⟩, ⟨19, .rw, .any, false, (fun _ i => QMS_DSCP_MAP.YEL_4 i)⟩, ⟨20, .rw, .any, false, (fun _ i => QMS_DSCP_MAP.CLASS_5 i)⟩, ⟨23, .rw, .any, false, (fun _ i => QMS_DSCP_MAP.YEL_5 i)⟩, ⟨24, .rw, .any, false, (fun _ i => QMS_DSCP_MAP.CLASS_6 i)⟩, ⟨27, .rw, .any, false, (fun _ i => QMS_DSCP_MAP.YEL_6 i)⟩, ⟨28, .rw, .any, false, (fun _ i => QMS_DSCP_MAP.CLASS_7 i)⟩, ⟨31, .rw, .any, false, (fun _ i => QMS_DSCP_MAP.YEL_7 i)⟩]⟩,
  ⟨0xb0080, 1, 0x0, 8, 4, [⟨0, .rw, (.range 1 32768), false, (fun _ i => QMS_W_LIM_UP.CQ_MAX i)⟩, ⟨16, .rw, .special, false, (fun _ i => QMS_W_LIM_UP.YEL_MAX i)⟩]⟩,
  ⟨0xb00a0, 1, 0x0, 8, 4, [⟨0, .rw, (.range 1 32768), false, (fun _ i => QMS_W_LIM_DN.CQ_MAX i)⟩, ⟨16, .rw, (.range 1 1024), false, (fun _ i => QMS_W_LIM_DN.NODE_MAX i)⟩]⟩,
  ⟨0xb00c0, 1, 0x0, 8, 4, [⟨0, .rc, .any, true, (fun _ i => QMS_W_NPEAK.PEAK i)⟩, ⟨11, .rc, .any, true, (fun _ i => QMS_W_NPEAK.NIX i)⟩]⟩,
  ⟨0xb00e0, 1, 0x0, 8, 4, [⟨0, .ro, .any, false, (fun _ i => QMS_W_NFRAMES.FRAMES i)⟩]⟩,
  ⟨0xb0100, 1, 0x0, 64, 4, [⟨0, .ro, .any, false, (fun _ i => QMS_WHEY i)⟩]⟩,
  ⟨0xb0400, 1, 0x0, 128, 4, [⟨0, .ro, .any, false, (fun _ i => QMS_CQ.CURDS i)⟩, ⟨16, .rc, .any, true, (fun _ i => QMS_CQ.PEAK i)⟩]⟩,
  ⟨0xc0000, 1, 0x0, 1, 4, [⟨0, .rw, .any, false, (fun _ _ => SHP_CFG.EN)⟩, ⟨1, .rw, .any, false, (fun _ _ => SHP_CFG.RECONF_UP)⟩, ⟨2, .rw, .any, false, (fun _ _ => SHP_CFG.RECONF_DN)⟩]⟩,
  ⟨0xc0004, 1, 0x0, 1, 4, [⟨0, .ro, .any, false, (fun _ _ => SHP_STS.RUN)⟩, ⟨1, .ro, .any, false, (fun _ _ => SHP_STS.FALLBACK)⟩]⟩,
  ⟨0xc0008, 1, 0x0, 1, 4, [⟨0, .w1c, .any, false, (fun _ _ => SHP_INT_STS.SHAPE_DROP)⟩, ⟨1, .w1c, .any, false, (fun _ _ => SHP_INT_STS.RED)⟩, ⟨2, .w1c, .any, false, (fun _ _ => SHP_INT_STS.GATE_LATE)⟩, ⟨3, .w1c, .any, false, (fun _ _ => SHP_INT_STS.GATE_OVERSIZE)⟩, ⟨4, .w1c, .any, false, (fun _ _ => SHP_INT_STS.GATE_SWITCHED)⟩]⟩,
  ⟨0xc000c, 1, 0x0, 1, 4, [⟨0, .rw, .any, false, (fun _ _ => SHP_INT_EN.SHAPE_DROP)⟩, ⟨1, .rw, .any, false, (fun _ _ => SHP_INT_EN.RED)⟩, ⟨2, .rw, .any, false, (fun _ _ => SHP_INT_EN.GATE_LATE)⟩, ⟨3, .rw, .any, false, (fun _ _ => SHP_INT_EN.GATE_OVERSIZE)⟩, ⟨4, .rw, .any, false, (fun _ _ => SHP_INT_EN.GATE_SWITCHED)⟩]⟩,
  ⟨0xc0010, 1, 0x0, 1, 4, [⟨0, .rw, .any, true, (fun _ _ => SHP_CAL_CFG.EN)⟩, ⟨1, .rw, .special, false, (fun _ _ => SHP_CAL_CFG.RES)⟩, ⟨14, .rw, .special, false, (fun _ _ => SHP_CAL_CFG.MAX_WAIT)⟩]⟩,
  ⟨0xc0014, 1, 0x0, 1, 4, [⟨0, .ro, .any, false, (fun _ _ => SHP_CAL_STS.COUNT)⟩, ⟨16, .rc, .any, true, (fun _ _ => SHP_CAL_STS.PEAK)⟩]⟩,
  ⟨0xc0018, 1, 0x0, 1, 4, [⟨0, .ro, .any, false, (fun _ _ => SHP_SWEEP_STS.POS)⟩, ⟨18, .ro, .any, false, (fun _ _ => SHP_SWEEP_STS.SWEEPS)⟩]⟩,
  ⟨0xc001c, 1, 0x0, 1, 4, [⟨0, .rw, .any, false, (fun _ _ => SHP_WPOL_MODE.AWARE)⟩]⟩,
  ⟨0xc0020, 1, 0x0, 1, 4, [⟨0, .ro, .any, false, (fun _ _ => SHP_POL_PASS)⟩]⟩,
  ⟨0xc0024, 1, 0x0, 1, 4, [⟨0, .ro, .any, false, (fun _ _ => SHP_POL_DROP)⟩]⟩,
  ⟨0xc0028, 1, 0x0, 1, 4, [⟨0, .ro, .any, false, (fun _ _ => SHP_WPOL_GREEN)⟩]⟩,
  ⟨0xc002c, 1, 0x0, 1, 4, [⟨0, .ro, .any, false, (fun _ _ => SHP_WPOL_YELLOW)⟩]⟩,
  ⟨0xc0030, 1, 0x0, 1, 4, [⟨0, .ro, .any, false, (fun _ _ => SHP_WPOL_RED)⟩]⟩,
  ⟨0xc0034, 1, 0x0, 1, 4, [⟨0, .ro, .any, false, (fun _ _ => SHP_CAL_INSERTS)⟩]⟩,
  ⟨0xc0038, 1, 0x0, 1, 4, [⟨0, .ro, .any, false, (fun _ _ => SHP_CAL_FALLBACK)⟩]⟩,
  ⟨0xc003c, 1, 0x0, 1, 4, [⟨0, .ro, .any, false, (fun _ _ => SHP_SHAPE_DROP)⟩]⟩]

/-- Part 15 of the register map. -/
def regMap15 : List RegRow := [
  ⟨0xc0100, 1, 0x0, 32, 4, [⟨0, .rw, .any, false, (fun _ i => SHP_PROF_RATE.UP i)⟩, ⟨16, .rw, .any, false, (fun _ i => SHP_PROF_RATE.DN i)⟩]⟩,
  ⟨0xc0180, 1, 0x0, 32, 4, [⟨0, .rw, (.range 1 65535), false, (fun _ i => SHP_PROF_BURST.UP i)⟩, ⟨16, .rw, (.range 1 65535), false, (fun _ i => SHP_PROF_BURST.DN i)⟩]⟩,
  ⟨0xc0200, 1, 0x0, 64, 4, [⟨0, .rw, .special, true, (fun _ i => SHP_WPOL_RATE.CIR i)⟩, ⟨16, .rw, .any, true, (fun _ i => SHP_WPOL_RATE.PIR i)⟩]⟩,
  ⟨0xc0300, 1, 0x0, 64, 4, [⟨0, .rw, (.range 32 65535), true, (fun _ i => SHP_WPOL_BURST.CBS i)⟩, ⟨16, .rw, (.range 32 65535), true, (fun _ i => SHP_WPOL_BURST.PBS i)⟩]⟩,
  ⟨0xc0400, 1, 0x0, 64, 4, [⟨0, .rw, .any, true, (fun _ i => SHP_WDS.RATE i)⟩, ⟨16, .rw, (.range 1 65535), true, (fun _ i => SHP_WDS.BURST i)⟩]⟩,
  ⟨0xc0800, 1, 0x0, 64, 4, [⟨0, .rw, .any, false, (fun _ i => SHP_GCL0.GATES i)⟩, ⟨8, .rw, (.range 1 16777215), false, (fun _ i => SHP_GCL0.INTERVAL i)⟩]⟩,
  ⟨0xc0900, 1, 0x0, 64, 4, [⟨0, .rw, .any, false, (fun _ i => SHP_GCL1.GATES i)⟩, ⟨8, .rw, (.range 1 16777215), false, (fun _ i => SHP_GCL1.INTERVAL i)⟩]⟩,
  ⟨0xc0500, 2, 0x80, 1, 4, [⟨0, .rw, .any, false, (fun n _ => SHP_GATE_CTL.EN n)⟩, ⟨1, .rw, .any, true, (fun n _ => SHP_GATE_CTL.ARM n)⟩, ⟨16, .rw, (.range 1 32), false, (fun n _ => SHP_GATE_CTL.LEN n)⟩]⟩,
  ⟨0xc0504, 2, 0x80, 1, 4, [⟨0, .w1c, .any, false, (fun n _ => SHP_GATE_STS.LATE_BASE n)⟩, ⟨1, .ro, .any, false, (fun n _ => SHP_GATE_STS.PENDING n)⟩, ⟨8, .ro, .any, false, (fun n _ => SHP_GATE_STS.OPER_IX n)⟩, ⟨16, .ro, .any, false, (fun n _ => SHP_GATE_STS.OPEN n)⟩]⟩,
  ⟨0xc0508, 2, 0x80, 1, 4, [⟨0, .rw, (.range 0 999999999), false, (fun n _ => SHP_GATE_BASE_NS.NS n)⟩]⟩,
  ⟨0xc050c, 2, 0x80, 1, 4, [⟨0, .rw, .any, false, (fun n _ => SHP_GATE_BASE_SL.S n)⟩]⟩,
  ⟨0xc0510, 2, 0x80, 1, 4, [⟨0, .rw, .any, false, (fun n _ => SHP_GATE_BASE_SH.S n)⟩]⟩,
  ⟨0xc0514, 2, 0x80, 1, 4, [⟨0, .rw, (.range 1000 1000000000), false, (fun n _ => SHP_GATE_CYCLE.NS n)⟩]⟩,
  ⟨0xc0518, 2, 0x80, 1, 4, [⟨0, .rw, .any, false, (fun n _ => SHP_GATE_CREV.NS n)⟩]⟩,
  ⟨0xc051c, 2, 0x80, 1, 4, [⟨0, .ro, .any, false, (fun n _ => SHP_GATE_AT_NS.NS n)⟩]⟩,
  ⟨0xc0520, 2, 0x80, 1, 4, [⟨0, .ro, .any, false, (fun n _ => SHP_GATE_AT_SL.S n)⟩]⟩,
  ⟨0xc0524, 2, 0x80, 1, 4, [⟨0, .ro, .any, false, (fun n _ => SHP_GATE_AT_SH.S n)⟩]⟩,
  ⟨0xc0528, 2, 0x80, 1, 4, [⟨0, .ro, .any, false, (fun n _ => SHP_GATE_CYCLES n)⟩]⟩,
  ⟨0xc052c, 2, 0x80, 1, 4, [⟨0, .ro, .any, false, (fun n _ => SHP_GATE_SWITCHES n)⟩]⟩,
  ⟨0xc0530, 2, 0x80, 8, 4, [⟨0, .ro, .any, false, (fun n i => SHP_GATE_OVERSIZE n i)⟩]⟩,
  ⟨0xc0550, 2, 0x80, 1, 4, [⟨0, .ro, .any, false, (fun n _ => SHP_GATE_WAIT n)⟩]⟩,
  ⟨0xc0554, 2, 0x80, 1, 4, [⟨0, .ro, .any, false, (fun n _ => SHP_GATE_LATE n)⟩]⟩,
  ⟨0xc0558, 2, 0x80, 1, 4, [⟨0, .ro, .any, false, (fun n _ => SHP_EGR_CNT.FRAMES n)⟩]⟩,
  ⟨0xc055c, 2, 0x80, 1, 4, [⟨0, .rc, .any, true, (fun n _ => SHP_EGR_PEAK.PEAK n)⟩]⟩]

/-- Part 16 of the register map. -/
def regMap16 : List RegRow := [
  ⟨0x40000, 1, 0x0, 1, 4, [⟨0, .rw, .any, false, (fun _ _ => TSU_CFG.TC_EN)⟩, ⟨1, .rw, .any, false, (fun _ _ => TSU_CFG.PTP_RING)⟩, ⟨6, .rw, .any, false, (fun _ _ => TSU_CFG.PTP_CLASS)⟩, ⟨9, .rw, .any, false, (fun _ _ => TSU_CFG.COPY_EVT)⟩]⟩,
  ⟨0x40004, 1, 0x0, 1, 4, [⟨0, .ro, .any, false, (fun _ _ => TSU_STS.REF)⟩, ⟨1, .ro, .any, false, (fun _ _ => TSU_STS.ASN_RUN)⟩, ⟨2, .ro, .any, false, (fun _ _ => TSU_STS.SERVO)⟩, ⟨5, .ro, .any, false, (fun _ _ => TSU_STS.SLEWING)⟩]⟩,
  ⟨0x40008, 1, 0x0, 1, 4, [⟨0, .w1c, .any, false, (fun _ _ => TSU_INT_STS.PATH_STEP)⟩, ⟨1, .w1c, .any, false, (fun _ _ => TSU_INT_STS.HOLDOVER)⟩, ⟨2, .w1c, .any, false, (fun _ _ => TSU_INT_STS.LOCKED)⟩, ⟨3, .w1c, .any, false, (fun _ _ => TSU_INT_STS.OFS_BIG)⟩, ⟨4, .w1c, .any, false, (fun _ _ => TSU_INT_STS.STEP_REFUSED)⟩, ⟨5, .w1c, .any, false, (fun _ _ => TSU_INT_STS.SLEW_DONE)⟩, ⟨6, .w1c, .any, false, (fun _ _ => TSU_INT_STS.PO_LATE)⟩, ⟨7, .w1c, .any, false, (fun _ _ => TSU_INT_STS.CI_OVF)⟩, ⟨8, .w1c, .any, false, (fun _ _ => TSU_INT_STS.ASN_STARTED)⟩, ⟨9, .w1c, .any, false, (fun _ _ => TSU_INT_STS.SYNC_LOSS)⟩, ⟨10, .w1c, .any, false, (fun _ _ => TSU_INT_STS.CMD_BAD)⟩, ⟨11, .w1c, .any, false, (fun _ _ => TSU_INT_STS.CI_DATA)⟩]⟩,
  ⟨0x4000c, 1, 0x0, 1, 4, [⟨0, .rw, .any, false, (fun _ _ => TSU_INT_EN.PATH_STEP)⟩, ⟨1, .rw, .any, false, (fun _ _ => TSU_INT_EN.HOLDOVER)⟩, ⟨2, .rw, .any, false, (fun _ _ => TSU_INT_EN.LOCKED)⟩, ⟨3, .rw, .any, false, (fun _ _ => TSU_INT_EN.OFS_BIG)⟩, ⟨4, .rw, .any, false, (fun _ _ => TSU_INT_EN.STEP_REFUSED)⟩, ⟨5, .rw, .any, false, (fun _ _ => TSU_INT_EN.SLEW_DONE)⟩, ⟨6, .rw, .any, false, (fun _ _ => TSU_INT_EN.PO_LATE)⟩, ⟨7, .rw, .any, false, (fun _ _ => TSU_INT_EN.CI_OVF)⟩, ⟨8, .rw, .any, false, (fun _ _ => TSU_INT_EN.ASN_STARTED)⟩, ⟨9, .rw, .any, false, (fun _ _ => TSU_INT_EN.SYNC_LOSS)⟩, ⟨10, .rw, .any, false, (fun _ _ => TSU_INT_EN.CMD_BAD)⟩, ⟨11, .rw, .any, false, (fun _ _ => TSU_INT_EN.CI_DATA)⟩]⟩,
  ⟨0x40010, 1, 0x0, 1, 4, [⟨0, .ro, .any, true, (fun _ _ => TSU_NS_LO.RC)⟩]⟩,
  ⟨0x40014, 1, 0x0, 1, 4, [⟨0, .ro, .any, true, (fun _ _ => TSU_NS_HI.RC)⟩]⟩,
  ⟨0x40018, 1, 0x0, 1, 4, [⟨0, .ro, .any, true, (fun _ _ => TSU_EPOCH.RC)⟩]⟩,
  ⟨0x4001c, 1, 0x0, 1, 4, [⟨0, .ro, .any, true, (fun _ _ => TSU_MAP_NS.NS)⟩]⟩,
  ⟨0x40020, 1, 0x0, 1, 4, [⟨0, .ro, .any, true, (fun _ _ => TSU_MAP_SL.S)⟩]⟩,
  ⟨0x40024, 1, 0x0, 1, 4, [⟨0, .ro, .any, true, (fun _ _ => TSU_MAP_SH.S)⟩]⟩,
  ⟨0x40028, 1, 0x0, 1, 4, [⟨0, .ro, .any, true, (fun _ _ => TSU_TIME_NS.NS)⟩]⟩,
  ⟨0x4002c, 1, 0x0, 1, 4, [⟨0, .ro, .any, true, (fun _ _ => TSU_TIME_SL.S)⟩]⟩,
  ⟨0x40030, 1, 0x0, 1, 4, [⟨0, .ro, .any, true, (fun _ _ => TSU_TIME_SH.S)⟩]⟩,
  ⟨0x40034, 1, 0x0, 1, 4, [⟨0, .rw, .special, false, (fun _ _ => TSU_FREQ.FREQ)⟩]⟩,
  ⟨0x40038, 1, 0x0, 1, 4, [⟨0, .rw, (.signed (-999999999) (999999999)), false, (fun _ _ => TSU_STEP_NS.NS)⟩]⟩,
  ⟨0x4003c, 1, 0x0, 1, 4, [⟨0, .rw, .any, false, (fun _ _ => TSU_STEP_S.S)⟩]⟩,
  ⟨0x40040, 1, 0x0, 1, 4, [⟨0, .wo, .any, true, (fun _ _ => TSU_STEP_CTL.STEP)⟩, ⟨1, .wo, .any, true, (fun _ _ => TSU_STEP_CTL.SET)⟩, ⟨2, .ro, .any, false, (fun _ _ => TSU_STEP_CTL.BAD)⟩]⟩,
  ⟨0x40044, 1, 0x0, 1, 4, [⟨0, .rw, (.range 0 999999999), false, (fun _ _ => TSU_SET_NS.NS)⟩]⟩,
  ⟨0x40048, 1, 0x0, 1, 4, [⟨0, .rw, .any, false, (fun _ _ => TSU_SET_SL.S)⟩]⟩,
  ⟨0x4004c, 1, 0x0, 1, 4, [⟨0, .rw, .any, false, (fun _ _ => TSU_SET_SH.S)⟩]⟩,
  ⟨0x40050, 1, 0x0, 1, 4, [⟨0, .rw, .any, false, (fun _ _ => TSU_SLEW_NS.NS)⟩]⟩,
  ⟨0x40054, 1, 0x0, 1, 4, [⟨0, .wo, .any, true, (fun _ _ => TSU_SLEW_CTL.GO)⟩, ⟨1, .wo, .any, true, (fun _ _ => TSU_SLEW_CTL.ABORT)⟩, ⟨2, .ro, .any, false, (fun _ _ => TSU_SLEW_CTL.BAD)⟩]⟩,
  ⟨0x40058, 1, 0x0, 1, 4, [⟨0, .rw, (.range 1 100000), false, (fun _ _ => TSU_SLEW_CFG.PPB)⟩]⟩,
  ⟨0x4005c, 1, 0x0, 1, 4, [⟨0, .wo, .any, true, (fun _ _ => TSU_ASN_CTL.START)⟩, ⟨1, .wo, .any, true, (fun _ _ => TSU_ASN_CTL.STOP)⟩, ⟨2, .ro, .any, false, (fun _ _ => TSU_ASN_CTL.BAD)⟩]⟩]

/-- Part 17 of the register map. -/
def regMap17 : List RegRow := [
  ⟨0x40060, 1, 0x0, 1, 4, [⟨0, .rw, .special, false, (fun _ _ => TSU_ASN_T0_NS.NS)⟩]⟩,
  ⟨0x40064, 1, 0x0, 1, 4, [⟨0, .rw, .special, false, (fun _ _ => TSU_ASN_T0_SL.S)⟩]⟩,
  ⟨0x40068, 1, 0x0, 1, 4, [⟨0, .rw, .special, false, (fun _ _ => TSU_ASN_T0_SH.S)⟩]⟩,
  ⟨0x4006c, 1, 0x0, 1, 4, [⟨0, .rw, .special, false, (fun _ _ => TSU_ASN_BASE_LO.ASN)⟩]⟩,
  ⟨0x40070, 1, 0x0, 1, 4, [⟨0, .rw, .special, false, (fun _ _ => TSU_ASN_BASE_HI.ASN)⟩]⟩,
  ⟨0x40074, 1, 0x0, 1, 4, [⟨0, .ro, .any, false, (fun _ _ => TSU_ASN_NEXT_NS.NS)⟩]⟩,
  ⟨0x40078, 1, 0x0, 1, 4, [⟨0, .ro, .any, false, (fun _ _ => TSU_ASN_NEXT_SL.S)⟩]⟩,
  ⟨0x4007c, 1, 0x0, 1, 4, [⟨0, .ro, .any, false, (fun _ _ => TSU_ASN_STS.RUN)⟩, ⟨1, .ro, .any, false, (fun _ _ => TSU_ASN_STS.STOP_PEND)⟩, ⟨2, .ro, .any, false, (fun _ _ => TSU_ASN_STS.START_PEND)⟩, ⟨8, .ro, .any, false, (fun _ _ => TSU_ASN_STS.LEN_US)⟩]⟩,
  ⟨0x40080, 1, 0x0, 1, 4, [⟨0, .rw, .any, true, (fun _ _ => TSU_SERVO_CFG.EN)⟩, ⟨1, .rw, (.range 0 4), false, (fun _ _ => TSU_SERVO_CFG.SRC)⟩, ⟨4, .rw, .any, false, (fun _ _ => TSU_SERVO_CFG.STEP_EN)⟩]⟩,
  ⟨0x40084, 1, 0x0, 1, 4, [⟨0, .wo, .any, true, (fun _ _ => TSU_SERVO_CTL.CMD)⟩, ⟨2, .ro, .any, false, (fun _ _ => TSU_SERVO_CTL.CMD_BAD)⟩]⟩,
  ⟨0x40088, 1, 0x0, 1, 4, [⟨0, .ro, .any, false, (fun _ _ => TSU_SERVO_STS.STATE)⟩, ⟨3, .ro, .any, false, (fun _ _ => TSU_SERVO_STS.STEP_KIND)⟩, ⟨4, .ro, .any, false, (fun _ _ => TSU_SERVO_STS.OFS_BIG)⟩, ⟨5, .ro, .any, false, (fun _ _ => TSU_SERVO_STS.CAUSE)⟩, ⟨8, .ro, .any, false, (fun _ _ => TSU_SERVO_STS.OFS_RUN)⟩, ⟨16, .ro, .any, false, (fun _ _ => TSU_SERVO_STS.PD_RUN)⟩]⟩,
  ⟨0x4008c, 1, 0x0, 1, 4, [⟨0, .rw, .any, false, (fun _ _ => TSU_SERVO_KP.KP)⟩]⟩,
  ⟨0x40090, 1, 0x0, 1, 4, [⟨0, .rw, .any, false, (fun _ _ => TSU_SERVO_KI.KI)⟩]⟩,
  ⟨0x40094, 1, 0x0, 1, 4, [⟨0, .rw, (.range 1 200000), false, (fun _ _ => TSU_SERVO_LIM.FREQ_MAX)⟩]⟩,
  ⟨0x40098, 1, 0x0, 1, 4, [⟨0, .rw, (.range 1000 1000000000), false, (fun _ _ => TSU_SERVO_STEP_THR.NS)⟩]⟩,
  ⟨0x4009c, 1, 0x0, 1, 4, [⟨0, .rw, (.range 1 65535), false, (fun _ _ => TSU_SERVO_LOCK_CFG.LOCK_THR)⟩, ⟨16, .rw, (.range 1 255), false, (fun _ _ => TSU_SERVO_LOCK_CFG.LOCK_N)⟩]⟩,
  ⟨0x400a0, 1, 0x0, 1, 4, [⟨0, .rw, (.range 10 1000000), false, (fun _ _ => TSU_SERVO_PD_CFG.PD_STEP_LIMIT)⟩, ⟨20, .rw, (.range 1 15), false, (fun _ _ => TSU_SERVO_PD_CFG.PD_STEP_N)⟩, ⟨24, .rw, (.range 0 8), false, (fun _ _ => TSU_SERVO_PD_CFG.PD_SHIFT)⟩]⟩,
  ⟨0x400a4, 1, 0x0, 1, 4, [⟨0, .rw, .any, false, (fun _ _ => TSU_SERVO_ASYM.NS)⟩]⟩,
  ⟨0x400a8, 1, 0x0, 1, 4, [⟨0, .ro, .any, false, (fun _ _ => TSU_SERVO_OFS.NS)⟩]⟩,
  ⟨0x400ac, 1, 0x0, 1, 4, [⟨0, .ro, .any, false, (fun _ _ => TSU_SERVO_MPD.NS)⟩]⟩,
  ⟨0x400b0, 1, 0x0, 1, 4, [⟨0, .ro, .any, false, (fun _ _ => TSU_SERVO_MPD_RAW.NS)⟩]⟩,
  ⟨0x400b4, 1, 0x0, 1, 4, [⟨0, .ro, .any, false, (fun _ _ => TSU_SERVO_INT.PPB)⟩]⟩,
  ⟨0x400b8, 1, 0x0, 1, 4, [⟨0, .ro, .any, false, (fun _ _ => TSU_SERVO_HOLD_FREQ.PPB)⟩]⟩,
  ⟨0x400bc, 1, 0x0, 1, 4, [⟨0, .rc, .any, true, (fun _ _ => TSU_SERVO_OFS_PEAK.NS)⟩]⟩]

/-- Part 18 of the register map. -/
def regMap18 : List RegRow := [
  ⟨0x400c0, 1, 0x0, 1, 4, [⟨0, .wo, .any, true, (fun _ _ => TSU_SERVO_EXT_OFS.NS)⟩]⟩,
  ⟨0x400c4, 1, 0x0, 1, 4, [⟨0, .rw, (.range 1 1023), false, (fun _ _ => TSU_SERVO_HOLD_CFG.HOLD_AVG_S)⟩, ⟨16, .rw, (.range 1 255), false, (fun _ _ => TSU_SERVO_HOLD_CFG.LOSS_S)⟩]⟩,
  ⟨0x400c8, 1, 0x0, 1, 4, [⟨0, .rw, .signed (-8388607) 8388607, false, (fun _ _ => TSU_PPS_CFG.PPS_OFS)⟩]⟩,
  ⟨0x400cc, 1, 0x0, 1, 4, [⟨0, .ro, .any, false, (fun _ _ => TSU_PPS_STS.EDGES)⟩]⟩,
  ⟨0x400d0, 1, 0x0, 1, 4, [⟨0, .ro, .any, false, (fun _ _ => TSU_SYNC_USED)⟩]⟩,
  ⟨0x400d4, 1, 0x0, 1, 4, [⟨0, .ro, .any, false, (fun _ _ => TSU_OFS_WITHHELD)⟩]⟩,
  ⟨0x400d8, 1, 0x0, 1, 4, [⟨0, .ro, .any, false, (fun _ _ => TSU_PD_SAMPLES)⟩]⟩,
  ⟨0x400dc, 1, 0x0, 1, 4, [⟨0, .ro, .any, false, (fun _ _ => TSU_PD_WITHHELD)⟩]⟩,
  ⟨0x400e0, 1, 0x0, 1, 4, [⟨0, .ro, .any, false, (fun _ _ => TSU_PATH_STEPS)⟩]⟩,
  ⟨0x400e4, 1, 0x0, 1, 4, [⟨0, .ro, .any, false, (fun _ _ => TSU_HOLDOVERS)⟩]⟩,
  ⟨0x400e8, 1, 0x0, 1, 4, [⟨0, .ro, .any, false, (fun _ _ => TSU_STEPS)⟩]⟩,
  ⟨0x400ec, 1, 0x0, 1, 4, [⟨0, .ro, .any, false, (fun _ _ => TSU_STEP_REFUSED)⟩]⟩,
  ⟨0x400f0, 1, 0x0, 1, 4, [⟨0, .ro, .any, false, (fun _ _ => TSU_SLEWS)⟩]⟩,
  ⟨0x400f4, 1, 0x0, 1, 4, [⟨0, .ro, .any, false, (fun _ _ => TSU_FUP_MISS)⟩]⟩,
  ⟨0x400f8, 1, 0x0, 1, 4, [⟨0, .ro, .any, false, (fun _ _ => TSU_DRESP_TIMEOUT)⟩]⟩,
  ⟨0x400fc, 1, 0x0, 1, 4, [⟨0, .ro, .any, false, (fun _ _ => TSU_HOST_SAMPLES)⟩]⟩,
  ⟨0x40100, 2, 0x80, 1, 4, [⟨0, .rw, .any, false, (fun n _ => TSU_P_CFG.EN n)⟩, ⟨1, .rw, .special, false, (fun n _ => TSU_P_CFG.ROLE n)⟩, ⟨3, .rw, .any, false, (fun n _ => TSU_P_CFG.TWO_STEP n)⟩, ⟨8, .rw, .any, false, (fun n _ => TSU_P_CFG.DOMAIN n)⟩, ⟨16, .rw, .any, false, (fun n _ => TSU_P_CFG.VLAN n)⟩, ⟨28, .rw, .any, false, (fun n _ => TSU_P_CFG.VLAN_EN n)⟩, ⟨29, .rw, .any, false, (fun n _ => TSU_P_CFG.PCP n)⟩]⟩,
  ⟨0x40104, 2, 0x80, 1, 4, [⟨0, .ro, .any, false, (fun n _ => TSU_P_STS.TS_OK n)⟩, ⟨1, .ro, .any, false, (fun n _ => TSU_P_STS.PAR_SEEN n)⟩]⟩,
  ⟨0x40108, 2, 0x80, 1, 4, [⟨0, .rw, .any, false, (fun n _ => TSU_P_CLK_LO.ID n)⟩]⟩,
  ⟨0x4010c, 2, 0x80, 1, 4, [⟨0, .rw, .any, false, (fun n _ => TSU_P_CLK_HI.ID n)⟩]⟩,
  ⟨0x40110, 2, 0x80, 1, 4, [⟨0, .rw, (.range 1 65534), false, (fun n _ => TSU_P_NUM.PORT n)⟩]⟩,
  ⟨0x40114, 2, 0x80, 1, 4, [⟨0, .rw, .any, false, (fun n _ => TSU_P_PAR_LO.ID n)⟩]⟩,
  ⟨0x40118, 2, 0x80, 1, 4, [⟨0, .rw, .any, false, (fun n _ => TSU_P_PAR_HI.ID n)⟩]⟩,
  ⟨0x4011c, 2, 0x80, 1, 4, [⟨0, .rw, .any, false, (fun n _ => TSU_P_PAR_NUM.PORT n)⟩]⟩]

/-- Part 19 of the register map. -/
def regMap19 : List RegRow := [
  ⟨0x40120, 2, 0x80, 1, 4, [⟨0, .rw, (.signed (-7) (4)), false, (fun n _ => TSU_P_INTERVAL.LOG_SYNC n)⟩, ⟨4, .rw, (.signed (-7) (5)), false, (fun n _ => TSU_P_INTERVAL.LOG_DREQ n)⟩]⟩,
  ⟨0x40124, 2, 0x80, 1, 4, [⟨0, .rw, .any, false, (fun n _ => TSU_P_ING_LAT.NS n)⟩]⟩,
  ⟨0x40128, 2, 0x80, 1, 4, [⟨0, .rw, .any, false, (fun n _ => TSU_P_EGR_LAT.NS n)⟩]⟩,
  ⟨0x4012c, 2, 0x80, 1, 4, [⟨0, .rw, .any, false, (fun n _ => TSU_P_ASYM.NS n)⟩]⟩,
  ⟨0x40130, 2, 0x80, 1, 4, [⟨0, .ro, .any, false, (fun n _ => TSU_P_RES_LAST.NS n)⟩]⟩,
  ⟨0x40134, 2, 0x80, 1, 4, [⟨0, .rc, .any, true, (fun n _ => TSU_P_RES_PEAK.NS n)⟩]⟩,
  ⟨0x40138, 2, 0x80, 1, 4, [⟨0, .ro, .any, false, (fun n _ => TSU_P_RX_EVENT n)⟩]⟩,
  ⟨0x4013c, 2, 0x80, 1, 4, [⟨0, .ro, .any, false, (fun n _ => TSU_P_TX_EVENT n)⟩]⟩,
  ⟨0x40140, 2, 0x80, 1, 4, [⟨0, .ro, .any, false, (fun n _ => TSU_P_RX_GENERAL n)⟩]⟩,
  ⟨0x40144, 2, 0x80, 1, 4, [⟨0, .ro, .any, false, (fun n _ => TSU_P_SYNC_RX n)⟩]⟩,
  ⟨0x40148, 2, 0x80, 1, 4, [⟨0, .ro, .any, false, (fun n _ => TSU_P_SYNC_TX n)⟩]⟩,
  ⟨0x4014c, 2, 0x80, 1, 4, [⟨0, .ro, .any, false, (fun n _ => TSU_P_FUP_TX n)⟩]⟩,
  ⟨0x40150, 2, 0x80, 1, 4, [⟨0, .ro, .any, false, (fun n _ => TSU_P_DREQ_TX n)⟩]⟩,
  ⟨0x40154, 2, 0x80, 1, 4, [⟨0, .ro, .any, false, (fun n _ => TSU_P_DREQ_RX n)⟩]⟩,
  ⟨0x40158, 2, 0x80, 1, 4, [⟨0, .ro, .any, false, (fun n _ => TSU_P_DRESP_TX n)⟩]⟩,
  ⟨0x4015c, 2, 0x80, 1, 4, [⟨0, .ro, .any, false, (fun n _ => TSU_P_DRESP_RX n)⟩]⟩,
  ⟨0x40160, 2, 0x80, 1, 4, [⟨0, .ro, .any, false, (fun n _ => TSU_P_FOREIGN n)⟩]⟩,
  ⟨0x40164, 2, 0x80, 1, 4, [⟨0, .ro, .any, false, (fun n _ => TSU_P_ONESTEP n)⟩]⟩,
  ⟨0x40168, 2, 0x80, 1, 4, [⟨0, .ro, .any, false, (fun n _ => TSU_P_TC_FWD n)⟩]⟩,
  ⟨0x4016c, 2, 0x80, 1, 4, [⟨0, .ro, .any, false, (fun n _ => TSU_P_TC_UNCORR n)⟩]⟩,
  ⟨0x40170, 2, 0x80, 1, 4, [⟨0, .ro, .any, false, (fun n _ => TSU_P_PDELAY n)⟩]⟩,
  ⟨0x40174, 2, 0x80, 1, 4, [⟨0, .ro, .any, false, (fun n _ => TSU_P_BAD_DOMAIN n)⟩]⟩,
  ⟨0x40178, 2, 0x80, 1, 4, [⟨0, .ro, .any, false, (fun n _ => TSU_P_TS_LOST n)⟩]⟩,
  ⟨0x4017c, 2, 0x80, 1, 4, [⟨0, .ro, .any, false, (fun n _ => TSU_P_TX_TS_REQ n)⟩]⟩]

/-- Part 20 of the register map. -/
def regMap20 : List RegRow := [
  ⟨0x40200, 4, 0x20, 1, 4, [⟨0, .rw, .any, true, (fun n _ => TSU_PO_CTL.ARM n)⟩, ⟨1, .rw, .any, false, (fun n _ => TSU_PO_CTL.PERIODIC n)⟩, ⟨2, .rw, .any, false, (fun n _ => TSU_PO_CTL.STRICT n)⟩, ⟨3, .rw, .any, false, (fun n _ => TSU_PO_CTL.OUT_EN n)⟩, ⟨4, .rw, .any, false, (fun n _ => TSU_PO_CTL.POL n)⟩, ⟨5, .wo, .any, true, (fun n _ => TSU_PO_CTL.STOP n)⟩]⟩,
  ⟨0x40204, 4, 0x20, 1, 4, [⟨0, .w1c, .any, false, (fun n _ => TSU_PO_STS.LATE n)⟩, ⟨1, .w1c, .any, false, (fun n _ => TSU_PO_STS.CANCELLED n)⟩, ⟨2, .ro, .any, false, (fun n _ => TSU_PO_STS.ACTIVE n)⟩]⟩,
  ⟨0x40208, 4, 0x20, 1, 4, [⟨0, .rw, .special, false, (fun n _ => TSU_PO_START_NS.NS n)⟩]⟩,
  ⟨0x4020c, 4, 0x20, 1, 4, [⟨0, .rw, .special, false, (fun n _ => TSU_PO_START_SL.S n)⟩]⟩,
  ⟨0x40210, 4, 0x20, 1, 4, [⟨0, .rw, .special, false, (fun n _ => TSU_PO_START_SH.S n)⟩]⟩,
  ⟨0x40214, 4, 0x20, 1, 4, [⟨0, .rw, .special, false, (fun n _ => TSU_PO_PERIOD.NS n)⟩]⟩,
  ⟨0x40218, 4, 0x20, 1, 4, [⟨0, .rw, .special, false, (fun n _ => TSU_PO_WIDTH.NS n)⟩]⟩,
  ⟨0x4021c, 4, 0x20, 1, 4, [⟨0, .ro, .any, false, (fun n _ => TSU_PO_COUNT.COUNT n)⟩]⟩,
  ⟨0x40300, 4, 0x20, 1, 4, [⟨0, .rw, .any, false, (fun n _ => TSU_CI_CTL.EN n)⟩, ⟨1, .rw, .special, false, (fun n _ => TSU_CI_CTL.EDGE n)⟩, ⟨4, .rw, .any, false, (fun n _ => TSU_CI_CTL.FILT n)⟩]⟩,
  ⟨0x40304, 4, 0x20, 1, 4, [⟨0, .ro, .any, false, (fun n _ => TSU_CI_STS.LEVEL n)⟩, ⟨5, .w1c, .any, false, (fun n _ => TSU_CI_STS.OVF n)⟩, ⟨6, .ro, .any, false, (fun n _ => TSU_CI_STS.PIN n)⟩]⟩,
  ⟨0x40308, 4, 0x20, 1, 4, [⟨0, .ro, .any, true, (fun n _ => TSU_CI_NS.NS n)⟩, ⟨30, .ro, .any, true, (fun n _ => TSU_CI_NS.VALID n)⟩, ⟨31, .ro, .any, true, (fun n _ => TSU_CI_NS.FALL n)⟩]⟩,
  ⟨0x4030c, 4, 0x20, 1, 4, [⟨0, .ro, .any, false, (fun n _ => TSU_CI_SL.S n)⟩]⟩,
  ⟨0x40310, 4, 0x20, 1, 4, [⟨0, .ro, .any, false, (fun n _ => TSU_CI_SH.S n)⟩]⟩,
  ⟨0x40314, 4, 0x20, 1, 4, [⟨0, .ro, .any, false, (fun n _ => TSU_CI_RC.RC n)⟩]⟩,
  ⟨0x40318, 4, 0x20, 1, 4, [⟨0, .ro, .any, false, (fun n _ => TSU_CI_EVENTS n)⟩]⟩,
  ⟨0x4031c, 4, 0x20, 1, 4, [⟨0, .ro, .any, false, (fun n _ => TSU_CI_LOST n)⟩]⟩,
  ⟨0x30000, 1, 0x0, 1, 4, [⟨0, .rw, .any, false, (fun _ _ => HIF_CFG.EN)⟩, ⟨1, .rw, .special, false, (fun _ _ => HIF_CFG.STANDALONE)⟩, ⟨2, .rw, .any, false, (fun _ _ => HIF_CFG.BH_RING)⟩]⟩,
  ⟨0x30004, 1, 0x0, 1, 4, [⟨0, .ro, .any, false, (fun _ _ => HIF_STS.LINK_UP)⟩, ⟨1, .ro, .any, false, (fun _ _ => HIF_STS.GEN)⟩, ⟨4, .ro, .any, false, (fun _ _ => HIF_STS.WIDTH)⟩, ⟨7, .ro, .any, false, (fun _ _ => HIF_STS.BME)⟩, ⟨8, .ro, .any, false, (fun _ _ => HIF_STS.MSIX_EN)⟩]⟩,
  ⟨0x30008, 1, 0x0, 1, 4, [⟨0, .w1c, .any, false, (fun _ _ => HIF_INT_STS.DB_BAD)⟩, ⟨1, .w1c, .any, false, (fun _ _ => HIF_INT_STS.DMA_ERR)⟩, ⟨2, .w1c, .any, false, (fun _ _ => HIF_INT_STS.EVT_LOST)⟩, ⟨3, .w1c, .any, false, (fun _ _ => HIF_INT_STS.MBX_IDLE)⟩]⟩,
  ⟨0x3000c, 1, 0x0, 1, 4, [⟨0, .rw, .any, false, (fun _ _ => HIF_INT_EN.DB_BAD)⟩, ⟨1, .rw, .any, false, (fun _ _ => HIF_INT_EN.DMA_ERR)⟩, ⟨2, .rw, .any, false, (fun _ _ => HIF_INT_EN.EVT_LOST)⟩, ⟨3, .rw, .any, false, (fun _ _ => HIF_INT_EN.MBX_IDLE)⟩]⟩,
  ⟨0x30010, 1, 0x0, 1, 4, [⟨0, .rwl, (.range 1 4), false, (fun _ _ => HIF_PCIE_CFG.MAX_GEN)⟩, ⟨3, .rwl, .any, false, (fun _ _ => HIF_PCIE_CFG.L1_EN)⟩]⟩,
  ⟨0x30014, 1, 0x0, 1, 4, [⟨0, .rwl, .any, false, (fun _ _ => HIF_SUBSYS.SSVID)⟩, ⟨16, .rwl, .any, false, (fun _ _ => HIF_SUBSYS.SSID)⟩]⟩,
  ⟨0x30018, 1, 0x0, 1, 4, [⟨0, .rw, .any, false, (fun _ _ => HIF_EVT_ROUTE_LO.RING_0)⟩, ⟨2, .rw, .any, false, (fun _ _ => HIF_EVT_ROUTE_LO.RING_1)⟩, ⟨4, .rw, .any, false, (fun _ _ => HIF_EVT_ROUTE_LO.RING_2)⟩, ⟨6, .rw, .any, false, (fun _ _ => HIF_EVT_ROUTE_LO.RING_3)⟩, ⟨8, .rw, .any, false, (fun _ _ => HIF_EVT_ROUTE_LO.RING_4)⟩, ⟨10, .rw, .any, false, (fun _ _ => HIF_EVT_ROUTE_LO.RING_5)⟩, ⟨12, .rw, .any, false, (fun _ _ => HIF_EVT_ROUTE_LO.RING_6)⟩, ⟨14, .rw, .any, false, (fun _ _ => HIF_EVT_ROUTE_LO.RING_7)⟩, ⟨16, .rw, .any, false, (fun _ _ => HIF_EVT_ROUTE_LO.RING_8)⟩, ⟨18, .rw, .any, false, (fun _ _ => HIF_EVT_ROUTE_LO.RING_9)⟩, ⟨20, .rw, .any, false, (fun _ _ => HIF_EVT_ROUTE_LO.RING_10)⟩, ⟨22, .rw, .any, false, (fun _ _ => HIF_EVT_ROUTE_LO.RING_11)⟩, ⟨24, .rw, .any, false, (fun _ _ => HIF_EVT_ROUTE_LO.RING_12)⟩, ⟨26, .rw, .any, false, (fun _ _ => HIF_EVT_ROUTE_LO.RING_13)⟩, ⟨28, .rw, .any, false, (fun _ _ => HIF_EVT_ROUTE_LO.RING_14)⟩, ⟨30, .rw, .any, false, (fun _ _ => HIF_EVT_ROUTE_LO.RING_15)⟩]⟩,
  ⟨0x3001c, 1, 0x0, 1, 4, [⟨0, .rw, .any, false, (fun _ _ => HIF_EVT_ROUTE_HI.RING_16)⟩, ⟨2, .rw, .any, false, (fun _ _ => HIF_EVT_ROUTE_HI.RING_17)⟩, ⟨4, .rw, .any, false, (fun _ _ => HIF_EVT_ROUTE_HI.RING_18)⟩, ⟨6, .rw, .any, false, (fun _ _ => HIF_EVT_ROUTE_HI.RING_19)⟩]⟩]

/-- Part 21 of the register map. -/
def regMap21 : List RegRow := [
  ⟨0x30020, 1, 0x0, 8, 4, [⟨0, .rw, .any, false, (fun _ i => HIF_RX_ROUTE.CTL_RING i)⟩, ⟨5, .rw, .any, false, (fun _ i => HIF_RX_ROUTE.MAC_RING i)⟩, ⟨10, .rw, .any, false, (fun _ i => HIF_RX_ROUTE.MISS_RING i)⟩]⟩,
  ⟨0x30040, 1, 0x0, 1, 4, [⟨0, .ro, .any, false, (fun _ _ => HIF_MBX_IDLE)⟩]⟩,
  ⟨0x30044, 1, 0x0, 1, 4, [⟨0, .ro, .any, false, (fun _ _ => HIF_DB_BAD)⟩]⟩,
  ⟨0x30048, 1, 0x0, 1, 4, [⟨0, .ro, .any, false, (fun _ _ => HIF_DMA_ERR)⟩]⟩,
  ⟨0x3004c, 1, 0x0, 1, 4, [⟨0, .ro, .any, false, (fun _ _ => HIF_EVT_LOST)⟩]⟩,
  ⟨0x30050, 1, 0x0, 1, 4, [⟨0, .ro, .any, false, (fun _ _ => HIF_TX_TRUNC)⟩]⟩,
  ⟨0x30054, 1, 0x0, 1, 4, [⟨0, .ro, .any, false, (fun _ _ => HIF_RX_TRUNC)⟩]⟩,
  ⟨0x30058, 1, 0x0, 1, 4, [⟨0, .ro, .any, false, (fun _ _ => HIF_NOP)⟩]⟩,
  ⟨0x3005c, 1, 0x0, 1, 4, [⟨0, .ro, .any, false, (fun _ _ => HIF_TX_DESC)⟩]⟩,
  ⟨0x30060, 1, 0x0, 1, 4, [⟨0, .ro, .any, false, (fun _ _ => HIF_RX_DESC)⟩]⟩,
  ⟨0x30064, 1, 0x0, 1, 4, [⟨0, .ro, .any, false, (fun _ _ => HIF_CMD_DONE)⟩]⟩,
  ⟨0x30068, 1, 0x0, 1, 4, [⟨0, .ro, .any, false, (fun _ _ => HIF_CMD_FAIL)⟩]⟩,
  ⟨0x3006c, 1, 0x0, 1, 4, [⟨0, .ro, .any, false, (fun _ _ => HIF_EVT_WRITTEN)⟩]⟩,
  ⟨0x30070, 1, 0x0, 1, 4, [⟨0, .ro, .any, false, (fun _ _ => HIF_MSIX_SENT)⟩]⟩,
  ⟨0x30074, 1, 0x0, 1, 4, [⟨0, .ro, .any, false, (fun _ _ => HIF_RX_BACKLOG_DROP)⟩]⟩,
  ⟨0x30078, 1, 0x0, 1, 4, [⟨0, .ro, .any, false, (fun _ _ => HIF_FLR)⟩]⟩,
  ⟨0x3007c, 1, 0x0, 1, 4, [⟨0, .ro, .any, false, (fun _ _ => HIF_BADARG)⟩]⟩,
  ⟨0x30400, 76, 0x20, 1, 4, [⟨0, .rw, .special, false, (fun n _ => HIF_R_BASE_LO.ADDR n)⟩]⟩,
  ⟨0x30404, 76, 0x20, 1, 4, [⟨0, .rw, .special, false, (fun n _ => HIF_R_BASE_HI.ADDR n)⟩]⟩,
  ⟨0x30408, 76, 0x20, 1, 4, [⟨0, .rw, .any, true, (fun n _ => HIF_R_CFG.EN n)⟩, ⟨1, .rw, .special, false, (fun n _ => HIF_R_CFG.SIZE_LOG2 n)⟩, ⟨6, .rw, .special, false, (fun n _ => HIF_R_CFG.LOC n)⟩, ⟨7, .rw, .any, false, (fun n _ => HIF_R_CFG.VEC n)⟩, ⟨13, .rw, .any, false, (fun n _ => HIF_R_CFG.CORE n)⟩, ⟨16, .rw, .any, false, (fun n _ => HIF_R_CFG.IRQ_EN n)⟩, ⟨20, .rw, .special, false, (fun n _ => HIF_R_CFG.LIMIT n)⟩]⟩,
  ⟨0x3040c, 76, 0x20, 1, 4, [⟨0, .rw, .any, false, (fun n _ => HIF_R_MOD.USECS n)⟩, ⟨16, .rw, (.range 1 1023), false, (fun n _ => HIF_R_MOD.COUNT n)⟩]⟩,
  ⟨0x30410, 76, 0x20, 1, 4, [⟨0, .ro, .any, false, (fun n _ => HIF_R_IDX.HEAD n)⟩, ⟨16, .ro, .any, false, (fun n _ => HIF_R_IDX.TAIL n)⟩]⟩,
  ⟨0x30414, 76, 0x20, 1, 4, [⟨0, .ro, .any, false, (fun n _ => HIF_R_STS.RUN n)⟩, ⟨1, .ro, .any, false, (fun n _ => HIF_R_STS.ARMED n)⟩, ⟨2, .ro, .any, false, (fun n _ => HIF_R_STS.ERR n)⟩, ⟨3, .ro, .any, false, (fun n _ => HIF_R_STS.ERR_CODE n)⟩, ⟨16, .ro, .any, false, (fun n _ => HIF_R_STS.PEND n)⟩]⟩,
  ⟨0x30418, 76, 0x20, 1, 4, [⟨0, .ro, .any, false, (fun n _ => HIF_R_DONE.COUNT n)⟩]⟩]

/-- Part 22 of the register map. -/
def regMap22 : List RegRow := [
  ⟨0x3041c, 32, 0x20, 1, 4, [⟨0, .rw, (.range 1 255), false, (fun n _ => HIF_TXR_ARB.WEIGHT n)⟩]⟩,
  ⟨0x3081c, 32, 0x20, 1, 4, [⟨0, .ro, .any, false, (fun n _ => HIF_RXR_BACKLOG.COUNT n)⟩, ⟨16, .rc, .any, true, (fun n _ => HIF_RXR_BACKLOG.PEAK n)⟩]⟩,
  ⟨0x30c1c, 8, 0x20, 1, 4, [⟨0, .ro, .any, false, (fun n _ => HIF_CMDR_FAIL.COUNT n)⟩]⟩,
  ⟨0x30d1c, 4, 0x20, 1, 4, [⟨0, .ro, .any, false, (fun n _ => HIF_EVTR_PEND.PEND n)⟩, ⟨8, .rc, .any, true, (fun n _ => HIF_EVTR_PEND.PEAK n)⟩]⟩,
  ⟨0x120000, 1, 0x0, 1, 4, [⟨0, .rw, .any, false, (fun _ _ => UPD_CFG.EN)⟩, ⟨1, .rw, .any, false, (fun _ _ => UPD_CFG.RPT_EN)⟩]⟩,
  ⟨0x120004, 1, 0x0, 1, 4, [⟨0, .ro, .any, false, (fun _ _ => UPD_STS.ACTIVE)⟩, ⟨4, .ro, .any, false, (fun _ _ => UPD_STS.PRESS_BUSY)⟩]⟩,
  ⟨0x120008, 1, 0x0, 1, 4, [⟨0, .w1c, .any, false, (fun _ _ => UPD_INT_STS.CAMP_END)⟩, ⟨1, .w1c, .any, false, (fun _ _ => UPD_INT_STS.NODE_FAIL)⟩, ⟨2, .w1c, .any, false, (fun _ _ => UPD_INT_STS.STARVE)⟩, ⟨3, .w1c, .any, false, (fun _ _ => UPD_INT_STS.IMG_ERR)⟩, ⟨4, .w1c, .any, false, (fun _ _ => UPD_INT_STS.NOCURD)⟩]⟩,
  ⟨0x12000c, 1, 0x0, 1, 4, [⟨0, .rw, .any, false, (fun _ _ => UPD_INT_EN.CAMP_END)⟩, ⟨1, .rw, .any, false, (fun _ _ => UPD_INT_EN.NODE_FAIL)⟩, ⟨2, .rw, .any, false, (fun _ _ => UPD_INT_EN.STARVE)⟩, ⟨3, .rw, .any, false, (fun _ _ => UPD_INT_EN.IMG_ERR)⟩, ⟨4, .rw, .any, false, (fun _ _ => UPD_INT_EN.NOCURD)⟩]⟩,
  ⟨0x120010, 1, 0x0, 1, 4, [⟨0, .ro, .any, false, (fun _ _ => UPD_PRESS_STS.SLOT)⟩, ⟨2, .ro, .any, false, (fun _ _ => UPD_PRESS_STS.SBN)⟩]⟩,
  ⟨0x120014, 1, 0x0, 1, 4, [⟨0, .ro, .any, false, (fun _ _ => UPD_CURDS.USED)⟩, ⟨16, .rc, .any, true, (fun _ _ => UPD_CURDS.PEAK)⟩]⟩,
  ⟨0x120018, 1, 0x0, 1, 4, [⟨0, .ro, .any, false, (fun _ _ => UPD_READY.FRAMES)⟩, ⟨16, .rc, .any, true, (fun _ _ => UPD_READY.PEAK)⟩]⟩,
  ⟨0x12001c, 1, 0x0, 1, 4, [⟨0, .ro, .any, false, (fun _ _ => UPD_PREP_LAST.US)⟩]⟩,
  ⟨0x120020, 1, 0x0, 8, 4, [⟨0, .rwl, .any, false, (fun _ i => UPD_VKEY.KEY i)⟩]⟩,
  ⟨0x120040, 1, 0x0, 1, 4, [⟨0, .ro, .any, false, (fun _ _ => UPD_SYM_SENT)⟩]⟩,
  ⟨0x120044, 1, 0x0, 1, 4, [⟨0, .ro, .any, false, (fun _ _ => UPD_ANN_SENT)⟩]⟩,
  ⟨0x120048, 1, 0x0, 1, 4, [⟨0, .ro, .any, false, (fun _ _ => UPD_STARVE)⟩]⟩,
  ⟨0x12004c, 1, 0x0, 1, 4, [⟨0, .ro, .any, false, (fun _ _ => UPD_RATE_SKIP)⟩]⟩,
  ⟨0x120050, 1, 0x0, 1, 4, [⟨0, .ro, .any, false, (fun _ _ => UPD_NOFIT)⟩]⟩,
  ⟨0x120054, 1, 0x0, 1, 4, [⟨0, .ro, .any, false, (fun _ _ => UPD_SHARED_FILL)⟩]⟩,
  ⟨0x120058, 1, 0x0, 1, 4, [⟨0, .ro, .any, false, (fun _ _ => UPD_RPT_RX)⟩]⟩,
  ⟨0x12005c, 1, 0x0, 1, 4, [⟨0, .ro, .any, false, (fun _ _ => UPD_RPT_STALE)⟩]⟩,
  ⟨0x120060, 1, 0x0, 1, 4, [⟨0, .ro, .any, false, (fun _ _ => UPD_NODE_DONE)⟩]⟩,
  ⟨0x120064, 1, 0x0, 1, 4, [⟨0, .ro, .any, false, (fun _ _ => UPD_NODE_FAIL)⟩]⟩,
  ⟨0x120068, 1, 0x0, 1, 4, [⟨0, .ro, .any, false, (fun _ _ => UPD_NODE_REFUSED)⟩]⟩]

/-- Part 23 of the register map. -/
def regMap23 : List RegRow := [
  ⟨0x12006c, 1, 0x0, 1, 4, [⟨0, .ro, .any, false, (fun _ _ => UPD_BLOCKS_PREP)⟩]⟩,
  ⟨0x120070, 1, 0x0, 1, 4, [⟨0, .ro, .any, false, (fun _ _ => UPD_NOCURD)⟩]⟩,
  ⟨0x120074, 1, 0x0, 1, 4, [⟨0, .ro, .any, false, (fun _ _ => UPD_IMG_DMA_ERR)⟩]⟩,
  ⟨0x120078, 1, 0x0, 1, 4, [⟨0, .ro, .any, false, (fun _ _ => UPD_SIGN_OPS)⟩]⟩,
  ⟨0x12007c, 1, 0x0, 1, 4, [⟨0, .ro, .any, false, (fun _ _ => UPD_PRESS_KIB)⟩]⟩,
  ⟨0x120080, 4, 0x20, 1, 4, [⟨0, .ro, .any, false, (fun n _ => UPD_C_STS.STATE n)⟩, ⟨4, .ro, .any, false, (fun n _ => UPD_C_STS.WARD n)⟩, ⟨8, .ro, .any, false, (fun n _ => UPD_C_STS.END_WHY n)⟩, ⟨16, .ro, .any, false, (fun n _ => UPD_C_STS.IMG_ID n)⟩]⟩,
  ⟨0x120084, 4, 0x20, 1, 4, [⟨0, .ro, .any, false, (fun n _ => UPD_C_OTI_LO.F n)⟩]⟩,
  ⟨0x120088, 4, 0x20, 1, 4, [⟨0, .ro, .any, false, (fun n _ => UPD_C_OTI_HI.F n)⟩, ⟨8, .ro, .any, false, (fun n _ => UPD_C_OTI_HI.T n)⟩, ⟨24, .ro, .any, false, (fun n _ => UPD_C_OTI_HI.Z n)⟩]⟩,
  ⟨0x12008c, 4, 0x20, 1, 4, [⟨0, .ro, .any, false, (fun n _ => UPD_C_ROUND.ROUND n)⟩, ⟨8, .ro, .any, false, (fun n _ => UPD_C_ROUND.ROUNDS n)⟩]⟩,
  ⟨0x120090, 4, 0x20, 1, 4, [⟨0, .ro, .any, false, (fun n _ => UPD_C_SENT.COUNT n)⟩]⟩,
  ⟨0x120094, 4, 0x20, 1, 4, [⟨0, .ro, .any, false, (fun n _ => UPD_C_NODES.ACTIVE n)⟩]⟩,
  ⟨0x120098, 4, 0x20, 1, 4, [⟨0, .ro, .any, false, (fun n _ => UPD_C_DONE.DONE n)⟩]⟩,
  ⟨0x12009c, 4, 0x20, 1, 4, [⟨0, .ro, .any, false, (fun n _ => UPD_C_FAIL.FAIL n)⟩]⟩,
  ⟨0xe0000, 1, 0x0, 1, 4, [⟨0, .rwl, .special, false, (fun _ _ => KEY_CFG.BRINE_EN)⟩]⟩,
  ⟨0xe0004, 1, 0x0, 1, 4, [⟨0, .ro, .any, false, (fun _ _ => KEY_STS.STATE)⟩, ⟨3, .ro, .any, false, (fun _ _ => KEY_STS.HTK_READY)⟩, ⟨4, .ro, .any, false, (fun _ _ => KEY_STS.CELLAR_NEW)⟩, ⟨5, .ro, .any, false, (fun _ _ => KEY_STS.RNG_OK)⟩, ⟨8, .ro, .any, false, (fun _ _ => KEY_STS.SLOTS)⟩]⟩,
  ⟨0xe0008, 1, 0x0, 1, 4, [⟨0, .w1c, .any, false, (fun _ _ => KEY_INT_STS.TAMPER)⟩, ⟨1, .w1c, .any, false, (fun _ _ => KEY_INT_STS.WIPED)⟩, ⟨2, .w1c, .any, false, (fun _ _ => KEY_INT_STS.RESTORED)⟩, ⟨3, .w1c, .any, false, (fun _ _ => KEY_INT_STS.DEAD)⟩, ⟨4, .w1c, .any, false, (fun _ _ => KEY_INT_STS.RNG_FAIL)⟩, ⟨5, .w1c, .any, false, (fun _ _ => KEY_INT_STS.LOG_FULL)⟩, ⟨6, .w1c, .any, false, (fun _ _ => KEY_INT_STS.CELLAR_NEW)⟩, ⟨7, .w1c, .any, false, (fun _ _ => KEY_INT_STS.LOCKSTEP)⟩]⟩,
  ⟨0xe000c, 1, 0x0, 1, 4, [⟨0, .rw, .any, false, (fun _ _ => KEY_INT_EN.TAMPER)⟩, ⟨1, .rw, .any, false, (fun _ _ => KEY_INT_EN.WIPED)⟩, ⟨2, .rw, .any, false, (fun _ _ => KEY_INT_EN.RESTORED)⟩, ⟨3, .rw, .any, false, (fun _ _ => KEY_INT_EN.DEAD)⟩, ⟨4, .rw, .any, false, (fun _ _ => KEY_INT_EN.RNG_FAIL)⟩, ⟨5, .rw, .any, false, (fun _ _ => KEY_INT_EN.LOG_FULL)⟩, ⟨6, .rw, .any, false, (fun _ _ => KEY_INT_EN.CELLAR_NEW)⟩, ⟨7, .rw, .any, false, (fun _ _ => KEY_INT_EN.LOCKSTEP)⟩]⟩,
  ⟨0xe0010, 1, 0x0, 1, 4, [⟨0, .ro, .any, false, (fun _ _ => KEY_LC.LC)⟩, ⟨8, .ro, .any, false, (fun _ _ => KEY_LC.RETURN_PEND)⟩]⟩,
  ⟨0xe0014, 1, 0x0, 1, 4, [⟨0, .ro, .any, false, (fun _ _ => KEY_TAMPER_STS.TOTAL)⟩, ⟨16, .ro, .any, false, (fun _ _ => KEY_TAMPER_STS.UNACK)⟩, ⟨21, .ro, .any, false, (fun _ _ => KEY_TAMPER_STS.LATCHED)⟩, ⟨22, .ro, .any, false, (fun _ _ => KEY_TAMPER_STS.LOG_FULL)⟩, ⟨23, .ro, .any, false, (fun _ _ => KEY_TAMPER_STS.ZEROED)⟩]⟩,
  ⟨0xe0018, 1, 0x0, 1, 4, [⟨0, .wo, .any, true, (fun _ _ => KEY_TAMPER_ACK.CODE)⟩]⟩,
  ⟨0xe001c, 1, 0x0, 1, 4, [⟨0, .rwl, (.range 1 255), false, (fun _ _ => KEY_RIND_CFG.PER_ACT)⟩, ⟨8, .rwl, (.range 1 250), false, (fun _ _ => KEY_RIND_CFG.PER_SLEEP)⟩, ⟨16, .rwl, .any, false, (fun _ _ => KEY_RIND_CFG.DEB)⟩, ⟨19, .rwl, .any, false, (fun _ _ => KEY_RIND_CFG.CASE_POL)⟩]⟩,
  ⟨0xe0020, 1, 0x0, 1, 4, [⟨0, .rw, .special, false, (fun _ _ => KEY_RIND_EN.EN)⟩]⟩,
  ⟨0xe0024, 1, 0x0, 1, 4, [⟨0, .ro, .any, false, (fun _ _ => KEY_RIND_CLASS.FUSE)⟩, ⟨8, .rw, .special, false, (fun _ _ => KEY_RIND_CLASS.SOFT)⟩, ⟨16, .ro, .any, false, (fun _ _ => KEY_RIND_CLASS.EFF)⟩]⟩,
  ⟨0xe0028, 1, 0x0, 1, 4, [⟨0, .ro, .any, false, (fun _ _ => KEY_RIND_STS.RAW)⟩, ⟨8, .ro, .any, false, (fun _ _ => KEY_RIND_STS.TRIPPED)⟩]⟩]

/-- Part 24 of the register map. -/
def regMap24 : List RegRow := [
  ⟨0xe002c, 1, 0x0, 1, 4, [⟨0, .rw, (.range 10 1000), false, (fun _ _ => KEY_BRINE_CFG.PERIOD_MS)⟩]⟩,
  ⟨0xe0030, 1, 0x0, 1, 4, [⟨0, .ro, .any, false, (fun _ _ => KEY_BRINE_STS.LAST_MS)⟩, ⟨16, .ro, .any, false, (fun _ _ => KEY_BRINE_STS.POS)⟩]⟩,
  ⟨0xe0034, 1, 0x0, 1, 4, [⟨0, .ro, .any, false, (fun _ _ => KEY_RNG_STS.OK)⟩, ⟨1, .ro, .any, false, (fun _ _ => KEY_RNG_STS.HEALTH_FAIL)⟩, ⟨8, .ro, .any, false, (fun _ _ => KEY_RNG_STS.FAILS)⟩]⟩,
  ⟨0xe0038, 1, 0x0, 1, 4, [⟨0, .ro, .any, false, (fun _ _ => KEY_SVN.SVN)⟩]⟩,
  ⟨0xe003c, 1, 0x0, 1, 4, [⟨0, .ro, .any, false, (fun _ _ => KEY_BOOTCNT.COUNT)⟩]⟩,
  ⟨0xe0040, 1, 0x0, 1, 4, [⟨0, .ro, .any, false, (fun _ _ => KEY_BRINE_PASSES)⟩]⟩,
  ⟨0xe0044, 1, 0x0, 1, 4, [⟨0, .ro, .any, false, (fun _ _ => KEY_BRINE_SKIP)⟩]⟩,
  ⟨0xe0048, 1, 0x0, 1, 4, [⟨0, .ro, .any, false, (fun _ _ => KEY_RNG_FAIL)⟩]⟩,
  ⟨0xe004c, 1, 0x0, 1, 4, [⟨0, .ro, .any, false, (fun _ _ => KEY_WIPES)⟩]⟩,
  ⟨0xe0050, 1, 0x0, 1, 4, [⟨0, .ro, .any, false, (fun _ _ => KEY_RESTORES)⟩]⟩,
  ⟨0xe0054, 1, 0x0, 1, 4, [⟨0, .ro, .any, false, (fun _ _ => KEY_ABORTS)⟩]⟩,
  ⟨0xe0058, 1, 0x0, 1, 4, [⟨0, .ro, .any, false, (fun _ _ => KEY_ATTESTS)⟩]⟩,
  ⟨0xe005c, 1, 0x0, 1, 4, [⟨0, .ro, .any, false, (fun _ _ => KEY_GEN_OPS)⟩]⟩,
  ⟨0xe0060, 1, 0x0, 1, 4, [⟨0, .ro, .any, false, (fun _ _ => KEY_IMPORT_OPS)⟩]⟩,
  ⟨0xe0064, 1, 0x0, 1, 4, [⟨0, .ro, .any, false, (fun _ _ => KEY_UNWRAP_FAIL)⟩]⟩,
  ⟨0xe0068, 1, 0x0, 1, 4, [⟨0, .ro, .any, false, (fun _ _ => KEY_GROUP_LOADS)⟩]⟩,
  ⟨0xe006c, 1, 0x0, 1, 4, [⟨0, .ro, .any, false, (fun _ _ => KEY_GROUP_ZEROED)⟩]⟩,
  ⟨0xe0070, 1, 0x0, 1, 4, [⟨0, .ro, .any, false, (fun _ _ => KEY_ALIAS_SIGNS)⟩]⟩,
  ⟨0xe0074, 1, 0x0, 1, 4, [⟨0, .ro, .any, false, (fun _ _ => KEY_IDENT_SIGNS)⟩]⟩,
  ⟨0xe0078, 1, 0x0, 1, 4, [⟨0, .ro, .any, false, (fun _ _ => KEY_LOCKSTEP_ERR)⟩]⟩,
  ⟨0xe007c, 1, 0x0, 1, 4, [⟨0, .ro, .any, false, (fun _ _ => KEY_HOLD_BOOTS)⟩]⟩,
  ⟨0xe0080, 1, 0x0, 16, 4, [⟨0, .ro, .any, false, (fun _ i => KEY_MEAS.M i)⟩]⟩,
  ⟨0xe00c0, 1, 0x0, 8, 4, [⟨0, .ro, .any, false, (fun _ i => KEY_IDENT_PUB.K i)⟩]⟩,
  ⟨0xe00e0, 1, 0x0, 8, 4, [⟨0, .ro, .any, false, (fun _ i => KEY_ALIAS_PUB.K i)⟩]⟩]

/-- Part 25 of the register map. -/
def regMap25 : List RegRow := [
  ⟨0xe0100, 1, 0x0, 8, 4, [⟨0, .ro, .any, false, (fun _ i => KEY_XCHG_PUB.K i)⟩]⟩,
  ⟨0xe0120, 1, 0x0, 8, 4, [⟨0, .rwl, .any, true, (fun _ i => KEY_HOSTPUB.K i)⟩]⟩,
  ⟨0xe0140, 1, 0x0, 8, 4, [⟨0, .ro, .any, false, (fun _ i => KEY_SLOT_STS.SLOT_0 i)⟩, ⟨8, .ro, .any, false, (fun _ i => KEY_SLOT_STS.SLOT_1 i)⟩, ⟨16, .ro, .any, false, (fun _ i => KEY_SLOT_STS.SLOT_2 i)⟩, ⟨24, .ro, .any, false, (fun _ i => KEY_SLOT_STS.SLOT_3 i)⟩]⟩,
  ⟨0xe0160, 1, 0x0, 8, 4, [⟨0, .ro, .any, false, (fun _ i => KEY_RIND_CNT.COUNT i)⟩]⟩,
  ⟨0xe0180, 1, 0x0, 16, 8, [⟨0, .ro, .any, false, (fun _ i => KEY_TLOG_A.RTC_S i)⟩]⟩,
  ⟨0xe0184, 1, 0x0, 16, 8, [⟨0, .ro, .any, false, (fun _ i => KEY_TLOG_B.RTC_TICK i)⟩, ⟨15, .ro, .any, false, (fun _ i => KEY_TLOG_B.SENSOR i)⟩, ⟨19, .ro, .any, false, (fun _ i => KEY_TLOG_B.CLASS_A i)⟩, ⟨20, .ro, .any, false, (fun _ i => KEY_TLOG_B.PHASE i)⟩, ⟨23, .ro, .any, false, (fun _ i => KEY_TLOG_B.ACK i)⟩, ⟨25, .ro, .any, false, (fun _ i => KEY_TLOG_B.VALID i)⟩, ⟨26, .ro, .any, false, (fun _ i => KEY_TLOG_B.ZEROED i)⟩]⟩,
  ⟨0x0, 1, 0x0, 1, 4, [⟨0, .ro, .any, false, (fun _ _ => SYS_ID.STEP)⟩, ⟨8, .ro, .any, false, (fun _ _ => SYS_ID.GRADE)⟩, ⟨16, .ro, .any, false, (fun _ _ => SYS_ID.PART)⟩]⟩,
  ⟨0x4, 1, 0x0, 1, 4, [⟨0, .w1c, .any, false, (fun _ _ => SYS_RST_CAUSE.HIST)⟩, ⟨8, .ro, .any, false, (fun _ _ => SYS_RST_CAUSE.LAST)⟩]⟩,
  ⟨0x8, 1, 0x0, 1, 4, [⟨0, .wo, .any, true, (fun _ _ => SYS_RST_CTL.WARM)⟩, ⟨16, .wo, .any, true, (fun _ _ => SYS_RST_CTL.KEY)⟩]⟩,
  ⟨0xc, 1, 0x0, 1, 4, [⟨0, .rw, (.range 0 2), true, (fun _ _ => SYS_MODE.MODE)⟩]⟩,
  ⟨0x10, 1, 0x0, 1, 4, [⟨0, .ro, .any, false, (fun _ _ => SYS_MODE_STS.CUR)⟩, ⟨2, .ro, .any, false, (fun _ _ => SYS_MODE_STS.PEND)⟩, ⟨4, .ro, .any, false, (fun _ _ => SYS_MODE_STS.BUSY)⟩, ⟨5, .ro, .any, false, (fun _ _ => SYS_MODE_STS.FAIL)⟩]⟩,
  ⟨0x14, 1, 0x0, 1, 4, [⟨0, .rw, .any, true, (fun _ _ => SYS_CFG_LOCK.LOCK)⟩]⟩,
  ⟨0x18, 1, 0x0, 1, 4, [⟨0, .w1c, .any, false, (fun _ _ => SYS_INT_STS.BOOT_DONE)⟩, ⟨1, .w1c, .any, false, (fun _ _ => SYS_INT_STS.BOOT_FAIL)⟩, ⟨2, .w1c, .any, false, (fun _ _ => SYS_INT_STS.MODE_DONE)⟩, ⟨3, .w1c, .any, false, (fun _ _ => SYS_INT_STS.LC_PEND)⟩, ⟨4, .w1c, .any, false, (fun _ _ => SYS_INT_STS.UC_LOADED)⟩, ⟨5, .w1c, .any, false, (fun _ _ => SYS_INT_STS.UC_REJECT)⟩, ⟨6, .w1c, .any, false, (fun _ _ => SYS_INT_STS.SVN_DONE)⟩, ⟨7, .w1c, .any, false, (fun _ _ => SYS_INT_STS.FUSE_DONE)⟩]⟩,
  ⟨0x1c, 1, 0x0, 1, 4, [⟨0, .rw, .any, false, (fun _ _ => SYS_INT_EN.BOOT_DONE)⟩, ⟨1, .rw, .any, false, (fun _ _ => SYS_INT_EN.BOOT_FAIL)⟩, ⟨2, .rw, .any, false, (fun _ _ => SYS_INT_EN.MODE_DONE)⟩, ⟨3, .rw, .any, false, (fun _ _ => SYS_INT_EN.LC_PEND)⟩, ⟨4, .rw, .any, false, (fun _ _ => SYS_INT_EN.UC_LOADED)⟩, ⟨5, .rw, .any, false, (fun _ _ => SYS_INT_EN.UC_REJECT)⟩, ⟨6, .rw, .any, false, (fun _ _ => SYS_INT_EN.SVN_DONE)⟩, ⟨7, .rw, .any, false, (fun _ _ => SYS_INT_EN.FUSE_DONE)⟩]⟩,
  ⟨0x20, 1, 0x0, 1, 4, [⟨0, .ro, .any, false, (fun _ _ => SYS_BOOT_CFG.STRAP)⟩, ⟨2, .rwl, .any, false, (fun _ _ => SYS_BOOT_CFG.OVR_EN)⟩, ⟨3, .rwl, .any, false, (fun _ _ => SYS_BOOT_CFG.OVR_SRC)⟩]⟩,
  ⟨0x24, 1, 0x0, 1, 4, [⟨0, .ro, .any, false, (fun _ _ => SYS_BOOT_STS.STAGE)⟩, ⟨4, .ro, .any, false, (fun _ _ => SYS_BOOT_STS.SRC)⟩, ⟨6, .ro, .any, false, (fun _ _ => SYS_BOOT_STS.SLOT)⟩, ⟨7, .ro, .any, false, (fun _ _ => SYS_BOOT_STS.FALLBACK)⟩, ⟨8, .ro, .any, false, (fun _ _ => SYS_BOOT_STS.ERR)⟩]⟩,
  ⟨0x28, 1, 0x0, 1, 4, [⟨0, .ro, .any, false, (fun _ _ => SYS_BOOT_TIME.US)⟩]⟩,
  ⟨0x2c, 1, 0x0, 1, 4, [⟨0, .rw, .any, false, (fun _ _ => SYS_PCIE_BOOT_LO.ADDR)⟩]⟩,
  ⟨0x30, 1, 0x0, 1, 4, [⟨0, .rw, .any, false, (fun _ _ => SYS_PCIE_BOOT_HI.ADDR)⟩]⟩,
  ⟨0x34, 1, 0x0, 1, 4, [⟨0, .rw, (.range 256 16777216), false, (fun _ _ => SYS_PCIE_BOOT_LEN.LEN)⟩]⟩,
  ⟨0x38, 1, 0x0, 1, 4, [⟨0, .wo, .any, true, (fun _ _ => SYS_PCIE_BOOT_CTL.GO)⟩]⟩,
  ⟨0x3c, 1, 0x0, 1, 4, [⟨0, .wo, .any, true, (fun _ _ => SYS_LC_REQ.TARGET)⟩, ⟨16, .wo, .any, true, (fun _ _ => SYS_LC_REQ.KEY)⟩]⟩,
  ⟨0x40, 1, 0x0, 1, 4, [⟨0, .ro, .any, false, (fun _ _ => SYS_LC_STS.LC)⟩, ⟨5, .ro, .any, false, (fun _ _ => SYS_LC_STS.PEND)⟩, ⟨10, .ro, .any, false, (fun _ _ => SYS_LC_STS.RESULT)⟩]⟩,
  ⟨0x44, 1, 0x0, 1, 4, [⟨0, .rw, .any, true, (fun _ _ => SYS_FUSE_CTL.TARGET)⟩, ⟨2, .rw, .any, true, (fun _ _ => SYS_FUSE_CTL.VAL)⟩, ⟨3, .wo, .any, true, (fun _ _ => SYS_FUSE_CTL.PROG)⟩]⟩]

/-- Part 26 of the register map. -/
def regMap26 : List RegRow := [
  ⟨0x48, 1, 0x0, 1, 4, [⟨0, .ro, .any, false, (fun _ _ => SYS_FUSE_STS.DONE)⟩, ⟨3, .ro, .any, false, (fun _ _ => SYS_FUSE_STS.BSCAN_FIELD)⟩, ⟨4, .ro, .any, false, (fun _ _ => SYS_FUSE_STS.BUSY)⟩, ⟨5, .ro, .any, false, (fun _ _ => SYS_FUSE_STS.ERR)⟩]⟩,
  ⟨0x4c, 1, 0x0, 1, 4, [⟨0, .rw, (.range 0 64), true, (fun _ _ => SYS_SVN_CTL.TARGET)⟩, ⟨7, .wo, .any, true, (fun _ _ => SYS_SVN_CTL.GO)⟩, ⟨8, .ro, .any, false, (fun _ _ => SYS_SVN_CTL.MAX)⟩, ⟨15, .ro, .any, false, (fun _ _ => SYS_SVN_CTL.BUSY)⟩, ⟨16, .ro, .any, false, (fun _ _ => SYS_SVN_CTL.BAD)⟩]⟩,
  ⟨0x50, 1, 0x0, 1, 4, [⟨0, .ro, .any, false, (fun _ _ => SYS_REL_STS.CORES)⟩, ⟨8, .ro, .any, false, (fun _ _ => SYS_REL_STS.LANES)⟩, ⟨12, .ro, .any, false, (fun _ _ => SYS_REL_STS.SERAC)⟩]⟩,
  ⟨0x54, 1, 0x0, 1, 4, [⟨0, .ro, .any, false, (fun _ _ => SYS_SRAM_STS.DONE)⟩, ⟨16, .ro, .any, false, (fun _ _ => SYS_SRAM_STS.US)⟩]⟩,
  ⟨0x58, 1, 0x0, 1, 4, [⟨0, .ro, .any, false, (fun _ _ => SYS_UC_STS.TARGET)⟩, ⟨4, .ro, .any, false, (fun _ _ => SYS_UC_STS.RESULT)⟩, ⟨16, .ro, .any, false, (fun _ _ => SYS_UC_STS.VER)⟩]⟩,
  ⟨0x5c, 1, 0x0, 1, 4, [⟨0, .ro, .any, false, (fun _ _ => SYS_LC_NONCE.NONCE)⟩]⟩,
  ⟨0x60, 1, 0x0, 1, 4, [⟨0, .ro, .any, false, (fun _ _ => SYS_BOOTS)⟩]⟩,
  ⟨0x64, 1, 0x0, 1, 4, [⟨0, .ro, .any, false, (fun _ _ => SYS_WARM_RESETS)⟩]⟩,
  ⟨0x68, 1, 0x0, 1, 4, [⟨0, .ro, .any, false, (fun _ _ => SYS_FAULT_RESETS)⟩]⟩,
  ⟨0x6c, 1, 0x0, 1, 4, [⟨0, .ro, .any, false, (fun _ _ => SYS_WAKES)⟩]⟩,
  ⟨0x70, 1, 0x0, 1, 4, [⟨0, .ro, .any, false, (fun _ _ => SYS_BOOT_FAILS)⟩]⟩,
  ⟨0x74, 1, 0x0, 1, 4, [⟨0, .ro, .any, false, (fun _ _ => SYS_UCODE_LOADS)⟩]⟩,
  ⟨0x78, 1, 0x0, 1, 4, [⟨0, .ro, .any, false, (fun _ _ => SYS_UCODE_REJECTS)⟩]⟩,
  ⟨0x7c, 1, 0x0, 1, 4, [⟨0, .ro, .any, false, (fun _ _ => SYS_PC_RELOADS)⟩]⟩,
  ⟨0x80, 1, 0x0, 16, 4, [⟨0, .wo, .any, false, (fun _ i => SYS_LC_TOKEN.T i)⟩]⟩,
  ⟨0xc0, 1, 0x0, 8, 4, [⟨0, .rw, .special, false, (fun _ i => SYS_OWNER_KEY.K i)⟩]⟩,
  ⟨0xe0, 1, 0x0, 8, 4, [⟨0, .ro, .any, false, (fun _ i => SYS_IMG_STS.KIND i)⟩, ⟨8, .ro, .any, false, (fun _ i => SYS_IMG_STS.RESULT i)⟩, ⟨12, .ro, .any, false, (fun _ i => SYS_IMG_STS.MEASURED i)⟩, ⟨16, .ro, .any, false, (fun _ i => SYS_IMG_STS.VER i)⟩]⟩,
  ⟨0x100, 1, 0x0, 16, 4, [⟨0, .ro, .any, false, (fun _ i => SYS_BOOT_TRACE.US i)⟩, ⟨24, .ro, .any, false, (fun _ i => SYS_BOOT_TRACE.STAGE i)⟩]⟩,
  ⟨0x140, 1, 0x0, 16, 4, [⟨0, .rw, .any, false, (fun _ i => SYS_SCRATCH.V i)⟩]⟩,
  ⟨0x100000, 1, 0x0, 1, 4, [⟨0, .rw, .any, false, (fun _ _ => PCR_CFG.EN)⟩, ⟨1, .rwl, .any, false, (fun _ _ => PCR_CFG.REGION_EN)⟩]⟩,
  ⟨0x100004, 1, 0x0, 1, 4, [⟨0, .ro, .any, false, (fun _ _ => PCR_STS.RUN)⟩, ⟨8, .ro, .any, false, (fun _ _ => PCR_STS.HELD)⟩]⟩,
  ⟨0x100008, 1, 0x0, 1, 4, [⟨0, .w1c, .any, false, (fun _ _ => PCR_INT_STS.DRAINED)⟩, ⟨1, .w1c, .any, false, (fun _ _ => PCR_INT_STS.DRAIN_FORCED)⟩, ⟨2, .w1c, .any, false, (fun _ _ => PCR_INT_STS.HANG)⟩, ⟨3, .w1c, .any, false, (fun _ _ => PCR_INT_STS.REGION)⟩, ⟨4, .w1c, .any, false, (fun _ _ => PCR_INT_STS.MBOX_OUT)⟩, ⟨5, .w1c, .any, false, (fun _ _ => PCR_INT_STS.EXC)⟩]⟩,
  ⟨0x10000c, 1, 0x0, 1, 4, [⟨0, .rw, .any, false, (fun _ _ => PCR_INT_EN.DRAINED)⟩, ⟨1, .rw, .any, false, (fun _ _ => PCR_INT_EN.DRAIN_FORCED)⟩, ⟨2, .rw, .any, false, (fun _ _ => PCR_INT_EN.HANG)⟩, ⟨3, .rw, .any, false, (fun _ _ => PCR_INT_EN.REGION)⟩, ⟨4, .rw, .any, false, (fun _ _ => PCR_INT_EN.MBOX_OUT)⟩, ⟨5, .rw, .any, false, (fun _ _ => PCR_INT_EN.EXC)⟩]⟩,
  ⟨0x100010, 1, 0x0, 1, 4, [⟨0, .wo, .any, true, (fun _ _ => PCR_IPI.MASK)⟩]⟩]

/-- Part 27 of the register map. -/
def regMap27 : List RegRow := [
  ⟨0x100014, 1, 0x0, 1, 4, [⟨0, .ro, .any, false, (fun _ _ => PCR_FAULT_ADDR.OFS)⟩, ⟨22, .ro, .any, false, (fun _ _ => PCR_FAULT_ADDR.CORE)⟩]⟩,
  ⟨0x100018, 1, 0x0, 1, 4, [⟨0, .ro, .any, false, (fun _ _ => PCR_RESV_STS.OWNERS)⟩]⟩,
  ⟨0x10001c, 1, 0x0, 1, 4, [⟨0, .ro, .any, false, (fun _ _ => PCR_SHARED_IMG.VER)⟩]⟩,
  ⟨0x100020, 1, 0x0, 1, 4, [⟨0, .ro, .any, false, (fun _ _ => PCR_RELOADS)⟩]⟩,
  ⟨0x100024, 1, 0x0, 1, 4, [⟨0, .ro, .any, false, (fun _ _ => PCR_DRAINS)⟩]⟩,
  ⟨0x100028, 1, 0x0, 1, 4, [⟨0, .ro, .any, false, (fun _ _ => PCR_DRAIN_FORCED)⟩]⟩,
  ⟨0x10002c, 1, 0x0, 1, 4, [⟨0, .ro, .any, false, (fun _ _ => PCR_WDOG_FIRES)⟩]⟩,
  ⟨0x100030, 1, 0x0, 1, 4, [⟨0, .ro, .any, false, (fun _ _ => PCR_REGION_FAULTS)⟩]⟩,
  ⟨0x100034, 1, 0x0, 1, 4, [⟨0, .ro, .any, false, (fun _ _ => PCR_EXCEPTIONS)⟩]⟩,
  ⟨0x100038, 1, 0x0, 1, 4, [⟨0, .ro, .any, false, (fun _ _ => PCR_IPI_SENT)⟩]⟩,
  ⟨0x10003c, 1, 0x0, 1, 4, [⟨0, .ro, .any, false, (fun _ _ => PCR_MBOX_MSGS)⟩]⟩,
  ⟨0x100040, 1, 0x0, 8, 4, [⟨12, .rw, .special, false, (fun _ i => PCR_REGION_BASE.BASE i)⟩]⟩,
  ⟨0x100060, 1, 0x0, 8, 4, [⟨12, .rw, .special, false, (fun _ i => PCR_REGION_LIM.LIM i)⟩, ⟨23, .rw, .any, false, (fun _ i => PCR_REGION_LIM.EN i)⟩, ⟨24, .rw, .any, false, (fun _ i => PCR_REGION_LIM.WR_MASK i)⟩]⟩,
  ⟨0x100400, 8, 0x100, 1, 4, [⟨0, .wo, .any, true, (fun n _ => PCR_C_CTL.RUN n)⟩, ⟨1, .wo, .any, true, (fun n _ => PCR_C_CTL.DRAIN n)⟩, ⟨2, .wo, .any, true, (fun n _ => PCR_C_CTL.HALT n)⟩, ⟨3, .wo, .any, true, (fun n _ => PCR_C_CTL.DRAIN_ACK n)⟩, ⟨4, .rw, .any, false, (fun n _ => PCR_C_CTL.WDOG_EN n)⟩]⟩,
  ⟨0x100404, 8, 0x100, 1, 4, [⟨0, .ro, .any, false, (fun n _ => PCR_C_STS.STATE n)⟩, ⟨3, .ro, .any, false, (fun n _ => PCR_C_STS.FORCED n)⟩, ⟨4, .ro, .any, false, (fun n _ => PCR_C_STS.EXC n)⟩]⟩,
  ⟨0x100408, 8, 0x100, 1, 4, [⟨0, .ro, .any, false, (fun n _ => PCR_C_ENTRY.OFS n)⟩]⟩,
  ⟨0x10040c, 8, 0x100, 1, 4, [⟨0, .ro, .any, false, (fun n _ => PCR_C_IMG_VER.VER n)⟩]⟩,
  ⟨0x100410, 8, 0x100, 1, 4, [⟨0, .rw, (.range 1 65535), false, (fun n _ => PCR_C_DRAIN_TMO.MS n)⟩]⟩,
  ⟨0x100414, 8, 0x100, 1, 4, [⟨0, .wo, .any, true, (fun n _ => PCR_C_HEARTBEAT.V n)⟩]⟩,
  ⟨0x100418, 8, 0x100, 1, 4, [⟨0, .w1c, .any, false, (fun n _ => PCR_C_IRQ_STS.BITS n)⟩]⟩,
  ⟨0x10041c, 8, 0x100, 1, 4, [⟨0, .rw, .special, false, (fun n _ => PCR_C_IRQ_EN.BITS n)⟩]⟩,
  ⟨0x100420, 8, 0x100, 1, 4, [⟨0, .ro, .any, false, (fun n _ => PCR_C_MCAUSE.V n)⟩]⟩,
  ⟨0x100424, 8, 0x100, 1, 4, [⟨0, .ro, .any, false, (fun n _ => PCR_C_MEPC.V n)⟩]⟩,
  ⟨0x100428, 8, 0x100, 1, 4, [⟨0, .ro, .any, true, (fun n _ => PCR_C_INSTRET_LO.V n)⟩]⟩]

/-- Part 28 of the register map. -/
def regMap28 : List RegRow := [
  ⟨0x10042c, 8, 0x100, 1, 4, [⟨0, .ro, .any, false, (fun n _ => PCR_C_INSTRET_HI.V n)⟩]⟩,
  ⟨0x100430, 8, 0x100, 1, 4, [⟨0, .ro, .any, false, (fun n _ => PCR_C_LOCAL_ECC.CORR n)⟩, ⟨16, .ro, .any, false, (fun n _ => PCR_C_LOCAL_ECC.POISON n)⟩]⟩,
  ⟨0x100434, 8, 0x100, 1, 4, [⟨0, .ro, .any, false, (fun n _ => PCR_C_DRAIN_LAST.US n)⟩]⟩,
  ⟨0x100438, 8, 0x100, 1, 4, [⟨0, .ro, .any, false, (fun n _ => PCR_C_RELOAD_LAST.US n)⟩]⟩,
  ⟨0x10043c, 8, 0x100, 1, 4, [⟨0, .rw, (.range 1 65535), false, (fun n _ => PCR_C_WDOG_MS.MS n)⟩]⟩,
  ⟨0x100440, 8, 0x100, 8, 4, [⟨0, .rw, .any, true, (fun n i => PCR_C_MBOX_IN.V n i)⟩]⟩,
  ⟨0x100460, 8, 0x100, 8, 4, [⟨0, .rw, .any, true, (fun n i => PCR_C_MBOX_OUT.V n i)⟩]⟩,
  ⟨0x100480, 8, 0x100, 16, 4, [⟨0, .rw, .any, false, (fun n i => PCR_C_SCRATCH.V n i)⟩]⟩,
  ⟨0xf0000, 1, 0x0, 1, 4, [⟨0, .rw, (.range 1 255), false, (fun _ _ => CEL_CFG.ANCHOR_S)⟩]⟩,
  ⟨0xf0004, 1, 0x0, 1, 4, [⟨0, .w1c, .any, false, (fun _ _ => CEL_STS.CELLAR_LOST)⟩, ⟨1, .ro, .any, false, (fun _ _ => CEL_STS.RTC_VALID)⟩, ⟨2, .ro, .any, false, (fun _ _ => CEL_STS.WR_PEND)⟩, ⟨3, .ro, .any, false, (fun _ _ => CEL_STS.ON_VBAT)⟩, ⟨4, .ro, .any, false, (fun _ _ => CEL_STS.VBAT_PRESENT)⟩]⟩,
  ⟨0xf0008, 1, 0x0, 1, 4, [⟨0, .w1c, .any, false, (fun _ _ => CEL_INT_STS.SLEEP_ABORT)⟩, ⟨1, .w1c, .any, false, (fun _ _ => CEL_INT_STS.VBAT_LOW)⟩, ⟨2, .w1c, .any, false, (fun _ _ => CEL_INT_STS.REG_LIMIT)⟩, ⟨3, .w1c, .any, false, (fun _ _ => CEL_INT_STS.WATCH_MATCH)⟩, ⟨4, .w1c, .any, false, (fun _ _ => CEL_INT_STS.ALARM)⟩, ⟨5, .w1c, .any, false, (fun _ _ => CEL_INT_STS.CELLAR_LOST)⟩, ⟨6, .w1c, .any, false, (fun _ _ => CEL_INT_STS.XTAL_FAIL)⟩]⟩,
  ⟨0xf000c, 1, 0x0, 1, 4, [⟨0, .rw, .any, false, (fun _ _ => CEL_INT_EN.SLEEP_ABORT)⟩, ⟨1, .rw, .any, false, (fun _ _ => CEL_INT_EN.VBAT_LOW)⟩, ⟨2, .rw, .any, false, (fun _ _ => CEL_INT_EN.REG_LIMIT)⟩, ⟨3, .rw, .any, false, (fun _ _ => CEL_INT_EN.WATCH_MATCH)⟩, ⟨4, .rw, .any, false, (fun _ _ => CEL_INT_EN.ALARM)⟩, ⟨5, .rw, .any, false, (fun _ _ => CEL_INT_EN.CELLAR_LOST)⟩, ⟨6, .rw, .any, false, (fun _ _ => CEL_INT_EN.XTAL_FAIL)⟩]⟩,
  ⟨0xf0010, 1, 0x0, 1, 4, [⟨0, .rw, .any, true, (fun _ _ => CEL_PWR_CTL.HUSH)⟩]⟩,
  ⟨0xf0014, 1, 0x0, 1, 4, [⟨0, .ro, .any, false, (fun _ _ => CEL_PWR_STS.STATE)⟩, ⟨2, .ro, .any, false, (fun _ _ => CEL_PWR_STS.HUSH_PEND)⟩]⟩,
  ⟨0xf0018, 1, 0x0, 1, 4, [⟨0, .wo, .any, true, (fun _ _ => CEL_SLEEP_CTL.TARGET)⟩, ⟨16, .wo, .any, true, (fun _ _ => CEL_SLEEP_CTL.KEY)⟩]⟩,
  ⟨0xf001c, 1, 0x0, 1, 4, [⟨0, .ro, .any, false, (fun _ _ => CEL_SLEEP_STS.RESULT)⟩, ⟨3, .ro, .any, false, (fun _ _ => CEL_SLEEP_STS.BUSY)⟩, ⟨4, .ro, .any, false, (fun _ _ => CEL_SLEEP_STS.ABORT_SRC)⟩]⟩,
  ⟨0xf0020, 1, 0x0, 1, 4, [⟨0, .rw, (.range 10 10000), false, (fun _ _ => CEL_PG_CFG.PG_WAIT_MS)⟩, ⟨14, .rw, (.range 1 1000), false, (fun _ _ => CEL_PG_CFG.PG_OFF_MS)⟩, ⟨24, .rw, (.range 1 255), false, (fun _ _ => CEL_PG_CFG.BACKOFF_S)⟩]⟩,
  ⟨0xf0024, 1, 0x0, 1, 4, [⟨0, .ro, .any, false, (fun _ _ => CEL_REG_STS.LP)⟩, ⟨1, .ro, .any, false, (fun _ _ => CEL_REG_STS.LIMIT)⟩]⟩,
  ⟨0xf0028, 1, 0x0, 1, 4, [⟨0, .rw, .any, false, (fun _ _ => CEL_VBAT_CFG.THR)⟩]⟩,
  ⟨0xf002c, 1, 0x0, 1, 4, [⟨0, .ro, .any, false, (fun _ _ => CEL_VBAT_STS.LEVEL)⟩, ⟨8, .ro, .any, false, (fun _ _ => CEL_VBAT_STS.LOW)⟩]⟩,
  ⟨0xf0030, 1, 0x0, 1, 4, [⟨0, .ro, .any, false, (fun _ _ => CEL_RTC_S.S)⟩]⟩,
  ⟨0xf0034, 1, 0x0, 1, 4, [⟨0, .ro, .any, true, (fun _ _ => CEL_RTC_TICK.TICK)⟩]⟩,
  ⟨0xf0038, 1, 0x0, 1, 4, [⟨0, .wo, .any, true, (fun _ _ => CEL_RTC_CTL.SET)⟩, ⟨1, .rw, .any, false, (fun _ _ => CEL_RTC_CTL.AUTO_TRIM)⟩]⟩,
  ⟨0xf003c, 1, 0x0, 1, 4, [⟨0, .rwl, .any, false, (fun _ _ => CEL_PAD_CFG.REQ_POL)⟩, ⟨1, .rw, .any, false, (fun _ _ => CEL_PAD_CFG.WAKE_IN_EN)⟩]⟩]

/-- Part 29 of the register map. -/
def regMap29 : List RegRow := [
  ⟨0xf0040, 1, 0x0, 1, 4, [⟨0, .rw, .any, false, (fun _ _ => CEL_ALARM_S.S)⟩]⟩,
  ⟨0xf0044, 1, 0x0, 1, 4, [⟨0, .rw, (.range 0 32767), false, (fun _ _ => CEL_ALARM_TICK.TICK)⟩]⟩,
  ⟨0xf0048, 1, 0x0, 1, 4, [⟨0, .rw, .any, false, (fun _ _ => CEL_RTC_SET_S.S)⟩]⟩,
  ⟨0xf004c, 1, 0x0, 1, 4, [⟨0, .rw, (.range 0 32767), false, (fun _ _ => CEL_RTC_SET_TICK.TICK)⟩]⟩,
  ⟨0xf0050, 1, 0x0, 1, 4, [⟨0, .rw, (.signed (-250000) (250000)), false, (fun _ _ => CEL_TRIM.PPB)⟩]⟩,
  ⟨0xf0054, 1, 0x0, 1, 4, [⟨0, .ro, .any, false, (fun _ _ => CEL_ANCHOR_STS.AGE_S)⟩, ⟨8, .ro, .any, false, (fun _ _ => CEL_ANCHOR_STS.VALID)⟩]⟩,
  ⟨0xf0058, 1, 0x0, 1, 4, [⟨0, .ro, .any, false, (fun _ _ => CEL_TEMP.C)⟩]⟩,
  ⟨0xf005c, 1, 0x0, 1, 4, [⟨0, .ro, .any, false, (fun _ _ => CEL_PIN_STS.WAKE)⟩, ⟨4, .ro, .any, false, (fun _ _ => CEL_PIN_STS.PWR_GOOD)⟩, ⟨5, .ro, .any, false, (fun _ _ => CEL_PIN_STS.PWR_REQ)⟩, ⟨6, .ro, .any, false, (fun _ _ => CEL_PIN_STS.CASE)⟩]⟩,
  ⟨0xf0060, 1, 0x0, 1, 4, [⟨0, .ro, .any, false, (fun _ _ => CEL_SLEEPS)⟩]⟩,
  ⟨0xf0064, 1, 0x0, 1, 4, [⟨0, .ro, .any, false, (fun _ _ => CEL_SLEEP_ABORTS)⟩]⟩,
  ⟨0xf0068, 1, 0x0, 1, 4, [⟨0, .ro, .any, false, (fun _ _ => CEL_WAKES)⟩]⟩,
  ⟨0xf006c, 1, 0x0, 1, 4, [⟨0, .ro, .any, false, (fun _ _ => CEL_WAKE_NOPWR)⟩]⟩,
  ⟨0xf0070, 1, 0x0, 1, 4, [⟨0, .ro, .any, false, (fun _ _ => CEL_PG_FALLS)⟩]⟩,
  ⟨0xf0074, 1, 0x0, 1, 4, [⟨0, .ro, .any, false, (fun _ _ => CEL_REG_LIMITS)⟩]⟩,
  ⟨0xf0078, 1, 0x0, 1, 4, [⟨0, .ro, .any, false, (fun _ _ => CEL_VBAT_LOWS)⟩]⟩,
  ⟨0xf007c, 1, 0x0, 1, 4, [⟨0, .ro, .any, false, (fun _ _ => CEL_HUSH_ENTRIES)⟩]⟩,
  ⟨0xf0080, 1, 0x0, 1, 4, [⟨0, .rw, .any, false, (fun _ _ => CEL_WAKE_EN.EN)⟩]⟩,
  ⟨0xf0084, 1, 0x0, 1, 4, [⟨0, .w1c, .any, false, (fun _ _ => CEL_WAKE_STS.PEND)⟩]⟩,
  ⟨0xf0088, 1, 0x0, 4, 4, [⟨0, .rw, (.range 0 5), false, (fun _ i => CEL_WAKE_PIN.MODE i)⟩, ⟨3, .rw, .any, false, (fun _ i => CEL_WAKE_PIN.DEB i)⟩]⟩,
  ⟨0xf0098, 1, 0x0, 1, 4, [⟨0, .rw, .any, false, (fun _ _ => CEL_WAKE_RIND.MASK)⟩]⟩,
  ⟨0xf009c, 1, 0x0, 1, 4, [⟨0, .ro, .any, false, (fun _ _ => CEL_WAKE_LAST.CODE)⟩]⟩,
  ⟨0xf00a0, 1, 0x0, 1, 4, [⟨0, .rw, (.range 5 21), false, (fun _ _ => CEL_WATCH_CFG.PER_LOG2)⟩, ⟨5, .rw, .any, false, (fun _ _ => CEL_WATCH_CFG.ANA_EN)⟩, ⟨6, .rw, .any, false, (fun _ _ => CEL_WATCH_CFG.PAT_EN)⟩, ⟨7, .rw, .any, false, (fun _ _ => CEL_WATCH_CFG.CNT_EN)⟩, ⟨8, .rw, .any, false, (fun _ _ => CEL_WATCH_CFG.COMB)⟩, ⟨9, .rw, (.range 1 15), false, (fun _ _ => CEL_WATCH_CFG.N)⟩, ⟨13, .rw, .any, false, (fun _ _ => CEL_WATCH_CFG.RUN_ACTIVE)⟩]⟩,
  ⟨0xf00a4, 1, 0x0, 1, 4, [⟨0, .rw, .any, false, (fun _ _ => CEL_WATCH_ANA.LO)⟩, ⟨8, .rw, .special, false, (fun _ _ => CEL_WATCH_ANA.HI)⟩, ⟨16, .rw, .any, false, (fun _ _ => CEL_WATCH_ANA.OUTSIDE)⟩]⟩,
  ⟨0xf00a8, 1, 0x0, 1, 4, [⟨0, .rw, .any, false, (fun _ _ => CEL_WATCH_PAT.MASK)⟩, ⟨4, .rw, .any, false, (fun _ _ => CEL_WATCH_PAT.PATTERN)⟩]⟩]

/-- Part 30 of the register map. -/
def regMap30 : List RegRow := [
  ⟨0xf00ac, 1, 0x0, 1, 4, [⟨0, .rw, .any, false, (fun _ _ => CEL_WATCH_CNT.COUNT)⟩]⟩,
  ⟨0xf00b0, 1, 0x0, 1, 4, [⟨0, .rw, (.range 1 16777215), false, (fun _ _ => CEL_WATCH_THR.CNT_THR)⟩]⟩,
  ⟨0xf00b4, 1, 0x0, 1, 4, [⟨0, .ro, .any, false, (fun _ _ => CEL_WATCH_STS.RUN)⟩]⟩,
  ⟨0xf00b8, 1, 0x0, 1, 4, [⟨0, .ro, .any, false, (fun _ _ => CEL_WATCH_SAMPLE.ANA)⟩, ⟨8, .ro, .any, false, (fun _ _ => CEL_WATCH_SAMPLE.PINS)⟩]⟩,
  ⟨0xf00bc, 1, 0x0, 1, 4, [⟨0, .ro, .any, false, (fun _ _ => CEL_WATCH_SAMPLES)⟩]⟩,
  ⟨0xf00c0, 1, 0x0, 8, 4, [⟨0, .ro, .any, false, (fun _ i => CEL_LEDGER.W i)⟩]⟩,
  ⟨0xf00e0, 1, 0x0, 8, 4, [⟨0, .ro, .any, false, (fun _ i => CEL_LEDGER_PREV.W i)⟩]⟩,
  ⟨0xf0100, 1, 0x0, 32, 4, [⟨0, .rw, .any, false, (fun _ i => CEL_BKP.V i)⟩]⟩,
  ⟨0x10000, 1, 0x0, 1, 4, [⟨0, .rw, .any, false, (fun _ _ => CLK_CFG.AUTO_RET)⟩]⟩,
  ⟨0x10004, 1, 0x0, 1, 4, [⟨0, .ro, .any, false, (fun _ _ => CLK_STS.REF_OK)⟩, ⟨4, .ro, .any, false, (fun _ _ => CLK_STS.ON_RC)⟩]⟩,
  ⟨0x10008, 1, 0x0, 1, 4, [⟨0, .w1c, .any, false, (fun _ _ => CLK_INT_STS.NO_TCXO)⟩, ⟨1, .w1c, .any, false, (fun _ _ => CLK_INT_STS.NO_SERDES)⟩, ⟨2, .w1c, .any, false, (fun _ _ => CLK_INT_STS.NO_PCIE)⟩, ⟨3, .w1c, .any, false, (fun _ _ => CLK_INT_STS.XTAL_FAIL)⟩, ⟨4, .w1c, .any, false, (fun _ _ => CLK_INT_STS.REF_BACK)⟩, ⟨5, .w1c, .any, false, (fun _ _ => CLK_INT_STS.XTAL_MEAS_DONE)⟩]⟩,
  ⟨0x1000c, 1, 0x0, 1, 4, [⟨0, .rw, .any, false, (fun _ _ => CLK_INT_EN.NO_TCXO)⟩, ⟨1, .rw, .any, false, (fun _ _ => CLK_INT_EN.NO_SERDES)⟩, ⟨2, .rw, .any, false, (fun _ _ => CLK_INT_EN.NO_PCIE)⟩, ⟨3, .rw, .any, false, (fun _ _ => CLK_INT_EN.XTAL_FAIL)⟩, ⟨4, .rw, .any, false, (fun _ _ => CLK_INT_EN.REF_BACK)⟩, ⟨5, .rw, .any, false, (fun _ _ => CLK_INT_EN.XTAL_MEAS_DONE)⟩]⟩,
  ⟨0x10010, 1, 0x0, 1, 4, [⟨0, .wo, .any, true, (fun _ _ => CLK_REF_CTL.RECHECK)⟩]⟩,
  ⟨0x10014, 1, 0x0, 1, 4, [⟨0, .rw, (.range 1 10), false, (fun _ _ => CLK_MON_CFG.TOL_PCT)⟩]⟩,
  ⟨0x10018, 1, 0x0, 1, 4, [⟨0, .ro, .any, false, (fun _ _ => CLK_RC_MEAS.ERR)⟩]⟩,
  ⟨0x1001c, 1, 0x0, 1, 4, [⟨0, .rw, .any, false, (fun _ _ => CLK_RC_TRIM.TRIM)⟩]⟩,
  ⟨0x10020, 1, 0x0, 1, 4, [⟨0, .rw, (.range 0 10), false, (fun _ _ => CLK_XTAL_CFG.WIN_LOG2)⟩, ⟨4, .rw, .any, false, (fun _ _ => CLK_XTAL_CFG.EN)⟩]⟩,
  ⟨0x10024, 1, 0x0, 1, 4, [⟨0, .ro, .any, false, (fun _ _ => CLK_XTAL_MEAS.PPB)⟩]⟩,
  ⟨0x10028, 1, 0x0, 1, 4, [⟨0, .ro, .any, false, (fun _ _ => CLK_XTAL_STS.RUN)⟩, ⟨1, .ro, .any, false, (fun _ _ => CLK_XTAL_STS.DISCIPLINED)⟩, ⟨2, .ro, .any, false, (fun _ _ => CLK_XTAL_STS.FAIL)⟩]⟩,
  ⟨0x1002c, 1, 0x0, 1, 4, [⟨0, .ro, .any, false, (fun _ _ => CLK_LOSS_RC.RC)⟩]⟩,
  ⟨0x10040, 1, 0x0, 1, 4, [⟨0, .ro, .any, false, (fun _ _ => CLK_TCXO_LOSS)⟩]⟩,
  ⟨0x10044, 1, 0x0, 1, 4, [⟨0, .ro, .any, false, (fun _ _ => CLK_SERDES_LOSS)⟩]⟩,
  ⟨0x10048, 1, 0x0, 1, 4, [⟨0, .ro, .any, false, (fun _ _ => CLK_PCIE_LOSS)⟩]⟩,
  ⟨0x1004c, 1, 0x0, 1, 4, [⟨0, .ro, .any, false, (fun _ _ => CLK_XTAL_FAILS)⟩]⟩]

/-- Part 31 of the register map. -/
def regMap31 : List RegRow := [
  ⟨0x10050, 1, 0x0, 1, 4, [⟨0, .ro, .any, false, (fun _ _ => CLK_TO_REF)⟩]⟩,
  ⟨0x10054, 1, 0x0, 1, 4, [⟨0, .ro, .any, false, (fun _ _ => CLK_TO_RC)⟩]⟩,
  ⟨0x10058, 1, 0x0, 1, 4, [⟨0, .ro, .any, false, (fun _ _ => CLK_RECHECKS)⟩]⟩,
  ⟨0x1005c, 1, 0x0, 1, 4, [⟨0, .ro, .any, false, (fun _ _ => CLK_XTAL_MEASURES)⟩]⟩,
  ⟨0x10080, 1, 0x0, 4, 4, [⟨0, .ro, .any, false, (fun _ i => CLK_REF_STS.PRESENT i)⟩, ⟨1, .ro, .any, false, (fun _ i => CLK_REF_STS.IN_TOL i)⟩]⟩,
  ⟨0x10090, 1, 0x0, 4, 4, [⟨0, .ro, .any, false, (fun _ i => CLK_REF_PPM.PPM i)⟩]⟩,
  ⟨0x10100, 6, 0x20, 1, 4, [⟨0, .rw, .any, false, (fun n _ => CLK_ISL_CTL.HOLD_RC n)⟩]⟩,
  ⟨0x10104, 6, 0x20, 1, 4, [⟨0, .ro, .any, false, (fun n _ => CLK_ISL_STS.ON_REF n)⟩, ⟨1, .ro, .any, false, (fun n _ => CLK_ISL_STS.LOCKED n)⟩, ⟨2, .ro, .any, false, (fun n _ => CLK_ISL_STS.SWITCHING n)⟩]⟩,
  ⟨0x10108, 6, 0x20, 1, 4, [⟨0, .ro, .any, false, (fun n _ => CLK_ISL_LOCK.US n)⟩]⟩,
  ⟨0x1010c, 6, 0x20, 1, 4, [⟨0, .ro, .any, false, (fun n _ => CLK_ISL_FREQ.KHZ n)⟩]⟩,
  ⟨0x10110, 6, 0x20, 1, 4, [⟨0, .ro, .any, false, (fun n _ => CLK_ISL_UNLOCKS n)⟩]⟩,
  ⟨0x10114, 6, 0x20, 1, 4, [⟨0, .ro, .any, false, (fun n _ => CLK_ISL_SWITCHES n)⟩]⟩,
  ⟨0x20000, 1, 0x0, 1, 4, [⟨0, .rw, .any, false, (fun _ _ => FLT_CFG.EN_IRQ)⟩]⟩,
  ⟨0x20004, 1, 0x0, 1, 4, [⟨0, .ro, .any, false, (fun _ _ => FLT_STS.ANY)⟩, ⟨1, .ro, .any, false, (fun _ _ => FLT_STS.ESC_RUN)⟩, ⟨2, .ro, .any, false, (fun _ _ => FLT_STS.QUEUE_FULL)⟩]⟩,
  ⟨0x20008, 1, 0x0, 1, 4, [⟨0, .w1c, .any, false, (fun _ _ => FLT_INT_STS.FAULT)⟩, ⟨1, .w1c, .any, false, (fun _ _ => FLT_INT_STS.ESC_ARMED)⟩, ⟨2, .w1c, .any, false, (fun _ _ => FLT_INT_STS.MOR_WRAP)⟩, ⟨3, .w1c, .any, false, (fun _ _ => FLT_INT_STS.FIRST)⟩]⟩,
  ⟨0x2000c, 1, 0x0, 1, 4, [⟨0, .rw, .any, false, (fun _ _ => FLT_INT_EN.FAULT)⟩, ⟨1, .rw, .any, false, (fun _ _ => FLT_INT_EN.ESC_ARMED)⟩, ⟨2, .rw, .any, false, (fun _ _ => FLT_INT_EN.MOR_WRAP)⟩, ⟨3, .rw, .any, false, (fun _ _ => FLT_INT_EN.FIRST)⟩]⟩,
  ⟨0x20010, 1, 0x0, 1, 4, [⟨0, .rwl, (.range 1 65535), false, (fun _ _ => FLT_ESC_CFG.MS)⟩]⟩,
  ⟨0x20014, 1, 0x0, 1, 4, [⟨0, .ro, .any, false, (fun _ _ => FLT_ESC_STS.LEFT)⟩]⟩,
  ⟨0x20018, 1, 0x0, 1, 4, [⟨0, .ro, .any, false, (fun _ _ => FLT_ESC_SRC.SRC)⟩]⟩,
  ⟨0x2001c, 1, 0x0, 1, 4, [⟨0, .wo, .any, true, (fun _ _ => FLT_CLEAR.ALL)⟩, ⟨1, .wo, .any, true, (fun _ _ => FLT_CLEAR.FIRST)⟩]⟩,
  ⟨0x20020, 1, 0x0, 1, 4, [⟨0, .wo, .any, true, (fun _ _ => FLT_INJECT.SRC)⟩, ⟨8, .wo, .any, true, (fun _ _ => FLT_INJECT.GO)⟩]⟩,
  ⟨0x20024, 1, 0x0, 1, 4, [⟨0, .rwl, (.range 1 15), false, (fun _ _ => FLT_RST_CFG.LIMIT)⟩, ⟨8, .rwl, (.range 10 4095), false, (fun _ _ => FLT_RST_CFG.CALM_S)⟩]⟩,
  ⟨0x20028, 1, 0x0, 1, 4, [⟨0, .ro, .any, false, (fun _ _ => FLT_RST_RUN.RUN)⟩]⟩,
  ⟨0x2002c, 1, 0x0, 1, 4, [⟨0, .wo, .any, true, (fun _ _ => FLT_MOR_CTL.CLEAR)⟩]⟩]

/-- Part 32 of the register map. -/
def regMap32 : List RegRow := [
  ⟨0x20030, 1, 0x0, 1, 4, [⟨0, .ro, .any, false, (fun _ _ => FLT_MOR_STS.WP)⟩, ⟨8, .ro, .any, false, (fun _ _ => FLT_MOR_STS.WRAPS)⟩, ⟨16, .ro, .any, false, (fun _ _ => FLT_MOR_STS.QUEUED)⟩]⟩,
  ⟨0x20034, 1, 0x0, 1, 4, [⟨0, .ro, .any, false, (fun _ _ => FLT_FAULTN.LOW)⟩]⟩,
  ⟨0x20038, 1, 0x0, 1, 4, [⟨0, .ro, .any, false, (fun _ _ => FLT_SUM.WORDS)⟩]⟩,
  ⟨0x2003c, 1, 0x0, 1, 4, [⟨0, .ro, .any, false, (fun _ _ => FLT_LAST.SRC)⟩]⟩,
  ⟨0x20040, 1, 0x0, 1, 4, [⟨0, .ro, .any, false, (fun _ _ => FLT_RAISES)⟩]⟩,
  ⟨0x20044, 1, 0x0, 1, 4, [⟨0, .ro, .any, false, (fun _ _ => FLT_CLEARS)⟩]⟩,
  ⟨0x20048, 1, 0x0, 1, 4, [⟨0, .ro, .any, false, (fun _ _ => FLT_ESCALATIONS)⟩]⟩,
  ⟨0x2004c, 1, 0x0, 1, 4, [⟨0, .ro, .any, false, (fun _ _ => FLT_RESETS)⟩]⟩,
  ⟨0x20050, 1, 0x0, 1, 4, [⟨0, .ro, .any, false, (fun _ _ => FLT_RESET_SUPPRESSED)⟩]⟩,
  ⟨0x20054, 1, 0x0, 1, 4, [⟨0, .ro, .any, false, (fun _ _ => FLT_MOR_WRITES)⟩]⟩,
  ⟨0x20058, 1, 0x0, 1, 4, [⟨0, .ro, .any, false, (fun _ _ => FLT_MOR_LOST)⟩]⟩,
  ⟨0x2005c, 1, 0x0, 1, 4, [⟨0, .ro, .any, false, (fun _ _ => FLT_INJECTS)⟩]⟩,
  ⟨0x20060, 1, 0x0, 8, 4, [⟨0, .ro, .any, false, (fun _ i => FLT_FIRST.W i)⟩]⟩,
  ⟨0x20080, 1, 0x0, 8, 4, [⟨0, .ro, .any, false, (fun _ i => FLT_RAW.B i)⟩]⟩,
  ⟨0x200a0, 1, 0x0, 8, 4, [⟨0, .w1c, .any, true, (fun _ i => FLT_LATCH.B i)⟩]⟩,
  ⟨0x20400, 1, 0x0, 256, 4, [⟨0, .rwl, .special, false, (fun _ i => FLT_SRC_CFG.REACT i)⟩, ⟨2, .ro, .any, false, (fun _ i => FLT_SRC_CFG.CLASS i)⟩, ⟨4, .ro, .any, false, (fun _ i => FLT_SRC_CFG.LASTING i)⟩, ⟨8, .ro, .any, false, (fun _ i => FLT_SRC_CFG.CNT i)⟩]⟩,
  ⟨0x20800, 1, 0x0, 256, 4, [⟨0, .ro, .any, false, (fun _ i => FLT_MORAINE.W i)⟩]⟩,
  ⟨0x110000, 1, 0x0, 1, 4, [⟨0, .rw, .special, false, (fun _ _ => PAIR_CFG.EN)⟩, ⟨1, .rw, .any, false, (fun _ _ => PAIR_CFG.AUTO_TAKE)⟩, ⟨2, .rw, .any, false, (fun _ _ => PAIR_CFG.RELAY_RADIO)⟩, ⟨3, .rw, .any, false, (fun _ _ => PAIR_CFG.RELAY_ETH)⟩, ⟨4, .rw, .any, false, (fun _ _ => PAIR_CFG.RLY_PORT)⟩, ⟨5, .rw, .any, false, (fun _ _ => PAIR_CFG.STRICT_TAKE)⟩]⟩,
  ⟨0x110004, 1, 0x0, 1, 4, [⟨0, .wo, .any, true, (fun _ _ => PAIR_CTL.JOIN)⟩, ⟨2, .wo, .any, true, (fun _ _ => PAIR_CTL.LEAVE)⟩, ⟨3, .wo, .any, true, (fun _ _ => PAIR_CTL.SWITCH)⟩, ⟨4, .wo, .any, true, (fun _ _ => PAIR_CTL.FORCE)⟩, ⟨8, .ro, .any, false, (fun _ _ => PAIR_CTL.BAD)⟩]⟩,
  ⟨0x110008, 1, 0x0, 1, 4, [⟨0, .ro, .any, false, (fun _ _ => PAIR_STS.ROLE)⟩, ⟨2, .ro, .any, false, (fun _ _ => PAIR_STS.SYNC)⟩, ⟨4, .ro, .any, false, (fun _ _ => PAIR_STS.PEER_ROLE)⟩, ⟨6, .ro, .any, false, (fun _ _ => PAIR_STS.PEER_SEEN)⟩, ⟨7, .ro, .any, false, (fun _ _ => PAIR_STS.PEER_SILENT)⟩, ⟨8, .ro, .any, false, (fun _ _ => PAIR_STS.ALIVE_IN)⟩, ⟨9, .ro, .any, false, (fun _ _ => PAIR_STS.FENCE_IN)⟩, ⟨10, .ro, .any, false, (fun _ _ => PAIR_STS.FENCE_OUT)⟩, ⟨11, .ro, .any, false, (fun _ _ => PAIR_STS.TAKE_PEND)⟩, ⟨12, .ro, .any, false, (fun _ _ => PAIR_STS.SW_PEND)⟩, ⟨13, .ro, .any, false, (fun _ _ => PAIR_STS.SW_LATE)⟩]⟩,
  ⟨0x11000c, 1, 0x0, 1, 4, [⟨0, .w1c, .any, false, (fun _ _ => PAIR_INT_STS.SYNCED)⟩, ⟨1, .w1c, .any, false, (fun _ _ => PAIR_INT_STS.SYNC_LOST)⟩, ⟨2, .w1c, .any, false, (fun _ _ => PAIR_INT_STS.TAKEOVER)⟩, ⟨3, .w1c, .any, false, (fun _ _ => PAIR_INT_STS.FENCED)⟩, ⟨4, .w1c, .any, false, (fun _ _ => PAIR_INT_STS.PEER_LOST)⟩, ⟨5, .w1c, .any, false, (fun _ _ => PAIR_INT_STS.PEER_BACK)⟩, ⟨6, .w1c, .any, false, (fun _ _ => PAIR_INT_STS.TAKE_BLOCKED)⟩, ⟨7, .w1c, .any, false, (fun _ _ => PAIR_INT_STS.SWITCH_DONE)⟩, ⟨8, .w1c, .any, false, (fun _ _ => PAIR_INT_STS.CFG_MISMATCH)⟩, ⟨9, .w1c, .any, false, (fun _ _ => PAIR_INT_STS.LANE_DOWN)⟩, ⟨10, .w1c, .any, false, (fun _ _ => PAIR_INT_STS.AUTH_FAIL)⟩, ⟨11, .w1c, .any, false, (fun _ _ => PAIR_INT_STS.MIR_OVF)⟩]⟩,
  ⟨0x110010, 1, 0x0, 1, 4, [⟨0, .rw, .any, false, (fun _ _ => PAIR_INT_EN.SYNCED)⟩, ⟨1, .rw, .any, false, (fun _ _ => PAIR_INT_EN.SYNC_LOST)⟩, ⟨2, .rw, .any, false, (fun _ _ => PAIR_INT_EN.TAKEOVER)⟩, ⟨3, .rw, .any, false, (fun _ _ => PAIR_INT_EN.FENCED)⟩, ⟨4, .rw, .any, false, (fun _ _ => PAIR_INT_EN.PEER_LOST)⟩, ⟨5, .rw, .any, false, (fun _ _ => PAIR_INT_EN.PEER_BACK)⟩, ⟨6, .rw, .any, false, (fun _ _ => PAIR_INT_EN.TAKE_BLOCKED)⟩, ⟨7, .rw, .any, false, (fun _ _ => PAIR_INT_EN.SWITCH_DONE)⟩, ⟨8, .rw, .any, false, (fun _ _ => PAIR_INT_EN.CFG_MISMATCH)⟩, ⟨9, .rw, .any, false, (fun _ _ => PAIR_INT_EN.LANE_DOWN)⟩, ⟨10, .rw, .any, false, (fun _ _ => PAIR_INT_EN.AUTH_FAIL)⟩, ⟨11, .rw, .any, false, (fun _ _ => PAIR_INT_EN.MIR_OVF)⟩]⟩,
  ⟨0x110014, 1, 0x0, 1, 4, [⟨0, .rw, (.range 100 1000), false, (fun _ _ => PAIR_HB_CFG.HB_US)⟩, ⟨10, .rw, (.range 3 15), false, (fun _ _ => PAIR_HB_CFG.HB_MISS)⟩, ⟨16, .rw, (.range 1 255), false, (fun _ _ => PAIR_HB_CFG.FAB_MISS)⟩]⟩,
  ⟨0x110018, 1, 0x0, 1, 4, [⟨0, .rw, .any, false, (fun _ _ => PAIR_MIR_CFG.INTERVAL_US)⟩, ⟨16, .rw, (.range 64 4095), false, (fun _ _ => PAIR_MIR_CFG.QMAX)⟩]⟩]

/-- Part 33 of the register map. -/
def regMap33 : List RegRow := [
  ⟨0x11001c, 1, 0x0, 1, 4, [⟨0, .rw, .any, false, (fun _ _ => PAIR_SW_ASN_LO.ASN)⟩]⟩,
  ⟨0x110020, 1, 0x0, 1, 4, [⟨0, .rw, .any, false, (fun _ _ => PAIR_SW_ASN_HI.ASN)⟩]⟩,
  ⟨0x110024, 1, 0x0, 1, 4, [⟨0, .ro, .any, false, (fun _ _ => PAIR_EPOCH.EPOCH)⟩]⟩,
  ⟨0x110028, 1, 0x0, 1, 4, [⟨0, .ro, .any, false, (fun _ _ => PAIR_LAST.ROLE)⟩, ⟨2, .ro, .any, false, (fun _ _ => PAIR_LAST.LAGGING)⟩]⟩,
  ⟨0x11002c, 1, 0x0, 1, 4, [⟨0, .ro, .any, false, (fun _ _ => PAIR_LINK_STS.LANE_UP)⟩, ⟨2, .ro, .any, false, (fun _ _ => PAIR_LINK_STS.UP)⟩, ⟨16, .ro, .any, false, (fun _ _ => PAIR_LINK_STS.LAT_NS)⟩]⟩,
  ⟨0x110030, 1, 0x0, 1, 4, [⟨0, .rw, .any, false, (fun _ _ => PAIR_TIME_CFG.ASYM_NS)⟩]⟩,
  ⟨0x110034, 1, 0x0, 1, 4, [⟨0, .ro, .any, false, (fun _ _ => PAIR_TIME_OFS.NS)⟩]⟩,
  ⟨0x110038, 1, 0x0, 1, 4, [⟨0, .ro, .any, false, (fun _ _ => PAIR_CFG_CRC.CRC)⟩]⟩,
  ⟨0x11003c, 1, 0x0, 1, 4, [⟨0, .ro, .any, false, (fun _ _ => PAIR_PEER_CRC.CRC)⟩]⟩,
  ⟨0x110040, 1, 0x0, 1, 4, [⟨0, .ro, .any, false, (fun _ _ => PAIR_HB_TX)⟩]⟩,
  ⟨0x110044, 1, 0x0, 1, 4, [⟨0, .ro, .any, false, (fun _ _ => PAIR_HB_RX)⟩]⟩,
  ⟨0x110048, 1, 0x0, 1, 4, [⟨0, .ro, .any, false, (fun _ _ => PAIR_HB_MISS)⟩]⟩,
  ⟨0x11004c, 1, 0x0, 1, 4, [⟨0, .ro, .any, false, (fun _ _ => PAIR_ALIVE_MISS)⟩]⟩,
  ⟨0x110050, 1, 0x0, 1, 4, [⟨0, .ro, .any, false, (fun _ _ => PAIR_TAKEOVERS)⟩]⟩,
  ⟨0x110054, 1, 0x0, 1, 4, [⟨0, .ro, .any, false, (fun _ _ => PAIR_TAKE_BLOCKED)⟩]⟩,
  ⟨0x110058, 1, 0x0, 1, 4, [⟨0, .ro, .any, false, (fun _ _ => PAIR_FORCED)⟩]⟩,
  ⟨0x11005c, 1, 0x0, 1, 4, [⟨0, .ro, .any, false, (fun _ _ => PAIR_FENCES)⟩]⟩,
  ⟨0x110060, 1, 0x0, 1, 4, [⟨0, .ro, .any, false, (fun _ _ => PAIR_YIELDS)⟩]⟩,
  ⟨0x110064, 1, 0x0, 1, 4, [⟨0, .ro, .any, false, (fun _ _ => PAIR_SWITCHES)⟩]⟩,
  ⟨0x110068, 1, 0x0, 1, 4, [⟨0, .ro, .any, false, (fun _ _ => PAIR_MIR_TX)⟩]⟩,
  ⟨0x11006c, 1, 0x0, 1, 4, [⟨0, .ro, .any, false, (fun _ _ => PAIR_MIR_RX)⟩]⟩,
  ⟨0x110070, 1, 0x0, 1, 4, [⟨0, .ro, .any, false, (fun _ _ => PAIR_MACK_RX)⟩]⟩,
  ⟨0x110074, 1, 0x0, 1, 4, [⟨0, .ro, .any, false, (fun _ _ => PAIR_MIR_OVF)⟩]⟩,
  ⟨0x110078, 1, 0x0, 1, 4, [⟨0, .ro, .any, false, (fun _ _ => PAIR_RESYNCS)⟩]⟩]

/-- Part 34 of the register map. -/
def regMap34 : List RegRow := [
  ⟨0x11007c, 1, 0x0, 1, 4, [⟨0, .ro, .any, false, (fun _ _ => PAIR_BULK_RECORDS)⟩]⟩,
  ⟨0x110080, 1, 0x0, 1, 4, [⟨0, .ro, .any, false, (fun _ _ => PAIR_RES_MIRRORED)⟩]⟩,
  ⟨0x110084, 1, 0x0, 1, 4, [⟨0, .ro, .any, false, (fun _ _ => PAIR_RES_LOCAL)⟩]⟩,
  ⟨0x110088, 1, 0x0, 1, 4, [⟨0, .ro, .any, false, (fun _ _ => PAIR_GEN_MIRRORED)⟩]⟩,
  ⟨0x11008c, 1, 0x0, 1, 4, [⟨0, .ro, .any, false, (fun _ _ => PAIR_KEY_MIRRORED)⟩]⟩,
  ⟨0x110090, 1, 0x0, 1, 4, [⟨0, .ro, .any, false, (fun _ _ => PAIR_FWT_MIRRORED)⟩]⟩,
  ⟨0x110094, 1, 0x0, 1, 4, [⟨0, .ro, .any, false, (fun _ _ => PAIR_RLY_RADIO_TX)⟩]⟩,
  ⟨0x110098, 1, 0x0, 1, 4, [⟨0, .ro, .any, false, (fun _ _ => PAIR_RLY_RADIO_RX)⟩]⟩,
  ⟨0x11009c, 1, 0x0, 1, 4, [⟨0, .ro, .any, false, (fun _ _ => PAIR_RLY_DUP)⟩]⟩,
  ⟨0x1100a0, 1, 0x0, 1, 4, [⟨0, .ro, .any, false, (fun _ _ => PAIR_RLY_ETH_TX)⟩]⟩,
  ⟨0x1100a4, 1, 0x0, 1, 4, [⟨0, .ro, .any, false, (fun _ _ => PAIR_RLY_ETH_RX)⟩]⟩,
  ⟨0x1100a8, 1, 0x0, 1, 4, [⟨0, .ro, .any, false, (fun _ _ => PAIR_RLY_DROP)⟩]⟩,
  ⟨0x1100ac, 1, 0x0, 1, 4, [⟨0, .ro, .any, false, (fun _ _ => PAIR_TIME_SAMPLES)⟩]⟩,
  ⟨0x1100b0, 1, 0x0, 1, 4, [⟨0, .ro, .any, false, (fun _ _ => PAIR_AUTH_FAIL)⟩]⟩,
  ⟨0x1100b4, 1, 0x0, 1, 4, [⟨0, .ro, .any, false, (fun _ _ => PAIR_LANE_DOWN)⟩]⟩,
  ⟨0x1100b8, 1, 0x0, 1, 4, [⟨0, .ro, .any, false, (fun _ _ => PAIR_CFG_MISMATCH)⟩]⟩,
  ⟨0x1100bc, 1, 0x0, 1, 4, [⟨0, .ro, .any, false, (fun _ _ => PAIR_LINK_BYTES_K)⟩]⟩,
  ⟨0x1100c0, 1, 0x0, 8, 4, [⟨0, .rwl, .any, false, (fun _ i => PAIR_PEER_PUB.K i)⟩]⟩,
  ⟨0x1100e0, 1, 0x0, 1, 4, [⟨0, .rwl, .any, false, (fun _ _ => PAIR_PEER_EUI_LO.EUI)⟩]⟩,
  ⟨0x1100e4, 1, 0x0, 1, 4, [⟨0, .rwl, .any, false, (fun _ _ => PAIR_PEER_EUI_HI.EUI)⟩]⟩,
  ⟨0x1100e8, 1, 0x0, 1, 4, [⟨0, .ro, .any, false, (fun _ _ => PAIR_MIR_SEQ.MSEQ)⟩]⟩,
  ⟨0x1100ec, 1, 0x0, 1, 4, [⟨0, .ro, .any, false, (fun _ _ => PAIR_MIR_ACKED.MSEQ)⟩]⟩,
  ⟨0x1100f0, 1, 0x0, 1, 4, [⟨0, .ro, .any, false, (fun _ _ => PAIR_MIR_STS.CURDS)⟩, ⟨12, .rc, .any, true, (fun _ _ => PAIR_MIR_STS.PEAK)⟩, ⟨24, .ro, .any, false, (fun _ _ => PAIR_MIR_STS.LAT_US)⟩]⟩,
  ⟨0x1100f4, 1, 0x0, 1, 4, [⟨0, .ro, .any, false, (fun _ _ => PAIR_BULK_STS.CURSOR)⟩, ⟨31, .ro, .any, false, (fun _ _ => PAIR_BULK_STS.RUN)⟩]⟩]

/-- Part 35 of the register map. -/
def regMap35 : List RegRow := [
  ⟨0x1100f8, 1, 0x0, 2, 4, [⟨0, .ro, .any, false, (fun _ i => PAIR_LANE_STS.UP i)⟩, ⟨16, .ro, .any, false, (fun _ i => PAIR_LANE_STS.ERR i)⟩]⟩,
  ⟨0x110100, 1, 0x0, 64, 4, [⟨0, .ro, .any, false, (fun _ i => PAIR_TRACE.W i)⟩]⟩,
  ⟨0x50000, 2, 0x400, 1, 4, [⟨0, .rw, .any, false, (fun n _ => ETH_P_CFG.EN n)⟩, ⟨1, .rw, .special, false, (fun n _ => ETH_P_CFG.MODE n)⟩, ⟨3, .rw, .any, false, (fun n _ => ETH_P_CFG.AN_EN n)⟩, ⟨4, .rw, .any, false, (fun n _ => ETH_P_CFG.PAUSE_RX n)⟩, ⟨5, .rw, .any, false, (fun n _ => ETH_P_CFG.PROMISC n)⟩]⟩,
  ⟨0x50004, 2, 0x400, 1, 4, [⟨0, .ro, .any, false, (fun n _ => ETH_P_STS.LINK n)⟩, ⟨1, .ro, .any, false, (fun n _ => ETH_P_STS.SPEED n)⟩, ⟨3, .ro, .any, false, (fun n _ => ETH_P_STS.AN_DONE n)⟩, ⟨4, .ro, .any, false, (fun n _ => ETH_P_STS.FAULT n)⟩]⟩,
  ⟨0x50010, 2, 0x400, 1, 4, [⟨0, .rw, .any, false, (fun n _ => ETH_P_MAC_LO.MAC n)⟩]⟩,
  ⟨0x50014, 2, 0x400, 1, 4, [⟨0, .rw, .any, false, (fun n _ => ETH_P_MAC_HI.MAC n)⟩]⟩,
  ⟨0x50018, 2, 0x400, 1, 4, [⟨0, .rw, (.range 1518 2048), false, (fun n _ => ETH_P_MAXLEN.LEN n)⟩]⟩,
  ⟨0x50040, 2, 0x400, 1, 4, [⟨0, .ro, .any, false, (fun n _ => ETH_P_RX_FRAMES n)⟩]⟩,
  ⟨0x50044, 2, 0x400, 1, 4, [⟨0, .ro, .any, false, (fun n _ => ETH_P_RX_OCTETS_K n)⟩]⟩,
  ⟨0x50048, 2, 0x400, 1, 4, [⟨0, .ro, .any, false, (fun n _ => ETH_P_RX_UCAST n)⟩]⟩,
  ⟨0x5004c, 2, 0x400, 1, 4, [⟨0, .ro, .any, false, (fun n _ => ETH_P_RX_MCAST n)⟩]⟩,
  ⟨0x50050, 2, 0x400, 1, 4, [⟨0, .ro, .any, false, (fun n _ => ETH_P_RX_BCAST n)⟩]⟩,
  ⟨0x50054, 2, 0x400, 1, 4, [⟨0, .ro, .any, false, (fun n _ => ETH_P_RX_VLAN n)⟩]⟩,
  ⟨0x50058, 2, 0x400, 1, 4, [⟨0, .ro, .any, false, (fun n _ => ETH_P_RX_PTP n)⟩]⟩,
  ⟨0x5005c, 2, 0x400, 1, 4, [⟨0, .ro, .any, false, (fun n _ => ETH_P_RX_PAUSE n)⟩]⟩,
  ⟨0x50060, 2, 0x400, 1, 4, [⟨0, .ro, .any, false, (fun n _ => ETH_P_RX_FCS_ERR n)⟩]⟩,
  ⟨0x50064, 2, 0x400, 1, 4, [⟨0, .ro, .any, false, (fun n _ => ETH_P_RX_RUNT n)⟩]⟩,
  ⟨0x50068, 2, 0x400, 1, 4, [⟨0, .ro, .any, false, (fun n _ => ETH_P_RX_LONG n)⟩]⟩,
  ⟨0x5006c, 2, 0x400, 1, 4, [⟨0, .ro, .any, false, (fun n _ => ETH_P_RX_PCS_ERR n)⟩]⟩,
  ⟨0x50070, 2, 0x400, 1, 4, [⟨0, .ro, .any, false, (fun n _ => ETH_P_RX_CODE_ERR n)⟩]⟩,
  ⟨0x50074, 2, 0x400, 1, 4, [⟨0, .ro, .any, false, (fun n _ => ETH_P_RX_LINK_DOWN n)⟩]⟩,
  ⟨0x50078, 2, 0x400, 1, 4, [⟨0, .ro, .any, false, (fun n _ => ETH_P_RX_OVF n)⟩]⟩,
  ⟨0x5007c, 2, 0x400, 1, 4, [⟨0, .ro, .any, false, (fun n _ => ETH_P_RX_FILTERED n)⟩]⟩,
  ⟨0x50080, 2, 0x400, 1, 4, [⟨0, .ro, .any, false, (fun n _ => ETH_P_TX_FRAMES n)⟩]⟩]

/-- Part 36 of the register map. -/
def regMap36 : List RegRow := [
  ⟨0x50084, 2, 0x400, 1, 4, [⟨0, .ro, .any, false, (fun n _ => ETH_P_TX_OCTETS_K n)⟩]⟩,
  ⟨0x50088, 2, 0x400, 1, 4, [⟨0, .ro, .any, false, (fun n _ => ETH_P_TX_UCAST n)⟩]⟩,
  ⟨0x5008c, 2, 0x400, 1, 4, [⟨0, .ro, .any, false, (fun n _ => ETH_P_TX_MCAST n)⟩]⟩,
  ⟨0x50090, 2, 0x400, 1, 4, [⟨0, .ro, .any, false, (fun n _ => ETH_P_TX_BCAST n)⟩]⟩,
  ⟨0x50094, 2, 0x400, 1, 4, [⟨0, .ro, .any, false, (fun n _ => ETH_P_TX_VLAN n)⟩]⟩,
  ⟨0x50098, 2, 0x400, 1, 4, [⟨0, .ro, .any, false, (fun n _ => ETH_P_TX_PTP n)⟩]⟩,
  ⟨0x5009c, 2, 0x400, 1, 4, [⟨0, .ro, .any, false, (fun n _ => ETH_P_TX_PAUSE n)⟩]⟩,
  ⟨0x500a0, 2, 0x400, 1, 4, [⟨0, .ro, .any, false, (fun n _ => ETH_P_TX_PAD n)⟩]⟩,
  ⟨0x500a4, 2, 0x400, 1, 4, [⟨0, .ro, .any, false, (fun n _ => ETH_P_TX_ONESTEP n)⟩]⟩,
  ⟨0x500a8, 2, 0x400, 1, 4, [⟨0, .ro, .any, false, (fun n _ => ETH_P_TX_TS n)⟩]⟩,
  ⟨0x500ac, 2, 0x400, 1, 4, [⟨0, .ro, .any, false, (fun n _ => ETH_P_TX_HOST n)⟩]⟩,
  ⟨0x500b0, 2, 0x400, 1, 4, [⟨0, .ro, .any, false, (fun n _ => ETH_P_TX_UPLINK n)⟩]⟩,
  ⟨0x500b4, 2, 0x400, 1, 4, [⟨0, .ro, .any, false, (fun n _ => ETH_P_TX_RELAY n)⟩]⟩,
  ⟨0x500b8, 2, 0x400, 1, 4, [⟨0, .ro, .any, false, (fun n _ => ETH_P_TX_TC_FWD n)⟩]⟩,
  ⟨0x500bc, 2, 0x400, 1, 4, [⟨0, .ro, .any, false, (fun n _ => ETH_P_TX_LINK_DROP n)⟩]⟩,
  ⟨0x500c0, 2, 0x400, 8, 4, [⟨0, .ro, .any, false, (fun n i => ETH_P_EQ.FRAMES n i)⟩, ⟨16, .rc, .any, true, (fun n i => ETH_P_EQ.PEAK n i)⟩]⟩,
  ⟨0x50200, 2, 0x400, 16, 8, [⟨0, .rw, .any, false, (fun n i => ETH_P_FILT_LO.MAC n i)⟩]⟩,
  ⟨0x50204, 2, 0x400, 16, 8, [⟨0, .rw, .any, false, (fun n i => ETH_P_FILT_HI.MAC n i)⟩, ⟨31, .rw, .any, false, (fun n i => ETH_P_FILT_HI.EN n i)⟩]⟩,
  ⟨0x130000, 1, 0x0, 1, 4, [⟨0, .rw, .any, false, (fun _ _ => DBG_CFG.TRACE_CORE)⟩, ⟨3, .rw, .any, false, (fun _ _ => DBG_CFG.TRACE_EN)⟩]⟩,
  ⟨0x130010, 1, 0x0, 1, 4, [⟨0, .ro, .special, false, (fun _ _ => DBG_ACCESS.BSCAN)⟩, ⟨1, .ro, .special, false, (fun _ _ => DBG_ACCESS.PC_DEBUG)⟩, ⟨2, .ro, .special, false, (fun _ _ => DBG_ACCESS.UC_REGS)⟩, ⟨3, .ro, .special, false, (fun _ _ => DBG_ACCESS.JTAG_RST)⟩]⟩,
  ⟨0x130014, 1, 0x0, 1, 4, [⟨0, .ro, .any, false, (fun _ _ => DBG_TAP_STS.IR)⟩, ⟨8, .ro, .any, false, (fun _ _ => DBG_TAP_STS.CORE_HELD)⟩]⟩,
  ⟨0x130020, 1, 0x0, 1, 4, [⟨0, .ro, .any, false, (fun _ _ => DBG_IDCODE.ID)⟩]⟩,
  ⟨0x130024, 1, 0x0, 1, 4, [⟨0, .ro, .any, false, (fun _ _ => DBG_SCAN_LEN.BITS)⟩]⟩,
  ⟨0x130c00, 1, 0x0, 64, 4, [⟨0, .ro, .any, false, (fun _ i => DBG_TRACE.TARGET i)⟩]⟩]

/-- Part 37 of the register map. -/
def regMap37 : List RegRow := [
  ⟨0x130d00, 1, 0x0, 32, 4, [⟨0, .ro, .any, false, (fun _ i => DBG_BSR.BITS i)⟩]⟩,
  ⟨0x130430, 8, 0x100, 4, 4, [⟨0, .rw, .any, false, (fun n i => DBG_C_DATA.W n i)⟩]⟩,
  ⟨0x130440, 8, 0x100, 16, 4, [⟨0, .rw, .any, false, (fun n i => DBG_C_PROGBUF.W n i)⟩]⟩]

/-- The register map, every register of every table. -/
def regMap : List RegRow :=
  regMap0 ++ regMap1 ++ regMap2 ++ regMap3 ++ regMap4 ++ regMap5 ++ regMap6 ++ regMap7 ++ regMap8 ++ regMap9 ++ regMap10 ++ regMap11 ++ regMap12 ++ regMap13 ++ regMap14 ++ regMap15 ++ regMap16 ++ regMap17 ++ regMap18 ++ regMap19 ++ regMap20 ++ regMap21 ++ regMap22 ++ regMap23 ++ regMap24 ++ regMap25 ++ regMap26 ++ regMap27 ++ regMap28 ++ regMap29 ++ regMap30 ++ regMap31 ++ regMap32 ++ regMap33 ++ regMap34 ++ regMap35 ++ regMap36 ++ regMap37

end Sys2Proof.Machine
end

