-- ==== Sys2Proof/Machine/Pair.lean ====
section
/-!
DEFINITION. Commands of the redundant pair and the Azium link (R418 to R440).
-/

namespace Sys2Proof.Machine

/-! Control (R423, R434, R435) -/

/-- JOIN ACTIVE: a SOLO chip with the pair function on, a PTK and no fence becomes ACTIVE (R421, R423, R432). -/
def execPairJoinActive (t : Nat) (s : State) : Result :=
  let s := s.at t
  let ok := roleOf s = roleSolo && s.flag PAIR_CFG.EN && s.pair.ptk && !s.flag PAIR_STS.FENCE_IN
  .next (pairDone ok (if ok then pairBegin 1 s else s))

/-- JOIN STANDBY: from SOLO with the pair function on and a PTK, or from FENCED while the fence input is inactive (R421, R423). -/
def execPairJoinStandby (t : Nat) (s : State) : Result :=
  let s := s.at t
  let ok := s.flag PAIR_CFG.EN && s.pair.ptk && (roleOf s = roleSolo || (roleOf s = roleFenced && !s.flag PAIR_STS.FENCE_IN))
  .next (pairDone ok (if ok then goStandby s else s))

/-- LEAVE: a STANDBY, or an ACTIVE while PEER_SILENT, becomes SOLO (R423). -/
def execPairLeave (t : Nat) (s : State) : Result :=
  let s := s.at t
  let ok := roleOf s = roleStandby || (roleOf s = roleActive && s.flag PAIR_STS.PEER_SILENT)
  .next (pairDone ok (if ok then pairBegin 0 s else s))

/-- SWITCH: an ACTIVE in an IN_SYNC pair arms a planned switch (R435). -/
def execPairSwitch (t : Nat) (s : State) : Result :=
  let s := s.at t
  if roleOf s = roleActive && inSync s then
    let a := switchAsn s (asnField PAIR_SW_ASN_LO.ASN PAIR_SW_ASN_HI.ASN s) 2
    let s := (s.put PAIR_STS.SW_PEND true).put PAIR_STS.SW_LATE a.2
    .next (pairDone true (modPair (fun p => { p with switchAt := a.1 }) s))
  else .next (pairDone false s)

/-- FORCE: a STANDBY that is not IN_SYNC becomes ACTIVE while its peer is silent (R423, R434). -/
def execPairForce (t : Nat) (s : State) : Result :=
  let s := s.at t
  if roleOf s = roleStandby && !inSync s && s.flag PAIR_STS.PEER_SILENT then
    let s := forceNodes (takeGo 0x02 (s.inc PAIR_FORCED))
    .next (pairDone true (s.put PAIR_LAST.LAGGING true))
  else .next (pairDone false s)

/-! Heartbeats (R419, R420, R429, R437) -/

/-- The heartbeat period, ns (R440). -/
def hbNs (s : State) : Nat := s.rd PAIR_HB_CFG.HB_US * 1000

/-- R420: a heartbeat is sent on both lanes, every HB_US. `alive`: an edge was seen on PAIR_ALIVE_I in the period that ends. -/
def execHeartbeatSend (alive : Bool) (t : Nat) (s : State) : Result :=
  let s := s.at t
  if roleOf s = roleSolo || !s.reached (s.pair.sentAt + hbNs s) then .next s
  else
    let n := (s.pair.seq + 1) % 2 ^ 32
    let s := linkSent ((s.inc PAIR_HB_TX).put PAIR_STS.ALIVE_IN alive)
    .next (modPair (fun p => { p with seq := n, sentAt := s.rc, sent := ((n, s.tsuNs) :: p.sent).take 8 }) s)

/-- R437: a STANDBY whose servo follows the peer takes a sample from a heartbeat of an ACTIVE. -/
def hbSample (hb : Heartbeat) (s : State) : State :=
  match s.pair.sent.find? (fun x => x.1 = hb.echoSeq) with
  | none => s
  | some (_, t3) =>
    if roleOf s = roleStandby && hb.role.val = roleActive && servoFrom s 2 then
      let d1 : Int := (s.tsuNs : Int) - hb.tTx
      let d2 : Int := (hb.tEcho : Int) - t3
      let o : Int := (d1 - d2).tdiv 2 - s.rdS PAIR_TIME_CFG.ASYM_NS
      let s := (s.wrFree PAIR_LINK_STS.LAT_NS).inc PAIR_TIME_SAMPLES
      servoOffset o (servoDelay ((d1 + d2).tdiv 2) (s.wrSat PAIR_TIME_OFS.NS o))
    else s

/-- R420, R427, R429: the peer has been heard. -/
def hbHeard (hb : Heartbeat) (s : State) : State :=
  let s := (s.wr PAIR_STS.PEER_ROLE hb.role).put PAIR_STS.PEER_SEEN true
  let s := if s.flag PAIR_STS.PEER_SILENT then
      peerFault (pairTrace 0x09 (raise Irq.PAIR_PEER_BACK (s.put PAIR_STS.PEER_SILENT false)))
    else s
  let p : Peer := {
    role := hb.role
    sync := hb.sync
    epoch := hb.epoch
    yield := hb.yield
    mseq := hb.mseq
    seq := hb.seq
    at_ := s.tsuNs }
  let s := modPair (fun x => { x with peer := some p, missed := 0, blocked := false, periodAt := s.rc }) s
  syncFault (s.when (hb.role.val != roleActive) (fun s => s.put PAIR_STS.FENCE_OUT false))

/-- R422: CFG_CRC of the peer beside the local one. -/
def hbCrc (hb : Heartbeat) (s : State) : State :=
  let s := s.wr PAIR_PEER_CRC.CRC hb.crc
  if s.rd PAIR_PEER_CRC.CRC = s.rd PAIR_CFG_CRC.CRC then (if rawSet s 110 then faultEnd 110 s else s)
  else
    let s := raise Irq.PAIR_CFG_MISMATCH (s.inc PAIR_CFG_MISMATCH)
    if rawSet s 110 then s else faultBegin 110 {} s

/-- The two chips are configured alike (R422). -/
def crcSame (s : State) : Bool := s.rd PAIR_PEER_CRC.CRC = s.rd PAIR_CFG_CRC.CRC

/-- R423: the peer's EUI-64 is the lower one. -/
def peerLower (s : State) : Bool := s.rd PAIR_PEER_EUI_LO.EUI + 2 ^ 32 * s.rd PAIR_PEER_EUI_HI.EUI < rootEui s

/-- R423 on an ACTIVE: the EPOCH rule, and its side of synchronisation, which follows the standby's heartbeats. -/
def hbActive (hb : Heartbeat) (s : State) : State :=
  let own := s.rd PAIR_STS.SYNC
  if hb.role.val = roleActive then
    if s.rd PAIR_EPOCH.EPOCH < hb.epoch || (s.rd PAIR_EPOCH.EPOCH = hb.epoch && peerLower s) then fenceGo s else s
  else if hb.role.val = roleStandby && hb.sync.val = 1 then (if own = 1 then s else bulkSend s)
  else if hb.role.val = roleStandby && hb.sync.val = 2 then (if own = 1 then setSync 2 s else s)
  else if own = 0 then s
  else mirStop (setSync 0 s)

/-- R423, R429 on a STANDBY. -/
def hbStandby (hb : Heartbeat) (s : State) : State :=
  let own := s.rd PAIR_STS.SYNC
  let active : Bool := hb.role.val = roleActive
  let s := if active then s.wr PAIR_EPOCH.EPOCH hb.epoch else s
  if hb.yield then takeCondition s
  else if own != 0 then (if !crcSame s || hb.sync.val = 0 then syncLost s else s)
  else if active && crcSame s && s.rd TSU_SERVO_STS.STATE = 2 && asnRuns s then bulkEnter hb.mseq s
  else s

/-- A heartbeat arrives (R419 to R423). One with the SEQ of the last is the copy of the other lane. -/
def execHeartbeatReceived (hb : Heartbeat) (tagOk : Bool) (t : Nat) (s : State) : Result :=
  .next (withTag tagOk (fun s =>
    let copy : Bool := match s.pair.peer with | some p => p.seq = hb.seq | none => false
    if copy then s
    else
      let s := hbSample hb (hbCrc hb (hbHeard hb (s.inc PAIR_HB_RX)))
      if roleOf s = roleActive then hbActive hb s else if roleOf s = roleStandby then hbStandby hb s else s) (s.at t))

/-- R429: a heartbeat period ends without a valid heartbeat; `alive`: PAIR_ALIVE_I showed an edge in it. -/
def execHeartbeatMissCount (alive : Bool) (t : Nat) (s : State) : Result :=
  let s := s.at t
  if roleOf s = roleSolo || !s.reached (s.pair.periodAt + hbNs s) then .next s
  else
    let s := modPair (fun p => { p with missed := p.missed + 1, periodAt := p.periodAt + hbNs s }) ((s.inc PAIR_HB_MISS).put PAIR_STS.ALIVE_IN alive)
    let s := s.when (!alive) (fun s => s.inc PAIR_ALIVE_MISS)
    if s.pair.missed < s.rd PAIR_HB_CFG.HB_MISS then .next s
    else
      let s := syncFault (s.put PAIR_STS.PEER_SEEN false)
      .next
        (if roleOf s != roleStandby then s
        else if alive then (if s.rd PAIR_STS.SYNC = 0 then s else syncLost s)
        else if s.flag PAIR_CFG.AUTO_TAKE then takeCondition s
        else s)

/-- R427: HB_MISS + 2 periods without a valid heartbeat: PEER_SILENT. -/
def execPeerSilentExpiry (t : Nat) (s : State) : Result :=
  let s := s.at t
  if roleOf s = roleSolo || s.flag PAIR_STS.PEER_SILENT || s.pair.missed < s.rd PAIR_HB_CFG.HB_MISS + 2 then .next s
  else
    let s := pairTrace 0x08 (raise Irq.PAIR_PEER_LOST (s.put PAIR_STS.PEER_SILENT true))
    .next (if roleOf s = roleActive then mirStop (setSync 0 (peerFault s)) else s)

/-! Takeover (R429 to R432) -/

/-- This moment is an ASN tick. -/
def onTick (s : State) : Bool := asnRuns s && s.rc = s.mac.tickAt

/-- R431: the takeover tick, the first ASN tick at least 20 µs after the condition. -/
def execTakeover (t : Nat) (s : State) : Result :=
  let s := s.at t
  if s.flag PAIR_STS.TAKE_PEND && roleOf s = roleStandby && onTick s && s.pair.takeAt + 20000 ≤ s.rc then
    .next (takeGo 0x01 (s.inc PAIR_TAKEOVERS))
  else .next s

/-- R432: PAIR_FENCE_I changes; it fences an ACTIVE chip whose pair function is on. -/
def execPairFenceInput (level : Bool) (t : Nat) (s : State) : Result :=
  let s := (s.at t).put PAIR_STS.FENCE_IN level
  .next (if level && roleOf s = roleActive && s.flag PAIR_CFG.EN then fenceGo s else s)

/-- R430: the fabric token over one heartbeat period. -/
def execFabricTokenCheck (advanced : Bool) (t : Nat) (s : State) : Result :=
  let s := s.at t
  if !s.reached (s.pair.tokenAt + hbNs s) then .next s else
  let s := modPair (fun p => { p with tokenAt := s.rc }) s
  if advanced then .next (modPair (fun p => { p with stale := 0 }) s)
  else
    let s := modPair (fun p => { p with stale := p.stale + 1 }) s
    .next (if s.rd PAIR_HB_CFG.FAB_MISS ≤ s.pair.stale then yieldSet s else s)

/-- R430: the alive line toggles every 500 ns outside SOLO while YIELD is clear, and is low at all other times. -/
def execAliveToggle (t : Nat) (s : State) : Result :=
  let s := s.at t
  let turn (p : PairSt) : PairSt := { p with aliveOut := roleOf s != roleSolo && !p.yield && !p.aliveOut, aliveAt := s.rc }
  .next (if s.reached (s.pair.aliveAt + 500) then modPair turn s else s)

/-! Mirroring (R425 to R428) -/

/-- The chip applies mirror records: a synchronised STANDBY, or a new active that waits for MARK (R435). -/
def mirTakes (s : State) : Bool := (roleOf s = roleStandby && s.rd PAIR_STS.SYNC != 0) || s.pair.marking

/-- R425: a mirror record; one out of MSEQ order ends the synchronisation (R423). -/
def execMirRecordReceived (mseq : Nat) (item : MirItem) (tagOk : Bool) (meets : TableMeets) (t : Nat) (s : State) : Result :=
  withMeets meets (fun s => .next (withTag tagOk (fun s =>
    if !mirTakes s then s
    else if mseq = (s.rd PAIR_MIR_SEQ.MSEQ + 1) % 2 ^ 32 then
      markCheck (mirApply (some mseq) item ((s.wr PAIR_MIR_SEQ.MSEQ mseq).inc PAIR_MIR_RX))
    else if roleOf s = roleStandby then syncLost s
    else s) s)) (s.at t)

/-- R419, R425: the standby acknowledges the highest MSEQ applied; a reservation counts as applied once its own journal holds it. -/
def execMackSend (t : Nat) (s : State) : Result :=
  let s := s.at t
  if roleOf s = roleStandby && s.rd PAIR_STS.SYNC != 0 then
    let m := match (s.sec.waiting.filter (fun r => !r.local_)).findSome? (·.mseq) with
      | some m => (m + 2 ^ 32 - 1) % 2 ^ 32
      | none => s.rd PAIR_MIR_SEQ.MSEQ
    .next (linkSent (s.wr PAIR_MIR_ACKED.MSEQ m))
  else .next s

/-- R426, R427: a MACK: the records it covers leave the queue, and reservations that waited for it are done. -/
def execMackReceived (mseq : Nat) (tagOk : Bool) (t : Nat) (s : State) : Result :=
  .next (withTag tagOk (fun s =>
    let s := (s.wr PAIR_MIR_ACKED.MSEQ mseq).inc PAIR_MACK_RX
    let gone := s.pair.queue.filter (fun r => mirCovered s r.mseq)
    let n := gone.foldl (fun a r => a + r.curds.length) 0
    let keep := s.pair.queue.filter (fun r => !mirCovered s r.mseq)
    let s := ((poolGive 3 n s).sub PAIR_MIR_STS.CURDS n).wrFree PAIR_MIR_STS.LAT_US
    resRelease (modPair (fun p => { p with queue := keep }) s)) (s.at t))

/-- R426: each record on the list is sent as it stands. -/
def flushDirty (s : State) : State :=
  let l := s.pair.dirty
  (modPair (fun p => { p with dirty := [] }) s).each l (fun _ => mirSend 1)

/-- R426: the list is flushed, every INTERVAL_US. -/
def execMirFlush (t : Nat) (s : State) : Result :=
  let s := s.at t
  .next (if s.reached (s.pair.flushAt + s.rd PAIR_MIR_CFG.INTERVAL_US * 1000) then flushDirty (modPair (fun p => { p with flushAt := s.rc }) s) else s)

/-- R435: MARK names the last record before the switch. -/
def execMarkReceived (mseq : Nat) (tagOk : Bool) (t : Nat) (s : State) : Result :=
  .next (withTag tagOk (fun s => if s.pair.marking then markCheck (modPair (fun p => { p with mark := some mseq }) s) else s) (s.at t))

/-- R428: a bulk record; the ceiling of a node's record goes into the standby's own journal. -/
def execBulkRecordReceived (item : MirItem) (cursor : Fin 262144) (last tagOk : Bool) (meets : TableMeets) (t : Nat) (s : State) : Result :=
  withMeets meets (fun s => .next (withTag tagOk (fun s =>
    if roleOf s = roleStandby && s.rd PAIR_STS.SYNC = 1 then
      let s := mirApply none item ((s.inc PAIR_BULK_RECORDS).wr PAIR_BULK_STS.CURSOR cursor)
      let s := match item with
        | .node n r _ => mirApply none (.reserve { typ := 1, key := n, gen := r.kgen, ceil := r.txFcCeil }) s
        | _ => s
      bulkDone (if last then modPair (fun p => { p with bulkLast := true }) s else s)
    else s) s)) (s.at t)

/-! Relaying (R436) -/

/-- R436: a relayed frame meets R81's merge test against a detection of this chip's own from the last 2 ms. -/
def relayDup (s : State) (f : RelayFrame) : Bool :=
  let start : Int := (f.ts : Int) - shrNs f.phyc (s.rd (CHZ_PLAN_PHY.PRE_LEN f.plan))
  s.mac.dets.any (fun d => d.plan = f.plan && d.chan = f.chan && d.cls = f.phyc && (d.est - start).natAbs ≤ symsNs f.phyc 2 && s.rc ≤ d.at_ + 2000000)

/-- R436: a frame the standby has relayed. -/
def execRlyRadioReceived (frame : RelayFrame) (tagOk : Bool) (t : Nat) (s : State) : Result :=
  .next (withTag tagOk (fun s =>
    if roleOf s != roleActive then s
    else
      let s := s.inc PAIR_RLY_RADIO_RX
      if relayDup s frame then s.inc PAIR_RLY_DUP
      else
        let shr := shrNs frame.phyc (s.rd (CHZ_PLAN_PHY.PRE_LEN frame.plan))
        let m := nearest ((frame.ts : Int) - shr) (arrivals s frame.fe frame.plan frame.chan)
        let ofs : Int := match m with | some m => (frame.ts : Int) - (m.start + shr) | none => 0
        let case := match m with | some m => if (wardOf s frame.hdr.pan).isNone then .noCell else oogCase s m.tt ofs | none => .noCell
        let f : RxFrame := {
          slice := frame.slice
          phys := 6
          fe := 6
          plan := frame.plan
          chan := frame.chan
          phyc := frame.phyc
          mcs := frame.mcs
          start := (frame.ts : Int) - shr
          endAt := s.rc
          cell := if case = .noCell then none else m
          case := case
          offset := if case = .noCell then 0 else ofs
          rssi := frame.rssi
          lqi := frame.lqi
          len := frame.len
          fcs4 := frame.fcs4
          report := frame.report
          hdr := frame.hdr
          acked := true }
        { s with mac := { s.mac with rx := s.mac.rx ++ [f] } }) (s.at t))

/-- R436: an Ethernet frame over the link: the active takes it in on port PAIR, the standby transmits it on RLY_PORT. -/
def execRlyEthReceived (_port : Fin 2) (frame : EthFrame) (tagOk : Bool) (t : Nat) (s : State) : Result :=
  .next (withTag tagOk (fun s =>
    let s := s.inc PAIR_RLY_ETH_RX
    if roleOf s = roleActive then ethIngress 6 frame s
    else if roleOf s = roleStandby then
      let p := s.rd PAIR_CFG.RLY_PORT
      if egrRoom s p then egrPush p 0 { len := frame.len, origin := 2, cast := ethCast frame.dst, vlan := frame.vlan } s
      else s.inc PAIR_RLY_DROP
    else s) (s.at t))

/-! Lanes, keys, the switch tick -/

/-- R419: lane `lane` comes up or goes down; `errors` invalid headers have been seen since the last report. -/
def execLaneSyncChange (lane : Fin 2) (up : Bool) (errors : Nat) (t : Nat) (s : State) : Result :=
  .next (laneSet lane up ((s.at t).addSat (PAIR_LANE_STS.ERR lane) errors))

/-- R421: a word of PAIR_PEER_PUB (0 to 7) or PAIR_PEER_EUI (8 LO, 9 HI) is written, and PTK derived again; rwl. -/
def execPairPeerKeyWrite (reg : Fin 10) (value : Word) (t : Nat) (s : State) : Result :=
  let s := s.at t
  if s.flag SYS_CFG_LOCK.LOCK then .next s
  else
    let s := match reg.val with
      | 8 => s.wr PAIR_PEER_EUI_LO.EUI value.toNat
      | 9 => s.wr PAIR_PEER_EUI_HI.EUI value.toNat
      | i => s.wr (PAIR_PEER_PUB.K i) value.toNat
    .next (roleHold (ptkDerive s))

/-- R435, R438: the switch tick. The old active mirrors what has changed and sends MARK; frames without a verdict are lost. The new active
waits for the records up to MARK. A fence wins. -/
def execPairSwitchTick (t : Nat) (s : State) : Result :=
  let s := s.at t
  let done (s : State) : State := pairTrace 0x05 (raise Irq.PAIR_SWITCH_DONE (s.inc PAIR_SWITCHES))
  if !onTick s then .next s
  else if roleOf s = roleActive && s.flag PAIR_STS.SW_PEND && !later s.pair.switchAt s.asn then
    if s.flag PAIR_STS.FENCE_IN then .next (fenceGo s)
    else
      let s := linkSent (flushDirty (s.put PAIR_STS.SW_PEND false))
      let s := modPair (fun p => { p with mirror := false }) (modMac (fun m => { m with rx := [] }) s)
      .next (done (queuesRelease (resRelease (setRole 2 s))))
  else if roleOf s = roleStandby && inSync s then
    let s := setRole 1 (s.inc PAIR_EPOCH.EPOCH)
    .next (done (modPair (fun p => { p with mirror := true, marking := true, queue := [], dirty := [] }) s))
  else .next s

/-! Configuration (R422) -/

/-- The registers of R422 in the register map, in offset order: MAC_SLOT_LEN, MAC_WARD_PAN, MAC_TT_*, CHZ_CLASS_CFG, CHZ_PLAN_*,
SEC_RES_CFG, SEC_W_CFG, FWD_W_PFX, FWD_W_CFG, SRC_SF_*. -/
def crcRegs : List Nat :=
  [0x80008, 0x80080, 0x80200, 0x80220, 0x80240, 0x80260, 0x80280, 0x802A0, 0x802C0, 0x802E0, 0x70200, 0x70400, 0x70440, 0x70480, 0x704C0,
   0xD0010, 0xD0200, 0xA0200, 0xA0204, 0xA0208, 0x90100, 0x90200, 0x90300]

/-- The values of the rw and rwl fields of register `r`. -/
def rowValues (s : State) (r : RegRow) : List Nat :=
  (List.range (r.frames * r.count)).flatMap (fun k =>
    (r.fields.filter (fun f => f.acc = .rw || f.acc = .rwl)).map (fun f => s.rd (f.fld (k / r.count) (k % r.count))))

/-- The active bank of hop sequence `h` up to its active length. -/
def hsValues (s : State) (h : Nat) : List Nat :=
  (List.range (s.rd (MAC_HS_LEN.ACTIVE h))).map (fun e => Store.find 0 s.mac.hs ((h * 2 + Store.find 0 s.mac.hsBank h) * 1024 + e))

/-- R422: PAIR_CFG_CRC follows the configuration. -/
def execCfgCrcRecompute (t : Nat) (s : State) : Result :=
  let s := s.at t
  let rows := regMap.filter (fun r => crcRegs.contains r.addr)
  let l := rows.flatMap (rowValues s) ++ (List.range 16).flatMap (hsValues s)
  .next (s.wr PAIR_CFG_CRC.CRC (Config.cfgCrc l))

/-- R440: PAIR_MIR_STS is read; PEAK clears. -/
def execPairMirPeakRead (requester : Requester) (s : State) : Result :=
  let v := s.rd PAIR_MIR_STS.CURDS + s.rd PAIR_MIR_STS.PEAK * 2 ^ 12 + s.rd PAIR_MIR_STS.LAT_US * 2 ^ 24
  .next ((s.answer requester v).wr PAIR_MIR_STS.PEAK 0)

end Sys2Proof.Machine
end

