-- ==== Sys2Proof/Machine/Pcr.lean ====
section
/-!
DEFINITION. Policy cores: run, drain, halt, the watchdog and traps (R373), stores to shared policy memory (R372), mailboxes and software
interrupts (R379), debug halts (R468).
-/

namespace Sys2Proof.Machine

/-- A debugger has halted core `n` (R468). -/
def coreHalted (s : State) (n : Nat) : Bool := Store.find false s.pcr.halted n

/-- An interrupt bit of core `n` sets (PCR_C_IRQ_STS). -/
def coreIrq (n k : Nat) (s : State) : State := s.wr (PCR_C_IRQ_STS.BITS n) (setBit (s.rd (PCR_C_IRQ_STS.BITS n)) k)

/-- R373: PCR_C_CTL.RUN starts a HELD core at ENTRY while PCR_CFG.EN is 1. -/
def execPcrRun (core : Fin 8) (t : Nat) (s : State) : Result :=
  let s := s.at t
  .next (if s.flag PCR_CFG.EN && coreState s core = 2 then coreStart core s else s)

/-- R373: a running core is asked to drain. -/
def drainStart (n : Nat) (s : State) : State :=
  if coreState s n != 3 then s
  else
    let s := modPcr (fun p => { p with drainAt := Store.put 0 p.drainAt n s.rc }) s
    coreIrq n 8 ((coreGo n 4 s).inc PCR_DRAINS)

/-- How long the drain of core `n` has taken, µs (PCR_C_DRAIN_LAST). -/
def drainLast (n : Nat) (s : State) : State :=
  s.wr (PCR_C_DRAIN_LAST.US n) (min ((s.rc - Store.find 0 s.pcr.drainAt n) / 1000) 0xFFFFFFFF)

/-- R373: a drain ends by force. -/
def drainForce (n : Nat) (s : State) : State :=
  let s := (drainLast n (coreGo n 2 s)).put (PCR_C_STS.FORCED n) true
  raiseAt Irq.PCR_DRAIN_FORCED n (s.inc PCR_DRAIN_FORCED)

/-- R373: HALT stops a core. -/
def coreHalt (n : Nat) (s : State) : State :=
  match coreState s n with
  | 3 => (coreGo n 2 s).put (PCR_C_STS.FORCED n) true
  | 4 => drainForce n s
  | 5 => faultEnd (8 + n) ((coreGo n 2 s).put (PCR_C_STS.EXC n) false)
  | _ => s

/-- R373, R468: PCR_C_CTL.DRAIN; during a debug halt it waits for its end. -/
def execPcrDrain (core : Fin 8) (t : Nat) (s : State) : Result :=
  let s := s.at t
  .next (if coreHalted s core then modPcr (fun p => { p with drainDue := Store.put false p.drainDue core true }) s else drainStart core s)

/-- R373, R468: PCR_C_CTL.HALT; during a debug halt it waits for its end. -/
def execPcrHalt (core : Fin 8) (t : Nat) (s : State) : Result :=
  let s := s.at t
  .next (if coreHalted s core then modPcr (fun p => { p with haltDue := Store.put false p.haltDue core true }) s else coreHalt core s)

/-- R373: the core acknowledges its drain. -/
def execPcrDrainAck (core : Fin 8) (t : Nat) (s : State) : Result :=
  let s := s.at t
  let n := core.val
  if coreState s n = 4 then
    .next (raiseAt Irq.PCR_DRAINED n ((drainLast n (coreGo n 2 s)).put (PCR_C_STS.FORCED n) false))
  else .next s

/-- R373: DRAIN_TMO ms have passed in DRAINING. -/
def execDrainTimeout (core : Fin 8) (t : Nat) (s : State) : Result :=
  let s := s.at t
  let n := core.val
  if coreState s n = 4 && Store.find 0 s.pcr.drainAt n + s.rd (PCR_C_DRAIN_TMO.MS n) * 1000000 ≤ s.rc then .next (drainForce n s)
  else .next s

/-- R373: core `n` hangs: MCAUSE and MEPC are recorded, and PCR_HANG lasts while it is HUNG. -/
def coreHang (n mcause mepc : Nat) (s : State) : State :=
  let s := ((coreGo n 5 s).wr (PCR_C_MCAUSE.V n) mcause).wr (PCR_C_MEPC.V n) mepc
  faultBegin (8 + n) { master := 3, detail := n } (raiseAt Irq.PCR_HANG n s)

/-- R373: WDOG_MS have passed without a heartbeat. -/
def execWatchdogExpiry (core : Fin 8) (mcause mepc : Nat) (t : Nat) (s : State) : Result :=
  let s := s.at t
  let n := core.val
  if (coreState s n = 3 || coreState s n = 4) && s.flag (PCR_C_CTL.WDOG_EN n) && !coreHalted s n
      && Store.find 0 s.pcr.beatAt n + s.rd (PCR_C_WDOG_MS.MS n) * 1000000 ≤ s.rc then
    .next (coreHang n mcause mepc (s.inc PCR_WDOG_FIRES))
  else .next s

/-- A write of PCR_C_HEARTBEAT (R373, R379). -/
def execPcrHeartbeatWrite (core : Fin 8) (t : Nat) (s : State) : Result := .next (coreBeat core (s.at t))

/-- R373: a core takes a trap; with mtvec 0 it hangs. -/
def execCoreTrap (core : Fin 8) (mcause mepc : Nat) (mtvec0 : Bool) (t : Nat) (s : State) : Result :=
  let s := s.at t
  let n := core.val
  if mtvec0 && (coreState s n = 3 || coreState s n = 4) then
    let s := raiseAt Irq.PCR_EXC n ((s.inc PCR_EXCEPTIONS).put (PCR_C_STS.EXC n) true)
    .next (coreHang n mcause mepc s)
  else .next s

/-- R372: a core stores `octets` at offset `ofs` of shared policy memory. -/
def execPolicyStore (core : Fin 8) (ofs : Nat) (octets : List Nat) (t : Nat) (s : State) : Result :=
  let s := s.at t
  let n := core.val
  let l := (List.range octets.length).map (fun k => (ofs + k) % 0x400000)
  if l.any (storeRefused s n) then
    let s := ((s.inc PCR_REGION_FAULTS).wr PCR_FAULT_ADDR.OFS ofs).wr PCR_FAULT_ADDR.CORE n
    .next (raiseAt Irq.PCR_REGION n s)
  else
    .next (modPcr (fun p => { p with mem := Memory.writes p.mem (l.zip (octets.map (BitVec.ofNat 8))) }) s)

/-- PCR_IPI is written: a software interrupt to each core named (R379). -/
def execPcrIpiWrite (mask : Nat) (t : Nat) (s : State) : Result :=
  .next ((s.at t).each (bitList 8 mask) (fun n s => (coreIrq n 10 s).inc PCR_IPI_SENT))

/-- PCR_C_MBOX_IN[k] is written (R379). -/
def execMboxInWrite (core word : Fin 8) (value : Word) (t : Nat) (s : State) : Result :=
  .next (coreIrq core word ((s.at t).wr (PCR_C_MBOX_IN.V core word) value.toNat))

/-- PCR_C_MBOX_OUT[k] is written: by a core, MBOX_OUT is raised and the message counts (R379). -/
def execMboxOutWrite (core word : Fin 8) (value : Word) (requester : Requester) (t : Nat) (s : State) : Result :=
  let s := (s.at t).wr (PCR_C_MBOX_OUT.V core word) value.toNat
  if 1 ≤ requester.val && requester.val ≤ 8 then .next (raiseAt Irq.PCR_MBOX_OUT core (s.inc PCR_MBOX_MSGS)) else .next s

/-- PCR_C_INSTRET_LO is read: the instructions retired, a free value; the read latches the high word (R379). -/
def execPcrInstretLoRead (core : Fin 8) (requester : Requester) (s : State) : Result :=
  let s := s.wrFree (PCR_C_INSTRET_LO.V core)
  let s := s.wrFree (PCR_C_INSTRET_HI.V core)
  .next (s.answer requester (s.rd (PCR_C_INSTRET_LO.V core)))

/-! Debug -/

/-- R370: policy cores may be debugged in this life cycle. -/
def debugOk (s : State) : Bool := lcOf s = 1 || lcOf s = 2 || lcOf s = 8

/-- R468: dmcontrol halts a running core: its state stays, and its watchdog is suspended. -/
def execDebugHalt (core : Fin 8) (t : Nat) (s : State) : Result :=
  let s := s.at t
  if debugOk s && (coreState s core = 3 || coreState s core = 4) then
    .next (modPcr (fun p => { p with halted := Store.put false p.halted core true }) s)
  else .next s

/-- R468: a halted core resumes: its watchdog starts again, and a HALT or DRAIN of the meantime takes effect. -/
def execDebugResume (core : Fin 8) (t : Nat) (s : State) : Result :=
  let s := s.at t
  let n := core.val
  if !debugOk s || !coreHalted s n then .next s
  else
    let halt := Store.find false s.pcr.haltDue n
    let drain := Store.find false s.pcr.drainDue n
    let s := coreBeat n (modPcr (fun p => { p with
      halted := Store.put false p.halted n false
      haltDue := Store.put false p.haltDue n false
      drainDue := Store.put false p.drainDue n false }) s)
    let s := s.when drain (drainStart n)
    .next (s.when halt (coreHalt n))

end Sys2Proof.Machine
end

