-- ==== Sys2Proof/Machine/Ports.lean ====
section
/-!
DEFINITION. Commands of the ports: backhaul frames and links (R467), boundary scan (R457, R458), PCIe training (R352).
-/

namespace Sys2Proof.Machine

/-! Backhaul -/

/-- ETH_P_MAC of port `p`. -/
def portMac (s : State) (p : Nat) : Nat := s.rd (ETH_P_MAC_LO.MAC p) + 2 ^ 32 * s.rd (ETH_P_MAC_HI.MAC p)

/-- The PTP destination addresses of R253, those of IPv4 and IPv6 multicast in their Ethernet form. -/
def ptpMacs : List Nat := [0x011B19000000, 0x0180C200000E, 0x01005E000181, 0x333300000181]

/-- R467: port `p` accepts destination `dst`. -/
def ethAccepts (s : State) (p dst : Nat) : Bool :=
  dst = portMac s p || dst = 0xFFFFFFFFFFFF || ptpMacs.contains dst || s.flag (ETH_P_CFG.PROMISC p)
    || (List.range 16).any (fun i => s.flag (ETH_P_FILT_HI.EN p i) && s.rd (ETH_P_FILT_LO.MAC p i) + 2 ^ 32 * s.rd (ETH_P_FILT_HI.MAC p i) = dst)

/-- The receive counters of an undamaged frame of a legal length. -/
def ethRxCount (p : Nat) (f : EthFrame) (s : State) : State :=
  let oct := (portOf s p).rxOctets + f.len
  let s := modPort p (fun x => { x with rxOctets := oct % 1024 }) ((s.inc (ETH_P_RX_FRAMES p)).add (ETH_P_RX_OCTETS_K p) (oct / 1024))
  let s := if ethCast f.dst = 0 then s.inc (ETH_P_RX_UCAST p) else if ethCast f.dst = 1 then s.inc (ETH_P_RX_MCAST p)
    else s.inc (ETH_P_RX_BCAST p)
  (s.when f.vlan.isSome (fun s => s.inc (ETH_P_RX_VLAN p))).when f.ptp (fun s => s.inc (ETH_P_RX_PTP p))

/-- A PAUSE frame of `q` quanta of 512 bit times holds the port when PAUSE_RX is set. -/
def ethPause (p q : Nat) (s : State) : State :=
  let s := s.inc (ETH_P_RX_PAUSE p)
  if s.flag (ETH_P_CFG.PAUSE_RX p) then modPort p (fun x => { x with pauseEnd := s.rc + ceilDiv (q * 512 * bitTime s p) 10 }) s else s

/-- R424, R436: what each role does with an accepted frame. A PTP message stays local and is handled by its own command. -/
def ethRole (p : Nat) (f : EthFrame) (s : State) : State :=
  if roleOf s = roleFenced then s
  else if roleOf s = roleStandby then
    if s.flag PAIR_CFG.RELAY_ETH && !f.ptp then relay PAIR_RLY_ETH_TX true s else s
  else ethIngress (4 + p) f s

/-- R467: a frame is received. `room` is false when the ingress FIFO is full (R23). -/
def execEthFrameReceived (port : Fin 2) (frame : EthFrame) (room : Bool) (t : Nat) (s : State) : Result :=
  let s := s.at t
  let p := port.val
  .next
    (if !s.flag (ETH_P_CFG.EN p) || !s.flag (ETH_P_STS.LINK p) then s
    else if frame.damage = 1 then s.inc (ETH_P_RX_FCS_ERR p)
    else if frame.damage = 2 then s.inc (ETH_P_RX_CODE_ERR p)
    else if frame.damage = 3 then s.inc (ETH_P_RX_PCS_ERR p)
    else if frame.len < 64 then s.inc (ETH_P_RX_RUNT p)
    else if s.rd (ETH_P_MAXLEN.LEN p) < frame.len then s.inc (ETH_P_RX_LONG p)
    else
      let s := ethRxCount p frame s
      match frame.pause with
      | some q => ethPause p q s
      | none =>
        if !ethAccepts s p frame.dst then s.inc (ETH_P_RX_FILTERED p)
        else if !room then faultEvent (96 + p) {} (s.inc (ETH_P_RX_OVF p))
        else ethRole p frame s)

/-- R467: the link of a port goes up at a speed, or down. -/
def execEthLinkChange (port : Fin 2) (up : Bool) (speed : Fin 4) (t : Nat) (s : State) : Result :=
  let s := s.at t
  let p := port.val
  if up then
    if !s.flag (ETH_P_CFG.EN p) then .next s
    else
      let s := tsOkView ((s.put (ETH_P_STS.LINK p) true).wr (ETH_P_STS.SPEED p) speed)
      .next (s.put (ETH_P_STS.AN_DONE p) (2 ≤ s.rd (ETH_P_CFG.MODE p) && s.flag (ETH_P_CFG.AN_EN p)))
  else .next (ethDown p (s.when (s.flag (ETH_P_STS.LINK p)) (fun s => s.inc (ETH_P_RX_LINK_DOWN p))))

/-! Boundary scan -/

/-- R370: boundary scan is allowed. -/
def scanOk (s : State) : Bool := lcOf s != 4 || s.fuse.bscan

/-- R458: EXTEST, CLAMP or HIGHZ becomes the instruction: the core domain is held in reset, with every front end OFF. What the fuses and
the life cycle show stays. -/
def scanHold (k : Nat) (s : State) : State :=
  if !scanOk s || !powered s then s
  else
    let s := fuseSense (modBoot (fun b => { b with scanHeld := true }) (coreClear false (sleepAbandon s)))
    latchView ((s.wr DBG_TAP_STS.IR (Config.tapCode k)).put DBG_TAP_STS.CORE_HELD true)

/-- R457: BYPASS, whose code IEEE 1149.1 fixes as all ones. -/
def execJtagBypass (s : State) : Result := .next (if powered s then s.wr DBG_TAP_STS.IR 0xFF else s)

/-- R457: IDCODE. -/
def execJtagIdcode (s : State) : Result :=
  .next (if powered s then (s.wr DBG_TAP_STS.IR (Config.tapCode 4)).answer 9 0x12640BA3 else s)

/-- R457, R468: SAMPLE/PRELOAD captures the boundary register, `bits` in words of 32, while boundary scan is allowed. -/
def execJtagSamplePreload (bits : List Word) (s : State) : Result :=
  if !scanOk s || !powered s then .next s
  else
    let s := s.wr DBG_TAP_STS.IR (Config.tapCode 0)
    .next (s.each (List.range 32) (fun i s => s.wr (DBG_BSR.BITS i) (bits.getD i 0).toNat))

/-- R458: EXTEST. -/
def execJtagExtest (s : State) : Result := .next (scanHold 1 s)

/-- R458: CLAMP. -/
def execJtagClamp (s : State) : Result := .next (scanHold 2 s)

/-- R458: HIGHZ. -/
def execJtagHighz (s : State) : Result := .next (scanHold 3 s)

/-! PCIe -/

/-- R268: an entry of the properties of the PCIe function. -/
structure PcieFn where
  vendor : Nat := 0x1F8E
  device : Nat := 0x2640
  revision : Nat := 1
  cls : Nat := 0x028000
  /-- Subsystem Vendor ID and Subsystem ID. -/
  subVendor : Nat := 0
  subsystem : Nat := 0
  /-- Octets of BAR0 and BAR2, both 64-bit and non-prefetchable; in BAR2 the MSI-X table and the pending-bit array, and the vectors. -/
  bar0 : Nat := 0x200000
  bar2 : Nat := 0x10000
  msixTable : Nat := 0xE000
  msixPba : Nat := 0xF000
  vectors : Nat := 64
  /-- Device Serial Number; ASPM L1; the largest payload and read request, octets; reads outstanding. -/
  serial : Nat := 0
  aspmL1 : Bool := true
  payload : Nat := 512
  readRequest : Nat := 4096
  reads : Nat := 64
deriving DecidableEq, Repr

/-- R268: the function as its configuration space shows it. -/
def pcieFn (s : State) : PcieFn :=
  { subVendor := s.rd HIF_SUBSYS.SSVID
    subsystem := s.rd HIF_SUBSYS.SSID
    serial := s.rd MAC_EUI_LO.EUI + 2 ^ 32 * s.rd MAC_EUI_HI.EUI
    aspmL1 := s.flag HIF_PCIE_CFG.L1_EN }

/-- R268: the widths that a link trains at. -/
def linkWidth (w : Nat) : Nat := if 4 ≤ w then 4 else if 2 ≤ w then 2 else 1

/-- R268, R352, R354: PCIe training completes with the link's generation, MAX_GEN at most, and width; the PCIE island takes its reference. In
standalone use PCIe is not trained. -/
def execPcieLinkUp (gen width : Nat) (t : Nat) (s : State) : Result :=
  let s := s.at t
  if s.flag HIF_CFG.STANDALONE then .next s
  else
    let s := ((s.put HIF_STS.LINK_UP true).wr HIF_STS.GEN (clampN 1 (s.rd HIF_PCIE_CFG.MAX_GEN) gen)).wr HIF_STS.WIDTH (linkWidth width)
    .next (islandToRef 0 3 (refShow 2 true true s))

end Sys2Proof.Machine
end

