-- ==== Sys2Proof/Machine/Registers.lean ====
section
/-!
DEFINITION. Register writes and reads in general (R12 to R15, R215, R269, R341, R356, R366, R464 to R466). A field with a command of its
own is left to that command.
-/

namespace Sys2Proof.Machine

/-! Finding a register -/

/-- The frame and element of row `r` at byte address `a`. -/
def rowIndex (r : RegRow) (a : Nat) : Option (Nat × Nat) :=
  if a < r.addr then none
  else
    let d := a - r.addr
    let n := if r.frames ≤ 1 then 0 else min (d / r.stride) (r.frames - 1)
    let e := d - n * r.stride
    if e % r.step = 0 && e / r.step < r.count then some (n, e / r.step) else none

/-- The register at byte address `a` of BAR0: its row, frame and element. -/
def regAt (a : Nat) : Option (RegRow × Nat × Nat) := regMap.findSome? (fun r => (rowIndex r a).map (fun x => (r, x.1, x.2)))

/-! Who may access -/

/-- KEY_STS, KEY_TAMPER_STS and KEY_TLOG (R341, R356). -/
def keyEvidence (a : Nat) : Bool := a = 0xE0004 || a = 0xE0014 || (0xE0180 ≤ a && a < 0xE0200)

/-- What BAR0 answers before BOOT_DONE, in HOLD, WAIT_HOST, BOOT_FAIL and SCRAP (R341, R356, R366); the policy cores and JTAG have their
own way in. -/
def mayAccess (s : State) (q : Requester) (a : Nat) (write : Bool) : Bool :=
  powered s && a % 4 = 0
    && (q.val != 0
      || (let st := s.rd SYS_BOOT_STS.STAGE
          if lcOf s = 0x10 then !write && (a = 0 || a = 0x40)
          else if st = 8 then true
          else if st = 9 then !write && (a < 0x10000 || keyEvidence a)
          else if st = 10 || st = 11 then a < 0x10000 || (!write && keyEvidence a)
          else false))

/-- R101, R370, R468: debug and microcode registers that this life-cycle state does not open. -/
def shut (s : State) (a : Nat) : Bool :=
  (!debugOk s && 0x130400 ≤ a && a < 0x130D00)
    || ((lcOf s = 4 && !s.fuse.bscan) && 0x130D00 ≤ a && a < 0x130D80)

/-- R101: the inactive microcode bank is written in BLANK and PROVISION only. -/
def ucShut (s : State) (a : Nat) : Bool := 2 < lcOf s && (a = 0x90064 || (a % 0x80 = 0xC && 0x80800 ≤ a && a < 0x80A00))

/-! Plain fields -/

/-- The value that a write of `v` gives a field of `w` bits (R14). -/
def clamped (c : Clamp) (w v : Nat) : Nat :=
  match c with
  | .range lo hi => clampN lo hi v
  | .signed lo hi => unsg w (clampI lo hi (sgn w v))
  | _ => v

/-- A written word `v` in one field (R12): w1c clears, rw and rwl take the clamped value; the rest is not written here. -/
def fieldWrite (n i v : Nat) (f : RegField) (s : State) : State :=
  let g := f.fld n i
  let b := bitsOf v f.lo g.width
  if f.own then s
  else
    match f.acc, f.clamp with
    | .rw, .special | .rwl, .special => s
    | .rw, c => s.wr g (clamped c g.width b)
    | .rwl, c => if s.flag SYS_CFG_LOCK.LOCK then s else s.wr g (clamped c g.width b)
    | .w1c, _ => s.wr g (s.rd g - (s.rd g &&& b))
    | .wo, _ => s.wr g b
    | .ro, _ | .rc, _ => s

/-! Fields whose table gives a rule of its own; `s0` is the state before the write. -/

/-- R66, R91: the radio front ends and the channelizer. -/
def radioSpecial (a n i v : Nat) (s0 s : State) : State :=
  match a with
  | 0x60000 => if n < 2 then s.wr (RFE_CTL.COVER_EN n) (v / 4) else s
  | 0x60038 => blankWrite n v s
  | 0x6004C =>
    if s0.flag (RFE_CTL.EN n) then s
    else
      let s := ((s.wr (RFE_PIN_OVR.OVR_EN n) v).wr (RFE_PIN_OVR.PA_EN n) (v / 2)).wr (RFE_PIN_OVR.LNA_EN n) (v / 4)
      (s.wr (RFE_PIN_OVR.TR n) (v / 8)).wr (RFE_PIN_OVR.ANT n) (v / 16)
  | 0x600A0 => s.wr (RFE_DC_CFG.ACK_RES n i) (min (bitsOf v 20 8) (s.rd (RFE_DC_CFG.LIMIT n i) - 1))
  | 0x70000 | 0x70004 => replan s
  | 0x70020 =>
    let fe := s.rd CHZ_SPEC_CTL.FE
    let s := s.wr CHZ_SPEC_CTL.START (min (bitsOf v 4 9) (if fe = 2 then 83 else if fe = 3 then 199 else 399))
    if s.flag CHZ_SPEC_CTL.RUN then (if s0.flag CHZ_SPEC_CTL.RUN then s else { s with specAt := s.rc }) else s.each (List.range 128) (fun i s => s.wrS (CHZ_SPEC.PWR i) (-128))
  | 0x70200 =>
    if i ≤ 5 then (s.wr (CHZ_CLASS_CFG.DET_SYM i) (clampN 16 63 (bitsOf v 0 6))).wr (CHZ_CLASS_CFG.PRE_MAX i) (clampN 4 255 (bitsOf v 16 8)) else s
  | _ => s

/-- R121, R150, R180, R181: MAC, Serac and security. DESIGN CHOICE (log entry 29): a write of SRC_ENV_ADD that lowers UTIL_ADD lowers the
stored UTIL_DEL to its limit of UTIL_ADD − 1 too. -/
def macSpecial (a n i v : Nat) (s0 s : State) : State :=
  match a with
  | 0x80020 =>
    let strict := (List.range 8).any (fun w => s0.flag (SEC_W_CFG.STRICT w) || s0.flag (SEC_W_CFG.STRICT_ACTIVE w))
    if v % 2 ^ 24 = 0 && strict then s else s.wr MAC_TCX_OUI.OUI v
  | 0x8002C => s.wr MAC_RETRY_CFG.MAX_BE (clampN (s.rd MAC_RETRY_CFG.MIN_BE) 7 (bitsOf v 8 4))
  | 0x80800 => laneView n s
  | 0x90000 => s.put SRC_STS.RUN (s.flag SRC_CFG.EN)
  | 0x90200 =>
    if s0.flag (SRC_SF_CFG.EN i) || s0.flag (SRC_SF_CFG.ON i) then s
    else (s.wr (SRC_SF_GEOM.LEN i) (max 1 (bitsOf v 0 16))).wr (SRC_SF_GEOM.WIDTH i) (clampN 1 64 (bitsOf v 16 7))
  | 0x90300 =>
    if s0.flag (SRC_SF_CFG.EN i) || s0.flag (SRC_SF_CFG.ON i) then s else s.wr (SRC_SF_BASE.BASE i) (min 0xFFFFE (bitsOf v 0 20))
  | 0x90100 => cellsView s
  | 0x90404 => budgetView n s
  | 0x9040C => rateView n s0 s
  | 0x90428 => s.wr (SRC_ENV_DEL.UTIL_DEL n) (min (s.rd (SRC_ENV_DEL.UTIL_DEL n)) (s.rd (SRC_ENV_ADD.UTIL_ADD n) - 1))
  | 0x90408 =>
    let s := s.wr (SRC_ENV_NODE.MAX_TX n) (max (bitsOf v 8 8) (s.rd (SRC_ENV_NODE.MIN_TX n)))
    s.wr (SRC_ENV_NODE.MAX_RX n) (max (bitsOf v 24 8) (s.rd (SRC_ENV_NODE.MIN_RX n)))
  | 0x90410 => s.wr (SRC_ENV_COFS.HI n i) (max (bitsOf v 16 10) (s.rd (SRC_ENV_COFS.LO n i)))
  | 0x9042C => s.wr (SRC_ENV_DEL.UTIL_DEL n) (min (bitsOf v 0 8) (s.rd (SRC_ENV_ADD.UTIL_ADD n) - 1))
  | 0xD0014 =>
    if s0.rd SEC_JNL_STS.STATE != 0 then s
    else
      let s := (s.wr SEC_JNL_CFG.SIZE_LOG2 (min 6 (bitsOf v 0 3))).wr SEC_JNL_CFG.RING (bitsOf v 4 2)
      (s.wr SEC_JNL_CFG.SCK (min 2 (bitsOf v 8 2))).wr SEC_JNL_CFG.DOMAIN (bitsOf v 16 12)
  | 0xD0200 =>
    let l := bitsOf v 0 3
    let s := (s.wr (SEC_W_CFG.TX_LEVEL n) (if l = 0 then 1 else if l = 4 then 5 else l)).wr (SEC_W_CFG.ACCEPT_MASK n) (bitsOf v 8 8 &&& 0xEE)
    s.put (SEC_W_CFG.STRICT n) (v.testBit 16 && s.rd MAC_TCX_OUI.OUI != 0)
  | _ => s

/-- The highest MAX_WAIT, ms: the horizon of 4,096 buckets less one (R226, R227). -/
def maxWaitTop (s : State) : Nat := 4095 * 4 ^ s.rd SHP_CAL_CFG.RES

/-- R207, R242, R243: forwarding, queues and shaping. -/
def queueSpecial (a n i v : Nat) (s0 s : State) : State :=
  match a with
  | 0xA0010 => if s0.flag FWD_CFG.EN then s else s.wr FWD_HASH_CUR.SEED v
  | 0xA0014 => if s0.rd FWD_STS.RESHARD != 0 then s else s.wr FWD_HASH_NEXT.SEED v
  | 0xA0180 => if i = 0 then s else s.wr (FWD_CTX_LO.PFX i) v
  | 0xA01C0 => if i = 0 then s else s.wr (FWD_CTX_HI.PFX i) v
  | 0xB0000 =>
    let s := s.put QMS_STS.RUN (s.flag QMS_CFG.EN)
    if s0.flag QMS_CFG.EN && !s.flag QMS_CFG.EN then regionsLeave s0 s else s
  | 0xC0000 => s.put SHP_STS.RUN (s.flag SHP_CFG.EN)
  | 0xB0040 =>
    let others := ((List.range 4).filter (· != i)).foldl (fun x u => x + s.rd (QMS_POOL_CFG.GUAR u)) 0
    let g := min (bitsOf v 0 16) (32768 - others)
    (s.wr (QMS_POOL_CFG.GUAR i) g).wr (QMS_POOL_CFG.MAX i) (clampN g 32768 (bitsOf v 16 16))
  | 0xB0080 => s.wr (QMS_W_LIM_UP.YEL_MAX i) (min (bitsOf v 16 16) (s.rd (QMS_W_LIM_UP.CQ_MAX i)))
  | 0xC0010 =>
    let s := if s0.qms.cal.isEmpty then s.wr SHP_CAL_CFG.RES (bitsOf v 1 2) else s
    s.wr SHP_CAL_CFG.MAX_WAIT (clampN 1 (maxWaitTop s) (bitsOf v 14 18))
  | 0xC0500 => gateView n s
  | _ => s

/-- START of the pulse unit's period and width (R264, R267). -/
def pulseSpecial (a n v : Nat) (s0 s : State) : State :=
  if s0.flag (TSU_PO_CTL.ARM n) then s
  else
    match a with
    | 0x40208 => s.wr (TSU_PO_START_NS.NS n) (min 999999999 (bitsOf v 0 30))
    | 0x4020C => s.wr (TSU_PO_START_SL.S n) v
    | 0x40210 => s.wr (TSU_PO_START_SH.S n) v
    | 0x40214 => s.wr (TSU_PO_PERIOD.NS n) (max 100 v)
    | _ => s.wr (TSU_PO_WIDTH.NS n) (if s.flag (TSU_PO_CTL.PERIODIC n) then clampN 8 (s.rd (TSU_PO_PERIOD.NS n) - 8) v else max 8 v)

/-- R244, R249, R253, R258, R262 to R267: the timebase. -/
def tsuSpecial (a n v : Nat) (s0 s : State) : State :=
  match a with
  | 0x40008 => if (List.range 4).any (fun k => s.flag (TSU_CI_CTL.EN k) && s.rd (TSU_CI_STS.LEVEL k) != 0) then s.put TSU_INT_STS.CI_DATA true else s
  | 0x40034 => if s0.flag TSU_SERVO_CFG.EN then s else s.wrS TSU_FREQ.FREQ (clampI (-3435974) 3435974 (sgn 32 v))
  | 0x40060 => if asnRuns s0 then s else s.wr TSU_ASN_T0_NS.NS (min 999999999 (bitsOf v 0 30))
  | 0x40064 => if asnRuns s0 then s else s.wr TSU_ASN_T0_SL.S v
  | 0x40068 => if asnRuns s0 then s else s.wr TSU_ASN_T0_SH.S v
  | 0x4006C => if asnRuns s0 then s else s.wr TSU_ASN_BASE_LO.ASN v
  | 0x40070 => if asnRuns s0 then s else s.wr TSU_ASN_BASE_HI.ASN v
  | 0x400A4 =>
    -- in HOLDOVER after PATH_STEP the written value waits for the command ASYM (R258)
    if s.rd TSU_SERVO_STS.STATE = 3 && s.rd TSU_SERVO_STS.CAUSE = 0 then s else { s with tsu := { s.tsu with asym := s.rdS TSU_SERVO_ASYM.NS } }
  | 0x40100 =>
    let r := bitsOf v 1 2
    let r := if r = 3 && s.flag TSU_CFG.TC_EN then 1 else r
    let s := if s.rd (TSU_P_CFG.ROLE n) = r then s else { s with tsu := { s.tsu with ports := Store.put {} s.tsu.ports n {} } }
    s.wr (TSU_P_CFG.ROLE n) r
  | 0x40208 | 0x4020C | 0x40210 | 0x40214 | 0x40218 => pulseSpecial a n v s0 s
  | 0x40300 =>
    let e := bitsOf v 1 2
    s.wr (TSU_CI_CTL.EDGE n) (if 2 ≤ n then 0 else min 2 e)
  | _ => s

/-- R273, R299, R301: the host interface. -/
def hifSpecial (a n v : Nat) (s0 s : State) : State :=
  match a with
  | 0x30000 =>
    let s := if (List.range 76).any (fun r => s0.flag (HIF_R_CFG.EN r)) then s else s.wr HIF_CFG.STANDALONE (v / 2)
    if !s0.flag HIF_CFG.EN && s.flag HIF_CFG.EN then eventsFlow s else s
  | 0x30400 => if s0.flag (HIF_R_CFG.EN n) then s else s.wr (HIF_R_BASE_LO.ADDR n) (v - v % 4096)
  | 0x30404 => if s0.flag (HIF_R_CFG.EN n) then s else s.wr (HIF_R_BASE_HI.ADDR n) v
  | 0x30408 =>
    let s := if 32 ≤ n && n < 64 then s.wr (HIF_R_CFG.LIMIT n) (max 1 (bitsOf v 20 12)) else s
    if s0.flag (HIF_R_CFG.EN n) then s else (s.wr (HIF_R_CFG.SIZE_LOG2 n) (clampN 6 16 (bitsOf v 1 5))).wr (HIF_R_CFG.LOC n) (v / 64)
  | _ => s

/-- R337, R338, R347, R369, R378, R379, R402, R403, R406, R440, R467: the Cave, SYS, the policy cores, the Cellar, clocks, faults, the pair and
the ports. -/
def sysSpecial (a n i v : Nat) (s0 s : State) : State :=
  match a with
  | 0xE0000 =>
    if s0.flag SYS_CFG_LOCK.LOCK || (!v.testBit 0 && lcOf s0 != 2) then s else s.wr KEY_CFG.BRINE_EN v
  | 0xE0020 =>
    let w := v % 256 ||| 0xF1
    s.wr KEY_RIND_EN.EN (if s0.flag SYS_CFG_LOCK.LOCK || lcOf s0 = 4 then s.rd KEY_RIND_EN.EN ||| w else w)
  | 0xE0024 =>
    let s := s.wr KEY_RIND_CLASS.SOFT (s.rd KEY_RIND_CLASS.SOFT ||| bitsOf v 8 8)
    s.wr KEY_RIND_CLASS.EFF (classA s)
  | 0xC0 => if lcOf s = 2 && !s.fuse.ownerDone then s.wr (SYS_OWNER_KEY.K i) v else s
  | 0x100040 => s.wr (PCR_REGION_BASE.BASE i) (bitsOf v 12 10)
  | 0x100060 => s.wr (PCR_REGION_LIM.LIM i) (max (bitsOf v 12 10) (s.rd (PCR_REGION_BASE.BASE i)))
  | 0x10041C => s.wr (PCR_C_IRQ_EN.BITS n) (bitsOf v 0 11 ||| 0x100)
  | 0xF003C => pinView s
  | 0xF00A4 => s.wr CEL_WATCH_ANA.HI (max (bitsOf v 8 8) (s.rd CEL_WATCH_ANA.LO))
  | 0x10100 => if 2 < lcOf s0 then s.put (CLK_ISL_CTL.HOLD_RC n) (s0.flag (CLK_ISL_CTL.HOLD_RC n)) else s
  | 0x20400 =>
    if s0.flag SYS_CFG_LOCK.LOCK || !FaultSrc.named i || FaultSrc.cls i = 2 then s
    else s.wr (FLT_SRC_CFG.REACT i) (if FaultSrc.allows i (v % 4) then v % 4 else FaultSrc.defaultReact i)
  | 0x110000 => if !v.testBit 0 && roleOf s != roleSolo then s else linkFaults (s.wr PAIR_CFG.EN v)
  | 0x110014 => hbClamp s
  | 0x50000 =>
    if s0.flag (ETH_P_CFG.EN n) then s
    else
      let s := s.wr (ETH_P_CFG.MODE n) (bitsOf v 1 2)
      if s.flag (CLK_ISL_STS.ON_REF 2) then islandKhz 2 s else s
  | _ => s

/-- R141, R167, R232, R372: the owners of reserved policy memory follow the enables. -/
def ownersView (s : State) : State := s.wr PCR_RESV_STS.OWNERS (resvOwners s)

/-- R385: the register at `a` is held in the Cellar: its block, and KEY_RIND_CFG, KEY_RIND_EN and KEY_RIND_CLASS (R347). -/
def cellarHeld (a : Nat) : Bool := (0xF0000 ≤ a && a < 0x100000) || (0xE001C ≤ a && a < 0xE0028)

/-- A write of `v` to element `i` of frame `n` of row `r`. DESIGN CHOICE (log entry 29): one to a Cellar register takes effect at once, and shows
in WR_PEND until the next tick (R385). -/
def rowWrite (r : RegRow) (n i v : Nat) (s0 : State) : State :=
  let s := s0.each r.fields (fieldWrite n i v)
  let a := r.addr
  let s := queueSpecial a n i v s0 (macSpecial a n i v s0 (radioSpecial a n i v s0 s))
  let s := sysSpecial a n i v s0 (hifSpecial a n v s0 (tsuSpecial a n v s0 s))
  let s := if cellarHeld a then s.put CEL_STS.WR_PEND true else s
  if a = 0x90000 || a = 0xD0000 || a = 0xB0000 || a = 0xC0010 then ownersView s else s

/-- R269: an access to BAR0 that is not one aligned DWORD completes with Unsupported Request. The policy cores and JTAG have their own way
in. -/
def unsupported (q : Requester) (addr size : Nat) : Bool := q.val = 0 && (size != 4 || addr % 4 != 0)

/-- How the last BAR0 access of requester `q` completed (R269). -/
def urPut (q : Requester) (b : Bool) (s : State) : State := { s with hif := { s.hif with ur := Store.put false s.hif.ur q b } }

/-- REGISTER_WRITE: a write to fields that have no row of their own (R12 to R14). Unassigned offsets ignore it (R465); one of another size or
alignment is an Unsupported Request (R269). -/
def execRegisterWrite (addr size : Nat) (value : Word) (requester : Requester) (t : Nat) (s : State) : Result :=
  let s := urPut requester (unsupported requester addr size) (s.air t)
  if unsupported requester addr size || !mayAccess s requester addr true || shut s addr || ucShut s addr then .next s
  else
    match regAt addr with
    | none => .next s
    | some (r, n, i) => .next (rowWrite r n i value.toNat s)

/-- SYS_CFG_LOCK is written: 1 locks until the next cold reset; 0 does nothing (R12). -/
def execSysCfgLockWrite (value : Word) (t : Nat) (s : State) : Result :=
  let s := s.at t
  .next (if value.toNat.testBit 0 then s.put SYS_CFG_LOCK.LOCK true else s)

/-! Reads -/

/-- What a register of row `r` shows: its fields in their places; wo reads 0. -/
def rowRead (s : State) (r : RegRow) (n i : Nat) : Nat :=
  r.fields.foldl (fun x f => if f.acc = .wo then x else x + s.rd (f.fld n i) * 2 ^ f.lo) 0

/-- TSU_P_STS of port `p`: PAR_SEEN says that the parent's Sync has been seen within LOSS_S (R267). -/
def ptpSts (s : State) (p : Nat) : Nat :=
  let late : Bool := s.tsu.rcOn && (ptpOf s p).parAt + s.rd TSU_SERVO_HOLD_CFG.LOSS_S * 1000000000 < s.rc
  s.rd (TSU_P_STS.TS_OK p) + 2 * ofBool (s.flag (TSU_P_STS.PAR_SEEN p) && !late)

/-- Values that are not kept in a field: running time, a requester's latches (R94, R246), FREE records (R121), the remainder of a slew
(R260), the time to expiry of the escalation timer (R410, DESIGN CHOICE, log entry 29: counted by RC). -/
def liveRead (s : State) (q : Requester) (a : Nat) : Option Nat :=
  let latch (k : Nat) : Nat := Store.find 0 s.latch (q.val * 16 + k)
  match a with
  | 0x80010 => some (latch 0)
  | 0x80050 => some (262144 - (s.nodes.filter (fun p => p.2.state != .free)).length)
  | 0x40010 => some s.rc32
  | 0x40018 => some (latch 1)
  | 0x40014 => some (latch 2)
  | 0x4001C => some (latch 3)
  | 0x40020 => some (latch 4)
  | 0x40024 => some (latch 5)
  | 0x40028 => some s.tsuFrac
  | 0x4002C => some (latch 6)
  | 0x40030 => some (latch 7)
  | 0x20014 => some (if s.flag FLT_STS.ESC_RUN && s.tsu.rcOn then s.rd FLT_ESC_CFG.MS - (s.rc - s.flt.escAt) / 1000000 else s.rd FLT_ESC_STS.LEFT)
  | 0x40104 => some (ptpSts s 0)
  | 0x40184 => some (ptpSts s 1)
  | 0x40050 => some (match s.tsu.slew with | some _ => unsg 32 (slewLeft s) | none => s.rd TSU_SLEW_NS.NS)
  | _ =>
    -- SRC_ENV_RATE shows the tokens of this moment (R133)
    if 0x90400 ≤ a && a < 0x90600 && a % 0x40 = 0xC then
      let w := (a - 0x90400) / 0x40
      some (s.rd (SRC_ENV_RATE.CHG_PER_S w) + s.rd (SRC_ENV_RATE.BURST w) * 2 ^ 16 + tokensNow s w * 2 ^ 24)
    else none

/-- R12, R15: a read returns every rc field of the register to its Reset value. -/
def rcClear (r : RegRow) (n i : Nat) (s : State) : State :=
  s.each r.fields (fun f s => if f.acc = .rc then s.wr (f.fld n i) (f.fld n i).rst else s)

/-- A register is read and the fabric answers in time (R215). Unassigned offsets, and what may not be read, return 0 (R356, R465); a read of
another size or alignment is an Unsupported Request and answers nothing (R269). -/
def execHostMailboxRead (addr size : Nat) (requester : Requester) (t : Nat) (s : State) : Result :=
  let s := urPut requester (unsupported requester addr size) ((s.air t).each (List.range 4) airCount)
  if unsupported requester addr size then .next s
  else if !mayAccess s requester addr false || shut s addr then .next (s.answer requester 0)
  else
    match regAt addr with
    | none => .next (s.answer requester 0)
    | some (r, n, i) => .next (rcClear r n i (s.answer requester ((liveRead s requester addr).getD (rowRead s r n i))))

/-- R466: the register at `a` answers without the mailbox: SYS, CLK, FLT, HIF, TSU, ETH, RFE, the lane frames of MAC, CEL, PAIR, DBG. -/
def islandHeld (a : Nat) : Bool :=
  a < 0x70000 || (0x80800 ≤ a && a < 0x80A00) || (0xF0000 ≤ a && a < 0x100000) || (0x110000 ≤ a && a < 0x120000) || 0x130000 ≤ a

/-- R215: no answer within 8 µs: the host reads 0xFFFF_FFFF, and MBX_IDLE counts; the register keeps its value. -/
def execMailboxStallExpiry (addr t : Nat) (s : State) : Result :=
  let s := s.at t
  if islandHeld addr then .next s
  else .next (raise Irq.HIF_MBX_IDLE ((s.inc HIF_MBX_IDLE).answer 0 0xFFFFFFFF))

/-- R215: an answer after the bound is discarded: nothing changes. -/
def execMailboxLateAnswer (_addr t : Nat) (s : State) : Result := .next (s.at t)

end Sys2Proof.Machine
end

