-- ==== Sys2Proof/Machine/Shaper.lean ====
section
/-!
DEFINITION. Commands of the meters, the calendar and the queues' peaks (R213, R222, R224 to R230).
-/

namespace Sys2Proof.Machine

/-! The uplink drain -/

/-- The highest class of Ward `w` whose uplink queue is not empty, with its head (R222). -/
def upHead (s : State) (w : Nat) : Option (Nat × UpPacket) :=
  [7, 6, 5, 4, 3, 2, 1, 0].findSome? (fun c => (upQOf s w c).head?.map (fun p => (c, p)))

/-- The head of uplink class queue `w`, `c` leaves it: its curds go back. -/
def upPop (w c : Nat) (p : UpPacket) (s : State) : State :=
  poolGive 1 p.curds.length (cqSub (w * 8 + c) p.curds.length (setUpQ w c ((upQOf s w c).drop 1) s))

/-- Octets of a packet of `n` octets as an Ethernet frame to the gateway, FCS and VLAN tag included (R197, R238). -/
def gatewayLen (s : State) (n : Nat) : Nat := (max 60 (14 + n) + (if s.rd FWD_GW_MAC_HI.VLAN = 0 then 0 else 4)) + 4

/-- A packet enters the egress FIFO of a port: BH0, BH1, or with 2 the peer's, as a relayed frame (R197, R436). -/
def gatewaySend (p : UpPacket) (port : Nat) (s : State) : State :=
  if port = 2 then relay PAIR_RLY_ETH_TX true s
  else egrPush port p.cls { len := gatewayLen s p.len, origin := 1, vlan := if s.rd FWD_GW_MAC_HI.VLAN = 0 then none else some (s.rd FWD_GW_MAC_HI.VLAN) } s

/-- R222: the uplink class queues of a Ward drain by strict priority into its receive ring, whose next buffer holds `bufsize` octets, or
into the egress FIFOs of the gateway's ports. A full ring or FIFO stops the drain. A packet that was queued while GW was 0 has its ports
looked up now (R197). -/
def execUplinkDrain (ward : Fin 8) (desc : Desc) (meets : TableMeets) (t : Nat) (s : State) : Result :=
  withMeets meets (fun s =>
  let w := ward.val
  match upHead s w with
  | none => .next s
  | some (c, p) =>
    if !s.flag QMS_CFG.EN then .next s
    else if s.flag (FWD_W_UPLINK.GW w) then
      let (ports, s) := if p.ports.isEmpty then gatewayPorts s else (p.ports, s)
      let p := { p with ports := ports }
      .next (if ports.all (fun q => q = 2 || egrRoom s q) then (upPop w c p s).each ports (gatewaySend p)
        else setUpQ w c (p :: (upQOf s w c).drop 1) s)
    else
      let k := s.rd (FWD_W_UPLINK.RING w)
      if !rxFree s k || !(backlogOf s k).isEmpty then .next s
      else
        let v : RxItem := { len := p.len, words := p.words, fmt := 2, why := 1, nix := some p.nix, ward := w, buf := .packet p.pkt }
        match rxWrite k desc v s with
        | (true, s) => .next (upPop w c p s)
        | (false, s) => .next s) (s.at t)

/-! The Ward shaper and the calendar -/

/-- R224: the head of a downlink class queue is released when its bucket is not in deficit, and its IPv6 length is charged. A broadcast
stays at the head, for a SHARED cell (R223). -/
def execWardShaperRelease (ward cls : Fin 8) (t : Nat) (s : State) : Result :=
  let s := calRelease (s.at t)
  let (w, c) := (ward.val, cls.val)
  let i := w * 8 + c
  match downQOf s w c with
  | [] => .next s
  | p :: l =>
    let off := !s.flag SHP_CFG.EN || s.rd (SHP_WDS.RATE i) = 0
    if p.released || !s.flag QMS_CFG.EN || (!off && (shaperNow s i).c < 0) then .next s
    else
      let b := shaperNow s i
      let s := if off then s else setShaper i { b with c := b.c - meterBits p.ipLen } s
      .next (if p.bcast then setDownQ w c ({ p with released := true } :: l) s
        else packetShape p (cqSub (downCq w c) (packetCurds p) (setDownQ w c l s)))

/-- R226: a bucket's time comes. -/
def execCalendarBucketDue (t : Nat) (s : State) : Result := .next (calRelease (s.at t))

/-- R228: the sweep visits the next record. -/
def execShaperSweep (t : Nat) (s : State) : Result :=
  let s := s.at t
  let n := s.rd SHP_SWEEP_STS.POS
  let r := s.node n
  let past := (s.us32 + 2 ^ 32 - r.nextElig % 2 ^ 32) % 2 ^ 32
  let s := if 2 ^ 30 < past && past < 2 ^ 31 then
      s.modNode n (fun r => { r with nextElig := s.us32, shpTokens := dnBurst s r * 16 })
    else s
  let s := s.wr SHP_SWEEP_STS.POS (n + 1)
  .next (if n = 262143 then s.inc SHP_SWEEP_STS.SWEEPS else s)

/-- R229: SHP_CAL_CFG.EN is written 0: deferred packets move into their node queues under the fall-back, in base-time order. -/
def execCalendarDisable (t : Nat) (s : State) : Result :=
  let s := calRelease (s.at t)
  let l := s.qms.cal
  let v := setCal [] s
  let s := ((regionsLeave v v).put SHP_CAL_CFG.EN false).put SHP_STS.FALLBACK true
  .next (s.each l (fun d s => packetQueue d.packet (some d.base) (s.inc SHP_CAL_FALLBACK)))

/-- R229: SHP_CAL_CFG.EN is written 1. -/
def execCalendarEnable (t : Nat) (s : State) : Result :=
  .next (((s.at t).put SHP_CAL_CFG.EN true).put SHP_STS.FALLBACK false)

/-! Meter registers and peaks -/

/-- R230: a Ward meter register is written, its fields clamped (R243); the buckets of that Ward and class are reset. -/
def execShpMeterWrite (reg : MeterReg) (i : Fin 64) (value t : Nat) (s : State) : Result :=
  let s := s.at t
  let k := i.val
  let lo := value % 2 ^ 16
  let hi := value / 2 ^ 16 % 2 ^ 16
  let up (s : State) : State := setMarker k (if s.flag SHP_CFG.RECONF_UP then { fresh := false, at_ := s.rc } else {}) s
  let dn (s : State) : State := setShaper k (if s.flag SHP_CFG.RECONF_DN then { fresh := false, at_ := s.rc } else {}) s
  match reg with
  | .wpolRate => .next (up ((s.wr (SHP_WPOL_RATE.CIR k) (min lo hi)).wr (SHP_WPOL_RATE.PIR k) hi))
  | .wpolBurst => .next (up ((s.wr (SHP_WPOL_BURST.CBS k) (max 32 lo)).wr (SHP_WPOL_BURST.PBS k) (max 32 hi)))
  | .wds => .next (dn ((s.wr (SHP_WDS.RATE k) lo).wr (SHP_WDS.BURST k) (max 1 hi)))

/-- QMS_POOL_PEAK is read and clears (R213, R242). -/
def execQmsPoolPeakRead (requester : Requester) (s : State) : Result :=
  .next ((s.answer requester (s.rd QMS_POOL_PEAK.PEAK)).wr QMS_POOL_PEAK.PEAK 0)

/-- QMS_POOL_USE is read: USED and PEAK; PEAK clears (R213, R242). -/
def execQmsPoolUsePeakRead (user : Fin 4) (requester : Requester) (s : State) : Result :=
  .next ((s.answer requester (s.rd (QMS_POOL_USE.USED user) + 2 ^ 16 * s.rd (QMS_POOL_USE.PEAK user))).wr (QMS_POOL_USE.PEAK user) 0)

/-- QMS_W_NPEAK is read: PEAK and its NIX; both clear (R213, R242). -/
def execQmsWNpeakRead (ward : Fin 8) (requester : Requester) (s : State) : Result :=
  let v := s.rd (QMS_W_NPEAK.PEAK ward) + 2 ^ 11 * s.rd (QMS_W_NPEAK.NIX ward)
  .next (((s.answer requester v).wr (QMS_W_NPEAK.PEAK ward) 0).wr (QMS_W_NPEAK.NIX ward) 0)

/-- QMS_CQ is read: CURDS and PEAK; PEAK clears (R213, R242). -/
def execQmsCqPeakRead (i : Fin 128) (requester : Requester) (s : State) : Result :=
  .next ((s.answer requester (s.rd (QMS_CQ.CURDS i) + 2 ^ 16 * s.rd (QMS_CQ.PEAK i))).wr (QMS_CQ.PEAK i) 0)

/-- SHP_CAL_STS is read: COUNT and PEAK; PEAK clears (R213, R243). -/
def execShpCalPeakRead (requester : Requester) (s : State) : Result :=
  .next ((s.answer requester (s.rd SHP_CAL_STS.COUNT + 2 ^ 16 * s.rd SHP_CAL_STS.PEAK)).wr SHP_CAL_STS.PEAK 0)

end Sys2Proof.Machine
end

