-- ==== Sys2Proof/Machine/Update.lean ====
section
/-!
DEFINITION. Update campaigns: the commands of R315 and the Press (R302 to R307, R312, R314).
-/

namespace Sys2Proof.Machine

/-- Opcodes of R315. -/
def opCampStart : Nat := 0x50
def opCampPause : Nat := 0x51
def opCampResume : Nat := 0x52
def opCampStop : Nat := 0x53
def opCampRelease : Nat := 0x54
def opCampEnrol : Nat := 0x55
def opCampLeave : Nat := 0x56

/-- An update command of the owner: denied while UPD_CFG.EN is 0 (R317), BADARG for a slot above 3, then `f`. -/
def withCamp (ring op tag slot : Nat) (inRange : Bool) (f : State → State) (s : State) : Result :=
  withOwner ring op tag (fun s =>
    if !s.flag UPD_CFG.EN then cmdPlain ring op tag 0xF3 s
    else if 4 ≤ slot || !inRange then cmdPlain ring op tag 0xF1 s
    else f s) s

/-- MAGIC of a node manifest, the octets "OBKN" (R303). -/
def manifestMagic : Nat := 0x4E4B424F

/-- Every field of the start block is in its range, and the manifest is as R303 gives. An image in policy memory lies where R299 allows. -/
def blockOk (s : State) (b : CampBlock) : Bool :=
  1 ≤ b.len && b.len ≤ 16777056 && 1 ≤ b.imgId && b.imgId ≤ 255 && 16 ≤ b.t && b.t ≤ 1024 && b.t % 4 = 0
    && 4096 ≤ b.ws && b.ws ≤ 262144 && b.ovh ≤ 100 && 1 ≤ b.rounds && b.rounds ≤ 255 && 1 ≤ b.turn && b.turn ≤ 64
    && 2 ≤ b.annEvery && b.annEvery ≤ 255 && b.maxRate ≤ 65535
    && b.man.magic = manifestMagic && b.man.fmt = 1 && b.man.kind = 2 && b.man.length = b.len
    && s.rd MAC_TCX_OUI.OUI != 0 && (!b.loc || polOpen s b.addr b.len)

/-- Of `l`, the cell with the shortest span; the first of them. -/
def shortest : List (Nat × Cell) → Option Cell
  | [] => none
  | (_, c) :: l => match shortest l with
    | some d => some (if d.span < c.span then d else c)
    | none => some c

/-- R310: both 145 octets and T + 34 are within the frame limit. -/
def updLimit (s : State) (w t : Nat) : Bool :=
  match shortest (updateCells s w) with
  | none => false
  | some c => limitOk s w (c.span + 1) c.tt false 0 145 && limitOk s w (c.span + 1) c.tt false 0 (t + 34)

/-- R304: checks 1 to 5 in order; 0 when they pass. -/
def campChecks (s : State) (slot : Nat) (b : CampBlock) : Nat :=
  let w := b.ward.val
  let z := campZ (160 + b.len) b.t b.ws
  if campState s slot != 0 || !s.flag (MAC_WARD_PAN.EN w) || (campOfWard s w).isSome || (campOfImg s b.imgId).isSome then 1
  else if !blockOk s b then 0xF1
  else if z = 0 || 255 < z then 4
  else if (updateCells s w).isEmpty then 6
  else if !updLimit s w b.t then 5
  else 0

/-- R312: the records that hold IMG_ID `img` with UPD_ACTIVE set. -/
def imgActive (s : State) (img : Nat) : Nat := (s.nodes.filter (fun p => p.2.imgId = img && p.2.updActive)).length

/-- The registers of a slot at the start of a campaign. -/
def campInit (slot : Nat) (b : CampBlock) (s : State) : State :=
  let f := 160 + b.len
  let s := ((s.wr (UPD_C_STS.WARD slot) b.ward.val).wr (UPD_C_STS.END_WHY slot) 0).wr (UPD_C_STS.IMG_ID slot) b.imgId
  let s := ((s.wr (UPD_C_OTI_LO.F slot) f).wr (UPD_C_OTI_HI.F slot) (f / 2 ^ 32)).wr (UPD_C_OTI_HI.T slot) b.t
  let s := ((s.wr (UPD_C_OTI_HI.Z slot) (campZ f b.t b.ws)).wr (UPD_C_ROUND.ROUND slot) 0).wr (UPD_C_ROUND.ROUNDS slot) b.rounds
  (((s.wr (UPD_C_SENT.COUNT slot) 0).wr (UPD_C_NODES.ACTIVE slot) (imgActive s b.imgId)).wr (UPD_C_DONE.DONE slot) 0).wr (UPD_C_FAIL.FAIL slot) 0

/-- CAMP_START (R304). -/
def execCampStart (ring : Fin 8) (hd : CmdHead) (slot : Nat) (blk : CampBlock) (t : Nat) (s : State) : Result :=
  withCamp ring opCampStart hd.tag slot (hd.len = 224) (withData ring opCampStart hd 224 (fun s =>
    match campChecks s slot blk with
    | 0 =>
      let s := campGo slot 1 (campInit slot blk s)
      modCamp slot (fun _ => {
        imgAddr := blk.addr
        imgLen := blk.len
        imgLoc := blk.loc
        man := blk.man
        fill := blk.fill
        ovh := blk.ovh
        turn := blk.turn
        annEvery := blk.annEvery
        maxRate := blk.maxRate
        cmd := some (ring.val, opCampStart, hd.tag) }) s
    | k => cmdPlain ring opCampStart hd.tag k s)) (s.at t)

/-- A campaign's waiting command completes with `result`. -/
def campCmd (slot result : Nat) (s : State) : State :=
  match (campOf s slot).cmd with
  | none => s
  | some (ring, op, tag) => cmdPlain ring op tag result (modCamp slot (fun x => { x with cmd := none }) s)

/-- `n` octets of the image of slot `c` from its octet `lo` on: those of shared policy memory, where R299 allows their read, or those that host
memory answers, `image`; none when the read fails (R297). -/
def imageOctets (s : State) (c lo n : Nat) (image : Option (List (Fin 256))) : Option (List Nat) :=
  let x := campOf s c
  if x.imgLoc then if polOpen s (x.imgAddr + lo) n then some ((List.range n).map (fun i => polByte s (x.imgAddr + lo + i))) else none
  else image.map (fun l => (l.take n).map (·.val) ++ List.replicate (n - l.length) 0)

/-- R304: SIG of the manifest verifies against UPD_VKEY; a key of all zeros never does. -/
def manifestSigned (s : State) (m : Manifest) : Bool :=
  let key := (List.range 8).map (fun i => s.rd (UPD_VKEY.KEY i))
  let l := wordOctets (manifestWords m)
  key.any (fun k => k != 0) && edVerify (wordOctets key) (l.take 96) (l.drop 96)

/-- R304, R314: checks 6 and 7: the signature of the manifest, and the digest of the image, which host memory answers with `image`. -/
def execCampPrepareComplete (slot : Fin 4) (image : Option (List (Fin 256))) (t : Nat) (s : State) : Result :=
  let s := s.at t
  let c := slot.val
  let x := campOf s c
  if campState s c != 1 then .next s
  else if !manifestSigned s x.man then .next (campCmd c 2 (campGo c 0 s))
  else
    match imageOctets s c 0 x.imgLen image with
    | none => .next (campCmd c 0xF2 (campGo c 0 s))
    | some l =>
      if sha512 l != wordOctets ((List.range 16).map (wordAt x.man.digest)) then .next (campCmd c 3 (campGo c 0 s))
      else
        let s := (campGo c 2 s).wr (UPD_C_ROUND.ROUND c) 1
        .next (campCmd c 0 (modCamp c (fun x => { x with prep := 1, cells := 0, debt := 0, debtAt := s.rc }) s))

/-- CAMP_PAUSE (R314). A turn that waits for curds is abandoned (DEDUCED, log entry 29). -/
def execCampPause (ring : Fin 8) (tag slot t : Nat) (s : State) : Result :=
  withCamp ring opCampPause tag slot true (fun s =>
    if campState s slot = 2 then cmdPlain ring opCampPause tag 0 (pressAbandon slot (campGo slot 3 s)) else cmdPlain ring opCampPause tag 7 s) (s.at t)

/-- CAMP_RESUME (R314): the next UPDATE cell carries an announcement. -/
def execCampResume (ring : Fin 8) (tag slot t : Nat) (s : State) : Result :=
  withCamp ring opCampResume tag slot true (fun s =>
    if campState s slot = 3 then
      cmdPlain ring opCampResume tag 0 (roundCheck slot (modCamp slot (fun x => { x with cells := 0 }) (campGo slot 2 s)))
    else cmdPlain ring opCampResume tag 7 s) (s.at t)

/-- CAMP_STOP (R314). -/
def execCampStop (ring : Fin 8) (tag slot t : Nat) (s : State) : Result :=
  withCamp ring opCampStop tag slot true (fun s =>
    if campState s slot = 2 || campState s slot = 3 then cmdPlain ring opCampStop tag 0 (campEnd slot 4 s)
    else cmdPlain ring opCampStop tag 7 s) (s.at t)

/-- The records that hold IMG_ID `img`. -/
def imgHolders (s : State) (img : Nat) : List Nat := (s.nodes.filter (fun p => p.2.imgId = img && img != 0)).map (·.1)

/-- CAMP_RELEASE (R314): the ready queue is freed and the records are cleared by a sweep. -/
def execCampRelease (ring : Fin 8) (tag slot t : Nat) (s : State) : Result :=
  withCamp ring opCampRelease tag slot true (fun s =>
    if campState s slot = 4 then
      let s := pressGive ((campOf s slot).ready.length * symbolCurds s slot) s
      let s := s.each (imgHolders s (s.rd (UPD_C_STS.IMG_ID slot)))
        (fun n s => s.modNode n (fun r => { r with imgId := 0, updActive := false }))
      let s := (modCamp slot (fun _ => {}) s).wr (UPD_C_NODES.ACTIVE slot) 0
      cmdPlain ring opCampRelease tag 0 (campGo slot 0 s)
    else cmdPlain ring opCampRelease tag 7 s) (s.at t)

/-- A list of NIX operands is in range: `count` of them, 1 to 1,024, and the data holds them (R278, R289, R315). -/
def nixListOk (hd : CmdHead) (count : Nat) (l : List Nat) : Bool := 1 ≤ count && count ≤ 1024 && 4 * count ≤ hd.len && l.all (fun n => n < 262144)

/-- R312: a record may be enrolled in the campaign of Ward `w` with IMG_ID `img`; a fenced one takes no write (R27). -/
def enrolOk (s : State) (w img n : Nat) : Bool :=
  let r := s.node n
  nodeLive s n && r.ward = w && !(r.updActive && r.imgId != img)

/-- R312: a record is enrolled. -/
def enrol (slot img n : Nat) (s : State) : State :=
  let r := s.node n
  let s := if r.updActive then s else s.inc (UPD_C_NODES.ACTIVE slot)
  s.modNode n (fun r => { r with imgId := img, updActive := true, symCnt := 0 })

/-- CAMP_ENROL (R312). -/
def execCampEnrol (ring : Fin 8) (hd : CmdHead) (slot count : Nat) (nodes : List Nat) (t : Nat) (s : State) : Result :=
  let nodes := (List.range (min count 1024)).map (fun i => nodes.getD i 0)
  withCamp ring opCampEnrol hd.tag slot (nixListOk hd count nodes) (withData ring opCampEnrol hd (4 * count) (fun s =>
    let img := s.rd (UPD_C_STS.IMG_ID slot)
    if campState s slot = 0 || campState s slot = 4 then cmdPlain ring opCampEnrol hd.tag 7 s
    else if !nodes.all (enrolOk s (s.rd (UPD_C_STS.WARD slot)) img) then cmdPlain ring opCampEnrol hd.tag 9 s
    else
      let s := s.each nodes (enrol slot img)
      cmdPlain ring opCampEnrol hd.tag 0 (modCamp slot (fun x => { x with enrolled := true }) s))) (s.at t)

/-- R312: a record leaves the campaign it holds. -/
def leave (slot img n : Nat) (s : State) : State :=
  let r := s.node n
  if r.imgId != img then s
  else
    let s := s.modNode n (fun r => { r with imgId := 0, updActive := false })
    if r.updActive then campLess slot s else s

/-- CAMP_LEAVE (R312); with a fenced record of the campaign among those listed it is refused whole (R27, R289). -/
def execCampLeave (ring : Fin 8) (hd : CmdHead) (slot count : Nat) (nodes : List Nat) (t : Nat) (s : State) : Result :=
  let nodes := (List.range (min count 1024)).map (fun i => nodes.getD i 0)
  withCamp ring opCampLeave hd.tag slot (nixListOk hd count nodes) (withData ring opCampLeave hd (4 * count) (fun s =>
    let img := s.rd (UPD_C_STS.IMG_ID slot)
    if campState s slot = 0 then cmdPlain ring opCampLeave hd.tag 7 s
    else if nodes.any (fun n => (s.node n).fenced && (s.node n).imgId = img) then cmdPlain ring opCampLeave hd.tag 9 s
    else cmdPlain ring opCampLeave hd.tag 0 (s.each nodes (leave slot img)))) (s.at t)

/-! The Press -/

/-- The block the Press visits next: the first from `next` on, in SBN order, whose quota is not met (R306). -/
def pressBlock (s : State) (c : Nat) : Option Nat :=
  let z := s.rd (UPD_C_OTI_HI.Z c)
  ((List.range z).map (fun i => ((campOf s c).next + i) % max 1 z)).find? (fun b => Store.find 0 (campOf s c).got b < quotaOf s c b)

/-- The Press goes on to a later round when the one it writes is full and another may begin (R306). -/
def pressRound (c : Nat) (s : State) : State :=
  if quotasMet s c && (campOf s c).prep < s.rd (UPD_C_ROUND.ROUNDS c) && !esiOver s c then nextRound c s else s

/-- The Press is at block `b` of slot `c`, or no longer (UPD_STS.PRESS_BUSY, UPD_PRESS_STS). -/
def pressShow (c b : Nat) (busy : Bool) (s : State) : State :=
  ((s.put UPD_STS.PRESS_BUSY busy).wr UPD_PRESS_STS.SLOT c).wr UPD_PRESS_STS.SBN b

/-- R307: a turn of `n` symbols of block `b`, whose octets are `oct`, is written into the curds `l`. A queue that is not full yet goes on being
filled. -/
def pressWrite (c b n us : Nat) (oct l : List Nat) (s : State) : State :=
  let x := campOf s c
  let e := Store.find 0 x.esi b
  let k := symbolCurds s c
  let tt := s.rd (UPD_C_OTI_HI.T c)
  let kb := blockK (campKt (campF s c) tt) (s.rd (UPD_C_OTI_HI.Z c)) b
  let new : List Symbol := (List.range n).map (fun i =>
    { sbn := b, esi := e + i, round := x.prep, data := symbolData kb tt (e + i) oct, curds := (l.drop (i * k)).take k })
  let s := modCamp c (fun x => { x with
    ready := x.ready ++ new
    refill := decide (x.ready.length + n < 64)
    esi := Store.put 0 x.esi b (e + n)
    got := Store.put 0 x.got b (Store.find 0 x.got b + n)
    next := b + 1 }) s
  let o := s.pressOctets + n * tt
  let s := { s.add UPD_PRESS_KIB (o / 1024) with pressOctets := o % 1024, pressAt := (c + 1) % 4 }
  (pressShow c b false (s.inc UPD_BLOCKS_PREP)).wr UPD_PREP_LAST.US (min us 65535)

/-- R307: slot `c` needs the Press: its queue has fallen below 32 frames, or is being filled to 64, and there are symbols to write. -/
def pressNeeds (s : State) (c : Nat) : Bool :=
  let x := campOf s c
  campState s c = 2 && (x.ready.length < 32 || (x.refill && x.ready.length < 64))
    && (!quotasMet s c || (x.prep < s.rd (UPD_C_ROUND.ROUNDS c) && !esiOver s c))

/-- R307, R316: the slot whose turn it is: the one whose turn waits for curds, else the next that needs the Press, in slot order. -/
def pressSlot (s : State) : Option Nat :=
  let k := s.rd UPD_PRESS_STS.SLOT
  if s.flag UPD_STS.PRESS_BUSY && pressNeeds s k then some k
  else ((List.range 4).map (fun i => (s.pressAt + i) % 4)).find? (pressNeeds s)

/-- R303, R307: the octets of source block `b` of slot `c`, the manifest first, padded with zeros at the end of the object; `image`: what host
memory answers, from the first octet of the image that the block holds. -/
def blockOctets (s : State) (c b : Nat) (image : Option (List (Fin 256))) : Option (List Nat) :=
  let tt := s.rd (UPD_C_OTI_HI.T c)
  let kt := campKt (campF s c) tt
  let z := s.rd (UPD_C_OTI_HI.Z c)
  let o := blockStart kt z b * tt
  let n := blockK kt z b * tt
  let m := ((wordOctets (manifestWords (campOf s c).man)).drop o).take n
  let lo := max o 160
  let k := min (o + n) (campF s c) - lo
  (imageOctets s c (lo - 160) k image).map (fun l => m ++ l ++ List.replicate (n - m.length - k) 0)

/-- R307, R314: the Press prepares a turn of block `b` for slot `c`: the image is read, and the symbols are written; without curds the turn
waits, and with an image that cannot be read the campaign ends. -/
def pressPrepare (c b us : Nat) (image : Option (List (Fin 256))) (s : State) : State :=
  match blockOctets s c b image with
  | none => campEnd c 5 (raiseAt Irq.UPD_IMG_ERR c (s.inc UPD_IMG_DMA_ERR))
  | some oct =>
    let x := campOf s c
    let tt := s.rd (UPD_C_OTI_HI.T c)
    let n := min (min x.turn (quotaOf s c b - Store.find 0 x.got b)) (64 - x.ready.length)
    let mid := ceilDiv (11 * blockK (campKt (campF s c) tt) (s.rd (UPD_C_OTI_HI.Z c)) b * tt) 2400
    if poolOk s 3 (n * symbolCurds s c + mid) then
      let (l, s) := curdsPick (n * symbolCurds s c) (curdsHeld s) s
      pressWrite c b n us oct l (pressGive mid (pressTake (n * symbolCurds s c + mid) s))
    else
      let s := (poolTake 3 (n * symbolCurds s c + mid) s).2
      pressShow c b true (raiseAt Irq.UPD_NOCURD c (s.inc UPD_NOCURD))

/-- R307: the Press takes its turn for slot `slot`, in `us` µs, when that is the slot whose turn it is; host memory answers its read of the image
with `image`. -/
def execPressTurn (slot : Fin 4) (image : Option (List (Fin 256))) (us t : Nat) (s : State) : Result :=
  let s := s.at t
  let c := slot.val
  if pressSlot s != some c then .next (roundCheck c s)
  else
    let s := pressRound c s
    match pressBlock s c with
    | none => .next (roundCheck c s)
    | some b => .next (pressPrepare c b us image s)

/-- UPD_CURDS is read: USED and PEAK; PEAK clears (R317). -/
def execUpdCurdsPeakRead (requester : Requester) (s : State) : Result :=
  .next ((s.answer requester (s.rd UPD_CURDS.USED + 2 ^ 16 * s.rd UPD_CURDS.PEAK)).wr UPD_CURDS.PEAK 0)

/-- UPD_READY is read: FRAMES and PEAK; PEAK clears (R317). -/
def execUpdReadyPeakRead (requester : Requester) (s : State) : Result :=
  .next ((s.answer requester (s.rd UPD_READY.FRAMES + 2 ^ 16 * s.rd UPD_READY.PEAK)).wr UPD_READY.PEAK 0)

end Sys2Proof.Machine
end

