-- ==== Sys2Proof/Machine/Verdict.lean ====
section
/-!
DEFINITION. The verdict of a received frame and what follows from it (R88, R109, R110, R118 to R120, R160 to R168, R313).
-/

namespace Sys2Proof.Machine

/-- The verdict codes of R285. -/
def Verdict.code : Verdict → Nat
  | .accept => 0
  | .repeated => 1
  | .replay => 2
  | .micFail => 3
  | .nosrc => 4
  | .fenced => 5
  | .unsec => 6
  | .notme => 7
  | .join => 4

/-- A destination of R110: 0x0000 of the Ward, Bastis's EUI-64, or broadcast. -/
def forMe (s : State) (a : Addr) : Bool := toRoot s a || toAll a

/-- The verdict of R110 on a frame of Ward `w` whose source resolves to `nix`, with the Whey code of a refusal. -/
def verdictOf (s : State) (w : Nat) (h : MacHdr) (nix : Option Nat) (mic : Bool) : SecResult :=
  match nix with
  | none => { verdict := .nosrc, whey := 8 }
  | some x =>
    if (s.node x).fenced || (s.node x).state = .evict then { verdict := .fenced, whey := 9 }
    else if !nodeActive s x then { verdict := .nosrc, whey := 8 }
    else if !forMe s h.dst then { verdict := .notme, whey := 11 }
    else secCheck s x w h mic

/-- Steps 1 to 6 of R160 passed, so the payload is decrypted (R285). -/
def decrypted (r : SecResult) : Bool := r.verdict = .accept || r.verdict = .repeated || r.verdict = .replay

/-- The counter of a Ward that a verdict counts in (R110). -/
def verdictCount (v : Verdict) (w : Nat) (s : State) : State :=
  match v with
  | .accept => s.inc (MAC_W_RX_ACCEPT w)
  | .repeated => s.inc (MAC_W_RX_REPEAT w)
  | .replay => s.inc (MAC_W_RX_REPLAY w)
  | .micFail => s.inc (MAC_W_RX_MIC_FAIL w)
  | .nosrc => s.inc (MAC_W_RX_NOSRC w)
  | .fenced => s.inc (MAC_W_RX_FENCED w)
  | .unsec => s.inc (MAC_W_RX_UNSEC w)
  | .notme => s.inc (MAC_W_RX_NOTME w)
  | .join => s

/-- The receive-ring item of a RADIO frame. -/
def radioItem (f : RxFrame) (why : Nat) (v : Option Verdict) (dec : Bool) (nix : Option Nat) : RxItem :=
  { len := f.len, words := f.report, why := why, verdict := (v.map Verdict.code).getD 15, dec := dec, nix := nix, buf := .psdu f.hdr dec }

/-- An ACCEPT writes the record (R110, R161): the counter, the activity, the state, and KEY_LOW RX at the end of the space (R164). -/
def acceptRecord (x w : Nat) (f : RxFrame) (s : State) : State :=
  let r := s.node x
  let h := f.hdr
  let fc := h.fc.getD 0
  let joined := h.kt = 1 || r.state != .joining
  let s := s.modNode x (fun r => { r with
    rxFc := fc
    rxDsn := h.dsn.getD r.rxDsn
    rxKgen := h.gen
    rxOk := (r.rxOk + 1) % 2 ^ 32 })
  let s := rxDirty x r.rxFc s
  let s := if fcLow ≤ fc && (r.rxKgen = 0xFF || r.rxFc < fcLow) then keyLog x h.gen 1 w fc s else s
  if joined then nodeHeard x s else s

/-- R218: what the policer makes of an accepted frame: whether it is policed out. The refill of the same write is R109's. -/
def policeFrame (x len : Nat) (s : State) : Bool × State :=
  let r := s.node x
  if !s.flag SHP_CFG.EN || s.rd (SHP_PROF_RATE.UP r.rateIx) = 0 then (false, s)
  else
    let tok := sgn 32 r.polTokens
    if tok < 0 then (true, s.inc SHP_POL_DROP)
    else (false, (s.inc SHP_POL_PASS).modNode x (fun r => { r with polTokens := unsg 32 (tok - len * 16) }))

/-- Where an accepted frame goes (R140, R217): its packet to the uplink pipeline, its 6P message to Serac or the host. -/
def acceptDeliver (x w : Nat) (f : RxFrame) (s : State) : State :=
  let s := if f.hdr.lowpan then
      let (pol, s) := policeFrame x f.len s
      let asn := (f.cell.map (·.asn)).getD s.asn
      let d : Delivered := { nix := x, ward := w, len := f.len, policed := pol, rc := f.report.headD 0, asn := asn }
      { s with qms := { s.qms with delivered := s.qms.delivered ++ [d] } }
    else s
  let host := f.hdr.signal || (f.hdr.p6 && !s.flag SRC_CFG.P6_EN)
  let s := if host then rxRadio (some w) (radioItem f 5 (some .accept) true (some x)) s else s
  if (f.hdr.p6 || f.hdr.signal) && s.flag SRC_CFG.P6_EN then { s with src := { s.src with p6in := s.src.p6in ++ [x] } } else s

/-- ACCEPT and REPEAT in guard or in limit: LINKQ, DRIFT, LAST_ASN, a learning request for the port
(R191) and a progress report (R87, R88, R109, R313). -/
def heardRecord (x : Nat) (f : RxFrame) (s : State) : State :=
  let first := (s.node x).state = .joining
  let s := linkQuality x f.rssi f.lqi first s
  let s := driftUpdate x ((f.cell.map (·.asn)).getD s.asn) f.offset s
  let s := if s.flag FWD_CFG.EN then { s with fwd := { s.fwd with learn := s.fwd.learn ++ [{ nix := some x, port := f.fe }] } } else s
  match f.hdr.progress with
  | some p => progressReport x p s
  | none => s

/-- R88, in limit: OOG_SEEN of the sender's record is set. -/
def oogMark (f : RxFrame) (nix : Option Nat) (s : State) : State :=
  match f.case, nix with
  | .inLimit, some x => if nodeLive s x then s.modNode x (fun r => { r with oogSeen := true }) else s
  | _, _ => s

/-- A frame in guard or in limit, with its verdict (R110, R168). -/
def verdictNormal (w : Nat) (f : RxFrame) (nix : Option Nat) (r : SecResult) (s : State) : State :=
  let s := oogMark f nix (verdictCount r.verdict w s)
  match r.verdict, nix with
  | .accept, some x =>
    let s := if r.attempt then ratchetAdvance x s else s
    acceptDeliver x w f (acceptRecord x w f (heardRecord x f s))
  | .repeated, some x => heardRecord x f s
  | _, _ => secWhey r.whey (s.whey r.whey)

/-- R88, beyond limit: the record's counters stay, the frame goes to the host with its verdict. -/
def verdictBeyond (w : Nat) (f : RxFrame) (nix : Option Nat) (r : SecResult) (s : State) : State :=
  let s := match nix with
    | some x => if nodeLive s x then s.modNode x (fun r => { r with oogSeen := true, rxOog := (r.rxOog + 1) % 2 ^ 32 }) else s
    | none => s
  rxRadio (some w) (radioItem f 2 (some r.verdict) (decrypted r) nix) s

/-- R88, no cell: to the host when NOCELL_HOST is 1, decrypted when its verdict is ACCEPT or REPEAT (R285), else to the Whey. -/
def verdictNoCell (ward : Option Nat) (f : RxFrame) (v : Option Verdict) (nix : Option Nat) (s : State) : State :=
  if s.flag CHZ_CFG.NOCELL_HOST then rxRadio ward (radioItem f 3 v (v = some .accept || v = some .repeated) nix) s else s.whey 13

/-- An unsecured join request from an EUI-64 that has no record (R119). -/
def isJoin (s : State) (f : RxFrame) (nix : Option Nat) : Bool :=
  match nix, f.hdr.src with
  | none, .ext e => f.hdr.join && !f.hdr.sec && !s.nodes.any (fun p => p.2.state != .free && p.2.eui = e)
  | _, _ => false

/-- R119: a join request is passed to the host, up to JOIN_RATE in a second for its Ward, or goes to the Whey; the verdict it gets. -/
def joinRequest (w : Nat) (f : RxFrame) (s : State) : Verdict × State :=
  let sec := s.rc / 1000000000
  let s := if s.mac.joinSec = sec then s else modMac (fun m => { m with joinSec := sec, joins := [] }) s
  let n := Store.find 0 s.mac.joins w
  if n < s.rd MAC_JOIN_CFG.JOIN_RATE then
    let s := modMac (fun m => { m with joins := Store.put 0 m.joins w (n + 1) }) s
    let s := macTrace 0x52 0 f.fe w (s.inc (MAC_W_JOIN_REQ w))
    let s := rxRadio (some w) (radioItem f 1 (some .nosrc) false none) s
    (if s.flag MAC_JOIN_CFG.ACK_JOIN then .join else .nosrc, s)
  else (.nosrc, (s.inc (MAC_W_JOIN_DROP w)).whey 12)

/-- R110, R119: a join request that keeps its verdict of NOSRC counts in its Ward. -/
def joinVerdict (w : Nat) (f : RxFrame) (s : State) : Verdict × State :=
  let (v, s) := joinRequest w f s
  (v, if v = .nosrc then verdictCount v w s else s)

/-- The `pos`-th frame that waits for its verdict, with its index in the MAC's list. -/
def waitingVerdict (s : State) (pos : Nat) : Option (Nat × RxFrame) :=
  (((List.range s.mac.rx.length).zip s.mac.rx).filter (fun p => p.2.verdict = none && p.2.hdr.kind != .ack))[pos]?

/-- The frame at index `i` has its verdict; it leaves once its ack decision is made too. Without a verdict (`v` none) it only leaves
when that is made: it is given none, and check 2 of R111 fails. -/
def settle (i : Nat) (v : Option Verdict) (nix : Option Nat) (s : State) : State :=
  let rx := ((List.range s.mac.rx.length).zip s.mac.rx).filterMap (fun p =>
    if p.1 != i then some p.2
    else if p.2.acked || (v = none && !p.2.hdr.ackReq) then none
    else if v = none then some { p.2 with verdict := some .micFail, nix := nix, verdictAt := s.rc }
    else some { p.2 with verdict := v, nix := nix, verdictAt := s.rc })
  modMac (fun m => { m with rx := rx }) s

/-- The Key Table entry that a frame under its sender's pairwise key needs (R157, R160); a fenced record is not read (R27). -/
def pairwise (s : State) (f : RxFrame) (nix : Option Nat) : Option Nat :=
  match nix with
  | some x => if f.hdr.sec && f.hdr.kt = 1 && !(s.node x).fenced then some (s.node x).keyIx else none
  | none => none

/-- The word of the sender's record that is found poisoned, and the unit that read it: one that the MAC read, or KEYREF whose key fails its
integrity check (R27, R329). -/
def verdictWord (s : State) (f : RxFrame) (nix : Option Nat) (poisoned : Option (Fin 16)) : Option (Nat × Nat) :=
  match poisoned, nix with
  | some k, some x => if (s.node x).fenced then none else some (k.val, 6)
  | _, _ =>
    match pairwise s f nix with
    | some k => if keyDamaged s k then some (2, 7) else none
    | none => none

/-- R110: the verdict of the `pos`-th waiting frame is formed. `mic` is the outcome of the CCM* check under the key that step 5 of R160
selects; `poisoned`: the word of the record that is read poisoned (R27). A secured frame needs its engine (R159), and after a planned
switch every verdict waits for the records up to MARK (R435). `corrected`: single-bit errors that its reads met, by store (R26). -/
def execVerdict (pos : Nat) (mic : Bool) (poisoned : Option (Fin 16)) (corrected : List (Fin 256)) (meets : TableMeets) (t : Nat) (s : State) : Result :=
  withMeets meets (fun s => match waitingVerdict s pos with
  | none => .next s
  | some (i, f) =>
    if !s.flag MAC_CFG.EN || (f.hdr.sec && f.engine = none) || s.pair.marking then .next s
    else
      let ward := wardOf s f.hdr.pan
      match ward with
      | none => .next (settle i (some .nosrc) none (verdictNoCell none f none none (engineFree f.engine s)))
      | some w =>
        let (nix, s) := resolveSrc w f.hdr.src (engineFree f.engine s)
        let s := match nix, f.hdr.fc with
          | some x, some fc => engNonce f.engine (nonceFc (s.node x).eui fc f.hdr.level) s
          | _, _ => s
        if f.aborted then .next (settle i none nix ((s.whey 7).inc SEC_WHEY_TAMPER))
        else
          match nix, verdictWord s f nix poisoned with
          | some x, some (k, m) => .next (settle i none nix (fenceNode x k m ((s.when (m = 7) (kcLookup (s.node x).keyIx)).whey 0)))
          | _, _ =>
            let s := match pairwise s f nix with
              | some k => kcLookup k s
              | none => s
            if isJoin s f nix && (f.case = .inGuard || f.case = .inLimit) then
              let (v, s) := joinVerdict w f s
              .next (settle i (some v) none s)
            else
              let r := verdictOf s w f.hdr nix mic
              let s := if r.attempt then s.inc SEC_RATCHET_TRY else s
              match f.case with
              | .noCell => .next (settle i (some r.verdict) nix (verdictNoCell ward f (some r.verdict) nix s))
              | .beyond => .next (settle i (some r.verdict) nix (verdictBeyond w f nix r s))
              | _ =>
                let strict := r.whey = 4 && f.hdr.kt = 2 && strictRefuses s w f.hdr.gen
                let s := if strict then raiseWard Irq.SEC_STRICT_GROUP w s else s
                .next (settle i (some r.verdict) nix (verdictNormal w f nix r s))) (eccFix corrected (s.at t))

end Sys2Proof.Machine
end

