-- ==== Sys2Proof/Machine/Dispatch.lean ====
section
/-!
DEFINITION. The effect of each command: one arm per constructor, one call of its meaning.
-/

namespace Sys2Proof.Machine

def exec (i : Instr) (s : State) : Host.Outcome State Fault Refusal :=
  match i with
  | .registerWrite addr size value requester t => Sys2Proof.Machine.execRegisterWrite addr size value requester t s
  | .sysCfgLockWrite value t => Sys2Proof.Machine.execSysCfgLockWrite value t s
  | .hostMailboxRead addr size requester t => Sys2Proof.Machine.execHostMailboxRead addr size requester t s
  | .mailboxStallExpiry addr t => Sys2Proof.Machine.execMailboxStallExpiry addr t s
  | .mailboxLateAnswer addr t => Sys2Proof.Machine.execMailboxLateAnswer addr t s
  | .fabricStallRelease lane idx t => Sys2Proof.Machine.execFabricStallRelease lane idx t s
  | .scrubberPass corrected poisoned t => Sys2Proof.Machine.execScrubberPass corrected poisoned t s
  | .sysModeWrite mode t => Sys2Proof.Machine.execSysModeWrite mode t s
  | .modeChangeComplete t => Sys2Proof.Machine.execModeChangeComplete t s
  | .hoarfrostPeriod slack t => Sys2Proof.Machine.execHoarfrostPeriod slack t s
  | .avsbusFrameDone ok t => Sys2Proof.Machine.execAvsbusFrameDone ok t s
  | .feEnable fe t => Sys2Proof.Machine.execFeEnable fe t s
  | .feDisable fe t => Sys2Proof.Machine.execFeDisable fe t s
  | .synLock fe us t => Sys2Proof.Machine.execSynLock fe us t s
  | .synLockTimeout fe t => Sys2Proof.Machine.execSynLockTimeout fe t s
  | .rfeTuneWrite fe khz t => Sys2Proof.Machine.execRfeTuneWrite fe khz t s
  | .synMoveStart fe t => Sys2Proof.Machine.execSynMoveStart fe t s
  | .transmitDeadline fe lbtEd ccaEd t => Sys2Proof.Machine.execTransmitDeadline fe lbtEd ccaEd t s
  | .rxTxTurnaroundEnd fe t => Sys2Proof.Machine.execRxTxTurnaroundEnd fe t s
  | .txLastSymbol fe t => Sys2Proof.Machine.execTxLastSymbol fe t s
  | .txRxTurnaroundEnd fe t => Sys2Proof.Machine.execTxRxTurnaroundEnd fe t s
  | .lbtListenStart fe t => Sys2Proof.Machine.execLbtListenStart fe t s
  | .rfeCalCmd fe steps t => Sys2Proof.Machine.execRfeCalCmd fe steps t s
  | .rfeCalForce fe steps t => Sys2Proof.Machine.execRfeCalForce fe steps t s
  | .calStepDone fe ok t => Sys2Proof.Machine.execCalStepDone fe ok t s
  | .rfeTempSample fe celsius t => Sys2Proof.Machine.execRfeTempSample fe celsius t s
  | .calStarveTimeout fe t => Sys2Proof.Machine.execCalStarveTimeout fe t s
  | .dcBucketAdvance region t => Sys2Proof.Machine.execDcBucketAdvance region t s
  | .agcGainStep fe peak sample t => Sys2Proof.Machine.execAgcGainStep fe peak sample t s
  | .rfeTxTestWrite fe cw pix offset t => Sys2Proof.Machine.execRfeTxTestWrite fe cw pix offset t s
  | .rfeTxAirRead fe requester => Sys2Proof.Machine.execRfeTxAirRead fe requester s
  | .preambleDetect fe plan chan cls q sniffer stfPeak t => Sys2Proof.Machine.execPreambleDetect fe plan chan cls q sniffer stfPeak t s
  | .sfdFound slice ts t => Sys2Proof.Machine.execSfdFound slice ts t s
  | .sfdTimeout slice t => Sys2Proof.Machine.execSfdTimeout slice t s
  | .phrCheck slice modeSwitch hcsOk len mcs fcs4 dw fec t => Sys2Proof.Machine.execPhrCheck slice modeSwitch hcsOk len mcs fcs4 dw fec t s
  | .sliceFrameEnd slice fcsOk room relayRoom pwr snr hdr t => Sys2Proof.Machine.execSliceFrameEnd slice fcsOk room relayRoom pwr snr hdr t s
  | .classUpResult slice pan src ts t => Sys2Proof.Machine.execClassUpResult slice pan src ts t s
  | .chzPlanWrite plan reg value t => Sys2Proof.Machine.execChzPlanWrite plan reg value t s
  | .chzOogWrite template limit t => Sys2Proof.Machine.execChzOogWrite template limit t s
  | .spectrumInterval bins t => Sys2Proof.Machine.execSpectrumInterval bins t s
  | .chzSlicePeakRead requester => Sys2Proof.Machine.execChzSlicePeakRead requester s
  | .asnTick corrected t => Sys2Proof.Machine.execAsnTick corrected t s
  | .macAsnLoRead requester => Sys2Proof.Machine.execMacAsnLoRead requester s
  | .macSlotLenWrite us t => Sys2Proof.Machine.execMacSlotLenWrite us t s
  | .macTtWrite template reg value t => Sys2Proof.Machine.execMacTtWrite template reg value t s
  | .macHsDataAccess write requester t => Sys2Proof.Machine.execMacHsDataAccess write requester t s
  | .hsSwitchArm mask t => Sys2Proof.Machine.execHsSwitchArm mask t s
  | .hsSwitchCancel mask t => Sys2Proof.Machine.execHsSwitchCancel mask t s
  | .macLsUcDataWrite lane word t => Sys2Proof.Machine.execMacLsUcDataWrite lane word t s
  | .macLsSwapArm lane sf arm ok t => Sys2Proof.Machine.execMacLsSwapArm lane sf arm ok t s
  | .transmitCommitPoint lane idx t => Sys2Proof.Machine.execTransmitCommitPoint lane idx t s
  | .transmitItemReady lane idx t => Sys2Proof.Machine.execTransmitItemReady lane idx t s
  | .ccmDispatch slice t => Sys2Proof.Machine.execCcmDispatch slice t s
  | .verdict pos mic poisoned corrected meets t => Sys2Proof.Machine.execVerdict pos mic poisoned corrected meets t s
  | .ackCommitPoint fe t => Sys2Proof.Machine.execAckCommitPoint fe t s
  | .nodeAckReceived pos mic t => Sys2Proof.Machine.execNodeAckReceived pos mic t s
  | .ackWaitExpiry lane t => Sys2Proof.Machine.execAckWaitExpiry lane t s
  | .quietTimeout nix t => Sys2Proof.Machine.execQuietTimeout nix t s
  | .macBurstPeakRead requester => Sys2Proof.Machine.execMacBurstPeakRead requester s
  | .macAckMarginRead requester => Sys2Proof.Machine.execMacAckMarginRead requester s
  | .macLsVhistRead lane bin requester => Sys2Proof.Machine.execMacLsVhistRead lane bin requester s
  | .sfEnable sf t => Sys2Proof.Machine.execSfEnable sf t s
  | .sfDisable sf t => Sys2Proof.Machine.execSfDisable sf t s
  | .commitMsExpiry t => Sys2Proof.Machine.execCommitMsExpiry t s
  | .genCommit t => Sys2Proof.Machine.execGenCommit t s
  | .genApplyComplete t => Sys2Proof.Machine.execGenApplyComplete t s
  | .genClear t => Sys2Proof.Machine.execGenClear t s
  | .schedAdd c sf ofs cell t => Sys2Proof.Machine.execSchedAdd c sf ofs cell t s
  | .schedDel c idx t => Sys2Proof.Machine.execSchedDel c idx t s
  | .schedMove c idx sf ofs cell t => Sys2Proof.Machine.execSchedMove c idx sf ofs cell t s
  | .schedRead c idx t => Sys2Proof.Machine.execSchedRead c idx t s
  | .schedNode c nix t => Sys2Proof.Machine.execSchedNode c nix t s
  | .schedSfClear c sf t => Sys2Proof.Machine.execSchedSfClear c sf t s
  | .adaptVisit nix tc t => Sys2Proof.Machine.execAdaptVisit nix tc t s
  | .seracPick lane idx poisoned corrected t => Sys2Proof.Machine.execSeracPick lane idx poisoned corrected t s
  | .p6Request nix q t => Sys2Proof.Machine.execP6Request nix q t s
  | .p6Response nix seq code accepted t => Sys2Proof.Machine.execP6Response nix seq code accepted t s
  | .p6TransactionTimeout nix t => Sys2Proof.Machine.execP6TransactionTimeout nix t s
  | .sfSwitchArm frm target fromEn arm t => Sys2Proof.Machine.execSfSwitchArm frm target fromEn arm t s
  | .wmoveArm fe khz arm t => Sys2Proof.Machine.execWmoveArm fe khz arm t s
  | .wmoveCentreWrite t => Sys2Proof.Machine.execWmoveCentreWrite t s
  | .quietAutoPlace fe t => Sys2Proof.Machine.execQuietAutoPlace fe t s
  | .srcUcDataWrite word t => Sys2Proof.Machine.execSrcUcDataWrite word t s
  | .srcUcArm arm ok t => Sys2Proof.Machine.execSrcUcArm arm ok t s
  | .srcCellsPeakRead requester => Sys2Proof.Machine.execSrcCellsPeakRead requester s
  | .srcChkPeakRead requester => Sys2Proof.Machine.execSrcChkPeakRead requester s
  | .keySet ring hd nix key t => Sys2Proof.Machine.execKeySet ring hd nix key t s
  | .keyRatchet ring tag nix t => Sys2Proof.Machine.execKeyRatchet ring tag nix t s
  | .groupKeyLoad ring hd ward gen key t => Sys2Proof.Machine.execGroupKeyLoad ring hd ward gen key t s
  | .groupSwitchArm ward asnHi arm t => Sys2Proof.Machine.execGroupSwitchArm ward asnHi arm t s
  | .groupGraceExpiry ward t => Sys2Proof.Machine.execGroupGraceExpiry ward t s
  | .journalCommitDone outcome t => Sys2Proof.Machine.execJournalCommitDone outcome t s
  | .copierApply t => Sys2Proof.Machine.execCopierApply t s
  | .jnlOpen answers t => Sys2Proof.Machine.execJnlOpen answers t s
  | .jnlOpenComplete outcome t => Sys2Proof.Machine.execJnlOpenComplete outcome t s
  | .jnlClose t => Sys2Proof.Machine.execJnlClose t s
  | .jnlCloseComplete t => Sys2Proof.Machine.execJnlCloseComplete t s
  | .jnlFormat t => Sys2Proof.Machine.execJnlFormat t s
  | .snapNow t => Sys2Proof.Machine.execSnapNow t s
  | .snapPeriodExpiry t => Sys2Proof.Machine.execSnapPeriodExpiry t s
  | .snapPassComplete t => Sys2Proof.Machine.execSnapPassComplete t s
  | .secEngPeakRead requester => Sys2Proof.Machine.execSecEngPeakRead requester s
  | .secJnlPeakRead requester => Sys2Proof.Machine.execSecJnlPeakRead requester s
  | .learnCommit pos meets t => Sys2Proof.Machine.execLearnCommit pos meets t s
  | .firnBucketVisit locked corrected poisoned meets t => Sys2Proof.Machine.execFirnBucketVisit locked corrected poisoned meets t s
  | .firnSweepEnd meets t => Sys2Proof.Machine.execFirnSweepEnd meets t s
  | .reshardStart t => Sys2Proof.Machine.execReshardStart t s
  | .reshardAbort t => Sys2Proof.Machine.execReshardAbort t s
  | .reshardWalk meets t => Sys2Proof.Machine.execReshardWalk meets t s
  | .fwtInsert ring hd entry meets t => Sys2Proof.Machine.execFwtInsert ring hd entry meets t s
  | .fwtDelete ring tag key kind ward meets t => Sys2Proof.Machine.execFwtDelete ring tag key kind ward meets t s
  | .fwtRead ring hd first count vat t => Sys2Proof.Machine.execFwtRead ring hd first count vat t s
  | .fwtWrite ring hd bucket ver e0 e1 e2 e3 meets t => Sys2Proof.Machine.execFwtWrite ring hd bucket ver e0 e1 e2 e3 meets t s
  | .pathWrite ring hd ix entry t => Sys2Proof.Machine.execPathWrite ring hd ix entry t s
  | .pathRead ring hd first count t => Sys2Proof.Machine.execPathRead ring hd first count t s
  | .saxRead ring hd ward first count t => Sys2Proof.Machine.execSaxRead ring hd ward first count t s
  | .uplinkPipeline content meets t => Sys2Proof.Machine.execUplinkPipeline content meets t s
  | .downlinkPacket poisoned meets t => Sys2Proof.Machine.execDownlinkPacket poisoned meets t s
  | .reasmTimeout t => Sys2Proof.Machine.execReasmTimeout t s
  | .uplinkDrain ward desc meets t => Sys2Proof.Machine.execUplinkDrain ward desc meets t s
  | .wardShaperRelease ward cls t => Sys2Proof.Machine.execWardShaperRelease ward cls t s
  | .calendarBucketDue t => Sys2Proof.Machine.execCalendarBucketDue t s
  | .shaperSweep t => Sys2Proof.Machine.execShaperSweep t s
  | .calendarDisable t => Sys2Proof.Machine.execCalendarDisable t s
  | .calendarEnable t => Sys2Proof.Machine.execCalendarEnable t s
  | .shpMeterWrite reg ix value t => Sys2Proof.Machine.execShpMeterWrite reg ix value t s
  | .egressFrameStart port t => Sys2Proof.Machine.execEgressFrameStart port t s
  | .gateEntryEdge port t => Sys2Proof.Machine.execGateEntryEdge port t s
  | .gateListArm port en len t => Sys2Proof.Machine.execGateListArm port en len t s
  | .gateListSwitch port t => Sys2Proof.Machine.execGateListSwitch port t s
  | .qmsPoolPeakRead requester => Sys2Proof.Machine.execQmsPoolPeakRead requester s
  | .qmsPoolUsePeakRead user requester => Sys2Proof.Machine.execQmsPoolUsePeakRead user requester s
  | .qmsWNpeakRead ward requester => Sys2Proof.Machine.execQmsWNpeakRead ward requester s
  | .qmsCqPeakRead ix requester => Sys2Proof.Machine.execQmsCqPeakRead ix requester s
  | .shpCalPeakRead requester => Sys2Proof.Machine.execShpCalPeakRead requester s
  | .shpEgrPeakRead port requester => Sys2Proof.Machine.execShpEgrPeakRead port requester s
  | .tsuNsLoRead requester t => Sys2Proof.Machine.execTsuNsLoRead requester t s
  | .tsuTimeNsRead requester t => Sys2Proof.Machine.execTsuTimeNsRead requester t s
  | .ptpMessageReceived port m t => Sys2Proof.Machine.execPtpMessageReceived port m t s
  | .syncInterval port t => Sys2Proof.Machine.execSyncInterval port t s
  | .delayReqInterval port t => Sys2Proof.Machine.execDelayReqInterval port t s
  | .followUpTimeout port t => Sys2Proof.Machine.execFollowUpTimeout port t s
  | .delayRespTimeout port t => Sys2Proof.Machine.execDelayRespTimeout port t s
  | .tsuServoExtOfsWrite value t => Sys2Proof.Machine.execTsuServoExtOfsWrite value t s
  | .servoEnable t => Sys2Proof.Machine.execServoEnable t s
  | .servoDisable t => Sys2Proof.Machine.execServoDisable t s
  | .servoLossTimeout t => Sys2Proof.Machine.execServoLossTimeout t s
  | .servoCmdAccept t => Sys2Proof.Machine.execServoCmdAccept t s
  | .servoCmdAsym t => Sys2Proof.Machine.execServoCmdAsym t s
  | .servoCmdRemeasure t => Sys2Proof.Machine.execServoCmdRemeasure t s
  | .tsuStep alsoSet t => Sys2Proof.Machine.execTsuStep alsoSet t s
  | .tsuSet t => Sys2Proof.Machine.execTsuSet t s
  | .slewGo t => Sys2Proof.Machine.execSlewGo t s
  | .slewAbort t => Sys2Proof.Machine.execSlewAbort t s
  | .slewComplete t => Sys2Proof.Machine.execSlewComplete t s
  | .asnStart t => Sys2Proof.Machine.execAsnStart t s
  | .asnStop t => Sys2Proof.Machine.execAsnStop t s
  | .pulseArm unit periodic strict outEn pol t => Sys2Proof.Machine.execPulseArm unit periodic strict outEn pol t s
  | .pulseStop unit t => Sys2Proof.Machine.execPulseStop unit t s
  | .pulseEdge unit t => Sys2Proof.Machine.execPulseEdge unit t s
  | .captureEdge unit fall held t => Sys2Proof.Machine.execCaptureEdge unit fall held t s
  | .tsuCiNsRead unit requester => Sys2Proof.Machine.execTsuCiNsRead unit requester s
  | .tsuServoOfsPeakRead requester => Sys2Proof.Machine.execTsuServoOfsPeakRead requester s
  | .tsuPResPeakRead port requester => Sys2Proof.Machine.execTsuPResPeakRead port requester s
  | .doorbellWrite offset value t => Sys2Proof.Machine.execDoorbellWrite offset value t s
  | .ringEnable ring t => Sys2Proof.Machine.execRingEnable ring t s
  | .ringDisable ring t => Sys2Proof.Machine.execRingDisable ring t s
  | .txDescriptor ring desc pkt eth t => Sys2Proof.Machine.execTxDescriptor ring desc pkt eth t s
  | .rxFrameDeliver ring desc t => Sys2Proof.Machine.execRxFrameDeliver ring desc t s
  | .moderationTimer ring t => Sys2Proof.Machine.execModerationTimer ring t s
  | .dmaReadFail ring desc addr t => Sys2Proof.Machine.execDmaReadFail ring desc addr t s
  | .functionLevelReset t => Sys2Proof.Machine.execFunctionLevelReset t s
  | .d3hotToD0 t => Sys2Proof.Machine.execD3hotToD0 t s
  | .nop ring tag t => Sys2Proof.Machine.execNop ring tag t s
  | .badop ring op tag t => Sys2Proof.Machine.execBadop ring op tag t s
  | .nodeAdd ring hd nix any restore block meets t => Sys2Proof.Machine.execNodeAdd ring hd nix any restore block meets t s
  | .nodeEvict ring tag nix t => Sys2Proof.Machine.execNodeEvict ring tag nix t s
  | .evictReleaseComplete nix meets t => Sys2Proof.Machine.execEvictReleaseComplete nix meets t s
  | .nodeQuiet ring tag nix t => Sys2Proof.Machine.execNodeQuiet ring tag nix t s
  | .nodeRead ring hd first count withKey t => Sys2Proof.Machine.execNodeRead ring hd first count withKey t s
  | .nodeModify ring hd nix mask value data t => Sys2Proof.Machine.execNodeModify ring hd nix mask value data t s
  | .nodeWrite ring hd nix record t => Sys2Proof.Machine.execNodeWrite ring hd nix record t s
  | .ebSet ring hd ward ies t => Sys2Proof.Machine.execEbSet ring hd ward ies t s
  | .ucodeLoad ring hd target len img held us t => Sys2Proof.Machine.execUcodeLoad ring hd target len img held us t s
  | .hifRxrBacklogPeakRead ring requester => Sys2Proof.Machine.execHifRxrBacklogPeakRead ring requester s
  | .hifEvtrPendPeakRead ring requester => Sys2Proof.Machine.execHifEvtrPendPeakRead ring requester s
  | .campStart ring hd slot blk t => Sys2Proof.Machine.execCampStart ring hd slot blk t s
  | .campPrepareComplete slot image t => Sys2Proof.Machine.execCampPrepareComplete slot image t s
  | .campPause ring tag slot t => Sys2Proof.Machine.execCampPause ring tag slot t s
  | .campResume ring tag slot t => Sys2Proof.Machine.execCampResume ring tag slot t s
  | .campStop ring tag slot t => Sys2Proof.Machine.execCampStop ring tag slot t s
  | .campRelease ring tag slot t => Sys2Proof.Machine.execCampRelease ring tag slot t s
  | .campEnrol ring hd slot count nodes t => Sys2Proof.Machine.execCampEnrol ring hd slot count nodes t s
  | .campLeave ring hd slot count nodes t => Sys2Proof.Machine.execCampLeave ring hd slot count nodes t s
  | .pressTurn slot image us t => Sys2Proof.Machine.execPressTurn slot image us t s
  | .updCurdsPeakRead requester => Sys2Proof.Machine.execUpdCurdsPeakRead requester s
  | .updReadyPeakRead requester => Sys2Proof.Machine.execUpdReadyPeakRead requester s
  | .keyGen ring hd count abort t => Sys2Proof.Machine.execKeyGen ring hd count abort t s
  | .keyImport ring hd count keys abort t => Sys2Proof.Machine.execKeyImport ring hd count keys abort t s
  | .attest ring hd nonce abort t => Sys2Proof.Machine.execAttest ring hd nonce abort t s
  | .aliasCert ring hd t => Sys2Proof.Machine.execAliasCert ring hd t s
  | .tlogAck ring tag mask t => Sys2Proof.Machine.execTlogAck ring tag mask t s
  | .rindSample mismatch caseLevel keyOp t => Sys2Proof.Machine.execRindSample mismatch caseLevel keyOp t s
  | .sensorDetect sensor keyOp t => Sys2Proof.Machine.execSensorDetect sensor keyOp t s
  | .keyTamperAckWrite code us => Sys2Proof.Machine.execKeyTamperAckWrite code us s
  | .deriveComplete us => Sys2Proof.Machine.execDeriveComplete us s
  | .caveRestoreComplete t => Sys2Proof.Machine.execCaveRestoreComplete t s
  | .brineVisit busy t => Sys2Proof.Machine.execBrineVisit busy t s
  | .rngHealthTest ok t => Sys2Proof.Machine.execRngHealthTest ok t s
  | .keyHostpubWrite word value t => Sys2Proof.Machine.execKeyHostpubWrite word value t s
  | .powerOnReset strap bits us => Sys2Proof.Machine.execPowerOnReset strap bits us s
  | .powerFailReset strap bits us => Sys2Proof.Machine.execPowerFailReset strap bits us s
  | .wakeReset strap bits us => Sys2Proof.Machine.execWakeReset strap bits us s
  | .warmReset key warm bits us => Sys2Proof.Machine.execWarmReset key warm bits us s
  | .faultReset bits us => Sys2Proof.Machine.execFaultReset bits us s
  | .jtagReset bits us => Sys2Proof.Machine.execJtagReset bits us s
  | .pcieFundamentalReset t => Sys2Proof.Machine.execPcieFundamentalReset t s
  | .sramInitComplete dur us => Sys2Proof.Machine.execSramInitComplete dur us s
  | .clockCheckComplete present dev lockUs us => Sys2Proof.Machine.execClockCheckComplete present dev lockUs us s
  | .imageCheckComplete slot ix last fail seqA seqB img us => Sys2Proof.Machine.execImageCheckComplete slot ix last fail seqA seqB img us s
  | .bootRelease us t => Sys2Proof.Machine.execBootRelease us t s
  | .sysPcieBootGo us => Sys2Proof.Machine.execSysPcieBootGo us s
  | .svnProgram target go t => Sys2Proof.Machine.execSvnProgram target go t s
  | .svnProgramDone t => Sys2Proof.Machine.execSvnProgramDone t s
  | .lcRequest jtag key target t => Sys2Proof.Machine.execLcRequest jtag key target t s
  | .fuseProgram target val prog t => Sys2Proof.Machine.execFuseProgram target val prog t s
  | .fuseProgramDone ok t => Sys2Proof.Machine.execFuseProgramDone ok t s
  | .pcrRun core t => Sys2Proof.Machine.execPcrRun core t s
  | .pcrDrain core t => Sys2Proof.Machine.execPcrDrain core t s
  | .pcrHalt core t => Sys2Proof.Machine.execPcrHalt core t s
  | .pcrDrainAck core t => Sys2Proof.Machine.execPcrDrainAck core t s
  | .drainTimeout core t => Sys2Proof.Machine.execDrainTimeout core t s
  | .watchdogExpiry core mcause mepc t => Sys2Proof.Machine.execWatchdogExpiry core mcause mepc t s
  | .pcrHeartbeatWrite core t => Sys2Proof.Machine.execPcrHeartbeatWrite core t s
  | .coreTrap core mcause mepc mtvec0 t => Sys2Proof.Machine.execCoreTrap core mcause mepc mtvec0 t s
  | .policyStore core ofs octets t => Sys2Proof.Machine.execPolicyStore core ofs octets t s
  | .pcrIpiWrite mask t => Sys2Proof.Machine.execPcrIpiWrite mask t s
  | .mboxInWrite core word value t => Sys2Proof.Machine.execMboxInWrite core word value t s
  | .mboxOutWrite core word value requester t => Sys2Proof.Machine.execMboxOutWrite core word value requester t s
  | .pcrInstretLoRead core requester => Sys2Proof.Machine.execPcrInstretLoRead core requester s
  | .hushWrite t => Sys2Proof.Machine.execHushWrite t s
  | .hushEntry t => Sys2Proof.Machine.execHushEntry t s
  | .hushExit t => Sys2Proof.Machine.execHushExit t s
  | .sleepRequest target key t => Sys2Proof.Machine.execSleepRequest target key t s
  | .sleepQuiesceComplete t => Sys2Proof.Machine.execSleepQuiesceComplete t s
  | .sleepIsolation t => Sys2Proof.Machine.execSleepIsolation t s
  | .sleepWakeSample t => Sys2Proof.Machine.execSleepWakeSample t s
  | .pgOffTimeout => Sys2Proof.Machine.execPgOffTimeout s
  | .pwrGoodFall t => Sys2Proof.Machine.execPwrGoodFall t s
  | .wakeSource code high => Sys2Proof.Machine.execWakeSource code high s
  | .pgWaitTimeout => Sys2Proof.Machine.execPgWaitTimeout s
  | .wakeBackoffExpiry => Sys2Proof.Machine.execWakeBackoffExpiry s
  | .watchSample ana pins => Sys2Proof.Machine.execWatchSample ana pins s
  | .rtcTick t => Sys2Proof.Machine.execRtcTick t s
  | .rtcSet t => Sys2Proof.Machine.execRtcSet t s
  | .celRtcTickRead requester t => Sys2Proof.Machine.execCelRtcTickRead requester t s
  | .anchorStamp t => Sys2Proof.Machine.execAnchorStamp t s
  | .vbatSample level celsius => Sys2Proof.Machine.execVbatSample level celsius s
  | .regLimit on => Sys2Proof.Machine.execRegLimit on s
  | .cellarBrownout => Sys2Proof.Machine.execCellarBrownout s
  | .cellarPowerUp vbat => Sys2Proof.Machine.execCellarPowerUp vbat s
  | .clockMonitorCheck present unlocked dev ppm rcErr keyOp t => Sys2Proof.Machine.execClockMonitorCheck present unlocked dev ppm rcErr keyOp t s
  | .refRecheckTimer present dev lockUs t => Sys2Proof.Machine.execRefRecheckTimer present dev lockUs t s
  | .clkRefRecheck mask present dev lockUs t => Sys2Proof.Machine.execClkRefRecheck mask present dev lockUs t s
  | .xtalCheck ok keyOp t => Sys2Proof.Machine.execXtalCheck ok keyOp t s
  | .xtalMeasure ppb t => Sys2Proof.Machine.execXtalMeasure ppb t s
  | .faultOccurrence src at_ curd next t => Sys2Proof.Machine.execFaultOccurrence src at_ curd next t s
  | .fltLatchClear src race at_ t => Sys2Proof.Machine.execFltLatchClear src race at_ t s
  | .fltClearAll t => Sys2Proof.Machine.execFltClearAll t s
  | .fltClearFirst t => Sys2Proof.Machine.execFltClearFirst t s
  | .fltInject src go t => Sys2Proof.Machine.execFltInject src go t s
  | .escalationExpiry t => Sys2Proof.Machine.execEscalationExpiry t s
  | .calmExpiry t => Sys2Proof.Machine.execCalmExpiry t s
  | .fltMorClear t => Sys2Proof.Machine.execFltMorClear t s
  | .pairJoinActive t => Sys2Proof.Machine.execPairJoinActive t s
  | .pairJoinStandby t => Sys2Proof.Machine.execPairJoinStandby t s
  | .pairLeave t => Sys2Proof.Machine.execPairLeave t s
  | .pairSwitch t => Sys2Proof.Machine.execPairSwitch t s
  | .pairForce t => Sys2Proof.Machine.execPairForce t s
  | .heartbeatSend alive t => Sys2Proof.Machine.execHeartbeatSend alive t s
  | .heartbeatReceived hb tagOk t => Sys2Proof.Machine.execHeartbeatReceived hb tagOk t s
  | .heartbeatMissCount alive t => Sys2Proof.Machine.execHeartbeatMissCount alive t s
  | .peerSilentExpiry t => Sys2Proof.Machine.execPeerSilentExpiry t s
  | .takeover t => Sys2Proof.Machine.execTakeover t s
  | .pairFenceInput level t => Sys2Proof.Machine.execPairFenceInput level t s
  | .fabricTokenCheck advanced t => Sys2Proof.Machine.execFabricTokenCheck advanced t s
  | .aliveToggle t => Sys2Proof.Machine.execAliveToggle t s
  | .mirRecordReceived mseq item tagOk meets t => Sys2Proof.Machine.execMirRecordReceived mseq item tagOk meets t s
  | .mackSend t => Sys2Proof.Machine.execMackSend t s
  | .mackReceived mseq tagOk t => Sys2Proof.Machine.execMackReceived mseq tagOk t s
  | .mirFlush t => Sys2Proof.Machine.execMirFlush t s
  | .markReceived mseq tagOk t => Sys2Proof.Machine.execMarkReceived mseq tagOk t s
  | .bulkRecordReceived item cursor last tagOk meets t => Sys2Proof.Machine.execBulkRecordReceived item cursor last tagOk meets t s
  | .rlyRadioReceived frame tagOk t => Sys2Proof.Machine.execRlyRadioReceived frame tagOk t s
  | .rlyEthReceived port frame tagOk t => Sys2Proof.Machine.execRlyEthReceived port frame tagOk t s
  | .laneSyncChange lane up errors t => Sys2Proof.Machine.execLaneSyncChange lane up errors t s
  | .pairPeerKeyWrite reg value t => Sys2Proof.Machine.execPairPeerKeyWrite reg value t s
  | .pairSwitchTick t => Sys2Proof.Machine.execPairSwitchTick t s
  | .cfgCrcRecompute t => Sys2Proof.Machine.execCfgCrcRecompute t s
  | .pairMirPeakRead requester => Sys2Proof.Machine.execPairMirPeakRead requester s
  | .ethFrameReceived port frame room t => Sys2Proof.Machine.execEthFrameReceived port frame room t s
  | .ethLinkChange port up speed t => Sys2Proof.Machine.execEthLinkChange port up speed t s
  | .ethPEqPeakRead port cls requester => Sys2Proof.Machine.execEthPEqPeakRead port cls requester s
  | .jtagBypass => Sys2Proof.Machine.execJtagBypass s
  | .jtagIdcode => Sys2Proof.Machine.execJtagIdcode s
  | .jtagSamplePreload bits => Sys2Proof.Machine.execJtagSamplePreload bits s
  | .jtagExtest => Sys2Proof.Machine.execJtagExtest s
  | .jtagClamp => Sys2Proof.Machine.execJtagClamp s
  | .jtagHighz => Sys2Proof.Machine.execJtagHighz s
  | .debugHalt core t => Sys2Proof.Machine.execDebugHalt core t s
  | .egressFrameEnd port t => Sys2Proof.Machine.execEgressFrameEnd port t s
  | .debugResume core t => Sys2Proof.Machine.execDebugResume core t s
  | .msixVectorUnmask vector addr data t => Sys2Proof.Machine.execMsixVectorUnmask vector addr data t s
  | .pcieBusMasterEnable on msix us t => Sys2Proof.Machine.execPcieBusMasterEnable on msix us t s
  | .pcieLinkUp gen width t => Sys2Proof.Machine.execPcieLinkUp gen width t s
  | .jnlFormatComplete wraps t => Sys2Proof.Machine.execJnlFormatComplete wraps t s
  | .genClearComplete t => Sys2Proof.Machine.execGenClearComplete t s

end Sys2Proof.Machine
end

