-- ==== Sys2Proof/Safety.lean ====
section
/-!
DEFINITION. What every state of the block keeps, what each command may change (its register fields and its parts of the state, by name), and how
a command ring takes and answers a command.
-/

namespace Sys2Proof.Machine

/-! The frame: what a command leaves alone -/

/-- The register blocks of the manual (R464); `all` is every register. -/
inductive Block where
  | all | rfe | chz | mac | src | sec | fwd | qms | shp | tsu | hif | upd | key | sys | pcr | cel | clk | flt | pair | eth | dbg
deriving DecidableEq, Repr

/-- The parts of the state that are no register field; `mem` is the policy cores' memories. -/
inductive Part where
  | rc | tsuOfs | freeCtr | bus | latch | nodes | hoar | fe | dc | slices | sniffers | mac | lanes | src | qms | sec | jdev | fwd | camps | pressOctets | hif | flt | pair | tsu | anchor | fuse | cave | boot | pcr | cel | mem
  | frac | plans | specAt | pressAt
deriving DecidableEq, Repr

/-- What a command may touch: a register field (in any element of its array), a register block, a part of the state. -/
inductive Touch where
  | fld (f : Fld)
  | regs (b : Block)
  | part (p : Part)
deriving DecidableEq, Repr

/-- The numbers of the fields of a block, from its first to its last. -/
def Block.span : Block → Nat × Nat
  | .all => (0, 1663)
  | .rfe => (1, 94)
  | .chz => (95, 176)
  | .mac => (177, 293)
  | .src => (294, 428)
  | .sec => (429, 531)
  | .fwd => (532, 637)
  | .qms => (638, 687)
  | .shp => (688, 754)
  | .tsu => (755, 936)
  | .hif => (937, 1020)
  | .upd => (1021, 1072)
  | .key => (1073, 1154)
  | .sys => (1155, 1239)
  | .pcr => (1240, 1298)
  | .cel => (1299, 1387)
  | .clk => (1388, 1432)
  | .flt => (1433, 1477)
  | .pair => (1478, 1585)
  | .eth => (1586, 1634)
  | .dbg => (1635, 1648)

/-- The bit of a part of the state. -/
def Part.bit : Part → Nat
  | .rc => 1664
  | .tsuOfs => 1665
  | .freeCtr => 1666
  | .bus => 1667
  | .latch => 1668
  | .nodes => 1669
  | .hoar => 1670
  | .fe => 1671
  | .dc => 1672
  | .slices => 1673
  | .sniffers => 1674
  | .mac => 1675
  | .lanes => 1676
  | .src => 1677
  | .qms => 1678
  | .sec => 1679
  | .jdev => 1680
  | .fwd => 1681
  | .camps => 1682
  | .pressOctets => 1683
  | .hif => 1684
  | .flt => 1685
  | .pair => 1686
  | .tsu => 1687
  | .anchor => 1688
  | .fuse => 1689
  | .cave => 1690
  | .boot => 1691
  | .pcr => 1692
  | .cel => 1693
  | .mem => 1694
  | .frac => 1695
  | .plans => 1696
  | .specAt => 1697
  | .pressAt => 1698

/-- The bits of what may be touched: field number, or the part's own bit. -/
def Touch.mask : Touch → Nat
  | .fld f => 2 ^ f.id
  | .regs b => 2 ^ (b.span.2 + 1) - 2 ^ b.span.1
  | .part p => 2 ^ p.bit

/-- The bits of a list. -/
def touchMask (l : List Touch) : Nat := l.foldr (fun t m => t.mask ||| m) 0

/-- `u` differs from `s` in nothing but what the mask `m` names: bit `f.id` stands for register field `f`, and each part of the state that is
no register field has a bit of its own from 1664 on. The queue of commands never differs. -/
structure Only (m : Nat) (s u : State) : Prop where
  rd : ∀ f : Fld, f.id < 1664 → m.testBit f.id = false → u.rd f = s.rd f
  pending : u.pending = s.pending
  rc : m.testBit 1664 = false → u.rc = s.rc
  tsuOfs : m.testBit 1665 = false → u.tsuOfs = s.tsuOfs
  freeCtr : m.testBit 1666 = false → u.freeCtr = s.freeCtr
  bus : m.testBit 1667 = false → u.bus = s.bus
  latch : m.testBit 1668 = false → u.latch = s.latch
  nodes : m.testBit 1669 = false → u.nodes = s.nodes
  hoar : m.testBit 1670 = false → u.hoar = s.hoar
  fe : m.testBit 1671 = false → u.fe = s.fe
  dc : m.testBit 1672 = false → u.dc = s.dc
  slices : m.testBit 1673 = false → u.slices = s.slices
  sniffers : m.testBit 1674 = false → u.sniffers = s.sniffers
  mac : m.testBit 1675 = false → u.mac = s.mac
  lanes : m.testBit 1676 = false → u.lanes = s.lanes
  src : m.testBit 1677 = false → u.src = s.src
  qms : m.testBit 1678 = false → u.qms = s.qms
  sec : m.testBit 1679 = false → u.sec = s.sec
  jdev : m.testBit 1680 = false → u.jdev = s.jdev
  fwd : m.testBit 1681 = false → u.fwd = s.fwd
  camps : m.testBit 1682 = false → u.camps = s.camps
  pressOctets : m.testBit 1683 = false → u.pressOctets = s.pressOctets
  hif : m.testBit 1684 = false → u.hif = s.hif
  flt : m.testBit 1685 = false → u.flt = s.flt
  pair : m.testBit 1686 = false → u.pair = s.pair
  tsu : m.testBit 1687 = false → u.tsu = s.tsu
  anchor : m.testBit 1688 = false → u.anchor = s.anchor
  fuse : m.testBit 1689 = false → u.fuse = s.fuse
  cave : m.testBit 1690 = false → u.cave = s.cave
  boot : m.testBit 1691 = false → u.boot = s.boot
  pcr : m.testBit 1692 = false → u.pcr = s.pcr
  cel : m.testBit 1693 = false → u.cel = s.cel
  mem : m.testBit 1694 = false → u.pcr.mem = s.pcr.mem ∧ u.pcr.sram = s.pcr.sram
  frac : m.testBit 1695 = false → u.frac = s.frac
  plans : m.testBit 1696 = false → u.plans = s.plans
  specAt : m.testBit 1697 = false → u.specAt = s.specAt
  pressAt : m.testBit 1698 = false → u.pressAt = s.pressAt

/-- Time passes (log entry 2). -/
def timeTouches : List Touch :=
  [.part .rc, .part .frac]

/-- An entry of an event ring is written (R294), and its interrupt sent (R284). -/
def eventTouches : List Touch :=
  [.fld HIF_INT_STS.EVT_LOST, .fld HIF_EVT_LOST, .fld HIF_EVT_WRITTEN, .fld HIF_MSIX_SENT, .fld (HIF_R_IDX.TAIL 0), .fld (HIF_R_STS.RUN 0),
    .fld (HIF_R_STS.ARMED 0), .fld (HIF_R_STS.PEND 0), .fld (HIF_R_DONE.COUNT 0), .fld (HIF_EVTR_PEND.PEND 0), .fld (HIF_EVTR_PEND.PEAK 0),
    .fld (PCR_C_IRQ_STS.BITS 0), .part .hif, .part .pcr, .part .mem]

/-- A fault is raised or ends (R402 to R410), beside its event. -/
def faultTouches : List Touch :=
  [.fld (RFE_STS.STATE 0), .fld FLT_STS.ANY, .fld FLT_STS.ESC_RUN, .fld FLT_STS.QUEUE_FULL, .fld FLT_INT_STS.FAULT, .fld FLT_INT_STS.ESC_ARMED,
    .fld FLT_INT_STS.FIRST, .fld FLT_ESC_STS.LEFT, .fld FLT_ESC_SRC.SRC, .fld FLT_MOR_STS.QUEUED, .fld FLT_FAULTN.LOW, .fld FLT_SUM.WORDS,
    .fld FLT_LAST.SRC, .fld FLT_RAISES, .fld FLT_RESET_SUPPRESSED, .fld FLT_MOR_LOST, .fld (FLT_FIRST.W 0), .fld (FLT_LATCH.B 0),
    .fld (FLT_SRC_CFG.CNT 0), .fld PAIR_YIELDS, .fld (PAIR_TRACE.W 0), .part .fe, .part .flt, .part .pair]

/-- The slices are assigned to the channel plans (R72, R73). -/
def planTouches : List Touch :=
  [.fld CHZ_STS.SNIFF_WANT, .fld CHZ_STS.SNIFF_SHORT, .fld CHZ_STS.WIDTH_NOW, .fld CHZ_INT_STS.SNIFF_SHORT, .fld (CHZ_SNIFF_USE.USED 0),
    .fld (CHZ_PLAN_STS.IN_WIN 0), .fld (CHZ_PLAN_STS.SNIFF 0), .part .sniffers, .part .plans]

/-- A command is taken and answered (R287 to R290), or its descriptor cannot be read (R297). -/
def commandTouches : List Touch :=
  [.fld HIF_INT_STS.DMA_ERR, .fld HIF_DMA_ERR, .fld (HIF_R_IDX.HEAD 0), .fld (HIF_R_STS.ERR 0), .fld (HIF_R_STS.ERR_CODE 0)]

/-- A front end leaves its state (R41, R43). -/
def frontEndTouches : List Touch :=
  [.fld (RFE_STS.STATE 0), .fld (RFE_STS.LOCKED 0), .fld (RFE_STS.CAL_DUE 0), .fld (RFE_SYN_STS.MOVE_PEND 0), .fld (RFE_CAL_STS.RUNNING 0),
    .fld (RFE_CAL_STS.BUSY 0), .fld (RFE_CAL_STS.PENDING 0), .fld (RFE_INT_STS.DC_NEAR 0), .fld (RFE_TX_AIR.AIR 0), .fld (RFE_RX_BLANKED 0),
    .fld (RFE_DC_USED.USED 0 0), .fld CHZ_SLICE_BUSY.BUSY, .fld (CHZ_SLICE_STS.STATE 0), .fld SEC_ENG_STS.BUSY, .part .fe, .part .dc,
    .part .slices, .part .lanes]

/-- What each command may change. Field names stand for every element of their register array. -/
def touchSets : Instr → List (List Touch)
  | .registerWrite .. => [[.regs .all, .part .rc, .part .fe, .part .dc, .part .slices, .part .sniffers, .part .src, .part .qms, .part .hif,
      .part .flt, .part .pair, .part .tsu, .part .pcr, .part .mem, .part .frac, .part .plans, .part .specAt]]
  | .sysCfgLockWrite .. => [timeTouches, [.fld SYS_CFG_LOCK.LOCK]]
  | .hostMailboxRead .. => [[.regs .all, .part .rc, .part .bus, .part .fe, .part .dc, .part .hif, .part .pcr, .part .mem, .part .frac]]
  | .mailboxStallExpiry .. => [timeTouches, eventTouches, [.fld HIF_INT_STS.MBX_IDLE, .fld HIF_MBX_IDLE, .part .bus]]
  | .mailboxLateAnswer .. => [timeTouches]
  | .fabricStallRelease .. => [timeTouches, [.fld SEC_ENG_STS.BUSY, .fld SEC_ENG_PEAK.PEAK, .fld (SEC_ENG_OPS 0), .fld QMS_POOL_FREE.FREE,
      .fld (QMS_POOL_USE.USED 0), .fld UPD_READY.FRAMES, .fld UPD_READY.PEAK, .fld KEY_ABORTS, .part .lanes, .part .qms, .part .sec, .part .camps]]
  | .scrubberPass .. => [timeTouches, eventTouches, faultTouches, [.fld QMS_POOL_FREE.FREE, .fld (QMS_POOL_USE.USED 0),
      .fld (PCR_C_LOCAL_ECC.CORR 0), .part .nodes, .part .qms]]
  | .sysModeWrite .. => [timeTouches, eventTouches, planTouches, [.fld (CHZ_SLICE_STS.STATE 0), .fld (SRC_ENV_RATE.TOKENS 0),
      .fld SEC_ENG_STS.IN_USE, .fld SYS_MODE.MODE, .fld SYS_MODE_STS.CUR, .fld SYS_MODE_STS.PEND, .fld SYS_MODE_STS.BUSY, .fld SYS_MODE_STS.FAIL,
      .fld SYS_INT_STS.MODE_DONE, .part .hoar, .part .slices, .part .src, .part .boot]]
  | .modeChangeComplete .. => [timeTouches, eventTouches, planTouches, [.fld (CHZ_SLICE_STS.STATE 0), .fld (SRC_ENV_RATE.TOKENS 0),
      .fld SEC_ENG_STS.IN_USE, .fld SYS_MODE_STS.CUR, .fld SYS_MODE_STS.BUSY, .fld SYS_MODE_STS.FAIL, .fld SYS_INT_STS.MODE_DONE, .part .hoar,
      .part .slices, .part .src]]
  | .hoarfrostPeriod .. => [timeTouches, [.part .hoar]]
  | .avsbusFrameDone .. => [timeTouches, eventTouches, faultTouches, planTouches, [.fld (CHZ_SLICE_STS.STATE 0), .fld (SRC_ENV_RATE.TOKENS 0),
      .fld SEC_ENG_STS.IN_USE, .fld SYS_MODE_STS.CUR, .fld SYS_MODE_STS.BUSY, .fld SYS_MODE_STS.FAIL, .fld SYS_INT_STS.MODE_DONE, .part .hoar,
      .part .slices, .part .src]]
  | .feEnable .. => [timeTouches, eventTouches, planTouches, [.fld (RFE_CTL.EN 0), .fld (RFE_STS.STATE 0), .fld (RFE_STS.LOCKED 0),
      .fld (RFE_STS.CAL_DUE 0), .fld (RFE_CAL_STS.DONE 0), .fld (RFE_CAL_STS.RUNNING 0), .fld (RFE_CAL_STS.BUSY 0), .fld (RFE_CAL_STS.PENDING 0),
      .fld (RFE_CAL_STS.ERR 0), .fld (RFE_RX_BLANKED 0), .fld (RFE_SYN_MOVES 0), .fld CHZ_SLICE_BUSY.BUSY, .fld (CHZ_SLICE_STS.STATE 0),
      .fld SEC_ENG_STS.BUSY, .part .fe, .part .slices]]
  | .feDisable .. => [timeTouches, eventTouches, planTouches, frontEndTouches, [.fld (RFE_CTL.EN 0), .fld (RFE_STS.COVERING 0),
      .fld (RFE_STS.COVERED 0), .fld (RFE_COVER_STS.PHASE 0), .fld (RFE_COVER_STS.ABORTED 0), .fld (RFE_COVER_STS.COUNT 0),
      .fld (RFE_SYN_MOVES 0)]]
  | .synLock .. => [timeTouches, eventTouches, planTouches, [.fld (RFE_STS.STATE 0), .fld (RFE_STS.LOCKED 0), .fld (RFE_STS.CAL_DUE 0),
      .fld (RFE_SYN_STS.LAST_LOCK 0), .fld (RFE_SYN_STS.MOVE_PEND 0), .fld (RFE_CAL_STS.DONE 0), .fld (RFE_CAL_STS.RUNNING 0),
      .fld (RFE_CAL_STS.BUSY 0), .fld (RFE_CAL_STS.PENDING 0), .fld (RFE_CAL_STS.ERR 0), .fld (RFE_COVER_STS.PHASE 0),
      .fld (RFE_COVER_STS.COUNT 0), .fld (RFE_RX_BLANKED 0), .fld (RFE_SYN_MOVES 0), .fld CHZ_SLICE_BUSY.BUSY, .fld (CHZ_SLICE_STS.STATE 0),
      .fld SEC_ENG_STS.BUSY, .part .fe, .part .slices]]
  | .synLockTimeout .. => [timeTouches, eventTouches, faultTouches, planTouches, frontEndTouches, [.fld (RFE_CTL.EN 0), .fld (RFE_STS.COVERING 0),
      .fld (RFE_STS.COVERED 0), .fld (RFE_COVER_STS.PHASE 0), .fld (RFE_COVER_STS.ABORTED 0), .fld (RFE_COVER_STS.COUNT 0),
      .fld (RFE_INT_STS.LOCK_FAIL 0), .fld (RFE_SYN_MOVES 0), .fld (RFE_LOCK_FAIL 0)]]
  | .rfeTuneWrite .. => [timeTouches, eventTouches, planTouches, [.fld (RFE_TUNE.CENTRE 0), .fld (RFE_SYN_STS.MOVE_PEND 0)]]
  | .synMoveStart .. => [timeTouches, eventTouches, planTouches, [.fld (RFE_STS.STATE 0), .fld (RFE_STS.LOCKED 0), .fld (RFE_SYN_STS.MOVE_PEND 0),
      .fld (RFE_RX_BLANKED 0), .fld (RFE_SYN_MOVES 0), .fld CHZ_SLICE_BUSY.BUSY, .fld (CHZ_SLICE_STS.STATE 0), .fld SEC_ENG_STS.BUSY, .part .fe,
      .part .slices]]
  | .transmitDeadline .. => [timeTouches, eventTouches, [.fld (RFE_STS.STATE 0), .fld (RFE_LBT_STS.LAST_ED 0), .fld (RFE_LBT_STS.LAST_BUSY 0),
      .fld (RFE_INT_STS.DC_NEAR 0), .fld (RFE_INT_STS.TX_LATE 0), .fld (RFE_TX_LATE 0), .fld (RFE_TX_OUTSIDE 0), .fld (RFE_RX_BLANKED 0),
      .fld (RFE_DC_BLOCK 0), .fld (RFE_DC_ACK_BLOCK 0), .fld (RFE_LBT_BUSY 0), .fld (RFE_DC_USED.USED 0 0), .fld CHZ_SLICE_BUSY.BUSY,
      .fld (CHZ_SLICE_STS.STATE 0), .fld MAC_ACK_BURSTS.COUNT, .fld MAC_BURST_PEAK.PEAK, .fld (MAC_W_TX_ATT 0), .fld SEC_ENG_STS.BUSY,
      .part .nodes, .part .fe, .part .dc, .part .slices, .part .lanes, .part .pair]]
  | .rxTxTurnaroundEnd .. => [timeTouches, eventTouches, planTouches, frontEndTouches, [.fld (RFE_STS.COVERING 0), .fld (RFE_STS.COVERED 0),
      .fld (RFE_CAL_STS.DONE 0), .fld (RFE_CAL_STS.ERR 0), .fld (RFE_COVER_STS.PHASE 0), .fld (RFE_COVER_STS.ABORTED 0),
      .fld (RFE_COVER_STS.COUNT 0), .fld (RFE_SYN_MOVES 0), .fld (RFE_TX_FRAMES 0)]]
  | .txLastSymbol .. => [timeTouches, eventTouches, planTouches, frontEndTouches, [.fld (RFE_STS.COVERING 0), .fld (RFE_STS.COVERED 0),
      .fld (RFE_CAL_STS.DONE 0), .fld (RFE_CAL_STS.ERR 0), .fld (RFE_COVER_STS.PHASE 0), .fld (RFE_COVER_STS.ABORTED 0),
      .fld (RFE_COVER_STS.COUNT 0), .fld (RFE_SYN_MOVES 0), .fld (RFE_TX_FRAMES 0), .fld (MAC_W_EB_SENT 0), .fld (MAC_LS_TX_SENT 0),
      .fld QMS_POOL_FREE.FREE, .fld (QMS_POOL_USE.USED 0), .fld (QMS_CQ.CURDS 0), .fld UPD_STS.ACTIVE, .fld UPD_STS.PRESS_BUSY,
      .fld UPD_INT_STS.CAMP_END, .fld UPD_CURDS.USED, .fld UPD_READY.FRAMES, .fld UPD_READY.PEAK, .fld UPD_SYM_SENT, .fld UPD_ANN_SENT,
      .fld (UPD_C_STS.STATE 0), .fld (UPD_C_STS.END_WHY 0), .fld (UPD_C_ROUND.ROUND 0), .fld (UPD_C_SENT.COUNT 0), .part .qms, .part .camps]]
  | .txRxTurnaroundEnd .. => [timeTouches, eventTouches, planTouches, [.fld (RFE_STS.STATE 0), .fld (RFE_STS.LOCKED 0), .fld (RFE_STS.CAL_DUE 0),
      .fld (RFE_SYN_STS.MOVE_PEND 0), .fld (RFE_CAL_STS.DONE 0), .fld (RFE_CAL_STS.RUNNING 0), .fld (RFE_CAL_STS.BUSY 0),
      .fld (RFE_CAL_STS.PENDING 0), .fld (RFE_CAL_STS.ERR 0), .fld (RFE_RX_BLANKED 0), .fld (RFE_SYN_MOVES 0), .fld CHZ_SLICE_BUSY.BUSY,
      .fld (CHZ_SLICE_STS.STATE 0), .fld SEC_ENG_STS.BUSY, .part .fe, .part .slices]]
  | .lbtListenStart .. => [timeTouches, eventTouches, [.fld (RFE_INT_STS.DC_NEAR 0), .fld (RFE_DC_BLOCK 0), .fld (RFE_DC_ACK_BLOCK 0),
      .fld (RFE_DC_USED.USED 0 0), .part .fe, .part .dc]]
  | .rfeCalCmd .. => [timeTouches, [.fld (RFE_STS.CAL_DUE 0), .fld (RFE_CAL_STS.PENDING 0), .part .fe]]
  | .rfeCalForce .. => [timeTouches, [.fld (RFE_STS.STATE 0), .fld (RFE_STS.LOCKED 0), .fld (RFE_STS.CAL_DUE 0), .fld (RFE_CAL_STS.DONE 0),
      .fld (RFE_CAL_STS.RUNNING 0), .fld (RFE_CAL_STS.BUSY 0), .fld (RFE_CAL_STS.PENDING 0), .fld (RFE_CAL_STS.ERR 0), .fld (RFE_RX_BLANKED 0),
      .fld CHZ_SLICE_BUSY.BUSY, .fld (CHZ_SLICE_STS.STATE 0), .fld SEC_ENG_STS.BUSY, .part .fe, .part .slices]]
  | .calStepDone .. => [timeTouches, eventTouches, planTouches, [.regs .rfe, .fld CHZ_SLICE_BUSY.BUSY, .fld (CHZ_SLICE_STS.STATE 0),
      .fld SEC_ENG_STS.BUSY, .part .freeCtr, .part .fe, .part .slices]]
  | .rfeTempSample .. => [timeTouches, [.fld (RFE_STS.CAL_DUE 0), .fld (RFE_CAL_STS.PENDING 0), .fld (RFE_TEMP.NOW 0), .part .fe]]
  | .calStarveTimeout .. => [timeTouches, eventTouches, [.fld (RFE_INT_STS.CAL_STARVED 0)]]
  | .dcBucketAdvance .. => [timeTouches, eventTouches, [.fld (RFE_INT_STS.DC_NEAR 0), .fld (RFE_DC_USED.USED 0 0), .part .fe, .part .dc]]
  | .agcGainStep .. => [timeTouches, [.fld (RFE_AGC_STS.GAIN 0), .fld (RFE_AGC_STS.PEAK 0), .fld (RFE_AGC_STS.STEPS 0), .part .fe]]
  | .rfeTxTestWrite .. => [timeTouches, eventTouches, planTouches, frontEndTouches, [.fld (RFE_STS.COVERING 0), .fld (RFE_STS.COVERED 0),
      .fld (RFE_CAL_STS.DONE 0), .fld (RFE_CAL_STS.ERR 0), .fld (RFE_COVER_STS.PHASE 0), .fld (RFE_COVER_STS.ABORTED 0),
      .fld (RFE_COVER_STS.COUNT 0), .fld (RFE_TX_TEST.CW_EN 0), .fld (RFE_TX_TEST.PIX 0), .fld (RFE_TX_TEST.OFFSET 0), .fld (RFE_SYN_MOVES 0),
      .fld (RFE_TX_FRAMES 0)]]
  | .rfeTxAirRead .. => [[.fld (RFE_TX_AIR.AIR 0), .part .bus, .part .fe]]
  | .preambleDetect .. => [timeTouches, eventTouches, [.regs .chz, .fld SEC_ENG_STS.BUSY, .part .slices, .part .mac]]
  | .sfdFound .. => [timeTouches, [.fld CHZ_SLICE_BUSY.BUSY, .fld (CHZ_NO_SFD 0), .fld (CHZ_SLICE_STS.STATE 0), .fld SEC_ENG_STS.BUSY,
      .part .slices]]
  | .sfdTimeout .. => [timeTouches, [.fld CHZ_SLICE_BUSY.BUSY, .fld (CHZ_NO_SFD 0), .fld (CHZ_SLICE_STS.STATE 0), .fld SEC_ENG_STS.BUSY,
      .part .slices]]
  | .phrCheck .. => [timeTouches, [.fld CHZ_SLICE_BUSY.BUSY, .fld (CHZ_PHR_ERR 0), .fld (CHZ_MODE_SW 0), .fld (CHZ_LEN_ERR 0),
      .fld (CHZ_SLICE_STS.STATE 0), .fld SEC_ENG_STS.BUSY, .part .slices]]
  | .sliceFrameEnd .. => [timeTouches, eventTouches, faultTouches, [.fld CHZ_INT_STS.FIFO_OVF, .fld CHZ_SLICE_BUSY.BUSY, .fld (CHZ_FCS_ERR 0),
      .fld (CHZ_RX_OK 0), .fld (CHZ_OOG_IN 0), .fld (CHZ_OOG_OUT 0), .fld (CHZ_NOCELL 0), .fld (CHZ_FIFO_OVF 0), .fld (CHZ_SLICE_STS.STATE 0),
      .fld (CHZ_SLICE_FRAMES 0), .fld SEC_ENG_STS.BUSY, .fld PAIR_RLY_RADIO_TX, .fld PAIR_RLY_DROP, .fld PAIR_LINK_BYTES_K, .part .freeCtr,
      .part .slices, .part .mac]]
  | .classUpResult .. => [timeTouches, [.fld CHZ_CLASS_UP, .fld (CHZ_SLICE_STS.CLASS 0)]]
  | .chzPlanWrite .. => [timeTouches, eventTouches, planTouches, [.fld CHZ_INT_STS.PLAN_CLAMP, .fld (CHZ_PLAN_FE.FE_MASK 0),
      .fld (CHZ_PLAN_FE.EN 0), .fld (CHZ_PLAN_FE.ALWAYS 0), .fld (CHZ_PLAN_F0.F0_KHZ 0), .fld (CHZ_PLAN_GEO.SPACING 0),
      .fld (CHZ_PLAN_GEO.COUNT 0), .fld (CHZ_PLAN_GEO.MAX_PSDU 0), .fld (CHZ_PLAN_PHY.CLASS_MASK 0), .fld (CHZ_PLAN_PHY.HIDX 0),
      .fld (CHZ_PLAN_PHY.SFD_SET 0), .fld (CHZ_PLAN_PHY.FEC_RSC 0), .fld (CHZ_PLAN_PHY.INTLV 0), .fld (CHZ_PLAN_PHY.PRE_LEN 0),
      .fld (CHZ_PLAN_STS.CLAMPED 0)]]
  | .chzOogWrite .. => [timeTouches, [.fld (CHZ_OOG.LIMIT 0), .fld (CHZ_OOG.EFF 0)]]
  | .spectrumInterval .. => [timeTouches, [.fld (CHZ_SPEC.PWR 0), .fld (CHZ_SPEC.MAX 0), .part .specAt]]
  | .chzSlicePeakRead .. => [[.fld CHZ_SLICE_PEAK.PEAK, .part .bus]]
  | .asnTick .. => [timeTouches, eventTouches, faultTouches, planTouches, [.fld (RFE_STS.LOCKED 0), .fld (RFE_STS.CAL_DUE 0),
      .fld (RFE_STS.COVERING 0), .fld (RFE_STS.COVERED 0), .fld (RFE_SYN_STS.MOVE_PEND 0), .fld (RFE_CAL_STS.DONE 0),
      .fld (RFE_CAL_STS.RUNNING 0), .fld (RFE_CAL_STS.BUSY 0), .fld (RFE_CAL_STS.PENDING 0), .fld (RFE_CAL_STS.ERR 0),
      .fld (RFE_COVER_STS.PHASE 0), .fld (RFE_COVER_STS.ABORTED 0), .fld (RFE_RX_BLANKED 0), .fld (RFE_SYN_MOVES 0), .fld CHZ_SLICE_BUSY.BUSY,
      .fld (CHZ_SLICE_STS.STATE 0), .regs .mac, .regs .src, .fld SEC_STS.JNL_OPEN, .fld SEC_STS.ASN_HIGH, .fld SEC_INT_STS.GRP_SWITCHED,
      .fld SEC_INT_STS.GRP_LATE, .fld SEC_INT_STS.ASN_HIGH, .fld SEC_JNL_STS.STATE, .fld SEC_ENG_STS.BUSY, .fld (SEC_W_CFG.STRICT_ACTIVE 0),
      .fld (SEC_W_GRP.CUR_GEN 0), .fld (SEC_W_GRP.NEXT_VALID 0), .fld (SEC_W_GRP.PREV_VALID 0), .fld (SEC_W_GSW_HI.ARM 0),
      .fld (SEC_W_GSW_HI.LATE 0), .fld (SEC_W_GTX_FC.FC 0), .fld (SEC_W_GTX_CEIL.CEIL 0), .fld QMS_POOL_FREE.FREE, .fld QMS_POOL_PEAK.PEAK,
      .fld (QMS_POOL_USE.USED 0), .fld (QMS_POOL_USE.PEAK 0), .fld TSU_STS.ASN_RUN, .fld TSU_INT_STS.ASN_STARTED, .fld TSU_ASN_NEXT_NS.NS,
      .fld TSU_ASN_NEXT_SL.S, .fld TSU_ASN_STS.RUN, .fld TSU_ASN_STS.STOP_PEND, .fld TSU_ASN_STS.START_PEND, .fld KEY_STS.SLOTS,
      .fld (KEY_SLOT_STS.SLOT_0 0), .fld (KEY_SLOT_STS.SLOT_1 0), .fld (KEY_SLOT_STS.SLOT_2 0), .fld (KEY_SLOT_STS.SLOT_3 0),
      .fld (PCR_C_LOCAL_ECC.CORR 0), .fld (FLT_RAW.B 0), .fld PAIR_STS.SYNC, .fld PAIR_INT_STS.MIR_OVF, .fld PAIR_LAST.LAGGING, .fld PAIR_MIR_TX,
      .fld PAIR_MIR_OVF, .fld PAIR_KEY_MIRRORED, .fld PAIR_LINK_BYTES_K, .fld PAIR_MIR_SEQ.MSEQ, .fld PAIR_MIR_STS.CURDS, .fld PAIR_MIR_STS.PEAK,
      .part .freeCtr, .part .nodes, .part .slices, .part .mac, .part .lanes, .part .src, .part .sec, .part .jdev, .part .cave, .part .cel]]
  | .macAsnLoRead .. => [[.part .bus, .part .latch]]
  | .macSlotLenWrite .. => [timeTouches, [.fld (CHZ_OOG.EFF 0), .fld MAC_SLOT_LEN.LEN_US, .fld (MAC_TT_TX.TX_OFS 0), .fld (MAC_TT_TX.TX_COMMIT 0),
      .fld (MAC_TT_GUARD.GUARD 0), .fld (MAC_TT_ACK.TX_ACK_DELAY 0), .fld (MAC_TT_RXACK.RX_ACK_DELAY 0), .fld (MAC_TT_RXACK.ACK_WAIT 0),
      .fld (MAC_TT_EFF.EARLY 0), .fld (MAC_TT_EFF.LATE 0), .fld TSU_ASN_STS.LEN_US, .fld PAIR_HB_CFG.HB_US]]
  | .macTtWrite .. => [timeTouches, [.fld (CHZ_OOG.EFF 0), .fld (MAC_TT_TX.TX_OFS 0), .fld (MAC_TT_TX.TX_COMMIT 0), .fld (MAC_TT_GUARD.GUARD 0),
      .fld (MAC_TT_GUARD.PRESHIFT_EN 0), .fld (MAC_TT_ACK.TX_ACK_DELAY 0), .fld (MAC_TT_RXACK.RX_ACK_DELAY 0), .fld (MAC_TT_RXACK.ACK_WAIT 0),
      .fld (MAC_TT_CCA.CCA_EN 0), .fld (MAC_TT_CCA.CCA_LEN 0), .fld (MAC_TT_CCA.CCA_THR 0), .fld (MAC_TT_OPT.EN 0), .fld (MAC_TT_OPT.ACK_EN 0),
      .fld (MAC_TT_PIX.DATA_PIX 0), .fld (MAC_TT_PIX.RETRY_PIX 0), .fld (MAC_TT_EFF.EARLY 0), .fld (MAC_TT_EFF.LATE 0)]]
  | .macHsDataAccess .. => [timeTouches, [.fld MAC_HS_IDX.ENTRY, .fld MAC_HS_DATA.PLAN, .fld MAC_HS_DATA.CHAN, .part .bus, .part .mac]]
  | .hsSwitchArm .. => [timeTouches, eventTouches, [.fld MAC_STS.TRACE_WP, .fld MAC_INT_STS.HS_LATE, .fld MAC_HS_CTL.MASK, .fld MAC_HS_CTL.ARM,
      .fld (MAC_TRACE.WORD 0), .part .mac]]
  | .hsSwitchCancel .. => [timeTouches, [.fld MAC_HS_CTL.MASK, .fld MAC_HS_CTL.ARM, .part .mac]]
  | .macLsUcDataWrite .. => [timeTouches, [.fld (MAC_LS_UC_IDX.WORD 0), .fld (MAC_LS_VER.INACTIVE 0), .part .freeCtr, .part .lanes]]
  | .macLsSwapArm .. => [timeTouches, eventTouches, [.fld MAC_STS.TRACE_WP, .fld MAC_INT_STS.UC_BAD, .fld (MAC_TRACE.WORD 0),
      .fld (MAC_LS_STS.STATE 0), .fld (MAC_LS_SWAP.SF 0), .fld (MAC_LS_SWAP.ARM 0), .fld (MAC_LS_SWAP.BAD 0)]]
  | .transmitCommitPoint .. => [timeTouches, eventTouches, [.fld MAC_STS.TRACE_WP, .fld MAC_INT_STS.TX_MISSED, .fld (MAC_TRACE.WORD 0),
      .fld (MAC_W_PRESHIFT_LIM 0), .fld (MAC_LS_TX_MISSED 0), .fld (MAC_LS_TX_NOFIT 0), .fld (MAC_LS_EB_MISSED 0), .fld SRC_PICK_LATE, .part .fe,
      .part .lanes]]
  | .transmitItemReady .. => [timeTouches, [.fld SEC_ENG_STS.BUSY, .fld SEC_ENG_PEAK.PEAK, .fld (SEC_ENG_OPS 0), .fld QMS_POOL_FREE.FREE,
      .fld (QMS_POOL_USE.USED 0), .fld UPD_READY.FRAMES, .fld UPD_READY.PEAK, .fld KEY_ABORTS, .part .lanes, .part .qms, .part .sec, .part .camps]]
  | .ccmDispatch .. => [timeTouches, [.fld SEC_ENG_STS.BUSY, .fld SEC_ENG_PEAK.PEAK, .fld (SEC_ENG_OPS 0), .fld KEY_ABORTS, .part .slices,
      .part .mac]]
  | .verdict .. => [timeTouches, eventTouches, faultTouches, [.fld MAC_STS.TRACE_WP, .fld (MAC_TRACE.WORD 0), .fld (MAC_W_RX_ACCEPT 0),
      .fld (MAC_W_RX_REPEAT 0), .fld (MAC_W_RX_REPLAY 0), .fld (MAC_W_RX_MIC_FAIL 0), .fld (MAC_W_RX_NOSRC 0), .fld (MAC_W_RX_UNSEC 0),
      .fld (MAC_W_RX_FENCED 0), .fld (MAC_W_RX_NOTME 0), .fld (MAC_W_JOIN_REQ 0), .fld (MAC_W_JOIN_DROP 0), .regs .sec,
      .fld FWD_INT_STS.RACE_MISS, .fld FWD_LOOKUPS, .fld FWD_HITS, .fld FWD_MISSES, .fld FWD_RETRIES, .fld FWD_RACE_MISS, .fld FWD_VAT_HITS,
      .fld QMS_POOL_FREE.FREE, .fld QMS_POOL_PEAK.PEAK, .fld QMS_WHEY_TOTAL, .fld (QMS_POOL_USE.USED 0), .fld (QMS_POOL_USE.PEAK 0),
      .fld (QMS_WHEY 0), .fld SHP_POL_PASS, .fld SHP_POL_DROP, .fld UPD_STS.ACTIVE, .fld UPD_STS.PRESS_BUSY, .fld UPD_INT_STS.CAMP_END,
      .fld UPD_INT_STS.NODE_FAIL, .fld UPD_READY.FRAMES, .fld UPD_READY.PEAK, .fld UPD_RPT_RX, .fld UPD_RPT_STALE, .fld UPD_NODE_DONE,
      .fld UPD_NODE_FAIL, .fld UPD_NODE_REFUSED, .fld (UPD_C_STS.STATE 0), .fld (UPD_C_STS.END_WHY 0), .fld (UPD_C_NODES.ACTIVE 0),
      .fld (UPD_C_DONE.DONE 0), .fld (UPD_C_FAIL.FAIL 0), .fld (PCR_C_LOCAL_ECC.CORR 0), .fld (FLT_RAW.B 0), .fld PAIR_STS.SYNC,
      .fld PAIR_INT_STS.MIR_OVF, .fld PAIR_LAST.LAGGING, .fld PAIR_MIR_TX, .fld PAIR_MIR_OVF, .fld PAIR_KEY_MIRRORED, .fld PAIR_LINK_BYTES_K,
      .fld PAIR_MIR_SEQ.MSEQ, .fld PAIR_MIR_STS.CURDS, .fld PAIR_MIR_STS.PEAK, .part .freeCtr, .part .nodes, .part .mac, .part .src, .part .qms,
      .part .sec, .part .jdev, .part .fwd, .part .camps]]
  | .ackCommitPoint .. => [timeTouches, eventTouches, faultTouches, [.fld (RFE_INT_STS.DC_NEAR 0), .fld (RFE_DC_BLOCK 0),
      .fld (RFE_DC_ACK_BLOCK 0), .fld (RFE_DC_USED.USED 0 0), .fld MAC_STS.TRACE_WP, .fld MAC_INT_STS.ACK_SKIP, .fld MAC_ACK_MARGIN.MIN,
      .fld (MAC_TRACE.WORD 0), .fld (MAC_LS_VHIST.COUNT 0 0), .fld (MAC_LS_ACK_SENT 0), .fld (MAC_LS_ACK_SKIP 0), .fld (MAC_LS_ACK_BUSY 0),
      .fld (MAC_LS_ACK_FULL 0), .fld (MAC_LS_ACK_SAMESLOT 0), .fld SEC_KC_STS.USED, .fld SEC_KC_HIT, .fld SEC_KC_MISS, .fld SEC_REKEY_SENT,
      .fld SEC_ACK_UNSEC, .fld QMS_WHEY_TOTAL, .fld (QMS_WHEY 0), .part .freeCtr, .part .nodes, .part .dc, .part .mac, .part .lanes, .part .sec]]
  | .nodeAckReceived .. => [timeTouches, eventTouches, faultTouches, [.fld (MAC_W_RX_FENCED 0), .fld (MAC_W_TX_OK 0), .fld SRC_STS.STAGED,
      .fld SRC_ADDS, .fld SRC_DELETES, .fld SRC_MOVES, .fld SRC_6P_OK, .fld SEC_KC_STS.USED, .fld SEC_ENG_STS.BUSY, .fld SEC_KC_HIT,
      .fld SEC_KC_MISS, .fld SEC_WHEY_TAMPER, .fld QMS_POOL_FREE.FREE, .fld QMS_POOL_PEAK.PEAK, .fld QMS_WHEY_TOTAL, .fld (QMS_POOL_USE.USED 0),
      .fld (QMS_POOL_USE.PEAK 0), .fld (QMS_W_NFRAMES.FRAMES 0), .fld (QMS_WHEY 0), .fld (FLT_RAW.B 0), .fld PAIR_STS.SYNC,
      .fld PAIR_INT_STS.MIR_OVF, .fld PAIR_MIR_TX, .fld PAIR_MIR_OVF, .fld PAIR_LINK_BYTES_K, .fld PAIR_MIR_SEQ.MSEQ, .fld PAIR_MIR_STS.CURDS,
      .fld PAIR_MIR_STS.PEAK, .part .freeCtr, .part .nodes, .part .mac, .part .lanes, .part .src, .part .qms, .part .sec]]
  | .ackWaitExpiry .. => [timeTouches, [.fld MAC_STS.TRACE_WP, .fld (MAC_TRACE.WORD 0), .fld (MAC_W_TX_RETRY_DROP 0), .fld SRC_STS.STAGED,
      .fld SRC_ADDS, .fld SRC_DELETES, .fld SRC_MOVES, .fld QMS_POOL_FREE.FREE, .fld QMS_WHEY_TOTAL, .fld (QMS_POOL_USE.USED 0),
      .fld (QMS_W_NFRAMES.FRAMES 0), .fld (QMS_WHEY 0), .part .freeCtr, .part .nodes, .part .lanes, .part .src, .part .qms, .part .pair]]
  | .quietTimeout .. => [timeTouches, eventTouches, faultTouches, [.fld MAC_STS.TRACE_WP, .fld (MAC_TRACE.WORD 0), .fld QMS_POOL_FREE.FREE,
      .fld QMS_POOL_PEAK.PEAK, .fld (QMS_POOL_USE.USED 0), .fld (QMS_POOL_USE.PEAK 0), .fld (FLT_RAW.B 0), .fld PAIR_STS.SYNC,
      .fld PAIR_INT_STS.MIR_OVF, .fld PAIR_MIR_TX, .fld PAIR_MIR_OVF, .fld PAIR_LINK_BYTES_K, .fld PAIR_MIR_SEQ.MSEQ, .fld PAIR_MIR_STS.CURDS,
      .fld PAIR_MIR_STS.PEAK, .part .freeCtr, .part .nodes]]
  | .macBurstPeakRead .. => [[.fld MAC_BURST_PEAK.PEAK, .part .bus]]
  | .macAckMarginRead .. => [[.fld MAC_ACK_MARGIN.MIN, .part .bus]]
  | .macLsVhistRead .. => [[.fld (MAC_LS_VHIST.COUNT 0 0), .part .bus]]
  | .sfEnable .. => [timeTouches, eventTouches, [.regs .src, .part .freeCtr, .part .src]]
  | .sfDisable .. => [timeTouches, eventTouches, [.fld SRC_STS.STAGED, .fld SRC_INT_STS.ENV_OVER, .fld SRC_CELLS_USED.CELLS,
      .fld SRC_CELLS_PEAK.PEAK, .fld (SRC_SF_CFG.EN 0), .fld (SRC_W_CELLS.CELLS 0), .fld (SRC_W_CELLS.OVER 0), .part .src]]
  | .commitMsExpiry .. => [timeTouches, [.fld SRC_STS.STAGED, .part .src]]
  | .genCommit .. => [timeTouches, [.fld SRC_STS.STAGED, .part .src]]
  | .genApplyComplete .. => [timeTouches, eventTouches, faultTouches, [.regs .src, .fld QMS_INT_STS.NOCURD, .fld QMS_POOL_FREE.FREE,
      .fld QMS_POOL_PEAK.PEAK, .fld QMS_ENQ_FRAMES, .fld QMS_ALLOC_FAIL, .fld QMS_WHEY_TOTAL, .fld (QMS_POOL_USE.USED 0),
      .fld (QMS_POOL_USE.PEAK 0), .fld (QMS_W_NPEAK.PEAK 0), .fld (QMS_W_NPEAK.NIX 0), .fld (QMS_W_NFRAMES.FRAMES 0), .fld (QMS_WHEY 0),
      .fld HIF_CMD_DONE, .fld HIF_CMD_FAIL, .fld HIF_BADARG, .fld (HIF_CMDR_FAIL.COUNT 0), .fld (FLT_RAW.B 0), .fld PAIR_STS.SYNC,
      .fld PAIR_INT_STS.MIR_OVF, .fld PAIR_MIR_TX, .fld PAIR_MIR_OVF, .fld PAIR_GEN_MIRRORED, .fld PAIR_LINK_BYTES_K, .fld PAIR_MIR_SEQ.MSEQ,
      .fld PAIR_MIR_STS.CURDS, .fld PAIR_MIR_STS.PEAK, .part .freeCtr, .part .nodes, .part .src, .part .qms]]
  | .genClear .. => [timeTouches, eventTouches, [.fld SRC_STS.STAGED, .fld SRC_INT_STS.ENV_OVER, .fld SRC_GEN.CUR, .fld SRC_GEN.BOUND,
      .fld (SRC_QUIET_STS.NEXT_IN 0), .fld SRC_CELLS_USED.CELLS, .fld SRC_CELLS_PEAK.PEAK, .fld SRC_ADDS, .fld SRC_DELETES, .fld SRC_MOVES,
      .fld (SRC_SF_CFG.EN 0), .fld (SRC_SF_CFG.ON 0), .fld (SRC_W_CELLS.CELLS 0), .fld (SRC_W_CELLS.OVER 0), .fld QMS_INT_STS.NOCURD,
      .fld QMS_POOL_FREE.FREE, .fld QMS_POOL_PEAK.PEAK, .fld QMS_ENQ_FRAMES, .fld QMS_ALLOC_FAIL, .fld QMS_WHEY_TOTAL, .fld (QMS_POOL_USE.USED 0),
      .fld (QMS_POOL_USE.PEAK 0), .fld (QMS_W_NPEAK.PEAK 0), .fld (QMS_W_NPEAK.NIX 0), .fld (QMS_W_NFRAMES.FRAMES 0), .fld (QMS_WHEY 0),
      .fld HIF_CMD_DONE, .fld HIF_CMD_FAIL, .fld HIF_BADARG, .fld (HIF_CMDR_FAIL.COUNT 0), .part .freeCtr, .part .nodes, .part .src, .part .qms,
      .part .pair]]
  | .schedAdd .. => [timeTouches, eventTouches, faultTouches, commandTouches, [.regs .src, .fld QMS_INT_STS.NOCURD, .fld QMS_POOL_FREE.FREE,
      .fld QMS_POOL_PEAK.PEAK, .fld QMS_ENQ_FRAMES, .fld QMS_ALLOC_FAIL, .fld QMS_WHEY_TOTAL, .fld (QMS_POOL_USE.USED 0),
      .fld (QMS_POOL_USE.PEAK 0), .fld (QMS_W_NPEAK.PEAK 0), .fld (QMS_W_NPEAK.NIX 0), .fld (QMS_W_NFRAMES.FRAMES 0), .fld (QMS_WHEY 0),
      .fld HIF_CMD_DONE, .fld HIF_CMD_FAIL, .fld HIF_BADARG, .fld (HIF_CMDR_FAIL.COUNT 0), .part .freeCtr, .part .nodes, .part .src, .part .qms]]
  | .schedDel .. => [timeTouches, eventTouches, faultTouches, commandTouches, [.fld SRC_STS.STAGED, .fld SRC_ADDS, .fld SRC_DELETES,
      .fld SRC_MOVES, .fld SRC_6P_INIT, .fld SRC_HOST_CMDS, .fld QMS_INT_STS.NOCURD, .fld QMS_POOL_FREE.FREE, .fld QMS_POOL_PEAK.PEAK,
      .fld QMS_ENQ_FRAMES, .fld QMS_ALLOC_FAIL, .fld QMS_WHEY_TOTAL, .fld (QMS_POOL_USE.USED 0), .fld (QMS_POOL_USE.PEAK 0),
      .fld (QMS_W_NPEAK.PEAK 0), .fld (QMS_W_NPEAK.NIX 0), .fld (QMS_W_NFRAMES.FRAMES 0), .fld (QMS_WHEY 0), .fld HIF_CMD_DONE, .fld HIF_CMD_FAIL,
      .fld HIF_BADARG, .fld (HIF_CMDR_FAIL.COUNT 0), .part .freeCtr, .part .nodes, .part .src, .part .qms]]
  | .schedMove .. => [timeTouches, eventTouches, faultTouches, commandTouches, [.regs .src, .fld QMS_INT_STS.NOCURD, .fld QMS_POOL_FREE.FREE,
      .fld QMS_POOL_PEAK.PEAK, .fld QMS_ENQ_FRAMES, .fld QMS_ALLOC_FAIL, .fld QMS_WHEY_TOTAL, .fld (QMS_POOL_USE.USED 0),
      .fld (QMS_POOL_USE.PEAK 0), .fld (QMS_W_NPEAK.PEAK 0), .fld (QMS_W_NPEAK.NIX 0), .fld (QMS_W_NFRAMES.FRAMES 0), .fld (QMS_WHEY 0),
      .fld HIF_CMD_DONE, .fld HIF_CMD_FAIL, .fld HIF_BADARG, .fld (HIF_CMDR_FAIL.COUNT 0), .part .freeCtr, .part .nodes, .part .src, .part .qms]]
  | .schedRead .. => [timeTouches, eventTouches, faultTouches, commandTouches, [.fld SRC_HOST_CMDS, .fld HIF_CMD_DONE, .fld HIF_CMD_FAIL,
      .fld HIF_BADARG, .fld (HIF_CMDR_FAIL.COUNT 0)]]
  | .schedNode .. => [timeTouches, eventTouches, faultTouches, commandTouches, [.fld SRC_HOST_CMDS, .fld HIF_CMD_DONE, .fld HIF_CMD_FAIL,
      .fld HIF_BADARG, .fld (HIF_CMDR_FAIL.COUNT 0)]]
  | .schedSfClear .. => [timeTouches, eventTouches, faultTouches, commandTouches, [.fld SRC_STS.STAGED, .fld SRC_ADDS, .fld SRC_DELETES,
      .fld SRC_MOVES, .fld SRC_HOST_CMDS, .fld HIF_CMD_DONE, .fld HIF_CMD_FAIL, .fld HIF_BADARG, .fld (HIF_CMDR_FAIL.COUNT 0), .part .src]]
  | .adaptVisit .. => [timeTouches, eventTouches, [.regs .src, .fld QMS_INT_STS.NOCURD, .fld QMS_POOL_FREE.FREE, .fld QMS_POOL_PEAK.PEAK,
      .fld QMS_ENQ_FRAMES, .fld QMS_ALLOC_FAIL, .fld QMS_WHEY_TOTAL, .fld (QMS_POOL_USE.USED 0), .fld (QMS_POOL_USE.PEAK 0),
      .fld (QMS_W_NPEAK.PEAK 0), .fld (QMS_W_NPEAK.NIX 0), .fld (QMS_W_NFRAMES.FRAMES 0), .fld (QMS_WHEY 0), .part .freeCtr, .part .nodes,
      .part .src, .part .qms, .part .pair]]
  | .seracPick .. => [timeTouches, eventTouches, faultTouches, [.fld MAC_STS.TRACE_WP, .fld (MAC_TRACE.WORD 0), .fld (MAC_W_TX_OVERSIZE 0),
      .fld SRC_STS.STAGED, .fld SRC_ADDS, .fld SRC_DELETES, .fld SRC_MOVES, .regs .sec, .regs .qms, .fld UPD_STS.ACTIVE, .fld UPD_STS.PRESS_BUSY,
      .fld UPD_INT_STS.CAMP_END, .fld UPD_INT_STS.STARVE, .fld UPD_CURDS.USED, .fld UPD_READY.FRAMES, .fld UPD_READY.PEAK, .fld UPD_STARVE,
      .fld UPD_RATE_SKIP, .fld UPD_NOFIT, .fld UPD_SHARED_FILL, .fld UPD_SIGN_OPS, .fld (UPD_C_STS.STATE 0), .fld (UPD_C_STS.END_WHY 0),
      .fld (UPD_C_ROUND.ROUND 0), .fld KEY_ABORTS, .fld (PCR_C_LOCAL_ECC.CORR 0), .fld (FLT_RAW.B 0), .fld PAIR_STS.SYNC,
      .fld PAIR_INT_STS.MIR_OVF, .fld PAIR_MIR_TX, .fld PAIR_MIR_OVF, .fld PAIR_LINK_BYTES_K, .fld PAIR_MIR_SEQ.MSEQ, .fld PAIR_MIR_STS.CURDS,
      .fld PAIR_MIR_STS.PEAK, .part .freeCtr, .part .nodes, .part .lanes, .part .src, .part .qms, .part .sec, .part .jdev, .part .camps]]
  | .p6Request .. => [timeTouches, eventTouches, faultTouches, [.regs .src, .fld QMS_INT_STS.NOCURD, .fld QMS_POOL_FREE.FREE,
      .fld QMS_POOL_PEAK.PEAK, .fld QMS_ENQ_FRAMES, .fld QMS_ALLOC_FAIL, .fld QMS_WHEY_TOTAL, .fld (QMS_POOL_USE.USED 0),
      .fld (QMS_POOL_USE.PEAK 0), .fld (QMS_W_NPEAK.PEAK 0), .fld (QMS_W_NPEAK.NIX 0), .fld (QMS_W_NFRAMES.FRAMES 0), .fld (QMS_WHEY 0),
      .fld (FLT_RAW.B 0), .fld PAIR_STS.SYNC, .fld PAIR_INT_STS.MIR_OVF, .fld PAIR_MIR_TX, .fld PAIR_MIR_OVF, .fld PAIR_LINK_BYTES_K,
      .fld PAIR_MIR_SEQ.MSEQ, .fld PAIR_MIR_STS.CURDS, .fld PAIR_MIR_STS.PEAK, .part .freeCtr, .part .nodes, .part .src, .part .qms]]
  | .p6Response .. => [timeTouches, eventTouches, faultTouches, [.regs .src, .fld QMS_INT_STS.NOCURD, .fld QMS_POOL_FREE.FREE,
      .fld QMS_POOL_PEAK.PEAK, .fld QMS_ENQ_FRAMES, .fld QMS_ALLOC_FAIL, .fld QMS_WHEY_TOTAL, .fld (QMS_POOL_USE.USED 0),
      .fld (QMS_POOL_USE.PEAK 0), .fld (QMS_W_NPEAK.PEAK 0), .fld (QMS_W_NPEAK.NIX 0), .fld (QMS_W_NFRAMES.FRAMES 0), .fld (QMS_WHEY 0),
      .fld HIF_CMD_DONE, .fld HIF_CMD_FAIL, .fld HIF_BADARG, .fld (HIF_CMDR_FAIL.COUNT 0), .fld (FLT_RAW.B 0), .fld PAIR_STS.SYNC,
      .fld PAIR_INT_STS.MIR_OVF, .fld PAIR_MIR_TX, .fld PAIR_MIR_OVF, .fld PAIR_LINK_BYTES_K, .fld PAIR_MIR_SEQ.MSEQ, .fld PAIR_MIR_STS.CURDS,
      .fld PAIR_MIR_STS.PEAK, .part .freeCtr, .part .nodes, .part .src, .part .qms]]
  | .p6TransactionTimeout .. => [timeTouches, eventTouches, faultTouches, [.regs .src, .fld QMS_INT_STS.NOCURD, .fld QMS_POOL_FREE.FREE,
      .fld QMS_POOL_PEAK.PEAK, .fld QMS_ENQ_FRAMES, .fld QMS_ALLOC_FAIL, .fld QMS_WHEY_TOTAL, .fld (QMS_POOL_USE.USED 0),
      .fld (QMS_POOL_USE.PEAK 0), .fld (QMS_W_NPEAK.PEAK 0), .fld (QMS_W_NPEAK.NIX 0), .fld (QMS_W_NFRAMES.FRAMES 0), .fld (QMS_WHEY 0),
      .fld HIF_CMD_DONE, .fld HIF_CMD_FAIL, .fld HIF_BADARG, .fld (HIF_CMDR_FAIL.COUNT 0), .fld (FLT_RAW.B 0), .fld PAIR_STS.SYNC,
      .fld PAIR_INT_STS.MIR_OVF, .fld PAIR_MIR_TX, .fld PAIR_MIR_OVF, .fld PAIR_LINK_BYTES_K, .fld PAIR_MIR_SEQ.MSEQ, .fld PAIR_MIR_STS.CURDS,
      .fld PAIR_MIR_STS.PEAK, .part .freeCtr, .part .nodes, .part .src, .part .qms]]
  | .sfSwitchArm .. => [timeTouches, eventTouches, [.regs .src, .part .freeCtr]]
  | .wmoveArm .. => [timeTouches, [.fld SRC_STS.WMOVE_LATE, .fld SRC_WMOVE_CTL.FE, .fld SRC_WMOVE_CTL.CENTRE, .fld SRC_WMOVE_CTL.ARM,
      .fld SRC_WMOVE_CTL.BAD, .part .src]]
  | .wmoveCentreWrite .. => [timeTouches, eventTouches, planTouches, [.fld (RFE_TUNE.CENTRE 0), .fld (RFE_SYN_STS.MOVE_PEND 0), .part .src]]
  | .quietAutoPlace .. => [timeTouches, [.fld SRC_STS.STAGED, .fld SRC_CHK_LAST.US, .fld SRC_CHK_PEAK.US, .part .freeCtr, .part .src]]
  | .srcUcDataWrite .. => [timeTouches, [.fld SRC_UC_IDX.WORD, .fld SRC_UC_VER.INACTIVE, .part .freeCtr, .part .src]]
  | .srcUcArm .. => [timeTouches, eventTouches, [.fld SRC_STS.STAGED, .fld SRC_INT_STS.UC_BAD, .fld SRC_UC_CTL.ARM, .fld SRC_UC_CTL.BAD,
      .part .src]]
  | .srcCellsPeakRead .. => [[.fld SRC_CELLS_PEAK.PEAK, .part .bus]]
  | .srcChkPeakRead .. => [[.fld SRC_CHK_PEAK.US, .part .bus]]
  | .keySet .. => [timeTouches, eventTouches, faultTouches, commandTouches, [.fld SEC_STS.JNL_OPEN, .fld SEC_JNL_STS.STATE, .fld SEC_KC_STS.USED,
      .fld SEC_KGEN_ADV, .fld (SEC_W_CFG.STRICT_ACTIVE 0), .fld (SEC_W_PEND.COUNT 0), .fld (SEC_W_HALT.COUNT 0), .fld QMS_POOL_FREE.FREE,
      .fld QMS_POOL_PEAK.PEAK, .fld (QMS_POOL_USE.USED 0), .fld (QMS_POOL_USE.PEAK 0), .fld HIF_CMD_DONE, .fld HIF_CMD_FAIL, .fld HIF_BADARG,
      .fld (HIF_CMDR_FAIL.COUNT 0), .fld KEY_UNWRAP_FAIL, .fld (FLT_RAW.B 0), .fld PAIR_STS.SYNC, .fld PAIR_INT_STS.MIR_OVF,
      .fld PAIR_LAST.LAGGING, .fld PAIR_MIR_TX, .fld PAIR_MIR_OVF, .fld PAIR_KEY_MIRRORED, .fld PAIR_LINK_BYTES_K, .fld PAIR_MIR_SEQ.MSEQ,
      .fld PAIR_MIR_STS.CURDS, .fld PAIR_MIR_STS.PEAK, .part .freeCtr, .part .nodes, .part .sec, .part .jdev]]
  | .keyRatchet .. => [timeTouches, eventTouches, faultTouches, commandTouches, [.fld SEC_STS.JNL_OPEN, .fld SEC_JNL_STS.STATE,
      .fld (SEC_W_PEND.COUNT 0), .fld QMS_POOL_FREE.FREE, .fld QMS_POOL_PEAK.PEAK, .fld (QMS_POOL_USE.USED 0), .fld (QMS_POOL_USE.PEAK 0),
      .fld HIF_CMD_DONE, .fld HIF_CMD_FAIL, .fld HIF_BADARG, .fld (HIF_CMDR_FAIL.COUNT 0), .fld (FLT_RAW.B 0), .fld PAIR_STS.SYNC,
      .fld PAIR_INT_STS.MIR_OVF, .fld PAIR_MIR_TX, .fld PAIR_MIR_OVF, .fld PAIR_LINK_BYTES_K, .fld PAIR_MIR_SEQ.MSEQ, .fld PAIR_MIR_STS.CURDS,
      .fld PAIR_MIR_STS.PEAK, .part .freeCtr, .part .sec, .part .jdev]]
  | .groupKeyLoad .. => [timeTouches, eventTouches, faultTouches, commandTouches, [.fld SEC_STS.JNL_OPEN, .fld SEC_JNL_STS.STATE,
      .fld (SEC_W_GRP.NEXT_GEN 0), .fld (SEC_W_GRP.NEXT_VALID 0), .fld QMS_POOL_FREE.FREE, .fld QMS_POOL_PEAK.PEAK, .fld (QMS_POOL_USE.USED 0),
      .fld (QMS_POOL_USE.PEAK 0), .fld HIF_CMD_DONE, .fld HIF_CMD_FAIL, .fld HIF_BADARG, .fld (HIF_CMDR_FAIL.COUNT 0), .fld KEY_STS.SLOTS,
      .fld KEY_UNWRAP_FAIL, .fld KEY_GROUP_LOADS, .fld (KEY_SLOT_STS.SLOT_0 0), .fld (KEY_SLOT_STS.SLOT_1 0), .fld (KEY_SLOT_STS.SLOT_2 0),
      .fld (KEY_SLOT_STS.SLOT_3 0), .fld (FLT_RAW.B 0), .fld PAIR_STS.SYNC, .fld PAIR_INT_STS.MIR_OVF, .fld PAIR_MIR_TX, .fld PAIR_MIR_OVF,
      .fld PAIR_KEY_MIRRORED, .fld PAIR_LINK_BYTES_K, .fld PAIR_MIR_SEQ.MSEQ, .fld PAIR_MIR_STS.CURDS, .fld PAIR_MIR_STS.PEAK, .part .freeCtr,
      .part .sec, .part .jdev, .part .cave]]
  | .groupSwitchArm .. => [timeTouches, eventTouches, [.fld SEC_INT_STS.GRP_LATE, .fld (SEC_W_GSW_HI.ASN 0), .fld (SEC_W_GSW_HI.ARM 0),
      .fld (SEC_W_GSW_HI.LATE 0), .part .sec]]
  | .groupGraceExpiry .. => [timeTouches, [.fld (SEC_W_GRP.PREV_VALID 0), .fld KEY_STS.SLOTS, .fld KEY_GROUP_ZEROED, .fld (KEY_SLOT_STS.SLOT_0 0),
      .fld (KEY_SLOT_STS.SLOT_1 0), .fld (KEY_SLOT_STS.SLOT_2 0), .fld (KEY_SLOT_STS.SLOT_3 0), .part .freeCtr, .part .sec, .part .cave]]
  | .journalCommitDone .. => [timeTouches, eventTouches, faultTouches, [.regs .sec, .fld QMS_POOL_FREE.FREE, .fld QMS_POOL_PEAK.PEAK,
      .fld (QMS_POOL_USE.USED 0), .fld (QMS_POOL_USE.PEAK 0), .fld HIF_CMD_DONE, .fld HIF_CMD_FAIL, .fld HIF_BADARG, .fld (HIF_CMDR_FAIL.COUNT 0),
      .fld (FLT_RAW.B 0), .fld PAIR_STS.SYNC, .fld PAIR_INT_STS.SYNCED, .fld PAIR_INT_STS.MIR_OVF, .fld PAIR_LAST.LAGGING, .fld PAIR_MIR_TX,
      .fld PAIR_MIR_OVF, .fld PAIR_RES_MIRRORED, .fld PAIR_RES_LOCAL, .fld PAIR_LINK_BYTES_K, .fld PAIR_MIR_SEQ.MSEQ, .fld PAIR_MIR_STS.CURDS,
      .fld PAIR_MIR_STS.PEAK, .fld PAIR_BULK_STS.RUN, .part .freeCtr, .part .nodes, .part .sec, .part .jdev]]
  | .copierApply .. => [timeTouches, eventTouches, faultTouches, [.fld SEC_STS.TRACE_WP, .fld SEC_JNL_STS.ERR, .fld SEC_JNL_STS.USED,
      .fld (SEC_JNL_TRACE_A.SEQ 0), .fld (SEC_JNL_TRACE_B.TYPE 0), .fld (SEC_JNL_TRACE_B.NIX 0), .fld (SEC_JNL_TRACE_B.GEN 0),
      .fld (SEC_JNL_TRACE_B.RES 0), .fld (FLT_RAW.B 0), .part .sec, .part .jdev]]
  | .jnlOpen .. => [timeTouches, eventTouches, faultTouches, [.fld SEC_INT_STS.JNL_ERR, .fld SEC_JNL_STS.STATE, .fld SEC_JNL_STS.ERR,
      .fld SEC_JNL_ERR, .fld (FLT_RAW.B 0)]]
  | .jnlOpenComplete .. => [timeTouches, eventTouches, faultTouches, [.regs .sec, .fld KEY_STS.SLOTS, .fld (KEY_SLOT_STS.SLOT_0 0),
      .fld (KEY_SLOT_STS.SLOT_1 0), .fld (KEY_SLOT_STS.SLOT_2 0), .fld (KEY_SLOT_STS.SLOT_3 0), .fld (FLT_RAW.B 0), .part .freeCtr, .part .sec,
      .part .jdev, .part .cave]]
  | .jnlClose .. => [timeTouches, [.fld SEC_JNL_STS.STATE, .part .sec]]
  | .jnlCloseComplete .. => [timeTouches, [.fld SEC_STS.JNL_OPEN, .fld SEC_JNL_STS.STATE, .part .jdev]]
  | .jnlFormat .. => [timeTouches, [.part .sec, .part .jdev]]
  | .snapNow .. => [timeTouches, [.fld SEC_STS.JNL_OPEN, .fld SEC_JNL_STS.STATE, .part .sec, .part .jdev]]
  | .snapPeriodExpiry .. => [timeTouches, eventTouches, [.fld SEC_INT_STS.SNAP_LATE, .part .sec]]
  | .snapPassComplete .. => [timeTouches, eventTouches, [.fld SEC_INT_STS.SNAP_DONE, .fld SEC_SNAP_STS.ENTRIES, .fld SEC_SNAP_STS.LAST_MS,
      .fld SEC_SNAP_WRITES, .part .sec, .part .jdev]]
  | .secEngPeakRead .. => [[.fld SEC_ENG_PEAK.PEAK, .part .bus]]
  | .secJnlPeakRead .. => [[.fld SEC_JNL_PEAK.PEAK, .part .bus]]
  | .learnCommit .. => [timeTouches, eventTouches, faultTouches, [.regs .fwd, .fld QMS_POOL_FREE.FREE, .fld QMS_POOL_PEAK.PEAK,
      .fld (QMS_POOL_USE.USED 0), .fld (QMS_POOL_USE.PEAK 0), .fld (FLT_RAW.B 0), .fld PAIR_STS.SYNC, .fld PAIR_INT_STS.MIR_OVF, .fld PAIR_MIR_TX,
      .fld PAIR_MIR_OVF, .fld PAIR_FWT_MIRRORED, .fld PAIR_LINK_BYTES_K, .fld PAIR_MIR_SEQ.MSEQ, .fld PAIR_MIR_STS.CURDS, .fld PAIR_MIR_STS.PEAK,
      .part .freeCtr, .part .nodes, .part .fwd]]
  | .firnBucketVisit .. => [timeTouches, eventTouches, faultTouches, [.fld FWD_STS.ENTRIES, .fld FWD_INT_STS.VAT_FULL, .fld FWD_FIRN_STS.POS,
      .fld FWD_VAT_STS.USED, .fld FWD_VAT_STS.NOFWT, .fld FWD_INSERTS, .fld FWD_RELOCS, .fld FWD_VAT_INSERTS, .fld FWD_INSERT_FAIL,
      .fld FWD_FIRN_REMOVED, .fld FWD_FIRN_SKIP, .fld FWD_LOCK_WAIT, .fld QMS_POOL_FREE.FREE, .fld QMS_POOL_PEAK.PEAK, .fld (QMS_POOL_USE.USED 0),
      .fld (QMS_POOL_USE.PEAK 0), .fld (PCR_C_LOCAL_ECC.CORR 0), .fld (FLT_RAW.B 0), .fld PAIR_STS.SYNC, .fld PAIR_INT_STS.MIR_OVF,
      .fld PAIR_MIR_TX, .fld PAIR_MIR_OVF, .fld PAIR_FWT_MIRRORED, .fld PAIR_LINK_BYTES_K, .fld PAIR_MIR_SEQ.MSEQ, .fld PAIR_MIR_STS.CURDS,
      .fld PAIR_MIR_STS.PEAK, .part .freeCtr, .part .nodes, .part .fwd]]
  | .firnSweepEnd .. => [timeTouches, eventTouches, [.fld FWD_STS.RESHARD, .fld FWD_STS.ENTRIES, .fld FWD_INT_STS.VAT_FULL,
      .fld FWD_FIRN_STS.SWEEPS, .fld FWD_VAT_STS.USED, .fld FWD_VAT_STS.NOFWT, .fld FWD_INSERTS, .fld FWD_RELOCS, .fld FWD_VAT_INSERTS,
      .fld FWD_INSERT_FAIL, .fld FWD_LOCK_WAIT, .part .nodes, .part .fwd, .part .pair]]
  | .reshardStart .. => [timeTouches, eventTouches, [.fld FWD_STS.RESHARD, .fld FWD_STS.ABORTING, .fld FWD_INT_STS.BAD, .fld FWD_RESHARD.BAD,
      .fld FWD_RESHARD.PROGRESS, .part .fwd]]
  | .reshardAbort .. => [timeTouches, [.fld FWD_STS.RESHARD, .fld FWD_STS.ABORTING, .fld FWD_RESHARD.PROGRESS, .part .fwd]]
  | .reshardWalk .. => [timeTouches, eventTouches, [.fld FWD_STS.RESHARD, .fld FWD_STS.ABORTING, .fld FWD_STS.ENTRIES, .fld FWD_INT_STS.VAT_FULL,
      .fld FWD_INT_STS.RESHARD_DONE, .fld FWD_INT_STS.RESHARD_STALL, .fld FWD_HASH_CUR.SEED, .fld FWD_RESHARD.PROGRESS, .fld FWD_VAT_STS.USED,
      .fld FWD_VAT_STS.NOFWT, .fld FWD_RELOCS, .fld FWD_VAT_INSERTS, .fld FWD_INSERT_FAIL, .fld FWD_LOCK_WAIT, .fld FWD_RESHARD_MOVED,
      .part .nodes, .part .fwd, .part .pair]]
  | .fwtInsert .. => [timeTouches, eventTouches, faultTouches, commandTouches, [.fld FWD_STS.ENTRIES, .fld FWD_INT_STS.VAT_FULL,
      .fld FWD_VAT_STS.USED, .fld FWD_VAT_STS.NOFWT, .fld FWD_INSERTS, .fld FWD_RELOCS, .fld FWD_VAT_INSERTS, .fld FWD_INSERT_FAIL,
      .fld FWD_LOCK_WAIT, .fld QMS_POOL_FREE.FREE, .fld QMS_POOL_PEAK.PEAK, .fld (QMS_POOL_USE.USED 0), .fld (QMS_POOL_USE.PEAK 0),
      .fld HIF_CMD_DONE, .fld HIF_CMD_FAIL, .fld HIF_BADARG, .fld (HIF_CMDR_FAIL.COUNT 0), .fld (FLT_RAW.B 0), .fld PAIR_STS.SYNC,
      .fld PAIR_INT_STS.MIR_OVF, .fld PAIR_MIR_TX, .fld PAIR_MIR_OVF, .fld PAIR_FWT_MIRRORED, .fld PAIR_LINK_BYTES_K, .fld PAIR_MIR_SEQ.MSEQ,
      .fld PAIR_MIR_STS.CURDS, .fld PAIR_MIR_STS.PEAK, .part .freeCtr, .part .nodes, .part .fwd]]
  | .fwtDelete .. => [timeTouches, eventTouches, faultTouches, commandTouches, [.fld FWD_STS.ENTRIES, .fld FWD_VAT_STS.USED, .fld FWD_LOCK_WAIT,
      .fld QMS_POOL_FREE.FREE, .fld QMS_POOL_PEAK.PEAK, .fld (QMS_POOL_USE.USED 0), .fld (QMS_POOL_USE.PEAK 0), .fld HIF_CMD_DONE,
      .fld HIF_CMD_FAIL, .fld HIF_BADARG, .fld (HIF_CMDR_FAIL.COUNT 0), .fld (FLT_RAW.B 0), .fld PAIR_STS.SYNC, .fld PAIR_INT_STS.MIR_OVF,
      .fld PAIR_MIR_TX, .fld PAIR_MIR_OVF, .fld PAIR_FWT_MIRRORED, .fld PAIR_LINK_BYTES_K, .fld PAIR_MIR_SEQ.MSEQ, .fld PAIR_MIR_STS.CURDS,
      .fld PAIR_MIR_STS.PEAK, .part .freeCtr, .part .fwd]]
  | .fwtRead .. => [timeTouches, eventTouches, faultTouches, commandTouches, [.fld HIF_CMD_DONE, .fld HIF_CMD_FAIL, .fld HIF_BADARG,
      .fld (HIF_CMDR_FAIL.COUNT 0)]]
  | .fwtWrite .. => [timeTouches, eventTouches, faultTouches, commandTouches, [.fld FWD_STS.ENTRIES, .fld FWD_VAT_STS.USED, .fld FWD_LOCK_WAIT,
      .fld FWD_HOST_STALE, .fld QMS_POOL_FREE.FREE, .fld QMS_POOL_PEAK.PEAK, .fld (QMS_POOL_USE.USED 0), .fld (QMS_POOL_USE.PEAK 0),
      .fld HIF_CMD_DONE, .fld HIF_CMD_FAIL, .fld HIF_BADARG, .fld (HIF_CMDR_FAIL.COUNT 0), .fld (FLT_RAW.B 0), .fld PAIR_STS.SYNC,
      .fld PAIR_INT_STS.MIR_OVF, .fld PAIR_MIR_TX, .fld PAIR_MIR_OVF, .fld PAIR_FWT_MIRRORED, .fld PAIR_LINK_BYTES_K, .fld PAIR_MIR_SEQ.MSEQ,
      .fld PAIR_MIR_STS.CURDS, .fld PAIR_MIR_STS.PEAK, .part .freeCtr, .part .fwd]]
  | .pathWrite .. => [timeTouches, eventTouches, faultTouches, commandTouches, [.fld HIF_CMD_DONE, .fld HIF_CMD_FAIL, .fld HIF_BADARG,
      .fld (HIF_CMDR_FAIL.COUNT 0), .part .fwd]]
  | .pathRead .. => [timeTouches, eventTouches, faultTouches, commandTouches, [.fld HIF_CMD_DONE, .fld HIF_CMD_FAIL, .fld HIF_BADARG,
      .fld (HIF_CMDR_FAIL.COUNT 0)]]
  | .saxRead .. => [timeTouches, eventTouches, faultTouches, commandTouches, [.fld HIF_CMD_DONE, .fld HIF_CMD_FAIL, .fld HIF_BADARG,
      .fld (HIF_CMDR_FAIL.COUNT 0)]]
  | .uplinkPipeline .. => [timeTouches, eventTouches, faultTouches, [.regs .fwd, .fld QMS_INT_STS.NOCURD, .fld QMS_POOL_FREE.FREE,
      .fld QMS_POOL_PEAK.PEAK, .fld QMS_ALLOC_FAIL, .fld QMS_WHEY_TOTAL, .fld (QMS_POOL_USE.USED 0), .fld (QMS_POOL_USE.PEAK 0),
      .fld (QMS_WHEY 0), .fld (QMS_CQ.CURDS 0), .fld (QMS_CQ.PEAK 0), .fld SHP_INT_STS.RED, .fld SHP_WPOL_GREEN, .fld SHP_WPOL_YELLOW,
      .fld SHP_WPOL_RED, .fld (FLT_RAW.B 0), .fld PAIR_STS.SYNC, .fld PAIR_INT_STS.MIR_OVF, .fld PAIR_MIR_TX, .fld PAIR_MIR_OVF,
      .fld PAIR_FWT_MIRRORED, .fld PAIR_LINK_BYTES_K, .fld PAIR_MIR_SEQ.MSEQ, .fld PAIR_MIR_STS.CURDS, .fld PAIR_MIR_STS.PEAK, .part .freeCtr,
      .part .nodes, .part .qms, .part .fwd]]
  | .downlinkPacket .. => [timeTouches, eventTouches, faultTouches, [.fld FWD_INT_STS.NOPATH, .fld FWD_INT_STS.RACE_MISS, .fld FWD_LOOKUPS,
      .fld FWD_HITS, .fld FWD_MISSES, .fld FWD_RETRIES, .fld FWD_RACE_MISS, .fld FWD_VAT_HITS, .fld FWD_FRAG_TX, .fld FWD_PATH_BUILT,
      .fld FWD_NOROUTE, .fld (FWD_W_TAG.TAG 0), .fld (FWD_W_NOPATH.COUNT 0), .fld QMS_INT_STS.NOCURD, .fld QMS_POOL_FREE.FREE,
      .fld QMS_POOL_PEAK.PEAK, .fld QMS_ALLOC_FAIL, .fld QMS_WHEY_TOTAL, .fld (QMS_POOL_USE.USED 0), .fld (QMS_POOL_USE.PEAK 0),
      .fld (QMS_WHEY 0), .fld (QMS_CQ.CURDS 0), .fld (QMS_CQ.PEAK 0), .part .freeCtr, .part .nodes, .part .qms, .part .fwd]]
  | .reasmTimeout .. => [timeTouches, [.fld FWD_REASM_STS.USED, .fld FWD_REASM_TIMEOUT, .fld QMS_POOL_FREE.FREE, .fld QMS_WHEY_TOTAL,
      .fld (QMS_POOL_USE.USED 0), .fld (QMS_WHEY 0), .part .qms]]
  | .uplinkDrain .. => [timeTouches, eventTouches, faultTouches, commandTouches, [.fld FWD_INT_STS.RACE_MISS, .fld FWD_LOOKUPS, .fld FWD_HITS,
      .fld FWD_MISSES, .fld FWD_RETRIES, .fld FWD_RACE_MISS, .fld FWD_VAT_HITS, .fld QMS_POOL_FREE.FREE, .fld (QMS_POOL_USE.USED 0),
      .fld (QMS_CQ.CURDS 0), .fld (SHP_EGR_CNT.FRAMES 0), .fld (SHP_EGR_PEAK.PEAK 0), .fld HIF_RX_TRUNC, .fld HIF_NOP, .fld HIF_RX_DESC,
      .fld PAIR_RLY_ETH_TX, .fld PAIR_RLY_DROP, .fld PAIR_LINK_BYTES_K, .fld (ETH_P_EQ.FRAMES 0 0), .fld (ETH_P_EQ.PEAK 0 0), .part .freeCtr,
      .part .qms, .part .fwd]]
  | .wardShaperRelease .. => [timeTouches, eventTouches, [.fld QMS_POOL_FREE.FREE, .fld QMS_ENQ_FRAMES, .fld QMS_WHEY_TOTAL,
      .fld (QMS_POOL_USE.USED 0), .fld (QMS_W_NPEAK.PEAK 0), .fld (QMS_W_NPEAK.NIX 0), .fld (QMS_W_NFRAMES.FRAMES 0), .fld (QMS_WHEY 0),
      .fld (QMS_CQ.CURDS 0), .fld SHP_INT_STS.SHAPE_DROP, .fld SHP_CAL_STS.COUNT, .fld SHP_CAL_STS.PEAK, .fld SHP_CAL_INSERTS,
      .fld SHP_CAL_FALLBACK, .fld SHP_SHAPE_DROP, .part .nodes, .part .qms, .part .pair]]
  | .calendarBucketDue .. => [timeTouches, [.fld QMS_POOL_FREE.FREE, .fld QMS_ENQ_FRAMES, .fld QMS_WHEY_TOTAL, .fld (QMS_POOL_USE.USED 0),
      .fld (QMS_W_NPEAK.PEAK 0), .fld (QMS_W_NPEAK.NIX 0), .fld (QMS_W_NFRAMES.FRAMES 0), .fld (QMS_WHEY 0), .fld SHP_CAL_STS.COUNT,
      .fld SHP_CAL_STS.PEAK, .part .nodes, .part .qms, .part .pair]]
  | .shaperSweep .. => [timeTouches, [.fld SHP_SWEEP_STS.POS, .fld SHP_SWEEP_STS.SWEEPS, .part .nodes, .part .pair]]
  | .calendarDisable .. => [timeTouches, [.fld QMS_POOL_FREE.FREE, .fld QMS_ENQ_FRAMES, .fld QMS_WHEY_TOTAL, .fld (QMS_POOL_USE.USED 0),
      .fld (QMS_W_NPEAK.PEAK 0), .fld (QMS_W_NPEAK.NIX 0), .fld (QMS_W_NFRAMES.FRAMES 0), .fld (QMS_WHEY 0), .fld SHP_STS.FALLBACK,
      .fld SHP_CAL_CFG.EN, .fld SHP_CAL_STS.COUNT, .fld SHP_CAL_STS.PEAK, .fld SHP_CAL_FALLBACK, .part .nodes, .part .qms, .part .pair,
      .part .pcr, .part .mem]]
  | .calendarEnable .. => [timeTouches, [.fld SHP_STS.FALLBACK, .fld SHP_CAL_CFG.EN]]
  | .shpMeterWrite .. => [timeTouches, [.fld (SHP_WPOL_RATE.CIR 0), .fld (SHP_WPOL_RATE.PIR 0), .fld (SHP_WPOL_BURST.CBS 0),
      .fld (SHP_WPOL_BURST.PBS 0), .fld (SHP_WDS.RATE 0), .fld (SHP_WDS.BURST 0), .part .qms]]
  | .egressFrameStart .. => [timeTouches, eventTouches, [.fld QMS_WHEY_TOTAL, .fld (QMS_WHEY 0), .fld SHP_INT_STS.GATE_OVERSIZE,
      .fld (SHP_GATE_OVERSIZE 0 0), .fld (SHP_GATE_WAIT 0), .fld (SHP_EGR_CNT.FRAMES 0), .fld (SHP_EGR_PEAK.PEAK 0), .fld (ETH_P_EQ.FRAMES 0 0),
      .fld (ETH_P_EQ.PEAK 0 0), .part .qms]]
  | .gateEntryEdge .. => [timeTouches, [.fld (SHP_GATE_STS.OPER_IX 0), .fld (SHP_GATE_STS.OPEN 0), .fld (SHP_GATE_CYCLES 0), .part .qms]]
  | .gateListArm .. => [timeTouches, eventTouches, [.fld SHP_INT_STS.GATE_LATE, .fld (SHP_GATE_CTL.EN 0), .fld (SHP_GATE_CTL.ARM 0),
      .fld (SHP_GATE_CTL.LEN 0), .fld (SHP_GATE_STS.LATE_BASE 0), .fld (SHP_GATE_STS.PENDING 0), .fld (SHP_GATE_STS.OPER_IX 0),
      .fld (SHP_GATE_STS.OPEN 0), .fld (SHP_GATE_AT_NS.NS 0), .fld (SHP_GATE_AT_SL.S 0), .fld (SHP_GATE_AT_SH.S 0), .fld (SHP_GATE_LATE 0),
      .part .qms]]
  | .gateListSwitch .. => [timeTouches, eventTouches, [.fld SHP_INT_STS.GATE_SWITCHED, .fld (SHP_GATE_CTL.ARM 0), .fld (SHP_GATE_STS.PENDING 0),
      .fld (SHP_GATE_STS.OPER_IX 0), .fld (SHP_GATE_STS.OPEN 0), .fld (SHP_GATE_SWITCHES 0), .part .qms]]
  | .qmsPoolPeakRead .. => [[.fld QMS_POOL_PEAK.PEAK, .part .bus]]
  | .qmsPoolUsePeakRead .. => [[.fld (QMS_POOL_USE.PEAK 0), .part .bus]]
  | .qmsWNpeakRead .. => [[.fld (QMS_W_NPEAK.PEAK 0), .fld (QMS_W_NPEAK.NIX 0), .part .bus]]
  | .qmsCqPeakRead .. => [[.fld (QMS_CQ.PEAK 0), .part .bus]]
  | .shpCalPeakRead .. => [[.fld SHP_CAL_STS.PEAK, .part .bus]]
  | .shpEgrPeakRead .. => [[.fld (SHP_EGR_PEAK.PEAK 0), .part .bus]]
  | .tsuNsLoRead .. => [timeTouches, [.part .bus, .part .latch]]
  | .tsuTimeNsRead .. => [timeTouches, [.part .bus, .part .latch]]
  | .ptpMessageReceived .. => [timeTouches, eventTouches, [.fld (SHP_GATE_STS.OPER_IX 0), .fld (SHP_GATE_STS.OPEN 0), .fld (SHP_EGR_CNT.FRAMES 0),
      .fld (SHP_EGR_PEAK.PEAK 0), .regs .tsu, .fld CEL_ANCHOR_STS.VALID, .fld (ETH_P_EQ.FRAMES 0 0), .fld (ETH_P_EQ.PEAK 0 0), .part .tsuOfs,
      .part .mac, .part .qms, .part .tsu, .part .anchor]]
  | .syncInterval .. => [timeTouches, [.fld (SHP_EGR_CNT.FRAMES 0), .fld (SHP_EGR_PEAK.PEAK 0), .fld (ETH_P_EQ.FRAMES 0 0),
      .fld (ETH_P_EQ.PEAK 0 0), .part .qms, .part .tsu]]
  | .delayReqInterval .. => [timeTouches, [.fld (SHP_EGR_CNT.FRAMES 0), .fld (SHP_EGR_PEAK.PEAK 0), .fld (ETH_P_EQ.FRAMES 0 0),
      .fld (ETH_P_EQ.PEAK 0 0), .part .qms, .part .tsu]]
  | .followUpTimeout .. => [timeTouches, [.fld TSU_FUP_MISS, .part .tsu]]
  | .delayRespTimeout .. => [timeTouches, [.fld TSU_DRESP_TIMEOUT, .part .tsu]]
  | .tsuServoExtOfsWrite .. => [timeTouches, eventTouches, [.fld (SHP_GATE_STS.OPER_IX 0), .fld (SHP_GATE_STS.OPEN 0), .regs .tsu,
      .fld CEL_ANCHOR_STS.VALID, .part .tsuOfs, .part .mac, .part .qms, .part .tsu, .part .anchor]]
  | .servoEnable .. => [timeTouches, [.fld TSU_STS.SERVO, .fld TSU_SERVO_CFG.EN, .fld TSU_SERVO_STS.STATE, .fld TSU_SERVO_STS.OFS_RUN,
      .fld TSU_SERVO_STS.PD_RUN, .fld TSU_SERVO_INT.PPB, .part .tsu]]
  | .servoDisable .. => [timeTouches, [.fld TSU_STS.SERVO, .fld TSU_SERVO_CFG.EN, .fld TSU_SERVO_STS.STATE]]
  | .servoLossTimeout .. => [timeTouches, eventTouches, [.fld TSU_STS.SERVO, .fld TSU_INT_STS.HOLDOVER, .fld TSU_INT_STS.SYNC_LOSS,
      .fld TSU_FREQ.FREQ, .fld TSU_SERVO_STS.STATE, .fld TSU_SERVO_STS.CAUSE, .fld TSU_SERVO_HOLD_FREQ.PPB, .fld TSU_HOLDOVERS,
      .fld (TSU_P_STS.PAR_SEEN 0), .part .tsu]]
  | .servoCmdAccept .. => [timeTouches, eventTouches, [.fld TSU_STS.SERVO, .fld TSU_INT_STS.CMD_BAD, .fld TSU_SERVO_CTL.CMD_BAD,
      .fld TSU_SERVO_STS.STATE, .fld TSU_SERVO_STS.OFS_RUN, .fld TSU_SERVO_STS.PD_RUN, .fld TSU_SERVO_MPD.NS, .part .tsu]]
  | .servoCmdAsym .. => [timeTouches, eventTouches, [.fld TSU_STS.SERVO, .fld TSU_INT_STS.CMD_BAD, .fld TSU_SERVO_CTL.CMD_BAD,
      .fld TSU_SERVO_STS.STATE, .fld TSU_SERVO_STS.OFS_RUN, .fld TSU_SERVO_STS.PD_RUN, .fld TSU_SERVO_MPD.NS, .part .tsu]]
  | .servoCmdRemeasure .. => [timeTouches, eventTouches, [.fld TSU_INT_STS.CMD_BAD, .fld TSU_SERVO_CTL.CMD_BAD, .part .tsu]]
  | .tsuStep .. => [timeTouches, eventTouches, [.fld (SHP_GATE_STS.OPER_IX 0), .fld (SHP_GATE_STS.OPEN 0), .fld TSU_INT_STS.STEP_REFUSED,
      .fld TSU_INT_STS.PO_LATE, .fld TSU_STEP_CTL.BAD, .fld TSU_STEPS, .fld TSU_STEP_REFUSED, .fld (TSU_PO_CTL.ARM 0), .fld (TSU_PO_STS.LATE 0),
      .fld (TSU_PO_STS.CANCELLED 0), .fld (TSU_PO_STS.ACTIVE 0), .fld (TSU_PO_COUNT.COUNT 0), .fld CEL_ANCHOR_STS.VALID, .part .tsuOfs,
      .part .mac, .part .qms, .part .tsu, .part .anchor]]
  | .tsuSet .. => [timeTouches, eventTouches, [.fld (SHP_GATE_STS.OPER_IX 0), .fld (SHP_GATE_STS.OPEN 0), .fld TSU_INT_STS.STEP_REFUSED,
      .fld TSU_INT_STS.PO_LATE, .fld TSU_STEP_CTL.BAD, .fld TSU_STEPS, .fld TSU_STEP_REFUSED, .fld (TSU_PO_CTL.ARM 0), .fld (TSU_PO_STS.LATE 0),
      .fld (TSU_PO_STS.CANCELLED 0), .fld (TSU_PO_STS.ACTIVE 0), .fld (TSU_PO_COUNT.COUNT 0), .fld CEL_ANCHOR_STS.VALID, .part .tsuOfs,
      .part .mac, .part .qms, .part .tsu, .part .anchor]]
  | .slewGo .. => [timeTouches, [.fld TSU_STS.SLEWING, .fld TSU_SLEW_CTL.BAD, .fld TSU_SLEWS, .part .tsu]]
  | .slewAbort .. => [timeTouches, [.fld TSU_STS.SLEWING, .fld TSU_SLEW_NS.NS, .part .tsu]]
  | .slewComplete .. => [timeTouches, eventTouches, [.fld TSU_STS.SLEWING, .fld TSU_INT_STS.SLEW_DONE, .fld TSU_SLEW_NS.NS, .part .tsu]]
  | .asnStart .. => [timeTouches, [.fld TSU_ASN_CTL.BAD, .fld TSU_ASN_STS.START_PEND, .fld TSU_ASN_STS.LEN_US, .part .mac]]
  | .asnStop .. => [timeTouches, [.fld TSU_ASN_STS.STOP_PEND, .fld TSU_ASN_STS.START_PEND]]
  | .pulseArm .. => [timeTouches, eventTouches, [.fld TSU_INT_STS.PO_LATE, .fld (TSU_PO_CTL.ARM 0), .fld (TSU_PO_CTL.PERIODIC 0),
      .fld (TSU_PO_CTL.STRICT 0), .fld (TSU_PO_CTL.OUT_EN 0), .fld (TSU_PO_CTL.POL 0), .fld (TSU_PO_STS.LATE 0), .fld (TSU_PO_STS.CANCELLED 0),
      .fld (TSU_PO_STS.ACTIVE 0), .fld (TSU_PO_COUNT.COUNT 0), .part .tsu]]
  | .pulseStop .. => [timeTouches, [.fld (TSU_PO_CTL.ARM 0), .fld (TSU_PO_STS.ACTIVE 0), .part .tsu]]
  | .pulseEdge .. => [timeTouches, [.fld (TSU_PO_CTL.ARM 0), .fld (TSU_PO_STS.ACTIVE 0), .fld (TSU_PO_COUNT.COUNT 0), .part .tsu]]
  | .captureEdge .. => [timeTouches, eventTouches, [.fld (SHP_GATE_STS.OPER_IX 0), .fld (SHP_GATE_STS.OPEN 0), .regs .tsu,
      .fld CEL_ANCHOR_STS.VALID, .part .tsuOfs, .part .mac, .part .qms, .part .tsu, .part .anchor]]
  | .tsuCiNsRead .. => [[.fld (TSU_CI_STS.LEVEL 0), .fld (TSU_CI_NS.NS 0), .fld (TSU_CI_NS.VALID 0), .fld (TSU_CI_NS.FALL 0),
      .fld (TSU_CI_SL.S 0), .fld (TSU_CI_SH.S 0), .fld (TSU_CI_RC.RC 0), .part .bus, .part .tsu]]
  | .tsuServoOfsPeakRead .. => [[.fld TSU_SERVO_OFS_PEAK.NS, .part .bus]]
  | .tsuPResPeakRead .. => [[.fld (TSU_P_RES_PEAK.NS 0), .part .bus]]
  | .doorbellWrite .. => [timeTouches, eventTouches, [.fld HIF_INT_STS.DB_BAD, .fld HIF_DB_BAD, .fld (HIF_R_IDX.HEAD 0)]]
  | .ringEnable .. => [timeTouches, [.fld HIF_EVT_WRITTEN, .fld HIF_MSIX_SENT, .fld (HIF_R_CFG.EN 0), .fld (HIF_R_IDX.HEAD 0),
      .fld (HIF_R_IDX.TAIL 0), .fld (HIF_R_STS.RUN 0), .fld (HIF_R_STS.ARMED 0), .fld (HIF_R_STS.ERR 0), .fld (HIF_R_STS.ERR_CODE 0),
      .fld (HIF_R_STS.PEND 0), .fld (HIF_R_DONE.COUNT 0), .fld (HIF_EVTR_PEND.PEND 0), .fld (HIF_EVTR_PEND.PEAK 0), .fld (PCR_C_IRQ_STS.BITS 0),
      .part .hif, .part .pcr, .part .mem]]
  | .ringDisable .. => [timeTouches, [.fld (HIF_R_CFG.EN 0), .fld (HIF_R_STS.RUN 0)]]
  | .txDescriptor .. => [timeTouches, eventTouches, faultTouches, commandTouches, [.fld QMS_INT_STS.NOCURD, .fld QMS_POOL_FREE.FREE,
      .fld QMS_POOL_PEAK.PEAK, .fld QMS_ALLOC_FAIL, .fld QMS_WHEY_TOTAL, .fld (QMS_POOL_USE.USED 0), .fld (QMS_POOL_USE.PEAK 0),
      .fld (QMS_WHEY 0), .fld (SHP_EGR_CNT.FRAMES 0), .fld (SHP_EGR_PEAK.PEAK 0), .fld HIF_TX_TRUNC, .fld HIF_NOP, .fld HIF_TX_DESC,
      .fld (ETH_P_EQ.FRAMES 0 0), .fld (ETH_P_EQ.PEAK 0 0), .part .freeCtr, .part .qms, .part .fwd]]
  | .rxFrameDeliver .. => [timeTouches, eventTouches, faultTouches, commandTouches, [.fld QMS_WHEY_TOTAL, .fld (QMS_WHEY 0), .fld HIF_RX_TRUNC,
      .fld HIF_NOP, .fld HIF_RX_DESC, .fld HIF_RX_BACKLOG_DROP, .fld (HIF_RXR_BACKLOG.COUNT 0), .fld (HIF_RXR_BACKLOG.PEAK 0)]]
  | .moderationTimer .. => [timeTouches, [.fld HIF_MSIX_SENT, .fld (HIF_R_STS.ARMED 0), .fld (HIF_R_STS.PEND 0), .fld (PCR_C_IRQ_STS.BITS 0),
      .part .hif]]
  | .dmaReadFail .. => [timeTouches, eventTouches, faultTouches, commandTouches, [.fld HIF_TX_DESC, .fld HIF_CMD_DONE, .fld HIF_CMD_FAIL,
      .fld HIF_BADARG, .fld (HIF_CMDR_FAIL.COUNT 0)]]
  | .functionLevelReset .. => [timeTouches, [.fld HIF_STS.BME, .fld HIF_STS.MSIX_EN, .fld HIF_FLR, .fld (HIF_R_CFG.EN 0),
      .fld (HIF_R_MOD.USECS 0), .fld (HIF_R_MOD.COUNT 0), .fld (HIF_R_STS.RUN 0), .fld (HIF_R_STS.ERR 0), .fld (HIF_R_STS.ERR_CODE 0), .part .hif]]
  | .d3hotToD0 .. => [timeTouches, [.fld HIF_STS.BME, .fld HIF_STS.MSIX_EN, .fld HIF_FLR, .fld (HIF_R_CFG.EN 0), .fld (HIF_R_MOD.USECS 0),
      .fld (HIF_R_MOD.COUNT 0), .fld (HIF_R_STS.RUN 0), .fld (HIF_R_STS.ERR 0), .fld (HIF_R_STS.ERR_CODE 0), .part .hif]]
  | .nop .. => [timeTouches, eventTouches, faultTouches, commandTouches, [.fld HIF_CMD_DONE, .fld HIF_CMD_FAIL, .fld HIF_BADARG,
      .fld (HIF_CMDR_FAIL.COUNT 0)]]
  | .badop .. => [timeTouches, eventTouches, faultTouches, commandTouches, [.fld HIF_CMD_DONE, .fld HIF_CMD_FAIL, .fld HIF_BADARG,
      .fld (HIF_CMDR_FAIL.COUNT 0)]]
  | .nodeAdd .. => [timeTouches, eventTouches, faultTouches, commandTouches, [.fld MAC_STS.TRACE_WP, .fld MAC_INT_STS.WARD_FULL,
      .fld MAC_INT_STS.DOMAIN_FULL, .fld (MAC_WARD_SA.CURSOR 0), .fld (MAC_WARD_SA.COUNT 0), .fld (MAC_TRACE.WORD 0), .fld SEC_STS.JNL_OPEN,
      .fld SEC_STS.LOG_WP, .fld SEC_INT_STS.KEY_LOW, .fld SEC_INT_STS.KEY_EXHAUSTED, .fld SEC_JNL_STS.STATE, .fld SEC_KC_STS.USED,
      .fld SEC_TX_EXHAUSTED, .fld (SEC_KEYLOW_LOG.NIX 0), .fld (SEC_KEYLOW_LOG.GEN 0), .fld (SEC_KEYLOW_LOG.KIND 0), .fld (SEC_KEYLOW_LOG.WARD 0),
      .fld (SEC_W_PEND.COUNT 0), .fld (SEC_W_HALT.COUNT 0), .fld FWD_STS.ENTRIES, .fld FWD_INT_STS.VAT_FULL, .fld FWD_VAT_STS.USED,
      .fld FWD_VAT_STS.NOFWT, .fld FWD_INSERTS, .fld FWD_RELOCS, .fld FWD_VAT_INSERTS, .fld FWD_INSERT_FAIL, .fld FWD_LOCK_WAIT,
      .fld QMS_POOL_FREE.FREE, .fld QMS_POOL_PEAK.PEAK, .fld (QMS_POOL_USE.USED 0), .fld (QMS_POOL_USE.PEAK 0), .fld HIF_CMD_DONE,
      .fld HIF_CMD_FAIL, .fld HIF_BADARG, .fld (HIF_CMDR_FAIL.COUNT 0), .fld KEY_UNWRAP_FAIL, .fld (FLT_RAW.B 0), .fld PAIR_STS.SYNC,
      .fld PAIR_INT_STS.MIR_OVF, .fld PAIR_MIR_TX, .fld PAIR_MIR_OVF, .fld PAIR_KEY_MIRRORED, .fld PAIR_LINK_BYTES_K, .fld PAIR_MIR_SEQ.MSEQ,
      .fld PAIR_MIR_STS.CURDS, .fld PAIR_MIR_STS.PEAK, .part .freeCtr, .part .nodes, .part .mac, .part .sec, .part .jdev, .part .fwd]]
  | .nodeEvict .. => [timeTouches, eventTouches, faultTouches, commandTouches, [.fld SRC_STS.STAGED, .fld (FWD_W_EPOCH.EPOCH 0),
      .fld QMS_POOL_FREE.FREE, .fld QMS_POOL_PEAK.PEAK, .fld (QMS_POOL_USE.USED 0), .fld (QMS_POOL_USE.PEAK 0), .fld HIF_CMD_DONE,
      .fld HIF_CMD_FAIL, .fld HIF_BADARG, .fld (HIF_CMDR_FAIL.COUNT 0), .fld (FLT_RAW.B 0), .fld PAIR_STS.SYNC, .fld PAIR_INT_STS.MIR_OVF,
      .fld PAIR_MIR_TX, .fld PAIR_MIR_OVF, .fld PAIR_LINK_BYTES_K, .fld PAIR_MIR_SEQ.MSEQ, .fld PAIR_MIR_STS.CURDS, .fld PAIR_MIR_STS.PEAK,
      .part .freeCtr, .part .nodes, .part .src]]
  | .evictReleaseComplete .. => [timeTouches, eventTouches, faultTouches, [.fld (MAC_WARD_SA.COUNT 0), .fld (SEC_W_CFG.STRICT_ACTIVE 0),
      .fld (SEC_W_PEND.COUNT 0), .fld (SEC_W_HALT.COUNT 0), .fld FWD_STS.ENTRIES, .fld FWD_REASM_STS.USED, .fld FWD_VAT_STS.USED,
      .fld FWD_VAT_STS.NOFWT, .fld FWD_LOCK_WAIT, .fld FWD_REASM_TIMEOUT, .fld QMS_POOL_FREE.FREE, .fld QMS_POOL_PEAK.PEAK, .fld QMS_WHEY_TOTAL,
      .fld (QMS_POOL_USE.USED 0), .fld (QMS_POOL_USE.PEAK 0), .fld (QMS_W_NFRAMES.FRAMES 0), .fld (QMS_WHEY 0), .fld HIF_CMD_DONE,
      .fld HIF_CMD_FAIL, .fld HIF_BADARG, .fld (HIF_CMDR_FAIL.COUNT 0), .fld UPD_STS.ACTIVE, .fld UPD_STS.PRESS_BUSY, .fld UPD_INT_STS.CAMP_END,
      .fld UPD_READY.FRAMES, .fld UPD_READY.PEAK, .fld (UPD_C_STS.STATE 0), .fld (UPD_C_STS.END_WHY 0), .fld (UPD_C_NODES.ACTIVE 0),
      .fld (FLT_RAW.B 0), .fld PAIR_STS.SYNC, .fld PAIR_INT_STS.MIR_OVF, .fld PAIR_LAST.LAGGING, .fld PAIR_MIR_TX, .fld PAIR_MIR_OVF,
      .fld PAIR_LINK_BYTES_K, .fld PAIR_MIR_SEQ.MSEQ, .fld PAIR_MIR_STS.CURDS, .fld PAIR_MIR_STS.PEAK, .part .freeCtr, .part .nodes, .part .mac,
      .part .src, .part .qms, .part .sec, .part .fwd, .part .camps]]
  | .nodeQuiet .. => [timeTouches, eventTouches, faultTouches, commandTouches, [.fld MAC_STS.TRACE_WP, .fld (MAC_TRACE.WORD 0),
      .fld QMS_POOL_FREE.FREE, .fld QMS_POOL_PEAK.PEAK, .fld (QMS_POOL_USE.USED 0), .fld (QMS_POOL_USE.PEAK 0), .fld HIF_CMD_DONE,
      .fld HIF_CMD_FAIL, .fld HIF_BADARG, .fld (HIF_CMDR_FAIL.COUNT 0), .fld (FLT_RAW.B 0), .fld PAIR_STS.SYNC, .fld PAIR_INT_STS.MIR_OVF,
      .fld PAIR_MIR_TX, .fld PAIR_MIR_OVF, .fld PAIR_LINK_BYTES_K, .fld PAIR_MIR_SEQ.MSEQ, .fld PAIR_MIR_STS.CURDS, .fld PAIR_MIR_STS.PEAK,
      .part .freeCtr, .part .nodes]]
  | .nodeRead .. => [timeTouches, eventTouches, faultTouches, commandTouches, [.fld HIF_CMD_DONE, .fld HIF_CMD_FAIL, .fld HIF_BADARG,
      .fld (HIF_CMDR_FAIL.COUNT 0)]]
  | .nodeModify .. => [timeTouches, eventTouches, faultTouches, commandTouches, [.fld HIF_CMD_DONE, .fld HIF_CMD_FAIL, .fld HIF_BADARG,
      .fld (HIF_CMDR_FAIL.COUNT 0), .part .nodes]]
  | .nodeWrite .. => [timeTouches, eventTouches, faultTouches, commandTouches, [.fld (MAC_WARD_SA.COUNT 0), .fld SEC_STS.JNL_OPEN,
      .fld SEC_STS.LOG_WP, .fld SEC_INT_STS.KEY_LOW, .fld SEC_INT_STS.KEY_EXHAUSTED, .fld SEC_JNL_STS.STATE, .fld SEC_KC_STS.USED,
      .fld SEC_TX_EXHAUSTED, .fld (SEC_KEYLOW_LOG.NIX 0), .fld (SEC_KEYLOW_LOG.GEN 0), .fld (SEC_KEYLOW_LOG.KIND 0), .fld (SEC_KEYLOW_LOG.WARD 0),
      .fld (SEC_W_CFG.STRICT_ACTIVE 0), .fld (SEC_W_PEND.COUNT 0), .fld (SEC_W_HALT.COUNT 0), .fld QMS_POOL_FREE.FREE, .fld QMS_POOL_PEAK.PEAK,
      .fld QMS_WHEY_TOTAL, .fld (QMS_POOL_USE.USED 0), .fld (QMS_POOL_USE.PEAK 0), .fld (QMS_W_NFRAMES.FRAMES 0), .fld (QMS_WHEY 0),
      .fld HIF_CMD_DONE, .fld HIF_CMD_FAIL, .fld HIF_BADARG, .fld (HIF_CMDR_FAIL.COUNT 0), .fld (FLT_RAW.B 0), .fld PAIR_STS.SYNC,
      .fld PAIR_INT_STS.MIR_OVF, .fld PAIR_MIR_TX, .fld PAIR_MIR_OVF, .fld PAIR_KEY_MIRRORED, .fld PAIR_LINK_BYTES_K, .fld PAIR_MIR_SEQ.MSEQ,
      .fld PAIR_MIR_STS.CURDS, .fld PAIR_MIR_STS.PEAK, .part .freeCtr, .part .nodes, .part .mac, .part .src, .part .qms, .part .sec, .part .jdev]]
  | .ebSet .. => [timeTouches, eventTouches, faultTouches, commandTouches, [.fld HIF_CMD_DONE, .fld HIF_CMD_FAIL, .fld HIF_BADARG,
      .fld (HIF_CMDR_FAIL.COUNT 0), .part .mac]]
  | .ucodeLoad .. => [timeTouches, eventTouches, faultTouches, commandTouches, [.fld (MAC_LS_VER.INACTIVE 0), .fld SRC_UC_VER.INACTIVE,
      .fld HIF_CMD_DONE, .fld HIF_CMD_FAIL, .fld HIF_BADARG, .fld (HIF_CMDR_FAIL.COUNT 0), .fld SYS_INT_STS.UC_LOADED, .fld SYS_INT_STS.UC_REJECT,
      .fld SYS_UC_STS.TARGET, .fld SYS_UC_STS.RESULT, .fld SYS_UC_STS.VER, .fld SYS_UCODE_LOADS, .fld SYS_UCODE_REJECTS, .fld SYS_PC_RELOADS,
      .fld PCR_STS.RUN, .fld PCR_STS.HELD, .fld PCR_RELOADS, .fld (PCR_C_STS.STATE 0), .fld (PCR_C_ENTRY.OFS 0), .fld (PCR_C_IMG_VER.VER 0),
      .fld (PCR_C_RELOAD_LAST.US 0), .part .lanes, .part .src, .part .cave]]
  | .hifRxrBacklogPeakRead .. => [[.fld (HIF_RXR_BACKLOG.PEAK 0), .part .bus]]
  | .hifEvtrPendPeakRead .. => [[.fld (HIF_EVTR_PEND.PEAK 0), .part .bus]]
  | .campStart .. => [timeTouches, eventTouches, faultTouches, commandTouches, [.fld HIF_CMD_DONE, .fld HIF_CMD_FAIL, .fld HIF_BADARG,
      .fld (HIF_CMDR_FAIL.COUNT 0), .regs .upd, .part .camps]]
  | .campPrepareComplete .. => [timeTouches, [.fld HIF_CMD_DONE, .fld HIF_CMD_FAIL, .fld HIF_MSIX_SENT, .fld HIF_BADARG, .fld (HIF_R_STS.RUN 0),
      .fld (HIF_R_STS.ARMED 0), .fld (HIF_R_STS.PEND 0), .fld (HIF_R_DONE.COUNT 0), .fld (HIF_CMDR_FAIL.COUNT 0), .fld UPD_STS.ACTIVE,
      .fld UPD_READY.FRAMES, .fld UPD_READY.PEAK, .fld (UPD_C_STS.STATE 0), .fld (UPD_C_ROUND.ROUND 0), .fld (PCR_C_IRQ_STS.BITS 0), .part .camps,
      .part .hif, .part .pcr, .part .mem]]
  | .campPause .. => [timeTouches, eventTouches, faultTouches, commandTouches, [.fld HIF_CMD_DONE, .fld HIF_CMD_FAIL, .fld HIF_BADARG,
      .fld (HIF_CMDR_FAIL.COUNT 0), .fld UPD_STS.ACTIVE, .fld UPD_STS.PRESS_BUSY, .fld (UPD_C_STS.STATE 0)]]
  | .campResume .. => [timeTouches, eventTouches, faultTouches, commandTouches, [.fld HIF_CMD_DONE, .fld HIF_CMD_FAIL, .fld HIF_BADARG,
      .fld (HIF_CMDR_FAIL.COUNT 0), .fld UPD_STS.ACTIVE, .fld UPD_STS.PRESS_BUSY, .fld UPD_INT_STS.CAMP_END, .fld UPD_READY.FRAMES,
      .fld UPD_READY.PEAK, .fld (UPD_C_STS.STATE 0), .fld (UPD_C_STS.END_WHY 0), .fld (UPD_C_ROUND.ROUND 0), .part .camps]]
  | .campStop .. => [timeTouches, eventTouches, faultTouches, commandTouches, [.fld HIF_CMD_DONE, .fld HIF_CMD_FAIL, .fld HIF_BADARG,
      .fld (HIF_CMDR_FAIL.COUNT 0), .fld UPD_STS.ACTIVE, .fld UPD_STS.PRESS_BUSY, .fld UPD_INT_STS.CAMP_END, .fld UPD_READY.FRAMES,
      .fld UPD_READY.PEAK, .fld (UPD_C_STS.STATE 0), .fld (UPD_C_STS.END_WHY 0), .part .camps]]
  | .campRelease .. => [timeTouches, eventTouches, faultTouches, commandTouches, [.fld QMS_POOL_FREE.FREE, .fld (QMS_POOL_USE.USED 0),
      .fld HIF_CMD_DONE, .fld HIF_CMD_FAIL, .fld HIF_BADARG, .fld (HIF_CMDR_FAIL.COUNT 0), .fld UPD_STS.ACTIVE, .fld UPD_CURDS.USED,
      .fld UPD_READY.FRAMES, .fld UPD_READY.PEAK, .fld (UPD_C_STS.STATE 0), .fld (UPD_C_NODES.ACTIVE 0), .part .nodes, .part .camps]]
  | .campEnrol .. => [timeTouches, eventTouches, faultTouches, commandTouches, [.fld HIF_CMD_DONE, .fld HIF_CMD_FAIL, .fld HIF_BADARG,
      .fld (HIF_CMDR_FAIL.COUNT 0), .fld UPD_READY.FRAMES, .fld UPD_READY.PEAK, .fld (UPD_C_NODES.ACTIVE 0), .part .nodes, .part .camps]]
  | .campLeave .. => [timeTouches, eventTouches, faultTouches, commandTouches, [.fld HIF_CMD_DONE, .fld HIF_CMD_FAIL, .fld HIF_BADARG,
      .fld (HIF_CMDR_FAIL.COUNT 0), .fld UPD_STS.ACTIVE, .fld UPD_STS.PRESS_BUSY, .fld UPD_INT_STS.CAMP_END, .fld UPD_READY.FRAMES,
      .fld UPD_READY.PEAK, .fld (UPD_C_STS.STATE 0), .fld (UPD_C_STS.END_WHY 0), .fld (UPD_C_NODES.ACTIVE 0), .part .nodes, .part .camps]]
  | .pressTurn .. => [timeTouches, eventTouches, [.fld QMS_INT_STS.NOCURD, .fld QMS_POOL_FREE.FREE, .fld QMS_POOL_PEAK.PEAK, .fld QMS_ALLOC_FAIL,
      .fld (QMS_POOL_USE.USED 0), .fld (QMS_POOL_USE.PEAK 0), .regs .upd, .part .freeCtr, .part .camps, .part .pressOctets, .part .pressAt]]
  | .updCurdsPeakRead .. => [[.fld UPD_CURDS.PEAK, .part .bus]]
  | .updReadyPeakRead .. => [[.fld UPD_READY.PEAK, .part .bus]]
  | .keyGen .. => [timeTouches, eventTouches, faultTouches, commandTouches, [.fld HIF_CMD_DONE, .fld HIF_CMD_FAIL, .fld HIF_BADARG,
      .fld (HIF_CMDR_FAIL.COUNT 0), .fld KEY_STS.HTK_READY, .fld KEY_STS.SLOTS, .fld KEY_ABORTS, .fld KEY_GEN_OPS, .fld (KEY_SLOT_STS.SLOT_0 0),
      .fld (KEY_SLOT_STS.SLOT_1 0), .fld (KEY_SLOT_STS.SLOT_2 0), .fld (KEY_SLOT_STS.SLOT_3 0), .part .freeCtr, .part .cave]]
  | .keyImport .. => [timeTouches, eventTouches, faultTouches, commandTouches, [.fld HIF_CMD_DONE, .fld HIF_CMD_FAIL, .fld HIF_BADARG,
      .fld (HIF_CMDR_FAIL.COUNT 0), .fld KEY_STS.HTK_READY, .fld KEY_STS.SLOTS, .fld KEY_ABORTS, .fld KEY_IMPORT_OPS, .fld KEY_UNWRAP_FAIL,
      .fld (KEY_SLOT_STS.SLOT_0 0), .fld (KEY_SLOT_STS.SLOT_1 0), .fld (KEY_SLOT_STS.SLOT_2 0), .fld (KEY_SLOT_STS.SLOT_3 0), .part .freeCtr,
      .part .cave]]
  | .attest .. => [timeTouches, eventTouches, faultTouches, commandTouches, [.fld HIF_CMD_DONE, .fld HIF_CMD_FAIL, .fld HIF_BADARG,
      .fld (HIF_CMDR_FAIL.COUNT 0), .fld KEY_ABORTS, .fld KEY_ATTESTS, .fld KEY_ALIAS_SIGNS]]
  | .aliasCert .. => [timeTouches, eventTouches, faultTouches, commandTouches, [.fld HIF_CMD_DONE, .fld HIF_CMD_FAIL, .fld HIF_BADARG,
      .fld (HIF_CMDR_FAIL.COUNT 0)]]
  | .tlogAck .. => [timeTouches, eventTouches, faultTouches, commandTouches, [.fld HIF_CMD_DONE, .fld HIF_CMD_FAIL, .fld HIF_BADARG,
      .fld (HIF_CMDR_FAIL.COUNT 0), .fld KEY_TAMPER_STS.UNACK, .fld KEY_TAMPER_STS.LOG_FULL, .fld KEY_RIND_STS.TRIPPED, .fld (KEY_TLOG_B.ACK 0),
      .fld (FLT_RAW.B 0)]]
  | .rindSample .. => [timeTouches, eventTouches, faultTouches, [.regs .sec, .fld QMS_POOL_FREE.FREE, .fld QMS_POOL_PEAK.PEAK,
      .fld (QMS_POOL_USE.USED 0), .fld (QMS_POOL_USE.PEAK 0), .fld HIF_CMD_DONE, .fld HIF_CMD_FAIL, .fld HIF_BADARG, .fld (HIF_CMDR_FAIL.COUNT 0),
      .regs .key, .fld SYS_BOOT_STS.STAGE, .fld (SYS_BOOT_TRACE.US 0), .fld (SYS_BOOT_TRACE.STAGE 0), .fld CEL_PIN_STS.CASE,
      .fld CEL_WAKE_STS.PEND, .fld (FLT_RAW.B 0), .regs .pair, .part .freeCtr, .part .nodes, .part .slices, .part .mac, .part .lanes, .part .sec,
      .part .jdev, .part .cave, .part .boot, .part .cel]]
  | .sensorDetect .. => [timeTouches, eventTouches, faultTouches, [.regs .sec, .fld QMS_POOL_FREE.FREE, .fld QMS_POOL_PEAK.PEAK,
      .fld (QMS_POOL_USE.USED 0), .fld (QMS_POOL_USE.PEAK 0), .fld HIF_CMD_DONE, .fld HIF_CMD_FAIL, .fld HIF_BADARG, .fld (HIF_CMDR_FAIL.COUNT 0),
      .regs .key, .fld SYS_BOOT_STS.STAGE, .fld (SYS_BOOT_TRACE.US 0), .fld (SYS_BOOT_TRACE.STAGE 0), .fld CEL_WAKE_STS.PEND, .fld (FLT_RAW.B 0),
      .regs .pair, .part .freeCtr, .part .nodes, .part .slices, .part .mac, .part .lanes, .part .sec, .part .jdev, .part .cave, .part .boot,
      .part .cel]]
  | .keyTamperAckWrite .. => [eventTouches, faultTouches, [.fld SEC_KC_STS.USED, .fld HIF_CFG.STANDALONE, .regs .key, .fld SYS_BOOT_STS.STAGE,
      .fld SYS_LC_STS.LC, .fld SYS_LC_STS.PEND, .fld SYS_FUSE_STS.DONE, .fld SYS_FUSE_STS.BSCAN_FIELD, .fld SYS_SRAM_STS.DONE,
      .fld (SYS_OWNER_KEY.K 0), .fld (SYS_BOOT_TRACE.US 0), .fld (SYS_BOOT_TRACE.STAGE 0), .fld (FLT_RAW.B 0), .fld DBG_ACCESS.BSCAN,
      .fld DBG_ACCESS.PC_DEBUG, .fld DBG_ACCESS.UC_REGS, .fld DBG_ACCESS.JTAG_RST, .part .freeCtr, .part .hoar, .part .lanes, .part .src,
      .part .sec, .part .fuse, .part .cave, .part .boot, .part .cel]]
  | .deriveComplete .. => [eventTouches, faultTouches, [.regs .sec, .fld QMS_POOL_FREE.FREE, .fld QMS_POOL_PEAK.PEAK, .fld (QMS_POOL_USE.USED 0),
      .fld (QMS_POOL_USE.PEAK 0), .fld HIF_CMD_DONE, .fld HIF_CMD_FAIL, .fld HIF_BADARG, .fld (HIF_CMDR_FAIL.COUNT 0), .fld KEY_STS.STATE,
      .fld KEY_STS.SLOTS, .fld KEY_IDENT_SIGNS, .fld (KEY_MEAS.M 0), .fld (KEY_IDENT_PUB.K 0), .fld (KEY_ALIAS_PUB.K 0), .fld (KEY_XCHG_PUB.K 0),
      .fld (KEY_SLOT_STS.SLOT_0 0), .fld (KEY_SLOT_STS.SLOT_1 0), .fld (KEY_SLOT_STS.SLOT_2 0), .fld (KEY_SLOT_STS.SLOT_3 0),
      .fld SYS_BOOT_STS.STAGE, .fld (SYS_BOOT_TRACE.US 0), .fld (SYS_BOOT_TRACE.STAGE 0), .fld (FLT_RAW.B 0), .regs .pair, .part .freeCtr,
      .part .nodes, .part .sec, .part .jdev, .part .cave, .part .boot]]
  | .caveRestoreComplete .. => [timeTouches, eventTouches, [.fld KEY_STS.STATE, .fld KEY_STS.HTK_READY, .fld KEY_STS.SLOTS,
      .fld KEY_INT_STS.RESTORED, .fld KEY_RESTORES, .fld (KEY_SLOT_STS.SLOT_0 0), .fld (KEY_SLOT_STS.SLOT_1 0), .fld (KEY_SLOT_STS.SLOT_2 0),
      .fld (KEY_SLOT_STS.SLOT_3 0), .part .freeCtr, .part .cave]]
  | .brineVisit .. => [timeTouches, [.fld KEY_BRINE_STS.LAST_MS, .fld KEY_BRINE_STS.POS, .fld KEY_BRINE_PASSES, .fld KEY_BRINE_SKIP,
      .part .freeCtr, .part .sec, .part .cave]]
  | .rngHealthTest .. => [timeTouches, eventTouches, faultTouches, [.fld KEY_STS.RNG_OK, .fld KEY_INT_STS.RNG_FAIL, .fld KEY_RNG_STS.OK,
      .fld KEY_RNG_STS.HEALTH_FAIL, .fld KEY_RNG_STS.FAILS, .fld KEY_RNG_FAIL, .fld (FLT_RAW.B 0), .part .cave]]
  | .keyHostpubWrite .. => [timeTouches, [.fld KEY_STS.HTK_READY, .fld KEY_STS.SLOTS, .fld (KEY_HOSTPUB.K 0), .fld (KEY_SLOT_STS.SLOT_0 0),
      .fld (KEY_SLOT_STS.SLOT_1 0), .fld (KEY_SLOT_STS.SLOT_2 0), .fld (KEY_SLOT_STS.SLOT_3 0), .part .cave]]
  | .powerOnReset .. => [[.regs .all, .part .rc, .part .tsuOfs, .part .freeCtr, .part .latch, .part .nodes, .part .hoar, .part .fe, .part .dc,
      .part .slices, .part .sniffers, .part .mac, .part .lanes, .part .src, .part .qms, .part .sec, .part .fwd, .part .camps, .part .pressOctets,
      .part .hif, .part .flt, .part .pair, .part .tsu, .part .fuse, .part .cave, .part .boot, .part .pcr, .part .cel, .part .mem, .part .frac,
      .part .plans, .part .specAt, .part .pressAt]]
  | .powerFailReset .. => [[.regs .all, .part .rc, .part .tsuOfs, .part .freeCtr, .part .latch, .part .nodes, .part .hoar, .part .fe, .part .dc,
      .part .slices, .part .sniffers, .part .mac, .part .lanes, .part .src, .part .qms, .part .sec, .part .fwd, .part .camps, .part .pressOctets,
      .part .hif, .part .flt, .part .pair, .part .tsu, .part .fuse, .part .cave, .part .boot, .part .pcr, .part .cel, .part .mem, .part .frac,
      .part .plans, .part .specAt, .part .pressAt]]
  | .wakeReset .. => [[.regs .all, .part .rc, .part .tsuOfs, .part .freeCtr, .part .latch, .part .nodes, .part .hoar, .part .fe, .part .dc,
      .part .slices, .part .sniffers, .part .mac, .part .lanes, .part .src, .part .qms, .part .sec, .part .fwd, .part .camps, .part .pressOctets,
      .part .hif, .part .flt, .part .pair, .part .tsu, .part .fuse, .part .cave, .part .boot, .part .pcr, .part .cel, .part .mem, .part .frac,
      .part .plans, .part .specAt, .part .pressAt]]
  | .warmReset .. => [[.regs .all, .part .rc, .part .tsuOfs, .part .freeCtr, .part .latch, .part .nodes, .part .hoar, .part .fe, .part .dc,
      .part .slices, .part .sniffers, .part .mac, .part .lanes, .part .src, .part .qms, .part .sec, .part .fwd, .part .camps, .part .pressOctets,
      .part .hif, .part .flt, .part .pair, .part .tsu, .part .fuse, .part .cave, .part .boot, .part .pcr, .part .cel, .part .mem, .part .frac,
      .part .plans, .part .specAt, .part .pressAt]]
  | .faultReset .. => [[.regs .all, .part .rc, .part .tsuOfs, .part .freeCtr, .part .latch, .part .nodes, .part .hoar, .part .fe, .part .dc,
      .part .slices, .part .sniffers, .part .mac, .part .lanes, .part .src, .part .qms, .part .sec, .part .fwd, .part .camps, .part .pressOctets,
      .part .hif, .part .flt, .part .pair, .part .tsu, .part .fuse, .part .cave, .part .boot, .part .pcr, .part .cel, .part .mem, .part .frac,
      .part .plans, .part .specAt, .part .pressAt]]
  | .jtagReset .. => [[.regs .all, .part .rc, .part .tsuOfs, .part .freeCtr, .part .latch, .part .nodes, .part .hoar, .part .fe, .part .dc,
      .part .slices, .part .sniffers, .part .mac, .part .lanes, .part .src, .part .qms, .part .sec, .part .fwd, .part .camps, .part .pressOctets,
      .part .hif, .part .flt, .part .pair, .part .tsu, .part .fuse, .part .cave, .part .boot, .part .pcr, .part .cel, .part .mem, .part .frac,
      .part .plans, .part .specAt, .part .pressAt]]
  | .pcieFundamentalReset .. => [timeTouches, [.fld HIF_STS.LINK_UP, .fld HIF_STS.BME, .fld HIF_STS.MSIX_EN, .fld HIF_FLR, .fld (HIF_R_CFG.EN 0),
      .fld (HIF_R_MOD.USECS 0), .fld (HIF_R_MOD.COUNT 0), .fld (HIF_R_STS.RUN 0), .fld (HIF_R_STS.ERR 0), .fld (HIF_R_STS.ERR_CODE 0), .part .hif]]
  | .sramInitComplete .. => [[.fld SYS_BOOT_STS.STAGE, .fld SYS_SRAM_STS.DONE, .fld SYS_SRAM_STS.US, .fld (SYS_BOOT_TRACE.US 0),
      .fld (SYS_BOOT_TRACE.STAGE 0), .part .boot]]
  | .clockCheckComplete .. => [timeTouches, eventTouches, faultTouches, [.fld TSU_STS.REF, .fld (TSU_P_STS.TS_OK 0), .fld SYS_BOOT_STS.STAGE,
      .fld (SYS_BOOT_TRACE.US 0), .fld (SYS_BOOT_TRACE.STAGE 0), .fld CLK_STS.REF_OK, .fld CLK_STS.ON_RC, .fld CLK_INT_STS.NO_TCXO,
      .fld CLK_INT_STS.NO_SERDES, .fld CLK_INT_STS.NO_PCIE, .fld CLK_TO_REF, .fld (CLK_REF_STS.PRESENT 0), .fld (CLK_REF_STS.IN_TOL 0),
      .fld (CLK_ISL_STS.ON_REF 0), .fld (CLK_ISL_STS.LOCKED 0), .fld (CLK_ISL_LOCK.US 0), .fld (CLK_ISL_FREQ.KHZ 0), .fld (CLK_ISL_SWITCHES 0),
      .fld (FLT_RAW.B 0), .part .tsuOfs, .part .tsu, .part .cave, .part .boot]]
  | .imageCheckComplete .. => [eventTouches, faultTouches, [.fld SYS_INT_STS.BOOT_FAIL, .fld SYS_BOOT_STS.STAGE, .fld SYS_BOOT_STS.SLOT,
      .fld SYS_BOOT_STS.FALLBACK, .fld SYS_BOOT_STS.ERR, .fld SYS_SVN_CTL.MAX, .fld SYS_BOOT_FAILS, .fld (SYS_IMG_STS.KIND 0),
      .fld (SYS_IMG_STS.RESULT 0), .fld (SYS_IMG_STS.MEASURED 0), .fld (SYS_IMG_STS.VER 0), .fld (SYS_BOOT_TRACE.US 0),
      .fld (SYS_BOOT_TRACE.STAGE 0), .fld (FLT_RAW.B 0), .part .lanes, .part .src, .part .cave, .part .boot]]
  | .bootRelease .. => [timeTouches, eventTouches, planTouches, [.fld (CHZ_SLICE_STS.STATE 0), .fld (MAC_LS_STS.BANK 0),
      .fld (MAC_LS_VER.ACTIVE 0), .fld SRC_STS.UC_BANK, .fld SRC_UC_VER.ACTIVE, .fld (SRC_ENV_RATE.TOKENS 0), .fld SEC_ENG_STS.IN_USE,
      .fld SYS_MODE_STS.CUR, .fld SYS_MODE_STS.PEND, .fld SYS_MODE_STS.BUSY, .fld SYS_MODE_STS.FAIL, .fld SYS_INT_STS.BOOT_DONE,
      .fld SYS_INT_STS.MODE_DONE, .fld SYS_BOOT_STS.STAGE, .fld SYS_BOOT_TIME.US, .fld SYS_REL_STS.CORES, .fld SYS_REL_STS.LANES,
      .fld SYS_REL_STS.SERAC, .fld (SYS_BOOT_TRACE.US 0), .fld (SYS_BOOT_TRACE.STAGE 0), .fld PCR_STS.RUN, .fld PCR_STS.HELD,
      .fld PCR_SHARED_IMG.VER, .fld (PCR_C_STS.STATE 0), .fld (PCR_C_ENTRY.OFS 0), .fld (PCR_C_IMG_VER.VER 0), .part .hoar, .part .slices,
      .part .src, .part .flt, .part .boot]]
  | .sysPcieBootGo .. => [[.fld SYS_BOOT_STS.STAGE, .fld (SYS_BOOT_TRACE.US 0), .fld (SYS_BOOT_TRACE.STAGE 0), .fld (FLT_RAW.B 0), .part .boot]]
  | .svnProgram .. => [timeTouches, [.fld SYS_SVN_CTL.TARGET, .fld SYS_SVN_CTL.BUSY, .fld SYS_SVN_CTL.BAD]]
  | .svnProgramDone .. => [timeTouches, eventTouches, [.fld SYS_INT_STS.SVN_DONE, .fld SYS_SVN_CTL.BUSY, .part .fuse]]
  | .lcRequest .. => [timeTouches, eventTouches, [.fld SYS_INT_STS.LC_PEND, .fld SYS_LC_STS.PEND, .fld SYS_LC_STS.RESULT]]
  | .fuseProgram .. => [timeTouches, [.fld SYS_FUSE_CTL.TARGET, .fld SYS_FUSE_CTL.VAL, .fld SYS_FUSE_STS.BUSY, .fld SYS_FUSE_STS.ERR]]
  | .fuseProgramDone .. => [timeTouches, eventTouches, [.fld KEY_RIND_CLASS.FUSE, .fld KEY_RIND_CLASS.EFF, .fld SYS_INT_STS.FUSE_DONE,
      .fld SYS_FUSE_STS.DONE, .fld SYS_FUSE_STS.BSCAN_FIELD, .fld SYS_FUSE_STS.BUSY, .fld SYS_FUSE_STS.ERR, .part .fuse]]
  | .pcrRun .. => [timeTouches, [.fld PCR_STS.RUN, .fld PCR_STS.HELD, .fld (PCR_C_STS.STATE 0), .part .pcr]]
  | .pcrDrain .. => [timeTouches, [.fld PCR_STS.RUN, .fld PCR_STS.HELD, .fld PCR_DRAINS, .fld (PCR_C_STS.STATE 0), .fld (PCR_C_IRQ_STS.BITS 0),
      .part .pcr]]
  | .pcrHalt .. => [timeTouches, eventTouches, [.fld PCR_STS.RUN, .fld PCR_STS.HELD, .fld PCR_INT_STS.DRAIN_FORCED, .fld PCR_DRAIN_FORCED,
      .fld (PCR_C_STS.STATE 0), .fld (PCR_C_STS.FORCED 0), .fld (PCR_C_STS.EXC 0), .fld (PCR_C_DRAIN_LAST.US 0), .fld (FLT_RAW.B 0)]]
  | .pcrDrainAck .. => [timeTouches, eventTouches, [.fld PCR_STS.RUN, .fld PCR_STS.HELD, .fld PCR_INT_STS.DRAINED, .fld (PCR_C_STS.STATE 0),
      .fld (PCR_C_STS.FORCED 0), .fld (PCR_C_DRAIN_LAST.US 0)]]
  | .drainTimeout .. => [timeTouches, eventTouches, [.fld PCR_STS.RUN, .fld PCR_STS.HELD, .fld PCR_INT_STS.DRAIN_FORCED, .fld PCR_DRAIN_FORCED,
      .fld (PCR_C_STS.STATE 0), .fld (PCR_C_STS.FORCED 0), .fld (PCR_C_DRAIN_LAST.US 0)]]
  | .watchdogExpiry .. => [timeTouches, eventTouches, faultTouches, [.fld PCR_STS.RUN, .fld PCR_STS.HELD, .fld PCR_INT_STS.HANG,
      .fld PCR_WDOG_FIRES, .fld (PCR_C_STS.STATE 0), .fld (PCR_C_MCAUSE.V 0), .fld (PCR_C_MEPC.V 0), .fld (FLT_RAW.B 0)]]
  | .pcrHeartbeatWrite .. => [timeTouches, [.part .pcr]]
  | .coreTrap .. => [timeTouches, eventTouches, faultTouches, [.fld PCR_STS.RUN, .fld PCR_STS.HELD, .fld PCR_INT_STS.HANG, .fld PCR_INT_STS.EXC,
      .fld PCR_EXCEPTIONS, .fld (PCR_C_STS.STATE 0), .fld (PCR_C_STS.EXC 0), .fld (PCR_C_MCAUSE.V 0), .fld (PCR_C_MEPC.V 0), .fld (FLT_RAW.B 0)]]
  | .policyStore .. => [timeTouches, eventTouches, [.fld PCR_INT_STS.REGION, .fld PCR_FAULT_ADDR.OFS, .fld PCR_FAULT_ADDR.CORE,
      .fld PCR_REGION_FAULTS]]
  | .pcrIpiWrite .. => [timeTouches, [.fld PCR_IPI_SENT, .fld (PCR_C_IRQ_STS.BITS 0)]]
  | .mboxInWrite .. => [timeTouches, [.fld (PCR_C_IRQ_STS.BITS 0), .fld (PCR_C_MBOX_IN.V 0 0)]]
  | .mboxOutWrite .. => [timeTouches, eventTouches, [.fld PCR_INT_STS.MBOX_OUT, .fld PCR_MBOX_MSGS, .fld (PCR_C_MBOX_OUT.V 0 0)]]
  | .pcrInstretLoRead .. => [[.fld (PCR_C_INSTRET_LO.V 0), .fld (PCR_C_INSTRET_HI.V 0), .part .freeCtr, .part .bus]]
  | .hushWrite .. => [timeTouches, eventTouches, planTouches, frontEndTouches, [.fld (RFE_STS.COVERING 0), .fld (RFE_STS.COVERED 0),
      .fld (RFE_COVER_STS.PHASE 0), .fld (RFE_COVER_STS.ABORTED 0), .fld (RFE_COVER_STS.COUNT 0), .fld (RFE_SYN_MOVES 0),
      .fld (MAC_LS_STS.IN_SPAN 0), .fld CEL_PWR_CTL.HUSH, .fld CEL_PWR_STS.STATE, .fld CEL_PWR_STS.HUSH_PEND, .fld CEL_HUSH_ENTRIES,
      .fld (CLK_ISL_STS.ON_REF 0), .fld (CLK_ISL_STS.LOCKED 0), .fld (CLK_ISL_FREQ.KHZ 0), .part .cel]]
  | .hushEntry .. => [timeTouches, eventTouches, planTouches, frontEndTouches, [.fld (RFE_STS.COVERING 0), .fld (RFE_STS.COVERED 0),
      .fld (RFE_COVER_STS.PHASE 0), .fld (RFE_COVER_STS.ABORTED 0), .fld (RFE_COVER_STS.COUNT 0), .fld (RFE_SYN_MOVES 0),
      .fld (MAC_LS_STS.IN_SPAN 0), .fld CEL_PWR_STS.STATE, .fld CEL_PWR_STS.HUSH_PEND, .fld CEL_HUSH_ENTRIES, .fld (CLK_ISL_STS.ON_REF 0),
      .fld (CLK_ISL_STS.LOCKED 0), .fld (CLK_ISL_FREQ.KHZ 0)]]
  | .hushExit .. => [timeTouches, eventTouches, planTouches, [.fld (RFE_STS.STATE 0), .fld (RFE_STS.LOCKED 0), .fld (RFE_STS.CAL_DUE 0),
      .fld (RFE_CAL_STS.DONE 0), .fld (RFE_CAL_STS.RUNNING 0), .fld (RFE_CAL_STS.BUSY 0), .fld (RFE_CAL_STS.PENDING 0), .fld (RFE_CAL_STS.ERR 0),
      .fld (RFE_RX_BLANKED 0), .fld (RFE_SYN_MOVES 0), .fld CHZ_SLICE_BUSY.BUSY, .fld (CHZ_SLICE_STS.STATE 0), .fld SEC_ENG_STS.BUSY,
      .fld CEL_PWR_CTL.HUSH, .fld CEL_PWR_STS.STATE, .fld CEL_PWR_STS.HUSH_PEND, .fld CLK_STS.ON_RC, .fld (CLK_ISL_STS.ON_REF 0),
      .fld (CLK_ISL_STS.LOCKED 0), .fld (CLK_ISL_FREQ.KHZ 0), .part .fe, .part .slices, .part .cel]]
  | .sleepRequest .. => [timeTouches, eventTouches, planTouches, frontEndTouches, [.fld (RFE_STS.COVERING 0), .fld (RFE_STS.COVERED 0),
      .fld (RFE_COVER_STS.PHASE 0), .fld (RFE_COVER_STS.ABORTED 0), .fld (RFE_COVER_STS.COUNT 0), .fld (RFE_SYN_MOVES 0),
      .fld (MAC_LS_STS.IN_SPAN 0), .fld CEL_INT_STS.SLEEP_ABORT, .fld CEL_PWR_STS.STATE, .fld CEL_SLEEP_STS.RESULT, .fld CEL_SLEEP_STS.BUSY,
      .fld CEL_SLEEP_STS.ABORT_SRC, .fld (CLK_ISL_STS.ON_REF 0), .fld (CLK_ISL_STS.LOCKED 0), .fld (CLK_ISL_FREQ.KHZ 0), .part .cel]]
  | .sleepQuiesceComplete .. => [timeTouches, [.part .cel]]
  | .sleepIsolation .. => [timeTouches, [.part .cel]]
  | .sleepWakeSample .. => [[.regs .all, .part .rc, .part .tsuOfs, .part .freeCtr, .part .latch, .part .nodes, .part .hoar, .part .fe, .part .dc,
      .part .slices, .part .sniffers, .part .mac, .part .lanes, .part .src, .part .qms, .part .sec, .part .fwd, .part .camps, .part .pressOctets,
      .part .hif, .part .flt, .part .pair, .part .tsu, .part .fuse, .part .cave, .part .boot, .part .pcr, .part .cel, .part .mem, .part .frac,
      .part .plans, .part .specAt, .part .pressAt]]
  | .pgOffTimeout .. => [[.fld CEL_STS.ON_VBAT, .fld CEL_REG_STS.LP, .fld CEL_PIN_STS.PWR_GOOD, .fld CEL_PIN_STS.PWR_REQ, .fld CEL_WAKE_LAST.CODE,
      .fld (CEL_LEDGER.W 0), .part .cel]]
  | .pwrGoodFall .. => [[.regs .all, .part .rc, .part .tsuOfs, .part .freeCtr, .part .latch, .part .nodes, .part .hoar, .part .fe, .part .dc,
      .part .slices, .part .sniffers, .part .mac, .part .lanes, .part .src, .part .qms, .part .sec, .part .fwd, .part .camps, .part .pressOctets,
      .part .hif, .part .flt, .part .pair, .part .tsu, .part .fuse, .part .cave, .part .boot, .part .pcr, .part .cel, .part .mem, .part .frac,
      .part .plans, .part .specAt, .part .pressAt]]
  | .wakeSource .. => [[.fld CEL_STS.ON_VBAT, .fld CEL_REG_STS.LP, .fld CEL_PIN_STS.WAKE, .fld CEL_PIN_STS.PWR_GOOD, .fld CEL_PIN_STS.PWR_REQ,
      .fld CEL_WAKE_STS.PEND, .fld CEL_WAKE_LAST.CODE, .fld (CEL_LEDGER.W 0), .part .cel]]
  | .pgWaitTimeout .. => [[.fld CEL_STS.ON_VBAT, .fld CEL_REG_STS.LP, .fld CEL_PIN_STS.PWR_GOOD, .fld CEL_PIN_STS.PWR_REQ, .fld CEL_WAKE_NOPWR,
      .fld (CEL_LEDGER.W 0), .part .cel]]
  | .wakeBackoffExpiry .. => [[.fld CEL_STS.ON_VBAT, .fld CEL_REG_STS.LP, .fld CEL_PIN_STS.PWR_GOOD, .fld CEL_PIN_STS.PWR_REQ,
      .fld CEL_WAKE_LAST.CODE, .fld (CEL_LEDGER.W 0), .part .cel]]
  | .watchSample .. => [eventTouches, [.fld CEL_STS.ON_VBAT, .fld CEL_INT_STS.WATCH_MATCH, .fld CEL_REG_STS.LP, .fld CEL_PIN_STS.PWR_GOOD,
      .fld CEL_PIN_STS.PWR_REQ, .fld CEL_WAKE_STS.PEND, .fld CEL_WAKE_LAST.CODE, .fld CEL_WATCH_STS.RUN, .fld CEL_WATCH_SAMPLE.ANA,
      .fld CEL_WATCH_SAMPLE.PINS, .fld CEL_WATCH_SAMPLES, .fld (CEL_LEDGER.W 0), .part .cel]]
  | .rtcTick .. => [timeTouches, eventTouches, [.fld CEL_STS.RTC_VALID, .fld CEL_STS.WR_PEND, .fld CEL_STS.ON_VBAT, .fld CEL_INT_STS.ALARM,
      .fld CEL_REG_STS.LP, .fld CEL_RTC_TICK.TICK, .fld CEL_ANCHOR_STS.AGE_S, .fld CEL_PIN_STS.PWR_GOOD, .fld CEL_PIN_STS.PWR_REQ,
      .fld CEL_WAKE_STS.PEND, .fld CEL_WAKE_LAST.CODE, .fld CEL_WATCH_CNT.COUNT, .fld (CEL_LEDGER.W 0), .fld FLT_STS.QUEUE_FULL,
      .fld FLT_INT_STS.MOR_WRAP, .fld FLT_MOR_STS.WP, .fld FLT_MOR_STS.WRAPS, .fld FLT_MOR_STS.QUEUED, .fld FLT_MOR_WRITES, .fld FLT_MOR_LOST,
      .fld (FLT_MORAINE.W 0), .part .flt, .part .cel]]
  | .rtcSet .. => [timeTouches, [.part .cel]]
  | .celRtcTickRead .. => [timeTouches, [.fld CEL_RTC_S.S, .part .bus]]
  | .anchorStamp .. => [timeTouches, [.fld CEL_ANCHOR_STS.AGE_S, .fld CEL_ANCHOR_STS.VALID, .part .anchor, .part .cel]]
  | .vbatSample .. => [eventTouches, [.fld CEL_STS.ON_VBAT, .fld CEL_STS.VBAT_PRESENT, .fld CEL_INT_STS.VBAT_LOW, .fld CEL_REG_STS.LP,
      .fld CEL_VBAT_STS.LEVEL, .fld CEL_VBAT_STS.LOW, .fld CEL_TEMP.C, .fld CEL_PIN_STS.PWR_GOOD, .fld CEL_PIN_STS.PWR_REQ, .fld CEL_VBAT_LOWS,
      .fld CEL_WAKE_STS.PEND, .fld CEL_WAKE_LAST.CODE, .fld (CEL_LEDGER.W 0), .part .cel]]
  | .regLimit .. => [eventTouches, [.fld CEL_INT_STS.REG_LIMIT, .fld CEL_REG_STS.LIMIT, .fld CEL_REG_LIMITS]]
  | .cellarBrownout .. => [[.regs .all, .part .rc, .part .tsuOfs, .part .freeCtr, .part .latch, .part .nodes, .part .hoar, .part .fe, .part .dc,
      .part .slices, .part .sniffers, .part .mac, .part .lanes, .part .src, .part .qms, .part .sec, .part .fwd, .part .camps, .part .pressOctets,
      .part .hif, .part .flt, .part .pair, .part .tsu, .part .anchor, .part .fuse, .part .cave, .part .boot, .part .pcr, .part .cel, .part .mem,
      .part .frac, .part .plans, .part .specAt, .part .pressAt]]
  | .cellarPowerUp .. => [[.regs .all, .part .anchor, .part .cel]]
  | .clockMonitorCheck .. => [timeTouches, eventTouches, faultTouches, planTouches, frontEndTouches, [.fld (RFE_CTL.EN 0),
      .fld (RFE_STS.COVERING 0), .fld (RFE_STS.COVERED 0), .fld (RFE_COVER_STS.PHASE 0), .fld (RFE_COVER_STS.ABORTED 0),
      .fld (RFE_COVER_STS.COUNT 0), .fld (RFE_SYN_MOVES 0), .fld MAC_STS.ASN_RUN, .fld (MAC_LS_STS.IN_SPAN 0), .regs .sec,
      .fld QMS_POOL_FREE.FREE, .fld QMS_POOL_PEAK.PEAK, .fld (QMS_POOL_USE.USED 0), .fld (QMS_POOL_USE.PEAK 0), .fld TSU_STS.REF,
      .fld TSU_STS.ASN_RUN, .fld TSU_STS.SERVO, .fld TSU_ASN_STS.RUN, .fld TSU_ASN_STS.STOP_PEND, .fld TSU_ASN_STS.START_PEND,
      .fld TSU_SERVO_CFG.EN, .fld TSU_SERVO_STS.STATE, .fld (TSU_P_STS.TS_OK 0), .fld HIF_CMD_DONE, .fld HIF_CMD_FAIL, .fld HIF_BADARG,
      .fld (HIF_CMDR_FAIL.COUNT 0), .regs .key, .fld SYS_BOOT_STS.STAGE, .fld (SYS_BOOT_TRACE.US 0), .fld (SYS_BOOT_TRACE.STAGE 0),
      .fld CEL_WAKE_STS.PEND, .regs .clk, .fld (FLT_RAW.B 0), .regs .pair, .fld (ETH_P_STS.LINK 0), .fld (ETH_P_STS.AN_DONE 0),
      .fld (ETH_P_TX_LINK_DROP 0), .part .freeCtr, .part .nodes, .part .mac, .part .qms, .part .sec, .part .jdev, .part .cave, .part .boot,
      .part .cel]]
  | .refRecheckTimer .. => [timeTouches, eventTouches, [.fld TSU_STS.REF, .fld (TSU_P_STS.TS_OK 0), .fld CLK_STS.REF_OK, .fld CLK_STS.ON_RC,
      .fld CLK_INT_STS.REF_BACK, .fld CLK_TO_REF, .fld CLK_RECHECKS, .fld (CLK_REF_STS.PRESENT 0), .fld (CLK_REF_STS.IN_TOL 0),
      .fld (CLK_ISL_STS.ON_REF 0), .fld (CLK_ISL_STS.LOCKED 0), .fld (CLK_ISL_LOCK.US 0), .fld (CLK_ISL_FREQ.KHZ 0), .fld (CLK_ISL_SWITCHES 0),
      .fld (FLT_RAW.B 0), .part .tsuOfs, .part .tsu, .part .cave, .part .boot]]
  | .clkRefRecheck .. => [timeTouches, eventTouches, [.fld TSU_STS.REF, .fld (TSU_P_STS.TS_OK 0), .fld CLK_STS.REF_OK, .fld CLK_STS.ON_RC,
      .fld CLK_INT_STS.REF_BACK, .fld CLK_TO_REF, .fld CLK_RECHECKS, .fld (CLK_REF_STS.PRESENT 0), .fld (CLK_REF_STS.IN_TOL 0),
      .fld (CLK_ISL_STS.ON_REF 0), .fld (CLK_ISL_STS.LOCKED 0), .fld (CLK_ISL_LOCK.US 0), .fld (CLK_ISL_FREQ.KHZ 0), .fld (CLK_ISL_SWITCHES 0),
      .fld (FLT_RAW.B 0), .part .tsuOfs, .part .tsu, .part .cave]]
  | .xtalCheck .. => [timeTouches, eventTouches, faultTouches, [.regs .sec, .fld QMS_POOL_FREE.FREE, .fld QMS_POOL_PEAK.PEAK,
      .fld (QMS_POOL_USE.USED 0), .fld (QMS_POOL_USE.PEAK 0), .fld TSU_STS.REF, .fld (TSU_P_STS.TS_OK 0), .fld HIF_CMD_DONE, .fld HIF_CMD_FAIL,
      .fld HIF_BADARG, .fld (HIF_CMDR_FAIL.COUNT 0), .regs .key, .fld SYS_BOOT_STS.STAGE, .fld (SYS_BOOT_TRACE.US 0),
      .fld (SYS_BOOT_TRACE.STAGE 0), .fld CEL_INT_STS.XTAL_FAIL, .fld CEL_WAKE_STS.PEND, .fld (CEL_LEDGER.W 0), .fld CLK_STS.REF_OK,
      .fld CLK_STS.ON_RC, .fld CLK_INT_STS.XTAL_FAIL, .fld CLK_XTAL_STS.RUN, .fld CLK_XTAL_STS.FAIL, .fld CLK_XTAL_FAILS, .fld CLK_TO_REF,
      .fld CLK_TO_RC, .fld (CLK_REF_STS.PRESENT 0), .fld (CLK_REF_STS.IN_TOL 0), .fld (CLK_ISL_STS.ON_REF 0), .fld (CLK_ISL_STS.LOCKED 0),
      .fld (CLK_ISL_LOCK.US 0), .fld (CLK_ISL_FREQ.KHZ 0), .fld (CLK_ISL_SWITCHES 0), .fld (FLT_RAW.B 0), .regs .pair, .part .tsuOfs,
      .part .freeCtr, .part .nodes, .part .slices, .part .mac, .part .lanes, .part .sec, .part .jdev, .part .tsu, .part .cave, .part .boot,
      .part .cel]]
  | .xtalMeasure .. => [timeTouches, eventTouches, [.fld CEL_TRIM.PPB, .fld CLK_INT_STS.XTAL_MEAS_DONE, .fld CLK_XTAL_MEAS.PPB,
      .fld CLK_XTAL_STS.DISCIPLINED, .fld CLK_XTAL_MEASURES, .part .boot]]
  | .faultOccurrence .. => [timeTouches, eventTouches, faultTouches, [.fld MAC_INT_STS.LS_HANG, .fld (MAC_LS_STS.STATE 0), .fld SRC_STS.STAGED,
      .fld SRC_ADDS, .fld SRC_DELETES, .fld SRC_MOVES, .fld SEC_ENG_STS.BUSY, .fld QMS_INT_STS.CURD_ECC, .fld QMS_POOL_FREE.FREE,
      .fld QMS_WHEY_TOTAL, .fld (QMS_POOL_USE.USED 0), .fld (QMS_W_NFRAMES.FRAMES 0), .fld (QMS_WHEY 0), .fld (QMS_CQ.CURDS 0),
      .fld SHP_CAL_STS.COUNT, .fld SHP_CAL_STS.PEAK, .fld UPD_STS.ACTIVE, .fld UPD_STS.PRESS_BUSY, .fld UPD_INT_STS.CAMP_END, .fld UPD_CURDS.USED,
      .fld UPD_READY.FRAMES, .fld UPD_READY.PEAK, .fld (UPD_C_STS.STATE 0), .fld (UPD_C_STS.END_WHY 0), .fld (UPD_C_ROUND.ROUND 0),
      .fld (PCR_C_LOCAL_ECC.POISON 0), .fld (FLT_RAW.B 0), .part .nodes, .part .lanes, .part .src, .part .qms, .part .fwd, .part .camps]]
  | .fltLatchClear .. => [timeTouches, eventTouches, faultTouches, [.fld FLT_CLEARS]]
  | .fltClearAll .. => [timeTouches, [.fld FLT_STS.ANY, .fld FLT_STS.ESC_RUN, .fld FLT_STS.QUEUE_FULL, .fld FLT_ESC_STS.LEFT,
      .fld FLT_MOR_STS.QUEUED, .fld FLT_FAULTN.LOW, .fld FLT_SUM.WORDS, .fld FLT_CLEARS, .fld FLT_MOR_LOST, .fld (FLT_LATCH.B 0),
      .fld (FLT_SRC_CFG.CNT 0), .part .flt]]
  | .fltClearFirst .. => [timeTouches, [.fld (FLT_FIRST.W 0)]]
  | .fltInject .. => [timeTouches, eventTouches, faultTouches, [.fld FLT_INJECTS]]
  | .escalationExpiry .. => [timeTouches, eventTouches, [.fld (RFE_STS.STATE 0), .fld FLT_STS.ESC_RUN, .fld FLT_STS.QUEUE_FULL,
      .fld FLT_INT_STS.FAULT, .fld FLT_ESC_STS.LEFT, .fld FLT_MOR_STS.QUEUED, .fld FLT_ESCALATIONS, .fld FLT_RESET_SUPPRESSED, .fld FLT_MOR_LOST,
      .fld PAIR_YIELDS, .fld (PAIR_TRACE.W 0), .part .fe, .part .flt, .part .pair]]
  | .calmExpiry .. => [timeTouches, [.fld FLT_RST_RUN.RUN]]
  | .fltMorClear .. => [timeTouches, [.fld FLT_MOR_STS.WP, .fld FLT_MOR_STS.WRAPS, .fld (FLT_MORAINE.W 0)]]
  | .pairJoinActive .. => [timeTouches, eventTouches, faultTouches, [.regs .sec, .fld QMS_POOL_FREE.FREE, .fld QMS_POOL_PEAK.PEAK,
      .fld (QMS_POOL_USE.USED 0), .fld (QMS_POOL_USE.PEAK 0), .fld HIF_CMD_DONE, .fld HIF_CMD_FAIL, .fld HIF_BADARG, .fld (HIF_CMDR_FAIL.COUNT 0),
      .fld (FLT_RAW.B 0), .regs .pair, .part .freeCtr, .part .nodes, .part .sec, .part .jdev]]
  | .pairJoinStandby .. => [timeTouches, eventTouches, faultTouches, [.regs .sec, .fld FWD_REASM_STS.USED, .fld QMS_POOL_FREE.FREE,
      .fld QMS_POOL_PEAK.PEAK, .fld QMS_WHEY_TOTAL, .fld (QMS_POOL_USE.USED 0), .fld (QMS_POOL_USE.PEAK 0), .fld (QMS_W_NFRAMES.FRAMES 0),
      .fld (QMS_WHEY 0), .fld (QMS_CQ.CURDS 0), .fld SHP_CAL_STS.COUNT, .fld SHP_CAL_STS.PEAK, .fld HIF_CMD_DONE, .fld HIF_CMD_FAIL,
      .fld HIF_BADARG, .fld (HIF_CMDR_FAIL.COUNT 0), .fld (FLT_RAW.B 0), .regs .pair, .part .freeCtr, .part .nodes, .part .qms, .part .sec,
      .part .jdev]]
  | .pairLeave .. => [timeTouches, eventTouches, faultTouches, [.regs .sec, .fld QMS_POOL_FREE.FREE, .fld QMS_POOL_PEAK.PEAK,
      .fld (QMS_POOL_USE.USED 0), .fld (QMS_POOL_USE.PEAK 0), .fld HIF_CMD_DONE, .fld HIF_CMD_FAIL, .fld HIF_BADARG, .fld (HIF_CMDR_FAIL.COUNT 0),
      .fld (FLT_RAW.B 0), .regs .pair, .part .freeCtr, .part .nodes, .part .sec, .part .jdev]]
  | .pairSwitch .. => [timeTouches, [.fld PAIR_CTL.BAD, .fld PAIR_STS.SW_PEND, .fld PAIR_STS.SW_LATE, .part .pair]]
  | .pairForce .. => [timeTouches, eventTouches, faultTouches, [.regs .sec, .fld QMS_POOL_FREE.FREE, .fld QMS_POOL_PEAK.PEAK,
      .fld (QMS_POOL_USE.USED 0), .fld (QMS_POOL_USE.PEAK 0), .fld TSU_STS.SERVO, .fld TSU_INT_STS.HOLDOVER, .fld TSU_INT_STS.SYNC_LOSS,
      .fld TSU_FREQ.FREQ, .fld TSU_SERVO_STS.STATE, .fld TSU_SERVO_STS.CAUSE, .fld TSU_SERVO_HOLD_FREQ.PPB, .fld TSU_HOLDOVERS, .fld HIF_CMD_DONE,
      .fld HIF_CMD_FAIL, .fld HIF_BADARG, .fld (HIF_CMDR_FAIL.COUNT 0), .fld (FLT_RAW.B 0), .regs .pair, .part .freeCtr, .part .nodes, .part .sec,
      .part .jdev, .part .tsu]]
  | .heartbeatSend .. => [timeTouches, [.fld PAIR_STS.ALIVE_IN, .fld PAIR_HB_TX, .fld PAIR_LINK_BYTES_K, .part .freeCtr, .part .pair]]
  | .heartbeatReceived .. => [timeTouches, eventTouches, faultTouches, planTouches, frontEndTouches, [.fld (RFE_STS.COVERING 0),
      .fld (RFE_STS.COVERED 0), .fld (RFE_COVER_STS.PHASE 0), .fld (RFE_COVER_STS.ABORTED 0), .fld (RFE_COVER_STS.COUNT 0),
      .fld (RFE_SYN_MOVES 0), .fld (MAC_WARD_SA.COUNT 0), .fld (MAC_LS_STS.IN_SPAN 0), .fld SRC_INT_STS.ENV_OVER, .fld SRC_CELLS_USED.CELLS,
      .fld SRC_CELLS_PEAK.PEAK, .fld (SRC_W_CELLS.CELLS 0), .fld (SRC_W_CELLS.OVER 0), .regs .sec, .fld FWD_STS.ENTRIES, .fld FWD_REASM_STS.USED,
      .fld FWD_VAT_STS.USED, .fld FWD_VAT_STS.NOFWT, .fld FWD_LOCK_WAIT, .fld FWD_REASM_TIMEOUT, .fld QMS_POOL_FREE.FREE, .fld QMS_POOL_PEAK.PEAK,
      .fld QMS_WHEY_TOTAL, .fld (QMS_POOL_USE.USED 0), .fld (QMS_POOL_USE.PEAK 0), .fld (QMS_W_NFRAMES.FRAMES 0), .fld (QMS_WHEY 0),
      .fld (SHP_GATE_STS.OPER_IX 0), .fld (SHP_GATE_STS.OPEN 0), .regs .tsu, .fld HIF_CMD_DONE, .fld HIF_CMD_FAIL, .fld HIF_BADARG,
      .fld (HIF_CMDR_FAIL.COUNT 0), .fld UPD_STS.ACTIVE, .fld UPD_STS.PRESS_BUSY, .fld UPD_INT_STS.CAMP_END, .fld UPD_READY.FRAMES,
      .fld UPD_READY.PEAK, .fld (UPD_C_STS.STATE 0), .fld (UPD_C_STS.END_WHY 0), .fld (UPD_C_NODES.ACTIVE 0), .fld CEL_ANCHOR_STS.VALID,
      .fld (FLT_RAW.B 0), .regs .pair, .part .tsuOfs, .part .freeCtr, .part .nodes, .part .mac, .part .src, .part .qms, .part .sec, .part .jdev,
      .part .fwd, .part .camps, .part .tsu, .part .anchor]]
  | .heartbeatMissCount .. => [timeTouches, eventTouches, faultTouches, [.fld (FLT_RAW.B 0), .fld PAIR_STS.SYNC, .fld PAIR_STS.PEER_SEEN,
      .fld PAIR_STS.ALIVE_IN, .fld PAIR_STS.FENCE_OUT, .fld PAIR_STS.TAKE_PEND, .fld PAIR_STS.SW_PEND, .fld PAIR_INT_STS.SYNC_LOST,
      .fld PAIR_INT_STS.TAKE_BLOCKED, .fld PAIR_LAST.LAGGING, .fld PAIR_HB_MISS, .fld PAIR_ALIVE_MISS, .fld PAIR_TAKE_BLOCKED,
      .fld PAIR_BULK_STS.RUN]]
  | .peerSilentExpiry .. => [timeTouches, eventTouches, faultTouches, [.regs .sec, .fld QMS_POOL_FREE.FREE, .fld QMS_POOL_PEAK.PEAK,
      .fld (QMS_POOL_USE.USED 0), .fld (QMS_POOL_USE.PEAK 0), .fld HIF_CMD_DONE, .fld HIF_CMD_FAIL, .fld HIF_BADARG, .fld (HIF_CMDR_FAIL.COUNT 0),
      .fld (FLT_RAW.B 0), .fld PAIR_STS.SYNC, .fld PAIR_STS.PEER_SILENT, .fld PAIR_INT_STS.PEER_LOST, .fld PAIR_INT_STS.MIR_OVF, .fld PAIR_MIR_TX,
      .fld PAIR_MIR_OVF, .fld PAIR_RES_MIRRORED, .fld PAIR_RES_LOCAL, .fld PAIR_LINK_BYTES_K, .fld PAIR_MIR_SEQ.MSEQ, .fld PAIR_MIR_STS.CURDS,
      .fld PAIR_MIR_STS.PEAK, .part .freeCtr, .part .nodes, .part .sec, .part .jdev]]
  | .takeover .. => [timeTouches, eventTouches, faultTouches, [.regs .sec, .fld QMS_POOL_FREE.FREE, .fld QMS_POOL_PEAK.PEAK,
      .fld (QMS_POOL_USE.USED 0), .fld (QMS_POOL_USE.PEAK 0), .fld TSU_STS.SERVO, .fld TSU_INT_STS.HOLDOVER, .fld TSU_INT_STS.SYNC_LOSS,
      .fld TSU_FREQ.FREQ, .fld TSU_SERVO_STS.STATE, .fld TSU_SERVO_STS.CAUSE, .fld TSU_SERVO_HOLD_FREQ.PPB, .fld TSU_HOLDOVERS, .fld HIF_CMD_DONE,
      .fld HIF_CMD_FAIL, .fld HIF_BADARG, .fld (HIF_CMDR_FAIL.COUNT 0), .fld (FLT_RAW.B 0), .regs .pair, .part .freeCtr, .part .nodes, .part .sec,
      .part .jdev, .part .tsu]]
  | .pairFenceInput .. => [timeTouches, eventTouches, faultTouches, planTouches, frontEndTouches, [.fld (RFE_STS.COVERING 0),
      .fld (RFE_STS.COVERED 0), .fld (RFE_COVER_STS.PHASE 0), .fld (RFE_COVER_STS.ABORTED 0), .fld (RFE_COVER_STS.COUNT 0),
      .fld (RFE_SYN_MOVES 0), .fld (MAC_LS_STS.IN_SPAN 0), .regs .sec, .fld QMS_POOL_FREE.FREE, .fld QMS_POOL_PEAK.PEAK,
      .fld (QMS_POOL_USE.USED 0), .fld (QMS_POOL_USE.PEAK 0), .fld HIF_CMD_DONE, .fld HIF_CMD_FAIL, .fld HIF_BADARG, .fld (HIF_CMDR_FAIL.COUNT 0),
      .fld (FLT_RAW.B 0), .regs .pair, .part .freeCtr, .part .nodes, .part .sec, .part .jdev]]
  | .fabricTokenCheck .. => [timeTouches, [.fld PAIR_YIELDS, .fld (PAIR_TRACE.W 0), .part .pair]]
  | .aliveToggle .. => [timeTouches, [.part .pair]]
  | .mirRecordReceived .. => [timeTouches, eventTouches, faultTouches, [.fld (MAC_WARD_SA.CURSOR 0), .fld (MAC_WARD_SA.COUNT 0),
      .fld SRC_INT_STS.ENV_OVER, .fld SRC_GEN.CUR, .fld SRC_GEN.BOUND, .fld SRC_CELLS_USED.CELLS, .fld SRC_CELLS_PEAK.PEAK,
      .fld (SRC_SF_CFG.EN 0), .fld (SRC_SF_CFG.ON 0), .fld (SRC_W_CELLS.CELLS 0), .fld (SRC_W_CELLS.OVER 0), .regs .sec, .fld FWD_STS.ENTRIES,
      .fld FWD_INT_STS.VAT_FULL, .fld FWD_REASM_STS.USED, .fld FWD_VAT_STS.USED, .fld FWD_VAT_STS.NOFWT, .fld FWD_INSERTS, .fld FWD_RELOCS,
      .fld FWD_VAT_INSERTS, .fld FWD_INSERT_FAIL, .fld FWD_LOCK_WAIT, .fld FWD_REASM_TIMEOUT, .fld QMS_POOL_FREE.FREE, .fld QMS_POOL_PEAK.PEAK,
      .fld QMS_WHEY_TOTAL, .fld (QMS_POOL_USE.USED 0), .fld (QMS_POOL_USE.PEAK 0), .fld (QMS_W_NFRAMES.FRAMES 0), .fld (QMS_WHEY 0),
      .fld UPD_STS.ACTIVE, .fld UPD_STS.PRESS_BUSY, .fld UPD_INT_STS.CAMP_END, .fld UPD_READY.FRAMES, .fld UPD_READY.PEAK,
      .fld (UPD_C_STS.STATE 0), .fld (UPD_C_STS.END_WHY 0), .fld (UPD_C_NODES.ACTIVE 0), .fld KEY_STS.SLOTS, .fld (KEY_SLOT_STS.SLOT_0 0),
      .fld (KEY_SLOT_STS.SLOT_1 0), .fld (KEY_SLOT_STS.SLOT_2 0), .fld (KEY_SLOT_STS.SLOT_3 0), .fld (FLT_RAW.B 0), .fld PAIR_STS.SYNC,
      .fld PAIR_INT_STS.SYNC_LOST, .fld PAIR_INT_STS.AUTH_FAIL, .fld PAIR_INT_STS.MIR_OVF, .fld PAIR_LAST.LAGGING, .fld PAIR_MIR_TX,
      .fld PAIR_MIR_RX, .fld PAIR_MIR_OVF, .fld PAIR_KEY_MIRRORED, .fld PAIR_AUTH_FAIL, .fld PAIR_LINK_BYTES_K, .fld PAIR_MIR_SEQ.MSEQ,
      .fld PAIR_MIR_STS.CURDS, .fld PAIR_MIR_STS.PEAK, .fld PAIR_BULK_STS.RUN, .part .freeCtr, .part .nodes, .part .mac, .part .src, .part .qms,
      .part .sec, .part .jdev, .part .fwd, .part .camps, .part .cave]]
  | .mackSend .. => [timeTouches, [.fld PAIR_LINK_BYTES_K, .fld PAIR_MIR_ACKED.MSEQ, .part .freeCtr]]
  | .mackReceived .. => [timeTouches, eventTouches, faultTouches, [.regs .sec, .fld QMS_POOL_FREE.FREE, .fld QMS_POOL_PEAK.PEAK,
      .fld (QMS_POOL_USE.USED 0), .fld (QMS_POOL_USE.PEAK 0), .fld HIF_CMD_DONE, .fld HIF_CMD_FAIL, .fld HIF_BADARG, .fld (HIF_CMDR_FAIL.COUNT 0),
      .fld (FLT_RAW.B 0), .fld PAIR_STS.SYNC, .fld PAIR_INT_STS.AUTH_FAIL, .fld PAIR_INT_STS.MIR_OVF, .fld PAIR_MIR_TX, .fld PAIR_MACK_RX,
      .fld PAIR_MIR_OVF, .fld PAIR_RES_MIRRORED, .fld PAIR_RES_LOCAL, .fld PAIR_AUTH_FAIL, .fld PAIR_LINK_BYTES_K, .fld PAIR_MIR_SEQ.MSEQ,
      .fld PAIR_MIR_ACKED.MSEQ, .fld PAIR_MIR_STS.CURDS, .fld PAIR_MIR_STS.PEAK, .fld PAIR_MIR_STS.LAT_US, .part .freeCtr, .part .nodes,
      .part .sec, .part .jdev]]
  | .mirFlush .. => [timeTouches, eventTouches, faultTouches, [.fld QMS_POOL_FREE.FREE, .fld QMS_POOL_PEAK.PEAK, .fld (QMS_POOL_USE.USED 0),
      .fld (QMS_POOL_USE.PEAK 0), .fld (FLT_RAW.B 0), .fld PAIR_STS.SYNC, .fld PAIR_INT_STS.MIR_OVF, .fld PAIR_MIR_TX, .fld PAIR_MIR_OVF,
      .fld PAIR_LINK_BYTES_K, .fld PAIR_MIR_SEQ.MSEQ, .fld PAIR_MIR_STS.CURDS, .fld PAIR_MIR_STS.PEAK, .part .freeCtr]]
  | .markReceived .. => [timeTouches, eventTouches, faultTouches, [.fld PAIR_INT_STS.AUTH_FAIL, .fld PAIR_AUTH_FAIL]]
  | .bulkRecordReceived .. => [timeTouches, eventTouches, faultTouches, [.fld (MAC_WARD_SA.CURSOR 0), .fld (MAC_WARD_SA.COUNT 0),
      .fld SRC_INT_STS.ENV_OVER, .fld SRC_GEN.CUR, .fld SRC_GEN.BOUND, .fld SRC_CELLS_USED.CELLS, .fld SRC_CELLS_PEAK.PEAK,
      .fld (SRC_SF_CFG.EN 0), .fld (SRC_SF_CFG.ON 0), .fld (SRC_W_CELLS.CELLS 0), .fld (SRC_W_CELLS.OVER 0), .regs .sec, .fld FWD_STS.ENTRIES,
      .fld FWD_INT_STS.VAT_FULL, .fld FWD_REASM_STS.USED, .fld FWD_VAT_STS.USED, .fld FWD_VAT_STS.NOFWT, .fld FWD_INSERTS, .fld FWD_RELOCS,
      .fld FWD_VAT_INSERTS, .fld FWD_INSERT_FAIL, .fld FWD_LOCK_WAIT, .fld FWD_REASM_TIMEOUT, .fld QMS_POOL_FREE.FREE, .fld QMS_POOL_PEAK.PEAK,
      .fld QMS_WHEY_TOTAL, .fld (QMS_POOL_USE.USED 0), .fld (QMS_POOL_USE.PEAK 0), .fld (QMS_W_NFRAMES.FRAMES 0), .fld (QMS_WHEY 0),
      .fld UPD_STS.ACTIVE, .fld UPD_STS.PRESS_BUSY, .fld UPD_INT_STS.CAMP_END, .fld UPD_READY.FRAMES, .fld UPD_READY.PEAK,
      .fld (UPD_C_STS.STATE 0), .fld (UPD_C_STS.END_WHY 0), .fld (UPD_C_NODES.ACTIVE 0), .fld KEY_STS.SLOTS, .fld (KEY_SLOT_STS.SLOT_0 0),
      .fld (KEY_SLOT_STS.SLOT_1 0), .fld (KEY_SLOT_STS.SLOT_2 0), .fld (KEY_SLOT_STS.SLOT_3 0), .fld (FLT_RAW.B 0), .regs .pair, .part .freeCtr,
      .part .nodes, .part .mac, .part .src, .part .qms, .part .sec, .part .jdev, .part .fwd, .part .camps, .part .cave]]
  | .rlyRadioReceived .. => [timeTouches, eventTouches, faultTouches, [.fld PAIR_INT_STS.AUTH_FAIL, .fld PAIR_RLY_RADIO_RX, .fld PAIR_RLY_DUP,
      .fld PAIR_AUTH_FAIL, .part .mac]]
  | .rlyEthReceived .. => [timeTouches, eventTouches, faultTouches, [.fld (SHP_EGR_CNT.FRAMES 0), .fld (SHP_EGR_PEAK.PEAK 0),
      .fld PAIR_INT_STS.AUTH_FAIL, .fld PAIR_RLY_ETH_RX, .fld PAIR_RLY_DROP, .fld PAIR_AUTH_FAIL, .fld (ETH_P_EQ.FRAMES 0 0),
      .fld (ETH_P_EQ.PEAK 0 0), .part .qms, .part .fwd]]
  | .laneSyncChange .. => [timeTouches, eventTouches, faultTouches, [.fld (FLT_RAW.B 0), .fld PAIR_INT_STS.LANE_DOWN, .fld PAIR_LINK_STS.LANE_UP,
      .fld PAIR_LINK_STS.UP, .fld PAIR_LANE_DOWN, .fld (PAIR_LANE_STS.UP 0), .fld (PAIR_LANE_STS.ERR 0)]]
  | .pairPeerKeyWrite .. => [timeTouches, eventTouches, faultTouches, [.regs .sec, .fld QMS_POOL_FREE.FREE, .fld QMS_POOL_PEAK.PEAK,
      .fld (QMS_POOL_USE.USED 0), .fld (QMS_POOL_USE.PEAK 0), .fld HIF_CMD_DONE, .fld HIF_CMD_FAIL, .fld HIF_BADARG, .fld (HIF_CMDR_FAIL.COUNT 0),
      .fld (FLT_RAW.B 0), .regs .pair, .part .freeCtr, .part .nodes, .part .sec, .part .jdev]]
  | .pairSwitchTick .. => [timeTouches, eventTouches, faultTouches, planTouches, frontEndTouches, [.fld (RFE_STS.COVERING 0),
      .fld (RFE_STS.COVERED 0), .fld (RFE_COVER_STS.PHASE 0), .fld (RFE_COVER_STS.ABORTED 0), .fld (RFE_COVER_STS.COUNT 0),
      .fld (RFE_SYN_MOVES 0), .fld (MAC_LS_STS.IN_SPAN 0), .regs .sec, .fld FWD_REASM_STS.USED, .fld QMS_POOL_FREE.FREE, .fld QMS_POOL_PEAK.PEAK,
      .fld QMS_WHEY_TOTAL, .fld (QMS_POOL_USE.USED 0), .fld (QMS_POOL_USE.PEAK 0), .fld (QMS_W_NFRAMES.FRAMES 0), .fld (QMS_WHEY 0),
      .fld (QMS_CQ.CURDS 0), .fld SHP_CAL_STS.COUNT, .fld SHP_CAL_STS.PEAK, .fld HIF_CMD_DONE, .fld HIF_CMD_FAIL, .fld HIF_BADARG,
      .fld (HIF_CMDR_FAIL.COUNT 0), .fld (FLT_RAW.B 0), .regs .pair, .part .freeCtr, .part .nodes, .part .mac, .part .qms, .part .sec,
      .part .jdev]]
  | .cfgCrcRecompute .. => [timeTouches, [.fld PAIR_CFG_CRC.CRC]]
  | .pairMirPeakRead .. => [[.fld PAIR_MIR_STS.PEAK, .part .bus]]
  | .ethFrameReceived .. => [timeTouches, eventTouches, faultTouches, [.fld PAIR_RLY_ETH_TX, .fld PAIR_RLY_DROP, .fld PAIR_LINK_BYTES_K,
      .fld (ETH_P_RX_FRAMES 0), .fld (ETH_P_RX_OCTETS_K 0), .fld (ETH_P_RX_UCAST 0), .fld (ETH_P_RX_MCAST 0), .fld (ETH_P_RX_BCAST 0),
      .fld (ETH_P_RX_VLAN 0), .fld (ETH_P_RX_PTP 0), .fld (ETH_P_RX_PAUSE 0), .fld (ETH_P_RX_FCS_ERR 0), .fld (ETH_P_RX_RUNT 0),
      .fld (ETH_P_RX_LONG 0), .fld (ETH_P_RX_PCS_ERR 0), .fld (ETH_P_RX_CODE_ERR 0), .fld (ETH_P_RX_OVF 0), .fld (ETH_P_RX_FILTERED 0),
      .part .freeCtr, .part .qms, .part .fwd]]
  | .ethLinkChange .. => [timeTouches, [.fld (TSU_P_STS.TS_OK 0), .fld HIF_MSIX_SENT, .fld (HIF_R_STS.RUN 0), .fld (HIF_R_STS.ARMED 0),
      .fld (HIF_R_STS.PEND 0), .fld (HIF_R_DONE.COUNT 0), .fld (PCR_C_IRQ_STS.BITS 0), .fld (ETH_P_STS.LINK 0), .fld (ETH_P_STS.SPEED 0),
      .fld (ETH_P_STS.AN_DONE 0), .fld (ETH_P_RX_LINK_DOWN 0), .fld (ETH_P_TX_LINK_DROP 0), .part .qms, .part .hif, .part .pcr, .part .mem]]
  | .ethPEqPeakRead .. => [[.fld (ETH_P_EQ.PEAK 0 0), .part .bus]]
  | .jtagBypass .. => [[.fld DBG_TAP_STS.IR]]
  | .jtagIdcode .. => [[.fld DBG_TAP_STS.IR, .part .bus]]
  | .jtagSamplePreload .. => [[.fld DBG_TAP_STS.IR, .fld (DBG_BSR.BITS 0)]]
  | .jtagExtest .. => [[.regs .all, .part .rc, .part .tsuOfs, .part .freeCtr, .part .latch, .part .nodes, .part .hoar, .part .fe, .part .dc,
      .part .slices, .part .sniffers, .part .mac, .part .lanes, .part .src, .part .qms, .part .sec, .part .fwd, .part .camps, .part .pressOctets,
      .part .hif, .part .flt, .part .pair, .part .tsu, .part .fuse, .part .cave, .part .boot, .part .pcr, .part .cel, .part .mem, .part .frac,
      .part .plans, .part .specAt, .part .pressAt]]
  | .jtagClamp .. => [[.regs .all, .part .rc, .part .tsuOfs, .part .freeCtr, .part .latch, .part .nodes, .part .hoar, .part .fe, .part .dc,
      .part .slices, .part .sniffers, .part .mac, .part .lanes, .part .src, .part .qms, .part .sec, .part .fwd, .part .camps, .part .pressOctets,
      .part .hif, .part .flt, .part .pair, .part .tsu, .part .fuse, .part .cave, .part .boot, .part .pcr, .part .cel, .part .mem, .part .frac,
      .part .plans, .part .specAt, .part .pressAt]]
  | .jtagHighz .. => [[.regs .all, .part .rc, .part .tsuOfs, .part .freeCtr, .part .latch, .part .nodes, .part .hoar, .part .fe, .part .dc,
      .part .slices, .part .sniffers, .part .mac, .part .lanes, .part .src, .part .qms, .part .sec, .part .fwd, .part .camps, .part .pressOctets,
      .part .hif, .part .flt, .part .pair, .part .tsu, .part .fuse, .part .cave, .part .boot, .part .pcr, .part .cel, .part .mem, .part .frac,
      .part .plans, .part .specAt, .part .pressAt]]
  | .debugHalt .. => [timeTouches, [.part .pcr]]
  | .egressFrameEnd .. => [timeTouches, [.fld (SHP_EGR_CNT.FRAMES 0), .fld (SHP_EGR_PEAK.PEAK 0), .fld (TSU_P_RES_LAST.NS 0),
      .fld (TSU_P_RES_PEAK.NS 0), .fld (TSU_P_TX_EVENT 0), .fld (TSU_P_SYNC_TX 0), .fld (TSU_P_FUP_TX 0), .fld (TSU_P_DREQ_TX 0),
      .fld (TSU_P_DRESP_TX 0), .fld (TSU_P_ONESTEP 0), .fld (TSU_P_TS_LOST 0), .fld (TSU_P_TX_TS_REQ 0), .fld HIF_MSIX_SENT,
      .fld (HIF_R_STS.RUN 0), .fld (HIF_R_STS.ARMED 0), .fld (HIF_R_STS.PEND 0), .fld (HIF_R_DONE.COUNT 0), .fld (PCR_C_IRQ_STS.BITS 0),
      .fld (ETH_P_TX_FRAMES 0), .fld (ETH_P_TX_OCTETS_K 0), .fld (ETH_P_TX_UCAST 0), .fld (ETH_P_TX_MCAST 0), .fld (ETH_P_TX_BCAST 0),
      .fld (ETH_P_TX_VLAN 0), .fld (ETH_P_TX_PTP 0), .fld (ETH_P_TX_PAD 0), .fld (ETH_P_TX_ONESTEP 0), .fld (ETH_P_TX_TS 0),
      .fld (ETH_P_TX_HOST 0), .fld (ETH_P_TX_UPLINK 0), .fld (ETH_P_TX_RELAY 0), .fld (ETH_P_TX_TC_FWD 0), .fld (ETH_P_EQ.FRAMES 0 0),
      .fld (ETH_P_EQ.PEAK 0 0), .part .qms, .part .hif, .part .tsu, .part .pcr, .part .mem]]
  | .debugResume .. => [timeTouches, eventTouches, [.fld PCR_STS.RUN, .fld PCR_STS.HELD, .fld PCR_INT_STS.DRAIN_FORCED, .fld PCR_DRAINS,
      .fld PCR_DRAIN_FORCED, .fld (PCR_C_STS.STATE 0), .fld (PCR_C_STS.FORCED 0), .fld (PCR_C_STS.EXC 0), .fld (PCR_C_DRAIN_LAST.US 0),
      .fld (FLT_RAW.B 0)]]
  | .msixVectorUnmask .. => [timeTouches, [.fld HIF_MSIX_SENT, .part .hif]]
  | .pcieBusMasterEnable .. => [timeTouches, [.fld HIF_STS.BME, .fld HIF_STS.MSIX_EN, .fld SYS_BOOT_STS.STAGE, .fld (SYS_BOOT_TRACE.US 0),
      .fld (SYS_BOOT_TRACE.STAGE 0), .part .boot]]
  | .pcieLinkUp .. => [timeTouches, [.fld TSU_STS.REF, .fld (TSU_P_STS.TS_OK 0), .fld HIF_STS.LINK_UP, .fld HIF_STS.GEN, .fld HIF_STS.WIDTH,
      .fld CLK_STS.REF_OK, .fld CLK_STS.ON_RC, .fld CLK_TO_REF, .fld (CLK_REF_STS.PRESENT 0), .fld (CLK_REF_STS.IN_TOL 0),
      .fld (CLK_ISL_STS.ON_REF 0), .fld (CLK_ISL_STS.LOCKED 0), .fld (CLK_ISL_LOCK.US 0), .fld (CLK_ISL_FREQ.KHZ 0), .fld (CLK_ISL_SWITCHES 0),
      .part .tsuOfs, .part .tsu]]
  | .jnlFormatComplete .. => [timeTouches, eventTouches, faultTouches, [.fld SEC_JNL_STS.ERR, .fld (FLT_RAW.B 0), .part .freeCtr, .part .sec,
      .part .jdev]]
  | .genClearComplete .. => [timeTouches, [.part .src]]

/-- What a command may change, as one list. -/
def touches (c : Instr) : List Touch := (touchSets c).flatten

/-! Invariants -/

/-- The memories are in their canonical form: those of the policy cores and of the Cave core, and the journal device. Offsets strictly rise and
no octet 0 is listed (R355). -/
def State.memOk (s : State) : Prop := s.pcr.mem.wf ∧ s.pcr.sram.wf ∧ s.jdev.mem.wf ∧ s.cave.sram.wf

/-! What the statements say of command rings -/

/-- Command ring `ring` takes the next command (R272 to R274): no Function Level Reset has abandoned one of its commands (R298), and its slot is
not refused (R299). -/
def State.ready (s : State) (ring : Nat) : Prop :=
  cmdReady s ring = true ∧ Store.find false s.hif.orphan ring = false ∧ slotBad s (64 + ring) = false

/-- The data buffer of a command holds the `need` octets that the command reads, and its ring reaches them (R278, R299). -/
def State.gives (s : State) (ring : Nat) (hd : CmdHead) (need : Nat) : Prop := need ≤ hd.len ∧ locBad s (64 + ring) hd.addr need = false

/-- The same for a command that a STANDBY or FENCED chip refuses (R424): the chip is neither. -/
def State.takes (s : State) (ring : Nat) : Prop := s.ready ring ∧ owns s = true

/-- From `s` to `u` command ring `ring` has got its next completion (R274, R288): opcode, result, tag, the three returned values and the
words of the data buffer. -/
def completes (s u : State) (ring op tag result ret0 ret1 ret2 : Nat) (data : List Nat) : Prop :=
  ∃ (tm gen n ph : Nat) (cut : Bool),
    Store.find .blank u.hif.slots ((64 + ring) * 65536 + Store.find 0 s.hif.next (64 + ring)) = .cmd op result tag ret0 ret1 ret2 tm gen n cut data ph

/-- The same for a completion that returns nothing. -/
def answers (s u : State) (ring op tag result : Nat) : Prop := completes s u ring op tag result 0 0 0 []

end Sys2Proof.Machine
end

