-- ==== Sys2Proof/Certificates/Slice0/Obligations.lean ====
section
/-!
DEFINITION. The statements about the model, for the provers. A statement about a command says what the next state holds; `u` is that state
throughout, and what a command leaves alone `EveryCommandKeepsTheRest` says for all of them.
-/

open Sys2Proof Sys2Proof.Machine

/-- For every command c and state s, a step of s with c at the front of its queue is exec of c on s with the queue's rest. -/
def Obligations.StepRunsFront : Prop :=
  ∀ (c : Instr) (rest : List Instr) (s : State), step { s with pending := c :: rest } = exec c { s with pending := rest }

/-- From R12 to R14. REGISTER_WRITE by a requester that may access the register (log entry 1) completes. RFE_CAL_CFG of front end n takes
TEMP_THR clamped to 2 to 30, AUTO_MASK as written and STARVE_S clamped to 1 to 255; HIF_SUBSYS, whose fields are rwl, takes the written
value while SYS_CFG_LOCK is clear and keeps its value once it is set; no other register field changes in either case but what a carrier's
air time makes (R63). A write of the host that is not one aligned DWORD is answered as an Unsupported Request and writes nothing (R269).
SYS_CFG_LOCK_WRITE with bit 0 set sets the lock, and with bit 0 clear leaves it as it was. -/
def Obligations.RegisterWritesClamp : Prop :=
  ∀ (a size : Nat) (v : Word) (q : Requester) (t : Nat) (s : State),
    (unsupported q a size = true →
      ∃ u, exec (.registerWrite a size v q t) s = .next u ∧ Store.find false u.hif.ur q = true ∧ ∀ f : Fld, u.rd f = (s.air t).rd f)
    ∧ (∀ n : Fin 4, mayAccess (s.air t) q (0x60010 + 0x4000 * n.val) true = true →
      ∃ u, exec (.registerWrite (0x60010 + 0x4000 * n.val) 4 v q t) s = .next u ∧ Store.find false u.hif.ur q = false
        ∧ u.rd (RFE_CAL_CFG.TEMP_THR n) = clampN 2 30 (v.toNat % 32)
        ∧ u.rd (RFE_CAL_CFG.AUTO_MASK n) = v.toNat / 2 ^ 8 % 32
        ∧ u.rd (RFE_CAL_CFG.STARVE_S n) = clampN 1 255 (v.toNat / 2 ^ 16 % 256)
        ∧ ∀ f : Fld, f.key ≠ (RFE_CAL_CFG.TEMP_THR n).key → f.key ≠ (RFE_CAL_CFG.AUTO_MASK n).key → f.key ≠ (RFE_CAL_CFG.STARVE_S n).key →
            u.rd f = (s.air t).rd f)
    ∧ (mayAccess (s.air t) q 0x30014 true = true →
      ∃ u, exec (.registerWrite 0x30014 4 v q t) s = .next u
        ∧ u.rd HIF_SUBSYS.SSVID = (if s.flag SYS_CFG_LOCK.LOCK then s.rd HIF_SUBSYS.SSVID else v.toNat % 2 ^ 16)
        ∧ u.rd HIF_SUBSYS.SSID = (if s.flag SYS_CFG_LOCK.LOCK then s.rd HIF_SUBSYS.SSID else v.toNat / 2 ^ 16)
        ∧ ∀ f : Fld, f.key ≠ HIF_SUBSYS.SSVID.key → f.key ≠ HIF_SUBSYS.SSID.key → u.rd f = (s.air t).rd f)
    ∧ ∃ u, exec (.sysCfgLockWrite v t) s = .next u ∧ u.rd SYS_CFG_LOCK.LOCK = if v.toNat.testBit 0 then 1 else s.rd SYS_CFG_LOCK.LOCK

/-- From R12, R15, R215, R356 and R465. HOST_MAILBOX_READ of RFE_CAL_CFG of front end n, by a requester that may read it (log entry 1),
answers its three fields in their places and changes no register field but what the air time of a transmission makes (R63, R66); where no
register stands at the address, or the requester may not read it, the answer is 0; a read of the host that is not one aligned DWORD answers
nothing (R269). MAILBOX_STALL_EXPIRY of a register held by the fabric answers the host 0xFFFF_FFFF and counts in
HIF_MBX_IDLE, and MAILBOX_LATE_ANSWER changes nothing but the time. -/
def Obligations.HostReadsAnswerOnce : Prop :=
  ∀ (a size : Nat) (q : Requester) (t : Nat) (s : State),
    let x : State := (s.air t).each (List.range 4) airCount
    (∀ n : Fin 4, mayAccess x q (0x60010 + 0x4000 * n.val) false = true →
      ∃ u, exec (.hostMailboxRead (0x60010 + 0x4000 * n.val) 4 q t) s = .next u
        ∧ u.busData q = s.rd (RFE_CAL_CFG.TEMP_THR n) + s.rd (RFE_CAL_CFG.AUTO_MASK n) * 2 ^ 8 + s.rd (RFE_CAL_CFG.STARVE_S n) * 2 ^ 16
        ∧ ∀ f : Fld, u.rd f = x.rd f)
    ∧ (unsupported q a size = true →
      ∃ u, exec (.hostMailboxRead a size q t) s = .next u ∧ Store.find false u.hif.ur q = true ∧ u.busData q = s.busData q ∧ ∀ f : Fld, u.rd f = x.rd f)
    ∧ (unsupported q a size = false → mayAccess x q a false = false ∨ regAt a = none →
      ∃ u, exec (.hostMailboxRead a size q t) s = .next u ∧ u.busData q = 0 ∧ ∀ f : Fld, u.rd f = x.rd f)
    ∧ (islandHeld a = false →
      ∃ u, exec (.mailboxStallExpiry a t) s = .next u ∧ u.busData 0 = 0xFFFFFFFF ∧ u.rd HIF_MBX_IDLE = (s.rd HIF_MBX_IDLE + 1) % 2 ^ 32)
    ∧ exec (.mailboxLateAnswer a t) s = .next (s.at t)

/-- R36. With no request held back (AVS_NORESP not latched, no mode change raising the voltage), HOARFROST_PERIOD jumps to the top of the
mode's range on negative slack or when ACK_SKIP or TX_MISSED has incremented; below 15 % it asks 10 mV more; after 40 consecutive
periods above 40 % it asks 5 mV less, at most once in 40 periods (1 ms); otherwise nothing changes. The request stays in the range of
the mode. -/
def Obligations.HoarfrostFollowsTheSlack : Prop :=
  ∀ (slack : Int) (t : Nat) (s : State), avsHeld (s.at t) = false → s.hoar.raising = false →
    ∃ u, exec (.hoarfrostPeriod slack t) s = .next u
      ∧ (let m := s.rd SYS_MODE_STS.CUR
         let v := s.hoar.vreq
         let missed : Bool := missedAll s != s.hoar.seen
         let run := if 40 < slack then min 40 (s.hoar.slack40 + 1) else 0
         let since := min 40 (s.hoar.sinceDown + 1)
         u.hoar.seen = missedAll s ∧ u.hoar.slack40 = run
           ∧ u.hoar.vreq = (if slack < 0 ∨ missed = true then modeTop m
               else if slack < 15 then min (modeTop m) (v + 10)
               else if 40 ≤ run ∧ 40 ≤ since then max (modeLow m) (v - 5)
               else v)
           ∧ u.hoar.sinceDown = (if u.hoar.vreq < v then 0 else since)
           ∧ (modeLow m ≤ v → v ≤ modeTop m → modeLow m ≤ u.hoar.vreq ∧ u.hoar.vreq ≤ modeTop m))

/-- From R35, R37 and R455. At stage 8 with no change in progress, SYS_MODE_WRITE of a mode with more capacity sets BUSY and asks for at
least that mode's floor, or, while AVS_NORESP is latched, fails at once: CUR stays, FAIL is set, BUSY is clear and MODE_DONE is set; a
mode with less capacity sets BUSY. MODE_CHANGE_COMPLETE ends an increase once the regulator has confirmed the new floor, and a decrease
once the withdrawn capacity is empty and AVS_NORESP is not latched: CUR takes the target, BUSY clears and MODE_DONE is set. A good
AVSBUS_FRAME_DONE confirms the voltage requested; the first two failures only count. -/
def Obligations.ModeChangesFollowVoltage : Prop :=
  ∀ (m : Fin 3) (t : Nat) (s : State),
    (s.rd SYS_BOOT_STS.STAGE = 8 → s.rd SYS_MODE_STS.BUSY = 0 → m.val ≠ s.rd SYS_MODE_STS.CUR →
      ∃ u, exec (.sysModeWrite (m.castLE (by decide)) t) s = .next u ∧ u.rd SYS_MODE.MODE = m ∧ u.rd SYS_MODE_STS.PEND = m
        ∧ u.rd SYS_MODE_STS.CUR = s.rd SYS_MODE_STS.CUR
        ∧ (if m.val < s.rd SYS_MODE_STS.CUR ∧ avsHeld (s.at t) = true then
             u.rd SYS_MODE_STS.FAIL = 1 ∧ u.rd SYS_MODE_STS.BUSY = 0 ∧ u.rd SYS_INT_STS.MODE_DONE = 1
           else u.rd SYS_MODE_STS.BUSY = 1 ∧ u.rd SYS_MODE_STS.FAIL = 0 ∧ u.hoar.target = m
             ∧ (m.val < s.rd SYS_MODE_STS.CUR → u.hoar.raising = true ∧ modeLow m ≤ u.hoar.vreq)))
    ∧ (s.rd SYS_MODE_STS.BUSY = 1 → s.hoar.held = none → s.hoar.target < 4 →
        (if s.hoar.raising then modeLow s.hoar.target ≤ s.hoar.vconf else avsHeld (s.at t) = false ∧ (s.hoar.target = 2 → capDrained (s.at t) = true)) →
      ∃ u, exec (.modeChangeComplete t) s = .next u ∧ u.rd SYS_MODE_STS.CUR = s.hoar.target ∧ u.rd SYS_MODE_STS.BUSY = 0
        ∧ u.rd SYS_INT_STS.MODE_DONE = 1 ∧ u.rd SYS_MODE_STS.FAIL = s.rd SYS_MODE_STS.FAIL
        ∧ (s.hoar.raising = false → u.hoar.vreq = modeStart s.hoar.target))
    ∧ (avsHeld (s.at t) = false →
      ∃ u, exec (.avsbusFrameDone true t) s = .next u ∧ u.hoar.vconf = s.hoar.vreq ∧ u.hoar.failed = 0)
    ∧ (avsHeld (s.at t) = false → s.hoar.failed < 2 →
      ∃ u, exec (.avsbusFrameDone false t) s = .next u ∧ u.hoar.failed = s.hoar.failed + 1 ∧ u.hoar.vconf = s.hoar.vconf)

/-- From R22, R26, R159 and R211. FABRIC_STALL_RELEASE for an item that Serac is preparing for a span still ahead of its commit point, once it
is encrypted or needs no encryption, puts it at the end of the lane's transmit FIFO and takes it from those in preparation; its engine is
free again; one that waits for an engine waits on while none is idle. SCRUBBER_PASS with nothing corrected or poisoned gives the curds of one
lost chain back to the free list and forgets it; one corrected word counts one error for its core, up to the top of the counter. -/
def Obligations.FifoStallsLoseNothing : Prop :=
  ∀ (lane : Fin 4) (idx t : Nat) (s : State),
    (∀ (it : TxItem) (x : Span), (laneOf s lane).preparing.find? (fun i => i.idx = idx) = some it → spanOf s lane idx = some x →
      (x.committed = false → x.asn = it.asn → it.aborted = false → (it.encrypts = true → it.engine ≠ none) →
        ∃ u, exec (.fabricStallRelease lane idx t) s = .next u
          ∧ (laneOf u lane).fifo = (laneOf s lane).fifo ++ [{ it with encrypts := false, engine := if it.encrypts then none else it.engine, at_ := (s.at t).rc }]
          ∧ (laneOf u lane).preparing = (laneOf s lane).preparing.filter (fun i => i.idx != idx)
          ∧ ∀ e, it.encrypts = true → it.engine = some e → u.rd SEC_ENG_STS.BUSY = clrBit (s.rd SEC_ENG_STS.BUSY) e % 2 ^ 16)
      ∧ (it.encrypts = true → it.engine = none → engineIdle s = none → exec (.fabricStallRelease lane idx t) s = .next (s.at t)))
    ∧ (∀ n : Fin 4, ∀ c, s.qms.lost = [(n.val, c)] →
      ∃ u, exec (.scrubberPass [] [] t) s = .next u ∧ u.qms.lost = []
        ∧ u.rd QMS_POOL_FREE.FREE = (s.rd QMS_POOL_FREE.FREE + c.length) % 2 ^ 16
        ∧ u.rd (QMS_POOL_USE.USED n) = s.rd (QMS_POOL_USE.USED n) - c.length)
    ∧ (∀ core : Fin 8, s.qms.lost = [] →
      ∃ u, exec (.scrubberPass [Fin.ofNat 256 (16 + core.val)] [] t) s = .next u
        ∧ u.rd (PCR_C_LOCAL_ECC.CORR core) = min (s.rd (PCR_C_LOCAL_ECC.CORR core) + 1) (2 ^ (PCR_C_LOCAL_ECC.CORR core).width - 1))

/-- From R19, R42, R46, R47 and R54. FE_ENABLE in OFF (radios not stopped, the RADIO island on its reference) goes to SETTLE, counting a
move to CENTRE, once the start-up sequence has completed, and before that to CAL, where the first step runs; on the internal oscillator it
changes nothing but the time (log entry 29). FE_DISABLE clears EN; in TURN_RT or TX the transmission goes on first, in every other state the
front end is in OFF. SYN_LOCK in SETTLE, no more than 200 µs after the 120 µs of the move, with no forced step and no return from a cover
held, goes to RX with LOCKED set and records the lock time, and ends the cover of a front end in phase 3, which counts for its sibling; one
later than that does nothing. A SYN_LOCK_TIMEOUT 320 µs after the move's start, the first of a move, runs the oscillator step in CAL; the
second ends in OFF with EN clear, LOCK_FAIL set and the fault latched; both count; before that time nothing happens. RFE_TUNE_WRITE on FE0,
FE1 and FE3 writes the clamped CENTRE and, unless in OFF, sets MOVE_PEND; FE2 ignores it. SYN_MOVE_START in RX with a move pending goes to
SETTLE. -/
def Obligations.FrontEndsFollowTheirStates : Prop :=
  ∀ (fe : Fin 4) (us khz t : Nat) (s : State),
    (s.rd (CLK_ISL_STS.ON_REF 0) = 0 → exec (.feEnable fe t) s = .next (s.at t))
    ∧ (s.rd (RFE_STS.STATE fe) = 0 → s.rd CEL_PWR_STS.STATE = 0 → s.rd (CLK_ISL_STS.ON_REF 0) = 1 →
      ∃ u, exec (.feEnable fe t) s = .next u ∧ u.rd (RFE_CTL.EN fe) = 1 ∧ (u.feOf fe).tuned = s.rd (RFE_TUNE.CENTRE fe)
        ∧ (if (s.feOf fe).startupDone then u.rd (RFE_STS.STATE fe) = 1 ∧ u.rd (RFE_SYN_MOVES fe) = (s.rd (RFE_SYN_MOVES fe) + 1) % 2 ^ 32
           else u.rd (RFE_STS.STATE fe) = 6 ∧ u.rd (RFE_CAL_STS.RUNNING fe) = 1 ∧ u.rd (RFE_CAL_STS.BUSY fe) = 1))
    ∧ (∃ u, exec (.feDisable fe t) s = .next u ∧ u.rd (RFE_CTL.EN fe) = 0
        ∧ (if s.rd (RFE_STS.STATE fe) = 3 ∨ s.rd (RFE_STS.STATE fe) = 4 then u.rd (RFE_STS.STATE fe) = s.rd (RFE_STS.STATE fe) ∧ (u.feOf fe).offPend = true
           else u.rd (RFE_STS.STATE fe) = 0))
    ∧ (200 < us → exec (.synLock fe us t) s = .next (s.at t))
    ∧ (s.rd (RFE_STS.STATE fe) = 1 → us ≤ 200 → (s.feOf fe).forced = 0 → (s.feOf fe).homeDue = false →
        (s.at t).within ((s.feOf fe).moveAt + (120 + us) * 1000) ((s.feOf fe).moveAt + (121 + us) * 1000) = true →
      ∃ u, exec (.synLock fe us t) s = .next u ∧ u.rd (RFE_STS.STATE fe) = 2 ∧ u.rd (RFE_STS.LOCKED fe) = 1 ∧ u.rd (RFE_SYN_STS.LAST_LOCK fe) = us
        ∧ ((s.feOf fe).covers = true → s.rd (RFE_COVER_STS.PHASE fe) = 3 → s.rd (RFE_COVER_STS.ABORTED fe) = 0 →
            u.rd (RFE_COVER_STS.PHASE 0) = 0 ∧ u.rd (RFE_COVER_STS.PHASE 1) = 0 ∧ (u.feOf fe).covers = false
              ∧ u.rd (RFE_COVER_STS.COUNT (sibling fe)) = (s.rd (RFE_COVER_STS.COUNT (sibling fe)) + 1) % 2 ^ (RFE_COVER_STS.COUNT 0).width))
    ∧ ((s.at t).reached ((s.feOf fe).moveAt + 320000) = false → exec (.synLockTimeout fe t) s = .next (s.at t))
    ∧ (s.rd (RFE_STS.STATE fe) = 1 → (s.at t).reached ((s.feOf fe).moveAt + 320000) = true →
      ∃ u, exec (.synLockTimeout fe t) s = .next u ∧ u.rd (RFE_LOCK_FAIL fe) = (s.rd (RFE_LOCK_FAIL fe) + 1) % 2 ^ 32
        ∧ (if (s.feOf fe).failedOnce then u.rd (RFE_STS.STATE fe) = 0 ∧ u.rd (RFE_CTL.EN fe) = 0 ∧ u.rd (RFE_INT_STS.LOCK_FAIL fe) = 1 ∧ latched u (64 + fe.val) = true
           else u.rd (RFE_STS.STATE fe) = 6 ∧ u.rd (RFE_CAL_STS.RUNNING fe) = 1 ∧ u.rd (RFE_CAL_STS.BUSY fe) = 1))
    ∧ (∃ u, exec (.rfeTuneWrite fe khz t) s = .next u
        ∧ (if fe = 2 then u = s.at t
           else u.rd (RFE_TUNE.CENTRE fe) = (let r := khz % 2 ^ 22 / 100 * 100; if fe = 3 then clampN 420000 500000 r else clampN 770000 940000 r)
             ∧ (s.rd (RFE_STS.STATE fe) ≠ 0 → u.rd (RFE_SYN_STS.MOVE_PEND fe) = 1)))
    ∧ (s.rd (RFE_SYN_STS.MOVE_PEND fe) = 1 → s.rd (RFE_STS.STATE fe) = 2 → (asnRuns s = false ∨ (s.at t).rc = s.mac.tickAt) → (s.feOf fe).covers = false →
      ∃ u, exec (.synMoveStart fe t) s = .next u ∧ u.rd (RFE_STS.STATE fe) = 1 ∧ u.rd (RFE_STS.LOCKED fe) = 0 ∧ u.rd (RFE_SYN_STS.MOVE_PEND fe) = 0
        ∧ (u.feOf fe).tuned = s.rd (RFE_TUNE.CENTRE fe) ∧ u.rd (RFE_SYN_MOVES fe) = (s.rd (RFE_SYN_MOVES fe) + 1) % 2 ^ 32)

/-- From R19, R41 to R44, R48, R49, R56, R63, R64 and R107. TRANSMIT_DEADLINE before the deadline of the next transmission changes only what
the passing of time does. At its deadline, for a frame to a node: with the front end in RX and locked, the RADIO island on its reference,
transmission enabled, the channel in span, no listen to make and no region refusing it, the turnaround starts, the first symbol is set 36 µs
after the deadline, the power is the CODE its entry holds then less its share of a burst, and the attempt counts for the node and its Ward;
in another state, unlocked, late or without the reference it is dropped, RFE_TX_LATE counts and TX_LATE sets. LBT_LISTEN_START, at the start
of the interval, settles the duty-cycle check: refused, RFE_DC_BLOCK counts and nothing is measured; else the check is done.
RX_TX_TURNAROUND_END takes TURN_RT to TX at the first symbol and not before; TX_LAST_SYMBOL takes TX to TURN_TR after the air time and
counts the frame; TX_RX_TURNAROUND_END takes TURN_TR to RX with LOCKED set 24 µs after the last symbol, and not before. -/
def Obligations.TransmissionsMeetTheirDeadline : Prop :=
  ∀ (fe : Fin 4) (c : TxCmd) (x : Nat) (lbtEd ccaEd : Int) (t : Nat) (s : State),
    let now : State := s.air t
    let queue : List TxCmd := (s.feOf fe).txq
    (queue.head? = some c → now.reached c.deadline = false → exec (.transmitDeadline fe lbtEd ccaEd t) s = .next now)
    ∧ (queue.head? = some c → now.reached c.deadline = true → c.kind = .frame → c.nix = some x → c.refused = false → s.rd (RFE_CTL.TX_EN fe) = 1 →
        inSpan fe (centreOf s fe) c.centre c.spacing = true →
      (s.rd (RFE_STS.STATE fe) = 2 → s.rd (RFE_STS.LOCKED fe) = 1 → now.within c.deadline (c.deadline + 1) = true → s.rd (CLK_ISL_STS.ON_REF 0) = 1 →
          listens now c = false → dcRefuses now (dcOverlap now c) c.air false = false →
        ∃ u, exec (.transmitDeadline fe lbtEd ccaEd t) s = .next u ∧ u.rd (RFE_STS.STATE fe) = 3
          ∧ (u.feOf fe).tx = some { c with code := s.rd (RFE_PWR_TBL.CODE fe c.pix) - c.cut } ∧ (u.feOf fe).txq = queue.drop 1 ∧ (u.feOf fe).firstSym = c.deadline + 36000 ∧ (u.feOf fe).lastSym = c.deadline + 36000 + c.air
          ∧ ((s.node x).fenced = false → (u.node x).txAtt = ((s.node x).txAtt + 1) % 2 ^ 32) ∧ u.rd (MAC_W_TX_ATT c.ward) = (s.rd (MAC_W_TX_ATT c.ward) + 1) % 2 ^ 32)
      ∧ (s.rd (RFE_STS.STATE fe) ≠ 2 ∨ s.rd (RFE_STS.LOCKED fe) = 0 ∨ now.within c.deadline (c.deadline + 1) = false ∨ s.rd (CLK_ISL_STS.ON_REF 0) = 0 →
        ∃ u, exec (.transmitDeadline fe lbtEd ccaEd t) s = .next u ∧ (u.feOf fe).txq = queue.drop 1 ∧ (u.feOf fe).tx = (s.feOf fe).tx ∧ u.rd (RFE_STS.STATE fe) = s.rd (RFE_STS.STATE fe)
          ∧ u.rd (RFE_TX_LATE fe) = (s.rd (RFE_TX_LATE fe) + 1) % 2 ^ 32 ∧ u.rd (RFE_INT_STS.TX_LATE fe) = 1))
    ∧ (queue.head? = some c → listens now c = true → c.checked = false → c.refused = false → now.within (listenStart s c) (listenStart s c + 1) = true →
      ∃ u, exec (.lbtListenStart fe t) s = .next u
        ∧ (if dcRefuses now (dcOverlap now c) c.air false then
             (u.feOf fe).txq = { c with refused := true } :: queue.drop 1 ∧ u.rd (RFE_DC_BLOCK fe) = (s.rd (RFE_DC_BLOCK fe) + 1) % 2 ^ 32
           else (u.feOf fe).txq = { c with checked := true } :: queue.drop 1 ∧ u.rd (RFE_DC_BLOCK fe) = s.rd (RFE_DC_BLOCK fe)))
    ∧ (s.rd (RFE_STS.STATE fe) = 3 → (s.feOf fe).cw = false →
      ((s.at t).reached (s.feOf fe).firstSym = true → ∃ u, exec (.rxTxTurnaroundEnd fe t) s = .next u ∧ u.rd (RFE_STS.STATE fe) = 4 ∧ (u.feOf fe).tx = (s.feOf fe).tx)
      ∧ ((s.at t).reached (s.feOf fe).firstSym = false → exec (.rxTxTurnaroundEnd fe t) s = .next (s.at t)))
    ∧ (s.rd (RFE_STS.STATE fe) = 4 → (s.feOf fe).tx = some c → c.kind = .beacon → (s.feOf fe).cw = false → (s.feOf fe).offPend = false → 0 < c.air →
        now.reached ((s.feOf fe).firstSym + c.air) = true →
      ∃ u, exec (.txLastSymbol fe t) s = .next u ∧ u.rd (RFE_STS.STATE fe) = 5 ∧ u.rd (RFE_TX_FRAMES fe) = (s.rd (RFE_TX_FRAMES fe) + 1) % 2 ^ 32
        ∧ (u.feOf fe).lastSym = (s.feOf fe).firstSym + c.air ∧ u.rd (MAC_LS_TX_SENT c.lane) = (s.rd (MAC_LS_TX_SENT c.lane) + 1) % 2 ^ 32 ∧ u.rd (MAC_W_EB_SENT c.ward) = (s.rd (MAC_W_EB_SENT c.ward) + 1) % 2 ^ 32)
    ∧ (s.rd (RFE_STS.STATE fe) = 5 → (s.feOf fe).forced = 0 → (s.feOf fe).homeDue = false →
      ((s.at t).reached ((s.feOf fe).lastSym + 24000) = true →
        ∃ u, exec (.txRxTurnaroundEnd fe t) s = .next u ∧ u.rd (RFE_STS.STATE fe) = 2 ∧ u.rd (RFE_STS.LOCKED fe) = 1 ∧ (u.feOf fe).tx = none ∧ (u.feOf fe).txq = queue)
      ∧ ((s.at t).reached ((s.feOf fe).lastSym + 24000) = false → exec (.txRxTurnaroundEnd fe t) s = .next (s.at t)))

/-- From R42 and R50 to R53. RFE_CAL_CMD of some steps leaves them waiting: CAL_DUE is set and PENDING holds them. RFE_CAL_FORCE in RX
enters CAL, the lowest step running and BUSY set; in OFF, SETTLE or a turnaround the steps are held. CAL_STEP_DONE of the last step of a
run, its time over, with nothing else held, sets its bit in DONE, counts the run, takes AT_CAL from NOW, sets CAL_DONE and returns to RX;
before the step's time is over it does nothing. RFE_TEMP_SAMPLE shows the clamped sample, and with AUTO_CAL, a change of TEMP_THR or more
and no request outstanding asks for AUTO_MASK, a run in progress or not. CAL_STARVE_TIMEOUT STARVE_S seconds after a request that has not
completed sets CAL_STARVED. -/
def Obligations.CalibrationWaitsRunsAndEnds : Prop :=
  ∀ (fe : Fin 4) (steps : Nat) (celsius : Int) (t : Nat) (s : State),
    (steps % 32 ≠ 0 →
      ∃ u, exec (.rfeCalCmd fe steps t) s = .next u ∧ (u.feOf fe).due = (s.feOf fe).due ||| steps % 32 ∧ u.rd (RFE_STS.CAL_DUE fe) = 1
        ∧ u.rd (RFE_CAL_STS.PENDING fe) = ((s.feOf fe).due ||| steps % 32 ||| (s.feOf fe).forced ||| (s.feOf fe).run.foldl setBit 0) % 32)
    ∧ (∀ k : Fin 5, s.rd (RFE_STS.STATE fe) = 2 →
      ∃ u, exec (.rfeCalForce fe (2 ^ k.val) t) s = .next u ∧ u.rd (RFE_STS.STATE fe) = 6 ∧ u.rd (RFE_CAL_STS.RUNNING fe) = k + 1 ∧ u.rd (RFE_CAL_STS.BUSY fe) = 1
        ∧ u.rd (RFE_CAL_STS.DONE fe) = 0 ∧ u.rd (RFE_STS.LOCKED fe) = 0)
    ∧ (steps % 32 ≠ 0 → s.rd (RFE_STS.STATE fe) ≠ 2 → s.rd (RFE_STS.STATE fe) ≠ 6 →
      ∃ u, exec (.rfeCalForce fe steps t) s = .next u ∧ (u.feOf fe).forced = (s.feOf fe).forced ||| steps % 32 ∧ u.rd (RFE_STS.STATE fe) = s.rd (RFE_STS.STATE fe))
    ∧ (∀ k : Fin 5, s.rd (RFE_STS.STATE fe) = 6 → s.rd (RFE_CAL_STS.BUSY fe) = 1 → s.rd (RFE_CAL_STS.RUNNING fe) = k + 1 → (s.feOf fe).oscStep = false →
        (s.feOf fe).run = [] → (s.feOf fe).forced = 0 → (s.feOf fe).waitBack = false → (s.feOf fe).homeDue = false → s.rd (RFE_STS.COVERED fe) = 0 → s.rd (RFE_SYN_STS.MOVE_PEND fe) = 0 →
        (s.at t).reached ((s.feOf fe).stepAt + calStepNs fe k) = true →
      ∃ u, exec (.calStepDone fe false t) s = .next u ∧ u.rd (RFE_STS.STATE fe) = 2 ∧ u.rd (RFE_CAL_STS.BUSY fe) = 0 ∧ u.rd (RFE_CAL_STS.RUNNING fe) = 0
        ∧ u.rd (RFE_CAL_STS.DONE fe) = setBit (s.rd (RFE_CAL_STS.DONE fe)) k ∧ u.rd (RFE_CAL_STS.ERR fe) = 1 ∧ u.rd (RFE_INT_STS.CAL_ERR fe) = 1
        ∧ u.rd (RFE_CAL_DONE fe) = (s.rd (RFE_CAL_DONE fe) + 1) % 2 ^ 32 ∧ u.rd (RFE_TEMP.AT_CAL fe) = s.rd (RFE_TEMP.NOW fe)
        ∧ u.rd (RFE_INT_STS.CAL_DONE fe) = 1)
    ∧ (∀ (k : Fin 5) (ok : Bool), s.rd (RFE_CAL_STS.RUNNING fe) = k + 1 → (s.at t).reached ((s.feOf fe).stepAt + calStepNs fe k) = false →
      exec (.calStepDone fe ok t) s = .next (s.at t))
    ∧ (∃ u, exec (.rfeTempSample fe celsius t) s = .next u ∧ u.rd (RFE_TEMP.NOW fe) = unsg 8 (clampI (-128) 127 celsius)
        ∧ (s.rd (RFE_CTL.AUTO_CAL fe) = 1 → (s.feOf fe).req = false → s.rd (RFE_CAL_CFG.AUTO_MASK fe) ≠ 0 →
            s.rd (RFE_CAL_CFG.TEMP_THR fe) ≤ (sgn 8 (unsg 8 (clampI (-128) 127 celsius)) - s.rdS (RFE_TEMP.AT_CAL fe)).natAbs →
            u.rd (RFE_STS.CAL_DUE fe) = 1))
    ∧ ((s.feOf fe).req = true → (s.feOf fe).dueAt + s.rd (RFE_CAL_CFG.STARVE_S fe) * 1000000000 ≤ (s.at t).rc →
      ∃ u, exec (.calStarveTimeout fe t) s = .next u ∧ u.rd (RFE_INT_STS.CAL_STARVED fe) = 1)

/-- From R60, R63 and R66. AGC_GAIN_STEP shows the ADC peak and changes GAIN by one towards a peak of BACKOFF dB below full scale, unless frozen,
at an end of its range, or raised less than DECAY_MS after the last raise; a change is counted and tagged with its sample index. With no
carrier on, DC_BUCKET_ADVANCE, once the current bucket's time is over, moves the region's window on by one bucket and drops what has left
it, and does nothing before. RFE_TX_TEST_WRITE with CW_EN in RX, TX_EN at 1 and the RADIO island on its reference starts the turnaround of a
carrier; with CW_EN 0 while it is sent, TX ends in TURN_TR and counts. RFE_TX_AIR_READ answers the air time and clears it. -/
def Obligations.RadioGainDutyAndTest : Prop :=
  ∀ (fe : Fin 4) (region : Fin 16) (peak offset : Int) (sample pix : Nat) (q : Requester) (t : Nat) (s : State),
    (let p : Int := clampI (-128) 0 peak
     let back : Int := s.rd (RFE_AGC_CFG.BACKOFF fe)
     let g : Nat := s.rd (RFE_AGC_STS.GAIN fe)
     ∃ u, exec (.agcGainStep fe peak sample t) s = .next u ∧ u.rd (RFE_AGC_STS.PEAK fe) = unsg 8 p
        ∧ u.rd (RFE_AGC_STS.GAIN fe) =
          (if s.rd (RFE_AGC_CFG.FREEZE fe) = 1 then g
           else if p < -back then
             (if g < 72 ∧ (s.feOf fe).gainUp + s.rd (RFE_AGC_CFG.DECAY_MS fe) * 1000000 ≤ (s.at t).rc then g + 1 else g)
           else if -back < p then g - 1
           else g)
        ∧ (if u.rd (RFE_AGC_STS.GAIN fe) = g then (u.feOf fe).gainTag = (s.feOf fe).gainTag ∧ u.rd (RFE_AGC_STS.STEPS fe) = s.rd (RFE_AGC_STS.STEPS fe)
           else (u.feOf fe).gainTag = sample ∧ u.rd (RFE_AGC_STS.STEPS fe) = (s.rd (RFE_AGC_STS.STEPS fe) + 1) % 2 ^ (RFE_AGC_STS.STEPS fe).width))
    ∧ ((s.air t).reached ((s.dcOf region).start + dcWindowS s region * 1000000000 / 60) = false → (∀ n : Fin 4, (s.feOf n).cw = false) →
      exec (.dcBucketAdvance region t) s = .next (s.at t))
    ∧ ((∀ n : Fin 4, (s.feOf n).cw = false) → (s.at t).reached ((s.dcOf region).start + dcWindowS s region * 1000000000 / 60) = true →
      ∃ u, exec (.dcBucketAdvance region t) s = .next u ∧ (u.dcOf region).cur = (s.dcOf region).cur + 1
        ∧ (u.dcOf region).start = (s.dcOf region).start + dcWindowS s region * 1000000000 / 60
        ∧ (u.dcOf region).buckets = (s.dcOf region).buckets.filter (fun b => (s.dcOf region).cur < b.1 + 59))
    ∧ (s.rd (RFE_STS.STATE fe) = 2 → s.rd (RFE_CTL.TX_EN fe) = 1 → s.rd (CLK_ISL_STS.ON_REF 0) = 1 →
      ∃ u, exec (.rfeTxTestWrite fe true pix offset t) s = .next u ∧ u.rd (RFE_TX_TEST.CW_EN fe) = 1 ∧ u.rd (RFE_TX_TEST.PIX fe) = pix % 16
        ∧ u.rd (RFE_STS.STATE fe) = 3 ∧ (u.feOf fe).cw = true ∧ (u.feOf fe).firstSym = (s.at t).rc + 36000)
    ∧ (s.rd (RFE_STS.STATE fe) = 4 → (s.feOf fe).cw = true → (s.feOf fe).offPend = false → (s.feOf fe).firstSym < (s.at t).rc →
      ∃ u, exec (.rfeTxTestWrite fe false pix offset t) s = .next u ∧ u.rd (RFE_TX_TEST.CW_EN fe) = 0 ∧ u.rd (RFE_STS.STATE fe) = 5
        ∧ u.rd (RFE_TX_FRAMES fe) = (s.rd (RFE_TX_FRAMES fe) + 1) % 2 ^ 32)
    ∧ (∃ u, exec (.rfeTxAirRead fe q) s = .next u ∧ u.busData q = s.rd (RFE_TX_AIR.AIR fe) ∧ u.rd (RFE_TX_AIR.AIR fe) = 0)

/-- From R74 to R80, R83, R84, R86 and R91. PREAMBLE_DETECT of a triple whose sniffer is at work, at DET_THR or above, on a front end that
receives, with DUP_EN at 0, counts the detection; of another triple or a lower SNR it does nothing; the first free slice in its order enters
SYNC with the preamble's front end, plan, channel, PHY class and arbitration class; with none free and pre-emption off the preamble of a
non-OFDM class is lost and counted by its class. SFD_FOUND takes SYNC to FRAME with the RMARKER less CHZ_TS_OFS once the acquisition symbols
are over, and not before, and after the timeout frees the slice (R75); SFD_TIMEOUT frees the slice and counts once its time is over, and not
before. PHR_CHECK keeps a good length, and frees the slice and counts a length above the MAX_PSDU that the frame started with.
CLASS_UP_RESULT for a pinned sender raises a class C frame with that RMARKER to B and counts; for another frame it does nothing. -/
def Obligations.PreamblesClaimSlices : Prop :=
  ∀ (fe : Fin 4) (plan : Fin 16) (chan : Nat) (cls : Fin 11) (q sniffer stfPeak ts len mcs pan w x : Nat) (src : Addr) (fcs4 dw fec : Bool) (k : Fin 128) (t : Nat) (s : State),
    (sniffs (s.at t) ⟨plan, chan, cls, fe⟩ = false ∨ q < s.rd (CHZ_CLASS_CFG.DET_THR cls) →
      exec (.preambleDetect fe plan chan cls q sniffer stfPeak t) s = .next (s.at t))
    ∧ (isOfdm cls = false → sniffs (s.at t) ⟨plan, chan, cls, fe⟩ = true → s.rd (CHZ_CLASS_CFG.DET_THR cls) ≤ q → receives (s.at t) fe = true → s.rd CHZ_CFG.DUP_EN = 0 →
      ∃ u, exec (.preambleDetect fe plan chan cls q sniffer stfPeak t) s = .next u
        ∧ u.rd (CHZ_DET fe) = (s.rd (CHZ_DET fe) + 1) % 2 ^ 32
        ∧ (let est : Int := ((s.at t).rc : Int) - symsNs cls (if cls.val = 10 then 5 else s.rd (CHZ_CLASS_CFG.DET_SYM cls))
           let x := detLog plan chan cls est (((s.at t).inc (CHZ_DET fe)).inc (CHZ_PLAN_DET plan))
           let c := preambleClass x est (nearest est (arrivals x fe plan chan))
           match (sliceOrder x false).find? (sliceFree x) with
           | some k => u.rd (CHZ_SLICE_STS.STATE k) = 1 ∧ u.rd (CHZ_SLICE_STS.CLASS k) = c ∧ u.rd (CHZ_SLICE_STS.FE k) = fe
               ∧ u.rd (CHZ_SLICE_STS.PLAN k) = plan ∧ u.rd (CHZ_SLICE_STS.CHAN k) = chan % 2 ^ 9 ∧ u.rd (CHZ_SLICE_STS.PHYC k) = cls ∧ (sliceOf u k).q = q
               ∧ (sliceOf u k).maxPsdu = (planNow s plan).maxPsdu
           | none => s.rd CHZ_ARB.PREEMPT_EN = 0 →
               u.rd CHZ_LOST_A = (s.rd CHZ_LOST_A + (if c = 0 then 1 else 0)) % 2 ^ 32 ∧ u.rd CHZ_LOST_B = (s.rd CHZ_LOST_B + (if c = 1 then 1 else 0)) % 2 ^ 32
                 ∧ u.rd CHZ_LOST_C = (s.rd CHZ_LOST_C + (if c = 2 then 1 else 0)) % 2 ^ 32))
    ∧ (s.rd (CHZ_SLICE_STS.STATE k) = 1 →
      (let c := s.rd (CHZ_SLICE_STS.PHYC k)
       if (s.at t).reached ((sliceOf s k).det + symsNs c (acqSyms c)) = true ∧ (s.tsu.rcOn = true → (s.at t).rc ≤ (sliceOf s k).sfdBy) then
         ∃ u, exec (.sfdFound k ts t) s = .next u ∧ u.rd (CHZ_SLICE_STS.STATE k) = 2 ∧ (sliceOf u k).ts = ((ts : Int) - s.rdS (CHZ_TS_OFS.OFS (s.rd (CHZ_SLICE_STS.FE k)))).toNat
       else if (s.at t).reached ((sliceOf s k).det + symsNs c (acqSyms c)) = true then
         ∃ u, exec (.sfdFound k ts t) s = .next u ∧ u.rd (CHZ_SLICE_STS.STATE k) = (if (sliceOf s k).leaving then 3 else 0)
           ∧ u.rd (CHZ_NO_SFD (s.rd (CHZ_SLICE_STS.FE k))) = (s.rd (CHZ_NO_SFD (s.rd (CHZ_SLICE_STS.FE k))) + 1) % 2 ^ 32
       else exec (.sfdFound k ts t) s = .next (s.at t))
      ∧ ((s.at t).reached (sliceOf s k).sfdBy = false → exec (.sfdTimeout k t) s = .next (s.at t))
      ∧ ((s.at t).reached (sliceOf s k).sfdBy = true → ∃ u, exec (.sfdTimeout k t) s = .next u ∧ u.rd (CHZ_SLICE_STS.STATE k) = (if (sliceOf s k).leaving then 3 else 0)
          ∧ u.rd (CHZ_NO_SFD (s.rd (CHZ_SLICE_STS.FE k))) = (s.rd (CHZ_NO_SFD (s.rd (CHZ_SLICE_STS.FE k))) + 1) % 2 ^ 32))
    ∧ (s.rd (CHZ_SLICE_STS.STATE k) = 2 → isOfdm (s.rd (CHZ_SLICE_STS.PHYC k)) = false →
      ∃ u, exec (.phrCheck k false true len mcs fcs4 dw fec t) s = .next u
        ∧ (if len ≤ (sliceOf s k).maxPsdu ∧ (if fcs4 then 6 else 4) ≤ len then
             u.rd (CHZ_SLICE_STS.STATE k) = 2 ∧ (sliceOf u k).len = len ∧ (sliceOf u k).fcs4 = fcs4
           else u.rd (CHZ_SLICE_STS.STATE k) = (if (sliceOf s k).leaving then 3 else 0)
             ∧ u.rd (CHZ_LEN_ERR (s.rd (CHZ_SLICE_STS.FE k))) = (s.rd (CHZ_LEN_ERR (s.rd (CHZ_SLICE_STS.FE k))) + 1) % 2 ^ 32))
    ∧ ((sliceOf s k).ts ≠ ts → exec (.classUpResult k pan src ts t) s = .next (s.at t))
    ∧ (s.rd CHZ_ARB.CLASS_UP_EN = 1 → s.rd (CHZ_SLICE_STS.STATE k) = 2 → s.rd (CHZ_SLICE_STS.CLASS k) = 2 → (sliceOf s k).ts = ts →
        wardOf s pan = some w → srcRecord s w src = some x → (s.node x).pinned = true →
      ∃ u, exec (.classUpResult k pan src ts t) s = .next u ∧ u.rd (CHZ_SLICE_STS.CLASS k) = 1 ∧ u.rd CHZ_CLASS_UP = (s.rd CHZ_CLASS_UP + 1) % 2 ^ 32)

/-- From R23, R66, R70, R83, R85, R87, R89 and R91. SLICE_FRAME_END frees the slice; a frame with a bad FCS is counted and never reaches the
MAC; with a good FCS and no room in the FIFO it counts as good and as lost, with the FIFO's fault; with room, in role SOLO, it is counted and
joins the frames that await their verdict, its last symbol 2 symbols before now, 8 with FEC, its RSSI the power with RFE_RSSI_OFS, held in
its range, and its LQI 8.5 × (SNR + 5) rounded and held in 0 to 255 (halves round up: log entry 29). After CHZ_PLAN_WRITE of FE, GEO or PHY
every class enabled is valid with the spacing, and while a class is enabled every front end of the plan is valid for one of them; F0
takes the frequency written. CHZ_OOG_WRITE leaves EFF at the limit of R89: LIMIT, or GUARD for 0, raised to GUARD and lowered to half
the slot. While the monitor runs, SPECTRUM_INTERVAL shows the power of each bin of the window, corrected by RFE_RSSI_OFS.
CHZ_SLICE_PEAK_READ answers and clears the peak. -/
def Obligations.FramesAndPlansAreChecked : Prop :=
  ∀ (k : Fin 128) (room relayRoom : Bool) (pwr snr : Int) (hdr : MacHdr) (plan : Fin 16) (reg : PlanReg) (v : Word) (tt : Fin 8) (limit : Nat) (bins : List (Int × Int))
    (q : Requester) (t : Nat) (s : State),
    (s.rd (CHZ_SLICE_STS.STATE k) = 2 → s.rd CHZ_CFG.BADFCS_HOST = 0 →
      ∃ u, exec (.sliceFrameEnd k false room relayRoom pwr snr hdr t) s = .next u ∧ u.rd (CHZ_SLICE_STS.STATE k) = (if (sliceOf s k).leaving then 3 else 0) ∧ u.mac.rx = s.mac.rx
        ∧ u.rd (CHZ_FCS_ERR (s.rd (CHZ_SLICE_STS.FE k))) = (s.rd (CHZ_FCS_ERR (s.rd (CHZ_SLICE_STS.FE k))) + 1) % 2 ^ 32)
    ∧ (s.rd (CHZ_SLICE_STS.STATE k) = 2 → (sliceOf s k).uncoded = false →
      ∃ u, exec (.sliceFrameEnd k true false relayRoom pwr snr hdr t) s = .next u ∧ u.rd (CHZ_SLICE_STS.STATE k) = (if (sliceOf s k).leaving then 3 else 0) ∧ u.mac.rx = s.mac.rx
        ∧ u.rd (CHZ_RX_OK (s.rd (CHZ_SLICE_STS.FE k))) = (s.rd (CHZ_RX_OK (s.rd (CHZ_SLICE_STS.FE k))) + 1) % 2 ^ 32
        ∧ u.rd (CHZ_FIFO_OVF (s.rd (CHZ_SLICE_STS.FE k))) = (s.rd (CHZ_FIFO_OVF (s.rd (CHZ_SLICE_STS.FE k))) + 1) % 2 ^ 32 ∧ u.rd CHZ_INT_STS.FIFO_OVF = 1 ∧ latched u 68 = true)
    ∧ (s.rd (CHZ_SLICE_STS.STATE k) = 2 → (sliceOf s k).uncoded = false → roleOf s = roleSolo →
      ∃ u, exec (.sliceFrameEnd k true true relayRoom pwr snr hdr t) s = .next u ∧ u.rd (CHZ_SLICE_STS.STATE k) = (if (sliceOf s k).leaving then 3 else 0)
        ∧ u.rd (CHZ_RX_OK (s.rd (CHZ_SLICE_STS.FE k))) = (s.rd (CHZ_RX_OK (s.rd (CHZ_SLICE_STS.FE k))) + 1) % 2 ^ 32
        ∧ ∃ f : RxFrame, u.mac.rx = s.mac.rx ++ [f] ∧ f.slice = k ∧ f.hdr = hdr ∧ f.len = (sliceOf s k).len ∧ f.verdict = none
            ∧ f.endAt = (s.at t).rc - symsNs (s.rd (CHZ_SLICE_STS.PHYC k)) (if (sliceOf s k).fec then 8 else 2)
            ∧ f.rssi = clampI (-512) 511 (pwr + s.rdS (RFE_RSSI_OFS.OFS (sliceOf s k).phys))
            ∧ (f.lqi : Int) = clampI 0 255 ((17 * (snr + 5000) + 1000) / 2000))
    ∧ (∃ u, exec (.chzPlanWrite plan reg v t) s = .next u
        ∧ (reg ≠ .f0 →
            (∀ c, (u.rd (CHZ_PLAN_PHY.CLASS_MASK plan)).testBit c = true → classSpacing c (u.rd (CHZ_PLAN_GEO.SPACING plan)) = true)
            ∧ (u.rd (CHZ_PLAN_PHY.CLASS_MASK plan) ≠ 0 → ∀ n, (u.rd (CHZ_PLAN_FE.FE_MASK plan)).testBit n = true →
                ∃ c, (u.rd (CHZ_PLAN_PHY.CLASS_MASK plan)).testBit c = true ∧ classFe c n = true))
        ∧ (reg = .f0 → u.rd (CHZ_PLAN_F0.F0_KHZ plan) = v.toNat % 2 ^ 22))
    ∧ (∃ u, exec (.chzOogWrite tt limit t) s = .next u
        ∧ u.rd (CHZ_OOG.EFF tt) = min (max (u.rd (CHZ_OOG.LIMIT tt) * 10) (s.rd (MAC_TT_GUARD.GUARD tt))) (s.rd MAC_SLOT_LEN.LEN_US / 2) / 10
        ∧ (limit % 2 ^ 14 = 0 → u.rd (CHZ_OOG.LIMIT tt) = 0))
    ∧ (∀ i : Fin 128, s.rd CHZ_SPEC_CTL.RUN = 1 → (s.at t).reached (s.specAt + 2 ^ s.rd CHZ_SPEC_CTL.AVG * 1000000) = true → s.rd CHZ_SPEC_CTL.FE = 0 → s.rd CHZ_SPEC_CTL.START + i.val < 400 →
      ∃ u, exec (.spectrumInterval bins t) s = .next u
        ∧ u.rd (CHZ_SPEC.PWR i) = unsg 8 (clampI (-128) 127 ((bins.getD i (-128, -128)).1 + s.rdS (RFE_RSSI_OFS.OFS 0) / 4)))
    ∧ (∃ u, exec (.chzSlicePeakRead q) s = .next u ∧ u.busData q = s.rd CHZ_SLICE_PEAK.PEAK ∧ u.rd CHZ_SLICE_PEAK.PEAK = 0)

/-- From R92, R93 and R262. ASN_START with a reference and the ASN neither running nor pending sets START_PEND and places the first tick;
else it only sets BAD. The tick at the grid time of a pending start loads that grid ASN and sets RUN; every later tick at its grid time
makes the ASN one more modulo 2^40. ASN_STOP while it runs sets STOP_PEND, and the next tick clears RUN and leaves the ASN. A write of
MAC_SLOT_LEN gives the clamped length while the ASN does not run, and nothing while it does. -/
def Obligations.SlotsAreCounted : Prop :=
  ∀ (us t : Nat) (cor : List (Fin 256)) (s : State),
    (s.rd TSU_STS.REF = 1 → asnRuns s = false → s.rd TSU_ASN_STS.START_PEND = 0 →
      ∃ u, exec (.asnStart t) s = .next u ∧ u.rd TSU_ASN_STS.START_PEND = 1 ∧ u.rd TSU_ASN_CTL.BAD = 0 ∧ u.mac.gridK = gridFirst (s.at t) ∧ u.asn = s.asn)
    ∧ ((s.rd TSU_STS.REF = 0 ∨ asnRuns s = true ∨ s.rd TSU_ASN_STS.START_PEND = 1) →
      ∃ u, exec (.asnStart t) s = .next u ∧ u.rd TSU_ASN_CTL.BAD = 1 ∧ u.rd TSU_ASN_STS.START_PEND = s.rd TSU_ASN_STS.START_PEND ∧ u.mac = s.mac ∧ u.asn = s.asn)
    ∧ (gridTime s s.mac.gridK ≤ (s.at t).tsuNs →
      (s.rd TSU_ASN_STS.START_PEND = 1 →
        ∃ u, exec (.asnTick cor t) s = .next u ∧ u.asn = gridAsn s s.mac.gridK ∧ u.rd TSU_ASN_STS.RUN = 1 ∧ u.rd MAC_STS.ASN_RUN = 1 ∧ u.rd TSU_ASN_STS.START_PEND = 0
          ∧ u.rd TSU_INT_STS.ASN_STARTED = 1)
      ∧ (s.rd TSU_ASN_STS.START_PEND = 0 → asnRuns s = true → s.rd TSU_ASN_STS.STOP_PEND = 0 →
        ∃ u, exec (.asnTick cor t) s = .next u ∧ u.asn = (s.asn + 1) % 2 ^ 40 ∧ u.rd MAC_STS.ASN_RUN = 1)
      ∧ (s.rd TSU_ASN_STS.START_PEND = 0 → asnRuns s = true → s.rd TSU_ASN_STS.STOP_PEND = 1 →
        ∃ u, exec (.asnTick cor t) s = .next u ∧ u.asn = s.asn ∧ u.rd MAC_STS.ASN_RUN = 0 ∧ u.rd TSU_ASN_STS.RUN = 0 ∧ u.rd TSU_ASN_STS.STOP_PEND = 0))
    ∧ (s.rd TSU_ASN_STS.START_PEND = 0 → asnRuns s = true →
      ∃ u, exec (.asnStop t) s = .next u ∧ u.rd TSU_ASN_STS.STOP_PEND = 1 ∧ u.rd MAC_STS.ASN_RUN = 1 ∧ u.asn = s.asn)
    ∧ (∃ u, exec (.macSlotLenWrite us t) s = .next u
        ∧ u.rd MAC_SLOT_LEN.LEN_US = (if asnRuns s then s.rd MAC_SLOT_LEN.LEN_US else clampN 2000 200000 (us % 2 ^ 18)))

/-- From R96, R99, R101 and R102. A write of MAC_TT_TX clamps TX_COMMIT, then TX_OFS, then GUARD, and recomputes EARLY and LATE. A write
through MAC_HS_DATA lands in the shadow bank of the addressed sequence, where a read answers it, and ENTRY moves on under AUTO. Arming a
hop switch while the ASN runs places it at the asked ASN when that is later, else two slots ahead with HS_LATE; cancelling withdraws it.
A microcode word goes to the inactive bank in BLANK or PROVISION, and nowhere in another state. A swap whose check passes arms and
leaves BAD at 0; one that fails sets BAD and raises UC_BAD. -/
def Obligations.TemplatesSequencesAndImages : Prop :=
  ∀ (k : Fin 8) (v w : Word) (q : Requester) (mask : Nat) (n : Fin 4) (sf t : Nat) (s : State),
    (∃ u, exec (.macTtWrite k .tx v t) s = .next u
        ∧ u.rd (MAC_TT_TX.TX_COMMIT k) = clampN 100 (min 16383 (lenUs s - 1)) (v.toNat / 2 ^ 18 % 2 ^ 14) % 2 ^ 14
        ∧ u.rd (MAC_TT_TX.TX_OFS k) = clampN (u.rd (MAC_TT_TX.TX_COMMIT k)) (lenUs s - 1) (v.toNat % 2 ^ 18) % 2 ^ 18
        ∧ u.rd (MAC_TT_GUARD.GUARD k) = min (s.rd (MAC_TT_GUARD.GUARD k)) (u.rd (MAC_TT_TX.TX_OFS k))
        ∧ u.rd (MAC_TT_EFF.LATE k) = u.rd (MAC_TT_GUARD.GUARD k) / 2)
    ∧ (∃ u, exec (.macHsDataAccess (some v) q t) s = .next u
        ∧ Store.find 0 u.mac.hs (shadowKey s (s.rd MAC_HS_IDX.HS) (s.rd MAC_HS_IDX.ENTRY)) = v.toNat % 16 + 16 * min 399 (v.toNat / 16 % 2 ^ 9)
        ∧ u.mac.hsBank = s.mac.hsBank
        ∧ u.rd MAC_HS_IDX.ENTRY = (if s.rd MAC_HS_IDX.AUTO = 1 then (s.rd MAC_HS_IDX.ENTRY + 1) % 1024 else s.rd MAC_HS_IDX.ENTRY))
    ∧ (∃ u, exec (.macHsDataAccess none q t) s = .next u ∧ u.mac = s.mac
        ∧ u.busData q = Store.find 0 s.mac.hs (shadowKey s (s.rd MAC_HS_IDX.HS) (s.rd MAC_HS_IDX.ENTRY)))
    ∧ (asnRuns s = true →
      ∃ u, exec (.hsSwitchArm mask t) s = .next u ∧ u.rd MAC_HS_CTL.ARM = 1 ∧ u.rd MAC_HS_CTL.MASK = mask % 2 ^ 16
        ∧ (let asked := s.rd MAC_HS_SW_LO.ASN + 2 ^ 32 * s.rd MAC_HS_SW_HI.ASN
           if later asked s.asn then u.mac.hsAt = some (asked % 2 ^ 40) else u.mac.hsAt = some ((s.asn + 2) % 2 ^ 40) ∧ u.rd MAC_INT_STS.HS_LATE = 1))
    ∧ (∃ u, exec (.hsSwitchCancel mask t) s = .next u ∧ u.rd MAC_HS_CTL.ARM = 0 ∧ u.mac.hsAt = none ∧ u.mac.hs = s.mac.hs ∧ u.mac.hsBank = s.mac.hsBank)
    ∧ (∃ u, exec (.macLsUcDataWrite n w t) s = .next u
        ∧ (if s.rd SYS_LC_STS.LC ≤ 2 then
             Store.find 0 (laneOf u n).uc ((1 - s.rd (MAC_LS_STS.BANK n)) * 2048 + s.rd (MAC_LS_UC_IDX.WORD n)) = w.toNat
               ∧ u.rd (MAC_LS_UC_IDX.WORD n) = (s.rd (MAC_LS_UC_IDX.WORD n) + 1) % 2048
           else u = s.at t))
    ∧ (laneBankOk s n = true →
      ∃ u, exec (.macLsSwapArm n sf true true t) s = .next u ∧ u.rd (MAC_LS_SWAP.ARM n) = 1 ∧ u.rd (MAC_LS_SWAP.BAD n) = 0 ∧ u.rd (MAC_LS_SWAP.SF n) = sf % 64
        ∧ u.rd (MAC_LS_STS.BANK n) = s.rd (MAC_LS_STS.BANK n))
    ∧ (∀ ok, ok = false ∨ laneBankOk s n = false →
      ∃ u, exec (.macLsSwapArm n sf true ok t) s = .next u ∧ u.rd (MAC_LS_SWAP.ARM n) = 0 ∧ u.rd (MAC_LS_SWAP.BAD n) = 1
        ∧ u.rd MAC_INT_STS.UC_BAD = 1)

/-- From R21, R54, R103, R104, R105, R107, R120 and R159. TRANSMIT_ITEM_READY puts the prepared item, encrypted or with none needed, of a
cell that has not reached its commit point into the transmit FIFO. At the commit point, and not before, with an item that meets it and that
fits, the front end that serves the lane's window queues the transmission with its deadline 36 µs before the start; with none, TX_MISSED
counts and nothing is sent. An ack with the frame's channel and DSN, inside the window and with its CCM* passed, closes the window and
counts TX_OK for the node and its Ward. A window that closes without one leaves the frame queued with one retry more, until MAX_RETRY
retries are used: then the drop counts; the queue of a fenced record stays as it is (R27). QUIET_TIMEOUT moves a JOINED node not heard for
TIMEOUT_S seconds to QUIET. -/
def Obligations.FramesLeaveAndAreAcknowledged : Prop :=
  ∀ (n : Fin 4) (idx pos t : Nat) (x : Span) (it : TxItem) (w : AckWait) (f : RxFrame) (qf : QFrame) (nix : Fin 262144) (s : State),
    ((laneOf s n).preparing.find? (fun i => i.idx = idx) = some it → spanOf s n idx = some x → x.committed = false → x.asn = it.asn → it.aborted = false →
        (it.encrypts = true → it.engine ≠ none) →
      ∃ u, exec (.transmitItemReady n idx t) s = .next u
        ∧ (laneOf u n).fifo = (laneOf s n).fifo ++ [{ it with encrypts := false, engine := if it.encrypts then none else it.engine, at_ := (s.at t).rc }]
        ∧ (laneOf u n).preparing = (laneOf s n).preparing.filter (fun i => i.idx != idx) ∧ (laneOf u n).spans = (laneOf s n).spans)
    ∧ (spanOf s n idx = some x → (s.at t).reached (commitAt s x) = false → exec (.transmitCommitPoint n idx t) s = .next (s.at t))
    ∧ (spanOf s n idx = some x → x.committed = false → x.cell.typ = 1 → (s.feOf n).covers = false → (s.feOf n).rejoin = false → owns s = true → (s.at t).reached (commitAt s x) = true →
      ((laneOf s n).fifo.find? (fun i => i.idx = idx && i.asn = x.asn && meets i.at_ (commitAt s x)) = none →
        ∃ u, exec (.transmitCommitPoint n idx t) s = .next u ∧ u.rd (MAC_LS_TX_MISSED n) = (s.rd (MAC_LS_TX_MISSED n) + 1) % 2 ^ 32
          ∧ u.rd MAC_INT_STS.TX_MISSED = 1 ∧ u.fe = s.fe)
      ∧ ((laneOf s n).fifo.find? (fun i => i.idx = idx && i.asn = x.asn && meets i.at_ (commitAt s x)) = some it → it.noframe = false → it.pre = false → it.lim = 0 → it.kind = .frame →
          fits s it.frame.phyc x.plan x.cell.tt (x.cell.span + 1) it.frame.len it.ackReq 0 = true →
        ∃ u c, exec (.transmitCommitPoint n idx t) s = .next u ∧ (u.feOf (physOf s n)).txq = txInsert c (s.feOf (physOf s n)).txq ∧ c.frame = it.frame.id ∧ c.nix = it.nix ∧ c.plan = x.plan ∧ c.chan = x.chan
          ∧ c.deadline = (((x.tick + s.rd (MAC_TT_TX.TX_OFS x.cell.tt) * 1000 : Nat) : Int) + it.shift * 1000 - 36000).toNat
          ∧ c.pix = (if 2 ≤ it.frame.retries then s.rd (MAC_TT_PIX.RETRY_PIX x.cell.tt) else s.rd (MAC_TT_PIX.DATA_PIX x.cell.tt))
          ∧ (laneOf u n).fifo = (laneOf s n).fifo.filter (fun i => !(i.idx = idx && i.asn = x.asn))))
    ∧ ((s.mac.rx.filter (fun f => f.hdr.kind = .ack))[pos]? = some f → (laneOf s f.fe).wait = some w → nodeLive s w.nix = true → f.aborted = false →
        (f.start - ((w.endAt : Int) + s.rd (MAC_TT_RXACK.RX_ACK_DELAY w.tt) * 1000)).natAbs ≤ s.rd (MAC_TT_RXACK.ACK_WAIT w.tt) * 500 →
        f.plan = w.plan → f.chan = w.chan → f.hdr.dsn = some w.dsn →
      ∃ u, exec (.nodeAckReceived pos true t) s = .next u ∧ (laneOf u f.fe).wait = none
        ∧ u.rd (MAC_W_TX_OK w.ward) = (s.rd (MAC_W_TX_OK w.ward) + 1) % 2 ^ 32)
    ∧ ((laneOf s n).wait = some w → w.endAt + s.rd (MAC_TT_RXACK.RX_ACK_DELAY w.tt) * 1000 + s.rd (MAC_TT_RXACK.ACK_WAIT w.tt) * 500 ≤ (s.at t).rc →
      ∃ u, exec (.ackWaitExpiry n t) s = .next u ∧ (laneOf u n).wait = none ∧ (u.node w.nix).pdr = (if (s.node w.nix).fenced then (s.node w.nix).pdr else pdrStep (s.rd MAC_DRIFT_CFG.PDR_SHIFT) (s.node w.nix).pdr false)
        ∧ ((s.node w.nix).fenced = false → nodeQFind s w.nix w.frame = some qf → s.rd MAC_RETRY_CFG.MAX_RETRY ≤ qf.retries →
            u.rd (MAC_W_TX_RETRY_DROP w.ward) = (s.rd (MAC_W_TX_RETRY_DROP w.ward) + 1) % 2 ^ 32))
    ∧ ((s.node nix).state = .joined → (s.node nix).fenced = false → s.rd (MAC_WARD_QUIET.TIMEOUT_S (s.node nix).ward) ≠ 0 →
        Store.find 0 s.mac.heard nix + s.rd (MAC_WARD_QUIET.TIMEOUT_S (s.node nix).ward) * 1000000000 ≤ (s.at t).rc →
      ∃ u, exec (.quietTimeout nix t) s = .next u ∧ (u.node nix).state = .quiet)

/-- From R21, R26, R27, R94, R100, R110 to R112, R159 to R161 and R329. CCM_DISPATCH gives a waiting secured frame the first idle engine.
VERDICT on a frame in guard from a live node whose security check answers ACCEPT writes its counter and generation into the record and
counts the Ward's RX_ACCEPT; one that answers REPLAY leaves the counter and counts in the Ward and the Whey; with a poisoned record, or a
key that fails its integrity check, the frame goes to the Whey and the record is fenced. ACK_COMMIT_POINT takes the frame of its front end
whose commit point is the earliest; before that point it does nothing that the passing of time does not; then, on a frame without the
ack-request bit, or while the lane does not run, it sends nothing; with the bit and with no accepting verdict in time it counts ACK_SKIP; a
second frame of one node in a slot counts ACK_SAMESLOT; an accepted frame whose front end is free opens a burst: the ack joins the
transmissions that wait, its deadline the turnaround of R111, and ACK_SENT counts. -/
def Obligations.VerdictsDecide : Prop :=
  ∀ (k : Fin 128) (e pos i x w fc nix t : Nat) (mic : Bool) (word : Fin 16) (cor : List (Fin 256)) (m : TableMeets) (p : Fin 4) (f : RxFrame) (s : State),
    let now : State := s.air t
    (s.rd SEC_CFG.EN = 1 → engineIdle s = some e → s.rd (CHZ_SLICE_STS.STATE k) = 2 → (sliceOf s k).engine = none →
      ∃ u, exec (.ccmDispatch k t) s = .next u ∧ (sliceOf u k).engine = some e ∧ u.rd SEC_ENG_STS.BUSY = setBit (s.rd SEC_ENG_STS.BUSY) e % 2 ^ 16
        ∧ u.rd (SEC_ENG_OPS e) = (s.rd (SEC_ENG_OPS e) + 1) % 2 ^ 32)
    ∧ (waitingVerdict s pos = some (i, f) → s.rd MAC_CFG.EN = 1 → f.engine ≠ none → s.pair.marking = false → wardOf s f.hdr.pan = some w → f.aborted = false → f.case = .inGuard →
        f.hdr.src = .short x → saxFind s w x = some nix → nodeLive s nix = true → forMe s f.hdr.dst = true → f.hdr.kt = 1 → f.hdr.fc = some fc → f.hdr.progress = none →
        (∀ bad : Option (Fin 16), bad = some word ∨ bad = none ∧ f.hdr.sec = true ∧ keyDamaged s (s.node nix).keyIx = true →
          ∃ u, exec (.verdict pos mic bad cor m t) s = .next u ∧ (u.node nix).fenced = true ∧ (u.node nix).rxFc = (s.node nix).rxFc ∧ latched u 32 = true
            ∧ u.rd (QMS_WHEY 0) = (s.rd (QMS_WHEY 0) + 1) % 2 ^ 32)
        ∧ (secCheck s nix w f.hdr true = { verdict := .accept } → keyDamaged s (s.node nix).keyIx = false →
          ∃ u, exec (.verdict pos true none cor m t) s = .next u ∧ u.rd (MAC_W_RX_ACCEPT w) = (s.rd (MAC_W_RX_ACCEPT w) + 1) % 2 ^ 32
            ∧ (u.node nix).rxFc = fc ∧ (u.node nix).rxKgen = f.hdr.gen ∧ (u.node nix).rxOk = ((s.node nix).rxOk + 1) % 2 ^ 32)
        ∧ (secCheck s nix w f.hdr true = { verdict := .replay, whey := 1 } → keyDamaged s (s.node nix).keyIx = false →
          ∃ u, exec (.verdict pos true none cor m t) s = .next u ∧ u.rd (MAC_W_RX_REPLAY w) = (s.rd (MAC_W_RX_REPLAY w) + 1) % 2 ^ 32
            ∧ u.rd (QMS_WHEY 1) = (s.rd (QMS_WHEY 1) + 1) % 2 ^ 32 ∧ u.nodes = s.nodes))
    ∧ (ackNext now p = some f → now.reached (ackCommitAt now f) = false → exec (.ackCommitPoint p t) s = .next now)
    ∧ (ackNext now p = some f → now.reached (ackCommitAt now f) = true →
        (f.hdr.ackReq = false ∨ owns s = false ∨ asnRuns s = false ∨ laneRuns s f.fe = false →
          ∃ u, exec (.ackCommitPoint p t) s = .next u ∧ u.feOf p = now.feOf p ∧ u.rd (MAC_LS_ACK_SENT f.fe) = s.rd (MAC_LS_ACK_SENT f.fe))
        ∧ (owns s = true → asnRuns s = true → laneRuns s f.fe = true → f.hdr.ackReq = true → f.case = .inGuard → toRoot s f.hdr.dst = true →
            s.rd (MAC_TT_OPT.ACK_EN ((f.cell.map (·.tt)).getD 0)) = 1 →
            (f.verdict = some .replay ∨ meets f.verdictAt (ackCommitAt now f) = false →
              ∃ u, exec (.ackCommitPoint p t) s = .next u ∧ u.rd (MAC_LS_ACK_SKIP f.fe) = (s.rd (MAC_LS_ACK_SKIP f.fe) + 1) % 2 ^ 32
                ∧ ((laneOf s p).burst = none → u.feOf p = now.feOf p))
            ∧ (f.verdict = some .accept → meets f.verdictAt (ackCommitAt now f) = true → ackDamaged now f = false →
              (s.mac.slotAcks.contains (f.nix.getD 0) = true →
                ∃ u, exec (.ackCommitPoint p t) s = .next u ∧ u.rd (MAC_LS_ACK_SAMESLOT f.fe) = (s.rd (MAC_LS_ACK_SAMESLOT f.fe) + 1) % 2 ^ 32
                  ∧ ((laneOf s p).burst = none → u.feOf p = now.feOf p))
              ∧ (let turn : Nat := ackTurn now f
                 let air : Nat := airNs f.phyc (s.rd (CHZ_PLAN_PHY.PRE_LEN f.plan)) (ackLen (ackItem now f))
                 let ce : Nat := chanCentre s f.plan f.chan * 2
                 let sp : Nat := spacingKhz (s.rd (CHZ_PLAN_GEO.SPACING f.plan))
                 s.mac.slotAcks.contains (f.nix.getD 0) = false → reserved now p turn (turn + 36000 + air) = false → (laneOf s p).burst = none →
                 burstMember now p { start := turn } f.endAt = true → dcRefuses now (dcRegions now (ce - sp) (ce + sp)) air true = false →
                 ∃ u, exec (.ackCommitPoint p t) s = .next u ∧ u.rd (MAC_LS_ACK_SENT f.fe) = (s.rd (MAC_LS_ACK_SENT f.fe) + 1) % 2 ^ 32
                   ∧ (laneOf u p).burst = some { start := turn, ends := [f.endAt] }
                   ∧ (u.feOf p).txq.any (fun c => decide (c.kind = .ack ∧ c.deadline = turn ∧ c.acks = [ackItem now f])) = true))))

/-- R15. A read of each of the 23 registers with an rc field (R12), by any requester, answers the field as it stood, with the register's other
fields in their places, and returns the field to its Reset value: 0, and 0xFFFF for MAC_ACK_MARGIN.MIN. No other register
field changes. -/
def Obligations.EveryReaderClears : Prop :=
  ∀ (q : Requester) (fe lane user ev : Fin 4) (bin : Fin 16) (ward cls : Fin 8) (p : Fin 2) (ring : Fin 32) (cq : Fin 128) (s : State),
    let reads (c : Instr) (f : Fld) (v back : Nat) : Prop := ∃ u, exec c s = .next u ∧ u.busData q = v ∧ u.rd f = back ∧ ∀ g : Fld, g.key ≠ f.key → u.rd g = s.rd g
    reads (.rfeTxAirRead fe q) (RFE_TX_AIR.AIR fe) (s.rd (RFE_TX_AIR.AIR fe)) 0
    ∧ reads (.chzSlicePeakRead q) CHZ_SLICE_PEAK.PEAK (s.rd CHZ_SLICE_PEAK.PEAK) 0
    ∧ reads (.macBurstPeakRead q) MAC_BURST_PEAK.PEAK (s.rd MAC_BURST_PEAK.PEAK) 0
    ∧ reads (.macAckMarginRead q) MAC_ACK_MARGIN.MIN (s.rd MAC_ACK_MARGIN.MIN) 0xFFFF
    ∧ reads (.macLsVhistRead lane bin q) (MAC_LS_VHIST.COUNT lane bin) (s.rd (MAC_LS_VHIST.COUNT lane bin)) 0
    ∧ reads (.srcCellsPeakRead q) SRC_CELLS_PEAK.PEAK (s.rd SRC_CELLS_PEAK.PEAK) 0
    ∧ reads (.srcChkPeakRead q) SRC_CHK_PEAK.US (s.rd SRC_CHK_PEAK.US) 0
    ∧ reads (.secEngPeakRead q) SEC_ENG_PEAK.PEAK (s.rd SEC_ENG_PEAK.PEAK) 0
    ∧ reads (.secJnlPeakRead q) SEC_JNL_PEAK.PEAK (s.rd SEC_JNL_PEAK.PEAK) 0
    ∧ reads (.qmsPoolPeakRead q) QMS_POOL_PEAK.PEAK (s.rd QMS_POOL_PEAK.PEAK) 0
    ∧ reads (.qmsPoolUsePeakRead user q) (QMS_POOL_USE.PEAK user) (s.rd (QMS_POOL_USE.USED user) + 2 ^ 16 * s.rd (QMS_POOL_USE.PEAK user)) 0
    ∧ (∃ u, exec (.qmsWNpeakRead ward q) s = .next u ∧ u.busData q = s.rd (QMS_W_NPEAK.PEAK ward) + 2 ^ 11 * s.rd (QMS_W_NPEAK.NIX ward)
        ∧ u.rd (QMS_W_NPEAK.PEAK ward) = 0 ∧ u.rd (QMS_W_NPEAK.NIX ward) = 0
        ∧ ∀ g : Fld, g.key ≠ (QMS_W_NPEAK.PEAK ward).key → g.key ≠ (QMS_W_NPEAK.NIX ward).key → u.rd g = s.rd g)
    ∧ reads (.qmsCqPeakRead cq q) (QMS_CQ.PEAK cq) (s.rd (QMS_CQ.CURDS cq) + 2 ^ 16 * s.rd (QMS_CQ.PEAK cq)) 0
    ∧ reads (.shpCalPeakRead q) SHP_CAL_STS.PEAK (s.rd SHP_CAL_STS.COUNT + 2 ^ 16 * s.rd SHP_CAL_STS.PEAK) 0
    ∧ reads (.shpEgrPeakRead p q) (SHP_EGR_PEAK.PEAK p) (s.rd (SHP_EGR_PEAK.PEAK p)) 0
    ∧ reads (.tsuServoOfsPeakRead q) TSU_SERVO_OFS_PEAK.NS (s.rd TSU_SERVO_OFS_PEAK.NS) 0
    ∧ reads (.tsuPResPeakRead p q) (TSU_P_RES_PEAK.NS p) (s.rd (TSU_P_RES_PEAK.NS p)) 0
    ∧ reads (.hifRxrBacklogPeakRead ring q) (HIF_RXR_BACKLOG.PEAK ring) (s.rd (HIF_RXR_BACKLOG.COUNT ring) + 2 ^ 16 * s.rd (HIF_RXR_BACKLOG.PEAK ring)) 0
    ∧ reads (.hifEvtrPendPeakRead ev q) (HIF_EVTR_PEND.PEAK ev) (s.rd (HIF_EVTR_PEND.PEND ev) + 2 ^ 8 * s.rd (HIF_EVTR_PEND.PEAK ev)) 0
    ∧ reads (.updCurdsPeakRead q) UPD_CURDS.PEAK (s.rd UPD_CURDS.USED + 2 ^ 16 * s.rd UPD_CURDS.PEAK) 0
    ∧ reads (.updReadyPeakRead q) UPD_READY.PEAK (s.rd UPD_READY.FRAMES + 2 ^ 16 * s.rd UPD_READY.PEAK) 0
    ∧ reads (.pairMirPeakRead q) PAIR_MIR_STS.PEAK (s.rd PAIR_MIR_STS.CURDS + 2 ^ 12 * s.rd PAIR_MIR_STS.PEAK + 2 ^ 24 * s.rd PAIR_MIR_STS.LAT_US) 0
    ∧ reads (.ethPEqPeakRead p cls q) (ETH_P_EQ.PEAK p cls) (s.rd (ETH_P_EQ.FRAMES p cls) + 2 ^ 16 * s.rd (ETH_P_EQ.PEAK p cls)) 0

/-- R246. Reading TSU_NS_LO answers RC [31:0] and latches RC [47:32], RC [63:48] and TSU time of the same moment for its requester; reading
TSU_TIME_NS answers the ns of TSU time and latches its seconds; a read by one requester leaves every latch of another alone. From R94 and
R385: MAC_ASN_LO answers ASN [31:0] and latches ASN [39:32]; CEL_RTC_TICK, with the core powered, answers the tick and latches CEL_RTC_S.
Latches 1 to 7 of a requester are TSU_EPOCH, TSU_NS_HI, TSU_MAP_NS, TSU_MAP_SL, TSU_MAP_SH, TSU_TIME_SL and TSU_TIME_SH; 0 is MAC_ASN_HI. -/
def Obligations.LatchedReadsNeverTear : Prop :=
  ∀ (q : Requester) (t : Nat) (s : State),
    let latch (u : State) (p : Requester) (k : Nat) : Nat := Store.find 0 u.latch (p.val * 16 + k)
    let others (u : State) : Prop := ∀ p : Requester, p ≠ q → ∀ k : Fin 16, latch u p k = latch s p k
    (∃ u, exec (.tsuNsLoRead q t) s = .next u ∧ u.rc = (s.at t).rc ∧ u.busData q = u.rc % 2 ^ 32
        ∧ latch u q 1 = u.rc / 2 ^ 32 % 2 ^ 16 ∧ latch u q 2 = u.rc / 2 ^ 48 % 2 ^ 16
        ∧ latch u q 3 = u.tsuFrac ∧ latch u q 4 = u.tsuSec % 2 ^ 32 ∧ latch u q 5 = u.tsuSec / 2 ^ 32 ∧ others u ∧ ∀ f : Fld, u.rd f = s.rd f)
    ∧ (∃ u, exec (.tsuTimeNsRead q t) s = .next u ∧ u.rc = (s.at t).rc ∧ u.busData q = u.tsuFrac
        ∧ latch u q 6 = u.tsuSec % 2 ^ 32 ∧ latch u q 7 = u.tsuSec / 2 ^ 32 ∧ others u ∧ ∀ f : Fld, u.rd f = s.rd f)
    ∧ (∃ u, exec (.macAsnLoRead q) s = .next u ∧ u.busData q + 2 ^ 32 * latch u q 0 = s.asn ∧ others u ∧ ∀ f : Fld, u.rd f = s.rd f)
    ∧ (powered s = true →
      ∃ u, exec (.celRtcTickRead q t) s = .next u ∧ u.busData q = s.rd CEL_RTC_TICK.TICK ∧ u.rd CEL_RTC_S.S = rtcS s % 2 ^ 32)

/-- From R373 and R379. PCR_RUN takes a HELD core to RUN while PCR_CFG.EN is 1, and changes nothing but the time otherwise; PCR_DRAIN takes
a running core to DRAINING with DRAIN_REQ set; PCR_HALT takes RUN, DRAINING and HUNG to HELD, forced from the first two; PCR_DRAIN_ACK
takes DRAINING to HELD, not forced, and raises DRAINED; DRAIN_TIMEOUT does so by force once DRAIN_TMO ms have passed. WATCHDOG_EXPIRY
after WDOG_MS without a heartbeat, and CORE_TRAP with mtvec 0, take a running core to HUNG with MCAUSE, MEPC and PCR_HANG's latch;
PCR_HEARTBEAT_WRITE starts the watchdog's period again. No other core changes its state. -/
def Obligations.CoresFollowTheirStates : Prop :=
  ∀ (n : Fin 8) (mcause mepc t : Nat) (s : State),
    let st (u : State) (k : Fin 8) : Nat := u.rd (PCR_C_STS.STATE k)
    let goes (c : Instr) (st1 : Nat) (P : State → Prop) : Prop :=
      ∃ u, exec c s = .next u ∧ st u n = st1 ∧ (∀ k : Fin 8, k ≠ n → st u k = st s k) ∧ P u
    (s.rd PCR_CFG.EN = 1 → st s n = 2 → goes (.pcrRun n t) 3 fun u => Store.find 0 u.pcr.beatAt n = (s.at t).rc)
    ∧ (s.rd PCR_CFG.EN = 0 ∨ st s n ≠ 2 → exec (.pcrRun n t) s = .next (s.at t))
    ∧ (coreHalted s n = false → st s n = 3 → goes (.pcrDrain n t) 4 fun u =>
        (u.rd (PCR_C_IRQ_STS.BITS n)).testBit 8 = true ∧ u.rd PCR_DRAINS = (s.rd PCR_DRAINS + 1) % 2 ^ 32)
    ∧ (coreHalted s n = false → (st s n = 3 ∨ st s n = 4) → goes (.pcrHalt n t) 2 fun u => u.rd (PCR_C_STS.FORCED n) = 1)
    ∧ (coreHalted s n = false → st s n = 5 → goes (.pcrHalt n t) 2 fun u => u.rd (PCR_C_STS.EXC n) = 0 ∧ rawSet u (8 + n) = false)
    ∧ (st s n = 4 → goes (.pcrDrainAck n t) 2 fun u => u.rd (PCR_C_STS.FORCED n) = 0 ∧ u.rd PCR_INT_STS.DRAINED = 1)
    ∧ (st s n = 4 → Store.find 0 s.pcr.drainAt n + s.rd (PCR_C_DRAIN_TMO.MS n) * 1000000 ≤ (s.at t).rc →
        goes (.drainTimeout n t) 2 fun u => u.rd (PCR_C_STS.FORCED n) = 1 ∧ u.rd PCR_INT_STS.DRAIN_FORCED = 1
          ∧ u.rd PCR_DRAIN_FORCED = (s.rd PCR_DRAIN_FORCED + 1) % 2 ^ 32)
    ∧ ((st s n = 3 ∨ st s n = 4) → s.rd (PCR_C_CTL.WDOG_EN n) = 1 → coreHalted s n = false →
        Store.find 0 s.pcr.beatAt n + s.rd (PCR_C_WDOG_MS.MS n) * 1000000 ≤ (s.at t).rc →
        goes (.watchdogExpiry n mcause mepc t) 5 fun u => u.rd (PCR_C_MCAUSE.V n) = mcause % 2 ^ 32 ∧ u.rd (PCR_C_MEPC.V n) = mepc % 2 ^ 32
          ∧ latched u (8 + n) = true ∧ rawSet u (8 + n) = true ∧ u.rd PCR_INT_STS.HANG = 1 ∧ u.rd PCR_WDOG_FIRES = (s.rd PCR_WDOG_FIRES + 1) % 2 ^ 32)
    ∧ ((st s n = 3 ∨ st s n = 4) →
        goes (.coreTrap n mcause mepc true t) 5 fun u => u.rd (PCR_C_MCAUSE.V n) = mcause % 2 ^ 32 ∧ u.rd (PCR_C_MEPC.V n) = mepc % 2 ^ 32
          ∧ latched u (8 + n) = true ∧ u.rd (PCR_C_STS.EXC n) = 1 ∧ u.rd PCR_EXCEPTIONS = (s.rd PCR_EXCEPTIONS + 1) % 2 ^ 32)
    ∧ exec (.coreTrap n mcause mepc false t) s = .next (s.at t)
    ∧ goes (.pcrHeartbeatWrite n t) (st s n) fun u => Store.find 0 u.pcr.beatAt n = (s.at t).rc ∧ ∀ f : Fld, u.rd f = s.rd f

/-- From R372. POLICY_STORE of octets from an offset on is refused when one of them lies in a region reserved under R141, R167 or R232 whose
owner is enabled, or, while REGION_EN is 1, in no enabled region whose WR_MASK names the core: memory stays, PCR_REGION_FAULTS counts,
PCR_FAULT_ADDR takes the offset and the core, REGION is raised. Otherwise each octet stands at its offset, and every other octet of shared
memory and of the local SRAMs stays. -/
def Obligations.PolicyStoresRespectRegions : Prop :=
  ∀ (n : Fin 8) (ofs : Fin 0x400000) (octets : List (BitVec 8)) (t : Nat) (s : State), octets.length ≤ 0x400000 →
    let place (k : Nat) : Nat := (ofs.val + k) % 0x400000
    let reserved (a : Nat) : Prop :=
      (s.rd SRC_CFG.P6_EN = 1 ∧ 0x380000 ≤ a) ∨ (s.rd SEC_CFG.EN = 1 ∧ 0x378000 ≤ a ∧ a < 0x380000) ∨ (s.rd QMS_CFG.EN = 1 ∧ 0x338000 ≤ a ∧ a < 0x378000)
        ∨ (s.rd QMS_CFG.EN = 1 ∧ s.rd SHP_CAL_CFG.EN = 1 ∧ 0x330000 ≤ a ∧ a < 0x338000)
    let allowed (a : Nat) : Prop :=
      ∃ r : Fin 8, s.rd (PCR_REGION_LIM.EN r) = 1 ∧ (s.rd (PCR_REGION_LIM.WR_MASK r)).testBit n = true
        ∧ s.rd (PCR_REGION_BASE.BASE r) ≤ a / 4096 ∧ a / 4096 ≤ s.rd (PCR_REGION_LIM.LIM r)
    let refused (a : Nat) : Prop := reserved a ∨ (s.rd PCR_CFG.REGION_EN = 1 ∧ ¬ allowed a)
    ((∃ k, k < octets.length ∧ refused (place k)) →
        ∃ u, exec (.policyStore n ofs (octets.map BitVec.toNat) t) s = .next u ∧ u.pcr.sram = s.pcr.sram
          ∧ u.pcr.mem = s.pcr.mem ∧ u.rd PCR_REGION_FAULTS = (s.rd PCR_REGION_FAULTS + 1) % 2 ^ 32 ∧ u.rd PCR_FAULT_ADDR.OFS = ofs
          ∧ u.rd PCR_FAULT_ADDR.CORE = n ∧ u.rd PCR_INT_STS.REGION = 1)
    ∧ ((∀ k, k < octets.length → ¬ refused (place k)) →
        ∃ u, exec (.policyStore n ofs (octets.map BitVec.toNat) t) s = .next u ∧ u.pcr.sram = s.pcr.sram
          ∧ (∀ k (h : k < octets.length), Memory.read u.pcr.mem (place k) = octets[k])
          ∧ (∀ a, (∀ k, k < octets.length → place k ≠ a) → Memory.read u.pcr.mem a = Memory.read s.pcr.mem a)
          ∧ ∀ f : Fld, u.rd f = s.rd f)

/-- From R373, R379 and R468. PCR_IPI sets bit 10 of each core named, and of no other; MBOX_IN_WRITE stores the word and sets the core's
bit of that word; MBOX_OUT_WRITE stores the word, and a core's own write raises MBOX_OUT and counts. PCR_INSTRET_LO_READ answers what it
leaves in LO (a free value, the model's choice: the spec has no instruction counter to state). DEBUG_HALT where debug is open leaves STATE
and suspends the watchdog; DEBUG_RESUME ends it, starts the watchdog's period again and carries out a HALT or else a DRAIN of the
meantime. -/
def Obligations.MailboxesAndDebug : Prop :=
  ∀ (n w : Fin 8) (v : Word) (mask t : Nat) (q : Requester) (s : State),
    (∃ u, exec (.pcrIpiWrite mask t) s = .next u
        ∧ ∀ k : Fin 8, u.rd (PCR_C_IRQ_STS.BITS k) = if mask.testBit k then setBit (s.rd (PCR_C_IRQ_STS.BITS k)) 10 else s.rd (PCR_C_IRQ_STS.BITS k))
    ∧ (∃ u, exec (.mboxInWrite n w v t) s = .next u ∧ u.rd (PCR_C_MBOX_IN.V n w) = v.toNat ∧ (u.rd (PCR_C_IRQ_STS.BITS n)).testBit w = true)
    ∧ (∃ u, exec (.mboxOutWrite n w v q t) s = .next u ∧ u.rd (PCR_C_MBOX_OUT.V n w) = v.toNat
        ∧ (if 1 ≤ q.val ∧ q.val ≤ 8 then u.rd PCR_INT_STS.MBOX_OUT = 1 ∧ u.rd PCR_MBOX_MSGS = (s.rd PCR_MBOX_MSGS + 1) % 2 ^ 32
           else u.rd PCR_MBOX_MSGS = s.rd PCR_MBOX_MSGS))
    ∧ (∃ u, exec (.pcrInstretLoRead n q) s = .next u ∧ u.busData q = u.rd (PCR_C_INSTRET_LO.V n)
        ∧ ∀ f : Fld, f.key ≠ (PCR_C_INSTRET_LO.V n).key → f.key ≠ (PCR_C_INSTRET_HI.V n).key → u.rd f = s.rd f)
    ∧ (debugOk s = true → (s.rd (PCR_C_STS.STATE n) = 3 ∨ s.rd (PCR_C_STS.STATE n) = 4) →
      ∃ u, exec (.debugHalt n t) s = .next u ∧ coreHalted u n = true ∧ ∀ f : Fld, u.rd f = s.rd f)
    ∧ (debugOk s = true → coreHalted s n = true → s.rd (PCR_C_STS.STATE n) = 3 →
      ∃ u, exec (.debugResume n t) s = .next u ∧ coreHalted u n = false ∧ Store.find 0 u.pcr.beatAt n = (s.at t).rc
        ∧ u.rd (PCR_C_STS.STATE n) =
          (if Store.find false s.pcr.haltDue n then 2 else if Store.find false s.pcr.drainDue n then 4 else 3))

/-- From R457, R458, R467 and R468. BYPASS and IDCODE become the instruction, and IDCODE answers JTAG 0x1264_0BA3; SAMPLE/PRELOAD, where
boundary scan is allowed, captures the boundary register. EXTEST, CLAMP and HIGHZ there hold the core: CORE_HELD is 1, every front end is
OFF and not enabled, and the Cellar's fields stay. ETH_LINK_CHANGE up on an enabled port shows the link and its speed, and down takes it
away; ETH_FRAME_RECEIVED on an enabled port with its link up counts a damaged, short or long frame, and one that no filter accepts, and does
nothing else with it but for the octets and kinds of the last. A PAUSE frame holds the port where PAUSE_RX is set. Any other accepted
frame that finds room counts, and in the roles SOLO and ACTIVE its source is put down for learning under STA_LEARN (R191) and its IPv6
packet goes to the downlink path with its ingress time less ING_LAT (R198, R248). -/
def Obligations.ScanAndPorts : Prop :=
  ∀ (bits : List Word) (p : Fin 2) (speed : Fin 4) (f : EthFrame) (room : Bool) (t : Nat) (s : State),
    (powered s = true →
      (∃ u, exec .jtagBypass s = .next u ∧ u.rd DBG_TAP_STS.IR = 0xFF)
      ∧ (∃ u, exec .jtagIdcode s = .next u ∧ u.busData 9 = 0x12640BA3 ∧ u.rd DBG_TAP_STS.IR = Config.tapCode 4 % 2 ^ 8)
      ∧ (scanOk s = true →
        (∃ u, exec (.jtagSamplePreload bits) s = .next u ∧ ∀ i : Fin 32, u.rd (DBG_BSR.BITS i) = (bits.getD i 0).toNat)
        ∧ ∀ c ∈ [Instr.jtagExtest, Instr.jtagClamp, Instr.jtagHighz],
            ∃ u, exec c s = .next u ∧ u.rd DBG_TAP_STS.CORE_HELD = 1 ∧ (∀ n : Fin 4, u.rd (RFE_STS.STATE n) = 0 ∧ u.rd (RFE_CTL.EN n) = 0) ∧ u.cel.rtc = s.cel.rtc
              ∧ u.rd KEY_BOOTCNT.COUNT = s.rd KEY_BOOTCNT.COUNT))
    ∧ (s.rd (ETH_P_CFG.EN p) = 1 →
      (∃ u, exec (.ethLinkChange p true speed t) s = .next u ∧ u.rd (ETH_P_STS.LINK p) = 1 ∧ u.rd (ETH_P_STS.SPEED p) = speed)
      ∧ (s.rd (ETH_P_STS.LINK p) = 1 →
        (∃ u, exec (.ethLinkChange p false speed t) s = .next u ∧ u.rd (ETH_P_STS.LINK p) = 0 ∧ u.rd (ETH_P_RX_LINK_DOWN p) = (s.rd (ETH_P_RX_LINK_DOWN p) + 1) % 2 ^ 32)
        ∧ (f.damage = 1 → ∃ u, exec (.ethFrameReceived p f room t) s = .next u ∧ u = (s.at t).inc (ETH_P_RX_FCS_ERR p))
        ∧ (f.damage = 0 → f.len < 64 → exec (.ethFrameReceived p f room t) s = .next ((s.at t).inc (ETH_P_RX_RUNT p)))
        ∧ (f.damage = 0 → 64 ≤ f.len → s.rd (ETH_P_MAXLEN.LEN p) < f.len → exec (.ethFrameReceived p f room t) s = .next ((s.at t).inc (ETH_P_RX_LONG p)))
        ∧ (f.damage = 0 → 64 ≤ f.len → f.len ≤ s.rd (ETH_P_MAXLEN.LEN p) → f.pause = none → ethAccepts s p f.dst = false →
          ∃ u, exec (.ethFrameReceived p f room t) s = .next u ∧ u.rd (ETH_P_RX_FILTERED p) = (s.rd (ETH_P_RX_FILTERED p) + 1) % 2 ^ 32
            ∧ u.rd (ETH_P_RX_FRAMES p) = (s.rd (ETH_P_RX_FRAMES p) + 1) % 2 ^ 32 ∧ u.fwd = s.fwd ∧ u.hif = s.hif)
        ∧ (∀ quanta, f.pause = some quanta → f.damage = 0 → 64 ≤ f.len → f.len ≤ s.rd (ETH_P_MAXLEN.LEN p) →
          ∃ u, exec (.ethFrameReceived p f room t) s = .next u ∧ u.rd (ETH_P_RX_PAUSE p) = (s.rd (ETH_P_RX_PAUSE p) + 1) % 2 ^ 32 ∧ u.fwd = s.fwd
            ∧ (portOf u p).pauseEnd
              = (if s.rd (ETH_P_CFG.PAUSE_RX p) = 1 then (s.at t).rc + ceilDiv (quanta * 512 * bitTime s p) 10 else (portOf s p).pauseEnd))
        ∧ (f.damage = 0 → 64 ≤ f.len → f.len ≤ s.rd (ETH_P_MAXLEN.LEN p) → f.pause = none → ethAccepts s p f.dst = true → room = true →
            s.rd PAIR_STS.ROLE = 0 ∨ s.rd PAIR_STS.ROLE = 1 →
          ∃ u, exec (.ethFrameReceived p f room t) s = .next u
            ∧ u.rd (ETH_P_RX_FRAMES p) = (s.rd (ETH_P_RX_FRAMES p) + 1) % 2 ^ 32 ∧ u.rd (ETH_P_RX_OVF p) = s.rd (ETH_P_RX_OVF p)
            ∧ u.fwd.learn = s.fwd.learn ++ (if s.rd FWD_LEARN_CFG.STA_LEARN = 1 then
                [{ key := f.src % 2 ^ 48 + f.vlan.getD 0 % 4096 * 2 ^ 48, port := 4 + p.val }] else [])
            ∧ u.fwd.down = s.fwd.down ++ (match f.ip with
                | none => []
                | some k => [{ src := 1, pkt := k, rc := (s.at t).rc - s.rd (TSU_P_ING_LAT.NS p), asn := s.asn }]))))

/-- R409. Writing 1 to a bit of FLT_LATCH whose raw bit is 0 clears that latch and no other, writes a CLEAR entry (it waits in the queue, or
is lost when 16 wait, R413) and sets CNT to 0; with the raw bit 1 nothing but the time changes. FLT_CLEAR.ALL does the same to every latch:
those are left whose raw bit is 1. When the latch of AVS_NORESP (source 1) clears, requests to the regulator are no longer held. -/
def Obligations.LatchesClearAfterTheirCondition : Prop :=
  ∀ (src : Fin 256) (a : FaultAt) (t : Nat) (s : State),
    (latched s src = true → rawSet s src = false →
      ∃ u, exec (.fltLatchClear src false a t) s = .next u ∧ latched u src = false ∧ (∀ k : Fin 256, k ≠ src → latched u k = latched s k)
        ∧ u.rd (FLT_SRC_CFG.CNT src) = 0 ∧ u.rd FLT_CLEARS = (s.rd FLT_CLEARS + 1) % 2 ^ 32
        ∧ (if s.flt.queue.length < 16 then ∃ e : MorEntry, u.flt.queue = s.flt.queue ++ [e] ∧ e.w0 % 2 ^ 8 = src ∧ e.w0 / 2 ^ 12 % 2 ^ 3 = 1
           else u.flt.queue = s.flt.queue ∧ u.rd FLT_MOR_LOST = (s.rd FLT_MOR_LOST + 1) % 2 ^ 32)
        ∧ (src = 1 → avsHeld u = false))
    ∧ (rawSet s src = true → exec (.fltLatchClear src false a t) s = .next (s.at t))
    ∧ (∃ u, exec (.fltClearAll t) s = .next u ∧ ∀ k : Fin 256, latched u k = (latched s k && rawSet s k))

/-- From R405, R407, R408, R412, R414 and R415. FAULT_OCCURRENCE of a named source counts in CNT, which saturates; where its latch was clear
the latch sets, FAULT_N is low and ANY is 1, and, but for a poisoned microcode bank, FLT_LAST names it and FLT_RAISES counts; a reserved
source changes nothing but the time. With no capture valid, FLT_FIRST takes the source. An injection of a named source before SYS_CFG_LOCK
counts in FLT_INJECTS and CNT and latches it; once the lock is set, or for a reserved source, it changes nothing but the time. -/
def Obligations.FaultsLatchAndCount : Prop :=
  ∀ (src : Fin 256) (a : FaultAt) (at_ : CurdAt) (next : Bool) (t : Nat) (s : State),
    (FaultSrc.named src = true →
      ∃ u, exec (.faultOccurrence src a at_ next t) s = .next u ∧ latched u src = true
        ∧ u.rd (FLT_SRC_CFG.CNT src) = min (s.rd (FLT_SRC_CFG.CNT src) + 1) (2 ^ (FLT_SRC_CFG.CNT src).width - 1)
        ∧ (latched s src = false → u.rd FLT_FAULTN.LOW = 1 ∧ u.rd FLT_STS.ANY = 1)
        ∧ (latched s src = false → src ≠ 43 → u.rd FLT_LAST.SRC = src ∧ u.rd FLT_RAISES = (s.rd FLT_RAISES + 1) % 2 ^ 32)
        ∧ (latched s src = false → (s.rd (FLT_FIRST.W 0)).testBit 8 = false → u.rd (FLT_FIRST.W 0) % 2 ^ 9 = src + 2 ^ 8))
    ∧ (FaultSrc.named src = false → exec (.faultOccurrence src a at_ next t) s = .next (s.at t))
    ∧ (FaultSrc.named src = true → s.rd SYS_CFG_LOCK.LOCK = 0 →
      ∃ u, exec (.fltInject src true t) s = .next u ∧ latched u src = true ∧ u.rd FLT_INJECTS = (s.rd FLT_INJECTS + 1) % 2 ^ 32
        ∧ u.rd (FLT_SRC_CFG.CNT src) = min (s.rd (FLT_SRC_CFG.CNT src) + 1) (2 ^ (FLT_SRC_CFG.CNT src).width - 1))
    ∧ (FaultSrc.named src = false ∨ s.rd SYS_CFG_LOCK.LOCK = 1 → exec (.fltInject src true t) s = .next (s.at t))

/-- From R410 to R413. ESCALATION_EXPIRY with the timer running and its time over (at the earliest 97 % of MS, log entry 29) stops it and
counts, and a fault reset becomes pending, unless LIMIT of them have run: then FLT_RESET_SUPPRESSED counts and none does. CALM_EXPIRY CALM_S
seconds after BOOT_DONE with no fault reset pending returns FLT_RST_RUN to 0. FLT_CLEAR.FIRST ends the capture and keeps the latches.
FLT_MOR_CTL.CLEAR leaves every word of the ring 0 and WP and WRAPS 0, and keeps the queue, the capture and the latches. -/
def Obligations.EscalationCalmAndMoraine : Prop :=
  ∀ (t : Nat) (s : State),
    (s.rd FLT_STS.ESC_RUN = 1 → (s.at t).reached (s.flt.escAt + s.rd FLT_ESC_CFG.MS * 970000) = true →
      ∃ u, exec (.escalationExpiry t) s = .next u ∧ u.rd FLT_STS.ESC_RUN = 0 ∧ u.rd FLT_ESC_STS.LEFT = 0 ∧ u.rd FLT_ESCALATIONS = (s.rd FLT_ESCALATIONS + 1) % 2 ^ 32
        ∧ (if s.rd FLT_RST_CFG.LIMIT ≤ s.rd FLT_RST_RUN.RUN then
             u.rd FLT_RESET_SUPPRESSED = (s.rd FLT_RESET_SUPPRESSED + 1) % 2 ^ 32 ∧ u.flt.resetPend = s.flt.resetPend
           else u.flt.resetPend = true))
    ∧ (s.rd SYS_BOOT_STS.STAGE = 8 → s.flt.resetPend = false → s.flt.doneAt + s.rd FLT_RST_CFG.CALM_S * 1000000000 ≤ (s.at t).rc →
      ∃ u, exec (.calmExpiry t) s = .next u ∧ u.rd FLT_RST_RUN.RUN = 0)
    ∧ (∃ u, exec (.fltClearFirst t) s = .next u ∧ (u.rd (FLT_FIRST.W 0)).testBit 8 = false ∧ ∀ k : Fin 256, latched u k = latched s k)
    ∧ (∃ u, exec (.fltMorClear t) s = .next u ∧ (∀ k : Fin 256, u.rd (FLT_MORAINE.W k) = 0) ∧ u.rd FLT_MOR_STS.WP = 0 ∧ u.rd FLT_MOR_STS.WRAPS = 0
        ∧ u.flt.queue = s.flt.queue ∧ (∀ k : Fin 8, u.rd (FLT_FIRST.W k) = s.rd (FLT_FIRST.W k)) ∧ ∀ k : Fin 256, latched u k = latched s k)

/-- From R163, R167, R169, R171, R172, R291 and R329. With the ring ready, its data buffer holding the key, the journal opened since reset,
no retired life cycle and the Cave not down: KEY_SET for an active node of a key that unwraps under KTK raises its generation by one modulo
16, starts its counters again, stores the key and requests a reservation, behind one of the same node that is outstanding, that completes
the command; KEY_RATCHET sets its REKEY bit and reopens a closed journal; both answer 9 for a node that is not active, KEY_SET for a fenced
one too (R27, R289: log entry 29). GROUP_KEY_LOAD puts generation CUR + 1 into NEXT, and CUR itself into an empty CUR slot; other
generations answer 7, a key that does not unwrap 10. ARM of SEC_W_GSW_HI sets only while NEXT is valid. PREV ends with its grace. -/
def Obligations.KeysChangeByCommand : Prop :=
  ∀ (ring : Fin 8) (hd : CmdHead) (tag nix key gen asnHi t : Nat) (w : Fin 8) (s : State),
    (s.takes ring → s.gives ring hd 24 → s.rd SYS_LC_STS.LC ≠ 8 → caveDown s = false → s.sec.opened = true →
      (nix < 262144 → nodeActive s nix = true →
        ((s.node nix).fenced = true → ∃ u, exec (.keySet ring hd nix key t) s = .next u ∧ answers s u ring 0x10 hd.tag 9 ∧ u.nodes = s.nodes ∧ u.sec = s.sec)
        ∧ ((s.node nix).fenced = false → keyOpen s 0 key ≠ none → ∃ u, exec (.keySet ring hd nix key t) s = .next u
          ∧ (u.node nix).kgen = ((s.node nix).kgen + 1) % 16 ∧ (u.node nix).txFc = 0x80000000 ∧ (u.node nix).rxFc = 0 ∧ (u.node nix).rxKgen = 0xFF
          ∧ Store.find 0 u.sec.keyTable (s.node nix).keyIx = key ∧ (s.rd SEC_CFG.EN = 1 → rekeyOf u nix = false)
          ∧ ∃ r ∈ if reserving s 1 nix then u.sec.behind else u.sec.waiting, r.cmd = some (ring.val, 0x10, hd.tag) ∧ r.entry.typ = 1 ∧ r.entry.key = nix ∧ r.entry.gen = ((s.node nix).kgen + 1) % 16
              ∧ r.entry.rxReset = true ∧ r.entry.ceil = 0x80000000 + 2 ^ s.rd SEC_RES_CFG.BLOCK_LOG2)
        ∧ (∃ u, exec (.keyRatchet ring tag nix t) s = .next u ∧ (s.rd SEC_CFG.EN = 1 → rekeyOf u nix = true) ∧ answers s u ring 0x11 tag 0 ∧ u.nodes = s.nodes
            ∧ (s.rd SEC_JNL_STS.STATE = 0 → u.rd SEC_JNL_STS.STATE = 2))
        ∧ ((s.node nix).fenced = false → keyOpen s 0 key = none → ∃ u, exec (.keySet ring hd nix key t) s = .next u ∧ answers s u ring 0x10 hd.tag 10 ∧ u.nodes = s.nodes ∧ u.sec = s.sec
            ∧ u.rd KEY_UNWRAP_FAIL = (s.rd KEY_UNWRAP_FAIL + 1) % 2 ^ 32))
      ∧ (nix < 262144 → nodeActive s nix = false →
        (∃ u, exec (.keySet ring hd nix key t) s = .next u ∧ answers s u ring 0x10 hd.tag 9 ∧ u.sec = s.sec)
        ∧ ∃ u, exec (.keyRatchet ring tag nix t) s = .next u ∧ answers s u ring 0x11 tag 9 ∧ u.sec = s.sec)
      ∧ (keyOpen s 0 key ≠ none → ∃ u, exec (.groupKeyLoad ring hd w ((s.rd (SEC_W_GRP.CUR_GEN w) + 1) % 16) key t) s = .next u ∧ answers s u ring 0x12 hd.tag 0
          ∧ Store.find none u.sec.group (w * 3 + 2) = some key ∧ u.rd (SEC_W_GRP.NEXT_GEN w) = (s.rd (SEC_W_GRP.CUR_GEN w) + 1) % 16
          ∧ u.rd (SEC_W_GRP.NEXT_VALID w) = 1 ∧ u.rd (SEC_W_GRP.CUR_GEN w) = s.rd (SEC_W_GRP.CUR_GEN w)
          ∧ Store.find none u.sec.group (w * 3 + 1) = Store.find none s.sec.group (w * 3 + 1))
      ∧ (keyOpen s 0 key ≠ none → Store.find none s.sec.group (w * 3 + 1) = none →
        ∃ u, exec (.groupKeyLoad ring hd w (s.rd (SEC_W_GRP.CUR_GEN w)) key t) s = .next u ∧ answers s u ring 0x12 hd.tag 0
          ∧ Store.find none u.sec.group (w * 3 + 1) = some key ∧ u.rd (SEC_W_GRP.NEXT_VALID w) = s.rd (SEC_W_GRP.NEXT_VALID w))
      ∧ (gen < 16 → gen ≠ s.rd (SEC_W_GRP.CUR_GEN w) → gen ≠ (s.rd (SEC_W_GRP.CUR_GEN w) + 1) % 16 →
        ∃ u, exec (.groupKeyLoad ring hd w gen key t) s = .next u ∧ answers s u ring 0x12 hd.tag 7 ∧ u.sec = s.sec))
    ∧ (∃ u, exec (.groupSwitchArm w asnHi true t) s = .next u ∧ u.rd (SEC_W_GSW_HI.ASN w) = asnHi % 2 ^ 8
        ∧ u.rd (SEC_W_GSW_HI.ARM w) = s.rd (SEC_W_GRP.NEXT_VALID w) ∧ u.rd (SEC_W_GRP.CUR_GEN w) = s.rd (SEC_W_GRP.CUR_GEN w))
    ∧ (s.rd (SEC_W_GRP.PREV_VALID w) = 1 →
      ∃ u, exec (.groupGraceExpiry w t) s = .next u
        ∧ (if Store.find 0 s.sec.prevEnd w ≤ (s.at t).rc then
             u.rd (SEC_W_GRP.PREV_VALID w) = 0 ∧ Store.find none u.sec.group (w * 3) = none ∧ u.rd KEY_GROUP_ZEROED = (s.rd KEY_GROUP_ZEROED + 1) % 2 ^ 32
           else u = s.at t))

/-- From R163 and R173 to R175. While the journal records and no error stops it, JOURNAL_COMMIT_DONE of the oldest reservation r, with room in
the ring: a read-back that matches writes the 32 octets of r's record with the next SEQ and COMMIT into its slot (the slot SEQ takes: log entry
29), and a sole reservation of a node in role SOLO raises its ceiling; a mismatch sets ERR 4, no answer ERR 1, with JNL_ERR and the fault source,
and nothing commits; after either, nothing commits any more. A full ring waits with ERR 5. COPIER_APPLY takes the oldest record and applies a
TX_RES record to the octets of the node's table entry by the rules of R175. -/
def Obligations.JournalCommitsAndCopies : Prop :=
  ∀ (r : Reserve) (x : JnlRec) (l : List JnlRec) (o : Fin 3) (t : Nat) (s : State),
    (s.rd SEC_JNL_STS.STATE = 2 ∨ s.rd SEC_JNL_STS.STATE = 3) →
    ((s.rd SEC_JNL_STS.ERR ≠ 1 ∧ s.rd SEC_JNL_STS.ERR ≠ 4 → s.sec.waiting.find? (fun r => !r.local_) = some r →
      (s.sec.ring.length < 512 * 2 ^ s.rd SEC_JNL_CFG.RING →
        (let rec_ : JnlRec := { r.entry with seq := (s.rd SEC_JNL_SEQ.SEQ + 1) % 2 ^ 32 }
         ∃ u, exec (.journalCommitDone 0 t) s = .next u ∧ u.rd SEC_JNL_SEQ.SEQ = (s.rd SEC_JNL_SEQ.SEQ + 1) % 2 ^ 32
          ∧ u.rd SEC_JNL_RECORDS = (s.rd SEC_JNL_RECORDS + 1) % 2 ^ 32 ∧ u.sec.ring = s.sec.ring ++ [rec_]
          ∧ (r.entry.typ = 1 → jnlOctets u.jdev.mem (ringSlot (jnlRingSize s) rec_.seq) 32 = recOctets rec_ ++ [0xC3])
          ∧ (s.sec.waiting = [r] → s.sec.behind = [] → roleOf s = roleSolo → u.sec.waiting = []
              ∧ (r.entry.typ = 1 → nodeActive s r.entry.key = true → (s.node r.entry.key).fenced = false → (s.node r.entry.key).kgen = r.entry.gen → (u.node r.entry.key).txFcCeil = max (s.node r.entry.key).txFcCeil r.entry.ceil)))
        ∧ (o ≠ 0 → ∃ u, exec (.journalCommitDone o t) s = .next u ∧ u.rd SEC_JNL_STS.ERR = (if o = 1 then 4 else 1) ∧ u.rd SEC_INT_STS.JNL_ERR = 1
            ∧ u.rd SEC_JNL_ERR = (s.rd SEC_JNL_ERR + 1) % 2 ^ 32 ∧ rawSet u 128 = true ∧ u.sec.waiting = s.sec.waiting ∧ u.sec.ring = s.sec.ring
            ∧ (o = 2 → u.jdev = s.jdev)))
      ∧ (512 * 2 ^ s.rd SEC_JNL_CFG.RING ≤ s.sec.ring.length →
        ∃ u, exec (.journalCommitDone o t) s = .next u ∧ u.rd SEC_JNL_STS.ERR = 5 ∧ u.sec.waiting = s.sec.waiting ∧ u.jdev = s.jdev
          ∧ (s.rd SEC_JNL_STS.ERR ≠ 5 → u.rd SEC_INT_STS.JNL_FULL = 1)))
    ∧ (s.rd SEC_JNL_STS.ERR = 1 ∨ s.rd SEC_JNL_STS.ERR = 4 → exec (.journalCommitDone o t) s = .next (s.at t))
    ∧ (s.sec.ring = x :: l →
      ∃ u, exec (.copierApply t) s = .next u ∧ u.sec.ring = l ∧ u.rd SEC_JNL_STS.USED = s.rd SEC_JNL_STS.USED - 1
        ∧ (x.typ = 1 → x.gen < 16 → x.ceil < 2 ^ 32 →
            (let entry (v : State) (k : Nat) : JnlEntry := entryOf v.jdev.mem (tableAt (jnlRingSize s) k)
             let old := entry s x.key
             let fresh : Bool := !old.valid || old.gen != x.gen
             entry u x.key =
               { gen := x.gen, valid := true
                 ceil := (if fresh = true ∨ x.adv = true then x.ceil else max old.ceil x.ceil) / 256 * 256
                 snap := if x.rxReset = true ∨ (fresh = true ∧ x.adv = false) then 0 else old.snap }
             ∧ ∀ k, k ≠ x.key → entry u k = entry s k))))

/-- From R172, R174, R176 and R177. OPEN while CLOSED: no answer ERR 1; no valid header, or other sizes, ERR 3; another domain ERR 2; else
OPENING. Its end gives OPEN with WAS_CLEAN from the header, CLEAN 0 in it, and each Ward its generation and its counter at the ceiling of
the header (no record to replay); an OPEN record that does not read back leaves ERR 4, one without an answer ERR 1. CLOSE while OPEN starts
a pass and leads over CLOSING to CLOSED with CLEAN set; OPEN, CLOSE and FORMAT in other states change nothing but the time. FORMAT writes
fresh headers and empties the ring; its end clears the table, or with a device that wraps leaves ERR 6. SNAP_NOW, and SNAP_PERIOD after its
seconds and not before, start a pass, a late one follows the pass that runs; a pass writes RX_SNAP of every changed active record. -/
def Obligations.JournalOpensAndCloses : Prop :=
  ∀ (b : Bool) (h : JnlHeader) (w : Fin 8) (o : Fin 3) (n t : Nat) (s : State),
    let size : Nat := jnlRingSize s
    let entry (u : State) : JnlEntry := entryOf u.jdev.mem (tableAt size n)
    (s.rd SEC_JNL_STS.STATE = 0 →
      (∃ u, exec (.jnlOpen false t) s = .next u ∧ u.rd SEC_JNL_STS.ERR = 1 ∧ u.rd SEC_JNL_STS.STATE = 0 ∧ u.rd SEC_INT_STS.JNL_ERR = 1)
      ∧ (jnlHeader s = none → ∃ u, exec (.jnlOpen true t) s = .next u ∧ u.rd SEC_JNL_STS.ERR = 3 ∧ u.rd SEC_JNL_STS.STATE = 0)
      ∧ (jnlHeader s = some (b, h) →
        ∃ u, exec (.jnlOpen true t) s = .next u
          ∧ (if h.sizeLog2 ≠ s.rd SEC_JNL_CFG.SIZE_LOG2 ∨ h.ring ≠ s.rd SEC_JNL_CFG.RING then u.rd SEC_JNL_STS.ERR = 3 ∧ u.rd SEC_JNL_STS.STATE = 0
             else if h.domain ≠ s.rd SEC_JNL_CFG.DOMAIN then u.rd SEC_JNL_STS.ERR = 2 ∧ u.rd SEC_JNL_STS.STATE = 0
             else u.rd SEC_JNL_STS.ERR = 0 ∧ u.rd SEC_JNL_STS.STATE = 1))
      ∧ (∃ u, exec (.jnlFormat t) s = .next u ∧ ringRecords u.jdev.mem size = [] ∧ entry u = entry s
          ∧ ∀ x ∈ [hdrOf u.jdev.mem false, hdrOf u.jdev.mem true], x.valid = true ∧ x.clean = true ∧ x.sizeLog2 = s.rd SEC_JNL_CFG.SIZE_LOG2 ∧ x.ring = s.rd SEC_JNL_CFG.RING
              ∧ x.domain = s.rd SEC_JNL_CFG.DOMAIN ∧ x.ggen.getD w 1 = 0 ∧ x.gceil.getD w 0 = 0x80000000))
    ∧ (s.rd SEC_JNL_STS.STATE ≠ 0 → exec (.jnlOpen true t) s = .next (s.at t) ∧ exec (.jnlFormat t) s = .next (s.at t))
    ∧ (s.sec.formatting = true →
      (∃ u, exec (.jnlFormatComplete false t) s = .next u ∧ (n < nixLimit s → entry u = {}) ∧ u.sec.formatting = false ∧ ∀ x, hdrOf u.jdev.mem x = hdrOf s.jdev.mem x)
      ∧ ∃ u, exec (.jnlFormatComplete true t) s = .next u ∧ u.rd SEC_JNL_STS.ERR = 6 ∧ entry u = entry s ∧ hdrOf u.jdev.mem true = hdrOf s.jdev.mem true)
    ∧ (s.rd SEC_JNL_STS.STATE = 1 → ringRecords s.jdev.mem size = [] → jnlHeader s = some (b, h) → h.hseq + 1 < 2 ^ 32 →
      ∃ u, exec (.jnlOpenComplete o t) s = .next u ∧ u.rd SEC_JNL_RECORDS = (s.rd SEC_JNL_RECORDS + if o = 0 then 1 else 0) % 2 ^ 32
        ∧ (o ≠ 0 → u.rd SEC_JNL_STS.ERR = (if o = 1 then 4 else 1) ∧ u.rd SEC_INT_STS.JNL_ERR = 1) ∧ u.rd SEC_JNL_STS.STATE = 2 ∧ u.rd SEC_STS.JNL_OPEN = 1 ∧ u.rd SEC_STS.WAS_CLEAN = ofBool h.clean
        ∧ u.rd SEC_INT_STS.OPEN_DONE = 1 ∧ u.rd (SEC_W_GRP.CUR_GEN w) = h.ggen.getD w 0
        ∧ u.rd (SEC_W_GTX_CEIL.CEIL w) = h.gceil.getD w 0 ∧ u.rd (SEC_W_GTX_FC.FC w) = u.rd (SEC_W_GTX_CEIL.CEIL w)
        ∧ ∃ b' h', jnlHeader u = some (b', h') ∧ h'.clean = false ∧ h'.hseq = h.hseq + 1)
    ∧ (s.rd SEC_JNL_STS.STATE = 2 → ∃ u, exec (.jnlClose t) s = .next u ∧ u.rd SEC_JNL_STS.STATE = 3 ∧ u.sec.passOn = true)
    ∧ (s.rd SEC_JNL_STS.STATE ≠ 2 → exec (.jnlClose t) s = .next (s.at t))
    ∧ (s.rd SEC_JNL_STS.STATE = 3 → s.sec.passOn = false → s.sec.ring = [] → s.sec.waiting = [] → jnlHeader s = some (b, h) → h.hseq + 1 < 2 ^ 32 →
      ∃ u, exec (.jnlCloseComplete t) s = .next u ∧ u.rd SEC_JNL_STS.STATE = 0 ∧ u.rd SEC_STS.JNL_OPEN = 0
        ∧ ∃ b' h', jnlHeader u = some (b', h') ∧ h'.clean = true ∧ h'.hseq = h.hseq + 1)
    ∧ (s.rd SEC_JNL_STS.STATE = 2 →
      (∃ u, exec (.snapNow t) s = .next u ∧ u.sec.passOn = true ∧ u.sec.passDue = s.sec.passOn)
      ∧ (let due := s.sec.snapAt + s.rd SEC_SNAP_CFG.PERIOD_S * 1000000000
         ((s.at t).reached due = false → exec (.snapPeriodExpiry t) s = .next (s.at t))
         ∧ ((s.at t).reached due = true → ∃ u, exec (.snapPeriodExpiry t) s = .next u ∧ u.sec.passOn = true ∧ u.sec.snapAt = (s.at t).rc ∧ (s.sec.passOn = true → u.sec.passDue = true ∧ u.rd SEC_INT_STS.SNAP_LATE = 1))))
    ∧ (s.sec.passOn = true →
      ∃ u, exec (.snapPassComplete t) s = .next u ∧ u.sec.dirty = [] ∧ u.sec.passOn = s.sec.passDue ∧ u.rd SEC_INT_STS.SNAP_DONE = 1
        ∧ entry u = if s.sec.dirty.contains n && nodeActive s n then { entry s with snap := (s.node n).rxFc % 2 ^ 32 } else entry s)

/-- From R172 to R175. The octets of the journal device read back as what was written: a header copy, with MAGIC, VER and CRC right; a TX_RES or
GRP_RES record whose COMMIT octet is written after its 31 others; an entry of the counter table, whose ceiling keeps its bits [31:8]. A record
whose COMMIT is any other octet is no record. -/
def Obligations.JournalOctetsReadBack : Prop :=
  ∀ (m : Memory) (a : Nat) (b : Bool) (h : JnlHeader) (r : JnlRec) (e : JnlEntry) (commit : Fin 256),
    (h.domain < 4096 → h.sizeLog2 < 256 → h.ring < 256 → h.hseq < 2 ^ 32 → h.ggen.length = 8 → (∀ g ∈ h.ggen, g < 16) → h.gceil.length = 8 → (∀ c ∈ h.gceil, c < 2 ^ 32) →
      hdrOf (hdrPut b h m) b = { h with valid := true } ∧ hdrOf (hdrPut b h m) (!b) = hdrOf m (!b))
    ∧ ((r.typ = 1 ∧ r.key < 2 ^ 18) ∨ (r.typ = 2 ∧ r.key < 8) → r.gen < 16 → r.seq < 2 ^ 32 → r.ceil < 2 ^ 32 →
      recOf (jnlPut (a + 0x1F) [commit.val] (jnlPut a (recOctets r) m)) a = if commit = 0xC3 then some r else none)
    ∧ (e.gen < 16 → e.snap < 2 ^ 32 → e.ceil < 2 ^ 32 → entryOf (entryPut a e m) a = { e with ceil := e.ceil / 256 * 256 })

/-- R259. TSU_STEP_CTL.STEP adds TSU_STEP_S seconds and TSU_STEP_NS nanoseconds to TSU time, SET loads it with the value of TSU_SET; each
clears BAD and counts in TSU_STEPS, as does a servo step under R256. While the ASN runs, the servo is in ACQUIRE or LOCKED, or the TSU
island has no reference, both are refused, and so is a write of both: TSU time stays, BAD is set, STEP_REFUSED is raised and
TSU_STEP_REFUSED counts. -/
def Obligations.TimeStepsAreRefusedOrTaken : Prop :=
  ∀ (value : Word) (t : Nat) (s : State),
    let bad (c : Instr) : Prop := ∃ u, exec c s = .next u ∧ u.tsuNs = (s.at t).tsuNs ∧ u.rd TSU_STEP_CTL.BAD = 1 ∧ u.rd TSU_INT_STS.STEP_REFUSED = 1
      ∧ u.rd TSU_STEP_REFUSED = (s.rd TSU_STEP_REFUSED + 1) % 2 ^ 32 ∧ u.rd TSU_STEPS = s.rd TSU_STEPS
    let refused : Prop := s.rd MAC_STS.ASN_RUN = 1 ∨ s.rd TSU_SERVO_STS.STATE = 1 ∨ s.rd TSU_SERVO_STS.STATE = 2 ∨ s.rd TSU_STS.REF = 0
    (¬ refused →
      (∃ u, exec (.tsuStep false t) s = .next u ∧ u.rc = (s.at t).rc ∧ u.tsuOfs = s.tsuOfs + s.rdS TSU_STEP_S.S * 1000000000 + s.rdS TSU_STEP_NS.NS
        ∧ u.rd TSU_STEPS = (s.rd TSU_STEPS + 1) % 2 ^ 32 ∧ u.rd TSU_STEP_CTL.BAD = 0)
      ∧ ∃ u, exec (.tsuSet t) s = .next u ∧ u.rc = (s.at t).rc
        ∧ u.tsuNs = ((s.rd TSU_SET_SL.S + 2 ^ 32 * s.rd TSU_SET_SH.S) * 1000000000 + s.rd TSU_SET_NS.NS) % (2 ^ 48 * 1000000000)
        ∧ u.rd TSU_STEPS = (s.rd TSU_STEPS + 1) % 2 ^ 32 ∧ u.rd TSU_STEP_CTL.BAD = 0)
    ∧ (refused → bad (.tsuStep false t) ∧ bad (.tsuSet t))
    ∧ bad (.tsuStep true t)
    ∧ (s.rd TSU_SERVO_CFG.EN = 1 → s.rd TSU_SERVO_CFG.SRC = 3 → s.rd TSU_SERVO_STS.STATE = 1 → s.rd TSU_SERVO_CFG.STEP_EN = 1 → s.rd MAC_STS.ASN_RUN = 0 →
        (s.rd TSU_SERVO_STEP_THR.NS : Int) < (sgn 32 value.toNat).natAbs →
      ∃ u, exec (.tsuServoExtOfsWrite value t) s = .next u ∧ u.tsuOfs = s.tsuOfs - sgn 32 value.toNat ∧ u.rd TSU_STEPS = (s.rd TSU_STEPS + 1) % 2 ^ 32)

/-- From R254 to R258. TSU_SERVO_EXT_OFS_WRITE for source HOST is one offset sample o. ACQUIRE: beyond STEP_THR and with no step allowed
OFS_BIG sets; the LOCK_N-th sample in a row within LOCK_THR gives LOCKED. LOCKED: beyond PD_STEP_LIMIT, and not what an accepted path step
has left (log entry 29), it is withheld, counted, and not applied, the PD_STEP_N-th in a row gives HOLDOVER with PATH_STEP; a smaller one is
used. HOLDOVER after SYNC_LOSS: a small one gives LOCKED, a larger one is a path step. Enabling gives ACQUIRE, disabling FREE with TSU_FREQ
kept, LOSS_S without a sample HOLDOVER. Commands are taken only in HOLDOVER after PATH_STEP, else CMD_BAD is set and raised; ACCEPT and ASYM
take the mean of the withheld delays. -/
def Obligations.ServoFollowsItsStates : Prop :=
  ∀ (value : Word) (t : Nat) (s : State),
    let o : Int := sgn 32 value.toNat
    let st : Nat := s.rd TSU_SERVO_STS.STATE
    let sample (P : State → Prop) : Prop := ∃ u, exec (.tsuServoExtOfsWrite value t) s = .next u ∧ u.rd TSU_HOST_SAMPLES = (s.rd TSU_HOST_SAMPLES + 1) % 2 ^ 32 ∧ P u
    (s.rd TSU_SERVO_CFG.EN = 1 → s.rd TSU_SERVO_CFG.SRC = 3 →
      (st = 1 → (s.rd TSU_SERVO_STEP_THR.NS : Int) < o.natAbs → s.rd TSU_SERVO_CFG.STEP_EN = 0 ∨ s.rd MAC_STS.ASN_RUN = 1 →
        sample fun u => u.rd TSU_SERVO_STS.STATE = 1 ∧ u.tsuOfs = s.tsuOfs ∧ u.rd TSU_SERVO_STS.OFS_BIG = 1 ∧ u.rd TSU_INT_STS.OFS_BIG = 1)
      ∧ (st = 1 → (o.natAbs : Int) ≤ s.rd TSU_SERVO_STEP_THR.NS → o.natAbs ≤ s.rd TSU_SERVO_LOCK_CFG.LOCK_THR →
        sample fun u => if s.rd TSU_SERVO_LOCK_CFG.LOCK_N ≤ s.tsu.lockRun + 1 then
            u.rd TSU_SERVO_STS.STATE = 2 ∧ u.rd TSU_SERVO_STS.OFS_BIG = 0 ∧ u.rd TSU_INT_STS.LOCKED = 1
          else u.rd TSU_SERVO_STS.STATE = 1 ∧ u.tsu.lockRun = s.tsu.lockRun + 1)
      ∧ (st = 2 → s.rd TSU_SERVO_PD_CFG.PD_STEP_LIMIT < o.natAbs → s.tsu.settle = false →
        sample fun u => u.rd TSU_OFS_WITHHELD = (s.rd TSU_OFS_WITHHELD + 1) % 2 ^ 32 ∧ u.tsu.i = s.tsu.i ∧ u.tsuOfs = s.tsuOfs
          ∧ (if s.rd TSU_SERVO_PD_CFG.PD_STEP_N ≤ s.rd TSU_SERVO_STS.OFS_RUN + 1 then
               u.rd TSU_SERVO_STS.STATE = 3 ∧ u.rd TSU_SERVO_STS.CAUSE = 0 ∧ u.rd TSU_SERVO_STS.STEP_KIND = 0 ∧ u.rd TSU_INT_STS.PATH_STEP = 1
                 ∧ u.rd TSU_PATH_STEPS = (s.rd TSU_PATH_STEPS + 1) % 2 ^ 32
             else u.rd TSU_SERVO_STS.STATE = 2 ∧ u.rd TSU_FREQ.FREQ = s.rd TSU_FREQ.FREQ))
      ∧ (st = 2 → o.natAbs ≤ s.rd TSU_SERVO_PD_CFG.PD_STEP_LIMIT →
        sample fun u => u.rd TSU_SERVO_STS.STATE = 2 ∧ u.rd TSU_SERVO_STS.OFS_RUN = 0 ∧ u.rd TSU_SYNC_USED = (s.rd TSU_SYNC_USED + 1) % 2 ^ 32
          ∧ u.tsu.i = clampI (-((s.rd TSU_SERVO_LIM.FREQ_MAX : Int) * 65536)) ((s.rd TSU_SERVO_LIM.FREQ_MAX : Int) * 65536) (s.tsu.i + s.rd TSU_SERVO_KI.KI * o))
      ∧ (st = 3 → s.rd TSU_SERVO_STS.CAUSE ≠ 0 →
        sample fun u => if o.natAbs ≤ s.rd TSU_SERVO_PD_CFG.PD_STEP_LIMIT then u.rd TSU_SERVO_STS.STATE = 2
          else u.rd TSU_SERVO_STS.STATE = 3 ∧ u.rd TSU_SERVO_STS.CAUSE = 0 ∧ u.rd TSU_INT_STS.PATH_STEP = 1 ∧ u.tsu.i = s.tsu.i))
    ∧ (s.rd TSU_SERVO_CFG.EN = 0 → ∃ u, exec (.servoEnable t) s = .next u ∧ u.rd TSU_SERVO_CFG.EN = 1 ∧ u.rd TSU_SERVO_STS.STATE = 1)
    ∧ (∃ u, exec (.servoDisable t) s = .next u ∧ u.rd TSU_SERVO_CFG.EN = 0 ∧ u.rd TSU_SERVO_STS.STATE = 0 ∧ u.rd TSU_FREQ.FREQ = s.rd TSU_FREQ.FREQ)
    ∧ (st = 2 → s.tsu.last + s.rd TSU_SERVO_HOLD_CFG.LOSS_S * 1000000000 ≤ (s.at t).rc →
      ∃ u, exec (.servoLossTimeout t) s = .next u ∧ u.rd TSU_SERVO_STS.STATE = 3 ∧ u.rd TSU_SERVO_STS.CAUSE = 1 ∧ u.rd TSU_INT_STS.SYNC_LOSS = 1
        ∧ u.rd TSU_HOLDOVERS = (s.rd TSU_HOLDOVERS + 1) % 2 ^ 32)
    ∧ (st ≠ 3 ∨ s.rd TSU_SERVO_STS.CAUSE ≠ 0 → ∀ c ∈ [Instr.servoCmdAccept t, Instr.servoCmdAsym t, Instr.servoCmdRemeasure t],
      ∃ u, exec c s = .next u ∧ u.rd TSU_SERVO_CTL.CMD_BAD = 1 ∧ u.rd TSU_INT_STS.CMD_BAD = 1 ∧ u.rd TSU_SERVO_STS.STATE = st ∧ u.tsu = s.tsu)
    ∧ (st = 3 → s.rd TSU_SERVO_STS.CAUSE = 0 →
      (s.tsu.kept ≠ [] →
        (∃ u, exec (.servoCmdAccept t) s = .next u ∧ u.rd TSU_SERVO_STS.STATE = 2 ∧ u.tsu.mpd = s.tsu.kept.foldl (· + ·) 0 / (s.tsu.kept.length : Int) ∧ u.tsu.asym = s.tsu.asym)
        ∧ ∃ u, exec (.servoCmdAsym t) s = .next u ∧ u.rd TSU_SERVO_STS.STATE = 2 ∧ u.tsu.mpd = s.tsu.kept.foldl (· + ·) 0 / (s.tsu.kept.length : Int)
            ∧ u.tsu.asym = s.rdS TSU_SERVO_ASYM.NS)
      ∧ ∃ u, exec (.servoCmdRemeasure t) s = .next u ∧ u.rd TSU_SERVO_STS.STATE = 3 ∧ u.tsu.kept = [] ∧ u.tsu.remeasure = some 0)

/-- From R260, R264 and R265. GO starts a slew of TSU_SLEW_NS at SLEW_PPB unless the servo is in ACQUIRE or LOCKED, which sets BAD; ABORT
drops it; once its remainder is 0, and not before, it ends and raises SLEW_DONE. ARM of a pulse unit with START 500 ns or more ahead places
its first edge; a late one-shot fires at once without STRICT, and with STRICT is cancelled. An edge counts, and a periodic unit places the
next a PERIOD later. A pulse shorter than the glitch filter changes nothing; one that passes it and is shorter than 20 ns is lost; a capture
of a selected edge enters the FIFO; with the FIFO full it is lost, OVF is set and no entry is overwritten. TSU_CI_NS read pops the oldest.
-/
def Obligations.SlewsPulsesAndCaptures : Prop :=
  ∀ (k : Fin 4) (periodic strict outEn pol fall : Bool) (e : Int) (x : Nat × Nat × Bool) (l : List (Nat × Nat × Bool)) (q : Requester) (held t : Nat) (s : State),
    let fifo (u : State) : List (Nat × Nat × Bool) := (Store.find ({} : Capture) u.tsu.caps k).fifo
    ((if s.rd TSU_SERVO_STS.STATE = 1 ∨ s.rd TSU_SERVO_STS.STATE = 2 then
        ∃ u, exec (.slewGo t) s = .next u ∧ u.rd TSU_SLEW_CTL.BAD = 1 ∧ u.tsu = s.tsu
      else ∃ u, exec (.slewGo t) s = .next u ∧ u.rd TSU_SLEW_CTL.BAD = 0 ∧ u.rd TSU_STS.SLEWING = 1
        ∧ u.tsu.slew = some (s.rdS TSU_SLEW_NS.NS, (s.at t).rc, s.rd TSU_SLEW_CFG.PPB)))
    ∧ (∃ u, exec (.slewAbort t) s = .next u ∧ u.tsu.slew = none ∧ u.rd TSU_STS.SLEWING = 0 ∧ u.tsuOfs = s.tsuOfs)
    ∧ (s.tsu.rcOn = true → slewLeft (s.at t) ≠ 0 → exec (.slewComplete t) s = .next (s.at t))
    ∧ (s.tsu.slew ≠ none → s.tsu.rcOn = false ∨ slewLeft (s.at t) = 0 → ∃ u, exec (.slewComplete t) s = .next u ∧ u.tsu.slew = none ∧ u.rd TSU_STS.SLEWING = 0 ∧ u.rd TSU_INT_STS.SLEW_DONE = 1)
    ∧ (s.rd (TSU_PO_CTL.ARM k) = 0 →
      (((s.at t).tsuNs : Int) + 500 ≤ pulseStart s k →
        ∃ u, exec (.pulseArm k periodic strict outEn pol t) s = .next u ∧ u.rd (TSU_PO_CTL.ARM k) = 1 ∧ u.rd (TSU_PO_CTL.PERIODIC k) = ofBool periodic
          ∧ u.rd (TSU_PO_CTL.OUT_EN k) = ofBool outEn ∧ (pulseOf u k).next = some (pulseStart s k) ∧ u.rd (TSU_PO_COUNT.COUNT k) = s.rd (TSU_PO_COUNT.COUNT k))
      ∧ (pulseStart s k < ((s.at t).tsuNs : Int) + 500 →
        (∃ u, exec (.pulseArm k false false outEn pol t) s = .next u ∧ u.rd (TSU_PO_COUNT.COUNT k) = (s.rd (TSU_PO_COUNT.COUNT k) + 1) % 2 ^ 32
          ∧ u.rd (TSU_PO_STS.LATE k) = 1 ∧ u.rd TSU_INT_STS.PO_LATE = 1 ∧ (pulseOf u k).next = none)
        ∧ (∃ u, exec (.pulseArm k false true outEn pol t) s = .next u ∧ u.rd (TSU_PO_COUNT.COUNT k) = s.rd (TSU_PO_COUNT.COUNT k)
          ∧ u.rd (TSU_PO_STS.LATE k) = 1 ∧ u.rd (TSU_PO_STS.CANCELLED k) = 1 ∧ u.rd TSU_INT_STS.PO_LATE = 1 ∧ u.rd (TSU_PO_CTL.ARM k) = 0)
        ∧ ∃ u, exec (.pulseArm k true true outEn pol t) s = .next u ∧ u.rd (TSU_PO_COUNT.COUNT k) = s.rd (TSU_PO_COUNT.COUNT k)
          ∧ u.rd (TSU_PO_STS.LATE k) = 1 ∧ u.rd (TSU_PO_CTL.ARM k) = 1 ∧ ∃ n, (pulseOf u k).next = some n ∧ (0 < s.rd (TSU_PO_PERIOD.NS k) → ((s.at t).tsuNs : Int) + 500 ≤ n)))
    ∧ (s.rd (TSU_PO_CTL.ARM k) = 1 → (pulseOf s k).endAt = none →
      (∃ u, exec (.pulseStop k t) s = .next u ∧ u.rd (TSU_PO_CTL.ARM k) = 0 ∧ u.rd (TSU_PO_STS.ACTIVE k) = 0 ∧ (pulseOf u k).next = none)
      ∧ ((pulseOf s k).next = some e → e ≤ ((s.at t).tsuNs : Int) + 2 →
        ∃ u, exec (.pulseEdge k t) s = .next u ∧ u.rd (TSU_PO_COUNT.COUNT k) = (s.rd (TSU_PO_COUNT.COUNT k) + 1) % 2 ^ 32
          ∧ (pulseOf u k).next = (if s.rd (TSU_PO_CTL.PERIODIC k) = 1 then some (e + s.rd (TSU_PO_PERIOD.NS k)) else none)
          ∧ (pulseOf u k).endAt = some ((s.at t).rc + s.rd (TSU_PO_WIDTH.NS k))))
    ∧ (held < s.rd (TSU_CI_CTL.FILT k) * 4 → exec (.captureEdge k fall held t) s = .next (s.at t))
    ∧ (s.rd (TSU_CI_CTL.EN k) = 1 → s.rd (TSU_CI_CTL.FILT k) * 4 ≤ held → (s.rd (TSU_CI_CTL.EDGE k) = 0 → fall = false) → (s.rd (TSU_CI_CTL.EDGE k) = 1 → fall = true) →
      (held < 20 → ∃ u, exec (.captureEdge k fall held t) s = .next u ∧ u.rd (TSU_CI_LOST k) = (s.rd (TSU_CI_LOST k) + 1) % 2 ^ 32 ∧ fifo u = fifo s)
      ∧ (20 ≤ held → (∀ r, (Store.find ({} : Capture) s.tsu.caps k).last = some r → r + 100 ≤ (s.at t).rc) →
        ((fifo s).length < 16 → ∃ u, exec (.captureEdge k fall held t) s = .next u ∧ fifo u = fifo s ++ [((s.at t).tsuNs, (s.at t).rc % 2 ^ 32, fall)]
          ∧ u.rd (TSU_CI_EVENTS k) = (s.rd (TSU_CI_EVENTS k) + 1) % 2 ^ 32 ∧ u.rd TSU_INT_STS.CI_DATA = 1)
        ∧ (16 ≤ (fifo s).length → ∃ u, exec (.captureEdge k fall held t) s = .next u ∧ fifo u = fifo s ∧ u.rd (TSU_CI_LOST k) = (s.rd (TSU_CI_LOST k) + 1) % 2 ^ 32
          ∧ u.rd (TSU_CI_STS.OVF k) = 1 ∧ u.rd TSU_INT_STS.CI_OVF = 1)))
    ∧ (fifo s = x :: l →
      ∃ u, exec (.tsuCiNsRead k q) s = .next u ∧ fifo u = l ∧ u.busData q = x.1 % 1000000000 + 2 ^ 30 + ofBool x.2.2 * 2 ^ 31
        ∧ u.rd (TSU_CI_SL.S k) = x.1 / 1000000000 % 2 ^ 32 ∧ u.rd (TSU_CI_RC.RC k) = x.2.1 % 2 ^ 32)

/-- From R251 to R253. A PTP message on a port that is not enabled goes only through the transparent clock, where that forwards it; one of
another domain counts in BAD_DOMAIN and goes only to the host. On a SLAVE port a two-step Sync from the parent waits for its Follow_Up,
which then gives ms = t2 - t1 - c_sync; a Sync from another port counts in FOREIGN. SYNC_INTERVAL of a MASTER, 2^LOG_SYNC s after the last,
and DELAY_REQ_INTERVAL of a SLAVE, three quarters of 2^LOG_DREQ s after the last, put their message with the port's identity at the end of
egress class PTP_CLASS, and not before; the two timeouts, an interval after what they wait for, drop what waits and count. -/
def Obligations.PtpEnginesPlayTheirRole : Prop :=
  ∀ (p : Fin 2) (m : PtpMsg) (t : Nat) (s : State),
    let parent : Bool := m.clock = s.rd (TSU_P_PAR_LO.ID p) + 2 ^ 32 * s.rd (TSU_P_PAR_HI.ID p) && m.port = s.rd (TSU_P_PAR_NUM.PORT p)
    let x : PtpPort := ptpOf s p
    let tc : Bool := s.rd TSU_CFG.TC_EN = 1 && m.forwardable && !isPdelay m.mtype.val && !(isEvent m.mtype.val && m.v6 && !m.trailer)
    let sent (u : State) (k seq : Nat) : Prop := ∃ f : EgrFrame, egrOf u p (s.rd TSU_CFG.PTP_CLASS) = egrOf s p (s.rd TSU_CFG.PTP_CLASS) ++ [f] ∧ f.origin = 3
      ∧ (f.ptp.map (fun m => (m.mtype, m.seq, m.clock, m.port))
          = some (k, seq, s.rd (TSU_P_CLK_LO.ID p) + 2 ^ 32 * s.rd (TSU_P_CLK_HI.ID p), s.rd (TSU_P_NUM.PORT p)))
    (s.rd (TSU_P_CFG.EN p) = 0 → tc = true →
      ∃ u, exec (.ptpMessageReceived p m t) s = .next u ∧ u.rd (TSU_P_TC_FWD p) = (s.rd (TSU_P_TC_FWD p) + 1) % 2 ^ 32 ∧ u.tsu = s.tsu
        ∧ ∃ f : EgrFrame, egrOf u (1 - p.val) (s.rd TSU_CFG.PTP_CLASS) = egrOf s (1 - p.val) (s.rd TSU_CFG.PTP_CLASS) ++ [f] ∧ f.origin = 4 ∧ f.len = m.len)
    ∧ (s.rd (TSU_P_CFG.EN p) = 0 → s.rd TSU_CFG.TC_EN = 0 ∨ m.forwardable = false ∨ isPdelay m.mtype.val = true → exec (.ptpMessageReceived p m t) s = .next (s.at t))
    ∧ (s.rd (TSU_P_CFG.EN p) = 1 → m.domain ≠ s.rd (TSU_P_CFG.DOMAIN p) →
      ∃ u, exec (.ptpMessageReceived p m t) s = .next u ∧ u.rd (TSU_P_BAD_DOMAIN p) = (s.rd (TSU_P_BAD_DOMAIN p) + 1) % 2 ^ 32 ∧ u.tsu = s.tsu ∧ u.qms = s.qms
        ∧ ∃ v : RxItem, v.fmt = 3 ∧ Store.find [] u.hif.bound (s.rd TSU_CFG.PTP_RING) = Store.find [] s.hif.bound (s.rd TSU_CFG.PTP_RING) ++ [v])
    ∧ (s.rd (TSU_P_CFG.EN p) = 1 → m.domain = s.rd (TSU_P_CFG.DOMAIN p) → s.rd (TSU_P_CFG.ROLE p) = 2 → s.rd TSU_STS.REF = 1 → s.rd (CLK_ISL_STS.ON_REF 2) = 1 → m.l2 = true →
      (m.mtype = 0 → parent = false → ∃ u, exec (.ptpMessageReceived p m t) s = .next u ∧ u.rd (TSU_P_FOREIGN p) = (s.rd (TSU_P_FOREIGN p) + 1) % 2 ^ 32 ∧ u.tsu = s.tsu)
      ∧ (m.mtype = 0 → parent = true → m.twoStep = true → ∃ u, exec (.ptpMessageReceived p m t) s = .next u
          ∧ (ptpOf u p).sync = some (m.seq, ((s.at t).tsuNs : Int) - s.rd (TSU_P_ING_LAT.NS p), m.corr) ∧ u.rd (TSU_P_SYNC_RX p) = (s.rd (TSU_P_SYNC_RX p) + 1) % 2 ^ 32)
      ∧ (∀ (t2 c : Int), m.mtype = 8 → parent = true → x.sync = some (m.seq, t2, c) → (s.at t).rc ≤ x.syncRc + syncNs s p → ∃ u, exec (.ptpMessageReceived p m t) s = .next u
          ∧ (ptpOf u p).ms = some (t2 - m.origin - c - m.corr) ∧ (ptpOf u p).sync = none))
    ∧ (s.rd (TSU_P_CFG.EN p) = 1 → s.rd (TSU_P_CFG.ROLE p) = 3 →
      if (s.at t).reached (x.syncAt + syncNs s p) then
        ∃ u, exec (.syncInterval p t) s = .next u ∧ sent u 0 x.syncSeq ∧ (ptpOf u p).syncSeq = (x.syncSeq + 1) % 65536
      else exec (.syncInterval p t) s = .next (s.at t))
    ∧ (s.rd (TSU_P_CFG.EN p) = 1 → s.rd (TSU_P_CFG.ROLE p) = 2 →
      if (s.at t).reached (x.dreqAt + dreqNs s p * 3 / 4) then
        ∃ u, exec (.delayReqInterval p t) s = .next u ∧ sent u 1 x.dreqSeq ∧ (ptpOf u p).dreqs = x.dreqs ++ [{ seq := x.dreqSeq, at_ := (s.at t).rc }]
      else exec (.delayReqInterval p t) s = .next (s.at t))
    ∧ (x.sync ≠ none → (s.at t).reached (x.syncRc + syncNs s p) = true → ∃ u, exec (.followUpTimeout p t) s = .next u ∧ (ptpOf u p).sync = none ∧ u.rd TSU_FUP_MISS = (s.rd TSU_FUP_MISS + 1) % 2 ^ 32)
    ∧ (∀ d l, x.dreqs = d :: l → (s.at t).reached (d.at_ + dreqNs s p) = true → ∃ u, exec (.delayRespTimeout p t) s = .next u ∧ (ptpOf u p).dreqs = l ∧ u.rd TSU_DRESP_TIMEOUT = (s.rd TSU_DRESP_TIMEOUT + 1) % 2 ^ 32)

/-- From R236 to R240. A port that is busy, without its link, paused, or while a sleep entry is on, starts no frame. Ungated, on a chip that
owns its air, the head of the highest class that holds a frame starts. A frame's end frees the port and counts. ARM of a gate list makes it
pending at its base time, or, when that is less than 2 µs ahead, a whole number of cycles later with GATE_LATE. The switch happens at its
start and not before; an entry edge shows the gates in force. -/
def Obligations.GatesRuleEgress : Prop :=
  ∀ (p : Fin 2) (c : Fin 8) (f : EgrFrame) (l : List EgrFrame) (g : GateList) (en : Bool) (len t : Nat) (s : State),
    ((portOf s p).busy ≠ none ∨ s.rd (ETH_P_STS.LINK p) = 0 ∨ s.rd CEL_PWR_STS.STATE = 2 ∨ (s.at t).rc < (portOf s p).pauseEnd →
      exec (.egressFrameStart p t) s = .next (s.at t))
    ∧ ((portOf s p).busy = none → s.rd (ETH_P_STS.LINK p) = 1 → s.rd CEL_PWR_STS.STATE ≠ 2 → (portOf s p).pauseEnd ≤ (s.at t).rc → s.rd (SHP_GATE_CTL.EN p) = 0 →
        owns s = true → egrOf s p c = f :: l → (∀ d : Fin 8, c < d → egrOf s p d = []) →
      ∃ u, exec (.egressFrameStart p t) s = .next u ∧ (portOf u p).busy = some f ∧ egrOf u p c = l ∧ ∀ d : Fin 8, d ≠ c → egrOf u p d = egrOf s p d)
    ∧ ((portOf s p).busy = some f →
      ∃ u, exec (.egressFrameEnd p t) s = .next u ∧ (portOf u p).busy = none ∧ u.rd (ETH_P_TX_FRAMES p) = (s.rd (ETH_P_TX_FRAMES p) + 1) % 2 ^ 32
        ∧ (∀ i, f.ingress = some i → s.rd TSU_STS.REF = 1 → s.rd (CLK_ISL_STS.ON_REF 2) = 1 → u.rd (TSU_P_RES_LAST.NS p) = (clampI 0 4294967295 ((portOf s p).busyTs - i)).toNat))
    ∧ (let base := (s.rd (SHP_GATE_BASE_SL.S p) + 2 ^ 32 * s.rd (SHP_GATE_BASE_SH.S p)) * 1000000000 + s.rd (SHP_GATE_BASE_NS.NS p)
       0 < s.rd (SHP_GATE_CYCLE.NS p) →
       ∃ u x, exec (.gateListArm p en len t) s = .next u ∧ (portOf u p).pendingList = some x ∧ (portOf u p).running = (portOf s p).running
        ∧ x.cycle = s.rd (SHP_GATE_CYCLE.NS p) ∧ x.len = clampN 1 32 len ∧ u.rd (SHP_GATE_CTL.EN p) = ofBool en ∧ u.rd (SHP_GATE_STS.PENDING p) = 1
        ∧ (if base < (s.at t).tsuNs + 2000 then
             (s.at t).tsuNs + 2000 ≤ x.start ∧ x.start < (s.at t).tsuNs + 2000 + x.cycle ∧ (∃ n, x.start = base + n * x.cycle) ∧ u.rd (SHP_GATE_STS.LATE_BASE p) = 1
               ∧ u.rd SHP_INT_STS.GATE_LATE = 1
           else x.start = base))
    ∧ ((portOf s p).pendingList = some g →
      (g.start ≤ (s.at t).tsuNs →
        ∃ u, exec (.gateListSwitch p t) s = .next u ∧ (portOf u p).running = some g ∧ (portOf u p).pendingList = none ∧ u.rd (SHP_GATE_CTL.ARM p) = 0
          ∧ u.rd (SHP_GATE_SWITCHES p) = (s.rd (SHP_GATE_SWITCHES p) + 1) % 2 ^ 32 ∧ u.rd SHP_INT_STS.GATE_SWITCHED = 1)
      ∧ ((s.at t).tsuNs < g.start → exec (.gateListSwitch p t) s = .next (s.at t)))
    ∧ ((portOf s p).running = some g → s.rd (SHP_GATE_CTL.EN p) = 1 →
      ∃ u, exec (.gateEntryEdge p t) s = .next u ∧ u.rd (SHP_GATE_STS.OPEN p) = (gatesAt g (s.at t).tsuNs).2.1 % 2 ^ 8 ∧ (portOf u p).busy = (portOf s p).busy
        ∧ ∀ d : Fin 8, egrOf u p d = egrOf s p d)

/-- R224. The Ward shaper of (w, c) takes RATE and BURST from SHP_WDS: its bucket gains RATE kb/s up to BURST times 64 octets. The head of
downlink class queue (w, c) is released when the bucket is not in deficit, its whole IPv6 length is then charged (the bucket may fall below
0), and the other class queues of the Ward stay; in deficit it stays and nothing is charged. With RATE 0 it is released and nothing is
charged. -/
def Obligations.WardShaperWorksInDeficit : Prop :=
  ∀ (w c : Fin 8) (p : Packet) (l : List Packet) (t : Nat) (s : State),
    let i : Nat := w * 8 + c
    let b : Bucket := Store.find {} s.qms.shaper i
    let burst : Int := (s.rd (SHP_WDS.BURST i) * 64 * 8 * 1000000 : Nat)
    let fill : Int := if b.fresh then burst else min burst (b.c + (s.rd (SHP_WDS.RATE i) * ((s.at t).rc - b.at_) : Nat))
    downQOf s w c = p :: l → p.released = false → p.bcast = false → s.rd QMS_CFG.EN = 1 → s.rd SHP_CFG.EN = 1 →
      (s.rd (SHP_WDS.RATE i) ≠ 0 → 0 ≤ fill →
        ∃ u, exec (.wardShaperRelease w c t) s = .next u ∧ downQOf u w c = l ∧ (Store.find ({} : Bucket) u.qms.shaper i).c = fill - (p.ipLen * 8 * 1000000 : Nat)
          ∧ (Store.find ({} : Bucket) u.qms.shaper i).at_ = (s.at t).rc ∧ ∀ d : Fin 8, d ≠ c → downQOf u w d = downQOf s w d)
      ∧ (s.rd (SHP_WDS.RATE i) ≠ 0 → fill < 0 →
        ∃ u, exec (.wardShaperRelease w c t) s = .next u ∧ downQOf u w c = p :: l ∧ u.qms.shaper = s.qms.shaper)
      ∧ (s.rd (SHP_WDS.RATE i) = 0 →
        ∃ u, exec (.wardShaperRelease w c t) s = .next u ∧ downQOf u w c = l ∧ u.qms.shaper = s.qms.shaper)

/-- From R222, R226 and R228 to R230. UPLINK_DRAIN takes the head of the Ward's highest class that holds a packet into its receive ring, or
into the gateway's egress class; a ring that has no descriptor stops it. CALENDAR_BUCKET_DUE empties what is due and nothing else. The sweep
visits the next record and refreshes a NEXT_ELIG more than 2^30 µs past. EN of the calendar written 0 empties it and FALLBACK reads 1,
written 1 FALLBACK reads 0. A write of a Ward meter register takes the clamped values and resets the bucket: full, or to zero under RECONF.
-/
def Obligations.MetersCalendarAndDrain : Prop :=
  ∀ (w c : Fin 8) (p : UpPacket) (l : List UpPacket) (i : Fin 64) (desc : Desc) (m : TableMeets) (value t : Nat) (s : State),
    let k := s.rd (FWD_W_UPLINK.RING w)
    let d := descIn s (32 + k) desc
    (s.rd QMS_CFG.EN = 1 → upQOf s w c = p :: l → (∀ d : Fin 8, c < d → upQOf s w d = []) →
      (s.rd (FWD_W_UPLINK.GW w) = 0 → rxFree s k = true → backlogOf s k = [] → slotBad s (32 + k) = false → rxSize d ≠ 0 →
          locBad s (32 + k) (rxAddr d) (min p.len (rxSize d)) = false →
        ∃ u ph, exec (.uplinkDrain w desc m t) s = .next u ∧ upQOf u w c = l ∧ u.rd (QMS_CQ.CURDS (w * 8 + c)) = s.rd (QMS_CQ.CURDS (w * 8 + c)) - p.curds.length
          ∧ Store.find .blank u.hif.slots ((32 + k) * 65536 + Store.find 0 s.hif.next (32 + k))
              = .rx p.words (min p.len (rxSize d)) (rxSize d < p.len) 2 1 15 false (some p.nix) w ph (.packet p.pkt))
      ∧ (s.rd (FWD_W_UPLINK.GW w) = 0 → rxFree s k = false →
        ∃ u, exec (.uplinkDrain w desc m t) s = .next u ∧ u.hif = s.hif ∧ u.qms = s.qms ∧ ∀ f : Fld, u.rd f = s.rd f)
      ∧ (∀ q : Fin 2, s.rd (FWD_W_UPLINK.GW w) = 1 → p.ports = [q.val] → s.rd (SHP_EGR_CNT.FRAMES q) < 65535 →
        ∃ u f, exec (.uplinkDrain w desc m t) s = .next u ∧ upQOf u w c = l ∧ egrOf u q p.cls = egrOf s q p.cls ++ [f] ∧ f.origin = 1))
    ∧ (∃ u, exec (.calendarBucketDue t) s = .next u ∧ u.qms.cal = s.qms.cal.filter (fun d => (s.at t).rc / 1000 < d.base))
    ∧ (let n := s.rd SHP_SWEEP_STS.POS
       let past := ((s.at t).rc / 1000 % 2 ^ 32 + 2 ^ 32 - (s.node n).nextElig % 2 ^ 32) % 2 ^ 32
       ∃ u, exec (.shaperSweep t) s = .next u ∧ u.rd SHP_SWEEP_STS.POS = (n + 1) % 2 ^ 18
        ∧ (if 2 ^ 30 < past ∧ past < 2 ^ 31 ∧ (s.node n).fenced = false then
             (u.node n).nextElig = (s.at t).rc / 1000 % 2 ^ 32 ∧ (u.node n).shpTokens = s.rd (SHP_PROF_BURST.DN (s.node n).burstIx) * 16
           else u.node n = s.node n)
        ∧ ∀ m, m ≠ n → u.node m = s.node m)
    ∧ (∃ u, exec (.calendarDisable t) s = .next u ∧ u.qms.cal = [] ∧ u.rd SHP_CAL_CFG.EN = 0 ∧ u.rd SHP_STS.FALLBACK = 1 ∧ u.rd SHP_CAL_STS.COUNT = 0)
    ∧ (∃ u, exec (.calendarEnable t) s = .next u ∧ u.rd SHP_CAL_CFG.EN = 1 ∧ u.rd SHP_STS.FALLBACK = 0 ∧ u.qms = s.qms)
    ∧ (∃ u, exec (.shpMeterWrite .wpolRate i value t) s = .next u ∧ u.rd (SHP_WPOL_RATE.PIR i) = value / 2 ^ 16 % 2 ^ 16
        ∧ u.rd (SHP_WPOL_RATE.CIR i) = min (value % 2 ^ 16) (value / 2 ^ 16 % 2 ^ 16)
        ∧ (Store.find ({} : Bucket) u.qms.marker i).fresh = (s.rd SHP_CFG.RECONF_UP == 0)
        ∧ (s.rd SHP_CFG.RECONF_UP = 1 → (Store.find ({} : Bucket) u.qms.marker i).c = 0 ∧ (Store.find ({} : Bucket) u.qms.marker i).p = 0
            ∧ (Store.find ({} : Bucket) u.qms.marker i).at_ = (s.at t).rc))

/-- From R27, R197 to R199, R203 to R206 and R217. UPLINK_PIPELINE takes the oldest delivered frame: policed out it goes to the Whey with
POLICE, without curds with NOCURD, with a form that R199 does not support with IPHC_ERR, with hop limit 1 with HOPLIM; a packet for the
gateway of a Ward without meters joins its class queue without its RPI; the first fragment of a datagram opens a context. REASM_TIMEOUT
frees a context that is over and counts its fragments. DOWNLINK_PACKET: a multicast packet goes to the host, one for no Ward counts as
NOROUTE, one from the backhaul with hop limit 1 goes to the Whey, one whose record is poisoned fences it and goes to the Whey, one for a
node with a route and room joins the class queue of its class, over its first hop, with the outer header of R204 where it is routed. -/
def Obligations.PipelinesTakeTheOldest : Prop :=
  ∀ (d : Delivered) (l : List Delivered) (c : UpContent) (g : Frag) (x : Reasm) (e : DownItem) (m : List DownItem) (w : Fin 8) (a n t : Nat) (fr hops : List Nat) (cut : Bool) (word : Fin 16) (k : TableMeets) (s : State),
    let q := upPacket s d.ward c.pkt
    let dst := e.pkt.head.dst
    let still : State := { s.at t with fwd := { s.fwd with meets := {} } }
    let whey (u : State) (k : Nat) : Prop := u.rd (QMS_WHEY k) = (s.rd (QMS_WHEY k) + 1) % 2 ^ 32
    (s.qms.delivered = [] ∨ s.rd FWD_CFG.EN = 0 → exec (.uplinkPipeline c k t) s = .next still)
    ∧ (s.qms.delivered = d :: l → s.rd FWD_CFG.EN = 1 →
      (d.policed = true → ∃ u, exec (.uplinkPipeline c k t) s = .next u ∧ u.qms.delivered = l ∧ whey u 26)
      ∧ (d.policed = false → c.frag = none →
        (poolOk s 1 (curdsOf d.len) = false → ∃ u, exec (.uplinkPipeline c k t) s = .next u ∧ u.qms.delivered = l ∧ whey u 31 ∧ u.rd QMS_INT_STS.NOCURD = 1)
        ∧ (poolOk s 1 (curdsOf d.len) = true →
          (c.forms.all (lowForm s d.ward) = false → ∃ u, exec (.uplinkPipeline c k t) s = .next u ∧ u.qms.delivered = l ∧ whey u 20 ∧ u.rd FWD_IPHC_ERR = (s.rd FWD_IPHC_ERR + 1) % 2 ^ 32)
          ∧ (c.forms.all (lowForm s d.ward) = true → c.inner = [] → s.rd (FWD_W_CFG.SRC_CHECK d.ward) = 0 → (∀ h ∈ q.head.ext, h.kind ≠ 2) → c.pkt.rpl = false →
              isBastis s d.ward q.head.dst = false → isMulticast q.head.dst = false →
              (q.head.hop ≤ 1 → ∃ u, exec (.uplinkPipeline c k t) s = .next u ∧ u.qms.delivered = l ∧ whey u 17)
              ∧ (1 < q.head.hop → wardOfIp s q.head.dst = none → s.rd SHP_CFG.EN = 0 → d.ward < 8 →
                  s.rd (QMS_CQ.CURDS (d.ward * 8 + (dscpClass s q.head.dscp).1)) + curdsOf d.len ≤ s.rd (QMS_W_LIM_UP.CQ_MAX d.ward) →
                ∃ u p, exec (.uplinkPipeline c k t) s = .next u ∧ u.qms.delivered = l
                  ∧ upQOf u d.ward (dscpClass s q.head.dscp).1 = upQOf s d.ward (dscpClass s q.head.dscp).1 ++ [p]
                  ∧ p.len = c.pkt.pkt.len - ((q.head.ext.filter (fun h => h.kind = 1)).map (·.len)).sum ∧ p.frameLen = d.len ∧ p.curds.length = curdsOf d.len ∧ p.nix = d.nix ∧ p.yellow = false))))
      ∧ (d.policed = false → c.frag = some g → poolOk s 2 (curdsOf d.len) = true →
        (s.rd FWD_REASM_CFG.MAX_DGRAM < g.size → ∃ u, exec (.uplinkPipeline c k t) s = .next u ∧ u.qms.delivered = l ∧ whey u 22 ∧ u.qms.reasm = s.qms.reasm)
        ∧ (g.size ≤ s.rd FWD_REASM_CFG.MAX_DGRAM → g.len < g.size → s.qms.reasm = [] → 0 < s.rd FWD_REASM_CFG.PER_NODE →
          ∃ u, exec (.uplinkPipeline c k t) s = .next u ∧ u.qms.delivered = l ∧ u.rd FWD_FRAGS_RX = (s.rd FWD_FRAGS_RX + 1) % 2 ^ 32
            ∧ ∃ cu, cu.length = curdsOf d.len ∧ u.qms.reasm = [{ ward := d.ward, nix := d.nix, size := g.size, tag := g.tag, opened := (s.at t).rc, held := [{ first := g.first, len := g.len, curds := cu, data := g.data }] }])))
    ∧ (s.qms.reasm.find? (fun y => y.opened + s.rd FWD_REASM_CFG.TIMEOUT_S * 1000000000 ≤ (s.at t).rc) = some x →
      ∃ u, exec (.reasmTimeout t) s = .next u ∧ u.qms.reasm = s.qms.reasm.filter (fun y => y != x) ∧ u.rd FWD_REASM_TIMEOUT = (s.rd FWD_REASM_TIMEOUT + 1) % 2 ^ 32
        ∧ u.rd (QMS_WHEY 25) = (s.rd (QMS_WHEY 25) + x.held.length) % 2 ^ 32)
    ∧ (s.fwd.down = [] ∨ s.rd FWD_CFG.EN = 0 → exec (.downlinkPacket none k t) s = .next still)
    ∧ (s.fwd.down = e :: m → s.rd FWD_CFG.EN = 1 → e.bcast = none →
      (dst.pfx / 2 ^ 56 = 0xFF → ∃ u v, exec (.downlinkPacket none k t) s = .next u ∧ u.fwd.down = m
        ∧ Store.find [] u.hif.bound (s.rd HIF_CFG.BH_RING) = Store.find [] s.hif.bound (s.rd HIF_CFG.BH_RING) ++ [v] ∧ v.why = 5 ∧ v.len = e.pkt.len)
      ∧ (dst.pfx / 2 ^ 56 ≠ 0xFF → wardOfIp s dst = none → e.src ≠ 1 →
        ∃ u, exec (.downlinkPacket none k t) s = .next u ∧ u.fwd.down = m ∧ u.rd FWD_NOROUTE = (s.rd FWD_NOROUTE + 1) % 2 ^ 32 ∧ whey u 18)
      ∧ (dst.pfx / 2 ^ 56 ≠ 0xFF → wardOfIp s dst = some w.val →
        (e.src = 1 → e.pkt.head.hop ≤ 1 → ∃ u, exec (.downlinkPacket none k t) s = .next u ∧ u.fwd.down = m ∧ whey u 17)
        ∧ (e.src ≠ 1 → shortIid dst.iid = some a → saxFind s w a = none → s.rd FWD_CFG.MISS_HOST = 0 →
          ∃ u, exec (.downlinkPacket none k t) s = .next u ∧ u.fwd.down = m ∧ u.rd FWD_NOROUTE = (s.rd FWD_NOROUTE + 1) % 2 ^ 32 ∧ whey u 18)
        ∧ (let j := e.cls.getD (dscpClass s e.pkt.head.dscp).1
           let need := fr.foldl (fun a k => a + curdsOf k) 0
           let link := hops.headD n
           let o := (outerHdr w n hops s).1
           let oct := downOctets s w (linkAddr (s.node link)) o e.pkt
           e.src ≠ 1 → shortIid dst.iid = some a → saxFind s w a = some n → nodeActive s n = true →
            (∃ u, exec (.downlinkPacket (some word) k t) s = .next u ∧ u.fwd.down = m ∧ (u.node n).fenced = true ∧ latched u 32 = true ∧ whey u 0)
            ∧ (e.pkt.len ≤ s.rd FWD_CFG.MESH_MTU → (routeTo w n s).1 = some hops →
              fragments (frameLimit s w link) (frameOverhead s w ((s.node link).short = 0xFFFE)) oct.1 oct.2 (pktBody e.pkt) = some (fr, cut) → poolOk s 0 need = true →
              j < 8 → s.rd (QMS_CQ.CURDS (64 + w * 8 + j)) + need ≤ s.rd (QMS_W_LIM_DN.CQ_MAX w) →
              ∃ u p, exec (.downlinkPacket none k t) s = .next u ∧ u.fwd.down = m ∧ downQOf u w j = downQOf s w j ++ [p] ∧ p.dest = n ∧ p.link = link
                ∧ p.ipLen = e.pkt.len ∧ p.frames.length = fr.length ∧ p.bcast = false
                ∧ (match hops with
                   | [] => p.outer = none
                   | h :: r => ∃ x : OuterHdr, p.outer = some x ∧ x.src.iid = iidOf (rootEui s) ∧ x.dst = (routeAddr s w h).1
                       ∧ x.srh = (r ++ [n]).map (fun i => (routeAddr s w i).1) ∧ x.inst = s.rd (FWD_W_CFG.INSTANCE w) ∧ x.rank = s.rd (FWD_W_TAG.ROOT_RANK w)
                       ∧ x.lorh = if s.flag (FWD_W_CFG.LORH w) then some (if (r ++ [n]).all (fun i => (routeAddr s w i).2) then 1 else 3) else none)))))

/-- From R183, R190, R202 and R278. FWT_INSERT refuses a NODE entry (4), a data buffer of less than 16 octets or an operand out of range
(0xF1) and a key that is there (2); with a free way in the key's first bucket the entry stands there, used, and the completion names bucket
and way. FWT_DELETE removes an entry that is no NODE's, and answers 5 where there is none. FWT_READ answers a bucket's words, FWT_WRITE
writes a whole bucket whose VER has not changed (3 otherwise, 6 while a reshard runs) and VER advances by 2. PATH_WRITE sets HOST in the
entry it writes; PATH_READ and SAX_READ answer what stands there. -/
def Obligations.ForwardingCommandsAnswer : Prop :=
  ∀ (ring : Fin 8) (hd : CmdHead) (tag first p ver t : Nat) (w : Fin 8) (a : Fin 65536) (b : Fin 65536) (e e0 e1 e2 e3 : FwtEntry) (pe : PathEntry) (k : TableMeets) (s : State),
    (s.takes ring →
      (s.gives ring hd 16 → (e.kind = .node → ∃ u, exec (.fwtInsert ring hd e k t) s = .next u ∧ answers s u ring 0x20 hd.tag 4 ∧ u.fwd = { s.fwd with meets := {} })
      ∧ (e.kind = .aliased → fwtOperand e = false → ∃ u, exec (.fwtInsert ring hd e k t) s = .next u ∧ answers s u ring 0x20 hd.tag 0xF1 ∧ u.fwd = { s.fwd with meets := {} })
      ∧ (e.kind = .aliased → fwtOperand e = true → fwtFind s e.key 0 e.ward = some p →
          ∃ u, exec (.fwtInsert ring hd e k t) s = .next u ∧ answers s u ring 0x20 hd.tag 2 ∧ u.fwd = { s.fwd with meets := {} })
      ∧ (e.kind = .aliased → fwtOperand e = true → fwtFind s e.key 0 e.ward = none → s.rd FWD_STS.RESHARD = 0 →
          freeWay s (fwtCands (fwtHash (s.rd FWD_HASH_CUR.SEED) e.key 0 e.ward)).1 = some p →
          ∃ u, exec (.fwtInsert ring hd e k t) s = .next u ∧ completes s u ring 0x20 hd.tag 0 (p / 4) (p % 4) 0 []
            ∧ fwtAt u p = { key := e.key, kind := .aliased, ward := e.ward, port := 7, nix := e.nix, hit := true, isStatic := e.isStatic }
            ∧ (∀ q, q ≠ p → fwtAt u q = fwtAt s q) ∧ u.rd FWD_INSERTS = (s.rd FWD_INSERTS + 1) % 2 ^ 32))
      ∧ (fwtFind s e.key 0 w = none → ∃ u, exec (.fwtDelete ring tag e.key .aliased w k t) s = .next u ∧ answers s u ring 0x21 tag 5 ∧ u.fwd = { s.fwd with meets := {} })
      ∧ (fwtFind s e.key 0 w = some p → (fwtAt s p).kind = .aliased → ∃ u, exec (.fwtDelete ring tag e.key .aliased w k t) s = .next u ∧ answers s u ring 0x21 tag 0
          ∧ fwtAt u p = {} ∧ (∀ q, q ≠ p → fwtAt u q = fwtAt s q) ∧ u.rd FWD_STS.ENTRIES = s.rd FWD_STS.ENTRIES - 1)
      ∧ (fwtFind s e.key 0 w = some p → (fwtAt s p).kind = .node → ∃ u, exec (.fwtDelete ring tag e.key .aliased w k t) s = .next u ∧ answers s u ring 0x21 tag 4 ∧ u.fwd = { s.fwd with meets := {} })
      ∧ (s.gives ring hd 64 → (∀ x ∈ [e0, e1, e2, e3], fwtOperand x = true) →
          (s.rd FWD_STS.RESHARD ≠ 0 → ∃ u, exec (.fwtWrite ring hd b ver e0 e1 e2 e3 k t) s = .next u ∧ answers s u ring 0x23 hd.tag 6 ∧ u.fwd = { s.fwd with meets := {} })
          ∧ (s.rd FWD_STS.RESHARD = 0 →
            ((fwtHead s b).ver ≠ ver → ∃ u, exec (.fwtWrite ring hd b ver e0 e1 e2 e3 k t) s = .next u ∧ answers s u ring 0x23 hd.tag 3 ∧ u.fwd = { s.fwd with meets := {} }
              ∧ u.rd FWD_HOST_STALE = (s.rd FWD_HOST_STALE + 1) % 2 ^ 32)
            ∧ ((fwtHead s b).ver = ver → (∀ x ∈ [e0, e1, e2, e3], x.kind ≠ .node) → (∀ i : Fin 4, (fwtAt s (b * 4 + i)).kind ≠ .node) →
                ∃ u, exec (.fwtWrite ring hd b ver e0 e1 e2 e3 k t) s = .next u ∧ answers s u ring 0x23 hd.tag 0 ∧ (fwtHead u b).ver = ((ver + 1) % 2 ^ 14 + 1) % 2 ^ 14
                  ∧ (∀ i : Fin 4, let x := [e0, e1, e2, e3].getD i {}
                      (fwtAt u (b * 4 + i)).kind = x.kind ∧ (x.kind ≠ .free → fwtAt u (b * 4 + i) = { x with poisoned := (fwtAt u (b * 4 + i)).poisoned }))
                  ∧ ∀ q, (∀ i : Fin 4, q ≠ b.val * 4 + i.val) → fwtAt u q = fwtAt s q)))
      ∧ (s.gives ring hd 64 → pe.hops ≠ [] → pe.hops.length ≤ 16 → pe.owner < 262144 → pe.ward < 8 → (∀ h ∈ pe.hops, h < 262144) →
          ∃ u, exec (.pathWrite ring hd a pe t) s = .next u ∧ answers s u ring 0x24 hd.tag 0 ∧ Store.find {} u.fwd.paths a = { pe with host := true }
            ∧ ∀ j, j ≠ a.val → Store.find {} u.fwd.paths j = Store.find {} s.fwd.paths j)
      ∧ (s.gives ring hd 64 → ∃ u, exec (.pathWrite ring hd 65536 pe t) s = .next u ∧ answers s u ring 0x24 hd.tag 7 ∧ u.fwd = s.fwd)
      ∧ (hd.len < 16 → ∃ u, exec (.fwtInsert ring hd e k t) s = .next u ∧ answers s u ring 0x20 hd.tag 0xF1 ∧ u.fwd = { s.fwd with meets := {} }))
    ∧ (s.ready ring →
      (s.gives ring hd 64 → ∃ u, exec (.fwtRead ring hd b 1 false t) s = .next u ∧ completes s u ring 0x22 hd.tag 0 0 0 0 (bucketWords s b) ∧ u.fwd = s.fwd)
      ∧ (∃ u, exec (.fwtRead ring hd first 0 false t) s = .next u ∧ answers s u ring 0x22 hd.tag 0xF1)
      ∧ (∃ u, exec (.fwtRead ring hd 65536 1 false t) s = .next u ∧ answers s u ring 0x22 hd.tag 7)
      ∧ (s.gives ring hd 64 → ∃ u, exec (.pathRead ring hd a 1 t) s = .next u ∧ completes s u ring 0x25 hd.tag 0 0 0 0 (pathWords (Store.find {} s.fwd.paths a)))
      ∧ (s.gives ring hd 4 → ∃ u, exec (.saxRead ring hd w a 1 t) s = .next u
          ∧ completes s u ring 0x26 hd.tag 0 0 0 0 (match saxFind s w a with | some n => [n + 2 ^ 31] | none => [0])))

/-- From R27 and R191 to R195. A learning request of a station with no entry makes one where a way is free; met at its port it stays; at
another port it becomes a candidate, and with MOVE_HYST frames from there it moves, is counted and raises MOVE. FIRN_BUCKET_VISIT does
nothing while EN is 0, comes back to a locked bucket after 256 visits, ages the entries of a bucket and removes a station not hit for two
sweeps; its next bucket is due a share of SWEEP_S after the last (log entry 29). RESHARD_START needs a fresh seed and no reshard, else BAD
is raised; ABORT reverses it; the walker moves the next entry under the new seed and ends with the new seed in force; a sweep of CLEANUP
that leaves no SHADOW then ends the reshard. A record of which a visit reads a poisoned word is fenced (R27). -/
def Obligations.FirnLearnsAgesAndReshards : Prop :=
  ∀ (q : Learn) (l : List Learn) (b : Fin 65536) (i : Fin 4) (p r t : Nat) (n : Fin 262144) (word : Fin 16) (bad : List Nat) (cor : List (Fin 256)) (k : TableMeets) (s : State),
    let station : FwtEntry := { key := q.key, kind := .station, port := q.port, hit := true }
    (s.fwd.learn = q :: l → q.nix = none →
      (fwtFind s q.key 1 0 = none → s.rd FWD_STS.RESHARD = 0 → freeWay s (fwtCands (fwtHash (s.rd FWD_HASH_CUR.SEED) q.key 1 0)).1 = some p →
        ∃ u, exec (.learnCommit 0 k t) s = .next u ∧ u.fwd.learn = l ∧ fwtAt u p = station ∧ u.rd FWD_LEARN_NEW = (s.rd FWD_LEARN_NEW + 1) % 2 ^ 32)
      ∧ (fwtFind s q.key 1 0 = some p → (fwtAt s p).kind = .station → (fwtAt s p).isStatic = false →
        ((fwtAt s p).port = q.port → (fwtAt s p).moveCand = false → ∃ u, exec (.learnCommit 0 k t) s = .next u ∧ u.fwd.learn = l ∧ fwtAt u p = { fwtAt s p with hit := true })
        ∧ ((fwtAt s p).port ≠ q.port → (fwtAt s p).moveCand = false → 1 < s.rd FWD_LEARN_CFG.MOVE_HYST →
            ∃ u, exec (.learnCommit 0 k t) s = .next u ∧ u.fwd.learn = l
              ∧ fwtAt u p = { fwtAt s p with hit := true, moveCand := true, movePort := q.port, moveCnt := 1 } ∧ u.rd FWD_MOVE_CAND = (s.rd FWD_MOVE_CAND + 1) % 2 ^ 32)
        ∧ ((fwtAt s p).port ≠ q.port → (fwtAt s p).moveCand = true → (fwtAt s p).movePort = q.port → s.rd FWD_LEARN_CFG.MOVE_HYST ≤ min 15 ((fwtAt s p).moveCnt + 1) →
            ∃ u, exec (.learnCommit 0 k t) s = .next u ∧ u.fwd.learn = l ∧ (fwtAt u p).port = q.port ∧ (fwtAt u p).moveCand = false
              ∧ u.rd FWD_MOVES = (s.rd FWD_MOVES + 1) % 2 ^ 32 ∧ u.rd FWD_INT_STS.MOVE = 1)))
    ∧ (s.rd FWD_FIRN_CFG.EN = 0 → exec (.firnBucketVisit false cor bad k t) s = .next { s.at t with fwd := { s.fwd with meets := {} } })
    ∧ (s.rd FWD_FIRN_CFG.EN = 1 → nodeActive s n = true →
      ∃ u, exec (.firnBucketVisit false cor [n * 16 + word] k t) s = .next u ∧ (u.node n).fenced = true ∧ latched u 32 = true)
    ∧ (s.rd FWD_FIRN_CFG.EN = 1 → s.fwd.firnAgain = [] → s.fwd.firnVat = 0 → s.rd FWD_FIRN_STS.POS = b → (s.at t).reached (s.fwd.firnAt + firnGap s) = true →
      (∃ u, exec (.firnBucketVisit true cor [] k t) s = .next u ∧ u.fwd.firnAgain = [(b.val, 256)] ∧ u.rd FWD_FIRN_STS.POS = (b + 1) % 2 ^ 16 ∧ u.fwd.ways = s.fwd.ways)
      ∧ (let e := fwtAt s (b * 4 + i)
         s.rd FWD_STS.RESHARD = 0 → (∀ j : Fin 4, (fwtAt s (b * 4 + j)).poisoned = false) → e.kind = .station → owns s = true →
          ∃ u, exec (.firnBucketVisit false cor [] k t) s = .next u ∧ u.rd FWD_FIRN_STS.POS = (b + 1) % 2 ^ 16
            ∧ fwtAt u (b * 4 + i) = (if e.hit then { e with hit := false, age := 0 }
                else if 1 ≤ e.age ∧ e.isStatic = false then {} else { e with age := min 2 (e.age + 1) })))
    ∧ (s.rd FWD_FIRN_CFG.EN = 1 → s.fwd.firnVat = 4097 →
      ∃ u, exec (.firnSweepEnd k t) s = .next u ∧ u.fwd.firnVat = 0 ∧ (s.rd FWD_STS.RESHARD = 3 → s.fwd.cleanSweep = true →
          s.nodes.all (fun x => !x.2.noFwt) = true → (fwtPlaced s).all (fun x => !(fwtAt s x).shadow) = true → u.rd FWD_STS.RESHARD = 0))
    ∧ (if s.rd FWD_STS.RESHARD ≠ 0 ∨ s.rd FWD_HASH_NEXT.SEED = s.rd FWD_HASH_CUR.SEED then
        ∃ u, exec (.reshardStart t) s = .next u ∧ u.rd FWD_RESHARD.BAD = 1 ∧ u.rd FWD_STS.RESHARD = s.rd FWD_STS.RESHARD ∧ u.fwd = s.fwd
       else ∃ u, exec (.reshardStart t) s = .next u ∧ u.rd FWD_RESHARD.BAD = 0 ∧ u.rd FWD_STS.RESHARD = 1 ∧ u.rd FWD_STS.ABORTING = 0 ∧ u.rd FWD_RESHARD.PROGRESS = 0)
    ∧ (s.rd FWD_STS.RESHARD = 1 ∨ s.rd FWD_STS.RESHARD = 2 → ∃ u, exec (.reshardAbort t) s = .next u ∧ u.rd FWD_STS.RESHARD = 1 ∧ u.rd FWD_STS.ABORTING = 1)
    ∧ (s.rd FWD_STS.RESHARD = 1 →
      (let l := fwtPlaced s
       s.rd FWD_STS.ABORTING = 0 →
        (nextShadow s false (l.filter (fun p => s.fwd.walk ≤ p) ++ l) = none →
          ∃ u, exec (.reshardWalk k t) s = .next u ∧ u.rd FWD_STS.RESHARD = 3 ∧ u.rd FWD_HASH_CUR.SEED = s.rd FWD_HASH_NEXT.SEED ∧ u.rd FWD_INT_STS.RESHARD_DONE = 1)
        ∧ (nextShadow s false (l.filter (fun p => s.fwd.walk ≤ p) ++ l) = some p → (fwtAt s p).kind ≠ .node → (fwtAt s p).poisoned = false →
            freeWay s (fwtCands (fwtHash (s.rd FWD_HASH_NEXT.SEED) (fwtAt s p).key (fwtCls (fwtAt s p).kind) (fwtAt s p).ward)).1 = some r →
          ∃ u, exec (.reshardWalk k t) s = .next u ∧ fwtAt u r = { fwtAt s p with shadow := true } ∧ fwtAt u p = {} ∧ u.rd FWD_RESHARD_MOVED = (s.rd FWD_RESHARD_MOVED + 1) % 2 ^ 32))
      ∧ (let l := (fwtPlaced s).reverse
         s.rd FWD_STS.ABORTING = 1 → nextShadow s true (l.filter (fun p => p < s.fwd.walk) ++ l) = none →
          ∃ u, exec (.reshardWalk k t) s = .next u ∧ u.rd FWD_STS.RESHARD = 0 ∧ u.rd FWD_STS.ABORTING = 0 ∧ u.rd FWD_HASH_CUR.SEED = s.rd FWD_HASH_CUR.SEED))

/-- From R32, R33, R117, R118, R278, R289, R291 to R293, R300 and R329. NODE_ADD of a FREE record with a free short address, a key of its
own that passes its check and the journal's room makes it JOINING, with its address, key and fresh counters; a record in use answers 8, a
short address in use 1, a key in use 4, a key that does not unwrap under KTK 10. NODE_EVICT puts a record into EVICT, and completes, with
the record zeroed and its queue empty, at the release; NODE_QUIET takes a JOINED record to QUIET; each answers 9 in other states. NODE_READ
answers the words of a record. NODE_MODIFY changes the fields its MASK names and no others, and answers 9 for a record in FREE or EVICT, and
where it names the parent or the path of a record that is not STATIC. NODE_WRITE lifts a fence and writes the record but for its state; a
short address that no node may have answers 0xF1, a record that is not fenced 11. EB_SET stores the IEs. -/
def Obligations.NodeCommandsFollowTheRecord : Prop :=
  ∀ (ring k : Fin 8) (hd : CmdHead) (tag mask value t : Nat) (n : Fin 262144) (b : NodeBlock) (d : ModData) (r : Node) (c : Counters) (ies : List (Fin 256)) (m : TableMeets) (s : State),
    (s.takes ring →
      (s.gives ring hd 64 → addOperand n false false b = true → caveDown s = false → n < s.rd SEC_JNL_LIMIT.NIX_LIMIT →
        ((s.node n).state = .free → (s.node n).fenced = false →
          (0 < b.short → b.short < 0xFFFE → s.rd (MAC_WARD_SA.COUNT b.ward) < 65533 → saxFind s b.ward b.short = none →
            (keyUsed s n b.keyIx = false → keyOpen s 0 b.key = none →
              ∃ u, exec (.nodeAdd ring hd n false false b m t) s = .next u ∧ answers s u ring 0x01 hd.tag 10 ∧ u.nodes = s.nodes ∧ u.rd KEY_UNWRAP_FAIL = (s.rd KEY_UNWRAP_FAIL + 1) % 2 ^ 32)
            ∧ (keyUsed s n b.keyIx = false → keyOpen s 0 b.key ≠ none →
              ∃ u, exec (.nodeAdd ring hd n false false b m t) s = .next u ∧ completes s u ring 0x01 hd.tag 0 n b.short b.kgen []
                ∧ (u.node n).state = .joining ∧ (u.node n).eui = b.eui ∧ (u.node n).short = b.short ∧ (u.node n).ward = b.ward ∧ (u.node n).keyIx = b.keyIx ∧ (u.node n).kgen = b.kgen
                ∧ (u.node n).txFc = 0x80000000 ∧ (u.node n).rxFc = 0 ∧ (u.node n).rxKgen = 0xFF ∧ saxFind u b.ward b.short = some n.val ∧ Store.find 0 u.sec.keyTable b.keyIx = b.key)
            ∧ (keyUsed s n b.keyIx = true → ∃ u, exec (.nodeAdd ring hd n false false b m t) s = .next u ∧ answers s u ring 0x01 hd.tag 4 ∧ u.nodes = s.nodes))
          ∧ (0 < b.short → b.short < 0xFFFE → s.rd (MAC_WARD_SA.COUNT b.ward) < 65533 → saxFind s b.ward b.short ≠ none →
              ∃ u, exec (.nodeAdd ring hd n false false b m t) s = .next u ∧ answers s u ring 0x01 hd.tag 1 ∧ u.nodes = s.nodes))
        ∧ ((s.node n).state ≠ .free → ∃ u, exec (.nodeAdd ring hd n false false b m t) s = .next u ∧ answers s u ring 0x01 hd.tag 8 ∧ u.nodes = s.nodes))
      ∧ ((s.node n).state ≠ .evict → ∃ u, exec (.nodeEvict ring tag n t) s = .next u ∧ (u.node n).state = .evict ∧ Store.find none u.src.evictCmd n = some (ring.val, tag))
      ∧ ((s.node n).state = .evict → ∃ u, exec (.nodeEvict ring tag n t) s = .next u ∧ answers s u ring 0x02 tag 9 ∧ u.nodes = s.nodes)
      ∧ ((s.node n).state = .joined → (s.node n).fenced = false → ∃ u, exec (.nodeQuiet ring tag n t) s = .next u ∧ answers s u ring 0x03 tag 0 ∧ u.node n = { s.node n with state := .quiet })
      ∧ ((s.node n).state ≠ .joined → ∃ u, exec (.nodeQuiet ring tag n t) s = .next u ∧ answers s u ring 0x03 tag 9 ∧ u.nodes = s.nodes)
      ∧ (s.gives ring hd (modifyData mask) → (mask.testBit 7 = true → d.parentNix < 262144) → (mask.testBit 8 = true → d.hops ≤ 16 ∧ d.pathIx < 65536 ∧ d.pathGen < 256) →
          if !nodeActive s n || ((mask.testBit 7 || mask.testBit 8) && !(if mask.testBit 0 then value.testBit 0 else (s.node n).isStatic)) then
            ∃ u, exec (.nodeModify ring hd n mask value d t) s = .next u ∧ answers s u ring 0x05 hd.tag 9 ∧ u.nodes = s.nodes
          else ∃ u, exec (.nodeModify ring hd n mask value d t) s = .next u ∧ answers s u ring 0x05 hd.tag 0 ∧ (∀ j, j ≠ n.val → u.node j = s.node j)
            ∧ (u.node n).rateIx = (if mask.testBit 4 then value / 2 ^ 8 % 32 else (s.node n).rateIx)
            ∧ (u.node n).burstIx = (if mask.testBit 5 then value / 2 ^ 16 % 32 else (s.node n).burstIx)
            ∧ (mask.testBit 4 = false → mask.testBit 5 = false → u.node n = { s.node n with
                isStatic := if mask.testBit 0 then value.testBit 0 else (s.node n).isStatic
                pinned := if mask.testBit 1 then value.testBit 1 else (s.node n).pinned
                sleepy := if mask.testBit 2 then value.testBit 2 else (s.node n).sleepy
                oogSeen := if mask.testBit 3 then false else (s.node n).oogSeen
                txAtt := if mask.testBit 6 then 0 else (s.node n).txAtt
                txOk := if mask.testBit 6 then 0 else (s.node n).txOk
                rxOk := if mask.testBit 6 then 0 else (s.node n).rxOk
                rxOog := if mask.testBit 6 then 0 else (s.node n).rxOog
                parentNix := if mask.testBit 7 then d.parentNix else (s.node n).parentNix
                parentRoot := if mask.testBit 7 then d.parentRoot else (s.node n).parentRoot
                hops := if mask.testBit 8 then d.hops else (s.node n).hops
                pathIx := if mask.testBit 8 then d.pathIx else (s.node n).pathIx
                pathGen := if mask.testBit 8 then d.pathGen else (s.node n).pathGen }))
      ∧ (s.gives ring hd 128 → (r.short = 0 ∧ (s.node n).state ≠ .free) ∨ 0xFFFF ≤ r.short → ∃ u, exec (.nodeWrite ring hd n r t) s = .next u ∧ answers s u ring 0x06 hd.tag 0xF1 ∧ u.nodes = s.nodes)
      ∧ (s.gives ring hd 128 → nodeOperand r = true → shortOperand (s.node n).state r.short = true → (s.node n).fenced = false → ∃ u, exec (.nodeWrite ring hd n r t) s = .next u ∧ answers s u ring 0x06 hd.tag 11 ∧ u.nodes = s.nodes)
      ∧ (s.gives ring hd 128 → nodeOperand r = true → shortOperand (s.node n).state r.short = true → (s.node n).fenced = true → saxFind s r.ward r.short = none → keyUsed s n r.keyIx = false → restore s n r.kgen = some c →
          ∃ u, exec (.nodeWrite ring hd n r t) s = .next u ∧ completes s u ring 0x06 hd.tag 0 0 0 c.kgen [] ∧ (u.node n).fenced = false ∧ (u.node n).state = (s.node n).state
            ∧ (u.node n).eui = r.eui ∧ (u.node n).short = r.short ∧ (u.node n).ward = r.ward ∧ (u.node n).keyIx = r.keyIx ∧ (u.node n).kgen = c.kgen ∧ (u.node n).txFc = c.tx
            ∧ (u.node n).rxFc = c.rx ∧ nodeQOf u n = []))
    ∧ (s.ready ring →
      (s.gives ring hd 128 → ∃ u, exec (.nodeRead ring hd n 1 false t) s = .next u ∧ u.nodes = s.nodes
        ∧ completes s u ring 0x04 hd.tag 0 (if (s.node n).fenced then 1 else 0) (if (s.node n).fenced then n.val else 0xFFFFFFFF) 0 (nodeWords (s.node n)))
      ∧ (s.gives ring hd hd.len → hd.len = ies.length → ies.length ≤ 256 → ∃ u, exec (.ebSet ring hd k ies t) s = .next u ∧ answers s u ring 0x40 hd.tag 0 ∧ Store.find [] u.mac.eb k = ies.map (·.val)
        ∧ ∀ j, j ≠ k.val → Store.find [] u.mac.eb j = Store.find [] s.mac.eb j))
    ∧ ((s.node n).state = .evict → evictCleared s n = true →
      ∃ u, exec (.evictReleaseComplete n m t) s = .next u ∧ u.node n = {} ∧ nodeQOf u n = [] ∧ Store.find none u.src.evictCmd n = none
        ∧ (∀ q : Fin 8, Store.find none s.src.evictCmd n = some (q.val, tag) → Store.find false s.hif.orphan q = false → answers s u q 0x02 tag 0))

/-- From R272 to R276, R278 to R282, R284, R285, R287, R288, R290, R291, R297 and R298. A doorbell on an enabled ring takes its index when
at most SIZE - 1 slots are then outstanding, else DB_BAD counts; enabling starts a ring with HEAD, TAIL, errors and slots cleared. A
transmit descriptor of the unknown kind completes with an error, one of no octets as a NOP, one with a packet goes to the downlink; a ring
with nothing outstanding has no turn, and nothing is taken from a ring whose turn it is not. A write at an offset that is no ring's does
nothing. A frame bound for a receive ring takes a descriptor or waits in the backlog. The moderation timer signals an armed ring. A failed
read stops its ring with code 1 and the fault HIF_DMA, and a command whose buffer could not be read completes with 0xF2 (log entry 29); a
Function Level Reset and a return to D0 stop every host ring with code 3 and leave the others. NOP answers 0, an unknown opcode 0xF0.
Unmasking a vector sends its pending message. -/
def Obligations.HostRingsFollowDoorbells : Prop :=
  ∀ (r : Fin 72) (k : Fin 32) (c : Fin 8) (v : Fin 64) (offset addr data tag op t : Nat) (w : Word) (d : Desc) (bad : Option Desc) (p : DownContent) (e : EthMeta) (x : RxItem) (l : List RxItem) (s : State),
    let ring : Fin 76 := r.castLE (by decide)
    let size := 2 ^ s.rd (HIF_R_CFG.SIZE_LOG2 r)
    let off : Nat := if r.val < 32 then r.val * 0x200 else if r.val < 64 then 0x4000 + (r.val - 32) * 0x200 else 0x8000 + (r.val - 64) * 0x200
    let index := w.toNat % 2 ^ 16
    let q := txDescOf (descIn s k d)
    let g := descIn s (32 + k) d
    let f := descIn s (64 + c) d
    (offset % 0x200 ≠ 0 ∨ 0x9800 ≤ offset ∨ s.rd (HIF_R_CFG.EN r) = 0 ∧ offset = off → exec (.doorbellWrite offset w t) s = .next (s.at t))
    ∧ (s.rd (HIF_R_CFG.EN r) = 1 →
      (w.toNat.testBit 31 = false → if index < size ∧ ringOut s r + (index + size - s.rd (HIF_R_IDX.TAIL r) % size) % size ≤ size - 1 then
        ∃ u, exec (.doorbellWrite off w t) s = .next u ∧ u.rd (HIF_R_IDX.TAIL r) = index ∧ u.rd (HIF_R_IDX.HEAD r) = s.rd (HIF_R_IDX.HEAD r)
          ∧ u.rd HIF_DB_BAD = s.rd HIF_DB_BAD
       else ∃ u, exec (.doorbellWrite off w t) s = .next u ∧ u.rd (HIF_R_IDX.TAIL r) = s.rd (HIF_R_IDX.TAIL r) ∧ u.rd HIF_DB_BAD = (s.rd HIF_DB_BAD + 1) % 2 ^ 32
          ∧ u.rd HIF_INT_STS.DB_BAD = 1)
      ∧ ∃ u, exec (.ringDisable ring t) s = .next u ∧ u.rd (HIF_R_CFG.EN r) = 0 ∧ u.rd (HIF_R_STS.RUN r) = (if ringBusy s r && !s.flag (HIF_R_STS.ERR r) then 1 else 0))
    ∧ (s.rd (HIF_R_CFG.EN r) = 0 →
      (s.rd HIF_CFG.STANDALONE = 1 → s.rd (HIF_R_CFG.LOC r) = 0 →
        ∃ u, exec (.ringEnable ring t) s = .next u ∧ u.rd (HIF_R_CFG.EN r) = 0 ∧ u.rd (HIF_R_STS.ERR_CODE r) = 2)
      ∧ (s.rd HIF_CFG.STANDALONE = 0 ∨ s.rd (HIF_R_CFG.LOC r) = 1 →
        ∃ u, exec (.ringEnable ring t) s = .next u ∧ u.rd (HIF_R_CFG.EN r) = 1 ∧ u.rd (HIF_R_IDX.HEAD r) = 0 ∧ u.rd (HIF_R_IDX.TAIL r) = 0 ∧ ringPhase u r = 1
          ∧ u.rd (HIF_R_STS.ERR r) = 0 ∧ u.rd (HIF_R_STS.RUN r) = 1))
    ∧ (txTurn s ≠ some k.val → exec (.txDescriptor k d p e t) s = .next (s.at t))
    ∧ (ringLive s k = false ∨ ringOut s k = 0 → txTurn s ≠ some k.val)
    ∧ (txTurn s = some k.val → slotBad s k = false →
      (min q.len q.bufsize = 0 → takenOf s k = [] → ∃ u ph tm, exec (.txDescriptor k d p e t) s = .next u ∧ u.rd HIF_TX_DESC = (s.rd HIF_TX_DESC + 1) % 2 ^ 32
        ∧ u.rd HIF_NOP = (s.rd HIF_NOP + 1) % 2 ^ 32
        ∧ Store.find .blank u.hif.slots (k * 65536 + Store.find 0 s.hif.next k) = .tx tm 0 0 0 (q.bufsize < q.len) true false false 0 0 q.cookie ph)
      ∧ (q.kind = 3 → min q.len q.bufsize ≠ 0 → takenOf s k = [] → ∃ u ph tm, exec (.txDescriptor k d p e t) s = .next u ∧ u.rd HIF_TX_DESC = (s.rd HIF_TX_DESC + 1) % 2 ^ 32
        ∧ Store.find .blank u.hif.slots (k * 65536 + Store.find 0 s.hif.next k) = .tx tm 0 0 0 (q.bufsize < q.len) true false false 0 1 q.cookie ph)
      ∧ (q.kind = 0 → q.len ≠ 0 → q.bufsize ≠ 0 → locBad s k q.addr (min q.len q.bufsize) = false → ∃ u it, exec (.txDescriptor k d p e t) s = .next u ∧ u.fwd.down = s.fwd.down ++ [it] ∧ it.pkt.head = p.head
        ∧ it.pkt.len = min q.len q.bufsize ∧ it.bcast = none ∧ it.ring = some k.val ∧ u.rd HIF_TX_DESC = (s.rd HIF_TX_DESC + 1) % 2 ^ 32))
    ∧ (Store.find [] s.hif.bound k = x :: l → backlogOf s k = [] →
      (rxFree s k = true → slotBad s (32 + k) = false → rxSize g ≠ 0 → locBad s (32 + k) (rxAddr g) (min x.len (rxSize g)) = false →
        ∃ u ph, exec (.rxFrameDeliver k d t) s = .next u ∧ Store.find [] u.hif.bound k = l
        ∧ Store.find .blank u.hif.slots ((32 + k) * 65536 + Store.find 0 s.hif.next (32 + k))
            = .rx x.words (min x.len (rxSize g)) (rxSize g < x.len) x.fmt x.why x.verdict x.dec x.nix x.ward ph x.buf)
      ∧ (rxFree s k = false → ∃ u, exec (.rxFrameDeliver k d t) s = .next u ∧ Store.find [] u.hif.bound k = l ∧ backlogOf u k = [x]
        ∧ u.rd (HIF_RXR_BACKLOG.COUNT k) = 1))
    ∧ (∀ a, Store.find none s.hif.timer r = some a → s.rd (HIF_R_STS.ARMED r) = 1 → s.rd (HIF_R_CFG.IRQ_EN r) = 1 → a + s.rd (HIF_R_MOD.USECS r) * 1000 ≤ (s.at t).rc →
      ∃ u, exec (.moderationTimer ring t) s = .next u ∧ u.rd (HIF_R_STS.PEND r) = 0 ∧ u.rd (HIF_R_STS.ARMED r) = 0
        ∧ (s.rd (HIF_R_CFG.LOC r) = 0 → Store.find false s.hif.unmasked (s.rd (HIF_R_CFG.VEC r)) = true → u.rd HIF_MSIX_SENT = (s.rd HIF_MSIX_SENT + 1) % 2 ^ 32))
    ∧ (ringLive s r = true → ringOut s r ≠ 0 →
      ∃ u, exec (.dmaReadFail ring none addr t) s = .next u ∧ u.rd (HIF_R_STS.ERR r) = 1 ∧ u.rd (HIF_R_STS.ERR_CODE r) = 1 ∧ u.rd (HIF_R_STS.RUN r) = 0
        ∧ u.rd HIF_DMA_ERR = (s.rd HIF_DMA_ERR + 1) % 2 ^ 32 ∧ u.rd HIF_INT_STS.DMA_ERR = 1 ∧ latched u 160 = true)
    ∧ (s.ready c → cmdInOps.contains (cmdOp f) = true →
      ∃ u, exec (.dmaReadFail (c.natAdd 64 |>.castLE (by decide)) (some d) addr t) s = .next u ∧ answers s u c (cmdOp f) (cmdHeadOf f).tag 0xF2
        ∧ u.rd (HIF_R_STS.ERR (64 + c)) = 1 ∧ u.rd (HIF_R_STS.ERR_CODE (64 + c)) = 1)
    ∧ (ringLive s r = false ∨ ringOut s r = 0 → exec (.dmaReadFail ring bad addr t) s = .next (s.at t))
    ∧ (∀ i ∈ [Instr.functionLevelReset t, Instr.d3hotToD0 t],
      ∃ u, exec i s = .next u ∧ u.rd HIF_FLR = (s.rd HIF_FLR + 1) % 2 ^ 32 ∧ u.hif.unmasked = [] ∧ u.hif.msixPend = [] ∧ u.hif.msix = []
        ∧ (s.rd (HIF_R_CFG.LOC r) = 0 → u.rd (HIF_R_CFG.EN r) = 0 ∧ u.rd (HIF_R_STS.ERR_CODE r) = 3)
        ∧ (s.rd (HIF_R_CFG.LOC r) = 1 → u.rd (HIF_R_CFG.EN r) = s.rd (HIF_R_CFG.EN r) ∧ u.rd (HIF_R_STS.ERR_CODE r) = s.rd (HIF_R_STS.ERR_CODE r)))
    ∧ (s.ready c →
      (∃ u, exec (.nop c tag t) s = .next u ∧ answers s u c 0 tag 0 ∧ u.rd HIF_CMD_DONE = (s.rd HIF_CMD_DONE + 1) % 2 ^ 32)
      ∧ (cmdOps.contains (op % 256) = false → ∃ u, exec (.badop c op tag t) s = .next u ∧ answers s u c (op % 256) tag 0xF0 ∧ u.rd HIF_CMD_FAIL = (s.rd HIF_CMD_FAIL + 1) % 2 ^ 32))
    ∧ ∃ u, exec (.msixVectorUnmask v addr data t) s = .next u ∧ Store.find (0, 0) u.hif.msix v = (addr % 2 ^ 64, data % 2 ^ 32) ∧ Store.find false u.hif.unmasked v = true ∧ Store.find false u.hif.msixPend v = false
        ∧ u.rd HIF_MSIX_SENT = (if Store.find false s.hif.msixPend v then (s.rd HIF_MSIX_SENT + 1) % 2 ^ 32 else s.rd HIF_MSIX_SENT)

/-- From R322, R326, R327, R330, R333, R337 to R344 and R346. With the life cycle, the operands and the Cave as they must be: KEY_GEN
answers COUNT keys or, without the generator, 13, without KEY_HOSTPUB 12, met by a trip 0xF4; KEY_IMPORT names the first bad key; ATTEST
answers the report and a signature, ALIAS_CERT the certificate; TLOG_ACK acknowledges the open entries it names. A debounced mismatch of an
enabled class B sensor in RUN trips: it counts, the keys are wiped, STATE is RESTORE; a class A LOCKSTEP detection ends in DEAD and zeroes
the Cellar secret. A trip in HOLD ends with 0xACED. Derivation and restore end in RUN; the Brine goes on by one when its visit is due; a
failed health test stops the generator, 1,024 passes start it; KEY_HOSTPUB is written before the lock only and drops HTK. -/
def Obligations.CaveCommandsAndTamper : Prop :=
  ∀ (ring w : Fin 8) (hd : CmdHead) (tag count mask code i t : Nat) (nonce us keys : List Nat) (v : Word) (c : Bool) (s : State),
    (s.ready ring → s.gives ring hd hd.len →
      (s.rd SYS_LC_STS.LC = 2 ∨ s.rd SYS_LC_STS.LC = 4 → 1 ≤ count → count ≤ 256 → caveDown s = false →
        (hostpubZero s = true → ∃ u, exec (.keyGen ring hd count false t) s = .next u ∧ answers s u ring 0x60 hd.tag 12)
        ∧ (hostpubZero s = false →
          (s.rd KEY_RNG_STS.OK = 0 → ∃ u, exec (.keyGen ring hd count false t) s = .next u ∧ answers s u ring 0x60 hd.tag 13)
          ∧ (s.rd KEY_RNG_STS.OK = 1 →
            (∃ u data, exec (.keyGen ring hd count false t) s = .next u ∧ completes s u ring 0x60 hd.tag 0 count 0 0 data ∧ data.length = min (hd.len / 4) (12 * count)
              ∧ u.rd KEY_GEN_OPS = (s.rd KEY_GEN_OPS + 1) % 2 ^ 32 ∧ u.rd KEY_STS.HTK_READY = 1)
            ∧ ∃ u, exec (.keyGen ring hd count true t) s = .next u ∧ answers s u ring 0x60 hd.tag 0xF4 ∧ u.rd KEY_ABORTS = (s.rd KEY_ABORTS + 1) % 2 ^ 32)
          ∧ (24 * count ≤ hd.len →
            ((∀ j < count, keyOpen (htkReady s) 1 (keys.getD j 0) ≠ none) →
              ∃ u, exec (.keyImport ring hd count keys false t) s = .next u
                ∧ completes s u ring 0x61 hd.tag 0 0 0 0 ((List.range count).flatMap (fun j => wrapWords (keyClose s 0 ((keyOpen (htkReady s) 1 (keys.getD j 0)).getD [])))))
            ∧ (i < count → keyOpen (htkReady s) 1 (keys.getD i 0) = none → (∀ j < i, keyOpen (htkReady s) 1 (keys.getD j 0) ≠ none) →
                ∃ u, exec (.keyImport ring hd count keys false t) s = .next u ∧ completes s u ring 0x61 hd.tag 10 i 0 0 []
                  ∧ u.rd KEY_UNWRAP_FAIL = (s.rd KEY_UNWRAP_FAIL + 1) % 2 ^ 32))))
      ∧ (s.rd SYS_LC_STS.LC = 2 ∨ s.rd SYS_LC_STS.LC = 4 ∨ s.rd SYS_LC_STS.LC = 8 →
        (320 ≤ hd.len → caveDown s = false → ∃ u sig, exec (.attest ring hd nonce false t) s = .next u
          ∧ completes s u ring 0x62 hd.tag 0 0 0 0 ((reportWords (s.at t) nonce ++ sig).take (hd.len / 4)) ∧ sig.length = 16 ∧ u.rd KEY_ATTESTS = (s.rd KEY_ATTESTS + 1) % 2 ^ 32)
        ∧ ∃ u, exec (.aliasCert ring hd t) s = .next u ∧ completes s u ring 0x63 hd.tag 0 0 0 0 ((certWords s).take (hd.len / 4)))
      ∧ (s.rd SYS_LC_STS.LC = 1 → (∃ u, exec (.aliasCert ring hd t) s = .next u ∧ answers s u ring 0x63 hd.tag 0xF3)
        ∧ ∃ u, exec (.attest ring hd nonce false t) s = .next u ∧ answers s u ring 0x62 hd.tag 0xF3)
      ∧ (s.rd SYS_LC_STS.LC ≠ 0x10 → ∃ u, exec (.tlogAck ring tag mask t) s = .next u
        ∧ ∀ e : Fin 16, u.rd (KEY_TLOG_B.ACK e) = if mask.testBit e && tlogOpen s e then 3 else s.rd (KEY_TLOG_B.ACK e)))
    ∧ (s.cel.off = 0 → s.rd KEY_STS.STATE = 3 → s.rd SYS_LC_STS.LC ≠ 0x10 →
      (rindDue (s.at t) = true → sensorOn s 0 = true → debReached s 0 = true → sensorOpen s 0 = false → (classA s).testBit 0 = false → c = s.flag KEY_RIND_CFG.CASE_POL →
        ∃ u, exec (.rindSample 1 c false t) s = .next u ∧ u.rd KEY_STS.STATE = 4 ∧ u.rd KEY_TAMPER_STS.LATCHED = 1 ∧ u.rd KEY_INT_STS.TAMPER = 1
          ∧ u.rd KEY_WIPES = (s.rd KEY_WIPES + 1) % 2 ^ 32 ∧ u.rd (KEY_RIND_CNT.COUNT 0) = (s.rd (KEY_RIND_CNT.COUNT 0) + 1) % 2 ^ 32 ∧ u.sec.cache = [])
      ∧ (rindDue (s.at t) = true → c = s.flag KEY_RIND_CFG.CASE_POL → ∃ u, exec (.rindSample 0 c false t) s = .next u ∧ u.rd KEY_RIND_STS.RAW = 0 ∧ u.rd KEY_STS.STATE = 3
          ∧ u.rd KEY_TAMPER_STS.LATCHED = s.rd KEY_TAMPER_STS.LATCHED)
      ∧ (rindDue (s.at t) = false → exec (.rindSample mask c true t) s = .next (s.at t))
      ∧ (sensorOpen s 7 = false → (classA s).testBit 7 = true →
        ∃ u, exec (.sensorDetect 7 false t) s = .next u ∧ u.rd KEY_STS.STATE = 5 ∧ u.cel.classA = true ∧ u.cel.secret = (if s.cel.secret = 1 then 2 else s.cel.secret)
          ∧ u.rd KEY_LOCKSTEP_ERR = (s.rd KEY_LOCKSTEP_ERR + 1) % 2 ^ 32 ∧ u.rd KEY_INT_STS.DEAD = 1))
    ∧ (s.cel.off = 0 → s.rd KEY_STS.STATE = 1 → ∃ u, exec (.keyTamperAckWrite 0xACED us) s = .next u ∧ u.rd KEY_TAMPER_STS.LATCHED = 0 ∧ u.rd KEY_TAMPER_STS.UNACK = 0)
    ∧ (code ≠ 0xACED ∨ s.rd KEY_STS.STATE ≠ 1 → exec (.keyTamperAckWrite code us) s = .next s)
    ∧ (s.rd KEY_STS.STATE = 2 → s.rd SYS_BOOT_STS.STAGE = 6 → ∃ u, exec (.deriveComplete us) s = .next u ∧ u.rd KEY_STS.STATE = 3 ∧ u.rd SYS_BOOT_STS.STAGE = 7)
    ∧ (s.rd KEY_STS.STATE = 4 → ∃ u, exec (.caveRestoreComplete t) s = .next u ∧ u.rd KEY_STS.STATE = 3 ∧ u.rd KEY_INT_STS.RESTORED = 1
        ∧ u.rd KEY_RESTORES = (s.rd KEY_RESTORES + 1) % 2 ^ 32)
    ∧ (s.rd KEY_CFG.BRINE_EN = 1 → s.rd KEY_RNG_STS.OK = 1 → s.cave.brineRetry = false → (s.at t).reached (s.cave.brineLast + brineGap s) = true → s.rd KEY_BRINE_STS.POS + 1 < 4128 →
      ∃ u, exec (.brineVisit false t) s = .next u ∧ u.rd KEY_BRINE_STS.POS = s.rd KEY_BRINE_STS.POS + 1)
    ∧ (∃ u, exec (.rngHealthTest false t) s = .next u ∧ u.rd KEY_RNG_STS.OK = 0 ∧ u.rd KEY_RNG_STS.HEALTH_FAIL = 1 ∧ rawSet u 129 = true ∧ u.rd KEY_INT_STS.RNG_FAIL = 1)
    ∧ (s.rd KEY_RNG_STS.HEALTH_FAIL = 1 →
      ∃ u, exec (.rngHealthTest true t) s = .next u
        ∧ (if s.cave.rngPass + 1 < 1024 then u.cave.rngPass = s.cave.rngPass + 1 ∧ u.rd KEY_RNG_STS.HEALTH_FAIL = 1
           else u.rd KEY_RNG_STS.OK = 1 ∧ u.rd KEY_RNG_STS.HEALTH_FAIL = 0 ∧ rawSet u 129 = false))
    ∧ (if s.rd SYS_CFG_LOCK.LOCK = 1 then exec (.keyHostpubWrite w v t) s = .next (s.at t)
       else ∃ u, exec (.keyHostpubWrite w v t) s = .next u ∧ u.rd (KEY_HOSTPUB.K w) = v.toNat ∧ u.rd KEY_STS.HTK_READY = 0)

/-- From R12, R348 to R351 and R411. Each reset of the core, when its condition holds, names its cause in LAST and HIST, empties the records
and the policy cores' memories and starts RC at 0; the journal device and the waiting commands stay. SYS_CFG_LOCK clears with the power-on,
power-failure and wake resets and stays with the warm, fault and JTAG resets. A warm reset with a wrong key does nothing. The PCIe
fundamental reset takes the link down and stops the host's rings, and is no Function Level Reset. -/
def Obligations.ResetsClearAndKeep : Prop :=
  ∀ (strap bits key t : Nat) (warm : Bool) (us : List Nat) (r : Fin 76) (s : State),
    let resets (c : Instr) (k : Nat) (lock : Nat) : Prop :=
      ∃ u, exec c s = .next u ∧ powered u = true ∧ u.rd SYS_RST_CAUSE.LAST = k ∧ (u.rd SYS_RST_CAUSE.HIST).testBit k = true ∧ u.rd SYS_CFG_LOCK.LOCK = lock
        ∧ u.nodes = [] ∧ u.pcr.mem = [] ∧ u.pcr.sram = [] ∧ u.rc = 0 ∧ u.jdev = s.jdev ∧ u.pending = s.pending
    (s.cel.fresh = true → s.cel.off ≠ 4 → resets (.powerOnReset strap bits us) 0 0)
    ∧ (s.cel.fresh = false → s.cel.off = 3 → resets (.powerFailReset strap bits us) 1 0)
    ∧ (s.cel.off = 1 ∨ s.cel.off = 2 → s.cel.waking = true → resets (.wakeReset strap bits us) 4 0)
    ∧ (powered s = true → s.boot.scanHeld = false → resets (.warmReset 0x5253 true bits us) 2 (s.rd SYS_CFG_LOCK.LOCK))
    ∧ (powered s = true → s.flt.resetPend = true → resets (.faultReset bits us) 3 (s.rd SYS_CFG_LOCK.LOCK))
    ∧ (powered s = true → s.rd SYS_LC_STS.LC ≠ 4 → resets (.jtagReset bits us) 5 (s.rd SYS_CFG_LOCK.LOCK))
    ∧ (key ≠ 0x5253 ∨ warm = false → exec (.warmReset key warm bits us) s = .next s)
    ∧ ∃ u, exec (.pcieFundamentalReset t) s = .next u ∧ u.rd HIF_STS.LINK_UP = 0 ∧ u.rd HIF_STS.BME = 0 ∧ u.rd HIF_FLR = s.rd HIF_FLR ∧ u.nodes = s.nodes
        ∧ (s.rd (HIF_R_CFG.LOC r) = 0 → u.rd (HIF_R_CFG.EN r) = 0)

/-- From R353 to R369 and R375. In stages 3 to 5 the end of SRAM initialisation, of the reference check and of the last image each lead to
the first of the three that is not done, or to stage 6. An image that passes is measured, one that fails shows its code, a slot with no
directory 9. Stage 7 ends in 8 with BOOT_DONE. GO and Bus Master Enable together start a host boot. SVN programming needs a target above
KEY_SVN and at most MAX; a life-cycle request needs its key, an edge of R366 and, where it says so, a token; a fuse group is programmed
once, in PROVISION. UCODE_LOAD answers 7 for a busy target, the code of a failed check, or 0 with the image in the inactive bank of its lane
or of Serac, or in the SRAM of its policy core. -/
def Obligations.BootLoadsAndPrograms : Prop :=
  ∀ (ring : Fin 8) (lane : Fin 4) (g : Fin 4) (slot : Fin 3) (ix : Fin 8) (hd : CmdHead) (seqA seqB : Option Nat) (k : Fin 16) (len dur present lockUs target t : Nat) (dev : List Int) (img : Image) (on msix val good jtag : Bool) (us : List Nat) (s : State),
    let stage (u : State) : Nat := u.rd SYS_BOOT_STS.STAGE
    let dirs := s.boot.dirs.getD (seqA, seqB)
    let bare : Prop := (slot = 0 ∧ dirs.1 = none) ∨ (slot = 1 ∧ dirs.2 = none)
    (3 ≤ stage s → stage s ≤ 5 → s.rd SYS_SRAM_STS.DONE = 0 →
      ∃ u, exec (.sramInitComplete dur us) s = .next u ∧ u.rd SYS_SRAM_STS.DONE = 1 ∧ u.rd SYS_SRAM_STS.US = min dur 65535
        ∧ stage u = if s.boot.clockDone = false then 4 else if s.boot.loaded = false then 5 else 6)
    ∧ (3 ≤ stage s → stage s ≤ 5 → s.boot.clockDone = false →
      ∃ u, exec (.clockCheckComplete present dev lockUs us) s = .next u ∧ u.boot.clockDone = true
        ∧ stage u = if s.rd SYS_SRAM_STS.DONE = 0 then 3 else if s.boot.loaded = false then 5 else 6)
    ∧ (slotOpen s dirs slot = true → s.boot.slot = some slot.val →
      (bare → ∃ u, exec (.imageCheckComplete slot ix false 0 seqA seqB img us) s = .next u ∧ u.rd SYS_BOOT_STS.ERR = 9 ∧ u.boot.failed = s.boot.failed ++ [slot.val])
      ∧ (¬bare → storeReady s img = true → imageWhy s (img.kind = 0x10 || img.kind = 0x11 || img.kind = 0x12 || img.kind = 0x13) img = 0 →
        ∃ u, exec (.imageCheckComplete slot ix false 0 seqA seqB img us) s = .next u ∧ u.rd (SYS_IMG_STS.RESULT ix) = 0 ∧ u.rd (SYS_IMG_STS.MEASURED ix) = 1
          ∧ u.rd (SYS_IMG_STS.KIND ix) = img.kind % 2 ^ 8 ∧ u.boot.imgs.length = s.boot.imgs.length + 1)
      ∧ (¬bare → storeReady s img = true → img.magic ≠ 0x4E4B424F →
        ∃ u, exec (.imageCheckComplete slot ix false 0 seqA seqB img us) s = .next u ∧ u.rd (SYS_IMG_STS.RESULT ix) = 5 ∧ u.rd (SYS_IMG_STS.MEASURED ix) = 0
          ∧ u.rd SYS_BOOT_STS.ERR = 5 ∧ u.boot.imgs = [] ∧ u.boot.failed = s.boot.failed ++ [slot.val]))
    ∧ (stage s = 7 → s.boot.imgs = [] → s.boot.mode = none →
      ∃ u, exec (.bootRelease us t) s = .next u ∧ stage u = 8 ∧ u.rd SYS_MODE_STS.CUR = 1 ∧ u.rd SYS_INT_STS.BOOT_DONE = 1 ∧ u.flt.doneAt = (s.at t).rc)
    ∧ (stage s = 10 →
      (s.rd HIF_STS.BME = 0 → ∃ u, exec (.sysPcieBootGo us) s = .next u ∧ u.boot.go = true ∧ stage u = 10)
      ∧ (s.rd HIF_STS.BME = 1 → ∃ u, exec (.sysPcieBootGo us) s = .next u ∧ u.boot.reading = true ∧ u.boot.go = false ∧ 3 ≤ stage u ∧ stage u ≤ 6)
      ∧ (s.boot.go = true → ∃ u, exec (.pcieBusMasterEnable true msix us t) s = .next u ∧ u.rd HIF_STS.BME = 1 ∧ u.boot.reading = true))
    ∧ (s.boot.go = false → ∃ u, exec (.pcieBusMasterEnable on msix us t) s = .next u ∧ u.rd HIF_STS.BME = ofBool on ∧ u.rd HIF_STS.MSIX_EN = ofBool msix ∧ stage u = stage s)
    ∧ (s.rd SYS_SVN_CTL.BUSY = 0 → s.rd SYS_LC_STS.LC = 2 ∨ s.rd SYS_LC_STS.LC = 4 →
      ∃ u, exec (.svnProgram target true t) s = .next u ∧ u.rd SYS_SVN_CTL.TARGET = min target 64
        ∧ (if s.rd KEY_SVN.SVN < min target 64 ∧ min target 64 ≤ s.rd SYS_SVN_CTL.MAX then u.rd SYS_SVN_CTL.BUSY = 1 ∧ u.rd SYS_SVN_CTL.BAD = 0
           else u.rd SYS_SVN_CTL.BUSY = 0 ∧ u.rd SYS_SVN_CTL.BAD = 1))
    ∧ (s.rd SYS_SVN_CTL.BUSY = 1 → ∃ u, exec (.svnProgramDone t) s = .next u ∧ u.fuse.svn = max s.fuse.svn (s.rd SYS_SVN_CTL.TARGET) ∧ u.rd SYS_SVN_CTL.BUSY = 0
        ∧ u.rd SYS_INT_STS.SVN_DONE = 1)
    ∧ (∃ u, exec (.lcRequest jtag 0x4C44 target t) s = .next u ∧ u = s.at t)
    ∧ (s.rd SYS_LC_STS.LC = 4 →
      (∃ u, exec (.lcRequest jtag 0x4C43 2 t) s = .next u ∧ u.rd SYS_LC_STS.RESULT = 3 ∧ u.rd SYS_LC_STS.PEND = s.rd SYS_LC_STS.PEND)
      ∧ (tokenOk s 8 = false → ∃ u, exec (.lcRequest jtag 0x4C43 8 t) s = .next u ∧ u.rd SYS_LC_STS.RESULT = 2 ∧ u.rd SYS_LC_STS.PEND = s.rd SYS_LC_STS.PEND)
      ∧ (tokenOk s 8 = true → ∃ u, exec (.lcRequest jtag 0x4C43 8 t) s = .next u ∧ u.rd SYS_LC_STS.RESULT = 1 ∧ u.rd SYS_LC_STS.PEND = 8 ∧ u.rd SYS_INT_STS.LC_PEND = 1 ∧ u.rd SYS_LC_STS.LC = 4))
    ∧ (s.rd SYS_FUSE_STS.BUSY = 0 →
      ∃ u, exec (.fuseProgram g val true t) s = .next u ∧ u.rd SYS_FUSE_CTL.TARGET = g ∧ u.rd SYS_FUSE_CTL.VAL = ofBool val ∧ u.fuse = s.fuse
        ∧ u.rd SYS_FUSE_STS.BUSY = if g ≠ 0 ∧ s.rd SYS_LC_STS.LC = 2 ∧ (s.rd SYS_FUSE_STS.DONE).testBit (g.val - 1) = false then 1 else 0)
    ∧ (s.rd SYS_FUSE_STS.BUSY = 1 → s.rd SYS_FUSE_CTL.TARGET = 3 →
      ∃ u, exec (.fuseProgramDone good t) s = .next u ∧ u.rd SYS_FUSE_STS.BUSY = 0 ∧ u.rd SYS_FUSE_STS.ERR = ofBool (!good) ∧ u.rd SYS_INT_STS.FUSE_DONE = 1
        ∧ u.fuse.bscan = (if good then s.flag SYS_FUSE_CTL.VAL else s.fuse.bscan) ∧ (good = true → (u.rd SYS_FUSE_STS.DONE).testBit 2 = true))
    ∧ (s.ready ring → s.rd SYS_LC_STS.LC ≠ 0x10 → 192 ≤ len → len ≤ 262336 → hd.len = 0 → locBad s (64 + ring) hd.addr len = false →
      (s.rd (MAC_LS_SWAP.ARM lane) = 1 → ∃ u, exec (.ucodeLoad ring hd lane len img false dur t) s = .next u ∧ answers s u ring 0x41 hd.tag 7 ∧ u.lanes = s.lanes)
      ∧ (k.val ≤ 4 ∨ 8 ≤ k.val → ucBusy s k false = false →
        (imageWhy s (ucKind k img) img = 0 → ∃ u, exec (.ucodeLoad ring hd k len img false dur t) s = .next u ∧ completes s u ring 0x41 hd.tag 0 img.ver img.svn 0 []
          ∧ (k.val < 4 → u.rd (MAC_LS_VER.INACTIVE k) = img.ver % 2 ^ 16 ∧ u.rd (MAC_LS_VER.ACTIVE k) = s.rd (MAC_LS_VER.ACTIVE k))
          ∧ (k = 4 → u.rd SRC_UC_VER.INACTIVE = img.ver % 2 ^ 16 ∧ u.rd SRC_UC_VER.ACTIVE = s.rd SRC_UC_VER.ACTIVE)
          ∧ u.rd SYS_INT_STS.UC_LOADED = 1
          ∧ u.rd SYS_UCODE_LOADS = (s.rd SYS_UCODE_LOADS + 1) % 2 ^ 32)
        ∧ (img.magic ≠ 0x4E4B424F → ∃ u, exec (.ucodeLoad ring hd k len img false dur t) s = .next u ∧ answers s u ring 0x41 hd.tag 5 ∧ u.rd SYS_INT_STS.UC_REJECT = 1
          ∧ u.rd SYS_UCODE_REJECTS = (s.rd SYS_UCODE_REJECTS + 1) % 2 ^ 32 ∧ (k.val < 4 → (laneOf u k).ucBad = true))))

/-- From R304, R306, R307, R312, R314 and R315. With UPD_CFG.EN set and the ring ready: CAMP_START whose checks pass enters PREPARE with the
registers of the campaign; a busy slot answers 1 and a field out of range 0xF1. The end of PREPARE answers the command: 2, 0xF2 or 3 back to
IDLE, else 0 in RUN, round 1. PAUSE, RESUME, STOP and RELEASE move the slot from the state they need and answer 7 in another one. ENROL
gives every listed record the IMG_ID, or answers 9 and changes none; LEAVE clears it, or answers 9 and changes none where a listed record
that has it is fenced (R27: log entry 29). With EN clear each answers 0xF3. When the turn of the Press is the slot's, it adds the symbols of
the next block from its next ESI on, with their octets; without curds it counts and waits, and its slot and block show; a failed read ends
the campaign. A signature never verifies under a key of all zeros. -/
def Obligations.CampaignsFollowTheirStates : Prop :=
  ∀ (ring : Fin 8) (c : Fin 4) (hd : CmdHead) (us t : Nat) (b : CampBlock) (nodes : List Nat) (image : Option (List (Fin 256))) (s : State),
    let st (u : State) : Nat := u.rd (UPD_C_STS.STATE c)
    let cmds : List (Nat × Instr) := [(0x50, .campStart ring hd c b t), (0x51, .campPause ring hd.tag c t), (0x52, .campResume ring hd.tag c t), (0x53, .campStop ring hd.tag c t),
      (0x54, .campRelease ring hd.tag c t), (0x55, .campEnrol ring hd c nodes.length nodes t), (0x56, .campLeave ring hd c nodes.length nodes t)]
    (s.takes ring →
      (s.rd UPD_CFG.EN = 0 → ∀ p ∈ cmds, ∃ u, exec p.2 s = .next u ∧ answers s u ring p.1 hd.tag 0xF3 ∧ u.camps = s.camps ∧ u.nodes = s.nodes)
      ∧ (s.rd UPD_CFG.EN = 1 →
        (s.gives ring hd 224 → hd.len = 224 → campChecks s c b = 0 → ∃ u, exec (.campStart ring hd c b t) s = .next u ∧ st u = 1 ∧ u.rd (UPD_C_STS.WARD c) = b.ward ∧ u.rd (UPD_C_STS.IMG_ID c) = b.imgId
          ∧ u.rd (UPD_C_OTI_LO.F c) = 160 + b.len ∧ u.rd (UPD_C_OTI_HI.T c) = b.t ∧ u.rd (UPD_C_ROUND.ROUND c) = 0 ∧ u.rd (UPD_C_ROUND.ROUNDS c) = b.rounds
          ∧ (u.rd UPD_STS.ACTIVE).testBit c = true ∧ (campOf u c).cmd = some (ring.val, 0x50, hd.tag) ∧ (campOf u c).ready = [])
        ∧ (s.gives ring hd 224 → hd.len = 224 → st s ≠ 0 → ∃ u, exec (.campStart ring hd c b t) s = .next u ∧ answers s u ring 0x50 hd.tag 1 ∧ u.camps = s.camps ∧ st u = st s)
        ∧ (hd.len ≠ 224 → ∃ u, exec (.campStart ring hd c b t) s = .next u ∧ answers s u ring 0x50 hd.tag 0xF1 ∧ u.camps = s.camps ∧ st u = st s)
        ∧ (s.gives ring hd 224 → hd.len = 224 → st s = 0 → s.rd (MAC_WARD_PAN.EN b.ward) = 1 → campOfWard s b.ward = none → campOfImg s b.imgId = none → blockOk s b = false →
            ∃ u, exec (.campStart ring hd c b t) s = .next u ∧ answers s u ring 0x50 hd.tag 0xF1 ∧ u.camps = s.camps ∧ st u = 0)
        ∧ (∃ u, exec (.campPause ring hd.tag c t) s = .next u ∧ u.camps = s.camps
            ∧ (if st s = 2 then st u = 3 ∧ answers s u ring 0x51 hd.tag 0 else st u = st s ∧ answers s u ring 0x51 hd.tag 7))
        ∧ (∃ u, exec (.campResume ring hd.tag c t) s = .next u
            ∧ (if st s = 3 then answers s u ring 0x52 hd.tag 0 ∧ (campOf u c).cells = 0 ∧ (campOf u c).ready = (campOf s c).ready
                 ∧ ((∃ y ∈ (campOf s c).ready, y.round = s.rd (UPD_C_ROUND.ROUND c)) → st u = 2)
               else u.camps = s.camps ∧ st u = st s ∧ answers s u ring 0x52 hd.tag 7))
        ∧ (∃ u, exec (.campStop ring hd.tag c t) s = .next u
            ∧ (if st s = 2 ∨ st s = 3 then st u = 4 ∧ u.rd (UPD_C_STS.END_WHY c) = 4 ∧ u.rd UPD_INT_STS.CAMP_END = 1 ∧ (campOf u c).stopDue = true ∧ answers s u ring 0x53 hd.tag 0
               else u.camps = s.camps ∧ st u = st s ∧ answers s u ring 0x53 hd.tag 7))
        ∧ (∃ u, exec (.campRelease ring hd.tag c t) s = .next u
            ∧ (if st s = 4 then st u = 0 ∧ campOf u c = {} ∧ u.rd (UPD_C_NODES.ACTIVE c) = 0 ∧ answers s u ring 0x54 hd.tag 0
                 ∧ (∀ n, s.rd (UPD_C_STS.IMG_ID c) ≠ 0 → (s.node n).imgId = s.rd (UPD_C_STS.IMG_ID c) → (s.node n).fenced = false → (u.node n).imgId = 0 ∧ (u.node n).updActive = false)
               else u.camps = s.camps ∧ u.nodes = s.nodes ∧ st u = st s ∧ answers s u ring 0x54 hd.tag 7))
        ∧ (s.gives ring hd (4 * nodes.length) → nodes ≠ [] → nodes.length ≤ 1024 → (∀ n ∈ nodes, n < 262144) →
          (∃ u, exec (.campEnrol ring hd c nodes.length nodes t) s = .next u
            ∧ (if st s = 0 ∨ st s = 4 then u.nodes = s.nodes ∧ answers s u ring 0x55 hd.tag 7
               else if ∃ n ∈ nodes, enrolOk s (s.rd (UPD_C_STS.WARD c)) (s.rd (UPD_C_STS.IMG_ID c)) n = false then u.nodes = s.nodes ∧ answers s u ring 0x55 hd.tag 9
               else answers s u ring 0x55 hd.tag 0 ∧ (∀ n ∈ nodes, (u.node n).imgId = s.rd (UPD_C_STS.IMG_ID c) ∧ (u.node n).updActive = true ∧ (u.node n).symCnt = 0)
                 ∧ ∀ n, n ∉ nodes → u.node n = s.node n))
          ∧ ∃ u, exec (.campLeave ring hd c nodes.length nodes t) s = .next u
            ∧ (if st s = 0 then u.nodes = s.nodes ∧ answers s u ring 0x56 hd.tag 7
               else if ∃ n ∈ nodes, (s.node n).fenced = true ∧ (s.node n).imgId = s.rd (UPD_C_STS.IMG_ID c) then u.nodes = s.nodes ∧ answers s u ring 0x56 hd.tag 9
               else answers s u ring 0x56 hd.tag 0 ∧ (∀ n ∈ nodes, (s.node n).imgId = s.rd (UPD_C_STS.IMG_ID c) → (u.node n).imgId = 0 ∧ (u.node n).updActive = false)
                 ∧ ∀ n, n ∉ nodes ∨ (s.node n).imgId ≠ s.rd (UPD_C_STS.IMG_ID c) → u.node n = s.node n))))
    ∧ (st s = 1 → (campOf s c).cmd = some (ring.val, 0x50, hd.tag) → Store.find false s.hif.orphan ring = false →
      ∃ u, exec (.campPrepareComplete c image t) s = .next u ∧ (campOf u c).cmd = none
        ∧ (if manifestSigned s (campOf s c).man = false then st u = 0 ∧ answers s u ring 0x50 hd.tag 2
           else match imageOctets s c 0 (campOf s c).imgLen image with
             | none => st u = 0 ∧ answers s u ring 0x50 hd.tag 0xF2
             | some l => if sha512 l ≠ wordOctets ((List.range 16).map (wordAt (campOf s c).man.digest)) then st u = 0 ∧ answers s u ring 0x50 hd.tag 3
               else st u = 2 ∧ u.rd (UPD_C_ROUND.ROUND c) = 1 ∧ answers s u ring 0x50 hd.tag 0))
    ∧ ((∀ i : Fin 8, s.rd (UPD_VKEY.KEY i) = 0) → manifestSigned s (campOf s c).man = false)
    ∧ (st s ≠ 1 → exec (.campPrepareComplete c image t) s = .next (s.at t))
    ∧ (st s ≠ 2 → exec (.pressTurn c image us t) s = .next (s.at t))
    ∧ (pressSlot s ≠ some c.val → exec (.pressTurn c image us t) s = .next (roundCheck c (s.at t)))
    ∧ (∀ k oct, pressSlot s = some c.val → quotasMet s c = false → pressBlock s c = some k →
      (blockOctets s c k image = none → ∃ u, exec (.pressTurn c image us t) s = .next u ∧ st u = 4 ∧ u.rd (UPD_C_STS.END_WHY c) = 5 ∧ u.rd UPD_INT_STS.IMG_ERR = 1
        ∧ u.rd UPD_IMG_DMA_ERR = (s.rd UPD_IMG_DMA_ERR + 1) % 2 ^ 32)
      ∧ (let x : Camp := campOf s c
         let n : Nat := min (min x.turn (quotaOf s c k - Store.find 0 x.got k)) (64 - x.ready.length)
         let kb : Nat := blockK (campKt (campF s c) (s.rd (UPD_C_OTI_HI.T c))) (s.rd (UPD_C_OTI_HI.Z c)) k
         let mid : Nat := ceilDiv (11 * kb * s.rd (UPD_C_OTI_HI.T c)) 2400
         let esi : Nat := Store.find 0 x.esi k
         blockOctets s c k image = some oct → ∃ u, exec (.pressTurn c image us t) s = .next u ∧ st u = 2
           ∧ u.rd UPD_PRESS_STS.SLOT = c ∧ u.rd UPD_PRESS_STS.SBN = k % 2 ^ 8
           ∧ (if poolOk s 3 (n * symbolCurds s c + mid) then
                (campOf u c).ready.map (fun y => (y.sbn, y.esi, y.round, y.data)) = x.ready.map (fun y => (y.sbn, y.esi, y.round, y.data))
                    ++ (List.range n).map (fun i => (k, esi + i, x.prep, symbolData kb (s.rd (UPD_C_OTI_HI.T c)) (esi + i) oct))
                  ∧ Store.find 0 (campOf u c).esi k = esi + n ∧ u.rd UPD_BLOCKS_PREP = (s.rd UPD_BLOCKS_PREP + 1) % 2 ^ 32 ∧ u.rd UPD_STS.PRESS_BUSY = 0
              else u.camps = s.camps ∧ u.rd UPD_INT_STS.NOCURD = 1 ∧ u.rd UPD_NOCURD = (s.rd UPD_NOCURD + 1) % 2 ^ 32 ∧ u.rd UPD_STS.PRESS_BUSY = 1)))

/-- From R423, R424, R427, R429 to R432, R434, R435 and R439. Each control write has its effect in the roles of R423's table and otherwise
changes nothing but BAD, which it sets. JOIN clears SYNC and the peer's marks; a chip that becomes STANDBY releases its queues. SWITCH arms
at its ASN or 2 slots ahead. A missed period counts; at HB_MISS of them a STANDBY asserts the fence, reports TAKE_BLOCKED, or loses its
synchronisation. The takeover tick and FORCE make a STANDBY ACTIVE with EPOCH + 1; the fence makes an ACTIVE FENCED with its front ends in
OFF; the switch tick exchanges the roles, and a fence wins over it. The token and the alive line follow R430. Misses and tokens count once
in a heartbeat period, the alive line toggles every 500 ns, and the takeover and the switch happen at an ASN tick; before its time each does
nothing. -/
def Obligations.PairRolesFollowTheTable : Prop :=
  ∀ (alive level adv : Bool) (t : Nat) (s : State),
    let role (u : State) : Nat := u.rd PAIR_STS.ROLE
    let sync (u : State) : Nat := u.rd PAIR_STS.SYNC
    let period : Nat := s.rd PAIR_HB_CFG.HB_US * 1000
    let epoch (u : State) : Prop := u.rd PAIR_EPOCH.EPOCH = (s.rd PAIR_EPOCH.EPOCH + 1) % 2 ^ 32
    let refused (c : Instr) : Prop := exec c s = .next ((s.at t).put PAIR_CTL.BAD true)
    let begun (u : State) (r : Nat) : Prop := role u = r ∧ sync u = 0 ∧ u.rd PAIR_STS.PEER_SEEN = 0 ∧ u.rd PAIR_STS.TAKE_PEND = 0 ∧ u.rd PAIR_STS.SW_PEND = 0
      ∧ u.rd PAIR_CTL.BAD = 0 ∧ u.rd PAIR_LAST.ROLE = r ∧ u.pair.yield = false ∧ u.pair.mirror = false
    let canJoin : Prop := s.rd PAIR_CFG.EN = 1 ∧ s.pair.ptk = true ∧ ((role s = 0) ∨ (role s = 3 ∧ s.rd PAIR_STS.FENCE_IN = 0))
    (role s = 0 → s.rd PAIR_CFG.EN = 1 → s.pair.ptk = true → s.rd PAIR_STS.FENCE_IN = 0 → ∃ u, exec (.pairJoinActive t) s = .next u ∧ begun u 1)
    ∧ (role s ≠ 0 ∨ s.rd PAIR_CFG.EN = 0 ∨ s.pair.ptk = false ∨ s.rd PAIR_STS.FENCE_IN = 1 → refused (.pairJoinActive t))
    ∧ (canJoin → ∃ u, exec (.pairJoinStandby t) s = .next u ∧ begun u 2 ∧ u.qms.upQ = [] ∧ u.qms.downQ = [] ∧ u.qms.cal = [] ∧ u.qms.reasm = [] ∧ ∀ n, nodeQOf u n = [])
    ∧ (¬ canJoin → refused (.pairJoinStandby t))
    ∧ (role s = 2 ∨ (role s = 1 ∧ s.rd PAIR_STS.PEER_SILENT = 1) → ∃ u, exec (.pairLeave t) s = .next u ∧ begun u 0 ∧ u.pair.aliveOut = false)
    ∧ (role s = 0 ∨ role s = 3 ∨ (role s = 1 ∧ s.rd PAIR_STS.PEER_SILENT = 0) → refused (.pairLeave t))
    ∧ (role s = 1 → sync s = 2 → ∃ u, exec (.pairSwitch t) s = .next u ∧ role u = 1 ∧ u.rd PAIR_STS.SW_PEND = 1 ∧ u.rd PAIR_CTL.BAD = 0
        ∧ (let asked := s.rd PAIR_SW_ASN_LO.ASN + 2 ^ 32 * s.rd PAIR_SW_ASN_HI.ASN
           if 2 ≤ ahead asked s.asn then u.pair.switchAt = asked % 2 ^ 40 ∧ u.rd PAIR_STS.SW_LATE = 0 else u.pair.switchAt = (s.asn + 2) % 2 ^ 40 ∧ u.rd PAIR_STS.SW_LATE = 1))
    ∧ (role s ≠ 1 ∨ sync s ≠ 2 → refused (.pairSwitch t))
    ∧ (role s = 2 → sync s ≠ 2 → s.rd PAIR_STS.PEER_SILENT = 1 → ∃ u, exec (.pairForce t) s = .next u ∧ role u = 1 ∧ epoch u ∧ u.rd PAIR_LAST.LAGGING = 1 ∧ u.rd PAIR_INT_STS.TAKEOVER = 1
        ∧ u.rd PAIR_FORCED = (s.rd PAIR_FORCED + 1) % 2 ^ 32 ∧ ∀ n, nodeActive s n = true → Store.find false u.pair.halted n = true ∧ rekeyOf u n = true)
    ∧ (role s ≠ 2 ∨ sync s = 2 ∨ s.rd PAIR_STS.PEER_SILENT = 0 → refused (.pairForce t))
    ∧ (role s = 0 ∨ (s.at t).reached (s.pair.periodAt + period) = false → exec (.heartbeatMissCount alive t) s = .next (s.at t))
    ∧ (role s ≠ 0 → (s.at t).reached (s.pair.periodAt + period) = true → ∃ u, exec (.heartbeatMissCount alive t) s = .next u ∧ role u = role s ∧ u.pair.missed = s.pair.missed + 1 ∧ u.rd PAIR_HB_MISS = (s.rd PAIR_HB_MISS + 1) % 2 ^ 32
        ∧ u.rd PAIR_STS.ALIVE_IN = ofBool alive ∧ u.rd PAIR_ALIVE_MISS = (if alive then s.rd PAIR_ALIVE_MISS else (s.rd PAIR_ALIVE_MISS + 1) % 2 ^ 32)
        ∧ (s.pair.missed + 1 < s.rd PAIR_HB_CFG.HB_MISS → u.rd PAIR_STS.TAKE_PEND = s.rd PAIR_STS.TAKE_PEND ∧ sync u = sync s)
        ∧ (s.rd PAIR_HB_CFG.HB_MISS ≤ s.pair.missed + 1 → u.rd PAIR_STS.PEER_SEEN = 0
            ∧ (role s = 2 → alive = true → sync s ≠ 0 → sync u = 0 ∧ u.rd PAIR_INT_STS.SYNC_LOST = 1 ∧ u.rd PAIR_LAST.LAGGING = 1)
            ∧ (role s = 2 → alive = false → s.rd PAIR_CFG.AUTO_TAKE = 1 → sync s = 2 → s.rd PAIR_STS.TAKE_PEND = 0 →
                u.rd PAIR_STS.FENCE_OUT = 1 ∧ u.rd PAIR_STS.TAKE_PEND = 1 ∧ u.rd PAIR_STS.SW_PEND = 0 ∧ u.pair.takeAt = (s.at t).rc)
            ∧ (role s = 2 → alive = false → s.rd PAIR_CFG.AUTO_TAKE = 1 → sync s ≠ 2 → s.pair.blocked = false →
                sync u = sync s ∧ u.rd PAIR_TAKE_BLOCKED = (s.rd PAIR_TAKE_BLOCKED + 1) % 2 ^ 32 ∧ u.rd PAIR_INT_STS.TAKE_BLOCKED = 1 ∧ u.pair.blocked = true)))
    ∧ (role s ≠ 0 → s.rd PAIR_STS.PEER_SILENT = 0 → s.rd PAIR_HB_CFG.HB_MISS + 2 ≤ s.pair.missed →
      ∃ u, exec (.peerSilentExpiry t) s = .next u ∧ role u = role s ∧ u.rd PAIR_STS.PEER_SILENT = 1 ∧ u.rd PAIR_INT_STS.PEER_LOST = 1
        ∧ (role s = 1 → sync u = 0 ∧ u.pair.mirror = false ∧ u.pair.queue = [] ∧ rawSet u 106 = true))
    ∧ (s.pair.missed < s.rd PAIR_HB_CFG.HB_MISS + 2 → exec (.peerSilentExpiry t) s = .next (s.at t))
    ∧ (s.rd PAIR_STS.TAKE_PEND = 1 → role s = 2 → onTick (s.at t) = true → s.pair.takeAt + 20000 ≤ (s.at t).rc →
      ∃ u, exec (.takeover t) s = .next u ∧ role u = 1 ∧ epoch u ∧ u.rd PAIR_STS.TAKE_PEND = 0 ∧ u.rd PAIR_TAKEOVERS = (s.rd PAIR_TAKEOVERS + 1) % 2 ^ 32 ∧ u.rd PAIR_INT_STS.TAKEOVER = 1
        ∧ u.rd PAIR_STS.FENCE_OUT = s.rd PAIR_STS.FENCE_OUT ∧ latched u 107 = true ∧ ∀ w : Fin 8, u.rd (SEC_W_GTX_FC.FC w) = u.rd (SEC_W_GTX_CEIL.CEIL w))
    ∧ (s.rd PAIR_STS.TAKE_PEND = 0 ∨ role s ≠ 2 ∨ onTick (s.at t) = false ∨ (s.at t).rc < s.pair.takeAt + 20000 → exec (.takeover t) s = .next (s.at t))
    ∧ (role s = 1 → s.rd PAIR_CFG.EN = 1 → ∃ u, exec (.pairFenceInput true t) s = .next u ∧ role u = 3 ∧ sync u = 0 ∧ u.rd PAIR_STS.FENCE_IN = 1 ∧ u.rd PAIR_INT_STS.FENCED = 1
        ∧ u.rd PAIR_FENCES = (s.rd PAIR_FENCES + 1) % 2 ^ 32 ∧ u.rd PAIR_LAST.LAGGING = 1 ∧ rawSet u 108 = true ∧ (coverOn s = false → ∀ n : Fin 4, u.rd (RFE_STS.STATE n) = 0))
    ∧ (level = false ∨ role s ≠ 1 ∨ s.rd PAIR_CFG.EN = 0 → exec (.pairFenceInput level t) s = .next ((s.at t).put PAIR_STS.FENCE_IN level))
    ∧ (onTick (s.at t) = false → exec (.pairSwitchTick t) s = .next (s.at t))
    ∧ (onTick (s.at t) = true → role s = 1 → s.rd PAIR_STS.SW_PEND = 1 → later s.pair.switchAt s.asn = false → ∃ u, exec (.pairSwitchTick t) s = .next u
        ∧ (if s.rd PAIR_STS.FENCE_IN = 1 then role u = 3 else role u = 2 ∧ u.rd PAIR_STS.SW_PEND = 0 ∧ u.pair.mirror = false ∧ u.mac.rx = [] ∧ u.qms.upQ = [] ∧ u.qms.downQ = []
             ∧ u.rd PAIR_SWITCHES = (s.rd PAIR_SWITCHES + 1) % 2 ^ 32 ∧ u.rd PAIR_INT_STS.SWITCH_DONE = 1 ∧ (s.pair.dirty = [] → sync u = sync s)))
    ∧ (onTick (s.at t) = true → role s = 2 → sync s = 2 → ∃ u, exec (.pairSwitchTick t) s = .next u ∧ role u = 1 ∧ epoch u ∧ u.pair.marking = true ∧ u.rd PAIR_STS.FENCE_OUT = s.rd PAIR_STS.FENCE_OUT
        ∧ u.rd PAIR_SWITCHES = (s.rd PAIR_SWITCHES + 1) % 2 ^ 32 ∧ u.rd PAIR_INT_STS.SWITCH_DONE = 1)
    ∧ ((s.at t).reached (s.pair.tokenAt + period) = false → exec (.fabricTokenCheck adv t) s = .next (s.at t))
    ∧ ((s.at t).reached (s.pair.tokenAt + period) = true → ∃ u, exec (.fabricTokenCheck adv t) s = .next u
        ∧ (if adv then u.pair.stale = 0 ∧ ∀ f : Fld, u.rd f = s.rd f
           else u.pair.stale = s.pair.stale + 1
             ∧ (if s.rd PAIR_HB_CFG.FAB_MISS ≤ s.pair.stale + 1 ∧ role s ≠ 0 ∧ s.pair.yield = false then
                  u.pair.yield = true ∧ u.pair.aliveOut = false ∧ u.rd PAIR_YIELDS = (s.rd PAIR_YIELDS + 1) % 2 ^ 32
                else u.pair.yield = s.pair.yield ∧ ∀ f : Fld, u.rd f = s.rd f)))
    ∧ ((s.at t).reached (s.pair.aliveAt + 500) = false → exec (.aliveToggle t) s = .next (s.at t))
    ∧ ((s.at t).reached (s.pair.aliveAt + 500) = true → ∃ u, exec (.aliveToggle t) s = .next u ∧ u.pair.aliveOut = (role s != 0 && !s.pair.yield && !s.pair.aliveOut) ∧ ∀ f : Fld, u.rd f = s.rd f)

/-- From R418 to R422, R425 to R428, R430 and R435 to R437. Outside SOLO a heartbeat is sent once in HB_US, with the next SEQ; the list of
changed records is flushed once in INTERVAL_US. With EN clear no message is taken; one whose TAG fails is counted and reported. A valid
heartbeat shows the peer's role, ends PEER_SILENT and compares CFG_CRC; its copy is dropped; an ACTIVE yields to a higher EPOCH, a STANDBY
takes over on YIELD, and enters BULK when R423 says so. A mirror record in MSEQ order is applied, a gap ends the synchronisation; a MACK
takes what it covers from the queue; MARK ends the wait for it; the last bulk record gives IN_SYNC. Relayed frames go to the active's MAC;
lanes go up and down; a peer key is written before SYS_CFG_LOCK only, and the role is held at SOLO without PTK; PAIR_CFG_CRC follows the
configuration. -/
def Obligations.PairMessagesAreTaken : Prop :=
  ∀ (hb : Heartbeat) (item : MirItem) (nix cursor : Fin 262144) (seq sts m errs t : Nat) (rf : RelayFrame) (ef : EthFrame) (lane port : Fin 2) (reg : Fin 10) (v : Word) (tag on last : Bool) (k : TableMeets) (s : State),
    let role : Nat := s.rd PAIR_STS.ROLE
    let sync (u : State) : Nat := u.rd PAIR_STS.SYNC
    let good : Prop := s.rd PAIR_CFG.EN = 1 ∧ s.pair.ptk = true
    let still : State := { s.at t with fwd := { s.fwd with meets := {} } }
    let msgs (ok : Bool) : List (Instr × State) := [(.heartbeatReceived hb ok t, s.at t), (.mirRecordReceived m item ok k t, still), (.mackReceived m ok t, s.at t), (.markReceived m ok t, s.at t),
      (.bulkRecordReceived item cursor last ok k t, still), (.rlyRadioReceived rf ok t, s.at t), (.rlyEthReceived port ef ok t, s.at t)]
    let sixp : MirItem := .sixp nix seq sts
    (role = 0 ∨ (s.at t).reached (s.pair.sentAt + s.rd PAIR_HB_CFG.HB_US * 1000) = false → exec (.heartbeatSend on t) s = .next (s.at t))
    ∧ (role ≠ 0 → (s.at t).reached (s.pair.sentAt + s.rd PAIR_HB_CFG.HB_US * 1000) = true → ∃ u x, exec (.heartbeatSend on t) s = .next u ∧ u.pair.seq = (s.pair.seq + 1) % 2 ^ 32 ∧ u.pair.sent.head? = some (u.pair.seq, x) ∧ x = (s.at t).tsuNs
        ∧ u.rd PAIR_HB_TX = (s.rd PAIR_HB_TX + 1) % 2 ^ 32 ∧ u.rd PAIR_STS.ALIVE_IN = ofBool on)
    ∧ (s.rd PAIR_CFG.EN = 0 → ∀ c ∈ msgs tag, exec c.1 s = .next c.2)
    ∧ (s.rd PAIR_CFG.EN = 1 → tag = false ∨ s.pair.ptk = false → ∀ c ∈ msgs tag, ∃ u, exec c.1 s = .next u ∧ u.rd PAIR_AUTH_FAIL = (s.rd PAIR_AUTH_FAIL + 1) % 2 ^ 32 ∧ u.rd PAIR_INT_STS.AUTH_FAIL = 1
        ∧ latched u 111 = true ∧ u.pair = s.pair ∧ u.nodes = s.nodes ∧ u.mac = s.mac)
    ∧ (good → (∃ p, s.pair.peer = some p ∧ p.seq = hb.seq) → exec (.heartbeatReceived hb true t) s = .next (s.at t))
    ∧ (good → (∀ p, s.pair.peer = some p → p.seq ≠ hb.seq) →
      (∃ u, exec (.heartbeatReceived hb true t) s = .next u ∧ u.rd PAIR_HB_RX = (s.rd PAIR_HB_RX + 1) % 2 ^ 32 ∧ u.rd PAIR_STS.PEER_ROLE = hb.role ∧ u.rd PAIR_STS.PEER_SEEN = 1
        ∧ u.rd PAIR_STS.PEER_SILENT = 0 ∧ (s.rd PAIR_STS.PEER_SILENT = 1 → u.rd PAIR_INT_STS.PEER_BACK = 1) ∧ u.rd PAIR_PEER_CRC.CRC = hb.crc % 2 ^ 32 ∧ u.pair.missed = 0
        ∧ (hb.crc % 2 ^ 32 ≠ s.rd PAIR_CFG_CRC.CRC → u.rd PAIR_INT_STS.CFG_MISMATCH = 1 ∧ rawSet u 110 = true))
      ∧ (role = 1 → hb.role = 1 → s.rd PAIR_EPOCH.EPOCH < hb.epoch → ∃ u, exec (.heartbeatReceived hb true t) s = .next u ∧ u.rd PAIR_STS.ROLE = 3 ∧ u.rd PAIR_LAST.LAGGING = 1)
      ∧ (role = 1 → hb.role = 1 → hb.epoch < s.rd PAIR_EPOCH.EPOCH → ∃ u, exec (.heartbeatReceived hb true t) s = .next u ∧ u.rd PAIR_STS.ROLE = 1)
      ∧ (role = 2 → hb.yield = true → sync s = 2 → s.rd PAIR_STS.TAKE_PEND = 0 →
          ∃ u, exec (.heartbeatReceived hb true t) s = .next u ∧ u.rd PAIR_STS.TAKE_PEND = 1 ∧ u.rd PAIR_STS.FENCE_OUT = 1 ∧ u.pair.takeAt = (s.at t).rc)
      ∧ (role = 2 → hb.yield = false → sync s = 0 → hb.role = 1 → hb.crc % 2 ^ 32 = s.rd PAIR_CFG_CRC.CRC → s.rd TSU_SERVO_STS.STATE = 2 → asnRuns s = true →
          s.pair.sent.find? (fun x => x.1 = hb.echoSeq) = none →
          ∃ u, exec (.heartbeatReceived hb true t) s = .next u ∧ sync u = 1 ∧ u.rd PAIR_BULK_STS.RUN = 1 ∧ u.rd PAIR_BULK_STS.CURSOR = 0 ∧ u.rd PAIR_MIR_SEQ.MSEQ = hb.mseq % 2 ^ 32
            ∧ u.rd PAIR_EPOCH.EPOCH = hb.epoch % 2 ^ 32)
      ∧ (role = 2 → hb.yield = false → sync s = 2 → hb.sync = 0 ∨ hb.crc % 2 ^ 32 ≠ s.rd PAIR_CFG_CRC.CRC →
          ∃ u, exec (.heartbeatReceived hb true t) s = .next u ∧ sync u = 0 ∧ u.rd PAIR_INT_STS.SYNC_LOST = 1 ∧ u.rd PAIR_LAST.LAGGING = 1))
    ∧ (good → (role = 2 ∧ sync s ≠ 0) ∨ s.pair.marking = true →
      (∃ u, exec (.mirRecordReceived ((s.rd PAIR_MIR_SEQ.MSEQ + 1) % 2 ^ 32) sixp true k t) s = .next u ∧ u.rd PAIR_MIR_SEQ.MSEQ = (s.rd PAIR_MIR_SEQ.MSEQ + 1) % 2 ^ 32
        ∧ u.rd PAIR_MIR_RX = (s.rd PAIR_MIR_RX + 1) % 2 ^ 32 ∧ p6Seq u nix = seq % 256 ∧ polByte u (p6StsAt nix) = sts % 256
        ∧ (s.pair.marking = true → s.pair.mark = some ((s.rd PAIR_MIR_SEQ.MSEQ + 1) % 2 ^ 32) → u.pair.marking = false))
      ∧ (role = 2 → m ≠ (s.rd PAIR_MIR_SEQ.MSEQ + 1) % 2 ^ 32 →
          ∃ u, exec (.mirRecordReceived m item true k t) s = .next u ∧ sync u = 0 ∧ u.rd PAIR_INT_STS.SYNC_LOST = 1 ∧ u.nodes = s.nodes ∧ u.rd PAIR_MIR_SEQ.MSEQ = s.rd PAIR_MIR_SEQ.MSEQ))
    ∧ (role = 2 → sync s ≠ 0 → s.sec.waiting = [] → ∃ u, exec (.mackSend t) s = .next u ∧ u.rd PAIR_MIR_ACKED.MSEQ = s.rd PAIR_MIR_SEQ.MSEQ)
    ∧ (role ≠ 2 ∨ sync s = 0 → exec (.mackSend t) s = .next (s.at t))
    ∧ (good → ∃ u, exec (.mackReceived m true t) s = .next u ∧ u.rd PAIR_MIR_ACKED.MSEQ = m % 2 ^ 32 ∧ u.rd PAIR_MACK_RX = (s.rd PAIR_MACK_RX + 1) % 2 ^ 32
        ∧ (s.sec.waiting = [] → u.pair.queue = s.pair.queue.filter (fun r => (m % 2 ^ 32 + 2 ^ 32 - r.mseq % 2 ^ 32) % 2 ^ 32 ≥ 2 ^ 31)))
    ∧ ((s.at t).reached (s.pair.flushAt + s.rd PAIR_MIR_CFG.INTERVAL_US * 1000) = false → exec (.mirFlush t) s = .next (s.at t))
    ∧ ((s.at t).reached (s.pair.flushAt + s.rd PAIR_MIR_CFG.INTERVAL_US * 1000) = true → ∃ u, exec (.mirFlush t) s = .next u ∧ u.pair.dirty = []
        ∧ (s.pair.dirty = [nix.val] → s.pair.mirror = true → s.rd PAIR_MIR_STS.CURDS + 1 ≤ s.rd PAIR_MIR_CFG.QMAX → poolOk s 3 1 = true →
            u.rd PAIR_MIR_SEQ.MSEQ = (s.rd PAIR_MIR_SEQ.MSEQ + 1) % 2 ^ 32 ∧ u.rd PAIR_MIR_TX = (s.rd PAIR_MIR_TX + 1) % 2 ^ 32
              ∧ ∃ cu, cu.length = 1 ∧ u.pair.queue = s.pair.queue ++ [{ mseq := (s.rd PAIR_MIR_SEQ.MSEQ + 1) % 2 ^ 32, curds := cu }])
        ∧ (s.pair.dirty = [nix.val] → s.pair.mirror = true → s.rd PAIR_MIR_CFG.QMAX < s.rd PAIR_MIR_STS.CURDS + 1 →
            sync u = 0 ∧ u.pair.queue = [] ∧ u.pair.mirror = false ∧ u.rd PAIR_INT_STS.MIR_OVF = 1))
    ∧ (good → s.pair.marking = true → ∃ u, exec (.markReceived m true t) s = .next u
        ∧ (if m = s.rd PAIR_MIR_SEQ.MSEQ then u.pair.marking = false else u.pair.marking = true ∧ u.pair.mark = some m))
    ∧ (good → role = 2 → sync s = 1 →
      (s.sec.waiting = [] → ∃ u, exec (.bulkRecordReceived sixp cursor true true k t) s = .next u ∧ sync u = 2 ∧ u.rd PAIR_BULK_STS.RUN = 0 ∧ u.rd PAIR_LAST.LAGGING = 0 ∧ u.rd PAIR_INT_STS.SYNCED = 1)
      ∧ (s.pair.bulkLast = false → ∃ u, exec (.bulkRecordReceived sixp cursor false true k t) s = .next u ∧ sync u = 1 ∧ u.rd PAIR_BULK_STS.CURSOR = cursor
          ∧ u.rd PAIR_BULK_RECORDS = (s.rd PAIR_BULK_RECORDS + 1) % 2 ^ 32 ∧ p6Seq u nix = seq % 256))
    ∧ (good →
      (role = 1 → ∃ u, exec (.rlyRadioReceived rf true t) s = .next u ∧ u.rd PAIR_RLY_RADIO_RX = (s.rd PAIR_RLY_RADIO_RX + 1) % 2 ^ 32
        ∧ (if relayDup (s.at t) rf then u.mac = s.mac ∧ u.rd PAIR_RLY_DUP = (s.rd PAIR_RLY_DUP + 1) % 2 ^ 32 else ∃ f : RxFrame, u.mac.rx = s.mac.rx ++ [f] ∧ f.hdr = rf.hdr ∧ f.len = rf.len ∧ f.acked = true))
      ∧ (role ≠ 1 → exec (.rlyRadioReceived rf true t) s = .next (s.at t))
      ∧ (∃ u, exec (.rlyEthReceived port ef true t) s = .next u ∧ u.rd PAIR_RLY_ETH_RX = (s.rd PAIR_RLY_ETH_RX + 1) % 2 ^ 32
          ∧ (role = 2 → egrRoom s (s.rd PAIR_CFG.RLY_PORT) = false → u.rd PAIR_RLY_DROP = (s.rd PAIR_RLY_DROP + 1) % 2 ^ 32)
          ∧ (role = 2 → egrRoom s (s.rd PAIR_CFG.RLY_PORT) = true → ∃ f : EgrFrame, egrOf u (s.rd PAIR_CFG.RLY_PORT) 0 = egrOf s (s.rd PAIR_CFG.RLY_PORT) 0 ++ [f] ∧ f.len = ef.len)))
    ∧ (∃ u, exec (.laneSyncChange lane on errs t) s = .next u ∧ u.rd (PAIR_LANE_STS.UP lane) = ofBool on ∧ u.rd (PAIR_LANE_STS.ERR lane) = min (s.rd (PAIR_LANE_STS.ERR lane) + errs) 65535
        ∧ (s.rd (PAIR_LANE_STS.UP lane) = 1 → on = false → u.rd PAIR_LANE_DOWN = (s.rd PAIR_LANE_DOWN + 1) % 2 ^ 32 ∧ u.rd PAIR_INT_STS.LANE_DOWN = 1 ∧ (u.rd PAIR_LINK_STS.LANE_UP).testBit lane = false)
        ∧ (s.rd (PAIR_LANE_STS.UP lane) = 0 → on = true → (u.rd PAIR_LINK_STS.LANE_UP).testBit lane = true ∧ u.rd PAIR_LINK_STS.UP = 1))
    ∧ (s.rd SYS_CFG_LOCK.LOCK = 1 → exec (.pairPeerKeyWrite reg v t) s = .next (s.at t))
    ∧ (s.rd SYS_CFG_LOCK.LOCK = 0 → ∃ u, exec (.pairPeerKeyWrite reg v t) s = .next u ∧ (u.pair.ptk = false → u.rd PAIR_STS.ROLE = 0)
        ∧ (if reg.val = 8 then u.rd PAIR_PEER_EUI_LO.EUI = v.toNat else if reg.val = 9 then u.rd PAIR_PEER_EUI_HI.EUI = v.toNat else u.rd (PAIR_PEER_PUB.K reg) = v.toNat))
    ∧ (∀ s' : State, (∀ f : Fld, s'.rd f = s.rd f) → s'.mac.hs = s.mac.hs → s'.mac.hsBank = s.mac.hsBank →
      ∃ u u', exec (.cfgCrcRecompute t) s = .next u ∧ exec (.cfgCrcRecompute t) s' = .next u' ∧ u.rd PAIR_CFG_CRC.CRC = u'.rd PAIR_CFG_CRC.CRC
        ∧ ∀ f : Fld, f.key ≠ PAIR_CFG_CRC.CRC.key → u.rd f = s.rd f)

/-- From R384, R386 to R388 and R390 to R393. HUSH written 1 begins at once without the ASN, else at a tick at which no span that began
before it is in progress; written 0 it ends; during a sleep entry either waits. CEL_SLEEP_CTL answers BUSY, ABORT_REQ with the pending
sources, or ACCEPTED, and does nothing with a wrong key. The entry pair, the clamps and the sample follow; the sample aborts, or the core
goes off and the ledger moves on. PWR_GOOD falling in ACTIVE is OFF. A wake source shows its pin and its bit; PWR_GOOD rising in a sleep
state asks for power; without power in time the Cellar backs off. The sampler counts, compares and, in WATCH after N matches, sets code 5. A
pin's level latches its edge once it has been stable for DEB ticks; each step of an entry, each wait and each sample takes its time. -/
def Obligations.PowerStatesFollowTheCellar : Prop :=
  ∀ (e : SleepEntry) (k : Fin 4) (high : Bool) (target key ana pins t : Nat) (s : State),
    let st (u : State) : Nat := u.rd CEL_PWR_STS.STATE
    let free : Prop := asnRuns s = false ∨ ((s.at t).rc = s.mac.tickAt ∧ ∀ x ∈ s.mac.began, x.asn = s.asn ∨ spanOver s x = true)
    let passed (n ms : Nat) : Prop := n * 1000 + ms * 32768 ≤ s.cel.ticks * 1000
    let pend (u : State) (i : Nat) : Bool := (u.rd CEL_WAKE_STS.PEND).testBit i
    (powered s = true →
      (s.cel.entry = some e → (∃ u, exec (.hushWrite t) s = .next u ∧ u.cel.entry = some { e with hush := some true } ∧ st u = st s)
        ∧ ∃ u, exec (.hushExit t) s = .next u ∧ u.cel.entry = some { e with hush := some false } ∧ st u = st s)
      ∧ (s.cel.entry = none → st s = 0 → ∃ u, exec (.hushWrite t) s = .next u
          ∧ (if asnRuns s then u.rd CEL_PWR_STS.HUSH_PEND = 1 ∧ st u = 0
             else st u = 1 ∧ u.rd CEL_HUSH_ENTRIES = (s.rd CEL_HUSH_ENTRIES + 1) % 2 ^ 32 ∧ (coverOn s = false → ∀ n : Fin 4, u.rd (RFE_STS.STATE n) = 0 ∧ u.rd (RFE_CTL.EN n) = s.rd (RFE_CTL.EN n))))
      ∧ (s.cel.entry = none → st s = 1 → ∃ u, exec (.hushExit t) s = .next u ∧ st u = 0 ∧ u.rd CEL_PWR_STS.HUSH_PEND = 0 ∧ u.cel.resume = true)
      ∧ (target = 1 ∨ target = 2 →
        (s.cel.entry ≠ none ∨ s.rd SYS_FUSE_STS.BUSY = 1 ∨ s.rd SYS_SVN_CTL.BUSY = 1 → exec (.sleepRequest target 0x534C t) s = .next ((s.at t).wr CEL_SLEEP_STS.RESULT 4))
        ∧ (s.cel.entry = none → s.rd SYS_FUSE_STS.BUSY = 0 → s.rd SYS_SVN_CTL.BUSY = 0 →
          (wakePending s ≠ 0 → ∃ u, exec (.sleepRequest target 0x534C t) s = .next u ∧ u.rd CEL_SLEEP_STS.RESULT = 2 ∧ u.rd CEL_SLEEP_STS.ABORT_SRC = wakePending s % 2 ^ 9
            ∧ u.rd CEL_INT_STS.SLEEP_ABORT = 1 ∧ u.cel.entry = none ∧ st u = st s)
          ∧ (wakePending s = 0 → ∃ u, exec (.sleepRequest target 0x534C t) s = .next u ∧ u.rd CEL_SLEEP_STS.RESULT = 1 ∧ u.rd CEL_SLEEP_STS.BUSY = 1 ∧ st u = 2
            ∧ u.cel.entry = some { target := target, before := st s } ∧ (coverOn s = false → ∀ n : Fin 4, u.rd (RFE_STS.STATE n) = 0)))))
    ∧ (powered s = false ∨ key ≠ 0x534C ∨ (target ≠ 1 ∧ target ≠ 2) → exec (.sleepRequest target key t) s = .next (s.at t))
    ∧ (s.rd CEL_PWR_STS.HUSH_PEND = 1 → st s = 0 → free →
      ∃ u, exec (.hushEntry t) s = .next u ∧ st u = 1 ∧ u.rd CEL_PWR_STS.HUSH_PEND = 0 ∧ u.rd CEL_HUSH_ENTRIES = (s.rd CEL_HUSH_ENTRIES + 1) % 2 ^ 32)
    ∧ (¬free ∨ s.rd CEL_PWR_STS.HUSH_PEND = 0 → exec (.hushEntry t) s = .next (s.at t))
    ∧ (s.cel.entry = some e →
      (e.phase = 0 → ∃ u, exec (.sleepQuiesceComplete t) s = .next u ∧ u.cel.entry = some { e with phase := 1, rtc := s.cel.rtc, tsu := (s.at t).tsuNs, ticks := 0 } ∧ ∀ f : Fld, u.rd f = s.rd f)
      ∧ (e.phase = 1 → e.ticks = 0 → exec (.sleepIsolation t) s = .next (s.at t))
      ∧ (e.phase = 1 → 1 ≤ e.ticks → ∃ u, exec (.sleepIsolation t) s = .next u ∧ u.cel.entry = some { e with phase := 2 } ∧ ∀ f : Fld, u.rd f = s.rd f)
      ∧ (e.phase = 2 → e.ticks < 2 → exec (.sleepWakeSample t) s = .next (s.at t))
      ∧ (e.phase = 2 → 2 ≤ e.ticks → wakePending s = 0 → ∃ u, exec (.sleepWakeSample t) s = .next u ∧ u.cel.off = e.target ∧ u.cel.entry = none ∧ u.cel.req = false ∧ u.rd CEL_SLEEP_STS.BUSY = 0
          ∧ u.rd CEL_SLEEPS = (s.rd CEL_SLEEPS + 1) % 2 ^ 32 ∧ u.rd (CEL_LEDGER.W 0) = e.rtc / 32768 % 2 ^ 32 ∧ (∀ j : Fin 8, u.rd (CEL_LEDGER_PREV.W j) = s.rd (CEL_LEDGER.W j)) ∧ u.nodes = [] ∧ u.jdev = s.jdev)
      ∧ (e.phase = 2 → 2 ≤ e.ticks → wakePending s ≠ 0 → e.before ≤ 1 → e.hush = none → ∃ u, exec (.sleepWakeSample t) s = .next u ∧ u.cel.entry = none ∧ st u = e.before ∧ u.rd CEL_SLEEP_STS.RESULT = 3
          ∧ u.rd CEL_SLEEP_STS.ABORT_SRC = wakePending s % 2 ^ 9 ∧ u.rd CEL_SLEEP_STS.BUSY = 0 ∧ u.rd CEL_SLEEP_ABORTS = (s.rd CEL_SLEEP_ABORTS + 1) % 2 ^ 32 ∧ u.rd CEL_INT_STS.SLEEP_ABORT = 1 ∧ u.cel.off = s.cel.off))
    ∧ (asleep s = true →
      (¬passed s.cel.reqAt (s.rd CEL_PG_CFG.PG_OFF_MS) → exec .pgOffTimeout s = .next s)
      ∧ (s.cel.good = true → s.cel.waking = false → passed s.cel.reqAt (s.rd CEL_PG_CFG.PG_OFF_MS) → ∃ u, exec .pgOffTimeout s = .next u ∧ (u.rd (CEL_LEDGER.W 1)).testBit 21 = true ∧ u.cel.off = s.cel.off
        ∧ u.cel.waking = (wakePending s != 0 && !s.cel.backoff))
      ∧ (s.cel.good = true → ∃ u, exec (.pwrGoodFall t) s = .next u ∧ u.cel.good = false ∧ u.cel.off = s.cel.off ∧ u.rd CEL_PG_FALLS = s.rd CEL_PG_FALLS)
      ∧ (s.cel.good = false → s.cel.waking = false → s.cel.backoff = false → ∃ u, exec (.wakeSource 8 high) s = .next u ∧ pend u 8 = true ∧ u.cel.waking = true ∧ u.cel.req = true)
      ∧ (¬passed s.cel.reqAt (s.rd CEL_PG_CFG.PG_WAIT_MS) → exec .pgWaitTimeout s = .next s)
      ∧ (s.cel.waking = true → passed s.cel.reqAt (s.rd CEL_PG_CFG.PG_WAIT_MS) → ∃ u, exec .pgWaitTimeout s = .next u ∧ u.cel.waking = false ∧ u.cel.backoff = true ∧ u.cel.req = false ∧ u.rd CEL_WAKE_NOPWR = (s.rd CEL_WAKE_NOPWR + 1) % 2 ^ 32))
    ∧ (asleep s = false → s.cel.off ≠ 4 → s.cel.good = true → ∃ u, exec (.pwrGoodFall t) s = .next u ∧ u.cel.off = 3 ∧ u.cel.good = false ∧ u.cel.req = true
        ∧ u.rd CEL_PG_FALLS = (s.rd CEL_PG_FALLS + 1) % 2 ^ 32 ∧ u.rd (CEL_LEDGER.W 1) / 2 ^ 15 % 2 ^ 3 = 3 ∧ u.nodes = [] ∧ u.jdev = s.jdev)
    ∧ (s.cel.good = false → exec (.pwrGoodFall t) s = .next s)
    ∧ (s.cel.off ≠ 4 → (s.rd CEL_PAD_CFG.WAKE_IN_EN).testBit k = true → (s.rd CEL_PIN_STS.WAKE).testBit k ≠ high →
      ∃ u, exec (.wakeSource (k.castLE (by decide)) high) s = .next u ∧ (u.rd CEL_PIN_STS.WAKE).testBit k = high
        ∧ (s.rd (CEL_WAKE_PIN.DEB k) = 0 → s.cel.pinNow.testBit k ≠ high → u.cel.pinNow.testBit k = high)
        ∧ (s.rd (CEL_WAKE_PIN.DEB k) = 0 → s.cel.pinNow.testBit k ≠ high → (s.rd CEL_WAKE_EN.EN).testBit k = true → (let m := s.rd (CEL_WAKE_PIN.MODE k); m = 3 ∨ (m = 1 ∧ high = true) ∨ (m = 2 ∧ high = false)) → pend u k = true))
    ∧ (s.cel.off ≠ 4 → (s.rd CEL_PIN_STS.WAKE).testBit k = high → s.cel.pinNow.testBit k ≠ high → Store.find 0 s.cel.pinAt k + s.rd (CEL_WAKE_PIN.DEB k) ≤ s.cel.ticks + 1 →
      ∃ u, exec (.rtcTick t) s = .next u ∧ u.cel.pinNow.testBit k = high
        ∧ ((s.rd CEL_WAKE_EN.EN).testBit k = true → (let m := s.rd (CEL_WAKE_PIN.MODE k); m = 3 ∨ (m = 1 ∧ high = true) ∨ (m = 2 ∧ high = false)) → pend u k = true))
    ∧ (¬passed s.cel.backAt (1000 * s.rd CEL_PG_CFG.BACKOFF_S) → exec .wakeBackoffExpiry s = .next s)
    ∧ (passed s.cel.backAt (1000 * s.rd CEL_PG_CFG.BACKOFF_S) → ∃ u, exec .wakeBackoffExpiry s = .next u ∧ u.cel.backoff = false ∧ (sleepEntered s = true → wakePending s ≠ 0 → u.cel.waking = true ∧ (s.cel.waking = false → u.cel.req = true))
        ∧ (wakePending s = 0 → u.cel.waking = s.cel.waking))
    ∧ (s.cel.off = 1 → s.cel.watchAt + 2 ^ s.rd CEL_WATCH_CFG.PER_LOG2 ≤ s.cel.ticks → s.rd CEL_WATCH_CFG.ANA_EN = 1 → s.rd CEL_WATCH_CFG.PAT_EN = 0 → s.rd CEL_WATCH_CFG.CNT_EN = 0 → ana < 256 →
      ∃ u, exec (.watchSample ana pins) s = .next u ∧ u.rd CEL_WATCH_SAMPLE.ANA = ana ∧ u.rd CEL_WATCH_SAMPLE.PINS = pins % 16 ∧ u.rd CEL_WATCH_SAMPLES = (s.rd CEL_WATCH_SAMPLES + 1) % 2 ^ 32
        ∧ (let inside : Bool := decide (s.rd CEL_WATCH_ANA.LO ≤ ana) && decide (ana ≤ s.rd CEL_WATCH_ANA.HI)
           if inside = s.flag CEL_WATCH_ANA.OUTSIDE then u.rd CEL_WATCH_STS.RUN = 0
           else u.rd CEL_WATCH_STS.RUN = min (s.rd CEL_WATCH_STS.RUN + 1) 15
             ∧ (s.rd CEL_WATCH_CFG.N ≤ u.rd CEL_WATCH_STS.RUN → (s.rd CEL_WAKE_EN.EN).testBit 5 = true → pend u 5 = true)))
    ∧ ((s.cel.off ≠ 1 ∧ s.rd CEL_WATCH_CFG.RUN_ACTIVE = 0) ∨ s.cel.ticks < s.cel.watchAt + 2 ^ s.rd CEL_WATCH_CFG.PER_LOG2 → exec (.watchSample ana pins) s = .next s)

/-- From R383, R394, R395 and R398 to R400. A tick advances the RTC by one, or by the trim's carry, or loads it after SET; it reports the
alarm when the RTC reaches it. The anchor takes the RTC and TSU time. A supply sample shows its level and reports LOW once; a brown-out
loses every Cellar register, and the Cellar powers up with CELLAR_LOST set. A lost TCXO stops the radios, the ASN and the servo, and RC goes
on; a lost SerDes reference takes the links down; a missing reference that passes its check comes back. An accepted crystal that fails hands
the RTC to the internal oscillator, and its measurement sets the trim. PCIe training shows the link, MAX_GEN at most. A check, a sample, a
stamp and a measurement before its time does nothing; a reference that has stopped is seen at once. -/
def Obligations.ClocksAndSupplyAreWatched : Prop :=
  ∀ (present unlocked lockUs gen width level t : Nat) (r : Fin 3) (keyOp vbat : Bool) (ppm dev : List Int) (ppb celsius rcErr : Int) (s : State),
    let passed (n ms : Nat) : Prop := n * 1000 + ms * 32768 ≤ s.cel.ticks * 1000
    let ok : Nat := refsIn (s.rd CLK_MON_CFG.TOL_PCT * 10000) present dev
    (s.cel.off ≠ 4 →
      (∃ u, exec (.rtcTick t) s = .next u ∧ u.cel.ticks = s.cel.ticks + 1 ∧ u.rd CEL_STS.WR_PEND = 0 ∧ u.rd CEL_RTC_TICK.TICK = u.cel.rtc % 32768
        ∧ (if s.cel.setDue then u.cel.rtc = s.rd CEL_RTC_SET_S.S * 32768 + s.rd CEL_RTC_SET_TICK.TICK ∧ u.cel.setDue = false ∧ u.rd CEL_STS.RTC_VALID = 1
           else if 1000000000 ≤ s.cel.trim + s.rdS CEL_TRIM.PPB then u.cel.rtc = (s.cel.rtc + 2) % (2 ^ 32 * 32768)
           else if s.cel.trim + s.rdS CEL_TRIM.PPB ≤ -1000000000 then u.cel.rtc = s.cel.rtc % (2 ^ 32 * 32768)
           else u.cel.rtc = (s.cel.rtc + 1) % (2 ^ 32 * 32768) ∧ u.cel.trim = s.cel.trim + s.rdS CEL_TRIM.PPB)
        ∧ (s.cel.rtc < alarmTicks s → alarmTicks s ≤ u.cel.rtc → u.rd CEL_INT_STS.ALARM = 1 ∧ ((s.rd CEL_WAKE_EN.EN).testBit 4 = true → (u.rd CEL_WAKE_STS.PEND).testBit 4 = true)))
      ∧ (¬passed s.cel.vbatAt 1000 → exec (.vbatSample level celsius) s = .next s)
      ∧ (passed s.cel.vbatAt 1000 → ∃ u, exec (.vbatSample level celsius) s = .next u ∧ u.rd CEL_VBAT_STS.LEVEL = min level 255 ∧ u.rdS CEL_TEMP.C = clampI (-128) 127 celsius
          ∧ (let low : Prop := 150 + min level 255 < 180 + 10 * s.rd CEL_VBAT_CFG.THR
             (u.rd CEL_VBAT_STS.LOW = 1 ↔ low) ∧ (u.rd CEL_STS.VBAT_PRESENT = 1 ↔ 30 ≤ min level 255)
               ∧ (low → s.rd CEL_VBAT_STS.LOW = 0 → u.rd CEL_INT_STS.VBAT_LOW = 1 ∧ u.rd CEL_VBAT_LOWS = (s.rd CEL_VBAT_LOWS + 1) % 2 ^ 32)
               ∧ (¬ low ∨ s.rd CEL_VBAT_STS.LOW = 1 → u.rd CEL_VBAT_LOWS = s.rd CEL_VBAT_LOWS)))
      ∧ (s.rd CEL_REG_STS.LP = 1 → ∃ u, exec (.regLimit true) s = .next u ∧ u.rd CEL_REG_STS.LIMIT = 1 ∧ u.rd CEL_INT_STS.REG_LIMIT = 1 ∧ u.rd CEL_REG_LIMITS = (s.rd CEL_REG_LIMITS + 1) % 2 ^ 32)
      ∧ (s.rd CEL_REG_STS.LP = 0 → exec (.regLimit true) s = .next s) ∧ exec (.regLimit false) s = .next (s.put CEL_REG_STS.LIMIT false)
      ∧ (∃ u, exec .cellarBrownout s = .next u ∧ u.cellar = [] ∧ u.anchor = none ∧ u.cel.off = 4 ∧ u.cel.rtc = 0 ∧ u.cel.secret = 0 ∧ u.nodes = [] ∧ u.jdev = s.jdev)
      ∧ exec (.cellarPowerUp vbat) s = .next s
      ∧ (∃ u, exec (.xtalCheck true keyOp t) s = .next u ∧ u.cel.intOsc = false ∧ u.cel.xtalOk = true
          ∧ (powered s = true → u.rd CLK_XTAL_STS.RUN = 1 ∧ u.rd CLK_XTAL_STS.FAIL = 0 ∧ rawSet u 5 = false))
      ∧ (s.cel.xtalOk = true → s.cel.intOsc = false → powered s = true → s.rd CLK_XTAL_STS.FAIL = 0 → s.rd KEY_STS.STATE = 3 → ∃ u, exec (.xtalCheck false keyOp t) s = .next u ∧ u.cel.intOsc = true
          ∧ u.rd CEL_INT_STS.XTAL_FAIL = 1 ∧ u.rd CLK_XTAL_STS.FAIL = 1 ∧ u.rd CLK_XTAL_STS.RUN = 0 ∧ u.rd CLK_XTAL_FAILS = (s.rd CLK_XTAL_FAILS + 1) % 2 ^ 32 ∧ rawSet u 5 = true
          ∧ u.rd (KEY_RIND_CNT.COUNT 5) = (s.rd (KEY_RIND_CNT.COUNT 5) + 1) % 2 ^ 32))
    ∧ (s.cel.off = 4 → exec (.rtcTick t) s = .next s ∧ exec .cellarBrownout s = .next s
        ∧ ∃ u, exec (.cellarPowerUp vbat) s = .next u ∧ u.cel.off = 3 ∧ u.cel.fresh = true ∧ u.cel.rtc = 0 ∧ u.rd CEL_STS.CELLAR_LOST = 1 ∧ u.rd CEL_STS.RTC_VALID = 0
            ∧ u.rd CEL_STS.VBAT_PRESENT = ofBool vbat ∧ (u.rd (CEL_LEDGER.W 1)).testBit 18 = false ∧ ∀ i : Fin 32, u.rd (CEL_BKP.V i) = 0)
    ∧ (powered s = true →
      (∃ u, exec (.rtcSet t) s = .next u ∧ u.cel.setDue = true ∧ ∀ f : Fld, u.rd f = s.rd f)
      ∧ (¬passed s.cel.anchorAt (1000 * s.rd CEL_CFG.ANCHOR_S) → exec (.anchorStamp t) s = .next (s.at t))
      ∧ (s.rd TSU_STS.REF = 1 → passed s.cel.anchorAt (1000 * s.rd CEL_CFG.ANCHOR_S) → ∃ u, exec (.anchorStamp t) s = .next u ∧ u.anchor = some (s.cel.rtc, (s.at t).tsuNs) ∧ u.rd CEL_ANCHOR_STS.AGE_S = 0 ∧ u.rd CEL_ANCHOR_STS.VALID = 1)
      ∧ (s.boot.clockDone = true →
        (unlocked % 64 = 0 → (∀ i : Fin 3, (s.rd CLK_STS.REF_OK).testBit i = true → present.testBit i = true) → (s.at t).reached (s.boot.monAt + 100000) = false →
          exec (.clockMonitorCheck present unlocked dev ppm rcErr keyOp t) s = .next (s.at t))
        ∧ ((s.rd CLK_STS.REF_OK).testBit 0 = true → ok.testBit 0 = false → present.testBit 0 = false ∨ (s.at t).reached (s.boot.monAt + 100000) = true → ∃ u, exec (.clockMonitorCheck present 0 dev ppm rcErr keyOp t) s = .next u
          ∧ u.rd CLK_TCXO_LOSS = (s.rd CLK_TCXO_LOSS + 1) % 2 ^ 32 ∧ u.rd CLK_INT_STS.NO_TCXO = 1 ∧ (u.rd CLK_STS.REF_OK).testBit 0 = false ∧ rawSet u 2 = true ∧ u.rd MAC_STS.ASN_RUN = 0
          ∧ u.rd TSU_SERVO_STS.STATE = 0 ∧ u.rc = (s.at t).rc ∧ (s.rd (CLK_ISL_STS.ON_REF 1) = 1 → u.rd TSU_STS.REF = 0)
          ∧ ∀ n : Fin 4, u.rd (RFE_CTL.EN n) = 0 ∧ (coverOn s = false → u.rd (RFE_STS.STATE n) = 0))
        ∧ ((s.rd CLK_STS.REF_OK).testBit 1 = true → ok.testBit 1 = false → present.testBit 1 = false ∨ (s.at t).reached (s.boot.monAt + 100000) = true → ∃ u, exec (.clockMonitorCheck present 0 dev ppm rcErr keyOp t) s = .next u
          ∧ u.rd CLK_SERDES_LOSS = (s.rd CLK_SERDES_LOSS + 1) % 2 ^ 32 ∧ u.rd CLK_INT_STS.NO_SERDES = 1 ∧ ∀ p : Fin 2, u.rd (ETH_P_STS.LINK p) = 0 ∧ u.rd (PAIR_LANE_STS.UP p) = 0)
        ∧ (s.rd CLK_CFG.AUTO_RET = 0 ∨ (s.at t).reached (s.boot.recheckAt + 10000000) = false → exec (.refRecheckTimer present dev lockUs t) s = .next (s.at t))
        ∧ ((s.rd CLK_STS.REF_OK).testBit r = false →
          ∀ c ∈ [Instr.clkRefRecheck (2 ^ r.val) present dev lockUs t] ++ (if s.rd CLK_CFG.AUTO_RET = 1 ∧ (s.at t).reached (s.boot.recheckAt + 10000000) = true then [Instr.refRecheckTimer present dev lockUs t] else []),
            ∃ u, exec c s = .next u ∧ (u.rd CLK_STS.REF_OK).testBit r = (ok.testBit r && decide (lockUs ≤ 200)) ∧ (ok.testBit r = true → lockUs ≤ 200 → u.rd CLK_INT_STS.REF_BACK = 1 ∧ u.rd (CLK_REF_STS.IN_TOL r) = 1 ∧ rawSet u (2 + r) = false)))
      ∧ ((s.at t).reached (s.boot.xtalAt + 2 ^ s.rd CLK_XTAL_CFG.WIN_LOG2 * 1000000000) = false → exec (.xtalMeasure ppb t) s = .next (s.at t))
      ∧ ((s.at t).reached (s.boot.xtalAt + 2 ^ s.rd CLK_XTAL_CFG.WIN_LOG2 * 1000000000) = true → s.rd CLK_XTAL_CFG.EN = 1 → s.rd CLK_XTAL_STS.RUN = 1 → -2147483648 ≤ ppb → ppb < 2147483648 → ∃ u, exec (.xtalMeasure ppb t) s = .next u ∧ u.rdS CLK_XTAL_MEAS.PPB = ppb
          ∧ u.rd CLK_XTAL_MEASURES = (s.rd CLK_XTAL_MEASURES + 1) % 2 ^ 32 ∧ u.rd CLK_INT_STS.XTAL_MEAS_DONE = 1 ∧ (u.rd CLK_XTAL_STS.DISCIPLINED = 1 ↔ s.rd TSU_SERVO_STS.STATE = 2)
          ∧ u.rdS CEL_TRIM.PPB = (if s.rd CEL_RTC_CTL.AUTO_TRIM = 1 then clampI (-250000) 250000 ppb else s.rdS CEL_TRIM.PPB)))
    ∧ (s.rd HIF_CFG.STANDALONE = 0 → ∃ u, exec (.pcieLinkUp gen width t) s = .next u ∧ u.rd HIF_STS.LINK_UP = 1 ∧ u.rd HIF_STS.GEN = clampN 1 (s.rd HIF_PCIE_CFG.MAX_GEN) gen % 2 ^ HIF_STS.GEN.width
        ∧ u.rd HIF_STS.WIDTH = linkWidth width % 2 ^ HIF_STS.WIDTH.width ∧ (u.rd CLK_STS.REF_OK).testBit 2 = true)
    ∧ (s.rd HIF_CFG.STANDALONE = 1 → exec (.pcieLinkUp gen width t) s = .next (s.at t))

/-- From R125, R136, R138 and R291. A schedule command that comes while SRC_CFG.EN is clear is taken, and waits until its row comes again
with EN set (log entry 15). With it set and the ring ready it counts in SRC_HOST_CMDS and completes: SCHED_ADD with a bad record or BASE_GEN
answers 0xF1, one past the end of its slotframe 5, a stale one 3; SCHED_DEL and SCHED_MOVE of an index with no cell 0xF1; a SCHED_DEL or
SCHED_ADD with HOLD stages its change and answers 0 at once, a SCHED_DEL without it is answered by the apply it asks for; a SCHED_MOVE with
HOLD stages both its changes and counts one move; SCHED_READ gives the record and its position, or 5; SCHED_NODE the length of a chain and
its indices, 6 for no active node; SCHED_SF_CLEAR answers 7 for a slotframe that is enabled or on, 4 while a node of one of its cells has a
transaction outstanding, and else stages the deletion of its cells. -/
def Obligations.ScheduleCommandsAnswer : Prop :=
  ∀ (c : SchedCmd) (sf : Fin 64) (x : CellSpec) (ofs idx nix i f t : Nat) (s : State),
    let cur : Nat := s.rd SRC_GEN.CUR
    let old : Cell := Store.find {} (workCells s) idx
    let word : Nat := packCell (Store.find {} s.src.cells idx)
    let counted (u : State) : Prop := u.rd SRC_HOST_CMDS = (s.rd SRC_HOST_CMDS + 1) % 2 ^ 32
    let turned (q : Instr) (op code : Nat) : Prop := ∃ u, exec q s = .next u ∧ counted u ∧ answers s u c.ring op c.tag code ∧ u.src = s.src
    let parked (u : State) : Bool := Store.find false u.hif.parked c.ring
    (s.rd SRC_CFG.EN = 0 → ∀ q ∈ [Instr.schedAdd c sf ofs x t, .schedDel c idx t, .schedMove c idx sf ofs x t, .schedRead c idx t, .schedNode c nix t, .schedSfClear c sf t],
      (parked s = true ∨ cmdReady s c.ring = false → exec q s = .next (s.at t))
      ∧ (parked s = false → s.ready c.ring → ∃ u, exec q s = .next u ∧ parked u = true ∧ u.src = s.src ∧ u.rd HIF_CMD_DONE = s.rd HIF_CMD_DONE
          ∧ u.rd (HIF_R_IDX.HEAD (64 + c.ring)) = (s.rd (HIF_R_IDX.HEAD (64 + c.ring)) + 1) % 2 ^ s.rd (HIF_R_CFG.SIZE_LOG2 (64 + c.ring)) % 2 ^ 16))
    ∧ (s.rd SRC_CFG.EN = 1 → parked s = true → Store.find false s.hif.orphan c.ring = false →
      (sfOf s (sfsEn s ++ List.range 64) idx = none → turned (.schedRead c idx t) 0x33 5)
      ∧ (owns s = true → old.typ = 0 → turned (.schedDel c idx t) 0x31 0xF1 ∧ turned (.schedMove c idx sf ofs x t) 0x32 0xF1))
    ∧ (s.rd SRC_CFG.EN = 1 → parked s = false → s.takes c.ring →
      ((specOk s x = false ∨ 256 ≤ c.baseGen → turned (.schedAdd c sf ofs x t) 0x30 0xF1)
      ∧ (specOk s x = true → c.baseGen < 256 →
        (s.rd (SRC_SF_GEOM.LEN sf) ≤ ofs + x.span → turned (.schedAdd c sf ofs x t) 0x30 5)
        ∧ (ofs + x.span < s.rd (SRC_SF_GEOM.LEN sf) → c.baseGen ≠ 0 → c.baseGen ≠ cur → turned (.schedAdd c sf ofs x t) 0x30 3)
        ∧ (schedPre s c sf ofs x 1 = 0 → announces s c (specCell x) = false → c.hold = true → tryPlace (checkTime (s.at t)) sf ofs (specCell x) none = .at_ i →
          ∃ u, exec (.schedAdd c sf ofs x t) s = .next u ∧ counted u ∧ completes s u c.ring 0x30 c.tag 0 i 0 0 []
            ∧ changesDue u = changesDue s ++ [.add i (specCell x) false] ∧ (s.src.spill = [] → u.src.staged = s.src.staged ++ [.add i (specCell x) false]) ∧ u.rd SRC_ADDS = (s.rd SRC_ADDS + 1) % 2 ^ 32 ∧ u.src.cells = s.src.cells))
      ∧ (old.typ = 0 → turned (.schedDel c idx t) 0x31 0xF1 ∧ turned (.schedMove c idx sf ofs x t) 0x32 0xF1)
      ∧ (old.typ ≠ 0 → schedPre s c sf ofs x 2 = 0 → p6Busy s old = false → announces s c (specCell x) = false → c.hold = true →
          tryPlace (checkTime (s.at t)) sf ofs (specCell x) (some idx) = .at_ i →
          ∃ u, exec (.schedMove c idx sf ofs x t) s = .next u ∧ counted u ∧ completes s u c.ring 0x32 c.tag 0 i 0 0 []
            ∧ changesDue u = changesDue s ++ [.del idx false, .add i (specCell x) false] ∧ u.rd SRC_MOVES = (s.rd SRC_MOVES + 1) % 2 ^ 32
            ∧ u.rd SRC_ADDS = s.rd SRC_ADDS ∧ u.rd SRC_DELETES = s.rd SRC_DELETES ∧ u.src.cells = s.src.cells)
      ∧ (old.typ ≠ 0 → c.baseGen < 256 →
        (c.baseGen ≠ 0 → c.baseGen ≠ cur → turned (.schedDel c idx t) 0x31 3)
        ∧ (c.baseGen = 0 ∨ c.baseGen = cur → p6Busy s old = true → turned (.schedDel c idx t) 0x31 4)
        ∧ (c.baseGen = 0 ∨ c.baseGen = cur → p6Busy s old = false → announces s c old = false → stageRoom s 1 = false → turned (.schedDel c idx t) 0x31 8)
        ∧ (c.baseGen = 0 ∨ c.baseGen = cur → p6Busy s old = false → announces s c old = false → stageRoom s 1 = true →
          ∃ u, exec (.schedDel c idx t) s = .next u ∧ counted u ∧ u.rd SRC_DELETES = (s.rd SRC_DELETES + 1) % 2 ^ 32 ∧ u.src.cells = s.src.cells ∧ changesDue u = changesDue s ++ [.del idx false]
            ∧ (s.src.spill = [] → if c.hold then answers s u c.ring 0x31 c.tag 0 ∧ u.src.staged = s.src.staged ++ [.del idx false]
               else if s.src.applying = none then u.src.applying = some (s.src.staged ++ [.del idx false]) ∧ u.src.staged = []
                 ∧ u.src.cmdNow = s.src.cmdNow ++ s.src.cmdNext ++ [(c.ring.val, 0x31, c.tag, 0)]
               else u.src.applyDue = true ∧ u.src.cmdNext = s.src.cmdNext ++ [(c.ring.val, 0x31, c.tag, 0)])))
      ∧ (64 ≤ ofs → turned (.schedSfClear c ofs t) 0x35 0xF1)
      ∧ (let gone := (workCells s).filter (fun p => p.2.typ != 0 && inPartition s sf p.1)
         c.baseGen = 0 ∨ c.baseGen = cur → s.rd (SRC_SF_CFG.EN sf) = 0 → s.rd (SRC_SF_CFG.ON sf) = 0 →
          if gone.any (fun p => p6Busy s p.2) then turned (.schedSfClear c sf t) 0x35 4
          else ∃ u, exec (.schedSfClear c sf t) s = .next u ∧ counted u ∧ u.src.cells = s.src.cells ∧ u.rd SRC_DELETES = (s.rd SRC_DELETES + gone.length) % 2 ^ 32
            ∧ changesDue u = changesDue s ++ gone.map (fun p => .del p.1 false))
      ∧ (c.baseGen = 0 ∨ c.baseGen = cur → s.rd (SRC_SF_CFG.EN sf) = 1 ∨ s.rd (SRC_SF_CFG.ON sf) = 1 → turned (.schedSfClear c sf t) 0x35 7)))
    ∧ (s.rd SRC_CFG.EN = 1 → parked s = false → s.ready c.ring →
      (sfOf s (sfsEn s ++ List.range 64) idx = none → turned (.schedRead c idx t) 0x33 5)
      ∧ (sfOf s (sfsEn s ++ List.range 64) idx = some f →
        (c.baseGen ≠ 0 → c.baseGen ≠ cur → turned (.schedRead c idx t) 0x33 3)
        ∧ (c.baseGen = 0 ∨ c.baseGen = cur → ∃ u, exec (.schedRead c idx t) s = .next u ∧ counted u ∧ u.src = s.src
            ∧ completes s u c.ring 0x33 c.tag 0 (word % 2 ^ 32) (word / 2 ^ 32) (f + 2 ^ 16 * offsetOf s f idx) []))
      ∧ (262144 ≤ nix → turned (.schedNode c nix t) 0x34 0xF1)
      ∧ (nix < 262144 → c.baseGen = 0 ∨ c.baseGen = cur →
        (nodeActive s nix = false → turned (.schedNode c nix t) 0x34 6)
        ∧ (nodeActive s nix = true → s.gives c.ring { tag := c.tag, addr := c.addr, len := c.len } c.len → ∃ u, exec (.schedNode c nix t) s = .next u ∧ counted u ∧ u.src = s.src
            ∧ completes s u c.ring 0x34 c.tag 0 (s.node nix).cellCnt 0 0 ((chainOf s nix).take (c.len / 4)))))

/-- From R123, R124, R136 and R137. A slotframe that passes its checks gets EN and a staged change; one that fails keeps EN and shows why in
BAD_WHY with SF_BAD. Clearing EN stages a change too. COMMIT, and the expiry of COMMIT_MS with an adaptive change staged and not before,
start an apply of everything staged, or mark one as due while another runs; a change beyond the queue's 256 waits (log entry 29). The end of
an apply counts it, makes the next generation, which skips 0, and gives it the boundary 2 slots on, at once while the ASN does not run.
CLEAR empties the Cell Store, the staging queue and every slotframe's EN and ON and sets the generation to 0; its completion ends it. -/
def Obligations.GenerationsCommitAndClear : Prop :=
  ∀ (sf : Fin 64) (f : Fin 64) (l : List Change) (t : Nat) (s : State),
    let started (u : State) : Prop :=
      if s.src.applying = none then u.src.applying = some s.src.staged ∧ u.src.staged = s.src.spill.take 256 ∧ u.src.spill = s.src.spill.drop 256 ∧ u.rd SRC_STS.STAGED = (s.src.spill.take 256).length
          ∧ (s.src.spill = [] → u.src.cmdNow = s.src.cmdNow ++ s.src.cmdNext)
      else u.src.applyDue = true ∧ u.src.staged = s.src.staged ∧ u.src.applying = s.src.applying
    let due : Bool := (s.at t).reached (s.src.commitAt + s.rd SRC_ADAPT_CFG.COMMIT_MS * 1000000)
    let room : Prop := s.src.staged.length < 256 ∧ s.src.spill = []
    (s.rd SRC_CFG.EN = 0 ∨ s.rd (SRC_SF_CFG.EN sf) = 1 → exec (.sfEnable sf t) s = .next (s.at t))
    ∧ (s.rd SRC_CFG.EN = 1 → s.rd (SRC_SF_CFG.EN sf) = 0 →
      let why : Nat := (sfCheck s sf (sfsEn s)).1
      ∃ u, exec (.sfEnable sf t) s = .next u ∧ u.src.cells = s.src.cells
        ∧ (if why = 0 then u.rd (SRC_SF_CFG.EN sf) = 1 ∧ changesDue u = changesDue s ++ [.enable sf.val] ∧ (room → u.src.staged = s.src.staged ++ [.enable sf.val])
           else u.rd (SRC_SF_CFG.EN sf) = 0 ∧ u.rd (SRC_SF_CFG.BAD_WHY sf) = why ∧ u.rd SRC_INT_STS.SF_BAD = 1 ∧ u.src = s.src))
    ∧ (∃ u, exec (.sfDisable sf t) s = .next u ∧ u.rd (SRC_SF_CFG.EN sf) = 0
        ∧ changesDue u = changesDue s ++ (if s.rd (SRC_SF_CFG.EN sf) = 1 then [.disable sf.val] else [])
        ∧ (room → u.src.staged = s.src.staged ++ (if s.rd (SRC_SF_CFG.EN sf) = 1 then [.disable sf.val] else [])) ∧ u.rd (SRC_SF_CFG.ON sf) = s.rd (SRC_SF_CFG.ON sf))
    ∧ (s.rd SRC_CFG.EN = 1 → s.src.staged ≠ [] → ∃ u, exec (.genCommit t) s = .next u ∧ started u)
    ∧ (s.rd SRC_CFG.EN = 0 ∨ s.src.staged = [] → exec (.genCommit t) s = .next (s.at t))
    ∧ (due = false → exec (.commitMsExpiry t) s = .next (s.at t))
    ∧ (due = true → s.rd SRC_CFG.EN = 1 → stagedAdaptive s = true → ∃ u, exec (.commitMsExpiry t) s = .next u ∧ started u ∧ u.src.commitAt = (s.at t).rc)
    ∧ (due = true → s.rd SRC_CFG.EN = 0 ∨ stagedAdaptive s = false → exec (.commitMsExpiry t) s = .next { s.at t with src := { s.src with commitAt := (s.at t).rc } })
    ∧ (s.src.applying = none → exec (.genApplyComplete t) s = .next (s.at t))
    ∧ (s.src.applying = some l →
      ∃ u, exec (.genApplyComplete t) s = .next u
        ∧ u.rd SRC_GEN.CUR = (if s.rd SRC_GEN.CUR = 255 then 1 else s.rd SRC_GEN.CUR + 1)
        ∧ u.rd SRC_GEN.BOUND = (if s.rd MAC_STS.ASN_RUN = 1 then (s.asn + 2) % 2 ^ 24 else s.asn % 2 ^ 24)
        ∧ u.rd SRC_GEN_COMMITS = (s.rd SRC_GEN_COMMITS + 1) % 2 ^ 32 ∧ u.rd SRC_INT_STS.GEN_COMMIT = 1
        ∧ (s.src.applyDue = false → s.src.sendNow = [] → u.src.applying = none ∧ u.src.cmdNow = [] ∧ (s.rd MAC_STS.ASN_RUN = 0 → u.src.live = u.src.cells)
            ∧ (s.rd MAC_STS.ASN_RUN = 1 → u.src.live = s.src.live ∧ u.src.bounds.length = s.src.bounds.length + 1)))
    ∧ (∃ u, exec (.genClear t) s = .next u ∧ u.src.cells = [] ∧ u.src.live = [] ∧ u.src.staged = [] ∧ u.src.applying = none ∧ u.src.bounds = [] ∧ u.src.clearing = true
        ∧ u.rd SRC_GEN.CUR = 0 ∧ u.rd SRC_STS.STAGED = 0 ∧ u.rd SRC_CELLS_USED.CELLS = 0 ∧ u.rd (SRC_SF_CFG.EN f) = 0 ∧ u.rd (SRC_SF_CFG.ON f) = 0)
    ∧ (s.src.clearing = false → exec (.genClearComplete t) s = .next (s.at t))
    ∧ (s.src.clearing = true → ∃ u, exec (.genClearComplete t) s = .next u ∧ u.src.clearing = false ∧ u.src.evicting = [] ∧ u.src.evictNext = [] ∧ (∀ f : Fld, u.rd f = s.rd f))

/-- From R145, R146, R148 and R149. A switch that is armed and passes its checks sets ARM and shows its boundary of the new slotframe, at or
after the ASN asked for when that is 2 slots on, else after the slot 2 on with LATE_SWITCH; one that fails sets BAD. A window move of FE2 is
refused; another one is armed with its ASN, and in the slot before it the new centre is written, once. An automatic QUIET cell is staged
where the search finds a place. Serac's microcode is written into the inactive bank while SYS_LC_STS.LC is at most 2; arming it starts an
apply, unless the checks fail. -/
def Obligations.SwitchesMovesAndMicrocode : Prop :=
  ∀ (frm target : Fin 64) (fe : Fin 4) (fromEn ok : Bool) (word : Word) (khz i t : Nat) (c : Cell) (s : State),
    let asked (lo hi : Fld) : Nat := s.rd lo + 2 ^ 32 * s.rd hi
    let goAt (a : Nat) : Nat := if 2 ≤ ahead a s.asn then a else (s.asn + 2) % 2 ^ 40
    let wuc : Nat := (1 - s.rd SRC_STS.UC_BANK) * 4096 + s.rd SRC_UC_IDX.WORD
    (∃ u, exec (.sfSwitchArm frm target fromEn false t) s = .next u ∧ u.rd SRC_SW_CTL.ARM = 0 ∧ u.rd SRC_SW_CTL.FROM = frm ∧ u.rd SRC_SW_CTL.TO = target)
    ∧ (let why : Nat := (sfCheck s target ((sfsEn s).filter (fun g => !(fromEn && g = frm.val)))).1
       let a : Nat := asked SRC_SW_ASN_LO.ASN SRC_SW_ASN_HI.ASN
       ∃ u, exec (.sfSwitchArm frm target fromEn true t) s = .next u ∧ u.rd SRC_SW_CTL.FROM = frm ∧ u.rd SRC_SW_CTL.TO = target ∧ u.rd SRC_SW_CTL.FROM_EN = ofBool fromEn
         ∧ (if why = 0 then u.rd SRC_SW_CTL.ARM = 1 ∧ u.rd SRC_SW_CTL.BAD = 0 ∧ u.rd SRC_SW_AT_LO.ASN + 2 ^ 32 * u.rd SRC_SW_AT_HI.ASN = sfBoundary s target (goAt a)
              ∧ (ahead a s.asn < 2 → u.rd SRC_STS.LATE_SWITCH = 1 ∧ u.rd SRC_INT_STS.LATE_SWITCH = 1)
            else u.rd SRC_SW_CTL.ARM = 0 ∧ u.rd SRC_SW_CTL.BAD = 1 ∧ u.rd SRC_INT_STS.SW_BAD = 1))
    ∧ (∃ u, exec (.wmoveArm fe khz false t) s = .next u ∧ u.rd SRC_WMOVE_CTL.ARM = 0 ∧ u.src = s.src)
    ∧ (∃ u, exec (.wmoveArm 2 khz true t) s = .next u ∧ u.rd SRC_WMOVE_CTL.ARM = 0 ∧ u.rd SRC_WMOVE_CTL.BAD = 1 ∧ u.src = s.src)
    ∧ (fe ≠ 2 → ∃ u, exec (.wmoveArm fe khz true t) s = .next u ∧ u.rd SRC_WMOVE_CTL.ARM = 1 ∧ u.rd SRC_WMOVE_CTL.BAD = 0 ∧ u.rd SRC_WMOVE_CTL.FE = fe
        ∧ u.rd SRC_WMOVE_CTL.CENTRE = centreClamp fe khz ∧ u.src.wmoveAt = goAt (asked SRC_WMOVE_ASN_LO.ASN SRC_WMOVE_ASN_HI.ASN) ∧ u.src.wmoveSent = false
        ∧ (ahead (asked SRC_WMOVE_ASN_LO.ASN SRC_WMOVE_ASN_HI.ASN) s.asn < 2 → u.rd SRC_STS.WMOVE_LATE = 1))
    ∧ (s.rd SRC_WMOVE_CTL.ARM = 1 → s.rd MAC_STS.ASN_RUN = 1 → s.src.wmoveSent = false → (s.asn + 1) % 2 ^ 40 = s.src.wmoveAt → ((s.at t).rc : Int) + 100000 ≤ tickRc s s.src.wmoveAt → s.rd SRC_WMOVE_CTL.FE = fe → fe ≠ 2 →
        ∃ u, exec (.wmoveCentreWrite t) s = .next u ∧ u.src.wmoveSent = true ∧ u.rd (RFE_TUNE.CENTRE fe) = centreClamp fe (s.rd SRC_WMOVE_CTL.CENTRE))
    ∧ (s.rd SRC_WMOVE_CTL.ARM = 0 ∨ s.rd MAC_STS.ASN_RUN = 0 ∨ s.src.wmoveSent = true ∨ (s.asn + 1) % 2 ^ 40 ≠ s.src.wmoveAt ∨ tickRc s s.src.wmoveAt < ((s.at t).rc : Int) + 100000 → exec (.wmoveCentreWrite t) s = .next (s.at t))
    ∧ (s.rd SRC_CFG.EN = 0 ∨ s.rd MAC_STS.ASN_RUN = 0 ∨ s.rd (SRC_QUIET_CFG.AUTO fe) = 0 ∨ s.rd (RFE_STS.CAL_DUE fe) = 0 ∨ Store.find none s.src.autoQuiet fe ≠ none
        ∨ (∃ k, quietAhead s fe = some k ∧ k ≤ s.rd (SRC_QUIET_CFG.MAX_WAIT fe)) ∨ s.rd (SRC_SF_CFG.EN (s.rd (SRC_QUIET_CFG.QSF fe))) = 0 → exec (.quietAutoPlace fe t) s = .next (s.at t))
    ∧ (s.rd SRC_CFG.EN = 1 → s.rd MAC_STS.ASN_RUN = 1 → s.rd (SRC_QUIET_CFG.AUTO fe) = 1 → s.rd (RFE_STS.CAL_DUE fe) = 1 → Store.find none s.src.autoQuiet fe = none
        → (∀ k, quietAhead s fe = some k → s.rd (SRC_QUIET_CFG.MAX_WAIT fe) < k) → s.rd (SRC_SF_CFG.EN (s.rd (SRC_QUIET_CFG.QSF fe))) = 1 → s.src.applying = none →
        let q : Cell := { next := 0xFFFFF, fe := fe, typ := 5, span := s.rd (SRC_QUIET_CFG.RUN_SLOTS fe) }
        let v : State := checkTime (s.at t)
        searchFirst v [0] (fun _ d => v.flag (MAC_TT_OPT.EN d.tt)) q none (searchPlaces v [s.rd (SRC_QUIET_CFG.QSF fe)] (fun _ => 0)) = some (i, c) →
        ∃ u, exec (.quietAutoPlace fe t) s = .next u ∧ u.src.applying = some (s.src.staged ++ [.add i c false]) ∧ ∃ e, Store.find none u.src.autoQuiet fe = some (i, e))
    ∧ (s.rd SYS_LC_STS.LC ≤ 2 → ∃ u, exec (.srcUcDataWrite word t) s = .next u ∧ Store.find 0 u.src.uc wuc = word.toNat
        ∧ (∀ k, k ≠ wuc → Store.find 0 u.src.uc k = Store.find 0 s.src.uc k) ∧ u.rd SRC_UC_IDX.WORD = (s.rd SRC_UC_IDX.WORD + 1) % 4096
        ∧ u.rd SRC_UC_VER.ACTIVE = s.rd SRC_UC_VER.ACTIVE)
    ∧ (2 < s.rd SYS_LC_STS.LC → exec (.srcUcDataWrite word t) s = .next (s.at t))
    ∧ (∃ u, exec (.srcUcArm false ok t) s = .next u ∧ u.rd SRC_UC_CTL.ARM = 0 ∧ u.src = s.src)
    ∧ (ok = true → srcBankOk s = true → ∃ u, exec (.srcUcArm true ok t) s = .next u ∧ u.rd SRC_UC_CTL.ARM = 1 ∧ u.rd SRC_UC_CTL.BAD = 0
        ∧ (s.src.applying = none → u.src.applying = some s.src.staged) ∧ (s.src.applying ≠ none → u.src.applyDue = true))
    ∧ (s.src.ucBad = true → srcBankOk s = false)
    ∧ (ok = false ∨ srcBankOk s = false → ∃ u, exec (.srcUcArm true ok t) s = .next u ∧ u.rd SRC_UC_CTL.ARM = 0 ∧ u.rd SRC_UC_CTL.BAD = 1
        ∧ u.rd SRC_INT_STS.UC_BAD = 1 ∧ u.src = s.src)

/-- From R134, R139 to R141 and R143; the return codes are those of log entry 12. A 6P request that waits is taken: one with another
version, with another scheduling function, or from a node with a transaction outstanding is answered and counted as an error; a
retransmission, one number before the expected, is answered again; the stored code and the sequence number stay each time; with MAX_OUT
outstanding it is refused as busy. A request with the expected number is processed, and its code stored: COUNT gets SUCCESS, LIST EOL or
SUCCESS, SIGNAL and unknown metadata ERR. A response with another sequence number ends nothing; an error code ends the transaction, counts
and advances the sequence number. A transaction older than TIMEOUT_S is abandoned, counted, and keeps the sequence number. Serac picks once
for a span of a TX cell; without a queue engine it prepares a NOFRAME item. An adaptation visit that is not due, of a node that is not next
or before its period has passed, does nothing; one that is due takes a snapshot of the node's counters and the moment. -/
def Obligations.SixPAndPicksRun : Prop :=
  ∀ (nix : Fin 262144) (q : P6Req) (y : P6Txn) (x : Span) (lane : Fin 4) (tc : Fin 8) (seq code idx t : Nat) (acc : List (Nat × Nat)) (typ : Nat) (bad : Option (Fin 16)) (cor : List (Fin 256)) (s : State),
    let n : Nat := p6Seq s nix
    let wait : Prop := p6Waits s nix = true
    let answered (u : State) : Prop := u.src.p6in = s.src.p6in.erase nix.val ∧ u.rd SRC_6P_ANSWER = (s.rd SRC_6P_ANSWER + 1) % 2 ^ 32 ∧ polByte u (p6StsAt nix) = polByte s (p6StsAt nix)
      ∧ p6Seq u nix = n
    let erred (u : State) : Prop := answered u ∧ u.rd SRC_6P_ERR = (s.rd SRC_6P_ERR + 1) % 2 ^ 32
    let out : Bool := (p6Of s nix).isSome || s.src.p6ack.any (fun a => a.nix = nix.val)
    (p6Waits s nix = false → exec (.p6Request nix q t) s = .next (s.at t) ∧ exec (.p6Response nix seq code acc t) s = .next (s.at t))
    ∧ (wait →
      (q.version ≠ 0 → ∃ u, exec (.p6Request nix q t) s = .next u ∧ erred u)
      ∧ (q.version = 0 → q.sfid ≠ s.rd SRC_6P_CFG.SFID → ∃ u, exec (.p6Request nix q t) s = .next u ∧ erred u)
      ∧ (q.version = 0 → q.sfid = s.rd SRC_6P_CFG.SFID →
        (out = true → ∃ u, exec (.p6Request nix q t) s = .next u ∧ erred u)
        ∧ (out = false → q.seq ≠ n → (q.seq + 1) % 256 = n → ∃ u, exec (.p6Request nix q t) s = .next u ∧ answered u
            ∧ u.rd SRC_6P_ERR = s.rd SRC_6P_ERR)
        ∧ (out = false → q.seq = n → s.rd SRC_6P_CFG.MAX_OUT ≤ p6Count s → ∃ u, exec (.p6Request nix q t) s = .next u ∧ erred u)
        ∧ (out = false → q.seq = n → p6Count s < s.rd SRC_6P_CFG.MAX_OUT →
          let stored (u : State) (k : Nat) : Prop := u.rd SRC_6P_ANSWER = (s.rd SRC_6P_ANSWER + 1) % 2 ^ 32 ∧ polByte u (p6StsAt nix) = k ∧ p6Seq u nix = n
          (∃ u k, exec (.p6Request nix q t) s = .next u ∧ u.src.p6in = s.src.p6in.erase nix.val ∧ stored u k ∧ k ∈ [0, 1, 2, 7, 8, 9])
          ∧ (q.other = true ∨ 64 ≤ q.sf ∨ q.code = 6 → ∃ u, exec (.p6Request nix q t) s = .next u ∧ stored u 2 ∧ u.rd SRC_6P_ERR = (s.rd SRC_6P_ERR + 1) % 2 ^ 32)
          ∧ (q.other = false → q.sf < 64 → p6Type q = some typ →
            (q.code = 4 → ∃ u, exec (.p6Request nix q t) s = .next u ∧ stored u 0 ∧ u.rd SRC_6P_ERR = s.rd SRC_6P_ERR)
            ∧ (q.code = 5 → ∃ u, exec (.p6Request nix q t) s = .next u ∧ u.rd SRC_6P_ERR = s.rd SRC_6P_ERR
                ∧ stored u (if (askedCells s nix q typ).length ≤ q.first + q.numCells then 1 else 0)))))
      ∧ (seq ≠ n → ∃ u, exec (.p6Response nix seq code acc t) s = .next u ∧ u.src = { s.src with p6in := s.src.p6in.erase nix.val } ∧ (∀ f : Fld, u.rd f = s.rd f))
      ∧ (seq = n → p6Of s nix = some y → code ≠ 0 → (∀ v ∈ s.src.wants, v.1 ≠ nix.val) → ∃ u, exec (.p6Response nix seq code acc t) s = .next u ∧ p6Of u nix = none
          ∧ p6Seq u nix = p6Next n ∧ u.rd SRC_6P_ERR = (s.rd SRC_6P_ERR + 1) % 2 ^ 32))
    ∧ (p6Of s nix = none → (∀ a ∈ s.src.p6ack, a.nix ≠ nix.val ∨ a.confirm = false) → exec (.p6TransactionTimeout nix t) s = .next (s.at t))
    ∧ (p6Of s nix = some y →
      ((s.at t).rc < y.since + s.rd SRC_6P_CFG.TIMEOUT_S * 1000000000 → exec (.p6TransactionTimeout nix t) s = .next (s.at t))
      ∧ (y.since + s.rd SRC_6P_CFG.TIMEOUT_S * 1000000000 ≤ (s.at t).rc → (∀ v ∈ s.src.wants, v.1 ≠ nix.val) → ∃ u, exec (.p6TransactionTimeout nix t) s = .next u ∧ p6Of u nix = none
          ∧ p6Seq u nix = n ∧ u.rd SRC_6P_TIMEOUT = (s.rd SRC_6P_TIMEOUT + 1) % 2 ^ 32 ∧ u.rd SRC_INT_STS.P6_TIMEOUT = 1))
    ∧ ((spanOf s lane idx = none ∨ s.rd SRC_CFG.EN = 0 ∨ s.rd MAC_STS.ASN_RUN = 0 ∨ owns s = false) → exec (.seracPick lane idx bad cor t) s = .next (eccFix cor (s.at t)))
    ∧ (spanOf s lane idx = some x →
      (x.picked = true ∨ txCapable x.cell.typ = false → exec (.seracPick lane idx bad cor t) s = .next (eccFix cor (s.at t)))
      ∧ (x.picked = false → x.cell.typ = 1 → s.rd SRC_CFG.EN = 1 → s.rd MAC_STS.ASN_RUN = 1 → owns s = true → s.rd QMS_CFG.EN = 0 →
          ∃ u, exec (.seracPick lane idx bad [] t) s = .next u ∧ u.qms = s.qms ∧ (∀ f : Fld, u.rd f = s.rd f)
            ∧ (laneOf u lane).preparing = (laneOf s lane).preparing
                ++ [{ idx := x.idx, asn := x.asn, noframe := true, ward := s.rd (SRC_SF_CFG.OWNER x.sf) }]))
    ∧ (p6Runs s = false ∨ visitDue (s.at t) nix = false → exec (.adaptVisit nix tc t) s = .next (s.at t))
    ∧ (p6Runs s = true → visitDue (s.at t) nix = true →
        ∃ u, exec (.adaptVisit nix tc t) s = .next u ∧ u.src.visited = some nix.val ∧ (let r : Snap := Store.find {} u.src.snap nix
          r.txAtt = (s.node nix).txAtt ∧ r.rxOk = (s.node nix).rxOk ∧ r.asn = s.asn ∧ r.seen = true ∧ r.time = (s.at t).rc))

/-- Every command completes in every state, with any operands, and changes only what it names: every register field outside the fields and blocks
of its list reads as before, and every part of the state outside it, memory included, is as before; the waiting commands always are. -/
def Obligations.EveryCommandKeepsTheRest : Prop :=
  ∀ (c : Instr) (s : State), ∃ u, exec c s = .next u ∧ Only (touchMask (touches c)) s u

/-- In every state whose memories (those of the policy cores and of the Cave core, and the journal device) are in their canonical form, a step
answers a next state, and its memories are in that form too: offsets strictly rise and no octet that an unlisted offset reads as (0, R355) is
listed. -/
def Obligations.StepsKeepTheMemoryForm : Prop :=
  ∀ s : State, s.memOk → ∃ u, step s = .next u ∧ u.memOk

/-- After reset the memories of the policy cores and of the Cave core and the journal device are in their canonical form. -/
def Obligations.ResetMemoryIsInForm : Prop :=
  State.reset.memOk
end

