-- ==== Sys2Proof/Laws/Fields.lean ====
section
/-!
SUPPORT. The number, element and width of each register field, so that no proof unfolds one.
-/

namespace Sys2Proof.Machine

@[simp] theorem RFE_CTL.EN_id (n : Nat) : (RFE_CTL.EN n).id = 1 ∧ (RFE_CTL.EN n).ix = n ∧ (RFE_CTL.EN n).width = 1 := ⟨rfl, rfl, rfl⟩
@[simp] theorem RFE_CTL.TX_EN_id (n : Nat) : (RFE_CTL.TX_EN n).id = 2 ∧ (RFE_CTL.TX_EN n).ix = n ∧ (RFE_CTL.TX_EN n).width = 1 := ⟨rfl, rfl, rfl⟩
@[simp] theorem RFE_CTL.COVER_EN_id (n : Nat) : (RFE_CTL.COVER_EN n).id = 3 ∧ (RFE_CTL.COVER_EN n).ix = n ∧ (RFE_CTL.COVER_EN n).width = 1 := ⟨rfl, rfl, rfl⟩
@[simp] theorem RFE_CTL.AUTO_CAL_id (n : Nat) : (RFE_CTL.AUTO_CAL n).id = 4 ∧ (RFE_CTL.AUTO_CAL n).ix = n ∧ (RFE_CTL.AUTO_CAL n).width = 1 := ⟨rfl, rfl, rfl⟩
@[simp] theorem RFE_CTL.ACK_PIX_id (n : Nat) : (RFE_CTL.ACK_PIX n).id = 5 ∧ (RFE_CTL.ACK_PIX n).ix = n ∧ (RFE_CTL.ACK_PIX n).width = 4 := ⟨rfl, rfl, rfl⟩
@[simp] theorem RFE_CTL.EB_PIX_id (n : Nat) : (RFE_CTL.EB_PIX n).id = 6 ∧ (RFE_CTL.EB_PIX n).ix = n ∧ (RFE_CTL.EB_PIX n).width = 4 := ⟨rfl, rfl, rfl⟩
@[simp] theorem RFE_STS.STATE_id (n : Nat) : (RFE_STS.STATE n).id = 7 ∧ (RFE_STS.STATE n).ix = n ∧ (RFE_STS.STATE n).width = 3 := ⟨rfl, rfl, rfl⟩
@[simp] theorem RFE_STS.LOCKED_id (n : Nat) : (RFE_STS.LOCKED n).id = 8 ∧ (RFE_STS.LOCKED n).ix = n ∧ (RFE_STS.LOCKED n).width = 1 := ⟨rfl, rfl, rfl⟩
@[simp] theorem RFE_STS.CAL_DUE_id (n : Nat) : (RFE_STS.CAL_DUE n).id = 9 ∧ (RFE_STS.CAL_DUE n).ix = n ∧ (RFE_STS.CAL_DUE n).width = 1 := ⟨rfl, rfl, rfl⟩
@[simp] theorem RFE_STS.COVERING_id (n : Nat) : (RFE_STS.COVERING n).id = 10 ∧ (RFE_STS.COVERING n).ix = n ∧ (RFE_STS.COVERING n).width = 1 := ⟨rfl, rfl, rfl⟩
@[simp] theorem RFE_STS.COVERED_id (n : Nat) : (RFE_STS.COVERED n).id = 11 ∧ (RFE_STS.COVERED n).ix = n ∧ (RFE_STS.COVERED n).width = 1 := ⟨rfl, rfl, rfl⟩
@[simp] theorem RFE_TUNE.CENTRE_id (n : Nat) : (RFE_TUNE.CENTRE n).id = 12 ∧ (RFE_TUNE.CENTRE n).ix = n ∧ (RFE_TUNE.CENTRE n).width = 22 := ⟨rfl, rfl, rfl⟩
@[simp] theorem RFE_SYN_STS.LAST_LOCK_id (n : Nat) : (RFE_SYN_STS.LAST_LOCK n).id = 13 ∧ (RFE_SYN_STS.LAST_LOCK n).ix = n ∧ (RFE_SYN_STS.LAST_LOCK n).width = 16 := ⟨rfl, rfl, rfl⟩
@[simp] theorem RFE_SYN_STS.MOVE_PEND_id (n : Nat) : (RFE_SYN_STS.MOVE_PEND n).id = 14 ∧ (RFE_SYN_STS.MOVE_PEND n).ix = n ∧ (RFE_SYN_STS.MOVE_PEND n).width = 1 := ⟨rfl, rfl, rfl⟩
@[simp] theorem RFE_CAL_CFG.TEMP_THR_id (n : Nat) : (RFE_CAL_CFG.TEMP_THR n).id = 15 ∧ (RFE_CAL_CFG.TEMP_THR n).ix = n ∧ (RFE_CAL_CFG.TEMP_THR n).width = 5 := ⟨rfl, rfl, rfl⟩
@[simp] theorem RFE_CAL_CFG.AUTO_MASK_id (n : Nat) : (RFE_CAL_CFG.AUTO_MASK n).id = 16 ∧ (RFE_CAL_CFG.AUTO_MASK n).ix = n ∧ (RFE_CAL_CFG.AUTO_MASK n).width = 5 := ⟨rfl, rfl, rfl⟩
@[simp] theorem RFE_CAL_CFG.STARVE_S_id (n : Nat) : (RFE_CAL_CFG.STARVE_S n).id = 17 ∧ (RFE_CAL_CFG.STARVE_S n).ix = n ∧ (RFE_CAL_CFG.STARVE_S n).width = 8 := ⟨rfl, rfl, rfl⟩
@[simp] theorem RFE_CAL_CMD.STEPS_id (n : Nat) : (RFE_CAL_CMD.STEPS n).id = 18 ∧ (RFE_CAL_CMD.STEPS n).ix = n ∧ (RFE_CAL_CMD.STEPS n).width = 5 := ⟨rfl, rfl, rfl⟩
@[simp] theorem RFE_CAL_CMD.FORCE_id (n : Nat) : (RFE_CAL_CMD.FORCE n).id = 19 ∧ (RFE_CAL_CMD.FORCE n).ix = n ∧ (RFE_CAL_CMD.FORCE n).width = 1 := ⟨rfl, rfl, rfl⟩
@[simp] theorem RFE_CAL_STS.DONE_id (n : Nat) : (RFE_CAL_STS.DONE n).id = 20 ∧ (RFE_CAL_STS.DONE n).ix = n ∧ (RFE_CAL_STS.DONE n).width = 5 := ⟨rfl, rfl, rfl⟩
@[simp] theorem RFE_CAL_STS.RUNNING_id (n : Nat) : (RFE_CAL_STS.RUNNING n).id = 21 ∧ (RFE_CAL_STS.RUNNING n).ix = n ∧ (RFE_CAL_STS.RUNNING n).width = 3 := ⟨rfl, rfl, rfl⟩
@[simp] theorem RFE_CAL_STS.BUSY_id (n : Nat) : (RFE_CAL_STS.BUSY n).id = 22 ∧ (RFE_CAL_STS.BUSY n).ix = n ∧ (RFE_CAL_STS.BUSY n).width = 1 := ⟨rfl, rfl, rfl⟩
@[simp] theorem RFE_CAL_STS.PENDING_id (n : Nat) : (RFE_CAL_STS.PENDING n).id = 23 ∧ (RFE_CAL_STS.PENDING n).ix = n ∧ (RFE_CAL_STS.PENDING n).width = 5 := ⟨rfl, rfl, rfl⟩
@[simp] theorem RFE_CAL_STS.ERR_id (n : Nat) : (RFE_CAL_STS.ERR n).id = 24 ∧ (RFE_CAL_STS.ERR n).ix = n ∧ (RFE_CAL_STS.ERR n).width = 1 := ⟨rfl, rfl, rfl⟩
@[simp] theorem RFE_TEMP.NOW_id (n : Nat) : (RFE_TEMP.NOW n).id = 25 ∧ (RFE_TEMP.NOW n).ix = n ∧ (RFE_TEMP.NOW n).width = 8 := ⟨rfl, rfl, rfl⟩
@[simp] theorem RFE_TEMP.AT_CAL_id (n : Nat) : (RFE_TEMP.AT_CAL n).id = 26 ∧ (RFE_TEMP.AT_CAL n).ix = n ∧ (RFE_TEMP.AT_CAL n).width = 8 := ⟨rfl, rfl, rfl⟩
@[simp] theorem RFE_CAL_TIME.LAST_id (n : Nat) : (RFE_CAL_TIME.LAST n).id = 27 ∧ (RFE_CAL_TIME.LAST n).ix = n ∧ (RFE_CAL_TIME.LAST n).width = 16 := ⟨rfl, rfl, rfl⟩
@[simp] theorem RFE_COVER_STS.PHASE_id (n : Nat) : (RFE_COVER_STS.PHASE n).id = 28 ∧ (RFE_COVER_STS.PHASE n).ix = n ∧ (RFE_COVER_STS.PHASE n).width = 3 := ⟨rfl, rfl, rfl⟩
@[simp] theorem RFE_COVER_STS.ABORTED_id (n : Nat) : (RFE_COVER_STS.ABORTED n).id = 29 ∧ (RFE_COVER_STS.ABORTED n).ix = n ∧ (RFE_COVER_STS.ABORTED n).width = 1 := ⟨rfl, rfl, rfl⟩
@[simp] theorem RFE_COVER_STS.COUNT_id (n : Nat) : (RFE_COVER_STS.COUNT n).id = 30 ∧ (RFE_COVER_STS.COUNT n).ix = n ∧ (RFE_COVER_STS.COUNT n).width = 16 := ⟨rfl, rfl, rfl⟩
@[simp] theorem RFE_PA_CTL.PA_LEAD_id (n : Nat) : (RFE_PA_CTL.PA_LEAD n).id = 31 ∧ (RFE_PA_CTL.PA_LEAD n).ix = n ∧ (RFE_PA_CTL.PA_LEAD n).width = 7 := ⟨rfl, rfl, rfl⟩
@[simp] theorem RFE_PA_CTL.PA_LAG_id (n : Nat) : (RFE_PA_CTL.PA_LAG n).id = 32 ∧ (RFE_PA_CTL.PA_LAG n).ix = n ∧ (RFE_PA_CTL.PA_LAG n).width = 7 := ⟨rfl, rfl, rfl⟩
@[simp] theorem RFE_PA_CTL.PA_POL_id (n : Nat) : (RFE_PA_CTL.PA_POL n).id = 33 ∧ (RFE_PA_CTL.PA_POL n).ix = n ∧ (RFE_PA_CTL.PA_POL n).width = 1 := ⟨rfl, rfl, rfl⟩
@[simp] theorem RFE_PA_CTL.LNA_POL_id (n : Nat) : (RFE_PA_CTL.LNA_POL n).id = 34 ∧ (RFE_PA_CTL.LNA_POL n).ix = n ∧ (RFE_PA_CTL.LNA_POL n).width = 1 := ⟨rfl, rfl, rfl⟩
@[simp] theorem RFE_PA_CTL.TR_POL_id (n : Nat) : (RFE_PA_CTL.TR_POL n).id = 35 ∧ (RFE_PA_CTL.TR_POL n).ix = n ∧ (RFE_PA_CTL.TR_POL n).width = 1 := ⟨rfl, rfl, rfl⟩
@[simp] theorem RFE_PA_CTL.EXT_PA_id (n : Nat) : (RFE_PA_CTL.EXT_PA n).id = 36 ∧ (RFE_PA_CTL.EXT_PA n).ix = n ∧ (RFE_PA_CTL.EXT_PA n).width = 1 := ⟨rfl, rfl, rfl⟩
@[simp] theorem RFE_PA_CTL.EXT_LNA_id (n : Nat) : (RFE_PA_CTL.EXT_LNA n).id = 37 ∧ (RFE_PA_CTL.EXT_LNA n).ix = n ∧ (RFE_PA_CTL.EXT_LNA n).width = 1 := ⟨rfl, rfl, rfl⟩
@[simp] theorem RFE_ANT_CTL.ANT_RX_id (n : Nat) : (RFE_ANT_CTL.ANT_RX n).id = 38 ∧ (RFE_ANT_CTL.ANT_RX n).ix = n ∧ (RFE_ANT_CTL.ANT_RX n).width = 2 := ⟨rfl, rfl, rfl⟩
@[simp] theorem RFE_ANT_CTL.ANT_TX_id (n : Nat) : (RFE_ANT_CTL.ANT_TX n).id = 39 ∧ (RFE_ANT_CTL.ANT_TX n).ix = n ∧ (RFE_ANT_CTL.ANT_TX n).width = 2 := ⟨rfl, rfl, rfl⟩
@[simp] theorem RFE_ANT_CTL.ANT_IDLE_id (n : Nat) : (RFE_ANT_CTL.ANT_IDLE n).id = 40 ∧ (RFE_ANT_CTL.ANT_IDLE n).ix = n ∧ (RFE_ANT_CTL.ANT_IDLE n).width = 2 := ⟨rfl, rfl, rfl⟩
@[simp] theorem RFE_AGC_CFG.BACKOFF_id (n : Nat) : (RFE_AGC_CFG.BACKOFF n).id = 41 ∧ (RFE_AGC_CFG.BACKOFF n).ix = n ∧ (RFE_AGC_CFG.BACKOFF n).width = 6 := ⟨rfl, rfl, rfl⟩
@[simp] theorem RFE_AGC_CFG.DECAY_MS_id (n : Nat) : (RFE_AGC_CFG.DECAY_MS n).id = 42 ∧ (RFE_AGC_CFG.DECAY_MS n).ix = n ∧ (RFE_AGC_CFG.DECAY_MS n).width = 5 := ⟨rfl, rfl, rfl⟩
@[simp] theorem RFE_AGC_CFG.FREEZE_id (n : Nat) : (RFE_AGC_CFG.FREEZE n).id = 43 ∧ (RFE_AGC_CFG.FREEZE n).ix = n ∧ (RFE_AGC_CFG.FREEZE n).width = 1 := ⟨rfl, rfl, rfl⟩
@[simp] theorem RFE_AGC_STS.GAIN_id (n : Nat) : (RFE_AGC_STS.GAIN n).id = 44 ∧ (RFE_AGC_STS.GAIN n).ix = n ∧ (RFE_AGC_STS.GAIN n).width = 7 := ⟨rfl, rfl, rfl⟩
@[simp] theorem RFE_AGC_STS.PEAK_id (n : Nat) : (RFE_AGC_STS.PEAK n).id = 45 ∧ (RFE_AGC_STS.PEAK n).ix = n ∧ (RFE_AGC_STS.PEAK n).width = 8 := ⟨rfl, rfl, rfl⟩
@[simp] theorem RFE_AGC_STS.STEPS_id (n : Nat) : (RFE_AGC_STS.STEPS n).id = 46 ∧ (RFE_AGC_STS.STEPS n).ix = n ∧ (RFE_AGC_STS.STEPS n).width = 16 := ⟨rfl, rfl, rfl⟩
@[simp] theorem RFE_BLANK.MASK_id (n : Nat) : (RFE_BLANK.MASK n).id = 47 ∧ (RFE_BLANK.MASK n).ix = n ∧ (RFE_BLANK.MASK n).width = 4 := ⟨rfl, rfl, rfl⟩
@[simp] theorem RFE_RSSI_OFS.OFS_id (n : Nat) : (RFE_RSSI_OFS.OFS n).id = 48 ∧ (RFE_RSSI_OFS.OFS n).ix = n ∧ (RFE_RSSI_OFS.OFS n).width = 8 := ⟨rfl, rfl, rfl⟩
@[simp] theorem RFE_LBT_STS.LAST_ED_id (n : Nat) : (RFE_LBT_STS.LAST_ED n).id = 49 ∧ (RFE_LBT_STS.LAST_ED n).ix = n ∧ (RFE_LBT_STS.LAST_ED n).width = 8 := ⟨rfl, rfl, rfl⟩
@[simp] theorem RFE_LBT_STS.LAST_BUSY_id (n : Nat) : (RFE_LBT_STS.LAST_BUSY n).id = 50 ∧ (RFE_LBT_STS.LAST_BUSY n).ix = n ∧ (RFE_LBT_STS.LAST_BUSY n).width = 1 := ⟨rfl, rfl, rfl⟩
@[simp] theorem RFE_INT_STS.LOCK_FAIL_id (n : Nat) : (RFE_INT_STS.LOCK_FAIL n).id = 51 ∧ (RFE_INT_STS.LOCK_FAIL n).ix = n ∧ (RFE_INT_STS.LOCK_FAIL n).width = 1 := ⟨rfl, rfl, rfl⟩
@[simp] theorem RFE_INT_STS.CAL_DONE_id (n : Nat) : (RFE_INT_STS.CAL_DONE n).id = 52 ∧ (RFE_INT_STS.CAL_DONE n).ix = n ∧ (RFE_INT_STS.CAL_DONE n).width = 1 := ⟨rfl, rfl, rfl⟩
@[simp] theorem RFE_INT_STS.CAL_ERR_id (n : Nat) : (RFE_INT_STS.CAL_ERR n).id = 53 ∧ (RFE_INT_STS.CAL_ERR n).ix = n ∧ (RFE_INT_STS.CAL_ERR n).width = 1 := ⟨rfl, rfl, rfl⟩
@[simp] theorem RFE_INT_STS.CAL_STARVED_id (n : Nat) : (RFE_INT_STS.CAL_STARVED n).id = 54 ∧ (RFE_INT_STS.CAL_STARVED n).ix = n ∧ (RFE_INT_STS.CAL_STARVED n).width = 1 := ⟨rfl, rfl, rfl⟩
@[simp] theorem RFE_INT_STS.DC_NEAR_id (n : Nat) : (RFE_INT_STS.DC_NEAR n).id = 55 ∧ (RFE_INT_STS.DC_NEAR n).ix = n ∧ (RFE_INT_STS.DC_NEAR n).width = 1 := ⟨rfl, rfl, rfl⟩
@[simp] theorem RFE_INT_STS.TX_LATE_id (n : Nat) : (RFE_INT_STS.TX_LATE n).id = 56 ∧ (RFE_INT_STS.TX_LATE n).ix = n ∧ (RFE_INT_STS.TX_LATE n).width = 1 := ⟨rfl, rfl, rfl⟩
@[simp] theorem RFE_INT_EN.LOCK_FAIL_id (n : Nat) : (RFE_INT_EN.LOCK_FAIL n).id = 57 ∧ (RFE_INT_EN.LOCK_FAIL n).ix = n ∧ (RFE_INT_EN.LOCK_FAIL n).width = 1 := ⟨rfl, rfl, rfl⟩
@[simp] theorem RFE_INT_EN.CAL_DONE_id (n : Nat) : (RFE_INT_EN.CAL_DONE n).id = 58 ∧ (RFE_INT_EN.CAL_DONE n).ix = n ∧ (RFE_INT_EN.CAL_DONE n).width = 1 := ⟨rfl, rfl, rfl⟩
@[simp] theorem RFE_INT_EN.CAL_ERR_id (n : Nat) : (RFE_INT_EN.CAL_ERR n).id = 59 ∧ (RFE_INT_EN.CAL_ERR n).ix = n ∧ (RFE_INT_EN.CAL_ERR n).width = 1 := ⟨rfl, rfl, rfl⟩
@[simp] theorem RFE_INT_EN.CAL_STARVED_id (n : Nat) : (RFE_INT_EN.CAL_STARVED n).id = 60 ∧ (RFE_INT_EN.CAL_STARVED n).ix = n ∧ (RFE_INT_EN.CAL_STARVED n).width = 1 := ⟨rfl, rfl, rfl⟩
@[simp] theorem RFE_INT_EN.DC_NEAR_id (n : Nat) : (RFE_INT_EN.DC_NEAR n).id = 61 ∧ (RFE_INT_EN.DC_NEAR n).ix = n ∧ (RFE_INT_EN.DC_NEAR n).width = 1 := ⟨rfl, rfl, rfl⟩
@[simp] theorem RFE_INT_EN.TX_LATE_id (n : Nat) : (RFE_INT_EN.TX_LATE n).id = 62 ∧ (RFE_INT_EN.TX_LATE n).ix = n ∧ (RFE_INT_EN.TX_LATE n).width = 1 := ⟨rfl, rfl, rfl⟩
@[simp] theorem RFE_PIN_OVR.OVR_EN_id (n : Nat) : (RFE_PIN_OVR.OVR_EN n).id = 63 ∧ (RFE_PIN_OVR.OVR_EN n).ix = n ∧ (RFE_PIN_OVR.OVR_EN n).width = 1 := ⟨rfl, rfl, rfl⟩
@[simp] theorem RFE_PIN_OVR.PA_EN_id (n : Nat) : (RFE_PIN_OVR.PA_EN n).id = 64 ∧ (RFE_PIN_OVR.PA_EN n).ix = n ∧ (RFE_PIN_OVR.PA_EN n).width = 1 := ⟨rfl, rfl, rfl⟩
@[simp] theorem RFE_PIN_OVR.LNA_EN_id (n : Nat) : (RFE_PIN_OVR.LNA_EN n).id = 65 ∧ (RFE_PIN_OVR.LNA_EN n).ix = n ∧ (RFE_PIN_OVR.LNA_EN n).width = 1 := ⟨rfl, rfl, rfl⟩
@[simp] theorem RFE_PIN_OVR.TR_id (n : Nat) : (RFE_PIN_OVR.TR n).id = 66 ∧ (RFE_PIN_OVR.TR n).ix = n ∧ (RFE_PIN_OVR.TR n).width = 1 := ⟨rfl, rfl, rfl⟩
@[simp] theorem RFE_PIN_OVR.ANT_id (n : Nat) : (RFE_PIN_OVR.ANT n).id = 67 ∧ (RFE_PIN_OVR.ANT n).ix = n ∧ (RFE_PIN_OVR.ANT n).width = 2 := ⟨rfl, rfl, rfl⟩
@[simp] theorem RFE_TX_TEST.CW_EN_id (n : Nat) : (RFE_TX_TEST.CW_EN n).id = 68 ∧ (RFE_TX_TEST.CW_EN n).ix = n ∧ (RFE_TX_TEST.CW_EN n).width = 1 := ⟨rfl, rfl, rfl⟩
@[simp] theorem RFE_TX_TEST.PIX_id (n : Nat) : (RFE_TX_TEST.PIX n).id = 69 ∧ (RFE_TX_TEST.PIX n).ix = n ∧ (RFE_TX_TEST.PIX n).width = 4 := ⟨rfl, rfl, rfl⟩
@[simp] theorem RFE_TX_TEST.OFFSET_id (n : Nat) : (RFE_TX_TEST.OFFSET n).id = 70 ∧ (RFE_TX_TEST.OFFSET n).ix = n ∧ (RFE_TX_TEST.OFFSET n).width = 20 := ⟨rfl, rfl, rfl⟩
@[simp] theorem RFE_TX_AIR.AIR_id (n : Nat) : (RFE_TX_AIR.AIR n).id = 71 ∧ (RFE_TX_AIR.AIR n).ix = n ∧ (RFE_TX_AIR.AIR n).width = 32 := ⟨rfl, rfl, rfl⟩
@[simp] theorem RFE_TX_LATE_id (n : Nat) : (RFE_TX_LATE n).id = 72 ∧ (RFE_TX_LATE n).ix = n ∧ (RFE_TX_LATE n).width = 32 := ⟨rfl, rfl, rfl⟩
@[simp] theorem RFE_TX_OUTSIDE_id (n : Nat) : (RFE_TX_OUTSIDE n).id = 73 ∧ (RFE_TX_OUTSIDE n).ix = n ∧ (RFE_TX_OUTSIDE n).width = 32 := ⟨rfl, rfl, rfl⟩
@[simp] theorem RFE_RX_BLANKED_id (n : Nat) : (RFE_RX_BLANKED n).id = 74 ∧ (RFE_RX_BLANKED n).ix = n ∧ (RFE_RX_BLANKED n).width = 32 := ⟨rfl, rfl, rfl⟩
@[simp] theorem RFE_DC_BLOCK_id (n : Nat) : (RFE_DC_BLOCK n).id = 75 ∧ (RFE_DC_BLOCK n).ix = n ∧ (RFE_DC_BLOCK n).width = 32 := ⟨rfl, rfl, rfl⟩
@[simp] theorem RFE_DC_ACK_BLOCK_id (n : Nat) : (RFE_DC_ACK_BLOCK n).id = 76 ∧ (RFE_DC_ACK_BLOCK n).ix = n ∧ (RFE_DC_ACK_BLOCK n).width = 32 := ⟨rfl, rfl, rfl⟩
@[simp] theorem RFE_LBT_BUSY_id (n : Nat) : (RFE_LBT_BUSY n).id = 77 ∧ (RFE_LBT_BUSY n).ix = n ∧ (RFE_LBT_BUSY n).width = 32 := ⟨rfl, rfl, rfl⟩
@[simp] theorem RFE_CAL_DONE_id (n : Nat) : (RFE_CAL_DONE n).id = 78 ∧ (RFE_CAL_DONE n).ix = n ∧ (RFE_CAL_DONE n).width = 32 := ⟨rfl, rfl, rfl⟩
@[simp] theorem RFE_SYN_MOVES_id (n : Nat) : (RFE_SYN_MOVES n).id = 79 ∧ (RFE_SYN_MOVES n).ix = n ∧ (RFE_SYN_MOVES n).width = 32 := ⟨rfl, rfl, rfl⟩
@[simp] theorem RFE_LOCK_FAIL_id (n : Nat) : (RFE_LOCK_FAIL n).id = 80 ∧ (RFE_LOCK_FAIL n).ix = n ∧ (RFE_LOCK_FAIL n).width = 32 := ⟨rfl, rfl, rfl⟩
@[simp] theorem RFE_TX_FRAMES_id (n : Nat) : (RFE_TX_FRAMES n).id = 81 ∧ (RFE_TX_FRAMES n).ix = n ∧ (RFE_TX_FRAMES n).width = 32 := ⟨rfl, rfl, rfl⟩
@[simp] theorem RFE_DC_LO.LO_KHZ_id (n : Nat) (i : Nat) : (RFE_DC_LO.LO_KHZ n i).id = 82 ∧ (RFE_DC_LO.LO_KHZ n i).ix = n * 4 + i ∧ (RFE_DC_LO.LO_KHZ n i).width = 22 := ⟨rfl, rfl, rfl⟩
@[simp] theorem RFE_DC_LO.LBT_MIN_id (n : Nat) (i : Nat) : (RFE_DC_LO.LBT_MIN n i).id = 83 ∧ (RFE_DC_LO.LBT_MIN n i).ix = n * 4 + i ∧ (RFE_DC_LO.LBT_MIN n i).width = 10 := ⟨rfl, rfl, rfl⟩
@[simp] theorem RFE_DC_HI.HI_KHZ_id (n : Nat) (i : Nat) : (RFE_DC_HI.HI_KHZ n i).id = 84 ∧ (RFE_DC_HI.HI_KHZ n i).ix = n * 4 + i ∧ (RFE_DC_HI.HI_KHZ n i).width = 22 := ⟨rfl, rfl, rfl⟩
@[simp] theorem RFE_DC_HI.LBT_THR_id (n : Nat) (i : Nat) : (RFE_DC_HI.LBT_THR n i).id = 85 ∧ (RFE_DC_HI.LBT_THR n i).ix = n * 4 + i ∧ (RFE_DC_HI.LBT_THR n i).width = 8 := ⟨rfl, rfl, rfl⟩
@[simp] theorem RFE_DC_CFG.LIMIT_id (n : Nat) (i : Nat) : (RFE_DC_CFG.LIMIT n i).id = 86 ∧ (RFE_DC_CFG.LIMIT n i).ix = n * 4 + i ∧ (RFE_DC_CFG.LIMIT n i).width = 14 := ⟨rfl, rfl, rfl⟩
@[simp] theorem RFE_DC_CFG.WINDOW_id (n : Nat) (i : Nat) : (RFE_DC_CFG.WINDOW n i).id = 87 ∧ (RFE_DC_CFG.WINDOW n i).ix = n * 4 + i ∧ (RFE_DC_CFG.WINDOW n i).width = 4 := ⟨rfl, rfl, rfl⟩
@[simp] theorem RFE_DC_CFG.ACK_RES_id (n : Nat) (i : Nat) : (RFE_DC_CFG.ACK_RES n i).id = 88 ∧ (RFE_DC_CFG.ACK_RES n i).ix = n * 4 + i ∧ (RFE_DC_CFG.ACK_RES n i).width = 8 := ⟨rfl, rfl, rfl⟩
@[simp] theorem RFE_DC_CFG.LBT_EN_id (n : Nat) (i : Nat) : (RFE_DC_CFG.LBT_EN n i).id = 89 ∧ (RFE_DC_CFG.LBT_EN n i).ix = n * 4 + i ∧ (RFE_DC_CFG.LBT_EN n i).width = 1 := ⟨rfl, rfl, rfl⟩
@[simp] theorem RFE_DC_CFG.EN_id (n : Nat) (i : Nat) : (RFE_DC_CFG.EN n i).id = 90 ∧ (RFE_DC_CFG.EN n i).ix = n * 4 + i ∧ (RFE_DC_CFG.EN n i).width = 1 := ⟨rfl, rfl, rfl⟩
@[simp] theorem RFE_DC_USED.USED_id (n : Nat) (i : Nat) : (RFE_DC_USED.USED n i).id = 91 ∧ (RFE_DC_USED.USED n i).ix = n * 4 + i ∧ (RFE_DC_USED.USED n i).width = 14 := ⟨rfl, rfl, rfl⟩
@[simp] theorem RFE_PWR_TBL.CODE_id (n : Nat) (i : Nat) : (RFE_PWR_TBL.CODE n i).id = 92 ∧ (RFE_PWR_TBL.CODE n i).ix = n * 16 + i ∧ (RFE_PWR_TBL.CODE n i).width = 7 := ⟨rfl, rfl, rfl⟩
@[simp] theorem RFE_CAL_RES.C0_id (n : Nat) (i : Nat) : (RFE_CAL_RES.C0 n i).id = 93 ∧ (RFE_CAL_RES.C0 n i).ix = n * 64 + i ∧ (RFE_CAL_RES.C0 n i).width = 16 := ⟨rfl, rfl, rfl⟩
@[simp] theorem RFE_CAL_RES.C1_id (n : Nat) (i : Nat) : (RFE_CAL_RES.C1 n i).id = 94 ∧ (RFE_CAL_RES.C1 n i).ix = n * 64 + i ∧ (RFE_CAL_RES.C1 n i).width = 16 := ⟨rfl, rfl, rfl⟩
@[simp] theorem CHZ_CFG.EN_id : CHZ_CFG.EN.id = 95 ∧ CHZ_CFG.EN.ix = 0 ∧ CHZ_CFG.EN.width = 1 := ⟨rfl, rfl, rfl⟩
@[simp] theorem CHZ_CFG.NOCELL_HOST_id : CHZ_CFG.NOCELL_HOST.id = 96 ∧ CHZ_CFG.NOCELL_HOST.ix = 0 ∧ CHZ_CFG.NOCELL_HOST.width = 1 := ⟨rfl, rfl, rfl⟩
@[simp] theorem CHZ_CFG.BADFCS_HOST_id : CHZ_CFG.BADFCS_HOST.id = 97 ∧ CHZ_CFG.BADFCS_HOST.ix = 0 ∧ CHZ_CFG.BADFCS_HOST.width = 1 := ⟨rfl, rfl, rfl⟩
@[simp] theorem CHZ_CFG.DUP_EN_id : CHZ_CFG.DUP_EN.id = 98 ∧ CHZ_CFG.DUP_EN.ix = 0 ∧ CHZ_CFG.DUP_EN.width = 1 := ⟨rfl, rfl, rfl⟩
@[simp] theorem CHZ_CFG.AVG_SHIFT_id : CHZ_CFG.AVG_SHIFT.id = 99 ∧ CHZ_CFG.AVG_SHIFT.ix = 0 ∧ CHZ_CFG.AVG_SHIFT.width = 3 := ⟨rfl, rfl, rfl⟩
@[simp] theorem CHZ_CFG.OFDM_RES_id : CHZ_CFG.OFDM_RES.id = 100 ∧ CHZ_CFG.OFDM_RES.ix = 0 ∧ CHZ_CFG.OFDM_RES.width = 6 := ⟨rfl, rfl, rfl⟩
@[simp] theorem CHZ_WIDTH.THAW_W_id : CHZ_WIDTH.THAW_W.id = 101 ∧ CHZ_WIDTH.THAW_W.ix = 0 ∧ CHZ_WIDTH.THAW_W.width = 2 := ⟨rfl, rfl, rfl⟩
@[simp] theorem CHZ_WIDTH.FLOE_W_id : CHZ_WIDTH.FLOE_W.id = 102 ∧ CHZ_WIDTH.FLOE_W.ix = 0 ∧ CHZ_WIDTH.FLOE_W.width = 2 := ⟨rfl, rfl, rfl⟩
@[simp] theorem CHZ_WIDTH.RIME_W_id : CHZ_WIDTH.RIME_W.id = 103 ∧ CHZ_WIDTH.RIME_W.ix = 0 ∧ CHZ_WIDTH.RIME_W.width = 2 := ⟨rfl, rfl, rfl⟩
@[simp] theorem CHZ_ARB.PREEMPT_EN_id : CHZ_ARB.PREEMPT_EN.id = 104 ∧ CHZ_ARB.PREEMPT_EN.ix = 0 ∧ CHZ_ARB.PREEMPT_EN.width = 1 := ⟨rfl, rfl, rfl⟩
@[simp] theorem CHZ_ARB.CLASS_UP_EN_id : CHZ_ARB.CLASS_UP_EN.id = 105 ∧ CHZ_ARB.CLASS_UP_EN.ix = 0 ∧ CHZ_ARB.CLASS_UP_EN.width = 1 := ⟨rfl, rfl, rfl⟩
@[simp] theorem CHZ_ARB.Q_HYST_id : CHZ_ARB.Q_HYST.id = 106 ∧ CHZ_ARB.Q_HYST.ix = 0 ∧ CHZ_ARB.Q_HYST.width = 8 := ⟨rfl, rfl, rfl⟩
@[simp] theorem CHZ_STS.SNIFF_WANT_id : CHZ_STS.SNIFF_WANT.id = 107 ∧ CHZ_STS.SNIFF_WANT.ix = 0 ∧ CHZ_STS.SNIFF_WANT.width = 11 := ⟨rfl, rfl, rfl⟩
@[simp] theorem CHZ_STS.SNIFF_SHORT_id : CHZ_STS.SNIFF_SHORT.id = 108 ∧ CHZ_STS.SNIFF_SHORT.ix = 0 ∧ CHZ_STS.SNIFF_SHORT.width = 1 := ⟨rfl, rfl, rfl⟩
@[simp] theorem CHZ_STS.WIDTH_NOW_id : CHZ_STS.WIDTH_NOW.id = 109 ∧ CHZ_STS.WIDTH_NOW.ix = 0 ∧ CHZ_STS.WIDTH_NOW.width = 1 := ⟨rfl, rfl, rfl⟩
@[simp] theorem CHZ_INT_STS.SNIFF_SHORT_id : CHZ_INT_STS.SNIFF_SHORT.id = 110 ∧ CHZ_INT_STS.SNIFF_SHORT.ix = 0 ∧ CHZ_INT_STS.SNIFF_SHORT.width = 1 := ⟨rfl, rfl, rfl⟩
@[simp] theorem CHZ_INT_STS.PLAN_CLAMP_id : CHZ_INT_STS.PLAN_CLAMP.id = 111 ∧ CHZ_INT_STS.PLAN_CLAMP.ix = 0 ∧ CHZ_INT_STS.PLAN_CLAMP.width = 1 := ⟨rfl, rfl, rfl⟩
@[simp] theorem CHZ_INT_STS.FIFO_OVF_id : CHZ_INT_STS.FIFO_OVF.id = 112 ∧ CHZ_INT_STS.FIFO_OVF.ix = 0 ∧ CHZ_INT_STS.FIFO_OVF.width = 1 := ⟨rfl, rfl, rfl⟩
@[simp] theorem CHZ_INT_STS.LOSS_A_id : CHZ_INT_STS.LOSS_A.id = 113 ∧ CHZ_INT_STS.LOSS_A.ix = 0 ∧ CHZ_INT_STS.LOSS_A.width = 1 := ⟨rfl, rfl, rfl⟩
@[simp] theorem CHZ_INT_EN.SNIFF_SHORT_id : CHZ_INT_EN.SNIFF_SHORT.id = 114 ∧ CHZ_INT_EN.SNIFF_SHORT.ix = 0 ∧ CHZ_INT_EN.SNIFF_SHORT.width = 1 := ⟨rfl, rfl, rfl⟩
@[simp] theorem CHZ_INT_EN.PLAN_CLAMP_id : CHZ_INT_EN.PLAN_CLAMP.id = 115 ∧ CHZ_INT_EN.PLAN_CLAMP.ix = 0 ∧ CHZ_INT_EN.PLAN_CLAMP.width = 1 := ⟨rfl, rfl, rfl⟩
@[simp] theorem CHZ_INT_EN.FIFO_OVF_id : CHZ_INT_EN.FIFO_OVF.id = 116 ∧ CHZ_INT_EN.FIFO_OVF.ix = 0 ∧ CHZ_INT_EN.FIFO_OVF.width = 1 := ⟨rfl, rfl, rfl⟩
@[simp] theorem CHZ_INT_EN.LOSS_A_id : CHZ_INT_EN.LOSS_A.id = 117 ∧ CHZ_INT_EN.LOSS_A.ix = 0 ∧ CHZ_INT_EN.LOSS_A.width = 1 := ⟨rfl, rfl, rfl⟩
@[simp] theorem CHZ_SLICE_BUSY.BUSY_id : CHZ_SLICE_BUSY.BUSY.id = 118 ∧ CHZ_SLICE_BUSY.BUSY.ix = 0 ∧ CHZ_SLICE_BUSY.BUSY.width = 8 := ⟨rfl, rfl, rfl⟩
@[simp] theorem CHZ_SLICE_PEAK.PEAK_id : CHZ_SLICE_PEAK.PEAK.id = 119 ∧ CHZ_SLICE_PEAK.PEAK.ix = 0 ∧ CHZ_SLICE_PEAK.PEAK.width = 8 := ⟨rfl, rfl, rfl⟩
@[simp] theorem CHZ_SPEC_CTL.FE_id : CHZ_SPEC_CTL.FE.id = 120 ∧ CHZ_SPEC_CTL.FE.ix = 0 ∧ CHZ_SPEC_CTL.FE.width = 2 := ⟨rfl, rfl, rfl⟩
@[simp] theorem CHZ_SPEC_CTL.START_id : CHZ_SPEC_CTL.START.id = 121 ∧ CHZ_SPEC_CTL.START.ix = 0 ∧ CHZ_SPEC_CTL.START.width = 9 := ⟨rfl, rfl, rfl⟩
@[simp] theorem CHZ_SPEC_CTL.AVG_id : CHZ_SPEC_CTL.AVG.id = 122 ∧ CHZ_SPEC_CTL.AVG.ix = 0 ∧ CHZ_SPEC_CTL.AVG.width = 4 := ⟨rfl, rfl, rfl⟩
@[simp] theorem CHZ_SPEC_CTL.RUN_id : CHZ_SPEC_CTL.RUN.id = 123 ∧ CHZ_SPEC_CTL.RUN.ix = 0 ∧ CHZ_SPEC_CTL.RUN.width = 1 := ⟨rfl, rfl, rfl⟩
@[simp] theorem CHZ_SNIFF_USE.USED_id (i : Nat) : (CHZ_SNIFF_USE.USED i).id = 124 ∧ (CHZ_SNIFF_USE.USED i).ix = i ∧ (CHZ_SNIFF_USE.USED i).width = 11 := ⟨rfl, rfl, rfl⟩
@[simp] theorem CHZ_TS_OFS.OFS_id (i : Nat) : (CHZ_TS_OFS.OFS i).id = 125 ∧ (CHZ_TS_OFS.OFS i).ix = i ∧ (CHZ_TS_OFS.OFS i).width = 16 := ⟨rfl, rfl, rfl⟩
@[simp] theorem CHZ_OOG.LIMIT_id (i : Nat) : (CHZ_OOG.LIMIT i).id = 126 ∧ (CHZ_OOG.LIMIT i).ix = i ∧ (CHZ_OOG.LIMIT i).width = 14 := ⟨rfl, rfl, rfl⟩
@[simp] theorem CHZ_OOG.EFF_id (i : Nat) : (CHZ_OOG.EFF i).id = 127 ∧ (CHZ_OOG.EFF i).ix = i ∧ (CHZ_OOG.EFF i).width = 14 := ⟨rfl, rfl, rfl⟩
@[simp] theorem CHZ_LOST_A_id : CHZ_LOST_A.id = 128 ∧ CHZ_LOST_A.ix = 0 ∧ CHZ_LOST_A.width = 32 := ⟨rfl, rfl, rfl⟩
@[simp] theorem CHZ_LOST_B_id : CHZ_LOST_B.id = 129 ∧ CHZ_LOST_B.ix = 0 ∧ CHZ_LOST_B.width = 32 := ⟨rfl, rfl, rfl⟩
@[simp] theorem CHZ_LOST_C_id : CHZ_LOST_C.id = 130 ∧ CHZ_LOST_C.ix = 0 ∧ CHZ_LOST_C.width = 32 := ⟨rfl, rfl, rfl⟩
@[simp] theorem CHZ_LOST_OFDM_id : CHZ_LOST_OFDM.id = 131 ∧ CHZ_LOST_OFDM.ix = 0 ∧ CHZ_LOST_OFDM.width = 32 := ⟨rfl, rfl, rfl⟩
@[simp] theorem CHZ_PREEMPT_SYNC_id : CHZ_PREEMPT_SYNC.id = 132 ∧ CHZ_PREEMPT_SYNC.ix = 0 ∧ CHZ_PREEMPT_SYNC.width = 32 := ⟨rfl, rfl, rfl⟩
@[simp] theorem CHZ_PREEMPT_FRAME_id : CHZ_PREEMPT_FRAME.id = 133 ∧ CHZ_PREEMPT_FRAME.ix = 0 ∧ CHZ_PREEMPT_FRAME.width = 32 := ⟨rfl, rfl, rfl⟩
@[simp] theorem CHZ_CLASS_UP_id : CHZ_CLASS_UP.id = 134 ∧ CHZ_CLASS_UP.ix = 0 ∧ CHZ_CLASS_UP.width = 32 := ⟨rfl, rfl, rfl⟩
@[simp] theorem CHZ_DET_id (i : Nat) : (CHZ_DET i).id = 135 ∧ (CHZ_DET i).ix = i ∧ (CHZ_DET i).width = 32 := ⟨rfl, rfl, rfl⟩
@[simp] theorem CHZ_NO_SFD_id (i : Nat) : (CHZ_NO_SFD i).id = 136 ∧ (CHZ_NO_SFD i).ix = i ∧ (CHZ_NO_SFD i).width = 32 := ⟨rfl, rfl, rfl⟩
@[simp] theorem CHZ_PHR_ERR_id (i : Nat) : (CHZ_PHR_ERR i).id = 137 ∧ (CHZ_PHR_ERR i).ix = i ∧ (CHZ_PHR_ERR i).width = 32 := ⟨rfl, rfl, rfl⟩
@[simp] theorem CHZ_MODE_SW_id (i : Nat) : (CHZ_MODE_SW i).id = 138 ∧ (CHZ_MODE_SW i).ix = i ∧ (CHZ_MODE_SW i).width = 32 := ⟨rfl, rfl, rfl⟩
@[simp] theorem CHZ_LEN_ERR_id (i : Nat) : (CHZ_LEN_ERR i).id = 139 ∧ (CHZ_LEN_ERR i).ix = i ∧ (CHZ_LEN_ERR i).width = 32 := ⟨rfl, rfl, rfl⟩
@[simp] theorem CHZ_FCS_ERR_id (i : Nat) : (CHZ_FCS_ERR i).id = 140 ∧ (CHZ_FCS_ERR i).ix = i ∧ (CHZ_FCS_ERR i).width = 32 := ⟨rfl, rfl, rfl⟩
@[simp] theorem CHZ_RX_OK_id (i : Nat) : (CHZ_RX_OK i).id = 141 ∧ (CHZ_RX_OK i).ix = i ∧ (CHZ_RX_OK i).width = 32 := ⟨rfl, rfl, rfl⟩
@[simp] theorem CHZ_DUP_SUP_id (i : Nat) : (CHZ_DUP_SUP i).id = 142 ∧ (CHZ_DUP_SUP i).ix = i ∧ (CHZ_DUP_SUP i).width = 32 := ⟨rfl, rfl, rfl⟩
@[simp] theorem CHZ_OOG_IN_id (i : Nat) : (CHZ_OOG_IN i).id = 143 ∧ (CHZ_OOG_IN i).ix = i ∧ (CHZ_OOG_IN i).width = 32 := ⟨rfl, rfl, rfl⟩
@[simp] theorem CHZ_OOG_OUT_id (i : Nat) : (CHZ_OOG_OUT i).id = 144 ∧ (CHZ_OOG_OUT i).ix = i ∧ (CHZ_OOG_OUT i).width = 32 := ⟨rfl, rfl, rfl⟩
@[simp] theorem CHZ_NOCELL_id (i : Nat) : (CHZ_NOCELL i).id = 145 ∧ (CHZ_NOCELL i).ix = i ∧ (CHZ_NOCELL i).width = 32 := ⟨rfl, rfl, rfl⟩
@[simp] theorem CHZ_FIFO_OVF_id (i : Nat) : (CHZ_FIFO_OVF i).id = 146 ∧ (CHZ_FIFO_OVF i).ix = i ∧ (CHZ_FIFO_OVF i).width = 32 := ⟨rfl, rfl, rfl⟩
@[simp] theorem CHZ_CLASS_CFG.DET_SYM_id (i : Nat) : (CHZ_CLASS_CFG.DET_SYM i).id = 147 ∧ (CHZ_CLASS_CFG.DET_SYM i).ix = i ∧ (CHZ_CLASS_CFG.DET_SYM i).width = 6 := ⟨rfl, rfl, rfl⟩
@[simp] theorem CHZ_CLASS_CFG.DET_THR_id (i : Nat) : (CHZ_CLASS_CFG.DET_THR i).id = 148 ∧ (CHZ_CLASS_CFG.DET_THR i).ix = i ∧ (CHZ_CLASS_CFG.DET_THR i).width = 8 := ⟨rfl, rfl, rfl⟩
@[simp] theorem CHZ_CLASS_CFG.PRE_MAX_id (i : Nat) : (CHZ_CLASS_CFG.PRE_MAX i).id = 149 ∧ (CHZ_CLASS_CFG.PRE_MAX i).ix = i ∧ (CHZ_CLASS_CFG.PRE_MAX i).width = 8 := ⟨rfl, rfl, rfl⟩
@[simp] theorem CHZ_PLAN_FE.FE_MASK_id (i : Nat) : (CHZ_PLAN_FE.FE_MASK i).id = 150 ∧ (CHZ_PLAN_FE.FE_MASK i).ix = i ∧ (CHZ_PLAN_FE.FE_MASK i).width = 4 := ⟨rfl, rfl, rfl⟩
@[simp] theorem CHZ_PLAN_FE.EN_id (i : Nat) : (CHZ_PLAN_FE.EN i).id = 151 ∧ (CHZ_PLAN_FE.EN i).ix = i ∧ (CHZ_PLAN_FE.EN i).width = 1 := ⟨rfl, rfl, rfl⟩
@[simp] theorem CHZ_PLAN_FE.ALWAYS_id (i : Nat) : (CHZ_PLAN_FE.ALWAYS i).id = 152 ∧ (CHZ_PLAN_FE.ALWAYS i).ix = i ∧ (CHZ_PLAN_FE.ALWAYS i).width = 1 := ⟨rfl, rfl, rfl⟩
@[simp] theorem CHZ_PLAN_F0.F0_KHZ_id (i : Nat) : (CHZ_PLAN_F0.F0_KHZ i).id = 153 ∧ (CHZ_PLAN_F0.F0_KHZ i).ix = i ∧ (CHZ_PLAN_F0.F0_KHZ i).width = 22 := ⟨rfl, rfl, rfl⟩
@[simp] theorem CHZ_PLAN_GEO.SPACING_id (i : Nat) : (CHZ_PLAN_GEO.SPACING i).id = 154 ∧ (CHZ_PLAN_GEO.SPACING i).ix = i ∧ (CHZ_PLAN_GEO.SPACING i).width = 3 := ⟨rfl, rfl, rfl⟩
@[simp] theorem CHZ_PLAN_GEO.COUNT_id (i : Nat) : (CHZ_PLAN_GEO.COUNT i).id = 155 ∧ (CHZ_PLAN_GEO.COUNT i).ix = i ∧ (CHZ_PLAN_GEO.COUNT i).width = 9 := ⟨rfl, rfl, rfl⟩
@[simp] theorem CHZ_PLAN_GEO.MAX_PSDU_id (i : Nat) : (CHZ_PLAN_GEO.MAX_PSDU i).id = 156 ∧ (CHZ_PLAN_GEO.MAX_PSDU i).ix = i ∧ (CHZ_PLAN_GEO.MAX_PSDU i).width = 11 := ⟨rfl, rfl, rfl⟩
@[simp] theorem CHZ_PLAN_PHY.CLASS_MASK_id (i : Nat) : (CHZ_PLAN_PHY.CLASS_MASK i).id = 157 ∧ (CHZ_PLAN_PHY.CLASS_MASK i).ix = i ∧ (CHZ_PLAN_PHY.CLASS_MASK i).width = 11 := ⟨rfl, rfl, rfl⟩
@[simp] theorem CHZ_PLAN_PHY.HIDX_id (i : Nat) : (CHZ_PLAN_PHY.HIDX i).id = 158 ∧ (CHZ_PLAN_PHY.HIDX i).ix = i ∧ (CHZ_PLAN_PHY.HIDX i).width = 1 := ⟨rfl, rfl, rfl⟩
@[simp] theorem CHZ_PLAN_PHY.SFD_SET_id (i : Nat) : (CHZ_PLAN_PHY.SFD_SET i).id = 159 ∧ (CHZ_PLAN_PHY.SFD_SET i).ix = i ∧ (CHZ_PLAN_PHY.SFD_SET i).width = 1 := ⟨rfl, rfl, rfl⟩
@[simp] theorem CHZ_PLAN_PHY.FEC_RSC_id (i : Nat) : (CHZ_PLAN_PHY.FEC_RSC i).id = 160 ∧ (CHZ_PLAN_PHY.FEC_RSC i).ix = i ∧ (CHZ_PLAN_PHY.FEC_RSC i).width = 1 := ⟨rfl, rfl, rfl⟩
@[simp] theorem CHZ_PLAN_PHY.INTLV_id (i : Nat) : (CHZ_PLAN_PHY.INTLV i).id = 161 ∧ (CHZ_PLAN_PHY.INTLV i).ix = i ∧ (CHZ_PLAN_PHY.INTLV i).width = 1 := ⟨rfl, rfl, rfl⟩
@[simp] theorem CHZ_PLAN_PHY.PRE_LEN_id (i : Nat) : (CHZ_PLAN_PHY.PRE_LEN i).id = 162 ∧ (CHZ_PLAN_PHY.PRE_LEN i).ix = i ∧ (CHZ_PLAN_PHY.PRE_LEN i).width = 8 := ⟨rfl, rfl, rfl⟩
@[simp] theorem CHZ_PLAN_STS.IN_WIN_id (i : Nat) : (CHZ_PLAN_STS.IN_WIN i).id = 163 ∧ (CHZ_PLAN_STS.IN_WIN i).ix = i ∧ (CHZ_PLAN_STS.IN_WIN i).width = 9 := ⟨rfl, rfl, rfl⟩
@[simp] theorem CHZ_PLAN_STS.SNIFF_id (i : Nat) : (CHZ_PLAN_STS.SNIFF i).id = 164 ∧ (CHZ_PLAN_STS.SNIFF i).ix = i ∧ (CHZ_PLAN_STS.SNIFF i).width = 11 := ⟨rfl, rfl, rfl⟩
@[simp] theorem CHZ_PLAN_STS.CLAMPED_id (i : Nat) : (CHZ_PLAN_STS.CLAMPED i).id = 165 ∧ (CHZ_PLAN_STS.CLAMPED i).ix = i ∧ (CHZ_PLAN_STS.CLAMPED i).width = 1 := ⟨rfl, rfl, rfl⟩
@[simp] theorem CHZ_PLAN_DET_id (i : Nat) : (CHZ_PLAN_DET i).id = 166 ∧ (CHZ_PLAN_DET i).ix = i ∧ (CHZ_PLAN_DET i).width = 32 := ⟨rfl, rfl, rfl⟩
@[simp] theorem CHZ_SLICE_STS.STATE_id (i : Nat) : (CHZ_SLICE_STS.STATE i).id = 167 ∧ (CHZ_SLICE_STS.STATE i).ix = i ∧ (CHZ_SLICE_STS.STATE i).width = 2 := ⟨rfl, rfl, rfl⟩
@[simp] theorem CHZ_SLICE_STS.CLASS_id (i : Nat) : (CHZ_SLICE_STS.CLASS i).id = 168 ∧ (CHZ_SLICE_STS.CLASS i).ix = i ∧ (CHZ_SLICE_STS.CLASS i).width = 2 := ⟨rfl, rfl, rfl⟩
@[simp] theorem CHZ_SLICE_STS.FE_id (i : Nat) : (CHZ_SLICE_STS.FE i).id = 169 ∧ (CHZ_SLICE_STS.FE i).ix = i ∧ (CHZ_SLICE_STS.FE i).width = 2 := ⟨rfl, rfl, rfl⟩
@[simp] theorem CHZ_SLICE_STS.PLAN_id (i : Nat) : (CHZ_SLICE_STS.PLAN i).id = 170 ∧ (CHZ_SLICE_STS.PLAN i).ix = i ∧ (CHZ_SLICE_STS.PLAN i).width = 4 := ⟨rfl, rfl, rfl⟩
@[simp] theorem CHZ_SLICE_STS.CHAN_id (i : Nat) : (CHZ_SLICE_STS.CHAN i).id = 171 ∧ (CHZ_SLICE_STS.CHAN i).ix = i ∧ (CHZ_SLICE_STS.CHAN i).width = 9 := ⟨rfl, rfl, rfl⟩
@[simp] theorem CHZ_SLICE_STS.PHYC_id (i : Nat) : (CHZ_SLICE_STS.PHYC i).id = 172 ∧ (CHZ_SLICE_STS.PHYC i).ix = i ∧ (CHZ_SLICE_STS.PHYC i).width = 4 := ⟨rfl, rfl, rfl⟩
@[simp] theorem CHZ_SLICE_STS.OFDM_CAP_id (i : Nat) : (CHZ_SLICE_STS.OFDM_CAP i).id = 173 ∧ (CHZ_SLICE_STS.OFDM_CAP i).ix = i ∧ (CHZ_SLICE_STS.OFDM_CAP i).width = 1 := ⟨rfl, rfl, rfl⟩
@[simp] theorem CHZ_SLICE_FRAMES_id (i : Nat) : (CHZ_SLICE_FRAMES i).id = 174 ∧ (CHZ_SLICE_FRAMES i).ix = i ∧ (CHZ_SLICE_FRAMES i).width = 32 := ⟨rfl, rfl, rfl⟩
@[simp] theorem CHZ_SPEC.PWR_id (i : Nat) : (CHZ_SPEC.PWR i).id = 175 ∧ (CHZ_SPEC.PWR i).ix = i ∧ (CHZ_SPEC.PWR i).width = 8 := ⟨rfl, rfl, rfl⟩
@[simp] theorem CHZ_SPEC.MAX_id (i : Nat) : (CHZ_SPEC.MAX i).id = 176 ∧ (CHZ_SPEC.MAX i).ix = i ∧ (CHZ_SPEC.MAX i).width = 8 := ⟨rfl, rfl, rfl⟩
@[simp] theorem MAC_CFG.EN_id : MAC_CFG.EN.id = 177 ∧ MAC_CFG.EN.ix = 0 ∧ MAC_CFG.EN.width = 1 := ⟨rfl, rfl, rfl⟩
@[simp] theorem MAC_CFG.TRACE_EN_id : MAC_CFG.TRACE_EN.id = 178 ∧ MAC_CFG.TRACE_EN.ix = 0 ∧ MAC_CFG.TRACE_EN.width = 1 := ⟨rfl, rfl, rfl⟩
@[simp] theorem MAC_STS.ASN_RUN_id : MAC_STS.ASN_RUN.id = 179 ∧ MAC_STS.ASN_RUN.ix = 0 ∧ MAC_STS.ASN_RUN.width = 1 := ⟨rfl, rfl, rfl⟩
@[simp] theorem MAC_STS.TRACE_WP_id : MAC_STS.TRACE_WP.id = 180 ∧ MAC_STS.TRACE_WP.ix = 0 ∧ MAC_STS.TRACE_WP.width = 6 := ⟨rfl, rfl, rfl⟩
@[simp] theorem MAC_SLOT_LEN.LEN_US_id : MAC_SLOT_LEN.LEN_US.id = 181 ∧ MAC_SLOT_LEN.LEN_US.ix = 0 ∧ MAC_SLOT_LEN.LEN_US.width = 18 := ⟨rfl, rfl, rfl⟩
@[simp] theorem MAC_ASN_LO.ASN_id : MAC_ASN_LO.ASN.id = 182 ∧ MAC_ASN_LO.ASN.ix = 0 ∧ MAC_ASN_LO.ASN.width = 32 := ⟨rfl, rfl, rfl⟩
@[simp] theorem MAC_ASN_HI.ASN_id : MAC_ASN_HI.ASN.id = 183 ∧ MAC_ASN_HI.ASN.ix = 0 ∧ MAC_ASN_HI.ASN.width = 8 := ⟨rfl, rfl, rfl⟩
@[simp] theorem MAC_INT_STS.HS_SWITCHED_id : MAC_INT_STS.HS_SWITCHED.id = 184 ∧ MAC_INT_STS.HS_SWITCHED.ix = 0 ∧ MAC_INT_STS.HS_SWITCHED.width = 1 := ⟨rfl, rfl, rfl⟩
@[simp] theorem MAC_INT_STS.HS_LATE_id : MAC_INT_STS.HS_LATE.id = 185 ∧ MAC_INT_STS.HS_LATE.ix = 0 ∧ MAC_INT_STS.HS_LATE.width = 1 := ⟨rfl, rfl, rfl⟩
@[simp] theorem MAC_INT_STS.UC_SWAPPED_id : MAC_INT_STS.UC_SWAPPED.id = 186 ∧ MAC_INT_STS.UC_SWAPPED.ix = 0 ∧ MAC_INT_STS.UC_SWAPPED.width = 1 := ⟨rfl, rfl, rfl⟩
@[simp] theorem MAC_INT_STS.UC_BAD_id : MAC_INT_STS.UC_BAD.id = 187 ∧ MAC_INT_STS.UC_BAD.ix = 0 ∧ MAC_INT_STS.UC_BAD.width = 1 := ⟨rfl, rfl, rfl⟩
@[simp] theorem MAC_INT_STS.WARD_FULL_id : MAC_INT_STS.WARD_FULL.id = 188 ∧ MAC_INT_STS.WARD_FULL.ix = 0 ∧ MAC_INT_STS.WARD_FULL.width = 1 := ⟨rfl, rfl, rfl⟩
@[simp] theorem MAC_INT_STS.DOMAIN_FULL_id : MAC_INT_STS.DOMAIN_FULL.id = 189 ∧ MAC_INT_STS.DOMAIN_FULL.ix = 0 ∧ MAC_INT_STS.DOMAIN_FULL.width = 1 := ⟨rfl, rfl, rfl⟩
@[simp] theorem MAC_INT_STS.ACK_SKIP_id : MAC_INT_STS.ACK_SKIP.id = 190 ∧ MAC_INT_STS.ACK_SKIP.ix = 0 ∧ MAC_INT_STS.ACK_SKIP.width = 1 := ⟨rfl, rfl, rfl⟩
@[simp] theorem MAC_INT_STS.TX_MISSED_id : MAC_INT_STS.TX_MISSED.id = 191 ∧ MAC_INT_STS.TX_MISSED.ix = 0 ∧ MAC_INT_STS.TX_MISSED.width = 1 := ⟨rfl, rfl, rfl⟩
@[simp] theorem MAC_INT_STS.LS_HANG_id : MAC_INT_STS.LS_HANG.id = 192 ∧ MAC_INT_STS.LS_HANG.ix = 0 ∧ MAC_INT_STS.LS_HANG.width = 1 := ⟨rfl, rfl, rfl⟩
@[simp] theorem MAC_INT_EN.HS_SWITCHED_id : MAC_INT_EN.HS_SWITCHED.id = 193 ∧ MAC_INT_EN.HS_SWITCHED.ix = 0 ∧ MAC_INT_EN.HS_SWITCHED.width = 1 := ⟨rfl, rfl, rfl⟩
@[simp] theorem MAC_INT_EN.HS_LATE_id : MAC_INT_EN.HS_LATE.id = 194 ∧ MAC_INT_EN.HS_LATE.ix = 0 ∧ MAC_INT_EN.HS_LATE.width = 1 := ⟨rfl, rfl, rfl⟩
@[simp] theorem MAC_INT_EN.UC_SWAPPED_id : MAC_INT_EN.UC_SWAPPED.id = 195 ∧ MAC_INT_EN.UC_SWAPPED.ix = 0 ∧ MAC_INT_EN.UC_SWAPPED.width = 1 := ⟨rfl, rfl, rfl⟩
@[simp] theorem MAC_INT_EN.UC_BAD_id : MAC_INT_EN.UC_BAD.id = 196 ∧ MAC_INT_EN.UC_BAD.ix = 0 ∧ MAC_INT_EN.UC_BAD.width = 1 := ⟨rfl, rfl, rfl⟩
@[simp] theorem MAC_INT_EN.WARD_FULL_id : MAC_INT_EN.WARD_FULL.id = 197 ∧ MAC_INT_EN.WARD_FULL.ix = 0 ∧ MAC_INT_EN.WARD_FULL.width = 1 := ⟨rfl, rfl, rfl⟩
@[simp] theorem MAC_INT_EN.DOMAIN_FULL_id : MAC_INT_EN.DOMAIN_FULL.id = 198 ∧ MAC_INT_EN.DOMAIN_FULL.ix = 0 ∧ MAC_INT_EN.DOMAIN_FULL.width = 1 := ⟨rfl, rfl, rfl⟩
@[simp] theorem MAC_INT_EN.ACK_SKIP_id : MAC_INT_EN.ACK_SKIP.id = 199 ∧ MAC_INT_EN.ACK_SKIP.ix = 0 ∧ MAC_INT_EN.ACK_SKIP.width = 1 := ⟨rfl, rfl, rfl⟩
@[simp] theorem MAC_INT_EN.TX_MISSED_id : MAC_INT_EN.TX_MISSED.id = 200 ∧ MAC_INT_EN.TX_MISSED.ix = 0 ∧ MAC_INT_EN.TX_MISSED.width = 1 := ⟨rfl, rfl, rfl⟩
@[simp] theorem MAC_INT_EN.LS_HANG_id : MAC_INT_EN.LS_HANG.id = 201 ∧ MAC_INT_EN.LS_HANG.ix = 0 ∧ MAC_INT_EN.LS_HANG.width = 1 := ⟨rfl, rfl, rfl⟩
@[simp] theorem MAC_ACK_CFG.SEC_id : MAC_ACK_CFG.SEC.id = 202 ∧ MAC_ACK_CFG.SEC.ix = 0 ∧ MAC_ACK_CFG.SEC.width = 1 := ⟨rfl, rfl, rfl⟩
@[simp] theorem MAC_ACK_CFG.TCX_EN_id : MAC_ACK_CFG.TCX_EN.id = 203 ∧ MAC_ACK_CFG.TCX_EN.ix = 0 ∧ MAC_ACK_CFG.TCX_EN.width = 1 := ⟨rfl, rfl, rfl⟩
@[simp] theorem MAC_ACK_CFG.ACK_MAX_id : MAC_ACK_CFG.ACK_MAX.id = 204 ∧ MAC_ACK_CFG.ACK_MAX.ix = 0 ∧ MAC_ACK_CFG.ACK_MAX.width = 6 := ⟨rfl, rfl, rfl⟩
@[simp] theorem MAC_TCX_OUI.OUI_id : MAC_TCX_OUI.OUI.id = 205 ∧ MAC_TCX_OUI.OUI.ix = 0 ∧ MAC_TCX_OUI.OUI.width = 24 := ⟨rfl, rfl, rfl⟩
@[simp] theorem MAC_EB_CFG.SEC_id : MAC_EB_CFG.SEC.id = 206 ∧ MAC_EB_CFG.SEC.ix = 0 ∧ MAC_EB_CFG.SEC.width = 1 := ⟨rfl, rfl, rfl⟩
@[simp] theorem MAC_EB_CFG.TS_FULL_id : MAC_EB_CFG.TS_FULL.id = 207 ∧ MAC_EB_CFG.TS_FULL.ix = 0 ∧ MAC_EB_CFG.TS_FULL.width = 1 := ⟨rfl, rfl, rfl⟩
@[simp] theorem MAC_EB_CFG.JOIN_METRIC_id : MAC_EB_CFG.JOIN_METRIC.id = 208 ∧ MAC_EB_CFG.JOIN_METRIC.ix = 0 ∧ MAC_EB_CFG.JOIN_METRIC.width = 8 := ⟨rfl, rfl, rfl⟩
@[simp] theorem MAC_DRIFT_CFG.SHIFT_id : MAC_DRIFT_CFG.SHIFT.id = 209 ∧ MAC_DRIFT_CFG.SHIFT.ix = 0 ∧ MAC_DRIFT_CFG.SHIFT.width = 3 := ⟨rfl, rfl, rfl⟩
@[simp] theorem MAC_DRIFT_CFG.MIN_S_id : MAC_DRIFT_CFG.MIN_S.id = 210 ∧ MAC_DRIFT_CFG.MIN_S.ix = 0 ∧ MAC_DRIFT_CFG.MIN_S.width = 8 := ⟨rfl, rfl, rfl⟩
@[simp] theorem MAC_DRIFT_CFG.PDR_SHIFT_id : MAC_DRIFT_CFG.PDR_SHIFT.id = 211 ∧ MAC_DRIFT_CFG.PDR_SHIFT.ix = 0 ∧ MAC_DRIFT_CFG.PDR_SHIFT.width = 4 := ⟨rfl, rfl, rfl⟩
@[simp] theorem MAC_RETRY_CFG.MAX_RETRY_id : MAC_RETRY_CFG.MAX_RETRY.id = 212 ∧ MAC_RETRY_CFG.MAX_RETRY.ix = 0 ∧ MAC_RETRY_CFG.MAX_RETRY.width = 4 := ⟨rfl, rfl, rfl⟩
@[simp] theorem MAC_RETRY_CFG.MIN_BE_id : MAC_RETRY_CFG.MIN_BE.id = 213 ∧ MAC_RETRY_CFG.MIN_BE.ix = 0 ∧ MAC_RETRY_CFG.MIN_BE.width = 4 := ⟨rfl, rfl, rfl⟩
@[simp] theorem MAC_RETRY_CFG.MAX_BE_id : MAC_RETRY_CFG.MAX_BE.id = 214 ∧ MAC_RETRY_CFG.MAX_BE.ix = 0 ∧ MAC_RETRY_CFG.MAX_BE.width = 4 := ⟨rfl, rfl, rfl⟩
@[simp] theorem MAC_JOIN_CFG.ACK_JOIN_id : MAC_JOIN_CFG.ACK_JOIN.id = 215 ∧ MAC_JOIN_CFG.ACK_JOIN.ix = 0 ∧ MAC_JOIN_CFG.ACK_JOIN.width = 1 := ⟨rfl, rfl, rfl⟩
@[simp] theorem MAC_JOIN_CFG.JOIN_RATE_id : MAC_JOIN_CFG.JOIN_RATE.id = 216 ∧ MAC_JOIN_CFG.JOIN_RATE.ix = 0 ∧ MAC_JOIN_CFG.JOIN_RATE.width = 8 := ⟨rfl, rfl, rfl⟩
@[simp] theorem MAC_EUI_LO.EUI_id : MAC_EUI_LO.EUI.id = 217 ∧ MAC_EUI_LO.EUI.ix = 0 ∧ MAC_EUI_LO.EUI.width = 32 := ⟨rfl, rfl, rfl⟩
@[simp] theorem MAC_EUI_HI.EUI_id : MAC_EUI_HI.EUI.id = 218 ∧ MAC_EUI_HI.EUI.ix = 0 ∧ MAC_EUI_HI.EUI.width = 32 := ⟨rfl, rfl, rfl⟩
@[simp] theorem MAC_HS_IDX.ENTRY_id : MAC_HS_IDX.ENTRY.id = 219 ∧ MAC_HS_IDX.ENTRY.ix = 0 ∧ MAC_HS_IDX.ENTRY.width = 10 := ⟨rfl, rfl, rfl⟩
@[simp] theorem MAC_HS_IDX.HS_id : MAC_HS_IDX.HS.id = 220 ∧ MAC_HS_IDX.HS.ix = 0 ∧ MAC_HS_IDX.HS.width = 4 := ⟨rfl, rfl, rfl⟩
@[simp] theorem MAC_HS_IDX.AUTO_id : MAC_HS_IDX.AUTO.id = 221 ∧ MAC_HS_IDX.AUTO.ix = 0 ∧ MAC_HS_IDX.AUTO.width = 1 := ⟨rfl, rfl, rfl⟩
@[simp] theorem MAC_HS_DATA.PLAN_id : MAC_HS_DATA.PLAN.id = 222 ∧ MAC_HS_DATA.PLAN.ix = 0 ∧ MAC_HS_DATA.PLAN.width = 4 := ⟨rfl, rfl, rfl⟩
@[simp] theorem MAC_HS_DATA.CHAN_id : MAC_HS_DATA.CHAN.id = 223 ∧ MAC_HS_DATA.CHAN.ix = 0 ∧ MAC_HS_DATA.CHAN.width = 9 := ⟨rfl, rfl, rfl⟩
@[simp] theorem MAC_HS_CTL.MASK_id : MAC_HS_CTL.MASK.id = 224 ∧ MAC_HS_CTL.MASK.ix = 0 ∧ MAC_HS_CTL.MASK.width = 16 := ⟨rfl, rfl, rfl⟩
@[simp] theorem MAC_HS_CTL.ARM_id : MAC_HS_CTL.ARM.id = 225 ∧ MAC_HS_CTL.ARM.ix = 0 ∧ MAC_HS_CTL.ARM.width = 1 := ⟨rfl, rfl, rfl⟩
@[simp] theorem MAC_HS_SW_LO.ASN_id : MAC_HS_SW_LO.ASN.id = 226 ∧ MAC_HS_SW_LO.ASN.ix = 0 ∧ MAC_HS_SW_LO.ASN.width = 32 := ⟨rfl, rfl, rfl⟩
@[simp] theorem MAC_HS_SW_HI.ASN_id : MAC_HS_SW_HI.ASN.id = 227 ∧ MAC_HS_SW_HI.ASN.ix = 0 ∧ MAC_HS_SW_HI.ASN.width = 8 := ⟨rfl, rfl, rfl⟩
@[simp] theorem MAC_NIX_FREE.COUNT_id : MAC_NIX_FREE.COUNT.id = 228 ∧ MAC_NIX_FREE.COUNT.ix = 0 ∧ MAC_NIX_FREE.COUNT.width = 19 := ⟨rfl, rfl, rfl⟩
@[simp] theorem MAC_ACK_BURSTS.COUNT_id : MAC_ACK_BURSTS.COUNT.id = 229 ∧ MAC_ACK_BURSTS.COUNT.ix = 0 ∧ MAC_ACK_BURSTS.COUNT.width = 32 := ⟨rfl, rfl, rfl⟩
@[simp] theorem MAC_BURST_PEAK.PEAK_id : MAC_BURST_PEAK.PEAK.id = 230 ∧ MAC_BURST_PEAK.PEAK.ix = 0 ∧ MAC_BURST_PEAK.PEAK.width = 6 := ⟨rfl, rfl, rfl⟩
@[simp] theorem MAC_ACK_MARGIN.MIN_id : MAC_ACK_MARGIN.MIN.id = 231 ∧ MAC_ACK_MARGIN.MIN.ix = 0 ∧ MAC_ACK_MARGIN.MIN.width = 16 := ⟨rfl, rfl, rfl⟩
@[simp] theorem MAC_WARD_PAN.PAN_ID_id (i : Nat) : (MAC_WARD_PAN.PAN_ID i).id = 232 ∧ (MAC_WARD_PAN.PAN_ID i).ix = i ∧ (MAC_WARD_PAN.PAN_ID i).width = 16 := ⟨rfl, rfl, rfl⟩
@[simp] theorem MAC_WARD_PAN.EN_id (i : Nat) : (MAC_WARD_PAN.EN i).id = 233 ∧ (MAC_WARD_PAN.EN i).ix = i ∧ (MAC_WARD_PAN.EN i).width = 1 := ⟨rfl, rfl, rfl⟩
@[simp] theorem MAC_WARD_SA.CURSOR_id (i : Nat) : (MAC_WARD_SA.CURSOR i).id = 234 ∧ (MAC_WARD_SA.CURSOR i).ix = i ∧ (MAC_WARD_SA.CURSOR i).width = 16 := ⟨rfl, rfl, rfl⟩
@[simp] theorem MAC_WARD_SA.COUNT_id (i : Nat) : (MAC_WARD_SA.COUNT i).id = 235 ∧ (MAC_WARD_SA.COUNT i).ix = i ∧ (MAC_WARD_SA.COUNT i).width = 16 := ⟨rfl, rfl, rfl⟩
@[simp] theorem MAC_WARD_QUIET.TIMEOUT_S_id (i : Nat) : (MAC_WARD_QUIET.TIMEOUT_S i).id = 236 ∧ (MAC_WARD_QUIET.TIMEOUT_S i).ix = i ∧ (MAC_WARD_QUIET.TIMEOUT_S i).width = 16 := ⟨rfl, rfl, rfl⟩
@[simp] theorem MAC_HS_LEN.SHADOW_id (i : Nat) : (MAC_HS_LEN.SHADOW i).id = 237 ∧ (MAC_HS_LEN.SHADOW i).ix = i ∧ (MAC_HS_LEN.SHADOW i).width = 11 := ⟨rfl, rfl, rfl⟩
@[simp] theorem MAC_HS_LEN.ACTIVE_id (i : Nat) : (MAC_HS_LEN.ACTIVE i).id = 238 ∧ (MAC_HS_LEN.ACTIVE i).ix = i ∧ (MAC_HS_LEN.ACTIVE i).width = 11 := ⟨rfl, rfl, rfl⟩
@[simp] theorem MAC_TT_TX.TX_OFS_id (i : Nat) : (MAC_TT_TX.TX_OFS i).id = 239 ∧ (MAC_TT_TX.TX_OFS i).ix = i ∧ (MAC_TT_TX.TX_OFS i).width = 18 := ⟨rfl, rfl, rfl⟩
@[simp] theorem MAC_TT_TX.TX_COMMIT_id (i : Nat) : (MAC_TT_TX.TX_COMMIT i).id = 240 ∧ (MAC_TT_TX.TX_COMMIT i).ix = i ∧ (MAC_TT_TX.TX_COMMIT i).width = 14 := ⟨rfl, rfl, rfl⟩
@[simp] theorem MAC_TT_GUARD.GUARD_id (i : Nat) : (MAC_TT_GUARD.GUARD i).id = 241 ∧ (MAC_TT_GUARD.GUARD i).ix = i ∧ (MAC_TT_GUARD.GUARD i).width = 18 := ⟨rfl, rfl, rfl⟩
@[simp] theorem MAC_TT_GUARD.PRESHIFT_EN_id (i : Nat) : (MAC_TT_GUARD.PRESHIFT_EN i).id = 242 ∧ (MAC_TT_GUARD.PRESHIFT_EN i).ix = i ∧ (MAC_TT_GUARD.PRESHIFT_EN i).width = 1 := ⟨rfl, rfl, rfl⟩
@[simp] theorem MAC_TT_ACK.TX_ACK_DELAY_id (i : Nat) : (MAC_TT_ACK.TX_ACK_DELAY i).id = 243 ∧ (MAC_TT_ACK.TX_ACK_DELAY i).ix = i ∧ (MAC_TT_ACK.TX_ACK_DELAY i).width = 14 := ⟨rfl, rfl, rfl⟩
@[simp] theorem MAC_TT_RXACK.RX_ACK_DELAY_id (i : Nat) : (MAC_TT_RXACK.RX_ACK_DELAY i).id = 244 ∧ (MAC_TT_RXACK.RX_ACK_DELAY i).ix = i ∧ (MAC_TT_RXACK.RX_ACK_DELAY i).width = 14 := ⟨rfl, rfl, rfl⟩
@[simp] theorem MAC_TT_RXACK.ACK_WAIT_id (i : Nat) : (MAC_TT_RXACK.ACK_WAIT i).id = 245 ∧ (MAC_TT_RXACK.ACK_WAIT i).ix = i ∧ (MAC_TT_RXACK.ACK_WAIT i).width = 14 := ⟨rfl, rfl, rfl⟩
@[simp] theorem MAC_TT_CCA.CCA_EN_id (i : Nat) : (MAC_TT_CCA.CCA_EN i).id = 246 ∧ (MAC_TT_CCA.CCA_EN i).ix = i ∧ (MAC_TT_CCA.CCA_EN i).width = 1 := ⟨rfl, rfl, rfl⟩
@[simp] theorem MAC_TT_CCA.CCA_LEN_id (i : Nat) : (MAC_TT_CCA.CCA_LEN i).id = 247 ∧ (MAC_TT_CCA.CCA_LEN i).ix = i ∧ (MAC_TT_CCA.CCA_LEN i).width = 10 := ⟨rfl, rfl, rfl⟩
@[simp] theorem MAC_TT_CCA.CCA_THR_id (i : Nat) : (MAC_TT_CCA.CCA_THR i).id = 248 ∧ (MAC_TT_CCA.CCA_THR i).ix = i ∧ (MAC_TT_CCA.CCA_THR i).width = 8 := ⟨rfl, rfl, rfl⟩
@[simp] theorem MAC_TT_OPT.EN_id (i : Nat) : (MAC_TT_OPT.EN i).id = 249 ∧ (MAC_TT_OPT.EN i).ix = i ∧ (MAC_TT_OPT.EN i).width = 1 := ⟨rfl, rfl, rfl⟩
@[simp] theorem MAC_TT_OPT.ACK_EN_id (i : Nat) : (MAC_TT_OPT.ACK_EN i).id = 250 ∧ (MAC_TT_OPT.ACK_EN i).ix = i ∧ (MAC_TT_OPT.ACK_EN i).width = 1 := ⟨rfl, rfl, rfl⟩
@[simp] theorem MAC_TT_PIX.DATA_PIX_id (i : Nat) : (MAC_TT_PIX.DATA_PIX i).id = 251 ∧ (MAC_TT_PIX.DATA_PIX i).ix = i ∧ (MAC_TT_PIX.DATA_PIX i).width = 4 := ⟨rfl, rfl, rfl⟩
@[simp] theorem MAC_TT_PIX.RETRY_PIX_id (i : Nat) : (MAC_TT_PIX.RETRY_PIX i).id = 252 ∧ (MAC_TT_PIX.RETRY_PIX i).ix = i ∧ (MAC_TT_PIX.RETRY_PIX i).width = 4 := ⟨rfl, rfl, rfl⟩
@[simp] theorem MAC_TT_EFF.EARLY_id (i : Nat) : (MAC_TT_EFF.EARLY i).id = 253 ∧ (MAC_TT_EFF.EARLY i).ix = i ∧ (MAC_TT_EFF.EARLY i).width = 14 := ⟨rfl, rfl, rfl⟩
@[simp] theorem MAC_TT_EFF.LATE_id (i : Nat) : (MAC_TT_EFF.LATE i).id = 254 ∧ (MAC_TT_EFF.LATE i).ix = i ∧ (MAC_TT_EFF.LATE i).width = 17 := ⟨rfl, rfl, rfl⟩
@[simp] theorem MAC_TRACE.WORD_id (i : Nat) : (MAC_TRACE.WORD i).id = 255 ∧ (MAC_TRACE.WORD i).ix = i ∧ (MAC_TRACE.WORD i).width = 32 := ⟨rfl, rfl, rfl⟩
@[simp] theorem MAC_W_RX_ACCEPT_id (n : Nat) : (MAC_W_RX_ACCEPT n).id = 256 ∧ (MAC_W_RX_ACCEPT n).ix = n ∧ (MAC_W_RX_ACCEPT n).width = 32 := ⟨rfl, rfl, rfl⟩
@[simp] theorem MAC_W_RX_REPEAT_id (n : Nat) : (MAC_W_RX_REPEAT n).id = 257 ∧ (MAC_W_RX_REPEAT n).ix = n ∧ (MAC_W_RX_REPEAT n).width = 32 := ⟨rfl, rfl, rfl⟩
@[simp] theorem MAC_W_RX_REPLAY_id (n : Nat) : (MAC_W_RX_REPLAY n).id = 258 ∧ (MAC_W_RX_REPLAY n).ix = n ∧ (MAC_W_RX_REPLAY n).width = 32 := ⟨rfl, rfl, rfl⟩
@[simp] theorem MAC_W_RX_MIC_FAIL_id (n : Nat) : (MAC_W_RX_MIC_FAIL n).id = 259 ∧ (MAC_W_RX_MIC_FAIL n).ix = n ∧ (MAC_W_RX_MIC_FAIL n).width = 32 := ⟨rfl, rfl, rfl⟩
@[simp] theorem MAC_W_RX_NOSRC_id (n : Nat) : (MAC_W_RX_NOSRC n).id = 260 ∧ (MAC_W_RX_NOSRC n).ix = n ∧ (MAC_W_RX_NOSRC n).width = 32 := ⟨rfl, rfl, rfl⟩
@[simp] theorem MAC_W_RX_UNSEC_id (n : Nat) : (MAC_W_RX_UNSEC n).id = 261 ∧ (MAC_W_RX_UNSEC n).ix = n ∧ (MAC_W_RX_UNSEC n).width = 32 := ⟨rfl, rfl, rfl⟩
@[simp] theorem MAC_W_RX_FENCED_id (n : Nat) : (MAC_W_RX_FENCED n).id = 262 ∧ (MAC_W_RX_FENCED n).ix = n ∧ (MAC_W_RX_FENCED n).width = 32 := ⟨rfl, rfl, rfl⟩
@[simp] theorem MAC_W_RX_NOTME_id (n : Nat) : (MAC_W_RX_NOTME n).id = 263 ∧ (MAC_W_RX_NOTME n).ix = n ∧ (MAC_W_RX_NOTME n).width = 32 := ⟨rfl, rfl, rfl⟩
@[simp] theorem MAC_W_TX_ATT_id (n : Nat) : (MAC_W_TX_ATT n).id = 264 ∧ (MAC_W_TX_ATT n).ix = n ∧ (MAC_W_TX_ATT n).width = 32 := ⟨rfl, rfl, rfl⟩
@[simp] theorem MAC_W_TX_OK_id (n : Nat) : (MAC_W_TX_OK n).id = 265 ∧ (MAC_W_TX_OK n).ix = n ∧ (MAC_W_TX_OK n).width = 32 := ⟨rfl, rfl, rfl⟩
@[simp] theorem MAC_W_TX_RETRY_DROP_id (n : Nat) : (MAC_W_TX_RETRY_DROP n).id = 266 ∧ (MAC_W_TX_RETRY_DROP n).ix = n ∧ (MAC_W_TX_RETRY_DROP n).width = 32 := ⟨rfl, rfl, rfl⟩
@[simp] theorem MAC_W_TX_OVERSIZE_id (n : Nat) : (MAC_W_TX_OVERSIZE n).id = 267 ∧ (MAC_W_TX_OVERSIZE n).ix = n ∧ (MAC_W_TX_OVERSIZE n).width = 32 := ⟨rfl, rfl, rfl⟩
@[simp] theorem MAC_W_JOIN_REQ_id (n : Nat) : (MAC_W_JOIN_REQ n).id = 268 ∧ (MAC_W_JOIN_REQ n).ix = n ∧ (MAC_W_JOIN_REQ n).width = 32 := ⟨rfl, rfl, rfl⟩
@[simp] theorem MAC_W_JOIN_DROP_id (n : Nat) : (MAC_W_JOIN_DROP n).id = 269 ∧ (MAC_W_JOIN_DROP n).ix = n ∧ (MAC_W_JOIN_DROP n).width = 32 := ⟨rfl, rfl, rfl⟩
@[simp] theorem MAC_W_EB_SENT_id (n : Nat) : (MAC_W_EB_SENT n).id = 270 ∧ (MAC_W_EB_SENT n).ix = n ∧ (MAC_W_EB_SENT n).width = 32 := ⟨rfl, rfl, rfl⟩
@[simp] theorem MAC_W_PRESHIFT_LIM_id (n : Nat) : (MAC_W_PRESHIFT_LIM n).id = 271 ∧ (MAC_W_PRESHIFT_LIM n).ix = n ∧ (MAC_W_PRESHIFT_LIM n).width = 32 := ⟨rfl, rfl, rfl⟩
@[simp] theorem MAC_LS_CTL.EN_id (n : Nat) : (MAC_LS_CTL.EN n).id = 272 ∧ (MAC_LS_CTL.EN n).ix = n ∧ (MAC_LS_CTL.EN n).width = 1 := ⟨rfl, rfl, rfl⟩
@[simp] theorem MAC_LS_STS.BANK_id (n : Nat) : (MAC_LS_STS.BANK n).id = 273 ∧ (MAC_LS_STS.BANK n).ix = n ∧ (MAC_LS_STS.BANK n).width = 1 := ⟨rfl, rfl, rfl⟩
@[simp] theorem MAC_LS_STS.STATE_id (n : Nat) : (MAC_LS_STS.STATE n).id = 274 ∧ (MAC_LS_STS.STATE n).ix = n ∧ (MAC_LS_STS.STATE n).width = 3 := ⟨rfl, rfl, rfl⟩
@[simp] theorem MAC_LS_STS.IN_SPAN_id (n : Nat) : (MAC_LS_STS.IN_SPAN n).id = 275 ∧ (MAC_LS_STS.IN_SPAN n).ix = n ∧ (MAC_LS_STS.IN_SPAN n).width = 1 := ⟨rfl, rfl, rfl⟩
@[simp] theorem MAC_LS_SWAP.SF_id (n : Nat) : (MAC_LS_SWAP.SF n).id = 276 ∧ (MAC_LS_SWAP.SF n).ix = n ∧ (MAC_LS_SWAP.SF n).width = 6 := ⟨rfl, rfl, rfl⟩
@[simp] theorem MAC_LS_SWAP.ARM_id (n : Nat) : (MAC_LS_SWAP.ARM n).id = 277 ∧ (MAC_LS_SWAP.ARM n).ix = n ∧ (MAC_LS_SWAP.ARM n).width = 1 := ⟨rfl, rfl, rfl⟩
@[simp] theorem MAC_LS_SWAP.BAD_id (n : Nat) : (MAC_LS_SWAP.BAD n).id = 278 ∧ (MAC_LS_SWAP.BAD n).ix = n ∧ (MAC_LS_SWAP.BAD n).width = 1 := ⟨rfl, rfl, rfl⟩
@[simp] theorem MAC_LS_UC_IDX.WORD_id (n : Nat) : (MAC_LS_UC_IDX.WORD n).id = 279 ∧ (MAC_LS_UC_IDX.WORD n).ix = n ∧ (MAC_LS_UC_IDX.WORD n).width = 11 := ⟨rfl, rfl, rfl⟩
@[simp] theorem MAC_LS_UC_DATA.DATA_id (n : Nat) : (MAC_LS_UC_DATA.DATA n).id = 280 ∧ (MAC_LS_UC_DATA.DATA n).ix = n ∧ (MAC_LS_UC_DATA.DATA n).width = 32 := ⟨rfl, rfl, rfl⟩
@[simp] theorem MAC_LS_VER.ACTIVE_id (n : Nat) : (MAC_LS_VER.ACTIVE n).id = 281 ∧ (MAC_LS_VER.ACTIVE n).ix = n ∧ (MAC_LS_VER.ACTIVE n).width = 16 := ⟨rfl, rfl, rfl⟩
@[simp] theorem MAC_LS_VER.INACTIVE_id (n : Nat) : (MAC_LS_VER.INACTIVE n).id = 282 ∧ (MAC_LS_VER.INACTIVE n).ix = n ∧ (MAC_LS_VER.INACTIVE n).width = 16 := ⟨rfl, rfl, rfl⟩
@[simp] theorem MAC_LS_VHIST.COUNT_id (n : Nat) (i : Nat) : (MAC_LS_VHIST.COUNT n i).id = 283 ∧ (MAC_LS_VHIST.COUNT n i).ix = n * 16 + i ∧ (MAC_LS_VHIST.COUNT n i).width = 32 := ⟨rfl, rfl, rfl⟩
@[simp] theorem MAC_LS_ACK_SENT_id (n : Nat) : (MAC_LS_ACK_SENT n).id = 284 ∧ (MAC_LS_ACK_SENT n).ix = n ∧ (MAC_LS_ACK_SENT n).width = 32 := ⟨rfl, rfl, rfl⟩
@[simp] theorem MAC_LS_ACK_SKIP_id (n : Nat) : (MAC_LS_ACK_SKIP n).id = 285 ∧ (MAC_LS_ACK_SKIP n).ix = n ∧ (MAC_LS_ACK_SKIP n).width = 32 := ⟨rfl, rfl, rfl⟩
@[simp] theorem MAC_LS_ACK_BUSY_id (n : Nat) : (MAC_LS_ACK_BUSY n).id = 286 ∧ (MAC_LS_ACK_BUSY n).ix = n ∧ (MAC_LS_ACK_BUSY n).width = 32 := ⟨rfl, rfl, rfl⟩
@[simp] theorem MAC_LS_ACK_FULL_id (n : Nat) : (MAC_LS_ACK_FULL n).id = 287 ∧ (MAC_LS_ACK_FULL n).ix = n ∧ (MAC_LS_ACK_FULL n).width = 32 := ⟨rfl, rfl, rfl⟩
@[simp] theorem MAC_LS_ACK_SAMESLOT_id (n : Nat) : (MAC_LS_ACK_SAMESLOT n).id = 288 ∧ (MAC_LS_ACK_SAMESLOT n).ix = n ∧ (MAC_LS_ACK_SAMESLOT n).width = 32 := ⟨rfl, rfl, rfl⟩
@[simp] theorem MAC_LS_TX_SENT_id (n : Nat) : (MAC_LS_TX_SENT n).id = 289 ∧ (MAC_LS_TX_SENT n).ix = n ∧ (MAC_LS_TX_SENT n).width = 32 := ⟨rfl, rfl, rfl⟩
@[simp] theorem MAC_LS_TX_MISSED_id (n : Nat) : (MAC_LS_TX_MISSED n).id = 290 ∧ (MAC_LS_TX_MISSED n).ix = n ∧ (MAC_LS_TX_MISSED n).width = 32 := ⟨rfl, rfl, rfl⟩
@[simp] theorem MAC_LS_TX_NOFIT_id (n : Nat) : (MAC_LS_TX_NOFIT n).id = 291 ∧ (MAC_LS_TX_NOFIT n).ix = n ∧ (MAC_LS_TX_NOFIT n).width = 32 := ⟨rfl, rfl, rfl⟩
@[simp] theorem MAC_LS_EB_MISSED_id (n : Nat) : (MAC_LS_EB_MISSED n).id = 292 ∧ (MAC_LS_EB_MISSED n).ix = n ∧ (MAC_LS_EB_MISSED n).width = 32 := ⟨rfl, rfl, rfl⟩
@[simp] theorem MAC_LS_UC_SWAPS_id (n : Nat) : (MAC_LS_UC_SWAPS n).id = 293 ∧ (MAC_LS_UC_SWAPS n).ix = n ∧ (MAC_LS_UC_SWAPS n).width = 32 := ⟨rfl, rfl, rfl⟩
@[simp] theorem SRC_CFG.EN_id : SRC_CFG.EN.id = 294 ∧ SRC_CFG.EN.ix = 0 ∧ SRC_CFG.EN.width = 1 := ⟨rfl, rfl, rfl⟩
@[simp] theorem SRC_CFG.P6_EN_id : SRC_CFG.P6_EN.id = 295 ∧ SRC_CFG.P6_EN.ix = 0 ∧ SRC_CFG.P6_EN.width = 1 := ⟨rfl, rfl, rfl⟩
@[simp] theorem SRC_CFG.ADAPT_EN_id : SRC_CFG.ADAPT_EN.id = 296 ∧ SRC_CFG.ADAPT_EN.ix = 0 ∧ SRC_CFG.ADAPT_EN.width = 1 := ⟨rfl, rfl, rfl⟩
@[simp] theorem SRC_STS.RUN_id : SRC_STS.RUN.id = 297 ∧ SRC_STS.RUN.ix = 0 ∧ SRC_STS.RUN.width = 1 := ⟨rfl, rfl, rfl⟩
@[simp] theorem SRC_STS.LATE_SWITCH_id : SRC_STS.LATE_SWITCH.id = 298 ∧ SRC_STS.LATE_SWITCH.ix = 0 ∧ SRC_STS.LATE_SWITCH.width = 1 := ⟨rfl, rfl, rfl⟩
@[simp] theorem SRC_STS.WMOVE_LATE_id : SRC_STS.WMOVE_LATE.id = 299 ∧ SRC_STS.WMOVE_LATE.ix = 0 ∧ SRC_STS.WMOVE_LATE.width = 1 := ⟨rfl, rfl, rfl⟩
@[simp] theorem SRC_STS.STAGED_id : SRC_STS.STAGED.id = 300 ∧ SRC_STS.STAGED.ix = 0 ∧ SRC_STS.STAGED.width = 9 := ⟨rfl, rfl, rfl⟩
@[simp] theorem SRC_STS.LOG_WP_id : SRC_STS.LOG_WP.id = 301 ∧ SRC_STS.LOG_WP.ix = 0 ∧ SRC_STS.LOG_WP.width = 3 := ⟨rfl, rfl, rfl⟩
@[simp] theorem SRC_STS.UC_BANK_id : SRC_STS.UC_BANK.id = 302 ∧ SRC_STS.UC_BANK.ix = 0 ∧ SRC_STS.UC_BANK.width = 1 := ⟨rfl, rfl, rfl⟩
@[simp] theorem SRC_INT_STS.GEN_COMMIT_id : SRC_INT_STS.GEN_COMMIT.id = 303 ∧ SRC_INT_STS.GEN_COMMIT.ix = 0 ∧ SRC_INT_STS.GEN_COMMIT.width = 1 := ⟨rfl, rfl, rfl⟩
@[simp] theorem SRC_INT_STS.LATE_SWITCH_id : SRC_INT_STS.LATE_SWITCH.id = 304 ∧ SRC_INT_STS.LATE_SWITCH.ix = 0 ∧ SRC_INT_STS.LATE_SWITCH.width = 1 := ⟨rfl, rfl, rfl⟩
@[simp] theorem SRC_INT_STS.SW_DONE_id : SRC_INT_STS.SW_DONE.id = 305 ∧ SRC_INT_STS.SW_DONE.ix = 0 ∧ SRC_INT_STS.SW_DONE.width = 1 := ⟨rfl, rfl, rfl⟩
@[simp] theorem SRC_INT_STS.SW_BAD_id : SRC_INT_STS.SW_BAD.id = 306 ∧ SRC_INT_STS.SW_BAD.ix = 0 ∧ SRC_INT_STS.SW_BAD.width = 1 := ⟨rfl, rfl, rfl⟩
@[simp] theorem SRC_INT_STS.SF_BAD_id : SRC_INT_STS.SF_BAD.id = 307 ∧ SRC_INT_STS.SF_BAD.ix = 0 ∧ SRC_INT_STS.SF_BAD.width = 1 := ⟨rfl, rfl, rfl⟩
@[simp] theorem SRC_INT_STS.REJ_id : SRC_INT_STS.REJ.id = 308 ∧ SRC_INT_STS.REJ.ix = 0 ∧ SRC_INT_STS.REJ.width = 1 := ⟨rfl, rfl, rfl⟩
@[simp] theorem SRC_INT_STS.P6_SEQERR_id : SRC_INT_STS.P6_SEQERR.id = 309 ∧ SRC_INT_STS.P6_SEQERR.ix = 0 ∧ SRC_INT_STS.P6_SEQERR.width = 1 := ⟨rfl, rfl, rfl⟩
@[simp] theorem SRC_INT_STS.P6_TIMEOUT_id : SRC_INT_STS.P6_TIMEOUT.id = 310 ∧ SRC_INT_STS.P6_TIMEOUT.ix = 0 ∧ SRC_INT_STS.P6_TIMEOUT.width = 1 := ⟨rfl, rfl, rfl⟩
@[simp] theorem SRC_INT_STS.UC_SWAPPED_id : SRC_INT_STS.UC_SWAPPED.id = 311 ∧ SRC_INT_STS.UC_SWAPPED.ix = 0 ∧ SRC_INT_STS.UC_SWAPPED.width = 1 := ⟨rfl, rfl, rfl⟩
@[simp] theorem SRC_INT_STS.UC_BAD_id : SRC_INT_STS.UC_BAD.id = 312 ∧ SRC_INT_STS.UC_BAD.ix = 0 ∧ SRC_INT_STS.UC_BAD.width = 1 := ⟨rfl, rfl, rfl⟩
@[simp] theorem SRC_INT_STS.WMOVE_DONE_id : SRC_INT_STS.WMOVE_DONE.id = 313 ∧ SRC_INT_STS.WMOVE_DONE.ix = 0 ∧ SRC_INT_STS.WMOVE_DONE.width = 1 := ⟨rfl, rfl, rfl⟩
@[simp] theorem SRC_INT_STS.ENV_OVER_id : SRC_INT_STS.ENV_OVER.id = 314 ∧ SRC_INT_STS.ENV_OVER.ix = 0 ∧ SRC_INT_STS.ENV_OVER.width = 1 := ⟨rfl, rfl, rfl⟩
@[simp] theorem SRC_INT_EN.GEN_COMMIT_id : SRC_INT_EN.GEN_COMMIT.id = 315 ∧ SRC_INT_EN.GEN_COMMIT.ix = 0 ∧ SRC_INT_EN.GEN_COMMIT.width = 1 := ⟨rfl, rfl, rfl⟩
@[simp] theorem SRC_INT_EN.LATE_SWITCH_id : SRC_INT_EN.LATE_SWITCH.id = 316 ∧ SRC_INT_EN.LATE_SWITCH.ix = 0 ∧ SRC_INT_EN.LATE_SWITCH.width = 1 := ⟨rfl, rfl, rfl⟩
@[simp] theorem SRC_INT_EN.SW_DONE_id : SRC_INT_EN.SW_DONE.id = 317 ∧ SRC_INT_EN.SW_DONE.ix = 0 ∧ SRC_INT_EN.SW_DONE.width = 1 := ⟨rfl, rfl, rfl⟩
@[simp] theorem SRC_INT_EN.SW_BAD_id : SRC_INT_EN.SW_BAD.id = 318 ∧ SRC_INT_EN.SW_BAD.ix = 0 ∧ SRC_INT_EN.SW_BAD.width = 1 := ⟨rfl, rfl, rfl⟩
@[simp] theorem SRC_INT_EN.SF_BAD_id : SRC_INT_EN.SF_BAD.id = 319 ∧ SRC_INT_EN.SF_BAD.ix = 0 ∧ SRC_INT_EN.SF_BAD.width = 1 := ⟨rfl, rfl, rfl⟩
@[simp] theorem SRC_INT_EN.REJ_id : SRC_INT_EN.REJ.id = 320 ∧ SRC_INT_EN.REJ.ix = 0 ∧ SRC_INT_EN.REJ.width = 1 := ⟨rfl, rfl, rfl⟩
@[simp] theorem SRC_INT_EN.P6_SEQERR_id : SRC_INT_EN.P6_SEQERR.id = 321 ∧ SRC_INT_EN.P6_SEQERR.ix = 0 ∧ SRC_INT_EN.P6_SEQERR.width = 1 := ⟨rfl, rfl, rfl⟩
@[simp] theorem SRC_INT_EN.P6_TIMEOUT_id : SRC_INT_EN.P6_TIMEOUT.id = 322 ∧ SRC_INT_EN.P6_TIMEOUT.ix = 0 ∧ SRC_INT_EN.P6_TIMEOUT.width = 1 := ⟨rfl, rfl, rfl⟩
@[simp] theorem SRC_INT_EN.UC_SWAPPED_id : SRC_INT_EN.UC_SWAPPED.id = 323 ∧ SRC_INT_EN.UC_SWAPPED.ix = 0 ∧ SRC_INT_EN.UC_SWAPPED.width = 1 := ⟨rfl, rfl, rfl⟩
@[simp] theorem SRC_INT_EN.UC_BAD_id : SRC_INT_EN.UC_BAD.id = 324 ∧ SRC_INT_EN.UC_BAD.ix = 0 ∧ SRC_INT_EN.UC_BAD.width = 1 := ⟨rfl, rfl, rfl⟩
@[simp] theorem SRC_INT_EN.WMOVE_DONE_id : SRC_INT_EN.WMOVE_DONE.id = 325 ∧ SRC_INT_EN.WMOVE_DONE.ix = 0 ∧ SRC_INT_EN.WMOVE_DONE.width = 1 := ⟨rfl, rfl, rfl⟩
@[simp] theorem SRC_INT_EN.ENV_OVER_id : SRC_INT_EN.ENV_OVER.id = 326 ∧ SRC_INT_EN.ENV_OVER.ix = 0 ∧ SRC_INT_EN.ENV_OVER.width = 1 := ⟨rfl, rfl, rfl⟩
@[simp] theorem SRC_GEN.CUR_id : SRC_GEN.CUR.id = 327 ∧ SRC_GEN.CUR.ix = 0 ∧ SRC_GEN.CUR.width = 8 := ⟨rfl, rfl, rfl⟩
@[simp] theorem SRC_GEN.BOUND_id : SRC_GEN.BOUND.id = 328 ∧ SRC_GEN.BOUND.ix = 0 ∧ SRC_GEN.BOUND.width = 24 := ⟨rfl, rfl, rfl⟩
@[simp] theorem SRC_GEN_CMD.CLEAR_id : SRC_GEN_CMD.CLEAR.id = 329 ∧ SRC_GEN_CMD.CLEAR.ix = 0 ∧ SRC_GEN_CMD.CLEAR.width = 1 := ⟨rfl, rfl, rfl⟩
@[simp] theorem SRC_GEN_CMD.COMMIT_id : SRC_GEN_CMD.COMMIT.id = 330 ∧ SRC_GEN_CMD.COMMIT.ix = 0 ∧ SRC_GEN_CMD.COMMIT.width = 1 := ⟨rfl, rfl, rfl⟩
@[simp] theorem SRC_ADAPT_CFG.PERIOD_S_id : SRC_ADAPT_CFG.PERIOD_S.id = 331 ∧ SRC_ADAPT_CFG.PERIOD_S.ix = 0 ∧ SRC_ADAPT_CFG.PERIOD_S.width = 8 := ⟨rfl, rfl, rfl⟩
@[simp] theorem SRC_ADAPT_CFG.COMMIT_MS_id : SRC_ADAPT_CFG.COMMIT_MS.id = 332 ∧ SRC_ADAPT_CFG.COMMIT_MS.ix = 0 ∧ SRC_ADAPT_CFG.COMMIT_MS.width = 14 := ⟨rfl, rfl, rfl⟩
@[simp] theorem SRC_ADAPT_CFG.SCAN_MAX_id : SRC_ADAPT_CFG.SCAN_MAX.id = 333 ∧ SRC_ADAPT_CFG.SCAN_MAX.ix = 0 ∧ SRC_ADAPT_CFG.SCAN_MAX.width = 10 := ⟨rfl, rfl, rfl⟩
@[simp] theorem SRC_6P_CFG.SFID_id : SRC_6P_CFG.SFID.id = 334 ∧ SRC_6P_CFG.SFID.ix = 0 ∧ SRC_6P_CFG.SFID.width = 8 := ⟨rfl, rfl, rfl⟩
@[simp] theorem SRC_6P_CFG.TIMEOUT_S_id : SRC_6P_CFG.TIMEOUT_S.id = 335 ∧ SRC_6P_CFG.TIMEOUT_S.ix = 0 ∧ SRC_6P_CFG.TIMEOUT_S.width = 8 := ⟨rfl, rfl, rfl⟩
@[simp] theorem SRC_6P_CFG.MAX_OUT_id : SRC_6P_CFG.MAX_OUT.id = 336 ∧ SRC_6P_CFG.MAX_OUT.ix = 0 ∧ SRC_6P_CFG.MAX_OUT.width = 11 := ⟨rfl, rfl, rfl⟩
@[simp] theorem SRC_6P_CFG.TC_id : SRC_6P_CFG.TC.id = 337 ∧ SRC_6P_CFG.TC.ix = 0 ∧ SRC_6P_CFG.TC.width = 3 := ⟨rfl, rfl, rfl⟩
@[simp] theorem SRC_SW_CTL.FROM_id : SRC_SW_CTL.FROM.id = 338 ∧ SRC_SW_CTL.FROM.ix = 0 ∧ SRC_SW_CTL.FROM.width = 6 := ⟨rfl, rfl, rfl⟩
@[simp] theorem SRC_SW_CTL.TO_id : SRC_SW_CTL.TO.id = 339 ∧ SRC_SW_CTL.TO.ix = 0 ∧ SRC_SW_CTL.TO.width = 6 := ⟨rfl, rfl, rfl⟩
@[simp] theorem SRC_SW_CTL.FROM_EN_id : SRC_SW_CTL.FROM_EN.id = 340 ∧ SRC_SW_CTL.FROM_EN.ix = 0 ∧ SRC_SW_CTL.FROM_EN.width = 1 := ⟨rfl, rfl, rfl⟩
@[simp] theorem SRC_SW_CTL.ARM_id : SRC_SW_CTL.ARM.id = 341 ∧ SRC_SW_CTL.ARM.ix = 0 ∧ SRC_SW_CTL.ARM.width = 1 := ⟨rfl, rfl, rfl⟩
@[simp] theorem SRC_SW_CTL.BAD_id : SRC_SW_CTL.BAD.id = 342 ∧ SRC_SW_CTL.BAD.ix = 0 ∧ SRC_SW_CTL.BAD.width = 1 := ⟨rfl, rfl, rfl⟩
@[simp] theorem SRC_SW_ASN_LO.ASN_id : SRC_SW_ASN_LO.ASN.id = 343 ∧ SRC_SW_ASN_LO.ASN.ix = 0 ∧ SRC_SW_ASN_LO.ASN.width = 32 := ⟨rfl, rfl, rfl⟩
@[simp] theorem SRC_SW_ASN_HI.ASN_id : SRC_SW_ASN_HI.ASN.id = 344 ∧ SRC_SW_ASN_HI.ASN.ix = 0 ∧ SRC_SW_ASN_HI.ASN.width = 8 := ⟨rfl, rfl, rfl⟩
@[simp] theorem SRC_SW_AT_LO.ASN_id : SRC_SW_AT_LO.ASN.id = 345 ∧ SRC_SW_AT_LO.ASN.ix = 0 ∧ SRC_SW_AT_LO.ASN.width = 32 := ⟨rfl, rfl, rfl⟩
@[simp] theorem SRC_SW_AT_HI.ASN_id : SRC_SW_AT_HI.ASN.id = 346 ∧ SRC_SW_AT_HI.ASN.ix = 0 ∧ SRC_SW_AT_HI.ASN.width = 8 := ⟨rfl, rfl, rfl⟩
@[simp] theorem SRC_WMOVE_CTL.FE_id : SRC_WMOVE_CTL.FE.id = 347 ∧ SRC_WMOVE_CTL.FE.ix = 0 ∧ SRC_WMOVE_CTL.FE.width = 2 := ⟨rfl, rfl, rfl⟩
@[simp] theorem SRC_WMOVE_CTL.CENTRE_id : SRC_WMOVE_CTL.CENTRE.id = 348 ∧ SRC_WMOVE_CTL.CENTRE.ix = 0 ∧ SRC_WMOVE_CTL.CENTRE.width = 22 := ⟨rfl, rfl, rfl⟩
@[simp] theorem SRC_WMOVE_CTL.ARM_id : SRC_WMOVE_CTL.ARM.id = 349 ∧ SRC_WMOVE_CTL.ARM.ix = 0 ∧ SRC_WMOVE_CTL.ARM.width = 1 := ⟨rfl, rfl, rfl⟩
@[simp] theorem SRC_WMOVE_CTL.BAD_id : SRC_WMOVE_CTL.BAD.id = 350 ∧ SRC_WMOVE_CTL.BAD.ix = 0 ∧ SRC_WMOVE_CTL.BAD.width = 1 := ⟨rfl, rfl, rfl⟩
@[simp] theorem SRC_WMOVE_ASN_LO.ASN_id : SRC_WMOVE_ASN_LO.ASN.id = 351 ∧ SRC_WMOVE_ASN_LO.ASN.ix = 0 ∧ SRC_WMOVE_ASN_LO.ASN.width = 32 := ⟨rfl, rfl, rfl⟩
@[simp] theorem SRC_WMOVE_ASN_HI.ASN_id : SRC_WMOVE_ASN_HI.ASN.id = 352 ∧ SRC_WMOVE_ASN_HI.ASN.ix = 0 ∧ SRC_WMOVE_ASN_HI.ASN.width = 8 := ⟨rfl, rfl, rfl⟩
@[simp] theorem SRC_QUIET_CFG.AUTO_id (i : Nat) : (SRC_QUIET_CFG.AUTO i).id = 353 ∧ (SRC_QUIET_CFG.AUTO i).ix = i ∧ (SRC_QUIET_CFG.AUTO i).width = 1 := ⟨rfl, rfl, rfl⟩
@[simp] theorem SRC_QUIET_CFG.RUN_SLOTS_id (i : Nat) : (SRC_QUIET_CFG.RUN_SLOTS i).id = 354 ∧ (SRC_QUIET_CFG.RUN_SLOTS i).ix = i ∧ (SRC_QUIET_CFG.RUN_SLOTS i).width = 4 := ⟨rfl, rfl, rfl⟩
@[simp] theorem SRC_QUIET_CFG.QSF_id (i : Nat) : (SRC_QUIET_CFG.QSF i).id = 355 ∧ (SRC_QUIET_CFG.QSF i).ix = i ∧ (SRC_QUIET_CFG.QSF i).width = 6 := ⟨rfl, rfl, rfl⟩
@[simp] theorem SRC_QUIET_CFG.MAX_WAIT_id (i : Nat) : (SRC_QUIET_CFG.MAX_WAIT i).id = 356 ∧ (SRC_QUIET_CFG.MAX_WAIT i).ix = i ∧ (SRC_QUIET_CFG.MAX_WAIT i).width = 16 := ⟨rfl, rfl, rfl⟩
@[simp] theorem SRC_QUIET_STS.NEXT_IN_id (i : Nat) : (SRC_QUIET_STS.NEXT_IN i).id = 357 ∧ (SRC_QUIET_STS.NEXT_IN i).ix = i ∧ (SRC_QUIET_STS.NEXT_IN i).width = 16 := ⟨rfl, rfl, rfl⟩
@[simp] theorem SRC_QUIET_STS.USED_id (i : Nat) : (SRC_QUIET_STS.USED i).id = 358 ∧ (SRC_QUIET_STS.USED i).ix = i ∧ (SRC_QUIET_STS.USED i).width = 16 := ⟨rfl, rfl, rfl⟩
@[simp] theorem SRC_UC_CTL.ARM_id : SRC_UC_CTL.ARM.id = 359 ∧ SRC_UC_CTL.ARM.ix = 0 ∧ SRC_UC_CTL.ARM.width = 1 := ⟨rfl, rfl, rfl⟩
@[simp] theorem SRC_UC_CTL.BAD_id : SRC_UC_CTL.BAD.id = 360 ∧ SRC_UC_CTL.BAD.ix = 0 ∧ SRC_UC_CTL.BAD.width = 1 := ⟨rfl, rfl, rfl⟩
@[simp] theorem SRC_UC_IDX.WORD_id : SRC_UC_IDX.WORD.id = 361 ∧ SRC_UC_IDX.WORD.ix = 0 ∧ SRC_UC_IDX.WORD.width = 12 := ⟨rfl, rfl, rfl⟩
@[simp] theorem SRC_UC_DATA.DATA_id : SRC_UC_DATA.DATA.id = 362 ∧ SRC_UC_DATA.DATA.ix = 0 ∧ SRC_UC_DATA.DATA.width = 32 := ⟨rfl, rfl, rfl⟩
@[simp] theorem SRC_UC_VER.ACTIVE_id : SRC_UC_VER.ACTIVE.id = 363 ∧ SRC_UC_VER.ACTIVE.ix = 0 ∧ SRC_UC_VER.ACTIVE.width = 16 := ⟨rfl, rfl, rfl⟩
@[simp] theorem SRC_UC_VER.INACTIVE_id : SRC_UC_VER.INACTIVE.id = 364 ∧ SRC_UC_VER.INACTIVE.ix = 0 ∧ SRC_UC_VER.INACTIVE.width = 16 := ⟨rfl, rfl, rfl⟩
@[simp] theorem SRC_CELLS_USED.CELLS_id : SRC_CELLS_USED.CELLS.id = 365 ∧ SRC_CELLS_USED.CELLS.ix = 0 ∧ SRC_CELLS_USED.CELLS.width = 21 := ⟨rfl, rfl, rfl⟩
@[simp] theorem SRC_CELLS_PEAK.PEAK_id : SRC_CELLS_PEAK.PEAK.id = 366 ∧ SRC_CELLS_PEAK.PEAK.ix = 0 ∧ SRC_CELLS_PEAK.PEAK.width = 21 := ⟨rfl, rfl, rfl⟩
@[simp] theorem SRC_CHK_LAST.US_id : SRC_CHK_LAST.US.id = 367 ∧ SRC_CHK_LAST.US.ix = 0 ∧ SRC_CHK_LAST.US.width = 16 := ⟨rfl, rfl, rfl⟩
@[simp] theorem SRC_CHK_PEAK.US_id : SRC_CHK_PEAK.US.id = 368 ∧ SRC_CHK_PEAK.US.ix = 0 ∧ SRC_CHK_PEAK.US.width = 16 := ⟨rfl, rfl, rfl⟩
@[simp] theorem SRC_ADDS_id : SRC_ADDS.id = 369 ∧ SRC_ADDS.ix = 0 ∧ SRC_ADDS.width = 32 := ⟨rfl, rfl, rfl⟩
@[simp] theorem SRC_DELETES_id : SRC_DELETES.id = 370 ∧ SRC_DELETES.ix = 0 ∧ SRC_DELETES.width = 32 := ⟨rfl, rfl, rfl⟩
@[simp] theorem SRC_MOVES_id : SRC_MOVES.id = 371 ∧ SRC_MOVES.ix = 0 ∧ SRC_MOVES.width = 32 := ⟨rfl, rfl, rfl⟩
@[simp] theorem SRC_REJ_CONFLICT_id : SRC_REJ_CONFLICT.id = 372 ∧ SRC_REJ_CONFLICT.ix = 0 ∧ SRC_REJ_CONFLICT.width = 32 := ⟨rfl, rfl, rfl⟩
@[simp] theorem SRC_REJ_ENV_id : SRC_REJ_ENV.id = 373 ∧ SRC_REJ_ENV.ix = 0 ∧ SRC_REJ_ENV.width = 32 := ⟨rfl, rfl, rfl⟩
@[simp] theorem SRC_REJ_FULL_id : SRC_REJ_FULL.id = 374 ∧ SRC_REJ_FULL.ix = 0 ∧ SRC_REJ_FULL.width = 32 := ⟨rfl, rfl, rfl⟩
@[simp] theorem SRC_6P_INIT_id : SRC_6P_INIT.id = 375 ∧ SRC_6P_INIT.ix = 0 ∧ SRC_6P_INIT.width = 32 := ⟨rfl, rfl, rfl⟩
@[simp] theorem SRC_6P_ANSWER_id : SRC_6P_ANSWER.id = 376 ∧ SRC_6P_ANSWER.ix = 0 ∧ SRC_6P_ANSWER.width = 32 := ⟨rfl, rfl, rfl⟩
@[simp] theorem SRC_6P_OK_id : SRC_6P_OK.id = 377 ∧ SRC_6P_OK.ix = 0 ∧ SRC_6P_OK.width = 32 := ⟨rfl, rfl, rfl⟩
@[simp] theorem SRC_6P_ERR_id : SRC_6P_ERR.id = 378 ∧ SRC_6P_ERR.ix = 0 ∧ SRC_6P_ERR.width = 32 := ⟨rfl, rfl, rfl⟩
@[simp] theorem SRC_6P_TIMEOUT_id : SRC_6P_TIMEOUT.id = 379 ∧ SRC_6P_TIMEOUT.ix = 0 ∧ SRC_6P_TIMEOUT.width = 32 := ⟨rfl, rfl, rfl⟩
@[simp] theorem SRC_6P_SEQERR_id : SRC_6P_SEQERR.id = 380 ∧ SRC_6P_SEQERR.ix = 0 ∧ SRC_6P_SEQERR.width = 32 := ⟨rfl, rfl, rfl⟩
@[simp] theorem SRC_PICK_LATE_id : SRC_PICK_LATE.id = 381 ∧ SRC_PICK_LATE.ix = 0 ∧ SRC_PICK_LATE.width = 32 := ⟨rfl, rfl, rfl⟩
@[simp] theorem SRC_QUIET_RUNS_id : SRC_QUIET_RUNS.id = 382 ∧ SRC_QUIET_RUNS.ix = 0 ∧ SRC_QUIET_RUNS.width = 32 := ⟨rfl, rfl, rfl⟩
@[simp] theorem SRC_GEN_COMMITS_id : SRC_GEN_COMMITS.id = 383 ∧ SRC_GEN_COMMITS.ix = 0 ∧ SRC_GEN_COMMITS.width = 32 := ⟨rfl, rfl, rfl⟩
@[simp] theorem SRC_HOST_CMDS_id : SRC_HOST_CMDS.id = 384 ∧ SRC_HOST_CMDS.ix = 0 ∧ SRC_HOST_CMDS.width = 32 := ⟨rfl, rfl, rfl⟩
@[simp] theorem SRC_CONFLICT_LOG_A.CAND_id (i : Nat) : (SRC_CONFLICT_LOG_A.CAND i).id = 385 ∧ (SRC_CONFLICT_LOG_A.CAND i).ix = i ∧ (SRC_CONFLICT_LOG_A.CAND i).width = 20 := ⟨rfl, rfl, rfl⟩
@[simp] theorem SRC_CONFLICT_LOG_A.WHY_id (i : Nat) : (SRC_CONFLICT_LOG_A.WHY i).id = 386 ∧ (SRC_CONFLICT_LOG_A.WHY i).ix = i ∧ (SRC_CONFLICT_LOG_A.WHY i).width = 4 := ⟨rfl, rfl, rfl⟩
@[simp] theorem SRC_CONFLICT_LOG_A.SRC_id (i : Nat) : (SRC_CONFLICT_LOG_A.SRC i).id = 387 ∧ (SRC_CONFLICT_LOG_A.SRC i).ix = i ∧ (SRC_CONFLICT_LOG_A.SRC i).width = 2 := ⟨rfl, rfl, rfl⟩
@[simp] theorem SRC_CONFLICT_LOG_B.BLOCK_id (i : Nat) : (SRC_CONFLICT_LOG_B.BLOCK i).id = 388 ∧ (SRC_CONFLICT_LOG_B.BLOCK i).ix = i ∧ (SRC_CONFLICT_LOG_B.BLOCK i).width = 20 := ⟨rfl, rfl, rfl⟩
@[simp] theorem SRC_CONFLICT_LOG_B.GEN_id (i : Nat) : (SRC_CONFLICT_LOG_B.GEN i).id = 389 ∧ (SRC_CONFLICT_LOG_B.GEN i).ix = i ∧ (SRC_CONFLICT_LOG_B.GEN i).width = 8 := ⟨rfl, rfl, rfl⟩
@[simp] theorem SRC_SF_CFG.EN_id (i : Nat) : (SRC_SF_CFG.EN i).id = 390 ∧ (SRC_SF_CFG.EN i).ix = i ∧ (SRC_SF_CFG.EN i).width = 1 := ⟨rfl, rfl, rfl⟩
@[simp] theorem SRC_SF_CFG.OWNER_id (i : Nat) : (SRC_SF_CFG.OWNER i).id = 391 ∧ (SRC_SF_CFG.OWNER i).ix = i ∧ (SRC_SF_CFG.OWNER i).width = 3 := ⟨rfl, rfl, rfl⟩
@[simp] theorem SRC_SF_CFG.HS_id (i : Nat) : (SRC_SF_CFG.HS i).id = 392 ∧ (SRC_SF_CFG.HS i).ix = i ∧ (SRC_SF_CFG.HS i).width = 4 := ⟨rfl, rfl, rfl⟩
@[simp] theorem SRC_SF_CFG.ADV_id (i : Nat) : (SRC_SF_CFG.ADV i).id = 393 ∧ (SRC_SF_CFG.ADV i).ix = i ∧ (SRC_SF_CFG.ADV i).width = 1 := ⟨rfl, rfl, rfl⟩
@[simp] theorem SRC_SF_CFG.ON_id (i : Nat) : (SRC_SF_CFG.ON i).id = 394 ∧ (SRC_SF_CFG.ON i).ix = i ∧ (SRC_SF_CFG.ON i).width = 1 := ⟨rfl, rfl, rfl⟩
@[simp] theorem SRC_SF_CFG.BAD_WHY_id (i : Nat) : (SRC_SF_CFG.BAD_WHY i).id = 395 ∧ (SRC_SF_CFG.BAD_WHY i).ix = i ∧ (SRC_SF_CFG.BAD_WHY i).width = 3 := ⟨rfl, rfl, rfl⟩
@[simp] theorem SRC_SF_GEOM.LEN_id (i : Nat) : (SRC_SF_GEOM.LEN i).id = 396 ∧ (SRC_SF_GEOM.LEN i).ix = i ∧ (SRC_SF_GEOM.LEN i).width = 16 := ⟨rfl, rfl, rfl⟩
@[simp] theorem SRC_SF_GEOM.WIDTH_id (i : Nat) : (SRC_SF_GEOM.WIDTH i).id = 397 ∧ (SRC_SF_GEOM.WIDTH i).ix = i ∧ (SRC_SF_GEOM.WIDTH i).width = 7 := ⟨rfl, rfl, rfl⟩
@[simp] theorem SRC_SF_BASE.BASE_id (i : Nat) : (SRC_SF_BASE.BASE i).id = 398 ∧ (SRC_SF_BASE.BASE i).ix = i ∧ (SRC_SF_BASE.BASE i).width = 20 := ⟨rfl, rfl, rfl⟩
@[simp] theorem SRC_ENV_CTL.EN_id (n : Nat) : (SRC_ENV_CTL.EN n).id = 399 ∧ (SRC_ENV_CTL.EN n).ix = n ∧ (SRC_ENV_CTL.EN n).width = 1 := ⟨rfl, rfl, rfl⟩
@[simp] theorem SRC_ENV_CTL.FE_MASK_id (n : Nat) : (SRC_ENV_CTL.FE_MASK n).id = 400 ∧ (SRC_ENV_CTL.FE_MASK n).ix = n ∧ (SRC_ENV_CTL.FE_MASK n).width = 4 := ⟨rfl, rfl, rfl⟩
@[simp] theorem SRC_ENV_CTL.TT_MASK_id (n : Nat) : (SRC_ENV_CTL.TT_MASK n).id = 401 ∧ (SRC_ENV_CTL.TT_MASK n).ix = n ∧ (SRC_ENV_CTL.TT_MASK n).width = 8 := ⟨rfl, rfl, rfl⟩
@[simp] theorem SRC_ENV_CTL.SPAN_id (n : Nat) : (SRC_ENV_CTL.SPAN n).id = 402 ∧ (SRC_ENV_CTL.SPAN n).ix = n ∧ (SRC_ENV_CTL.SPAN n).width = 4 := ⟨rfl, rfl, rfl⟩
@[simp] theorem SRC_ENV_CTL.TT_DEF_id (n : Nat) : (SRC_ENV_CTL.TT_DEF n).id = 403 ∧ (SRC_ENV_CTL.TT_DEF n).ix = n ∧ (SRC_ENV_CTL.TT_DEF n).width = 3 := ⟨rfl, rfl, rfl⟩
@[simp] theorem SRC_ENV_CTL.FE_DEF_id (n : Nat) : (SRC_ENV_CTL.FE_DEF n).id = 404 ∧ (SRC_ENV_CTL.FE_DEF n).ix = n ∧ (SRC_ENV_CTL.FE_DEF n).width = 2 := ⟨rfl, rfl, rfl⟩
@[simp] theorem SRC_ENV_BUDGET.MAX_CELLS_id (n : Nat) : (SRC_ENV_BUDGET.MAX_CELLS n).id = 405 ∧ (SRC_ENV_BUDGET.MAX_CELLS n).ix = n ∧ (SRC_ENV_BUDGET.MAX_CELLS n).width = 21 := ⟨rfl, rfl, rfl⟩
@[simp] theorem SRC_ENV_NODE.MIN_TX_id (n : Nat) : (SRC_ENV_NODE.MIN_TX n).id = 406 ∧ (SRC_ENV_NODE.MIN_TX n).ix = n ∧ (SRC_ENV_NODE.MIN_TX n).width = 8 := ⟨rfl, rfl, rfl⟩
@[simp] theorem SRC_ENV_NODE.MAX_TX_id (n : Nat) : (SRC_ENV_NODE.MAX_TX n).id = 407 ∧ (SRC_ENV_NODE.MAX_TX n).ix = n ∧ (SRC_ENV_NODE.MAX_TX n).width = 8 := ⟨rfl, rfl, rfl⟩
@[simp] theorem SRC_ENV_NODE.MIN_RX_id (n : Nat) : (SRC_ENV_NODE.MIN_RX n).id = 408 ∧ (SRC_ENV_NODE.MIN_RX n).ix = n ∧ (SRC_ENV_NODE.MIN_RX n).width = 8 := ⟨rfl, rfl, rfl⟩
@[simp] theorem SRC_ENV_NODE.MAX_RX_id (n : Nat) : (SRC_ENV_NODE.MAX_RX n).id = 409 ∧ (SRC_ENV_NODE.MAX_RX n).ix = n ∧ (SRC_ENV_NODE.MAX_RX n).width = 8 := ⟨rfl, rfl, rfl⟩
@[simp] theorem SRC_ENV_RATE.CHG_PER_S_id (n : Nat) : (SRC_ENV_RATE.CHG_PER_S n).id = 410 ∧ (SRC_ENV_RATE.CHG_PER_S n).ix = n ∧ (SRC_ENV_RATE.CHG_PER_S n).width = 12 := ⟨rfl, rfl, rfl⟩
@[simp] theorem SRC_ENV_RATE.BURST_id (n : Nat) : (SRC_ENV_RATE.BURST n).id = 411 ∧ (SRC_ENV_RATE.BURST n).ix = n ∧ (SRC_ENV_RATE.BURST n).width = 8 := ⟨rfl, rfl, rfl⟩
@[simp] theorem SRC_ENV_RATE.TOKENS_id (n : Nat) : (SRC_ENV_RATE.TOKENS n).id = 412 ∧ (SRC_ENV_RATE.TOKENS n).ix = n ∧ (SRC_ENV_RATE.TOKENS n).width = 8 := ⟨rfl, rfl, rfl⟩
@[simp] theorem SRC_ENV_COFS.LO_id (n : Nat) (i : Nat) : (SRC_ENV_COFS.LO n i).id = 413 ∧ (SRC_ENV_COFS.LO n i).ix = n * 4 + i ∧ (SRC_ENV_COFS.LO n i).width = 10 := ⟨rfl, rfl, rfl⟩
@[simp] theorem SRC_ENV_COFS.HI_id (n : Nat) (i : Nat) : (SRC_ENV_COFS.HI n i).id = 414 ∧ (SRC_ENV_COFS.HI n i).ix = n * 4 + i ∧ (SRC_ENV_COFS.HI n i).width = 10 := ⟨rfl, rfl, rfl⟩
@[simp] theorem SRC_ENV_COFS.EN_id (n : Nat) (i : Nat) : (SRC_ENV_COFS.EN n i).id = 415 ∧ (SRC_ENV_COFS.EN n i).ix = n * 4 + i ∧ (SRC_ENV_COFS.EN n i).width = 1 := ⟨rfl, rfl, rfl⟩
@[simp] theorem SRC_ENV_SF_LO.MASK_id (n : Nat) : (SRC_ENV_SF_LO.MASK n).id = 416 ∧ (SRC_ENV_SF_LO.MASK n).ix = n ∧ (SRC_ENV_SF_LO.MASK n).width = 32 := ⟨rfl, rfl, rfl⟩
@[simp] theorem SRC_ENV_SF_HI.MASK_id (n : Nat) : (SRC_ENV_SF_HI.MASK n).id = 417 ∧ (SRC_ENV_SF_HI.MASK n).ix = n ∧ (SRC_ENV_SF_HI.MASK n).width = 32 := ⟨rfl, rfl, rfl⟩
@[simp] theorem SRC_ENV_ADD.ADD_Q_id (n : Nat) : (SRC_ENV_ADD.ADD_Q n).id = 418 ∧ (SRC_ENV_ADD.ADD_Q n).ix = n ∧ (SRC_ENV_ADD.ADD_Q n).width = 8 := ⟨rfl, rfl, rfl⟩
@[simp] theorem SRC_ENV_ADD.UTIL_ADD_id (n : Nat) : (SRC_ENV_ADD.UTIL_ADD n).id = 419 ∧ (SRC_ENV_ADD.UTIL_ADD n).ix = n ∧ (SRC_ENV_ADD.UTIL_ADD n).width = 8 := ⟨rfl, rfl, rfl⟩
@[simp] theorem SRC_ENV_ADD.PDR_MOVE_id (n : Nat) : (SRC_ENV_ADD.PDR_MOVE n).id = 420 ∧ (SRC_ENV_ADD.PDR_MOVE n).ix = n ∧ (SRC_ENV_ADD.PDR_MOVE n).width = 16 := ⟨rfl, rfl, rfl⟩
@[simp] theorem SRC_ENV_DEL.UTIL_DEL_id (n : Nat) : (SRC_ENV_DEL.UTIL_DEL n).id = 421 ∧ (SRC_ENV_DEL.UTIL_DEL n).ix = n ∧ (SRC_ENV_DEL.UTIL_DEL n).width = 8 := ⟨rfl, rfl, rfl⟩
@[simp] theorem SRC_ENV_DEL.DEL_PERIODS_id (n : Nat) : (SRC_ENV_DEL.DEL_PERIODS n).id = 422 ∧ (SRC_ENV_DEL.DEL_PERIODS n).ix = n ∧ (SRC_ENV_DEL.DEL_PERIODS n).width = 4 := ⟨rfl, rfl, rfl⟩
@[simp] theorem SRC_ENV_DEL.MIN_ATT_id (n : Nat) : (SRC_ENV_DEL.MIN_ATT n).id = 423 ∧ (SRC_ENV_DEL.MIN_ATT n).ix = n ∧ (SRC_ENV_DEL.MIN_ATT n).width = 16 := ⟨rfl, rfl, rfl⟩
@[simp] theorem SRC_W_CELLS.CELLS_id (n : Nat) : (SRC_W_CELLS.CELLS n).id = 424 ∧ (SRC_W_CELLS.CELLS n).ix = n ∧ (SRC_W_CELLS.CELLS n).width = 21 := ⟨rfl, rfl, rfl⟩
@[simp] theorem SRC_W_CELLS.OVER_id (n : Nat) : (SRC_W_CELLS.OVER n).id = 425 ∧ (SRC_W_CELLS.OVER n).ix = n ∧ (SRC_W_CELLS.OVER n).width = 1 := ⟨rfl, rfl, rfl⟩
@[simp] theorem SRC_W_CHANGES_id (n : Nat) : (SRC_W_CHANGES n).id = 426 ∧ (SRC_W_CHANGES n).ix = n ∧ (SRC_W_CHANGES n).width = 32 := ⟨rfl, rfl, rfl⟩
@[simp] theorem SRC_W_REFUSED_id (n : Nat) : (SRC_W_REFUSED n).id = 427 ∧ (SRC_W_REFUSED n).ix = n ∧ (SRC_W_REFUSED n).width = 32 := ⟨rfl, rfl, rfl⟩
@[simp] theorem SRC_W_6P_FAIL_id (n : Nat) : (SRC_W_6P_FAIL n).id = 428 ∧ (SRC_W_6P_FAIL n).ix = n ∧ (SRC_W_6P_FAIL n).width = 32 := ⟨rfl, rfl, rfl⟩
@[simp] theorem SEC_CFG.EN_id : SEC_CFG.EN.id = 429 ∧ SEC_CFG.EN.ix = 0 ∧ SEC_CFG.EN.width = 1 := ⟨rfl, rfl, rfl⟩
@[simp] theorem SEC_CFG.AUTO_RATCHET_id : SEC_CFG.AUTO_RATCHET.id = 430 ∧ SEC_CFG.AUTO_RATCHET.ix = 0 ∧ SEC_CFG.AUTO_RATCHET.width = 1 := ⟨rfl, rfl, rfl⟩
@[simp] theorem SEC_STS.JNL_OPEN_id : SEC_STS.JNL_OPEN.id = 431 ∧ SEC_STS.JNL_OPEN.ix = 0 ∧ SEC_STS.JNL_OPEN.width = 1 := ⟨rfl, rfl, rfl⟩
@[simp] theorem SEC_STS.WAS_CLEAN_id : SEC_STS.WAS_CLEAN.id = 432 ∧ SEC_STS.WAS_CLEAN.ix = 0 ∧ SEC_STS.WAS_CLEAN.width = 1 := ⟨rfl, rfl, rfl⟩
@[simp] theorem SEC_STS.ASN_HIGH_id : SEC_STS.ASN_HIGH.id = 433 ∧ SEC_STS.ASN_HIGH.ix = 0 ∧ SEC_STS.ASN_HIGH.width = 1 := ⟨rfl, rfl, rfl⟩
@[simp] theorem SEC_STS.LOG_WP_id : SEC_STS.LOG_WP.id = 434 ∧ SEC_STS.LOG_WP.ix = 0 ∧ SEC_STS.LOG_WP.width = 5 := ⟨rfl, rfl, rfl⟩
@[simp] theorem SEC_STS.TRACE_WP_id : SEC_STS.TRACE_WP.id = 435 ∧ SEC_STS.TRACE_WP.ix = 0 ∧ SEC_STS.TRACE_WP.width = 5 := ⟨rfl, rfl, rfl⟩
@[simp] theorem SEC_INT_STS.KEY_LOW_id : SEC_INT_STS.KEY_LOW.id = 436 ∧ SEC_INT_STS.KEY_LOW.ix = 0 ∧ SEC_INT_STS.KEY_LOW.width = 1 := ⟨rfl, rfl, rfl⟩
@[simp] theorem SEC_INT_STS.KEY_EXHAUSTED_id : SEC_INT_STS.KEY_EXHAUSTED.id = 437 ∧ SEC_INT_STS.KEY_EXHAUSTED.ix = 0 ∧ SEC_INT_STS.KEY_EXHAUSTED.width = 1 := ⟨rfl, rfl, rfl⟩
@[simp] theorem SEC_INT_STS.KEY_ADV_id : SEC_INT_STS.KEY_ADV.id = 438 ∧ SEC_INT_STS.KEY_ADV.ix = 0 ∧ SEC_INT_STS.KEY_ADV.width = 1 := ⟨rfl, rfl, rfl⟩
@[simp] theorem SEC_INT_STS.JNL_ERR_id : SEC_INT_STS.JNL_ERR.id = 439 ∧ SEC_INT_STS.JNL_ERR.ix = 0 ∧ SEC_INT_STS.JNL_ERR.width = 1 := ⟨rfl, rfl, rfl⟩
@[simp] theorem SEC_INT_STS.JNL_FULL_id : SEC_INT_STS.JNL_FULL.id = 440 ∧ SEC_INT_STS.JNL_FULL.ix = 0 ∧ SEC_INT_STS.JNL_FULL.width = 1 := ⟨rfl, rfl, rfl⟩
@[simp] theorem SEC_INT_STS.SNAP_DONE_id : SEC_INT_STS.SNAP_DONE.id = 441 ∧ SEC_INT_STS.SNAP_DONE.ix = 0 ∧ SEC_INT_STS.SNAP_DONE.width = 1 := ⟨rfl, rfl, rfl⟩
@[simp] theorem SEC_INT_STS.SNAP_LATE_id : SEC_INT_STS.SNAP_LATE.id = 442 ∧ SEC_INT_STS.SNAP_LATE.ix = 0 ∧ SEC_INT_STS.SNAP_LATE.width = 1 := ⟨rfl, rfl, rfl⟩
@[simp] theorem SEC_INT_STS.GRP_SWITCHED_id : SEC_INT_STS.GRP_SWITCHED.id = 443 ∧ SEC_INT_STS.GRP_SWITCHED.ix = 0 ∧ SEC_INT_STS.GRP_SWITCHED.width = 1 := ⟨rfl, rfl, rfl⟩
@[simp] theorem SEC_INT_STS.GRP_LATE_id : SEC_INT_STS.GRP_LATE.id = 444 ∧ SEC_INT_STS.GRP_LATE.ix = 0 ∧ SEC_INT_STS.GRP_LATE.width = 1 := ⟨rfl, rfl, rfl⟩
@[simp] theorem SEC_INT_STS.STRICT_GROUP_id : SEC_INT_STS.STRICT_GROUP.id = 445 ∧ SEC_INT_STS.STRICT_GROUP.ix = 0 ∧ SEC_INT_STS.STRICT_GROUP.width = 1 := ⟨rfl, rfl, rfl⟩
@[simp] theorem SEC_INT_STS.ASN_HIGH_id : SEC_INT_STS.ASN_HIGH.id = 446 ∧ SEC_INT_STS.ASN_HIGH.ix = 0 ∧ SEC_INT_STS.ASN_HIGH.width = 1 := ⟨rfl, rfl, rfl⟩
@[simp] theorem SEC_INT_STS.OPEN_DONE_id : SEC_INT_STS.OPEN_DONE.id = 447 ∧ SEC_INT_STS.OPEN_DONE.ix = 0 ∧ SEC_INT_STS.OPEN_DONE.width = 1 := ⟨rfl, rfl, rfl⟩
@[simp] theorem SEC_INT_EN.KEY_LOW_id : SEC_INT_EN.KEY_LOW.id = 448 ∧ SEC_INT_EN.KEY_LOW.ix = 0 ∧ SEC_INT_EN.KEY_LOW.width = 1 := ⟨rfl, rfl, rfl⟩
@[simp] theorem SEC_INT_EN.KEY_EXHAUSTED_id : SEC_INT_EN.KEY_EXHAUSTED.id = 449 ∧ SEC_INT_EN.KEY_EXHAUSTED.ix = 0 ∧ SEC_INT_EN.KEY_EXHAUSTED.width = 1 := ⟨rfl, rfl, rfl⟩
@[simp] theorem SEC_INT_EN.KEY_ADV_id : SEC_INT_EN.KEY_ADV.id = 450 ∧ SEC_INT_EN.KEY_ADV.ix = 0 ∧ SEC_INT_EN.KEY_ADV.width = 1 := ⟨rfl, rfl, rfl⟩
@[simp] theorem SEC_INT_EN.JNL_ERR_id : SEC_INT_EN.JNL_ERR.id = 451 ∧ SEC_INT_EN.JNL_ERR.ix = 0 ∧ SEC_INT_EN.JNL_ERR.width = 1 := ⟨rfl, rfl, rfl⟩
@[simp] theorem SEC_INT_EN.JNL_FULL_id : SEC_INT_EN.JNL_FULL.id = 452 ∧ SEC_INT_EN.JNL_FULL.ix = 0 ∧ SEC_INT_EN.JNL_FULL.width = 1 := ⟨rfl, rfl, rfl⟩
@[simp] theorem SEC_INT_EN.SNAP_DONE_id : SEC_INT_EN.SNAP_DONE.id = 453 ∧ SEC_INT_EN.SNAP_DONE.ix = 0 ∧ SEC_INT_EN.SNAP_DONE.width = 1 := ⟨rfl, rfl, rfl⟩
@[simp] theorem SEC_INT_EN.SNAP_LATE_id : SEC_INT_EN.SNAP_LATE.id = 454 ∧ SEC_INT_EN.SNAP_LATE.ix = 0 ∧ SEC_INT_EN.SNAP_LATE.width = 1 := ⟨rfl, rfl, rfl⟩
@[simp] theorem SEC_INT_EN.GRP_SWITCHED_id : SEC_INT_EN.GRP_SWITCHED.id = 455 ∧ SEC_INT_EN.GRP_SWITCHED.ix = 0 ∧ SEC_INT_EN.GRP_SWITCHED.width = 1 := ⟨rfl, rfl, rfl⟩
@[simp] theorem SEC_INT_EN.GRP_LATE_id : SEC_INT_EN.GRP_LATE.id = 456 ∧ SEC_INT_EN.GRP_LATE.ix = 0 ∧ SEC_INT_EN.GRP_LATE.width = 1 := ⟨rfl, rfl, rfl⟩
@[simp] theorem SEC_INT_EN.STRICT_GROUP_id : SEC_INT_EN.STRICT_GROUP.id = 457 ∧ SEC_INT_EN.STRICT_GROUP.ix = 0 ∧ SEC_INT_EN.STRICT_GROUP.width = 1 := ⟨rfl, rfl, rfl⟩
@[simp] theorem SEC_INT_EN.ASN_HIGH_id : SEC_INT_EN.ASN_HIGH.id = 458 ∧ SEC_INT_EN.ASN_HIGH.ix = 0 ∧ SEC_INT_EN.ASN_HIGH.width = 1 := ⟨rfl, rfl, rfl⟩
@[simp] theorem SEC_INT_EN.OPEN_DONE_id : SEC_INT_EN.OPEN_DONE.id = 459 ∧ SEC_INT_EN.OPEN_DONE.ix = 0 ∧ SEC_INT_EN.OPEN_DONE.width = 1 := ⟨rfl, rfl, rfl⟩
@[simp] theorem SEC_RES_CFG.BLOCK_LOG2_id : SEC_RES_CFG.BLOCK_LOG2.id = 460 ∧ SEC_RES_CFG.BLOCK_LOG2.ix = 0 ∧ SEC_RES_CFG.BLOCK_LOG2.width = 5 := ⟨rfl, rfl, rfl⟩
@[simp] theorem SEC_JNL_CFG.SIZE_LOG2_id : SEC_JNL_CFG.SIZE_LOG2.id = 461 ∧ SEC_JNL_CFG.SIZE_LOG2.ix = 0 ∧ SEC_JNL_CFG.SIZE_LOG2.width = 3 := ⟨rfl, rfl, rfl⟩
@[simp] theorem SEC_JNL_CFG.RING_id : SEC_JNL_CFG.RING.id = 462 ∧ SEC_JNL_CFG.RING.ix = 0 ∧ SEC_JNL_CFG.RING.width = 2 := ⟨rfl, rfl, rfl⟩
@[simp] theorem SEC_JNL_CFG.SCK_id : SEC_JNL_CFG.SCK.id = 463 ∧ SEC_JNL_CFG.SCK.ix = 0 ∧ SEC_JNL_CFG.SCK.width = 2 := ⟨rfl, rfl, rfl⟩
@[simp] theorem SEC_JNL_CFG.DOMAIN_id : SEC_JNL_CFG.DOMAIN.id = 464 ∧ SEC_JNL_CFG.DOMAIN.ix = 0 ∧ SEC_JNL_CFG.DOMAIN.width = 12 := ⟨rfl, rfl, rfl⟩
@[simp] theorem SEC_JNL_CTL.OPEN_id : SEC_JNL_CTL.OPEN.id = 465 ∧ SEC_JNL_CTL.OPEN.ix = 0 ∧ SEC_JNL_CTL.OPEN.width = 1 := ⟨rfl, rfl, rfl⟩
@[simp] theorem SEC_JNL_CTL.CLOSE_id : SEC_JNL_CTL.CLOSE.id = 466 ∧ SEC_JNL_CTL.CLOSE.ix = 0 ∧ SEC_JNL_CTL.CLOSE.width = 1 := ⟨rfl, rfl, rfl⟩
@[simp] theorem SEC_JNL_CTL.FORMAT_id : SEC_JNL_CTL.FORMAT.id = 467 ∧ SEC_JNL_CTL.FORMAT.ix = 0 ∧ SEC_JNL_CTL.FORMAT.width = 1 := ⟨rfl, rfl, rfl⟩
@[simp] theorem SEC_JNL_CTL.SNAP_NOW_id : SEC_JNL_CTL.SNAP_NOW.id = 468 ∧ SEC_JNL_CTL.SNAP_NOW.ix = 0 ∧ SEC_JNL_CTL.SNAP_NOW.width = 1 := ⟨rfl, rfl, rfl⟩
@[simp] theorem SEC_JNL_STS.STATE_id : SEC_JNL_STS.STATE.id = 469 ∧ SEC_JNL_STS.STATE.ix = 0 ∧ SEC_JNL_STS.STATE.width = 2 := ⟨rfl, rfl, rfl⟩
@[simp] theorem SEC_JNL_STS.ERR_id : SEC_JNL_STS.ERR.id = 470 ∧ SEC_JNL_STS.ERR.ix = 0 ∧ SEC_JNL_STS.ERR.width = 4 := ⟨rfl, rfl, rfl⟩
@[simp] theorem SEC_JNL_STS.USED_id : SEC_JNL_STS.USED.id = 471 ∧ SEC_JNL_STS.USED.ix = 0 ∧ SEC_JNL_STS.USED.width = 14 := ⟨rfl, rfl, rfl⟩
@[simp] theorem SEC_JNL_SEQ.SEQ_id : SEC_JNL_SEQ.SEQ.id = 472 ∧ SEC_JNL_SEQ.SEQ.ix = 0 ∧ SEC_JNL_SEQ.SEQ.width = 32 := ⟨rfl, rfl, rfl⟩
@[simp] theorem SEC_JNL_LIMIT.NIX_LIMIT_id : SEC_JNL_LIMIT.NIX_LIMIT.id = 473 ∧ SEC_JNL_LIMIT.NIX_LIMIT.ix = 0 ∧ SEC_JNL_LIMIT.NIX_LIMIT.width = 19 := ⟨rfl, rfl, rfl⟩
@[simp] theorem SEC_SNAP_CFG.PERIOD_S_id : SEC_SNAP_CFG.PERIOD_S.id = 474 ∧ SEC_SNAP_CFG.PERIOD_S.ix = 0 ∧ SEC_SNAP_CFG.PERIOD_S.width = 12 := ⟨rfl, rfl, rfl⟩
@[simp] theorem SEC_SNAP_STS.ENTRIES_id : SEC_SNAP_STS.ENTRIES.id = 475 ∧ SEC_SNAP_STS.ENTRIES.ix = 0 ∧ SEC_SNAP_STS.ENTRIES.width = 19 := ⟨rfl, rfl, rfl⟩
@[simp] theorem SEC_SNAP_STS.LAST_MS_id : SEC_SNAP_STS.LAST_MS.id = 476 ∧ SEC_SNAP_STS.LAST_MS.ix = 0 ∧ SEC_SNAP_STS.LAST_MS.width = 13 := ⟨rfl, rfl, rfl⟩
@[simp] theorem SEC_KC_STS.USED_id : SEC_KC_STS.USED.id = 477 ∧ SEC_KC_STS.USED.ix = 0 ∧ SEC_KC_STS.USED.width = 13 := ⟨rfl, rfl, rfl⟩
@[simp] theorem SEC_ENG_STS.BUSY_id : SEC_ENG_STS.BUSY.id = 478 ∧ SEC_ENG_STS.BUSY.ix = 0 ∧ SEC_ENG_STS.BUSY.width = 16 := ⟨rfl, rfl, rfl⟩
@[simp] theorem SEC_ENG_STS.IN_USE_id : SEC_ENG_STS.IN_USE.id = 479 ∧ SEC_ENG_STS.IN_USE.ix = 0 ∧ SEC_ENG_STS.IN_USE.width = 16 := ⟨rfl, rfl, rfl⟩
@[simp] theorem SEC_ENG_PEAK.PEAK_id : SEC_ENG_PEAK.PEAK.id = 480 ∧ SEC_ENG_PEAK.PEAK.ix = 0 ∧ SEC_ENG_PEAK.PEAK.width = 5 := ⟨rfl, rfl, rfl⟩
@[simp] theorem SEC_JNL_PEAK.PEAK_id : SEC_JNL_PEAK.PEAK.id = 481 ∧ SEC_JNL_PEAK.PEAK.ix = 0 ∧ SEC_JNL_PEAK.PEAK.width = 13 := ⟨rfl, rfl, rfl⟩
@[simp] theorem SEC_KC_HIT_id : SEC_KC_HIT.id = 482 ∧ SEC_KC_HIT.ix = 0 ∧ SEC_KC_HIT.width = 32 := ⟨rfl, rfl, rfl⟩
@[simp] theorem SEC_KC_MISS_id : SEC_KC_MISS.id = 483 ∧ SEC_KC_MISS.ix = 0 ∧ SEC_KC_MISS.width = 32 := ⟨rfl, rfl, rfl⟩
@[simp] theorem SEC_RATCHET_TRY_id : SEC_RATCHET_TRY.id = 484 ∧ SEC_RATCHET_TRY.ix = 0 ∧ SEC_RATCHET_TRY.width = 32 := ⟨rfl, rfl, rfl⟩
@[simp] theorem SEC_RATCHET_OK_id : SEC_RATCHET_OK.id = 485 ∧ SEC_RATCHET_OK.ix = 0 ∧ SEC_RATCHET_OK.width = 32 := ⟨rfl, rfl, rfl⟩
@[simp] theorem SEC_KGEN_ADV_id : SEC_KGEN_ADV.id = 486 ∧ SEC_KGEN_ADV.ix = 0 ∧ SEC_KGEN_ADV.width = 32 := ⟨rfl, rfl, rfl⟩
@[simp] theorem SEC_REKEY_SENT_id : SEC_REKEY_SENT.id = 487 ∧ SEC_REKEY_SENT.ix = 0 ∧ SEC_REKEY_SENT.width = 32 := ⟨rfl, rfl, rfl⟩
@[simp] theorem SEC_WHEY_LEVEL_id : SEC_WHEY_LEVEL.id = 488 ∧ SEC_WHEY_LEVEL.ix = 0 ∧ SEC_WHEY_LEVEL.width = 32 := ⟨rfl, rfl, rfl⟩
@[simp] theorem SEC_WHEY_KEYID_id : SEC_WHEY_KEYID.id = 489 ∧ SEC_WHEY_KEYID.ix = 0 ∧ SEC_WHEY_KEYID.width = 32 := ⟨rfl, rfl, rfl⟩
@[simp] theorem SEC_WHEY_KGEN_id : SEC_WHEY_KGEN.id = 490 ∧ SEC_WHEY_KGEN.ix = 0 ∧ SEC_WHEY_KGEN.width = 32 := ⟨rfl, rfl, rfl⟩
@[simp] theorem SEC_WHEY_FC_id : SEC_WHEY_FC.id = 491 ∧ SEC_WHEY_FC.ix = 0 ∧ SEC_WHEY_FC.width = 32 := ⟨rfl, rfl, rfl⟩
@[simp] theorem SEC_WHEY_MIC_id : SEC_WHEY_MIC.id = 492 ∧ SEC_WHEY_MIC.ix = 0 ∧ SEC_WHEY_MIC.width = 32 := ⟨rfl, rfl, rfl⟩
@[simp] theorem SEC_WHEY_REPLAY_id : SEC_WHEY_REPLAY.id = 493 ∧ SEC_WHEY_REPLAY.ix = 0 ∧ SEC_WHEY_REPLAY.width = 32 := ⟨rfl, rfl, rfl⟩
@[simp] theorem SEC_WHEY_TAMPER_id : SEC_WHEY_TAMPER.id = 494 ∧ SEC_WHEY_TAMPER.ix = 0 ∧ SEC_WHEY_TAMPER.width = 32 := ⟨rfl, rfl, rfl⟩
@[simp] theorem SEC_TX_FRAMES_id : SEC_TX_FRAMES.id = 495 ∧ SEC_TX_FRAMES.ix = 0 ∧ SEC_TX_FRAMES.width = 32 := ⟨rfl, rfl, rfl⟩
@[simp] theorem SEC_TX_JNL_WAIT_id : SEC_TX_JNL_WAIT.id = 496 ∧ SEC_TX_JNL_WAIT.ix = 0 ∧ SEC_TX_JNL_WAIT.width = 32 := ⟨rfl, rfl, rfl⟩
@[simp] theorem SEC_TX_EXHAUSTED_id : SEC_TX_EXHAUSTED.id = 497 ∧ SEC_TX_EXHAUSTED.ix = 0 ∧ SEC_TX_EXHAUSTED.width = 32 := ⟨rfl, rfl, rfl⟩
@[simp] theorem SEC_JNL_RECORDS_id : SEC_JNL_RECORDS.id = 498 ∧ SEC_JNL_RECORDS.ix = 0 ∧ SEC_JNL_RECORDS.width = 32 := ⟨rfl, rfl, rfl⟩
@[simp] theorem SEC_JNL_ERR_id : SEC_JNL_ERR.id = 499 ∧ SEC_JNL_ERR.ix = 0 ∧ SEC_JNL_ERR.width = 32 := ⟨rfl, rfl, rfl⟩
@[simp] theorem SEC_SNAP_WRITES_id : SEC_SNAP_WRITES.id = 500 ∧ SEC_SNAP_WRITES.ix = 0 ∧ SEC_SNAP_WRITES.width = 32 := ⟨rfl, rfl, rfl⟩
@[simp] theorem SEC_ACK_UNSEC_id : SEC_ACK_UNSEC.id = 501 ∧ SEC_ACK_UNSEC.ix = 0 ∧ SEC_ACK_UNSEC.width = 32 := ⟨rfl, rfl, rfl⟩
@[simp] theorem SEC_ENG_OPS_id (i : Nat) : (SEC_ENG_OPS i).id = 502 ∧ (SEC_ENG_OPS i).ix = i ∧ (SEC_ENG_OPS i).width = 32 := ⟨rfl, rfl, rfl⟩
@[simp] theorem SEC_GEN_STS.BUSY_id (i : Nat) : (SEC_GEN_STS.BUSY i).id = 503 ∧ (SEC_GEN_STS.BUSY i).ix = i ∧ (SEC_GEN_STS.BUSY i).width = 1 := ⟨rfl, rfl, rfl⟩
@[simp] theorem SEC_GEN_STS.QUEUED_id (i : Nat) : (SEC_GEN_STS.QUEUED i).id = 504 ∧ (SEC_GEN_STS.QUEUED i).ix = i ∧ (SEC_GEN_STS.QUEUED i).width = 8 := ⟨rfl, rfl, rfl⟩
@[simp] theorem SEC_GEN_OPS_id (i : Nat) : (SEC_GEN_OPS i).id = 505 ∧ (SEC_GEN_OPS i).ix = i ∧ (SEC_GEN_OPS i).width = 32 := ⟨rfl, rfl, rfl⟩
@[simp] theorem SEC_KEYLOW_LOG.NIX_id (i : Nat) : (SEC_KEYLOW_LOG.NIX i).id = 506 ∧ (SEC_KEYLOW_LOG.NIX i).ix = i ∧ (SEC_KEYLOW_LOG.NIX i).width = 18 := ⟨rfl, rfl, rfl⟩
@[simp] theorem SEC_KEYLOW_LOG.GEN_id (i : Nat) : (SEC_KEYLOW_LOG.GEN i).id = 507 ∧ (SEC_KEYLOW_LOG.GEN i).ix = i ∧ (SEC_KEYLOW_LOG.GEN i).width = 4 := ⟨rfl, rfl, rfl⟩
@[simp] theorem SEC_KEYLOW_LOG.KIND_id (i : Nat) : (SEC_KEYLOW_LOG.KIND i).id = 508 ∧ (SEC_KEYLOW_LOG.KIND i).ix = i ∧ (SEC_KEYLOW_LOG.KIND i).width = 2 := ⟨rfl, rfl, rfl⟩
@[simp] theorem SEC_KEYLOW_LOG.WARD_id (i : Nat) : (SEC_KEYLOW_LOG.WARD i).id = 509 ∧ (SEC_KEYLOW_LOG.WARD i).ix = i ∧ (SEC_KEYLOW_LOG.WARD i).width = 3 := ⟨rfl, rfl, rfl⟩
@[simp] theorem SEC_JNL_TRACE_A.SEQ_id (i : Nat) : (SEC_JNL_TRACE_A.SEQ i).id = 510 ∧ (SEC_JNL_TRACE_A.SEQ i).ix = i ∧ (SEC_JNL_TRACE_A.SEQ i).width = 32 := ⟨rfl, rfl, rfl⟩
@[simp] theorem SEC_JNL_TRACE_B.TYPE_id (i : Nat) : (SEC_JNL_TRACE_B.TYPE i).id = 511 ∧ (SEC_JNL_TRACE_B.TYPE i).ix = i ∧ (SEC_JNL_TRACE_B.TYPE i).width = 8 := ⟨rfl, rfl, rfl⟩
@[simp] theorem SEC_JNL_TRACE_B.NIX_id (i : Nat) : (SEC_JNL_TRACE_B.NIX i).id = 512 ∧ (SEC_JNL_TRACE_B.NIX i).ix = i ∧ (SEC_JNL_TRACE_B.NIX i).width = 18 := ⟨rfl, rfl, rfl⟩
@[simp] theorem SEC_JNL_TRACE_B.GEN_id (i : Nat) : (SEC_JNL_TRACE_B.GEN i).id = 513 ∧ (SEC_JNL_TRACE_B.GEN i).ix = i ∧ (SEC_JNL_TRACE_B.GEN i).width = 4 := ⟨rfl, rfl, rfl⟩
@[simp] theorem SEC_JNL_TRACE_B.RES_id (i : Nat) : (SEC_JNL_TRACE_B.RES i).id = 514 ∧ (SEC_JNL_TRACE_B.RES i).ix = i ∧ (SEC_JNL_TRACE_B.RES i).width = 2 := ⟨rfl, rfl, rfl⟩
@[simp] theorem SEC_W_CFG.TX_LEVEL_id (n : Nat) : (SEC_W_CFG.TX_LEVEL n).id = 515 ∧ (SEC_W_CFG.TX_LEVEL n).ix = n ∧ (SEC_W_CFG.TX_LEVEL n).width = 3 := ⟨rfl, rfl, rfl⟩
@[simp] theorem SEC_W_CFG.ACCEPT_MASK_id (n : Nat) : (SEC_W_CFG.ACCEPT_MASK n).id = 516 ∧ (SEC_W_CFG.ACCEPT_MASK n).ix = n ∧ (SEC_W_CFG.ACCEPT_MASK n).width = 8 := ⟨rfl, rfl, rfl⟩
@[simp] theorem SEC_W_CFG.STRICT_id (n : Nat) : (SEC_W_CFG.STRICT n).id = 517 ∧ (SEC_W_CFG.STRICT n).ix = n ∧ (SEC_W_CFG.STRICT n).width = 1 := ⟨rfl, rfl, rfl⟩
@[simp] theorem SEC_W_CFG.STRICT_ACTIVE_id (n : Nat) : (SEC_W_CFG.STRICT_ACTIVE n).id = 518 ∧ (SEC_W_CFG.STRICT_ACTIVE n).ix = n ∧ (SEC_W_CFG.STRICT_ACTIVE n).width = 1 := ⟨rfl, rfl, rfl⟩
@[simp] theorem SEC_W_GRP.CUR_GEN_id (n : Nat) : (SEC_W_GRP.CUR_GEN n).id = 519 ∧ (SEC_W_GRP.CUR_GEN n).ix = n ∧ (SEC_W_GRP.CUR_GEN n).width = 4 := ⟨rfl, rfl, rfl⟩
@[simp] theorem SEC_W_GRP.NEXT_GEN_id (n : Nat) : (SEC_W_GRP.NEXT_GEN n).id = 520 ∧ (SEC_W_GRP.NEXT_GEN n).ix = n ∧ (SEC_W_GRP.NEXT_GEN n).width = 4 := ⟨rfl, rfl, rfl⟩
@[simp] theorem SEC_W_GRP.NEXT_VALID_id (n : Nat) : (SEC_W_GRP.NEXT_VALID n).id = 521 ∧ (SEC_W_GRP.NEXT_VALID n).ix = n ∧ (SEC_W_GRP.NEXT_VALID n).width = 1 := ⟨rfl, rfl, rfl⟩
@[simp] theorem SEC_W_GRP.PREV_VALID_id (n : Nat) : (SEC_W_GRP.PREV_VALID n).id = 522 ∧ (SEC_W_GRP.PREV_VALID n).ix = n ∧ (SEC_W_GRP.PREV_VALID n).width = 1 := ⟨rfl, rfl, rfl⟩
@[simp] theorem SEC_W_GRP.GRACE_S_id (n : Nat) : (SEC_W_GRP.GRACE_S n).id = 523 ∧ (SEC_W_GRP.GRACE_S n).ix = n ∧ (SEC_W_GRP.GRACE_S n).width = 12 := ⟨rfl, rfl, rfl⟩
@[simp] theorem SEC_W_GSW_LO.ASN_id (n : Nat) : (SEC_W_GSW_LO.ASN n).id = 524 ∧ (SEC_W_GSW_LO.ASN n).ix = n ∧ (SEC_W_GSW_LO.ASN n).width = 32 := ⟨rfl, rfl, rfl⟩
@[simp] theorem SEC_W_GSW_HI.ASN_id (n : Nat) : (SEC_W_GSW_HI.ASN n).id = 525 ∧ (SEC_W_GSW_HI.ASN n).ix = n ∧ (SEC_W_GSW_HI.ASN n).width = 8 := ⟨rfl, rfl, rfl⟩
@[simp] theorem SEC_W_GSW_HI.ARM_id (n : Nat) : (SEC_W_GSW_HI.ARM n).id = 526 ∧ (SEC_W_GSW_HI.ARM n).ix = n ∧ (SEC_W_GSW_HI.ARM n).width = 1 := ⟨rfl, rfl, rfl⟩
@[simp] theorem SEC_W_GSW_HI.LATE_id (n : Nat) : (SEC_W_GSW_HI.LATE n).id = 527 ∧ (SEC_W_GSW_HI.LATE n).ix = n ∧ (SEC_W_GSW_HI.LATE n).width = 1 := ⟨rfl, rfl, rfl⟩
@[simp] theorem SEC_W_GTX_FC.FC_id (n : Nat) : (SEC_W_GTX_FC.FC n).id = 528 ∧ (SEC_W_GTX_FC.FC n).ix = n ∧ (SEC_W_GTX_FC.FC n).width = 32 := ⟨rfl, rfl, rfl⟩
@[simp] theorem SEC_W_GTX_CEIL.CEIL_id (n : Nat) : (SEC_W_GTX_CEIL.CEIL n).id = 529 ∧ (SEC_W_GTX_CEIL.CEIL n).ix = n ∧ (SEC_W_GTX_CEIL.CEIL n).width = 32 := ⟨rfl, rfl, rfl⟩
@[simp] theorem SEC_W_PEND.COUNT_id (n : Nat) : (SEC_W_PEND.COUNT n).id = 530 ∧ (SEC_W_PEND.COUNT n).ix = n ∧ (SEC_W_PEND.COUNT n).width = 19 := ⟨rfl, rfl, rfl⟩
@[simp] theorem SEC_W_HALT.COUNT_id (n : Nat) : (SEC_W_HALT.COUNT n).id = 531 ∧ (SEC_W_HALT.COUNT n).ix = n ∧ (SEC_W_HALT.COUNT n).width = 19 := ⟨rfl, rfl, rfl⟩
@[simp] theorem FWD_CFG.EN_id : FWD_CFG.EN.id = 532 ∧ FWD_CFG.EN.ix = 0 ∧ FWD_CFG.EN.width = 1 := ⟨rfl, rfl, rfl⟩
@[simp] theorem FWD_CFG.MISS_HOST_id : FWD_CFG.MISS_HOST.id = 533 ∧ FWD_CFG.MISS_HOST.ix = 0 ∧ FWD_CFG.MISS_HOST.width = 1 := ⟨rfl, rfl, rfl⟩
@[simp] theorem FWD_CFG.DAO_PARSE_id : FWD_CFG.DAO_PARSE.id = 534 ∧ FWD_CFG.DAO_PARSE.ix = 0 ∧ FWD_CFG.DAO_PARSE.width = 1 := ⟨rfl, rfl, rfl⟩
@[simp] theorem FWD_CFG.MESH_MTU_id : FWD_CFG.MESH_MTU.id = 535 ∧ FWD_CFG.MESH_MTU.ix = 0 ∧ FWD_CFG.MESH_MTU.width = 11 := ⟨rfl, rfl, rfl⟩
@[simp] theorem FWD_STS.RESHARD_id : FWD_STS.RESHARD.id = 536 ∧ FWD_STS.RESHARD.ix = 0 ∧ FWD_STS.RESHARD.width = 2 := ⟨rfl, rfl, rfl⟩
@[simp] theorem FWD_STS.ABORTING_id : FWD_STS.ABORTING.id = 537 ∧ FWD_STS.ABORTING.ix = 0 ∧ FWD_STS.ABORTING.width = 1 := ⟨rfl, rfl, rfl⟩
@[simp] theorem FWD_STS.LOG_WP_id : FWD_STS.LOG_WP.id = 538 ∧ FWD_STS.LOG_WP.ix = 0 ∧ FWD_STS.LOG_WP.width = 3 := ⟨rfl, rfl, rfl⟩
@[simp] theorem FWD_STS.ENTRIES_id : FWD_STS.ENTRIES.id = 539 ∧ FWD_STS.ENTRIES.ix = 0 ∧ FWD_STS.ENTRIES.width = 19 := ⟨rfl, rfl, rfl⟩
@[simp] theorem FWD_INT_STS.MOVE_id : FWD_INT_STS.MOVE.id = 540 ∧ FWD_INT_STS.MOVE.ix = 0 ∧ FWD_INT_STS.MOVE.width = 1 := ⟨rfl, rfl, rfl⟩
@[simp] theorem FWD_INT_STS.VAT_FULL_id : FWD_INT_STS.VAT_FULL.id = 541 ∧ FWD_INT_STS.VAT_FULL.ix = 0 ∧ FWD_INT_STS.VAT_FULL.width = 1 := ⟨rfl, rfl, rfl⟩
@[simp] theorem FWD_INT_STS.RESHARD_DONE_id : FWD_INT_STS.RESHARD_DONE.id = 542 ∧ FWD_INT_STS.RESHARD_DONE.ix = 0 ∧ FWD_INT_STS.RESHARD_DONE.width = 1 := ⟨rfl, rfl, rfl⟩
@[simp] theorem FWD_INT_STS.RESHARD_STALL_id : FWD_INT_STS.RESHARD_STALL.id = 543 ∧ FWD_INT_STS.RESHARD_STALL.ix = 0 ∧ FWD_INT_STS.RESHARD_STALL.width = 1 := ⟨rfl, rfl, rfl⟩
@[simp] theorem FWD_INT_STS.NOPATH_id : FWD_INT_STS.NOPATH.id = 544 ∧ FWD_INT_STS.NOPATH.ix = 0 ∧ FWD_INT_STS.NOPATH.width = 1 := ⟨rfl, rfl, rfl⟩
@[simp] theorem FWD_INT_STS.REASM_FULL_id : FWD_INT_STS.REASM_FULL.id = 545 ∧ FWD_INT_STS.REASM_FULL.ix = 0 ∧ FWD_INT_STS.REASM_FULL.width = 1 := ⟨rfl, rfl, rfl⟩
@[simp] theorem FWD_INT_STS.RACE_MISS_id : FWD_INT_STS.RACE_MISS.id = 546 ∧ FWD_INT_STS.RACE_MISS.ix = 0 ∧ FWD_INT_STS.RACE_MISS.width = 1 := ⟨rfl, rfl, rfl⟩
@[simp] theorem FWD_INT_STS.BAD_id : FWD_INT_STS.BAD.id = 547 ∧ FWD_INT_STS.BAD.ix = 0 ∧ FWD_INT_STS.BAD.width = 1 := ⟨rfl, rfl, rfl⟩
@[simp] theorem FWD_INT_EN.MOVE_id : FWD_INT_EN.MOVE.id = 548 ∧ FWD_INT_EN.MOVE.ix = 0 ∧ FWD_INT_EN.MOVE.width = 1 := ⟨rfl, rfl, rfl⟩
@[simp] theorem FWD_INT_EN.VAT_FULL_id : FWD_INT_EN.VAT_FULL.id = 549 ∧ FWD_INT_EN.VAT_FULL.ix = 0 ∧ FWD_INT_EN.VAT_FULL.width = 1 := ⟨rfl, rfl, rfl⟩
@[simp] theorem FWD_INT_EN.RESHARD_DONE_id : FWD_INT_EN.RESHARD_DONE.id = 550 ∧ FWD_INT_EN.RESHARD_DONE.ix = 0 ∧ FWD_INT_EN.RESHARD_DONE.width = 1 := ⟨rfl, rfl, rfl⟩
@[simp] theorem FWD_INT_EN.RESHARD_STALL_id : FWD_INT_EN.RESHARD_STALL.id = 551 ∧ FWD_INT_EN.RESHARD_STALL.ix = 0 ∧ FWD_INT_EN.RESHARD_STALL.width = 1 := ⟨rfl, rfl, rfl⟩
@[simp] theorem FWD_INT_EN.NOPATH_id : FWD_INT_EN.NOPATH.id = 552 ∧ FWD_INT_EN.NOPATH.ix = 0 ∧ FWD_INT_EN.NOPATH.width = 1 := ⟨rfl, rfl, rfl⟩
@[simp] theorem FWD_INT_EN.REASM_FULL_id : FWD_INT_EN.REASM_FULL.id = 553 ∧ FWD_INT_EN.REASM_FULL.ix = 0 ∧ FWD_INT_EN.REASM_FULL.width = 1 := ⟨rfl, rfl, rfl⟩
@[simp] theorem FWD_INT_EN.RACE_MISS_id : FWD_INT_EN.RACE_MISS.id = 554 ∧ FWD_INT_EN.RACE_MISS.ix = 0 ∧ FWD_INT_EN.RACE_MISS.width = 1 := ⟨rfl, rfl, rfl⟩
@[simp] theorem FWD_INT_EN.BAD_id : FWD_INT_EN.BAD.id = 555 ∧ FWD_INT_EN.BAD.ix = 0 ∧ FWD_INT_EN.BAD.width = 1 := ⟨rfl, rfl, rfl⟩
@[simp] theorem FWD_HASH_CUR.SEED_id : FWD_HASH_CUR.SEED.id = 556 ∧ FWD_HASH_CUR.SEED.ix = 0 ∧ FWD_HASH_CUR.SEED.width = 32 := ⟨rfl, rfl, rfl⟩
@[simp] theorem FWD_HASH_NEXT.SEED_id : FWD_HASH_NEXT.SEED.id = 557 ∧ FWD_HASH_NEXT.SEED.ix = 0 ∧ FWD_HASH_NEXT.SEED.width = 32 := ⟨rfl, rfl, rfl⟩
@[simp] theorem FWD_RESHARD.START_id : FWD_RESHARD.START.id = 558 ∧ FWD_RESHARD.START.ix = 0 ∧ FWD_RESHARD.START.width = 1 := ⟨rfl, rfl, rfl⟩
@[simp] theorem FWD_RESHARD.ABORT_id : FWD_RESHARD.ABORT.id = 559 ∧ FWD_RESHARD.ABORT.ix = 0 ∧ FWD_RESHARD.ABORT.width = 1 := ⟨rfl, rfl, rfl⟩
@[simp] theorem FWD_RESHARD.BAD_id : FWD_RESHARD.BAD.id = 560 ∧ FWD_RESHARD.BAD.ix = 0 ∧ FWD_RESHARD.BAD.width = 1 := ⟨rfl, rfl, rfl⟩
@[simp] theorem FWD_RESHARD.PROGRESS_id : FWD_RESHARD.PROGRESS.id = 561 ∧ FWD_RESHARD.PROGRESS.ix = 0 ∧ FWD_RESHARD.PROGRESS.width = 16 := ⟨rfl, rfl, rfl⟩
@[simp] theorem FWD_RELOC_CFG.MAX_KICK_id : FWD_RELOC_CFG.MAX_KICK.id = 562 ∧ FWD_RELOC_CFG.MAX_KICK.ix = 0 ∧ FWD_RELOC_CFG.MAX_KICK.width = 5 := ⟨rfl, rfl, rfl⟩
@[simp] theorem FWD_RELOC_CFG.VAT_PROBE_id : FWD_RELOC_CFG.VAT_PROBE.id = 563 ∧ FWD_RELOC_CFG.VAT_PROBE.ix = 0 ∧ FWD_RELOC_CFG.VAT_PROBE.width = 5 := ⟨rfl, rfl, rfl⟩
@[simp] theorem FWD_LEARN_CFG.MOVE_HYST_id : FWD_LEARN_CFG.MOVE_HYST.id = 564 ∧ FWD_LEARN_CFG.MOVE_HYST.ix = 0 ∧ FWD_LEARN_CFG.MOVE_HYST.width = 4 := ⟨rfl, rfl, rfl⟩
@[simp] theorem FWD_LEARN_CFG.STA_LEARN_id : FWD_LEARN_CFG.STA_LEARN.id = 565 ∧ FWD_LEARN_CFG.STA_LEARN.ix = 0 ∧ FWD_LEARN_CFG.STA_LEARN.width = 1 := ⟨rfl, rfl, rfl⟩
@[simp] theorem FWD_LEARN_CFG.NODE_MOVE_id : FWD_LEARN_CFG.NODE_MOVE.id = 566 ∧ FWD_LEARN_CFG.NODE_MOVE.ix = 0 ∧ FWD_LEARN_CFG.NODE_MOVE.width = 1 := ⟨rfl, rfl, rfl⟩
@[simp] theorem FWD_FIRN_CFG.SWEEP_S_id : FWD_FIRN_CFG.SWEEP_S.id = 567 ∧ FWD_FIRN_CFG.SWEEP_S.ix = 0 ∧ FWD_FIRN_CFG.SWEEP_S.width = 12 := ⟨rfl, rfl, rfl⟩
@[simp] theorem FWD_FIRN_CFG.EN_id : FWD_FIRN_CFG.EN.id = 568 ∧ FWD_FIRN_CFG.EN.ix = 0 ∧ FWD_FIRN_CFG.EN.width = 1 := ⟨rfl, rfl, rfl⟩
@[simp] theorem FWD_FIRN_STS.POS_id : FWD_FIRN_STS.POS.id = 569 ∧ FWD_FIRN_STS.POS.ix = 0 ∧ FWD_FIRN_STS.POS.width = 16 := ⟨rfl, rfl, rfl⟩
@[simp] theorem FWD_FIRN_STS.SWEEPS_id : FWD_FIRN_STS.SWEEPS.id = 570 ∧ FWD_FIRN_STS.SWEEPS.ix = 0 ∧ FWD_FIRN_STS.SWEEPS.width = 16 := ⟨rfl, rfl, rfl⟩
@[simp] theorem FWD_REASM_CFG.TIMEOUT_S_id : FWD_REASM_CFG.TIMEOUT_S.id = 571 ∧ FWD_REASM_CFG.TIMEOUT_S.ix = 0 ∧ FWD_REASM_CFG.TIMEOUT_S.width = 6 := ⟨rfl, rfl, rfl⟩
@[simp] theorem FWD_REASM_CFG.PER_NODE_id : FWD_REASM_CFG.PER_NODE.id = 572 ∧ FWD_REASM_CFG.PER_NODE.ix = 0 ∧ FWD_REASM_CFG.PER_NODE.width = 4 := ⟨rfl, rfl, rfl⟩
@[simp] theorem FWD_REASM_CFG.MAX_DGRAM_id : FWD_REASM_CFG.MAX_DGRAM.id = 573 ∧ FWD_REASM_CFG.MAX_DGRAM.ix = 0 ∧ FWD_REASM_CFG.MAX_DGRAM.width = 11 := ⟨rfl, rfl, rfl⟩
@[simp] theorem FWD_REASM_STS.USED_id : FWD_REASM_STS.USED.id = 574 ∧ FWD_REASM_STS.USED.ix = 0 ∧ FWD_REASM_STS.USED.width = 15 := ⟨rfl, rfl, rfl⟩
@[simp] theorem FWD_VAT_STS.USED_id : FWD_VAT_STS.USED.id = 575 ∧ FWD_VAT_STS.USED.ix = 0 ∧ FWD_VAT_STS.USED.width = 13 := ⟨rfl, rfl, rfl⟩
@[simp] theorem FWD_VAT_STS.NOFWT_id : FWD_VAT_STS.NOFWT.id = 576 ∧ FWD_VAT_STS.NOFWT.ix = 0 ∧ FWD_VAT_STS.NOFWT.width = 19 := ⟨rfl, rfl, rfl⟩
@[simp] theorem FWD_GW_MAC_LO.MAC_id : FWD_GW_MAC_LO.MAC.id = 577 ∧ FWD_GW_MAC_LO.MAC.ix = 0 ∧ FWD_GW_MAC_LO.MAC.width = 32 := ⟨rfl, rfl, rfl⟩
@[simp] theorem FWD_GW_MAC_HI.MAC_id : FWD_GW_MAC_HI.MAC.id = 578 ∧ FWD_GW_MAC_HI.MAC.ix = 0 ∧ FWD_GW_MAC_HI.MAC.width = 16 := ⟨rfl, rfl, rfl⟩
@[simp] theorem FWD_GW_MAC_HI.VLAN_id : FWD_GW_MAC_HI.VLAN.id = 579 ∧ FWD_GW_MAC_HI.VLAN.ix = 0 ∧ FWD_GW_MAC_HI.VLAN.width = 12 := ⟨rfl, rfl, rfl⟩
@[simp] theorem FWD_LOOKUPS_id : FWD_LOOKUPS.id = 580 ∧ FWD_LOOKUPS.ix = 0 ∧ FWD_LOOKUPS.width = 32 := ⟨rfl, rfl, rfl⟩
@[simp] theorem FWD_HITS_id : FWD_HITS.id = 581 ∧ FWD_HITS.ix = 0 ∧ FWD_HITS.width = 32 := ⟨rfl, rfl, rfl⟩
@[simp] theorem FWD_MISSES_id : FWD_MISSES.id = 582 ∧ FWD_MISSES.ix = 0 ∧ FWD_MISSES.width = 32 := ⟨rfl, rfl, rfl⟩
@[simp] theorem FWD_RETRIES_id : FWD_RETRIES.id = 583 ∧ FWD_RETRIES.ix = 0 ∧ FWD_RETRIES.width = 32 := ⟨rfl, rfl, rfl⟩
@[simp] theorem FWD_RACE_MISS_id : FWD_RACE_MISS.id = 584 ∧ FWD_RACE_MISS.ix = 0 ∧ FWD_RACE_MISS.width = 32 := ⟨rfl, rfl, rfl⟩
@[simp] theorem FWD_VAT_HITS_id : FWD_VAT_HITS.id = 585 ∧ FWD_VAT_HITS.ix = 0 ∧ FWD_VAT_HITS.width = 32 := ⟨rfl, rfl, rfl⟩
@[simp] theorem FWD_INSERTS_id : FWD_INSERTS.id = 586 ∧ FWD_INSERTS.ix = 0 ∧ FWD_INSERTS.width = 32 := ⟨rfl, rfl, rfl⟩
@[simp] theorem FWD_RELOCS_id : FWD_RELOCS.id = 587 ∧ FWD_RELOCS.ix = 0 ∧ FWD_RELOCS.width = 32 := ⟨rfl, rfl, rfl⟩
@[simp] theorem FWD_VAT_INSERTS_id : FWD_VAT_INSERTS.id = 588 ∧ FWD_VAT_INSERTS.ix = 0 ∧ FWD_VAT_INSERTS.width = 32 := ⟨rfl, rfl, rfl⟩
@[simp] theorem FWD_INSERT_FAIL_id : FWD_INSERT_FAIL.id = 589 ∧ FWD_INSERT_FAIL.ix = 0 ∧ FWD_INSERT_FAIL.width = 32 := ⟨rfl, rfl, rfl⟩
@[simp] theorem FWD_LEARN_NEW_id : FWD_LEARN_NEW.id = 590 ∧ FWD_LEARN_NEW.ix = 0 ∧ FWD_LEARN_NEW.width = 32 := ⟨rfl, rfl, rfl⟩
@[simp] theorem FWD_MOVE_CAND_id : FWD_MOVE_CAND.id = 591 ∧ FWD_MOVE_CAND.ix = 0 ∧ FWD_MOVE_CAND.width = 32 := ⟨rfl, rfl, rfl⟩
@[simp] theorem FWD_MOVES_id : FWD_MOVES.id = 592 ∧ FWD_MOVES.ix = 0 ∧ FWD_MOVES.width = 32 := ⟨rfl, rfl, rfl⟩
@[simp] theorem FWD_MOVE_ABORT_id : FWD_MOVE_ABORT.id = 593 ∧ FWD_MOVE_ABORT.ix = 0 ∧ FWD_MOVE_ABORT.width = 32 := ⟨rfl, rfl, rfl⟩
@[simp] theorem FWD_FIRN_REMOVED_id : FWD_FIRN_REMOVED.id = 594 ∧ FWD_FIRN_REMOVED.ix = 0 ∧ FWD_FIRN_REMOVED.width = 32 := ⟨rfl, rfl, rfl⟩
@[simp] theorem FWD_FIRN_SKIP_id : FWD_FIRN_SKIP.id = 595 ∧ FWD_FIRN_SKIP.ix = 0 ∧ FWD_FIRN_SKIP.width = 32 := ⟨rfl, rfl, rfl⟩
@[simp] theorem FWD_LOCK_WAIT_id : FWD_LOCK_WAIT.id = 596 ∧ FWD_LOCK_WAIT.ix = 0 ∧ FWD_LOCK_WAIT.width = 32 := ⟨rfl, rfl, rfl⟩
@[simp] theorem FWD_HOST_STALE_id : FWD_HOST_STALE.id = 597 ∧ FWD_HOST_STALE.ix = 0 ∧ FWD_HOST_STALE.width = 32 := ⟨rfl, rfl, rfl⟩
@[simp] theorem FWD_RESHARD_MOVED_id : FWD_RESHARD_MOVED.id = 598 ∧ FWD_RESHARD_MOVED.ix = 0 ∧ FWD_RESHARD_MOVED.width = 32 := ⟨rfl, rfl, rfl⟩
@[simp] theorem FWD_IPHC_ERR_id : FWD_IPHC_ERR.id = 599 ∧ FWD_IPHC_ERR.ix = 0 ∧ FWD_IPHC_ERR.width = 32 := ⟨rfl, rfl, rfl⟩
@[simp] theorem FWD_FRAG_TX_id : FWD_FRAG_TX.id = 600 ∧ FWD_FRAG_TX.ix = 0 ∧ FWD_FRAG_TX.width = 32 := ⟨rfl, rfl, rfl⟩
@[simp] theorem FWD_FRAGS_RX_id : FWD_FRAGS_RX.id = 601 ∧ FWD_FRAGS_RX.ix = 0 ∧ FWD_FRAGS_RX.width = 32 := ⟨rfl, rfl, rfl⟩
@[simp] theorem FWD_REASM_OK_id : FWD_REASM_OK.id = 602 ∧ FWD_REASM_OK.ix = 0 ∧ FWD_REASM_OK.width = 32 := ⟨rfl, rfl, rfl⟩
@[simp] theorem FWD_REASM_TIMEOUT_id : FWD_REASM_TIMEOUT.id = 603 ∧ FWD_REASM_TIMEOUT.ix = 0 ∧ FWD_REASM_TIMEOUT.width = 32 := ⟨rfl, rfl, rfl⟩
@[simp] theorem FWD_REASM_FULL_id : FWD_REASM_FULL.id = 604 ∧ FWD_REASM_FULL.ix = 0 ∧ FWD_REASM_FULL.width = 32 := ⟨rfl, rfl, rfl⟩
@[simp] theorem FWD_REASM_BIG_id : FWD_REASM_BIG.id = 605 ∧ FWD_REASM_BIG.ix = 0 ∧ FWD_REASM_BIG.width = 32 := ⟨rfl, rfl, rfl⟩
@[simp] theorem FWD_REASM_OVERLAP_id : FWD_REASM_OVERLAP.id = 606 ∧ FWD_REASM_OVERLAP.ix = 0 ∧ FWD_REASM_OVERLAP.width = 32 := ⟨rfl, rfl, rfl⟩
@[simp] theorem FWD_DAO_PARSED_id : FWD_DAO_PARSED.id = 607 ∧ FWD_DAO_PARSED.ix = 0 ∧ FWD_DAO_PARSED.width = 32 := ⟨rfl, rfl, rfl⟩
@[simp] theorem FWD_PARENT_CHG_id : FWD_PARENT_CHG.id = 608 ∧ FWD_PARENT_CHG.ix = 0 ∧ FWD_PARENT_CHG.width = 32 := ⟨rfl, rfl, rfl⟩
@[simp] theorem FWD_PATH_BUILT_id : FWD_PATH_BUILT.id = 609 ∧ FWD_PATH_BUILT.ix = 0 ∧ FWD_PATH_BUILT.width = 32 := ⟨rfl, rfl, rfl⟩
@[simp] theorem FWD_NOROUTE_id : FWD_NOROUTE.id = 610 ∧ FWD_NOROUTE.ix = 0 ∧ FWD_NOROUTE.width = 32 := ⟨rfl, rfl, rfl⟩
@[simp] theorem FWD_SPOOF_id : FWD_SPOOF.id = 611 ∧ FWD_SPOOF.ix = 0 ∧ FWD_SPOOF.width = 32 := ⟨rfl, rfl, rfl⟩
@[simp] theorem FWD_MOVE_LOG_A.NIX_id (i : Nat) : (FWD_MOVE_LOG_A.NIX i).id = 612 ∧ (FWD_MOVE_LOG_A.NIX i).ix = i ∧ (FWD_MOVE_LOG_A.NIX i).width = 18 := ⟨rfl, rfl, rfl⟩
@[simp] theorem FWD_MOVE_LOG_A.OLD_PORT_id (i : Nat) : (FWD_MOVE_LOG_A.OLD_PORT i).id = 613 ∧ (FWD_MOVE_LOG_A.OLD_PORT i).ix = i ∧ (FWD_MOVE_LOG_A.OLD_PORT i).width = 3 := ⟨rfl, rfl, rfl⟩
@[simp] theorem FWD_MOVE_LOG_A.NEW_PORT_id (i : Nat) : (FWD_MOVE_LOG_A.NEW_PORT i).id = 614 ∧ (FWD_MOVE_LOG_A.NEW_PORT i).ix = i ∧ (FWD_MOVE_LOG_A.NEW_PORT i).width = 3 := ⟨rfl, rfl, rfl⟩
@[simp] theorem FWD_MOVE_LOG_A.STA_id (i : Nat) : (FWD_MOVE_LOG_A.STA i).id = 615 ∧ (FWD_MOVE_LOG_A.STA i).ix = i ∧ (FWD_MOVE_LOG_A.STA i).width = 1 := ⟨rfl, rfl, rfl⟩
@[simp] theorem FWD_MOVE_LOG_B.BUCKET_id (i : Nat) : (FWD_MOVE_LOG_B.BUCKET i).id = 616 ∧ (FWD_MOVE_LOG_B.BUCKET i).ix = i ∧ (FWD_MOVE_LOG_B.BUCKET i).width = 16 := ⟨rfl, rfl, rfl⟩
@[simp] theorem FWD_MOVE_LOG_B.WAY_id (i : Nat) : (FWD_MOVE_LOG_B.WAY i).id = 617 ∧ (FWD_MOVE_LOG_B.WAY i).ix = i ∧ (FWD_MOVE_LOG_B.WAY i).width = 2 := ⟨rfl, rfl, rfl⟩
@[simp] theorem FWD_MOVE_LOG_B.IN_VAT_id (i : Nat) : (FWD_MOVE_LOG_B.IN_VAT i).id = 618 ∧ (FWD_MOVE_LOG_B.IN_VAT i).ix = i ∧ (FWD_MOVE_LOG_B.IN_VAT i).width = 1 := ⟨rfl, rfl, rfl⟩
@[simp] theorem FWD_CTX_LO.PFX_id (i : Nat) : (FWD_CTX_LO.PFX i).id = 619 ∧ (FWD_CTX_LO.PFX i).ix = i ∧ (FWD_CTX_LO.PFX i).width = 32 := ⟨rfl, rfl, rfl⟩
@[simp] theorem FWD_CTX_HI.PFX_id (i : Nat) : (FWD_CTX_HI.PFX i).id = 620 ∧ (FWD_CTX_HI.PFX i).ix = i ∧ (FWD_CTX_HI.PFX i).width = 32 := ⟨rfl, rfl, rfl⟩
@[simp] theorem FWD_W_PFX_LO.PFX_id (n : Nat) : (FWD_W_PFX_LO.PFX n).id = 621 ∧ (FWD_W_PFX_LO.PFX n).ix = n ∧ (FWD_W_PFX_LO.PFX n).width = 32 := ⟨rfl, rfl, rfl⟩
@[simp] theorem FWD_W_PFX_HI.PFX_id (n : Nat) : (FWD_W_PFX_HI.PFX n).id = 622 ∧ (FWD_W_PFX_HI.PFX n).ix = n ∧ (FWD_W_PFX_HI.PFX n).width = 32 := ⟨rfl, rfl, rfl⟩
@[simp] theorem FWD_W_CFG.INSTANCE_id (n : Nat) : (FWD_W_CFG.INSTANCE n).id = 623 ∧ (FWD_W_CFG.INSTANCE n).ix = n ∧ (FWD_W_CFG.INSTANCE n).width = 8 := ⟨rfl, rfl, rfl⟩
@[simp] theorem FWD_W_CFG.LORH_id (n : Nat) : (FWD_W_CFG.LORH n).id = 624 ∧ (FWD_W_CFG.LORH n).ix = n ∧ (FWD_W_CFG.LORH n).width = 1 := ⟨rfl, rfl, rfl⟩
@[simp] theorem FWD_W_CFG.SRC_CHECK_id (n : Nat) : (FWD_W_CFG.SRC_CHECK n).id = 625 ∧ (FWD_W_CFG.SRC_CHECK n).ix = n ∧ (FWD_W_CFG.SRC_CHECK n).width = 1 := ⟨rfl, rfl, rfl⟩
@[simp] theorem FWD_W_CFG.ALIAS_LEARN_id (n : Nat) : (FWD_W_CFG.ALIAS_LEARN n).id = 626 ∧ (FWD_W_CFG.ALIAS_LEARN n).ix = n ∧ (FWD_W_CFG.ALIAS_LEARN n).width = 1 := ⟨rfl, rfl, rfl⟩
@[simp] theorem FWD_W_CFG.SRH_SHORT_id (n : Nat) : (FWD_W_CFG.SRH_SHORT n).id = 627 ∧ (FWD_W_CFG.SRH_SHORT n).ix = n ∧ (FWD_W_CFG.SRH_SHORT n).width = 1 := ⟨rfl, rfl, rfl⟩
@[simp] theorem FWD_W_CFG.FCS4_id (n : Nat) : (FWD_W_CFG.FCS4 n).id = 628 ∧ (FWD_W_CFG.FCS4 n).ix = n ∧ (FWD_W_CFG.FCS4 n).width = 1 := ⟨rfl, rfl, rfl⟩
@[simp] theorem FWD_W_CFG.FRAG_MAX_id (n : Nat) : (FWD_W_CFG.FRAG_MAX n).id = 629 ∧ (FWD_W_CFG.FRAG_MAX n).ix = n ∧ (FWD_W_CFG.FRAG_MAX n).width = 11 := ⟨rfl, rfl, rfl⟩
@[simp] theorem FWD_W_CFG.PHYC_id (n : Nat) : (FWD_W_CFG.PHYC n).id = 630 ∧ (FWD_W_CFG.PHYC n).ix = n ∧ (FWD_W_CFG.PHYC n).width = 4 := ⟨rfl, rfl, rfl⟩
@[simp] theorem FWD_W_UPLINK.GW_id (n : Nat) : (FWD_W_UPLINK.GW n).id = 631 ∧ (FWD_W_UPLINK.GW n).ix = n ∧ (FWD_W_UPLINK.GW n).width = 1 := ⟨rfl, rfl, rfl⟩
@[simp] theorem FWD_W_UPLINK.RING_id (n : Nat) : (FWD_W_UPLINK.RING n).id = 632 ∧ (FWD_W_UPLINK.RING n).ix = n ∧ (FWD_W_UPLINK.RING n).width = 5 := ⟨rfl, rfl, rfl⟩
@[simp] theorem FWD_W_CTX.MASK_id (n : Nat) : (FWD_W_CTX.MASK n).id = 633 ∧ (FWD_W_CTX.MASK n).ix = n ∧ (FWD_W_CTX.MASK n).width = 15 := ⟨rfl, rfl, rfl⟩
@[simp] theorem FWD_W_EPOCH.EPOCH_id (n : Nat) : (FWD_W_EPOCH.EPOCH n).id = 634 ∧ (FWD_W_EPOCH.EPOCH n).ix = n ∧ (FWD_W_EPOCH.EPOCH n).width = 32 := ⟨rfl, rfl, rfl⟩
@[simp] theorem FWD_W_TAG.TAG_id (n : Nat) : (FWD_W_TAG.TAG n).id = 635 ∧ (FWD_W_TAG.TAG n).ix = n ∧ (FWD_W_TAG.TAG n).width = 16 := ⟨rfl, rfl, rfl⟩
@[simp] theorem FWD_W_TAG.ROOT_RANK_id (n : Nat) : (FWD_W_TAG.ROOT_RANK n).id = 636 ∧ (FWD_W_TAG.ROOT_RANK n).ix = n ∧ (FWD_W_TAG.ROOT_RANK n).width = 16 := ⟨rfl, rfl, rfl⟩
@[simp] theorem FWD_W_NOPATH.COUNT_id (n : Nat) : (FWD_W_NOPATH.COUNT n).id = 637 ∧ (FWD_W_NOPATH.COUNT n).ix = n ∧ (FWD_W_NOPATH.COUNT n).width = 32 := ⟨rfl, rfl, rfl⟩
@[simp] theorem QMS_CFG.EN_id : QMS_CFG.EN.id = 638 ∧ QMS_CFG.EN.ix = 0 ∧ QMS_CFG.EN.width = 1 := ⟨rfl, rfl, rfl⟩
@[simp] theorem QMS_STS.RUN_id : QMS_STS.RUN.id = 639 ∧ QMS_STS.RUN.ix = 0 ∧ QMS_STS.RUN.width = 1 := ⟨rfl, rfl, rfl⟩
@[simp] theorem QMS_INT_STS.NOCURD_id : QMS_INT_STS.NOCURD.id = 640 ∧ QMS_INT_STS.NOCURD.ix = 0 ∧ QMS_INT_STS.NOCURD.width = 1 := ⟨rfl, rfl, rfl⟩
@[simp] theorem QMS_INT_STS.QAGE_id : QMS_INT_STS.QAGE.id = 641 ∧ QMS_INT_STS.QAGE.ix = 0 ∧ QMS_INT_STS.QAGE.width = 1 := ⟨rfl, rfl, rfl⟩
@[simp] theorem QMS_INT_STS.CURD_ECC_id : QMS_INT_STS.CURD_ECC.id = 642 ∧ QMS_INT_STS.CURD_ECC.ix = 0 ∧ QMS_INT_STS.CURD_ECC.width = 1 := ⟨rfl, rfl, rfl⟩
@[simp] theorem QMS_INT_EN.NOCURD_id : QMS_INT_EN.NOCURD.id = 643 ∧ QMS_INT_EN.NOCURD.ix = 0 ∧ QMS_INT_EN.NOCURD.width = 1 := ⟨rfl, rfl, rfl⟩
@[simp] theorem QMS_INT_EN.QAGE_id : QMS_INT_EN.QAGE.id = 644 ∧ QMS_INT_EN.QAGE.ix = 0 ∧ QMS_INT_EN.QAGE.width = 1 := ⟨rfl, rfl, rfl⟩
@[simp] theorem QMS_INT_EN.CURD_ECC_id : QMS_INT_EN.CURD_ECC.id = 645 ∧ QMS_INT_EN.CURD_ECC.ix = 0 ∧ QMS_INT_EN.CURD_ECC.width = 1 := ⟨rfl, rfl, rfl⟩
@[simp] theorem QMS_AGE_CFG.DN_MS_id : QMS_AGE_CFG.DN_MS.id = 646 ∧ QMS_AGE_CFG.DN_MS.ix = 0 ∧ QMS_AGE_CFG.DN_MS.width = 16 := ⟨rfl, rfl, rfl⟩
@[simp] theorem QMS_POOL_FREE.FREE_id : QMS_POOL_FREE.FREE.id = 647 ∧ QMS_POOL_FREE.FREE.ix = 0 ∧ QMS_POOL_FREE.FREE.width = 16 := ⟨rfl, rfl, rfl⟩
@[simp] theorem QMS_POOL_PEAK.PEAK_id : QMS_POOL_PEAK.PEAK.id = 648 ∧ QMS_POOL_PEAK.PEAK.ix = 0 ∧ QMS_POOL_PEAK.PEAK.width = 16 := ⟨rfl, rfl, rfl⟩
@[simp] theorem QMS_ENQ_FRAMES_id : QMS_ENQ_FRAMES.id = 649 ∧ QMS_ENQ_FRAMES.ix = 0 ∧ QMS_ENQ_FRAMES.width = 32 := ⟨rfl, rfl, rfl⟩
@[simp] theorem QMS_DEQ_FRAMES_id : QMS_DEQ_FRAMES.id = 650 ∧ QMS_DEQ_FRAMES.ix = 0 ∧ QMS_DEQ_FRAMES.width = 32 := ⟨rfl, rfl, rfl⟩
@[simp] theorem QMS_PICK_DED_id : QMS_PICK_DED.id = 651 ∧ QMS_PICK_DED.ix = 0 ∧ QMS_PICK_DED.width = 32 := ⟨rfl, rfl, rfl⟩
@[simp] theorem QMS_PICK_SHARED_id : QMS_PICK_SHARED.id = 652 ∧ QMS_PICK_SHARED.ix = 0 ∧ QMS_PICK_SHARED.width = 32 := ⟨rfl, rfl, rfl⟩
@[simp] theorem QMS_PICK_NOFRAME_id : QMS_PICK_NOFRAME.id = 653 ∧ QMS_PICK_NOFRAME.ix = 0 ∧ QMS_PICK_NOFRAME.width = 32 := ⟨rfl, rfl, rfl⟩
@[simp] theorem QMS_HOLD_BLOCK_id : QMS_HOLD_BLOCK.id = 654 ∧ QMS_HOLD_BLOCK.ix = 0 ∧ QMS_HOLD_BLOCK.width = 32 := ⟨rfl, rfl, rfl⟩
@[simp] theorem QMS_CLASS_SKIP_id : QMS_CLASS_SKIP.id = 655 ∧ QMS_CLASS_SKIP.ix = 0 ∧ QMS_CLASS_SKIP.width = 32 := ⟨rfl, rfl, rfl⟩
@[simp] theorem QMS_ALLOC_FAIL_id : QMS_ALLOC_FAIL.id = 656 ∧ QMS_ALLOC_FAIL.ix = 0 ∧ QMS_ALLOC_FAIL.width = 32 := ⟨rfl, rfl, rfl⟩
@[simp] theorem QMS_WHEY_TOTAL_id : QMS_WHEY_TOTAL.id = 657 ∧ QMS_WHEY_TOTAL.ix = 0 ∧ QMS_WHEY_TOTAL.width = 32 := ⟨rfl, rfl, rfl⟩
@[simp] theorem QMS_POOL_CFG.GUAR_id (i : Nat) : (QMS_POOL_CFG.GUAR i).id = 658 ∧ (QMS_POOL_CFG.GUAR i).ix = i ∧ (QMS_POOL_CFG.GUAR i).width = 16 := ⟨rfl, rfl, rfl⟩
@[simp] theorem QMS_POOL_CFG.MAX_id (i : Nat) : (QMS_POOL_CFG.MAX i).id = 659 ∧ (QMS_POOL_CFG.MAX i).ix = i ∧ (QMS_POOL_CFG.MAX i).width = 16 := ⟨rfl, rfl, rfl⟩
@[simp] theorem QMS_POOL_USE.USED_id (i : Nat) : (QMS_POOL_USE.USED i).id = 660 ∧ (QMS_POOL_USE.USED i).ix = i ∧ (QMS_POOL_USE.USED i).width = 16 := ⟨rfl, rfl, rfl⟩
@[simp] theorem QMS_POOL_USE.PEAK_id (i : Nat) : (QMS_POOL_USE.PEAK i).id = 661 ∧ (QMS_POOL_USE.PEAK i).ix = i ∧ (QMS_POOL_USE.PEAK i).width = 16 := ⟨rfl, rfl, rfl⟩
@[simp] theorem QMS_DSCP_MAP.CLASS_0_id (i : Nat) : (QMS_DSCP_MAP.CLASS_0 i).id = 662 ∧ (QMS_DSCP_MAP.CLASS_0 i).ix = i ∧ (QMS_DSCP_MAP.CLASS_0 i).width = 3 := ⟨rfl, rfl, rfl⟩
@[simp] theorem QMS_DSCP_MAP.YEL_0_id (i : Nat) : (QMS_DSCP_MAP.YEL_0 i).id = 663 ∧ (QMS_DSCP_MAP.YEL_0 i).ix = i ∧ (QMS_DSCP_MAP.YEL_0 i).width = 1 := ⟨rfl, rfl, rfl⟩
@[simp] theorem QMS_DSCP_MAP.CLASS_1_id (i : Nat) : (QMS_DSCP_MAP.CLASS_1 i).id = 664 ∧ (QMS_DSCP_MAP.CLASS_1 i).ix = i ∧ (QMS_DSCP_MAP.CLASS_1 i).width = 3 := ⟨rfl, rfl, rfl⟩
@[simp] theorem QMS_DSCP_MAP.YEL_1_id (i : Nat) : (QMS_DSCP_MAP.YEL_1 i).id = 665 ∧ (QMS_DSCP_MAP.YEL_1 i).ix = i ∧ (QMS_DSCP_MAP.YEL_1 i).width = 1 := ⟨rfl, rfl, rfl⟩
@[simp] theorem QMS_DSCP_MAP.CLASS_2_id (i : Nat) : (QMS_DSCP_MAP.CLASS_2 i).id = 666 ∧ (QMS_DSCP_MAP.CLASS_2 i).ix = i ∧ (QMS_DSCP_MAP.CLASS_2 i).width = 3 := ⟨rfl, rfl, rfl⟩
@[simp] theorem QMS_DSCP_MAP.YEL_2_id (i : Nat) : (QMS_DSCP_MAP.YEL_2 i).id = 667 ∧ (QMS_DSCP_MAP.YEL_2 i).ix = i ∧ (QMS_DSCP_MAP.YEL_2 i).width = 1 := ⟨rfl, rfl, rfl⟩
@[simp] theorem QMS_DSCP_MAP.CLASS_3_id (i : Nat) : (QMS_DSCP_MAP.CLASS_3 i).id = 668 ∧ (QMS_DSCP_MAP.CLASS_3 i).ix = i ∧ (QMS_DSCP_MAP.CLASS_3 i).width = 3 := ⟨rfl, rfl, rfl⟩
@[simp] theorem QMS_DSCP_MAP.YEL_3_id (i : Nat) : (QMS_DSCP_MAP.YEL_3 i).id = 669 ∧ (QMS_DSCP_MAP.YEL_3 i).ix = i ∧ (QMS_DSCP_MAP.YEL_3 i).width = 1 := ⟨rfl, rfl, rfl⟩
@[simp] theorem QMS_DSCP_MAP.CLASS_4_id (i : Nat) : (QMS_DSCP_MAP.CLASS_4 i).id = 670 ∧ (QMS_DSCP_MAP.CLASS_4 i).ix = i ∧ (QMS_DSCP_MAP.CLASS_4 i).width = 3 := ⟨rfl, rfl, rfl⟩
@[simp] theorem QMS_DSCP_MAP.YEL_4_id (i : Nat) : (QMS_DSCP_MAP.YEL_4 i).id = 671 ∧ (QMS_DSCP_MAP.YEL_4 i).ix = i ∧ (QMS_DSCP_MAP.YEL_4 i).width = 1 := ⟨rfl, rfl, rfl⟩
@[simp] theorem QMS_DSCP_MAP.CLASS_5_id (i : Nat) : (QMS_DSCP_MAP.CLASS_5 i).id = 672 ∧ (QMS_DSCP_MAP.CLASS_5 i).ix = i ∧ (QMS_DSCP_MAP.CLASS_5 i).width = 3 := ⟨rfl, rfl, rfl⟩
@[simp] theorem QMS_DSCP_MAP.YEL_5_id (i : Nat) : (QMS_DSCP_MAP.YEL_5 i).id = 673 ∧ (QMS_DSCP_MAP.YEL_5 i).ix = i ∧ (QMS_DSCP_MAP.YEL_5 i).width = 1 := ⟨rfl, rfl, rfl⟩
@[simp] theorem QMS_DSCP_MAP.CLASS_6_id (i : Nat) : (QMS_DSCP_MAP.CLASS_6 i).id = 674 ∧ (QMS_DSCP_MAP.CLASS_6 i).ix = i ∧ (QMS_DSCP_MAP.CLASS_6 i).width = 3 := ⟨rfl, rfl, rfl⟩
@[simp] theorem QMS_DSCP_MAP.YEL_6_id (i : Nat) : (QMS_DSCP_MAP.YEL_6 i).id = 675 ∧ (QMS_DSCP_MAP.YEL_6 i).ix = i ∧ (QMS_DSCP_MAP.YEL_6 i).width = 1 := ⟨rfl, rfl, rfl⟩
@[simp] theorem QMS_DSCP_MAP.CLASS_7_id (i : Nat) : (QMS_DSCP_MAP.CLASS_7 i).id = 676 ∧ (QMS_DSCP_MAP.CLASS_7 i).ix = i ∧ (QMS_DSCP_MAP.CLASS_7 i).width = 3 := ⟨rfl, rfl, rfl⟩
@[simp] theorem QMS_DSCP_MAP.YEL_7_id (i : Nat) : (QMS_DSCP_MAP.YEL_7 i).id = 677 ∧ (QMS_DSCP_MAP.YEL_7 i).ix = i ∧ (QMS_DSCP_MAP.YEL_7 i).width = 1 := ⟨rfl, rfl, rfl⟩
@[simp] theorem QMS_W_LIM_UP.CQ_MAX_id (i : Nat) : (QMS_W_LIM_UP.CQ_MAX i).id = 678 ∧ (QMS_W_LIM_UP.CQ_MAX i).ix = i ∧ (QMS_W_LIM_UP.CQ_MAX i).width = 16 := ⟨rfl, rfl, rfl⟩
@[simp] theorem QMS_W_LIM_UP.YEL_MAX_id (i : Nat) : (QMS_W_LIM_UP.YEL_MAX i).id = 679 ∧ (QMS_W_LIM_UP.YEL_MAX i).ix = i ∧ (QMS_W_LIM_UP.YEL_MAX i).width = 16 := ⟨rfl, rfl, rfl⟩
@[simp] theorem QMS_W_LIM_DN.CQ_MAX_id (i : Nat) : (QMS_W_LIM_DN.CQ_MAX i).id = 680 ∧ (QMS_W_LIM_DN.CQ_MAX i).ix = i ∧ (QMS_W_LIM_DN.CQ_MAX i).width = 16 := ⟨rfl, rfl, rfl⟩
@[simp] theorem QMS_W_LIM_DN.NODE_MAX_id (i : Nat) : (QMS_W_LIM_DN.NODE_MAX i).id = 681 ∧ (QMS_W_LIM_DN.NODE_MAX i).ix = i ∧ (QMS_W_LIM_DN.NODE_MAX i).width = 11 := ⟨rfl, rfl, rfl⟩
@[simp] theorem QMS_W_NPEAK.PEAK_id (i : Nat) : (QMS_W_NPEAK.PEAK i).id = 682 ∧ (QMS_W_NPEAK.PEAK i).ix = i ∧ (QMS_W_NPEAK.PEAK i).width = 11 := ⟨rfl, rfl, rfl⟩
@[simp] theorem QMS_W_NPEAK.NIX_id (i : Nat) : (QMS_W_NPEAK.NIX i).id = 683 ∧ (QMS_W_NPEAK.NIX i).ix = i ∧ (QMS_W_NPEAK.NIX i).width = 18 := ⟨rfl, rfl, rfl⟩
@[simp] theorem QMS_W_NFRAMES.FRAMES_id (i : Nat) : (QMS_W_NFRAMES.FRAMES i).id = 684 ∧ (QMS_W_NFRAMES.FRAMES i).ix = i ∧ (QMS_W_NFRAMES.FRAMES i).width = 16 := ⟨rfl, rfl, rfl⟩
@[simp] theorem QMS_WHEY_id (i : Nat) : (QMS_WHEY i).id = 685 ∧ (QMS_WHEY i).ix = i ∧ (QMS_WHEY i).width = 32 := ⟨rfl, rfl, rfl⟩
@[simp] theorem QMS_CQ.CURDS_id (i : Nat) : (QMS_CQ.CURDS i).id = 686 ∧ (QMS_CQ.CURDS i).ix = i ∧ (QMS_CQ.CURDS i).width = 16 := ⟨rfl, rfl, rfl⟩
@[simp] theorem QMS_CQ.PEAK_id (i : Nat) : (QMS_CQ.PEAK i).id = 687 ∧ (QMS_CQ.PEAK i).ix = i ∧ (QMS_CQ.PEAK i).width = 16 := ⟨rfl, rfl, rfl⟩
@[simp] theorem SHP_CFG.EN_id : SHP_CFG.EN.id = 688 ∧ SHP_CFG.EN.ix = 0 ∧ SHP_CFG.EN.width = 1 := ⟨rfl, rfl, rfl⟩
@[simp] theorem SHP_CFG.RECONF_UP_id : SHP_CFG.RECONF_UP.id = 689 ∧ SHP_CFG.RECONF_UP.ix = 0 ∧ SHP_CFG.RECONF_UP.width = 1 := ⟨rfl, rfl, rfl⟩
@[simp] theorem SHP_CFG.RECONF_DN_id : SHP_CFG.RECONF_DN.id = 690 ∧ SHP_CFG.RECONF_DN.ix = 0 ∧ SHP_CFG.RECONF_DN.width = 1 := ⟨rfl, rfl, rfl⟩
@[simp] theorem SHP_STS.RUN_id : SHP_STS.RUN.id = 691 ∧ SHP_STS.RUN.ix = 0 ∧ SHP_STS.RUN.width = 1 := ⟨rfl, rfl, rfl⟩
@[simp] theorem SHP_STS.FALLBACK_id : SHP_STS.FALLBACK.id = 692 ∧ SHP_STS.FALLBACK.ix = 0 ∧ SHP_STS.FALLBACK.width = 1 := ⟨rfl, rfl, rfl⟩
@[simp] theorem SHP_INT_STS.SHAPE_DROP_id : SHP_INT_STS.SHAPE_DROP.id = 693 ∧ SHP_INT_STS.SHAPE_DROP.ix = 0 ∧ SHP_INT_STS.SHAPE_DROP.width = 1 := ⟨rfl, rfl, rfl⟩
@[simp] theorem SHP_INT_STS.RED_id : SHP_INT_STS.RED.id = 694 ∧ SHP_INT_STS.RED.ix = 0 ∧ SHP_INT_STS.RED.width = 1 := ⟨rfl, rfl, rfl⟩
@[simp] theorem SHP_INT_STS.GATE_LATE_id : SHP_INT_STS.GATE_LATE.id = 695 ∧ SHP_INT_STS.GATE_LATE.ix = 0 ∧ SHP_INT_STS.GATE_LATE.width = 1 := ⟨rfl, rfl, rfl⟩
@[simp] theorem SHP_INT_STS.GATE_OVERSIZE_id : SHP_INT_STS.GATE_OVERSIZE.id = 696 ∧ SHP_INT_STS.GATE_OVERSIZE.ix = 0 ∧ SHP_INT_STS.GATE_OVERSIZE.width = 1 := ⟨rfl, rfl, rfl⟩
@[simp] theorem SHP_INT_STS.GATE_SWITCHED_id : SHP_INT_STS.GATE_SWITCHED.id = 697 ∧ SHP_INT_STS.GATE_SWITCHED.ix = 0 ∧ SHP_INT_STS.GATE_SWITCHED.width = 1 := ⟨rfl, rfl, rfl⟩
@[simp] theorem SHP_INT_EN.SHAPE_DROP_id : SHP_INT_EN.SHAPE_DROP.id = 698 ∧ SHP_INT_EN.SHAPE_DROP.ix = 0 ∧ SHP_INT_EN.SHAPE_DROP.width = 1 := ⟨rfl, rfl, rfl⟩
@[simp] theorem SHP_INT_EN.RED_id : SHP_INT_EN.RED.id = 699 ∧ SHP_INT_EN.RED.ix = 0 ∧ SHP_INT_EN.RED.width = 1 := ⟨rfl, rfl, rfl⟩
@[simp] theorem SHP_INT_EN.GATE_LATE_id : SHP_INT_EN.GATE_LATE.id = 700 ∧ SHP_INT_EN.GATE_LATE.ix = 0 ∧ SHP_INT_EN.GATE_LATE.width = 1 := ⟨rfl, rfl, rfl⟩
@[simp] theorem SHP_INT_EN.GATE_OVERSIZE_id : SHP_INT_EN.GATE_OVERSIZE.id = 701 ∧ SHP_INT_EN.GATE_OVERSIZE.ix = 0 ∧ SHP_INT_EN.GATE_OVERSIZE.width = 1 := ⟨rfl, rfl, rfl⟩
@[simp] theorem SHP_INT_EN.GATE_SWITCHED_id : SHP_INT_EN.GATE_SWITCHED.id = 702 ∧ SHP_INT_EN.GATE_SWITCHED.ix = 0 ∧ SHP_INT_EN.GATE_SWITCHED.width = 1 := ⟨rfl, rfl, rfl⟩
@[simp] theorem SHP_CAL_CFG.EN_id : SHP_CAL_CFG.EN.id = 703 ∧ SHP_CAL_CFG.EN.ix = 0 ∧ SHP_CAL_CFG.EN.width = 1 := ⟨rfl, rfl, rfl⟩
@[simp] theorem SHP_CAL_CFG.RES_id : SHP_CAL_CFG.RES.id = 704 ∧ SHP_CAL_CFG.RES.ix = 0 ∧ SHP_CAL_CFG.RES.width = 2 := ⟨rfl, rfl, rfl⟩
@[simp] theorem SHP_CAL_CFG.MAX_WAIT_id : SHP_CAL_CFG.MAX_WAIT.id = 705 ∧ SHP_CAL_CFG.MAX_WAIT.ix = 0 ∧ SHP_CAL_CFG.MAX_WAIT.width = 18 := ⟨rfl, rfl, rfl⟩
@[simp] theorem SHP_CAL_STS.COUNT_id : SHP_CAL_STS.COUNT.id = 706 ∧ SHP_CAL_STS.COUNT.ix = 0 ∧ SHP_CAL_STS.COUNT.width = 16 := ⟨rfl, rfl, rfl⟩
@[simp] theorem SHP_CAL_STS.PEAK_id : SHP_CAL_STS.PEAK.id = 707 ∧ SHP_CAL_STS.PEAK.ix = 0 ∧ SHP_CAL_STS.PEAK.width = 16 := ⟨rfl, rfl, rfl⟩
@[simp] theorem SHP_SWEEP_STS.POS_id : SHP_SWEEP_STS.POS.id = 708 ∧ SHP_SWEEP_STS.POS.ix = 0 ∧ SHP_SWEEP_STS.POS.width = 18 := ⟨rfl, rfl, rfl⟩
@[simp] theorem SHP_SWEEP_STS.SWEEPS_id : SHP_SWEEP_STS.SWEEPS.id = 709 ∧ SHP_SWEEP_STS.SWEEPS.ix = 0 ∧ SHP_SWEEP_STS.SWEEPS.width = 14 := ⟨rfl, rfl, rfl⟩
@[simp] theorem SHP_WPOL_MODE.AWARE_id : SHP_WPOL_MODE.AWARE.id = 710 ∧ SHP_WPOL_MODE.AWARE.ix = 0 ∧ SHP_WPOL_MODE.AWARE.width = 8 := ⟨rfl, rfl, rfl⟩
@[simp] theorem SHP_POL_PASS_id : SHP_POL_PASS.id = 711 ∧ SHP_POL_PASS.ix = 0 ∧ SHP_POL_PASS.width = 32 := ⟨rfl, rfl, rfl⟩
@[simp] theorem SHP_POL_DROP_id : SHP_POL_DROP.id = 712 ∧ SHP_POL_DROP.ix = 0 ∧ SHP_POL_DROP.width = 32 := ⟨rfl, rfl, rfl⟩
@[simp] theorem SHP_WPOL_GREEN_id : SHP_WPOL_GREEN.id = 713 ∧ SHP_WPOL_GREEN.ix = 0 ∧ SHP_WPOL_GREEN.width = 32 := ⟨rfl, rfl, rfl⟩
@[simp] theorem SHP_WPOL_YELLOW_id : SHP_WPOL_YELLOW.id = 714 ∧ SHP_WPOL_YELLOW.ix = 0 ∧ SHP_WPOL_YELLOW.width = 32 := ⟨rfl, rfl, rfl⟩
@[simp] theorem SHP_WPOL_RED_id : SHP_WPOL_RED.id = 715 ∧ SHP_WPOL_RED.ix = 0 ∧ SHP_WPOL_RED.width = 32 := ⟨rfl, rfl, rfl⟩
@[simp] theorem SHP_CAL_INSERTS_id : SHP_CAL_INSERTS.id = 716 ∧ SHP_CAL_INSERTS.ix = 0 ∧ SHP_CAL_INSERTS.width = 32 := ⟨rfl, rfl, rfl⟩
@[simp] theorem SHP_CAL_FALLBACK_id : SHP_CAL_FALLBACK.id = 717 ∧ SHP_CAL_FALLBACK.ix = 0 ∧ SHP_CAL_FALLBACK.width = 32 := ⟨rfl, rfl, rfl⟩
@[simp] theorem SHP_SHAPE_DROP_id : SHP_SHAPE_DROP.id = 718 ∧ SHP_SHAPE_DROP.ix = 0 ∧ SHP_SHAPE_DROP.width = 32 := ⟨rfl, rfl, rfl⟩
@[simp] theorem SHP_PROF_RATE.UP_id (i : Nat) : (SHP_PROF_RATE.UP i).id = 719 ∧ (SHP_PROF_RATE.UP i).ix = i ∧ (SHP_PROF_RATE.UP i).width = 16 := ⟨rfl, rfl, rfl⟩
@[simp] theorem SHP_PROF_RATE.DN_id (i : Nat) : (SHP_PROF_RATE.DN i).id = 720 ∧ (SHP_PROF_RATE.DN i).ix = i ∧ (SHP_PROF_RATE.DN i).width = 16 := ⟨rfl, rfl, rfl⟩
@[simp] theorem SHP_PROF_BURST.UP_id (i : Nat) : (SHP_PROF_BURST.UP i).id = 721 ∧ (SHP_PROF_BURST.UP i).ix = i ∧ (SHP_PROF_BURST.UP i).width = 16 := ⟨rfl, rfl, rfl⟩
@[simp] theorem SHP_PROF_BURST.DN_id (i : Nat) : (SHP_PROF_BURST.DN i).id = 722 ∧ (SHP_PROF_BURST.DN i).ix = i ∧ (SHP_PROF_BURST.DN i).width = 16 := ⟨rfl, rfl, rfl⟩
@[simp] theorem SHP_WPOL_RATE.CIR_id (i : Nat) : (SHP_WPOL_RATE.CIR i).id = 723 ∧ (SHP_WPOL_RATE.CIR i).ix = i ∧ (SHP_WPOL_RATE.CIR i).width = 16 := ⟨rfl, rfl, rfl⟩
@[simp] theorem SHP_WPOL_RATE.PIR_id (i : Nat) : (SHP_WPOL_RATE.PIR i).id = 724 ∧ (SHP_WPOL_RATE.PIR i).ix = i ∧ (SHP_WPOL_RATE.PIR i).width = 16 := ⟨rfl, rfl, rfl⟩
@[simp] theorem SHP_WPOL_BURST.CBS_id (i : Nat) : (SHP_WPOL_BURST.CBS i).id = 725 ∧ (SHP_WPOL_BURST.CBS i).ix = i ∧ (SHP_WPOL_BURST.CBS i).width = 16 := ⟨rfl, rfl, rfl⟩
@[simp] theorem SHP_WPOL_BURST.PBS_id (i : Nat) : (SHP_WPOL_BURST.PBS i).id = 726 ∧ (SHP_WPOL_BURST.PBS i).ix = i ∧ (SHP_WPOL_BURST.PBS i).width = 16 := ⟨rfl, rfl, rfl⟩
@[simp] theorem SHP_WDS.RATE_id (i : Nat) : (SHP_WDS.RATE i).id = 727 ∧ (SHP_WDS.RATE i).ix = i ∧ (SHP_WDS.RATE i).width = 16 := ⟨rfl, rfl, rfl⟩
@[simp] theorem SHP_WDS.BURST_id (i : Nat) : (SHP_WDS.BURST i).id = 728 ∧ (SHP_WDS.BURST i).ix = i ∧ (SHP_WDS.BURST i).width = 16 := ⟨rfl, rfl, rfl⟩
@[simp] theorem SHP_GCL0.GATES_id (i : Nat) : (SHP_GCL0.GATES i).id = 729 ∧ (SHP_GCL0.GATES i).ix = i ∧ (SHP_GCL0.GATES i).width = 8 := ⟨rfl, rfl, rfl⟩
@[simp] theorem SHP_GCL0.INTERVAL_id (i : Nat) : (SHP_GCL0.INTERVAL i).id = 730 ∧ (SHP_GCL0.INTERVAL i).ix = i ∧ (SHP_GCL0.INTERVAL i).width = 24 := ⟨rfl, rfl, rfl⟩
@[simp] theorem SHP_GCL1.GATES_id (i : Nat) : (SHP_GCL1.GATES i).id = 731 ∧ (SHP_GCL1.GATES i).ix = i ∧ (SHP_GCL1.GATES i).width = 8 := ⟨rfl, rfl, rfl⟩
@[simp] theorem SHP_GCL1.INTERVAL_id (i : Nat) : (SHP_GCL1.INTERVAL i).id = 732 ∧ (SHP_GCL1.INTERVAL i).ix = i ∧ (SHP_GCL1.INTERVAL i).width = 24 := ⟨rfl, rfl, rfl⟩
@[simp] theorem SHP_GATE_CTL.EN_id (n : Nat) : (SHP_GATE_CTL.EN n).id = 733 ∧ (SHP_GATE_CTL.EN n).ix = n ∧ (SHP_GATE_CTL.EN n).width = 1 := ⟨rfl, rfl, rfl⟩
@[simp] theorem SHP_GATE_CTL.ARM_id (n : Nat) : (SHP_GATE_CTL.ARM n).id = 734 ∧ (SHP_GATE_CTL.ARM n).ix = n ∧ (SHP_GATE_CTL.ARM n).width = 1 := ⟨rfl, rfl, rfl⟩
@[simp] theorem SHP_GATE_CTL.LEN_id (n : Nat) : (SHP_GATE_CTL.LEN n).id = 735 ∧ (SHP_GATE_CTL.LEN n).ix = n ∧ (SHP_GATE_CTL.LEN n).width = 7 := ⟨rfl, rfl, rfl⟩
@[simp] theorem SHP_GATE_STS.LATE_BASE_id (n : Nat) : (SHP_GATE_STS.LATE_BASE n).id = 736 ∧ (SHP_GATE_STS.LATE_BASE n).ix = n ∧ (SHP_GATE_STS.LATE_BASE n).width = 1 := ⟨rfl, rfl, rfl⟩
@[simp] theorem SHP_GATE_STS.PENDING_id (n : Nat) : (SHP_GATE_STS.PENDING n).id = 737 ∧ (SHP_GATE_STS.PENDING n).ix = n ∧ (SHP_GATE_STS.PENDING n).width = 1 := ⟨rfl, rfl, rfl⟩
@[simp] theorem SHP_GATE_STS.OPER_IX_id (n : Nat) : (SHP_GATE_STS.OPER_IX n).id = 738 ∧ (SHP_GATE_STS.OPER_IX n).ix = n ∧ (SHP_GATE_STS.OPER_IX n).width = 6 := ⟨rfl, rfl, rfl⟩
@[simp] theorem SHP_GATE_STS.OPEN_id (n : Nat) : (SHP_GATE_STS.OPEN n).id = 739 ∧ (SHP_GATE_STS.OPEN n).ix = n ∧ (SHP_GATE_STS.OPEN n).width = 8 := ⟨rfl, rfl, rfl⟩
@[simp] theorem SHP_GATE_BASE_NS.NS_id (n : Nat) : (SHP_GATE_BASE_NS.NS n).id = 740 ∧ (SHP_GATE_BASE_NS.NS n).ix = n ∧ (SHP_GATE_BASE_NS.NS n).width = 30 := ⟨rfl, rfl, rfl⟩
@[simp] theorem SHP_GATE_BASE_SL.S_id (n : Nat) : (SHP_GATE_BASE_SL.S n).id = 741 ∧ (SHP_GATE_BASE_SL.S n).ix = n ∧ (SHP_GATE_BASE_SL.S n).width = 32 := ⟨rfl, rfl, rfl⟩
@[simp] theorem SHP_GATE_BASE_SH.S_id (n : Nat) : (SHP_GATE_BASE_SH.S n).id = 742 ∧ (SHP_GATE_BASE_SH.S n).ix = n ∧ (SHP_GATE_BASE_SH.S n).width = 16 := ⟨rfl, rfl, rfl⟩
@[simp] theorem SHP_GATE_CYCLE.NS_id (n : Nat) : (SHP_GATE_CYCLE.NS n).id = 743 ∧ (SHP_GATE_CYCLE.NS n).ix = n ∧ (SHP_GATE_CYCLE.NS n).width = 32 := ⟨rfl, rfl, rfl⟩
@[simp] theorem SHP_GATE_CREV.NS_id (n : Nat) : (SHP_GATE_CREV.NS n).id = 744 ∧ (SHP_GATE_CREV.NS n).ix = n ∧ (SHP_GATE_CREV.NS n).width = 16 := ⟨rfl, rfl, rfl⟩
@[simp] theorem SHP_GATE_AT_NS.NS_id (n : Nat) : (SHP_GATE_AT_NS.NS n).id = 745 ∧ (SHP_GATE_AT_NS.NS n).ix = n ∧ (SHP_GATE_AT_NS.NS n).width = 30 := ⟨rfl, rfl, rfl⟩
@[simp] theorem SHP_GATE_AT_SL.S_id (n : Nat) : (SHP_GATE_AT_SL.S n).id = 746 ∧ (SHP_GATE_AT_SL.S n).ix = n ∧ (SHP_GATE_AT_SL.S n).width = 32 := ⟨rfl, rfl, rfl⟩
@[simp] theorem SHP_GATE_AT_SH.S_id (n : Nat) : (SHP_GATE_AT_SH.S n).id = 747 ∧ (SHP_GATE_AT_SH.S n).ix = n ∧ (SHP_GATE_AT_SH.S n).width = 16 := ⟨rfl, rfl, rfl⟩
@[simp] theorem SHP_GATE_CYCLES_id (n : Nat) : (SHP_GATE_CYCLES n).id = 748 ∧ (SHP_GATE_CYCLES n).ix = n ∧ (SHP_GATE_CYCLES n).width = 32 := ⟨rfl, rfl, rfl⟩
@[simp] theorem SHP_GATE_SWITCHES_id (n : Nat) : (SHP_GATE_SWITCHES n).id = 749 ∧ (SHP_GATE_SWITCHES n).ix = n ∧ (SHP_GATE_SWITCHES n).width = 32 := ⟨rfl, rfl, rfl⟩
@[simp] theorem SHP_GATE_OVERSIZE_id (n : Nat) (i : Nat) : (SHP_GATE_OVERSIZE n i).id = 750 ∧ (SHP_GATE_OVERSIZE n i).ix = n * 8 + i ∧ (SHP_GATE_OVERSIZE n i).width = 32 := ⟨rfl, rfl, rfl⟩
@[simp] theorem SHP_GATE_WAIT_id (n : Nat) : (SHP_GATE_WAIT n).id = 751 ∧ (SHP_GATE_WAIT n).ix = n ∧ (SHP_GATE_WAIT n).width = 32 := ⟨rfl, rfl, rfl⟩
@[simp] theorem SHP_GATE_LATE_id (n : Nat) : (SHP_GATE_LATE n).id = 752 ∧ (SHP_GATE_LATE n).ix = n ∧ (SHP_GATE_LATE n).width = 32 := ⟨rfl, rfl, rfl⟩
@[simp] theorem SHP_EGR_CNT.FRAMES_id (n : Nat) : (SHP_EGR_CNT.FRAMES n).id = 753 ∧ (SHP_EGR_CNT.FRAMES n).ix = n ∧ (SHP_EGR_CNT.FRAMES n).width = 16 := ⟨rfl, rfl, rfl⟩
@[simp] theorem SHP_EGR_PEAK.PEAK_id (n : Nat) : (SHP_EGR_PEAK.PEAK n).id = 754 ∧ (SHP_EGR_PEAK.PEAK n).ix = n ∧ (SHP_EGR_PEAK.PEAK n).width = 16 := ⟨rfl, rfl, rfl⟩
@[simp] theorem TSU_CFG.TC_EN_id : TSU_CFG.TC_EN.id = 755 ∧ TSU_CFG.TC_EN.ix = 0 ∧ TSU_CFG.TC_EN.width = 1 := ⟨rfl, rfl, rfl⟩
@[simp] theorem TSU_CFG.PTP_RING_id : TSU_CFG.PTP_RING.id = 756 ∧ TSU_CFG.PTP_RING.ix = 0 ∧ TSU_CFG.PTP_RING.width = 5 := ⟨rfl, rfl, rfl⟩
@[simp] theorem TSU_CFG.PTP_CLASS_id : TSU_CFG.PTP_CLASS.id = 757 ∧ TSU_CFG.PTP_CLASS.ix = 0 ∧ TSU_CFG.PTP_CLASS.width = 3 := ⟨rfl, rfl, rfl⟩
@[simp] theorem TSU_CFG.COPY_EVT_id : TSU_CFG.COPY_EVT.id = 758 ∧ TSU_CFG.COPY_EVT.ix = 0 ∧ TSU_CFG.COPY_EVT.width = 1 := ⟨rfl, rfl, rfl⟩
@[simp] theorem TSU_STS.REF_id : TSU_STS.REF.id = 759 ∧ TSU_STS.REF.ix = 0 ∧ TSU_STS.REF.width = 1 := ⟨rfl, rfl, rfl⟩
@[simp] theorem TSU_STS.ASN_RUN_id : TSU_STS.ASN_RUN.id = 760 ∧ TSU_STS.ASN_RUN.ix = 0 ∧ TSU_STS.ASN_RUN.width = 1 := ⟨rfl, rfl, rfl⟩
@[simp] theorem TSU_STS.SERVO_id : TSU_STS.SERVO.id = 761 ∧ TSU_STS.SERVO.ix = 0 ∧ TSU_STS.SERVO.width = 3 := ⟨rfl, rfl, rfl⟩
@[simp] theorem TSU_STS.SLEWING_id : TSU_STS.SLEWING.id = 762 ∧ TSU_STS.SLEWING.ix = 0 ∧ TSU_STS.SLEWING.width = 1 := ⟨rfl, rfl, rfl⟩
@[simp] theorem TSU_INT_STS.PATH_STEP_id : TSU_INT_STS.PATH_STEP.id = 763 ∧ TSU_INT_STS.PATH_STEP.ix = 0 ∧ TSU_INT_STS.PATH_STEP.width = 1 := ⟨rfl, rfl, rfl⟩
@[simp] theorem TSU_INT_STS.HOLDOVER_id : TSU_INT_STS.HOLDOVER.id = 764 ∧ TSU_INT_STS.HOLDOVER.ix = 0 ∧ TSU_INT_STS.HOLDOVER.width = 1 := ⟨rfl, rfl, rfl⟩
@[simp] theorem TSU_INT_STS.LOCKED_id : TSU_INT_STS.LOCKED.id = 765 ∧ TSU_INT_STS.LOCKED.ix = 0 ∧ TSU_INT_STS.LOCKED.width = 1 := ⟨rfl, rfl, rfl⟩
@[simp] theorem TSU_INT_STS.OFS_BIG_id : TSU_INT_STS.OFS_BIG.id = 766 ∧ TSU_INT_STS.OFS_BIG.ix = 0 ∧ TSU_INT_STS.OFS_BIG.width = 1 := ⟨rfl, rfl, rfl⟩
@[simp] theorem TSU_INT_STS.STEP_REFUSED_id : TSU_INT_STS.STEP_REFUSED.id = 767 ∧ TSU_INT_STS.STEP_REFUSED.ix = 0 ∧ TSU_INT_STS.STEP_REFUSED.width = 1 := ⟨rfl, rfl, rfl⟩
@[simp] theorem TSU_INT_STS.SLEW_DONE_id : TSU_INT_STS.SLEW_DONE.id = 768 ∧ TSU_INT_STS.SLEW_DONE.ix = 0 ∧ TSU_INT_STS.SLEW_DONE.width = 1 := ⟨rfl, rfl, rfl⟩
@[simp] theorem TSU_INT_STS.PO_LATE_id : TSU_INT_STS.PO_LATE.id = 769 ∧ TSU_INT_STS.PO_LATE.ix = 0 ∧ TSU_INT_STS.PO_LATE.width = 1 := ⟨rfl, rfl, rfl⟩
@[simp] theorem TSU_INT_STS.CI_OVF_id : TSU_INT_STS.CI_OVF.id = 770 ∧ TSU_INT_STS.CI_OVF.ix = 0 ∧ TSU_INT_STS.CI_OVF.width = 1 := ⟨rfl, rfl, rfl⟩
@[simp] theorem TSU_INT_STS.ASN_STARTED_id : TSU_INT_STS.ASN_STARTED.id = 771 ∧ TSU_INT_STS.ASN_STARTED.ix = 0 ∧ TSU_INT_STS.ASN_STARTED.width = 1 := ⟨rfl, rfl, rfl⟩
@[simp] theorem TSU_INT_STS.SYNC_LOSS_id : TSU_INT_STS.SYNC_LOSS.id = 772 ∧ TSU_INT_STS.SYNC_LOSS.ix = 0 ∧ TSU_INT_STS.SYNC_LOSS.width = 1 := ⟨rfl, rfl, rfl⟩
@[simp] theorem TSU_INT_STS.CMD_BAD_id : TSU_INT_STS.CMD_BAD.id = 773 ∧ TSU_INT_STS.CMD_BAD.ix = 0 ∧ TSU_INT_STS.CMD_BAD.width = 1 := ⟨rfl, rfl, rfl⟩
@[simp] theorem TSU_INT_STS.CI_DATA_id : TSU_INT_STS.CI_DATA.id = 774 ∧ TSU_INT_STS.CI_DATA.ix = 0 ∧ TSU_INT_STS.CI_DATA.width = 1 := ⟨rfl, rfl, rfl⟩
@[simp] theorem TSU_INT_EN.PATH_STEP_id : TSU_INT_EN.PATH_STEP.id = 775 ∧ TSU_INT_EN.PATH_STEP.ix = 0 ∧ TSU_INT_EN.PATH_STEP.width = 1 := ⟨rfl, rfl, rfl⟩
@[simp] theorem TSU_INT_EN.HOLDOVER_id : TSU_INT_EN.HOLDOVER.id = 776 ∧ TSU_INT_EN.HOLDOVER.ix = 0 ∧ TSU_INT_EN.HOLDOVER.width = 1 := ⟨rfl, rfl, rfl⟩
@[simp] theorem TSU_INT_EN.LOCKED_id : TSU_INT_EN.LOCKED.id = 777 ∧ TSU_INT_EN.LOCKED.ix = 0 ∧ TSU_INT_EN.LOCKED.width = 1 := ⟨rfl, rfl, rfl⟩
@[simp] theorem TSU_INT_EN.OFS_BIG_id : TSU_INT_EN.OFS_BIG.id = 778 ∧ TSU_INT_EN.OFS_BIG.ix = 0 ∧ TSU_INT_EN.OFS_BIG.width = 1 := ⟨rfl, rfl, rfl⟩
@[simp] theorem TSU_INT_EN.STEP_REFUSED_id : TSU_INT_EN.STEP_REFUSED.id = 779 ∧ TSU_INT_EN.STEP_REFUSED.ix = 0 ∧ TSU_INT_EN.STEP_REFUSED.width = 1 := ⟨rfl, rfl, rfl⟩
@[simp] theorem TSU_INT_EN.SLEW_DONE_id : TSU_INT_EN.SLEW_DONE.id = 780 ∧ TSU_INT_EN.SLEW_DONE.ix = 0 ∧ TSU_INT_EN.SLEW_DONE.width = 1 := ⟨rfl, rfl, rfl⟩
@[simp] theorem TSU_INT_EN.PO_LATE_id : TSU_INT_EN.PO_LATE.id = 781 ∧ TSU_INT_EN.PO_LATE.ix = 0 ∧ TSU_INT_EN.PO_LATE.width = 1 := ⟨rfl, rfl, rfl⟩
@[simp] theorem TSU_INT_EN.CI_OVF_id : TSU_INT_EN.CI_OVF.id = 782 ∧ TSU_INT_EN.CI_OVF.ix = 0 ∧ TSU_INT_EN.CI_OVF.width = 1 := ⟨rfl, rfl, rfl⟩
@[simp] theorem TSU_INT_EN.ASN_STARTED_id : TSU_INT_EN.ASN_STARTED.id = 783 ∧ TSU_INT_EN.ASN_STARTED.ix = 0 ∧ TSU_INT_EN.ASN_STARTED.width = 1 := ⟨rfl, rfl, rfl⟩
@[simp] theorem TSU_INT_EN.SYNC_LOSS_id : TSU_INT_EN.SYNC_LOSS.id = 784 ∧ TSU_INT_EN.SYNC_LOSS.ix = 0 ∧ TSU_INT_EN.SYNC_LOSS.width = 1 := ⟨rfl, rfl, rfl⟩
@[simp] theorem TSU_INT_EN.CMD_BAD_id : TSU_INT_EN.CMD_BAD.id = 785 ∧ TSU_INT_EN.CMD_BAD.ix = 0 ∧ TSU_INT_EN.CMD_BAD.width = 1 := ⟨rfl, rfl, rfl⟩
@[simp] theorem TSU_INT_EN.CI_DATA_id : TSU_INT_EN.CI_DATA.id = 786 ∧ TSU_INT_EN.CI_DATA.ix = 0 ∧ TSU_INT_EN.CI_DATA.width = 1 := ⟨rfl, rfl, rfl⟩
@[simp] theorem TSU_NS_LO.RC_id : TSU_NS_LO.RC.id = 787 ∧ TSU_NS_LO.RC.ix = 0 ∧ TSU_NS_LO.RC.width = 32 := ⟨rfl, rfl, rfl⟩
@[simp] theorem TSU_NS_HI.RC_id : TSU_NS_HI.RC.id = 788 ∧ TSU_NS_HI.RC.ix = 0 ∧ TSU_NS_HI.RC.width = 16 := ⟨rfl, rfl, rfl⟩
@[simp] theorem TSU_EPOCH.RC_id : TSU_EPOCH.RC.id = 789 ∧ TSU_EPOCH.RC.ix = 0 ∧ TSU_EPOCH.RC.width = 16 := ⟨rfl, rfl, rfl⟩
@[simp] theorem TSU_MAP_NS.NS_id : TSU_MAP_NS.NS.id = 790 ∧ TSU_MAP_NS.NS.ix = 0 ∧ TSU_MAP_NS.NS.width = 30 := ⟨rfl, rfl, rfl⟩
@[simp] theorem TSU_MAP_SL.S_id : TSU_MAP_SL.S.id = 791 ∧ TSU_MAP_SL.S.ix = 0 ∧ TSU_MAP_SL.S.width = 32 := ⟨rfl, rfl, rfl⟩
@[simp] theorem TSU_MAP_SH.S_id : TSU_MAP_SH.S.id = 792 ∧ TSU_MAP_SH.S.ix = 0 ∧ TSU_MAP_SH.S.width = 16 := ⟨rfl, rfl, rfl⟩
@[simp] theorem TSU_TIME_NS.NS_id : TSU_TIME_NS.NS.id = 793 ∧ TSU_TIME_NS.NS.ix = 0 ∧ TSU_TIME_NS.NS.width = 30 := ⟨rfl, rfl, rfl⟩
@[simp] theorem TSU_TIME_SL.S_id : TSU_TIME_SL.S.id = 794 ∧ TSU_TIME_SL.S.ix = 0 ∧ TSU_TIME_SL.S.width = 32 := ⟨rfl, rfl, rfl⟩
@[simp] theorem TSU_TIME_SH.S_id : TSU_TIME_SH.S.id = 795 ∧ TSU_TIME_SH.S.ix = 0 ∧ TSU_TIME_SH.S.width = 16 := ⟨rfl, rfl, rfl⟩
@[simp] theorem TSU_FREQ.FREQ_id : TSU_FREQ.FREQ.id = 796 ∧ TSU_FREQ.FREQ.ix = 0 ∧ TSU_FREQ.FREQ.width = 32 := ⟨rfl, rfl, rfl⟩
@[simp] theorem TSU_STEP_NS.NS_id : TSU_STEP_NS.NS.id = 797 ∧ TSU_STEP_NS.NS.ix = 0 ∧ TSU_STEP_NS.NS.width = 32 := ⟨rfl, rfl, rfl⟩
@[simp] theorem TSU_STEP_S.S_id : TSU_STEP_S.S.id = 798 ∧ TSU_STEP_S.S.ix = 0 ∧ TSU_STEP_S.S.width = 32 := ⟨rfl, rfl, rfl⟩
@[simp] theorem TSU_STEP_CTL.STEP_id : TSU_STEP_CTL.STEP.id = 799 ∧ TSU_STEP_CTL.STEP.ix = 0 ∧ TSU_STEP_CTL.STEP.width = 1 := ⟨rfl, rfl, rfl⟩
@[simp] theorem TSU_STEP_CTL.SET_id : TSU_STEP_CTL.SET.id = 800 ∧ TSU_STEP_CTL.SET.ix = 0 ∧ TSU_STEP_CTL.SET.width = 1 := ⟨rfl, rfl, rfl⟩
@[simp] theorem TSU_STEP_CTL.BAD_id : TSU_STEP_CTL.BAD.id = 801 ∧ TSU_STEP_CTL.BAD.ix = 0 ∧ TSU_STEP_CTL.BAD.width = 1 := ⟨rfl, rfl, rfl⟩
@[simp] theorem TSU_SET_NS.NS_id : TSU_SET_NS.NS.id = 802 ∧ TSU_SET_NS.NS.ix = 0 ∧ TSU_SET_NS.NS.width = 30 := ⟨rfl, rfl, rfl⟩
@[simp] theorem TSU_SET_SL.S_id : TSU_SET_SL.S.id = 803 ∧ TSU_SET_SL.S.ix = 0 ∧ TSU_SET_SL.S.width = 32 := ⟨rfl, rfl, rfl⟩
@[simp] theorem TSU_SET_SH.S_id : TSU_SET_SH.S.id = 804 ∧ TSU_SET_SH.S.ix = 0 ∧ TSU_SET_SH.S.width = 16 := ⟨rfl, rfl, rfl⟩
@[simp] theorem TSU_SLEW_NS.NS_id : TSU_SLEW_NS.NS.id = 805 ∧ TSU_SLEW_NS.NS.ix = 0 ∧ TSU_SLEW_NS.NS.width = 32 := ⟨rfl, rfl, rfl⟩
@[simp] theorem TSU_SLEW_CTL.GO_id : TSU_SLEW_CTL.GO.id = 806 ∧ TSU_SLEW_CTL.GO.ix = 0 ∧ TSU_SLEW_CTL.GO.width = 1 := ⟨rfl, rfl, rfl⟩
@[simp] theorem TSU_SLEW_CTL.ABORT_id : TSU_SLEW_CTL.ABORT.id = 807 ∧ TSU_SLEW_CTL.ABORT.ix = 0 ∧ TSU_SLEW_CTL.ABORT.width = 1 := ⟨rfl, rfl, rfl⟩
@[simp] theorem TSU_SLEW_CTL.BAD_id : TSU_SLEW_CTL.BAD.id = 808 ∧ TSU_SLEW_CTL.BAD.ix = 0 ∧ TSU_SLEW_CTL.BAD.width = 1 := ⟨rfl, rfl, rfl⟩
@[simp] theorem TSU_SLEW_CFG.PPB_id : TSU_SLEW_CFG.PPB.id = 809 ∧ TSU_SLEW_CFG.PPB.ix = 0 ∧ TSU_SLEW_CFG.PPB.width = 17 := ⟨rfl, rfl, rfl⟩
@[simp] theorem TSU_ASN_CTL.START_id : TSU_ASN_CTL.START.id = 810 ∧ TSU_ASN_CTL.START.ix = 0 ∧ TSU_ASN_CTL.START.width = 1 := ⟨rfl, rfl, rfl⟩
@[simp] theorem TSU_ASN_CTL.STOP_id : TSU_ASN_CTL.STOP.id = 811 ∧ TSU_ASN_CTL.STOP.ix = 0 ∧ TSU_ASN_CTL.STOP.width = 1 := ⟨rfl, rfl, rfl⟩
@[simp] theorem TSU_ASN_CTL.BAD_id : TSU_ASN_CTL.BAD.id = 812 ∧ TSU_ASN_CTL.BAD.ix = 0 ∧ TSU_ASN_CTL.BAD.width = 1 := ⟨rfl, rfl, rfl⟩
@[simp] theorem TSU_ASN_T0_NS.NS_id : TSU_ASN_T0_NS.NS.id = 813 ∧ TSU_ASN_T0_NS.NS.ix = 0 ∧ TSU_ASN_T0_NS.NS.width = 30 := ⟨rfl, rfl, rfl⟩
@[simp] theorem TSU_ASN_T0_SL.S_id : TSU_ASN_T0_SL.S.id = 814 ∧ TSU_ASN_T0_SL.S.ix = 0 ∧ TSU_ASN_T0_SL.S.width = 32 := ⟨rfl, rfl, rfl⟩
@[simp] theorem TSU_ASN_T0_SH.S_id : TSU_ASN_T0_SH.S.id = 815 ∧ TSU_ASN_T0_SH.S.ix = 0 ∧ TSU_ASN_T0_SH.S.width = 16 := ⟨rfl, rfl, rfl⟩
@[simp] theorem TSU_ASN_BASE_LO.ASN_id : TSU_ASN_BASE_LO.ASN.id = 816 ∧ TSU_ASN_BASE_LO.ASN.ix = 0 ∧ TSU_ASN_BASE_LO.ASN.width = 32 := ⟨rfl, rfl, rfl⟩
@[simp] theorem TSU_ASN_BASE_HI.ASN_id : TSU_ASN_BASE_HI.ASN.id = 817 ∧ TSU_ASN_BASE_HI.ASN.ix = 0 ∧ TSU_ASN_BASE_HI.ASN.width = 8 := ⟨rfl, rfl, rfl⟩
@[simp] theorem TSU_ASN_NEXT_NS.NS_id : TSU_ASN_NEXT_NS.NS.id = 818 ∧ TSU_ASN_NEXT_NS.NS.ix = 0 ∧ TSU_ASN_NEXT_NS.NS.width = 30 := ⟨rfl, rfl, rfl⟩
@[simp] theorem TSU_ASN_NEXT_SL.S_id : TSU_ASN_NEXT_SL.S.id = 819 ∧ TSU_ASN_NEXT_SL.S.ix = 0 ∧ TSU_ASN_NEXT_SL.S.width = 32 := ⟨rfl, rfl, rfl⟩
@[simp] theorem TSU_ASN_STS.RUN_id : TSU_ASN_STS.RUN.id = 820 ∧ TSU_ASN_STS.RUN.ix = 0 ∧ TSU_ASN_STS.RUN.width = 1 := ⟨rfl, rfl, rfl⟩
@[simp] theorem TSU_ASN_STS.STOP_PEND_id : TSU_ASN_STS.STOP_PEND.id = 821 ∧ TSU_ASN_STS.STOP_PEND.ix = 0 ∧ TSU_ASN_STS.STOP_PEND.width = 1 := ⟨rfl, rfl, rfl⟩
@[simp] theorem TSU_ASN_STS.START_PEND_id : TSU_ASN_STS.START_PEND.id = 822 ∧ TSU_ASN_STS.START_PEND.ix = 0 ∧ TSU_ASN_STS.START_PEND.width = 1 := ⟨rfl, rfl, rfl⟩
@[simp] theorem TSU_ASN_STS.LEN_US_id : TSU_ASN_STS.LEN_US.id = 823 ∧ TSU_ASN_STS.LEN_US.ix = 0 ∧ TSU_ASN_STS.LEN_US.width = 18 := ⟨rfl, rfl, rfl⟩
@[simp] theorem TSU_SERVO_CFG.EN_id : TSU_SERVO_CFG.EN.id = 824 ∧ TSU_SERVO_CFG.EN.ix = 0 ∧ TSU_SERVO_CFG.EN.width = 1 := ⟨rfl, rfl, rfl⟩
@[simp] theorem TSU_SERVO_CFG.SRC_id : TSU_SERVO_CFG.SRC.id = 825 ∧ TSU_SERVO_CFG.SRC.ix = 0 ∧ TSU_SERVO_CFG.SRC.width = 3 := ⟨rfl, rfl, rfl⟩
@[simp] theorem TSU_SERVO_CFG.STEP_EN_id : TSU_SERVO_CFG.STEP_EN.id = 826 ∧ TSU_SERVO_CFG.STEP_EN.ix = 0 ∧ TSU_SERVO_CFG.STEP_EN.width = 1 := ⟨rfl, rfl, rfl⟩
@[simp] theorem TSU_SERVO_CTL.CMD_id : TSU_SERVO_CTL.CMD.id = 827 ∧ TSU_SERVO_CTL.CMD.ix = 0 ∧ TSU_SERVO_CTL.CMD.width = 2 := ⟨rfl, rfl, rfl⟩
@[simp] theorem TSU_SERVO_CTL.CMD_BAD_id : TSU_SERVO_CTL.CMD_BAD.id = 828 ∧ TSU_SERVO_CTL.CMD_BAD.ix = 0 ∧ TSU_SERVO_CTL.CMD_BAD.width = 1 := ⟨rfl, rfl, rfl⟩
@[simp] theorem TSU_SERVO_STS.STATE_id : TSU_SERVO_STS.STATE.id = 829 ∧ TSU_SERVO_STS.STATE.ix = 0 ∧ TSU_SERVO_STS.STATE.width = 3 := ⟨rfl, rfl, rfl⟩
@[simp] theorem TSU_SERVO_STS.STEP_KIND_id : TSU_SERVO_STS.STEP_KIND.id = 830 ∧ TSU_SERVO_STS.STEP_KIND.ix = 0 ∧ TSU_SERVO_STS.STEP_KIND.width = 1 := ⟨rfl, rfl, rfl⟩
@[simp] theorem TSU_SERVO_STS.OFS_BIG_id : TSU_SERVO_STS.OFS_BIG.id = 831 ∧ TSU_SERVO_STS.OFS_BIG.ix = 0 ∧ TSU_SERVO_STS.OFS_BIG.width = 1 := ⟨rfl, rfl, rfl⟩
@[simp] theorem TSU_SERVO_STS.CAUSE_id : TSU_SERVO_STS.CAUSE.id = 832 ∧ TSU_SERVO_STS.CAUSE.ix = 0 ∧ TSU_SERVO_STS.CAUSE.width = 1 := ⟨rfl, rfl, rfl⟩
@[simp] theorem TSU_SERVO_STS.OFS_RUN_id : TSU_SERVO_STS.OFS_RUN.id = 833 ∧ TSU_SERVO_STS.OFS_RUN.ix = 0 ∧ TSU_SERVO_STS.OFS_RUN.width = 5 := ⟨rfl, rfl, rfl⟩
@[simp] theorem TSU_SERVO_STS.PD_RUN_id : TSU_SERVO_STS.PD_RUN.id = 834 ∧ TSU_SERVO_STS.PD_RUN.ix = 0 ∧ TSU_SERVO_STS.PD_RUN.width = 5 := ⟨rfl, rfl, rfl⟩
@[simp] theorem TSU_SERVO_KP.KP_id : TSU_SERVO_KP.KP.id = 835 ∧ TSU_SERVO_KP.KP.ix = 0 ∧ TSU_SERVO_KP.KP.width = 20 := ⟨rfl, rfl, rfl⟩
@[simp] theorem TSU_SERVO_KI.KI_id : TSU_SERVO_KI.KI.id = 836 ∧ TSU_SERVO_KI.KI.ix = 0 ∧ TSU_SERVO_KI.KI.width = 20 := ⟨rfl, rfl, rfl⟩
@[simp] theorem TSU_SERVO_LIM.FREQ_MAX_id : TSU_SERVO_LIM.FREQ_MAX.id = 837 ∧ TSU_SERVO_LIM.FREQ_MAX.ix = 0 ∧ TSU_SERVO_LIM.FREQ_MAX.width = 18 := ⟨rfl, rfl, rfl⟩
@[simp] theorem TSU_SERVO_STEP_THR.NS_id : TSU_SERVO_STEP_THR.NS.id = 838 ∧ TSU_SERVO_STEP_THR.NS.ix = 0 ∧ TSU_SERVO_STEP_THR.NS.width = 32 := ⟨rfl, rfl, rfl⟩
@[simp] theorem TSU_SERVO_LOCK_CFG.LOCK_THR_id : TSU_SERVO_LOCK_CFG.LOCK_THR.id = 839 ∧ TSU_SERVO_LOCK_CFG.LOCK_THR.ix = 0 ∧ TSU_SERVO_LOCK_CFG.LOCK_THR.width = 16 := ⟨rfl, rfl, rfl⟩
@[simp] theorem TSU_SERVO_LOCK_CFG.LOCK_N_id : TSU_SERVO_LOCK_CFG.LOCK_N.id = 840 ∧ TSU_SERVO_LOCK_CFG.LOCK_N.ix = 0 ∧ TSU_SERVO_LOCK_CFG.LOCK_N.width = 8 := ⟨rfl, rfl, rfl⟩
@[simp] theorem TSU_SERVO_PD_CFG.PD_STEP_LIMIT_id : TSU_SERVO_PD_CFG.PD_STEP_LIMIT.id = 841 ∧ TSU_SERVO_PD_CFG.PD_STEP_LIMIT.ix = 0 ∧ TSU_SERVO_PD_CFG.PD_STEP_LIMIT.width = 20 := ⟨rfl, rfl, rfl⟩
@[simp] theorem TSU_SERVO_PD_CFG.PD_STEP_N_id : TSU_SERVO_PD_CFG.PD_STEP_N.id = 842 ∧ TSU_SERVO_PD_CFG.PD_STEP_N.ix = 0 ∧ TSU_SERVO_PD_CFG.PD_STEP_N.width = 4 := ⟨rfl, rfl, rfl⟩
@[simp] theorem TSU_SERVO_PD_CFG.PD_SHIFT_id : TSU_SERVO_PD_CFG.PD_SHIFT.id = 843 ∧ TSU_SERVO_PD_CFG.PD_SHIFT.ix = 0 ∧ TSU_SERVO_PD_CFG.PD_SHIFT.width = 4 := ⟨rfl, rfl, rfl⟩
@[simp] theorem TSU_SERVO_ASYM.NS_id : TSU_SERVO_ASYM.NS.id = 844 ∧ TSU_SERVO_ASYM.NS.ix = 0 ∧ TSU_SERVO_ASYM.NS.width = 32 := ⟨rfl, rfl, rfl⟩
@[simp] theorem TSU_SERVO_OFS.NS_id : TSU_SERVO_OFS.NS.id = 845 ∧ TSU_SERVO_OFS.NS.ix = 0 ∧ TSU_SERVO_OFS.NS.width = 32 := ⟨rfl, rfl, rfl⟩
@[simp] theorem TSU_SERVO_MPD.NS_id : TSU_SERVO_MPD.NS.id = 846 ∧ TSU_SERVO_MPD.NS.ix = 0 ∧ TSU_SERVO_MPD.NS.width = 32 := ⟨rfl, rfl, rfl⟩
@[simp] theorem TSU_SERVO_MPD_RAW.NS_id : TSU_SERVO_MPD_RAW.NS.id = 847 ∧ TSU_SERVO_MPD_RAW.NS.ix = 0 ∧ TSU_SERVO_MPD_RAW.NS.width = 32 := ⟨rfl, rfl, rfl⟩
@[simp] theorem TSU_SERVO_INT.PPB_id : TSU_SERVO_INT.PPB.id = 848 ∧ TSU_SERVO_INT.PPB.ix = 0 ∧ TSU_SERVO_INT.PPB.width = 32 := ⟨rfl, rfl, rfl⟩
@[simp] theorem TSU_SERVO_HOLD_FREQ.PPB_id : TSU_SERVO_HOLD_FREQ.PPB.id = 849 ∧ TSU_SERVO_HOLD_FREQ.PPB.ix = 0 ∧ TSU_SERVO_HOLD_FREQ.PPB.width = 32 := ⟨rfl, rfl, rfl⟩
@[simp] theorem TSU_SERVO_OFS_PEAK.NS_id : TSU_SERVO_OFS_PEAK.NS.id = 850 ∧ TSU_SERVO_OFS_PEAK.NS.ix = 0 ∧ TSU_SERVO_OFS_PEAK.NS.width = 32 := ⟨rfl, rfl, rfl⟩
@[simp] theorem TSU_SERVO_EXT_OFS.NS_id : TSU_SERVO_EXT_OFS.NS.id = 851 ∧ TSU_SERVO_EXT_OFS.NS.ix = 0 ∧ TSU_SERVO_EXT_OFS.NS.width = 32 := ⟨rfl, rfl, rfl⟩
@[simp] theorem TSU_SERVO_HOLD_CFG.HOLD_AVG_S_id : TSU_SERVO_HOLD_CFG.HOLD_AVG_S.id = 852 ∧ TSU_SERVO_HOLD_CFG.HOLD_AVG_S.ix = 0 ∧ TSU_SERVO_HOLD_CFG.HOLD_AVG_S.width = 10 := ⟨rfl, rfl, rfl⟩
@[simp] theorem TSU_SERVO_HOLD_CFG.LOSS_S_id : TSU_SERVO_HOLD_CFG.LOSS_S.id = 853 ∧ TSU_SERVO_HOLD_CFG.LOSS_S.ix = 0 ∧ TSU_SERVO_HOLD_CFG.LOSS_S.width = 8 := ⟨rfl, rfl, rfl⟩
@[simp] theorem TSU_PPS_CFG.PPS_OFS_id : TSU_PPS_CFG.PPS_OFS.id = 854 ∧ TSU_PPS_CFG.PPS_OFS.ix = 0 ∧ TSU_PPS_CFG.PPS_OFS.width = 24 := ⟨rfl, rfl, rfl⟩
@[simp] theorem TSU_PPS_STS.EDGES_id : TSU_PPS_STS.EDGES.id = 855 ∧ TSU_PPS_STS.EDGES.ix = 0 ∧ TSU_PPS_STS.EDGES.width = 16 := ⟨rfl, rfl, rfl⟩
@[simp] theorem TSU_SYNC_USED_id : TSU_SYNC_USED.id = 856 ∧ TSU_SYNC_USED.ix = 0 ∧ TSU_SYNC_USED.width = 32 := ⟨rfl, rfl, rfl⟩
@[simp] theorem TSU_OFS_WITHHELD_id : TSU_OFS_WITHHELD.id = 857 ∧ TSU_OFS_WITHHELD.ix = 0 ∧ TSU_OFS_WITHHELD.width = 32 := ⟨rfl, rfl, rfl⟩
@[simp] theorem TSU_PD_SAMPLES_id : TSU_PD_SAMPLES.id = 858 ∧ TSU_PD_SAMPLES.ix = 0 ∧ TSU_PD_SAMPLES.width = 32 := ⟨rfl, rfl, rfl⟩
@[simp] theorem TSU_PD_WITHHELD_id : TSU_PD_WITHHELD.id = 859 ∧ TSU_PD_WITHHELD.ix = 0 ∧ TSU_PD_WITHHELD.width = 32 := ⟨rfl, rfl, rfl⟩
@[simp] theorem TSU_PATH_STEPS_id : TSU_PATH_STEPS.id = 860 ∧ TSU_PATH_STEPS.ix = 0 ∧ TSU_PATH_STEPS.width = 32 := ⟨rfl, rfl, rfl⟩
@[simp] theorem TSU_HOLDOVERS_id : TSU_HOLDOVERS.id = 861 ∧ TSU_HOLDOVERS.ix = 0 ∧ TSU_HOLDOVERS.width = 32 := ⟨rfl, rfl, rfl⟩
@[simp] theorem TSU_STEPS_id : TSU_STEPS.id = 862 ∧ TSU_STEPS.ix = 0 ∧ TSU_STEPS.width = 32 := ⟨rfl, rfl, rfl⟩
@[simp] theorem TSU_STEP_REFUSED_id : TSU_STEP_REFUSED.id = 863 ∧ TSU_STEP_REFUSED.ix = 0 ∧ TSU_STEP_REFUSED.width = 32 := ⟨rfl, rfl, rfl⟩
@[simp] theorem TSU_SLEWS_id : TSU_SLEWS.id = 864 ∧ TSU_SLEWS.ix = 0 ∧ TSU_SLEWS.width = 32 := ⟨rfl, rfl, rfl⟩
@[simp] theorem TSU_FUP_MISS_id : TSU_FUP_MISS.id = 865 ∧ TSU_FUP_MISS.ix = 0 ∧ TSU_FUP_MISS.width = 32 := ⟨rfl, rfl, rfl⟩
@[simp] theorem TSU_DRESP_TIMEOUT_id : TSU_DRESP_TIMEOUT.id = 866 ∧ TSU_DRESP_TIMEOUT.ix = 0 ∧ TSU_DRESP_TIMEOUT.width = 32 := ⟨rfl, rfl, rfl⟩
@[simp] theorem TSU_HOST_SAMPLES_id : TSU_HOST_SAMPLES.id = 867 ∧ TSU_HOST_SAMPLES.ix = 0 ∧ TSU_HOST_SAMPLES.width = 32 := ⟨rfl, rfl, rfl⟩
@[simp] theorem TSU_P_CFG.EN_id (n : Nat) : (TSU_P_CFG.EN n).id = 868 ∧ (TSU_P_CFG.EN n).ix = n ∧ (TSU_P_CFG.EN n).width = 1 := ⟨rfl, rfl, rfl⟩
@[simp] theorem TSU_P_CFG.ROLE_id (n : Nat) : (TSU_P_CFG.ROLE n).id = 869 ∧ (TSU_P_CFG.ROLE n).ix = n ∧ (TSU_P_CFG.ROLE n).width = 2 := ⟨rfl, rfl, rfl⟩
@[simp] theorem TSU_P_CFG.TWO_STEP_id (n : Nat) : (TSU_P_CFG.TWO_STEP n).id = 870 ∧ (TSU_P_CFG.TWO_STEP n).ix = n ∧ (TSU_P_CFG.TWO_STEP n).width = 1 := ⟨rfl, rfl, rfl⟩
@[simp] theorem TSU_P_CFG.DOMAIN_id (n : Nat) : (TSU_P_CFG.DOMAIN n).id = 871 ∧ (TSU_P_CFG.DOMAIN n).ix = n ∧ (TSU_P_CFG.DOMAIN n).width = 8 := ⟨rfl, rfl, rfl⟩
@[simp] theorem TSU_P_CFG.VLAN_id (n : Nat) : (TSU_P_CFG.VLAN n).id = 872 ∧ (TSU_P_CFG.VLAN n).ix = n ∧ (TSU_P_CFG.VLAN n).width = 12 := ⟨rfl, rfl, rfl⟩
@[simp] theorem TSU_P_CFG.VLAN_EN_id (n : Nat) : (TSU_P_CFG.VLAN_EN n).id = 873 ∧ (TSU_P_CFG.VLAN_EN n).ix = n ∧ (TSU_P_CFG.VLAN_EN n).width = 1 := ⟨rfl, rfl, rfl⟩
@[simp] theorem TSU_P_CFG.PCP_id (n : Nat) : (TSU_P_CFG.PCP n).id = 874 ∧ (TSU_P_CFG.PCP n).ix = n ∧ (TSU_P_CFG.PCP n).width = 3 := ⟨rfl, rfl, rfl⟩
@[simp] theorem TSU_P_STS.TS_OK_id (n : Nat) : (TSU_P_STS.TS_OK n).id = 875 ∧ (TSU_P_STS.TS_OK n).ix = n ∧ (TSU_P_STS.TS_OK n).width = 1 := ⟨rfl, rfl, rfl⟩
@[simp] theorem TSU_P_STS.PAR_SEEN_id (n : Nat) : (TSU_P_STS.PAR_SEEN n).id = 876 ∧ (TSU_P_STS.PAR_SEEN n).ix = n ∧ (TSU_P_STS.PAR_SEEN n).width = 1 := ⟨rfl, rfl, rfl⟩
@[simp] theorem TSU_P_CLK_LO.ID_id (n : Nat) : (TSU_P_CLK_LO.ID n).id = 877 ∧ (TSU_P_CLK_LO.ID n).ix = n ∧ (TSU_P_CLK_LO.ID n).width = 32 := ⟨rfl, rfl, rfl⟩
@[simp] theorem TSU_P_CLK_HI.ID_id (n : Nat) : (TSU_P_CLK_HI.ID n).id = 878 ∧ (TSU_P_CLK_HI.ID n).ix = n ∧ (TSU_P_CLK_HI.ID n).width = 32 := ⟨rfl, rfl, rfl⟩
@[simp] theorem TSU_P_NUM.PORT_id (n : Nat) : (TSU_P_NUM.PORT n).id = 879 ∧ (TSU_P_NUM.PORT n).ix = n ∧ (TSU_P_NUM.PORT n).width = 16 := ⟨rfl, rfl, rfl⟩
@[simp] theorem TSU_P_PAR_LO.ID_id (n : Nat) : (TSU_P_PAR_LO.ID n).id = 880 ∧ (TSU_P_PAR_LO.ID n).ix = n ∧ (TSU_P_PAR_LO.ID n).width = 32 := ⟨rfl, rfl, rfl⟩
@[simp] theorem TSU_P_PAR_HI.ID_id (n : Nat) : (TSU_P_PAR_HI.ID n).id = 881 ∧ (TSU_P_PAR_HI.ID n).ix = n ∧ (TSU_P_PAR_HI.ID n).width = 32 := ⟨rfl, rfl, rfl⟩
@[simp] theorem TSU_P_PAR_NUM.PORT_id (n : Nat) : (TSU_P_PAR_NUM.PORT n).id = 882 ∧ (TSU_P_PAR_NUM.PORT n).ix = n ∧ (TSU_P_PAR_NUM.PORT n).width = 16 := ⟨rfl, rfl, rfl⟩
@[simp] theorem TSU_P_INTERVAL.LOG_SYNC_id (n : Nat) : (TSU_P_INTERVAL.LOG_SYNC n).id = 883 ∧ (TSU_P_INTERVAL.LOG_SYNC n).ix = n ∧ (TSU_P_INTERVAL.LOG_SYNC n).width = 4 := ⟨rfl, rfl, rfl⟩
@[simp] theorem TSU_P_INTERVAL.LOG_DREQ_id (n : Nat) : (TSU_P_INTERVAL.LOG_DREQ n).id = 884 ∧ (TSU_P_INTERVAL.LOG_DREQ n).ix = n ∧ (TSU_P_INTERVAL.LOG_DREQ n).width = 4 := ⟨rfl, rfl, rfl⟩
@[simp] theorem TSU_P_ING_LAT.NS_id (n : Nat) : (TSU_P_ING_LAT.NS n).id = 885 ∧ (TSU_P_ING_LAT.NS n).ix = n ∧ (TSU_P_ING_LAT.NS n).width = 16 := ⟨rfl, rfl, rfl⟩
@[simp] theorem TSU_P_EGR_LAT.NS_id (n : Nat) : (TSU_P_EGR_LAT.NS n).id = 886 ∧ (TSU_P_EGR_LAT.NS n).ix = n ∧ (TSU_P_EGR_LAT.NS n).width = 16 := ⟨rfl, rfl, rfl⟩
@[simp] theorem TSU_P_ASYM.NS_id (n : Nat) : (TSU_P_ASYM.NS n).id = 887 ∧ (TSU_P_ASYM.NS n).ix = n ∧ (TSU_P_ASYM.NS n).width = 32 := ⟨rfl, rfl, rfl⟩
@[simp] theorem TSU_P_RES_LAST.NS_id (n : Nat) : (TSU_P_RES_LAST.NS n).id = 888 ∧ (TSU_P_RES_LAST.NS n).ix = n ∧ (TSU_P_RES_LAST.NS n).width = 32 := ⟨rfl, rfl, rfl⟩
@[simp] theorem TSU_P_RES_PEAK.NS_id (n : Nat) : (TSU_P_RES_PEAK.NS n).id = 889 ∧ (TSU_P_RES_PEAK.NS n).ix = n ∧ (TSU_P_RES_PEAK.NS n).width = 32 := ⟨rfl, rfl, rfl⟩
@[simp] theorem TSU_P_RX_EVENT_id (n : Nat) : (TSU_P_RX_EVENT n).id = 890 ∧ (TSU_P_RX_EVENT n).ix = n ∧ (TSU_P_RX_EVENT n).width = 32 := ⟨rfl, rfl, rfl⟩
@[simp] theorem TSU_P_TX_EVENT_id (n : Nat) : (TSU_P_TX_EVENT n).id = 891 ∧ (TSU_P_TX_EVENT n).ix = n ∧ (TSU_P_TX_EVENT n).width = 32 := ⟨rfl, rfl, rfl⟩
@[simp] theorem TSU_P_RX_GENERAL_id (n : Nat) : (TSU_P_RX_GENERAL n).id = 892 ∧ (TSU_P_RX_GENERAL n).ix = n ∧ (TSU_P_RX_GENERAL n).width = 32 := ⟨rfl, rfl, rfl⟩
@[simp] theorem TSU_P_SYNC_RX_id (n : Nat) : (TSU_P_SYNC_RX n).id = 893 ∧ (TSU_P_SYNC_RX n).ix = n ∧ (TSU_P_SYNC_RX n).width = 32 := ⟨rfl, rfl, rfl⟩
@[simp] theorem TSU_P_SYNC_TX_id (n : Nat) : (TSU_P_SYNC_TX n).id = 894 ∧ (TSU_P_SYNC_TX n).ix = n ∧ (TSU_P_SYNC_TX n).width = 32 := ⟨rfl, rfl, rfl⟩
@[simp] theorem TSU_P_FUP_TX_id (n : Nat) : (TSU_P_FUP_TX n).id = 895 ∧ (TSU_P_FUP_TX n).ix = n ∧ (TSU_P_FUP_TX n).width = 32 := ⟨rfl, rfl, rfl⟩
@[simp] theorem TSU_P_DREQ_TX_id (n : Nat) : (TSU_P_DREQ_TX n).id = 896 ∧ (TSU_P_DREQ_TX n).ix = n ∧ (TSU_P_DREQ_TX n).width = 32 := ⟨rfl, rfl, rfl⟩
@[simp] theorem TSU_P_DREQ_RX_id (n : Nat) : (TSU_P_DREQ_RX n).id = 897 ∧ (TSU_P_DREQ_RX n).ix = n ∧ (TSU_P_DREQ_RX n).width = 32 := ⟨rfl, rfl, rfl⟩
@[simp] theorem TSU_P_DRESP_TX_id (n : Nat) : (TSU_P_DRESP_TX n).id = 898 ∧ (TSU_P_DRESP_TX n).ix = n ∧ (TSU_P_DRESP_TX n).width = 32 := ⟨rfl, rfl, rfl⟩
@[simp] theorem TSU_P_DRESP_RX_id (n : Nat) : (TSU_P_DRESP_RX n).id = 899 ∧ (TSU_P_DRESP_RX n).ix = n ∧ (TSU_P_DRESP_RX n).width = 32 := ⟨rfl, rfl, rfl⟩
@[simp] theorem TSU_P_FOREIGN_id (n : Nat) : (TSU_P_FOREIGN n).id = 900 ∧ (TSU_P_FOREIGN n).ix = n ∧ (TSU_P_FOREIGN n).width = 32 := ⟨rfl, rfl, rfl⟩
@[simp] theorem TSU_P_ONESTEP_id (n : Nat) : (TSU_P_ONESTEP n).id = 901 ∧ (TSU_P_ONESTEP n).ix = n ∧ (TSU_P_ONESTEP n).width = 32 := ⟨rfl, rfl, rfl⟩
@[simp] theorem TSU_P_TC_FWD_id (n : Nat) : (TSU_P_TC_FWD n).id = 902 ∧ (TSU_P_TC_FWD n).ix = n ∧ (TSU_P_TC_FWD n).width = 32 := ⟨rfl, rfl, rfl⟩
@[simp] theorem TSU_P_TC_UNCORR_id (n : Nat) : (TSU_P_TC_UNCORR n).id = 903 ∧ (TSU_P_TC_UNCORR n).ix = n ∧ (TSU_P_TC_UNCORR n).width = 32 := ⟨rfl, rfl, rfl⟩
@[simp] theorem TSU_P_PDELAY_id (n : Nat) : (TSU_P_PDELAY n).id = 904 ∧ (TSU_P_PDELAY n).ix = n ∧ (TSU_P_PDELAY n).width = 32 := ⟨rfl, rfl, rfl⟩
@[simp] theorem TSU_P_BAD_DOMAIN_id (n : Nat) : (TSU_P_BAD_DOMAIN n).id = 905 ∧ (TSU_P_BAD_DOMAIN n).ix = n ∧ (TSU_P_BAD_DOMAIN n).width = 32 := ⟨rfl, rfl, rfl⟩
@[simp] theorem TSU_P_TS_LOST_id (n : Nat) : (TSU_P_TS_LOST n).id = 906 ∧ (TSU_P_TS_LOST n).ix = n ∧ (TSU_P_TS_LOST n).width = 32 := ⟨rfl, rfl, rfl⟩
@[simp] theorem TSU_P_TX_TS_REQ_id (n : Nat) : (TSU_P_TX_TS_REQ n).id = 907 ∧ (TSU_P_TX_TS_REQ n).ix = n ∧ (TSU_P_TX_TS_REQ n).width = 32 := ⟨rfl, rfl, rfl⟩
@[simp] theorem TSU_PO_CTL.ARM_id (n : Nat) : (TSU_PO_CTL.ARM n).id = 908 ∧ (TSU_PO_CTL.ARM n).ix = n ∧ (TSU_PO_CTL.ARM n).width = 1 := ⟨rfl, rfl, rfl⟩
@[simp] theorem TSU_PO_CTL.PERIODIC_id (n : Nat) : (TSU_PO_CTL.PERIODIC n).id = 909 ∧ (TSU_PO_CTL.PERIODIC n).ix = n ∧ (TSU_PO_CTL.PERIODIC n).width = 1 := ⟨rfl, rfl, rfl⟩
@[simp] theorem TSU_PO_CTL.STRICT_id (n : Nat) : (TSU_PO_CTL.STRICT n).id = 910 ∧ (TSU_PO_CTL.STRICT n).ix = n ∧ (TSU_PO_CTL.STRICT n).width = 1 := ⟨rfl, rfl, rfl⟩
@[simp] theorem TSU_PO_CTL.OUT_EN_id (n : Nat) : (TSU_PO_CTL.OUT_EN n).id = 911 ∧ (TSU_PO_CTL.OUT_EN n).ix = n ∧ (TSU_PO_CTL.OUT_EN n).width = 1 := ⟨rfl, rfl, rfl⟩
@[simp] theorem TSU_PO_CTL.POL_id (n : Nat) : (TSU_PO_CTL.POL n).id = 912 ∧ (TSU_PO_CTL.POL n).ix = n ∧ (TSU_PO_CTL.POL n).width = 1 := ⟨rfl, rfl, rfl⟩
@[simp] theorem TSU_PO_CTL.STOP_id (n : Nat) : (TSU_PO_CTL.STOP n).id = 913 ∧ (TSU_PO_CTL.STOP n).ix = n ∧ (TSU_PO_CTL.STOP n).width = 1 := ⟨rfl, rfl, rfl⟩
@[simp] theorem TSU_PO_STS.LATE_id (n : Nat) : (TSU_PO_STS.LATE n).id = 914 ∧ (TSU_PO_STS.LATE n).ix = n ∧ (TSU_PO_STS.LATE n).width = 1 := ⟨rfl, rfl, rfl⟩
@[simp] theorem TSU_PO_STS.CANCELLED_id (n : Nat) : (TSU_PO_STS.CANCELLED n).id = 915 ∧ (TSU_PO_STS.CANCELLED n).ix = n ∧ (TSU_PO_STS.CANCELLED n).width = 1 := ⟨rfl, rfl, rfl⟩
@[simp] theorem TSU_PO_STS.ACTIVE_id (n : Nat) : (TSU_PO_STS.ACTIVE n).id = 916 ∧ (TSU_PO_STS.ACTIVE n).ix = n ∧ (TSU_PO_STS.ACTIVE n).width = 1 := ⟨rfl, rfl, rfl⟩
@[simp] theorem TSU_PO_START_NS.NS_id (n : Nat) : (TSU_PO_START_NS.NS n).id = 917 ∧ (TSU_PO_START_NS.NS n).ix = n ∧ (TSU_PO_START_NS.NS n).width = 30 := ⟨rfl, rfl, rfl⟩
@[simp] theorem TSU_PO_START_SL.S_id (n : Nat) : (TSU_PO_START_SL.S n).id = 918 ∧ (TSU_PO_START_SL.S n).ix = n ∧ (TSU_PO_START_SL.S n).width = 32 := ⟨rfl, rfl, rfl⟩
@[simp] theorem TSU_PO_START_SH.S_id (n : Nat) : (TSU_PO_START_SH.S n).id = 919 ∧ (TSU_PO_START_SH.S n).ix = n ∧ (TSU_PO_START_SH.S n).width = 16 := ⟨rfl, rfl, rfl⟩
@[simp] theorem TSU_PO_PERIOD.NS_id (n : Nat) : (TSU_PO_PERIOD.NS n).id = 920 ∧ (TSU_PO_PERIOD.NS n).ix = n ∧ (TSU_PO_PERIOD.NS n).width = 32 := ⟨rfl, rfl, rfl⟩
@[simp] theorem TSU_PO_WIDTH.NS_id (n : Nat) : (TSU_PO_WIDTH.NS n).id = 921 ∧ (TSU_PO_WIDTH.NS n).ix = n ∧ (TSU_PO_WIDTH.NS n).width = 32 := ⟨rfl, rfl, rfl⟩
@[simp] theorem TSU_PO_COUNT.COUNT_id (n : Nat) : (TSU_PO_COUNT.COUNT n).id = 922 ∧ (TSU_PO_COUNT.COUNT n).ix = n ∧ (TSU_PO_COUNT.COUNT n).width = 32 := ⟨rfl, rfl, rfl⟩
@[simp] theorem TSU_CI_CTL.EN_id (n : Nat) : (TSU_CI_CTL.EN n).id = 923 ∧ (TSU_CI_CTL.EN n).ix = n ∧ (TSU_CI_CTL.EN n).width = 1 := ⟨rfl, rfl, rfl⟩
@[simp] theorem TSU_CI_CTL.EDGE_id (n : Nat) : (TSU_CI_CTL.EDGE n).id = 924 ∧ (TSU_CI_CTL.EDGE n).ix = n ∧ (TSU_CI_CTL.EDGE n).width = 2 := ⟨rfl, rfl, rfl⟩
@[simp] theorem TSU_CI_CTL.FILT_id (n : Nat) : (TSU_CI_CTL.FILT n).id = 925 ∧ (TSU_CI_CTL.FILT n).ix = n ∧ (TSU_CI_CTL.FILT n).width = 4 := ⟨rfl, rfl, rfl⟩
@[simp] theorem TSU_CI_STS.LEVEL_id (n : Nat) : (TSU_CI_STS.LEVEL n).id = 926 ∧ (TSU_CI_STS.LEVEL n).ix = n ∧ (TSU_CI_STS.LEVEL n).width = 5 := ⟨rfl, rfl, rfl⟩
@[simp] theorem TSU_CI_STS.OVF_id (n : Nat) : (TSU_CI_STS.OVF n).id = 927 ∧ (TSU_CI_STS.OVF n).ix = n ∧ (TSU_CI_STS.OVF n).width = 1 := ⟨rfl, rfl, rfl⟩
@[simp] theorem TSU_CI_STS.PIN_id (n : Nat) : (TSU_CI_STS.PIN n).id = 928 ∧ (TSU_CI_STS.PIN n).ix = n ∧ (TSU_CI_STS.PIN n).width = 1 := ⟨rfl, rfl, rfl⟩
@[simp] theorem TSU_CI_NS.NS_id (n : Nat) : (TSU_CI_NS.NS n).id = 929 ∧ (TSU_CI_NS.NS n).ix = n ∧ (TSU_CI_NS.NS n).width = 30 := ⟨rfl, rfl, rfl⟩
@[simp] theorem TSU_CI_NS.VALID_id (n : Nat) : (TSU_CI_NS.VALID n).id = 930 ∧ (TSU_CI_NS.VALID n).ix = n ∧ (TSU_CI_NS.VALID n).width = 1 := ⟨rfl, rfl, rfl⟩
@[simp] theorem TSU_CI_NS.FALL_id (n : Nat) : (TSU_CI_NS.FALL n).id = 931 ∧ (TSU_CI_NS.FALL n).ix = n ∧ (TSU_CI_NS.FALL n).width = 1 := ⟨rfl, rfl, rfl⟩
@[simp] theorem TSU_CI_SL.S_id (n : Nat) : (TSU_CI_SL.S n).id = 932 ∧ (TSU_CI_SL.S n).ix = n ∧ (TSU_CI_SL.S n).width = 32 := ⟨rfl, rfl, rfl⟩
@[simp] theorem TSU_CI_SH.S_id (n : Nat) : (TSU_CI_SH.S n).id = 933 ∧ (TSU_CI_SH.S n).ix = n ∧ (TSU_CI_SH.S n).width = 16 := ⟨rfl, rfl, rfl⟩
@[simp] theorem TSU_CI_RC.RC_id (n : Nat) : (TSU_CI_RC.RC n).id = 934 ∧ (TSU_CI_RC.RC n).ix = n ∧ (TSU_CI_RC.RC n).width = 32 := ⟨rfl, rfl, rfl⟩
@[simp] theorem TSU_CI_EVENTS_id (n : Nat) : (TSU_CI_EVENTS n).id = 935 ∧ (TSU_CI_EVENTS n).ix = n ∧ (TSU_CI_EVENTS n).width = 32 := ⟨rfl, rfl, rfl⟩
@[simp] theorem TSU_CI_LOST_id (n : Nat) : (TSU_CI_LOST n).id = 936 ∧ (TSU_CI_LOST n).ix = n ∧ (TSU_CI_LOST n).width = 32 := ⟨rfl, rfl, rfl⟩
@[simp] theorem HIF_CFG.EN_id : HIF_CFG.EN.id = 937 ∧ HIF_CFG.EN.ix = 0 ∧ HIF_CFG.EN.width = 1 := ⟨rfl, rfl, rfl⟩
@[simp] theorem HIF_CFG.STANDALONE_id : HIF_CFG.STANDALONE.id = 938 ∧ HIF_CFG.STANDALONE.ix = 0 ∧ HIF_CFG.STANDALONE.width = 1 := ⟨rfl, rfl, rfl⟩
@[simp] theorem HIF_CFG.BH_RING_id : HIF_CFG.BH_RING.id = 939 ∧ HIF_CFG.BH_RING.ix = 0 ∧ HIF_CFG.BH_RING.width = 5 := ⟨rfl, rfl, rfl⟩
@[simp] theorem HIF_STS.LINK_UP_id : HIF_STS.LINK_UP.id = 940 ∧ HIF_STS.LINK_UP.ix = 0 ∧ HIF_STS.LINK_UP.width = 1 := ⟨rfl, rfl, rfl⟩
@[simp] theorem HIF_STS.GEN_id : HIF_STS.GEN.id = 941 ∧ HIF_STS.GEN.ix = 0 ∧ HIF_STS.GEN.width = 3 := ⟨rfl, rfl, rfl⟩
@[simp] theorem HIF_STS.WIDTH_id : HIF_STS.WIDTH.id = 942 ∧ HIF_STS.WIDTH.ix = 0 ∧ HIF_STS.WIDTH.width = 3 := ⟨rfl, rfl, rfl⟩
@[simp] theorem HIF_STS.BME_id : HIF_STS.BME.id = 943 ∧ HIF_STS.BME.ix = 0 ∧ HIF_STS.BME.width = 1 := ⟨rfl, rfl, rfl⟩
@[simp] theorem HIF_STS.MSIX_EN_id : HIF_STS.MSIX_EN.id = 944 ∧ HIF_STS.MSIX_EN.ix = 0 ∧ HIF_STS.MSIX_EN.width = 1 := ⟨rfl, rfl, rfl⟩
@[simp] theorem HIF_INT_STS.DB_BAD_id : HIF_INT_STS.DB_BAD.id = 945 ∧ HIF_INT_STS.DB_BAD.ix = 0 ∧ HIF_INT_STS.DB_BAD.width = 1 := ⟨rfl, rfl, rfl⟩
@[simp] theorem HIF_INT_STS.DMA_ERR_id : HIF_INT_STS.DMA_ERR.id = 946 ∧ HIF_INT_STS.DMA_ERR.ix = 0 ∧ HIF_INT_STS.DMA_ERR.width = 1 := ⟨rfl, rfl, rfl⟩
@[simp] theorem HIF_INT_STS.EVT_LOST_id : HIF_INT_STS.EVT_LOST.id = 947 ∧ HIF_INT_STS.EVT_LOST.ix = 0 ∧ HIF_INT_STS.EVT_LOST.width = 1 := ⟨rfl, rfl, rfl⟩
@[simp] theorem HIF_INT_STS.MBX_IDLE_id : HIF_INT_STS.MBX_IDLE.id = 948 ∧ HIF_INT_STS.MBX_IDLE.ix = 0 ∧ HIF_INT_STS.MBX_IDLE.width = 1 := ⟨rfl, rfl, rfl⟩
@[simp] theorem HIF_INT_EN.DB_BAD_id : HIF_INT_EN.DB_BAD.id = 949 ∧ HIF_INT_EN.DB_BAD.ix = 0 ∧ HIF_INT_EN.DB_BAD.width = 1 := ⟨rfl, rfl, rfl⟩
@[simp] theorem HIF_INT_EN.DMA_ERR_id : HIF_INT_EN.DMA_ERR.id = 950 ∧ HIF_INT_EN.DMA_ERR.ix = 0 ∧ HIF_INT_EN.DMA_ERR.width = 1 := ⟨rfl, rfl, rfl⟩
@[simp] theorem HIF_INT_EN.EVT_LOST_id : HIF_INT_EN.EVT_LOST.id = 951 ∧ HIF_INT_EN.EVT_LOST.ix = 0 ∧ HIF_INT_EN.EVT_LOST.width = 1 := ⟨rfl, rfl, rfl⟩
@[simp] theorem HIF_INT_EN.MBX_IDLE_id : HIF_INT_EN.MBX_IDLE.id = 952 ∧ HIF_INT_EN.MBX_IDLE.ix = 0 ∧ HIF_INT_EN.MBX_IDLE.width = 1 := ⟨rfl, rfl, rfl⟩
@[simp] theorem HIF_PCIE_CFG.MAX_GEN_id : HIF_PCIE_CFG.MAX_GEN.id = 953 ∧ HIF_PCIE_CFG.MAX_GEN.ix = 0 ∧ HIF_PCIE_CFG.MAX_GEN.width = 3 := ⟨rfl, rfl, rfl⟩
@[simp] theorem HIF_PCIE_CFG.L1_EN_id : HIF_PCIE_CFG.L1_EN.id = 954 ∧ HIF_PCIE_CFG.L1_EN.ix = 0 ∧ HIF_PCIE_CFG.L1_EN.width = 1 := ⟨rfl, rfl, rfl⟩
@[simp] theorem HIF_SUBSYS.SSVID_id : HIF_SUBSYS.SSVID.id = 955 ∧ HIF_SUBSYS.SSVID.ix = 0 ∧ HIF_SUBSYS.SSVID.width = 16 := ⟨rfl, rfl, rfl⟩
@[simp] theorem HIF_SUBSYS.SSID_id : HIF_SUBSYS.SSID.id = 956 ∧ HIF_SUBSYS.SSID.ix = 0 ∧ HIF_SUBSYS.SSID.width = 16 := ⟨rfl, rfl, rfl⟩
@[simp] theorem HIF_EVT_ROUTE_LO.RING_0_id : HIF_EVT_ROUTE_LO.RING_0.id = 957 ∧ HIF_EVT_ROUTE_LO.RING_0.ix = 0 ∧ HIF_EVT_ROUTE_LO.RING_0.width = 2 := ⟨rfl, rfl, rfl⟩
@[simp] theorem HIF_EVT_ROUTE_LO.RING_1_id : HIF_EVT_ROUTE_LO.RING_1.id = 958 ∧ HIF_EVT_ROUTE_LO.RING_1.ix = 0 ∧ HIF_EVT_ROUTE_LO.RING_1.width = 2 := ⟨rfl, rfl, rfl⟩
@[simp] theorem HIF_EVT_ROUTE_LO.RING_2_id : HIF_EVT_ROUTE_LO.RING_2.id = 959 ∧ HIF_EVT_ROUTE_LO.RING_2.ix = 0 ∧ HIF_EVT_ROUTE_LO.RING_2.width = 2 := ⟨rfl, rfl, rfl⟩
@[simp] theorem HIF_EVT_ROUTE_LO.RING_3_id : HIF_EVT_ROUTE_LO.RING_3.id = 960 ∧ HIF_EVT_ROUTE_LO.RING_3.ix = 0 ∧ HIF_EVT_ROUTE_LO.RING_3.width = 2 := ⟨rfl, rfl, rfl⟩
@[simp] theorem HIF_EVT_ROUTE_LO.RING_4_id : HIF_EVT_ROUTE_LO.RING_4.id = 961 ∧ HIF_EVT_ROUTE_LO.RING_4.ix = 0 ∧ HIF_EVT_ROUTE_LO.RING_4.width = 2 := ⟨rfl, rfl, rfl⟩
@[simp] theorem HIF_EVT_ROUTE_LO.RING_5_id : HIF_EVT_ROUTE_LO.RING_5.id = 962 ∧ HIF_EVT_ROUTE_LO.RING_5.ix = 0 ∧ HIF_EVT_ROUTE_LO.RING_5.width = 2 := ⟨rfl, rfl, rfl⟩
@[simp] theorem HIF_EVT_ROUTE_LO.RING_6_id : HIF_EVT_ROUTE_LO.RING_6.id = 963 ∧ HIF_EVT_ROUTE_LO.RING_6.ix = 0 ∧ HIF_EVT_ROUTE_LO.RING_6.width = 2 := ⟨rfl, rfl, rfl⟩
@[simp] theorem HIF_EVT_ROUTE_LO.RING_7_id : HIF_EVT_ROUTE_LO.RING_7.id = 964 ∧ HIF_EVT_ROUTE_LO.RING_7.ix = 0 ∧ HIF_EVT_ROUTE_LO.RING_7.width = 2 := ⟨rfl, rfl, rfl⟩
@[simp] theorem HIF_EVT_ROUTE_LO.RING_8_id : HIF_EVT_ROUTE_LO.RING_8.id = 965 ∧ HIF_EVT_ROUTE_LO.RING_8.ix = 0 ∧ HIF_EVT_ROUTE_LO.RING_8.width = 2 := ⟨rfl, rfl, rfl⟩
@[simp] theorem HIF_EVT_ROUTE_LO.RING_9_id : HIF_EVT_ROUTE_LO.RING_9.id = 966 ∧ HIF_EVT_ROUTE_LO.RING_9.ix = 0 ∧ HIF_EVT_ROUTE_LO.RING_9.width = 2 := ⟨rfl, rfl, rfl⟩
@[simp] theorem HIF_EVT_ROUTE_LO.RING_10_id : HIF_EVT_ROUTE_LO.RING_10.id = 967 ∧ HIF_EVT_ROUTE_LO.RING_10.ix = 0 ∧ HIF_EVT_ROUTE_LO.RING_10.width = 2 := ⟨rfl, rfl, rfl⟩
@[simp] theorem HIF_EVT_ROUTE_LO.RING_11_id : HIF_EVT_ROUTE_LO.RING_11.id = 968 ∧ HIF_EVT_ROUTE_LO.RING_11.ix = 0 ∧ HIF_EVT_ROUTE_LO.RING_11.width = 2 := ⟨rfl, rfl, rfl⟩
@[simp] theorem HIF_EVT_ROUTE_LO.RING_12_id : HIF_EVT_ROUTE_LO.RING_12.id = 969 ∧ HIF_EVT_ROUTE_LO.RING_12.ix = 0 ∧ HIF_EVT_ROUTE_LO.RING_12.width = 2 := ⟨rfl, rfl, rfl⟩
@[simp] theorem HIF_EVT_ROUTE_LO.RING_13_id : HIF_EVT_ROUTE_LO.RING_13.id = 970 ∧ HIF_EVT_ROUTE_LO.RING_13.ix = 0 ∧ HIF_EVT_ROUTE_LO.RING_13.width = 2 := ⟨rfl, rfl, rfl⟩
@[simp] theorem HIF_EVT_ROUTE_LO.RING_14_id : HIF_EVT_ROUTE_LO.RING_14.id = 971 ∧ HIF_EVT_ROUTE_LO.RING_14.ix = 0 ∧ HIF_EVT_ROUTE_LO.RING_14.width = 2 := ⟨rfl, rfl, rfl⟩
@[simp] theorem HIF_EVT_ROUTE_LO.RING_15_id : HIF_EVT_ROUTE_LO.RING_15.id = 972 ∧ HIF_EVT_ROUTE_LO.RING_15.ix = 0 ∧ HIF_EVT_ROUTE_LO.RING_15.width = 2 := ⟨rfl, rfl, rfl⟩
@[simp] theorem HIF_EVT_ROUTE_HI.RING_16_id : HIF_EVT_ROUTE_HI.RING_16.id = 973 ∧ HIF_EVT_ROUTE_HI.RING_16.ix = 0 ∧ HIF_EVT_ROUTE_HI.RING_16.width = 2 := ⟨rfl, rfl, rfl⟩
@[simp] theorem HIF_EVT_ROUTE_HI.RING_17_id : HIF_EVT_ROUTE_HI.RING_17.id = 974 ∧ HIF_EVT_ROUTE_HI.RING_17.ix = 0 ∧ HIF_EVT_ROUTE_HI.RING_17.width = 2 := ⟨rfl, rfl, rfl⟩
@[simp] theorem HIF_EVT_ROUTE_HI.RING_18_id : HIF_EVT_ROUTE_HI.RING_18.id = 975 ∧ HIF_EVT_ROUTE_HI.RING_18.ix = 0 ∧ HIF_EVT_ROUTE_HI.RING_18.width = 2 := ⟨rfl, rfl, rfl⟩
@[simp] theorem HIF_EVT_ROUTE_HI.RING_19_id : HIF_EVT_ROUTE_HI.RING_19.id = 976 ∧ HIF_EVT_ROUTE_HI.RING_19.ix = 0 ∧ HIF_EVT_ROUTE_HI.RING_19.width = 2 := ⟨rfl, rfl, rfl⟩
@[simp] theorem HIF_RX_ROUTE.CTL_RING_id (i : Nat) : (HIF_RX_ROUTE.CTL_RING i).id = 977 ∧ (HIF_RX_ROUTE.CTL_RING i).ix = i ∧ (HIF_RX_ROUTE.CTL_RING i).width = 5 := ⟨rfl, rfl, rfl⟩
@[simp] theorem HIF_RX_ROUTE.MAC_RING_id (i : Nat) : (HIF_RX_ROUTE.MAC_RING i).id = 978 ∧ (HIF_RX_ROUTE.MAC_RING i).ix = i ∧ (HIF_RX_ROUTE.MAC_RING i).width = 5 := ⟨rfl, rfl, rfl⟩
@[simp] theorem HIF_RX_ROUTE.MISS_RING_id (i : Nat) : (HIF_RX_ROUTE.MISS_RING i).id = 979 ∧ (HIF_RX_ROUTE.MISS_RING i).ix = i ∧ (HIF_RX_ROUTE.MISS_RING i).width = 5 := ⟨rfl, rfl, rfl⟩
@[simp] theorem HIF_MBX_IDLE_id : HIF_MBX_IDLE.id = 980 ∧ HIF_MBX_IDLE.ix = 0 ∧ HIF_MBX_IDLE.width = 32 := ⟨rfl, rfl, rfl⟩
@[simp] theorem HIF_DB_BAD_id : HIF_DB_BAD.id = 981 ∧ HIF_DB_BAD.ix = 0 ∧ HIF_DB_BAD.width = 32 := ⟨rfl, rfl, rfl⟩
@[simp] theorem HIF_DMA_ERR_id : HIF_DMA_ERR.id = 982 ∧ HIF_DMA_ERR.ix = 0 ∧ HIF_DMA_ERR.width = 32 := ⟨rfl, rfl, rfl⟩
@[simp] theorem HIF_EVT_LOST_id : HIF_EVT_LOST.id = 983 ∧ HIF_EVT_LOST.ix = 0 ∧ HIF_EVT_LOST.width = 32 := ⟨rfl, rfl, rfl⟩
@[simp] theorem HIF_TX_TRUNC_id : HIF_TX_TRUNC.id = 984 ∧ HIF_TX_TRUNC.ix = 0 ∧ HIF_TX_TRUNC.width = 32 := ⟨rfl, rfl, rfl⟩
@[simp] theorem HIF_RX_TRUNC_id : HIF_RX_TRUNC.id = 985 ∧ HIF_RX_TRUNC.ix = 0 ∧ HIF_RX_TRUNC.width = 32 := ⟨rfl, rfl, rfl⟩
@[simp] theorem HIF_NOP_id : HIF_NOP.id = 986 ∧ HIF_NOP.ix = 0 ∧ HIF_NOP.width = 32 := ⟨rfl, rfl, rfl⟩
@[simp] theorem HIF_TX_DESC_id : HIF_TX_DESC.id = 987 ∧ HIF_TX_DESC.ix = 0 ∧ HIF_TX_DESC.width = 32 := ⟨rfl, rfl, rfl⟩
@[simp] theorem HIF_RX_DESC_id : HIF_RX_DESC.id = 988 ∧ HIF_RX_DESC.ix = 0 ∧ HIF_RX_DESC.width = 32 := ⟨rfl, rfl, rfl⟩
@[simp] theorem HIF_CMD_DONE_id : HIF_CMD_DONE.id = 989 ∧ HIF_CMD_DONE.ix = 0 ∧ HIF_CMD_DONE.width = 32 := ⟨rfl, rfl, rfl⟩
@[simp] theorem HIF_CMD_FAIL_id : HIF_CMD_FAIL.id = 990 ∧ HIF_CMD_FAIL.ix = 0 ∧ HIF_CMD_FAIL.width = 32 := ⟨rfl, rfl, rfl⟩
@[simp] theorem HIF_EVT_WRITTEN_id : HIF_EVT_WRITTEN.id = 991 ∧ HIF_EVT_WRITTEN.ix = 0 ∧ HIF_EVT_WRITTEN.width = 32 := ⟨rfl, rfl, rfl⟩
@[simp] theorem HIF_MSIX_SENT_id : HIF_MSIX_SENT.id = 992 ∧ HIF_MSIX_SENT.ix = 0 ∧ HIF_MSIX_SENT.width = 32 := ⟨rfl, rfl, rfl⟩
@[simp] theorem HIF_RX_BACKLOG_DROP_id : HIF_RX_BACKLOG_DROP.id = 993 ∧ HIF_RX_BACKLOG_DROP.ix = 0 ∧ HIF_RX_BACKLOG_DROP.width = 32 := ⟨rfl, rfl, rfl⟩
@[simp] theorem HIF_FLR_id : HIF_FLR.id = 994 ∧ HIF_FLR.ix = 0 ∧ HIF_FLR.width = 32 := ⟨rfl, rfl, rfl⟩
@[simp] theorem HIF_BADARG_id : HIF_BADARG.id = 995 ∧ HIF_BADARG.ix = 0 ∧ HIF_BADARG.width = 32 := ⟨rfl, rfl, rfl⟩
@[simp] theorem HIF_R_BASE_LO.ADDR_id (n : Nat) : (HIF_R_BASE_LO.ADDR n).id = 996 ∧ (HIF_R_BASE_LO.ADDR n).ix = n ∧ (HIF_R_BASE_LO.ADDR n).width = 32 := ⟨rfl, rfl, rfl⟩
@[simp] theorem HIF_R_BASE_HI.ADDR_id (n : Nat) : (HIF_R_BASE_HI.ADDR n).id = 997 ∧ (HIF_R_BASE_HI.ADDR n).ix = n ∧ (HIF_R_BASE_HI.ADDR n).width = 32 := ⟨rfl, rfl, rfl⟩
@[simp] theorem HIF_R_CFG.EN_id (n : Nat) : (HIF_R_CFG.EN n).id = 998 ∧ (HIF_R_CFG.EN n).ix = n ∧ (HIF_R_CFG.EN n).width = 1 := ⟨rfl, rfl, rfl⟩
@[simp] theorem HIF_R_CFG.SIZE_LOG2_id (n : Nat) : (HIF_R_CFG.SIZE_LOG2 n).id = 999 ∧ (HIF_R_CFG.SIZE_LOG2 n).ix = n ∧ (HIF_R_CFG.SIZE_LOG2 n).width = 5 := ⟨rfl, rfl, rfl⟩
@[simp] theorem HIF_R_CFG.LOC_id (n : Nat) : (HIF_R_CFG.LOC n).id = 1000 ∧ (HIF_R_CFG.LOC n).ix = n ∧ (HIF_R_CFG.LOC n).width = 1 := ⟨rfl, rfl, rfl⟩
@[simp] theorem HIF_R_CFG.VEC_id (n : Nat) : (HIF_R_CFG.VEC n).id = 1001 ∧ (HIF_R_CFG.VEC n).ix = n ∧ (HIF_R_CFG.VEC n).width = 6 := ⟨rfl, rfl, rfl⟩
@[simp] theorem HIF_R_CFG.CORE_id (n : Nat) : (HIF_R_CFG.CORE n).id = 1002 ∧ (HIF_R_CFG.CORE n).ix = n ∧ (HIF_R_CFG.CORE n).width = 3 := ⟨rfl, rfl, rfl⟩
@[simp] theorem HIF_R_CFG.IRQ_EN_id (n : Nat) : (HIF_R_CFG.IRQ_EN n).id = 1003 ∧ (HIF_R_CFG.IRQ_EN n).ix = n ∧ (HIF_R_CFG.IRQ_EN n).width = 1 := ⟨rfl, rfl, rfl⟩
@[simp] theorem HIF_R_CFG.LIMIT_id (n : Nat) : (HIF_R_CFG.LIMIT n).id = 1004 ∧ (HIF_R_CFG.LIMIT n).ix = n ∧ (HIF_R_CFG.LIMIT n).width = 12 := ⟨rfl, rfl, rfl⟩
@[simp] theorem HIF_R_MOD.USECS_id (n : Nat) : (HIF_R_MOD.USECS n).id = 1005 ∧ (HIF_R_MOD.USECS n).ix = n ∧ (HIF_R_MOD.USECS n).width = 10 := ⟨rfl, rfl, rfl⟩
@[simp] theorem HIF_R_MOD.COUNT_id (n : Nat) : (HIF_R_MOD.COUNT n).id = 1006 ∧ (HIF_R_MOD.COUNT n).ix = n ∧ (HIF_R_MOD.COUNT n).width = 10 := ⟨rfl, rfl, rfl⟩
@[simp] theorem HIF_R_IDX.HEAD_id (n : Nat) : (HIF_R_IDX.HEAD n).id = 1007 ∧ (HIF_R_IDX.HEAD n).ix = n ∧ (HIF_R_IDX.HEAD n).width = 16 := ⟨rfl, rfl, rfl⟩
@[simp] theorem HIF_R_IDX.TAIL_id (n : Nat) : (HIF_R_IDX.TAIL n).id = 1008 ∧ (HIF_R_IDX.TAIL n).ix = n ∧ (HIF_R_IDX.TAIL n).width = 16 := ⟨rfl, rfl, rfl⟩
@[simp] theorem HIF_R_STS.RUN_id (n : Nat) : (HIF_R_STS.RUN n).id = 1009 ∧ (HIF_R_STS.RUN n).ix = n ∧ (HIF_R_STS.RUN n).width = 1 := ⟨rfl, rfl, rfl⟩
@[simp] theorem HIF_R_STS.ARMED_id (n : Nat) : (HIF_R_STS.ARMED n).id = 1010 ∧ (HIF_R_STS.ARMED n).ix = n ∧ (HIF_R_STS.ARMED n).width = 1 := ⟨rfl, rfl, rfl⟩
@[simp] theorem HIF_R_STS.ERR_id (n : Nat) : (HIF_R_STS.ERR n).id = 1011 ∧ (HIF_R_STS.ERR n).ix = n ∧ (HIF_R_STS.ERR n).width = 1 := ⟨rfl, rfl, rfl⟩
@[simp] theorem HIF_R_STS.ERR_CODE_id (n : Nat) : (HIF_R_STS.ERR_CODE n).id = 1012 ∧ (HIF_R_STS.ERR_CODE n).ix = n ∧ (HIF_R_STS.ERR_CODE n).width = 3 := ⟨rfl, rfl, rfl⟩
@[simp] theorem HIF_R_STS.PEND_id (n : Nat) : (HIF_R_STS.PEND n).id = 1013 ∧ (HIF_R_STS.PEND n).ix = n ∧ (HIF_R_STS.PEND n).width = 16 := ⟨rfl, rfl, rfl⟩
@[simp] theorem HIF_R_DONE.COUNT_id (n : Nat) : (HIF_R_DONE.COUNT n).id = 1014 ∧ (HIF_R_DONE.COUNT n).ix = n ∧ (HIF_R_DONE.COUNT n).width = 32 := ⟨rfl, rfl, rfl⟩
@[simp] theorem HIF_TXR_ARB.WEIGHT_id (n : Nat) : (HIF_TXR_ARB.WEIGHT n).id = 1015 ∧ (HIF_TXR_ARB.WEIGHT n).ix = n ∧ (HIF_TXR_ARB.WEIGHT n).width = 8 := ⟨rfl, rfl, rfl⟩
@[simp] theorem HIF_RXR_BACKLOG.COUNT_id (n : Nat) : (HIF_RXR_BACKLOG.COUNT n).id = 1016 ∧ (HIF_RXR_BACKLOG.COUNT n).ix = n ∧ (HIF_RXR_BACKLOG.COUNT n).width = 16 := ⟨rfl, rfl, rfl⟩
@[simp] theorem HIF_RXR_BACKLOG.PEAK_id (n : Nat) : (HIF_RXR_BACKLOG.PEAK n).id = 1017 ∧ (HIF_RXR_BACKLOG.PEAK n).ix = n ∧ (HIF_RXR_BACKLOG.PEAK n).width = 16 := ⟨rfl, rfl, rfl⟩
@[simp] theorem HIF_CMDR_FAIL.COUNT_id (n : Nat) : (HIF_CMDR_FAIL.COUNT n).id = 1018 ∧ (HIF_CMDR_FAIL.COUNT n).ix = n ∧ (HIF_CMDR_FAIL.COUNT n).width = 32 := ⟨rfl, rfl, rfl⟩
@[simp] theorem HIF_EVTR_PEND.PEND_id (n : Nat) : (HIF_EVTR_PEND.PEND n).id = 1019 ∧ (HIF_EVTR_PEND.PEND n).ix = n ∧ (HIF_EVTR_PEND.PEND n).width = 7 := ⟨rfl, rfl, rfl⟩
@[simp] theorem HIF_EVTR_PEND.PEAK_id (n : Nat) : (HIF_EVTR_PEND.PEAK n).id = 1020 ∧ (HIF_EVTR_PEND.PEAK n).ix = n ∧ (HIF_EVTR_PEND.PEAK n).width = 7 := ⟨rfl, rfl, rfl⟩
@[simp] theorem UPD_CFG.EN_id : UPD_CFG.EN.id = 1021 ∧ UPD_CFG.EN.ix = 0 ∧ UPD_CFG.EN.width = 1 := ⟨rfl, rfl, rfl⟩
@[simp] theorem UPD_CFG.RPT_EN_id : UPD_CFG.RPT_EN.id = 1022 ∧ UPD_CFG.RPT_EN.ix = 0 ∧ UPD_CFG.RPT_EN.width = 1 := ⟨rfl, rfl, rfl⟩
@[simp] theorem UPD_STS.ACTIVE_id : UPD_STS.ACTIVE.id = 1023 ∧ UPD_STS.ACTIVE.ix = 0 ∧ UPD_STS.ACTIVE.width = 4 := ⟨rfl, rfl, rfl⟩
@[simp] theorem UPD_STS.PRESS_BUSY_id : UPD_STS.PRESS_BUSY.id = 1024 ∧ UPD_STS.PRESS_BUSY.ix = 0 ∧ UPD_STS.PRESS_BUSY.width = 1 := ⟨rfl, rfl, rfl⟩
@[simp] theorem UPD_INT_STS.CAMP_END_id : UPD_INT_STS.CAMP_END.id = 1025 ∧ UPD_INT_STS.CAMP_END.ix = 0 ∧ UPD_INT_STS.CAMP_END.width = 1 := ⟨rfl, rfl, rfl⟩
@[simp] theorem UPD_INT_STS.NODE_FAIL_id : UPD_INT_STS.NODE_FAIL.id = 1026 ∧ UPD_INT_STS.NODE_FAIL.ix = 0 ∧ UPD_INT_STS.NODE_FAIL.width = 1 := ⟨rfl, rfl, rfl⟩
@[simp] theorem UPD_INT_STS.STARVE_id : UPD_INT_STS.STARVE.id = 1027 ∧ UPD_INT_STS.STARVE.ix = 0 ∧ UPD_INT_STS.STARVE.width = 1 := ⟨rfl, rfl, rfl⟩
@[simp] theorem UPD_INT_STS.IMG_ERR_id : UPD_INT_STS.IMG_ERR.id = 1028 ∧ UPD_INT_STS.IMG_ERR.ix = 0 ∧ UPD_INT_STS.IMG_ERR.width = 1 := ⟨rfl, rfl, rfl⟩
@[simp] theorem UPD_INT_STS.NOCURD_id : UPD_INT_STS.NOCURD.id = 1029 ∧ UPD_INT_STS.NOCURD.ix = 0 ∧ UPD_INT_STS.NOCURD.width = 1 := ⟨rfl, rfl, rfl⟩
@[simp] theorem UPD_INT_EN.CAMP_END_id : UPD_INT_EN.CAMP_END.id = 1030 ∧ UPD_INT_EN.CAMP_END.ix = 0 ∧ UPD_INT_EN.CAMP_END.width = 1 := ⟨rfl, rfl, rfl⟩
@[simp] theorem UPD_INT_EN.NODE_FAIL_id : UPD_INT_EN.NODE_FAIL.id = 1031 ∧ UPD_INT_EN.NODE_FAIL.ix = 0 ∧ UPD_INT_EN.NODE_FAIL.width = 1 := ⟨rfl, rfl, rfl⟩
@[simp] theorem UPD_INT_EN.STARVE_id : UPD_INT_EN.STARVE.id = 1032 ∧ UPD_INT_EN.STARVE.ix = 0 ∧ UPD_INT_EN.STARVE.width = 1 := ⟨rfl, rfl, rfl⟩
@[simp] theorem UPD_INT_EN.IMG_ERR_id : UPD_INT_EN.IMG_ERR.id = 1033 ∧ UPD_INT_EN.IMG_ERR.ix = 0 ∧ UPD_INT_EN.IMG_ERR.width = 1 := ⟨rfl, rfl, rfl⟩
@[simp] theorem UPD_INT_EN.NOCURD_id : UPD_INT_EN.NOCURD.id = 1034 ∧ UPD_INT_EN.NOCURD.ix = 0 ∧ UPD_INT_EN.NOCURD.width = 1 := ⟨rfl, rfl, rfl⟩
@[simp] theorem UPD_PRESS_STS.SLOT_id : UPD_PRESS_STS.SLOT.id = 1035 ∧ UPD_PRESS_STS.SLOT.ix = 0 ∧ UPD_PRESS_STS.SLOT.width = 2 := ⟨rfl, rfl, rfl⟩
@[simp] theorem UPD_PRESS_STS.SBN_id : UPD_PRESS_STS.SBN.id = 1036 ∧ UPD_PRESS_STS.SBN.ix = 0 ∧ UPD_PRESS_STS.SBN.width = 8 := ⟨rfl, rfl, rfl⟩
@[simp] theorem UPD_CURDS.USED_id : UPD_CURDS.USED.id = 1037 ∧ UPD_CURDS.USED.ix = 0 ∧ UPD_CURDS.USED.width = 16 := ⟨rfl, rfl, rfl⟩
@[simp] theorem UPD_CURDS.PEAK_id : UPD_CURDS.PEAK.id = 1038 ∧ UPD_CURDS.PEAK.ix = 0 ∧ UPD_CURDS.PEAK.width = 16 := ⟨rfl, rfl, rfl⟩
@[simp] theorem UPD_READY.FRAMES_id : UPD_READY.FRAMES.id = 1039 ∧ UPD_READY.FRAMES.ix = 0 ∧ UPD_READY.FRAMES.width = 9 := ⟨rfl, rfl, rfl⟩
@[simp] theorem UPD_READY.PEAK_id : UPD_READY.PEAK.id = 1040 ∧ UPD_READY.PEAK.ix = 0 ∧ UPD_READY.PEAK.width = 9 := ⟨rfl, rfl, rfl⟩
@[simp] theorem UPD_PREP_LAST.US_id : UPD_PREP_LAST.US.id = 1041 ∧ UPD_PREP_LAST.US.ix = 0 ∧ UPD_PREP_LAST.US.width = 16 := ⟨rfl, rfl, rfl⟩
@[simp] theorem UPD_VKEY.KEY_id (i : Nat) : (UPD_VKEY.KEY i).id = 1042 ∧ (UPD_VKEY.KEY i).ix = i ∧ (UPD_VKEY.KEY i).width = 32 := ⟨rfl, rfl, rfl⟩
@[simp] theorem UPD_SYM_SENT_id : UPD_SYM_SENT.id = 1043 ∧ UPD_SYM_SENT.ix = 0 ∧ UPD_SYM_SENT.width = 32 := ⟨rfl, rfl, rfl⟩
@[simp] theorem UPD_ANN_SENT_id : UPD_ANN_SENT.id = 1044 ∧ UPD_ANN_SENT.ix = 0 ∧ UPD_ANN_SENT.width = 32 := ⟨rfl, rfl, rfl⟩
@[simp] theorem UPD_STARVE_id : UPD_STARVE.id = 1045 ∧ UPD_STARVE.ix = 0 ∧ UPD_STARVE.width = 32 := ⟨rfl, rfl, rfl⟩
@[simp] theorem UPD_RATE_SKIP_id : UPD_RATE_SKIP.id = 1046 ∧ UPD_RATE_SKIP.ix = 0 ∧ UPD_RATE_SKIP.width = 32 := ⟨rfl, rfl, rfl⟩
@[simp] theorem UPD_NOFIT_id : UPD_NOFIT.id = 1047 ∧ UPD_NOFIT.ix = 0 ∧ UPD_NOFIT.width = 32 := ⟨rfl, rfl, rfl⟩
@[simp] theorem UPD_SHARED_FILL_id : UPD_SHARED_FILL.id = 1048 ∧ UPD_SHARED_FILL.ix = 0 ∧ UPD_SHARED_FILL.width = 32 := ⟨rfl, rfl, rfl⟩
@[simp] theorem UPD_RPT_RX_id : UPD_RPT_RX.id = 1049 ∧ UPD_RPT_RX.ix = 0 ∧ UPD_RPT_RX.width = 32 := ⟨rfl, rfl, rfl⟩
@[simp] theorem UPD_RPT_STALE_id : UPD_RPT_STALE.id = 1050 ∧ UPD_RPT_STALE.ix = 0 ∧ UPD_RPT_STALE.width = 32 := ⟨rfl, rfl, rfl⟩
@[simp] theorem UPD_NODE_DONE_id : UPD_NODE_DONE.id = 1051 ∧ UPD_NODE_DONE.ix = 0 ∧ UPD_NODE_DONE.width = 32 := ⟨rfl, rfl, rfl⟩
@[simp] theorem UPD_NODE_FAIL_id : UPD_NODE_FAIL.id = 1052 ∧ UPD_NODE_FAIL.ix = 0 ∧ UPD_NODE_FAIL.width = 32 := ⟨rfl, rfl, rfl⟩
@[simp] theorem UPD_NODE_REFUSED_id : UPD_NODE_REFUSED.id = 1053 ∧ UPD_NODE_REFUSED.ix = 0 ∧ UPD_NODE_REFUSED.width = 32 := ⟨rfl, rfl, rfl⟩
@[simp] theorem UPD_BLOCKS_PREP_id : UPD_BLOCKS_PREP.id = 1054 ∧ UPD_BLOCKS_PREP.ix = 0 ∧ UPD_BLOCKS_PREP.width = 32 := ⟨rfl, rfl, rfl⟩
@[simp] theorem UPD_NOCURD_id : UPD_NOCURD.id = 1055 ∧ UPD_NOCURD.ix = 0 ∧ UPD_NOCURD.width = 32 := ⟨rfl, rfl, rfl⟩
@[simp] theorem UPD_IMG_DMA_ERR_id : UPD_IMG_DMA_ERR.id = 1056 ∧ UPD_IMG_DMA_ERR.ix = 0 ∧ UPD_IMG_DMA_ERR.width = 32 := ⟨rfl, rfl, rfl⟩
@[simp] theorem UPD_SIGN_OPS_id : UPD_SIGN_OPS.id = 1057 ∧ UPD_SIGN_OPS.ix = 0 ∧ UPD_SIGN_OPS.width = 32 := ⟨rfl, rfl, rfl⟩
@[simp] theorem UPD_PRESS_KIB_id : UPD_PRESS_KIB.id = 1058 ∧ UPD_PRESS_KIB.ix = 0 ∧ UPD_PRESS_KIB.width = 32 := ⟨rfl, rfl, rfl⟩
@[simp] theorem UPD_C_STS.STATE_id (n : Nat) : (UPD_C_STS.STATE n).id = 1059 ∧ (UPD_C_STS.STATE n).ix = n ∧ (UPD_C_STS.STATE n).width = 3 := ⟨rfl, rfl, rfl⟩
@[simp] theorem UPD_C_STS.WARD_id (n : Nat) : (UPD_C_STS.WARD n).id = 1060 ∧ (UPD_C_STS.WARD n).ix = n ∧ (UPD_C_STS.WARD n).width = 3 := ⟨rfl, rfl, rfl⟩
@[simp] theorem UPD_C_STS.END_WHY_id (n : Nat) : (UPD_C_STS.END_WHY n).id = 1061 ∧ (UPD_C_STS.END_WHY n).ix = n ∧ (UPD_C_STS.END_WHY n).width = 3 := ⟨rfl, rfl, rfl⟩
@[simp] theorem UPD_C_STS.IMG_ID_id (n : Nat) : (UPD_C_STS.IMG_ID n).id = 1062 ∧ (UPD_C_STS.IMG_ID n).ix = n ∧ (UPD_C_STS.IMG_ID n).width = 8 := ⟨rfl, rfl, rfl⟩
@[simp] theorem UPD_C_OTI_LO.F_id (n : Nat) : (UPD_C_OTI_LO.F n).id = 1063 ∧ (UPD_C_OTI_LO.F n).ix = n ∧ (UPD_C_OTI_LO.F n).width = 32 := ⟨rfl, rfl, rfl⟩
@[simp] theorem UPD_C_OTI_HI.F_id (n : Nat) : (UPD_C_OTI_HI.F n).id = 1064 ∧ (UPD_C_OTI_HI.F n).ix = n ∧ (UPD_C_OTI_HI.F n).width = 8 := ⟨rfl, rfl, rfl⟩
@[simp] theorem UPD_C_OTI_HI.T_id (n : Nat) : (UPD_C_OTI_HI.T n).id = 1065 ∧ (UPD_C_OTI_HI.T n).ix = n ∧ (UPD_C_OTI_HI.T n).width = 16 := ⟨rfl, rfl, rfl⟩
@[simp] theorem UPD_C_OTI_HI.Z_id (n : Nat) : (UPD_C_OTI_HI.Z n).id = 1066 ∧ (UPD_C_OTI_HI.Z n).ix = n ∧ (UPD_C_OTI_HI.Z n).width = 8 := ⟨rfl, rfl, rfl⟩
@[simp] theorem UPD_C_ROUND.ROUND_id (n : Nat) : (UPD_C_ROUND.ROUND n).id = 1067 ∧ (UPD_C_ROUND.ROUND n).ix = n ∧ (UPD_C_ROUND.ROUND n).width = 8 := ⟨rfl, rfl, rfl⟩
@[simp] theorem UPD_C_ROUND.ROUNDS_id (n : Nat) : (UPD_C_ROUND.ROUNDS n).id = 1068 ∧ (UPD_C_ROUND.ROUNDS n).ix = n ∧ (UPD_C_ROUND.ROUNDS n).width = 8 := ⟨rfl, rfl, rfl⟩
@[simp] theorem UPD_C_SENT.COUNT_id (n : Nat) : (UPD_C_SENT.COUNT n).id = 1069 ∧ (UPD_C_SENT.COUNT n).ix = n ∧ (UPD_C_SENT.COUNT n).width = 32 := ⟨rfl, rfl, rfl⟩
@[simp] theorem UPD_C_NODES.ACTIVE_id (n : Nat) : (UPD_C_NODES.ACTIVE n).id = 1070 ∧ (UPD_C_NODES.ACTIVE n).ix = n ∧ (UPD_C_NODES.ACTIVE n).width = 18 := ⟨rfl, rfl, rfl⟩
@[simp] theorem UPD_C_DONE.DONE_id (n : Nat) : (UPD_C_DONE.DONE n).id = 1071 ∧ (UPD_C_DONE.DONE n).ix = n ∧ (UPD_C_DONE.DONE n).width = 18 := ⟨rfl, rfl, rfl⟩
@[simp] theorem UPD_C_FAIL.FAIL_id (n : Nat) : (UPD_C_FAIL.FAIL n).id = 1072 ∧ (UPD_C_FAIL.FAIL n).ix = n ∧ (UPD_C_FAIL.FAIL n).width = 18 := ⟨rfl, rfl, rfl⟩
@[simp] theorem KEY_CFG.BRINE_EN_id : KEY_CFG.BRINE_EN.id = 1073 ∧ KEY_CFG.BRINE_EN.ix = 0 ∧ KEY_CFG.BRINE_EN.width = 1 := ⟨rfl, rfl, rfl⟩
@[simp] theorem KEY_STS.STATE_id : KEY_STS.STATE.id = 1074 ∧ KEY_STS.STATE.ix = 0 ∧ KEY_STS.STATE.width = 3 := ⟨rfl, rfl, rfl⟩
@[simp] theorem KEY_STS.HTK_READY_id : KEY_STS.HTK_READY.id = 1075 ∧ KEY_STS.HTK_READY.ix = 0 ∧ KEY_STS.HTK_READY.width = 1 := ⟨rfl, rfl, rfl⟩
@[simp] theorem KEY_STS.CELLAR_NEW_id : KEY_STS.CELLAR_NEW.id = 1076 ∧ KEY_STS.CELLAR_NEW.ix = 0 ∧ KEY_STS.CELLAR_NEW.width = 1 := ⟨rfl, rfl, rfl⟩
@[simp] theorem KEY_STS.RNG_OK_id : KEY_STS.RNG_OK.id = 1077 ∧ KEY_STS.RNG_OK.ix = 0 ∧ KEY_STS.RNG_OK.width = 1 := ⟨rfl, rfl, rfl⟩
@[simp] theorem KEY_STS.SLOTS_id : KEY_STS.SLOTS.id = 1078 ∧ KEY_STS.SLOTS.ix = 0 ∧ KEY_STS.SLOTS.width = 6 := ⟨rfl, rfl, rfl⟩
@[simp] theorem KEY_INT_STS.TAMPER_id : KEY_INT_STS.TAMPER.id = 1079 ∧ KEY_INT_STS.TAMPER.ix = 0 ∧ KEY_INT_STS.TAMPER.width = 1 := ⟨rfl, rfl, rfl⟩
@[simp] theorem KEY_INT_STS.WIPED_id : KEY_INT_STS.WIPED.id = 1080 ∧ KEY_INT_STS.WIPED.ix = 0 ∧ KEY_INT_STS.WIPED.width = 1 := ⟨rfl, rfl, rfl⟩
@[simp] theorem KEY_INT_STS.RESTORED_id : KEY_INT_STS.RESTORED.id = 1081 ∧ KEY_INT_STS.RESTORED.ix = 0 ∧ KEY_INT_STS.RESTORED.width = 1 := ⟨rfl, rfl, rfl⟩
@[simp] theorem KEY_INT_STS.DEAD_id : KEY_INT_STS.DEAD.id = 1082 ∧ KEY_INT_STS.DEAD.ix = 0 ∧ KEY_INT_STS.DEAD.width = 1 := ⟨rfl, rfl, rfl⟩
@[simp] theorem KEY_INT_STS.RNG_FAIL_id : KEY_INT_STS.RNG_FAIL.id = 1083 ∧ KEY_INT_STS.RNG_FAIL.ix = 0 ∧ KEY_INT_STS.RNG_FAIL.width = 1 := ⟨rfl, rfl, rfl⟩
@[simp] theorem KEY_INT_STS.LOG_FULL_id : KEY_INT_STS.LOG_FULL.id = 1084 ∧ KEY_INT_STS.LOG_FULL.ix = 0 ∧ KEY_INT_STS.LOG_FULL.width = 1 := ⟨rfl, rfl, rfl⟩
@[simp] theorem KEY_INT_STS.CELLAR_NEW_id : KEY_INT_STS.CELLAR_NEW.id = 1085 ∧ KEY_INT_STS.CELLAR_NEW.ix = 0 ∧ KEY_INT_STS.CELLAR_NEW.width = 1 := ⟨rfl, rfl, rfl⟩
@[simp] theorem KEY_INT_STS.LOCKSTEP_id : KEY_INT_STS.LOCKSTEP.id = 1086 ∧ KEY_INT_STS.LOCKSTEP.ix = 0 ∧ KEY_INT_STS.LOCKSTEP.width = 1 := ⟨rfl, rfl, rfl⟩
@[simp] theorem KEY_INT_EN.TAMPER_id : KEY_INT_EN.TAMPER.id = 1087 ∧ KEY_INT_EN.TAMPER.ix = 0 ∧ KEY_INT_EN.TAMPER.width = 1 := ⟨rfl, rfl, rfl⟩
@[simp] theorem KEY_INT_EN.WIPED_id : KEY_INT_EN.WIPED.id = 1088 ∧ KEY_INT_EN.WIPED.ix = 0 ∧ KEY_INT_EN.WIPED.width = 1 := ⟨rfl, rfl, rfl⟩
@[simp] theorem KEY_INT_EN.RESTORED_id : KEY_INT_EN.RESTORED.id = 1089 ∧ KEY_INT_EN.RESTORED.ix = 0 ∧ KEY_INT_EN.RESTORED.width = 1 := ⟨rfl, rfl, rfl⟩
@[simp] theorem KEY_INT_EN.DEAD_id : KEY_INT_EN.DEAD.id = 1090 ∧ KEY_INT_EN.DEAD.ix = 0 ∧ KEY_INT_EN.DEAD.width = 1 := ⟨rfl, rfl, rfl⟩
@[simp] theorem KEY_INT_EN.RNG_FAIL_id : KEY_INT_EN.RNG_FAIL.id = 1091 ∧ KEY_INT_EN.RNG_FAIL.ix = 0 ∧ KEY_INT_EN.RNG_FAIL.width = 1 := ⟨rfl, rfl, rfl⟩
@[simp] theorem KEY_INT_EN.LOG_FULL_id : KEY_INT_EN.LOG_FULL.id = 1092 ∧ KEY_INT_EN.LOG_FULL.ix = 0 ∧ KEY_INT_EN.LOG_FULL.width = 1 := ⟨rfl, rfl, rfl⟩
@[simp] theorem KEY_INT_EN.CELLAR_NEW_id : KEY_INT_EN.CELLAR_NEW.id = 1093 ∧ KEY_INT_EN.CELLAR_NEW.ix = 0 ∧ KEY_INT_EN.CELLAR_NEW.width = 1 := ⟨rfl, rfl, rfl⟩
@[simp] theorem KEY_INT_EN.LOCKSTEP_id : KEY_INT_EN.LOCKSTEP.id = 1094 ∧ KEY_INT_EN.LOCKSTEP.ix = 0 ∧ KEY_INT_EN.LOCKSTEP.width = 1 := ⟨rfl, rfl, rfl⟩
@[simp] theorem KEY_LC.LC_id : KEY_LC.LC.id = 1095 ∧ KEY_LC.LC.ix = 0 ∧ KEY_LC.LC.width = 5 := ⟨rfl, rfl, rfl⟩
@[simp] theorem KEY_LC.RETURN_PEND_id : KEY_LC.RETURN_PEND.id = 1096 ∧ KEY_LC.RETURN_PEND.ix = 0 ∧ KEY_LC.RETURN_PEND.width = 1 := ⟨rfl, rfl, rfl⟩
@[simp] theorem KEY_TAMPER_STS.TOTAL_id : KEY_TAMPER_STS.TOTAL.id = 1097 ∧ KEY_TAMPER_STS.TOTAL.ix = 0 ∧ KEY_TAMPER_STS.TOTAL.width = 16 := ⟨rfl, rfl, rfl⟩
@[simp] theorem KEY_TAMPER_STS.UNACK_id : KEY_TAMPER_STS.UNACK.id = 1098 ∧ KEY_TAMPER_STS.UNACK.ix = 0 ∧ KEY_TAMPER_STS.UNACK.width = 5 := ⟨rfl, rfl, rfl⟩
@[simp] theorem KEY_TAMPER_STS.LATCHED_id : KEY_TAMPER_STS.LATCHED.id = 1099 ∧ KEY_TAMPER_STS.LATCHED.ix = 0 ∧ KEY_TAMPER_STS.LATCHED.width = 1 := ⟨rfl, rfl, rfl⟩
@[simp] theorem KEY_TAMPER_STS.LOG_FULL_id : KEY_TAMPER_STS.LOG_FULL.id = 1100 ∧ KEY_TAMPER_STS.LOG_FULL.ix = 0 ∧ KEY_TAMPER_STS.LOG_FULL.width = 1 := ⟨rfl, rfl, rfl⟩
@[simp] theorem KEY_TAMPER_STS.ZEROED_id : KEY_TAMPER_STS.ZEROED.id = 1101 ∧ KEY_TAMPER_STS.ZEROED.ix = 0 ∧ KEY_TAMPER_STS.ZEROED.width = 1 := ⟨rfl, rfl, rfl⟩
@[simp] theorem KEY_TAMPER_ACK.CODE_id : KEY_TAMPER_ACK.CODE.id = 1102 ∧ KEY_TAMPER_ACK.CODE.ix = 0 ∧ KEY_TAMPER_ACK.CODE.width = 16 := ⟨rfl, rfl, rfl⟩
@[simp] theorem KEY_RIND_CFG.PER_ACT_id : KEY_RIND_CFG.PER_ACT.id = 1103 ∧ KEY_RIND_CFG.PER_ACT.ix = 0 ∧ KEY_RIND_CFG.PER_ACT.width = 8 := ⟨rfl, rfl, rfl⟩
@[simp] theorem KEY_RIND_CFG.PER_SLEEP_id : KEY_RIND_CFG.PER_SLEEP.id = 1104 ∧ KEY_RIND_CFG.PER_SLEEP.ix = 0 ∧ KEY_RIND_CFG.PER_SLEEP.width = 8 := ⟨rfl, rfl, rfl⟩
@[simp] theorem KEY_RIND_CFG.DEB_id : KEY_RIND_CFG.DEB.id = 1105 ∧ KEY_RIND_CFG.DEB.ix = 0 ∧ KEY_RIND_CFG.DEB.width = 3 := ⟨rfl, rfl, rfl⟩
@[simp] theorem KEY_RIND_CFG.CASE_POL_id : KEY_RIND_CFG.CASE_POL.id = 1106 ∧ KEY_RIND_CFG.CASE_POL.ix = 0 ∧ KEY_RIND_CFG.CASE_POL.width = 1 := ⟨rfl, rfl, rfl⟩
@[simp] theorem KEY_RIND_EN.EN_id : KEY_RIND_EN.EN.id = 1107 ∧ KEY_RIND_EN.EN.ix = 0 ∧ KEY_RIND_EN.EN.width = 8 := ⟨rfl, rfl, rfl⟩
@[simp] theorem KEY_RIND_CLASS.FUSE_id : KEY_RIND_CLASS.FUSE.id = 1108 ∧ KEY_RIND_CLASS.FUSE.ix = 0 ∧ KEY_RIND_CLASS.FUSE.width = 8 := ⟨rfl, rfl, rfl⟩
@[simp] theorem KEY_RIND_CLASS.SOFT_id : KEY_RIND_CLASS.SOFT.id = 1109 ∧ KEY_RIND_CLASS.SOFT.ix = 0 ∧ KEY_RIND_CLASS.SOFT.width = 8 := ⟨rfl, rfl, rfl⟩
@[simp] theorem KEY_RIND_CLASS.EFF_id : KEY_RIND_CLASS.EFF.id = 1110 ∧ KEY_RIND_CLASS.EFF.ix = 0 ∧ KEY_RIND_CLASS.EFF.width = 8 := ⟨rfl, rfl, rfl⟩
@[simp] theorem KEY_RIND_STS.RAW_id : KEY_RIND_STS.RAW.id = 1111 ∧ KEY_RIND_STS.RAW.ix = 0 ∧ KEY_RIND_STS.RAW.width = 8 := ⟨rfl, rfl, rfl⟩
@[simp] theorem KEY_RIND_STS.TRIPPED_id : KEY_RIND_STS.TRIPPED.id = 1112 ∧ KEY_RIND_STS.TRIPPED.ix = 0 ∧ KEY_RIND_STS.TRIPPED.width = 8 := ⟨rfl, rfl, rfl⟩
@[simp] theorem KEY_BRINE_CFG.PERIOD_MS_id : KEY_BRINE_CFG.PERIOD_MS.id = 1113 ∧ KEY_BRINE_CFG.PERIOD_MS.ix = 0 ∧ KEY_BRINE_CFG.PERIOD_MS.width = 10 := ⟨rfl, rfl, rfl⟩
@[simp] theorem KEY_BRINE_STS.LAST_MS_id : KEY_BRINE_STS.LAST_MS.id = 1114 ∧ KEY_BRINE_STS.LAST_MS.ix = 0 ∧ KEY_BRINE_STS.LAST_MS.width = 16 := ⟨rfl, rfl, rfl⟩
@[simp] theorem KEY_BRINE_STS.POS_id : KEY_BRINE_STS.POS.id = 1115 ∧ KEY_BRINE_STS.POS.ix = 0 ∧ KEY_BRINE_STS.POS.width = 16 := ⟨rfl, rfl, rfl⟩
@[simp] theorem KEY_RNG_STS.OK_id : KEY_RNG_STS.OK.id = 1116 ∧ KEY_RNG_STS.OK.ix = 0 ∧ KEY_RNG_STS.OK.width = 1 := ⟨rfl, rfl, rfl⟩
@[simp] theorem KEY_RNG_STS.HEALTH_FAIL_id : KEY_RNG_STS.HEALTH_FAIL.id = 1117 ∧ KEY_RNG_STS.HEALTH_FAIL.ix = 0 ∧ KEY_RNG_STS.HEALTH_FAIL.width = 1 := ⟨rfl, rfl, rfl⟩
@[simp] theorem KEY_RNG_STS.FAILS_id : KEY_RNG_STS.FAILS.id = 1118 ∧ KEY_RNG_STS.FAILS.ix = 0 ∧ KEY_RNG_STS.FAILS.width = 8 := ⟨rfl, rfl, rfl⟩
@[simp] theorem KEY_SVN.SVN_id : KEY_SVN.SVN.id = 1119 ∧ KEY_SVN.SVN.ix = 0 ∧ KEY_SVN.SVN.width = 32 := ⟨rfl, rfl, rfl⟩
@[simp] theorem KEY_BOOTCNT.COUNT_id : KEY_BOOTCNT.COUNT.id = 1120 ∧ KEY_BOOTCNT.COUNT.ix = 0 ∧ KEY_BOOTCNT.COUNT.width = 32 := ⟨rfl, rfl, rfl⟩
@[simp] theorem KEY_BRINE_PASSES_id : KEY_BRINE_PASSES.id = 1121 ∧ KEY_BRINE_PASSES.ix = 0 ∧ KEY_BRINE_PASSES.width = 32 := ⟨rfl, rfl, rfl⟩
@[simp] theorem KEY_BRINE_SKIP_id : KEY_BRINE_SKIP.id = 1122 ∧ KEY_BRINE_SKIP.ix = 0 ∧ KEY_BRINE_SKIP.width = 32 := ⟨rfl, rfl, rfl⟩
@[simp] theorem KEY_RNG_FAIL_id : KEY_RNG_FAIL.id = 1123 ∧ KEY_RNG_FAIL.ix = 0 ∧ KEY_RNG_FAIL.width = 32 := ⟨rfl, rfl, rfl⟩
@[simp] theorem KEY_WIPES_id : KEY_WIPES.id = 1124 ∧ KEY_WIPES.ix = 0 ∧ KEY_WIPES.width = 32 := ⟨rfl, rfl, rfl⟩
@[simp] theorem KEY_RESTORES_id : KEY_RESTORES.id = 1125 ∧ KEY_RESTORES.ix = 0 ∧ KEY_RESTORES.width = 32 := ⟨rfl, rfl, rfl⟩
@[simp] theorem KEY_ABORTS_id : KEY_ABORTS.id = 1126 ∧ KEY_ABORTS.ix = 0 ∧ KEY_ABORTS.width = 32 := ⟨rfl, rfl, rfl⟩
@[simp] theorem KEY_ATTESTS_id : KEY_ATTESTS.id = 1127 ∧ KEY_ATTESTS.ix = 0 ∧ KEY_ATTESTS.width = 32 := ⟨rfl, rfl, rfl⟩
@[simp] theorem KEY_GEN_OPS_id : KEY_GEN_OPS.id = 1128 ∧ KEY_GEN_OPS.ix = 0 ∧ KEY_GEN_OPS.width = 32 := ⟨rfl, rfl, rfl⟩
@[simp] theorem KEY_IMPORT_OPS_id : KEY_IMPORT_OPS.id = 1129 ∧ KEY_IMPORT_OPS.ix = 0 ∧ KEY_IMPORT_OPS.width = 32 := ⟨rfl, rfl, rfl⟩
@[simp] theorem KEY_UNWRAP_FAIL_id : KEY_UNWRAP_FAIL.id = 1130 ∧ KEY_UNWRAP_FAIL.ix = 0 ∧ KEY_UNWRAP_FAIL.width = 32 := ⟨rfl, rfl, rfl⟩
@[simp] theorem KEY_GROUP_LOADS_id : KEY_GROUP_LOADS.id = 1131 ∧ KEY_GROUP_LOADS.ix = 0 ∧ KEY_GROUP_LOADS.width = 32 := ⟨rfl, rfl, rfl⟩
@[simp] theorem KEY_GROUP_ZEROED_id : KEY_GROUP_ZEROED.id = 1132 ∧ KEY_GROUP_ZEROED.ix = 0 ∧ KEY_GROUP_ZEROED.width = 32 := ⟨rfl, rfl, rfl⟩
@[simp] theorem KEY_ALIAS_SIGNS_id : KEY_ALIAS_SIGNS.id = 1133 ∧ KEY_ALIAS_SIGNS.ix = 0 ∧ KEY_ALIAS_SIGNS.width = 32 := ⟨rfl, rfl, rfl⟩
@[simp] theorem KEY_IDENT_SIGNS_id : KEY_IDENT_SIGNS.id = 1134 ∧ KEY_IDENT_SIGNS.ix = 0 ∧ KEY_IDENT_SIGNS.width = 32 := ⟨rfl, rfl, rfl⟩
@[simp] theorem KEY_LOCKSTEP_ERR_id : KEY_LOCKSTEP_ERR.id = 1135 ∧ KEY_LOCKSTEP_ERR.ix = 0 ∧ KEY_LOCKSTEP_ERR.width = 32 := ⟨rfl, rfl, rfl⟩
@[simp] theorem KEY_HOLD_BOOTS_id : KEY_HOLD_BOOTS.id = 1136 ∧ KEY_HOLD_BOOTS.ix = 0 ∧ KEY_HOLD_BOOTS.width = 32 := ⟨rfl, rfl, rfl⟩
@[simp] theorem KEY_MEAS.M_id (i : Nat) : (KEY_MEAS.M i).id = 1137 ∧ (KEY_MEAS.M i).ix = i ∧ (KEY_MEAS.M i).width = 32 := ⟨rfl, rfl, rfl⟩
@[simp] theorem KEY_IDENT_PUB.K_id (i : Nat) : (KEY_IDENT_PUB.K i).id = 1138 ∧ (KEY_IDENT_PUB.K i).ix = i ∧ (KEY_IDENT_PUB.K i).width = 32 := ⟨rfl, rfl, rfl⟩
@[simp] theorem KEY_ALIAS_PUB.K_id (i : Nat) : (KEY_ALIAS_PUB.K i).id = 1139 ∧ (KEY_ALIAS_PUB.K i).ix = i ∧ (KEY_ALIAS_PUB.K i).width = 32 := ⟨rfl, rfl, rfl⟩
@[simp] theorem KEY_XCHG_PUB.K_id (i : Nat) : (KEY_XCHG_PUB.K i).id = 1140 ∧ (KEY_XCHG_PUB.K i).ix = i ∧ (KEY_XCHG_PUB.K i).width = 32 := ⟨rfl, rfl, rfl⟩
@[simp] theorem KEY_HOSTPUB.K_id (i : Nat) : (KEY_HOSTPUB.K i).id = 1141 ∧ (KEY_HOSTPUB.K i).ix = i ∧ (KEY_HOSTPUB.K i).width = 32 := ⟨rfl, rfl, rfl⟩
@[simp] theorem KEY_SLOT_STS.SLOT_0_id (i : Nat) : (KEY_SLOT_STS.SLOT_0 i).id = 1142 ∧ (KEY_SLOT_STS.SLOT_0 i).ix = i ∧ (KEY_SLOT_STS.SLOT_0 i).width = 8 := ⟨rfl, rfl, rfl⟩
@[simp] theorem KEY_SLOT_STS.SLOT_1_id (i : Nat) : (KEY_SLOT_STS.SLOT_1 i).id = 1143 ∧ (KEY_SLOT_STS.SLOT_1 i).ix = i ∧ (KEY_SLOT_STS.SLOT_1 i).width = 8 := ⟨rfl, rfl, rfl⟩
@[simp] theorem KEY_SLOT_STS.SLOT_2_id (i : Nat) : (KEY_SLOT_STS.SLOT_2 i).id = 1144 ∧ (KEY_SLOT_STS.SLOT_2 i).ix = i ∧ (KEY_SLOT_STS.SLOT_2 i).width = 8 := ⟨rfl, rfl, rfl⟩
@[simp] theorem KEY_SLOT_STS.SLOT_3_id (i : Nat) : (KEY_SLOT_STS.SLOT_3 i).id = 1145 ∧ (KEY_SLOT_STS.SLOT_3 i).ix = i ∧ (KEY_SLOT_STS.SLOT_3 i).width = 8 := ⟨rfl, rfl, rfl⟩
@[simp] theorem KEY_RIND_CNT.COUNT_id (i : Nat) : (KEY_RIND_CNT.COUNT i).id = 1146 ∧ (KEY_RIND_CNT.COUNT i).ix = i ∧ (KEY_RIND_CNT.COUNT i).width = 32 := ⟨rfl, rfl, rfl⟩
@[simp] theorem KEY_TLOG_A.RTC_S_id (i : Nat) : (KEY_TLOG_A.RTC_S i).id = 1147 ∧ (KEY_TLOG_A.RTC_S i).ix = i ∧ (KEY_TLOG_A.RTC_S i).width = 32 := ⟨rfl, rfl, rfl⟩
@[simp] theorem KEY_TLOG_B.RTC_TICK_id (i : Nat) : (KEY_TLOG_B.RTC_TICK i).id = 1148 ∧ (KEY_TLOG_B.RTC_TICK i).ix = i ∧ (KEY_TLOG_B.RTC_TICK i).width = 15 := ⟨rfl, rfl, rfl⟩
@[simp] theorem KEY_TLOG_B.SENSOR_id (i : Nat) : (KEY_TLOG_B.SENSOR i).id = 1149 ∧ (KEY_TLOG_B.SENSOR i).ix = i ∧ (KEY_TLOG_B.SENSOR i).width = 4 := ⟨rfl, rfl, rfl⟩
@[simp] theorem KEY_TLOG_B.CLASS_A_id (i : Nat) : (KEY_TLOG_B.CLASS_A i).id = 1150 ∧ (KEY_TLOG_B.CLASS_A i).ix = i ∧ (KEY_TLOG_B.CLASS_A i).width = 1 := ⟨rfl, rfl, rfl⟩
@[simp] theorem KEY_TLOG_B.PHASE_id (i : Nat) : (KEY_TLOG_B.PHASE i).id = 1151 ∧ (KEY_TLOG_B.PHASE i).ix = i ∧ (KEY_TLOG_B.PHASE i).width = 3 := ⟨rfl, rfl, rfl⟩
@[simp] theorem KEY_TLOG_B.ACK_id (i : Nat) : (KEY_TLOG_B.ACK i).id = 1152 ∧ (KEY_TLOG_B.ACK i).ix = i ∧ (KEY_TLOG_B.ACK i).width = 2 := ⟨rfl, rfl, rfl⟩
@[simp] theorem KEY_TLOG_B.VALID_id (i : Nat) : (KEY_TLOG_B.VALID i).id = 1153 ∧ (KEY_TLOG_B.VALID i).ix = i ∧ (KEY_TLOG_B.VALID i).width = 1 := ⟨rfl, rfl, rfl⟩
@[simp] theorem KEY_TLOG_B.ZEROED_id (i : Nat) : (KEY_TLOG_B.ZEROED i).id = 1154 ∧ (KEY_TLOG_B.ZEROED i).ix = i ∧ (KEY_TLOG_B.ZEROED i).width = 1 := ⟨rfl, rfl, rfl⟩
@[simp] theorem SYS_ID.STEP_id : SYS_ID.STEP.id = 1155 ∧ SYS_ID.STEP.ix = 0 ∧ SYS_ID.STEP.width = 8 := ⟨rfl, rfl, rfl⟩
@[simp] theorem SYS_ID.GRADE_id : SYS_ID.GRADE.id = 1156 ∧ SYS_ID.GRADE.ix = 0 ∧ SYS_ID.GRADE.width = 8 := ⟨rfl, rfl, rfl⟩
@[simp] theorem SYS_ID.PART_id : SYS_ID.PART.id = 1157 ∧ SYS_ID.PART.ix = 0 ∧ SYS_ID.PART.width = 16 := ⟨rfl, rfl, rfl⟩
@[simp] theorem SYS_RST_CAUSE.HIST_id : SYS_RST_CAUSE.HIST.id = 1158 ∧ SYS_RST_CAUSE.HIST.ix = 0 ∧ SYS_RST_CAUSE.HIST.width = 6 := ⟨rfl, rfl, rfl⟩
@[simp] theorem SYS_RST_CAUSE.LAST_id : SYS_RST_CAUSE.LAST.id = 1159 ∧ SYS_RST_CAUSE.LAST.ix = 0 ∧ SYS_RST_CAUSE.LAST.width = 3 := ⟨rfl, rfl, rfl⟩
@[simp] theorem SYS_RST_CTL.WARM_id : SYS_RST_CTL.WARM.id = 1160 ∧ SYS_RST_CTL.WARM.ix = 0 ∧ SYS_RST_CTL.WARM.width = 1 := ⟨rfl, rfl, rfl⟩
@[simp] theorem SYS_RST_CTL.KEY_id : SYS_RST_CTL.KEY.id = 1161 ∧ SYS_RST_CTL.KEY.ix = 0 ∧ SYS_RST_CTL.KEY.width = 16 := ⟨rfl, rfl, rfl⟩
@[simp] theorem SYS_MODE.MODE_id : SYS_MODE.MODE.id = 1162 ∧ SYS_MODE.MODE.ix = 0 ∧ SYS_MODE.MODE.width = 2 := ⟨rfl, rfl, rfl⟩
@[simp] theorem SYS_MODE_STS.CUR_id : SYS_MODE_STS.CUR.id = 1163 ∧ SYS_MODE_STS.CUR.ix = 0 ∧ SYS_MODE_STS.CUR.width = 2 := ⟨rfl, rfl, rfl⟩
@[simp] theorem SYS_MODE_STS.PEND_id : SYS_MODE_STS.PEND.id = 1164 ∧ SYS_MODE_STS.PEND.ix = 0 ∧ SYS_MODE_STS.PEND.width = 2 := ⟨rfl, rfl, rfl⟩
@[simp] theorem SYS_MODE_STS.BUSY_id : SYS_MODE_STS.BUSY.id = 1165 ∧ SYS_MODE_STS.BUSY.ix = 0 ∧ SYS_MODE_STS.BUSY.width = 1 := ⟨rfl, rfl, rfl⟩
@[simp] theorem SYS_MODE_STS.FAIL_id : SYS_MODE_STS.FAIL.id = 1166 ∧ SYS_MODE_STS.FAIL.ix = 0 ∧ SYS_MODE_STS.FAIL.width = 1 := ⟨rfl, rfl, rfl⟩
@[simp] theorem SYS_CFG_LOCK.LOCK_id : SYS_CFG_LOCK.LOCK.id = 1167 ∧ SYS_CFG_LOCK.LOCK.ix = 0 ∧ SYS_CFG_LOCK.LOCK.width = 1 := ⟨rfl, rfl, rfl⟩
@[simp] theorem SYS_INT_STS.BOOT_DONE_id : SYS_INT_STS.BOOT_DONE.id = 1168 ∧ SYS_INT_STS.BOOT_DONE.ix = 0 ∧ SYS_INT_STS.BOOT_DONE.width = 1 := ⟨rfl, rfl, rfl⟩
@[simp] theorem SYS_INT_STS.BOOT_FAIL_id : SYS_INT_STS.BOOT_FAIL.id = 1169 ∧ SYS_INT_STS.BOOT_FAIL.ix = 0 ∧ SYS_INT_STS.BOOT_FAIL.width = 1 := ⟨rfl, rfl, rfl⟩
@[simp] theorem SYS_INT_STS.MODE_DONE_id : SYS_INT_STS.MODE_DONE.id = 1170 ∧ SYS_INT_STS.MODE_DONE.ix = 0 ∧ SYS_INT_STS.MODE_DONE.width = 1 := ⟨rfl, rfl, rfl⟩
@[simp] theorem SYS_INT_STS.LC_PEND_id : SYS_INT_STS.LC_PEND.id = 1171 ∧ SYS_INT_STS.LC_PEND.ix = 0 ∧ SYS_INT_STS.LC_PEND.width = 1 := ⟨rfl, rfl, rfl⟩
@[simp] theorem SYS_INT_STS.UC_LOADED_id : SYS_INT_STS.UC_LOADED.id = 1172 ∧ SYS_INT_STS.UC_LOADED.ix = 0 ∧ SYS_INT_STS.UC_LOADED.width = 1 := ⟨rfl, rfl, rfl⟩
@[simp] theorem SYS_INT_STS.UC_REJECT_id : SYS_INT_STS.UC_REJECT.id = 1173 ∧ SYS_INT_STS.UC_REJECT.ix = 0 ∧ SYS_INT_STS.UC_REJECT.width = 1 := ⟨rfl, rfl, rfl⟩
@[simp] theorem SYS_INT_STS.SVN_DONE_id : SYS_INT_STS.SVN_DONE.id = 1174 ∧ SYS_INT_STS.SVN_DONE.ix = 0 ∧ SYS_INT_STS.SVN_DONE.width = 1 := ⟨rfl, rfl, rfl⟩
@[simp] theorem SYS_INT_STS.FUSE_DONE_id : SYS_INT_STS.FUSE_DONE.id = 1175 ∧ SYS_INT_STS.FUSE_DONE.ix = 0 ∧ SYS_INT_STS.FUSE_DONE.width = 1 := ⟨rfl, rfl, rfl⟩
@[simp] theorem SYS_INT_EN.BOOT_DONE_id : SYS_INT_EN.BOOT_DONE.id = 1176 ∧ SYS_INT_EN.BOOT_DONE.ix = 0 ∧ SYS_INT_EN.BOOT_DONE.width = 1 := ⟨rfl, rfl, rfl⟩
@[simp] theorem SYS_INT_EN.BOOT_FAIL_id : SYS_INT_EN.BOOT_FAIL.id = 1177 ∧ SYS_INT_EN.BOOT_FAIL.ix = 0 ∧ SYS_INT_EN.BOOT_FAIL.width = 1 := ⟨rfl, rfl, rfl⟩
@[simp] theorem SYS_INT_EN.MODE_DONE_id : SYS_INT_EN.MODE_DONE.id = 1178 ∧ SYS_INT_EN.MODE_DONE.ix = 0 ∧ SYS_INT_EN.MODE_DONE.width = 1 := ⟨rfl, rfl, rfl⟩
@[simp] theorem SYS_INT_EN.LC_PEND_id : SYS_INT_EN.LC_PEND.id = 1179 ∧ SYS_INT_EN.LC_PEND.ix = 0 ∧ SYS_INT_EN.LC_PEND.width = 1 := ⟨rfl, rfl, rfl⟩
@[simp] theorem SYS_INT_EN.UC_LOADED_id : SYS_INT_EN.UC_LOADED.id = 1180 ∧ SYS_INT_EN.UC_LOADED.ix = 0 ∧ SYS_INT_EN.UC_LOADED.width = 1 := ⟨rfl, rfl, rfl⟩
@[simp] theorem SYS_INT_EN.UC_REJECT_id : SYS_INT_EN.UC_REJECT.id = 1181 ∧ SYS_INT_EN.UC_REJECT.ix = 0 ∧ SYS_INT_EN.UC_REJECT.width = 1 := ⟨rfl, rfl, rfl⟩
@[simp] theorem SYS_INT_EN.SVN_DONE_id : SYS_INT_EN.SVN_DONE.id = 1182 ∧ SYS_INT_EN.SVN_DONE.ix = 0 ∧ SYS_INT_EN.SVN_DONE.width = 1 := ⟨rfl, rfl, rfl⟩
@[simp] theorem SYS_INT_EN.FUSE_DONE_id : SYS_INT_EN.FUSE_DONE.id = 1183 ∧ SYS_INT_EN.FUSE_DONE.ix = 0 ∧ SYS_INT_EN.FUSE_DONE.width = 1 := ⟨rfl, rfl, rfl⟩
@[simp] theorem SYS_BOOT_CFG.STRAP_id : SYS_BOOT_CFG.STRAP.id = 1184 ∧ SYS_BOOT_CFG.STRAP.ix = 0 ∧ SYS_BOOT_CFG.STRAP.width = 2 := ⟨rfl, rfl, rfl⟩
@[simp] theorem SYS_BOOT_CFG.OVR_EN_id : SYS_BOOT_CFG.OVR_EN.id = 1185 ∧ SYS_BOOT_CFG.OVR_EN.ix = 0 ∧ SYS_BOOT_CFG.OVR_EN.width = 1 := ⟨rfl, rfl, rfl⟩
@[simp] theorem SYS_BOOT_CFG.OVR_SRC_id : SYS_BOOT_CFG.OVR_SRC.id = 1186 ∧ SYS_BOOT_CFG.OVR_SRC.ix = 0 ∧ SYS_BOOT_CFG.OVR_SRC.width = 2 := ⟨rfl, rfl, rfl⟩
@[simp] theorem SYS_BOOT_STS.STAGE_id : SYS_BOOT_STS.STAGE.id = 1187 ∧ SYS_BOOT_STS.STAGE.ix = 0 ∧ SYS_BOOT_STS.STAGE.width = 4 := ⟨rfl, rfl, rfl⟩
@[simp] theorem SYS_BOOT_STS.SRC_id : SYS_BOOT_STS.SRC.id = 1188 ∧ SYS_BOOT_STS.SRC.ix = 0 ∧ SYS_BOOT_STS.SRC.width = 2 := ⟨rfl, rfl, rfl⟩
@[simp] theorem SYS_BOOT_STS.SLOT_id : SYS_BOOT_STS.SLOT.id = 1189 ∧ SYS_BOOT_STS.SLOT.ix = 0 ∧ SYS_BOOT_STS.SLOT.width = 1 := ⟨rfl, rfl, rfl⟩
@[simp] theorem SYS_BOOT_STS.FALLBACK_id : SYS_BOOT_STS.FALLBACK.id = 1190 ∧ SYS_BOOT_STS.FALLBACK.ix = 0 ∧ SYS_BOOT_STS.FALLBACK.width = 1 := ⟨rfl, rfl, rfl⟩
@[simp] theorem SYS_BOOT_STS.ERR_id : SYS_BOOT_STS.ERR.id = 1191 ∧ SYS_BOOT_STS.ERR.ix = 0 ∧ SYS_BOOT_STS.ERR.width = 4 := ⟨rfl, rfl, rfl⟩
@[simp] theorem SYS_BOOT_TIME.US_id : SYS_BOOT_TIME.US.id = 1192 ∧ SYS_BOOT_TIME.US.ix = 0 ∧ SYS_BOOT_TIME.US.width = 24 := ⟨rfl, rfl, rfl⟩
@[simp] theorem SYS_PCIE_BOOT_LO.ADDR_id : SYS_PCIE_BOOT_LO.ADDR.id = 1193 ∧ SYS_PCIE_BOOT_LO.ADDR.ix = 0 ∧ SYS_PCIE_BOOT_LO.ADDR.width = 32 := ⟨rfl, rfl, rfl⟩
@[simp] theorem SYS_PCIE_BOOT_HI.ADDR_id : SYS_PCIE_BOOT_HI.ADDR.id = 1194 ∧ SYS_PCIE_BOOT_HI.ADDR.ix = 0 ∧ SYS_PCIE_BOOT_HI.ADDR.width = 32 := ⟨rfl, rfl, rfl⟩
@[simp] theorem SYS_PCIE_BOOT_LEN.LEN_id : SYS_PCIE_BOOT_LEN.LEN.id = 1195 ∧ SYS_PCIE_BOOT_LEN.LEN.ix = 0 ∧ SYS_PCIE_BOOT_LEN.LEN.width = 25 := ⟨rfl, rfl, rfl⟩
@[simp] theorem SYS_PCIE_BOOT_CTL.GO_id : SYS_PCIE_BOOT_CTL.GO.id = 1196 ∧ SYS_PCIE_BOOT_CTL.GO.ix = 0 ∧ SYS_PCIE_BOOT_CTL.GO.width = 1 := ⟨rfl, rfl, rfl⟩
@[simp] theorem SYS_LC_REQ.TARGET_id : SYS_LC_REQ.TARGET.id = 1197 ∧ SYS_LC_REQ.TARGET.ix = 0 ∧ SYS_LC_REQ.TARGET.width = 5 := ⟨rfl, rfl, rfl⟩
@[simp] theorem SYS_LC_REQ.KEY_id : SYS_LC_REQ.KEY.id = 1198 ∧ SYS_LC_REQ.KEY.ix = 0 ∧ SYS_LC_REQ.KEY.width = 16 := ⟨rfl, rfl, rfl⟩
@[simp] theorem SYS_LC_STS.LC_id : SYS_LC_STS.LC.id = 1199 ∧ SYS_LC_STS.LC.ix = 0 ∧ SYS_LC_STS.LC.width = 5 := ⟨rfl, rfl, rfl⟩
@[simp] theorem SYS_LC_STS.PEND_id : SYS_LC_STS.PEND.id = 1200 ∧ SYS_LC_STS.PEND.ix = 0 ∧ SYS_LC_STS.PEND.width = 5 := ⟨rfl, rfl, rfl⟩
@[simp] theorem SYS_LC_STS.RESULT_id : SYS_LC_STS.RESULT.id = 1201 ∧ SYS_LC_STS.RESULT.ix = 0 ∧ SYS_LC_STS.RESULT.width = 3 := ⟨rfl, rfl, rfl⟩
@[simp] theorem SYS_FUSE_CTL.TARGET_id : SYS_FUSE_CTL.TARGET.id = 1202 ∧ SYS_FUSE_CTL.TARGET.ix = 0 ∧ SYS_FUSE_CTL.TARGET.width = 2 := ⟨rfl, rfl, rfl⟩
@[simp] theorem SYS_FUSE_CTL.VAL_id : SYS_FUSE_CTL.VAL.id = 1203 ∧ SYS_FUSE_CTL.VAL.ix = 0 ∧ SYS_FUSE_CTL.VAL.width = 1 := ⟨rfl, rfl, rfl⟩
@[simp] theorem SYS_FUSE_CTL.PROG_id : SYS_FUSE_CTL.PROG.id = 1204 ∧ SYS_FUSE_CTL.PROG.ix = 0 ∧ SYS_FUSE_CTL.PROG.width = 1 := ⟨rfl, rfl, rfl⟩
@[simp] theorem SYS_FUSE_STS.DONE_id : SYS_FUSE_STS.DONE.id = 1205 ∧ SYS_FUSE_STS.DONE.ix = 0 ∧ SYS_FUSE_STS.DONE.width = 3 := ⟨rfl, rfl, rfl⟩
@[simp] theorem SYS_FUSE_STS.BSCAN_FIELD_id : SYS_FUSE_STS.BSCAN_FIELD.id = 1206 ∧ SYS_FUSE_STS.BSCAN_FIELD.ix = 0 ∧ SYS_FUSE_STS.BSCAN_FIELD.width = 1 := ⟨rfl, rfl, rfl⟩
@[simp] theorem SYS_FUSE_STS.BUSY_id : SYS_FUSE_STS.BUSY.id = 1207 ∧ SYS_FUSE_STS.BUSY.ix = 0 ∧ SYS_FUSE_STS.BUSY.width = 1 := ⟨rfl, rfl, rfl⟩
@[simp] theorem SYS_FUSE_STS.ERR_id : SYS_FUSE_STS.ERR.id = 1208 ∧ SYS_FUSE_STS.ERR.ix = 0 ∧ SYS_FUSE_STS.ERR.width = 1 := ⟨rfl, rfl, rfl⟩
@[simp] theorem SYS_SVN_CTL.TARGET_id : SYS_SVN_CTL.TARGET.id = 1209 ∧ SYS_SVN_CTL.TARGET.ix = 0 ∧ SYS_SVN_CTL.TARGET.width = 7 := ⟨rfl, rfl, rfl⟩
@[simp] theorem SYS_SVN_CTL.GO_id : SYS_SVN_CTL.GO.id = 1210 ∧ SYS_SVN_CTL.GO.ix = 0 ∧ SYS_SVN_CTL.GO.width = 1 := ⟨rfl, rfl, rfl⟩
@[simp] theorem SYS_SVN_CTL.MAX_id : SYS_SVN_CTL.MAX.id = 1211 ∧ SYS_SVN_CTL.MAX.ix = 0 ∧ SYS_SVN_CTL.MAX.width = 7 := ⟨rfl, rfl, rfl⟩
@[simp] theorem SYS_SVN_CTL.BUSY_id : SYS_SVN_CTL.BUSY.id = 1212 ∧ SYS_SVN_CTL.BUSY.ix = 0 ∧ SYS_SVN_CTL.BUSY.width = 1 := ⟨rfl, rfl, rfl⟩
@[simp] theorem SYS_SVN_CTL.BAD_id : SYS_SVN_CTL.BAD.id = 1213 ∧ SYS_SVN_CTL.BAD.ix = 0 ∧ SYS_SVN_CTL.BAD.width = 1 := ⟨rfl, rfl, rfl⟩
@[simp] theorem SYS_REL_STS.CORES_id : SYS_REL_STS.CORES.id = 1214 ∧ SYS_REL_STS.CORES.ix = 0 ∧ SYS_REL_STS.CORES.width = 8 := ⟨rfl, rfl, rfl⟩
@[simp] theorem SYS_REL_STS.LANES_id : SYS_REL_STS.LANES.id = 1215 ∧ SYS_REL_STS.LANES.ix = 0 ∧ SYS_REL_STS.LANES.width = 4 := ⟨rfl, rfl, rfl⟩
@[simp] theorem SYS_REL_STS.SERAC_id : SYS_REL_STS.SERAC.id = 1216 ∧ SYS_REL_STS.SERAC.ix = 0 ∧ SYS_REL_STS.SERAC.width = 1 := ⟨rfl, rfl, rfl⟩
@[simp] theorem SYS_SRAM_STS.DONE_id : SYS_SRAM_STS.DONE.id = 1217 ∧ SYS_SRAM_STS.DONE.ix = 0 ∧ SYS_SRAM_STS.DONE.width = 1 := ⟨rfl, rfl, rfl⟩
@[simp] theorem SYS_SRAM_STS.US_id : SYS_SRAM_STS.US.id = 1218 ∧ SYS_SRAM_STS.US.ix = 0 ∧ SYS_SRAM_STS.US.width = 16 := ⟨rfl, rfl, rfl⟩
@[simp] theorem SYS_UC_STS.TARGET_id : SYS_UC_STS.TARGET.id = 1219 ∧ SYS_UC_STS.TARGET.ix = 0 ∧ SYS_UC_STS.TARGET.width = 4 := ⟨rfl, rfl, rfl⟩
@[simp] theorem SYS_UC_STS.RESULT_id : SYS_UC_STS.RESULT.id = 1220 ∧ SYS_UC_STS.RESULT.ix = 0 ∧ SYS_UC_STS.RESULT.width = 8 := ⟨rfl, rfl, rfl⟩
@[simp] theorem SYS_UC_STS.VER_id : SYS_UC_STS.VER.id = 1221 ∧ SYS_UC_STS.VER.ix = 0 ∧ SYS_UC_STS.VER.width = 16 := ⟨rfl, rfl, rfl⟩
@[simp] theorem SYS_LC_NONCE.NONCE_id : SYS_LC_NONCE.NONCE.id = 1222 ∧ SYS_LC_NONCE.NONCE.ix = 0 ∧ SYS_LC_NONCE.NONCE.width = 32 := ⟨rfl, rfl, rfl⟩
@[simp] theorem SYS_BOOTS_id : SYS_BOOTS.id = 1223 ∧ SYS_BOOTS.ix = 0 ∧ SYS_BOOTS.width = 32 := ⟨rfl, rfl, rfl⟩
@[simp] theorem SYS_WARM_RESETS_id : SYS_WARM_RESETS.id = 1224 ∧ SYS_WARM_RESETS.ix = 0 ∧ SYS_WARM_RESETS.width = 32 := ⟨rfl, rfl, rfl⟩
@[simp] theorem SYS_FAULT_RESETS_id : SYS_FAULT_RESETS.id = 1225 ∧ SYS_FAULT_RESETS.ix = 0 ∧ SYS_FAULT_RESETS.width = 32 := ⟨rfl, rfl, rfl⟩
@[simp] theorem SYS_WAKES_id : SYS_WAKES.id = 1226 ∧ SYS_WAKES.ix = 0 ∧ SYS_WAKES.width = 32 := ⟨rfl, rfl, rfl⟩
@[simp] theorem SYS_BOOT_FAILS_id : SYS_BOOT_FAILS.id = 1227 ∧ SYS_BOOT_FAILS.ix = 0 ∧ SYS_BOOT_FAILS.width = 32 := ⟨rfl, rfl, rfl⟩
@[simp] theorem SYS_UCODE_LOADS_id : SYS_UCODE_LOADS.id = 1228 ∧ SYS_UCODE_LOADS.ix = 0 ∧ SYS_UCODE_LOADS.width = 32 := ⟨rfl, rfl, rfl⟩
@[simp] theorem SYS_UCODE_REJECTS_id : SYS_UCODE_REJECTS.id = 1229 ∧ SYS_UCODE_REJECTS.ix = 0 ∧ SYS_UCODE_REJECTS.width = 32 := ⟨rfl, rfl, rfl⟩
@[simp] theorem SYS_PC_RELOADS_id : SYS_PC_RELOADS.id = 1230 ∧ SYS_PC_RELOADS.ix = 0 ∧ SYS_PC_RELOADS.width = 32 := ⟨rfl, rfl, rfl⟩
@[simp] theorem SYS_LC_TOKEN.T_id (i : Nat) : (SYS_LC_TOKEN.T i).id = 1231 ∧ (SYS_LC_TOKEN.T i).ix = i ∧ (SYS_LC_TOKEN.T i).width = 32 := ⟨rfl, rfl, rfl⟩
@[simp] theorem SYS_OWNER_KEY.K_id (i : Nat) : (SYS_OWNER_KEY.K i).id = 1232 ∧ (SYS_OWNER_KEY.K i).ix = i ∧ (SYS_OWNER_KEY.K i).width = 32 := ⟨rfl, rfl, rfl⟩
@[simp] theorem SYS_IMG_STS.KIND_id (i : Nat) : (SYS_IMG_STS.KIND i).id = 1233 ∧ (SYS_IMG_STS.KIND i).ix = i ∧ (SYS_IMG_STS.KIND i).width = 8 := ⟨rfl, rfl, rfl⟩
@[simp] theorem SYS_IMG_STS.RESULT_id (i : Nat) : (SYS_IMG_STS.RESULT i).id = 1234 ∧ (SYS_IMG_STS.RESULT i).ix = i ∧ (SYS_IMG_STS.RESULT i).width = 4 := ⟨rfl, rfl, rfl⟩
@[simp] theorem SYS_IMG_STS.MEASURED_id (i : Nat) : (SYS_IMG_STS.MEASURED i).id = 1235 ∧ (SYS_IMG_STS.MEASURED i).ix = i ∧ (SYS_IMG_STS.MEASURED i).width = 1 := ⟨rfl, rfl, rfl⟩
@[simp] theorem SYS_IMG_STS.VER_id (i : Nat) : (SYS_IMG_STS.VER i).id = 1236 ∧ (SYS_IMG_STS.VER i).ix = i ∧ (SYS_IMG_STS.VER i).width = 16 := ⟨rfl, rfl, rfl⟩
@[simp] theorem SYS_BOOT_TRACE.US_id (i : Nat) : (SYS_BOOT_TRACE.US i).id = 1237 ∧ (SYS_BOOT_TRACE.US i).ix = i ∧ (SYS_BOOT_TRACE.US i).width = 24 := ⟨rfl, rfl, rfl⟩
@[simp] theorem SYS_BOOT_TRACE.STAGE_id (i : Nat) : (SYS_BOOT_TRACE.STAGE i).id = 1238 ∧ (SYS_BOOT_TRACE.STAGE i).ix = i ∧ (SYS_BOOT_TRACE.STAGE i).width = 4 := ⟨rfl, rfl, rfl⟩
@[simp] theorem SYS_SCRATCH.V_id (i : Nat) : (SYS_SCRATCH.V i).id = 1239 ∧ (SYS_SCRATCH.V i).ix = i ∧ (SYS_SCRATCH.V i).width = 32 := ⟨rfl, rfl, rfl⟩
@[simp] theorem PCR_CFG.EN_id : PCR_CFG.EN.id = 1240 ∧ PCR_CFG.EN.ix = 0 ∧ PCR_CFG.EN.width = 1 := ⟨rfl, rfl, rfl⟩
@[simp] theorem PCR_CFG.REGION_EN_id : PCR_CFG.REGION_EN.id = 1241 ∧ PCR_CFG.REGION_EN.ix = 0 ∧ PCR_CFG.REGION_EN.width = 1 := ⟨rfl, rfl, rfl⟩
@[simp] theorem PCR_STS.RUN_id : PCR_STS.RUN.id = 1242 ∧ PCR_STS.RUN.ix = 0 ∧ PCR_STS.RUN.width = 8 := ⟨rfl, rfl, rfl⟩
@[simp] theorem PCR_STS.HELD_id : PCR_STS.HELD.id = 1243 ∧ PCR_STS.HELD.ix = 0 ∧ PCR_STS.HELD.width = 8 := ⟨rfl, rfl, rfl⟩
@[simp] theorem PCR_INT_STS.DRAINED_id : PCR_INT_STS.DRAINED.id = 1244 ∧ PCR_INT_STS.DRAINED.ix = 0 ∧ PCR_INT_STS.DRAINED.width = 1 := ⟨rfl, rfl, rfl⟩
@[simp] theorem PCR_INT_STS.DRAIN_FORCED_id : PCR_INT_STS.DRAIN_FORCED.id = 1245 ∧ PCR_INT_STS.DRAIN_FORCED.ix = 0 ∧ PCR_INT_STS.DRAIN_FORCED.width = 1 := ⟨rfl, rfl, rfl⟩
@[simp] theorem PCR_INT_STS.HANG_id : PCR_INT_STS.HANG.id = 1246 ∧ PCR_INT_STS.HANG.ix = 0 ∧ PCR_INT_STS.HANG.width = 1 := ⟨rfl, rfl, rfl⟩
@[simp] theorem PCR_INT_STS.REGION_id : PCR_INT_STS.REGION.id = 1247 ∧ PCR_INT_STS.REGION.ix = 0 ∧ PCR_INT_STS.REGION.width = 1 := ⟨rfl, rfl, rfl⟩
@[simp] theorem PCR_INT_STS.MBOX_OUT_id : PCR_INT_STS.MBOX_OUT.id = 1248 ∧ PCR_INT_STS.MBOX_OUT.ix = 0 ∧ PCR_INT_STS.MBOX_OUT.width = 1 := ⟨rfl, rfl, rfl⟩
@[simp] theorem PCR_INT_STS.EXC_id : PCR_INT_STS.EXC.id = 1249 ∧ PCR_INT_STS.EXC.ix = 0 ∧ PCR_INT_STS.EXC.width = 1 := ⟨rfl, rfl, rfl⟩
@[simp] theorem PCR_INT_EN.DRAINED_id : PCR_INT_EN.DRAINED.id = 1250 ∧ PCR_INT_EN.DRAINED.ix = 0 ∧ PCR_INT_EN.DRAINED.width = 1 := ⟨rfl, rfl, rfl⟩
@[simp] theorem PCR_INT_EN.DRAIN_FORCED_id : PCR_INT_EN.DRAIN_FORCED.id = 1251 ∧ PCR_INT_EN.DRAIN_FORCED.ix = 0 ∧ PCR_INT_EN.DRAIN_FORCED.width = 1 := ⟨rfl, rfl, rfl⟩
@[simp] theorem PCR_INT_EN.HANG_id : PCR_INT_EN.HANG.id = 1252 ∧ PCR_INT_EN.HANG.ix = 0 ∧ PCR_INT_EN.HANG.width = 1 := ⟨rfl, rfl, rfl⟩
@[simp] theorem PCR_INT_EN.REGION_id : PCR_INT_EN.REGION.id = 1253 ∧ PCR_INT_EN.REGION.ix = 0 ∧ PCR_INT_EN.REGION.width = 1 := ⟨rfl, rfl, rfl⟩
@[simp] theorem PCR_INT_EN.MBOX_OUT_id : PCR_INT_EN.MBOX_OUT.id = 1254 ∧ PCR_INT_EN.MBOX_OUT.ix = 0 ∧ PCR_INT_EN.MBOX_OUT.width = 1 := ⟨rfl, rfl, rfl⟩
@[simp] theorem PCR_INT_EN.EXC_id : PCR_INT_EN.EXC.id = 1255 ∧ PCR_INT_EN.EXC.ix = 0 ∧ PCR_INT_EN.EXC.width = 1 := ⟨rfl, rfl, rfl⟩
@[simp] theorem PCR_IPI.MASK_id : PCR_IPI.MASK.id = 1256 ∧ PCR_IPI.MASK.ix = 0 ∧ PCR_IPI.MASK.width = 8 := ⟨rfl, rfl, rfl⟩
@[simp] theorem PCR_FAULT_ADDR.OFS_id : PCR_FAULT_ADDR.OFS.id = 1257 ∧ PCR_FAULT_ADDR.OFS.ix = 0 ∧ PCR_FAULT_ADDR.OFS.width = 22 := ⟨rfl, rfl, rfl⟩
@[simp] theorem PCR_FAULT_ADDR.CORE_id : PCR_FAULT_ADDR.CORE.id = 1258 ∧ PCR_FAULT_ADDR.CORE.ix = 0 ∧ PCR_FAULT_ADDR.CORE.width = 3 := ⟨rfl, rfl, rfl⟩
@[simp] theorem PCR_RESV_STS.OWNERS_id : PCR_RESV_STS.OWNERS.id = 1259 ∧ PCR_RESV_STS.OWNERS.ix = 0 ∧ PCR_RESV_STS.OWNERS.width = 4 := ⟨rfl, rfl, rfl⟩
@[simp] theorem PCR_SHARED_IMG.VER_id : PCR_SHARED_IMG.VER.id = 1260 ∧ PCR_SHARED_IMG.VER.ix = 0 ∧ PCR_SHARED_IMG.VER.width = 32 := ⟨rfl, rfl, rfl⟩
@[simp] theorem PCR_RELOADS_id : PCR_RELOADS.id = 1261 ∧ PCR_RELOADS.ix = 0 ∧ PCR_RELOADS.width = 32 := ⟨rfl, rfl, rfl⟩
@[simp] theorem PCR_DRAINS_id : PCR_DRAINS.id = 1262 ∧ PCR_DRAINS.ix = 0 ∧ PCR_DRAINS.width = 32 := ⟨rfl, rfl, rfl⟩
@[simp] theorem PCR_DRAIN_FORCED_id : PCR_DRAIN_FORCED.id = 1263 ∧ PCR_DRAIN_FORCED.ix = 0 ∧ PCR_DRAIN_FORCED.width = 32 := ⟨rfl, rfl, rfl⟩
@[simp] theorem PCR_WDOG_FIRES_id : PCR_WDOG_FIRES.id = 1264 ∧ PCR_WDOG_FIRES.ix = 0 ∧ PCR_WDOG_FIRES.width = 32 := ⟨rfl, rfl, rfl⟩
@[simp] theorem PCR_REGION_FAULTS_id : PCR_REGION_FAULTS.id = 1265 ∧ PCR_REGION_FAULTS.ix = 0 ∧ PCR_REGION_FAULTS.width = 32 := ⟨rfl, rfl, rfl⟩
@[simp] theorem PCR_EXCEPTIONS_id : PCR_EXCEPTIONS.id = 1266 ∧ PCR_EXCEPTIONS.ix = 0 ∧ PCR_EXCEPTIONS.width = 32 := ⟨rfl, rfl, rfl⟩
@[simp] theorem PCR_IPI_SENT_id : PCR_IPI_SENT.id = 1267 ∧ PCR_IPI_SENT.ix = 0 ∧ PCR_IPI_SENT.width = 32 := ⟨rfl, rfl, rfl⟩
@[simp] theorem PCR_MBOX_MSGS_id : PCR_MBOX_MSGS.id = 1268 ∧ PCR_MBOX_MSGS.ix = 0 ∧ PCR_MBOX_MSGS.width = 32 := ⟨rfl, rfl, rfl⟩
@[simp] theorem PCR_REGION_BASE.BASE_id (i : Nat) : (PCR_REGION_BASE.BASE i).id = 1269 ∧ (PCR_REGION_BASE.BASE i).ix = i ∧ (PCR_REGION_BASE.BASE i).width = 10 := ⟨rfl, rfl, rfl⟩
@[simp] theorem PCR_REGION_LIM.LIM_id (i : Nat) : (PCR_REGION_LIM.LIM i).id = 1270 ∧ (PCR_REGION_LIM.LIM i).ix = i ∧ (PCR_REGION_LIM.LIM i).width = 10 := ⟨rfl, rfl, rfl⟩
@[simp] theorem PCR_REGION_LIM.EN_id (i : Nat) : (PCR_REGION_LIM.EN i).id = 1271 ∧ (PCR_REGION_LIM.EN i).ix = i ∧ (PCR_REGION_LIM.EN i).width = 1 := ⟨rfl, rfl, rfl⟩
@[simp] theorem PCR_REGION_LIM.WR_MASK_id (i : Nat) : (PCR_REGION_LIM.WR_MASK i).id = 1272 ∧ (PCR_REGION_LIM.WR_MASK i).ix = i ∧ (PCR_REGION_LIM.WR_MASK i).width = 8 := ⟨rfl, rfl, rfl⟩
@[simp] theorem PCR_C_CTL.RUN_id (n : Nat) : (PCR_C_CTL.RUN n).id = 1273 ∧ (PCR_C_CTL.RUN n).ix = n ∧ (PCR_C_CTL.RUN n).width = 1 := ⟨rfl, rfl, rfl⟩
@[simp] theorem PCR_C_CTL.DRAIN_id (n : Nat) : (PCR_C_CTL.DRAIN n).id = 1274 ∧ (PCR_C_CTL.DRAIN n).ix = n ∧ (PCR_C_CTL.DRAIN n).width = 1 := ⟨rfl, rfl, rfl⟩
@[simp] theorem PCR_C_CTL.HALT_id (n : Nat) : (PCR_C_CTL.HALT n).id = 1275 ∧ (PCR_C_CTL.HALT n).ix = n ∧ (PCR_C_CTL.HALT n).width = 1 := ⟨rfl, rfl, rfl⟩
@[simp] theorem PCR_C_CTL.DRAIN_ACK_id (n : Nat) : (PCR_C_CTL.DRAIN_ACK n).id = 1276 ∧ (PCR_C_CTL.DRAIN_ACK n).ix = n ∧ (PCR_C_CTL.DRAIN_ACK n).width = 1 := ⟨rfl, rfl, rfl⟩
@[simp] theorem PCR_C_CTL.WDOG_EN_id (n : Nat) : (PCR_C_CTL.WDOG_EN n).id = 1277 ∧ (PCR_C_CTL.WDOG_EN n).ix = n ∧ (PCR_C_CTL.WDOG_EN n).width = 1 := ⟨rfl, rfl, rfl⟩
@[simp] theorem PCR_C_STS.STATE_id (n : Nat) : (PCR_C_STS.STATE n).id = 1278 ∧ (PCR_C_STS.STATE n).ix = n ∧ (PCR_C_STS.STATE n).width = 3 := ⟨rfl, rfl, rfl⟩
@[simp] theorem PCR_C_STS.FORCED_id (n : Nat) : (PCR_C_STS.FORCED n).id = 1279 ∧ (PCR_C_STS.FORCED n).ix = n ∧ (PCR_C_STS.FORCED n).width = 1 := ⟨rfl, rfl, rfl⟩
@[simp] theorem PCR_C_STS.EXC_id (n : Nat) : (PCR_C_STS.EXC n).id = 1280 ∧ (PCR_C_STS.EXC n).ix = n ∧ (PCR_C_STS.EXC n).width = 1 := ⟨rfl, rfl, rfl⟩
@[simp] theorem PCR_C_ENTRY.OFS_id (n : Nat) : (PCR_C_ENTRY.OFS n).id = 1281 ∧ (PCR_C_ENTRY.OFS n).ix = n ∧ (PCR_C_ENTRY.OFS n).width = 18 := ⟨rfl, rfl, rfl⟩
@[simp] theorem PCR_C_IMG_VER.VER_id (n : Nat) : (PCR_C_IMG_VER.VER n).id = 1282 ∧ (PCR_C_IMG_VER.VER n).ix = n ∧ (PCR_C_IMG_VER.VER n).width = 32 := ⟨rfl, rfl, rfl⟩
@[simp] theorem PCR_C_DRAIN_TMO.MS_id (n : Nat) : (PCR_C_DRAIN_TMO.MS n).id = 1283 ∧ (PCR_C_DRAIN_TMO.MS n).ix = n ∧ (PCR_C_DRAIN_TMO.MS n).width = 16 := ⟨rfl, rfl, rfl⟩
@[simp] theorem PCR_C_HEARTBEAT.V_id (n : Nat) : (PCR_C_HEARTBEAT.V n).id = 1284 ∧ (PCR_C_HEARTBEAT.V n).ix = n ∧ (PCR_C_HEARTBEAT.V n).width = 32 := ⟨rfl, rfl, rfl⟩
@[simp] theorem PCR_C_IRQ_STS.BITS_id (n : Nat) : (PCR_C_IRQ_STS.BITS n).id = 1285 ∧ (PCR_C_IRQ_STS.BITS n).ix = n ∧ (PCR_C_IRQ_STS.BITS n).width = 11 := ⟨rfl, rfl, rfl⟩
@[simp] theorem PCR_C_IRQ_EN.BITS_id (n : Nat) : (PCR_C_IRQ_EN.BITS n).id = 1286 ∧ (PCR_C_IRQ_EN.BITS n).ix = n ∧ (PCR_C_IRQ_EN.BITS n).width = 11 := ⟨rfl, rfl, rfl⟩
@[simp] theorem PCR_C_MCAUSE.V_id (n : Nat) : (PCR_C_MCAUSE.V n).id = 1287 ∧ (PCR_C_MCAUSE.V n).ix = n ∧ (PCR_C_MCAUSE.V n).width = 32 := ⟨rfl, rfl, rfl⟩
@[simp] theorem PCR_C_MEPC.V_id (n : Nat) : (PCR_C_MEPC.V n).id = 1288 ∧ (PCR_C_MEPC.V n).ix = n ∧ (PCR_C_MEPC.V n).width = 32 := ⟨rfl, rfl, rfl⟩
@[simp] theorem PCR_C_INSTRET_LO.V_id (n : Nat) : (PCR_C_INSTRET_LO.V n).id = 1289 ∧ (PCR_C_INSTRET_LO.V n).ix = n ∧ (PCR_C_INSTRET_LO.V n).width = 32 := ⟨rfl, rfl, rfl⟩
@[simp] theorem PCR_C_INSTRET_HI.V_id (n : Nat) : (PCR_C_INSTRET_HI.V n).id = 1290 ∧ (PCR_C_INSTRET_HI.V n).ix = n ∧ (PCR_C_INSTRET_HI.V n).width = 32 := ⟨rfl, rfl, rfl⟩
@[simp] theorem PCR_C_LOCAL_ECC.CORR_id (n : Nat) : (PCR_C_LOCAL_ECC.CORR n).id = 1291 ∧ (PCR_C_LOCAL_ECC.CORR n).ix = n ∧ (PCR_C_LOCAL_ECC.CORR n).width = 16 := ⟨rfl, rfl, rfl⟩
@[simp] theorem PCR_C_LOCAL_ECC.POISON_id (n : Nat) : (PCR_C_LOCAL_ECC.POISON n).id = 1292 ∧ (PCR_C_LOCAL_ECC.POISON n).ix = n ∧ (PCR_C_LOCAL_ECC.POISON n).width = 16 := ⟨rfl, rfl, rfl⟩
@[simp] theorem PCR_C_DRAIN_LAST.US_id (n : Nat) : (PCR_C_DRAIN_LAST.US n).id = 1293 ∧ (PCR_C_DRAIN_LAST.US n).ix = n ∧ (PCR_C_DRAIN_LAST.US n).width = 32 := ⟨rfl, rfl, rfl⟩
@[simp] theorem PCR_C_RELOAD_LAST.US_id (n : Nat) : (PCR_C_RELOAD_LAST.US n).id = 1294 ∧ (PCR_C_RELOAD_LAST.US n).ix = n ∧ (PCR_C_RELOAD_LAST.US n).width = 32 := ⟨rfl, rfl, rfl⟩
@[simp] theorem PCR_C_WDOG_MS.MS_id (n : Nat) : (PCR_C_WDOG_MS.MS n).id = 1295 ∧ (PCR_C_WDOG_MS.MS n).ix = n ∧ (PCR_C_WDOG_MS.MS n).width = 16 := ⟨rfl, rfl, rfl⟩
@[simp] theorem PCR_C_MBOX_IN.V_id (n : Nat) (i : Nat) : (PCR_C_MBOX_IN.V n i).id = 1296 ∧ (PCR_C_MBOX_IN.V n i).ix = n * 8 + i ∧ (PCR_C_MBOX_IN.V n i).width = 32 := ⟨rfl, rfl, rfl⟩
@[simp] theorem PCR_C_MBOX_OUT.V_id (n : Nat) (i : Nat) : (PCR_C_MBOX_OUT.V n i).id = 1297 ∧ (PCR_C_MBOX_OUT.V n i).ix = n * 8 + i ∧ (PCR_C_MBOX_OUT.V n i).width = 32 := ⟨rfl, rfl, rfl⟩
@[simp] theorem PCR_C_SCRATCH.V_id (n : Nat) (i : Nat) : (PCR_C_SCRATCH.V n i).id = 1298 ∧ (PCR_C_SCRATCH.V n i).ix = n * 16 + i ∧ (PCR_C_SCRATCH.V n i).width = 32 := ⟨rfl, rfl, rfl⟩
@[simp] theorem CEL_CFG.ANCHOR_S_id : CEL_CFG.ANCHOR_S.id = 1299 ∧ CEL_CFG.ANCHOR_S.ix = 0 ∧ CEL_CFG.ANCHOR_S.width = 8 := ⟨rfl, rfl, rfl⟩
@[simp] theorem CEL_STS.CELLAR_LOST_id : CEL_STS.CELLAR_LOST.id = 1300 ∧ CEL_STS.CELLAR_LOST.ix = 0 ∧ CEL_STS.CELLAR_LOST.width = 1 := ⟨rfl, rfl, rfl⟩
@[simp] theorem CEL_STS.RTC_VALID_id : CEL_STS.RTC_VALID.id = 1301 ∧ CEL_STS.RTC_VALID.ix = 0 ∧ CEL_STS.RTC_VALID.width = 1 := ⟨rfl, rfl, rfl⟩
@[simp] theorem CEL_STS.WR_PEND_id : CEL_STS.WR_PEND.id = 1302 ∧ CEL_STS.WR_PEND.ix = 0 ∧ CEL_STS.WR_PEND.width = 1 := ⟨rfl, rfl, rfl⟩
@[simp] theorem CEL_STS.ON_VBAT_id : CEL_STS.ON_VBAT.id = 1303 ∧ CEL_STS.ON_VBAT.ix = 0 ∧ CEL_STS.ON_VBAT.width = 1 := ⟨rfl, rfl, rfl⟩
@[simp] theorem CEL_STS.VBAT_PRESENT_id : CEL_STS.VBAT_PRESENT.id = 1304 ∧ CEL_STS.VBAT_PRESENT.ix = 0 ∧ CEL_STS.VBAT_PRESENT.width = 1 := ⟨rfl, rfl, rfl⟩
@[simp] theorem CEL_INT_STS.SLEEP_ABORT_id : CEL_INT_STS.SLEEP_ABORT.id = 1305 ∧ CEL_INT_STS.SLEEP_ABORT.ix = 0 ∧ CEL_INT_STS.SLEEP_ABORT.width = 1 := ⟨rfl, rfl, rfl⟩
@[simp] theorem CEL_INT_STS.VBAT_LOW_id : CEL_INT_STS.VBAT_LOW.id = 1306 ∧ CEL_INT_STS.VBAT_LOW.ix = 0 ∧ CEL_INT_STS.VBAT_LOW.width = 1 := ⟨rfl, rfl, rfl⟩
@[simp] theorem CEL_INT_STS.REG_LIMIT_id : CEL_INT_STS.REG_LIMIT.id = 1307 ∧ CEL_INT_STS.REG_LIMIT.ix = 0 ∧ CEL_INT_STS.REG_LIMIT.width = 1 := ⟨rfl, rfl, rfl⟩
@[simp] theorem CEL_INT_STS.WATCH_MATCH_id : CEL_INT_STS.WATCH_MATCH.id = 1308 ∧ CEL_INT_STS.WATCH_MATCH.ix = 0 ∧ CEL_INT_STS.WATCH_MATCH.width = 1 := ⟨rfl, rfl, rfl⟩
@[simp] theorem CEL_INT_STS.ALARM_id : CEL_INT_STS.ALARM.id = 1309 ∧ CEL_INT_STS.ALARM.ix = 0 ∧ CEL_INT_STS.ALARM.width = 1 := ⟨rfl, rfl, rfl⟩
@[simp] theorem CEL_INT_STS.CELLAR_LOST_id : CEL_INT_STS.CELLAR_LOST.id = 1310 ∧ CEL_INT_STS.CELLAR_LOST.ix = 0 ∧ CEL_INT_STS.CELLAR_LOST.width = 1 := ⟨rfl, rfl, rfl⟩
@[simp] theorem CEL_INT_STS.XTAL_FAIL_id : CEL_INT_STS.XTAL_FAIL.id = 1311 ∧ CEL_INT_STS.XTAL_FAIL.ix = 0 ∧ CEL_INT_STS.XTAL_FAIL.width = 1 := ⟨rfl, rfl, rfl⟩
@[simp] theorem CEL_INT_EN.SLEEP_ABORT_id : CEL_INT_EN.SLEEP_ABORT.id = 1312 ∧ CEL_INT_EN.SLEEP_ABORT.ix = 0 ∧ CEL_INT_EN.SLEEP_ABORT.width = 1 := ⟨rfl, rfl, rfl⟩
@[simp] theorem CEL_INT_EN.VBAT_LOW_id : CEL_INT_EN.VBAT_LOW.id = 1313 ∧ CEL_INT_EN.VBAT_LOW.ix = 0 ∧ CEL_INT_EN.VBAT_LOW.width = 1 := ⟨rfl, rfl, rfl⟩
@[simp] theorem CEL_INT_EN.REG_LIMIT_id : CEL_INT_EN.REG_LIMIT.id = 1314 ∧ CEL_INT_EN.REG_LIMIT.ix = 0 ∧ CEL_INT_EN.REG_LIMIT.width = 1 := ⟨rfl, rfl, rfl⟩
@[simp] theorem CEL_INT_EN.WATCH_MATCH_id : CEL_INT_EN.WATCH_MATCH.id = 1315 ∧ CEL_INT_EN.WATCH_MATCH.ix = 0 ∧ CEL_INT_EN.WATCH_MATCH.width = 1 := ⟨rfl, rfl, rfl⟩
@[simp] theorem CEL_INT_EN.ALARM_id : CEL_INT_EN.ALARM.id = 1316 ∧ CEL_INT_EN.ALARM.ix = 0 ∧ CEL_INT_EN.ALARM.width = 1 := ⟨rfl, rfl, rfl⟩
@[simp] theorem CEL_INT_EN.CELLAR_LOST_id : CEL_INT_EN.CELLAR_LOST.id = 1317 ∧ CEL_INT_EN.CELLAR_LOST.ix = 0 ∧ CEL_INT_EN.CELLAR_LOST.width = 1 := ⟨rfl, rfl, rfl⟩
@[simp] theorem CEL_INT_EN.XTAL_FAIL_id : CEL_INT_EN.XTAL_FAIL.id = 1318 ∧ CEL_INT_EN.XTAL_FAIL.ix = 0 ∧ CEL_INT_EN.XTAL_FAIL.width = 1 := ⟨rfl, rfl, rfl⟩
@[simp] theorem CEL_PWR_CTL.HUSH_id : CEL_PWR_CTL.HUSH.id = 1319 ∧ CEL_PWR_CTL.HUSH.ix = 0 ∧ CEL_PWR_CTL.HUSH.width = 1 := ⟨rfl, rfl, rfl⟩
@[simp] theorem CEL_PWR_STS.STATE_id : CEL_PWR_STS.STATE.id = 1320 ∧ CEL_PWR_STS.STATE.ix = 0 ∧ CEL_PWR_STS.STATE.width = 2 := ⟨rfl, rfl, rfl⟩
@[simp] theorem CEL_PWR_STS.HUSH_PEND_id : CEL_PWR_STS.HUSH_PEND.id = 1321 ∧ CEL_PWR_STS.HUSH_PEND.ix = 0 ∧ CEL_PWR_STS.HUSH_PEND.width = 1 := ⟨rfl, rfl, rfl⟩
@[simp] theorem CEL_SLEEP_CTL.TARGET_id : CEL_SLEEP_CTL.TARGET.id = 1322 ∧ CEL_SLEEP_CTL.TARGET.ix = 0 ∧ CEL_SLEEP_CTL.TARGET.width = 2 := ⟨rfl, rfl, rfl⟩
@[simp] theorem CEL_SLEEP_CTL.KEY_id : CEL_SLEEP_CTL.KEY.id = 1323 ∧ CEL_SLEEP_CTL.KEY.ix = 0 ∧ CEL_SLEEP_CTL.KEY.width = 16 := ⟨rfl, rfl, rfl⟩
@[simp] theorem CEL_SLEEP_STS.RESULT_id : CEL_SLEEP_STS.RESULT.id = 1324 ∧ CEL_SLEEP_STS.RESULT.ix = 0 ∧ CEL_SLEEP_STS.RESULT.width = 3 := ⟨rfl, rfl, rfl⟩
@[simp] theorem CEL_SLEEP_STS.BUSY_id : CEL_SLEEP_STS.BUSY.id = 1325 ∧ CEL_SLEEP_STS.BUSY.ix = 0 ∧ CEL_SLEEP_STS.BUSY.width = 1 := ⟨rfl, rfl, rfl⟩
@[simp] theorem CEL_SLEEP_STS.ABORT_SRC_id : CEL_SLEEP_STS.ABORT_SRC.id = 1326 ∧ CEL_SLEEP_STS.ABORT_SRC.ix = 0 ∧ CEL_SLEEP_STS.ABORT_SRC.width = 9 := ⟨rfl, rfl, rfl⟩
@[simp] theorem CEL_PG_CFG.PG_WAIT_MS_id : CEL_PG_CFG.PG_WAIT_MS.id = 1327 ∧ CEL_PG_CFG.PG_WAIT_MS.ix = 0 ∧ CEL_PG_CFG.PG_WAIT_MS.width = 14 := ⟨rfl, rfl, rfl⟩
@[simp] theorem CEL_PG_CFG.PG_OFF_MS_id : CEL_PG_CFG.PG_OFF_MS.id = 1328 ∧ CEL_PG_CFG.PG_OFF_MS.ix = 0 ∧ CEL_PG_CFG.PG_OFF_MS.width = 10 := ⟨rfl, rfl, rfl⟩
@[simp] theorem CEL_PG_CFG.BACKOFF_S_id : CEL_PG_CFG.BACKOFF_S.id = 1329 ∧ CEL_PG_CFG.BACKOFF_S.ix = 0 ∧ CEL_PG_CFG.BACKOFF_S.width = 8 := ⟨rfl, rfl, rfl⟩
@[simp] theorem CEL_REG_STS.LP_id : CEL_REG_STS.LP.id = 1330 ∧ CEL_REG_STS.LP.ix = 0 ∧ CEL_REG_STS.LP.width = 1 := ⟨rfl, rfl, rfl⟩
@[simp] theorem CEL_REG_STS.LIMIT_id : CEL_REG_STS.LIMIT.id = 1331 ∧ CEL_REG_STS.LIMIT.ix = 0 ∧ CEL_REG_STS.LIMIT.width = 1 := ⟨rfl, rfl, rfl⟩
@[simp] theorem CEL_VBAT_CFG.THR_id : CEL_VBAT_CFG.THR.id = 1332 ∧ CEL_VBAT_CFG.THR.ix = 0 ∧ CEL_VBAT_CFG.THR.width = 4 := ⟨rfl, rfl, rfl⟩
@[simp] theorem CEL_VBAT_STS.LEVEL_id : CEL_VBAT_STS.LEVEL.id = 1333 ∧ CEL_VBAT_STS.LEVEL.ix = 0 ∧ CEL_VBAT_STS.LEVEL.width = 8 := ⟨rfl, rfl, rfl⟩
@[simp] theorem CEL_VBAT_STS.LOW_id : CEL_VBAT_STS.LOW.id = 1334 ∧ CEL_VBAT_STS.LOW.ix = 0 ∧ CEL_VBAT_STS.LOW.width = 1 := ⟨rfl, rfl, rfl⟩
@[simp] theorem CEL_RTC_S.S_id : CEL_RTC_S.S.id = 1335 ∧ CEL_RTC_S.S.ix = 0 ∧ CEL_RTC_S.S.width = 32 := ⟨rfl, rfl, rfl⟩
@[simp] theorem CEL_RTC_TICK.TICK_id : CEL_RTC_TICK.TICK.id = 1336 ∧ CEL_RTC_TICK.TICK.ix = 0 ∧ CEL_RTC_TICK.TICK.width = 15 := ⟨rfl, rfl, rfl⟩
@[simp] theorem CEL_RTC_CTL.SET_id : CEL_RTC_CTL.SET.id = 1337 ∧ CEL_RTC_CTL.SET.ix = 0 ∧ CEL_RTC_CTL.SET.width = 1 := ⟨rfl, rfl, rfl⟩
@[simp] theorem CEL_RTC_CTL.AUTO_TRIM_id : CEL_RTC_CTL.AUTO_TRIM.id = 1338 ∧ CEL_RTC_CTL.AUTO_TRIM.ix = 0 ∧ CEL_RTC_CTL.AUTO_TRIM.width = 1 := ⟨rfl, rfl, rfl⟩
@[simp] theorem CEL_PAD_CFG.REQ_POL_id : CEL_PAD_CFG.REQ_POL.id = 1339 ∧ CEL_PAD_CFG.REQ_POL.ix = 0 ∧ CEL_PAD_CFG.REQ_POL.width = 1 := ⟨rfl, rfl, rfl⟩
@[simp] theorem CEL_PAD_CFG.WAKE_IN_EN_id : CEL_PAD_CFG.WAKE_IN_EN.id = 1340 ∧ CEL_PAD_CFG.WAKE_IN_EN.ix = 0 ∧ CEL_PAD_CFG.WAKE_IN_EN.width = 4 := ⟨rfl, rfl, rfl⟩
@[simp] theorem CEL_ALARM_S.S_id : CEL_ALARM_S.S.id = 1341 ∧ CEL_ALARM_S.S.ix = 0 ∧ CEL_ALARM_S.S.width = 32 := ⟨rfl, rfl, rfl⟩
@[simp] theorem CEL_ALARM_TICK.TICK_id : CEL_ALARM_TICK.TICK.id = 1342 ∧ CEL_ALARM_TICK.TICK.ix = 0 ∧ CEL_ALARM_TICK.TICK.width = 15 := ⟨rfl, rfl, rfl⟩
@[simp] theorem CEL_RTC_SET_S.S_id : CEL_RTC_SET_S.S.id = 1343 ∧ CEL_RTC_SET_S.S.ix = 0 ∧ CEL_RTC_SET_S.S.width = 32 := ⟨rfl, rfl, rfl⟩
@[simp] theorem CEL_RTC_SET_TICK.TICK_id : CEL_RTC_SET_TICK.TICK.id = 1344 ∧ CEL_RTC_SET_TICK.TICK.ix = 0 ∧ CEL_RTC_SET_TICK.TICK.width = 15 := ⟨rfl, rfl, rfl⟩
@[simp] theorem CEL_TRIM.PPB_id : CEL_TRIM.PPB.id = 1345 ∧ CEL_TRIM.PPB.ix = 0 ∧ CEL_TRIM.PPB.width = 19 := ⟨rfl, rfl, rfl⟩
@[simp] theorem CEL_ANCHOR_STS.AGE_S_id : CEL_ANCHOR_STS.AGE_S.id = 1346 ∧ CEL_ANCHOR_STS.AGE_S.ix = 0 ∧ CEL_ANCHOR_STS.AGE_S.width = 8 := ⟨rfl, rfl, rfl⟩
@[simp] theorem CEL_ANCHOR_STS.VALID_id : CEL_ANCHOR_STS.VALID.id = 1347 ∧ CEL_ANCHOR_STS.VALID.ix = 0 ∧ CEL_ANCHOR_STS.VALID.width = 1 := ⟨rfl, rfl, rfl⟩
@[simp] theorem CEL_TEMP.C_id : CEL_TEMP.C.id = 1348 ∧ CEL_TEMP.C.ix = 0 ∧ CEL_TEMP.C.width = 8 := ⟨rfl, rfl, rfl⟩
@[simp] theorem CEL_PIN_STS.WAKE_id : CEL_PIN_STS.WAKE.id = 1349 ∧ CEL_PIN_STS.WAKE.ix = 0 ∧ CEL_PIN_STS.WAKE.width = 4 := ⟨rfl, rfl, rfl⟩
@[simp] theorem CEL_PIN_STS.PWR_GOOD_id : CEL_PIN_STS.PWR_GOOD.id = 1350 ∧ CEL_PIN_STS.PWR_GOOD.ix = 0 ∧ CEL_PIN_STS.PWR_GOOD.width = 1 := ⟨rfl, rfl, rfl⟩
@[simp] theorem CEL_PIN_STS.PWR_REQ_id : CEL_PIN_STS.PWR_REQ.id = 1351 ∧ CEL_PIN_STS.PWR_REQ.ix = 0 ∧ CEL_PIN_STS.PWR_REQ.width = 1 := ⟨rfl, rfl, rfl⟩
@[simp] theorem CEL_PIN_STS.CASE_id : CEL_PIN_STS.CASE.id = 1352 ∧ CEL_PIN_STS.CASE.ix = 0 ∧ CEL_PIN_STS.CASE.width = 1 := ⟨rfl, rfl, rfl⟩
@[simp] theorem CEL_SLEEPS_id : CEL_SLEEPS.id = 1353 ∧ CEL_SLEEPS.ix = 0 ∧ CEL_SLEEPS.width = 32 := ⟨rfl, rfl, rfl⟩
@[simp] theorem CEL_SLEEP_ABORTS_id : CEL_SLEEP_ABORTS.id = 1354 ∧ CEL_SLEEP_ABORTS.ix = 0 ∧ CEL_SLEEP_ABORTS.width = 32 := ⟨rfl, rfl, rfl⟩
@[simp] theorem CEL_WAKES_id : CEL_WAKES.id = 1355 ∧ CEL_WAKES.ix = 0 ∧ CEL_WAKES.width = 32 := ⟨rfl, rfl, rfl⟩
@[simp] theorem CEL_WAKE_NOPWR_id : CEL_WAKE_NOPWR.id = 1356 ∧ CEL_WAKE_NOPWR.ix = 0 ∧ CEL_WAKE_NOPWR.width = 32 := ⟨rfl, rfl, rfl⟩
@[simp] theorem CEL_PG_FALLS_id : CEL_PG_FALLS.id = 1357 ∧ CEL_PG_FALLS.ix = 0 ∧ CEL_PG_FALLS.width = 32 := ⟨rfl, rfl, rfl⟩
@[simp] theorem CEL_REG_LIMITS_id : CEL_REG_LIMITS.id = 1358 ∧ CEL_REG_LIMITS.ix = 0 ∧ CEL_REG_LIMITS.width = 32 := ⟨rfl, rfl, rfl⟩
@[simp] theorem CEL_VBAT_LOWS_id : CEL_VBAT_LOWS.id = 1359 ∧ CEL_VBAT_LOWS.ix = 0 ∧ CEL_VBAT_LOWS.width = 32 := ⟨rfl, rfl, rfl⟩
@[simp] theorem CEL_HUSH_ENTRIES_id : CEL_HUSH_ENTRIES.id = 1360 ∧ CEL_HUSH_ENTRIES.ix = 0 ∧ CEL_HUSH_ENTRIES.width = 32 := ⟨rfl, rfl, rfl⟩
@[simp] theorem CEL_WAKE_EN.EN_id : CEL_WAKE_EN.EN.id = 1361 ∧ CEL_WAKE_EN.EN.ix = 0 ∧ CEL_WAKE_EN.EN.width = 8 := ⟨rfl, rfl, rfl⟩
@[simp] theorem CEL_WAKE_STS.PEND_id : CEL_WAKE_STS.PEND.id = 1362 ∧ CEL_WAKE_STS.PEND.ix = 0 ∧ CEL_WAKE_STS.PEND.width = 9 := ⟨rfl, rfl, rfl⟩
@[simp] theorem CEL_WAKE_PIN.MODE_id (i : Nat) : (CEL_WAKE_PIN.MODE i).id = 1363 ∧ (CEL_WAKE_PIN.MODE i).ix = i ∧ (CEL_WAKE_PIN.MODE i).width = 3 := ⟨rfl, rfl, rfl⟩
@[simp] theorem CEL_WAKE_PIN.DEB_id (i : Nat) : (CEL_WAKE_PIN.DEB i).id = 1364 ∧ (CEL_WAKE_PIN.DEB i).ix = i ∧ (CEL_WAKE_PIN.DEB i).width = 3 := ⟨rfl, rfl, rfl⟩
@[simp] theorem CEL_WAKE_RIND.MASK_id : CEL_WAKE_RIND.MASK.id = 1365 ∧ CEL_WAKE_RIND.MASK.ix = 0 ∧ CEL_WAKE_RIND.MASK.width = 8 := ⟨rfl, rfl, rfl⟩
@[simp] theorem CEL_WAKE_LAST.CODE_id : CEL_WAKE_LAST.CODE.id = 1366 ∧ CEL_WAKE_LAST.CODE.ix = 0 ∧ CEL_WAKE_LAST.CODE.width = 4 := ⟨rfl, rfl, rfl⟩
@[simp] theorem CEL_WATCH_CFG.PER_LOG2_id : CEL_WATCH_CFG.PER_LOG2.id = 1367 ∧ CEL_WATCH_CFG.PER_LOG2.ix = 0 ∧ CEL_WATCH_CFG.PER_LOG2.width = 5 := ⟨rfl, rfl, rfl⟩
@[simp] theorem CEL_WATCH_CFG.ANA_EN_id : CEL_WATCH_CFG.ANA_EN.id = 1368 ∧ CEL_WATCH_CFG.ANA_EN.ix = 0 ∧ CEL_WATCH_CFG.ANA_EN.width = 1 := ⟨rfl, rfl, rfl⟩
@[simp] theorem CEL_WATCH_CFG.PAT_EN_id : CEL_WATCH_CFG.PAT_EN.id = 1369 ∧ CEL_WATCH_CFG.PAT_EN.ix = 0 ∧ CEL_WATCH_CFG.PAT_EN.width = 1 := ⟨rfl, rfl, rfl⟩
@[simp] theorem CEL_WATCH_CFG.CNT_EN_id : CEL_WATCH_CFG.CNT_EN.id = 1370 ∧ CEL_WATCH_CFG.CNT_EN.ix = 0 ∧ CEL_WATCH_CFG.CNT_EN.width = 1 := ⟨rfl, rfl, rfl⟩
@[simp] theorem CEL_WATCH_CFG.COMB_id : CEL_WATCH_CFG.COMB.id = 1371 ∧ CEL_WATCH_CFG.COMB.ix = 0 ∧ CEL_WATCH_CFG.COMB.width = 1 := ⟨rfl, rfl, rfl⟩
@[simp] theorem CEL_WATCH_CFG.N_id : CEL_WATCH_CFG.N.id = 1372 ∧ CEL_WATCH_CFG.N.ix = 0 ∧ CEL_WATCH_CFG.N.width = 4 := ⟨rfl, rfl, rfl⟩
@[simp] theorem CEL_WATCH_CFG.RUN_ACTIVE_id : CEL_WATCH_CFG.RUN_ACTIVE.id = 1373 ∧ CEL_WATCH_CFG.RUN_ACTIVE.ix = 0 ∧ CEL_WATCH_CFG.RUN_ACTIVE.width = 1 := ⟨rfl, rfl, rfl⟩
@[simp] theorem CEL_WATCH_ANA.LO_id : CEL_WATCH_ANA.LO.id = 1374 ∧ CEL_WATCH_ANA.LO.ix = 0 ∧ CEL_WATCH_ANA.LO.width = 8 := ⟨rfl, rfl, rfl⟩
@[simp] theorem CEL_WATCH_ANA.HI_id : CEL_WATCH_ANA.HI.id = 1375 ∧ CEL_WATCH_ANA.HI.ix = 0 ∧ CEL_WATCH_ANA.HI.width = 8 := ⟨rfl, rfl, rfl⟩
@[simp] theorem CEL_WATCH_ANA.OUTSIDE_id : CEL_WATCH_ANA.OUTSIDE.id = 1376 ∧ CEL_WATCH_ANA.OUTSIDE.ix = 0 ∧ CEL_WATCH_ANA.OUTSIDE.width = 1 := ⟨rfl, rfl, rfl⟩
@[simp] theorem CEL_WATCH_PAT.MASK_id : CEL_WATCH_PAT.MASK.id = 1377 ∧ CEL_WATCH_PAT.MASK.ix = 0 ∧ CEL_WATCH_PAT.MASK.width = 4 := ⟨rfl, rfl, rfl⟩
@[simp] theorem CEL_WATCH_PAT.PATTERN_id : CEL_WATCH_PAT.PATTERN.id = 1378 ∧ CEL_WATCH_PAT.PATTERN.ix = 0 ∧ CEL_WATCH_PAT.PATTERN.width = 4 := ⟨rfl, rfl, rfl⟩
@[simp] theorem CEL_WATCH_CNT.COUNT_id : CEL_WATCH_CNT.COUNT.id = 1379 ∧ CEL_WATCH_CNT.COUNT.ix = 0 ∧ CEL_WATCH_CNT.COUNT.width = 24 := ⟨rfl, rfl, rfl⟩
@[simp] theorem CEL_WATCH_THR.CNT_THR_id : CEL_WATCH_THR.CNT_THR.id = 1380 ∧ CEL_WATCH_THR.CNT_THR.ix = 0 ∧ CEL_WATCH_THR.CNT_THR.width = 24 := ⟨rfl, rfl, rfl⟩
@[simp] theorem CEL_WATCH_STS.RUN_id : CEL_WATCH_STS.RUN.id = 1381 ∧ CEL_WATCH_STS.RUN.ix = 0 ∧ CEL_WATCH_STS.RUN.width = 4 := ⟨rfl, rfl, rfl⟩
@[simp] theorem CEL_WATCH_SAMPLE.ANA_id : CEL_WATCH_SAMPLE.ANA.id = 1382 ∧ CEL_WATCH_SAMPLE.ANA.ix = 0 ∧ CEL_WATCH_SAMPLE.ANA.width = 8 := ⟨rfl, rfl, rfl⟩
@[simp] theorem CEL_WATCH_SAMPLE.PINS_id : CEL_WATCH_SAMPLE.PINS.id = 1383 ∧ CEL_WATCH_SAMPLE.PINS.ix = 0 ∧ CEL_WATCH_SAMPLE.PINS.width = 4 := ⟨rfl, rfl, rfl⟩
@[simp] theorem CEL_WATCH_SAMPLES_id : CEL_WATCH_SAMPLES.id = 1384 ∧ CEL_WATCH_SAMPLES.ix = 0 ∧ CEL_WATCH_SAMPLES.width = 32 := ⟨rfl, rfl, rfl⟩
@[simp] theorem CEL_LEDGER.W_id (i : Nat) : (CEL_LEDGER.W i).id = 1385 ∧ (CEL_LEDGER.W i).ix = i ∧ (CEL_LEDGER.W i).width = 32 := ⟨rfl, rfl, rfl⟩
@[simp] theorem CEL_LEDGER_PREV.W_id (i : Nat) : (CEL_LEDGER_PREV.W i).id = 1386 ∧ (CEL_LEDGER_PREV.W i).ix = i ∧ (CEL_LEDGER_PREV.W i).width = 32 := ⟨rfl, rfl, rfl⟩
@[simp] theorem CEL_BKP.V_id (i : Nat) : (CEL_BKP.V i).id = 1387 ∧ (CEL_BKP.V i).ix = i ∧ (CEL_BKP.V i).width = 32 := ⟨rfl, rfl, rfl⟩
@[simp] theorem CLK_CFG.AUTO_RET_id : CLK_CFG.AUTO_RET.id = 1388 ∧ CLK_CFG.AUTO_RET.ix = 0 ∧ CLK_CFG.AUTO_RET.width = 1 := ⟨rfl, rfl, rfl⟩
@[simp] theorem CLK_STS.REF_OK_id : CLK_STS.REF_OK.id = 1389 ∧ CLK_STS.REF_OK.ix = 0 ∧ CLK_STS.REF_OK.width = 4 := ⟨rfl, rfl, rfl⟩
@[simp] theorem CLK_STS.ON_RC_id : CLK_STS.ON_RC.id = 1390 ∧ CLK_STS.ON_RC.ix = 0 ∧ CLK_STS.ON_RC.width = 6 := ⟨rfl, rfl, rfl⟩
@[simp] theorem CLK_INT_STS.NO_TCXO_id : CLK_INT_STS.NO_TCXO.id = 1391 ∧ CLK_INT_STS.NO_TCXO.ix = 0 ∧ CLK_INT_STS.NO_TCXO.width = 1 := ⟨rfl, rfl, rfl⟩
@[simp] theorem CLK_INT_STS.NO_SERDES_id : CLK_INT_STS.NO_SERDES.id = 1392 ∧ CLK_INT_STS.NO_SERDES.ix = 0 ∧ CLK_INT_STS.NO_SERDES.width = 1 := ⟨rfl, rfl, rfl⟩
@[simp] theorem CLK_INT_STS.NO_PCIE_id : CLK_INT_STS.NO_PCIE.id = 1393 ∧ CLK_INT_STS.NO_PCIE.ix = 0 ∧ CLK_INT_STS.NO_PCIE.width = 1 := ⟨rfl, rfl, rfl⟩
@[simp] theorem CLK_INT_STS.XTAL_FAIL_id : CLK_INT_STS.XTAL_FAIL.id = 1394 ∧ CLK_INT_STS.XTAL_FAIL.ix = 0 ∧ CLK_INT_STS.XTAL_FAIL.width = 1 := ⟨rfl, rfl, rfl⟩
@[simp] theorem CLK_INT_STS.REF_BACK_id : CLK_INT_STS.REF_BACK.id = 1395 ∧ CLK_INT_STS.REF_BACK.ix = 0 ∧ CLK_INT_STS.REF_BACK.width = 1 := ⟨rfl, rfl, rfl⟩
@[simp] theorem CLK_INT_STS.XTAL_MEAS_DONE_id : CLK_INT_STS.XTAL_MEAS_DONE.id = 1396 ∧ CLK_INT_STS.XTAL_MEAS_DONE.ix = 0 ∧ CLK_INT_STS.XTAL_MEAS_DONE.width = 1 := ⟨rfl, rfl, rfl⟩
@[simp] theorem CLK_INT_EN.NO_TCXO_id : CLK_INT_EN.NO_TCXO.id = 1397 ∧ CLK_INT_EN.NO_TCXO.ix = 0 ∧ CLK_INT_EN.NO_TCXO.width = 1 := ⟨rfl, rfl, rfl⟩
@[simp] theorem CLK_INT_EN.NO_SERDES_id : CLK_INT_EN.NO_SERDES.id = 1398 ∧ CLK_INT_EN.NO_SERDES.ix = 0 ∧ CLK_INT_EN.NO_SERDES.width = 1 := ⟨rfl, rfl, rfl⟩
@[simp] theorem CLK_INT_EN.NO_PCIE_id : CLK_INT_EN.NO_PCIE.id = 1399 ∧ CLK_INT_EN.NO_PCIE.ix = 0 ∧ CLK_INT_EN.NO_PCIE.width = 1 := ⟨rfl, rfl, rfl⟩
@[simp] theorem CLK_INT_EN.XTAL_FAIL_id : CLK_INT_EN.XTAL_FAIL.id = 1400 ∧ CLK_INT_EN.XTAL_FAIL.ix = 0 ∧ CLK_INT_EN.XTAL_FAIL.width = 1 := ⟨rfl, rfl, rfl⟩
@[simp] theorem CLK_INT_EN.REF_BACK_id : CLK_INT_EN.REF_BACK.id = 1401 ∧ CLK_INT_EN.REF_BACK.ix = 0 ∧ CLK_INT_EN.REF_BACK.width = 1 := ⟨rfl, rfl, rfl⟩
@[simp] theorem CLK_INT_EN.XTAL_MEAS_DONE_id : CLK_INT_EN.XTAL_MEAS_DONE.id = 1402 ∧ CLK_INT_EN.XTAL_MEAS_DONE.ix = 0 ∧ CLK_INT_EN.XTAL_MEAS_DONE.width = 1 := ⟨rfl, rfl, rfl⟩
@[simp] theorem CLK_REF_CTL.RECHECK_id : CLK_REF_CTL.RECHECK.id = 1403 ∧ CLK_REF_CTL.RECHECK.ix = 0 ∧ CLK_REF_CTL.RECHECK.width = 4 := ⟨rfl, rfl, rfl⟩
@[simp] theorem CLK_MON_CFG.TOL_PCT_id : CLK_MON_CFG.TOL_PCT.id = 1404 ∧ CLK_MON_CFG.TOL_PCT.ix = 0 ∧ CLK_MON_CFG.TOL_PCT.width = 4 := ⟨rfl, rfl, rfl⟩
@[simp] theorem CLK_RC_MEAS.ERR_id : CLK_RC_MEAS.ERR.id = 1405 ∧ CLK_RC_MEAS.ERR.ix = 0 ∧ CLK_RC_MEAS.ERR.width = 16 := ⟨rfl, rfl, rfl⟩
@[simp] theorem CLK_RC_TRIM.TRIM_id : CLK_RC_TRIM.TRIM.id = 1406 ∧ CLK_RC_TRIM.TRIM.ix = 0 ∧ CLK_RC_TRIM.TRIM.width = 7 := ⟨rfl, rfl, rfl⟩
@[simp] theorem CLK_XTAL_CFG.WIN_LOG2_id : CLK_XTAL_CFG.WIN_LOG2.id = 1407 ∧ CLK_XTAL_CFG.WIN_LOG2.ix = 0 ∧ CLK_XTAL_CFG.WIN_LOG2.width = 4 := ⟨rfl, rfl, rfl⟩
@[simp] theorem CLK_XTAL_CFG.EN_id : CLK_XTAL_CFG.EN.id = 1408 ∧ CLK_XTAL_CFG.EN.ix = 0 ∧ CLK_XTAL_CFG.EN.width = 1 := ⟨rfl, rfl, rfl⟩
@[simp] theorem CLK_XTAL_MEAS.PPB_id : CLK_XTAL_MEAS.PPB.id = 1409 ∧ CLK_XTAL_MEAS.PPB.ix = 0 ∧ CLK_XTAL_MEAS.PPB.width = 32 := ⟨rfl, rfl, rfl⟩
@[simp] theorem CLK_XTAL_STS.RUN_id : CLK_XTAL_STS.RUN.id = 1410 ∧ CLK_XTAL_STS.RUN.ix = 0 ∧ CLK_XTAL_STS.RUN.width = 1 := ⟨rfl, rfl, rfl⟩
@[simp] theorem CLK_XTAL_STS.DISCIPLINED_id : CLK_XTAL_STS.DISCIPLINED.id = 1411 ∧ CLK_XTAL_STS.DISCIPLINED.ix = 0 ∧ CLK_XTAL_STS.DISCIPLINED.width = 1 := ⟨rfl, rfl, rfl⟩
@[simp] theorem CLK_XTAL_STS.FAIL_id : CLK_XTAL_STS.FAIL.id = 1412 ∧ CLK_XTAL_STS.FAIL.ix = 0 ∧ CLK_XTAL_STS.FAIL.width = 1 := ⟨rfl, rfl, rfl⟩
@[simp] theorem CLK_LOSS_RC.RC_id : CLK_LOSS_RC.RC.id = 1413 ∧ CLK_LOSS_RC.RC.ix = 0 ∧ CLK_LOSS_RC.RC.width = 32 := ⟨rfl, rfl, rfl⟩
@[simp] theorem CLK_TCXO_LOSS_id : CLK_TCXO_LOSS.id = 1414 ∧ CLK_TCXO_LOSS.ix = 0 ∧ CLK_TCXO_LOSS.width = 32 := ⟨rfl, rfl, rfl⟩
@[simp] theorem CLK_SERDES_LOSS_id : CLK_SERDES_LOSS.id = 1415 ∧ CLK_SERDES_LOSS.ix = 0 ∧ CLK_SERDES_LOSS.width = 32 := ⟨rfl, rfl, rfl⟩
@[simp] theorem CLK_PCIE_LOSS_id : CLK_PCIE_LOSS.id = 1416 ∧ CLK_PCIE_LOSS.ix = 0 ∧ CLK_PCIE_LOSS.width = 32 := ⟨rfl, rfl, rfl⟩
@[simp] theorem CLK_XTAL_FAILS_id : CLK_XTAL_FAILS.id = 1417 ∧ CLK_XTAL_FAILS.ix = 0 ∧ CLK_XTAL_FAILS.width = 32 := ⟨rfl, rfl, rfl⟩
@[simp] theorem CLK_TO_REF_id : CLK_TO_REF.id = 1418 ∧ CLK_TO_REF.ix = 0 ∧ CLK_TO_REF.width = 32 := ⟨rfl, rfl, rfl⟩
@[simp] theorem CLK_TO_RC_id : CLK_TO_RC.id = 1419 ∧ CLK_TO_RC.ix = 0 ∧ CLK_TO_RC.width = 32 := ⟨rfl, rfl, rfl⟩
@[simp] theorem CLK_RECHECKS_id : CLK_RECHECKS.id = 1420 ∧ CLK_RECHECKS.ix = 0 ∧ CLK_RECHECKS.width = 32 := ⟨rfl, rfl, rfl⟩
@[simp] theorem CLK_XTAL_MEASURES_id : CLK_XTAL_MEASURES.id = 1421 ∧ CLK_XTAL_MEASURES.ix = 0 ∧ CLK_XTAL_MEASURES.width = 32 := ⟨rfl, rfl, rfl⟩
@[simp] theorem CLK_REF_STS.PRESENT_id (i : Nat) : (CLK_REF_STS.PRESENT i).id = 1422 ∧ (CLK_REF_STS.PRESENT i).ix = i ∧ (CLK_REF_STS.PRESENT i).width = 1 := ⟨rfl, rfl, rfl⟩
@[simp] theorem CLK_REF_STS.IN_TOL_id (i : Nat) : (CLK_REF_STS.IN_TOL i).id = 1423 ∧ (CLK_REF_STS.IN_TOL i).ix = i ∧ (CLK_REF_STS.IN_TOL i).width = 1 := ⟨rfl, rfl, rfl⟩
@[simp] theorem CLK_REF_PPM.PPM_id (i : Nat) : (CLK_REF_PPM.PPM i).id = 1424 ∧ (CLK_REF_PPM.PPM i).ix = i ∧ (CLK_REF_PPM.PPM i).width = 32 := ⟨rfl, rfl, rfl⟩
@[simp] theorem CLK_ISL_CTL.HOLD_RC_id (n : Nat) : (CLK_ISL_CTL.HOLD_RC n).id = 1425 ∧ (CLK_ISL_CTL.HOLD_RC n).ix = n ∧ (CLK_ISL_CTL.HOLD_RC n).width = 1 := ⟨rfl, rfl, rfl⟩
@[simp] theorem CLK_ISL_STS.ON_REF_id (n : Nat) : (CLK_ISL_STS.ON_REF n).id = 1426 ∧ (CLK_ISL_STS.ON_REF n).ix = n ∧ (CLK_ISL_STS.ON_REF n).width = 1 := ⟨rfl, rfl, rfl⟩
@[simp] theorem CLK_ISL_STS.LOCKED_id (n : Nat) : (CLK_ISL_STS.LOCKED n).id = 1427 ∧ (CLK_ISL_STS.LOCKED n).ix = n ∧ (CLK_ISL_STS.LOCKED n).width = 1 := ⟨rfl, rfl, rfl⟩
@[simp] theorem CLK_ISL_STS.SWITCHING_id (n : Nat) : (CLK_ISL_STS.SWITCHING n).id = 1428 ∧ (CLK_ISL_STS.SWITCHING n).ix = n ∧ (CLK_ISL_STS.SWITCHING n).width = 1 := ⟨rfl, rfl, rfl⟩
@[simp] theorem CLK_ISL_LOCK.US_id (n : Nat) : (CLK_ISL_LOCK.US n).id = 1429 ∧ (CLK_ISL_LOCK.US n).ix = n ∧ (CLK_ISL_LOCK.US n).width = 16 := ⟨rfl, rfl, rfl⟩
@[simp] theorem CLK_ISL_FREQ.KHZ_id (n : Nat) : (CLK_ISL_FREQ.KHZ n).id = 1430 ∧ (CLK_ISL_FREQ.KHZ n).ix = n ∧ (CLK_ISL_FREQ.KHZ n).width = 32 := ⟨rfl, rfl, rfl⟩
@[simp] theorem CLK_ISL_UNLOCKS_id (n : Nat) : (CLK_ISL_UNLOCKS n).id = 1431 ∧ (CLK_ISL_UNLOCKS n).ix = n ∧ (CLK_ISL_UNLOCKS n).width = 32 := ⟨rfl, rfl, rfl⟩
@[simp] theorem CLK_ISL_SWITCHES_id (n : Nat) : (CLK_ISL_SWITCHES n).id = 1432 ∧ (CLK_ISL_SWITCHES n).ix = n ∧ (CLK_ISL_SWITCHES n).width = 32 := ⟨rfl, rfl, rfl⟩
@[simp] theorem FLT_CFG.EN_IRQ_id : FLT_CFG.EN_IRQ.id = 1433 ∧ FLT_CFG.EN_IRQ.ix = 0 ∧ FLT_CFG.EN_IRQ.width = 1 := ⟨rfl, rfl, rfl⟩
@[simp] theorem FLT_STS.ANY_id : FLT_STS.ANY.id = 1434 ∧ FLT_STS.ANY.ix = 0 ∧ FLT_STS.ANY.width = 1 := ⟨rfl, rfl, rfl⟩
@[simp] theorem FLT_STS.ESC_RUN_id : FLT_STS.ESC_RUN.id = 1435 ∧ FLT_STS.ESC_RUN.ix = 0 ∧ FLT_STS.ESC_RUN.width = 1 := ⟨rfl, rfl, rfl⟩
@[simp] theorem FLT_STS.QUEUE_FULL_id : FLT_STS.QUEUE_FULL.id = 1436 ∧ FLT_STS.QUEUE_FULL.ix = 0 ∧ FLT_STS.QUEUE_FULL.width = 1 := ⟨rfl, rfl, rfl⟩
@[simp] theorem FLT_INT_STS.FAULT_id : FLT_INT_STS.FAULT.id = 1437 ∧ FLT_INT_STS.FAULT.ix = 0 ∧ FLT_INT_STS.FAULT.width = 1 := ⟨rfl, rfl, rfl⟩
@[simp] theorem FLT_INT_STS.ESC_ARMED_id : FLT_INT_STS.ESC_ARMED.id = 1438 ∧ FLT_INT_STS.ESC_ARMED.ix = 0 ∧ FLT_INT_STS.ESC_ARMED.width = 1 := ⟨rfl, rfl, rfl⟩
@[simp] theorem FLT_INT_STS.MOR_WRAP_id : FLT_INT_STS.MOR_WRAP.id = 1439 ∧ FLT_INT_STS.MOR_WRAP.ix = 0 ∧ FLT_INT_STS.MOR_WRAP.width = 1 := ⟨rfl, rfl, rfl⟩
@[simp] theorem FLT_INT_STS.FIRST_id : FLT_INT_STS.FIRST.id = 1440 ∧ FLT_INT_STS.FIRST.ix = 0 ∧ FLT_INT_STS.FIRST.width = 1 := ⟨rfl, rfl, rfl⟩
@[simp] theorem FLT_INT_EN.FAULT_id : FLT_INT_EN.FAULT.id = 1441 ∧ FLT_INT_EN.FAULT.ix = 0 ∧ FLT_INT_EN.FAULT.width = 1 := ⟨rfl, rfl, rfl⟩
@[simp] theorem FLT_INT_EN.ESC_ARMED_id : FLT_INT_EN.ESC_ARMED.id = 1442 ∧ FLT_INT_EN.ESC_ARMED.ix = 0 ∧ FLT_INT_EN.ESC_ARMED.width = 1 := ⟨rfl, rfl, rfl⟩
@[simp] theorem FLT_INT_EN.MOR_WRAP_id : FLT_INT_EN.MOR_WRAP.id = 1443 ∧ FLT_INT_EN.MOR_WRAP.ix = 0 ∧ FLT_INT_EN.MOR_WRAP.width = 1 := ⟨rfl, rfl, rfl⟩
@[simp] theorem FLT_INT_EN.FIRST_id : FLT_INT_EN.FIRST.id = 1444 ∧ FLT_INT_EN.FIRST.ix = 0 ∧ FLT_INT_EN.FIRST.width = 1 := ⟨rfl, rfl, rfl⟩
@[simp] theorem FLT_ESC_CFG.MS_id : FLT_ESC_CFG.MS.id = 1445 ∧ FLT_ESC_CFG.MS.ix = 0 ∧ FLT_ESC_CFG.MS.width = 16 := ⟨rfl, rfl, rfl⟩
@[simp] theorem FLT_ESC_STS.LEFT_id : FLT_ESC_STS.LEFT.id = 1446 ∧ FLT_ESC_STS.LEFT.ix = 0 ∧ FLT_ESC_STS.LEFT.width = 16 := ⟨rfl, rfl, rfl⟩
@[simp] theorem FLT_ESC_SRC.SRC_id : FLT_ESC_SRC.SRC.id = 1447 ∧ FLT_ESC_SRC.SRC.ix = 0 ∧ FLT_ESC_SRC.SRC.width = 8 := ⟨rfl, rfl, rfl⟩
@[simp] theorem FLT_CLEAR.ALL_id : FLT_CLEAR.ALL.id = 1448 ∧ FLT_CLEAR.ALL.ix = 0 ∧ FLT_CLEAR.ALL.width = 1 := ⟨rfl, rfl, rfl⟩
@[simp] theorem FLT_CLEAR.FIRST_id : FLT_CLEAR.FIRST.id = 1449 ∧ FLT_CLEAR.FIRST.ix = 0 ∧ FLT_CLEAR.FIRST.width = 1 := ⟨rfl, rfl, rfl⟩
@[simp] theorem FLT_INJECT.SRC_id : FLT_INJECT.SRC.id = 1450 ∧ FLT_INJECT.SRC.ix = 0 ∧ FLT_INJECT.SRC.width = 8 := ⟨rfl, rfl, rfl⟩
@[simp] theorem FLT_INJECT.GO_id : FLT_INJECT.GO.id = 1451 ∧ FLT_INJECT.GO.ix = 0 ∧ FLT_INJECT.GO.width = 1 := ⟨rfl, rfl, rfl⟩
@[simp] theorem FLT_RST_CFG.LIMIT_id : FLT_RST_CFG.LIMIT.id = 1452 ∧ FLT_RST_CFG.LIMIT.ix = 0 ∧ FLT_RST_CFG.LIMIT.width = 4 := ⟨rfl, rfl, rfl⟩
@[simp] theorem FLT_RST_CFG.CALM_S_id : FLT_RST_CFG.CALM_S.id = 1453 ∧ FLT_RST_CFG.CALM_S.ix = 0 ∧ FLT_RST_CFG.CALM_S.width = 12 := ⟨rfl, rfl, rfl⟩
@[simp] theorem FLT_RST_RUN.RUN_id : FLT_RST_RUN.RUN.id = 1454 ∧ FLT_RST_RUN.RUN.ix = 0 ∧ FLT_RST_RUN.RUN.width = 4 := ⟨rfl, rfl, rfl⟩
@[simp] theorem FLT_MOR_CTL.CLEAR_id : FLT_MOR_CTL.CLEAR.id = 1455 ∧ FLT_MOR_CTL.CLEAR.ix = 0 ∧ FLT_MOR_CTL.CLEAR.width = 1 := ⟨rfl, rfl, rfl⟩
@[simp] theorem FLT_MOR_STS.WP_id : FLT_MOR_STS.WP.id = 1456 ∧ FLT_MOR_STS.WP.ix = 0 ∧ FLT_MOR_STS.WP.width = 6 := ⟨rfl, rfl, rfl⟩
@[simp] theorem FLT_MOR_STS.WRAPS_id : FLT_MOR_STS.WRAPS.id = 1457 ∧ FLT_MOR_STS.WRAPS.ix = 0 ∧ FLT_MOR_STS.WRAPS.width = 8 := ⟨rfl, rfl, rfl⟩
@[simp] theorem FLT_MOR_STS.QUEUED_id : FLT_MOR_STS.QUEUED.id = 1458 ∧ FLT_MOR_STS.QUEUED.ix = 0 ∧ FLT_MOR_STS.QUEUED.width = 5 := ⟨rfl, rfl, rfl⟩
@[simp] theorem FLT_FAULTN.LOW_id : FLT_FAULTN.LOW.id = 1459 ∧ FLT_FAULTN.LOW.ix = 0 ∧ FLT_FAULTN.LOW.width = 1 := ⟨rfl, rfl, rfl⟩
@[simp] theorem FLT_SUM.WORDS_id : FLT_SUM.WORDS.id = 1460 ∧ FLT_SUM.WORDS.ix = 0 ∧ FLT_SUM.WORDS.width = 8 := ⟨rfl, rfl, rfl⟩
@[simp] theorem FLT_LAST.SRC_id : FLT_LAST.SRC.id = 1461 ∧ FLT_LAST.SRC.ix = 0 ∧ FLT_LAST.SRC.width = 8 := ⟨rfl, rfl, rfl⟩
@[simp] theorem FLT_RAISES_id : FLT_RAISES.id = 1462 ∧ FLT_RAISES.ix = 0 ∧ FLT_RAISES.width = 32 := ⟨rfl, rfl, rfl⟩
@[simp] theorem FLT_CLEARS_id : FLT_CLEARS.id = 1463 ∧ FLT_CLEARS.ix = 0 ∧ FLT_CLEARS.width = 32 := ⟨rfl, rfl, rfl⟩
@[simp] theorem FLT_ESCALATIONS_id : FLT_ESCALATIONS.id = 1464 ∧ FLT_ESCALATIONS.ix = 0 ∧ FLT_ESCALATIONS.width = 32 := ⟨rfl, rfl, rfl⟩
@[simp] theorem FLT_RESETS_id : FLT_RESETS.id = 1465 ∧ FLT_RESETS.ix = 0 ∧ FLT_RESETS.width = 32 := ⟨rfl, rfl, rfl⟩
@[simp] theorem FLT_RESET_SUPPRESSED_id : FLT_RESET_SUPPRESSED.id = 1466 ∧ FLT_RESET_SUPPRESSED.ix = 0 ∧ FLT_RESET_SUPPRESSED.width = 32 := ⟨rfl, rfl, rfl⟩
@[simp] theorem FLT_MOR_WRITES_id : FLT_MOR_WRITES.id = 1467 ∧ FLT_MOR_WRITES.ix = 0 ∧ FLT_MOR_WRITES.width = 32 := ⟨rfl, rfl, rfl⟩
@[simp] theorem FLT_MOR_LOST_id : FLT_MOR_LOST.id = 1468 ∧ FLT_MOR_LOST.ix = 0 ∧ FLT_MOR_LOST.width = 32 := ⟨rfl, rfl, rfl⟩
@[simp] theorem FLT_INJECTS_id : FLT_INJECTS.id = 1469 ∧ FLT_INJECTS.ix = 0 ∧ FLT_INJECTS.width = 32 := ⟨rfl, rfl, rfl⟩
@[simp] theorem FLT_FIRST.W_id (i : Nat) : (FLT_FIRST.W i).id = 1470 ∧ (FLT_FIRST.W i).ix = i ∧ (FLT_FIRST.W i).width = 32 := ⟨rfl, rfl, rfl⟩
@[simp] theorem FLT_RAW.B_id (i : Nat) : (FLT_RAW.B i).id = 1471 ∧ (FLT_RAW.B i).ix = i ∧ (FLT_RAW.B i).width = 32 := ⟨rfl, rfl, rfl⟩
@[simp] theorem FLT_LATCH.B_id (i : Nat) : (FLT_LATCH.B i).id = 1472 ∧ (FLT_LATCH.B i).ix = i ∧ (FLT_LATCH.B i).width = 32 := ⟨rfl, rfl, rfl⟩
@[simp] theorem FLT_SRC_CFG.REACT_id (i : Nat) : (FLT_SRC_CFG.REACT i).id = 1473 ∧ (FLT_SRC_CFG.REACT i).ix = i ∧ (FLT_SRC_CFG.REACT i).width = 2 := ⟨rfl, rfl, rfl⟩
@[simp] theorem FLT_SRC_CFG.CLASS_id (i : Nat) : (FLT_SRC_CFG.CLASS i).id = 1474 ∧ (FLT_SRC_CFG.CLASS i).ix = i ∧ (FLT_SRC_CFG.CLASS i).width = 2 := ⟨rfl, rfl, rfl⟩
@[simp] theorem FLT_SRC_CFG.LASTING_id (i : Nat) : (FLT_SRC_CFG.LASTING i).id = 1475 ∧ (FLT_SRC_CFG.LASTING i).ix = i ∧ (FLT_SRC_CFG.LASTING i).width = 1 := ⟨rfl, rfl, rfl⟩
@[simp] theorem FLT_SRC_CFG.CNT_id (i : Nat) : (FLT_SRC_CFG.CNT i).id = 1476 ∧ (FLT_SRC_CFG.CNT i).ix = i ∧ (FLT_SRC_CFG.CNT i).width = 8 := ⟨rfl, rfl, rfl⟩
@[simp] theorem FLT_MORAINE.W_id (i : Nat) : (FLT_MORAINE.W i).id = 1477 ∧ (FLT_MORAINE.W i).ix = i ∧ (FLT_MORAINE.W i).width = 32 := ⟨rfl, rfl, rfl⟩
@[simp] theorem PAIR_CFG.EN_id : PAIR_CFG.EN.id = 1478 ∧ PAIR_CFG.EN.ix = 0 ∧ PAIR_CFG.EN.width = 1 := ⟨rfl, rfl, rfl⟩
@[simp] theorem PAIR_CFG.AUTO_TAKE_id : PAIR_CFG.AUTO_TAKE.id = 1479 ∧ PAIR_CFG.AUTO_TAKE.ix = 0 ∧ PAIR_CFG.AUTO_TAKE.width = 1 := ⟨rfl, rfl, rfl⟩
@[simp] theorem PAIR_CFG.RELAY_RADIO_id : PAIR_CFG.RELAY_RADIO.id = 1480 ∧ PAIR_CFG.RELAY_RADIO.ix = 0 ∧ PAIR_CFG.RELAY_RADIO.width = 1 := ⟨rfl, rfl, rfl⟩
@[simp] theorem PAIR_CFG.RELAY_ETH_id : PAIR_CFG.RELAY_ETH.id = 1481 ∧ PAIR_CFG.RELAY_ETH.ix = 0 ∧ PAIR_CFG.RELAY_ETH.width = 1 := ⟨rfl, rfl, rfl⟩
@[simp] theorem PAIR_CFG.RLY_PORT_id : PAIR_CFG.RLY_PORT.id = 1482 ∧ PAIR_CFG.RLY_PORT.ix = 0 ∧ PAIR_CFG.RLY_PORT.width = 1 := ⟨rfl, rfl, rfl⟩
@[simp] theorem PAIR_CFG.STRICT_TAKE_id : PAIR_CFG.STRICT_TAKE.id = 1483 ∧ PAIR_CFG.STRICT_TAKE.ix = 0 ∧ PAIR_CFG.STRICT_TAKE.width = 1 := ⟨rfl, rfl, rfl⟩
@[simp] theorem PAIR_CTL.JOIN_id : PAIR_CTL.JOIN.id = 1484 ∧ PAIR_CTL.JOIN.ix = 0 ∧ PAIR_CTL.JOIN.width = 2 := ⟨rfl, rfl, rfl⟩
@[simp] theorem PAIR_CTL.LEAVE_id : PAIR_CTL.LEAVE.id = 1485 ∧ PAIR_CTL.LEAVE.ix = 0 ∧ PAIR_CTL.LEAVE.width = 1 := ⟨rfl, rfl, rfl⟩
@[simp] theorem PAIR_CTL.SWITCH_id : PAIR_CTL.SWITCH.id = 1486 ∧ PAIR_CTL.SWITCH.ix = 0 ∧ PAIR_CTL.SWITCH.width = 1 := ⟨rfl, rfl, rfl⟩
@[simp] theorem PAIR_CTL.FORCE_id : PAIR_CTL.FORCE.id = 1487 ∧ PAIR_CTL.FORCE.ix = 0 ∧ PAIR_CTL.FORCE.width = 1 := ⟨rfl, rfl, rfl⟩
@[simp] theorem PAIR_CTL.BAD_id : PAIR_CTL.BAD.id = 1488 ∧ PAIR_CTL.BAD.ix = 0 ∧ PAIR_CTL.BAD.width = 1 := ⟨rfl, rfl, rfl⟩
@[simp] theorem PAIR_STS.ROLE_id : PAIR_STS.ROLE.id = 1489 ∧ PAIR_STS.ROLE.ix = 0 ∧ PAIR_STS.ROLE.width = 2 := ⟨rfl, rfl, rfl⟩
@[simp] theorem PAIR_STS.SYNC_id : PAIR_STS.SYNC.id = 1490 ∧ PAIR_STS.SYNC.ix = 0 ∧ PAIR_STS.SYNC.width = 2 := ⟨rfl, rfl, rfl⟩
@[simp] theorem PAIR_STS.PEER_ROLE_id : PAIR_STS.PEER_ROLE.id = 1491 ∧ PAIR_STS.PEER_ROLE.ix = 0 ∧ PAIR_STS.PEER_ROLE.width = 2 := ⟨rfl, rfl, rfl⟩
@[simp] theorem PAIR_STS.PEER_SEEN_id : PAIR_STS.PEER_SEEN.id = 1492 ∧ PAIR_STS.PEER_SEEN.ix = 0 ∧ PAIR_STS.PEER_SEEN.width = 1 := ⟨rfl, rfl, rfl⟩
@[simp] theorem PAIR_STS.PEER_SILENT_id : PAIR_STS.PEER_SILENT.id = 1493 ∧ PAIR_STS.PEER_SILENT.ix = 0 ∧ PAIR_STS.PEER_SILENT.width = 1 := ⟨rfl, rfl, rfl⟩
@[simp] theorem PAIR_STS.ALIVE_IN_id : PAIR_STS.ALIVE_IN.id = 1494 ∧ PAIR_STS.ALIVE_IN.ix = 0 ∧ PAIR_STS.ALIVE_IN.width = 1 := ⟨rfl, rfl, rfl⟩
@[simp] theorem PAIR_STS.FENCE_IN_id : PAIR_STS.FENCE_IN.id = 1495 ∧ PAIR_STS.FENCE_IN.ix = 0 ∧ PAIR_STS.FENCE_IN.width = 1 := ⟨rfl, rfl, rfl⟩
@[simp] theorem PAIR_STS.FENCE_OUT_id : PAIR_STS.FENCE_OUT.id = 1496 ∧ PAIR_STS.FENCE_OUT.ix = 0 ∧ PAIR_STS.FENCE_OUT.width = 1 := ⟨rfl, rfl, rfl⟩
@[simp] theorem PAIR_STS.TAKE_PEND_id : PAIR_STS.TAKE_PEND.id = 1497 ∧ PAIR_STS.TAKE_PEND.ix = 0 ∧ PAIR_STS.TAKE_PEND.width = 1 := ⟨rfl, rfl, rfl⟩
@[simp] theorem PAIR_STS.SW_PEND_id : PAIR_STS.SW_PEND.id = 1498 ∧ PAIR_STS.SW_PEND.ix = 0 ∧ PAIR_STS.SW_PEND.width = 1 := ⟨rfl, rfl, rfl⟩
@[simp] theorem PAIR_STS.SW_LATE_id : PAIR_STS.SW_LATE.id = 1499 ∧ PAIR_STS.SW_LATE.ix = 0 ∧ PAIR_STS.SW_LATE.width = 1 := ⟨rfl, rfl, rfl⟩
@[simp] theorem PAIR_INT_STS.SYNCED_id : PAIR_INT_STS.SYNCED.id = 1500 ∧ PAIR_INT_STS.SYNCED.ix = 0 ∧ PAIR_INT_STS.SYNCED.width = 1 := ⟨rfl, rfl, rfl⟩
@[simp] theorem PAIR_INT_STS.SYNC_LOST_id : PAIR_INT_STS.SYNC_LOST.id = 1501 ∧ PAIR_INT_STS.SYNC_LOST.ix = 0 ∧ PAIR_INT_STS.SYNC_LOST.width = 1 := ⟨rfl, rfl, rfl⟩
@[simp] theorem PAIR_INT_STS.TAKEOVER_id : PAIR_INT_STS.TAKEOVER.id = 1502 ∧ PAIR_INT_STS.TAKEOVER.ix = 0 ∧ PAIR_INT_STS.TAKEOVER.width = 1 := ⟨rfl, rfl, rfl⟩
@[simp] theorem PAIR_INT_STS.FENCED_id : PAIR_INT_STS.FENCED.id = 1503 ∧ PAIR_INT_STS.FENCED.ix = 0 ∧ PAIR_INT_STS.FENCED.width = 1 := ⟨rfl, rfl, rfl⟩
@[simp] theorem PAIR_INT_STS.PEER_LOST_id : PAIR_INT_STS.PEER_LOST.id = 1504 ∧ PAIR_INT_STS.PEER_LOST.ix = 0 ∧ PAIR_INT_STS.PEER_LOST.width = 1 := ⟨rfl, rfl, rfl⟩
@[simp] theorem PAIR_INT_STS.PEER_BACK_id : PAIR_INT_STS.PEER_BACK.id = 1505 ∧ PAIR_INT_STS.PEER_BACK.ix = 0 ∧ PAIR_INT_STS.PEER_BACK.width = 1 := ⟨rfl, rfl, rfl⟩
@[simp] theorem PAIR_INT_STS.TAKE_BLOCKED_id : PAIR_INT_STS.TAKE_BLOCKED.id = 1506 ∧ PAIR_INT_STS.TAKE_BLOCKED.ix = 0 ∧ PAIR_INT_STS.TAKE_BLOCKED.width = 1 := ⟨rfl, rfl, rfl⟩
@[simp] theorem PAIR_INT_STS.SWITCH_DONE_id : PAIR_INT_STS.SWITCH_DONE.id = 1507 ∧ PAIR_INT_STS.SWITCH_DONE.ix = 0 ∧ PAIR_INT_STS.SWITCH_DONE.width = 1 := ⟨rfl, rfl, rfl⟩
@[simp] theorem PAIR_INT_STS.CFG_MISMATCH_id : PAIR_INT_STS.CFG_MISMATCH.id = 1508 ∧ PAIR_INT_STS.CFG_MISMATCH.ix = 0 ∧ PAIR_INT_STS.CFG_MISMATCH.width = 1 := ⟨rfl, rfl, rfl⟩
@[simp] theorem PAIR_INT_STS.LANE_DOWN_id : PAIR_INT_STS.LANE_DOWN.id = 1509 ∧ PAIR_INT_STS.LANE_DOWN.ix = 0 ∧ PAIR_INT_STS.LANE_DOWN.width = 1 := ⟨rfl, rfl, rfl⟩
@[simp] theorem PAIR_INT_STS.AUTH_FAIL_id : PAIR_INT_STS.AUTH_FAIL.id = 1510 ∧ PAIR_INT_STS.AUTH_FAIL.ix = 0 ∧ PAIR_INT_STS.AUTH_FAIL.width = 1 := ⟨rfl, rfl, rfl⟩
@[simp] theorem PAIR_INT_STS.MIR_OVF_id : PAIR_INT_STS.MIR_OVF.id = 1511 ∧ PAIR_INT_STS.MIR_OVF.ix = 0 ∧ PAIR_INT_STS.MIR_OVF.width = 1 := ⟨rfl, rfl, rfl⟩
@[simp] theorem PAIR_INT_EN.SYNCED_id : PAIR_INT_EN.SYNCED.id = 1512 ∧ PAIR_INT_EN.SYNCED.ix = 0 ∧ PAIR_INT_EN.SYNCED.width = 1 := ⟨rfl, rfl, rfl⟩
@[simp] theorem PAIR_INT_EN.SYNC_LOST_id : PAIR_INT_EN.SYNC_LOST.id = 1513 ∧ PAIR_INT_EN.SYNC_LOST.ix = 0 ∧ PAIR_INT_EN.SYNC_LOST.width = 1 := ⟨rfl, rfl, rfl⟩
@[simp] theorem PAIR_INT_EN.TAKEOVER_id : PAIR_INT_EN.TAKEOVER.id = 1514 ∧ PAIR_INT_EN.TAKEOVER.ix = 0 ∧ PAIR_INT_EN.TAKEOVER.width = 1 := ⟨rfl, rfl, rfl⟩
@[simp] theorem PAIR_INT_EN.FENCED_id : PAIR_INT_EN.FENCED.id = 1515 ∧ PAIR_INT_EN.FENCED.ix = 0 ∧ PAIR_INT_EN.FENCED.width = 1 := ⟨rfl, rfl, rfl⟩
@[simp] theorem PAIR_INT_EN.PEER_LOST_id : PAIR_INT_EN.PEER_LOST.id = 1516 ∧ PAIR_INT_EN.PEER_LOST.ix = 0 ∧ PAIR_INT_EN.PEER_LOST.width = 1 := ⟨rfl, rfl, rfl⟩
@[simp] theorem PAIR_INT_EN.PEER_BACK_id : PAIR_INT_EN.PEER_BACK.id = 1517 ∧ PAIR_INT_EN.PEER_BACK.ix = 0 ∧ PAIR_INT_EN.PEER_BACK.width = 1 := ⟨rfl, rfl, rfl⟩
@[simp] theorem PAIR_INT_EN.TAKE_BLOCKED_id : PAIR_INT_EN.TAKE_BLOCKED.id = 1518 ∧ PAIR_INT_EN.TAKE_BLOCKED.ix = 0 ∧ PAIR_INT_EN.TAKE_BLOCKED.width = 1 := ⟨rfl, rfl, rfl⟩
@[simp] theorem PAIR_INT_EN.SWITCH_DONE_id : PAIR_INT_EN.SWITCH_DONE.id = 1519 ∧ PAIR_INT_EN.SWITCH_DONE.ix = 0 ∧ PAIR_INT_EN.SWITCH_DONE.width = 1 := ⟨rfl, rfl, rfl⟩
@[simp] theorem PAIR_INT_EN.CFG_MISMATCH_id : PAIR_INT_EN.CFG_MISMATCH.id = 1520 ∧ PAIR_INT_EN.CFG_MISMATCH.ix = 0 ∧ PAIR_INT_EN.CFG_MISMATCH.width = 1 := ⟨rfl, rfl, rfl⟩
@[simp] theorem PAIR_INT_EN.LANE_DOWN_id : PAIR_INT_EN.LANE_DOWN.id = 1521 ∧ PAIR_INT_EN.LANE_DOWN.ix = 0 ∧ PAIR_INT_EN.LANE_DOWN.width = 1 := ⟨rfl, rfl, rfl⟩
@[simp] theorem PAIR_INT_EN.AUTH_FAIL_id : PAIR_INT_EN.AUTH_FAIL.id = 1522 ∧ PAIR_INT_EN.AUTH_FAIL.ix = 0 ∧ PAIR_INT_EN.AUTH_FAIL.width = 1 := ⟨rfl, rfl, rfl⟩
@[simp] theorem PAIR_INT_EN.MIR_OVF_id : PAIR_INT_EN.MIR_OVF.id = 1523 ∧ PAIR_INT_EN.MIR_OVF.ix = 0 ∧ PAIR_INT_EN.MIR_OVF.width = 1 := ⟨rfl, rfl, rfl⟩
@[simp] theorem PAIR_HB_CFG.HB_US_id : PAIR_HB_CFG.HB_US.id = 1524 ∧ PAIR_HB_CFG.HB_US.ix = 0 ∧ PAIR_HB_CFG.HB_US.width = 10 := ⟨rfl, rfl, rfl⟩
@[simp] theorem PAIR_HB_CFG.HB_MISS_id : PAIR_HB_CFG.HB_MISS.id = 1525 ∧ PAIR_HB_CFG.HB_MISS.ix = 0 ∧ PAIR_HB_CFG.HB_MISS.width = 4 := ⟨rfl, rfl, rfl⟩
@[simp] theorem PAIR_HB_CFG.FAB_MISS_id : PAIR_HB_CFG.FAB_MISS.id = 1526 ∧ PAIR_HB_CFG.FAB_MISS.ix = 0 ∧ PAIR_HB_CFG.FAB_MISS.width = 8 := ⟨rfl, rfl, rfl⟩
@[simp] theorem PAIR_MIR_CFG.INTERVAL_US_id : PAIR_MIR_CFG.INTERVAL_US.id = 1527 ∧ PAIR_MIR_CFG.INTERVAL_US.ix = 0 ∧ PAIR_MIR_CFG.INTERVAL_US.width = 16 := ⟨rfl, rfl, rfl⟩
@[simp] theorem PAIR_MIR_CFG.QMAX_id : PAIR_MIR_CFG.QMAX.id = 1528 ∧ PAIR_MIR_CFG.QMAX.ix = 0 ∧ PAIR_MIR_CFG.QMAX.width = 12 := ⟨rfl, rfl, rfl⟩
@[simp] theorem PAIR_SW_ASN_LO.ASN_id : PAIR_SW_ASN_LO.ASN.id = 1529 ∧ PAIR_SW_ASN_LO.ASN.ix = 0 ∧ PAIR_SW_ASN_LO.ASN.width = 32 := ⟨rfl, rfl, rfl⟩
@[simp] theorem PAIR_SW_ASN_HI.ASN_id : PAIR_SW_ASN_HI.ASN.id = 1530 ∧ PAIR_SW_ASN_HI.ASN.ix = 0 ∧ PAIR_SW_ASN_HI.ASN.width = 8 := ⟨rfl, rfl, rfl⟩
@[simp] theorem PAIR_EPOCH.EPOCH_id : PAIR_EPOCH.EPOCH.id = 1531 ∧ PAIR_EPOCH.EPOCH.ix = 0 ∧ PAIR_EPOCH.EPOCH.width = 32 := ⟨rfl, rfl, rfl⟩
@[simp] theorem PAIR_LAST.ROLE_id : PAIR_LAST.ROLE.id = 1532 ∧ PAIR_LAST.ROLE.ix = 0 ∧ PAIR_LAST.ROLE.width = 2 := ⟨rfl, rfl, rfl⟩
@[simp] theorem PAIR_LAST.LAGGING_id : PAIR_LAST.LAGGING.id = 1533 ∧ PAIR_LAST.LAGGING.ix = 0 ∧ PAIR_LAST.LAGGING.width = 1 := ⟨rfl, rfl, rfl⟩
@[simp] theorem PAIR_LINK_STS.LANE_UP_id : PAIR_LINK_STS.LANE_UP.id = 1534 ∧ PAIR_LINK_STS.LANE_UP.ix = 0 ∧ PAIR_LINK_STS.LANE_UP.width = 2 := ⟨rfl, rfl, rfl⟩
@[simp] theorem PAIR_LINK_STS.UP_id : PAIR_LINK_STS.UP.id = 1535 ∧ PAIR_LINK_STS.UP.ix = 0 ∧ PAIR_LINK_STS.UP.width = 1 := ⟨rfl, rfl, rfl⟩
@[simp] theorem PAIR_LINK_STS.LAT_NS_id : PAIR_LINK_STS.LAT_NS.id = 1536 ∧ PAIR_LINK_STS.LAT_NS.ix = 0 ∧ PAIR_LINK_STS.LAT_NS.width = 16 := ⟨rfl, rfl, rfl⟩
@[simp] theorem PAIR_TIME_CFG.ASYM_NS_id : PAIR_TIME_CFG.ASYM_NS.id = 1537 ∧ PAIR_TIME_CFG.ASYM_NS.ix = 0 ∧ PAIR_TIME_CFG.ASYM_NS.width = 32 := ⟨rfl, rfl, rfl⟩
@[simp] theorem PAIR_TIME_OFS.NS_id : PAIR_TIME_OFS.NS.id = 1538 ∧ PAIR_TIME_OFS.NS.ix = 0 ∧ PAIR_TIME_OFS.NS.width = 32 := ⟨rfl, rfl, rfl⟩
@[simp] theorem PAIR_CFG_CRC.CRC_id : PAIR_CFG_CRC.CRC.id = 1539 ∧ PAIR_CFG_CRC.CRC.ix = 0 ∧ PAIR_CFG_CRC.CRC.width = 32 := ⟨rfl, rfl, rfl⟩
@[simp] theorem PAIR_PEER_CRC.CRC_id : PAIR_PEER_CRC.CRC.id = 1540 ∧ PAIR_PEER_CRC.CRC.ix = 0 ∧ PAIR_PEER_CRC.CRC.width = 32 := ⟨rfl, rfl, rfl⟩
@[simp] theorem PAIR_HB_TX_id : PAIR_HB_TX.id = 1541 ∧ PAIR_HB_TX.ix = 0 ∧ PAIR_HB_TX.width = 32 := ⟨rfl, rfl, rfl⟩
@[simp] theorem PAIR_HB_RX_id : PAIR_HB_RX.id = 1542 ∧ PAIR_HB_RX.ix = 0 ∧ PAIR_HB_RX.width = 32 := ⟨rfl, rfl, rfl⟩
@[simp] theorem PAIR_HB_MISS_id : PAIR_HB_MISS.id = 1543 ∧ PAIR_HB_MISS.ix = 0 ∧ PAIR_HB_MISS.width = 32 := ⟨rfl, rfl, rfl⟩
@[simp] theorem PAIR_ALIVE_MISS_id : PAIR_ALIVE_MISS.id = 1544 ∧ PAIR_ALIVE_MISS.ix = 0 ∧ PAIR_ALIVE_MISS.width = 32 := ⟨rfl, rfl, rfl⟩
@[simp] theorem PAIR_TAKEOVERS_id : PAIR_TAKEOVERS.id = 1545 ∧ PAIR_TAKEOVERS.ix = 0 ∧ PAIR_TAKEOVERS.width = 32 := ⟨rfl, rfl, rfl⟩
@[simp] theorem PAIR_TAKE_BLOCKED_id : PAIR_TAKE_BLOCKED.id = 1546 ∧ PAIR_TAKE_BLOCKED.ix = 0 ∧ PAIR_TAKE_BLOCKED.width = 32 := ⟨rfl, rfl, rfl⟩
@[simp] theorem PAIR_FORCED_id : PAIR_FORCED.id = 1547 ∧ PAIR_FORCED.ix = 0 ∧ PAIR_FORCED.width = 32 := ⟨rfl, rfl, rfl⟩
@[simp] theorem PAIR_FENCES_id : PAIR_FENCES.id = 1548 ∧ PAIR_FENCES.ix = 0 ∧ PAIR_FENCES.width = 32 := ⟨rfl, rfl, rfl⟩
@[simp] theorem PAIR_YIELDS_id : PAIR_YIELDS.id = 1549 ∧ PAIR_YIELDS.ix = 0 ∧ PAIR_YIELDS.width = 32 := ⟨rfl, rfl, rfl⟩
@[simp] theorem PAIR_SWITCHES_id : PAIR_SWITCHES.id = 1550 ∧ PAIR_SWITCHES.ix = 0 ∧ PAIR_SWITCHES.width = 32 := ⟨rfl, rfl, rfl⟩
@[simp] theorem PAIR_MIR_TX_id : PAIR_MIR_TX.id = 1551 ∧ PAIR_MIR_TX.ix = 0 ∧ PAIR_MIR_TX.width = 32 := ⟨rfl, rfl, rfl⟩
@[simp] theorem PAIR_MIR_RX_id : PAIR_MIR_RX.id = 1552 ∧ PAIR_MIR_RX.ix = 0 ∧ PAIR_MIR_RX.width = 32 := ⟨rfl, rfl, rfl⟩
@[simp] theorem PAIR_MACK_RX_id : PAIR_MACK_RX.id = 1553 ∧ PAIR_MACK_RX.ix = 0 ∧ PAIR_MACK_RX.width = 32 := ⟨rfl, rfl, rfl⟩
@[simp] theorem PAIR_MIR_OVF_id : PAIR_MIR_OVF.id = 1554 ∧ PAIR_MIR_OVF.ix = 0 ∧ PAIR_MIR_OVF.width = 32 := ⟨rfl, rfl, rfl⟩
@[simp] theorem PAIR_RESYNCS_id : PAIR_RESYNCS.id = 1555 ∧ PAIR_RESYNCS.ix = 0 ∧ PAIR_RESYNCS.width = 32 := ⟨rfl, rfl, rfl⟩
@[simp] theorem PAIR_BULK_RECORDS_id : PAIR_BULK_RECORDS.id = 1556 ∧ PAIR_BULK_RECORDS.ix = 0 ∧ PAIR_BULK_RECORDS.width = 32 := ⟨rfl, rfl, rfl⟩
@[simp] theorem PAIR_RES_MIRRORED_id : PAIR_RES_MIRRORED.id = 1557 ∧ PAIR_RES_MIRRORED.ix = 0 ∧ PAIR_RES_MIRRORED.width = 32 := ⟨rfl, rfl, rfl⟩
@[simp] theorem PAIR_RES_LOCAL_id : PAIR_RES_LOCAL.id = 1558 ∧ PAIR_RES_LOCAL.ix = 0 ∧ PAIR_RES_LOCAL.width = 32 := ⟨rfl, rfl, rfl⟩
@[simp] theorem PAIR_GEN_MIRRORED_id : PAIR_GEN_MIRRORED.id = 1559 ∧ PAIR_GEN_MIRRORED.ix = 0 ∧ PAIR_GEN_MIRRORED.width = 32 := ⟨rfl, rfl, rfl⟩
@[simp] theorem PAIR_KEY_MIRRORED_id : PAIR_KEY_MIRRORED.id = 1560 ∧ PAIR_KEY_MIRRORED.ix = 0 ∧ PAIR_KEY_MIRRORED.width = 32 := ⟨rfl, rfl, rfl⟩
@[simp] theorem PAIR_FWT_MIRRORED_id : PAIR_FWT_MIRRORED.id = 1561 ∧ PAIR_FWT_MIRRORED.ix = 0 ∧ PAIR_FWT_MIRRORED.width = 32 := ⟨rfl, rfl, rfl⟩
@[simp] theorem PAIR_RLY_RADIO_TX_id : PAIR_RLY_RADIO_TX.id = 1562 ∧ PAIR_RLY_RADIO_TX.ix = 0 ∧ PAIR_RLY_RADIO_TX.width = 32 := ⟨rfl, rfl, rfl⟩
@[simp] theorem PAIR_RLY_RADIO_RX_id : PAIR_RLY_RADIO_RX.id = 1563 ∧ PAIR_RLY_RADIO_RX.ix = 0 ∧ PAIR_RLY_RADIO_RX.width = 32 := ⟨rfl, rfl, rfl⟩
@[simp] theorem PAIR_RLY_DUP_id : PAIR_RLY_DUP.id = 1564 ∧ PAIR_RLY_DUP.ix = 0 ∧ PAIR_RLY_DUP.width = 32 := ⟨rfl, rfl, rfl⟩
@[simp] theorem PAIR_RLY_ETH_TX_id : PAIR_RLY_ETH_TX.id = 1565 ∧ PAIR_RLY_ETH_TX.ix = 0 ∧ PAIR_RLY_ETH_TX.width = 32 := ⟨rfl, rfl, rfl⟩
@[simp] theorem PAIR_RLY_ETH_RX_id : PAIR_RLY_ETH_RX.id = 1566 ∧ PAIR_RLY_ETH_RX.ix = 0 ∧ PAIR_RLY_ETH_RX.width = 32 := ⟨rfl, rfl, rfl⟩
@[simp] theorem PAIR_RLY_DROP_id : PAIR_RLY_DROP.id = 1567 ∧ PAIR_RLY_DROP.ix = 0 ∧ PAIR_RLY_DROP.width = 32 := ⟨rfl, rfl, rfl⟩
@[simp] theorem PAIR_TIME_SAMPLES_id : PAIR_TIME_SAMPLES.id = 1568 ∧ PAIR_TIME_SAMPLES.ix = 0 ∧ PAIR_TIME_SAMPLES.width = 32 := ⟨rfl, rfl, rfl⟩
@[simp] theorem PAIR_AUTH_FAIL_id : PAIR_AUTH_FAIL.id = 1569 ∧ PAIR_AUTH_FAIL.ix = 0 ∧ PAIR_AUTH_FAIL.width = 32 := ⟨rfl, rfl, rfl⟩
@[simp] theorem PAIR_LANE_DOWN_id : PAIR_LANE_DOWN.id = 1570 ∧ PAIR_LANE_DOWN.ix = 0 ∧ PAIR_LANE_DOWN.width = 32 := ⟨rfl, rfl, rfl⟩
@[simp] theorem PAIR_CFG_MISMATCH_id : PAIR_CFG_MISMATCH.id = 1571 ∧ PAIR_CFG_MISMATCH.ix = 0 ∧ PAIR_CFG_MISMATCH.width = 32 := ⟨rfl, rfl, rfl⟩
@[simp] theorem PAIR_LINK_BYTES_K_id : PAIR_LINK_BYTES_K.id = 1572 ∧ PAIR_LINK_BYTES_K.ix = 0 ∧ PAIR_LINK_BYTES_K.width = 32 := ⟨rfl, rfl, rfl⟩
@[simp] theorem PAIR_PEER_PUB.K_id (i : Nat) : (PAIR_PEER_PUB.K i).id = 1573 ∧ (PAIR_PEER_PUB.K i).ix = i ∧ (PAIR_PEER_PUB.K i).width = 32 := ⟨rfl, rfl, rfl⟩
@[simp] theorem PAIR_PEER_EUI_LO.EUI_id : PAIR_PEER_EUI_LO.EUI.id = 1574 ∧ PAIR_PEER_EUI_LO.EUI.ix = 0 ∧ PAIR_PEER_EUI_LO.EUI.width = 32 := ⟨rfl, rfl, rfl⟩
@[simp] theorem PAIR_PEER_EUI_HI.EUI_id : PAIR_PEER_EUI_HI.EUI.id = 1575 ∧ PAIR_PEER_EUI_HI.EUI.ix = 0 ∧ PAIR_PEER_EUI_HI.EUI.width = 32 := ⟨rfl, rfl, rfl⟩
@[simp] theorem PAIR_MIR_SEQ.MSEQ_id : PAIR_MIR_SEQ.MSEQ.id = 1576 ∧ PAIR_MIR_SEQ.MSEQ.ix = 0 ∧ PAIR_MIR_SEQ.MSEQ.width = 32 := ⟨rfl, rfl, rfl⟩
@[simp] theorem PAIR_MIR_ACKED.MSEQ_id : PAIR_MIR_ACKED.MSEQ.id = 1577 ∧ PAIR_MIR_ACKED.MSEQ.ix = 0 ∧ PAIR_MIR_ACKED.MSEQ.width = 32 := ⟨rfl, rfl, rfl⟩
@[simp] theorem PAIR_MIR_STS.CURDS_id : PAIR_MIR_STS.CURDS.id = 1578 ∧ PAIR_MIR_STS.CURDS.ix = 0 ∧ PAIR_MIR_STS.CURDS.width = 12 := ⟨rfl, rfl, rfl⟩
@[simp] theorem PAIR_MIR_STS.PEAK_id : PAIR_MIR_STS.PEAK.id = 1579 ∧ PAIR_MIR_STS.PEAK.ix = 0 ∧ PAIR_MIR_STS.PEAK.width = 12 := ⟨rfl, rfl, rfl⟩
@[simp] theorem PAIR_MIR_STS.LAT_US_id : PAIR_MIR_STS.LAT_US.id = 1580 ∧ PAIR_MIR_STS.LAT_US.ix = 0 ∧ PAIR_MIR_STS.LAT_US.width = 8 := ⟨rfl, rfl, rfl⟩
@[simp] theorem PAIR_BULK_STS.CURSOR_id : PAIR_BULK_STS.CURSOR.id = 1581 ∧ PAIR_BULK_STS.CURSOR.ix = 0 ∧ PAIR_BULK_STS.CURSOR.width = 18 := ⟨rfl, rfl, rfl⟩
@[simp] theorem PAIR_BULK_STS.RUN_id : PAIR_BULK_STS.RUN.id = 1582 ∧ PAIR_BULK_STS.RUN.ix = 0 ∧ PAIR_BULK_STS.RUN.width = 1 := ⟨rfl, rfl, rfl⟩
@[simp] theorem PAIR_LANE_STS.UP_id (i : Nat) : (PAIR_LANE_STS.UP i).id = 1583 ∧ (PAIR_LANE_STS.UP i).ix = i ∧ (PAIR_LANE_STS.UP i).width = 1 := ⟨rfl, rfl, rfl⟩
@[simp] theorem PAIR_LANE_STS.ERR_id (i : Nat) : (PAIR_LANE_STS.ERR i).id = 1584 ∧ (PAIR_LANE_STS.ERR i).ix = i ∧ (PAIR_LANE_STS.ERR i).width = 16 := ⟨rfl, rfl, rfl⟩
@[simp] theorem PAIR_TRACE.W_id (i : Nat) : (PAIR_TRACE.W i).id = 1585 ∧ (PAIR_TRACE.W i).ix = i ∧ (PAIR_TRACE.W i).width = 32 := ⟨rfl, rfl, rfl⟩
@[simp] theorem ETH_P_CFG.EN_id (n : Nat) : (ETH_P_CFG.EN n).id = 1586 ∧ (ETH_P_CFG.EN n).ix = n ∧ (ETH_P_CFG.EN n).width = 1 := ⟨rfl, rfl, rfl⟩
@[simp] theorem ETH_P_CFG.MODE_id (n : Nat) : (ETH_P_CFG.MODE n).id = 1587 ∧ (ETH_P_CFG.MODE n).ix = n ∧ (ETH_P_CFG.MODE n).width = 2 := ⟨rfl, rfl, rfl⟩
@[simp] theorem ETH_P_CFG.AN_EN_id (n : Nat) : (ETH_P_CFG.AN_EN n).id = 1588 ∧ (ETH_P_CFG.AN_EN n).ix = n ∧ (ETH_P_CFG.AN_EN n).width = 1 := ⟨rfl, rfl, rfl⟩
@[simp] theorem ETH_P_CFG.PAUSE_RX_id (n : Nat) : (ETH_P_CFG.PAUSE_RX n).id = 1589 ∧ (ETH_P_CFG.PAUSE_RX n).ix = n ∧ (ETH_P_CFG.PAUSE_RX n).width = 1 := ⟨rfl, rfl, rfl⟩
@[simp] theorem ETH_P_CFG.PROMISC_id (n : Nat) : (ETH_P_CFG.PROMISC n).id = 1590 ∧ (ETH_P_CFG.PROMISC n).ix = n ∧ (ETH_P_CFG.PROMISC n).width = 1 := ⟨rfl, rfl, rfl⟩
@[simp] theorem ETH_P_STS.LINK_id (n : Nat) : (ETH_P_STS.LINK n).id = 1591 ∧ (ETH_P_STS.LINK n).ix = n ∧ (ETH_P_STS.LINK n).width = 1 := ⟨rfl, rfl, rfl⟩
@[simp] theorem ETH_P_STS.SPEED_id (n : Nat) : (ETH_P_STS.SPEED n).id = 1592 ∧ (ETH_P_STS.SPEED n).ix = n ∧ (ETH_P_STS.SPEED n).width = 2 := ⟨rfl, rfl, rfl⟩
@[simp] theorem ETH_P_STS.AN_DONE_id (n : Nat) : (ETH_P_STS.AN_DONE n).id = 1593 ∧ (ETH_P_STS.AN_DONE n).ix = n ∧ (ETH_P_STS.AN_DONE n).width = 1 := ⟨rfl, rfl, rfl⟩
@[simp] theorem ETH_P_STS.FAULT_id (n : Nat) : (ETH_P_STS.FAULT n).id = 1594 ∧ (ETH_P_STS.FAULT n).ix = n ∧ (ETH_P_STS.FAULT n).width = 1 := ⟨rfl, rfl, rfl⟩
@[simp] theorem ETH_P_MAC_LO.MAC_id (n : Nat) : (ETH_P_MAC_LO.MAC n).id = 1595 ∧ (ETH_P_MAC_LO.MAC n).ix = n ∧ (ETH_P_MAC_LO.MAC n).width = 32 := ⟨rfl, rfl, rfl⟩
@[simp] theorem ETH_P_MAC_HI.MAC_id (n : Nat) : (ETH_P_MAC_HI.MAC n).id = 1596 ∧ (ETH_P_MAC_HI.MAC n).ix = n ∧ (ETH_P_MAC_HI.MAC n).width = 16 := ⟨rfl, rfl, rfl⟩
@[simp] theorem ETH_P_MAXLEN.LEN_id (n : Nat) : (ETH_P_MAXLEN.LEN n).id = 1597 ∧ (ETH_P_MAXLEN.LEN n).ix = n ∧ (ETH_P_MAXLEN.LEN n).width = 14 := ⟨rfl, rfl, rfl⟩
@[simp] theorem ETH_P_RX_FRAMES_id (n : Nat) : (ETH_P_RX_FRAMES n).id = 1598 ∧ (ETH_P_RX_FRAMES n).ix = n ∧ (ETH_P_RX_FRAMES n).width = 32 := ⟨rfl, rfl, rfl⟩
@[simp] theorem ETH_P_RX_OCTETS_K_id (n : Nat) : (ETH_P_RX_OCTETS_K n).id = 1599 ∧ (ETH_P_RX_OCTETS_K n).ix = n ∧ (ETH_P_RX_OCTETS_K n).width = 32 := ⟨rfl, rfl, rfl⟩
@[simp] theorem ETH_P_RX_UCAST_id (n : Nat) : (ETH_P_RX_UCAST n).id = 1600 ∧ (ETH_P_RX_UCAST n).ix = n ∧ (ETH_P_RX_UCAST n).width = 32 := ⟨rfl, rfl, rfl⟩
@[simp] theorem ETH_P_RX_MCAST_id (n : Nat) : (ETH_P_RX_MCAST n).id = 1601 ∧ (ETH_P_RX_MCAST n).ix = n ∧ (ETH_P_RX_MCAST n).width = 32 := ⟨rfl, rfl, rfl⟩
@[simp] theorem ETH_P_RX_BCAST_id (n : Nat) : (ETH_P_RX_BCAST n).id = 1602 ∧ (ETH_P_RX_BCAST n).ix = n ∧ (ETH_P_RX_BCAST n).width = 32 := ⟨rfl, rfl, rfl⟩
@[simp] theorem ETH_P_RX_VLAN_id (n : Nat) : (ETH_P_RX_VLAN n).id = 1603 ∧ (ETH_P_RX_VLAN n).ix = n ∧ (ETH_P_RX_VLAN n).width = 32 := ⟨rfl, rfl, rfl⟩
@[simp] theorem ETH_P_RX_PTP_id (n : Nat) : (ETH_P_RX_PTP n).id = 1604 ∧ (ETH_P_RX_PTP n).ix = n ∧ (ETH_P_RX_PTP n).width = 32 := ⟨rfl, rfl, rfl⟩
@[simp] theorem ETH_P_RX_PAUSE_id (n : Nat) : (ETH_P_RX_PAUSE n).id = 1605 ∧ (ETH_P_RX_PAUSE n).ix = n ∧ (ETH_P_RX_PAUSE n).width = 32 := ⟨rfl, rfl, rfl⟩
@[simp] theorem ETH_P_RX_FCS_ERR_id (n : Nat) : (ETH_P_RX_FCS_ERR n).id = 1606 ∧ (ETH_P_RX_FCS_ERR n).ix = n ∧ (ETH_P_RX_FCS_ERR n).width = 32 := ⟨rfl, rfl, rfl⟩
@[simp] theorem ETH_P_RX_RUNT_id (n : Nat) : (ETH_P_RX_RUNT n).id = 1607 ∧ (ETH_P_RX_RUNT n).ix = n ∧ (ETH_P_RX_RUNT n).width = 32 := ⟨rfl, rfl, rfl⟩
@[simp] theorem ETH_P_RX_LONG_id (n : Nat) : (ETH_P_RX_LONG n).id = 1608 ∧ (ETH_P_RX_LONG n).ix = n ∧ (ETH_P_RX_LONG n).width = 32 := ⟨rfl, rfl, rfl⟩
@[simp] theorem ETH_P_RX_PCS_ERR_id (n : Nat) : (ETH_P_RX_PCS_ERR n).id = 1609 ∧ (ETH_P_RX_PCS_ERR n).ix = n ∧ (ETH_P_RX_PCS_ERR n).width = 32 := ⟨rfl, rfl, rfl⟩
@[simp] theorem ETH_P_RX_CODE_ERR_id (n : Nat) : (ETH_P_RX_CODE_ERR n).id = 1610 ∧ (ETH_P_RX_CODE_ERR n).ix = n ∧ (ETH_P_RX_CODE_ERR n).width = 32 := ⟨rfl, rfl, rfl⟩
@[simp] theorem ETH_P_RX_LINK_DOWN_id (n : Nat) : (ETH_P_RX_LINK_DOWN n).id = 1611 ∧ (ETH_P_RX_LINK_DOWN n).ix = n ∧ (ETH_P_RX_LINK_DOWN n).width = 32 := ⟨rfl, rfl, rfl⟩
@[simp] theorem ETH_P_RX_OVF_id (n : Nat) : (ETH_P_RX_OVF n).id = 1612 ∧ (ETH_P_RX_OVF n).ix = n ∧ (ETH_P_RX_OVF n).width = 32 := ⟨rfl, rfl, rfl⟩
@[simp] theorem ETH_P_RX_FILTERED_id (n : Nat) : (ETH_P_RX_FILTERED n).id = 1613 ∧ (ETH_P_RX_FILTERED n).ix = n ∧ (ETH_P_RX_FILTERED n).width = 32 := ⟨rfl, rfl, rfl⟩
@[simp] theorem ETH_P_TX_FRAMES_id (n : Nat) : (ETH_P_TX_FRAMES n).id = 1614 ∧ (ETH_P_TX_FRAMES n).ix = n ∧ (ETH_P_TX_FRAMES n).width = 32 := ⟨rfl, rfl, rfl⟩
@[simp] theorem ETH_P_TX_OCTETS_K_id (n : Nat) : (ETH_P_TX_OCTETS_K n).id = 1615 ∧ (ETH_P_TX_OCTETS_K n).ix = n ∧ (ETH_P_TX_OCTETS_K n).width = 32 := ⟨rfl, rfl, rfl⟩
@[simp] theorem ETH_P_TX_UCAST_id (n : Nat) : (ETH_P_TX_UCAST n).id = 1616 ∧ (ETH_P_TX_UCAST n).ix = n ∧ (ETH_P_TX_UCAST n).width = 32 := ⟨rfl, rfl, rfl⟩
@[simp] theorem ETH_P_TX_MCAST_id (n : Nat) : (ETH_P_TX_MCAST n).id = 1617 ∧ (ETH_P_TX_MCAST n).ix = n ∧ (ETH_P_TX_MCAST n).width = 32 := ⟨rfl, rfl, rfl⟩
@[simp] theorem ETH_P_TX_BCAST_id (n : Nat) : (ETH_P_TX_BCAST n).id = 1618 ∧ (ETH_P_TX_BCAST n).ix = n ∧ (ETH_P_TX_BCAST n).width = 32 := ⟨rfl, rfl, rfl⟩
@[simp] theorem ETH_P_TX_VLAN_id (n : Nat) : (ETH_P_TX_VLAN n).id = 1619 ∧ (ETH_P_TX_VLAN n).ix = n ∧ (ETH_P_TX_VLAN n).width = 32 := ⟨rfl, rfl, rfl⟩
@[simp] theorem ETH_P_TX_PTP_id (n : Nat) : (ETH_P_TX_PTP n).id = 1620 ∧ (ETH_P_TX_PTP n).ix = n ∧ (ETH_P_TX_PTP n).width = 32 := ⟨rfl, rfl, rfl⟩
@[simp] theorem ETH_P_TX_PAUSE_id (n : Nat) : (ETH_P_TX_PAUSE n).id = 1621 ∧ (ETH_P_TX_PAUSE n).ix = n ∧ (ETH_P_TX_PAUSE n).width = 32 := ⟨rfl, rfl, rfl⟩
@[simp] theorem ETH_P_TX_PAD_id (n : Nat) : (ETH_P_TX_PAD n).id = 1622 ∧ (ETH_P_TX_PAD n).ix = n ∧ (ETH_P_TX_PAD n).width = 32 := ⟨rfl, rfl, rfl⟩
@[simp] theorem ETH_P_TX_ONESTEP_id (n : Nat) : (ETH_P_TX_ONESTEP n).id = 1623 ∧ (ETH_P_TX_ONESTEP n).ix = n ∧ (ETH_P_TX_ONESTEP n).width = 32 := ⟨rfl, rfl, rfl⟩
@[simp] theorem ETH_P_TX_TS_id (n : Nat) : (ETH_P_TX_TS n).id = 1624 ∧ (ETH_P_TX_TS n).ix = n ∧ (ETH_P_TX_TS n).width = 32 := ⟨rfl, rfl, rfl⟩
@[simp] theorem ETH_P_TX_HOST_id (n : Nat) : (ETH_P_TX_HOST n).id = 1625 ∧ (ETH_P_TX_HOST n).ix = n ∧ (ETH_P_TX_HOST n).width = 32 := ⟨rfl, rfl, rfl⟩
@[simp] theorem ETH_P_TX_UPLINK_id (n : Nat) : (ETH_P_TX_UPLINK n).id = 1626 ∧ (ETH_P_TX_UPLINK n).ix = n ∧ (ETH_P_TX_UPLINK n).width = 32 := ⟨rfl, rfl, rfl⟩
@[simp] theorem ETH_P_TX_RELAY_id (n : Nat) : (ETH_P_TX_RELAY n).id = 1627 ∧ (ETH_P_TX_RELAY n).ix = n ∧ (ETH_P_TX_RELAY n).width = 32 := ⟨rfl, rfl, rfl⟩
@[simp] theorem ETH_P_TX_TC_FWD_id (n : Nat) : (ETH_P_TX_TC_FWD n).id = 1628 ∧ (ETH_P_TX_TC_FWD n).ix = n ∧ (ETH_P_TX_TC_FWD n).width = 32 := ⟨rfl, rfl, rfl⟩
@[simp] theorem ETH_P_TX_LINK_DROP_id (n : Nat) : (ETH_P_TX_LINK_DROP n).id = 1629 ∧ (ETH_P_TX_LINK_DROP n).ix = n ∧ (ETH_P_TX_LINK_DROP n).width = 32 := ⟨rfl, rfl, rfl⟩
@[simp] theorem ETH_P_EQ.FRAMES_id (n : Nat) (i : Nat) : (ETH_P_EQ.FRAMES n i).id = 1630 ∧ (ETH_P_EQ.FRAMES n i).ix = n * 8 + i ∧ (ETH_P_EQ.FRAMES n i).width = 16 := ⟨rfl, rfl, rfl⟩
@[simp] theorem ETH_P_EQ.PEAK_id (n : Nat) (i : Nat) : (ETH_P_EQ.PEAK n i).id = 1631 ∧ (ETH_P_EQ.PEAK n i).ix = n * 8 + i ∧ (ETH_P_EQ.PEAK n i).width = 16 := ⟨rfl, rfl, rfl⟩
@[simp] theorem ETH_P_FILT_LO.MAC_id (n : Nat) (i : Nat) : (ETH_P_FILT_LO.MAC n i).id = 1632 ∧ (ETH_P_FILT_LO.MAC n i).ix = n * 16 + i ∧ (ETH_P_FILT_LO.MAC n i).width = 32 := ⟨rfl, rfl, rfl⟩
@[simp] theorem ETH_P_FILT_HI.MAC_id (n : Nat) (i : Nat) : (ETH_P_FILT_HI.MAC n i).id = 1633 ∧ (ETH_P_FILT_HI.MAC n i).ix = n * 16 + i ∧ (ETH_P_FILT_HI.MAC n i).width = 16 := ⟨rfl, rfl, rfl⟩
@[simp] theorem ETH_P_FILT_HI.EN_id (n : Nat) (i : Nat) : (ETH_P_FILT_HI.EN n i).id = 1634 ∧ (ETH_P_FILT_HI.EN n i).ix = n * 16 + i ∧ (ETH_P_FILT_HI.EN n i).width = 1 := ⟨rfl, rfl, rfl⟩
@[simp] theorem DBG_CFG.TRACE_CORE_id : DBG_CFG.TRACE_CORE.id = 1635 ∧ DBG_CFG.TRACE_CORE.ix = 0 ∧ DBG_CFG.TRACE_CORE.width = 3 := ⟨rfl, rfl, rfl⟩
@[simp] theorem DBG_CFG.TRACE_EN_id : DBG_CFG.TRACE_EN.id = 1636 ∧ DBG_CFG.TRACE_EN.ix = 0 ∧ DBG_CFG.TRACE_EN.width = 1 := ⟨rfl, rfl, rfl⟩
@[simp] theorem DBG_ACCESS.BSCAN_id : DBG_ACCESS.BSCAN.id = 1637 ∧ DBG_ACCESS.BSCAN.ix = 0 ∧ DBG_ACCESS.BSCAN.width = 1 := ⟨rfl, rfl, rfl⟩
@[simp] theorem DBG_ACCESS.PC_DEBUG_id : DBG_ACCESS.PC_DEBUG.id = 1638 ∧ DBG_ACCESS.PC_DEBUG.ix = 0 ∧ DBG_ACCESS.PC_DEBUG.width = 1 := ⟨rfl, rfl, rfl⟩
@[simp] theorem DBG_ACCESS.UC_REGS_id : DBG_ACCESS.UC_REGS.id = 1639 ∧ DBG_ACCESS.UC_REGS.ix = 0 ∧ DBG_ACCESS.UC_REGS.width = 1 := ⟨rfl, rfl, rfl⟩
@[simp] theorem DBG_ACCESS.JTAG_RST_id : DBG_ACCESS.JTAG_RST.id = 1640 ∧ DBG_ACCESS.JTAG_RST.ix = 0 ∧ DBG_ACCESS.JTAG_RST.width = 1 := ⟨rfl, rfl, rfl⟩
@[simp] theorem DBG_TAP_STS.IR_id : DBG_TAP_STS.IR.id = 1641 ∧ DBG_TAP_STS.IR.ix = 0 ∧ DBG_TAP_STS.IR.width = 8 := ⟨rfl, rfl, rfl⟩
@[simp] theorem DBG_TAP_STS.CORE_HELD_id : DBG_TAP_STS.CORE_HELD.id = 1642 ∧ DBG_TAP_STS.CORE_HELD.ix = 0 ∧ DBG_TAP_STS.CORE_HELD.width = 1 := ⟨rfl, rfl, rfl⟩
@[simp] theorem DBG_IDCODE.ID_id : DBG_IDCODE.ID.id = 1643 ∧ DBG_IDCODE.ID.ix = 0 ∧ DBG_IDCODE.ID.width = 32 := ⟨rfl, rfl, rfl⟩
@[simp] theorem DBG_SCAN_LEN.BITS_id : DBG_SCAN_LEN.BITS.id = 1644 ∧ DBG_SCAN_LEN.BITS.ix = 0 ∧ DBG_SCAN_LEN.BITS.width = 11 := ⟨rfl, rfl, rfl⟩
@[simp] theorem DBG_TRACE.TARGET_id (i : Nat) : (DBG_TRACE.TARGET i).id = 1645 ∧ (DBG_TRACE.TARGET i).ix = i ∧ (DBG_TRACE.TARGET i).width = 32 := ⟨rfl, rfl, rfl⟩
@[simp] theorem DBG_BSR.BITS_id (i : Nat) : (DBG_BSR.BITS i).id = 1646 ∧ (DBG_BSR.BITS i).ix = i ∧ (DBG_BSR.BITS i).width = 32 := ⟨rfl, rfl, rfl⟩
@[simp] theorem DBG_C_DATA.W_id (n : Nat) (i : Nat) : (DBG_C_DATA.W n i).id = 1647 ∧ (DBG_C_DATA.W n i).ix = n * 4 + i ∧ (DBG_C_DATA.W n i).width = 32 := ⟨rfl, rfl, rfl⟩
@[simp] theorem DBG_C_PROGBUF.W_id (n : Nat) (i : Nat) : (DBG_C_PROGBUF.W n i).id = 1648 ∧ (DBG_C_PROGBUF.W n i).ix = n * 16 + i ∧ (DBG_C_PROGBUF.W n i).width = 32 := ⟨rfl, rfl, rfl⟩

end Sys2Proof.Machine
end

