-- ==== Sys2Proof/Laws/Store.lean ====
section
/-!
SUPPORT. Laws of the sparse stores: a read after a write, and that every operation keeps the canonical form.
-/

namespace Sys2Proof.Machine

variable {α : Type}

/-! Reading after writing -/

theorem Store.find_insert_same (d : α) (l : Store α) (k : Nat) (v : α) : Store.find d (Store.insert l k v) k = v := by
  induction l with
  | nil => simp [Store.insert, Store.find]
  | cons p l ih =>
    obtain ⟨j, w⟩ := p
    by_cases h : k < j
    · simp [Store.insert, Store.find, h]
    · by_cases e : k = j
      · simp [Store.insert, Store.find, e]
      · simp [Store.insert, Store.find, h, e, ih]

theorem Store.find_insert_ne (d : α) (l : Store α) {k i : Nat} (v : α) (h : i ≠ k) :
    Store.find d (Store.insert l k v) i = Store.find d l i := by
  induction l with
  | nil => simp [Store.insert, Store.find, h]
  | cons p l ih =>
    obtain ⟨j, w⟩ := p
    by_cases c : k < j
    · simp [Store.insert, Store.find, c, h]
    · by_cases e : k = j
      · subst e; simp [Store.insert, Store.find, h]
      · simp [Store.insert, Store.find, c, e, ih]

theorem Store.find_filter_same (d : α) (l : Store α) (k : Nat) : Store.find d (l.filter (fun p => p.1 != k)) k = d := by
  induction l with
  | nil => rfl
  | cons p l ih =>
    obtain ⟨j, w⟩ := p
    by_cases e : j = k
    · simpa [List.filter, e] using ih
    · have : ¬ k = j := fun h => e h.symm
      simpa [List.filter_cons, e, Store.find, this] using ih

theorem Store.find_filter_ne (d : α) (l : Store α) {k i : Nat} (h : i ≠ k) :
    Store.find d (l.filter (fun p => p.1 != k)) i = Store.find d l i := by
  induction l with
  | nil => rfl
  | cons p l ih =>
    obtain ⟨j, w⟩ := p
    by_cases e : j = k
    · subst e; simpa [List.filter, Store.find, h] using ih
    · by_cases g : i = j
      · simp [e, Store.find, g]
      · simpa [List.filter_cons, e, Store.find, g] using ih

variable [DecidableEq α]

/-- A read after a write to the same key gives what was written. -/
@[simp] theorem Store.find_put_same (d : α) (l : Store α) (k : Nat) (v : α) : Store.find d (Store.put d l k v) k = v := by
  unfold Store.put
  split
  · rename_i h; rw [h]; exact Store.find_filter_same d l k
  · exact Store.find_insert_same d l k v

/-- A write leaves every other key alone. -/
theorem Store.find_put_ne (d e : α) (l : Store α) {k i : Nat} (v : α) (h : i ≠ k) : Store.find d (Store.put e l k v) i = Store.find d l i := by
  unfold Store.put
  split
  · exact Store.find_filter_ne d l h
  · exact Store.find_insert_ne d l v h

theorem Store.find_put (d : α) (l : Store α) (k i : Nat) (v : α) :
    Store.find d (Store.put d l k v) i = if i = k then v else Store.find d l i := by
  split
  · rename_i h; subst h; simp
  · rename_i h; exact Store.find_put_ne d d l v h

omit [DecidableEq α] in
@[simp] theorem Store.find_nil (d : α) (k : Nat) : Store.find d ([] : Store α) k = d := rfl

/-! The canonical form -/

omit [DecidableEq α] in
theorem Store.sorted_cons (j : Nat) (w : α) (l : Store α) : Store.sorted ((j, w) :: l) = true ↔ (∀ p ∈ l, j < p.1) ∧ Store.sorted l = true := by
  induction l generalizing j w with
  | nil => simp [Store.sorted]
  | cons p l ih =>
    obtain ⟨k, v⟩ := p
    simp only [Store.sorted, Bool.and_eq_true, decide_eq_true_eq, List.mem_cons, forall_eq_or_imp, ih k v]
    constructor
    · rintro ⟨h, g, r⟩; exact ⟨⟨h, fun p m => Nat.lt_trans h (g p m)⟩, g, r⟩
    · rintro ⟨⟨h, _⟩, g, r⟩; exact ⟨h, g, r⟩

omit [DecidableEq α] in
theorem Store.mem_insert {l : Store α} {k : Nat} {v : α} {p : Nat × α} (h : p ∈ Store.insert l k v) : p = (k, v) ∨ p ∈ l := by
  induction l with
  | nil => simpa [Store.insert] using h
  | cons q l ih =>
    obtain ⟨j, w⟩ := q
    by_cases c : k < j
    · simpa [Store.insert, c] using h
    · by_cases e : k = j
      · simp only [Store.insert, e, if_true, if_false, List.mem_cons, Nat.lt_irrefl] at h
        rcases h with h | h
        · subst e; exact .inl h
        · exact .inr (List.mem_cons_of_mem _ h)
      · simp only [Store.insert, c, e, if_false, List.mem_cons] at h
        rcases h with h | h
        · exact .inr (by simp [h])
        · rcases ih h with g | g
          · exact .inl g
          · exact .inr (List.mem_cons_of_mem _ g)

omit [DecidableEq α] in
theorem Store.insert_sorted {l : Store α} (k : Nat) (v : α) (h : Store.sorted l = true) : Store.sorted (Store.insert l k v) = true := by
  induction l with
  | nil => rfl
  | cons q l ih =>
    obtain ⟨j, w⟩ := q
    have hs := (Store.sorted_cons j w l).1 h
    by_cases c : k < j
    · simp only [Store.insert, c, if_true]
      refine (Store.sorted_cons k v _).2 ⟨?_, h⟩
      intro p m
      rcases List.mem_cons.1 m with e | m
      · rw [e]; exact c
      · exact Nat.lt_trans c (hs.1 p m)
    · by_cases e : k = j
      · simp only [Store.insert, e, if_true, if_false, Nat.lt_irrefl]
        exact (Store.sorted_cons j v l).2 hs
      · simp only [Store.insert, c, e, if_false]
        refine (Store.sorted_cons j w _).2 ⟨?_, ih hs.2⟩
        intro p m
        rcases Store.mem_insert m with g | g
        · rw [g]; exact Nat.lt_of_le_of_ne (Nat.le_of_not_lt c) (fun x => e x.symm)
        · exact hs.1 p g

omit [DecidableEq α] in
theorem Store.filter_sorted {l : Store α} (f : Nat × α → Bool) (h : Store.sorted l = true) : Store.sorted (l.filter f) = true := by
  induction l with
  | nil => rfl
  | cons q l ih =>
    obtain ⟨j, w⟩ := q
    have hs := (Store.sorted_cons j w l).1 h
    by_cases c : f (j, w)
    · simp only [List.filter, c]
      exact (Store.sorted_cons j w _).2 ⟨fun p m => hs.1 p (List.mem_filter.1 m).1, ih hs.2⟩
    · simp only [List.filter, c]; exact ih hs.2

/-- A write keeps the canonical form. -/
theorem Store.put_wf (d : α) {l : Store α} (k : Nat) (v : α) (h : Store.wf d l = true) : Store.wf d (Store.put d l k v) = true := by
  simp only [Store.wf, Bool.and_eq_true, Store.lean, List.all_eq_true, decide_eq_true_eq] at h ⊢
  unfold Store.put
  split
  · exact ⟨Store.filter_sorted _ h.1, fun p m => h.2 p (List.mem_filter.1 m).1⟩
  · rename_i ne
    refine ⟨Store.insert_sorted k v h.1, fun p m => ?_⟩
    rcases Store.mem_insert m with g | g
    · rw [g]; exact ne
    · exact h.2 p g

theorem Store.put_sorted (d : α) {l : Store α} (k : Nat) (v : α) (h : Store.sorted l = true) : Store.sorted (Store.put d l k v) = true := by
  unfold Store.put
  split
  · exact Store.filter_sorted _ h
  · exact Store.insert_sorted k v h

/-! Memory -/

@[simp] theorem Memory.read_write_same (m : Memory) (a : Nat) (v : BitVec 8) : Memory.read (Memory.write m a v) a = v :=
  Store.find_put_same 0 m a v

theorem Memory.read_write_ne (m : Memory) {a b : Nat} (v : BitVec 8) (h : b ≠ a) : Memory.read (Memory.write m a v) b = Memory.read m b :=
  Store.find_put_ne 0 0 m v h

/-- A write keeps the canonical form of a memory. -/
theorem Memory.write_wf {m : Memory} (a : Nat) (v : BitVec 8) (h : m.wf = true) : (Memory.write m a v).wf = true := Store.put_wf 0 a v h

theorem Memory.writes_wf {m : Memory} (l : List (Nat × BitVec 8)) (h : m.wf = true) : (Memory.writes m l).wf = true := by
  induction l generalizing m with
  | nil => exact h
  | cons c l ih => exact ih (Memory.write_wf c.1 c.2 h)

theorem putWords_wf {m : Memory} (base : Nat) (l : List Nat) (h : m.wf = true) : Memory.wf (putWords base l m) = true := by
  induction l generalizing m base with
  | nil => exact h
  | cons w l ih => exact ih (base + 4) (Memory.writes_wf _ h)

/-- Octets outside the offsets written stay. -/
theorem Memory.read_writes_ne (m : Memory) (l : List (Nat × BitVec 8)) {b : Nat} (h : ∀ c ∈ l, b ≠ c.1) :
    Memory.read (Memory.writes m l) b = Memory.read m b := by
  induction l generalizing m with
  | nil => rfl
  | cons c l ih =>
    have e : Memory.read (Memory.write m c.1 c.2) b = Memory.read m b := Memory.read_write_ne m c.2 (h c (by simp))
    exact (ih (Memory.write m c.1 c.2) (fun d m => h d (List.mem_cons_of_mem _ m))).trans e

end Sys2Proof.Machine
end

