-- ==== Sys2Proof/Laws/State.lean ====
section
/-!
SUPPORT. Laws of the state's operations: what a register write, the passing of time, an answer on the bus and the other updates change, one
lemma per field and update, and nothing else.
-/

namespace Sys2Proof.Machine

/-! Register fields -/

theorem Fld.key_ne {f g : Fld} (h : (g.id == f.id) = false) : g.key ≠ f.key := by
  have h : g.id ≠ f.id := by simpa using h
  unfold Fld.key
  have := Nat.mod_lt g.ix (show 0 < 0x100000 by decide)
  have := Nat.mod_lt f.ix (show 0 < 0x100000 by decide)
  omega

theorem Fld.key_ne_ix {f g : Fld} (h : g.id = f.id) (i : g.ix % 0x100000 ≠ f.ix % 0x100000) : g.key ≠ f.key := by
  unfold Fld.key
  omega

/-- What the three banks hold decides every field. -/
theorem State.rd_congr {s u : State} (c : u.core = s.core) (k : u.kept = s.kept) (l : u.cellar = s.cellar) (f : Fld) : u.rd f = s.rd f := by
  unfold State.rd State.bank
  rw [c, k, l]

/-- A field reads as written, in its width. -/
@[simp] theorem State.rd_wr_same (s : State) (f : Fld) (v : Nat) : (s.wr f v).rd f = v % 2 ^ f.width := by
  unfold State.rd State.wr State.bank
  cases h : f.home <;> simp

theorem State.rd_wr_key (s : State) {f g : Fld} (v : Nat) (h : g.key ≠ f.key) : (s.wr f v).rd g = s.rd g := by
  unfold State.rd State.wr State.bank
  cases f.home <;> cases g.home <;> simp [Store.find_put_ne, h]

/-- A write leaves every other field alone. -/
theorem State.rd_wr_ne (s : State) {f g : Fld} (v : Nat) (h : (g.id == f.id) = false) : (s.wr f v).rd g = s.rd g :=
  s.rd_wr_key v (Fld.key_ne h)

/-- A write leaves every other element of its array alone. -/
theorem State.rd_wr_ix (s : State) {f g : Fld} (v : Nat) (h : g.id = f.id) (i : g.ix % 0x100000 ≠ f.ix % 0x100000) :
    (s.wr f v).rd g = s.rd g :=
  s.rd_wr_key v (Fld.key_ne_ix h i)

theorem State.rd_lt (s : State) (f : Fld) : s.rd f < 2 ^ f.width := Nat.mod_lt _ (Nat.two_pow_pos _)

theorem ofBool_lt (b : Bool) : ofBool b < 2 := by cases b <;> decide

/-! Every write of a field is a `wr` -/

@[simp] theorem State.put_eq (s : State) (f : Fld) (b : Bool) : s.put f b = s.wr f (ofBool b) := rfl
@[simp] theorem State.inc_eq (s : State) (f : Fld) : s.inc f = s.wr f (s.rd f + 1) := rfl
@[simp] theorem State.add_eq (s : State) (f : Fld) (n : Nat) : s.add f n = s.wr f (s.rd f + n) := rfl
@[simp] theorem State.addSat_eq (s : State) (f : Fld) (n : Nat) : s.addSat f n = s.wr f (min (s.rd f + n) (2 ^ f.width - 1)) := rfl
@[simp] theorem State.sub_eq (s : State) (f : Fld) (n : Nat) : s.sub f n = s.wr f (s.rd f - n) := rfl
@[simp] theorem State.peak_eq (s : State) (f : Fld) (v : Nat) : s.peak f v = s.wr f (max (s.rd f) v) := rfl
@[simp] theorem State.wrS_eq (s : State) (f : Fld) (v : Int) : s.wrS f v = s.wr f (unsg f.width v) := rfl
@[simp] theorem State.flag_eq (s : State) (f : Fld) : s.flag f = (s.rd f != 0) := rfl
@[simp] theorem State.when_true (s : State) (f : State → State) : s.when true f = f s := rfl
@[simp] theorem State.when_false (s : State) (f : State → State) : s.when false f = s := rfl
@[simp] theorem State.each_nil {α : Type} (s : State) (f : α → State → State) : s.each [] f = s := rfl
@[simp] theorem State.each_cons {α : Type} (s : State) (a : α) (l : List α) (f : α → State → State) : s.each (a :: l) f = (f a s).each l f := rfl

/-! A register write changes nothing beside its bank -/

@[simp] theorem State.wr_pending (s : State) (f : Fld) (v : Nat) : (s.wr f v).pending = s.pending := by unfold State.wr; cases f.home <;> rfl
@[simp] theorem State.wr_rc (s : State) (f : Fld) (v : Nat) : (s.wr f v).rc = s.rc := by unfold State.wr; cases f.home <;> rfl
@[simp] theorem State.wr_tsuOfs (s : State) (f : Fld) (v : Nat) : (s.wr f v).tsuOfs = s.tsuOfs := by unfold State.wr; cases f.home <;> rfl
@[simp] theorem State.wr_frac (s : State) (f : Fld) (v : Nat) : (s.wr f v).frac = s.frac := by unfold State.wr; cases f.home <;> rfl
@[simp] theorem State.wr_freeCtr (s : State) (f : Fld) (v : Nat) : (s.wr f v).freeCtr = s.freeCtr := by unfold State.wr; cases f.home <;> rfl
@[simp] theorem State.wr_bus (s : State) (f : Fld) (v : Nat) : (s.wr f v).bus = s.bus := by unfold State.wr; cases f.home <;> rfl
@[simp] theorem State.wr_latch (s : State) (f : Fld) (v : Nat) : (s.wr f v).latch = s.latch := by unfold State.wr; cases f.home <;> rfl
@[simp] theorem State.wr_nodes (s : State) (f : Fld) (v : Nat) : (s.wr f v).nodes = s.nodes := by unfold State.wr; cases f.home <;> rfl
@[simp] theorem State.wr_hoar (s : State) (f : Fld) (v : Nat) : (s.wr f v).hoar = s.hoar := by unfold State.wr; cases f.home <;> rfl
@[simp] theorem State.wr_fe (s : State) (f : Fld) (v : Nat) : (s.wr f v).fe = s.fe := by unfold State.wr; cases f.home <;> rfl
@[simp] theorem State.wr_dc (s : State) (f : Fld) (v : Nat) : (s.wr f v).dc = s.dc := by unfold State.wr; cases f.home <;> rfl
@[simp] theorem State.wr_slices (s : State) (f : Fld) (v : Nat) : (s.wr f v).slices = s.slices := by unfold State.wr; cases f.home <;> rfl
@[simp] theorem State.wr_sniffers (s : State) (f : Fld) (v : Nat) : (s.wr f v).sniffers = s.sniffers := by unfold State.wr; cases f.home <;> rfl
@[simp] theorem State.wr_plans (s : State) (f : Fld) (v : Nat) : (s.wr f v).plans = s.plans := by unfold State.wr; cases f.home <;> rfl
@[simp] theorem State.wr_specAt (s : State) (f : Fld) (v : Nat) : (s.wr f v).specAt = s.specAt := by unfold State.wr; cases f.home <;> rfl
@[simp] theorem State.wr_mac (s : State) (f : Fld) (v : Nat) : (s.wr f v).mac = s.mac := by unfold State.wr; cases f.home <;> rfl
@[simp] theorem State.wr_lanes (s : State) (f : Fld) (v : Nat) : (s.wr f v).lanes = s.lanes := by unfold State.wr; cases f.home <;> rfl
@[simp] theorem State.wr_src (s : State) (f : Fld) (v : Nat) : (s.wr f v).src = s.src := by unfold State.wr; cases f.home <;> rfl
@[simp] theorem State.wr_qms (s : State) (f : Fld) (v : Nat) : (s.wr f v).qms = s.qms := by unfold State.wr; cases f.home <;> rfl
@[simp] theorem State.wr_sec (s : State) (f : Fld) (v : Nat) : (s.wr f v).sec = s.sec := by unfold State.wr; cases f.home <;> rfl
@[simp] theorem State.wr_jdev (s : State) (f : Fld) (v : Nat) : (s.wr f v).jdev = s.jdev := by unfold State.wr; cases f.home <;> rfl
@[simp] theorem State.wr_fwd (s : State) (f : Fld) (v : Nat) : (s.wr f v).fwd = s.fwd := by unfold State.wr; cases f.home <;> rfl
@[simp] theorem State.wr_camps (s : State) (f : Fld) (v : Nat) : (s.wr f v).camps = s.camps := by unfold State.wr; cases f.home <;> rfl
@[simp] theorem State.wr_pressOctets (s : State) (f : Fld) (v : Nat) : (s.wr f v).pressOctets = s.pressOctets := by unfold State.wr; cases f.home <;> rfl
@[simp] theorem State.wr_pressAt (s : State) (f : Fld) (v : Nat) : (s.wr f v).pressAt = s.pressAt := by unfold State.wr; cases f.home <;> rfl
@[simp] theorem State.wr_hif (s : State) (f : Fld) (v : Nat) : (s.wr f v).hif = s.hif := by unfold State.wr; cases f.home <;> rfl
@[simp] theorem State.wr_flt (s : State) (f : Fld) (v : Nat) : (s.wr f v).flt = s.flt := by unfold State.wr; cases f.home <;> rfl
@[simp] theorem State.wr_pair (s : State) (f : Fld) (v : Nat) : (s.wr f v).pair = s.pair := by unfold State.wr; cases f.home <;> rfl
@[simp] theorem State.wr_tsu (s : State) (f : Fld) (v : Nat) : (s.wr f v).tsu = s.tsu := by unfold State.wr; cases f.home <;> rfl
@[simp] theorem State.wr_anchor (s : State) (f : Fld) (v : Nat) : (s.wr f v).anchor = s.anchor := by unfold State.wr; cases f.home <;> rfl
@[simp] theorem State.wr_fuse (s : State) (f : Fld) (v : Nat) : (s.wr f v).fuse = s.fuse := by unfold State.wr; cases f.home <;> rfl
@[simp] theorem State.wr_cave (s : State) (f : Fld) (v : Nat) : (s.wr f v).cave = s.cave := by unfold State.wr; cases f.home <;> rfl
@[simp] theorem State.wr_boot (s : State) (f : Fld) (v : Nat) : (s.wr f v).boot = s.boot := by unfold State.wr; cases f.home <;> rfl
@[simp] theorem State.wr_pcr (s : State) (f : Fld) (v : Nat) : (s.wr f v).pcr = s.pcr := by unfold State.wr; cases f.home <;> rfl
@[simp] theorem State.wr_cel (s : State) (f : Fld) (v : Nat) : (s.wr f v).cel = s.cel := by unfold State.wr; cases f.home <;> rfl

/-! The passing of time changes RC and its fraction alone -/

@[simp] theorem State.rd_at (s : State) (t : Nat) (f : Fld) : (s.at t).rd f = s.rd f := State.rd_congr (by unfold State.at; split <;> rfl) (by unfold State.at; split <;> rfl) (by unfold State.at; split <;> rfl) f
@[simp] theorem State.at_pending (s : State) (t : Nat) : (s.at t).pending = s.pending := by unfold State.at; split <;> rfl
@[simp] theorem State.at_tsuOfs (s : State) (t : Nat) : (s.at t).tsuOfs = s.tsuOfs := by unfold State.at; split <;> rfl
@[simp] theorem State.at_freeCtr (s : State) (t : Nat) : (s.at t).freeCtr = s.freeCtr := by unfold State.at; split <;> rfl
@[simp] theorem State.at_bus (s : State) (t : Nat) : (s.at t).bus = s.bus := by unfold State.at; split <;> rfl
@[simp] theorem State.at_latch (s : State) (t : Nat) : (s.at t).latch = s.latch := by unfold State.at; split <;> rfl
@[simp] theorem State.at_nodes (s : State) (t : Nat) : (s.at t).nodes = s.nodes := by unfold State.at; split <;> rfl
@[simp] theorem State.at_hoar (s : State) (t : Nat) : (s.at t).hoar = s.hoar := by unfold State.at; split <;> rfl
@[simp] theorem State.at_fe (s : State) (t : Nat) : (s.at t).fe = s.fe := by unfold State.at; split <;> rfl
@[simp] theorem State.at_dc (s : State) (t : Nat) : (s.at t).dc = s.dc := by unfold State.at; split <;> rfl
@[simp] theorem State.at_slices (s : State) (t : Nat) : (s.at t).slices = s.slices := by unfold State.at; split <;> rfl
@[simp] theorem State.at_sniffers (s : State) (t : Nat) : (s.at t).sniffers = s.sniffers := by unfold State.at; split <;> rfl
@[simp] theorem State.at_plans (s : State) (t : Nat) : (s.at t).plans = s.plans := by unfold State.at; split <;> rfl
@[simp] theorem State.at_specAt (s : State) (t : Nat) : (s.at t).specAt = s.specAt := by unfold State.at; split <;> rfl
@[simp] theorem State.at_mac (s : State) (t : Nat) : (s.at t).mac = s.mac := by unfold State.at; split <;> rfl
@[simp] theorem State.at_lanes (s : State) (t : Nat) : (s.at t).lanes = s.lanes := by unfold State.at; split <;> rfl
@[simp] theorem State.at_src (s : State) (t : Nat) : (s.at t).src = s.src := by unfold State.at; split <;> rfl
@[simp] theorem State.at_qms (s : State) (t : Nat) : (s.at t).qms = s.qms := by unfold State.at; split <;> rfl
@[simp] theorem State.at_sec (s : State) (t : Nat) : (s.at t).sec = s.sec := by unfold State.at; split <;> rfl
@[simp] theorem State.at_jdev (s : State) (t : Nat) : (s.at t).jdev = s.jdev := by unfold State.at; split <;> rfl
@[simp] theorem State.at_fwd (s : State) (t : Nat) : (s.at t).fwd = s.fwd := by unfold State.at; split <;> rfl
@[simp] theorem State.at_camps (s : State) (t : Nat) : (s.at t).camps = s.camps := by unfold State.at; split <;> rfl
@[simp] theorem State.at_pressOctets (s : State) (t : Nat) : (s.at t).pressOctets = s.pressOctets := by unfold State.at; split <;> rfl
@[simp] theorem State.at_pressAt (s : State) (t : Nat) : (s.at t).pressAt = s.pressAt := by unfold State.at; split <;> rfl
@[simp] theorem State.at_hif (s : State) (t : Nat) : (s.at t).hif = s.hif := by unfold State.at; split <;> rfl
@[simp] theorem State.at_flt (s : State) (t : Nat) : (s.at t).flt = s.flt := by unfold State.at; split <;> rfl
@[simp] theorem State.at_pair (s : State) (t : Nat) : (s.at t).pair = s.pair := by unfold State.at; split <;> rfl
@[simp] theorem State.at_tsu (s : State) (t : Nat) : (s.at t).tsu = s.tsu := by unfold State.at; split <;> rfl
@[simp] theorem State.at_anchor (s : State) (t : Nat) : (s.at t).anchor = s.anchor := by unfold State.at; split <;> rfl
@[simp] theorem State.at_fuse (s : State) (t : Nat) : (s.at t).fuse = s.fuse := by unfold State.at; split <;> rfl
@[simp] theorem State.at_cave (s : State) (t : Nat) : (s.at t).cave = s.cave := by unfold State.at; split <;> rfl
@[simp] theorem State.at_boot (s : State) (t : Nat) : (s.at t).boot = s.boot := by unfold State.at; split <;> rfl
@[simp] theorem State.at_pcr (s : State) (t : Nat) : (s.at t).pcr = s.pcr := by unfold State.at; split <;> rfl
@[simp] theorem State.at_cel (s : State) (t : Nat) : (s.at t).cel = s.cel := by unfold State.at; split <;> rfl
@[simp] theorem State.at_rc (s : State) (t : Nat) : (s.at t).rc = if s.tsu.rcOn then max s.rc t else s.rc := by unfold State.at; split <;> rfl

/-! An answer on the bus changes what its requester reads -/

@[simp] theorem State.rd_answer (s : State) (q v : Nat) (f : Fld) : (s.answer q v).rd f = s.rd f := State.rd_congr rfl rfl rfl f
@[simp] theorem State.answer_pending (s : State) (q v : Nat) : (s.answer q v).pending = s.pending := by rfl
@[simp] theorem State.answer_rc (s : State) (q v : Nat) : (s.answer q v).rc = s.rc := by rfl
@[simp] theorem State.answer_tsuOfs (s : State) (q v : Nat) : (s.answer q v).tsuOfs = s.tsuOfs := by rfl
@[simp] theorem State.answer_frac (s : State) (q v : Nat) : (s.answer q v).frac = s.frac := by rfl
@[simp] theorem State.answer_freeCtr (s : State) (q v : Nat) : (s.answer q v).freeCtr = s.freeCtr := by rfl
@[simp] theorem State.answer_latch (s : State) (q v : Nat) : (s.answer q v).latch = s.latch := by rfl
@[simp] theorem State.answer_nodes (s : State) (q v : Nat) : (s.answer q v).nodes = s.nodes := by rfl
@[simp] theorem State.answer_hoar (s : State) (q v : Nat) : (s.answer q v).hoar = s.hoar := by rfl
@[simp] theorem State.answer_fe (s : State) (q v : Nat) : (s.answer q v).fe = s.fe := by rfl
@[simp] theorem State.answer_dc (s : State) (q v : Nat) : (s.answer q v).dc = s.dc := by rfl
@[simp] theorem State.answer_slices (s : State) (q v : Nat) : (s.answer q v).slices = s.slices := by rfl
@[simp] theorem State.answer_sniffers (s : State) (q v : Nat) : (s.answer q v).sniffers = s.sniffers := by rfl
@[simp] theorem State.answer_plans (s : State) (q v : Nat) : (s.answer q v).plans = s.plans := by rfl
@[simp] theorem State.answer_specAt (s : State) (q v : Nat) : (s.answer q v).specAt = s.specAt := by rfl
@[simp] theorem State.answer_mac (s : State) (q v : Nat) : (s.answer q v).mac = s.mac := by rfl
@[simp] theorem State.answer_lanes (s : State) (q v : Nat) : (s.answer q v).lanes = s.lanes := by rfl
@[simp] theorem State.answer_src (s : State) (q v : Nat) : (s.answer q v).src = s.src := by rfl
@[simp] theorem State.answer_qms (s : State) (q v : Nat) : (s.answer q v).qms = s.qms := by rfl
@[simp] theorem State.answer_sec (s : State) (q v : Nat) : (s.answer q v).sec = s.sec := by rfl
@[simp] theorem State.answer_jdev (s : State) (q v : Nat) : (s.answer q v).jdev = s.jdev := by rfl
@[simp] theorem State.answer_fwd (s : State) (q v : Nat) : (s.answer q v).fwd = s.fwd := by rfl
@[simp] theorem State.answer_camps (s : State) (q v : Nat) : (s.answer q v).camps = s.camps := by rfl
@[simp] theorem State.answer_pressOctets (s : State) (q v : Nat) : (s.answer q v).pressOctets = s.pressOctets := by rfl
@[simp] theorem State.answer_pressAt (s : State) (q v : Nat) : (s.answer q v).pressAt = s.pressAt := by rfl
@[simp] theorem State.answer_hif (s : State) (q v : Nat) : (s.answer q v).hif = s.hif := by rfl
@[simp] theorem State.answer_flt (s : State) (q v : Nat) : (s.answer q v).flt = s.flt := by rfl
@[simp] theorem State.answer_pair (s : State) (q v : Nat) : (s.answer q v).pair = s.pair := by rfl
@[simp] theorem State.answer_tsu (s : State) (q v : Nat) : (s.answer q v).tsu = s.tsu := by rfl
@[simp] theorem State.answer_anchor (s : State) (q v : Nat) : (s.answer q v).anchor = s.anchor := by rfl
@[simp] theorem State.answer_fuse (s : State) (q v : Nat) : (s.answer q v).fuse = s.fuse := by rfl
@[simp] theorem State.answer_cave (s : State) (q v : Nat) : (s.answer q v).cave = s.cave := by rfl
@[simp] theorem State.answer_boot (s : State) (q v : Nat) : (s.answer q v).boot = s.boot := by rfl
@[simp] theorem State.answer_pcr (s : State) (q v : Nat) : (s.answer q v).pcr = s.pcr := by rfl
@[simp] theorem State.answer_cel (s : State) (q v : Nat) : (s.answer q v).cel = s.cel := by rfl
@[simp] theorem State.busData_answer (s : State) (q v : Nat) : (s.answer q v).busData q = v := by simp [State.answer, State.busData]

/-! Taking a free value -/

@[simp] theorem State.rd_took (s : State) (f : Fld) : (s.took).rd f = s.rd f := State.rd_congr rfl rfl rfl f
@[simp] theorem State.took_pending (s : State) : (s.took).pending = s.pending := by rfl
@[simp] theorem State.took_rc (s : State) : (s.took).rc = s.rc := by rfl
@[simp] theorem State.took_tsuOfs (s : State) : (s.took).tsuOfs = s.tsuOfs := by rfl
@[simp] theorem State.took_frac (s : State) : (s.took).frac = s.frac := by rfl
@[simp] theorem State.took_bus (s : State) : (s.took).bus = s.bus := by rfl
@[simp] theorem State.took_latch (s : State) : (s.took).latch = s.latch := by rfl
@[simp] theorem State.took_nodes (s : State) : (s.took).nodes = s.nodes := by rfl
@[simp] theorem State.took_hoar (s : State) : (s.took).hoar = s.hoar := by rfl
@[simp] theorem State.took_fe (s : State) : (s.took).fe = s.fe := by rfl
@[simp] theorem State.took_dc (s : State) : (s.took).dc = s.dc := by rfl
@[simp] theorem State.took_slices (s : State) : (s.took).slices = s.slices := by rfl
@[simp] theorem State.took_sniffers (s : State) : (s.took).sniffers = s.sniffers := by rfl
@[simp] theorem State.took_plans (s : State) : (s.took).plans = s.plans := by rfl
@[simp] theorem State.took_specAt (s : State) : (s.took).specAt = s.specAt := by rfl
@[simp] theorem State.took_mac (s : State) : (s.took).mac = s.mac := by rfl
@[simp] theorem State.took_lanes (s : State) : (s.took).lanes = s.lanes := by rfl
@[simp] theorem State.took_src (s : State) : (s.took).src = s.src := by rfl
@[simp] theorem State.took_qms (s : State) : (s.took).qms = s.qms := by rfl
@[simp] theorem State.took_sec (s : State) : (s.took).sec = s.sec := by rfl
@[simp] theorem State.took_jdev (s : State) : (s.took).jdev = s.jdev := by rfl
@[simp] theorem State.took_fwd (s : State) : (s.took).fwd = s.fwd := by rfl
@[simp] theorem State.took_camps (s : State) : (s.took).camps = s.camps := by rfl
@[simp] theorem State.took_pressOctets (s : State) : (s.took).pressOctets = s.pressOctets := by rfl
@[simp] theorem State.took_pressAt (s : State) : (s.took).pressAt = s.pressAt := by rfl
@[simp] theorem State.took_hif (s : State) : (s.took).hif = s.hif := by rfl
@[simp] theorem State.took_flt (s : State) : (s.took).flt = s.flt := by rfl
@[simp] theorem State.took_pair (s : State) : (s.took).pair = s.pair := by rfl
@[simp] theorem State.took_tsu (s : State) : (s.took).tsu = s.tsu := by rfl
@[simp] theorem State.took_anchor (s : State) : (s.took).anchor = s.anchor := by rfl
@[simp] theorem State.took_fuse (s : State) : (s.took).fuse = s.fuse := by rfl
@[simp] theorem State.took_cave (s : State) : (s.took).cave = s.cave := by rfl
@[simp] theorem State.took_boot (s : State) : (s.took).boot = s.boot := by rfl
@[simp] theorem State.took_pcr (s : State) : (s.took).pcr = s.pcr := by rfl
@[simp] theorem State.took_cel (s : State) : (s.took).cel = s.cel := by rfl

/-! A write of a node record (R31) -/

@[simp] theorem State.rd_setNode (s : State) (n : Nat) (r : Node) (f : Fld) : (s.setNode n r).rd f = s.rd f := State.rd_congr rfl rfl rfl f
@[simp] theorem State.setNode_pending (s : State) (n : Nat) (r : Node) : (s.setNode n r).pending = s.pending := by rfl
@[simp] theorem State.setNode_rc (s : State) (n : Nat) (r : Node) : (s.setNode n r).rc = s.rc := by rfl
@[simp] theorem State.setNode_tsuOfs (s : State) (n : Nat) (r : Node) : (s.setNode n r).tsuOfs = s.tsuOfs := by rfl
@[simp] theorem State.setNode_frac (s : State) (n : Nat) (r : Node) : (s.setNode n r).frac = s.frac := by rfl
@[simp] theorem State.setNode_freeCtr (s : State) (n : Nat) (r : Node) : (s.setNode n r).freeCtr = s.freeCtr := by rfl
@[simp] theorem State.setNode_bus (s : State) (n : Nat) (r : Node) : (s.setNode n r).bus = s.bus := by rfl
@[simp] theorem State.setNode_latch (s : State) (n : Nat) (r : Node) : (s.setNode n r).latch = s.latch := by rfl
@[simp] theorem State.setNode_hoar (s : State) (n : Nat) (r : Node) : (s.setNode n r).hoar = s.hoar := by rfl
@[simp] theorem State.setNode_fe (s : State) (n : Nat) (r : Node) : (s.setNode n r).fe = s.fe := by rfl
@[simp] theorem State.setNode_dc (s : State) (n : Nat) (r : Node) : (s.setNode n r).dc = s.dc := by rfl
@[simp] theorem State.setNode_slices (s : State) (n : Nat) (r : Node) : (s.setNode n r).slices = s.slices := by rfl
@[simp] theorem State.setNode_sniffers (s : State) (n : Nat) (r : Node) : (s.setNode n r).sniffers = s.sniffers := by rfl
@[simp] theorem State.setNode_plans (s : State) (n : Nat) (r : Node) : (s.setNode n r).plans = s.plans := by rfl
@[simp] theorem State.setNode_specAt (s : State) (n : Nat) (r : Node) : (s.setNode n r).specAt = s.specAt := by rfl
@[simp] theorem State.setNode_mac (s : State) (n : Nat) (r : Node) : (s.setNode n r).mac = s.mac := by rfl
@[simp] theorem State.setNode_lanes (s : State) (n : Nat) (r : Node) : (s.setNode n r).lanes = s.lanes := by rfl
@[simp] theorem State.setNode_src (s : State) (n : Nat) (r : Node) : (s.setNode n r).src = s.src := by rfl
@[simp] theorem State.setNode_qms (s : State) (n : Nat) (r : Node) : (s.setNode n r).qms = s.qms := by rfl
@[simp] theorem State.setNode_sec (s : State) (n : Nat) (r : Node) : (s.setNode n r).sec = s.sec := by rfl
@[simp] theorem State.setNode_jdev (s : State) (n : Nat) (r : Node) : (s.setNode n r).jdev = s.jdev := by rfl
@[simp] theorem State.setNode_fwd (s : State) (n : Nat) (r : Node) : (s.setNode n r).fwd = s.fwd := by rfl
@[simp] theorem State.setNode_camps (s : State) (n : Nat) (r : Node) : (s.setNode n r).camps = s.camps := by rfl
@[simp] theorem State.setNode_pressOctets (s : State) (n : Nat) (r : Node) : (s.setNode n r).pressOctets = s.pressOctets := by rfl
@[simp] theorem State.setNode_pressAt (s : State) (n : Nat) (r : Node) : (s.setNode n r).pressAt = s.pressAt := by rfl
@[simp] theorem State.setNode_hif (s : State) (n : Nat) (r : Node) : (s.setNode n r).hif = s.hif := by rfl
@[simp] theorem State.setNode_flt (s : State) (n : Nat) (r : Node) : (s.setNode n r).flt = s.flt := by rfl
@[simp] theorem State.setNode_tsu (s : State) (n : Nat) (r : Node) : (s.setNode n r).tsu = s.tsu := by rfl
@[simp] theorem State.setNode_anchor (s : State) (n : Nat) (r : Node) : (s.setNode n r).anchor = s.anchor := by rfl
@[simp] theorem State.setNode_fuse (s : State) (n : Nat) (r : Node) : (s.setNode n r).fuse = s.fuse := by rfl
@[simp] theorem State.setNode_cave (s : State) (n : Nat) (r : Node) : (s.setNode n r).cave = s.cave := by rfl
@[simp] theorem State.setNode_boot (s : State) (n : Nat) (r : Node) : (s.setNode n r).boot = s.boot := by rfl
@[simp] theorem State.setNode_pcr (s : State) (n : Nat) (r : Node) : (s.setNode n r).pcr = s.pcr := by rfl
@[simp] theorem State.setNode_cel (s : State) (n : Nat) (r : Node) : (s.setNode n r).cel = s.cel := by rfl
@[simp] theorem State.node_setNode_same (s : State) (n : Nat) (r : Node) : (s.setNode n r).node n = r := by simp [State.setNode, State.node]
theorem State.node_setNode_ne (s : State) {n m : Nat} (r : Node) (h : m ≠ n) : (s.setNode n r).node m = s.node m := by
  simp [State.setNode, State.node, Store.find_put_ne, h]
@[simp] theorem State.putNode_eq (s : State) (n : Nat) (f : Node → Node) : s.putNode n f = s.setNode n (f (s.node n)) := rfl
/-- A unit's write of a record that is not fenced is a write of the record (R31). -/
@[simp] theorem State.modNode_open (s : State) (n : Nat) (f : Node → Node) (h : (s.node n).fenced = false) :
    s.modNode n f = s.setNode n (f (s.node n)) := by
  simp [State.modNode, h]
/-- A fenced record takes no write of a unit (R27). -/
@[simp] theorem State.modNode_fenced (s : State) (n : Nat) (f : Node → Node) (h : (s.node n).fenced = true) : s.modNode n f = s := by
  simp [State.modNode, h]
@[simp] theorem State.rd_modNode (s : State) (n : Nat) (g : Node → Node) (f : Fld) : (s.modNode n g).rd f = s.rd f := by
  unfold State.modNode
  split
  · rfl
  · exact State.rd_setNode _ _ _ _
theorem State.node_congr {s u : State} (h : u.nodes = s.nodes) (n : Nat) : u.node n = s.node n := by unfold State.node; rw [h]
@[simp] theorem State.node_wr (s : State) (f : Fld) (v n : Nat) : (s.wr f v).node n = s.node n := State.node_congr (by simp) n
@[simp] theorem State.node_at (s : State) (t n : Nat) : (s.at t).node n = s.node n := State.node_congr (by simp) n

/-! A change of what a front end holds -/

@[simp] theorem State.rd_modFe (s : State) (n : Nat) (g : Fe → Fe) (f : Fld) : (s.modFe n g).rd f = s.rd f := State.rd_congr rfl rfl rfl f
@[simp] theorem State.modFe_pending (s : State) (n : Nat) (g : Fe → Fe) : (s.modFe n g).pending = s.pending := by rfl
@[simp] theorem State.modFe_rc (s : State) (n : Nat) (g : Fe → Fe) : (s.modFe n g).rc = s.rc := by rfl
@[simp] theorem State.modFe_tsuOfs (s : State) (n : Nat) (g : Fe → Fe) : (s.modFe n g).tsuOfs = s.tsuOfs := by rfl
@[simp] theorem State.modFe_frac (s : State) (n : Nat) (g : Fe → Fe) : (s.modFe n g).frac = s.frac := by rfl
@[simp] theorem State.modFe_freeCtr (s : State) (n : Nat) (g : Fe → Fe) : (s.modFe n g).freeCtr = s.freeCtr := by rfl
@[simp] theorem State.modFe_bus (s : State) (n : Nat) (g : Fe → Fe) : (s.modFe n g).bus = s.bus := by rfl
@[simp] theorem State.modFe_latch (s : State) (n : Nat) (g : Fe → Fe) : (s.modFe n g).latch = s.latch := by rfl
@[simp] theorem State.modFe_nodes (s : State) (n : Nat) (g : Fe → Fe) : (s.modFe n g).nodes = s.nodes := by rfl
@[simp] theorem State.modFe_hoar (s : State) (n : Nat) (g : Fe → Fe) : (s.modFe n g).hoar = s.hoar := by rfl
@[simp] theorem State.modFe_dc (s : State) (n : Nat) (g : Fe → Fe) : (s.modFe n g).dc = s.dc := by rfl
@[simp] theorem State.modFe_slices (s : State) (n : Nat) (g : Fe → Fe) : (s.modFe n g).slices = s.slices := by rfl
@[simp] theorem State.modFe_sniffers (s : State) (n : Nat) (g : Fe → Fe) : (s.modFe n g).sniffers = s.sniffers := by rfl
@[simp] theorem State.modFe_plans (s : State) (n : Nat) (g : Fe → Fe) : (s.modFe n g).plans = s.plans := by rfl
@[simp] theorem State.modFe_specAt (s : State) (n : Nat) (g : Fe → Fe) : (s.modFe n g).specAt = s.specAt := by rfl
@[simp] theorem State.modFe_mac (s : State) (n : Nat) (g : Fe → Fe) : (s.modFe n g).mac = s.mac := by rfl
@[simp] theorem State.modFe_lanes (s : State) (n : Nat) (g : Fe → Fe) : (s.modFe n g).lanes = s.lanes := by rfl
@[simp] theorem State.modFe_src (s : State) (n : Nat) (g : Fe → Fe) : (s.modFe n g).src = s.src := by rfl
@[simp] theorem State.modFe_qms (s : State) (n : Nat) (g : Fe → Fe) : (s.modFe n g).qms = s.qms := by rfl
@[simp] theorem State.modFe_sec (s : State) (n : Nat) (g : Fe → Fe) : (s.modFe n g).sec = s.sec := by rfl
@[simp] theorem State.modFe_jdev (s : State) (n : Nat) (g : Fe → Fe) : (s.modFe n g).jdev = s.jdev := by rfl
@[simp] theorem State.modFe_fwd (s : State) (n : Nat) (g : Fe → Fe) : (s.modFe n g).fwd = s.fwd := by rfl
@[simp] theorem State.modFe_camps (s : State) (n : Nat) (g : Fe → Fe) : (s.modFe n g).camps = s.camps := by rfl
@[simp] theorem State.modFe_pressOctets (s : State) (n : Nat) (g : Fe → Fe) : (s.modFe n g).pressOctets = s.pressOctets := by rfl
@[simp] theorem State.modFe_pressAt (s : State) (n : Nat) (g : Fe → Fe) : (s.modFe n g).pressAt = s.pressAt := by rfl
@[simp] theorem State.modFe_hif (s : State) (n : Nat) (g : Fe → Fe) : (s.modFe n g).hif = s.hif := by rfl
@[simp] theorem State.modFe_flt (s : State) (n : Nat) (g : Fe → Fe) : (s.modFe n g).flt = s.flt := by rfl
@[simp] theorem State.modFe_pair (s : State) (n : Nat) (g : Fe → Fe) : (s.modFe n g).pair = s.pair := by rfl
@[simp] theorem State.modFe_tsu (s : State) (n : Nat) (g : Fe → Fe) : (s.modFe n g).tsu = s.tsu := by rfl
@[simp] theorem State.modFe_anchor (s : State) (n : Nat) (g : Fe → Fe) : (s.modFe n g).anchor = s.anchor := by rfl
@[simp] theorem State.modFe_fuse (s : State) (n : Nat) (g : Fe → Fe) : (s.modFe n g).fuse = s.fuse := by rfl
@[simp] theorem State.modFe_cave (s : State) (n : Nat) (g : Fe → Fe) : (s.modFe n g).cave = s.cave := by rfl
@[simp] theorem State.modFe_boot (s : State) (n : Nat) (g : Fe → Fe) : (s.modFe n g).boot = s.boot := by rfl
@[simp] theorem State.modFe_pcr (s : State) (n : Nat) (g : Fe → Fe) : (s.modFe n g).pcr = s.pcr := by rfl
@[simp] theorem State.modFe_cel (s : State) (n : Nat) (g : Fe → Fe) : (s.modFe n g).cel = s.cel := by rfl
@[simp] theorem State.feOf_modFe_same (s : State) (n : Nat) (g : Fe → Fe) : (s.modFe n g).feOf n = g (s.feOf n) := by
  simp [State.modFe, State.feOf]
theorem State.feOf_modFe_ne (s : State) {n m : Nat} (g : Fe → Fe) (h : m ≠ n) : (s.modFe n g).feOf m = s.feOf m := by
  simp [State.modFe, State.feOf, Store.find_put_ne, h]
@[simp] theorem State.feOf_wr (s : State) (f : Fld) (v n : Nat) : (s.wr f v).feOf n = s.feOf n := by simp [State.feOf]
@[simp] theorem State.feOf_at (s : State) (t n : Nat) : (s.at t).feOf n = s.feOf n := by simp [State.feOf]

/-! A change of what the policy cores hold, and an octet of shared policy memory -/

@[simp] theorem rd_modPcr (g : Pcr → Pcr) (s : State) (f : Fld) : (modPcr g s).rd f = s.rd f := State.rd_congr rfl rfl rfl f
@[simp] theorem modPcr_pending (g : Pcr → Pcr) (s : State) : (modPcr g s).pending = s.pending := by rfl
@[simp] theorem modPcr_rc (g : Pcr → Pcr) (s : State) : (modPcr g s).rc = s.rc := by rfl
@[simp] theorem modPcr_tsuOfs (g : Pcr → Pcr) (s : State) : (modPcr g s).tsuOfs = s.tsuOfs := by rfl
@[simp] theorem modPcr_frac (g : Pcr → Pcr) (s : State) : (modPcr g s).frac = s.frac := by rfl
@[simp] theorem modPcr_freeCtr (g : Pcr → Pcr) (s : State) : (modPcr g s).freeCtr = s.freeCtr := by rfl
@[simp] theorem modPcr_bus (g : Pcr → Pcr) (s : State) : (modPcr g s).bus = s.bus := by rfl
@[simp] theorem modPcr_latch (g : Pcr → Pcr) (s : State) : (modPcr g s).latch = s.latch := by rfl
@[simp] theorem modPcr_nodes (g : Pcr → Pcr) (s : State) : (modPcr g s).nodes = s.nodes := by rfl
@[simp] theorem modPcr_hoar (g : Pcr → Pcr) (s : State) : (modPcr g s).hoar = s.hoar := by rfl
@[simp] theorem modPcr_fe (g : Pcr → Pcr) (s : State) : (modPcr g s).fe = s.fe := by rfl
@[simp] theorem modPcr_dc (g : Pcr → Pcr) (s : State) : (modPcr g s).dc = s.dc := by rfl
@[simp] theorem modPcr_slices (g : Pcr → Pcr) (s : State) : (modPcr g s).slices = s.slices := by rfl
@[simp] theorem modPcr_sniffers (g : Pcr → Pcr) (s : State) : (modPcr g s).sniffers = s.sniffers := by rfl
@[simp] theorem modPcr_plans (g : Pcr → Pcr) (s : State) : (modPcr g s).plans = s.plans := by rfl
@[simp] theorem modPcr_specAt (g : Pcr → Pcr) (s : State) : (modPcr g s).specAt = s.specAt := by rfl
@[simp] theorem modPcr_mac (g : Pcr → Pcr) (s : State) : (modPcr g s).mac = s.mac := by rfl
@[simp] theorem modPcr_lanes (g : Pcr → Pcr) (s : State) : (modPcr g s).lanes = s.lanes := by rfl
@[simp] theorem modPcr_src (g : Pcr → Pcr) (s : State) : (modPcr g s).src = s.src := by rfl
@[simp] theorem modPcr_qms (g : Pcr → Pcr) (s : State) : (modPcr g s).qms = s.qms := by rfl
@[simp] theorem modPcr_sec (g : Pcr → Pcr) (s : State) : (modPcr g s).sec = s.sec := by rfl
@[simp] theorem modPcr_jdev (g : Pcr → Pcr) (s : State) : (modPcr g s).jdev = s.jdev := by rfl
@[simp] theorem modPcr_fwd (g : Pcr → Pcr) (s : State) : (modPcr g s).fwd = s.fwd := by rfl
@[simp] theorem modPcr_camps (g : Pcr → Pcr) (s : State) : (modPcr g s).camps = s.camps := by rfl
@[simp] theorem modPcr_pressOctets (g : Pcr → Pcr) (s : State) : (modPcr g s).pressOctets = s.pressOctets := by rfl
@[simp] theorem modPcr_pressAt (g : Pcr → Pcr) (s : State) : (modPcr g s).pressAt = s.pressAt := by rfl
@[simp] theorem modPcr_hif (g : Pcr → Pcr) (s : State) : (modPcr g s).hif = s.hif := by rfl
@[simp] theorem modPcr_flt (g : Pcr → Pcr) (s : State) : (modPcr g s).flt = s.flt := by rfl
@[simp] theorem modPcr_pair (g : Pcr → Pcr) (s : State) : (modPcr g s).pair = s.pair := by rfl
@[simp] theorem modPcr_tsu (g : Pcr → Pcr) (s : State) : (modPcr g s).tsu = s.tsu := by rfl
@[simp] theorem modPcr_anchor (g : Pcr → Pcr) (s : State) : (modPcr g s).anchor = s.anchor := by rfl
@[simp] theorem modPcr_fuse (g : Pcr → Pcr) (s : State) : (modPcr g s).fuse = s.fuse := by rfl
@[simp] theorem modPcr_cave (g : Pcr → Pcr) (s : State) : (modPcr g s).cave = s.cave := by rfl
@[simp] theorem modPcr_boot (g : Pcr → Pcr) (s : State) : (modPcr g s).boot = s.boot := by rfl
@[simp] theorem modPcr_pcr (g : Pcr → Pcr) (s : State) : (modPcr g s).pcr = g s.pcr := by rfl
@[simp] theorem modPcr_cel (g : Pcr → Pcr) (s : State) : (modPcr g s).cel = s.cel := by rfl
/-- An octet of shared policy memory is written, and nothing else. -/
@[simp] theorem polPut_eq (a v : Nat) (s : State) :
    polPut a v s = modPcr (fun p => { p with mem := Memory.write p.mem a (BitVec.ofNat 8 v) }) s := rfl

end Sys2Proof.Machine
end

