-- ==== Sys2Proof/Laws/Keeps.lean ====
section
/-!
SUPPORT. What the basic operations change, as `Keeps` says it, and how such facts join.
-/

namespace Sys2Proof.Machine

/-- From `s` to `u` nothing changes but what the mask names, and memories in their canonical form stay in it. -/
structure Keeps (m : Nat) (s u : State) : Prop extends Only m s u where
  form : s.memOk → u.memOk

theorem Keeps.refl {m : Nat} {s : State} : Keeps m s s where
  rd _ _ _ := rfl
  pending := rfl
  rc _ := rfl
  tsuOfs _ := rfl
  freeCtr _ := rfl
  bus _ := rfl
  latch _ := rfl
  nodes _ := rfl
  hoar _ := rfl
  fe _ := rfl
  dc _ := rfl
  slices _ := rfl
  sniffers _ := rfl
  mac _ := rfl
  lanes _ := rfl
  src _ := rfl
  qms _ := rfl
  sec _ := rfl
  jdev _ := rfl
  fwd _ := rfl
  camps _ := rfl
  pressOctets _ := rfl
  hif _ := rfl
  flt _ := rfl
  pair _ := rfl
  tsu _ := rfl
  anchor _ := rfl
  fuse _ := rfl
  cave _ := rfl
  boot _ := rfl
  pcr _ := rfl
  cel _ := rfl
  mem _ := ⟨rfl, rfl⟩
  frac _ := rfl
  plans _ := rfl
  specAt _ := rfl
  pressAt _ := rfl
  form h := h

theorem Keeps.trans {m : Nat} {s x u : State} (a : Keeps m s x) (b : Keeps m x u) : Keeps m s u where
  rd f g h := (b.rd f g h).trans (a.rd f g h)
  pending := b.pending.trans a.pending
  rc h := (b.rc h).trans (a.rc h)
  tsuOfs h := (b.tsuOfs h).trans (a.tsuOfs h)
  freeCtr h := (b.freeCtr h).trans (a.freeCtr h)
  bus h := (b.bus h).trans (a.bus h)
  latch h := (b.latch h).trans (a.latch h)
  nodes h := (b.nodes h).trans (a.nodes h)
  hoar h := (b.hoar h).trans (a.hoar h)
  fe h := (b.fe h).trans (a.fe h)
  dc h := (b.dc h).trans (a.dc h)
  slices h := (b.slices h).trans (a.slices h)
  sniffers h := (b.sniffers h).trans (a.sniffers h)
  mac h := (b.mac h).trans (a.mac h)
  lanes h := (b.lanes h).trans (a.lanes h)
  src h := (b.src h).trans (a.src h)
  qms h := (b.qms h).trans (a.qms h)
  sec h := (b.sec h).trans (a.sec h)
  jdev h := (b.jdev h).trans (a.jdev h)
  fwd h := (b.fwd h).trans (a.fwd h)
  camps h := (b.camps h).trans (a.camps h)
  pressOctets h := (b.pressOctets h).trans (a.pressOctets h)
  hif h := (b.hif h).trans (a.hif h)
  flt h := (b.flt h).trans (a.flt h)
  pair h := (b.pair h).trans (a.pair h)
  tsu h := (b.tsu h).trans (a.tsu h)
  anchor h := (b.anchor h).trans (a.anchor h)
  fuse h := (b.fuse h).trans (a.fuse h)
  cave h := (b.cave h).trans (a.cave h)
  boot h := (b.boot h).trans (a.boot h)
  pcr h := (b.pcr h).trans (a.pcr h)
  cel h := (b.cel h).trans (a.cel h)
  mem h := ⟨(b.mem h).1.trans (a.mem h).1, (b.mem h).2.trans (a.mem h).2⟩
  frac h := (b.frac h).trans (a.frac h)
  plans h := (b.plans h).trans (a.plans h)
  specAt h := (b.specAt h).trans (a.specAt h)
  pressAt h := (b.pressAt h).trans (a.pressAt h)
  form h := b.form (a.form h)

theorem mask_bit {k m : Nat} (e : k ||| m = m) {i : Nat} (h : m.testBit i = false) : k.testBit i = false := by
  rw [← e, Nat.testBit_or] at h
  simpa using (Bool.or_eq_false_iff.mp h).1

theorem Keeps.mono {k m : Nat} {s u : State} (e : k ||| m = m) (a : Keeps k s u) : Keeps m s u where
  rd f g h := a.rd f g (mask_bit e h)
  pending := a.pending
  rc h := a.rc (mask_bit e h)
  tsuOfs h := a.tsuOfs (mask_bit e h)
  freeCtr h := a.freeCtr (mask_bit e h)
  bus h := a.bus (mask_bit e h)
  latch h := a.latch (mask_bit e h)
  nodes h := a.nodes (mask_bit e h)
  hoar h := a.hoar (mask_bit e h)
  fe h := a.fe (mask_bit e h)
  dc h := a.dc (mask_bit e h)
  slices h := a.slices (mask_bit e h)
  sniffers h := a.sniffers (mask_bit e h)
  mac h := a.mac (mask_bit e h)
  lanes h := a.lanes (mask_bit e h)
  src h := a.src (mask_bit e h)
  qms h := a.qms (mask_bit e h)
  sec h := a.sec (mask_bit e h)
  jdev h := a.jdev (mask_bit e h)
  fwd h := a.fwd (mask_bit e h)
  camps h := a.camps (mask_bit e h)
  pressOctets h := a.pressOctets (mask_bit e h)
  hif h := a.hif (mask_bit e h)
  flt h := a.flt (mask_bit e h)
  pair h := a.pair (mask_bit e h)
  tsu h := a.tsu (mask_bit e h)
  anchor h := a.anchor (mask_bit e h)
  fuse h := a.fuse (mask_bit e h)
  cave h := a.cave (mask_bit e h)
  boot h := a.boot (mask_bit e h)
  pcr h := a.pcr (mask_bit e h)
  cel h := a.cel (mask_bit e h)
  mem h := a.mem (mask_bit e h)
  frac h := a.frac (mask_bit e h)
  plans h := a.plans (mask_bit e h)
  specAt h := a.specAt (mask_bit e h)
  pressAt h := a.pressAt (mask_bit e h)
  form := a.form

theorem mask_sub {k l m : Nat} (e : k ||| l = l) (h : l ||| m = m) : k ||| m = m := by
  rw [← h, ← Nat.or_assoc, e]
theorem mask_true {l m i : Nat} (e : l.testBit i = true) (h : l ||| m = m) : m.testBit i = true := by
  rw [← h, Nat.testBit_or, e]
  rfl

/-- One more operation: what it touches is in the mask. -/
theorem Keeps.step {k m : Nat} {s x u : State} (e : k ||| m = m) (a : Keeps k x u) (b : Keeps m s x) : Keeps m s u := b.trans (a.mono e)

theorem Keeps.wr {m : Nat} {s x : State} (f : Fld) (v : Nat) {i j w r : Nat} {h : Home} (d : f = ⟨i, j, w, r, h⟩) (e : m.testBit i = true) (b : Keeps m s x) :
    Keeps m s (x.wr f v) :=
  b.trans {
    rd := fun g _ h => x.rd_wr_ne v (by
      have n : g.id ≠ f.id := fun n => by rw [n, d, e] at h; cases h
      simpa using n)
    pending := by simp
    rc := by simp
    tsuOfs := by simp
    freeCtr := by simp
    bus := by simp
    latch := by simp
    nodes := by simp
    hoar := by simp
    fe := by simp
    dc := by simp
    slices := by simp
    sniffers := by simp
    mac := by simp
    lanes := by simp
    src := by simp
    qms := by simp
    sec := by simp
    jdev := by simp
    fwd := by simp
    camps := by simp
    pressOctets := by simp
    hif := by simp
    flt := by simp
    pair := by simp
    tsu := by simp
    anchor := by simp
    fuse := by simp
    cave := by simp
    boot := by simp
    pcr := by simp
    cel := by simp
    mem := by simp
    frac := by simp
    plans := by simp
    specAt := by simp
    pressAt := by simp
    form := fun h => by simpa [State.memOk] using h }

theorem Keeps.put {m : Nat} {s x : State} (f : Fld) (c : Bool) {i j w r : Nat} {h : Home} (d : f = ⟨i, j, w, r, h⟩) (e : m.testBit i = true) (b : Keeps m s x) : Keeps m s (x.put f c) := Keeps.wr f _ d e b

theorem Keeps.inc {m : Nat} {s x : State} (f : Fld) {i j w r : Nat} {h : Home} (d : f = ⟨i, j, w, r, h⟩) (e : m.testBit i = true) (b : Keeps m s x) : Keeps m s (x.inc f) := Keeps.wr f _ d e b

theorem Keeps.add {m : Nat} {s x : State} (f : Fld) (n : Nat) {i j w r : Nat} {h : Home} (d : f = ⟨i, j, w, r, h⟩) (e : m.testBit i = true) (b : Keeps m s x) : Keeps m s (x.add f n) := Keeps.wr f _ d e b

theorem Keeps.addSat {m : Nat} {s x : State} (f : Fld) (n : Nat) {i j w r : Nat} {h : Home} (d : f = ⟨i, j, w, r, h⟩) (e : m.testBit i = true) (b : Keeps m s x) : Keeps m s (x.addSat f n) := Keeps.wr f _ d e b

theorem Keeps.sub {m : Nat} {s x : State} (f : Fld) (n : Nat) {i j w r : Nat} {h : Home} (d : f = ⟨i, j, w, r, h⟩) (e : m.testBit i = true) (b : Keeps m s x) : Keeps m s (x.sub f n) := Keeps.wr f _ d e b

theorem Keeps.peak {m : Nat} {s x : State} (f : Fld) (n : Nat) {i j w r : Nat} {h : Home} (d : f = ⟨i, j, w, r, h⟩) (e : m.testBit i = true) (b : Keeps m s x) : Keeps m s (x.peak f n) := Keeps.wr f _ d e b

theorem Keeps.wrS {m : Nat} {s x : State} (f : Fld) (n : Int) {i j w r : Nat} {h : Home} (d : f = ⟨i, j, w, r, h⟩) (e : m.testBit i = true) (b : Keeps m s x) : Keeps m s (x.wrS f n) := Keeps.wr f _ d e b

theorem Keeps.set_rc {m : Nat} {s x : State} {v} (e : m.testBit 1664 = true) (b : Keeps m s x) : Keeps m s { x with rc := v } :=
  b.trans {
    rd := fun f _ _ => State.rd_congr rfl rfl rfl f
    pending := rfl
    rc := fun h => by rw [e] at h; cases h
    tsuOfs := fun _ => rfl
    freeCtr := fun _ => rfl
    bus := fun _ => rfl
    latch := fun _ => rfl
    nodes := fun _ => rfl
    hoar := fun _ => rfl
    fe := fun _ => rfl
    dc := fun _ => rfl
    slices := fun _ => rfl
    sniffers := fun _ => rfl
    mac := fun _ => rfl
    lanes := fun _ => rfl
    src := fun _ => rfl
    qms := fun _ => rfl
    sec := fun _ => rfl
    jdev := fun _ => rfl
    fwd := fun _ => rfl
    camps := fun _ => rfl
    pressOctets := fun _ => rfl
    hif := fun _ => rfl
    flt := fun _ => rfl
    pair := fun _ => rfl
    tsu := fun _ => rfl
    anchor := fun _ => rfl
    fuse := fun _ => rfl
    cave := fun _ => rfl
    boot := fun _ => rfl
    pcr := fun _ => rfl
    cel := fun _ => rfl
    mem := fun _ => ⟨rfl, rfl⟩
    frac := fun _ => rfl
    plans := fun _ => rfl
    specAt := fun _ => rfl
    pressAt := fun _ => rfl
    form := fun h => h }

theorem Keeps.set_tsuOfs {m : Nat} {s x : State} {v} (e : m.testBit 1665 = true) (b : Keeps m s x) : Keeps m s { x with tsuOfs := v } :=
  b.trans {
    rd := fun f _ _ => State.rd_congr rfl rfl rfl f
    pending := rfl
    rc := fun _ => rfl
    tsuOfs := fun h => by rw [e] at h; cases h
    freeCtr := fun _ => rfl
    bus := fun _ => rfl
    latch := fun _ => rfl
    nodes := fun _ => rfl
    hoar := fun _ => rfl
    fe := fun _ => rfl
    dc := fun _ => rfl
    slices := fun _ => rfl
    sniffers := fun _ => rfl
    mac := fun _ => rfl
    lanes := fun _ => rfl
    src := fun _ => rfl
    qms := fun _ => rfl
    sec := fun _ => rfl
    jdev := fun _ => rfl
    fwd := fun _ => rfl
    camps := fun _ => rfl
    pressOctets := fun _ => rfl
    hif := fun _ => rfl
    flt := fun _ => rfl
    pair := fun _ => rfl
    tsu := fun _ => rfl
    anchor := fun _ => rfl
    fuse := fun _ => rfl
    cave := fun _ => rfl
    boot := fun _ => rfl
    pcr := fun _ => rfl
    cel := fun _ => rfl
    mem := fun _ => ⟨rfl, rfl⟩
    frac := fun _ => rfl
    plans := fun _ => rfl
    specAt := fun _ => rfl
    pressAt := fun _ => rfl
    form := fun h => h }

theorem Keeps.set_freeCtr {m : Nat} {s x : State} {v} (e : m.testBit 1666 = true) (b : Keeps m s x) : Keeps m s { x with freeCtr := v } :=
  b.trans {
    rd := fun f _ _ => State.rd_congr rfl rfl rfl f
    pending := rfl
    rc := fun _ => rfl
    tsuOfs := fun _ => rfl
    freeCtr := fun h => by rw [e] at h; cases h
    bus := fun _ => rfl
    latch := fun _ => rfl
    nodes := fun _ => rfl
    hoar := fun _ => rfl
    fe := fun _ => rfl
    dc := fun _ => rfl
    slices := fun _ => rfl
    sniffers := fun _ => rfl
    mac := fun _ => rfl
    lanes := fun _ => rfl
    src := fun _ => rfl
    qms := fun _ => rfl
    sec := fun _ => rfl
    jdev := fun _ => rfl
    fwd := fun _ => rfl
    camps := fun _ => rfl
    pressOctets := fun _ => rfl
    hif := fun _ => rfl
    flt := fun _ => rfl
    pair := fun _ => rfl
    tsu := fun _ => rfl
    anchor := fun _ => rfl
    fuse := fun _ => rfl
    cave := fun _ => rfl
    boot := fun _ => rfl
    pcr := fun _ => rfl
    cel := fun _ => rfl
    mem := fun _ => ⟨rfl, rfl⟩
    frac := fun _ => rfl
    plans := fun _ => rfl
    specAt := fun _ => rfl
    pressAt := fun _ => rfl
    form := fun h => h }

theorem Keeps.set_bus {m : Nat} {s x : State} {v} (e : m.testBit 1667 = true) (b : Keeps m s x) : Keeps m s { x with bus := v } :=
  b.trans {
    rd := fun f _ _ => State.rd_congr rfl rfl rfl f
    pending := rfl
    rc := fun _ => rfl
    tsuOfs := fun _ => rfl
    freeCtr := fun _ => rfl
    bus := fun h => by rw [e] at h; cases h
    latch := fun _ => rfl
    nodes := fun _ => rfl
    hoar := fun _ => rfl
    fe := fun _ => rfl
    dc := fun _ => rfl
    slices := fun _ => rfl
    sniffers := fun _ => rfl
    mac := fun _ => rfl
    lanes := fun _ => rfl
    src := fun _ => rfl
    qms := fun _ => rfl
    sec := fun _ => rfl
    jdev := fun _ => rfl
    fwd := fun _ => rfl
    camps := fun _ => rfl
    pressOctets := fun _ => rfl
    hif := fun _ => rfl
    flt := fun _ => rfl
    pair := fun _ => rfl
    tsu := fun _ => rfl
    anchor := fun _ => rfl
    fuse := fun _ => rfl
    cave := fun _ => rfl
    boot := fun _ => rfl
    pcr := fun _ => rfl
    cel := fun _ => rfl
    mem := fun _ => ⟨rfl, rfl⟩
    frac := fun _ => rfl
    plans := fun _ => rfl
    specAt := fun _ => rfl
    pressAt := fun _ => rfl
    form := fun h => h }

theorem Keeps.set_latch {m : Nat} {s x : State} {v} (e : m.testBit 1668 = true) (b : Keeps m s x) : Keeps m s { x with latch := v } :=
  b.trans {
    rd := fun f _ _ => State.rd_congr rfl rfl rfl f
    pending := rfl
    rc := fun _ => rfl
    tsuOfs := fun _ => rfl
    freeCtr := fun _ => rfl
    bus := fun _ => rfl
    latch := fun h => by rw [e] at h; cases h
    nodes := fun _ => rfl
    hoar := fun _ => rfl
    fe := fun _ => rfl
    dc := fun _ => rfl
    slices := fun _ => rfl
    sniffers := fun _ => rfl
    mac := fun _ => rfl
    lanes := fun _ => rfl
    src := fun _ => rfl
    qms := fun _ => rfl
    sec := fun _ => rfl
    jdev := fun _ => rfl
    fwd := fun _ => rfl
    camps := fun _ => rfl
    pressOctets := fun _ => rfl
    hif := fun _ => rfl
    flt := fun _ => rfl
    pair := fun _ => rfl
    tsu := fun _ => rfl
    anchor := fun _ => rfl
    fuse := fun _ => rfl
    cave := fun _ => rfl
    boot := fun _ => rfl
    pcr := fun _ => rfl
    cel := fun _ => rfl
    mem := fun _ => ⟨rfl, rfl⟩
    frac := fun _ => rfl
    plans := fun _ => rfl
    specAt := fun _ => rfl
    pressAt := fun _ => rfl
    form := fun h => h }

theorem Keeps.set_nodes {m : Nat} {s x : State} {v} (e : m.testBit 1669 = true) (b : Keeps m s x) : Keeps m s { x with nodes := v } :=
  b.trans {
    rd := fun f _ _ => State.rd_congr rfl rfl rfl f
    pending := rfl
    rc := fun _ => rfl
    tsuOfs := fun _ => rfl
    freeCtr := fun _ => rfl
    bus := fun _ => rfl
    latch := fun _ => rfl
    nodes := fun h => by rw [e] at h; cases h
    hoar := fun _ => rfl
    fe := fun _ => rfl
    dc := fun _ => rfl
    slices := fun _ => rfl
    sniffers := fun _ => rfl
    mac := fun _ => rfl
    lanes := fun _ => rfl
    src := fun _ => rfl
    qms := fun _ => rfl
    sec := fun _ => rfl
    jdev := fun _ => rfl
    fwd := fun _ => rfl
    camps := fun _ => rfl
    pressOctets := fun _ => rfl
    hif := fun _ => rfl
    flt := fun _ => rfl
    pair := fun _ => rfl
    tsu := fun _ => rfl
    anchor := fun _ => rfl
    fuse := fun _ => rfl
    cave := fun _ => rfl
    boot := fun _ => rfl
    pcr := fun _ => rfl
    cel := fun _ => rfl
    mem := fun _ => ⟨rfl, rfl⟩
    frac := fun _ => rfl
    plans := fun _ => rfl
    specAt := fun _ => rfl
    pressAt := fun _ => rfl
    form := fun h => h }

theorem Keeps.set_hoar {m : Nat} {s x : State} {v} (e : m.testBit 1670 = true) (b : Keeps m s x) : Keeps m s { x with hoar := v } :=
  b.trans {
    rd := fun f _ _ => State.rd_congr rfl rfl rfl f
    pending := rfl
    rc := fun _ => rfl
    tsuOfs := fun _ => rfl
    freeCtr := fun _ => rfl
    bus := fun _ => rfl
    latch := fun _ => rfl
    nodes := fun _ => rfl
    hoar := fun h => by rw [e] at h; cases h
    fe := fun _ => rfl
    dc := fun _ => rfl
    slices := fun _ => rfl
    sniffers := fun _ => rfl
    mac := fun _ => rfl
    lanes := fun _ => rfl
    src := fun _ => rfl
    qms := fun _ => rfl
    sec := fun _ => rfl
    jdev := fun _ => rfl
    fwd := fun _ => rfl
    camps := fun _ => rfl
    pressOctets := fun _ => rfl
    hif := fun _ => rfl
    flt := fun _ => rfl
    pair := fun _ => rfl
    tsu := fun _ => rfl
    anchor := fun _ => rfl
    fuse := fun _ => rfl
    cave := fun _ => rfl
    boot := fun _ => rfl
    pcr := fun _ => rfl
    cel := fun _ => rfl
    mem := fun _ => ⟨rfl, rfl⟩
    frac := fun _ => rfl
    plans := fun _ => rfl
    specAt := fun _ => rfl
    pressAt := fun _ => rfl
    form := fun h => h }

theorem Keeps.set_fe {m : Nat} {s x : State} {v} (e : m.testBit 1671 = true) (b : Keeps m s x) : Keeps m s { x with fe := v } :=
  b.trans {
    rd := fun f _ _ => State.rd_congr rfl rfl rfl f
    pending := rfl
    rc := fun _ => rfl
    tsuOfs := fun _ => rfl
    freeCtr := fun _ => rfl
    bus := fun _ => rfl
    latch := fun _ => rfl
    nodes := fun _ => rfl
    hoar := fun _ => rfl
    fe := fun h => by rw [e] at h; cases h
    dc := fun _ => rfl
    slices := fun _ => rfl
    sniffers := fun _ => rfl
    mac := fun _ => rfl
    lanes := fun _ => rfl
    src := fun _ => rfl
    qms := fun _ => rfl
    sec := fun _ => rfl
    jdev := fun _ => rfl
    fwd := fun _ => rfl
    camps := fun _ => rfl
    pressOctets := fun _ => rfl
    hif := fun _ => rfl
    flt := fun _ => rfl
    pair := fun _ => rfl
    tsu := fun _ => rfl
    anchor := fun _ => rfl
    fuse := fun _ => rfl
    cave := fun _ => rfl
    boot := fun _ => rfl
    pcr := fun _ => rfl
    cel := fun _ => rfl
    mem := fun _ => ⟨rfl, rfl⟩
    frac := fun _ => rfl
    plans := fun _ => rfl
    specAt := fun _ => rfl
    pressAt := fun _ => rfl
    form := fun h => h }

theorem Keeps.set_dc {m : Nat} {s x : State} {v} (e : m.testBit 1672 = true) (b : Keeps m s x) : Keeps m s { x with dc := v } :=
  b.trans {
    rd := fun f _ _ => State.rd_congr rfl rfl rfl f
    pending := rfl
    rc := fun _ => rfl
    tsuOfs := fun _ => rfl
    freeCtr := fun _ => rfl
    bus := fun _ => rfl
    latch := fun _ => rfl
    nodes := fun _ => rfl
    hoar := fun _ => rfl
    fe := fun _ => rfl
    dc := fun h => by rw [e] at h; cases h
    slices := fun _ => rfl
    sniffers := fun _ => rfl
    mac := fun _ => rfl
    lanes := fun _ => rfl
    src := fun _ => rfl
    qms := fun _ => rfl
    sec := fun _ => rfl
    jdev := fun _ => rfl
    fwd := fun _ => rfl
    camps := fun _ => rfl
    pressOctets := fun _ => rfl
    hif := fun _ => rfl
    flt := fun _ => rfl
    pair := fun _ => rfl
    tsu := fun _ => rfl
    anchor := fun _ => rfl
    fuse := fun _ => rfl
    cave := fun _ => rfl
    boot := fun _ => rfl
    pcr := fun _ => rfl
    cel := fun _ => rfl
    mem := fun _ => ⟨rfl, rfl⟩
    frac := fun _ => rfl
    plans := fun _ => rfl
    specAt := fun _ => rfl
    pressAt := fun _ => rfl
    form := fun h => h }

theorem Keeps.set_slices {m : Nat} {s x : State} {v} (e : m.testBit 1673 = true) (b : Keeps m s x) : Keeps m s { x with slices := v } :=
  b.trans {
    rd := fun f _ _ => State.rd_congr rfl rfl rfl f
    pending := rfl
    rc := fun _ => rfl
    tsuOfs := fun _ => rfl
    freeCtr := fun _ => rfl
    bus := fun _ => rfl
    latch := fun _ => rfl
    nodes := fun _ => rfl
    hoar := fun _ => rfl
    fe := fun _ => rfl
    dc := fun _ => rfl
    slices := fun h => by rw [e] at h; cases h
    sniffers := fun _ => rfl
    mac := fun _ => rfl
    lanes := fun _ => rfl
    src := fun _ => rfl
    qms := fun _ => rfl
    sec := fun _ => rfl
    jdev := fun _ => rfl
    fwd := fun _ => rfl
    camps := fun _ => rfl
    pressOctets := fun _ => rfl
    hif := fun _ => rfl
    flt := fun _ => rfl
    pair := fun _ => rfl
    tsu := fun _ => rfl
    anchor := fun _ => rfl
    fuse := fun _ => rfl
    cave := fun _ => rfl
    boot := fun _ => rfl
    pcr := fun _ => rfl
    cel := fun _ => rfl
    mem := fun _ => ⟨rfl, rfl⟩
    frac := fun _ => rfl
    plans := fun _ => rfl
    specAt := fun _ => rfl
    pressAt := fun _ => rfl
    form := fun h => h }

theorem Keeps.set_sniffers {m : Nat} {s x : State} {v} (e : m.testBit 1674 = true) (b : Keeps m s x) : Keeps m s { x with sniffers := v } :=
  b.trans {
    rd := fun f _ _ => State.rd_congr rfl rfl rfl f
    pending := rfl
    rc := fun _ => rfl
    tsuOfs := fun _ => rfl
    freeCtr := fun _ => rfl
    bus := fun _ => rfl
    latch := fun _ => rfl
    nodes := fun _ => rfl
    hoar := fun _ => rfl
    fe := fun _ => rfl
    dc := fun _ => rfl
    slices := fun _ => rfl
    sniffers := fun h => by rw [e] at h; cases h
    mac := fun _ => rfl
    lanes := fun _ => rfl
    src := fun _ => rfl
    qms := fun _ => rfl
    sec := fun _ => rfl
    jdev := fun _ => rfl
    fwd := fun _ => rfl
    camps := fun _ => rfl
    pressOctets := fun _ => rfl
    hif := fun _ => rfl
    flt := fun _ => rfl
    pair := fun _ => rfl
    tsu := fun _ => rfl
    anchor := fun _ => rfl
    fuse := fun _ => rfl
    cave := fun _ => rfl
    boot := fun _ => rfl
    pcr := fun _ => rfl
    cel := fun _ => rfl
    mem := fun _ => ⟨rfl, rfl⟩
    frac := fun _ => rfl
    plans := fun _ => rfl
    specAt := fun _ => rfl
    pressAt := fun _ => rfl
    form := fun h => h }

theorem Keeps.set_mac {m : Nat} {s x : State} {v} (e : m.testBit 1675 = true) (b : Keeps m s x) : Keeps m s { x with mac := v } :=
  b.trans {
    rd := fun f _ _ => State.rd_congr rfl rfl rfl f
    pending := rfl
    rc := fun _ => rfl
    tsuOfs := fun _ => rfl
    freeCtr := fun _ => rfl
    bus := fun _ => rfl
    latch := fun _ => rfl
    nodes := fun _ => rfl
    hoar := fun _ => rfl
    fe := fun _ => rfl
    dc := fun _ => rfl
    slices := fun _ => rfl
    sniffers := fun _ => rfl
    mac := fun h => by rw [e] at h; cases h
    lanes := fun _ => rfl
    src := fun _ => rfl
    qms := fun _ => rfl
    sec := fun _ => rfl
    jdev := fun _ => rfl
    fwd := fun _ => rfl
    camps := fun _ => rfl
    pressOctets := fun _ => rfl
    hif := fun _ => rfl
    flt := fun _ => rfl
    pair := fun _ => rfl
    tsu := fun _ => rfl
    anchor := fun _ => rfl
    fuse := fun _ => rfl
    cave := fun _ => rfl
    boot := fun _ => rfl
    pcr := fun _ => rfl
    cel := fun _ => rfl
    mem := fun _ => ⟨rfl, rfl⟩
    frac := fun _ => rfl
    plans := fun _ => rfl
    specAt := fun _ => rfl
    pressAt := fun _ => rfl
    form := fun h => h }

theorem Keeps.set_lanes {m : Nat} {s x : State} {v} (e : m.testBit 1676 = true) (b : Keeps m s x) : Keeps m s { x with lanes := v } :=
  b.trans {
    rd := fun f _ _ => State.rd_congr rfl rfl rfl f
    pending := rfl
    rc := fun _ => rfl
    tsuOfs := fun _ => rfl
    freeCtr := fun _ => rfl
    bus := fun _ => rfl
    latch := fun _ => rfl
    nodes := fun _ => rfl
    hoar := fun _ => rfl
    fe := fun _ => rfl
    dc := fun _ => rfl
    slices := fun _ => rfl
    sniffers := fun _ => rfl
    mac := fun _ => rfl
    lanes := fun h => by rw [e] at h; cases h
    src := fun _ => rfl
    qms := fun _ => rfl
    sec := fun _ => rfl
    jdev := fun _ => rfl
    fwd := fun _ => rfl
    camps := fun _ => rfl
    pressOctets := fun _ => rfl
    hif := fun _ => rfl
    flt := fun _ => rfl
    pair := fun _ => rfl
    tsu := fun _ => rfl
    anchor := fun _ => rfl
    fuse := fun _ => rfl
    cave := fun _ => rfl
    boot := fun _ => rfl
    pcr := fun _ => rfl
    cel := fun _ => rfl
    mem := fun _ => ⟨rfl, rfl⟩
    frac := fun _ => rfl
    plans := fun _ => rfl
    specAt := fun _ => rfl
    pressAt := fun _ => rfl
    form := fun h => h }

theorem Keeps.set_src {m : Nat} {s x : State} {v} (e : m.testBit 1677 = true) (b : Keeps m s x) : Keeps m s { x with src := v } :=
  b.trans {
    rd := fun f _ _ => State.rd_congr rfl rfl rfl f
    pending := rfl
    rc := fun _ => rfl
    tsuOfs := fun _ => rfl
    freeCtr := fun _ => rfl
    bus := fun _ => rfl
    latch := fun _ => rfl
    nodes := fun _ => rfl
    hoar := fun _ => rfl
    fe := fun _ => rfl
    dc := fun _ => rfl
    slices := fun _ => rfl
    sniffers := fun _ => rfl
    mac := fun _ => rfl
    lanes := fun _ => rfl
    src := fun h => by rw [e] at h; cases h
    qms := fun _ => rfl
    sec := fun _ => rfl
    jdev := fun _ => rfl
    fwd := fun _ => rfl
    camps := fun _ => rfl
    pressOctets := fun _ => rfl
    hif := fun _ => rfl
    flt := fun _ => rfl
    pair := fun _ => rfl
    tsu := fun _ => rfl
    anchor := fun _ => rfl
    fuse := fun _ => rfl
    cave := fun _ => rfl
    boot := fun _ => rfl
    pcr := fun _ => rfl
    cel := fun _ => rfl
    mem := fun _ => ⟨rfl, rfl⟩
    frac := fun _ => rfl
    plans := fun _ => rfl
    specAt := fun _ => rfl
    pressAt := fun _ => rfl
    form := fun h => h }

theorem Keeps.set_qms {m : Nat} {s x : State} {v} (e : m.testBit 1678 = true) (b : Keeps m s x) : Keeps m s { x with qms := v } :=
  b.trans {
    rd := fun f _ _ => State.rd_congr rfl rfl rfl f
    pending := rfl
    rc := fun _ => rfl
    tsuOfs := fun _ => rfl
    freeCtr := fun _ => rfl
    bus := fun _ => rfl
    latch := fun _ => rfl
    nodes := fun _ => rfl
    hoar := fun _ => rfl
    fe := fun _ => rfl
    dc := fun _ => rfl
    slices := fun _ => rfl
    sniffers := fun _ => rfl
    mac := fun _ => rfl
    lanes := fun _ => rfl
    src := fun _ => rfl
    qms := fun h => by rw [e] at h; cases h
    sec := fun _ => rfl
    jdev := fun _ => rfl
    fwd := fun _ => rfl
    camps := fun _ => rfl
    pressOctets := fun _ => rfl
    hif := fun _ => rfl
    flt := fun _ => rfl
    pair := fun _ => rfl
    tsu := fun _ => rfl
    anchor := fun _ => rfl
    fuse := fun _ => rfl
    cave := fun _ => rfl
    boot := fun _ => rfl
    pcr := fun _ => rfl
    cel := fun _ => rfl
    mem := fun _ => ⟨rfl, rfl⟩
    frac := fun _ => rfl
    plans := fun _ => rfl
    specAt := fun _ => rfl
    pressAt := fun _ => rfl
    form := fun h => h }

theorem Keeps.set_sec {m : Nat} {s x : State} {v} (e : m.testBit 1679 = true) (b : Keeps m s x) : Keeps m s { x with sec := v } :=
  b.trans {
    rd := fun f _ _ => State.rd_congr rfl rfl rfl f
    pending := rfl
    rc := fun _ => rfl
    tsuOfs := fun _ => rfl
    freeCtr := fun _ => rfl
    bus := fun _ => rfl
    latch := fun _ => rfl
    nodes := fun _ => rfl
    hoar := fun _ => rfl
    fe := fun _ => rfl
    dc := fun _ => rfl
    slices := fun _ => rfl
    sniffers := fun _ => rfl
    mac := fun _ => rfl
    lanes := fun _ => rfl
    src := fun _ => rfl
    qms := fun _ => rfl
    sec := fun h => by rw [e] at h; cases h
    jdev := fun _ => rfl
    fwd := fun _ => rfl
    camps := fun _ => rfl
    pressOctets := fun _ => rfl
    hif := fun _ => rfl
    flt := fun _ => rfl
    pair := fun _ => rfl
    tsu := fun _ => rfl
    anchor := fun _ => rfl
    fuse := fun _ => rfl
    cave := fun _ => rfl
    boot := fun _ => rfl
    pcr := fun _ => rfl
    cel := fun _ => rfl
    mem := fun _ => ⟨rfl, rfl⟩
    frac := fun _ => rfl
    plans := fun _ => rfl
    specAt := fun _ => rfl
    pressAt := fun _ => rfl
    form := fun h => h }

theorem Keeps.set_fwd {m : Nat} {s x : State} {v} (e : m.testBit 1681 = true) (b : Keeps m s x) : Keeps m s { x with fwd := v } :=
  b.trans {
    rd := fun f _ _ => State.rd_congr rfl rfl rfl f
    pending := rfl
    rc := fun _ => rfl
    tsuOfs := fun _ => rfl
    freeCtr := fun _ => rfl
    bus := fun _ => rfl
    latch := fun _ => rfl
    nodes := fun _ => rfl
    hoar := fun _ => rfl
    fe := fun _ => rfl
    dc := fun _ => rfl
    slices := fun _ => rfl
    sniffers := fun _ => rfl
    mac := fun _ => rfl
    lanes := fun _ => rfl
    src := fun _ => rfl
    qms := fun _ => rfl
    sec := fun _ => rfl
    jdev := fun _ => rfl
    fwd := fun h => by rw [e] at h; cases h
    camps := fun _ => rfl
    pressOctets := fun _ => rfl
    hif := fun _ => rfl
    flt := fun _ => rfl
    pair := fun _ => rfl
    tsu := fun _ => rfl
    anchor := fun _ => rfl
    fuse := fun _ => rfl
    cave := fun _ => rfl
    boot := fun _ => rfl
    pcr := fun _ => rfl
    cel := fun _ => rfl
    mem := fun _ => ⟨rfl, rfl⟩
    frac := fun _ => rfl
    plans := fun _ => rfl
    specAt := fun _ => rfl
    pressAt := fun _ => rfl
    form := fun h => h }

theorem Keeps.set_camps {m : Nat} {s x : State} {v} (e : m.testBit 1682 = true) (b : Keeps m s x) : Keeps m s { x with camps := v } :=
  b.trans {
    rd := fun f _ _ => State.rd_congr rfl rfl rfl f
    pending := rfl
    rc := fun _ => rfl
    tsuOfs := fun _ => rfl
    freeCtr := fun _ => rfl
    bus := fun _ => rfl
    latch := fun _ => rfl
    nodes := fun _ => rfl
    hoar := fun _ => rfl
    fe := fun _ => rfl
    dc := fun _ => rfl
    slices := fun _ => rfl
    sniffers := fun _ => rfl
    mac := fun _ => rfl
    lanes := fun _ => rfl
    src := fun _ => rfl
    qms := fun _ => rfl
    sec := fun _ => rfl
    jdev := fun _ => rfl
    fwd := fun _ => rfl
    camps := fun h => by rw [e] at h; cases h
    pressOctets := fun _ => rfl
    hif := fun _ => rfl
    flt := fun _ => rfl
    pair := fun _ => rfl
    tsu := fun _ => rfl
    anchor := fun _ => rfl
    fuse := fun _ => rfl
    cave := fun _ => rfl
    boot := fun _ => rfl
    pcr := fun _ => rfl
    cel := fun _ => rfl
    mem := fun _ => ⟨rfl, rfl⟩
    frac := fun _ => rfl
    plans := fun _ => rfl
    specAt := fun _ => rfl
    pressAt := fun _ => rfl
    form := fun h => h }

theorem Keeps.set_pressOctets {m : Nat} {s x : State} {v} (e : m.testBit 1683 = true) (b : Keeps m s x) : Keeps m s { x with pressOctets := v } :=
  b.trans {
    rd := fun f _ _ => State.rd_congr rfl rfl rfl f
    pending := rfl
    rc := fun _ => rfl
    tsuOfs := fun _ => rfl
    freeCtr := fun _ => rfl
    bus := fun _ => rfl
    latch := fun _ => rfl
    nodes := fun _ => rfl
    hoar := fun _ => rfl
    fe := fun _ => rfl
    dc := fun _ => rfl
    slices := fun _ => rfl
    sniffers := fun _ => rfl
    mac := fun _ => rfl
    lanes := fun _ => rfl
    src := fun _ => rfl
    qms := fun _ => rfl
    sec := fun _ => rfl
    jdev := fun _ => rfl
    fwd := fun _ => rfl
    camps := fun _ => rfl
    pressOctets := fun h => by rw [e] at h; cases h
    hif := fun _ => rfl
    flt := fun _ => rfl
    pair := fun _ => rfl
    tsu := fun _ => rfl
    anchor := fun _ => rfl
    fuse := fun _ => rfl
    cave := fun _ => rfl
    boot := fun _ => rfl
    pcr := fun _ => rfl
    cel := fun _ => rfl
    mem := fun _ => ⟨rfl, rfl⟩
    frac := fun _ => rfl
    plans := fun _ => rfl
    specAt := fun _ => rfl
    pressAt := fun _ => rfl
    form := fun h => h }

theorem Keeps.set_hif {m : Nat} {s x : State} {v} (e : m.testBit 1684 = true) (b : Keeps m s x) : Keeps m s { x with hif := v } :=
  b.trans {
    rd := fun f _ _ => State.rd_congr rfl rfl rfl f
    pending := rfl
    rc := fun _ => rfl
    tsuOfs := fun _ => rfl
    freeCtr := fun _ => rfl
    bus := fun _ => rfl
    latch := fun _ => rfl
    nodes := fun _ => rfl
    hoar := fun _ => rfl
    fe := fun _ => rfl
    dc := fun _ => rfl
    slices := fun _ => rfl
    sniffers := fun _ => rfl
    mac := fun _ => rfl
    lanes := fun _ => rfl
    src := fun _ => rfl
    qms := fun _ => rfl
    sec := fun _ => rfl
    jdev := fun _ => rfl
    fwd := fun _ => rfl
    camps := fun _ => rfl
    pressOctets := fun _ => rfl
    hif := fun h => by rw [e] at h; cases h
    flt := fun _ => rfl
    pair := fun _ => rfl
    tsu := fun _ => rfl
    anchor := fun _ => rfl
    fuse := fun _ => rfl
    cave := fun _ => rfl
    boot := fun _ => rfl
    pcr := fun _ => rfl
    cel := fun _ => rfl
    mem := fun _ => ⟨rfl, rfl⟩
    frac := fun _ => rfl
    plans := fun _ => rfl
    specAt := fun _ => rfl
    pressAt := fun _ => rfl
    form := fun h => h }

theorem Keeps.set_flt {m : Nat} {s x : State} {v} (e : m.testBit 1685 = true) (b : Keeps m s x) : Keeps m s { x with flt := v } :=
  b.trans {
    rd := fun f _ _ => State.rd_congr rfl rfl rfl f
    pending := rfl
    rc := fun _ => rfl
    tsuOfs := fun _ => rfl
    freeCtr := fun _ => rfl
    bus := fun _ => rfl
    latch := fun _ => rfl
    nodes := fun _ => rfl
    hoar := fun _ => rfl
    fe := fun _ => rfl
    dc := fun _ => rfl
    slices := fun _ => rfl
    sniffers := fun _ => rfl
    mac := fun _ => rfl
    lanes := fun _ => rfl
    src := fun _ => rfl
    qms := fun _ => rfl
    sec := fun _ => rfl
    jdev := fun _ => rfl
    fwd := fun _ => rfl
    camps := fun _ => rfl
    pressOctets := fun _ => rfl
    hif := fun _ => rfl
    flt := fun h => by rw [e] at h; cases h
    pair := fun _ => rfl
    tsu := fun _ => rfl
    anchor := fun _ => rfl
    fuse := fun _ => rfl
    cave := fun _ => rfl
    boot := fun _ => rfl
    pcr := fun _ => rfl
    cel := fun _ => rfl
    mem := fun _ => ⟨rfl, rfl⟩
    frac := fun _ => rfl
    plans := fun _ => rfl
    specAt := fun _ => rfl
    pressAt := fun _ => rfl
    form := fun h => h }

theorem Keeps.set_pair {m : Nat} {s x : State} {v} (e : m.testBit 1686 = true) (b : Keeps m s x) : Keeps m s { x with pair := v } :=
  b.trans {
    rd := fun f _ _ => State.rd_congr rfl rfl rfl f
    pending := rfl
    rc := fun _ => rfl
    tsuOfs := fun _ => rfl
    freeCtr := fun _ => rfl
    bus := fun _ => rfl
    latch := fun _ => rfl
    nodes := fun _ => rfl
    hoar := fun _ => rfl
    fe := fun _ => rfl
    dc := fun _ => rfl
    slices := fun _ => rfl
    sniffers := fun _ => rfl
    mac := fun _ => rfl
    lanes := fun _ => rfl
    src := fun _ => rfl
    qms := fun _ => rfl
    sec := fun _ => rfl
    jdev := fun _ => rfl
    fwd := fun _ => rfl
    camps := fun _ => rfl
    pressOctets := fun _ => rfl
    hif := fun _ => rfl
    flt := fun _ => rfl
    pair := fun h => by rw [e] at h; cases h
    tsu := fun _ => rfl
    anchor := fun _ => rfl
    fuse := fun _ => rfl
    cave := fun _ => rfl
    boot := fun _ => rfl
    pcr := fun _ => rfl
    cel := fun _ => rfl
    mem := fun _ => ⟨rfl, rfl⟩
    frac := fun _ => rfl
    plans := fun _ => rfl
    specAt := fun _ => rfl
    pressAt := fun _ => rfl
    form := fun h => h }

theorem Keeps.set_tsu {m : Nat} {s x : State} {v} (e : m.testBit 1687 = true) (b : Keeps m s x) : Keeps m s { x with tsu := v } :=
  b.trans {
    rd := fun f _ _ => State.rd_congr rfl rfl rfl f
    pending := rfl
    rc := fun _ => rfl
    tsuOfs := fun _ => rfl
    freeCtr := fun _ => rfl
    bus := fun _ => rfl
    latch := fun _ => rfl
    nodes := fun _ => rfl
    hoar := fun _ => rfl
    fe := fun _ => rfl
    dc := fun _ => rfl
    slices := fun _ => rfl
    sniffers := fun _ => rfl
    mac := fun _ => rfl
    lanes := fun _ => rfl
    src := fun _ => rfl
    qms := fun _ => rfl
    sec := fun _ => rfl
    jdev := fun _ => rfl
    fwd := fun _ => rfl
    camps := fun _ => rfl
    pressOctets := fun _ => rfl
    hif := fun _ => rfl
    flt := fun _ => rfl
    pair := fun _ => rfl
    tsu := fun h => by rw [e] at h; cases h
    anchor := fun _ => rfl
    fuse := fun _ => rfl
    cave := fun _ => rfl
    boot := fun _ => rfl
    pcr := fun _ => rfl
    cel := fun _ => rfl
    mem := fun _ => ⟨rfl, rfl⟩
    frac := fun _ => rfl
    plans := fun _ => rfl
    specAt := fun _ => rfl
    pressAt := fun _ => rfl
    form := fun h => h }

theorem Keeps.set_anchor {m : Nat} {s x : State} {v} (e : m.testBit 1688 = true) (b : Keeps m s x) : Keeps m s { x with anchor := v } :=
  b.trans {
    rd := fun f _ _ => State.rd_congr rfl rfl rfl f
    pending := rfl
    rc := fun _ => rfl
    tsuOfs := fun _ => rfl
    freeCtr := fun _ => rfl
    bus := fun _ => rfl
    latch := fun _ => rfl
    nodes := fun _ => rfl
    hoar := fun _ => rfl
    fe := fun _ => rfl
    dc := fun _ => rfl
    slices := fun _ => rfl
    sniffers := fun _ => rfl
    mac := fun _ => rfl
    lanes := fun _ => rfl
    src := fun _ => rfl
    qms := fun _ => rfl
    sec := fun _ => rfl
    jdev := fun _ => rfl
    fwd := fun _ => rfl
    camps := fun _ => rfl
    pressOctets := fun _ => rfl
    hif := fun _ => rfl
    flt := fun _ => rfl
    pair := fun _ => rfl
    tsu := fun _ => rfl
    anchor := fun h => by rw [e] at h; cases h
    fuse := fun _ => rfl
    cave := fun _ => rfl
    boot := fun _ => rfl
    pcr := fun _ => rfl
    cel := fun _ => rfl
    mem := fun _ => ⟨rfl, rfl⟩
    frac := fun _ => rfl
    plans := fun _ => rfl
    specAt := fun _ => rfl
    pressAt := fun _ => rfl
    form := fun h => h }

theorem Keeps.set_fuse {m : Nat} {s x : State} {v} (e : m.testBit 1689 = true) (b : Keeps m s x) : Keeps m s { x with fuse := v } :=
  b.trans {
    rd := fun f _ _ => State.rd_congr rfl rfl rfl f
    pending := rfl
    rc := fun _ => rfl
    tsuOfs := fun _ => rfl
    freeCtr := fun _ => rfl
    bus := fun _ => rfl
    latch := fun _ => rfl
    nodes := fun _ => rfl
    hoar := fun _ => rfl
    fe := fun _ => rfl
    dc := fun _ => rfl
    slices := fun _ => rfl
    sniffers := fun _ => rfl
    mac := fun _ => rfl
    lanes := fun _ => rfl
    src := fun _ => rfl
    qms := fun _ => rfl
    sec := fun _ => rfl
    jdev := fun _ => rfl
    fwd := fun _ => rfl
    camps := fun _ => rfl
    pressOctets := fun _ => rfl
    hif := fun _ => rfl
    flt := fun _ => rfl
    pair := fun _ => rfl
    tsu := fun _ => rfl
    anchor := fun _ => rfl
    fuse := fun h => by rw [e] at h; cases h
    cave := fun _ => rfl
    boot := fun _ => rfl
    pcr := fun _ => rfl
    cel := fun _ => rfl
    mem := fun _ => ⟨rfl, rfl⟩
    frac := fun _ => rfl
    plans := fun _ => rfl
    specAt := fun _ => rfl
    pressAt := fun _ => rfl
    form := fun h => h }

theorem Keeps.set_boot {m : Nat} {s x : State} {v} (e : m.testBit 1691 = true) (b : Keeps m s x) : Keeps m s { x with boot := v } :=
  b.trans {
    rd := fun f _ _ => State.rd_congr rfl rfl rfl f
    pending := rfl
    rc := fun _ => rfl
    tsuOfs := fun _ => rfl
    freeCtr := fun _ => rfl
    bus := fun _ => rfl
    latch := fun _ => rfl
    nodes := fun _ => rfl
    hoar := fun _ => rfl
    fe := fun _ => rfl
    dc := fun _ => rfl
    slices := fun _ => rfl
    sniffers := fun _ => rfl
    mac := fun _ => rfl
    lanes := fun _ => rfl
    src := fun _ => rfl
    qms := fun _ => rfl
    sec := fun _ => rfl
    jdev := fun _ => rfl
    fwd := fun _ => rfl
    camps := fun _ => rfl
    pressOctets := fun _ => rfl
    hif := fun _ => rfl
    flt := fun _ => rfl
    pair := fun _ => rfl
    tsu := fun _ => rfl
    anchor := fun _ => rfl
    fuse := fun _ => rfl
    cave := fun _ => rfl
    boot := fun h => by rw [e] at h; cases h
    pcr := fun _ => rfl
    cel := fun _ => rfl
    mem := fun _ => ⟨rfl, rfl⟩
    frac := fun _ => rfl
    plans := fun _ => rfl
    specAt := fun _ => rfl
    pressAt := fun _ => rfl
    form := fun h => h }

theorem Keeps.set_cel {m : Nat} {s x : State} {v} (e : m.testBit 1693 = true) (b : Keeps m s x) : Keeps m s { x with cel := v } :=
  b.trans {
    rd := fun f _ _ => State.rd_congr rfl rfl rfl f
    pending := rfl
    rc := fun _ => rfl
    tsuOfs := fun _ => rfl
    freeCtr := fun _ => rfl
    bus := fun _ => rfl
    latch := fun _ => rfl
    nodes := fun _ => rfl
    hoar := fun _ => rfl
    fe := fun _ => rfl
    dc := fun _ => rfl
    slices := fun _ => rfl
    sniffers := fun _ => rfl
    mac := fun _ => rfl
    lanes := fun _ => rfl
    src := fun _ => rfl
    qms := fun _ => rfl
    sec := fun _ => rfl
    jdev := fun _ => rfl
    fwd := fun _ => rfl
    camps := fun _ => rfl
    pressOctets := fun _ => rfl
    hif := fun _ => rfl
    flt := fun _ => rfl
    pair := fun _ => rfl
    tsu := fun _ => rfl
    anchor := fun _ => rfl
    fuse := fun _ => rfl
    cave := fun _ => rfl
    boot := fun _ => rfl
    pcr := fun _ => rfl
    cel := fun h => by rw [e] at h; cases h
    mem := fun _ => ⟨rfl, rfl⟩
    frac := fun _ => rfl
    plans := fun _ => rfl
    specAt := fun _ => rfl
    pressAt := fun _ => rfl
    form := fun h => h }

theorem Keeps.set_frac {m : Nat} {s x : State} {v} (e : m.testBit 1695 = true) (b : Keeps m s x) : Keeps m s { x with frac := v } :=
  b.trans {
    rd := fun f _ _ => State.rd_congr rfl rfl rfl f
    pending := rfl
    rc := fun _ => rfl
    tsuOfs := fun _ => rfl
    freeCtr := fun _ => rfl
    bus := fun _ => rfl
    latch := fun _ => rfl
    nodes := fun _ => rfl
    hoar := fun _ => rfl
    fe := fun _ => rfl
    dc := fun _ => rfl
    slices := fun _ => rfl
    sniffers := fun _ => rfl
    mac := fun _ => rfl
    lanes := fun _ => rfl
    src := fun _ => rfl
    qms := fun _ => rfl
    sec := fun _ => rfl
    jdev := fun _ => rfl
    fwd := fun _ => rfl
    camps := fun _ => rfl
    pressOctets := fun _ => rfl
    hif := fun _ => rfl
    flt := fun _ => rfl
    pair := fun _ => rfl
    tsu := fun _ => rfl
    anchor := fun _ => rfl
    fuse := fun _ => rfl
    cave := fun _ => rfl
    boot := fun _ => rfl
    pcr := fun _ => rfl
    cel := fun _ => rfl
    mem := fun _ => ⟨rfl, rfl⟩
    frac := fun h => by rw [e] at h; cases h
    plans := fun _ => rfl
    specAt := fun _ => rfl
    pressAt := fun _ => rfl
    form := fun h => h }

theorem Keeps.set_plans {m : Nat} {s x : State} {v} (e : m.testBit 1696 = true) (b : Keeps m s x) : Keeps m s { x with plans := v } :=
  b.trans {
    rd := fun f _ _ => State.rd_congr rfl rfl rfl f
    pending := rfl
    rc := fun _ => rfl
    tsuOfs := fun _ => rfl
    freeCtr := fun _ => rfl
    bus := fun _ => rfl
    latch := fun _ => rfl
    nodes := fun _ => rfl
    hoar := fun _ => rfl
    fe := fun _ => rfl
    dc := fun _ => rfl
    slices := fun _ => rfl
    sniffers := fun _ => rfl
    mac := fun _ => rfl
    lanes := fun _ => rfl
    src := fun _ => rfl
    qms := fun _ => rfl
    sec := fun _ => rfl
    jdev := fun _ => rfl
    fwd := fun _ => rfl
    camps := fun _ => rfl
    pressOctets := fun _ => rfl
    hif := fun _ => rfl
    flt := fun _ => rfl
    pair := fun _ => rfl
    tsu := fun _ => rfl
    anchor := fun _ => rfl
    fuse := fun _ => rfl
    cave := fun _ => rfl
    boot := fun _ => rfl
    pcr := fun _ => rfl
    cel := fun _ => rfl
    mem := fun _ => ⟨rfl, rfl⟩
    frac := fun _ => rfl
    plans := fun h => by rw [e] at h; cases h
    specAt := fun _ => rfl
    pressAt := fun _ => rfl
    form := fun h => h }

theorem Keeps.set_specAt {m : Nat} {s x : State} {v} (e : m.testBit 1697 = true) (b : Keeps m s x) : Keeps m s { x with specAt := v } :=
  b.trans {
    rd := fun f _ _ => State.rd_congr rfl rfl rfl f
    pending := rfl
    rc := fun _ => rfl
    tsuOfs := fun _ => rfl
    freeCtr := fun _ => rfl
    bus := fun _ => rfl
    latch := fun _ => rfl
    nodes := fun _ => rfl
    hoar := fun _ => rfl
    fe := fun _ => rfl
    dc := fun _ => rfl
    slices := fun _ => rfl
    sniffers := fun _ => rfl
    mac := fun _ => rfl
    lanes := fun _ => rfl
    src := fun _ => rfl
    qms := fun _ => rfl
    sec := fun _ => rfl
    jdev := fun _ => rfl
    fwd := fun _ => rfl
    camps := fun _ => rfl
    pressOctets := fun _ => rfl
    hif := fun _ => rfl
    flt := fun _ => rfl
    pair := fun _ => rfl
    tsu := fun _ => rfl
    anchor := fun _ => rfl
    fuse := fun _ => rfl
    cave := fun _ => rfl
    boot := fun _ => rfl
    pcr := fun _ => rfl
    cel := fun _ => rfl
    mem := fun _ => ⟨rfl, rfl⟩
    frac := fun _ => rfl
    plans := fun _ => rfl
    specAt := fun h => by rw [e] at h; cases h
    pressAt := fun _ => rfl
    form := fun h => h }

theorem Keeps.set_pressAt {m : Nat} {s x : State} {v} (e : m.testBit 1698 = true) (b : Keeps m s x) : Keeps m s { x with pressAt := v } :=
  b.trans {
    rd := fun f _ _ => State.rd_congr rfl rfl rfl f
    pending := rfl
    rc := fun _ => rfl
    tsuOfs := fun _ => rfl
    freeCtr := fun _ => rfl
    bus := fun _ => rfl
    latch := fun _ => rfl
    nodes := fun _ => rfl
    hoar := fun _ => rfl
    fe := fun _ => rfl
    dc := fun _ => rfl
    slices := fun _ => rfl
    sniffers := fun _ => rfl
    mac := fun _ => rfl
    lanes := fun _ => rfl
    src := fun _ => rfl
    qms := fun _ => rfl
    sec := fun _ => rfl
    jdev := fun _ => rfl
    fwd := fun _ => rfl
    camps := fun _ => rfl
    pressOctets := fun _ => rfl
    hif := fun _ => rfl
    flt := fun _ => rfl
    pair := fun _ => rfl
    tsu := fun _ => rfl
    anchor := fun _ => rfl
    fuse := fun _ => rfl
    cave := fun _ => rfl
    boot := fun _ => rfl
    pcr := fun _ => rfl
    cel := fun _ => rfl
    mem := fun _ => ⟨rfl, rfl⟩
    frac := fun _ => rfl
    plans := fun _ => rfl
    specAt := fun _ => rfl
    pressAt := fun h => by rw [e] at h; cases h
    form := fun h => h }

theorem Keeps.set_nodes_pair {m : Nat} {s x : State} {v0} {v1} (e0 : m.testBit 1669 = true) (e1 : m.testBit 1686 = true) (b : Keeps m s x) : Keeps m s { x with nodes := v0, pair := v1 } :=
  b.trans {
    rd := fun f _ _ => State.rd_congr rfl rfl rfl f
    pending := rfl
    rc := fun _ => rfl
    tsuOfs := fun _ => rfl
    freeCtr := fun _ => rfl
    bus := fun _ => rfl
    latch := fun _ => rfl
    nodes := fun h => by rw [e0] at h; cases h
    hoar := fun _ => rfl
    fe := fun _ => rfl
    dc := fun _ => rfl
    slices := fun _ => rfl
    sniffers := fun _ => rfl
    mac := fun _ => rfl
    lanes := fun _ => rfl
    src := fun _ => rfl
    qms := fun _ => rfl
    sec := fun _ => rfl
    jdev := fun _ => rfl
    fwd := fun _ => rfl
    camps := fun _ => rfl
    pressOctets := fun _ => rfl
    hif := fun _ => rfl
    flt := fun _ => rfl
    pair := fun h => by rw [e1] at h; cases h
    tsu := fun _ => rfl
    anchor := fun _ => rfl
    fuse := fun _ => rfl
    cave := fun _ => rfl
    boot := fun _ => rfl
    pcr := fun _ => rfl
    cel := fun _ => rfl
    mem := fun _ => ⟨rfl, rfl⟩
    frac := fun _ => rfl
    plans := fun _ => rfl
    specAt := fun _ => rfl
    pressAt := fun _ => rfl
    form := fun h => h }

theorem Keeps.set_pressOctets_pressAt {m : Nat} {s x : State} {v0} {v1} (e0 : m.testBit 1683 = true) (e1 : m.testBit 1698 = true) (b : Keeps m s x) : Keeps m s { x with pressOctets := v0, pressAt := v1 } :=
  b.trans {
    rd := fun f _ _ => State.rd_congr rfl rfl rfl f
    pending := rfl
    rc := fun _ => rfl
    tsuOfs := fun _ => rfl
    freeCtr := fun _ => rfl
    bus := fun _ => rfl
    latch := fun _ => rfl
    nodes := fun _ => rfl
    hoar := fun _ => rfl
    fe := fun _ => rfl
    dc := fun _ => rfl
    slices := fun _ => rfl
    sniffers := fun _ => rfl
    mac := fun _ => rfl
    lanes := fun _ => rfl
    src := fun _ => rfl
    qms := fun _ => rfl
    sec := fun _ => rfl
    jdev := fun _ => rfl
    fwd := fun _ => rfl
    camps := fun _ => rfl
    pressOctets := fun h => by rw [e0] at h; cases h
    hif := fun _ => rfl
    flt := fun _ => rfl
    pair := fun _ => rfl
    tsu := fun _ => rfl
    anchor := fun _ => rfl
    fuse := fun _ => rfl
    cave := fun _ => rfl
    boot := fun _ => rfl
    pcr := fun _ => rfl
    cel := fun _ => rfl
    mem := fun _ => ⟨rfl, rfl⟩
    frac := fun _ => rfl
    plans := fun _ => rfl
    specAt := fun _ => rfl
    pressAt := fun h => by rw [e1] at h; cases h
    form := fun h => h }

theorem Keeps.set_qms_fwd {m : Nat} {s x : State} {v0} {v1} (e0 : m.testBit 1678 = true) (e1 : m.testBit 1681 = true) (b : Keeps m s x) : Keeps m s { x with qms := v0, fwd := v1 } :=
  b.trans {
    rd := fun f _ _ => State.rd_congr rfl rfl rfl f
    pending := rfl
    rc := fun _ => rfl
    tsuOfs := fun _ => rfl
    freeCtr := fun _ => rfl
    bus := fun _ => rfl
    latch := fun _ => rfl
    nodes := fun _ => rfl
    hoar := fun _ => rfl
    fe := fun _ => rfl
    dc := fun _ => rfl
    slices := fun _ => rfl
    sniffers := fun _ => rfl
    mac := fun _ => rfl
    lanes := fun _ => rfl
    src := fun _ => rfl
    qms := fun h => by rw [e0] at h; cases h
    sec := fun _ => rfl
    jdev := fun _ => rfl
    fwd := fun h => by rw [e1] at h; cases h
    camps := fun _ => rfl
    pressOctets := fun _ => rfl
    hif := fun _ => rfl
    flt := fun _ => rfl
    pair := fun _ => rfl
    tsu := fun _ => rfl
    anchor := fun _ => rfl
    fuse := fun _ => rfl
    cave := fun _ => rfl
    boot := fun _ => rfl
    pcr := fun _ => rfl
    cel := fun _ => rfl
    mem := fun _ => ⟨rfl, rfl⟩
    frac := fun _ => rfl
    plans := fun _ => rfl
    specAt := fun _ => rfl
    pressAt := fun _ => rfl
    form := fun h => h }

theorem Keeps.set_rc_frac {m : Nat} {s x : State} {v0} {v1} (e0 : m.testBit 1664 = true) (e1 : m.testBit 1695 = true) (b : Keeps m s x) : Keeps m s { x with rc := v0, frac := v1 } :=
  b.trans {
    rd := fun f _ _ => State.rd_congr rfl rfl rfl f
    pending := rfl
    rc := fun h => by rw [e0] at h; cases h
    tsuOfs := fun _ => rfl
    freeCtr := fun _ => rfl
    bus := fun _ => rfl
    latch := fun _ => rfl
    nodes := fun _ => rfl
    hoar := fun _ => rfl
    fe := fun _ => rfl
    dc := fun _ => rfl
    slices := fun _ => rfl
    sniffers := fun _ => rfl
    mac := fun _ => rfl
    lanes := fun _ => rfl
    src := fun _ => rfl
    qms := fun _ => rfl
    sec := fun _ => rfl
    jdev := fun _ => rfl
    fwd := fun _ => rfl
    camps := fun _ => rfl
    pressOctets := fun _ => rfl
    hif := fun _ => rfl
    flt := fun _ => rfl
    pair := fun _ => rfl
    tsu := fun _ => rfl
    anchor := fun _ => rfl
    fuse := fun _ => rfl
    cave := fun _ => rfl
    boot := fun _ => rfl
    pcr := fun _ => rfl
    cel := fun _ => rfl
    mem := fun _ => ⟨rfl, rfl⟩
    frac := fun h => by rw [e1] at h; cases h
    plans := fun _ => rfl
    specAt := fun _ => rfl
    pressAt := fun _ => rfl
    form := fun h => h }

theorem Keeps.set_rc_frac_tsuOfs_tsu {m : Nat} {s x : State} {v0} {v1} {v2} {v3} (e0 : m.testBit 1664 = true) (e1 : m.testBit 1695 = true) (e2 : m.testBit 1665 = true) (e3 : m.testBit 1687 = true) (b : Keeps m s x) : Keeps m s { x with rc := v0, frac := v1, tsuOfs := v2, tsu := v3 } :=
  b.trans {
    rd := fun f _ _ => State.rd_congr rfl rfl rfl f
    pending := rfl
    rc := fun h => by rw [e0] at h; cases h
    tsuOfs := fun h => by rw [e2] at h; cases h
    freeCtr := fun _ => rfl
    bus := fun _ => rfl
    latch := fun _ => rfl
    nodes := fun _ => rfl
    hoar := fun _ => rfl
    fe := fun _ => rfl
    dc := fun _ => rfl
    slices := fun _ => rfl
    sniffers := fun _ => rfl
    mac := fun _ => rfl
    lanes := fun _ => rfl
    src := fun _ => rfl
    qms := fun _ => rfl
    sec := fun _ => rfl
    jdev := fun _ => rfl
    fwd := fun _ => rfl
    camps := fun _ => rfl
    pressOctets := fun _ => rfl
    hif := fun _ => rfl
    flt := fun _ => rfl
    pair := fun _ => rfl
    tsu := fun h => by rw [e3] at h; cases h
    anchor := fun _ => rfl
    fuse := fun _ => rfl
    cave := fun _ => rfl
    boot := fun _ => rfl
    pcr := fun _ => rfl
    cel := fun _ => rfl
    mem := fun _ => ⟨rfl, rfl⟩
    frac := fun h => by rw [e1] at h; cases h
    plans := fun _ => rfl
    specAt := fun _ => rfl
    pressAt := fun _ => rfl
    form := fun h => h }

theorem Keeps.set_src_qms {m : Nat} {s x : State} {v0} {v1} (e0 : m.testBit 1677 = true) (e1 : m.testBit 1678 = true) (b : Keeps m s x) : Keeps m s { x with src := v0, qms := v1 } :=
  b.trans {
    rd := fun f _ _ => State.rd_congr rfl rfl rfl f
    pending := rfl
    rc := fun _ => rfl
    tsuOfs := fun _ => rfl
    freeCtr := fun _ => rfl
    bus := fun _ => rfl
    latch := fun _ => rfl
    nodes := fun _ => rfl
    hoar := fun _ => rfl
    fe := fun _ => rfl
    dc := fun _ => rfl
    slices := fun _ => rfl
    sniffers := fun _ => rfl
    mac := fun _ => rfl
    lanes := fun _ => rfl
    src := fun h => by rw [e0] at h; cases h
    qms := fun h => by rw [e1] at h; cases h
    sec := fun _ => rfl
    jdev := fun _ => rfl
    fwd := fun _ => rfl
    camps := fun _ => rfl
    pressOctets := fun _ => rfl
    hif := fun _ => rfl
    flt := fun _ => rfl
    pair := fun _ => rfl
    tsu := fun _ => rfl
    anchor := fun _ => rfl
    fuse := fun _ => rfl
    cave := fun _ => rfl
    boot := fun _ => rfl
    pcr := fun _ => rfl
    cel := fun _ => rfl
    mem := fun _ => ⟨rfl, rfl⟩
    frac := fun _ => rfl
    plans := fun _ => rfl
    specAt := fun _ => rfl
    pressAt := fun _ => rfl
    form := fun h => h }

theorem Keeps.set_tsuOfs_anchor {m : Nat} {s x : State} {v0} {v1} (e0 : m.testBit 1665 = true) (e1 : m.testBit 1688 = true) (b : Keeps m s x) : Keeps m s { x with tsuOfs := v0, anchor := v1 } :=
  b.trans {
    rd := fun f _ _ => State.rd_congr rfl rfl rfl f
    pending := rfl
    rc := fun _ => rfl
    tsuOfs := fun h => by rw [e0] at h; cases h
    freeCtr := fun _ => rfl
    bus := fun _ => rfl
    latch := fun _ => rfl
    nodes := fun _ => rfl
    hoar := fun _ => rfl
    fe := fun _ => rfl
    dc := fun _ => rfl
    slices := fun _ => rfl
    sniffers := fun _ => rfl
    mac := fun _ => rfl
    lanes := fun _ => rfl
    src := fun _ => rfl
    qms := fun _ => rfl
    sec := fun _ => rfl
    jdev := fun _ => rfl
    fwd := fun _ => rfl
    camps := fun _ => rfl
    pressOctets := fun _ => rfl
    hif := fun _ => rfl
    flt := fun _ => rfl
    pair := fun _ => rfl
    tsu := fun _ => rfl
    anchor := fun h => by rw [e1] at h; cases h
    fuse := fun _ => rfl
    cave := fun _ => rfl
    boot := fun _ => rfl
    pcr := fun _ => rfl
    cel := fun _ => rfl
    mem := fun _ => ⟨rfl, rfl⟩
    frac := fun _ => rfl
    plans := fun _ => rfl
    specAt := fun _ => rfl
    pressAt := fun _ => rfl
    form := fun h => h }

theorem Keeps.set_pcr {m : Nat} {s x : State} {v} (w : v.mem = x.pcr.mem ∧ v.sram = x.pcr.sram) (e : m.testBit 1692 = true) (b : Keeps m s x) :
    Keeps m s { x with pcr := v } :=
  b.trans {
    rd := fun f _ _ => State.rd_congr rfl rfl rfl f
    pending := rfl
    rc := fun _ => rfl
    tsuOfs := fun _ => rfl
    freeCtr := fun _ => rfl
    bus := fun _ => rfl
    latch := fun _ => rfl
    nodes := fun _ => rfl
    hoar := fun _ => rfl
    fe := fun _ => rfl
    dc := fun _ => rfl
    slices := fun _ => rfl
    sniffers := fun _ => rfl
    mac := fun _ => rfl
    lanes := fun _ => rfl
    src := fun _ => rfl
    qms := fun _ => rfl
    sec := fun _ => rfl
    jdev := fun _ => rfl
    fwd := fun _ => rfl
    camps := fun _ => rfl
    pressOctets := fun _ => rfl
    hif := fun _ => rfl
    flt := fun _ => rfl
    pair := fun _ => rfl
    tsu := fun _ => rfl
    anchor := fun _ => rfl
    fuse := fun _ => rfl
    cave := fun _ => rfl
    boot := fun _ => rfl
    pcr := fun h => by rw [e] at h; cases h
    cel := fun _ => rfl
    mem := fun _ => w
    frac := fun _ => rfl
    plans := fun _ => rfl
    specAt := fun _ => rfl
    pressAt := fun _ => rfl
    form := fun h => ⟨w.1 ▸ h.1, w.2 ▸ h.2.1, h.2.2⟩ }

theorem Keeps.set_mem {m : Nat} {s x : State} {v} (w : x.pcr.mem.wf = true → x.pcr.sram.wf = true → v.mem.wf = true ∧ v.sram.wf = true) (e : m.testBit 1692 = true) (e2 : m.testBit 1694 = true) (b : Keeps m s x) :
    Keeps m s { x with pcr := v } :=
  b.trans {
    rd := fun f _ _ => State.rd_congr rfl rfl rfl f
    pending := rfl
    rc := fun _ => rfl
    tsuOfs := fun _ => rfl
    freeCtr := fun _ => rfl
    bus := fun _ => rfl
    latch := fun _ => rfl
    nodes := fun _ => rfl
    hoar := fun _ => rfl
    fe := fun _ => rfl
    dc := fun _ => rfl
    slices := fun _ => rfl
    sniffers := fun _ => rfl
    mac := fun _ => rfl
    lanes := fun _ => rfl
    src := fun _ => rfl
    qms := fun _ => rfl
    sec := fun _ => rfl
    jdev := fun _ => rfl
    fwd := fun _ => rfl
    camps := fun _ => rfl
    pressOctets := fun _ => rfl
    hif := fun _ => rfl
    flt := fun _ => rfl
    pair := fun _ => rfl
    tsu := fun _ => rfl
    anchor := fun _ => rfl
    fuse := fun _ => rfl
    cave := fun _ => rfl
    boot := fun _ => rfl
    pcr := fun h => by rw [e] at h; cases h
    cel := fun _ => rfl
    mem := fun h => by rw [e2] at h; cases h
    frac := fun _ => rfl
    plans := fun _ => rfl
    specAt := fun _ => rfl
    pressAt := fun _ => rfl
    form := fun h => ⟨(w h.1 h.2.1).1, (w h.1 h.2.1).2, h.2.2⟩ }

theorem Keeps.set_jdev {m : Nat} {s x : State} {v} (w : x.jdev.mem.wf = true → v.mem.wf = true) (e : m.testBit 1680 = true) (b : Keeps m s x) :
    Keeps m s { x with jdev := v } :=
  b.trans {
    rd := fun f _ _ => State.rd_congr rfl rfl rfl f
    pending := rfl
    rc := fun _ => rfl
    tsuOfs := fun _ => rfl
    freeCtr := fun _ => rfl
    bus := fun _ => rfl
    latch := fun _ => rfl
    nodes := fun _ => rfl
    hoar := fun _ => rfl
    fe := fun _ => rfl
    dc := fun _ => rfl
    slices := fun _ => rfl
    sniffers := fun _ => rfl
    mac := fun _ => rfl
    lanes := fun _ => rfl
    src := fun _ => rfl
    qms := fun _ => rfl
    sec := fun _ => rfl
    jdev := fun h => by rw [e] at h; cases h
    fwd := fun _ => rfl
    camps := fun _ => rfl
    pressOctets := fun _ => rfl
    hif := fun _ => rfl
    flt := fun _ => rfl
    pair := fun _ => rfl
    tsu := fun _ => rfl
    anchor := fun _ => rfl
    fuse := fun _ => rfl
    cave := fun _ => rfl
    boot := fun _ => rfl
    pcr := fun _ => rfl
    cel := fun _ => rfl
    mem := fun _ => ⟨rfl, rfl⟩
    frac := fun _ => rfl
    plans := fun _ => rfl
    specAt := fun _ => rfl
    pressAt := fun _ => rfl
    form := fun h => ⟨h.1, h.2.1, w h.2.2.1, h.2.2.2⟩ }

theorem Keeps.set_cave {m : Nat} {s x : State} {v} (w : x.cave.sram.wf = true → v.sram.wf = true) (e : m.testBit 1690 = true) (b : Keeps m s x) :
    Keeps m s { x with cave := v } :=
  b.trans {
    rd := fun f _ _ => State.rd_congr rfl rfl rfl f
    pending := rfl
    rc := fun _ => rfl
    tsuOfs := fun _ => rfl
    freeCtr := fun _ => rfl
    bus := fun _ => rfl
    latch := fun _ => rfl
    nodes := fun _ => rfl
    hoar := fun _ => rfl
    fe := fun _ => rfl
    dc := fun _ => rfl
    slices := fun _ => rfl
    sniffers := fun _ => rfl
    mac := fun _ => rfl
    lanes := fun _ => rfl
    src := fun _ => rfl
    qms := fun _ => rfl
    sec := fun _ => rfl
    jdev := fun _ => rfl
    fwd := fun _ => rfl
    camps := fun _ => rfl
    pressOctets := fun _ => rfl
    hif := fun _ => rfl
    flt := fun _ => rfl
    pair := fun _ => rfl
    tsu := fun _ => rfl
    anchor := fun _ => rfl
    fuse := fun _ => rfl
    cave := fun h => by rw [e] at h; cases h
    boot := fun _ => rfl
    pcr := fun _ => rfl
    cel := fun _ => rfl
    mem := fun _ => ⟨rfl, rfl⟩
    frac := fun _ => rfl
    plans := fun _ => rfl
    specAt := fun _ => rfl
    pressAt := fun _ => rfl
    form := fun h => ⟨h.1, h.2.1, h.2.2.1, w h.2.2.2⟩ }

theorem all_bit {m i : Nat} (hm : 0xffffffffffffffffffffffffffffffffffffffffffffffffffffffffffffffffffffffffffffffffffffffffffffffffffffffffffffffffffffffffffffffffffffffffffffffffffffffffffffffffffffffffffffffffffffffffffffffffffffffffffffffffffffffffffffffffffffffffffffffffffffffffffffffffffffffffffffffffffffffffffffffffffffffffffffffffffffffffffffffffffffffffffffffffffffffffffffffffffffffffffffffffffffffffffffffffffffffffffffffffffffffffffffffff ||| m = m) (h : i < 1664) : m.testBit i = true := by
  refine mask_true ?_ hm
  have e : (0xffffffffffffffffffffffffffffffffffffffffffffffffffffffffffffffffffffffffffffffffffffffffffffffffffffffffffffffffffffffffffffffffffffffffffffffffffffffffffffffffffffffffffffffffffffffffffffffffffffffffffffffffffffffffffffffffffffffffffffffffffffffffffffffffffffffffffffffffffffffffffffffffffffffffffffffffffffffffffffffffffffffffffffffffffffffffffffffffffffffffffffffffffffffffffffffffffffffffffffffffffffffffffffffff : Nat) = 2 ^ 1664 - 1 := by decide +kernel
  rw [e, Nat.testBit_two_pow_sub_one]
  simpa using h
theorem Keeps.wrAny {m : Nat} {s x : State} (f : Fld) (v : Nat) (hm : 0xffffffffffffffffffffffffffffffffffffffffffffffffffffffffffffffffffffffffffffffffffffffffffffffffffffffffffffffffffffffffffffffffffffffffffffffffffffffffffffffffffffffffffffffffffffffffffffffffffffffffffffffffffffffffffffffffffffffffffffffffffffffffffffffffffffffffffffffffffffffffffffffffffffffffffffffffffffffffffffffffffffffffffffffffffffffffffffffffffffffffffffffffffffffffffffffffffffffffffffffffffffffffffffffff ||| m = m) (b : Keeps m s x) : Keeps m s (x.wr f v) :=
  b.trans {
    rd := fun g k h => by rw [all_bit hm k] at h; cases h
    pending := by simp
    rc := by simp
    tsuOfs := by simp
    freeCtr := by simp
    bus := by simp
    latch := by simp
    nodes := by simp
    hoar := by simp
    fe := by simp
    dc := by simp
    slices := by simp
    sniffers := by simp
    mac := by simp
    lanes := by simp
    src := by simp
    qms := by simp
    sec := by simp
    jdev := by simp
    fwd := by simp
    camps := by simp
    pressOctets := by simp
    hif := by simp
    flt := by simp
    pair := by simp
    tsu := by simp
    anchor := by simp
    fuse := by simp
    cave := by simp
    boot := by simp
    pcr := by simp
    cel := by simp
    mem := by simp
    frac := by simp
    plans := by simp
    specAt := by simp
    pressAt := by simp
    form := fun h => by simpa [State.memOk] using h }

theorem Keeps.setNode {m : Nat} {s x : State} (k : Nat) (n : Node) (e : m.testBit 1669 = true) (e2 : m.testBit 1686 = true) (b : Keeps m s x) :
    Keeps m s (x.setNode k n) := Keeps.set_nodes_pair e e2 b
theorem Keeps.putNode {m : Nat} {s x : State} (k : Nat) (f : Node → Node) (e : m.testBit 1669 = true) (e2 : m.testBit 1686 = true) (b : Keeps m s x) :
    Keeps m s (x.putNode k f) := Keeps.set_nodes_pair e e2 b
theorem Keeps.modNode {m : Nat} {s x : State} (k : Nat) (f : Node → Node) (e : m.testBit 1669 = true) (e2 : m.testBit 1686 = true) (b : Keeps m s x) :
    Keeps m s (x.modNode k f) := by
  unfold State.modNode
  split
  · exact b
  · exact Keeps.putNode _ _ e e2 b
theorem Keeps.modFe {m : Nat} {s x : State} (k : Nat) (f : Fe → Fe) (e : m.testBit 1671 = true) (b : Keeps m s x) : Keeps m s (x.modFe k f) :=
  Keeps.set_fe e b
theorem Keeps.answer {m : Nat} {s x : State} (q v : Nat) (e : m.testBit 1667 = true) (b : Keeps m s x) : Keeps m s (x.answer q v) :=
  Keeps.set_bus e b
theorem Keeps.took {m : Nat} {s x : State} (e : m.testBit 1666 = true) (b : Keeps m s x) : Keeps m s x.took := Keeps.set_freeCtr e b
theorem Keeps.wrFree {m : Nat} {s x : State} (f : Fld) {i j w r : Nat} {h : Home} (d : f = ⟨i, j, w, r, h⟩) (e : m.testBit i = true) (e2 : m.testBit 1666 = true) (b : Keeps m s x) :
    Keeps m s (x.wrFree f) := Keeps.took e2 (Keeps.wr f _ d e b)
theorem Keeps.at {m : Nat} {s x : State} (t : Nat) (e : m.testBit 1664 = true) (e2 : m.testBit 1695 = true) (b : Keeps m s x) : Keeps m s (x.at t) := by
  unfold State.at
  split
  · exact Keeps.set_rc_frac e e2 b
  · exact b
theorem Keeps.each {m : Nat} {s x : State} {α : Type} (l : List α) (f : α → State → State) (h : ∀ a y, Keeps m s y → Keeps m s (f a y))
    (b : Keeps m s x) : Keeps m s (x.each l f) := by
  induction l generalizing x with
  | nil => exact b
  | cons a l ih => exact ih (h a x b)
theorem Keeps.when {m : Nat} {s x : State} (c : Bool) (f : State → State) (h : ∀ y, Keeps m s y → Keeps m s (f y))
    (b : Keeps m s x) : Keeps m s (x.when c f) := by
  cases c
  · exact b
  · exact h x b
theorem Keeps.snd {m : Nat} {α : Type} {s x : State} {c : α} {p : α × State} (h : Keeps m s p.2) (e : p = (c, x)) : Keeps m s x := by
  rw [e] at h
  exact h
theorem Keeps.ite {m : Nat} {s x y : State} {c : Prop} [Decidable c] (a : Keeps m s x) (b : Keeps m s y) : Keeps m s (if c then x else y) := by
  split
  · exact a
  · exact b
theorem Keeps.elim {m : Nat} {s : State} {α : Type} (o : Option α) {x : State} {f : α → State} (a : Keeps m s x) (h : ∀ v, Keeps m s (f v)) :
    Keeps m s (o.elim x f) := by
  cases o
  · exact a
  · exact h _
theorem Keeps.elim2 {m : Nat} {s : State} {α β : Type} (o : Option α) {x : β × State} {f : α → β × State} (a : Keeps m s x.2) (h : ∀ v, Keeps m s (f v).2) :
    Keeps m s (o.elim x f).2 := by
  cases o
  · exact a
  · exact h _
/-- The same of a command's outcome. -/
structure KeepsR (m : Nat) (s : State) (r : Result) : Prop where
  only : ∀ u, r = .next u → Keeps m s u
theorem KeepsR.next {m : Nat} {s x : State} (h : Keeps m s x) : KeepsR m s (.next x) where
  only u e := by
    cases e
    exact h
theorem KeepsR.ite {m : Nat} {s : State} {x y : Result} {c : Prop} [Decidable c] (a : KeepsR m s x) (b : KeepsR m s y) :
    KeepsR m s (if c then x else y) := by
  split
  · exact a
  · exact b

theorem Keeps.whey {m : Nat} {s x : State} (c : Nat) (e : m.testBit 685 = true) (e2 : m.testBit 657 = true)
    (b : Keeps m s x) : Keeps m s (x.whey c) := Keeps.inc _ rfl e2 (Keeps.inc _ rfl e b)

theorem Keeps.wheyN {m : Nat} {s x : State} (c n : Nat) (e : m.testBit 685 = true) (e2 : m.testBit 657 = true)
    (b : Keeps m s x) : Keeps m s (x.wheyN c n) := Keeps.add _ _ rfl e2 (Keeps.add _ _ rfl e b)

/-! What the policy cores, the Cave and the journal device hold -/

theorem modPcr_keeps {mk : Nat} {sIn : State} (f : Pcr → Pcr) (s : State) (hMk : mk.testBit 1692 = true)
    (hf : ∀ p, (f p).mem = p.mem ∧ (f p).sram = p.sram) (hIn : Keeps mk sIn s) : Keeps mk sIn (modPcr f s) := Keeps.set_pcr (hf _) hMk hIn
theorem modPcr_any {mk : Nat} {sIn : State} (f : Pcr → Pcr) (s : State) (hMk : mk.testBit 1692 = true) (hMk2 : mk.testBit 1694 = true)
    (hf : ∀ p, Memory.wf p.mem = true → Memory.wf p.sram = true → Memory.wf (f p).mem = true ∧ Memory.wf (f p).sram = true) (hIn : Keeps mk sIn s) :
    Keeps mk sIn (modPcr f s) := Keeps.set_mem (hf _) hMk hMk2 hIn
theorem modCave_keeps {mk : Nat} {sIn : State} (f : Cave → Cave) (s : State) (hMk : mk.testBit 1690 = true)
    (hf : ∀ c, Memory.wf c.sram = true → Memory.wf (f c).sram = true) (hIn : Keeps mk sIn s) : Keeps mk sIn (modCave f s) :=
  Keeps.set_cave (hf _) hMk hIn
theorem modJnl_keeps {mk : Nat} {sIn : State} (f : Memory → Memory) (s : State) (hMk : mk.testBit 1680 = true)
    (hf : ∀ m, Memory.wf m = true → Memory.wf (f m) = true) (hIn : Keeps mk sIn s) : Keeps mk sIn (modJnl f s) := Keeps.set_jdev (hf _) hMk hIn

/-! The octets of the journal device stay in their canonical form -/

theorem Memory.filter_wf {m : Memory} (f : Nat × BitVec 8 → Bool) (h : m.wf = true) : Memory.wf (m.filter f) = true := by
  unfold Memory.wf Store.wf at *
  rw [Bool.and_eq_true] at *
  refine ⟨Store.filter_sorted f h.1, ?_⟩
  unfold Store.lean at *
  rw [List.all_eq_true] at *
  exact fun p q => h.2 p (List.mem_of_mem_filter q)
theorem jnlPut_wf {m : Memory} (a : Nat) (l : List Nat) (h : m.wf = true) : (jnlPut a l m).wf = true := Memory.writes_wf _ h
theorem jnlPutDown_wf {m : Memory} (a : Nat) (l : List Nat) (h : m.wf = true) : (jnlPutDown a l m).wf = true := Memory.writes_wf _ h
theorem jnlClear_wf {m : Memory} (a b : Nat) (h : m.wf = true) : (jnlClear a b m).wf = true := Memory.filter_wf _ h
theorem hdrPut_wf {m : Memory} (c : Bool) (d : JnlHeader) (h : m.wf = true) : (hdrPut c d m).wf = true := jnlPut_wf _ _ (jnlClear_wf _ _ h)
theorem entryPut_wf {m : Memory} (a : Nat) (e : JnlEntry) (h : m.wf = true) : (entryPut a e m).wf = true := jnlPut_wf _ _ (jnlPutDown_wf _ _ h)

end Sys2Proof.Machine
end

