-- ==== Sys2Proof/Laws/KeepsRings.lean ====
section
/-!
SUPPORT. What each operation and each meaning changes: the shared operations, the rings, the faults. The mask of each law names the register fields and the parts of the
state, as `Only` reads it.
-/

set_option simprocs false
set_option linter.all false

namespace Sys2Proof.Machine

theorem tsOkView_keeps {mk : Nat} {sIn : State} (s : State) (hMk : 0x800000000000000000000000000000000000000000000000000000000000000000000000000000000000000000000000000000000000000000000000000000000000000000000000000000000000000000000000000000000000000000000000000000000000000000000000000 ||| mk = mk) (hIn : Keeps mk sIn s) : Keeps mk sIn (tsOkView s) := by
  refine Keeps.step hMk ?_ hIn
  unfold tsOkView
  try dsimp only
  repeat' first
    | with_reducible refine Keeps.ite ?_ ?_
    | with_reducible exact Keeps.refl
    | with_reducible assumption
    | ((with_reducible apply Keeps.put); (case d => rfl); (case e => rfl))
    | (with_reducible refine Keeps.each _ _ ?_ ?_)
    | intro _
    | split
    | dsimp only
    | (refine Keeps.snd ?_ (by with_reducible assumption))

theorem polPut_keeps {mk : Nat} {sIn : State} (a : Nat) (v : Nat) (s : State) (hMk : 0x5000000000000000000000000000000000000000000000000000000000000000000000000000000000000000000000000000000000000000000000000000000000000000000000000000000000000000000000000000000000000000000000000000000000000000000000000000000000000000000000000000000000000000000000000000000000000000000000000000000000000000000000000000000000000000000000000000000000000000000000000000000000000000000000000000000000000000000000000000000000000000 ||| mk = mk) (hIn : Keeps mk sIn s) : Keeps mk sIn (polPut a v s) := by
  refine Keeps.step hMk ?_ hIn
  unfold polPut
  try dsimp only
  repeat' first
    | with_reducible refine Keeps.ite ?_ ?_
    | with_reducible exact Keeps.refl
    | with_reducible assumption
    | ((with_reducible apply modPcr_any); (case hf => exact fun p a b => ⟨Memory.write_wf _ _ a, b⟩); (case hMk => rfl); (case hMk2 => rfl))
    | intro _
    | split
    | dsimp only
    | (refine Keeps.snd ?_ (by with_reducible assumption))

theorem polWords_keeps {mk : Nat} {sIn : State} (a : Nat) (l : List Nat) (s : State) (hMk : 0x5000000000000000000000000000000000000000000000000000000000000000000000000000000000000000000000000000000000000000000000000000000000000000000000000000000000000000000000000000000000000000000000000000000000000000000000000000000000000000000000000000000000000000000000000000000000000000000000000000000000000000000000000000000000000000000000000000000000000000000000000000000000000000000000000000000000000000000000000000000000000000 ||| mk = mk) (hIn : Keeps mk sIn s) : Keeps mk sIn (polWords a l s) := by
  refine Keeps.step hMk ?_ hIn
  unfold polWords
  try dsimp only
  repeat' first
    | with_reducible refine Keeps.ite ?_ ?_
    | with_reducible exact Keeps.refl
    | with_reducible assumption
    | ((with_reducible apply modPcr_any); (case hf => exact fun p a b => ⟨putWords_wf _ _ a, b⟩); (case hMk => rfl); (case hMk2 => rfl))
    | intro _
    | split
    | dsimp only
    | (refine Keeps.snd ?_ (by with_reducible assumption))

theorem rekeyPut_keeps {mk : Nat} {sIn : State} (n : Nat) (b : Bool) (s : State) (hMk : 0x5000000000000000000000000000000000000000000000000000000000000000000000000000000000000000000000000000000000000000000000000000000000000000000000000000000000000000000000000000000000000000000000000000000000000000000000000000000000000000000000000000000000000000000000000000000000000000000000000000000000000000000000000000000000000000000000000000000000000000000000000000000000000000000000000000000000000000000000000000000000000000 ||| mk = mk) (hIn : Keeps mk sIn s) : Keeps mk sIn (rekeyPut n b s) := by
  refine Keeps.step hMk ?_ hIn
  unfold rekeyPut
  try dsimp only
  repeat' first
    | with_reducible refine Keeps.ite ?_ ?_
    | with_reducible exact Keeps.refl
    | with_reducible assumption
    | ((with_reducible apply polPut_keeps); (case hMk => rfl))
    | intro _
    | split
    | dsimp only
    | (refine Keeps.snd ?_ (by with_reducible assumption))

theorem msixSend_keeps {mk : Nat} {sIn : State} (v : Nat) (s : State) (hMk : 0x10000000000000000000000000000000000000000000000000000000000000000000000000000000000000000000000000000000000000000000000000000000000000000000000000000000000000000000000000000100000000000000000000000000000000000000000000000000000000000000000000000000000000000000000000000000000000000000000000000000000000000000000000000000000000000000000000000000000000000000000000000000000000000000000000000000000000000000000000000000000000 ||| mk = mk) (hIn : Keeps mk sIn s) : Keeps mk sIn (msixSend v s) := by
  refine Keeps.step hMk ?_ hIn
  unfold msixSend
  try dsimp only
  repeat' first
    | with_reducible refine Keeps.ite ?_ ?_
    | with_reducible exact Keeps.refl
    | with_reducible assumption
    | ((with_reducible apply Keeps.inc); (case d => rfl); (case e => rfl))
    | intro _
    | split
    | dsimp only
    | (refine Keeps.snd ?_ (by with_reducible assumption))
    | ((with_reducible apply Keeps.set_hif); (case e => rfl))

theorem ringSignal_keeps {mk : Nat} {sIn : State} (r : Nat) (s : State) (hMk : 0x10000000000000000000000000000000000000000000000000000000000000000000000000000000000000000000000000002000000000000000000000000000000000000000000000000000000000000000000024000100000000000000000000000000000000000000000000000000000000000000000000000000000000000000000000000000000000000000000000000000000000000000000000000000000000000000000000000000000000000000000000000000000000000000000000000000000000000000000000000000000000 ||| mk = mk) (hIn : Keeps mk sIn s) : Keeps mk sIn (ringSignal r s) := by
  refine Keeps.step hMk ?_ hIn
  unfold ringSignal
  try dsimp only
  repeat' first
    | with_reducible refine Keeps.ite ?_ ?_
    | with_reducible exact Keeps.refl
    | with_reducible assumption
    | ((with_reducible apply Keeps.wr); (case d => rfl); (case e => rfl))
    | ((with_reducible apply msixSend_keeps); (case hMk => rfl))
    | intro _
    | split
    | dsimp only
    | (refine Keeps.snd ?_ (by with_reducible assumption))
    | ((with_reducible apply Keeps.set_hif); (case e => rfl))

theorem ringPend_keeps {mk : Nat} {sIn : State} (r : Nat) (s : State) (hMk : 0x10000000000000000000000000000000000000000000000000000000000000000000000000000000000000000000000000002000000000000000000000000000000000000000000000000000000000000000000024000100000000000000000000000000000000000000000000000000000000000000000000000000000000000000000000000000000000000000000000000000000000000000000000000000000000000000000000000000000000000000000000000000000000000000000000000000000000000000000000000000000000 ||| mk = mk) (hIn : Keeps mk sIn s) : Keeps mk sIn (ringPend r s) := by
  refine Keeps.step hMk ?_ hIn
  unfold ringPend
  try dsimp only
  repeat' first
    | with_reducible refine Keeps.ite ?_ ?_
    | with_reducible exact Keeps.refl
    | with_reducible assumption
    | ((with_reducible apply Keeps.wr); (case d => rfl); (case e => rfl))
    | ((with_reducible apply ringSignal_keeps); (case hMk => rfl))
    | intro _
    | split
    | dsimp only
    | (refine Keeps.snd ?_ (by with_reducible assumption))
    | ((with_reducible apply Keeps.set_hif); (case e => rfl))

theorem runView_keeps {mk : Nat} {sIn : State} (r : Nat) (s : State) (hMk : 0x2000000000000000000000000000000000000000000000000000000000000000000000000000000000000000000000000000000000000000000000000000000000000000000000000000000000000000000000000000000000000000000000000000000000000000000000000000000000000000000000000000000000000 ||| mk = mk) (hIn : Keeps mk sIn s) : Keeps mk sIn (runView r s) := by
  refine Keeps.step hMk ?_ hIn
  unfold runView
  try dsimp only
  repeat' first
    | with_reducible refine Keeps.ite ?_ ?_
    | with_reducible exact Keeps.refl
    | with_reducible assumption
    | ((with_reducible apply Keeps.put); (case d => rfl); (case e => rfl))
    | intro _
    | split
    | dsimp only
    | (refine Keeps.snd ?_ (by with_reducible assumption))

theorem ringPut_keeps {mk : Nat} {sIn : State} (r : Nat) (a : Nat) (l : List Nat) (s : State) (hMk : 0x5000000000000000000000000000000000000000000000000000000000000000000000000000000000000000000000000000000000000000000000000000000000000000000000000000000000000000000000000000000000000000000000000000000000000000000000000000000000000000000000000000000000000000000000000000000000000000000000000000000000000000000000000000000000000000000000000000000000000000000000000000000000000000000000000000000000000000000000000000000000000000 ||| mk = mk) (hIn : Keeps mk sIn s) : Keeps mk sIn (ringPut r a l s) := by
  refine Keeps.step hMk ?_ hIn
  unfold ringPut
  try dsimp only
  repeat' first
    | with_reducible refine Keeps.ite ?_ ?_
    | with_reducible exact Keeps.refl
    | with_reducible assumption
    | ((with_reducible apply polWords_keeps); (case hMk => rfl))
    | intro _
    | split
    | dsimp only
    | (refine Keeps.snd ?_ (by with_reducible assumption))

theorem slotWrite_keeps {mk : Nat} {sIn : State} (r : Nat) (e : Nat → Slot) (s : State) (hMk : 0x5010000000000000000000000000000000000000000000000000000000000000000000000000000000000000000000000000002000000000000000000000000000000000000000000000000000000000000000000066000100000000000000000000000000000000000000000000000000000000000000000000000000000000000000000000000000000000000000000000000000000000000000000000000000000000000000000000000000000000000000000000000000000000000000000000000000000000000000000000000000000000 ||| mk = mk) (hIn : Keeps mk sIn s) : Keeps mk sIn (slotWrite r e s) := by
  refine Keeps.step hMk ?_ hIn
  unfold slotWrite
  try dsimp only
  repeat' first
    | with_reducible refine Keeps.ite ?_ ?_
    | with_reducible exact Keeps.refl
    | with_reducible assumption
    | ((with_reducible apply Keeps.inc); (case d => rfl); (case e => rfl))
    | ((with_reducible apply ringPend_keeps); (case hMk => rfl))
    | ((with_reducible apply ringPut_keeps); (case hMk => rfl))
    | ((with_reducible apply runView_keeps); (case hMk => rfl))
    | intro _
    | split
    | dsimp only
    | (refine Keeps.snd ?_ (by with_reducible assumption))
    | ((with_reducible apply Keeps.set_hif); (case e => rfl))

theorem ringTake_keeps {mk : Nat} {sIn : State} (r : Nat) (s : State) (hMk : 0x800000000000000000000000000000000000000000000000000000000000000000000000000000000000000000000000000000000000000000000000000000000000000000000000000000000000000000000000000000000000000000000000000000000000000000000000000000000000000000000000000000000000 ||| mk = mk) (hIn : Keeps mk sIn s) : Keeps mk sIn (ringTake r s) := by
  refine Keeps.step hMk ?_ hIn
  unfold ringTake
  try dsimp only
  repeat' first
    | with_reducible refine Keeps.ite ?_ ?_
    | with_reducible exact Keeps.refl
    | with_reducible assumption
    | ((with_reducible apply Keeps.wr); (case d => rfl); (case e => rfl))
    | intro _
    | split
    | dsimp only
    | (refine Keeps.snd ?_ (by with_reducible assumption))

theorem eventWrite_keeps {mk : Nat} {sIn : State} (e : Nat) (v : EventEntry) (s : State) (hMk : 0x5010000000000000000000000000000000000000000000000000000000000000000000000000000000000000000000000000002000000000000000000000000000000000000000000000000000000000000000000067000180000000000000000000000000000000000000000000000000000000000000000000000000000000000000000000000000000000000000000000000000000000000000000000000000000000000000000000000000000000000000000000000000000000000000000000000000000000000000000000000000000000 ||| mk = mk) (hIn : Keeps mk sIn s) : Keeps mk sIn (eventWrite e v s) := by
  refine Keeps.step hMk ?_ hIn
  unfold eventWrite
  try dsimp only
  repeat' first
    | with_reducible refine Keeps.ite ?_ ?_
    | with_reducible exact Keeps.refl
    | with_reducible assumption
    | ((with_reducible apply Keeps.wr); (case d => rfl); (case e => rfl))
    | ((with_reducible apply Keeps.inc); (case d => rfl); (case e => rfl))
    | ((with_reducible apply slotWrite_keeps); (case hMk => rfl))
    | intro _
    | split
    | dsimp only
    | (refine Keeps.snd ?_ (by with_reducible assumption))

theorem setHeld_keeps {mk : Nat} {sIn : State} (e : Nat) (l : List EventEntry) (s : State) (hMk : 0x10000000000000000000000000000000000000000000000000000000000000000000000000000000000000000000000000000000000000000000000000000000000000000000000000000000000000000000001800000000000000000000000000000000000000000000000000000000000000000000000000000000000000000000000000000000000000000000000000000000000000000000000000000000000000000000000000000000000000000000000000000000000000000000000000000000000000000000000000000000000000 ||| mk = mk) (hIn : Keeps mk sIn s) : Keeps mk sIn (setHeld e l s) := by
  refine Keeps.step hMk ?_ hIn
  unfold setHeld
  try dsimp only
  repeat' first
    | with_reducible refine Keeps.ite ?_ ?_
    | with_reducible exact Keeps.refl
    | with_reducible assumption
    | ((with_reducible apply Keeps.wr); (case d => rfl); (case e => rfl))
    | ((with_reducible apply Keeps.peak); (case d => rfl); (case e => rfl))
    | intro _
    | split
    | dsimp only
    | (refine Keeps.snd ?_ (by with_reducible assumption))
    | ((with_reducible apply Keeps.set_hif); (case e => rfl))

theorem eventPost_keeps {mk : Nat} {sIn : State} (v : EventEntry) (s : State) (hMk : 0x5010000000000000000000000000000000000000000000000000000000000000000000000000000000000000000000000000002000000000000000000000000000000000000000000000000000000000000000001867000180800000000800000000000000000000000000000000000000000000000000000000000000000000000000000000000000000000000000000000000000000000000000000000000000000000000000000000000000000000000000000000000000000000000000000000000000000000000000000000000000000000 ||| mk = mk) (hIn : Keeps mk sIn s) : Keeps mk sIn (eventPost v s) := by
  refine Keeps.step hMk ?_ hIn
  unfold eventPost
  try dsimp only
  repeat' first
    | with_reducible refine Keeps.ite ?_ ?_
    | with_reducible exact Keeps.refl
    | with_reducible assumption
    | ((with_reducible apply Keeps.put); (case d => rfl); (case e => rfl))
    | ((with_reducible apply Keeps.inc); (case d => rfl); (case e => rfl))
    | ((with_reducible apply eventWrite_keeps); (case hMk => rfl))
    | ((with_reducible apply setHeld_keeps); (case hMk => rfl))
    | intro _
    | split
    | dsimp only
    | (refine Keeps.snd ?_ (by with_reducible assumption))

theorem eventDrain_keeps {mk : Nat} {sIn : State} (e : Nat) (k : Nat) (s : State) (hMk : 0x5010000000000000000000000000000000000000000000000000000000000000000000000000000000000000000000000000002000000000000000000000000000000000000000000000000000000000000000001867000180000000000000000000000000000000000000000000000000000000000000000000000000000000000000000000000000000000000000000000000000000000000000000000000000000000000000000000000000000000000000000000000000000000000000000000000000000000000000000000000000000000 ||| mk = mk) (hIn : Keeps mk sIn s) : Keeps mk sIn (eventDrain e k s) := by
  refine Keeps.step hMk ?_ hIn
  have key : ∀ (k : Nat) (s s0 : State), Keeps 0x5010000000000000000000000000000000000000000000000000000000000000000000000000000000000000000000000000002000000000000000000000000000000000000000000000000000000000000000001867000180000000000000000000000000000000000000000000000000000000000000000000000000000000000000000000000000000000000000000000000000000000000000000000000000000000000000000000000000000000000000000000000000000000000000000000000000000000000000000000000000000000 s0 s → Keeps 0x5010000000000000000000000000000000000000000000000000000000000000000000000000000000000000000000000000002000000000000000000000000000000000000000000000000000000000000000001867000180000000000000000000000000000000000000000000000000000000000000000000000000000000000000000000000000000000000000000000000000000000000000000000000000000000000000000000000000000000000000000000000000000000000000000000000000000000000000000000000000000000 s0 (eventDrain e k s) := by
    intro k
    induction k with
    | zero => intro s s0 h; unfold eventDrain; exact h
    | succ k ih =>
     intro s s0 h
     unfold eventDrain
     try dsimp only
     repeat' first
      | with_reducible refine Keeps.ite ?_ ?_
      | (with_reducible apply ih)
      | with_reducible exact Keeps.refl
      | with_reducible assumption
      | ((with_reducible apply eventWrite_keeps); (case hMk => rfl))
      | ((with_reducible apply setHeld_keeps); (case hMk => rfl))
      | split
      | (refine Keeps.snd ?_ (by with_reducible assumption))
      | intro _
      | dsimp only
  exact key k s s Keeps.refl

theorem eventsFlow_keeps {mk : Nat} {sIn : State} (s : State) (hMk : 0x5010000000000000000000000000000000000000000000000000000000000000000000000000000000000000000000000000002000000000000000000000000000000000000000000000000000000000000000001867000180000000000000000000000000000000000000000000000000000000000000000000000000000000000000000000000000000000000000000000000000000000000000000000000000000000000000000000000000000000000000000000000000000000000000000000000000000000000000000000000000000000 ||| mk = mk) (hIn : Keeps mk sIn s) : Keeps mk sIn (eventsFlow s) := by
  refine Keeps.step hMk ?_ hIn
  unfold eventsFlow
  try dsimp only
  repeat' first
    | with_reducible refine Keeps.ite ?_ ?_
    | with_reducible exact Keeps.refl
    | with_reducible assumption
    | (with_reducible refine Keeps.each _ _ ?_ ?_)
    | ((with_reducible apply eventDrain_keeps); (case hMk => rfl))
    | intro _
    | split
    | dsimp only
    | (refine Keeps.snd ?_ (by with_reducible assumption))

theorem raise_keeps {mk : Nat} {sIn : State} (b : IrqBit) (s : State) {i j w r : Nat} {h : Home} (d : b.sts = ⟨i, j, w, r, h⟩) (hMk : mk.testBit i = true) (hMk2 : 0x5010000000000000000000000000000000000000000000000000000000000000000000000000000000000000000000000000002000000000000000000000000000000000000000000000000000000000000000001867000180800000000800000000000000000000000000000000000000000000000000000000000000000000000000000000000000000000000000000000000000000000000000000000000000000000000000000000000000000000000000000000000000000000000000000000000000000000000000000000000000000000 ||| mk = mk)
    (hIn : Keeps mk sIn s) : Keeps mk sIn (raise b s) := by
  unfold raise
  dsimp only
  have q : Keeps mk sIn (s.put b.sts true) := Keeps.put _ _ d hMk hIn
  split
  · exact eventPost_keeps _ _ hMk2 q
  · exact q

theorem raiseAt_keeps {mk : Nat} {sIn : State} (b : IrqBit) (inst : Nat) (s : State) {i j w r : Nat} {h : Home} (d : b.sts = ⟨i, j, w, r, h⟩) (hMk : mk.testBit i = true) (hMk2 : 0x5010000000000000000000000000000000000000000000000000000000000000000000000000000000000000000000000000002000000000000000000000000000000000000000000000000000000000000000001867000180800000000800000000000000000000000000000000000000000000000000000000000000000000000000000000000000000000000000000000000000000000000000000000000000000000000000000000000000000000000000000000000000000000000000000000000000000000000000000000000000000000 ||| mk = mk)
    (hIn : Keeps mk sIn s) : Keeps mk sIn (raiseAt b inst s) :=
  raise_keeps (b := { b with inst := inst }) s d hMk hMk2 hIn

theorem raiseWard_keeps {mk : Nat} {sIn : State} (b : IrqBit) (k : Nat) (s : State) {i j w r : Nat} {h : Home} (d : b.sts = ⟨i, j, w, r, h⟩) (hMk : mk.testBit i = true) (hMk2 : 0x5010000000000000000000000000000000000000000000000000000000000000000000000000000000000000000000000000002000000000000000000000000000000000000000000000000000000000000000001867000180800000000800000000000000000000000000000000000000000000000000000000000000000000000000000000000000000000000000000000000000000000000000000000000000000000000000000000000000000000000000000000000000000000000000000000000000000000000000000000000000000000 ||| mk = mk)
    (hIn : Keeps mk sIn s) : Keeps mk sIn (raiseWard b k s) :=
  raise_keeps (b := { b with inst := k, ward := k }) s d hMk hMk2 hIn

theorem raiseNode_keeps {mk : Nat} {sIn : State} (b : IrqBit) (inst n : Nat) (s : State) {i j w r : Nat} {h : Home} (d : b.sts = ⟨i, j, w, r, h⟩) (hMk : mk.testBit i = true) (hMk2 : 0x5010000000000000000000000000000000000000000000000000000000000000000000000000000000000000000000000000002000000000000000000000000000000000000000000000000000000000000000001867000180800000000800000000000000000000000000000000000000000000000000000000000000000000000000000000000000000000000000000000000000000000000000000000000000000000000000000000000000000000000000000000000000000000000000000000000000000000000000000000000000000000 ||| mk = mk)
    (hIn : Keeps mk sIn s) : Keeps mk sIn (raiseNode b inst n s) :=
  raise_keeps (b := { b with inst := inst, nix := some n, ward := (s.node n).ward }) s d hMk hMk2 hIn

theorem occur_keeps {mk : Nat} {sIn : State} (b : IrqBit) (v : EventEntry) (s : State) {i j w r : Nat} {h : Home} (d : b.sts = ⟨i, j, w, r, h⟩) (hMk : mk.testBit i = true) (hMk2 : 0x5010000000000000000000000000000000000000000000000000000000000000000000000000000000000000000000000000002000000000000000000000000000000000000000000000000000000000000000001867000180800000000800000000000000000000000000000000000000000000000000000000000000000000000000000000000000000000000000000000000000000000000000000000000000000000000000000000000000000000000000000000000000000000000000000000000000000000000000000000000000000000 ||| mk = mk)
    (hIn : Keeps mk sIn s) : Keeps mk sIn (occur b v s) := by
  unfold occur
  dsimp only
  have q : Keeps mk sIn (s.put b.sts true) := Keeps.put _ _ d hMk hIn
  split
  · exact eventPost_keeps _ _ hMk2 q
  · exact q

theorem cmdDone_keeps {mk : Nat} {sIn : State} (ring : Nat) (op : Nat) (tag : Nat) (result : Nat) (ret0 : Nat) (ret1 : Nat) (ret2 : Nat) (data : List Nat) (trunc : Bool) (s : State) (hMk : 0x5010000000000000000000000000000000000000000000000000000000000000000000000000000000000000000000000000002000000000000000000000000000000000000000000000000000000000000000000466000960000000000000000000000000000000000000000000000000000000000000000000000000000000000000000000000000000000000000000000000000000000000000000000000000000000000000000000000000000000000000000000000000000000000000000000000000000000000000000000000000000000 ||| mk = mk) (hIn : Keeps mk sIn s) : Keeps mk sIn (cmdDone ring op tag result ret0 ret1 ret2 data trunc s) := by
  refine Keeps.step hMk ?_ hIn
  unfold cmdDone
  try dsimp only
  repeat' first
    | with_reducible refine Keeps.ite ?_ ?_
    | with_reducible exact Keeps.refl
    | with_reducible assumption
    | ((with_reducible apply Keeps.inc); (case d => rfl); (case e => rfl))
    | ((with_reducible apply runView_keeps); (case hMk => rfl))
    | ((with_reducible apply slotWrite_keeps); (case hMk => rfl))
    | intro _
    | split
    | dsimp only
    | (refine Keeps.snd ?_ (by with_reducible assumption))
    | ((with_reducible apply Keeps.set_hif); (case e => rfl))

theorem cmdTake_keeps {mk : Nat} {sIn : State} (ring : Nat) (s : State) (hMk : 0x10000000000000000000000000000000000000000000000000000000000000000000000000000000000000000000000000000000000000000000000000000000000000000000000000000000000000000000000000800000000000000000000000000000000000000000000000000000000000000000000000000000000000000000000000000000000000000000000000000000000000000000000000000000000000000000000000000000000000000000000000000000000000000000000000000000000000000000000000000000000000 ||| mk = mk) (hIn : Keeps mk sIn s) : Keeps mk sIn (cmdTake ring s) := by
  refine Keeps.step hMk ?_ hIn
  unfold cmdTake
  try dsimp only
  repeat' first
    | with_reducible refine Keeps.ite ?_ ?_
    | with_reducible exact Keeps.refl
    | with_reducible assumption
    | ((with_reducible apply ringTake_keeps); (case hMk => rfl))
    | intro _
    | split
    | dsimp only
    | (refine Keeps.snd ?_ (by with_reducible assumption))
    | ((with_reducible apply Keeps.set_hif); (case e => rfl))

theorem cmdPlain_keeps {mk : Nat} {sIn : State} (ring : Nat) (op : Nat) (tag : Nat) (result : Nat) (s : State) (hMk : 0x5010000000000000000000000000000000000000000000000000000000000000000000000000000000000000000000000000002000000000000000000000000000000000000000000000000000000000000000000466000960000000000000000000000000000000000000000000000000000000000000000000000000000000000000000000000000000000000000000000000000000000000000000000000000000000000000000000000000000000000000000000000000000000000000000000000000000000000000000000000000000000 ||| mk = mk) (hIn : Keeps mk sIn s) : Keeps mk sIn (cmdPlain ring op tag result s) := by
  refine Keeps.step hMk ?_ hIn
  unfold cmdPlain
  try dsimp only
  repeat' first
    | with_reducible refine Keeps.ite ?_ ?_
    | with_reducible exact Keeps.refl
    | with_reducible assumption
    | ((with_reducible apply cmdDone_keeps); (case hMk => rfl))
    | intro _
    | split
    | dsimp only
    | (refine Keeps.snd ?_ (by with_reducible assumption))

theorem rxBind_keeps {mk : Nat} {sIn : State} (k : Nat) (v : RxItem) (s : State) (hMk : 0x10000000000000000000000000000000000000000000000000000000000000000000000000000000000000000000000000000000000000000000000000000000000000000000000000000000000000000000000000000000000000000000000000000000000000000000000000000000000000000000000000000000000000000000000000000000000000000000000000000000000000000000000000000000000000000000000000000000000000000000000000000000000000000000000000000000000000000000000000000000000000 ||| mk = mk) (hIn : Keeps mk sIn s) : Keeps mk sIn (rxBind k v s) := by
  refine Keeps.step hMk ?_ hIn
  unfold rxBind
  try dsimp only
  repeat' first
    | with_reducible refine Keeps.ite ?_ ?_
    | with_reducible exact Keeps.refl
    | with_reducible assumption
    | intro _
    | split
    | dsimp only
    | (refine Keeps.snd ?_ (by with_reducible assumption))
    | ((with_reducible apply Keeps.set_hif); (case e => rfl))

theorem setBacklog_keeps {mk : Nat} {sIn : State} (k : Nat) (l : List RxItem) (s : State) (hMk : 0x10000000000000000000000000000000000000000000000000000000000000000000000000000000000000000000000000000000000000000000000000000000000000000000000000000000000000000000000300000000000000000000000000000000000000000000000000000000000000000000000000000000000000000000000000000000000000000000000000000000000000000000000000000000000000000000000000000000000000000000000000000000000000000000000000000000000000000000000000000000000000 ||| mk = mk) (hIn : Keeps mk sIn s) : Keeps mk sIn (setBacklog k l s) := by
  refine Keeps.step hMk ?_ hIn
  unfold setBacklog
  try dsimp only
  repeat' first
    | with_reducible refine Keeps.ite ?_ ?_
    | with_reducible exact Keeps.refl
    | with_reducible assumption
    | ((with_reducible apply Keeps.wr); (case d => rfl); (case e => rfl))
    | ((with_reducible apply Keeps.peak); (case d => rfl); (case e => rfl))
    | intro _
    | split
    | dsimp only
    | (refine Keeps.snd ?_ (by with_reducible assumption))
    | ((with_reducible apply Keeps.set_hif); (case e => rfl))

theorem rxRadio_keeps {mk : Nat} {sIn : State} (w : Option Nat) (v : RxItem) (s : State) (hMk : 0x10000000000000000000000000000000000000000000000000000000000000000000000000000000000000000000000000000000000000000000000000000000000000000000000000000000000000000000000000000000000000000000000000000000000000000000000000000000000000000000000000000000000000000000000000000000000000000000000000000000000000000000000000000000000000000000000000000000000000000000000000000000000000000000000000000000000000000000000000000000000000 ||| mk = mk) (hIn : Keeps mk sIn s) : Keeps mk sIn (rxRadio w v s) := by
  refine Keeps.step hMk ?_ hIn
  unfold rxRadio
  try dsimp only
  repeat' first
    | with_reducible refine Keeps.ite ?_ ?_
    | with_reducible exact Keeps.refl
    | with_reducible assumption
    | ((with_reducible apply rxBind_keeps); (case hMk => rfl))
    | intro _
    | split
    | dsimp only
    | (refine Keeps.snd ?_ (by with_reducible assumption))

theorem morSetQueue_keeps {mk : Nat} {sIn : State} (q : List MorEntry) (s : State) (hMk : 0x20000000000000000000000000000000000000000000000000000000040000100000000000000000000000000000000000000000000000000000000000000000000000000000000000000000000000000000000000000000000000000000000000000000000000000000000000000000000000000000000000000000000000000000000000000000000000000000000000000000000000000000000000000000000000000000000000000000000000000000000000000000000000000000000000000000000000000000000000000000000000 ||| mk = mk) (hIn : Keeps mk sIn s) : Keeps mk sIn (morSetQueue q s) := by
  refine Keeps.step hMk ?_ hIn
  unfold morSetQueue
  try dsimp only
  repeat' first
    | with_reducible refine Keeps.ite ?_ ?_
    | with_reducible exact Keeps.refl
    | with_reducible assumption
    | ((with_reducible apply Keeps.wr); (case d => rfl); (case e => rfl))
    | ((with_reducible apply Keeps.put); (case d => rfl); (case e => rfl))
    | intro _
    | split
    | dsimp only
    | (refine Keeps.snd ?_ (by with_reducible assumption))
    | ((with_reducible apply Keeps.set_flt); (case e => rfl))

theorem morPush_keeps {mk : Nat} {sIn : State} (src : Nat) (event : Nat) (a : FaultAt) (s : State) (hMk : 0x20000000000000000000000000000000000000000000000000000010040000100000000000000000000000000000000000000000000000000000000000000000000000000000000000000000000000000000000000000000000000000000000000000000000000000000000000000000000000000000000000000000000000000000000000000000000000000000000000000000000000000000000000000000000000000000000000000000000000000000000000000000000000000000000000000000000000000000000000000000000000 ||| mk = mk) (hIn : Keeps mk sIn s) : Keeps mk sIn (morPush src event a s) := by
  refine Keeps.step hMk ?_ hIn
  unfold morPush
  try dsimp only
  repeat' first
    | with_reducible refine Keeps.ite ?_ ?_
    | with_reducible exact Keeps.refl
    | with_reducible assumption
    | ((with_reducible apply Keeps.inc); (case d => rfl); (case e => rfl))
    | ((with_reducible apply morSetQueue_keeps); (case hMk => rfl))
    | intro _
    | split
    | dsimp only
    | (refine Keeps.snd ?_ (by with_reducible assumption))
    | ((with_reducible apply Keeps.set_flt); (case e => rfl))

theorem morCommit_keeps {mk : Nat} {sIn : State} (s : State) (hMk : 0x5030000000000000000000000000000000000000000000000000002018070000900000000000000000000000000000000000002000000000000000000000000000000000000000000000000000000000000000001867000180800000000800000000000000000000000000000000000000000000000000000000000000000000000000000000000000000000000000000000000000000000000000000000000000000000000000000000000000000000000000000000000000000000000000000000000000000000000000000000000000000000 ||| mk = mk) (hIn : Keeps mk sIn s) : Keeps mk sIn (morCommit s) := by
  refine Keeps.step hMk ?_ hIn
  unfold morCommit
  try dsimp only
  repeat' first
    | with_reducible refine Keeps.ite ?_ ?_
    | with_reducible exact Keeps.refl
    | with_reducible assumption
    | ((with_reducible apply Keeps.wr); (case d => rfl); (case e => rfl))
    | ((with_reducible apply Keeps.inc); (case d => rfl); (case e => rfl))
    | ((with_reducible apply Keeps.addSat); (case d => rfl); (case e => rfl))
    | ((with_reducible apply morPush_keeps); (case hMk => rfl))
    | ((with_reducible apply morSetQueue_keeps); (case hMk => rfl))
    | ((with_reducible apply raise_keeps); (case d => rfl); (case hMk => rfl); (case hMk2 => rfl))
    | intro _
    | split
    | dsimp only
    | (refine Keeps.snd ?_ (by with_reducible assumption))
    | ((with_reducible apply Keeps.set_flt); (case e => rfl))

theorem morCommitN_keeps {mk : Nat} {sIn : State} (k : Nat) (s : State) (hMk : 0x5030000000000000000000000000000000000000000000000000002018070000900000000000000000000000000000000000002000000000000000000000000000000000000000000000000000000000000000001867000180800000000800000000000000000000000000000000000000000000000000000000000000000000000000000000000000000000000000000000000000000000000000000000000000000000000000000000000000000000000000000000000000000000000000000000000000000000000000000000000000000000 ||| mk = mk) (hIn : Keeps mk sIn s) : Keeps mk sIn (morCommitN k s) := by
  refine Keeps.step hMk ?_ hIn
  have key : ∀ (k : Nat) (s s0 : State), Keeps 0x5030000000000000000000000000000000000000000000000000002018070000900000000000000000000000000000000000002000000000000000000000000000000000000000000000000000000000000000001867000180800000000800000000000000000000000000000000000000000000000000000000000000000000000000000000000000000000000000000000000000000000000000000000000000000000000000000000000000000000000000000000000000000000000000000000000000000000000000000000000000000000 s0 s → Keeps 0x5030000000000000000000000000000000000000000000000000002018070000900000000000000000000000000000000000002000000000000000000000000000000000000000000000000000000000000000001867000180800000000800000000000000000000000000000000000000000000000000000000000000000000000000000000000000000000000000000000000000000000000000000000000000000000000000000000000000000000000000000000000000000000000000000000000000000000000000000000000000000000 s0 (morCommitN k s) := by
    intro k
    induction k with
    | zero => intro s s0 h; unfold morCommitN; exact h
    | succ k ih =>
     intro s s0 h
     unfold morCommitN
     try dsimp only
     repeat' first
      | with_reducible refine Keeps.ite ?_ ?_
      | (with_reducible apply ih)
      | with_reducible exact Keeps.refl
      | with_reducible assumption
      | ((with_reducible apply morCommit_keeps); (case hMk => rfl))
      | split
      | (refine Keeps.snd ?_ (by with_reducible assumption))
      | intro _
      | dsimp only
  exact key k s s Keeps.refl

theorem setRaw_keeps {mk : Nat} {sIn : State} (src : Nat) (b : Bool) (s : State) (hMk : 0x80000000000000000000000000000000000000000000000000000000000000000000000000000000000000000000000000000000000000000000000000000000000000000000000000000000000000000000000000000000000000000000000000000000000000000000000000000000000000000000000000000000000000000000000000000000000000000000000000000000000000000000000000000000000000000000000000000000000000000000000000000000 ||| mk = mk) (hIn : Keeps mk sIn s) : Keeps mk sIn (setRaw src b s) := by
  refine Keeps.step hMk ?_ hIn
  unfold setRaw
  try dsimp only
  repeat' first
    | with_reducible refine Keeps.ite ?_ ?_
    | with_reducible exact Keeps.refl
    | with_reducible assumption
    | ((with_reducible apply Keeps.wr); (case d => rfl); (case e => rfl))
    | intro _
    | split
    | dsimp only
    | (refine Keeps.snd ?_ (by with_reducible assumption))

theorem latchView_keeps {mk : Nat} {sIn : State} (s : State) (hMk : 0x180000040000000000000000000000000000000000000000000000000000000000000000000000000000000000000000000000000000000000000000000000000000000000000000000000000000000000000000000000000000000000000000000000000000000000000000000000000000000000000000000000000000000000000000000000000000000000000000000000000000000000000000000000000000000000000000000000000000000000000000000000 ||| mk = mk) (hIn : Keeps mk sIn s) : Keeps mk sIn (latchView s) := by
  refine Keeps.step hMk ?_ hIn
  unfold latchView
  try dsimp only
  repeat' first
    | with_reducible refine Keeps.ite ?_ ?_
    | with_reducible exact Keeps.refl
    | with_reducible assumption
    | ((with_reducible apply Keeps.wr); (case d => rfl); (case e => rfl))
    | ((with_reducible apply Keeps.put); (case d => rfl); (case e => rfl))
    | intro _
    | split
    | dsimp only
    | (refine Keeps.snd ?_ (by with_reducible assumption))

theorem faultIrq_keeps {mk : Nat} {sIn : State} (s : State) (hMk : 0x5010000000000000000000000000000000000000000000000000000000000000200000000000000000000000000000000000002000000000000000000000000000000000000000000000000000000000000000001867000180800000000800000000000000000000000000000000000000000000000000000000000000000000000000000000000000000000000000000000000000000000000000000000000000000000000000000000000000000000000000000000000000000000000000000000000000000000000000000000000000000000 ||| mk = mk) (hIn : Keeps mk sIn s) : Keeps mk sIn (faultIrq s) := by
  refine Keeps.step hMk ?_ hIn
  unfold faultIrq
  try dsimp only
  repeat' first
    | with_reducible refine Keeps.ite ?_ ?_
    | with_reducible exact Keeps.refl
    | with_reducible assumption
    | (with_reducible refine Keeps.when _ _ ?_ ?_)
    | ((with_reducible apply raise_keeps); (case d => rfl); (case hMk => rfl); (case hMk2 => rfl))
    | intro _
    | split
    | dsimp only
    | (refine Keeps.snd ?_ (by with_reducible assumption))

theorem modPair_keeps {mk : Nat} {sIn : State} (f : PairSt → PairSt) (s : State) (hMk : 0x40000000000000000000000000000000000000000000000000000000000000000000000000000000000000000000000000000000000000000000000000000000000000000000000000000000000000000000000000000000000000000000000000000000000000000000000000000000000000000000000000000000000000000000000000000000000000000000000000000000000000000000000000000000000000000000000000000000000000000000000000000000000000000000000000000000000000000000000000000000000000 ||| mk = mk) (hIn : Keeps mk sIn s) : Keeps mk sIn (modPair f s) := by
  refine Keeps.step hMk ?_ hIn
  unfold modPair
  try dsimp only
  repeat' first
    | with_reducible refine Keeps.ite ?_ ?_
    | with_reducible exact Keeps.refl
    | with_reducible assumption
    | intro _
    | split
    | dsimp only
    | (refine Keeps.snd ?_ (by with_reducible assumption))
    | ((with_reducible apply Keeps.set_pair); (case e => rfl))

theorem pairTrace_keeps {mk : Nat} {sIn : State} (event : Nat) (s : State) (hMk : 0x40000000000000000000000002000000000000000000000000000000000000000000000000000000000000000000000000000000000000000000000000000000000000000000000000000000000000000000000000000000000000000000000000000000000000000000000000000000000000000000000000000000000000000000000000000000000000000000000000000000000000000000000000000000000000000000000000000000000000000000000000000000000000000000000000000000000000000000000000000000000000 ||| mk = mk) (hIn : Keeps mk sIn s) : Keeps mk sIn (pairTrace event s) := by
  refine Keeps.step hMk ?_ hIn
  unfold pairTrace
  try dsimp only
  repeat' first
    | with_reducible refine Keeps.ite ?_ ?_
    | with_reducible exact Keeps.refl
    | with_reducible assumption
    | ((with_reducible apply Keeps.wr); (case d => rfl); (case e => rfl))
    | ((with_reducible apply modPair_keeps); (case hMk => rfl))
    | intro _
    | split
    | dsimp only
    | (refine Keeps.snd ?_ (by with_reducible assumption))

theorem yieldSet_keeps {mk : Nat} {sIn : State} (s : State) (hMk : 0x40000000000000000000000002000000002000000000000000000000000000000000000000000000000000000000000000000000000000000000000000000000000000000000000000000000000000000000000000000000000000000000000000000000000000000000000000000000000000000000000000000000000000000000000000000000000000000000000000000000000000000000000000000000000000000000000000000000000000000000000000000000000000000000000000000000000000000000000000000000000000 ||| mk = mk) (hIn : Keeps mk sIn s) : Keeps mk sIn (yieldSet s) := by
  refine Keeps.step hMk ?_ hIn
  unfold yieldSet
  try dsimp only
  repeat' first
    | with_reducible refine Keeps.ite ?_ ?_
    | with_reducible exact Keeps.refl
    | with_reducible assumption
    | ((with_reducible apply Keeps.inc); (case d => rfl); (case e => rfl))
    | ((with_reducible apply modPair_keeps); (case hMk => rfl))
    | ((with_reducible apply pairTrace_keeps); (case hMk => rfl))
    | intro _
    | split
    | dsimp only
    | (refine Keeps.snd ?_ (by with_reducible assumption))

theorem radiosCut_keeps {mk : Nat} {sIn : State} (s : State) (hMk : 0x8000000000000000000000000000000000000000000000000000000000000000000000000000000000000000000000000000000000000000000000000000000000000000000000000000000000000000000000000000000000000000000000000000000000000000000000000000000000000000000000000000000000000000000000000000000000000000000000000000000000000000000000000000000000000000000000000000000000000000000000000000000000000000000000000000000000000000000000000000000080 ||| mk = mk) (hIn : Keeps mk sIn s) : Keeps mk sIn (radiosCut s) := by
  refine Keeps.step hMk ?_ hIn
  unfold radiosCut
  try dsimp only
  repeat' first
    | with_reducible refine Keeps.ite ?_ ?_
    | with_reducible exact Keeps.refl
    | with_reducible assumption
    | ((with_reducible apply Keeps.wr); (case d => rfl); (case e => rfl))
    | (with_reducible refine Keeps.each _ _ ?_ ?_)
    | intro _
    | split
    | dsimp only
    | (refine Keeps.snd ?_ (by with_reducible assumption))
    | ((with_reducible apply Keeps.set_fe); (case e => rfl))

theorem faultResetBegin_keeps {mk : Nat} {sIn : State} (src : Nat) (a : FaultAt) (entry : Bool) (s : State) (hMk : 0x5070008000000000000000000002000000002000000000000000000014040000300000000000000000000000000000000000002000000000000000000000000000000000000000000000000000000000000000001867000180800000000800000000000000000000000000000000000000000000000000000000000000000000000000000000000000000000000000000000000000000000000000000000000000000000000000000000000000000000000000000000000000000000000000000000000000000000000000000000000000000080 ||| mk = mk) (hIn : Keeps mk sIn s) : Keeps mk sIn (faultResetBegin src a entry s) := by
  refine Keeps.step hMk ?_ hIn
  unfold faultResetBegin
  try dsimp only
  repeat' first
    | with_reducible refine Keeps.ite ?_ ?_
    | with_reducible exact Keeps.refl
    | with_reducible assumption
    | ((with_reducible apply Keeps.inc); (case d => rfl); (case e => rfl))
    | ((with_reducible apply faultIrq_keeps); (case hMk => rfl))
    | ((with_reducible apply morPush_keeps); (case hMk => rfl))
    | ((with_reducible apply radiosCut_keeps); (case hMk => rfl))
    | ((with_reducible apply yieldSet_keeps); (case hMk => rfl))
    | intro _
    | split
    | dsimp only
    | (refine Keeps.snd ?_ (by with_reducible assumption))
    | ((with_reducible apply Keeps.set_flt); (case e => rfl))

theorem faultReact_keeps {mk : Nat} {sIn : State} (src : Nat) (a : FaultAt) (escBefore : Bool) (s : State) (hMk : 0x50700080000000000000000000020000000020000000000000000000140400c0780000000000000000000000000000000000002000000000000000000000000000000000000000000000000000000000000000001867000180800000000800000000000000000000000000000000000000000000000000000000000000000000000000000000000000000000000000000000000000000000000000000000000000000000000000000000000000000000000000000000000000000000000000000000000000000000000000000000000000000080 ||| mk = mk) (hIn : Keeps mk sIn s) : Keeps mk sIn (faultReact src a escBefore s) := by
  refine Keeps.step hMk ?_ hIn
  unfold faultReact
  try dsimp only
  repeat' first
    | with_reducible refine Keeps.ite ?_ ?_
    | with_reducible exact Keeps.refl
    | with_reducible assumption
    | ((with_reducible apply Keeps.wr); (case d => rfl); (case e => rfl))
    | ((with_reducible apply Keeps.put); (case d => rfl); (case e => rfl))
    | ((with_reducible apply faultIrq_keeps); (case hMk => rfl))
    | ((with_reducible apply faultResetBegin_keeps); (case hMk => rfl))
    | ((with_reducible apply raise_keeps); (case d => rfl); (case hMk => rfl); (case hMk2 => rfl))
    | intro _
    | split
    | dsimp only
    | (refine Keeps.snd ?_ (by with_reducible assumption))
    | ((with_reducible apply Keeps.set_flt); (case e => rfl))

theorem firstCapture_keeps {mk : Nat} {sIn : State} (src : Nat) (a : FaultAt) (s : State) (hMk : 0x5010000000000000000000000000000000000000000000000000000040000001000000000000000000000000000000000000002000000000000000000000000000000000000000000000000000000000000000001867000180800000000800000000000000000000000000000000000000000000000000000000000000000000000000000000000000000000000000000000000000000000000000000000000000000000000000000000000000000000000000000000000000000000000000000000000000000000000000000000000000000000 ||| mk = mk) (hIn : Keeps mk sIn s) : Keeps mk sIn (firstCapture src a s) := by
  refine Keeps.step hMk ?_ hIn
  unfold firstCapture
  try dsimp only
  repeat' first
    | with_reducible refine Keeps.ite ?_ ?_
    | with_reducible exact Keeps.refl
    | with_reducible assumption
    | ((with_reducible apply Keeps.wr); (case d => rfl); (case e => rfl))
    | ((with_reducible apply raise_keeps); (case d => rfl); (case hMk => rfl); (case hMk2 => rfl))
    | intro _
    | split
    | dsimp only
    | (refine Keeps.snd ?_ (by with_reducible assumption))

theorem faultRaise_keeps {mk : Nat} {sIn : State} (src : Nat) (a : FaultAt) (inject : Bool) (s : State) (hMk : 0x50700080000000000000000000020000000020000000000000000011547c00c17c0000000000000000000000000000000000002000000000000000000000000000000000000000000000000000000000000000001867000180800000000800000000000000000000000000000000000000000000000000000000000000000000000000000000000000000000000000000000000000000000000000000000000000000000000000000000000000000000000000000000000000000000000000000000000000000000000000000000000000000080 ||| mk = mk) (hIn : Keeps mk sIn s) : Keeps mk sIn (faultRaise src a inject s) := by
  refine Keeps.step hMk ?_ hIn
  unfold faultRaise
  try dsimp only
  repeat' first
    | with_reducible refine Keeps.ite ?_ ?_
    | with_reducible exact Keeps.refl
    | with_reducible assumption
    | ((with_reducible apply Keeps.wr); (case d => rfl); (case e => rfl))
    | ((with_reducible apply Keeps.inc); (case d => rfl); (case e => rfl))
    | ((with_reducible apply Keeps.addSat); (case d => rfl); (case e => rfl))
    | ((with_reducible apply faultReact_keeps); (case hMk => rfl))
    | ((with_reducible apply firstCapture_keeps); (case hMk => rfl))
    | ((with_reducible apply latchView_keeps); (case hMk => rfl))
    | ((with_reducible apply morPush_keeps); (case hMk => rfl))
    | intro _
    | split
    | dsimp only
    | (refine Keeps.snd ?_ (by with_reducible assumption))

theorem faultEvent_keeps {mk : Nat} {sIn : State} (src : Nat) (a : FaultAt) (s : State) (hMk : 0x50700080000000000000000000020000000020000000000000000011547c00c17c0000000000000000000000000000000000002000000000000000000000000000000000000000000000000000000000000000001867000180800000000800000000000000000000000000000000000000000000000000000000000000000000000000000000000000000000000000000000000000000000000000000000000000000000000000000000000000000000000000000000000000000000000000000000000000000000000000000000000000000080 ||| mk = mk) (hIn : Keeps mk sIn s) : Keeps mk sIn (faultEvent src a s) := by
  refine Keeps.step hMk ?_ hIn
  unfold faultEvent
  try dsimp only
  repeat' first
    | with_reducible refine Keeps.ite ?_ ?_
    | with_reducible exact Keeps.refl
    | with_reducible assumption
    | ((with_reducible apply faultRaise_keeps); (case hMk => rfl))
    | intro _
    | split
    | dsimp only
    | (refine Keeps.snd ?_ (by with_reducible assumption))

theorem faultBegin_keeps {mk : Nat} {sIn : State} (src : Nat) (a : FaultAt) (s : State) (hMk : 0x50700080000000000000000000020000000020000000000000000011d47c00c17c0000000000000000000000000000000000002000000000000000000000000000000000000000000000000000000000000000001867000180800000000800000000000000000000000000000000000000000000000000000000000000000000000000000000000000000000000000000000000000000000000000000000000000000000000000000000000000000000000000000000000000000000000000000000000000000000000000000000000000000080 ||| mk = mk) (hIn : Keeps mk sIn s) : Keeps mk sIn (faultBegin src a s) := by
  refine Keeps.step hMk ?_ hIn
  unfold faultBegin
  try dsimp only
  repeat' first
    | with_reducible refine Keeps.ite ?_ ?_
    | with_reducible exact Keeps.refl
    | with_reducible assumption
    | ((with_reducible apply faultRaise_keeps); (case hMk => rfl))
    | ((with_reducible apply setRaw_keeps); (case hMk => rfl))
    | intro _
    | split
    | dsimp only
    | (refine Keeps.snd ?_ (by with_reducible assumption))

theorem faultEnd_keeps {mk : Nat} {sIn : State} (src : Nat) (s : State) (hMk : 0x80000000000000000000000000000000000000000000000000000000000000000000000000000000000000000000000000000000000000000000000000000000000000000000000000000000000000000000000000000000000000000000000000000000000000000000000000000000000000000000000000000000000000000000000000000000000000000000000000000000000000000000000000000000000000000000000000000000000000000000000000000000 ||| mk = mk) (hIn : Keeps mk sIn s) : Keeps mk sIn (faultEnd src s) := by
  refine Keeps.step hMk ?_ hIn
  unfold faultEnd
  try dsimp only
  repeat' first
    | with_reducible refine Keeps.ite ?_ ?_
    | with_reducible exact Keeps.refl
    | with_reducible assumption
    | ((with_reducible apply setRaw_keeps); (case hMk => rfl))
    | intro _
    | split
    | dsimp only
    | (refine Keeps.snd ?_ (by with_reducible assumption))

theorem latchClear_keeps {mk : Nat} {sIn : State} (src : Nat) (s : State) (hMk : 0x200000000000000000000000000000000000000000000000000011109c00401c0000000000000000000000000000000000000000000000000000000000000000000000000000000000000000000000000000000000000000000000000000000000000000000000000000000000000000000000000000000000000000000000000000000000000000000000000000000000000000000000000000000000000000000000000000000000000000000000000000000000000000000000000000000000000000000000000000000000000000000000 ||| mk = mk) (hIn : Keeps mk sIn s) : Keeps mk sIn (latchClear src s) := by
  refine Keeps.step hMk ?_ hIn
  unfold latchClear
  try dsimp only
  repeat' first
    | with_reducible refine Keeps.ite ?_ ?_
    | with_reducible exact Keeps.refl
    | with_reducible assumption
    | ((with_reducible apply Keeps.wr); (case d => rfl); (case e => rfl))
    | ((with_reducible apply Keeps.put); (case d => rfl); (case e => rfl))
    | ((with_reducible apply Keeps.inc); (case d => rfl); (case e => rfl))
    | ((with_reducible apply latchView_keeps); (case hMk => rfl))
    | ((with_reducible apply morPush_keeps); (case hMk => rfl))
    | intro _
    | split
    | dsimp only
    | (refine Keeps.snd ?_ (by with_reducible assumption))

theorem eccFault_keeps {mk : Nat} {sIn : State} (src : Nat) (a : FaultAt) (s : State) (hMk : 0x50700080000000000000000000020000000020000000000000000011547c00c17c0000000000000000000000000000000000002000000000000000000000000000000000000000000000000000000000000000001867000180800000000800000000000000000000000000000000000000000000000000000000000000000000000000000000000000000000000000000000000000000000000000000000000000000000000000000000000000000000000000000000000000000000000000000000000000000000000000000000000000000080 ||| mk = mk) (hIn : Keeps mk sIn s) : Keeps mk sIn (eccFault src a s) := by
  refine Keeps.step hMk ?_ hIn
  unfold eccFault
  try dsimp only
  repeat' first
    | with_reducible refine Keeps.ite ?_ ?_
    | with_reducible exact Keeps.refl
    | with_reducible assumption
    | ((with_reducible apply faultEvent_keeps); (case hMk => rfl))
    | intro _
    | split
    | dsimp only
    | (refine Keeps.snd ?_ (by with_reducible assumption))

theorem eccFix_keeps {mk : Nat} {sIn : State} (l : List (Fin 256)) (s : State) (hMk : 0x20000000000000000000000000000000000000000000000000000000000000000000000000000000000000000000000000080000000000000000000000000000000000000000000000000000000000000000000000000000000000000000000000000000000000000000000000000000000000000000000000000000000000000000000000000000000000000000000000000000000000000000000000000000000000000000000000000000000000000000000000000000000000000000000000000000000000000000000000000000000000 ||| mk = mk) (hIn : Keeps mk sIn s) : Keeps mk sIn (eccFix l s) := by
  refine Keeps.step hMk ?_ hIn
  unfold eccFix
  try dsimp only
  repeat' first
    | with_reducible refine Keeps.ite ?_ ?_
    | with_reducible exact Keeps.refl
    | with_reducible assumption
    | ((with_reducible apply Keeps.addSat); (case d => rfl); (case e => rfl))
    | (with_reducible refine Keeps.each _ _ ?_ ?_)
    | intro _
    | split
    | dsimp only
    | (refine Keeps.snd ?_ (by with_reducible assumption))
    | ((with_reducible apply Keeps.set_flt); (case e => rfl))

theorem eccDeliver_keeps {mk : Nat} {sIn : State} (src : Nat) (a : FaultAt) (s : State) (hMk : 0x20000000000000000000000000000000000000000000000000000000000000000000000000000000000000000000000000000000000000000000000000000000000000000000000000000000000000000000000000000000000000000000000000000000000000000000000000000000000000000000000000000000000000000000000000000000000000000000000000000000000000000000000000000000000000000000000000000000000000000000000000000000000000000000000000000000000000000000000000000000000000 ||| mk = mk) (hIn : Keeps mk sIn s) : Keeps mk sIn (eccDeliver src a s) := by
  refine Keeps.step hMk ?_ hIn
  unfold eccDeliver
  try dsimp only
  repeat' first
    | with_reducible refine Keeps.ite ?_ ?_
    | with_reducible exact Keeps.refl
    | with_reducible assumption
    | intro _
    | split
    | dsimp only
    | (refine Keeps.snd ?_ (by with_reducible assumption))
    | ((with_reducible apply Keeps.set_flt); (case e => rfl))

theorem fenceNode_keeps {mk : Nat} {sIn : State} (nix : Nat) (word : Nat) (master : Nat) (s : State) (hMk : 0x507000a0000000000000000000020000000020000000000000000011547c00c17c0000000000000000000000000000000000002000000000000000000000000000000000000000000000000000000000000000001867000180800000000800000000000000000000000000000000000000000000000000000000000000000000000000000000000000000000000000000000000000000000000000000000000000000000000000000000000000000000000000000000000000000000000000000000000000000000000000000000000000000080 ||| mk = mk) (hIn : Keeps mk sIn s) : Keeps mk sIn (fenceNode nix word master s) := by
  refine Keeps.step hMk ?_ hIn
  unfold fenceNode
  try dsimp only
  repeat' first
    | with_reducible refine Keeps.ite ?_ ?_
    | with_reducible exact Keeps.refl
    | with_reducible assumption
    | ((with_reducible apply Keeps.modNode); (case e => rfl); (case e2 => rfl))
    | ((with_reducible apply eccDeliver_keeps); (case hMk => rfl))
    | ((with_reducible apply eccFault_keeps); (case hMk => rfl))
    | intro _
    | split
    | dsimp only
    | (refine Keeps.snd ?_ (by with_reducible assumption))

theorem coreGo_keeps {mk : Nat} {sIn : State} (n : Nat) (st : Nat) (s : State) (hMk : 0x400000000c0000000000000000000000000000000000000000000000000000000000000000000000000000000000000000000000000000000000000000000000000000000000000000000000000000000000000000000000000000000000000000000000000000000000000000000000000000000000000000000000000000000000000000000000000000000000000000000000000000000000000000000000 ||| mk = mk) (hIn : Keeps mk sIn s) : Keeps mk sIn (coreGo n st s) := by
  refine Keeps.step hMk ?_ hIn
  unfold coreGo
  try dsimp only
  repeat' first
    | with_reducible refine Keeps.ite ?_ ?_
    | with_reducible exact Keeps.refl
    | with_reducible assumption
    | ((with_reducible apply Keeps.wr); (case d => rfl); (case e => rfl))
    | intro _
    | split
    | dsimp only
    | (refine Keeps.snd ?_ (by with_reducible assumption))

theorem coreBeat_keeps {mk : Nat} {sIn : State} (n : Nat) (s : State) (hMk : 0x1000000000000000000000000000000000000000000000000000000000000000000000000000000000000000000000000000000000000000000000000000000000000000000000000000000000000000000000000000000000000000000000000000000000000000000000000000000000000000000000000000000000000000000000000000000000000000000000000000000000000000000000000000000000000000000000000000000000000000000000000000000000000000000000000000000000000000000000000000000000000000 ||| mk = mk) (hIn : Keeps mk sIn s) : Keeps mk sIn (coreBeat n s) := by
  refine Keeps.step hMk ?_ hIn
  unfold coreBeat
  try dsimp only
  repeat' first
    | with_reducible refine Keeps.ite ?_ ?_
    | with_reducible exact Keeps.refl
    | with_reducible assumption
    | ((with_reducible apply modPcr_keeps); (case hMk => rfl); (case hf => exact fun _ => ⟨rfl, rfl⟩))
    | intro _
    | split
    | dsimp only
    | (refine Keeps.snd ?_ (by with_reducible assumption))

theorem coreStart_keeps {mk : Nat} {sIn : State} (n : Nat) (s : State) (hMk : 0x10000000000000000000000000000000000000000000000000000000000000000000000000000000000000000000000000000000400000000c0000000000000000000000000000000000000000000000000000000000000000000000000000000000000000000000000000000000000000000000000000000000000000000000000000000000000000000000000000000000000000000000000000000000000000000000000000000000000000000000000000000000000000000000000000000000000000000000000000000000000000000000 ||| mk = mk) (hIn : Keeps mk sIn s) : Keeps mk sIn (coreStart n s) := by
  refine Keeps.step hMk ?_ hIn
  unfold coreStart
  try dsimp only
  repeat' first
    | with_reducible refine Keeps.ite ?_ ?_
    | with_reducible exact Keeps.refl
    | with_reducible assumption
    | ((with_reducible apply coreBeat_keeps); (case hMk => rfl))
    | ((with_reducible apply coreGo_keeps); (case hMk => rfl))
    | intro _
    | split
    | dsimp only
    | (refine Keeps.snd ?_ (by with_reducible assumption))

theorem sramZero_keeps {mk : Nat} {sIn : State} (n : Nat) (s : State) (hMk : 0x5000000000000000000000000000000000000000000000000000000000000000000000000000000000000000000000000000000000000000000000000000000000000000000000000000000000000000000000000000000000000000000000000000000000000000000000000000000000000000000000000000000000000000000000000000000000000000000000000000000000000000000000000000000000000000000000000000000000000000000000000000000000000000000000000000000000000000000000000000000000000000 ||| mk = mk) (hIn : Keeps mk sIn s) : Keeps mk sIn (sramZero n s) := by
  refine Keeps.step hMk ?_ hIn
  unfold sramZero
  try dsimp only
  repeat' first
    | with_reducible refine Keeps.ite ?_ ?_
    | with_reducible exact Keeps.refl
    | with_reducible assumption
    | ((with_reducible apply modPcr_any); (case hf => exact fun p a b => ⟨a, Memory.filter_wf _ b⟩); (case hMk => rfl); (case hMk2 => rfl))
    | intro _
    | split
    | dsimp only
    | (refine Keeps.snd ?_ (by with_reducible assumption))

theorem sramLoad_keeps {mk : Nat} {sIn : State} (n : Nat) (load : Nat) (payload : List Nat) (s : State) (hMk : 0x5000000000000000000000000000000000000000000000000000000000000000000000000000000000000000000000000000000000000000000000000000000000000000000000000000000000000000000000000000000000000000000000000000000000000000000000000000000000000000000000000000000000000000000000000000000000000000000000000000000000000000000000000000000000000000000000000000000000000000000000000000000000000000000000000000000000000000000000000000000000000000 ||| mk = mk) (hIn : Keeps mk sIn s) : Keeps mk sIn (sramLoad n load payload s) := by
  refine Keeps.step hMk ?_ hIn
  unfold sramLoad
  try dsimp only
  repeat' first
    | with_reducible refine Keeps.ite ?_ ?_
    | with_reducible exact Keeps.refl
    | with_reducible assumption
    | ((with_reducible apply modPcr_any); (case hf => exact fun p a b => ⟨a, putWords_wf _ _ b⟩); (case hMk => rfl); (case hMk2 => rfl))
    | intro _
    | split
    | dsimp only
    | (refine Keeps.snd ?_ (by with_reducible assumption))

theorem coreImage_keeps {mk : Nat} {sIn : State} (n : Nat) (ver : Nat) (entry : Nat) (s : State) (hMk : 0x600000000000000000000000000000000000000000000000000000000000000000000000000000000000000000000000000000000000000000000000000000000000000000000000000000000000000000000000000000000000000000000000000000000000000000000000000000000000000000000000000000000000000000000000000000000000000000000000000000000000000000000000000000000 ||| mk = mk) (hIn : Keeps mk sIn s) : Keeps mk sIn (coreImage n ver entry s) := by
  refine Keeps.step hMk ?_ hIn
  unfold coreImage
  try dsimp only
  repeat' first
    | with_reducible refine Keeps.ite ?_ ?_
    | with_reducible exact Keeps.refl
    | with_reducible assumption
    | ((with_reducible apply Keeps.wr); (case d => rfl); (case e => rfl))
    | intro _
    | split
    | dsimp only
    | (refine Keeps.snd ?_ (by with_reducible assumption))

theorem dmaFail_keeps {mk : Nat} {sIn : State} (r : Nat) (addr : Nat) (s : State) (hMk : 0x50700080000000000000000000020000000020000000000000000011547c00c17c000000000000000000000000000000000000200000000000000000000000000000000000000000000000000000000000000000187f000180c00000000c00000000000000000000000000000000000000000000000000000000000000000000000000000000000000000000000000000000000000000000000000000000000000000000000000000000000000000000000000000000000000000000000000000000000000000000000000000000000000000080 ||| mk = mk) (hIn : Keeps mk sIn s) : Keeps mk sIn (dmaFail r addr s) := by
  refine Keeps.step hMk ?_ hIn
  unfold dmaFail
  try dsimp only
  repeat' first
    | with_reducible refine Keeps.ite ?_ ?_
    | with_reducible exact Keeps.refl
    | with_reducible assumption
    | ((with_reducible apply Keeps.wr); (case d => rfl); (case e => rfl))
    | ((with_reducible apply Keeps.put); (case d => rfl); (case e => rfl))
    | ((with_reducible apply Keeps.inc); (case d => rfl); (case e => rfl))
    | ((with_reducible apply faultEvent_keeps); (case hMk => rfl))
    | ((with_reducible apply raise_keeps); (case d => rfl); (case hMk => rfl); (case hMk2 => rfl))
    | ((with_reducible apply runView_keeps); (case hMk => rfl))
    | intro _
    | split
    | dsimp only
    | (refine Keeps.snd ?_ (by with_reducible assumption))

theorem withCmd_keeps {mk : Nat} {sIn : State} (ring : Nat) (f : State → State) (s : State) (hMk : 0x50700080000000000000000000020000000020000000000000000011547c00c17c000000000000000000000000000000000000200000000000000000000000000000000000000000000000000000000000000000187f800180c00000000c00000000000000000000000000000000000000000000000000000000000000000000000000000000000000000000000000000000000000000000000000000000000000000000000000000000000000000000000000000000000000000000000000000000000000000000000000000000000000000080 ||| mk = mk) (hf : ∀ x, Keeps mk sIn x → Keeps mk sIn (f x)) (hIn : Keeps mk sIn s) :
    KeepsR mk sIn (withCmd ring f s) := by
  refine KeepsR.next ?_
  split
  · exact hIn
  · split
    · exact dmaFail_keeps _ _ _ (mask_sub (by decide) hMk) hIn
    · exact hf _ (cmdTake_keeps _ _ (mask_sub (by decide) hMk) hIn)

theorem cmdDma_keeps {mk : Nat} {sIn : State} (ring : Nat) (op : Nat) (tag : Nat) (addr : Nat) (s : State) (hMk : 0x50700080000000000000000000020000000020000000000000000011547c00c17c0000000000000000000000000000000000002000000000000000000000000000000000000000000000000000000000000000001c7f0009e0c00000000c00000000000000000000000000000000000000000000000000000000000000000000000000000000000000000000000000000000000000000000000000000000000000000000000000000000000000000000000000000000000000000000000000000000000000000000000000000000000000000080 ||| mk = mk) (hIn : Keeps mk sIn s) : Keeps mk sIn (cmdDma ring op tag addr s) := by
  refine Keeps.step hMk ?_ hIn
  unfold cmdDma
  try dsimp only
  repeat' first
    | with_reducible refine Keeps.ite ?_ ?_
    | with_reducible exact Keeps.refl
    | with_reducible assumption
    | ((with_reducible apply cmdPlain_keeps); (case hMk => rfl))
    | ((with_reducible apply dmaFail_keeps); (case hMk => rfl))
    | intro _
    | split
    | dsimp only
    | (refine Keeps.snd ?_ (by with_reducible assumption))

theorem withData_keeps {mk : Nat} {sIn : State} (ring op : Nat) (hd : CmdHead) (need : Nat) (f : State → State) (s : State) (hMk : 0x50700080000000000000000000020000000020000000000000000011547c00c17c0000000000000000000000000000000000002000000000000000000000000000000000000000000000000000000000000000001c7f0009e0c00000000c00000000000000000000000000000000000000000000000000000000000000000000000000000000000000000000000000000000000000000000000000000000000000000000000000000000000000000000000000000000000000000000000000000000000000000000000000000000000000000080 ||| mk = mk) (hf : ∀ x, Keeps mk sIn x → Keeps mk sIn (f x))
    (hIn : Keeps mk sIn s) : Keeps mk sIn (withData ring op hd need f s) := by
  unfold withData
  split
  · exact cmdPlain_keeps _ _ _ _ _ (mask_sub (by decide) hMk) hIn
  · split
    · exact cmdDma_keeps _ _ _ _ _ (mask_sub (by decide) hMk) hIn
    · exact hf _ hIn

theorem cmdRows_keeps {mk : Nat} {sIn : State} (ring : Nat) (op : Nat) (hd : CmdHead) (ret0 : Nat) (ret1 : Nat) (size : Nat) (rows : List (List Nat)) (s : State) (hMk : 0x50700080000000000000000000020000000020000000000000000011547c00c17c0000000000000000000000000000000000002000000000000000000000000000000000000000000000000000000000000000001c7f0009e0c00000000c00000000000000000000000000000000000000000000000000000000000000000000000000000000000000000000000000000000000000000000000000000000000000000000000000000000000000000000000000000000000000000000000000000000000000000000000000000000000000000080 ||| mk = mk) (hIn : Keeps mk sIn s) : Keeps mk sIn (cmdRows ring op hd ret0 ret1 size rows s) := by
  refine Keeps.step hMk ?_ hIn
  unfold cmdRows
  try dsimp only
  repeat' first
    | with_reducible refine Keeps.ite ?_ ?_
    | with_reducible exact Keeps.refl
    | with_reducible assumption
    | ((with_reducible apply cmdDma_keeps); (case hMk => rfl))
    | ((with_reducible apply cmdDone_keeps); (case hMk => rfl))
    | ((with_reducible apply ringPut_keeps); (case hMk => rfl))
    | intro _
    | split
    | dsimp only
    | (refine Keeps.snd ?_ (by with_reducible assumption))

theorem cmdData_keeps {mk : Nat} {sIn : State} (ring : Nat) (op : Nat) (hd : CmdHead) (ret0 : Nat) (ret1 : Nat) (data : List Nat) (s : State) (hMk : 0x50700080000000000000000000020000000020000000000000000011547c00c17c0000000000000000000000000000000000002000000000000000000000000000000000000000000000000000000000000000001c7f0009e0c00000000c00000000000000000000000000000000000000000000000000000000000000000000000000000000000000000000000000000000000000000000000000000000000000000000000000000000000000000000000000000000000000000000000000000000000000000000000000000000000000000080 ||| mk = mk) (hIn : Keeps mk sIn s) : Keeps mk sIn (cmdData ring op hd ret0 ret1 data s) := by
  refine Keeps.step hMk ?_ hIn
  unfold cmdData
  try dsimp only
  repeat' first
    | with_reducible refine Keeps.ite ?_ ?_
    | with_reducible exact Keeps.refl
    | with_reducible assumption
    | ((with_reducible apply cmdRows_keeps); (case hMk => rfl))
    | intro _
    | split
    | dsimp only
    | (refine Keeps.snd ?_ (by with_reducible assumption))

theorem rxWrite_keeps {mk : Nat} {sIn : State} (k : Nat) (d : Desc) (v : RxItem) (s : State) (hMk : 0x50700080000000000000000000020000000020000000000000000011547c00c17c000000000000000000000000000000000000200000000000000000000000000000000000000000000000000000000000000000187f800196c00000000c00000000000000000000000000000000000000000000000000000000000000000000000000000000000000000000000000000000000000000000000000000000000000000000000000000000000000000000000000000000000000000000000000000000000000000000000000000000000000000080 ||| mk = mk) (hIn : Keeps mk sIn s) : Keeps mk sIn (rxWrite k d v s).2 := by
  refine Keeps.step hMk ?_ hIn
  unfold rxWrite
  try dsimp only
  repeat' first
    | with_reducible refine Keeps.ite ?_ ?_
    | with_reducible exact Keeps.refl
    | with_reducible assumption
    | ((with_reducible apply Keeps.inc); (case d => rfl); (case e => rfl))
    | (with_reducible refine Keeps.when _ _ ?_ ?_)
    | ((with_reducible apply dmaFail_keeps); (case hMk => rfl))
    | ((with_reducible apply ringTake_keeps); (case hMk => rfl))
    | ((with_reducible apply slotWrite_keeps); (case hMk => rfl))
    | intro _
    | split
    | dsimp only
    | (refine Keeps.snd ?_ (by with_reducible assumption))

end Sys2Proof.Machine
end

