-- ==== Sys2Proof/Laws/KeepsRadio.lean ====
section
/-!
SUPPORT. What each operation and each meaning changes: the operations of the schedule, the slices, the front ends, the queues and the pair. The mask of each law names the register fields and the parts of the
state, as `Only` reads it.
-/

set_option simprocs false
set_option linter.all false

namespace Sys2Proof.Machine

theorem schedDue_keeps {mk : Nat} {sIn : State} (s : State) (a : Nat) (hMk : 0x280000000000000000000000000000000000000000000000000000000000000000000000000000000000000000000000000000000000000000000000000000000000000000000000000000000000000000000000000000000000000000000000000000000000000000000000000000000000000000000000000000000000000000000000000000000000000000000000000000000000000000000000000000000400000000000000000000000000000000000000400000000000000000000000000000000000000000000000000000000000 ||| mk = mk) (hIn : Keeps mk sIn s) : Keeps mk sIn (schedDue s a) := by
  refine Keeps.step hMk ?_ hIn
  unfold schedDue
  try dsimp only
  repeat' first
    | with_reducible refine Keeps.ite ?_ ?_
    | with_reducible exact Keeps.refl
    | with_reducible assumption
    | ((with_reducible apply Keeps.wr); (case d => rfl); (case e => rfl))
    | ((with_reducible apply Keeps.put); (case d => rfl); (case e => rfl))
    | (with_reducible refine Keeps.each _ _ ?_ ?_)
    | (with_reducible refine Keeps.when _ _ ?_ ?_)
    | intro _
    | split
    | dsimp only
    | (refine Keeps.snd ?_ (by with_reducible assumption))
    | ((with_reducible apply Keeps.set_src); (case e => rfl))
    | ((with_reducible apply Keeps.set_mac); (case e => rfl))

theorem modSrc_keeps {mk : Nat} {sIn : State} (f : Src → Src) (s : State) (hMk : 0x200000000000000000000000000000000000000000000000000000000000000000000000000000000000000000000000000000000000000000000000000000000000000000000000000000000000000000000000000000000000000000000000000000000000000000000000000000000000000000000000000000000000000000000000000000000000000000000000000000000000000000000000000000000000000000000000000000000000000000000000000000000000000000000000000000000000000000000000000000000000 ||| mk = mk) (hIn : Keeps mk sIn s) : Keeps mk sIn (modSrc f s) := by
  refine Keeps.step hMk ?_ hIn
  unfold modSrc
  try dsimp only
  repeat' first
    | with_reducible refine Keeps.ite ?_ ?_
    | with_reducible exact Keeps.refl
    | with_reducible assumption
    | intro _
    | split
    | dsimp only
    | (refine Keeps.snd ?_ (by with_reducible assumption))
    | ((with_reducible apply Keeps.set_src); (case e => rfl))

theorem tokenView_keeps {mk : Nat} {sIn : State} (w : Nat) (s : State) (hMk : 0x200000000000000000000000000000000000000000000000000000000000000000000000000000000000000000000000000000000000000000000000000000000000000000000000000000000000000000000000000000000000000000000000000000000000000000000000000000000000000000000000000000000000000000000000000000000000000000000000000000000000000000000000000010000000000000000000000000000000000000000000000000000000000000000000000000000000000000000000000000000000 ||| mk = mk) (hIn : Keeps mk sIn s) : Keeps mk sIn (tokenView w s) := by
  refine Keeps.step hMk ?_ hIn
  unfold tokenView
  try dsimp only
  repeat' first
    | with_reducible refine Keeps.ite ?_ ?_
    | with_reducible exact Keeps.refl
    | with_reducible assumption
    | ((with_reducible apply Keeps.wr); (case d => rfl); (case e => rfl))
    | ((with_reducible apply modSrc_keeps); (case hMk => rfl))
    | intro _
    | split
    | dsimp only
    | (refine Keeps.snd ?_ (by with_reducible assumption))

theorem stagedView_keeps {mk : Nat} {sIn : State} (s : State) (hMk : 0x1000000000000000000000000000000000000000000000000000000000000000000000000000 ||| mk = mk) (hIn : Keeps mk sIn s) : Keeps mk sIn (stagedView s) := by
  refine Keeps.step hMk ?_ hIn
  unfold stagedView
  try dsimp only
  repeat' first
    | with_reducible refine Keeps.ite ?_ ?_
    | with_reducible exact Keeps.refl
    | with_reducible assumption
    | ((with_reducible apply Keeps.wr); (case d => rfl); (case e => rfl))
    | intro _
    | split
    | dsimp only
    | (refine Keeps.snd ?_ (by with_reducible assumption))

theorem applyStart_keeps {mk : Nat} {sIn : State} (s : State) (hMk : 0x200000000000000000000000000000000000000000000000000000000000000000000000000000000000000000000000000000000000000000000000000000000000000000000000000000000000000000000000000000000000000000000000000000000000000000000000000000000000000000000000000000000000000000000000000000000000000000000000000000000000000000000000000000000000000000000000000000001000000000000000000000000000000000000000000000000000000000000000000000000000 ||| mk = mk) (hIn : Keeps mk sIn s) : Keeps mk sIn (applyStart s) := by
  refine Keeps.step hMk ?_ hIn
  unfold applyStart
  try dsimp only
  repeat' first
    | with_reducible refine Keeps.ite ?_ ?_
    | with_reducible exact Keeps.refl
    | with_reducible assumption
    | ((with_reducible apply modSrc_keeps); (case hMk => rfl))
    | ((with_reducible apply stagedView_keeps); (case hMk => rfl))
    | intro _
    | split
    | dsimp only
    | (refine Keeps.snd ?_ (by with_reducible assumption))

theorem stage_keeps {mk : Nat} {sIn : State} (l : List Change) (s : State) (hMk : 0x200000000000000000000000000000000000000000000000000000000000000000000000000000000000000000000000000000000000000000000000000000000000000000000000000000000000000000000000000000000000000000000000000000000000000000000000000000000000000000000000000000000000000000000000000000000000000000000000000000000000000000000000000000000000000000000000000000001000000000000000000000000000000000000000000000000000000000000000000000000000 ||| mk = mk) (hIn : Keeps mk sIn s) : Keeps mk sIn (stage l s) := by
  refine Keeps.step hMk ?_ hIn
  unfold stage
  try dsimp only
  repeat' first
    | with_reducible refine Keeps.ite ?_ ?_
    | with_reducible exact Keeps.refl
    | with_reducible assumption
    | ((with_reducible apply applyStart_keeps); (case hMk => rfl))
    | ((with_reducible apply modSrc_keeps); (case hMk => rfl))
    | ((with_reducible apply stagedView_keeps); (case hMk => rfl))
    | intro _
    | split
    | dsimp only
    | (refine Keeps.snd ?_ (by with_reducible assumption))

theorem stageCount_keeps {mk : Nat} {sIn : State} (adds : Nat) (dels : Nat) (s : State) (hMk : 0xe00000000000000000000000000000000000000000000000000000000000000000000000000000000000000000000 ||| mk = mk) (hIn : Keeps mk sIn s) : Keeps mk sIn (stageCount adds dels s) := by
  refine Keeps.step hMk ?_ hIn
  unfold stageCount
  try dsimp only
  repeat' first
    | with_reducible refine Keeps.ite ?_ ?_
    | with_reducible exact Keeps.refl
    | with_reducible assumption
    | ((with_reducible apply Keeps.add); (case d => rfl); (case e => rfl))
    | intro _
    | split
    | dsimp only
    | (refine Keeps.snd ?_ (by with_reducible assumption))

theorem modSlice_keeps {mk : Nat} {sIn : State} (k : Nat) (f : Slice → Slice) (s : State) (hMk : 0x20000000000000000000000000000000000000000000000000000000000000000000000000000000000000000000000000000000000000000000000000000000000000000000000000000000000000000000000000000000000000000000000000000000000000000000000000000000000000000000000000000000000000000000000000000000000000000000000000000000000000000000000000000000000000000000000000000000000000000000000000000000000000000000000000000000000000000000000000000000000 ||| mk = mk) (hIn : Keeps mk sIn s) : Keeps mk sIn (modSlice k f s) := by
  refine Keeps.step hMk ?_ hIn
  unfold modSlice
  try dsimp only
  repeat' first
    | with_reducible refine Keeps.ite ?_ ?_
    | with_reducible exact Keeps.refl
    | with_reducible assumption
    | intro _
    | split
    | dsimp only
    | (refine Keeps.snd ?_ (by with_reducible assumption))
    | ((with_reducible apply Keeps.set_slices); (case e => rfl))

theorem engineTake_keeps {mk : Nat} {sIn : State} (e : Nat) (s : State) (hMk : 0x400001400000000000000000000000000000000000000000000000000000000000000000000000000000000000000000000000000000000000000000000000 ||| mk = mk) (hIn : Keeps mk sIn s) : Keeps mk sIn (engineTake e s) := by
  refine Keeps.step hMk ?_ hIn
  unfold engineTake
  try dsimp only
  repeat' first
    | with_reducible refine Keeps.ite ?_ ?_
    | with_reducible exact Keeps.refl
    | with_reducible assumption
    | ((with_reducible apply Keeps.wr); (case d => rfl); (case e => rfl))
    | ((with_reducible apply Keeps.inc); (case d => rfl); (case e => rfl))
    | ((with_reducible apply Keeps.peak); (case d => rfl); (case e => rfl))
    | intro _
    | split
    | dsimp only
    | (refine Keeps.snd ?_ (by with_reducible assumption))

theorem engNonce_keeps {mk : Nat} {sIn : State} (e : Option Nat) (n : List Nat) (s : State) (hMk : 0x800000000000000000000000000000000000000000000000000000000000000000000000000000000000000000000000000000000000000000000000000000000000000000000000000000000000000000000000000000000000000000000000000000000000000000000000000000000000000000000000000000000000000000000000000000000000000000000000000000000000000000000000000000000000000000000000000000000000000000000000000000000000000000000000000000000000000000000000000000000000 ||| mk = mk) (hIn : Keeps mk sIn s) : Keeps mk sIn (engNonce e n s) := by
  refine Keeps.step hMk ?_ hIn
  unfold engNonce
  try dsimp only
  repeat' first
    | with_reducible refine Keeps.ite ?_ ?_
    | with_reducible exact Keeps.refl
    | with_reducible assumption
    | intro _
    | split
    | dsimp only
    | (refine Keeps.snd ?_ (by with_reducible assumption))
    | ((with_reducible apply Keeps.set_sec); (case e => rfl))

theorem engineFree_keeps {mk : Nat} {sIn : State} (e : Option Nat) (s : State) (hMk : 0x400000000000000000000000000000000000000000000000000000000000000000000000000000000000000000000000000000000000000000000000 ||| mk = mk) (hIn : Keeps mk sIn s) : Keeps mk sIn (engineFree e s) := by
  refine Keeps.step hMk ?_ hIn
  unfold engineFree
  try dsimp only
  repeat' first
    | with_reducible refine Keeps.ite ?_ ?_
    | with_reducible exact Keeps.refl
    | with_reducible assumption
    | ((with_reducible apply Keeps.wr); (case d => rfl); (case e => rfl))
    | intro _
    | split
    | dsimp only
    | (refine Keeps.snd ?_ (by with_reducible assumption))

theorem sliceRelease_keeps {mk : Nat} {sIn : State} (k : Nat) (s : State) (hMk : 0x20000000000000000000000000000000000000000000000000000000000000000000000000000000000000000000000000000000000000000000000000000000000000000000000000000000000000000000000000000000000000000000000000000000000000000000000000000000000000000000000000000000000000000000000000000000000000000000000000000000000400000000000000000000000000000000000000000000000000000000000000000000000000000800000000000400000000000000000000000000000 ||| mk = mk) (hIn : Keeps mk sIn s) : Keeps mk sIn (sliceRelease k s) := by
  refine Keeps.step hMk ?_ hIn
  unfold sliceRelease
  try dsimp only
  repeat' first
    | with_reducible refine Keeps.ite ?_ ?_
    | with_reducible exact Keeps.refl
    | with_reducible assumption
    | ((with_reducible apply Keeps.wr); (case d => rfl); (case e => rfl))
    | ((with_reducible apply Keeps.sub); (case d => rfl); (case e => rfl))
    | ((with_reducible apply engineFree_keeps); (case hMk => rfl))
    | ((with_reducible apply modSlice_keeps); (case hMk => rfl))
    | intro _
    | split
    | dsimp only
    | (refine Keeps.snd ?_ (by with_reducible assumption))

theorem discardFrames_keeps {mk : Nat} {sIn : State} (n : Nat) (s : State) (hMk : 0x20000000000000000000000000000000000000000000000000000000000000000000000000000000000000000000000000000000000000000000000000000000000000000000000000000000000000000000000000000000000000000000000000000000000000000000000000000000000000000000000000000000000000000000000000000000000000000000000000000000000400000000000000000000000000000000000000000000000000000000000000000000000000000800000000000400000000004000000000000000000 ||| mk = mk) (hIn : Keeps mk sIn s) : Keeps mk sIn (discardFrames n s) := by
  refine Keeps.step hMk ?_ hIn
  unfold discardFrames
  try dsimp only
  repeat' first
    | with_reducible refine Keeps.ite ?_ ?_
    | with_reducible exact Keeps.refl
    | with_reducible assumption
    | ((with_reducible apply Keeps.inc); (case d => rfl); (case e => rfl))
    | (with_reducible refine Keeps.each _ _ ?_ ?_)
    | ((with_reducible apply sliceRelease_keeps); (case hMk => rfl))
    | intro _
    | split
    | dsimp only
    | (refine Keeps.snd ?_ (by with_reducible assumption))

theorem plansLatch_keeps {mk : Nat} {sIn : State} (s : State) (hMk : 0x10000000000000000000000000000000000000000000000000000000000000000000000000000000000000000000000000000000000000000000000000000000000000000000000000000000000000000000000000000000000000000000000000000000000000000000000000000000000000000000000000000000000000000000000000000000000000000000000000000000000000000000000000000000000000000000000000000000000000000000000000000000000000000000000000000000000000000000000000000000000000000 ||| mk = mk) (hIn : Keeps mk sIn s) : Keeps mk sIn (plansLatch s) := by
  refine Keeps.step hMk ?_ hIn
  unfold plansLatch
  try dsimp only
  repeat' first
    | with_reducible refine Keeps.ite ?_ ?_
    | with_reducible exact Keeps.refl
    | with_reducible assumption
    | intro _
    | split
    | dsimp only
    | (refine Keeps.snd ?_ (by with_reducible assumption))
    | ((with_reducible apply Keeps.set_plans); (case e => rfl))

theorem assignSniffers_keeps {mk : Nat} {sIn : State} (s : State) (hMk : 0x15010040000000000000000000000000000000000000000000000000000000000000000000000000000000000000000000000002000000000000000000000000000000000000000000000000000000000000000001867000180800000000800000000000000000000000000000000000000000000000000000000000000000000000000000000000000000000000000000000000000000000000000000000000000000000000000000000000000000000000000000000000000000000000000180000000010007800000000000000000000000000 ||| mk = mk) (hIn : Keeps mk sIn s) : Keeps mk sIn (assignSniffers s) := by
  refine Keeps.step hMk ?_ hIn
  unfold assignSniffers
  try dsimp only
  repeat' first
    | with_reducible refine Keeps.ite ?_ ?_
    | with_reducible exact Keeps.refl
    | with_reducible assumption
    | ((with_reducible apply Keeps.wr); (case d => rfl); (case e => rfl))
    | ((with_reducible apply Keeps.put); (case d => rfl); (case e => rfl))
    | (with_reducible refine Keeps.each _ _ ?_ ?_)
    | ((with_reducible apply plansLatch_keeps); (case hMk => rfl))
    | ((with_reducible apply raise_keeps); (case d => rfl); (case hMk => rfl); (case hMk2 => rfl))
    | intro _
    | split
    | dsimp only
    | (refine Keeps.snd ?_ (by with_reducible assumption))
    | ((with_reducible apply Keeps.set_sniffers); (case e => rfl))

theorem replan_keeps {mk : Nat} {sIn : State} (s : State) (hMk : 0x15010040000000000000000000000000000000000000000000000000000000000000000000000000000000000000000000000002000000000000000000000000000000000000000000000000000000000000000001867000180800000000800000000000000000000000000000000000000000000000000000000000000000000000000000000000000000000000000000000000000000000000000000000000000000000000000000000000000000000000000000000000000000000000000180000000010007800000000000000000000000000 ||| mk = mk) (hIn : Keeps mk sIn s) : Keeps mk sIn (replan s) := by
  refine Keeps.step hMk ?_ hIn
  unfold replan
  try dsimp only
  repeat' first
    | with_reducible refine Keeps.ite ?_ ?_
    | with_reducible exact Keeps.refl
    | with_reducible assumption
    | ((with_reducible apply assignSniffers_keeps); (case hMk => rfl))
    | intro _
    | split
    | dsimp only
    | (refine Keeps.snd ?_ (by with_reducible assumption))

theorem feGo_keeps {mk : Nat} {sIn : State} (n : Nat) (st : Nat) (s : State) (hMk : 0x20000000000000000000000000000000000000000000000000000000000000000000000000000000000000000000000000000000000000000000000000000000000000000000000000000000000000000000000000000000000000000000000000000000000000000000000000000000000000000000000000000000000000000000000000000000000000000000000000000000000400000000000000000000000000000000000000000000000000000000000000000000000000000800000000000400000000004000000000000000080 ||| mk = mk) (hIn : Keeps mk sIn s) : Keeps mk sIn (feGo n st s) := by
  refine Keeps.step hMk ?_ hIn
  unfold feGo
  try dsimp only
  repeat' first
    | with_reducible refine Keeps.ite ?_ ?_
    | with_reducible exact Keeps.refl
    | with_reducible assumption
    | ((with_reducible apply Keeps.wr); (case d => rfl); (case e => rfl))
    | ((with_reducible apply discardFrames_keeps); (case hMk => rfl))
    | intro _
    | split
    | dsimp only
    | (refine Keeps.snd ?_ (by with_reducible assumption))

theorem calView_keeps {mk : Nat} {sIn : State} (n : Nat) (s : State) (hMk : 0x800200 ||| mk = mk) (hIn : Keeps mk sIn s) : Keeps mk sIn (calView n s) := by
  refine Keeps.step hMk ?_ hIn
  unfold calView
  try dsimp only
  repeat' first
    | with_reducible refine Keeps.ite ?_ ?_
    | with_reducible exact Keeps.refl
    | with_reducible assumption
    | ((with_reducible apply Keeps.wr); (case d => rfl); (case e => rfl))
    | ((with_reducible apply Keeps.put); (case d => rfl); (case e => rfl))
    | intro _
    | split
    | dsimp only
    | (refine Keeps.snd ?_ (by with_reducible assumption))

theorem calBegin_keeps {mk : Nat} {sIn : State} (n : Nat) (k : Nat) (a : Nat) (s : State) (hMk : 0x8000000000000000000000000000000000000000000000000000000000000000000000000000000000000000000000000000000000000000000000000000000000000000000000000000000000000000000000000000000000000000000000000000000000000000000000000000000000000000000000000000000000000000000000000000000000000000000000000000000000000000000000000000000000000000000000000000000000000000000000000000000000000000000000000000000000000000000000000000600000 ||| mk = mk) (hIn : Keeps mk sIn s) : Keeps mk sIn (calBegin n k a s) := by
  refine Keeps.step hMk ?_ hIn
  unfold calBegin
  try dsimp only
  repeat' first
    | with_reducible refine Keeps.ite ?_ ?_
    | with_reducible exact Keeps.refl
    | with_reducible assumption
    | ((with_reducible apply Keeps.wr); (case d => rfl); (case e => rfl))
    | ((with_reducible apply Keeps.put); (case d => rfl); (case e => rfl))
    | ((with_reducible apply Keeps.modFe); (case e => rfl))
    | intro _
    | split
    | dsimp only
    | (refine Keeps.snd ?_ (by with_reducible assumption))

theorem calStart_keeps {mk : Nat} {sIn : State} (n : Nat) (kind : RunKind) (steps : List Nat) (quietEnd : Nat) (s : State) (hMk : 0x28000000000000000000000000000000000000000000000000000000000000000000000000000000000000000000000000000000000000000000000000000000000000000000000000000000000000000000000000000000000000000000000000000000000000000000000000000000000000000000000000000000000000000000000000000000000000000000000000000000000400000000000000000000000000000000000000000000000000000000000000000000000000000800000000000400000000004000000000001f00380 ||| mk = mk) (hIn : Keeps mk sIn s) : Keeps mk sIn (calStart n kind steps quietEnd s) := by
  refine Keeps.step hMk ?_ hIn
  unfold calStart
  try dsimp only
  repeat' first
    | with_reducible refine Keeps.ite ?_ ?_
    | with_reducible exact Keeps.refl
    | with_reducible assumption
    | ((with_reducible apply Keeps.wr); (case d => rfl); (case e => rfl))
    | ((with_reducible apply Keeps.put); (case d => rfl); (case e => rfl))
    | ((with_reducible apply Keeps.modFe); (case e => rfl))
    | ((with_reducible apply calBegin_keeps); (case hMk => rfl))
    | ((with_reducible apply calView_keeps); (case hMk => rfl))
    | ((with_reducible apply feGo_keeps); (case hMk => rfl))
    | intro _
    | split
    | dsimp only
    | (refine Keeps.snd ?_ (by with_reducible assumption))

theorem moveStart_keeps {mk : Nat} {sIn : State} (n : Nat) (centre : Nat) (s : State) (hMk : 0x15010068000000000000000000000000000000000000000000000000000000000000000000000000000000000000000000000002000000000000000000000000000000000000000000000000000000000000000001867000180800000000800000000000000000000000000000000000000000000000000000000000000000000000000000000000000000000000000000000000000000000400000000000000000000000000000000000000000000000000000000000000000000000000000980000000010407800000084000000000000000180 ||| mk = mk) (hIn : Keeps mk sIn s) : Keeps mk sIn (moveStart n centre s) := by
  refine Keeps.step hMk ?_ hIn
  unfold moveStart
  try dsimp only
  repeat' first
    | with_reducible refine Keeps.ite ?_ ?_
    | with_reducible exact Keeps.refl
    | with_reducible assumption
    | ((with_reducible apply Keeps.put); (case d => rfl); (case e => rfl))
    | ((with_reducible apply Keeps.inc); (case d => rfl); (case e => rfl))
    | ((with_reducible apply Keeps.modFe); (case e => rfl))
    | ((with_reducible apply feGo_keeps); (case hMk => rfl))
    | ((with_reducible apply replan_keeps); (case hMk => rfl))
    | intro _
    | split
    | dsimp only
    | (refine Keeps.snd ?_ (by with_reducible assumption))

theorem pendMove_keeps {mk : Nat} {sIn : State} (n : Nat) (s : State) (hMk : 0x15010068000000000000000000000000000000000000000000000000000000000000000000000000000000000000000000000002000000000000000000000000000000000000000000000000000000000000000001867000180800000000800000000000000000000000000000000000000000000000000000000000000000000000000000000000000000000000000000000000000000000400000000000000000000000000000000000000000000000000000000000000000000000000000980000000010407800000084000000000000004180 ||| mk = mk) (hIn : Keeps mk sIn s) : Keeps mk sIn (pendMove n s) := by
  refine Keeps.step hMk ?_ hIn
  unfold pendMove
  try dsimp only
  repeat' first
    | with_reducible refine Keeps.ite ?_ ?_
    | with_reducible exact Keeps.refl
    | with_reducible assumption
    | ((with_reducible apply Keeps.put); (case d => rfl); (case e => rfl))
    | ((with_reducible apply Keeps.modFe); (case e => rfl))
    | ((with_reducible apply moveStart_keeps); (case hMk => rfl))
    | intro _
    | split
    | dsimp only
    | (refine Keeps.snd ?_ (by with_reducible assumption))

theorem moveHome_keeps {mk : Nat} {sIn : State} (n : Nat) (s : State) (hMk : 0x15010068000000000000000000000000000000000000000000000000000000000000000000000000000000000000000000000002000000000000000000000000000000000000000000000000000000000000000001867000180800000000800000000000000000000000000000000000000000000000000000000000000000000000000000000000000000000000000000000000000000000400000000000000000000000000000000000000000000000000000000000000000000000000000980000000010407800000084000000000000004180 ||| mk = mk) (hIn : Keeps mk sIn s) : Keeps mk sIn (moveHome n s) := by
  refine Keeps.step hMk ?_ hIn
  unfold moveHome
  try dsimp only
  repeat' first
    | with_reducible refine Keeps.ite ?_ ?_
    | with_reducible exact Keeps.refl
    | with_reducible assumption
    | ((with_reducible apply Keeps.modFe); (case e => rfl))
    | ((with_reducible apply pendMove_keeps); (case hMk => rfl))
    | intro _
    | split
    | dsimp only
    | (refine Keeps.snd ?_ (by with_reducible assumption))

theorem feReachRx_keeps {mk : Nat} {sIn : State} (n : Nat) (s : State) (hMk : 0x15010068000000000000000000000000000000000000000000000000000000000000000000000000000000000000000000000002000000000000000000000000000000000000000000000000000000000000000001867000180800000000800000000000000000000000000000000000000000000000000000000000000000000000000000000000000000000000000000000000000000000400000000000000000000000000000000000000000000000000000000000000000000000000000980000000010407800000084000000000001f04380 ||| mk = mk) (hIn : Keeps mk sIn s) : Keeps mk sIn (feReachRx n s) := by
  refine Keeps.step hMk ?_ hIn
  unfold feReachRx
  try dsimp only
  repeat' first
    | with_reducible refine Keeps.ite ?_ ?_
    | with_reducible exact Keeps.refl
    | with_reducible assumption
    | ((with_reducible apply Keeps.wr); (case d => rfl); (case e => rfl))
    | ((with_reducible apply Keeps.put); (case d => rfl); (case e => rfl))
    | ((with_reducible apply Keeps.modFe); (case e => rfl))
    | ((with_reducible apply calStart_keeps); (case hMk => rfl))
    | ((with_reducible apply moveHome_keeps); (case hMk => rfl))
    | intro _
    | split
    | dsimp only
    | (refine Keeps.snd ?_ (by with_reducible assumption))

theorem calBack_keeps {mk : Nat} {sIn : State} (n : Nat) (s : State) (hMk : 0x15010068000000000000000000000000000000000000000000000000000000000000000000000000000000000000000000000002000000000000000000000000000000000000000000000000000000000000000001867000180800000000800000000000000000000000000000000000000000000000000000000000000000000000000000000000000000000000000000000000000000000400000000000000000000000000000000000000000000000000000000000000000000000000000980000000010407800000084000000000001f04380 ||| mk = mk) (hIn : Keeps mk sIn s) : Keeps mk sIn (calBack n s) := by
  refine Keeps.step hMk ?_ hIn
  unfold calBack
  try dsimp only
  repeat' first
    | with_reducible refine Keeps.ite ?_ ?_
    | with_reducible exact Keeps.refl
    | with_reducible assumption
    | ((with_reducible apply feReachRx_keeps); (case hMk => rfl))
    | ((with_reducible apply pendMove_keeps); (case hMk => rfl))
    | intro _
    | split
    | dsimp only
    | (refine Keeps.snd ?_ (by with_reducible assumption))

theorem dcView_keeps {mk : Nat} {sIn : State} (r : Nat) (before : Nat) (s : State) (hMk : 0x5010000000000000000000000000000000000000000000000000000000000000000000000000000000000000000000000000002000000000000000000000000000000000000000000000000000000000000000001867000180800000000800000000000000000000000000000000000000000000000000000000000000000000000000000000000000000000000000000000000000000000000000000000000000000000000000000000000000000000000000000000000000000000000000000000000000000000080000000080000000000000 ||| mk = mk) (hIn : Keeps mk sIn s) : Keeps mk sIn (dcView r before s) := by
  refine Keeps.step hMk ?_ hIn
  unfold dcView
  try dsimp only
  repeat' first
    | with_reducible refine Keeps.ite ?_ ?_
    | with_reducible exact Keeps.refl
    | with_reducible assumption
    | ((with_reducible apply Keeps.wr); (case d => rfl); (case e => rfl))
    | ((with_reducible apply raise_keeps); (case d => rfl); (case hMk => rfl); (case hMk2 => rfl))
    | intro _
    | split
    | dsimp only
    | (refine Keeps.snd ?_ (by with_reducible assumption))

theorem dcCharge_keeps {mk : Nat} {sIn : State} (r : Nat) (a : Nat) (e : Nat) (s : State) (hMk : 0x5010010000000000000000000000000000000000000000000000000000000000000000000000000000000000000000000000002000000000000000000000000000000000000000000000000000000000000000001867000180800000000800000000000000000000000000000000000000000000000000000000000000000000000000000000000000000000000000000000000000000000000000000000000000000000000000000000000000000000000000000000000000000000000000000000000000000000080000000080000000000000 ||| mk = mk) (hIn : Keeps mk sIn s) : Keeps mk sIn (dcCharge r a e s) := by
  refine Keeps.step hMk ?_ hIn
  unfold dcCharge
  try dsimp only
  repeat' first
    | with_reducible refine Keeps.ite ?_ ?_
    | with_reducible exact Keeps.refl
    | with_reducible assumption
    | ((with_reducible apply dcView_keeps); (case hMk => rfl))
    | intro _
    | split
    | dsimp only
    | (refine Keeps.snd ?_ (by with_reducible assumption))
    | ((with_reducible apply Keeps.set_dc); (case e => rfl))

theorem cwCharge_keeps {mk : Nat} {sIn : State} (n : Nat) (s : State) (hMk : 0x5010018000000000000000000000000000000000000000000000000000000000000000000000000000000000000000000000002000000000000000000000000000000000000000000000000000000000000000001867000180800000000800000000000000000000000000000000000000000000000000000000000000000000000000000000000000000000000000000000000000000000000000000000000000000000000000000000000000000000000000000000000000000000000000000000000000000000080000000080000000000000 ||| mk = mk) (hIn : Keeps mk sIn s) : Keeps mk sIn (cwCharge n s) := by
  refine Keeps.step hMk ?_ hIn
  unfold cwCharge
  try dsimp only
  repeat' first
    | with_reducible refine Keeps.ite ?_ ?_
    | with_reducible exact Keeps.refl
    | with_reducible assumption
    | (with_reducible refine Keeps.each _ _ ?_ ?_)
    | ((with_reducible apply Keeps.modFe); (case e => rfl))
    | ((with_reducible apply dcCharge_keeps); (case hMk => rfl))
    | intro _
    | split
    | dsimp only
    | (refine Keeps.snd ?_ (by with_reducible assumption))

theorem State.air_keeps {mk : Nat} {sIn : State} (s : State) (t : Nat) (hMk : 0xd010018100000000000000000000000000000000000000000000000000000000000000000000000000000000000000000000002000000000000000000000000000000000000000000000000000000000000000001867000180800000000800000000000000000000000000000000000000000000000000000000000000000000000000000000000000000000000000000000000000000000000000000000000000000000000000000000000000000000000000000000000000000000000000000000000000000000080000000080000000000000 ||| mk = mk) (hIn : Keeps mk sIn s) : Keeps mk sIn (State.air s t) := by
  refine Keeps.step hMk ?_ hIn
  unfold State.air
  try dsimp only
  repeat' first
    | with_reducible refine Keeps.ite ?_ ?_
    | with_reducible exact Keeps.refl
    | with_reducible assumption
    | ((with_reducible apply Keeps.at); (case e => rfl); (case e2 => rfl))
    | (with_reducible refine Keeps.each _ _ ?_ ?_)
    | ((with_reducible apply cwCharge_keeps); (case hMk => rfl))
    | intro _
    | split
    | dsimp only
    | (refine Keeps.snd ?_ (by with_reducible assumption))

theorem airCount_keeps {mk : Nat} {sIn : State} (n : Nat) (s : State) (hMk : 0x8000000000000000000000000000000000000000000000000000000000000000000000000000000000000000000000000000000000000000000000000000000000000000000000000000000000000000000000000000000000000000000000000000000000000000000000000000000000000000000000000000000000000000000000000000000000000000000000000000000000000000000000000000000000000000000000000000000000000000000000000000000000000000000000000000000000000000800000000000000000 ||| mk = mk) (hIn : Keeps mk sIn s) : Keeps mk sIn (airCount n s) := by
  refine Keeps.step hMk ?_ hIn
  unfold airCount
  try dsimp only
  repeat' first
    | with_reducible refine Keeps.ite ?_ ?_
    | with_reducible exact Keeps.refl
    | with_reducible assumption
    | ((with_reducible apply Keeps.addSat); (case d => rfl); (case e => rfl))
    | ((with_reducible apply Keeps.modFe); (case e => rfl))
    | intro _
    | split
    | dsimp only
    | (refine Keeps.snd ?_ (by with_reducible assumption))

theorem coverPhase_keeps {mk : Nat} {sIn : State} (p : Nat) (s : State) (hMk : 0x10000000 ||| mk = mk) (hIn : Keeps mk sIn s) : Keeps mk sIn (coverPhase p s) := by
  refine Keeps.step hMk ?_ hIn
  unfold coverPhase
  try dsimp only
  repeat' first
    | with_reducible refine Keeps.ite ?_ ?_
    | with_reducible exact Keeps.refl
    | with_reducible assumption
    | ((with_reducible apply Keeps.wr); (case d => rfl); (case e => rfl))
    | intro _
    | split
    | dsimp only
    | (refine Keeps.snd ?_ (by with_reducible assumption))

theorem coverUnlink_keeps {mk : Nat} {sIn : State} (n : Nat) (s : State) (hMk : 0xc00 ||| mk = mk) (hIn : Keeps mk sIn s) : Keeps mk sIn (coverUnlink n s) := by
  refine Keeps.step hMk ?_ hIn
  unfold coverUnlink
  try dsimp only
  repeat' first
    | with_reducible refine Keeps.ite ?_ ?_
    | with_reducible exact Keeps.refl
    | with_reducible assumption
    | ((with_reducible apply Keeps.put); (case d => rfl); (case e => rfl))
    | intro _
    | split
    | dsimp only
    | (refine Keeps.snd ?_ (by with_reducible assumption))

theorem coverReturn_keeps {mk : Nat} {sIn : State} (c : Nat) (s : State) (hMk : 0x15010068000000000000000000000000000000000000000000000000000000000000000000000000000000000000000000000002000000000000000000000000000000000000000000000000000000000000000001867000180800000000800000000000000000000000000000000000000000000000000000000000000000000000000000000000000000000000000000000000000000000400000000000000000000000000000000000000000000000000000000000000000000000000000980000000010407800000084000000000000004180 ||| mk = mk) (hIn : Keeps mk sIn s) : Keeps mk sIn (coverReturn c s) := by
  refine Keeps.step hMk ?_ hIn
  unfold coverReturn
  try dsimp only
  repeat' first
    | with_reducible refine Keeps.ite ?_ ?_
    | with_reducible exact Keeps.refl
    | with_reducible assumption
    | ((with_reducible apply Keeps.put); (case d => rfl); (case e => rfl))
    | ((with_reducible apply Keeps.modFe); (case e => rfl))
    | ((with_reducible apply moveHome_keeps); (case hMk => rfl))
    | intro _
    | split
    | dsimp only
    | (refine Keeps.snd ?_ (by with_reducible assumption))

theorem coverAbort_keeps {mk : Nat} {sIn : State} (s : State) (hMk : 0x8000000000000000000000000000000000000000000000000000000000000000000000000000000000000000000000000000000000000000000000000000000000000000000000000000000000000000000000000000000000000000000000000000000000000000000000000000000000000000000000000000000000000000000000000000000000000000000000000000000000000000000000000000000000000000000000000000000000000000000000000000000000000000000000000000000000000000000000000030000000 ||| mk = mk) (hIn : Keeps mk sIn s) : Keeps mk sIn (coverAbort s) := by
  refine Keeps.step hMk ?_ hIn
  unfold coverAbort
  try dsimp only
  repeat' first
    | with_reducible refine Keeps.ite ?_ ?_
    | with_reducible exact Keeps.refl
    | with_reducible assumption
    | ((with_reducible apply Keeps.put); (case d => rfl); (case e => rfl))
    | ((with_reducible apply Keeps.modFe); (case e => rfl))
    | ((with_reducible apply coverPhase_keeps); (case hMk => rfl))
    | intro _
    | split
    | dsimp only
    | (refine Keeps.snd ?_ (by with_reducible assumption))

theorem feOff_keeps {mk : Nat} {sIn : State} (n : Nat) (s : State) (hMk : 0x5010138000000000000000000000000000000000000000000000000000000000000000000000000000000000000000000000002000000000000000000000000000000000000000000000000000000000000000001867000180800000000800000000000000000000000000000000000000000000000000000000000000000000000000000000000000000000000000000000000000000000400000000000000000000000000000000000000000000000000000000000000000000000000000800000000000400000080004800080000000e04380 ||| mk = mk) (hIn : Keeps mk sIn s) : Keeps mk sIn (feOff n s) := by
  refine Keeps.step hMk ?_ hIn
  unfold feOff
  try dsimp only
  repeat' first
    | with_reducible refine Keeps.ite ?_ ?_
    | with_reducible exact Keeps.refl
    | with_reducible assumption
    | ((with_reducible apply Keeps.wr); (case d => rfl); (case e => rfl))
    | ((with_reducible apply Keeps.put); (case d => rfl); (case e => rfl))
    | ((with_reducible apply Keeps.modFe); (case e => rfl))
    | (with_reducible refine Keeps.when _ _ ?_ ?_)
    | ((with_reducible apply airCount_keeps); (case hMk => rfl))
    | ((with_reducible apply calView_keeps); (case hMk => rfl))
    | ((with_reducible apply cwCharge_keeps); (case hMk => rfl))
    | ((with_reducible apply feGo_keeps); (case hMk => rfl))
    | intro _
    | split
    | dsimp only
    | (refine Keeps.snd ?_ (by with_reducible assumption))
    | ((with_reducible apply Keeps.set_lanes); (case e => rfl))

theorem coverResolve_keeps {mk : Nat} {sIn : State} (n : Nat) (s : State) (hMk : 0x15010068000000000000000000000000000000000000000000000000000000000000000000000000000000000000000000000002000000000000000000000000000000000000000000000000000000000000000001867000180800000000800000000000000000000000000000000000000000000000000000000000000000000000000000000000000000000000000000000000000000000400000000000000000000000000000000000000000000000000000000000000000000000000000980000000010407800000084000000000070004d80 ||| mk = mk) (hIn : Keeps mk sIn s) : Keeps mk sIn (coverResolve n s) := by
  refine Keeps.step hMk ?_ hIn
  unfold coverResolve
  try dsimp only
  repeat' first
    | with_reducible refine Keeps.ite ?_ ?_
    | with_reducible exact Keeps.refl
    | with_reducible assumption
    | ((with_reducible apply Keeps.put); (case d => rfl); (case e => rfl))
    | ((with_reducible apply Keeps.inc); (case d => rfl); (case e => rfl))
    | ((with_reducible apply Keeps.modFe); (case e => rfl))
    | (with_reducible refine Keeps.when _ _ ?_ ?_)
    | ((with_reducible apply coverAbort_keeps); (case hMk => rfl))
    | ((with_reducible apply coverPhase_keeps); (case hMk => rfl))
    | ((with_reducible apply coverReturn_keeps); (case hMk => rfl))
    | ((with_reducible apply coverUnlink_keeps); (case hMk => rfl))
    | intro _
    | split
    | dsimp only
    | (refine Keeps.snd ?_ (by with_reducible assumption))

theorem feStop_keeps {mk : Nat} {sIn : State} (n : Nat) (s : State) (hMk : 0x15010178000000000000000000000000000000000000000000000000000000000000000000000000000000000000000000000002000000000000000000000000000000000000000000000000000000000000000001867000180800000000800000000000000000000000000000000000000000000000000000000000000000000000000000000000000000000000000000000000000000000400000000000000000000000000000000000000000000000000000000000000000000000000000980000000010407800080084800080000070e04f80 ||| mk = mk) (hIn : Keeps mk sIn s) : Keeps mk sIn (feStop n s) := by
  refine Keeps.step hMk ?_ hIn
  unfold feStop
  try dsimp only
  repeat' first
    | with_reducible refine Keeps.ite ?_ ?_
    | with_reducible exact Keeps.refl
    | with_reducible assumption
    | ((with_reducible apply coverResolve_keeps); (case hMk => rfl))
    | ((with_reducible apply feOff_keeps); (case hMk => rfl))
    | intro _
    | split
    | dsimp only
    | (refine Keeps.snd ?_ (by with_reducible assumption))

theorem calIdle_keeps {mk : Nat} {sIn : State} (n : Nat) (e : Nat) (s : State) (hMk : 0x8000000000000000000000000000000000000000000000000000000000000000000000000000000000000000000000000000000000000000000000000000000000000000000000000000000000000000000000000000000000000000000000000000000000000000000000000000000000000000000000000000000000000000000000000000000000000000000000000000000000000000000000000000000000000000000000000000000000000000000000000000000000000000000000000000000000000000000000000008600000 ||| mk = mk) (hIn : Keeps mk sIn s) : Keeps mk sIn (calIdle n e s) := by
  refine Keeps.step hMk ?_ hIn
  unfold calIdle
  try dsimp only
  repeat' first
    | with_reducible refine Keeps.ite ?_ ?_
    | with_reducible exact Keeps.refl
    | with_reducible assumption
    | ((with_reducible apply Keeps.wr); (case d => rfl); (case e => rfl))
    | ((with_reducible apply Keeps.put); (case d => rfl); (case e => rfl))
    | ((with_reducible apply Keeps.modFe); (case e => rfl))
    | intro _
    | split
    | dsimp only
    | (refine Keeps.snd ?_ (by with_reducible assumption))

theorem calEnd_keeps {mk : Nat} {sIn : State} (n : Nat) (e : Nat) (s : State) (hMk : 0x150100680000000000000000000000000000000000000000000000000000000000000000000000000000000000000000000000020000000000000000000000000000000000000000000000000000000000000000018670001808000000008000000000000000000000000000000000000000000000000000000000000000000000000000000000000000000000000000000000000000000004000000000000000000000000000000000000000000000000000000000000000000000000000009800000000104078000000c400001000000df04380 ||| mk = mk) (hIn : Keeps mk sIn s) : Keeps mk sIn (calEnd n e s) := by
  refine Keeps.step hMk ?_ hIn
  unfold calEnd
  try dsimp only
  repeat' first
    | with_reducible refine Keeps.ite ?_ ?_
    | with_reducible exact Keeps.refl
    | with_reducible assumption
    | ((with_reducible apply Keeps.wr); (case d => rfl); (case e => rfl))
    | ((with_reducible apply Keeps.put); (case d => rfl); (case e => rfl))
    | ((with_reducible apply Keeps.inc); (case d => rfl); (case e => rfl))
    | ((with_reducible apply Keeps.modFe); (case e => rfl))
    | ((with_reducible apply calBack_keeps); (case hMk => rfl))
    | ((with_reducible apply calIdle_keeps); (case hMk => rfl))
    | ((with_reducible apply calView_keeps); (case hMk => rfl))
    | ((with_reducible apply raise_keeps); (case d => rfl); (case hMk => rfl); (case hMk2 => rfl))
    | intro _
    | split
    | dsimp only
    | (refine Keeps.snd ?_ (by with_reducible assumption))

theorem calPause_keeps {mk : Nat} {sIn : State} (n : Nat) (e : Nat) (s : State) (hMk : 0x15010068000000000000000000000000000000000000000000000000000000000000000000000000000000000000000000000002000000000000000000000000000000000000000000000000000000000000000001867000180800000000800000000000000000000000000000000000000000000000000000000000000000000000000000000000000000000000000000000000000000000400000000000000000000000000000000000000000000000000000000000000000000000000000980000000010407800000084000000000009f04380 ||| mk = mk) (hIn : Keeps mk sIn s) : Keeps mk sIn (calPause n e s) := by
  refine Keeps.step hMk ?_ hIn
  unfold calPause
  try dsimp only
  repeat' first
    | with_reducible refine Keeps.ite ?_ ?_
    | with_reducible exact Keeps.refl
    | with_reducible assumption
    | ((with_reducible apply calBack_keeps); (case hMk => rfl))
    | ((with_reducible apply calIdle_keeps); (case hMk => rfl))
    | ((with_reducible apply calView_keeps); (case hMk => rfl))
    | intro _
    | split
    | dsimp only
    | (refine Keeps.snd ?_ (by with_reducible assumption))

theorem calNext_keeps {mk : Nat} {sIn : State} (n : Nat) (e : Nat) (s : State) (hMk : 0x150100680000000000000000000000000000000000000000000000000000000000000000000000000000000000000000000000020000000000000000000000000000000000000000000000000000000000000000018670001808000000008000000000000000000000000000000000000000000000000000000000000000000000000000000000000000000000000000000000000000000004000000000000000000000000000000000000000000000000000000000000000000000000000009800000000104078000000c400001000000df04380 ||| mk = mk) (hIn : Keeps mk sIn s) : Keeps mk sIn (calNext n e s) := by
  refine Keeps.step hMk ?_ hIn
  unfold calNext
  try dsimp only
  repeat' first
    | with_reducible refine Keeps.ite ?_ ?_
    | with_reducible exact Keeps.refl
    | with_reducible assumption
    | ((with_reducible apply Keeps.modFe); (case e => rfl))
    | ((with_reducible apply calBegin_keeps); (case hMk => rfl))
    | ((with_reducible apply calEnd_keeps); (case hMk => rfl))
    | ((with_reducible apply calPause_keeps); (case hMk => rfl))
    | ((with_reducible apply calView_keeps); (case hMk => rfl))
    | intro _
    | split
    | dsimp only
    | (refine Keeps.snd ?_ (by with_reducible assumption))

theorem calResult_keeps {mk : Nat} {sIn : State} (n : Nat) (k : Nat) (s : State) (hMk : 0x400000000000000000000000000000000000000000000000000000000000000000000000000000000000000000000000000000000000000000000000000000000000000000000000000000000000000000000000000000000000000000000000000000000000000000000000000000000000000000000000000000000000000000000000000000000000000000000000000000000000000000000000000000000000000000000000000000000000000000000000000000000000000000000000000000000600000000000000000000000 ||| mk = mk) (hIn : Keeps mk sIn s) : Keeps mk sIn (calResult n k s) := by
  refine Keeps.step hMk ?_ hIn
  unfold calResult
  try dsimp only
  repeat' first
    | with_reducible refine Keeps.ite ?_ ?_
    | with_reducible exact Keeps.refl
    | with_reducible assumption
    | ((with_reducible apply Keeps.wrFree); (case d => rfl); (case e => rfl); (case e2 => rfl))
    | (with_reducible refine Keeps.each _ _ ?_ ?_)
    | intro _
    | split
    | dsimp only
    | (refine Keeps.snd ?_ (by with_reducible assumption))

theorem coverTick_keeps {mk : Nat} {sIn : State} (n : Nat) (s : State) (hMk : 0x15010068000000000000000000000000000000000000000000000000000000000000000000000000000000000000000000000002000000000000000000000000000000000000000000000000000000000000000001867000180800000000800000000000000000000000000000000000000000000000000000000000000000000000000000000000000000000000000000000000000000000400000000000000000000000000000000000000000000000000000000000000000000000000000980000000010407800000084000000000031f04f80 ||| mk = mk) (hIn : Keeps mk sIn s) : Keeps mk sIn (coverTick n s) := by
  refine Keeps.step hMk ?_ hIn
  unfold coverTick
  try dsimp only
  repeat' first
    | with_reducible refine Keeps.ite ?_ ?_
    | with_reducible exact Keeps.refl
    | with_reducible assumption
    | ((with_reducible apply Keeps.put); (case d => rfl); (case e => rfl))
    | ((with_reducible apply Keeps.modFe); (case e => rfl))
    | ((with_reducible apply calBack_keeps); (case hMk => rfl))
    | ((with_reducible apply calStart_keeps); (case hMk => rfl))
    | ((with_reducible apply coverPhase_keeps); (case hMk => rfl))
    | ((with_reducible apply coverReturn_keeps); (case hMk => rfl))
    | ((with_reducible apply coverUnlink_keeps); (case hMk => rfl))
    | ((with_reducible apply discardFrames_keeps); (case hMk => rfl))
    | ((with_reducible apply moveStart_keeps); (case hMk => rfl))
    | intro _
    | split
    | dsimp only
    | (refine Keeps.snd ?_ (by with_reducible assumption))

theorem coverLate_keeps {mk : Nat} {sIn : State} (n : Nat) (s : State) (hMk : 0x15010068000000000000000000000000000000000000000000000000000000000000000000000000000000000000000000000002000000000000000000000000000000000000000000000000000000000000000001867000180800000000800000000000000000000000000000000000000000000000000000000000000000000000000000000000000000000000000000000000000000000400000000000000000000000000000000000000000000000000000000000000000000000000000980000000010407800000084000000000001f04380 ||| mk = mk) (hIn : Keeps mk sIn s) : Keeps mk sIn (coverLate n s) := by
  refine Keeps.step hMk ?_ hIn
  unfold coverLate
  try dsimp only
  repeat' first
    | with_reducible refine Keeps.ite ?_ ?_
    | with_reducible exact Keeps.refl
    | with_reducible assumption
    | ((with_reducible apply Keeps.modFe); (case e => rfl))
    | ((with_reducible apply calBack_keeps); (case hMk => rfl))
    | intro _
    | split
    | dsimp only
    | (refine Keeps.snd ?_ (by with_reducible assumption))

theorem quietStart_keeps {mk : Nat} {sIn : State} (n : Nat) (e : Nat) (s : State) (hMk : 0x28000000000000000000000000000000000000000000000000000000000000000000000000000000000000000000000000000000000000000000000000000000000000000000000000000000000000000000000000000000000000000000000000000000000000000000000000000000000000000000000000000000000000000000000000000000000000000000000000000000000400000000000000000000000000000400000000000000000000000000000000000000000000000800000000000400000000004000000000001f00380 ||| mk = mk) (hIn : Keeps mk sIn s) : Keeps mk sIn (quietStart n e s) := by
  refine Keeps.step hMk ?_ hIn
  unfold quietStart
  try dsimp only
  repeat' first
    | with_reducible refine Keeps.ite ?_ ?_
    | with_reducible exact Keeps.refl
    | with_reducible assumption
    | ((with_reducible apply Keeps.inc); (case d => rfl); (case e => rfl))
    | ((with_reducible apply calStart_keeps); (case hMk => rfl))
    | intro _
    | split
    | dsimp only
    | (refine Keeps.snd ?_ (by with_reducible assumption))

theorem blankWrite_keeps {mk : Nat} {sIn : State} (n : Nat) (v : Nat) (s : State) (hMk : 0x20000000000000000000000000000000000000000000000000000000000000000000000000000000000000000000000000000000000000000000000000000000000000000000000000000000000000000000000000000000000000000000000000000000000000000000000000000000000000000000000000000000000000000000000000000000000000000000000000000000000400000000000000000000000000000000000000000000000000000000000000000000000000000800000000000400000000004000000800000000000 ||| mk = mk) (hIn : Keeps mk sIn s) : Keeps mk sIn (blankWrite n v s) := by
  refine Keeps.step hMk ?_ hIn
  unfold blankWrite
  try dsimp only
  repeat' first
    | with_reducible refine Keeps.ite ?_ ?_
    | with_reducible exact Keeps.refl
    | with_reducible assumption
    | ((with_reducible apply Keeps.wr); (case d => rfl); (case e => rfl))
    | (with_reducible refine Keeps.each _ _ ?_ ?_)
    | (with_reducible refine Keeps.when _ _ ?_ ?_)
    | ((with_reducible apply discardFrames_keeps); (case hMk => rfl))
    | intro _
    | split
    | dsimp only
    | (refine Keeps.snd ?_ (by with_reducible assumption))

theorem turnStart_keeps {mk : Nat} {sIn : State} (n : Nat) (s : State) (hMk : 0x28000000000000000000000000000000000000000000000000000000000000000000000000000000000000000000000000000000000000000000000000000000000000000000000000000000000000000000000000000000000000000000000000000000000000000000000000000000000000000000000000000000000000000000000000000000000000000000000000000000000400000000000000000000000000000000000000000000000000000000000000000000000000000800000000000400000000004000000000000000080 ||| mk = mk) (hIn : Keeps mk sIn s) : Keeps mk sIn (turnStart n s) := by
  refine Keeps.step hMk ?_ hIn
  unfold turnStart
  try dsimp only
  repeat' first
    | with_reducible refine Keeps.ite ?_ ?_
    | with_reducible exact Keeps.refl
    | with_reducible assumption
    | (with_reducible refine Keeps.each _ _ ?_ ?_)
    | ((with_reducible apply Keeps.modFe); (case e => rfl))
    | ((with_reducible apply discardFrames_keeps); (case hMk => rfl))
    | ((with_reducible apply feGo_keeps); (case hMk => rfl))
    | intro _
    | split
    | dsimp only
    | (refine Keeps.snd ?_ (by with_reducible assumption))

theorem poolAdd_keeps {mk : Nat} {sIn : State} (u : Nat) (n : Nat) (s : State) (hMk : 0x3001800000000000000000000000000000000000000000000000000000000000000000000000000000000000000000000000000000000000000000000000000000000000000000000000000000000000000000 ||| mk = mk) (hIn : Keeps mk sIn s) : Keeps mk sIn (poolAdd u n s) := by
  refine Keeps.step hMk ?_ hIn
  unfold poolAdd
  try dsimp only
  repeat' first
    | with_reducible refine Keeps.ite ?_ ?_
    | with_reducible exact Keeps.refl
    | with_reducible assumption
    | ((with_reducible apply Keeps.add); (case d => rfl); (case e => rfl))
    | ((with_reducible apply Keeps.sub); (case d => rfl); (case e => rfl))
    | ((with_reducible apply Keeps.peak); (case d => rfl); (case e => rfl))
    | intro _
    | split
    | dsimp only
    | (refine Keeps.snd ?_ (by with_reducible assumption))

theorem poolGive_keeps {mk : Nat} {sIn : State} (u : Nat) (n : Nat) (s : State) (hMk : 0x1000800000000000000000000000000000000000000000000000000000000000000000000000000000000000000000000000000000000000000000000000000000000000000000000000000000000000000000 ||| mk = mk) (hIn : Keeps mk sIn s) : Keeps mk sIn (poolGive u n s) := by
  refine Keeps.step hMk ?_ hIn
  unfold poolGive
  try dsimp only
  repeat' first
    | with_reducible refine Keeps.ite ?_ ?_
    | with_reducible exact Keeps.refl
    | with_reducible assumption
    | ((with_reducible apply Keeps.add); (case d => rfl); (case e => rfl))
    | ((with_reducible apply Keeps.sub); (case d => rfl); (case e => rfl))
    | intro _
    | split
    | dsimp only
    | (refine Keeps.snd ?_ (by with_reducible assumption))

theorem curdsPick_keeps {mk : Nat} {sIn : State} (n : Nat) (held : List Nat) (s : State) (hMk : 0x400000000000000000000000000000000000000000000000000000000000000000000000000000000000000000000000000000000000000000000000000000000000000000000000000000000000000000000000000000000000000000000000000000000000000000000000000000000000000000000000000000000000000000000000000000000000000000000000000000000000000000000000000000000000000000000000000000000000000000000000000000000000000000000000000000000000000000000000000000000 ||| mk = mk) (hIn : Keeps mk sIn s) :
    Keeps mk sIn (curdsPick n held s).2 := by
  induction n generalizing held s with
  | zero => exact hIn
  | succ k ih => exact ih _ _ (Keeps.took (mask_true rfl hMk) hIn)

theorem poolTake_keeps {mk : Nat} {sIn : State} (u : Nat) (n : Nat) (s : State) (hMk : 0x5010000400000000000000000000000000000000000000000000000000000000000000000000000000000000000000000000002000000000000000000000000000000000000000000000000000000000000000001867000180800000000800000000000000000000000000000000000000000000000000000000000000000000003101810000000000000000000000000000000000000000000000000000000000000000000000000000000000000000000000000000000000000000000000000000000000000000000000000000000000000000 ||| mk = mk) (hIn : Keeps mk sIn s) : Keeps mk sIn (poolTake u n s).2 := by
  refine Keeps.step hMk ?_ hIn
  unfold poolTake
  try dsimp only
  repeat' first
    | with_reducible refine Keeps.ite ?_ ?_
    | with_reducible exact Keeps.refl
    | with_reducible assumption
    | ((with_reducible apply Keeps.inc); (case d => rfl); (case e => rfl))
    | (refine Keeps.snd (p := curdsPick _ _ _) ?_ (by with_reducible assumption))
    | ((with_reducible apply curdsPick_keeps); (case hMk => rfl))
    | ((with_reducible apply poolAdd_keeps); (case hMk => rfl))
    | ((with_reducible apply raise_keeps); (case d => rfl); (case hMk => rfl); (case hMk2 => rfl))
    | intro _
    | split
    | dsimp only
    | (refine Keeps.snd ?_ (by with_reducible assumption))

theorem setNodeQ_keeps {mk : Nat} {sIn : State} (nix : Nat) (l : List QFrame) (s : State) (hMk : 0x40402000000000000000000000000000000000000000000000000000000000000000000000000000000000000000000000000000000000000000000000000000000000000000000000000000000000000000000000000000000000000000000000000000000000000000000000000000000000000000000000000000001000000000000000000000000000000000000000000000000000000000000000000000000000000000000000000000000000000000000000000000000000000000000000000000000000000000000000000000000000 ||| mk = mk) (hIn : Keeps mk sIn s) : Keeps mk sIn (setNodeQ nix l s) := by
  refine Keeps.step hMk ?_ hIn
  unfold setNodeQ
  try dsimp only
  repeat' first
    | with_reducible refine Keeps.ite ?_ ?_
    | with_reducible exact Keeps.refl
    | with_reducible assumption
    | ((with_reducible apply Keeps.wr); (case d => rfl); (case e => rfl))
    | ((with_reducible apply Keeps.putNode); (case e => rfl); (case e2 => rfl))
    | intro _
    | split
    | dsimp only
    | (refine Keeps.snd ?_ (by with_reducible assumption))
    | ((with_reducible apply Keeps.set_qms); (case e => rfl))

theorem nodePeak_keeps {mk : Nat} {sIn : State} (nix : Nat) (s : State) (hMk : 0xc00000000000000000000000000000000000000000000000000000000000000000000000000000000000000000000000000000000000000000000000000000000000000000000000000000000000000000000000000 ||| mk = mk) (hIn : Keeps mk sIn s) : Keeps mk sIn (nodePeak nix s) := by
  refine Keeps.step hMk ?_ hIn
  unfold nodePeak
  try dsimp only
  repeat' first
    | with_reducible refine Keeps.ite ?_ ?_
    | with_reducible exact Keeps.refl
    | with_reducible assumption
    | ((with_reducible apply Keeps.wr); (case d => rfl); (case e => rfl))
    | intro _
    | split
    | dsimp only
    | (refine Keeps.snd ?_ (by with_reducible assumption))

theorem frameFree_keeps {mk : Nat} {sIn : State} (f : QFrame) (s : State) (hMk : 0x1000800000000000000000000000000000000000000000000000000000000000000000000000000000000000000000000000000000000000000000000000000000000000000000000000000000000000000000 ||| mk = mk) (hIn : Keeps mk sIn s) : Keeps mk sIn (frameFree f s) := by
  refine Keeps.step hMk ?_ hIn
  unfold frameFree
  try dsimp only
  repeat' first
    | with_reducible refine Keeps.ite ?_ ?_
    | with_reducible exact Keeps.refl
    | with_reducible assumption
    | ((with_reducible apply poolGive_keeps); (case hMk => rfl))
    | intro _
    | split
    | dsimp only
    | (refine Keeps.snd ?_ (by with_reducible assumption))

theorem frameWhey_keeps {mk : Nat} {sIn : State} (code : Nat) (f : QFrame) (s : State) (hMk : 0x2000001200800000000000000000000000000000000000000000000000000000000000000000000000000000000000000000000000000000000000000000000000000000000000000000000000000000000000000000 ||| mk = mk) (hIn : Keeps mk sIn s) : Keeps mk sIn (frameWhey code f s) := by
  refine Keeps.step hMk ?_ hIn
  unfold frameWhey
  try dsimp only
  repeat' first
    | with_reducible refine Keeps.ite ?_ ?_
    | with_reducible exact Keeps.refl
    | with_reducible assumption
    | ((with_reducible apply Keeps.whey); (case e => rfl); (case e2 => rfl))
    | ((with_reducible apply frameFree_keeps); (case hMk => rfl))
    | intro _
    | split
    | dsimp only
    | (refine Keeps.snd ?_ (by with_reducible assumption))

theorem nodeQRemove_keeps {mk : Nat} {sIn : State} (nix : Nat) (id : Nat) (s : State) (hMk : 0x40402000000000000000000000000000000000000000000000000000000000000000000000000000000000000000000000000000000000000000000000000000000000000000000000000000000000000000000000000000000000000000000000000000000000000000000000000000000000000000000000000000001000000000000000000000000000000000000000000000000000000000000000000000000000000000000000000000000000000000000000000000000000000000000000000000000000000000000000000000000000 ||| mk = mk) (hIn : Keeps mk sIn s) : Keeps mk sIn (nodeQRemove nix id s) := by
  refine Keeps.step hMk ?_ hIn
  unfold nodeQRemove
  try dsimp only
  repeat' first
    | with_reducible refine Keeps.ite ?_ ?_
    | with_reducible exact Keeps.refl
    | with_reducible assumption
    | ((with_reducible apply setNodeQ_keeps); (case hMk => rfl))
    | intro _
    | split
    | dsimp only
    | (refine Keeps.snd ?_ (by with_reducible assumption))

theorem nodeQChange_keeps {mk : Nat} {sIn : State} (nix : Nat) (id : Nat) (g : QFrame → QFrame) (s : State) (hMk : 0x400000000000000000000000000000000000000000000000000000000000000000000000000000000000000000000000000000000000000000000000000000000000000000000000000000000000000000000000000000000000000000000000000000000000000000000000000000000000000000000000000000000000000000000000000000000000000000000000000000000000000000000000000000000000000000000000000000000000000000000000000000000000000000000000000000000000000000000000000000000000 ||| mk = mk) (hIn : Keeps mk sIn s) : Keeps mk sIn (nodeQChange nix id g s) := by
  refine Keeps.step hMk ?_ hIn
  unfold nodeQChange
  try dsimp only
  repeat' first
    | with_reducible refine Keeps.ite ?_ ?_
    | with_reducible exact Keeps.refl
    | with_reducible assumption
    | intro _
    | split
    | dsimp only
    | (refine Keeps.snd ?_ (by with_reducible assumption))
    | ((with_reducible apply Keeps.set_qms); (case e => rfl))

theorem cqAdd_keeps {mk : Nat} {sIn : State} (i : Nat) (n : Nat) (s : State) (hMk : 0xc000000000000000000000000000000000000000000000000000000000000000000000000000000000000000000000000000000000000000000000000000000000000000000000000000000000000000000000000000 ||| mk = mk) (hIn : Keeps mk sIn s) : Keeps mk sIn (cqAdd i n s) := by
  refine Keeps.step hMk ?_ hIn
  unfold cqAdd
  try dsimp only
  repeat' first
    | with_reducible refine Keeps.ite ?_ ?_
    | with_reducible exact Keeps.refl
    | with_reducible assumption
    | ((with_reducible apply Keeps.add); (case d => rfl); (case e => rfl))
    | ((with_reducible apply Keeps.peak); (case d => rfl); (case e => rfl))
    | intro _
    | split
    | dsimp only
    | (refine Keeps.snd ?_ (by with_reducible assumption))

theorem cqSub_keeps {mk : Nat} {sIn : State} (i : Nat) (n : Nat) (s : State) (hMk : 0x4000000000000000000000000000000000000000000000000000000000000000000000000000000000000000000000000000000000000000000000000000000000000000000000000000000000000000000000000000 ||| mk = mk) (hIn : Keeps mk sIn s) : Keeps mk sIn (cqSub i n s) := by
  refine Keeps.step hMk ?_ hIn
  unfold cqSub
  try dsimp only
  repeat' first
    | with_reducible refine Keeps.ite ?_ ?_
    | with_reducible exact Keeps.refl
    | with_reducible assumption
    | ((with_reducible apply Keeps.sub); (case d => rfl); (case e => rfl))
    | intro _
    | split
    | dsimp only
    | (refine Keeps.snd ?_ (by with_reducible assumption))

theorem setDownQ_keeps {mk : Nat} {sIn : State} (w : Nat) (c : Nat) (l : List Packet) (s : State) (hMk : 0x400000000000000000000000000000000000000000000000000000000000000000000000000000000000000000000000000000000000000000000000000000000000000000000000000000000000000000000000000000000000000000000000000000000000000000000000000000000000000000000000000000000000000000000000000000000000000000000000000000000000000000000000000000000000000000000000000000000000000000000000000000000000000000000000000000000000000000000000000000000000 ||| mk = mk) (hIn : Keeps mk sIn s) : Keeps mk sIn (setDownQ w c l s) := by
  refine Keeps.step hMk ?_ hIn
  unfold setDownQ
  try dsimp only
  repeat' first
    | with_reducible refine Keeps.ite ?_ ?_
    | with_reducible exact Keeps.refl
    | with_reducible assumption
    | intro _
    | split
    | dsimp only
    | (refine Keeps.snd ?_ (by with_reducible assumption))
    | ((with_reducible apply Keeps.set_qms); (case e => rfl))

theorem bcastChange_keeps {mk : Nat} {sIn : State} (w : Nat) (c : Nat) (g : List QFrame → List QFrame) (s : State) (hMk : 0x400000000000000000000000000000000000000000000000000000000000000000000000000000000000000000000000000000000000000000000000000000000000000000000000000000000000000000000000000000000000000000000000000000000000000000000000000000000000000000000000000000000000000000000000000000000000000000000000000000000000000000000000000000000000000000000000000000000000000000000000000000000000000000000000000000000000000000000000000000000000 ||| mk = mk) (hIn : Keeps mk sIn s) : Keeps mk sIn (bcastChange w c g s) := by
  refine Keeps.step hMk ?_ hIn
  unfold bcastChange
  try dsimp only
  repeat' first
    | with_reducible refine Keeps.ite ?_ ?_
    | with_reducible exact Keeps.refl
    | with_reducible assumption
    | intro _
    | split
    | dsimp only
    | (refine Keeps.snd ?_ (by with_reducible assumption))
    | ((with_reducible apply Keeps.set_qms); (case e => rfl))

theorem bcastSent_keeps {mk : Nat} {sIn : State} (w : Nat) (c : Nat) (id : Nat) (s : State) (hMk : 0x400000000000000000000000000000000000000000000000000000000000000000000000000000000000000000000000000000000000000000000000000000000000000000000000000000000000000000000000000000000000000000000000000000000000000000000000000000000000000000000000000000004000001000800000000000000000000000000000000000000000000000000000000000000000000000000000000000000000000000000000000000000000000000000000000000000000000000000000000000000000 ||| mk = mk) (hIn : Keeps mk sIn s) : Keeps mk sIn (bcastSent w c id s) := by
  refine Keeps.step hMk ?_ hIn
  unfold bcastSent
  try dsimp only
  repeat' first
    | with_reducible refine Keeps.ite ?_ ?_
    | with_reducible exact Keeps.refl
    | with_reducible assumption
    | ((with_reducible apply cqSub_keeps); (case hMk => rfl))
    | ((with_reducible apply frameFree_keeps); (case hMk => rfl))
    | ((with_reducible apply setDownQ_keeps); (case hMk => rfl))
    | intro _
    | split
    | dsimp only
    | (refine Keeps.snd ?_ (by with_reducible assumption))

theorem newFrame_keeps {mk : Nat} {sIn : State} (f : QFrame) (s : State) (hMk : 0x400000000000000000000000000000000000000000000000000000000000000000000000000000000000000000000000000000000000000000000000000000000000000000000000000000000000000000000000000000000000000000000000000000000000000000000000000000000000000000000000000000000000000000000000000000000000000000000000000000000000000000000000000000000000000000000000000000000000000000000000000000000000000000000000000000000000000000000000000000000000 ||| mk = mk) (hIn : Keeps mk sIn s) : Keeps mk sIn (newFrame f s).2 := by
  refine Keeps.step hMk ?_ hIn
  unfold newFrame
  try dsimp only
  repeat' first
    | with_reducible refine Keeps.ite ?_ ?_
    | with_reducible exact Keeps.refl
    | with_reducible assumption
    | intro _
    | split
    | dsimp only
    | (refine Keeps.snd ?_ (by with_reducible assumption))
    | ((with_reducible apply Keeps.set_qms); (case e => rfl))

theorem nodeAppend_keeps {mk : Nat} {sIn : State} (nix : Nat) (l : List QFrame) (s : State) (hMk : 0x40402000000000000000000000000000000000000000000000000000000000000000000000000000000000000000000000000000000000000000000000000000000000000000000000000000000000000000000000000000000000000000000000000000000000000000000000000000000000000000000000000000003c00001202800000000000000000000000000000000000000000000000000000000000000000000000000000000000000000000000000000000000000000000000000000000000000000000000000000000000000000 ||| mk = mk) (hIn : Keeps mk sIn s) : Keeps mk sIn (nodeAppend nix l s) := by
  refine Keeps.step hMk ?_ hIn
  unfold nodeAppend
  try dsimp only
  repeat' first
    | with_reducible refine Keeps.ite ?_ ?_
    | with_reducible exact Keeps.refl
    | with_reducible assumption
    | ((with_reducible apply Keeps.add); (case d => rfl); (case e => rfl))
    | (with_reducible refine Keeps.each _ _ ?_ ?_)
    | ((with_reducible apply frameWhey_keeps); (case hMk => rfl))
    | ((with_reducible apply nodePeak_keeps); (case hMk => rfl))
    | ((with_reducible apply setNodeQ_keeps); (case hMk => rfl))
    | intro _
    | split
    | dsimp only
    | (refine Keeps.snd ?_ (by with_reducible assumption))

theorem ageQueue_keeps {mk : Nat} {sIn : State} (nix : Nat) (s : State) (hMk : 0x5050402000000000000000000000000000000000000000000000000000000000000000000000000000000000000000000000002000000000000000000000000000000000000000000000000000000000000000001867000180800000000800000000000000000000000000000000000000000000000000000000000000003000001200820000000000000000000000000000000000000000000000000000000000000000000000000000000000000000000000000000000000000000000000000000000000000000000000000000000000000000 ||| mk = mk) (hIn : Keeps mk sIn s) : Keeps mk sIn (ageQueue nix s) := by
  refine Keeps.step hMk ?_ hIn
  unfold ageQueue
  try dsimp only
  repeat' first
    | with_reducible refine Keeps.ite ?_ ?_
    | with_reducible exact Keeps.refl
    | with_reducible assumption
    | (with_reducible refine Keeps.each _ _ ?_ ?_)
    | ((with_reducible apply frameWhey_keeps); (case hMk => rfl))
    | ((with_reducible apply raiseNode_keeps); (case d => rfl); (case hMk => rfl); (case hMk2 => rfl))
    | ((with_reducible apply setNodeQ_keeps); (case hMk => rfl))
    | intro _
    | split
    | dsimp only
    | (refine Keeps.snd ?_ (by with_reducible assumption))

theorem ageClass_keeps {mk : Nat} {sIn : State} (w : Nat) (c : Nat) (s : State) (hMk : 0x5010400000000000000000000000000000000000000000000000000000000000000000000000000000000000000000000000002000000000000000000000000000000000000000000000000000000000000000001867000180800000000800000000000000000000000000000000000000000000000000000000000000006000001200820000000000000000000000000000000000000000000000000000000000000000000000000000000000000000000000000000000000000000000000000000000000000000000000000000000000000000 ||| mk = mk) (hIn : Keeps mk sIn s) : Keeps mk sIn (ageClass w c s) := by
  refine Keeps.step hMk ?_ hIn
  unfold ageClass
  try dsimp only
  repeat' first
    | with_reducible refine Keeps.ite ?_ ?_
    | with_reducible exact Keeps.refl
    | with_reducible assumption
    | (with_reducible refine Keeps.each _ _ ?_ ?_)
    | ((with_reducible apply cqSub_keeps); (case hMk => rfl))
    | ((with_reducible apply frameWhey_keeps); (case hMk => rfl))
    | ((with_reducible apply raiseWard_keeps); (case d => rfl); (case hMk => rfl); (case hMk2 => rfl))
    | ((with_reducible apply setDownQ_keeps); (case hMk => rfl))
    | intro _
    | split
    | dsimp only
    | (refine Keeps.snd ?_ (by with_reducible assumption))

theorem syncFault_keeps {mk : Nat} {sIn : State} (s : State) (hMk : 0x50700080000000000000000000020000000020000000000000000011d47c00c17c0000000000000000000000000000000000002000000000000000000000000000000000000000000000000000000000000000001867000180800000000800000000000000000000000000000000000000000000000000000000000000000000000000000000000000000000000000000000000000000000000000000000000000000000000000000000000000000000000000000000000000000000000000000000000000000000000000000000000000000080 ||| mk = mk) (hIn : Keeps mk sIn s) : Keeps mk sIn (syncFault s) := by
  refine Keeps.step hMk ?_ hIn
  unfold syncFault
  try dsimp only
  repeat' first
    | with_reducible refine Keeps.ite ?_ ?_
    | with_reducible exact Keeps.refl
    | with_reducible assumption
    | ((with_reducible apply faultBegin_keeps); (case hMk => rfl))
    | ((with_reducible apply faultEnd_keeps); (case hMk => rfl))
    | intro _
    | split
    | dsimp only
    | (refine Keeps.snd ?_ (by with_reducible assumption))

theorem peerFault_keeps {mk : Nat} {sIn : State} (s : State) (hMk : 0x50700080000000000000000000020000000020000000000000000011d47c00c17c0000000000000000000000000000000000002000000000000000000000000000000000000000000000000000000000000000001867000180800000000800000000000000000000000000000000000000000000000000000000000000000000000000000000000000000000000000000000000000000000000000000000000000000000000000000000000000000000000000000000000000000000000000000000000000000000000000000000000000000080 ||| mk = mk) (hIn : Keeps mk sIn s) : Keeps mk sIn (peerFault s) := by
  refine Keeps.step hMk ?_ hIn
  unfold peerFault
  try dsimp only
  repeat' first
    | with_reducible refine Keeps.ite ?_ ?_
    | with_reducible exact Keeps.refl
    | with_reducible assumption
    | ((with_reducible apply faultBegin_keeps); (case hMk => rfl))
    | ((with_reducible apply faultEnd_keeps); (case hMk => rfl))
    | intro _
    | split
    | dsimp only
    | (refine Keeps.snd ?_ (by with_reducible assumption))

theorem setSync_keeps {mk : Nat} {sIn : State} (v : Nat) (s : State) (hMk : 0x50700080000000000000000000020000000020000000000000040011d47c00c17c0000000000000000000000000000000000002000000000000000000000000000000000000000000000000000000000000000001867000180800000000800000000000000000000000000000000000000000000000000000000000000000000000000000000000000000000000000000000000000000000000000000000000000000000000000000000000000000000000000000000000000000000000000000000000000000000000000000000000000000080 ||| mk = mk) (hIn : Keeps mk sIn s) : Keeps mk sIn (setSync v s) := by
  refine Keeps.step hMk ?_ hIn
  unfold setSync
  try dsimp only
  repeat' first
    | with_reducible refine Keeps.ite ?_ ?_
    | with_reducible exact Keeps.refl
    | with_reducible assumption
    | ((with_reducible apply Keeps.wr); (case d => rfl); (case e => rfl))
    | ((with_reducible apply syncFault_keeps); (case hMk => rfl))
    | intro _
    | split
    | dsimp only
    | (refine Keeps.snd ?_ (by with_reducible assumption))

theorem linkSent_keeps {mk : Nat} {sIn : State} (s : State) (hMk : 0x400000000000000000000001000000000000000000000000000000000000000000000000000000000000000000000000000000000000000000000000000000000000000000000000000000000000000000000000000000000000000000000000000000000000000000000000000000000000000000000000000000000000000000000000000000000000000000000000000000000000000000000000000000000000000000000000000000000000000000000000000000000000000000000000000000000000000000000000000000000 ||| mk = mk) (hIn : Keeps mk sIn s) : Keeps mk sIn (linkSent s) := by
  refine Keeps.step hMk ?_ hIn
  unfold linkSent
  try dsimp only
  repeat' first
    | with_reducible refine Keeps.ite ?_ ?_
    | with_reducible exact Keeps.refl
    | with_reducible assumption
    | ((with_reducible apply Keeps.wrFree); (case d => rfl); (case e => rfl); (case e2 => rfl))
    | intro _
    | split
    | dsimp only
    | (refine Keeps.snd ?_ (by with_reducible assumption))

theorem relay_keeps {mk : Nat} {sIn : State} (f : Fld) (room : Bool) (s : State) {i j w r : Nat} {h : Home} (d : f = ⟨i, j, w, r, h⟩) (hMk : mk.testBit i = true) (hMk2 : 0x400000000000000000000001080000000000000000000000000000000000000000000000000000000000000000000000000000000000000000000000000000000000000000000000000000000000000000000000000000000000000000000000000000000000000000000000000000000000000000000000000000000000000000000000000000000000000000000000000000000000000000000000000000000000000000000000000000000000000000000000000000000000000000000000000000000000000000000000000000000 ||| mk = mk) (hIn : Keeps mk sIn s) :
    Keeps mk sIn (relay f room s) := by
  unfold relay
  split
  · exact linkSent_keeps _ (mask_sub (by decide) hMk2) (Keeps.inc _ d hMk hIn)
  · exact Keeps.inc _ rfl (mask_true rfl hMk2) hIn

theorem mirEmpty_keeps {mk : Nat} {sIn : State} (s : State) (hMk : 0x40000000000000000000000000040000000000000000000000000000000000000000000000000000000000000000000000000000000000000000000000000000000000000000000000000000000000000000000000000000000000000000000000000000000000000000000000000000000000000000000000000000000000001000800000000000000000000000000000000000000000000000000000000000000000000000000000000000000000000000000000000000000000000000000000000000000000000000000000000000000000 ||| mk = mk) (hIn : Keeps mk sIn s) : Keeps mk sIn (mirEmpty s) := by
  refine Keeps.step hMk ?_ hIn
  unfold mirEmpty
  try dsimp only
  repeat' first
    | with_reducible refine Keeps.ite ?_ ?_
    | with_reducible exact Keeps.refl
    | with_reducible assumption
    | ((with_reducible apply Keeps.wr); (case d => rfl); (case e => rfl))
    | ((with_reducible apply modPair_keeps); (case hMk => rfl))
    | ((with_reducible apply poolGive_keeps); (case hMk => rfl))
    | intro _
    | split
    | dsimp only
    | (refine Keeps.snd ?_ (by with_reducible assumption))

theorem mirOverflow_keeps {mk : Nat} {sIn : State} (s : State) (hMk : 0x50700080000000000000000000020400000420000000008000040011d47c00c17c0000000000000000000000000000000000002000000000000000000000000000000000000000000000000000000000000000001867000180800000000800000000000000000000000000000000000000000000000000000000000000000000001000800000000000000000000000000000000000000000000000000000000000000000000000000000000000000000000000000000000000000000000000000000000000000000000000000000000000000080 ||| mk = mk) (hIn : Keeps mk sIn s) : Keeps mk sIn (mirOverflow s) := by
  refine Keeps.step hMk ?_ hIn
  unfold mirOverflow
  try dsimp only
  repeat' first
    | with_reducible refine Keeps.ite ?_ ?_
    | with_reducible exact Keeps.refl
    | with_reducible assumption
    | ((with_reducible apply Keeps.inc); (case d => rfl); (case e => rfl))
    | ((with_reducible apply mirEmpty_keeps); (case hMk => rfl))
    | ((with_reducible apply modPair_keeps); (case hMk => rfl))
    | ((with_reducible apply raise_keeps); (case d => rfl); (case hMk => rfl); (case hMk2 => rfl))
    | ((with_reducible apply setSync_keeps); (case hMk => rfl))
    | intro _
    | split
    | dsimp only
    | (refine Keeps.snd ?_ (by with_reducible assumption))

theorem mirSend_keeps {mk : Nat} {sIn : State} (n : Nat) (s : State) (hMk : 0x50700084000000000000000000020d100004a0000000008000040011d47c00c17c0000000000000000000000000000000000002000000000000000000000000000000000000000000000000000000000000000001867000180800000000800000000000000000000000000000000000000000000000000000000000000000000003001800000000000000000000000000000000000000000000000000000000000000000000000000000000000000000000000000000000000000000000000000000000000000000000000000000000000000080 ||| mk = mk) (hIn : Keeps mk sIn s) : Keeps mk sIn (mirSend n s) := by
  refine Keeps.step hMk ?_ hIn
  unfold mirSend
  try dsimp only
  repeat' first
    | with_reducible refine Keeps.ite ?_ ?_
    | with_reducible exact Keeps.refl
    | with_reducible assumption
    | ((with_reducible apply Keeps.inc); (case d => rfl); (case e => rfl))
    | ((with_reducible apply Keeps.add); (case d => rfl); (case e => rfl))
    | ((with_reducible apply Keeps.peak); (case d => rfl); (case e => rfl))
    | (refine Keeps.snd (p := curdsPick _ _ _) ?_ (by with_reducible assumption))
    | ((with_reducible apply curdsPick_keeps); (case hMk => rfl))
    | ((with_reducible apply linkSent_keeps); (case hMk => rfl))
    | ((with_reducible apply mirOverflow_keeps); (case hMk => rfl))
    | ((with_reducible apply modPair_keeps); (case hMk => rfl))
    | ((with_reducible apply poolAdd_keeps); (case hMk => rfl))
    | intro _
    | split
    | dsimp only
    | (refine Keeps.snd ?_ (by with_reducible assumption))

theorem mirCount_keeps {mk : Nat} {sIn : State} (f : Fld) (s : State) {i j w r : Nat} {h : Home} (d : f = ⟨i, j, w, r, h⟩) (hMk : mk.testBit i = true) (hMk2 : 0x50700084000000000000000000020d100004a0000000008000040011d47c00c17c0000000000000000000000000000000000002000000000000000000000000000000000000000000000000000000000000000001867000180800000000800000000000000000000000000000000000000000000000000000000000000000000003001800000000000000000000000000000000000000000000000000000000000000000000000000000000000000000000000000000000000000000000000000000000000000000000000000000000000000080 ||| mk = mk) (hIn : Keeps mk sIn s) :
    Keeps mk sIn (mirCount f s) := by
  unfold mirCount
  split
  · exact mirSend_keeps _ _ hMk2 (Keeps.inc _ d hMk hIn)
  · exact hIn

theorem mirState_keeps {mk : Nat} {sIn : State} (nix : Nat) (s : State) (hMk : 0x50700084000000000000000000020d100004a0000000008000040011d47c00c17c0000000000000000000000000000000000002000000000000000000000000000000000000000000000000000000000000000001867000180800000000800000000000000000000000000000000000000000000000000000000000000000000003001800000000000000000000000000000000000000000000000000000000000000000000000000000000000000000000000000000000000000000000000000000000000000000000000000000000000000080 ||| mk = mk) (hIn : Keeps mk sIn s) : Keeps mk sIn (mirState nix s) := by
  refine Keeps.step hMk ?_ hIn
  unfold mirState
  try dsimp only
  repeat' first
    | with_reducible refine Keeps.ite ?_ ?_
    | with_reducible exact Keeps.refl
    | with_reducible assumption
    | ((with_reducible apply mirSend_keeps); (case hMk => rfl))
    | intro _
    | split
    | dsimp only
    | (refine Keeps.snd ?_ (by with_reducible assumption))

theorem bulkDone_keeps {mk : Nat} {sIn : State} (s : State) (hMk : 0x50700080000000000000000000024000000020002000000010040011d47c00c17c0000000000000000000000000000000000002000000000000000000000000000000000000000000000000000000000000000001867000180800000000800000000000000000000000000000000000000000000000000000000000000000000000000000000000000000000000000000000000000000000000000000000000000000000000000000000000000000000000000000000000000000000000000000000000000000000000000000000000000000080 ||| mk = mk) (hIn : Keeps mk sIn s) : Keeps mk sIn (bulkDone s) := by
  refine Keeps.step hMk ?_ hIn
  unfold bulkDone
  try dsimp only
  repeat' first
    | with_reducible refine Keeps.ite ?_ ?_
    | with_reducible exact Keeps.refl
    | with_reducible assumption
    | ((with_reducible apply Keeps.put); (case d => rfl); (case e => rfl))
    | ((with_reducible apply modPair_keeps); (case hMk => rfl))
    | ((with_reducible apply pairTrace_keeps); (case hMk => rfl))
    | ((with_reducible apply raise_keeps); (case d => rfl); (case hMk => rfl); (case hMk2 => rfl))
    | ((with_reducible apply setSync_keeps); (case hMk => rfl))
    | intro _
    | split
    | dsimp only
    | (refine Keeps.snd ?_ (by with_reducible assumption))

theorem linkFaults_keeps {mk : Nat} {sIn : State} (s : State) (hMk : 0x50700080000000000000000000020000000020000000000000000011d47c00c17c0000000000000000000000000000000000002000000000000000000000000000000000000000000000000000000000000000001867000180800000000800000000000000000000000000000000000000000000000000000000000000000000000000000000000000000000000000000000000000000000000000000000000000000000000000000000000000000000000000000000000000000000000000000000000000000000000000000000000000000080 ||| mk = mk) (hIn : Keeps mk sIn s) : Keeps mk sIn (linkFaults s) := by
  refine Keeps.step hMk ?_ hIn
  unfold linkFaults
  try dsimp only
  repeat' first
    | with_reducible refine Keeps.ite ?_ ?_
    | with_reducible exact Keeps.refl
    | with_reducible assumption
    | ((with_reducible apply faultBegin_keeps); (case hMk => rfl))
    | ((with_reducible apply faultEnd_keeps); (case hMk => rfl))
    | intro _
    | split
    | dsimp only
    | (refine Keeps.snd ?_ (by with_reducible assumption))

theorem laneSet_keeps {mk : Nat} {sIn : State} (l : Nat) (up : Bool) (s : State) (hMk : 0x5070008000000000000000000002800400002000c000002000000011d47c00c17c0000000000000000000000000000000000002000000000000000000000000000000000000000000000000000000000000000001867000180800000000800000000000000000000000000000000000000000000000000000000000000000000000000000000000000000000000000000000000000000000000000000000000000000000000000000000000000000000000000000000000000000000000000000000000000000000000000000000000000000080 ||| mk = mk) (hIn : Keeps mk sIn s) : Keeps mk sIn (laneSet l up s) := by
  refine Keeps.step hMk ?_ hIn
  unfold laneSet
  try dsimp only
  repeat' first
    | with_reducible refine Keeps.ite ?_ ?_
    | with_reducible exact Keeps.refl
    | with_reducible assumption
    | ((with_reducible apply Keeps.wr); (case d => rfl); (case e => rfl))
    | ((with_reducible apply Keeps.put); (case d => rfl); (case e => rfl))
    | ((with_reducible apply Keeps.inc); (case d => rfl); (case e => rfl))
    | ((with_reducible apply linkFaults_keeps); (case hMk => rfl))
    | ((with_reducible apply raise_keeps); (case d => rfl); (case hMk => rfl); (case hMk2 => rfl))
    | intro _
    | split
    | dsimp only
    | (refine Keeps.snd ?_ (by with_reducible assumption))

theorem hbClamp_keeps {mk : Nat} {sIn : State} (s : State) (hMk : 0x1000000000000000000000000000000000000000000000000000000000000000000000000000000000000000000000000000000000000000000000000000000000000000000000000000000000000000000000000000000000000000000000000000000000000000000000000000000000000000000000000000000000000000000000000000000000000000000000000000000000000000000000000000000000000000000000000000000000000000000000000000000000000000000000 ||| mk = mk) (hIn : Keeps mk sIn s) : Keeps mk sIn (hbClamp s) := by
  refine Keeps.step hMk ?_ hIn
  unfold hbClamp
  try dsimp only
  repeat' first
    | with_reducible refine Keeps.ite ?_ ?_
    | with_reducible exact Keeps.refl
    | with_reducible assumption
    | ((with_reducible apply Keeps.wr); (case d => rfl); (case e => rfl))
    | intro _
    | split
    | dsimp only
    | (refine Keeps.snd ?_ (by with_reducible assumption))

theorem withOwner_keeps {mk : Nat} {sIn : State} (ring op tag : Nat) (f : State → State) (s : State) (hMk : 0x50700080000000000000000000020000000020000000000000000011547c00c17c0000000000000000000000000000000000002000000000000000000000000000000000000000000000000000000000000000001c7f8009e0c00000000c00000000000000000000000000000000000000000000000000000000000000000000000000000000000000000000000000000000000000000000000000000000000000000000000000000000000000000000000000000000000000000000000000000000000000000000000000000000000000000080 ||| mk = mk) (hf : ∀ x, Keeps mk sIn x → Keeps mk sIn (f x)) (hIn : Keeps mk sIn s) :
    KeepsR mk sIn (withOwner ring op tag f s) := by
  refine withCmd_keeps ring _ s ?_ ?_ hIn
  · exact mask_sub (by decide) hMk
  · intro x h
    split
    · exact hf x h
    · exact cmdPlain_keeps _ _ _ _ _ (mask_sub (by decide) hMk) h

end Sys2Proof.Machine
end

