-- ==== Sys2Proof/Laws/KeepsKeys.lean ====
section
/-!
SUPPORT. What each operation and each meaning changes: the operations of the keys, link security, forwarding, the MAC and the updates. The mask of each law names the register fields and the parts of the
state, as `Only` reads it.
-/

set_option simprocs false
set_option linter.all false

namespace Sys2Proof.Machine

theorem slotSet_keeps {mk : Nat} {sIn : State} (k v : Nat) (s : State) (hMk : 0x3c000000000000000400000000000000000000000000000000000000000000000000000000000000000000000000000000000000000000000000000000000000000000000000000000000000000000000000000000000000000000000000000000000000000000000000000000000000000000000000000000000000000000000000000000000000000000000000000 ||| mk = mk) (hIn : Keeps mk sIn s) : Keeps mk sIn (slotSet k v s) := by
  have q : Keeps mk sIn (s.wr (slotFld k) v) := by
    unfold slotFld
    split
    · exact Keeps.wr _ _ rfl (mask_true rfl hMk) hIn
    · exact Keeps.wr _ _ rfl (mask_true rfl hMk) hIn
    · exact Keeps.wr _ _ rfl (mask_true rfl hMk) hIn
    · exact Keeps.wr _ _ rfl (mask_true rfl hMk) hIn
  unfold slotSet
  exact Keeps.wr _ _ rfl (mask_true rfl hMk) q

theorem sharesPut_keeps {mk : Nat} {sIn : State} (k : Nat) (v : Nat × Nat) (s : State) (hMk : 0x400000000000000000000000000000000000000000000000000000000000000000000000000000000000000000000000000000000000000000000000000000000000000000000000000000000000000000000000000000000000000000000000000000000000000000000000000000000000000000000000000000000000000000000000000000000000000000000000000000000000000000000000000000000000000000000000000000000000000000000000000000000000000000000000000000000000000000000000000000000000000 ||| mk = mk) (hIn : Keeps mk sIn s) : Keeps mk sIn (sharesPut k v s) := by
  refine Keeps.step hMk ?_ hIn
  unfold sharesPut
  try dsimp only
  repeat' first
    | with_reducible refine Keeps.ite ?_ ?_
    | with_reducible exact Keeps.refl
    | with_reducible assumption
    | ((with_reducible apply modCave_keeps); (case hMk => rfl); (case hf => first | exact fun _ h => h | exact fun _ _ => rfl | exact fun _ h => putWords_wf _ _ h))
    | intro _
    | split
    | dsimp only
    | (refine Keeps.snd ?_ (by with_reducible assumption))

theorem slotFill_keeps {mk : Nat} {sIn : State} (k : Nat) (v : Nat) (key : Nat) (s : State) (hMk : 0x40000040000000000000000000000000000000000000000000000000000000000000000000000000000000000000000000000000000000000000000000000000000000003c000000000000000400000000000000000000000000000000000000000000000000000000000000000000000000000000000000000000000000000000000000000000000000000000000000000000000000000000000000000000000000000000000000000000000000000000000000000000000000000000000000000000000000000000000000000000000000000 ||| mk = mk) (hIn : Keeps mk sIn s) : Keeps mk sIn (slotFill k v key s) := by
  refine Keeps.step hMk ?_ hIn
  unfold slotFill
  try dsimp only
  repeat' first
    | with_reducible refine Keeps.ite ?_ ?_
    | with_reducible exact Keeps.refl
    | with_reducible assumption
    | ((with_reducible apply Keeps.took); (case e => rfl))
    | ((with_reducible apply sharesPut_keeps); (case hMk => rfl))
    | ((with_reducible apply slotSet_keeps); (case hMk => rfl))
    | intro _
    | split
    | dsimp only
    | (refine Keeps.snd ?_ (by with_reducible assumption))

theorem slotClear_keeps {mk : Nat} {sIn : State} (k : Nat) (s : State) (hMk : 0x40000000000000000000000000000000000000000000000000000000000000000000000000000000000000000000000000000000000000000000000000000000000000003c000000000000000400000000000000000000000000000000000000000000000000000000000000000000000000000000000000000000000000000000000000000000000000000000000000000000000000000000000000000000000000000000000000000000000000000000000000000000000000000000000000000000000000000000000000000000000000000 ||| mk = mk) (hIn : Keeps mk sIn s) : Keeps mk sIn (slotClear k s) := by
  refine Keeps.step hMk ?_ hIn
  unfold slotClear
  try dsimp only
  repeat' first
    | with_reducible refine Keeps.ite ?_ ?_
    | with_reducible exact Keeps.refl
    | with_reducible assumption
    | ((with_reducible apply sharesPut_keeps); (case hMk => rfl))
    | ((with_reducible apply slotSet_keeps); (case hMk => rfl))
    | intro _
    | split
    | dsimp only
    | (refine Keeps.snd ?_ (by with_reducible assumption))

theorem cacheSet_keeps {mk : Nat} {sIn : State} (l : List KcEntry) (s : State) (hMk : 0x800000000000000000000000000000000000000000000000000000000000000000000000000000000000000000000000000000000000000000000000000000000000000000000000000000000000000000000000000000000000000000000000000000000000000000000000000000000000000000000000000000000000000000000000000000000000000000000000000000000000200000000000000000000000000000000000000000000000000000000000000000000000000000000000000000000000000000000000000000000000 ||| mk = mk) (hIn : Keeps mk sIn s) : Keeps mk sIn (cacheSet l s) := by
  refine Keeps.step hMk ?_ hIn
  unfold cacheSet
  try dsimp only
  repeat' first
    | with_reducible refine Keeps.ite ?_ ?_
    | with_reducible exact Keeps.refl
    | with_reducible assumption
    | ((with_reducible apply Keeps.wr); (case d => rfl); (case e => rfl))
    | intro _
    | split
    | dsimp only
    | (refine Keeps.snd ?_ (by with_reducible assumption))
    | ((with_reducible apply Keeps.set_sec); (case e => rfl))

theorem cacheFill_keeps {mk : Nat} {sIn : State} (k : Nat) (s : State) (hMk : 0x800400000000000000000000000000000000000000000000000000000000000000000000000000000000000000000000000000000000000000000000000000000000000000000000000000000000000000000000000000000000000000000000000000000000000000000000000000000000000000000000000000000000000000000000000000000000000000000000000000000000200000000000000000000000000000000000000000000000000000000000000000000000000000000000000000000000000000000000000000000000 ||| mk = mk) (hIn : Keeps mk sIn s) : Keeps mk sIn (cacheFill k s) := by
  refine Keeps.step hMk ?_ hIn
  unfold cacheFill
  try dsimp only
  repeat' first
    | with_reducible refine Keeps.ite ?_ ?_
    | with_reducible exact Keeps.refl
    | with_reducible assumption
    | ((with_reducible apply Keeps.took); (case e => rfl))
    | ((with_reducible apply cacheSet_keeps); (case hMk => rfl))
    | intro _
    | split
    | dsimp only
    | (refine Keeps.snd ?_ (by with_reducible assumption))

theorem kcLookup_keeps {mk : Nat} {sIn : State} (k : Nat) (s : State) (hMk : 0x80040000000000000000000000000000000000000000000000000000000000000000000000000000000000000000000000000000000000000000000000000000000000000000000000000000000000000000000000000000000000000000000000000000000000000000000000000000000000000000000000000000000000000000000000000000000000000000000000000000000c200000000000000000000000000000000000000000000000000000000000000000000000000000000000000000000000000000000000000000000000 ||| mk = mk) (hIn : Keeps mk sIn s) : Keeps mk sIn (kcLookup k s) := by
  refine Keeps.step hMk ?_ hIn
  unfold kcLookup
  try dsimp only
  repeat' first
    | with_reducible refine Keeps.ite ?_ ?_
    | with_reducible exact Keeps.refl
    | with_reducible assumption
    | ((with_reducible apply Keeps.inc); (case d => rfl); (case e => rfl))
    | ((with_reducible apply cacheFill_keeps); (case hMk => rfl))
    | ((with_reducible apply cacheSet_keeps); (case hMk => rfl))
    | intro _
    | split
    | dsimp only
    | (refine Keeps.snd ?_ (by with_reducible assumption))

theorem keyWrite_keeps {mk : Nat} {sIn : State} (k : Nat) (key : Nat) (s : State) (hMk : 0x50708084000000000000000000020d100104a0000000008000040011d47c00c17c0000000000000000000000000000000000002000000000000000000000000000000000000000000000000000000000000000001867000180800000000800000000000000000000000000000000000000000000000000000000000000000000003001800000000000000000000000000000000000000000200000000000000000000000000000000000000000000000000000000000000000000000000000000000000000000000000000000000000000000080 ||| mk = mk) (hIn : Keeps mk sIn s) : Keeps mk sIn (keyWrite k key s) := by
  refine Keeps.step hMk ?_ hIn
  unfold keyWrite
  try dsimp only
  repeat' first
    | with_reducible refine Keeps.ite ?_ ?_
    | with_reducible exact Keeps.refl
    | with_reducible assumption
    | ((with_reducible apply cacheSet_keeps); (case hMk => rfl))
    | ((with_reducible apply mirCount_keeps); (case d => rfl); (case hMk => rfl); (case hMk2 => rfl))
    | intro _
    | split
    | dsimp only
    | (refine Keeps.snd ?_ (by with_reducible assumption))
    | ((with_reducible apply Keeps.set_sec); (case e => rfl))

theorem groupSlot_keeps {mk : Nat} {sIn : State} (w : Nat) (j : Nat) (g : Nat) (s : State) (hMk : 0x40000040000000000000000000000000000000000000000000000000000000000000000000000000000000000000000000000000000000000000000000000000000000003c000000000000000400000000000000000000000000000000000000000000000000000000000000000000000000000000000000000000000000000000000000000000000000000000000000000000000000000000000000000000000000000000000000000000000000000000000000000000000000000000000000000000000000000000000000000000000000000 ||| mk = mk) (hIn : Keeps mk sIn s) : Keeps mk sIn (groupSlot w j g s) := by
  refine Keeps.step hMk ?_ hIn
  unfold groupSlot
  try dsimp only
  repeat' first
    | with_reducible refine Keeps.ite ?_ ?_
    | with_reducible exact Keeps.refl
    | with_reducible assumption
    | ((with_reducible apply slotClear_keeps); (case hMk => rfl))
    | ((with_reducible apply slotFill_keeps); (case hMk => rfl))
    | intro _
    | split
    | dsimp only
    | (refine Keeps.snd ?_ (by with_reducible assumption))

theorem groupView_keeps {mk : Nat} {sIn : State} (w : Nat) (s : State) (hMk : 0x40000040000000000000000000000000000000000000000000000000000000000000000000000000000000000000000000000000000000000000000000000000000000003c000000000000000400000000000000000000000000000000000000000000000000000000000000000000000000000000000000000000000000000000000000000000000000000000000000000000000000000000000000000000000000000000000000000000000000000000000000000000000000000000000000000000000000000000000000000000000000000 ||| mk = mk) (hIn : Keeps mk sIn s) : Keeps mk sIn (groupView w s) := by
  refine Keeps.step hMk ?_ hIn
  unfold groupView
  try dsimp only
  repeat' first
    | with_reducible refine Keeps.ite ?_ ?_
    | with_reducible exact Keeps.refl
    | with_reducible assumption
    | ((with_reducible apply groupSlot_keeps); (case hMk => rfl))
    | intro _
    | split
    | dsimp only
    | (refine Keeps.snd ?_ (by with_reducible assumption))

theorem brineMask_keeps {mk : Nat} {sIn : State} (p : Nat) (s : State) (hMk : 0x400800400000000000000000000000000000000000000000000000000000000000000000000000000000000000000000000000000000000000000000000000000000000000000000000000000000000000000000000000000000000000000000000000000000000000000000000000000000000000000000000000000000000000000000000000000000000000000000000000000000000000000000000000000000000000000000000000000000000000000000000000000000000000000000000000000000000000000000000000000000000 ||| mk = mk) (hIn : Keeps mk sIn s) : Keeps mk sIn (brineMask p s) := by
  refine Keeps.step hMk ?_ hIn
  unfold brineMask
  try dsimp only
  repeat' first
    | with_reducible refine Keeps.ite ?_ ?_
    | with_reducible exact Keeps.refl
    | with_reducible assumption
    | ((with_reducible apply Keeps.took); (case e => rfl))
    | ((with_reducible apply sharesPut_keeps); (case hMk => rfl))
    | intro _
    | split
    | dsimp only
    | (refine Keeps.snd ?_ (by with_reducible assumption))
    | ((with_reducible apply Keeps.set_sec); (case e => rfl))

theorem strictEnd_keeps {mk : Nat} {sIn : State} (w : Nat) (s : State) (hMk : 0x4000000000000000000000000000000000000000000000000000000000000000000000000000000000000000000000000000000000000000000000000000000000 ||| mk = mk) (hIn : Keeps mk sIn s) : Keeps mk sIn (strictEnd w s) := by
  refine Keeps.step hMk ?_ hIn
  unfold strictEnd
  try dsimp only
  repeat' first
    | with_reducible refine Keeps.ite ?_ ?_
    | with_reducible exact Keeps.refl
    | with_reducible assumption
    | ((with_reducible apply Keeps.put); (case d => rfl); (case e => rfl))
    | intro _
    | split
    | dsimp only
    | (refine Keeps.snd ?_ (by with_reducible assumption))

theorem rekeySet_keeps {mk : Nat} {sIn : State} (nix : Nat) (resend : Bool) (s : State) (hMk : 0x50708084000000000000000000020d100004a0000000008000040011d47c00c17c0000000000000000000000000000000000002000000000000000000000000000000000000000000000000000000000000000001867000180800000000800000000000000000000000000000000000000000000000000000000000000000000003001800000000000000000000000000004000000000000000000000000000000000000000000000000000000000000000000000000000000000000000000000000000000000000000000000000000000000080 ||| mk = mk) (hIn : Keeps mk sIn s) : Keeps mk sIn (rekeySet nix resend s) := by
  refine Keeps.step hMk ?_ hIn
  unfold rekeySet
  try dsimp only
  repeat' first
    | with_reducible refine Keeps.ite ?_ ?_
    | with_reducible exact Keeps.refl
    | with_reducible assumption
    | ((with_reducible apply Keeps.inc); (case d => rfl); (case e => rfl))
    | ((with_reducible apply mirSend_keeps); (case hMk => rfl))
    | ((with_reducible apply rekeyPut_keeps); (case hMk => rfl))
    | intro _
    | split
    | dsimp only
    | (refine Keeps.snd ?_ (by with_reducible assumption))
    | ((with_reducible apply Keeps.set_sec); (case e => rfl))

theorem rekeyClear_keeps {mk : Nat} {sIn : State} (nix : Nat) (s : State) (hMk : 0x50708084000000000000000000020d100004a0000000008000040011d47c00c17c0000000000000000000000000000000000002000000000000000000000000000000000000000000000000000000000000000001867000180800000000800000000000000000000000000000000000000000000000000000000000000000000003001800000000000000000000000000004004000000000000000000000000000000000000000000000000000000000000000000000000000000000000000000000000000000000000000000000000000000080 ||| mk = mk) (hIn : Keeps mk sIn s) : Keeps mk sIn (rekeyClear nix s) := by
  refine Keeps.step hMk ?_ hIn
  unfold rekeyClear
  try dsimp only
  repeat' first
    | with_reducible refine Keeps.ite ?_ ?_
    | with_reducible exact Keeps.refl
    | with_reducible assumption
    | ((with_reducible apply Keeps.sub); (case d => rfl); (case e => rfl))
    | ((with_reducible apply mirSend_keeps); (case hMk => rfl))
    | ((with_reducible apply rekeyPut_keeps); (case hMk => rfl))
    | ((with_reducible apply strictEnd_keeps); (case hMk => rfl))
    | intro _
    | split
    | dsimp only
    | (refine Keeps.snd ?_ (by with_reducible assumption))
    | ((with_reducible apply Keeps.set_sec); (case e => rfl))

theorem lagCheck_keeps {mk : Nat} {sIn : State} (s : State) (hMk : 0x40000000000000000000000000000000000000200000000000000000000000000000000000000000000000000000000000000000000000000000000000000000000000000000000000000000000000000000000000000000000000000000000000000000000000000000000000000000000000000000000000000000000000000000000000000000000000000000000000000000000000000000000000000000000000000000000000000000000000000000000000000000000000000000000000000000000000000000000000000000000000 ||| mk = mk) (hIn : Keeps mk sIn s) : Keeps mk sIn (lagCheck s) := by
  refine Keeps.step hMk ?_ hIn
  unfold lagCheck
  try dsimp only
  repeat' first
    | with_reducible refine Keeps.ite ?_ ?_
    | with_reducible exact Keeps.refl
    | with_reducible assumption
    | ((with_reducible apply Keeps.put); (case d => rfl); (case e => rfl))
    | ((with_reducible apply modPair_keeps); (case hMk => rfl))
    | intro _
    | split
    | dsimp only
    | (refine Keeps.snd ?_ (by with_reducible assumption))

theorem rxDirty_keeps {mk : Nat} {sIn : State} (nix : Nat) (old : Nat) (s : State) (hMk : 0x800000000000000000000000000000000000000000000000000000000000000000000000000000000000000000000000000000000000000000000000000000000000000000000000000000000000000000000000000000000000000000000000000000000000000000000000000000000000000000000000000000000000000000000000000000000000000000000000000000000000000000000000000000000000000000000000000000000000000000000000000000000000000000000000000000000000000000000000000000000000 ||| mk = mk) (hIn : Keeps mk sIn s) : Keeps mk sIn (rxDirty nix old s) := by
  refine Keeps.step hMk ?_ hIn
  unfold rxDirty
  try dsimp only
  repeat' first
    | with_reducible refine Keeps.ite ?_ ?_
    | with_reducible exact Keeps.refl
    | with_reducible assumption
    | intro _
    | split
    | dsimp only
    | (refine Keeps.snd ?_ (by with_reducible assumption))
    | ((with_reducible apply Keeps.set_sec); (case e => rfl))

theorem haltDrop_keeps {mk : Nat} {sIn : State} (nix : Nat) (s : State) (hMk : 0x800000000000000000000000000000000000000000000000000000000000000000000000000000000000000000000000000000000000000000000000000000000000000000000000000000000000000000000000000000000000000000000000000000000000000000000000000000000000000000000000000000000000000000000000000000000000000000000008000000000000000000000000000000000000000000000000000000000000000000000000000000000000000000000000000000000000000000000000000000000000 ||| mk = mk) (hIn : Keeps mk sIn s) : Keeps mk sIn (haltDrop nix s) := by
  refine Keeps.step hMk ?_ hIn
  unfold haltDrop
  try dsimp only
  repeat' first
    | with_reducible refine Keeps.ite ?_ ?_
    | with_reducible exact Keeps.refl
    | with_reducible assumption
    | ((with_reducible apply Keeps.sub); (case d => rfl); (case e => rfl))
    | intro _
    | split
    | dsimp only
    | (refine Keeps.snd ?_ (by with_reducible assumption))
    | ((with_reducible apply Keeps.set_sec); (case e => rfl))

theorem haltClear_keeps {mk : Nat} {sIn : State} (nix : Nat) (s : State) (hMk : 0x40800000000000000000000000000000000000200000000000000000000000000000000000000000000000000000000000000000000000000000000000000000000000000000000000000000000000000000000000000000000000000000000000000000000000000000000000000000000000000000000000000000000000000000000000000000000000000000000008000000000000000000000000000000000000000000000000000000000000000000000000000000000000000000000000000000000000000000000000000000000000 ||| mk = mk) (hIn : Keeps mk sIn s) : Keeps mk sIn (haltClear nix s) := by
  refine Keeps.step hMk ?_ hIn
  unfold haltClear
  try dsimp only
  repeat' first
    | with_reducible refine Keeps.ite ?_ ?_
    | with_reducible exact Keeps.refl
    | with_reducible assumption
    | ((with_reducible apply haltDrop_keeps); (case hMk => rfl))
    | ((with_reducible apply lagCheck_keeps); (case hMk => rfl))
    | ((with_reducible apply modPair_keeps); (case hMk => rfl))
    | intro _
    | split
    | dsimp only
    | (refine Keeps.snd ?_ (by with_reducible assumption))

theorem keyLog_keeps {mk : Nat} {sIn : State} (nix : Nat) (gen : Nat) (kind : Nat) (ward : Nat) (counter : Nat) (s : State) (hMk : 0x501000000000000000000000000000000000000000000000000000000000000000000000000000000000000000000000000000200000000000000000000000000000000000000000000000000000000000000000186700018080000000080000000000000000000000000000000000000000000000000000000000000000000000000000000000000000000000000000000000003c000000000000000034000000000000000000000000000000000000000000000000000000000000000000000000000000000000000000000000000000000000 ||| mk = mk) (hIn : Keeps mk sIn s) : Keeps mk sIn (keyLog nix gen kind ward counter s) := by
  refine Keeps.step hMk ?_ hIn
  unfold keyLog
  try dsimp only
  repeat' first
    | with_reducible refine Keeps.ite ?_ ?_
    | with_reducible exact Keeps.refl
    | with_reducible assumption
    | ((with_reducible apply Keeps.wr); (case d => rfl); (case e => rfl))
    | ((with_reducible apply occur_keeps); (case d => rfl); (case hMk => rfl); (case hMk2 => rfl))
    | intro _
    | split
    | dsimp only
    | (refine Keeps.snd ?_ (by with_reducible assumption))

theorem jnlWriteHeader_keeps {mk : Nat} {sIn : State} (f : JnlHeader → JnlHeader) (s : State) (hMk : 0x1000000000000000000000000000000000000000000000000000000000000000000000000000000000000000000000000000000000000000000000000000000000000000000000000000000000000000000000000000000000000000000000000000000000000000000000000000000000000000000000000000000000000000000000000000000000000000000000000000000000000000000000000000000000000000000000000000000000000000000000000000000000000000000000000000000000000000000000000000000000000 ||| mk = mk) (hIn : Keeps mk sIn s) : Keeps mk sIn (jnlWriteHeader f s) := by
  refine Keeps.step hMk ?_ hIn
  unfold jnlWriteHeader
  try dsimp only
  repeat' first
    | with_reducible refine Keeps.ite ?_ ?_
    | with_reducible exact Keeps.refl
    | with_reducible assumption
    | ((with_reducible apply modJnl_keeps); (case hMk => rfl); (case hf => (intro m h; try dsimp only); repeat' first | with_reducible assumption | with_reducible apply jnlPut_wf | with_reducible apply jnlClear_wf | with_reducible apply hdrPut_wf | with_reducible apply entryPut_wf))
    | intro _
    | split
    | dsimp only
    | (refine Keeps.snd ?_ (by with_reducible assumption))

theorem jnlReopen_keeps {mk : Nat} {sIn : State} (s : State) (hMk : 0x1800000000000000000000000000000000000000000000000000000000000000000000000000000000000000000000000000000000000000000000000000000000000000000000000000000000000000000000000000000000000000000000000000000000000000000000000000000000000000000000000000000000000000000000000000000000000000000000000000000000000002000000000800000000000000000000000000000000000000000000000000000000000000000000000000000000000000000000000000000000000 ||| mk = mk) (hIn : Keeps mk sIn s) : Keeps mk sIn (jnlReopen s) := by
  refine Keeps.step hMk ?_ hIn
  unfold jnlReopen
  try dsimp only
  repeat' first
    | with_reducible refine Keeps.ite ?_ ?_
    | with_reducible exact Keeps.refl
    | with_reducible assumption
    | ((with_reducible apply Keeps.wr); (case d => rfl); (case e => rfl))
    | ((with_reducible apply Keeps.put); (case d => rfl); (case e => rfl))
    | ((with_reducible apply jnlWriteHeader_keeps); (case hMk => rfl))
    | intro _
    | split
    | dsimp only
    | (refine Keeps.snd ?_ (by with_reducible assumption))
    | ((with_reducible apply Keeps.set_sec); (case e => rfl))

theorem jnlTrace_keeps {mk : Nat} {sIn : State} (r : JnlRec) (res : Nat) (s : State) (hMk : 0x7c0000000000000000008000000000000000000000000000000000000000000000000000000000000000000000000000000000000000000000000000000000000 ||| mk = mk) (hIn : Keeps mk sIn s) : Keeps mk sIn (jnlTrace r res s) := by
  refine Keeps.step hMk ?_ hIn
  unfold jnlTrace
  try dsimp only
  repeat' first
    | with_reducible refine Keeps.ite ?_ ?_
    | with_reducible exact Keeps.refl
    | with_reducible assumption
    | ((with_reducible apply Keeps.wr); (case d => rfl); (case e => rfl))
    | intro _
    | split
    | dsimp only
    | (refine Keeps.snd ?_ (by with_reducible assumption))

theorem reserveGo_keeps {mk : Nat} {sIn : State} (r : Reserve) (s : State) (hMk : 0x50718084000000000000000000020d100004a0000000008000040011d47c00c17c0000000000000000000000000000000000002000000000000000000000000000000000000000000000000000000000000000001867000180800000000800000000000000000000000000000000000000000000000000000000000000000000003001800000000000000000000000000000000000000000002000000000800000000000000000000000000000000000000000000000000000000000000000000000000000000000000000000000000000000080 ||| mk = mk) (hIn : Keeps mk sIn s) : Keeps mk sIn (reserveGo r s) := by
  refine Keeps.step hMk ?_ hIn
  unfold reserveGo
  try dsimp only
  repeat' first
    | with_reducible refine Keeps.ite ?_ ?_
    | with_reducible exact Keeps.refl
    | with_reducible assumption
    | ((with_reducible apply jnlReopen_keeps); (case hMk => rfl))
    | ((with_reducible apply mirSend_keeps); (case hMk => rfl))
    | intro _
    | split
    | dsimp only
    | (refine Keeps.snd ?_ (by with_reducible assumption))
    | ((with_reducible apply Keeps.set_sec); (case e => rfl))

theorem reserve_keeps {mk : Nat} {sIn : State} (r : Reserve) (s : State) (hMk : 0x50718084000000000000000000020d100004a0000000008000040011d47c00c17c0000000000000000000000000000000000002000000000000000000000000000000000000000000000000000000000000000001867000180800000000800000000000000000000000000000000000000000000000000000000000000000000003001800000000000000000000000000000000000000000002000000000800000000000000000000000000000000000000000000000000000000000000000000000000000000000000000000000000000000080 ||| mk = mk) (hIn : Keeps mk sIn s) : Keeps mk sIn (reserve r s) := by
  refine Keeps.step hMk ?_ hIn
  unfold reserve
  try dsimp only
  repeat' first
    | with_reducible refine Keeps.ite ?_ ?_
    | with_reducible exact Keeps.refl
    | with_reducible assumption
    | ((with_reducible apply reserveGo_keeps); (case hMk => rfl))
    | intro _
    | split
    | dsimp only
    | (refine Keeps.snd ?_ (by with_reducible assumption))
    | ((with_reducible apply Keeps.set_sec); (case e => rfl))

theorem reserveNext_keeps {mk : Nat} {sIn : State} (typ : Nat) (key : Nat) (s : State) (hMk : 0x50718084000000000000000000020d100004a0000000008000040011d47c00c17c0000000000000000000000000000000000002000000000000000000000000000000000000000000000000000000000000000001867000180800000000800000000000000000000000000000000000000000000000000000000000000000000003001800000000000000000000000000000000000000000002000000000800000000000000000000000000000000000000000000000000000000000000000000000000000000000000000000000000000000080 ||| mk = mk) (hIn : Keeps mk sIn s) : Keeps mk sIn (reserveNext typ key s) := by
  refine Keeps.step hMk ?_ hIn
  unfold reserveNext
  try dsimp only
  repeat' first
    | with_reducible refine Keeps.ite ?_ ?_
    | with_reducible exact Keeps.refl
    | with_reducible assumption
    | ((with_reducible apply reserveGo_keeps); (case hMk => rfl))
    | intro _
    | split
    | dsimp only
    | (refine Keeps.snd ?_ (by with_reducible assumption))
    | ((with_reducible apply Keeps.set_sec); (case e => rfl))

theorem reserveNode_keeps {mk : Nat} {sIn : State} (nix : Nat) (s : State) (hMk : 0x50718084000000000000000000020d100004a0000000008000040011d47c00c17c0000000000000000000000000000000000002000000000000000000000000000000000000000000000000000000000000000001867000180800000000800000000000000000000000000000000000000000000000000000000000000000000003001800000000000000000000000000000000000000000002000000000800000000000000000000000000000000000000000000000000000000000000000000000000000000000000000000000000000000080 ||| mk = mk) (hIn : Keeps mk sIn s) : Keeps mk sIn (reserveNode nix s) := by
  refine Keeps.step hMk ?_ hIn
  unfold reserveNode
  try dsimp only
  repeat' first
    | with_reducible refine Keeps.ite ?_ ?_
    | with_reducible exact Keeps.refl
    | with_reducible assumption
    | ((with_reducible apply reserve_keeps); (case hMk => rfl))
    | intro _
    | split
    | dsimp only
    | (refine Keeps.snd ?_ (by with_reducible assumption))

theorem reserveGroup_keeps {mk : Nat} {sIn : State} (w : Nat) (s : State) (hMk : 0x50718084000000000000000000020d100004a0000000008000040011d47c00c17c0000000000000000000000000000000000002000000000000000000000000000000000000000000000000000000000000000001867000180800000000800000000000000000000000000000000000000000000000000000000000000000000003001800000000000000000000000000000000000000000002000000000800000000000000000000000000000000000000000000000000000000000000000000000000000000000000000000000000000000080 ||| mk = mk) (hIn : Keeps mk sIn s) : Keeps mk sIn (reserveGroup w s) := by
  refine Keeps.step hMk ?_ hIn
  unfold reserveGroup
  try dsimp only
  repeat' first
    | with_reducible refine Keeps.ite ?_ ?_
    | with_reducible exact Keeps.refl
    | with_reducible assumption
    | ((with_reducible apply reserve_keeps); (case hMk => rfl))
    | intro _
    | split
    | dsimp only
    | (refine Keeps.snd ?_ (by with_reducible assumption))

theorem waitNode_keeps {mk : Nat} {sIn : State} (nix : Nat) (s : State) (hMk : 0x50718084000000000000000000020d100004a0000000008000040011d47c00c17c0000000000000000000000000000000000002000000000000000000000000000000000000000000000000000000000000000001867000180800000000800000000000000000000000000000000000000000000000000000000000000000000003001800000000000000000000000000000000000010000002000000000800000000000000000000000000000000000000000000000000000000000000000000000000000000000000000000000000000000080 ||| mk = mk) (hIn : Keeps mk sIn s) : Keeps mk sIn (waitNode nix s) := by
  refine Keeps.step hMk ?_ hIn
  unfold waitNode
  try dsimp only
  repeat' first
    | with_reducible refine Keeps.ite ?_ ?_
    | with_reducible exact Keeps.refl
    | with_reducible assumption
    | ((with_reducible apply Keeps.inc); (case d => rfl); (case e => rfl))
    | (with_reducible refine Keeps.when _ _ ?_ ?_)
    | ((with_reducible apply reserveNode_keeps); (case hMk => rfl))
    | intro _
    | split
    | dsimp only
    | (refine Keeps.snd ?_ (by with_reducible assumption))

theorem waitGroup_keeps {mk : Nat} {sIn : State} (w : Nat) (s : State) (hMk : 0x50718084000000000000000000020d100004a0000000008000040011d47c00c17c0000000000000000000000000000000000002000000000000000000000000000000000000000000000000000000000000000001867000180800000000800000000000000000000000000000000000000000000000000000000000000000000003001800000000000000000000000000000000000010000002000000000800000000000000000000000000000000000000000000000000000000000000000000000000000000000000000000000000000000080 ||| mk = mk) (hIn : Keeps mk sIn s) : Keeps mk sIn (waitGroup w s) := by
  refine Keeps.step hMk ?_ hIn
  unfold waitGroup
  try dsimp only
  repeat' first
    | with_reducible refine Keeps.ite ?_ ?_
    | with_reducible exact Keeps.refl
    | with_reducible assumption
    | ((with_reducible apply Keeps.inc); (case d => rfl); (case e => rfl))
    | (with_reducible refine Keeps.when _ _ ?_ ?_)
    | ((with_reducible apply reserveGroup_keeps); (case hMk => rfl))
    | intro _
    | split
    | dsimp only
    | (refine Keeps.snd ?_ (by with_reducible assumption))

theorem fcMark_keeps {mk : Nat} {sIn : State} (nix : Nat) (old : Nat) (s : State) (hMk : 0x50708084000000000000000000020d100004a0000000008000040011d47c00c17c000000000000000000000000000000000000200000000000000000000000000000000000000000000000000000000000000000186700018080000000080000000000000000000000000000000000000000000000000000000000000000000000300180000000000000000000000000000c00003c020000000000000034000000000000000000000000000000000000000000000000000000000000000000000000000000000000000000000000000000000080 ||| mk = mk) (hIn : Keeps mk sIn s) : Keeps mk sIn (fcMark nix old s) := by
  refine Keeps.step hMk ?_ hIn
  unfold fcMark
  try dsimp only
  repeat' first
    | with_reducible refine Keeps.ite ?_ ?_
    | with_reducible exact Keeps.refl
    | with_reducible assumption
    | ((with_reducible apply Keeps.inc); (case d => rfl); (case e => rfl))
    | ((with_reducible apply keyLog_keeps); (case hMk => rfl))
    | ((with_reducible apply rekeySet_keeps); (case hMk => rfl))
    | intro _
    | split
    | dsimp only
    | (refine Keeps.snd ?_ (by with_reducible assumption))
    | ((with_reducible apply Keeps.set_sec); (case e => rfl))

theorem groupMark_keeps {mk : Nat} {sIn : State} (w : Nat) (old : Nat) (s : State) (hMk : 0x501000000000000000000000000000000000000000000000000000000000000000000000000000000000000000000000000000200000000000000000000000000000000000000000000000000000000000000000186700018080000000080000000000000000000000000000000000000000000000000000000000000000000000000000000000000000000000000000000000003c000000000000000034000000000000000000000000000000000000000000000000000000000000000000000000000000000000000000000000000000000000 ||| mk = mk) (hIn : Keeps mk sIn s) : Keeps mk sIn (groupMark w old s) := by
  refine Keeps.step hMk ?_ hIn
  unfold groupMark
  try dsimp only
  repeat' first
    | with_reducible refine Keeps.ite ?_ ?_
    | with_reducible exact Keeps.refl
    | with_reducible assumption
    | ((with_reducible apply keyLog_keeps); (case hMk => rfl))
    | intro _
    | split
    | dsimp only
    | (refine Keeps.snd ?_ (by with_reducible assumption))

theorem fcTake_keeps {mk : Nat} {sIn : State} (nix : Nat) (s : State) (hMk : 0x507180a4000000000000000000020d100004a0000000008000040011d47c00c17c000000000000000000000000000000000000200000000000000000000000000000000000000000000000000000000000000000186700018080000000080000000000000000000000000000000000000000000000000000000000000000000000300180000000000000000000000000000c00003c020000002000000034800000000000000000000000000000000000000000000000000000000000000000000000000000000000000000000000000000000080 ||| mk = mk) (hIn : Keeps mk sIn s) : Keeps mk sIn (fcTake nix s).2 := by
  refine Keeps.step hMk ?_ hIn
  unfold fcTake
  try dsimp only
  repeat' first
    | with_reducible refine Keeps.ite ?_ ?_
    | with_reducible exact Keeps.refl
    | with_reducible assumption
    | ((with_reducible apply Keeps.modNode); (case e => rfl); (case e2 => rfl))
    | ((with_reducible apply fcMark_keeps); (case hMk => rfl))
    | ((with_reducible apply reserveNode_keeps); (case hMk => rfl))
    | intro _
    | split
    | dsimp only
    | (refine Keeps.snd ?_ (by with_reducible assumption))

theorem groupTake_keeps {mk : Nat} {sIn : State} (w : Nat) (s : State) (hMk : 0x50718084000000000000000000020d100004a0000000008000040011d47c00c17c000000000000000000000000000000000000200000000000000000000000000000000000000000000000000000000000000000186700018080000000080000000000000000000000000000000000000000000000000000000000000000000000300180000000000000000000000000000100003c000000002000000034800000000000000000000000000000000000000000000000000000000000000000000000000000000000000000000000000000000080 ||| mk = mk) (hIn : Keeps mk sIn s) : Keeps mk sIn (groupTake w s).2 := by
  refine Keeps.step hMk ?_ hIn
  unfold groupTake
  try dsimp only
  repeat' first
    | with_reducible refine Keeps.ite ?_ ?_
    | with_reducible exact Keeps.refl
    | with_reducible assumption
    | ((with_reducible apply Keeps.wr); (case d => rfl); (case e => rfl))
    | ((with_reducible apply groupMark_keeps); (case hMk => rfl))
    | ((with_reducible apply reserveGroup_keeps); (case hMk => rfl))
    | intro _
    | split
    | dsimp only
    | (refine Keeps.snd ?_ (by with_reducible assumption))

theorem ratchetAdvance_keeps {mk : Nat} {sIn : State} (nix : Nat) (s : State) (hMk : 0x507180a4000000000000000000020d100104a0002000008000040011d47c00c17c000000000000000000000000000000000000200000000000000000000000000000000000000000000000000000000000000000186700018080000000080000000000000000000000000000000000000000000000000000000000000000000000300180000000000000000000000000000c004000000000202000000000800000000000000000000000000000000000000000000000000000000000000000000000000000000000000000000000000000000080 ||| mk = mk) (hIn : Keeps mk sIn s) : Keeps mk sIn (ratchetAdvance nix s) := by
  refine Keeps.step hMk ?_ hIn
  unfold ratchetAdvance
  try dsimp only
  repeat' first
    | with_reducible refine Keeps.ite ?_ ?_
    | with_reducible exact Keeps.refl
    | with_reducible assumption
    | ((with_reducible apply Keeps.modNode); (case e => rfl); (case e2 => rfl))
    | ((with_reducible apply cacheFill_keeps); (case hMk => rfl))
    | ((with_reducible apply haltClear_keeps); (case hMk => rfl))
    | ((with_reducible apply keyWrite_keeps); (case hMk => rfl))
    | ((with_reducible apply rekeyClear_keeps); (case hMk => rfl))
    | ((with_reducible apply reserve_keeps); (case hMk => rfl))
    | intro _
    | split
    | dsimp only
    | (refine Keeps.snd ?_ (by with_reducible assumption))

theorem ratchetDone_keeps {mk : Nat} {sIn : State} (nix : Nat) (gen : Nat) (ward : Nat) (key : Nat) (s : State) (hMk : 0x5010000000000000000000000000000000000000000000000000000000000000000000000000000000000000000000000000002000000000000000000000000000000000000000000000000000000000000000001867000180800000000800000000000000000000000000000000000000000000000000000000000000000000000000000000000000000000000000000000000000000060000000000040000000000000000000000000000000000000000000000000000000000000000000000000000000000000000000000000000000000000 ||| mk = mk) (hIn : Keeps mk sIn s) : Keeps mk sIn (ratchetDone nix gen ward key s) := by
  refine Keeps.step hMk ?_ hIn
  unfold ratchetDone
  try dsimp only
  repeat' first
    | with_reducible refine Keeps.ite ?_ ?_
    | with_reducible exact Keeps.refl
    | with_reducible assumption
    | ((with_reducible apply Keeps.inc); (case d => rfl); (case e => rfl))
    | ((with_reducible apply occur_keeps); (case d => rfl); (case hMk => rfl); (case hMk2 => rfl))
    | intro _
    | split
    | dsimp only
    | (refine Keeps.snd ?_ (by with_reducible assumption))

theorem secWhey_keeps {mk : Nat} {sIn : State} (code : Nat) (s : State) (hMk : 0x7f00000000000000000000000000000000000000000000000000000000000000000000000000000000000000000000000000000000000000000000000000 ||| mk = mk) (hIn : Keeps mk sIn s) : Keeps mk sIn (secWhey code s) := by
  refine Keeps.step hMk ?_ hIn
  unfold secWhey
  try dsimp only
  repeat' first
    | with_reducible refine Keeps.ite ?_ ?_
    | with_reducible exact Keeps.refl
    | with_reducible assumption
    | ((with_reducible apply Keeps.inc); (case d => rfl); (case e => rfl))
    | intro _
    | split
    | dsimp only
    | (refine Keeps.snd ?_ (by with_reducible assumption))

theorem groupRotate_keeps {mk : Nat} {sIn : State} (w : Nat) (s : State) (hMk : 0x40080040000000000000000000000000000000000000000000000000000000000000000000000000000000000000000000000000000000000000000000000000000000003c000000000000000400000000000000000000000000000000000000000000000000000000000000000000000000000000000000000000000000000000000000000000000000000000000000003468000000000000000000000000000000000000000000000000000000000000000000000000000000000000000000000000000000000000000000000000000000000 ||| mk = mk) (hIn : Keeps mk sIn s) : Keeps mk sIn (groupRotate w s) := by
  refine Keeps.step hMk ?_ hIn
  unfold groupRotate
  try dsimp only
  repeat' first
    | with_reducible refine Keeps.ite ?_ ?_
    | with_reducible exact Keeps.refl
    | with_reducible assumption
    | ((with_reducible apply Keeps.wr); (case d => rfl); (case e => rfl))
    | ((with_reducible apply Keeps.put); (case d => rfl); (case e => rfl))
    | ((with_reducible apply groupView_keeps); (case hMk => rfl))
    | intro _
    | split
    | dsimp only
    | (refine Keeps.snd ?_ (by with_reducible assumption))
    | ((with_reducible apply Keeps.set_sec); (case e => rfl))

theorem groupSwitch_keeps {mk : Nat} {sIn : State} (w : Nat) (s : State) (hMk : 0x54718084000000000000000000020d100104a0002000008000040011d47c00c17c000000000000000000000000000000000000200000000000000000000000000000000003c00000000000000040000000000000186700018080000000080000000000000000000000000000000000000000000000000000000000000000000000300180000000000000000000000000000346c000000000002000000800800000000000000000000000000000000000000000000000000000000000000000000000000000000000000000000000000000000080 ||| mk = mk) (hIn : Keeps mk sIn s) : Keeps mk sIn (groupSwitch w s) := by
  refine Keeps.step hMk ?_ hIn
  unfold groupSwitch
  try dsimp only
  repeat' first
    | with_reducible refine Keeps.ite ?_ ?_
    | with_reducible exact Keeps.refl
    | with_reducible assumption
    | ((with_reducible apply groupRotate_keeps); (case hMk => rfl))
    | ((with_reducible apply lagCheck_keeps); (case hMk => rfl))
    | ((with_reducible apply mirCount_keeps); (case d => rfl); (case hMk => rfl); (case hMk2 => rfl))
    | ((with_reducible apply modPair_keeps); (case hMk => rfl))
    | ((with_reducible apply raiseWard_keeps); (case d => rfl); (case hMk => rfl); (case hMk2 => rfl))
    | ((with_reducible apply reserve_keeps); (case hMk => rfl))
    | ((with_reducible apply strictEnd_keeps); (case hMk => rfl))
    | intro _
    | split
    | dsimp only
    | (refine Keeps.snd ?_ (by with_reducible assumption))

theorem fwtPut_keeps {mk : Nat} {sIn : State} (loc : Nat) (e : FwtEntry) (s : State) (hMk : 0x2000000000000000000000000000000000000000000000000000000000000000000000000000000000000000000000000000000000000000000000000000000000000000000000000000000000000000000000000000000000000000000000000000000000000000000000000000000000000000000000000000000000000000000000000000000000000000000000000000000000000000000000000000000000000000000000000000000000000000000000000000000000000000000000000000000000000000000000000000000000000 ||| mk = mk) (hIn : Keeps mk sIn s) : Keeps mk sIn (fwtPut loc e s) := by
  refine Keeps.step hMk ?_ hIn
  unfold fwtPut
  try dsimp only
  repeat' first
    | with_reducible refine Keeps.ite ?_ ?_
    | with_reducible exact Keeps.refl
    | with_reducible assumption
    | intro _
    | split
    | dsimp only
    | (refine Keeps.snd ?_ (by with_reducible assumption))
    | ((with_reducible apply Keeps.set_fwd); (case e => rfl))
    | ((with_reducible apply Keeps.set_fwd); (case e => rfl))

theorem modHead_keeps {mk : Nat} {sIn : State} (b : Nat) (f : FwtHead → FwtHead) (s : State) (hMk : 0x2000000000000000000000000000000000000000000000000000000000000000000000000000000000000000000000000000000000000000000000000000000000000000000000000000000000000000000000000000000000000000000000000000000000000000000000000000000000000000000000000000000000000000000000000000000000000000000000000000000000000000000000000000000000000000000000000000000000000000000000000000000000000000000000000000000000000000000000000000000000000 ||| mk = mk) (hIn : Keeps mk sIn s) : Keeps mk sIn (modHead b f s) := by
  refine Keeps.step hMk ?_ hIn
  unfold modHead
  try dsimp only
  repeat' first
    | with_reducible refine Keeps.ite ?_ ?_
    | with_reducible exact Keeps.refl
    | with_reducible assumption
    | intro _
    | split
    | dsimp only
    | (refine Keeps.snd ?_ (by with_reducible assumption))
    | ((with_reducible apply Keeps.set_fwd); (case e => rfl))

theorem meetsSet_keeps {mk : Nat} {sIn : State} (m : TableMeets) (s : State) (hMk : 0x2000000000000000000000000000000000000000000000000000000000000000000000000000000000000000000000000000000000000000000000000000000000000000000000000000000000000000000000000000000000000000000000000000000000000000000000000000000000000000000000000000000000000000000000000000000000000000000000000000000000000000000000000000000000000000000000000000000000000000000000000000000000000000000000000000000000000000000000000000000000000 ||| mk = mk) (hIn : Keeps mk sIn s) : Keeps mk sIn (meetsSet m s) := by
  refine Keeps.step hMk ?_ hIn
  unfold meetsSet
  try dsimp only
  repeat' first
    | with_reducible refine Keeps.ite ?_ ?_
    | with_reducible exact Keeps.refl
    | with_reducible assumption
    | intro _
    | split
    | dsimp only
    | (refine Keeps.snd ?_ (by with_reducible assumption))
    | ((with_reducible apply Keeps.set_fwd); (case e => rfl))

theorem withMeets_keeps {mk : Nat} {sIn : State} (m : TableMeets) (f : State → Result) (s : State) (hMk : 0x2000000000000000000000000000000000000000000000000000000000000000000000000000000000000000000000000000000000000000000000000000000000000000000000000000000000000000000000000000000000000000000000000000000000000000000000000000000000000000000000000000000000000000000000000000000000000000000000000000000000000000000000000000000000000000000000000000000000000000000000000000000000000000000000000000000000000000000000000000000000000 ||| mk = mk)
    (hf : ∀ x, Keeps mk sIn x → KeepsR mk sIn (f x)) (hIn : Keeps mk sIn s) : KeepsR mk sIn (withMeets m f s) := by
  have q := hf _ (meetsSet_keeps m s hMk hIn)
  unfold withMeets
  generalize f (meetsSet m s) = r at q
  cases r with
  | next u => exact KeepsR.next (meetsSet_keeps _ _ hMk (q.only u rfl))
  | fault x => exact ⟨fun u e => by cases e⟩
  | refused x => exact ⟨fun u e => by cases e⟩

theorem lockTake_keeps {mk : Nat} {sIn : State} (s : State) (hMk : 0x2000000000000000000000000000000000000000000000000000000000000000000000000000000000000000000000000000000000000000000000000000000000000000000000000000000000000000000000000000000000000000000000000000000000000000000000000000000000000000000000000000000000000000000000000000000100000000000000000000000000000000000000000000000000000000000000000000000000000000000000000000000000000000000000000000000000000000000000000000000000000 ||| mk = mk) (hIn : Keeps mk sIn s) : Keeps mk sIn (lockTake s) := by
  refine Keeps.step hMk ?_ hIn
  unfold lockTake
  try dsimp only
  repeat' first
    | with_reducible refine Keeps.ite ?_ ?_
    | with_reducible exact Keeps.refl
    | with_reducible assumption
    | ((with_reducible apply Keeps.inc); (case d => rfl); (case e => rfl))
    | ((with_reducible apply meetsSet_keeps); (case hMk => rfl))
    | intro _
    | split
    | dsimp only
    | (refine Keeps.snd ?_ (by with_reducible assumption))

theorem fwtSeek_keeps {mk : Nat} {sIn : State} (key : Nat) (cls : Nat) (w : Nat) (s : State) (hMk : 0x5012000000000000000000000000000000000000000000000000000000000000000000000000000000000000000000000000002000000000000000000000000000000000000000000000000000000000000000001867000180800000000800000000000000000000000000000000000000000000000000000000000000000000000000000000000000000190000000040000000000000000000000000000000000000000000000000000000000000000000000000000000000000000000000000000000000000000000000000000000000000000 ||| mk = mk) (hIn : Keeps mk sIn s) : Keeps mk sIn (fwtSeek key cls w s).2 := by
  refine Keeps.step hMk ?_ hIn
  unfold fwtSeek
  try dsimp only
  repeat' first
    | with_reducible refine Keeps.ite ?_ ?_
    | with_reducible exact Keeps.refl
    | with_reducible assumption
    | ((with_reducible apply Keeps.inc); (case d => rfl); (case e => rfl))
    | ((with_reducible apply Keeps.add); (case d => rfl); (case e => rfl))
    | ((with_reducible apply meetsSet_keeps); (case hMk => rfl))
    | ((with_reducible apply raise_keeps); (case d => rfl); (case hMk => rfl); (case hMk2 => rfl))
    | intro _
    | split
    | dsimp only
    | (refine Keeps.snd ?_ (by with_reducible assumption))

theorem fwtHit_keeps {mk : Nat} {sIn : State} (p : Nat) (s : State) (hMk : 0x2000000000000000000000000000000000000000000000000000000000000000000000000000000000000000000000000000000000000000000000000000000000000000000000000000000000000000000000000000000000000000000000000000000000000000000000000000000000000000000000000000000000000000000000000000000000220000000000000000000000000000000000000000000000000000000000000000000000000000000000000000000000000000000000000000000000000000000000000000000000000 ||| mk = mk) (hIn : Keeps mk sIn s) : Keeps mk sIn (fwtHit p s) := by
  refine Keeps.step hMk ?_ hIn
  unfold fwtHit
  try dsimp only
  repeat' first
    | with_reducible refine Keeps.ite ?_ ?_
    | with_reducible exact Keeps.refl
    | with_reducible assumption
    | ((with_reducible apply Keeps.inc); (case d => rfl); (case e => rfl))
    | ((with_reducible apply fwtPut_keeps); (case hMk => rfl))
    | intro _
    | split
    | dsimp only
    | (refine Keeps.snd ?_ (by with_reducible assumption))

theorem fwtLookup_keeps {mk : Nat} {sIn : State} (key : Nat) (cls : Nat) (w : Nat) (s : State) (hMk : 0x50120000000000000000000000000000000000000000000000000000000000000000000000000000000000000000000000000020000000000000000000000000000000000000000000000000000000000000000018670001808000000008000000000000000000000000000000000000000000000000000000000000000000000000000000000000000003f0000000040000000000000000000000000000000000000000000000000000000000000000000000000000000000000000000000000000000000000000000000000000000000000000 ||| mk = mk) (hIn : Keeps mk sIn s) : Keeps mk sIn (fwtLookup key cls w s).2 := by
  refine Keeps.step hMk ?_ hIn
  unfold fwtLookup
  try dsimp only
  repeat' first
    | with_reducible refine Keeps.ite ?_ ?_
    | with_reducible exact Keeps.refl
    | with_reducible assumption
    | ((with_reducible apply Keeps.inc); (case d => rfl); (case e => rfl))
    | ((with_reducible apply fwtHit_keeps); (case hMk => rfl))
    | (refine Keeps.snd (p := fwtSeek _ _ _ _) ?_ (by with_reducible assumption))
    | ((with_reducible apply fwtSeek_keeps); (case hMk => rfl))
    | intro _
    | split
    | dsimp only
    | (refine Keeps.snd ?_ (by with_reducible assumption))

theorem resolveSrc_keeps {mk : Nat} {sIn : State} (w : Nat) (a : Addr) (s : State) (hMk : 0x50120000000000000000000000000000000000000000000000000000000000000000000000000000000000000000000000000020000000000000000000000000000000000000000000000000000000000000000018670001808000000008000000000000000000000000000000000000000000000000000000000000000000000000000000000000000003f0000000040000000000000000000000000000000000000000000000000000000000000000000000000000000000000000000000000000000000000000000000000000000000000000 ||| mk = mk) (hIn : Keeps mk sIn s) : Keeps mk sIn (resolveSrc w a s).2 := by
  refine Keeps.step hMk ?_ hIn
  unfold resolveSrc
  try dsimp only
  repeat' first
    | with_reducible refine Keeps.ite ?_ ?_
    | with_reducible exact Keeps.refl
    | with_reducible assumption
    | ((with_reducible apply Keeps.inc); (case d => rfl); (case e => rfl))
    | ((with_reducible apply fwtHit_keeps); (case hMk => rfl))
    | (refine Keeps.snd (p := fwtSeek _ _ _ _) ?_ (by with_reducible assumption))
    | ((with_reducible apply fwtSeek_keeps); (case hMk => rfl))
    | intro _
    | split
    | dsimp only
    | (refine Keeps.snd ?_ (by with_reducible assumption))

theorem resolveIid_keeps {mk : Nat} {sIn : State} (w : Nat) (iid : Nat) (s : State) (hMk : 0x50120000000000000000000000000000000000000000000000000000000000000000000000000000000000000000000000000020000000000000000000000000000000000000000000000000000000000000000018670001808000000008000000000000000000000000000000000000000000000000000000000000000000000000000000000000000003f0000000040000000000000000000000000000000000000000000000000000000000000000000000000000000000000000000000000000000000000000000000000000000000000000 ||| mk = mk) (hIn : Keeps mk sIn s) : Keeps mk sIn (resolveIid w iid s).2 := by
  refine Keeps.step hMk ?_ hIn
  unfold resolveIid
  try dsimp only
  repeat' first
    | with_reducible refine Keeps.ite ?_ ?_
    | with_reducible exact Keeps.refl
    | with_reducible assumption
    | (refine Keeps.snd (p := fwtLookup _ _ _ _) ?_ (by with_reducible assumption))
    | ((with_reducible apply fwtLookup_keeps); (case hMk => rfl))
    | intro _
    | split
    | dsimp only
    | (refine Keeps.snd ?_ (by with_reducible assumption))

theorem gatewayPorts_keeps {mk : Nat} {sIn : State} (s : State) (hMk : 0x50120000000000000000000000000000000000000000000000000000000000000000000000000000000000000000000000000020000000000000000000000000000000000000000000000000000000000000000018670001808000000008000000000000000000000000000000000000000000000000000000000000000000000000000000000000000003f0000000040000000000000000000000000000000000000000000000000000000000000000000000000000000000000000000000000000000000000000000000000000000000000000 ||| mk = mk) (hIn : Keeps mk sIn s) : Keeps mk sIn (gatewayPorts s).2 := by
  refine Keeps.step hMk ?_ hIn
  unfold gatewayPorts
  try dsimp only
  repeat' first
    | with_reducible refine Keeps.ite ?_ ?_
    | with_reducible exact Keeps.refl
    | with_reducible assumption
    | (refine Keeps.snd (p := fwtLookup _ _ _ _) ?_ (by with_reducible assumption))
    | ((with_reducible apply fwtLookup_keeps); (case hMk => rfl))
    | intro _
    | split
    | dsimp only
    | (refine Keeps.snd ?_ (by with_reducible assumption))

theorem macTrace_keeps {mk : Nat} {sIn : State} (code : Nat) (nix : Nat) (lane : Nat) (detail : Nat) (s : State) (hMk : 0x8000000000000000001000000000000000000000000000000000000000000000 ||| mk = mk) (hIn : Keeps mk sIn s) : Keeps mk sIn (macTrace code nix lane detail s) := by
  refine Keeps.step hMk ?_ hIn
  unfold macTrace
  try dsimp only
  repeat' first
    | with_reducible refine Keeps.ite ?_ ?_
    | with_reducible exact Keeps.refl
    | with_reducible assumption
    | ((with_reducible apply Keeps.wr); (case d => rfl); (case e => rfl))
    | intro _
    | split
    | dsimp only
    | (refine Keeps.snd ?_ (by with_reducible assumption))

theorem templateClamp_keeps {mk : Nat} {sIn : State} (t : Nat) (s : State) (hMk : 0x603b800000000000000000000000000080000000000000000000000000000000 ||| mk = mk) (hIn : Keeps mk sIn s) : Keeps mk sIn (templateClamp t s) := by
  refine Keeps.step hMk ?_ hIn
  unfold templateClamp
  try dsimp only
  repeat' first
    | with_reducible refine Keeps.ite ?_ ?_
    | with_reducible exact Keeps.refl
    | with_reducible assumption
    | ((with_reducible apply Keeps.wr); (case d => rfl); (case e => rfl))
    | intro _
    | split
    | dsimp only
    | (refine Keeps.snd ?_ (by with_reducible assumption))

theorem modLane_keeps {mk : Nat} {sIn : State} (n : Nat) (f : Lane → Lane) (s : State) (hMk : 0x100000000000000000000000000000000000000000000000000000000000000000000000000000000000000000000000000000000000000000000000000000000000000000000000000000000000000000000000000000000000000000000000000000000000000000000000000000000000000000000000000000000000000000000000000000000000000000000000000000000000000000000000000000000000000000000000000000000000000000000000000000000000000000000000000000000000000000000000000000000000 ||| mk = mk) (hIn : Keeps mk sIn s) : Keeps mk sIn (modLane n f s) := by
  refine Keeps.step hMk ?_ hIn
  unfold modLane
  try dsimp only
  repeat' first
    | with_reducible refine Keeps.ite ?_ ?_
    | with_reducible exact Keeps.refl
    | with_reducible assumption
    | intro _
    | split
    | dsimp only
    | (refine Keeps.snd ?_ (by with_reducible assumption))
    | ((with_reducible apply Keeps.set_lanes); (case e => rfl))

theorem modMac_keeps {mk : Nat} {sIn : State} (f : Mac → Mac) (s : State) (hMk : 0x80000000000000000000000000000000000000000000000000000000000000000000000000000000000000000000000000000000000000000000000000000000000000000000000000000000000000000000000000000000000000000000000000000000000000000000000000000000000000000000000000000000000000000000000000000000000000000000000000000000000000000000000000000000000000000000000000000000000000000000000000000000000000000000000000000000000000000000000000000000000 ||| mk = mk) (hIn : Keeps mk sIn s) : Keeps mk sIn (modMac f s) := by
  refine Keeps.step hMk ?_ hIn
  unfold modMac
  try dsimp only
  repeat' first
    | with_reducible refine Keeps.ite ?_ ?_
    | with_reducible exact Keeps.refl
    | with_reducible assumption
    | intro _
    | split
    | dsimp only
    | (refine Keeps.snd ?_ (by with_reducible assumption))
    | ((with_reducible apply Keeps.set_mac); (case e => rfl))

theorem laneView_keeps {mk : Nat} {sIn : State} (n : Nat) (s : State) (hMk : 0x400000000000000000000000000000000000000000000000000000000000000000000 ||| mk = mk) (hIn : Keeps mk sIn s) : Keeps mk sIn (laneView n s) := by
  refine Keeps.step hMk ?_ hIn
  unfold laneView
  try dsimp only
  repeat' first
    | with_reducible refine Keeps.ite ?_ ?_
    | with_reducible exact Keeps.refl
    | with_reducible assumption
    | ((with_reducible apply Keeps.wr); (case d => rfl); (case e => rfl))
    | intro _
    | split
    | dsimp only
    | (refine Keeps.snd ?_ (by with_reducible assumption))

theorem spanView_keeps {mk : Nat} {sIn : State} (n : Nat) (s : State) (hMk : 0x800000000000000000000000000000000000000000000000000000000000000000000 ||| mk = mk) (hIn : Keeps mk sIn s) : Keeps mk sIn (spanView n s) := by
  refine Keeps.step hMk ?_ hIn
  unfold spanView
  try dsimp only
  repeat' first
    | with_reducible refine Keeps.ite ?_ ?_
    | with_reducible exact Keeps.refl
    | with_reducible assumption
    | ((with_reducible apply Keeps.put); (case d => rfl); (case e => rfl))
    | intro _
    | split
    | dsimp only
    | (refine Keeps.snd ?_ (by with_reducible assumption))

theorem touchAsn_keeps {mk : Nat} {sIn : State} (nix : Nat) (a : Nat) (s : State) (hMk : 0x40002000000000000000000000000000000000000000000000000000000000000000000000000000000000000000000000000000000000000000000000000000000000000000000000000000000000000000000000000000000000000000000000000000000000000000000000000000000000000000000000000000000000000000000000000000000000000000000000000000000000000000000000000000000000000000000000000000000000000000000000000000000000000000000000000000000000000000000000000000000000 ||| mk = mk) (hIn : Keeps mk sIn s) : Keeps mk sIn (touchAsn nix a s) := by
  refine Keeps.step hMk ?_ hIn
  unfold touchAsn
  try dsimp only
  repeat' first
    | with_reducible refine Keeps.ite ?_ ?_
    | with_reducible exact Keeps.refl
    | with_reducible assumption
    | ((with_reducible apply Keeps.modNode); (case e => rfl); (case e2 => rfl))
    | intro _
    | split
    | dsimp only
    | (refine Keeps.snd ?_ (by with_reducible assumption))

theorem nodeHeard_keeps {mk : Nat} {sIn : State} (nix : Nat) (s : State) (hMk : 0x507008a4000000000000000000020d100004a0000000008000040011d47c00c17c0000000000000000000000000000000000002000000000000000000000000000000000000000000000000000000000000000001867000180800000000800000000000000000000000000000000000000000000000000000000000000000000003001800000000000000000000000000000000000000000000000000000000000000000000000000000000000000000000000000000000000000000000000000000000000000000000000000000000000000080 ||| mk = mk) (hIn : Keeps mk sIn s) : Keeps mk sIn (nodeHeard nix s) := by
  refine Keeps.step hMk ?_ hIn
  unfold nodeHeard
  try dsimp only
  repeat' first
    | with_reducible refine Keeps.ite ?_ ?_
    | with_reducible exact Keeps.refl
    | with_reducible assumption
    | ((with_reducible apply Keeps.modNode); (case e => rfl); (case e2 => rfl))
    | ((with_reducible apply mirState_keeps); (case hMk => rfl))
    | ((with_reducible apply modMac_keeps); (case hMk => rfl))
    | intro _
    | split
    | dsimp only
    | (refine Keeps.snd ?_ (by with_reducible assumption))

theorem driftUpdate_keeps {mk : Nat} {sIn : State} (nix : Nat) (asn : Nat) (offset : Int) (s : State) (hMk : 0x40002000000000000000000000000000000000000000000000000000000000000000000000000000000000000000000000000000000000000000000000000000000000000000000000000000000000000000000000000000000000000000000000000000000000000000000000000000000000000000000000000000000000000000000000000000000000000000000000000000000000000000000000000000000000000000000000000000000000000000000000000000000000000000000000000000000000000000000000000000000000 ||| mk = mk) (hIn : Keeps mk sIn s) : Keeps mk sIn (driftUpdate nix asn offset s) := by
  refine Keeps.step hMk ?_ hIn
  unfold driftUpdate
  try dsimp only
  repeat' first
    | with_reducible refine Keeps.ite ?_ ?_
    | with_reducible exact Keeps.refl
    | with_reducible assumption
    | ((with_reducible apply Keeps.modNode); (case e => rfl); (case e2 => rfl))
    | intro _
    | split
    | dsimp only
    | (refine Keeps.snd ?_ (by with_reducible assumption))

theorem linkQuality_keeps {mk : Nat} {sIn : State} (nix : Nat) (rssi4 : Int) (lqi : Nat) (first : Bool) (s : State) (hMk : 0x40002000000000000000000000000000000000000000000000000000000000000000000000000000000000000000000000000000000000000000000000000000000000000000000000000000000000000000000000000000000000000000000000000000000000000000000000000000000000000000000000000000000000000000000000000000000000000000000000000000000000000000000000000000000000000000000000000000000000000000000000000000000000000000000000000000000000000000000000000000000000 ||| mk = mk) (hIn : Keeps mk sIn s) : Keeps mk sIn (linkQuality nix rssi4 lqi first s) := by
  refine Keeps.step hMk ?_ hIn
  unfold linkQuality
  try dsimp only
  repeat' first
    | with_reducible refine Keeps.ite ?_ ?_
    | with_reducible exact Keeps.refl
    | with_reducible assumption
    | ((with_reducible apply Keeps.modNode); (case e => rfl); (case e2 => rfl))
    | intro _
    | split
    | dsimp only
    | (refine Keeps.snd ?_ (by with_reducible assumption))

theorem p6Complete_keeps {mk : Nat} {sIn : State} (a : P6Answer) (s : State) (hMk : 0x50702084000000000000000000020d100004a0000000008000040011d47c00c17c0000000000000000000000000000000000002000000000000000000000000000000000000000000000000000000000000000001867000180800000000800000000000000000000000000000000000000000000000000000000000000000000003001800000000000000000000000000000000000000000000000000000000000000000020e00000000000000001000000000000000000000000000000000000000000000000000000000000000000000000080 ||| mk = mk) (hIn : Keeps mk sIn s) : Keeps mk sIn (p6Complete a s) := by
  refine Keeps.step hMk ?_ hIn
  unfold p6Complete
  try dsimp only
  repeat' first
    | with_reducible refine Keeps.ite ?_ ?_
    | with_reducible exact Keeps.refl
    | with_reducible assumption
    | ((with_reducible apply Keeps.inc); (case d => rfl); (case e => rfl))
    | (with_reducible refine Keeps.when _ _ ?_ ?_)
    | ((with_reducible apply mirSend_keeps); (case hMk => rfl))
    | ((with_reducible apply modSrc_keeps); (case hMk => rfl))
    | ((with_reducible apply polPut_keeps); (case hMk => rfl))
    | ((with_reducible apply stage_keeps); (case hMk => rfl))
    | ((with_reducible apply stageCount_keeps); (case hMk => rfl))
    | intro _
    | split
    | dsimp only
    | (refine Keeps.snd ?_ (by with_reducible assumption))

theorem p6Acked_keeps {mk : Nat} {sIn : State} (frame : Nat) (s : State) (hMk : 0x50702084000000000000000000020d100004a0000000008000040011d47c00c17c0000000000000000000000000000000000002000000000000000000000000000000000000000000000000000000000000000001867000180800000000800000000000000000000000000000000000000000000000000000000000000000000003001800000000000000000000000000000000000000000000000000000000000000000020e00000000000000001000000000000000000000000000000000000000000000000000000000000000000000000080 ||| mk = mk) (hIn : Keeps mk sIn s) : Keeps mk sIn (p6Acked frame s) := by
  refine Keeps.step hMk ?_ hIn
  unfold p6Acked
  try dsimp only
  repeat' first
    | with_reducible refine Keeps.ite ?_ ?_
    | with_reducible exact Keeps.refl
    | with_reducible assumption
    | ((with_reducible apply modSrc_keeps); (case hMk => rfl))
    | ((with_reducible apply p6Complete_keeps); (case hMk => rfl))
    | intro _
    | split
    | dsimp only
    | (refine Keeps.snd ?_ (by with_reducible assumption))

theorem p6Abandon_keeps {mk : Nat} {sIn : State} (a : P6Answer) (s : State) (hMk : 0x200000000000000000000000000000000000000000000000000000000000000000000000000000000000000000000000000000000000000000000000000000000000000000000000000000000000000000000000000000000000000000000000000000000000000000000000000000000000000000000000000000000000000000000000000000000000000000000000000000000000000000000000000000000000000e00000000000000001000000000000000000000000000000000000000000000000000000000000000000000000000 ||| mk = mk) (hIn : Keeps mk sIn s) : Keeps mk sIn (p6Abandon a s) := by
  refine Keeps.step hMk ?_ hIn
  unfold p6Abandon
  try dsimp only
  repeat' first
    | with_reducible refine Keeps.ite ?_ ?_
    | with_reducible exact Keeps.refl
    | with_reducible assumption
    | ((with_reducible apply modSrc_keeps); (case hMk => rfl))
    | ((with_reducible apply stage_keeps); (case hMk => rfl))
    | ((with_reducible apply stageCount_keeps); (case hMk => rfl))
    | intro _
    | split
    | dsimp only
    | (refine Keeps.snd ?_ (by with_reducible assumption))

theorem p6Dropped_keeps {mk : Nat} {sIn : State} (frame : Nat) (s : State) (hMk : 0x200000000000000000000000000000000000000000000000000000000000000000000000000000000000000000000000000000000000000000000000000000000000000000000000000000000000000000000000000000000000000000000000000000000000000000000000000000000000000000000000000000000000000000000000000000000000000000000000000000000000000000000000000000000000000e00000000000000001000000000000000000000000000000000000000000000000000000000000000000000000000 ||| mk = mk) (hIn : Keeps mk sIn s) : Keeps mk sIn (p6Dropped frame s) := by
  refine Keeps.step hMk ?_ hIn
  unfold p6Dropped
  try dsimp only
  repeat' first
    | with_reducible refine Keeps.ite ?_ ?_
    | with_reducible exact Keeps.refl
    | with_reducible assumption
    | ((with_reducible apply p6Abandon_keeps); (case hMk => rfl))
    | intro _
    | split
    | dsimp only
    | (refine Keeps.snd ?_ (by with_reducible assumption))

theorem txAcked_keeps {mk : Nat} {sIn : State} (w : AckWait) (s : State) (hMk : 0x507060a4000000000000000000020d100004a0000000008000040011d47c00c17c0000000000000000000000000000000000002000000000000000000000000000000000000000000000000000000000000000001867000180800000000800000000000000000000000000000000000000000000000000000000000000001000003001800000000000000000000000000000000000000000000000000000000000000000020e00000000000000001000000002000000000000000000000000000000000000000000000000000000000000000080 ||| mk = mk) (hIn : Keeps mk sIn s) : Keeps mk sIn (txAcked w s) := by
  refine Keeps.step hMk ?_ hIn
  unfold txAcked
  try dsimp only
  repeat' first
    | with_reducible refine Keeps.ite ?_ ?_
    | with_reducible exact Keeps.refl
    | with_reducible assumption
    | ((with_reducible apply Keeps.inc); (case d => rfl); (case e => rfl))
    | ((with_reducible apply Keeps.modNode); (case e => rfl); (case e2 => rfl))
    | ((with_reducible apply frameFree_keeps); (case hMk => rfl))
    | ((with_reducible apply nodeQRemove_keeps); (case hMk => rfl))
    | ((with_reducible apply p6Acked_keeps); (case hMk => rfl))
    | ((with_reducible apply touchAsn_keeps); (case hMk => rfl))
    | intro _
    | split
    | dsimp only
    | (refine Keeps.snd ?_ (by with_reducible assumption))

theorem txUnacked_keeps {mk : Nat} {sIn : State} (lane : Nat) (w : AckWait) (s : State) (hMk : 0x40602400000000000000000000000000000000000000000000000000000000000000000000000000000000000000000000000000000000000000000000000000000000000000000000000000000000000000000000000000000000000000000000000000000000000000000000000000000000000000000000000000003000001200800000000000000000000000000000000000000000000000000000000000000000000e00000000000000001000000004008000000000000000001000000000000000000000000000000000000000000000 ||| mk = mk) (hIn : Keeps mk sIn s) : Keeps mk sIn (txUnacked lane w s) := by
  refine Keeps.step hMk ?_ hIn
  unfold txUnacked
  try dsimp only
  repeat' first
    | with_reducible refine Keeps.ite ?_ ?_
    | with_reducible exact Keeps.refl
    | with_reducible assumption
    | ((with_reducible apply Keeps.inc); (case d => rfl); (case e => rfl))
    | ((with_reducible apply Keeps.modNode); (case e => rfl); (case e2 => rfl))
    | ((with_reducible apply Keeps.took); (case e => rfl))
    | ((with_reducible apply frameWhey_keeps); (case hMk => rfl))
    | ((with_reducible apply macTrace_keeps); (case hMk => rfl))
    | ((with_reducible apply nodeQChange_keeps); (case hMk => rfl))
    | ((with_reducible apply nodeQRemove_keeps); (case hMk => rfl))
    | ((with_reducible apply p6Dropped_keeps); (case hMk => rfl))
    | intro _
    | split
    | dsimp only
    | (refine Keeps.snd ?_ (by with_reducible assumption))

theorem modCamp_keeps {mk : Nat} {sIn : State} (c : Nat) (f : Camp → Camp) (s : State) (hMk : 0x4000000000000000000000000000000000000000000000000000000000000000000000000000000000000000000000000000000000000000000000000000000000000000000000000000000000000000180000000000000000000000000000000000000000000000000000000000000000000000000000000000000000000000000000000000000000000000000000000000000000000000000000000000000000000000000000000000000000000000000000000000000000000000000000000000000000000000000000000000000000000 ||| mk = mk) (hIn : Keeps mk sIn s) : Keeps mk sIn (modCamp c f s) := by
  refine Keeps.step hMk ?_ hIn
  unfold modCamp
  try dsimp only
  repeat' first
    | with_reducible refine Keeps.ite ?_ ?_
    | with_reducible exact Keeps.refl
    | with_reducible assumption
    | ((with_reducible apply Keeps.wr); (case d => rfl); (case e => rfl))
    | ((with_reducible apply Keeps.peak); (case d => rfl); (case e => rfl))
    | intro _
    | split
    | dsimp only
    | (refine Keeps.snd ?_ (by with_reducible assumption))
    | ((with_reducible apply Keeps.set_camps); (case e => rfl))

theorem campGo_keeps {mk : Nat} {sIn : State} (c : Nat) (st : Nat) (s : State) (hMk : 0x8000000008000000000000000000000000000000000000000000000000000000000000000000000000000000000000000000000000000000000000000000000000000000000000000000000000000000000000000000000000000000000000000000000000000000000000000000000000000000000000000000000000000000000000000 ||| mk = mk) (hIn : Keeps mk sIn s) : Keeps mk sIn (campGo c st s) := by
  refine Keeps.step hMk ?_ hIn
  unfold campGo
  try dsimp only
  repeat' first
    | with_reducible refine Keeps.ite ?_ ?_
    | with_reducible exact Keeps.refl
    | with_reducible assumption
    | ((with_reducible apply Keeps.wr); (case d => rfl); (case e => rfl))
    | intro _
    | split
    | dsimp only
    | (refine Keeps.snd ?_ (by with_reducible assumption))

theorem pressAbandon_keeps {mk : Nat} {sIn : State} (c : Nat) (s : State) (hMk : 0x10000000000000000000000000000000000000000000000000000000000000000000000000000000000000000000000000000000000000000000000000000000000000000000000000000000000000000000000000000000000000000000000000000000000000000000000000000000000000000000000000000000000000000 ||| mk = mk) (hIn : Keeps mk sIn s) : Keeps mk sIn (pressAbandon c s) := by
  refine Keeps.step hMk ?_ hIn
  unfold pressAbandon
  try dsimp only
  repeat' first
    | with_reducible refine Keeps.ite ?_ ?_
    | with_reducible exact Keeps.refl
    | with_reducible assumption
    | ((with_reducible apply Keeps.put); (case d => rfl); (case e => rfl))
    | intro _
    | split
    | dsimp only
    | (refine Keeps.snd ?_ (by with_reducible assumption))

theorem campEnd_keeps {mk : Nat} {sIn : State} (c : Nat) (why : Nat) (s : State) (hMk : 0x5014000000000000000000000000000000000000000000000000000000000000000000000000000000000000000000000000002000000000000000000000000000000000000000000000000000000028000180039867000180800000000800000000000000000000000000000000000000000000000000000000000000000000000000000000000000000000000000000000000000000000000000000000000000000000000000000000000000000000000000000000000000000000000000000000000000000000000000000000000000000000 ||| mk = mk) (hIn : Keeps mk sIn s) : Keeps mk sIn (campEnd c why s) := by
  refine Keeps.step hMk ?_ hIn
  unfold campEnd
  try dsimp only
  repeat' first
    | with_reducible refine Keeps.ite ?_ ?_
    | with_reducible exact Keeps.refl
    | with_reducible assumption
    | ((with_reducible apply Keeps.wr); (case d => rfl); (case e => rfl))
    | ((with_reducible apply campGo_keeps); (case hMk => rfl))
    | ((with_reducible apply modCamp_keeps); (case hMk => rfl))
    | ((with_reducible apply pressAbandon_keeps); (case hMk => rfl))
    | ((with_reducible apply raiseAt_keeps); (case d => rfl); (case hMk => rfl); (case hMk2 => rfl))
    | intro _
    | split
    | dsimp only
    | (refine Keeps.snd ?_ (by with_reducible assumption))

theorem campLess_keeps {mk : Nat} {sIn : State} (c : Nat) (s : State) (hMk : 0x5014000000000000000000000000000000000000000000000000000000000000000000000000000000000000000000000000002000000000000000000000000000000000000000000000000000004028000180039867000180800000000800000000000000000000000000000000000000000000000000000000000000000000000000000000000000000000000000000000000000000000000000000000000000000000000000000000000000000000000000000000000000000000000000000000000000000000000000000000000000000000 ||| mk = mk) (hIn : Keeps mk sIn s) : Keeps mk sIn (campLess c s) := by
  refine Keeps.step hMk ?_ hIn
  unfold campLess
  try dsimp only
  repeat' first
    | with_reducible refine Keeps.ite ?_ ?_
    | with_reducible exact Keeps.refl
    | with_reducible assumption
    | ((with_reducible apply Keeps.sub); (case d => rfl); (case e => rfl))
    | ((with_reducible apply campEnd_keeps); (case hMk => rfl))
    | intro _
    | split
    | dsimp only
    | (refine Keeps.snd ?_ (by with_reducible assumption))

theorem progressReport_keeps {mk : Nat} {sIn : State} (nix : Nat) (p : Progress) (s : State) (hMk : 0x505400200000000000000000000000000000000000000000000000000000000000000000000000000000000000000000000000200000000000000000000000000000000000000000000000000001c0283e0180079867000180800000000800000000000000000000000000000000000000000000000000000000000000000000000000000000000000000000000000000000000000000000000000000000000000000000000000000000000000000000000000000000000000000000000000000000000000000000000000000000000000000000 ||| mk = mk) (hIn : Keeps mk sIn s) : Keeps mk sIn (progressReport nix p s) := by
  refine Keeps.step hMk ?_ hIn
  unfold progressReport
  try dsimp only
  repeat' first
    | with_reducible refine Keeps.ite ?_ ?_
    | with_reducible exact Keeps.refl
    | with_reducible assumption
    | ((with_reducible apply Keeps.inc); (case d => rfl); (case e => rfl))
    | ((with_reducible apply Keeps.modNode); (case e => rfl); (case e2 => rfl))
    | ((with_reducible apply campLess_keeps); (case hMk => rfl))
    | ((with_reducible apply raiseNode_keeps); (case d => rfl); (case hMk => rfl); (case hMk2 => rfl))
    | intro _
    | split
    | dsimp only
    | (refine Keeps.snd ?_ (by with_reducible assumption))

theorem nextRound_keeps {mk : Nat} {sIn : State} (c : Nat) (s : State) (hMk : 0x4000000000000000000000000000000000000000000000000000000000000000000000000000000000000000000000000000000000000000000000000000000000000000000000000000000000000000180000000000000000000000000000000000000000000000000000000000000000000000000000000000000000000000000000000000000000000000000000000000000000000000000000000000000000000000000000000000000000000000000000000000000000000000000000000000000000000000000000000000000000000 ||| mk = mk) (hIn : Keeps mk sIn s) : Keeps mk sIn (nextRound c s) := by
  refine Keeps.step hMk ?_ hIn
  unfold nextRound
  try dsimp only
  repeat' first
    | with_reducible refine Keeps.ite ?_ ?_
    | with_reducible exact Keeps.refl
    | with_reducible assumption
    | ((with_reducible apply modCamp_keeps); (case hMk => rfl))
    | intro _
    | split
    | dsimp only
    | (refine Keeps.snd ?_ (by with_reducible assumption))

theorem roundCheck_keeps {mk : Nat} {sIn : State} (c : Nat) (s : State) (hMk : 0x5014000000000000000000000000000000000000000000000000000000000000000000000000000000000000000000000000002000000000000000000000000000000000000000000000000000000828000180039867000180800000000800000000000000000000000000000000000000000000000000000000000000000000000000000000000000000000000000000000000000000000000000000000000000000000000000000000000000000000000000000000000000000000000000000000000000000000000000000000000000000000 ||| mk = mk) (hIn : Keeps mk sIn s) : Keeps mk sIn (roundCheck c s) := by
  refine Keeps.step hMk ?_ hIn
  unfold roundCheck
  try dsimp only
  repeat' first
    | with_reducible refine Keeps.ite ?_ ?_
    | with_reducible exact Keeps.refl
    | with_reducible assumption
    | ((with_reducible apply Keeps.wr); (case d => rfl); (case e => rfl))
    | ((with_reducible apply Keeps.inc); (case d => rfl); (case e => rfl))
    | ((with_reducible apply campEnd_keeps); (case hMk => rfl))
    | ((with_reducible apply nextRound_keeps); (case hMk => rfl))
    | intro _
    | split
    | dsimp only
    | (refine Keeps.snd ?_ (by with_reducible assumption))

theorem pressTake_keeps {mk : Nat} {sIn : State} (n : Nat) (s : State) (hMk : 0x60000000000000000000000000000000000000000000000000000000000000000000000000000000000000000000003001800000000000000000000000000000000000000000000000000000000000000000000000000000000000000000000000000000000000000000000000000000000000000000000000000000000000000000 ||| mk = mk) (hIn : Keeps mk sIn s) : Keeps mk sIn (pressTake n s) := by
  refine Keeps.step hMk ?_ hIn
  unfold pressTake
  try dsimp only
  repeat' first
    | with_reducible refine Keeps.ite ?_ ?_
    | with_reducible exact Keeps.refl
    | with_reducible assumption
    | ((with_reducible apply Keeps.add); (case d => rfl); (case e => rfl))
    | ((with_reducible apply Keeps.peak); (case d => rfl); (case e => rfl))
    | ((with_reducible apply poolAdd_keeps); (case hMk => rfl))
    | intro _
    | split
    | dsimp only
    | (refine Keeps.snd ?_ (by with_reducible assumption))

theorem pressGive_keeps {mk : Nat} {sIn : State} (n : Nat) (s : State) (hMk : 0x20000000000000000000000000000000000000000000000000000000000000000000000000000000000000000000001000800000000000000000000000000000000000000000000000000000000000000000000000000000000000000000000000000000000000000000000000000000000000000000000000000000000000000000 ||| mk = mk) (hIn : Keeps mk sIn s) : Keeps mk sIn (pressGive n s) := by
  refine Keeps.step hMk ?_ hIn
  unfold pressGive
  try dsimp only
  repeat' first
    | with_reducible refine Keeps.ite ?_ ?_
    | with_reducible exact Keeps.refl
    | with_reducible assumption
    | ((with_reducible apply Keeps.sub); (case d => rfl); (case e => rfl))
    | ((with_reducible apply poolGive_keeps); (case hMk => rfl))
    | intro _
    | split
    | dsimp only
    | (refine Keeps.snd ?_ (by with_reducible assumption))

theorem campTake_keeps {mk : Nat} {sIn : State} (c : Nat) (s : State) (hMk : 0x4000000000000000000000000000000000000000000000000000000000000000000000000000000000000000000000000000000000000000000000000000000000000000000000000000000000000000180000000000000000000000000000000000000000000000000000000000000000000000000000000000000000000000000000000000000000000000000000000000000000000000000000000000000000000000000000000000000000000000000000000000000000000000000000000000000000000000000000000000000000000 ||| mk = mk) (hIn : Keeps mk sIn s) : Keeps mk sIn (campTake c s) := by
  refine Keeps.step hMk ?_ hIn
  unfold campTake
  try dsimp only
  repeat' first
    | with_reducible refine Keeps.ite ?_ ?_
    | with_reducible exact Keeps.refl
    | with_reducible assumption
    | ((with_reducible apply modCamp_keeps); (case hMk => rfl))
    | intro _
    | split
    | dsimp only
    | (refine Keeps.snd ?_ (by with_reducible assumption))

theorem campPop_keeps {mk : Nat} {sIn : State} (c : Nat) (y : Symbol) (s : State) (hMk : 0x50140000000000000000000000000000000000000000000000000000000000000000000000000000000000000000000000000020000000000000000000000000000000000000000000000000000008280001a0039867000180800000000800000000000000000000000000000000000000000000000000000000000000000000001000800000000000000000000000000000000000000000000000000000000000000000000000000000000000000000000000000000000000000000000000000000000000000000000000000000000000000000 ||| mk = mk) (hIn : Keeps mk sIn s) : Keeps mk sIn (campPop c y s) := by
  refine Keeps.step hMk ?_ hIn
  unfold campPop
  try dsimp only
  repeat' first
    | with_reducible refine Keeps.ite ?_ ?_
    | with_reducible exact Keeps.refl
    | with_reducible assumption
    | ((with_reducible apply modCamp_keeps); (case hMk => rfl))
    | ((with_reducible apply pressGive_keeps); (case hMk => rfl))
    | ((with_reducible apply roundCheck_keeps); (case hMk => rfl))
    | intro _
    | split
    | dsimp only
    | (refine Keeps.snd ?_ (by with_reducible assumption))

theorem symbolSent_keeps {mk : Nat} {sIn : State} (c : Nat) (n : Nat) (s : State) (hMk : 0x50140000000000000000000000000000000000000000000000000000000000000000000000000000000000000000000000000020000000000000000000000000000000000000000000000000000008280001a0039867000180800000000800000000000000000000000000000000000000000000000000000000000000000000001000800000000000000000000000000000000000000000000000000000000000000000000000000000000000000000000000000000000000000000000000000000000000000000000000000000000000000000 ||| mk = mk) (hIn : Keeps mk sIn s) : Keeps mk sIn (symbolSent c n s) := by
  refine Keeps.step hMk ?_ hIn
  unfold symbolSent
  try dsimp only
  repeat' first
    | with_reducible refine Keeps.ite ?_ ?_
    | with_reducible exact Keeps.refl
    | with_reducible assumption
    | ((with_reducible apply campPop_keeps); (case hMk => rfl))
    | intro _
    | split
    | dsimp only
    | (refine Keeps.snd ?_ (by with_reducible assumption))

theorem encDone_keeps {mk : Nat} {sIn : State} {it x : TxItem} {s y : State} (h : encDone it s = some (x, y)) (hMk : 0x800000000000000000000000000000000000000000000000000000000000000000000000000000000000000000000000000000000000000000000000000000000000000000400000000000000000000000000000000000000000000000000000000000000000000000000000000000000000000000000000000000000000000000000000000000000000000000000000000000400001400000000000000000000000000000000000000000000000000000000000000000000000000000000000000000000000000000000000000000000000 ||| mk = mk) (hIn : Keeps mk sIn s) :
    Keeps mk sIn y := by
  refine Keeps.step hMk ?_ hIn
  unfold encDone at h
  dsimp only at h
  repeat' split at h
  all_goals first | cases h | skip
  all_goals try (injection h with h; injection h with _ h; subst h)
  all_goals repeat' first
    | with_reducible refine Keeps.ite ?_ ?_
    | with_reducible exact Keeps.refl
    | with_reducible assumption
    | ((with_reducible apply Keeps.inc); (case d => rfl); (case e => rfl))
    | (with_reducible refine Keeps.when _ _ ?_ ?_)
    | ((with_reducible apply engNonce_keeps); (case hMk => rfl))
    | ((with_reducible apply engineFree_keeps); (case hMk => rfl))
    | ((with_reducible apply engineTake_keeps); (case hMk => rfl))
    | intro _
    | split
    | dsimp only
    | (refine Keeps.snd ?_ (by with_reducible assumption))

theorem encAborted_keeps {mk : Nat} {sIn : State} (it : TxItem) (s : State) (hMk : 0x4400000000000000000000000000000000000000000000000000000000000000000000000000000000000000000000000000000000000000000000000000000000000000000000000000000000000000180000000000000000000000000000000000000000000000000000000000000000000000000000000000000000000000000000000000000000000000000000000000000000000000000000000000000000000000000000000000000000000000000000000000000000000000000000000000000000000000000000000000000000000 ||| mk = mk) (hIn : Keeps mk sIn s) : Keeps mk sIn (encAborted it s) := by
  refine Keeps.step hMk ?_ hIn
  unfold encAborted
  try dsimp only
  repeat' first
    | with_reducible refine Keeps.ite ?_ ?_
    | with_reducible exact Keeps.refl
    | with_reducible assumption
    | ((with_reducible apply bcastChange_keeps); (case hMk => rfl))
    | ((with_reducible apply modCamp_keeps); (case hMk => rfl))
    | ((with_reducible apply nodeQChange_keeps); (case hMk => rfl))
    | intro _
    | split
    | dsimp only
    | (refine Keeps.snd ?_ (by with_reducible assumption))

theorem itemReady_keeps {mk : Nat} {sIn : State} (n : Nat) (idx : Nat) (s : State) (hMk : 0x4d00000000000000000000000000000000000000000000000000000000000000000000000000000000000000000000000000000000000000000000000000000000000000000400000000000000000000180000000000000000000000000000000000000000000000000000000000000000000000000000000000000000000001000800000000000000000000000000000000000400001400000000000000000000000000000000000000000000000000000000000000000000000000000000000000000000000000000000000000000000000 ||| mk = mk) (hIn : Keeps mk sIn s) : Keeps mk sIn (itemReady n idx s) := by
  refine Keeps.step hMk ?_ hIn
  unfold itemReady
  try dsimp only
  repeat' first
    | with_reducible refine Keeps.ite ?_ ?_
    | with_reducible exact Keeps.refl
    | with_reducible assumption
    | (with_reducible refine Keeps.when _ _ ?_ ?_)
    | ((with_reducible apply encAborted_keeps); (case hMk => rfl))
    | ((with_reducible apply frameFree_keeps); (case hMk => rfl))
    | ((with_reducible apply modLane_keeps); (case hMk => rfl))
    | intro _
    | split
    | dsimp only
    | ((with_reducible apply encDone_keeps); (case h => assumption); (case hMk => rfl))
    | (refine Keeps.snd ?_ (by with_reducible assumption))

theorem setChain_keeps {mk : Nat} {sIn : State} (nix : Nat) (l : List Nat) (s : State) (hMk : 0x40202000000000000000000000000000000000000000000000000000000000000000000000000000000000000000000000000000000000000000000000000000000000000000000000000000000000000000000000000000000000000000000000000000000000000000000000000000000000000000000000000000000000000000000000000000000000000000000000000000000000000000000000000000000000000000000000000000000000000000000000000000000000000000000000000000000000000000000000000000000000 ||| mk = mk) (hIn : Keeps mk sIn s) : Keeps mk sIn (setChain nix l s) := by
  refine Keeps.step hMk ?_ hIn
  unfold setChain
  try dsimp only
  repeat' first
    | with_reducible refine Keeps.ite ?_ ?_
    | with_reducible exact Keeps.refl
    | with_reducible assumption
    | ((with_reducible apply Keeps.modNode); (case e => rfl); (case e2 => rfl))
    | ((with_reducible apply modSrc_keeps); (case hMk => rfl))
    | intro _
    | split
    | dsimp only
    | (refine Keeps.snd ?_ (by with_reducible assumption))

theorem cellFree_keeps {mk : Nat} {sIn : State} (i : Nat) (s : State) (hMk : 0x40202000000000000000000000000000000000000000000000000000000000000000000000000000000000000000000000000000000000000000000000000000000000000000000000000000000000000000000000000000000000000000000000000000000000000000000000000000000000000000000000000000000000000000000000000000000000000000000000000000000000000000000000000000000000000000000000000000000000000000000000000000000000000000000000000000000000000000000000000000000000 ||| mk = mk) (hIn : Keeps mk sIn s) : Keeps mk sIn (cellFree i s) := by
  refine Keeps.step hMk ?_ hIn
  unfold cellFree
  try dsimp only
  repeat' first
    | with_reducible refine Keeps.ite ?_ ?_
    | with_reducible exact Keeps.refl
    | with_reducible assumption
    | ((with_reducible apply modSrc_keeps); (case hMk => rfl))
    | ((with_reducible apply setChain_keeps); (case hMk => rfl))
    | intro _
    | split
    | dsimp only
    | (refine Keeps.snd ?_ (by with_reducible assumption))

theorem cellPlace_keeps {mk : Nat} {sIn : State} (i : Nat) (c : Cell) (s : State) (hMk : 0x40202000000000000000000000000000000000000000000000000000000000000000000000000000000000000000000000000000000000000000000000000000000000000000000000000000000000000000000000000000000000000000000000000000000000000000000000000000000000000000000000000000000000000000000000000000000000000000000000000000000000000000000000000000000000000000000000000000000000000000000000000000000000000000000000000000000000000000000000000000000000 ||| mk = mk) (hIn : Keeps mk sIn s) : Keeps mk sIn (cellPlace i c s) := by
  refine Keeps.step hMk ?_ hIn
  unfold cellPlace
  try dsimp only
  repeat' first
    | with_reducible refine Keeps.ite ?_ ?_
    | with_reducible exact Keeps.refl
    | with_reducible assumption
    | ((with_reducible apply modSrc_keeps); (case hMk => rfl))
    | ((with_reducible apply setChain_keeps); (case hMk => rfl))
    | intro _
    | split
    | dsimp only
    | (refine Keeps.snd ?_ (by with_reducible assumption))

theorem tcMap_keeps {mk : Nat} {sIn : State} (sfs : List Nat) (nix : Nat) (s : State) (hMk : 0x40002000000000000000000000000000000000000000000000000000000000000000000000000000000000000000000000000000000000000000000000000000000000000000000000000000000000000000000000000000000000000000000000000000000000000000000000000000000000000000000000000000000000000000000000000000000000000000000000000000000000000000000000000000000000000000000000000000000000000000000000000000000000000000000000000000000000000000000000000000000000 ||| mk = mk) (hIn : Keeps mk sIn s) : Keeps mk sIn (tcMap sfs nix s) := by
  refine Keeps.step hMk ?_ hIn
  unfold tcMap
  try dsimp only
  repeat' first
    | with_reducible refine Keeps.ite ?_ ?_
    | with_reducible exact Keeps.refl
    | with_reducible assumption
    | ((with_reducible apply Keeps.modNode); (case e => rfl); (case e2 => rfl))
    | intro _
    | split
    | dsimp only
    | (refine Keeps.snd ?_ (by with_reducible assumption))

theorem wardCells_keeps {mk : Nat} {sIn : State} (w : Nat) (n : Nat) (s : State) (hMk : 0x5010000000000000000000000000000000000000000000000000000000000000000000000000000000000000000000000000002000000000000000000000000000000000000000000000000000000000000000001867000180800000000800000000000000000000000000000000000000000000000000000000000000000000000000000000000000000000000000000000000000000000000000000000030000000000000000000000000004000000000000000000000000000000000000000000000000000000000000000000000000000000 ||| mk = mk) (hIn : Keeps mk sIn s) : Keeps mk sIn (wardCells w n s) := by
  refine Keeps.step hMk ?_ hIn
  unfold wardCells
  try dsimp only
  repeat' first
    | with_reducible refine Keeps.ite ?_ ?_
    | with_reducible exact Keeps.refl
    | with_reducible assumption
    | ((with_reducible apply Keeps.wr); (case d => rfl); (case e => rfl))
    | ((with_reducible apply Keeps.put); (case d => rfl); (case e => rfl))
    | ((with_reducible apply raiseWard_keeps); (case d => rfl); (case hMk => rfl); (case hMk2 => rfl))
    | intro _
    | split
    | dsimp only
    | (refine Keeps.snd ?_ (by with_reducible assumption))

theorem cellsView_keeps {mk : Nat} {sIn : State} (s : State) (hMk : 0x5010000000000000000000000000000000000000000000000000000000000000000000000000000000000000000000000000002000000000000000000000000000000000000000000000000000000000000000001867000180800000000800000000000000000000000000000000000000000000000000000000000000000000000000000000000000000000000000000000000000000000000000000000030000000000000060000000000004000000000000000000000000000000000000000000000000000000000000000000000000000000 ||| mk = mk) (hIn : Keeps mk sIn s) : Keeps mk sIn (cellsView s) := by
  refine Keeps.step hMk ?_ hIn
  unfold cellsView
  try dsimp only
  repeat' first
    | with_reducible refine Keeps.ite ?_ ?_
    | with_reducible exact Keeps.refl
    | with_reducible assumption
    | ((with_reducible apply Keeps.wr); (case d => rfl); (case e => rfl))
    | ((with_reducible apply Keeps.peak); (case d => rfl); (case e => rfl))
    | (with_reducible refine Keeps.each _ _ ?_ ?_)
    | ((with_reducible apply wardCells_keeps); (case hMk => rfl))
    | intro _
    | split
    | dsimp only
    | (refine Keeps.snd ?_ (by with_reducible assumption))

theorem budgetView_keeps {mk : Nat} {sIn : State} (w : Nat) (s : State) (hMk : 0x5010000000000000000000000000000000000000000000000000000000000000000000000000000000000000000000000000002000000000000000000000000000000000000000000000000000000000000000001867000180800000000800000000000000000000000000000000000000000000000000000000000000000000000000000000000000000000000000000000000000000000000000000000030000000000000060000000000004000000000000000000000000000000000000000000000000000000000000000000000000000000 ||| mk = mk) (hIn : Keeps mk sIn s) : Keeps mk sIn (budgetView w s) := by
  refine Keeps.step hMk ?_ hIn
  unfold budgetView
  try dsimp only
  repeat' first
    | with_reducible refine Keeps.ite ?_ ?_
    | with_reducible exact Keeps.refl
    | with_reducible assumption
    | ((with_reducible apply Keeps.put); (case d => rfl); (case e => rfl))
    | ((with_reducible apply cellsView_keeps); (case hMk => rfl))
    | intro _
    | split
    | dsimp only
    | (refine Keeps.snd ?_ (by with_reducible assumption))

theorem changeDo_keeps {mk : Nat} {sIn : State} (c : Change) (s : State) (hMk : 0x40202000000000000000000000000000000000000000000000000000000000000000000000000000000000000000000000000000000000000000000000000000000000000000000000000000000000000000000000000000000000000000000000000000000000000000000000000000000000000000000000000000000000000000000000000000000000000000000000000000000000000000000000040000000000000000000000000000000000000000000000000000000000000000000000000000000000000000000000000000000000 ||| mk = mk) (hIn : Keeps mk sIn s) : Keeps mk sIn (changeDo c s) := by
  refine Keeps.step hMk ?_ hIn
  unfold changeDo
  try dsimp only
  repeat' first
    | with_reducible refine Keeps.ite ?_ ?_
    | with_reducible exact Keeps.refl
    | with_reducible assumption
    | ((with_reducible apply Keeps.inc); (case d => rfl); (case e => rfl))
    | ((with_reducible apply cellFree_keeps); (case hMk => rfl))
    | ((with_reducible apply cellPlace_keeps); (case hMk => rfl))
    | intro _
    | split
    | dsimp only
    | (refine Keeps.snd ?_ (by with_reducible assumption))

theorem boundary_keeps {mk : Nat} {sIn : State} (b : GenBound) (s : State) (hMk : 0x200000000000000000000000000000000000000000000000000000000000000000000000000000000000000000000000000000000000000000000000000000000000000000000000000000000000000000000000000000000000000000000000000000000000000000000000000000000000000000000000000000000000000000000000000000000000000000000000000000000000000000000000000000000400000000000000000000000000000000000000000000000000000000000000000000000000000000000000000000000000 ||| mk = mk) (hIn : Keeps mk sIn s) : Keeps mk sIn (boundary b s) := by
  refine Keeps.step hMk ?_ hIn
  unfold boundary
  try dsimp only
  repeat' first
    | with_reducible refine Keeps.ite ?_ ?_
    | with_reducible exact Keeps.refl
    | with_reducible assumption
    | ((with_reducible apply Keeps.put); (case d => rfl); (case e => rfl))
    | (with_reducible refine Keeps.each _ _ ?_ ?_)
    | ((with_reducible apply modSrc_keeps); (case hMk => rfl))
    | intro _
    | split
    | dsimp only
    | (refine Keeps.snd ?_ (by with_reducible assumption))

theorem srcUcSwap_keeps {mk : Nat} {sIn : State} (s : State) (hMk : 0x5010000000000000000000000000000000000000000000000000000000000000000000000000000000000000000000000000002000000000000000000000000000000000000000000000000000000000000000001867000180800000000800000000000000000000000000000000000000000000000000000000000000000000000000000000000000000000000000000000000000000000000000000000000000000000000018800000000000804000000000000000000000000000000000000000000000000000000000000000000000000000 ||| mk = mk) (hIn : Keeps mk sIn s) : Keeps mk sIn (srcUcSwap s) := by
  refine Keeps.step hMk ?_ hIn
  unfold srcUcSwap
  try dsimp only
  repeat' first
    | with_reducible refine Keeps.ite ?_ ?_
    | with_reducible exact Keeps.refl
    | with_reducible assumption
    | ((with_reducible apply Keeps.wr); (case d => rfl); (case e => rfl))
    | ((with_reducible apply Keeps.put); (case d => rfl); (case e => rfl))
    | ((with_reducible apply raise_keeps); (case d => rfl); (case hMk => rfl); (case hMk2 => rfl))
    | intro _
    | split
    | dsimp only
    | (refine Keeps.snd ?_ (by with_reducible assumption))

theorem p6Send_keeps {mk : Nat} {sIn : State} (nix : Nat) (n : Nat) (s : State) (hMk : 0x5050402400000000000000000000000000000000000000000000000000000000000000000000000000000000000000000000002000000000000000000000000000000000000000000000000000000000000000001867000180800000000800000000000000000000000000000000000000000000000000000000000000003c00003303810000000000000000000000000000000000000000000000000000000000000000000000000000000000000000000000000000000000000000000000000000000000000000000000000000000000000000 ||| mk = mk) (hIn : Keeps mk sIn s) : Keeps mk sIn (p6Send nix n s) := by
  refine Keeps.step hMk ?_ hIn
  unfold p6Send
  try dsimp only
  repeat' first
    | with_reducible refine Keeps.ite ?_ ?_
    | with_reducible exact Keeps.refl
    | with_reducible assumption
    | ((with_reducible apply Keeps.whey); (case e => rfl); (case e2 => rfl))
    | (refine Keeps.snd (p := newFrame _ _) ?_ (by with_reducible assumption))
    | ((with_reducible apply newFrame_keeps); (case hMk => rfl))
    | ((with_reducible apply nodeAppend_keeps); (case hMk => rfl))
    | (refine Keeps.snd (p := poolTake _ _ _) ?_ (by with_reducible assumption))
    | ((with_reducible apply poolTake_keeps); (case hMk => rfl))
    | intro _
    | split
    | dsimp only
    | (refine Keeps.snd ?_ (by with_reducible assumption))

theorem p6Deliver_keeps {mk : Nat} {sIn : State} (x : Nat × Nat × Bool) (s : State) (hMk : 0x5050602400000000000000000000000000000000000000000000000000000000000000000000000000000000000000000000002000000000000000000000000000000000000000000000000000000000000000001867000180800000000800000000000000000000000000000000000000000000000000000000000000003c00003303810000000000000000000000000000000000000000000000000000000000000000000e00000000000000001000000000000000000000000000000000000000000000000000000000000000000000000000 ||| mk = mk) (hIn : Keeps mk sIn s) : Keeps mk sIn (p6Deliver x s) := by
  refine Keeps.step hMk ?_ hIn
  unfold p6Deliver
  try dsimp only
  repeat' first
    | with_reducible refine Keeps.ite ?_ ?_
    | with_reducible exact Keeps.refl
    | with_reducible assumption
    | ((with_reducible apply modSrc_keeps); (case hMk => rfl))
    | ((with_reducible apply p6Dropped_keeps); (case hMk => rfl))
    | ((with_reducible apply p6Send_keeps); (case hMk => rfl))
    | intro _
    | split
    | dsimp only
    | (refine Keeps.snd ?_ (by with_reducible assumption))

theorem p6Go_keeps {mk : Nat} {sIn : State} (nix : Nat) (n : Nat) (ans : Bool) (held : Bool) (s : State) (hMk : 0x5050602400000000000000000000000000000000000000000000000000000000000000000000000000000000000000000000002000000000000000000000000000000000000000000000000000000000000000001867000180800000000800000000000000000000000000000000000000000000000000000000000000003c00003303810000000000000000000000000000000000000000000000000000000000000000000e00000000000000001000000000000000000000000000000000000000000000000000000000000000000000000000 ||| mk = mk) (hIn : Keeps mk sIn s) : Keeps mk sIn (p6Go nix n ans held s) := by
  refine Keeps.step hMk ?_ hIn
  unfold p6Go
  try dsimp only
  repeat' first
    | with_reducible refine Keeps.ite ?_ ?_
    | with_reducible exact Keeps.refl
    | with_reducible assumption
    | ((with_reducible apply applyStart_keeps); (case hMk => rfl))
    | ((with_reducible apply modSrc_keeps); (case hMk => rfl))
    | ((with_reducible apply p6Deliver_keeps); (case hMk => rfl))
    | intro _
    | split
    | dsimp only
    | (refine Keeps.snd ?_ (by with_reducible assumption))

theorem applyDone_keeps {mk : Nat} {sIn : State} (s : State) (hMk : 0x507060a4000000000000000000020d100084a0000000008000040011d47c00c17c0000000000000000000000000000000000002000000000000000000000000000000000000000000000000000000000000000001c670009e0800000000800000000000000000000000000000000000000000000000000000000000000003c00003303810000000000000000000000000000000000000000000000000000070000000400800e7880000001800480d000000000000000000000000000000000000000000000000000000000000000000000000080 ||| mk = mk) (hIn : Keeps mk sIn s) : Keeps mk sIn (applyDone s) := by
  refine Keeps.step hMk ?_ hIn
  unfold applyDone
  try dsimp only
  repeat' first
    | with_reducible refine Keeps.ite ?_ ?_
    | with_reducible exact Keeps.refl
    | with_reducible assumption
    | ((with_reducible apply Keeps.wr); (case d => rfl); (case e => rfl))
    | ((with_reducible apply Keeps.inc); (case d => rfl); (case e => rfl))
    | (with_reducible refine Keeps.each _ _ ?_ ?_)
    | ((with_reducible apply applyStart_keeps); (case hMk => rfl))
    | ((with_reducible apply boundary_keeps); (case hMk => rfl))
    | ((with_reducible apply cellsView_keeps); (case hMk => rfl))
    | ((with_reducible apply changeDo_keeps); (case hMk => rfl))
    | ((with_reducible apply cmdDone_keeps); (case hMk => rfl))
    | ((with_reducible apply mirCount_keeps); (case d => rfl); (case hMk => rfl); (case hMk2 => rfl))
    | ((with_reducible apply modSrc_keeps); (case hMk => rfl))
    | ((with_reducible apply p6Deliver_keeps); (case hMk => rfl))
    | ((with_reducible apply raise_keeps); (case d => rfl); (case hMk => rfl); (case hMk2 => rfl))
    | ((with_reducible apply setChain_keeps); (case hMk => rfl))
    | ((with_reducible apply srcUcSwap_keeps); (case hMk => rfl))
    | ((with_reducible apply tcMap_keeps); (case hMk => rfl))
    | intro _
    | split
    | dsimp only
    | (refine Keeps.snd ?_ (by with_reducible assumption))

theorem reject_keeps {mk : Nat} {sIn : State} (why : Nat) (cand : Nat) (block : Nat) (by_ : Nat) (s : State) (hMk : 0x501000000000000000000000000000000000000000000000000000000000000000000000000000000000000000000000000000200000000000000000000000000000000000000000000000000000000000000000186700018080000000080000000000000000000000000000000000000000000000000000000000000000000000000000000000000000000000000000000000000000000000000000000000000000003e005000000000000000102000000000000000000000000000000000000000000000000000000000000000000000000000 ||| mk = mk) (hIn : Keeps mk sIn s) : Keeps mk sIn (reject why cand block by_ s) := by
  refine Keeps.step hMk ?_ hIn
  unfold reject
  try dsimp only
  repeat' first
    | with_reducible refine Keeps.ite ?_ ?_
    | with_reducible exact Keeps.refl
    | with_reducible assumption
    | ((with_reducible apply Keeps.wr); (case d => rfl); (case e => rfl))
    | ((with_reducible apply Keeps.inc); (case d => rfl); (case e => rfl))
    | ((with_reducible apply raise_keeps); (case d => rfl); (case hMk => rfl); (case hMk2 => rfl))
    | intro _
    | split
    | dsimp only
    | (refine Keeps.snd ?_ (by with_reducible assumption))

theorem checkTime_keeps {mk : Nat} {sIn : State} (s : State) (hMk : 0x400000000000000000000000000000000000000000000000000000000000000000000000000000000000000000000000000000000000000000000000000000000000000000000000000000000000000000000000000000000000000000000000000000000000000000000000000000000000000000000000000000000000000000000000000000000000000000000000000000000000000000000000000000000000180000000000000000000000000000000000000000000000000000000000000000000000000000000000000000000 ||| mk = mk) (hIn : Keeps mk sIn s) : Keeps mk sIn (checkTime s) := by
  refine Keeps.step hMk ?_ hIn
  unfold checkTime
  try dsimp only
  repeat' first
    | with_reducible refine Keeps.ite ?_ ?_
    | with_reducible exact Keeps.refl
    | with_reducible assumption
    | ((with_reducible apply Keeps.peak); (case d => rfl); (case e => rfl))
    | ((with_reducible apply Keeps.wrFree); (case d => rfl); (case e => rfl); (case e2 => rfl))
    | intro _
    | split
    | dsimp only
    | (refine Keeps.snd ?_ (by with_reducible assumption))

theorem tokensTake_keeps {mk : Nat} {sIn : State} (w : Nat) (n : Nat) (s : State) (hMk : 0x200000000000000000000000000000000000000000000000000000000000000000000000000000000000000000000000000000000000000000000000000000000000000000000000000000000000000000000000000000000000000000000000000000000000000000000000000000000000000000000000000000000000000000000000000000000000000000000000000000000000000000000000000010000000000000000000000000000000000000000000000000000000000000000000000000000000000000000000000000000000 ||| mk = mk) (hIn : Keeps mk sIn s) : Keeps mk sIn (tokensTake w n s) := by
  refine Keeps.step hMk ?_ hIn
  unfold tokensTake
  try dsimp only
  repeat' first
    | with_reducible refine Keeps.ite ?_ ?_
    | with_reducible exact Keeps.refl
    | with_reducible assumption
    | ((with_reducible apply modSrc_keeps); (case hMk => rfl))
    | ((with_reducible apply tokenView_keeps); (case hMk => rfl))
    | intro _
    | split
    | dsimp only
    | (refine Keeps.snd ?_ (by with_reducible assumption))

theorem rateView_keeps {mk : Nat} {sIn : State} (w : Nat) (s0 : State) (s : State) (hMk : 0x200000000000000000000000000000000000000000000000000000000000000000000000000000000000000000000000000000000000000000000000000000000000000000000000000000000000000000000000000000000000000000000000000000000000000000000000000000000000000000000000000000000000000000000000000000000000000000000000000000000000000000000000000010000000000000000000000000000000000000000000000000000000000000000000000000000000000000000000000000000000 ||| mk = mk) (hIn : Keeps mk sIn s) : Keeps mk sIn (rateView w s0 s) := by
  refine Keeps.step hMk ?_ hIn
  unfold rateView
  try dsimp only
  repeat' first
    | with_reducible refine Keeps.ite ?_ ?_
    | with_reducible exact Keeps.refl
    | with_reducible assumption
    | ((with_reducible apply modSrc_keeps); (case hMk => rfl))
    | ((with_reducible apply tokenView_keeps); (case hMk => rfl))
    | intro _
    | split
    | dsimp only
    | (refine Keeps.snd ?_ (by with_reducible assumption))

theorem envRefuse_keeps {mk : Nat} {sIn : State} (w : Nat) (s : State) (hMk : 0x80000000000002000000000000000000000000000000000000000000000000000000000000000000000000000000000000000000000 ||| mk = mk) (hIn : Keeps mk sIn s) : Keeps mk sIn (envRefuse w s) := by
  refine Keeps.step hMk ?_ hIn
  unfold envRefuse
  try dsimp only
  repeat' first
    | with_reducible refine Keeps.ite ?_ ?_
    | with_reducible exact Keeps.refl
    | with_reducible assumption
    | ((with_reducible apply Keeps.inc); (case d => rfl); (case e => rfl))
    | intro _
    | split
    | dsimp only
    | (refine Keeps.snd ?_ (by with_reducible assumption))

theorem p6Begin_keeps {mk : Nat} {sIn : State} (nix : Nat) (x : P6Txn) (n : Nat) (held : Bool) (s : State) (hMk : 0x5050602400000000000000000000000000000000000000000000000000000000000000000000000000000000000000000000002000000000000000000000000000000000000000000000000000000000000000001867000180800000000800000000000000000000000000000000000000000000000000000000000000003c00003303810000000000000000000000000000000000000000000000000000000000000000008e00000000000000001000000000000000000000000000000000000000000000000000000000000000000000000000 ||| mk = mk) (hIn : Keeps mk sIn s) : Keeps mk sIn (p6Begin nix x n held s) := by
  refine Keeps.step hMk ?_ hIn
  unfold p6Begin
  try dsimp only
  repeat' first
    | with_reducible refine Keeps.ite ?_ ?_
    | with_reducible exact Keeps.refl
    | with_reducible assumption
    | ((with_reducible apply Keeps.inc); (case d => rfl); (case e => rfl))
    | ((with_reducible apply modSrc_keeps); (case hMk => rfl))
    | ((with_reducible apply p6Go_keeps); (case hMk => rfl))
    | intro _
    | split
    | dsimp only
    | (refine Keeps.snd ?_ (by with_reducible assumption))

theorem p6Over_keeps {mk : Nat} {sIn : State} (nix : Nat) (advance : Bool) (s : State) (hMk : 0x50702084000000000000000000020d100004a0000000008000040011d47c00c17c0000000000000000000000000000000000002000000000000000000000000000000000000000000000000000000000000000001867000180800000000800000000000000000000000000000000000000000000000000000000000000000000003001800000000000000000000000000000000000000000000000000000000000000000000000000000000000000000000000000000000000000000000000000000000000000000000000000000000000000080 ||| mk = mk) (hIn : Keeps mk sIn s) : Keeps mk sIn (p6Over nix advance s) := by
  refine Keeps.step hMk ?_ hIn
  unfold p6Over
  try dsimp only
  repeat' first
    | with_reducible refine Keeps.ite ?_ ?_
    | with_reducible exact Keeps.refl
    | with_reducible assumption
    | ((with_reducible apply mirSend_keeps); (case hMk => rfl))
    | ((with_reducible apply modSrc_keeps); (case hMk => rfl))
    | ((with_reducible apply polPut_keeps); (case hMk => rfl))
    | intro _
    | split
    | dsimp only
    | (refine Keeps.snd ?_ (by with_reducible assumption))

end Sys2Proof.Machine
end

