-- ==== Sys2Proof/Laws/KeepsMac.lean ====
section
/-!
SUPPORT. What each operation and each meaning changes: the front ends, the MAC, the schedule commands and 6P. The mask of each law names the register fields and the parts of the
state, as `Only` reads it.
-/

set_option simprocs false
set_option linter.all false

namespace Sys2Proof.Machine

theorem feLeaveOff_keeps {mk : Nat} {sIn : State} (n : Nat) (s : State) (hMk : 0x15010068000000000000000000000000000000000000000000000000000000000000000000000000000000000000000000000002000000000000000000000000000000000000000000000000000000000000000001867000180800000000800000000000000000000000000000000000000000000000000000000000000000000000000000000000000000000000000000000000000000000400000000000000000000000000000000000000000000000000000000000000000000000000000980000000010407800000084000000000001f00380 ||| mk = mk) (hIn : Keeps mk sIn s) : Keeps mk sIn (feLeaveOff n s) := by
  refine Keeps.step hMk ?_ hIn
  unfold feLeaveOff
  try dsimp only
  repeat' first
    | with_reducible refine Keeps.ite ?_ ?_
    | with_reducible exact Keeps.refl
    | with_reducible assumption
    | ((with_reducible apply Keeps.modFe); (case e => rfl))
    | ((with_reducible apply calStart_keeps); (case hMk => rfl))
    | ((with_reducible apply calView_keeps); (case hMk => rfl))
    | ((with_reducible apply moveStart_keeps); (case hMk => rfl))
    | ((with_reducible apply replan_keeps); (case hMk => rfl))
    | intro _
    | split
    | dsimp only
    | (refine Keeps.snd ?_ (by with_reducible assumption))

theorem execFeEnable_keeps (fe : Fin 4) (t : Nat) (s : State) : KeepsR 0x1d010068100000000000000000000000000000000000000000000000000000000000000000000000000000000000000000000002000000000000000000000000000000000000000000000000000000000000000001867000180800000000800000000000000000000000000000000000000000000000000000000000000000000000000000000000000000000000000000000000000000000400000000000000000000000000000000000000000000000000000000000000000000000000000980000000010407800000084000000000001f00382 s (execFeEnable fe t s) := by
  unfold execFeEnable
  try dsimp only
  repeat' first
    | (with_reducible refine KeepsR.next ?_)
    | (with_reducible refine KeepsR.ite ?_ ?_)
    | with_reducible refine Keeps.ite ?_ ?_
    | with_reducible exact Keeps.refl
    | with_reducible assumption
    | ((with_reducible apply Keeps.put); (case d => rfl); (case e => rfl))
    | ((with_reducible apply Keeps.at); (case e => rfl); (case e2 => rfl))
    | ((with_reducible apply feLeaveOff_keeps); (case hMk => rfl))
    | intro _
    | split
    | dsimp only
    | (refine Keeps.snd ?_ (by with_reducible assumption))

theorem execFeDisable_keeps (fe : Fin 4) (t : Nat) (s : State) : KeepsR 0x1d010178100000000000000000000000000000000000000000000000000000000000000000000000000000000000000000000002000000000000000000000000000000000000000000000000000000000000000001867000180800000000800000000000000000000000000000000000000000000000000000000000000000000000000000000000000000000000000000000000000000000400000000000000000000000000000000000000000000000000000000000000000000000000000980000000010407800080084800080000070e04f82 s (execFeDisable fe t s) := by
  unfold execFeDisable
  try dsimp only
  repeat' first
    | (with_reducible refine KeepsR.next ?_)
    | (with_reducible refine KeepsR.ite ?_ ?_)
    | with_reducible refine Keeps.ite ?_ ?_
    | with_reducible exact Keeps.refl
    | with_reducible assumption
    | ((with_reducible apply Keeps.put); (case d => rfl); (case e => rfl))
    | ((with_reducible apply Keeps.at); (case e => rfl); (case e2 => rfl))
    | ((with_reducible apply Keeps.modFe); (case e => rfl))
    | ((with_reducible apply feStop_keeps); (case hMk => rfl))
    | ((with_reducible apply replan_keeps); (case hMk => rfl))
    | intro _
    | split
    | dsimp only
    | (refine Keeps.snd ?_ (by with_reducible assumption))

theorem execSynLock_keeps (fe : Fin 4) (us : Nat) (t : Nat) (s : State) : KeepsR 0x1d010068100000000000000000000000000000000000000000000000000000000000000000000000000000000000000000000002000000000000000000000000000000000000000000000000000000000000000001867000180800000000800000000000000000000000000000000000000000000000000000000000000000000000000000000000000000000000000000000000000000000400000000000000000000000000000000000000000000000000000000000000000000000000000980000000010407800000084000000000051f06380 s (execSynLock fe us t s) := by
  unfold execSynLock
  try dsimp only
  repeat' first
    | (with_reducible refine KeepsR.next ?_)
    | (with_reducible refine KeepsR.ite ?_ ?_)
    | with_reducible refine Keeps.ite ?_ ?_
    | with_reducible exact Keeps.refl
    | with_reducible assumption
    | ((with_reducible apply Keeps.wr); (case d => rfl); (case e => rfl))
    | ((with_reducible apply Keeps.inc); (case d => rfl); (case e => rfl))
    | ((with_reducible apply Keeps.at); (case e => rfl); (case e2 => rfl))
    | ((with_reducible apply Keeps.modFe); (case e => rfl))
    | (with_reducible refine Keeps.when _ _ ?_ ?_)
    | ((with_reducible apply coverPhase_keeps); (case hMk => rfl))
    | ((with_reducible apply feReachRx_keeps); (case hMk => rfl))
    | ((with_reducible apply replan_keeps); (case hMk => rfl))
    | intro _
    | split
    | dsimp only
    | (refine Keeps.snd ?_ (by with_reducible assumption))

theorem execSynLockTimeout_keeps (fe : Fin 4) (t : Nat) (s : State) : KeepsR 0x1d0701781000000000000000000020000000020000000000000000011547c00c17c0000000000000000000000000000000000002000000000000000000000000000000000000000000000000000000000000000001867000180800000000800000000000000000000000000000000000000000000000000000000000000000000000000000000000000000000000000000000000000000000400000000000000000000000000000000000000000000000000000000000000000000000000000980000000010407800080184800088000070e04f82 s (execSynLockTimeout fe t s) := by
  unfold execSynLockTimeout
  try dsimp only
  repeat' first
    | (with_reducible refine KeepsR.next ?_)
    | (with_reducible refine KeepsR.ite ?_ ?_)
    | with_reducible refine Keeps.ite ?_ ?_
    | with_reducible exact Keeps.refl
    | with_reducible assumption
    | ((with_reducible apply Keeps.put); (case d => rfl); (case e => rfl))
    | ((with_reducible apply Keeps.inc); (case d => rfl); (case e => rfl))
    | ((with_reducible apply Keeps.at); (case e => rfl); (case e2 => rfl))
    | ((with_reducible apply Keeps.modFe); (case e => rfl))
    | ((with_reducible apply calBegin_keeps); (case hMk => rfl))
    | ((with_reducible apply faultEvent_keeps); (case hMk => rfl))
    | ((with_reducible apply feGo_keeps); (case hMk => rfl))
    | ((with_reducible apply feStop_keeps); (case hMk => rfl))
    | ((with_reducible apply raise_keeps); (case d => rfl); (case hMk => rfl); (case hMk2 => rfl))
    | ((with_reducible apply replan_keeps); (case hMk => rfl))
    | intro _
    | split
    | dsimp only
    | (refine Keeps.snd ?_ (by with_reducible assumption))

theorem tuneWrite_keeps {mk : Nat} {sIn : State} (n : Nat) (khz : Nat) (s : State) (hMk : 0x15010040000000000000000000000000000000000000000000000000000000000000000000000000000000000000000000000002000000000000000000000000000000000000000000000000000000000000000001867000180800000000800000000000000000000000000000000000000000000000000000000000000000000000000000000000000000000000000000000000000000000000000000000000000000000000000000000000000000000000000000000000000000000000000180000000010007800000000000000000000005000 ||| mk = mk) (hIn : Keeps mk sIn s) : Keeps mk sIn (tuneWrite n khz s) := by
  refine Keeps.step hMk ?_ hIn
  unfold tuneWrite
  try dsimp only
  repeat' first
    | with_reducible refine Keeps.ite ?_ ?_
    | with_reducible exact Keeps.refl
    | with_reducible assumption
    | ((with_reducible apply Keeps.wr); (case d => rfl); (case e => rfl))
    | ((with_reducible apply Keeps.put); (case d => rfl); (case e => rfl))
    | ((with_reducible apply replan_keeps); (case hMk => rfl))
    | intro _
    | split
    | dsimp only
    | (refine Keeps.snd ?_ (by with_reducible assumption))

theorem execRfeTuneWrite_keeps (fe : Fin 4) (khz : Nat) (t : Nat) (s : State) : KeepsR 0x1d010040100000000000000000000000000000000000000000000000000000000000000000000000000000000000000000000002000000000000000000000000000000000000000000000000000000000000000001867000180800000000800000000000000000000000000000000000000000000000000000000000000000000000000000000000000000000000000000000000000000000000000000000000000000000000000000000000000000000000000000000000000000000000000180000000010007800000000000000000000005000 s (execRfeTuneWrite fe khz t s) := by
  unfold execRfeTuneWrite
  try dsimp only
  repeat' first
    | (with_reducible refine KeepsR.next ?_)
    | (with_reducible refine KeepsR.ite ?_ ?_)
    | with_reducible refine Keeps.ite ?_ ?_
    | with_reducible exact Keeps.refl
    | with_reducible assumption
    | ((with_reducible apply Keeps.at); (case e => rfl); (case e2 => rfl))
    | ((with_reducible apply tuneWrite_keeps); (case hMk => rfl))
    | intro _
    | split
    | dsimp only
    | (refine Keeps.snd ?_ (by with_reducible assumption))

theorem execSynMoveStart_keeps (fe : Fin 4) (t : Nat) (s : State) : KeepsR 0x1d010068100000000000000000000000000000000000000000000000000000000000000000000000000000000000000000000002000000000000000000000000000000000000000000000000000000000000000001867000180800000000800000000000000000000000000000000000000000000000000000000000000000000000000000000000000000000000000000000000000000000400000000000000000000000000000000000000000000000000000000000000000000000000000980000000010407800000084000000000000004180 s (execSynMoveStart fe t s) := by
  unfold execSynMoveStart
  try dsimp only
  repeat' first
    | (with_reducible refine KeepsR.next ?_)
    | (with_reducible refine KeepsR.ite ?_ ?_)
    | with_reducible refine Keeps.ite ?_ ?_
    | with_reducible exact Keeps.refl
    | with_reducible assumption
    | ((with_reducible apply Keeps.at); (case e => rfl); (case e2 => rfl))
    | ((with_reducible apply pendMove_keeps); (case hMk => rfl))
    | intro _
    | split
    | dsimp only
    | (refine Keeps.snd ?_ (by with_reducible assumption))

theorem txDrop_keeps {mk : Nat} {sIn : State} (n : Nat) (s : State) (hMk : 0x108000000000000000000000000000000000000000000000000000000000000000000000000000000000000000000000000000000000000000000000000000000000000000000000000000000000000000000000000000000000000000000000000000000000000000000000000000000000000000000000000000000000000000000000000000000000000000000000000000000000000000000000000000000000000000000000000000000000000000000000000000000000000000000000000000000000000000000000000000000000 ||| mk = mk) (hIn : Keeps mk sIn s) : Keeps mk sIn (txDrop n s) := by
  refine Keeps.step hMk ?_ hIn
  unfold txDrop
  try dsimp only
  repeat' first
    | with_reducible refine Keeps.ite ?_ ?_
    | with_reducible exact Keeps.refl
    | with_reducible assumption
    | ((with_reducible apply Keeps.modFe); (case e => rfl))
    | intro _
    | split
    | dsimp only
    | (refine Keeps.snd ?_ (by with_reducible assumption))
    | ((with_reducible apply Keeps.set_lanes); (case e => rfl))

theorem burstFix_keeps {mk : Nat} {sIn : State} (n : Nat) (s : State) (hMk : 0x108000000000000000000000000000000000000000000000000000000000000000000000000000000000000000000000000000000000000000000000000000000000000000000000000000000000000000000000000000000000000000000000000000000000000000000000000000000000000000000000000000000000000000000000000000000000000000000000000000000000000000000000000000000000000000000000000000000000000000000000006000000000000000000000000000000000000000000000000000000000 ||| mk = mk) (hIn : Keeps mk sIn s) : Keeps mk sIn (burstFix n s) := by
  refine Keeps.step hMk ?_ hIn
  unfold burstFix
  try dsimp only
  repeat' first
    | with_reducible refine Keeps.ite ?_ ?_
    | with_reducible exact Keeps.refl
    | with_reducible assumption
    | ((with_reducible apply Keeps.inc); (case d => rfl); (case e => rfl))
    | ((with_reducible apply Keeps.peak); (case d => rfl); (case e => rfl))
    | ((with_reducible apply Keeps.modFe); (case e => rfl))
    | intro _
    | split
    | dsimp only
    | (refine Keeps.snd ?_ (by with_reducible assumption))
    | ((with_reducible apply Keeps.set_lanes); (case e => rfl))

theorem dcBlocked_keeps {mk : Nat} {sIn : State} (n : Nat) (ack : Bool) (s : State) (hMk : 0x18000000000000000000 ||| mk = mk) (hIn : Keeps mk sIn s) : Keeps mk sIn (dcBlocked n ack s) := by
  refine Keeps.step hMk ?_ hIn
  unfold dcBlocked
  try dsimp only
  repeat' first
    | with_reducible refine Keeps.ite ?_ ?_
    | with_reducible exact Keeps.refl
    | with_reducible assumption
    | ((with_reducible apply Keeps.inc); (case d => rfl); (case e => rfl))
    | intro _
    | split
    | dsimp only
    | (refine Keeps.snd ?_ (by with_reducible assumption))

theorem listenBusy_keeps {mk : Nat} {sIn : State} (n : Nat) (c : TxCmd) (lbtEd : Int) (ccaEd : Int) (s : State) (hMk : 0x6000000000000 ||| mk = mk) (hIn : Keeps mk sIn s) : Keeps mk sIn (listenBusy n c lbtEd ccaEd s).2 := by
  refine Keeps.step hMk ?_ hIn
  unfold listenBusy
  try dsimp only
  repeat' first
    | with_reducible refine Keeps.ite ?_ ?_
    | with_reducible exact Keeps.refl
    | with_reducible assumption
    | ((with_reducible apply Keeps.put); (case d => rfl); (case e => rfl))
    | ((with_reducible apply Keeps.wrS); (case d => rfl); (case e => rfl))
    | intro _
    | split
    | dsimp only
    | (refine Keeps.snd ?_ (by with_reducible assumption))

theorem txAccept_keeps {mk : Nat} {sIn : State} (n : Nat) (c : TxCmd) (s : State) (hMk : 0x505013a000000000000000000000000000000000000000000000000000000000000000000000000000000000000000000000002000000000000000000000000000000000000000000000000000000000000000001867000180800000000800000000000000000000000000000000000000000000000000000000000000000000000000000000000000000000000000000000000000000000400000000000000000000000000000000000000000000000000001000000006000000000000000800000000000400000080004000080000000000080 ||| mk = mk) (hIn : Keeps mk sIn s) : Keeps mk sIn (txAccept n c s) := by
  refine Keeps.step hMk ?_ hIn
  unfold txAccept
  try dsimp only
  repeat' first
    | with_reducible refine Keeps.ite ?_ ?_
    | with_reducible exact Keeps.refl
    | with_reducible assumption
    | ((with_reducible apply Keeps.inc); (case d => rfl); (case e => rfl))
    | (with_reducible refine Keeps.each _ _ ?_ ?_)
    | ((with_reducible apply Keeps.modFe); (case e => rfl))
    | ((with_reducible apply Keeps.modNode); (case e => rfl); (case e2 => rfl))
    | ((with_reducible apply burstFix_keeps); (case hMk => rfl))
    | ((with_reducible apply dcCharge_keeps); (case hMk => rfl))
    | ((with_reducible apply turnStart_keeps); (case hMk => rfl))
    | intro _
    | split
    | dsimp only
    | (refine Keeps.snd ?_ (by with_reducible assumption))

theorem execTransmitDeadline_keeps (fe : Fin 4) (lbtEd : Int) (ccaEd : Int) (t : Nat) (s : State) : KeepsR 0xd05013a10000000000000000000000000000000000000000000000000000000000000000000000000000000000000000000000200000000000000000000000000000000000000000000000000000000000000000186700018080000000080000000000000000000000000000000000000000000000000000000000000000000000000000000000000000000000000000000000000000000040000000000000000000000000000000000000000000000000000100000000600000000000000080000000000040000008003f000186000000000080 s (execTransmitDeadline fe lbtEd ccaEd t s) := by
  unfold execTransmitDeadline
  try dsimp only
  repeat' first
    | (with_reducible refine KeepsR.next ?_)
    | (with_reducible refine KeepsR.ite ?_ ?_)
    | with_reducible refine Keeps.ite ?_ ?_
    | with_reducible exact Keeps.refl
    | with_reducible assumption
    | ((with_reducible apply Keeps.inc); (case d => rfl); (case e => rfl))
    | ((with_reducible apply State.air_keeps); (case hMk => rfl))
    | ((with_reducible apply dcBlocked_keeps); (case hMk => rfl))
    | (refine Keeps.snd (p := listenBusy _ _ _ _ _) ?_ (by with_reducible assumption))
    | ((with_reducible apply listenBusy_keeps); (case hMk => rfl))
    | ((with_reducible apply raise_keeps); (case d => rfl); (case hMk => rfl); (case hMk2 => rfl))
    | ((with_reducible apply txAccept_keeps); (case hMk => rfl))
    | ((with_reducible apply txDrop_keeps); (case hMk => rfl))
    | intro _
    | split
    | dsimp only
    | (refine Keeps.snd ?_ (by with_reducible assumption))

theorem txEnd_keeps {mk : Nat} {sIn : State} (n : Nat) (s : State) (hMk : 0x15010178000000000000000000000000000000000000000000000000000000000000000000000000000000000000000000000002000000000000000000000000000000000000000000000000000000000000000001867000180800000000800000000000000000000000000000000000000000000000000000000000000000000000000000000000000000000000000000000000000000000400000000000000000000000000000000000000000000000000000000000000000000000000000980000000010407800080284800080000071f04f80 ||| mk = mk) (hIn : Keeps mk sIn s) : Keeps mk sIn (txEnd n s) := by
  refine Keeps.step hMk ?_ hIn
  unfold txEnd
  try dsimp only
  repeat' first
    | with_reducible refine Keeps.ite ?_ ?_
    | with_reducible exact Keeps.refl
    | with_reducible assumption
    | ((with_reducible apply Keeps.wr); (case d => rfl); (case e => rfl))
    | ((with_reducible apply Keeps.inc); (case d => rfl); (case e => rfl))
    | ((with_reducible apply Keeps.addSat); (case d => rfl); (case e => rfl))
    | ((with_reducible apply Keeps.modFe); (case e => rfl))
    | ((with_reducible apply cwCharge_keeps); (case hMk => rfl))
    | ((with_reducible apply feLeaveOff_keeps); (case hMk => rfl))
    | ((with_reducible apply feStop_keeps); (case hMk => rfl))
    | ((with_reducible apply replan_keeps); (case hMk => rfl))
    | intro _
    | split
    | dsimp only
    | (refine Keeps.snd ?_ (by with_reducible assumption))

theorem execRxTxTurnaroundEnd_keeps (fe : Fin 4) (t : Nat) (s : State) : KeepsR 0x1d010178100000000000000000000000000000000000000000000000000000000000000000000000000000000000000000000002000000000000000000000000000000000000000000000000000000000000000001867000180800000000800000000000000000000000000000000000000000000000000000000000000000000000000000000000000000000000000000000000000000000400000000000000000000000000000000000000000000000000000000000000000000000000000980000000010407800080284800080000071f04f80 s (execRxTxTurnaroundEnd fe t s) := by
  unfold execRxTxTurnaroundEnd
  try dsimp only
  repeat' first
    | (with_reducible refine KeepsR.next ?_)
    | (with_reducible refine KeepsR.ite ?_ ?_)
    | with_reducible refine Keeps.ite ?_ ?_
    | with_reducible exact Keeps.refl
    | with_reducible assumption
    | ((with_reducible apply Keeps.wr); (case d => rfl); (case e => rfl))
    | ((with_reducible apply Keeps.at); (case e => rfl); (case e2 => rfl))
    | ((with_reducible apply Keeps.modFe); (case e => rfl))
    | ((with_reducible apply txEnd_keeps); (case hMk => rfl))
    | intro _
    | split
    | dsimp only
    | (refine Keeps.snd ?_ (by with_reducible assumption))

theorem execTxRxTurnaroundEnd_keeps (fe : Fin 4) (t : Nat) (s : State) : KeepsR 0x1d010068100000000000000000000000000000000000000000000000000000000000000000000000000000000000000000000002000000000000000000000000000000000000000000000000000000000000000001867000180800000000800000000000000000000000000000000000000000000000000000000000000000000000000000000000000000000000000000000000000000000400000000000000000000000000000000000000000000000000000000000000000000000000000980000000010407800000084000000000001f04380 s (execTxRxTurnaroundEnd fe t s) := by
  unfold execTxRxTurnaroundEnd
  try dsimp only
  repeat' first
    | (with_reducible refine KeepsR.next ?_)
    | (with_reducible refine KeepsR.ite ?_ ?_)
    | with_reducible refine Keeps.ite ?_ ?_
    | with_reducible exact Keeps.refl
    | with_reducible assumption
    | ((with_reducible apply Keeps.at); (case e => rfl); (case e2 => rfl))
    | ((with_reducible apply Keeps.modFe); (case e => rfl))
    | ((with_reducible apply feReachRx_keeps); (case hMk => rfl))
    | intro _
    | split
    | dsimp only
    | (refine Keeps.snd ?_ (by with_reducible assumption))

theorem execLbtListenStart_keeps (fe : Fin 4) (t : Nat) (s : State) : KeepsR 0xd010018100000000000000000000000000000000000000000000000000000000000000000000000000000000000000000000002000000000000000000000000000000000000000000000000000000000000000001867000180800000000800000000000000000000000000000000000000000000000000000000000000000000000000000000000000000000000000000000000000000000000000000000000000000000000000000000000000000000000000000000000000000000000000000000000000000000080018000080000000000000 s (execLbtListenStart fe t s) := by
  unfold execLbtListenStart
  try dsimp only
  repeat' first
    | (with_reducible refine KeepsR.next ?_)
    | (with_reducible refine KeepsR.ite ?_ ?_)
    | with_reducible refine Keeps.ite ?_ ?_
    | with_reducible exact Keeps.refl
    | with_reducible assumption
    | ((with_reducible apply Keeps.modFe); (case e => rfl))
    | ((with_reducible apply State.air_keeps); (case hMk => rfl))
    | ((with_reducible apply dcBlocked_keeps); (case hMk => rfl))
    | intro _
    | split
    | dsimp only
    | (refine Keeps.snd ?_ (by with_reducible assumption))

theorem calRequest_keeps {mk : Nat} {sIn : State} (n : Nat) (steps : Nat) (s : State) (hMk : 0x8000000000000000000000000000000000000000000000000000000000000000000000000000000000000000000000000000000000000000000000000000000000000000000000000000000000000000000000000000000000000000000000000000000000000000000000000000000000000000000000000000000000000000000000000000000000000000000000000000000000000000000000000000000000000000000000000000000000000000000000000000000000000000000000000000000000000000000000000000800200 ||| mk = mk) (hIn : Keeps mk sIn s) : Keeps mk sIn (calRequest n steps s) := by
  refine Keeps.step hMk ?_ hIn
  unfold calRequest
  try dsimp only
  repeat' first
    | with_reducible refine Keeps.ite ?_ ?_
    | with_reducible exact Keeps.refl
    | with_reducible assumption
    | ((with_reducible apply Keeps.modFe); (case e => rfl))
    | ((with_reducible apply calView_keeps); (case hMk => rfl))
    | intro _
    | split
    | dsimp only
    | (refine Keeps.snd ?_ (by with_reducible assumption))

theorem execRfeCalCmd_keeps (fe : Fin 4) (steps : Nat) (t : Nat) (s : State) : KeepsR 0x8000008100000000000000000000000000000000000000000000000000000000000000000000000000000000000000000000000000000000000000000000000000000000000000000000000000000000000000000000000000000000000000000000000000000000000000000000000000000000000000000000000000000000000000000000000000000000000000000000000000000000000000000000000000000000000000000000000000000000000000000000000000000000000000000000000000000000000000000000000000800200 s (execRfeCalCmd fe steps t s) := by
  unfold execRfeCalCmd
  try dsimp only
  repeat' first
    | (with_reducible refine KeepsR.next ?_)
    | (with_reducible refine KeepsR.ite ?_ ?_)
    | with_reducible refine Keeps.ite ?_ ?_
    | with_reducible exact Keeps.refl
    | with_reducible assumption
    | ((with_reducible apply Keeps.at); (case e => rfl); (case e2 => rfl))
    | ((with_reducible apply calRequest_keeps); (case hMk => rfl))
    | intro _
    | split
    | dsimp only
    | (refine Keeps.snd ?_ (by with_reducible assumption))

theorem execRfeCalForce_keeps (fe : Fin 4) (steps : Nat) (t : Nat) (s : State) : KeepsR 0x8000028100000000000000000000000000000000000000000000000000000000000000000000000000000000000000000000000000000000000000000000000000000000000000000000000000000000000000000000000000000000000000000000000000000000000000000000000000000000000000000000000000000000000000000000000000000000000000000000000000000000400000000000000000000000000000000000000000000000000000000000000000000000000000800000000000400000000004000000000001f00380 s (execRfeCalForce fe steps t s) := by
  unfold execRfeCalForce
  try dsimp only
  repeat' first
    | (with_reducible refine KeepsR.next ?_)
    | (with_reducible refine KeepsR.ite ?_ ?_)
    | with_reducible refine Keeps.ite ?_ ?_
    | with_reducible exact Keeps.refl
    | with_reducible assumption
    | ((with_reducible apply Keeps.at); (case e => rfl); (case e2 => rfl))
    | ((with_reducible apply Keeps.modFe); (case e => rfl))
    | ((with_reducible apply calStart_keeps); (case hMk => rfl))
    | ((with_reducible apply calView_keeps); (case hMk => rfl))
    | intro _
    | split
    | dsimp only
    | (refine Keeps.snd ?_ (by with_reducible assumption))

theorem execCalStepDone_keeps (fe : Fin 4) (ok : Bool) (t : Nat) (s : State) : KeepsR 0x1d0100685000000000000000000000000000000000000000000000000000000000000000000000000000000000000000000000020000000000000000000000000000000000000000000000000000000000000000018670001808000000008000000000000000000000000000000000000000000000000000000000000000000000000000000000000000000000000000000000000000000004000000000000000000000000000000000000000000000000000000000000000000000000000009800000000104078006000c400003000000df04380 s (execCalStepDone fe ok t s) := by
  unfold execCalStepDone
  try dsimp only
  repeat' first
    | (with_reducible refine KeepsR.next ?_)
    | (with_reducible refine KeepsR.ite ?_ ?_)
    | with_reducible refine Keeps.ite ?_ ?_
    | with_reducible exact Keeps.refl
    | with_reducible assumption
    | ((with_reducible apply Keeps.wr); (case d => rfl); (case e => rfl))
    | ((with_reducible apply Keeps.put); (case d => rfl); (case e => rfl))
    | ((with_reducible apply Keeps.at); (case e => rfl); (case e2 => rfl))
    | ((with_reducible apply Keeps.modFe); (case e => rfl))
    | ((with_reducible apply calNext_keeps); (case hMk => rfl))
    | ((with_reducible apply calResult_keeps); (case hMk => rfl))
    | ((with_reducible apply moveStart_keeps); (case hMk => rfl))
    | ((with_reducible apply raise_keeps); (case d => rfl); (case hMk => rfl); (case hMk2 => rfl))
    | ((with_reducible apply replan_keeps); (case hMk => rfl))
    | intro _
    | split
    | dsimp only
    | (refine Keeps.snd ?_ (by with_reducible assumption))

theorem execRfeTempSample_keeps (fe : Fin 4) (celsius : Int) (t : Nat) (s : State) : KeepsR 0x8000008100000000000000000000000000000000000000000000000000000000000000000000000000000000000000000000000000000000000000000000000000000000000000000000000000000000000000000000000000000000000000000000000000000000000000000000000000000000000000000000000000000000000000000000000000000000000000000000000000000000000000000000000000000000000000000000000000000000000000000000000000000000000000000000000000000000000000000000000002800200 s (execRfeTempSample fe celsius t s) := by
  unfold execRfeTempSample
  try dsimp only
  repeat' first
    | (with_reducible refine KeepsR.next ?_)
    | (with_reducible refine KeepsR.ite ?_ ?_)
    | with_reducible refine Keeps.ite ?_ ?_
    | with_reducible exact Keeps.refl
    | with_reducible assumption
    | ((with_reducible apply Keeps.wrS); (case d => rfl); (case e => rfl))
    | ((with_reducible apply Keeps.at); (case e => rfl); (case e2 => rfl))
    | ((with_reducible apply calRequest_keeps); (case hMk => rfl))
    | intro _
    | split
    | dsimp only
    | (refine Keeps.snd ?_ (by with_reducible assumption))

theorem execCalStarveTimeout_keeps (fe : Fin 4) (t : Nat) (s : State) : KeepsR 0xd010000100000000000000000000000000000000000000000000000000000000000000000000000000000000000000000000002000000000000000000000000000000000000000000000000000000000000000001867000180800000000800000000000000000000000000000000000000000000000000000000000000000000000000000000000000000000000000000000000000000000000000000000000000000000000000000000000000000000000000000000000000000000000000000000000000000000000000000040000000000000 s (execCalStarveTimeout fe t s) := by
  unfold execCalStarveTimeout
  try dsimp only
  repeat' first
    | (with_reducible refine KeepsR.next ?_)
    | (with_reducible refine KeepsR.ite ?_ ?_)
    | with_reducible refine Keeps.ite ?_ ?_
    | with_reducible exact Keeps.refl
    | with_reducible assumption
    | ((with_reducible apply Keeps.at); (case e => rfl); (case e2 => rfl))
    | ((with_reducible apply raise_keeps); (case d => rfl); (case hMk => rfl); (case hMk2 => rfl))
    | intro _
    | split
    | dsimp only
    | (refine Keeps.snd ?_ (by with_reducible assumption))

theorem execDcBucketAdvance_keeps (region : Fin 16) (t : Nat) (s : State) : KeepsR 0xd010018100000000000000000000000000000000000000000000000000000000000000000000000000000000000000000000002000000000000000000000000000000000000000000000000000000000000000001867000180800000000800000000000000000000000000000000000000000000000000000000000000000000000000000000000000000000000000000000000000000000000000000000000000000000000000000000000000000000000000000000000000000000000000000000000000000000080000000080000000000000 s (execDcBucketAdvance region t s) := by
  unfold execDcBucketAdvance
  try dsimp only
  repeat' first
    | (with_reducible refine KeepsR.next ?_)
    | (with_reducible refine KeepsR.ite ?_ ?_)
    | with_reducible refine Keeps.ite ?_ ?_
    | with_reducible exact Keeps.refl
    | with_reducible assumption
    | ((with_reducible apply State.air_keeps); (case hMk => rfl))
    | ((with_reducible apply dcView_keeps); (case hMk => rfl))
    | intro _
    | split
    | dsimp only
    | (refine Keeps.snd ?_ (by with_reducible assumption))
    | ((with_reducible apply Keeps.set_dc); (case e => rfl))

theorem execAgcGainStep_keeps (fe : Fin 4) (peak : Int) (sample : Nat) (t : Nat) (s : State) : KeepsR 0x8000008100000000000000000000000000000000000000000000000000000000000000000000000000000000000000000000000000000000000000000000000000000000000000000000000000000000000000000000000000000000000000000000000000000000000000000000000000000000000000000000000000000000000000000000000000000000000000000000000000000000000000000000000000000000000000000000000000000000000000000000000000000000000000000000000000000000000000000000700000000000 s (execAgcGainStep fe peak sample t s) := by
  unfold execAgcGainStep
  try dsimp only
  repeat' first
    | (with_reducible refine KeepsR.next ?_)
    | (with_reducible refine KeepsR.ite ?_ ?_)
    | with_reducible refine Keeps.ite ?_ ?_
    | with_reducible exact Keeps.refl
    | with_reducible assumption
    | ((with_reducible apply Keeps.wr); (case d => rfl); (case e => rfl))
    | ((with_reducible apply Keeps.inc); (case d => rfl); (case e => rfl))
    | ((with_reducible apply Keeps.wrS); (case d => rfl); (case e => rfl))
    | ((with_reducible apply Keeps.at); (case e => rfl); (case e2 => rfl))
    | ((with_reducible apply Keeps.modFe); (case e => rfl))
    | intro _
    | split
    | dsimp only
    | (refine Keeps.snd ?_ (by with_reducible assumption))

theorem execRfeTxTestWrite_keeps (fe : Fin 4) (cw : Bool) (pix : Nat) (offset : Int) (t : Nat) (s : State) : KeepsR 0x1d010178100000000000000000000000000000000000000000000000000000000000000000000000000000000000000000000002000000000000000000000000000000000000000000000000000000000000000001867000180800000000800000000000000000000000000000000000000000000000000000000000000000000000000000000000000000000000000000000000000000000400000000000000000000000000000000000000000000000000000000000000000000000000000980000000010407800080284f00080000071f04f80 s (execRfeTxTestWrite fe cw pix offset t s) := by
  unfold execRfeTxTestWrite
  try dsimp only
  repeat' first
    | (with_reducible refine KeepsR.next ?_)
    | (with_reducible refine KeepsR.ite ?_ ?_)
    | with_reducible refine Keeps.ite ?_ ?_
    | with_reducible exact Keeps.refl
    | with_reducible assumption
    | ((with_reducible apply Keeps.wr); (case d => rfl); (case e => rfl))
    | ((with_reducible apply Keeps.put); (case d => rfl); (case e => rfl))
    | ((with_reducible apply Keeps.wrS); (case d => rfl); (case e => rfl))
    | ((with_reducible apply Keeps.modFe); (case e => rfl))
    | ((with_reducible apply State.air_keeps); (case hMk => rfl))
    | ((with_reducible apply turnStart_keeps); (case hMk => rfl))
    | ((with_reducible apply txEnd_keeps); (case hMk => rfl))
    | intro _
    | split
    | dsimp only
    | (refine Keeps.snd ?_ (by with_reducible assumption))

theorem execRfeTxAirRead_keeps (fe : Fin 4) (requester : Requester) (s : State) : KeepsR 0x8800000000000000000000000000000000000000000000000000000000000000000000000000000000000000000000000000000000000000000000000000000000000000000000000000000000000000000000000000000000000000000000000000000000000000000000000000000000000000000000000000000000000000000000000000000000000000000000000000000000000000000000000000000000000000000000000000000000000000000000000000000000000000000000000000000000000000800000000000000000 s (execRfeTxAirRead fe requester s) := by
  unfold execRfeTxAirRead
  try dsimp only
  repeat' first
    | (with_reducible refine KeepsR.next ?_)
    | (with_reducible refine KeepsR.ite ?_ ?_)
    | with_reducible refine Keeps.ite ?_ ?_
    | with_reducible exact Keeps.refl
    | with_reducible assumption
    | ((with_reducible apply Keeps.wr); (case d => rfl); (case e => rfl))
    | ((with_reducible apply Keeps.answer); (case e => rfl))
    | ((with_reducible apply airCount_keeps); (case hMk => rfl))
    | intro _
    | split
    | dsimp only
    | (refine Keeps.snd ?_ (by with_reducible assumption))

theorem latchPut_keeps {mk : Nat} {sIn : State} (q : Requester) (k : Nat) (v : Nat) (s : State) (hMk : 0x1000000000000000000000000000000000000000000000000000000000000000000000000000000000000000000000000000000000000000000000000000000000000000000000000000000000000000000000000000000000000000000000000000000000000000000000000000000000000000000000000000000000000000000000000000000000000000000000000000000000000000000000000000000000000000000000000000000000000000000000000000000000000000000000000000000000000000000000000000000000 ||| mk = mk) (hIn : Keeps mk sIn s) : Keeps mk sIn (latchPut q k v s) := by
  refine Keeps.step hMk ?_ hIn
  unfold latchPut
  try dsimp only
  repeat' first
    | with_reducible refine Keeps.ite ?_ ?_
    | with_reducible exact Keeps.refl
    | with_reducible assumption
    | intro _
    | split
    | dsimp only
    | (refine Keeps.snd ?_ (by with_reducible assumption))
    | ((with_reducible apply Keeps.set_latch); (case e => rfl))

theorem execMacAsnLoRead_keeps (requester : Requester) (s : State) : KeepsR 0x1800000000000000000000000000000000000000000000000000000000000000000000000000000000000000000000000000000000000000000000000000000000000000000000000000000000000000000000000000000000000000000000000000000000000000000000000000000000000000000000000000000000000000000000000000000000000000000000000000000000000000000000000000000000000000000000000000000000000000000000000000000000000000000000000000000000000000000000000000000000 s (execMacAsnLoRead requester s) := by
  unfold execMacAsnLoRead
  try dsimp only
  repeat' first
    | (with_reducible refine KeepsR.next ?_)
    | (with_reducible refine KeepsR.ite ?_ ?_)
    | with_reducible refine Keeps.ite ?_ ?_
    | with_reducible exact Keeps.refl
    | with_reducible assumption
    | ((with_reducible apply Keeps.answer); (case e => rfl))
    | ((with_reducible apply latchPut_keeps); (case hMk => rfl))
    | intro _
    | split
    | dsimp only
    | (refine Keeps.snd ?_ (by with_reducible assumption))

theorem execMacSlotLenWrite_keeps (us : Nat) (t : Nat) (s : State) : KeepsR 0x800000010000000000000000000000000000000000100000000000000000000000000000000000000000000000000000000000000000000000000000000000000000000000000000000000000000000000000000000000000000000000000000000000000000000000000000008000000000000000000000000000000000000000000000000000000000000000000000000000000000000000000000000000000000000000000000000000000000000000000000603b800000000000002000000000000080000000000000000000000000000000 s (execMacSlotLenWrite us t s) := by
  unfold execMacSlotLenWrite
  try dsimp only
  repeat' first
    | (with_reducible refine KeepsR.next ?_)
    | (with_reducible refine KeepsR.ite ?_ ?_)
    | with_reducible refine Keeps.ite ?_ ?_
    | with_reducible exact Keeps.refl
    | with_reducible assumption
    | ((with_reducible apply Keeps.wr); (case d => rfl); (case e => rfl))
    | ((with_reducible apply Keeps.at); (case e => rfl); (case e2 => rfl))
    | (with_reducible refine Keeps.each _ _ ?_ ?_)
    | ((with_reducible apply hbClamp_keeps); (case hMk => rfl))
    | ((with_reducible apply templateClamp_keeps); (case hMk => rfl))
    | intro _
    | split
    | dsimp only
    | (refine Keeps.snd ?_ (by with_reducible assumption))

theorem execMacTtWrite_keeps (template : Fin 8) (reg : TtReg) (value : Word) (t : Nat) (s : State) : KeepsR 0x8000000100000000000000000000000000000000000000000000000000000000000000000000000000000000000000000000000000000000000000000000000000000000000000000000000000000000000000000000000000000000000000000000000000000000000000000000000000000000000000000000000000000000000000000000000000000000000000000000000000000000000000000000000000000000000000000000000000000000000000007fff800000000000000000000000000080000000000000000000000000000000 s (execMacTtWrite template reg value t s) := by
  unfold execMacTtWrite
  try dsimp only
  repeat' first
    | (with_reducible refine KeepsR.next ?_)
    | (with_reducible refine KeepsR.ite ?_ ?_)
    | with_reducible refine Keeps.ite ?_ ?_
    | with_reducible exact Keeps.refl
    | with_reducible assumption
    | ((with_reducible apply Keeps.wr); (case d => rfl); (case e => rfl))
    | ((with_reducible apply Keeps.wrS); (case d => rfl); (case e => rfl))
    | ((with_reducible apply Keeps.at); (case e => rfl); (case e2 => rfl))
    | ((with_reducible apply templateClamp_keeps); (case hMk => rfl))
    | intro _
    | split
    | dsimp only
    | (refine Keeps.snd ?_ (by with_reducible assumption))

theorem execMacHsDataAccess_keeps (write : Option Word) (requester : Requester) (t : Nat) (s : State) : KeepsR 0x80000809000000000000000000000000000000000000000000000000000000000000000000000000000000000000000000000000000000000000000000000000000000000000000000000000000000000000000000000000000000000000000000000000000000000000000000000000000000000000000000000000000000000000000000000000000000000000000000000000000000000000000000000000000000000000000000000000000000000000000000000000c8000000000000000000000000000000000000000000000000000000 s (execMacHsDataAccess write requester t s) := by
  unfold execMacHsDataAccess
  try dsimp only
  repeat' first
    | (with_reducible refine KeepsR.next ?_)
    | (with_reducible refine KeepsR.ite ?_ ?_)
    | with_reducible refine Keeps.ite ?_ ?_
    | with_reducible exact Keeps.refl
    | with_reducible assumption
    | ((with_reducible apply Keeps.wr); (case d => rfl); (case e => rfl))
    | ((with_reducible apply Keeps.at); (case e => rfl); (case e2 => rfl))
    | ((with_reducible apply Keeps.answer); (case e => rfl))
    | ((with_reducible apply modMac_keeps); (case hMk => rfl))
    | intro _
    | split
    | dsimp only
    | (refine Keeps.snd ?_ (by with_reducible assumption))

theorem execHsSwitchArm_keeps (mask : Nat) (t : Nat) (s : State) : KeepsR 0xd010080100000000000000000000000000000000000000000000000000000000000000000000000000000000000000000000002000000000000000000000000000000000000000000000000000000000000000001867000180800000000800000000000000000000000000000000000000000000000000000000000000000000000000000000000000000000000000000000000000000000000000000000000000000000000000000000000000000000000000008000000300000000021000000000000000000000000000000000000000000000 s (execHsSwitchArm mask t s) := by
  unfold execHsSwitchArm
  try dsimp only
  repeat' first
    | (with_reducible refine KeepsR.next ?_)
    | (with_reducible refine KeepsR.ite ?_ ?_)
    | with_reducible refine Keeps.ite ?_ ?_
    | with_reducible exact Keeps.refl
    | with_reducible assumption
    | ((with_reducible apply Keeps.wr); (case d => rfl); (case e => rfl))
    | ((with_reducible apply Keeps.put); (case d => rfl); (case e => rfl))
    | ((with_reducible apply Keeps.at); (case e => rfl); (case e2 => rfl))
    | ((with_reducible apply macTrace_keeps); (case hMk => rfl))
    | ((with_reducible apply modMac_keeps); (case hMk => rfl))
    | ((with_reducible apply raise_keeps); (case d => rfl); (case hMk => rfl); (case hMk2 => rfl))
    | intro _
    | split
    | dsimp only
    | (refine Keeps.snd ?_ (by with_reducible assumption))

theorem execHsSwitchCancel_keeps (mask : Nat) (t : Nat) (s : State) : KeepsR 0x8000080100000000000000000000000000000000000000000000000000000000000000000000000000000000000000000000000000000000000000000000000000000000000000000000000000000000000000000000000000000000000000000000000000000000000000000000000000000000000000000000000000000000000000000000000000000000000000000000000000000000000000000000000000000000000000000000000000000000000000000000000300000000000000000000000000000000000000000000000000000000 s (execHsSwitchCancel mask t s) := by
  unfold execHsSwitchCancel
  try dsimp only
  repeat' first
    | (with_reducible refine KeepsR.next ?_)
    | (with_reducible refine KeepsR.ite ?_ ?_)
    | with_reducible refine Keeps.ite ?_ ?_
    | with_reducible exact Keeps.refl
    | with_reducible assumption
    | ((with_reducible apply Keeps.wr); (case d => rfl); (case e => rfl))
    | ((with_reducible apply Keeps.put); (case d => rfl); (case e => rfl))
    | ((with_reducible apply Keeps.at); (case e => rfl); (case e2 => rfl))
    | ((with_reducible apply modMac_keeps); (case hMk => rfl))
    | intro _
    | split
    | dsimp only
    | (refine Keeps.snd ?_ (by with_reducible assumption))

theorem execMacLsUcDataWrite_keeps (lane : Fin 4) (word : Word) (t : Nat) (s : State) : KeepsR 0x8000100500000000000000000000000000000000000000000000000000000000000000000000000000000000000000000000000000000000000000000000000000000000000000000000000000000000000000000000000000000000000000000000000000000000000000000000000000000000000000000000000000000000000000000000000000000000000000000000000000000000000000000000000000000000000000000000000000000000048000000000000000000000000000000000000000000000000000000000000000000000 s (execMacLsUcDataWrite lane word t s) := by
  unfold execMacLsUcDataWrite
  try dsimp only
  repeat' first
    | (with_reducible refine KeepsR.next ?_)
    | (with_reducible refine KeepsR.ite ?_ ?_)
    | with_reducible refine Keeps.ite ?_ ?_
    | with_reducible exact Keeps.refl
    | with_reducible assumption
    | ((with_reducible apply Keeps.wr); (case d => rfl); (case e => rfl))
    | ((with_reducible apply Keeps.wrFree); (case d => rfl); (case e => rfl); (case e2 => rfl))
    | ((with_reducible apply Keeps.at); (case e => rfl); (case e2 => rfl))
    | ((with_reducible apply modLane_keeps); (case hMk => rfl))
    | intro _
    | split
    | dsimp only
    | (refine Keeps.snd ?_ (by with_reducible assumption))

theorem execMacLsSwapArm_keeps (lane : Fin 4) (sf : Nat) (arm : Bool) (ok : Bool) (t : Nat) (s : State) : KeepsR 0xd010000100000000000000000000000000000000000000000000000000000000000000000000000000000000000000000000002000000000000000000000000000000000000000000000000000000000000000001867000180800000000800000000000000000000000000000000000000000000000000000000000000000000000000000000000000000000000000000000000000000000000000000000000000000000000000000000000000000000007400008000000000000000081000000000000000000000000000000000000000000000 s (execMacLsSwapArm lane sf arm ok t s) := by
  unfold execMacLsSwapArm
  try dsimp only
  repeat' first
    | (with_reducible refine KeepsR.next ?_)
    | (with_reducible refine KeepsR.ite ?_ ?_)
    | with_reducible refine Keeps.ite ?_ ?_
    | with_reducible exact Keeps.refl
    | with_reducible assumption
    | ((with_reducible apply Keeps.wr); (case d => rfl); (case e => rfl))
    | ((with_reducible apply Keeps.put); (case d => rfl); (case e => rfl))
    | ((with_reducible apply Keeps.at); (case e => rfl); (case e2 => rfl))
    | ((with_reducible apply laneView_keeps); (case hMk => rfl))
    | ((with_reducible apply macTrace_keeps); (case hMk => rfl))
    | ((with_reducible apply raiseAt_keeps); (case d => rfl); (case hMk => rfl); (case hMk2 => rfl))
    | intro _
    | split
    | dsimp only
    | (refine Keeps.snd ?_ (by with_reducible assumption))

theorem spanCommit_keeps {mk : Nat} {sIn : State} (n : Nat) (idx : Nat) (s : State) (hMk : 0x100000000000000000000000000000000000000000000000000000000000000000000000000000000000000000000000000000000000000000000000000000000000000000000000000000000000000000000000000000000000000000000000000000000000000000000000000000000000000000000000000000000000000000000000000000000000000000000000000000000000000000000000000000000000000000000000000000000000000000000000000000000000000000000000000000000000000000000000000000000000 ||| mk = mk) (hIn : Keeps mk sIn s) : Keeps mk sIn (spanCommit n idx s) := by
  refine Keeps.step hMk ?_ hIn
  unfold spanCommit
  try dsimp only
  repeat' first
    | with_reducible refine Keeps.ite ?_ ?_
    | with_reducible exact Keeps.refl
    | with_reducible assumption
    | ((with_reducible apply modLane_keeps); (case hMk => rfl))
    | intro _
    | split
    | dsimp only
    | (refine Keeps.snd ?_ (by with_reducible assumption))

theorem execTransmitItemReady_keeps (lane : Fin 4) (idx : Nat) (t : Nat) (s : State) : KeepsR 0x8004d00100000000000000000000000000000000000000000000000000000000000000000000000000000000000000000000000000000000000000000000000000000000000000400000000000000000000180000000000000000000000000000000000000000000000000000000000000000000000000000000000000000000001000800000000000000000000000000000000000400001400000000000000000000000000000000000000000000000000000000000000000000000000000000000000000000000000000000000000000000000 s (execTransmitItemReady lane idx t s) := by
  unfold execTransmitItemReady
  try dsimp only
  repeat' first
    | (with_reducible refine KeepsR.next ?_)
    | (with_reducible refine KeepsR.ite ?_ ?_)
    | with_reducible refine Keeps.ite ?_ ?_
    | with_reducible exact Keeps.refl
    | with_reducible assumption
    | ((with_reducible apply Keeps.at); (case e => rfl); (case e2 => rfl))
    | ((with_reducible apply itemReady_keeps); (case hMk => rfl))
    | intro _
    | split
    | dsimp only
    | (refine Keeps.snd ?_ (by with_reducible assumption))

theorem txMissed_keeps {mk : Nat} {sIn : State} (n : Nat) (x : Span) (s : State) (hMk : 0x5010000000000000000000000000000000000000000000000000000000000000000000000000000000000000000000000000002000000000000000000000000000000000000000000000000000000000000000001867000180800000000800000000000000000000000000000000000000000000000000000000000000000000000000000000000000000000000000000000000000000000000000000000000000000000200000000000000000000004000000008000000000000000801000000000000000000000000000000000000000000000 ||| mk = mk) (hIn : Keeps mk sIn s) : Keeps mk sIn (txMissed n x s) := by
  refine Keeps.step hMk ?_ hIn
  unfold txMissed
  try dsimp only
  repeat' first
    | with_reducible refine Keeps.ite ?_ ?_
    | with_reducible exact Keeps.refl
    | with_reducible assumption
    | ((with_reducible apply Keeps.inc); (case d => rfl); (case e => rfl))
    | ((with_reducible apply macTrace_keeps); (case hMk => rfl))
    | ((with_reducible apply raiseAt_keeps); (case d => rfl); (case hMk => rfl); (case hMk2 => rfl))
    | ((with_reducible apply raiseNode_keeps); (case d => rfl); (case hMk => rfl); (case hMk2 => rfl))
    | intro _
    | split
    | dsimp only
    | (refine Keeps.snd ?_ (by with_reducible assumption))

theorem ebMissed_keeps {mk : Nat} {sIn : State} (n : Nat) (x : Span) (s : State) (hMk : 0x10000000008000000000000000001000000000000000000000000000000000000000000000 ||| mk = mk) (hIn : Keeps mk sIn s) : Keeps mk sIn (ebMissed n x s) := by
  refine Keeps.step hMk ?_ hIn
  unfold ebMissed
  try dsimp only
  repeat' first
    | with_reducible refine Keeps.ite ?_ ?_
    | with_reducible exact Keeps.refl
    | with_reducible assumption
    | ((with_reducible apply Keeps.inc); (case d => rfl); (case e => rfl))
    | ((with_reducible apply macTrace_keeps); (case hMk => rfl))
    | intro _
    | split
    | dsimp only
    | (refine Keeps.snd ?_ (by with_reducible assumption))

theorem txNofit_keeps {mk : Nat} {sIn : State} (n : Nat) (it : TxItem) (s : State) (hMk : 0x8000000008000000000000000001000000000000000000000000000000000000000000000 ||| mk = mk) (hIn : Keeps mk sIn s) : Keeps mk sIn (txNofit n it s) := by
  refine Keeps.step hMk ?_ hIn
  unfold txNofit
  try dsimp only
  repeat' first
    | with_reducible refine Keeps.ite ?_ ?_
    | with_reducible exact Keeps.refl
    | with_reducible assumption
    | ((with_reducible apply Keeps.inc); (case d => rfl); (case e => rfl))
    | ((with_reducible apply macTrace_keeps); (case hMk => rfl))
    | intro _
    | split
    | dsimp only
    | (refine Keeps.snd ?_ (by with_reducible assumption))

theorem txPresent_keeps {mk : Nat} {sIn : State} (n : Nat) (x : Span) (it : TxItem) (s : State) (hMk : 0x8000000000000000000000000000000000000000000000000000000000000000000000000000000000000000000000000000000000000000000000000000000000000000000000000000000000000000000000000000000000000000000000000000000000000000000000000000000000000000000000000000000000000000000000000000000000000000000000000000000000000000000000000000000000000000000000000000000000000080008000000000000000001000000000000000000000000000000000000000000000 ||| mk = mk) (hIn : Keeps mk sIn s) : Keeps mk sIn (txPresent n x it s) := by
  refine Keeps.step hMk ?_ hIn
  unfold txPresent
  try dsimp only
  repeat' first
    | with_reducible refine Keeps.ite ?_ ?_
    | with_reducible exact Keeps.refl
    | with_reducible assumption
    | ((with_reducible apply Keeps.inc); (case d => rfl); (case e => rfl))
    | ((with_reducible apply Keeps.modFe); (case e => rfl))
    | ((with_reducible apply macTrace_keeps); (case hMk => rfl))
    | intro _
    | split
    | dsimp only
    | (refine Keeps.snd ?_ (by with_reducible assumption))

theorem execTransmitCommitPoint_keeps (lane : Fin 4) (idx : Nat) (t : Nat) (s : State) : KeepsR 0xd01010810000000000000000000000000000000000000000000000000000000000000000000000000000000000000000000000200000000000000000000000000000000000000000000000000000000000000000186700018080000000080000000000000000000000000000000000000000000000000000000000000000000000000000000000000000000000000000000000000000000000000000000000000000000020000000000000000000001c000080008000000000000000801000000000000000000000000000000000000000000000 s (execTransmitCommitPoint lane idx t s) := by
  unfold execTransmitCommitPoint
  try dsimp only
  repeat' first
    | (with_reducible refine KeepsR.next ?_)
    | (with_reducible refine KeepsR.ite ?_ ?_)
    | with_reducible refine Keeps.ite ?_ ?_
    | with_reducible exact Keeps.refl
    | with_reducible assumption
    | ((with_reducible apply Keeps.at); (case e => rfl); (case e2 => rfl))
    | ((with_reducible apply ebMissed_keeps); (case hMk => rfl))
    | ((with_reducible apply modLane_keeps); (case hMk => rfl))
    | ((with_reducible apply spanCommit_keeps); (case hMk => rfl))
    | ((with_reducible apply txMissed_keeps); (case hMk => rfl))
    | ((with_reducible apply txNofit_keeps); (case hMk => rfl))
    | ((with_reducible apply txPresent_keeps); (case hMk => rfl))
    | intro _
    | split
    | dsimp only
    | (refine Keeps.snd ?_ (by with_reducible assumption))

theorem execCcmDispatch_keeps (slice : Fin 128) (t : Nat) (s : State) : KeepsR 0x80000a0100000000000000000000000000000000000000000000000000000000000000000000000000000000000000000000000000000000000000000000000000000000000000400000000000000000000000000000000000000000000000000000000000000000000000000000000000000000000000000000000000000000000000000000000000000000000000000000000000400001400000000000000000000000000000000000000000000000000000000000000000000000000000000000000000000000000000000000000000000000 s (execCcmDispatch slice t s) := by
  unfold execCcmDispatch
  try dsimp only
  repeat' first
    | (with_reducible refine KeepsR.next ?_)
    | (with_reducible refine KeepsR.ite ?_ ?_)
    | with_reducible refine Keeps.ite ?_ ?_
    | with_reducible exact Keeps.refl
    | with_reducible assumption
    | ((with_reducible apply Keeps.inc); (case d => rfl); (case e => rfl))
    | ((with_reducible apply Keeps.at); (case e => rfl); (case e2 => rfl))
    | (with_reducible refine Keeps.when _ _ ?_ ?_)
    | ((with_reducible apply engineTake_keeps); (case hMk => rfl))
    | ((with_reducible apply modMac_keeps); (case hMk => rfl))
    | ((with_reducible apply modSlice_keeps); (case hMk => rfl))
    | intro _
    | split
    | dsimp only
    | (refine Keeps.snd ?_ (by with_reducible assumption))

theorem rxPrune_keeps {mk : Nat} {sIn : State} (s : State) (hMk : 0x80000000000000000000000000000000000000000000000000000000000000000000000000000000000000000000000000000000000000000000000000000000000000000000000000000000000000000000000000000000000000000000000000000000000000000000000000000000000000000000000000000000000000000000000000000000000000000000000000000000000000000000000000000000000000000000000000000000000000000000000000000000000000000000000000000000000000000000000000000000000 ||| mk = mk) (hIn : Keeps mk sIn s) : Keeps mk sIn (rxPrune s) := by
  refine Keeps.step hMk ?_ hIn
  unfold rxPrune
  try dsimp only
  repeat' first
    | with_reducible refine Keeps.ite ?_ ?_
    | with_reducible exact Keeps.refl
    | with_reducible assumption
    | ((with_reducible apply modMac_keeps); (case hMk => rfl))
    | intro _
    | split
    | dsimp only
    | (refine Keeps.snd ?_ (by with_reducible assumption))

theorem ackCommit_keeps {mk : Nat} {sIn : State} (p : Nat) (f : RxFrame) (s : State) (hMk : 0x505089a40000000000000000000000000000000000000000000000000000000000000000000000000000000000000000000000200000000000000000000000000000000000000000000000000000000000000000186700018080000000080000000000000000000000000000000000000000000000000000000000000000000000000000000000000000000000000000000000000020008c200000000000000000000000000000000000000000000000180000000000008000000000000000000000000000000000080000000080000000000000 ||| mk = mk) (hIn : Keeps mk sIn s) : Keeps mk sIn (ackCommit p f s) := by
  refine Keeps.step hMk ?_ hIn
  unfold ackCommit
  try dsimp only
  repeat' first
    | with_reducible refine Keeps.ite ?_ ?_
    | with_reducible exact Keeps.refl
    | with_reducible assumption
    | ((with_reducible apply Keeps.wr); (case d => rfl); (case e => rfl))
    | ((with_reducible apply Keeps.inc); (case d => rfl); (case e => rfl))
    | ((with_reducible apply Keeps.addSat); (case d => rfl); (case e => rfl))
    | (with_reducible refine Keeps.each _ _ ?_ ?_)
    | ((with_reducible apply Keeps.modFe); (case e => rfl))
    | ((with_reducible apply Keeps.modNode); (case e => rfl); (case e2 => rfl))
    | (with_reducible refine Keeps.when _ _ ?_ ?_)
    | ((with_reducible apply dcCharge_keeps); (case hMk => rfl))
    | ((with_reducible apply engNonce_keeps); (case hMk => rfl))
    | ((with_reducible apply kcLookup_keeps); (case hMk => rfl))
    | ((with_reducible apply modMac_keeps); (case hMk => rfl))
    | intro _
    | split
    | dsimp only
    | (refine Keeps.snd ?_ (by with_reducible assumption))

theorem burstSeen_keeps {mk : Nat} {sIn : State} (p : Nat) (f : RxFrame) (s : State) (hMk : 0x108000000000000000000000000000000000000000000000000000000000000000000000000000000000000000000000000000000000000000000000000000000000000000000000000000000000000000000000000000000000000000000000000000000000000000000000000000000000000000000000000000000000000000000000000000000000000000000000000000000000000000000000000000000000000000000000000000000000000000000000000000000000000000000000000000000000000000000000000000000000 ||| mk = mk) (hIn : Keeps mk sIn s) : Keeps mk sIn (burstSeen p f s) := by
  refine Keeps.step hMk ?_ hIn
  unfold burstSeen
  try dsimp only
  repeat' first
    | with_reducible refine Keeps.ite ?_ ?_
    | with_reducible exact Keeps.refl
    | with_reducible assumption
    | ((with_reducible apply Keeps.modFe); (case e => rfl))
    | (with_reducible refine Keeps.when _ _ ?_ ?_)
    | ((with_reducible apply modLane_keeps); (case hMk => rfl))
    | intro _
    | split
    | dsimp only
    | (refine Keeps.snd ?_ (by with_reducible assumption))

theorem ackChecks_keeps {mk : Nat} {sIn : State} (p : Nat) (f : RxFrame) (s : State) (hMk : 0x507099a4000000000000000000020000000020000000000000000011547c00c17c000000000000000000000000000000000000200000000000000000000000000000000000000000000000000000000000000000186700018080000000080000000000000000000000000000000000000000000000000000000000000000200000020000000000000000000000000000000000000020008c200000000000000000000000000000000000000000000001f80000008000008000000000401000000000000000000000080018000080000000000080 ||| mk = mk) (hIn : Keeps mk sIn s) : Keeps mk sIn (ackChecks p f s) := by
  refine Keeps.step hMk ?_ hIn
  unfold ackChecks
  try dsimp only
  repeat' first
    | with_reducible refine Keeps.ite ?_ ?_
    | with_reducible exact Keeps.refl
    | with_reducible assumption
    | ((with_reducible apply Keeps.inc); (case d => rfl); (case e => rfl))
    | ((with_reducible apply Keeps.addSat); (case d => rfl); (case e => rfl))
    | ((with_reducible apply Keeps.modFe); (case e => rfl))
    | ((with_reducible apply Keeps.whey); (case e => rfl); (case e2 => rfl))
    | ((with_reducible apply ackCommit_keeps); (case hMk => rfl))
    | ((with_reducible apply burstSeen_keeps); (case hMk => rfl))
    | ((with_reducible apply dcBlocked_keeps); (case hMk => rfl))
    | ((with_reducible apply fenceNode_keeps); (case hMk => rfl))
    | ((with_reducible apply kcLookup_keeps); (case hMk => rfl))
    | ((with_reducible apply macTrace_keeps); (case hMk => rfl))
    | ((with_reducible apply modLane_keeps); (case hMk => rfl))
    | ((with_reducible apply raiseAt_keeps); (case d => rfl); (case hMk => rfl); (case hMk2 => rfl))
    | ((with_reducible apply raiseNode_keeps); (case d => rfl); (case hMk => rfl); (case hMk2 => rfl))
    | intro _
    | split
    | dsimp only
    | (refine Keeps.snd ?_ (by with_reducible assumption))

theorem execAckCommitPoint_keeps (fe : Fin 4) (t : Nat) (s : State) : KeepsR 0xd07099a5000000000000000000020000000020000000000000000011547c00c17c000000000000000000000000000000000000200000000000000000000000000000000000000000000000000000000000000000186700018080000000080000000000000000000000000000000000000000000000000000000000000000200000020000000000000000000000000000000000000020008c200000000000000000000000000000000000000000000001f80000008000008000000000401000000000000000000000080018000080000000000080 s (execAckCommitPoint fe t s) := by
  unfold execAckCommitPoint
  try dsimp only
  repeat' first
    | (with_reducible refine KeepsR.next ?_)
    | (with_reducible refine KeepsR.ite ?_ ?_)
    | with_reducible refine Keeps.ite ?_ ?_
    | with_reducible exact Keeps.refl
    | with_reducible assumption
    | ((with_reducible apply State.air_keeps); (case hMk => rfl))
    | ((with_reducible apply ackChecks_keeps); (case hMk => rfl))
    | ((with_reducible apply modMac_keeps); (case hMk => rfl))
    | ((with_reducible apply rxPrune_keeps); (case hMk => rfl))
    | intro _
    | split
    | dsimp only
    | (refine Keeps.snd ?_ (by with_reducible assumption))

theorem updSent_keeps {mk : Nat} {sIn : State} (c : Nat) (kind : Nat) (n : Nat) (s : State) (hMk : 0x50140000000000000000000000000000000000000000000000000000000000000000000000000000000000000000000000000020000000000000000000000000000000000000000000000000000028280019a0039867000180800000000800000000000000000000000000000000000000000000000000000000000000000000001000800000000000000000000000000000000000000000000000000000000000000000000000000000000000000000000000000000000000000000000000000000000000000000000000000000000000000000 ||| mk = mk) (hIn : Keeps mk sIn s) : Keeps mk sIn (updSent c kind n s) := by
  refine Keeps.step hMk ?_ hIn
  unfold updSent
  try dsimp only
  repeat' first
    | with_reducible refine Keeps.ite ?_ ?_
    | with_reducible exact Keeps.refl
    | with_reducible assumption
    | ((with_reducible apply Keeps.inc); (case d => rfl); (case e => rfl))
    | ((with_reducible apply symbolSent_keeps); (case hMk => rfl))
    | intro _
    | split
    | dsimp only
    | (refine Keeps.snd ?_ (by with_reducible assumption))

theorem execTxLastSymbol_keeps (fe : Fin 4) (t : Nat) (s : State) : KeepsR 0x1d0145781000000000000000000000000000000000000000000000000000000000000000000000000000000000000000000000020000000000000000000000000000000000000000000000000000028280019a0039867000180800000000800000000000000000000000000000000000000000000000000000000000000004000001000800000000000000000000000000000000000000000400000000000000000000000000000000000000000000002000040000000000000000000000000980000000010407800080284800080000071f04f80 s (execTxLastSymbol fe t s) := by
  unfold execTxLastSymbol
  try dsimp only
  repeat' first
    | (with_reducible refine KeepsR.next ?_)
    | (with_reducible refine KeepsR.ite ?_ ?_)
    | with_reducible refine Keeps.ite ?_ ?_
    | with_reducible exact Keeps.refl
    | with_reducible assumption
    | ((with_reducible apply Keeps.inc); (case d => rfl); (case e => rfl))
    | ((with_reducible apply State.air_keeps); (case hMk => rfl))
    | ((with_reducible apply bcastSent_keeps); (case hMk => rfl))
    | ((with_reducible apply modLane_keeps); (case hMk => rfl))
    | ((with_reducible apply txEnd_keeps); (case hMk => rfl))
    | ((with_reducible apply updSent_keeps); (case hMk => rfl))
    | intro _
    | split
    | dsimp only
    | (refine Keeps.snd ?_ (by with_reducible assumption))

theorem execNodeAckReceived_keeps (pos : Nat) (mic : Bool) (t : Nat) (s : State) : KeepsR 0xd070f8a5000000000000000000020d100004a0000000008000040011d47c00c17c000000000000000000000000000000000000200000000000000000000000000000000000000000000000000000000000000000186700018080000000080000000000000000000000000000000000000000000000000000000000000000300000320180000000000000000000000000000000000000400c600000000000000000000000020e00000000000000001000000002400000000000000000000000000000000000000000000000000000000000000080 s (execNodeAckReceived pos mic t s) := by
  unfold execNodeAckReceived
  try dsimp only
  repeat' first
    | (with_reducible refine KeepsR.next ?_)
    | (with_reducible refine KeepsR.ite ?_ ?_)
    | with_reducible refine Keeps.ite ?_ ?_
    | with_reducible exact Keeps.refl
    | with_reducible assumption
    | ((with_reducible apply Keeps.inc); (case d => rfl); (case e => rfl))
    | ((with_reducible apply Keeps.at); (case e => rfl); (case e2 => rfl))
    | (with_reducible refine Keeps.when _ _ ?_ ?_)
    | ((with_reducible apply Keeps.whey); (case e => rfl); (case e2 => rfl))
    | ((with_reducible apply engNonce_keeps); (case hMk => rfl))
    | ((with_reducible apply engineFree_keeps); (case hMk => rfl))
    | ((with_reducible apply fenceNode_keeps); (case hMk => rfl))
    | ((with_reducible apply kcLookup_keeps); (case hMk => rfl))
    | ((with_reducible apply modLane_keeps); (case hMk => rfl))
    | ((with_reducible apply modMac_keeps); (case hMk => rfl))
    | ((with_reducible apply txAcked_keeps); (case hMk => rfl))
    | intro _
    | split
    | dsimp only
    | (refine Keeps.snd ?_ (by with_reducible assumption))

theorem execAckWaitExpiry_keeps (lane : Fin 4) (t : Nat) (s : State) : KeepsR 0x8040702500000000000000000000000000000000000000000000000000000000000000000000000000000000000000000000000000000000000000000000000000000000000000000000000000000000000000000000000000000000000000000000000000000000000000000000000000000000000000000000000000003000001200800000000000000000000000000000000000000000000000000000000000000000000e00000000000000001000000004008000000000000000001000000000000000000000000000000000000000000000 s (execAckWaitExpiry lane t s) := by
  unfold execAckWaitExpiry
  try dsimp only
  repeat' first
    | (with_reducible refine KeepsR.next ?_)
    | (with_reducible refine KeepsR.ite ?_ ?_)
    | with_reducible refine Keeps.ite ?_ ?_
    | with_reducible exact Keeps.refl
    | with_reducible assumption
    | ((with_reducible apply Keeps.at); (case e => rfl); (case e2 => rfl))
    | ((with_reducible apply modLane_keeps); (case hMk => rfl))
    | ((with_reducible apply txUnacked_keeps); (case hMk => rfl))
    | intro _
    | split
    | dsimp only
    | (refine Keeps.snd ?_ (by with_reducible assumption))

theorem nodeQuiet_keeps {mk : Nat} {sIn : State} (nix : Nat) (s : State) (hMk : 0x507000a4000000000000000000020d100004a0000000008000040011d47c00c17c0000000000000000000000000000000000002000000000000000000000000000000000000000000000000000000000000000001867000180800000000800000000000000000000000000000000000000000000000000000000000000000000003001800000000000000000000000000000000000000000000000000000000000000000000000000000000000000000000000008000000000000000001000000000000000000000000000000000000000000080 ||| mk = mk) (hIn : Keeps mk sIn s) : Keeps mk sIn (nodeQuiet nix s) := by
  refine Keeps.step hMk ?_ hIn
  unfold nodeQuiet
  try dsimp only
  repeat' first
    | with_reducible refine Keeps.ite ?_ ?_
    | with_reducible exact Keeps.refl
    | with_reducible assumption
    | ((with_reducible apply Keeps.modNode); (case e => rfl); (case e2 => rfl))
    | ((with_reducible apply eventPost_keeps); (case hMk => rfl))
    | ((with_reducible apply macTrace_keeps); (case hMk => rfl))
    | ((with_reducible apply mirState_keeps); (case hMk => rfl))
    | intro _
    | split
    | dsimp only
    | (refine Keeps.snd ?_ (by with_reducible assumption))

theorem execQuietTimeout_keeps (nix : Fin 262144) (t : Nat) (s : State) : KeepsR 0xd07000a5000000000000000000020d100004a0000000008000040011d47c00c17c0000000000000000000000000000000000002000000000000000000000000000000000000000000000000000000000000000001867000180800000000800000000000000000000000000000000000000000000000000000000000000000000003001800000000000000000000000000000000000000000000000000000000000000000000000000000000000000000000000008000000000000000001000000000000000000000000000000000000000000080 s (execQuietTimeout nix t s) := by
  unfold execQuietTimeout
  try dsimp only
  repeat' first
    | (with_reducible refine KeepsR.next ?_)
    | (with_reducible refine KeepsR.ite ?_ ?_)
    | with_reducible refine Keeps.ite ?_ ?_
    | with_reducible exact Keeps.refl
    | with_reducible assumption
    | ((with_reducible apply Keeps.at); (case e => rfl); (case e2 => rfl))
    | ((with_reducible apply nodeQuiet_keeps); (case hMk => rfl))
    | intro _
    | split
    | dsimp only
    | (refine Keeps.snd ?_ (by with_reducible assumption))

theorem execMacBurstPeakRead_keeps (requester : Requester) (s : State) : KeepsR 0x800000000000000000000000000000000000000000000000000000000000000000000000000000000000000000000000000000000000000000000000000000000000000000000000000000000000000000000000000000000000000000000000000000000000000000000000000000000000000000000000000000000000000000000000000000000000000000000000000000000000000000000000000000000000000000000000000000000000000000000004000000000000000000000000000000000000000000000000000000000 s (execMacBurstPeakRead requester s) := by
  unfold execMacBurstPeakRead
  try dsimp only
  repeat' first
    | (with_reducible refine KeepsR.next ?_)
    | (with_reducible refine KeepsR.ite ?_ ?_)
    | with_reducible refine Keeps.ite ?_ ?_
    | with_reducible exact Keeps.refl
    | with_reducible assumption
    | ((with_reducible apply Keeps.wr); (case d => rfl); (case e => rfl))
    | ((with_reducible apply Keeps.answer); (case e => rfl))
    | intro _
    | split
    | dsimp only
    | (refine Keeps.snd ?_ (by with_reducible assumption))

theorem execMacAckMarginRead_keeps (requester : Requester) (s : State) : KeepsR 0x800000000000000000000000000000000000000000000000000000000000000000000000000000000000000000000000000000000000000000000000000000000000000000000000000000000000000000000000000000000000000000000000000000000000000000000000000000000000000000000000000000000000000000000000000000000000000000000000000000000000000000000000000000000000000000000000000000000000000000000008000000000000000000000000000000000000000000000000000000000 s (execMacAckMarginRead requester s) := by
  unfold execMacAckMarginRead
  try dsimp only
  repeat' first
    | (with_reducible refine KeepsR.next ?_)
    | (with_reducible refine KeepsR.ite ?_ ?_)
    | with_reducible refine Keeps.ite ?_ ?_
    | with_reducible exact Keeps.refl
    | with_reducible assumption
    | ((with_reducible apply Keeps.wr); (case d => rfl); (case e => rfl))
    | ((with_reducible apply Keeps.answer); (case e => rfl))
    | intro _
    | split
    | dsimp only
    | (refine Keeps.snd ?_ (by with_reducible assumption))

theorem execMacLsVhistRead_keeps (lane : Fin 4) (bin : Fin 16) (requester : Requester) (s : State) : KeepsR 0x800000000000000000000000000000000000000000000000000000000000000000000000000000000000000000000000000000000000000000000000000000000000000000000000000000000000000000000000000000000000000000000000000000000000000000000000000000000000000000000000000000000000000000000000000000000000000000000000000000000000000000000000000000000000000000000000000000000080000000000000000000000000000000000000000000000000000000000000000000000 s (execMacLsVhistRead lane bin requester s) := by
  unfold execMacLsVhistRead
  try dsimp only
  repeat' first
    | (with_reducible refine KeepsR.next ?_)
    | (with_reducible refine KeepsR.ite ?_ ?_)
    | with_reducible refine Keeps.ite ?_ ?_
    | with_reducible exact Keeps.refl
    | with_reducible assumption
    | ((with_reducible apply Keeps.wr); (case d => rfl); (case e => rfl))
    | ((with_reducible apply Keeps.answer); (case e => rfl))
    | intro _
    | split
    | dsimp only
    | (refine Keeps.snd ?_ (by with_reducible assumption))

theorem sfLog_keeps {mk : Nat} {sIn : State} (c : Option (Nat × Nat × Nat)) (s : State) (hMk : 0x501000000000000000000000000000000000000000000000000000000000000000000000000000000000000000000000000000200000000000000000000000000000000000000000000000000000000000000000186700018080000000080000000000000000000000000000000000000000000000000000000000000000000000000000000000000000000000000000000000000000000000000000000000000000003e005000000000000000102000000000000000000000000000000000000000000000000000000000000000000000000000 ||| mk = mk) (hIn : Keeps mk sIn s) : Keeps mk sIn (sfLog c s) := by
  refine Keeps.step hMk ?_ hIn
  unfold sfLog
  try dsimp only
  repeat' first
    | with_reducible refine Keeps.ite ?_ ?_
    | with_reducible exact Keeps.refl
    | with_reducible assumption
    | ((with_reducible apply reject_keeps); (case hMk => rfl))
    | intro _
    | split
    | dsimp only
    | (refine Keeps.snd ?_ (by with_reducible assumption))

theorem execSfEnable_keeps (sf : Fin 64) (t : Nat) (s : State) : KeepsR 0xd01020050000000000000000000000000000000000000000000000000000000000000000000000000000000000000000000000200000000000000000000000000000000000000000000000000000000000000000186700018080000000080000000000000000000000000000000000000000000000000000000000000000000000000000000000000000000000000000000000000000000000000000000003000000087e0051e0000000000004183000000000000000000000000000000000000000000000000000000000000000000000000000 s (execSfEnable sf t s) := by
  unfold execSfEnable
  try dsimp only
  repeat' first
    | (with_reducible refine KeepsR.next ?_)
    | (with_reducible refine KeepsR.ite ?_ ?_)
    | with_reducible refine Keeps.ite ?_ ?_
    | with_reducible exact Keeps.refl
    | with_reducible assumption
    | ((with_reducible apply Keeps.wr); (case d => rfl); (case e => rfl))
    | ((with_reducible apply Keeps.put); (case d => rfl); (case e => rfl))
    | ((with_reducible apply Keeps.at); (case e => rfl); (case e2 => rfl))
    | ((with_reducible apply cellsView_keeps); (case hMk => rfl))
    | ((with_reducible apply checkTime_keeps); (case hMk => rfl))
    | ((with_reducible apply raise_keeps); (case d => rfl); (case hMk => rfl); (case hMk2 => rfl))
    | ((with_reducible apply sfLog_keeps); (case hMk => rfl))
    | ((with_reducible apply stage_keeps); (case hMk => rfl))
    | intro _
    | split
    | dsimp only
    | (refine Keeps.snd ?_ (by with_reducible assumption))

theorem execSfDisable_keeps (sf : Fin 64) (t : Nat) (s : State) : KeepsR 0xd010200100000000000000000000000000000000000000000000000000000000000000000000000000000000000000000000002000000000000000000000000000000000000000000000000000000000000000001867000180800000000800000000000000000000000000000000000000000000000000000000000000000000000000000000000000000000000000000000000000000000000000000000030000000040000060000000000004001000000000000000000000000000000000000000000000000000000000000000000000000000 s (execSfDisable sf t s) := by
  unfold execSfDisable
  try dsimp only
  repeat' first
    | (with_reducible refine KeepsR.next ?_)
    | (with_reducible refine KeepsR.ite ?_ ?_)
    | with_reducible refine Keeps.ite ?_ ?_
    | with_reducible exact Keeps.refl
    | with_reducible assumption
    | ((with_reducible apply Keeps.put); (case d => rfl); (case e => rfl))
    | ((with_reducible apply Keeps.at); (case e => rfl); (case e2 => rfl))
    | ((with_reducible apply cellsView_keeps); (case hMk => rfl))
    | ((with_reducible apply stage_keeps); (case hMk => rfl))
    | intro _
    | split
    | dsimp only
    | (refine Keeps.snd ?_ (by with_reducible assumption))

theorem execCommitMsExpiry_keeps (t : Nat) (s : State) : KeepsR 0x8000200100000000000000000000000000000000000000000000000000000000000000000000000000000000000000000000000000000000000000000000000000000000000000000000000000000000000000000000000000000000000000000000000000000000000000000000000000000000000000000000000000000000000000000000000000000000000000000000000000000000000000000000000000000000000000000000000000001000000000000000000000000000000000000000000000000000000000000000000000000000 s (execCommitMsExpiry t s) := by
  unfold execCommitMsExpiry
  try dsimp only
  repeat' first
    | (with_reducible refine KeepsR.next ?_)
    | (with_reducible refine KeepsR.ite ?_ ?_)
    | with_reducible refine Keeps.ite ?_ ?_
    | with_reducible exact Keeps.refl
    | with_reducible assumption
    | ((with_reducible apply Keeps.at); (case e => rfl); (case e2 => rfl))
    | ((with_reducible apply applyStart_keeps); (case hMk => rfl))
    | ((with_reducible apply modSrc_keeps); (case hMk => rfl))
    | intro _
    | split
    | dsimp only
    | (refine Keeps.snd ?_ (by with_reducible assumption))

theorem execGenCommit_keeps (t : Nat) (s : State) : KeepsR 0x8000200100000000000000000000000000000000000000000000000000000000000000000000000000000000000000000000000000000000000000000000000000000000000000000000000000000000000000000000000000000000000000000000000000000000000000000000000000000000000000000000000000000000000000000000000000000000000000000000000000000000000000000000000000000000000000000000000000001000000000000000000000000000000000000000000000000000000000000000000000000000 s (execGenCommit t s) := by
  unfold execGenCommit
  try dsimp only
  repeat' first
    | (with_reducible refine KeepsR.next ?_)
    | (with_reducible refine KeepsR.ite ?_ ?_)
    | with_reducible refine Keeps.ite ?_ ?_
    | with_reducible exact Keeps.refl
    | with_reducible assumption
    | ((with_reducible apply Keeps.at); (case e => rfl); (case e2 => rfl))
    | ((with_reducible apply applyStart_keeps); (case hMk => rfl))
    | intro _
    | split
    | dsimp only
    | (refine Keeps.snd ?_ (by with_reducible assumption))

theorem execGenApplyComplete_keeps (t : Nat) (s : State) : KeepsR 0xd07060a5000000000000000000020d100084a0000000008000040011d47c00c17c0000000000000000000000000000000000002000000000000000000000000000000000000000000000000000000000000000001c670009e0800000000800000000000000000000000000000000000000000000000000000000000000003c00003303810000000000000000000000000000000000000000000000000000070000000400800e7880000001800480d000000000000000000000000000000000000000000000000000000000000000000000000080 s (execGenApplyComplete t s) := by
  unfold execGenApplyComplete
  try dsimp only
  repeat' first
    | (with_reducible refine KeepsR.next ?_)
    | (with_reducible refine KeepsR.ite ?_ ?_)
    | with_reducible refine Keeps.ite ?_ ?_
    | with_reducible exact Keeps.refl
    | with_reducible assumption
    | ((with_reducible apply Keeps.at); (case e => rfl); (case e2 => rfl))
    | ((with_reducible apply applyDone_keeps); (case hMk => rfl))
    | intro _
    | split
    | dsimp only
    | (refine Keeps.snd ?_ (by with_reducible assumption))

theorem p6SeqClear_keeps {mk : Nat} {sIn : State} (s : State) (hMk : 0x5000000000000000000000000000000000000000000000000000000000000000000000000000000000000000000000000000000000000000000000000000000000000000000000000000000000000000000000000000000000000000000000000000000000000000000000000000000000000000000000000000000000000000000000000000000000000000000000000000000000000000000000000000000000000000000000000000000000000000000000000000000000000000000000000000000000000000000000000000000000000000 ||| mk = mk) (hIn : Keeps mk sIn s) : Keeps mk sIn (p6SeqClear s) := by
  refine Keeps.step hMk ?_ hIn
  unfold p6SeqClear
  try dsimp only
  repeat' first
    | with_reducible refine Keeps.ite ?_ ?_
    | with_reducible exact Keeps.refl
    | with_reducible assumption
    | ((with_reducible apply modPcr_any); (case hf => exact fun p a b => ⟨Memory.filter_wf _ a, b⟩); (case hMk => rfl); (case hMk2 => rfl))
    | intro _
    | split
    | dsimp only
    | (refine Keeps.snd ?_ (by with_reducible assumption))

theorem execGenClear_keeps (t : Nat) (s : State) : KeepsR 0xd050602500000000000000000000000000000000000000000000000000000000000000000000000000000000000000000000002000000000000000000000000000000000000000000000000000000000000000001c670009e0800000000800000000000000000000000000000000000000000000000000000000000000003c00003303810000000000000000000000000000000000000000000000000000030000000440000e60200000018004001000000000000000000000000000000000000000000000000000000000000000000000000000 s (execGenClear t s) := by
  unfold execGenClear
  try dsimp only
  repeat' first
    | (with_reducible refine KeepsR.next ?_)
    | (with_reducible refine KeepsR.ite ?_ ?_)
    | with_reducible refine Keeps.ite ?_ ?_
    | with_reducible exact Keeps.refl
    | with_reducible assumption
    | ((with_reducible apply Keeps.wr); (case d => rfl); (case e => rfl))
    | ((with_reducible apply Keeps.put); (case d => rfl); (case e => rfl))
    | ((with_reducible apply Keeps.at); (case e => rfl); (case e2 => rfl))
    | (with_reducible refine Keeps.each _ _ ?_ ?_)
    | ((with_reducible apply Keeps.modNode); (case e => rfl); (case e2 => rfl))
    | ((with_reducible apply cellsView_keeps); (case hMk => rfl))
    | ((with_reducible apply cmdDone_keeps); (case hMk => rfl))
    | ((with_reducible apply modSrc_keeps); (case hMk => rfl))
    | ((with_reducible apply p6Deliver_keeps); (case hMk => rfl))
    | ((with_reducible apply p6SeqClear_keeps); (case hMk => rfl))
    | ((with_reducible apply stagedView_keeps); (case hMk => rfl))
    | intro _
    | split
    | dsimp only
    | (refine Keeps.snd ?_ (by with_reducible assumption))

theorem execGenClearComplete_keeps (t : Nat) (s : State) : KeepsR 0x8000200100000000000000000000000000000000000000000000000000000000000000000000000000000000000000000000000000000000000000000000000000000000000000000000000000000000000000000000000000000000000000000000000000000000000000000000000000000000000000000000000000000000000000000000000000000000000000000000000000000000000000000000000000000000000000000000000000000000000000000000000000000000000000000000000000000000000000000000000000000000 s (execGenClearComplete t s) := by
  unfold execGenClearComplete
  try dsimp only
  repeat' first
    | (with_reducible refine KeepsR.next ?_)
    | (with_reducible refine KeepsR.ite ?_ ?_)
    | with_reducible refine Keeps.ite ?_ ?_
    | with_reducible exact Keeps.refl
    | with_reducible assumption
    | ((with_reducible apply Keeps.at); (case e => rfl); (case e2 => rfl))
    | ((with_reducible apply modSrc_keeps); (case hMk => rfl))
    | intro _
    | split
    | dsimp only
    | (refine Keeps.snd ?_ (by with_reducible assumption))

theorem withSched_keeps {mk : Nat} {sIn : State} (ring op tag : Nat) (own : Bool) (f : State → State) (s : State) (hMk : 0x50700080000000000000000000020000000020000000000000000011547c00c17c0000000000000000000000000000000000002000000000000000000000000000000000000000000000000000000000000000001c7f8009e0c00000000c00000000000000000000000000000000000000000000000000000000000000000000000000000000000000000000000000000000000000000000000000000000000000000000000000000000000000000000000000000000000000000000000000000000000000000000000000000000000000000080 ||| mk = mk) (hf : ∀ x, Keeps mk sIn x → Keeps mk sIn (f x)) (hIn : Keeps mk sIn s) :
    KeepsR mk sIn (withSched ring op tag own f s) := by
  have run : ∀ x, Keeps mk sIn x → Keeps mk sIn (if own && !owns x then cmdPlain ring op tag 0xF3 x else f x) := by
    intro x h
    split
    · exact cmdPlain_keeps _ _ _ _ _ (mask_sub (by decide) hMk) h
    · exact hf x h
  have park : ∀ b x, Keeps mk sIn x → Keeps mk sIn { x with hif := { x.hif with parked := Store.put false x.hif.parked ring b } } :=
    fun _ _ h => Keeps.set_hif (mask_true rfl hMk) h
  unfold withSched
  dsimp only
  split
  · refine KeepsR.next ?_
    split
    · exact run _ (park _ _ hIn)
    · exact hIn
  · refine withCmd_keeps ring _ s (mask_sub (by decide) hMk) ?_ hIn
    intro x h
    split
    · exact run _ h
    · exact park _ _ h

theorem schedFinish_keeps {mk : Nat} {sIn : State} (c : SchedCmd) (op : Nat) (ret : Nat) (l : List Change) (s : State) (hMk : 0x5010200000000000000000000000000000000000000000000000000000000000000000000000000000000000000000000000002000000000000000000000000000000000000000000000000000000000000000000466000960000000000000000000000000000000000000000000000000000000000000000000000000000000000000000000000000000000000000000000000000000000000000000000000000000000000000000000000000001000000000000000000000000000000000000000000000000000000000000000000000000000 ||| mk = mk) (hIn : Keeps mk sIn s) : Keeps mk sIn (schedFinish c op ret l s) := by
  refine Keeps.step hMk ?_ hIn
  unfold schedFinish
  try dsimp only
  repeat' first
    | with_reducible refine Keeps.ite ?_ ?_
    | with_reducible exact Keeps.refl
    | with_reducible assumption
    | ((with_reducible apply applyStart_keeps); (case hMk => rfl))
    | ((with_reducible apply cmdDone_keeps); (case hMk => rfl))
    | ((with_reducible apply modSrc_keeps); (case hMk => rfl))
    | ((with_reducible apply stage_keeps); (case hMk => rfl))
    | intro _
    | split
    | dsimp only
    | (refine Keeps.snd ?_ (by with_reducible assumption))

theorem schedFail_keeps {mk : Nat} {sIn : State} (c : SchedCmd) (op : Nat) (code : Nat) (s : State) (hMk : 0x5010000000000000000000000000000000000000000000000000000000000000000000000000000000000000000000000000002000000000000000000000000000000000000000000000000000000000000000000466000960000000000000000000000000000000000000000000000000000000000000000000000000000000000000000000000000000000000000000000000000000000000000000000000000000000000000000000000000000000000000000000000000000000000000000000000000000000000000000000000000000000 ||| mk = mk) (hIn : Keeps mk sIn s) : Keeps mk sIn (schedFail c op code s) := by
  refine Keeps.step hMk ?_ hIn
  unfold schedFail
  try dsimp only
  repeat' first
    | with_reducible refine Keeps.ite ?_ ?_
    | with_reducible exact Keeps.refl
    | with_reducible assumption
    | ((with_reducible apply cmdPlain_keeps); (case hMk => rfl))
    | intro _
    | split
    | dsimp only
    | (refine Keeps.snd ?_ (by with_reducible assumption))

theorem schedReject_keeps {mk : Nat} {sIn : State} (c : SchedCmd) (op : Nat) (why : Nat) (cand : Nat) (blk : Nat) (s : State) (hMk : 0x5010000000000000000000000000000000000000000000000000000000000000000000000000000000000000000000000000002000000000000000000000000000000000000000000000000000000000000000001c670009e080000000080000000000000000000000000000000000000000000000000000000000000000000000000000000000000000000000000000000000000000000000000000000000000000003e005000000000000000102000000000000000000000000000000000000000000000000000000000000000000000000000 ||| mk = mk) (hIn : Keeps mk sIn s) : Keeps mk sIn (schedReject c op why cand blk s) := by
  refine Keeps.step hMk ?_ hIn
  unfold schedReject
  try dsimp only
  repeat' first
    | with_reducible refine Keeps.ite ?_ ?_
    | with_reducible exact Keeps.refl
    | with_reducible assumption
    | ((with_reducible apply reject_keeps); (case hMk => rfl))
    | ((with_reducible apply schedFail_keeps); (case hMk => rfl))
    | intro _
    | split
    | dsimp only
    | (refine Keeps.snd ?_ (by with_reducible assumption))

theorem announceAdd_keeps {mk : Nat} {sIn : State} (c : SchedCmd) (op : Nat) (ret : Nat) (i : Nat) (x : Cell) (s : State) (hMk : 0x5050602400000000000000000000000000000000000000000000000000000000000000000000000000000000000000000000002000000000000000000000000000000000000000000000000000000000000000001867000180800000000800000000000000000000000000000000000000000000000000000000000000003c00003303810000000000000000000000000000000000000000000000000000000000000000008e00000000000000001000000000000000000000000000000000000000000000000000000000000000000000000000 ||| mk = mk) (hIn : Keeps mk sIn s) : Keeps mk sIn (announceAdd c op ret i x s) := by
  refine Keeps.step hMk ?_ hIn
  unfold announceAdd
  try dsimp only
  repeat' first
    | with_reducible refine Keeps.ite ?_ ?_
    | with_reducible exact Keeps.refl
    | with_reducible assumption
    | ((with_reducible apply p6Begin_keeps); (case hMk => rfl))
    | ((with_reducible apply stage_keeps); (case hMk => rfl))
    | intro _
    | split
    | dsimp only
    | (refine Keeps.snd ?_ (by with_reducible assumption))

theorem execSchedAdd_keeps (c : SchedCmd) (sf : Fin 64) (ofs : Nat) (cell : CellSpec) (t : Nat) (s : State) : KeepsR 0xd07060a5000000000000000000020000000020000000000000000011547c00c17c0000000000000000000000000000000000002000000000000000000000000000000000000000000000000000000000000000001c7f8009e0c00000000c00000000000000000000000000000000000000000000000000000000000000003c0000330381000000000000000000000000000000000000000000000000000000000000003f00df80000000000000103000000000000000000000000000000000000000000000000000000000000000000000000080 s (execSchedAdd c sf ofs cell t s) := by
  unfold execSchedAdd
  try dsimp only
  repeat' first
    | ((with_reducible apply withSched_keeps); (case hMk => rfl))
    | (with_reducible refine KeepsR.next ?_)
    | (with_reducible refine KeepsR.ite ?_ ?_)
    | with_reducible refine Keeps.ite ?_ ?_
    | with_reducible exact Keeps.refl
    | with_reducible assumption
    | ((with_reducible apply Keeps.inc); (case d => rfl); (case e => rfl))
    | ((with_reducible apply Keeps.at); (case e => rfl); (case e2 => rfl))
    | ((with_reducible apply announceAdd_keeps); (case hMk => rfl))
    | ((with_reducible apply checkTime_keeps); (case hMk => rfl))
    | ((with_reducible apply schedFail_keeps); (case hMk => rfl))
    | ((with_reducible apply schedFinish_keeps); (case hMk => rfl))
    | ((with_reducible apply schedReject_keeps); (case hMk => rfl))
    | ((with_reducible apply stageCount_keeps); (case hMk => rfl))
    | intro _
    | split
    | dsimp only
    | (refine Keeps.snd ?_ (by with_reducible assumption))

theorem execSchedDel_keeps (c : SchedCmd) (idx : Nat) (t : Nat) (s : State) : KeepsR 0xd07060a5000000000000000000020000000020000000000000000011547c00c17c0000000000000000000000000000000000002000000000000000000000000000000000000000000000000000000000000000001c7f8009e0c00000000c00000000000000000000000000000000000000000000000000000000000000003c00003303810000000000000000000000000000000000000000000000000000000000000001008e00000000000000001000000000000000000000000000000000000000000000000000000000000000000000000080 s (execSchedDel c idx t s) := by
  unfold execSchedDel
  try dsimp only
  repeat' first
    | ((with_reducible apply withSched_keeps); (case hMk => rfl))
    | (with_reducible refine KeepsR.next ?_)
    | (with_reducible refine KeepsR.ite ?_ ?_)
    | with_reducible refine Keeps.ite ?_ ?_
    | with_reducible exact Keeps.refl
    | with_reducible assumption
    | ((with_reducible apply Keeps.inc); (case d => rfl); (case e => rfl))
    | ((with_reducible apply Keeps.at); (case e => rfl); (case e2 => rfl))
    | ((with_reducible apply p6Begin_keeps); (case hMk => rfl))
    | ((with_reducible apply schedFail_keeps); (case hMk => rfl))
    | ((with_reducible apply schedFinish_keeps); (case hMk => rfl))
    | ((with_reducible apply stage_keeps); (case hMk => rfl))
    | ((with_reducible apply stageCount_keeps); (case hMk => rfl))
    | intro _
    | split
    | dsimp only
    | (refine Keeps.snd ?_ (by with_reducible assumption))

theorem execSchedMove_keeps (c : SchedCmd) (idx : Nat) (sf : Fin 64) (ofs : Nat) (cell : CellSpec) (t : Nat) (s : State) : KeepsR 0xd07060a5000000000000000000020000000020000000000000000011547c00c17c0000000000000000000000000000000000002000000000000000000000000000000000000000000000000000000000000000001c7f8009e0c00000000c00000000000000000000000000000000000000000000000000000000000000003c0000330381000000000000000000000000000000000000000000000000000000000000003f00df80000000000000103000000000000000000000000000000000000000000000000000000000000000000000000080 s (execSchedMove c idx sf ofs cell t s) := by
  unfold execSchedMove
  try dsimp only
  repeat' first
    | ((with_reducible apply withSched_keeps); (case hMk => rfl))
    | (with_reducible refine KeepsR.next ?_)
    | (with_reducible refine KeepsR.ite ?_ ?_)
    | with_reducible refine Keeps.ite ?_ ?_
    | with_reducible exact Keeps.refl
    | with_reducible assumption
    | ((with_reducible apply Keeps.inc); (case d => rfl); (case e => rfl))
    | ((with_reducible apply Keeps.at); (case e => rfl); (case e2 => rfl))
    | ((with_reducible apply checkTime_keeps); (case hMk => rfl))
    | ((with_reducible apply p6Begin_keeps); (case hMk => rfl))
    | ((with_reducible apply schedFail_keeps); (case hMk => rfl))
    | ((with_reducible apply schedFinish_keeps); (case hMk => rfl))
    | ((with_reducible apply schedReject_keeps); (case hMk => rfl))
    | ((with_reducible apply stage_keeps); (case hMk => rfl))
    | ((with_reducible apply stageCount_keeps); (case hMk => rfl))
    | intro _
    | split
    | dsimp only
    | (refine Keeps.snd ?_ (by with_reducible assumption))

theorem execSchedRead_keeps (c : SchedCmd) (idx : Nat) (t : Nat) (s : State) : KeepsR 0xd0700081000000000000000000020000000020000000000000000011547c00c17c0000000000000000000000000000000000002000000000000000000000000000000000000000000000000000000000000000001c7f8009e0c00000000c00000000000000000000000000000000000000000000000000000000000000000000000000000000000000000000000000000000000000000000000000000000000000000001000000000000000000000000000000000000000000000000000000000000000000000000000000000000000000000080 s (execSchedRead c idx t s) := by
  unfold execSchedRead
  try dsimp only
  repeat' first
    | ((with_reducible apply withSched_keeps); (case hMk => rfl))
    | (with_reducible refine KeepsR.next ?_)
    | (with_reducible refine KeepsR.ite ?_ ?_)
    | with_reducible refine Keeps.ite ?_ ?_
    | with_reducible exact Keeps.refl
    | with_reducible assumption
    | ((with_reducible apply Keeps.inc); (case d => rfl); (case e => rfl))
    | ((with_reducible apply Keeps.at); (case e => rfl); (case e2 => rfl))
    | ((with_reducible apply cmdDone_keeps); (case hMk => rfl))
    | ((with_reducible apply schedFail_keeps); (case hMk => rfl))
    | intro _
    | split
    | dsimp only
    | (refine Keeps.snd ?_ (by with_reducible assumption))

theorem execSchedNode_keeps (c : SchedCmd) (nix : Nat) (t : Nat) (s : State) : KeepsR 0xd0700081000000000000000000020000000020000000000000000011547c00c17c0000000000000000000000000000000000002000000000000000000000000000000000000000000000000000000000000000001c7f8009e0c00000000c00000000000000000000000000000000000000000000000000000000000000000000000000000000000000000000000000000000000000000000000000000000000000000001000000000000000000000000000000000000000000000000000000000000000000000000000000000000000000000080 s (execSchedNode c nix t s) := by
  unfold execSchedNode
  try dsimp only
  repeat' first
    | ((with_reducible apply withSched_keeps); (case hMk => rfl))
    | (with_reducible refine KeepsR.next ?_)
    | (with_reducible refine KeepsR.ite ?_ ?_)
    | with_reducible refine Keeps.ite ?_ ?_
    | with_reducible exact Keeps.refl
    | with_reducible assumption
    | ((with_reducible apply Keeps.inc); (case d => rfl); (case e => rfl))
    | ((with_reducible apply Keeps.at); (case e => rfl); (case e2 => rfl))
    | ((with_reducible apply cmdData_keeps); (case hMk => rfl))
    | ((with_reducible apply schedFail_keeps); (case hMk => rfl))
    | intro _
    | split
    | dsimp only
    | (refine Keeps.snd ?_ (by with_reducible assumption))

theorem execSchedSfClear_keeps (c : SchedCmd) (sf : Nat) (t : Nat) (s : State) : KeepsR 0xd0702081000000000000000000020000000020000000000000000011547c00c17c0000000000000000000000000000000000002000000000000000000000000000000000000000000000000000000000000000001c7f8009e0c00000000c00000000000000000000000000000000000000000000000000000000000000000000000000000000000000000000000000000000000000000000000000000000000000000001000e00000000000000001000000000000000000000000000000000000000000000000000000000000000000000000080 s (execSchedSfClear c sf t s) := by
  unfold execSchedSfClear
  try dsimp only
  repeat' first
    | ((with_reducible apply withSched_keeps); (case hMk => rfl))
    | (with_reducible refine KeepsR.next ?_)
    | (with_reducible refine KeepsR.ite ?_ ?_)
    | with_reducible refine Keeps.ite ?_ ?_
    | with_reducible exact Keeps.refl
    | with_reducible assumption
    | ((with_reducible apply Keeps.inc); (case d => rfl); (case e => rfl))
    | ((with_reducible apply Keeps.at); (case e => rfl); (case e2 => rfl))
    | ((with_reducible apply schedFail_keeps); (case hMk => rfl))
    | ((with_reducible apply schedFinish_keeps); (case hMk => rfl))
    | ((with_reducible apply stageCount_keeps); (case hMk => rfl))
    | intro _
    | split
    | dsimp only
    | (refine Keeps.snd ?_ (by with_reducible assumption))

theorem switchChoose_keeps {mk : Nat} {sIn : State} (s : State) (hMk : 0x5010000000000000000000000000000000000000000000000000000000000000000000000000000000000000000000000000002000000000000000000000000000000000000000000000000000000000000000001867000180800000000800000000000000000000000000000000000000000000000000000000000000000000000000000000000000000000000000000000000000000000000000000000000000000000000000000600000000010400000000000000000000000000000000000000000000000000000000000000000000000000 ||| mk = mk) (hIn : Keeps mk sIn s) : Keeps mk sIn (switchChoose s) := by
  refine Keeps.step hMk ?_ hIn
  unfold switchChoose
  try dsimp only
  repeat' first
    | with_reducible refine Keeps.ite ?_ ?_
    | with_reducible exact Keeps.refl
    | with_reducible assumption
    | ((with_reducible apply Keeps.wr); (case d => rfl); (case e => rfl))
    | ((with_reducible apply Keeps.put); (case d => rfl); (case e => rfl))
    | ((with_reducible apply raise_keeps); (case d => rfl); (case hMk => rfl); (case hMk2 => rfl))
    | intro _
    | split
    | dsimp only
    | (refine Keeps.snd ?_ (by with_reducible assumption))

theorem execSfSwitchArm_keeps (frm : Fin 64) (target : Fin 64) (fromEn : Bool) (arm : Bool) (t : Nat) (s : State) : KeepsR 0xd01000050000000000000000000000000000000000000000000000000000000000000000000000000000000000000000000000200000000000000000000000000000000000000000000000000000000000000000186700018080000000080000000000000000000000000000000000000000000000000000000000000000000000000000000000000000000000000000000000000000000000000000000000000000003e00518000067c000000152400000000000000000000000000000000000000000000000000000000000000000000000000 s (execSfSwitchArm frm target fromEn arm t s) := by
  unfold execSfSwitchArm
  try dsimp only
  repeat' first
    | (with_reducible refine KeepsR.next ?_)
    | (with_reducible refine KeepsR.ite ?_ ?_)
    | with_reducible refine Keeps.ite ?_ ?_
    | with_reducible exact Keeps.refl
    | with_reducible assumption
    | ((with_reducible apply Keeps.wr); (case d => rfl); (case e => rfl))
    | ((with_reducible apply Keeps.put); (case d => rfl); (case e => rfl))
    | ((with_reducible apply Keeps.at); (case e => rfl); (case e2 => rfl))
    | ((with_reducible apply checkTime_keeps); (case hMk => rfl))
    | ((with_reducible apply raise_keeps); (case d => rfl); (case hMk => rfl); (case hMk2 => rfl))
    | ((with_reducible apply sfLog_keeps); (case hMk => rfl))
    | ((with_reducible apply switchChoose_keeps); (case hMk => rfl))
    | intro _
    | split
    | dsimp only
    | (refine Keeps.snd ?_ (by with_reducible assumption))

theorem wmoveChoose_keeps {mk : Nat} {sIn : State} (s : State) (hMk : 0x200000000000000000000000000000000000000000000000000000000000000000000000000000000000000000000000000000000000000000000000000000000000000000000000000000000000000000000000000000000000000000000000000000000000000000000000000000000000000000000000000000000000000000000000000000000000000000000000000000000000000000000000000000000000000000000000000000000800000000000000000000000000000000000000000000000000000000000000000000000000 ||| mk = mk) (hIn : Keeps mk sIn s) : Keeps mk sIn (wmoveChoose s) := by
  refine Keeps.step hMk ?_ hIn
  unfold wmoveChoose
  try dsimp only
  repeat' first
    | with_reducible refine Keeps.ite ?_ ?_
    | with_reducible exact Keeps.refl
    | with_reducible assumption
    | ((with_reducible apply Keeps.put); (case d => rfl); (case e => rfl))
    | ((with_reducible apply modSrc_keeps); (case hMk => rfl))
    | intro _
    | split
    | dsimp only
    | (refine Keeps.snd ?_ (by with_reducible assumption))

theorem execWmoveArm_keeps (fe : Fin 4) (khz : Nat) (arm : Bool) (t : Nat) (s : State) : KeepsR 0x8000200100000000000000000000000000000000000000000000000000000000000000000000000000000000000000000000000000000000000000000000000000000000000000000000000000000000000000000000000000000000000000000000000000000000000000000000000000000000000000000000000000000000000000000000000000000000000000000000000000000000000000000000000000000000000000007800000000000800000000000000000000000000000000000000000000000000000000000000000000000000 s (execWmoveArm fe khz arm t s) := by
  unfold execWmoveArm
  try dsimp only
  repeat' first
    | (with_reducible refine KeepsR.next ?_)
    | (with_reducible refine KeepsR.ite ?_ ?_)
    | with_reducible refine Keeps.ite ?_ ?_
    | with_reducible exact Keeps.refl
    | with_reducible assumption
    | ((with_reducible apply Keeps.wr); (case d => rfl); (case e => rfl))
    | ((with_reducible apply Keeps.put); (case d => rfl); (case e => rfl))
    | ((with_reducible apply Keeps.at); (case e => rfl); (case e2 => rfl))
    | ((with_reducible apply wmoveChoose_keeps); (case hMk => rfl))
    | intro _
    | split
    | dsimp only
    | (refine Keeps.snd ?_ (by with_reducible assumption))

theorem execWmoveCentreWrite_keeps (t : Nat) (s : State) : KeepsR 0x1d010240100000000000000000000000000000000000000000000000000000000000000000000000000000000000000000000002000000000000000000000000000000000000000000000000000000000000000001867000180800000000800000000000000000000000000000000000000000000000000000000000000000000000000000000000000000000000000000000000000000000000000000000000000000000000000000000000000000000000000000000000000000000000000180000000010007800000000000000000000005000 s (execWmoveCentreWrite t s) := by
  unfold execWmoveCentreWrite
  try dsimp only
  repeat' first
    | (with_reducible refine KeepsR.next ?_)
    | (with_reducible refine KeepsR.ite ?_ ?_)
    | with_reducible refine Keeps.ite ?_ ?_
    | with_reducible exact Keeps.refl
    | with_reducible assumption
    | ((with_reducible apply Keeps.at); (case e => rfl); (case e2 => rfl))
    | ((with_reducible apply modSrc_keeps); (case hMk => rfl))
    | ((with_reducible apply tuneWrite_keeps); (case hMk => rfl))
    | intro _
    | split
    | dsimp only
    | (refine Keeps.snd ?_ (by with_reducible assumption))

theorem execQuietAutoPlace_keeps (fe : Fin 4) (t : Nat) (s : State) : KeepsR 0x8000200500000000000000000000000000000000000000000000000000000000000000000000000000000000000000000000000000000000000000000000000000000000000000000000000000000000000000000000000000000000000000000000000000000000000000000000000000000000000000000000000000000000000000000000000000000000000000000000000000000000000000000000000000000000000180000000000000001000000000000000000000000000000000000000000000000000000000000000000000000000 s (execQuietAutoPlace fe t s) := by
  unfold execQuietAutoPlace
  try dsimp only
  repeat' first
    | (with_reducible refine KeepsR.next ?_)
    | (with_reducible refine KeepsR.ite ?_ ?_)
    | with_reducible refine Keeps.ite ?_ ?_
    | with_reducible exact Keeps.refl
    | with_reducible assumption
    | ((with_reducible apply Keeps.at); (case e => rfl); (case e2 => rfl))
    | ((with_reducible apply applyStart_keeps); (case hMk => rfl))
    | ((with_reducible apply checkTime_keeps); (case hMk => rfl))
    | ((with_reducible apply modSrc_keeps); (case hMk => rfl))
    | ((with_reducible apply stage_keeps); (case hMk => rfl))
    | intro _
    | split
    | dsimp only
    | (refine Keeps.snd ?_ (by with_reducible assumption))

theorem execSrcUcDataWrite_keeps (word : Word) (t : Nat) (s : State) : KeepsR 0x8000200500000000000000000000000000000000000000000000000000000000000000000000000000000000000000000000000000000000000000000000000000000000000000000000000000000000000000000000000000000000000000000000000000000000000000000000000000000000000000000000000000000000000000000000000000000000000000000000000000000000000000000000000000000000000012000000000000000000000000000000000000000000000000000000000000000000000000000000000000000000 s (execSrcUcDataWrite word t s) := by
  unfold execSrcUcDataWrite
  try dsimp only
  repeat' first
    | (with_reducible refine KeepsR.next ?_)
    | (with_reducible refine KeepsR.ite ?_ ?_)
    | with_reducible refine Keeps.ite ?_ ?_
    | with_reducible exact Keeps.refl
    | with_reducible assumption
    | ((with_reducible apply Keeps.wr); (case d => rfl); (case e => rfl))
    | ((with_reducible apply Keeps.wrFree); (case d => rfl); (case e => rfl); (case e2 => rfl))
    | ((with_reducible apply Keeps.at); (case e => rfl); (case e2 => rfl))
    | ((with_reducible apply modSrc_keeps); (case hMk => rfl))
    | intro _
    | split
    | dsimp only
    | (refine Keeps.snd ?_ (by with_reducible assumption))

theorem execSrcUcArm_keeps (arm : Bool) (ok : Bool) (t : Nat) (s : State) : KeepsR 0xd010200100000000000000000000000000000000000000000000000000000000000000000000000000000000000000000000002000000000000000000000000000000000000000000000000000000000000000001867000180800000000800000000000000000000000000000000000000000000000000000000000000000000000000000000000000000000000000000000000000000000000000000000000000000000000001800000000001001000000000000000000000000000000000000000000000000000000000000000000000000000 s (execSrcUcArm arm ok t s) := by
  unfold execSrcUcArm
  try dsimp only
  repeat' first
    | (with_reducible refine KeepsR.next ?_)
    | (with_reducible refine KeepsR.ite ?_ ?_)
    | with_reducible refine Keeps.ite ?_ ?_
    | with_reducible exact Keeps.refl
    | with_reducible assumption
    | ((with_reducible apply Keeps.put); (case d => rfl); (case e => rfl))
    | ((with_reducible apply Keeps.at); (case e => rfl); (case e2 => rfl))
    | ((with_reducible apply applyStart_keeps); (case hMk => rfl))
    | ((with_reducible apply raise_keeps); (case d => rfl); (case hMk => rfl); (case hMk2 => rfl))
    | intro _
    | split
    | dsimp only
    | (refine Keeps.snd ?_ (by with_reducible assumption))

theorem execSrcCellsPeakRead_keeps (requester : Requester) (s : State) : KeepsR 0x800000000000000000000000000000000000000000000000000000000000000000000000000000000000000000000000000000000000000000000000000000000000000000000000000000000000000000000000000000000000000000000000000000000000000000000000000000000000000000000000000000000000000000000000000000000000000000000000000000000000000000000000000000000000040000000000000000000000000000000000000000000000000000000000000000000000000000000000000000000 s (execSrcCellsPeakRead requester s) := by
  unfold execSrcCellsPeakRead
  try dsimp only
  repeat' first
    | (with_reducible refine KeepsR.next ?_)
    | (with_reducible refine KeepsR.ite ?_ ?_)
    | with_reducible refine Keeps.ite ?_ ?_
    | with_reducible exact Keeps.refl
    | with_reducible assumption
    | ((with_reducible apply Keeps.wr); (case d => rfl); (case e => rfl))
    | ((with_reducible apply Keeps.answer); (case e => rfl))
    | intro _
    | split
    | dsimp only
    | (refine Keeps.snd ?_ (by with_reducible assumption))

theorem execSrcChkPeakRead_keeps (requester : Requester) (s : State) : KeepsR 0x800000000000000000000000000000000000000000000000000000000000000000000000000000000000000000000000000000000000000000000000000000000000000000000000000000000000000000000000000000000000000000000000000000000000000000000000000000000000000000000000000000000000000000000000000000000000000000000000000000000000000000000000000000000000100000000000000000000000000000000000000000000000000000000000000000000000000000000000000000000 s (execSrcChkPeakRead requester s) := by
  unfold execSrcChkPeakRead
  try dsimp only
  repeat' first
    | (with_reducible refine KeepsR.next ?_)
    | (with_reducible refine KeepsR.ite ?_ ?_)
    | with_reducible refine Keeps.ite ?_ ?_
    | with_reducible exact Keeps.refl
    | with_reducible assumption
    | ((with_reducible apply Keeps.wr); (case d => rfl); (case e => rfl))
    | ((with_reducible apply Keeps.answer); (case e => rfl))
    | intro _
    | split
    | dsimp only
    | (refine Keeps.snd ?_ (by with_reducible assumption))

theorem searchFull_keeps {mk : Nat} {sIn : State} (by_ : Nat) (s : State) (hMk : 0x501000000000000000000000000000000000000000000000000000000000000000000000000000000000000000000000000000200000000000000000000000000000000000000000000000000000000000000000186700018080000000080000000000000000000000000000000000000000000000000000000000000000000000000000000000000000000000000000000000000000000000000000000000000000003e005000000000000000102000000000000000000000000000000000000000000000000000000000000000000000000000 ||| mk = mk) (hIn : Keeps mk sIn s) : Keeps mk sIn (searchFull by_ s) := by
  refine Keeps.step hMk ?_ hIn
  unfold searchFull
  try dsimp only
  repeat' first
    | with_reducible refine Keeps.ite ?_ ?_
    | with_reducible exact Keeps.refl
    | with_reducible assumption
    | ((with_reducible apply reject_keeps); (case hMk => rfl))
    | intro _
    | split
    | dsimp only
    | (refine Keeps.snd ?_ (by with_reducible assumption))

theorem proposeAdd_keeps {mk : Nat} {sIn : State} (nix : Nat) (typ : Nat) (tc : Nat) (s : State) (hMk : 0x5050602400000000000000000000000000000000000000000000000000000000000000000000000000000000000000000000002000000000000000000000000000000000000000000000000000000000000000001867000180800000000800000000000000000000000000000000000000000000000000000000000000003c0000330381000000000000000000000000000000000000000000000000000008001000003e00ff80000000000000103000000000000000000000000000000000000000000000000000000000000000000000000000 ||| mk = mk) (hIn : Keeps mk sIn s) : Keeps mk sIn (proposeAdd nix typ tc s) := by
  refine Keeps.step hMk ?_ hIn
  unfold proposeAdd
  try dsimp only
  repeat' first
    | with_reducible refine Keeps.ite ?_ ?_
    | with_reducible exact Keeps.refl
    | with_reducible assumption
    | ((with_reducible apply checkTime_keeps); (case hMk => rfl))
    | ((with_reducible apply envRefuse_keeps); (case hMk => rfl))
    | ((with_reducible apply p6Begin_keeps); (case hMk => rfl))
    | ((with_reducible apply searchFull_keeps); (case hMk => rfl))
    | ((with_reducible apply stage_keeps); (case hMk => rfl))
    | ((with_reducible apply stageCount_keeps); (case hMk => rfl))
    | ((with_reducible apply tokensTake_keeps); (case hMk => rfl))
    | intro _
    | split
    | dsimp only
    | (refine Keeps.snd ?_ (by with_reducible assumption))

theorem proposeDel_keeps {mk : Nat} {sIn : State} (nix : Nat) (typ : Nat) (s : State) (hMk : 0x5050602400000000000000000000000000000000000000000000000000000000000000000000000000000000000000000000002000000000000000000000000000000000000000000000000000000000000000001867000180800000000800000000000000000000000000000000000000000000000000000000000000003c0000330381000000000000000000000000000000000000000000000000000008001000000000ae00000000000000001000000000000000000000000000000000000000000000000000000000000000000000000000 ||| mk = mk) (hIn : Keeps mk sIn s) : Keeps mk sIn (proposeDel nix typ s) := by
  refine Keeps.step hMk ?_ hIn
  unfold proposeDel
  try dsimp only
  repeat' first
    | with_reducible refine Keeps.ite ?_ ?_
    | with_reducible exact Keeps.refl
    | with_reducible assumption
    | ((with_reducible apply envRefuse_keeps); (case hMk => rfl))
    | ((with_reducible apply p6Begin_keeps); (case hMk => rfl))
    | ((with_reducible apply stage_keeps); (case hMk => rfl))
    | ((with_reducible apply stageCount_keeps); (case hMk => rfl))
    | ((with_reducible apply tokensTake_keeps); (case hMk => rfl))
    | intro _
    | split
    | dsimp only
    | (refine Keeps.snd ?_ (by with_reducible assumption))

theorem proposeMove_keeps {mk : Nat} {sIn : State} (nix : Nat) (s : State) (hMk : 0x5050602400000000000000000000000000000000000000000000000000000000000000000000000000000000000000000000002000000000000000000000000000000000000000000000000000000000000000001867000180800000000800000000000000000000000000000000000000000000000000000000000000003c0000330381000000000000000000000000000000000000000000000000000008001000003e00ff80000000000000103000000000000000000000000000000000000000000000000000000000000000000000000000 ||| mk = mk) (hIn : Keeps mk sIn s) : Keeps mk sIn (proposeMove nix s) := by
  refine Keeps.step hMk ?_ hIn
  unfold proposeMove
  try dsimp only
  repeat' first
    | with_reducible refine Keeps.ite ?_ ?_
    | with_reducible exact Keeps.refl
    | with_reducible assumption
    | ((with_reducible apply checkTime_keeps); (case hMk => rfl))
    | ((with_reducible apply envRefuse_keeps); (case hMk => rfl))
    | ((with_reducible apply p6Begin_keeps); (case hMk => rfl))
    | ((with_reducible apply searchFull_keeps); (case hMk => rfl))
    | ((with_reducible apply stage_keeps); (case hMk => rfl))
    | ((with_reducible apply stageCount_keeps); (case hMk => rfl))
    | ((with_reducible apply tokensTake_keeps); (case hMk => rfl))
    | intro _
    | split
    | dsimp only
    | (refine Keeps.snd ?_ (by with_reducible assumption))

theorem p6Fail_keeps {mk : Nat} {sIn : State} (nix : Nat) (s : State) (hMk : 0x100000000000000000000000000000000000000000000000000000000000000000000000000000000000000000000000000000000000 ||| mk = mk) (hIn : Keeps mk sIn s) : Keeps mk sIn (p6Fail nix s) := by
  refine Keeps.step hMk ?_ hIn
  unfold p6Fail
  try dsimp only
  repeat' first
    | with_reducible refine Keeps.ite ?_ ?_
    | with_reducible exact Keeps.refl
    | with_reducible assumption
    | ((with_reducible apply Keeps.inc); (case d => rfl); (case e => rfl))
    | intro _
    | split
    | dsimp only
    | (refine Keeps.snd ?_ (by with_reducible assumption))

theorem p6Open_keeps {mk : Nat} {sIn : State} (nix : Nat) (s : State) (hMk : 0x200000000000000000000000000000000000000000000000000000000000000000000000000000000000000000000000000000000000000000000000000000000000000000000000000000000000000000000000000000000000000000000000000000000000000000000000000000000000000000000000000000000000000000000000000000000000000000000000000000000000000000000000000000000000000000000000000000000000000000000000000000000000000000000000000000000000000000000000000000000000 ||| mk = mk) (hIn : Keeps mk sIn s) : Keeps mk sIn (p6Open nix s) := by
  refine Keeps.step hMk ?_ hIn
  unfold p6Open
  try dsimp only
  repeat' first
    | with_reducible refine Keeps.ite ?_ ?_
    | with_reducible exact Keeps.refl
    | with_reducible assumption
    | ((with_reducible apply modSrc_keeps); (case hMk => rfl))
    | intro _
    | split
    | dsimp only
    | (refine Keeps.snd ?_ (by with_reducible assumption))

theorem p6Edit_keeps {mk : Nat} {sIn : State} (nix : Nat) (f : P6Answer → P6Answer) (s : State) (hMk : 0x200000000000000000000000000000000000000000000000000000000000000000000000000000000000000000000000000000000000000000000000000000000000000000000000000000000000000000000000000000000000000000000000000000000000000000000000000000000000000000000000000000000000000000000000000000000000000000000000000000000000000000000000000000000000000000000000000000000000000000000000000000000000000000000000000000000000000000000000000000000000 ||| mk = mk) (hIn : Keeps mk sIn s) : Keeps mk sIn (p6Edit nix f s) := by
  refine Keeps.step hMk ?_ hIn
  unfold p6Edit
  try dsimp only
  repeat' first
    | with_reducible refine Keeps.ite ?_ ?_
    | with_reducible exact Keeps.refl
    | with_reducible assumption
    | ((with_reducible apply modSrc_keeps); (case hMk => rfl))
    | intro _
    | split
    | dsimp only
    | (refine Keeps.snd ?_ (by with_reducible assumption))

theorem p6Counted_keeps {mk : Nat} {sIn : State} (nix : Nat) (code : Nat) (s : State) (hMk : 0x100000000000050000000000000000000000000000000000000000000000000000000000000000000000000000000000000000000000 ||| mk = mk) (hIn : Keeps mk sIn s) : Keeps mk sIn (p6Counted nix code s) := by
  refine Keeps.step hMk ?_ hIn
  unfold p6Counted
  try dsimp only
  repeat' first
    | with_reducible refine Keeps.ite ?_ ?_
    | with_reducible exact Keeps.refl
    | with_reducible assumption
    | ((with_reducible apply Keeps.inc); (case d => rfl); (case e => rfl))
    | ((with_reducible apply p6Fail_keeps); (case hMk => rfl))
    | intro _
    | split
    | dsimp only
    | (refine Keeps.snd ?_ (by with_reducible assumption))

theorem p6Refuse_keeps {mk : Nat} {sIn : State} (nix : Nat) (code : Nat) (s : State) (hMk : 0x5050602400000000000000000000000000000000000000000000000000000000000000000000000000000000000000000000002000000000000000000000000000000000000000000000000000000000000000001867000180800000000800000000000000000000000000000000000000000000000000000000000000003c00003303810000000000000000000000000000000000000000000000000000100000000000050e00000000000000001000000000000000000000000000000000000000000000000000000000000000000000000000 ||| mk = mk) (hIn : Keeps mk sIn s) : Keeps mk sIn (p6Refuse nix code s) := by
  refine Keeps.step hMk ?_ hIn
  unfold p6Refuse
  try dsimp only
  repeat' first
    | with_reducible refine Keeps.ite ?_ ?_
    | with_reducible exact Keeps.refl
    | with_reducible assumption
    | ((with_reducible apply p6Counted_keeps); (case hMk => rfl))
    | ((with_reducible apply p6Go_keeps); (case hMk => rfl))
    | intro _
    | split
    | dsimp only
    | (refine Keeps.snd ?_ (by with_reducible assumption))

theorem p6Answer_keeps {mk : Nat} {sIn : State} (nix : Nat) (code : Nat) (n : Nat) (s : State) (hMk : 0x507060a4000000000000000000020d100004a0000000008000040011d47c00c17c0000000000000000000000000000000000002000000000000000000000000000000000000000000000000000000000000000001867000180800000000800000000000000000000000000000000000000000000000000000000000000003c00003303810000000000000000000000000000000000000000000000000000100000000000050e00000000000000001000000000000000000000000000000000000000000000000000000000000000000000000080 ||| mk = mk) (hIn : Keeps mk sIn s) : Keeps mk sIn (p6Answer nix code n s) := by
  refine Keeps.step hMk ?_ hIn
  unfold p6Answer
  try dsimp only
  repeat' first
    | with_reducible refine Keeps.ite ?_ ?_
    | with_reducible exact Keeps.refl
    | with_reducible assumption
    | ((with_reducible apply mirSend_keeps); (case hMk => rfl))
    | ((with_reducible apply p6Counted_keeps); (case hMk => rfl))
    | ((with_reducible apply p6Edit_keeps); (case hMk => rfl))
    | ((with_reducible apply p6Go_keeps); (case hMk => rfl))
    | ((with_reducible apply polPut_keeps); (case hMk => rfl))
    | intro _
    | split
    | dsimp only
    | (refine Keeps.snd ?_ (by with_reducible assumption))

theorem keepCell_keeps {mk : Nat} {sIn : State} (nix : Nat) (i : Nat) (c : Cell) (s : State) (hMk : 0x200000000000000000000000000000000000000000000000000000000000000000000000000000000000000000000000000000000000000000000000000000000000000000000000000000000000000000000000000000000000000000000000000000000000000000000000000000000000000000000000000000000000000000000000000000000000000000000000000000000000000000000000000000000000000e00000000000000001000000000000000000000000000000000000000000000000000000000000000000000000000 ||| mk = mk) (hIn : Keeps mk sIn s) : Keeps mk sIn (keepCell nix i c s) := by
  refine Keeps.step hMk ?_ hIn
  unfold keepCell
  try dsimp only
  repeat' first
    | with_reducible refine Keeps.ite ?_ ?_
    | with_reducible exact Keeps.refl
    | with_reducible assumption
    | ((with_reducible apply p6Edit_keeps); (case hMk => rfl))
    | ((with_reducible apply stage_keeps); (case hMk => rfl))
    | ((with_reducible apply stageCount_keeps); (case hMk => rfl))
    | intro _
    | split
    | dsimp only
    | (refine Keeps.snd ?_ (by with_reducible assumption))

theorem keepCells_keeps {mk : Nat} {sIn : State} (w f nix : Nat) (proto : Cell) (skip : Option Nat) (n : Nat) (l : List (Nat × Nat × Nat)) (k : Kept) (s : State) (hMk : 0x501020040000000000000000000000000000000000000000000000000000000000000000000000000000000000000000000000200000000000000000000000000000000000000000000000000000000000000000186700018080000000080000000000000000000000000000000000000000000000000000000000000000000000000000000000000000000000000000000000000000000000000000000008001000003e007f80000000000000103000000000000000000000000000000000000000000000000000000000000000000000000000 ||| mk = mk) (hIn : Keeps mk sIn s) :
    Keeps mk sIn (keepCells w f nix proto skip n l k s).2 := by
  refine Keeps.step hMk ?_ hIn
  have key : ∀ (l : List (Nat × Nat × Nat)) (n : Nat) (k : Kept) (s s0 : State), Keeps 0x501020040000000000000000000000000000000000000000000000000000000000000000000000000000000000000000000000200000000000000000000000000000000000000000000000000000000000000000186700018080000000080000000000000000000000000000000000000000000000000000000000000000000000000000000000000000000000000000000000000000000000000000000008001000003e007f80000000000000103000000000000000000000000000000000000000000000000000000000000000000000000000 s0 s → Keeps 0x501020040000000000000000000000000000000000000000000000000000000000000000000000000000000000000000000000200000000000000000000000000000000000000000000000000000000000000000186700018080000000080000000000000000000000000000000000000000000000000000000000000000000000000000000000000000000000000000000000000000000000000000000008001000003e007f80000000000000103000000000000000000000000000000000000000000000000000000000000000000000000000 s0 (keepCells w f nix proto skip n l k s).2 := by
    intro l
    induction l with
    | nil => intro n k s s0 h; cases n <;> (unfold keepCells; exact h)
    | cons a l ih =>
      intro n k s s0 h
      cases n with
      | zero => unfold keepCells; exact h
      | succ n =>
       unfold keepCells
       try dsimp only
       repeat' first
        | with_reducible refine Keeps.ite ?_ ?_
        | (with_reducible apply ih)
        | with_reducible exact Keeps.refl
        | with_reducible assumption
        | ((with_reducible apply checkTime_keeps); (case hMk => rfl))
        | ((with_reducible apply envRefuse_keeps); (case hMk => rfl))
        | ((with_reducible apply keepCell_keeps); (case hMk => rfl))
        | ((with_reducible apply reject_keeps); (case hMk => rfl))
        | ((with_reducible apply tokensTake_keeps); (case hMk => rfl))
        | split
        | (refine Keeps.snd ?_ (by with_reducible assumption))
        | dsimp only
  exact key l n k s s Keeps.refl

theorem ownCells_keeps {mk : Nat} {sIn : State} (w f nix : Nat) (proto : Cell) (skip : Option Nat) (n : Nat) (k : Kept) (s : State) (hMk : 0x501020040000000000000000000000000000000000000000000000000000000000000000000000000000000000000000000000200000000000000000000000000000000000000000000000000000000000000000186700018080000000080000000000000000000000000000000000000000000000000000000000000000000000000000000000000000000000000000000000000000000000000000000008001000003e007f80000000000000103000000000000000000000000000000000000000000000000000000000000000000000000000 ||| mk = mk) (hIn : Keeps mk sIn s) : Keeps mk sIn (ownCells w f nix proto skip n k s).2 := by
  refine Keeps.step hMk ?_ hIn
  have key : ∀ (n : Nat) (k : Kept) (s s0 : State), Keeps 0x501020040000000000000000000000000000000000000000000000000000000000000000000000000000000000000000000000200000000000000000000000000000000000000000000000000000000000000000186700018080000000080000000000000000000000000000000000000000000000000000000000000000000000000000000000000000000000000000000000000000000000000000000008001000003e007f80000000000000103000000000000000000000000000000000000000000000000000000000000000000000000000 s0 s → Keeps 0x501020040000000000000000000000000000000000000000000000000000000000000000000000000000000000000000000000200000000000000000000000000000000000000000000000000000000000000000186700018080000000080000000000000000000000000000000000000000000000000000000000000000000000000000000000000000000000000000000000000000000000000000000008001000003e007f80000000000000103000000000000000000000000000000000000000000000000000000000000000000000000000 s0 (ownCells w f nix proto skip n k s).2 := by
    intro n
    induction n with
    | zero => intro k s s0 h; unfold ownCells; exact h
    | succ k ih =>
     intro k s s0 h
     unfold ownCells
     try dsimp only
     repeat' first
      | with_reducible refine Keeps.ite ?_ ?_
      | (with_reducible apply ih)
      | with_reducible exact Keeps.refl
      | with_reducible assumption
      | ((with_reducible apply checkTime_keeps); (case hMk => rfl))
      | ((with_reducible apply envRefuse_keeps); (case hMk => rfl))
      | ((with_reducible apply keepCell_keeps); (case hMk => rfl))
      | ((with_reducible apply searchFull_keeps); (case hMk => rfl))
      | ((with_reducible apply tokensTake_keeps); (case hMk => rfl))
      | split
      | (refine Keeps.snd ?_ (by with_reducible assumption))
      | (refine Keeps.snd (p := ownCells w f nix proto skip _ _ _) ?_ (by with_reducible assumption))
      | intro _
      | dsimp only
  exact key n k s s Keeps.refl

theorem dropCell_keeps {mk : Nat} {sIn : State} (nix : Nat) (i : Nat) (c : Cell) (s : State) (hMk : 0x200000000000000000000000000000000000000000000000000000000000000000000000000000000000000000000000000000000000000000000000000000000000000000000000000000000000000000000000000000000000000000000000000000000000000000000000000000000000000000000000000000000000000000000000000000000000000000000000000000000000000000000000000000000000000e00000000000000001000000000000000000000000000000000000000000000000000000000000000000000000000 ||| mk = mk) (hIn : Keeps mk sIn s) : Keeps mk sIn (dropCell nix i c s) := by
  refine Keeps.step hMk ?_ hIn
  unfold dropCell
  try dsimp only
  repeat' first
    | with_reducible refine Keeps.ite ?_ ?_
    | with_reducible exact Keeps.refl
    | with_reducible assumption
    | ((with_reducible apply p6Edit_keeps); (case hMk => rfl))
    | ((with_reducible apply stage_keeps); (case hMk => rfl))
    | ((with_reducible apply stageCount_keeps); (case hMk => rfl))
    | intro _
    | split
    | dsimp only
    | (refine Keeps.snd ?_ (by with_reducible assumption))

theorem answerRefused_keeps {mk : Nat} {sIn : State} (nix : Nat) (w : Nat) (code : Nat) (s : State) (hMk : 0x507060a4000000000000000000020d100004a0000000008000040011d47c00c17c0000000000000000000000000000000000002000000000000000000000000000000000000000000000000000000000000000001867000180800000000800000000000000000000000000000000000000000000000000000000000000003c00003303810000000000000000000000000000000000000000000000000000180000000000052e00000000000000001000000000000000000000000000000000000000000000000000000000000000000000000080 ||| mk = mk) (hIn : Keeps mk sIn s) : Keeps mk sIn (answerRefused nix w code s) := by
  refine Keeps.step hMk ?_ hIn
  unfold answerRefused
  try dsimp only
  repeat' first
    | with_reducible refine Keeps.ite ?_ ?_
    | with_reducible exact Keeps.refl
    | with_reducible assumption
    | ((with_reducible apply envRefuse_keeps); (case hMk => rfl))
    | ((with_reducible apply p6Answer_keeps); (case hMk => rfl))
    | intro _
    | split
    | dsimp only
    | (refine Keeps.snd ?_ (by with_reducible assumption))

theorem answerNamed_keeps {mk : Nat} {sIn : State} (nix : Nat) (w : Nat) (code : Nat) (s : State) (hMk : 0x507060a4000000000000000000020d100004a0000000008000040011d47c00c17c0000000000000000000000000000000000002000000000000000000000000000000000000000000000000000000000000000001867000180800000000800000000000000000000000000000000000000000000000000000000000000003c00003303810000000000000000000000000000000000000000000000000000180000000000052e00000000000000001000000000000000000000000000000000000000000000000000000000000000000000000080 ||| mk = mk) (hIn : Keeps mk sIn s) : Keeps mk sIn (answerNamed nix w code s) := by
  refine Keeps.step hMk ?_ hIn
  unfold answerNamed
  try dsimp only
  repeat' first
    | with_reducible refine Keeps.ite ?_ ?_
    | with_reducible exact Keeps.refl
    | with_reducible assumption
    | ((with_reducible apply answerRefused_keeps); (case hMk => rfl))
    | ((with_reducible apply p6Answer_keeps); (case hMk => rfl))
    | intro _
    | split
    | dsimp only
    | (refine Keeps.snd ?_ (by with_reducible assumption))

theorem answerAdd_keeps {mk : Nat} {sIn : State} (nix : Nat) (q : P6Req) (typ : Nat) (s : State) (hMk : 0x507060a4000000000000000000020d100004a0000000008000040011d47c00c17c0000000000000000000000000000000000002000000000000000000000000000000000000000000000000000000000000000001867000180800000000800000000000000000000000000000000000000000000000000000000000000003c0000330381000000000000000000000000000000000000000000000000000018001000003e057f80000000000000103000000000000000000000000000000000000000000000000000000000000000000000000080 ||| mk = mk) (hIn : Keeps mk sIn s) : Keeps mk sIn (answerAdd nix q typ s) := by
  refine Keeps.step hMk ?_ hIn
  unfold answerAdd
  try dsimp only
  repeat' first
    | with_reducible refine Keeps.ite ?_ ?_
    | with_reducible exact Keeps.refl
    | with_reducible assumption
    | ((with_reducible apply Keeps.took); (case e => rfl))
    | (refine Keeps.snd (p := keepCells _ _ _ _ _ _ _ _ _) ?_ (by with_reducible assumption))
    | ((with_reducible apply keepCells_keeps); (case hMk => rfl))
    | (refine Keeps.snd (p := ownCells _ _ _ _ _ _ _ _) ?_ (by with_reducible assumption))
    | ((with_reducible apply ownCells_keeps); (case hMk => rfl))
    | ((with_reducible apply p6Answer_keeps); (case hMk => rfl))
    | ((with_reducible apply p6Edit_keeps); (case hMk => rfl))
    | ((with_reducible apply p6Open_keeps); (case hMk => rfl))
    | intro _
    | split
    | dsimp only
    | (refine Keeps.snd ?_ (by with_reducible assumption))

theorem answerDel_keeps {mk : Nat} {sIn : State} (nix : Nat) (q : P6Req) (typ : Nat) (s : State) (hMk : 0x507060a4000000000000000000020d100004a0000000008000040011d47c00c17c0000000000000000000000000000000000002000000000000000000000000000000000000000000000000000000000000000001867000180800000000800000000000000000000000000000000000000000000000000000000000000003c00003303810000000000000000000000000000000000000000000000000000180010000000052e00000000000000001000000000000000000000000000000000000000000000000000000000000000000000000080 ||| mk = mk) (hIn : Keeps mk sIn s) : Keeps mk sIn (answerDel nix q typ s) := by
  refine Keeps.step hMk ?_ hIn
  unfold answerDel
  try dsimp only
  repeat' first
    | with_reducible refine Keeps.ite ?_ ?_
    | with_reducible exact Keeps.refl
    | with_reducible assumption
    | (with_reducible refine Keeps.each _ _ ?_ ?_)
    | ((with_reducible apply answerNamed_keeps); (case hMk => rfl))
    | ((with_reducible apply answerRefused_keeps); (case hMk => rfl))
    | ((with_reducible apply dropCell_keeps); (case hMk => rfl))
    | ((with_reducible apply p6Answer_keeps); (case hMk => rfl))
    | ((with_reducible apply p6Edit_keeps); (case hMk => rfl))
    | ((with_reducible apply p6Open_keeps); (case hMk => rfl))
    | ((with_reducible apply tokensTake_keeps); (case hMk => rfl))
    | intro _
    | split
    | dsimp only
    | (refine Keeps.snd ?_ (by with_reducible assumption))

theorem answerMove_keeps {mk : Nat} {sIn : State} (nix : Nat) (q : P6Req) (typ : Nat) (s : State) (hMk : 0x507060a4000000000000000000020d100004a0000000008000040011d47c00c17c0000000000000000000000000000000000002000000000000000000000000000000000000000000000000000000000000000001867000180800000000800000000000000000000000000000000000000000000000000000000000000003c0000330381000000000000000000000000000000000000000000000000000018001000003e057f80000000000000103000000000000000000000000000000000000000000000000000000000000000000000000080 ||| mk = mk) (hIn : Keeps mk sIn s) : Keeps mk sIn (answerMove nix q typ s) := by
  refine Keeps.step hMk ?_ hIn
  unfold answerMove
  try dsimp only
  repeat' first
    | with_reducible refine Keeps.ite ?_ ?_
    | with_reducible exact Keeps.refl
    | with_reducible assumption
    | (with_reducible refine Keeps.each _ _ ?_ ?_)
    | ((with_reducible apply answerNamed_keeps); (case hMk => rfl))
    | ((with_reducible apply answerRefused_keeps); (case hMk => rfl))
    | ((with_reducible apply dropCell_keeps); (case hMk => rfl))
    | (refine Keeps.snd (p := keepCells _ _ _ _ _ _ _ _ _) ?_ (by with_reducible assumption))
    | ((with_reducible apply keepCells_keeps); (case hMk => rfl))
    | (refine Keeps.snd (p := ownCells _ _ _ _ _ _ _ _) ?_ (by with_reducible assumption))
    | ((with_reducible apply ownCells_keeps); (case hMk => rfl))
    | ((with_reducible apply p6Answer_keeps); (case hMk => rfl))
    | ((with_reducible apply p6Edit_keeps); (case hMk => rfl))
    | ((with_reducible apply p6Open_keeps); (case hMk => rfl))
    | ((with_reducible apply tokensTake_keeps); (case hMk => rfl))
    | intro _
    | split
    | dsimp only
    | (refine Keeps.snd ?_ (by with_reducible assumption))

theorem answerClear_keeps {mk : Nat} {sIn : State} (nix : Nat) (s : State) (hMk : 0x507060a4000000000000000000020d100004a0000000008000040011d47c00c17c0000000000000000000000000000000000002000000000000000000000000000000000000000000000000000000000000000001867000180800000000800000000000000000000000000000000000000000000000000000000000000003c00003303810000000000000000000000000000000000000000000000000000180010000000052e00000000000000001000000000000000000000000000000000000000000000000000000000000000000000000080 ||| mk = mk) (hIn : Keeps mk sIn s) : Keeps mk sIn (answerClear nix s) := by
  refine Keeps.step hMk ?_ hIn
  unfold answerClear
  try dsimp only
  repeat' first
    | with_reducible refine Keeps.ite ?_ ?_
    | with_reducible exact Keeps.refl
    | with_reducible assumption
    | (with_reducible refine Keeps.each _ _ ?_ ?_)
    | ((with_reducible apply answerRefused_keeps); (case hMk => rfl))
    | ((with_reducible apply dropCell_keeps); (case hMk => rfl))
    | ((with_reducible apply p6Answer_keeps); (case hMk => rfl))
    | ((with_reducible apply p6Edit_keeps); (case hMk => rfl))
    | ((with_reducible apply p6Open_keeps); (case hMk => rfl))
    | ((with_reducible apply tokensTake_keeps); (case hMk => rfl))
    | intro _
    | split
    | dsimp only
    | (refine Keeps.snd ?_ (by with_reducible assumption))

theorem beginClear_keeps {mk : Nat} {sIn : State} (nix : Nat) (s : State) (hMk : 0x5050602400000000000000000000000000000000000000000000000000000000000000000000000000000000000000000000002000000000000000000000000000000000000000000000000000000000000000001867000180800000000800000000000000000000000000000000000000000000000000000000000000003c0000330381000000000000000000000000000000000000000000000000000008001000000000ae00000000000000001000000000000000000000000000000000000000000000000000000000000000000000000000 ||| mk = mk) (hIn : Keeps mk sIn s) : Keeps mk sIn (beginClear nix s) := by
  refine Keeps.step hMk ?_ hIn
  unfold beginClear
  try dsimp only
  repeat' first
    | with_reducible refine Keeps.ite ?_ ?_
    | with_reducible exact Keeps.refl
    | with_reducible assumption
    | ((with_reducible apply envRefuse_keeps); (case hMk => rfl))
    | ((with_reducible apply p6Begin_keeps); (case hMk => rfl))
    | ((with_reducible apply stage_keeps); (case hMk => rfl))
    | ((with_reducible apply stageCount_keeps); (case hMk => rfl))
    | ((with_reducible apply tokensTake_keeps); (case hMk => rfl))
    | intro _
    | split
    | dsimp only
    | (refine Keeps.snd ?_ (by with_reducible assumption))

theorem refill_keeps {mk : Nat} {sIn : State} (nix : Nat) (tc : Nat) (s : State) (hMk : 0x5050602400000000000000000000000000000000000000000000000000000000000000000000000000000000000000000000002000000000000000000000000000000000000000000000000000000000000000001867000180800000000800000000000000000000000000000000000000000000000000000000000000003c0000330381000000000000000000000000000000000000000000000000000008001000003e00ff80000000000000103000000000000000000000000000000000000000000000000000000000000000000000000000 ||| mk = mk) (hIn : Keeps mk sIn s) : Keeps mk sIn (refill nix tc s) := by
  refine Keeps.step hMk ?_ hIn
  unfold refill
  try dsimp only
  repeat' first
    | with_reducible refine Keeps.ite ?_ ?_
    | with_reducible exact Keeps.refl
    | with_reducible assumption
    | ((with_reducible apply modSrc_keeps); (case hMk => rfl))
    | ((with_reducible apply proposeAdd_keeps); (case hMk => rfl))
    | intro _
    | split
    | dsimp only
    | (refine Keeps.snd ?_ (by with_reducible assumption))

theorem propose_keeps {mk : Nat} {sIn : State} (nix : Nat) (b : Bool) (k : Want) (tc : Nat) (s : State) (hMk : 0x200000000000000000000000000000000000000000000000000000000000000000000000000000000000000000000000000000000000000000000000000000000000000000000000000000000000000000000000000000000000000000000000000000000000000000000000000000000000000000000000000000000000000000000000000000000000000000000000000000000000000000000000000000000000000000000000000000000000000000000000000000000000000000000000000000000000000000000000000000000000 ||| mk = mk) (hIn : Keeps mk sIn s) : Keeps mk sIn (propose nix b k tc s) := by
  refine Keeps.step hMk ?_ hIn
  unfold propose
  try dsimp only
  repeat' first
    | with_reducible refine Keeps.ite ?_ ?_
    | with_reducible exact Keeps.refl
    | with_reducible assumption
    | ((with_reducible apply modSrc_keeps); (case hMk => rfl))
    | intro _
    | split
    | dsimp only
    | (refine Keeps.snd ?_ (by with_reducible assumption))

theorem wantDo_keeps {mk : Nat} {sIn : State} (nix : Nat) (tc : Nat) (k : Want) (s : State) (hMk : 0x5050602400000000000000000000000000000000000000000000000000000000000000000000000000000000000000000000002000000000000000000000000000000000000000000000000000000000000000001867000180800000000800000000000000000000000000000000000000000000000000000000000000003c0000330381000000000000000000000000000000000000000000000000000008001000003e00ff80000000000000103000000000000000000000000000000000000000000000000000000000000000000000000000 ||| mk = mk) (hIn : Keeps mk sIn s) : Keeps mk sIn (wantDo nix tc k s) := by
  refine Keeps.step hMk ?_ hIn
  unfold wantDo
  try dsimp only
  repeat' first
    | with_reducible refine Keeps.ite ?_ ?_
    | with_reducible exact Keeps.refl
    | with_reducible assumption
    | ((with_reducible apply beginClear_keeps); (case hMk => rfl))
    | ((with_reducible apply proposeAdd_keeps); (case hMk => rfl))
    | ((with_reducible apply proposeDel_keeps); (case hMk => rfl))
    | ((with_reducible apply proposeMove_keeps); (case hMk => rfl))
    | ((with_reducible apply refill_keeps); (case hMk => rfl))
    | intro _
    | split
    | dsimp only
    | (refine Keeps.snd ?_ (by with_reducible assumption))

theorem firmwareTurn_keeps {mk : Nat} {sIn : State} (s : State) (hMk : 0x5050602400000000000000000000000000000000000000000000000000000000000000000000000000000000000000000000002000000000000000000000000000000000000000000000000000000000000000001867000180800000000800000000000000000000000000000000000000000000000000000000000000003c0000330381000000000000000000000000000000000000000000000000000008001000003e00ff80000000000000103000000000000000000000000000000000000000000000000000000000000000000000000000 ||| mk = mk) (hIn : Keeps mk sIn s) : Keeps mk sIn (firmwareTurn s) := by
  refine Keeps.step hMk ?_ hIn
  unfold firmwareTurn
  try dsimp only
  repeat' first
    | with_reducible refine Keeps.ite ?_ ?_
    | with_reducible exact Keeps.refl
    | with_reducible assumption
    | (with_reducible refine Keeps.each _ _ ?_ ?_)
    | ((with_reducible apply modSrc_keeps); (case hMk => rfl))
    | ((with_reducible apply wantDo_keeps); (case hMk => rfl))
    | intro _
    | split
    | dsimp only
    | (refine Keeps.snd ?_ (by with_reducible assumption))

theorem execAdaptVisit_keeps (nix : Fin 262144) (tc : Fin 8) (t : Nat) (s : State) : KeepsR 0xd050602500000000000000000000000000000000000000000000000000000000000000000000000000000000000000000000002000000000000000000000000000000000000000000000000000000000000000001867000180800000000800000000000000000000000000000000000000000000000000000000000000003c0000330381000000000000000000000000000000000000000000000000000008001000003e00ff80000000000000103000000000000000000000000000000000000000000000000000000000000000000000000000 s (execAdaptVisit nix tc t s) := by
  unfold execAdaptVisit
  try dsimp only
  repeat' first
    | (with_reducible refine KeepsR.next ?_)
    | (with_reducible refine KeepsR.ite ?_ ?_)
    | with_reducible refine Keeps.ite ?_ ?_
    | with_reducible exact Keeps.refl
    | with_reducible assumption
    | ((with_reducible apply Keeps.at); (case e => rfl); (case e2 => rfl))
    | ((with_reducible apply firmwareTurn_keeps); (case hMk => rfl))
    | ((with_reducible apply modSrc_keeps); (case hMk => rfl))
    | ((with_reducible apply propose_keeps); (case hMk => rfl))
    | intro _
    | split
    | dsimp only
    | (refine Keeps.snd ?_ (by with_reducible assumption))

theorem p6Take_keeps {mk : Nat} {sIn : State} (nix : Nat) (s : State) (hMk : 0x200000000000000000000000000000000000000000000000000000000000000000000000000000000000000000000000000000000000000000000000000000000000000000000000000000000000000000000000000000000000000000000000000000000000000000000000000000000000000000000000000000000000000000000000000000000000000000000000000000000000000000000000000000000000000000000000000000000000000000000000000000000000000000000000000000000000000000000000000000000000 ||| mk = mk) (hIn : Keeps mk sIn s) : Keeps mk sIn (p6Take nix s) := by
  refine Keeps.step hMk ?_ hIn
  unfold p6Take
  try dsimp only
  repeat' first
    | with_reducible refine Keeps.ite ?_ ?_
    | with_reducible exact Keeps.refl
    | with_reducible assumption
    | ((with_reducible apply modSrc_keeps); (case hMk => rfl))
    | intro _
    | split
    | dsimp only
    | (refine Keeps.snd ?_ (by with_reducible assumption))

theorem answerRequest_keeps {mk : Nat} {sIn : State} (nix : Nat) (q : P6Req) (s : State) (hMk : 0x507060a4000000000000000000020d100004a0000000008000040011d47c00c17c0000000000000000000000000000000000002000000000000000000000000000000000000000000000000000000000000000001867000180800000000800000000000000000000000000000000000000000000000000000000000000003c0000330381000000000000000000000000000000000000000000000000000018001000003e057f80000000000000103000000000000000000000000000000000000000000000000000000000000000000000000080 ||| mk = mk) (hIn : Keeps mk sIn s) : Keeps mk sIn (answerRequest nix q s) := by
  refine Keeps.step hMk ?_ hIn
  unfold answerRequest
  try dsimp only
  repeat' first
    | with_reducible refine Keeps.ite ?_ ?_
    | with_reducible exact Keeps.refl
    | with_reducible assumption
    | ((with_reducible apply answerAdd_keeps); (case hMk => rfl))
    | ((with_reducible apply answerClear_keeps); (case hMk => rfl))
    | ((with_reducible apply answerDel_keeps); (case hMk => rfl))
    | ((with_reducible apply answerMove_keeps); (case hMk => rfl))
    | ((with_reducible apply p6Answer_keeps); (case hMk => rfl))
    | ((with_reducible apply p6Open_keeps); (case hMk => rfl))
    | intro _
    | split
    | dsimp only
    | (refine Keeps.snd ?_ (by with_reducible assumption))

theorem execP6Request_keeps (nix : Fin 262144) (q : P6Req) (t : Nat) (s : State) : KeepsR 0xd07060a5000000000000000000020d100004a0000000008000040011d47c00c17c0000000000000000000000000000000000002000000000000000000000000000000000000000000000000000000000000000001867000180800000000800000000000000000000000000000000000000000000000000000000000000003c0000330381000000000000000000000000000000000000000000000000000018001000003e15ff80000000000000303000000000000000000000000000000000000000000000000000000000000000000000000080 s (execP6Request nix q t s) := by
  unfold execP6Request
  try dsimp only
  repeat' first
    | (with_reducible refine KeepsR.next ?_)
    | (with_reducible refine KeepsR.ite ?_ ?_)
    | with_reducible refine Keeps.ite ?_ ?_
    | with_reducible exact Keeps.refl
    | with_reducible assumption
    | ((with_reducible apply Keeps.inc); (case d => rfl); (case e => rfl))
    | ((with_reducible apply Keeps.at); (case e => rfl); (case e2 => rfl))
    | ((with_reducible apply answerRequest_keeps); (case hMk => rfl))
    | ((with_reducible apply firmwareTurn_keeps); (case hMk => rfl))
    | ((with_reducible apply p6Refuse_keeps); (case hMk => rfl))
    | ((with_reducible apply p6Send_keeps); (case hMk => rfl))
    | ((with_reducible apply p6Take_keeps); (case hMk => rfl))
    | ((with_reducible apply propose_keeps); (case hMk => rfl))
    | ((with_reducible apply raiseNode_keeps); (case d => rfl); (case hMk => rfl); (case hMk2 => rfl))
    | intro _
    | split
    | dsimp only
    | (refine Keeps.snd ?_ (by with_reducible assumption))

theorem txnCmd_keeps {mk : Nat} {sIn : State} (x : P6Txn) (ok : Bool) (s : State) (hMk : 0x5010000400000000000000000000000000000000000000000000000000000000000000000000000000000000000000000000002000000000000000000000000000000000000000000000000000000000000000000466000960000000000000000000000000000000000000000000000000000000000000000000000000000000000000000000000000000000000000000000000000000000000000000000000000000000000000000000000000000000000000000000000000000000000000000000000000000000000000000000000000000000 ||| mk = mk) (hIn : Keeps mk sIn s) : Keeps mk sIn (txnCmd x ok s) := by
  refine Keeps.step hMk ?_ hIn
  unfold txnCmd
  try dsimp only
  repeat' first
    | with_reducible refine Keeps.ite ?_ ?_
    | with_reducible exact Keeps.refl
    | with_reducible assumption
    | ((with_reducible apply Keeps.took); (case e => rfl))
    | ((with_reducible apply cmdDone_keeps); (case hMk => rfl))
    | intro _
    | split
    | dsimp only
    | (refine Keeps.snd ?_ (by with_reducible assumption))

theorem txnCommit_keeps {mk : Nat} {sIn : State} (x : P6Txn) (s : State) (hMk : 0x200000000000000000000000000000000000000000000000000000000000000000000000000000000000000000000000000000000000000000000000000000000000000000000000000000000000000000000000000000000000000000000000000000000000000000000000000000000000000000000000000000000000000000000000000000000000000000000000000000000000000000000000000000000000000000000000000000001000000000000000000000000000000000000000000000000000000000000000000000000000 ||| mk = mk) (hIn : Keeps mk sIn s) : Keeps mk sIn (txnCommit x s) := by
  refine Keeps.step hMk ?_ hIn
  unfold txnCommit
  try dsimp only
  repeat' first
    | with_reducible refine Keeps.ite ?_ ?_
    | with_reducible exact Keeps.refl
    | with_reducible assumption
    | ((with_reducible apply applyStart_keeps); (case hMk => rfl))
    | intro _
    | split
    | dsimp only
    | (refine Keeps.snd ?_ (by with_reducible assumption))

theorem txnFail_keeps {mk : Nat} {sIn : State} (nix : Nat) (x : P6Txn) (advance : Bool) (s : State) (hMk : 0x50702084000000000000000000020d100004a0000000008000040011d47c00c17c0000000000000000000000000000000000002000000000000000000000000000000000000000000000000000000000000000001c670009e0800000000800000000000000000000000000000000000000000000000000000000000000000000003001800000000000000000000000000000000000000000000000000000100000000000000000000000000000001000000000000000000000000000000000000000000000000000000000000000000000000080 ||| mk = mk) (hIn : Keeps mk sIn s) : Keeps mk sIn (txnFail nix x advance s) := by
  refine Keeps.step hMk ?_ hIn
  unfold txnFail
  try dsimp only
  repeat' first
    | with_reducible refine Keeps.ite ?_ ?_
    | with_reducible exact Keeps.refl
    | with_reducible assumption
    | ((with_reducible apply p6Fail_keeps); (case hMk => rfl))
    | ((with_reducible apply p6Over_keeps); (case hMk => rfl))
    | ((with_reducible apply stage_keeps); (case hMk => rfl))
    | ((with_reducible apply txnCmd_keeps); (case hMk => rfl))
    | ((with_reducible apply txnCommit_keeps); (case hMk => rfl))
    | intro _
    | split
    | dsimp only
    | (refine Keeps.snd ?_ (by with_reducible assumption))

theorem txnOk_keeps {mk : Nat} {sIn : State} (nix : Nat) (x : P6Txn) (accepted : List (Nat × Nat)) (s : State) (hMk : 0x50702084000000000000000000020d100004a0000000008000040011d47c00c17c0000000000000000000000000000000000002000000000000000000000000000000000000000000000000000000000000000001c670009e0800000000800000000000000000000000000000000000000000000000000000000000000000000003001800000000000000000000000000000000000000000000000000000000000000000020000000000000000001000000000000000000000000000000000000000000000000000000000000000000000000080 ||| mk = mk) (hIn : Keeps mk sIn s) : Keeps mk sIn (txnOk nix x accepted s) := by
  refine Keeps.step hMk ?_ hIn
  unfold txnOk
  try dsimp only
  repeat' first
    | with_reducible refine Keeps.ite ?_ ?_
    | with_reducible exact Keeps.refl
    | with_reducible assumption
    | ((with_reducible apply Keeps.inc); (case d => rfl); (case e => rfl))
    | ((with_reducible apply Keeps.took); (case e => rfl))
    | ((with_reducible apply modSrc_keeps); (case hMk => rfl))
    | ((with_reducible apply p6Over_keeps); (case hMk => rfl))
    | ((with_reducible apply polPut_keeps); (case hMk => rfl))
    | ((with_reducible apply propose_keeps); (case hMk => rfl))
    | ((with_reducible apply stage_keeps); (case hMk => rfl))
    | ((with_reducible apply txnCmd_keeps); (case hMk => rfl))
    | ((with_reducible apply txnCommit_keeps); (case hMk => rfl))
    | intro _
    | split
    | dsimp only
    | (refine Keeps.snd ?_ (by with_reducible assumption))

theorem execP6Response_keeps (nix : Fin 262144) (seq : Nat) (code : Nat) (accepted : List (Nat × Nat)) (t : Nat) (s : State) : KeepsR 0xd07060a5000000000000000000020d100004a0000000008000040011d47c00c17c0000000000000000000000000000000000002000000000000000000000000000000000000000000000000000000000000000001c670009e0800000000800000000000000000000000000000000000000000000000000000000000000003c0000330381000000000000000000000000000000000000000000000000000018001000003e06ff80000000000000103000000000000000000000000000000000000000000000000000000000000000000000000080 s (execP6Response nix seq code accepted t s) := by
  unfold execP6Response
  try dsimp only
  repeat' first
    | (with_reducible refine KeepsR.next ?_)
    | (with_reducible refine KeepsR.ite ?_ ?_)
    | with_reducible refine Keeps.ite ?_ ?_
    | with_reducible exact Keeps.refl
    | with_reducible assumption
    | ((with_reducible apply Keeps.inc); (case d => rfl); (case e => rfl))
    | ((with_reducible apply Keeps.at); (case e => rfl); (case e2 => rfl))
    | ((with_reducible apply firmwareTurn_keeps); (case hMk => rfl))
    | ((with_reducible apply modSrc_keeps); (case hMk => rfl))
    | ((with_reducible apply p6Abandon_keeps); (case hMk => rfl))
    | ((with_reducible apply p6Complete_keeps); (case hMk => rfl))
    | ((with_reducible apply p6Fail_keeps); (case hMk => rfl))
    | ((with_reducible apply p6Take_keeps); (case hMk => rfl))
    | ((with_reducible apply txnFail_keeps); (case hMk => rfl))
    | ((with_reducible apply txnOk_keeps); (case hMk => rfl))
    | intro _
    | split
    | dsimp only
    | (refine Keeps.snd ?_ (by with_reducible assumption))

theorem execP6TransactionTimeout_keeps (nix : Fin 262144) (t : Nat) (s : State) : KeepsR 0xd07060a5000000000000000000020d100004a0000000008000040011d47c00c17c0000000000000000000000000000000000002000000000000000000000000000000000000000000000000000000000000000001c670009e0800000000800000000000000000000000000000000000000000000000000000000000000003c0000330381000000000000000000000000000000000000000000000000000018001000003e08ff80000000000000503000000000000000000000000000000000000000000000000000000000000000000000000080 s (execP6TransactionTimeout nix t s) := by
  unfold execP6TransactionTimeout
  try dsimp only
  repeat' first
    | (with_reducible refine KeepsR.next ?_)
    | (with_reducible refine KeepsR.ite ?_ ?_)
    | with_reducible refine Keeps.ite ?_ ?_
    | with_reducible exact Keeps.refl
    | with_reducible assumption
    | ((with_reducible apply Keeps.inc); (case d => rfl); (case e => rfl))
    | ((with_reducible apply Keeps.at); (case e => rfl); (case e2 => rfl))
    | ((with_reducible apply firmwareTurn_keeps); (case hMk => rfl))
    | ((with_reducible apply p6Abandon_keeps); (case hMk => rfl))
    | ((with_reducible apply p6Fail_keeps); (case hMk => rfl))
    | ((with_reducible apply raiseNode_keeps); (case d => rfl); (case hMk => rfl); (case hMk2 => rfl))
    | ((with_reducible apply txnFail_keeps); (case hMk => rfl))
    | intro _
    | split
    | dsimp only
    | (refine Keeps.snd ?_ (by with_reducible assumption))

end Sys2Proof.Machine
end

