-- ==== Sys2Proof/Laws/KeepsPick.lean ====
section
/-!
SUPPORT. What each operation and each meaning changes: the pick, the tick and link security. The mask of each law names the register fields and the parts of the
state, as `Only` reads it.
-/

set_option simprocs false
set_option linter.all false

namespace Sys2Proof.Machine

theorem dropOversize_keeps {mk : Nat} {sIn : State} (nix : Nat) (plan : Nat) (lane : Nat) (k : Nat) (s : State) (hMk : 0x40402000000000000000000000000000000000000000000000000000000000000000000000000000000000000000000000000000000000000000000000000000000000000000000000000000000000000000000000000000000000000000000000000000000000000000000000000000000000000000000000000000003000001200800000000000000000000000000000000000000000000000000000000000000000000000000000000000000000000008008000000000000000001000000000000000000000000000000000000000000000 ||| mk = mk) (hIn : Keeps mk sIn s) : Keeps mk sIn (dropOversize nix plan lane k s) := by
  refine Keeps.step hMk ?_ hIn
  have key : ∀ (k : Nat) (s s0 : State), Keeps 0x40402000000000000000000000000000000000000000000000000000000000000000000000000000000000000000000000000000000000000000000000000000000000000000000000000000000000000000000000000000000000000000000000000000000000000000000000000000000000000000000000000000003000001200800000000000000000000000000000000000000000000000000000000000000000000000000000000000000000000008008000000000000000001000000000000000000000000000000000000000000000 s0 s → Keeps 0x40402000000000000000000000000000000000000000000000000000000000000000000000000000000000000000000000000000000000000000000000000000000000000000000000000000000000000000000000000000000000000000000000000000000000000000000000000000000000000000000000000000003000001200800000000000000000000000000000000000000000000000000000000000000000000000000000000000000000000008008000000000000000001000000000000000000000000000000000000000000000 s0 (dropOversize nix plan lane k s) := by
    intro k
    induction k with
    | zero => intro s s0 h; unfold dropOversize; exact h
    | succ k ih =>
     intro s s0 h
     unfold dropOversize
     try dsimp only
     repeat' first
      | with_reducible refine Keeps.ite ?_ ?_
      | (with_reducible apply ih)
      | with_reducible exact Keeps.refl
      | with_reducible assumption
      | ((with_reducible apply Keeps.inc); (case d => rfl); (case e => rfl))
      | ((with_reducible apply frameWhey_keeps); (case hMk => rfl))
      | ((with_reducible apply macTrace_keeps); (case hMk => rfl))
      | ((with_reducible apply setNodeQ_keeps); (case hMk => rfl))
      | split
      | (refine Keeps.snd ?_ (by with_reducible assumption))
      | intro _
      | dsimp only
  exact key k s s Keeps.refl

theorem dropHoldExp_keeps {mk : Nat} {sIn : State} (nix : Nat) (k : Nat) (s : State) (hMk : 0x40402000000000000000000000000000000000000000000000000000000000000000000000000000000000000000000000000000000000000000000000000000000000000000000000000000000000000000000000000000000000000000000000000000000000000000000000000000000000000000000000000000003000001200800000000000000000000000000000000000000000000000000000000000000000000000000000000000000000000000000000000000000000000000000000000000000000000000000000000000000000 ||| mk = mk) (hIn : Keeps mk sIn s) : Keeps mk sIn (dropHoldExp nix k s) := by
  refine Keeps.step hMk ?_ hIn
  have key : ∀ (k : Nat) (s s0 : State), Keeps 0x40402000000000000000000000000000000000000000000000000000000000000000000000000000000000000000000000000000000000000000000000000000000000000000000000000000000000000000000000000000000000000000000000000000000000000000000000000000000000000000000000000000003000001200800000000000000000000000000000000000000000000000000000000000000000000000000000000000000000000000000000000000000000000000000000000000000000000000000000000000000000 s0 s → Keeps 0x40402000000000000000000000000000000000000000000000000000000000000000000000000000000000000000000000000000000000000000000000000000000000000000000000000000000000000000000000000000000000000000000000000000000000000000000000000000000000000000000000000000003000001200800000000000000000000000000000000000000000000000000000000000000000000000000000000000000000000000000000000000000000000000000000000000000000000000000000000000000000 s0 (dropHoldExp nix k s) := by
    intro k
    induction k with
    | zero => intro s s0 h; unfold dropHoldExp; exact h
    | succ k ih =>
     intro s s0 h
     unfold dropHoldExp
     try dsimp only
     repeat' first
      | with_reducible refine Keeps.ite ?_ ?_
      | (with_reducible apply ih)
      | with_reducible exact Keeps.refl
      | with_reducible assumption
      | ((with_reducible apply frameWhey_keeps); (case hMk => rfl))
      | ((with_reducible apply setNodeQ_keeps); (case hMk => rfl))
      | split
      | (refine Keeps.snd ?_ (by with_reducible assumption))
      | intro _
      | dsimp only
  exact key k s s Keeps.refl

theorem cleanHead_keeps {mk : Nat} {sIn : State} (nix : Nat) (plan : Nat) (lane : Nat) (s : State) (hMk : 0x5050602000000000000000000000000000000000000000000000000000000000000000000000000000000000000000000000002000000000000000000000000000000000000000000000000000000000000000001867000180800000000800000000000000000000000000000000000000000000000000000000000000003000001200820000000000000000000000000000000000000000000000000000000000000000000e00000000000000001000000008008000000000000000001000000000000000000000000000000000000000000000 ||| mk = mk) (hIn : Keeps mk sIn s) : Keeps mk sIn (cleanHead nix plan lane s) := by
  refine Keeps.step hMk ?_ hIn
  unfold cleanHead
  try dsimp only
  repeat' first
    | with_reducible refine Keeps.ite ?_ ?_
    | with_reducible exact Keeps.refl
    | with_reducible assumption
    | (with_reducible refine Keeps.each _ _ ?_ ?_)
    | ((with_reducible apply ageQueue_keeps); (case hMk => rfl))
    | ((with_reducible apply dropHoldExp_keeps); (case hMk => rfl))
    | ((with_reducible apply dropOversize_keeps); (case hMk => rfl))
    | ((with_reducible apply p6Dropped_keeps); (case hMk => rfl))
    | intro _
    | split
    | dsimp only
    | (refine Keeps.snd ?_ (by with_reducible assumption))

theorem pickTx_keeps {mk : Nat} {sIn : State} (nix : Nat) (plan : Nat) (lane : Nat) (s : State) (hMk : 0x5071e0a4000000000000000000020d100004a0000000008000040011d47c00c17c00000000000000000000000000000000000020000000000000000000000000000000000000000000000000000000000000000018670001808000000008000000000000000000000000000000000000000000000000000000000000000030000032c1820000000000000000000000000000000000010000002000000000800000000000000e00000000000000001000000008008000000000000000001000000000000000000000000000000000000000000080 ||| mk = mk) (hIn : Keeps mk sIn s) : Keeps mk sIn (pickTx nix plan lane s).2 := by
  refine Keeps.step hMk ?_ hIn
  unfold pickTx
  try dsimp only
  repeat' first
    | with_reducible refine Keeps.ite ?_ ?_
    | with_reducible exact Keeps.refl
    | with_reducible assumption
    | ((with_reducible apply Keeps.inc); (case d => rfl); (case e => rfl))
    | ((with_reducible apply cleanHead_keeps); (case hMk => rfl))
    | ((with_reducible apply waitNode_keeps); (case hMk => rfl))
    | intro _
    | split
    | dsimp only
    | (refine Keeps.snd ?_ (by with_reducible assumption))

theorem nextReady_keeps {mk : Nat} {sIn : State} (c : Nat) (plan : Nat) (lane : Nat) (k : List Nat) (s : State) (hMk : 0x5071e0a4000000000000000000020d100004a0000000008000040011d47c00c17c0000000000000000000000000000000000002000000000000000000000000000000000000000000000000000000000000000001867000180800000000800000000000000000000000000000000000000000000000000000000000000003000003201820000000000000000000000000000000000010000002000000000800000000000000e00000000000000001000000008008000000000000000001000000000000000000000000000000000000000000080 ||| mk = mk) (hIn : Keeps mk sIn s) : Keeps mk sIn (nextReady c plan lane k s).2 := by
  refine Keeps.step hMk ?_ hIn
  have key : ∀ (k : List Nat) (s s0 : State), Keeps 0x5071e0a4000000000000000000020d100004a0000000008000040011d47c00c17c0000000000000000000000000000000000002000000000000000000000000000000000000000000000000000000000000000001867000180800000000800000000000000000000000000000000000000000000000000000000000000003000003201820000000000000000000000000000000000010000002000000000800000000000000e00000000000000001000000008008000000000000000001000000000000000000000000000000000000000000080 s0 s → Keeps 0x5071e0a4000000000000000000020d100004a0000000008000040011d47c00c17c0000000000000000000000000000000000002000000000000000000000000000000000000000000000000000000000000000001867000180800000000800000000000000000000000000000000000000000000000000000000000000003000003201820000000000000000000000000000000000010000002000000000800000000000000e00000000000000001000000008008000000000000000001000000000000000000000000000000000000000000080 s0 (nextReady c plan lane k s).2 := by
    intro k
    induction k with
    | nil => intro s s0 h; unfold nextReady; exact h
    | cons a l ih =>
     intro s s0 h
     unfold nextReady
     try dsimp only
     repeat' first
      | with_reducible refine Keeps.ite ?_ ?_
      | (with_reducible apply ih)
      | with_reducible exact Keeps.refl
      | with_reducible assumption
      | ((with_reducible apply cleanHead_keeps); (case hMk => rfl))
      | ((with_reducible apply waitNode_keeps); (case hMk => rfl))
      | (refine Keeps.snd (p := nextReady c plan lane _ _) ?_ (by with_reducible assumption))
      | split
      | (refine Keeps.snd ?_ (by with_reducible assumption))
      | intro _
      | dsimp only
  exact key k s s Keeps.refl

theorem pickShared_keeps {mk : Nat} {sIn : State} (w : Nat) (plan : Nat) (lane : Nat) (k : List Nat) (s : State) (hMk : 0x5071e0a4000000000000000000020d100004a0000000008000040011d47c00c17c0000000000000000000000000000000000002000000000000000000000000000000000000000000000000000000000000000001867000180800000000800000000000000000000000000000000000000000000000000000000000000007000003201820000000000000000000000000000000000010000002000000000800000000000000e00000000000000001000000008008000000000000000001000000000000000000000000000000000000000000080 ||| mk = mk) (hIn : Keeps mk sIn s) : Keeps mk sIn (pickShared w plan lane k s).2 := by
  refine Keeps.step hMk ?_ hIn
  have key : ∀ (k : List Nat) (s s0 : State), Keeps 0x5071e0a4000000000000000000020d100004a0000000008000040011d47c00c17c0000000000000000000000000000000000002000000000000000000000000000000000000000000000000000000000000000001867000180800000000800000000000000000000000000000000000000000000000000000000000000007000003201820000000000000000000000000000000000010000002000000000800000000000000e00000000000000001000000008008000000000000000001000000000000000000000000000000000000000000080 s0 s → Keeps 0x5071e0a4000000000000000000020d100004a0000000008000040011d47c00c17c0000000000000000000000000000000000002000000000000000000000000000000000000000000000000000000000000000001867000180800000000800000000000000000000000000000000000000000000000000000000000000007000003201820000000000000000000000000000000000010000002000000000800000000000000e00000000000000001000000008008000000000000000001000000000000000000000000000000000000000000080 s0 (pickShared w plan lane k s).2 := by
    intro k
    induction k with
    | nil => intro s s0 h; unfold pickShared; exact h
    | cons a l ih =>
     intro s s0 h
     unfold pickShared
     try dsimp only
     repeat' first
      | with_reducible refine Keeps.ite ?_ ?_
      | (with_reducible apply ih)
      | with_reducible exact Keeps.refl
      | with_reducible assumption
      | ((with_reducible apply ageClass_keeps); (case hMk => rfl))
      | (refine Keeps.snd (p := nextReady _ _ _ _ _) ?_ (by with_reducible assumption))
      | ((with_reducible apply nextReady_keeps); (case hMk => rfl))
      | ((with_reducible apply waitGroup_keeps); (case hMk => rfl))
      | (refine Keeps.snd (p := pickShared w plan lane _ _) ?_ (by with_reducible assumption))
      | split
      | (refine Keeps.snd ?_ (by with_reducible assumption))
      | ((with_reducible apply Keeps.set_qms); (case e => rfl))
      | ((with_reducible apply Keeps.set_qms); (case e => rfl))
      | intro _
      | dsimp only
  exact key k s s Keeps.refl

theorem backoffTick_keeps {mk : Nat} {sIn : State} (w : Nat) (s : State) (hMk : 0x400000000000000000000000000000000000000000000000000000000000000000000000000000000000000000000000000000000000000000000000000000000000000000000000000000000000000000000000000000000000000000000000000000000000000000000000000000000000000000000000000000000000000000000000000000000000000000000000000000000000000000000000000000000000000000000000000000000000000000000000000000000000000000000000000000000000000000000000000000000000 ||| mk = mk) (hIn : Keeps mk sIn s) : Keeps mk sIn (backoffTick w s) := by
  refine Keeps.step hMk ?_ hIn
  unfold backoffTick
  try dsimp only
  repeat' first
    | with_reducible refine Keeps.ite ?_ ?_
    | with_reducible exact Keeps.refl
    | with_reducible assumption
    | intro _
    | split
    | dsimp only
    | (refine Keeps.snd ?_ (by with_reducible assumption))
    | ((with_reducible apply Keeps.set_qms); (case e => rfl))

theorem encryptUnicast_keeps {mk : Nat} {sIn : State} (nix : Nat) (f : QFrame) (s : State) (hMk : 0x5071c0a4000000000000000000020d100004a0000000008000040011d47c00c17c000000000000000000000000000000000000200000000000000000000000000000000000000000000000000000000000000000186700018080000000080000000000000000000000000000000000000000000000000000000000000000000000300180000000000000000000000000000c00003c02000c202000000034800000000000000000000000000000000000000000000000000000000000000000000000000000000000000000000000000000000080 ||| mk = mk) (hIn : Keeps mk sIn s) : Keeps mk sIn (encryptUnicast nix f s).2 := by
  refine Keeps.step hMk ?_ hIn
  unfold encryptUnicast
  try dsimp only
  repeat' first
    | with_reducible refine Keeps.ite ?_ ?_
    | with_reducible exact Keeps.refl
    | with_reducible assumption
    | (refine Keeps.snd (p := fcTake _ _) ?_ (by with_reducible assumption))
    | ((with_reducible apply fcTake_keeps); (case hMk => rfl))
    | ((with_reducible apply kcLookup_keeps); (case hMk => rfl))
    | ((with_reducible apply nodeQChange_keeps); (case hMk => rfl))
    | intro _
    | split
    | dsimp only
    | (refine Keeps.snd ?_ (by with_reducible assumption))

theorem encryptBcast_keeps {mk : Nat} {sIn : State} (w : Nat) (f : QFrame) (s : State) (hMk : 0x5071c084000000000000000000020d100004a0000000008000040011d47c00c17c000000000000000000000000000000000000200000000000000000000000000000000000000000000000000000000000000000186700018080000000080000000000000000000000000000000000000000000000000000000000000000000000300180000000000000000000000000000100003c000000002000000034800000000000000000000000000000000000000000000000000000000000000000000000000000000000000000000000000000000080 ||| mk = mk) (hIn : Keeps mk sIn s) : Keeps mk sIn (encryptBcast w f s).2 := by
  refine Keeps.step hMk ?_ hIn
  unfold encryptBcast
  try dsimp only
  repeat' first
    | with_reducible refine Keeps.ite ?_ ?_
    | with_reducible exact Keeps.refl
    | with_reducible assumption
    | ((with_reducible apply bcastChange_keeps); (case hMk => rfl))
    | (refine Keeps.snd (p := groupTake _ _) ?_ (by with_reducible assumption))
    | ((with_reducible apply groupTake_keeps); (case hMk => rfl))
    | intro _
    | split
    | dsimp only
    | (refine Keeps.snd ?_ (by with_reducible assumption))

theorem itemPrepare_keeps {mk : Nat} {sIn : State} (lane : Nat) (it : TxItem) (s : State) (hMk : 0x100000000000000000000000000000000000000000000000000000000000000000000000000000000000000000000000000000000000000000000000000000000000000000000000000000000000000000000000000000000000000000000000000000000000000000000000000000000000000000000000000000000000000000000000000000000000000000000000000000000000000000000000000000000000000000000000000000000000000000000000000000000000000000000000000000000000000000000000000000000000 ||| mk = mk) (hIn : Keeps mk sIn s) : Keeps mk sIn (itemPrepare lane it s) := by
  refine Keeps.step hMk ?_ hIn
  unfold itemPrepare
  try dsimp only
  repeat' first
    | with_reducible refine Keeps.ite ?_ ?_
    | with_reducible exact Keeps.refl
    | with_reducible assumption
    | ((with_reducible apply modLane_keeps); (case hMk => rfl))
    | intro _
    | split
    | dsimp only
    | (refine Keeps.snd ?_ (by with_reducible assumption))

theorem itemEncrypt_keeps {mk : Nat} {sIn : State} (lane : Nat) (it : TxItem) (s : State) (hMk : 0x900000000000000000000000000000000000000000000000000000000000000000000000000000000000000000000000000000000000000000000000000000000000000000000000000000000000000000000000000000000000000000000000000000000000000000000000000000000000000000000000000000000000000000000000000000000000000000000000000000408001400000000000000000000000000000000000000000000000000000000000000000000000000000000000000000000000000000000000000000000000 ||| mk = mk) (hIn : Keeps mk sIn s) : Keeps mk sIn (itemEncrypt lane it s) := by
  refine Keeps.step hMk ?_ hIn
  unfold itemEncrypt
  try dsimp only
  repeat' first
    | with_reducible refine Keeps.ite ?_ ?_
    | with_reducible exact Keeps.refl
    | with_reducible assumption
    | ((with_reducible apply Keeps.inc); (case d => rfl); (case e => rfl))
    | ((with_reducible apply engNonce_keeps); (case hMk => rfl))
    | ((with_reducible apply engineTake_keeps); (case hMk => rfl))
    | ((with_reducible apply itemPrepare_keeps); (case hMk => rfl))
    | intro _
    | split
    | dsimp only
    | (refine Keeps.snd ?_ (by with_reducible assumption))

theorem itemGo_keeps {mk : Nat} {sIn : State} (lane : Nat) (fresh : Bool) (it : TxItem) (s : State) (hMk : 0x900000000000000000000000000000000000000000000000000000000000000000000000000000000000000000000000000000000000000000000000000000000000000000000000000000000000000000000000000000000000000000000000000000000000000000000000000000000000000000000000000000000000000000000000000000000000000000000000000000408001400000000000000000000000000000000000000000000000000000000000000000000000000000000000000000000000000000000000000000000000 ||| mk = mk) (hIn : Keeps mk sIn s) : Keeps mk sIn (itemGo lane fresh it s) := by
  refine Keeps.step hMk ?_ hIn
  unfold itemGo
  try dsimp only
  repeat' first
    | with_reducible refine Keeps.ite ?_ ?_
    | with_reducible exact Keeps.refl
    | with_reducible assumption
    | ((with_reducible apply itemEncrypt_keeps); (case hMk => rfl))
    | ((with_reducible apply itemPrepare_keeps); (case hMk => rfl))
    | intro _
    | split
    | dsimp only
    | (refine Keeps.snd ?_ (by with_reducible assumption))

theorem noFrame_keeps {mk : Nat} {sIn : State} (lane : Nat) (x : Span) (s : State) (hMk : 0x100000000000000000000000000000000000000000000000000000000000000000000000000000000000000000000000000000000000000000000000000000000000000000000000000000000000000000000000000000000000000000000000000000000000000000000000000000000000000000000000000000000000000000000000000000000000000000000000000000000000000000000000000000000000000000000000000000000000000000000000000000000000000000000000000000000000000000000000000000000000 ||| mk = mk) (hIn : Keeps mk sIn s) : Keeps mk sIn (noFrame lane x s) := by
  refine Keeps.step hMk ?_ hIn
  unfold noFrame
  try dsimp only
  repeat' first
    | with_reducible refine Keeps.ite ?_ ?_
    | with_reducible exact Keeps.refl
    | with_reducible assumption
    | ((with_reducible apply itemPrepare_keeps); (case hMk => rfl))
    | intro _
    | split
    | dsimp only
    | (refine Keeps.snd ?_ (by with_reducible assumption))

theorem pickPoison_keeps {mk : Nat} {sIn : State} (lane : Nat) (x : Span) (nix : Nat) (word : Nat) (m : Nat) (s : State) (hMk : 0x507070a0000000000000000000020000000020000000000000000011547c00c17c0000000000000000000000000000000000002000000000000000000000000000000000000000000000000000000000000000001867000180800000000800000000000000000000000000000000000000000000000000000000000000003000001200800000000000000000000000000000000000000000000000000000000000000000000e00000000000000001000000000000000000000000000000000000000000000000000000000000000000000000080 ||| mk = mk) (hIn : Keeps mk sIn s) : Keeps mk sIn (pickPoison lane x nix word m s) := by
  refine Keeps.step hMk ?_ hIn
  unfold pickPoison
  try dsimp only
  repeat' first
    | with_reducible refine Keeps.ite ?_ ?_
    | with_reducible exact Keeps.refl
    | with_reducible assumption
    | ((with_reducible apply fenceNode_keeps); (case hMk => rfl))
    | ((with_reducible apply frameWhey_keeps); (case hMk => rfl))
    | ((with_reducible apply noFrame_keeps); (case hMk => rfl))
    | ((with_reducible apply p6Dropped_keeps); (case hMk => rfl))
    | ((with_reducible apply setNodeQ_keeps); (case hMk => rfl))
    | intro _
    | split
    | dsimp only
    | (refine Keeps.snd ?_ (by with_reducible assumption))

theorem pickUnicast_keeps {mk : Nat} {sIn : State} (lane : Nat) (x : Span) (nix : Nat) (f : QFrame) (s : State) (hMk : 0x5071f0a4000000000000000000020d100004a0000000008000040011d47c00c17c000000000000000000000000000000000000200000000000000000000000000000000000000040000000000000000000000000186700018080000000080000000000000000000000000000000000000000000000000000000000000000300000320580000000000000000000000000000c00003c42800d602000000034800000000000000e00000000000000001000000000000000000000000000000000000000000000000000000000000000000000000080 ||| mk = mk) (hIn : Keeps mk sIn s) : Keeps mk sIn (pickUnicast lane x nix f s) := by
  refine Keeps.step hMk ?_ hIn
  unfold pickUnicast
  try dsimp only
  repeat' first
    | with_reducible refine Keeps.ite ?_ ?_
    | with_reducible exact Keeps.refl
    | with_reducible assumption
    | ((with_reducible apply Keeps.inc); (case d => rfl); (case e => rfl))
    | (refine Keeps.snd (p := encryptUnicast _ _ _) ?_ (by with_reducible assumption))
    | ((with_reducible apply encryptUnicast_keeps); (case hMk => rfl))
    | (refine Keeps.snd (p := fcTake _ _) ?_ (by with_reducible assumption))
    | ((with_reducible apply fcTake_keeps); (case hMk => rfl))
    | ((with_reducible apply itemGo_keeps); (case hMk => rfl))
    | ((with_reducible apply kcLookup_keeps); (case hMk => rfl))
    | ((with_reducible apply noFrame_keeps); (case hMk => rfl))
    | ((with_reducible apply pickPoison_keeps); (case hMk => rfl))
    | intro _
    | split
    | dsimp only
    | (refine Keeps.snd ?_ (by with_reducible assumption))

theorem pickAnnounce_keeps {mk : Nat} {sIn : State} (lane : Nat) (c : Nat) (w : Nat) (x : Span) (s : State) (hMk : 0x50759084000000000000000000020d100004a0000000008000040011d47c00c17c000000000000000000000000000000000000200000000000000000000000000000000000000000000000000000000200818000186700018080000000080000000000000000000000000000000000000000000000000000000000000000200000320180000000000000000000000000000100003c418001402000000034800000000000000000000000000000000000000000000000000000000000000000000000000000000000000000000000000000000080 ||| mk = mk) (hIn : Keeps mk sIn s) : Keeps mk sIn (pickAnnounce lane c w x s) := by
  refine Keeps.step hMk ?_ hIn
  unfold pickAnnounce
  try dsimp only
  repeat' first
    | with_reducible refine Keeps.ite ?_ ?_
    | with_reducible exact Keeps.refl
    | with_reducible assumption
    | ((with_reducible apply Keeps.inc); (case d => rfl); (case e => rfl))
    | ((with_reducible apply Keeps.whey); (case e => rfl); (case e2 => rfl))
    | (refine Keeps.snd (p := groupTake _ _) ?_ (by with_reducible assumption))
    | ((with_reducible apply groupTake_keeps); (case hMk => rfl))
    | ((with_reducible apply itemEncrypt_keeps); (case hMk => rfl))
    | ((with_reducible apply modCamp_keeps); (case hMk => rfl))
    | ((with_reducible apply noFrame_keeps); (case hMk => rfl))
    | ((with_reducible apply waitGroup_keeps); (case hMk => rfl))
    | intro _
    | split
    | dsimp only
    | (refine Keeps.snd ?_ (by with_reducible assumption))

theorem symbolEnc_keeps {mk : Nat} {sIn : State} (c : Nat) (n : Nat) (g : Nat) (y : Symbol) (s : State) (hMk : 0x4000000000000000000000000000000000000000000000000000000000000000000000000000000000000000000000000000000000000000000000000000000000000000000000000000000000000000180000000000000000000000000000000000000000000000000000000000000000000000000000000000000000000000000000000000000000000000000000000000000000000000000000000000000000000000000000000000000000000000000000000000000000000000000000000000000000000000000000000000000000000 ||| mk = mk) (hIn : Keeps mk sIn s) : Keeps mk sIn (symbolEnc c n g y s) := by
  refine Keeps.step hMk ?_ hIn
  unfold symbolEnc
  try dsimp only
  repeat' first
    | with_reducible refine Keeps.ite ?_ ?_
    | with_reducible exact Keeps.refl
    | with_reducible assumption
    | ((with_reducible apply modCamp_keeps); (case hMk => rfl))
    | intro _
    | split
    | dsimp only
    | (refine Keeps.snd ?_ (by with_reducible assumption))

theorem pickSymbol_keeps {mk : Nat} {sIn : State} (lane : Nat) (c : Nat) (w : Nat) (x : Span) (shared : Bool) (s : State) (hMk : 0x50759084000000000000000000020d100004a0000000008000040011d47c00c17c000000000000000000000000000000000000200000000000000000000000000000000000000000000000000000082801e1a00b986700018080000000080000000000000000000000000000000000000000000000000000000000000000200000320180000000000000000000000000000100003c418001402000000034800000000000000000000000000000000000000000000000000000000000000000000000000000000000000000000000000000000080 ||| mk = mk) (hIn : Keeps mk sIn s) : Keeps mk sIn (pickSymbol lane c w x shared s) := by
  refine Keeps.step hMk ?_ hIn
  unfold pickSymbol
  try dsimp only
  repeat' first
    | with_reducible refine Keeps.ite ?_ ?_
    | with_reducible exact Keeps.refl
    | with_reducible assumption
    | ((with_reducible apply Keeps.inc); (case d => rfl); (case e => rfl))
    | (with_reducible refine Keeps.when _ _ ?_ ?_)
    | ((with_reducible apply Keeps.whey); (case e => rfl); (case e2 => rfl))
    | ((with_reducible apply campPop_keeps); (case hMk => rfl))
    | ((with_reducible apply campTake_keeps); (case hMk => rfl))
    | (refine Keeps.snd (p := groupTake _ _) ?_ (by with_reducible assumption))
    | ((with_reducible apply groupTake_keeps); (case hMk => rfl))
    | ((with_reducible apply itemGo_keeps); (case hMk => rfl))
    | ((with_reducible apply modCamp_keeps); (case hMk => rfl))
    | ((with_reducible apply noFrame_keeps); (case hMk => rfl))
    | ((with_reducible apply raiseWard_keeps); (case d => rfl); (case hMk => rfl); (case hMk2 => rfl))
    | ((with_reducible apply symbolEnc_keeps); (case hMk => rfl))
    | ((with_reducible apply waitGroup_keeps); (case hMk => rfl))
    | intro _
    | split
    | dsimp only
    | (refine Keeps.snd ?_ (by with_reducible assumption))

theorem pickUpdate_keeps {mk : Nat} {sIn : State} (lane : Nat) (w : Nat) (x : Span) (s : State) (hMk : 0x50759084000000000000000000020d100004a0000000008000040011d47c00c17c000000000000000000000000000000000000200000000000000000000000000000000000000000000000000000082a01e1a00b986700018080000000080000000000000000000000000000000000000000000000000000000000000000200000320180000000000000000000000000000100003c418001402000000034800000000000000000000000000000000000000000000000000000000000000000000000000000000000000000000000000000000080 ||| mk = mk) (hIn : Keeps mk sIn s) : Keeps mk sIn (pickUpdate lane w x s) := by
  refine Keeps.step hMk ?_ hIn
  unfold pickUpdate
  try dsimp only
  repeat' first
    | with_reducible refine Keeps.ite ?_ ?_
    | with_reducible exact Keeps.refl
    | with_reducible assumption
    | ((with_reducible apply noFrame_keeps); (case hMk => rfl))
    | ((with_reducible apply pickAnnounce_keeps); (case hMk => rfl))
    | ((with_reducible apply pickSymbol_keeps); (case hMk => rfl))
    | intro _
    | split
    | dsimp only
    | (refine Keeps.snd ?_ (by with_reducible assumption))

theorem pickBeacon_keeps {mk : Nat} {sIn : State} (lane : Nat) (w : Nat) (x : Span) (s : State) (hMk : 0x5010900400000000000000000000000000000000000000000000000000000000000000000000000000000000000000000000002000000000000000000000000000000000000000000000000000000000000000001867000180800000000800000000000000000000000000000000000000000000000000000000000000002000003301810000000000000000000000000000000000408001400000000000000000000000000000000000000000000000000000000000000000000000000000000000000000000000000000000000000000000000 ||| mk = mk) (hIn : Keeps mk sIn s) : Keeps mk sIn (pickBeacon lane w x s) := by
  refine Keeps.step hMk ?_ hIn
  unfold pickBeacon
  try dsimp only
  repeat' first
    | with_reducible refine Keeps.ite ?_ ?_
    | with_reducible exact Keeps.refl
    | with_reducible assumption
    | ((with_reducible apply Keeps.whey); (case e => rfl); (case e2 => rfl))
    | ((with_reducible apply itemGo_keeps); (case hMk => rfl))
    | ((with_reducible apply noFrame_keeps); (case hMk => rfl))
    | (refine Keeps.snd (p := poolTake _ _ _) ?_ (by with_reducible assumption))
    | ((with_reducible apply poolTake_keeps); (case hMk => rfl))
    | intro _
    | split
    | dsimp only
    | (refine Keeps.snd ?_ (by with_reducible assumption))

theorem spanPicked_keeps {mk : Nat} {sIn : State} (n : Nat) (idx : Nat) (s : State) (hMk : 0x100000000000000000000000000000000000000000000000000000000000000000000000000000000000000000000000000000000000000000000000000000000000000000000000000000000000000000000000000000000000000000000000000000000000000000000000000000000000000000000000000000000000000000000000000000000000000000000000000000000000000000000000000000000000000000000000000000000000000000000000000000000000000000000000000000000000000000000000000000000000 ||| mk = mk) (hIn : Keeps mk sIn s) : Keeps mk sIn (spanPicked n idx s) := by
  refine Keeps.step hMk ?_ hIn
  unfold spanPicked
  try dsimp only
  repeat' first
    | with_reducible refine Keeps.ite ?_ ?_
    | with_reducible exact Keeps.refl
    | with_reducible assumption
    | ((with_reducible apply modLane_keeps); (case hMk => rfl))
    | intro _
    | split
    | dsimp only
    | (refine Keeps.snd ?_ (by with_reducible assumption))

theorem pickInShared_keeps {mk : Nat} {sIn : State} (n : Nat) (w : Nat) (x : Span) (poisoned : Option (Fin 16)) (s : State) (hMk : 0x5075f0a4000000000000000000020d100004a0000000008000040011d47c00c17c000000000000000000000000000000000000200000000000000000000000000000000000000040000000000000082801e1a00b986700018080000000080000000000000000000000000000000000000000000000000000000000000000700000323582000000000000000000000000000d00003c43800d602000000034800000000000000e00000000000000001000000008008000000000000000001000000000000000000000000000000000000000000080 ||| mk = mk) (hIn : Keeps mk sIn s) : Keeps mk sIn (pickInShared n w x poisoned s) := by
  refine Keeps.step hMk ?_ hIn
  unfold pickInShared
  try dsimp only
  repeat' first
    | with_reducible refine Keeps.ite ?_ ?_
    | with_reducible exact Keeps.refl
    | with_reducible assumption
    | ((with_reducible apply Keeps.inc); (case d => rfl); (case e => rfl))
    | ((with_reducible apply backoffTick_keeps); (case hMk => rfl))
    | (refine Keeps.snd (p := encryptBcast _ _ _) ?_ (by with_reducible assumption))
    | ((with_reducible apply encryptBcast_keeps); (case hMk => rfl))
    | ((with_reducible apply itemGo_keeps); (case hMk => rfl))
    | ((with_reducible apply noFrame_keeps); (case hMk => rfl))
    | ((with_reducible apply pickPoison_keeps); (case hMk => rfl))
    | (refine Keeps.snd (p := pickShared _ _ _ _ _) ?_ (by with_reducible assumption))
    | ((with_reducible apply pickShared_keeps); (case hMk => rfl))
    | ((with_reducible apply pickSymbol_keeps); (case hMk => rfl))
    | ((with_reducible apply pickUnicast_keeps); (case hMk => rfl))
    | intro _
    | split
    | dsimp only
    | (refine Keeps.snd ?_ (by with_reducible assumption))

theorem execSeracPick_keeps (lane : Fin 4) (idx : Nat) (poisoned : Option (Fin 16)) (corrected : List (Fin 256)) (t : Nat) (s : State) : KeepsR 0xd075f0a5000000000000000000020d100004a0000000008000040011d47c00c17c000000000000000000000000000000000008200000000000000000000000000000000000000040000000000000082a01e1a00b98670001808000000008000000000000000000000000000000000000000000000000000000000000000070000033fd83000000000000000000000000000d00003c43800d602000000034800000000000000e00000000000000001000000008008000000000000000001000000000000000000000000000000000000000000080 s (execSeracPick lane idx poisoned corrected t s) := by
  unfold execSeracPick
  try dsimp only
  repeat' first
    | (with_reducible refine KeepsR.next ?_)
    | (with_reducible refine KeepsR.ite ?_ ?_)
    | with_reducible refine Keeps.ite ?_ ?_
    | with_reducible exact Keeps.refl
    | with_reducible assumption
    | ((with_reducible apply Keeps.inc); (case d => rfl); (case e => rfl))
    | ((with_reducible apply Keeps.at); (case e => rfl); (case e2 => rfl))
    | ((with_reducible apply eccFix_keeps); (case hMk => rfl))
    | ((with_reducible apply noFrame_keeps); (case hMk => rfl))
    | ((with_reducible apply pickBeacon_keeps); (case hMk => rfl))
    | ((with_reducible apply pickInShared_keeps); (case hMk => rfl))
    | ((with_reducible apply pickPoison_keeps); (case hMk => rfl))
    | (refine Keeps.snd (p := pickTx _ _ _ _) ?_ (by with_reducible assumption))
    | ((with_reducible apply pickTx_keeps); (case hMk => rfl))
    | ((with_reducible apply pickUnicast_keeps); (case hMk => rfl))
    | ((with_reducible apply pickUpdate_keeps); (case hMk => rfl))
    | ((with_reducible apply spanPicked_keeps); (case hMk => rfl))
    | intro _
    | split
    | dsimp only
    | (refine Keeps.snd ?_ (by with_reducible assumption))

theorem setAsn_keeps {mk : Nat} {sIn : State} (a : Nat) (s : State) (hMk : 0xc000000000000000000000000000000000000000000000 ||| mk = mk) (hIn : Keeps mk sIn s) : Keeps mk sIn (setAsn a s) := by
  refine Keeps.step hMk ?_ hIn
  unfold setAsn
  try dsimp only
  repeat' first
    | with_reducible refine Keeps.ite ?_ ?_
    | with_reducible exact Keeps.refl
    | with_reducible assumption
    | ((with_reducible apply Keeps.wr); (case d => rfl); (case e => rfl))
    | intro _
    | split
    | dsimp only
    | (refine Keeps.snd ?_ (by with_reducible assumption))

theorem setRun_keeps {mk : Nat} {sIn : State} (b : Bool) (s : State) (hMk : 0x10000000000000010000000000000000000000000000000000000000000000000000000000000000000000000000000000000000000000000000000000000000000000000000000000000000000000000800000000000000000000000000000000000000000000 ||| mk = mk) (hIn : Keeps mk sIn s) : Keeps mk sIn (setRun b s) := by
  refine Keeps.step hMk ?_ hIn
  unfold setRun
  try dsimp only
  repeat' first
    | with_reducible refine Keeps.ite ?_ ?_
    | with_reducible exact Keeps.refl
    | with_reducible assumption
    | ((with_reducible apply Keeps.put); (case d => rfl); (case e => rfl))
    | intro _
    | split
    | dsimp only
    | (refine Keeps.snd ?_ (by with_reducible assumption))

theorem nextView_keeps {mk : Nat} {sIn : State} (s : State) (hMk : 0xc000000000000000000000000000000000000000000000000000000000000000000000000000000000000000000000000000000000000000000000000000000000000000000000000000000000000000000000000000000000000000000000000000000000000 ||| mk = mk) (hIn : Keeps mk sIn s) : Keeps mk sIn (nextView s) := by
  refine Keeps.step hMk ?_ hIn
  unfold nextView
  try dsimp only
  repeat' first
    | with_reducible refine Keeps.ite ?_ ?_
    | with_reducible exact Keeps.refl
    | with_reducible assumption
    | ((with_reducible apply Keeps.wr); (case d => rfl); (case e => rfl))
    | intro _
    | split
    | dsimp only
    | (refine Keeps.snd ?_ (by with_reducible assumption))

theorem execAsnStart_keeps (t : Nat) (s : State) : KeepsR 0x80000801000000000000000000000000000000000000000000000000000000000000000000000000000000000000000000000000000000000000000000000000000000000000000000000000000000000000000000000000000000000000000000000000000000000000000000c0100000000000000000000000000000000000000000000000000000000000000000000000000000000000000000000000000000000000000000000000000000000000000000000000000000000000000000000000000000000000000000000000000000000000 s (execAsnStart t s) := by
  unfold execAsnStart
  try dsimp only
  repeat' first
    | (with_reducible refine KeepsR.next ?_)
    | (with_reducible refine KeepsR.ite ?_ ?_)
    | with_reducible refine Keeps.ite ?_ ?_
    | with_reducible exact Keeps.refl
    | with_reducible assumption
    | ((with_reducible apply Keeps.wr); (case d => rfl); (case e => rfl))
    | ((with_reducible apply Keeps.put); (case d => rfl); (case e => rfl))
    | ((with_reducible apply Keeps.at); (case e => rfl); (case e2 => rfl))
    | ((with_reducible apply modMac_keeps); (case hMk => rfl))
    | intro _
    | split
    | dsimp only
    | (refine Keeps.snd ?_ (by with_reducible assumption))

theorem execAsnStop_keeps (t : Nat) (s : State) : KeepsR 0x8000000100000000000000000000000000000000000000000000000000000000000000000000000000000000000000000000000000000000000000000000000000000000000000000000000000000000000000000000000000000000000000000000000000000000000000000060000000000000000000000000000000000000000000000000000000000000000000000000000000000000000000000000000000000000000000000000000000000000000000000000000000000000000000000000000000000000000000000000000000000000 s (execAsnStop t s) := by
  unfold execAsnStop
  try dsimp only
  repeat' first
    | (with_reducible refine KeepsR.next ?_)
    | (with_reducible refine KeepsR.ite ?_ ?_)
    | with_reducible refine Keeps.ite ?_ ?_
    | with_reducible exact Keeps.refl
    | with_reducible assumption
    | ((with_reducible apply Keeps.put); (case d => rfl); (case e => rfl))
    | ((with_reducible apply Keeps.at); (case e => rfl); (case e2 => rfl))
    | intro _
    | split
    | dsimp only
    | (refine Keeps.snd ?_ (by with_reducible assumption))

theorem hsExchange_keeps {mk : Nat} {sIn : State} (s : State) (hMk : 0x5010080000000000000000000000000000000000000000000000000000000000000000000000000000000000000000000000002000000000000000000000000000000000000000000000000000000000000000001867000180800000000800000000000000000000000000000000000000000000000000000000000000000000000000000000000000000000000000000000000000000000000000000000000000000000000000000000000000000000000000008000600200000000011000000000000000000000000000000000000000000000 ||| mk = mk) (hIn : Keeps mk sIn s) : Keeps mk sIn (hsExchange s) := by
  refine Keeps.step hMk ?_ hIn
  unfold hsExchange
  try dsimp only
  repeat' first
    | with_reducible refine Keeps.ite ?_ ?_
    | with_reducible exact Keeps.refl
    | with_reducible assumption
    | ((with_reducible apply Keeps.wr); (case d => rfl); (case e => rfl))
    | ((with_reducible apply Keeps.put); (case d => rfl); (case e => rfl))
    | (with_reducible refine Keeps.each _ _ ?_ ?_)
    | ((with_reducible apply macTrace_keeps); (case hMk => rfl))
    | ((with_reducible apply modMac_keeps); (case hMk => rfl))
    | ((with_reducible apply raise_keeps); (case d => rfl); (case hMk => rfl); (case hMk2 => rfl))
    | intro _
    | split
    | dsimp only
    | (refine Keeps.snd ?_ (by with_reducible assumption))

theorem startHops_keeps {mk : Nat} {sIn : State} (s : State) (hMk : 0x5010080000000000000000000000000000000000000000000000000000000000000000000000000000000000000000000000002000000000000000000000000000000000000000000000000000000000000000001867000180800000000800000000000000000000000000000000000000000000000000000000000000000000000000000000000000000000000000000000000000000000000000000000000000000000000000000000000000000000000000008000000000000000021000000000000000000000000000000000000000000000 ||| mk = mk) (hIn : Keeps mk sIn s) : Keeps mk sIn (startHops s) := by
  refine Keeps.step hMk ?_ hIn
  unfold startHops
  try dsimp only
  repeat' first
    | with_reducible refine Keeps.ite ?_ ?_
    | with_reducible exact Keeps.refl
    | with_reducible assumption
    | ((with_reducible apply macTrace_keeps); (case hMk => rfl))
    | ((with_reducible apply modMac_keeps); (case hMk => rfl))
    | ((with_reducible apply raise_keeps); (case d => rfl); (case hMk => rfl); (case hMk2 => rfl))
    | intro _
    | split
    | dsimp only
    | (refine Keeps.snd ?_ (by with_reducible assumption))

theorem startGroup_keeps {mk : Nat} {sIn : State} (w : Nat) (s : State) (hMk : 0x5010800000000000000000000000000000000000000000000000000000000000000000000000000000000000000000000000002000000000000000000000000000000000000000000000000000000000000000001867000180800000000800000000000000000000000000000000000000000000000000000000000000000000000000000000000000000000000000000000800000000000000000001000000000000000000000000000000000000000000000000000000000000000000000000000000000000000000000000000000000000000 ||| mk = mk) (hIn : Keeps mk sIn s) : Keeps mk sIn (startGroup w s) := by
  refine Keeps.step hMk ?_ hIn
  unfold startGroup
  try dsimp only
  repeat' first
    | with_reducible refine Keeps.ite ?_ ?_
    | with_reducible exact Keeps.refl
    | with_reducible assumption
    | ((with_reducible apply Keeps.put); (case d => rfl); (case e => rfl))
    | ((with_reducible apply raiseWard_keeps); (case d => rfl); (case hMk => rfl); (case hMk2 => rfl))
    | intro _
    | split
    | dsimp only
    | (refine Keeps.snd ?_ (by with_reducible assumption))
    | ((with_reducible apply Keeps.set_sec); (case e => rfl))

theorem startSwitches_keeps {mk : Nat} {sIn : State} (s : State) (hMk : 0x5010a80000000000000000000000000000000000000000000000000000000000000000000000000000000000000000000000002000000000000000000000000000000000000000000000000000000000000000001867000180800000000800000000000000000000000000000000000000000000000000000000000000000000000000000000000000000000000000000000800000000000000000001000000000000000000000000600000000010c00000000008000000000000000021000000000000000000000000000000000000000000000 ||| mk = mk) (hIn : Keeps mk sIn s) : Keeps mk sIn (startSwitches s) := by
  refine Keeps.step hMk ?_ hIn
  unfold startSwitches
  try dsimp only
  repeat' first
    | with_reducible refine Keeps.ite ?_ ?_
    | with_reducible exact Keeps.refl
    | with_reducible assumption
    | (with_reducible refine Keeps.each _ _ ?_ ?_)
    | ((with_reducible apply startGroup_keeps); (case hMk => rfl))
    | ((with_reducible apply startHops_keeps); (case hMk => rfl))
    | ((with_reducible apply switchChoose_keeps); (case hMk => rfl))
    | ((with_reducible apply wmoveChoose_keeps); (case hMk => rfl))
    | intro _
    | split
    | dsimp only
    | (refine Keeps.snd ?_ (by with_reducible assumption))

theorem sfSwitch_keeps {mk : Nat} {sIn : State} (s : State) (hMk : 0x5050002000000000000000000000000000000000000000000000000000000000000000000000000000000000000000000000002000000000000000000000000000000000000000000000000000000000000000001867000180800000000800000000000000000000000000000000000000000000000000000000000000000000000000000000000000000000000000000000000000000000000000000000030000000440000060000020000004020000000000000000000000000000000000000000000000000000000000000000000000000000 ||| mk = mk) (hIn : Keeps mk sIn s) : Keeps mk sIn (sfSwitch s) := by
  refine Keeps.step hMk ?_ hIn
  unfold sfSwitch
  try dsimp only
  repeat' first
    | with_reducible refine Keeps.ite ?_ ?_
    | with_reducible exact Keeps.refl
    | with_reducible assumption
    | ((with_reducible apply Keeps.put); (case d => rfl); (case e => rfl))
    | (with_reducible refine Keeps.each _ _ ?_ ?_)
    | ((with_reducible apply cellsView_keeps); (case hMk => rfl))
    | ((with_reducible apply raise_keeps); (case d => rfl); (case hMk => rfl); (case hMk2 => rfl))
    | ((with_reducible apply tcMap_keeps); (case hMk => rfl))
    | intro _
    | split
    | dsimp only
    | (refine Keeps.snd ?_ (by with_reducible assumption))

theorem tickSwitches_keeps {mk : Nat} {sIn : State} (s : State) (hMk : 0x5471a8a4000000000000000000020d100104a0002000008000040011d47c00c17c000000000000000000000000000000000000200000000000000000000000000000000003c00000000000000040000000000000186700018080000000080000000000000000000000000000000000000000000000000000000000000000000000300180000000000000000000000000000346c000000000002000000800830000000440000060002020000006020000000000008000600200000000011000000000000000000000000000000000000000000080 ||| mk = mk) (hIn : Keeps mk sIn s) : Keeps mk sIn (tickSwitches s) := by
  refine Keeps.step hMk ?_ hIn
  unfold tickSwitches
  try dsimp only
  repeat' first
    | with_reducible refine Keeps.ite ?_ ?_
    | with_reducible exact Keeps.refl
    | with_reducible assumption
    | ((with_reducible apply Keeps.put); (case d => rfl); (case e => rfl))
    | (with_reducible refine Keeps.each _ _ ?_ ?_)
    | ((with_reducible apply boundary_keeps); (case hMk => rfl))
    | ((with_reducible apply groupSwitch_keeps); (case hMk => rfl))
    | ((with_reducible apply hsExchange_keeps); (case hMk => rfl))
    | ((with_reducible apply modSrc_keeps); (case hMk => rfl))
    | ((with_reducible apply raise_keeps); (case d => rfl); (case hMk => rfl); (case hMk2 => rfl))
    | ((with_reducible apply sfSwitch_keeps); (case hMk => rfl))
    | intro _
    | split
    | dsimp only
    | (refine Keeps.snd ?_ (by with_reducible assumption))

theorem cellsBegin_keeps {mk : Nat} {sIn : State} (s : State) (hMk : 0x80000000000000000000000000000000000000000000000000000000000000000000000000000000000000000000000000000000000000000000000000000000000000000000000000000000000000000000000000000000000000000000000000000000000000000000000000000000000000000000000000000000000000000000000000000000000000000000000000000000000000000000000000000000000000000000000000000000000000000000000000000000000000000000000000000000000000000000000000000000000 ||| mk = mk) (hIn : Keeps mk sIn s) : Keeps mk sIn (cellsBegin s) := by
  refine Keeps.step hMk ?_ hIn
  unfold cellsBegin
  try dsimp only
  repeat' first
    | with_reducible refine Keeps.ite ?_ ?_
    | with_reducible exact Keeps.refl
    | with_reducible assumption
    | ((with_reducible apply modMac_keeps); (case hMk => rfl))
    | intro _
    | split
    | dsimp only
    | (refine Keeps.snd ?_ (by with_reducible assumption))

theorem laneSwap_keeps {mk : Nat} {sIn : State} (n : Nat) (s : State) (hMk : 0x5010000000000000000000000000000000000000000000000000000000000000000000000000000000000000000000000000002000000000000000000000000000000000000000000000000000000000000000001867000180800000000800000000000000000000000000000000000000000000000000000000000000000000000000000000000000000000000000000000000000000000000000000000000000000000000000000000000000000020062600008000000000000000041000000000000000000000000000000000000000000000 ||| mk = mk) (hIn : Keeps mk sIn s) : Keeps mk sIn (laneSwap n s) := by
  refine Keeps.step hMk ?_ hIn
  unfold laneSwap
  try dsimp only
  repeat' first
    | with_reducible refine Keeps.ite ?_ ?_
    | with_reducible exact Keeps.refl
    | with_reducible assumption
    | ((with_reducible apply Keeps.wr); (case d => rfl); (case e => rfl))
    | ((with_reducible apply Keeps.put); (case d => rfl); (case e => rfl))
    | ((with_reducible apply Keeps.inc); (case d => rfl); (case e => rfl))
    | ((with_reducible apply laneView_keeps); (case hMk => rfl))
    | ((with_reducible apply macTrace_keeps); (case hMk => rfl))
    | ((with_reducible apply raiseAt_keeps); (case d => rfl); (case hMk => rfl); (case hMk2 => rfl))
    | intro _
    | split
    | dsimp only
    | (refine Keeps.snd ?_ (by with_reducible assumption))

theorem spansEnd_keeps {mk : Nat} {sIn : State} (all : Bool) (n : Nat) (s : State) (hMk : 0x100000000000000000000000000000000000000000000000000000000000000000000000000000000000000000000000000000000000000000000000000000000000000000000000000000000000000000000000000000000000000000000000000000000000000000000000000000000000000000000000000000000000000000000000000000000000000000000000000000000000000000000000000000000000000000000000000000000000000800000000000000000000000000000000000000000000000000000000000000000000 ||| mk = mk) (hIn : Keeps mk sIn s) : Keeps mk sIn (spansEnd all n s) := by
  refine Keeps.step hMk ?_ hIn
  unfold spansEnd
  try dsimp only
  repeat' first
    | with_reducible refine Keeps.ite ?_ ?_
    | with_reducible exact Keeps.refl
    | with_reducible assumption
    | ((with_reducible apply modLane_keeps); (case hMk => rfl))
    | ((with_reducible apply spanView_keeps); (case hMk => rfl))
    | intro _
    | split
    | dsimp only
    | (refine Keeps.snd ?_ (by with_reducible assumption))

theorem lanesResume_keeps {mk : Nat} {sIn : State} (s : State) (hMk : 0x2000000000000000000000000000000000000000000000000000000000000000000000000000000000000000000000000000000000000000000000000000000000000000000000000000000000000000000000000000000000000000000000000000000000000000000000000000000000000000000000000000000000000000000000000000000000000000000000000000000000000000000000000000000000000000000000000000000000000000000000000000000000000000000000000000000000000000000000000000000000000000 ||| mk = mk) (hIn : Keeps mk sIn s) : Keeps mk sIn (lanesResume s) := by
  refine Keeps.step hMk ?_ hIn
  unfold lanesResume
  try dsimp only
  repeat' first
    | with_reducible refine Keeps.ite ?_ ?_
    | with_reducible exact Keeps.refl
    | with_reducible assumption
    | intro _
    | split
    | dsimp only
    | (refine Keeps.snd ?_ (by with_reducible assumption))
    | ((with_reducible apply Keeps.set_cel); (case e => rfl))

theorem quietBegun_keeps {mk : Nat} {sIn : State} (n : Nat) (i : Nat) (span : Nat) (s : State) (hMk : 0x200000000000000000000000000000000000000000000000000000000000000000000000000000000000000000000000000000000000000000000000000000000000000000000000000000000000000000000000000000000000000000000000000000000000000000000000000000000000000000000000000000000000000000000000000000000000000000000000000000000000000000000000000000000000000000000000000000000000000000000000000000000000000000000000000000000000000000000000000000000000 ||| mk = mk) (hIn : Keeps mk sIn s) : Keeps mk sIn (quietBegun n i span s) := by
  refine Keeps.step hMk ?_ hIn
  unfold quietBegun
  try dsimp only
  repeat' first
    | with_reducible refine Keeps.ite ?_ ?_
    | with_reducible exact Keeps.refl
    | with_reducible assumption
    | ((with_reducible apply modSrc_keeps); (case hMk => rfl))
    | intro _
    | split
    | dsimp only
    | (refine Keeps.snd ?_ (by with_reducible assumption))

theorem spansBegin_keeps {mk : Nat} {sIn : State} (s : State) (hMk : 0x328000000000000000000000000000000000000000000000000000000000000000000000000000000000000000000000000000000000000000000000000000000000000000000000000000000000000000000000000000000000000000000000000000000000000000000000000000000000000000000000000000000000000000000000000000000000000000000000000000000000400000000000000000000000000000400000000000000000000800000000000000000000000000800000000000400000000004000000000001f00380 ||| mk = mk) (hIn : Keeps mk sIn s) : Keeps mk sIn (spansBegin s) := by
  refine Keeps.step hMk ?_ hIn
  unfold spansBegin
  try dsimp only
  repeat' first
    | with_reducible refine Keeps.ite ?_ ?_
    | with_reducible exact Keeps.refl
    | with_reducible assumption
    | (with_reducible refine Keeps.each _ _ ?_ ?_)
    | ((with_reducible apply modLane_keeps); (case hMk => rfl))
    | ((with_reducible apply quietBegun_keeps); (case hMk => rfl))
    | ((with_reducible apply quietStart_keeps); (case hMk => rfl))
    | ((with_reducible apply spanView_keeps); (case hMk => rfl))
    | intro _
    | split
    | dsimp only
    | (refine Keeps.snd ?_ (by with_reducible assumption))

theorem quietEnd_keeps {mk : Nat} {sIn : State} (n : Nat) (s : State) (hMk : 0x200000000000000000000000000000000000000000000000000000000000000000000000000000000000000000000000000000000000000000000000000000000000000000000000000000000000000000000000000000000000000000000000000000000000000000000000000000000000000000000000000000000000000000000000000000000000000000000000000000000000000000000000000000000000400000000000000000001000000000000000000000000000000000000000000000000000000000000000000000000000 ||| mk = mk) (hIn : Keeps mk sIn s) : Keeps mk sIn (quietEnd n s) := by
  refine Keeps.step hMk ?_ hIn
  unfold quietEnd
  try dsimp only
  repeat' first
    | with_reducible refine Keeps.ite ?_ ?_
    | with_reducible exact Keeps.refl
    | with_reducible assumption
    | ((with_reducible apply Keeps.inc); (case d => rfl); (case e => rfl))
    | ((with_reducible apply applyStart_keeps); (case hMk => rfl))
    | ((with_reducible apply modSrc_keeps); (case hMk => rfl))
    | ((with_reducible apply stage_keeps); (case hMk => rfl))
    | intro _
    | split
    | dsimp only
    | (refine Keeps.snd ?_ (by with_reducible assumption))

theorem boundsNow_keeps {mk : Nat} {sIn : State} (s : State) (hMk : 0x200000000000000000000000000000000000000000000000000000000000000000000000000000000000000000000000000000000000000000000000000000000000000000000000000000000000000000000000000000000000000000000000000000000000000000000000000000000000000000000000000000000000000000000000000000000000000000000000000000000000000000000000000000000400000000000000000000000000000000000000000000000000000000000000000000000000000000000000000000000000 ||| mk = mk) (hIn : Keeps mk sIn s) : Keeps mk sIn (boundsNow s) := by
  refine Keeps.step hMk ?_ hIn
  unfold boundsNow
  try dsimp only
  repeat' first
    | with_reducible refine Keeps.ite ?_ ?_
    | with_reducible exact Keeps.refl
    | with_reducible assumption
    | (with_reducible refine Keeps.each _ _ ?_ ?_)
    | ((with_reducible apply boundary_keeps); (case hMk => rfl))
    | ((with_reducible apply modSrc_keeps); (case hMk => rfl))
    | intro _
    | split
    | dsimp only
    | (refine Keeps.snd ?_ (by with_reducible assumption))

theorem coversTick_keeps {mk : Nat} {sIn : State} (s : State) (hMk : 0x15010068000000000000000000000000000000000000000000000000000000000000000000000000000000000000000000000002000000000000000000000000000000000000000000000000000000000000000001867000180800000000800000000000000000000000000000000000000000000000000000000000000000000000000000000000000000000000000000000000000000000400000000000000000000000000000000000000000000000000000000000000000000000000000980000000010407800000084000000000031f04f80 ||| mk = mk) (hIn : Keeps mk sIn s) : Keeps mk sIn (coversTick s) := by
  refine Keeps.step hMk ?_ hIn
  unfold coversTick
  try dsimp only
  repeat' first
    | with_reducible refine Keeps.ite ?_ ?_
    | with_reducible exact Keeps.refl
    | with_reducible assumption
    | (with_reducible refine Keeps.each _ _ ?_ ?_)
    | ((with_reducible apply Keeps.modFe); (case e => rfl))
    | ((with_reducible apply coverLate_keeps); (case hMk => rfl))
    | ((with_reducible apply coverTick_keeps); (case hMk => rfl))
    | intro _
    | split
    | dsimp only
    | (refine Keeps.snd ?_ (by with_reducible assumption))

theorem execAsnTick_keeps (corrected : List (Fin 256)) (t : Nat) (s : State) : KeepsR 0x1f471bea5000000000000000000020d100104a0002000008000040011d47c00c17c000000000000000000000000000000000008200000000000000000000000000000000003c00000000000000040000000000000186700018080000000080000000000000000000000000000007c000000000008010000000000000000000000003001800000000000000000000000000003c6c000000000402000005802830010000440400060602620000006031c20062e0000800060020000000007d800980000000010407800000084000000000031f04f80 s (execAsnTick corrected t s) := by
  unfold execAsnTick
  try dsimp only
  repeat' first
    | (with_reducible refine KeepsR.next ?_)
    | (with_reducible refine KeepsR.ite ?_ ?_)
    | with_reducible refine Keeps.ite ?_ ?_
    | with_reducible exact Keeps.refl
    | with_reducible assumption
    | ((with_reducible apply Keeps.wr); (case d => rfl); (case e => rfl))
    | ((with_reducible apply Keeps.put); (case d => rfl); (case e => rfl))
    | ((with_reducible apply Keeps.at); (case e => rfl); (case e2 => rfl))
    | (with_reducible refine Keeps.each _ _ ?_ ?_)
    | ((with_reducible apply assignSniffers_keeps); (case hMk => rfl))
    | ((with_reducible apply boundsNow_keeps); (case hMk => rfl))
    | ((with_reducible apply cellsBegin_keeps); (case hMk => rfl))
    | ((with_reducible apply coversTick_keeps); (case hMk => rfl))
    | ((with_reducible apply eccFix_keeps); (case hMk => rfl))
    | ((with_reducible apply laneSwap_keeps); (case hMk => rfl))
    | ((with_reducible apply lanesResume_keeps); (case hMk => rfl))
    | ((with_reducible apply modMac_keeps); (case hMk => rfl))
    | ((with_reducible apply nextView_keeps); (case hMk => rfl))
    | ((with_reducible apply quietEnd_keeps); (case hMk => rfl))
    | ((with_reducible apply raise_keeps); (case d => rfl); (case hMk => rfl); (case hMk2 => rfl))
    | ((with_reducible apply setAsn_keeps); (case hMk => rfl))
    | ((with_reducible apply setRun_keeps); (case hMk => rfl))
    | ((with_reducible apply spanView_keeps); (case hMk => rfl))
    | ((with_reducible apply spansBegin_keeps); (case hMk => rfl))
    | ((with_reducible apply spansEnd_keeps); (case hMk => rfl))
    | ((with_reducible apply startSwitches_keeps); (case hMk => rfl))
    | ((with_reducible apply tickSwitches_keeps); (case hMk => rfl))
    | ((with_reducible apply tokenView_keeps); (case hMk => rfl))
    | intro _
    | split
    | dsimp only
    | (refine Keeps.snd ?_ (by with_reducible assumption))

theorem badKey_keeps {mk : Nat} {sIn : State} (ring : Nat) (op : Nat) (tag : Nat) (s : State) (hMk : 0x5010000000000000000000000000000000000000000000000000000000000000000000000000000000000000000000000000002000000000000000000000000000000000000004000000000000000000000000000466000960000000000000000000000000000000000000000000000000000000000000000000000000000000000000000000000000000000000000000000000000000000000000000000000000000000000000000000000000000000000000000000000000000000000000000000000000000000000000000000000000000000 ||| mk = mk) (hIn : Keeps mk sIn s) : Keeps mk sIn (badKey ring op tag s) := by
  refine Keeps.step hMk ?_ hIn
  unfold badKey
  try dsimp only
  repeat' first
    | with_reducible refine Keeps.ite ?_ ?_
    | with_reducible exact Keeps.refl
    | with_reducible assumption
    | ((with_reducible apply Keeps.inc); (case d => rfl); (case e => rfl))
    | ((with_reducible apply cmdPlain_keeps); (case hMk => rfl))
    | intro _
    | split
    | dsimp only
    | (refine Keeps.snd ?_ (by with_reducible assumption))

theorem keySet_keeps {mk : Nat} {sIn : State} (ring : Nat) (tag : Nat) (nix : Nat) (key : Nat) (s : State) (hMk : 0x507180a4000000000000000000020d100104a0002000008000040011d47c00c17c000000000000000000000000000000000000200000000000000000000000000000000000000000000000000000000000000000186700018080000000080000000000000000000000000000000000000000000000000000000000000000000000300180000000000000000000000000000c004000000040202000000000800000000000000000000000000000000000000000000000000000000000000000000000000000000000000000000000000000000080 ||| mk = mk) (hIn : Keeps mk sIn s) : Keeps mk sIn (keySet ring tag nix key s) := by
  refine Keeps.step hMk ?_ hIn
  unfold keySet
  try dsimp only
  repeat' first
    | with_reducible refine Keeps.ite ?_ ?_
    | with_reducible exact Keeps.refl
    | with_reducible assumption
    | ((with_reducible apply Keeps.inc); (case d => rfl); (case e => rfl))
    | ((with_reducible apply Keeps.modNode); (case e => rfl); (case e2 => rfl))
    | ((with_reducible apply haltClear_keeps); (case hMk => rfl))
    | ((with_reducible apply keyWrite_keeps); (case hMk => rfl))
    | ((with_reducible apply rekeyClear_keeps); (case hMk => rfl))
    | ((with_reducible apply reserve_keeps); (case hMk => rfl))
    | ((with_reducible apply rxDirty_keeps); (case hMk => rfl))
    | intro _
    | split
    | dsimp only
    | (refine Keeps.snd ?_ (by with_reducible assumption))

theorem execKeySet_keeps (ring : Fin 8) (hd : CmdHead) (nix : Nat) (key : Nat) (t : Nat) (s : State) : KeepsR 0xd07180a5000000000000000000020d100104a0002000008000040011d47c00c17c0000000000000000000000000000000000002000000000000000000000000000000000000004000000000000000000000000001c7f8009e0c00000000c0000000000000000000000000000000000000000000000000000000000000000000000300180000000000000000000000000000c004000000040202000000000800000000000000000000000000000000000000000000000000000000000000000000000000000000000000000000000000000000080 s (execKeySet ring hd nix key t s) := by
  unfold execKeySet
  try dsimp only
  repeat' first
    | ((with_reducible apply withData_keeps); (case hMk => rfl))
    | ((with_reducible apply withOwner_keeps); (case hMk => rfl))
    | (with_reducible refine KeepsR.next ?_)
    | (with_reducible refine KeepsR.ite ?_ ?_)
    | with_reducible refine Keeps.ite ?_ ?_
    | with_reducible exact Keeps.refl
    | with_reducible assumption
    | ((with_reducible apply Keeps.at); (case e => rfl); (case e2 => rfl))
    | ((with_reducible apply badKey_keeps); (case hMk => rfl))
    | ((with_reducible apply cmdPlain_keeps); (case hMk => rfl))
    | ((with_reducible apply keySet_keeps); (case hMk => rfl))
    | intro _
    | split
    | dsimp only
    | (refine Keeps.snd ?_ (by with_reducible assumption))

theorem execKeyRatchet_keeps (ring : Fin 8) (tag : Nat) (nix : Nat) (t : Nat) (s : State) : KeepsR 0xd0718085000000000000000000020d100004a0000000008000040011d47c00c17c0000000000000000000000000000000000002000000000000000000000000000000000000000000000000000000000000000001c7f8009e0c00000000c00000000000000000000000000000000000000000000000000000000000000000000003001800000000000000000000000000004000000000000002000000000800000000000000000000000000000000000000000000000000000000000000000000000000000000000000000000000000000000080 s (execKeyRatchet ring tag nix t s) := by
  unfold execKeyRatchet
  try dsimp only
  repeat' first
    | ((with_reducible apply withOwner_keeps); (case hMk => rfl))
    | (with_reducible refine KeepsR.next ?_)
    | (with_reducible refine KeepsR.ite ?_ ?_)
    | with_reducible refine Keeps.ite ?_ ?_
    | with_reducible exact Keeps.refl
    | with_reducible assumption
    | ((with_reducible apply Keeps.at); (case e => rfl); (case e2 => rfl))
    | ((with_reducible apply cmdPlain_keeps); (case hMk => rfl))
    | ((with_reducible apply jnlReopen_keeps); (case hMk => rfl))
    | ((with_reducible apply rekeySet_keeps); (case hMk => rfl))
    | intro _
    | split
    | dsimp only
    | (refine Keeps.snd ?_ (by with_reducible assumption))

theorem groupKeyPut_keeps {mk : Nat} {sIn : State} (w : Nat) (j : Nat) (key : Nat) (s : State) (hMk : 0x54708084000000000000000000020d100104a0000000008000040011d47c00c17c000000000000000000000000000000000000200000000000000000000000000000000003c008000000000000400000000000001867000180800000000800000000000000000000000000000000000000000000000000000000000000000000003001800000000000000000000000000000000000000000000000000000000000000000000000000000000000000000000000000000000000000000000000000000000000000000000000000000000000000080 ||| mk = mk) (hIn : Keeps mk sIn s) : Keeps mk sIn (groupKeyPut w j key s) := by
  refine Keeps.step hMk ?_ hIn
  unfold groupKeyPut
  try dsimp only
  repeat' first
    | with_reducible refine Keeps.ite ?_ ?_
    | with_reducible exact Keeps.refl
    | with_reducible assumption
    | ((with_reducible apply Keeps.inc); (case d => rfl); (case e => rfl))
    | ((with_reducible apply groupView_keeps); (case hMk => rfl))
    | ((with_reducible apply mirCount_keeps); (case d => rfl); (case hMk => rfl); (case hMk2 => rfl))
    | intro _
    | split
    | dsimp only
    | (refine Keeps.snd ?_ (by with_reducible assumption))
    | ((with_reducible apply Keeps.set_sec); (case e => rfl))

theorem execGroupKeyLoad_keeps (ring : Fin 8) (hd : CmdHead) (ward : Nat) (gen : Nat) (key : Nat) (t : Nat) (s : State) : KeepsR 0xd4718085000000000000000000020d100104a0000000008000040011d47c00c17c000000000000000000000000000000000000200000000000000000000000000000000003c00c000000000000400000000000001c7f8009e0c00000000c00000000000000000000000000000000000000000000000000000000000000000000003001800000000000000000000000000000030000000000002000000000800000000000000000000000000000000000000000000000000000000000000000000000000000000000000000000000000000000080 s (execGroupKeyLoad ring hd ward gen key t s) := by
  unfold execGroupKeyLoad
  try dsimp only
  repeat' first
    | ((with_reducible apply withData_keeps); (case hMk => rfl))
    | ((with_reducible apply withOwner_keeps); (case hMk => rfl))
    | (with_reducible refine KeepsR.next ?_)
    | (with_reducible refine KeepsR.ite ?_ ?_)
    | with_reducible refine Keeps.ite ?_ ?_
    | with_reducible exact Keeps.refl
    | with_reducible assumption
    | ((with_reducible apply Keeps.wr); (case d => rfl); (case e => rfl))
    | ((with_reducible apply Keeps.put); (case d => rfl); (case e => rfl))
    | ((with_reducible apply Keeps.at); (case e => rfl); (case e2 => rfl))
    | ((with_reducible apply badKey_keeps); (case hMk => rfl))
    | ((with_reducible apply cmdPlain_keeps); (case hMk => rfl))
    | ((with_reducible apply groupKeyPut_keeps); (case hMk => rfl))
    | ((with_reducible apply jnlReopen_keeps); (case hMk => rfl))
    | ((with_reducible apply reserveGroup_keeps); (case hMk => rfl))
    | intro _
    | split
    | dsimp only
    | (refine Keeps.snd ?_ (by with_reducible assumption))

theorem execGroupSwitchArm_keeps (ward : Fin 8) (asnHi : Nat) (arm : Bool) (t : Nat) (s : State) : KeepsR 0xd010800100000000000000000000000000000000000000000000000000000000000000000000000000000000000000000000002000000000000000000000000000000000000000000000000000000000000000001867000180800000000800000000000000000000000000000000000000000000000000000000000000000000000000000000000000000000000000000000e00000000000000000001000000000000000000000000000000000000000000000000000000000000000000000000000000000000000000000000000000000000000 s (execGroupSwitchArm ward asnHi arm t s) := by
  unfold execGroupSwitchArm
  try dsimp only
  repeat' first
    | (with_reducible refine KeepsR.next ?_)
    | (with_reducible refine KeepsR.ite ?_ ?_)
    | with_reducible refine Keeps.ite ?_ ?_
    | with_reducible exact Keeps.refl
    | with_reducible assumption
    | ((with_reducible apply Keeps.wr); (case d => rfl); (case e => rfl))
    | ((with_reducible apply Keeps.put); (case d => rfl); (case e => rfl))
    | ((with_reducible apply Keeps.at); (case e => rfl); (case e2 => rfl))
    | ((with_reducible apply raiseWard_keeps); (case d => rfl); (case hMk => rfl); (case hMk2 => rfl))
    | intro _
    | split
    | dsimp only
    | (refine Keeps.snd ?_ (by with_reducible assumption))
    | ((with_reducible apply Keeps.set_sec); (case e => rfl))

theorem execGroupGraceExpiry_keeps (ward : Fin 8) (t : Nat) (s : State) : KeepsR 0x840080050000000000000000000000000000000000000000000000000000000000000000000000000000000000000000000000000000000000000000000000000000000003c010000000000000400000000000000000000000000000000000000000000000000000000000000000000000000000000000000000000000000000000000000000000000000000000000000000040000000000000000000000000000000000000000000000000000000000000000000000000000000000000000000000000000000000000000000000000000000000 s (execGroupGraceExpiry ward t s) := by
  unfold execGroupGraceExpiry
  try dsimp only
  repeat' first
    | (with_reducible refine KeepsR.next ?_)
    | (with_reducible refine KeepsR.ite ?_ ?_)
    | with_reducible refine Keeps.ite ?_ ?_
    | with_reducible exact Keeps.refl
    | with_reducible assumption
    | ((with_reducible apply Keeps.put); (case d => rfl); (case e => rfl))
    | ((with_reducible apply Keeps.inc); (case d => rfl); (case e => rfl))
    | ((with_reducible apply Keeps.at); (case e => rfl); (case e2 => rfl))
    | ((with_reducible apply groupView_keeps); (case hMk => rfl))
    | intro _
    | split
    | dsimp only
    | (refine Keeps.snd ?_ (by with_reducible assumption))
    | ((with_reducible apply Keeps.set_sec); (case e => rfl))

theorem setJnlErr_keeps {mk : Nat} {sIn : State} (e : Nat) (s : State) (hMk : 0x50700080000000000000000000020000000020000000000000000011d47c00c17c0000000000000000000000000000000000002000000000000000000000000000000000000000000000000000000000000000001867000180800000000800000000000000000000000000000000000000000000000000000000000000000000000000000000000000000000000000000000000000000000004000000000000000000000000000000000000000000000000000000000000000000000000000000000000000000000000000000000000000000080 ||| mk = mk) (hIn : Keeps mk sIn s) : Keeps mk sIn (setJnlErr e s) := by
  refine Keeps.step hMk ?_ hIn
  unfold setJnlErr
  try dsimp only
  repeat' first
    | with_reducible refine Keeps.ite ?_ ?_
    | with_reducible exact Keeps.refl
    | with_reducible assumption
    | ((with_reducible apply Keeps.wr); (case d => rfl); (case e => rfl))
    | ((with_reducible apply faultBegin_keeps); (case hMk => rfl))
    | ((with_reducible apply faultEnd_keeps); (case hMk => rfl))
    | intro _
    | split
    | dsimp only
    | (refine Keeps.snd ?_ (by with_reducible assumption))

theorem ceilRaise_keeps {mk : Nat} {sIn : State} (r : JnlRec) (s : State) (hMk : 0x507080a4000000000000000000020d100004a0000000008000040011d47c00c17c000000000000000000000000000000000000200000000000000000000000000000000000000000000000000000000000000000186700018080000000080000000000000000000000000000000000000000000000000000000000000000000000300180000000000000000000000000000f00003c020000000000000034000000000000000000000000000000000000000000000000000000000000000000000000000000000000000000000000000000000080 ||| mk = mk) (hIn : Keeps mk sIn s) : Keeps mk sIn (ceilRaise r s) := by
  refine Keeps.step hMk ?_ hIn
  unfold ceilRaise
  try dsimp only
  repeat' first
    | with_reducible refine Keeps.ite ?_ ?_
    | with_reducible exact Keeps.refl
    | with_reducible assumption
    | ((with_reducible apply Keeps.wr); (case d => rfl); (case e => rfl))
    | ((with_reducible apply Keeps.modNode); (case e => rfl); (case e2 => rfl))
    | ((with_reducible apply fcMark_keeps); (case hMk => rfl))
    | ((with_reducible apply groupMark_keeps); (case hMk => rfl))
    | intro _
    | split
    | dsimp only
    | (refine Keeps.snd ?_ (by with_reducible assumption))

theorem resFinish_keeps {mk : Nat} {sIn : State} (r : Reserve) (s : State) (hMk : 0x507180a4000000000000000000020d100064a0000000008000040011d47c00c17c0000000000000000000000000000000000002000000000000000000000000000000000000000000000000000000000000000001c670009e080000000080000000000000000000000000000000000000000000000000000000000000000000000300180000000000000000000000000000f00003c020060002000000074800000000000000000000000000000000000000000000000000000000000000000000000000000000000000000000000000000000080 ||| mk = mk) (hIn : Keeps mk sIn s) : Keeps mk sIn (resFinish r s) := by
  refine Keeps.step hMk ?_ hIn
  unfold resFinish
  try dsimp only
  repeat' first
    | with_reducible refine Keeps.ite ?_ ?_
    | with_reducible exact Keeps.refl
    | with_reducible assumption
    | ((with_reducible apply Keeps.inc); (case d => rfl); (case e => rfl))
    | ((with_reducible apply ceilRaise_keeps); (case hMk => rfl))
    | ((with_reducible apply cmdDone_keeps); (case hMk => rfl))
    | ((with_reducible apply ratchetDone_keeps); (case hMk => rfl))
    | ((with_reducible apply reserveNext_keeps); (case hMk => rfl))
    | intro _
    | split
    | dsimp only
    | (refine Keeps.snd ?_ (by with_reducible assumption))

theorem resRelease_keeps {mk : Nat} {sIn : State} (s : State) (hMk : 0x507180a4000000000000000000020d100064a0000000008000040011d47c00c17c0000000000000000000000000000000000002000000000000000000000000000000000000000000000000000000000000000001c670009e080000000080000000000000000000000000000000000000000000000000000000000000000000000300180000000000000000000000000000f00003c020060002000000074800000000000000000000000000000000000000000000000000000000000000000000000000000000000000000000000000000000080 ||| mk = mk) (hIn : Keeps mk sIn s) : Keeps mk sIn (resRelease s) := by
  refine Keeps.step hMk ?_ hIn
  unfold resRelease
  try dsimp only
  repeat' first
    | with_reducible refine Keeps.ite ?_ ?_
    | with_reducible exact Keeps.refl
    | with_reducible assumption
    | (with_reducible refine Keeps.each _ _ ?_ ?_)
    | ((with_reducible apply resFinish_keeps); (case hMk => rfl))
    | intro _
    | split
    | dsimp only
    | (refine Keeps.snd ?_ (by with_reducible assumption))
    | ((with_reducible apply Keeps.set_sec); (case e => rfl))

theorem jnlStore_keeps {mk : Nat} {sIn : State} (r : JnlRec) (commit : Nat) (s : State) (hMk : 0x1000000000000000000000000000000000000000000000000000000000000000000000000000000000000000000000000000000000000000000000000000000000000000000000000000000000000000000000000000000000000000000000000000000000000000000000000000000000000000000000000000000000000000000000000000000000000000000000000000000000000000000000000000000000000000000000000000000000000000000000000000000000000000000000000000000000000000000000000000000000000 ||| mk = mk) (hIn : Keeps mk sIn s) : Keeps mk sIn (jnlStore r commit s) := by
  refine Keeps.step hMk ?_ hIn
  unfold jnlStore
  try dsimp only
  repeat' first
    | with_reducible refine Keeps.ite ?_ ?_
    | with_reducible exact Keeps.refl
    | with_reducible assumption
    | ((with_reducible apply modJnl_keeps); (case hMk => rfl); (case hf => (intro m h; try dsimp only); repeat' first | with_reducible assumption | with_reducible apply jnlPut_wf | with_reducible apply jnlClear_wf | with_reducible apply hdrPut_wf | with_reducible apply entryPut_wf))
    | intro _
    | split
    | dsimp only
    | (refine Keeps.snd ?_ (by with_reducible assumption))

theorem jnlAppend_keeps {mk : Nat} {sIn : State} (r : JnlRec) (s : State) (hMk : 0x18000000000000000000000000000000000000000000000000000000000000000000000000000000000000000000000000000000000000000000000000000000000000000000000000000000000000000000000000000000000000000000000000000000000000000000000000000000000000000000000000000000000000000000000000000000000000000000000000007c0040002018000000008000000000000000000000000000000000000000000000000000000000000000000000000000000000000000000000000000000000000 ||| mk = mk) (hIn : Keeps mk sIn s) : Keeps mk sIn (jnlAppend r s) := by
  refine Keeps.step hMk ?_ hIn
  unfold jnlAppend
  try dsimp only
  repeat' first
    | with_reducible refine Keeps.ite ?_ ?_
    | with_reducible exact Keeps.refl
    | with_reducible assumption
    | ((with_reducible apply Keeps.wr); (case d => rfl); (case e => rfl))
    | ((with_reducible apply Keeps.inc); (case d => rfl); (case e => rfl))
    | ((with_reducible apply Keeps.peak); (case d => rfl); (case e => rfl))
    | ((with_reducible apply jnlStore_keeps); (case hMk => rfl))
    | ((with_reducible apply jnlTrace_keeps); (case hMk => rfl))
    | intro _
    | split
    | dsimp only
    | (refine Keeps.snd ?_ (by with_reducible assumption))
    | ((with_reducible apply Keeps.set_sec); (case e => rfl))

theorem jnlFail_keeps {mk : Nat} {sIn : State} (r : JnlRec) (outcome : Nat) (s : State) (hMk : 0x50710084000000000000000000020000000020000000000000000011d47c00c17c00000000000000000000000000000000000020000000000000000000000000000000000000000000000000000000000000000018670001808000000008000000000000000000000000000000000000000000000000000000000000000000000000000000000000000000000000000000000007c0080000004000000088000000000000000000000000000000000000000000000000000000000000000000000000000000000000000000000000000000000080 ||| mk = mk) (hIn : Keeps mk sIn s) : Keeps mk sIn (jnlFail r outcome s) := by
  refine Keeps.step hMk ?_ hIn
  unfold jnlFail
  try dsimp only
  repeat' first
    | with_reducible refine Keeps.ite ?_ ?_
    | with_reducible exact Keeps.refl
    | with_reducible assumption
    | ((with_reducible apply Keeps.inc); (case d => rfl); (case e => rfl))
    | ((with_reducible apply Keeps.took); (case e => rfl))
    | ((with_reducible apply jnlStore_keeps); (case hMk => rfl))
    | ((with_reducible apply jnlTrace_keeps); (case hMk => rfl))
    | ((with_reducible apply raise_keeps); (case d => rfl); (case hMk => rfl); (case hMk2 => rfl))
    | ((with_reducible apply setJnlErr_keeps); (case hMk => rfl))
    | intro _
    | split
    | dsimp only
    | (refine Keeps.snd ?_ (by with_reducible assumption))

theorem execJournalCommitDone_keeps (outcome : Fin 3) (t : Nat) (s : State) : KeepsR 0xd07180a5000000000000000000024d100064a0002000008010040011d47c00c17c0000000000000000000000000000000000002000000000000000000000000000000000000000000000000000000000000000001c670009e080000000080000000000000000000000000000000000000000000000000000000000000000000000300180000000000000000000000000000f0007fc0e006201e0000001fc800000000000000000000000000000000000000000000000000000000000000000000000000000000000000000000000000000000080 s (execJournalCommitDone outcome t s) := by
  unfold execJournalCommitDone
  try dsimp only
  repeat' first
    | (with_reducible refine KeepsR.next ?_)
    | (with_reducible refine KeepsR.ite ?_ ?_)
    | with_reducible refine Keeps.ite ?_ ?_
    | with_reducible exact Keeps.refl
    | with_reducible assumption
    | ((with_reducible apply Keeps.at); (case e => rfl); (case e2 => rfl))
    | ((with_reducible apply bulkDone_keeps); (case hMk => rfl))
    | ((with_reducible apply jnlAppend_keeps); (case hMk => rfl))
    | ((with_reducible apply jnlFail_keeps); (case hMk => rfl))
    | ((with_reducible apply raise_keeps); (case d => rfl); (case hMk => rfl); (case hMk2 => rfl))
    | ((with_reducible apply resRelease_keeps); (case hMk => rfl))
    | ((with_reducible apply setJnlErr_keeps); (case hMk => rfl))
    | intro _
    | split
    | dsimp only
    | (refine Keeps.snd ?_ (by with_reducible assumption))
    | ((with_reducible apply Keeps.set_sec); (case e => rfl))

theorem modJnlEntry_keeps {mk : Nat} {sIn : State} (n : Nat) (f : JnlEntry → JnlEntry) (s : State) (hMk : 0x1000000000000000000000000000000000000000000000000000000000000000000000000000000000000000000000000000000000000000000000000000000000000000000000000000000000000000000000000000000000000000000000000000000000000000000000000000000000000000000000000000000000000000000000000000000000000000000000000000000000000000000000000000000000000000000000000000000000000000000000000000000000000000000000000000000000000000000000000000000000000 ||| mk = mk) (hIn : Keeps mk sIn s) : Keeps mk sIn (modJnlEntry n f s) := by
  refine Keeps.step hMk ?_ hIn
  unfold modJnlEntry
  try dsimp only
  repeat' first
    | with_reducible refine Keeps.ite ?_ ?_
    | with_reducible exact Keeps.refl
    | with_reducible assumption
    | ((with_reducible apply modJnl_keeps); (case hMk => rfl); (case hf => (intro m h; try dsimp only); repeat' first | with_reducible assumption | with_reducible apply jnlPut_wf | with_reducible apply jnlClear_wf | with_reducible apply hdrPut_wf | with_reducible apply entryPut_wf))
    | intro _
    | split
    | dsimp only
    | (refine Keeps.snd ?_ (by with_reducible assumption))

theorem jnlApply_keeps {mk : Nat} {sIn : State} (r : JnlRec) (s : State) (hMk : 0x1000000000000000000000000000000000000000000000000000000000000000000000000000000000000000000000000000000000000000000000000000000000000000000000000000000000000000000000000000000000000000000000000000000000000000000000000000000000000000000000000000000000000000000000000000000000000000000000000000000000000000000000000000000000000000000000000000000000000000000000000000000000000000000000000000000000000000000000000000000000000 ||| mk = mk) (hIn : Keeps mk sIn s) : Keeps mk sIn (jnlApply r s) := by
  refine Keeps.step hMk ?_ hIn
  unfold jnlApply
  try dsimp only
  repeat' first
    | with_reducible refine Keeps.ite ?_ ?_
    | with_reducible exact Keeps.refl
    | with_reducible assumption
    | ((with_reducible apply jnlWriteHeader_keeps); (case hMk => rfl))
    | ((with_reducible apply modJnlEntry_keeps); (case hMk => rfl))
    | intro _
    | split
    | dsimp only
    | (refine Keeps.snd ?_ (by with_reducible assumption))

theorem execCopierApply_keeps (t : Nat) (s : State) : KeepsR 0xd0718081000000000000000000020000000020000000000000000011d47c00c17c00000000000000000000000000000000000020000000000000000000000000000000000000000000000000000000000000000018670001808000000008000000000000000000000000000000000000000000000000000000000000000000000000000000000000000000000000000000000007c000000000c000000008000000000000000000000000000000000000000000000000000000000000000000000000000000000000000000000000000000000080 s (execCopierApply t s) := by
  unfold execCopierApply
  try dsimp only
  repeat' first
    | (with_reducible refine KeepsR.next ?_)
    | (with_reducible refine KeepsR.ite ?_ ?_)
    | with_reducible refine Keeps.ite ?_ ?_
    | with_reducible exact Keeps.refl
    | with_reducible assumption
    | ((with_reducible apply Keeps.sub); (case d => rfl); (case e => rfl))
    | ((with_reducible apply Keeps.at); (case e => rfl); (case e2 => rfl))
    | ((with_reducible apply jnlApply_keeps); (case hMk => rfl))
    | ((with_reducible apply jnlTrace_keeps); (case hMk => rfl))
    | ((with_reducible apply setJnlErr_keeps); (case hMk => rfl))
    | intro _
    | split
    | dsimp only
    | (refine Keeps.snd ?_ (by with_reducible assumption))
    | ((with_reducible apply Keeps.set_sec); (case e => rfl))

theorem execJnlOpen_keeps (answers : Bool) (t : Nat) (s : State) : KeepsR 0xd0700081000000000000000000020000000020000000000000000011d47c00c17c0000000000000000000000000000000000002000000000000000000000000000000000000000000000000000000000000000001867000180800000000800000000000000000000000000000000000000000000000000000000000000000000000000000000000000000000000000000000000000080000006000000080000000000000000000000000000000000000000000000000000000000000000000000000000000000000000000000000000000000080 s (execJnlOpen answers t s) := by
  unfold execJnlOpen
  try dsimp only
  repeat' first
    | (with_reducible refine KeepsR.next ?_)
    | (with_reducible refine KeepsR.ite ?_ ?_)
    | with_reducible refine Keeps.ite ?_ ?_
    | with_reducible exact Keeps.refl
    | with_reducible assumption
    | ((with_reducible apply Keeps.wr); (case d => rfl); (case e => rfl))
    | ((with_reducible apply Keeps.inc); (case d => rfl); (case e => rfl))
    | ((with_reducible apply Keeps.at); (case e => rfl); (case e2 => rfl))
    | ((with_reducible apply raise_keeps); (case d => rfl); (case hMk => rfl); (case hMk2 => rfl))
    | ((with_reducible apply setJnlErr_keeps); (case hMk => rfl))
    | intro _
    | split
    | dsimp only
    | (refine Keeps.snd ?_ (by with_reducible assumption))

theorem groupLoad_keeps {mk : Nat} {sIn : State} (h : JnlHeader) (w : Nat) (s : State) (hMk : 0x541000040000000000000000000000000000000000000000000000000000000000000000000000000000000000000000000000200000000000000000000000000000000003c00000000000000040000000000000186700018080000000080000000000000000000000000000000000000000000000000000000000000000000000000000000000000000000000000000000300803c000000000000000034000000000000000000000000000000000000000000000000000000000000000000000000000000000000000000000000000000000000 ||| mk = mk) (hIn : Keeps mk sIn s) : Keeps mk sIn (groupLoad h w s) := by
  refine Keeps.step hMk ?_ hIn
  unfold groupLoad
  try dsimp only
  repeat' first
    | with_reducible refine Keeps.ite ?_ ?_
    | with_reducible exact Keeps.refl
    | with_reducible assumption
    | ((with_reducible apply Keeps.wr); (case d => rfl); (case e => rfl))
    | ((with_reducible apply groupMark_keeps); (case hMk => rfl))
    | ((with_reducible apply groupView_keeps); (case hMk => rfl))
    | intro _
    | split
    | dsimp only
    | (refine Keeps.snd ?_ (by with_reducible assumption))

theorem strictStart_keeps {mk : Nat} {sIn : State} (clean : Bool) (w : Nat) (s : State) (hMk : 0x800000000000000000000000000000000000000000000000000000000000000000000000000000000000000000000000000000000000000000000000000000000000000000000000000000000000000000000000000000000000000000000000000000000000000000000000000000000000000000000000000000000000000000000000000000000000000000000000004000000000000000000000000000000000000000000000000000000000000000000000000000000000000000000000000000000000000000000000000000000000 ||| mk = mk) (hIn : Keeps mk sIn s) : Keeps mk sIn (strictStart clean w s) := by
  refine Keeps.step hMk ?_ hIn
  unfold strictStart
  try dsimp only
  repeat' first
    | with_reducible refine Keeps.ite ?_ ?_
    | with_reducible exact Keeps.refl
    | with_reducible assumption
    | ((with_reducible apply Keeps.put); (case d => rfl); (case e => rfl))
    | intro _
    | split
    | dsimp only
    | (refine Keeps.snd ?_ (by with_reducible assumption))
    | ((with_reducible apply Keeps.set_sec); (case e => rfl))

theorem execJnlOpenComplete_keeps (outcome : Fin 3) (t : Nat) (s : State) : KeepsR 0xd4718085000000000000000000020000000020000000000000000011d47c00c17c000000000000000000000000000000000000200000000000000000000000000000000003c00000000000000040000000000000186700018080000000080000000000000000000000000000000000000000000000000000000000000000000000000000000000000000000000000000000300c7fc0c000203e0000080bd800000000000000000000000000000000000000000000000000000000000000000000000000000000000000000000000000000000080 s (execJnlOpenComplete outcome t s) := by
  unfold execJnlOpenComplete
  try dsimp only
  repeat' first
    | (with_reducible refine KeepsR.next ?_)
    | (with_reducible refine KeepsR.ite ?_ ?_)
    | with_reducible refine Keeps.ite ?_ ?_
    | with_reducible exact Keeps.refl
    | with_reducible assumption
    | ((with_reducible apply Keeps.wr); (case d => rfl); (case e => rfl))
    | ((with_reducible apply Keeps.put); (case d => rfl); (case e => rfl))
    | ((with_reducible apply Keeps.at); (case e => rfl); (case e2 => rfl))
    | (with_reducible refine Keeps.each _ _ ?_ ?_)
    | ((with_reducible apply groupLoad_keeps); (case hMk => rfl))
    | ((with_reducible apply jnlAppend_keeps); (case hMk => rfl))
    | ((with_reducible apply jnlFail_keeps); (case hMk => rfl))
    | ((with_reducible apply jnlWriteHeader_keeps); (case hMk => rfl))
    | ((with_reducible apply modJnlEntry_keeps); (case hMk => rfl))
    | ((with_reducible apply raise_keeps); (case d => rfl); (case hMk => rfl); (case hMk2 => rfl))
    | ((with_reducible apply strictStart_keeps); (case hMk => rfl))
    | intro _
    | split
    | dsimp only
    | (refine Keeps.snd ?_ (by with_reducible assumption))
    | ((with_reducible apply Keeps.set_sec); (case e => rfl))

theorem snapBegin_keeps {mk : Nat} {sIn : State} (s : State) (hMk : 0x800000000000000000000000000000000000000000000000000000000000000000000000000000000000000000000000000000000000000000000000000000000000000000000000000000000000000000000000000000000000000000000000000000000000000000000000000000000000000000000000000000000000000000000000000000000000000000000000000000000000000000000000000000000000000000000000000000000000000000000000000000000000000000000000000000000000000000000000000000000000 ||| mk = mk) (hIn : Keeps mk sIn s) : Keeps mk sIn (snapBegin s) := by
  refine Keeps.step hMk ?_ hIn
  unfold snapBegin
  try dsimp only
  repeat' first
    | with_reducible refine Keeps.ite ?_ ?_
    | with_reducible exact Keeps.refl
    | with_reducible assumption
    | intro _
    | split
    | dsimp only
    | (refine Keeps.snd ?_ (by with_reducible assumption))
    | ((with_reducible apply Keeps.set_sec); (case e => rfl))

theorem snapDue_keeps {mk : Nat} {sIn : State} (s : State) (hMk : 0x800000000000000000000000000000000000000000000000000000000000000000000000000000000000000000000000000000000000000000000000000000000000000000000000000000000000000000000000000000000000000000000000000000000000000000000000000000000000000000000000000000000000000000000000000000000000000000000000000000000000000000000000000000000000000000000000000000000000000000000000000000000000000000000000000000000000000000000000000000000000 ||| mk = mk) (hIn : Keeps mk sIn s) : Keeps mk sIn (snapDue s) := by
  refine Keeps.step hMk ?_ hIn
  unfold snapDue
  try dsimp only
  repeat' first
    | with_reducible refine Keeps.ite ?_ ?_
    | with_reducible exact Keeps.refl
    | with_reducible assumption
    | ((with_reducible apply snapBegin_keeps); (case hMk => rfl))
    | intro _
    | split
    | dsimp only
    | (refine Keeps.snd ?_ (by with_reducible assumption))
    | ((with_reducible apply Keeps.set_sec); (case e => rfl))

theorem execJnlClose_keeps (t : Nat) (s : State) : KeepsR 0x8000800100000000000000000000000000000000000000000000000000000000000000000000000000000000000000000000000000000000000000000000000000000000000000000000000000000000000000000000000000000000000000000000000000000000000000000000000000000000000000000000000000000000000000000000000000000000000000000000000000000000002000000000000000000000000000000000000000000000000000000000000000000000000000000000000000000000000000000000000000000000 s (execJnlClose t s) := by
  unfold execJnlClose
  try dsimp only
  repeat' first
    | (with_reducible refine KeepsR.next ?_)
    | (with_reducible refine KeepsR.ite ?_ ?_)
    | with_reducible refine Keeps.ite ?_ ?_
    | with_reducible exact Keeps.refl
    | with_reducible assumption
    | ((with_reducible apply Keeps.wr); (case d => rfl); (case e => rfl))
    | ((with_reducible apply Keeps.at); (case e => rfl); (case e2 => rfl))
    | ((with_reducible apply snapDue_keeps); (case hMk => rfl))
    | intro _
    | split
    | dsimp only
    | (refine Keeps.snd ?_ (by with_reducible assumption))

theorem execJnlCloseComplete_keeps (t : Nat) (s : State) : KeepsR 0x8001000100000000000000000000000000000000000000000000000000000000000000000000000000000000000000000000000000000000000000000000000000000000000000000000000000000000000000000000000000000000000000000000000000000000000000000000000000000000000000000000000000000000000000000000000000000000000000000000000000000000002000000000800000000000000000000000000000000000000000000000000000000000000000000000000000000000000000000000000000000000 s (execJnlCloseComplete t s) := by
  unfold execJnlCloseComplete
  try dsimp only
  repeat' first
    | (with_reducible refine KeepsR.next ?_)
    | (with_reducible refine KeepsR.ite ?_ ?_)
    | with_reducible refine Keeps.ite ?_ ?_
    | with_reducible exact Keeps.refl
    | with_reducible assumption
    | ((with_reducible apply Keeps.wr); (case d => rfl); (case e => rfl))
    | ((with_reducible apply Keeps.put); (case d => rfl); (case e => rfl))
    | ((with_reducible apply Keeps.at); (case e => rfl); (case e2 => rfl))
    | ((with_reducible apply jnlWriteHeader_keeps); (case hMk => rfl))
    | intro _
    | split
    | dsimp only
    | (refine Keeps.snd ?_ (by with_reducible assumption))

theorem execJnlFormat_keeps (t : Nat) (s : State) : KeepsR 0x8001800100000000000000000000000000000000000000000000000000000000000000000000000000000000000000000000000000000000000000000000000000000000000000000000000000000000000000000000000000000000000000000000000000000000000000000000000000000000000000000000000000000000000000000000000000000000000000000000000000000000000000000000000000000000000000000000000000000000000000000000000000000000000000000000000000000000000000000000000000000000 s (execJnlFormat t s) := by
  unfold execJnlFormat
  try dsimp only
  repeat' first
    | (with_reducible refine KeepsR.next ?_)
    | (with_reducible refine KeepsR.ite ?_ ?_)
    | with_reducible refine Keeps.ite ?_ ?_
    | with_reducible exact Keeps.refl
    | with_reducible assumption
    | ((with_reducible apply Keeps.at); (case e => rfl); (case e2 => rfl))
    | ((with_reducible apply modJnl_keeps); (case hMk => rfl); (case hf => (intro m h; try dsimp only); repeat' first | with_reducible assumption | with_reducible apply jnlPut_wf | with_reducible apply jnlClear_wf | with_reducible apply hdrPut_wf | with_reducible apply entryPut_wf))
    | intro _
    | split
    | dsimp only
    | (refine Keeps.snd ?_ (by with_reducible assumption))
    | ((with_reducible apply Keeps.set_sec); (case e => rfl))

theorem execJnlFormatComplete_keeps (wraps : Bool) (t : Nat) (s : State) : KeepsR 0xd0718085000000000000000000020000000020000000000000000011d47c00c17c0000000000000000000000000000000000002000000000000000000000000000000000000000000000000000000000000000001867000180800000000800000000000000000000000000000000000000000000000000000000000000000000000000000000000000000000000000000000000000000000004000000000000000000000000000000000000000000000000000000000000000000000000000000000000000000000000000000000000000000080 s (execJnlFormatComplete wraps t s) := by
  unfold execJnlFormatComplete
  try dsimp only
  repeat' first
    | (with_reducible refine KeepsR.next ?_)
    | (with_reducible refine KeepsR.ite ?_ ?_)
    | with_reducible refine Keeps.ite ?_ ?_
    | with_reducible exact Keeps.refl
    | with_reducible assumption
    | ((with_reducible apply Keeps.at); (case e => rfl); (case e2 => rfl))
    | ((with_reducible apply Keeps.took); (case e => rfl))
    | ((with_reducible apply modJnl_keeps); (case hMk => rfl); (case hf => (intro m h; try dsimp only); repeat' first | with_reducible assumption | with_reducible apply jnlPut_wf | with_reducible apply jnlClear_wf | with_reducible apply hdrPut_wf | with_reducible apply entryPut_wf))
    | ((with_reducible apply setJnlErr_keeps); (case hMk => rfl))
    | intro _
    | split
    | dsimp only
    | (refine Keeps.snd ?_ (by with_reducible assumption))
    | ((with_reducible apply Keeps.set_sec); (case e => rfl))

theorem execSnapNow_keeps (t : Nat) (s : State) : KeepsR 0x8001800100000000000000000000000000000000000000000000000000000000000000000000000000000000000000000000000000000000000000000000000000000000000000000000000000000000000000000000000000000000000000000000000000000000000000000000000000000000000000000000000000000000000000000000000000000000000000000000000000000000002000000000800000000000000000000000000000000000000000000000000000000000000000000000000000000000000000000000000000000000 s (execSnapNow t s) := by
  unfold execSnapNow
  try dsimp only
  repeat' first
    | (with_reducible refine KeepsR.next ?_)
    | (with_reducible refine KeepsR.ite ?_ ?_)
    | with_reducible refine Keeps.ite ?_ ?_
    | with_reducible exact Keeps.refl
    | with_reducible assumption
    | ((with_reducible apply Keeps.at); (case e => rfl); (case e2 => rfl))
    | ((with_reducible apply jnlReopen_keeps); (case hMk => rfl))
    | ((with_reducible apply snapDue_keeps); (case hMk => rfl))
    | intro _
    | split
    | dsimp only
    | (refine Keeps.snd ?_ (by with_reducible assumption))

theorem execSnapPeriodExpiry_keeps (t : Nat) (s : State) : KeepsR 0xd010800100000000000000000000000000000000000000000000000000000000000000000000000000000000000000000000002000000000000000000000000000000000000000000000000000000000000000001867000180800000000800000000000000000000000000000000000000000000000000000000000000000000000000000000000000000000000000000000000000000000000000000400000000000000000000000000000000000000000000000000000000000000000000000000000000000000000000000000000000000000 s (execSnapPeriodExpiry t s) := by
  unfold execSnapPeriodExpiry
  try dsimp only
  repeat' first
    | (with_reducible refine KeepsR.next ?_)
    | (with_reducible refine KeepsR.ite ?_ ?_)
    | with_reducible refine Keeps.ite ?_ ?_
    | with_reducible exact Keeps.refl
    | with_reducible assumption
    | ((with_reducible apply Keeps.at); (case e => rfl); (case e2 => rfl))
    | ((with_reducible apply raise_keeps); (case d => rfl); (case hMk => rfl); (case hMk2 => rfl))
    | ((with_reducible apply snapDue_keeps); (case hMk => rfl))
    | intro _
    | split
    | dsimp only
    | (refine Keeps.snd ?_ (by with_reducible assumption))
    | ((with_reducible apply Keeps.set_sec); (case e => rfl))

theorem execSnapPassComplete_keeps (t : Nat) (s : State) : KeepsR 0xd011800100000000000000000000000000000000000000000000000000000000000000000000000000000000000000000000002000000000000000000000000000000000000000000000000000000000000000001867000180800000000800000000000000000000000000000000000000000000000000000000000000000000000000000000000000000000000000000000000000100000180000000200000000000000000000000000000000000000000000000000000000000000000000000000000000000000000000000000000000000000 s (execSnapPassComplete t s) := by
  unfold execSnapPassComplete
  try dsimp only
  repeat' first
    | (with_reducible refine KeepsR.next ?_)
    | (with_reducible refine KeepsR.ite ?_ ?_)
    | with_reducible refine Keeps.ite ?_ ?_
    | with_reducible exact Keeps.refl
    | with_reducible assumption
    | ((with_reducible apply Keeps.wr); (case d => rfl); (case e => rfl))
    | ((with_reducible apply Keeps.add); (case d => rfl); (case e => rfl))
    | ((with_reducible apply Keeps.at); (case e => rfl); (case e2 => rfl))
    | (with_reducible refine Keeps.each _ _ ?_ ?_)
    | ((with_reducible apply modJnlEntry_keeps); (case hMk => rfl))
    | ((with_reducible apply raise_keeps); (case d => rfl); (case hMk => rfl); (case hMk2 => rfl))
    | ((with_reducible apply snapBegin_keeps); (case hMk => rfl))
    | intro _
    | split
    | dsimp only
    | (refine Keeps.snd ?_ (by with_reducible assumption))
    | ((with_reducible apply Keeps.set_sec); (case e => rfl))

theorem execSecEngPeakRead_keeps (requester : Requester) (s : State) : KeepsR 0x800000000000000000000000000000000000000000000000000000000000000000000000000000000000000000000000000000000000000000000000000000000000000000000000000000000000000000000000000000000000000000000000000000000000000000000000000000000000000000000000000000000000000000000000000000000000000000000000000000001000000000000000000000000000000000000000000000000000000000000000000000000000000000000000000000000000000000000000000000000 s (execSecEngPeakRead requester s) := by
  unfold execSecEngPeakRead
  try dsimp only
  repeat' first
    | (with_reducible refine KeepsR.next ?_)
    | (with_reducible refine KeepsR.ite ?_ ?_)
    | with_reducible refine Keeps.ite ?_ ?_
    | with_reducible exact Keeps.refl
    | with_reducible assumption
    | ((with_reducible apply Keeps.wr); (case d => rfl); (case e => rfl))
    | ((with_reducible apply Keeps.answer); (case e => rfl))
    | intro _
    | split
    | dsimp only
    | (refine Keeps.snd ?_ (by with_reducible assumption))

theorem execSecJnlPeakRead_keeps (requester : Requester) (s : State) : KeepsR 0x800000000000000000000000000000000000000000000000000000000000000000000000000000000000000000000000000000000000000000000000000000000000000000000000000000000000000000000000000000000000000000000000000000000000000000000000000000000000000000000000000000000000000000000000000000000000000000000000000000002000000000000000000000000000000000000000000000000000000000000000000000000000000000000000000000000000000000000000000000000 s (execSecJnlPeakRead requester s) := by
  unfold execSecJnlPeakRead
  try dsimp only
  repeat' first
    | (with_reducible refine KeepsR.next ?_)
    | (with_reducible refine KeepsR.ite ?_ ?_)
    | with_reducible refine Keeps.ite ?_ ?_
    | with_reducible exact Keeps.refl
    | with_reducible assumption
    | ((with_reducible apply Keeps.wr); (case d => rfl); (case e => rfl))
    | ((with_reducible apply Keeps.answer); (case e => rfl))
    | intro _
    | split
    | dsimp only
    | (refine Keeps.snd ?_ (by with_reducible assumption))

end Sys2Proof.Machine
end

