-- ==== Sys2Proof/Laws/KeepsBoot.lean ====
section
/-!
SUPPORT. What each operation and each meaning changes: reset, boot, the Cave and the rings' commands. The mask of each law names the register fields and the parts of the
state, as `Only` reads it.
-/

set_option simprocs false
set_option linter.all false

namespace Sys2Proof.Machine

theorem setRole_keeps {mk : Nat} {sIn : State} (r : Nat) (s : State) (hMk : 0x50700080000000000000000000020000000020001000000000020011d47c00c17c0000000000000000000000000000000000002000000000000000000000000000000000000000000000000000000000000000001867000180800000000800000000000000000000000000000000000000000000000000000000000000000000000000000000000000000000000000000000000000000000000000000000000000000000000000000000000000000000000000000000000000000000000000000000000000000000000000000000000000000080 ||| mk = mk) (hIn : Keeps mk sIn s) : Keeps mk sIn (setRole r s) := by
  refine Keeps.step hMk ?_ hIn
  unfold setRole
  try dsimp only
  repeat' first
    | with_reducible refine Keeps.ite ?_ ?_
    | with_reducible exact Keeps.refl
    | with_reducible assumption
    | ((with_reducible apply Keeps.wr); (case d => rfl); (case e => rfl))
    | ((with_reducible apply faultBegin_keeps); (case hMk => rfl))
    | ((with_reducible apply faultEnd_keeps); (case hMk => rfl))
    | ((with_reducible apply peerFault_keeps); (case hMk => rfl))
    | ((with_reducible apply syncFault_keeps); (case hMk => rfl))
    | intro _
    | split
    | dsimp only
    | (refine Keeps.snd ?_ (by with_reducible assumption))

theorem mirStop_keeps {mk : Nat} {sIn : State} (s : State) (hMk : 0x507180a4000000000000000000020d100064a0000000008000040011d47c00c17c0000000000000000000000000000000000002000000000000000000000000000000000000000000000000000000000000000001c670009e080000000080000000000000000000000000000000000000000000000000000000000000000000000300180000000000000000000000000000f00003c020060002000000074800000000000000000000000000000000000000000000000000000000000000000000000000000000000000000000000000000000080 ||| mk = mk) (hIn : Keeps mk sIn s) : Keeps mk sIn (mirStop s) := by
  refine Keeps.step hMk ?_ hIn
  unfold mirStop
  try dsimp only
  repeat' first
    | with_reducible refine Keeps.ite ?_ ?_
    | with_reducible exact Keeps.refl
    | with_reducible assumption
    | ((with_reducible apply mirEmpty_keeps); (case hMk => rfl))
    | ((with_reducible apply modPair_keeps); (case hMk => rfl))
    | ((with_reducible apply resRelease_keeps); (case hMk => rfl))
    | intro _
    | split
    | dsimp only
    | (refine Keeps.snd ?_ (by with_reducible assumption))

theorem pairIdle_keeps {mk : Nat} {sIn : State} (s : State) (hMk : 0x507180a4000000000000000000024d100064a0000000008006040011d47c00c17c0000000000000000000000000000000000002000000000000000000000000000000000000000000000000000000000000000001c670009e080000000080000000000000000000000000000000000000000000000000000000000000000000000300180000000000000000000000000000f00003c020060002000000074800000000000000000000000000000000000000000000000000000000000000000000000000000000000000000000000000000000080 ||| mk = mk) (hIn : Keeps mk sIn s) : Keeps mk sIn (pairIdle s) := by
  refine Keeps.step hMk ?_ hIn
  unfold pairIdle
  try dsimp only
  repeat' first
    | with_reducible refine Keeps.ite ?_ ?_
    | with_reducible exact Keeps.refl
    | with_reducible assumption
    | ((with_reducible apply Keeps.wr); (case d => rfl); (case e => rfl))
    | ((with_reducible apply Keeps.put); (case d => rfl); (case e => rfl))
    | ((with_reducible apply mirStop_keeps); (case hMk => rfl))
    | ((with_reducible apply modPair_keeps); (case hMk => rfl))
    | intro _
    | split
    | dsimp only
    | (refine Keeps.snd ?_ (by with_reducible assumption))

theorem pairBegin_keeps {mk : Nat} {sIn : State} (r : Nat) (s : State) (hMk : 0x507180a4000000000000000000024d100064a00010000080063e0011d47c00c17c0000000000000000000000000000000000002000000000000000000000000000000000000000000000000000000000000000001c670009e080000000080000000000000000000000000000000000000000000000000000000000000000000000300180000000000000000000000000000f00003c020060002000000074800000000000000000000000000000000000000000000000000000000000000000000000000000000000000000000000000000000080 ||| mk = mk) (hIn : Keeps mk sIn s) : Keeps mk sIn (pairBegin r s) := by
  refine Keeps.step hMk ?_ hIn
  unfold pairBegin
  try dsimp only
  repeat' first
    | with_reducible refine Keeps.ite ?_ ?_
    | with_reducible exact Keeps.refl
    | with_reducible assumption
    | ((with_reducible apply Keeps.wr); (case d => rfl); (case e => rfl))
    | ((with_reducible apply Keeps.put); (case d => rfl); (case e => rfl))
    | ((with_reducible apply modPair_keeps); (case hMk => rfl))
    | ((with_reducible apply pairIdle_keeps); (case hMk => rfl))
    | ((with_reducible apply setRole_keeps); (case hMk => rfl))
    | intro _
    | split
    | dsimp only
    | (refine Keeps.snd ?_ (by with_reducible assumption))

theorem roleHold_keeps {mk : Nat} {sIn : State} (s : State) (hMk : 0x507180a4000000000000000000024d100064a00010000080063e0011d47c00c17c0000000000000000000000000000000000002000000000000000000000000000000000000000000000000000000000000000001c670009e080000000080000000000000000000000000000000000000000000000000000000000000000000000300180000000000000000000000000000f00003c020060002000000074800000000000000000000000000000000000000000000000000000000000000000000000000000000000000000000000000000000080 ||| mk = mk) (hIn : Keeps mk sIn s) : Keeps mk sIn (roleHold s) := by
  refine Keeps.step hMk ?_ hIn
  unfold roleHold
  try dsimp only
  repeat' first
    | with_reducible refine Keeps.ite ?_ ?_
    | with_reducible exact Keeps.refl
    | with_reducible assumption
    | ((with_reducible apply pairBegin_keeps); (case hMk => rfl))
    | intro _
    | split
    | dsimp only
    | (refine Keeps.snd ?_ (by with_reducible assumption))

theorem pairDead_keeps {mk : Nat} {sIn : State} (s : State) (hMk : 0x507180a4000000000000000000024d100064a00010000080063e0011d47c00c17c0000000000000000000000000000000000002000000000000000000000000000000000000000000000000000000000000000001c670009e080000000080000000000000000000000000000000000000000000000000000000000000000000000300180000000000000000000000000000f00003c020060002000000074800000000000000000000000000000000000000000000000000000000000000000000000000000000000000000000000000000000080 ||| mk = mk) (hIn : Keeps mk sIn s) : Keeps mk sIn (pairDead s) := by
  refine Keeps.step hMk ?_ hIn
  unfold pairDead
  try dsimp only
  repeat' first
    | with_reducible refine Keeps.ite ?_ ?_
    | with_reducible exact Keeps.refl
    | with_reducible assumption
    | ((with_reducible apply modPair_keeps); (case hMk => rfl))
    | ((with_reducible apply roleHold_keeps); (case hMk => rfl))
    | ((with_reducible apply yieldSet_keeps); (case hMk => rfl))
    | intro _
    | split
    | dsimp only
    | (refine Keeps.snd ?_ (by with_reducible assumption))

theorem modCel_keeps {mk : Nat} {sIn : State} (f : Cel → Cel) (s : State) (hMk : 0x2000000000000000000000000000000000000000000000000000000000000000000000000000000000000000000000000000000000000000000000000000000000000000000000000000000000000000000000000000000000000000000000000000000000000000000000000000000000000000000000000000000000000000000000000000000000000000000000000000000000000000000000000000000000000000000000000000000000000000000000000000000000000000000000000000000000000000000000000000000000000000 ||| mk = mk) (hIn : Keeps mk sIn s) : Keeps mk sIn (modCel f s) := by
  refine Keeps.step hMk ?_ hIn
  unfold modCel
  try dsimp only
  repeat' first
    | with_reducible refine Keeps.ite ?_ ?_
    | with_reducible exact Keeps.refl
    | with_reducible assumption
    | intro _
    | split
    | dsimp only
    | (refine Keeps.snd ?_ (by with_reducible assumption))
    | ((with_reducible apply Keeps.set_cel); (case e => rfl))

theorem tlogView_keeps {mk : Nat} {sIn : State} (s : State) (hMk : 0x50700080000000000000000000020000000020000000000000000011d47c00c17c0000000000000000000000000000000000002000000000000000000000000000000000000000000100040000000000000000001867000180800000000800000000000000000000000000000000000000000000000000000000000000000000000000000000000000000000000000000000000000000000000000000000000000000000000000000000000000000000000000000000000000000000000000000000000000000000000000000000000000000080 ||| mk = mk) (hIn : Keeps mk sIn s) : Keeps mk sIn (tlogView s) := by
  refine Keeps.step hMk ?_ hIn
  unfold tlogView
  try dsimp only
  repeat' first
    | with_reducible refine Keeps.ite ?_ ?_
    | with_reducible exact Keeps.refl
    | with_reducible assumption
    | ((with_reducible apply Keeps.wr); (case d => rfl); (case e => rfl))
    | ((with_reducible apply faultBegin_keeps); (case hMk => rfl))
    | ((with_reducible apply faultEnd_keeps); (case hMk => rfl))
    | intro _
    | split
    | dsimp only
    | (refine Keeps.snd ?_ (by with_reducible assumption))

theorem tlogWrite_keeps {mk : Nat} {sIn : State} (k : Nat) (phase : Nat) (s : State) (hMk : 0x5010000000000000000000000000000000000000000000000000000000000000000000000000000000000000000000000000002000000000000000000000000000000007f80000000000120010000000000000001867000180800000000800000000000000000000000000000000000000000000000000000000000000000000000000000000000000000000000000000000000000000000000000000000000000000000000000000000000000000000000000000000000000000000000000000000000000000000000000000000000000000000 ||| mk = mk) (hIn : Keeps mk sIn s) : Keeps mk sIn (tlogWrite k phase s) := by
  refine Keeps.step hMk ?_ hIn
  unfold tlogWrite
  try dsimp only
  repeat' first
    | with_reducible refine Keeps.ite ?_ ?_
    | with_reducible exact Keeps.refl
    | with_reducible assumption
    | ((with_reducible apply Keeps.wr); (case d => rfl); (case e => rfl))
    | ((with_reducible apply Keeps.put); (case d => rfl); (case e => rfl))
    | ((with_reducible apply Keeps.addSat); (case d => rfl); (case e => rfl))
    | (with_reducible refine Keeps.when _ _ ?_ ?_)
    | ((with_reducible apply raise_keeps); (case d => rfl); (case hMk => rfl); (case hMk2 => rfl))
    | intro _
    | split
    | dsimp only
    | (refine Keeps.snd ?_ (by with_reducible assumption))

theorem tlogAck_keeps {mk : Nat} {sIn : State} (mask : Nat) (code : Nat) (s : State) (hMk : 0x50700080000000000000000000020000000020000000000000000011d47c00c17c0000000000000000000000000000000000002000000000000000000000000000000001000000000100140000000000000000001867000180800000000800000000000000000000000000000000000000000000000000000000000000000000000000000000000000000000000000000000000000000000000000000000000000000000000000000000000000000000000000000000000000000000000000000000000000000000000000000000000000000080 ||| mk = mk) (hIn : Keeps mk sIn s) : Keeps mk sIn (tlogAck mask code s) := by
  refine Keeps.step hMk ?_ hIn
  unfold tlogAck
  try dsimp only
  repeat' first
    | with_reducible refine Keeps.ite ?_ ?_
    | with_reducible exact Keeps.refl
    | with_reducible assumption
    | ((with_reducible apply Keeps.wr); (case d => rfl); (case e => rfl))
    | ((with_reducible apply Keeps.put); (case d => rfl); (case e => rfl))
    | (with_reducible refine Keeps.each _ _ ?_ ?_)
    | ((with_reducible apply tlogView_keeps); (case hMk => rfl))
    | intro _
    | split
    | dsimp only
    | (refine Keeps.snd ?_ (by with_reducible assumption))

theorem tlogClear_keeps {mk : Nat} {sIn : State} (s : State) (hMk : 0x50700080000000000000000000020000000020000000000000000011d47c00c17c0000000000000000000000000000000000002000000000000000000000000000000007f80000000100160000000000000000001867000180800000000800000000000000000000000000000000000000000000000000000000000000000000000000000000000000000000000000000000000000000000000000000000000000000000000000000000000000000000000000000000000000000000000000000000000000000000000000000000000000000080 ||| mk = mk) (hIn : Keeps mk sIn s) : Keeps mk sIn (tlogClear s) := by
  refine Keeps.step hMk ?_ hIn
  unfold tlogClear
  try dsimp only
  repeat' first
    | with_reducible refine Keeps.ite ?_ ?_
    | with_reducible exact Keeps.refl
    | with_reducible assumption
    | ((with_reducible apply Keeps.wr); (case d => rfl); (case e => rfl))
    | ((with_reducible apply Keeps.put); (case d => rfl); (case e => rfl))
    | (with_reducible refine Keeps.each _ _ ?_ ?_)
    | ((with_reducible apply tlogView_keeps); (case hMk => rfl))
    | intro _
    | split
    | dsimp only
    | (refine Keeps.snd ?_ (by with_reducible assumption))

theorem htkDrop_keeps {mk : Nat} {sIn : State} (s : State) (hMk : 0x40000000000000000000000000000000000000000000000000000000000000000000000000000000000000000000000000000000000000000000000000000000000000003c000000000000000480000000000000000000000000000000000000000000000000000000000000000000000000000000000000000000000000000000000000000000000000000000000000000000000000000000000000000000000000000000000000000000000000000000000000000000000000000000000000000000000000000000000000000000000000000 ||| mk = mk) (hIn : Keeps mk sIn s) : Keeps mk sIn (htkDrop s) := by
  refine Keeps.step hMk ?_ hIn
  unfold htkDrop
  try dsimp only
  repeat' first
    | with_reducible refine Keeps.ite ?_ ?_
    | with_reducible exact Keeps.refl
    | with_reducible assumption
    | ((with_reducible apply Keeps.put); (case d => rfl); (case e => rfl))
    | ((with_reducible apply slotClear_keeps); (case hMk => rfl))
    | intro _
    | split
    | dsimp only
    | (refine Keeps.snd ?_ (by with_reducible assumption))

theorem htkDerive_keeps {mk : Nat} {sIn : State} (s : State) (hMk : 0x40000040000000000000000000000000000000000000000000000000000000000000000000000000000000000000000000000000000000000000000000000000000000003c000000000000000480000000000000000000000000000000000000000000000000000000000000000000000000000000000000000000000000000000000000000000000000000000000000000000000000000000000000000000000000000000000000000000000000000000000000000000000000000000000000000000000000000000000000000000000000000 ||| mk = mk) (hIn : Keeps mk sIn s) : Keeps mk sIn (htkDerive s) := by
  refine Keeps.step hMk ?_ hIn
  unfold htkDerive
  try dsimp only
  repeat' first
    | with_reducible refine Keeps.ite ?_ ?_
    | with_reducible exact Keeps.refl
    | with_reducible assumption
    | ((with_reducible apply Keeps.put); (case d => rfl); (case e => rfl))
    | ((with_reducible apply slotFill_keeps); (case hMk => rfl))
    | intro _
    | split
    | dsimp only
    | (refine Keeps.snd ?_ (by with_reducible assumption))

theorem keysClear_keeps {mk : Nat} {sIn : State} (s : State) (hMk : 0x40080000000000000000000000000000000000000000000000000000000000000000000000000000000000000000000000000000000000000000000000000000000000003c000000000000000480000000000000000000000000000000000000000000000000000000000000000000000000000000000000000000000000000000000000000000000000000000000000000000000000000200000000000000000000000000000000000000000000000000000000000000000000000000000000000000000000000000000000000000000000000 ||| mk = mk) (hIn : Keeps mk sIn s) : Keeps mk sIn (keysClear s) := by
  refine Keeps.step hMk ?_ hIn
  unfold keysClear
  try dsimp only
  repeat' first
    | with_reducible refine Keeps.ite ?_ ?_
    | with_reducible exact Keeps.refl
    | with_reducible assumption
    | ((with_reducible apply Keeps.put); (case d => rfl); (case e => rfl))
    | (with_reducible refine Keeps.each _ _ ?_ ?_)
    | ((with_reducible apply cacheSet_keeps); (case hMk => rfl))
    | ((with_reducible apply slotClear_keeps); (case hMk => rfl))
    | intro _
    | split
    | dsimp only
    | (refine Keeps.snd ?_ (by with_reducible assumption))

theorem enginesAbort_keeps {mk : Nat} {sIn : State} (n : Nat) (s : State) (hMk : 0x1a0000000000000000000000000000000000000000000000000000000000000000000000000000000000000000000000000000000000000000000000000000000000000000400000000000000000000000000000000000000000000000000000000000000000000000000000000000000000000000000000000000000000000000000000000000000000000000000000000000000000000000000000000000000000000000000000000000000000000000000000000000000000000000000000000000000000000000000000000000000000 ||| mk = mk) (hIn : Keeps mk sIn s) : Keeps mk sIn (enginesAbort n s) := by
  refine Keeps.step hMk ?_ hIn
  unfold enginesAbort
  try dsimp only
  repeat' first
    | with_reducible refine Keeps.ite ?_ ?_
    | with_reducible exact Keeps.refl
    | with_reducible assumption
    | ((with_reducible apply Keeps.add); (case d => rfl); (case e => rfl))
    | (with_reducible refine Keeps.each _ _ ?_ ?_)
    | ((with_reducible apply modLane_keeps); (case hMk => rfl))
    | ((with_reducible apply modMac_keeps); (case hMk => rfl))
    | ((with_reducible apply modSlice_keeps); (case hMk => rfl))
    | intro _
    | split
    | dsimp only
    | (refine Keeps.snd ?_ (by with_reducible assumption))

theorem caveWipe_keeps {mk : Nat} {sIn : State} (keyOp : Bool) (s : State) (hMk : 0x54109a000000000000000000000000000000000000000000000000000000000000000000000000000000000000000000000000200000000000000000000000000000000003c000500000000001480000000000001867000180800000000800000000000000000000000000000000000000000000000000000000000000000000000000000000000000000000000000000000000000000000200000000000000000000000000000000000000000000000000000000000000000000000000000000000000000000000000000000000000000000000 ||| mk = mk) (hIn : Keeps mk sIn s) : Keeps mk sIn (caveWipe keyOp s) := by
  refine Keeps.step hMk ?_ hIn
  unfold caveWipe
  try dsimp only
  repeat' first
    | with_reducible refine Keeps.ite ?_ ?_
    | with_reducible exact Keeps.refl
    | with_reducible assumption
    | ((with_reducible apply Keeps.inc); (case d => rfl); (case e => rfl))
    | ((with_reducible apply enginesAbort_keeps); (case hMk => rfl))
    | ((with_reducible apply keysClear_keeps); (case hMk => rfl))
    | ((with_reducible apply raise_keeps); (case d => rfl); (case hMk => rfl); (case hMk2 => rfl))
    | intro _
    | split
    | dsimp only
    | (refine Keeps.snd ?_ (by with_reducible assumption))

theorem caveGo_keeps {mk : Nat} {sIn : State} (st : Nat) (s : State) (hMk : 0x40000040000000000000000000000000000000000000000000000000000000000000000000000000000000000000000000000000000000000000000000000000000000003c000000000000000440000000000000000000000000000000000000000000000000000000000000000000000000000000000000000000000000000000000000000000000000000000000000000000000000000000000000000000000000000000000000000000000000000000000000000000000000000000000000000000000000000000000000000000000000000 ||| mk = mk) (hIn : Keeps mk sIn s) : Keeps mk sIn (caveGo st s) := by
  refine Keeps.step hMk ?_ hIn
  unfold caveGo
  try dsimp only
  repeat' first
    | with_reducible refine Keeps.ite ?_ ?_
    | with_reducible exact Keeps.refl
    | with_reducible assumption
    | ((with_reducible apply Keeps.wr); (case d => rfl); (case e => rfl))
    | (with_reducible refine Keeps.each _ _ ?_ ?_)
    | ((with_reducible apply groupView_keeps); (case hMk => rfl))
    | intro _
    | split
    | dsimp only
    | (refine Keeps.snd ?_ (by with_reducible assumption))

theorem bootStage_keeps {mk : Nat} {sIn : State} (st : Nat) (us : Nat) (s : State) (hMk : 0x800000000000000000000000000000000000000000000000000000000000000000000000000000000000000000000000000000000000000006000000000000800000000000000000000000000000000000000000000000000000000000000000000000000000000000000000000000000000000000000000000000000000000000000000000000000000000000000000000000000000000000000000000000000000000000000000000000000000000000000000000000000000000000000000000000000000000000000000000000000000000 ||| mk = mk) (hIn : Keeps mk sIn s) : Keeps mk sIn (bootStage st us s) := by
  refine Keeps.step hMk ?_ hIn
  unfold bootStage
  try dsimp only
  repeat' first
    | with_reducible refine Keeps.ite ?_ ?_
    | with_reducible exact Keeps.refl
    | with_reducible assumption
    | ((with_reducible apply Keeps.wr); (case d => rfl); (case e => rfl))
    | intro _
    | split
    | dsimp only
    | (refine Keeps.snd ?_ (by with_reducible assumption))
    | ((with_reducible apply Keeps.set_boot); (case e => rfl))

theorem holdEnter_keeps {mk : Nat} {sIn : State} (us : Nat) (s : State) (hMk : 0xc0080040000000000000000000000000000000000000000000000000018000004000000000000000000000000000000000000000000000000600000000000080000000003c1000000000000004c0000000000000000000000000000000000000000000000000000000000000000000000000000000000000000000000000000000000000000000000000000000000000000000000000000200000000000000000000000000000000000000000000000000000000000000000000000000000000000000000000000000000000000000000000000 ||| mk = mk) (hIn : Keeps mk sIn s) : Keeps mk sIn (holdEnter us s) := by
  refine Keeps.step hMk ?_ hIn
  unfold holdEnter
  try dsimp only
  repeat' first
    | with_reducible refine Keeps.ite ?_ ?_
    | with_reducible exact Keeps.refl
    | with_reducible assumption
    | ((with_reducible apply Keeps.inc); (case d => rfl); (case e => rfl))
    | ((with_reducible apply bootStage_keeps); (case hMk => rfl))
    | ((with_reducible apply caveGo_keeps); (case hMk => rfl))
    | ((with_reducible apply keysClear_keeps); (case hMk => rfl))
    | ((with_reducible apply latchView_keeps); (case hMk => rfl))
    | ((with_reducible apply modCave_keeps); (case hMk => rfl); (case hf => first | exact fun _ h => h | exact fun _ _ => rfl | exact fun _ h => putWords_wf _ _ h))
    | intro _
    | split
    | dsimp only
    | (refine Keeps.snd ?_ (by with_reducible assumption))

theorem caveAnswer_keeps {mk : Nat} {sIn : State} (a : Bool) (keyOp : Bool) (s : State) (hMk : 0x5c719aa4000000000000000000024d100064a00010000080063e0011d47c00c17c000000000000000000000000000000000000200000000000600000000000080000000003c1005000000000054c0000000000001c670009e080000000080000000000000000000000000000000000000000000000000000000000000000000000300180000000000000000000000000000f00003c020060202000000074800000000000000000000000000000000000000000000000000000000000000000000000000000000000000000000000000000000080 ||| mk = mk) (hIn : Keeps mk sIn s) : Keeps mk sIn (caveAnswer a keyOp s) := by
  refine Keeps.step hMk ?_ hIn
  unfold caveAnswer
  try dsimp only
  repeat' first
    | with_reducible refine Keeps.ite ?_ ?_
    | with_reducible exact Keeps.refl
    | with_reducible assumption
    | ((with_reducible apply Keeps.took); (case e => rfl))
    | ((with_reducible apply caveGo_keeps); (case hMk => rfl))
    | ((with_reducible apply caveWipe_keeps); (case hMk => rfl))
    | ((with_reducible apply holdEnter_keeps); (case hMk => rfl))
    | ((with_reducible apply pairDead_keeps); (case hMk => rfl))
    | ((with_reducible apply raise_keeps); (case d => rfl); (case hMk => rfl); (case hMk2 => rfl))
    | intro _
    | split
    | dsimp only
    | (refine Keeps.snd ?_ (by with_reducible assumption))

theorem classAResponse_keeps {mk : Nat} {sIn : State} (s : State) (hMk : 0x2000000000000000000000000000000000000000000000000000000000000000000000000000000000000000000000000000000000000000000000000000000000000000000000000000210000000000000000000000000000000000000000000000000000000000000000000000000000000000000000000000000000000000000000000000000000000000000000000000000000000000000000000000000000000000000000000000000000000000000000000000000000000000000000000000000000000000000000000000000000000000 ||| mk = mk) (hIn : Keeps mk sIn s) : Keeps mk sIn (classAResponse s) := by
  refine Keeps.step hMk ?_ hIn
  unfold classAResponse
  try dsimp only
  repeat' first
    | with_reducible refine Keeps.ite ?_ ?_
    | with_reducible exact Keeps.refl
    | with_reducible assumption
    | ((with_reducible apply Keeps.put); (case d => rfl); (case e => rfl))
    | (with_reducible refine Keeps.when _ _ ?_ ?_)
    | ((with_reducible apply modCel_keeps); (case hMk => rfl))
    | intro _
    | split
    | dsimp only
    | (refine Keeps.snd ?_ (by with_reducible assumption))

theorem rindWake_keeps {mk : Nat} {sIn : State} (mask : Nat) (s : State) (hMk : 0x40000000000000000000000000000000000000000000000000000000000000000000000000000000000000000000000000000000000000000000000000000000000000000000000000000000000000000000000000000000000000000000000000000000000000000000000000000000000000000000000000000000000000000000000000000000000000000000000000000000000000000000000000000000000000000000000000000 ||| mk = mk) (hIn : Keeps mk sIn s) : Keeps mk sIn (rindWake mask s) := by
  refine Keeps.step hMk ?_ hIn
  unfold rindWake
  try dsimp only
  repeat' first
    | with_reducible refine Keeps.ite ?_ ?_
    | with_reducible exact Keeps.refl
    | with_reducible assumption
    | ((with_reducible apply Keeps.wr); (case d => rfl); (case e => rfl))
    | intro _
    | split
    | dsimp only
    | (refine Keeps.snd ?_ (by with_reducible assumption))

theorem rindTrip_keeps {mk : Nat} {sIn : State} (l : List Nat) (keyOp : Bool) (s : State) (hMk : 0x7c719aa4000000000000000000024d100064a00010000080063e0011d47c00c17c0000000000000000040000000000000000002000000000006000000000000800000007ffc1005001003f0015cc0000000000001c670009e080000000080000000000000000000000000000000000000000000000000000000000000000000000300180000000000000000000000000000f00003c020060202000000074800000000000000000000000000000000000000000000000000000000000000000000000000000000000000000000000000000000080 ||| mk = mk) (hIn : Keeps mk sIn s) : Keeps mk sIn (rindTrip l keyOp s) := by
  refine Keeps.step hMk ?_ hIn
  unfold rindTrip
  try dsimp only
  repeat' first
    | with_reducible refine Keeps.ite ?_ ?_
    | with_reducible exact Keeps.refl
    | with_reducible assumption
    | ((with_reducible apply Keeps.put); (case d => rfl); (case e => rfl))
    | ((with_reducible apply Keeps.inc); (case d => rfl); (case e => rfl))
    | (with_reducible refine Keeps.each _ _ ?_ ?_)
    | ((with_reducible apply caveAnswer_keeps); (case hMk => rfl))
    | ((with_reducible apply classAResponse_keeps); (case hMk => rfl))
    | ((with_reducible apply raise_keeps); (case d => rfl); (case hMk => rfl); (case hMk2 => rfl))
    | ((with_reducible apply rindWake_keeps); (case hMk => rfl))
    | ((with_reducible apply tlogView_keeps); (case hMk => rfl))
    | ((with_reducible apply tlogWrite_keeps); (case hMk => rfl))
    | intro _
    | split
    | dsimp only
    | (refine Keeps.snd ?_ (by with_reducible assumption))

theorem modBoot_keeps {mk : Nat} {sIn : State} (f : Boot → Boot) (s : State) (hMk : 0x800000000000000000000000000000000000000000000000000000000000000000000000000000000000000000000000000000000000000000000000000000000000000000000000000000000000000000000000000000000000000000000000000000000000000000000000000000000000000000000000000000000000000000000000000000000000000000000000000000000000000000000000000000000000000000000000000000000000000000000000000000000000000000000000000000000000000000000000000000000000000 ||| mk = mk) (hIn : Keeps mk sIn s) : Keeps mk sIn (modBoot f s) := by
  refine Keeps.step hMk ?_ hIn
  unfold modBoot
  try dsimp only
  repeat' first
    | with_reducible refine Keeps.ite ?_ ?_
    | with_reducible exact Keeps.refl
    | with_reducible assumption
    | intro _
    | split
    | dsimp only
    | (refine Keeps.snd ?_ (by with_reducible assumption))
    | ((with_reducible apply Keeps.set_boot); (case e => rfl))

theorem svnCut_keeps {mk : Nat} {sIn : State} (s : State) (hMk : 0x200000400000000000000000000000000000000000000000000000000000000000000000000000000000000000000000000000000000000000000000000000000000000000000000000000000000000000000000000000000000000000000000000000000000000000000000000000000000000000000000000000000000000000000000000000000000000000000000000000000000000000000000000000000000000000000000000000000000000000000000000000000000000000000000000000000000000000000000000000000000000 ||| mk = mk) (hIn : Keeps mk sIn s) : Keeps mk sIn (svnCut s) := by
  refine Keeps.step hMk ?_ hIn
  unfold svnCut
  try dsimp only
  repeat' first
    | with_reducible refine Keeps.ite ?_ ?_
    | with_reducible exact Keeps.refl
    | with_reducible assumption
    | ((with_reducible apply Keeps.took); (case e => rfl))
    | intro _
    | split
    | dsimp only
    | (refine Keeps.snd ?_ (by with_reducible assumption))
    | ((with_reducible apply Keeps.set_fuse); (case e => rfl))

theorem fuseGroup_keeps {mk : Nat} {sIn : State} (s : State) (hMk : 0x200000000000000000000000000000000000000000000000000000000000000000000000000000000000000000000000000000000000000000000000000000000000000000000000000000000000000000000000000000000000000000000000000000000000000000000000000000000000000000000000000000000000000000000000000000000000000000000000000000000000000000000000000000000000000000000000000000000000000000000000000000000000000000000000000000000000000000000000000000000000000 ||| mk = mk) (hIn : Keeps mk sIn s) : Keeps mk sIn (fuseGroup s) := by
  refine Keeps.step hMk ?_ hIn
  unfold fuseGroup
  try dsimp only
  repeat' first
    | with_reducible refine Keeps.ite ?_ ?_
    | with_reducible exact Keeps.refl
    | with_reducible assumption
    | intro _
    | split
    | dsimp only
    | (refine Keeps.snd ?_ (by with_reducible assumption))
    | ((with_reducible apply Keeps.set_fuse); (case e => rfl))

theorem fuseCut_keeps {mk : Nat} {sIn : State} (s : State) (hMk : 0x200000400000000000000000000000000000000000000000000000000000000000000000000000000000000000000000000000000000000000000000000000000000000000000000000000000000000000000000000000000000000000000000000000000000000000000000000000000000000000000000000000000000000000000000000000000000000000000000000000000000000000000000000000000000000000000000000000000000000000000000000000000000000000000000000000000000000000000000000000000000000 ||| mk = mk) (hIn : Keeps mk sIn s) : Keeps mk sIn (fuseCut s) := by
  refine Keeps.step hMk ?_ hIn
  unfold fuseCut
  try dsimp only
  repeat' first
    | with_reducible refine Keeps.ite ?_ ?_
    | with_reducible exact Keeps.refl
    | with_reducible assumption
    | ((with_reducible apply Keeps.took); (case e => rfl))
    | ((with_reducible apply fuseGroup_keeps); (case hMk => rfl))
    | intro _
    | split
    | dsimp only
    | (refine Keeps.snd ?_ (by with_reducible assumption))

theorem coreClear_keeps {mk : Nat} {sIn : State} (cold : Bool) (s : State) (hMk : 0x7defefff7ffffffffffffffffffffffffffffffffffffffffffffffffffffffffffffffffffffffffffffffffffffffffffffffffffffffffffffffffffffffffffffffffffffffffffffffffffffffffffffffffffffffffffffffffffffffffffffffffffffffffffffffffffffffffffffffffffffffffffffffffffffffffffffffffffffffffffffffffffffffffffffffffffffffffffffffffffffffffffffffffffffffffffffffffffffffffffffffffffffffffffffffffffffffffffffffffffffffffffffffffffffffffffffffff ||| mk = mk) (hIn : Keeps mk sIn s) : Keeps mk sIn (coreClear cold s) := by
  have q : Keeps 0x7defefff7ffffffffffffffffffffffffffffffffffffffffffffffffffffffffffffffffffffffffffffffffffffffffffffffffffffffffffffffffffffffffffffffffffffffffffffffffffffffffffffffffffffffffffffffffffffffffffffffffffffffffffffffffffffffffffffffffffffffffffffffffffffffffffffffffffffffffffffffffffffffffffffffffffffffffffffffffffffffffffffffffffffffffffffffffffffffffffffffffffffffffffffffffffffffffffffffffffffffffffffffffffffffffffffffff s (fuseCut (svnCut s)) := fuseCut_keeps _ rfl (svnCut_keeps _ rfl Keeps.refl)
  refine Keeps.step hMk (q.trans ?_) hIn
  exact {
    rd := fun f k h => by rw [all_bit (show 0xffffffffffffffffffffffffffffffffffffffffffffffffffffffffffffffffffffffffffffffffffffffffffffffffffffffffffffffffffffffffffffffffffffffffffffffffffffffffffffffffffffffffffffffffffffffffffffffffffffffffffffffffffffffffffffffffffffffffffffffffffffffffffffffffffffffffffffffffffffffffffffffffffffffffffffffffffffffffffffffffffffffffffffffffffffffffffffffffffffffffffffffffffffffffffffffffffffffffffffffffffffffffffffffff ||| 0x7defefff7ffffffffffffffffffffffffffffffffffffffffffffffffffffffffffffffffffffffffffffffffffffffffffffffffffffffffffffffffffffffffffffffffffffffffffffffffffffffffffffffffffffffffffffffffffffffffffffffffffffffffffffffffffffffffffffffffffffffffffffffffffffffffffffffffffffffffffffffffffffffffffffffffffffffffffffffffffffffffffffffffffffffffffffffffffffffffffffffffffffffffffffffffffffffffffffffffffffffffffffffffffffffffffffffff = 0x7defefff7ffffffffffffffffffffffffffffffffffffffffffffffffffffffffffffffffffffffffffffffffffffffffffffffffffffffffffffffffffffffffffffffffffffffffffffffffffffffffffffffffffffffffffffffffffffffffffffffffffffffffffffffffffffffffffffffffffffffffffffffffffffffffffffffffffffffffffffffffffffffffffffffffffffffffffffffffffffffffffffffffffffffffffffffffffffffffffffffffffffffffffffffffffffffffffffffffffffffffffffffffffffffffffffffff from rfl) k] at h; cases h
    pending := rfl
    rc := fun h => by cases h
    tsuOfs := fun h => by cases h
    freeCtr := fun _ => rfl
    bus := fun _ => rfl
    latch := fun h => by cases h
    nodes := fun h => by cases h
    hoar := fun h => by cases h
    fe := fun h => by cases h
    dc := fun h => by cases h
    slices := fun h => by cases h
    sniffers := fun h => by cases h
    mac := fun h => by cases h
    lanes := fun h => by cases h
    src := fun h => by cases h
    qms := fun h => by cases h
    sec := fun h => by cases h
    jdev := fun _ => rfl
    fwd := fun h => by cases h
    camps := fun h => by cases h
    pressOctets := fun h => by cases h
    hif := fun h => by cases h
    flt := fun h => by cases h
    pair := fun h => by cases h
    tsu := fun h => by cases h
    anchor := fun _ => rfl
    fuse := fun _ => rfl
    cave := fun h => by cases h
    boot := fun h => by cases h
    pcr := fun h => by cases h
    cel := fun _ => rfl
    mem := fun h => by cases h
    frac := fun h => by cases h
    plans := fun h => by cases h
    specAt := fun h => by cases h
    pressAt := fun h => by cases h
    form := fun h => ⟨rfl, rfl, h.2.2.1, rfl⟩ }

theorem resetCause_keeps {mk : Nat} {sIn : State} (k : Nat) (s : State) (hMk : 0xc0000000000000000000000000000000000000000000000000000000000000000000000000000000000000000000000000000000000000000000000000000000000000000000000000000000000000000000000000000000000000000000000000000000000000000000000000000000000000000000000000000000000000000000000000000000000000000000000000 ||| mk = mk) (hIn : Keeps mk sIn s) : Keeps mk sIn (resetCause k s) := by
  refine Keeps.step hMk ?_ hIn
  unfold resetCause
  try dsimp only
  repeat' first
    | with_reducible refine Keeps.ite ?_ ?_
    | with_reducible exact Keeps.refl
    | with_reducible assumption
    | ((with_reducible apply Keeps.wr); (case d => rfl); (case e => rfl))
    | intro _
    | split
    | dsimp only
    | (refine Keeps.snd ?_ (by with_reducible assumption))

theorem bootCount_keeps {mk : Nat} {sIn : State} (k : Nat) (s : State) (hMk : 0x2004000000000000000000000000000000000000000000000000000000007800000000000000000000000010000000000000000000000000000000000000000000000000000000000000000000000000000000000000000000000000000000000000000000000000000000000000000000000000000000000000000000000000000000000000000000000000000000000000000000000000000000000000000000000000000000000000000000000000000000000000000 ||| mk = mk) (hIn : Keeps mk sIn s) : Keeps mk sIn (bootCount k s) := by
  refine Keeps.step hMk ?_ hIn
  unfold bootCount
  try dsimp only
  repeat' first
    | with_reducible refine Keeps.ite ?_ ?_
    | with_reducible exact Keeps.refl
    | with_reducible assumption
    | ((with_reducible apply Keeps.inc); (case d => rfl); (case e => rfl))
    | ((with_reducible apply Keeps.addSat); (case d => rfl); (case e => rfl))
    | intro _
    | split
    | dsimp only
    | (refine Keeps.snd ?_ (by with_reducible assumption))

theorem debugAccess_keeps {mk : Nat} {sIn : State} (s : State) (hMk : 0x1e0000000000000000000000000000000000000000000000000000000000000000000000000000000000000000000000000000000000000000000000000000000000000000000000000000000000000000000000000000000000000000000000000000000000000000000000000000000000000000000000000000000000000000000000000000000000000000000000000000000000000000000000000000000000000000000000000000000000000000000000000000000000000000000000000000000000000000000000000 ||| mk = mk) (hIn : Keeps mk sIn s) : Keeps mk sIn (debugAccess s) := by
  refine Keeps.step hMk ?_ hIn
  unfold debugAccess
  try dsimp only
  repeat' first
    | with_reducible refine Keeps.ite ?_ ?_
    | with_reducible exact Keeps.refl
    | with_reducible assumption
    | ((with_reducible apply Keeps.put); (case d => rfl); (case e => rfl))
    | intro _
    | split
    | dsimp only
    | (refine Keeps.snd ?_ (by with_reducible assumption))

theorem fuseSense_keeps {mk : Nat} {sIn : State} (s : State) (hMk : 0x1e0000000000000000000000000000000000000000000000000000000000000000000000000000000000000000000000000000100000060800000000000000000008050018000000000000000000000000000000000000000000000000000000000000000000000000000000000000000000000000000000000000000000000000000000000000000000000000000000000000000000000000000000000000000000000000000000000000000000000000000000000000000000000000000000000000000000000000000000000 ||| mk = mk) (hIn : Keeps mk sIn s) : Keeps mk sIn (fuseSense s) := by
  refine Keeps.step hMk ?_ hIn
  unfold fuseSense
  try dsimp only
  repeat' first
    | with_reducible refine Keeps.ite ?_ ?_
    | with_reducible exact Keeps.refl
    | with_reducible assumption
    | ((with_reducible apply Keeps.wr); (case d => rfl); (case e => rfl))
    | ((with_reducible apply Keeps.put); (case d => rfl); (case e => rfl))
    | (with_reducible refine Keeps.each _ _ ?_ ?_)
    | ((with_reducible apply debugAccess_keeps); (case hMk => rfl))
    | intro _
    | split
    | dsimp only
    | (refine Keeps.snd ?_ (by with_reducible assumption))

theorem secretNew_keeps {mk : Nat} {sIn : State} (s : State) (hMk : 0x7010000400000000000000000000000000000000000000000000000000000000000000000000000000000000000000000000002000000000000000000000000000000000000000000000200020100000000000001867000180800000000800000000000000000000000000000000000000000000000000000000000000000000000000000000000000000000000000000000000000000000000000000000000000000000000000000000000000000000000000000000000000000000000000000000000000000000000000000000000000000000 ||| mk = mk) (hIn : Keeps mk sIn s) : Keeps mk sIn (secretNew s) := by
  refine Keeps.step hMk ?_ hIn
  unfold secretNew
  try dsimp only
  repeat' first
    | with_reducible refine Keeps.ite ?_ ?_
    | with_reducible exact Keeps.refl
    | with_reducible assumption
    | ((with_reducible apply Keeps.put); (case d => rfl); (case e => rfl))
    | ((with_reducible apply Keeps.took); (case e => rfl))
    | ((with_reducible apply modCel_keeps); (case hMk => rfl))
    | ((with_reducible apply raise_keeps); (case d => rfl); (case hMk => rfl); (case hMk2 => rfl))
    | intro _
    | split
    | dsimp only
    | (refine Keeps.snd ?_ (by with_reducible assumption))

theorem secretZero_keeps {mk : Nat} {sIn : State} (s : State) (hMk : 0x2000000000000000000000000000000000000000000000000000000000000000000000000000000000000000000000000000000000000000000000000000000000000000000000000000200000000000000000000000000000000000000000000000000000000000000000000000000000000000000000000000000000000000000000000000000000000000000000000000000000000000000000000000000000000000000000000000000000000000000000000000000000000000000000000000000000000000000000000000000000000000 ||| mk = mk) (hIn : Keeps mk sIn s) : Keeps mk sIn (secretZero s) := by
  refine Keeps.step hMk ?_ hIn
  unfold secretZero
  try dsimp only
  repeat' first
    | with_reducible refine Keeps.ite ?_ ?_
    | with_reducible exact Keeps.refl
    | with_reducible assumption
    | ((with_reducible apply Keeps.put); (case d => rfl); (case e => rfl))
    | ((with_reducible apply modCel_keeps); (case hMk => rfl))
    | intro _
    | split
    | dsimp only
    | (refine Keeps.snd ?_ (by with_reducible assumption))

theorem lcDestroy_keeps {mk : Nat} {sIn : State} (lc : Nat) (s : State) (hMk : 0x72700084000000000000000000020000000020000000000000000011d47c00c17c0000000000000000000000000000000000002000000000000000000000000000000007fc0000000100360020100000000000001867000180800000000800000000000000000000000000000000000000000000000000000000000000000000000000000000000000000000000000000000000000000000000000000000000000000000000000000000000000000000000000000000000000000000000000000000000000000000000000000000000000000080 ||| mk = mk) (hIn : Keeps mk sIn s) : Keeps mk sIn (lcDestroy lc s) := by
  refine Keeps.step hMk ?_ hIn
  unfold lcDestroy
  try dsimp only
  repeat' first
    | with_reducible refine Keeps.ite ?_ ?_
    | with_reducible exact Keeps.refl
    | with_reducible assumption
    | ((with_reducible apply Keeps.wr); (case d => rfl); (case e => rfl))
    | (with_reducible refine Keeps.each _ _ ?_ ?_)
    | ((with_reducible apply secretNew_keeps); (case hMk => rfl))
    | ((with_reducible apply secretZero_keeps); (case hMk => rfl))
    | ((with_reducible apply tlogClear_keeps); (case hMk => rfl))
    | intro _
    | split
    | dsimp only
    | (refine Keeps.snd ?_ (by with_reducible assumption))
    | ((with_reducible apply Keeps.set_fuse); (case e => rfl))

theorem lcProgram_keeps {mk : Nat} {sIn : State} (bits : Nat) (s : State) (hMk : 0x72700084000001e00000000000020000000020000000000000000011d47c00c17c0000000000000000000000000000000000002000000000000100000061800000000007fc0000008150378020100000000000001867000180800000000800000000000000000000000000000000000000000000000000000000000000000000000000000000000000000000000000000000000000000000000000000000000000000000000000000000000000000000000000000000000000000000000000000000000000000000000000000000000000000080 ||| mk = mk) (hIn : Keeps mk sIn s) : Keeps mk sIn (lcProgram bits s) := by
  refine Keeps.step hMk ?_ hIn
  unfold lcProgram
  try dsimp only
  repeat' first
    | with_reducible refine Keeps.ite ?_ ?_
    | with_reducible exact Keeps.refl
    | with_reducible assumption
    | ((with_reducible apply Keeps.wr); (case d => rfl); (case e => rfl))
    | ((with_reducible apply fuseSense_keeps); (case hMk => rfl))
    | ((with_reducible apply lcDestroy_keeps); (case hMk => rfl))
    | ((with_reducible apply modCel_keeps); (case hMk => rfl))
    | intro _
    | split
    | dsimp only
    | (refine Keeps.snd ?_ (by with_reducible assumption))
    | ((with_reducible apply Keeps.set_fuse); (case e => rfl))

theorem waitHost_keeps {mk : Nat} {sIn : State} (us : List Nat) (s : State) (hMk : 0x800000000000000000000000000000000000000000000000000000000000000000000000000000000000000000000000000000000000000006000000000000800000000000000000000000000000000000000000000000000000000000000000000000000000000000000000000000000000000000000000000000000000000000000000000000000000000000000000000000000000000000000000000000000000000000000000000000000000000000000000000000000000000000000000000000000000000000000000000000000000000 ||| mk = mk) (hIn : Keeps mk sIn s) : Keeps mk sIn (waitHost us s) := by
  refine Keeps.step hMk ?_ hIn
  unfold waitHost
  try dsimp only
  repeat' first
    | with_reducible refine Keeps.ite ?_ ?_
    | with_reducible exact Keeps.refl
    | with_reducible assumption
    | ((with_reducible apply bootStage_keeps); (case hMk => rfl))
    | ((with_reducible apply modBoot_keeps); (case hMk => rfl))
    | intro _
    | split
    | dsimp only
    | (refine Keeps.snd ?_ (by with_reducible assumption))

theorem initStart_keeps {mk : Nat} {sIn : State} (src : Nat) (us : List Nat) (s : State) (hMk : 0x5800304000000000000000000000000000000000000000000000000000000000000000000000000000000000000000000000000000000000006000020000000800000000000000000000000000000000000000000000000000000000000004000000000000000000000000000000000000000000000000000000000000000000000000000000000000000000000000000000000000000000000000000000000000000000000000000000000000000000000000000000000000000000000000000000000000000000000000000000000000000000 ||| mk = mk) (hIn : Keeps mk sIn s) : Keeps mk sIn (initStart src us s) := by
  refine Keeps.step hMk ?_ hIn
  have q : Keeps 0x5800304000000000000000000000000000000000000000000000000000000000000000000000000000000000000000000000000000000000006000020000000800000000000000000000000000000000000000000000000000000000000004000000000000000000000000000000000000000000000000000000000000000000000000000000000000000000000000000000000000000000000000000000000000000000000000000000000000000000000000000000000000000000000000000000000000000000000000000000000000000000 s { s with hoar := { s.hoar with vreq := 750 }, pcr := {}, lanes := [], src := {} } := {
    rd := fun f _ _ => State.rd_congr rfl rfl rfl f
    pending := rfl
    rc := fun _ => rfl
    tsuOfs := fun _ => rfl
    freeCtr := fun _ => rfl
    bus := fun _ => rfl
    latch := fun _ => rfl
    nodes := fun _ => rfl
    hoar := fun h => by cases h
    fe := fun _ => rfl
    dc := fun _ => rfl
    slices := fun _ => rfl
    sniffers := fun _ => rfl
    mac := fun _ => rfl
    lanes := fun h => by cases h
    src := fun h => by cases h
    qms := fun _ => rfl
    sec := fun _ => rfl
    jdev := fun _ => rfl
    fwd := fun _ => rfl
    camps := fun _ => rfl
    pressOctets := fun _ => rfl
    hif := fun _ => rfl
    flt := fun _ => rfl
    pair := fun _ => rfl
    tsu := fun _ => rfl
    anchor := fun _ => rfl
    fuse := fun _ => rfl
    cave := fun _ => rfl
    boot := fun _ => rfl
    pcr := fun h => by cases h
    cel := fun _ => rfl
    mem := fun h => by cases h
    frac := fun _ => rfl
    plans := fun _ => rfl
    specAt := fun _ => rfl
    pressAt := fun _ => rfl
    form := fun h => ⟨rfl, rfl, h.2.2⟩ }
  unfold initStart
  dsimp only
  repeat' first
    | with_reducible refine Keeps.ite ?_ ?_
    | with_reducible exact Keeps.refl
    | with_reducible assumption
    | exact q
    | ((with_reducible apply Keeps.wr); (case d => rfl); (case e => rfl))
    | ((with_reducible apply Keeps.put); (case d => rfl); (case e => rfl))
    | ((with_reducible apply bootStage_keeps); (case hMk => rfl))
    | ((with_reducible apply waitHost_keeps); (case hMk => rfl))
    | intro _
    | split
    | dsimp only
    | (refine Keeps.snd ?_ (by with_reducible assumption))

theorem bootCheck_keeps {mk : Nat} {sIn : State} (bits : Nat) (us : List Nat) (s : State) (hMk : 0x7e70b0c4000001e00000000000020000000020000000000000000011d47c00c17c0000000000000000000000000000000000002000000000006100020061800800000007ffc1000091503780207c0000000000001867000180800000000804000000000000000000000000000000000000000000000000000000000000000000000000000000000000000000000000000000000000000000200000000000000000000000000000000000000000000000000000000000000000000000000000000000000000000000000000000000000000000080 ||| mk = mk) (hIn : Keeps mk sIn s) : Keeps mk sIn (bootCheck bits us s) := by
  refine Keeps.step hMk ?_ hIn
  unfold bootCheck
  try dsimp only
  repeat' first
    | with_reducible refine Keeps.ite ?_ ?_
    | with_reducible exact Keeps.refl
    | with_reducible assumption
    | ((with_reducible apply Keeps.put); (case d => rfl); (case e => rfl))
    | ((with_reducible apply bootStage_keeps); (case hMk => rfl))
    | ((with_reducible apply caveGo_keeps); (case hMk => rfl))
    | ((with_reducible apply holdEnter_keeps); (case hMk => rfl))
    | ((with_reducible apply initStart_keeps); (case hMk => rfl))
    | ((with_reducible apply keysClear_keeps); (case hMk => rfl))
    | ((with_reducible apply latchView_keeps); (case hMk => rfl))
    | ((with_reducible apply lcProgram_keeps); (case hMk => rfl))
    | ((with_reducible apply modBoot_keeps); (case hMk => rfl))
    | ((with_reducible apply modCave_keeps); (case hMk => rfl); (case hf => first | exact fun _ h => h | exact fun _ _ => rfl | exact fun _ h => putWords_wf _ _ h))
    | ((with_reducible apply secretNew_keeps); (case hMk => rfl))
    | ((with_reducible apply tlogView_keeps); (case hMk => rfl))
    | intro _
    | split
    | dsimp only
    | (refine Keeps.snd ?_ (by with_reducible assumption))

theorem bootStart_keeps {mk : Nat} {sIn : State} (k : Nat) (cold : Bool) (bits : Nat) (us : List Nat) (s : State) (hMk : 0x7fefefff7ffffffffffffffffffffffffffffffffffffffffffffffffffffffffffffffffffffffffffffffffffffffffffffffffffffffffffffffffffffffffffffffffffffffffffffffffffffffffffffffffffffffffffffffffffffffffffffffffffffffffffffffffffffffffffffffffffffffffffffffffffffffffffffffffffffffffffffffffffffffffffffffffffffffffffffffffffffffffffffffffffffffffffffffffffffffffffffffffffffffffffffffffffffffffffffffffffffffffffffffffffffffffffffffff ||| mk = mk) (hIn : Keeps mk sIn s) : Keeps mk sIn (bootStart k cold bits us s) := by
  refine Keeps.step hMk ?_ hIn
  unfold bootStart
  try dsimp only
  repeat' first
    | with_reducible refine Keeps.ite ?_ ?_
    | with_reducible exact Keeps.refl
    | with_reducible assumption
    | ((with_reducible apply Keeps.wr); (case d => rfl); (case e => rfl))
    | ((with_reducible apply Keeps.put); (case d => rfl); (case e => rfl))
    | ((with_reducible apply Keeps.took); (case e => rfl))
    | ((with_reducible apply bootCheck_keeps); (case hMk => rfl))
    | ((with_reducible apply bootCount_keeps); (case hMk => rfl))
    | ((with_reducible apply bootStage_keeps); (case hMk => rfl))
    | ((with_reducible apply coreClear_keeps); (case hMk => rfl))
    | ((with_reducible apply fuseSense_keeps); (case hMk => rfl))
    | ((with_reducible apply modCel_keeps); (case hMk => rfl))
    | ((with_reducible apply resetCause_keeps); (case hMk => rfl))
    | ((with_reducible apply tlogAck_keeps); (case hMk => rfl))
    | intro _
    | split
    | dsimp only
    | (refine Keeps.snd ?_ (by with_reducible assumption))

theorem bootAdvance_keeps {mk : Nat} {sIn : State} (us : List Nat) (s : State) (hMk : 0x800000000000000000000000000000000000000000000000000000000000000000000000000000000000000000000000000000000000000006000000000000800000000000000000000000000000000000000000000000000000000000000000000000000000000000000000000000000000000000000000000000000000000000000000000000000000000000000000000000000000000000000000000000000000000000000000000000000000000000000000000000000000000000000000000000000000000000000000000000000000000 ||| mk = mk) (hIn : Keeps mk sIn s) : Keeps mk sIn (bootAdvance us s) := by
  refine Keeps.step hMk ?_ hIn
  unfold bootAdvance
  try dsimp only
  repeat' first
    | with_reducible refine Keeps.ite ?_ ?_
    | with_reducible exact Keeps.refl
    | with_reducible assumption
    | ((with_reducible apply Keeps.wr); (case d => rfl); (case e => rfl))
    | ((with_reducible apply bootStage_keeps); (case hMk => rfl))
    | intro _
    | split
    | dsimp only
    | (refine Keeps.snd ?_ (by with_reducible assumption))

theorem bootFailed_keeps {mk : Nat} {sIn : State} (us : List Nat) (s : State) (hMk : 0x58700080000000000000000000020000000020000000000000000011d47c00c17c0000000000000000000000000000000000002000000000006008000000000800020000000000000000000000000000000000001867000180800000000800000000000000000000000000000000000000000000000000000000000000000000000000000000000000000000000000000000000000000000000000000000000000000000000000000000000000000000000000000000000000000000000000000000000000000000000000000000000000000080 ||| mk = mk) (hIn : Keeps mk sIn s) : Keeps mk sIn (bootFailed us s) := by
  refine Keeps.step hMk ?_ hIn
  unfold bootFailed
  try dsimp only
  repeat' first
    | with_reducible refine Keeps.ite ?_ ?_
    | with_reducible exact Keeps.refl
    | with_reducible assumption
    | ((with_reducible apply Keeps.inc); (case d => rfl); (case e => rfl))
    | ((with_reducible apply bootStage_keeps); (case hMk => rfl))
    | ((with_reducible apply faultBegin_keeps); (case hMk => rfl))
    | ((with_reducible apply modBoot_keeps); (case hMk => rfl))
    | ((with_reducible apply raise_keeps); (case d => rfl); (case hMk => rfl); (case hMk2 => rfl))
    | intro _
    | split
    | dsimp only
    | (refine Keeps.snd ?_ (by with_reducible assumption))

theorem ptkDerive_keeps {mk : Nat} {sIn : State} (s : State) (hMk : 0x40000400000000000000000000000000000000000000000000000000000000000000000000000000000000000000000000000000000000000000000000000000000000000000000000000000000000000000000000000000000000000000000000000000000000000000000000000000000000000000000000000000000000000000000000000000000000000000000000000000000000000000000000000000000000000000000000000000000000000000000000000000000000000000000000000000000000000000000000000000000000 ||| mk = mk) (hIn : Keeps mk sIn s) : Keeps mk sIn (ptkDerive s) := by
  refine Keeps.step hMk ?_ hIn
  unfold ptkDerive
  try dsimp only
  repeat' first
    | with_reducible refine Keeps.ite ?_ ?_
    | with_reducible exact Keeps.refl
    | with_reducible assumption
    | ((with_reducible apply Keeps.took); (case e => rfl))
    | ((with_reducible apply modPair_keeps); (case hMk => rfl))
    | intro _
    | split
    | dsimp only
    | (refine Keeps.snd ?_ (by with_reducible assumption))

theorem mrtExtend_keeps {mk : Nat} {sIn : State} (i : Image) (s : State) (hMk : 0x400000000000000000000000000000000000000000000000000000000000000000000000000000000000000000000000000000000000000000000000000000000000000000000000000000000000000000000000000000000000000000000000000000000000000000000000000000000000000000000000000000000000000000000000000000000000000000000000000000000000000000000000000000000000000000000000000000000000000000000000000000000000000000000000000000000000000000000000000000000000000 ||| mk = mk) (hIn : Keeps mk sIn s) : Keeps mk sIn (mrtExtend i s) := by
  refine Keeps.step hMk ?_ hIn
  unfold mrtExtend
  try dsimp only
  repeat' first
    | with_reducible refine Keeps.ite ?_ ?_
    | with_reducible exact Keeps.refl
    | with_reducible assumption
    | ((with_reducible apply modCave_keeps); (case hMk => rfl); (case hf => first | exact fun _ h => h | exact fun _ _ => rfl | exact fun _ h => putWords_wf _ _ h))
    | intro _
    | split
    | dsimp only
    | (refine Keeps.snd ?_ (by with_reducible assumption))

theorem celRaise_keeps {mk : Nat} {sIn : State} (b : IrqBit) (s : State) {i j w r : Nat} {h : Home} (d : b.sts = ⟨i, j, w, r, h⟩) (hMk : mk.testBit i = true) (hMk2 : 0x5010000000000000000000000000000000000000000000000000000000000000000000000000000000000000000000000000002000000000000000000000000000000000000000000000000000000000000000001867000180800000000800000000000000000000000000000000000000000000000000000000000000000000000000000000000000000000000000000000000000000000000000000000000000000000000000000000000000000000000000000000000000000000000000000000000000000000000000000000000000000000 ||| mk = mk) (hIn : Keeps mk sIn s) :
    Keeps mk sIn (celRaise b s) := by
  unfold celRaise
  split
  · exact raise_keeps _ _ d hMk hMk2 hIn
  · exact Keeps.put _ _ d hMk hIn

theorem pinView_keeps {mk : Nat} {sIn : State} (s : State) (hMk : 0xc0000000000000000000000000000000000000000000000000000000000000000000000000000000000000000000000000000000000000000000000000000000000000000000000000000000000000000000000000000000000000000000000000000000000000000000000000000000000000000000000000000000000000000000000000000000000000000000000000000000000000000000000000000000000000000000000000 ||| mk = mk) (hIn : Keeps mk sIn s) : Keeps mk sIn (pinView s) := by
  refine Keeps.step hMk ?_ hIn
  unfold pinView
  try dsimp only
  repeat' first
    | with_reducible refine Keeps.ite ?_ ?_
    | with_reducible exact Keeps.refl
    | with_reducible assumption
    | ((with_reducible apply Keeps.put); (case d => rfl); (case e => rfl))
    | intro _
    | split
    | dsimp only
    | (refine Keeps.snd ?_ (by with_reducible assumption))

theorem powerPins_keeps {mk : Nat} {sIn : State} (good : Bool) (req : Bool) (s : State) (hMk : 0x20000000000000000000000000000000000000000000000000000000000000000000000000000000000000c0000400000080000000000000000000000000000000000000000000000000000000000000000000000000000000000000000000000000000000000000000000000000000000000000000000000000000000000000000000000000000000000000000000000000000000000000000000000000000000000000000000000000000000000000000000000000000000000000000000000000000000000000000000000000000000000000 ||| mk = mk) (hIn : Keeps mk sIn s) : Keeps mk sIn (powerPins good req s) := by
  refine Keeps.step hMk ?_ hIn
  unfold powerPins
  try dsimp only
  repeat' first
    | with_reducible refine Keeps.ite ?_ ?_
    | with_reducible exact Keeps.refl
    | with_reducible assumption
    | ((with_reducible apply Keeps.put); (case d => rfl); (case e => rfl))
    | ((with_reducible apply modCel_keeps); (case hMk => rfl))
    | ((with_reducible apply pinView_keeps); (case hMk => rfl))
    | intro _
    | split
    | dsimp only
    | (refine Keeps.snd ?_ (by with_reducible assumption))

theorem wakeLatch_keeps {mk : Nat} {sIn : State} (k : Nat) (s : State) (hMk : 0x40000000000000000000000000000000000000000000000000000000000000000000000000000000000000000000000000000000000000000000000000000000000000000000000000000000000000000000000000000000000000000000000000000000000000000000000000000000000000000000000000000000000000000000000000000000000000000000000000000000000000000000000000000000000000000000000000000 ||| mk = mk) (hIn : Keeps mk sIn s) : Keeps mk sIn (wakeLatch k s) := by
  refine Keeps.step hMk ?_ hIn
  unfold wakeLatch
  try dsimp only
  repeat' first
    | with_reducible refine Keeps.ite ?_ ?_
    | with_reducible exact Keeps.refl
    | with_reducible assumption
    | ((with_reducible apply Keeps.wr); (case d => rfl); (case e => rfl))
    | intro _
    | split
    | dsimp only
    | (refine Keeps.snd ?_ (by with_reducible assumption))

theorem ledgerPut_keeps {mk : Nat} {sIn : State} (j : Nat) (lo : Nat) (n : Nat) (v : Nat) (s : State) (hMk : 0x20000000000000000000000000000000000000000000000000000000000000000000000000000000000000000000000000000000000000000000000000000000000000000000000000000000000000000000000000000000000000000000000000000000000000000000000000000000000000000000000000000000000000000000000000000000000000000000000000000000000000000000000000000000000000000000000000000000000 ||| mk = mk) (hIn : Keeps mk sIn s) : Keeps mk sIn (ledgerPut j lo n v s) := by
  refine Keeps.step hMk ?_ hIn
  unfold ledgerPut
  try dsimp only
  repeat' first
    | with_reducible refine Keeps.ite ?_ ?_
    | with_reducible exact Keeps.refl
    | with_reducible assumption
    | ((with_reducible apply Keeps.wr); (case d => rfl); (case e => rfl))
    | intro _
    | split
    | dsimp only
    | (refine Keeps.snd ?_ (by with_reducible assumption))

theorem wakeTry_keeps {mk : Nat} {sIn : State} (s : State) (hMk : 0x20000000000000000000000000000000000000000000000000000000000000000000000000000200004000c0000400000080000000000000000000000000000000000000000000000000000000000000000000000000000000000000000000000000000000000000000000000000000000000000000000000000000000000000000000000000000000000000000000000000000000000000000000000000000000000000000000000000000000000000000000000000000000000000000000000000000000000000000000000000000000000000 ||| mk = mk) (hIn : Keeps mk sIn s) : Keeps mk sIn (wakeTry s) := by
  refine Keeps.step hMk ?_ hIn
  unfold wakeTry
  try dsimp only
  repeat' first
    | with_reducible refine Keeps.ite ?_ ?_
    | with_reducible exact Keeps.refl
    | with_reducible assumption
    | ((with_reducible apply Keeps.wr); (case d => rfl); (case e => rfl))
    | ((with_reducible apply ledgerPut_keeps); (case hMk => rfl))
    | ((with_reducible apply modCel_keeps); (case hMk => rfl))
    | ((with_reducible apply powerPins_keeps); (case hMk => rfl))
    | intro _
    | split
    | dsimp only
    | (refine Keeps.snd ?_ (by with_reducible assumption))

theorem ledgerNew_keeps {mk : Nat} {sIn : State} (kind : Nat) (rtc : Nat) (tsu : Option Nat) (anchor : Bool) (s : State) (hMk : 0x60000000000000000000000000000000000000000000000000000000000000000000000000000000000000000000000000000000000000000000000000000000000000000000000000000000000000000000000000000000000000000000000000000000000000000000000000000000000000000000000000000000000000000000000000000000000000000000000000000000000000000000000000000000000000000000000000000000000 ||| mk = mk) (hIn : Keeps mk sIn s) : Keeps mk sIn (ledgerNew kind rtc tsu anchor s) := by
  refine Keeps.step hMk ?_ hIn
  unfold ledgerNew
  try dsimp only
  repeat' first
    | with_reducible refine Keeps.ite ?_ ?_
    | with_reducible exact Keeps.refl
    | with_reducible assumption
    | ((with_reducible apply Keeps.wr); (case d => rfl); (case e => rfl))
    | (with_reducible refine Keeps.each _ _ ?_ ?_)
    | intro _
    | split
    | dsimp only
    | (refine Keeps.snd ?_ (by with_reducible assumption))

theorem ledgerExit_keeps {mk : Nat} {sIn : State} (s : State) (hMk : 0x2000000000000000000000000000000000000000000000000000000000000000000000000000020000000000000000000000000000000000000000000000000000000000000000000000000000000000000000000000000000000000000000000000000000000000000000000000000000000000000000000000000000000000000000000000000000000000000000000000000000000000000000000000000000000000000000000000000000000000000000000000000000000000000000000000000000000000000000000000000000000000 ||| mk = mk) (hIn : Keeps mk sIn s) : Keeps mk sIn (ledgerExit s) := by
  refine Keeps.step hMk ?_ hIn
  unfold ledgerExit
  try dsimp only
  repeat' first
    | with_reducible refine Keeps.ite ?_ ?_
    | with_reducible exact Keeps.refl
    | with_reducible assumption
    | ((with_reducible apply Keeps.wr); (case d => rfl); (case e => rfl))
    | ((with_reducible apply modCel_keeps); (case hMk => rfl))
    | intro _
    | split
    | dsimp only
    | (refine Keeps.snd ?_ (by with_reducible assumption))

theorem radiosStop_keeps {mk : Nat} {sIn : State} (s : State) (hMk : 0x15010178000000000000000000000000000000000000000000000000000000000004c00000000000000000000000000000000002000000000000000000000000000000000000000000000000000000000000000001867000180800000000800000000000000000000000000000000000000000000000000000000000000000000000000000000000000000000000000000000000000000000400000000000000000000000000000000000000000000000000800000000000000000000000000980000000010407800080084800080000070e04f80 ||| mk = mk) (hIn : Keeps mk sIn s) : Keeps mk sIn (radiosStop s) := by
  refine Keeps.step hMk ?_ hIn
  unfold radiosStop
  try dsimp only
  repeat' first
    | with_reducible refine Keeps.ite ?_ ?_
    | with_reducible exact Keeps.refl
    | with_reducible assumption
    | ((with_reducible apply Keeps.wr); (case d => rfl); (case e => rfl))
    | ((with_reducible apply Keeps.put); (case d => rfl); (case e => rfl))
    | (with_reducible refine Keeps.each _ _ ?_ ?_)
    | ((with_reducible apply feStop_keeps); (case hMk => rfl))
    | ((with_reducible apply replan_keeps); (case hMk => rfl))
    | ((with_reducible apply spansEnd_keeps); (case hMk => rfl))
    | intro _
    | split
    | dsimp only
    | (refine Keeps.snd ?_ (by with_reducible assumption))

theorem radiosStart_keeps {mk : Nat} {sIn : State} (s : State) (hMk : 0x17010068000000000000000000000000000000000000000000000000000000000004c00000000400000000000000001000000002000000000000000000000000000000000000000000000000000000000000000001867000180800000000800000000000000000000000000000000000000000000000000000000000000000000000000000000000000000000000000000000000000000000400000000000000000000000000000000000000000000000000000000000000000000000000000980000000010407800000084000000000001f00380 ||| mk = mk) (hIn : Keeps mk sIn s) : Keeps mk sIn (radiosStart s) := by
  refine Keeps.step hMk ?_ hIn
  unfold radiosStart
  try dsimp only
  repeat' first
    | with_reducible refine Keeps.ite ?_ ?_
    | with_reducible exact Keeps.refl
    | with_reducible assumption
    | ((with_reducible apply Keeps.wr); (case d => rfl); (case e => rfl))
    | ((with_reducible apply Keeps.put); (case d => rfl); (case e => rfl))
    | (with_reducible refine Keeps.each _ _ ?_ ?_)
    | ((with_reducible apply feLeaveOff_keeps); (case hMk => rfl))
    | ((with_reducible apply modCel_keeps); (case hMk => rfl))
    | intro _
    | split
    | dsimp only
    | (refine Keeps.snd ?_ (by with_reducible assumption))

theorem hushGo_keeps {mk : Nat} {sIn : State} (s : State) (hMk : 0x15010178000000000000000000000000000000000000000000000000000000000004c00000000000000010000000003000000002000000000000000000000000000000000000000000000000000000000000000001867000180800000000800000000000000000000000000000000000000000000000000000000000000000000000000000000000000000000000000000000000000000000400000000000000000000000000000000000000000000000000800000000000000000000000000980000000010407800080084800080000070e04f80 ||| mk = mk) (hIn : Keeps mk sIn s) : Keeps mk sIn (hushGo s) := by
  refine Keeps.step hMk ?_ hIn
  unfold hushGo
  try dsimp only
  repeat' first
    | with_reducible refine Keeps.ite ?_ ?_
    | with_reducible exact Keeps.refl
    | with_reducible assumption
    | ((with_reducible apply Keeps.wr); (case d => rfl); (case e => rfl))
    | ((with_reducible apply Keeps.put); (case d => rfl); (case e => rfl))
    | ((with_reducible apply Keeps.inc); (case d => rfl); (case e => rfl))
    | ((with_reducible apply radiosStop_keeps); (case hMk => rfl))
    | intro _
    | split
    | dsimp only
    | (refine Keeps.snd ?_ (by with_reducible assumption))

theorem hushAsk_keeps {mk : Nat} {sIn : State} (s : State) (hMk : 0x15010178000000000000000000000000000000000000000000000000000000000004c00000000000000010000000003000000002000000000000000000000000000000000000000000000000000000000000000001867000180800000000800000000000000000000000000000000000000000000000000000000000000000000000000000000000000000000000000000000000000000000400000000000000000000000000000000000000000000000000800000000000000000000000000980000000010407800080084800080000070e04f80 ||| mk = mk) (hIn : Keeps mk sIn s) : Keeps mk sIn (hushAsk s) := by
  refine Keeps.step hMk ?_ hIn
  unfold hushAsk
  try dsimp only
  repeat' first
    | with_reducible refine Keeps.ite ?_ ?_
    | with_reducible exact Keeps.refl
    | with_reducible assumption
    | ((with_reducible apply Keeps.put); (case d => rfl); (case e => rfl))
    | ((with_reducible apply hushGo_keeps); (case hMk => rfl))
    | intro _
    | split
    | dsimp only
    | (refine Keeps.snd ?_ (by with_reducible assumption))

theorem hushEnd_keeps {mk : Nat} {sIn : State} (s : State) (hMk : 0x17010068000000000000000000000000000000000000000000000000000000000004c00000000400000000000000003000000002000000000000000000000000000000000000000000000000000000000000000001867000180800000000800000000000000000000000000000000000000000000000000000000000000000000000000000000000000000000000000000000000000000000400000000000000000000000000000000000000000000000000000000000000000000000000000980000000010407800000084000000000001f00380 ||| mk = mk) (hIn : Keeps mk sIn s) : Keeps mk sIn (hushEnd s) := by
  refine Keeps.step hMk ?_ hIn
  unfold hushEnd
  try dsimp only
  repeat' first
    | with_reducible refine Keeps.ite ?_ ?_
    | with_reducible exact Keeps.refl
    | with_reducible assumption
    | ((with_reducible apply Keeps.put); (case d => rfl); (case e => rfl))
    | ((with_reducible apply radiosStart_keeps); (case hMk => rfl))
    | intro _
    | split
    | dsimp only
    | (refine Keeps.snd ?_ (by with_reducible assumption))

theorem corePowerOff_keeps {mk : Nat} {sIn : State} (off : Nat) (s : State) (hMk : 0x7fefefff7ffffffffffffffffffffffffffffffffffffffffffffffffffffffffffffffffffffffffffffffffffffffffffffffffffffffffffffffffffffffffffffffffffffffffffffffffffffffffffffffffffffffffffffffffffffffffffffffffffffffffffffffffffffffffffffffffffffffffffffffffffffffffffffffffffffffffffffffffffffffffffffffffffffffffffffffffffffffffffffffffffffffffffffffffffffffffffffffffffffffffffffffffffffffffffffffffffffffffffffffffffffffffffffffff ||| mk = mk) (hIn : Keeps mk sIn s) : Keeps mk sIn (corePowerOff off s) := by
  refine Keeps.step hMk ?_ hIn
  unfold corePowerOff
  try dsimp only
  repeat' first
    | with_reducible refine Keeps.ite ?_ ?_
    | with_reducible exact Keeps.refl
    | with_reducible assumption
    | ((with_reducible apply Keeps.put); (case d => rfl); (case e => rfl))
    | ((with_reducible apply coreClear_keeps); (case hMk => rfl))
    | ((with_reducible apply modCel_keeps); (case hMk => rfl))
    | intro _
    | split
    | dsimp only
    | (refine Keeps.snd ?_ (by with_reducible assumption))

theorem islandKhz_keeps {mk : Nat} {sIn : State} (k : Nat) (s : State) (hMk : 0x4000000000000000000000000000000000000000000000000000000000000000000000000000000000000000000000000000000000000000000000000000000000000000000000000000000000000000000000000000000000000000000000000000000000000000000000000000000000000000000000000000000000000000000000000000000000000000000000000000000000000000000000000000000000000000000000000000000000000000000000 ||| mk = mk) (hIn : Keeps mk sIn s) : Keeps mk sIn (islandKhz k s) := by
  refine Keeps.step hMk ?_ hIn
  unfold islandKhz
  try dsimp only
  repeat' first
    | with_reducible refine Keeps.ite ?_ ?_
    | with_reducible exact Keeps.refl
    | with_reducible assumption
    | ((with_reducible apply Keeps.wr); (case d => rfl); (case e => rfl))
    | intro _
    | split
    | dsimp only
    | (refine Keeps.snd ?_ (by with_reducible assumption))

theorem rcStart_keeps {mk : Nat} {sIn : State} (s : State) (hMk : 0x8080000300000000000000000000000000000000000000000000000000000000000000000000000000000000000000000000000000000000000000000000000000000000000000000000000000000000000000000000000000000000000000000000000000000000000000000000000000000000000000000000000000000000000000000000000000000000000000000000000000000000000000000000000000000000000000000000000000000000000000000000000000000000000000000000000000000000000000000000000000000000 ||| mk = mk) (hIn : Keeps mk sIn s) : Keeps mk sIn (rcStart s) := by
  refine Keeps.step hMk ?_ hIn
  unfold rcStart
  try dsimp only
  repeat' first
    | with_reducible refine Keeps.ite ?_ ?_
    | with_reducible exact Keeps.refl
    | with_reducible assumption
    | intro _
    | split
    | dsimp only
    | (refine Keeps.snd ?_ (by with_reducible assumption))
    | ((with_reducible apply Keeps.set_rc_frac_tsuOfs_tsu); (case e0 => rfl); (case e1 => rfl); (case e2 => rfl); (case e3 => rfl))

theorem islandToRef_keeps {mk : Nat} {sIn : State} (us : Nat) (k : Nat) (s : State) (hMk : 0x8080000300000000000000000000000000000000000000000000000000000000016c04000000400000000000000000000000000000000000000000000000000000000000000000000000000000000000000000000000000000000000000000000000000000000800000000000000000000000000008000000000000000000000000000000000000000000000000000000000000000000000000000000000000000000000000000000000000000000000000000000000000000000000000000000000000000000000000000000000000000000000 ||| mk = mk) (hIn : Keeps mk sIn s) : Keeps mk sIn (islandToRef us k s) := by
  refine Keeps.step hMk ?_ hIn
  unfold islandToRef
  try dsimp only
  repeat' first
    | with_reducible refine Keeps.ite ?_ ?_
    | with_reducible exact Keeps.refl
    | with_reducible assumption
    | ((with_reducible apply Keeps.wr); (case d => rfl); (case e => rfl))
    | ((with_reducible apply Keeps.put); (case d => rfl); (case e => rfl))
    | ((with_reducible apply Keeps.inc); (case d => rfl); (case e => rfl))
    | ((with_reducible apply islandKhz_keeps); (case hMk => rfl))
    | ((with_reducible apply rcStart_keeps); (case hMk => rfl))
    | ((with_reducible apply tsOkView_keeps); (case hMk => rfl))
    | intro _
    | split
    | dsimp only
    | (refine Keeps.snd ?_ (by with_reducible assumption))

theorem islandToRc_keeps {mk : Nat} {sIn : State} (k : Nat) (s : State) (hMk : 0x14c08000000400000000000000000000000000000000000000000000000000000000000000000000000000000000000000000000000000000000000000000000000000000000800000000000000000000000000008000000000000000000000000000000000000000000000000000000000000000000000000000000000000000000000000000000000000000000000000000000000000000000000000000000000000000000000000000000000000000000000 ||| mk = mk) (hIn : Keeps mk sIn s) : Keeps mk sIn (islandToRc k s) := by
  refine Keeps.step hMk ?_ hIn
  unfold islandToRc
  try dsimp only
  repeat' first
    | with_reducible refine Keeps.ite ?_ ?_
    | with_reducible exact Keeps.refl
    | with_reducible assumption
    | ((with_reducible apply Keeps.wr); (case d => rfl); (case e => rfl))
    | ((with_reducible apply Keeps.put); (case d => rfl); (case e => rfl))
    | ((with_reducible apply Keeps.inc); (case d => rfl); (case e => rfl))
    | ((with_reducible apply tsOkView_keeps); (case hMk => rfl))
    | intro _
    | split
    | dsimp only
    | (refine Keeps.snd ?_ (by with_reducible assumption))

theorem refShow_keeps {mk : Nat} {sIn : State} (r : Nat) (present : Bool) (ok : Bool) (s : State) (hMk : 0xc0000000200000000000000000000000000000000000000000000000000000000000000000000000000000000000000000000000000000000000000000000000000000000000000000000000000000000000000000000000000000000000000000000000000000000000000000000000000000000000000000000000000000000000000000000000000000000000000000000000000000000000000000000000000000000000000000000000000000000000 ||| mk = mk) (hIn : Keeps mk sIn s) : Keeps mk sIn (refShow r present ok s) := by
  refine Keeps.step hMk ?_ hIn
  unfold refShow
  try dsimp only
  repeat' first
    | with_reducible refine Keeps.ite ?_ ?_
    | with_reducible exact Keeps.refl
    | with_reducible assumption
    | ((with_reducible apply Keeps.wr); (case d => rfl); (case e => rfl))
    | ((with_reducible apply Keeps.put); (case d => rfl); (case e => rfl))
    | intro _
    | split
    | dsimp only
    | (refine Keeps.snd ?_ (by with_reducible assumption))

theorem raise_ref {mk : Nat} {sIn : State} (r : Nat) (s : State) (hMk : 0x50700080000000000000000000020000000020000000000000000011d47c00c17c0000000003800000000000000000000000002000000000000000000000000000000000000000000000000000000000000000001867000180800000000800000000000000000000000000000000000000000000000000000000000000000000000000000000000000000000000000000000000000000000000000000000000000000000000000000000000000000000000000000000000000000000000000000000000000000000000000000000000000000080 ||| mk = mk) (hIn : Keeps mk sIn s) : Keeps mk sIn (raise (refIrq r) s) := by
  unfold refIrq
  split
  · exact raise_keeps _ _ rfl (mask_true rfl hMk) (mask_sub (by decide) hMk) hIn
  · split
    · exact raise_keeps _ _ rfl (mask_true rfl hMk) (mask_sub (by decide) hMk) hIn
    · exact raise_keeps _ _ rfl (mask_true rfl hMk) (mask_sub (by decide) hMk) hIn
theorem refMissing_keeps {mk : Nat} {sIn : State} (r : Nat) (s : State) (hMk : 0x50700080000000000000000000020000000020000000000000000011d47c00c17c0000000003800000000000000000000000002000000000000000000000000000000000000000000000000000000000000000001867000180800000000800000000000000000000000000000000000000000000000000000000000000000000000000000000000000000000000000000000000000000000000000000000000000000000000000000000000000000000000000000000000000000000000000000000000000000000000000000000000000000080 ||| mk = mk) (hIn : Keeps mk sIn s) : Keeps mk sIn (refMissing r s) := by
  have q := raise_ref r s hMk hIn
  unfold refMissing
  dsimp only
  split
  · exact q
  · exact faultBegin_keeps _ _ _ (mask_sub (by decide) hMk) q

theorem refTake_keeps {mk : Nat} {sIn : State} (r : Nat) (us : Nat) (s : State) (hMk : 0x8480000300000000000000000000000000000000000000000000000080000000016cc4000000600000000000000000000000000000000000000000000000000000000000000000000000000000000000000000000000000000000000000000000000000000000800000000000000000000000000008000000000000000000000000000000000000000000000000000000000000000000000000000000000000000000000000000000000000000000000000000000000000000000000000000000000000000000000000000000000000000000000 ||| mk = mk) (hIn : Keeps mk sIn s) : Keeps mk sIn (refTake r us s) := by
  refine Keeps.step hMk ?_ hIn
  unfold refTake
  try dsimp only
  repeat' first
    | with_reducible refine Keeps.ite ?_ ?_
    | with_reducible exact Keeps.refl
    | with_reducible assumption
    | (with_reducible refine Keeps.each _ _ ?_ ?_)
    | ((with_reducible apply faultEnd_keeps); (case hMk => rfl))
    | ((with_reducible apply islandToRef_keeps); (case hMk => rfl))
    | ((with_reducible apply modCave_keeps); (case hMk => rfl); (case hf => first | exact fun _ h => h | exact fun _ _ => rfl | exact fun _ h => putWords_wf _ _ h))
    | ((with_reducible apply refShow_keeps); (case hMk => rfl))
    | intro _
    | split
    | dsimp only
    | (refine Keeps.snd ?_ (by with_reducible assumption))

theorem modHoar_keeps {mk : Nat} {sIn : State} (f : Hoar → Hoar) (s : State) (hMk : 0x4000000000000000000000000000000000000000000000000000000000000000000000000000000000000000000000000000000000000000000000000000000000000000000000000000000000000000000000000000000000000000000000000000000000000000000000000000000000000000000000000000000000000000000000000000000000000000000000000000000000000000000000000000000000000000000000000000000000000000000000000000000000000000000000000000000000000000000000000000000000 ||| mk = mk) (hIn : Keeps mk sIn s) : Keeps mk sIn (modHoar f s) := by
  refine Keeps.step hMk ?_ hIn
  unfold modHoar
  try dsimp only
  repeat' first
    | with_reducible refine Keeps.ite ?_ ?_
    | with_reducible exact Keeps.refl
    | with_reducible assumption
    | intro _
    | split
    | dsimp only
    | (refine Keeps.snd ?_ (by with_reducible assumption))
    | ((with_reducible apply Keeps.set_hoar); (case e => rfl))

theorem capWithdraw_keeps {mk : Nat} {sIn : State} (s : State) (hMk : 0x20000000000000000000000000000000000000000000000000000000000000000000000000000000000000000000000000000000000000000000000000000000000000000000000000000000000000000000000000000000000000000000000000000000000000000000000000000000000000000000000000000000000000000000000000000000000000000000000000000000000800000000000000000000000000000000000000000000000000000000000000000000000000000800000000000000000000000000000000000000000 ||| mk = mk) (hIn : Keeps mk sIn s) : Keeps mk sIn (capWithdraw s) := by
  refine Keeps.step hMk ?_ hIn
  unfold capWithdraw
  try dsimp only
  repeat' first
    | with_reducible refine Keeps.ite ?_ ?_
    | with_reducible exact Keeps.refl
    | with_reducible assumption
    | ((with_reducible apply Keeps.wr); (case d => rfl); (case e => rfl))
    | (with_reducible refine Keeps.each _ _ ?_ ?_)
    | ((with_reducible apply modSlice_keeps); (case hMk => rfl))
    | intro _
    | split
    | dsimp only
    | (refine Keeps.snd ?_ (by with_reducible assumption))

theorem capRestore_keeps {mk : Nat} {sIn : State} (s : State) (hMk : 0x20000000000000000000000000000000000000000000000000000000000000000000000000000000000000000000000000000000000000000000000000000000000000000000000000000000000000000000000000000000000000000000000000000000000000000000000000000000000000000000000000000000000000000000000000000000000000000000000000000000000800000000000000000000000000000000000000000000000000000000000000000000000000000800000000000000000000000000000000000000000 ||| mk = mk) (hIn : Keeps mk sIn s) : Keeps mk sIn (capRestore s) := by
  refine Keeps.step hMk ?_ hIn
  unfold capRestore
  try dsimp only
  repeat' first
    | with_reducible refine Keeps.ite ?_ ?_
    | with_reducible exact Keeps.refl
    | with_reducible assumption
    | ((with_reducible apply Keeps.wr); (case d => rfl); (case e => rfl))
    | (with_reducible refine Keeps.each _ _ ?_ ?_)
    | ((with_reducible apply modSlice_keeps); (case hMk => rfl))
    | intro _
    | split
    | dsimp only
    | (refine Keeps.snd ?_ (by with_reducible assumption))

theorem modeEnd_keeps {mk : Nat} {sIn : State} (cur : Nat) (fail : Bool) (s : State) (hMk : 0x15010244000000000000000000000000000000000000000000000000000000000000000000000000000000000000000000000002000000000000000000000000000046800000000000000000000000000000000001867000180800000000800000000000000000000000000000000000000000000000000000000000000000000000000000000000000000000000000000000000000000000000000000000000010000000000000000000000000000000000000000000000000000000000000180000000010007800000000000000000000000000 ||| mk = mk) (hIn : Keeps mk sIn s) : Keeps mk sIn (modeEnd cur fail s) := by
  refine Keeps.step hMk ?_ hIn
  unfold modeEnd
  try dsimp only
  repeat' first
    | with_reducible refine Keeps.ite ?_ ?_
    | with_reducible exact Keeps.refl
    | with_reducible assumption
    | ((with_reducible apply Keeps.wr); (case d => rfl); (case e => rfl))
    | ((with_reducible apply Keeps.put); (case d => rfl); (case e => rfl))
    | (with_reducible refine Keeps.each _ _ ?_ ?_)
    | ((with_reducible apply modHoar_keeps); (case hMk => rfl))
    | ((with_reducible apply raise_keeps); (case d => rfl); (case hMk => rfl); (case hMk2 => rfl))
    | ((with_reducible apply replan_keeps); (case hMk => rfl))
    | ((with_reducible apply tokenView_keeps); (case hMk => rfl))
    | intro _
    | split
    | dsimp only
    | (refine Keeps.snd ?_ (by with_reducible assumption))

theorem modeBegin_keeps {mk : Nat} {sIn : State} (m : Nat) (s : State) (hMk : 0x15010264000000000000000000000000000000000000000000000000000000000000000000000000000000000000000000000002000000000000000000000000000046800000000000000000000000000000000001867000180800000000800000000000000000000000000000000000000000000000000000000000000000000000000000000000000000000000000000000000000000000800000000000000010000000000000000000000000000000000000000000000000000000000000980000000010007800000000000000000000000000 ||| mk = mk) (hIn : Keeps mk sIn s) : Keeps mk sIn (modeBegin m s) := by
  refine Keeps.step hMk ?_ hIn
  unfold modeBegin
  try dsimp only
  repeat' first
    | with_reducible refine Keeps.ite ?_ ?_
    | with_reducible exact Keeps.refl
    | with_reducible assumption
    | ((with_reducible apply Keeps.put); (case d => rfl); (case e => rfl))
    | ((with_reducible apply capWithdraw_keeps); (case hMk => rfl))
    | ((with_reducible apply modHoar_keeps); (case hMk => rfl))
    | ((with_reducible apply modeEnd_keeps); (case hMk => rfl))
    | intro _
    | split
    | dsimp only
    | (refine Keeps.snd ?_ (by with_reducible assumption))

theorem modeNext_keeps {mk : Nat} {sIn : State} (s : State) (hMk : 0x15010264000000000000000000000000000000000000000000000000000000000000000000000000000000000000000000000002000000000000000000000000000046800000000000000000000000000000000001867000180800000000800000000000000000000000000000000000000000000000000000000000000000000000000000000000000000000000000000000000000000000800000000000000010000000000000000000000000000000000000000000000000000000000000980000000010007800000000000000000000000000 ||| mk = mk) (hIn : Keeps mk sIn s) : Keeps mk sIn (modeNext s) := by
  refine Keeps.step hMk ?_ hIn
  unfold modeNext
  try dsimp only
  repeat' first
    | with_reducible refine Keeps.ite ?_ ?_
    | with_reducible exact Keeps.refl
    | with_reducible assumption
    | ((with_reducible apply modHoar_keeps); (case hMk => rfl))
    | ((with_reducible apply modeBegin_keeps); (case hMk => rfl))
    | intro _
    | split
    | dsimp only
    | (refine Keeps.snd ?_ (by with_reducible assumption))

theorem modeRequest_keeps {mk : Nat} {sIn : State} (m : Nat) (s : State) (hMk : 0x15010264000000000000000000000000000000000000000000000000000000000000000000000000000000000000000000000002000000000000000000000000000047800000000000000000000000000000000001867000180800000000800000000000000000000000000000000000000000000000000000000000000000000000000000000000000000000000000000000000000000000800000000000000010000000000000000000000000000000000000000000000000000000000000980000000010007800000000000000000000000000 ||| mk = mk) (hIn : Keeps mk sIn s) : Keeps mk sIn (modeRequest m s) := by
  refine Keeps.step hMk ?_ hIn
  unfold modeRequest
  try dsimp only
  repeat' first
    | with_reducible refine Keeps.ite ?_ ?_
    | with_reducible exact Keeps.refl
    | with_reducible assumption
    | ((with_reducible apply Keeps.wr); (case d => rfl); (case e => rfl))
    | ((with_reducible apply modHoar_keeps); (case hMk => rfl))
    | ((with_reducible apply modeBegin_keeps); (case hMk => rfl))
    | intro _
    | split
    | dsimp only
    | (refine Keeps.snd ?_ (by with_reducible assumption))

theorem modeComplete_keeps {mk : Nat} {sIn : State} (s : State) (hMk : 0x15010264000000000000000000000000000000000000000000000000000000000000000000000000000000000000000000000002000000000000000000000000000046800000000000000000000000000000000001867000180800000000800000000000000000000000000000000000000000000000000000000000000000000000000000000000000000000000000000000000000000000800000000000000010000000000000000000000000000000000000000000000000000000000000980000000010007800000000000000000000000000 ||| mk = mk) (hIn : Keeps mk sIn s) : Keeps mk sIn (modeComplete s) := by
  refine Keeps.step hMk ?_ hIn
  unfold modeComplete
  try dsimp only
  repeat' first
    | with_reducible refine Keeps.ite ?_ ?_
    | with_reducible exact Keeps.refl
    | with_reducible assumption
    | ((with_reducible apply capRestore_keeps); (case hMk => rfl))
    | ((with_reducible apply modHoar_keeps); (case hMk => rfl))
    | ((with_reducible apply modeEnd_keeps); (case hMk => rfl))
    | ((with_reducible apply modeNext_keeps); (case hMk => rfl))
    | intro _
    | split
    | dsimp only
    | (refine Keeps.snd ?_ (by with_reducible assumption))

theorem modPort_keeps {mk : Nat} {sIn : State} (p : Nat) (f : Port → Port) (s : State) (hMk : 0x400000000000000000000000000000000000000000000000000000000000000000000000000000000000000000000000000000000000000000000000000000000000000000000000000000000000000000000000000000000000000000000000000000000000000000000000000000000000000000000000000000000000000000000000000000000000000000000000000000000000000000000000000000000000000000000000000000000000000000000000000000000000000000000000000000000000000000000000000000000000 ||| mk = mk) (hIn : Keeps mk sIn s) : Keeps mk sIn (modPort p f s) := by
  refine Keeps.step hMk ?_ hIn
  unfold modPort
  try dsimp only
  repeat' first
    | with_reducible refine Keeps.ite ?_ ?_
    | with_reducible exact Keeps.refl
    | with_reducible assumption
    | intro _
    | split
    | dsimp only
    | (refine Keeps.snd ?_ (by with_reducible assumption))
    | ((with_reducible apply Keeps.set_qms); (case e => rfl))

theorem setEgr_keeps {mk : Nat} {sIn : State} (p : Nat) (c : Nat) (l : List EgrFrame) (s : State) (hMk : 0x400000000000c00000000000000000000000000000000000000000000000000000000000000000000000000000000000000000000000000000000000000000000000000000000000000000000000000000000000000000000000000000000000000000000000000000000000000000000000000600000000000000000000000000000000000000000000000000000000000000000000000000000000000000000000000000000000000000000000000000000000000000000000000000000000000000000000000000000000000000000000 ||| mk = mk) (hIn : Keeps mk sIn s) : Keeps mk sIn (setEgr p c l s) := by
  refine Keeps.step hMk ?_ hIn
  unfold setEgr
  try dsimp only
  repeat' first
    | with_reducible refine Keeps.ite ?_ ?_
    | with_reducible exact Keeps.refl
    | with_reducible assumption
    | ((with_reducible apply Keeps.wr); (case d => rfl); (case e => rfl))
    | ((with_reducible apply Keeps.peak); (case d => rfl); (case e => rfl))
    | ((with_reducible apply modPort_keeps); (case hMk => rfl))
    | intro _
    | split
    | dsimp only
    | (refine Keeps.snd ?_ (by with_reducible assumption))

theorem egrPush_keeps {mk : Nat} {sIn : State} (p : Nat) (c : Nat) (f : EgrFrame) (s : State) (hMk : 0x400000000000c00000000000000000000000000000000000000000000000000000000000000000000000000000000000000000000000000000000000000000000000000000000000000000000000000000000000000000000000000000000000000000000000000000000000000000000000000600000000000000000000000000000000000000000000000000000000000000000000000000000000000000000000000000000000000000000000000000000000000000000000000000000000000000000000000000000000000000000000 ||| mk = mk) (hIn : Keeps mk sIn s) : Keeps mk sIn (egrPush p c f s) := by
  refine Keeps.step hMk ?_ hIn
  unfold egrPush
  try dsimp only
  repeat' first
    | with_reducible refine Keeps.ite ?_ ?_
    | with_reducible exact Keeps.refl
    | with_reducible assumption
    | ((with_reducible apply setEgr_keeps); (case hMk => rfl))
    | intro _
    | split
    | dsimp only
    | (refine Keeps.snd ?_ (by with_reducible assumption))
    | ((with_reducible apply Keeps.set_qms); (case e => rfl))

theorem gateView_keeps {mk : Nat} {sIn : State} (p : Nat) (s : State) (hMk : 0x4000000000000000000000000000000000000000000000000000000000000000000000000000000000000000000000000000000000000000000000000000000000000000000000000000000000000000000000000000000000000000000000000000000000000000000000000000000000000000000c0000000000000000000000000000000000000000000000000000000000000000000000000000000000000000000000000000000000000000000000000000000000000000000000000000000000000000000000000000000000000000 ||| mk = mk) (hIn : Keeps mk sIn s) : Keeps mk sIn (gateView p s) := by
  refine Keeps.step hMk ?_ hIn
  unfold gateView
  try dsimp only
  repeat' first
    | with_reducible refine Keeps.ite ?_ ?_
    | with_reducible exact Keeps.refl
    | with_reducible assumption
    | ((with_reducible apply Keeps.wr); (case d => rfl); (case e => rfl))
    | ((with_reducible apply modPort_keeps); (case hMk => rfl))
    | intro _
    | split
    | dsimp only
    | (refine Keeps.snd ?_ (by with_reducible assumption))

theorem setTaken_keeps {mk : Nat} {sIn : State} (r : Nat) (l : List TxTaken) (s : State) (hMk : 0x10000000000000000000000000000000000000000000000000000000000000000000000000000000000000000000000000000000000000000000000000000000000000000000000000000000000000000000000000000000000000000000000000000000000000000000000000000000000000000000000000000000000000000000000000000000000000000000000000000000000000000000000000000000000000000000000000000000000000000000000000000000000000000000000000000000000000000000000000000000000000 ||| mk = mk) (hIn : Keeps mk sIn s) : Keeps mk sIn (setTaken r l s) := by
  refine Keeps.step hMk ?_ hIn
  unfold setTaken
  try dsimp only
  repeat' first
    | with_reducible refine Keeps.ite ?_ ?_
    | with_reducible exact Keeps.refl
    | with_reducible assumption
    | intro _
    | split
    | dsimp only
    | (refine Keeps.snd ?_ (by with_reducible assumption))
    | ((with_reducible apply Keeps.set_hif); (case e => rfl))

theorem txFlush_keeps {mk : Nat} {sIn : State} (r : Nat) (k : Nat) (s : State) (hMk : 0x5010000000000000000000000000000000000000000000000000000000000000000000000000000000000000000000000000002000000000000000000000000000000000000000000000000000000000000000000066000100000000000000000000000000000000000000000000000000000000000000000000000000000000000000000000000000000000000000000000000000000000000000000000000000000000000000000000000000000000000000000000000000000000000000000000000000000000000000000000000000000000 ||| mk = mk) (hIn : Keeps mk sIn s) : Keeps mk sIn (txFlush r k s) := by
  refine Keeps.step hMk ?_ hIn
  have key : ∀ (k : Nat) (s s0 : State), Keeps 0x5010000000000000000000000000000000000000000000000000000000000000000000000000000000000000000000000000002000000000000000000000000000000000000000000000000000000000000000000066000100000000000000000000000000000000000000000000000000000000000000000000000000000000000000000000000000000000000000000000000000000000000000000000000000000000000000000000000000000000000000000000000000000000000000000000000000000000000000000000000000000000 s0 s → Keeps 0x5010000000000000000000000000000000000000000000000000000000000000000000000000000000000000000000000000002000000000000000000000000000000000000000000000000000000000000000000066000100000000000000000000000000000000000000000000000000000000000000000000000000000000000000000000000000000000000000000000000000000000000000000000000000000000000000000000000000000000000000000000000000000000000000000000000000000000000000000000000000000000 s0 (txFlush r k s) := by
    intro k
    induction k with
    | zero => intro s s0 h; unfold txFlush; exact h
    | succ k ih =>
     intro s s0 h
     unfold txFlush
     try dsimp only
     repeat' first
      | with_reducible refine Keeps.ite ?_ ?_
      | (with_reducible apply ih)
      | with_reducible exact Keeps.refl
      | with_reducible assumption
      | ((with_reducible apply setTaken_keeps); (case hMk => rfl))
      | ((with_reducible apply slotWrite_keeps); (case hMk => rfl))
      | split
      | (refine Keeps.snd ?_ (by with_reducible assumption))
      | intro _
      | dsimp only
  exact key k s s Keeps.refl

theorem txLeft_keeps {mk : Nat} {sIn : State} (f : EgrFrame) (ts : Option (Nat × Int)) (dropped : Option Nat) (s : State) (hMk : 0x5010000000000000000000000000000000000000000000000000000000000000000000000000000000000000000000000000002000000000000000000000000000000000000000000000000000000000000000000066000100000000000000000000000000000000000000000000000000000000000000000000000000000000000000000000000000000000000000000000000000000000000000000000000000000000000000000000000000000000000000000000000000000000000000000000000000000000000000000000000000000000 ||| mk = mk) (hIn : Keeps mk sIn s) : Keeps mk sIn (txLeft f ts dropped s) := by
  refine Keeps.step hMk ?_ hIn
  unfold txLeft
  try dsimp only
  repeat' first
    | with_reducible refine Keeps.ite ?_ ?_
    | with_reducible exact Keeps.refl
    | with_reducible assumption
    | ((with_reducible apply setTaken_keeps); (case hMk => rfl))
    | ((with_reducible apply txFlush_keeps); (case hMk => rfl))
    | intro _
    | split
    | dsimp only
    | (refine Keeps.snd ?_ (by with_reducible assumption))

theorem dropNever_keeps {mk : Nat} {sIn : State} (p : Nat) (c : Nat) (k : Nat) (s : State) (hMk : 0x5010400000000000c00000000000000000000000000000000000000000000000000000000000000000000000000000000000002000000000000000000000000000000000000000000000000000000000000000001867000180800000000800000000000000000000000000000000000000000000000640000000000001002000000200000000000000000000000000000000000000000000000000000000000000000000000000000000000000000000000000000000000000000000000000000000000000000000000000000000000000000000 ||| mk = mk) (hIn : Keeps mk sIn s) : Keeps mk sIn (dropNever p c k s) := by
  refine Keeps.step hMk ?_ hIn
  have key : ∀ (k : Nat) (s s0 : State), Keeps 0x5010400000000000c00000000000000000000000000000000000000000000000000000000000000000000000000000000000002000000000000000000000000000000000000000000000000000000000000000001867000180800000000800000000000000000000000000000000000000000000000640000000000001002000000200000000000000000000000000000000000000000000000000000000000000000000000000000000000000000000000000000000000000000000000000000000000000000000000000000000000000000000 s0 s → Keeps 0x5010400000000000c00000000000000000000000000000000000000000000000000000000000000000000000000000000000002000000000000000000000000000000000000000000000000000000000000000001867000180800000000800000000000000000000000000000000000000000000000640000000000001002000000200000000000000000000000000000000000000000000000000000000000000000000000000000000000000000000000000000000000000000000000000000000000000000000000000000000000000000000 s0 (dropNever p c k s) := by
    intro k
    induction k with
    | zero => intro s s0 h; unfold dropNever; exact h
    | succ k ih =>
     intro s s0 h
     unfold dropNever
     try dsimp only
     repeat' first
      | with_reducible refine Keeps.ite ?_ ?_
      | (with_reducible apply ih)
      | with_reducible exact Keeps.refl
      | with_reducible assumption
      | ((with_reducible apply Keeps.inc); (case d => rfl); (case e => rfl))
      | ((with_reducible apply Keeps.whey); (case e => rfl); (case e2 => rfl))
      | ((with_reducible apply raiseAt_keeps); (case d => rfl); (case hMk => rfl); (case hMk2 => rfl))
      | ((with_reducible apply setEgr_keeps); (case hMk => rfl))
      | ((with_reducible apply txLeft_keeps); (case hMk => rfl))
      | split
      | (refine Keeps.snd ?_ (by with_reducible assumption))
      | intro _
      | dsimp only
  exact key k s s Keeps.refl

theorem ringArm_keeps {mk : Nat} {sIn : State} (r : Nat) (s : State) (hMk : 0x10000000000000000000000000000000000000000000000000000000000000000000000000000000000000000000000000002000000000000000000000000000000000000000000000000000000000000000000024000100000000000000000000000000000000000000000000000000000000000000000000000000000000000000000000000000000000000000000000000000000000000000000000000000000000000000000000000000000000000000000000000000000000000000000000000000000000000000000000000000000000 ||| mk = mk) (hIn : Keeps mk sIn s) : Keeps mk sIn (ringArm r s) := by
  refine Keeps.step hMk ?_ hIn
  unfold ringArm
  try dsimp only
  repeat' first
    | with_reducible refine Keeps.ite ?_ ?_
    | with_reducible exact Keeps.refl
    | with_reducible assumption
    | ((with_reducible apply Keeps.put); (case d => rfl); (case e => rfl))
    | ((with_reducible apply ringSignal_keeps); (case hMk => rfl))
    | intro _
    | split
    | dsimp only
    | (refine Keeps.snd ?_ (by with_reducible assumption))
    | ((with_reducible apply Keeps.set_hif); (case e => rfl))

theorem doorbell_keeps {mk : Nat} {sIn : State} (r : Nat) (index : Nat) (arm : Bool) (s : State) (hMk : 0x5010000000000000000000000000000000000000000000000000000000000000000000000000000000000000000000000000002000000000000000000000000000000000000000000000000000000000000000001867800180a00000000a00000000000000000000000000000000000000000000000000000000000000000000000000000000000000000000000000000000000000000000000000000000000000000000000000000000000000000000000000000000000000000000000000000000000000000000000000000000000000000000 ||| mk = mk) (hIn : Keeps mk sIn s) : Keeps mk sIn (doorbell r index arm s) := by
  refine Keeps.step hMk ?_ hIn
  unfold doorbell
  try dsimp only
  repeat' first
    | with_reducible refine Keeps.ite ?_ ?_
    | with_reducible exact Keeps.refl
    | with_reducible assumption
    | ((with_reducible apply Keeps.wr); (case d => rfl); (case e => rfl))
    | ((with_reducible apply Keeps.inc); (case d => rfl); (case e => rfl))
    | (with_reducible refine Keeps.when _ _ ?_ ?_)
    | ((with_reducible apply eventDrain_keeps); (case hMk => rfl))
    | ((with_reducible apply raise_keeps); (case d => rfl); (case hMk => rfl); (case hMk2 => rfl))
    | ((with_reducible apply ringArm_keeps); (case hMk => rfl))
    | intro _
    | split
    | dsimp only
    | (refine Keeps.snd ?_ (by with_reducible assumption))

theorem execDoorbellWrite_keeps (offset : Nat) (value : Word) (t : Nat) (s : State) : KeepsR 0xd010000100000000000000000000000000000000000000000000000000000000000000000000000000000000000000000000002000000000000000000000000000000000000000000000000000000000000000001867800180a00000000a00000000000000000000000000000000000000000000000000000000000000000000000000000000000000000000000000000000000000000000000000000000000000000000000000000000000000000000000000000000000000000000000000000000000000000000000000000000000000000000 s (execDoorbellWrite offset value t s) := by
  unfold execDoorbellWrite
  try dsimp only
  repeat' first
    | (with_reducible refine KeepsR.next ?_)
    | (with_reducible refine KeepsR.ite ?_ ?_)
    | with_reducible refine Keeps.ite ?_ ?_
    | with_reducible exact Keeps.refl
    | with_reducible assumption
    | ((with_reducible apply Keeps.at); (case e => rfl); (case e2 => rfl))
    | ((with_reducible apply doorbell_keeps); (case hMk => rfl))
    | intro _
    | split
    | dsimp only
    | (refine Keeps.snd ?_ (by with_reducible assumption))

theorem slotsBlank_keeps {mk : Nat} {sIn : State} (r : Nat) (s : State) (hMk : 0x10000000000000000000000000000000000000000000000000000000000000000000000000000000000000000000000000000000000000000000000000000000000000000000000000000000000000000000000000000000000000000000000000000000000000000000000000000000000000000000000000000000000000000000000000000000000000000000000000000000000000000000000000000000000000000000000000000000000000000000000000000000000000000000000000000000000000000000000000000000000000 ||| mk = mk) (hIn : Keeps mk sIn s) : Keeps mk sIn (slotsBlank r s) := by
  refine Keeps.step hMk ?_ hIn
  unfold slotsBlank
  try dsimp only
  repeat' first
    | with_reducible refine Keeps.ite ?_ ?_
    | with_reducible exact Keeps.refl
    | with_reducible assumption
    | intro _
    | split
    | dsimp only
    | (refine Keeps.snd ?_ (by with_reducible assumption))
    | ((with_reducible apply Keeps.set_hif); (case e => rfl))

theorem execRingEnable_keeps (ring : Fin 76) (t : Nat) (s : State) : KeepsR 0xd01000010000000000000000000000000000000000000000000000000000000000000000000000000000000000000000000000200000000000000000000000000000000000000000000000000000000000000000187f804180000000000000000000000000000000000000000000000000000000000000000000000000000000000000000000000000000000000000000000000000000000000000000000000000000000000000000000000000000000000000000000000000000000000000000000000000000000000000000000000000000000 s (execRingEnable ring t s) := by
  unfold execRingEnable
  try dsimp only
  repeat' first
    | (with_reducible refine KeepsR.next ?_)
    | (with_reducible refine KeepsR.ite ?_ ?_)
    | with_reducible refine Keeps.ite ?_ ?_
    | with_reducible exact Keeps.refl
    | with_reducible assumption
    | ((with_reducible apply Keeps.wr); (case d => rfl); (case e => rfl))
    | ((with_reducible apply Keeps.put); (case d => rfl); (case e => rfl))
    | ((with_reducible apply Keeps.at); (case e => rfl); (case e2 => rfl))
    | ((with_reducible apply eventDrain_keeps); (case hMk => rfl))
    | ((with_reducible apply runView_keeps); (case hMk => rfl))
    | ((with_reducible apply slotsBlank_keeps); (case hMk => rfl))
    | intro _
    | split
    | dsimp only
    | (refine Keeps.snd ?_ (by with_reducible assumption))

theorem execRingDisable_keeps (ring : Fin 76) (t : Nat) (s : State) : KeepsR 0x8000000100000000000000000000000000000000000000000000000000000000000000000000000000000000000000000000000000000000000000000000000000000000000000000000000000000000000000000002004000000000000000000000000000000000000000000000000000000000000000000000000000000000000000000000000000000000000000000000000000000000000000000000000000000000000000000000000000000000000000000000000000000000000000000000000000000000000000000000000000000000 s (execRingDisable ring t s) := by
  unfold execRingDisable
  try dsimp only
  repeat' first
    | (with_reducible refine KeepsR.next ?_)
    | (with_reducible refine KeepsR.ite ?_ ?_)
    | with_reducible refine Keeps.ite ?_ ?_
    | with_reducible exact Keeps.refl
    | with_reducible assumption
    | ((with_reducible apply Keeps.put); (case d => rfl); (case e => rfl))
    | ((with_reducible apply Keeps.at); (case e => rfl); (case e2 => rfl))
    | ((with_reducible apply runView_keeps); (case hMk => rfl))
    | intro _
    | split
    | dsimp only
    | (refine Keeps.snd ?_ (by with_reducible assumption))

theorem turnTake_keeps {mk : Nat} {sIn : State} (r : Nat) (s : State) (hMk : 0x10000000000000000000000000000000000000000000000000000000000000000000000000000000000000000000000000000000000000000000000000000000000000000000000000000000000000000000000000000000000000000000000000000000000000000000000000000000000000000000000000000000000000000000000000000000000000000000000000000000000000000000000000000000000000000000000000000000000000000000000000000000000000000000000000000000000000000000000000000000000000 ||| mk = mk) (hIn : Keeps mk sIn s) : Keeps mk sIn (turnTake r s) := by
  refine Keeps.step hMk ?_ hIn
  unfold turnTake
  try dsimp only
  repeat' first
    | with_reducible refine Keeps.ite ?_ ?_
    | with_reducible exact Keeps.refl
    | with_reducible assumption
    | intro _
    | split
    | dsimp only
    | (refine Keeps.snd ?_ (by with_reducible assumption))
    | ((with_reducible apply Keeps.set_hif); (case e => rfl))

theorem turnPass_keeps {mk : Nat} {sIn : State} (r : Nat) (s : State) (hMk : 0x10000000000000000000000000000000000000000000000000000000000000000000000000000000000000000000000000000000000000000000000000000000000000000000000000000000000000000000000000000000000000000000000000000000000000000000000000000000000000000000000000000000000000000000000000000000000000000000000000000000000000000000000000000000000000000000000000000000000000000000000000000000000000000000000000000000000000000000000000000000000000 ||| mk = mk) (hIn : Keeps mk sIn s) : Keeps mk sIn (turnPass r s) := by
  refine Keeps.step hMk ?_ hIn
  unfold turnPass
  try dsimp only
  repeat' first
    | with_reducible refine Keeps.ite ?_ ?_
    | with_reducible exact Keeps.refl
    | with_reducible assumption
    | intro _
    | split
    | dsimp only
    | (refine Keeps.snd ?_ (by with_reducible assumption))
    | ((with_reducible apply Keeps.set_hif); (case e => rfl))

theorem txTake_keeps {mk : Nat} {sIn : State} (r : Nat) (x : TxTaken) (s : State) (hMk : 0x5010000000000000000000000000000000000000000000000000000000000000000000000000000000000000000000000000002000000000000000000000000000000000000000000000000000000000000000000066800108000000000000000000000000000000000000000000000000000000000000000000000000000000000000000000000000000000000000000000000000000000000000000000000000000000000000000000000000000000000000000000000000000000000000000000000000000000000000000000000000000000 ||| mk = mk) (hIn : Keeps mk sIn s) : Keeps mk sIn (txTake r x s) := by
  refine Keeps.step hMk ?_ hIn
  unfold txTake
  try dsimp only
  repeat' first
    | with_reducible refine Keeps.ite ?_ ?_
    | with_reducible exact Keeps.refl
    | with_reducible assumption
    | ((with_reducible apply Keeps.inc); (case d => rfl); (case e => rfl))
    | ((with_reducible apply ringTake_keeps); (case hMk => rfl))
    | ((with_reducible apply setTaken_keeps); (case hMk => rfl))
    | ((with_reducible apply txFlush_keeps); (case hMk => rfl))
    | intro _
    | split
    | dsimp only
    | (refine Keeps.snd ?_ (by with_reducible assumption))

theorem txEth_keeps {mk : Nat} {sIn : State} (r : Nat) (d : TxDesc) (e : EthMeta) (x : TxTaken) (s : State) (hMk : 0x5010400400000000c00000000000000000000000000000000000000000000000000000000000000000000000000000000000002000000000000000000000000000000000000000000000000000000000000000001867800188800000000800000000000000000000000000000000000000000000000600000000000000002000003301810000000000000000000000000000000000000000000000000000000000000000000000000000000000000000000000000000000000000000000000000000000000000000000000000000000000000000 ||| mk = mk) (hIn : Keeps mk sIn s) : Keeps mk sIn (txEth r d e x s) := by
  refine Keeps.step hMk ?_ hIn
  unfold txEth
  try dsimp only
  repeat' first
    | with_reducible refine Keeps.ite ?_ ?_
    | with_reducible exact Keeps.refl
    | with_reducible assumption
    | ((with_reducible apply Keeps.whey); (case e => rfl); (case e2 => rfl))
    | ((with_reducible apply egrPush_keeps); (case hMk => rfl))
    | ((with_reducible apply poolGive_keeps); (case hMk => rfl))
    | (refine Keeps.snd (p := poolTake _ _ _) ?_ (by with_reducible assumption))
    | ((with_reducible apply poolTake_keeps); (case hMk => rfl))
    | ((with_reducible apply txTake_keeps); (case hMk => rfl))
    | intro _
    | split
    | dsimp only
    | (refine Keeps.snd ?_ (by with_reducible assumption))

theorem txPacket_keeps {mk : Nat} {sIn : State} (r : Nat) (d : TxDesc) (p : DownContent) (x : TxTaken) (s : State) (hMk : 0x5012400000000000000000000000000000000000000000000000000000000000000000000000000000000000000000000000002000000000000000000000000000000000000000000000000000000000000000000066800108000000000000000000000000000000000000000000000000000000000000000000000000000000000000000000000000000000000000000000000000000000000000000000000000000000000000000000000000000000000000000000000000000000000000000000000000000000000000000000000000000000 ||| mk = mk) (hIn : Keeps mk sIn s) : Keeps mk sIn (txPacket r d p x s) := by
  refine Keeps.step hMk ?_ hIn
  unfold txPacket
  try dsimp only
  repeat' first
    | with_reducible refine Keeps.ite ?_ ?_
    | with_reducible exact Keeps.refl
    | with_reducible assumption
    | ((with_reducible apply txTake_keeps); (case hMk => rfl))
    | intro _
    | split
    | dsimp only
    | (refine Keeps.snd ?_ (by with_reducible assumption))
    | ((with_reducible apply Keeps.set_qms_fwd); (case e0 => rfl); (case e1 => rfl))

theorem txDma_keeps {mk : Nat} {sIn : State} (r : Nat) (addr : Nat) (x : TxTaken) (s : State) (hMk : 0x50700080000000000000000000020000000020000000000000000011547c00c17c000000000000000000000000000000000000200000000000000000000000000000000000000000000000000000000000000000187f800188c00000000c00000000000000000000000000000000000000000000000000000000000000000000000000000000000000000000000000000000000000000000000000000000000000000000000000000000000000000000000000000000000000000000000000000000000000000000000000000000000000000080 ||| mk = mk) (hIn : Keeps mk sIn s) : Keeps mk sIn (txDma r addr x s) := by
  refine Keeps.step hMk ?_ hIn
  unfold txDma
  try dsimp only
  repeat' first
    | with_reducible refine Keeps.ite ?_ ?_
    | with_reducible exact Keeps.refl
    | with_reducible assumption
    | ((with_reducible apply dmaFail_keeps); (case hMk => rfl))
    | ((with_reducible apply txTake_keeps); (case hMk => rfl))
    | intro _
    | split
    | dsimp only
    | (refine Keeps.snd ?_ (by with_reducible assumption))

theorem txDo_keeps {mk : Nat} {sIn : State} (r : Nat) (d : TxDesc) (pkt : DownContent) (eth : EthMeta) (s : State) (hMk : 0x5072408400000000c000000000020000000020000000000000000011547c00c17c000000000000000000000000000000000000200000000000000000000000000000000000000000000000000000000000000000187f80018dc00000000c00000000000000000000000000000000000000000000000600000000000000002000003301810000000000000000000000000000000000000000000000000000000000000000000000000000000000000000000000000000000000000000000000000000000000000000000000000000000000000080 ||| mk = mk) (hIn : Keeps mk sIn s) : Keeps mk sIn (txDo r d pkt eth s) := by
  refine Keeps.step hMk ?_ hIn
  unfold txDo
  try dsimp only
  repeat' first
    | with_reducible refine Keeps.ite ?_ ?_
    | with_reducible exact Keeps.refl
    | with_reducible assumption
    | ((with_reducible apply Keeps.inc); (case d => rfl); (case e => rfl))
    | (with_reducible refine Keeps.when _ _ ?_ ?_)
    | ((with_reducible apply turnTake_keeps); (case hMk => rfl))
    | ((with_reducible apply txDma_keeps); (case hMk => rfl))
    | ((with_reducible apply txEth_keeps); (case hMk => rfl))
    | ((with_reducible apply txPacket_keeps); (case hMk => rfl))
    | ((with_reducible apply txTake_keeps); (case hMk => rfl))
    | intro _
    | split
    | dsimp only
    | (refine Keeps.snd ?_ (by with_reducible assumption))

theorem execTxDescriptor_keeps (ring : Fin 32) (desc : Desc) (pkt : DownContent) (eth : EthMeta) (t : Nat) (s : State) : KeepsR 0xd072408500000000c000000000020000000020000000000000000011547c00c17c000000000000000000000000000000000000200000000000000000000000000000000000000000000000000000000000000000187f80018dc00000000c00000000000000000000000000000000000000000000000600000000000000002000003301810000000000000000000000000000000000000000000000000000000000000000000000000000000000000000000000000000000000000000000000000000000000000000000000000000000000000080 s (execTxDescriptor ring desc pkt eth t s) := by
  unfold execTxDescriptor
  try dsimp only
  repeat' first
    | (with_reducible refine KeepsR.next ?_)
    | (with_reducible refine KeepsR.ite ?_ ?_)
    | with_reducible refine Keeps.ite ?_ ?_
    | with_reducible exact Keeps.refl
    | with_reducible assumption
    | ((with_reducible apply Keeps.at); (case e => rfl); (case e2 => rfl))
    | ((with_reducible apply dmaFail_keeps); (case hMk => rfl))
    | ((with_reducible apply turnPass_keeps); (case hMk => rfl))
    | ((with_reducible apply txDo_keeps); (case hMk => rfl))
    | intro _
    | split
    | dsimp only
    | (refine Keeps.snd ?_ (by with_reducible assumption))

theorem execRxFrameDeliver_keeps (ring : Fin 32) (desc : Desc) (t : Nat) (s : State) : KeepsR 0xd0700081000000000000000000020000000020000000000000000011547c00c17c0000000000000000000000000000000000002000000000000000000000000000000000000000000000000000000000000000001b7f800396c00000000c00000000000000000000000000000000000000000000000000000000000000002000000200000000000000000000000000000000000000000000000000000000000000000000000000000000000000000000000000000000000000000000000000000000000000000000000000000000000000000080 s (execRxFrameDeliver ring desc t s) := by
  unfold execRxFrameDeliver
  try dsimp only
  repeat' first
    | (with_reducible refine KeepsR.next ?_)
    | (with_reducible refine KeepsR.ite ?_ ?_)
    | with_reducible refine Keeps.ite ?_ ?_
    | with_reducible exact Keeps.refl
    | with_reducible assumption
    | ((with_reducible apply Keeps.inc); (case d => rfl); (case e => rfl))
    | ((with_reducible apply Keeps.at); (case e => rfl); (case e2 => rfl))
    | ((with_reducible apply Keeps.whey); (case e => rfl); (case e2 => rfl))
    | (refine Keeps.snd (p := rxWrite _ _ _ _) ?_ (by with_reducible assumption))
    | ((with_reducible apply rxWrite_keeps); (case hMk => rfl))
    | ((with_reducible apply setBacklog_keeps); (case hMk => rfl))
    | intro _
    | split
    | dsimp only
    | (refine Keeps.snd ?_ (by with_reducible assumption))
    | ((with_reducible apply Keeps.set_hif); (case e => rfl))
    | ((with_reducible apply Keeps.set_hif); (case e => rfl))

theorem execModerationTimer_keeps (ring : Fin 76) (t : Nat) (s : State) : KeepsR 0x8010000100000000000000000000000000000000000000000000000000000000000000000000000000000000000000000000002000000000000000000000000000000000000000000000000000000000000000000024000100000000000000000000000000000000000000000000000000000000000000000000000000000000000000000000000000000000000000000000000000000000000000000000000000000000000000000000000000000000000000000000000000000000000000000000000000000000000000000000000000000000 s (execModerationTimer ring t s) := by
  unfold execModerationTimer
  try dsimp only
  repeat' first
    | (with_reducible refine KeepsR.next ?_)
    | (with_reducible refine KeepsR.ite ?_ ?_)
    | with_reducible refine Keeps.ite ?_ ?_
    | with_reducible exact Keeps.refl
    | with_reducible assumption
    | ((with_reducible apply Keeps.at); (case e => rfl); (case e2 => rfl))
    | ((with_reducible apply ringSignal_keeps); (case hMk => rfl))
    | intro _
    | split
    | dsimp only
    | (refine Keeps.snd ?_ (by with_reducible assumption))

theorem execDmaReadFail_keeps (ring : Fin 76) (desc : Option Desc) (addr : Nat) (t : Nat) (s : State) : KeepsR 0xd0700081000000000000000000020000000020000000000000000011547c00c17c0000000000000000000000000000000000002000000000000000000000000000000000000000000000000000000000000000001c7f8009e8c00000000c00000000000000000000000000000000000000000000000000000000000000000000000000000000000000000000000000000000000000000000000000000000000000000000000000000000000000000000000000000000000000000000000000000000000000000000000000000000000000000080 s (execDmaReadFail ring desc addr t s) := by
  unfold execDmaReadFail
  try dsimp only
  repeat' first
    | (with_reducible refine KeepsR.next ?_)
    | (with_reducible refine KeepsR.ite ?_ ?_)
    | with_reducible refine Keeps.ite ?_ ?_
    | with_reducible exact Keeps.refl
    | with_reducible assumption
    | ((with_reducible apply Keeps.at); (case e => rfl); (case e2 => rfl))
    | ((with_reducible apply cmdDma_keeps); (case hMk => rfl))
    | ((with_reducible apply cmdTake_keeps); (case hMk => rfl))
    | ((with_reducible apply dmaFail_keeps); (case hMk => rfl))
    | ((with_reducible apply turnTake_keeps); (case hMk => rfl))
    | ((with_reducible apply txDma_keeps); (case hMk => rfl))
    | intro _
    | split
    | dsimp only
    | (refine Keeps.snd ?_ (by with_reducible assumption))

theorem ringFlr_keeps {mk : Nat} {sIn : State} (r : Nat) (s : State) (hMk : 0x1000000000000000000000000000000000000000000000000000000000000000000000000000000000000000000000000000000000000000000000000000000000000000000000000000000000000000000000001a604000000000000000000000000000000000000000000000000000000000000000000000000000000000000000000000000000000000000000000000000000000000000000000000000000000000000000000000000000000000000000000000000000000000000000000000000000000000000000000000000000000000 ||| mk = mk) (hIn : Keeps mk sIn s) : Keeps mk sIn (ringFlr r s) := by
  refine Keeps.step hMk ?_ hIn
  unfold ringFlr
  try dsimp only
  repeat' first
    | with_reducible refine Keeps.ite ?_ ?_
    | with_reducible exact Keeps.refl
    | with_reducible assumption
    | ((with_reducible apply Keeps.wr); (case d => rfl); (case e => rfl))
    | ((with_reducible apply Keeps.put); (case d => rfl); (case e => rfl))
    | ((with_reducible apply runView_keeps); (case hMk => rfl))
    | ((with_reducible apply setTaken_keeps); (case hMk => rfl))
    | intro _
    | split
    | dsimp only
    | (refine Keeps.snd ?_ (by with_reducible assumption))
    | ((with_reducible apply Keeps.set_hif); (case e => rfl))
    | ((with_reducible apply Keeps.set_hif); (case e => rfl))

theorem functionReset_keeps {mk : Nat} {sIn : State} (s : State) (hMk : 0x1000000000000000000000000000000000000000000000000000000000000000000000000000000000000000000000000000000000000000000000000000000000000000000000000000000000000000000000001a604400000000000180000000000000000000000000000000000000000000000000000000000000000000000000000000000000000000000000000000000000000000000000000000000000000000000000000000000000000000000000000000000000000000000000000000000000000000000000000000000000000000 ||| mk = mk) (hIn : Keeps mk sIn s) : Keeps mk sIn (functionReset s) := by
  refine Keeps.step hMk ?_ hIn
  unfold functionReset
  try dsimp only
  repeat' first
    | with_reducible refine Keeps.ite ?_ ?_
    | with_reducible exact Keeps.refl
    | with_reducible assumption
    | ((with_reducible apply Keeps.put); (case d => rfl); (case e => rfl))
    | ((with_reducible apply Keeps.inc); (case d => rfl); (case e => rfl))
    | (with_reducible refine Keeps.each _ _ ?_ ?_)
    | ((with_reducible apply ringFlr_keeps); (case hMk => rfl))
    | intro _
    | split
    | dsimp only
    | (refine Keeps.snd ?_ (by with_reducible assumption))
    | ((with_reducible apply Keeps.set_hif); (case e => rfl))

theorem execFunctionLevelReset_keeps (t : Nat) (s : State) : KeepsR 0x801000010000000000000000000000000000000000000000000000000000000000000000000000000000000000000000000000000000000000000000000000000000000000000000000000000000000000000000001a604400000000000180000000000000000000000000000000000000000000000000000000000000000000000000000000000000000000000000000000000000000000000000000000000000000000000000000000000000000000000000000000000000000000000000000000000000000000000000000000000000000000 s (execFunctionLevelReset t s) := by
  unfold execFunctionLevelReset
  try dsimp only
  repeat' first
    | (with_reducible refine KeepsR.next ?_)
    | (with_reducible refine KeepsR.ite ?_ ?_)
    | with_reducible refine Keeps.ite ?_ ?_
    | with_reducible exact Keeps.refl
    | with_reducible assumption
    | ((with_reducible apply Keeps.at); (case e => rfl); (case e2 => rfl))
    | ((with_reducible apply functionReset_keeps); (case hMk => rfl))
    | intro _
    | split
    | dsimp only
    | (refine Keeps.snd ?_ (by with_reducible assumption))

theorem execD3hotToD0_keeps (t : Nat) (s : State) : KeepsR 0x801000010000000000000000000000000000000000000000000000000000000000000000000000000000000000000000000000000000000000000000000000000000000000000000000000000000000000000000001a604400000000000180000000000000000000000000000000000000000000000000000000000000000000000000000000000000000000000000000000000000000000000000000000000000000000000000000000000000000000000000000000000000000000000000000000000000000000000000000000000000000000 s (execD3hotToD0 t s) := by
  unfold execD3hotToD0
  try dsimp only
  repeat' first
    | (with_reducible refine KeepsR.next ?_)
    | (with_reducible refine KeepsR.ite ?_ ?_)
    | with_reducible refine Keeps.ite ?_ ?_
    | with_reducible exact Keeps.refl
    | with_reducible assumption
    | ((with_reducible apply Keeps.at); (case e => rfl); (case e2 => rfl))
    | ((with_reducible apply functionReset_keeps); (case hMk => rfl))
    | intro _
    | split
    | dsimp only
    | (refine Keeps.snd ?_ (by with_reducible assumption))

theorem execMsixVectorUnmask_keeps (vector : Fin 64) (addr : Nat) (data : Nat) (t : Nat) (s : State) : KeepsR 0x8010000100000000000000000000000000000000000000000000000000000000000000000000000000000000000000000000000000000000000000000000000000000000000000000000000000000000000000000000000100000000000000000000000000000000000000000000000000000000000000000000000000000000000000000000000000000000000000000000000000000000000000000000000000000000000000000000000000000000000000000000000000000000000000000000000000000000000000000000000000000000 s (execMsixVectorUnmask vector addr data t s) := by
  unfold execMsixVectorUnmask
  try dsimp only
  repeat' first
    | (with_reducible refine KeepsR.next ?_)
    | (with_reducible refine KeepsR.ite ?_ ?_)
    | with_reducible refine Keeps.ite ?_ ?_
    | with_reducible exact Keeps.refl
    | with_reducible assumption
    | ((with_reducible apply Keeps.inc); (case d => rfl); (case e => rfl))
    | ((with_reducible apply Keeps.at); (case e => rfl); (case e2 => rfl))
    | intro _
    | split
    | dsimp only
    | (refine Keeps.snd ?_ (by with_reducible assumption))
    | ((with_reducible apply Keeps.set_hif); (case e => rfl))
    | ((with_reducible apply Keeps.set_hif); (case e => rfl))

theorem execNop_keeps (ring : Fin 8) (tag : Nat) (t : Nat) (s : State) : KeepsR 0xd0700081000000000000000000020000000020000000000000000011547c00c17c0000000000000000000000000000000000002000000000000000000000000000000000000000000000000000000000000000001c7f8009e0c00000000c00000000000000000000000000000000000000000000000000000000000000000000000000000000000000000000000000000000000000000000000000000000000000000000000000000000000000000000000000000000000000000000000000000000000000000000000000000000000000000080 s (execNop ring tag t s) := by
  unfold execNop
  try dsimp only
  repeat' first
    | ((with_reducible apply withCmd_keeps); (case hMk => rfl))
    | (with_reducible refine KeepsR.next ?_)
    | (with_reducible refine KeepsR.ite ?_ ?_)
    | with_reducible refine Keeps.ite ?_ ?_
    | with_reducible exact Keeps.refl
    | with_reducible assumption
    | ((with_reducible apply Keeps.at); (case e => rfl); (case e2 => rfl))
    | ((with_reducible apply cmdPlain_keeps); (case hMk => rfl))
    | intro _
    | split
    | dsimp only
    | (refine Keeps.snd ?_ (by with_reducible assumption))

theorem execBadop_keeps (ring : Fin 8) (op : Nat) (tag : Nat) (t : Nat) (s : State) : KeepsR 0xd0700081000000000000000000020000000020000000000000000011547c00c17c0000000000000000000000000000000000002000000000000000000000000000000000000000000000000000000000000000001c7f8009e0c00000000c00000000000000000000000000000000000000000000000000000000000000000000000000000000000000000000000000000000000000000000000000000000000000000000000000000000000000000000000000000000000000000000000000000000000000000000000000000000000000000080 s (execBadop ring op tag t s) := by
  unfold execBadop
  try dsimp only
  repeat' first
    | ((with_reducible apply withCmd_keeps); (case hMk => rfl))
    | (with_reducible refine KeepsR.next ?_)
    | (with_reducible refine KeepsR.ite ?_ ?_)
    | with_reducible refine Keeps.ite ?_ ?_
    | with_reducible exact Keeps.refl
    | with_reducible assumption
    | ((with_reducible apply Keeps.at); (case e => rfl); (case e2 => rfl))
    | ((with_reducible apply cmdPlain_keeps); (case hMk => rfl))
    | intro _
    | split
    | dsimp only
    | (refine Keeps.snd ?_ (by with_reducible assumption))

theorem execHifRxrBacklogPeakRead_keeps (ring : Fin 32) (requester : Requester) (s : State) : KeepsR 0x800000000000000000000000000000000000000000000000000000000000000000000000000000000000000000000000000000000000000000000000000000000000000000000000000000000000000000200000000000000000000000000000000000000000000000000000000000000000000000000000000000000000000000000000000000000000000000000000000000000000000000000000000000000000000000000000000000000000000000000000000000000000000000000000000000000000000000000000000000000 s (execHifRxrBacklogPeakRead ring requester s) := by
  unfold execHifRxrBacklogPeakRead
  try dsimp only
  repeat' first
    | (with_reducible refine KeepsR.next ?_)
    | (with_reducible refine KeepsR.ite ?_ ?_)
    | with_reducible refine Keeps.ite ?_ ?_
    | with_reducible exact Keeps.refl
    | with_reducible assumption
    | ((with_reducible apply Keeps.wr); (case d => rfl); (case e => rfl))
    | ((with_reducible apply Keeps.answer); (case e => rfl))
    | intro _
    | split
    | dsimp only
    | (refine Keeps.snd ?_ (by with_reducible assumption))

theorem execHifEvtrPendPeakRead_keeps (ring : Fin 4) (requester : Requester) (s : State) : KeepsR 0x800000000000000000000000000000000000000000000000000000000000000000000000000000000000000000000000000000000000000000000000000000000000000000000000000000000000000001000000000000000000000000000000000000000000000000000000000000000000000000000000000000000000000000000000000000000000000000000000000000000000000000000000000000000000000000000000000000000000000000000000000000000000000000000000000000000000000000000000000000000 s (execHifEvtrPendPeakRead ring requester s) := by
  unfold execHifEvtrPendPeakRead
  try dsimp only
  repeat' first
    | (with_reducible refine KeepsR.next ?_)
    | (with_reducible refine KeepsR.ite ?_ ?_)
    | with_reducible refine Keeps.ite ?_ ?_
    | with_reducible exact Keeps.refl
    | with_reducible assumption
    | ((with_reducible apply Keeps.wr); (case d => rfl); (case e => rfl))
    | ((with_reducible apply Keeps.answer); (case e => rfl))
    | intro _
    | split
    | dsimp only
    | (refine Keeps.snd ?_ (by with_reducible assumption))

theorem sleepAbandon_keeps {mk : Nat} {sIn : State} (s : State) (hMk : 0x2000000000000000000000000000000000000000000000000000000000000000000000000000000000000000000021000000000000000000000000000000000000000000000000000000000000000000000000000000000000000000000000000000000000000000000000000000000000000000000000000000000000000000000000000000000000000000000000000000000000000000000000000000000000000000000000000000000000000000000000000000000000000000000000000000000000000000000000000000000000000000 ||| mk = mk) (hIn : Keeps mk sIn s) : Keeps mk sIn (sleepAbandon s) := by
  refine Keeps.step hMk ?_ hIn
  unfold sleepAbandon
  try dsimp only
  repeat' first
    | with_reducible refine Keeps.ite ?_ ?_
    | with_reducible exact Keeps.refl
    | with_reducible assumption
    | ((with_reducible apply Keeps.wr); (case d => rfl); (case e => rfl))
    | ((with_reducible apply Keeps.put); (case d => rfl); (case e => rfl))
    | ((with_reducible apply modCel_keeps); (case hMk => rfl))
    | intro _
    | split
    | dsimp only
    | (refine Keeps.snd ?_ (by with_reducible assumption))

theorem powerUp_keeps {mk : Nat} {sIn : State} (k : Nat) (strap : Nat) (bits : Nat) (us : List Nat) (s : State) (hMk : 0x7fefefff7ffffffffffffffffffffffffffffffffffffffffffffffffffffffffffffffffffffffffffffffffffffffffffffffffffffffffffffffffffffffffffffffffffffffffffffffffffffffffffffffffffffffffffffffffffffffffffffffffffffffffffffffffffffffffffffffffffffffffffffffffffffffffffffffffffffffffffffffffffffffffffffffffffffffffffffffffffffffffffffffffffffffffffffffffffffffffffffffffffffffffffffffffffffffffffffffffffffffffffffffffffffffffffffffff ||| mk = mk) (hIn : Keeps mk sIn s) : Keeps mk sIn (powerUp k strap bits us s) := by
  refine Keeps.step hMk ?_ hIn
  unfold powerUp
  try dsimp only
  repeat' first
    | with_reducible refine Keeps.ite ?_ ?_
    | with_reducible exact Keeps.refl
    | with_reducible assumption
    | ((with_reducible apply Keeps.wr); (case d => rfl); (case e => rfl))
    | ((with_reducible apply bootStart_keeps); (case hMk => rfl))
    | ((with_reducible apply modBoot_keeps); (case hMk => rfl))
    | ((with_reducible apply modCel_keeps); (case hMk => rfl))
    | ((with_reducible apply powerPins_keeps); (case hMk => rfl))
    | intro _
    | split
    | dsimp only
    | (refine Keeps.snd ?_ (by with_reducible assumption))

theorem execPowerOnReset_keeps (strap : Nat) (bits : Nat) (us : List Nat) (s : State) : KeepsR 0x7fefefff7ffffffffffffffffffffffffffffffffffffffffffffffffffffffffffffffffffffffffffffffffffffffffffffffffffffffffffffffffffffffffffffffffffffffffffffffffffffffffffffffffffffffffffffffffffffffffffffffffffffffffffffffffffffffffffffffffffffffffffffffffffffffffffffffffffffffffffffffffffffffffffffffffffffffffffffffffffffffffffffffffffffffffffffffffffffffffffffffffffffffffffffffffffffffffffffffffffffffffffffffffffffffffffffffff s (execPowerOnReset strap bits us s) := by
  unfold execPowerOnReset
  try dsimp only
  repeat' first
    | (with_reducible refine KeepsR.next ?_)
    | (with_reducible refine KeepsR.ite ?_ ?_)
    | with_reducible refine Keeps.ite ?_ ?_
    | with_reducible exact Keeps.refl
    | with_reducible assumption
    | ((with_reducible apply Keeps.put); (case d => rfl); (case e => rfl))
    | ((with_reducible apply powerUp_keeps); (case hMk => rfl))
    | intro _
    | split
    | dsimp only
    | (refine Keeps.snd ?_ (by with_reducible assumption))

theorem execPowerFailReset_keeps (strap : Nat) (bits : Nat) (us : List Nat) (s : State) : KeepsR 0x7fefefff7ffffffffffffffffffffffffffffffffffffffffffffffffffffffffffffffffffffffffffffffffffffffffffffffffffffffffffffffffffffffffffffffffffffffffffffffffffffffffffffffffffffffffffffffffffffffffffffffffffffffffffffffffffffffffffffffffffffffffffffffffffffffffffffffffffffffffffffffffffffffffffffffffffffffffffffffffffffffffffffffffffffffffffffffffffffffffffffffffffffffffffffffffffffffffffffffffffffffffffffffffffffffffffffffff s (execPowerFailReset strap bits us s) := by
  unfold execPowerFailReset
  try dsimp only
  repeat' first
    | (with_reducible refine KeepsR.next ?_)
    | (with_reducible refine KeepsR.ite ?_ ?_)
    | with_reducible refine Keeps.ite ?_ ?_
    | with_reducible exact Keeps.refl
    | with_reducible assumption
    | ((with_reducible apply powerUp_keeps); (case hMk => rfl))
    | intro _
    | split
    | dsimp only
    | (refine Keeps.snd ?_ (by with_reducible assumption))

theorem execWakeReset_keeps (strap : Nat) (bits : Nat) (us : List Nat) (s : State) : KeepsR 0x7fefefff7ffffffffffffffffffffffffffffffffffffffffffffffffffffffffffffffffffffffffffffffffffffffffffffffffffffffffffffffffffffffffffffffffffffffffffffffffffffffffffffffffffffffffffffffffffffffffffffffffffffffffffffffffffffffffffffffffffffffffffffffffffffffffffffffffffffffffffffffffffffffffffffffffffffffffffffffffffffffffffffffffffffffffffffffffffffffffffffffffffffffffffffffffffffffffffffffffffffffffffffffffffffffffffffffff s (execWakeReset strap bits us s) := by
  unfold execWakeReset
  try dsimp only
  repeat' first
    | (with_reducible refine KeepsR.next ?_)
    | (with_reducible refine KeepsR.ite ?_ ?_)
    | with_reducible refine Keeps.ite ?_ ?_
    | with_reducible exact Keeps.refl
    | with_reducible assumption
    | ((with_reducible apply Keeps.inc); (case d => rfl); (case e => rfl))
    | ((with_reducible apply powerUp_keeps); (case hMk => rfl))
    | intro _
    | split
    | dsimp only
    | (refine Keeps.snd ?_ (by with_reducible assumption))

theorem execWarmReset_keeps (key : Nat) (warm : Bool) (bits : Nat) (us : List Nat) (s : State) : KeepsR 0x7fefefff7ffffffffffffffffffffffffffffffffffffffffffffffffffffffffffffffffffffffffffffffffffffffffffffffffffffffffffffffffffffffffffffffffffffffffffffffffffffffffffffffffffffffffffffffffffffffffffffffffffffffffffffffffffffffffffffffffffffffffffffffffffffffffffffffffffffffffffffffffffffffffffffffffffffffffffffffffffffffffffffffffffffffffffffffffffffffffffffffffffffffffffffffffffffffffffffffffffffffffffffffffffffffffffffffff s (execWarmReset key warm bits us s) := by
  unfold execWarmReset
  try dsimp only
  repeat' first
    | (with_reducible refine KeepsR.next ?_)
    | (with_reducible refine KeepsR.ite ?_ ?_)
    | with_reducible refine Keeps.ite ?_ ?_
    | with_reducible exact Keeps.refl
    | with_reducible assumption
    | ((with_reducible apply bootStart_keeps); (case hMk => rfl))
    | ((with_reducible apply sleepAbandon_keeps); (case hMk => rfl))
    | intro _
    | split
    | dsimp only
    | (refine Keeps.snd ?_ (by with_reducible assumption))

theorem execFaultReset_keeps (bits : Nat) (us : List Nat) (s : State) : KeepsR 0x7fefefff7ffffffffffffffffffffffffffffffffffffffffffffffffffffffffffffffffffffffffffffffffffffffffffffffffffffffffffffffffffffffffffffffffffffffffffffffffffffffffffffffffffffffffffffffffffffffffffffffffffffffffffffffffffffffffffffffffffffffffffffffffffffffffffffffffffffffffffffffffffffffffffffffffffffffffffffffffffffffffffffffffffffffffffffffffffffffffffffffffffffffffffffffffffffffffffffffffffffffffffffffffffffffffffffffff s (execFaultReset bits us s) := by
  unfold execFaultReset
  try dsimp only
  repeat' first
    | (with_reducible refine KeepsR.next ?_)
    | (with_reducible refine KeepsR.ite ?_ ?_)
    | with_reducible refine Keeps.ite ?_ ?_
    | with_reducible exact Keeps.refl
    | with_reducible assumption
    | ((with_reducible apply bootStart_keeps); (case hMk => rfl))
    | ((with_reducible apply morCommitN_keeps); (case hMk => rfl))
    | ((with_reducible apply sleepAbandon_keeps); (case hMk => rfl))
    | intro _
    | split
    | dsimp only
    | (refine Keeps.snd ?_ (by with_reducible assumption))

theorem execJtagReset_keeps (bits : Nat) (us : List Nat) (s : State) : KeepsR 0x7fefefff7ffffffffffffffffffffffffffffffffffffffffffffffffffffffffffffffffffffffffffffffffffffffffffffffffffffffffffffffffffffffffffffffffffffffffffffffffffffffffffffffffffffffffffffffffffffffffffffffffffffffffffffffffffffffffffffffffffffffffffffffffffffffffffffffffffffffffffffffffffffffffffffffffffffffffffffffffffffffffffffffffffffffffffffffffffffffffffffffffffffffffffffffffffffffffffffffffffffffffffffffffffffffffffffffff s (execJtagReset bits us s) := by
  unfold execJtagReset
  try dsimp only
  repeat' first
    | (with_reducible refine KeepsR.next ?_)
    | (with_reducible refine KeepsR.ite ?_ ?_)
    | with_reducible refine Keeps.ite ?_ ?_
    | with_reducible exact Keeps.refl
    | with_reducible assumption
    | ((with_reducible apply bootStart_keeps); (case hMk => rfl))
    | ((with_reducible apply sleepAbandon_keeps); (case hMk => rfl))
    | intro _
    | split
    | dsimp only
    | (refine Keeps.snd ?_ (by with_reducible assumption))

theorem execPcieFundamentalReset_keeps (t : Nat) (s : State) : KeepsR 0x801000010000000000000000000000000000000000000000000000000000000000000000000000000000000000000000000000000000000000000000000000000000000000000000000000000000000000000000001a604400000000000190000000000000000000000000000000000000000000000000000000000000000000000000000000000000000000000000000000000000000000000000000000000000000000000000000000000000000000000000000000000000000000000000000000000000000000000000000000000000000000 s (execPcieFundamentalReset t s) := by
  unfold execPcieFundamentalReset
  try dsimp only
  repeat' first
    | (with_reducible refine KeepsR.next ?_)
    | (with_reducible refine KeepsR.ite ?_ ?_)
    | with_reducible refine Keeps.ite ?_ ?_
    | with_reducible exact Keeps.refl
    | with_reducible assumption
    | ((with_reducible apply Keeps.wr); (case d => rfl); (case e => rfl))
    | ((with_reducible apply Keeps.put); (case d => rfl); (case e => rfl))
    | ((with_reducible apply Keeps.at); (case e => rfl); (case e2 => rfl))
    | ((with_reducible apply functionReset_keeps); (case hMk => rfl))
    | intro _
    | split
    | dsimp only
    | (refine Keeps.snd ?_ (by with_reducible assumption))

theorem execSramInitComplete_keeps (dur : Nat) (us : List Nat) (s : State) : KeepsR 0x800000000000000000000000000000000000000000000000000000000000000000000000000000000000000000000000000000000000000006000060000000800000000000000000000000000000000000000000000000000000000000000000000000000000000000000000000000000000000000000000000000000000000000000000000000000000000000000000000000000000000000000000000000000000000000000000000000000000000000000000000000000000000000000000000000000000000000000000000000000000000 s (execSramInitComplete dur us s) := by
  unfold execSramInitComplete
  try dsimp only
  repeat' first
    | (with_reducible refine KeepsR.next ?_)
    | (with_reducible refine KeepsR.ite ?_ ?_)
    | with_reducible refine Keeps.ite ?_ ?_
    | with_reducible exact Keeps.refl
    | with_reducible assumption
    | ((with_reducible apply Keeps.wr); (case d => rfl); (case e => rfl))
    | ((with_reducible apply Keeps.put); (case d => rfl); (case e => rfl))
    | ((with_reducible apply bootAdvance_keeps); (case hMk => rfl))
    | intro _
    | split
    | dsimp only
    | (refine Keeps.snd ?_ (by with_reducible assumption))

theorem refCheck_keeps {mk : Nat} {sIn : State} (ok : Nat) (present : Nat) (lockUs : Nat) (r : Nat) (s : State) (hMk : 0xd4f00083000000000000000000020000000020000000000000000011d47c00c17d6cc4000003e00000000000000000000000002000000000000000000000000000000000000000000000000000000000000000001867000180800000000800000000000000000800000000000000000000000000008000000000000000000000000000000000000000000000000000000000000000000000000000000000000000000000000000000000000000000000000000000000000000000000000000000000000000000000000000000000000000000080 ||| mk = mk) (hIn : Keeps mk sIn s) : Keeps mk sIn (refCheck ok present lockUs r s) := by
  refine Keeps.step hMk ?_ hIn
  unfold refCheck
  try dsimp only
  repeat' first
    | with_reducible refine Keeps.ite ?_ ?_
    | with_reducible exact Keeps.refl
    | with_reducible assumption
    | ((with_reducible apply refMissing_keeps); (case hMk => rfl))
    | ((with_reducible apply refShow_keeps); (case hMk => rfl))
    | ((with_reducible apply refTake_keeps); (case hMk => rfl))
    | intro _
    | split
    | dsimp only
    | (refine Keeps.snd ?_ (by with_reducible assumption))

theorem execClockCheckComplete_keeps (present : Nat) (dev : List Int) (lockUs : Nat) (us : List Nat) (s : State) : KeepsR 0xdcf00083000000000000000000020000000020000000000000000011d47c00c17d6cc4000003e00000000000000000000000002000000000006000000000000800000000000000000000000000000000000000001867000180800000000800000000000000000800000000000000000000000000008000000000000000000000000000000000000000000000000000000000000000000000000000000000000000000000000000000000000000000000000000000000000000000000000000000000000000000000000000000000000000000080 s (execClockCheckComplete present dev lockUs us s) := by
  unfold execClockCheckComplete
  try dsimp only
  repeat' first
    | (with_reducible refine KeepsR.next ?_)
    | (with_reducible refine KeepsR.ite ?_ ?_)
    | with_reducible refine Keeps.ite ?_ ?_
    | with_reducible exact Keeps.refl
    | with_reducible assumption
    | ((with_reducible apply bootAdvance_keeps); (case hMk => rfl))
    | ((with_reducible apply modBoot_keeps); (case hMk => rfl))
    | ((with_reducible apply refCheck_keeps); (case hMk => rfl))
    | intro _
    | split
    | dsimp only
    | (refine Keeps.snd ?_ (by with_reducible assumption))

theorem imagePlace_keeps {mk : Nat} {sIn : State} (i : Image) (s : State) (hMk : 0x5400300000000000000000000000000000000000000000000000000000000000000000000000000000000000000000000000000000000000000000000000000000000000000000000000000000000000000000000000000000000000000000000000000000000000000000000000000000000000000000000000000000000000000000000000000000000000000000000000000000000000000000000000000000000000000000000000000000000000000000000000000000000000000000000000000000000000000000000000000000000000 ||| mk = mk) (hIn : Keeps mk sIn s) : Keeps mk sIn (imagePlace i s) := by
  refine Keeps.step hMk ?_ hIn
  unfold imagePlace
  try dsimp only
  repeat' first
    | with_reducible refine Keeps.ite ?_ ?_
    | with_reducible exact Keeps.refl
    | with_reducible assumption
    | (with_reducible refine Keeps.each _ _ ?_ ?_)
    | ((with_reducible apply modCave_keeps); (case hMk => rfl); (case hf => first | exact fun _ h => h | exact fun _ _ => rfl | exact fun _ h => putWords_wf _ _ h))
    | ((with_reducible apply modLane_keeps); (case hMk => rfl))
    | ((with_reducible apply modPcr_any); (case hf => exact fun p a b => ⟨putWords_wf _ _ a, b⟩); (case hMk => rfl); (case hMk2 => rfl))
    | ((with_reducible apply modSrc_keeps); (case hMk => rfl))
    | ((with_reducible apply sramLoad_keeps); (case hMk => rfl))
    | intro _
    | split
    | dsimp only
    | (refine Keeps.snd ?_ (by with_reducible assumption))

theorem slotFail_keeps {mk : Nat} {sIn : State} (slot : Nat) (code : Nat) (us : List Nat) (s : State) (hMk : 0x58700080000000000000000000020000000020000000000000000011d47c00c17c0000000000000000000000000000000000002000000000006008000000008800020000000000000000000000000000000000001867000180800000000800000000000000000000000000000000000000000000000000000000000000000000000000000000000000000000000000000000000000000000000000000000000000000000000000000000000000000000000000000000000000000000000000000000000000000000000000000000000000000080 ||| mk = mk) (hIn : Keeps mk sIn s) : Keeps mk sIn (slotFail slot code us s) := by
  refine Keeps.step hMk ?_ hIn
  unfold slotFail
  try dsimp only
  repeat' first
    | with_reducible refine Keeps.ite ?_ ?_
    | with_reducible exact Keeps.refl
    | with_reducible assumption
    | ((with_reducible apply Keeps.wr); (case d => rfl); (case e => rfl))
    | ((with_reducible apply bootFailed_keeps); (case hMk => rfl))
    | ((with_reducible apply modBoot_keeps); (case hMk => rfl))
    | ((with_reducible apply waitHost_keeps); (case hMk => rfl))
    | intro _
    | split
    | dsimp only
    | (refine Keeps.snd ?_ (by with_reducible assumption))

theorem bundleDone_keeps {mk : Nat} {sIn : State} (slot : Nat) (us : List Nat) (s : State) (hMk : 0x800000000000000000000000000000000000000000000000000000000000000000000000000000000000000000000000000000000000000006000000800006800000000000000000000000000000000000000000000000000000000000000000000000000000000000000000000000000000000000000000000000000000000000000000000000000000000000000000000000000000000000000000000000000000000000000000000000000000000000000000000000000000000000000000000000000000000000000000000000000000000 ||| mk = mk) (hIn : Keeps mk sIn s) : Keeps mk sIn (bundleDone slot us s) := by
  refine Keeps.step hMk ?_ hIn
  unfold bundleDone
  try dsimp only
  repeat' first
    | with_reducible refine Keeps.ite ?_ ?_
    | with_reducible exact Keeps.refl
    | with_reducible assumption
    | ((with_reducible apply Keeps.wr); (case d => rfl); (case e => rfl))
    | ((with_reducible apply Keeps.put); (case d => rfl); (case e => rfl))
    | ((with_reducible apply bootAdvance_keeps); (case hMk => rfl))
    | ((with_reducible apply modBoot_keeps); (case hMk => rfl))
    | intro _
    | split
    | dsimp only
    | (refine Keeps.snd ?_ (by with_reducible assumption))

theorem execImageCheckComplete_keeps (slot : Fin 3) (ix : Fin 8) (last : Bool) (fail : Nat) (seqA : Option Nat) (seqB : Option Nat) (img : Image) (us : List Nat) (s : State) : KeepsR 0x5c703080000000000000000000020000000020000000000000000011d47c00c17c0000000000000000000000000000000000002000000000007e0800080000e800020000000000000000000000000000000000001867000180800000000800000000000000000000000000000000000000000000000000000000000000000000000000000000000000000000000000000000000000000000000000000000000000000000000000000000000000000000000000000000000000000000000000000000000000000000000000000000000000000080 s (execImageCheckComplete slot ix last fail seqA seqB img us s) := by
  unfold execImageCheckComplete
  try dsimp only
  repeat' first
    | (with_reducible refine KeepsR.next ?_)
    | (with_reducible refine KeepsR.ite ?_ ?_)
    | with_reducible refine Keeps.ite ?_ ?_
    | with_reducible exact Keeps.refl
    | with_reducible assumption
    | ((with_reducible apply Keeps.wr); (case d => rfl); (case e => rfl))
    | ((with_reducible apply Keeps.put); (case d => rfl); (case e => rfl))
    | (with_reducible refine Keeps.each _ _ ?_ ?_)
    | ((with_reducible apply bundleDone_keeps); (case hMk => rfl))
    | ((with_reducible apply imagePlace_keeps); (case hMk => rfl))
    | ((with_reducible apply modBoot_keeps); (case hMk => rfl))
    | ((with_reducible apply slotFail_keeps); (case hMk => rfl))
    | intro _
    | split
    | dsimp only
    | (refine Keeps.snd ?_ (by with_reducible assumption))

theorem imageRelease_keeps {mk : Nat} {sIn : State} (i : BootImg) (s : State) (hMk : 0x10000000000000000000000000000000000000000000000000000000000000000000000000000000000000000000000000000006400010000c000001c000000000000000000000000000000000000000000000000000000000000000000000000000000000000000000000000000000000000000000000000000000000000000000000000000000000000000000000000000000000000000000000000000000000000000000008000000000000004000020200000000000000000000000000000000000000000000000000000000000000000000 ||| mk = mk) (hIn : Keeps mk sIn s) : Keeps mk sIn (imageRelease i s) := by
  refine Keeps.step hMk ?_ hIn
  unfold imageRelease
  try dsimp only
  repeat' first
    | with_reducible refine Keeps.ite ?_ ?_
    | with_reducible exact Keeps.refl
    | with_reducible assumption
    | ((with_reducible apply Keeps.wr); (case d => rfl); (case e => rfl))
    | ((with_reducible apply Keeps.put); (case d => rfl); (case e => rfl))
    | (with_reducible refine Keeps.each _ _ ?_ ?_)
    | ((with_reducible apply coreImage_keeps); (case hMk => rfl))
    | ((with_reducible apply coreStart_keeps); (case hMk => rfl))
    | intro _
    | split
    | dsimp only
    | (refine Keeps.snd ?_ (by with_reducible assumption))

theorem execBootRelease_keeps (us : List Nat) (t : Nat) (s : State) : KeepsR 0x1d8302641000000000000000000000000000000000000000000000000000000000000000000000000000000000000000000000026400010000c600001c000010800057800000000000000000000000000000000001867000180800000000800000000000000000000000000000000000000000000000000000000000000000000000000000000000000000000000000000000000000000000800000000000000010000000000008000000000000004000020200000000000000000000000000980000000010007800000000000000000000000000 s (execBootRelease us t s) := by
  unfold execBootRelease
  try dsimp only
  repeat' first
    | (with_reducible refine KeepsR.next ?_)
    | (with_reducible refine KeepsR.ite ?_ ?_)
    | with_reducible refine Keeps.ite ?_ ?_
    | with_reducible exact Keeps.refl
    | with_reducible assumption
    | ((with_reducible apply Keeps.wr); (case d => rfl); (case e => rfl))
    | ((with_reducible apply Keeps.at); (case e => rfl); (case e2 => rfl))
    | (with_reducible refine Keeps.each _ _ ?_ ?_)
    | ((with_reducible apply bootStage_keeps); (case hMk => rfl))
    | ((with_reducible apply imageRelease_keeps); (case hMk => rfl))
    | ((with_reducible apply modBoot_keeps); (case hMk => rfl))
    | ((with_reducible apply modeRequest_keeps); (case hMk => rfl))
    | ((with_reducible apply raise_keeps); (case d => rfl); (case hMk => rfl); (case hMk2 => rfl))
    | intro _
    | split
    | dsimp only
    | (refine Keeps.snd ?_ (by with_reducible assumption))
    | ((with_reducible apply Keeps.set_flt); (case e => rfl))

theorem hostStart_keeps {mk : Nat} {sIn : State} (us : List Nat) (s : State) (hMk : 0x800000000000000000000000000000000000000000000000000000000000000000000000000000000000000000000000000000000000000006000000000000800000000000000000000000000000000000000000000000000000000000000000000000000000000000000000000000000000000000000000000000000000000000000000000000000000000000000000000000000000000000000000000000000000000000000000000000000000000000000000000000000000000000000000000000000000000000000000000000000000000 ||| mk = mk) (hIn : Keeps mk sIn s) : Keeps mk sIn (hostStart us s) := by
  refine Keeps.step hMk ?_ hIn
  unfold hostStart
  try dsimp only
  repeat' first
    | with_reducible refine Keeps.ite ?_ ?_
    | with_reducible exact Keeps.refl
    | with_reducible assumption
    | ((with_reducible apply bootAdvance_keeps); (case hMk => rfl))
    | ((with_reducible apply bootStage_keeps); (case hMk => rfl))
    | ((with_reducible apply modBoot_keeps); (case hMk => rfl))
    | intro _
    | split
    | dsimp only
    | (refine Keeps.snd ?_ (by with_reducible assumption))

theorem execSysPcieBootGo_keeps (us : List Nat) (s : State) : KeepsR 0x800000000000000000000000000000000000000000000000000000080000000000000000000000000000000000000000000000000000000006000000000000800000000000000000000000000000000000000000000000000000000000000000000000000000000000000000000000000000000000000000000000000000000000000000000000000000000000000000000000000000000000000000000000000000000000000000000000000000000000000000000000000000000000000000000000000000000000000000000000000000000 s (execSysPcieBootGo us s) := by
  unfold execSysPcieBootGo
  try dsimp only
  repeat' first
    | (with_reducible refine KeepsR.next ?_)
    | (with_reducible refine KeepsR.ite ?_ ?_)
    | with_reducible refine Keeps.ite ?_ ?_
    | with_reducible exact Keeps.refl
    | with_reducible assumption
    | ((with_reducible apply faultEnd_keeps); (case hMk => rfl))
    | ((with_reducible apply hostStart_keeps); (case hMk => rfl))
    | ((with_reducible apply modBoot_keeps); (case hMk => rfl))
    | intro _
    | split
    | dsimp only
    | (refine Keeps.snd ?_ (by with_reducible assumption))

theorem execPcieBusMasterEnable_keeps (on : Bool) (msix : Bool) (us : List Nat) (t : Nat) (s : State) : KeepsR 0x8800000100000000000000000000000000000000000000000000000000000000000000000000000000000000000000000000000000000000006000000000000800000000000000000000000000000000000000000000000000000000000180000000000000000000000000000000000000000000000000000000000000000000000000000000000000000000000000000000000000000000000000000000000000000000000000000000000000000000000000000000000000000000000000000000000000000000000000000000000000000000 s (execPcieBusMasterEnable on msix us t s) := by
  unfold execPcieBusMasterEnable
  try dsimp only
  repeat' first
    | (with_reducible refine KeepsR.next ?_)
    | (with_reducible refine KeepsR.ite ?_ ?_)
    | with_reducible refine Keeps.ite ?_ ?_
    | with_reducible exact Keeps.refl
    | with_reducible assumption
    | ((with_reducible apply Keeps.put); (case d => rfl); (case e => rfl))
    | ((with_reducible apply Keeps.at); (case e => rfl); (case e2 => rfl))
    | ((with_reducible apply hostStart_keeps); (case hMk => rfl))
    | intro _
    | split
    | dsimp only
    | (refine Keeps.snd ?_ (by with_reducible assumption))

theorem execSvnProgram_keeps (target : Nat) (go : Bool) (t : Nat) (s : State) : KeepsR 0x8000000100000000000000000000000000000000000000000000000000000000000000000000000000000000000000000000000000000000000000003200000000000000000000000000000000000000000000000000000000000000000000000000000000000000000000000000000000000000000000000000000000000000000000000000000000000000000000000000000000000000000000000000000000000000000000000000000000000000000000000000000000000000000000000000000000000000000000000000000000000000 s (execSvnProgram target go t s) := by
  unfold execSvnProgram
  try dsimp only
  repeat' first
    | (with_reducible refine KeepsR.next ?_)
    | (with_reducible refine KeepsR.ite ?_ ?_)
    | with_reducible refine Keeps.ite ?_ ?_
    | with_reducible exact Keeps.refl
    | with_reducible assumption
    | ((with_reducible apply Keeps.wr); (case d => rfl); (case e => rfl))
    | ((with_reducible apply Keeps.put); (case d => rfl); (case e => rfl))
    | ((with_reducible apply Keeps.at); (case e => rfl); (case e2 => rfl))
    | intro _
    | split
    | dsimp only
    | (refine Keeps.snd ?_ (by with_reducible assumption))

theorem execSvnProgramDone_keeps (t : Nat) (s : State) : KeepsR 0xd210000100000000000000000000000000000000000000000000000000000000000000000000000000000000000000000000002000000000000000001000000000400000000000000000000000000000000000001867000180800000000800000000000000000000000000000000000000000000000000000000000000000000000000000000000000000000000000000000000000000000000000000000000000000000000000000000000000000000000000000000000000000000000000000000000000000000000000000000000000000000 s (execSvnProgramDone t s) := by
  unfold execSvnProgramDone
  try dsimp only
  repeat' first
    | (with_reducible refine KeepsR.next ?_)
    | (with_reducible refine KeepsR.ite ?_ ?_)
    | with_reducible refine Keeps.ite ?_ ?_
    | with_reducible exact Keeps.refl
    | with_reducible assumption
    | ((with_reducible apply Keeps.put); (case d => rfl); (case e => rfl))
    | ((with_reducible apply Keeps.at); (case e => rfl); (case e2 => rfl))
    | ((with_reducible apply raise_keeps); (case d => rfl); (case hMk => rfl); (case hMk2 => rfl))
    | intro _
    | split
    | dsimp only
    | (refine Keeps.snd ?_ (by with_reducible assumption))
    | ((with_reducible apply Keeps.set_fuse); (case e => rfl))

theorem execLcRequest_keeps (jtag : Bool) (key : Nat) (target : Nat) (t : Nat) (s : State) : KeepsR 0xd010000100000000000000000000000000000000000000000000000000000000000000000000000000000000000000000000002000000000000000000003000000080000000000000000000000000000000000001867000180800000000800000000000000000000000000000000000000000000000000000000000000000000000000000000000000000000000000000000000000000000000000000000000000000000000000000000000000000000000000000000000000000000000000000000000000000000000000000000000000000000 s (execLcRequest jtag key target t s) := by
  unfold execLcRequest
  try dsimp only
  repeat' first
    | (with_reducible refine KeepsR.next ?_)
    | (with_reducible refine KeepsR.ite ?_ ?_)
    | with_reducible refine Keeps.ite ?_ ?_
    | with_reducible exact Keeps.refl
    | with_reducible assumption
    | ((with_reducible apply Keeps.wr); (case d => rfl); (case e => rfl))
    | ((with_reducible apply Keeps.at); (case e => rfl); (case e2 => rfl))
    | ((with_reducible apply raise_keeps); (case d => rfl); (case hMk => rfl); (case hMk2 => rfl))
    | intro _
    | split
    | dsimp only
    | (refine Keeps.snd ?_ (by with_reducible assumption))

theorem execFuseProgram_keeps (target : Nat) (val : Bool) (prog : Bool) (t : Nat) (s : State) : KeepsR 0x800000010000000000000000000000000000000000000000000000000000000000000000000000000000000000000000000000000000000000000000018c000000000000000000000000000000000000000000000000000000000000000000000000000000000000000000000000000000000000000000000000000000000000000000000000000000000000000000000000000000000000000000000000000000000000000000000000000000000000000000000000000000000000000000000000000000000000000000000000000000000000 s (execFuseProgram target val prog t s) := by
  unfold execFuseProgram
  try dsimp only
  repeat' first
    | (with_reducible refine KeepsR.next ?_)
    | (with_reducible refine KeepsR.ite ?_ ?_)
    | with_reducible refine Keeps.ite ?_ ?_
    | with_reducible exact Keeps.refl
    | with_reducible assumption
    | ((with_reducible apply Keeps.wr); (case d => rfl); (case e => rfl))
    | ((with_reducible apply Keeps.put); (case d => rfl); (case e => rfl))
    | ((with_reducible apply Keeps.at); (case e => rfl); (case e2 => rfl))
    | intro _
    | split
    | dsimp only
    | (refine Keeps.snd ?_ (by with_reducible assumption))

theorem execFuseProgramDone_keeps (ok : Bool) (t : Nat) (s : State) : KeepsR 0xd2100001000000000000000000000000000000000000000000000000000000000000000000000000000000000000000000000020000000000000000001e0000000800000000000000050000000000000000000001867000180800000000800000000000000000000000000000000000000000000000000000000000000000000000000000000000000000000000000000000000000000000000000000000000000000000000000000000000000000000000000000000000000000000000000000000000000000000000000000000000000000000 s (execFuseProgramDone ok t s) := by
  unfold execFuseProgramDone
  try dsimp only
  repeat' first
    | (with_reducible refine KeepsR.next ?_)
    | (with_reducible refine KeepsR.ite ?_ ?_)
    | with_reducible refine Keeps.ite ?_ ?_
    | with_reducible exact Keeps.refl
    | with_reducible assumption
    | ((with_reducible apply Keeps.wr); (case d => rfl); (case e => rfl))
    | ((with_reducible apply Keeps.put); (case d => rfl); (case e => rfl))
    | ((with_reducible apply Keeps.at); (case e => rfl); (case e2 => rfl))
    | ((with_reducible apply fuseGroup_keeps); (case hMk => rfl))
    | ((with_reducible apply raise_keeps); (case d => rfl); (case hMk => rfl); (case hMk2 => rfl))
    | intro _
    | split
    | dsimp only
    | (refine Keeps.snd ?_ (by with_reducible assumption))

theorem ucPlace_keeps {mk : Nat} {sIn : State} (k : Nat) (i : Image) (s : State) (hMk : 0x50003000000000000000000000000000000000000000000000000000000000000000000000000000000000000000000000000006400000000c0000000000000000000000000000000000000000000000000000000000000000000000000000000000000000000000000000000000000000000000000000000000000000000000000000000000000000000000000000000000000000000000000000000000000000000000000010000000000000000000040000000000000000000000000000000000000000000000000000000000000000000000 ||| mk = mk) (hIn : Keeps mk sIn s) : Keeps mk sIn (ucPlace k i s) := by
  refine Keeps.step hMk ?_ hIn
  unfold ucPlace
  try dsimp only
  repeat' first
    | with_reducible refine Keeps.ite ?_ ?_
    | with_reducible exact Keeps.refl
    | with_reducible assumption
    | ((with_reducible apply Keeps.wr); (case d => rfl); (case e => rfl))
    | ((with_reducible apply coreGo_keeps); (case hMk => rfl))
    | ((with_reducible apply coreImage_keeps); (case hMk => rfl))
    | ((with_reducible apply modLane_keeps); (case hMk => rfl))
    | ((with_reducible apply modSrc_keeps); (case hMk => rfl))
    | ((with_reducible apply sramLoad_keeps); (case hMk => rfl))
    | ((with_reducible apply sramZero_keeps); (case hMk => rfl))
    | intro _
    | split
    | dsimp only
    | (refine Keeps.snd ?_ (by with_reducible assumption))

theorem ucSpoil_keeps {mk : Nat} {sIn : State} (k : Nat) (s : State) (hMk : 0x50003000000000000000000000000000000000000000000000000000000000000000000000000000000000000000000000000000400000000c0000000000000000000000000000000000000000000000000000000000000000000000000000000000000000000000000000000000000000000000000000000000000000000000000000000000000000000000000000000000000000000000000000000000000000000000000000000000000000000000000000000000000000000000000000000000000000000000000000000000000000000000 ||| mk = mk) (hIn : Keeps mk sIn s) : Keeps mk sIn (ucSpoil k s) := by
  refine Keeps.step hMk ?_ hIn
  unfold ucSpoil
  try dsimp only
  repeat' first
    | with_reducible refine Keeps.ite ?_ ?_
    | with_reducible exact Keeps.refl
    | with_reducible assumption
    | ((with_reducible apply coreGo_keeps); (case hMk => rfl))
    | ((with_reducible apply modLane_keeps); (case hMk => rfl))
    | ((with_reducible apply modSrc_keeps); (case hMk => rfl))
    | ((with_reducible apply sramZero_keeps); (case hMk => rfl))
    | intro _
    | split
    | dsimp only
    | (refine Keeps.snd ?_ (by with_reducible assumption))

theorem ucOutcome_keeps {mk : Nat} {sIn : State} (k : Nat) (result : Nat) (ver : Nat) (s : State) (hMk : 0x380000000000000000000000000000000000000000000000000000000000000000000000000000000000000000000000000000000000000000000000000000000000000000000000000000000000000000000000000000000000000000000000000000000000000000000000000000000000000000000000000000000000000000000000000000000000000000000000000000000000000000 ||| mk = mk) (hIn : Keeps mk sIn s) : Keeps mk sIn (ucOutcome k result ver s) := by
  refine Keeps.step hMk ?_ hIn
  unfold ucOutcome
  try dsimp only
  repeat' first
    | with_reducible refine Keeps.ite ?_ ?_
    | with_reducible exact Keeps.refl
    | with_reducible assumption
    | ((with_reducible apply Keeps.wr); (case d => rfl); (case e => rfl))
    | intro _
    | split
    | dsimp only
    | (refine Keeps.snd ?_ (by with_reducible assumption))

theorem execUcodeLoad_keeps (ring : Fin 8) (hd : CmdHead) (target : Nat) (len : Nat) (img : Image) (held : Bool) (us : Nat) (t : Nat) (s : State) : KeepsR 0xd4703081000000000000000000020000000020000000000000000011547c00c17c00000000000000000000000000000000004026400020000c0070380000000000300000000000000000000000000000000000001c7f8009e0c00000000c00000000000000000000000000000000000000000000000000000000000000000000000000000000000000000000000000000000000000000000000000000000000000000000000010000000000000000000040000000000000000000000000000000000000000000000000000000000000000000080 s (execUcodeLoad ring hd target len img held us t s) := by
  unfold execUcodeLoad
  try dsimp only
  repeat' first
    | ((with_reducible apply withCmd_keeps); (case hMk => rfl))
    | (with_reducible refine KeepsR.next ?_)
    | (with_reducible refine KeepsR.ite ?_ ?_)
    | with_reducible refine Keeps.ite ?_ ?_
    | with_reducible exact Keeps.refl
    | with_reducible assumption
    | ((with_reducible apply Keeps.wr); (case d => rfl); (case e => rfl))
    | ((with_reducible apply Keeps.inc); (case d => rfl); (case e => rfl))
    | ((with_reducible apply Keeps.at); (case e => rfl); (case e2 => rfl))
    | (with_reducible refine Keeps.when _ _ ?_ ?_)
    | ((with_reducible apply cmdDma_keeps); (case hMk => rfl))
    | ((with_reducible apply cmdDone_keeps); (case hMk => rfl))
    | ((with_reducible apply cmdPlain_keeps); (case hMk => rfl))
    | ((with_reducible apply mrtExtend_keeps); (case hMk => rfl))
    | ((with_reducible apply raise_keeps); (case d => rfl); (case hMk => rfl); (case hMk2 => rfl))
    | ((with_reducible apply ucOutcome_keeps); (case hMk => rfl))
    | ((with_reducible apply ucPlace_keeps); (case hMk => rfl))
    | ((with_reducible apply ucSpoil_keeps); (case hMk => rfl))
    | intro _
    | split
    | dsimp only
    | (refine Keeps.snd ?_ (by with_reducible assumption))

theorem freshKeys_keeps {mk : Nat} {sIn : State} (n : Nat) (s : State) (hMk : 0x400000000000000000000000000000000000000000000000000000000000000000000000000000000000000000000000000000000000000000000000000000000000000000000000000000000000000000000000000000000000000000000000000000000000000000000000000000000000000000000000000000000000000000000000000000000000000000000000000000000000000000000000000000000000000000000000000000000000000000000000000000000000000000000000000000000000000000000000000000000 ||| mk = mk) (hIn : Keeps mk sIn s) : Keeps mk sIn (freshKeys n s).2 := by
  refine Keeps.step hMk ?_ hIn
  unfold freshKeys
  try dsimp only
  repeat' first
    | with_reducible refine Keeps.ite ?_ ?_
    | with_reducible exact Keeps.refl
    | with_reducible assumption
    | intro _
    | split
    | dsimp only
    | (refine Keeps.snd ?_ (by with_reducible assumption))
    | ((with_reducible apply Keeps.set_freeCtr); (case e => rfl))

theorem htkReady_keeps {mk : Nat} {sIn : State} (s : State) (hMk : 0x40000040000000000000000000000000000000000000000000000000000000000000000000000000000000000000000000000000000000000000000000000000000000003c000000000000000480000000000000000000000000000000000000000000000000000000000000000000000000000000000000000000000000000000000000000000000000000000000000000000000000000000000000000000000000000000000000000000000000000000000000000000000000000000000000000000000000000000000000000000000000000 ||| mk = mk) (hIn : Keeps mk sIn s) : Keeps mk sIn (htkReady s) := by
  refine Keeps.step hMk ?_ hIn
  unfold htkReady
  try dsimp only
  repeat' first
    | with_reducible refine Keeps.ite ?_ ?_
    | with_reducible exact Keeps.refl
    | with_reducible assumption
    | ((with_reducible apply htkDerive_keeps); (case hMk => rfl))
    | intro _
    | split
    | dsimp only
    | (refine Keeps.snd ?_ (by with_reducible assumption))

theorem keyAborted_keeps {mk : Nat} {sIn : State} (ring : Nat) (op : Nat) (tag : Nat) (s : State) (hMk : 0x5010000000000000000000000000000000000000000000000000000000000000000000000000000000000000000000000000002000000000000000000000000000000000000000400000000000000000000000000466000960000000000000000000000000000000000000000000000000000000000000000000000000000000000000000000000000000000000000000000000000000000000000000000000000000000000000000000000000000000000000000000000000000000000000000000000000000000000000000000000000000000 ||| mk = mk) (hIn : Keeps mk sIn s) : Keeps mk sIn (keyAborted ring op tag s) := by
  refine Keeps.step hMk ?_ hIn
  unfold keyAborted
  try dsimp only
  repeat' first
    | with_reducible refine Keeps.ite ?_ ?_
    | with_reducible exact Keeps.refl
    | with_reducible assumption
    | ((with_reducible apply Keeps.inc); (case d => rfl); (case e => rfl))
    | ((with_reducible apply cmdPlain_keeps); (case hMk => rfl))
    | intro _
    | split
    | dsimp only
    | (refine Keeps.snd ?_ (by with_reducible assumption))

theorem execKeyGen_keeps (ring : Fin 8) (hd : CmdHead) (count : Nat) (abort : Bool) (t : Nat) (s : State) : KeepsR 0xd4700085000000000000000000020000000020000000000000000011547c00c17c000000000000000000000000000000000000200000000000000000000000000000000003c001400000000000480000000000001c7f8009e0c00000000c00000000000000000000000000000000000000000000000000000000000000000000000000000000000000000000000000000000000000000000000000000000000000000000000000000000000000000000000000000000000000000000000000000000000000000000000000000000000000000080 s (execKeyGen ring hd count abort t s) := by
  unfold execKeyGen
  try dsimp only
  repeat' first
    | ((with_reducible apply withCmd_keeps); (case hMk => rfl))
    | (with_reducible refine KeepsR.next ?_)
    | (with_reducible refine KeepsR.ite ?_ ?_)
    | with_reducible refine Keeps.ite ?_ ?_
    | with_reducible exact Keeps.refl
    | with_reducible assumption
    | ((with_reducible apply Keeps.inc); (case d => rfl); (case e => rfl))
    | ((with_reducible apply Keeps.at); (case e => rfl); (case e2 => rfl))
    | ((with_reducible apply cmdData_keeps); (case hMk => rfl))
    | ((with_reducible apply cmdPlain_keeps); (case hMk => rfl))
    | (refine Keeps.snd (p := freshKeys _ _) ?_ (by with_reducible assumption))
    | ((with_reducible apply freshKeys_keeps); (case hMk => rfl))
    | ((with_reducible apply htkReady_keeps); (case hMk => rfl))
    | ((with_reducible apply keyAborted_keeps); (case hMk => rfl))
    | intro _
    | split
    | dsimp only
    | (refine Keeps.snd ?_ (by with_reducible assumption))

theorem execKeyImport_keeps (ring : Fin 8) (hd : CmdHead) (count : Nat) (keys : List Nat) (abort : Bool) (t : Nat) (s : State) : KeepsR 0xd4700085000000000000000000020000000020000000000000000011547c00c17c000000000000000000000000000000000000200000000000000000000000000000000003c006400000000000480000000000001c7f8009e0c00000000c00000000000000000000000000000000000000000000000000000000000000000000000000000000000000000000000000000000000000000000000000000000000000000000000000000000000000000000000000000000000000000000000000000000000000000000000000000000000000000080 s (execKeyImport ring hd count keys abort t s) := by
  unfold execKeyImport
  try dsimp only
  repeat' first
    | ((with_reducible apply withCmd_keeps); (case hMk => rfl))
    | ((with_reducible apply withData_keeps); (case hMk => rfl))
    | (with_reducible refine KeepsR.next ?_)
    | (with_reducible refine KeepsR.ite ?_ ?_)
    | with_reducible refine Keeps.ite ?_ ?_
    | with_reducible exact Keeps.refl
    | with_reducible assumption
    | ((with_reducible apply Keeps.inc); (case d => rfl); (case e => rfl))
    | ((with_reducible apply Keeps.at); (case e => rfl); (case e2 => rfl))
    | ((with_reducible apply cmdData_keeps); (case hMk => rfl))
    | ((with_reducible apply cmdDone_keeps); (case hMk => rfl))
    | ((with_reducible apply cmdPlain_keeps); (case hMk => rfl))
    | ((with_reducible apply htkReady_keeps); (case hMk => rfl))
    | ((with_reducible apply keyAborted_keeps); (case hMk => rfl))
    | intro _
    | split
    | dsimp only
    | (refine Keeps.snd ?_ (by with_reducible assumption))

theorem execAttest_keeps (ring : Fin 8) (hd : CmdHead) (nonce : List Nat) (abort : Bool) (t : Nat) (s : State) : KeepsR 0xd0700081000000000000000000020000000020000000000000000011547c00c17c0000000000000000000000000000000000002000000000000000000000000000000000000020c00000000000000000000000001c7f8009e0c00000000c00000000000000000000000000000000000000000000000000000000000000000000000000000000000000000000000000000000000000000000000000000000000000000000000000000000000000000000000000000000000000000000000000000000000000000000000000000000000000000080 s (execAttest ring hd nonce abort t s) := by
  unfold execAttest
  try dsimp only
  repeat' first
    | ((with_reducible apply withCmd_keeps); (case hMk => rfl))
    | ((with_reducible apply withData_keeps); (case hMk => rfl))
    | (with_reducible refine KeepsR.next ?_)
    | (with_reducible refine KeepsR.ite ?_ ?_)
    | with_reducible refine Keeps.ite ?_ ?_
    | with_reducible exact Keeps.refl
    | with_reducible assumption
    | ((with_reducible apply Keeps.inc); (case d => rfl); (case e => rfl))
    | ((with_reducible apply Keeps.at); (case e => rfl); (case e2 => rfl))
    | ((with_reducible apply cmdData_keeps); (case hMk => rfl))
    | ((with_reducible apply cmdPlain_keeps); (case hMk => rfl))
    | ((with_reducible apply keyAborted_keeps); (case hMk => rfl))
    | intro _
    | split
    | dsimp only
    | (refine Keeps.snd ?_ (by with_reducible assumption))

theorem execAliasCert_keeps (ring : Fin 8) (hd : CmdHead) (t : Nat) (s : State) : KeepsR 0xd0700081000000000000000000020000000020000000000000000011547c00c17c0000000000000000000000000000000000002000000000000000000000000000000000000000000000000000000000000000001c7f8009e0c00000000c00000000000000000000000000000000000000000000000000000000000000000000000000000000000000000000000000000000000000000000000000000000000000000000000000000000000000000000000000000000000000000000000000000000000000000000000000000000000000000080 s (execAliasCert ring hd t s) := by
  unfold execAliasCert
  try dsimp only
  repeat' first
    | ((with_reducible apply withCmd_keeps); (case hMk => rfl))
    | (with_reducible refine KeepsR.next ?_)
    | (with_reducible refine KeepsR.ite ?_ ?_)
    | with_reducible refine Keeps.ite ?_ ?_
    | with_reducible exact Keeps.refl
    | with_reducible assumption
    | ((with_reducible apply Keeps.at); (case e => rfl); (case e2 => rfl))
    | ((with_reducible apply cmdData_keeps); (case hMk => rfl))
    | ((with_reducible apply cmdPlain_keeps); (case hMk => rfl))
    | intro _
    | split
    | dsimp only
    | (refine Keeps.snd ?_ (by with_reducible assumption))

theorem execTlogAck_keeps (ring : Fin 8) (tag : Nat) (mask : Nat) (t : Nat) (s : State) : KeepsR 0xd0700081000000000000000000020000000020000000000000000011d47c00c17c0000000000000000000000000000000000002000000000000000000000000000000001000000000100140000000000000000001c7f8009e0c00000000c00000000000000000000000000000000000000000000000000000000000000000000000000000000000000000000000000000000000000000000000000000000000000000000000000000000000000000000000000000000000000000000000000000000000000000000000000000000000000000080 s (execTlogAck ring tag mask t s) := by
  unfold execTlogAck
  try dsimp only
  repeat' first
    | ((with_reducible apply withCmd_keeps); (case hMk => rfl))
    | (with_reducible refine KeepsR.next ?_)
    | (with_reducible refine KeepsR.ite ?_ ?_)
    | with_reducible refine Keeps.ite ?_ ?_
    | with_reducible exact Keeps.refl
    | with_reducible assumption
    | ((with_reducible apply Keeps.at); (case e => rfl); (case e2 => rfl))
    | ((with_reducible apply cmdDone_keeps); (case hMk => rfl))
    | ((with_reducible apply cmdPlain_keeps); (case hMk => rfl))
    | ((with_reducible apply tlogAck_keeps); (case hMk => rfl))
    | intro _
    | split
    | dsimp only
    | (refine Keeps.snd ?_ (by with_reducible assumption))

theorem debStep_keeps {mk : Nat} {sIn : State} (bad : Bool) (k : Nat) (s : State) (hMk : 0x2000000000000000000000000000000000000000000000000000000000000000000000000000000000000000000000000000000000000000000000000000000000000000000000000000000000000000000000000000000000000000000000000000000000000000000000000000000000000000000000000000000000000000000000000000000000000000000000000000000000000000000000000000000000000000000000000000000000000000000000000000000000000000000000000000000000000000000000000000000000000000 ||| mk = mk) (hIn : Keeps mk sIn s) : Keeps mk sIn (debStep bad k s) := by
  refine Keeps.step hMk ?_ hIn
  unfold debStep
  try dsimp only
  repeat' first
    | with_reducible refine Keeps.ite ?_ ?_
    | with_reducible exact Keeps.refl
    | with_reducible assumption
    | ((with_reducible apply modCel_keeps); (case hMk => rfl))
    | intro _
    | split
    | dsimp only
    | (refine Keeps.snd ?_ (by with_reducible assumption))

theorem celAt_keeps {mk : Nat} {sIn : State} (t : Nat) (s : State) (hMk : 0x8000000100000000000000000000000000000000000000000000000000000000000000000000000000000000000000000000000000000000000000000000000000000000000000000000000000000000000000000000000000000000000000000000000000000000000000000000000000000000000000000000000000000000000000000000000000000000000000000000000000000000000000000000000000000000000000000000000000000000000000000000000000000000000000000000000000000000000000000000000000000000 ||| mk = mk) (hIn : Keeps mk sIn s) : Keeps mk sIn (celAt t s) := by
  refine Keeps.step hMk ?_ hIn
  unfold celAt
  try dsimp only
  repeat' first
    | with_reducible refine Keeps.ite ?_ ?_
    | with_reducible exact Keeps.refl
    | with_reducible assumption
    | ((with_reducible apply Keeps.at); (case e => rfl); (case e2 => rfl))
    | intro _
    | split
    | dsimp only
    | (refine Keeps.snd ?_ (by with_reducible assumption))

theorem execRindSample_keeps (mismatch : Nat) (caseLevel : Bool) (keyOp : Bool) (t : Nat) (s : State) : KeepsR 0xfc719aa5000000000000000000024d100064a00010000080063e0011d47c00c17c0000000000000000040100000000000000002000000000006000000000000800000007ffc1005001803f0015cc0000000000001c670009e080000000080000000000000000000000000000000000000000000000000000000000000000000000300180000000000000000000000000000f00003c020060202000000074800000000000000000000000000000000000000000000000000000000000000000000000000000000000000000000000000000000080 s (execRindSample mismatch caseLevel keyOp t s) := by
  unfold execRindSample
  try dsimp only
  repeat' first
    | (with_reducible refine KeepsR.next ?_)
    | (with_reducible refine KeepsR.ite ?_ ?_)
    | with_reducible refine Keeps.ite ?_ ?_
    | with_reducible exact Keeps.refl
    | with_reducible assumption
    | ((with_reducible apply Keeps.wr); (case d => rfl); (case e => rfl))
    | ((with_reducible apply Keeps.put); (case d => rfl); (case e => rfl))
    | (with_reducible refine Keeps.each _ _ ?_ ?_)
    | ((with_reducible apply celAt_keeps); (case hMk => rfl))
    | ((with_reducible apply debStep_keeps); (case hMk => rfl))
    | ((with_reducible apply modCave_keeps); (case hMk => rfl); (case hf => first | exact fun _ h => h | exact fun _ _ => rfl | exact fun _ h => putWords_wf _ _ h))
    | ((with_reducible apply modCel_keeps); (case hMk => rfl))
    | ((with_reducible apply rindTrip_keeps); (case hMk => rfl))
    | intro _
    | split
    | dsimp only
    | (refine Keeps.snd ?_ (by with_reducible assumption))

theorem execSensorDetect_keeps (sensor : Fin 8) (keyOp : Bool) (t : Nat) (s : State) : KeepsR 0xfc719aa5000000000000000000024d100064a00010000080063e0011d47c00c17c0000000000000000040000000000000000002000000000006000000000000800000007ffc1805001803f0055cc0000000000001c670009e080000000080000000000000000000000000000000000000000000000000000000000000000000000300180000000000000000000000000000f00003c020060202000000074800000000000000000000000000000000000000000000000000000000000000000000000000000000000000000000000000000000080 s (execSensorDetect sensor keyOp t s) := by
  unfold execSensorDetect
  try dsimp only
  repeat' first
    | (with_reducible refine KeepsR.next ?_)
    | (with_reducible refine KeepsR.ite ?_ ?_)
    | with_reducible refine Keeps.ite ?_ ?_
    | with_reducible exact Keeps.refl
    | with_reducible assumption
    | ((with_reducible apply Keeps.wr); (case d => rfl); (case e => rfl))
    | ((with_reducible apply Keeps.inc); (case d => rfl); (case e => rfl))
    | ((with_reducible apply celAt_keeps); (case hMk => rfl))
    | ((with_reducible apply debStep_keeps); (case hMk => rfl))
    | ((with_reducible apply raise_keeps); (case d => rfl); (case hMk => rfl); (case hMk2 => rfl))
    | ((with_reducible apply rindTrip_keeps); (case hMk => rfl))
    | intro _
    | split
    | dsimp only
    | (refine Keeps.snd ?_ (by with_reducible assumption))

theorem execKeyTamperAckWrite_keeps (code : Nat) (us : List Nat) (s : State) : KeepsR 0x7e70b0c4000001e00000000000020000000020000000000000000011d47c00c17c0000000000000000000000000000000000002000000000006100020061800800000007ffc1000091503f80207c0000000000001867000180800000000804000000000000000000000000000000000000000000000000000000000000000000000000000000000000000000000000000000000000000000200000000000000000000000000000000000000000000000000000000000000000000000000000000000000000000000000000000000000000000080 s (execKeyTamperAckWrite code us s) := by
  unfold execKeyTamperAckWrite
  try dsimp only
  repeat' first
    | (with_reducible refine KeepsR.next ?_)
    | (with_reducible refine KeepsR.ite ?_ ?_)
    | with_reducible refine Keeps.ite ?_ ?_
    | with_reducible exact Keeps.refl
    | with_reducible assumption
    | ((with_reducible apply Keeps.put); (case d => rfl); (case e => rfl))
    | ((with_reducible apply bootCheck_keeps); (case hMk => rfl))
    | ((with_reducible apply lcProgram_keeps); (case hMk => rfl))
    | ((with_reducible apply tlogAck_keeps); (case hMk => rfl))
    | intro _
    | split
    | dsimp only
    | (refine Keeps.snd ?_ (by with_reducible assumption))

theorem slotsDerive_keeps {mk : Nat} {sIn : State} (s : State) (hMk : 0x40000040000000000000000000000000000000000000000000000000000000000000000000000000000000000000000000000000000000000000000000000000000000003c000000000000000400000000000000000000000000000000000000000000000000000000000000000000000000000000000000000000000000000000000000000000000000000000000000000000000000000000000000000000000000000000000000000000000000000000000000000000000000000000000000000000000000000000000000000000000000000 ||| mk = mk) (hIn : Keeps mk sIn s) : Keeps mk sIn (slotsDerive s) := by
  refine Keeps.step hMk ?_ hIn
  unfold slotsDerive
  try dsimp only
  repeat' first
    | with_reducible refine Keeps.ite ?_ ?_
    | with_reducible exact Keeps.refl
    | with_reducible assumption
    | ((with_reducible apply slotFill_keeps); (case hMk => rfl))
    | intro _
    | split
    | dsimp only
    | (refine Keeps.snd ?_ (by with_reducible assumption))

theorem pubPut_keeps {mk : Nat} {sIn : State} (f : Nat → Fld) (key : List Nat) (s : State) {i w r : Nat} {j : Nat → Nat} {h : Home}
    (d : ∀ n, f n = ⟨i, j n, w, r, h⟩) (hMk : mk.testBit i = true) (hIn : Keeps mk sIn s) : Keeps mk sIn (pubPut f key s) :=
  Keeps.each _ _ (fun n _ q => Keeps.wr _ _ (d n) hMk q) hIn

theorem bootMeasured_keeps {mk : Nat} {sIn : State} (s : State) (hMk : 0x200000000000000000000000000000000000000000000000000000000000000000000000000000000000000000000000000000000000000000000000000000000000000000000000000000000000000000000000000000000000000000000000000000000000000000000000000000000000000000000000000000000000000000000000000000000000000000000 ||| mk = mk) (hIn : Keeps mk sIn s) : Keeps mk sIn (bootMeasured s) := by
  refine Keeps.step hMk ?_ hIn
  unfold bootMeasured
  try dsimp only
  repeat' first
    | with_reducible refine Keeps.ite ?_ ?_
    | with_reducible exact Keeps.refl
    | with_reducible assumption
    | ((with_reducible apply Keeps.wr); (case d => rfl); (case e => rfl))
    | (with_reducible refine Keeps.each _ _ ?_ ?_)
    | intro _
    | split
    | dsimp only
    | (refine Keeps.snd ?_ (by with_reducible assumption))

theorem identityPublish_keeps {mk : Nat} {sIn : State} (s : State) (hMk : 0x400000000000000000000000000000000000000000000000000000000000000000000000000000000000000000000000000000000000000000000000000000000000000001c40000000000000000000000000000000000000000000000000000000000000000000000000000000000000000000000000000000000000000000000000000000000000000000000000000000000000000000000000000000000000000000000000000000000000000000000000000000000000000000000000000000000000000000000000000000000000000000 ||| mk = mk) (hIn : Keeps mk sIn s) : Keeps mk sIn (identityPublish s) := by
  refine Keeps.step hMk ?_ hIn
  unfold identityPublish
  try dsimp only
  repeat' first
    | with_reducible refine Keeps.ite ?_ ?_
    | with_reducible exact Keeps.refl
    | with_reducible assumption
    | ((with_reducible apply Keeps.inc); (case d => rfl); (case e => rfl))
    | ((with_reducible apply modCave_keeps); (case hMk => rfl); (case hf => first | exact fun _ h => h | exact fun _ _ => rfl | exact fun _ h => putWords_wf _ _ h))
    | ((with_reducible apply pubPut_keeps); (case d => intro _; rfl); (case hMk => rfl))
    | intro _
    | split
    | dsimp only
    | (refine Keeps.snd ?_ (by with_reducible assumption))

theorem execDeriveComplete_keeps (us : List Nat) (s : State) : KeepsR 0x5c7180a4000000000000000000024d100064a00010000080063e0011d47c00c17c000000000000000000000000000000000000200000000000600000000000080000000003de40000000000000440000000000001c670009e080000000080000000000000000000000000000000000000000000000000000000000000000000000300180000000000000000000000000000f00003c020060002000000074800000000000000000000000000000000000000000000000000000000000000000000000000000000000000000000000000000000080 s (execDeriveComplete us s) := by
  unfold execDeriveComplete
  try dsimp only
  repeat' first
    | (with_reducible refine KeepsR.next ?_)
    | (with_reducible refine KeepsR.ite ?_ ?_)
    | with_reducible refine Keeps.ite ?_ ?_
    | with_reducible exact Keeps.refl
    | with_reducible assumption
    | ((with_reducible apply bootMeasured_keeps); (case hMk => rfl))
    | ((with_reducible apply bootStage_keeps); (case hMk => rfl))
    | ((with_reducible apply caveGo_keeps); (case hMk => rfl))
    | ((with_reducible apply identityPublish_keeps); (case hMk => rfl))
    | ((with_reducible apply ptkDerive_keeps); (case hMk => rfl))
    | ((with_reducible apply roleHold_keeps); (case hMk => rfl))
    | ((with_reducible apply slotsDerive_keeps); (case hMk => rfl))
    | intro _
    | split
    | dsimp only
    | (refine Keeps.snd ?_ (by with_reducible assumption))

theorem execCaveRestoreComplete_keeps (t : Nat) (s : State) : KeepsR 0xd41000050000000000000000000000000000000000000000000000000000000000000000000000000000000000000000000000200000000000000000000000000000000003c0002000000000024c0000000000001867000180800000000800000000000000000000000000000000000000000000000000000000000000000000000000000000000000000000000000000000000000000000000000000000000000000000000000000000000000000000000000000000000000000000000000000000000000000000000000000000000000000000 s (execCaveRestoreComplete t s) := by
  unfold execCaveRestoreComplete
  try dsimp only
  repeat' first
    | (with_reducible refine KeepsR.next ?_)
    | (with_reducible refine KeepsR.ite ?_ ?_)
    | with_reducible refine Keeps.ite ?_ ?_
    | with_reducible exact Keeps.refl
    | with_reducible assumption
    | ((with_reducible apply Keeps.inc); (case d => rfl); (case e => rfl))
    | ((with_reducible apply Keeps.at); (case e => rfl); (case e2 => rfl))
    | ((with_reducible apply caveGo_keeps); (case hMk => rfl))
    | ((with_reducible apply htkDerive_keeps); (case hMk => rfl))
    | ((with_reducible apply raise_keeps); (case d => rfl); (case hMk => rfl); (case hMk2 => rfl))
    | ((with_reducible apply slotsDerive_keeps); (case hMk => rfl))
    | intro _
    | split
    | dsimp only
    | (refine Keeps.snd ?_ (by with_reducible assumption))

theorem execBrineVisit_keeps (busy : Bool) (t : Nat) (s : State) : KeepsR 0x8400800500000000000000000000000000000000000000000000000000000000000000000000000000000000000000000000000000000000000000000000000000000000000000060c00000000000000000000000000000000000000000000000000000000000000000000000000000000000000000000000000000000000000000000000000000000000000000000000000000000000000000000000000000000000000000000000000000000000000000000000000000000000000000000000000000000000000000000000000000000000000 s (execBrineVisit busy t s) := by
  unfold execBrineVisit
  try dsimp only
  repeat' first
    | (with_reducible refine KeepsR.next ?_)
    | (with_reducible refine KeepsR.ite ?_ ?_)
    | with_reducible refine Keeps.ite ?_ ?_
    | with_reducible exact Keeps.refl
    | with_reducible assumption
    | ((with_reducible apply Keeps.wr); (case d => rfl); (case e => rfl))
    | ((with_reducible apply Keeps.inc); (case d => rfl); (case e => rfl))
    | ((with_reducible apply Keeps.at); (case e => rfl); (case e2 => rfl))
    | (with_reducible refine Keeps.when _ _ ?_ ?_)
    | ((with_reducible apply brineMask_keeps); (case hMk => rfl))
    | ((with_reducible apply modCave_keeps); (case hMk => rfl); (case hf => first | exact fun _ h => h | exact fun _ _ => rfl | exact fun _ h => putWords_wf _ _ h))
    | intro _
    | split
    | dsimp only
    | (refine Keeps.snd ?_ (by with_reducible assumption))

theorem rngServe_keeps {mk : Nat} {sIn : State} (ok : Bool) (s : State) (hMk : 0x3000000000200000000000000000000000000000000000000000000000000000000000000000000000000000000000000000000000000000000000000000000000000000000000000000000000000000000000000000000000000000000000000000000000000000000000000000000000000000000000000000000000000000000000000000000000000000 ||| mk = mk) (hIn : Keeps mk sIn s) : Keeps mk sIn (rngServe ok s) := by
  refine Keeps.step hMk ?_ hIn
  unfold rngServe
  try dsimp only
  repeat' first
    | with_reducible refine Keeps.ite ?_ ?_
    | with_reducible exact Keeps.refl
    | with_reducible assumption
    | ((with_reducible apply Keeps.put); (case d => rfl); (case e => rfl))
    | intro _
    | split
    | dsimp only
    | (refine Keeps.snd ?_ (by with_reducible assumption))

theorem execRngHealthTest_keeps (ok : Bool) (t : Nat) (s : State) : KeepsR 0xd4700081000000000000000000020000000020000000000000000011d47c00c17c0000000000000000000000000000000000002000000000000000000000000000000000000000087000000008200000000000001867000180800000000800000000000000000000000000000000000000000000000000000000000000000000000000000000000000000000000000000000000000000000000000000000000000000000000000000000000000000000000000000000000000000000000000000000000000000000000000000000000000000080 s (execRngHealthTest ok t s) := by
  unfold execRngHealthTest
  try dsimp only
  repeat' first
    | (with_reducible refine KeepsR.next ?_)
    | (with_reducible refine KeepsR.ite ?_ ?_)
    | with_reducible refine Keeps.ite ?_ ?_
    | with_reducible exact Keeps.refl
    | with_reducible assumption
    | ((with_reducible apply Keeps.inc); (case d => rfl); (case e => rfl))
    | ((with_reducible apply Keeps.addSat); (case d => rfl); (case e => rfl))
    | ((with_reducible apply Keeps.at); (case e => rfl); (case e2 => rfl))
    | ((with_reducible apply faultBegin_keeps); (case hMk => rfl))
    | ((with_reducible apply faultEnd_keeps); (case hMk => rfl))
    | ((with_reducible apply modCave_keeps); (case hMk => rfl); (case hf => first | exact fun _ h => h | exact fun _ _ => rfl | exact fun _ h => putWords_wf _ _ h))
    | ((with_reducible apply raise_keeps); (case d => rfl); (case hMk => rfl); (case hMk2 => rfl))
    | ((with_reducible apply rngServe_keeps); (case hMk => rfl))
    | intro _
    | split
    | dsimp only
    | (refine Keeps.snd ?_ (by with_reducible assumption))

theorem execKeyHostpubWrite_keeps (word : Fin 8) (value : Word) (t : Nat) (s : State) : KeepsR 0x840000010000000000000000000000000000000000000000000000000000000000000000000000000000000000000000000000000000000000000000000000000000000003e000000000000000480000000000000000000000000000000000000000000000000000000000000000000000000000000000000000000000000000000000000000000000000000000000000000000000000000000000000000000000000000000000000000000000000000000000000000000000000000000000000000000000000000000000000000000000000000 s (execKeyHostpubWrite word value t s) := by
  unfold execKeyHostpubWrite
  try dsimp only
  repeat' first
    | (with_reducible refine KeepsR.next ?_)
    | (with_reducible refine KeepsR.ite ?_ ?_)
    | with_reducible refine Keeps.ite ?_ ?_
    | with_reducible exact Keeps.refl
    | with_reducible assumption
    | ((with_reducible apply Keeps.wr); (case d => rfl); (case e => rfl))
    | ((with_reducible apply Keeps.at); (case e => rfl); (case e2 => rfl))
    | ((with_reducible apply htkDrop_keeps); (case hMk => rfl))
    | intro _
    | split
    | dsimp only
    | (refine Keeps.snd ?_ (by with_reducible assumption))

end Sys2Proof.Machine
end

