-- ==== Sys2Proof/Laws/KeepsForward.lean ====
section
/-!
SUPPORT. What each operation and each meaning changes: forwarding, adaptation and the node commands. The mask of each law names the register fields and the parts of the
state, as `Only` reads it.
-/

set_option simprocs false
set_option linter.all false

namespace Sys2Proof.Machine

theorem setMarker_keeps {mk : Nat} {sIn : State} (i : Nat) (b : Bucket) (s : State) (hMk : 0x400000000000000000000000000000000000000000000000000000000000000000000000000000000000000000000000000000000000000000000000000000000000000000000000000000000000000000000000000000000000000000000000000000000000000000000000000000000000000000000000000000000000000000000000000000000000000000000000000000000000000000000000000000000000000000000000000000000000000000000000000000000000000000000000000000000000000000000000000000000000 ||| mk = mk) (hIn : Keeps mk sIn s) : Keeps mk sIn (setMarker i b s) := by
  refine Keeps.step hMk ?_ hIn
  unfold setMarker
  try dsimp only
  repeat' first
    | with_reducible refine Keeps.ite ?_ ?_
    | with_reducible exact Keeps.refl
    | with_reducible assumption
    | intro _
    | split
    | dsimp only
    | (refine Keeps.snd ?_ (by with_reducible assumption))
    | ((with_reducible apply Keeps.set_qms); (case e => rfl))

theorem setShaper_keeps {mk : Nat} {sIn : State} (i : Nat) (b : Bucket) (s : State) (hMk : 0x400000000000000000000000000000000000000000000000000000000000000000000000000000000000000000000000000000000000000000000000000000000000000000000000000000000000000000000000000000000000000000000000000000000000000000000000000000000000000000000000000000000000000000000000000000000000000000000000000000000000000000000000000000000000000000000000000000000000000000000000000000000000000000000000000000000000000000000000000000000000 ||| mk = mk) (hIn : Keeps mk sIn s) : Keeps mk sIn (setShaper i b s) := by
  refine Keeps.step hMk ?_ hIn
  unfold setShaper
  try dsimp only
  repeat' first
    | with_reducible refine Keeps.ite ?_ ?_
    | with_reducible exact Keeps.refl
    | with_reducible assumption
    | intro _
    | split
    | dsimp only
    | (refine Keeps.snd ?_ (by with_reducible assumption))
    | ((with_reducible apply Keeps.set_qms); (case e => rfl))

theorem wardMark_keeps {mk : Nat} {sIn : State} (w : Nat) (c : Nat) (n : Nat) (yel : Bool) (s : State) (hMk : 0x50104000000000000000000000000000000000000000000000000000000000000000000000000000000000000000000000000020000000000000000000000000000000000000000000000000000000000000000018670001808000000008000000000000000000000000000000000000000000000000000000000e0000400000000000000000000000000000000000000000000000000000000000000000000000000000000000000000000000000000000000000000000000000000000000000000000000000000000000000000000000000000 ||| mk = mk) (hIn : Keeps mk sIn s) : Keeps mk sIn (wardMark w c n yel s).2 := by
  refine Keeps.step hMk ?_ hIn
  unfold wardMark
  try dsimp only
  repeat' first
    | with_reducible refine Keeps.ite ?_ ?_
    | with_reducible exact Keeps.refl
    | with_reducible assumption
    | ((with_reducible apply Keeps.inc); (case d => rfl); (case e => rfl))
    | ((with_reducible apply raise_keeps); (case d => rfl); (case hMk => rfl); (case hMk2 => rfl))
    | ((with_reducible apply setMarker_keeps); (case hMk => rfl))
    | intro _
    | split
    | dsimp only
    | (refine Keeps.snd ?_ (by with_reducible assumption))

theorem setUpQ_keeps {mk : Nat} {sIn : State} (w : Nat) (c : Nat) (l : List UpPacket) (s : State) (hMk : 0x400000000000000000000000000000000000000000000000000000000000000000000000000000000000000000000000000000000000000000000000000000000000000000000000000000000000000000000000000000000000000000000000000000000000000000000000000000000000000000000000000000000000000000000000000000000000000000000000000000000000000000000000000000000000000000000000000000000000000000000000000000000000000000000000000000000000000000000000000000000000 ||| mk = mk) (hIn : Keeps mk sIn s) : Keeps mk sIn (setUpQ w c l s) := by
  refine Keeps.step hMk ?_ hIn
  unfold setUpQ
  try dsimp only
  repeat' first
    | with_reducible refine Keeps.ite ?_ ?_
    | with_reducible exact Keeps.refl
    | with_reducible assumption
    | intro _
    | split
    | dsimp only
    | (refine Keeps.snd ?_ (by with_reducible assumption))
    | ((with_reducible apply Keeps.set_qms); (case e => rfl))

theorem upEnqueue_keeps {mk : Nat} {sIn : State} (p : UpPacket) (s : State) (hMk : 0x40000000000000000000000000000000000000000000000000000000000000000000000000000000000000000000000000000000000000000000000000000000000000000000000000000000000000000000000000000000000000000000000000000000000000000000000000000000000000000000000000000000e000001200800000000000000000000000000000000000000000000000000000000000000000000000000000000000000000000000000000000000000000000000000000000000000000000000000000000000000000 ||| mk = mk) (hIn : Keeps mk sIn s) : Keeps mk sIn (upEnqueue p s) := by
  refine Keeps.step hMk ?_ hIn
  unfold upEnqueue
  try dsimp only
  repeat' first
    | with_reducible refine Keeps.ite ?_ ?_
    | with_reducible exact Keeps.refl
    | with_reducible assumption
    | ((with_reducible apply Keeps.whey); (case e => rfl); (case e2 => rfl))
    | ((with_reducible apply cqAdd_keeps); (case hMk => rfl))
    | ((with_reducible apply poolGive_keeps); (case hMk => rfl))
    | ((with_reducible apply setUpQ_keeps); (case hMk => rfl))
    | intro _
    | split
    | dsimp only
    | (refine Keeps.snd ?_ (by with_reducible assumption))

theorem packetWhey_keeps {mk : Nat} {sIn : State} (code : Nat) (p : Packet) (s : State) (hMk : 0x2000001200800000000000000000000000000000000000000000000000000000000000000000000000000000000000000000000000000000000000000000000000000000000000000000000000000000000000000000 ||| mk = mk) (hIn : Keeps mk sIn s) : Keeps mk sIn (packetWhey code p s) := by
  refine Keeps.step hMk ?_ hIn
  unfold packetWhey
  try dsimp only
  repeat' first
    | with_reducible refine Keeps.ite ?_ ?_
    | with_reducible exact Keeps.refl
    | with_reducible assumption
    | (with_reducible refine Keeps.each _ _ ?_ ?_)
    | ((with_reducible apply frameWhey_keeps); (case hMk => rfl))
    | intro _
    | split
    | dsimp only
    | (refine Keeps.snd ?_ (by with_reducible assumption))

theorem downEnqueue_keeps {mk : Nat} {sIn : State} (p : Packet) (s : State) (hMk : 0x40000000000000000000000000000000000000000000000000000000000000000000000000000000000000000000000000000000000000000000000000000000000000000000000000000000000000000000000000000000000000000000000000000000000000000000000000000000000000000000000000000000e000001200800000000000000000000000000000000000000000000000000000000000000000000000000000000000000000000000000000000000000000000000000000000000000000000000000000000000000000 ||| mk = mk) (hIn : Keeps mk sIn s) : Keeps mk sIn (downEnqueue p s) := by
  refine Keeps.step hMk ?_ hIn
  unfold downEnqueue
  try dsimp only
  repeat' first
    | with_reducible refine Keeps.ite ?_ ?_
    | with_reducible exact Keeps.refl
    | with_reducible assumption
    | ((with_reducible apply cqAdd_keeps); (case hMk => rfl))
    | ((with_reducible apply packetWhey_keeps); (case hMk => rfl))
    | ((with_reducible apply setDownQ_keeps); (case hMk => rfl))
    | intro _
    | split
    | dsimp only
    | (refine Keeps.snd ?_ (by with_reducible assumption))

theorem packetQueue_keeps {mk : Nat} {sIn : State} (p : Packet) (hold : Option Nat) (s : State) (hMk : 0x40402000000000000000000000000000000000000000000000000000000000000000000000000000000000000000000000000000000000000000000000000000000000000000000000000000000000000000000000000000000000000000000000000000000000000000000000000000000000000000000000000000003c00001202800000000000000000000000000000000000000000000000000000000000000000000000000000000000000000000000000000000000000000000000000000000000000000000000000000000000000000 ||| mk = mk) (hIn : Keeps mk sIn s) : Keeps mk sIn (packetQueue p hold s) := by
  refine Keeps.step hMk ?_ hIn
  unfold packetQueue
  try dsimp only
  repeat' first
    | with_reducible refine Keeps.ite ?_ ?_
    | with_reducible exact Keeps.refl
    | with_reducible assumption
    | ((with_reducible apply nodeAppend_keeps); (case hMk => rfl))
    | ((with_reducible apply packetWhey_keeps); (case hMk => rfl))
    | intro _
    | split
    | dsimp only
    | (refine Keeps.snd ?_ (by with_reducible assumption))

theorem setCal_keeps {mk : Nat} {sIn : State} (l : List Deferred) (s : State) (hMk : 0x400000000000000000000000000000000000000000000000000000000000000000000000000000000000000000000000000000000000000000000000000000000000000000000000000000000000000000000000000000000000000000000000000000000000000000000000000000000000000000000000000c00000000000000000000000000000000000000000000000000000000000000000000000000000000000000000000000000000000000000000000000000000000000000000000000000000000000000000000000000000000 ||| mk = mk) (hIn : Keeps mk sIn s) : Keeps mk sIn (setCal l s) := by
  refine Keeps.step hMk ?_ hIn
  unfold setCal
  try dsimp only
  repeat' first
    | with_reducible refine Keeps.ite ?_ ?_
    | with_reducible exact Keeps.refl
    | with_reducible assumption
    | ((with_reducible apply Keeps.wr); (case d => rfl); (case e => rfl))
    | ((with_reducible apply Keeps.peak); (case d => rfl); (case e => rfl))
    | intro _
    | split
    | dsimp only
    | (refine Keeps.snd ?_ (by with_reducible assumption))
    | ((with_reducible apply Keeps.set_qms); (case e => rfl))

theorem calRelease_keeps {mk : Nat} {sIn : State} (s : State) (hMk : 0x40402000000000000000000000000000000000000000000000000000000000000000000000000000000000000000000000000000000000000000000000000000000000000000000000000000000000000000000000000000000000000000000000000000000000000000000000000000000000000000000000000c00003c00001202800000000000000000000000000000000000000000000000000000000000000000000000000000000000000000000000000000000000000000000000000000000000000000000000000000000000000000 ||| mk = mk) (hIn : Keeps mk sIn s) : Keeps mk sIn (calRelease s) := by
  refine Keeps.step hMk ?_ hIn
  unfold calRelease
  try dsimp only
  repeat' first
    | with_reducible refine Keeps.ite ?_ ?_
    | with_reducible exact Keeps.refl
    | with_reducible assumption
    | (with_reducible refine Keeps.each _ _ ?_ ?_)
    | ((with_reducible apply packetQueue_keeps); (case hMk => rfl))
    | ((with_reducible apply setCal_keeps); (case hMk => rfl))
    | intro _
    | split
    | dsimp only
    | (refine Keeps.snd ?_ (by with_reducible assumption))

theorem packetDefer_keeps {mk : Nat} {sIn : State} (p : Packet) (base : Nat) (s : State) (hMk : 0x40402000000000000000000000000000000000000000000000000000000000000000000000000000000000000000000000000000000000000000000000000000000000000000000000000000000000000000000000000000000000000000000000000000000000000000000000000000000000000000000000300c00003c00001202800000000000000000000000000000000000000000000000000000000000000000000000000000000000000000000000000000000000000000000000000000000000000000000000000000000000000000 ||| mk = mk) (hIn : Keeps mk sIn s) : Keeps mk sIn (packetDefer p base s) := by
  refine Keeps.step hMk ?_ hIn
  unfold packetDefer
  try dsimp only
  repeat' first
    | with_reducible refine Keeps.ite ?_ ?_
    | with_reducible exact Keeps.refl
    | with_reducible assumption
    | ((with_reducible apply Keeps.inc); (case d => rfl); (case e => rfl))
    | ((with_reducible apply packetQueue_keeps); (case hMk => rfl))
    | ((with_reducible apply setCal_keeps); (case hMk => rfl))
    | intro _
    | split
    | dsimp only
    | (refine Keeps.snd ?_ (by with_reducible assumption))

theorem packetShape_keeps {mk : Nat} {sIn : State} (p : Packet) (s : State) (hMk : 0x5050402000000000000000000000000000000000000000000000000000000000000000000000000000000000000000000000002000000000000000000000000000000000000000000000000000000000000000001867000180800000000800000000000000000000000000000000000000000000000000000000700c00203c00001202800000000000000000000000000000000000000000000000000000000000000000000000000000000000000000000000000000000000000000000000000000000000000000000000000000000000000000 ||| mk = mk) (hIn : Keeps mk sIn s) : Keeps mk sIn (packetShape p s) := by
  refine Keeps.step hMk ?_ hIn
  unfold packetShape
  try dsimp only
  repeat' first
    | (with_reducible refine Keeps.elim _ ?_ ?_)
    | (with_reducible refine Keeps.elim2 _ ?_ ?_)
    | with_reducible refine Keeps.ite ?_ ?_
    | with_reducible exact Keeps.refl
    | with_reducible assumption
    | ((with_reducible apply Keeps.inc); (case d => rfl); (case e => rfl))
    | ((with_reducible apply Keeps.modNode); (case e => rfl); (case e2 => rfl))
    | ((with_reducible apply packetDefer_keeps); (case hMk => rfl))
    | ((with_reducible apply packetQueue_keeps); (case hMk => rfl))
    | ((with_reducible apply packetWhey_keeps); (case hMk => rfl))
    | ((with_reducible apply raise_keeps); (case d => rfl); (case hMk => rfl); (case hMk2 => rfl))
    | intro _
    | split
    | dsimp only
    | (refine Keeps.snd ?_ (by with_reducible assumption))

theorem nodeMetersReset_keeps {mk : Nat} {sIn : State} (nix : Nat) (s : State) (hMk : 0x40002000000000000000000000000000000000000000000000000000000000000000000000000000000000000000000000000000000000000000000000000000000000000000000000000000000000000000000000000000000000000000000000000000000000000000000000000000000000000000000000000000000000000000000000000000000000000000000000000000000000000000000000000000000000000000000000000000000000000000000000000000000000000000000000000000000000000000000000000000000000 ||| mk = mk) (hIn : Keeps mk sIn s) : Keeps mk sIn (nodeMetersReset nix s) := by
  refine Keeps.step hMk ?_ hIn
  unfold nodeMetersReset
  try dsimp only
  repeat' first
    | with_reducible refine Keeps.ite ?_ ?_
    | with_reducible exact Keeps.refl
    | with_reducible assumption
    | ((with_reducible apply Keeps.putNode); (case e => rfl); (case e2 => rfl))
    | intro _
    | split
    | dsimp only
    | (refine Keeps.snd ?_ (by with_reducible assumption))

theorem regionsLeave_keeps {mk : Nat} {sIn : State} (old : State) (s : State) (hMk : 0x5000000000000000000000000000000000000000000000000000000000000000000000000000000000000000000000000000000000000000000000000000000000000000000000000000000000000000000000000000000000000000000000000000000000000000000000000000000000000000000000000000000000000000000000000000000000000000000000000000000000000000000000000000000000000000000000000000000000000000000000000000000000000000000000000000000000000000000000000000000000000000 ||| mk = mk) (hIn : Keeps mk sIn s) : Keeps mk sIn (regionsLeave old s) := by
  refine Keeps.step hMk ?_ hIn
  unfold regionsLeave
  try dsimp only
  repeat' first
    | with_reducible refine Keeps.ite ?_ ?_
    | with_reducible exact Keeps.refl
    | with_reducible assumption
    | ((with_reducible apply modPcr_any); (case hf => exact fun p a b => ⟨Memory.writes_wf _ (Memory.filter_wf _ a), b⟩); (case hMk => rfl); (case hMk2 => rfl))
    | intro _
    | split
    | dsimp only
    | (refine Keeps.snd ?_ (by with_reducible assumption))

theorem fwtCount_keeps {mk : Nat} {sIn : State} (loc : Nat) (more : Bool) (s : State) (hMk : 0x800000000800000000000000000000000000000000000000000000000000000000000000000000000000000000000000000000000000000000000000000000000000000000000000 ||| mk = mk) (hIn : Keeps mk sIn s) : Keeps mk sIn (fwtCount loc more s) := by
  refine Keeps.step hMk ?_ hIn
  unfold fwtCount
  try dsimp only
  repeat' first
    | with_reducible refine Keeps.ite ?_ ?_
    | with_reducible exact Keeps.refl
    | with_reducible assumption
    | ((with_reducible apply Keeps.inc); (case d => rfl); (case e => rfl))
    | ((with_reducible apply Keeps.sub); (case d => rfl); (case e => rfl))
    | intro _
    | split
    | dsimp only
    | (refine Keeps.snd ?_ (by with_reducible assumption))

theorem backrefSet_keeps {mk : Nat} {sIn : State} (loc : Nat) (e : FwtEntry) (s : State) (hMk : 0x40002000000000000000000000000000000000000000000000000000000000000000000000000000000000000000000000000000000000000000000000000000000000000000000000000000000000000000000000000000000000000000000000000000000000000000000000000000000000000000000000000000000000000000000000000000000001000000000000000000000000000000000000000000000000000000000000000000000000000000000000000000000000000000000000000000000000000000000000000000000000 ||| mk = mk) (hIn : Keeps mk sIn s) : Keeps mk sIn (backrefSet loc e s) := by
  refine Keeps.step hMk ?_ hIn
  unfold backrefSet
  try dsimp only
  repeat' first
    | with_reducible refine Keeps.ite ?_ ?_
    | with_reducible exact Keeps.refl
    | with_reducible assumption
    | ((with_reducible apply Keeps.sub); (case d => rfl); (case e => rfl))
    | ((with_reducible apply Keeps.modNode); (case e => rfl); (case e2 => rfl))
    | intro _
    | split
    | dsimp only
    | (refine Keeps.snd ?_ (by with_reducible assumption))

theorem verUp_keeps {mk : Nat} {sIn : State} (b : Nat) (s : State) (hMk : 0x2000000000000000000000000000000000000000000000000000000000000000000000000000000000000000000000000000000000000000000000000000000000000000000000000000000000000000000000000000000000000000000000000000000000000000000000000000000000000000000000000000000000000000000000000000000000000000000000000000000000000000000000000000000000000000000000000000000000000000000000000000000000000000000000000000000000000000000000000000000000000 ||| mk = mk) (hIn : Keeps mk sIn s) : Keeps mk sIn (verUp b s) := by
  refine Keeps.step hMk ?_ hIn
  unfold verUp
  try dsimp only
  repeat' first
    | with_reducible refine Keeps.ite ?_ ?_
    | with_reducible exact Keeps.refl
    | with_reducible assumption
    | ((with_reducible apply modHead_keeps); (case hMk => rfl))
    | intro _
    | split
    | dsimp only
    | (refine Keeps.snd ?_ (by with_reducible assumption))

theorem verAll_keeps {mk : Nat} {sIn : State} (e : FwtEntry) (s : State) (hMk : 0x2000000000000000000000000000000000000000000000000000000000000000000000000000000000000000000000000000000000000000000000000000000000000000000000000000000000000000000000000000000000000000000000000000000000000000000000000000000000000000000000000000000000000000000000000000000000000000000000000000000000000000000000000000000000000000000000000000000000000000000000000000000000000000000000000000000000000000000000000000000000000 ||| mk = mk) (hIn : Keeps mk sIn s) : Keeps mk sIn (verAll e s) := by
  refine Keeps.step hMk ?_ hIn
  unfold verAll
  try dsimp only
  repeat' first
    | with_reducible refine Keeps.ite ?_ ?_
    | with_reducible exact Keeps.refl
    | with_reducible assumption
    | (with_reducible refine Keeps.each _ _ ?_ ?_)
    | ((with_reducible apply verUp_keeps); (case hMk => rfl))
    | intro _
    | split
    | dsimp only
    | (refine Keeps.snd ?_ (by with_reducible assumption))

theorem fwtMove_keeps {mk : Nat} {sIn : State} (frm : Nat) (target : Nat) (e : FwtEntry) (s : State) (hMk : 0x42002000000000000000000000000000000000000000000000000000000000000000000000000000000000000000000000000000000000000000000000000000000000000000000000000000000000000000000000000000000000000000000000000000000000000000000000000000000000000000000000000000000000000000000000000000000001800000000800000000000000000000000000000000000000000000000000000000000000000000000000000000000000000000000000000000000000000000000000000000000000 ||| mk = mk) (hIn : Keeps mk sIn s) : Keeps mk sIn (fwtMove frm target e s) := by
  refine Keeps.step hMk ?_ hIn
  unfold fwtMove
  try dsimp only
  repeat' first
    | with_reducible refine Keeps.ite ?_ ?_
    | with_reducible exact Keeps.refl
    | with_reducible assumption
    | ((with_reducible apply backrefSet_keeps); (case hMk => rfl))
    | ((with_reducible apply fwtCount_keeps); (case hMk => rfl))
    | ((with_reducible apply fwtPut_keeps); (case hMk => rfl))
    | ((with_reducible apply verAll_keeps); (case hMk => rfl))
    | intro _
    | split
    | dsimp only
    | (refine Keeps.snd ?_ (by with_reducible assumption))

theorem tryLock_keeps {mk : Nat} {sIn : State} (s : State) (hMk : 0x2000000000000000000000000000000000000000000000000000000000000000000000000000000000000000000000000000000000000000000000000000000000000000000000000000000000000000000000000000000000000000000000000000000000000000000000000000000000000000000000000000000000000000000000000000000000000000000000000000000000000000000000000000000000000000000000000000000000000000000000000000000000000000000000000000000000000000000000000000000000000 ||| mk = mk) (hIn : Keeps mk sIn s) : Keeps mk sIn (tryLock s).2 := by
  refine Keeps.step hMk ?_ hIn
  unfold tryLock
  try dsimp only
  repeat' first
    | with_reducible refine Keeps.ite ?_ ?_
    | with_reducible exact Keeps.refl
    | with_reducible assumption
    | ((with_reducible apply meetsSet_keeps); (case hMk => rfl))
    | intro _
    | split
    | dsimp only
    | (refine Keeps.snd ?_ (by with_reducible assumption))

theorem kickMoves_keeps {mk : Nat} {sIn : State} (k : List (Nat × Nat)) (s : State) (hMk : 0x42002000000000000000000000000000000000000000000000000000000000000000000000000000000000000000000000000000000000000000000000000000000000000000000000000000000000000000000000000000000000000000000000000000000000000000000000000000000000000000000000000000000000000000000000000000000801800000000800000000000000000000000000000000000000000000000000000000000000000000000000000000000000000000000000000000000000000000000000000000000000 ||| mk = mk) (hIn : Keeps mk sIn s) : Keeps mk sIn (kickMoves k s) := by
  refine Keeps.step hMk ?_ hIn
  have key : ∀ (k : List (Nat × Nat)) (s s0 : State), Keeps 0x42002000000000000000000000000000000000000000000000000000000000000000000000000000000000000000000000000000000000000000000000000000000000000000000000000000000000000000000000000000000000000000000000000000000000000000000000000000000000000000000000000000000000000000000000000000000801800000000800000000000000000000000000000000000000000000000000000000000000000000000000000000000000000000000000000000000000000000000000000000000000 s0 s → Keeps 0x42002000000000000000000000000000000000000000000000000000000000000000000000000000000000000000000000000000000000000000000000000000000000000000000000000000000000000000000000000000000000000000000000000000000000000000000000000000000000000000000000000000000000000000000000000000000801800000000800000000000000000000000000000000000000000000000000000000000000000000000000000000000000000000000000000000000000000000000000000000000000 s0 (kickMoves k s) := by
    intro k
    induction k with
    | nil => intro s s0 h; unfold kickMoves; exact h
    | cons a l ih =>
     intro s s0 h
     unfold kickMoves
     try dsimp only
     repeat' first
      | with_reducible refine Keeps.ite ?_ ?_
      | (with_reducible apply ih)
      | with_reducible exact Keeps.refl
      | with_reducible assumption
      | ((with_reducible apply Keeps.inc); (case d => rfl); (case e => rfl))
      | ((with_reducible apply fwtMove_keeps); (case hMk => rfl))
      | (refine Keeps.snd (p := tryLock _) ?_ (by with_reducible assumption))
      | ((with_reducible apply tryLock_keeps); (case hMk => rfl))
      | split
      | (refine Keeps.snd ?_ (by with_reducible assumption))
      | intro _
      | dsimp only
  exact key k s s Keeps.refl

theorem fwtWriteAt_keeps {mk : Nat} {sIn : State} (loc : Nat) (e : FwtEntry) (s : State) (hMk : 0x42002000000000000000000000000000000000000000000000000000000000000000000000000000000000000000000000000000000000000000000000000000000000000000000000000000000000000000000000000000000000000000000000000000000000000000000000000000000000000000000000000000000000000000000000000000000001800000000800000000000000000000000000000000000000000000000000000000000000000000000000000000000000000000000000000000000000000000000000000000000000 ||| mk = mk) (hIn : Keeps mk sIn s) : Keeps mk sIn (fwtWriteAt loc e s) := by
  refine Keeps.step hMk ?_ hIn
  unfold fwtWriteAt
  try dsimp only
  repeat' first
    | with_reducible refine Keeps.ite ?_ ?_
    | with_reducible exact Keeps.refl
    | with_reducible assumption
    | ((with_reducible apply backrefSet_keeps); (case hMk => rfl))
    | ((with_reducible apply fwtCount_keeps); (case hMk => rfl))
    | ((with_reducible apply fwtPut_keeps); (case hMk => rfl))
    | intro _
    | split
    | dsimp only
    | (refine Keeps.snd ?_ (by with_reducible assumption))

theorem fwtPlace_keeps {mk : Nat} {sIn : State} (e : FwtEntry) (s : State) (hMk : 0x5052002000000000000000000000000000000000000000000000000000000000000000000000000000000000000000000000002000000000000000000000000000000000000000000000000000000000000000001867000180800000000800000000000000000000000000000000000000000000000000000000000000000000000000000000000000103801800000002800000000000000000000000000000000000000000000000000000000000000000000000000000000000000000000000000000000000000000000000000000000000000 ||| mk = mk) (hIn : Keeps mk sIn s) : Keeps mk sIn (fwtPlace e s).2 := by
  refine Keeps.step hMk ?_ hIn
  unfold fwtPlace
  try dsimp only
  repeat' first
    | (with_reducible refine Keeps.elim _ ?_ ?_)
    | (with_reducible refine Keeps.elim2 _ ?_ ?_)
    | with_reducible refine Keeps.ite ?_ ?_
    | with_reducible exact Keeps.refl
    | with_reducible assumption
    | ((with_reducible apply Keeps.inc); (case d => rfl); (case e => rfl))
    | ((with_reducible apply fwtWriteAt_keeps); (case hMk => rfl))
    | ((with_reducible apply kickMoves_keeps); (case hMk => rfl))
    | ((with_reducible apply lockTake_keeps); (case hMk => rfl))
    | ((with_reducible apply modHead_keeps); (case hMk => rfl))
    | ((with_reducible apply raise_keeps); (case d => rfl); (case hMk => rfl); (case hMk2 => rfl))
    | intro _
    | split
    | dsimp only
    | (refine Keeps.snd ?_ (by with_reducible assumption))

theorem fwtNew_keeps {mk : Nat} {sIn : State} (e : FwtEntry) (s : State) (hMk : 0x5052002000000000000000000000000000000000000000000000000000000000000000000000000000000000000000000000002000000000000000000000000000000000000000000000000000000000000000001867000180800000000800000000000000000000000000000000000000000000000000000000000000000000000000000000000000103c01800000002800000000000000000000000000000000000000000000000000000000000000000000000000000000000000000000000000000000000000000000000000000000000000 ||| mk = mk) (hIn : Keeps mk sIn s) : Keeps mk sIn (fwtNew e s).2 := by
  refine Keeps.step hMk ?_ hIn
  unfold fwtNew
  try dsimp only
  repeat' first
    | with_reducible refine Keeps.ite ?_ ?_
    | with_reducible exact Keeps.refl
    | with_reducible assumption
    | ((with_reducible apply Keeps.inc); (case d => rfl); (case e => rfl))
    | (with_reducible refine Keeps.when _ _ ?_ ?_)
    | (refine Keeps.snd (p := fwtPlace _ _) ?_ (by with_reducible assumption))
    | ((with_reducible apply fwtPlace_keeps); (case hMk => rfl))
    | intro _
    | split
    | dsimp only
    | (refine Keeps.snd ?_ (by with_reducible assumption))

theorem fwtRemove_keeps {mk : Nat} {sIn : State} (loc : Nat) (s : State) (hMk : 0x2000000000000000000000000000000000000000000000000000000000000000000000000000000000000000000000000000000000000000000000000000000000000000000000000000000000000000000000000000000000000000000000000000000000000000000000000000000000000000000000000000000000000000000000000000000000000800000000800000000000000000000000000000000000000000000000000000000000000000000000000000000000000000000000000000000000000000000000000000000000000 ||| mk = mk) (hIn : Keeps mk sIn s) : Keeps mk sIn (fwtRemove loc s) := by
  refine Keeps.step hMk ?_ hIn
  unfold fwtRemove
  try dsimp only
  repeat' first
    | with_reducible refine Keeps.ite ?_ ?_
    | with_reducible exact Keeps.refl
    | with_reducible assumption
    | ((with_reducible apply fwtCount_keeps); (case hMk => rfl))
    | ((with_reducible apply fwtPut_keeps); (case hMk => rfl))
    | intro _
    | split
    | dsimp only
    | (refine Keeps.snd ?_ (by with_reducible assumption))

theorem fwtMirror_keeps {mk : Nat} {sIn : State} (e : FwtEntry) (s : State) (hMk : 0x50700084000000000000000000020d100204a0000000008000040011d47c00c17c0000000000000000000000000000000000002000000000000000000000000000000000000000000000000000000000000000001867000180800000000800000000000000000000000000000000000000000000000000000000000000000000003001800000000000000000000000000000000000000000000000000000000000000000000000000000000000000000000000000000000000000000000000000000000000000000000000000000000000000080 ||| mk = mk) (hIn : Keeps mk sIn s) : Keeps mk sIn (fwtMirror e s) := by
  refine Keeps.step hMk ?_ hIn
  unfold fwtMirror
  try dsimp only
  repeat' first
    | with_reducible refine Keeps.ite ?_ ?_
    | with_reducible exact Keeps.refl
    | with_reducible assumption
    | ((with_reducible apply mirCount_keeps); (case d => rfl); (case hMk => rfl); (case hMk2 => rfl))
    | intro _
    | split
    | dsimp only
    | (refine Keeps.snd ?_ (by with_reducible assumption))

theorem noFwtSet_keeps {mk : Nat} {sIn : State} (nix : Nat) (s : State) (hMk : 0x40002000000000000000000000000000000000000000000000000000000000000000000000000000000000000000000000000000000000000000000000000000000000000000000000000000000000000000000000000000000000000000000000000000000000000000000000000000000000000000000000000000000000000000000000000000000001000000000000000000000000000000000000000000000000000000000000000000000000000000000000000000000000000000000000000000000000000000000000000000000000 ||| mk = mk) (hIn : Keeps mk sIn s) : Keeps mk sIn (noFwtSet nix s) := by
  refine Keeps.step hMk ?_ hIn
  unfold noFwtSet
  try dsimp only
  repeat' first
    | with_reducible refine Keeps.ite ?_ ?_
    | with_reducible exact Keeps.refl
    | with_reducible assumption
    | ((with_reducible apply Keeps.inc); (case d => rfl); (case e => rfl))
    | ((with_reducible apply Keeps.modNode); (case e => rfl); (case e2 => rfl))
    | intro _
    | split
    | dsimp only
    | (refine Keeps.snd ?_ (by with_reducible assumption))

theorem fwtNodeNew_keeps {mk : Nat} {sIn : State} (nix : Nat) (eui : Nat) (ward : Nat) (s : State) (hMk : 0x5052002000000000000000000000000000000000000000000000000000000000000000000000000000000000000000000000002000000000000000000000000000000000000000000000000000000000000000001867000180800000000800000000000000000000000000000000000000000000000000000000000000000000000000000000000000103c01800000002800000000000000000000000000000000000000000000000000000000000000000000000000000000000000000000000000000000000000000000000000000000000000 ||| mk = mk) (hIn : Keeps mk sIn s) : Keeps mk sIn (fwtNodeNew nix eui ward s).2 := by
  refine Keeps.step hMk ?_ hIn
  unfold fwtNodeNew
  try dsimp only
  repeat' first
    | with_reducible refine Keeps.ite ?_ ?_
    | with_reducible exact Keeps.refl
    | with_reducible assumption
    | (refine Keeps.snd (p := fwtNew _ _) ?_ (by with_reducible assumption))
    | ((with_reducible apply fwtNew_keeps); (case hMk => rfl))
    | intro _
    | split
    | dsimp only
    | (refine Keeps.snd ?_ (by with_reducible assumption))

theorem fwtNode_keeps {mk : Nat} {sIn : State} (nix : Nat) (wait : Bool) (s : State) (hMk : 0x5052002000000000000000000000000000000000000000000000000000000000000000000000000000000000000000000000002000000000000000000000000000000000000000000000000000000000000000001867000180800000000800000000000000000000000000000000000000000000000000000000000000000000000000000000000000103c01800000002800000000000000000000000000000000000000000000000000000000000000000000000000000000000000000000000000000000000000000000000000000000000000 ||| mk = mk) (hIn : Keeps mk sIn s) : Keeps mk sIn (fwtNode nix wait s).2 := by
  refine Keeps.step hMk ?_ hIn
  unfold fwtNode
  try dsimp only
  repeat' first
    | with_reducible refine Keeps.ite ?_ ?_
    | with_reducible exact Keeps.refl
    | with_reducible assumption
    | ((with_reducible apply Keeps.modNode); (case e => rfl); (case e2 => rfl))
    | (refine Keeps.snd (p := fwtNodeNew _ _ _ _) ?_ (by with_reducible assumption))
    | ((with_reducible apply fwtNodeNew_keeps); (case hMk => rfl))
    | ((with_reducible apply noFwtSet_keeps); (case hMk => rfl))
    | intro _
    | split
    | dsimp only
    | (refine Keeps.snd ?_ (by with_reducible assumption))

theorem fwtNodeGone_keeps {mk : Nat} {sIn : State} (nix : Nat) (s : State) (hMk : 0x2000000000000000000000000000000000000000000000000000000000000000000000000000000000000000000000000000000000000000000000000000000000000000000000000000000000000000000000000000000000000000000000000000000000000000000000000000000000000000000000000000000000000000000000000000000100001800000000800000000000000000000000000000000000000000000000000000000000000000000000000000000000000000000000000000000000000000000000000000000000000 ||| mk = mk) (hIn : Keeps mk sIn s) : Keeps mk sIn (fwtNodeGone nix s) := by
  refine Keeps.step hMk ?_ hIn
  unfold fwtNodeGone
  try dsimp only
  repeat' first
    | with_reducible refine Keeps.ite ?_ ?_
    | with_reducible exact Keeps.refl
    | with_reducible assumption
    | ((with_reducible apply Keeps.sub); (case d => rfl); (case e => rfl))
    | ((with_reducible apply fwtRemove_keeps); (case hMk => rfl))
    | ((with_reducible apply lockTake_keeps); (case hMk => rfl))
    | intro _
    | split
    | dsimp only
    | (refine Keeps.snd ?_ (by with_reducible assumption))

theorem candSet_keeps {mk : Nat} {sIn : State} (loc : Nat) (e : FwtEntry) (s : State) (hMk : 0x42002000000000000000000000000000000000000000000000000000000000000000000000000000000000000000000000000000000000000000000000000000000000000000000000000000000000000000000000000000000000000000000000000000000000000000000000000000000000000000000000000000000000000000000000000000000000000000000000000000000000000000000000000000000000000000000000000000000000000000000000000000000000000000000000000000000000000000000000000000000000 ||| mk = mk) (hIn : Keeps mk sIn s) : Keeps mk sIn (candSet loc e s) := by
  refine Keeps.step hMk ?_ hIn
  unfold candSet
  try dsimp only
  repeat' first
    | with_reducible refine Keeps.ite ?_ ?_
    | with_reducible exact Keeps.refl
    | with_reducible assumption
    | ((with_reducible apply Keeps.modNode); (case e => rfl); (case e2 => rfl))
    | ((with_reducible apply fwtPut_keeps); (case hMk => rfl))
    | intro _
    | split
    | dsimp only
    | (refine Keeps.snd ?_ (by with_reducible assumption))

theorem moveCommit_keeps {mk : Nat} {sIn : State} (loc : Nat) (p : Nat) (e : FwtEntry) (s : State) (hMk : 0x507200a4000000000000000000020d100204a0000000008000040011d47c00c17c000000000000000000000000000000000000200000000000000000000000000000000000000000000000000000000000000000186700018080000000080000000000000000000000000000000000000000000000000000000000000000000000300180000007f000010000000000001400000000000000000000000000000000000000000000000000000000000000000000000000000000000000000000000000000000000000000000000000000000000080 ||| mk = mk) (hIn : Keeps mk sIn s) : Keeps mk sIn (moveCommit loc p e s) := by
  refine Keeps.step hMk ?_ hIn
  unfold moveCommit
  try dsimp only
  repeat' first
    | with_reducible refine Keeps.ite ?_ ?_
    | with_reducible exact Keeps.refl
    | with_reducible assumption
    | ((with_reducible apply Keeps.wr); (case d => rfl); (case e => rfl))
    | ((with_reducible apply Keeps.put); (case d => rfl); (case e => rfl))
    | ((with_reducible apply Keeps.inc); (case d => rfl); (case e => rfl))
    | ((with_reducible apply candSet_keeps); (case hMk => rfl))
    | ((with_reducible apply fwtMirror_keeps); (case hMk => rfl))
    | ((with_reducible apply occur_keeps); (case d => rfl); (case hMk => rfl); (case hMk2 => rfl))
    | intro _
    | split
    | dsimp only
    | (refine Keeps.snd ?_ (by with_reducible assumption))

theorem portSeen_keeps {mk : Nat} {sIn : State} (loc : Nat) (p : Nat) (s : State) (hMk : 0x507200a4000000000000000000020d100204a0000000008000040011d47c00c17c000000000000000000000000000000000000200000000000000000000000000000000000000000000000000000000000000000186700018080000000080000000000000000000000000000000000000000000000000000000000000000000000300180000007f000038000000000001400000000000000000000000000000000000000000000000000000000000000000000000000000000000000000000000000000000000000000000000000000000000080 ||| mk = mk) (hIn : Keeps mk sIn s) : Keeps mk sIn (portSeen loc p s) := by
  refine Keeps.step hMk ?_ hIn
  unfold portSeen
  try dsimp only
  repeat' first
    | with_reducible refine Keeps.ite ?_ ?_
    | with_reducible exact Keeps.refl
    | with_reducible assumption
    | ((with_reducible apply Keeps.inc); (case d => rfl); (case e => rfl))
    | ((with_reducible apply candSet_keeps); (case hMk => rfl))
    | ((with_reducible apply fwtPut_keeps); (case hMk => rfl))
    | ((with_reducible apply moveCommit_keeps); (case hMk => rfl))
    | intro _
    | split
    | dsimp only
    | (refine Keeps.snd ?_ (by with_reducible assumption))

theorem modFwd_keeps {mk : Nat} {sIn : State} (f : Fwd → Fwd) (s : State) (hMk : 0x2000000000000000000000000000000000000000000000000000000000000000000000000000000000000000000000000000000000000000000000000000000000000000000000000000000000000000000000000000000000000000000000000000000000000000000000000000000000000000000000000000000000000000000000000000000000000000000000000000000000000000000000000000000000000000000000000000000000000000000000000000000000000000000000000000000000000000000000000000000000000 ||| mk = mk) (hIn : Keeps mk sIn s) : Keeps mk sIn (modFwd f s) := by
  refine Keeps.step hMk ?_ hIn
  unfold modFwd
  try dsimp only
  repeat' first
    | with_reducible refine Keeps.ite ?_ ?_
    | with_reducible exact Keeps.refl
    | with_reducible assumption
    | intro _
    | split
    | dsimp only
    | (refine Keeps.snd ?_ (by with_reducible assumption))
    | ((with_reducible apply Keeps.set_fwd); (case e => rfl))

theorem learnStation_keeps {mk : Nat} {sIn : State} (key : Nat) (p : Nat) (s : State) (hMk : 0x507200a4000000000000000000020d100204a0000000008000040011d47c00c17c000000000000000000000000000000000000200000000000000000000000000000000000000000000000000000000000000000186700018080000000080000000000000000000000000000000000000000000000000000000000000000000000300180000007f00013fc01800000003c00000000000000000000000000000000000000000000000000000000000000000000000000000000000000000000000000000000000000000000000000000000000080 ||| mk = mk) (hIn : Keeps mk sIn s) : Keeps mk sIn (learnStation key p s) := by
  refine Keeps.step hMk ?_ hIn
  unfold learnStation
  try dsimp only
  repeat' first
    | (with_reducible refine Keeps.elim _ ?_ ?_)
    | (with_reducible refine Keeps.elim2 _ ?_ ?_)
    | with_reducible refine Keeps.ite ?_ ?_
    | with_reducible exact Keeps.refl
    | with_reducible assumption
    | ((with_reducible apply Keeps.inc); (case d => rfl); (case e => rfl))
    | (with_reducible refine Keeps.when _ _ ?_ ?_)
    | ((with_reducible apply fwtMirror_keeps); (case hMk => rfl))
    | (refine Keeps.snd (p := fwtNew _ _) ?_ (by with_reducible assumption))
    | ((with_reducible apply fwtNew_keeps); (case hMk => rfl))
    | ((with_reducible apply portSeen_keeps); (case hMk => rfl))
    | intro _
    | split
    | dsimp only
    | (refine Keeps.snd ?_ (by with_reducible assumption))

theorem execLearnCommit_keeps (pos : Nat) (meets : TableMeets) (t : Nat) (s : State) : KeepsR 0xd07200a5000000000000000000020d100204a0000000008000040011d47c00c17c000000000000000000000000000000000000200000000000000000000000000000000000000000000000000000000000000000186700018080000000080000000000000000000000000000000000000000000000000000000000000000000000300180000007f00013fc01800000003c00000000000000000000000000000000000000000000000000000000000000000000000000000000000000000000000000000000000000000000000000000000000080 s (execLearnCommit pos meets t s) := by
  unfold execLearnCommit
  try dsimp only
  repeat' first
    | ((with_reducible apply withMeets_keeps); (case hMk => rfl))
    | (with_reducible refine KeepsR.next ?_)
    | (with_reducible refine KeepsR.ite ?_ ?_)
    | with_reducible refine Keeps.ite ?_ ?_
    | with_reducible exact Keeps.refl
    | with_reducible assumption
    | ((with_reducible apply Keeps.at); (case e => rfl); (case e2 => rfl))
    | ((with_reducible apply learnStation_keeps); (case hMk => rfl))
    | ((with_reducible apply lockTake_keeps); (case hMk => rfl))
    | ((with_reducible apply modFwd_keeps); (case hMk => rfl))
    | ((with_reducible apply portSeen_keeps); (case hMk => rfl))
    | intro _
    | split
    | dsimp only
    | (refine Keeps.snd ?_ (by with_reducible assumption))

theorem firnRemove_keeps {mk : Nat} {sIn : State} (loc : Nat) (e : FwtEntry) (s : State) (hMk : 0x50720084000000000000000000020d100204a0000000008000040011d47c00c17c0000000000000000000000000000000000002000000000000000000000000000000000000000000000000000000000000000001867000180800000000800000000000000000000000000000000000000000000000000000000000000000000003001800000000000040000800000000800000000000000000000000000000000000000000000000000000000000000000000000000000000000000000000000000000000000000000000000000000000000080 ||| mk = mk) (hIn : Keeps mk sIn s) : Keeps mk sIn (firnRemove loc e s) := by
  refine Keeps.step hMk ?_ hIn
  unfold firnRemove
  try dsimp only
  repeat' first
    | with_reducible refine Keeps.ite ?_ ?_
    | with_reducible exact Keeps.refl
    | with_reducible assumption
    | ((with_reducible apply Keeps.inc); (case d => rfl); (case e => rfl))
    | ((with_reducible apply fwtMirror_keeps); (case hMk => rfl))
    | ((with_reducible apply fwtRemove_keeps); (case hMk => rfl))
    | intro _
    | split
    | dsimp only
    | (refine Keeps.snd ?_ (by with_reducible assumption))

theorem recordAge_keeps {mk : Nat} {sIn : State} (nix : Nat) (hit : Bool) (s : State) (hMk : 0x40002000000000000000000000000000000000000000000000000000000000000000000000000000000000000000000000000000000000000000000000000000000000000000000000000000000000000000000000000000000000000000000000000000000000000000000000000000000000000000000000000000000000000000000000000000000000000000000000000000000000000000000000000000000000000000000000000000000000000000000000000000000000000000000000000000000000000000000000000000000000 ||| mk = mk) (hIn : Keeps mk sIn s) : Keeps mk sIn (recordAge nix hit s) := by
  refine Keeps.step hMk ?_ hIn
  unfold recordAge
  try dsimp only
  repeat' first
    | with_reducible refine Keeps.ite ?_ ?_
    | with_reducible exact Keeps.refl
    | with_reducible assumption
    | ((with_reducible apply Keeps.modNode); (case e => rfl); (case e2 => rfl))
    | intro _
    | split
    | dsimp only
    | (refine Keeps.snd ?_ (by with_reducible assumption))

theorem firnEntry_keeps {mk : Nat} {sIn : State} (loc : Nat) (s : State) (hMk : 0x507200a4000000000000000000020d100204a0000000008000040011d47c00c17c0000000000000000000000000000000000002000000000000000000000000000000000000000000000000000000000000000001867000180800000000800000000000000000000000000000000000000000000000000000000000000000000003001800000000000143c01800000002800000000000000000000000000000000000000000000000000000000000000000000000000000000000000000000000000000000000000000000000000000000000080 ||| mk = mk) (hIn : Keeps mk sIn s) : Keeps mk sIn (firnEntry loc s) := by
  refine Keeps.step hMk ?_ hIn
  unfold firnEntry
  try dsimp only
  repeat' first
    | with_reducible refine Keeps.ite ?_ ?_
    | with_reducible exact Keeps.refl
    | with_reducible assumption
    | ((with_reducible apply Keeps.modNode); (case e => rfl); (case e2 => rfl))
    | ((with_reducible apply firnRemove_keeps); (case hMk => rfl))
    | (refine Keeps.snd (p := fwtNode _ _ _) ?_ (by with_reducible assumption))
    | ((with_reducible apply fwtNode_keeps); (case hMk => rfl))
    | ((with_reducible apply fwtPut_keeps); (case hMk => rfl))
    | ((with_reducible apply fwtRemove_keeps); (case hMk => rfl))
    | ((with_reducible apply recordAge_keeps); (case hMk => rfl))
    | intro _
    | split
    | dsimp only
    | (refine Keeps.snd ?_ (by with_reducible assumption))

theorem firnBucket_keeps {mk : Nat} {sIn : State} (b : Nat) (s : State) (hMk : 0x507200a4000000000000000000020d100204a0000000008000040011d47c00c17c0000000000000000000000000000000000002000000000000000000000000000000000000000000000000000000000000000001867000180800000000800000000000000000000000000000000000000000000000000000000000000000000003001800000000000143c01800000002800000000000000000000000000000000000000000000000000000000000000000000000000000000000000000000000000000000000000000000000000000000000080 ||| mk = mk) (hIn : Keeps mk sIn s) : Keeps mk sIn (firnBucket b s) := by
  refine Keeps.step hMk ?_ hIn
  unfold firnBucket
  try dsimp only
  repeat' first
    | with_reducible refine Keeps.ite ?_ ?_
    | with_reducible exact Keeps.refl
    | with_reducible assumption
    | (with_reducible refine Keeps.each _ _ ?_ ?_)
    | ((with_reducible apply firnEntry_keeps); (case hMk => rfl))
    | ((with_reducible apply modHead_keeps); (case hMk => rfl))
    | intro _
    | split
    | dsimp only
    | (refine Keeps.snd ?_ (by with_reducible assumption))

theorem firnSlot_keeps {mk : Nat} {sIn : State} (k : Nat) (s : State) (hMk : 0x507200a4000000000000000000020d100204a0000000008000040011d47c00c17c0000000000000000000000000000000000002000000000000000000000000000000000000000000000000000000000000000001867000180800000000800000000000000000000000000000000000000000000000000000000000000000000003001800000000000143c01800000002800000000000000000000000000000000000000000000000000000000000000000000000000000000000000000000000000000000000000000000000000000000000080 ||| mk = mk) (hIn : Keeps mk sIn s) : Keeps mk sIn (firnSlot k s) := by
  refine Keeps.step hMk ?_ hIn
  unfold firnSlot
  try dsimp only
  repeat' first
    | with_reducible refine Keeps.ite ?_ ?_
    | with_reducible exact Keeps.refl
    | with_reducible assumption
    | ((with_reducible apply firnEntry_keeps); (case hMk => rfl))
    | ((with_reducible apply fwtMove_keeps); (case hMk => rfl))
    | ((with_reducible apply lockTake_keeps); (case hMk => rfl))
    | intro _
    | split
    | dsimp only
    | (refine Keeps.snd ?_ (by with_reducible assumption))

theorem firnNext_keeps {mk : Nat} {sIn : State} (locked : Bool) (s : State) (hMk : 0x507200a4000000000000000000020d100204a0000000008000040011d47c00c17c0000000000000000000000000000000000002000000000000000000000000000000000000000000000000000000000000000001867000180800000000800000000000000000000000000000000000000000000000000000000000000000000003001800000000000143c01820000002800000000000000000000000000000000000000000000000000000000000000000000000000000000000000000000000000000000000000000000000000000000000080 ||| mk = mk) (hIn : Keeps mk sIn s) : Keeps mk sIn (firnNext locked s) := by
  refine Keeps.step hMk ?_ hIn
  unfold firnNext
  try dsimp only
  repeat' first
    | with_reducible refine Keeps.ite ?_ ?_
    | with_reducible exact Keeps.refl
    | with_reducible assumption
    | ((with_reducible apply Keeps.wr); (case d => rfl); (case e => rfl))
    | ((with_reducible apply firnBucket_keeps); (case hMk => rfl))
    | ((with_reducible apply firnSlot_keeps); (case hMk => rfl))
    | ((with_reducible apply modFwd_keeps); (case hMk => rfl))
    | intro _
    | split
    | dsimp only
    | (refine Keeps.snd ?_ (by with_reducible assumption))

theorem execFirnBucketVisit_keeps (locked : Bool) (corrected : List (Fin 256)) (poisoned : List Nat) (meets : TableMeets) (t : Nat) (s : State) : KeepsR 0xd07200a5000000000000000000020d100204a0000000008000040011d47c00c17c00000000000000000000000000000000000820000000000000000000000000000000000000000000000000000000000000000018670001808000000008000000000000000000000000000000000000000000000000000000000000000000000030018000000000001c3c01820000002800000000000000000000000000000000000000000000000000000000000000000000000000000000000000000000000000000000000000000000000000000000000080 s (execFirnBucketVisit locked corrected poisoned meets t s) := by
  unfold execFirnBucketVisit
  try dsimp only
  repeat' first
    | ((with_reducible apply withMeets_keeps); (case hMk => rfl))
    | (with_reducible refine KeepsR.next ?_)
    | (with_reducible refine KeepsR.ite ?_ ?_)
    | with_reducible refine Keeps.ite ?_ ?_
    | with_reducible exact Keeps.refl
    | with_reducible assumption
    | ((with_reducible apply Keeps.inc); (case d => rfl); (case e => rfl))
    | ((with_reducible apply Keeps.at); (case e => rfl); (case e2 => rfl))
    | (with_reducible refine Keeps.each _ _ ?_ ?_)
    | ((with_reducible apply eccFix_keeps); (case hMk => rfl))
    | ((with_reducible apply fenceNode_keeps); (case hMk => rfl))
    | ((with_reducible apply firnBucket_keeps); (case hMk => rfl))
    | ((with_reducible apply firnNext_keeps); (case hMk => rfl))
    | ((with_reducible apply modFwd_keeps); (case hMk => rfl))
    | intro _
    | split
    | dsimp only
    | (refine Keeps.snd ?_ (by with_reducible assumption))

theorem execFirnSweepEnd_keeps (meets : TableMeets) (t : Nat) (s : State) : KeepsR 0xd052002100000000000000000000000000000000000000000000000000000000000000000000000000000000000000000000002000000000000000000000000000000000000000000000000000000000000000001867000180800000000800000000000000000000000000000000000000000000000000000000000000000000000000000000000000103c01840000002900000000000000000000000000000000000000000000000000000000000000000000000000000000000000000000000000000000000000000000000000000000000000 s (execFirnSweepEnd meets t s) := by
  unfold execFirnSweepEnd
  try dsimp only
  repeat' first
    | ((with_reducible apply withMeets_keeps); (case hMk => rfl))
    | (with_reducible refine KeepsR.next ?_)
    | (with_reducible refine KeepsR.ite ?_ ?_)
    | with_reducible refine Keeps.ite ?_ ?_
    | with_reducible exact Keeps.refl
    | with_reducible assumption
    | ((with_reducible apply Keeps.wr); (case d => rfl); (case e => rfl))
    | ((with_reducible apply Keeps.inc); (case d => rfl); (case e => rfl))
    | ((with_reducible apply Keeps.at); (case e => rfl); (case e2 => rfl))
    | (with_reducible refine Keeps.each _ _ ?_ ?_)
    | ((with_reducible apply Keeps.modNode); (case e => rfl); (case e2 => rfl))
    | (refine Keeps.snd (p := fwtNode _ _ _) ?_ (by with_reducible assumption))
    | ((with_reducible apply fwtNode_keeps); (case hMk => rfl))
    | ((with_reducible apply modFwd_keeps); (case hMk => rfl))
    | intro _
    | split
    | dsimp only
    | (refine Keeps.snd ?_ (by with_reducible assumption))

theorem walkTo_keeps {mk : Nat} {sIn : State} (k : Nat) (s : State) (hMk : 0x2000000000000000000000000000000000000000000000000000000000000000000000000000000000000000000000000000000000000000000000000000000000000000000000000000000000000000000000000000000000000000000000000000000000000000000000000000000000000000000000000000000000000000000000000000000000000000200000000000000000000000000000000000000000000000000000000000000000000000000000000000000000000000000000000000000000000000000000000000000000000 ||| mk = mk) (hIn : Keeps mk sIn s) : Keeps mk sIn (walkTo k s) := by
  refine Keeps.step hMk ?_ hIn
  unfold walkTo
  try dsimp only
  repeat' first
    | with_reducible refine Keeps.ite ?_ ?_
    | with_reducible exact Keeps.refl
    | with_reducible assumption
    | ((with_reducible apply Keeps.wr); (case d => rfl); (case e => rfl))
    | ((with_reducible apply modFwd_keeps); (case hMk => rfl))
    | intro _
    | split
    | dsimp only
    | (refine Keeps.snd ?_ (by with_reducible assumption))

theorem execReshardStart_keeps (t : Nat) (s : State) : KeepsR 0xd012000100000000000000000000000000000000000000000000000000000000000000000000000000000000000000000000002000000000000000000000000000000000000000000000000000000000000000001867000180800000000800000000000000000000000000000000000000000000000000000000000000000000000000000000000000000000000300080300000000000000000000000000000000000000000000000000000000000000000000000000000000000000000000000000000000000000000000000000000000000000 s (execReshardStart t s) := by
  unfold execReshardStart
  try dsimp only
  repeat' first
    | (with_reducible refine KeepsR.next ?_)
    | (with_reducible refine KeepsR.ite ?_ ?_)
    | with_reducible refine Keeps.ite ?_ ?_
    | with_reducible exact Keeps.refl
    | with_reducible assumption
    | ((with_reducible apply Keeps.wr); (case d => rfl); (case e => rfl))
    | ((with_reducible apply Keeps.put); (case d => rfl); (case e => rfl))
    | ((with_reducible apply Keeps.at); (case e => rfl); (case e2 => rfl))
    | ((with_reducible apply raise_keeps); (case d => rfl); (case hMk => rfl); (case hMk2 => rfl))
    | ((with_reducible apply walkTo_keeps); (case hMk => rfl))
    | intro _
    | split
    | dsimp only
    | (refine Keeps.snd ?_ (by with_reducible assumption))

theorem execReshardAbort_keeps (t : Nat) (s : State) : KeepsR 0x8002000100000000000000000000000000000000000000000000000000000000000000000000000000000000000000000000000000000000000000000000000000000000000000000000000000000000000000000000000000000000000000000000000000000000000000000000000000000000000000000000000000000000000000000000000000000000000200000300000000000000000000000000000000000000000000000000000000000000000000000000000000000000000000000000000000000000000000000000000000000000 s (execReshardAbort t s) := by
  unfold execReshardAbort
  try dsimp only
  repeat' first
    | (with_reducible refine KeepsR.next ?_)
    | (with_reducible refine KeepsR.ite ?_ ?_)
    | with_reducible refine Keeps.ite ?_ ?_
    | with_reducible exact Keeps.refl
    | with_reducible assumption
    | ((with_reducible apply Keeps.wr); (case d => rfl); (case e => rfl))
    | ((with_reducible apply Keeps.put); (case d => rfl); (case e => rfl))
    | ((with_reducible apply Keeps.at); (case e => rfl); (case e2 => rfl))
    | ((with_reducible apply walkTo_keeps); (case hMk => rfl))
    | intro _
    | split
    | dsimp only
    | (refine Keeps.snd ?_ (by with_reducible assumption))

theorem reshardMove_keeps {mk : Nat} {sIn : State} (loc : Nat) (shadow : Bool) (s : State) (hMk : 0x5052002000000000000000000000000000000000000000000000000000000000000000000000000000000000000000000000002000000000000000000000000000000000000000000000000000000000000000001867000180800000000800000000000000000000000000000000000000000000000000000000000000000000000000000000000000503801800000002800000000000000000000000000000000000000000000000000000000000000000000000000000000000000000000000000000000000000000000000000000000000000 ||| mk = mk) (hIn : Keeps mk sIn s) : Keeps mk sIn (reshardMove loc shadow s).2 := by
  refine Keeps.step hMk ?_ hIn
  unfold reshardMove
  try dsimp only
  repeat' first
    | (with_reducible refine Keeps.elim _ ?_ ?_)
    | (with_reducible refine Keeps.elim2 _ ?_ ?_)
    | with_reducible refine Keeps.ite ?_ ?_
    | with_reducible exact Keeps.refl
    | with_reducible assumption
    | ((with_reducible apply Keeps.inc); (case d => rfl); (case e => rfl))
    | (refine Keeps.snd (p := fwtPlace _ _) ?_ (by with_reducible assumption))
    | ((with_reducible apply fwtPlace_keeps); (case hMk => rfl))
    | ((with_reducible apply fwtRemove_keeps); (case hMk => rfl))
    | ((with_reducible apply verAll_keeps); (case hMk => rfl))
    | intro _
    | split
    | dsimp only
    | (refine Keeps.snd ?_ (by with_reducible assumption))

theorem reshardStall_keeps {mk : Nat} {sIn : State} (s : State) (hMk : 0x5010000000000000000000000000000000000000000000000000000000000000000000000000000000000000000000000000002000000000000000000000000000000000000000000000000000000000000000001867000180800000000800000000000000000000000000000000000000000000000000000000000000000000000000000000000000000000000000008100000000000000000000000000000000000000000000000000000000000000000000000000000000000000000000000000000000000000000000000000000000000000 ||| mk = mk) (hIn : Keeps mk sIn s) : Keeps mk sIn (reshardStall s) := by
  refine Keeps.step hMk ?_ hIn
  unfold reshardStall
  try dsimp only
  repeat' first
    | with_reducible refine Keeps.ite ?_ ?_
    | with_reducible exact Keeps.refl
    | with_reducible assumption
    | ((with_reducible apply Keeps.wr); (case d => rfl); (case e => rfl))
    | ((with_reducible apply raise_keeps); (case d => rfl); (case hMk => rfl); (case hMk2 => rfl))
    | intro _
    | split
    | dsimp only
    | (refine Keeps.snd ?_ (by with_reducible assumption))

theorem reshardStep_keeps {mk : Nat} {sIn : State} (s : State) (hMk : 0x505200200000000000000000000000000000000000000000000000000000000000000000000000000000000000000000000000200000000000000000000000000000000000000000000000000000000000000000186700018080000000080000000000000000000000000000000000000000000000000000000000000000000000000000000000000050380180021000eb00000000000000000000000000000000000000000000000000000000000000000000000000000000000000000000000000000000000000000000000000000000000000 ||| mk = mk) (hIn : Keeps mk sIn s) : Keeps mk sIn (reshardStep s) := by
  refine Keeps.step hMk ?_ hIn
  unfold reshardStep
  try dsimp only
  repeat' first
    | with_reducible refine Keeps.ite ?_ ?_
    | with_reducible exact Keeps.refl
    | with_reducible assumption
    | ((with_reducible apply Keeps.wr); (case d => rfl); (case e => rfl))
    | ((with_reducible apply Keeps.put); (case d => rfl); (case e => rfl))
    | ((with_reducible apply modFwd_keeps); (case hMk => rfl))
    | ((with_reducible apply raise_keeps); (case d => rfl); (case hMk => rfl); (case hMk2 => rfl))
    | (refine Keeps.snd (p := reshardMove _ _ _) ?_ (by with_reducible assumption))
    | ((with_reducible apply reshardMove_keeps); (case hMk => rfl))
    | ((with_reducible apply reshardStall_keeps); (case hMk => rfl))
    | ((with_reducible apply walkTo_keeps); (case hMk => rfl))
    | intro _
    | split
    | dsimp only
    | (refine Keeps.snd ?_ (by with_reducible assumption))

theorem execReshardWalk_keeps (meets : TableMeets) (t : Nat) (s : State) : KeepsR 0xd05200210000000000000000000000000000000000000000000000000000000000000000000000000000000000000000000000200000000000000000000000000000000000000000000000000000000000000000186700018080000000080000000000000000000000000000000000000000000000000000000000000000000000000000000000000050380180021000eb00000000000000000000000000000000000000000000000000000000000000000000000000000000000000000000000000000000000000000000000000000000000000 s (execReshardWalk meets t s) := by
  unfold execReshardWalk
  try dsimp only
  repeat' first
    | ((with_reducible apply withMeets_keeps); (case hMk => rfl))
    | (with_reducible refine KeepsR.next ?_)
    | (with_reducible refine KeepsR.ite ?_ ?_)
    | with_reducible refine Keeps.ite ?_ ?_
    | with_reducible exact Keeps.refl
    | with_reducible assumption
    | ((with_reducible apply Keeps.at); (case e => rfl); (case e2 => rfl))
    | ((with_reducible apply reshardStep_keeps); (case hMk => rfl))
    | intro _
    | split
    | dsimp only
    | (refine Keeps.snd ?_ (by with_reducible assumption))

theorem execFwtInsert_keeps (ring : Fin 8) (hd : CmdHead) (entry : FwtEntry) (meets : TableMeets) (t : Nat) (s : State) : KeepsR 0xd07200a5000000000000000000020d100204a0000000008000040011d47c00c17c0000000000000000000000000000000000002000000000000000000000000000000000000000000000000000000000000000001c7f8009e0c00000000c00000000000000000000000000000000000000000000000000000000000000000000003001800000000000103c01800000002800000000000000000000000000000000000000000000000000000000000000000000000000000000000000000000000000000000000000000000000000000000000080 s (execFwtInsert ring hd entry meets t s) := by
  unfold execFwtInsert
  try dsimp only
  repeat' first
    | ((with_reducible apply withData_keeps); (case hMk => rfl))
    | ((with_reducible apply withMeets_keeps); (case hMk => rfl))
    | ((with_reducible apply withOwner_keeps); (case hMk => rfl))
    | (with_reducible refine KeepsR.next ?_)
    | (with_reducible refine KeepsR.ite ?_ ?_)
    | with_reducible refine Keeps.ite ?_ ?_
    | with_reducible exact Keeps.refl
    | with_reducible assumption
    | ((with_reducible apply Keeps.at); (case e => rfl); (case e2 => rfl))
    | ((with_reducible apply cmdDone_keeps); (case hMk => rfl))
    | ((with_reducible apply cmdPlain_keeps); (case hMk => rfl))
    | ((with_reducible apply fwtMirror_keeps); (case hMk => rfl))
    | (refine Keeps.snd (p := fwtNew _ _) ?_ (by with_reducible assumption))
    | ((with_reducible apply fwtNew_keeps); (case hMk => rfl))
    | intro _
    | split
    | dsimp only
    | (refine Keeps.snd ?_ (by with_reducible assumption))

theorem execFwtDelete_keeps (ring : Fin 8) (tag : Nat) (key : Nat) (kind : FwtKind) (ward : Fin 8) (meets : TableMeets) (t : Nat) (s : State) : KeepsR 0xd0720085000000000000000000020d100204a0000000008000040011d47c00c17c0000000000000000000000000000000000002000000000000000000000000000000000000000000000000000000000000000001c7f8009e0c00000000c00000000000000000000000000000000000000000000000000000000000000000000003001800000000000100000800000000800000000000000000000000000000000000000000000000000000000000000000000000000000000000000000000000000000000000000000000000000000000000080 s (execFwtDelete ring tag key kind ward meets t s) := by
  unfold execFwtDelete
  try dsimp only
  repeat' first
    | ((with_reducible apply withMeets_keeps); (case hMk => rfl))
    | ((with_reducible apply withOwner_keeps); (case hMk => rfl))
    | (with_reducible refine KeepsR.next ?_)
    | (with_reducible refine KeepsR.ite ?_ ?_)
    | with_reducible refine Keeps.ite ?_ ?_
    | with_reducible exact Keeps.refl
    | with_reducible assumption
    | ((with_reducible apply Keeps.at); (case e => rfl); (case e2 => rfl))
    | ((with_reducible apply cmdPlain_keeps); (case hMk => rfl))
    | ((with_reducible apply fwtMirror_keeps); (case hMk => rfl))
    | ((with_reducible apply fwtRemove_keeps); (case hMk => rfl))
    | ((with_reducible apply lockTake_keeps); (case hMk => rfl))
    | intro _
    | split
    | dsimp only
    | (refine Keeps.snd ?_ (by with_reducible assumption))

theorem execFwtRead_keeps (ring : Fin 8) (hd : CmdHead) (first : Nat) (count : Nat) (vat : Bool) (t : Nat) (s : State) : KeepsR 0xd0700081000000000000000000020000000020000000000000000011547c00c17c0000000000000000000000000000000000002000000000000000000000000000000000000000000000000000000000000000001c7f8009e0c00000000c00000000000000000000000000000000000000000000000000000000000000000000000000000000000000000000000000000000000000000000000000000000000000000000000000000000000000000000000000000000000000000000000000000000000000000000000000000000000000000080 s (execFwtRead ring hd first count vat t s) := by
  unfold execFwtRead
  try dsimp only
  repeat' first
    | ((with_reducible apply withCmd_keeps); (case hMk => rfl))
    | (with_reducible refine KeepsR.next ?_)
    | (with_reducible refine KeepsR.ite ?_ ?_)
    | with_reducible refine Keeps.ite ?_ ?_
    | with_reducible exact Keeps.refl
    | with_reducible assumption
    | ((with_reducible apply Keeps.at); (case e => rfl); (case e2 => rfl))
    | ((with_reducible apply cmdPlain_keeps); (case hMk => rfl))
    | ((with_reducible apply cmdRows_keeps); (case hMk => rfl))
    | intro _
    | split
    | dsimp only
    | (refine Keeps.snd ?_ (by with_reducible assumption))

theorem fwtHostPut_keeps {mk : Nat} {sIn : State} (loc : Nat) (e : FwtEntry) (s : State) (hMk : 0x50720084000000000000000000020d100204a0000000008000040011d47c00c17c0000000000000000000000000000000000002000000000000000000000000000000000000000000000000000000000000000001867000180800000000800000000000000000000000000000000000000000000000000000000000000000000003001800000000000000000800000000800000000000000000000000000000000000000000000000000000000000000000000000000000000000000000000000000000000000000000000000000000000000080 ||| mk = mk) (hIn : Keeps mk sIn s) : Keeps mk sIn (fwtHostPut loc e s) := by
  refine Keeps.step hMk ?_ hIn
  unfold fwtHostPut
  try dsimp only
  repeat' first
    | with_reducible refine Keeps.ite ?_ ?_
    | with_reducible exact Keeps.refl
    | with_reducible assumption
    | ((with_reducible apply fwtCount_keeps); (case hMk => rfl))
    | ((with_reducible apply fwtMirror_keeps); (case hMk => rfl))
    | ((with_reducible apply fwtPut_keeps); (case hMk => rfl))
    | ((with_reducible apply fwtRemove_keeps); (case hMk => rfl))
    | intro _
    | split
    | dsimp only
    | (refine Keeps.snd ?_ (by with_reducible assumption))

theorem execFwtWrite_keeps (ring : Fin 8) (hd : CmdHead) (bucket : Nat) (ver : Nat) (e0 : FwtEntry) (e1 : FwtEntry) (e2 : FwtEntry) (e3 : FwtEntry) (meets : TableMeets) (t : Nat) (s : State) : KeepsR 0xd0720085000000000000000000020d100204a0000000008000040011d47c00c17c0000000000000000000000000000000000002000000000000000000000000000000000000000000000000000000000000000001c7f8009e0c00000000c00000000000000000000000000000000000000000000000000000000000000000000003001800000000000300000800000000800000000000000000000000000000000000000000000000000000000000000000000000000000000000000000000000000000000000000000000000000000000000080 s (execFwtWrite ring hd bucket ver e0 e1 e2 e3 meets t s) := by
  unfold execFwtWrite
  try dsimp only
  repeat' first
    | ((with_reducible apply withData_keeps); (case hMk => rfl))
    | ((with_reducible apply withMeets_keeps); (case hMk => rfl))
    | ((with_reducible apply withOwner_keeps); (case hMk => rfl))
    | (with_reducible refine KeepsR.next ?_)
    | (with_reducible refine KeepsR.ite ?_ ?_)
    | with_reducible refine Keeps.ite ?_ ?_
    | with_reducible exact Keeps.refl
    | with_reducible assumption
    | ((with_reducible apply Keeps.inc); (case d => rfl); (case e => rfl))
    | ((with_reducible apply Keeps.at); (case e => rfl); (case e2 => rfl))
    | (with_reducible refine Keeps.each _ _ ?_ ?_)
    | ((with_reducible apply cmdPlain_keeps); (case hMk => rfl))
    | ((with_reducible apply fwtHostPut_keeps); (case hMk => rfl))
    | ((with_reducible apply lockTake_keeps); (case hMk => rfl))
    | ((with_reducible apply verUp_keeps); (case hMk => rfl))
    | intro _
    | split
    | dsimp only
    | (refine Keeps.snd ?_ (by with_reducible assumption))

theorem execPathWrite_keeps (ring : Fin 8) (hd : CmdHead) (ix : Nat) (entry : PathEntry) (t : Nat) (s : State) : KeepsR 0xd0720081000000000000000000020000000020000000000000000011547c00c17c0000000000000000000000000000000000002000000000000000000000000000000000000000000000000000000000000000001c7f8009e0c00000000c00000000000000000000000000000000000000000000000000000000000000000000000000000000000000000000000000000000000000000000000000000000000000000000000000000000000000000000000000000000000000000000000000000000000000000000000000000000000000000080 s (execPathWrite ring hd ix entry t s) := by
  unfold execPathWrite
  try dsimp only
  repeat' first
    | ((with_reducible apply withData_keeps); (case hMk => rfl))
    | ((with_reducible apply withOwner_keeps); (case hMk => rfl))
    | (with_reducible refine KeepsR.next ?_)
    | (with_reducible refine KeepsR.ite ?_ ?_)
    | with_reducible refine Keeps.ite ?_ ?_
    | with_reducible exact Keeps.refl
    | with_reducible assumption
    | ((with_reducible apply Keeps.at); (case e => rfl); (case e2 => rfl))
    | ((with_reducible apply cmdPlain_keeps); (case hMk => rfl))
    | ((with_reducible apply modFwd_keeps); (case hMk => rfl))
    | intro _
    | split
    | dsimp only
    | (refine Keeps.snd ?_ (by with_reducible assumption))

theorem execPathRead_keeps (ring : Fin 8) (hd : CmdHead) (first : Nat) (count : Nat) (t : Nat) (s : State) : KeepsR 0xd0700081000000000000000000020000000020000000000000000011547c00c17c0000000000000000000000000000000000002000000000000000000000000000000000000000000000000000000000000000001c7f8009e0c00000000c00000000000000000000000000000000000000000000000000000000000000000000000000000000000000000000000000000000000000000000000000000000000000000000000000000000000000000000000000000000000000000000000000000000000000000000000000000000000000000080 s (execPathRead ring hd first count t s) := by
  unfold execPathRead
  try dsimp only
  repeat' first
    | ((with_reducible apply withCmd_keeps); (case hMk => rfl))
    | (with_reducible refine KeepsR.next ?_)
    | (with_reducible refine KeepsR.ite ?_ ?_)
    | with_reducible refine Keeps.ite ?_ ?_
    | with_reducible exact Keeps.refl
    | with_reducible assumption
    | ((with_reducible apply Keeps.at); (case e => rfl); (case e2 => rfl))
    | ((with_reducible apply cmdPlain_keeps); (case hMk => rfl))
    | ((with_reducible apply cmdRows_keeps); (case hMk => rfl))
    | intro _
    | split
    | dsimp only
    | (refine Keeps.snd ?_ (by with_reducible assumption))

theorem execSaxRead_keeps (ring : Fin 8) (hd : CmdHead) (ward : Nat) (first : Nat) (count : Nat) (t : Nat) (s : State) : KeepsR 0xd0700081000000000000000000020000000020000000000000000011547c00c17c0000000000000000000000000000000000002000000000000000000000000000000000000000000000000000000000000000001c7f8009e0c00000000c00000000000000000000000000000000000000000000000000000000000000000000000000000000000000000000000000000000000000000000000000000000000000000000000000000000000000000000000000000000000000000000000000000000000000000000000000000000000000000080 s (execSaxRead ring hd ward first count t s) := by
  unfold execSaxRead
  try dsimp only
  repeat' first
    | ((with_reducible apply withCmd_keeps); (case hMk => rfl))
    | (with_reducible refine KeepsR.next ?_)
    | (with_reducible refine KeepsR.ite ?_ ?_)
    | with_reducible refine Keeps.ite ?_ ?_
    | with_reducible exact Keeps.refl
    | with_reducible assumption
    | ((with_reducible apply Keeps.at); (case e => rfl); (case e2 => rfl))
    | ((with_reducible apply cmdPlain_keeps); (case hMk => rfl))
    | ((with_reducible apply cmdRows_keeps); (case hMk => rfl))
    | intro _
    | split
    | dsimp only
    | (refine Keeps.snd ?_ (by with_reducible assumption))

theorem ethDown_keeps {mk : Nat} {sIn : State} (p : Nat) (s : State) (hMk : 0x5010400000000000200000000280000000000000000000000000000000000000000000000000000000000000000000000000002000000000000000000000000000000000000000000000000000000000000000000066000100000000000000000000000000000800000000000000000000000000000000000000000000000000000000000000000000000000000000000000000000000000000000000000000000000000000000000000000000000000000000000000000000000000000000000000000000000000000000000000000000000000 ||| mk = mk) (hIn : Keeps mk sIn s) : Keeps mk sIn (ethDown p s) := by
  refine Keeps.step hMk ?_ hIn
  unfold ethDown
  try dsimp only
  repeat' first
    | with_reducible refine Keeps.ite ?_ ?_
    | with_reducible exact Keeps.refl
    | with_reducible assumption
    | ((with_reducible apply Keeps.put); (case d => rfl); (case e => rfl))
    | ((with_reducible apply Keeps.inc); (case d => rfl); (case e => rfl))
    | ((with_reducible apply modPort_keeps); (case hMk => rfl))
    | ((with_reducible apply tsOkView_keeps); (case hMk => rfl))
    | ((with_reducible apply txLeft_keeps); (case hMk => rfl))
    | intro _
    | split
    | dsimp only
    | (refine Keeps.snd ?_ (by with_reducible assumption))

theorem ethIngress_keeps {mk : Nat} {sIn : State} (q : Nat) (f : EthFrame) (s : State) (hMk : 0x2000000000000000000000000000000000000000000000000000000000000000000000000000000000000000000000000000000000000000000000000000000000000000000000000000000000000000000000000000000000000000000000000000000000000000000000000000000000000000000000000000000000000000000000000000000000000000000000000000000000000000000000000000000000000000000000000000000000000000000000000000000000000000000000000000000000000000000000000000000000000 ||| mk = mk) (hIn : Keeps mk sIn s) : Keeps mk sIn (ethIngress q f s) := by
  refine Keeps.step hMk ?_ hIn
  unfold ethIngress
  try dsimp only
  repeat' first
    | with_reducible refine Keeps.ite ?_ ?_
    | with_reducible exact Keeps.refl
    | with_reducible assumption
    | ((with_reducible apply modFwd_keeps); (case hMk => rfl))
    | intro _
    | split
    | dsimp only
    | (refine Keeps.snd ?_ (by with_reducible assumption))

theorem lookupIid_keeps {mk : Nat} {sIn : State} (w : Nat) (iid : Nat) (s : State) (hMk : 0x50120000000000000000000000000000000000000000000000000000000000000000000000000000000000000000000000000020000000000000000000000000000000000000000000000000000000000000000018670001808000000008000000000000000000000000000000000000000000000000000000000000000000000000000000000000000003f0000000040000000000000000000000000000000000000000000000000000000000000000000000000000000000000000000000000000000000000000000000000000000000000000 ||| mk = mk) (hIn : Keeps mk sIn s) : Keeps mk sIn (lookupIid w iid s).2 := by
  refine Keeps.step hMk ?_ hIn
  unfold lookupIid
  try dsimp only
  repeat' first
    | with_reducible refine Keeps.ite ?_ ?_
    | with_reducible exact Keeps.refl
    | with_reducible assumption
    | (refine Keeps.snd (p := fwtLookup _ _ _ _) ?_ (by with_reducible assumption))
    | ((with_reducible apply fwtLookup_keeps); (case hMk => rfl))
    | intro _
    | split
    | dsimp only
    | (refine Keeps.snd ?_ (by with_reducible assumption))

theorem packetToHost_keeps {mk : Nat} {sIn : State} (w : Nat) (why : Nat) (rc : Nat) (asn : Nat) (cls : Nat) (p : DownContent) (nix : Option Nat) (s : State) (hMk : 0x10000000000000000000000000000000000000000000000000000000000000000000000000000000000000000000000000000000000000000000000000000000000000000000000000000000000000000000000000000000000000000000000000000000000000000000000000000000000000000000000000000000000000000000000000000000000000000000000000000000000000000000000000000000000000000000000000000000000000000000000000000000000000000000000000000000000000000000000000000000000000 ||| mk = mk) (hIn : Keeps mk sIn s) : Keeps mk sIn (packetToHost w why rc asn cls p nix s) := by
  refine Keeps.step hMk ?_ hIn
  unfold packetToHost
  try dsimp only
  repeat' first
    | with_reducible refine Keeps.ite ?_ ?_
    | with_reducible exact Keeps.refl
    | with_reducible assumption
    | ((with_reducible apply rxBind_keeps); (case hMk => rfl))
    | intro _
    | split
    | dsimp only
    | (refine Keeps.snd ?_ (by with_reducible assumption))

theorem noPath_keeps {mk : Nat} {sIn : State} (w : Nat) (s : State) (hMk : 0x5010000000000000000000000000000000000000000000000000000000000000000000000000000000000000000000000000002000000000000000000000000000000000000000000000000000000000000000001867000180800000000800000000000000000000000000000000000000000000000000000000000000000000000000002000000000000000000000010000000000000000000000000000000000000000000000000000000000000000000000000000000000000000000000000000000000000000000000000000000000000000 ||| mk = mk) (hIn : Keeps mk sIn s) : Keeps mk sIn (noPath w s) := by
  refine Keeps.step hMk ?_ hIn
  unfold noPath
  try dsimp only
  repeat' first
    | with_reducible refine Keeps.ite ?_ ?_
    | with_reducible exact Keeps.refl
    | with_reducible assumption
    | ((with_reducible apply Keeps.inc); (case d => rfl); (case e => rfl))
    | ((with_reducible apply raiseWard_keeps); (case d => rfl); (case hMk => rfl); (case hMk2 => rfl))
    | intro _
    | split
    | dsimp only
    | (refine Keeps.snd ?_ (by with_reducible assumption))

theorem routeTo_keeps {mk : Nat} {sIn : State} (w : Nat) (d : Nat) (s : State) (hMk : 0x5052002000000000000000000000000000000000000000000000000000000000000000000000000000000000000000000000002000000000000000000000000000000000000000000000000000000000000000001867000180800000000800000000000000000000000000000000000000000000000000000000000000000000000000002000000200000000000000010000000000000000000000000000000000000000000000000000000000000000000000000000000000000000000000000000000000000000000000000000000000000000 ||| mk = mk) (hIn : Keeps mk sIn s) : Keeps mk sIn (routeTo w d s).2 := by
  refine Keeps.step hMk ?_ hIn
  unfold routeTo
  try dsimp only
  repeat' first
    | with_reducible refine Keeps.ite ?_ ?_
    | with_reducible exact Keeps.refl
    | with_reducible assumption
    | ((with_reducible apply Keeps.inc); (case d => rfl); (case e => rfl))
    | ((with_reducible apply Keeps.modNode); (case e => rfl); (case e2 => rfl))
    | ((with_reducible apply modFwd_keeps); (case hMk => rfl))
    | ((with_reducible apply noPath_keeps); (case hMk => rfl))
    | intro _
    | split
    | dsimp only
    | (refine Keeps.snd ?_ (by with_reducible assumption))

theorem outerHdr_keeps {mk : Nat} {sIn : State} (w : Nat) (d : Nat) (hops : List Nat) (s : State) (hMk : 0x400000000000000000000000000000000000000000000000000000000000000000000000000000000000000000000000000000000000000000000000000000000000000000000000000000000000000000000000000000000000000000000000000000000000000000000000000000000000000000000000000000000000000000000000000000000000000000000000000000000000000000000000000000000000000000000000000000000000000000000000000000000000000000000000000000000000000000000000000000000 ||| mk = mk) (hIn : Keeps mk sIn s) : Keeps mk sIn (outerHdr w d hops s).2 := by
  refine Keeps.step hMk ?_ hIn
  unfold outerHdr
  try dsimp only
  repeat' first
    | with_reducible refine Keeps.ite ?_ ?_
    | with_reducible exact Keeps.refl
    | with_reducible assumption
    | ((with_reducible apply Keeps.took); (case e => rfl))
    | intro _
    | split
    | dsimp only
    | (refine Keeps.snd ?_ (by with_reducible assumption))

theorem framesMake_keeps {mk : Nat} {sIn : State} (f : QFrame) (l : List (Nat × Nat)) (s : State) (hMk : 0x400000000000000000000000000000000000000000000000000000000000000000000000000000000000000000000000000000000000000000000000000000000000000000000000000000000000000000000000000000000000000000000000000000000000000000000000000000000000000000000000000000000000000000000000000000000000000000000000000000000000000000000000000000000000000000000000000000000000000000000000000000000000000000000000000000000000000000000000000000000000 ||| mk = mk) (hIn : Keeps mk sIn s) :
    Keeps mk sIn (framesMake f l s).2 := by
  induction l generalizing f s with
  | nil => exact hIn
  | cons a l ih =>
    exact ih { f with curds := f.curds.drop (curdsOf a.1), body := f.body.drop a.2 } _
      (newFrame_keeps { f with len := a.1, more := !l.isEmpty, curds := f.curds.take (curdsOf a.1), body := f.body.take a.2 } _
        (mask_sub (by decide) hMk) hIn)

theorem packetCut_keeps {mk : Nat} {sIn : State} (p : Packet) (limit : Nat) (ovh : Nat) (hc : Nat) (hu : Nat) (body : Nat) (s : State) (hMk : 0x501040040000000000000000000000000000000000000000000000000000000000000000000000000000000000000000000000200000000000000000000000000000000000000000000000000000000000000000186700018080000000080000000000000000000000000000000000000000000000000000000000000000e000003301810800000001000000000000000000000000000000000000000000000000000000000000000000000000000000000000000000000000000000000000000000000000000000000000000000000000000000 ||| mk = mk) (hIn : Keeps mk sIn s) : Keeps mk sIn (packetCut p limit ovh hc hu body s).2 := by
  refine Keeps.step hMk ?_ hIn
  unfold packetCut
  try dsimp only
  repeat' first
    | with_reducible refine Keeps.ite ?_ ?_
    | with_reducible exact Keeps.refl
    | with_reducible assumption
    | ((with_reducible apply Keeps.inc); (case d => rfl); (case e => rfl))
    | ((with_reducible apply Keeps.add); (case d => rfl); (case e => rfl))
    | ((with_reducible apply Keeps.whey); (case e => rfl); (case e2 => rfl))
    | ((with_reducible apply downEnqueue_keeps); (case hMk => rfl))
    | (refine Keeps.snd (p := framesMake _ _ _) ?_ (by with_reducible assumption))
    | ((with_reducible apply framesMake_keeps); (case hMk => rfl))
    | (refine Keeps.snd (p := poolTake _ _ _) ?_ (by with_reducible assumption))
    | ((with_reducible apply poolTake_keeps); (case hMk => rfl))
    | intro _
    | split
    | dsimp only
    | (refine Keeps.snd ?_ (by with_reducible assumption))

theorem downWhey_keeps {mk : Nat} {sIn : State} (code : Nat) (s : State) (hMk : 0x2000000200000000000000000000000000000000000000000000000000000000000000000000000000000000000000000000000000000000000000000000000000000000000000000000000000000000000000000000 ||| mk = mk) (hIn : Keeps mk sIn s) : Keeps mk sIn (downWhey code s).2 := by
  refine Keeps.step hMk ?_ hIn
  unfold downWhey
  try dsimp only
  repeat' first
    | with_reducible refine Keeps.ite ?_ ?_
    | with_reducible exact Keeps.refl
    | with_reducible assumption
    | ((with_reducible apply Keeps.whey); (case e => rfl); (case e2 => rfl))
    | intro _
    | split
    | dsimp only
    | (refine Keeps.snd ?_ (by with_reducible assumption))

theorem downMiss_keeps {mk : Nat} {sIn : State} (w : Nat) (d : DownItem) (cls : Nat) (s : State) (hMk : 0x10000000000000000000000000000000000000000000000000000000000000000000000000000000000000000000000000000000000000000000000000000000000000000000000000000000000000000000000000000000000000000000000000000000000000000000000000000000000000000000000000000000002000000200000000000400000000000000000000000000000000000000000000000000000000000000000000000000000000000000000000000000000000000000000000000000000000000000000000000000000000 ||| mk = mk) (hIn : Keeps mk sIn s) : Keeps mk sIn (downMiss w d cls s).2 := by
  refine Keeps.step hMk ?_ hIn
  unfold downMiss
  try dsimp only
  repeat' first
    | with_reducible refine Keeps.ite ?_ ?_
    | with_reducible exact Keeps.refl
    | with_reducible assumption
    | ((with_reducible apply Keeps.inc); (case d => rfl); (case e => rfl))
    | (refine Keeps.snd (p := downWhey _ _) ?_ (by with_reducible assumption))
    | ((with_reducible apply downWhey_keeps); (case hMk => rfl))
    | ((with_reducible apply packetToHost_keeps); (case hMk => rfl))
    | intro _
    | split
    | dsimp only
    | (refine Keeps.snd ?_ (by with_reducible assumption))

theorem downNode_keeps {mk : Nat} {sIn : State} (w : Nat) (n : Nat) (cls : Nat) (p : DownContent) (s : State) (hMk : 0x505240240000000000000000000000000000000000000000000000000000000000000000000000000000000000000000000000200000000000000000000000000000000000000000000000000000000000000000186700018080000000080000000000000000000000000000000000000000000000000000000000000000e000003301812800000201000000000000010000000000000000000000000000000000000000000000000000000000000000000000000000000000000000000000000000000000000000000000000000000000000000 ||| mk = mk) (hIn : Keeps mk sIn s) : Keeps mk sIn (downNode w n cls p s).2 := by
  refine Keeps.step hMk ?_ hIn
  unfold downNode
  try dsimp only
  repeat' first
    | with_reducible refine Keeps.ite ?_ ?_
    | with_reducible exact Keeps.refl
    | with_reducible assumption
    | (refine Keeps.snd (p := downWhey _ _) ?_ (by with_reducible assumption))
    | ((with_reducible apply downWhey_keeps); (case hMk => rfl))
    | (refine Keeps.snd (p := outerHdr _ _ _ _) ?_ (by with_reducible assumption))
    | ((with_reducible apply outerHdr_keeps); (case hMk => rfl))
    | (refine Keeps.snd (p := packetCut _ _ _ _ _ _ _) ?_ (by with_reducible assumption))
    | ((with_reducible apply packetCut_keeps); (case hMk => rfl))
    | (refine Keeps.snd (p := routeTo _ _ _) ?_ (by with_reducible assumption))
    | ((with_reducible apply routeTo_keeps); (case hMk => rfl))
    | intro _
    | split
    | dsimp only
    | (refine Keeps.snd ?_ (by with_reducible assumption))

theorem downUnicast_keeps {mk : Nat} {sIn : State} (d : DownItem) (poisoned : Option (Fin 16)) (s : State) (hMk : 0x507240a4000000000000000000020000000020000000000000000011547c00c17c000000000000000000000000000000000000200000000000000000000000000000000000000000000000000000000000000000186700018080000000080000000000000000000000000000000000000000000000000000000000000000e0000033018128000006010003f0000000050000000000000000000000000000000000000000000000000000000000000000000000000000000000000000000000000000000000000000000000000000000000000080 ||| mk = mk) (hIn : Keeps mk sIn s) : Keeps mk sIn (downUnicast d poisoned s).2 := by
  refine Keeps.step hMk ?_ hIn
  unfold downUnicast
  try dsimp only
  repeat' first
    | with_reducible refine Keeps.ite ?_ ?_
    | with_reducible exact Keeps.refl
    | with_reducible assumption
    | ((with_reducible apply Keeps.inc); (case d => rfl); (case e => rfl))
    | (refine Keeps.snd (p := downMiss _ _ _ _) ?_ (by with_reducible assumption))
    | ((with_reducible apply downMiss_keeps); (case hMk => rfl))
    | (refine Keeps.snd (p := downNode _ _ _ _ _) ?_ (by with_reducible assumption))
    | ((with_reducible apply downNode_keeps); (case hMk => rfl))
    | (refine Keeps.snd (p := downWhey _ _) ?_ (by with_reducible assumption))
    | ((with_reducible apply downWhey_keeps); (case hMk => rfl))
    | ((with_reducible apply fenceNode_keeps); (case hMk => rfl))
    | (refine Keeps.snd (p := lookupIid _ _ _) ?_ (by with_reducible assumption))
    | ((with_reducible apply lookupIid_keeps); (case hMk => rfl))
    | ((with_reducible apply packetToHost_keeps); (case hMk => rfl))
    | intro _
    | split
    | dsimp only
    | (refine Keeps.snd ?_ (by with_reducible assumption))

theorem downBcast_keeps {mk : Nat} {sIn : State} (w : Nat) (d : DownItem) (s : State) (hMk : 0x501040040000000000000000000000000000000000000000000000000000000000000000000000000000000000000000000000200000000000000000000000000000000000000000000000000000000000000000186700018080000000080000000000000000000000000000000000000000000000000000000000000000e000003301810800000001000000000000000000000000000000000000000000000000000000000000000000000000000000000000000000000000000000000000000000000000000000000000000000000000000000 ||| mk = mk) (hIn : Keeps mk sIn s) : Keeps mk sIn (downBcast w d s).2 := by
  refine Keeps.step hMk ?_ hIn
  unfold downBcast
  try dsimp only
  repeat' first
    | with_reducible refine Keeps.ite ?_ ?_
    | with_reducible exact Keeps.refl
    | with_reducible assumption
    | (refine Keeps.snd (p := packetCut _ _ _ _ _ _ _) ?_ (by with_reducible assumption))
    | ((with_reducible apply packetCut_keeps); (case hMk => rfl))
    | intro _
    | split
    | dsimp only
    | (refine Keeps.snd ?_ (by with_reducible assumption))

theorem aliasLearn_keeps {mk : Nat} {sIn : State} (w : Nat) (n : Nat) (a : Ip) (s : State) (hMk : 0x507200a4000000000000000000020d100204a0000000008000040011d47c00c17c0000000000000000000000000000000000002000000000000000000000000000000000000000000000000000000000000000001867000180800000000800000000000000000000000000000000000000000000000000000000000000000000003001800000000000103c01800000002800000000000000000000000000000000000000000000000000000000000000000000000000000000000000000000000000000000000000000000000000000000000080 ||| mk = mk) (hIn : Keeps mk sIn s) : Keeps mk sIn (aliasLearn w n a s) := by
  refine Keeps.step hMk ?_ hIn
  unfold aliasLearn
  try dsimp only
  repeat' first
    | with_reducible refine Keeps.ite ?_ ?_
    | with_reducible exact Keeps.refl
    | with_reducible assumption
    | ((with_reducible apply fwtMirror_keeps); (case hMk => rfl))
    | (refine Keeps.snd (p := fwtNew _ _) ?_ (by with_reducible assumption))
    | ((with_reducible apply fwtNew_keeps); (case hMk => rfl))
    | ((with_reducible apply fwtPut_keeps); (case hMk => rfl))
    | intro _
    | split
    | dsimp only
    | (refine Keeps.snd ?_ (by with_reducible assumption))

theorem epochUp_keeps {mk : Nat} {sIn : State} (w : Nat) (s : State) (hMk : 0x400000000000000000000000000000000000000000000000000000000000000000000000000000000000000000000000000000000000000000000000000000000000000000000000000000000000000 ||| mk = mk) (hIn : Keeps mk sIn s) : Keeps mk sIn (epochUp w s) := by
  refine Keeps.step hMk ?_ hIn
  unfold epochUp
  try dsimp only
  repeat' first
    | with_reducible refine Keeps.ite ?_ ?_
    | with_reducible exact Keeps.refl
    | with_reducible assumption
    | ((with_reducible apply Keeps.inc); (case d => rfl); (case e => rfl))
    | intro _
    | split
    | dsimp only
    | (refine Keeps.snd ?_ (by with_reducible assumption))

theorem parentSet_keeps {mk : Nat} {sIn : State} (n : Nat) (d : Dao) (s : State) (hMk : 0x50520020000000000000000000000000000000000000000000000000000000000000000000000000000000000000000000000020000000000000000000000000000000000000000000000000000000000000000018670001808000000008000000000000000000000000000000000000000000000000000000000000000000000000000004000001000003f0000000040000000000000000000000000000000000000000000000000000000000000000000000000000000000000000000000000000000000000000000000000000000000000000 ||| mk = mk) (hIn : Keeps mk sIn s) : Keeps mk sIn (parentSet n d s) := by
  refine Keeps.step hMk ?_ hIn
  unfold parentSet
  try dsimp only
  repeat' first
    | with_reducible refine Keeps.ite ?_ ?_
    | with_reducible exact Keeps.refl
    | with_reducible assumption
    | ((with_reducible apply Keeps.inc); (case d => rfl); (case e => rfl))
    | ((with_reducible apply Keeps.modNode); (case e => rfl); (case e2 => rfl))
    | ((with_reducible apply epochUp_keeps); (case hMk => rfl))
    | (refine Keeps.snd (p := resolveIid _ _ _) ?_ (by with_reducible assumption))
    | ((with_reducible apply resolveIid_keeps); (case hMk => rfl))
    | intro _
    | split
    | dsimp only
    | (refine Keeps.snd ?_ (by with_reducible assumption))

theorem daoParse_keeps {mk : Nat} {sIn : State} (src : Ip) (d : Dao) (s : State) (hMk : 0x507200a4000000000000000000020d100204a0000000008000040011d47c00c17c0000000000000000000000000000000000002000000000000000000000000000000000000000000000000000000000000000001867000180800000000800000000000000000000000000000000000000000000000000000000000000000000003001800400000180103ff1800000042800000000000000000000000000000000000000000000000000000000000000000000000000000000000000000000000000000000000000000000000000000000000080 ||| mk = mk) (hIn : Keeps mk sIn s) : Keeps mk sIn (daoParse src d s) := by
  refine Keeps.step hMk ?_ hIn
  unfold daoParse
  try dsimp only
  repeat' first
    | with_reducible refine Keeps.ite ?_ ?_
    | with_reducible exact Keeps.refl
    | with_reducible assumption
    | ((with_reducible apply Keeps.inc); (case d => rfl); (case e => rfl))
    | (with_reducible refine Keeps.each _ _ ?_ ?_)
    | ((with_reducible apply aliasLearn_keeps); (case hMk => rfl))
    | ((with_reducible apply parentSet_keeps); (case hMk => rfl))
    | (refine Keeps.snd (p := resolveIid _ _ _) ?_ (by with_reducible assumption))
    | ((with_reducible apply resolveIid_keeps); (case hMk => rfl))
    | intro _
    | split
    | dsimp only
    | (refine Keeps.snd ?_ (by with_reducible assumption))

theorem srcOk_keeps {mk : Nat} {sIn : State} (w : Nat) (a : Ip) (s : State) (hMk : 0x50120000000000000000000000000000000000000000000000000000000000000000000000000000000000000000000000000020000000000000000000000000000000000000000000000000000000000000000018670001808000000008000000000000000000000000000000000000000000000000000000000000000000000000000000000000000003f0000000040000000000000000000000000000000000000000000000000000000000000000000000000000000000000000000000000000000000000000000000000000000000000000 ||| mk = mk) (hIn : Keeps mk sIn s) : Keeps mk sIn (srcOk w a s).2 := by
  refine Keeps.step hMk ?_ hIn
  unfold srcOk
  try dsimp only
  repeat' first
    | with_reducible refine Keeps.ite ?_ ?_
    | with_reducible exact Keeps.refl
    | with_reducible assumption
    | (refine Keeps.snd (p := resolveIid _ _ _) ?_ (by with_reducible assumption))
    | ((with_reducible apply resolveIid_keeps); (case hMk => rfl))
    | intro _
    | split
    | dsimp only
    | (refine Keeps.snd ?_ (by with_reducible assumption))

theorem upHandle_keeps {mk : Nat} {sIn : State} (d : Delivered) (p : UpPkt) (fl : Nat) (cu : List Nat) (s : State) (hMk : 0x507240a4000000000000000000020d100204a0000000008000040011d47c00c17c00000000000000000000000000000000000020000000000000000000000000000000000000000000000000000000000000000018670001808000000008000000000000000000000000000000000000000000000000000000000e000040e000003201800400000980103ff1800000042800000000000000000000000000000000000000000000000000000000000000000000000000000000000000000000000000000000000000000000000000000000000080 ||| mk = mk) (hIn : Keeps mk sIn s) : Keeps mk sIn (upHandle d p fl cu s) := by
  refine Keeps.step hMk ?_ hIn
  unfold upHandle
  try dsimp only
  repeat' first
    | with_reducible refine Keeps.ite ?_ ?_
    | with_reducible exact Keeps.refl
    | with_reducible assumption
    | ((with_reducible apply Keeps.inc); (case d => rfl); (case e => rfl))
    | ((with_reducible apply Keeps.whey); (case e => rfl); (case e2 => rfl))
    | ((with_reducible apply daoParse_keeps); (case hMk => rfl))
    | (refine Keeps.snd (p := gatewayPorts _) ?_ (by with_reducible assumption))
    | ((with_reducible apply gatewayPorts_keeps); (case hMk => rfl))
    | ((with_reducible apply modFwd_keeps); (case hMk => rfl))
    | ((with_reducible apply packetToHost_keeps); (case hMk => rfl))
    | ((with_reducible apply poolGive_keeps); (case hMk => rfl))
    | (refine Keeps.snd (p := srcOk _ _ _) ?_ (by with_reducible assumption))
    | ((with_reducible apply srcOk_keeps); (case hMk => rfl))
    | ((with_reducible apply upEnqueue_keeps); (case hMk => rfl))
    | (refine Keeps.snd (p := wardMark _ _ _ _ _) ?_ (by with_reducible assumption))
    | ((with_reducible apply wardMark_keeps); (case hMk => rfl))
    | intro _
    | split
    | dsimp only
    | (refine Keeps.snd ?_ (by with_reducible assumption))

theorem upDecompress_keeps {mk : Nat} {sIn : State} (d : Delivered) (c : UpContent) (fl : Nat) (cu : List Nat) (s : State) (hMk : 0x507240a4000000000000000000020d100204a0000000008000040011d47c00c17c00000000000000000000000000000000000020000000000000000000000000000000000000000000000000000000000000000018670001808000000008000000000000000000000000000000000000000000000000000000000e000040e000003201800400000980903ff1800000042800000000000000000000000000000000000000000000000000000000000000000000000000000000000000000000000000000000000000000000000000000000000080 ||| mk = mk) (hIn : Keeps mk sIn s) : Keeps mk sIn (upDecompress d c fl cu s) := by
  refine Keeps.step hMk ?_ hIn
  unfold upDecompress
  try dsimp only
  repeat' first
    | with_reducible refine Keeps.ite ?_ ?_
    | with_reducible exact Keeps.refl
    | with_reducible assumption
    | ((with_reducible apply Keeps.inc); (case d => rfl); (case e => rfl))
    | ((with_reducible apply Keeps.whey); (case e => rfl); (case e2 => rfl))
    | ((with_reducible apply poolGive_keeps); (case hMk => rfl))
    | ((with_reducible apply upHandle_keeps); (case hMk => rfl))
    | intro _
    | split
    | dsimp only
    | (refine Keeps.snd ?_ (by with_reducible assumption))

theorem setReasm_keeps {mk : Nat} {sIn : State} (l : List Reasm) (s : State) (hMk : 0x400000000000000000000000000000000000000000000000000000000000000000000000000000000000000000000000000000000000000000000000000000000000000000000000000000000000000000000000000000000000000000000000000000000000000000000000000000000000000000000000000000000000000000000000000000000000400000000000000000000000000000000000000000000000000000000000000000000000000000000000000000000000000000000000000000000000000000000000000000000000 ||| mk = mk) (hIn : Keeps mk sIn s) : Keeps mk sIn (setReasm l s) := by
  refine Keeps.step hMk ?_ hIn
  unfold setReasm
  try dsimp only
  repeat' first
    | with_reducible refine Keeps.ite ?_ ?_
    | with_reducible exact Keeps.refl
    | with_reducible assumption
    | ((with_reducible apply Keeps.wr); (case d => rfl); (case e => rfl))
    | intro _
    | split
    | dsimp only
    | (refine Keeps.snd ?_ (by with_reducible assumption))
    | ((with_reducible apply Keeps.set_qms); (case e => rfl))

theorem reasmDrop_keeps {mk : Nat} {sIn : State} (x : Reasm) (code : Nat) (s : State) (hMk : 0x400000000000000000000000000000000000000000000000000000000000000000000000000000000000000000000000000000000000000000000000000000000000000000000000000000000000000000000000000000000000000000000000000000000000000000000000000000000000000000000000000000002000001200800000000000000000400000000000000000000000000000000000000000000000000000000000000000000000000000000000000000000000000000000000000000000000000000000000000000000000 ||| mk = mk) (hIn : Keeps mk sIn s) : Keeps mk sIn (reasmDrop x code s) := by
  refine Keeps.step hMk ?_ hIn
  unfold reasmDrop
  try dsimp only
  repeat' first
    | with_reducible refine Keeps.ite ?_ ?_
    | with_reducible exact Keeps.refl
    | with_reducible assumption
    | ((with_reducible apply Keeps.wheyN); (case e => rfl); (case e2 => rfl))
    | ((with_reducible apply poolGive_keeps); (case hMk => rfl))
    | ((with_reducible apply setReasm_keeps); (case hMk => rfl))
    | intro _
    | split
    | dsimp only
    | (refine Keeps.snd ?_ (by with_reducible assumption))

theorem reasmAdd_keeps {mk : Nat} {sIn : State} (d : Delivered) (c : UpContent) (g : Frag) (x : Reasm) (cu : List Nat) (s : State) (hMk : 0x507240a4000000000000000000020d100204a0000000008000040011d47c00c17c00000000000000000000000000000000000020000000000000000000000000000000000000000000000000000000000000000018670001808000000008000000000000000000000000000000000000000000000000000000000e000040e000003301810400000984903ff1c00000042800000000000000000000000000000000000000000000000000000000000000000000000000000000000000000000000000000000000000000000000000000000000080 ||| mk = mk) (hIn : Keeps mk sIn s) : Keeps mk sIn (reasmAdd d c g x cu s) := by
  refine Keeps.step hMk ?_ hIn
  unfold reasmAdd
  try dsimp only
  repeat' first
    | with_reducible refine Keeps.ite ?_ ?_
    | with_reducible exact Keeps.refl
    | with_reducible assumption
    | ((with_reducible apply Keeps.inc); (case d => rfl); (case e => rfl))
    | ((with_reducible apply Keeps.whey); (case e => rfl); (case e2 => rfl))
    | ((with_reducible apply poolGive_keeps); (case hMk => rfl))
    | (refine Keeps.snd (p := poolTake _ _ _) ?_ (by with_reducible assumption))
    | ((with_reducible apply poolTake_keeps); (case hMk => rfl))
    | ((with_reducible apply setReasm_keeps); (case hMk => rfl))
    | ((with_reducible apply upDecompress_keeps); (case hMk => rfl))
    | intro _
    | split
    | dsimp only
    | (refine Keeps.snd ?_ (by with_reducible assumption))

theorem reasmFragment_keeps {mk : Nat} {sIn : State} (d : Delivered) (c : UpContent) (g : Frag) (cu : List Nat) (s : State) (hMk : 0x507240a4000000000000000000020d100204a0000000008000040011d47c00c17c00000000000000000000000000000000000020000000000000000000000000000000000000000000000000000000000000000018670001808000000008000000000000000000000000000000000000000000000000000000000e000040e0000033018104000009f6903ff1c00000062800000000000000000000000000000000000000000000000000000000000000000000000000000000000000000000000000000000000000000000000000000000000080 ||| mk = mk) (hIn : Keeps mk sIn s) : Keeps mk sIn (reasmFragment d c g cu s) := by
  refine Keeps.step hMk ?_ hIn
  unfold reasmFragment
  try dsimp only
  repeat' first
    | with_reducible refine Keeps.ite ?_ ?_
    | with_reducible exact Keeps.refl
    | with_reducible assumption
    | ((with_reducible apply Keeps.inc); (case d => rfl); (case e => rfl))
    | ((with_reducible apply Keeps.whey); (case e => rfl); (case e2 => rfl))
    | ((with_reducible apply poolGive_keeps); (case hMk => rfl))
    | ((with_reducible apply raise_keeps); (case d => rfl); (case hMk => rfl); (case hMk2 => rfl))
    | ((with_reducible apply reasmAdd_keeps); (case hMk => rfl))
    | ((with_reducible apply reasmDrop_keeps); (case hMk => rfl))
    | intro _
    | split
    | dsimp only
    | (refine Keeps.snd ?_ (by with_reducible assumption))

theorem execUplinkPipeline_keeps (content : UpContent) (meets : TableMeets) (t : Nat) (s : State) : KeepsR 0xd07240a5000000000000000000020d100204a0000000008000040011d47c00c17c00000000000000000000000000000000000020000000000000000000000000000000000000000000000000000000000000000018670001808000000008000000000000000000000000000000000000000000000000000000000e000040e0000033018104000009f6903ff1c00000062800000000000000000000000000000000000000000000000000000000000000000000000000000000000000000000000000000000000000000000000000000000000080 s (execUplinkPipeline content meets t s) := by
  unfold execUplinkPipeline
  try dsimp only
  repeat' first
    | ((with_reducible apply withMeets_keeps); (case hMk => rfl))
    | (with_reducible refine KeepsR.next ?_)
    | (with_reducible refine KeepsR.ite ?_ ?_)
    | with_reducible refine Keeps.ite ?_ ?_
    | with_reducible exact Keeps.refl
    | with_reducible assumption
    | ((with_reducible apply Keeps.at); (case e => rfl); (case e2 => rfl))
    | ((with_reducible apply Keeps.whey); (case e => rfl); (case e2 => rfl))
    | (refine Keeps.snd (p := poolTake _ _ _) ?_ (by with_reducible assumption))
    | ((with_reducible apply poolTake_keeps); (case hMk => rfl))
    | ((with_reducible apply reasmFragment_keeps); (case hMk => rfl))
    | ((with_reducible apply upDecompress_keeps); (case hMk => rfl))
    | intro _
    | split
    | dsimp only
    | (refine Keeps.snd ?_ (by with_reducible assumption))
    | ((with_reducible apply Keeps.set_qms); (case e => rfl))

theorem txPacketDone_keeps {mk : Nat} {sIn : State} (ring : Option Nat) (id : Nat) (dropped : Option Nat) (s : State) (hMk : 0x5010000000000000000000000000000000000000000000000000000000000000000000000000000000000000000000000000002000000000000000000000000000000000000000000000000000000000000000000066000100000000000000000000000000000000000000000000000000000000000000000000000000000000000000000000000000000000000000000000000000000000000000000000000000000000000000000000000000000000000000000000000000000000000000000000000000000000000000000000000000000000 ||| mk = mk) (hIn : Keeps mk sIn s) : Keeps mk sIn (txPacketDone ring id dropped s) := by
  refine Keeps.step hMk ?_ hIn
  unfold txPacketDone
  try dsimp only
  repeat' first
    | with_reducible refine Keeps.ite ?_ ?_
    | with_reducible exact Keeps.refl
    | with_reducible assumption
    | ((with_reducible apply setTaken_keeps); (case hMk => rfl))
    | ((with_reducible apply txFlush_keeps); (case hMk => rfl))
    | intro _
    | split
    | dsimp only
    | (refine Keeps.snd ?_ (by with_reducible assumption))

theorem execDownlinkPacket_keeps (poisoned : Option (Fin 16)) (meets : TableMeets) (t : Nat) (s : State) : KeepsR 0xd07240a5000000000000000000020000000020000000000000000011547c00c17c000000000000000000000000000000000000200000000000000000000000000000000000000000000000000000000000000000186700018080000000080000000000000000000000000000000000000000000000000000000000000000e0000033018128000006010003f0000000050000000000000000000000000000000000000000000000000000000000000000000000000000000000000000000000000000000000000000000000000000000000000080 s (execDownlinkPacket poisoned meets t s) := by
  unfold execDownlinkPacket
  try dsimp only
  repeat' first
    | ((with_reducible apply withMeets_keeps); (case hMk => rfl))
    | (with_reducible refine KeepsR.next ?_)
    | (with_reducible refine KeepsR.ite ?_ ?_)
    | with_reducible refine Keeps.ite ?_ ?_
    | with_reducible exact Keeps.refl
    | with_reducible assumption
    | ((with_reducible apply Keeps.at); (case e => rfl); (case e2 => rfl))
    | (refine Keeps.snd (p := downBcast _ _ _) ?_ (by with_reducible assumption))
    | ((with_reducible apply downBcast_keeps); (case hMk => rfl))
    | (refine Keeps.snd (p := downUnicast _ _ _) ?_ (by with_reducible assumption))
    | ((with_reducible apply downUnicast_keeps); (case hMk => rfl))
    | ((with_reducible apply modFwd_keeps); (case hMk => rfl))
    | ((with_reducible apply txPacketDone_keeps); (case hMk => rfl))
    | intro _
    | split
    | dsimp only
    | (refine Keeps.snd ?_ (by with_reducible assumption))

theorem execReasmTimeout_keeps (t : Nat) (s : State) : KeepsR 0x8000400100000000000000000000000000000000000000000000000000000000000000000000000000000000000000000000000000000000000000000000000000000000000000000000000000000000000000000000000000000000000000000000000000000000000000000000000000000000000000000000000000002000001200800000000008000000400000000000000000000000000000000000000000000000000000000000000000000000000000000000000000000000000000000000000000000000000000000000000000000000 s (execReasmTimeout t s) := by
  unfold execReasmTimeout
  try dsimp only
  repeat' first
    | (with_reducible refine KeepsR.next ?_)
    | (with_reducible refine KeepsR.ite ?_ ?_)
    | with_reducible refine Keeps.ite ?_ ?_
    | with_reducible exact Keeps.refl
    | with_reducible assumption
    | ((with_reducible apply Keeps.inc); (case d => rfl); (case e => rfl))
    | ((with_reducible apply Keeps.at); (case e => rfl); (case e2 => rfl))
    | ((with_reducible apply reasmDrop_keeps); (case hMk => rfl))
    | intro _
    | split
    | dsimp only
    | (refine Keeps.snd ?_ (by with_reducible assumption))

theorem saxSet_keeps {mk : Nat} {sIn : State} (w : Nat) (a : Nat) (n : Nat) (s : State) (hMk : 0x80000000000000000000000000000000000000000000000000000000000000000000000000000000000000000000000000000000000000000000000000000000000000000000000000000000000000000000000000000000000000000000000000000000000000000000000000000000000000000000000000000000000000000000000000000000000000000000000000000000000000000000000000000000000000000000000000000000000000000000000000000000000000000000000000000000000000000000000000000000000 ||| mk = mk) (hIn : Keeps mk sIn s) : Keeps mk sIn (saxSet w a n s) := by
  refine Keeps.step hMk ?_ hIn
  unfold saxSet
  try dsimp only
  repeat' first
    | with_reducible refine Keeps.ite ?_ ?_
    | with_reducible exact Keeps.refl
    | with_reducible assumption
    | ((with_reducible apply modMac_keeps); (case hMk => rfl))
    | intro _
    | split
    | dsimp only
    | (refine Keeps.snd ?_ (by with_reducible assumption))

theorem saxTake_keeps {mk : Nat} {sIn : State} (w : Nat) (a : Nat) (n : Nat) (s : State) (hMk : 0x80000000000000000000000000000000000000000000000000000000000000000000000000000000000000000000000000000000000000000000000000000000000000000000000000000000000000000000000000000000000000000000000000000000000000000000000000000000000000000000000000000000000000000000000000000000000000000000000000000000000000000000000000000000000000000000000000000000000000000000000080000000000000000000000000000000000000000000000000000000000 ||| mk = mk) (hIn : Keeps mk sIn s) : Keeps mk sIn (saxTake w a n s) := by
  refine Keeps.step hMk ?_ hIn
  unfold saxTake
  try dsimp only
  repeat' first
    | with_reducible refine Keeps.ite ?_ ?_
    | with_reducible exact Keeps.refl
    | with_reducible assumption
    | ((with_reducible apply Keeps.inc); (case d => rfl); (case e => rfl))
    | ((with_reducible apply saxSet_keeps); (case hMk => rfl))
    | intro _
    | split
    | dsimp only
    | (refine Keeps.snd ?_ (by with_reducible assumption))

theorem saxGive_keeps {mk : Nat} {sIn : State} (n : Nat) (s : State) (hMk : 0x80000000000000000000000000000000000000000000000000000000000000000000000000000000000000000000000000000000000000000000000000000000000000000000000000000000000000000000000000000000000000000000000000000000000000000000000000000000000000000000000000000000000000000000000000000000000000000000000000000000000000000000000000000000000000000000000000000000000000000000000080000000000000000000000000000000000000000000000000000000000 ||| mk = mk) (hIn : Keeps mk sIn s) : Keeps mk sIn (saxGive n s) := by
  refine Keeps.step hMk ?_ hIn
  unfold saxGive
  try dsimp only
  repeat' first
    | with_reducible refine Keeps.ite ?_ ?_
    | with_reducible exact Keeps.refl
    | with_reducible assumption
    | ((with_reducible apply Keeps.sub); (case d => rfl); (case e => rfl))
    | ((with_reducible apply saxSet_keeps); (case hMk => rfl))
    | intro _
    | split
    | dsimp only
    | (refine Keeps.snd ?_ (by with_reducible assumption))

theorem restoreKey_keeps {mk : Nat} {sIn : State} (n : Nat) (c : Counters) (s : State) (hMk : 0x50708084000000000000000000020d100104a0000000008000040011d47c00c17c0000000000000000000000000000000000002000000000000000000000000000000000000000000000000000000000000000001867000180800000000800000000000000000000000000000000000000000000000000000000000000000000003001800000000000000000000000000000000000000000200000000000000000000000000000000000000000000000000000000000000000000000000000000000000000000000000000000000000000000080 ||| mk = mk) (hIn : Keeps mk sIn s) : Keeps mk sIn (restoreKey n c s) := by
  refine Keeps.step hMk ?_ hIn
  unfold restoreKey
  try dsimp only
  repeat' first
    | with_reducible refine Keeps.ite ?_ ?_
    | with_reducible exact Keeps.refl
    | with_reducible assumption
    | ((with_reducible apply keyWrite_keeps); (case hMk => rfl))
    | intro _
    | split
    | dsimp only
    | (refine Keeps.snd ?_ (by with_reducible assumption))

theorem restoreRekey_keeps {mk : Nat} {sIn : State} (n : Nat) (s : State) (hMk : 0x50708084000000000000000000020d100004a0000000008000040011d47c00c17c0000000000000000000000000000000000002000000000000000000000000000000000000000000000000000000000000000001867000180800000000800000000000000000000000000000000000000000000000000000000000000000000003001800000000000000000000000000004000000000000000000000000000000000000000000000000000000000000000000000000000000000000000000000000000000000000000000000000000000000080 ||| mk = mk) (hIn : Keeps mk sIn s) : Keeps mk sIn (restoreRekey n s) := by
  refine Keeps.step hMk ?_ hIn
  unfold restoreRekey
  try dsimp only
  repeat' first
    | with_reducible refine Keeps.ite ?_ ?_
    | with_reducible exact Keeps.refl
    | with_reducible assumption
    | ((with_reducible apply modPair_keeps); (case hMk => rfl))
    | ((with_reducible apply rekeySet_keeps); (case hMk => rfl))
    | intro _
    | split
    | dsimp only
    | (refine Keeps.snd ?_ (by with_reducible assumption))
    | ((with_reducible apply Keeps.set_sec); (case e => rfl))

theorem firstReserve_keeps {mk : Nat} {sIn : State} (n : Nat) (rxReset : Bool) (s : State) (hMk : 0x50718084000000000000000000020d100004a0000000008000040011d47c00c17c0000000000000000000000000000000000002000000000000000000000000000000000000000000000000000000000000000001867000180800000000800000000000000000000000000000000000000000000000000000000000000000000003001800000000000000000000000000000000000000000002000000000800000000000000000000000000000000000000000000000000000000000000000000000000000000000000000000000000000000080 ||| mk = mk) (hIn : Keeps mk sIn s) : Keeps mk sIn (firstReserve n rxReset s) := by
  refine Keeps.step hMk ?_ hIn
  unfold firstReserve
  try dsimp only
  repeat' first
    | with_reducible refine Keeps.ite ?_ ?_
    | with_reducible exact Keeps.refl
    | with_reducible assumption
    | ((with_reducible apply reserve_keeps); (case hMk => rfl))
    | intro _
    | split
    | dsimp only
    | (refine Keeps.snd ?_ (by with_reducible assumption))

theorem p6Drop_keeps {mk : Nat} {sIn : State} (n : Nat) (s : State) (hMk : 0x5010200400000000000000000000000000000000000000000000000000000000000000000000000000000000000000000000002000000000000000000000000000000000000000000000000000000000000000000466000960000000000000000000000000000000000000000000000000000000000000000000000000000000000000000000000000000000000000000000000000000000000000000000000000000000000000000000000000000000000000000000000000000000000000000000000000000000000000000000000000000000 ||| mk = mk) (hIn : Keeps mk sIn s) : Keeps mk sIn (p6Drop n s) := by
  refine Keeps.step hMk ?_ hIn
  unfold p6Drop
  try dsimp only
  repeat' first
    | with_reducible refine Keeps.ite ?_ ?_
    | with_reducible exact Keeps.refl
    | with_reducible assumption
    | ((with_reducible apply Keeps.took); (case e => rfl))
    | ((with_reducible apply cmdDone_keeps); (case hMk => rfl))
    | ((with_reducible apply modSrc_keeps); (case hMk => rfl))
    | ((with_reducible apply polPut_keeps); (case hMk => rfl))
    | intro _
    | split
    | dsimp only
    | (refine Keeps.snd ?_ (by with_reducible assumption))

theorem evictBegin_keeps {mk : Nat} {sIn : State} (n : Nat) (s : State) (hMk : 0x507020a4000000000000000000020d100004a0000000008000040011d47c00c17c0000000000000000000000000000000000002000000000000000000000000000000000000000000000000000000000000000001c670009e0800000000800000000000000000000000000000000000000000000000000000000000000000000003001800400000000000000000000000000000000000000000000000000000000000000000000000000000000001000000000000000000000000000000000000000000000000000000000000000000000000080 ||| mk = mk) (hIn : Keeps mk sIn s) : Keeps mk sIn (evictBegin n s) := by
  refine Keeps.step hMk ?_ hIn
  unfold evictBegin
  try dsimp only
  repeat' first
    | with_reducible refine Keeps.ite ?_ ?_
    | with_reducible exact Keeps.refl
    | with_reducible assumption
    | ((with_reducible apply Keeps.putNode); (case e => rfl); (case e2 => rfl))
    | ((with_reducible apply applyStart_keeps); (case hMk => rfl))
    | ((with_reducible apply epochUp_keeps); (case hMk => rfl))
    | ((with_reducible apply mirState_keeps); (case hMk => rfl))
    | ((with_reducible apply modSrc_keeps); (case hMk => rfl))
    | ((with_reducible apply p6Drop_keeps); (case hMk => rfl))
    | ((with_reducible apply stage_keeps); (case hMk => rfl))
    | intro _
    | split
    | dsimp only
    | (refine Keeps.snd ?_ (by with_reducible assumption))

theorem nodeRelease_keeps {mk : Nat} {sIn : State} (n : Nat) (s : State) (hMk : 0x5076c8a4000000000000000000020d100004a0002000008000040011d47c00c17c0000000000000000000000000000000000002000000000000000000000000000000000000000000000000000004028000180039867000180800000000800000000000000000000000000000000000000000000000000000000000000003000003201800000000008100001c0000000080c004000000000000000000000000000000000000000000000000000000000000000000000080000000000000000000000000000000000000000000000000000000080 ||| mk = mk) (hIn : Keeps mk sIn s) : Keeps mk sIn (nodeRelease n s) := by
  refine Keeps.step hMk ?_ hIn
  unfold nodeRelease
  try dsimp only
  repeat' first
    | with_reducible refine Keeps.ite ?_ ?_
    | with_reducible exact Keeps.refl
    | with_reducible assumption
    | ((with_reducible apply Keeps.inc); (case d => rfl); (case e => rfl))
    | (with_reducible refine Keeps.each _ _ ?_ ?_)
    | ((with_reducible apply Keeps.setNode); (case e => rfl); (case e2 => rfl))
    | ((with_reducible apply campLess_keeps); (case hMk => rfl))
    | ((with_reducible apply frameWhey_keeps); (case hMk => rfl))
    | ((with_reducible apply fwtNodeGone_keeps); (case hMk => rfl))
    | ((with_reducible apply haltClear_keeps); (case hMk => rfl))
    | ((with_reducible apply mirState_keeps); (case hMk => rfl))
    | ((with_reducible apply modFwd_keeps); (case hMk => rfl))
    | ((with_reducible apply modMac_keeps); (case hMk => rfl))
    | ((with_reducible apply reasmDrop_keeps); (case hMk => rfl))
    | ((with_reducible apply rekeyClear_keeps); (case hMk => rfl))
    | ((with_reducible apply saxGive_keeps); (case hMk => rfl))
    | ((with_reducible apply setNodeQ_keeps); (case hMk => rfl))
    | intro _
    | split
    | dsimp only
    | (refine Keeps.snd ?_ (by with_reducible assumption))
    | ((with_reducible apply Keeps.set_sec); (case e => rfl))

theorem addRecord_keeps {mk : Nat} {sIn : State} (n : Nat) (a : Nat) (b : NodeBlock) (c : Counters) (s : State) (hMk : 0x400820000000000000000000000000000000000000000000000000000000000000000000000000000000000000000000000000000000000000000000000000000000000000000000000000000000000000000000000000000000000000000000000000000000000000000000000000000000000000000000000000000000000000000000000000000000000000000000000000000000000000000000000000000000000000000000000000000000000000000000000c0000000000000000000000000000000000000000000000000000000000 ||| mk = mk) (hIn : Keeps mk sIn s) : Keeps mk sIn (addRecord n a b c s) := by
  refine Keeps.step hMk ?_ hIn
  unfold addRecord
  try dsimp only
  repeat' first
    | with_reducible refine Keeps.ite ?_ ?_
    | with_reducible exact Keeps.refl
    | with_reducible assumption
    | ((with_reducible apply Keeps.wr); (case d => rfl); (case e => rfl))
    | ((with_reducible apply Keeps.setNode); (case e => rfl); (case e2 => rfl))
    | ((with_reducible apply nodeMetersReset_keeps); (case hMk => rfl))
    | ((with_reducible apply saxTake_keeps); (case hMk => rfl))
    | intro _
    | split
    | dsimp only
    | (refine Keeps.snd ?_ (by with_reducible assumption))

theorem addFinish_keeps {mk : Nat} {sIn : State} (ring : Nat) (tag : Nat) (n : Nat) (a : Nat) (b : NodeBlock) (restoring : Bool) (c : Counters) (s0 : State) (hMk : 0x507388a4000000000000000000020d100104a0000000008000040011d47c00c17c0000000000000000000000000000000000002000000000000000000000000000000000000000000000000000000000000000001c670009e0800000000800000000000000000000000000000000000000000000000000000000000000000000003001800000000000103c0180000000280c00003c0200002020000000348000000000000000000000000000000000000000000000000c0000000000000000000000000000000000000000000000000000000080 ||| mk = mk) (hIn : Keeps mk sIn s0) : Keeps mk sIn (addFinish ring tag n a b restoring c s0) := by
  refine Keeps.step hMk ?_ hIn
  unfold addFinish
  try dsimp only
  repeat' first
    | with_reducible refine Keeps.ite ?_ ?_
    | with_reducible exact Keeps.refl
    | with_reducible assumption
    | ((with_reducible apply addRecord_keeps); (case hMk => rfl))
    | ((with_reducible apply cmdDone_keeps); (case hMk => rfl))
    | ((with_reducible apply cmdPlain_keeps); (case hMk => rfl))
    | ((with_reducible apply fcMark_keeps); (case hMk => rfl))
    | ((with_reducible apply firstReserve_keeps); (case hMk => rfl))
    | (refine Keeps.snd (p := fwtNode _ _ _) ?_ (by with_reducible assumption))
    | ((with_reducible apply fwtNode_keeps); (case hMk => rfl))
    | (refine Keeps.snd (p := fwtNodeNew _ _ _ _) ?_ (by with_reducible assumption))
    | ((with_reducible apply fwtNodeNew_keeps); (case hMk => rfl))
    | ((with_reducible apply keyWrite_keeps); (case hMk => rfl))
    | ((with_reducible apply mirState_keeps); (case hMk => rfl))
    | ((with_reducible apply restoreKey_keeps); (case hMk => rfl))
    | ((with_reducible apply restoreRekey_keeps); (case hMk => rfl))
    | intro _
    | split
    | dsimp only
    | (refine Keeps.snd ?_ (by with_reducible assumption))

theorem execNodeAdd_keeps (ring : Fin 8) (hd : CmdHead) (nix : Nat) (any : Bool) (restore : Bool) (block : NodeBlock) (meets : TableMeets) (t : Nat) (s : State) : KeepsR 0xd07388a5000000000000000000020d100104a0000000008000040011d47c00c17c0000000000000000000000000000000000002000000000000000000000000000000000000004000000000000000000000000001c7f8009e0c00000000c00000000000000000000000000000000000000000000000000000000000000000000003001800000000000103c0180000000280c00003c0200002020000000348000000000000000000000000000000000000000000080000c0000000000301000000000000000000000000000000000000000000080 s (execNodeAdd ring hd nix any restore block meets t s) := by
  unfold execNodeAdd
  try dsimp only
  repeat' first
    | ((with_reducible apply withData_keeps); (case hMk => rfl))
    | ((with_reducible apply withMeets_keeps); (case hMk => rfl))
    | ((with_reducible apply withOwner_keeps); (case hMk => rfl))
    | (with_reducible refine KeepsR.next ?_)
    | (with_reducible refine KeepsR.ite ?_ ?_)
    | with_reducible refine Keeps.ite ?_ ?_
    | with_reducible exact Keeps.refl
    | with_reducible assumption
    | ((with_reducible apply Keeps.at); (case e => rfl); (case e2 => rfl))
    | ((with_reducible apply addFinish_keeps); (case hMk => rfl))
    | ((with_reducible apply badKey_keeps); (case hMk => rfl))
    | ((with_reducible apply cmdPlain_keeps); (case hMk => rfl))
    | ((with_reducible apply macTrace_keeps); (case hMk => rfl))
    | ((with_reducible apply raise_keeps); (case d => rfl); (case hMk => rfl); (case hMk2 => rfl))
    | ((with_reducible apply raiseWard_keeps); (case d => rfl); (case hMk => rfl); (case hMk2 => rfl))
    | intro _
    | split
    | dsimp only
    | (refine Keeps.snd ?_ (by with_reducible assumption))

theorem execNodeEvict_keeps (ring : Fin 8) (tag : Nat) (nix : Nat) (t : Nat) (s : State) : KeepsR 0xd07020a5000000000000000000020d100004a0000000008000040011d47c00c17c0000000000000000000000000000000000002000000000000000000000000000000000000000000000000000000000000000001c7f8009e0c00000000c00000000000000000000000000000000000000000000000000000000000000000000003001800400000000000000000000000000000000000000000000000000000000000000000000000000000000001000000000000000000000000000000000000000000000000000000000000000000000000080 s (execNodeEvict ring tag nix t s) := by
  unfold execNodeEvict
  try dsimp only
  repeat' first
    | ((with_reducible apply withOwner_keeps); (case hMk => rfl))
    | (with_reducible refine KeepsR.next ?_)
    | (with_reducible refine KeepsR.ite ?_ ?_)
    | with_reducible refine Keeps.ite ?_ ?_
    | with_reducible exact Keeps.refl
    | with_reducible assumption
    | ((with_reducible apply Keeps.at); (case e => rfl); (case e2 => rfl))
    | ((with_reducible apply cmdPlain_keeps); (case hMk => rfl))
    | ((with_reducible apply evictBegin_keeps); (case hMk => rfl))
    | ((with_reducible apply modSrc_keeps); (case hMk => rfl))
    | intro _
    | split
    | dsimp only
    | (refine Keeps.snd ?_ (by with_reducible assumption))

theorem execEvictReleaseComplete_keeps (nix : Fin 262144) (meets : TableMeets) (t : Nat) (s : State) : KeepsR 0xd076e8a5000000000000000000020d100004a0002000008000040011d47c00c17c0000000000000000000000000000000000002000000000000000000000000000000000000000000000000000004028000180039c670009e0800000000800000000000000000000000000000000000000000000000000000000000000003000003201800000000008100001c0000000080c004000000000000000000000000000000000000000000000000000000000000000000000080000000000000000000000000000000000000000000000000000000080 s (execEvictReleaseComplete nix meets t s) := by
  unfold execEvictReleaseComplete
  try dsimp only
  repeat' first
    | ((with_reducible apply withMeets_keeps); (case hMk => rfl))
    | (with_reducible refine KeepsR.next ?_)
    | (with_reducible refine KeepsR.ite ?_ ?_)
    | with_reducible refine Keeps.ite ?_ ?_
    | with_reducible exact Keeps.refl
    | with_reducible assumption
    | ((with_reducible apply Keeps.at); (case e => rfl); (case e2 => rfl))
    | ((with_reducible apply cmdPlain_keeps); (case hMk => rfl))
    | ((with_reducible apply modSrc_keeps); (case hMk => rfl))
    | ((with_reducible apply nodeRelease_keeps); (case hMk => rfl))
    | intro _
    | split
    | dsimp only
    | (refine Keeps.snd ?_ (by with_reducible assumption))

theorem execNodeQuiet_keeps (ring : Fin 8) (tag : Nat) (nix : Nat) (t : Nat) (s : State) : KeepsR 0xd07000a5000000000000000000020d100004a0000000008000040011d47c00c17c0000000000000000000000000000000000002000000000000000000000000000000000000000000000000000000000000000001c7f8009e0c00000000c00000000000000000000000000000000000000000000000000000000000000000000003001800000000000000000000000000000000000000000000000000000000000000000000000000000000000000000000000008000000000000000001000000000000000000000000000000000000000000080 s (execNodeQuiet ring tag nix t s) := by
  unfold execNodeQuiet
  try dsimp only
  repeat' first
    | ((with_reducible apply withOwner_keeps); (case hMk => rfl))
    | (with_reducible refine KeepsR.next ?_)
    | (with_reducible refine KeepsR.ite ?_ ?_)
    | with_reducible refine Keeps.ite ?_ ?_
    | with_reducible exact Keeps.refl
    | with_reducible assumption
    | ((with_reducible apply Keeps.at); (case e => rfl); (case e2 => rfl))
    | ((with_reducible apply cmdPlain_keeps); (case hMk => rfl))
    | ((with_reducible apply nodeQuiet_keeps); (case hMk => rfl))
    | intro _
    | split
    | dsimp only
    | (refine Keeps.snd ?_ (by with_reducible assumption))

theorem execNodeRead_keeps (ring : Fin 8) (hd : CmdHead) (first : Nat) (count : Nat) (withKey : Bool) (t : Nat) (s : State) : KeepsR 0xd0700081000000000000000000020000000020000000000000000011547c00c17c0000000000000000000000000000000000002000000000000000000000000000000000000000000000000000000000000000001c7f8009e0c00000000c00000000000000000000000000000000000000000000000000000000000000000000000000000000000000000000000000000000000000000000000000000000000000000000000000000000000000000000000000000000000000000000000000000000000000000000000000000000000000000080 s (execNodeRead ring hd first count withKey t s) := by
  unfold execNodeRead
  try dsimp only
  repeat' first
    | ((with_reducible apply withCmd_keeps); (case hMk => rfl))
    | (with_reducible refine KeepsR.next ?_)
    | (with_reducible refine KeepsR.ite ?_ ?_)
    | with_reducible refine Keeps.ite ?_ ?_
    | with_reducible exact Keeps.refl
    | with_reducible assumption
    | ((with_reducible apply Keeps.at); (case e => rfl); (case e2 => rfl))
    | ((with_reducible apply cmdPlain_keeps); (case hMk => rfl))
    | ((with_reducible apply cmdRows_keeps); (case hMk => rfl))
    | intro _
    | split
    | dsimp only
    | (refine Keeps.snd ?_ (by with_reducible assumption))

theorem execNodeModify_keeps (ring : Fin 8) (hd : CmdHead) (nix : Nat) (mask : Nat) (value : Nat) (data : ModData) (t : Nat) (s : State) : KeepsR 0xd07000a1000000000000000000020000000020000000000000000011547c00c17c0000000000000000000000000000000000002000000000000000000000000000000000000000000000000000000000000000001c7f8009e0c00000000c00000000000000000000000000000000000000000000000000000000000000000000000000000000000000000000000000000000000000000000000000000000000000000000000000000000000000000000000000000000000000000000000000000000000000000000000000000000000000000080 s (execNodeModify ring hd nix mask value data t s) := by
  unfold execNodeModify
  try dsimp only
  repeat' first
    | ((with_reducible apply withData_keeps); (case hMk => rfl))
    | ((with_reducible apply withOwner_keeps); (case hMk => rfl))
    | (with_reducible refine KeepsR.next ?_)
    | (with_reducible refine KeepsR.ite ?_ ?_)
    | with_reducible refine Keeps.ite ?_ ?_
    | with_reducible exact Keeps.refl
    | with_reducible assumption
    | ((with_reducible apply Keeps.at); (case e => rfl); (case e2 => rfl))
    | ((with_reducible apply Keeps.setNode); (case e => rfl); (case e2 => rfl))
    | (with_reducible refine Keeps.when _ _ ?_ ?_)
    | ((with_reducible apply cmdPlain_keeps); (case hMk => rfl))
    | ((with_reducible apply nodeMetersReset_keeps); (case hMk => rfl))
    | intro _
    | split
    | dsimp only
    | (refine Keeps.snd ?_ (by with_reducible assumption))

theorem wardMove_keeps {mk : Nat} {sIn : State} (n : Nat) (w : Nat) (s : State) (hMk : 0xc004000000000000000000000000000000000000000000000000000000000000000000000000000000000000000000000000000000000000000000000000000000000 ||| mk = mk) (hIn : Keeps mk sIn s) : Keeps mk sIn (wardMove n w s) := by
  refine Keeps.step hMk ?_ hIn
  unfold wardMove
  try dsimp only
  repeat' first
    | with_reducible refine Keeps.ite ?_ ?_
    | with_reducible exact Keeps.refl
    | with_reducible assumption
    | ((with_reducible apply Keeps.inc); (case d => rfl); (case e => rfl))
    | ((with_reducible apply Keeps.sub); (case d => rfl); (case e => rfl))
    | ((with_reducible apply strictEnd_keeps); (case hMk => rfl))
    | intro _
    | split
    | dsimp only
    | (refine Keeps.snd ?_ (by with_reducible assumption))

theorem nodeRewrite_keeps {mk : Nat} {sIn : State} (ring : Nat) (tag : Nat) (nix : Nat) (record : Node) (c : Counters) (s : State) (hMk : 0x5071e8a4000000000000000000020d100104a0000000008000040011d47c00c17c0000000000000000000000000000000000002000000000000000000000000000000000000000000000000000000000000000001c670009e080000000080000000000000000000000000000000000000000000000000000000000000000300000320180000000000000000000000000000c00403c020000202000000034800000000000000000000000000000000000000000000000080000000000000000000000000000000000000000000000000000000080 ||| mk = mk) (hIn : Keeps mk sIn s) : Keeps mk sIn (nodeRewrite ring tag nix record c s) := by
  refine Keeps.step hMk ?_ hIn
  unfold nodeRewrite
  try dsimp only
  repeat' first
    | with_reducible refine Keeps.ite ?_ ?_
    | with_reducible exact Keeps.refl
    | with_reducible assumption
    | (with_reducible refine Keeps.each _ _ ?_ ?_)
    | ((with_reducible apply Keeps.setNode); (case e => rfl); (case e2 => rfl))
    | ((with_reducible apply cmdDone_keeps); (case hMk => rfl))
    | ((with_reducible apply fcMark_keeps); (case hMk => rfl))
    | ((with_reducible apply firstReserve_keeps); (case hMk => rfl))
    | ((with_reducible apply frameWhey_keeps); (case hMk => rfl))
    | ((with_reducible apply haltDrop_keeps); (case hMk => rfl))
    | ((with_reducible apply modSrc_keeps); (case hMk => rfl))
    | ((with_reducible apply nodeMetersReset_keeps); (case hMk => rfl))
    | ((with_reducible apply restoreKey_keeps); (case hMk => rfl))
    | ((with_reducible apply rxDirty_keeps); (case hMk => rfl))
    | ((with_reducible apply saxGive_keeps); (case hMk => rfl))
    | ((with_reducible apply saxTake_keeps); (case hMk => rfl))
    | ((with_reducible apply setNodeQ_keeps); (case hMk => rfl))
    | ((with_reducible apply wardMove_keeps); (case hMk => rfl))
    | intro _
    | split
    | dsimp only
    | (refine Keeps.snd ?_ (by with_reducible assumption))

theorem execNodeWrite_keeps (ring : Fin 8) (hd : CmdHead) (nix : Nat) (record : Node) (t : Nat) (s : State) : KeepsR 0xd071e8a5000000000000000000020d100104a0000000008000040011d47c00c17c0000000000000000000000000000000000002000000000000000000000000000000000000000000000000000000000000000001c7f8009e0c00000000c0000000000000000000000000000000000000000000000000000000000000000300000320180000000000000000000000000000c00403c020000202000000034800000000000000000000000000000000000000000000000080000000000000000000000000000000000000000000000000000000080 s (execNodeWrite ring hd nix record t s) := by
  unfold execNodeWrite
  try dsimp only
  repeat' first
    | ((with_reducible apply withData_keeps); (case hMk => rfl))
    | ((with_reducible apply withOwner_keeps); (case hMk => rfl))
    | (with_reducible refine KeepsR.next ?_)
    | (with_reducible refine KeepsR.ite ?_ ?_)
    | with_reducible refine Keeps.ite ?_ ?_
    | with_reducible exact Keeps.refl
    | with_reducible assumption
    | ((with_reducible apply Keeps.at); (case e => rfl); (case e2 => rfl))
    | ((with_reducible apply cmdPlain_keeps); (case hMk => rfl))
    | ((with_reducible apply nodeRewrite_keeps); (case hMk => rfl))
    | intro _
    | split
    | dsimp only
    | (refine Keeps.snd ?_ (by with_reducible assumption))

theorem execEbSet_keeps (ring : Fin 8) (hd : CmdHead) (ward : Nat) (ies : List (Fin 256)) (t : Nat) (s : State) : KeepsR 0xd0700881000000000000000000020000000020000000000000000011547c00c17c0000000000000000000000000000000000002000000000000000000000000000000000000000000000000000000000000000001c7f8009e0c00000000c00000000000000000000000000000000000000000000000000000000000000000000000000000000000000000000000000000000000000000000000000000000000000000000000000000000000000000000000000000000000000000000000000000000000000000000000000000000000000000080 s (execEbSet ring hd ward ies t s) := by
  unfold execEbSet
  try dsimp only
  repeat' first
    | ((with_reducible apply withCmd_keeps); (case hMk => rfl))
    | ((with_reducible apply withData_keeps); (case hMk => rfl))
    | (with_reducible refine KeepsR.next ?_)
    | (with_reducible refine KeepsR.ite ?_ ?_)
    | with_reducible refine Keeps.ite ?_ ?_
    | with_reducible exact Keeps.refl
    | with_reducible assumption
    | ((with_reducible apply Keeps.at); (case e => rfl); (case e2 => rfl))
    | ((with_reducible apply cmdPlain_keeps); (case hMk => rfl))
    | ((with_reducible apply modMac_keeps); (case hMk => rfl))
    | intro _
    | split
    | dsimp only
    | (refine Keeps.snd ?_ (by with_reducible assumption))

end Sys2Proof.Machine
end

