-- ==== Sys2Proof/Laws/KeepsTime.lean ====
section
/-!
SUPPORT. What each operation and each meaning changes: the time base, the Cellar and the clocks. The mask of each law names the register fields and the parts of the
state, as `Only` reads it.
-/

set_option simprocs false
set_option linter.all false

namespace Sys2Proof.Machine

theorem modTsu_keeps {mk : Nat} {sIn : State} (f : Tsu → Tsu) (s : State) (hMk : 0x80000000000000000000000000000000000000000000000000000000000000000000000000000000000000000000000000000000000000000000000000000000000000000000000000000000000000000000000000000000000000000000000000000000000000000000000000000000000000000000000000000000000000000000000000000000000000000000000000000000000000000000000000000000000000000000000000000000000000000000000000000000000000000000000000000000000000000000000000000000000000 ||| mk = mk) (hIn : Keeps mk sIn s) : Keeps mk sIn (modTsu f s) := by
  refine Keeps.step hMk ?_ hIn
  unfold modTsu
  try dsimp only
  repeat' first
    | with_reducible refine Keeps.ite ?_ ?_
    | with_reducible exact Keeps.refl
    | with_reducible assumption
    | intro _
    | split
    | dsimp only
    | (refine Keeps.snd ?_ (by with_reducible assumption))
    | ((with_reducible apply Keeps.set_tsu); (case e => rfl))

theorem State.wrSat_keeps {mk : Nat} {sIn : State} (s : State) (f : Fld) (v : Int) {i j w r : Nat} {h : Home} (d : f = ⟨i, j, w, r, h⟩) (hMk : mk.testBit i = true) (hIn : Keeps mk sIn s) :
    Keeps mk sIn (s.wrSat f v) := Keeps.wrS _ _ d hMk hIn

theorem modPulse_keeps {mk : Nat} {sIn : State} (k : Nat) (f : Pulse → Pulse) (s : State) (hMk : 0x80000000000000000000000000000000000000000000000000000000000000000000000000000000000000000000000000000000000000000000000000000000000000000000000000000000000000000000000000000000000000000000000000000000000000000000000000000000000000000000000000000000000000000000000000000000000000000000000000000000000000000000000000000000000000000000000000000000000000000000000000000000000000000000000000000000000000000000000000000000000000 ||| mk = mk) (hIn : Keeps mk sIn s) : Keeps mk sIn (modPulse k f s) := by
  refine Keeps.step hMk ?_ hIn
  unfold modPulse
  try dsimp only
  repeat' first
    | with_reducible refine Keeps.ite ?_ ?_
    | with_reducible exact Keeps.refl
    | with_reducible assumption
    | ((with_reducible apply modTsu_keeps); (case hMk => rfl))
    | intro _
    | split
    | dsimp only
    | (refine Keeps.snd ?_ (by with_reducible assumption))

theorem pulseOff_keeps {mk : Nat} {sIn : State} (k : Nat) (s : State) (hMk : 0x80000000000000000000000000000000000000000000000000000000000000000000000000000000000000000000000000000000000000000000000000000000000000000000000000000000000000000000000000000000000000000000000010100000000000000000000000000000000000000000000000000000000000000000000000000000000000000000000000000000000000000000000000000000000000000000000000000000000000000000000000000000000000000000000000000000000000000000000000000000000000 ||| mk = mk) (hIn : Keeps mk sIn s) : Keeps mk sIn (pulseOff k s) := by
  refine Keeps.step hMk ?_ hIn
  unfold pulseOff
  try dsimp only
  repeat' first
    | with_reducible refine Keeps.ite ?_ ?_
    | with_reducible exact Keeps.refl
    | with_reducible assumption
    | ((with_reducible apply Keeps.put); (case d => rfl); (case e => rfl))
    | ((with_reducible apply modPulse_keeps); (case hMk => rfl))
    | intro _
    | split
    | dsimp only
    | (refine Keeps.snd ?_ (by with_reducible assumption))

theorem pulseFire_keeps {mk : Nat} {sIn : State} (k : Nat) (next : Option Int) (s : State) (hMk : 0x80000000000000000000000000000000000000000000000000000000000000000000000000000000000000000000000000000000000000000000000000000000000000000000000000000000000000000000000000000000000000000000000400000000000000000000000000000000000000000000000000000000000000000000000000000000000000000000000000000000000000000000000000000000000000000000000000000000000000000000000000000000000000000000000000000000000000000000000000000000000000 ||| mk = mk) (hIn : Keeps mk sIn s) : Keeps mk sIn (pulseFire k next s) := by
  refine Keeps.step hMk ?_ hIn
  unfold pulseFire
  try dsimp only
  repeat' first
    | with_reducible refine Keeps.ite ?_ ?_
    | with_reducible exact Keeps.refl
    | with_reducible assumption
    | ((with_reducible apply Keeps.inc); (case d => rfl); (case e => rfl))
    | ((with_reducible apply modPulse_keeps); (case hMk => rfl))
    | intro _
    | split
    | dsimp only
    | (refine Keeps.snd ?_ (by with_reducible assumption))

theorem pulseLate_keeps {mk : Nat} {sIn : State} (k : Nat) (s : State) (hMk : 0x509000000000000000000000000000000000000000000000000000000000000000000000000000000000000000000000000000200000000000000000000000000000000000000000000000000000000000000000186700018080000000080000041c100000000000000000000000000000000002000000000000000000000000000000000000000000000000000000000000000000000000000000000000000000000000000000000000000000000000000000000000000000000000000000000000000000000000000000000000000000000000 ||| mk = mk) (hIn : Keeps mk sIn s) : Keeps mk sIn (pulseLate k s) := by
  refine Keeps.step hMk ?_ hIn
  unfold pulseLate
  try dsimp only
  repeat' first
    | with_reducible refine Keeps.ite ?_ ?_
    | with_reducible exact Keeps.refl
    | with_reducible assumption
    | ((with_reducible apply Keeps.put); (case d => rfl); (case e => rfl))
    | ((with_reducible apply modPulse_keeps); (case hMk => rfl))
    | ((with_reducible apply pulseFire_keeps); (case hMk => rfl))
    | ((with_reducible apply pulseOff_keeps); (case hMk => rfl))
    | ((with_reducible apply raiseAt_keeps); (case d => rfl); (case hMk => rfl); (case hMk2 => rfl))
    | intro _
    | split
    | dsimp only
    | (refine Keeps.snd ?_ (by with_reducible assumption))

theorem pulseStep_keeps {mk : Nat} {sIn : State} (d : Int) (k : Nat) (s : State) (hMk : 0x509000000000000000000000000000000000000000000000000000000000000000000000000000000000000000000000000000200000000000000000000000000000000000000000000000000000000000000000186700018080000000080000041c100000000000000000000000000000000002000000000000000000000000000000000000000000000000000000000000000000000000000000000000000000000000000000000000000000000000000000000000000000000000000000000000000000000000000000000000000000000000 ||| mk = mk) (hIn : Keeps mk sIn s) : Keeps mk sIn (pulseStep d k s) := by
  refine Keeps.step hMk ?_ hIn
  unfold pulseStep
  try dsimp only
  repeat' first
    | with_reducible refine Keeps.ite ?_ ?_
    | with_reducible exact Keeps.refl
    | with_reducible assumption
    | ((with_reducible apply modPulse_keeps); (case hMk => rfl))
    | ((with_reducible apply pulseLate_keeps); (case hMk => rfl))
    | intro _
    | split
    | dsimp only
    | (refine Keeps.snd ?_ (by with_reducible assumption))

theorem startStep_keeps {mk : Nat} {sIn : State} (s : State) (hMk : 0x80000000000000000000000000000000000000000000000000000000000000000000000000000000000000000000000000000000000000000000000000000000000000000000000000000000000000000000000000000000000000000000000000000000000000000000000000000000000000000000000000000000000000000000000000000000000000000000000000000000000000000000000000000000000000000000000000000000000000000000000000000000000000000000000000000000000000000000000000000000000 ||| mk = mk) (hIn : Keeps mk sIn s) : Keeps mk sIn (startStep s) := by
  refine Keeps.step hMk ?_ hIn
  unfold startStep
  try dsimp only
  repeat' first
    | with_reducible refine Keeps.ite ?_ ?_
    | with_reducible exact Keeps.refl
    | with_reducible assumption
    | intro _
    | split
    | dsimp only
    | (refine Keeps.snd ?_ (by with_reducible assumption))
    | ((with_reducible apply Keeps.set_mac); (case e => rfl))

theorem tsuMove_keeps {mk : Nat} {sIn : State} (d : Int) (s : State) (hMk : 0x519048020000000000000000000000000000000000000000000000000000000000000000000000000000000800000000000000200000000000000000000000000000000000000000000000000000000000000000186700018080000000080000041c1000000000004000000000000000000000020000000c0000000000000000000000000000000000000000000000000000000000000000000000000000000000000000000000000000000000000000000000000000000000000000000000000000000000000000000000000000000000000000 ||| mk = mk) (hIn : Keeps mk sIn s) : Keeps mk sIn (tsuMove d s) := by
  refine Keeps.step hMk ?_ hIn
  unfold tsuMove
  try dsimp only
  repeat' first
    | with_reducible refine Keeps.ite ?_ ?_
    | with_reducible exact Keeps.refl
    | with_reducible assumption
    | ((with_reducible apply Keeps.put); (case d => rfl); (case e => rfl))
    | ((with_reducible apply Keeps.inc); (case d => rfl); (case e => rfl))
    | (with_reducible refine Keeps.each _ _ ?_ ?_)
    | ((with_reducible apply gateView_keeps); (case hMk => rfl))
    | ((with_reducible apply pulseStep_keeps); (case hMk => rfl))
    | ((with_reducible apply startStep_keeps); (case hMk => rfl))
    | intro _
    | split
    | dsimp only
    | (refine Keeps.snd ?_ (by with_reducible assumption))
    | ((with_reducible apply Keeps.set_tsuOfs_anchor); (case e0 => rfl); (case e1 => rfl))

theorem servoGo_keeps {mk : Nat} {sIn : State} (st : Nat) (s : State) (hMk : 0x2000000000000000020000000000000000000000000000000000000000000000000000000000000000000000000000000000000000000000000000000000000000000000000000000000000000000000000000000000000000000000000000000000000000000000 ||| mk = mk) (hIn : Keeps mk sIn s) : Keeps mk sIn (servoGo st s) := by
  refine Keeps.step hMk ?_ hIn
  unfold servoGo
  try dsimp only
  repeat' first
    | with_reducible refine Keeps.ite ?_ ?_
    | with_reducible exact Keeps.refl
    | with_reducible assumption
    | ((with_reducible apply Keeps.wr); (case d => rfl); (case e => rfl))
    | intro _
    | split
    | dsimp only
    | (refine Keeps.snd ?_ (by with_reducible assumption))

theorem setFreq_keeps {mk : Nat} {sIn : State} (f16 : Int) (s : State) (hMk : 0x10000000000000000000000000000000000000000000000000000000000000000000000000000000000000000000000000000000000000000000000000000000000000000000000000000000000000000000000000000000000000000000000000000000 ||| mk = mk) (hIn : Keeps mk sIn s) : Keeps mk sIn (setFreq f16 s) := by
  refine Keeps.step hMk ?_ hIn
  unfold setFreq
  try dsimp only
  repeat' first
    | with_reducible refine Keeps.ite ?_ ?_
    | with_reducible exact Keeps.refl
    | with_reducible assumption
    | ((with_reducible apply Keeps.wrS); (case d => rfl); (case e => rfl))
    | intro _
    | split
    | dsimp only
    | (refine Keeps.snd ?_ (by with_reducible assumption))

theorem servoPi_keeps {mk : Nat} {sIn : State} (o : Int) (s : State) (hMk : 0x80000000000000000000000000000000000000000000000000000000000000000000000000000000000000000000000000000000000000000000000000000000000000000000000000000000000000000000000000000000000000000000000000000000000000000100000000000010000000000000000000000000000000000000000000000000000000000000000000000000000000000000000000000000000000000000000000000000000000000000000000000000000000000000000000000000000000000000000000000000000000 ||| mk = mk) (hIn : Keeps mk sIn s) : Keeps mk sIn (servoPi o s) := by
  refine Keeps.step hMk ?_ hIn
  unfold servoPi
  try dsimp only
  repeat' first
    | with_reducible refine Keeps.ite ?_ ?_
    | with_reducible exact Keeps.refl
    | with_reducible assumption
    | ((with_reducible apply Keeps.wrS); (case d => rfl); (case e => rfl))
    | ((with_reducible apply modTsu_keeps); (case hMk => rfl))
    | ((with_reducible apply setFreq_keeps); (case hMk => rfl))
    | intro _
    | split
    | dsimp only
    | (refine Keeps.snd ?_ (by with_reducible assumption))

theorem holdover_keeps {mk : Nat} {sIn : State} (t : Nat) (cause : Nat) (s : State) (hMk : 0x5090000000000000000000000000000000000000000000000000000000000000000000000000000000000000000000000000002000000000000000000000000000000000000000000000000000000000000000001867000180800000000800000000000000000000200200012000000010000000120000000000000000000000000000000000000000000000000000000000000000000000000000000000000000000000000000000000000000000000000000000000000000000000000000000000000000000000000000000000000000000000 ||| mk = mk) (hIn : Keeps mk sIn s) : Keeps mk sIn (holdover t cause s) := by
  refine Keeps.step hMk ?_ hIn
  unfold holdover
  try dsimp only
  repeat' first
    | with_reducible refine Keeps.ite ?_ ?_
    | with_reducible exact Keeps.refl
    | with_reducible assumption
    | ((with_reducible apply Keeps.wr); (case d => rfl); (case e => rfl))
    | ((with_reducible apply Keeps.inc); (case d => rfl); (case e => rfl))
    | ((with_reducible apply Keeps.wrS); (case d => rfl); (case e => rfl))
    | ((with_reducible apply modTsu_keeps); (case hMk => rfl))
    | ((with_reducible apply raise_keeps); (case d => rfl); (case hMk => rfl); (case hMk2 => rfl))
    | ((with_reducible apply servoGo_keeps); (case hMk => rfl))
    | ((with_reducible apply setFreq_keeps); (case hMk => rfl))
    | intro _
    | split
    | dsimp only
    | (refine Keeps.snd ?_ (by with_reducible assumption))

theorem pathStep_keeps {mk : Nat} {sIn : State} (kind : Nat) (s : State) (hMk : 0x5010000000000000000000000000000000000000000000000000000000000000000000000000000000000000000000000000002000000000000000000000000000000000000000000000000000000000000000001867000180800000000800000000000000000000100000004000000000000000080000000000000000000000000000000000000000000000000000000000000000000000000000000000000000000000000000000000000000000000000000000000000000000000000000000000000000000000000000000000000000000000 ||| mk = mk) (hIn : Keeps mk sIn s) : Keeps mk sIn (pathStep kind s) := by
  refine Keeps.step hMk ?_ hIn
  unfold pathStep
  try dsimp only
  repeat' first
    | with_reducible refine Keeps.ite ?_ ?_
    | with_reducible exact Keeps.refl
    | with_reducible assumption
    | ((with_reducible apply Keeps.wr); (case d => rfl); (case e => rfl))
    | ((with_reducible apply Keeps.inc); (case d => rfl); (case e => rfl))
    | ((with_reducible apply raise_keeps); (case d => rfl); (case hMk => rfl); (case hMk2 => rfl))
    | intro _
    | split
    | dsimp only
    | (refine Keeps.snd ?_ (by with_reducible assumption))

theorem relock_keeps {mk : Nat} {sIn : State} (s : State) (hMk : 0x80000000000000000000000000000000000000000000000000000000000000000000000000000000000000000000000000000000000000000000000000000000000000000000000000000000000000000000000000000000000000000000000000000000000000000000062000000000000000020000000000000000000000000000000000000000000000000000000000000000000000000000000000000000000000000000000000000000000000000000000000000000000000000000000000000000000000000000000000000000000000 ||| mk = mk) (hIn : Keeps mk sIn s) : Keeps mk sIn (relock s) := by
  refine Keeps.step hMk ?_ hIn
  unfold relock
  try dsimp only
  repeat' first
    | with_reducible refine Keeps.ite ?_ ?_
    | with_reducible exact Keeps.refl
    | with_reducible assumption
    | ((with_reducible apply Keeps.wr); (case d => rfl); (case e => rfl))
    | ((with_reducible apply modTsu_keeps); (case hMk => rfl))
    | ((with_reducible apply servoGo_keeps); (case hMk => rfl))
    | intro _
    | split
    | dsimp only
    | (refine Keeps.snd ?_ (by with_reducible assumption))

theorem ofsApply_keeps {mk : Nat} {sIn : State} (o : Int) (s : State) (hMk : 0x80000000000000000000000000000000000000000000000000000000000000000000000000000000000000000000000000000000000000000000000000000000000000000000000000000000000000000000000000000000000000000000000000000000000000010100000000000010000000000000000000000000000000000000000000000000000000000000000000000000000000000000000000000000000000000000000000000000000000000000000000000000000000000000000000000000000000000000000000000000000000 ||| mk = mk) (hIn : Keeps mk sIn s) : Keeps mk sIn (ofsApply o s) := by
  refine Keeps.step hMk ?_ hIn
  unfold ofsApply
  try dsimp only
  repeat' first
    | with_reducible refine Keeps.ite ?_ ?_
    | with_reducible exact Keeps.refl
    | with_reducible assumption
    | ((with_reducible apply Keeps.inc); (case d => rfl); (case e => rfl))
    | ((with_reducible apply servoPi_keeps); (case hMk => rfl))
    | intro _
    | split
    | dsimp only
    | (refine Keeps.snd ?_ (by with_reducible assumption))

theorem ofsAcquire_keeps {mk : Nat} {sIn : State} (o : Int) (s : State) (hMk : 0x519048020000000000000000000000000000000000000000000000000000000000000000000000000000000800000000000000200000000000000000000000000000000000000000000000000000000000000000186700018080000000080000041c10000000000041010006a0000000100000026200000c0000000000000000000000000000000000000000000000000000000000000000000000000000000000000000000000000000000000000000000000000000000000000000000000000000000000000000000000000000000000000000 ||| mk = mk) (hIn : Keeps mk sIn s) : Keeps mk sIn (ofsAcquire o s) := by
  refine Keeps.step hMk ?_ hIn
  unfold ofsAcquire
  try dsimp only
  repeat' first
    | with_reducible refine Keeps.ite ?_ ?_
    | with_reducible exact Keeps.refl
    | with_reducible assumption
    | ((with_reducible apply Keeps.put); (case d => rfl); (case e => rfl))
    | ((with_reducible apply modTsu_keeps); (case hMk => rfl))
    | ((with_reducible apply ofsApply_keeps); (case hMk => rfl))
    | ((with_reducible apply raise_keeps); (case d => rfl); (case hMk => rfl); (case hMk2 => rfl))
    | ((with_reducible apply relock_keeps); (case hMk => rfl))
    | ((with_reducible apply tsuMove_keeps); (case hMk => rfl))
    | intro _
    | split
    | dsimp only
    | (refine Keeps.snd ?_ (by with_reducible assumption))

theorem ofsLocked_keeps {mk : Nat} {sIn : State} (o : Int) (s : State) (hMk : 0x50900000000000000000000000000000000000000000000000000000000000000000000000000000000000000000000000000020000000000000000000000000000000000000000000000000000000000000000018670001808000000008000000000000000000003303000360000000100000001a0000000000000000000000000000000000000000000000000000000000000000000000000000000000000000000000000000000000000000000000000000000000000000000000000000000000000000000000000000000000000000000000 ||| mk = mk) (hIn : Keeps mk sIn s) : Keeps mk sIn (ofsLocked o s) := by
  refine Keeps.step hMk ?_ hIn
  unfold ofsLocked
  try dsimp only
  repeat' first
    | with_reducible refine Keeps.ite ?_ ?_
    | with_reducible exact Keeps.refl
    | with_reducible assumption
    | ((with_reducible apply Keeps.wr); (case d => rfl); (case e => rfl))
    | ((with_reducible apply Keeps.inc); (case d => rfl); (case e => rfl))
    | ((with_reducible apply holdover_keeps); (case hMk => rfl))
    | ((with_reducible apply modTsu_keeps); (case hMk => rfl))
    | ((with_reducible apply ofsApply_keeps); (case hMk => rfl))
    | ((with_reducible apply pathStep_keeps); (case hMk => rfl))
    | intro _
    | split
    | dsimp only
    | (refine Keeps.snd ?_ (by with_reducible assumption))

theorem ofsHoldover_keeps {mk : Nat} {sIn : State} (o : Int) (s : State) (hMk : 0x50900000000000000000000000000000000000000000000000000000000000000000000000000000000000000000000000000020000000000000000000000000000000000000000000000000000000000000000018670001808000000008000000000000000000001101000760000000100000000a0000000000000000000000000000000000000000000000000000000000000000000000000000000000000000000000000000000000000000000000000000000000000000000000000000000000000000000000000000000000000000000000 ||| mk = mk) (hIn : Keeps mk sIn s) : Keeps mk sIn (ofsHoldover o s) := by
  refine Keeps.step hMk ?_ hIn
  unfold ofsHoldover
  try dsimp only
  repeat' first
    | with_reducible refine Keeps.ite ?_ ?_
    | with_reducible exact Keeps.refl
    | with_reducible assumption
    | ((with_reducible apply Keeps.wr); (case d => rfl); (case e => rfl))
    | ((with_reducible apply ofsApply_keeps); (case hMk => rfl))
    | ((with_reducible apply pathStep_keeps); (case hMk => rfl))
    | ((with_reducible apply relock_keeps); (case hMk => rfl))
    | intro _
    | split
    | dsimp only
    | (refine Keeps.snd ?_ (by with_reducible assumption))

theorem servoOffset_keeps {mk : Nat} {sIn : State} (o : Int) (s : State) (hMk : 0x519048020000000000000000000000000000000000000000000000000000000000000000000000000000000800000000000000200000000000000000000000000000000000000000000000000000000000000000186700018080000000080000041c10000000000073072007e0000000100000027a00000c0000000000000000000000000000000000000000000000000000000000000000000000000000000000000000000000000000000000000000000000000000000000000000000000000000000000000000000000000000000000000000 ||| mk = mk) (hIn : Keeps mk sIn s) : Keeps mk sIn (servoOffset o s) := by
  refine Keeps.step hMk ?_ hIn
  unfold servoOffset
  try dsimp only
  repeat' first
    | with_reducible refine Keeps.ite ?_ ?_
    | with_reducible exact Keeps.refl
    | with_reducible assumption
    | ((with_reducible apply Keeps.peak); (case d => rfl); (case e => rfl))
    | ((with_reducible apply State.wrSat_keeps); (case d => rfl); (case hMk => rfl))
    | ((with_reducible apply modTsu_keeps); (case hMk => rfl))
    | ((with_reducible apply ofsAcquire_keeps); (case hMk => rfl))
    | ((with_reducible apply ofsHoldover_keeps); (case hMk => rfl))
    | ((with_reducible apply ofsLocked_keeps); (case hMk => rfl))
    | intro _
    | split
    | dsimp only
    | (refine Keeps.snd ?_ (by with_reducible assumption))

theorem pdApply_keeps {mk : Nat} {sIn : State} (raw : Int) (s : State) (hMk : 0x80000000000000000000000000000000000000000000000000000000000000000000000000000000000000000000000000000000000000000000000000000000000000000000000000000000000000000000000000000000000000000000000000000000000000040040000000000000000000000000000000000000000000000000000000000000000000000000000000000000000000000000000000000000000000000000000000000000000000000000000000000000000000000000000000000000000000000000000000000000000000 ||| mk = mk) (hIn : Keeps mk sIn s) : Keeps mk sIn (pdApply raw s) := by
  refine Keeps.step hMk ?_ hIn
  unfold pdApply
  try dsimp only
  repeat' first
    | with_reducible refine Keeps.ite ?_ ?_
    | with_reducible exact Keeps.refl
    | with_reducible assumption
    | ((with_reducible apply Keeps.inc); (case d => rfl); (case e => rfl))
    | ((with_reducible apply State.wrSat_keeps); (case d => rfl); (case hMk => rfl))
    | ((with_reducible apply modTsu_keeps); (case hMk => rfl))
    | intro _
    | split
    | dsimp only
    | (refine Keeps.snd ?_ (by with_reducible assumption))

theorem acceptStep_keeps {mk : Nat} {sIn : State} (asym : Bool) (s : State) (hMk : 0x80000000000000000000000000000000000000000000000000000000000000000000000000000000000000000000000000000000000000000000000000000000000000000000000000000000000000000000000000000000000000000000000000000000000000000040062000000000000000020000000000000000000000000000000000000000000000000000000000000000000000000000000000000000000000000000000000000000000000000000000000000000000000000000000000000000000000000000000000000000000000 ||| mk = mk) (hIn : Keeps mk sIn s) : Keeps mk sIn (acceptStep asym s) := by
  refine Keeps.step hMk ?_ hIn
  unfold acceptStep
  try dsimp only
  repeat' first
    | with_reducible refine Keeps.ite ?_ ?_
    | with_reducible exact Keeps.refl
    | with_reducible assumption
    | ((with_reducible apply State.wrSat_keeps); (case d => rfl); (case hMk => rfl))
    | ((with_reducible apply modTsu_keeps); (case hMk => rfl))
    | ((with_reducible apply relock_keeps); (case hMk => rfl))
    | intro _
    | split
    | dsimp only
    | (refine Keeps.snd ?_ (by with_reducible assumption))

theorem pdWithhold_keeps {mk : Nat} {sIn : State} (raw : Int) (s : State) (hMk : 0x80000000000000000000000000000000000000000000000000000000000000000000000000000000000000000000000000000000000000000000000000000000000000000000000000000000000000000000000000000000000000000000000000000000000000080000040000000000000000000000000000000000000000000000000000000000000000000000000000000000000000000000000000000000000000000000000000000000000000000000000000000000000000000000000000000000000000000000000000000000000000 ||| mk = mk) (hIn : Keeps mk sIn s) : Keeps mk sIn (pdWithhold raw s) := by
  refine Keeps.step hMk ?_ hIn
  unfold pdWithhold
  try dsimp only
  repeat' first
    | with_reducible refine Keeps.ite ?_ ?_
    | with_reducible exact Keeps.refl
    | with_reducible assumption
    | ((with_reducible apply Keeps.wr); (case d => rfl); (case e => rfl))
    | ((with_reducible apply Keeps.inc); (case d => rfl); (case e => rfl))
    | ((with_reducible apply modTsu_keeps); (case hMk => rfl))
    | intro _
    | split
    | dsimp only
    | (refine Keeps.snd ?_ (by with_reducible assumption))

theorem servoDelay_keeps {mk : Nat} {sIn : State} (raw : Int) (s : State) (hMk : 0x50900000000000000000000000000000000000000000000000000000000000000000000000000000000000000000000000000020000000000000000000000000000000000000000000000000000000000000000018670001808000000008000000000000000000003c02c00760000000100000001a0000000000000000000000000000000000000000000000000000000000000000000000000000000000000000000000000000000000000000000000000000000000000000000000000000000000000000000000000000000000000000000000 ||| mk = mk) (hIn : Keeps mk sIn s) : Keeps mk sIn (servoDelay raw s) := by
  refine Keeps.step hMk ?_ hIn
  unfold servoDelay
  try dsimp only
  repeat' first
    | with_reducible refine Keeps.ite ?_ ?_
    | with_reducible exact Keeps.refl
    | with_reducible assumption
    | ((with_reducible apply Keeps.wr); (case d => rfl); (case e => rfl))
    | ((with_reducible apply State.wrSat_keeps); (case d => rfl); (case hMk => rfl))
    | ((with_reducible apply acceptStep_keeps); (case hMk => rfl))
    | ((with_reducible apply holdover_keeps); (case hMk => rfl))
    | ((with_reducible apply modTsu_keeps); (case hMk => rfl))
    | ((with_reducible apply pathStep_keeps); (case hMk => rfl))
    | ((with_reducible apply pdApply_keeps); (case hMk => rfl))
    | ((with_reducible apply pdWithhold_keeps); (case hMk => rfl))
    | ((with_reducible apply raise_keeps); (case d => rfl); (case hMk => rfl); (case hMk2 => rfl))
    | ((with_reducible apply relock_keeps); (case hMk => rfl))
    | intro _
    | split
    | dsimp only
    | (refine Keeps.snd ?_ (by with_reducible assumption))

theorem execHushWrite_keeps (t : Nat) (s : State) : KeepsR 0x1f010178100000000000000000000000000000000000000000000000000000000004c00000000000000010000000003800000002000000000000000000000000000000000000000000000000000000000000000001867000180800000000800000000000000000000000000000000000000000000000000000000000000000000000000000000000000000000000000000000000000000000400000000000000000000000000000000000000000000000000800000000000000000000000000980000000010407800080084800080000070e04f80 s (execHushWrite t s) := by
  unfold execHushWrite
  try dsimp only
  repeat' first
    | (with_reducible refine KeepsR.next ?_)
    | (with_reducible refine KeepsR.ite ?_ ?_)
    | with_reducible refine Keeps.ite ?_ ?_
    | with_reducible exact Keeps.refl
    | with_reducible assumption
    | ((with_reducible apply Keeps.put); (case d => rfl); (case e => rfl))
    | ((with_reducible apply Keeps.at); (case e => rfl); (case e2 => rfl))
    | ((with_reducible apply hushAsk_keeps); (case hMk => rfl))
    | ((with_reducible apply modCel_keeps); (case hMk => rfl))
    | intro _
    | split
    | dsimp only
    | (refine Keeps.snd ?_ (by with_reducible assumption))

theorem execHushEntry_keeps (t : Nat) (s : State) : KeepsR 0x1d010178100000000000000000000000000000000000000000000000000000000004c00000000000000010000000003000000002000000000000000000000000000000000000000000000000000000000000000001867000180800000000800000000000000000000000000000000000000000000000000000000000000000000000000000000000000000000000000000000000000000000400000000000000000000000000000000000000000000000000800000000000000000000000000980000000010407800080084800080000070e04f80 s (execHushEntry t s) := by
  unfold execHushEntry
  try dsimp only
  repeat' first
    | (with_reducible refine KeepsR.next ?_)
    | (with_reducible refine KeepsR.ite ?_ ?_)
    | with_reducible refine Keeps.ite ?_ ?_
    | with_reducible exact Keeps.refl
    | with_reducible assumption
    | ((with_reducible apply Keeps.at); (case e => rfl); (case e2 => rfl))
    | ((with_reducible apply hushGo_keeps); (case hMk => rfl))
    | intro _
    | split
    | dsimp only
    | (refine Keeps.snd ?_ (by with_reducible assumption))

theorem execHushExit_keeps (t : Nat) (s : State) : KeepsR 0x1f010068100000000000000000000000000000000000000000000000000000000004c00000000400000000000000003800000002000000000000000000000000000000000000000000000000000000000000000001867000180800000000800000000000000000000000000000000000000000000000000000000000000000000000000000000000000000000000000000000000000000000400000000000000000000000000000000000000000000000000000000000000000000000000000980000000010407800000084000000000001f00380 s (execHushExit t s) := by
  unfold execHushExit
  try dsimp only
  repeat' first
    | (with_reducible refine KeepsR.next ?_)
    | (with_reducible refine KeepsR.ite ?_ ?_)
    | with_reducible refine Keeps.ite ?_ ?_
    | with_reducible exact Keeps.refl
    | with_reducible assumption
    | ((with_reducible apply Keeps.put); (case d => rfl); (case e => rfl))
    | ((with_reducible apply Keeps.at); (case e => rfl); (case e2 => rfl))
    | ((with_reducible apply hushEnd_keeps); (case hMk => rfl))
    | ((with_reducible apply modCel_keeps); (case hMk => rfl))
    | intro _
    | split
    | dsimp only
    | (refine Keeps.snd ?_ (by with_reducible assumption))

theorem execSleepRequest_keeps (target : Nat) (key : Nat) (t : Nat) (s : State) : KeepsR 0x1f010178100000000000000000000000000000000000000000000000000000000004c00000000000000000000000071000200002000000000000000000000000000000000000000000000000000000000000000001867000180800000000800000000000000000000000000000000000000000000000000000000000000000000000000000000000000000000000000000000000000000000400000000000000000000000000000000000000000000000000800000000000000000000000000980000000010407800080084800080000070e04f80 s (execSleepRequest target key t s) := by
  unfold execSleepRequest
  try dsimp only
  repeat' first
    | (with_reducible refine KeepsR.next ?_)
    | (with_reducible refine KeepsR.ite ?_ ?_)
    | with_reducible refine Keeps.ite ?_ ?_
    | with_reducible exact Keeps.refl
    | with_reducible assumption
    | ((with_reducible apply Keeps.wr); (case d => rfl); (case e => rfl))
    | ((with_reducible apply Keeps.put); (case d => rfl); (case e => rfl))
    | ((with_reducible apply Keeps.at); (case e => rfl); (case e2 => rfl))
    | ((with_reducible apply celRaise_keeps); (case d => rfl); (case hMk => rfl); (case hMk2 => rfl))
    | ((with_reducible apply modCel_keeps); (case hMk => rfl))
    | ((with_reducible apply radiosStop_keeps); (case hMk => rfl))
    | intro _
    | split
    | dsimp only
    | (refine Keeps.snd ?_ (by with_reducible assumption))

theorem execSleepQuiesceComplete_keeps (t : Nat) (s : State) : KeepsR 0xa000000100000000000000000000000000000000000000000000000000000000000000000000000000000000000000000000000000000000000000000000000000000000000000000000000000000000000000000000000000000000000000000000000000000000000000000000000000000000000000000000000000000000000000000000000000000000000000000000000000000000000000000000000000000000000000000000000000000000000000000000000000000000000000000000000000000000000000000000000000000000 s (execSleepQuiesceComplete t s) := by
  unfold execSleepQuiesceComplete
  try dsimp only
  repeat' first
    | (with_reducible refine KeepsR.next ?_)
    | (with_reducible refine KeepsR.ite ?_ ?_)
    | with_reducible refine Keeps.ite ?_ ?_
    | with_reducible exact Keeps.refl
    | with_reducible assumption
    | ((with_reducible apply Keeps.at); (case e => rfl); (case e2 => rfl))
    | ((with_reducible apply modCel_keeps); (case hMk => rfl))
    | intro _
    | split
    | dsimp only
    | (refine Keeps.snd ?_ (by with_reducible assumption))

theorem execSleepIsolation_keeps (t : Nat) (s : State) : KeepsR 0xa000000100000000000000000000000000000000000000000000000000000000000000000000000000000000000000000000000000000000000000000000000000000000000000000000000000000000000000000000000000000000000000000000000000000000000000000000000000000000000000000000000000000000000000000000000000000000000000000000000000000000000000000000000000000000000000000000000000000000000000000000000000000000000000000000000000000000000000000000000000000000 s (execSleepIsolation t s) := by
  unfold execSleepIsolation
  try dsimp only
  repeat' first
    | (with_reducible refine KeepsR.next ?_)
    | (with_reducible refine KeepsR.ite ?_ ?_)
    | with_reducible refine Keeps.ite ?_ ?_
    | with_reducible exact Keeps.refl
    | with_reducible assumption
    | ((with_reducible apply Keeps.at); (case e => rfl); (case e2 => rfl))
    | ((with_reducible apply modCel_keeps); (case hMk => rfl))
    | intro _
    | split
    | dsimp only
    | (refine Keeps.snd ?_ (by with_reducible assumption))

theorem sleepAbort_keeps {mk : Nat} {sIn : State} (e : SleepEntry) (s : State) (hMk : 0x17010178000000000000000000000000000000000000000000000000000000000004c00000000400000010400000073000200002000000000000000000000000000000000000000000000000000000000000000001867000180800000000800000000000000000000000000000000000000000000000000000000000000000000000000000000000000000000000000000000000000000000400000000000000000000000000000000000000000000000000800000000000000000000000000980000000010407800080084800080000071f04f80 ||| mk = mk) (hIn : Keeps mk sIn s) : Keeps mk sIn (sleepAbort e s) := by
  refine Keeps.step hMk ?_ hIn
  unfold sleepAbort
  try dsimp only
  repeat' first
    | with_reducible refine Keeps.ite ?_ ?_
    | with_reducible exact Keeps.refl
    | with_reducible assumption
    | ((with_reducible apply Keeps.wr); (case d => rfl); (case e => rfl))
    | ((with_reducible apply Keeps.put); (case d => rfl); (case e => rfl))
    | ((with_reducible apply Keeps.inc); (case d => rfl); (case e => rfl))
    | ((with_reducible apply celRaise_keeps); (case d => rfl); (case hMk => rfl); (case hMk2 => rfl))
    | ((with_reducible apply eventsFlow_keeps); (case hMk => rfl))
    | ((with_reducible apply hushAsk_keeps); (case hMk => rfl))
    | ((with_reducible apply hushEnd_keeps); (case hMk => rfl))
    | ((with_reducible apply modCel_keeps); (case hMk => rfl))
    | ((with_reducible apply radiosStart_keeps); (case hMk => rfl))
    | intro _
    | split
    | dsimp only
    | (refine Keeps.snd ?_ (by with_reducible assumption))

theorem execSleepWakeSample_keeps (t : Nat) (s : State) : KeepsR 0x7fefefff7ffffffffffffffffffffffffffffffffffffffffffffffffffffffffffffffffffffffffffffffffffffffffffffffffffffffffffffffffffffffffffffffffffffffffffffffffffffffffffffffffffffffffffffffffffffffffffffffffffffffffffffffffffffffffffffffffffffffffffffffffffffffffffffffffffffffffffffffffffffffffffffffffffffffffffffffffffffffffffffffffffffffffffffffffffffffffffffffffffffffffffffffffffffffffffffffffffffffffffffffffffffffffffffffff s (execSleepWakeSample t s) := by
  unfold execSleepWakeSample
  try dsimp only
  repeat' first
    | (with_reducible refine KeepsR.next ?_)
    | (with_reducible refine KeepsR.ite ?_ ?_)
    | with_reducible refine Keeps.ite ?_ ?_
    | with_reducible exact Keeps.refl
    | with_reducible assumption
    | ((with_reducible apply Keeps.inc); (case d => rfl); (case e => rfl))
    | ((with_reducible apply Keeps.at); (case e => rfl); (case e2 => rfl))
    | ((with_reducible apply corePowerOff_keeps); (case hMk => rfl))
    | ((with_reducible apply ledgerNew_keeps); (case hMk => rfl))
    | ((with_reducible apply powerPins_keeps); (case hMk => rfl))
    | ((with_reducible apply sleepAbort_keeps); (case hMk => rfl))
    | intro _
    | split
    | dsimp only
    | (refine Keeps.snd ?_ (by with_reducible assumption))

theorem execPgOffTimeout_keeps (s : State) : KeepsR 0x20000000000000000000000000000000000000000000000000000000000000000000000000000200004000c0000400000080000000000000000000000000000000000000000000000000000000000000000000000000000000000000000000000000000000000000000000000000000000000000000000000000000000000000000000000000000000000000000000000000000000000000000000000000000000000000000000000000000000000000000000000000000000000000000000000000000000000000000000000000000000000000 s (execPgOffTimeout s) := by
  unfold execPgOffTimeout
  try dsimp only
  repeat' first
    | (with_reducible refine KeepsR.next ?_)
    | (with_reducible refine KeepsR.ite ?_ ?_)
    | with_reducible refine Keeps.ite ?_ ?_
    | with_reducible exact Keeps.refl
    | with_reducible assumption
    | ((with_reducible apply ledgerPut_keeps); (case hMk => rfl))
    | ((with_reducible apply wakeTry_keeps); (case hMk => rfl))
    | intro _
    | split
    | dsimp only
    | (refine Keeps.snd ?_ (by with_reducible assumption))

theorem execPwrGoodFall_keeps (t : Nat) (s : State) : KeepsR 0x7fefefff7ffffffffffffffffffffffffffffffffffffffffffffffffffffffffffffffffffffffffffffffffffffffffffffffffffffffffffffffffffffffffffffffffffffffffffffffffffffffffffffffffffffffffffffffffffffffffffffffffffffffffffffffffffffffffffffffffffffffffffffffffffffffffffffffffffffffffffffffffffffffffffffffffffffffffffffffffffffffffffffffffffffffffffffffffffffffffffffffffffffffffffffffffffffffffffffffffffffffffffffffffffffffffffffffff s (execPwrGoodFall t s) := by
  unfold execPwrGoodFall
  try dsimp only
  repeat' first
    | (with_reducible refine KeepsR.next ?_)
    | (with_reducible refine KeepsR.ite ?_ ?_)
    | with_reducible refine Keeps.ite ?_ ?_
    | with_reducible exact Keeps.refl
    | with_reducible assumption
    | ((with_reducible apply Keeps.inc); (case d => rfl); (case e => rfl))
    | ((with_reducible apply Keeps.at); (case e => rfl); (case e2 => rfl))
    | ((with_reducible apply corePowerOff_keeps); (case hMk => rfl))
    | ((with_reducible apply ledgerNew_keeps); (case hMk => rfl))
    | ((with_reducible apply modCel_keeps); (case hMk => rfl))
    | ((with_reducible apply powerPins_keeps); (case hMk => rfl))
    | ((with_reducible apply wakeTry_keeps); (case hMk => rfl))
    | intro _
    | split
    | dsimp only
    | (refine Keeps.snd ?_ (by with_reducible assumption))

theorem pinDebounce_keeps {mk : Nat} {sIn : State} (k : Nat) (s : State) (hMk : 0x2000000000000000000000000000000000000000000000000000000000000000000000000000000000040000000000000000000000000000000000000000000000000000000000000000000000000000000000000000000000000000000000000000000000000000000000000000000000000000000000000000000000000000000000000000000000000000000000000000000000000000000000000000000000000000000000000000000000000000000000000000000000000000000000000000000000000000000000000000000000000000 ||| mk = mk) (hIn : Keeps mk sIn s) : Keeps mk sIn (pinDebounce k s) := by
  refine Keeps.step hMk ?_ hIn
  unfold pinDebounce
  try dsimp only
  repeat' first
    | with_reducible refine Keeps.ite ?_ ?_
    | with_reducible exact Keeps.refl
    | with_reducible assumption
    | ((with_reducible apply modCel_keeps); (case hMk => rfl))
    | ((with_reducible apply wakeLatch_keeps); (case hMk => rfl))
    | intro _
    | split
    | dsimp only
    | (refine Keeps.snd ?_ (by with_reducible assumption))

theorem pinCount_keeps {mk : Nat} {sIn : State} (s : State) (hMk : 0x2000000000000000000000000000000000000000000000000000000000000000000000000000000800000000000000000000000000000000000000000000000000000000000000000000000000000000000000000000000000000000000000000000000000000000000000000000000000000000000000000000000000000000000000000000000000000000000000000000000000000000000000000000000000000000000000000000000000000000000000000000000000000000000000000000000000000000000000000000000000000000 ||| mk = mk) (hIn : Keeps mk sIn s) : Keeps mk sIn (pinCount s) := by
  refine Keeps.step hMk ?_ hIn
  unfold pinCount
  try dsimp only
  repeat' first
    | with_reducible refine Keeps.ite ?_ ?_
    | with_reducible exact Keeps.refl
    | with_reducible assumption
    | ((with_reducible apply Keeps.addSat); (case d => rfl); (case e => rfl))
    | (with_reducible refine Keeps.when _ _ ?_ ?_)
    | ((with_reducible apply modCel_keeps); (case hMk => rfl))
    | intro _
    | split
    | dsimp only
    | (refine Keeps.snd ?_ (by with_reducible assumption))

theorem pinsSettle_keeps {mk : Nat} {sIn : State} (s : State) (hMk : 0x2000000000000000000000000000000000000000000000000000000000000000000000000000000800040000000000000000000000000000000000000000000000000000000000000000000000000000000000000000000000000000000000000000000000000000000000000000000000000000000000000000000000000000000000000000000000000000000000000000000000000000000000000000000000000000000000000000000000000000000000000000000000000000000000000000000000000000000000000000000000000000 ||| mk = mk) (hIn : Keeps mk sIn s) : Keeps mk sIn (pinsSettle s) := by
  refine Keeps.step hMk ?_ hIn
  unfold pinsSettle
  try dsimp only
  repeat' first
    | with_reducible refine Keeps.ite ?_ ?_
    | with_reducible exact Keeps.refl
    | with_reducible assumption
    | (with_reducible refine Keeps.each _ _ ?_ ?_)
    | ((with_reducible apply pinCount_keeps); (case hMk => rfl))
    | ((with_reducible apply pinDebounce_keeps); (case hMk => rfl))
    | intro _
    | split
    | dsimp only
    | (refine Keeps.snd ?_ (by with_reducible assumption))

theorem wakePin_keeps {mk : Nat} {sIn : State} (k : Nat) (high : Bool) (s : State) (hMk : 0x2000000000000000000000000000000000000000000000000000000000000000000000000000000000040020000000000000000000000000000000000000000000000000000000000000000000000000000000000000000000000000000000000000000000000000000000000000000000000000000000000000000000000000000000000000000000000000000000000000000000000000000000000000000000000000000000000000000000000000000000000000000000000000000000000000000000000000000000000000000000000000 ||| mk = mk) (hIn : Keeps mk sIn s) : Keeps mk sIn (wakePin k high s) := by
  refine Keeps.step hMk ?_ hIn
  unfold wakePin
  try dsimp only
  repeat' first
    | with_reducible refine Keeps.ite ?_ ?_
    | with_reducible exact Keeps.refl
    | with_reducible assumption
    | ((with_reducible apply Keeps.wr); (case d => rfl); (case e => rfl))
    | ((with_reducible apply modCel_keeps); (case hMk => rfl))
    | ((with_reducible apply pinDebounce_keeps); (case hMk => rfl))
    | intro _
    | split
    | dsimp only
    | (refine Keeps.snd ?_ (by with_reducible assumption))

theorem execWakeSource_keeps (code : Fin 9) (high : Bool) (s : State) : KeepsR 0x20000000000000000000000000000000000000000000000000000000000000000000000000000200004400e0000400000080000000000000000000000000000000000000000000000000000000000000000000000000000000000000000000000000000000000000000000000000000000000000000000000000000000000000000000000000000000000000000000000000000000000000000000000000000000000000000000000000000000000000000000000000000000000000000000000000000000000000000000000000000000000000 s (execWakeSource code high s) := by
  unfold execWakeSource
  try dsimp only
  repeat' first
    | (with_reducible refine KeepsR.next ?_)
    | (with_reducible refine KeepsR.ite ?_ ?_)
    | with_reducible refine Keeps.ite ?_ ?_
    | with_reducible exact Keeps.refl
    | with_reducible assumption
    | ((with_reducible apply wakeLatch_keeps); (case hMk => rfl))
    | ((with_reducible apply wakePin_keeps); (case hMk => rfl))
    | ((with_reducible apply wakeTry_keeps); (case hMk => rfl))
    | intro _
    | split
    | dsimp only
    | (refine Keeps.snd ?_ (by with_reducible assumption))

theorem execPgWaitTimeout_keeps (s : State) : KeepsR 0x20000000000000000000000000000000000000000000000000000000000000000000000000000200000010c0000400000080000000000000000000000000000000000000000000000000000000000000000000000000000000000000000000000000000000000000000000000000000000000000000000000000000000000000000000000000000000000000000000000000000000000000000000000000000000000000000000000000000000000000000000000000000000000000000000000000000000000000000000000000000000000000 s (execPgWaitTimeout s) := by
  unfold execPgWaitTimeout
  try dsimp only
  repeat' first
    | (with_reducible refine KeepsR.next ?_)
    | (with_reducible refine KeepsR.ite ?_ ?_)
    | with_reducible refine Keeps.ite ?_ ?_
    | with_reducible exact Keeps.refl
    | with_reducible assumption
    | ((with_reducible apply Keeps.inc); (case d => rfl); (case e => rfl))
    | ((with_reducible apply ledgerPut_keeps); (case hMk => rfl))
    | ((with_reducible apply modCel_keeps); (case hMk => rfl))
    | ((with_reducible apply powerPins_keeps); (case hMk => rfl))
    | intro _
    | split
    | dsimp only
    | (refine Keeps.snd ?_ (by with_reducible assumption))

theorem execWakeBackoffExpiry_keeps (s : State) : KeepsR 0x20000000000000000000000000000000000000000000000000000000000000000000000000000200004000c0000400000080000000000000000000000000000000000000000000000000000000000000000000000000000000000000000000000000000000000000000000000000000000000000000000000000000000000000000000000000000000000000000000000000000000000000000000000000000000000000000000000000000000000000000000000000000000000000000000000000000000000000000000000000000000000000 s (execWakeBackoffExpiry s) := by
  unfold execWakeBackoffExpiry
  try dsimp only
  repeat' first
    | (with_reducible refine KeepsR.next ?_)
    | (with_reducible refine KeepsR.ite ?_ ?_)
    | with_reducible refine Keeps.ite ?_ ?_
    | with_reducible exact Keeps.refl
    | with_reducible assumption
    | ((with_reducible apply modCel_keeps); (case hMk => rfl))
    | ((with_reducible apply wakeTry_keeps); (case hMk => rfl))
    | intro _
    | split
    | dsimp only
    | (refine Keeps.snd ?_ (by with_reducible assumption))

theorem execWatchSample_keeps (ana : Nat) (pins : Nat) (s : State) : KeepsR 0x701000000000000000000000000000000000000000000000000000000000000000000000000003e0004400c0000400001080002000000000000000000000000000000000000000000000000000000000000000001867000180800000000800000000000000000000000000000000000000000000000000000000000000000000000000000000000000000000000000000000000000000000000000000000000000000000000000000000000000000000000000000000000000000000000000000000000000000000000000000000000000000000 s (execWatchSample ana pins s) := by
  unfold execWatchSample
  try dsimp only
  repeat' first
    | (with_reducible refine KeepsR.next ?_)
    | (with_reducible refine KeepsR.ite ?_ ?_)
    | with_reducible refine Keeps.ite ?_ ?_
    | with_reducible exact Keeps.refl
    | with_reducible assumption
    | ((with_reducible apply Keeps.wr); (case d => rfl); (case e => rfl))
    | ((with_reducible apply Keeps.inc); (case d => rfl); (case e => rfl))
    | ((with_reducible apply Keeps.addSat); (case d => rfl); (case e => rfl))
    | ((with_reducible apply celRaise_keeps); (case d => rfl); (case hMk => rfl); (case hMk2 => rfl))
    | ((with_reducible apply modCel_keeps); (case hMk => rfl))
    | ((with_reducible apply wakeLatch_keeps); (case hMk => rfl))
    | ((with_reducible apply wakeTry_keeps); (case hMk => rfl))
    | intro _
    | split
    | dsimp only
    | (refine Keeps.snd ?_ (by with_reducible assumption))

theorem rtcAdvance_keeps {mk : Nat} {sIn : State} (s : State) (hMk : 0x2000000000000000000000000000000000000000000000000000000000000000000000000000000000000000000000000020000000000000000000000000000000000000000000000000000000000000000000000000000000000000000000000000000000000000000000000000000000000000000000000000000000000000000000000000000000000000000000000000000000000000000000000000000000000000000000000000000000000000000000000000000000000000000000000000000000000000000000000000000000000000 ||| mk = mk) (hIn : Keeps mk sIn s) : Keeps mk sIn (rtcAdvance s) := by
  refine Keeps.step hMk ?_ hIn
  unfold rtcAdvance
  try dsimp only
  repeat' first
    | with_reducible refine Keeps.ite ?_ ?_
    | with_reducible exact Keeps.refl
    | with_reducible assumption
    | ((with_reducible apply Keeps.put); (case d => rfl); (case e => rfl))
    | ((with_reducible apply modCel_keeps); (case hMk => rfl))
    | intro _
    | split
    | dsimp only
    | (refine Keeps.snd ?_ (by with_reducible assumption))

theorem execRtcTick_keeps (t : Nat) (s : State) : KeepsR 0xf0300001000000000000000000000000000000000000000000000020180700009000000000000208004400c40104000020e0002000000000000000000000000000000000000000000000000000000000000000001867000180800000000800000000000000000000000000000000000000000000000000000000000000000000000000000000000000000000000000000000000000000000000000000000000000000000000000000000000000000000000000000000000000000000000000000000000000000000000000000000000000000000 s (execRtcTick t s) := by
  unfold execRtcTick
  try dsimp only
  repeat' first
    | (with_reducible refine KeepsR.next ?_)
    | (with_reducible refine KeepsR.ite ?_ ?_)
    | with_reducible refine Keeps.ite ?_ ?_
    | with_reducible exact Keeps.refl
    | with_reducible assumption
    | ((with_reducible apply Keeps.wr); (case d => rfl); (case e => rfl))
    | ((with_reducible apply Keeps.put); (case d => rfl); (case e => rfl))
    | ((with_reducible apply Keeps.addSat); (case d => rfl); (case e => rfl))
    | (with_reducible refine Keeps.when _ _ ?_ ?_)
    | ((with_reducible apply celAt_keeps); (case hMk => rfl))
    | ((with_reducible apply celRaise_keeps); (case d => rfl); (case hMk => rfl); (case hMk2 => rfl))
    | ((with_reducible apply ledgerExit_keeps); (case hMk => rfl))
    | ((with_reducible apply modCel_keeps); (case hMk => rfl))
    | ((with_reducible apply morCommit_keeps); (case hMk => rfl))
    | ((with_reducible apply pinsSettle_keeps); (case hMk => rfl))
    | ((with_reducible apply rtcAdvance_keeps); (case hMk => rfl))
    | ((with_reducible apply wakeLatch_keeps); (case hMk => rfl))
    | ((with_reducible apply wakeTry_keeps); (case hMk => rfl))
    | intro _
    | split
    | dsimp only
    | (refine Keeps.snd ?_ (by with_reducible assumption))

theorem execRtcSet_keeps (t : Nat) (s : State) : KeepsR 0xa000000100000000000000000000000000000000000000000000000000000000000000000000000000000000000000000000000000000000000000000000000000000000000000000000000000000000000000000000000000000000000000000000000000000000000000000000000000000000000000000000000000000000000000000000000000000000000000000000000000000000000000000000000000000000000000000000000000000000000000000000000000000000000000000000000000000000000000000000000000000000 s (execRtcSet t s) := by
  unfold execRtcSet
  try dsimp only
  repeat' first
    | (with_reducible refine KeepsR.next ?_)
    | (with_reducible refine KeepsR.ite ?_ ?_)
    | with_reducible refine Keeps.ite ?_ ?_
    | with_reducible exact Keeps.refl
    | with_reducible assumption
    | ((with_reducible apply Keeps.at); (case e => rfl); (case e2 => rfl))
    | ((with_reducible apply modCel_keeps); (case hMk => rfl))
    | intro _
    | split
    | dsimp only
    | (refine Keeps.snd ?_ (by with_reducible assumption))

theorem execCelRtcTickRead_keeps (requester : Requester) (t : Nat) (s : State) : KeepsR 0x8000000900000000000000000000000000000000000000000000000000000000000000000000000000000000008000000000000000000000000000000000000000000000000000000000000000000000000000000000000000000000000000000000000000000000000000000000000000000000000000000000000000000000000000000000000000000000000000000000000000000000000000000000000000000000000000000000000000000000000000000000000000000000000000000000000000000000000000000000000000000000 s (execCelRtcTickRead requester t s) := by
  unfold execCelRtcTickRead
  try dsimp only
  repeat' first
    | (with_reducible refine KeepsR.next ?_)
    | (with_reducible refine KeepsR.ite ?_ ?_)
    | with_reducible refine Keeps.ite ?_ ?_
    | with_reducible exact Keeps.refl
    | with_reducible assumption
    | ((with_reducible apply Keeps.wr); (case d => rfl); (case e => rfl))
    | ((with_reducible apply Keeps.at); (case e => rfl); (case e2 => rfl))
    | ((with_reducible apply Keeps.answer); (case e => rfl))
    | intro _
    | split
    | dsimp only
    | (refine Keeps.snd ?_ (by with_reducible assumption))

theorem execAnchorStamp_keeps (t : Nat) (s : State) : KeepsR 0xa10000010000000000000000000000000000000000000000000000000000000000000000000000000000000c000000000000000000000000000000000000000000000000000000000000000000000000000000000000000000000000000000000000000000000000000000000000000000000000000000000000000000000000000000000000000000000000000000000000000000000000000000000000000000000000000000000000000000000000000000000000000000000000000000000000000000000000000000000000000000000000 s (execAnchorStamp t s) := by
  unfold execAnchorStamp
  try dsimp only
  repeat' first
    | (with_reducible refine KeepsR.next ?_)
    | (with_reducible refine KeepsR.ite ?_ ?_)
    | with_reducible refine Keeps.ite ?_ ?_
    | with_reducible exact Keeps.refl
    | with_reducible assumption
    | ((with_reducible apply Keeps.wr); (case d => rfl); (case e => rfl))
    | ((with_reducible apply Keeps.put); (case d => rfl); (case e => rfl))
    | ((with_reducible apply Keeps.at); (case e => rfl); (case e2 => rfl))
    | ((with_reducible apply modCel_keeps); (case hMk => rfl))
    | intro _
    | split
    | dsimp only
    | (refine Keeps.snd ?_ (by with_reducible assumption))
    | ((with_reducible apply Keeps.set_anchor); (case e => rfl))

theorem execVbatSample_keeps (level : Nat) (celsius : Int) (s : State) : KeepsR 0x70100000000000000000000000000000000000000000000000000000000000000000000000000200004480d0006400000580002000000000000000000000000000000000000000000000000000000000000000001867000180800000000800000000000000000000000000000000000000000000000000000000000000000000000000000000000000000000000000000000000000000000000000000000000000000000000000000000000000000000000000000000000000000000000000000000000000000000000000000000000000000000 s (execVbatSample level celsius s) := by
  unfold execVbatSample
  try dsimp only
  repeat' first
    | (with_reducible refine KeepsR.next ?_)
    | (with_reducible refine KeepsR.ite ?_ ?_)
    | with_reducible refine Keeps.ite ?_ ?_
    | with_reducible exact Keeps.refl
    | with_reducible assumption
    | ((with_reducible apply Keeps.wr); (case d => rfl); (case e => rfl))
    | ((with_reducible apply Keeps.put); (case d => rfl); (case e => rfl))
    | ((with_reducible apply Keeps.inc); (case d => rfl); (case e => rfl))
    | ((with_reducible apply Keeps.wrS); (case d => rfl); (case e => rfl))
    | (with_reducible refine Keeps.when _ _ ?_ ?_)
    | ((with_reducible apply celRaise_keeps); (case d => rfl); (case hMk => rfl); (case hMk2 => rfl))
    | ((with_reducible apply modCel_keeps); (case hMk => rfl))
    | ((with_reducible apply wakeLatch_keeps); (case hMk => rfl))
    | ((with_reducible apply wakeTry_keeps); (case hMk => rfl))
    | intro _
    | split
    | dsimp only
    | (refine Keeps.snd ?_ (by with_reducible assumption))

theorem execRegLimit_keeps (on : Bool) (s : State) : KeepsR 0x5010000000000000000000000000000000000000000000000000000000000000000000000000000000004000000800000800002000000000000000000000000000000000000000000000000000000000000000001867000180800000000800000000000000000000000000000000000000000000000000000000000000000000000000000000000000000000000000000000000000000000000000000000000000000000000000000000000000000000000000000000000000000000000000000000000000000000000000000000000000000000 s (execRegLimit on s) := by
  unfold execRegLimit
  try dsimp only
  repeat' first
    | (with_reducible refine KeepsR.next ?_)
    | (with_reducible refine KeepsR.ite ?_ ?_)
    | with_reducible refine Keeps.ite ?_ ?_
    | with_reducible exact Keeps.refl
    | with_reducible assumption
    | ((with_reducible apply Keeps.put); (case d => rfl); (case e => rfl))
    | ((with_reducible apply Keeps.inc); (case d => rfl); (case e => rfl))
    | ((with_reducible apply celRaise_keeps); (case d => rfl); (case hMk => rfl); (case hMk2 => rfl))
    | intro _
    | split
    | dsimp only
    | (refine Keeps.snd ?_ (by with_reducible assumption))

theorem execCellarBrownout_keeps (s : State) : KeepsR 0x7fffefff7ffffffffffffffffffffffffffffffffffffffffffffffffffffffffffffffffffffffffffffffffffffffffffffffffffffffffffffffffffffffffffffffffffffffffffffffffffffffffffffffffffffffffffffffffffffffffffffffffffffffffffffffffffffffffffffffffffffffffffffffffffffffffffffffffffffffffffffffffffffffffffffffffffffffffffffffffffffffffffffffffffffffffffffffffffffffffffffffffffffffffffffffffffffffffffffffffffffffffffffffffffffffffffffffff s (execCellarBrownout s) := by
  have q : ∀ (x : State) (c : Cel), Keeps 0x7fffefff7ffffffffffffffffffffffffffffffffffffffffffffffffffffffffffffffffffffffffffffffffffffffffffffffffffffffffffffffffffffffffffffffffffffffffffffffffffffffffffffffffffffffffffffffffffffffffffffffffffffffffffffffffffffffffffffffffffffffffffffffffffffffffffffffffffffffffffffffffffffffffffffffffffffffffffffffffffffffffffffffffffffffffffffffffffffffffffffffffffffffffffffffffffffffffffffffffffffffffffffffffffffffffffffffff s x → Keeps 0x7fffefff7ffffffffffffffffffffffffffffffffffffffffffffffffffffffffffffffffffffffffffffffffffffffffffffffffffffffffffffffffffffffffffffffffffffffffffffffffffffffffffffffffffffffffffffffffffffffffffffffffffffffffffffffffffffffffffffffffffffffffffffffffffffffffffffffffffffffffffffffffffffffffffffffffffffffffffffffffffffffffffffffffffffffffffffffffffffffffffffffffffffffffffffffffffffffffffffffffffffffffffffffffffffffffffffffff s { x with cellar := [], anchor := none, cel := c } := by
    intro x c h
    refine h.trans {
      rd := fun f k h => by rw [all_bit (show 0xffffffffffffffffffffffffffffffffffffffffffffffffffffffffffffffffffffffffffffffffffffffffffffffffffffffffffffffffffffffffffffffffffffffffffffffffffffffffffffffffffffffffffffffffffffffffffffffffffffffffffffffffffffffffffffffffffffffffffffffffffffffffffffffffffffffffffffffffffffffffffffffffffffffffffffffffffffffffffffffffffffffffffffffffffffffffffffffffffffffffffffffffffffffffffffffffffffffffffffffffffffffffffffffff ||| 0x7fffefff7ffffffffffffffffffffffffffffffffffffffffffffffffffffffffffffffffffffffffffffffffffffffffffffffffffffffffffffffffffffffffffffffffffffffffffffffffffffffffffffffffffffffffffffffffffffffffffffffffffffffffffffffffffffffffffffffffffffffffffffffffffffffffffffffffffffffffffffffffffffffffffffffffffffffffffffffffffffffffffffffffffffffffffffffffffffffffffffffffffffffffffffffffffffffffffffffffffffffffffffffffffffffffffffffff = 0x7fffefff7ffffffffffffffffffffffffffffffffffffffffffffffffffffffffffffffffffffffffffffffffffffffffffffffffffffffffffffffffffffffffffffffffffffffffffffffffffffffffffffffffffffffffffffffffffffffffffffffffffffffffffffffffffffffffffffffffffffffffffffffffffffffffffffffffffffffffffffffffffffffffffffffffffffffffffffffffffffffffffffffffffffffffffffffffffffffffffffffffffffffffffffffffffffffffffffffffffffffffffffffffffffffffffffffff from rfl) k] at h; cases h
      pending := rfl
      rc := fun _ => rfl
      tsuOfs := fun _ => rfl
      freeCtr := fun _ => rfl
      bus := fun _ => rfl
      latch := fun _ => rfl
      nodes := fun _ => rfl
      hoar := fun _ => rfl
      fe := fun _ => rfl
      dc := fun _ => rfl
      slices := fun _ => rfl
      sniffers := fun _ => rfl
      mac := fun _ => rfl
      lanes := fun _ => rfl
      src := fun _ => rfl
      qms := fun _ => rfl
      sec := fun _ => rfl
      jdev := fun _ => rfl
      fwd := fun _ => rfl
      camps := fun _ => rfl
      pressOctets := fun _ => rfl
      hif := fun _ => rfl
      flt := fun _ => rfl
      pair := fun _ => rfl
      tsu := fun _ => rfl
      anchor := fun h => by cases h
      fuse := fun _ => rfl
      cave := fun _ => rfl
      boot := fun _ => rfl
      pcr := fun _ => rfl
      cel := fun h => by cases h
      mem := fun _ => ⟨rfl, rfl⟩
      frac := fun _ => rfl
      plans := fun _ => rfl
      specAt := fun _ => rfl
      pressAt := fun _ => rfl
      form := fun h => h }
  unfold execCellarBrownout
  dsimp only
  split
  · exact KeepsR.next Keeps.refl
  · exact KeepsR.next (q _ _ (corePowerOff_keeps _ _ rfl Keeps.refl))

theorem execCellarPowerUp_keeps (vbat : Bool) (s : State) : KeepsR 0x21000000ffffffffffffffffffffffffffffffffffffffffffffffffffffffffffffffffffffffffffffffffffffffffffffffffffffffffffffffffffffffffffffffffffffffffffffffffffffffffffffffffffffffffffffffffffffffffffffffffffffffffffffffffffffffffffffffffffffffffffffffffffffffffffffffffffffffffffffffffffffffffffffffffffffffffffffffffffffffffffffffffffffffffffffffffffffffffffffffffffffffffffffffffffffffffffffffffffffffffffffffffffffffffffffffff s (execCellarPowerUp vbat s) := by
  have q : ∀ (x : State) (c : Cel), Keeps 0x21000000ffffffffffffffffffffffffffffffffffffffffffffffffffffffffffffffffffffffffffffffffffffffffffffffffffffffffffffffffffffffffffffffffffffffffffffffffffffffffffffffffffffffffffffffffffffffffffffffffffffffffffffffffffffffffffffffffffffffffffffffffffffffffffffffffffffffffffffffffffffffffffffffffffffffffffffffffffffffffffffffffffffffffffffffffffffffffffffffffffffffffffffffffffffffffffffffffffffffffffffffffffffffffffffffff s x → Keeps 0x21000000ffffffffffffffffffffffffffffffffffffffffffffffffffffffffffffffffffffffffffffffffffffffffffffffffffffffffffffffffffffffffffffffffffffffffffffffffffffffffffffffffffffffffffffffffffffffffffffffffffffffffffffffffffffffffffffffffffffffffffffffffffffffffffffffffffffffffffffffffffffffffffffffffffffffffffffffffffffffffffffffffffffffffffffffffffffffffffffffffffffffffffffffffffffffffffffffffffffffffffffffffffffffffffffffff s { x with cellar := [], anchor := none, cel := c } := by
    intro x c h
    refine h.trans {
      rd := fun f k h => by rw [all_bit (show 0xffffffffffffffffffffffffffffffffffffffffffffffffffffffffffffffffffffffffffffffffffffffffffffffffffffffffffffffffffffffffffffffffffffffffffffffffffffffffffffffffffffffffffffffffffffffffffffffffffffffffffffffffffffffffffffffffffffffffffffffffffffffffffffffffffffffffffffffffffffffffffffffffffffffffffffffffffffffffffffffffffffffffffffffffffffffffffffffffffffffffffffffffffffffffffffffffffffffffffffffffffffffffffffffff ||| 0x21000000ffffffffffffffffffffffffffffffffffffffffffffffffffffffffffffffffffffffffffffffffffffffffffffffffffffffffffffffffffffffffffffffffffffffffffffffffffffffffffffffffffffffffffffffffffffffffffffffffffffffffffffffffffffffffffffffffffffffffffffffffffffffffffffffffffffffffffffffffffffffffffffffffffffffffffffffffffffffffffffffffffffffffffffffffffffffffffffffffffffffffffffffffffffffffffffffffffffffffffffffffffffffffffffffff = 0x21000000ffffffffffffffffffffffffffffffffffffffffffffffffffffffffffffffffffffffffffffffffffffffffffffffffffffffffffffffffffffffffffffffffffffffffffffffffffffffffffffffffffffffffffffffffffffffffffffffffffffffffffffffffffffffffffffffffffffffffffffffffffffffffffffffffffffffffffffffffffffffffffffffffffffffffffffffffffffffffffffffffffffffffffffffffffffffffffffffffffffffffffffffffffffffffffffffffffffffffffffffffffffffffffffffff from rfl) k] at h; cases h
      pending := rfl
      rc := fun _ => rfl
      tsuOfs := fun _ => rfl
      freeCtr := fun _ => rfl
      bus := fun _ => rfl
      latch := fun _ => rfl
      nodes := fun _ => rfl
      hoar := fun _ => rfl
      fe := fun _ => rfl
      dc := fun _ => rfl
      slices := fun _ => rfl
      sniffers := fun _ => rfl
      mac := fun _ => rfl
      lanes := fun _ => rfl
      src := fun _ => rfl
      qms := fun _ => rfl
      sec := fun _ => rfl
      jdev := fun _ => rfl
      fwd := fun _ => rfl
      camps := fun _ => rfl
      pressOctets := fun _ => rfl
      hif := fun _ => rfl
      flt := fun _ => rfl
      pair := fun _ => rfl
      tsu := fun _ => rfl
      anchor := fun h => by cases h
      fuse := fun _ => rfl
      cave := fun _ => rfl
      boot := fun _ => rfl
      pcr := fun _ => rfl
      cel := fun h => by cases h
      mem := fun _ => ⟨rfl, rfl⟩
      frac := fun _ => rfl
      plans := fun _ => rfl
      specAt := fun _ => rfl
      pressAt := fun _ => rfl
      form := fun h => h }
  unfold execCellarPowerUp
  dsimp only
  split
  · exact KeepsR.next Keeps.refl
  · exact KeepsR.next (Keeps.put _ _ rfl rfl (powerPins_keeps _ _ _ rfl (q _ _ Keeps.refl)))

theorem tcxoLost_keeps {mk : Nat} {sIn : State} (s : State) (hMk : 0x15010178000000000000000000000000000000000000000000000000000000000000000000000000000000000000000000000002000000000000000000000000000000000000000000000000000000000000000001867000180800000000800000000000000000000000000002170000000000000030000000000000000000000000000000000000000000000000000000000000000000000400000000000000000000000000000000000000000000000000800000000000000000000000800980000000010407800080084800080000070e04f82 ||| mk = mk) (hIn : Keeps mk sIn s) : Keeps mk sIn (tcxoLost s) := by
  refine Keeps.step hMk ?_ hIn
  unfold tcxoLost
  try dsimp only
  repeat' first
    | with_reducible refine Keeps.ite ?_ ?_
    | with_reducible exact Keeps.refl
    | with_reducible assumption
    | ((with_reducible apply Keeps.put); (case d => rfl); (case e => rfl))
    | (with_reducible refine Keeps.each _ _ ?_ ?_)
    | ((with_reducible apply feStop_keeps); (case hMk => rfl))
    | ((with_reducible apply replan_keeps); (case hMk => rfl))
    | ((with_reducible apply servoGo_keeps); (case hMk => rfl))
    | ((with_reducible apply setRun_keeps); (case hMk => rfl))
    | ((with_reducible apply spansEnd_keeps); (case hMk => rfl))
    | intro _
    | split
    | dsimp only
    | (refine Keeps.snd ?_ (by with_reducible assumption))

theorem refLost_keeps {mk : Nat} {sIn : State} (r : Nat) (present : Bool) (s : State) (hMk : 0x15070578000000000200000000282800400002000c000002000000011d47c00c17d4cc9e00003e00000000000000000000000002000000000000000000000000000000000000000000000000000000000000000001867000180800000000800000000000000000800000000002170000000000000038000000000000000000000000000000000000000000000000000000000000000000000400000000000000000000000000000000000000000000000000800000000000000000000000800980000000010407800080084800080000070e04f82 ||| mk = mk) (hIn : Keeps mk sIn s) : Keeps mk sIn (refLost r present s) := by
  refine Keeps.step hMk ?_ hIn
  unfold refLost
  try dsimp only
  repeat' first
    | with_reducible refine Keeps.ite ?_ ?_
    | with_reducible exact Keeps.refl
    | with_reducible assumption
    | ((with_reducible apply Keeps.wr); (case d => rfl); (case e => rfl))
    | ((with_reducible apply Keeps.inc); (case d => rfl); (case e => rfl))
    | (with_reducible refine Keeps.each _ _ ?_ ?_)
    | ((with_reducible apply ethDown_keeps); (case hMk => rfl))
    | ((with_reducible apply islandToRc_keeps); (case hMk => rfl))
    | ((with_reducible apply laneSet_keeps); (case hMk => rfl))
    | ((with_reducible apply refMissing_keeps); (case hMk => rfl))
    | ((with_reducible apply refShow_keeps); (case hMk => rfl))
    | ((with_reducible apply tcxoLost_keeps); (case hMk => rfl))
    | intro _
    | split
    | dsimp only
    | (refine Keeps.snd ?_ (by with_reducible assumption))

theorem execClockMonitorCheck_keeps (present : Nat) (unlocked : Nat) (dev : List Int) (ppm : List Int) (rcErr : Int) (keyOp : Bool) (t : Nat) (s : State) : KeepsR 0x1fc71dfa500000000200000000282cd140064a000d00000a0063e0011d47c00c17dcdc9e02003e00000040000000000000000002000000000006000000000000800000007ffc1005001003f0015cc0000000000001c670009e080000000080000000000000000080000000000217000000000000003800000000000000000000000300180000000000000000000000000000f00003c020060602000000074800000000000000000000000000000000000000800000000000000000000000800980000000010407800080084800080000070e04f82 s (execClockMonitorCheck present unlocked dev ppm rcErr keyOp t s) := by
  unfold execClockMonitorCheck
  try dsimp only
  repeat' first
    | (with_reducible refine KeepsR.next ?_)
    | (with_reducible refine KeepsR.ite ?_ ?_)
    | with_reducible refine Keeps.ite ?_ ?_
    | with_reducible exact Keeps.refl
    | with_reducible assumption
    | ((with_reducible apply Keeps.inc); (case d => rfl); (case e => rfl))
    | ((with_reducible apply Keeps.wrS); (case d => rfl); (case e => rfl))
    | ((with_reducible apply Keeps.at); (case e => rfl); (case e2 => rfl))
    | (with_reducible refine Keeps.each _ _ ?_ ?_)
    | ((with_reducible apply modBoot_keeps); (case hMk => rfl))
    | ((with_reducible apply refLost_keeps); (case hMk => rfl))
    | ((with_reducible apply rindTrip_keeps); (case hMk => rfl))
    | intro _
    | split
    | dsimp only
    | (refine Keeps.snd ?_ (by with_reducible assumption))

theorem refAgain_keeps {mk : Nat} {sIn : State} (ok : Nat) (lockUs : Nat) (r : Nat) (s : State) (hMk : 0xd490000300000000000000000000000000000000000000000000000080000000016cd4000008600000000000000000000000002000000000000000000000000000000000000000000000000000000000000000001867000180800000000800000000000000000800000000000000000000000000008000000000000000000000000000000000000000000000000000000000000000000000000000000000000000000000000000000000000000000000000000000000000000000000000000000000000000000000000000000000000000000000 ||| mk = mk) (hIn : Keeps mk sIn s) : Keeps mk sIn (refAgain ok lockUs r s) := by
  refine Keeps.step hMk ?_ hIn
  unfold refAgain
  try dsimp only
  repeat' first
    | with_reducible refine Keeps.ite ?_ ?_
    | with_reducible exact Keeps.refl
    | with_reducible assumption
    | ((with_reducible apply Keeps.inc); (case d => rfl); (case e => rfl))
    | ((with_reducible apply raise_keeps); (case d => rfl); (case hMk => rfl); (case hMk2 => rfl))
    | ((with_reducible apply refTake_keeps); (case hMk => rfl))
    | intro _
    | split
    | dsimp only
    | (refine Keeps.snd ?_ (by with_reducible assumption))

theorem execRefRecheckTimer_keeps (present : Nat) (dev : List Int) (lockUs : Nat) (t : Nat) (s : State) : KeepsR 0xdc90000300000000000000000000000000000000000000000000000080000000016cd4000008600000000000000000000000002000000000000000000000000000000000000000000000000000000000000000001867000180800000000800000000000000000800000000000000000000000000008000000000000000000000000000000000000000000000000000000000000000000000000000000000000000000000000000000000000000000000000000000000000000000000000000000000000000000000000000000000000000000000 s (execRefRecheckTimer present dev lockUs t s) := by
  unfold execRefRecheckTimer
  try dsimp only
  repeat' first
    | (with_reducible refine KeepsR.next ?_)
    | (with_reducible refine KeepsR.ite ?_ ?_)
    | with_reducible refine Keeps.ite ?_ ?_
    | with_reducible exact Keeps.refl
    | with_reducible assumption
    | ((with_reducible apply Keeps.at); (case e => rfl); (case e2 => rfl))
    | (with_reducible refine Keeps.each _ _ ?_ ?_)
    | ((with_reducible apply modBoot_keeps); (case hMk => rfl))
    | ((with_reducible apply refAgain_keeps); (case hMk => rfl))
    | intro _
    | split
    | dsimp only
    | (refine Keeps.snd ?_ (by with_reducible assumption))

theorem execClkRefRecheck_keeps (mask : Nat) (present : Nat) (dev : List Int) (lockUs : Nat) (t : Nat) (s : State) : KeepsR 0xd490000300000000000000000000000000000000000000000000000080000000016cd4000008600000000000000000000000002000000000000000000000000000000000000000000000000000000000000000001867000180800000000800000000000000000800000000000000000000000000008000000000000000000000000000000000000000000000000000000000000000000000000000000000000000000000000000000000000000000000000000000000000000000000000000000000000000000000000000000000000000000000 s (execClkRefRecheck mask present dev lockUs t s) := by
  unfold execClkRefRecheck
  try dsimp only
  repeat' first
    | (with_reducible refine KeepsR.next ?_)
    | (with_reducible refine KeepsR.ite ?_ ?_)
    | with_reducible refine Keeps.ite ?_ ?_
    | with_reducible exact Keeps.refl
    | with_reducible assumption
    | ((with_reducible apply Keeps.at); (case e => rfl); (case e2 => rfl))
    | (with_reducible refine Keeps.each _ _ ?_ ?_)
    | ((with_reducible apply refAgain_keeps); (case hMk => rfl))
    | intro _
    | split
    | dsimp only
    | (refine Keeps.snd ?_ (by with_reducible assumption))

theorem xtalGood_keeps {mk : Nat} {sIn : State} (s : State) (hMk : 0xa080000300000000000000000000000000000000000000000000000080000000016cc4140000600000000000000000000000000000000000000000000000000000000000000000000000000000000000000000000000000000000000000000000000000000000800000000000000000000000000008000000000000000000000000000000000000000000000000000000000000000000000000000000000000000000000000000000000000000000000000000000000000000000000000000000000000000000000000000000000000000000000 ||| mk = mk) (hIn : Keeps mk sIn s) : Keeps mk sIn (xtalGood s) := by
  refine Keeps.step hMk ?_ hIn
  unfold xtalGood
  try dsimp only
  repeat' first
    | with_reducible refine Keeps.ite ?_ ?_
    | with_reducible exact Keeps.refl
    | with_reducible assumption
    | ((with_reducible apply Keeps.put); (case d => rfl); (case e => rfl))
    | ((with_reducible apply faultEnd_keeps); (case hMk => rfl))
    | ((with_reducible apply islandToRef_keeps); (case hMk => rfl))
    | ((with_reducible apply modCel_keeps); (case hMk => rfl))
    | ((with_reducible apply refShow_keeps); (case hMk => rfl))
    | intro _
    | split
    | dsimp only
    | (refine Keeps.snd ?_ (by with_reducible assumption))

theorem xtalShow_keeps {mk : Nat} {sIn : State} (s : State) (hMk : 0x50700080000000000000000000020000000020000000000000000011d47c00c17d4cca140004620000000000000000000000002000000000000000000000000000000000000000000000000000000000000000001867000180800000000800000000000000000800000000000000000000000000008000000000000000000000000000000000000000000000000000000000000000000000000000000000000000000000000000000000000000000000000000000000000000000000000000000000000000000000000000000000000000000080 ||| mk = mk) (hIn : Keeps mk sIn s) : Keeps mk sIn (xtalShow s) := by
  refine Keeps.step hMk ?_ hIn
  unfold xtalShow
  try dsimp only
  repeat' first
    | with_reducible refine Keeps.ite ?_ ?_
    | with_reducible exact Keeps.refl
    | with_reducible assumption
    | ((with_reducible apply Keeps.put); (case d => rfl); (case e => rfl))
    | ((with_reducible apply Keeps.inc); (case d => rfl); (case e => rfl))
    | ((with_reducible apply faultBegin_keeps); (case hMk => rfl))
    | ((with_reducible apply islandToRc_keeps); (case hMk => rfl))
    | ((with_reducible apply ledgerPut_keeps); (case hMk => rfl))
    | ((with_reducible apply raise_keeps); (case d => rfl); (case hMk => rfl); (case hMk2 => rfl))
    | ((with_reducible apply refShow_keeps); (case hMk => rfl))
    | intro _
    | split
    | dsimp only
    | (refine Keeps.snd ?_ (by with_reducible assumption))

theorem xtalBad_keeps {mk : Nat} {sIn : State} (keyOp : Bool) (s : State) (hMk : 0x7c719aa4000000000000000000024d100064a00010000080063e0011d47c00c17d4cca140004620000040000000000008000002000000000006000000000000800000007ffc1005001003f0015cc0000000000001c670009e080000000080000000000000000080000000000000000000000000000800000000000000000000000300180000000000000000000000000000f00003c020060202000000074800000000000000000000000000000000000000000000000000000000000000000000000000000000000000000000000000000000080 ||| mk = mk) (hIn : Keeps mk sIn s) : Keeps mk sIn (xtalBad keyOp s) := by
  refine Keeps.step hMk ?_ hIn
  unfold xtalBad
  try dsimp only
  repeat' first
    | with_reducible refine Keeps.ite ?_ ?_
    | with_reducible exact Keeps.refl
    | with_reducible assumption
    | ((with_reducible apply celRaise_keeps); (case d => rfl); (case hMk => rfl); (case hMk2 => rfl))
    | ((with_reducible apply modCel_keeps); (case hMk => rfl))
    | ((with_reducible apply rindTrip_keeps); (case hMk => rfl))
    | ((with_reducible apply xtalShow_keeps); (case hMk => rfl))
    | intro _
    | split
    | dsimp only
    | (refine Keeps.snd ?_ (by with_reducible assumption))

theorem execXtalCheck_keeps (ok : Bool) (keyOp : Bool) (t : Nat) (s : State) : KeepsR 0xfcf19aa7000000000000000000024d100064a00010000080063e0011d47c00c17d6cce140004620000040000000000008000002000000000006000000000000800000007ffc1005001003f0015cc0000000000001c670009e080000000080000000000000000080000000000000000000000000000800000000000000000000000300180000000000000000000000000000f00003c020060202000000074800000000000000000000000000000000000000000000000000000000000000000000000000000000000000000000000000000000080 s (execXtalCheck ok keyOp t s) := by
  unfold execXtalCheck
  try dsimp only
  repeat' first
    | (with_reducible refine KeepsR.next ?_)
    | (with_reducible refine KeepsR.ite ?_ ?_)
    | with_reducible refine Keeps.ite ?_ ?_
    | with_reducible exact Keeps.refl
    | with_reducible assumption
    | ((with_reducible apply celAt_keeps); (case hMk => rfl))
    | ((with_reducible apply xtalBad_keeps); (case hMk => rfl))
    | ((with_reducible apply xtalGood_keeps); (case hMk => rfl))
    | intro _
    | split
    | dsimp only
    | (refine Keeps.snd ?_ (by with_reducible assumption))

theorem execXtalMeasure_keeps (ppb : Int) (t : Nat) (s : State) : KeepsR 0xd8100001000000000000000000000000000000000000000000000000000000000000200a0010000000000002000000000000002000000000000000000000000000000000000000000000000000000000000000001867000180800000000800000000000000000000000000000000000000000000000000000000000000000000000000000000000000000000000000000000000000000000000000000000000000000000000000000000000000000000000000000000000000000000000000000000000000000000000000000000000000000000 s (execXtalMeasure ppb t s) := by
  unfold execXtalMeasure
  try dsimp only
  repeat' first
    | (with_reducible refine KeepsR.next ?_)
    | (with_reducible refine KeepsR.ite ?_ ?_)
    | with_reducible refine Keeps.ite ?_ ?_
    | with_reducible exact Keeps.refl
    | with_reducible assumption
    | ((with_reducible apply Keeps.put); (case d => rfl); (case e => rfl))
    | ((with_reducible apply Keeps.inc); (case d => rfl); (case e => rfl))
    | ((with_reducible apply Keeps.wrS); (case d => rfl); (case e => rfl))
    | ((with_reducible apply Keeps.at); (case e => rfl); (case e2 => rfl))
    | ((with_reducible apply modBoot_keeps); (case hMk => rfl))
    | ((with_reducible apply raise_keeps); (case d => rfl); (case hMk => rfl); (case hMk2 => rfl))
    | intro _
    | split
    | dsimp only
    | (refine Keeps.snd ?_ (by with_reducible assumption))

theorem latchSet_keeps {mk : Nat} {sIn : State} (q : Nat) (k : Nat) (v : Nat) (s : State) (hMk : 0x1000000000000000000000000000000000000000000000000000000000000000000000000000000000000000000000000000000000000000000000000000000000000000000000000000000000000000000000000000000000000000000000000000000000000000000000000000000000000000000000000000000000000000000000000000000000000000000000000000000000000000000000000000000000000000000000000000000000000000000000000000000000000000000000000000000000000000000000000000000000 ||| mk = mk) (hIn : Keeps mk sIn s) : Keeps mk sIn (latchSet q k v s) := by
  refine Keeps.step hMk ?_ hIn
  unfold latchSet
  try dsimp only
  repeat' first
    | with_reducible refine Keeps.ite ?_ ?_
    | with_reducible exact Keeps.refl
    | with_reducible assumption
    | intro _
    | split
    | dsimp only
    | (refine Keeps.snd ?_ (by with_reducible assumption))
    | ((with_reducible apply Keeps.set_latch); (case e => rfl))

theorem execTsuNsLoRead_keeps (requester : Requester) (t : Nat) (s : State) : KeepsR 0x8000001900000000000000000000000000000000000000000000000000000000000000000000000000000000000000000000000000000000000000000000000000000000000000000000000000000000000000000000000000000000000000000000000000000000000000000000000000000000000000000000000000000000000000000000000000000000000000000000000000000000000000000000000000000000000000000000000000000000000000000000000000000000000000000000000000000000000000000000000000000000 s (execTsuNsLoRead requester t s) := by
  unfold execTsuNsLoRead
  try dsimp only
  repeat' first
    | (with_reducible refine KeepsR.next ?_)
    | (with_reducible refine KeepsR.ite ?_ ?_)
    | with_reducible refine Keeps.ite ?_ ?_
    | with_reducible exact Keeps.refl
    | with_reducible assumption
    | ((with_reducible apply Keeps.at); (case e => rfl); (case e2 => rfl))
    | ((with_reducible apply Keeps.answer); (case e => rfl))
    | ((with_reducible apply latchSet_keeps); (case hMk => rfl))
    | intro _
    | split
    | dsimp only
    | (refine Keeps.snd ?_ (by with_reducible assumption))

theorem execTsuTimeNsRead_keeps (requester : Requester) (t : Nat) (s : State) : KeepsR 0x8000001900000000000000000000000000000000000000000000000000000000000000000000000000000000000000000000000000000000000000000000000000000000000000000000000000000000000000000000000000000000000000000000000000000000000000000000000000000000000000000000000000000000000000000000000000000000000000000000000000000000000000000000000000000000000000000000000000000000000000000000000000000000000000000000000000000000000000000000000000000000 s (execTsuTimeNsRead requester t s) := by
  unfold execTsuTimeNsRead
  try dsimp only
  repeat' first
    | (with_reducible refine KeepsR.next ?_)
    | (with_reducible refine KeepsR.ite ?_ ?_)
    | with_reducible refine Keeps.ite ?_ ?_
    | with_reducible exact Keeps.refl
    | with_reducible assumption
    | ((with_reducible apply Keeps.at); (case e => rfl); (case e2 => rfl))
    | ((with_reducible apply Keeps.answer); (case e => rfl))
    | ((with_reducible apply latchSet_keeps); (case hMk => rfl))
    | intro _
    | split
    | dsimp only
    | (refine Keeps.snd ?_ (by with_reducible assumption))

theorem modPtp_keeps {mk : Nat} {sIn : State} (p : Nat) (f : PtpPort → PtpPort) (s : State) (hMk : 0x80000000000000000000000000000000000000000000000000000000000000000000000000000000000000000000000000000000000000000000000000000000000000000000000000000000000000000000000000000000000000000000000000000000000000000000000000000000000000000000000000000000000000000000000000000000000000000000000000000000000000000000000000000000000000000000000000000000000000000000000000000000000000000000000000000000000000000000000000000000000000 ||| mk = mk) (hIn : Keeps mk sIn s) : Keeps mk sIn (modPtp p f s) := by
  refine Keeps.step hMk ?_ hIn
  unfold modPtp
  try dsimp only
  repeat' first
    | with_reducible refine Keeps.ite ?_ ?_
    | with_reducible exact Keeps.refl
    | with_reducible assumption
    | ((with_reducible apply modTsu_keeps); (case hMk => rfl))
    | intro _
    | split
    | dsimp only
    | (refine Keeps.snd ?_ (by with_reducible assumption))

theorem ptpSend_keeps {mk : Nat} {sIn : State} (p : Nat) (m : PtpOut) (oneStep : Bool) (s : State) (hMk : 0x400000000000c00000000000000000000000000000000000000000000000000000000000000000000000000000000000000000000000000000000000000000000000000000000000000000000000000000000000000000000000000000000000000000000000000000000000000000000000000600000000000000000000000000000000000000000000000000000000000000000000000000000000000000000000000000000000000000000000000000000000000000000000000000000000000000000000000000000000000000000000 ||| mk = mk) (hIn : Keeps mk sIn s) : Keeps mk sIn (ptpSend p m oneStep s) := by
  refine Keeps.step hMk ?_ hIn
  unfold ptpSend
  try dsimp only
  repeat' first
    | with_reducible refine Keeps.ite ?_ ?_
    | with_reducible exact Keeps.refl
    | with_reducible assumption
    | ((with_reducible apply egrPush_keeps); (case hMk => rfl))
    | intro _
    | split
    | dsimp only
    | (refine Keeps.snd ?_ (by with_reducible assumption))

theorem syncDone_keeps {mk : Nat} {sIn : State} (p : Nat) (ms : Int) (s : State) (hMk : 0x519048020000000000000000000000000000000000000000000000000000000000000000000000000000000800000000000000200000000000000000000000000000000000000000000000000000000000000000186700018080000000080000041c10000000000073072007e0000000100000027a00000c0000000000000000000000000000000000000000000000000000000000000000000000000000000000000000000000000000000000000000000000000000000000000000000000000000000000000000000000000000000000000000 ||| mk = mk) (hIn : Keeps mk sIn s) : Keeps mk sIn (syncDone p ms s) := by
  refine Keeps.step hMk ?_ hIn
  unfold syncDone
  try dsimp only
  repeat' first
    | with_reducible refine Keeps.ite ?_ ?_
    | with_reducible exact Keeps.refl
    | with_reducible assumption
    | ((with_reducible apply modPtp_keeps); (case hMk => rfl))
    | ((with_reducible apply servoOffset_keeps); (case hMk => rfl))
    | intro _
    | split
    | dsimp only
    | (refine Keeps.snd ?_ (by with_reducible assumption))

theorem slaveTake_keeps {mk : Nat} {sIn : State} (p : Nat) (m : PtpMsg) (ts : Option Int) (s : State) (hMk : 0x519048020000000000000000000000000000000000000000000000000000000000000000000000000000000800000000000000200000000000000000000000000000000000000000000000000000000000000000186700018080000000080000041c1010000010027f07e007e0000000100000027a00000c0000000000000000000000000000000000000000000000000000000000000000000000000000000000000000000000000000000000000000000000000000000000000000000000000000000000000000000000000000000000000000 ||| mk = mk) (hIn : Keeps mk sIn s) : Keeps mk sIn (slaveTake p m ts s) := by
  refine Keeps.step hMk ?_ hIn
  unfold slaveTake
  try dsimp only
  repeat' first
    | with_reducible refine Keeps.ite ?_ ?_
    | with_reducible exact Keeps.refl
    | with_reducible assumption
    | ((with_reducible apply Keeps.put); (case d => rfl); (case e => rfl))
    | ((with_reducible apply Keeps.inc); (case d => rfl); (case e => rfl))
    | ((with_reducible apply modPtp_keeps); (case hMk => rfl))
    | ((with_reducible apply servoDelay_keeps); (case hMk => rfl))
    | ((with_reducible apply syncDone_keeps); (case hMk => rfl))
    | intro _
    | split
    | dsimp only
    | (refine Keeps.snd ?_ (by with_reducible assumption))

theorem engineTakes_keeps {mk : Nat} {sIn : State} (p : Nat) (m : PtpMsg) (ts : Option Int) (s : State) (hMk : 0x5190480200000000c0000000000000000000000000000000000000000000000000000000000000000000000800000000000000200000000000000000000000000000000000000000000000000000000000000000186700018080000000080000041c1010000010027f07e007e0000000100000027a06000c0000000000000000000000000000000000000000000000000000000000000000000000000000000000000000000000000000000000000000000000000000000000000000000000000000000000000000000000000000000000000000 ||| mk = mk) (hIn : Keeps mk sIn s) : Keeps mk sIn (engineTakes p m ts s) := by
  refine Keeps.step hMk ?_ hIn
  unfold engineTakes
  try dsimp only
  repeat' first
    | with_reducible refine Keeps.ite ?_ ?_
    | with_reducible exact Keeps.refl
    | with_reducible assumption
    | ((with_reducible apply ptpSend_keeps); (case hMk => rfl))
    | ((with_reducible apply slaveTake_keeps); (case hMk => rfl))
    | intro _
    | split
    | dsimp only
    | (refine Keeps.snd ?_ (by with_reducible assumption))

theorem ptpCount_keeps {mk : Nat} {sIn : State} (p : Nat) (m : Nat) (s : State) (hMk : 0x10a34000000000000000000000000000000000000000000000000000000000000000000000000000000000000000000000000000000000000000000000000000000000000000000000000000000000000000000000000000000000000000000000000000000000000000000000000000000 ||| mk = mk) (hIn : Keeps mk sIn s) : Keeps mk sIn (ptpCount p m s) := by
  refine Keeps.step hMk ?_ hIn
  unfold ptpCount
  try dsimp only
  repeat' first
    | with_reducible refine Keeps.ite ?_ ?_
    | with_reducible exact Keeps.refl
    | with_reducible assumption
    | ((with_reducible apply Keeps.inc); (case d => rfl); (case e => rfl))
    | intro _
    | split
    | dsimp only
    | (refine Keeps.snd ?_ (by with_reducible assumption))

theorem ptpHost_keeps {mk : Nat} {sIn : State} (p : Nat) (m : PtpMsg) (ts : Option Int) (bad : Bool) (s : State) (hMk : 0x10000000000000000000000000000000000000000000000000000000000000000000000000000000000000000000000000000000000000000000000000000000000000000000000000000000000000000000000000000000000000000000000000000000000000000000000000000000000000000000000000000000000000000000000000000000000000000000000000000000000000000000000000000000000000000000000000000000000000000000000000000000000000000000000000000000000000000000000000000000000000 ||| mk = mk) (hIn : Keeps mk sIn s) : Keeps mk sIn (ptpHost p m ts bad s) := by
  refine Keeps.step hMk ?_ hIn
  unfold ptpHost
  try dsimp only
  repeat' first
    | with_reducible refine Keeps.ite ?_ ?_
    | with_reducible exact Keeps.refl
    | with_reducible assumption
    | ((with_reducible apply rxBind_keeps); (case hMk => rfl))
    | intro _
    | split
    | dsimp only
    | (refine Keeps.snd ?_ (by with_reducible assumption))

theorem tcForward_keeps {mk : Nat} {sIn : State} (p : Nat) (m : PtpMsg) (ts : Option Int) (s : State) (hMk : 0x10400000000000c0000000000000000000000000000000000000000000000000000000000000000000000000000000000000000000000000000000000000000000000000000000000000000000000000000000000000000000000000000000000000c000000000000000000000000000000000000600000000000000000000000000000000000000000000000000000000000000000000000000000000000000000000000000000000000000000000000000000000000000000000000000000000000000000000000000000000000000000000 ||| mk = mk) (hIn : Keeps mk sIn s) : Keeps mk sIn (tcForward p m ts s) := by
  refine Keeps.step hMk ?_ hIn
  unfold tcForward
  try dsimp only
  repeat' first
    | with_reducible refine Keeps.ite ?_ ?_
    | with_reducible exact Keeps.refl
    | with_reducible assumption
    | ((with_reducible apply Keeps.inc); (case d => rfl); (case e => rfl))
    | ((with_reducible apply egrPush_keeps); (case hMk => rfl))
    | ((with_reducible apply ptpHost_keeps); (case hMk => rfl))
    | intro _
    | split
    | dsimp only
    | (refine Keeps.snd ?_ (by with_reducible assumption))

theorem execPtpMessageReceived_keeps (port : Fin 2) (m : PtpMsg) (t : Nat) (s : State) : KeepsR 0xd190480300000000c0000000000000000000000000000000000000000000000000000000000000000000000800000000000000200000000000000000000000000000000000000000000000000000000000000000186700018080000000080000041c17da340010027f07e007e0000000100000027a06000c0000000000000000000000000000000000000000000000000000000000000000000000000000000000000000000000000000000000000000000000000000000000000000000000000000000000000000000000000000000000000000 s (execPtpMessageReceived port m t s) := by
  unfold execPtpMessageReceived
  try dsimp only
  repeat' first
    | (with_reducible refine KeepsR.next ?_)
    | (with_reducible refine KeepsR.ite ?_ ?_)
    | with_reducible refine Keeps.ite ?_ ?_
    | with_reducible exact Keeps.refl
    | with_reducible assumption
    | ((with_reducible apply Keeps.inc); (case d => rfl); (case e => rfl))
    | ((with_reducible apply Keeps.at); (case e => rfl); (case e2 => rfl))
    | ((with_reducible apply engineTakes_keeps); (case hMk => rfl))
    | ((with_reducible apply ptpCount_keeps); (case hMk => rfl))
    | ((with_reducible apply ptpHost_keeps); (case hMk => rfl))
    | ((with_reducible apply tcForward_keeps); (case hMk => rfl))
    | intro _
    | split
    | dsimp only
    | (refine Keeps.snd ?_ (by with_reducible assumption))

theorem execSyncInterval_keeps (port : Fin 2) (t : Nat) (s : State) : KeepsR 0x8080400100000000c00000000000000000000000000000000000000000000000000000000000000000000000000000000000000000000000000000000000000000000000000000000000000000000000000000000000000000000000000000000000000000000000000000000000000000000000000600000000000000000000000000000000000000000000000000000000000000000000000000000000000000000000000000000000000000000000000000000000000000000000000000000000000000000000000000000000000000000000 s (execSyncInterval port t s) := by
  unfold execSyncInterval
  try dsimp only
  repeat' first
    | (with_reducible refine KeepsR.next ?_)
    | (with_reducible refine KeepsR.ite ?_ ?_)
    | with_reducible refine Keeps.ite ?_ ?_
    | with_reducible exact Keeps.refl
    | with_reducible assumption
    | ((with_reducible apply Keeps.at); (case e => rfl); (case e2 => rfl))
    | ((with_reducible apply modPtp_keeps); (case hMk => rfl))
    | ((with_reducible apply ptpSend_keeps); (case hMk => rfl))
    | intro _
    | split
    | dsimp only
    | (refine Keeps.snd ?_ (by with_reducible assumption))

theorem execDelayReqInterval_keeps (port : Fin 2) (t : Nat) (s : State) : KeepsR 0x8080400100000000c00000000000000000000000000000000000000000000000000000000000000000000000000000000000000000000000000000000000000000000000000000000000000000000000000000000000000000000000000000000000000000000000000000000000000000000000000600000000000000000000000000000000000000000000000000000000000000000000000000000000000000000000000000000000000000000000000000000000000000000000000000000000000000000000000000000000000000000000 s (execDelayReqInterval port t s) := by
  unfold execDelayReqInterval
  try dsimp only
  repeat' first
    | (with_reducible refine KeepsR.next ?_)
    | (with_reducible refine KeepsR.ite ?_ ?_)
    | with_reducible refine Keeps.ite ?_ ?_
    | with_reducible exact Keeps.refl
    | with_reducible assumption
    | ((with_reducible apply Keeps.at); (case e => rfl); (case e2 => rfl))
    | ((with_reducible apply modPtp_keeps); (case hMk => rfl))
    | ((with_reducible apply ptpSend_keeps); (case hMk => rfl))
    | intro _
    | split
    | dsimp only
    | (refine Keeps.snd ?_ (by with_reducible assumption))

theorem execFollowUpTimeout_keeps (port : Fin 2) (t : Nat) (s : State) : KeepsR 0x8080000100000000000000000000000000000000000000000000000000000000000000000000000000000000000000000000000000000000000000000000000000000000000000000000000000000000000000000000000000000000000000000000000000000002000000000000000000000000000000000000000000000000000000000000000000000000000000000000000000000000000000000000000000000000000000000000000000000000000000000000000000000000000000000000000000000000000000000000000000000000 s (execFollowUpTimeout port t s) := by
  unfold execFollowUpTimeout
  try dsimp only
  repeat' first
    | (with_reducible refine KeepsR.next ?_)
    | (with_reducible refine KeepsR.ite ?_ ?_)
    | with_reducible refine Keeps.ite ?_ ?_
    | with_reducible exact Keeps.refl
    | with_reducible assumption
    | ((with_reducible apply Keeps.inc); (case d => rfl); (case e => rfl))
    | ((with_reducible apply Keeps.at); (case e => rfl); (case e2 => rfl))
    | ((with_reducible apply modPtp_keeps); (case hMk => rfl))
    | intro _
    | split
    | dsimp only
    | (refine Keeps.snd ?_ (by with_reducible assumption))

theorem execDelayRespTimeout_keeps (port : Fin 2) (t : Nat) (s : State) : KeepsR 0x8080000100000000000000000000000000000000000000000000000000000000000000000000000000000000000000000000000000000000000000000000000000000000000000000000000000000000000000000000000000000000000000000000000000000004000000000000000000000000000000000000000000000000000000000000000000000000000000000000000000000000000000000000000000000000000000000000000000000000000000000000000000000000000000000000000000000000000000000000000000000000 s (execDelayRespTimeout port t s) := by
  unfold execDelayRespTimeout
  try dsimp only
  repeat' first
    | (with_reducible refine KeepsR.next ?_)
    | (with_reducible refine KeepsR.ite ?_ ?_)
    | with_reducible refine Keeps.ite ?_ ?_
    | with_reducible exact Keeps.refl
    | with_reducible assumption
    | ((with_reducible apply Keeps.inc); (case d => rfl); (case e => rfl))
    | ((with_reducible apply Keeps.at); (case e => rfl); (case e2 => rfl))
    | ((with_reducible apply modPtp_keeps); (case hMk => rfl))
    | intro _
    | split
    | dsimp only
    | (refine Keeps.snd ?_ (by with_reducible assumption))

theorem execTsuServoExtOfsWrite_keeps (value : Word) (t : Nat) (s : State) : KeepsR 0xd19048030000000000000000000000000000000000000000000000000000000000000000000000000000000800000000000000200000000000000000000000000000000000000000000000000000000000000000186700018080000000080000041c10000000000873072007e0000000100000027a00000c0000000000000000000000000000000000000000000000000000000000000000000000000000000000000000000000000000000000000000000000000000000000000000000000000000000000000000000000000000000000000000 s (execTsuServoExtOfsWrite value t s) := by
  unfold execTsuServoExtOfsWrite
  try dsimp only
  repeat' first
    | (with_reducible refine KeepsR.next ?_)
    | (with_reducible refine KeepsR.ite ?_ ?_)
    | with_reducible refine Keeps.ite ?_ ?_
    | with_reducible exact Keeps.refl
    | with_reducible assumption
    | ((with_reducible apply Keeps.inc); (case d => rfl); (case e => rfl))
    | ((with_reducible apply Keeps.at); (case e => rfl); (case e2 => rfl))
    | ((with_reducible apply servoOffset_keeps); (case hMk => rfl))
    | intro _
    | split
    | dsimp only
    | (refine Keeps.snd ?_ (by with_reducible assumption))

theorem execServoEnable_keeps (t : Nat) (s : State) : KeepsR 0x8080000100000000000000000000000000000000000000000000000000000000000000000000000000000000000000000000000000000000000000000000000000000000000000000000000000000000000000000000000000000000000000000000000000000000000100062100000000000000020000000000000000000000000000000000000000000000000000000000000000000000000000000000000000000000000000000000000000000000000000000000000000000000000000000000000000000000000000000000000000000000 s (execServoEnable t s) := by
  unfold execServoEnable
  try dsimp only
  repeat' first
    | (with_reducible refine KeepsR.next ?_)
    | (with_reducible refine KeepsR.ite ?_ ?_)
    | with_reducible refine Keeps.ite ?_ ?_
    | with_reducible exact Keeps.refl
    | with_reducible assumption
    | ((with_reducible apply Keeps.wr); (case d => rfl); (case e => rfl))
    | ((with_reducible apply Keeps.put); (case d => rfl); (case e => rfl))
    | ((with_reducible apply Keeps.wrS); (case d => rfl); (case e => rfl))
    | ((with_reducible apply Keeps.at); (case e => rfl); (case e2 => rfl))
    | ((with_reducible apply modTsu_keeps); (case hMk => rfl))
    | ((with_reducible apply servoGo_keeps); (case hMk => rfl))
    | intro _
    | split
    | dsimp only
    | (refine Keeps.snd ?_ (by with_reducible assumption))

theorem execServoDisable_keeps (t : Nat) (s : State) : KeepsR 0x8000000100000000000000000000000000000000000000000000000000000000000000000000000000000000000000000000000000000000000000000000000000000000000000000000000000000000000000000000000000000000000000000000000000000000000000002100000000000000020000000000000000000000000000000000000000000000000000000000000000000000000000000000000000000000000000000000000000000000000000000000000000000000000000000000000000000000000000000000000000000000 s (execServoDisable t s) := by
  unfold execServoDisable
  try dsimp only
  repeat' first
    | (with_reducible refine KeepsR.next ?_)
    | (with_reducible refine KeepsR.ite ?_ ?_)
    | with_reducible refine Keeps.ite ?_ ?_
    | with_reducible exact Keeps.refl
    | with_reducible assumption
    | ((with_reducible apply Keeps.put); (case d => rfl); (case e => rfl))
    | ((with_reducible apply Keeps.at); (case e => rfl); (case e2 => rfl))
    | ((with_reducible apply servoGo_keeps); (case hMk => rfl))
    | intro _
    | split
    | dsimp only
    | (refine Keeps.snd ?_ (by with_reducible assumption))

theorem execServoLossTimeout_keeps (t : Nat) (s : State) : KeepsR 0xd090000100000000000000000000000000000000000000000000000000000000000000000000000000000000000000000000002000000000000000000000000000000000000000000000000000000000000000001867000180800000000800000000000000001000200200012000000010000010120000000000000000000000000000000000000000000000000000000000000000000000000000000000000000000000000000000000000000000000000000000000000000000000000000000000000000000000000000000000000000000000 s (execServoLossTimeout t s) := by
  unfold execServoLossTimeout
  try dsimp only
  repeat' first
    | (with_reducible refine KeepsR.next ?_)
    | (with_reducible refine KeepsR.ite ?_ ?_)
    | with_reducible refine Keeps.ite ?_ ?_
    | with_reducible exact Keeps.refl
    | with_reducible assumption
    | ((with_reducible apply Keeps.put); (case d => rfl); (case e => rfl))
    | ((with_reducible apply Keeps.at); (case e => rfl); (case e2 => rfl))
    | ((with_reducible apply holdover_keeps); (case hMk => rfl))
    | ((with_reducible apply raise_keeps); (case d => rfl); (case hMk => rfl); (case hMk2 => rfl))
    | intro _
    | split
    | dsimp only
    | (refine Keeps.snd ?_ (by with_reducible assumption))

theorem servoCmd_keeps {mk : Nat} {sIn : State} (f : State → State) (s : State) (hMk : 0x5010000000000000000000000000000000000000000000000000000000000000000000000000000000000000000000000000002000000000000000000000000000000000000000000000000000000000000000001867000180800000000800000000000000000000000000001000000000000020000000000000000000000000000000000000000000000000000000000000000000000000000000000000000000000000000000000000000000000000000000000000000000000000000000000000000000000000000000000000000000000000 ||| mk = mk) (hf : ∀ x, Keeps mk sIn x → Keeps mk sIn (f x)) (hIn : Keeps mk sIn s) :
    Keeps mk sIn (servoCmd f s) := by
  have q : ∀ c, Keeps mk sIn (s.put TSU_SERVO_CTL.CMD_BAD c) := fun c => Keeps.put _ _ rfl (mask_true rfl hMk) hIn
  unfold servoCmd
  split
  · exact hf _ (q false)
  · exact raise_keeps _ _ rfl (mask_true rfl hMk) (mask_sub (by decide) hMk) (q true)

theorem acceptCmd_keeps {mk : Nat} {sIn : State} (asym : Bool) (s : State) (hMk : 0x80000000000000000000000000000000000000000000000000000000000000000000000000000000000000000000000000000000000000000000000000000000000000000000000000000000000000000000000000000000000000000000000000000000000000000040062000000000000000020000000000000000000000000000000000000000000000000000000000000000000000000000000000000000000000000000000000000000000000000000000000000000000000000000000000000000000000000000000000000000000000 ||| mk = mk) (hIn : Keeps mk sIn s) : Keeps mk sIn (acceptCmd asym s) := by
  refine Keeps.step hMk ?_ hIn
  unfold acceptCmd
  try dsimp only
  repeat' first
    | with_reducible refine Keeps.ite ?_ ?_
    | with_reducible exact Keeps.refl
    | with_reducible assumption
    | ((with_reducible apply acceptStep_keeps); (case hMk => rfl))
    | ((with_reducible apply modTsu_keeps); (case hMk => rfl))
    | intro _
    | split
    | dsimp only
    | (refine Keeps.snd ?_ (by with_reducible assumption))

theorem execServoCmdAccept_keeps (t : Nat) (s : State) : KeepsR 0xd090000100000000000000000000000000000000000000000000000000000000000000000000000000000000000000000000002000000000000000000000000000000000000000000000000000000000000000001867000180800000000800000000000000000000000040063000000000000020020000000000000000000000000000000000000000000000000000000000000000000000000000000000000000000000000000000000000000000000000000000000000000000000000000000000000000000000000000000000000000000000 s (execServoCmdAccept t s) := by
  unfold execServoCmdAccept
  try dsimp only
  repeat' first
    | (with_reducible refine KeepsR.next ?_)
    | (with_reducible refine KeepsR.ite ?_ ?_)
    | with_reducible refine Keeps.ite ?_ ?_
    | with_reducible exact Keeps.refl
    | with_reducible assumption
    | ((with_reducible apply servoCmd_keeps); (case hMk => rfl))
    | ((with_reducible apply Keeps.at); (case e => rfl); (case e2 => rfl))
    | ((with_reducible apply acceptCmd_keeps); (case hMk => rfl))
    | intro _
    | split
    | dsimp only
    | (refine Keeps.snd ?_ (by with_reducible assumption))

theorem execServoCmdAsym_keeps (t : Nat) (s : State) : KeepsR 0xd090000100000000000000000000000000000000000000000000000000000000000000000000000000000000000000000000002000000000000000000000000000000000000000000000000000000000000000001867000180800000000800000000000000000000000040063000000000000020020000000000000000000000000000000000000000000000000000000000000000000000000000000000000000000000000000000000000000000000000000000000000000000000000000000000000000000000000000000000000000000000 s (execServoCmdAsym t s) := by
  unfold execServoCmdAsym
  try dsimp only
  repeat' first
    | (with_reducible refine KeepsR.next ?_)
    | (with_reducible refine KeepsR.ite ?_ ?_)
    | with_reducible refine Keeps.ite ?_ ?_
    | with_reducible exact Keeps.refl
    | with_reducible assumption
    | ((with_reducible apply servoCmd_keeps); (case hMk => rfl))
    | ((with_reducible apply Keeps.at); (case e => rfl); (case e2 => rfl))
    | ((with_reducible apply acceptCmd_keeps); (case hMk => rfl))
    | intro _
    | split
    | dsimp only
    | (refine Keeps.snd ?_ (by with_reducible assumption))

theorem execServoCmdRemeasure_keeps (t : Nat) (s : State) : KeepsR 0xd090000100000000000000000000000000000000000000000000000000000000000000000000000000000000000000000000002000000000000000000000000000000000000000000000000000000000000000001867000180800000000800000000000000000000000000001000000000000020000000000000000000000000000000000000000000000000000000000000000000000000000000000000000000000000000000000000000000000000000000000000000000000000000000000000000000000000000000000000000000000000 s (execServoCmdRemeasure t s) := by
  unfold execServoCmdRemeasure
  try dsimp only
  repeat' first
    | (with_reducible refine KeepsR.next ?_)
    | (with_reducible refine KeepsR.ite ?_ ?_)
    | with_reducible refine Keeps.ite ?_ ?_
    | with_reducible exact Keeps.refl
    | with_reducible assumption
    | ((with_reducible apply servoCmd_keeps); (case hMk => rfl))
    | ((with_reducible apply Keeps.at); (case e => rfl); (case e2 => rfl))
    | ((with_reducible apply modTsu_keeps); (case hMk => rfl))
    | intro _
    | split
    | dsimp only
    | (refine Keeps.snd ?_ (by with_reducible assumption))

theorem stepBad_keeps {mk : Nat} {sIn : State} (s : State) (hMk : 0x5010000000000000000000000000000000000000000000000000000000000000000000000000000000000000000000000000002000000000000000000000000000000000000000000000000000000000000000001867000180800000000800000000000000000000800000000000000200000000800000000000000000000000000000000000000000000000000000000000000000000000000000000000000000000000000000000000000000000000000000000000000000000000000000000000000000000000000000000000000000000000 ||| mk = mk) (hIn : Keeps mk sIn s) : Keeps mk sIn (stepBad s) := by
  refine Keeps.step hMk ?_ hIn
  unfold stepBad
  try dsimp only
  repeat' first
    | with_reducible refine Keeps.ite ?_ ?_
    | with_reducible exact Keeps.refl
    | with_reducible assumption
    | ((with_reducible apply Keeps.put); (case d => rfl); (case e => rfl))
    | ((with_reducible apply Keeps.inc); (case d => rfl); (case e => rfl))
    | ((with_reducible apply raise_keeps); (case d => rfl); (case hMk => rfl); (case hMk2 => rfl))
    | intro _
    | split
    | dsimp only
    | (refine Keeps.snd ?_ (by with_reducible assumption))

theorem execTsuStep_keeps (alsoSet : Bool) (t : Nat) (s : State) : KeepsR 0xd19048030000000000000000000000000000000000000000000000000000000000000000000000000000000800000000000000200000000000000000000000000000000000000000000000000000000000000000186700018080000000080000041c100000000000c000000000000002000000028000000c0000000000000000000000000000000000000000000000000000000000000000000000000000000000000000000000000000000000000000000000000000000000000000000000000000000000000000000000000000000000000000 s (execTsuStep alsoSet t s) := by
  unfold execTsuStep
  try dsimp only
  repeat' first
    | (with_reducible refine KeepsR.next ?_)
    | (with_reducible refine KeepsR.ite ?_ ?_)
    | with_reducible refine Keeps.ite ?_ ?_
    | with_reducible exact Keeps.refl
    | with_reducible assumption
    | ((with_reducible apply Keeps.put); (case d => rfl); (case e => rfl))
    | ((with_reducible apply Keeps.at); (case e => rfl); (case e2 => rfl))
    | ((with_reducible apply stepBad_keeps); (case hMk => rfl))
    | ((with_reducible apply tsuMove_keeps); (case hMk => rfl))
    | intro _
    | split
    | dsimp only
    | (refine Keeps.snd ?_ (by with_reducible assumption))

theorem execTsuSet_keeps (t : Nat) (s : State) : KeepsR 0xd19048030000000000000000000000000000000000000000000000000000000000000000000000000000000800000000000000200000000000000000000000000000000000000000000000000000000000000000186700018080000000080000041c100000000000c000000000000002000000028000000c0000000000000000000000000000000000000000000000000000000000000000000000000000000000000000000000000000000000000000000000000000000000000000000000000000000000000000000000000000000000000000 s (execTsuSet t s) := by
  unfold execTsuSet
  try dsimp only
  repeat' first
    | (with_reducible refine KeepsR.next ?_)
    | (with_reducible refine KeepsR.ite ?_ ?_)
    | with_reducible refine Keeps.ite ?_ ?_
    | with_reducible exact Keeps.refl
    | with_reducible assumption
    | ((with_reducible apply Keeps.put); (case d => rfl); (case e => rfl))
    | ((with_reducible apply Keeps.at); (case e => rfl); (case e2 => rfl))
    | ((with_reducible apply stepBad_keeps); (case hMk => rfl))
    | ((with_reducible apply tsuMove_keeps); (case hMk => rfl))
    | intro _
    | split
    | dsimp only
    | (refine Keeps.snd ?_ (by with_reducible assumption))

theorem execSlewGo_keeps (t : Nat) (s : State) : KeepsR 0x8080000100000000000000000000000000000000000000000000000000000000000000000000000000000000000000000000000000000000000000000000000000000000000000000000000000000000000000000000000000000000000000000000000000000001000000000000010000000000040000000000000000000000000000000000000000000000000000000000000000000000000000000000000000000000000000000000000000000000000000000000000000000000000000000000000000000000000000000000000000000000 s (execSlewGo t s) := by
  unfold execSlewGo
  try dsimp only
  repeat' first
    | (with_reducible refine KeepsR.next ?_)
    | (with_reducible refine KeepsR.ite ?_ ?_)
    | with_reducible refine Keeps.ite ?_ ?_
    | with_reducible exact Keeps.refl
    | with_reducible assumption
    | ((with_reducible apply Keeps.put); (case d => rfl); (case e => rfl))
    | ((with_reducible apply Keeps.inc); (case d => rfl); (case e => rfl))
    | ((with_reducible apply Keeps.at); (case e => rfl); (case e2 => rfl))
    | ((with_reducible apply modTsu_keeps); (case hMk => rfl))
    | intro _
    | split
    | dsimp only
    | (refine Keeps.snd ?_ (by with_reducible assumption))

theorem execSlewAbort_keeps (t : Nat) (s : State) : KeepsR 0x8080000100000000000000000000000000000000000000000000000000000000000000000000000000000000000000000000000000000000000000000000000000000000000000000000000000000000000000000000000000000000000000000000000000000000000000000000002000000000040000000000000000000000000000000000000000000000000000000000000000000000000000000000000000000000000000000000000000000000000000000000000000000000000000000000000000000000000000000000000000000000 s (execSlewAbort t s) := by
  unfold execSlewAbort
  try dsimp only
  repeat' first
    | (with_reducible refine KeepsR.next ?_)
    | (with_reducible refine KeepsR.ite ?_ ?_)
    | with_reducible refine Keeps.ite ?_ ?_
    | with_reducible exact Keeps.refl
    | with_reducible assumption
    | ((with_reducible apply Keeps.wr); (case d => rfl); (case e => rfl))
    | ((with_reducible apply Keeps.put); (case d => rfl); (case e => rfl))
    | ((with_reducible apply Keeps.at); (case e => rfl); (case e2 => rfl))
    | ((with_reducible apply modTsu_keeps); (case hMk => rfl))
    | intro _
    | split
    | dsimp only
    | (refine Keeps.snd ?_ (by with_reducible assumption))

theorem execSlewComplete_keeps (t : Nat) (s : State) : KeepsR 0xd090000100000000000000000000000000000000000000000000000000000000000000000000000000000000000000000000002000000000000000000000000000000000000000000000000000000000000000001867000180800000000800000000000000000000000000000000002000000001040000000000000000000000000000000000000000000000000000000000000000000000000000000000000000000000000000000000000000000000000000000000000000000000000000000000000000000000000000000000000000000000 s (execSlewComplete t s) := by
  unfold execSlewComplete
  try dsimp only
  repeat' first
    | (with_reducible refine KeepsR.next ?_)
    | (with_reducible refine KeepsR.ite ?_ ?_)
    | with_reducible refine Keeps.ite ?_ ?_
    | with_reducible exact Keeps.refl
    | with_reducible assumption
    | ((with_reducible apply Keeps.wr); (case d => rfl); (case e => rfl))
    | ((with_reducible apply Keeps.put); (case d => rfl); (case e => rfl))
    | ((with_reducible apply Keeps.at); (case e => rfl); (case e2 => rfl))
    | ((with_reducible apply modTsu_keeps); (case hMk => rfl))
    | ((with_reducible apply raise_keeps); (case d => rfl); (case hMk => rfl); (case hMk2 => rfl))
    | intro _
    | split
    | dsimp only
    | (refine Keeps.snd ?_ (by with_reducible assumption))

theorem execPulseArm_keeps (unit : Fin 4) (periodic : Bool) (strict : Bool) (outEn : Bool) (pol : Bool) (t : Nat) (s : State) : KeepsR 0xd09000010000000000000000000000000000000000000000000000000000000000000000000000000000000000000000000000200000000000000000000000000000000000000000000000000000000000000000186700018080000000080000041df00000000000000000000000000000000002000000000000000000000000000000000000000000000000000000000000000000000000000000000000000000000000000000000000000000000000000000000000000000000000000000000000000000000000000000000000000000000000 s (execPulseArm unit periodic strict outEn pol t s) := by
  unfold execPulseArm
  try dsimp only
  repeat' first
    | (with_reducible refine KeepsR.next ?_)
    | (with_reducible refine KeepsR.ite ?_ ?_)
    | with_reducible refine Keeps.ite ?_ ?_
    | with_reducible exact Keeps.refl
    | with_reducible assumption
    | ((with_reducible apply Keeps.put); (case d => rfl); (case e => rfl))
    | ((with_reducible apply Keeps.at); (case e => rfl); (case e2 => rfl))
    | ((with_reducible apply modPulse_keeps); (case hMk => rfl))
    | ((with_reducible apply pulseLate_keeps); (case hMk => rfl))
    | intro _
    | split
    | dsimp only
    | (refine Keeps.snd ?_ (by with_reducible assumption))

theorem execPulseStop_keeps (unit : Fin 4) (t : Nat) (s : State) : KeepsR 0x8080000100000000000000000000000000000000000000000000000000000000000000000000000000000000000000000000000000000000000000000000000000000000000000000000000000000000000000000000000000000000000000000010100000000000000000000000000000000000000000000000000000000000000000000000000000000000000000000000000000000000000000000000000000000000000000000000000000000000000000000000000000000000000000000000000000000000000000000000000000000000 s (execPulseStop unit t s) := by
  unfold execPulseStop
  try dsimp only
  repeat' first
    | (with_reducible refine KeepsR.next ?_)
    | (with_reducible refine KeepsR.ite ?_ ?_)
    | with_reducible refine Keeps.ite ?_ ?_
    | with_reducible exact Keeps.refl
    | with_reducible assumption
    | ((with_reducible apply Keeps.at); (case e => rfl); (case e2 => rfl))
    | ((with_reducible apply modPulse_keeps); (case hMk => rfl))
    | ((with_reducible apply pulseOff_keeps); (case hMk => rfl))
    | intro _
    | split
    | dsimp only
    | (refine Keeps.snd ?_ (by with_reducible assumption))

theorem execPulseEdge_keeps (unit : Fin 4) (t : Nat) (s : State) : KeepsR 0x8080000100000000000000000000000000000000000000000000000000000000000000000000000000000000000000000000000000000000000000000000000000000000000000000000000000000000000000000000000000000000000000000410100000000000000000000000000000000000000000000000000000000000000000000000000000000000000000000000000000000000000000000000000000000000000000000000000000000000000000000000000000000000000000000000000000000000000000000000000000000000 s (execPulseEdge unit t s) := by
  unfold execPulseEdge
  try dsimp only
  repeat' first
    | (with_reducible refine KeepsR.next ?_)
    | (with_reducible refine KeepsR.ite ?_ ?_)
    | with_reducible refine Keeps.ite ?_ ?_
    | with_reducible exact Keeps.refl
    | with_reducible assumption
    | ((with_reducible apply Keeps.at); (case e => rfl); (case e2 => rfl))
    | ((with_reducible apply modPulse_keeps); (case hMk => rfl))
    | ((with_reducible apply pulseFire_keeps); (case hMk => rfl))
    | ((with_reducible apply pulseOff_keeps); (case hMk => rfl))
    | intro _
    | split
    | dsimp only
    | (refine Keeps.snd ?_ (by with_reducible assumption))

theorem execCaptureEdge_keeps (unit : Fin 4) (fall : Bool) (held : Nat) (t : Nat) (s : State) : KeepsR 0xd19048030000000000000000000000000000000000000000000000000000000000000000000000000000000800000000000000200000000000000000000000000000000000000000000000000000000000000000186700018080000000080181c41c10000000000073872007e0000000100000467a00000c0000000000000000000000000000000000000000000000000000000000000000000000000000000000000000000000000000000000000000000000000000000000000000000000000000000000000000000000000000000000000000 s (execCaptureEdge unit fall held t s) := by
  unfold execCaptureEdge
  try dsimp only
  repeat' first
    | (with_reducible refine KeepsR.next ?_)
    | (with_reducible refine KeepsR.ite ?_ ?_)
    | with_reducible refine Keeps.ite ?_ ?_
    | with_reducible exact Keeps.refl
    | with_reducible assumption
    | ((with_reducible apply Keeps.wr); (case d => rfl); (case e => rfl))
    | ((with_reducible apply Keeps.put); (case d => rfl); (case e => rfl))
    | ((with_reducible apply Keeps.inc); (case d => rfl); (case e => rfl))
    | ((with_reducible apply Keeps.at); (case e => rfl); (case e2 => rfl))
    | ((with_reducible apply modTsu_keeps); (case hMk => rfl))
    | ((with_reducible apply raiseAt_keeps); (case d => rfl); (case hMk => rfl); (case hMk2 => rfl))
    | ((with_reducible apply servoOffset_keeps); (case hMk => rfl))
    | intro _
    | split
    | dsimp only
    | (refine Keeps.snd ?_ (by with_reducible assumption))

theorem execTsuCiNsRead_keeps (unit : Fin 4) (requester : Requester) (s : State) : KeepsR 0x800008000000000000000000000000000000000000000000000000000000000000000000000000000000000000000000000000000000000000000000000000000000000000000000000000000000000000000000000000000000000000007e4000000000000000000000000000000000000000000000000000000000000000000000000000000000000000000000000000000000000000000000000000000000000000000000000000000000000000000000000000000000000000000000000000000000000000000000000000000000000000 s (execTsuCiNsRead unit requester s) := by
  unfold execTsuCiNsRead
  try dsimp only
  repeat' first
    | (with_reducible refine KeepsR.next ?_)
    | (with_reducible refine KeepsR.ite ?_ ?_)
    | with_reducible refine Keeps.ite ?_ ?_
    | with_reducible exact Keeps.refl
    | with_reducible assumption
    | ((with_reducible apply Keeps.wr); (case d => rfl); (case e => rfl))
    | ((with_reducible apply Keeps.put); (case d => rfl); (case e => rfl))
    | ((with_reducible apply Keeps.answer); (case e => rfl))
    | ((with_reducible apply modTsu_keeps); (case hMk => rfl))
    | intro _
    | split
    | dsimp only
    | (refine Keeps.snd ?_ (by with_reducible assumption))

theorem execTsuServoOfsPeakRead_keeps (requester : Requester) (s : State) : KeepsR 0x800000000000000000000000000000000000000000000000000000000000000000000000000000000000000000000000000000000000000000000000000000000000000000000000000000000000000000000000000000000000000000000000000000000000400000000000000000000000000000000000000000000000000000000000000000000000000000000000000000000000000000000000000000000000000000000000000000000000000000000000000000000000000000000000000000000000000000000000000000000 s (execTsuServoOfsPeakRead requester s) := by
  unfold execTsuServoOfsPeakRead
  try dsimp only
  repeat' first
    | (with_reducible refine KeepsR.next ?_)
    | (with_reducible refine KeepsR.ite ?_ ?_)
    | with_reducible refine Keeps.ite ?_ ?_
    | with_reducible exact Keeps.refl
    | with_reducible assumption
    | ((with_reducible apply Keeps.wr); (case d => rfl); (case e => rfl))
    | ((with_reducible apply Keeps.answer); (case e => rfl))
    | intro _
    | split
    | dsimp only
    | (refine Keeps.snd ?_ (by with_reducible assumption))

theorem execTsuPResPeakRead_keeps (port : Fin 2) (requester : Requester) (s : State) : KeepsR 0x800000000000000000000000000000000000000000000000000000000000000000000000000000000000000000000000000000000000000000000000000000000000000000000000000000000000000000000000000000000000000000000000002000000000000000000000000000000000000000000000000000000000000000000000000000000000000000000000000000000000000000000000000000000000000000000000000000000000000000000000000000000000000000000000000000000000000000000000000000000 s (execTsuPResPeakRead port requester s) := by
  unfold execTsuPResPeakRead
  try dsimp only
  repeat' first
    | (with_reducible refine KeepsR.next ?_)
    | (with_reducible refine KeepsR.ite ?_ ?_)
    | with_reducible refine Keeps.ite ?_ ?_
    | with_reducible exact Keeps.refl
    | with_reducible assumption
    | ((with_reducible apply Keeps.wr); (case d => rfl); (case e => rfl))
    | ((with_reducible apply Keeps.answer); (case e => rfl))
    | intro _
    | split
    | dsimp only
    | (refine Keeps.snd ?_ (by with_reducible assumption))

end Sys2Proof.Machine
end

