-- ==== Sys2Proof/Laws/KeepsFabric.lean ====
section
/-!
SUPPORT. What each operation and each meaning changes: the channelizer, the verdicts, egress, the fabric, fault commands, the shaper and the updates. The mask of each law names the register fields and the parts of the
state, as `Only` reads it.
-/

set_option simprocs false
set_option linter.all false

namespace Sys2Proof.Machine

theorem sliceClaim_keeps {mk : Nat} {sIn : State} (k : Nat) (fe : Nat) (plan : Nat) (chan : Nat) (cls : Nat) (c : Nat) (v : Slice) (s : State) (hMk : 0x2000000000000000000000000000000000000000000000000000000000000000000000000000000000000000000000000000000000000000000000000000000000000000000000000000000000000000000000000000000000000000000000000000000000000000000000000000000000000000000000000000000000000000000000000000000000000000000000000000000000000000000000000000000000000000000000000000000000000000000000000000000000000001f800000000000c00000000000000000000000000000 ||| mk = mk) (hIn : Keeps mk sIn s) : Keeps mk sIn (sliceClaim k fe plan chan cls c v s) := by
  refine Keeps.step hMk ?_ hIn
  unfold sliceClaim
  try dsimp only
  repeat' first
    | with_reducible refine Keeps.ite ?_ ?_
    | with_reducible exact Keeps.refl
    | with_reducible assumption
    | ((with_reducible apply Keeps.wr); (case d => rfl); (case e => rfl))
    | ((with_reducible apply Keeps.inc); (case d => rfl); (case e => rfl))
    | ((with_reducible apply Keeps.peak); (case d => rfl); (case e => rfl))
    | ((with_reducible apply modSlice_keeps); (case hMk => rfl))
    | intro _
    | split
    | dsimp only
    | (refine Keeps.snd ?_ (by with_reducible assumption))

theorem preambleLost_keeps {mk : Nat} {sIn : State} (ofdm : Bool) (c : Nat) (s : State) (hMk : 0x5010000000000000000000000000000000000000000000000000000000000000000000000000000000000000000000000000002000000000000000000000000000000000000000000000000000000000000000001867000180800000000800000000000000000000000000000000000000000000000000000000000000000000000000000000000000000000000000000000000000000000000000000000000000000000000000000000000000000000000000000000000000000000000000000000000f00020000000000000000000000000000 ||| mk = mk) (hIn : Keeps mk sIn s) : Keeps mk sIn (preambleLost ofdm c s) := by
  refine Keeps.step hMk ?_ hIn
  unfold preambleLost
  try dsimp only
  repeat' first
    | with_reducible refine Keeps.ite ?_ ?_
    | with_reducible exact Keeps.refl
    | with_reducible assumption
    | ((with_reducible apply Keeps.inc); (case d => rfl); (case e => rfl))
    | ((with_reducible apply raise_keeps); (case d => rfl); (case hMk => rfl); (case hMk2 => rfl))
    | intro _
    | split
    | dsimp only
    | (refine Keeps.snd ?_ (by with_reducible assumption))

theorem preempt_keeps {mk : Nat} {sIn : State} (k : Nat) (s : State) (hMk : 0x400000000000000000000000000000000000000000000000000000000000000000000000000000000000003000000000000000000000000000000000 ||| mk = mk) (hIn : Keeps mk sIn s) : Keeps mk sIn (preempt k s) := by
  refine Keeps.step hMk ?_ hIn
  unfold preempt
  try dsimp only
  repeat' first
    | with_reducible refine Keeps.ite ?_ ?_
    | with_reducible exact Keeps.refl
    | with_reducible assumption
    | ((with_reducible apply Keeps.inc); (case d => rfl); (case e => rfl))
    | ((with_reducible apply engineFree_keeps); (case hMk => rfl))
    | intro _
    | split
    | dsimp only
    | (refine Keeps.snd ?_ (by with_reducible assumption))

theorem sliceSwitch_keeps {mk : Nat} {sIn : State} (k : Nat) (n : Nat) (q : Nat) (s : State) (hMk : 0x20000000000000000000000000000000000000000000000000000000000000000000000000000000000000000000000000000000000000000000000000000000000000000000000000000000000000000000000000000000000000000000000000000000000000000000000000000000000000000000000000000000000000000000000000000000000000000000000000000000000000000000000000000000000000000000000000000000000000000000000000000000000000002000000000000000000000000000000000000000000 ||| mk = mk) (hIn : Keeps mk sIn s) : Keeps mk sIn (sliceSwitch k n q s) := by
  refine Keeps.step hMk ?_ hIn
  unfold sliceSwitch
  try dsimp only
  repeat' first
    | with_reducible refine Keeps.ite ?_ ?_
    | with_reducible exact Keeps.refl
    | with_reducible assumption
    | ((with_reducible apply Keeps.wr); (case d => rfl); (case e => rfl))
    | ((with_reducible apply modSlice_keeps); (case hMk => rfl))
    | intro _
    | split
    | dsimp only
    | (refine Keeps.snd ?_ (by with_reducible assumption))

theorem detLog_keeps {mk : Nat} {sIn : State} (plan : Nat) (chan : Nat) (cls : Nat) (est : Int) (s : State) (hMk : 0x80000000000000000000000000000000000000000000000000000000000000000000000000000000000000000000000000000000000000000000000000000000000000000000000000000000000000000000000000000000000000000000000000000000000000000000000000000000000000000000000000000000000000000000000000000000000000000000000000000000000000000000000000000000000000000000000000000000000000000000000000000000000000000000000000000000000000000000000000000000000 ||| mk = mk) (hIn : Keeps mk sIn s) : Keeps mk sIn (detLog plan chan cls est s) := by
  refine Keeps.step hMk ?_ hIn
  unfold detLog
  try dsimp only
  repeat' first
    | with_reducible refine Keeps.ite ?_ ?_
    | with_reducible exact Keeps.refl
    | with_reducible assumption
    | intro _
    | split
    | dsimp only
    | (refine Keeps.snd ?_ (by with_reducible assumption))
    | ((with_reducible apply Keeps.set_mac); (case e => rfl))

theorem execPreambleDetect_keeps (fe : Fin 4) (plan : Fin 16) (chan : Nat) (cls : Fin 11) (q : Nat) (sniffer : Nat) (stfPeak : Nat) (t : Nat) (s : State) : KeepsR 0xd0100a010000000000000000000000000000000000000000000000000000000000000000000000000000000000000000000000200000000000000000000000000000000000000000000000000000000000000000186700018080000000080000000000000000000000000000000000000000000000000000000000000000000000000000000000000000000000000000000000000000000040000000000000000000000000000000000000000000000000000000000000000000000000001fc0000040bf00c20000000000000000000000000000 s (execPreambleDetect fe plan chan cls q sniffer stfPeak t s) := by
  unfold execPreambleDetect
  try dsimp only
  repeat' first
    | (with_reducible refine KeepsR.next ?_)
    | (with_reducible refine KeepsR.ite ?_ ?_)
    | with_reducible refine Keeps.ite ?_ ?_
    | with_reducible exact Keeps.refl
    | with_reducible assumption
    | ((with_reducible apply Keeps.inc); (case d => rfl); (case e => rfl))
    | ((with_reducible apply Keeps.at); (case e => rfl); (case e2 => rfl))
    | ((with_reducible apply detLog_keeps); (case hMk => rfl))
    | ((with_reducible apply modSlice_keeps); (case hMk => rfl))
    | ((with_reducible apply preambleLost_keeps); (case hMk => rfl))
    | ((with_reducible apply preempt_keeps); (case hMk => rfl))
    | ((with_reducible apply sliceClaim_keeps); (case hMk => rfl))
    | ((with_reducible apply sliceSwitch_keeps); (case hMk => rfl))
    | intro _
    | split
    | dsimp only
    | (refine Keeps.snd ?_ (by with_reducible assumption))

theorem sfdGone_keeps {mk : Nat} {sIn : State} (k : Nat) (s : State) (hMk : 0x20000000000000000000000000000000000000000000000000000000000000000000000000000000000000000000000000000000000000000000000000000000000000000000000000000000000000000000000000000000000000000000000000000000000000000000000000000000000000000000000000000000000000000000000000000000000000000000000000000000000400000000000000000000000000000000000000000000000000000000000000000000000000000800000010000400000000000000000000000000000 ||| mk = mk) (hIn : Keeps mk sIn s) : Keeps mk sIn (sfdGone k s) := by
  refine Keeps.step hMk ?_ hIn
  unfold sfdGone
  try dsimp only
  repeat' first
    | with_reducible refine Keeps.ite ?_ ?_
    | with_reducible exact Keeps.refl
    | with_reducible assumption
    | ((with_reducible apply Keeps.inc); (case d => rfl); (case e => rfl))
    | ((with_reducible apply sliceRelease_keeps); (case hMk => rfl))
    | intro _
    | split
    | dsimp only
    | (refine Keeps.snd ?_ (by with_reducible assumption))

theorem execSfdFound_keeps (slice : Fin 128) (ts : Nat) (t : Nat) (s : State) : KeepsR 0x8000020100000000000000000000000000000000000000000000000000000000000000000000000000000000000000000000000000000000000000000000000000000000000000000000000000000000000000000000000000000000000000000000000000000000000000000000000000000000000000000000000000000000000000000000000000000000000000000000000000000000400000000000000000000000000000000000000000000000000000000000000000000000000000800000010000400000000000000000000000000000 s (execSfdFound slice ts t s) := by
  unfold execSfdFound
  try dsimp only
  repeat' first
    | (with_reducible refine KeepsR.next ?_)
    | (with_reducible refine KeepsR.ite ?_ ?_)
    | with_reducible refine Keeps.ite ?_ ?_
    | with_reducible exact Keeps.refl
    | with_reducible assumption
    | ((with_reducible apply Keeps.wr); (case d => rfl); (case e => rfl))
    | ((with_reducible apply Keeps.at); (case e => rfl); (case e2 => rfl))
    | ((with_reducible apply modSlice_keeps); (case hMk => rfl))
    | ((with_reducible apply sfdGone_keeps); (case hMk => rfl))
    | intro _
    | split
    | dsimp only
    | (refine Keeps.snd ?_ (by with_reducible assumption))

theorem execSfdTimeout_keeps (slice : Fin 128) (t : Nat) (s : State) : KeepsR 0x8000020100000000000000000000000000000000000000000000000000000000000000000000000000000000000000000000000000000000000000000000000000000000000000000000000000000000000000000000000000000000000000000000000000000000000000000000000000000000000000000000000000000000000000000000000000000000000000000000000000000000400000000000000000000000000000000000000000000000000000000000000000000000000000800000010000400000000000000000000000000000 s (execSfdTimeout slice t s) := by
  unfold execSfdTimeout
  try dsimp only
  repeat' first
    | (with_reducible refine KeepsR.next ?_)
    | (with_reducible refine KeepsR.ite ?_ ?_)
    | with_reducible refine Keeps.ite ?_ ?_
    | with_reducible exact Keeps.refl
    | with_reducible assumption
    | ((with_reducible apply Keeps.at); (case e => rfl); (case e2 => rfl))
    | ((with_reducible apply sfdGone_keeps); (case hMk => rfl))
    | intro _
    | split
    | dsimp only
    | (refine Keeps.snd ?_ (by with_reducible assumption))

theorem execPhrCheck_keeps (slice : Fin 128) (modeSwitch : Bool) (hcsOk : Bool) (len : Nat) (mcs : Nat) (fcs4 : Bool) (dw : Bool) (fec : Bool) (t : Nat) (s : State) : KeepsR 0x80000201000000000000000000000000000000000000000000000000000000000000000000000000000000000000000000000000000000000000000000000000000000000000000000000000000000000000000000000000000000000000000000000000000000000000000000000000000000000000000000000000000000000000000000000000000000000000000000000000000000004000000000000000000000000000000000000000000000000000000000000000000000000000008000000e0000400000000000000000000000000000 s (execPhrCheck slice modeSwitch hcsOk len mcs fcs4 dw fec t s) := by
  unfold execPhrCheck
  try dsimp only
  repeat' first
    | (with_reducible refine KeepsR.next ?_)
    | (with_reducible refine KeepsR.ite ?_ ?_)
    | with_reducible refine Keeps.ite ?_ ?_
    | with_reducible exact Keeps.refl
    | with_reducible assumption
    | ((with_reducible apply Keeps.inc); (case d => rfl); (case e => rfl))
    | ((with_reducible apply Keeps.at); (case e => rfl); (case e2 => rfl))
    | ((with_reducible apply modSlice_keeps); (case hMk => rfl))
    | ((with_reducible apply sliceRelease_keeps); (case hMk => rfl))
    | intro _
    | split
    | dsimp only
    | (refine Keeps.snd ?_ (by with_reducible assumption))

theorem fifoOvf_keeps {mk : Nat} {sIn : State} (n : Nat) (s : State) (hMk : 0x50700080000000000000000000020000000020000000000000000011547c00c17c0000000000000000000000000000000000002000000000000000000000000000000000000000000000000000000000000000001867000180800000000800000000000000000000000000000000000000000000000000000000000000000000000000000000000000000000000000000000000000000000000000000000000000000000000000000000000000000000000000000000000000000000000000000004000000010000000000000000000000000080 ||| mk = mk) (hIn : Keeps mk sIn s) : Keeps mk sIn (fifoOvf n s) := by
  refine Keeps.step hMk ?_ hIn
  unfold fifoOvf
  try dsimp only
  repeat' first
    | with_reducible refine Keeps.ite ?_ ?_
    | with_reducible exact Keeps.refl
    | with_reducible assumption
    | ((with_reducible apply Keeps.inc); (case d => rfl); (case e => rfl))
    | ((with_reducible apply faultEvent_keeps); (case hMk => rfl))
    | ((with_reducible apply raise_keeps); (case d => rfl); (case hMk => rfl); (case hMk2 => rfl))
    | intro _
    | split
    | dsimp only
    | (refine Keeps.snd ?_ (by with_reducible assumption))

theorem execSliceFrameEnd_keeps (slice : Fin 128) (fcsOk : Bool) (room : Bool) (relayRoom : Bool) (pwr : Int) (snr : Int) (hdr : MacHdr) (t : Nat) (s : State) : KeepsR 0xd0700a85000000000000000000020010840020000000000000000011547c00c17c0000000000000000000000000000000000002000000000000000000000000000000000000000000000000000000000000000001867000180800000000800000000000000000000000000000000000000000000000000000000000000000000000000000000000000000000000000000000000000000000400000000000000000000000000000000000000000000000000000000000000000000000000040800007b00000410000000000000000000000000080 s (execSliceFrameEnd slice fcsOk room relayRoom pwr snr hdr t s) := by
  unfold execSliceFrameEnd
  try dsimp only
  repeat' first
    | (with_reducible refine KeepsR.next ?_)
    | (with_reducible refine KeepsR.ite ?_ ?_)
    | with_reducible refine Keeps.ite ?_ ?_
    | with_reducible exact Keeps.refl
    | with_reducible assumption
    | ((with_reducible apply Keeps.inc); (case d => rfl); (case e => rfl))
    | ((with_reducible apply Keeps.at); (case e => rfl); (case e2 => rfl))
    | ((with_reducible apply fifoOvf_keeps); (case hMk => rfl))
    | ((with_reducible apply modSlice_keeps); (case hMk => rfl))
    | ((with_reducible apply relay_keeps); (case d => rfl); (case hMk => rfl); (case hMk2 => rfl))
    | ((with_reducible apply rxRadio_keeps); (case hMk => rfl))
    | ((with_reducible apply sliceRelease_keeps); (case hMk => rfl))
    | intro _
    | split
    | dsimp only
    | (refine Keeps.snd ?_ (by with_reducible assumption))
    | ((with_reducible apply Keeps.set_mac); (case e => rfl))

theorem execClassUpResult_keeps (slice : Fin 128) (pan : Nat) (src : Addr) (ts : Nat) (t : Nat) (s : State) : KeepsR 0x8000000100000000000000000000000000000000000000000000000000000000000000000000000000000000000000000000000000000000000000000000000000000000000000000000000000000000000000000000000000000000000000000000000000000000000000000000000000000000000000000000000000000000000000000000000000000000000000000000000000000000000000000000000000000000000000000000000000000000000000000000000000000000000001000000004000000000000000000000000000000000 s (execClassUpResult slice pan src ts t s) := by
  unfold execClassUpResult
  try dsimp only
  repeat' first
    | (with_reducible refine KeepsR.next ?_)
    | (with_reducible refine KeepsR.ite ?_ ?_)
    | with_reducible refine Keeps.ite ?_ ?_
    | with_reducible exact Keeps.refl
    | with_reducible assumption
    | ((with_reducible apply Keeps.wr); (case d => rfl); (case e => rfl))
    | ((with_reducible apply Keeps.inc); (case d => rfl); (case e => rfl))
    | ((with_reducible apply Keeps.at); (case e => rfl); (case e2 => rfl))
    | intro _
    | split
    | dsimp only
    | (refine Keeps.snd ?_ (by with_reducible assumption))

theorem planClamped_keeps {mk : Nat} {sIn : State} (p : Nat) (b : Bool) (s : State) (hMk : 0x5010000000000000000000000000000000000000000000000000000000000000000000000000000000000000000000000000002000000000000000000000000000000000000000000000000000000000000000001867000180800000000800000000000000000000000000000000000000000000000000000000000000000000000000000000000000000000000000000000000000000000000000000000000000000000000000000000000000000000000000000000000000000000000000200000000000008000000000000000000000000000 ||| mk = mk) (hIn : Keeps mk sIn s) : Keeps mk sIn (planClamped p b s) := by
  refine Keeps.step hMk ?_ hIn
  unfold planClamped
  try dsimp only
  repeat' first
    | with_reducible refine Keeps.ite ?_ ?_
    | with_reducible exact Keeps.refl
    | with_reducible assumption
    | ((with_reducible apply Keeps.put); (case d => rfl); (case e => rfl))
    | ((with_reducible apply raise_keeps); (case d => rfl); (case hMk => rfl); (case hMk2 => rfl))
    | intro _
    | split
    | dsimp only
    | (refine Keeps.snd ?_ (by with_reducible assumption))

theorem planClamp_keeps {mk : Nat} {sIn : State} (p : Nat) (s : State) (hMk : 0x5010000000000000000000000000000000000000000000000000000000000000000000000000000000000000000000000000002000000000000000000000000000000000000000000000000000000000000000001867000180800000000800000000000000000000000000000000000000000000000000000000000000000000000000000000000000000000000000000000000000000000000000000000000000000000000000000000000000000000000000000000000000000000000000203040000000008000000000000000000000000000 ||| mk = mk) (hIn : Keeps mk sIn s) : Keeps mk sIn (planClamp p s) := by
  refine Keeps.step hMk ?_ hIn
  unfold planClamp
  try dsimp only
  repeat' first
    | with_reducible refine Keeps.ite ?_ ?_
    | with_reducible exact Keeps.refl
    | with_reducible assumption
    | ((with_reducible apply Keeps.wr); (case d => rfl); (case e => rfl))
    | ((with_reducible apply planClamped_keeps); (case hMk => rfl))
    | intro _
    | split
    | dsimp only
    | (refine Keeps.snd ?_ (by with_reducible assumption))

theorem execChzPlanWrite_keeps (plan : Fin 16) (reg : PlanReg) (value : Word) (t : Nat) (s : State) : KeepsR 0x1d0100401000000000000000000000000000000000000000000000000000000000000000000000000000000000000000000000020000000000000000000000000000000000000000000000000000000000000000018670001808000000008000000000000000000000000000000000000000000000000000000000000000000000000000000000000000000000000000000000000000000000000000000000000000000000000000000000000000000000000000000000000000000000000003fffc000001000f800000000000000000000000000 s (execChzPlanWrite plan reg value t s) := by
  unfold execChzPlanWrite
  try dsimp only
  repeat' first
    | (with_reducible refine KeepsR.next ?_)
    | (with_reducible refine KeepsR.ite ?_ ?_)
    | with_reducible refine Keeps.ite ?_ ?_
    | with_reducible exact Keeps.refl
    | with_reducible assumption
    | ((with_reducible apply Keeps.wr); (case d => rfl); (case e => rfl))
    | ((with_reducible apply Keeps.at); (case e => rfl); (case e2 => rfl))
    | ((with_reducible apply planClamp_keeps); (case hMk => rfl))
    | ((with_reducible apply planClamped_keeps); (case hMk => rfl))
    | ((with_reducible apply replan_keeps); (case hMk => rfl))
    | intro _
    | split
    | dsimp only
    | (refine Keeps.snd ?_ (by with_reducible assumption))

theorem oogView_keeps {mk : Nat} {sIn : State} (t : Nat) (s : State) (hMk : 0x80000000000000000000000000000000 ||| mk = mk) (hIn : Keeps mk sIn s) : Keeps mk sIn (oogView t s) := by
  refine Keeps.step hMk ?_ hIn
  unfold oogView
  try dsimp only
  repeat' first
    | with_reducible refine Keeps.ite ?_ ?_
    | with_reducible exact Keeps.refl
    | with_reducible assumption
    | ((with_reducible apply Keeps.wr); (case d => rfl); (case e => rfl))
    | intro _
    | split
    | dsimp only
    | (refine Keeps.snd ?_ (by with_reducible assumption))

theorem execChzOogWrite_keeps (template : Fin 8) (limit : Nat) (t : Nat) (s : State) : KeepsR 0x80000001000000000000000000000000000000000000000000000000000000000000000000000000000000000000000000000000000000000000000000000000000000000000000000000000000000000000000000000000000000000000000000000000000000000000000000000000000000000000000000000000000000000000000000000000000000000000000000000000000000000000000000000000000000000000000000000000000000000000000000000000000000000000000000000000c0000000000000000000000000000000 s (execChzOogWrite template limit t s) := by
  unfold execChzOogWrite
  try dsimp only
  repeat' first
    | (with_reducible refine KeepsR.next ?_)
    | (with_reducible refine KeepsR.ite ?_ ?_)
    | with_reducible refine Keeps.ite ?_ ?_
    | with_reducible exact Keeps.refl
    | with_reducible assumption
    | ((with_reducible apply Keeps.wr); (case d => rfl); (case e => rfl))
    | ((with_reducible apply Keeps.at); (case e => rfl); (case e2 => rfl))
    | ((with_reducible apply oogView_keeps); (case hMk => rfl))
    | intro _
    | split
    | dsimp only
    | (refine Keeps.snd ?_ (by with_reducible assumption))

theorem execSpectrumInterval_keeps (bins : List (Int × Int)) (t : Nat) (s : State) : KeepsR 0x28000000100000000000000000000000000000000000000000000000000000000000000000000000000000000000000000000000000000000000000000000000000000000000000000000000000000000000000000000000000000000000000000000000000000000000000000000000000000000000000000000000000000000000000000000000000000000000000000000000000000000000000000000000000000000000000000000000000000000000000000000000000000000000180000000000000000000000000000000000000000000 s (execSpectrumInterval bins t s) := by
  unfold execSpectrumInterval
  try dsimp only
  repeat' first
    | (with_reducible refine KeepsR.next ?_)
    | (with_reducible refine KeepsR.ite ?_ ?_)
    | with_reducible refine Keeps.ite ?_ ?_
    | with_reducible exact Keeps.refl
    | with_reducible assumption
    | ((with_reducible apply Keeps.wrS); (case d => rfl); (case e => rfl))
    | ((with_reducible apply Keeps.at); (case e => rfl); (case e2 => rfl))
    | (with_reducible refine Keeps.each _ _ ?_ ?_)
    | intro _
    | split
    | dsimp only
    | (refine Keeps.snd ?_ (by with_reducible assumption))
    | ((with_reducible apply Keeps.set_specAt); (case e => rfl))

theorem execChzSlicePeakRead_keeps (requester : Requester) (s : State) : KeepsR 0x800000000000000000000000000000000000000000000000000000000000000000000000000000000000000000000000000000000000000000000000000000000000000000000000000000000000000000000000000000000000000000000000000000000000000000000000000000000000000000000000000000000000000000000000000000000000000000000000000000000000000000000000000000000000000000000000000000000000000000000000000000000000000000000000000800000000000000000000000000000 s (execChzSlicePeakRead requester s) := by
  unfold execChzSlicePeakRead
  try dsimp only
  repeat' first
    | (with_reducible refine KeepsR.next ?_)
    | (with_reducible refine KeepsR.ite ?_ ?_)
    | with_reducible refine Keeps.ite ?_ ?_
    | with_reducible exact Keeps.refl
    | with_reducible assumption
    | ((with_reducible apply Keeps.wr); (case d => rfl); (case e => rfl))
    | ((with_reducible apply Keeps.answer); (case e => rfl))
    | intro _
    | split
    | dsimp only
    | (refine Keeps.snd ?_ (by with_reducible assumption))

theorem egrStart_keeps {mk : Nat} {sIn : State} (p : Nat) (c : Nat) (f : EgrFrame) (l : List EgrFrame) (s : State) (hMk : 0x400000000000c00000000000000000000000000000000000000000000000000000000000000000000000000000000000000000000000000000000000000000000000000000000000000000000000000000000000000000000000000000000000000000000000000000000000000000000000000600000000000000000000000000000000000000000000000000000000000000000000000000000000000000000000000000000000000000000000000000000000000000000000000000000000000000000000000000000000000000000000 ||| mk = mk) (hIn : Keeps mk sIn s) : Keeps mk sIn (egrStart p c f l s) := by
  refine Keeps.step hMk ?_ hIn
  unfold egrStart
  try dsimp only
  repeat' first
    | with_reducible refine Keeps.ite ?_ ?_
    | with_reducible exact Keeps.refl
    | with_reducible assumption
    | ((with_reducible apply modPort_keeps); (case hMk => rfl))
    | ((with_reducible apply setEgr_keeps); (case hMk => rfl))
    | intro _
    | split
    | dsimp only
    | (refine Keeps.snd ?_ (by with_reducible assumption))

theorem egrPick_keeps {mk : Nat} {sIn : State} (p : Nat) (k : List Nat) (s : State) (hMk : 0x5010400000000000c000000000000000000000000000000000000000000000000000000000000000000000000000000000000020000000000000000000000000000000000000000000000000000000000000000018670001808000000008000000000000000000000000000000000000000000000006c0000000000001002000000200000000000000000000000000000000000000000000000000000000000000000000000000000000000000000000000000000000000000000000000000000000000000000000000000000000000000000000 ||| mk = mk) (hIn : Keeps mk sIn s) : Keeps mk sIn (egrPick p k s) := by
  refine Keeps.step hMk ?_ hIn
  have key : ∀ (k : List Nat) (s s0 : State), Keeps 0x5010400000000000c000000000000000000000000000000000000000000000000000000000000000000000000000000000000020000000000000000000000000000000000000000000000000000000000000000018670001808000000008000000000000000000000000000000000000000000000006c0000000000001002000000200000000000000000000000000000000000000000000000000000000000000000000000000000000000000000000000000000000000000000000000000000000000000000000000000000000000000000000 s0 s → Keeps 0x5010400000000000c000000000000000000000000000000000000000000000000000000000000000000000000000000000000020000000000000000000000000000000000000000000000000000000000000000018670001808000000008000000000000000000000000000000000000000000000006c0000000000001002000000200000000000000000000000000000000000000000000000000000000000000000000000000000000000000000000000000000000000000000000000000000000000000000000000000000000000000000000 s0 (egrPick p k s) := by
    intro k
    induction k with
    | nil => intro s s0 h; unfold egrPick; exact h
    | cons a l ih =>
     intro s s0 h
     unfold egrPick
     try dsimp only
     repeat' first
      | with_reducible refine Keeps.ite ?_ ?_
      | (with_reducible apply ih)
      | with_reducible exact Keeps.refl
      | with_reducible assumption
      | ((with_reducible apply Keeps.inc); (case d => rfl); (case e => rfl))
      | ((with_reducible apply dropNever_keeps); (case hMk => rfl))
      | ((with_reducible apply egrStart_keeps); (case hMk => rfl))
      | ((with_reducible apply setEgr_keeps); (case hMk => rfl))
      | split
      | (refine Keeps.snd ?_ (by with_reducible assumption))
      | intro _
      | dsimp only
  exact key k s s Keeps.refl

theorem execEgressFrameStart_keeps (port : Fin 2) (t : Nat) (s : State) : KeepsR 0xd010400100000000c000000000000000000000000000000000000000000000000000000000000000000000000000000000000020000000000000000000000000000000000000000000000000000000000000000018670001808000000008000000000000000000000000000000000000000000000006c0000000000001002000000200000000000000000000000000000000000000000000000000000000000000000000000000000000000000000000000000000000000000000000000000000000000000000000000000000000000000000000 s (execEgressFrameStart port t s) := by
  unfold execEgressFrameStart
  try dsimp only
  repeat' first
    | (with_reducible refine KeepsR.next ?_)
    | (with_reducible refine KeepsR.ite ?_ ?_)
    | with_reducible refine Keeps.ite ?_ ?_
    | with_reducible exact Keeps.refl
    | with_reducible assumption
    | ((with_reducible apply Keeps.at); (case e => rfl); (case e2 => rfl))
    | ((with_reducible apply egrPick_keeps); (case hMk => rfl))
    | intro _
    | split
    | dsimp only
    | (refine Keeps.snd ?_ (by with_reducible assumption))

theorem ethTxCount_keeps {mk : Nat} {sIn : State} (p : Nat) (f : EgrFrame) (s : State) (hMk : 0x4000000000001f5fc0000000000000000000000000000000000000000000000000000000000000000000000000000000000000000000000000000000000000000000000000000000000000000000000000000000000000000000000000000000000000000000000000000000000000000000000000000000000000000000000000000000000000000000000000000000000000000000000000000000000000000000000000000000000000000000000000000000000000000000000000000000000000000000000000000000000000000000 ||| mk = mk) (hIn : Keeps mk sIn s) : Keeps mk sIn (ethTxCount p f s) := by
  refine Keeps.step hMk ?_ hIn
  unfold ethTxCount
  try dsimp only
  repeat' first
    | with_reducible refine Keeps.ite ?_ ?_
    | with_reducible exact Keeps.refl
    | with_reducible assumption
    | ((with_reducible apply Keeps.inc); (case d => rfl); (case e => rfl))
    | ((with_reducible apply Keeps.add); (case d => rfl); (case e => rfl))
    | (with_reducible refine Keeps.when _ _ ?_ ?_)
    | ((with_reducible apply modPort_keeps); (case hMk => rfl))
    | intro _
    | split
    | dsimp only
    | (refine Keeps.snd ?_ (by with_reducible assumption))

theorem ptpLeft_keeps {mk : Nat} {sIn : State} (p : Nat) (m : PtpOut) (f : EgrFrame) (ts : Int) (s : State) (hMk : 0x80400000000000c080000000000000000000000000000000000000000000000000000000000000000000000000000000000000000000000000000000000000000000000000000000000000000000000000000000000000000000000000000000000425c8000000000000000000000000000000000600000000000000000000000000000000000000000000000000000000000000000000000000000000000000000000000000000000000000000000000000000000000000000000000000000000000000000000000000000000000000000000 ||| mk = mk) (hIn : Keeps mk sIn s) : Keeps mk sIn (ptpLeft p m f ts s) := by
  refine Keeps.step hMk ?_ hIn
  unfold ptpLeft
  try dsimp only
  repeat' first
    | with_reducible refine Keeps.ite ?_ ?_
    | with_reducible exact Keeps.refl
    | with_reducible assumption
    | ((with_reducible apply Keeps.inc); (case d => rfl); (case e => rfl))
    | ((with_reducible apply modPort_keeps); (case hMk => rfl))
    | ((with_reducible apply modPtp_keeps); (case hMk => rfl))
    | ((with_reducible apply ptpSend_keeps); (case hMk => rfl))
    | intro _
    | split
    | dsimp only
    | (refine Keeps.snd ?_ (by with_reducible assumption))

theorem residence_keeps {mk : Nat} {sIn : State} (p : Nat) (ing : Int) (ts : Int) (s : State) (hMk : 0x3000000000000000000000000000000000000000000000000000000000000000000000000000000000000000000000000000000000000000000000000000000000000000000000000000000000000000000000000000000000000000000000000000000000000000000000000000000 ||| mk = mk) (hIn : Keeps mk sIn s) : Keeps mk sIn (residence p ing ts s) := by
  refine Keeps.step hMk ?_ hIn
  unfold residence
  try dsimp only
  repeat' first
    | with_reducible refine Keeps.ite ?_ ?_
    | with_reducible exact Keeps.refl
    | with_reducible assumption
    | ((with_reducible apply Keeps.wr); (case d => rfl); (case e => rfl))
    | ((with_reducible apply Keeps.peak); (case d => rfl); (case e => rfl))
    | intro _
    | split
    | dsimp only
    | (refine Keeps.snd ?_ (by with_reducible assumption))

theorem execEgressFrameEnd_keeps (port : Fin 2) (t : Nat) (s : State) : KeepsR 0xd090400100000000dfdfc00000000000000000000000000000000000000000000000000000000000000000000000000000000020000000000000000000000000000000000000000000000000000000000000000000660001000000000000000000000c25cb000000000000000000000000000000000600000000000000000000000000000000000000000000000000000000000000000000000000000000000000000000000000000000000000000000000000000000000000000000000000000000000000000000000000000000000000000000 s (execEgressFrameEnd port t s) := by
  unfold execEgressFrameEnd
  try dsimp only
  repeat' first
    | (with_reducible refine KeepsR.next ?_)
    | (with_reducible refine KeepsR.ite ?_ ?_)
    | with_reducible refine Keeps.ite ?_ ?_
    | with_reducible exact Keeps.refl
    | with_reducible assumption
    | ((with_reducible apply Keeps.inc); (case d => rfl); (case e => rfl))
    | ((with_reducible apply Keeps.at); (case e => rfl); (case e2 => rfl))
    | ((with_reducible apply ethTxCount_keeps); (case hMk => rfl))
    | ((with_reducible apply modPort_keeps); (case hMk => rfl))
    | ((with_reducible apply ptpLeft_keeps); (case hMk => rfl))
    | ((with_reducible apply residence_keeps); (case hMk => rfl))
    | ((with_reducible apply txLeft_keeps); (case hMk => rfl))
    | intro _
    | split
    | dsimp only
    | (refine Keeps.snd ?_ (by with_reducible assumption))

theorem execGateListArm_keeps (port : Fin 2) (en : Bool) (len : Nat) (t : Nat) (s : State) : KeepsR 0xd01040010000000000000000000000000000000000000000000000000000000000000000000000000000000000000000000000200000000000000000000000000000000000000000000000000000000000000000186700018080000000080000000000000000000000000000000000000000000000010e0fe000000000800000000000000000000000000000000000000000000000000000000000000000000000000000000000000000000000000000000000000000000000000000000000000000000000000000000000000000000000000000 s (execGateListArm port en len t s) := by
  unfold execGateListArm
  try dsimp only
  repeat' first
    | (with_reducible refine KeepsR.next ?_)
    | (with_reducible refine KeepsR.ite ?_ ?_)
    | with_reducible refine Keeps.ite ?_ ?_
    | with_reducible exact Keeps.refl
    | with_reducible assumption
    | ((with_reducible apply Keeps.wr); (case d => rfl); (case e => rfl))
    | ((with_reducible apply Keeps.put); (case d => rfl); (case e => rfl))
    | ((with_reducible apply Keeps.inc); (case d => rfl); (case e => rfl))
    | ((with_reducible apply Keeps.at); (case e => rfl); (case e2 => rfl))
    | ((with_reducible apply gateView_keeps); (case hMk => rfl))
    | ((with_reducible apply modPort_keeps); (case hMk => rfl))
    | ((with_reducible apply raiseAt_keeps); (case d => rfl); (case hMk => rfl); (case hMk2 => rfl))
    | intro _
    | split
    | dsimp only
    | (refine Keeps.snd ?_ (by with_reducible assumption))

theorem execGateListSwitch_keeps (port : Fin 2) (t : Nat) (s : State) : KeepsR 0xd0104001000000000000000000000000000000000000000000000000000000000000000000000000000000000000000000000020000000000000000000000000000000000000000000000000000000000000000018670001808000000008000000000000000000000000000000000000000000000000200e4000000002000000000000000000000000000000000000000000000000000000000000000000000000000000000000000000000000000000000000000000000000000000000000000000000000000000000000000000000000000000 s (execGateListSwitch port t s) := by
  unfold execGateListSwitch
  try dsimp only
  repeat' first
    | (with_reducible refine KeepsR.next ?_)
    | (with_reducible refine KeepsR.ite ?_ ?_)
    | with_reducible refine Keeps.ite ?_ ?_
    | with_reducible exact Keeps.refl
    | with_reducible assumption
    | ((with_reducible apply Keeps.put); (case d => rfl); (case e => rfl))
    | ((with_reducible apply Keeps.inc); (case d => rfl); (case e => rfl))
    | ((with_reducible apply Keeps.at); (case e => rfl); (case e2 => rfl))
    | ((with_reducible apply gateView_keeps); (case hMk => rfl))
    | ((with_reducible apply modPort_keeps); (case hMk => rfl))
    | ((with_reducible apply raiseAt_keeps); (case d => rfl); (case hMk => rfl); (case hMk2 => rfl))
    | intro _
    | split
    | dsimp only
    | (refine Keeps.snd ?_ (by with_reducible assumption))

theorem execGateEntryEdge_keeps (port : Fin 2) (t : Nat) (s : State) : KeepsR 0x80004001000000000000000000000000000000000000000000000000000000000000000000000000000000000000000000000000000000000000000000000000000000000000000000000000000000000000000000000000000000000000000000000000000000000000000000000000000000000000100c0000000000000000000000000000000000000000000000000000000000000000000000000000000000000000000000000000000000000000000000000000000000000000000000000000000000000000000000000000000000000000 s (execGateEntryEdge port t s) := by
  unfold execGateEntryEdge
  try dsimp only
  repeat' first
    | (with_reducible refine KeepsR.next ?_)
    | (with_reducible refine KeepsR.ite ?_ ?_)
    | with_reducible refine Keeps.ite ?_ ?_
    | with_reducible exact Keeps.refl
    | with_reducible assumption
    | ((with_reducible apply Keeps.add); (case d => rfl); (case e => rfl))
    | ((with_reducible apply Keeps.at); (case e => rfl); (case e2 => rfl))
    | ((with_reducible apply gateView_keeps); (case hMk => rfl))
    | intro _
    | split
    | dsimp only
    | (refine Keeps.snd ?_ (by with_reducible assumption))

theorem execShpEgrPeakRead_keeps (port : Fin 2) (requester : Requester) (s : State) : KeepsR 0x800000000000000000000000000000000000000000000000000000000000000000000000000000000000000000000000000000000000000000000000000000000000000000000000000000000000000000000000000000000000000000000000000000000000000000000000000000000000400000000000000000000000000000000000000000000000000000000000000000000000000000000000000000000000000000000000000000000000000000000000000000000000000000000000000000000000000000000000000000000 s (execShpEgrPeakRead port requester s) := by
  unfold execShpEgrPeakRead
  try dsimp only
  repeat' first
    | (with_reducible refine KeepsR.next ?_)
    | (with_reducible refine KeepsR.ite ?_ ?_)
    | with_reducible refine Keeps.ite ?_ ?_
    | with_reducible exact Keeps.refl
    | with_reducible assumption
    | ((with_reducible apply Keeps.wr); (case d => rfl); (case e => rfl))
    | ((with_reducible apply Keeps.answer); (case e => rfl))
    | intro _
    | split
    | dsimp only
    | (refine Keeps.snd ?_ (by with_reducible assumption))

theorem execEthPEqPeakRead_keeps (port : Fin 2) (cls : Fin 8) (requester : Requester) (s : State) : KeepsR 0x800000000800000000000000000000000000000000000000000000000000000000000000000000000000000000000000000000000000000000000000000000000000000000000000000000000000000000000000000000000000000000000000000000000000000000000000000000000000000000000000000000000000000000000000000000000000000000000000000000000000000000000000000000000000000000000000000000000000000000000000000000000000000000000000000000000000000000000000000000000 s (execEthPEqPeakRead port cls requester s) := by
  unfold execEthPEqPeakRead
  try dsimp only
  repeat' first
    | (with_reducible refine KeepsR.next ?_)
    | (with_reducible refine KeepsR.ite ?_ ?_)
    | with_reducible refine Keeps.ite ?_ ?_
    | with_reducible exact Keeps.refl
    | with_reducible assumption
    | ((with_reducible apply Keeps.wr); (case d => rfl); (case e => rfl))
    | ((with_reducible apply Keeps.answer); (case e => rfl))
    | intro _
    | split
    | dsimp only
    | (refine Keeps.snd ?_ (by with_reducible assumption))

theorem execSysModeWrite_keeps (mode : Fin 4) (t : Nat) (s : State) : KeepsR 0x1d810264100000000000000000000000000000000000000000000000000000000000000000000000000000000000000000000002000000000000000000000000000047c00000000000000000000000000000000001867000180800000000800000000000000000000000000000000000000000000000000000000000000000000000000000000000000000000000000000000000000000000800000000000000010000000000000000000000000000000000000000000000000000000000000980000000010007800000000000000000000000000 s (execSysModeWrite mode t s) := by
  unfold execSysModeWrite
  try dsimp only
  repeat' first
    | (with_reducible refine KeepsR.next ?_)
    | (with_reducible refine KeepsR.ite ?_ ?_)
    | with_reducible refine Keeps.ite ?_ ?_
    | with_reducible exact Keeps.refl
    | with_reducible assumption
    | ((with_reducible apply Keeps.wr); (case d => rfl); (case e => rfl))
    | ((with_reducible apply Keeps.at); (case e => rfl); (case e2 => rfl))
    | ((with_reducible apply modeRequest_keeps); (case hMk => rfl))
    | intro _
    | split
    | dsimp only
    | (refine Keeps.snd ?_ (by with_reducible assumption))
    | ((with_reducible apply Keeps.set_boot); (case e => rfl))

theorem execModeChangeComplete_keeps (t : Nat) (s : State) : KeepsR 0x1d010264100000000000000000000000000000000000000000000000000000000000000000000000000000000000000000000002000000000000000000000000000046800000000000000000000000000000000001867000180800000000800000000000000000000000000000000000000000000000000000000000000000000000000000000000000000000000000000000000000000000800000000000000010000000000000000000000000000000000000000000000000000000000000980000000010007800000000000000000000000000 s (execModeChangeComplete t s) := by
  unfold execModeChangeComplete
  try dsimp only
  repeat' first
    | (with_reducible refine KeepsR.next ?_)
    | (with_reducible refine KeepsR.ite ?_ ?_)
    | with_reducible refine Keeps.ite ?_ ?_
    | with_reducible exact Keeps.refl
    | with_reducible assumption
    | ((with_reducible apply Keeps.at); (case e => rfl); (case e2 => rfl))
    | ((with_reducible apply modeComplete_keeps); (case hMk => rfl))
    | intro _
    | split
    | dsimp only
    | (refine Keeps.snd ?_ (by with_reducible assumption))

theorem execHoarfrostPeriod_keeps (slack : Int) (t : Nat) (s : State) : KeepsR 0x8000004100000000000000000000000000000000000000000000000000000000000000000000000000000000000000000000000000000000000000000000000000000000000000000000000000000000000000000000000000000000000000000000000000000000000000000000000000000000000000000000000000000000000000000000000000000000000000000000000000000000000000000000000000000000000000000000000000000000000000000000000000000000000000000000000000000000000000000000000000000000 s (execHoarfrostPeriod slack t s) := by
  unfold execHoarfrostPeriod
  try dsimp only
  repeat' first
    | (with_reducible refine KeepsR.next ?_)
    | (with_reducible refine KeepsR.ite ?_ ?_)
    | with_reducible refine Keeps.ite ?_ ?_
    | with_reducible exact Keeps.refl
    | with_reducible assumption
    | ((with_reducible apply Keeps.at); (case e => rfl); (case e2 => rfl))
    | ((with_reducible apply modHoar_keeps); (case hMk => rfl))
    | intro _
    | split
    | dsimp only
    | (refine Keeps.snd ?_ (by with_reducible assumption))

theorem execAvsbusFrameDone_keeps (ok : Bool) (t : Nat) (s : State) : KeepsR 0x1d07026c1000000000000000000020000000020000000000000000011547c00c17c0000000000000000000000000000000000002000000000000000000000000000046800000000000000000000000000000000001867000180800000000800000000000000000000000000000000000000000000000000000000000000000000000000000000000000000000000000000000000000000000800000000000000010000000000000000000000000000000000000000000000000000000000000980000000010007800000000000000000000000080 s (execAvsbusFrameDone ok t s) := by
  unfold execAvsbusFrameDone
  try dsimp only
  repeat' first
    | (with_reducible refine KeepsR.next ?_)
    | (with_reducible refine KeepsR.ite ?_ ?_)
    | with_reducible refine Keeps.ite ?_ ?_
    | with_reducible exact Keeps.refl
    | with_reducible assumption
    | ((with_reducible apply Keeps.put); (case d => rfl); (case e => rfl))
    | ((with_reducible apply Keeps.at); (case e => rfl); (case e2 => rfl))
    | ((with_reducible apply faultEvent_keeps); (case hMk => rfl))
    | ((with_reducible apply modHoar_keeps); (case hMk => rfl))
    | ((with_reducible apply modeEnd_keeps); (case hMk => rfl))
    | ((with_reducible apply modeNext_keeps); (case hMk => rfl))
    | intro _
    | split
    | dsimp only
    | (refine Keeps.snd ?_ (by with_reducible assumption))

theorem execFabricStallRelease_keeps (lane : Fin 4) (idx : Nat) (t : Nat) (s : State) : KeepsR 0x8004d00100000000000000000000000000000000000000000000000000000000000000000000000000000000000000000000000000000000000000000000000000000000000000400000000000000000000180000000000000000000000000000000000000000000000000000000000000000000000000000000000000000000001000800000000000000000000000000000000000400001400000000000000000000000000000000000000000000000000000000000000000000000000000000000000000000000000000000000000000000000 s (execFabricStallRelease lane idx t s) := by
  unfold execFabricStallRelease
  try dsimp only
  repeat' first
    | (with_reducible refine KeepsR.next ?_)
    | (with_reducible refine KeepsR.ite ?_ ?_)
    | with_reducible refine Keeps.ite ?_ ?_
    | with_reducible exact Keeps.refl
    | with_reducible assumption
    | ((with_reducible apply Keeps.at); (case e => rfl); (case e2 => rfl))
    | ((with_reducible apply itemReady_keeps); (case hMk => rfl))
    | intro _
    | split
    | dsimp only
    | (refine Keeps.snd ?_ (by with_reducible assumption))

theorem execScrubberPass_keeps (corrected : List (Fin 256)) (poisoned : List Nat) (t : Nat) (s : State) : KeepsR 0xd07040a1000000000000000000020000000020000000000000000011547c00c17c0000000000000000000000000000000000082000000000000000000000000000000000000000000000000000000000000000001867000180800000000800000000000000000000000000000000000000000000000000000000000000000000001000800000000000000000000000000000000000000000000000000000000000000000000000000000000000000000000000000000000000000000000000000000000000000000000000000000000000000080 s (execScrubberPass corrected poisoned t s) := by
  unfold execScrubberPass
  try dsimp only
  repeat' first
    | (with_reducible refine KeepsR.next ?_)
    | (with_reducible refine KeepsR.ite ?_ ?_)
    | with_reducible refine Keeps.ite ?_ ?_
    | with_reducible exact Keeps.refl
    | with_reducible assumption
    | ((with_reducible apply Keeps.at); (case e => rfl); (case e2 => rfl))
    | (with_reducible refine Keeps.each _ _ ?_ ?_)
    | ((with_reducible apply eccFix_keeps); (case hMk => rfl))
    | ((with_reducible apply fenceNode_keeps); (case hMk => rfl))
    | ((with_reducible apply poolGive_keeps); (case hMk => rfl))
    | intro _
    | split
    | dsimp only
    | (refine Keeps.snd ?_ (by with_reducible assumption))
    | ((with_reducible apply Keeps.set_qms); (case e => rfl))

theorem curdLose_keeps {mk : Nat} {sIn : State} (user : Nat) (l : List Nat) (s : State) (hMk : 0x400000000000000000000000000000000000000000000000000000000000000000000000000000000000000000000000000000000000000000000000000000000000000000000000000000000000000000000000000000000000000000000000000000000000000000000000000000000000000000000000000000000000000000000000000000000000000000000000000000000000000000000000000000000000000000000000000000000000000000000000000000000000000000000000000000000000000000000000000000000000 ||| mk = mk) (hIn : Keeps mk sIn s) : Keeps mk sIn (curdLose user l s) := by
  refine Keeps.step hMk ?_ hIn
  unfold curdLose
  try dsimp only
  repeat' first
    | with_reducible refine Keeps.ite ?_ ?_
    | with_reducible exact Keeps.refl
    | with_reducible assumption
    | intro _
    | split
    | dsimp only
    | (refine Keeps.snd ?_ (by with_reducible assumption))
    | ((with_reducible apply Keeps.set_qms); (case e => rfl))

theorem frameEcc_keeps {mk : Nat} {sIn : State} (lost : Bool) (f : QFrame) (s : State) (hMk : 0x600000000000000000000000000000000000000000000000000000000000000000000000000000000000000000000000000000000000000000000000000000000000000000000000000000000000000000000000000000000000000000000000000000000000000000000000000000000000000000000000000000002000001200800000000000000000000000000000000000000000000000000000000000000000000e00000000000000001000000000000000000000000000000000000000000000000000000000000000000000000000 ||| mk = mk) (hIn : Keeps mk sIn s) : Keeps mk sIn (frameEcc lost f s) := by
  refine Keeps.step hMk ?_ hIn
  unfold frameEcc
  try dsimp only
  repeat' first
    | with_reducible refine Keeps.ite ?_ ?_
    | with_reducible exact Keeps.refl
    | with_reducible assumption
    | ((with_reducible apply Keeps.whey); (case e => rfl); (case e2 => rfl))
    | ((with_reducible apply curdLose_keeps); (case hMk => rfl))
    | ((with_reducible apply frameWhey_keeps); (case hMk => rfl))
    | ((with_reducible apply p6Dropped_keeps); (case hMk => rfl))
    | intro _
    | split
    | dsimp only
    | (refine Keeps.snd ?_ (by with_reducible assumption))

theorem upEcc_keeps {mk : Nat} {sIn : State} (lost : Bool) (p : UpPacket) (s : State) (hMk : 0x400000000000000000000000000000000000000000000000000000000000000000000000000000000000000000000000000000000000000000000000000000000000000000000000000000000000000000000000000000000000000000000000000000000000000000000000000000000000000000000000000000002000001200800000000000000000000000000000000000000000000000000000000000000000000000000000000000000000000000000000000000000000000000000000000000000000000000000000000000000000 ||| mk = mk) (hIn : Keeps mk sIn s) : Keeps mk sIn (upEcc lost p s) := by
  refine Keeps.step hMk ?_ hIn
  unfold upEcc
  try dsimp only
  repeat' first
    | with_reducible refine Keeps.ite ?_ ?_
    | with_reducible exact Keeps.refl
    | with_reducible assumption
    | ((with_reducible apply Keeps.whey); (case e => rfl); (case e2 => rfl))
    | ((with_reducible apply curdLose_keeps); (case hMk => rfl))
    | ((with_reducible apply poolGive_keeps); (case hMk => rfl))
    | intro _
    | split
    | dsimp only
    | (refine Keeps.snd ?_ (by with_reducible assumption))

theorem eccQueue_keeps {mk : Nat} {sIn : State} {α : Type} (next : Bool) (pos : Nat) (l : List α) (drop : Bool → α → State → State) (s : State)
    (hf : ∀ c a x, Keeps mk sIn x → Keeps mk sIn (drop c a x)) (hIn : Keeps mk sIn s) : Keeps mk sIn (eccQueue next pos l drop s) := by
  unfold eccQueue
  split
  · exact Keeps.each _ _ (hf true) (Keeps.each _ _ (hf false) hIn)
  · exact Keeps.each _ _ (hf false) hIn

theorem symbolEcc_keeps {mk : Nat} {sIn : State} (slot : Nat) (lost : Bool) (y : Symbol) (s : State) (hMk : 0x400000000000000000000000000000000000000000000000000000000000000000000000000000000000000000000000000000000000000000000000000000000000000000000000000000000000000020000000000000000000000000000000000000000000000000000000000000000000000000000000000000002000001200800000000000000000000000000000000000000000000000000000000000000000000000000000000000000000000000000000000000000000000000000000000000000000000000000000000000000000 ||| mk = mk) (hIn : Keeps mk sIn s) : Keeps mk sIn (symbolEcc slot lost y s) := by
  refine Keeps.step hMk ?_ hIn
  unfold symbolEcc
  try dsimp only
  repeat' first
    | with_reducible refine Keeps.ite ?_ ?_
    | with_reducible exact Keeps.refl
    | with_reducible assumption
    | ((with_reducible apply Keeps.sub); (case d => rfl); (case e => rfl))
    | ((with_reducible apply Keeps.whey); (case e => rfl); (case e2 => rfl))
    | ((with_reducible apply curdLose_keeps); (case hMk => rfl))
    | ((with_reducible apply poolGive_keeps); (case hMk => rfl))
    | intro _
    | split
    | dsimp only
    | (refine Keeps.snd ?_ (by with_reducible assumption))

theorem curdEcc_keeps {mk : Nat} {sIn : State} (c : CurdAt) (next : Bool) (s : State) (hMk : 0x50547020000000000000000000000000000000000000000000000000000000000000000000000000000000000000000000000020000000000000000000000000000000000000000000000000000008280001a0039867000180800000000800000000000000000000000000000000000000000000000000000000000c00007000001200840000000000000000000000000000000000000000400000000000000000000000000e00000000000000001000000000000000000000000000000000000000000000000000000000000000000000000000 ||| mk = mk) (hIn : Keeps mk sIn s) : Keeps mk sIn (curdEcc c next s) := by
  refine Keeps.step hMk ?_ hIn
  unfold curdEcc
  try dsimp only
  repeat' first
    | with_reducible refine Keeps.ite ?_ ?_
    | with_reducible exact Keeps.refl
    | with_reducible assumption
    | (with_reducible apply eccQueue_keeps)
    | ((with_reducible apply Keeps.wr); (case d => rfl); (case e => rfl))
    | ((with_reducible apply Keeps.whey); (case e => rfl); (case e2 => rfl))
    | ((with_reducible apply curdLose_keeps); (case hMk => rfl))
    | ((with_reducible apply engineFree_keeps); (case hMk => rfl))
    | ((with_reducible apply frameEcc_keeps); (case hMk => rfl))
    | ((with_reducible apply frameWhey_keeps); (case hMk => rfl))
    | ((with_reducible apply modCamp_keeps); (case hMk => rfl))
    | ((with_reducible apply modLane_keeps); (case hMk => rfl))
    | ((with_reducible apply poolGive_keeps); (case hMk => rfl))
    | ((with_reducible apply raise_keeps); (case d => rfl); (case hMk => rfl); (case hMk2 => rfl))
    | ((with_reducible apply roundCheck_keeps); (case hMk => rfl))
    | ((with_reducible apply setCal_keeps); (case hMk => rfl))
    | ((with_reducible apply setDownQ_keeps); (case hMk => rfl))
    | ((with_reducible apply setNodeQ_keeps); (case hMk => rfl))
    | ((with_reducible apply setUpQ_keeps); (case hMk => rfl))
    | ((with_reducible apply symbolEcc_keeps); (case hMk => rfl))
    | ((with_reducible apply upEcc_keeps); (case hMk => rfl))
    | intro _
    | split
    | dsimp only
    | (refine Keeps.snd ?_ (by with_reducible assumption))
    | ((with_reducible apply Keeps.set_qms); (case e => rfl))

theorem fwtPoison_keeps {mk : Nat} {sIn : State} (loc : Nat) (s : State) (hMk : 0x2000000000000000000000000000000000000000000000000000000000000000000000000000000000000000000000000000000000000000000000000000000000000000000000000000000000000000000000000000000000000000000000000000000000000000000000000000000000000000000000000000000000000000000000000000000000000000000000000000000000000000000000000000000000000000000000000000000000000000000000000000000000000000000000000000000000000000000000000000000000000 ||| mk = mk) (hIn : Keeps mk sIn s) : Keeps mk sIn (fwtPoison loc s) := by
  refine Keeps.step hMk ?_ hIn
  unfold fwtPoison
  try dsimp only
  repeat' first
    | with_reducible refine Keeps.ite ?_ ?_
    | with_reducible exact Keeps.refl
    | with_reducible assumption
    | ((with_reducible apply fwtPut_keeps); (case hMk => rfl))
    | intro _
    | split
    | dsimp only
    | (refine Keeps.snd ?_ (by with_reducible assumption))

theorem pathPoison_keeps {mk : Nat} {sIn : State} (i : Nat) (s : State) (hMk : 0x2000000000000000000000000000000000000000000000000000000000000000000000000000000000000000000000000000000000000000000000000000000000000000000000000000000000000000000000000000000000000000000000000000000000000000000000000000000000000000000000000000000000000000000000000000000000000000000000000000000000000000000000000000000000000000000000000000000000000000000000000000000000000000000000000000000000000000000000000000000000000 ||| mk = mk) (hIn : Keeps mk sIn s) : Keeps mk sIn (pathPoison i s) := by
  refine Keeps.step hMk ?_ hIn
  unfold pathPoison
  try dsimp only
  repeat' first
    | with_reducible refine Keeps.ite ?_ ?_
    | with_reducible exact Keeps.refl
    | with_reducible assumption
    | intro _
    | split
    | dsimp only
    | (refine Keeps.snd ?_ (by with_reducible assumption))
    | ((with_reducible apply Keeps.set_fwd); (case e => rfl))

theorem keyPoison_keeps {mk : Nat} {sIn : State} (ix : Nat) (s : State) (hMk : 0x40002000000000000000000000000000000000000000000000000000000000000000000000000000000000000000000000000000000000000000000000000000000000000000000000000000000000000000000000000000000000000000000000000000000000000000000000000000000000000000000000000000000000000000000000000000000000000000000000000000000000000000000000000000000000000000000000000000000000000000000000000000000000000000000000000000000000000000000000000000000000 ||| mk = mk) (hIn : Keeps mk sIn s) : Keeps mk sIn (keyPoison ix s) := by
  refine Keeps.step hMk ?_ hIn
  unfold keyPoison
  try dsimp only
  repeat' first
    | with_reducible refine Keeps.ite ?_ ?_
    | with_reducible exact Keeps.refl
    | with_reducible assumption
    | (with_reducible refine Keeps.each _ _ ?_ ?_)
    | ((with_reducible apply Keeps.modNode); (case e => rfl); (case e2 => rfl))
    | intro _
    | split
    | dsimp only
    | (refine Keeps.snd ?_ (by with_reducible assumption))

theorem laneHang_keeps {mk : Nat} {sIn : State} (n : Nat) (s : State) (hMk : 0x5010100000000000000000000000000000000000000000000000000080000000000000000000000000000000000000000000002000000000000000000000000000000000000000000000000000000000000000001867000180800000000800000000000000000000000000000000000000000000000000000000000000000000001000800000000000000000000000000000000000000000400000000000000000000000000000000000000000000000000400000000000000000001000000000000000000000000000000000000000000000000 ||| mk = mk) (hIn : Keeps mk sIn s) : Keeps mk sIn (laneHang n s) := by
  refine Keeps.step hMk ?_ hIn
  unfold laneHang
  try dsimp only
  repeat' first
    | with_reducible refine Keeps.ite ?_ ?_
    | with_reducible exact Keeps.refl
    | with_reducible assumption
    | ((with_reducible apply Keeps.wr); (case d => rfl); (case e => rfl))
    | (with_reducible refine Keeps.each _ _ ?_ ?_)
    | ((with_reducible apply engineFree_keeps); (case hMk => rfl))
    | ((with_reducible apply frameFree_keeps); (case hMk => rfl))
    | ((with_reducible apply modLane_keeps); (case hMk => rfl))
    | ((with_reducible apply raiseAt_keeps); (case d => rfl); (case hMk => rfl); (case hMk2 => rfl))
    | ((with_reducible apply setRaw_keeps); (case hMk => rfl))
    | intro _
    | split
    | dsimp only
    | (refine Keeps.snd ?_ (by with_reducible assumption))

theorem eccEffect_keeps {mk : Nat} {sIn : State} (src : Nat) (a : FaultAt) (curd : CurdAt) (next : Bool) (s : State) (hMk : 0x50767020000000000000000000000000000000000000000000000000000000000000000000000000000000000000000000001020000000000000000000000000000000000000000000000000000008280001a0039867000180800000000800000000000000000000000000000000000000000000000000000000000c00007000001200840000000000000000000000000000000000000000400000000000000000000000000e00000000000000001000000000000000000000000000000000000000000000000000000000000000000000000000 ||| mk = mk) (hIn : Keeps mk sIn s) : Keeps mk sIn (eccEffect src a curd next s) := by
  refine Keeps.step hMk ?_ hIn
  unfold eccEffect
  try dsimp only
  repeat' first
    | with_reducible refine Keeps.ite ?_ ?_
    | with_reducible exact Keeps.refl
    | with_reducible assumption
    | ((with_reducible apply Keeps.addSat); (case d => rfl); (case e => rfl))
    | ((with_reducible apply Keeps.modNode); (case e => rfl); (case e2 => rfl))
    | ((with_reducible apply curdEcc_keeps); (case hMk => rfl))
    | ((with_reducible apply eccDeliver_keeps); (case hMk => rfl))
    | ((with_reducible apply fwtPoison_keeps); (case hMk => rfl))
    | ((with_reducible apply keyPoison_keeps); (case hMk => rfl))
    | ((with_reducible apply pathPoison_keeps); (case hMk => rfl))
    | intro _
    | split
    | dsimp only
    | (refine Keeps.snd ?_ (by with_reducible assumption))

theorem execFaultOccurrence_keeps (src : Fin 256) (at_ : FaultAt) (curd : CurdAt) (next : Bool) (t : Nat) (s : State) : KeepsR 0xd07670a1000000000000000000020000000020000000000000000011d47c00c17c00000000000000000000000000000000001020000000000000000000000000000000000000000000000000000008280001a0039867000180800000000800000000000000000000000000000000000000000000000000000000000c00007000001200840000000000000000000000000000000000000000400000000000000000000000000e00000000000000001000000400000000000000000001000000000000000000000000000000000000000000000080 s (execFaultOccurrence src at_ curd next t s) := by
  unfold execFaultOccurrence
  try dsimp only
  repeat' first
    | (with_reducible refine KeepsR.next ?_)
    | (with_reducible refine KeepsR.ite ?_ ?_)
    | with_reducible refine Keeps.ite ?_ ?_
    | with_reducible exact Keeps.refl
    | with_reducible assumption
    | ((with_reducible apply Keeps.at); (case e => rfl); (case e2 => rfl))
    | ((with_reducible apply eccEffect_keeps); (case hMk => rfl))
    | ((with_reducible apply faultEvent_keeps); (case hMk => rfl))
    | ((with_reducible apply laneHang_keeps); (case hMk => rfl))
    | intro _
    | split
    | dsimp only
    | (refine Keeps.snd ?_ (by with_reducible assumption))

theorem execFltLatchClear_keeps (src : Fin 256) (race : Bool) (at_ : FaultAt) (t : Nat) (s : State) : KeepsR 0xd070008100000000000000000002000000002000000000000000001154fc00c17c0000000000000000000000000000000000002000000000000000000000000000000000000000000000000000000000000000001867000180800000000800000000000000000000000000000000000000000000000000000000000000000000000000000000000000000000000000000000000000000000000000000000000000000000000000000000000000000000000000000000000000000000000000000000000000000000000000000000000000000080 s (execFltLatchClear src race at_ t s) := by
  unfold execFltLatchClear
  try dsimp only
  repeat' first
    | (with_reducible refine KeepsR.next ?_)
    | (with_reducible refine KeepsR.ite ?_ ?_)
    | with_reducible refine Keeps.ite ?_ ?_
    | with_reducible exact Keeps.refl
    | with_reducible assumption
    | ((with_reducible apply Keeps.at); (case e => rfl); (case e2 => rfl))
    | ((with_reducible apply faultEvent_keeps); (case hMk => rfl))
    | ((with_reducible apply latchClear_keeps); (case hMk => rfl))
    | intro _
    | split
    | dsimp only
    | (refine Keeps.snd ?_ (by with_reducible assumption))

theorem execFltClearAll_keeps (t : Nat) (s : State) : KeepsR 0x80200001000000000000000000000000000000000000000000000011109c00401c0000000000000000000000000000000000000000000000000000000000000000000000000000000000000000000000000000000000000000000000000000000000000000000000000000000000000000000000000000000000000000000000000000000000000000000000000000000000000000000000000000000000000000000000000000000000000000000000000000000000000000000000000000000000000000000000000000000000000000000000 s (execFltClearAll t s) := by
  unfold execFltClearAll
  try dsimp only
  repeat' first
    | (with_reducible refine KeepsR.next ?_)
    | (with_reducible refine KeepsR.ite ?_ ?_)
    | with_reducible refine Keeps.ite ?_ ?_
    | with_reducible exact Keeps.refl
    | with_reducible assumption
    | ((with_reducible apply Keeps.at); (case e => rfl); (case e2 => rfl))
    | (with_reducible refine Keeps.each _ _ ?_ ?_)
    | ((with_reducible apply latchClear_keeps); (case hMk => rfl))
    | intro _
    | split
    | dsimp only
    | (refine Keeps.snd ?_ (by with_reducible assumption))

theorem execFltClearFirst_keeps (t : Nat) (s : State) : KeepsR 0x8000000100000000000000000000000000000000000000000000000040000000000000000000000000000000000000000000000000000000000000000000000000000000000000000000000000000000000000000000000000000000000000000000000000000000000000000000000000000000000000000000000000000000000000000000000000000000000000000000000000000000000000000000000000000000000000000000000000000000000000000000000000000000000000000000000000000000000000000000000000000000 s (execFltClearFirst t s) := by
  unfold execFltClearFirst
  try dsimp only
  repeat' first
    | (with_reducible refine KeepsR.next ?_)
    | (with_reducible refine KeepsR.ite ?_ ?_)
    | with_reducible refine Keeps.ite ?_ ?_
    | with_reducible exact Keeps.refl
    | with_reducible assumption
    | ((with_reducible apply Keeps.wr); (case d => rfl); (case e => rfl))
    | ((with_reducible apply Keeps.at); (case e => rfl); (case e2 => rfl))
    | intro _
    | split
    | dsimp only
    | (refine Keeps.snd ?_ (by with_reducible assumption))

theorem execFltInject_keeps (src : Fin 256) (go : Bool) (t : Nat) (s : State) : KeepsR 0xd0700081000000000000000000020000000020000000000000000011747c00c17c0000000000000000000000000000000000002000000000000000000000000000000000000000000000000000000000000000001867000180800000000800000000000000000000000000000000000000000000000000000000000000000000000000000000000000000000000000000000000000000000000000000000000000000000000000000000000000000000000000000000000000000000000000000000000000000000000000000000000000000080 s (execFltInject src go t s) := by
  unfold execFltInject
  try dsimp only
  repeat' first
    | (with_reducible refine KeepsR.next ?_)
    | (with_reducible refine KeepsR.ite ?_ ?_)
    | with_reducible refine Keeps.ite ?_ ?_
    | with_reducible exact Keeps.refl
    | with_reducible assumption
    | ((with_reducible apply Keeps.inc); (case d => rfl); (case e => rfl))
    | ((with_reducible apply Keeps.at); (case e => rfl); (case e2 => rfl))
    | ((with_reducible apply faultRaise_keeps); (case hMk => rfl))
    | intro _
    | split
    | dsimp only
    | (refine Keeps.snd ?_ (by with_reducible assumption))

theorem execEscalationExpiry_keeps (t : Nat) (s : State) : KeepsR 0xd070008100000000000000000002000000002000000000000000000015040040380000000000000000000000000000000000002000000000000000000000000000000000000000000000000000000000000000001867000180800000000800000000000000000000000000000000000000000000000000000000000000000000000000000000000000000000000000000000000000000000000000000000000000000000000000000000000000000000000000000000000000000000000000000000000000000000000000000000000000000080 s (execEscalationExpiry t s) := by
  unfold execEscalationExpiry
  try dsimp only
  repeat' first
    | (with_reducible refine KeepsR.next ?_)
    | (with_reducible refine KeepsR.ite ?_ ?_)
    | with_reducible refine Keeps.ite ?_ ?_
    | with_reducible exact Keeps.refl
    | with_reducible assumption
    | ((with_reducible apply Keeps.wr); (case d => rfl); (case e => rfl))
    | ((with_reducible apply Keeps.put); (case d => rfl); (case e => rfl))
    | ((with_reducible apply Keeps.inc); (case d => rfl); (case e => rfl))
    | ((with_reducible apply Keeps.at); (case e => rfl); (case e2 => rfl))
    | ((with_reducible apply faultResetBegin_keeps); (case hMk => rfl))
    | ((with_reducible apply morPush_keeps); (case hMk => rfl))
    | intro _
    | split
    | dsimp only
    | (refine Keeps.snd ?_ (by with_reducible assumption))

theorem execCalmExpiry_keeps (t : Nat) (s : State) : KeepsR 0x8000000100000000000000000000000000000000000000000000000000004000000000000000000000000000000000000000000000000000000000000000000000000000000000000000000000000000000000000000000000000000000000000000000000000000000000000000000000000000000000000000000000000000000000000000000000000000000000000000000000000000000000000000000000000000000000000000000000000000000000000000000000000000000000000000000000000000000000000000000000000000 s (execCalmExpiry t s) := by
  unfold execCalmExpiry
  try dsimp only
  repeat' first
    | (with_reducible refine KeepsR.next ?_)
    | (with_reducible refine KeepsR.ite ?_ ?_)
    | with_reducible refine Keeps.ite ?_ ?_
    | with_reducible exact Keeps.refl
    | with_reducible assumption
    | ((with_reducible apply Keeps.wr); (case d => rfl); (case e => rfl))
    | ((with_reducible apply Keeps.at); (case e => rfl); (case e2 => rfl))
    | intro _
    | split
    | dsimp only
    | (refine Keeps.snd ?_ (by with_reducible assumption))

theorem execFltMorClear_keeps (t : Nat) (s : State) : KeepsR 0x8000000100000000000000000000000000000000000000000000002000030000000000000000000000000000000000000000000000000000000000000000000000000000000000000000000000000000000000000000000000000000000000000000000000000000000000000000000000000000000000000000000000000000000000000000000000000000000000000000000000000000000000000000000000000000000000000000000000000000000000000000000000000000000000000000000000000000000000000000000000000000 s (execFltMorClear t s) := by
  unfold execFltMorClear
  try dsimp only
  repeat' first
    | (with_reducible refine KeepsR.next ?_)
    | (with_reducible refine KeepsR.ite ?_ ?_)
    | with_reducible refine Keeps.ite ?_ ?_
    | with_reducible exact Keeps.refl
    | with_reducible assumption
    | ((with_reducible apply Keeps.wr); (case d => rfl); (case e => rfl))
    | ((with_reducible apply Keeps.at); (case e => rfl); (case e2 => rfl))
    | (with_reducible refine Keeps.each _ _ ?_ ?_)
    | intro _
    | split
    | dsimp only
    | (refine Keeps.snd ?_ (by with_reducible assumption))

theorem upPop_keeps {mk : Nat} {sIn : State} (w : Nat) (c : Nat) (p : UpPacket) (s : State) (hMk : 0x400000000000000000000000000000000000000000000000000000000000000000000000000000000000000000000000000000000000000000000000000000000000000000000000000000000000000000000000000000000000000000000000000000000000000000000000000000000000000000000000000000004000001000800000000000000000000000000000000000000000000000000000000000000000000000000000000000000000000000000000000000000000000000000000000000000000000000000000000000000000 ||| mk = mk) (hIn : Keeps mk sIn s) : Keeps mk sIn (upPop w c p s) := by
  refine Keeps.step hMk ?_ hIn
  unfold upPop
  try dsimp only
  repeat' first
    | with_reducible refine Keeps.ite ?_ ?_
    | with_reducible exact Keeps.refl
    | with_reducible assumption
    | ((with_reducible apply cqSub_keeps); (case hMk => rfl))
    | ((with_reducible apply poolGive_keeps); (case hMk => rfl))
    | ((with_reducible apply setUpQ_keeps); (case hMk => rfl))
    | intro _
    | split
    | dsimp only
    | (refine Keeps.snd ?_ (by with_reducible assumption))

theorem gatewaySend_keeps {mk : Nat} {sIn : State} (p : UpPacket) (port : Nat) (s : State) (hMk : 0x400400000000c000000000000010a0000000000000000000000000000000000000000000000000000000000000000000000000000000000000000000000000000000000000000000000000000000000000000000000000000000000000000000000000000000000000000000000000000000000600000000000000000000000000000000000000000000000000000000000000000000000000000000000000000000000000000000000000000000000000000000000000000000000000000000000000000000000000000000000000000000 ||| mk = mk) (hIn : Keeps mk sIn s) : Keeps mk sIn (gatewaySend p port s) := by
  refine Keeps.step hMk ?_ hIn
  unfold gatewaySend
  try dsimp only
  repeat' first
    | with_reducible refine Keeps.ite ?_ ?_
    | with_reducible exact Keeps.refl
    | with_reducible assumption
    | ((with_reducible apply egrPush_keeps); (case hMk => rfl))
    | ((with_reducible apply relay_keeps); (case d => rfl); (case hMk => rfl); (case hMk2 => rfl))
    | intro _
    | split
    | dsimp only
    | (refine Keeps.snd ?_ (by with_reducible assumption))

theorem execUplinkDrain_keeps (ward : Fin 8) (desc : Desc) (meets : TableMeets) (t : Nat) (s : State) : KeepsR 0xd072408500000000c000000000020010a00020000000000000000011547c00c17c000000000000000000000000000000000000200000000000000000000000000000000000000000000000000000000000000000187f800196c00000000c000000000000000000000000000000000000000000000006000000000000000040000010008000000000000003f0000000040000000000000000000000000000000000000000000000000000000000000000000000000000000000000000000000000000000000000000000000000000000000000080 s (execUplinkDrain ward desc meets t s) := by
  unfold execUplinkDrain
  try dsimp only
  repeat' first
    | ((with_reducible apply withMeets_keeps); (case hMk => rfl))
    | (with_reducible refine KeepsR.next ?_)
    | (with_reducible refine KeepsR.ite ?_ ?_)
    | with_reducible refine Keeps.ite ?_ ?_
    | with_reducible exact Keeps.refl
    | with_reducible assumption
    | ((with_reducible apply Keeps.at); (case e => rfl); (case e2 => rfl))
    | (with_reducible refine Keeps.each _ _ ?_ ?_)
    | (refine Keeps.snd (p := gatewayPorts _) ?_ (by with_reducible assumption))
    | ((with_reducible apply gatewayPorts_keeps); (case hMk => rfl))
    | ((with_reducible apply gatewaySend_keeps); (case hMk => rfl))
    | (refine Keeps.snd (p := rxWrite _ _ _ _) ?_ (by with_reducible assumption))
    | ((with_reducible apply rxWrite_keeps); (case hMk => rfl))
    | ((with_reducible apply setUpQ_keeps); (case hMk => rfl))
    | ((with_reducible apply upPop_keeps); (case hMk => rfl))
    | intro _
    | split
    | dsimp only
    | (refine Keeps.snd ?_ (by with_reducible assumption))

theorem execWardShaperRelease_keeps (ward : Fin 8) (cls : Fin 8) (t : Nat) (s : State) : KeepsR 0xd050402100000000000000000000000000000000000000000000000000000000000000000000000000000000000000000000002000000000000000000000000000000000000000000000000000000000000000001867000180800000000800000000000000000000000000000000000000000000000000000000700c00207c00001202800000000000000000000000000000000000000000000000000000000000000000000000000000000000000000000000000000000000000000000000000000000000000000000000000000000000000000 s (execWardShaperRelease ward cls t s) := by
  unfold execWardShaperRelease
  try dsimp only
  repeat' first
    | (with_reducible refine KeepsR.next ?_)
    | (with_reducible refine KeepsR.ite ?_ ?_)
    | with_reducible refine Keeps.ite ?_ ?_
    | with_reducible exact Keeps.refl
    | with_reducible assumption
    | ((with_reducible apply Keeps.at); (case e => rfl); (case e2 => rfl))
    | ((with_reducible apply calRelease_keeps); (case hMk => rfl))
    | ((with_reducible apply cqSub_keeps); (case hMk => rfl))
    | ((with_reducible apply packetShape_keeps); (case hMk => rfl))
    | ((with_reducible apply setDownQ_keeps); (case hMk => rfl))
    | ((with_reducible apply setShaper_keeps); (case hMk => rfl))
    | intro _
    | split
    | dsimp only
    | (refine Keeps.snd ?_ (by with_reducible assumption))

theorem execCalendarBucketDue_keeps (t : Nat) (s : State) : KeepsR 0x8040402100000000000000000000000000000000000000000000000000000000000000000000000000000000000000000000000000000000000000000000000000000000000000000000000000000000000000000000000000000000000000000000000000000000000000000000000000000000000000000000000c00003c00001202800000000000000000000000000000000000000000000000000000000000000000000000000000000000000000000000000000000000000000000000000000000000000000000000000000000000000000 s (execCalendarBucketDue t s) := by
  unfold execCalendarBucketDue
  try dsimp only
  repeat' first
    | (with_reducible refine KeepsR.next ?_)
    | (with_reducible refine KeepsR.ite ?_ ?_)
    | with_reducible refine Keeps.ite ?_ ?_
    | with_reducible exact Keeps.refl
    | with_reducible assumption
    | ((with_reducible apply Keeps.at); (case e => rfl); (case e2 => rfl))
    | ((with_reducible apply calRelease_keeps); (case hMk => rfl))
    | intro _
    | split
    | dsimp only
    | (refine Keeps.snd ?_ (by with_reducible assumption))

theorem execShaperSweep_keeps (t : Nat) (s : State) : KeepsR 0x8040002100000000000000000000000000000000000000000000000000000000000000000000000000000000000000000000000000000000000000000000000000000000000000000000000000000000000000000000000000000000000000000000000000000000000000000000000000000000000000000000003000000000000000000000000000000000000000000000000000000000000000000000000000000000000000000000000000000000000000000000000000000000000000000000000000000000000000000000000000000000 s (execShaperSweep t s) := by
  unfold execShaperSweep
  try dsimp only
  repeat' first
    | (with_reducible refine KeepsR.next ?_)
    | (with_reducible refine KeepsR.ite ?_ ?_)
    | with_reducible refine Keeps.ite ?_ ?_
    | with_reducible exact Keeps.refl
    | with_reducible assumption
    | ((with_reducible apply Keeps.wr); (case d => rfl); (case e => rfl))
    | ((with_reducible apply Keeps.inc); (case d => rfl); (case e => rfl))
    | ((with_reducible apply Keeps.at); (case e => rfl); (case e2 => rfl))
    | ((with_reducible apply Keeps.modNode); (case e => rfl); (case e2 => rfl))
    | intro _
    | split
    | dsimp only
    | (refine Keeps.snd ?_ (by with_reducible assumption))

theorem execCalendarDisable_keeps (t : Nat) (s : State) : KeepsR 0xd040402100000000000000000000000000000000000000000000000000000000000000000000000000000000000000000000000000000000000000000000000000000000000000000000000000000000000000000000000000000000000000000000000000000000000000000000000000000000000000000000200c80103c00001202800000000000000000000000000000000000000000000000000000000000000000000000000000000000000000000000000000000000000000000000000000000000000000000000000000000000000000 s (execCalendarDisable t s) := by
  unfold execCalendarDisable
  try dsimp only
  repeat' first
    | (with_reducible refine KeepsR.next ?_)
    | (with_reducible refine KeepsR.ite ?_ ?_)
    | with_reducible refine Keeps.ite ?_ ?_
    | with_reducible exact Keeps.refl
    | with_reducible assumption
    | ((with_reducible apply Keeps.put); (case d => rfl); (case e => rfl))
    | ((with_reducible apply Keeps.inc); (case d => rfl); (case e => rfl))
    | ((with_reducible apply Keeps.at); (case e => rfl); (case e2 => rfl))
    | (with_reducible refine Keeps.each _ _ ?_ ?_)
    | ((with_reducible apply calRelease_keeps); (case hMk => rfl))
    | ((with_reducible apply packetQueue_keeps); (case hMk => rfl))
    | ((with_reducible apply regionsLeave_keeps); (case hMk => rfl))
    | ((with_reducible apply setCal_keeps); (case hMk => rfl))
    | intro _
    | split
    | dsimp only
    | (refine Keeps.snd ?_ (by with_reducible assumption))

theorem execCalendarEnable_keeps (t : Nat) (s : State) : KeepsR 0x8000000100000000000000000000000000000000000000000000000000000000000000000000000000000000000000000000000000000000000000000000000000000000000000000000000000000000000000000000000000000000000000000000000000000000000000000000000000000000000000000000000080100000000000000000000000000000000000000000000000000000000000000000000000000000000000000000000000000000000000000000000000000000000000000000000000000000000000000000000000000000 s (execCalendarEnable t s) := by
  unfold execCalendarEnable
  try dsimp only
  repeat' first
    | (with_reducible refine KeepsR.next ?_)
    | (with_reducible refine KeepsR.ite ?_ ?_)
    | with_reducible refine Keeps.ite ?_ ?_
    | with_reducible exact Keeps.refl
    | with_reducible assumption
    | ((with_reducible apply Keeps.put); (case d => rfl); (case e => rfl))
    | ((with_reducible apply Keeps.at); (case e => rfl); (case e2 => rfl))
    | intro _
    | split
    | dsimp only
    | (refine Keeps.snd ?_ (by with_reducible assumption))

theorem execShpMeterWrite_keeps (reg : MeterReg) (i : Fin 64) (value : Nat) (t : Nat) (s : State) : KeepsR 0x80004001000000000000000000000000000000000000000000000000000000000000000000000000000000000000000000000000000000000000000000000000000000000000000000000000000000000000000000000000000000000000000000000000000000000000000000000000000000000000000001f8000000000000000000000000000000000000000000000000000000000000000000000000000000000000000000000000000000000000000000000000000000000000000000000000000000000000000000000000000000000000 s (execShpMeterWrite reg i value t s) := by
  unfold execShpMeterWrite
  try dsimp only
  repeat' first
    | (with_reducible refine KeepsR.next ?_)
    | (with_reducible refine KeepsR.ite ?_ ?_)
    | with_reducible refine Keeps.ite ?_ ?_
    | with_reducible exact Keeps.refl
    | with_reducible assumption
    | ((with_reducible apply Keeps.wr); (case d => rfl); (case e => rfl))
    | ((with_reducible apply Keeps.at); (case e => rfl); (case e2 => rfl))
    | ((with_reducible apply setMarker_keeps); (case hMk => rfl))
    | ((with_reducible apply setShaper_keeps); (case hMk => rfl))
    | intro _
    | split
    | dsimp only
    | (refine Keeps.snd ?_ (by with_reducible assumption))

theorem execQmsPoolPeakRead_keeps (requester : Requester) (s : State) : KeepsR 0x800000000000000000000000000000000000000000000000000000000000000000000000000000000000000000000000000000000000000000000000000000000000000000000000000000000000000000000000000000000000000000000000000000000000000000000000000000000000000000000000000000000000001000000000000000000000000000000000000000000000000000000000000000000000000000000000000000000000000000000000000000000000000000000000000000000000000000000000000000000 s (execQmsPoolPeakRead requester s) := by
  unfold execQmsPoolPeakRead
  try dsimp only
  repeat' first
    | (with_reducible refine KeepsR.next ?_)
    | (with_reducible refine KeepsR.ite ?_ ?_)
    | with_reducible refine Keeps.ite ?_ ?_
    | with_reducible exact Keeps.refl
    | with_reducible assumption
    | ((with_reducible apply Keeps.wr); (case d => rfl); (case e => rfl))
    | ((with_reducible apply Keeps.answer); (case e => rfl))
    | intro _
    | split
    | dsimp only
    | (refine Keeps.snd ?_ (by with_reducible assumption))

theorem execQmsPoolUsePeakRead_keeps (user : Fin 4) (requester : Requester) (s : State) : KeepsR 0x800000000000000000000000000000000000000000000000000000000000000000000000000000000000000000000000000000000000000000000000000000000000000000000000000000000000000000000000000000000000000000000000000000000000000000000000000000000000000000000000000000000002000000000000000000000000000000000000000000000000000000000000000000000000000000000000000000000000000000000000000000000000000000000000000000000000000000000000000000000 s (execQmsPoolUsePeakRead user requester s) := by
  unfold execQmsPoolUsePeakRead
  try dsimp only
  repeat' first
    | (with_reducible refine KeepsR.next ?_)
    | (with_reducible refine KeepsR.ite ?_ ?_)
    | with_reducible refine Keeps.ite ?_ ?_
    | with_reducible exact Keeps.refl
    | with_reducible assumption
    | ((with_reducible apply Keeps.wr); (case d => rfl); (case e => rfl))
    | ((with_reducible apply Keeps.answer); (case e => rfl))
    | intro _
    | split
    | dsimp only
    | (refine Keeps.snd ?_ (by with_reducible assumption))

theorem execQmsWNpeakRead_keeps (ward : Fin 8) (requester : Requester) (s : State) : KeepsR 0x800000000000000000000000000000000000000000000000000000000000000000000000000000000000000000000000000000000000000000000000000000000000000000000000000000000000000000000000000000000000000000000000000000000000000000000000000000000000000000000000000000c00000000000000000000000000000000000000000000000000000000000000000000000000000000000000000000000000000000000000000000000000000000000000000000000000000000000000000000000000 s (execQmsWNpeakRead ward requester s) := by
  unfold execQmsWNpeakRead
  try dsimp only
  repeat' first
    | (with_reducible refine KeepsR.next ?_)
    | (with_reducible refine KeepsR.ite ?_ ?_)
    | with_reducible refine Keeps.ite ?_ ?_
    | with_reducible exact Keeps.refl
    | with_reducible assumption
    | ((with_reducible apply Keeps.wr); (case d => rfl); (case e => rfl))
    | ((with_reducible apply Keeps.answer); (case e => rfl))
    | intro _
    | split
    | dsimp only
    | (refine Keeps.snd ?_ (by with_reducible assumption))

theorem execQmsCqPeakRead_keeps (i : Fin 128) (requester : Requester) (s : State) : KeepsR 0x800000000000000000000000000000000000000000000000000000000000000000000000000000000000000000000000000000000000000000000000000000000000000000000000000000000000000000000000000000000000000000000000000000000000000000000000000000000000000000000000000008000000000000000000000000000000000000000000000000000000000000000000000000000000000000000000000000000000000000000000000000000000000000000000000000000000000000000000000000000 s (execQmsCqPeakRead i requester s) := by
  unfold execQmsCqPeakRead
  try dsimp only
  repeat' first
    | (with_reducible refine KeepsR.next ?_)
    | (with_reducible refine KeepsR.ite ?_ ?_)
    | with_reducible refine Keeps.ite ?_ ?_
    | with_reducible exact Keeps.refl
    | with_reducible assumption
    | ((with_reducible apply Keeps.wr); (case d => rfl); (case e => rfl))
    | ((with_reducible apply Keeps.answer); (case e => rfl))
    | intro _
    | split
    | dsimp only
    | (refine Keeps.snd ?_ (by with_reducible assumption))

theorem execShpCalPeakRead_keeps (requester : Requester) (s : State) : KeepsR 0x800000000000000000000000000000000000000000000000000000000000000000000000000000000000000000000000000000000000000000000000000000000000000000000000000000000000000000000000000000000000000000000000000000000000000000000000000000000000000000000000800000000000000000000000000000000000000000000000000000000000000000000000000000000000000000000000000000000000000000000000000000000000000000000000000000000000000000000000000000000 s (execShpCalPeakRead requester s) := by
  unfold execShpCalPeakRead
  try dsimp only
  repeat' first
    | (with_reducible refine KeepsR.next ?_)
    | (with_reducible refine KeepsR.ite ?_ ?_)
    | with_reducible refine Keeps.ite ?_ ?_
    | with_reducible exact Keeps.refl
    | with_reducible assumption
    | ((with_reducible apply Keeps.wr); (case d => rfl); (case e => rfl))
    | ((with_reducible apply Keeps.answer); (case e => rfl))
    | intro _
    | split
    | dsimp only
    | (refine Keeps.snd ?_ (by with_reducible assumption))

theorem withCamp_keeps {mk : Nat} {sIn : State} (ring op tag slot : Nat) (inRange : Bool) (f : State → State) (s : State) (hMk : 0x50700080000000000000000000020000000020000000000000000011547c00c17c0000000000000000000000000000000000002000000000000000000000000000000000000000000000000000000000000000001c7f8009e0c00000000c00000000000000000000000000000000000000000000000000000000000000000000000000000000000000000000000000000000000000000000000000000000000000000000000000000000000000000000000000000000000000000000000000000000000000000000000000000000000000000080 ||| mk = mk) (hf : ∀ x, Keeps mk sIn x → Keeps mk sIn (f x)) (hIn : Keeps mk sIn s) :
    KeepsR mk sIn (withCamp ring op tag slot inRange f s) := by
  refine withOwner_keeps ring op tag _ s hMk ?_ hIn
  intro x h
  split
  · exact cmdPlain_keeps _ _ _ _ _ (mask_sub (by decide) hMk) h
  · split
    · exact cmdPlain_keeps _ _ _ _ _ (mask_sub (by decide) hMk) h
    · exact hf x h

theorem campInit_keeps {mk : Nat} {sIn : State} (slot : Nat) (b : CampBlock) (s : State) (hMk : 0x1fff0000000000000000000000000000000000000000000000000000000000000000000000000000000000000000000000000000000000000000000000000000000000000000000000000000000000000000000000000000000000000000000000000000000000000000000000000000000000000000000000000000000000000000000000000 ||| mk = mk) (hIn : Keeps mk sIn s) : Keeps mk sIn (campInit slot b s) := by
  refine Keeps.step hMk ?_ hIn
  unfold campInit
  try dsimp only
  repeat' first
    | with_reducible refine Keeps.ite ?_ ?_
    | with_reducible exact Keeps.refl
    | with_reducible assumption
    | ((with_reducible apply Keeps.wr); (case d => rfl); (case e => rfl))
    | intro _
    | split
    | dsimp only
    | (refine Keeps.snd ?_ (by with_reducible assumption))

theorem execCampStart_keeps (ring : Fin 8) (hd : CmdHead) (slot : Nat) (blk : CampBlock) (t : Nat) (s : State) : KeepsR 0xd0740081000000000000000000020000000020000000000000000011547c00c17c000000000000000000000000000000000000200000000000000000000000000000000000000000000000000001fff8000180009c7f8009e0c00000000c00000000000000000000000000000000000000000000000000000000000000000000000000000000000000000000000000000000000000000000000000000000000000000000000000000000000000000000000000000000000000000000000000000000000000000000000000000000000000000080 s (execCampStart ring hd slot blk t s) := by
  unfold execCampStart
  try dsimp only
  repeat' first
    | ((with_reducible apply withCamp_keeps); (case hMk => rfl))
    | ((with_reducible apply withData_keeps); (case hMk => rfl))
    | (with_reducible refine KeepsR.next ?_)
    | (with_reducible refine KeepsR.ite ?_ ?_)
    | with_reducible refine Keeps.ite ?_ ?_
    | with_reducible exact Keeps.refl
    | with_reducible assumption
    | ((with_reducible apply Keeps.at); (case e => rfl); (case e2 => rfl))
    | ((with_reducible apply campGo_keeps); (case hMk => rfl))
    | ((with_reducible apply campInit_keeps); (case hMk => rfl))
    | ((with_reducible apply cmdPlain_keeps); (case hMk => rfl))
    | ((with_reducible apply modCamp_keeps); (case hMk => rfl))
    | intro _
    | split
    | dsimp only
    | (refine Keeps.snd ?_ (by with_reducible assumption))

theorem campCmd_keeps {mk : Nat} {sIn : State} (slot : Nat) (result : Nat) (s : State) (hMk : 0x5014000000000000000000000000000000000000000000000000000000000000000000000000000000000000000000000000002000000000000000000000000000000000000000000000000000000000000180000466000960000000000000000000000000000000000000000000000000000000000000000000000000000000000000000000000000000000000000000000000000000000000000000000000000000000000000000000000000000000000000000000000000000000000000000000000000000000000000000000000000000000 ||| mk = mk) (hIn : Keeps mk sIn s) : Keeps mk sIn (campCmd slot result s) := by
  refine Keeps.step hMk ?_ hIn
  unfold campCmd
  try dsimp only
  repeat' first
    | with_reducible refine Keeps.ite ?_ ?_
    | with_reducible exact Keeps.refl
    | with_reducible assumption
    | ((with_reducible apply cmdPlain_keeps); (case hMk => rfl))
    | ((with_reducible apply modCamp_keeps); (case hMk => rfl))
    | intro _
    | split
    | dsimp only
    | (refine Keeps.snd ?_ (by with_reducible assumption))

theorem execCampPrepareComplete_keeps (slot : Fin 4) (image : Option (List (Fin 256))) (t : Nat) (s : State) : KeepsR 0xd014000100000000000000000000000000000000000000000000000000000000000000000000000000000000000000000000002000000000000000000000000000000000000000000000000000000808000180008466000960000000000000000000000000000000000000000000000000000000000000000000000000000000000000000000000000000000000000000000000000000000000000000000000000000000000000000000000000000000000000000000000000000000000000000000000000000000000000000000000000000000 s (execCampPrepareComplete slot image t s) := by
  unfold execCampPrepareComplete
  try dsimp only
  repeat' first
    | (with_reducible refine KeepsR.next ?_)
    | (with_reducible refine KeepsR.ite ?_ ?_)
    | with_reducible refine Keeps.ite ?_ ?_
    | with_reducible exact Keeps.refl
    | with_reducible assumption
    | ((with_reducible apply Keeps.wr); (case d => rfl); (case e => rfl))
    | ((with_reducible apply Keeps.at); (case e => rfl); (case e2 => rfl))
    | ((with_reducible apply campCmd_keeps); (case hMk => rfl))
    | ((with_reducible apply campGo_keeps); (case hMk => rfl))
    | ((with_reducible apply modCamp_keeps); (case hMk => rfl))
    | intro _
    | split
    | dsimp only
    | (refine Keeps.snd ?_ (by with_reducible assumption))

theorem execCampPause_keeps (ring : Fin 8) (tag : Nat) (slot : Nat) (t : Nat) (s : State) : KeepsR 0xd0700081000000000000000000020000000020000000000000000011547c00c17c0000000000000000000000000000000000002000000000000000000000000000000000000000000000000000000008000000019c7f8009e0c00000000c00000000000000000000000000000000000000000000000000000000000000000000000000000000000000000000000000000000000000000000000000000000000000000000000000000000000000000000000000000000000000000000000000000000000000000000000000000000000000000080 s (execCampPause ring tag slot t s) := by
  unfold execCampPause
  try dsimp only
  repeat' first
    | ((with_reducible apply withCamp_keeps); (case hMk => rfl))
    | (with_reducible refine KeepsR.next ?_)
    | (with_reducible refine KeepsR.ite ?_ ?_)
    | with_reducible refine Keeps.ite ?_ ?_
    | with_reducible exact Keeps.refl
    | with_reducible assumption
    | ((with_reducible apply Keeps.at); (case e => rfl); (case e2 => rfl))
    | ((with_reducible apply campGo_keeps); (case hMk => rfl))
    | ((with_reducible apply cmdPlain_keeps); (case hMk => rfl))
    | ((with_reducible apply pressAbandon_keeps); (case hMk => rfl))
    | intro _
    | split
    | dsimp only
    | (refine Keeps.snd ?_ (by with_reducible assumption))

theorem execCampResume_keeps (ring : Fin 8) (tag : Nat) (slot : Nat) (t : Nat) (s : State) : KeepsR 0xd0740081000000000000000000020000000020000000000000000011547c00c17c0000000000000000000000000000000000002000000000000000000000000000000000000000000000000000000828000180039c7f8009e0c00000000c00000000000000000000000000000000000000000000000000000000000000000000000000000000000000000000000000000000000000000000000000000000000000000000000000000000000000000000000000000000000000000000000000000000000000000000000000000000000000000080 s (execCampResume ring tag slot t s) := by
  unfold execCampResume
  try dsimp only
  repeat' first
    | ((with_reducible apply withCamp_keeps); (case hMk => rfl))
    | (with_reducible refine KeepsR.next ?_)
    | (with_reducible refine KeepsR.ite ?_ ?_)
    | with_reducible refine Keeps.ite ?_ ?_
    | with_reducible exact Keeps.refl
    | with_reducible assumption
    | ((with_reducible apply Keeps.at); (case e => rfl); (case e2 => rfl))
    | ((with_reducible apply campGo_keeps); (case hMk => rfl))
    | ((with_reducible apply cmdPlain_keeps); (case hMk => rfl))
    | ((with_reducible apply modCamp_keeps); (case hMk => rfl))
    | ((with_reducible apply roundCheck_keeps); (case hMk => rfl))
    | intro _
    | split
    | dsimp only
    | (refine Keeps.snd ?_ (by with_reducible assumption))

theorem execCampStop_keeps (ring : Fin 8) (tag : Nat) (slot : Nat) (t : Nat) (s : State) : KeepsR 0xd0740081000000000000000000020000000020000000000000000011547c00c17c0000000000000000000000000000000000002000000000000000000000000000000000000000000000000000000028000180039c7f8009e0c00000000c00000000000000000000000000000000000000000000000000000000000000000000000000000000000000000000000000000000000000000000000000000000000000000000000000000000000000000000000000000000000000000000000000000000000000000000000000000000000000000080 s (execCampStop ring tag slot t s) := by
  unfold execCampStop
  try dsimp only
  repeat' first
    | ((with_reducible apply withCamp_keeps); (case hMk => rfl))
    | (with_reducible refine KeepsR.next ?_)
    | (with_reducible refine KeepsR.ite ?_ ?_)
    | with_reducible refine Keeps.ite ?_ ?_
    | with_reducible exact Keeps.refl
    | with_reducible assumption
    | ((with_reducible apply Keeps.at); (case e => rfl); (case e2 => rfl))
    | ((with_reducible apply campEnd_keeps); (case hMk => rfl))
    | ((with_reducible apply cmdPlain_keeps); (case hMk => rfl))
    | intro _
    | split
    | dsimp only
    | (refine Keeps.snd ?_ (by with_reducible assumption))

theorem execCampRelease_keeps (ring : Fin 8) (tag : Nat) (slot : Nat) (t : Nat) (s : State) : KeepsR 0xd07400a1000000000000000000020000000020000000000000000011547c00c17c00000000000000000000000000000000000020000000000000000000000000000000000000000000000000000040080001a0009c7f8009e0c00000000c00000000000000000000000000000000000000000000000000000000000000000000001000800000000000000000000000000000000000000000000000000000000000000000000000000000000000000000000000000000000000000000000000000000000000000000000000000000000000000080 s (execCampRelease ring tag slot t s) := by
  unfold execCampRelease
  try dsimp only
  repeat' first
    | ((with_reducible apply withCamp_keeps); (case hMk => rfl))
    | (with_reducible refine KeepsR.next ?_)
    | (with_reducible refine KeepsR.ite ?_ ?_)
    | with_reducible refine Keeps.ite ?_ ?_
    | with_reducible exact Keeps.refl
    | with_reducible assumption
    | ((with_reducible apply Keeps.wr); (case d => rfl); (case e => rfl))
    | ((with_reducible apply Keeps.at); (case e => rfl); (case e2 => rfl))
    | (with_reducible refine Keeps.each _ _ ?_ ?_)
    | ((with_reducible apply Keeps.modNode); (case e => rfl); (case e2 => rfl))
    | ((with_reducible apply campGo_keeps); (case hMk => rfl))
    | ((with_reducible apply cmdPlain_keeps); (case hMk => rfl))
    | ((with_reducible apply modCamp_keeps); (case hMk => rfl))
    | ((with_reducible apply pressGive_keeps); (case hMk => rfl))
    | intro _
    | split
    | dsimp only
    | (refine Keeps.snd ?_ (by with_reducible assumption))

theorem enrol_keeps {mk : Nat} {sIn : State} (slot : Nat) (img : Nat) (n : Nat) (s : State) (hMk : 0x40002000000000000000000000000000000000000000000000000000000000000000000000000000000000000000000000000000000000000000000000000000000000000000000000000000004000000000000000000000000000000000000000000000000000000000000000000000000000000000000000000000000000000000000000000000000000000000000000000000000000000000000000000000000000000000000000000000000000000000000000000000000000000000000000000000000000000000000000000000000000 ||| mk = mk) (hIn : Keeps mk sIn s) : Keeps mk sIn (enrol slot img n s) := by
  refine Keeps.step hMk ?_ hIn
  unfold enrol
  try dsimp only
  repeat' first
    | with_reducible refine Keeps.ite ?_ ?_
    | with_reducible exact Keeps.refl
    | with_reducible assumption
    | ((with_reducible apply Keeps.inc); (case d => rfl); (case e => rfl))
    | ((with_reducible apply Keeps.modNode); (case e => rfl); (case e2 => rfl))
    | intro _
    | split
    | dsimp only
    | (refine Keeps.snd ?_ (by with_reducible assumption))

theorem execCampEnrol_keeps (ring : Fin 8) (hd : CmdHead) (slot : Nat) (count : Nat) (nodes : List Nat) (t : Nat) (s : State) : KeepsR 0xd07400a1000000000000000000020000000020000000000000000011547c00c17c0000000000000000000000000000000000002000000000000000000000000000000000000000000000000000004000000180001c7f8009e0c00000000c00000000000000000000000000000000000000000000000000000000000000000000000000000000000000000000000000000000000000000000000000000000000000000000000000000000000000000000000000000000000000000000000000000000000000000000000000000000000000000080 s (execCampEnrol ring hd slot count nodes t s) := by
  unfold execCampEnrol
  try dsimp only
  repeat' first
    | ((with_reducible apply withCamp_keeps); (case hMk => rfl))
    | ((with_reducible apply withData_keeps); (case hMk => rfl))
    | (with_reducible refine KeepsR.next ?_)
    | (with_reducible refine KeepsR.ite ?_ ?_)
    | with_reducible refine Keeps.ite ?_ ?_
    | with_reducible exact Keeps.refl
    | with_reducible assumption
    | ((with_reducible apply Keeps.at); (case e => rfl); (case e2 => rfl))
    | (with_reducible refine Keeps.each _ _ ?_ ?_)
    | ((with_reducible apply cmdPlain_keeps); (case hMk => rfl))
    | ((with_reducible apply enrol_keeps); (case hMk => rfl))
    | ((with_reducible apply modCamp_keeps); (case hMk => rfl))
    | intro _
    | split
    | dsimp only
    | (refine Keeps.snd ?_ (by with_reducible assumption))

theorem leave_keeps {mk : Nat} {sIn : State} (slot : Nat) (img : Nat) (n : Nat) (s : State) (hMk : 0x5054002000000000000000000000000000000000000000000000000000000000000000000000000000000000000000000000002000000000000000000000000000000000000000000000000000004028000180039867000180800000000800000000000000000000000000000000000000000000000000000000000000000000000000000000000000000000000000000000000000000000000000000000000000000000000000000000000000000000000000000000000000000000000000000000000000000000000000000000000000000000 ||| mk = mk) (hIn : Keeps mk sIn s) : Keeps mk sIn (leave slot img n s) := by
  refine Keeps.step hMk ?_ hIn
  unfold leave
  try dsimp only
  repeat' first
    | with_reducible refine Keeps.ite ?_ ?_
    | with_reducible exact Keeps.refl
    | with_reducible assumption
    | ((with_reducible apply Keeps.modNode); (case e => rfl); (case e2 => rfl))
    | ((with_reducible apply campLess_keeps); (case hMk => rfl))
    | intro _
    | split
    | dsimp only
    | (refine Keeps.snd ?_ (by with_reducible assumption))

theorem execCampLeave_keeps (ring : Fin 8) (hd : CmdHead) (slot : Nat) (count : Nat) (nodes : List Nat) (t : Nat) (s : State) : KeepsR 0xd07400a1000000000000000000020000000020000000000000000011547c00c17c0000000000000000000000000000000000002000000000000000000000000000000000000000000000000000004028000180039c7f8009e0c00000000c00000000000000000000000000000000000000000000000000000000000000000000000000000000000000000000000000000000000000000000000000000000000000000000000000000000000000000000000000000000000000000000000000000000000000000000000000000000000000000080 s (execCampLeave ring hd slot count nodes t s) := by
  unfold execCampLeave
  try dsimp only
  repeat' first
    | ((with_reducible apply withCamp_keeps); (case hMk => rfl))
    | ((with_reducible apply withData_keeps); (case hMk => rfl))
    | (with_reducible refine KeepsR.next ?_)
    | (with_reducible refine KeepsR.ite ?_ ?_)
    | with_reducible refine Keeps.ite ?_ ?_
    | with_reducible exact Keeps.refl
    | with_reducible assumption
    | ((with_reducible apply Keeps.at); (case e => rfl); (case e2 => rfl))
    | (with_reducible refine Keeps.each _ _ ?_ ?_)
    | ((with_reducible apply cmdPlain_keeps); (case hMk => rfl))
    | ((with_reducible apply leave_keeps); (case hMk => rfl))
    | intro _
    | split
    | dsimp only
    | (refine Keeps.snd ?_ (by with_reducible assumption))

theorem pressRound_keeps {mk : Nat} {sIn : State} (c : Nat) (s : State) (hMk : 0x4000000000000000000000000000000000000000000000000000000000000000000000000000000000000000000000000000000000000000000000000000000000000000000000000000000000000000180000000000000000000000000000000000000000000000000000000000000000000000000000000000000000000000000000000000000000000000000000000000000000000000000000000000000000000000000000000000000000000000000000000000000000000000000000000000000000000000000000000000000000000 ||| mk = mk) (hIn : Keeps mk sIn s) : Keeps mk sIn (pressRound c s) := by
  refine Keeps.step hMk ?_ hIn
  unfold pressRound
  try dsimp only
  repeat' first
    | with_reducible refine Keeps.ite ?_ ?_
    | with_reducible exact Keeps.refl
    | with_reducible assumption
    | ((with_reducible apply nextRound_keeps); (case hMk => rfl))
    | intro _
    | split
    | dsimp only
    | (refine Keeps.snd ?_ (by with_reducible assumption))

theorem pressShow_keeps {mk : Nat} {sIn : State} (c : Nat) (b : Nat) (busy : Bool) (s : State) (hMk : 0x18010000000000000000000000000000000000000000000000000000000000000000000000000000000000000000000000000000000000000000000000000000000000000000000000000000000000000000000000000000000000000000000000000000000000000000000000000000000000000000000000000000000000000000 ||| mk = mk) (hIn : Keeps mk sIn s) : Keeps mk sIn (pressShow c b busy s) := by
  refine Keeps.step hMk ?_ hIn
  unfold pressShow
  try dsimp only
  repeat' first
    | with_reducible refine Keeps.ite ?_ ?_
    | with_reducible exact Keeps.refl
    | with_reducible assumption
    | ((with_reducible apply Keeps.wr); (case d => rfl); (case e => rfl))
    | ((with_reducible apply Keeps.put); (case d => rfl); (case e => rfl))
    | intro _
    | split
    | dsimp only
    | (refine Keeps.snd ?_ (by with_reducible assumption))

theorem pressWrite_keeps {mk : Nat} {sIn : State} (c : Nat) (b : Nat) (n : Nat) (us : Nat) (oct : List Nat) (l : List Nat) (s : State) (hMk : 0x4000c000000000000000000000000000000000000000000000000000000000000000000000000000000000000000000000000000000000000000000000000000000000000000000000000000000000004400398010000000000000000000000000000000000000000000000000000000000000000000000000000000000000000000000000000000000000000000000000000000000000000000000000000000000000000000000000000000000000000000000000000000000000000000000000000000000000000000000000000000000000000 ||| mk = mk) (hIn : Keeps mk sIn s) : Keeps mk sIn (pressWrite c b n us oct l s) := by
  refine Keeps.step hMk ?_ hIn
  unfold pressWrite
  try dsimp only
  repeat' first
    | with_reducible refine Keeps.ite ?_ ?_
    | with_reducible exact Keeps.refl
    | with_reducible assumption
    | ((with_reducible apply Keeps.wr); (case d => rfl); (case e => rfl))
    | ((with_reducible apply Keeps.inc); (case d => rfl); (case e => rfl))
    | ((with_reducible apply Keeps.add); (case d => rfl); (case e => rfl))
    | ((with_reducible apply modCamp_keeps); (case hMk => rfl))
    | ((with_reducible apply pressShow_keeps); (case hMk => rfl))
    | intro _
    | split
    | dsimp only
    | (refine Keeps.snd ?_ (by with_reducible assumption))
    | ((with_reducible apply Keeps.set_pressOctets_pressAt); (case e0 => rfl); (case e1 => rfl))

theorem pressPrepare_keeps {mk : Nat} {sIn : State} (c : Nat) (b : Nat) (us : Nat) (image : Option (List (Fin 256))) (s : State) (hMk : 0x4501c00040000000000000000000000000000000000000000000000000000000000000000000000000000000000000000000000200000000000000000000000000000000000000000000000000000002dc003f8339867000180800000000800000000000000000000000000000000000000000000000000000000000000000000003101810000000000000000000000000000000000000000000000000000000000000000000000000000000000000000000000000000000000000000000000000000000000000000000000000000000000000000 ||| mk = mk) (hIn : Keeps mk sIn s) : Keeps mk sIn (pressPrepare c b us image s) := by
  refine Keeps.step hMk ?_ hIn
  unfold pressPrepare
  try dsimp only
  repeat' first
    | with_reducible refine Keeps.ite ?_ ?_
    | with_reducible exact Keeps.refl
    | with_reducible assumption
    | ((with_reducible apply Keeps.inc); (case d => rfl); (case e => rfl))
    | ((with_reducible apply campEnd_keeps); (case hMk => rfl))
    | (refine Keeps.snd (p := curdsPick _ _ _) ?_ (by with_reducible assumption))
    | ((with_reducible apply curdsPick_keeps); (case hMk => rfl))
    | (refine Keeps.snd (p := poolTake _ _ _) ?_ (by with_reducible assumption))
    | ((with_reducible apply poolTake_keeps); (case hMk => rfl))
    | ((with_reducible apply pressGive_keeps); (case hMk => rfl))
    | ((with_reducible apply pressShow_keeps); (case hMk => rfl))
    | ((with_reducible apply pressTake_keeps); (case hMk => rfl))
    | ((with_reducible apply pressWrite_keeps); (case hMk => rfl))
    | ((with_reducible apply raiseAt_keeps); (case d => rfl); (case hMk => rfl); (case hMk2 => rfl))
    | intro _
    | split
    | dsimp only
    | (refine Keeps.snd ?_ (by with_reducible assumption))

theorem execPressTurn_keeps (slot : Fin 4) (image : Option (List (Fin 256))) (us : Nat) (t : Nat) (s : State) : KeepsR 0x4d01c00050000000000000000000000000000000000000000000000000000000000000000000000000000000000000000000000200000000000000000000000000000000000000000000000000000082dc003f8339867000180800000000800000000000000000000000000000000000000000000000000000000000000000000003101810000000000000000000000000000000000000000000000000000000000000000000000000000000000000000000000000000000000000000000000000000000000000000000000000000000000000000 s (execPressTurn slot image us t s) := by
  unfold execPressTurn
  try dsimp only
  repeat' first
    | (with_reducible refine KeepsR.next ?_)
    | (with_reducible refine KeepsR.ite ?_ ?_)
    | with_reducible refine Keeps.ite ?_ ?_
    | with_reducible exact Keeps.refl
    | with_reducible assumption
    | ((with_reducible apply Keeps.at); (case e => rfl); (case e2 => rfl))
    | ((with_reducible apply pressPrepare_keeps); (case hMk => rfl))
    | ((with_reducible apply pressRound_keeps); (case hMk => rfl))
    | ((with_reducible apply roundCheck_keeps); (case hMk => rfl))
    | intro _
    | split
    | dsimp only
    | (refine Keeps.snd ?_ (by with_reducible assumption))

theorem execUpdCurdsPeakRead_keeps (requester : Requester) (s : State) : KeepsR 0x800000000000000000000000000000000000000000000000000000000000000000000000000000000000000000000000000000000000000000000000000000000000000000000000000000000000040000000000000000000000000000000000000000000000000000000000000000000000000000000000000000000000000000000000000000000000000000000000000000000000000000000000000000000000000000000000000000000000000000000000000000000000000000000000000000000000000000000000000000000 s (execUpdCurdsPeakRead requester s) := by
  unfold execUpdCurdsPeakRead
  try dsimp only
  repeat' first
    | (with_reducible refine KeepsR.next ?_)
    | (with_reducible refine KeepsR.ite ?_ ?_)
    | with_reducible refine Keeps.ite ?_ ?_
    | with_reducible exact Keeps.refl
    | with_reducible assumption
    | ((with_reducible apply Keeps.wr); (case d => rfl); (case e => rfl))
    | ((with_reducible apply Keeps.answer); (case e => rfl))
    | intro _
    | split
    | dsimp only
    | (refine Keeps.snd ?_ (by with_reducible assumption))

theorem execUpdReadyPeakRead_keeps (requester : Requester) (s : State) : KeepsR 0x800000000000000000000000000000000000000000000000000000000000000000000000000000000000000000000000000000000000000000000000000000000000000000000000000000000000100000000000000000000000000000000000000000000000000000000000000000000000000000000000000000000000000000000000000000000000000000000000000000000000000000000000000000000000000000000000000000000000000000000000000000000000000000000000000000000000000000000000000000000 s (execUpdReadyPeakRead requester s) := by
  unfold execUpdReadyPeakRead
  try dsimp only
  repeat' first
    | (with_reducible refine KeepsR.next ?_)
    | (with_reducible refine KeepsR.ite ?_ ?_)
    | with_reducible refine Keeps.ite ?_ ?_
    | with_reducible exact Keeps.refl
    | with_reducible assumption
    | ((with_reducible apply Keeps.wr); (case d => rfl); (case e => rfl))
    | ((with_reducible apply Keeps.answer); (case e => rfl))
    | intro _
    | split
    | dsimp only
    | (refine Keeps.snd ?_ (by with_reducible assumption))

theorem verdictCount_keeps {mk : Nat} {sIn : State} (v : Verdict) (w : Nat) (s : State) (hMk : 0xff0000000000000000000000000000000000000000000000000000000000000000 ||| mk = mk) (hIn : Keeps mk sIn s) : Keeps mk sIn (verdictCount v w s) := by
  refine Keeps.step hMk ?_ hIn
  unfold verdictCount
  try dsimp only
  repeat' first
    | with_reducible refine Keeps.ite ?_ ?_
    | with_reducible exact Keeps.refl
    | with_reducible assumption
    | ((with_reducible apply Keeps.inc); (case d => rfl); (case e => rfl))
    | intro _
    | split
    | dsimp only
    | (refine Keeps.snd ?_ (by with_reducible assumption))

theorem acceptRecord_keeps {mk : Nat} {sIn : State} (x : Nat) (w : Nat) (f : RxFrame) (s : State) (hMk : 0x507088a4000000000000000000020d100004a0000000008000040011d47c00c17c000000000000000000000000000000000000200000000000000000000000000000000000000000000000000000000000000000186700018080000000080000000000000000000000000000000000000000000000000000000000000000000000300180000000000000000000000000000000003c000000000000000034000000000000000000000000000000000000000000000000000000000000000000000000000000000000000000000000000000000080 ||| mk = mk) (hIn : Keeps mk sIn s) : Keeps mk sIn (acceptRecord x w f s) := by
  refine Keeps.step hMk ?_ hIn
  unfold acceptRecord
  try dsimp only
  repeat' first
    | with_reducible refine Keeps.ite ?_ ?_
    | with_reducible exact Keeps.refl
    | with_reducible assumption
    | ((with_reducible apply Keeps.modNode); (case e => rfl); (case e2 => rfl))
    | ((with_reducible apply keyLog_keeps); (case hMk => rfl))
    | ((with_reducible apply nodeHeard_keeps); (case hMk => rfl))
    | ((with_reducible apply rxDirty_keeps); (case hMk => rfl))
    | intro _
    | split
    | dsimp only
    | (refine Keeps.snd ?_ (by with_reducible assumption))

theorem policeFrame_keeps {mk : Nat} {sIn : State} (x : Nat) (len : Nat) (s : State) (hMk : 0x40002000000000000000000000000000000000000000000000000000000000000000000000000000000000000000000000000000000000000000000000000000000000000000000000000000000000000000000000000000000000000000000000000000000000000000000000000000000000000000000000018000000000000000000000000000000000000000000000000000000000000000000000000000000000000000000000000000000000000000000000000000000000000000000000000000000000000000000000000000000000 ||| mk = mk) (hIn : Keeps mk sIn s) : Keeps mk sIn (policeFrame x len s).2 := by
  refine Keeps.step hMk ?_ hIn
  unfold policeFrame
  try dsimp only
  repeat' first
    | with_reducible refine Keeps.ite ?_ ?_
    | with_reducible exact Keeps.refl
    | with_reducible assumption
    | ((with_reducible apply Keeps.inc); (case d => rfl); (case e => rfl))
    | ((with_reducible apply Keeps.modNode); (case e => rfl); (case e2 => rfl))
    | intro _
    | split
    | dsimp only
    | (refine Keeps.snd ?_ (by with_reducible assumption))

theorem acceptDeliver_keeps {mk : Nat} {sIn : State} (x : Nat) (w : Nat) (f : RxFrame) (s : State) (hMk : 0x50602000000000000000000000000000000000000000000000000000000000000000000000000000000000000000000000000000000000000000000000000000000000000000000000000000000000000000000000000000000000000000000000000000000000000000000000000000000000000000000000018000000000000000000000000000000000000000000000000000000000000000000000000000000000000000000000000000000000000000000000000000000000000000000000000000000000000000000000000000000000 ||| mk = mk) (hIn : Keeps mk sIn s) : Keeps mk sIn (acceptDeliver x w f s) := by
  refine Keeps.step hMk ?_ hIn
  unfold acceptDeliver
  try dsimp only
  repeat' first
    | with_reducible refine Keeps.ite ?_ ?_
    | with_reducible exact Keeps.refl
    | with_reducible assumption
    | (refine Keeps.snd (p := policeFrame _ _ _) ?_ (by with_reducible assumption))
    | ((with_reducible apply policeFrame_keeps); (case hMk => rfl))
    | ((with_reducible apply rxRadio_keeps); (case hMk => rfl))
    | intro _
    | split
    | dsimp only
    | (refine Keeps.snd ?_ (by with_reducible assumption))
    | ((with_reducible apply Keeps.set_qms); (case e => rfl))
    | ((with_reducible apply Keeps.set_src); (case e => rfl))
    | ((with_reducible apply Keeps.set_src_qms); (case e0 => rfl); (case e1 => rfl))

theorem heardRecord_keeps {mk : Nat} {sIn : State} (x : Nat) (f : RxFrame) (s : State) (hMk : 0x505600200000000000000000000000000000000000000000000000000000000000000000000000000000000000000000000000200000000000000000000000000000000000000000000000000001c0283e0180079867000180800000000800000000000000000000000000000000000000000000000000000000000000000000000000000000000000000000000000000000000000000000000000000000000000000000000000000000000000000000000000000000000000000000000000000000000000000000000000000000000000000000 ||| mk = mk) (hIn : Keeps mk sIn s) : Keeps mk sIn (heardRecord x f s) := by
  refine Keeps.step hMk ?_ hIn
  unfold heardRecord
  try dsimp only
  repeat' first
    | with_reducible refine Keeps.ite ?_ ?_
    | with_reducible exact Keeps.refl
    | with_reducible assumption
    | ((with_reducible apply driftUpdate_keeps); (case hMk => rfl))
    | ((with_reducible apply linkQuality_keeps); (case hMk => rfl))
    | ((with_reducible apply progressReport_keeps); (case hMk => rfl))
    | intro _
    | split
    | dsimp only
    | (refine Keeps.snd ?_ (by with_reducible assumption))
    | ((with_reducible apply Keeps.set_fwd); (case e => rfl))

theorem oogMark_keeps {mk : Nat} {sIn : State} (f : RxFrame) (nix : Option Nat) (s : State) (hMk : 0x40002000000000000000000000000000000000000000000000000000000000000000000000000000000000000000000000000000000000000000000000000000000000000000000000000000000000000000000000000000000000000000000000000000000000000000000000000000000000000000000000000000000000000000000000000000000000000000000000000000000000000000000000000000000000000000000000000000000000000000000000000000000000000000000000000000000000000000000000000000000000 ||| mk = mk) (hIn : Keeps mk sIn s) : Keeps mk sIn (oogMark f nix s) := by
  refine Keeps.step hMk ?_ hIn
  unfold oogMark
  try dsimp only
  repeat' first
    | with_reducible refine Keeps.ite ?_ ?_
    | with_reducible exact Keeps.refl
    | with_reducible assumption
    | ((with_reducible apply Keeps.modNode); (case e => rfl); (case e2 => rfl))
    | intro _
    | split
    | dsimp only
    | (refine Keeps.snd ?_ (by with_reducible assumption))

theorem verdictNormal_keeps {mk : Nat} {sIn : State} (w : Nat) (f : RxFrame) (nix : Option Nat) (r : SecResult) (s : State) (hMk : 0x5077e8a4000000000000000000020d100104a0002000008000040011d47c00c17c000000000000000000000000000000000000200000000000000000000000000000000000000000000000000001c0283e018007986700018080000000080000000000000000000000000000000000000000000000000000000001800000200000320180000000000000000000000000000c00403c007f00202000000034800000000000000000000000000000000000000000ff0000000000000000000000000000000000000000000000000000000000000080 ||| mk = mk) (hIn : Keeps mk sIn s) : Keeps mk sIn (verdictNormal w f nix r s) := by
  refine Keeps.step hMk ?_ hIn
  unfold verdictNormal
  try dsimp only
  repeat' first
    | with_reducible refine Keeps.ite ?_ ?_
    | with_reducible exact Keeps.refl
    | with_reducible assumption
    | ((with_reducible apply Keeps.whey); (case e => rfl); (case e2 => rfl))
    | ((with_reducible apply acceptDeliver_keeps); (case hMk => rfl))
    | ((with_reducible apply acceptRecord_keeps); (case hMk => rfl))
    | ((with_reducible apply heardRecord_keeps); (case hMk => rfl))
    | ((with_reducible apply oogMark_keeps); (case hMk => rfl))
    | ((with_reducible apply ratchetAdvance_keeps); (case hMk => rfl))
    | ((with_reducible apply secWhey_keeps); (case hMk => rfl))
    | ((with_reducible apply verdictCount_keeps); (case hMk => rfl))
    | intro _
    | split
    | dsimp only
    | (refine Keeps.snd ?_ (by with_reducible assumption))

theorem verdictBeyond_keeps {mk : Nat} {sIn : State} (w : Nat) (f : RxFrame) (nix : Option Nat) (r : SecResult) (s : State) (hMk : 0x50002000000000000000000000000000000000000000000000000000000000000000000000000000000000000000000000000000000000000000000000000000000000000000000000000000000000000000000000000000000000000000000000000000000000000000000000000000000000000000000000000000000000000000000000000000000000000000000000000000000000000000000000000000000000000000000000000000000000000000000000000000000000000000000000000000000000000000000000000000000000 ||| mk = mk) (hIn : Keeps mk sIn s) : Keeps mk sIn (verdictBeyond w f nix r s) := by
  refine Keeps.step hMk ?_ hIn
  unfold verdictBeyond
  try dsimp only
  repeat' first
    | with_reducible refine Keeps.ite ?_ ?_
    | with_reducible exact Keeps.refl
    | with_reducible assumption
    | ((with_reducible apply Keeps.modNode); (case e => rfl); (case e2 => rfl))
    | ((with_reducible apply rxRadio_keeps); (case hMk => rfl))
    | intro _
    | split
    | dsimp only
    | (refine Keeps.snd ?_ (by with_reducible assumption))

theorem verdictNoCell_keeps {mk : Nat} {sIn : State} (ward : Option Nat) (f : RxFrame) (v : Option Verdict) (nix : Option Nat) (s : State) (hMk : 0x10000000000000000000000000000000000000000000000000000000000000000000000000000000000000000000000000000000000000000000000000000000000000000000000000000000000000000000000000000000000000000000000000000000000000000000000000000000000000000000000000000000002000000200000000000000000000000000000000000000000000000000000000000000000000000000000000000000000000000000000000000000000000000000000000000000000000000000000000000000000000 ||| mk = mk) (hIn : Keeps mk sIn s) : Keeps mk sIn (verdictNoCell ward f v nix s) := by
  refine Keeps.step hMk ?_ hIn
  unfold verdictNoCell
  try dsimp only
  repeat' first
    | with_reducible refine Keeps.ite ?_ ?_
    | with_reducible exact Keeps.refl
    | with_reducible assumption
    | ((with_reducible apply Keeps.whey); (case e => rfl); (case e2 => rfl))
    | ((with_reducible apply rxRadio_keeps); (case hMk => rfl))
    | intro _
    | split
    | dsimp only
    | (refine Keeps.snd ?_ (by with_reducible assumption))

theorem joinRequest_keeps {mk : Nat} {sIn : State} (w : Nat) (f : RxFrame) (s : State) (hMk : 0x10080000000000000000000000000000000000000000000000000000000000000000000000000000000000000000000000000000000000000000000000000000000000000000000000000000000000000000000000000000000000000000000000000000000000000000000000000000000000000000000000000000002000000200000000000000000000000000000000000000000000000000000000000000000000000000000000000000000000000030008000000000000000001000000000000000000000000000000000000000000000 ||| mk = mk) (hIn : Keeps mk sIn s) : Keeps mk sIn (joinRequest w f s).2 := by
  refine Keeps.step hMk ?_ hIn
  unfold joinRequest
  try dsimp only
  repeat' first
    | with_reducible refine Keeps.ite ?_ ?_
    | with_reducible exact Keeps.refl
    | with_reducible assumption
    | ((with_reducible apply Keeps.inc); (case d => rfl); (case e => rfl))
    | ((with_reducible apply Keeps.whey); (case e => rfl); (case e2 => rfl))
    | ((with_reducible apply macTrace_keeps); (case hMk => rfl))
    | ((with_reducible apply modMac_keeps); (case hMk => rfl))
    | ((with_reducible apply rxRadio_keeps); (case hMk => rfl))
    | intro _
    | split
    | dsimp only
    | (refine Keeps.snd ?_ (by with_reducible assumption))

theorem joinVerdict_keeps {mk : Nat} {sIn : State} (w : Nat) (f : RxFrame) (s : State) (hMk : 0x10080000000000000000000000000000000000000000000000000000000000000000000000000000000000000000000000000000000000000000000000000000000000000000000000000000000000000000000000000000000000000000000000000000000000000000000000000000000000000000000000000000002000000200000000000000000000000000000000000000000000000000000000000000000000000000000000000000000000000030ff8000000000000000001000000000000000000000000000000000000000000000 ||| mk = mk) (hIn : Keeps mk sIn s) : Keeps mk sIn (joinVerdict w f s).2 := by
  refine Keeps.step hMk ?_ hIn
  unfold joinVerdict
  try dsimp only
  repeat' first
    | with_reducible refine Keeps.ite ?_ ?_
    | with_reducible exact Keeps.refl
    | with_reducible assumption
    | (refine Keeps.snd (p := joinRequest _ _ _) ?_ (by with_reducible assumption))
    | ((with_reducible apply joinRequest_keeps); (case hMk => rfl))
    | ((with_reducible apply verdictCount_keeps); (case hMk => rfl))
    | intro _
    | split
    | dsimp only
    | (refine Keeps.snd ?_ (by with_reducible assumption))

theorem settle_keeps {mk : Nat} {sIn : State} (i : Nat) (v : Option Verdict) (nix : Option Nat) (s : State) (hMk : 0x80000000000000000000000000000000000000000000000000000000000000000000000000000000000000000000000000000000000000000000000000000000000000000000000000000000000000000000000000000000000000000000000000000000000000000000000000000000000000000000000000000000000000000000000000000000000000000000000000000000000000000000000000000000000000000000000000000000000000000000000000000000000000000000000000000000000000000000000000000000000 ||| mk = mk) (hIn : Keeps mk sIn s) : Keeps mk sIn (settle i v nix s) := by
  refine Keeps.step hMk ?_ hIn
  unfold settle
  try dsimp only
  repeat' first
    | with_reducible refine Keeps.ite ?_ ?_
    | with_reducible exact Keeps.refl
    | with_reducible assumption
    | ((with_reducible apply modMac_keeps); (case hMk => rfl))
    | intro _
    | split
    | dsimp only
    | (refine Keeps.snd ?_ (by with_reducible assumption))

theorem execVerdict_keeps (pos : Nat) (mic : Bool) (poisoned : Option (Fin 16)) (corrected : List (Fin 256)) (meets : TableMeets) (t : Nat) (s : State) : KeepsR 0xd077e8a5000000000000000000020d100104a0002000008000040011d47c00c17c000000000000000000000000000000000008200000000000000000000000000000000000000000000000000001c0283e01800798670001808000000008000000000000000000000000000000000000000000000000000000000180000020000032018000000000000003f000000004000c00403c007f1c602000002034800000000000000000000000000000000000000030ff8000000000000000001000000000000000000000000000000000000000000080 s (execVerdict pos mic poisoned corrected meets t s) := by
  unfold execVerdict
  try dsimp only
  repeat' first
    | ((with_reducible apply withMeets_keeps); (case hMk => rfl))
    | (with_reducible refine KeepsR.next ?_)
    | (with_reducible refine KeepsR.ite ?_ ?_)
    | with_reducible refine Keeps.ite ?_ ?_
    | with_reducible exact Keeps.refl
    | with_reducible assumption
    | ((with_reducible apply Keeps.inc); (case d => rfl); (case e => rfl))
    | ((with_reducible apply Keeps.at); (case e => rfl); (case e2 => rfl))
    | (with_reducible refine Keeps.when _ _ ?_ ?_)
    | ((with_reducible apply Keeps.whey); (case e => rfl); (case e2 => rfl))
    | ((with_reducible apply eccFix_keeps); (case hMk => rfl))
    | ((with_reducible apply engNonce_keeps); (case hMk => rfl))
    | ((with_reducible apply engineFree_keeps); (case hMk => rfl))
    | ((with_reducible apply fenceNode_keeps); (case hMk => rfl))
    | (refine Keeps.snd (p := joinVerdict _ _ _) ?_ (by with_reducible assumption))
    | ((with_reducible apply joinVerdict_keeps); (case hMk => rfl))
    | ((with_reducible apply kcLookup_keeps); (case hMk => rfl))
    | ((with_reducible apply raiseWard_keeps); (case d => rfl); (case hMk => rfl); (case hMk2 => rfl))
    | (refine Keeps.snd (p := resolveSrc _ _ _) ?_ (by with_reducible assumption))
    | ((with_reducible apply resolveSrc_keeps); (case hMk => rfl))
    | ((with_reducible apply settle_keeps); (case hMk => rfl))
    | ((with_reducible apply verdictBeyond_keeps); (case hMk => rfl))
    | ((with_reducible apply verdictNoCell_keeps); (case hMk => rfl))
    | ((with_reducible apply verdictNormal_keeps); (case hMk => rfl))
    | intro _
    | split
    | dsimp only
    | (refine Keeps.snd ?_ (by with_reducible assumption))

end Sys2Proof.Machine
end

