-- ==== Sys2Proof/Laws/KeepsPorts.lean ====
section
/-!
SUPPORT. What each operation and each meaning changes: the pair, the policy cores, the ports and the registers. The mask of each law names the register fields and the parts of the
state, as `Only` reads it.
-/

set_option simprocs false
set_option linter.all false

namespace Sys2Proof.Machine

theorem authFail_keeps {mk : Nat} {sIn : State} (s : State) (hMk : 0x50700080000000000000000000020002000020000000004000000011547c00c17c0000000000000000000000000000000000002000000000000000000000000000000000000000000000000000000000000000001867000180800000000800000000000000000000000000000000000000000000000000000000000000000000000000000000000000000000000000000000000000000000000000000000000000000000000000000000000000000000000000000000000000000000000000000000000000000000000000000000000000000080 ||| mk = mk) (hIn : Keeps mk sIn s) : Keeps mk sIn (authFail s) := by
  refine Keeps.step hMk ?_ hIn
  unfold authFail
  try dsimp only
  repeat' first
    | with_reducible refine Keeps.ite ?_ ?_
    | with_reducible exact Keeps.refl
    | with_reducible assumption
    | ((with_reducible apply Keeps.inc); (case d => rfl); (case e => rfl))
    | ((with_reducible apply faultEvent_keeps); (case hMk => rfl))
    | ((with_reducible apply raise_keeps); (case d => rfl); (case hMk => rfl); (case hMk2 => rfl))
    | intro _
    | split
    | dsimp only
    | (refine Keeps.snd ?_ (by with_reducible assumption))

theorem withTag_keeps {mk : Nat} {sIn : State} (tagOk : Bool) (f : State → State) (s : State) (hMk : 0x50700080000000000000000000020002000020000000004000000011547c00c17c0000000000000000000000000000000000002000000000000000000000000000000000000000000000000000000000000000001867000180800000000800000000000000000000000000000000000000000000000000000000000000000000000000000000000000000000000000000000000000000000000000000000000000000000000000000000000000000000000000000000000000000000000000000000000000000000000000000000000000000080 ||| mk = mk) (hf : ∀ x, Keeps mk sIn x → Keeps mk sIn (f x)) (hIn : Keeps mk sIn s) :
    Keeps mk sIn (withTag tagOk f s) := by
  unfold withTag
  split
  · exact hIn
  · split
    · exact hf _ hIn
    · exact authFail_keeps _ hMk hIn

theorem pairDone_keeps {mk : Nat} {sIn : State} (ok : Bool) (s : State) (hMk : 0x1000000000000000000000000000000000000000000000000000000000000000000000000000000000000000000000000000000000000000000000000000000000000000000000000000000000000000000000000000000000000000000000000000000000000000000000000000000000000000000000000000000000000000000000000000000000000000000000000000000000000000000000000000000000000000000000000000000000000000000000000000000000000 ||| mk = mk) (hIn : Keeps mk sIn s) : Keeps mk sIn (pairDone ok s) := by
  refine Keeps.step hMk ?_ hIn
  unfold pairDone
  try dsimp only
  repeat' first
    | with_reducible refine Keeps.ite ?_ ?_
    | with_reducible exact Keeps.refl
    | with_reducible assumption
    | ((with_reducible apply Keeps.put); (case d => rfl); (case e => rfl))
    | intro _
    | split
    | dsimp only
    | (refine Keeps.snd ?_ (by with_reducible assumption))

theorem queuesRelease_keeps {mk : Nat} {sIn : State} (s : State) (hMk : 0x40402000000000000000000000000000000000000000000000000000000000000000000000000000000000000000000000000000000000000000000000000000000000000000000000000000000000000000000000000000000000000000000000000000000000000000000000000000000000000000000000000c00007000001200800000000000000000400000000000000000000000000000000000000000000000000000000000000000000000000000000000000000000000000000000000000000000000000000000000000000000000 ||| mk = mk) (hIn : Keeps mk sIn s) : Keeps mk sIn (queuesRelease s) := by
  refine Keeps.step hMk ?_ hIn
  unfold queuesRelease
  try dsimp only
  repeat' first
    | with_reducible refine Keeps.ite ?_ ?_
    | with_reducible exact Keeps.refl
    | with_reducible assumption
    | ((with_reducible apply Keeps.wr); (case d => rfl); (case e => rfl))
    | (with_reducible refine Keeps.each _ _ ?_ ?_)
    | ((with_reducible apply Keeps.whey); (case e => rfl); (case e2 => rfl))
    | ((with_reducible apply frameWhey_keeps); (case hMk => rfl))
    | ((with_reducible apply packetWhey_keeps); (case hMk => rfl))
    | ((with_reducible apply poolGive_keeps); (case hMk => rfl))
    | ((with_reducible apply reasmDrop_keeps); (case hMk => rfl))
    | ((with_reducible apply setCal_keeps); (case hMk => rfl))
    | ((with_reducible apply setNodeQ_keeps); (case hMk => rfl))
    | intro _
    | split
    | dsimp only
    | (refine Keeps.snd ?_ (by with_reducible assumption))
    | ((with_reducible apply Keeps.set_qms); (case e => rfl))

theorem goStandby_keeps {mk : Nat} {sIn : State} (s : State) (hMk : 0x5071c0a4000000000000000000024d100064a00010000080063e0011d47c00c17c0000000000000000000000000000000000002000000000000000000000000000000000000000000000000000000000000000001c670009e0800000000800000000000000000000000000000000000000000000000000000000000c0000700000320180000000000000000040000000000f00003c020060002000000074800000000000000000000000000000000000000000000000000000000000000000000000000000000000000000000000000000000080 ||| mk = mk) (hIn : Keeps mk sIn s) : Keeps mk sIn (goStandby s) := by
  refine Keeps.step hMk ?_ hIn
  unfold goStandby
  try dsimp only
  repeat' first
    | with_reducible refine Keeps.ite ?_ ?_
    | with_reducible exact Keeps.refl
    | with_reducible assumption
    | ((with_reducible apply pairBegin_keeps); (case hMk => rfl))
    | ((with_reducible apply queuesRelease_keeps); (case hMk => rfl))
    | intro _
    | split
    | dsimp only
    | (refine Keeps.snd ?_ (by with_reducible assumption))

theorem syncLost_keeps {mk : Nat} {sIn : State} (s : State) (hMk : 0x50700080000000000000000000024000000020002000000020040011d47c00c17c0000000000000000000000000000000000002000000000000000000000000000000000000000000000000000000000000000001867000180800000000800000000000000000000000000000000000000000000000000000000000000000000000000000000000000000000000000000000000000000000000000000000000000000000000000000000000000000000000000000000000000000000000000000000000000000000000000000000000000000080 ||| mk = mk) (hIn : Keeps mk sIn s) : Keeps mk sIn (syncLost s) := by
  refine Keeps.step hMk ?_ hIn
  unfold syncLost
  try dsimp only
  repeat' first
    | with_reducible refine Keeps.ite ?_ ?_
    | with_reducible exact Keeps.refl
    | with_reducible assumption
    | ((with_reducible apply Keeps.put); (case d => rfl); (case e => rfl))
    | ((with_reducible apply modPair_keeps); (case hMk => rfl))
    | ((with_reducible apply pairTrace_keeps); (case hMk => rfl))
    | ((with_reducible apply raise_keeps); (case d => rfl); (case hMk => rfl); (case hMk2 => rfl))
    | ((with_reducible apply setSync_keeps); (case hMk => rfl))
    | intro _
    | split
    | dsimp only
    | (refine Keeps.snd ?_ (by with_reducible assumption))

theorem recordsRelease_keeps {mk : Nat} {sIn : State} (s : State) (hMk : 0x5076e8a4000000000000000000020d100004a0002000008000040011d47c00c17c0000000000000000000000000000000000002000000000000000000000000000000000000000000000000000004028000180039867000180800000000800000000000000000000000000000000000000000000000000000000000000003000003201800000000008100001c0000000080c004000000000000000000000030000000000000060000000000004000000000000000000080000000000000000000000000000000000000000000000000000000080 ||| mk = mk) (hIn : Keeps mk sIn s) : Keeps mk sIn (recordsRelease s) := by
  refine Keeps.step hMk ?_ hIn
  unfold recordsRelease
  try dsimp only
  repeat' first
    | with_reducible refine Keeps.ite ?_ ?_
    | with_reducible exact Keeps.refl
    | with_reducible assumption
    | (with_reducible refine Keeps.each _ _ ?_ ?_)
    | ((with_reducible apply cellsView_keeps); (case hMk => rfl))
    | ((with_reducible apply modSrc_keeps); (case hMk => rfl))
    | ((with_reducible apply nodeRelease_keeps); (case hMk => rfl))
    | intro _
    | split
    | dsimp only
    | (refine Keeps.snd ?_ (by with_reducible assumption))

theorem bulkEnter_keeps {mk : Nat} {sIn : State} (m : Nat) (s : State) (hMk : 0x5076e8a4000000000000000000026d10000ca0002000008000040011d47c00c17c0000000000000000000000000000000000002000000000000000000000000000000000000000000000000000004028000180039867000180800000000800000000000000000000000000000000000000000000000000000000000000003000003201800000000008100001c0000000080c004000000000000000000000030000000000000060000000000004000000000000000000080000000000000000000000000000000000000000000000000000000080 ||| mk = mk) (hIn : Keeps mk sIn s) : Keeps mk sIn (bulkEnter m s) := by
  refine Keeps.step hMk ?_ hIn
  unfold bulkEnter
  try dsimp only
  repeat' first
    | with_reducible refine Keeps.ite ?_ ?_
    | with_reducible exact Keeps.refl
    | with_reducible assumption
    | ((with_reducible apply Keeps.wr); (case d => rfl); (case e => rfl))
    | ((with_reducible apply Keeps.put); (case d => rfl); (case e => rfl))
    | ((with_reducible apply Keeps.inc); (case d => rfl); (case e => rfl))
    | ((with_reducible apply modPair_keeps); (case hMk => rfl))
    | ((with_reducible apply recordsRelease_keeps); (case hMk => rfl))
    | ((with_reducible apply setSync_keeps); (case hMk => rfl))
    | intro _
    | split
    | dsimp only
    | (refine Keeps.snd ?_ (by with_reducible assumption))

theorem bulkSend_keeps {mk : Nat} {sIn : State} (s : State) (hMk : 0x507180a4000000000000000000020d10007ca0000000008000040011d47c00c17c0000000000000000000000000000000000002000000000000000000000000000000000000000000000000000000000000000001c670009e080000000080000000000000000000000000000000000000000000000000000000000000000000000300180000000000000000000000000000f00003c020060002000000074800000000000000000000000000000000000000000000000000000000000000000000000000000000000000000000000000000000080 ||| mk = mk) (hIn : Keeps mk sIn s) : Keeps mk sIn (bulkSend s) := by
  refine Keeps.step hMk ?_ hIn
  unfold bulkSend
  try dsimp only
  repeat' first
    | with_reducible refine Keeps.ite ?_ ?_
    | with_reducible exact Keeps.refl
    | with_reducible assumption
    | ((with_reducible apply Keeps.inc); (case d => rfl); (case e => rfl))
    | ((with_reducible apply Keeps.add); (case d => rfl); (case e => rfl))
    | ((with_reducible apply linkSent_keeps); (case hMk => rfl))
    | ((with_reducible apply mirStop_keeps); (case hMk => rfl))
    | ((with_reducible apply modPair_keeps); (case hMk => rfl))
    | ((with_reducible apply setSync_keeps); (case hMk => rfl))
    | intro _
    | split
    | dsimp only
    | (refine Keeps.snd ?_ (by with_reducible assumption))

theorem takeCondition_keeps {mk : Nat} {sIn : State} (s : State) (hMk : 0x5050000000000000000000000002000000000400000000040700000000000000000000000000000000000000000000000000002000000000000000000000000000000000000000000000000000000000000000001867000180800000000800000000000000000000000000000000000000000000000000000000000000000000000000000000000000000000000000000000000000000000000000000000000000000000000000000000000000000000000000000000000000000000000000000000000000000000000000000000000000000000 ||| mk = mk) (hIn : Keeps mk sIn s) : Keeps mk sIn (takeCondition s) := by
  refine Keeps.step hMk ?_ hIn
  unfold takeCondition
  try dsimp only
  repeat' first
    | with_reducible refine Keeps.ite ?_ ?_
    | with_reducible exact Keeps.refl
    | with_reducible assumption
    | ((with_reducible apply Keeps.put); (case d => rfl); (case e => rfl))
    | ((with_reducible apply Keeps.inc); (case d => rfl); (case e => rfl))
    | ((with_reducible apply modPair_keeps); (case hMk => rfl))
    | ((with_reducible apply pairTrace_keeps); (case hMk => rfl))
    | ((with_reducible apply raise_keeps); (case d => rfl); (case hMk => rfl); (case hMk2 => rfl))
    | intro _
    | split
    | dsimp only
    | (refine Keeps.snd ?_ (by with_reducible assumption))

theorem servoPeerLost_keeps {mk : Nat} {sIn : State} (s : State) (hMk : 0x5090000000000000000000000000000000000000000000000000000000000000000000000000000000000000000000000000002000000000000000000000000000000000000000000000000000000000000000001867000180800000000800000000000000000000200200012000000010000010120000000000000000000000000000000000000000000000000000000000000000000000000000000000000000000000000000000000000000000000000000000000000000000000000000000000000000000000000000000000000000000000 ||| mk = mk) (hIn : Keeps mk sIn s) : Keeps mk sIn (servoPeerLost s) := by
  refine Keeps.step hMk ?_ hIn
  unfold servoPeerLost
  try dsimp only
  repeat' first
    | with_reducible refine Keeps.ite ?_ ?_
    | with_reducible exact Keeps.refl
    | with_reducible assumption
    | ((with_reducible apply holdover_keeps); (case hMk => rfl))
    | ((with_reducible apply raise_keeps); (case d => rfl); (case hMk => rfl); (case hMk2 => rfl))
    | intro _
    | split
    | dsimp only
    | (refine Keeps.snd ?_ (by with_reducible assumption))

theorem takeStrict_keeps {mk : Nat} {sIn : State} (s : State) (hMk : 0x50708084000000000000000000020d100004a0000000008000040011d47c00c17c0000000000000000000000000000000000002000000000000000000000000000000000000000000000000000000000000000001867000180800000000800000000000000000000000000000000000000000000000000000000000000000000003001800000000000000000000000000004004000000000000000000000000000000000000000000000000000000000000000000000000000000000000000000000000000000000000000000000000000000080 ||| mk = mk) (hIn : Keeps mk sIn s) : Keeps mk sIn (takeStrict s) := by
  refine Keeps.step hMk ?_ hIn
  unfold takeStrict
  try dsimp only
  repeat' first
    | with_reducible refine Keeps.ite ?_ ?_
    | with_reducible exact Keeps.refl
    | with_reducible assumption
    | (with_reducible refine Keeps.each _ _ ?_ ?_)
    | ((with_reducible apply rekeySet_keeps); (case hMk => rfl))
    | ((with_reducible apply strictStart_keeps); (case hMk => rfl))
    | intro _
    | split
    | dsimp only
    | (refine Keeps.snd ?_ (by with_reducible assumption))
    | ((with_reducible apply Keeps.set_sec); (case e => rfl))

theorem takeGo_keeps {mk : Nat} {sIn : State} (event : Nat) (s : State) (hMk : 0x50f180a4000000000000000000024d100064a0001800008046060011d47c00c17c0000000000000000000000000000000000002000000000000000000000000000000000000000000000000000000000000000001c670009e080000000080000000000000000000020020001200000001000001012000000000000000000000000300180000000000000000000000000000f00403c020060002000000074800000000000000000000000000000000000000000000000000000000000000000000000000000000000000000000000000000000080 ||| mk = mk) (hIn : Keeps mk sIn s) : Keeps mk sIn (takeGo event s) := by
  refine Keeps.step hMk ?_ hIn
  unfold takeGo
  try dsimp only
  repeat' first
    | with_reducible refine Keeps.ite ?_ ?_
    | with_reducible exact Keeps.refl
    | with_reducible assumption
    | ((with_reducible apply Keeps.wr); (case d => rfl); (case e => rfl))
    | ((with_reducible apply Keeps.inc); (case d => rfl); (case e => rfl))
    | (with_reducible refine Keeps.each _ _ ?_ ?_)
    | ((with_reducible apply faultEvent_keeps); (case hMk => rfl))
    | ((with_reducible apply groupMark_keeps); (case hMk => rfl))
    | ((with_reducible apply pairIdle_keeps); (case hMk => rfl))
    | ((with_reducible apply pairTrace_keeps); (case hMk => rfl))
    | ((with_reducible apply raise_keeps); (case d => rfl); (case hMk => rfl); (case hMk2 => rfl))
    | ((with_reducible apply servoPeerLost_keeps); (case hMk => rfl))
    | ((with_reducible apply setRole_keeps); (case hMk => rfl))
    | ((with_reducible apply takeStrict_keeps); (case hMk => rfl))
    | intro _
    | split
    | dsimp only
    | (refine Keeps.snd ?_ (by with_reducible assumption))

theorem forceNodes_keeps {mk : Nat} {sIn : State} (s : State) (hMk : 0x507080a4000000000000000000020d100104a0000000008000040011d47c00c17c000000000000000000000000000000000000200000000000000000000000000000000000000000000000000000000000000000186700018080000000080000000000000000000000000000000000000000000000000000000000000000000000300180000000000000000000000000000c00003c020000200000000034000000000000000000000000000000000000000000000000000000000000000000000000000000000000000000000000000000000080 ||| mk = mk) (hIn : Keeps mk sIn s) : Keeps mk sIn (forceNodes s) := by
  refine Keeps.step hMk ?_ hIn
  unfold forceNodes
  try dsimp only
  repeat' first
    | with_reducible refine Keeps.ite ?_ ?_
    | with_reducible exact Keeps.refl
    | with_reducible assumption
    | (with_reducible refine Keeps.each _ _ ?_ ?_)
    | ((with_reducible apply Keeps.modNode); (case e => rfl); (case e2 => rfl))
    | ((with_reducible apply fcMark_keeps); (case hMk => rfl))
    | ((with_reducible apply haltDrop_keeps); (case hMk => rfl))
    | ((with_reducible apply modPair_keeps); (case hMk => rfl))
    | ((with_reducible apply rekeySet_keeps); (case hMk => rfl))
    | ((with_reducible apply restoreKey_keeps); (case hMk => rfl))
    | ((with_reducible apply rxDirty_keeps); (case hMk => rfl))
    | intro _
    | split
    | dsimp only
    | (refine Keeps.snd ?_ (by with_reducible assumption))

theorem fenceGo_keeps {mk : Nat} {sIn : State} (s : State) (hMk : 0x1507197a4000000000000000000024d100064b0003000008086060011d47c00c17c0000000000000000000000000000000000002000000000000000000000000000000000000000000000000000000000000000001c670009e080000000080000000000000000000000000000000000000000000000000000000000000000000000300180000000000000000000000000000f00003c020060402000000074800000000000000000000000000000000000000800000000000000000000000000980000000010407800080084800080000070e04f80 ||| mk = mk) (hIn : Keeps mk sIn s) : Keeps mk sIn (fenceGo s) := by
  refine Keeps.step hMk ?_ hIn
  unfold fenceGo
  try dsimp only
  repeat' first
    | with_reducible refine Keeps.ite ?_ ?_
    | with_reducible exact Keeps.refl
    | with_reducible assumption
    | ((with_reducible apply Keeps.put); (case d => rfl); (case e => rfl))
    | ((with_reducible apply Keeps.inc); (case d => rfl); (case e => rfl))
    | (with_reducible refine Keeps.each _ _ ?_ ?_)
    | ((with_reducible apply feStop_keeps); (case hMk => rfl))
    | ((with_reducible apply pairIdle_keeps); (case hMk => rfl))
    | ((with_reducible apply pairTrace_keeps); (case hMk => rfl))
    | ((with_reducible apply raise_keeps); (case d => rfl); (case hMk => rfl); (case hMk2 => rfl))
    | ((with_reducible apply replan_keeps); (case hMk => rfl))
    | ((with_reducible apply setRole_keeps); (case hMk => rfl))
    | ((with_reducible apply spansEnd_keeps); (case hMk => rfl))
    | intro _
    | split
    | dsimp only
    | (refine Keeps.snd ?_ (by with_reducible assumption))

theorem mirNode_keeps {mk : Nat} {sIn : State} (n : Nat) (r : Node) (cursor : Nat) (s : State) (hMk : 0x5076c8a4000000000000000000020d100004a0002000008000040011d47c00c17c0000000000000000000000000000000000002000000000000000000000000000000000000000000000000000004028000180039867000180800000000800000000000000000000000000000000000000000000000000000000000000003000003201800000000008103c01c0000000280c00403c0200000000000000340000000000000000000000000000000000000000000000000c0000000000000000000000000000000000000000000000000000000080 ||| mk = mk) (hIn : Keeps mk sIn s) : Keeps mk sIn (mirNode n r cursor s) := by
  refine Keeps.step hMk ?_ hIn
  unfold mirNode
  try dsimp only
  repeat' first
    | with_reducible refine Keeps.ite ?_ ?_
    | with_reducible exact Keeps.refl
    | with_reducible assumption
    | ((with_reducible apply Keeps.wr); (case d => rfl); (case e => rfl))
    | ((with_reducible apply Keeps.setNode); (case e => rfl); (case e2 => rfl))
    | (with_reducible refine Keeps.when _ _ ?_ ?_)
    | ((with_reducible apply fcMark_keeps); (case hMk => rfl))
    | (refine Keeps.snd (p := fwtNode _ _ _) ?_ (by with_reducible assumption))
    | ((with_reducible apply fwtNode_keeps); (case hMk => rfl))
    | ((with_reducible apply haltDrop_keeps); (case hMk => rfl))
    | ((with_reducible apply nodeRelease_keeps); (case hMk => rfl))
    | ((with_reducible apply rxDirty_keeps); (case hMk => rfl))
    | ((with_reducible apply saxTake_keeps); (case hMk => rfl))
    | intro _
    | split
    | dsimp only
    | (refine Keeps.snd ?_ (by with_reducible assumption))

theorem mirKey_keeps {mk : Nat} {sIn : State} (k : Nat) (key : Nat) (s : State) (hMk : 0x50708084000000000000000000020d100104a0000000008000040011d47c00c17c0000000000000000000000000000000000002000000000000000000000000000000000000000000000000000000000000000001867000180800000000800000000000000000000000000000000000000000000000000000000000000000000003001800000000000000000000000000000000000000000200000000000000000000000000000000000000000000000000000000000000000000000000000000000000000000000000000000000000000000080 ||| mk = mk) (hIn : Keeps mk sIn s) : Keeps mk sIn (mirKey k key s) := by
  refine Keeps.step hMk ?_ hIn
  unfold mirKey
  try dsimp only
  repeat' first
    | with_reducible refine Keeps.ite ?_ ?_
    | with_reducible exact Keeps.refl
    | with_reducible assumption
    | ((with_reducible apply keyWrite_keeps); (case hMk => rfl))
    | intro _
    | split
    | dsimp only
    | (refine Keeps.snd ?_ (by with_reducible assumption))

theorem mirGroup_keeps {mk : Nat} {sIn : State} (w : Nat) (j : Nat) (gen : Nat) (key : Nat) (s : State) (hMk : 0x40080040000000000000000000000000000000000000000000000000000000000000000000000000000000000000000000000000000000000000000000000000000000003c000000000000000400000000000000000000000000000000000000000000000000000000000000000000000000000000000000000000000000000000000000000000000000000000000000000078000000000000000000000000000000000000000000000000000000000000000000000000000000000000000000000000000000000000000000000000000000000 ||| mk = mk) (hIn : Keeps mk sIn s) : Keeps mk sIn (mirGroup w j gen key s) := by
  refine Keeps.step hMk ?_ hIn
  unfold mirGroup
  try dsimp only
  repeat' first
    | with_reducible refine Keeps.ite ?_ ?_
    | with_reducible exact Keeps.refl
    | with_reducible assumption
    | ((with_reducible apply Keeps.wr); (case d => rfl); (case e => rfl))
    | ((with_reducible apply Keeps.put); (case d => rfl); (case e => rfl))
    | ((with_reducible apply groupView_keeps); (case hMk => rfl))
    | intro _
    | split
    | dsimp only
    | (refine Keeps.snd ?_ (by with_reducible assumption))
    | ((with_reducible apply Keeps.set_sec); (case e => rfl))
    | ((with_reducible apply Keeps.set_sec); (case e => rfl))

theorem mirFwt_keeps {mk : Nat} {sIn : State} (e : FwtEntry) (s : State) (hMk : 0x5052002000000000000000000000000000000000000000000000000000000000000000000000000000000000000000000000002000000000000000000000000000000000000000000000000000000000000000001867000180800000000800000000000000000000000000000000000000000000000000000000000000000000000000000000000000103c01800000002800000000000000000000000000000000000000000000000000000000000000000000000000000000000000000000000000000000000000000000000000000000000000 ||| mk = mk) (hIn : Keeps mk sIn s) : Keeps mk sIn (mirFwt e s) := by
  refine Keeps.step hMk ?_ hIn
  unfold mirFwt
  try dsimp only
  repeat' first
    | (with_reducible refine Keeps.elim _ ?_ ?_)
    | (with_reducible refine Keeps.elim2 _ ?_ ?_)
    | with_reducible refine Keeps.ite ?_ ?_
    | with_reducible exact Keeps.refl
    | with_reducible assumption
    | (refine Keeps.snd (p := fwtNew _ _) ?_ (by with_reducible assumption))
    | ((with_reducible apply fwtNew_keeps); (case hMk => rfl))
    | ((with_reducible apply fwtPut_keeps); (case hMk => rfl))
    | ((with_reducible apply lockTake_keeps); (case hMk => rfl))
    | intro _
    | split
    | dsimp only
    | (refine Keeps.snd ?_ (by with_reducible assumption))

theorem mirFwtGone_keeps {mk : Nat} {sIn : State} (e : FwtEntry) (s : State) (hMk : 0x2000000000000000000000000000000000000000000000000000000000000000000000000000000000000000000000000000000000000000000000000000000000000000000000000000000000000000000000000000000000000000000000000000000000000000000000000000000000000000000000000000000000000000000000000000000100000800000000800000000000000000000000000000000000000000000000000000000000000000000000000000000000000000000000000000000000000000000000000000000000000 ||| mk = mk) (hIn : Keeps mk sIn s) : Keeps mk sIn (mirFwtGone e s) := by
  refine Keeps.step hMk ?_ hIn
  unfold mirFwtGone
  try dsimp only
  repeat' first
    | (with_reducible refine Keeps.elim _ ?_ ?_)
    | (with_reducible refine Keeps.elim2 _ ?_ ?_)
    | with_reducible refine Keeps.ite ?_ ?_
    | with_reducible exact Keeps.refl
    | with_reducible assumption
    | ((with_reducible apply fwtRemove_keeps); (case hMk => rfl))
    | ((with_reducible apply lockTake_keeps); (case hMk => rfl))
    | intro _
    | split
    | dsimp only
    | (refine Keeps.snd ?_ (by with_reducible assumption))

theorem mirBatch_keeps {mk : Nat} {sIn : State} (gen : Nat) (bound : Nat) (cells : List (Nat × Cell)) (on : List (Fin 64)) (off : List (Fin 64)) (s : State) (hMk : 0x50702080000000000000000000024000000020002000000020040011d47c00c17c0000000000000000000000000000000000002000000000000000000000000000000000000000000000000000000000000000001867000180800000000800000000000000000000000000000000000000000000000000000000000000000000000000000000000000000000000000000000000000000000000000000000030000000440000060000000018004000000000000000000000000000000000000000000000000000000000000000000000000000080 ||| mk = mk) (hIn : Keeps mk sIn s) : Keeps mk sIn (mirBatch gen bound cells on off s) := by
  refine Keeps.step hMk ?_ hIn
  unfold mirBatch
  try dsimp only
  repeat' first
    | with_reducible refine Keeps.ite ?_ ?_
    | with_reducible exact Keeps.refl
    | with_reducible assumption
    | ((with_reducible apply Keeps.wr); (case d => rfl); (case e => rfl))
    | ((with_reducible apply Keeps.put); (case d => rfl); (case e => rfl))
    | (with_reducible refine Keeps.each _ _ ?_ ?_)
    | ((with_reducible apply boundary_keeps); (case hMk => rfl))
    | ((with_reducible apply cellsView_keeps); (case hMk => rfl))
    | ((with_reducible apply modSrc_keeps); (case hMk => rfl))
    | ((with_reducible apply syncLost_keeps); (case hMk => rfl))
    | intro _
    | split
    | dsimp only
    | (refine Keeps.snd ?_ (by with_reducible assumption))

theorem mirGen_keeps {mk : Nat} {sIn : State} (gen : Nat) (bound : Nat) (cells : List (Nat × Cell)) (on : List (Fin 64)) (off : List (Fin 64)) (s : State) (hMk : 0x50702080000000000000000000024000000020002000000020040011d47c00c17c0000000000000000000000000000000000002000000000000000000000000000000000000000000000000000000000000000001867000180800000000800000000000000000000000000000000000000000000000000000000000000000000000000000000000000000000000000000000000000000000000000000000030000000440000060000000018004000000000000000000000000000000000000000000000000000000000000000000000000000080 ||| mk = mk) (hIn : Keeps mk sIn s) : Keeps mk sIn (mirGen gen bound cells on off s) := by
  refine Keeps.step hMk ?_ hIn
  unfold mirGen
  try dsimp only
  repeat' first
    | with_reducible refine Keeps.ite ?_ ?_
    | with_reducible exact Keeps.refl
    | with_reducible assumption
    | ((with_reducible apply mirBatch_keeps); (case hMk => rfl))
    | ((with_reducible apply syncLost_keeps); (case hMk => rfl))
    | intro _
    | split
    | dsimp only
    | (refine Keeps.snd ?_ (by with_reducible assumption))

theorem mirApply_keeps {mk : Nat} {sIn : State} (m : Option Nat) (i : MirItem) (s : State) (hMk : 0x5477e8a4000000000000000000024d100104a0002000008020040011d47c00c17c000000000000000000000000000000000000200000000000000000000000000000000003c000000000000000404028000180039867000180800000000800000000000000000000000000000000000000000000000000000000000000003000003201800000000008103c01c0000000280f47c03c0200002020000000348300000004400000600000000180040000000000000000000c0000000000000000000000000000000000000000000000000000000080 ||| mk = mk) (hIn : Keeps mk sIn s) : Keeps mk sIn (mirApply m i s) := by
  refine Keeps.step hMk ?_ hIn
  unfold mirApply
  try dsimp only
  repeat' first
    | with_reducible refine Keeps.ite ?_ ?_
    | with_reducible exact Keeps.refl
    | with_reducible assumption
    | ((with_reducible apply groupRotate_keeps); (case hMk => rfl))
    | ((with_reducible apply jnlReopen_keeps); (case hMk => rfl))
    | ((with_reducible apply mirFwt_keeps); (case hMk => rfl))
    | ((with_reducible apply mirFwtGone_keeps); (case hMk => rfl))
    | ((with_reducible apply mirGen_keeps); (case hMk => rfl))
    | ((with_reducible apply mirGroup_keeps); (case hMk => rfl))
    | ((with_reducible apply mirKey_keeps); (case hMk => rfl))
    | ((with_reducible apply mirNode_keeps); (case hMk => rfl))
    | ((with_reducible apply polPut_keeps); (case hMk => rfl))
    | ((with_reducible apply rekeyClear_keeps); (case hMk => rfl))
    | ((with_reducible apply rekeySet_keeps); (case hMk => rfl))
    | intro _
    | split
    | dsimp only
    | (refine Keeps.snd ?_ (by with_reducible assumption))
    | ((with_reducible apply Keeps.set_sec); (case e => rfl))

theorem markCheck_keeps {mk : Nat} {sIn : State} (s : State) (hMk : 0x40000000000000000000000000000000000000000000000000000000000000000000000000000000000000000000000000000000000000000000000000000000000000000000000000000000000000000000000000000000000000000000000000000000000000000000000000000000000000000000000000000000000000000000000000000000000000000000000000000000000000000000000000000000000000000000000000000000000000000000000000000000000000000000000000000000000000000000000000000000000000 ||| mk = mk) (hIn : Keeps mk sIn s) : Keeps mk sIn (markCheck s) := by
  refine Keeps.step hMk ?_ hIn
  unfold markCheck
  try dsimp only
  repeat' first
    | with_reducible refine Keeps.ite ?_ ?_
    | with_reducible exact Keeps.refl
    | with_reducible assumption
    | ((with_reducible apply modPair_keeps); (case hMk => rfl))
    | intro _
    | split
    | dsimp only
    | (refine Keeps.snd ?_ (by with_reducible assumption))

theorem execPairJoinActive_keeps (t : Nat) (s : State) : KeepsR 0xd07180a5000000000000000000024d100064a00010000080063f0011d47c00c17c0000000000000000000000000000000000002000000000000000000000000000000000000000000000000000000000000000001c670009e080000000080000000000000000000000000000000000000000000000000000000000000000000000300180000000000000000000000000000f00003c020060002000000074800000000000000000000000000000000000000000000000000000000000000000000000000000000000000000000000000000000080 s (execPairJoinActive t s) := by
  unfold execPairJoinActive
  try dsimp only
  repeat' first
    | (with_reducible refine KeepsR.next ?_)
    | (with_reducible refine KeepsR.ite ?_ ?_)
    | with_reducible refine Keeps.ite ?_ ?_
    | with_reducible exact Keeps.refl
    | with_reducible assumption
    | ((with_reducible apply Keeps.at); (case e => rfl); (case e2 => rfl))
    | ((with_reducible apply pairBegin_keeps); (case hMk => rfl))
    | ((with_reducible apply pairDone_keeps); (case hMk => rfl))
    | intro _
    | split
    | dsimp only
    | (refine Keeps.snd ?_ (by with_reducible assumption))

theorem execPairJoinStandby_keeps (t : Nat) (s : State) : KeepsR 0xd071c0a5000000000000000000024d100064a00010000080063f0011d47c00c17c0000000000000000000000000000000000002000000000000000000000000000000000000000000000000000000000000000001c670009e0800000000800000000000000000000000000000000000000000000000000000000000c0000700000320180000000000000000040000000000f00003c020060002000000074800000000000000000000000000000000000000000000000000000000000000000000000000000000000000000000000000000000080 s (execPairJoinStandby t s) := by
  unfold execPairJoinStandby
  try dsimp only
  repeat' first
    | (with_reducible refine KeepsR.next ?_)
    | (with_reducible refine KeepsR.ite ?_ ?_)
    | with_reducible refine Keeps.ite ?_ ?_
    | with_reducible exact Keeps.refl
    | with_reducible assumption
    | ((with_reducible apply Keeps.at); (case e => rfl); (case e2 => rfl))
    | ((with_reducible apply goStandby_keeps); (case hMk => rfl))
    | ((with_reducible apply pairDone_keeps); (case hMk => rfl))
    | intro _
    | split
    | dsimp only
    | (refine Keeps.snd ?_ (by with_reducible assumption))

theorem execPairLeave_keeps (t : Nat) (s : State) : KeepsR 0xd07180a5000000000000000000024d100064a00010000080063f0011d47c00c17c0000000000000000000000000000000000002000000000000000000000000000000000000000000000000000000000000000001c670009e080000000080000000000000000000000000000000000000000000000000000000000000000000000300180000000000000000000000000000f00003c020060002000000074800000000000000000000000000000000000000000000000000000000000000000000000000000000000000000000000000000000080 s (execPairLeave t s) := by
  unfold execPairLeave
  try dsimp only
  repeat' first
    | (with_reducible refine KeepsR.next ?_)
    | (with_reducible refine KeepsR.ite ?_ ?_)
    | with_reducible refine Keeps.ite ?_ ?_
    | with_reducible exact Keeps.refl
    | with_reducible assumption
    | ((with_reducible apply Keeps.at); (case e => rfl); (case e2 => rfl))
    | ((with_reducible apply pairBegin_keeps); (case hMk => rfl))
    | ((with_reducible apply pairDone_keeps); (case hMk => rfl))
    | intro _
    | split
    | dsimp only
    | (refine Keeps.snd ?_ (by with_reducible assumption))

theorem execPairSwitch_keeps (t : Nat) (s : State) : KeepsR 0x8040000100000000000000000000000000000000000000000c01000000000000000000000000000000000000000000000000000000000000000000000000000000000000000000000000000000000000000000000000000000000000000000000000000000000000000000000000000000000000000000000000000000000000000000000000000000000000000000000000000000000000000000000000000000000000000000000000000000000000000000000000000000000000000000000000000000000000000000000000000000000000 s (execPairSwitch t s) := by
  unfold execPairSwitch
  try dsimp only
  repeat' first
    | (with_reducible refine KeepsR.next ?_)
    | (with_reducible refine KeepsR.ite ?_ ?_)
    | with_reducible refine Keeps.ite ?_ ?_
    | with_reducible exact Keeps.refl
    | with_reducible assumption
    | ((with_reducible apply Keeps.put); (case d => rfl); (case e => rfl))
    | ((with_reducible apply Keeps.at); (case e => rfl); (case e2 => rfl))
    | ((with_reducible apply modPair_keeps); (case hMk => rfl))
    | ((with_reducible apply pairDone_keeps); (case hMk => rfl))
    | intro _
    | split
    | dsimp only
    | (refine Keeps.snd ?_ (by with_reducible assumption))

theorem execPairForce_keeps (t : Nat) (s : State) : KeepsR 0xd0f180a5000000000000000000024d100164a8003800008046070011d47c00c17c0000000000000000000000000000000000002000000000000000000000000000000000000000000000000000000000000000001c670009e080000000080000000000000000000020020001200000001000001012000000000000000000000000300180000000000000000000000000000f00403c020060202000000074800000000000000000000000000000000000000000000000000000000000000000000000000000000000000000000000000000000080 s (execPairForce t s) := by
  unfold execPairForce
  try dsimp only
  repeat' first
    | (with_reducible refine KeepsR.next ?_)
    | (with_reducible refine KeepsR.ite ?_ ?_)
    | with_reducible refine Keeps.ite ?_ ?_
    | with_reducible exact Keeps.refl
    | with_reducible assumption
    | ((with_reducible apply Keeps.put); (case d => rfl); (case e => rfl))
    | ((with_reducible apply Keeps.inc); (case d => rfl); (case e => rfl))
    | ((with_reducible apply Keeps.at); (case e => rfl); (case e2 => rfl))
    | ((with_reducible apply forceNodes_keeps); (case hMk => rfl))
    | ((with_reducible apply pairDone_keeps); (case hMk => rfl))
    | ((with_reducible apply takeGo_keeps); (case hMk => rfl))
    | intro _
    | split
    | dsimp only
    | (refine Keeps.snd ?_ (by with_reducible assumption))

theorem execHeartbeatSend_keeps (alive : Bool) (t : Nat) (s : State) : KeepsR 0x8040000500000000000000000000001000000020000000000040000000000000000000000000000000000000000000000000000000000000000000000000000000000000000000000000000000000000000000000000000000000000000000000000000000000000000000000000000000000000000000000000000000000000000000000000000000000000000000000000000000000000000000000000000000000000000000000000000000000000000000000000000000000000000000000000000000000000000000000000000000000000 s (execHeartbeatSend alive t s) := by
  unfold execHeartbeatSend
  try dsimp only
  repeat' first
    | (with_reducible refine KeepsR.next ?_)
    | (with_reducible refine KeepsR.ite ?_ ?_)
    | with_reducible refine Keeps.ite ?_ ?_
    | with_reducible exact Keeps.refl
    | with_reducible assumption
    | ((with_reducible apply Keeps.put); (case d => rfl); (case e => rfl))
    | ((with_reducible apply Keeps.inc); (case d => rfl); (case e => rfl))
    | ((with_reducible apply Keeps.at); (case e => rfl); (case e2 => rfl))
    | ((with_reducible apply linkSent_keeps); (case hMk => rfl))
    | ((with_reducible apply modPair_keeps); (case hMk => rfl))
    | intro _
    | split
    | dsimp only
    | (refine Keeps.snd ?_ (by with_reducible assumption))

theorem hbSample_keeps {mk : Nat} {sIn : State} (hb : Heartbeat) (s : State) (hMk : 0x519048060000000000000000000000010000000500000000000000000000000000000000000000000000000800000000000000200000000000000000000000000000000000000000000000000000000000000000186700018080000000080000041c1000000000007f07e007e0000000100000027a00000c0000000000000000000000000000000000000000000000000000000000000000000000000000000000000000000000000000000000000000000000000000000000000000000000000000000000000000000000000000000000000000 ||| mk = mk) (hIn : Keeps mk sIn s) : Keeps mk sIn (hbSample hb s) := by
  refine Keeps.step hMk ?_ hIn
  unfold hbSample
  try dsimp only
  repeat' first
    | with_reducible refine Keeps.ite ?_ ?_
    | with_reducible exact Keeps.refl
    | with_reducible assumption
    | ((with_reducible apply Keeps.inc); (case d => rfl); (case e => rfl))
    | ((with_reducible apply Keeps.wrFree); (case d => rfl); (case e => rfl); (case e2 => rfl))
    | ((with_reducible apply State.wrSat_keeps); (case d => rfl); (case hMk => rfl))
    | ((with_reducible apply servoDelay_keeps); (case hMk => rfl))
    | ((with_reducible apply servoOffset_keeps); (case hMk => rfl))
    | intro _
    | split
    | dsimp only
    | (refine Keeps.snd ?_ (by with_reducible assumption))

theorem hbHeard_keeps {mk : Nat} {sIn : State} (hb : Heartbeat) (s : State) (hMk : 0x50700080000000000000000000020000000020000000000201380011d47c00c17c0000000000000000000000000000000000002000000000000000000000000000000000000000000000000000000000000000001867000180800000000800000000000000000000000000000000000000000000000000000000000000000000000000000000000000000000000000000000000000000000000000000000000000000000000000000000000000000000000000000000000000000000000000000000000000000000000000000000000000000080 ||| mk = mk) (hIn : Keeps mk sIn s) : Keeps mk sIn (hbHeard hb s) := by
  refine Keeps.step hMk ?_ hIn
  unfold hbHeard
  try dsimp only
  repeat' first
    | with_reducible refine Keeps.ite ?_ ?_
    | with_reducible exact Keeps.refl
    | with_reducible assumption
    | ((with_reducible apply Keeps.wr); (case d => rfl); (case e => rfl))
    | ((with_reducible apply Keeps.put); (case d => rfl); (case e => rfl))
    | (with_reducible refine Keeps.when _ _ ?_ ?_)
    | ((with_reducible apply modPair_keeps); (case hMk => rfl))
    | ((with_reducible apply pairTrace_keeps); (case hMk => rfl))
    | ((with_reducible apply peerFault_keeps); (case hMk => rfl))
    | ((with_reducible apply raise_keeps); (case d => rfl); (case hMk => rfl); (case hMk2 => rfl))
    | ((with_reducible apply syncFault_keeps); (case hMk => rfl))
    | intro _
    | split
    | dsimp only
    | (refine Keeps.snd ?_ (by with_reducible assumption))

theorem hbCrc_keeps {mk : Nat} {sIn : State} (hb : Heartbeat) (s : State) (hMk : 0x50700080000000000000000000020008000020100000001000000011d47c00c17c0000000000000000000000000000000000002000000000000000000000000000000000000000000000000000000000000000001867000180800000000800000000000000000000000000000000000000000000000000000000000000000000000000000000000000000000000000000000000000000000000000000000000000000000000000000000000000000000000000000000000000000000000000000000000000000000000000000000000000000080 ||| mk = mk) (hIn : Keeps mk sIn s) : Keeps mk sIn (hbCrc hb s) := by
  refine Keeps.step hMk ?_ hIn
  unfold hbCrc
  try dsimp only
  repeat' first
    | with_reducible refine Keeps.ite ?_ ?_
    | with_reducible exact Keeps.refl
    | with_reducible assumption
    | ((with_reducible apply Keeps.wr); (case d => rfl); (case e => rfl))
    | ((with_reducible apply Keeps.inc); (case d => rfl); (case e => rfl))
    | ((with_reducible apply faultBegin_keeps); (case hMk => rfl))
    | ((with_reducible apply faultEnd_keeps); (case hMk => rfl))
    | ((with_reducible apply raise_keeps); (case d => rfl); (case hMk => rfl); (case hMk2 => rfl))
    | intro _
    | split
    | dsimp only
    | (refine Keeps.snd ?_ (by with_reducible assumption))

theorem hbActive_keeps {mk : Nat} {sIn : State} (hb : Heartbeat) (s : State) (hMk : 0x1507197a4000000000000000000024d10007cb0003000008086060011d47c00c17c0000000000000000000000000000000000002000000000000000000000000000000000000000000000000000000000000000001c670009e080000000080000000000000000000000000000000000000000000000000000000000000000000000300180000000000000000000000000000f00003c020060402000000074800000000000000000000000000000000000000800000000000000000000000000980000000010407800080084800080000070e04f80 ||| mk = mk) (hIn : Keeps mk sIn s) : Keeps mk sIn (hbActive hb s) := by
  refine Keeps.step hMk ?_ hIn
  unfold hbActive
  try dsimp only
  repeat' first
    | with_reducible refine Keeps.ite ?_ ?_
    | with_reducible exact Keeps.refl
    | with_reducible assumption
    | ((with_reducible apply bulkSend_keeps); (case hMk => rfl))
    | ((with_reducible apply fenceGo_keeps); (case hMk => rfl))
    | ((with_reducible apply mirStop_keeps); (case hMk => rfl))
    | ((with_reducible apply setSync_keeps); (case hMk => rfl))
    | intro _
    | split
    | dsimp only
    | (refine Keeps.snd ?_ (by with_reducible assumption))

theorem hbStandby_keeps {mk : Nat} {sIn : State} (hb : Heartbeat) (s : State) (hMk : 0x5076e8a4000000000000000000026d10000ca4002800008427040011d47c00c17c0000000000000000000000000000000000002000000000000000000000000000000000000000000000000000004028000180039867000180800000000800000000000000000000000000000000000000000000000000000000000000003000003201800000000008100001c0000000080c004000000000000000000000030000000000000060000000000004000000000000000000080000000000000000000000000000000000000000000000000000000080 ||| mk = mk) (hIn : Keeps mk sIn s) : Keeps mk sIn (hbStandby hb s) := by
  refine Keeps.step hMk ?_ hIn
  unfold hbStandby
  try dsimp only
  repeat' first
    | with_reducible refine Keeps.ite ?_ ?_
    | with_reducible exact Keeps.refl
    | with_reducible assumption
    | ((with_reducible apply Keeps.wr); (case d => rfl); (case e => rfl))
    | ((with_reducible apply bulkEnter_keeps); (case hMk => rfl))
    | ((with_reducible apply syncLost_keeps); (case hMk => rfl))
    | ((with_reducible apply takeCondition_keeps); (case hMk => rfl))
    | intro _
    | split
    | dsimp only
    | (refine Keeps.snd ?_ (by with_reducible assumption))

theorem execHeartbeatReceived_keeps (hb : Heartbeat) (tagOk : Bool) (t : Nat) (s : State) : KeepsR 0x1d1f7ffa7000000000000000000026d1b007cb455380000d6a73e0011d47c00c17c0000000000000000000008000000000000002000000000000000000000000000000000000000000000000000004028000180039c670009e080000000080000041c1000000000007f07e007e0000000100000027a00000c0000000000003000003201800000000008100001c0000000080f00403c020060402000000074830000000000000060000000000004000000000800000000080000000000000000980000000010407800080084800080000070e04f80 s (execHeartbeatReceived hb tagOk t s) := by
  unfold execHeartbeatReceived
  try dsimp only
  repeat' first
    | (with_reducible refine KeepsR.next ?_)
    | (with_reducible refine KeepsR.ite ?_ ?_)
    | with_reducible refine Keeps.ite ?_ ?_
    | with_reducible exact Keeps.refl
    | with_reducible assumption
    | ((with_reducible apply withTag_keeps); (case hMk => rfl))
    | ((with_reducible apply Keeps.inc); (case d => rfl); (case e => rfl))
    | ((with_reducible apply Keeps.at); (case e => rfl); (case e2 => rfl))
    | ((with_reducible apply hbActive_keeps); (case hMk => rfl))
    | ((with_reducible apply hbCrc_keeps); (case hMk => rfl))
    | ((with_reducible apply hbHeard_keeps); (case hMk => rfl))
    | ((with_reducible apply hbSample_keeps); (case hMk => rfl))
    | ((with_reducible apply hbStandby_keeps); (case hMk => rfl))
    | intro _
    | split
    | dsimp only
    | (refine Keeps.snd ?_ (by with_reducible assumption))

theorem execHeartbeatMissCount_keeps (alive : Bool) (t : Nat) (s : State) : KeepsR 0xd0700081000000000000000000024000000025802000000427540011d47c00c17c0000000000000000000000000000000000002000000000000000000000000000000000000000000000000000000000000000001867000180800000000800000000000000000000000000000000000000000000000000000000000000000000000000000000000000000000000000000000000000000000000000000000000000000000000000000000000000000000000000000000000000000000000000000000000000000000000000000000000000000080 s (execHeartbeatMissCount alive t s) := by
  unfold execHeartbeatMissCount
  try dsimp only
  repeat' first
    | (with_reducible refine KeepsR.next ?_)
    | (with_reducible refine KeepsR.ite ?_ ?_)
    | with_reducible refine Keeps.ite ?_ ?_
    | with_reducible exact Keeps.refl
    | with_reducible assumption
    | ((with_reducible apply Keeps.put); (case d => rfl); (case e => rfl))
    | ((with_reducible apply Keeps.inc); (case d => rfl); (case e => rfl))
    | ((with_reducible apply Keeps.at); (case e => rfl); (case e2 => rfl))
    | (with_reducible refine Keeps.when _ _ ?_ ?_)
    | ((with_reducible apply modPair_keeps); (case hMk => rfl))
    | ((with_reducible apply syncFault_keeps); (case hMk => rfl))
    | ((with_reducible apply syncLost_keeps); (case hMk => rfl))
    | ((with_reducible apply takeCondition_keeps); (case hMk => rfl))
    | intro _
    | split
    | dsimp only
    | (refine Keeps.snd ?_ (by with_reducible assumption))

theorem execPeerSilentExpiry_keeps (t : Nat) (s : State) : KeepsR 0xd07180a5000000000000000000020d100064a0000000008100240011d47c00c17c0000000000000000000000000000000000002000000000000000000000000000000000000000000000000000000000000000001c670009e080000000080000000000000000000000000000000000000000000000000000000000000000000000300180000000000000000000000000000f00003c020060002000000074800000000000000000000000000000000000000000000000000000000000000000000000000000000000000000000000000000000080 s (execPeerSilentExpiry t s) := by
  unfold execPeerSilentExpiry
  try dsimp only
  repeat' first
    | (with_reducible refine KeepsR.next ?_)
    | (with_reducible refine KeepsR.ite ?_ ?_)
    | with_reducible refine Keeps.ite ?_ ?_
    | with_reducible exact Keeps.refl
    | with_reducible assumption
    | ((with_reducible apply Keeps.put); (case d => rfl); (case e => rfl))
    | ((with_reducible apply Keeps.at); (case e => rfl); (case e2 => rfl))
    | ((with_reducible apply mirStop_keeps); (case hMk => rfl))
    | ((with_reducible apply pairTrace_keeps); (case hMk => rfl))
    | ((with_reducible apply peerFault_keeps); (case hMk => rfl))
    | ((with_reducible apply raise_keeps); (case d => rfl); (case hMk => rfl); (case hMk2 => rfl))
    | ((with_reducible apply setSync_keeps); (case hMk => rfl))
    | intro _
    | split
    | dsimp only
    | (refine Keeps.snd ?_ (by with_reducible assumption))

theorem execTakeover_keeps (t : Nat) (s : State) : KeepsR 0xd0f180a5000000000000000000024d100064a2001800008046060011d47c00c17c0000000000000000000000000000000000002000000000000000000000000000000000000000000000000000000000000000001c670009e080000000080000000000000000000020020001200000001000001012000000000000000000000000300180000000000000000000000000000f00403c020060002000000074800000000000000000000000000000000000000000000000000000000000000000000000000000000000000000000000000000000080 s (execTakeover t s) := by
  unfold execTakeover
  try dsimp only
  repeat' first
    | (with_reducible refine KeepsR.next ?_)
    | (with_reducible refine KeepsR.ite ?_ ?_)
    | with_reducible refine Keeps.ite ?_ ?_
    | with_reducible exact Keeps.refl
    | with_reducible assumption
    | ((with_reducible apply Keeps.inc); (case d => rfl); (case e => rfl))
    | ((with_reducible apply Keeps.at); (case e => rfl); (case e2 => rfl))
    | ((with_reducible apply takeGo_keeps); (case hMk => rfl))
    | intro _
    | split
    | dsimp only
    | (refine Keeps.snd ?_ (by with_reducible assumption))

theorem execPairFenceInput_keeps (level : Bool) (t : Nat) (s : State) : KeepsR 0x1d07197a5000000000000000000024d100064b0003000008086860011d47c00c17c0000000000000000000000000000000000002000000000000000000000000000000000000000000000000000000000000000001c670009e080000000080000000000000000000000000000000000000000000000000000000000000000000000300180000000000000000000000000000f00003c020060402000000074800000000000000000000000000000000000000800000000000000000000000000980000000010407800080084800080000070e04f80 s (execPairFenceInput level t s) := by
  unfold execPairFenceInput
  try dsimp only
  repeat' first
    | (with_reducible refine KeepsR.next ?_)
    | (with_reducible refine KeepsR.ite ?_ ?_)
    | with_reducible refine Keeps.ite ?_ ?_
    | with_reducible exact Keeps.refl
    | with_reducible assumption
    | ((with_reducible apply Keeps.put); (case d => rfl); (case e => rfl))
    | ((with_reducible apply Keeps.at); (case e => rfl); (case e2 => rfl))
    | ((with_reducible apply fenceGo_keeps); (case hMk => rfl))
    | intro _
    | split
    | dsimp only
    | (refine Keeps.snd ?_ (by with_reducible assumption))

theorem execFabricTokenCheck_keeps (advanced : Bool) (t : Nat) (s : State) : KeepsR 0x8040000100000000000000000002000000002000000000000000000000000000000000000000000000000000000000000000000000000000000000000000000000000000000000000000000000000000000000000000000000000000000000000000000000000000000000000000000000000000000000000000000000000000000000000000000000000000000000000000000000000000000000000000000000000000000000000000000000000000000000000000000000000000000000000000000000000000000000000000000000000000 s (execFabricTokenCheck advanced t s) := by
  unfold execFabricTokenCheck
  try dsimp only
  repeat' first
    | (with_reducible refine KeepsR.next ?_)
    | (with_reducible refine KeepsR.ite ?_ ?_)
    | with_reducible refine Keeps.ite ?_ ?_
    | with_reducible exact Keeps.refl
    | with_reducible assumption
    | ((with_reducible apply Keeps.at); (case e => rfl); (case e2 => rfl))
    | ((with_reducible apply modPair_keeps); (case hMk => rfl))
    | ((with_reducible apply yieldSet_keeps); (case hMk => rfl))
    | intro _
    | split
    | dsimp only
    | (refine Keeps.snd ?_ (by with_reducible assumption))

theorem execAliveToggle_keeps (t : Nat) (s : State) : KeepsR 0x8040000100000000000000000000000000000000000000000000000000000000000000000000000000000000000000000000000000000000000000000000000000000000000000000000000000000000000000000000000000000000000000000000000000000000000000000000000000000000000000000000000000000000000000000000000000000000000000000000000000000000000000000000000000000000000000000000000000000000000000000000000000000000000000000000000000000000000000000000000000000000 s (execAliveToggle t s) := by
  unfold execAliveToggle
  try dsimp only
  repeat' first
    | (with_reducible refine KeepsR.next ?_)
    | (with_reducible refine KeepsR.ite ?_ ?_)
    | with_reducible refine Keeps.ite ?_ ?_
    | with_reducible exact Keeps.refl
    | with_reducible assumption
    | ((with_reducible apply Keeps.at); (case e => rfl); (case e2 => rfl))
    | ((with_reducible apply modPair_keeps); (case hMk => rfl))
    | intro _
    | split
    | dsimp only
    | (refine Keeps.snd ?_ (by with_reducible assumption))

theorem execMirRecordReceived_keeps (mseq : Nat) (item : MirItem) (tagOk : Bool) (meets : TableMeets) (t : Nat) (s : State) : KeepsR 0xd477e8a5000000000000000000024d120105a000200000c020040011d47c00c17c000000000000000000000000000000000000200000000000000000000000000000000003c000000000000000404028000180039867000180800000000800000000000000000000000000000000000000000000000000000000000000003000003201800000000008103c01c0000000280f47c03c0200002020000000348300000004400000600000000180040000000000000000000c0000000000000000000000000000000000000000000000000000000080 s (execMirRecordReceived mseq item tagOk meets t s) := by
  unfold execMirRecordReceived
  try dsimp only
  repeat' first
    | ((with_reducible apply withMeets_keeps); (case hMk => rfl))
    | (with_reducible refine KeepsR.next ?_)
    | (with_reducible refine KeepsR.ite ?_ ?_)
    | with_reducible refine Keeps.ite ?_ ?_
    | with_reducible exact Keeps.refl
    | with_reducible assumption
    | ((with_reducible apply withTag_keeps); (case hMk => rfl))
    | ((with_reducible apply Keeps.wr); (case d => rfl); (case e => rfl))
    | ((with_reducible apply Keeps.inc); (case d => rfl); (case e => rfl))
    | ((with_reducible apply Keeps.at); (case e => rfl); (case e2 => rfl))
    | ((with_reducible apply markCheck_keeps); (case hMk => rfl))
    | ((with_reducible apply mirApply_keeps); (case hMk => rfl))
    | ((with_reducible apply syncLost_keeps); (case hMk => rfl))
    | intro _
    | split
    | dsimp only
    | (refine Keeps.snd ?_ (by with_reducible assumption))

theorem execMackSend_keeps (t : Nat) (s : State) : KeepsR 0x8000000500000000000000000000021000000000000000000000000000000000000000000000000000000000000000000000000000000000000000000000000000000000000000000000000000000000000000000000000000000000000000000000000000000000000000000000000000000000000000000000000000000000000000000000000000000000000000000000000000000000000000000000000000000000000000000000000000000000000000000000000000000000000000000000000000000000000000000000000000000000 s (execMackSend t s) := by
  unfold execMackSend
  try dsimp only
  repeat' first
    | (with_reducible refine KeepsR.next ?_)
    | (with_reducible refine KeepsR.ite ?_ ?_)
    | with_reducible refine Keeps.ite ?_ ?_
    | with_reducible exact Keeps.refl
    | with_reducible assumption
    | ((with_reducible apply Keeps.wr); (case d => rfl); (case e => rfl))
    | ((with_reducible apply Keeps.at); (case e => rfl); (case e2 => rfl))
    | ((with_reducible apply linkSent_keeps); (case hMk => rfl))
    | intro _
    | split
    | dsimp only
    | (refine Keeps.snd ?_ (by with_reducible assumption))

theorem execMackReceived_keeps (mseq : Nat) (tagOk : Bool) (t : Nat) (s : State) : KeepsR 0xd07180a5000000000000000000021f120066a000000000c000040011d47c00c17c0000000000000000000000000000000000002000000000000000000000000000000000000000000000000000000000000000001c670009e080000000080000000000000000000000000000000000000000000000000000000000000000000000300180000000000000000000000000000f00003c020060002000000074800000000000000000000000000000000000000000000000000000000000000000000000000000000000000000000000000000000080 s (execMackReceived mseq tagOk t s) := by
  unfold execMackReceived
  try dsimp only
  repeat' first
    | (with_reducible refine KeepsR.next ?_)
    | (with_reducible refine KeepsR.ite ?_ ?_)
    | with_reducible refine Keeps.ite ?_ ?_
    | with_reducible exact Keeps.refl
    | with_reducible assumption
    | ((with_reducible apply withTag_keeps); (case hMk => rfl))
    | ((with_reducible apply Keeps.wr); (case d => rfl); (case e => rfl))
    | ((with_reducible apply Keeps.inc); (case d => rfl); (case e => rfl))
    | ((with_reducible apply Keeps.sub); (case d => rfl); (case e => rfl))
    | ((with_reducible apply Keeps.wrFree); (case d => rfl); (case e => rfl); (case e2 => rfl))
    | ((with_reducible apply Keeps.at); (case e => rfl); (case e2 => rfl))
    | ((with_reducible apply modPair_keeps); (case hMk => rfl))
    | ((with_reducible apply poolGive_keeps); (case hMk => rfl))
    | ((with_reducible apply resRelease_keeps); (case hMk => rfl))
    | intro _
    | split
    | dsimp only
    | (refine Keeps.snd ?_ (by with_reducible assumption))

theorem flushDirty_keeps {mk : Nat} {sIn : State} (s : State) (hMk : 0x50700084000000000000000000020d100004a0000000008000040011d47c00c17c0000000000000000000000000000000000002000000000000000000000000000000000000000000000000000000000000000001867000180800000000800000000000000000000000000000000000000000000000000000000000000000000003001800000000000000000000000000000000000000000000000000000000000000000000000000000000000000000000000000000000000000000000000000000000000000000000000000000000000000080 ||| mk = mk) (hIn : Keeps mk sIn s) : Keeps mk sIn (flushDirty s) := by
  refine Keeps.step hMk ?_ hIn
  unfold flushDirty
  try dsimp only
  repeat' first
    | with_reducible refine Keeps.ite ?_ ?_
    | with_reducible exact Keeps.refl
    | with_reducible assumption
    | (with_reducible refine Keeps.each _ _ ?_ ?_)
    | ((with_reducible apply mirSend_keeps); (case hMk => rfl))
    | ((with_reducible apply modPair_keeps); (case hMk => rfl))
    | intro _
    | split
    | dsimp only
    | (refine Keeps.snd ?_ (by with_reducible assumption))

theorem execMirFlush_keeps (t : Nat) (s : State) : KeepsR 0xd0700085000000000000000000020d100004a0000000008000040011d47c00c17c0000000000000000000000000000000000002000000000000000000000000000000000000000000000000000000000000000001867000180800000000800000000000000000000000000000000000000000000000000000000000000000000003001800000000000000000000000000000000000000000000000000000000000000000000000000000000000000000000000000000000000000000000000000000000000000000000000000000000000000080 s (execMirFlush t s) := by
  unfold execMirFlush
  try dsimp only
  repeat' first
    | (with_reducible refine KeepsR.next ?_)
    | (with_reducible refine KeepsR.ite ?_ ?_)
    | with_reducible refine Keeps.ite ?_ ?_
    | with_reducible exact Keeps.refl
    | with_reducible assumption
    | ((with_reducible apply Keeps.at); (case e => rfl); (case e2 => rfl))
    | ((with_reducible apply flushDirty_keeps); (case hMk => rfl))
    | ((with_reducible apply modPair_keeps); (case hMk => rfl))
    | intro _
    | split
    | dsimp only
    | (refine Keeps.snd ?_ (by with_reducible assumption))

theorem execMarkReceived_keeps (mseq : Nat) (tagOk : Bool) (t : Nat) (s : State) : KeepsR 0xd0700081000000000000000000020002000020000000004000000011547c00c17c0000000000000000000000000000000000002000000000000000000000000000000000000000000000000000000000000000001867000180800000000800000000000000000000000000000000000000000000000000000000000000000000000000000000000000000000000000000000000000000000000000000000000000000000000000000000000000000000000000000000000000000000000000000000000000000000000000000000000000000080 s (execMarkReceived mseq tagOk t s) := by
  unfold execMarkReceived
  try dsimp only
  repeat' first
    | (with_reducible refine KeepsR.next ?_)
    | (with_reducible refine KeepsR.ite ?_ ?_)
    | with_reducible refine Keeps.ite ?_ ?_
    | with_reducible exact Keeps.refl
    | with_reducible assumption
    | ((with_reducible apply withTag_keeps); (case hMk => rfl))
    | ((with_reducible apply Keeps.at); (case e => rfl); (case e2 => rfl))
    | ((with_reducible apply markCheck_keeps); (case hMk => rfl))
    | ((with_reducible apply modPair_keeps); (case hMk => rfl))
    | intro _
    | split
    | dsimp only
    | (refine Keeps.snd ?_ (by with_reducible assumption))

theorem execBulkRecordReceived_keeps (item : MirItem) (cursor : Fin 262144) (last : Bool) (tagOk : Bool) (meets : TableMeets) (t : Nat) (s : State) : KeepsR 0xd477e8a5000000000000000000026d120114a000200000c030040011d47c00c17c000000000000000000000000000000000000200000000000000000000000000000000003c000000000000000404028000180039867000180800000000800000000000000000000000000000000000000000000000000000000000000003000003201800000000008103c01c0000000280f47c03c0200002020000000348300000004400000600000000180040000000000000000000c0000000000000000000000000000000000000000000000000000000080 s (execBulkRecordReceived item cursor last tagOk meets t s) := by
  unfold execBulkRecordReceived
  try dsimp only
  repeat' first
    | ((with_reducible apply withMeets_keeps); (case hMk => rfl))
    | (with_reducible refine KeepsR.next ?_)
    | (with_reducible refine KeepsR.ite ?_ ?_)
    | with_reducible refine Keeps.ite ?_ ?_
    | with_reducible exact Keeps.refl
    | with_reducible assumption
    | ((with_reducible apply withTag_keeps); (case hMk => rfl))
    | ((with_reducible apply Keeps.wr); (case d => rfl); (case e => rfl))
    | ((with_reducible apply Keeps.inc); (case d => rfl); (case e => rfl))
    | ((with_reducible apply Keeps.at); (case e => rfl); (case e2 => rfl))
    | ((with_reducible apply bulkDone_keeps); (case hMk => rfl))
    | ((with_reducible apply mirApply_keeps); (case hMk => rfl))
    | ((with_reducible apply modPair_keeps); (case hMk => rfl))
    | intro _
    | split
    | dsimp only
    | (refine Keeps.snd ?_ (by with_reducible assumption))

theorem execRlyRadioReceived_keeps (frame : RelayFrame) (tagOk : Bool) (t : Nat) (s : State) : KeepsR 0xd0700881000000000000000000020002180020000000004000000011547c00c17c0000000000000000000000000000000000002000000000000000000000000000000000000000000000000000000000000000001867000180800000000800000000000000000000000000000000000000000000000000000000000000000000000000000000000000000000000000000000000000000000000000000000000000000000000000000000000000000000000000000000000000000000000000000000000000000000000000000000000000000080 s (execRlyRadioReceived frame tagOk t s) := by
  unfold execRlyRadioReceived
  try dsimp only
  repeat' first
    | (with_reducible refine KeepsR.next ?_)
    | (with_reducible refine KeepsR.ite ?_ ?_)
    | with_reducible refine Keeps.ite ?_ ?_
    | with_reducible exact Keeps.refl
    | with_reducible assumption
    | ((with_reducible apply withTag_keeps); (case hMk => rfl))
    | ((with_reducible apply Keeps.inc); (case d => rfl); (case e => rfl))
    | ((with_reducible apply Keeps.at); (case e => rfl); (case e2 => rfl))
    | intro _
    | split
    | dsimp only
    | (refine Keeps.snd ?_ (by with_reducible assumption))
    | ((with_reducible apply Keeps.set_mac); (case e => rfl))

theorem execRlyEthReceived_keeps (_port : Fin 2) (frame : EthFrame) (tagOk : Bool) (t : Nat) (s : State) : KeepsR 0xd072408100000000c000000000020002c00020000000004000000011547c00c17c0000000000000000000000000000000000002000000000000000000000000000000000000000000000000000000000000000001867000180800000000800000000000000000000000000000000000000000000000600000000000000000000000000000000000000000000000000000000000000000000000000000000000000000000000000000000000000000000000000000000000000000000000000000000000000000000000000000000000000000080 s (execRlyEthReceived _port frame tagOk t s) := by
  unfold execRlyEthReceived
  try dsimp only
  repeat' first
    | (with_reducible refine KeepsR.next ?_)
    | (with_reducible refine KeepsR.ite ?_ ?_)
    | with_reducible refine Keeps.ite ?_ ?_
    | with_reducible exact Keeps.refl
    | with_reducible assumption
    | ((with_reducible apply withTag_keeps); (case hMk => rfl))
    | ((with_reducible apply Keeps.inc); (case d => rfl); (case e => rfl))
    | ((with_reducible apply Keeps.at); (case e => rfl); (case e2 => rfl))
    | ((with_reducible apply egrPush_keeps); (case hMk => rfl))
    | ((with_reducible apply ethIngress_keeps); (case hMk => rfl))
    | intro _
    | split
    | dsimp only
    | (refine Keeps.snd ?_ (by with_reducible assumption))

theorem execLaneSyncChange_keeps (lane : Fin 2) (up : Bool) (errors : Nat) (t : Nat) (s : State) : KeepsR 0xd070008100000000000000000003800400002000c000002000000011d47c00c17c0000000000000000000000000000000000002000000000000000000000000000000000000000000000000000000000000000001867000180800000000800000000000000000000000000000000000000000000000000000000000000000000000000000000000000000000000000000000000000000000000000000000000000000000000000000000000000000000000000000000000000000000000000000000000000000000000000000000000000000080 s (execLaneSyncChange lane up errors t s) := by
  unfold execLaneSyncChange
  try dsimp only
  repeat' first
    | (with_reducible refine KeepsR.next ?_)
    | (with_reducible refine KeepsR.ite ?_ ?_)
    | with_reducible refine Keeps.ite ?_ ?_
    | with_reducible exact Keeps.refl
    | with_reducible assumption
    | ((with_reducible apply Keeps.addSat); (case d => rfl); (case e => rfl))
    | ((with_reducible apply Keeps.at); (case e => rfl); (case e2 => rfl))
    | ((with_reducible apply laneSet_keeps); (case hMk => rfl))
    | intro _
    | split
    | dsimp only
    | (refine Keeps.snd ?_ (by with_reducible assumption))

theorem execPairPeerKeyWrite_keeps (reg : Fin 10) (value : Word) (t : Nat) (s : State) : KeepsR 0xd07180a5000000000000000000024df00064a00010000080063e0011d47c00c17c0000000000000000000000000000000000002000000000000000000000000000000000000000000000000000000000000000001c670009e080000000080000000000000000000000000000000000000000000000000000000000000000000000300180000000000000000000000000000f00003c020060002000000074800000000000000000000000000000000000000000000000000000000000000000000000000000000000000000000000000000000080 s (execPairPeerKeyWrite reg value t s) := by
  unfold execPairPeerKeyWrite
  try dsimp only
  repeat' first
    | (with_reducible refine KeepsR.next ?_)
    | (with_reducible refine KeepsR.ite ?_ ?_)
    | with_reducible refine Keeps.ite ?_ ?_
    | with_reducible exact Keeps.refl
    | with_reducible assumption
    | ((with_reducible apply Keeps.wr); (case d => rfl); (case e => rfl))
    | ((with_reducible apply Keeps.at); (case e => rfl); (case e2 => rfl))
    | ((with_reducible apply ptkDerive_keeps); (case hMk => rfl))
    | ((with_reducible apply roleHold_keeps); (case hMk => rfl))
    | intro _
    | split
    | dsimp only
    | (refine Keeps.snd ?_ (by with_reducible assumption))

theorem execPairSwitchTick_keeps (t : Nat) (s : State) : KeepsR 0x1d071dfa5000000000000000000024d100064f0003800008886060011d47c00c17c0000000000000000000000000000000000002000000000000000000000000000000000000000000000000000000000000000001c670009e0800000000800000000000000000000000000000000000000000000000000000000000c0000700000320180000000000000000040000000000f00003c020060402000000074800000000000000000000000000000000000000800000000000000000000000000980000000010407800080084800080000070e04f80 s (execPairSwitchTick t s) := by
  unfold execPairSwitchTick
  try dsimp only
  repeat' first
    | (with_reducible refine KeepsR.next ?_)
    | (with_reducible refine KeepsR.ite ?_ ?_)
    | with_reducible refine Keeps.ite ?_ ?_
    | with_reducible exact Keeps.refl
    | with_reducible assumption
    | ((with_reducible apply Keeps.put); (case d => rfl); (case e => rfl))
    | ((with_reducible apply Keeps.inc); (case d => rfl); (case e => rfl))
    | ((with_reducible apply Keeps.at); (case e => rfl); (case e2 => rfl))
    | ((with_reducible apply fenceGo_keeps); (case hMk => rfl))
    | ((with_reducible apply flushDirty_keeps); (case hMk => rfl))
    | ((with_reducible apply linkSent_keeps); (case hMk => rfl))
    | ((with_reducible apply modMac_keeps); (case hMk => rfl))
    | ((with_reducible apply modPair_keeps); (case hMk => rfl))
    | ((with_reducible apply pairTrace_keeps); (case hMk => rfl))
    | ((with_reducible apply queuesRelease_keeps); (case hMk => rfl))
    | ((with_reducible apply raise_keeps); (case d => rfl); (case hMk => rfl); (case hMk2 => rfl))
    | ((with_reducible apply resRelease_keeps); (case hMk => rfl))
    | ((with_reducible apply setRole_keeps); (case hMk => rfl))
    | intro _
    | split
    | dsimp only
    | (refine Keeps.snd ?_ (by with_reducible assumption))

theorem execCfgCrcRecompute_keeps (t : Nat) (s : State) : KeepsR 0x8000000100000000000000000000000000000008000000000000000000000000000000000000000000000000000000000000000000000000000000000000000000000000000000000000000000000000000000000000000000000000000000000000000000000000000000000000000000000000000000000000000000000000000000000000000000000000000000000000000000000000000000000000000000000000000000000000000000000000000000000000000000000000000000000000000000000000000000000000000000000000 s (execCfgCrcRecompute t s) := by
  unfold execCfgCrcRecompute
  try dsimp only
  repeat' first
    | (with_reducible refine KeepsR.next ?_)
    | (with_reducible refine KeepsR.ite ?_ ?_)
    | with_reducible refine Keeps.ite ?_ ?_
    | with_reducible exact Keeps.refl
    | with_reducible assumption
    | ((with_reducible apply Keeps.wr); (case d => rfl); (case e => rfl))
    | ((with_reducible apply Keeps.at); (case e => rfl); (case e2 => rfl))
    | intro _
    | split
    | dsimp only
    | (refine Keeps.snd ?_ (by with_reducible assumption))

theorem execPairMirPeakRead_keeps (requester : Requester) (s : State) : KeepsR 0x800000000000000000000080000000000000000000000000000000000000000000000000000000000000000000000000000000000000000000000000000000000000000000000000000000000000000000000000000000000000000000000000000000000000000000000000000000000000000000000000000000000000000000000000000000000000000000000000000000000000000000000000000000000000000000000000000000000000000000000000000000000000000000000000000000000000000000000000000000000 s (execPairMirPeakRead requester s) := by
  unfold execPairMirPeakRead
  try dsimp only
  repeat' first
    | (with_reducible refine KeepsR.next ?_)
    | (with_reducible refine KeepsR.ite ?_ ?_)
    | with_reducible refine Keeps.ite ?_ ?_
    | with_reducible exact Keeps.refl
    | with_reducible assumption
    | ((with_reducible apply Keeps.wr); (case d => rfl); (case e => rfl))
    | ((with_reducible apply Keeps.answer); (case e => rfl))
    | intro _
    | split
    | dsimp only
    | (refine Keeps.snd ?_ (by with_reducible assumption))

theorem coreIrq_keeps {mk : Nat} {sIn : State} (n : Nat) (k : Nat) (s : State) (hMk : 0x2000000000000000000000000000000000000000000000000000000000000000000000000000000000000000000000000000000000000000000000000000000000000000000000000000000000000000000000000000000000000000000000000000000000000000000000000000000000000000000000000000000000000000000000000000000000000000000000000000000000000000000000000000000000 ||| mk = mk) (hIn : Keeps mk sIn s) : Keeps mk sIn (coreIrq n k s) := by
  refine Keeps.step hMk ?_ hIn
  unfold coreIrq
  try dsimp only
  repeat' first
    | with_reducible refine Keeps.ite ?_ ?_
    | with_reducible exact Keeps.refl
    | with_reducible assumption
    | ((with_reducible apply Keeps.wr); (case d => rfl); (case e => rfl))
    | intro _
    | split
    | dsimp only
    | (refine Keeps.snd ?_ (by with_reducible assumption))

theorem execPcrRun_keeps (core : Fin 8) (t : Nat) (s : State) : KeepsR 0x90000001000000000000000000000000000000000000000000000000000000000000000000000000000000000000000000000000400000000c0000000000000000000000000000000000000000000000000000000000000000000000000000000000000000000000000000000000000000000000000000000000000000000000000000000000000000000000000000000000000000000000000000000000000000000000000000000000000000000000000000000000000000000000000000000000000000000000000000000000000000000000 s (execPcrRun core t s) := by
  unfold execPcrRun
  try dsimp only
  repeat' first
    | (with_reducible refine KeepsR.next ?_)
    | (with_reducible refine KeepsR.ite ?_ ?_)
    | with_reducible refine Keeps.ite ?_ ?_
    | with_reducible exact Keeps.refl
    | with_reducible assumption
    | ((with_reducible apply Keeps.at); (case e => rfl); (case e2 => rfl))
    | ((with_reducible apply coreStart_keeps); (case hMk => rfl))
    | intro _
    | split
    | dsimp only
    | (refine Keeps.snd ?_ (by with_reducible assumption))

theorem drainStart_keeps {mk : Nat} {sIn : State} (n : Nat) (s : State) (hMk : 0x10000000000000000000000000000000000000000000000000000000000000000000000000000000000000000000000000000020400040000c0000000000000000000000000000000000000000000000000000000000000000000000000000000000000000000000000000000000000000000000000000000000000000000000000000000000000000000000000000000000000000000000000000000000000000000000000000000000000000000000000000000000000000000000000000000000000000000000000000000000000000000000 ||| mk = mk) (hIn : Keeps mk sIn s) : Keeps mk sIn (drainStart n s) := by
  refine Keeps.step hMk ?_ hIn
  unfold drainStart
  try dsimp only
  repeat' first
    | with_reducible refine Keeps.ite ?_ ?_
    | with_reducible exact Keeps.refl
    | with_reducible assumption
    | ((with_reducible apply Keeps.inc); (case d => rfl); (case e => rfl))
    | ((with_reducible apply coreGo_keeps); (case hMk => rfl))
    | ((with_reducible apply coreIrq_keeps); (case hMk => rfl))
    | ((with_reducible apply modPcr_keeps); (case hMk => rfl); (case hf => exact fun _ => ⟨rfl, rfl⟩))
    | intro _
    | split
    | dsimp only
    | (refine Keeps.snd ?_ (by with_reducible assumption))

theorem drainLast_keeps {mk : Nat} {sIn : State} (n : Nat) (s : State) (hMk : 0x200000000000000000000000000000000000000000000000000000000000000000000000000000000000000000000000000000000000000000000000000000000000000000000000000000000000000000000000000000000000000000000000000000000000000000000000000000000000000000000000000000000000000000000000000000000000000000000000000000000000000000000000000000000000 ||| mk = mk) (hIn : Keeps mk sIn s) : Keeps mk sIn (drainLast n s) := by
  refine Keeps.step hMk ?_ hIn
  unfold drainLast
  try dsimp only
  repeat' first
    | with_reducible refine Keeps.ite ?_ ?_
    | with_reducible exact Keeps.refl
    | with_reducible assumption
    | ((with_reducible apply Keeps.wr); (case d => rfl); (case e => rfl))
    | intro _
    | split
    | dsimp only
    | (refine Keeps.snd ?_ (by with_reducible assumption))

theorem drainForce_keeps {mk : Nat} {sIn : State} (n : Nat) (s : State) (hMk : 0x50100000000000000000000000000000000000000000000000000000000000000000000000000000000000000000000000002020c00080002c0000000000000000000000000000000000000000000000000000001867000180800000000800000000000000000000000000000000000000000000000000000000000000000000000000000000000000000000000000000000000000000000000000000000000000000000000000000000000000000000000000000000000000000000000000000000000000000000000000000000000000000000 ||| mk = mk) (hIn : Keeps mk sIn s) : Keeps mk sIn (drainForce n s) := by
  refine Keeps.step hMk ?_ hIn
  unfold drainForce
  try dsimp only
  repeat' first
    | with_reducible refine Keeps.ite ?_ ?_
    | with_reducible exact Keeps.refl
    | with_reducible assumption
    | ((with_reducible apply Keeps.put); (case d => rfl); (case e => rfl))
    | ((with_reducible apply Keeps.inc); (case d => rfl); (case e => rfl))
    | ((with_reducible apply coreGo_keeps); (case hMk => rfl))
    | ((with_reducible apply drainLast_keeps); (case hMk => rfl))
    | ((with_reducible apply raiseAt_keeps); (case d => rfl); (case hMk => rfl); (case hMk2 => rfl))
    | intro _
    | split
    | dsimp only
    | (refine Keeps.snd ?_ (by with_reducible assumption))

theorem coreHalt_keeps {mk : Nat} {sIn : State} (n : Nat) (s : State) (hMk : 0x50100000000000000000000000000000000000000000000000000000800000000000000000000000000000000000000000002021c00080002c0000000000000000000000000000000000000000000000000000001867000180800000000800000000000000000000000000000000000000000000000000000000000000000000000000000000000000000000000000000000000000000000000000000000000000000000000000000000000000000000000000000000000000000000000000000000000000000000000000000000000000000000 ||| mk = mk) (hIn : Keeps mk sIn s) : Keeps mk sIn (coreHalt n s) := by
  refine Keeps.step hMk ?_ hIn
  unfold coreHalt
  try dsimp only
  repeat' first
    | with_reducible refine Keeps.ite ?_ ?_
    | with_reducible exact Keeps.refl
    | with_reducible assumption
    | ((with_reducible apply Keeps.put); (case d => rfl); (case e => rfl))
    | ((with_reducible apply coreGo_keeps); (case hMk => rfl))
    | ((with_reducible apply drainForce_keeps); (case hMk => rfl))
    | ((with_reducible apply faultEnd_keeps); (case hMk => rfl))
    | intro _
    | split
    | dsimp only
    | (refine Keeps.snd ?_ (by with_reducible assumption))

theorem execPcrDrain_keeps (core : Fin 8) (t : Nat) (s : State) : KeepsR 0x90000001000000000000000000000000000000000000000000000000000000000000000000000000000000000000000000000020400040000c0000000000000000000000000000000000000000000000000000000000000000000000000000000000000000000000000000000000000000000000000000000000000000000000000000000000000000000000000000000000000000000000000000000000000000000000000000000000000000000000000000000000000000000000000000000000000000000000000000000000000000000000 s (execPcrDrain core t s) := by
  unfold execPcrDrain
  try dsimp only
  repeat' first
    | (with_reducible refine KeepsR.next ?_)
    | (with_reducible refine KeepsR.ite ?_ ?_)
    | with_reducible refine Keeps.ite ?_ ?_
    | with_reducible exact Keeps.refl
    | with_reducible assumption
    | ((with_reducible apply Keeps.at); (case e => rfl); (case e2 => rfl))
    | ((with_reducible apply drainStart_keeps); (case hMk => rfl))
    | ((with_reducible apply modPcr_keeps); (case hMk => rfl); (case hf => exact fun _ => ⟨rfl, rfl⟩))
    | intro _
    | split
    | dsimp only
    | (refine Keeps.snd ?_ (by with_reducible assumption))

theorem execPcrHalt_keeps (core : Fin 8) (t : Nat) (s : State) : KeepsR 0xd0100001000000000000000000000000000000000000000000000000800000000000000000000000000000000000000000002021c00080002c0000000000000000000000000000000000000000000000000000001867000180800000000800000000000000000000000000000000000000000000000000000000000000000000000000000000000000000000000000000000000000000000000000000000000000000000000000000000000000000000000000000000000000000000000000000000000000000000000000000000000000000000 s (execPcrHalt core t s) := by
  unfold execPcrHalt
  try dsimp only
  repeat' first
    | (with_reducible refine KeepsR.next ?_)
    | (with_reducible refine KeepsR.ite ?_ ?_)
    | with_reducible refine Keeps.ite ?_ ?_
    | with_reducible exact Keeps.refl
    | with_reducible assumption
    | ((with_reducible apply Keeps.at); (case e => rfl); (case e2 => rfl))
    | ((with_reducible apply coreHalt_keeps); (case hMk => rfl))
    | ((with_reducible apply modPcr_keeps); (case hMk => rfl); (case hf => exact fun _ => ⟨rfl, rfl⟩))
    | intro _
    | split
    | dsimp only
    | (refine Keeps.snd ?_ (by with_reducible assumption))

theorem execPcrDrainAck_keeps (core : Fin 8) (t : Nat) (s : State) : KeepsR 0xd0100001000000000000000000000000000000000000000000000000000000000000000000000000000000000000000000002020c00000001c0000000000000000000000000000000000000000000000000000001867000180800000000800000000000000000000000000000000000000000000000000000000000000000000000000000000000000000000000000000000000000000000000000000000000000000000000000000000000000000000000000000000000000000000000000000000000000000000000000000000000000000000 s (execPcrDrainAck core t s) := by
  unfold execPcrDrainAck
  try dsimp only
  repeat' first
    | (with_reducible refine KeepsR.next ?_)
    | (with_reducible refine KeepsR.ite ?_ ?_)
    | with_reducible refine Keeps.ite ?_ ?_
    | with_reducible exact Keeps.refl
    | with_reducible assumption
    | ((with_reducible apply Keeps.put); (case d => rfl); (case e => rfl))
    | ((with_reducible apply Keeps.at); (case e => rfl); (case e2 => rfl))
    | ((with_reducible apply coreGo_keeps); (case hMk => rfl))
    | ((with_reducible apply drainLast_keeps); (case hMk => rfl))
    | ((with_reducible apply raiseAt_keeps); (case d => rfl); (case hMk => rfl); (case hMk2 => rfl))
    | intro _
    | split
    | dsimp only
    | (refine Keeps.snd ?_ (by with_reducible assumption))

theorem execDrainTimeout_keeps (core : Fin 8) (t : Nat) (s : State) : KeepsR 0xd0100001000000000000000000000000000000000000000000000000000000000000000000000000000000000000000000002020c00080002c0000000000000000000000000000000000000000000000000000001867000180800000000800000000000000000000000000000000000000000000000000000000000000000000000000000000000000000000000000000000000000000000000000000000000000000000000000000000000000000000000000000000000000000000000000000000000000000000000000000000000000000000 s (execDrainTimeout core t s) := by
  unfold execDrainTimeout
  try dsimp only
  repeat' first
    | (with_reducible refine KeepsR.next ?_)
    | (with_reducible refine KeepsR.ite ?_ ?_)
    | with_reducible refine Keeps.ite ?_ ?_
    | with_reducible exact Keeps.refl
    | with_reducible assumption
    | ((with_reducible apply Keeps.at); (case e => rfl); (case e2 => rfl))
    | ((with_reducible apply drainForce_keeps); (case hMk => rfl))
    | intro _
    | split
    | dsimp only
    | (refine Keeps.snd ?_ (by with_reducible assumption))

theorem coreHang_keeps {mk : Nat} {sIn : State} (n : Nat) (mcause : Nat) (mepc : Nat) (s : State) (hMk : 0x50700080000000000000000000020000000020000000000000000011d47c00c17c000000000000000000000000000000000001a0400000004c0000000000000000000000000000000000000000000000000000001867000180800000000800000000000000000000000000000000000000000000000000000000000000000000000000000000000000000000000000000000000000000000000000000000000000000000000000000000000000000000000000000000000000000000000000000000000000000000000000000000000000000080 ||| mk = mk) (hIn : Keeps mk sIn s) : Keeps mk sIn (coreHang n mcause mepc s) := by
  refine Keeps.step hMk ?_ hIn
  unfold coreHang
  try dsimp only
  repeat' first
    | with_reducible refine Keeps.ite ?_ ?_
    | with_reducible exact Keeps.refl
    | with_reducible assumption
    | ((with_reducible apply Keeps.wr); (case d => rfl); (case e => rfl))
    | ((with_reducible apply coreGo_keeps); (case hMk => rfl))
    | ((with_reducible apply faultBegin_keeps); (case hMk => rfl))
    | ((with_reducible apply raiseAt_keeps); (case d => rfl); (case hMk => rfl); (case hMk2 => rfl))
    | intro _
    | split
    | dsimp only
    | (refine Keeps.snd ?_ (by with_reducible assumption))

theorem execWatchdogExpiry_keeps (core : Fin 8) (mcause : Nat) (mepc : Nat) (t : Nat) (s : State) : KeepsR 0xd0700081000000000000000000020000000020000000000000000011d47c00c17c000000000000000000000000000000000001a0400100004c0000000000000000000000000000000000000000000000000000001867000180800000000800000000000000000000000000000000000000000000000000000000000000000000000000000000000000000000000000000000000000000000000000000000000000000000000000000000000000000000000000000000000000000000000000000000000000000000000000000000000000000080 s (execWatchdogExpiry core mcause mepc t s) := by
  unfold execWatchdogExpiry
  try dsimp only
  repeat' first
    | (with_reducible refine KeepsR.next ?_)
    | (with_reducible refine KeepsR.ite ?_ ?_)
    | with_reducible refine Keeps.ite ?_ ?_
    | with_reducible exact Keeps.refl
    | with_reducible assumption
    | ((with_reducible apply Keeps.inc); (case d => rfl); (case e => rfl))
    | ((with_reducible apply Keeps.at); (case e => rfl); (case e2 => rfl))
    | ((with_reducible apply coreHang_keeps); (case hMk => rfl))
    | intro _
    | split
    | dsimp only
    | (refine Keeps.snd ?_ (by with_reducible assumption))

theorem execPcrHeartbeatWrite_keeps (core : Fin 8) (t : Nat) (s : State) : KeepsR 0x9000000100000000000000000000000000000000000000000000000000000000000000000000000000000000000000000000000000000000000000000000000000000000000000000000000000000000000000000000000000000000000000000000000000000000000000000000000000000000000000000000000000000000000000000000000000000000000000000000000000000000000000000000000000000000000000000000000000000000000000000000000000000000000000000000000000000000000000000000000000000000 s (execPcrHeartbeatWrite core t s) := by
  unfold execPcrHeartbeatWrite
  try dsimp only
  repeat' first
    | (with_reducible refine KeepsR.next ?_)
    | (with_reducible refine KeepsR.ite ?_ ?_)
    | with_reducible refine Keeps.ite ?_ ?_
    | with_reducible exact Keeps.refl
    | with_reducible assumption
    | ((with_reducible apply Keeps.at); (case e => rfl); (case e2 => rfl))
    | ((with_reducible apply coreBeat_keeps); (case hMk => rfl))
    | intro _
    | split
    | dsimp only
    | (refine Keeps.snd ?_ (by with_reducible assumption))

theorem execCoreTrap_keeps (core : Fin 8) (mcause : Nat) (mepc : Nat) (mtvec0 : Bool) (t : Nat) (s : State) : KeepsR 0xd0700081000000000000000000020000000020000000000000000011d47c00c17c000000000000000000000000000000000001a1400400024c0000000000000000000000000000000000000000000000000000001867000180800000000800000000000000000000000000000000000000000000000000000000000000000000000000000000000000000000000000000000000000000000000000000000000000000000000000000000000000000000000000000000000000000000000000000000000000000000000000000000000000000080 s (execCoreTrap core mcause mepc mtvec0 t s) := by
  unfold execCoreTrap
  try dsimp only
  repeat' first
    | (with_reducible refine KeepsR.next ?_)
    | (with_reducible refine KeepsR.ite ?_ ?_)
    | with_reducible refine Keeps.ite ?_ ?_
    | with_reducible exact Keeps.refl
    | with_reducible assumption
    | ((with_reducible apply Keeps.put); (case d => rfl); (case e => rfl))
    | ((with_reducible apply Keeps.inc); (case d => rfl); (case e => rfl))
    | ((with_reducible apply Keeps.at); (case e => rfl); (case e2 => rfl))
    | ((with_reducible apply coreHang_keeps); (case hMk => rfl))
    | ((with_reducible apply raiseAt_keeps); (case d => rfl); (case hMk => rfl); (case hMk2 => rfl))
    | intro _
    | split
    | dsimp only
    | (refine Keeps.snd ?_ (by with_reducible assumption))

theorem execPolicyStore_keeps (core : Fin 8) (ofs : Nat) (octets : List Nat) (t : Nat) (s : State) : KeepsR 0xd010000100000000000000000000000000000000000000000000000000000000000000000000000000000000000000000000002000020600800000000000000000000000000000000000000000000000000000001867000180800000000800000000000000000000000000000000000000000000000000000000000000000000000000000000000000000000000000000000000000000000000000000000000000000000000000000000000000000000000000000000000000000000000000000000000000000000000000000000000000000000 s (execPolicyStore core ofs octets t s) := by
  unfold execPolicyStore
  try dsimp only
  repeat' first
    | (with_reducible refine KeepsR.next ?_)
    | (with_reducible refine KeepsR.ite ?_ ?_)
    | with_reducible refine Keeps.ite ?_ ?_
    | with_reducible exact Keeps.refl
    | with_reducible assumption
    | ((with_reducible apply Keeps.wr); (case d => rfl); (case e => rfl))
    | ((with_reducible apply Keeps.inc); (case d => rfl); (case e => rfl))
    | ((with_reducible apply Keeps.at); (case e => rfl); (case e2 => rfl))
    | ((with_reducible apply modPcr_any); (case hf => exact fun p a b => ⟨Memory.writes_wf _ a, b⟩); (case hMk => rfl); (case hMk2 => rfl))
    | ((with_reducible apply raiseAt_keeps); (case d => rfl); (case hMk => rfl); (case hMk2 => rfl))
    | intro _
    | split
    | dsimp only
    | (refine Keeps.snd ?_ (by with_reducible assumption))

theorem execPcrIpiWrite_keeps (mask : Nat) (t : Nat) (s : State) : KeepsR 0x8000000100000000000000000000000000000000000000000000000000000000000000000000000000000000000000000000002000080000000000000000000000000000000000000000000000000000000000000000000000000000000000000000000000000000000000000000000000000000000000000000000000000000000000000000000000000000000000000000000000000000000000000000000000000000000000000000000000000000000000000000000000000000000000000000000000000000000000000000000000000000 s (execPcrIpiWrite mask t s) := by
  unfold execPcrIpiWrite
  try dsimp only
  repeat' first
    | (with_reducible refine KeepsR.next ?_)
    | (with_reducible refine KeepsR.ite ?_ ?_)
    | with_reducible refine Keeps.ite ?_ ?_
    | with_reducible exact Keeps.refl
    | with_reducible assumption
    | ((with_reducible apply Keeps.inc); (case d => rfl); (case e => rfl))
    | ((with_reducible apply Keeps.at); (case e => rfl); (case e2 => rfl))
    | (with_reducible refine Keeps.each _ _ ?_ ?_)
    | ((with_reducible apply coreIrq_keeps); (case hMk => rfl))
    | intro _
    | split
    | dsimp only
    | (refine Keeps.snd ?_ (by with_reducible assumption))

theorem execMboxInWrite_keeps (core : Fin 8) (word : Fin 8) (value : Word) (t : Nat) (s : State) : KeepsR 0x8000000100000000000000000000000000000000000000000000000000000000000000000000000000000000000000000001002000000000000000000000000000000000000000000000000000000000000000000000000000000000000000000000000000000000000000000000000000000000000000000000000000000000000000000000000000000000000000000000000000000000000000000000000000000000000000000000000000000000000000000000000000000000000000000000000000000000000000000000000000000000 s (execMboxInWrite core word value t s) := by
  unfold execMboxInWrite
  try dsimp only
  repeat' first
    | (with_reducible refine KeepsR.next ?_)
    | (with_reducible refine KeepsR.ite ?_ ?_)
    | with_reducible refine Keeps.ite ?_ ?_
    | with_reducible exact Keeps.refl
    | with_reducible assumption
    | ((with_reducible apply Keeps.wr); (case d => rfl); (case e => rfl))
    | ((with_reducible apply Keeps.at); (case e => rfl); (case e2 => rfl))
    | ((with_reducible apply coreIrq_keeps); (case hMk => rfl))
    | intro _
    | split
    | dsimp only
    | (refine Keeps.snd ?_ (by with_reducible assumption))

theorem execMboxOutWrite_keeps (core : Fin 8) (word : Fin 8) (value : Word) (requester : Requester) (t : Nat) (s : State) : KeepsR 0xd010000100000000000000000000000000000000000000000000000000000000000000000000000000000000000000000002002000100001000000000000000000000000000000000000000000000000000000001867000180800000000800000000000000000000000000000000000000000000000000000000000000000000000000000000000000000000000000000000000000000000000000000000000000000000000000000000000000000000000000000000000000000000000000000000000000000000000000000000000000000000 s (execMboxOutWrite core word value requester t s) := by
  unfold execMboxOutWrite
  try dsimp only
  repeat' first
    | (with_reducible refine KeepsR.next ?_)
    | (with_reducible refine KeepsR.ite ?_ ?_)
    | with_reducible refine Keeps.ite ?_ ?_
    | with_reducible exact Keeps.refl
    | with_reducible assumption
    | ((with_reducible apply Keeps.wr); (case d => rfl); (case e => rfl))
    | ((with_reducible apply Keeps.inc); (case d => rfl); (case e => rfl))
    | ((with_reducible apply Keeps.at); (case e => rfl); (case e2 => rfl))
    | ((with_reducible apply raiseAt_keeps); (case d => rfl); (case hMk => rfl); (case hMk2 => rfl))
    | intro _
    | split
    | dsimp only
    | (refine Keeps.snd ?_ (by with_reducible assumption))

theorem execPcrInstretLoRead_keeps (core : Fin 8) (requester : Requester) (s : State) : KeepsR 0xc00000000000000000000000000000000000000000000000000000000000000000000000000000000000000000000060000000000000000000000000000000000000000000000000000000000000000000000000000000000000000000000000000000000000000000000000000000000000000000000000000000000000000000000000000000000000000000000000000000000000000000000000000000000000000000000000000000000000000000000000000000000000000000000000000000000000000000000000000000000 s (execPcrInstretLoRead core requester s) := by
  unfold execPcrInstretLoRead
  try dsimp only
  repeat' first
    | (with_reducible refine KeepsR.next ?_)
    | (with_reducible refine KeepsR.ite ?_ ?_)
    | with_reducible refine Keeps.ite ?_ ?_
    | with_reducible exact Keeps.refl
    | with_reducible assumption
    | ((with_reducible apply Keeps.wrFree); (case d => rfl); (case e => rfl); (case e2 => rfl))
    | ((with_reducible apply Keeps.answer); (case e => rfl))
    | intro _
    | split
    | dsimp only
    | (refine Keeps.snd ?_ (by with_reducible assumption))

theorem execDebugHalt_keeps (core : Fin 8) (t : Nat) (s : State) : KeepsR 0x9000000100000000000000000000000000000000000000000000000000000000000000000000000000000000000000000000000000000000000000000000000000000000000000000000000000000000000000000000000000000000000000000000000000000000000000000000000000000000000000000000000000000000000000000000000000000000000000000000000000000000000000000000000000000000000000000000000000000000000000000000000000000000000000000000000000000000000000000000000000000000 s (execDebugHalt core t s) := by
  unfold execDebugHalt
  try dsimp only
  repeat' first
    | (with_reducible refine KeepsR.next ?_)
    | (with_reducible refine KeepsR.ite ?_ ?_)
    | with_reducible refine Keeps.ite ?_ ?_
    | with_reducible exact Keeps.refl
    | with_reducible assumption
    | ((with_reducible apply Keeps.at); (case e => rfl); (case e2 => rfl))
    | ((with_reducible apply modPcr_keeps); (case hMk => rfl); (case hf => exact fun _ => ⟨rfl, rfl⟩))
    | intro _
    | split
    | dsimp only
    | (refine Keeps.snd ?_ (by with_reducible assumption))

theorem execDebugResume_keeps (core : Fin 8) (t : Nat) (s : State) : KeepsR 0xd0100001000000000000000000000000000000000000000000000000800000000000000000000000000000000000000000002021c000c0002c0000000000000000000000000000000000000000000000000000001867000180800000000800000000000000000000000000000000000000000000000000000000000000000000000000000000000000000000000000000000000000000000000000000000000000000000000000000000000000000000000000000000000000000000000000000000000000000000000000000000000000000000 s (execDebugResume core t s) := by
  unfold execDebugResume
  try dsimp only
  repeat' first
    | (with_reducible refine KeepsR.next ?_)
    | (with_reducible refine KeepsR.ite ?_ ?_)
    | with_reducible refine Keeps.ite ?_ ?_
    | with_reducible exact Keeps.refl
    | with_reducible assumption
    | ((with_reducible apply Keeps.at); (case e => rfl); (case e2 => rfl))
    | (with_reducible refine Keeps.when _ _ ?_ ?_)
    | ((with_reducible apply coreBeat_keeps); (case hMk => rfl))
    | ((with_reducible apply coreHalt_keeps); (case hMk => rfl))
    | ((with_reducible apply drainStart_keeps); (case hMk => rfl))
    | ((with_reducible apply modPcr_keeps); (case hMk => rfl); (case hf => exact fun _ => ⟨rfl, rfl⟩))
    | intro _
    | split
    | dsimp only
    | (refine Keeps.snd ?_ (by with_reducible assumption))

theorem ethRxCount_keeps {mk : Nat} {sIn : State} (p : Nat) (f : EthFrame) (s : State) (hMk : 0x4000000000000000001fc000000000000000000000000000000000000000000000000000000000000000000000000000000000000000000000000000000000000000000000000000000000000000000000000000000000000000000000000000000000000000000000000000000000000000000000000000000000000000000000000000000000000000000000000000000000000000000000000000000000000000000000000000000000000000000000000000000000000000000000000000000000000000000000000000000000000000 ||| mk = mk) (hIn : Keeps mk sIn s) : Keeps mk sIn (ethRxCount p f s) := by
  refine Keeps.step hMk ?_ hIn
  unfold ethRxCount
  try dsimp only
  repeat' first
    | with_reducible refine Keeps.ite ?_ ?_
    | with_reducible exact Keeps.refl
    | with_reducible assumption
    | ((with_reducible apply Keeps.inc); (case d => rfl); (case e => rfl))
    | ((with_reducible apply Keeps.add); (case d => rfl); (case e => rfl))
    | (with_reducible refine Keeps.when _ _ ?_ ?_)
    | ((with_reducible apply modPort_keeps); (case hMk => rfl))
    | intro _
    | split
    | dsimp only
    | (refine Keeps.snd ?_ (by with_reducible assumption))

theorem ethPause_keeps {mk : Nat} {sIn : State} (p : Nat) (q : Nat) (s : State) (hMk : 0x400000000000000000200000000000000000000000000000000000000000000000000000000000000000000000000000000000000000000000000000000000000000000000000000000000000000000000000000000000000000000000000000000000000000000000000000000000000000000000000000000000000000000000000000000000000000000000000000000000000000000000000000000000000000000000000000000000000000000000000000000000000000000000000000000000000000000000000000000000000000 ||| mk = mk) (hIn : Keeps mk sIn s) : Keeps mk sIn (ethPause p q s) := by
  refine Keeps.step hMk ?_ hIn
  unfold ethPause
  try dsimp only
  repeat' first
    | with_reducible refine Keeps.ite ?_ ?_
    | with_reducible exact Keeps.refl
    | with_reducible assumption
    | ((with_reducible apply Keeps.inc); (case d => rfl); (case e => rfl))
    | ((with_reducible apply modPort_keeps); (case hMk => rfl))
    | intro _
    | split
    | dsimp only
    | (refine Keeps.snd ?_ (by with_reducible assumption))

theorem ethRole_keeps {mk : Nat} {sIn : State} (p : Nat) (f : EthFrame) (s : State) (hMk : 0x20004000000000000000000000010a0000000000000000000000000000000000000000000000000000000000000000000000000000000000000000000000000000000000000000000000000000000000000000000000000000000000000000000000000000000000000000000000000000000000000000000000000000000000000000000000000000000000000000000000000000000000000000000000000000000000000000000000000000000000000000000000000000000000000000000000000000000000000000000000000000000 ||| mk = mk) (hIn : Keeps mk sIn s) : Keeps mk sIn (ethRole p f s) := by
  refine Keeps.step hMk ?_ hIn
  unfold ethRole
  try dsimp only
  repeat' first
    | with_reducible refine Keeps.ite ?_ ?_
    | with_reducible exact Keeps.refl
    | with_reducible assumption
    | ((with_reducible apply ethIngress_keeps); (case hMk => rfl))
    | ((with_reducible apply relay_keeps); (case d => rfl); (case hMk => rfl); (case hMk2 => rfl))
    | intro _
    | split
    | dsimp only
    | (refine Keeps.snd ?_ (by with_reducible assumption))

theorem execEthFrameReceived_keeps (port : Fin 2) (frame : EthFrame) (room : Bool) (t : Nat) (s : State) : KeepsR 0xd072408500000000000037ffc0020010a00020000000000000000011547c00c17c0000000000000000000000000000000000002000000000000000000000000000000000000000000000000000000000000000001867000180800000000800000000000000000000000000000000000000000000000000000000000000000000000000000000000000000000000000000000000000000000000000000000000000000000000000000000000000000000000000000000000000000000000000000000000000000000000000000000000000000080 s (execEthFrameReceived port frame room t s) := by
  unfold execEthFrameReceived
  try dsimp only
  repeat' first
    | (with_reducible refine KeepsR.next ?_)
    | (with_reducible refine KeepsR.ite ?_ ?_)
    | with_reducible refine Keeps.ite ?_ ?_
    | with_reducible exact Keeps.refl
    | with_reducible assumption
    | ((with_reducible apply Keeps.inc); (case d => rfl); (case e => rfl))
    | ((with_reducible apply Keeps.at); (case e => rfl); (case e2 => rfl))
    | ((with_reducible apply ethPause_keeps); (case hMk => rfl))
    | ((with_reducible apply ethRole_keeps); (case hMk => rfl))
    | ((with_reducible apply ethRxCount_keeps); (case hMk => rfl))
    | ((with_reducible apply faultEvent_keeps); (case hMk => rfl))
    | intro _
    | split
    | dsimp only
    | (refine Keeps.snd ?_ (by with_reducible assumption))

theorem execEthLinkChange_keeps (port : Fin 2) (up : Bool) (speed : Fin 4) (t : Nat) (s : State) : KeepsR 0xd010400100000000200008000380000000000000000000000000000000000000000000000000000000000000000000000000002000000000000000000000000000000000000000000000000000000000000000000066000100000000000000000000000000000800000000000000000000000000000000000000000000000000000000000000000000000000000000000000000000000000000000000000000000000000000000000000000000000000000000000000000000000000000000000000000000000000000000000000000000000000 s (execEthLinkChange port up speed t s) := by
  unfold execEthLinkChange
  try dsimp only
  repeat' first
    | (with_reducible refine KeepsR.next ?_)
    | (with_reducible refine KeepsR.ite ?_ ?_)
    | with_reducible refine Keeps.ite ?_ ?_
    | with_reducible exact Keeps.refl
    | with_reducible assumption
    | ((with_reducible apply Keeps.wr); (case d => rfl); (case e => rfl))
    | ((with_reducible apply Keeps.put); (case d => rfl); (case e => rfl))
    | ((with_reducible apply Keeps.inc); (case d => rfl); (case e => rfl))
    | ((with_reducible apply Keeps.at); (case e => rfl); (case e2 => rfl))
    | (with_reducible refine Keeps.when _ _ ?_ ?_)
    | ((with_reducible apply ethDown_keeps); (case hMk => rfl))
    | ((with_reducible apply tsOkView_keeps); (case hMk => rfl))
    | intro _
    | split
    | dsimp only
    | (refine Keeps.snd ?_ (by with_reducible assumption))

theorem scanHold_keeps {mk : Nat} {sIn : State} (k : Nat) (s : State) (hMk : 0x7fefefff7ffffffffffffffffffffffffffffffffffffffffffffffffffffffffffffffffffffffffffffffffffffffffffffffffffffffffffffffffffffffffffffffffffffffffffffffffffffffffffffffffffffffffffffffffffffffffffffffffffffffffffffffffffffffffffffffffffffffffffffffffffffffffffffffffffffffffffffffffffffffffffffffffffffffffffffffffffffffffffffffffffffffffffffffffffffffffffffffffffffffffffffffffffffffffffffffffffffffffffffffffffffffffffffffff ||| mk = mk) (hIn : Keeps mk sIn s) : Keeps mk sIn (scanHold k s) := by
  refine Keeps.step hMk ?_ hIn
  unfold scanHold
  try dsimp only
  repeat' first
    | with_reducible refine Keeps.ite ?_ ?_
    | with_reducible exact Keeps.refl
    | with_reducible assumption
    | ((with_reducible apply Keeps.wr); (case d => rfl); (case e => rfl))
    | ((with_reducible apply Keeps.put); (case d => rfl); (case e => rfl))
    | ((with_reducible apply coreClear_keeps); (case hMk => rfl))
    | ((with_reducible apply fuseSense_keeps); (case hMk => rfl))
    | ((with_reducible apply latchView_keeps); (case hMk => rfl))
    | ((with_reducible apply modBoot_keeps); (case hMk => rfl))
    | ((with_reducible apply sleepAbandon_keeps); (case hMk => rfl))
    | intro _
    | split
    | dsimp only
    | (refine Keeps.snd ?_ (by with_reducible assumption))

theorem execJtagBypass_keeps (s : State) : KeepsR 0x200000000000000000000000000000000000000000000000000000000000000000000000000000000000000000000000000000000000000000000000000000000000000000000000000000000000000000000000000000000000000000000000000000000000000000000000000000000000000000000000000000000000000000000000000000000000000000000000000000000000000000000000000000000000000000000000000000000000000000000000000000000000000000000000000000000000000000000000000 s (execJtagBypass s) := by
  unfold execJtagBypass
  try dsimp only
  repeat' first
    | (with_reducible refine KeepsR.next ?_)
    | (with_reducible refine KeepsR.ite ?_ ?_)
    | with_reducible refine Keeps.ite ?_ ?_
    | with_reducible exact Keeps.refl
    | with_reducible assumption
    | ((with_reducible apply Keeps.wr); (case d => rfl); (case e => rfl))
    | intro _
    | split
    | dsimp only
    | (refine Keeps.snd ?_ (by with_reducible assumption))

theorem execJtagIdcode_keeps (s : State) : KeepsR 0x800000200000000000000000000000000000000000000000000000000000000000000000000000000000000000000000000000000000000000000000000000000000000000000000000000000000000000000000000000000000000000000000000000000000000000000000000000000000000000000000000000000000000000000000000000000000000000000000000000000000000000000000000000000000000000000000000000000000000000000000000000000000000000000000000000000000000000000000000000000 s (execJtagIdcode s) := by
  unfold execJtagIdcode
  try dsimp only
  repeat' first
    | (with_reducible refine KeepsR.next ?_)
    | (with_reducible refine KeepsR.ite ?_ ?_)
    | with_reducible refine Keeps.ite ?_ ?_
    | with_reducible exact Keeps.refl
    | with_reducible assumption
    | ((with_reducible apply Keeps.wr); (case d => rfl); (case e => rfl))
    | ((with_reducible apply Keeps.answer); (case e => rfl))
    | intro _
    | split
    | dsimp only
    | (refine Keeps.snd ?_ (by with_reducible assumption))

theorem execJtagSamplePreload_keeps (bits : List Word) (s : State) : KeepsR 0x4200000000000000000000000000000000000000000000000000000000000000000000000000000000000000000000000000000000000000000000000000000000000000000000000000000000000000000000000000000000000000000000000000000000000000000000000000000000000000000000000000000000000000000000000000000000000000000000000000000000000000000000000000000000000000000000000000000000000000000000000000000000000000000000000000000000000000000000000000 s (execJtagSamplePreload bits s) := by
  unfold execJtagSamplePreload
  try dsimp only
  repeat' first
    | (with_reducible refine KeepsR.next ?_)
    | (with_reducible refine KeepsR.ite ?_ ?_)
    | with_reducible refine Keeps.ite ?_ ?_
    | with_reducible exact Keeps.refl
    | with_reducible assumption
    | ((with_reducible apply Keeps.wr); (case d => rfl); (case e => rfl))
    | (with_reducible refine Keeps.each _ _ ?_ ?_)
    | intro _
    | split
    | dsimp only
    | (refine Keeps.snd ?_ (by with_reducible assumption))

theorem execJtagExtest_keeps (s : State) : KeepsR 0x7fefefff7ffffffffffffffffffffffffffffffffffffffffffffffffffffffffffffffffffffffffffffffffffffffffffffffffffffffffffffffffffffffffffffffffffffffffffffffffffffffffffffffffffffffffffffffffffffffffffffffffffffffffffffffffffffffffffffffffffffffffffffffffffffffffffffffffffffffffffffffffffffffffffffffffffffffffffffffffffffffffffffffffffffffffffffffffffffffffffffffffffffffffffffffffffffffffffffffffffffffffffffffffffffffffffffffff s (execJtagExtest s) := by
  unfold execJtagExtest
  try dsimp only
  repeat' first
    | (with_reducible refine KeepsR.next ?_)
    | (with_reducible refine KeepsR.ite ?_ ?_)
    | with_reducible refine Keeps.ite ?_ ?_
    | with_reducible exact Keeps.refl
    | with_reducible assumption
    | ((with_reducible apply scanHold_keeps); (case hMk => rfl))
    | intro _
    | split
    | dsimp only
    | (refine Keeps.snd ?_ (by with_reducible assumption))

theorem execJtagClamp_keeps (s : State) : KeepsR 0x7fefefff7ffffffffffffffffffffffffffffffffffffffffffffffffffffffffffffffffffffffffffffffffffffffffffffffffffffffffffffffffffffffffffffffffffffffffffffffffffffffffffffffffffffffffffffffffffffffffffffffffffffffffffffffffffffffffffffffffffffffffffffffffffffffffffffffffffffffffffffffffffffffffffffffffffffffffffffffffffffffffffffffffffffffffffffffffffffffffffffffffffffffffffffffffffffffffffffffffffffffffffffffffffffffffffffffff s (execJtagClamp s) := by
  unfold execJtagClamp
  try dsimp only
  repeat' first
    | (with_reducible refine KeepsR.next ?_)
    | (with_reducible refine KeepsR.ite ?_ ?_)
    | with_reducible refine Keeps.ite ?_ ?_
    | with_reducible exact Keeps.refl
    | with_reducible assumption
    | ((with_reducible apply scanHold_keeps); (case hMk => rfl))
    | intro _
    | split
    | dsimp only
    | (refine Keeps.snd ?_ (by with_reducible assumption))

theorem execJtagHighz_keeps (s : State) : KeepsR 0x7fefefff7ffffffffffffffffffffffffffffffffffffffffffffffffffffffffffffffffffffffffffffffffffffffffffffffffffffffffffffffffffffffffffffffffffffffffffffffffffffffffffffffffffffffffffffffffffffffffffffffffffffffffffffffffffffffffffffffffffffffffffffffffffffffffffffffffffffffffffffffffffffffffffffffffffffffffffffffffffffffffffffffffffffffffffffffffffffffffffffffffffffffffffffffffffffffffffffffffffffffffffffffffffffffffffffffff s (execJtagHighz s) := by
  unfold execJtagHighz
  try dsimp only
  repeat' first
    | (with_reducible refine KeepsR.next ?_)
    | (with_reducible refine KeepsR.ite ?_ ?_)
    | with_reducible refine Keeps.ite ?_ ?_
    | with_reducible exact Keeps.refl
    | with_reducible assumption
    | ((with_reducible apply scanHold_keeps); (case hMk => rfl))
    | intro _
    | split
    | dsimp only
    | (refine Keeps.snd ?_ (by with_reducible assumption))

theorem execPcieLinkUp_keeps (gen : Nat) (width : Nat) (t : Nat) (s : State) : KeepsR 0x8080000300000000000000000000000000000000000000000000000000000000016cc4000000600000000000000000000000000000000000000000000000000000000000000000000000000000000000000000000000000000000000000070000000000000000800000000000000000000000000008000000000000000000000000000000000000000000000000000000000000000000000000000000000000000000000000000000000000000000000000000000000000000000000000000000000000000000000000000000000000000000000 s (execPcieLinkUp gen width t s) := by
  unfold execPcieLinkUp
  try dsimp only
  repeat' first
    | (with_reducible refine KeepsR.next ?_)
    | (with_reducible refine KeepsR.ite ?_ ?_)
    | with_reducible refine Keeps.ite ?_ ?_
    | with_reducible exact Keeps.refl
    | with_reducible assumption
    | ((with_reducible apply Keeps.wr); (case d => rfl); (case e => rfl))
    | ((with_reducible apply Keeps.put); (case d => rfl); (case e => rfl))
    | ((with_reducible apply Keeps.at); (case e => rfl); (case e2 => rfl))
    | ((with_reducible apply islandToRef_keeps); (case hMk => rfl))
    | ((with_reducible apply refShow_keeps); (case hMk => rfl))
    | intro _
    | split
    | dsimp only
    | (refine Keeps.snd ?_ (by with_reducible assumption))

theorem fieldWrite_keeps {mk : Nat} {sIn : State} (n i v : Nat) (f : RegField) (s : State) (hMk : 0xffffffffffffffffffffffffffffffffffffffffffffffffffffffffffffffffffffffffffffffffffffffffffffffffffffffffffffffffffffffffffffffffffffffffffffffffffffffffffffffffffffffffffffffffffffffffffffffffffffffffffffffffffffffffffffffffffffffffffffffffffffffffffffffffffffffffffffffffffffffffffffffffffffffffffffffffffffffffffffffffffffffffffffffffffffffffffffffffffffffffffffffffffffffffffffffffffffffffffffffffffffffffffffffff ||| mk = mk) (hIn : Keeps mk sIn s) : Keeps mk sIn (fieldWrite n i v f s) := by
  unfold fieldWrite
  dsimp only
  repeat' first
    | with_reducible refine Keeps.ite ?_ ?_
    | with_reducible assumption
    | exact Keeps.wrAny _ _ hMk hIn
    | split

theorem radioSpecial_keeps {mk : Nat} {sIn : State} (a : Nat) (n : Nat) (i : Nat) (v : Nat) (s0 : State) (s : State) (hMk : 0x350100600000000000000000000000000000000000000000000000000000000000000000000000000000000000000000000000020000000000000000000000000000000000000000000000000000000000000000018670001808000000008000000000000000000000000000000000000000000000000000000000000000000000000000000000000000000000000000000000000000000004000000000000000000000000000000000000000000000000000000000000000000000000000809800280000124078000100040f8000800000000008 ||| mk = mk) (hIn : Keeps mk sIn s) : Keeps mk sIn (radioSpecial a n i v s0 s) := by
  refine Keeps.step hMk ?_ hIn
  unfold radioSpecial
  try dsimp only
  repeat' first
    | with_reducible refine Keeps.ite ?_ ?_
    | with_reducible exact Keeps.refl
    | with_reducible assumption
    | ((with_reducible apply Keeps.wr); (case d => rfl); (case e => rfl))
    | ((with_reducible apply Keeps.wrS); (case d => rfl); (case e => rfl))
    | (with_reducible refine Keeps.each _ _ ?_ ?_)
    | ((with_reducible apply blankWrite_keeps); (case hMk => rfl))
    | ((with_reducible apply replan_keeps); (case hMk => rfl))
    | intro _
    | split
    | dsimp only
    | (refine Keeps.snd ?_ (by with_reducible assumption))
    | ((with_reducible apply Keeps.set_specAt); (case e => rfl))

theorem macSpecial_keeps {mk : Nat} {sIn : State} (a : Nat) (n : Nat) (i : Nat) (v : Nat) (s0 : State) (s : State) (hMk : 0x50102000000000000000000000000000000000000000000000000000000000000000000000000000000000000000000000000020000000000000000000000000000000000000000000000000000000000000000018670001808000000008000000000000000000000000000000000000000000000000000000000000000000000000000000000000000000000000000000000038000000000001e0000000032052807000000060000000000004000200000400000000000000402000000000000000000000000000000000000000000000000000 ||| mk = mk) (hIn : Keeps mk sIn s) : Keeps mk sIn (macSpecial a n i v s0 s) := by
  refine Keeps.step hMk ?_ hIn
  unfold macSpecial
  try dsimp only
  repeat' first
    | with_reducible refine Keeps.ite ?_ ?_
    | with_reducible exact Keeps.refl
    | with_reducible assumption
    | ((with_reducible apply Keeps.wr); (case d => rfl); (case e => rfl))
    | ((with_reducible apply Keeps.put); (case d => rfl); (case e => rfl))
    | ((with_reducible apply budgetView_keeps); (case hMk => rfl))
    | ((with_reducible apply cellsView_keeps); (case hMk => rfl))
    | ((with_reducible apply laneView_keeps); (case hMk => rfl))
    | ((with_reducible apply rateView_keeps); (case hMk => rfl))
    | intro _
    | split
    | dsimp only
    | (refine Keeps.snd ?_ (by with_reducible assumption))

theorem queueSpecial_keeps {mk : Nat} {sIn : State} (a : Nat) (n : Nat) (i : Nat) (v : Nat) (s0 : State) (s : State) (hMk : 0x50004000000000000000000000000000000000000000000000000000000000000000000000000000000000000000000000000000000000000000000000000000000000000000000000000000000000000000000000000000000000000000000000000000000000000000000000000000000000000000000c0000000300080080000c00008000180000000000000030000000000000000000000000000000000000000000000000000000000000000000000000000000000000000000000000000000000000000000000000000000000000000000 ||| mk = mk) (hIn : Keeps mk sIn s) : Keeps mk sIn (queueSpecial a n i v s0 s) := by
  refine Keeps.step hMk ?_ hIn
  unfold queueSpecial
  try dsimp only
  repeat' first
    | with_reducible refine Keeps.ite ?_ ?_
    | with_reducible exact Keeps.refl
    | with_reducible assumption
    | ((with_reducible apply Keeps.wr); (case d => rfl); (case e => rfl))
    | ((with_reducible apply Keeps.put); (case d => rfl); (case e => rfl))
    | ((with_reducible apply gateView_keeps); (case hMk => rfl))
    | ((with_reducible apply regionsLeave_keeps); (case hMk => rfl))
    | intro _
    | split
    | dsimp only
    | (refine Keeps.snd ?_ (by with_reducible assumption))

theorem pulseSpecial_keeps {mk : Nat} {sIn : State} (a : Nat) (n : Nat) (v : Nat) (s0 : State) (s : State) (hMk : 0x3e0000000000000000000000000000000000000000000000000000000000000000000000000000000000000000000000000000000000000000000000000000000000000000000000000000000000000000000000000000000000000000000000000000000000000000000000000000000000000 ||| mk = mk) (hIn : Keeps mk sIn s) : Keeps mk sIn (pulseSpecial a n v s0 s) := by
  refine Keeps.step hMk ?_ hIn
  unfold pulseSpecial
  try dsimp only
  repeat' first
    | with_reducible refine Keeps.ite ?_ ?_
    | with_reducible exact Keeps.refl
    | with_reducible assumption
    | ((with_reducible apply Keeps.wr); (case d => rfl); (case e => rfl))
    | intro _
    | split
    | dsimp only
    | (refine Keeps.snd ?_ (by with_reducible assumption))

theorem tsuSpecial_keeps {mk : Nat} {sIn : State} (a : Nat) (n : Nat) (v : Nat) (s0 : State) (s : State) (hMk : 0x800000000000000000000000000000000000000000000000000000000000000000000000000000000000000000000000000000000000000000000000000000000000000000000000000000000000000000000000000000000000000000000013e0000000000020000000000003e00010000040000000000000000000000000000000000000000000000000000000000000000000000000000000000000000000000000000000000000000000000000000000000000000000000000000000000000000000000000000000000000000000000000 ||| mk = mk) (hIn : Keeps mk sIn s) : Keeps mk sIn (tsuSpecial a n v s0 s) := by
  refine Keeps.step hMk ?_ hIn
  unfold tsuSpecial
  try dsimp only
  repeat' first
    | with_reducible refine Keeps.ite ?_ ?_
    | with_reducible exact Keeps.refl
    | with_reducible assumption
    | ((with_reducible apply Keeps.wr); (case d => rfl); (case e => rfl))
    | ((with_reducible apply Keeps.put); (case d => rfl); (case e => rfl))
    | ((with_reducible apply Keeps.wrS); (case d => rfl); (case e => rfl))
    | ((with_reducible apply pulseSpecial_keeps); (case hMk => rfl))
    | intro _
    | split
    | dsimp only
    | (refine Keeps.snd ?_ (by with_reducible assumption))
    | ((with_reducible apply Keeps.set_tsu); (case e => rfl))
    | ((with_reducible apply Keeps.set_tsu); (case e => rfl))

theorem hifSpecial_keeps {mk : Nat} {sIn : State} (a : Nat) (n : Nat) (v : Nat) (s0 : State) (s : State) (hMk : 0x501000000000000000000000000000000000000000000000000000000000000000000000000000000000000000000000000000200000000000000000000000000000000000000000000000000000000000000000186711b180000000000004000000000000000000000000000000000000000000000000000000000000000000000000000000000000000000000000000000000000000000000000000000000000000000000000000000000000000000000000000000000000000000000000000000000000000000000000000000000000000000 ||| mk = mk) (hIn : Keeps mk sIn s) : Keeps mk sIn (hifSpecial a n v s0 s) := by
  refine Keeps.step hMk ?_ hIn
  unfold hifSpecial
  try dsimp only
  repeat' first
    | with_reducible refine Keeps.ite ?_ ?_
    | with_reducible exact Keeps.refl
    | with_reducible assumption
    | ((with_reducible apply Keeps.wr); (case d => rfl); (case e => rfl))
    | ((with_reducible apply eventsFlow_keeps); (case hMk => rfl))
    | intro _
    | split
    | dsimp only
    | (refine Keeps.snd ?_ (by with_reducible assumption))

theorem sysSpecial_keeps {mk : Nat} {sIn : State} (a : Nat) (n : Nat) (i : Nat) (v : Nat) (s0 : State) (s : State) (hMk : 0x507000800000000000000000000a0000000020000010000000000053d47c00c17c42000000000000800000c0000000000000006000600000000100000000000000000000000000000068000000020000000000001867000180800000000800000000000000000000000000000000000000000000000000000000000000000000000000000000000000000000000000000000000000000000000000000000000000000000000000000000000000000000000000000000000000000000000000000000000000000000000000000000000000000080 ||| mk = mk) (hIn : Keeps mk sIn s) : Keeps mk sIn (sysSpecial a n i v s0 s) := by
  refine Keeps.step hMk ?_ hIn
  unfold sysSpecial
  try dsimp only
  repeat' first
    | with_reducible refine Keeps.ite ?_ ?_
    | with_reducible exact Keeps.refl
    | with_reducible assumption
    | ((with_reducible apply Keeps.wr); (case d => rfl); (case e => rfl))
    | ((with_reducible apply Keeps.put); (case d => rfl); (case e => rfl))
    | ((with_reducible apply hbClamp_keeps); (case hMk => rfl))
    | ((with_reducible apply islandKhz_keeps); (case hMk => rfl))
    | ((with_reducible apply linkFaults_keeps); (case hMk => rfl))
    | ((with_reducible apply pinView_keeps); (case hMk => rfl))
    | intro _
    | split
    | dsimp only
    | (refine Keeps.snd ?_ (by with_reducible assumption))

theorem ownersView_keeps {mk : Nat} {sIn : State} (s : State) (hMk : 0x800000000000000000000000000000000000000000000000000000000000000000000000000000000000000000000000000000000000000000000000000000000000000000000000000000000000000000000000000000000000000000000000000000000000000000000000000000000000000000000000000000000000000000000000000000000000000000000000000000000000000000000000000 ||| mk = mk) (hIn : Keeps mk sIn s) : Keeps mk sIn (ownersView s) := by
  refine Keeps.step hMk ?_ hIn
  unfold ownersView
  try dsimp only
  repeat' first
    | with_reducible refine Keeps.ite ?_ ?_
    | with_reducible exact Keeps.refl
    | with_reducible assumption
    | ((with_reducible apply Keeps.wr); (case d => rfl); (case e => rfl))
    | intro _
    | split
    | dsimp only
    | (refine Keeps.snd ?_ (by with_reducible assumption))

theorem rowWrite_keeps {mk : Nat} {sIn : State} (r : RegRow) (n : Nat) (i : Nat) (v : Nat) (s0 : State) (hMk : 0x350f06680ffffffffffffffffffffffffffffffffffffffffffffffffffffffffffffffffffffffffffffffffffffffffffffffffffffffffffffffffffffffffffffffffffffffffffffffffffffffffffffffffffffffffffffffffffffffffffffffffffffffffffffffffffffffffffffffffffffffffffffffffffffffffffffffffffffffffffffffffffffffffffffffffffffffffffffffffffffffffffffffffffffffffffffffffffffffffffffffffffffffffffffffffffffffffffffffffffffffffffffffffffffffffffffffff ||| mk = mk) (hIn : Keeps mk sIn s0) : Keeps mk sIn (rowWrite r n i v s0) := by
  refine Keeps.step hMk ?_ hIn
  unfold rowWrite
  try dsimp only
  repeat' first
    | with_reducible refine Keeps.ite ?_ ?_
    | with_reducible exact Keeps.refl
    | with_reducible assumption
    | ((with_reducible apply Keeps.put); (case d => rfl); (case e => rfl))
    | (with_reducible refine Keeps.each _ _ ?_ ?_)
    | ((with_reducible apply fieldWrite_keeps); (case hMk => rfl))
    | ((with_reducible apply hifSpecial_keeps); (case hMk => rfl))
    | ((with_reducible apply macSpecial_keeps); (case hMk => rfl))
    | ((with_reducible apply ownersView_keeps); (case hMk => rfl))
    | ((with_reducible apply queueSpecial_keeps); (case hMk => rfl))
    | ((with_reducible apply radioSpecial_keeps); (case hMk => rfl))
    | ((with_reducible apply sysSpecial_keeps); (case hMk => rfl))
    | ((with_reducible apply tsuSpecial_keeps); (case hMk => rfl))
    | intro _
    | split
    | dsimp only
    | (refine Keeps.snd ?_ (by with_reducible assumption))

theorem urPut_keeps {mk : Nat} {sIn : State} (q : Requester) (b : Bool) (s : State) (hMk : 0x10000000000000000000000000000000000000000000000000000000000000000000000000000000000000000000000000000000000000000000000000000000000000000000000000000000000000000000000000000000000000000000000000000000000000000000000000000000000000000000000000000000000000000000000000000000000000000000000000000000000000000000000000000000000000000000000000000000000000000000000000000000000000000000000000000000000000000000000000000000000000 ||| mk = mk) (hIn : Keeps mk sIn s) : Keeps mk sIn (urPut q b s) := by
  refine Keeps.step hMk ?_ hIn
  unfold urPut
  try dsimp only
  repeat' first
    | with_reducible refine Keeps.ite ?_ ?_
    | with_reducible exact Keeps.refl
    | with_reducible assumption
    | intro _
    | split
    | dsimp only
    | (refine Keeps.snd ?_ (by with_reducible assumption))
    | ((with_reducible apply Keeps.set_hif); (case e => rfl))

theorem execRegisterWrite_keeps (addr : Nat) (size : Nat) (value : Word) (requester : Requester) (t : Nat) (s : State) : KeepsR 0x3d0f06781ffffffffffffffffffffffffffffffffffffffffffffffffffffffffffffffffffffffffffffffffffffffffffffffffffffffffffffffffffffffffffffffffffffffffffffffffffffffffffffffffffffffffffffffffffffffffffffffffffffffffffffffffffffffffffffffffffffffffffffffffffffffffffffffffffffffffffffffffffffffffffffffffffffffffffffffffffffffffffffffffffffffffffffffffffffffffffffffffffffffffffffffffffffffffffffffffffffffffffffffffffffffffffffffff s (execRegisterWrite addr size value requester t s) := by
  unfold execRegisterWrite
  try dsimp only
  repeat' first
    | (with_reducible refine KeepsR.next ?_)
    | (with_reducible refine KeepsR.ite ?_ ?_)
    | with_reducible refine Keeps.ite ?_ ?_
    | with_reducible exact Keeps.refl
    | with_reducible assumption
    | ((with_reducible apply State.air_keeps); (case hMk => rfl))
    | ((with_reducible apply rowWrite_keeps); (case hMk => rfl))
    | ((with_reducible apply urPut_keeps); (case hMk => rfl))
    | intro _
    | split
    | dsimp only
    | (refine Keeps.snd ?_ (by with_reducible assumption))

theorem execSysCfgLockWrite_keeps (value : Word) (t : Nat) (s : State) : KeepsR 0x8000000100000000000000000000000000000000000000000000000000000000000000000000000000000000000000000000000000000000000000000000000000008000000000000000000000000000000000000000000000000000000000000000000000000000000000000000000000000000000000000000000000000000000000000000000000000000000000000000000000000000000000000000000000000000000000000000000000000000000000000000000000000000000000000000000000000000000000000000000000000000 s (execSysCfgLockWrite value t s) := by
  unfold execSysCfgLockWrite
  try dsimp only
  repeat' first
    | (with_reducible refine KeepsR.next ?_)
    | (with_reducible refine KeepsR.ite ?_ ?_)
    | with_reducible refine Keeps.ite ?_ ?_
    | with_reducible exact Keeps.refl
    | with_reducible assumption
    | ((with_reducible apply Keeps.put); (case d => rfl); (case e => rfl))
    | ((with_reducible apply Keeps.at); (case e => rfl); (case e2 => rfl))
    | intro _
    | split
    | dsimp only
    | (refine Keeps.snd ?_ (by with_reducible assumption))

theorem rcClear_keeps {mk : Nat} {sIn : State} (r : RegRow) (n i : Nat) (s : State) (hMk : 0xffffffffffffffffffffffffffffffffffffffffffffffffffffffffffffffffffffffffffffffffffffffffffffffffffffffffffffffffffffffffffffffffffffffffffffffffffffffffffffffffffffffffffffffffffffffffffffffffffffffffffffffffffffffffffffffffffffffffffffffffffffffffffffffffffffffffffffffffffffffffffffffffffffffffffffffffffffffffffffffffffffffffffffffffffffffffffffffffffffffffffffffffffffffffffffffffffffffffffffffffffffffffffffffff ||| mk = mk) (hIn : Keeps mk sIn s) : Keeps mk sIn (rcClear r n i s) := by
  unfold rcClear
  refine Keeps.each _ _ (fun f x h => ?_) hIn
  split
  · exact Keeps.wrAny _ _ hMk h
  · exact h

theorem execHostMailboxRead_keeps (addr : Nat) (size : Nat) (requester : Requester) (t : Nat) (s : State) : KeepsR 0xd0100189ffffffffffffffffffffffffffffffffffffffffffffffffffffffffffffffffffffffffffffffffffffffffffffffffffffffffffffffffffffffffffffffffffffffffffffffffffffffffffffffffffffffffffffffffffffffffffffffffffffffffffffffffffffffffffffffffffffffffffffffffffffffffffffffffffffffffffffffffffffffffffffffffffffffffffffffffffffffffffffffffffffffffffffffffffffffffffffffffffffffffffffffffffffffffffffffffffffffffffffffffffffffffffffffff s (execHostMailboxRead addr size requester t s) := by
  unfold execHostMailboxRead
  try dsimp only
  repeat' first
    | (with_reducible refine KeepsR.next ?_)
    | (with_reducible refine KeepsR.ite ?_ ?_)
    | with_reducible refine Keeps.ite ?_ ?_
    | with_reducible exact Keeps.refl
    | with_reducible assumption
    | ((with_reducible apply Keeps.answer); (case e => rfl))
    | (with_reducible refine Keeps.each _ _ ?_ ?_)
    | ((with_reducible apply State.air_keeps); (case hMk => rfl))
    | ((with_reducible apply airCount_keeps); (case hMk => rfl))
    | ((with_reducible apply rcClear_keeps); (case hMk => rfl))
    | ((with_reducible apply urPut_keeps); (case hMk => rfl))
    | intro _
    | split
    | dsimp only
    | (refine Keeps.snd ?_ (by with_reducible assumption))

theorem execMailboxStallExpiry_keeps (addr : Nat) (t : Nat) (s : State) : KeepsR 0xd010000900000000000000000000000000000000000000000000000000000000000000000000000000000000000000000000002000000000000000000000000000000000000000000000000000000000000000001867000180900000001800000000000000000000000000000000000000000000000000000000000000000000000000000000000000000000000000000000000000000000000000000000000000000000000000000000000000000000000000000000000000000000000000000000000000000000000000000000000000000000 s (execMailboxStallExpiry addr t s) := by
  unfold execMailboxStallExpiry
  try dsimp only
  repeat' first
    | (with_reducible refine KeepsR.next ?_)
    | (with_reducible refine KeepsR.ite ?_ ?_)
    | with_reducible refine Keeps.ite ?_ ?_
    | with_reducible exact Keeps.refl
    | with_reducible assumption
    | ((with_reducible apply Keeps.inc); (case d => rfl); (case e => rfl))
    | ((with_reducible apply Keeps.at); (case e => rfl); (case e2 => rfl))
    | ((with_reducible apply Keeps.answer); (case e => rfl))
    | ((with_reducible apply raise_keeps); (case d => rfl); (case hMk => rfl); (case hMk2 => rfl))
    | intro _
    | split
    | dsimp only
    | (refine Keeps.snd ?_ (by with_reducible assumption))

theorem execMailboxLateAnswer_keeps (_addr : Nat) (t : Nat) (s : State) : KeepsR 0x8000000100000000000000000000000000000000000000000000000000000000000000000000000000000000000000000000000000000000000000000000000000000000000000000000000000000000000000000000000000000000000000000000000000000000000000000000000000000000000000000000000000000000000000000000000000000000000000000000000000000000000000000000000000000000000000000000000000000000000000000000000000000000000000000000000000000000000000000000000000000000 s (execMailboxLateAnswer _addr t s) := by
  unfold execMailboxLateAnswer
  try dsimp only
  repeat' first
    | (with_reducible refine KeepsR.next ?_)
    | (with_reducible refine KeepsR.ite ?_ ?_)
    | with_reducible refine Keeps.ite ?_ ?_
    | with_reducible exact Keeps.refl
    | with_reducible assumption
    | ((with_reducible apply Keeps.at); (case e => rfl); (case e2 => rfl))
    | intro _
    | split
    | dsimp only
    | (refine Keeps.snd ?_ (by with_reducible assumption))

end Sys2Proof.Machine
end

