-- ==== Sys2Proof/Laws/Place.lean ====
section
/-!
SUPPORT. The time of a placement check (R130) is open, and no placement rests on it.
-/

namespace Sys2Proof.Machine

/-- A check changes its two registers and the free counter; no placement reads them. -/
theorem checkTime_rd (s : State) (f : Fld) (h : (f.id == 367 || f.id == 368) = false) : (checkTime s).rd f = s.rd f := by
  have a := Bool.or_eq_false_iff.1 h
  exact (State.rd_wr_ne _ _ a.2).trans (State.rd_wr_ne s _ a.1)

theorem inWindow_checkTime (s : State) (n p c : Nat) : inWindow (checkTime s) n p c = inWindow s n p c := by
  have r := fun f h => checkTime_rd s f h
  have w : windowOf (checkTime s) n = windowOf s n := by
    unfold windowOf centreOf
    rw [r _ rfl]
    rfl
  have g : chanCentre (checkTime s) p c = chanCentre s p c := by
    unfold chanCentre
    rw [r (CHZ_PLAN_F0.F0_KHZ p) rfl, r (CHZ_PLAN_GEO.SPACING p) rfl]
  unfold inWindow
  rw [w, g, r (CHZ_PLAN_GEO.SPACING p) rfl]

theorem outOfSpan_checkTime (s : State) (f n : Nat) : outOfSpan (checkTime s) f n = outOfSpan s f n := by
  have r := fun f h => checkTime_rd s f h
  have e : hsEntry (checkTime s) = hsEntry s := rfl
  have a : ∀ h, (checkTime s).rd (MAC_HS_LEN.ACTIVE h) = s.rd (MAC_HS_LEN.ACTIVE h) := fun _ => r _ rfl
  unfold outOfSpan
  simp only [r (SRC_SF_CFG.HS f) rfl, a, e, inWindow_checkTime]

theorem conflictAt_checkTime (s : State) (f o : Nat) (c : Cell) (l : List Nat) (i : Nat) (q : Cell) : conflictAt (checkTime s) f o c l i q = conflictAt s f o c l i q := by
  have r := fun f h => checkTime_rd s f h
  have a : ∀ f, (checkTime s).rd (SRC_SF_GEOM.LEN f) = s.rd (SRC_SF_GEOM.LEN f) := fun _ => r _ rfl
  have b : ∀ f, (checkTime s).rd (SRC_SF_GEOM.WIDTH f) = s.rd (SRC_SF_GEOM.WIDTH f) := fun _ => r _ rfl
  have d : ∀ f, (checkTime s).rd (SRC_SF_BASE.BASE f) = s.rd (SRC_SF_BASE.BASE f) := fun _ => r _ rfl
  have e : ∀ f, (checkTime s).rd (SRC_SF_CFG.HS f) = s.rd (SRC_SF_CFG.HS f) := fun _ => r _ rfl
  have g : ∀ f, (checkTime s).rd (SRC_SF_CFG.OWNER f) = s.rd (SRC_SF_CFG.OWNER f) := fun _ => r _ rfl
  have h : ∀ f, (checkTime s).rd (MAC_HS_LEN.ACTIVE f) = s.rd (MAC_HS_LEN.ACTIVE f) := fun _ => r _ rfl
  have k : ∀ f, (checkTime s).rd (RFE_BLANK.MASK f) = s.rd (RFE_BLANK.MASK f) := fun _ => r _ rfl
  have w : ∀ f2 o2, conflictWhy (checkTime s) f o c f2 o2 q = conflictWhy s f o c f2 o2 q := by
    intro f2 o2
    unfold conflictWhy blanks
    rw [a, a, e, e, g, g, k, k, h]
  unfold conflictAt inPartition offsetOf
  simp only [a, b, d, w]

theorem tryPlace_checkTime (s : State) (f o : Nat) (c : Cell) (skip : Option Nat) : tryPlace (checkTime s) f o c skip = tryPlace s f o c skip := by
  have r := fun f h => checkTime_rd s f h
  have a : (checkTime s).rd (SRC_SF_GEOM.LEN f) = s.rd (SRC_SF_GEOM.LEN f) := r _ rfl
  have b : (checkTime s).rd (SRC_SF_GEOM.WIDTH f) = s.rd (SRC_SF_GEOM.WIDTH f) := r _ rfl
  have d : (checkTime s).rd (SRC_SF_BASE.BASE f) = s.rd (SRC_SF_BASE.BASE f) := r _ rfl
  have e : sfsEn (checkTime s) = sfsEn s := by
    have x : ∀ f, (checkTime s).rd (SRC_SF_CFG.EN f) = s.rd (SRC_SF_CFG.EN f) := fun _ => r _ rfl
    unfold sfsEn State.flag
    simp only [x]
  have p : planCells (checkTime s) = planCells s := rfl
  unfold tryPlace freeEntry placeWhy slotEntry
  simp only [a, b, d, e, p, outOfSpan_checkTime, conflictAt_checkTime]

theorem searchFirst_checkTime (s : State) (ofs : List Nat) (ok : Nat → Cell → Bool) (c : Cell) (skip : Option Nat) (l : List (Nat × Nat)) :
    searchFirst (checkTime s) ofs ok c skip l = searchFirst s ofs ok c skip l := by
  induction l with
  | nil => rfl
  | cons p l h => unfold searchFirst; simp only [tryPlace_checkTime, h]

theorem searchPlaces_checkTime (s : State) (l : List Nat) (start : Nat → Nat) : searchPlaces (checkTime s) l start = searchPlaces s l start := by
  have r := fun f h => checkTime_rd s f h
  have a : ∀ f, (checkTime s).rd (SRC_SF_GEOM.LEN f) = s.rd (SRC_SF_GEOM.LEN f) := fun _ => r _ rfl
  unfold searchPlaces
  simp only [a, r SRC_ADAPT_CFG.SCAN_MAX rfl]

end Sys2Proof.Machine
end

