-- ==== Sys2Proof/WellFormed.lean ====
section
/-!
DEFINITION. Well-formed commands: every number a command carries fits the field, descriptor word or clock that it comes from. A meaning does
not rest on it: a command that is not well formed cannot reach the block, and is not shut out.
-/

namespace Sys2Proof

/-- `v` fits `w` bits. -/
def fits (w v : Nat) : Bool := v < 2 ^ w

/-- `i` fits `w` bits in two's complement. -/
def fitsS (w : Nat) (i : Int) : Bool := -(2 : Int) ^ (w - 1) ≤ i && i < (2 : Int) ^ (w - 1)

/-- Every number of `l` fits `w` bits. -/
def fitsAll (w : Nat) (l : List Nat) : Bool := l.all (fits w)

/-- Every number of `l` fits `w` bits in two's complement. -/
def fitsAllS (w : Nat) (l : List Int) : Bool := l.all (fitsS w)

/-- `l` has at most `n` words. -/
def shortList (n : Nat) (l : List Word) : Bool := l.length ≤ n

/-- TAG, address and DATA_LEN of a command descriptor (R288). -/
def headFits (h : CmdHead) : Bool := fits 16 h.tag && fits 64 h.addr && fits 16 h.len

/-- A command is well formed. `t` is a reading of RC, which has 64 bits (R245); `tag` the 16-bit TAG of a command descriptor (R288); `addr`
an offset in the 2 MiB of BAR0 (R268, R269). -/
def Instr.wf (i : Instr) : Bool :=
  match i with
  | .registerWrite addr size _ _ t => fits 21 addr && fits 13 size && fits 64 t
  | .sysCfgLockWrite _ t => fits 64 t
  | .hostMailboxRead addr size _ t => fits 21 addr && fits 13 size && fits 64 t
  | .mailboxStallExpiry addr t => fits 21 addr && fits 64 t
  | .mailboxLateAnswer addr t => fits 21 addr && fits 64 t
  | .fabricStallRelease _ idx t => fits 32 idx && fits 64 t
  | .scrubberPass _ poisoned t => fitsAll 22 poisoned && fits 64 t
  | .sysModeWrite _ t => fits 64 t
  | .modeChangeComplete t => fits 64 t
  | .hoarfrostPeriod slack t => fitsS 16 slack && fits 64 t
  | .avsbusFrameDone _ t => fits 64 t
  | .feEnable _ t => fits 64 t
  | .feDisable _ t => fits 64 t
  | .synLock _ us t => fits 32 us && fits 64 t
  | .synLockTimeout _ t => fits 64 t
  | .rfeTuneWrite _ khz t => fits 32 khz && fits 64 t
  | .synMoveStart _ t => fits 64 t
  | .transmitDeadline _ lbtEd ccaEd t => fitsS 16 lbtEd && fitsS 16 ccaEd && fits 64 t
  | .rxTxTurnaroundEnd _ t => fits 64 t
  | .txLastSymbol _ t => fits 64 t
  | .txRxTurnaroundEnd _ t => fits 64 t
  | .lbtListenStart _ t => fits 64 t
  | .rfeCalCmd _ steps t => fits 64 steps && fits 64 t
  | .rfeCalForce _ steps t => fits 64 steps && fits 64 t
  | .calStepDone _ _ t => fits 64 t
  | .rfeTempSample _ celsius t => fitsS 16 celsius && fits 64 t
  | .calStarveTimeout _ t => fits 64 t
  | .dcBucketAdvance _ t => fits 64 t
  | .agcGainStep _ peak sample t => fitsS 16 peak && fits 64 sample && fits 64 t
  | .rfeTxTestWrite _ _ pix offset t => fits 64 pix && fitsS 32 offset && fits 64 t
  | .rfeTxAirRead _ _ => true
  | .preambleDetect _ _ chan _ q sniffer stfPeak t => fits 64 chan && fits 64 q && fits 64 sniffer && fits 64 stfPeak && fits 64 t
  | .sfdFound _ ts t => fits 64 ts && fits 64 t
  | .sfdTimeout _ t => fits 64 t
  | .phrCheck _ _ _ len mcs _ _ _ t => fits 16 len && fits 64 mcs && fits 64 t
  | .sliceFrameEnd _ _ _ _ pwr snr _ t => fitsS 10 pwr && fitsS 18 snr && fits 64 t
  | .classUpResult _ pan _ ts t => fits 16 pan && fits 64 ts && fits 64 t
  | .chzPlanWrite _ _ _ t => fits 64 t
  | .chzOogWrite _ limit t => fits 64 limit && fits 64 t
  | .spectrumInterval _ t => fits 64 t
  | .chzSlicePeakRead _ => true
  | .asnTick _ t => fits 64 t
  | .macAsnLoRead _ => true
  | .macSlotLenWrite us t => fits 32 us && fits 64 t
  | .macTtWrite _ _ _ t => fits 64 t
  | .macHsDataAccess _ _ t => fits 64 t
  | .hsSwitchArm mask t => fits 64 mask && fits 64 t
  | .hsSwitchCancel mask t => fits 64 mask && fits 64 t
  | .macLsUcDataWrite _ _ t => fits 64 t
  | .macLsSwapArm _ sf _ _ t => fits 32 sf && fits 64 t
  | .transmitCommitPoint _ idx t => fits 32 idx && fits 64 t
  | .transmitItemReady _ idx t => fits 32 idx && fits 64 t
  | .ccmDispatch _ t => fits 64 t
  | .verdict pos _ _ _ _ t => fits 64 pos && fits 64 t
  | .ackCommitPoint _ t => fits 64 t
  | .nodeAckReceived pos _ t => fits 64 pos && fits 64 t
  | .ackWaitExpiry _ t => fits 64 t
  | .quietTimeout _ t => fits 64 t
  | .macBurstPeakRead _ => true
  | .macAckMarginRead _ => true
  | .macLsVhistRead _ _ _ => true
  | .sfEnable _ t => fits 64 t
  | .sfDisable _ t => fits 64 t
  | .commitMsExpiry t => fits 64 t
  | .genCommit t => fits 64 t
  | .genApplyComplete t => fits 64 t
  | .genClear t => fits 64 t
  | .schedAdd _ _ ofs _ t => fits 22 ofs && fits 64 t
  | .schedDel _ idx t => fits 32 idx && fits 64 t
  | .schedMove _ idx _ ofs _ t => fits 32 idx && fits 22 ofs && fits 64 t
  | .schedRead _ idx t => fits 32 idx && fits 64 t
  | .schedNode _ nix t => fits 32 nix && fits 64 t
  | .schedSfClear _ sf t => fits 32 sf && fits 64 t
  | .adaptVisit _ _ t => fits 64 t
  | .seracPick _ idx _ _ t => fits 32 idx && fits 64 t
  | .p6Request _ _ t => fits 64 t
  | .p6Response _ seq code _ t => fits 8 seq && fits 16 code && fits 64 t
  | .p6TransactionTimeout _ t => fits 64 t
  | .sfSwitchArm _ _ _ _ t => fits 64 t
  | .wmoveArm _ khz _ t => fits 32 khz && fits 64 t
  | .wmoveCentreWrite t => fits 64 t
  | .quietAutoPlace _ t => fits 64 t
  | .srcUcDataWrite _ t => fits 64 t
  | .srcUcArm _ _ t => fits 64 t
  | .srcCellsPeakRead _ => true
  | .srcChkPeakRead _ => true
  | .keySet _ hd nix key t => headFits hd && fits 32 nix && fits 192 key && fits 64 t
  | .keyRatchet _ tag nix t => fits 16 tag && fits 32 nix && fits 64 t
  | .groupKeyLoad _ hd ward gen key t => headFits hd && fits 64 ward && fits 8 gen && fits 192 key && fits 64 t
  | .groupSwitchArm _ asnHi _ t => fits 8 asnHi && fits 64 t
  | .groupGraceExpiry _ t => fits 64 t
  | .journalCommitDone _ t => fits 64 t
  | .copierApply t => fits 64 t
  | .jnlOpen _ t => fits 64 t
  | .jnlOpenComplete _ t => fits 64 t
  | .jnlClose t => fits 64 t
  | .jnlCloseComplete t => fits 64 t
  | .jnlFormat t => fits 64 t
  | .snapNow t => fits 64 t
  | .snapPeriodExpiry t => fits 64 t
  | .snapPassComplete t => fits 64 t
  | .secEngPeakRead _ => true
  | .secJnlPeakRead _ => true
  | .learnCommit pos _ t => fits 64 pos && fits 64 t
  | .firnBucketVisit _ _ poisoned _ t => fitsAll 22 poisoned && fits 64 t
  | .firnSweepEnd _ t => fits 64 t
  | .reshardStart t => fits 64 t
  | .reshardAbort t => fits 64 t
  | .reshardWalk _ t => fits 64 t
  | .fwtInsert _ hd _ _ t => headFits hd && fits 64 t
  | .fwtDelete _ tag key _ _ _ t => fits 16 tag && fits 256 key && fits 64 t
  | .fwtRead _ hd first count _ t => headFits hd && fits 32 first && fits 32 count && fits 64 t
  | .fwtWrite _ hd bucket ver _ _ _ _ _ t => headFits hd && fits 64 bucket && fits 64 ver && fits 64 t
  | .pathWrite _ hd ix _ t => headFits hd && fits 64 ix && fits 64 t
  | .pathRead _ hd first count t => headFits hd && fits 32 first && fits 32 count && fits 64 t
  | .saxRead _ hd ward first count t => headFits hd && fits 64 ward && fits 32 first && fits 32 count && fits 64 t
  | .uplinkPipeline _ _ t => fits 64 t
  | .downlinkPacket _ _ t => fits 64 t
  | .reasmTimeout t => fits 64 t
  | .uplinkDrain _ _ _ t => fits 64 t
  | .wardShaperRelease _ _ t => fits 64 t
  | .calendarBucketDue t => fits 64 t
  | .shaperSweep t => fits 64 t
  | .calendarDisable t => fits 64 t
  | .calendarEnable t => fits 64 t
  | .shpMeterWrite _ _ value t => fits 64 value && fits 64 t
  | .egressFrameStart _ t => fits 64 t
  | .gateEntryEdge _ t => fits 64 t
  | .gateListArm _ _ len t => fits 16 len && fits 64 t
  | .gateListSwitch _ t => fits 64 t
  | .qmsPoolPeakRead _ => true
  | .qmsPoolUsePeakRead _ _ => true
  | .qmsWNpeakRead _ _ => true
  | .qmsCqPeakRead _ _ => true
  | .shpCalPeakRead _ => true
  | .shpEgrPeakRead _ _ => true
  | .tsuNsLoRead _ t => fits 64 t
  | .tsuTimeNsRead _ t => fits 64 t
  | .ptpMessageReceived _ _ t => fits 64 t
  | .syncInterval _ t => fits 64 t
  | .delayReqInterval _ t => fits 64 t
  | .followUpTimeout _ t => fits 64 t
  | .delayRespTimeout _ t => fits 64 t
  | .tsuServoExtOfsWrite _ t => fits 64 t
  | .servoEnable t => fits 64 t
  | .servoDisable t => fits 64 t
  | .servoLossTimeout t => fits 64 t
  | .servoCmdAccept t => fits 64 t
  | .servoCmdAsym t => fits 64 t
  | .servoCmdRemeasure t => fits 64 t
  | .tsuStep _ t => fits 64 t
  | .tsuSet t => fits 64 t
  | .slewGo t => fits 64 t
  | .slewAbort t => fits 64 t
  | .slewComplete t => fits 64 t
  | .asnStart t => fits 64 t
  | .asnStop t => fits 64 t
  | .pulseArm _ _ _ _ _ t => fits 64 t
  | .pulseStop _ t => fits 64 t
  | .pulseEdge _ t => fits 64 t
  | .captureEdge _ _ held t => fits 64 held && fits 64 t
  | .tsuCiNsRead _ _ => true
  | .tsuServoOfsPeakRead _ => true
  | .tsuPResPeakRead _ _ => true
  | .doorbellWrite offset _ t => fits 16 offset && fits 64 t
  | .ringEnable _ t => fits 64 t
  | .ringDisable _ t => fits 64 t
  | .txDescriptor _ _ _ _ t => fits 64 t
  | .rxFrameDeliver _ _ t => fits 64 t
  | .moderationTimer _ t => fits 64 t
  | .dmaReadFail _ _ addr t => fits 64 addr && fits 64 t
  | .functionLevelReset t => fits 64 t
  | .d3hotToD0 t => fits 64 t
  | .nop _ tag t => fits 16 tag && fits 64 t
  | .badop _ op tag t => fits 8 op && fits 16 tag && fits 64 t
  | .nodeAdd _ hd nix _ _ _ _ t => headFits hd && fits 32 nix && fits 64 t
  | .nodeEvict _ tag nix t => fits 16 tag && fits 32 nix && fits 64 t
  | .evictReleaseComplete _ _ t => fits 64 t
  | .nodeQuiet _ tag nix t => fits 16 tag && fits 32 nix && fits 64 t
  | .nodeRead _ hd first count _ t => headFits hd && fits 32 first && fits 32 count && fits 64 t
  | .nodeModify _ hd nix mask value _ t => headFits hd && fits 32 nix && fits 64 mask && fits 64 value && fits 64 t
  | .nodeWrite _ hd nix _ t => headFits hd && fits 32 nix && fits 64 t
  | .ebSet _ hd ward _ t => headFits hd && fits 64 ward && fits 64 t
  | .ucodeLoad _ hd target len _ _ us t => headFits hd && fits 4 target && fits 32 len && fits 32 us && fits 64 t
  | .hifRxrBacklogPeakRead _ _ => true
  | .hifEvtrPendPeakRead _ _ => true
  | .campStart _ hd slot _ t => headFits hd && fits 64 slot && fits 64 t
  | .campPrepareComplete _ _ t => fits 64 t
  | .campPause _ tag slot t => fits 16 tag && fits 64 slot && fits 64 t
  | .campResume _ tag slot t => fits 16 tag && fits 64 slot && fits 64 t
  | .campStop _ tag slot t => fits 16 tag && fits 64 slot && fits 64 t
  | .campRelease _ tag slot t => fits 16 tag && fits 64 slot && fits 64 t
  | .campEnrol _ hd slot count nodes t => headFits hd && fits 32 slot && fits 32 count && fitsAll 32 nodes && fits 64 t
  | .campLeave _ hd slot count nodes t => headFits hd && fits 32 slot && fits 32 count && fitsAll 32 nodes && fits 64 t
  | .pressTurn _ _ us t => fits 32 us && fits 64 t
  | .updCurdsPeakRead _ => true
  | .updReadyPeakRead _ => true
  | .keyGen _ hd count _ t => headFits hd && fits 32 count && fits 64 t
  | .keyImport _ hd count keys _ t => headFits hd && fits 32 count && fitsAll 192 keys && fits 64 t
  | .attest _ hd nonce _ t => headFits hd && fitsAll 32 nonce && fits 64 t
  | .aliasCert _ hd t => headFits hd && fits 64 t
  | .tlogAck _ tag mask t => fits 16 tag && fits 64 mask && fits 64 t
  | .rindSample mismatch _ _ t => fits 64 mismatch && fits 64 t
  | .sensorDetect _ _ t => fits 64 t
  | .keyTamperAckWrite code us => fits 16 code && fitsAll 32 us
  | .deriveComplete us => fitsAll 32 us
  | .caveRestoreComplete t => fits 64 t
  | .brineVisit _ t => fits 64 t
  | .rngHealthTest _ t => fits 64 t
  | .keyHostpubWrite _ _ t => fits 64 t
  | .powerOnReset strap bits us => fits 2 strap && fits 4 bits && fitsAll 32 us
  | .powerFailReset strap bits us => fits 2 strap && fits 4 bits && fitsAll 32 us
  | .wakeReset strap bits us => fits 2 strap && fits 4 bits && fitsAll 32 us
  | .warmReset key _ bits us => fits 256 key && fits 4 bits && fitsAll 32 us
  | .faultReset bits us => fits 4 bits && fitsAll 32 us
  | .jtagReset bits us => fits 4 bits && fitsAll 32 us
  | .pcieFundamentalReset t => fits 64 t
  | .sramInitComplete dur us => fits 32 dur && fitsAll 32 us
  | .clockCheckComplete present dev lockUs us => fits 64 present && fitsAllS 32 dev && fits 32 lockUs && fitsAll 32 us
  | .imageCheckComplete _ _ _ fail seqA seqB _ us => fits 64 fail && seqA.all (fits 32) && seqB.all (fits 32) && fitsAll 32 us
  | .bootRelease us t => fitsAll 32 us && fits 64 t
  | .sysPcieBootGo us => fitsAll 32 us
  | .svnProgram target _ t => fits 64 target && fits 64 t
  | .svnProgramDone t => fits 64 t
  | .lcRequest _ key target t => fits 16 key && fits 5 target && fits 64 t
  | .fuseProgram target _ _ t => fits 64 target && fits 64 t
  | .fuseProgramDone _ t => fits 64 t
  | .pcrRun _ t => fits 64 t
  | .pcrDrain _ t => fits 64 t
  | .pcrHalt _ t => fits 64 t
  | .pcrDrainAck _ t => fits 64 t
  | .drainTimeout _ t => fits 64 t
  | .watchdogExpiry _ mcause mepc t => fits 32 mcause && fits 32 mepc && fits 64 t
  | .pcrHeartbeatWrite _ t => fits 64 t
  | .coreTrap _ mcause mepc _ t => fits 32 mcause && fits 32 mepc && fits 64 t
  | .policyStore _ ofs octets t => fits 22 ofs && fitsAll 32 octets && fits 64 t
  | .pcrIpiWrite mask t => fits 64 mask && fits 64 t
  | .mboxInWrite _ _ _ t => fits 64 t
  | .mboxOutWrite _ _ _ _ t => fits 64 t
  | .pcrInstretLoRead _ _ => true
  | .hushWrite t => fits 64 t
  | .hushEntry t => fits 64 t
  | .hushExit t => fits 64 t
  | .sleepRequest target key t => fits 64 target && fits 256 key && fits 64 t
  | .sleepQuiesceComplete t => fits 64 t
  | .sleepIsolation t => fits 64 t
  | .sleepWakeSample t => fits 64 t
  | .pgOffTimeout => true
  | .pwrGoodFall t => fits 64 t
  | .wakeSource _ _ => true
  | .pgWaitTimeout => true
  | .wakeBackoffExpiry => true
  | .watchSample ana pins => fits 64 ana && fits 64 pins
  | .rtcTick t => fits 64 t
  | .rtcSet t => fits 64 t
  | .celRtcTickRead _ t => fits 64 t
  | .anchorStamp t => fits 64 t
  | .vbatSample level celsius => fits 64 level && fitsS 16 celsius
  | .regLimit _ => true
  | .cellarBrownout => true
  | .cellarPowerUp _ => true
  | .clockMonitorCheck present unlocked dev ppm rcErr _ t => fits 64 present && fits 64 unlocked && fitsAllS 32 dev && fitsAllS 32 ppm && fitsS 32 rcErr && fits 64 t
  | .refRecheckTimer present dev lockUs t => fits 64 present && fitsAllS 32 dev && fits 32 lockUs && fits 64 t
  | .clkRefRecheck mask present dev lockUs t => fits 64 mask && fits 64 present && fitsAllS 32 dev && fits 32 lockUs && fits 64 t
  | .xtalCheck _ _ t => fits 64 t
  | .xtalMeasure ppb t => fitsS 32 ppb && fits 64 t
  | .faultOccurrence _ _ _ _ t => fits 64 t
  | .fltLatchClear _ _ _ t => fits 64 t
  | .fltClearAll t => fits 64 t
  | .fltClearFirst t => fits 64 t
  | .fltInject _ _ t => fits 64 t
  | .escalationExpiry t => fits 64 t
  | .calmExpiry t => fits 64 t
  | .fltMorClear t => fits 64 t
  | .pairJoinActive t => fits 64 t
  | .pairJoinStandby t => fits 64 t
  | .pairLeave t => fits 64 t
  | .pairSwitch t => fits 64 t
  | .pairForce t => fits 64 t
  | .heartbeatSend _ t => fits 64 t
  | .heartbeatReceived _ _ t => fits 64 t
  | .heartbeatMissCount _ t => fits 64 t
  | .peerSilentExpiry t => fits 64 t
  | .takeover t => fits 64 t
  | .pairFenceInput _ t => fits 64 t
  | .fabricTokenCheck _ t => fits 64 t
  | .aliveToggle t => fits 64 t
  | .mirRecordReceived mseq _ _ _ t => fits 32 mseq && fits 64 t
  | .mackSend t => fits 64 t
  | .mackReceived mseq _ t => fits 32 mseq && fits 64 t
  | .mirFlush t => fits 64 t
  | .markReceived mseq _ t => fits 32 mseq && fits 64 t
  | .bulkRecordReceived _ _ _ _ _ t => fits 64 t
  | .rlyRadioReceived _ _ t => fits 64 t
  | .rlyEthReceived _ _ _ t => fits 64 t
  | .laneSyncChange _ _ errors t => fits 32 errors && fits 64 t
  | .pairPeerKeyWrite _ _ t => fits 64 t
  | .pairSwitchTick t => fits 64 t
  | .cfgCrcRecompute t => fits 64 t
  | .pairMirPeakRead _ => true
  | .ethFrameReceived _ _ _ t => fits 64 t
  | .ethLinkChange _ _ _ t => fits 64 t
  | .ethPEqPeakRead _ _ _ => true
  | .jtagBypass => true
  | .jtagIdcode => true
  | .jtagSamplePreload bits => shortList 32 bits
  | .jtagExtest => true
  | .jtagClamp => true
  | .jtagHighz => true
  | .debugHalt _ t => fits 64 t
  | .egressFrameEnd _ t => fits 64 t
  | .debugResume _ t => fits 64 t
  | .msixVectorUnmask _ addr data t => fits 64 addr && fits 32 data && fits 64 t
  | .pcieBusMasterEnable _ _ us t => fitsAll 32 us && fits 64 t
  | .pcieLinkUp gen width t => fits 8 gen && fits 3 width && fits 64 t
  | .jnlFormatComplete _ t => fits 64 t
  | .genClearComplete t => fits 64 t

end Sys2Proof
end

