-- ==== Sys2Proof/Tests/Slice0.lean ====
section
/-!
SUPPORT. Tests of the model: small steps with results worked out from the spec, and the refusals of the well-formedness check.
-/

namespace Sys2Proof

open Sys2Proof.Machine

/-! For every statement with hypotheses, states and operands that meet them, clause by clause. -/

/-- The state after reset with some register fields written. -/
def tw (l : List (Fld × Nat)) : State := l.foldl (fun s p => s.wr p.1 p.2) State.reset

/-- The same, with one descriptor waiting in command ring 0. -/
def tr (l : List (Fld × Nat)) : State :=
  tw ([(HIF_CFG.EN, 1), (HIF_R_CFG.EN 64, 1), (HIF_R_CFG.SIZE_LOG2 64, 6), (HIF_R_IDX.TAIL 64, 1)] ++ l)

/-- `s` at RC `n`, the clock running. -/
def tt (n : Nat) (s : State) : State := { s with rc := n, tsu := { s.tsu with rcOn := true } }

/-- `s` with record `n` in the Node Store. -/
def tn (n : Nat) (r : Node) (s : State) : State := { s with nodes := [(n, r)] }

set_option maxRecDepth 20000 in
theorem test_witness_registers :
    unsupported 0 0x60010 2 = true ∧ unsupported 0 0x60012 4 = true ∧ unsupported 1 0x60012 2 = false
    ∧ mayAccess ((tw [(SYS_BOOT_STS.STAGE, 8)]).air 1) 0 0x60010 true = true ∧ mayAccess (State.reset.air 1) 1 0x6C010 true = true
    ∧ mayAccess (State.reset.air 1) 1 0x30014 true = true ∧ mayAccess (((tw [(SYS_BOOT_STS.STAGE, 9)]).air 1).each (List.range 4) airCount) 0 0x6C010 false = false
    ∧ mayAccess ((State.reset.air 0).each (List.range 4) airCount) 9 0x60010 false = true ∧ regAt 0x1FFFFC = none ∧ islandHeld 0x80000 = false ∧ islandHeld 0x6FFFC = true := by decide

theorem test_witness_HoarfrostFollowsTheSlack :
    avsHeld (State.reset.at 1) = false ∧ State.reset.hoar.raising = false := by decide

set_option maxRecDepth 20000 in
theorem test_witness_ModeChangesFollowVoltage :
    (let s := tw [(SYS_BOOT_STS.STAGE, 8), (SYS_MODE_STS.CUR, 1)]
     s.rd SYS_BOOT_STS.STAGE = 8 ∧ s.rd SYS_MODE_STS.BUSY = 0 ∧ 0 ≠ s.rd SYS_MODE_STS.CUR ∧ 2 ≠ s.rd SYS_MODE_STS.CUR)
    ∧ (let s := { tw [(SYS_MODE_STS.BUSY, 1)] with hoar := { raising := true, target := 0, vconf := 2000 } }
       s.rd SYS_MODE_STS.BUSY = 1 ∧ s.hoar.held = none ∧ s.hoar.target < 4 ∧ modeLow s.hoar.target ≤ s.hoar.vconf)
    ∧ (let s := { tw [(SYS_MODE_STS.BUSY, 1)] with hoar := { target := 2 } }
       s.rd SYS_MODE_STS.BUSY = 1 ∧ s.hoar.held = none ∧ s.hoar.raising = false ∧ avsHeld (s.at 1) = false ∧ capDrained (s.at 1) = true)
    ∧ ({ State.reset with hoar := { failed := 1 } } : State).hoar.failed < 2 := by decide

/-- A span of cell `i` in a transmit cell. -/
def tSpan (i : Nat) : Span := { idx := i, sf := 0, cell := { typ := 1 }, asn := 7, tick := 1000, plan := 0, chan := 0 }

/-- The same item, still to be encrypted. -/
def tItemSec (i : Nat) (e : Option Nat) : TxItem := { idx := i, asn := 7, frame := { id := 3, len := 20, phyc := 10 }, nix := some 5, encrypts := true, engine := e }

/-- An item prepared for the cell of `tSpan`. -/
def tItem (i : Nat) : TxItem := { idx := i, asn := 7, frame := { id := 3, len := 20, phyc := 10 }, nix := some 5 }

theorem test_witness_FifoStallsLoseNothing :
    (let s : State := { State.reset with lanes := [(0, { spans := [tSpan 4], preparing := [tItem 4] })] }
     (laneOf s 0).preparing.find? (fun i => i.idx = 4) = some (tItem 4) ∧ spanOf s 0 4 = some (tSpan 4) ∧ (tSpan 4).committed = false
       ∧ (tSpan 4).asn = (tItem 4).asn ∧ (tItem 4).aborted = false ∧ (tItem 4).encrypts = false)
    ∧ (let s : State := { tw [(SEC_CFG.EN, 1), (SEC_ENG_STS.BUSY, 0x8000)] with lanes := [(0, { spans := [tSpan 4], preparing := [tItemSec 4 (some 15)] })] }
       (laneOf s 0).preparing.find? (fun i => i.idx = 4) = some (tItemSec 4 (some 15)) ∧ spanOf s 0 4 = some (tSpan 4) ∧ (tSpan 4).committed = false
         ∧ (tSpan 4).asn = (tItemSec 4 none).asn ∧ (tItemSec 4 (some 15)).engine ≠ none ∧ (tItemSec 4 (some 15)).encrypts = true)
    ∧ (let s : State := { tw [(SEC_ENG_STS.IN_USE, 0x8000), (SEC_ENG_STS.BUSY, 0x8000)] with lanes := [(0, { spans := [tSpan 4], preparing := [tItemSec 4 none] })] }
       (laneOf s 0).preparing.find? (fun i => i.idx = 4) = some (tItemSec 4 none) ∧ spanOf s 0 4 = some (tSpan 4) ∧ (tItemSec 4 none).engine = none ∧ engineIdle s = none)
    ∧ ({ State.reset with qms := { lost := [(3, [9, 11])] } } : State).qms.lost = [(3, [9, 11])] ∧ State.reset.qms.lost = [] := by decide

theorem test_witness_FrontEndsFollowTheirStates :
    State.reset.rd (CLK_ISL_STS.ON_REF 0) = 0
    ∧ (let s := tw [(CLK_ISL_STS.ON_REF 0, 1)]; s.rd (RFE_STS.STATE 3) = 0 ∧ s.rd CEL_PWR_STS.STATE = 0 ∧ s.rd (CLK_ISL_STS.ON_REF 0) = 1)
    ∧ (let s := tt 320999 (tw [(RFE_STS.STATE 3, 1)])
       s.rd (RFE_STS.STATE 3) = 1 ∧ (s.feOf 3).forced = 0 ∧ (s.feOf 3).homeDue = false ∧ (s.at 320999).within ((s.feOf 3).moveAt + (120 + 200) * 1000) ((s.feOf 3).moveAt + (121 + 200) * 1000) = true
         ∧ (s.at 320999).reached ((s.feOf 3).moveAt + 320000) = true ∧ (tt 319999 s).reached ((s.feOf 3).moveAt + 320000) = false)
    ∧ (let s : State := { tt 120000 (tw [(RFE_STS.STATE 1, 1), (RFE_COVER_STS.PHASE 1, 3)]) with fe := [(1, { covers := true })] }
       s.rd (RFE_STS.STATE 1) = 1 ∧ (s.feOf 1).forced = 0 ∧ (s.feOf 1).homeDue = false ∧ (s.at 120000).within ((s.feOf 1).moveAt + (120 + 0) * 1000) ((s.feOf 1).moveAt + (121 + 0) * 1000) = true
         ∧ (s.feOf 1).covers = true ∧ s.rd (RFE_COVER_STS.PHASE 1) = 3 ∧ s.rd (RFE_COVER_STS.ABORTED 1) = 0)
    ∧ (let s := tw [(RFE_SYN_STS.MOVE_PEND 0, 1), (RFE_STS.STATE 0, 2), (MAC_STS.ASN_RUN, 1)]
       s.rd (RFE_SYN_STS.MOVE_PEND 0) = 1 ∧ s.rd (RFE_STS.STATE 0) = 2 ∧ (s.at 0).rc = s.mac.tickAt ∧ (s.feOf 0).covers = false) := by decide

/-- A frame that front end 0 is about to send to node 5, in the span of CENTRE 868.000 MHz. -/
def tCmd : TxCmd := { nix := some 5, centre := 868000, spacing := 200, air := 1000000, deadline := 5000 }

theorem test_witness_TransmissionsMeetTheirDeadline :
    (let s : State := { tt 4999 State.reset with fe := [(0, { txq := [tCmd] })] }; (s.feOf 0).txq.head? = some tCmd ∧ (s.air 4999).reached tCmd.deadline = false)
    ∧ (let s : State := { tt 5000 (tw [(RFE_CTL.TX_EN 0, 1), (RFE_STS.STATE 0, 2), (RFE_STS.LOCKED 0, 1), (CLK_ISL_STS.ON_REF 0, 1)]) with fe := [(0, { txq := [tCmd] })] }
       (s.feOf 0).txq.head? = some tCmd ∧ (s.air 5000).reached tCmd.deadline = true ∧ tCmd.kind = .frame ∧ tCmd.nix = some 5 ∧ tCmd.refused = false ∧ s.rd (RFE_CTL.TX_EN 0) = 1
         ∧ inSpan 0 (centreOf s 0) tCmd.centre tCmd.spacing = true ∧ s.rd (RFE_STS.STATE 0) = 2 ∧ s.rd (RFE_STS.LOCKED 0) = 1
         ∧ (s.air 5000).within tCmd.deadline (tCmd.deadline + 1) = true ∧ s.rd (CLK_ISL_STS.ON_REF 0) = 1
         ∧ listens (s.air 5000) tCmd = false ∧ dcRefuses (s.air 5000) (dcOverlap (s.air 5000) tCmd) tCmd.air false = false ∧ (s.node 5).fenced = false
         ∧ (tt 5001 s).within tCmd.deadline (tCmd.deadline + 1) = false ∧ (s.wr (CLK_ISL_STS.ON_REF 0) 0).rd (CLK_ISL_STS.ON_REF 0) = 0)
    ∧ (let c : TxCmd := { tCmd with deadline := 5000000 }
       let s : State := { tt 1 (tw [(MAC_TT_CCA.CCA_EN 0, 1), (RFE_STS.STATE 0, 2)]) with fe := [(0, { txq := [c] })] }
       let t : Nat := listenStart s c
       (s.feOf 0).txq.head? = some c ∧ listens (s.air t) c = true ∧ c.checked = false ∧ c.refused = false ∧ 0 < t ∧ t < 5000000
         ∧ (s.air t).within (listenStart s c) (listenStart s c + 1) = true)
    ∧ (let s : State := { tt 100 (tw [(RFE_STS.STATE 0, 3)]) with fe := [(0, { tx := some tCmd, firstSym := 100 })] }
       s.rd (RFE_STS.STATE 0) = 3 ∧ (s.feOf 0).cw = false ∧ (s.at 100).reached (s.feOf 0).firstSym = true ∧ (s.feOf 0).tx = some tCmd ∧ (tt 99 s).reached (s.feOf 0).firstSym = false)
    ∧ (let b : TxCmd := { kind := .beacon, air := 1 }
       let s : State := { tt 1 (tw [(RFE_STS.STATE 0, 4)]) with fe := [(0, { tx := some b })] }
       s.rd (RFE_STS.STATE 0) = 4 ∧ (s.feOf 0).tx = some b ∧ b.kind = .beacon ∧ (s.feOf 0).cw = false ∧ (s.feOf 0).offPend = false ∧ 0 < b.air
         ∧ (s.air 1).reached ((s.feOf 0).firstSym + b.air) = true)
    ∧ (let s := tt 24000 (tw [(RFE_STS.STATE 0, 5)])
       s.rd (RFE_STS.STATE 0) = 5 ∧ (s.feOf 0).forced = 0 ∧ (s.feOf 0).homeDue = false ∧ (s.at 24000).reached ((s.feOf 0).lastSym + 24000) = true ∧ (tt 23999 s).reached ((s.feOf 0).lastSym + 24000) = false) := by decide

theorem test_witness_CalibrationWaitsRunsAndEnds :
    33 % 32 ≠ 0 ∧ (tw [(RFE_STS.STATE 2, 2)]).rd (RFE_STS.STATE 2) = 2 ∧ State.reset.rd (RFE_STS.STATE 2) ≠ 2 ∧ State.reset.rd (RFE_STS.STATE 2) ≠ 6
    ∧ (let s := tt 1000000000 (tw [(RFE_STS.STATE 2, 6), (RFE_CAL_STS.BUSY 2, 1), (RFE_CAL_STS.RUNNING 2, 5)])
       s.rd (RFE_STS.STATE 2) = 6 ∧ s.rd (RFE_CAL_STS.BUSY 2) = 1 ∧ s.rd (RFE_CAL_STS.RUNNING 2) = (4 : Fin 5) + 1 ∧ (s.feOf 2).oscStep = false ∧ (s.feOf 2).run = []
         ∧ (s.feOf 2).forced = 0 ∧ (s.feOf 2).waitBack = false ∧ (s.feOf 2).homeDue = false ∧ s.rd (RFE_STS.COVERED 2) = 0 ∧ s.rd (RFE_SYN_STS.MOVE_PEND 2) = 0
         ∧ (s.at 1000000000).reached ((s.feOf 2).stepAt + calStepNs 2 4) = true ∧ (tt 1 s).reached ((s.feOf 2).stepAt + calStepNs 2 4) = false)
    ∧ (State.reset.rd (RFE_CTL.AUTO_CAL 2) = 1 ∧ (State.reset.feOf 2).req = false ∧ State.reset.rd (RFE_CAL_CFG.AUTO_MASK 2) ≠ 0
         ∧ State.reset.rd (RFE_CAL_CFG.TEMP_THR 2) ≤ (sgn 8 (unsg 8 (clampI (-128) 127 (-8))) - State.reset.rdS (RFE_TEMP.AT_CAL 2)).natAbs)
    ∧ (let s : State := { tt 40000000000 State.reset with fe := [(2, { req := true, due := 1, dueAt := 10000000000 })] }
       (s.feOf 2).req = true ∧ (s.feOf 2).dueAt + s.rd (RFE_CAL_CFG.STARVE_S 2) * 1000000000 ≤ (s.at 40000000000).rc) := by decide

theorem test_witness_RadioGainDutyAndTest :
    (∀ n : Fin 4, (State.reset.feOf n).cw = false)
    ∧ (let s := tt (10 ^ 13) State.reset
       (s.at (10 ^ 13)).reached ((s.dcOf 15).start + dcWindowS s 15 * 1000000000 / 60) = true ∧ ((tt 1 s).air 1).reached ((s.dcOf 15).start + dcWindowS s 15 * 1000000000 / 60) = false)
    ∧ (let s := tw [(RFE_STS.STATE 1, 2), (RFE_CTL.TX_EN 1, 1), (CLK_ISL_STS.ON_REF 0, 1)]; s.rd (RFE_STS.STATE 1) = 2 ∧ s.rd (RFE_CTL.TX_EN 1) = 1 ∧ s.rd (CLK_ISL_STS.ON_REF 0) = 1)
    ∧ (let s : State := { tt 1 (tw [(RFE_STS.STATE 1, 4)]) with fe := [(1, { cw := true })] }
       s.rd (RFE_STS.STATE 1) = 4 ∧ (s.feOf 1).cw = true ∧ (s.feOf 1).offPend = false ∧ (s.feOf 1).firstSym < (s.at 1).rc) := by decide

theorem test_witness_PreamblesClaimSlices :
    sniffs (State.reset.at 1) ⟨2, 399, 10, 0⟩ = false ∧ 5 < (tw [(CHZ_CLASS_CFG.DET_THR 10, 6)]).rd (CHZ_CLASS_CFG.DET_THR (10 : Fin 11))
    ∧ (let s : State := { tw [(CHZ_CFG.EN, 1), (CHZ_CLASS_CFG.DET_THR 10, 6), (RFE_STS.STATE 0, 2), (CHZ_CFG.DUP_EN, 0), (CHZ_ARB.PREEMPT_EN, 0)] with sniffers := [⟨2, 399, 10, 0⟩] }
     isOfdm 10 = false ∧ sniffs (s.at 1) ⟨2, 399, 10, 0⟩ = true ∧ s.rd (CHZ_CLASS_CFG.DET_THR (10 : Fin 11)) ≤ 6 ∧ receives (s.at 1) 0 = true ∧ s.rd CHZ_CFG.DUP_EN = 0
       ∧ (sliceOrder s false).find? (sliceFree s) = some 32 ∧ s.rd CHZ_ARB.PREEMPT_EN = 0)
    ∧ (let s : State := { tt 1000000000 (tw [(CHZ_SLICE_STS.STATE 127, 1)]) with slices := [(127, { sfdBy := 1000000000 })] }
       s.rd (CHZ_SLICE_STS.STATE (127 : Fin 128)) = 1 ∧ (s.at 1000000000).rc ≤ (sliceOf s 127).sfdBy ∧ (sliceOf s 127).sfdBy < (s.at 1000000001).rc
         ∧ (s.at 1000000000).reached ((sliceOf s 127).det + symsNs (s.rd (CHZ_SLICE_STS.PHYC (127 : Fin 128))) (acqSyms (s.rd (CHZ_SLICE_STS.PHYC (127 : Fin 128))))) = true
         ∧ (s.at 1000000000).reached (sliceOf s 127).sfdBy = true ∧ (tt 999999999 s).reached (sliceOf s 127).sfdBy = false
         ∧ (tt 1 s).reached ((sliceOf s 127).det + symsNs (s.rd (CHZ_SLICE_STS.PHYC (127 : Fin 128))) (acqSyms (s.rd (CHZ_SLICE_STS.PHYC (127 : Fin 128))))) = false)
    ∧ (let s := tn 5 { state := .joined, pinned := true } { tw [(CHZ_SLICE_STS.STATE 0, 2), (CHZ_SLICE_STS.PHYC 0, 10), (CHZ_SLICE_STS.CLASS 0, 2), (MAC_WARD_PAN.EN 3, 1), (MAC_WARD_PAN.PAN_ID 3, 0xABCD)] with
         mac := { sax := [(3 * 65536 + 9, 6)] }, slices := [(0, { ts := 77 })] }
       s.rd (CHZ_SLICE_STS.STATE (0 : Fin 128)) = 2 ∧ isOfdm (s.rd (CHZ_SLICE_STS.PHYC (0 : Fin 128))) = false ∧ s.rd CHZ_ARB.CLASS_UP_EN = 1 ∧ s.rd (CHZ_SLICE_STS.CLASS (0 : Fin 128)) = 2
         ∧ (sliceOf s 0).ts = 77 ∧ (sliceOf s 0).ts ≠ 78 ∧ wardOf s 0xABCD = some 3 ∧ srcRecord s 3 (.short 9) = some 5 ∧ (s.node 5).pinned = true) := by decide

theorem test_witness_FramesAndPlansAreChecked :
    (let s := tw [(CHZ_SLICE_STS.STATE 5, 2)]; s.rd (CHZ_SLICE_STS.STATE 5) = 2 ∧ s.rd CHZ_CFG.BADFCS_HOST = 0 ∧ (sliceOf s 5).uncoded = false ∧ roleOf s = roleSolo)
    ∧ (tw [(CHZ_PLAN_PHY.CLASS_MASK 15, 0x400)]).rd (CHZ_PLAN_PHY.CLASS_MASK (15 : Fin 16)) ≠ 0
    ∧ (let s := tt 1 (tw [(CHZ_SPEC_CTL.RUN, 1), (CHZ_SPEC_CTL.START, 272)])
       s.rd CHZ_SPEC_CTL.RUN = 1 ∧ (s.at 1000000000).reached (s.specAt + 2 ^ s.rd CHZ_SPEC_CTL.AVG * 1000000) = true ∧ s.rd CHZ_SPEC_CTL.FE = 0 ∧ s.rd CHZ_SPEC_CTL.START + (127 : Fin 128).val < 400) := by decide

theorem test_witness_SlotsAreCounted :
    (let s := tw [(TSU_STS.REF, 1)]; s.rd TSU_STS.REF = 1 ∧ asnRuns s = false ∧ s.rd TSU_ASN_STS.START_PEND = 0)
    ∧ State.reset.rd TSU_STS.REF = 0 ∧ asnRuns (tw [(MAC_STS.ASN_RUN, 1)]) = true
    ∧ (let s := tw [(TSU_ASN_STS.START_PEND, 1)]; gridTime s s.mac.gridK ≤ (s.at 0).tsuNs ∧ s.rd TSU_ASN_STS.START_PEND = 1)
    ∧ (let s := tw [(MAC_STS.ASN_RUN, 1)]
       gridTime s s.mac.gridK ≤ (s.at 0).tsuNs ∧ s.rd TSU_ASN_STS.START_PEND = 0 ∧ asnRuns s = true ∧ s.rd TSU_ASN_STS.STOP_PEND = 0)
    ∧ (let s := tw [(MAC_STS.ASN_RUN, 1), (TSU_ASN_STS.STOP_PEND, 1)]
       gridTime s s.mac.gridK ≤ (s.at 0).tsuNs ∧ asnRuns s = true ∧ s.rd TSU_ASN_STS.STOP_PEND = 1) := by decide

theorem test_witness_TemplatesSequencesAndImages :
    asnRuns (tw [(MAC_STS.ASN_RUN, 1)]) = true ∧ laneBankOk State.reset 3 = true ∧ laneBankOk { State.reset with lanes := [(3, { ucBad := true })] } 3 = false
      ∧ State.reset.rd SYS_LC_STS.LC ≤ 2 ∧ ¬ (tw [(SYS_LC_STS.LC, 4)]).rd SYS_LC_STS.LC ≤ 2 := by decide

theorem test_witness_FramesLeaveAndAreAcknowledged :
    (let s : State := { State.reset with lanes := [(0, { spans := [tSpan 4], preparing := [tItem 4] })] }
     (laneOf s 0).preparing.find? (fun i => i.idx = 4) = some (tItem 4) ∧ spanOf s 0 4 = some (tSpan 4)
       ∧ (tItem 4).aborted = false ∧ (tItem 4).encrypts = false ∧ (tSpan 4).committed = false ∧ (tSpan 4).cell.typ = 1 ∧ (tSpan 4).asn = (tItem 4).asn
       ∧ (s.feOf 0).covers = false ∧ (s.feOf 0).rejoin = false ∧ owns s = true ∧ ((tt 10000000 s).at 10000000).reached (commitAt s (tSpan 4)) = true ∧ (tt 999 s).reached (commitAt s (tSpan 4)) = false
       ∧ (laneOf s 0).fifo.find? (fun i => i.idx = 4 && i.asn = (tSpan 4).asn && meets i.at_ (commitAt s (tSpan 4))) = none)
    ∧ (let s : State := { tt 10000000 (tw [(MAC_TT_TX.TX_OFS 0, 2120)]) with lanes := [(0, { spans := [tSpan 4], fifo := [tItem 4] })] }
       (laneOf s 0).fifo.find? (fun i => i.idx = 4 && i.asn = (tSpan 4).asn && meets i.at_ (commitAt s (tSpan 4))) = some (tItem 4) ∧ spanOf s 0 4 = some (tSpan 4)
         ∧ (tSpan 4).committed = false ∧ (s.feOf 0).covers = false ∧ (s.feOf 0).rejoin = false ∧ owns s = true ∧ (s.at 10000000).reached (commitAt s (tSpan 4)) = true
         ∧ (tItem 4).noframe = false ∧ (tItem 4).pre = false ∧ (tItem 4).lim = 0 ∧ (tItem 4).kind = .frame
         ∧ Sys2Proof.Machine.fits s (tItem 4).frame.phyc (tSpan 4).plan (tSpan 4).cell.tt ((tSpan 4).cell.span + 1) (tItem 4).frame.len (tItem 4).ackReq 0 = true)
    ∧ (let w : AckWait := { frame := 1, nix := 5, ward := 7, dsn := 255, plan := 15, chan := 9, tt := 7, typ := 1, endAt := 5000000, asn := 0 }
       let r : Nat := State.reset.rd (MAC_TT_RXACK.RX_ACK_DELAY 7) * 1000
       let f : RxFrame := { fe := 3, plan := 15, chan := 9, start := (5000000 + r : Nat), hdr := { kind := .ack, dsn := some 255 } }
       let s : State := tn 5 { state := .joined } { State.reset with lanes := [(3, { wait := some w })], mac := { rx := [{}, f] }, rc := 10000000000, tsu := { rcOn := true } }
       (s.mac.rx.filter (fun f => f.hdr.kind = .ack))[0]? = some f ∧ (laneOf s f.fe).wait = some w ∧ nodeLive s w.nix = true ∧ f.aborted = false
         ∧ (f.start - ((w.endAt : Int) + s.rd (MAC_TT_RXACK.RX_ACK_DELAY w.tt) * 1000)).natAbs ≤ s.rd (MAC_TT_RXACK.ACK_WAIT w.tt) * 500
         ∧ f.plan = w.plan ∧ f.chan = w.chan ∧ f.hdr.dsn = some w.dsn
         ∧ w.endAt + s.rd (MAC_TT_RXACK.RX_ACK_DELAY w.tt) * 1000 + s.rd (MAC_TT_RXACK.ACK_WAIT w.tt) * 500 ≤ (s.at 10000000000).rc)
    ∧ (let q : QFrame := { id := 1, retries := 7 }
       let s : State := { State.reset with qms := { nodeQ := [(5, [q])] } }
       (s.node 5).fenced = false ∧ nodeQFind s 5 1 = some q ∧ s.rd MAC_RETRY_CFG.MAX_RETRY ≤ q.retries)
    ∧ (let s : State := tn 262143 { state := .joined, ward := 2 } { tw [(MAC_WARD_QUIET.TIMEOUT_S 2, 1)] with rc := 1000000000, tsu := { rcOn := true } }
       (s.node 262143).state = .joined ∧ (s.node 262143).fenced = false ∧ s.rd (MAC_WARD_QUIET.TIMEOUT_S (s.node 262143).ward) ≠ 0
         ∧ Store.find 0 s.mac.heard 262143 + s.rd (MAC_WARD_QUIET.TIMEOUT_S (s.node 262143).ward) * 1000000000 ≤ (s.at 1000000000).rc) := by decide

/-- A secured frame in guard from node 5 of Ward 0, short address 9, and the state that awaits its verdict. -/
def tFrame (fc : Nat) : RxFrame :=
  { case := .inGuard, endAt := 1000000, engine := some 0, hdr := { pan := 0xABCD, dst := .short 0, src := .short 9, sec := true, level := 5, kidMode := 1, kt := 1, gen := 2, fc := some fc } }
def tVerdict (fc : Nat) : State :=
  tn 5 { state := .joined, kgen := 2, rxKgen := 2, rxFc := 10 }
    { tw [(MAC_CFG.EN, 1), (MAC_WARD_PAN.EN 0, 1), (MAC_WARD_PAN.PAN_ID 0, 0xABCD), (SEC_W_CFG.ACCEPT_MASK 0, 0x20)] with
        mac := { rx := [tFrame fc], sax := [(9, 6)] } }

theorem test_witness_VerdictsDecide :
    (let s := tw [(SEC_CFG.EN, 1), (SEC_ENG_STS.IN_USE, 0x8000), (CHZ_SLICE_STS.STATE 3, 2)]
     s.rd SEC_CFG.EN = 1 ∧ engineIdle s = some 15 ∧ s.rd (CHZ_SLICE_STS.STATE 3) = 2 ∧ (sliceOf s 3).engine = none)
    ∧ (let s := tVerdict 11
       waitingVerdict s 0 = some (0, tFrame 11) ∧ s.rd MAC_CFG.EN = 1 ∧ (tFrame 11).engine ≠ none ∧ s.pair.marking = false
         ∧ wardOf s (tFrame 11).hdr.pan = some 0 ∧ (tFrame 11).aborted = false ∧ (tFrame 11).hdr.progress = none ∧ saxFind s 0 9 = some 5 ∧ nodeLive s 5 = true ∧ forMe s (tFrame 11).hdr.dst = true
         ∧ secCheck s 5 0 (tFrame 11).hdr true = { verdict := .accept } ∧ (tFrame 11).hdr.sec = true ∧ keyDamaged s (s.node 5).keyIx = false)
    ∧ secCheck (tVerdict 9) 5 0 (tFrame 9).hdr true = { verdict := .replay, whey := 1 }
    ∧ waitingVerdict (tVerdict 9) 0 = some (0, tFrame 9)
    ∧ (let f : RxFrame := { tFrame 11 with hdr := { (tFrame 11).hdr with ackReq := true }, verdict := some .accept, nix := some 5 }
       let s : State := { tt 10000000 (tw [(MAC_TT_OPT.ACK_EN 0, 1), (MAC_STS.ASN_RUN, 1), (MAC_LS_STS.STATE 0, 1)]) with mac := { rx := [f], slotAcks := [5] } }
       ackNext (s.air 10000000) (0 : Fin 4) = some f ∧ owns s = true ∧ asnRuns s = true ∧ laneRuns s f.fe = true ∧ (s.air 10000000).reached (ackCommitAt (s.air 10000000) f) = true
         ∧ ((tt 900000 s).air 900000).reached (ackCommitAt ((tt 900000 s).air 900000) f) = false ∧ f.hdr.ackReq = true ∧ f.case = .inGuard ∧ toRoot s f.hdr.dst = true
         ∧ s.rd (MAC_TT_OPT.ACK_EN ((f.cell.map (·.tt)).getD 0)) = 1 ∧ meets f.verdictAt (ackCommitAt (s.air 10000000) f) = true ∧ ackDamaged (s.air 10000000) f = false
         ∧ s.mac.slotAcks.contains (f.nix.getD 0) = true ∧ laneRuns (s.wr (MAC_LS_STS.STATE 0) 0) f.fe = false ∧ (laneOf s 0).burst = none)
    ∧ (let f : RxFrame := { tFrame 9 with hdr := { (tFrame 9).hdr with ackReq := true }, verdict := some .replay }
       let s : State := { tt 10000000 (tw [(MAC_TT_OPT.ACK_EN 0, 1), (MAC_STS.ASN_RUN, 1), (MAC_LS_STS.STATE 0, 1)]) with mac := { rx := [f] } }
       ackNext (s.air 10000000) (0 : Fin 4) = some f ∧ owns s = true ∧ asnRuns s = true ∧ laneRuns s f.fe = true ∧ toRoot s f.hdr.dst = true
         ∧ s.rd (MAC_TT_OPT.ACK_EN ((f.cell.map (·.tt)).getD 0)) = 1 ∧ f.case = .inGuard ∧ (s.air 10000000).reached (ackCommitAt (s.air 10000000) f) = true
         ∧ meets 10000000 (ackCommitAt (s.air 10000000) f) = false ∧ (tFrame 9).hdr.ackReq = false) := by decide

/-- For VERDICT: an accepted frame whose front end is free opens a burst. -/
theorem test_witness_VerdictsDecide_burst :
    let f : RxFrame := { tFrame 11 with hdr := { (tFrame 11).hdr with ackReq := true }, verdict := some .accept, nix := some 5, phyc := 10 }
    let s : State := { tt 1950000 (tw [(MAC_TT_OPT.ACK_EN 0, 1), (MAC_STS.ASN_RUN, 1), (MAC_LS_STS.STATE 0, 1)]) with mac := { rx := [f] } }
    let now := s.air 1950000
    let turn : Nat := ackTurn now f
    let air : Nat := airNs f.phyc (s.rd (CHZ_PLAN_PHY.PRE_LEN f.plan)) (ackLen (ackItem now f))
    let ce : Nat := chanCentre s f.plan f.chan * 2
    let sp : Nat := spacingKhz (s.rd (CHZ_PLAN_GEO.SPACING f.plan))
    ackNext now (0 : Fin 4) = some f ∧ now.reached (ackCommitAt now f) = true ∧ meets f.verdictAt (ackCommitAt now f) = true ∧ ackDamaged now f = false
      ∧ s.mac.slotAcks.contains (f.nix.getD 0) = false ∧ reserved now 0 turn (turn + 36000 + air) = false ∧ (laneOf s 0).burst = none
      ∧ burstMember now 0 { start := turn } f.endAt = true ∧ dcRefuses now (dcRegions now (ce - sp) (ce + sp)) air true = false := by decide +kernel

theorem test_witness_cores :
    (let s := tw [(PCR_CFG.EN, 1), (PCR_C_STS.STATE 7, 2)]; s.rd PCR_CFG.EN = 1 ∧ s.rd (PCR_C_STS.STATE 7) = 2)
    ∧ (tw [(PCR_CFG.EN, 0)]).rd PCR_CFG.EN = 0
    ∧ (let s : State := { tw [(PCR_C_STS.STATE 0, 3), (PCR_C_CTL.WDOG_EN 0, 1)] with rc := 1000000000000, tsu := { rcOn := true } }
       coreHalted s 0 = false ∧ s.rd (PCR_C_STS.STATE 0) = 3 ∧ s.rd (PCR_C_CTL.WDOG_EN 0) = 1
         ∧ Store.find 0 s.pcr.beatAt 0 + s.rd (PCR_C_WDOG_MS.MS 0) * 1000000 ≤ (s.at 1000000000000).rc ∧ debugOk (s.wr SYS_LC_STS.LC 1) = true)
    ∧ (let s : State := { tw [(PCR_C_STS.STATE 0, 4)] with rc := 1000000000000, tsu := { rcOn := true } }
       coreHalted s 0 = false ∧ s.rd (PCR_C_STS.STATE 0) = 4
         ∧ Store.find 0 s.pcr.drainAt 0 + s.rd (PCR_C_DRAIN_TMO.MS 0) * 1000000 ≤ (s.at 1000000000000).rc)
    ∧ (let s := tw [(PCR_C_STS.STATE 7, 5)]; coreHalted s 7 = false ∧ s.rd (PCR_C_STS.STATE 7) = 5)
    ∧ (let s : State := { tw [(SYS_LC_STS.LC, 8), (PCR_C_STS.STATE 1, 3)] with pcr := { halted := [(1, true)] } }
       debugOk s = true ∧ coreHalted s 1 = true ∧ s.rd (PCR_C_STS.STATE 1) = 3) := by decide

/-- For PolicyStoresRespectRegions: an offset in a region that Serac's 6P owns, the last one below it, and one that no region's WR_MASK opens. -/
theorem test_witness_PolicyStoresRespectRegions :
    ([] : List (BitVec 8)).length ≤ 0x400000
    ∧ ((tw [(SRC_CFG.P6_EN, 1)]).rd SRC_CFG.P6_EN = 1 ∧ 0x380000 ≤ ((0x3FFFFF : Fin 0x400000).val + 0) % 0x400000)
    ∧ (State.reset.rd SEC_CFG.EN = 0 ∧ State.reset.rd PCR_CFG.REGION_EN = 0 ∧ ¬ (0x380000 ≤ ((0x37FFFF : Fin 0x400000).val + 0) % 0x400000))
    ∧ (let s := tw [(PCR_CFG.REGION_EN, 1)]; s.rd PCR_CFG.REGION_EN = 1 ∧ ∀ r : Fin 8, s.rd (PCR_REGION_LIM.EN r) = 0) := by decide

theorem test_witness_ScanAndPorts :
    powered State.reset = true ∧ scanOk State.reset = true
    ∧ (let s := tw [(ETH_P_CFG.EN 1, 1), (ETH_P_STS.LINK 1, 1), (ETH_P_CFG.PROMISC 1, 0)]
       let f : EthFrame := { dst := 0x020000000001, len := 64 }
       s.rd (ETH_P_CFG.EN 1) = 1 ∧ s.rd (ETH_P_STS.LINK 1) = 1 ∧ f.damage = 0 ∧ 64 ≤ f.len ∧ f.len ≤ s.rd (ETH_P_MAXLEN.LEN 1) ∧ f.pause = none
         ∧ ethAccepts s 1 f.dst = false ∧ ethAccepts (s.wr (ETH_P_CFG.PROMISC 1) 1) 1 f.dst = true ∧ s.rd PAIR_STS.ROLE = 0)
    ∧ ({ len := 64, pause := some 65535 } : EthFrame).pause = some 65535 ∧ (tw [(PAIR_STS.ROLE, 1)]).rd PAIR_STS.ROLE = 1
    ∧ ({ damage := 1 } : EthFrame).damage = 1 ∧ ({ len := 63 } : EthFrame).len < 64 ∧ State.reset.rd (ETH_P_MAXLEN.LEN 0) < 20000 := by decide

theorem test_witness_faults :
    (let s := tw [(FLT_LATCH.B 0, 2)]; latched s 1 = true ∧ rawSet s 1 = false) ∧ rawSet (tw [(FLT_RAW.B 7, 0x80000000)]) 255 = true
    ∧ FaultSrc.named 1 = true ∧ FaultSrc.named 0 = true ∧ FaultSrc.named 255 = false ∧ State.reset.rd SYS_CFG_LOCK.LOCK = 0
    ∧ latched State.reset 1 = false ∧ (State.reset.rd (FLT_FIRST.W 0)).testBit 8 = false
    ∧ (let s := tt 1 (tw [(FLT_STS.ESC_RUN, 1)])
       s.rd FLT_STS.ESC_RUN = 1 ∧ (s.at 1000000000000).reached (s.flt.escAt + s.rd FLT_ESC_CFG.MS * 970000) = true)
    ∧ (let s : State := { tw [(SYS_BOOT_STS.STAGE, 8)] with rc := 1000000000000000, tsu := { rcOn := true } }
       s.rd SYS_BOOT_STS.STAGE = 8 ∧ s.flt.resetPend = false ∧ s.flt.doneAt + s.rd FLT_RST_CFG.CALM_S * 1000000000 ≤ (s.at 1000000000000000).rc) := by decide

/-- A security state with the journal opened and node 5 joined. -/
def tSec (l : List (Fld × Nat)) : State := tn 5 { state := .joined } { tr l with sec := { opened := true } }

/-! The cryptographic functions, on the values that their standards give. -/

/-- The check values of CRC-32 and of CRC-16/CCITT-FALSE. -/
theorem test_crc : crc32 (ascii "123456789") = 0xCBF43926 ∧ crc16 (ascii "123456789") = 0x29B1 := by decide +kernel

/-- FIPS 197, C.3. -/
theorem test_aes : aesEncrypt (List.range 32) ((List.range 16).map (fun i => 17 * i)) = beOctets 16 0x8EA2B7CA516745BFEAFC49904B496089 := by decide +kernel

/-- FIPS 180-4, the message "abc": the first 8 octets. -/
theorem test_sha512 : (sha512 (ascii "abc")).take 8 = beOctets 8 0xDDAF35A193617ABA := by decide +kernel

/-- RFC 7748, 5.2. -/
theorem test_x25519 :
    x25519 (beOctets 32 0xA546E36BF0527C9D3B16154B82465EDD62144C0AC1FC5A18506A2244BA449AC4) (beOctets 32 0xE6DB6867583030DB3594C1A424B15F7C726624EC26B3353B10A903A6D0AB1C4C)
      = beOctets 32 0xC3DA55379DE9C6908E94EA4DF28D084F32ECCF03491C71F754B4075577A28552 := by decide +kernel

/-- RFC 3394, 4.3: 128 bits of key under a 256-bit KEK. -/
theorem test_key_unwrap :
    kwUnwrap (List.range 32) (beOctets 24 0x64E8C3F9CE0F5BA263E9777905818A2A93C8191E7D6E8AE7) = some ((List.range 16).map (fun i => 17 * i)) := by decide +kernel

/-- That KEK, and that wrapped key, as the numbers that hold their octets. -/
def tKek : Nat := leNat (List.range 32)
def tWrapped : Nat := leNat (beOctets 24 0x64E8C3F9CE0F5BA263E9777905818A2A93C8191E7D6E8AE7)

/-- A wrapped key opens in a state whose Cave slot `k` holds that KEK. -/
theorem test_key_opens (s : State) (k : Nat) (h : slotKey s k 32 = some (List.range 32)) : keyOpen s k tWrapped = some ((List.range 16).map (fun i => 17 * i)) := by
  have e : leOctets 24 tWrapped = beOctets 24 0x64E8C3F9CE0F5BA263E9777905818A2A93C8191E7D6E8AE7 := by decide +kernel
  unfold keyOpen
  rw [h, Option.bind_some, e, test_key_unwrap]

/-- `s` with KTK in Cave slot 0 and HTK in slot 1, both that KEK. -/
def tKeys (s : State) : State := { (s.wr (KEY_SLOT_STS.SLOT_0 0) 3).wr (KEY_SLOT_STS.SLOT_1 0) 3 with cave := { slots := [(0, (0, tKek)), (1, (tKek, 0))] } }

/-- For VERDICT: a key that fails its integrity check under KTK. -/
theorem test_witness_VerdictsDecide_key : keyDamaged (tKeys (tVerdict 11)) 0 = true := by decide +kernel

theorem test_witness_KeysChangeByCommand :
    (let s := tKeys (tSec [])
     s.takes 0 ∧ s.gives 0 { len := 24 } 24 ∧ s.rd SYS_LC_STS.LC ≠ 8 ∧ caveDown s = false ∧ s.sec.opened = true ∧ nodeActive s 5 = true ∧ (s.node 5).fenced = false
      ∧ reserving s 1 5 = false ∧ s.rd SEC_JNL_STS.STATE = 0
      ∧ nodeActive s 262143 = false ∧ Store.find none s.sec.group ((7 : Fin 8).val * 3 + 1) = none
      ∧ 15 ≠ s.rd (SEC_W_GRP.CUR_GEN 7) ∧ 15 ≠ (s.rd (SEC_W_GRP.CUR_GEN 7) + 1) % 16 ∧ slotKey s 0 32 = some (List.range 32) ∧ keyOpen (tSec []) 0 tWrapped = none)
    ∧ (let s := tn 5 { state := .joined, fenced := true } (tSec []); nodeActive s 5 = true ∧ (s.node 5).fenced = true)
    ∧ (tw [(SEC_W_GRP.PREV_VALID 7, 1)]).rd (SEC_W_GRP.PREV_VALID 7) = 1 := by
  unfold State.takes State.ready State.gives; decide

/-- The key of KeysChangeByCommand unwraps. -/
theorem test_witness_KeysChange_key : keyOpen (tKeys (tSec [])) 0 tWrapped ≠ none := by
  rw [test_key_opens _ 0 (by decide)]; exact Option.some_ne_none _

theorem test_witness_JournalCommitsAndCopies :
    (let r : Reserve := { entry := { typ := 1, key := 5, gen := 0, ceil := 9 } }
     let s : State := tn 5 { state := .joined } { tw [(SEC_JNL_STS.STATE, 2), (SEC_JNL_CFG.RING, 0)] with sec := { waiting := [r], ring := [r.entry] } }
     s.rd SEC_JNL_STS.STATE = 2 ∧ s.rd SEC_JNL_STS.ERR ≠ 1 ∧ s.rd SEC_JNL_STS.ERR ≠ 4 ∧ s.sec.waiting.find? (fun r => !r.local_) = some r
       ∧ s.sec.ring.length < 512 * 2 ^ s.rd SEC_JNL_CFG.RING ∧ s.sec.waiting = [r] ∧ s.sec.behind = [] ∧ (s.node r.entry.key).fenced = false ∧ r.entry.typ = 1 ∧ r.entry.gen < 16 ∧ r.entry.ceil < 2 ^ 32 ∧ roleOf s = roleSolo ∧ nodeActive s r.entry.key = true
       ∧ (s.node r.entry.key).kgen = r.entry.gen ∧ s.sec.ring = [r.entry])
    ∧ (tw [(SEC_JNL_STS.ERR, 4)]).rd SEC_JNL_STS.ERR = 4 ∧ (tw [(SEC_JNL_STS.STATE, 3)]).rd SEC_JNL_STS.STATE = 3 := by decide

/-- A full ring: 512 records at RING 0. -/
def tFull : State := { tw [(SEC_JNL_CFG.RING, 0), (SEC_JNL_STS.STATE, 2)] with sec := { ring := List.replicate 512 {}, waiting := [{ entry := {} }] } }

theorem test_witness_JournalFull :
    512 * 2 ^ tFull.rd SEC_JNL_CFG.RING ≤ tFull.sec.ring.length ∧ tFull.rd SEC_JNL_STS.STATE = 2 ∧ tFull.sec.waiting.find? (fun r => !r.local_) = some { entry := {} } := by
  refine ⟨?_, by decide, by decide⟩
  show _ ≤ (List.replicate 512 ({} : JnlRec)).length
  rw [List.length_replicate]; decide

/-- A device with header copy A, clean, of domain 7. -/
def tHeader : JnlHeader := { domain := 7, clean := true, hseq := 1 }
@[irreducible] def tDev : Memory := hdrPut false tHeader []
def tJnl (l : List (Fld × Nat)) : State := { tw ([(SEC_JNL_CFG.RING, 0)] ++ l) with jdev := { mem := tDev } }

/-- What the device reads as: the header in copy A, none in copy B, no record in the ring. -/
theorem test_jnl_a : hdrOf tDev false = tHeader := by decide +kernel
theorem test_jnl_b : (hdrOf tDev true).valid = false := by decide +kernel
theorem test_jnl_empty : ringRecords tDev 512 = [] := by decide +kernel

theorem test_jnl_ring : ringRecords (tJnl [(SEC_JNL_STS.STATE, 1)]).jdev.mem (jnlRingSize (tJnl [(SEC_JNL_STS.STATE, 1)])) = [] := by
  have e : jnlRingSize (tJnl [(SEC_JNL_STS.STATE, 1)]) = 512 := by decide
  exact e ▸ test_jnl_empty

theorem test_jnl_found (l : List (Fld × Nat)) : jnlHeader (tJnl l) = some (false, tHeader) := by
  have e : ∀ (s : State) (x : JnlHeader), hdrOf s.jdev.mem false = x → x.valid = true → (hdrOf s.jdev.mem true).valid = false → jnlHeader s = some (false, x) := by
    intro s x a v b
    unfold jnlHeader
    simp only [a, b, v]
  exact e (tJnl l) tHeader test_jnl_a rfl test_jnl_b

theorem test_witness_JournalOpensAndCloses :
    (jnlHeader State.reset = none ∧ State.reset.rd SEC_JNL_STS.STATE = 0)
    ∧ ((tJnl []).rd SEC_JNL_STS.STATE = 0 ∧ jnlHeader (tJnl []) = some (false, tHeader))
    ∧ (let s := tJnl [(SEC_JNL_STS.STATE, 1)]
       s.rd SEC_JNL_STS.STATE = 1 ∧ ringRecords s.jdev.mem (jnlRingSize s) = [] ∧ jnlHeader s = some (false, tHeader) ∧ tHeader.hseq + 1 < 2 ^ 32)
    ∧ (let s := tJnl [(SEC_JNL_STS.STATE, 3)]
       jnlHeader s = some (false, tHeader) ∧ s.rd SEC_JNL_STS.STATE = 3 ∧ s.sec.passOn = false ∧ s.sec.ring = [] ∧ s.sec.waiting = [])
    ∧ (let s : State := { State.reset with sec := { formatting := true, passOn := true } }; s.sec.formatting = true ∧ 262143 < nixLimit (s.wr SEC_JNL_CFG.SIZE_LOG2 2) ∧ s.sec.passOn = true)
    ∧ (let s := tt 1000000000000000 (tw [(SEC_JNL_STS.STATE, 2)])
       s.rd SEC_JNL_STS.STATE = 2 ∧ (s.at 1000000000000000).reached (s.sec.snapAt + s.rd SEC_SNAP_CFG.PERIOD_S * 1000000000) = true
         ∧ (tt 0 (s.wr SEC_SNAP_CFG.PERIOD_S 60)).reached (s.sec.snapAt + (s.wr SEC_SNAP_CFG.PERIOD_S 60).rd SEC_SNAP_CFG.PERIOD_S * 1000000000) = false) := by
  refine ⟨⟨by decide, by decide⟩, ⟨by decide, test_jnl_found _⟩, ⟨by decide, test_jnl_ring, test_jnl_found _, by decide⟩, ⟨test_jnl_found _, by decide, by decide, by decide, by decide⟩, by decide, by decide⟩

theorem test_witness_JournalOctetsReadBack :
    (let h : JnlHeader := { domain := 4095, sizeLog2 := 255, ring := 255, hseq := 2 ^ 32 - 1, ggen := List.replicate 8 15 }
     h.domain < 4096 ∧ h.sizeLog2 < 256 ∧ h.ring < 256 ∧ h.hseq < 2 ^ 32 ∧ h.ggen.length = 8 ∧ (∀ g ∈ h.ggen, g < 16) ∧ h.gceil.length = 8 ∧ (∀ c ∈ h.gceil, c < 2 ^ 32))
    ∧ (let r : JnlRec := { typ := 1, key := 262143, gen := 15, seq := 2 ^ 32 - 1, ceil := 2 ^ 32 - 1 }
       (r.typ = 1 ∧ r.key < 2 ^ 18) ∧ r.gen < 16 ∧ r.seq < 2 ^ 32 ∧ r.ceil < 2 ^ 32)
    ∧ (let e : JnlEntry := { gen := 15, snap := 2 ^ 32 - 1, ceil := 2 ^ 32 - 1 }; e.gen < 16 ∧ e.snap < 2 ^ 32 ∧ e.ceil < 2 ^ 32) := by decide

theorem test_witness_TimeStepsAreRefusedOrTaken :
    (let s := tw [(TSU_STS.REF, 1)]
     ¬ (s.rd MAC_STS.ASN_RUN = 1 ∨ s.rd TSU_SERVO_STS.STATE = 1 ∨ s.rd TSU_SERVO_STS.STATE = 2 ∨ s.rd TSU_STS.REF = 0))
    ∧ State.reset.rd TSU_STS.REF = 0
    ∧ (let s := tw [(TSU_SERVO_CFG.EN, 1), (TSU_SERVO_CFG.SRC, 3), (TSU_SERVO_STS.STATE, 1), (TSU_SERVO_CFG.STEP_EN, 1)]
       s.rd TSU_SERVO_CFG.EN = 1 ∧ s.rd TSU_SERVO_CFG.SRC = 3 ∧ s.rd TSU_SERVO_STS.STATE = 1 ∧ s.rd TSU_SERVO_CFG.STEP_EN = 1 ∧ s.rd MAC_STS.ASN_RUN = 0
         ∧ (s.rd TSU_SERVO_STEP_THR.NS : Int) < (sgn 32 0x80000000).natAbs) := by decide

/-- A servo in state `k` with source HOST. -/
def tServo (k : Nat) (l : List (Fld × Nat)) : State := tw ([(TSU_SERVO_CFG.EN, 1), (TSU_SERVO_CFG.SRC, 3), (TSU_SERVO_STS.STATE, k)] ++ l)

theorem test_witness_ServoFollowsItsStates :
    (let s := tServo 1 [(TSU_SERVO_CFG.STEP_EN, 0)]
     s.rd TSU_SERVO_CFG.EN = 1 ∧ s.rd TSU_SERVO_CFG.SRC = 3 ∧ s.rd TSU_SERVO_STS.STATE = 1 ∧ (s.rd TSU_SERVO_STEP_THR.NS : Int) < (sgn 32 0x7FFFFFFF).natAbs
       ∧ s.rd TSU_SERVO_CFG.STEP_EN = 0 ∧ ((sgn 32 0).natAbs : Int) ≤ s.rd TSU_SERVO_STEP_THR.NS ∧ (sgn 32 0).natAbs ≤ s.rd TSU_SERVO_LOCK_CFG.LOCK_THR)
    ∧ (let s := tServo 2 []
       s.rd TSU_SERVO_STS.STATE = 2 ∧ s.tsu.settle = false ∧ s.rd TSU_SERVO_PD_CFG.PD_STEP_LIMIT < (sgn 32 0x80000000).natAbs
         ∧ (sgn 32 (unsg 32 (s.rd TSU_SERVO_PD_CFG.PD_STEP_LIMIT))).natAbs ≤ s.rd TSU_SERVO_PD_CFG.PD_STEP_LIMIT)
    ∧ (let s := tServo 3 [(TSU_SERVO_STS.CAUSE, 1)]; s.rd TSU_SERVO_STS.STATE = 3 ∧ s.rd TSU_SERVO_STS.CAUSE ≠ 0)
    ∧ (let s : State := { tServo 3 [] with tsu := { kept := [100, 200] } }
       s.rd TSU_SERVO_STS.STATE = 3 ∧ s.rd TSU_SERVO_STS.CAUSE = 0 ∧ s.tsu.kept ≠ [])
    ∧ State.reset.rd TSU_SERVO_CFG.EN = 0 ∧ State.reset.rd TSU_SERVO_STS.STATE ≠ 3
    ∧ (let s : State := { tServo 2 [] with rc := 1000000000000, tsu := { rcOn := true } }
       s.rd TSU_SERVO_STS.STATE = 2 ∧ s.tsu.last + s.rd TSU_SERVO_HOLD_CFG.LOSS_S * 1000000000 ≤ (s.at 1000000000000).rc) := by decide

theorem test_witness_SlewsPulsesAndCaptures :
    (let s : State := { State.reset with tsu := { rcOn := true, slew := some (5, 0, 1) } }
     s.tsu.slew ≠ none ∧ slewLeft (s.at 4999999999) ≠ 0 ∧ slewLeft (s.at 5000000000) = 0 ∧ s.tsu.rcOn = true)
    ∧ (let s := tw [(TSU_PO_START_NS.NS 3, 500)]; s.rd (TSU_PO_CTL.ARM 3) = 0 ∧ ((s.at 0).tsuNs : Int) + 500 ≤ pulseStart s 3)
    ∧ (let s := tw [(TSU_PO_START_NS.NS 3, 499), (TSU_PO_PERIOD.NS 3, 1)]
       s.rd (TSU_PO_CTL.ARM 3) = 0 ∧ pulseStart s 3 < ((s.at 0).tsuNs : Int) + 500 ∧ 0 < s.rd (TSU_PO_PERIOD.NS 3))
    ∧ (let s : State := { tw [(TSU_PO_CTL.ARM 3, 1)] with tsu := { pulses := [(3, { next := some 2 })] } }
       s.rd (TSU_PO_CTL.ARM 3) = 1 ∧ (pulseOf s 3).endAt = none ∧ (pulseOf s 3).next = some 2 ∧ (2 : Int) ≤ ((s.at 0).tsuNs : Int) + 2)
    ∧ (let s : State := { tw [(TSU_CI_CTL.EN 3, 1), (TSU_CI_CTL.EDGE 3, 1), (TSU_CI_CTL.FILT 3, 4)] with rc := 100, tsu := { rcOn := true, caps := [(3, { fifo := [(7, 8, true)], last := some 0 })] } }
       s.rd (TSU_CI_CTL.EN 3) = 1 ∧ 15 < s.rd (TSU_CI_CTL.FILT 3) * 4 ∧ s.rd (TSU_CI_CTL.FILT 3) * 4 ≤ 16 ∧ (s.rd (TSU_CI_CTL.EDGE 3) = 0 → true = false) ∧ (Store.find ({} : Capture) s.tsu.caps 3).last = some 0 ∧ 0 + 100 ≤ (s.at 100).rc
         ∧ (Store.find ({} : Capture) s.tsu.caps 3).fifo = (7, 8, true) :: [])
    ∧ (let s : State := { State.reset with tsu := { caps := [(3, { fifo := List.replicate 16 (7, 8, true) })] } }
       16 ≤ (Store.find ({} : Capture) s.tsu.caps 3).fifo.length ∧ (Store.find ({} : Capture) s.tsu.caps 3).last = none) := by decide

theorem test_witness_PtpEnginesPlayTheirRole :
    (let s := tw [(TSU_CFG.TC_EN, 1)]
     let m : PtpMsg := { mtype := 0, forwardable := true }
     s.rd (TSU_P_CFG.EN 1) = 0 ∧ (s.rd TSU_CFG.TC_EN = 1 && m.forwardable && !isPdelay m.mtype.val && !(isEvent m.mtype.val && m.v6 && !m.trailer)) = true)
    ∧ State.reset.rd (TSU_P_CFG.EN 1) = 0 ∧ isPdelay 2 = true ∧ ({ mtype := 0 } : PtpMsg).forwardable = false
    ∧ (let s := tw [(TSU_P_CFG.EN 1, 1), (TSU_P_CFG.DOMAIN 1, 4)]; s.rd (TSU_P_CFG.EN 1) = 1 ∧ ({ mtype := 0 } : PtpMsg).domain ≠ s.rd (TSU_P_CFG.DOMAIN 1))
    ∧ (let d : DelayReq := { seq := 0, at_ := 0 }
       let s : State := { tw [(TSU_P_CFG.EN 1, 1), (TSU_P_CFG.ROLE 1, 2), (TSU_P_CFG.DOMAIN 1, 0), (TSU_STS.REF, 1), (CLK_ISL_STS.ON_REF 2, 1)] with
         rc := 64000000000, tsu := { rcOn := true, ports := [(1, { sync := some (9, 5, 0), dreqs := [d] })] } }
       let m : PtpMsg := { mtype := 8, seq := 9, port := s.rd (TSU_P_PAR_NUM.PORT 1), clock := s.rd (TSU_P_PAR_LO.ID 1) + 2 ^ 32 * s.rd (TSU_P_PAR_HI.ID 1) }
       s.rd (TSU_P_CFG.EN 1) = 1 ∧ m.domain = s.rd (TSU_P_CFG.DOMAIN 1) ∧ s.rd (TSU_P_CFG.ROLE 1) = 2 ∧ s.rd TSU_STS.REF = 1 ∧ s.rd (CLK_ISL_STS.ON_REF 2) = 1 ∧ m.l2 = true
         ∧ (m.clock = s.rd (TSU_P_PAR_LO.ID 1) + 2 ^ 32 * s.rd (TSU_P_PAR_HI.ID 1) && m.port = s.rd (TSU_P_PAR_NUM.PORT 1)) = true
         ∧ ({ m with port := m.port + 1 } : PtpMsg).port ≠ s.rd (TSU_P_PAR_NUM.PORT 1) ∧ { m with mtype := 0, twoStep := true }.twoStep = true
         ∧ (ptpOf s 1).sync = some (m.seq, 5, 0) ∧ ((tt 0 s).at 1).rc ≤ (ptpOf s 1).syncRc + syncNs s 1 ∧ (ptpOf s 1).dreqs = d :: []
         ∧ (s.at 64000000000).reached ((ptpOf s 1).syncRc + syncNs s 1) = true ∧ (s.at 64000000000).reached (d.at_ + dreqNs s 1) = true
         ∧ (s.at 64000000000).reached ((ptpOf s 1).dreqAt + dreqNs s 1 * 3 / 4) = true ∧ ((tt 1 s).at 1).reached ((ptpOf s 1).dreqAt + dreqNs s 1 * 3 / 4) = false)
    ∧ (let s := tt 1 (tw [(TSU_P_CFG.EN 0, 1), (TSU_P_CFG.ROLE 0, 3)])
       s.rd (TSU_P_CFG.EN 0) = 1 ∧ s.rd (TSU_P_CFG.ROLE 0) = 3 ∧ (s.at (syncNs s 0)).reached ((ptpOf s 0).syncAt + syncNs s 0) = true
         ∧ (s.at (syncNs s 0 - 1)).reached ((ptpOf s 0).syncAt + syncNs s 0) = false) := by decide

theorem test_witness_GatesRuleEgress :
    (portOf State.reset 0).busy = none ∧ State.reset.rd (ETH_P_STS.LINK 0) = 0
    ∧ (let s : State := { tw [(ETH_P_STS.LINK 1, 1)] with qms := { ports := [(1, { fifos := [(2, [{ len := 64 }]), (7, [{ len := 65 }])] })] } }
       (portOf s 1).busy = none ∧ s.rd (ETH_P_STS.LINK 1) = 1 ∧ s.rd CEL_PWR_STS.STATE ≠ 2 ∧ (portOf s 1).pauseEnd ≤ (s.at 0).rc ∧ s.rd (SHP_GATE_CTL.EN 1) = 0
         ∧ owns s = true ∧ egrOf s 1 7 = { len := 65 } :: [] ∧ ∀ d : Fin 8, (7 : Fin 8) < d → egrOf s 1 d = [])
    ∧ (let s : State := { tw [(TSU_STS.REF, 1), (CLK_ISL_STS.ON_REF 2, 1)] with qms := { ports := [(1, { busy := some { ingress := some 5 } })] } }
       (portOf s 1).busy = some { ingress := some 5 } ∧ s.rd TSU_STS.REF = 1 ∧ s.rd (CLK_ISL_STS.ON_REF 2) = 1)
    ∧ 0 < (tw [(SHP_GATE_CYCLE.NS 1, 1)]).rd (SHP_GATE_CYCLE.NS 1)
    ∧ (let g : GateList := { len := 1, cycle := 1000, entries := [255], start := 0 }
       let s : State := { tw [(SHP_GATE_CTL.EN 1, 1)] with qms := { ports := [(1, { pendingList := some g, running := some g })] } }
       (portOf s 1).pendingList = some g ∧ g.start ≤ (s.at 0).tsuNs ∧ (portOf s 1).running = some g ∧ s.rd (SHP_GATE_CTL.EN 1) = 1
         ∧ (s.at 0).tsuNs < ({ g with start := 1 } : GateList).start) := by decide

theorem test_witness_WardShaperWorksInDeficit :
    (let s : State := { tw [(QMS_CFG.EN, 1), (SHP_CFG.EN, 1), (SHP_WDS.RATE 63, 8)] with qms := { downQ := [(63, [{ ipLen := 40 }])] } }
     downQOf s 7 7 = { ipLen := 40 } :: [] ∧ s.rd QMS_CFG.EN = 1 ∧ s.rd SHP_CFG.EN = 1 ∧ s.rd (SHP_WDS.RATE (7 * 8 + 7)) ≠ 0
       ∧ (Store.find ({} : Bucket) s.qms.shaper 63).fresh = true ∧ (0 : Int) ≤ (s.rd (SHP_WDS.BURST 63) * 64 * 8 * 1000000 : Nat))
    ∧ (let s : State := { tw [(QMS_CFG.EN, 1), (SHP_CFG.EN, 1), (SHP_WDS.RATE 63, 8), (SHP_WDS.BURST 63, 1)] with
         qms := { downQ := [(63, [{ ipLen := 40 }])], shaper := [(63, { fresh := false, c := -1 })] } }
       let b : Bucket := Store.find {} s.qms.shaper 63
       min ((s.rd (SHP_WDS.BURST 63) * 64 * 8 * 1000000 : Nat) : Int) (b.c + (s.rd (SHP_WDS.RATE 63) * ((s.at 0).rc - b.at_) : Nat)) < 0)
    ∧ (tw [(SHP_WDS.RATE 0, 0)]).rd (SHP_WDS.RATE 0) = 0 := by decide

theorem test_witness_MetersCalendarAndDrain :
    (let s : State := { tw [(HIF_CFG.EN, 1), (HIF_R_CFG.EN 32, 1), (HIF_R_CFG.SIZE_LOG2 32, 6), (HIF_R_IDX.TAIL 32, 1), (QMS_CFG.EN, 1)] with qms := { upQ := [(7, [{ cls := 7, len := 60 }])] } }
     s.rd QMS_CFG.EN = 1 ∧ upQOf s 0 7 = { cls := 7, len := 60 } :: [] ∧ (∀ d : Fin 8, (7 : Fin 8) < d → upQOf s 0 d = []) ∧ s.rd (FWD_W_UPLINK.GW 0) = 0
       ∧ rxFree s (s.rd (FWD_W_UPLINK.RING 0)) = true ∧ backlogOf s (s.rd (FWD_W_UPLINK.RING 0)) = []
       ∧ (let d := descIn s (32 + s.rd (FWD_W_UPLINK.RING 0)) { w2 := 64 }
          slotBad s (32 + s.rd (FWD_W_UPLINK.RING 0)) = false ∧ rxSize d ≠ 0 ∧ locBad s (32 + s.rd (FWD_W_UPLINK.RING 0)) (rxAddr d) (min 60 (rxSize d)) = false))
    ∧ rxFree State.reset 0 = false
    ∧ (let s := tw [(QMS_CFG.EN, 1), (FWD_W_UPLINK.GW 0, 1)]
       s.rd (FWD_W_UPLINK.GW 0) = 1 ∧ ({ ports := [1] } : UpPacket).ports = [(1 : Fin 2).val] ∧ s.rd (SHP_EGR_CNT.FRAMES 1) < 65535) := by decide

/-- Everything a downlink packet of 100 octets to node 3 of Ward 1, one hop away, needs: an enabled plan of PHY class 10, the curd pool and a short address. -/
def tDown : State :=
  tn 3 { state := .joined, parentRoot := true }
    { tw [(FWD_CFG.EN, 1), (QMS_CFG.EN, 1), (FWD_W_CFG.SRC_CHECK 1, 0), (MAC_WARD_PAN.EN 1, 1), (FWD_W_PFX_HI.PFX 1, 0x20010DB8), (FWD_W_CFG.PHYC 1, 10), (CHZ_PLAN_FE.EN 0, 1),
        (CHZ_PLAN_PHY.CLASS_MASK 0, 0x400), (MAC_SLOT_LEN.LEN_US, 200000)] with
        mac := { sax := [(65536 + 7, 4)] } }

/-- The same with node 3 behind node 9: PATH entry 0 of node 3 lists it, and the source route is 6LoRH. -/
def tRouted : State :=
  { tDown.wr (FWD_W_CFG.LORH 1) 1 with
    nodes := [(3, { state := .joined, short := 7 }), (9, { state := .joined, short := 8 })]
    fwd := { paths := [(0, { owner := 3, valid := true, ward := 1, hops := [9] })] } }

/-- A delivered frame of Ward 1, and the packet in it. -/
def tDel : Delivered := { nix := 3, ward := 1, len := 60, policed := false, rc := 0, asn := 0 }
def tUp : UpContent := { forms := [.ipv6], pkt := { dst := .full { pfx := 1 }, pkt := { len := 60 } } }

set_option maxRecDepth 20000 in
theorem test_witness_Pipelines_up :
    (tDel.policed = false ∧ tUp.frag = none ∧ tUp.inner = [] ∧ tUp.pkt.rpl = false ∧ tDel.ward < 8 ∧ ({ tDel with policed := true } : Delivered).policed = true)
    ∧ (let s : State := { tDown with qms := { delivered := [tDel] } }
       let q := upPacket s 1 tUp.pkt
       State.reset.qms.delivered = [] ∧ s.qms.delivered = tDel :: [] ∧ s.rd FWD_CFG.EN = 1
         ∧ poolOk s 1 (curdsOf tDel.len) = true ∧ poolOk (s.wr QMS_CFG.EN 0) 1 (curdsOf tDel.len) = false
         ∧ [LowForm.mesh].all (lowForm s 1) = false ∧ tUp.forms.all (lowForm s 1) = true
         ∧ s.rd (FWD_W_CFG.SRC_CHECK 1) = 0 ∧ (∀ h ∈ q.head.ext, h.kind ≠ 2) ∧ isBastis s 1 q.head.dst = false ∧ isMulticast q.head.dst = false
         ∧ 1 < q.head.hop ∧ (upPacket s 1 { tUp.pkt with pkt := { head := { hop := 1 }, len := 60 } }).head.hop ≤ 1 ∧ wardOfIp s q.head.dst = none
         ∧ s.rd SHP_CFG.EN = 0 ∧ s.rd (QMS_CQ.CURDS (1 * 8 + (dscpClass s q.head.dscp).1)) + curdsOf tDel.len ≤ s.rd (QMS_W_LIM_UP.CQ_MAX 1))
    ∧ (let s := tDown
       poolOk s 2 (curdsOf tDel.len) = true ∧ s.rd FWD_REASM_CFG.MAX_DGRAM < 2048 ∧ 1280 ≤ s.rd FWD_REASM_CFG.MAX_DGRAM ∧ 56 < 1280 ∧ s.qms.reasm = [] ∧ 0 < s.rd FWD_REASM_CFG.PER_NODE)
    ∧ (let x : Reasm := { ward := 1, nix := 3, size := 1280, tag := 1, opened := 0 }
       let s : State := { tt 1000000000000 State.reset with qms := { reasm := [x] } }
       s.qms.reasm.find? (fun y => y.opened + s.rd FWD_REASM_CFG.TIMEOUT_S * 1000000000 ≤ (s.at 1000000000000).rc) = some x) := by decide

set_option maxRecDepth 20000 in
theorem test_witness_PipelinesTakeTheOldest :
    State.reset.fwd.down = []
    ∧ (let e : DownItem := { pkt := { head := { dst := { pfx := wardPfx tDown 1, iid := 0x000000FFFE000007 } }, len := 100 } }
       let dst := e.pkt.head.dst
       let s : State := { tDown with fwd := { down := [e] } }
       let oct := downOctets s 1 (linkAddr (s.node 3)) (outerHdr 1 3 [] s).1 e.pkt
       s.fwd.down = e :: [] ∧ s.rd FWD_CFG.EN = 1 ∧ e.bcast = none ∧ dst.pfx / 2 ^ 56 ≠ 0xFF ∧ wardOfIp s dst = some (1 : Fin 8).val ∧ e.src ≠ 1 ∧ shortIid dst.iid = some 7
         ∧ ({ e with src := 1, pkt := { head := { dst := dst, hop := 1 } } } : DownItem).pkt.head.hop ≤ 1
         ∧ saxFind s 1 7 = some 3 ∧ saxFind s 1 8 = none ∧ (s.wr FWD_CFG.MISS_HOST 0).rd FWD_CFG.MISS_HOST = 0 ∧ nodeActive s 3 = true ∧ e.pkt.len ≤ s.rd FWD_CFG.MESH_MTU ∧ (routeTo 1 3 s).1 = some []
         ∧ fragments (frameLimit s 1 3) (frameOverhead s 1 ((s.node 3).short = 0xFFFE)) oct.1 oct.2 (pktBody e.pkt) = some ([frameOverhead s 1 false + oct.1 + pktBody e.pkt], false)
         ∧ poolOk s 0 1 = true ∧ curdsOf (frameOverhead s 1 false + oct.1 + pktBody e.pkt) = 1 ∧ s.rd (QMS_CQ.CURDS (64 + 1 * 8 + 0)) + 1 ≤ s.rd (QMS_W_LIM_DN.CQ_MAX 1))
    ∧ (let e : DownItem := { pkt := { head := { dst := { pfx := wardPfx tDown 1, iid := 0x000000FFFE000007 } }, len := 100 } }
       let s : State := { tRouted with fwd := { tRouted.fwd with down := [e] } }
       let oct := downOctets s 1 (linkAddr (s.node 9)) (outerHdr 1 3 [9] s).1 e.pkt
       s.fwd.down = e :: [] ∧ nodeActive s 3 = true ∧ saxFind s 1 7 = some 3 ∧ (routeTo 1 3 s).1 = some [9] ∧ poolOk s 0 1 = true
         ∧ fragments (frameLimit s 1 9) (frameOverhead s 1 ((s.node 9).short = 0xFFFE)) oct.1 oct.2 (pktBody e.pkt) = some ([frameOverhead s 1 false + oct.1 + pktBody e.pkt], false)
         ∧ curdsOf (frameOverhead s 1 false + oct.1 + pktBody e.pkt) = 1)
    ∧ wardOfIp State.reset { pfx := 1 } = none ∧ ({ pfx := 0xFF02000000000000 } : Ip).pfx / 2 ^ 56 = 0xFF := by decide

/-- The first way of the first bucket of a key of class `c` under the seed of reset. -/
def tWay (key c w : Nat) : Nat := (fwtCands (fwtHash (State.reset.rd FWD_HASH_CUR.SEED) key c w)).1 * 4

set_option maxRecDepth 20000 in
theorem test_witness_ForwardingCommandsAnswer :
    (let s := tr []
     let e : FwtEntry := { key := 7, kind := .aliased, ward := 2 }
     s.takes 0 ∧ s.gives 0 { len := 16 } 16 ∧ s.gives 0 { len := 64 } 64 ∧ s.gives 0 { len := 4 } 4 ∧ ({ len := 15 } : CmdHead).len < 16 ∧ fwtOperand e = true ∧ fwtOperand { e with ward := 8 } = false ∧ fwtFind s 7 0 2 = none ∧ s.rd FWD_STS.RESHARD = 0
       ∧ freeWay s (fwtCands (fwtHash (s.rd FWD_HASH_CUR.SEED) 7 0 2)).1 = some (tWay 7 0 2) ∧ (fwtHead s 65535).ver = 0 ∧ (∀ i : Fin 4, (fwtAt s (65535 * 4 + i)).kind ≠ .node))
    ∧ (let s : State := { tr [] with fwd := { ways := [(tWay 7 0 2, { key := 7, kind := .aliased, ward := 2 })] } }
       s.takes 0 ∧ fwtFind s 7 0 2 = some (tWay 7 0 2) ∧ (fwtAt s (tWay 7 0 2)).kind = .aliased)
    ∧ (let s : State := { tr [] with fwd := { ways := [(tWay 7 0 2, { key := 7, kind := .node, ward := 2 })] } }
       s.takes 0 ∧ fwtFind s 7 0 2 = some (tWay 7 0 2) ∧ (fwtAt s (tWay 7 0 2)).kind = .node)
    ∧ ((tr [(FWD_STS.RESHARD, 3)]).takes 0 ∧ (tr [(FWD_STS.RESHARD, 3)]).rd FWD_STS.RESHARD ≠ 0)
    ∧ (let p : PathEntry := { owner := 262143, ward := 7, hops := List.replicate 16 262143 }
       p.hops ≠ [] ∧ p.hops.length ≤ 16 ∧ p.owner < 262144 ∧ p.ward < 8 ∧ ∀ h ∈ p.hops, h < 262144) := by
  unfold State.takes State.ready State.gives; decide

set_option maxRecDepth 20000 in
theorem test_witness_FirnLearnsAgesAndReshards :
    (let s : State := { State.reset with fwd := { learn := [{ key := 9, port := 1 }] } }
     s.fwd.learn = { key := 9, port := 1 } :: [] ∧ fwtFind s 9 1 0 = none ∧ s.rd FWD_STS.RESHARD = 0
       ∧ freeWay s (fwtCands (fwtHash (s.rd FWD_HASH_CUR.SEED) 9 1 0)).1 = some (tWay 9 1 0))
    ∧ (let s : State := { State.reset with fwd := { learn := [{ key := 9, port := 1 }], ways := [(tWay 9 1 0, { key := 9, kind := .station, port := 1 })] } }
       fwtFind s 9 1 0 = some (tWay 9 1 0) ∧ (fwtAt s (tWay 9 1 0)).kind = .station ∧ (fwtAt s (tWay 9 1 0)).isStatic = false ∧ (fwtAt s (tWay 9 1 0)).port = 1
         ∧ (fwtAt s (tWay 9 1 0)).moveCand = false)
    ∧ (let s : State := { tw [(FWD_LEARN_CFG.MOVE_HYST, 2)] with fwd := { learn := [{ key := 9, port := 1 }], ways := [(tWay 9 1 0, { key := 9, kind := .station, port := 0 })] } }
       let q : State := { s with fwd := { s.fwd with ways := [(tWay 9 1 0, { key := 9, kind := .station, port := 0, moveCand := true, movePort := 1, moveCnt := 1 })] } }
       fwtFind s 9 1 0 = some (tWay 9 1 0) ∧ (fwtAt s (tWay 9 1 0)).kind = .station ∧ (fwtAt s (tWay 9 1 0)).isStatic = false ∧ (fwtAt s (tWay 9 1 0)).port ≠ 1
         ∧ (fwtAt s (tWay 9 1 0)).moveCand = false ∧ 1 < s.rd FWD_LEARN_CFG.MOVE_HYST ∧ fwtFind q 9 1 0 = some (tWay 9 1 0) ∧ (fwtAt q (tWay 9 1 0)).port ≠ 1
         ∧ (fwtAt q (tWay 9 1 0)).moveCand = true ∧ (fwtAt q (tWay 9 1 0)).movePort = 1 ∧ q.rd FWD_LEARN_CFG.MOVE_HYST ≤ min 15 ((fwtAt q (tWay 9 1 0)).moveCnt + 1))
    ∧ (tw [(FWD_FIRN_CFG.EN, 0)]).rd FWD_FIRN_CFG.EN = 0
    ∧ (let s : State := { tw [(FWD_FIRN_CFG.EN, 1), (FWD_FIRN_STS.POS, 65535)] with fwd := { ways := [(262143, { kind := .station, age := 1 })] } }
       s.rd FWD_FIRN_CFG.EN = 1 ∧ s.fwd.firnAgain = [] ∧ s.fwd.firnVat = 0 ∧ s.rd FWD_FIRN_STS.POS = (65535 : Fin 65536).val ∧ ((tt 1000000000000 s).at 1000000000000).reached (s.fwd.firnAt + firnGap s) = true ∧ s.rd FWD_STS.RESHARD = 0
         ∧ (∀ j : Fin 4, (fwtAt s (65535 * 4 + j)).poisoned = false) ∧ (fwtAt s (65535 * 4 + 3)).kind = .station ∧ owns s = true)
    ∧ (let s : State := { tw [(FWD_FIRN_CFG.EN, 1), (FWD_STS.RESHARD, 3)] with fwd := { firnVat := 4097, cleanSweep := true } }
       s.rd FWD_FIRN_CFG.EN = 1 ∧ s.fwd.firnVat = 4097 ∧ s.rd FWD_STS.RESHARD = 3 ∧ s.fwd.cleanSweep = true
         ∧ s.nodes.all (fun x => !x.2.noFwt) = true ∧ (fwtPlaced s).all (fun x => !(fwtAt s x).shadow) = true)
    ∧ (let s := tn 262143 { state := .joined } (tw [(FWD_FIRN_CFG.EN, 1)]); s.rd FWD_FIRN_CFG.EN = 1 ∧ nodeActive s 262143 = true)
    ∧ (let s : State := { tw [(FWD_STS.RESHARD, 1), (FWD_HASH_NEXT.SEED, 5)] with fwd := { ways := [(8, { key := 7, kind := .station })] } }
       s.rd FWD_STS.RESHARD = 1 ∧ s.rd FWD_STS.ABORTING = 0 ∧ nextShadow s false ((fwtPlaced s).filter (fun p => s.fwd.walk ≤ p) ++ fwtPlaced s) = some 8
         ∧ (fwtAt s 8).kind ≠ .node ∧ (fwtAt s 8).poisoned = false
         ∧ freeWay s (fwtCands (fwtHash (s.rd FWD_HASH_NEXT.SEED) (fwtAt s 8).key (fwtCls (fwtAt s 8).kind) (fwtAt s 8).ward)).1
             = some ((fwtCands (fwtHash 5 7 1 0)).1 * 4))
    ∧ (let s := tw [(FWD_STS.RESHARD, 1)]
       s.rd FWD_STS.ABORTING = 0 ∧ nextShadow s false ((fwtPlaced s).filter (fun p => s.fwd.walk ≤ p) ++ fwtPlaced s) = none)
    ∧ (let s := tw [(FWD_STS.RESHARD, 1), (FWD_STS.ABORTING, 1)]
       s.rd FWD_STS.ABORTING = 1 ∧ nextShadow s true ((fwtPlaced s).reverse.filter (fun p => p < s.fwd.walk) ++ (fwtPlaced s).reverse) = none) := by decide

theorem test_witness_NodeAdd :
    (let s := tKeys (tr [])
     let b : NodeBlock := { eui := 1, short := 0xFFFD, ward := 7, keyIx := 4, key := tWrapped }
     s.takes 0 ∧ s.gives 0 { len := 64 } 64 ∧ addOperand 262143 false false b = true ∧ caveDown s = false ∧ 262143 < (s.wr SEC_JNL_LIMIT.NIX_LIMIT 262144).rd SEC_JNL_LIMIT.NIX_LIMIT
       ∧ (s.node 262143).state = .free ∧ (s.node 262143).fenced = false ∧ 0 < b.short ∧ b.short < 0xFFFE ∧ s.rd (MAC_WARD_SA.COUNT b.ward) < 65533 ∧ saxFind s b.ward b.short = none
       ∧ keyUsed s 262143 b.keyIx = false ∧ keyUsed (tn 5 { state := .joined, keyIx := 4 } s) 262143 b.keyIx = true ∧ slotKey s 0 32 = some (List.range 32)
       ∧ keyOpen (tr []) 0 b.key = none ∧ saxFind { s with mac := { sax := [(7 * 65536 + 0xFFFD, 1)] } } b.ward b.short ≠ none) := by
  unfold State.takes State.ready State.gives; decide

theorem test_witness_NodeCommandsFollowTheRecord :
      (let s := tn 5 { state := .joined, isStatic := true } (tr [])
       s.takes 0 ∧ s.gives 0 { len := modifyData 0x180 } (modifyData 0x180) ∧ nodeActive s 5 = true ∧ nodeActive s 6 = false ∧ (s.node 5).state ≠ .evict ∧ (s.node 5).state ≠ .free ∧ (s.node 5).state = .joined ∧ (s.node 5).fenced = false
         ∧ ((0x180 : Nat).testBit 7 = true → (0 : Nat) < 262144) ∧ ((0x180 : Nat).testBit 8 = true → (16 : Nat) ≤ 16 ∧ (65535 : Nat) < 65536 ∧ (255 : Nat) < 256)
         ∧ (0x180 : Nat).testBit 4 = false ∧ (0x180 : Nat).testBit 5 = false
         ∧ (if (0x180 : Nat).testBit 0 then (0 : Nat).testBit 0 else (s.node 5).isStatic) = true)
    ∧ (let r : Node := { eui := 1, short := 9, ward := 7 }
       let s := tn 5 { state := .quiet, fenced := true } (tr [])
       s.takes 0 ∧ s.gives 0 { len := 128 } 128 ∧ s.gives 0 { len := 3 } 3 ∧ ({ len := 3 } : CmdHead).len = ([7, 8, 9] : List (Fin 256)).length ∧ ({ r with short := 0 } : Node).short = 0 ∧ nodeOperand r = true ∧ shortOperand (s.node 5).state r.short = true ∧ (s.node 5).fenced = true
         ∧ saxFind s r.ward r.short = none ∧ keyUsed s 5 r.keyIx = false ∧ restore s 5 r.kgen = some { kgen := 0 } ∧ (s.node 6).fenced = false ∧ shortOperand (s.node 6).state r.short = true)
    ∧ (let s : State := tn 5 { state := .evict } { tr [] with src := { evictCmd := [(5, some (0, 77))] } }
       s.ready 0 ∧ (s.node 5).state = .evict ∧ evictCleared s 5 = true ∧ Store.find none s.src.evictCmd 5 = some ((0 : Fin 8).val, 77) ∧ Store.find false s.hif.orphan 0 = false) := by
  unfold State.takes State.ready State.gives; decide

/-- The key of the new node unwraps. -/
theorem test_witness_NodeCommands_key : keyOpen (tKeys (tr [])) 0 tWrapped ≠ none := by
  rw [test_key_opens _ 0 (by decide)]; exact Option.some_ne_none _

theorem test_witness_HostRingsFollowDoorbells :
    State.reset.rd (HIF_R_CFG.EN 71) = 0 ∧ (tr []).rd (HIF_R_CFG.EN 64) = 1 ∧ 0x201 % 0x200 ≠ 0
    ∧ (let s := tw [(HIF_CFG.STANDALONE, 1)]; s.rd (HIF_R_CFG.EN 71) = 0 ∧ s.rd HIF_CFG.STANDALONE = 1 ∧ s.rd (HIF_R_CFG.LOC 71) = 0)
    ∧ (State.reset.rd (HIF_R_CFG.EN 0) = 0 ∧ State.reset.rd HIF_CFG.STANDALONE = 0)
    ∧ (let s := tw [(HIF_CFG.EN, 1), (HIF_R_CFG.EN 31, 1), (HIF_R_CFG.SIZE_LOG2 31, 6), (HIF_R_IDX.TAIL 31, 1)]
       txTurn s = some 31 ∧ slotBad s 31 = false ∧ ringLive s 31 = true ∧ ringOut s 31 ≠ 0 ∧ takenOf s 31 = [] ∧ ringOut (tw [(HIF_R_CFG.SIZE_LOG2 31, 6)]) 31 = 0 ∧ txTurn s ≠ some 30
         ∧ (let q := txDescOf (descIn s 31 {}); min q.len q.bufsize = 0)
         ∧ (let q := txDescOf (descIn s 31 { w2 := 0x00400040, w3 := 3 }); q.kind = 3 ∧ min q.len q.bufsize ≠ 0)
         ∧ (let q := txDescOf (descIn s 31 { w2 := 0x00400040 }); q.kind = 0 ∧ q.len ≠ 0 ∧ q.bufsize ≠ 0 ∧ locBad s 31 q.addr (min q.len q.bufsize) = false))
    ∧ (let x : RxItem := { len := 60 }
       let s : State := { tw [(HIF_CFG.EN, 1), (HIF_R_CFG.EN 63, 1), (HIF_R_CFG.SIZE_LOG2 63, 6), (HIF_R_IDX.TAIL 63, 1)] with hif := { bound := [(31, [x])] } }
       let g := descIn s 63 { w2 := 64 }
       Store.find [] s.hif.bound 31 = x :: [] ∧ backlogOf s 31 = [] ∧ rxFree s 31 = true ∧ rxFree State.reset 31 = false ∧ slotBad s (32 + 31) = false ∧ rxSize g ≠ 0
         ∧ locBad s (32 + 31) (rxAddr g) (min x.len (rxSize g)) = false)
    ∧ (let s : State := { tw [(HIF_R_STS.ARMED 40, 1), (HIF_R_CFG.IRQ_EN 40, 1), (HIF_R_CFG.LOC 40, 0), (HIF_R_CFG.VEC 40, 3)] with
         rc := 10000000000, tsu := { rcOn := true }, hif := { timer := [(40, some 0)], unmasked := [(3, true)] } }
       Store.find none s.hif.timer 40 = some 0 ∧ s.rd (HIF_R_STS.ARMED 40) = 1 ∧ s.rd (HIF_R_CFG.IRQ_EN 40) = 1
         ∧ 0 + s.rd (HIF_R_MOD.USECS 40) * 1000 ≤ (s.at 10000000000).rc ∧ s.rd (HIF_R_CFG.LOC 40) = 0 ∧ Store.find false s.hif.unmasked (s.rd (HIF_R_CFG.VEC 40)) = true)
    ∧ (tw [(HIF_R_CFG.LOC 5, 1)]).rd (HIF_R_CFG.LOC 5) = 1 ∧ (tr []).ready 0 ∧ cmdInOps.contains (cmdOp (descIn (tr []) 64 { w0 := 0x62 })) = true
    ∧ ringLive State.reset 7 = false ∧ cmdOps.contains (0xFF % 256) = false := by
  unfold State.ready; decide

theorem test_witness_CaveCommandsAndTamper :
    (let s := tr [(SYS_LC_STS.LC, 2), (KEY_HOSTPUB.K 7, 1), (KEY_RNG_STS.OK, 1)]
     s.ready 0 ∧ s.gives 0 { len := 320 } 320 ∧ s.rd SYS_LC_STS.LC = 2 ∧ caveDown s = false ∧ hostpubZero s = false ∧ s.rd KEY_RNG_STS.OK = 1)
    ∧ (let s := tr [(SYS_LC_STS.LC, 2), (KEY_HOSTPUB.K 7, 1), (KEY_STS.HTK_READY, 1)]
       s.ready 0 ∧ s.rd SYS_LC_STS.LC = 2 ∧ caveDown s = false ∧ hostpubZero s = false ∧ keyOpen (htkReady s) 1 ([tWrapped].getD 0 0) = none ∧ 24 * 1 ≤ ({ len := 24 } : CmdHead).len ∧ (∀ j : Nat, ¬ j < 0))
    ∧ (let s := tr [(SYS_LC_STS.LC, 4)]; s.ready 0 ∧ s.rd SYS_LC_STS.LC = 4 ∧ hostpubZero s = true)
    ∧ (let s := tr [(SYS_LC_STS.LC, 4), (KEY_HOSTPUB.K 0, 1), (KEY_RNG_STS.OK, 0)]; s.ready 0 ∧ hostpubZero s = false ∧ s.rd KEY_RNG_STS.OK = 0)
    ∧ (let s := tr [(SYS_LC_STS.LC, 1)]; s.ready 0 ∧ s.rd SYS_LC_STS.LC = 1)
    ∧ (let s := tt 1 (tw [(KEY_STS.STATE, 3), (KEY_RIND_EN.EN, 1), (KEY_RIND_CFG.DEB, 0)])
       s.cel.off = 0 ∧ s.rd KEY_STS.STATE = 3 ∧ s.rd SYS_LC_STS.LC ≠ 0x10 ∧ rindDue (s.at 1000000000) = true ∧ rindDue (s.at 1) = false ∧ sensorOn s 0 = true ∧ debReached s 0 = true ∧ sensorOpen s 0 = false ∧ (classA s).testBit 0 = false)
    ∧ (let s : State := { tw [(KEY_STS.STATE, 3)] with fuse := { rind := 128 } }; sensorOpen s 7 = false ∧ (classA s).testBit 7 = true)
    ∧ (tw [(KEY_STS.STATE, 1)]).rd KEY_STS.STATE = 1
    ∧ (let s := tw [(KEY_STS.STATE, 2), (SYS_BOOT_STS.STAGE, 6)]; s.rd KEY_STS.STATE = 2 ∧ s.rd SYS_BOOT_STS.STAGE = 6)
    ∧ (tw [(KEY_STS.STATE, 4)]).rd KEY_STS.STATE = 4
    ∧ (let s := tt 1 (tw [(KEY_CFG.BRINE_EN, 1), (KEY_RNG_STS.OK, 1), (KEY_BRINE_STS.POS, 4126)])
       s.rd KEY_CFG.BRINE_EN = 1 ∧ (s.at 1000000000000).reached (s.cave.brineLast + brineGap s) = true ∧ s.rd KEY_RNG_STS.OK = 1 ∧ s.cave.brineRetry = false ∧ s.rd KEY_BRINE_STS.POS + 1 < 4128)
    ∧ (tw [(KEY_RNG_STS.HEALTH_FAIL, 1)]).rd KEY_RNG_STS.HEALTH_FAIL = 1 := by
  unfold State.ready State.gives; decide

/-- Two keys that KEY_IMPORT opens: HTK is ready. -/
theorem test_witness_KeyImport : ∀ j < 2, keyOpen (htkReady ((tKeys (tr [(SYS_LC_STS.LC, 2), (KEY_HOSTPUB.K 7, 1)])).wr KEY_STS.HTK_READY 1)) 1 ([tWrapped, tWrapped].getD j 0) ≠ none := by
  have h : htkReady ((tKeys (tr [(SYS_LC_STS.LC, 2), (KEY_HOSTPUB.K 7, 1)])).wr KEY_STS.HTK_READY 1) = (tKeys (tr [(SYS_LC_STS.LC, 2), (KEY_HOSTPUB.K 7, 1)])).wr KEY_STS.HTK_READY 1 := if_pos (by decide)
  have k : keyOpen ((tKeys (tr [(SYS_LC_STS.LC, 2), (KEY_HOSTPUB.K 7, 1)])).wr KEY_STS.HTK_READY 1) 1 tWrapped ≠ none := by
    rw [test_key_opens _ 1 (by decide)]; exact Option.some_ne_none _
  intro j hj
  rw [h]
  match j, hj with
  | 0, _ => exact k
  | 1, _ => exact k

theorem test_witness_ResetsClearAndKeep :
    (State.reset.cel.fresh = true ∧ State.reset.cel.off ≠ 4)
    ∧ (let s : State := { State.reset with cel := { fresh := false, off := 3 } }; s.cel.fresh = false ∧ s.cel.off = 3)
    ∧ (let s : State := { State.reset with cel := { off := 2, waking := true } }; s.cel.off = 2 ∧ s.cel.waking = true)
    ∧ (powered State.reset = true ∧ State.reset.boot.scanHeld = false ∧ (tw [(SYS_LC_STS.LC, 2)]).rd SYS_LC_STS.LC ≠ 4)
    ∧ (let s : State := { State.reset with flt := { resetPend := true } }; powered s = true ∧ s.flt.resetPend = true)
    ∧ State.reset.rd (HIF_R_CFG.LOC 75) = 0 := by decide

theorem test_witness_BootLoadsAndPrograms :
    (let s := tw [(SYS_BOOT_STS.STAGE, 5)]; 3 ≤ s.rd SYS_BOOT_STS.STAGE ∧ s.rd SYS_BOOT_STS.STAGE ≤ 5 ∧ s.rd SYS_SRAM_STS.DONE = 0 ∧ s.boot.clockDone = false)
    ∧ (let s : State := { tw [(SYS_BOOT_STS.STAGE, 3)] with boot := { slot := some 1 } }
       let d : Option Nat × Option Nat := s.boot.dirs.getD (some 4, none)
       slotOpen { s with boot := { slot := some 1, failed := [0] } } d 1 = true ∧ d.2 = none ∧ s.boot.slot = some (1 : Fin 3).val)
    ∧ (let s := tw [(SYS_BOOT_STS.STAGE, 7)]; s.rd SYS_BOOT_STS.STAGE = 7 ∧ s.boot.imgs = [] ∧ s.boot.mode = none)
    ∧ (let s := tw [(SYS_BOOT_STS.STAGE, 10), (HIF_STS.BME, 1)]; s.rd SYS_BOOT_STS.STAGE = 10 ∧ s.rd HIF_STS.BME = 1)
    ∧ (let s : State := { tw [(SYS_BOOT_STS.STAGE, 10)] with boot := { go := true } }; s.rd SYS_BOOT_STS.STAGE = 10 ∧ s.rd HIF_STS.BME = 0 ∧ s.boot.go = true)
    ∧ (let s := tw [(SYS_LC_STS.LC, 2), (SYS_SVN_CTL.MAX, 64), (KEY_SVN.SVN, 63)]
       s.rd SYS_SVN_CTL.BUSY = 0 ∧ s.rd SYS_LC_STS.LC = 2 ∧ s.rd KEY_SVN.SVN < min 64 64 ∧ min 64 64 ≤ s.rd SYS_SVN_CTL.MAX)
    ∧ (tw [(SYS_SVN_CTL.BUSY, 1)]).rd SYS_SVN_CTL.BUSY = 1 ∧ (tw [(SYS_LC_STS.LC, 4)]).rd SYS_LC_STS.LC = 4 ∧ State.reset.rd SYS_FUSE_STS.BUSY = 0
    ∧ (let s := tw [(SYS_FUSE_STS.BUSY, 1), (SYS_FUSE_CTL.TARGET, 3)]; s.rd SYS_FUSE_STS.BUSY = 1 ∧ s.rd SYS_FUSE_CTL.TARGET = 3)
    ∧ ((tr []).ready 0 ∧ (tr []).rd SYS_LC_STS.LC ≠ 0x10 ∧ locBad (tr []) (64 + 0) ({} : CmdHead).addr 192 = false ∧ ucBusy (tr []) (8 : Fin 16) false = false ∧ ucBusy (tr []) (4 : Fin 16) false = false
         ∧ ({ magic := 0 } : Image).magic ≠ 0x4E4B424F)
    ∧ (let s := tr [(MAC_LS_SWAP.ARM 3, 1)]; s.ready 0 ∧ s.rd SYS_LC_STS.LC ≠ 0x10 ∧ s.rd (MAC_LS_SWAP.ARM 3) = 1) := by
  unfold State.ready; decide

/-- An owner key: the identity of the curve, under which a signature of R = the identity and S = 0 verifies any message. -/
def tOwner (s : State) : State := { s with fuse := { owner := 1 :: List.replicate 7 0, ownerDone := true } }

/-- A policy image of that owner. -/
def tImage : Image :=
  { kind := 0x11, length := 8, keyId := 10150412949427457230, sig := 1, payload := [0, 0],
    digest := 1423877221830819379960938330717806649366188129655600981764517337758210149436159820739983878037167919272086073168640238044856300456226427091148506353202203 }

/-- An image passes, in UCODE_LOAD for a policy core and at boot. -/
theorem test_witness_BootLoads_image :
    (let s := tOwner (tr [(SYS_LC_STS.LC, 4)]); imageWhy s (ucKind (8 : Fin 16) tImage) tImage = 0)
    ∧ (let s : State := tOwner { tw [(SYS_BOOT_STS.STAGE, 5), (SYS_LC_STS.LC, 4), (SYS_SRAM_STS.DONE, 1)] with boot := { slot := some 2, reading := true } }
       slotOpen s (s.boot.dirs.getD (none, none)) 2 = true ∧ s.boot.slot = some (2 : Fin 3).val ∧ storeReady s tImage = true
         ∧ imageWhy s (tImage.kind = 0x10 || tImage.kind = 0x11 || tImage.kind = 0x12 || tImage.kind = 0x13) tImage = 0) := by decide +kernel

/-- The octets of SYS_LC_TOKEN. -/
def tToken (s : State) : List Nat := (List.range 16).flatMap (fun i => leOctets 4 (s.rd (SYS_LC_TOKEN.T i)))

/-- A chip of EUI-64 0 in FIELD, with a token. -/
def tTokened : State := tOwner { tw [(SYS_LC_STS.LC, 4), (SYS_LC_NONCE.NONCE, 0), (SYS_LC_TOKEN.T 0, 1)] with kept := [(MAC_EUI_LO.EUI.key, 0), (MAC_EUI_HI.EUI.key, 0)] }

/-- A life-cycle token of that owner verifies. -/
theorem test_witness_BootLoads_token : tokenOk tTokened 8 = true := by
  have o : ownerPub tTokened = leOctets 32 1 := by decide
  have b : tokenBody tTokened 8 = ascii "FGB-LC" ++ [8] ++ List.replicate 12 0 := by decide +kernel
  have e : tToken tTokened = leOctets 64 1 := by decide +kernel
  have v : edVerify (leOctets 32 1) (ascii "FGB-LC" ++ [8] ++ List.replicate 12 0) (leOctets 64 1) = true := by decide +kernel
  unfold tToken at e
  simp only [tokenOk, o, b, e, v]
  rfl

/-- A signature whose R is no point verifies under no key. -/
theorem test_edVerify_none (key msg sig : List Nat) (h : edPoint (sig.take 32) = none) : edVerify key msg sig = false := by
  unfold edVerify
  rw [h]
  generalize edPoint key = o
  cases o <;> rfl

/-- A token whose R is no point does not verify. -/
theorem test_witness_BootLoads_noToken :
    tokenOk (tw ((SYS_LC_STS.LC, 4) :: (List.range 8).map (fun i => (SYS_LC_TOKEN.T i, 0xFFFFFFFF)))) 8 = false := by
  have e : tToken (tw ((SYS_LC_STS.LC, 4) :: (List.range 8).map (fun i => (SYS_LC_TOKEN.T i, 0xFFFFFFFF)))) = List.replicate 32 255 ++ List.replicate 32 0 := by
    decide +kernel
  have n : edPoint ((List.replicate 32 255 ++ List.replicate 32 0).take 32) = none := by decide +kernel
  unfold tToken at e
  simp only [tokenOk, e, test_edVerify_none _ _ _ n, Bool.and_false, Bool.or_false]

theorem test_witness_CampaignsFollowTheirStates :
    (let s := tr [(UPD_CFG.EN, 1), (UPD_C_STS.STATE 3, 3), (MAC_WARD_PAN.EN 7, 1)]
     s.takes 0 ∧ s.gives 0 { len := 224 } 224 ∧ ({ len := 223 } : CmdHead).len ≠ 224 ∧ s.gives 0 { len := 4 } (4 * [5].length) ∧ s.rd UPD_CFG.EN = 1 ∧ s.rd (UPD_C_STS.STATE 3) ≠ 0 ∧ s.rd (UPD_C_STS.STATE 0) = 0 ∧ s.rd (MAC_WARD_PAN.EN 7) = 1 ∧ campOfWard s 7 = none ∧ campOfImg s 255 = none
       ∧ blockOk s {} = false)
    ∧ (tr []).takes 0 ∧ (tr []).rd UPD_CFG.EN = 0
    ∧ (let s : State := { tw [(UPD_C_STS.STATE 3, 1)] with camps := [(3, { cmd := some (7, 0x50, 9) })] }
       s.rd (UPD_C_STS.STATE 3) = 1 ∧ (campOf s 3).cmd = some ((7 : Fin 8).val, 0x50, 9) ∧ Store.find false s.hif.orphan 7 = false ∧ (∀ i : Fin 8, s.rd (UPD_VKEY.KEY i) = 0))
    ∧ (let s := tw [(UPD_C_STS.STATE 3, 2), (UPD_C_OTI_LO.F 3, 1000), (UPD_C_OTI_HI.T 3, 100), (UPD_C_OTI_HI.Z 3, 1), (QMS_CFG.EN, 1)]
       pressSlot s = some (3 : Fin 4).val ∧ quotasMet s 3 = false ∧ pressBlock s 3 = some 0 ∧ blockOctets s 3 0 none = none ∧ blockOctets s 3 0 (some []) ≠ none
         ∧ pressSlot s ≠ some (2 : Fin 4).val ∧ poolOk s 3 100 = true ∧ poolOk (s.wr QMS_CFG.EN 0) 3 1 = false) := by
  unfold State.takes State.ready State.gives; decide

/-- A manifest's signature verifies under such a key, and the digest of the image is its DIGEST. -/
theorem test_witness_CampSigned :
    let m : Manifest := { digest := [2702269750, 3054560991, 1637480974, 3095057206, 1534186159, 2244111244, 15123725, 3106631771, 806329333, 1127009134, 700728558, 2219146646, 803939381, 3114931836, 3997360573, 3327232806], sig := [1] }
    let s : State := { tw [(UPD_C_STS.STATE 3, 1), (UPD_VKEY.KEY 0, 1)] with camps := [(3, { imgLen := 1, man := m })] }
    manifestSigned s (campOf s 3).man = true ∧ imageOctets s 3 0 (campOf s 3).imgLen (some [7]) = some [7]
      ∧ sha512 [7] = wordOctets ((List.range 16).map (wordAt (campOf s 3).man.digest)) := by decide +kernel

/-- For CAMP_START whose checks pass. -/
theorem test_witness_CampStart :
    let s : State := { tr [(UPD_CFG.EN, 1), (MAC_WARD_PAN.EN 7, 1), (MAC_TCX_OUI.OUI, 1), (FWD_W_CFG.PHYC 7, 10), (CHZ_PLAN_FE.EN 0, 1), (CHZ_PLAN_PHY.CLASS_MASK 0, 0x400),
        (MAC_SLOT_LEN.LEN_US, 200000), (SRC_SF_CFG.EN 0, 1), (SRC_SF_CFG.OWNER 0, 7), (SRC_SF_GEOM.LEN 0, 10)] with src := { cells := [(0, { typ := 6 })] } }
    campChecks s 0 { len := 864, ward := 7, imgId := 255, t := 1024, ws := 262144, rounds := 1, turn := 64, annEvery := 2, man := { magic := manifestMagic, fmt := 1, kind := 2, length := 864 } } = 0 := by decide +kernel

theorem test_witness_PairRolesFollowTheTable :
    (let s : State := { tw [(PAIR_CFG.EN, 1)] with pair := { ptk := true } }
     s.rd PAIR_STS.ROLE = 0 ∧ s.rd PAIR_CFG.EN = 1 ∧ s.pair.ptk = true ∧ s.rd PAIR_STS.FENCE_IN = 0)
    ∧ State.reset.rd PAIR_CFG.EN = 0 ∧ State.reset.rd PAIR_STS.ROLE = 0
    ∧ (tw [(PAIR_STS.ROLE, 2)]).rd PAIR_STS.ROLE = 2 ∧ (tw [(PAIR_STS.ROLE, 3)]).rd PAIR_STS.ROLE = 3
    ∧ (let s := tw [(PAIR_STS.ROLE, 1), (PAIR_STS.SYNC, 2), (PAIR_SW_ASN_HI.ASN, 255)]; s.rd PAIR_STS.ROLE = 1 ∧ s.rd PAIR_STS.SYNC = 2)
    ∧ (let s := tn 7 { state := .joined } (tw [(PAIR_STS.ROLE, 2), (PAIR_STS.PEER_SILENT, 1)])
       s.rd PAIR_STS.ROLE = 2 ∧ s.rd PAIR_STS.SYNC ≠ 2 ∧ s.rd PAIR_STS.PEER_SILENT = 1 ∧ nodeActive s 7 = true)
    ∧ (let s := tt 1000000 (tw [(PAIR_STS.ROLE, 2), (PAIR_HB_CFG.HB_MISS, 3), (PAIR_HB_CFG.HB_US, 1000)])
       s.rd PAIR_STS.ROLE ≠ 0 ∧ s.pair.missed + 1 < s.rd PAIR_HB_CFG.HB_MISS ∧ (s.at 0).reached (s.pair.periodAt + s.rd PAIR_HB_CFG.HB_US * 1000) = true
         ∧ (s.at 0).reached (s.pair.tokenAt + s.rd PAIR_HB_CFG.HB_US * 1000) = true)
    ∧ (let s := tt 999998 (tw [(PAIR_STS.ROLE, 2), (PAIR_HB_CFG.HB_US, 1000)])
       (s.at 1).reached (s.pair.periodAt + s.rd PAIR_HB_CFG.HB_US * 1000) = false ∧ (s.at 1).reached (s.pair.tokenAt + s.rd PAIR_HB_CFG.HB_US * 1000) = false)
    ∧ (let s : State := { tw [(PAIR_STS.ROLE, 2), (PAIR_HB_CFG.HB_MISS, 3), (PAIR_STS.SYNC, 2), (PAIR_CFG.AUTO_TAKE, 1)] with pair := { missed := 2 } }
       (s.at 0).reached (s.pair.periodAt + s.rd PAIR_HB_CFG.HB_US * 1000) = true ∧ s.rd PAIR_STS.ROLE = 2 ∧ s.rd PAIR_HB_CFG.HB_MISS ≤ s.pair.missed + 1 ∧ s.rd PAIR_STS.SYNC = 2 ∧ s.rd PAIR_CFG.AUTO_TAKE = 1 ∧ s.rd PAIR_STS.TAKE_PEND = 0)
    ∧ (let s : State := { tw [(PAIR_STS.ROLE, 2), (PAIR_HB_CFG.HB_MISS, 3), (PAIR_STS.SYNC, 1), (PAIR_CFG.AUTO_TAKE, 1)] with pair := { missed := 2 } }
       s.rd PAIR_HB_CFG.HB_MISS ≤ s.pair.missed + 1 ∧ s.rd PAIR_STS.SYNC ≠ 2 ∧ s.rd PAIR_CFG.AUTO_TAKE = 1 ∧ s.pair.blocked = false)
    ∧ (let s : State := { tw [(PAIR_STS.ROLE, 1), (PAIR_HB_CFG.HB_MISS, 3)] with pair := { missed := 5 } }
       s.rd PAIR_STS.ROLE = 1 ∧ s.rd PAIR_STS.PEER_SILENT = 0 ∧ s.rd PAIR_HB_CFG.HB_MISS + 2 ≤ s.pair.missed)
    ∧ State.reset.pair.missed < State.reset.rd PAIR_HB_CFG.HB_MISS + 2
    ∧ (let s : State := { tw [(PAIR_STS.ROLE, 2), (PAIR_STS.TAKE_PEND, 1), (MAC_STS.ASN_RUN, 1)] with rc := 20000, mac := { tickAt := 20000 } }
       s.rd PAIR_STS.TAKE_PEND = 1 ∧ s.rd PAIR_STS.ROLE = 2 ∧ onTick (s.at 0) = true ∧ s.pair.takeAt + 20000 ≤ (s.at 0).rc)
    ∧ onTick (State.reset.at 1) = false
    ∧ (let s := tt 500 State.reset; (s.at 0).reached (s.pair.aliveAt + 500) = true) ∧ (let s := tt 498 State.reset; (s.at 1).reached (s.pair.aliveAt + 500) = false)
    ∧ State.reset.rd PAIR_STS.TAKE_PEND = 0
    ∧ (let s := tw [(PAIR_STS.ROLE, 1), (PAIR_CFG.EN, 1)]; s.rd PAIR_STS.ROLE = 1 ∧ s.rd PAIR_CFG.EN = 1 ∧ coverOn s = false)
    ∧ (let s := tw [(PAIR_STS.ROLE, 1), (PAIR_STS.SW_PEND, 1), (MAC_STS.ASN_RUN, 1)]; onTick (s.at 0) = true ∧ s.rd PAIR_STS.ROLE = 1 ∧ s.rd PAIR_STS.SW_PEND = 1 ∧ later s.pair.switchAt s.asn = false ∧ s.pair.dirty = [])
    ∧ (let s := tw [(PAIR_STS.ROLE, 2), (PAIR_STS.SYNC, 2), (MAC_STS.ASN_RUN, 1)]; onTick (s.at 0) = true ∧ s.rd PAIR_STS.ROLE = 2 ∧ s.rd PAIR_STS.SYNC = 2) := by decide

theorem test_witness_PairMessagesAreTaken :
    State.reset.rd PAIR_STS.ROLE = 0 ∧ State.reset.rd PAIR_CFG.EN = 0
    ∧ (let s := tt 1000000 (tw [(PAIR_STS.ROLE, 3), (PAIR_HB_CFG.HB_US, 1000), (PAIR_MIR_CFG.INTERVAL_US, 1000)])
       s.rd PAIR_STS.ROLE ≠ 0 ∧ (s.at 0).reached (s.pair.sentAt + s.rd PAIR_HB_CFG.HB_US * 1000) = true ∧ (s.at 0).reached (s.pair.flushAt + s.rd PAIR_MIR_CFG.INTERVAL_US * 1000) = true)
    ∧ (let s := tt 999998 (tw [(PAIR_STS.ROLE, 1), (PAIR_HB_CFG.HB_US, 1000), (PAIR_MIR_CFG.INTERVAL_US, 1000)])
       (s.at 1).reached (s.pair.sentAt + s.rd PAIR_HB_CFG.HB_US * 1000) = false ∧ (s.at 1).reached (s.pair.flushAt + s.rd PAIR_MIR_CFG.INTERVAL_US * 1000) = false)
    ∧ ((tw [(PAIR_CFG.EN, 1)]).rd PAIR_CFG.EN = 1 ∧ (tw [(PAIR_CFG.EN, 1)]).pair.ptk = false)
    ∧ (let s : State := { tw [(PAIR_CFG.EN, 1), (PAIR_STS.ROLE, 1), (PAIR_EPOCH.EPOCH, 4)] with pair := { ptk := true, peer := some { seq := 9 } } }
       s.rd PAIR_CFG.EN = 1 ∧ s.pair.ptk = true ∧ s.pair.peer = some { seq := 9 } ∧ s.rd PAIR_STS.ROLE = 1 ∧ 3 < s.rd PAIR_EPOCH.EPOCH ∧ s.rd PAIR_EPOCH.EPOCH < 5)
    ∧ (let s : State := { tw [(PAIR_CFG.EN, 1), (PAIR_STS.ROLE, 2), (PAIR_STS.SYNC, 2)] with pair := { ptk := true } }
       s.pair.peer = none ∧ s.rd PAIR_STS.ROLE = 2 ∧ s.rd PAIR_STS.SYNC = 2 ∧ s.rd PAIR_STS.TAKE_PEND = 0 ∧ (1 : Nat) % 2 ^ 32 ≠ s.rd PAIR_CFG_CRC.CRC
         ∧ 7 ≠ (s.rd PAIR_MIR_SEQ.MSEQ + 1) % 2 ^ 32)
    ∧ (let s : State := { tw [(PAIR_CFG.EN, 1), (PAIR_STS.ROLE, 2), (PAIR_CFG_CRC.CRC, 5), (TSU_SERVO_STS.STATE, 2), (MAC_STS.ASN_RUN, 1)] with pair := { ptk := true } }
       s.pair.peer = none ∧ s.rd PAIR_STS.SYNC = 0 ∧ 5 % 2 ^ 32 = s.rd PAIR_CFG_CRC.CRC ∧ s.rd TSU_SERVO_STS.STATE = 2 ∧ asnRuns s = true ∧ s.pair.sent.find? (fun x => x.1 = 0) = none)
    ∧ (let s : State := { tw [(PAIR_CFG.EN, 1), (PAIR_MIR_SEQ.MSEQ, 0xFFFFFFFF)] with pair := { ptk := true, marking := true, mark := some 0 } }
       s.pair.marking = true ∧ s.pair.mark = some ((s.rd PAIR_MIR_SEQ.MSEQ + 1) % 2 ^ 32))
    ∧ (let s := tw [(PAIR_STS.ROLE, 2), (PAIR_STS.SYNC, 1)]; s.rd PAIR_STS.ROLE = 2 ∧ s.rd PAIR_STS.SYNC ≠ 0 ∧ s.sec.waiting = [])
    ∧ (let s : State := { tw [(PAIR_MIR_CFG.QMAX, 64), (QMS_CFG.EN, 1)] with pair := { dirty := [(262143 : Fin 262144).val], mirror := true } }
       (s.at 0).reached (s.pair.flushAt + s.rd PAIR_MIR_CFG.INTERVAL_US * 1000) = true ∧ s.pair.dirty = [(262143 : Fin 262144).val] ∧ s.pair.mirror = true ∧ s.rd PAIR_MIR_STS.CURDS + 1 ≤ s.rd PAIR_MIR_CFG.QMAX ∧ poolOk s 3 1 = true)
    ∧ (let s : State := { tw [(PAIR_MIR_CFG.QMAX, 64), (PAIR_MIR_STS.CURDS, 64)] with pair := { dirty := [(5 : Fin 262144).val], mirror := true } }
       (s.at 0).reached (s.pair.flushAt + s.rd PAIR_MIR_CFG.INTERVAL_US * 1000) = true ∧ s.pair.dirty = [(5 : Fin 262144).val] ∧ s.pair.mirror = true ∧ s.rd PAIR_MIR_CFG.QMAX < s.rd PAIR_MIR_STS.CURDS + 1)
    ∧ (let s : State := { tw [(PAIR_CFG.EN, 1), (PAIR_STS.ROLE, 2), (PAIR_STS.SYNC, 1)] with pair := { ptk := true } }
       s.rd PAIR_STS.ROLE = 2 ∧ s.rd PAIR_STS.SYNC = 1 ∧ s.sec.waiting = [] ∧ s.pair.bulkLast = false ∧ egrRoom s (s.rd PAIR_CFG.RLY_PORT) = true)
    ∧ (let s := tw [(SHP_EGR_CNT.FRAMES 0, 65535), (PAIR_STS.ROLE, 2)]
       s.rd PAIR_STS.ROLE = 2 ∧ s.rd PAIR_CFG.RLY_PORT = 0 ∧ egrRoom s 0 = false)
    ∧ ((tw [(PAIR_LANE_STS.UP 1, 1)]).rd (PAIR_LANE_STS.UP (1 : Fin 2)) = 1 ∧ State.reset.rd (PAIR_LANE_STS.UP (1 : Fin 2)) = 0)
    ∧ ((tw [(SYS_CFG_LOCK.LOCK, 1)]).rd SYS_CFG_LOCK.LOCK = 1 ∧ State.reset.rd SYS_CFG_LOCK.LOCK = 0) := by decide

theorem test_witness_PowerStatesFollowTheCellar :
    (let s : State := { State.reset with cel := { entry := some { target := 1, before := 0 } } }; powered s = true ∧ s.cel.entry = some { target := 1, before := 0 })
    ∧ (powered State.reset = true ∧ State.reset.cel.entry = none ∧ State.reset.rd CEL_PWR_STS.STATE = 0 ∧ coverOn State.reset = false)
    ∧ (let s := tw [(CEL_PWR_STS.STATE, 1)]; powered s = true ∧ s.cel.entry = none ∧ s.rd CEL_PWR_STS.STATE = 1)
    ∧ (let s := tw [(SYS_SVN_CTL.BUSY, 1)]; powered s = true ∧ s.rd SYS_SVN_CTL.BUSY = 1)
    ∧ (let s := tw [(CEL_WAKE_EN.EN, 256), (CEL_WAKE_STS.PEND, 256)]
       powered s = true ∧ s.cel.entry = none ∧ s.rd SYS_FUSE_STS.BUSY = 0 ∧ s.rd SYS_SVN_CTL.BUSY = 0 ∧ wakePending s ≠ 0) ∧ wakePending State.reset = 0
    ∧ (let s := tw [(CEL_PWR_STS.HUSH_PEND, 1)]; s.rd CEL_PWR_STS.HUSH_PEND = 1 ∧ s.rd CEL_PWR_STS.STATE = 0 ∧ asnRuns s = false)
    ∧ (let s : State := { tw [(CEL_PWR_STS.HUSH_PEND, 1), (MAC_STS.ASN_RUN, 1)] with rc := 7, mac := { tickAt := 7, began := [{ tSpan 4 with asn := 0 }] } }
       asnRuns s = true ∧ s.rd CEL_PWR_STS.STATE = 0 ∧ (s.at 0).rc = s.mac.tickAt ∧ ∀ x ∈ s.mac.began, x.asn = s.asn ∨ spanOver s x = true)
    ∧ (let s : State := { tw [(CEL_PWR_STS.HUSH_PEND, 1), (MAC_STS.ASN_RUN, 1)] with rc := 7 }; asnRuns s = true ∧ (s.at 0).rc ≠ s.mac.tickAt)
    ∧ (let s : State := { State.reset with cel := { entry := some { target := 1, before := 0, phase := 1, ticks := 1 } } }
       s.cel.entry = some { target := 1, before := 0, phase := 1, ticks := 1 } ∧ ({ target := 1, before := 0 } : SleepEntry).phase = 0 ∧ ({ target := 1, before := 0, phase := 1 } : SleepEntry).ticks = 0)
    ∧ ({ target := 2, before := 1, phase := 2, ticks := 1 } : SleepEntry).ticks < 2
    ∧ (let e : SleepEntry := { target := 2, before := 1, phase := 2, ticks := 2 }
       let s : State := { State.reset with cel := { entry := some e } }
       s.cel.entry = some e ∧ e.phase = 2 ∧ 2 ≤ e.ticks ∧ wakePending s = 0 ∧ wakePending { tw [(CEL_WAKE_EN.EN, 1), (CEL_WAKE_STS.PEND, 1)] with cel := { entry := some e } } ≠ 0
         ∧ e.before ≤ 1 ∧ e.hush = none) := by decide

theorem test_witness_PowerStatesFollowTheCellar_asleep :
    (let s : State := { tw [(CEL_PG_CFG.PG_OFF_MS, 1)] with cel := { off := 1, good := true, waking := false, ticks := 33 } }
     asleep s = true ∧ s.cel.good = true ∧ s.cel.waking = false ∧ s.cel.reqAt * 1000 + s.rd CEL_PG_CFG.PG_OFF_MS * 32768 ≤ s.cel.ticks * 1000)
    ∧ (let s : State := { tw [(CEL_PG_CFG.PG_OFF_MS, 1), (CEL_PG_CFG.PG_WAIT_MS, 1), (CEL_PG_CFG.BACKOFF_S, 1)] with cel := { off := 1, ticks := 32 } }
       asleep s = true ∧ ¬ s.cel.reqAt * 1000 + s.rd CEL_PG_CFG.PG_OFF_MS * 32768 ≤ s.cel.ticks * 1000 ∧ ¬ s.cel.reqAt * 1000 + s.rd CEL_PG_CFG.PG_WAIT_MS * 32768 ≤ s.cel.ticks * 1000
         ∧ ¬ s.cel.backAt * 1000 + 1000 * s.rd CEL_PG_CFG.BACKOFF_S * 32768 ≤ s.cel.ticks * 1000)
    ∧ (let s : State := { State.reset with cel := { off := 2, good := false, backoff := false } }; asleep s = true ∧ s.cel.good = false ∧ s.cel.waking = false ∧ s.cel.backoff = false)
    ∧ (let s : State := { tw [(CEL_PG_CFG.PG_WAIT_MS, 1)] with cel := { off := 2, waking := true, ticks := 33 } }
       asleep s = true ∧ s.cel.waking = true ∧ s.cel.reqAt * 1000 + s.rd CEL_PG_CFG.PG_WAIT_MS * 32768 ≤ s.cel.ticks * 1000)
    ∧ (asleep State.reset = false ∧ State.reset.cel.off ≠ 4 ∧ ({ State.reset with cel := { good := true } } : State).cel.good = true)
    ∧ (let s := tw [(CEL_PAD_CFG.WAKE_IN_EN, 15), (CEL_WAKE_EN.EN, 8), (CEL_WAKE_PIN.MODE 3, 1)]
       s.rd (CEL_WAKE_PIN.DEB (3 : Fin 4)) = 0 ∧ s.cel.pinNow.testBit (3 : Fin 4) ≠ true ∧ s.cel.off ≠ 4 ∧ (s.rd CEL_PAD_CFG.WAKE_IN_EN).testBit (3 : Fin 4) = true ∧ (s.rd CEL_PIN_STS.WAKE).testBit (3 : Fin 4) ≠ true ∧ (s.rd CEL_WAKE_EN.EN).testBit (3 : Fin 4) = true
         ∧ s.rd (CEL_WAKE_PIN.MODE (3 : Fin 4)) = 1)
    ∧ (let s : State := { tw [(CEL_PIN_STS.WAKE, 8), (CEL_WAKE_EN.EN, 8), (CEL_WAKE_PIN.MODE 3, 1), (CEL_WAKE_PIN.DEB 3, 4)] with cel := { ticks := 8, pinAt := [(3, 5)] } }
       s.cel.off ≠ 4 ∧ (s.rd CEL_PIN_STS.WAKE).testBit (3 : Fin 4) = true ∧ s.cel.pinNow.testBit (3 : Fin 4) ≠ true
         ∧ Store.find 0 s.cel.pinAt (3 : Fin 4) + s.rd (CEL_WAKE_PIN.DEB (3 : Fin 4)) ≤ s.cel.ticks + 1 ∧ (s.rd CEL_WAKE_EN.EN).testBit (3 : Fin 4) = true ∧ s.rd (CEL_WAKE_PIN.MODE (3 : Fin 4)) = 1)
    ∧ (let s : State := { tw [(CEL_WAKE_EN.EN, 256), (CEL_WAKE_STS.PEND, 256), (CEL_PG_CFG.BACKOFF_S, 1)] with cel := { off := 2, good := false, ticks := 32768 } }
       sleepEntered s = true ∧ wakePending s ≠ 0 ∧ s.cel.waking = false ∧ s.cel.backAt * 1000 + 1000 * s.rd CEL_PG_CFG.BACKOFF_S * 32768 ≤ s.cel.ticks * 1000)
    ∧ (let s : State := { State.reset with cel := { off := 1 } }; s.cel.ticks < s.cel.watchAt + 2 ^ s.rd CEL_WATCH_CFG.PER_LOG2)
    ∧ (let s : State := { tw [(CEL_WATCH_CFG.ANA_EN, 1), (CEL_WATCH_CFG.N, 1), (CEL_WAKE_EN.EN, 32), (CEL_WATCH_ANA.LO, 5), (CEL_WATCH_ANA.HI, 255), (CEL_WATCH_CFG.PER_LOG2, 3)] with cel := { off := 1, ticks := 8 } }
       s.cel.watchAt + 2 ^ s.rd CEL_WATCH_CFG.PER_LOG2 ≤ s.cel.ticks ∧ s.cel.off = 1 ∧ s.rd CEL_WATCH_CFG.ANA_EN = 1 ∧ s.rd CEL_WATCH_CFG.PAT_EN = 0 ∧ s.rd CEL_WATCH_CFG.CNT_EN = 0 ∧ s.flag CEL_WATCH_ANA.OUTSIDE = false ∧ (s.rd CEL_WAKE_EN.EN).testBit 5 = true)
    ∧ State.reset.cel.off ≠ 1 ∧ State.reset.rd CEL_WATCH_CFG.RUN_ACTIVE = 0 := by decide

theorem test_witness_ClocksAndSupplyAreWatched :
    (let s : State := { tw [(CEL_ALARM_S.S, 1), (CEL_WAKE_EN.EN, 16)] with cel := { rtc := 32767 } }
     s.cel.off ≠ 4 ∧ s.cel.rtc < alarmTicks s ∧ alarmTicks s ≤ s.cel.rtc + 1 ∧ (s.rd CEL_WAKE_EN.EN).testBit 4 = true)
    ∧ (State.reset.rd CEL_VBAT_STS.LOW = 0 ∧ (tw [(CEL_VBAT_STS.LOW, 1)]).rd CEL_VBAT_STS.LOW = 1)
    ∧ (let s : State := { State.reset with cel := { ticks := 32768 } }; s.cel.off ≠ 4 ∧ s.cel.vbatAt * 1000 + 1000 * 32768 ≤ s.cel.ticks * 1000) ∧ ¬ State.reset.cel.vbatAt * 1000 + 1000 * 32768 ≤ State.reset.cel.ticks * 1000
    ∧ ((tw [(CEL_REG_STS.LP, 1)]).rd CEL_REG_STS.LP = 1 ∧ (tw [(CEL_REG_STS.LP, 0)]).rd CEL_REG_STS.LP = 0)
    ∧ (let s : State := { tw [(KEY_STS.STATE, 3)] with cel := { xtalOk := true } }
       s.cel.xtalOk = true ∧ s.cel.intOsc = false ∧ powered s = true ∧ s.rd CLK_XTAL_STS.FAIL = 0 ∧ s.rd KEY_STS.STATE = 3)
    ∧ ({ State.reset with cel := { off := 4 } } : State).cel.off = 4
    ∧ (let s : State := { tw [(TSU_STS.REF, 1), (CEL_CFG.ANCHOR_S, 1)] with cel := { ticks := 32768 } }
       powered s = true ∧ s.rd TSU_STS.REF = 1 ∧ s.cel.anchorAt * 1000 + 1000 * s.rd CEL_CFG.ANCHOR_S * 32768 ≤ s.cel.ticks * 1000)
    ∧ (let s : State := { tw [(CEL_CFG.ANCHOR_S, 1)] with cel := { ticks := 32767 } }; powered s = true ∧ ¬ s.cel.anchorAt * 1000 + 1000 * s.rd CEL_CFG.ANCHOR_S * 32768 ≤ s.cel.ticks * 1000)
    ∧ (let s : State := { tt 5 (tw [(CLK_STS.REF_OK, 3), (CLK_CFG.AUTO_RET, 1)]) with boot := { clockDone := true } }
       powered s = true ∧ (∀ i : Fin 3, (s.rd CLK_STS.REF_OK).testBit i = true → (3 : Nat).testBit i = true) ∧ (s.at 1).reached (s.boot.monAt + 100000) = false
         ∧ (s.at 1).reached (s.boot.recheckAt + 10000000) = false ∧ (s.at 1).reached (s.boot.xtalAt + 2 ^ s.rd CLK_XTAL_CFG.WIN_LOG2 * 1000000000) = false
         ∧ (refsIn (s.rd CLK_MON_CFG.TOL_PCT * 10000) 0 []).testBit 0 = false ∧ (0 : Nat).testBit 0 = false ∧ (refsIn (s.rd CLK_MON_CFG.TOL_PCT * 10000) 5 []).testBit 1 = false ∧ (5 : Nat).testBit 1 = false)
    ∧ (let s : State := { tw [(CLK_STS.REF_OK, 3), (CLK_CFG.AUTO_RET, 1)] with boot := { clockDone := true } }
       (s.at 0).reached (s.boot.monAt + 100000) = true ∧ (s.at 0).reached (s.boot.recheckAt + 10000000) = true ∧ (refsIn (s.rd CLK_MON_CFG.TOL_PCT * 10000) 7 [0, 0, 0]).testBit (2 : Fin 3) = true ∧ (200 : Nat) ≤ 200)
    ∧ (let s : State := { tw [(CLK_STS.REF_OK, 3), (CLK_CFG.AUTO_RET, 1)] with boot := { clockDone := true } }
       powered s = true ∧ s.boot.clockDone = true ∧ (s.rd CLK_STS.REF_OK).testBit 0 = true ∧ (s.rd CLK_STS.REF_OK).testBit 1 = true
         ∧ (s.rd CLK_STS.REF_OK).testBit (2 : Fin 3) = false ∧ s.rd CLK_CFG.AUTO_RET = 1) ∧ (tw [(CLK_CFG.AUTO_RET, 0)]).rd CLK_CFG.AUTO_RET = 0
    ∧ (let s := tw [(CLK_XTAL_CFG.EN, 1), (CLK_XTAL_STS.RUN, 1)]; (s.at 0).reached (s.boot.xtalAt + 2 ^ s.rd CLK_XTAL_CFG.WIN_LOG2 * 1000000000) = true ∧ s.rd CLK_XTAL_CFG.EN = 1 ∧ s.rd CLK_XTAL_STS.RUN = 1)
    ∧ State.reset.rd HIF_CFG.STANDALONE = 0 ∧ (tw [(HIF_CFG.STANDALONE, 1)]).rd HIF_CFG.STANDALONE = 1 := by decide

/-- What a placement meets: a slotframe of 10 slots, enabled, template 0 in use, and channel 0 of plan 0 in the window of front end 0. -/
def tSched : List (Fld × Nat) := [(CHZ_PLAN_F0.F0_KHZ 0, 868000), (SRC_CFG.EN, 1), (SRC_SF_CFG.EN 0, 1), (SRC_SF_GEOM.LEN 0, 10), (MAC_TT_OPT.EN 0, 1)]

theorem test_witness_ScheduleCommandsAnswer_parked :
    (let s := tr []
     s.rd SRC_CFG.EN = 0 ∧ Store.find false s.hif.parked 0 = false ∧ s.ready 0) ∧ cmdReady State.reset 0 = false
    ∧ (let s : State := { tr [] with hif := { parked := [(0, true)] } }; s.rd SRC_CFG.EN = 0 ∧ Store.find false s.hif.parked 0 = true)
    ∧ (let s : State := { tr tSched with hif := { parked := [(0, true)] } }
       s.rd SRC_CFG.EN = 1 ∧ Store.find false s.hif.parked 0 = true ∧ Store.find false s.hif.orphan 0 = false ∧ owns s = true ∧ (Store.find {} (workCells s) 77 : Cell).typ = 0
         ∧ sfOf s (sfsEn s ++ List.range 64) 77 = none) := by
  unfold State.ready; decide

theorem test_witness_ScheduleCommandsAnswer :
    (let s := tr tSched
     let c : SchedCmd := { ring := 0, hold := true, len := 4 }
     Store.find false s.hif.parked c.ring = false ∧ s.gives c.ring { tag := c.tag, addr := c.addr, len := c.len } c.len ∧ s.rd SRC_CFG.EN = 1 ∧ s.takes c.ring ∧ s.ready c.ring ∧ specOk s { typ := 7 } = false ∧ specOk s { typ := 5 } = true ∧ s.rd (SRC_SF_GEOM.LEN (0 : Fin 64)) ≤ 10 + 0
       ∧ 9 + 0 < s.rd (SRC_SF_GEOM.LEN (0 : Fin 64)) ∧ 9 ≠ s.rd SRC_GEN.CUR ∧ schedPre s c 0 9 { typ := 5 } 1 = 0 ∧ announces s c (specCell { typ := 5 }) = false
       ∧ (Store.find {} (workCells s) 77 : Cell).typ = 0 ∧ s.rd (SRC_SF_CFG.EN (0 : Fin 64)) = 1 ∧ sfOf s (sfsEn s ++ List.range 64) 77 = none ∧ nodeActive s 7 = false)
    ∧ (let s : State := tn 7 { state := .joined } { tr tSched with src := { cells := [(5, { typ := 1, nix := 7 })], p6out := [(7, some {})] } }
       let old : Cell := Store.find {} (workCells s) 5
       s.takes 0 ∧ old.typ ≠ 0 ∧ p6Busy s old = true ∧ sfOf s (sfsEn s ++ List.range 64) 5 = some 0 ∧ nodeActive s 7 = true ∧ s.rd (SRC_SF_CFG.EN (0 : Fin 64)) = 1)
    ∧ (let s : State := { tr ((SRC_SF_CFG.EN 0, 1) :: tSched) with src := { cells := [(5, { typ := 1, nix := 7 })], p6out := [(7, some {})] } }
       let s := s.wr (SRC_SF_CFG.EN 0) 0
       s.takes 0 ∧ s.rd SRC_CFG.EN = 1 ∧ s.rd (SRC_SF_CFG.EN (0 : Fin 64)) = 0 ∧ s.rd (SRC_SF_CFG.ON (0 : Fin 64)) = 0 ∧ (64 : Nat) ≤ 64
         ∧ ((workCells s).filter (fun p => p.2.typ != 0 && inPartition s 0 p.1)).any (fun p => p6Busy s p.2) = true)
    ∧ (let s : State := { tr tSched with src := { cells := [(5, { typ := 1, nix := 7 })] } }
       let old : Cell := Store.find {} (workCells s) 5
       s.takes 0 ∧ old.typ ≠ 0 ∧ p6Busy s old = false ∧ announces s { ring := 0 } old = false ∧ stageRoom s 1 = true ∧ s.src.spill = [] ∧ s.src.applying = none
         ∧ schedPre s { ring := 0, hold := true } 0 9 { typ := 5 } 2 = 0) := by
  unfold State.takes State.ready State.gives; decide

/-- A place that a move finds. -/
theorem test_witness_ScheduleCommandsAnswer_place :
    let s : State := { tr tSched with src := { cells := [(5, { typ := 1, nix := 7 })] } }
    tryPlace (checkTime (s.at 0)) (0 : Fin 64) 9 (specCell { typ := 5 }) (some 5) = .at_ 9 :=
  (tryPlace_checkTime _ _ _ _ _).trans (by decide)

/-- A staging queue that is full. -/
theorem test_witness_StageFull : stageRoom ({ tr tSched with src := { staged := List.replicate 256 (.del 9 false), cells := [(5, { typ := 1, nix := 7 })] } } : State) 1 = false := by
  decide +kernel

set_option maxRecDepth 20000 in
/-- The time of a check is open: slot offset 9 of that slotframe takes the cell of the command. -/
theorem test_witness_placed : tryPlace (checkTime ((tr tSched).at 1)) 0 9 (specCell { typ := 5 }) none = .at_ 9 :=
  (tryPlace_checkTime _ _ _ _ _).trans (by decide)

/-- The state of the automatic QUIET cell of front end 0. -/
def tQuiet : State := tw (tSched ++ [(MAC_STS.ASN_RUN, 1), (SRC_QUIET_CFG.AUTO 0, 1), (RFE_STS.CAL_DUE 0, 1)])

set_option maxRecDepth 20000 in
/-- The same of the search for an automatic QUIET cell: it finds slot offset 0. -/
theorem test_witness_quiet_found :
    let q : Cell := { next := 0xFFFFF, fe := 0, typ := 5, span := tQuiet.rd (SRC_QUIET_CFG.RUN_SLOTS 0) }
    let v : State := checkTime (tQuiet.at 1)
    searchFirst v [0] (fun _ d => v.flag (MAC_TT_OPT.EN d.tt)) q none (searchPlaces v [tQuiet.rd (SRC_QUIET_CFG.QSF 0)] (fun _ => 0)) = some (0, q) := by
  intro q v
  have h : (fun (_ : Nat) (d : Cell) => v.flag (MAC_TT_OPT.EN d.tt)) = fun _ d => (tQuiet.at 1).flag (MAC_TT_OPT.EN d.tt) := by
    funext _ d
    simp only [v, State.flag, checkTime_rd (tQuiet.at 1) (MAC_TT_OPT.EN d.tt) rfl]
  rw [searchFirst_checkTime, searchPlaces_checkTime, h]
  decide

theorem test_witness_GenerationsCommitAndClear :
    State.reset.rd SRC_CFG.EN = 0
    ∧ (let s := tw [(SRC_CFG.EN, 1), (SRC_SF_GEOM.LEN 63, 10)]; s.rd SRC_CFG.EN = 1 ∧ s.rd (SRC_SF_CFG.EN (63 : Fin 64)) = 0 ∧ (sfCheck s 63 (sfsEn s)).1 = 0)
    ∧ (sfCheck (tw [(SRC_SF_BASE.BASE 63, 0xFFFFF)]) 63 []).1 = 3
    ∧ (let s : State := { tw [(SRC_CFG.EN, 1)] with src := { staged := [.add 5 { typ := 1 } true] } }; s.rd SRC_CFG.EN = 1 ∧ s.src.staged ≠ [] ∧ stagedAdaptive s = true ∧ s.src.staged.length < 256 ∧ s.src.spill = []
         ∧ ((tt (10 ^ 12) s).at (10 ^ 12)).reached (s.src.commitAt + s.rd SRC_ADAPT_CFG.COMMIT_MS * 1000000) = true
         ∧ (tt 0 (s.wr SRC_ADAPT_CFG.COMMIT_MS 100)).reached (s.src.commitAt + (s.wr SRC_ADAPT_CFG.COMMIT_MS 100).rd SRC_ADAPT_CFG.COMMIT_MS * 1000000) = false)
    ∧ State.reset.src.staged = [] ∧ stagedAdaptive State.reset = false ∧ State.reset.src.applying = none
    ∧ (let s : State := { tw [(SRC_GEN.CUR, 255), (MAC_STS.ASN_RUN, 1)] with src := { applying := some [.enable 63] } }
       s.src.applying = some [.enable 63] ∧ s.src.applyDue = false ∧ s.src.sendNow = [] ∧ s.rd MAC_STS.ASN_RUN = 1 ∧ s.rd SRC_GEN.CUR = 255)
    ∧ State.reset.src.clearing = false ∧ ({ State.reset with src := { clearing := true } } : State).src.clearing = true := by decide

theorem test_witness_SwitchesMovesAndMicrocode :
    (let s := tw [(SRC_SF_GEOM.LEN 63, 10)]
     (sfCheck s 63 (sfsEn s)).1 = 0 ∧ ahead (s.rd SRC_SW_ASN_LO.ASN + 2 ^ 32 * s.rd SRC_SW_ASN_HI.ASN) s.asn < 2)
    ∧ ahead (State.reset.rd SRC_WMOVE_ASN_LO.ASN + 2 ^ 32 * State.reset.rd SRC_WMOVE_ASN_HI.ASN) State.reset.asn < 2
    ∧ (let s := tw [(SRC_WMOVE_CTL.ARM, 1), (SRC_WMOVE_CTL.FE, 3), (MAC_STS.ASN_RUN, 1), (MAC_ASN_LO.ASN, 0xFFFFFFFF), (MAC_ASN_HI.ASN, 255)]
       s.rd SRC_WMOVE_CTL.ARM = 1 ∧ s.rd MAC_STS.ASN_RUN = 1 ∧ s.src.wmoveSent = false ∧ (s.asn + 1) % 2 ^ 40 = s.src.wmoveAt ∧ s.rd SRC_WMOVE_CTL.FE = (3 : Fin 4)
         ∧ ((s.at 0).rc : Int) + 100000 ≤ tickRc s s.src.wmoveAt ∧ (3 : Fin 4) ≠ 2 ∧ tickRc s s.src.wmoveAt < (((tt 20000000 s).at 0).rc : Int) + 100000)
    ∧ State.reset.rd SRC_WMOVE_CTL.ARM = 0 ∧ State.reset.rd SRC_CFG.EN = 0
    ∧ (let s := tw (tSched ++ [(MAC_STS.ASN_RUN, 1), (SRC_QUIET_CFG.AUTO 0, 1), (RFE_STS.CAL_DUE 0, 1)])
       s.rd SRC_CFG.EN = 1 ∧ s.rd MAC_STS.ASN_RUN = 1 ∧ s.rd (SRC_QUIET_CFG.AUTO (0 : Fin 4)) = 1 ∧ s.rd (RFE_STS.CAL_DUE (0 : Fin 4)) = 1 ∧ Store.find none s.src.autoQuiet 0 = none
         ∧ quietAhead s 0 = none ∧ s.rd (SRC_SF_CFG.EN (s.rd (SRC_QUIET_CFG.QSF (0 : Fin 4)))) = 1 ∧ s.src.applying = none)
    ∧ (tw [(SYS_LC_STS.LC, 2)]).rd SYS_LC_STS.LC ≤ 2 ∧ 2 < (tw [(SYS_LC_STS.LC, 4)]).rd SYS_LC_STS.LC
    ∧ (let s : State := { tw (tSched ++ [(MAC_STS.ASN_RUN, 1), (SRC_SF_CFG.ON 0, 1), (SRC_QUIET_CFG.MAX_WAIT 0, 10)]) with src := { live := [(5, { typ := 5 })] } }
       quietAhead s 0 = some 5 ∧ 5 ≤ s.rd (SRC_QUIET_CFG.MAX_WAIT (0 : Fin 4)))
    ∧ srcBankOk State.reset = true ∧ srcBankOk { State.reset with src := { ucBad := true } } = false
    ∧ State.reset.src.ucBad = false ∧ ({ State.reset with src := { ucBad := true } } : State).src.ucBad = true ∧ State.reset.src.applying = none := by decide

/-- A policy memory whose octets hold 6P sequence number `n` of node 5. -/
def tSeq (n : Nat) : Pcr := { mem := [(p6SeqAt 5, BitVec.ofNat 8 n)] }

theorem test_witness_SixPAndPicksRun :
    p6Waits State.reset 5 = false
    ∧ (let s : State := { tw [(SRC_CFG.EN, 1), (SRC_CFG.P6_EN, 1), (MAC_STS.ASN_RUN, 1)] with src := { p6in := [5], p6out := [(5, some {})] }, pcr := tSeq 3 }
       p6Waits s 5 = true ∧ p6Of s 5 = some {} ∧ p6Seq s 5 = 3 ∧ 4 ≠ p6Seq s 5 ∧ (1 : Nat) ≠ 0)
    ∧ (let s : State := { tw [(SRC_CFG.EN, 1), (SRC_CFG.P6_EN, 1), (MAC_STS.ASN_RUN, 1)] with src := { p6in := [5] }, pcr := tSeq 1 }
       p6Waits s 5 = true ∧ ((p6Of s 5).isSome || s.src.p6ack.any (fun a => a.nix = 5)) = false ∧ 0 ≠ p6Seq s 5 ∧ (0 + 1) % 256 = p6Seq s 5 ∧ 1 ≠ s.rd SRC_6P_CFG.SFID)
    ∧ (let s : State := { tw [(SRC_CFG.EN, 1), (SRC_CFG.P6_EN, 1), (MAC_STS.ASN_RUN, 1), (SRC_6P_CFG.MAX_OUT, 1)] with src := { p6in := [5], p6out := [(9, some {})] }, pcr := tSeq 1 }
       p6Waits s 5 = true ∧ ((p6Of s 5).isSome || s.src.p6ack.any (fun a => a.nix = 5)) = false ∧ s.rd SRC_6P_CFG.MAX_OUT ≤ p6Count s)
    ∧ (let s : State := { tw [(SRC_CFG.EN, 1), (SRC_CFG.P6_EN, 1), (MAC_STS.ASN_RUN, 1), (SRC_6P_CFG.MAX_OUT, 4)] with src := { p6in := [5] }, pcr := tSeq 1 }
       p6Waits s 5 = true ∧ ((p6Of s 5).isSome || s.src.p6ack.any (fun a => a.nix = 5)) = false ∧ p6Count s < s.rd SRC_6P_CFG.MAX_OUT ∧ p6Type { code := 5, tx := true } = some 2
         ∧ ({ code := 5, tx := true } : P6Req).other = false ∧ ({ code := 5, tx := true } : P6Req).sf < 64 ∧ ({ code := 1, sf := 64 } : P6Req).sf = 64 ∧ ∀ v ∈ s.src.wants, v.1 ≠ (5 : Fin 262144).val)
    ∧ (p6Of State.reset 5 = none ∧ ∀ a ∈ State.reset.src.p6ack, a.nix ≠ (5 : Fin 262144).val ∨ a.confirm = false)
    ∧ (let s : State := { tt 1000000000 (tw [(SRC_6P_CFG.TIMEOUT_S, 1)]) with src := { p6out := [(5, some {})] } }
       p6Of s 5 = some {} ∧ ({} : P6Txn).since + s.rd SRC_6P_CFG.TIMEOUT_S * 1000000000 ≤ (s.at 1000000000).rc
         ∧ ((tt 999999999 s).at 999999999).rc < ({} : P6Txn).since + s.rd SRC_6P_CFG.TIMEOUT_S * 1000000000)
    ∧ spanOf State.reset 0 4 = none ∧ txCapable ({ tSpan 4 with cell := { typ := 2 } } : Span).cell.typ = false
    ∧ (let s : State := { tw [(SRC_CFG.EN, 1), (MAC_STS.ASN_RUN, 1)] with lanes := [(0, { spans := [tSpan 4] })] }
       spanOf s 0 4 = some (tSpan 4) ∧ (tSpan 4).picked = false ∧ (tSpan 4).cell.typ = 1 ∧ s.rd SRC_CFG.EN = 1 ∧ s.rd MAC_STS.ASN_RUN = 1 ∧ owns s = true ∧ s.rd QMS_CFG.EN = 0)
    ∧ (let s := tn 5 { state := .joined } (tw [(SRC_CFG.EN, 1), (SRC_CFG.P6_EN, 1), (MAC_STS.ASN_RUN, 1)])
       p6Runs s = true ∧ visitDue (s.at 1) 5 = true ∧ visitDue (s.at 1) 6 = false) ∧ p6Runs State.reset = false := by decide

theorem test_witness_StepsKeepTheMemoryForm : State.reset.memOk := by unfold State.memOk; decide

/-! The well-formedness check refuses an operand that does not fit. -/

theorem test_wf_refuses_address : Instr.wf (.registerWrite 0x200000 4 0 0 0) = false := by decide
theorem test_wf_refuses_snr : Instr.wf (.sliceFrameEnd 0 true true true 0 (2 ^ 31) {} 0) = false := by decide
theorem test_wf_refuses_time : Instr.wf (.asnTick [] (2 ^ 64)) = false := by decide
theorem test_wf_refuses_signed : Instr.wf (.rfeTempSample 0 32768 0) = false ∧ Instr.wf (.rfeTempSample 0 (-32768) 0) = true := by decide
theorem test_wf_refuses_signed_list : Instr.wf (.clockMonitorCheck 0 0 [0] [2 ^ 31] 0 false 0) = false := by decide
theorem test_wf_refuses_long_list : Instr.wf (.jtagSamplePreload (List.replicate 33 0)) = false := by decide
theorem test_wf_refuses_list : Instr.wf (.scrubberPass [] [2 ^ 22] 0) = false := by decide

theorem test_reset_idle : step State.reset = .next State.reset := by rfl

/-! No word spells a command. -/

theorem test_no_word (n w : Nat) : decodeTableWord n w = none := rfl

end Sys2Proof
end

section
/-!
PROOF. What a read of RFE_TX_AIR answers while its front end sends (R15, R66), and the refutation that rests on it.
-/

namespace Sys2Proof.Machine

/-! A register write leaves what a requester has read -/

@[simp] theorem State.busData_wr (s : State) (f : Fld) (v q : Nat) : (s.wr f v).busData q = s.busData q := by
  simp [State.busData]

/-! The air time of a transmission in progress -/

/-- The µs that front end `n` has sent of the transmission in progress, up to RC (R66). -/
def airSent (n : Nat) (s : State) : Nat :=
  let f := s.feOf n
  ((if f.cw then s.rc else min s.rc (f.firstSym + (f.tx.map (·.air)).getD 0)) - f.firstSym) / 1000

theorem airCount_eq (n : Nat) (s : State) :
    airCount n s =
      if feState s n = 4 ∧ (s.feOf n).airDone < airSent n s then
        (s.addSat (RFE_TX_AIR.AIR n) (airSent n s - (s.feOf n).airDone)).modFe n fun f => { f with airDone := airSent n s }
      else s := by
  simp [airCount, airSent]

/-- In TX the count takes in what has been sent and not yet counted. -/
theorem rd_airCount_of_uncounted {n : Nat} {s : State} (tx : feState s n = 4) (uncounted : (s.feOf n).airDone < airSent n s) :
    (airCount n s).rd (RFE_TX_AIR.AIR n) = min (s.rd (RFE_TX_AIR.AIR n) + (airSent n s - (s.feOf n).airDone)) (2 ^ 32 - 1) := by
  have width : (RFE_TX_AIR.AIR n).width = 32 := (RFE_TX_AIR.AIR_id n).2.2
  rw [airCount_eq, if_pos ⟨tx, uncounted⟩, State.rd_modFe, State.addSat_eq, State.rd_wr_same, width]
  exact Nat.mod_eq_of_lt (by omega)

/-- The read answers the count that the transmission in progress has been added to. -/
theorem busData_rfeTxAirRead {fe : Fin 4} {q : Requester} {s u : State} (run : exec (.rfeTxAirRead fe q) s = .next u) :
    u.busData q = (airCount fe s).rd (RFE_TX_AIR.AIR fe) := by
  have next : exec (.rfeTxAirRead fe q) s =
      .next (((airCount fe s).answer q ((airCount fe s).rd (RFE_TX_AIR.AIR fe))).wr (RFE_TX_AIR.AIR fe) 0) := rfl
  obtain rfl := Host.Outcome.next.inj (next.symm.trans run)
  rw [State.busData_wr, State.busData_answer]

/-- Front end 0 sends the carrier of RFE_TX_TEST, 1,000 µs past its first symbol, none of which RFE_TX_AIR holds yet. -/
def carrierUnderWay : State :=
  { State.reset.wr (RFE_STS.STATE 0) 4 with rc := 1036000, fe := [(0, { cw := true, firstSym := 36000 })] }

/-- Refutes O17: the meaning of RFE_TX_AIR_READ adds the µs sent so far of the transmission in progress before it answers, so in
`carrierUnderWay` the read answers 1000 where the field stood at 0. The clause for RFE_TX_AIR asks for the field as it stood. -/
theorem not_everyReaderClears : ¬ Obligations.EveryReaderClears := by
  unfold Obligations.EveryReaderClears
  intro h
  obtain ⟨⟨u, run, answer, -⟩, -⟩ := h 0 0 0 0 0 0 0 0 0 0 0 carrierUnderWay
  have counted : (airCount 0 carrierUnderWay).rd (RFE_TX_AIR.AIR 0) = 1000 := by
    rw [rd_airCount_of_uncounted (by decide) (by decide)]
    decide
  have stood : carrierUnderWay.rd (RFE_TX_AIR.AIR 0) = 0 := by decide
  have asked : (1000 : Nat) = 0 := counted.symm.trans ((busData_rfeTxAirRead run).symm.trans (answer.trans stood))
  exact absurd asked (by decide)

end Sys2Proof.Machine
end

section
/-!
PROOF. What Hoarfrost requests in a period (R36): the row of the table that holds, and the range of the mode (R34).
-/

namespace Sys2Proof.Machine

/-! A later moment changes nothing that the request depends on -/

@[simp] theorem missedAll_at (s : State) (t : Nat) : missedAll (s.at t) = missedAll s := by simp [missedAll]

@[simp] theorem hoarNext_at (s : State) (t : Nat) (slack : Int) (missed calm : Bool) :
    hoarNext (s.at t) slack missed calm = hoarNext s slack missed calm := by simp [hoarNext]

/-! The table of R36 -/

theorem hoarNext_eq (s : State) (slack : Int) (missed calm : Bool) :
    hoarNext s slack missed calm =
      if slack < 0 ∨ missed = true then modeTop (s.rd SYS_MODE_STS.CUR)
      else if slack < 15 then min (modeTop (s.rd SYS_MODE_STS.CUR)) (s.hoar.vreq + 10)
      else if calm = true then max (modeLow (s.rd SYS_MODE_STS.CUR)) (s.hoar.vreq - 5)
      else s.hoar.vreq := by
  simp [hoarNext]

theorem modeLow_le_modeTop (m : Nat) : modeLow m ≤ modeTop m := by
  unfold modeLow modeTop
  split
  · exact le_rfl
  · split <;> decide

/-- A request never leaves the range of the mode: a row that raises stops at the top, one that lowers at the lowest. -/
theorem hoarNext_mem_Icc {s : State} (slack : Int) (missed calm : Bool)
    (inRange : s.hoar.vreq ∈ Set.Icc (modeLow (s.rd SYS_MODE_STS.CUR)) (modeTop (s.rd SYS_MODE_STS.CUR))) :
    hoarNext s slack missed calm ∈ Set.Icc (modeLow (s.rd SYS_MODE_STS.CUR)) (modeTop (s.rd SYS_MODE_STS.CUR)) := by
  have bounds := modeLow_le_modeTop (s.rd SYS_MODE_STS.CUR)
  obtain ⟨low, top⟩ := inRange
  rw [hoarNext_eq]
  split_ifs with jump raises lowers
  · exact ⟨bounds, le_rfl⟩
  · exact ⟨le_min bounds (le_add_right low), min_le_left _ _⟩
  · exact ⟨le_max_left _ _, max_le bounds ((Nat.sub_le _ _).trans top)⟩
  · exact ⟨low, top⟩

/-! The counts that pace the decrease, and the period -/

/-- Consecutive periods with the smallest slack above 40 %, this one included, up to 40. -/
def calmRun (s : State) (slack : Int) : Nat := if 40 < slack then min 40 (s.hoar.slack40 + 1) else 0

/-- Periods since the last decrease, this one included, up to 40 (1 ms). -/
def sinceDecrease (s : State) : Nat := min 40 (s.hoar.sinceDown + 1)

/-- What Hoarfrost requests in a period with nothing held back. -/
def hoarRequest (s : State) (slack : Int) : Nat :=
  hoarNext s slack (missedAll s != s.hoar.seen) (40 ≤ calmRun s slack && 40 ≤ sinceDecrease s)

theorem hoarRequest_eq (s : State) (slack : Int) :
    hoarRequest s slack =
      if slack < 0 ∨ (missedAll s != s.hoar.seen) = true then modeTop (s.rd SYS_MODE_STS.CUR)
      else if slack < 15 then min (modeTop (s.rd SYS_MODE_STS.CUR)) (s.hoar.vreq + 10)
      else if 40 ≤ calmRun s slack ∧ 40 ≤ sinceDecrease s then max (modeLow (s.rd SYS_MODE_STS.CUR)) (s.hoar.vreq - 5)
      else s.hoar.vreq := by
  simp only [hoarRequest, hoarNext_eq, Bool.and_eq_true, decide_eq_true_eq]

/-- A period with no request held back makes the request of the table and counts on. -/
theorem exec_hoarfrostPeriod_of_unheld {slack : Int} {t : Nat} {s : State}
    (unheld : avsHeld (s.at t) = false) (notRaising : s.hoar.raising = false) :
    exec (.hoarfrostPeriod slack t) s =
      .next { s.at t with hoar := { s.hoar with
        vreq := hoarRequest s slack
        slack40 := calmRun s slack
        sinceDown := if hoarRequest s slack < s.hoar.vreq then 0 else sinceDecrease s
        seen := missedAll s } } := by
  have arm : exec (.hoarfrostPeriod slack t) s = execHoarfrostPeriod slack t s := rfl
  have asks : (avsHeld (s.at t) || s.hoar.raising) = false := by rw [unheld, notRaising]; rfl
  simp only [arm, execHoarfrostPeriod, modHoar, State.at_hoar, missedAll_at, hoarNext_at, asks, Bool.false_eq_true, if_false]
  rfl

/-- Settles O4: the period's request is `hoarRequest`, which is the table's row by `hoarRequest_eq` and in range by `hoarNext_mem_Icc`. -/
theorem hoarfrostFollowsTheSlack : Obligations.HoarfrostFollowsTheSlack := by
  unfold Obligations.HoarfrostFollowsTheSlack
  intro slack t s unheld notRaising
  exact ⟨_, exec_hoarfrostPeriod_of_unheld unheld notRaising, rfl, rfl, hoarRequest_eq s slack, rfl,
    fun low top => hoarNext_mem_Icc slack _ _ ⟨low, top⟩⟩

end Sys2Proof.Machine
end

section
/-!
PROOF. The Ward shaper's release of a downlink class queue (R224): what a packet on its way behind the shaper leaves alone, and the
release itself.
-/

namespace Sys2Proof.Machine

/-! Behind the Ward shaper (R223, stages 3 to 5) the class queues and the Ward buckets stay -/

/-- The downlink class queues and the buckets of the Ward shapers. -/
def wardShaping (s : State) : Store (List Packet) × Store Bucket := (s.qms.downQ, s.qms.shaper)

theorem wardShaping_congr {s u : State} (h : u.qms = s.qms) : wardShaping u = wardShaping s :=
  congrArg (fun q => (q.downQ, q.shaper)) h

theorem downQOf_congr {s u : State} (h : wardShaping u = wardShaping s) (w c : Nat) : downQOf u w c = downQOf s w c :=
  congrArg (fun q : Store (List Packet) × Store Bucket => Store.find [] q.1 (w * 8 + c)) h

theorem shaper_congr {s u : State} (h : wardShaping u = wardShaping s) : u.qms.shaper = s.qms.shaper := congrArg Prod.snd h

theorem wardShaping_wr (s : State) (f : Fld) (v : Nat) : wardShaping (s.wr f v) = wardShaping s :=
  wardShaping_congr (s.wr_qms f v)

theorem wardShaping_at (s : State) (t : Nat) : wardShaping (s.at t) = wardShaping s :=
  wardShaping_congr (s.at_qms t)

theorem wardShaping_ite {c : Prop} [Decidable c] {x y s : State} (hx : wardShaping x = wardShaping s) (hy : wardShaping y = wardShaping s) :
    wardShaping (if c then x else y) = wardShaping s := by
  split
  · exact hx
  · exact hy

theorem wardShaping_each {α : Type} {f : α → State → State} (stays : ∀ a s, wardShaping (f a s) = wardShaping s) (l : List α) (s : State) :
    wardShaping (s.each l f) = wardShaping s := by
  induction l generalizing s with
  | nil => rfl
  | cons a l ih => exact (ih (f a s)).trans (stays a s)

theorem wardShaping_modNode (s : State) (n : Nat) (g : Node → Node) : wardShaping (s.modNode n g) = wardShaping s :=
  wardShaping_ite rfl rfl

theorem wardShaping_raise (b : IrqBit) (s : State) : wardShaping (raise b s) = wardShaping s :=
  wardShaping_ite ((wardShaping_congr ((eventPost_keeps _ _ (Nat.or_self _) .refl).qms rfl)).trans (wardShaping_wr s b.sts _))
    (wardShaping_wr s b.sts _)

theorem wardShaping_frameWhey (code : Nat) (f : QFrame) (s : State) : wardShaping (frameWhey code f s) = wardShaping s :=
  wardShaping_congr ((frameWhey_keeps code f s (Nat.or_self _) .refl).qms rfl)

theorem wardShaping_packetWhey (code : Nat) (p : Packet) (s : State) : wardShaping (packetWhey code p s) = wardShaping s :=
  wardShaping_each (wardShaping_frameWhey code) p.frames s

theorem wardShaping_nodePeak (nix : Nat) (s : State) : wardShaping (nodePeak nix s) = wardShaping s :=
  wardShaping_congr ((nodePeak_keeps nix s (Nat.or_self _) .refl).qms rfl)

theorem wardShaping_setNodeQ (nix : Nat) (l : List QFrame) (s : State) : wardShaping (setNodeQ nix l s) = wardShaping s :=
  wardShaping_wr _ _ _

theorem wardShaping_nodeAppend (nix : Nat) (l : List QFrame) (s : State) : wardShaping (nodeAppend nix l s) = wardShaping s :=
  wardShaping_ite (wardShaping_each (wardShaping_frameWhey 30) l s)
    ((wardShaping_nodePeak nix _).trans ((wardShaping_setNodeQ nix _ _).trans (wardShaping_wr s _ _)))

theorem wardShaping_packetQueue (p : Packet) (hold : Option Nat) (s : State) : wardShaping (packetQueue p hold s) = wardShaping s :=
  wardShaping_ite (wardShaping_packetWhey 34 p s) (wardShaping_nodeAppend p.link _ s)

theorem wardShaping_setCal (l : List Deferred) (s : State) : wardShaping (setCal l s) = wardShaping s :=
  (wardShaping_wr _ _ _).trans (wardShaping_wr _ _ _)

theorem wardShaping_calRelease (s : State) : wardShaping (calRelease s) = wardShaping s := by
  unfold calRelease
  exact (wardShaping_each (f := fun (d : Deferred) => packetQueue d.packet none)
    (fun d => wardShaping_packetQueue d.packet none) _ _).trans (wardShaping_setCal _ s)

theorem wardShaping_calRelease_at (s : State) (t : Nat) : wardShaping (calRelease (s.at t)) = wardShaping s :=
  (wardShaping_calRelease _).trans (wardShaping_at s t)

theorem wardShaping_packetDefer (p : Packet) (base : Nat) (s : State) : wardShaping (packetDefer p base s) = wardShaping s :=
  wardShaping_ite ((wardShaping_setCal _ _).trans (wardShaping_wr s _ _)) ((wardShaping_packetQueue p _ _).trans (wardShaping_wr s _ _))

theorem wardShaping_packetShape (p : Packet) (s : State) : wardShaping (packetShape p s) = wardShaping s := by
  refine wardShaping_ite (wardShaping_packetWhey 34 p s) (wardShaping_ite (wardShaping_packetQueue p none s) ?_)
  generalize shapeNode s (s.node p.dest) p.ipLen = shaped
  cases shaped with
  | none => exact (wardShaping_packetWhey 32 p _).trans ((wardShaping_raise _ _).trans (wardShaping_wr s _ _))
  | some x =>
    exact wardShaping_ite ((wardShaping_packetQueue p none _).trans (wardShaping_modNode s _ _))
      ((wardShaping_packetDefer p x.1 _).trans (wardShaping_modNode s _ _))

/-! The release -/

/-- What the emptying of due calendar buckets leaves of the registers: among them all that a release depends on. -/
theorem rd_calRelease {f : Fld} (s : State) (h : f.id ∈ [QMS_CFG.EN.id, SHP_CFG.EN.id, (SHP_WDS.RATE 0).id, (SHP_WDS.BURST 0).id]) :
    (calRelease s).rd f = s.rd f := by
  have keeps := (calRelease_keeps s (Nat.or_self _) .refl).rd f
  simp only [List.mem_cons, List.not_mem_nil, or_false] at h
  rcases h with h | h | h | h <;> rw [h] at keeps <;> exact keeps (by decide) rfl

theorem rc_calRelease (s : State) : (calRelease s).rc = s.rc := (calRelease_keeps s (Nat.or_self _) .refl).rc rfl

/-- The head `p` of downlink class queue `w`, `c` leaves it for the per-node shaper and `l` remains (R224). -/
def releaseHead (w c : Nat) (p : Packet) (l : List Packet) (s : State) : State :=
  packetShape p (cqSub (downCq w c) (packetCurds p) (setDownQ w c l s))

theorem wardShaping_releaseHead (w c : Nat) (p : Packet) (l : List Packet) (s : State) :
    wardShaping (releaseHead w c p l s) = wardShaping (setDownQ w c l s) :=
  (wardShaping_packetShape p _).trans (wardShaping_wr _ _ _)

@[simp] theorem downQOf_releaseHead_same (w c : Nat) (p : Packet) (l : List Packet) (s : State) : downQOf (releaseHead w c p l s) w c = l :=
  (downQOf_congr (wardShaping_releaseHead w c p l s) w c).trans (Store.find_put_same [] s.qms.downQ (w * 8 + c) l)

theorem downQOf_releaseHead_ne {w c d : Nat} (p : Packet) (l : List Packet) (s : State) (h : d ≠ c) :
    downQOf (releaseHead w c p l s) w d = downQOf s w d :=
  (downQOf_congr (wardShaping_releaseHead w c p l s) w d).trans (Store.find_put_ne [] [] s.qms.downQ l (by omega))

@[simp] theorem shaper_releaseHead (w c : Nat) (p : Packet) (l : List Packet) (s : State) :
    (releaseHead w c p l s).qms.shaper = s.qms.shaper :=
  congrArg Prod.snd (wardShaping_releaseHead w c p l s)

/-- The Ward shaper's reading of its bucket is the same once due calendar buckets are empty. -/
theorem shaperNow_calRelease (s : State) (i : Nat) : shaperNow (calRelease s) i = shaperNow s i := by
  simp only [shaperNow, shaper_congr (wardShaping_calRelease s), rc_calRelease]
  rw [rd_calRelease s (by simp), rd_calRelease s (by simp)]

/-- A bucket charged with a packet of `n` octets, whatever it then holds (R224). -/
def charged (n : Nat) (b : Bucket) : Bucket := { b with c := b.c - meterBits n }

/-- The Ward shaper of (w, c), brought up to RC, is charged. -/
def chargeShaper (w c n : Nat) (s : State) : State := setShaper (w * 8 + c) (charged n (shaperNow s (w * 8 + c))) s

/-- R224 for a queued unicast packet at the head: no shaper, a bucket in deficit, a bucket that is not. -/
theorem exec_wardShaperRelease {w c : Fin 8} {p : Packet} {l : List Packet} {s : State} (t : Nat) (head : downQOf s w c = p :: l)
    (queued : p.released = false) (unicast : p.bcast = false) (queues : s.rd QMS_CFG.EN = 1) (shapers : s.rd SHP_CFG.EN = 1) :
    exec (.wardShaperRelease w c t) s = .next (
      if s.rd (SHP_WDS.RATE (w * 8 + c)) = 0 then releaseHead w c p l (calRelease (s.at t))
      else if (shaperNow (s.at t) (w * 8 + c)).c < 0 then calRelease (s.at t)
      else releaseHead w c p l (chargeShaper w c p.ipLen (calRelease (s.at t)))) := by
  have arm : exec (.wardShaperRelease w c t) s = execWardShaperRelease w c t s := rfl
  have stays := wardShaping_calRelease_at s t
  have headKept : downQOf (calRelease (s.at t)) w c = p :: l := (downQOf_congr stays w c).trans head
  have queuesOn : (calRelease (s.at t)).flag QMS_CFG.EN = true := by
    rw [State.flag_eq, rd_calRelease _ (by simp), State.rd_at, queues]; rfl
  have shapersOn : (calRelease (s.at t)).flag SHP_CFG.EN = true := by
    rw [State.flag_eq, rd_calRelease _ (by simp), State.rd_at, shapers]; rfl
  have rate : (calRelease (s.at t)).rd (SHP_WDS.RATE (w * 8 + c)) = s.rd (SHP_WDS.RATE (w * 8 + c)) := by
    rw [rd_calRelease _ (by simp), State.rd_at]
  simp only [arm, execWardShaperRelease, headKept, queued, unicast, queuesOn, shapersOn, rate, chargeShaper, charged, shaperNow_calRelease]
  by_cases off : s.rd (SHP_WDS.RATE (w * 8 + c)) = 0
  · simp [off, releaseHead]
  · by_cases deficit : (shaperNow (s.at t) (w * 8 + c)).c < 0
    · simp [off, deficit]
    · simp [off, deficit, releaseHead]

@[simp] theorem downQOf_chargeShaper (w c n v k : Nat) (s : State) : downQOf (chargeShaper w c n s) v k = downQOf s v k := rfl

theorem find_chargeShaper (w c n : Nat) (s : State) :
    Store.find ({} : Bucket) (chargeShaper w c n s).qms.shaper (w * 8 + c) = charged n (shaperNow s (w * 8 + c)) :=
  Store.find_put_same ({} : Bucket) s.qms.shaper (w * 8 + c) (charged n (shaperNow s (w * 8 + c)))

/-- Settles O35: the three branches of `exec_wardShaperRelease`; the calendar and the per-node shaper leave class queues and buckets. -/
theorem wardShaperWorksInDeficit : Obligations.WardShaperWorksInDeficit := by
  unfold Obligations.WardShaperWorksInDeficit
  intro w c p l t s i b burst fill head queued unicast queues shapers
  have run := exec_wardShaperRelease t head queued unicast queues shapers
  have stays := wardShaping_calRelease_at s t
  have filled : (shaperNow (s.at t) i).c = fill := by
    simp only [shaperNow, State.at_qms, State.rd_at]
    rfl
  refine ⟨fun rate notDeficit => ?_, fun rate deficit => ?_, fun unshaped => ?_⟩
  · rw [if_neg rate, if_neg (by rw [filled]; omega)] at run
    have bucket := find_chargeShaper w c p.ipLen (calRelease (s.at t))
    rw [shaperNow_calRelease] at bucket
    refine ⟨_, run, downQOf_releaseHead_same .., ?_, ?_, fun d other => ?_⟩
    · rw [shaper_releaseHead, bucket, ← filled]
      rfl
    · rw [shaper_releaseHead, bucket]
      rfl
    · rw [downQOf_releaseHead_ne p l _ (by simpa [Fin.ext_iff] using other), downQOf_chargeShaper, downQOf_congr stays]
  · rw [if_neg rate, if_pos (by rw [filled]; exact deficit)] at run
    exact ⟨_, run, (downQOf_congr stays w c).trans head, shaper_congr stays⟩
  · rw [if_pos unshaped] at run
    exact ⟨_, run, downQOf_releaseHead_same .., (shaper_releaseHead ..).trans (shaper_congr stays)⟩

end Sys2Proof.Machine
end

section
/-!
PROOF. Read latches (R94, R246, R385): a low word latches what completes it, for its requester alone.
-/

namespace Sys2Proof.Machine

/-! One latch -/

@[simp] theorem rd_latchSet (q k v : Nat) (s : State) (f : Fld) : (latchSet q k v s).rd f = s.rd f := State.rd_congr rfl rfl rfl f
@[simp] theorem latchSet_rc (q k v : Nat) (s : State) : (latchSet q k v s).rc = s.rc := rfl
@[simp] theorem tsuSec_latchSet (q k v : Nat) (s : State) : (latchSet q k v s).tsuSec = s.tsuSec := rfl
@[simp] theorem tsuFrac_latchSet (q k v : Nat) (s : State) : (latchSet q k v s).tsuFrac = s.tsuFrac := rfl
@[simp] theorem busData_latchSet (q k v p : Nat) (s : State) : (latchSet q k v s).busData p = s.busData p := rfl
@[simp] theorem tsuSec_answer (q v : Nat) (s : State) : (s.answer q v).tsuSec = s.tsuSec := rfl
@[simp] theorem tsuFrac_answer (q v : Nat) (s : State) : (s.answer q v).tsuFrac = s.tsuFrac := rfl

/-- What a latch reads after one of the same requester is set. -/
@[simp] theorem find_latchSet_own (q k j v : Nat) (s : State) :
    Store.find 0 (latchSet q k v s).latch (q * 16 + j) = if j = k then v else Store.find 0 s.latch (q * 16 + j) := by
  simp [latchSet, Store.find_put]

/-- Setting a latch of one requester leaves every latch of another alone: the 16 latches of each do not overlap. -/
theorem find_latchSet_other {p q : Requester} (other : p ≠ q) (j : Fin 16) {k : Nat} (inside : k < 16) (v : Nat) (s : State) :
    Store.find 0 (latchSet q k v s).latch (p.val * 16 + j) = Store.find 0 s.latch (p.val * 16 + j) := by
  have apart : p.val ≠ q.val := fun same => other (Fin.ext same)
  exact Store.find_put_ne 0 0 s.latch v (by omega)

/-! The reads -/

theorem exec_tsuNsLoRead (q : Requester) (t : Nat) (s : State) :
    exec (.tsuNsLoRead q t) s = .next (latchSet q 5 ((s.at t).tsuSec / 2 ^ 32) (latchSet q 4 ((s.at t).tsuSec % 2 ^ 32)
      (latchSet q 3 (s.at t).tsuFrac (latchSet q 2 ((s.at t).rc / 2 ^ 48 % 2 ^ 16) (latchSet q 1 ((s.at t).rc / 2 ^ 32 % 2 ^ 16)
        ((s.at t).answer q (s.at t).rc32)))))) := by
  have arm : exec (.tsuNsLoRead q t) s = execTsuNsLoRead q t s := rfl
  simp only [arm, execTsuNsLoRead, tsuSec_latchSet, tsuFrac_latchSet, tsuSec_answer, tsuFrac_answer]

theorem exec_tsuTimeNsRead (q : Requester) (t : Nat) (s : State) :
    exec (.tsuTimeNsRead q t) s = .next (latchSet q 7 ((s.at t).tsuSec / 2 ^ 32) (latchSet q 6 ((s.at t).tsuSec % 2 ^ 32)
      ((s.at t).answer q (s.at t).tsuFrac))) := by
  have arm : exec (.tsuTimeNsRead q t) s = execTsuTimeNsRead q t s := rfl
  simp only [arm, execTsuTimeNsRead]

theorem exec_macAsnLoRead (q : Requester) (s : State) :
    exec (.macAsnLoRead q) s = .next (latchSet q 0 (s.rd MAC_ASN_HI.ASN) (s.answer q (s.rd MAC_ASN_LO.ASN))) := rfl

theorem exec_celRtcTickRead_of_powered {s : State} (q : Requester) (t : Nat) (on : powered s = true) :
    exec (.celRtcTickRead q t) s = .next (((s.at t).wr CEL_RTC_S.S (rtcS s)).answer q (s.rd CEL_RTC_TICK.TICK)) := by
  have arm : exec (.celRtcTickRead q t) s = execCelRtcTickRead q t s := rfl
  have stillOn : powered (s.at t) = true := by rwa [powered, State.at_cel]
  simp only [arm, execCelRtcTickRead, stillOn, if_true, rtcS, State.at_cel, State.rd_at]

/-- Settles O18: a read is an answer with the requester's own latches set (`find_latchSet_own`), apart from those of every other requester
(`find_latchSet_other`). -/
theorem latchedReadsNeverTear : Obligations.LatchedReadsNeverTear := by
  unfold Obligations.LatchedReadsNeverTear
  intro q t s
  refine ⟨⟨_, exec_tsuNsLoRead q t s, ?_⟩, ⟨_, exec_tsuTimeNsRead q t s, ?_⟩, ⟨_, exec_macAsnLoRead q s, ?_⟩,
    fun on => ⟨_, exec_celRtcTickRead_of_powered q t on, ?_⟩⟩
  · refine ⟨?_, ?_, ?_, ?_, ?_, ?_, ?_, fun p other k => ?others, fun f => ?fields⟩
    · simp only [latchSet_rc, State.answer_rc]
    · simp only [latchSet_rc, busData_latchSet, State.answer_rc, State.busData_answer, State.rc32]
    case others => simp only [find_latchSet_other other, Nat.reduceLT, State.answer_latch, State.at_latch]
    case fields => simp only [rd_latchSet, State.rd_answer, State.rd_at]
    all_goals simp only [find_latchSet_own, Nat.reduceEqDiff, reduceIte, latchSet_rc, tsuSec_latchSet, tsuFrac_latchSet, State.answer_rc,
      tsuSec_answer, tsuFrac_answer]
  · refine ⟨?_, ?_, ?_, ?_, fun p other k => ?others, fun f => ?fields⟩
    · simp only [latchSet_rc, State.answer_rc]
    · simp only [busData_latchSet, State.busData_answer, tsuFrac_latchSet, tsuFrac_answer]
    case others => simp only [find_latchSet_other other, Nat.reduceLT, State.answer_latch, State.at_latch]
    case fields => simp only [rd_latchSet, State.rd_answer, State.rd_at]
    all_goals simp only [find_latchSet_own, Nat.reduceEqDiff, reduceIte, tsuSec_latchSet, tsuSec_answer]
  · refine ⟨?_, fun p other k => ?_, fun f => ?_⟩
    · simp only [busData_latchSet, State.busData_answer, find_latchSet_own, reduceIte, State.asn]
    · simp only [find_latchSet_other other, Nat.reduceLT, State.answer_latch]
    · simp only [rd_latchSet, State.rd_answer]
  · exact ⟨State.busData_answer .., by rw [State.rd_answer, State.rd_wr_same]; rfl⟩

end Sys2Proof.Machine
end

section
/-!
PROOF. Steps of TSU time (R256, R259): what a step taken and a step refused leave of TSU time and of the registers that tell of steps.
-/

namespace Sys2Proof.Machine

/-! What moves with a step, beside TSU time -/

/-- The registers that tell of steps and refusals (R259). -/
def stepRegisters : List Fld := [TSU_STEPS, TSU_STEP_REFUSED, TSU_STEP_CTL.BAD, TSU_INT_STS.STEP_REFUSED]

/-- RC, the offset of TSU time from it, and the registers that tell of steps. -/
def stepView (s : State) : Nat × Int × List Nat := (s.rc, s.tsuOfs, stepRegisters.map s.rd)

theorem rc_of_stepView {s u : State} (h : stepView u = stepView s) : u.rc = s.rc := congrArg Prod.fst h

theorem tsuOfs_of_stepView {s u : State} (h : stepView u = stepView s) : u.tsuOfs = s.tsuOfs := congrArg (fun v => v.2.1) h

theorem rd_of_stepView {s u : State} (h : stepView u = stepView s) {f : Fld} (tells : f ∈ stepRegisters) : u.rd f = s.rd f :=
  List.map_inj_left.mp (congrArg (fun v : Nat × Int × List Nat => v.2.2) h) f tells

theorem stepView_each {α : Type} {f : α → State → State} (stays : ∀ a s, stepView (f a s) = stepView s) (l : List α) (s : State) :
    stepView (s.each l f) = stepView s := by
  induction l generalizing s with
  | nil => rfl
  | cons a l ih => exact (ih (f a s)).trans (stays a s)

/-- A mask without the bits of RC, of the offset and of these registers names nothing that they tell. -/
theorem stepView_of_keeps {m : Nat} {s u : State} (keeps : Keeps m s u)
    (bits : ∀ i ∈ Part.rc.bit :: Part.tsuOfs.bit :: stepRegisters.map Fld.id, m.testBit i = false) : stepView u = stepView s := by
  have regs : ∀ f ∈ stepRegisters, u.rd f = s.rd f := fun f tells =>
    keeps.rd f ((by decide : ∀ f ∈ stepRegisters, f.id < 1664) f tells)
      (bits _ (List.mem_cons_of_mem _ (List.mem_cons_of_mem _ (List.mem_map_of_mem tells))))
  have rc : u.rc = s.rc := keeps.rc (bits _ List.mem_cons_self)
  have ofs : u.tsuOfs = s.tsuOfs := keeps.tsuOfs (bits _ (List.mem_cons_of_mem _ List.mem_cons_self))
  exact Prod.ext rc (Prod.ext ofs (List.map_congr_left regs))

theorem stepView_eventPost (v : EventEntry) (s : State) : stepView (eventPost v s) = stepView s :=
  stepView_of_keeps (eventPost_keeps v s (Nat.or_self _) .refl) (by decide)

theorem stepView_gateView (p : Nat) (s : State) : stepView (gateView p s) = stepView s :=
  stepView_of_keeps (gateView_keeps p s (Nat.or_self _) .refl) (by decide)

theorem stepView_pulseStep (d : Int) (k : Nat) (s : State) : stepView (pulseStep d k s) = stepView s :=
  stepView_of_keeps (pulseStep_keeps d k s (Nat.or_self _) .refl) (by decide)

theorem stepView_startStep (s : State) : stepView (startStep s) = stepView s :=
  stepView_of_keeps (startStep_keeps s (Nat.or_self _) .refl) (by decide)

/-! A step taken -/

/-- TSU time has moved by `d` ns and the step is counted; gates, pulse units and a pending start have not followed it yet. -/
def stepCounted (d : Int) (s : State) : State :=
  { (s.inc TSU_STEPS).put CEL_ANCHOR_STS.VALID false with tsuOfs := s.tsuOfs + d, anchor := none }

theorem rd_stepCounted (d : Int) (s : State) (f : Fld) :
    (stepCounted d s).rd f = ((s.inc TSU_STEPS).put CEL_ANCHOR_STS.VALID false).rd f := State.rd_congr rfl rfl rfl f

/-- What follows the movement of TSU time leaves it, and the registers that tell of it. -/
theorem stepView_tsuMove (d : Int) (s : State) : stepView (tsuMove d s) = stepView (stepCounted d s) :=
  (stepView_startStep _).trans ((stepView_each (stepView_pulseStep d) [0, 1, 2, 3] _).trans (stepView_each stepView_gateView [0, 1] _))

theorem rc_tsuMove (d : Int) (s : State) : (tsuMove d s).rc = s.rc := by
  rw [rc_of_stepView (stepView_tsuMove d s)]
  simp [stepCounted]

theorem tsuOfs_tsuMove (d : Int) (s : State) : (tsuMove d s).tsuOfs = s.tsuOfs + d := tsuOfs_of_stepView (stepView_tsuMove d s)

theorem rd_tsuMove_steps (d : Int) (s : State) : (tsuMove d s).rd TSU_STEPS = (s.rd TSU_STEPS + 1) % 2 ^ 32 := by
  rw [rd_of_stepView (stepView_tsuMove d s) (by decide), rd_stepCounted, State.put_eq, State.rd_wr_ne _ _ rfl, State.inc_eq, State.rd_wr_same]
  rfl

theorem rd_tsuMove_bad (d : Int) (s : State) : (tsuMove d s).rd TSU_STEP_CTL.BAD = s.rd TSU_STEP_CTL.BAD := by
  rw [rd_of_stepView (stepView_tsuMove d s) (by decide), rd_stepCounted, State.put_eq, State.rd_wr_ne _ _ rfl, State.inc_eq,
    State.rd_wr_ne _ _ rfl]

/-! A step refused -/

theorem stepRefused_iff (s : State) :
    stepRefused s = true ↔
      s.rd MAC_STS.ASN_RUN = 1 ∨ s.rd TSU_SERVO_STS.STATE = 1 ∨ s.rd TSU_SERVO_STS.STATE = 2 ∨ s.rd TSU_STS.REF = 0 := by
  have bit : s.rd MAC_STS.ASN_RUN < 2 := s.rd_lt MAC_STS.ASN_RUN
  have runs : s.rd MAC_STS.ASN_RUN ≠ 0 ↔ s.rd MAC_STS.ASN_RUN = 1 := by omega
  simp [stepRefused, asnRuns, runs, or_assoc]

@[simp] theorem stepRefused_at (s : State) (t : Nat) : stepRefused (s.at t) = stepRefused s :=
  Bool.eq_iff_iff.mpr (by simp only [stepRefused_iff, State.rd_at])

/-- The status event of a refusal leaves what tells of it. -/
theorem stepView_stepBad (s : State) :
    stepView (stepBad s) = stepView (((s.put TSU_STEP_CTL.BAD true).inc TSU_STEP_REFUSED).put TSU_INT_STS.STEP_REFUSED true) := by
  unfold stepBad raise
  dsimp only
  split
  · exact stepView_eventPost _ _
  · rfl

theorem tsuNs_congr {s u : State} (rc : u.rc = s.rc) (ofs : u.tsuOfs = s.tsuOfs) : u.tsuNs = s.tsuNs := by
  unfold State.tsuNs
  rw [rc, ofs]

/-- A refusal (R259): TSU time stays, BAD is set, STEP_REFUSED is raised and the refusal is counted, not a step. -/
theorem stepBad_at_refuses (s : State) (t : Nat) :
    (stepBad (s.at t)).tsuNs = (s.at t).tsuNs ∧ (stepBad (s.at t)).rd TSU_STEP_CTL.BAD = 1
      ∧ (stepBad (s.at t)).rd TSU_INT_STS.STEP_REFUSED = 1
      ∧ (stepBad (s.at t)).rd TSU_STEP_REFUSED = (s.rd TSU_STEP_REFUSED + 1) % 2 ^ 32 ∧ (stepBad (s.at t)).rd TSU_STEPS = s.rd TSU_STEPS := by
  have view := stepView_stepBad (s.at t)
  have reads {f : Fld} (tells : f ∈ stepRegisters) := rd_of_stepView view tells
  refine ⟨tsuNs_congr (by simp [rc_of_stepView view]) (by simp [tsuOfs_of_stepView view]), (reads (by decide)).trans ?_,
    (reads (by decide)).trans ?_, (reads (by decide)).trans ?_, (reads (by decide)).trans ?_⟩ <;> simp [State.rd_wr_ne, ofBool]

/-! The commands -/

/-- A step command taken: BAD is cleared and TSU time moves by `d` ns. -/
def stepTaken (d : Int) (s : State) : State := tsuMove d (s.put TSU_STEP_CTL.BAD false)

theorem rc_stepTaken (d : Int) (s : State) : (stepTaken d s).rc = s.rc := (rc_tsuMove d _).trans (State.wr_rc s _ _)

theorem tsuOfs_stepTaken (d : Int) (s : State) : (stepTaken d s).tsuOfs = s.tsuOfs + d :=
  (tsuOfs_tsuMove d _).trans (congrArg (· + d) (State.wr_tsuOfs s _ _))

theorem rd_stepTaken_steps (d : Int) (s : State) : (stepTaken d s).rd TSU_STEPS = (s.rd TSU_STEPS + 1) % 2 ^ 32 := by
  rw [← State.rd_wr_ne s (ofBool false) (f := TSU_STEP_CTL.BAD) rfl]
  exact rd_tsuMove_steps d _

theorem rd_stepTaken_bad (d : Int) (s : State) : (stepTaken d s).rd TSU_STEP_CTL.BAD = 0 :=
  (rd_tsuMove_bad d _).trans (State.rd_wr_same s TSU_STEP_CTL.BAD (ofBool false))

/-- A step by what `v` lies ahead of TSU time sets TSU time to `v`, in 48 bits of seconds. -/
theorem tsuNs_stepTaken_sub (v : Nat) (s : State) : (stepTaken (v - s.tsuNs) s).tsuNs = v % (2 ^ 48 * 1000000000) := by
  unfold State.tsuNs
  rw [rc_stepTaken, tsuOfs_stepTaken]
  omega

theorem exec_tsuStep (alsoSet : Bool) (t : Nat) (s : State) :
    exec (.tsuStep alsoSet t) s = .next (
      if alsoSet || stepRefused s then stepBad (s.at t)
      else stepTaken (s.rdS TSU_STEP_S.S * 1000000000 + s.rdS TSU_STEP_NS.NS) (s.at t)) := by
  have arm : exec (.tsuStep alsoSet t) s = execTsuStep alsoSet t s := rfl
  simp only [arm, execTsuStep, stepTaken, State.rdS, State.rd_at, stepRefused_at]

/-- The value of TSU_SET, ns. -/
def setValue (s : State) : Nat := (s.rd TSU_SET_SL.S + 2 ^ 32 * s.rd TSU_SET_SH.S) * 1000000000 + s.rd TSU_SET_NS.NS

theorem exec_tsuSet (t : Nat) (s : State) :
    exec (.tsuSet t) s = .next (
      if stepRefused s then stepBad (s.at t) else stepTaken (setValue s - (s.at t).tsuNs) (s.at t)) := by
  have arm : exec (.tsuSet t) s = execTsuSet t s := rfl
  simp only [arm, execTsuSet, stepTaken, setValue, State.rd_at, stepRefused_at]
  push_cast
  rfl

/-! The servo's step (R256) -/

@[simp] theorem State.wrSat_eq (s : State) (f : Fld) (v : Int) :
    s.wrSat f v = s.wr f (unsg f.width (clampI (-2147483648) 2147483647 v)) := rfl

@[simp] theorem rd_modTsu (g : Tsu → Tsu) (s : State) (f : Fld) : (modTsu g s).rd f = s.rd f := State.rd_congr rfl rfl rfl f

@[simp] theorem tsuOfs_modTsu (g : Tsu → Tsu) (s : State) : (modTsu g s).tsuOfs = s.tsuOfs := rfl

/-- Offset sample `o` is noted, with its time, before the servo acts on it. -/
def sampleNoted (o : Int) (s : State) : State :=
  modTsu (fun x => { x with last := s.rc }) ((s.wrSat TSU_SERVO_OFS.NS o).peak TSU_SERVO_OFS_PEAK.NS (min o.natAbs 0xFFFFFFFF))

@[simp] theorem tsuOfs_sampleNoted (o : Int) (s : State) : (sampleNoted o s).tsuOfs = s.tsuOfs := by
  rw [sampleNoted, tsuOfs_modTsu, State.peak_eq, State.wr_tsuOfs, State.wrSat_eq, State.wr_tsuOfs]

theorem rd_sampleNoted (o : Int) (s : State) {f : Fld} (other : f.id ∉ [TSU_SERVO_OFS.NS.id, TSU_SERVO_OFS_PEAK.NS.id]) :
    (sampleNoted o s).rd f = s.rd f := by
  simp only [List.mem_cons, List.not_mem_nil, or_false, not_or] at other
  obtain ⟨notOfs, notPeak⟩ := other
  rw [sampleNoted, rd_modTsu, State.peak_eq, State.rd_wr_ne _ _ (beq_false_of_ne notPeak), State.wrSat_eq,
    State.rd_wr_ne _ _ (beq_false_of_ne notOfs)]

theorem servoOffset_of_acquire {s : State} (o : Int) (acquire : s.rd TSU_SERVO_STS.STATE = 1) :
    servoOffset o s = ofsAcquire o (sampleNoted o s) := by
  unfold servoOffset
  rw [acquire, if_neg one_ne_zero, if_pos rfl]
  simp only [sampleNoted, State.peak_eq, State.wr_rc, State.wrSat_eq]

/-- A sample beyond STEP_THR is stepped away while steps are allowed and the ASN stands. -/
theorem ofsAcquire_of_far {o : Int} {s : State} (far : (s.rd TSU_SERVO_STEP_THR.NS : Int) < o.natAbs)
    (allowed : s.rd TSU_SERVO_CFG.STEP_EN = 1) (stands : s.rd MAC_STS.ASN_RUN = 0) :
    ofsAcquire o s = tsuMove (-o) (modTsu (fun x => { x with lockRun := 0 }) s) := by
  have free : (s.flag TSU_SERVO_CFG.STEP_EN && !asnRuns s) = true := by
    change (s.rd TSU_SERVO_CFG.STEP_EN != 0 && !(s.rd MAC_STS.ASN_RUN != 0)) = true
    rw [allowed, stands]
    rfl
  rw [ofsAcquire, if_pos far]
  exact if_pos free

/-- A far sample of source HOST in ACQUIRE is counted, noted and stepped away. -/
theorem exec_tsuServoExtOfsWrite_of_far {value : Word} {s : State} (t : Nat) (enabled : s.rd TSU_SERVO_CFG.EN = 1)
    (host : s.rd TSU_SERVO_CFG.SRC = 3) (acquire : s.rd TSU_SERVO_STS.STATE = 1) (allowed : s.rd TSU_SERVO_CFG.STEP_EN = 1)
    (stands : s.rd MAC_STS.ASN_RUN = 0) (far : (s.rd TSU_SERVO_STEP_THR.NS : Int) < (sgn 32 value.toNat).natAbs) :
    exec (.tsuServoExtOfsWrite value t) s = .next (tsuMove (-sgn 32 value.toNat)
      (modTsu (fun x => { x with lockRun := 0 }) (sampleNoted (sgn 32 value.toNat) ((s.at t).inc TSU_HOST_SAMPLES)))) := by
  have arm : exec (.tsuServoExtOfsWrite value t) s = execTsuServoExtOfsWrite value t s := rfl
  have counted {f : Fld} (other : (f.id == TSU_HOST_SAMPLES.id) = false) : ((s.at t).inc TSU_HOST_SAMPLES).rd f = s.rd f := by
    rw [State.inc_eq, State.rd_wr_ne _ _ other, State.rd_at]
  have source : servoFrom (s.at t) 3 = true := by simp [servoFrom, enabled, host]
  rw [arm, execTsuServoExtOfsWrite, if_pos source, servoOffset_of_acquire _ ((counted rfl).trans acquire), ofsAcquire_of_far]
  · rwa [rd_sampleNoted _ _ (by decide), counted rfl]
  · rw [rd_sampleNoted _ _ (by decide), counted rfl, allowed]
  · rw [rd_sampleNoted _ _ (by decide), counted rfl, stands]

/-- Settles O30: a command is `stepTaken` or `stepBad`, by `stepRefused_iff`; the servo's step is `tsuMove` by the sample, without the
command's BAD. -/
theorem timeStepsAreRefusedOrTaken : Obligations.TimeStepsAreRefusedOrTaken := by
  unfold Obligations.TimeStepsAreRefusedOrTaken
  intro value t s
  have refusal := stepBad_at_refuses s t
  have stepRun := exec_tsuStep false t s
  have bothRun := exec_tsuStep true t s
  rw [Bool.true_or, if_pos rfl] at bothRun
  have setRun := exec_tsuSet t s
  refine ⟨fun free => ?_, fun refused => ?_, ⟨_, bothRun, refusal⟩, fun enabled host acquire allowed stands far => ?_⟩
  · rw [← stepRefused_iff] at free
    rw [Bool.false_or, if_neg free] at stepRun
    rw [if_neg free] at setRun
    refine ⟨⟨_, stepRun, rc_stepTaken .., ?_, ?_, rd_stepTaken_bad ..⟩,
      _, setRun, rc_stepTaken .., tsuNs_stepTaken_sub .., ?_, rd_stepTaken_bad ..⟩
    · rw [tsuOfs_stepTaken, State.at_tsuOfs, Int.add_assoc]
    all_goals rw [rd_stepTaken_steps, State.rd_at]
  · rw [← stepRefused_iff] at refused
    rw [Bool.false_or, if_pos refused] at stepRun
    rw [if_pos refused] at setRun
    exact ⟨⟨_, stepRun, refusal⟩, _, setRun, refusal⟩
  · refine ⟨_, exec_tsuServoExtOfsWrite_of_far t enabled host acquire allowed stands far, ?_, ?_⟩
    · rw [tsuOfs_tsuMove, tsuOfs_modTsu, tsuOfs_sampleNoted, State.inc_eq, State.wr_tsuOfs, State.at_tsuOfs, Int.sub_eq_add_neg]
    · rw [rd_tsuMove_steps, rd_modTsu, rd_sampleNoted _ _ (by decide), State.inc_eq, State.rd_wr_ne _ _ rfl, State.rd_at]

end Sys2Proof.Machine
end

section
/-!
PROOF. Clearing fault latches (R409): a latch clears while its raw bit is 0, with its CLEAR entry, its count and FLT_CLEARS.
-/

namespace Sys2Proof.Machine

/-! A bit of a word, and of the latch words -/

/-- Clearing bit `k` leaves every other bit: below it `2 ^ k` adds nothing, above it nothing carries, since the bit is then clear. -/
theorem testBit_clrBit (w k j : Nat) : (clrBit w k).testBit j = (w.testBit j && j != k) := by
  unfold clrBit
  split
  next set =>
    obtain ⟨x, rfl⟩ := Nat.exists_eq_add_of_le (Nat.ge_two_pow_of_testBit set)
    have clear : x.testBit k = false := by simpa [Nat.testBit_two_pow_add_eq] using set
    rw [Nat.add_sub_cancel_left]
    obtain below | rfl | above := Nat.lt_trichotomy j k
    · simp [Nat.testBit_two_pow_add_gt below, below.ne]
    · simp [clear]
    · obtain ⟨i, rfl⟩ := Nat.exists_eq_add_of_lt above
      have even : x / 2 ^ k % 2 = 0 := by simpa [Nat.testBit_eq_decide_div_mod_eq] using clear
      have high : (2 ^ k + x) / 2 ^ (k + 1) = x / 2 ^ (k + 1) := by
        rw [Nat.pow_succ, ← Nat.div_div_eq_div_mul, ← Nat.div_div_eq_div_mul, Nat.add_div_left x (Nat.two_pow_pos k)]
        omega
      rw [show k + i + 1 = i + (k + 1) by omega, Nat.testBit_add, Nat.testBit_add, high]
      simp [show i + (k + 1) ≠ k by omega]
  next clear =>
    rcases eq_or_ne j k with rfl | other
    · simpa using clear
    · simp [other]

theorem latched_congr {s u : State} (words : ∀ i, u.rd (FLT_LATCH.B i) = s.rd (FLT_LATCH.B i)) (k : Nat) : latched u k = latched s k := by
  rw [latched, latched, words]

theorem rawSet_congr {s u : State} (words : ∀ i, u.rd (FLT_RAW.B i) = s.rd (FLT_RAW.B i)) (k : Nat) : rawSet u k = rawSet s k := by
  rw [rawSet, rawSet, words]

@[simp] theorem latched_at (s : State) (t k : Nat) : latched (s.at t) k = latched s k := latched_congr (fun _ => s.rd_at t _) k

@[simp] theorem rawSet_at (s : State) (t k : Nat) : rawSet (s.at t) k = rawSet s k := rawSet_congr (fun _ => s.rd_at t _) k

/-- The bit of source `src` in FLT_LATCH is clear, and nothing has followed it yet. -/
def latchOff (src : Nat) (s : State) : State := s.wr (FLT_LATCH.B (src / 32)) (clrBit (s.rd (FLT_LATCH.B (src / 32))) (src % 32))

/-- The 256 sources fill eight words of 32 latches, so that a bit of one is no bit of another. -/
theorem latched_latchOff {src k : Nat} (srcLt : src < 256) (kLt : k < 256) (s : State) :
    latched (latchOff src s) k = (latched s k && k != src) := by
  unfold latched latchOff
  by_cases word : k / 32 = src / 32
  · have width : (FLT_LATCH.B (src / 32)).width = 32 := rfl
    have place : (k % 32 != src % 32) = (k != src) := by
      rw [Bool.eq_iff_iff, bne_iff_ne, bne_iff_ne]
      omega
    rw [word, State.rd_wr_same, width, Nat.testBit_mod_two_pow, testBit_clrBit, place, decide_eq_true (Nat.mod_lt k (by decide)),
      Bool.true_and]
  · have other : (k != src) = true := bne_iff_ne.mpr fun same => word (congrArg (· / 32) same)
    have apart : k / 32 % 0x100000 ≠ src / 32 % 0x100000 := by omega
    rw [State.rd_wr_ix (f := FLT_LATCH.B (src / 32)) (g := FLT_LATCH.B (k / 32)) s _ rfl apart, other, Bool.and_true]

/-! An entry for the Moraine (R413, R417) -/

theorem FaultSrc.cls_lt (src : Nat) : FaultSrc.cls src < 4 := by
  unfold FaultSrc.cls
  split_ifs <;> decide

theorem morWord0_source (s : State) (src event react master access : Nat) : morWord0 s src event react master access % 2 ^ 8 = src % 256 := by
  unfold morWord0
  omega

theorem morWord0_event (s : State) (src event react master access : Nat) :
    morWord0 s src event react master access / 2 ^ 12 % 2 ^ 3 = event % 8 := by
  have few := FaultSrc.cls_lt src
  unfold morWord0
  omega

/-- R413: the entry of source `src` and event `event` waits last in the queue, or is counted as lost when 16 wait. -/
theorem morPush_entry (src event : Nat) (a : FaultAt) (s : State) :
    if s.flt.queue.length < 16 then
      ∃ e : MorEntry, (morPush src event a s).flt.queue = s.flt.queue ++ [e] ∧ e.w0 % 2 ^ 8 = src % 256 ∧ e.w0 / 2 ^ 12 % 2 ^ 3 = event % 8
    else (morPush src event a s).flt.queue = s.flt.queue ∧ (morPush src event a s).rd FLT_MOR_LOST = (s.rd FLT_MOR_LOST + 1) % 2 ^ 32 := by
  unfold morPush
  split
  · simp only [morSetQueue, State.put_eq, State.wr_flt]
    exact ⟨_, rfl, morWord0_source .., morWord0_event ..⟩
  · exact ⟨rfl, s.rd_wr_same FLT_MOR_LOST _⟩

/-! What follows a latch that clears -/

/-- The CLEAR entry is written, CNT is 0 and FLT_CLEARS counts (R409). -/
def clearRecorded (src : Nat) (s : State) : State := ((morPush src 1 {} s).wr (FLT_SRC_CFG.CNT src) 0).inc FLT_CLEARS

/-- FLT_SUM, ANY and FAULT_N follow the latches, and the escalation timer stops when no ESC latch remains (R408, R410, R414). -/
def latchSettle (s : State) : State :=
  if (latchView s).flag FLT_STS.ESC_RUN && !escLatched (latchView s) then ((latchView s).put FLT_STS.ESC_RUN false).wr FLT_ESC_STS.LEFT 0
  else latchView s

/-- What follows the latches, and nothing else, settles. -/
theorem rd_latchSettle {f : Fld} (s : State)
    (other : f.id ∉ [FLT_SUM.WORDS.id, FLT_STS.ANY.id, FLT_FAULTN.LOW.id, FLT_STS.ESC_RUN.id, FLT_ESC_STS.LEFT.id]) :
    (latchSettle s).rd f = s.rd f := by
  simp only [List.mem_cons, List.not_mem_nil, or_false, not_or] at other
  obtain ⟨notSum, notAny, notLow, notRun, notLeft⟩ := other
  have viewed : (latchView s).rd f = s.rd f := by
    rw [latchView, State.put_eq, State.rd_wr_ne _ _ (beq_false_of_ne notLow), State.put_eq, State.rd_wr_ne _ _ (beq_false_of_ne notAny),
      State.rd_wr_ne _ _ (beq_false_of_ne notSum)]
  unfold latchSettle
  split
  · rw [State.rd_wr_ne _ _ (beq_false_of_ne notLeft), State.put_eq, State.rd_wr_ne _ _ (beq_false_of_ne notRun), viewed]
  · exact viewed

theorem flt_latchSettle (s : State) : (latchSettle s).flt = s.flt := by
  have viewed : (latchView s).flt = s.flt := (latchView_keeps s (Nat.or_self _) .refl).flt rfl
  unfold latchSettle
  split
  · rw [State.wr_flt, State.put_eq, State.wr_flt, viewed]
  · exact viewed

theorem rd_clearRecorded_latch (src i : Nat) (s : State) : (clearRecorded src s).rd (FLT_LATCH.B i) = s.rd (FLT_LATCH.B i) := by
  rw [clearRecorded, State.inc_eq, State.rd_wr_ne _ _ rfl, State.rd_wr_ne _ _ rfl]
  exact (morPush_keeps src 1 {} s (Nat.or_self _) .refl).rd (FLT_LATCH.B i) (by simp) (show Nat.testBit _ (FLT_LATCH.B 0).id = false from rfl)

theorem flt_clearRecorded (src : Nat) (s : State) : (clearRecorded src s).flt = (morPush src 1 {} s).flt := by
  rw [clearRecorded, State.inc_eq, State.wr_flt, State.wr_flt]

/-- The state after the latch of source `src` has cleared. -/
def latchCleared (src : Nat) (s : State) : State := latchSettle (clearRecorded src (latchOff src s))

theorem latchClear_eq (src : Nat) (s : State) : latchClear src s = if latched s src && !rawSet s src then latchCleared src s else s := rfl

theorem latched_latchCleared {src k : Nat} (srcLt : src < 256) (kLt : k < 256) (s : State) :
    latched (latchCleared src s) k = (latched s k && k != src) := by
  rw [← latched_latchOff srcLt kLt s]
  exact latched_congr (fun i => (rd_latchSettle _ (by simp)).trans (rd_clearRecorded_latch src i _)) k

theorem rd_latchCleared_cnt (src : Nat) (s : State) : (latchCleared src s).rd (FLT_SRC_CFG.CNT src) = 0 := by
  rw [latchCleared, rd_latchSettle _ (by simp), clearRecorded, State.inc_eq, State.rd_wr_ne _ _ rfl, State.rd_wr_same, Nat.zero_mod]

theorem rd_latchCleared_clears (src : Nat) (s : State) : (latchCleared src s).rd FLT_CLEARS = (s.rd FLT_CLEARS + 1) % 2 ^ 32 := by
  have uncounted : (morPush src 1 {} (latchOff src s)).rd FLT_CLEARS = s.rd FLT_CLEARS :=
    ((morPush_keeps src 1 {} _ (Nat.or_self _) .refl).rd FLT_CLEARS (by simp) rfl).trans (s.rd_wr_ne _ rfl)
  rw [latchCleared, rd_latchSettle _ (by simp), clearRecorded, State.inc_eq, State.rd_wr_same, State.rd_wr_ne _ _ rfl, uncounted]
  rfl

theorem flt_latchCleared (src : Nat) (s : State) : (latchCleared src s).flt = (morPush src 1 {} (latchOff src s)).flt :=
  (flt_latchSettle _).trans (flt_clearRecorded src _)

theorem latchCleared_entry {src : Nat} (srcLt : src < 256) (s : State) :
    if s.flt.queue.length < 16 then
      ∃ e : MorEntry, (latchCleared src s).flt.queue = s.flt.queue ++ [e] ∧ e.w0 % 2 ^ 8 = src ∧ e.w0 / 2 ^ 12 % 2 ^ 3 = 1
    else (latchCleared src s).flt.queue = s.flt.queue ∧ (latchCleared src s).rd FLT_MOR_LOST = (s.rd FLT_MOR_LOST + 1) % 2 ^ 32 := by
  have lost : (latchCleared src s).rd FLT_MOR_LOST = (morPush src 1 {} (latchOff src s)).rd FLT_MOR_LOST := by
    rw [latchCleared, rd_latchSettle _ (by simp), clearRecorded, State.inc_eq, State.rd_wr_ne _ _ rfl, State.rd_wr_ne _ _ rfl]
  have entry := morPush_entry src 1 {} (latchOff src s)
  rwa [← flt_latchCleared, ← lost, latchOff, State.wr_flt, State.rd_wr_ne _ _ rfl, Nat.mod_eq_of_lt srcLt] at entry

/-! One latch, and every latch -/

theorem latchClear_of_ended {src : Nat} {s : State} (set : latched s src = true) (ended : rawSet s src = false) :
    latchClear src s = latchCleared src s := by
  rw [latchClear_eq, set, ended, Bool.not_false, Bool.and_true, if_pos rfl]

theorem latchClear_of_held {src : Nat} {s : State} (held : rawSet s src = true) : latchClear src s = s := by
  rw [latchClear_eq, held, Bool.not_true, Bool.and_false, if_neg Bool.false_ne_true]

theorem latchClear_of_clear {src : Nat} {s : State} (clear : latched s src = false) : latchClear src s = s := by
  rw [latchClear_eq, clear, Bool.false_and, if_neg Bool.false_ne_true]

theorem latched_latchClear {src k : Nat} (srcLt : src < 256) (kLt : k < 256) (s : State) :
    latched (latchClear src s) k = (latched s k && (rawSet s k || k != src)) := by
  rcases eq_or_ne k src with rfl | other
  · cases set : latched s k with
    | false => rw [latchClear_of_clear set, set, Bool.false_and]
    | true =>
      cases held : rawSet s k with
      | false => simp [latchClear_of_ended set held, latched_latchCleared srcLt kLt]
      | true => rw [latchClear_of_held held, set, Bool.true_or, Bool.and_true]
  · rw [latchClear_eq, bne_iff_ne.mpr other, Bool.or_true, Bool.and_true]
    split
    · rw [latched_latchCleared srcLt kLt, bne_iff_ne.mpr other, Bool.and_true]
    · rfl

theorem rawSet_latchClear (src k : Nat) (s : State) : rawSet (latchClear src s) k = rawSet s k :=
  rawSet_congr (fun i => (latchClear_keeps src s (Nat.or_self _) .refl).rd (FLT_RAW.B i) (by simp)
    (show Nat.testBit _ (FLT_RAW.B 0).id = false from rfl)) k

/-- Of the sources of a list, those stay latched whose raw bit is 1: no clear of another source changes a latch or a raw bit. -/
theorem latched_each_latchClear {l : List Nat} (allLt : ∀ src ∈ l, src < 256) {k : Nat} (kLt : k < 256) (s : State) :
    latched (s.each l latchClear) k = (latched s k && (rawSet s k || !l.contains k)) := by
  induction l generalizing s with
  | nil => simp
  | cons src l ih =>
    obtain ⟨first, rest⟩ := List.forall_mem_cons.mp allLt
    rw [State.each_cons, ih rest, latched_latchClear first kLt, rawSet_latchClear, List.contains_cons, Bool.not_or, Bool.and_assoc,
      ← Bool.or_and_distrib_left]
    rfl

theorem exec_fltLatchClear (src : Fin 256) (a : FaultAt) (t : Nat) (s : State) :
    exec (.fltLatchClear src false a t) s = .next (latchClear src (s.at t)) := rfl

theorem exec_fltClearAll (t : Nat) (s : State) : exec (.fltClearAll t) s = .next ((s.at t).each (List.range 256) latchClear) := rfl

/-- Settles O23: a latch that clears is `latchCleared`; ALL is `latchClear` of every source in turn, by `latched_each_latchClear`. -/
theorem latchesClearAfterTheirCondition : Obligations.LatchesClearAfterTheirCondition := by
  unfold Obligations.LatchesClearAfterTheirCondition
  intro src a t s
  have run := exec_fltLatchClear src a t s
  refine ⟨fun set ended => ?_, fun held => ?_, ⟨_, exec_fltClearAll t s, fun k => ?_⟩⟩
  · rw [latchClear_of_ended ((latched_at ..).trans set) ((rawSet_at ..).trans ended)] at run
    have cleared : latched (latchCleared src (s.at t)) src = false := by simp [latched_latchCleared src.isLt src.isLt]
    have entry := latchCleared_entry src.isLt (s.at t)
    have clears := rd_latchCleared_clears src (s.at t)
    rw [State.rd_at] at entry clears
    rw [State.at_flt] at entry
    refine ⟨_, run, cleared, fun k other => ?_, rd_latchCleared_cnt .., clears, entry, ?_⟩
    · simp [latched_latchCleared src.isLt k.isLt, Fin.val_ne_of_ne other]
    · rintro rfl
      exact cleared
  · rw [run, latchClear_of_held ((rawSet_at ..).trans held)]
  · rw [latched_each_latchClear (fun _ => List.mem_range.mp) k.isLt, latched_at, rawSet_at]
    simp

end Sys2Proof.Machine
end
